-- ==== Sys2Proof/Word.lean ====
section
/-!
DEFINITION. The word and byte types of the machine (R2, R4: registers are 32 bits wide; memory is bytes).
-/

namespace Sys2Proof

/-- A register's contents: 32 bits. -/
abbrev Word := BitVec 32

/-- A byte of memory. -/
abbrev Byte := BitVec 8

end Sys2Proof
end

