-- ==== Sys2Proof/Syntax.lean ====
section
/-!
DEFINITION. The syntax of the commands: Instr has one constructor per row of spec/opcode_table.json, with the
operands the row's rules give it. An operand that names one of a fixed number of like things (a PWM unit, a loop pair,
a comparator) is a Fin, so that no command can name one the hardware does not have; a quantity that only the outside
world fixes (a measured value, a pin's level) is an operand of the event it belongs to.
-/

namespace Sys2Proof

/-- Who sends a register access (R516, R89, R629, R638; Table SCOPE-4 applies to each): the two Hokuon pairs, the host
SPI, Courier through the COURH port, the Docent port. -/
inductive Initiator where
  | hpa | hpb | hspi | courier | docent
  deriving DecidableEq, Repr

/-- The two references of the PLL (R53, R56). -/
inductive RefSel where
  | xin | sync
  deriving DecidableEq, Repr

/-- What brings a Courier message: the host SPI, the powerline, the Docent service channel (R599, R640, R634). -/
inductive Carrier where
  | host | plc | doc
  deriving DecidableEq, Repr

/-- The header of a Courier request as it reached the device (Table COU-3): its carrier, FLAGS.AUTH, TXID, SRC and DST. Its TYPE is
the command's, its LEN the payload's. -/
structure MsgHdr where
  car : Carrier
  auth : Bool
  txid : BitVec 32
  src : BitVec 16
  dst : BitVec 16
  deriving DecidableEq, Repr

/-- The commands: one constructor per row of spec/opcode_table.json, in its order. -/
inductive Instr where
  /-- REGISTER_WRITE (R6): A write to a register that has no row of its own reaches its block and goes to a shadow, the field or is refused, under the class and ADJUST rules. -/
  | registerWrite (i : Initiator) (addr : BitVec 32) (v : Word)
  /-- IMG_SELECT_WRITE (R49): A keyed write to SYS_IMG_SELECT selects a slot for the next image-reloading reset or sets SEL_REJECT. -/
  | imgSelectWrite (i : Initiator) (v : Word)
  /-- IMG_CONFIRM_WRITE (R51): A write of 0x0000_C0F1 to SYS_IMG_CONFIRM advances the image anti-rollback counter to the active image's version. -/
  | imgConfirmWrite (i : Initiator) (v : Word)
  /-- REF_PRESENCE_CHANGE (R57): XIN_OK or SYNC_OK sets after 64 good cycles or clears after 3 missing cycles. -/
  | refPresenceChange (ref : RefSel) (present : Bool) (offset : Word)
  /-- PLL_LOCK_ACQUIRE (R60): LOCK becomes 1 after 256 consecutive comparisons within 1 ns. -/
  | pllLockAcquire
  /-- PLL_LOCK_LOSS (R60): LOCK becomes 0 after 4 comparisons beyond 5 ns, the VCO coasts and LOCK_LOST is set. -/
  | pllLockLoss
  /-- PLL_UNMUTE (R61): After LOCK has held for 20 µs the outputs unmute and every divider starts at phase 0. -/
  | pllUnmute
  /-- PLL_START_TIMEOUT (R63): XIN_OK missing after 10 ms or LOCK missing after 1 ms holds the device in reset and reports CLOCK_FAIL. -/
  | pllStartTimeout
  /-- PLL_START_RETRY (R63): Every 100 ms a device held for clock failure retries the PLL start. -/
  | pllStartRetry
  /-- DIVSYNC_ARM (R65): A write of 1 to DIVSYNC_ARM arms a divider reset on SYNC_IN marks or is refused with CFG_REJECT. -/
  | divsyncArm (i : Initiator)
  /-- SYNC_MARK (R69): A suppressed rising edge on SYNC_IN is detected as a mark and its spacing is checked. -/
  | syncMark (spacing : Nat) (off : Nat)
  /-- MARK_MISSING (R70): When 10,000 reference cycles pass without a mark, MISS_CNT increments. -/
  | markMissing
  /-- CLK_N_WRITE (R72): A write to CLK_N is refused if out of range or more than 1 from the value in force, and is otherwise shadowed with N_PENDING set. -/
  | clkNWrite (i : Initiator) (v : Word)
  /-- CLK_N_TRANSFER (R71): A pending N transfers at the first comparison at least 50 µs after the previous change. -/
  | clkNTransfer
  /-- REF_LOSS (R74): Three consecutive missing reference edges mark the reference lost and start coasting. -/
  | refLoss
  /-- COAST_LIMIT (R77): After 1 s of continuous coasting COAST_LIMIT sets and PLL_COAST_LIMIT is raised. -/
  | coastLimit
  /-- REF_RESTORE (R79): After 1,024 good edges the reference counts as restored and the loop is released. -/
  | refRestore
  /-- REF_SEL_WRITE (R81): A write of REF_SEL changes the PLL reference, loads the nominal N and clears DIV_ALIGNED. -/
  | refSelWrite (i : Initiator) (sel : RefSel)
  /-- EPOCH_LOAD (R97): A write of 1 to EPOCH_CTRL.LOAD requests that every Epoch copy be loaded, or is refused while the block runs. -/
  | epochLoad (i : Initiator)
  /-- EPOCH_LOAD_APPLY (R97): At one common edge within 400 ticks every copy takes the load value and LOAD clears. -/
  | epochLoadApply
  /-- EPOCH_MARK_ARM (R98): A write of 1 to MARK_ARM arms mark alignment in SYNC mode or sets CFG_REJECT. -/
  | epochMarkArm (i : Initiator)
  /-- EPOCH_RTC_CAP (R106): A write of 1 to RTC_CAP arms a capture at the next Plinth clock edge. -/
  | epochRtcCap (i : Initiator)
  /-- EPOCH_RTC_CAPTURE_EDGE (R106): At the next Plinth edge the Epoch value and Plinth count are captured. -/
  | epochRtcCaptureEdge
  /-- EPOCH_RATE_WRITE (R100): A write to EPOCH_RATE is shadowed or refused if out of range or in SYNC mode. -/
  | epochRateWrite (i : Initiator) (v : Word)
  /-- EPOCH_SLEW_WRITE (R101): A write to EPOCH_SLEW replaces the pending step count or is refused in SYNC mode. -/
  | epochSlewWrite (i : Initiator) (v : Word)
  /-- EPOCH_SLEW_SLOT (R99): At each Epoch multiple of 1,024, rate and slew transfer and at most one advance or retard step acts in every island. -/
  | epochSlewSlot
  /-- EPOCH_NOW_READ (R88): A read of EPOCH_NOW_LO latches the upper word into EPOCH_NOW_HI. -/
  | epochNowRead (i : Initiator)
  /-- EPOCH_BAR_READ (R92): A read of EPOCH_BAR returns and clears SKEW_MAX. -/
  | epochBarRead (i : Initiator)
  /-- BARRIER_CALIBRATION (R91): After the barrier link trains, 1,024 round trips set the grid-die copies and BAR_CAL_DONE. -/
  | barrierCalibration (delay : Nat)
  /-- BARRIER_REMEASURE (R92): Every 65,536 ticks the barrier is remeasured, the fine phase moves one step and excess skew raises EPOCH_BARRIER_SKEW. -/
  | barrierRemeasure (err : Int)
  /-- ISLAND_SKEW_CHECK (R94): Every 65,536 ticks each island copy is compared and a 2-tick difference raises EPOCH_ISLAND_SKEW. -/
  | islandSkewCheck (diff : Nat)
  /-- SCHED_ARM (R104): An ARM write arms a SCHED entry with enough lead, or sets LATE or CFG_REJECT. -/
  | schedArm (i : Initiator) (e : Fin 32)
  /-- SCHED_DISARM (R105): A DISARM write returns an armed entry to IDLE, or lets the action launch if written too late. -/
  | schedDisarm (i : Initiator) (e : Fin 32)
  /-- SCHED_NONE (R103): A NONE entry reaches its tick and acts as a marker or timer. -/
  | schedNone (e : Fin 32)
  /-- SCHED_WINDOW (R103): A WINDOW entry reaches its tick and triggers every window group that names it. -/
  | schedWindow (e : Fin 32)
  /-- SCHED_PWM_START (R103): A PWM_START entry reaches its tick and starts the units named. -/
  | schedPwmStart (e : Fin 32)
  /-- SCHED_PWM_STOP (R103): A PWM_STOP entry reaches its tick and stops the units named. -/
  | schedPwmStop (e : Fin 32)
  /-- SCHED_PWM_COMMIT (R103): A PWM_COMMIT entry reaches its tick and issues an untargeted commit to the units named. -/
  | schedPwmCommit (e : Fin 32)
  /-- SCHED_METER_LATCH (R103): A METER_LATCH entry reaches its tick and requests an additional metering latch. -/
  | schedMeterLatch (e : Fin 32)
  /-- SCHED_RELAY_CMD (R103): A RELAY_CMD entry reaches its tick and passes an open or close command to the relay sequencer. -/
  | schedRelayCmd (e : Fin 32)
  /-- SCHED_MAINT_START (R103): A MAINT_START entry reaches its tick and submits an activity request to the maintenance arbiter. -/
  | schedMaintStart (e : Fin 32)
  /-- SCHED_GPIO_SET (R103): A GPIO_SET entry reaches its tick and drives the named GPIO outputs. -/
  | schedGpioSet (e : Fin 32)
  /-- SCHED_IRQ (R103): An IRQ entry reaches its tick and raises the SCHED interrupt of the named core pairs. -/
  | schedIrq (e : Fin 32)
  /-- SCHED_STREAM_MARK (R103): A STREAM_MARK entry reaches its tick and tags the stream samples of the named channels. -/
  | schedStreamMark (e : Fin 32)
  /-- WINDOW_OPEN (R122): At O = E + DELAY every member channel's window opens. -/
  | windowOpen (g : Fin 4)
  /-- WINDOW_CLOSE (R123): At the close tick C the member windows close and their codes and flags are formed. -/
  | windowClose (g : Fin 4) (bits : List Nat)
  /-- WINDOW_DELIVER (R130): Within 120 ticks of C the channel records and then the group record are written to each destination. -/
  | windowDeliver (g : Fin 4)
  /-- WG_ENABLE (R127): A write of EN = 1 enables a window group from the tick it arrives, or is refused with CFG_REJECT. -/
  | wgEnable (i : Initiator) (g : Fin 4)
  /-- WG_DISABLE (R129): A write of EN = 0 stops new triggers while open windows run to delivery. -/
  | wgDisable (i : Initiator) (g : Fin 4)
  /-- STREAM_SAMPLE (R137): A stream sample instant is reached and the sample code and flags are formed. -/
  | streamSample (k : Fin 26) (bits : Nat)
  /-- STREAM_RING_WRITE (R142): Within 160 ticks of the instant the entry is written to the ring and RING_WR advances. -/
  | streamRingWrite (k : Fin 26)
  /-- RING_ENABLE (R141): A write of ring EN = 1 enables a channel's ring or is refused with CFG_REJECT. -/
  | ringEnable (i : Initiator) (k : Fin 26)
  /-- RING_DISABLE (R141): A write of ring EN = 0 stops a channel's ring. -/
  | ringDisable (i : Initiator) (k : Fin 26)
  /-- LC_ANNOUNCE_RECEIVE (R146): The announcement of the next cycle boundary reaches a sensing island and is kept, or discarded as late with LC_LATE. -/
  | lcAnnounceReceive (grid : Bool)
  /-- LC_CYCLE_END (R147): At an announced boundary each running channel closes its line-cycle integral. -/
  | lcCycleEnd (grid : Bool) (bits : List Nat)
  /-- LC_RECORD_DELIVER (R149): Within 120 ticks of the boundary the line-cycle records are delivered. -/
  | lcRecordDeliver (grid : Bool)
  /-- MOD_OVERLOAD_TRIP (R150): A modulator input passes its detection level, its integrators reset and the overload is reported. -/
  | modOverloadTrip (k : Fin 26) (positive : Bool)
  /-- MOD_OVERLOAD_RELEASE (R150): 80 ticks after the last trip the integrators are released and the overload ends. -/
  | modOverloadRelease (k : Fin 26)
  /-- MONITOR_DWELL_END (R154): At the end of a 64 µs dwell the monitor value is written and the scan moves on. -/
  | monitorDwellEnd (value : BitVec 16)
  /-- GRD_TEMP_SAMPLE (R155): Every 1 ms the GRD die temperature is measured into SENSG_DIE_TEMP. -/
  | grdTempSample (value : BitVec 16)
  /-- SENS_CAL_STAGE (R157): A timed stage of side calibration begins: settle, zero, or reference levels. -/
  | sensCalStage (grid : Bool)
  /-- SENS_CAL_COMPLETE (R158): At 1.8 ms the calibration factors are stored, CAL_VALID is set or CAL_FAIL raised, and the activity ends. -/
  | sensCalComplete (grid : Bool) (sums : List (Int × Int × Int))
  /-- CH_RANGE_WRITE (R160): A RANGE write changes a channel's range and clears its CAL_VALID, or is refused. -/
  | chRangeWrite (i : Initiator) (k : Fin 26) (v : Word)
  /-- WC_CROSSING (R170): A comparator input crosses a threshold, the latch sets and the fault groups are held. -/
  | wcCrossing (c : Fin 24) (input : Rat)
  /-- WC_THR_WRITE (R169): A WC_THR write sets new LO and HI together or is refused. -/
  | wcThrWrite (i : Initiator) (c : Fin 24) (v : Word)
  /-- WC_THR_APPLY (R169): At the next comparison after arrival the new thresholds govern tripping and readiness. -/
  | wcThrApply (c : Fin 24) (input : Rat)
  /-- WC_SOFTWARE_CLEAR (R174): A write of 1 to WCMPx_CLEAR requests a clear of a tripped comparator or sets CLR_REFUSED. -/
  | wcSoftwareClear (i : Initiator) (grid : Bool) (v : Word)
  /-- WC_CLEAR_DECISION (R175): The first comparison after a clear request releases the latch if the comparator is ready, otherwise the clear fails. -/
  | wcClearDecision (c : Fin 24) (input : Rat)
  /-- WC_PENDING_READY (R178): The 16th consecutive inside comparison makes a TRIP_PENDING comparator READY. -/
  | wcPendingReady (c : Fin 24) (input : Rat)
  /-- WCMP_TEST_STEP (R180): A timed step of the comparator self-test sequence acts and checks its outputs. -/
  | wcmpTestStep (hi lo : Bool)
  /-- LOOP_EXEC_START (R191): A loop pair starts an execution on a trigger group record or a held one. -/
  | loopExecStart (p : Fin 6)
  /-- LOOP_COMMIT (R193): The execution ends with one commit of PWM values, state, probe and loan out. -/
  | loopCommit (p : Fin 6) (cycles : Nat)
  /-- LOOP_ABANDON (R199): An execution not committed at its deadline is abandoned and counted as an overrun. -/
  | loopAbandon (p : Fin 6)
  /-- LOOP_LOCKSTEP_MISMATCH (R186): Main and checker outputs differ, the pair halts and LOOP_LOCKSTEP is raised. -/
  | loopLockstepMismatch (p : Fin 6)
  /-- LOOP_TCM_ECC_ERROR (R187): An uncorrectable TCM word halts the pair and raises LOOP_TCM_ECC. -/
  | loopTcmEccError (p : Fin 6) (double : Bool)
  /-- LOOP_ENABLE (R211): An HPA write of EN = 1 loads initial state and awaits a trigger, or is refused. -/
  | loopEnable (i : Initiator) (p : Fin 6)
  /-- LOOP_DISABLE (R212): A write of EN = 0 lets the running execution finish and makes the pair IDLE. -/
  | loopDisable (i : Initiator) (p : Fin 6)
  /-- LOOP_CLR_MAX (R216): A write of 1 to CLR_MAX clears MAX of LP_CYCLES and MIN of LP_SLACK. -/
  | loopClrMax (i : Initiator) (p : Fin 6)
  /-- TCM_WRITE (R188): A write into a loop-pair TCM window reaches both copies or is refused outside writable areas. -/
  | tcmWrite (i : Initiator) (p : Fin 6) (word : Fin 16384) (v : Word)
  /-- PWM_PERIOD_BOUNDARY (R268): A unit's counter reaches 0, a period begins and any committed values transfer. -/
  | pwmPeriodBoundary (u : Fin 14)
  /-- PWM_EDGE_ISSUE (R274): At a counter tick where a level changes the unit issues timestamped edge messages. -/
  | pwmEdgeIssue (u : Fin 14)
  /-- PWM_START (R290): A write to PWM_START starts units with counters at PHASE, or is refused. -/
  | pwmStart (i : Initiator) (v : Word)
  /-- PWM_STOP (R289): A write to PWM_STOP halts units, discards pending commits and issues off-edges. -/
  | pwmStop (i : Initiator) (v : Word)
  /-- PWM_COMMIT (R277): A write to PWM_COMMIT arms a transfer at the next boundary far enough ahead. -/
  | pwmCommit (i : Initiator) (v : Word)
  /-- PWM_FORCE_WRITE (R297): An HPA write to PWM_FORCE under a COMMISSION permit forces lane-unit levels, or is refused. -/
  | pwmForceWrite (i : Initiator) (u : Fin 14) (v : Word)
  /-- PWM_CNT_CLR (R286): A write of 1 to CNT_CLR clears DROP_CNT and STRETCH_CNT. -/
  | pwmCntClr (i : Initiator) (u : Fin 14)
  /-- HB_EDGE_RECEIVE (R308): An edge message reaches the PAD queue and is queued or treated as late. -/
  | hbEdgeReceive (h : Fin 8)
  /-- HB_EDGE_EXECUTE (R303): A pending half-bridge edge executes at its tick under dead time and cancellation rules. -/
  | hbEdgeExecute (h : Fin 8)
  /-- HB_LINK_CRC_ERROR (R309): An internal lane message failing its CRC turns every half-bridge off and raises DRV_LINK. -/
  | hbLinkCrcError (h : Fin 8)
  /-- HB_KEEPALIVE (R309): A keepalive message on the internal lane restarts the link timeout. -/
  | hbKeepalive
  /-- HB_KEEPALIVE_TIMEOUT (R309): No keepalive for 2,400 ticks marks the link lost and raises DRV_LINK. -/
  | hbKeepaliveTimeout
  /-- HB_PERIOD_MARKER (R313): A period-start marker updates HI_RUN and may start a bootstrap refresh. -/
  | hbPeriodMarker (h : Fin 8)
  /-- VDRV_LOCKOUT (R311): VDRV below its falling threshold for 250 ns turns all half-bridges off. -/
  | vdrvLockout
  /-- VDRV_LOCKOUT_END (R312): VDRV above its rising threshold for 16,000 ticks ends the lock-out. -/
  | vdrvLockoutEnd
  /-- LANE_EDGE_RECEIVE (R326): An edge message reaches the lane transmitter, gets dead time applied or triggers the interlock. -/
  | laneEdgeReceive (l : Fin 6)
  /-- LANE_EDGE_SEND (R327): The transmitter begins an EDGE at the earliest label the line allows, or treats it as late. -/
  | laneEdgeSend (l : Fin 6)
  /-- LANE_HEARTBEAT_DUE (R328): A heartbeat falls due at a label multiple of 800, replacing one not started. -/
  | laneHeartbeatDue (l : Fin 6)
  /-- LANE_HEARTBEAT_SEND (R328): A due heartbeat starts once no edge or boundary is near. -/
  | laneHeartbeatSend (l : Fin 6)
  /-- LANE_HEARTBEAT_FORCED (R329): A heartbeat that has waited 1,200 ticks starts regardless. -/
  | laneHeartbeatForced (l : Fin 6)
  /-- LANE_STATUS_RECEIVE (R336): A driver STATUS is received and compared with the commanded levels and fault bits. The bits are the
  13 of R324, the STATUS byte above its CRC-5; the last chip arrives in this tick. -/
  | laneStatusReceive (l : Fin 6) (bits : BitVec 13)
  /-- LANE_STATUS_MISSING (R324): A response slot ends without a valid STATUS and counts as missing. -/
  | laneStatusMissing (l : Fin 6)
  /-- LANE_TRIP_END (R330): A TRIP completes and the lane returns to FILL or goes OFF or QUIET. -/
  | laneTripEnd (l : Fin 6)
  /-- LANE_ENABLE (R334): An HPA write of EN = 1 makes a lane ACTIVE or is refused. -/
  | laneEnable (i : Initiator) (l : Fin 6)
  /-- LANE_DISABLE (R334): An HPA write of EN = 0 sends one TRIP and turns the lane OFF, or is refused. -/
  | laneDisable (i : Initiator) (l : Fin 6)
  /-- GRID_EVALUATION (R344): After each grid-pair commit the GRID block evaluates its rules and writes slots 248-255. -/
  | gridEvaluation
  /-- GRID_CYCLE_BOUNDARY (R346): At each announced boundary the next boundary is computed and announced. -/
  | gridCycleBoundary
  /-- GRID_FORMING_WRITE (R367): An HPA write of GRID_MODE.FORMING requests forming operation or is refused. -/
  | gridFormingWrite (i : Initiator) (v : Word)
  /-- PROBE_START (R386): An islanding probe starts, on a trigger or at a periodic Epoch multiple. -/
  | probeStart
  /-- PROBE_END (R388): A probe ends after CONFIRM_TIME without confirmation, clearing the pending indication. -/
  | probeEnd
  /-- RELAY_CHECK_STEP (R393): A timed relay-check step ends and its contact and VKX requirements are checked. -/
  | relayCheckStep
  /-- RELAY_CLOSE_REQUEST (R396): A write of 1 to GRID_RT_CTRL.CLOSE starts the close sequence or is refused. -/
  | relayCloseRequest (i : Initiator)
  /-- RELAY_CLOSE_STEP (R396): A timed step of the close sequence energises, reduces hold or checks the contacts. -/
  | relayCloseStep
  /-- GRID_OPEN_REQUEST (R399): A write of 1 to GRID_RT_CTRL.OPEN trips with cause HOST. -/
  | gridOpenRequest (i : Initiator)
  /-- RELAY_OPENING_CHECK (R399): At the end of release time the contacts are checked open, or WELD enters LOCKOUT. -/
  | relayOpeningCheck
  /-- RELAY_FB_LOST (R399): A feedback reading open for 20 ms while connected trips with cause RELAY. -/
  | relayFbLost
  /-- RECONNECT_READY (R400): The reconnection timer reaches DELAY plus the draw and RC_READY sets. -/
  | reconnectReady
  /-- AUTO_CHECK_REQUEST (R400): In AUTO, the block requests RELAY_CHECK, repeating every second after a refusal. -/
  | autoCheckRequest
  /-- AUTO_PWM_START (R402): In AUTO the grid units start at the chosen PERIOD multiple after connection. -/
  | autoPwmStart
  /-- METER_ENABLE (R412): An HPA write of METER_CTRL.EN = 1 claims the rings and starts metering, or is refused. -/
  | meterEnable (i : Initiator)
  /-- METER_DISABLE (R414): A write of EN = 0 stops metering at the end of the current cycle. -/
  | meterDisable (i : Initiator)
  /-- METER_CYCLE_PROCESS (R415): SP processes a complete cycle's samples into sums, corrections and energies. -/
  | meterCycleProcess (bad : Nat)
  /-- VAULT_SCAN (R431): At PD6 power-up both Vault rings are scanned and VAULT_READY sets. -/
  | vaultScan
  /-- METER_DELTA_READ (R424): A read of a METER_DELTA register returns and clears it. -/
  | meterDeltaRead (i : Initiator) (q p : Fin 4)
  /-- METER_TOT_READ (R423): A read of METER_TOT_LO latches METER_TOT_HI. -/
  | meterTotRead (i : Initiator) (q p : Fin 4)
  /-- SP_LOCKSTEP_MISMATCH (R439): SE0 and SE1 disagree and SP_LOCKSTEP is raised. -/
  | spLockstepMismatch
  /-- ARC_ENABLE (R441): An HPA write of an arc EN bit claims the input's ring and starts detection, or is refused. -/
  | arcEnable (i : Initiator) (x : Fin 4)
  /-- ARC_DISABLE (R442): A write of an arc EN bit to 0 releases the ring. -/
  | arcDisable (i : Initiator) (x : Fin 4)
  /-- ARC_FRAME_EVALUATE (R443): SP evaluates a complete arc frame into band energies and judges it. -/
  | arcFrameEvaluate (x : Fin 4)
  /-- IV_TRACE_POINT (R450): An I-V trace point begins; the previous point's entry is written and slot 247 steps. -/
  | ivTracePoint (x : Fin 4)
  /-- IV_TRACE_END (R450): After 512 points the trace ends and the slots return to 0.0. -/
  | ivTraceEnd (x : Fin 4)
  /-- ISO_CHECK_STEP (R451): A timed step of the insulation check switches R_BIAS or accumulates a voltage. -/
  | isoCheckStep (sum : Int)
  /-- REQUEST_SENS_CAL_P (R456): A request for SENS_CAL_P is granted or refused with BUSY. -/
  | requestSensCalP (i : Initiator)
  /-- REQUEST_SENS_CAL_G (R456): A request for SENS_CAL_G is granted or refused with BUSY. -/
  | requestSensCalG (i : Initiator)
  /-- REQUEST_WCMP_TEST (R456): A request for WCMP_TEST is granted or refused with BUSY. -/
  | requestWcmpTest (i : Initiator)
  /-- REQUEST_IV_TRACE (R456): A request for IV_TRACEx is granted or refused with BUSY. -/
  | requestIvTrace (i : Initiator) (x : Fin 4)
  /-- REQUEST_ISO_CHECK (R456): A request for ISO_CHECK is granted or refused with BUSY. -/
  | requestIsoCheck (i : Initiator)
  /-- REQUEST_RELAY_CHECK (R456): A request for RELAY_CHECK is granted or refused with BUSY. -/
  | requestRelayCheck (i : Initiator)
  /-- REQUEST_MRAM_PROGRAM (R456): A staging path's request for MRAM_PROGRAM is granted or refused with BUSY. -/
  | requestMramProgram (from_ : Option Initiator)
  /-- REQUEST_VAULT_COMPACT (R456): A request for VAULT_COMPACT is granted or refused with BUSY. -/
  | requestVaultCompact (i : Initiator)
  /-- REQUEST_BIST_PERIODIC (R456): An HPA request for BIST_PERIODIC is granted or refused with BUSY. -/
  | requestBistPeriodic (i : Initiator)
  /-- BIST_PERIODIC_DUE (R456): At every Epoch multiple of 40,000,000 ticks the device requests BIST_PERIODIC. -/
  | bistPeriodicDue
  /-- BIST_PERIODIC_END (R460): A BIST run completes, setting BIST_FAIL and raising DIAG_BIST_FAIL on a fault. -/
  | bistPeriodicEnd (fault : Bool)
  /-- VAULT_COMPACT_END (R437): Compaction completes with a CHECKPOINT record and releases the write path. -/
  | vaultCompactEnd (bad bad2 : Nat)
  /-- MRAM_PROGRAM_END (R47): A staging write completes and STAGED_VALID sets if the image validates. -/
  | mramProgramEnd
  /-- MAINT_ABORT (R459): A write of 1 to DIAG_MAINT_ABORT ends an activity at its next safe point. -/
  | maintAbort (i : Initiator) (v : Word)
  /-- CURATOR_RAISE (R463): A raised source reaches the Curator, which sets its sticky bit and applies the severity's reaction. -/
  | curatorRaise (more : Nat)
  /-- CUR_SEV_WRITE (R467): A CUR_SEV write changes a source severity or is refused. -/
  | curSevWrite (i : Initiator) (k : Fin 48) (v : Word)
  /-- CUR_UNFENCE (R474): A keyed HPA write to CUR_UNFENCE ends a unit, input or group fence, or is refused. -/
  | curUnfence (i : Initiator) (v : Word)
  /-- CUR_INJECT_RAISE (R480): A CUR_INJECT write with MODE 1 raises a source as if its block had. -/
  | curInjectRaise (i : Initiator) (src : Byte)
  /-- CUR_INJECT_CORRUPT (R480): A CUR_INJECT write with MODE 2 corrupts one copy of a severity byte. -/
  | curInjectCorrupt (i : Initiator) (copy : Fin 4) (src : Byte)
  /-- CURATOR_COPY_MISMATCH (R478): A differing Curator copy is rewritten from the majority and CURATOR_VOTE is raised. -/
  | curatorCopyMismatch
  /-- PWM_CHECK_MISMATCH (R469): A unit's checker disagrees with its levels and PWM_CHECK is raised. -/
  | pwmCheckMismatch (u : Fin 14)
  /-- DRV_GATE_CHECK (R469): The gate monitor checks HO and LO against the executed level and raises DRV_GATE on a new mismatch. -/
  | drvGateCheck (h : Fin 8) (ho lo : Bool)
  /-- ECC_UNCORRECTABLE (R521): An uncorrectable SRAM or MRAM word faults the reader and raises SRAM_ECC or MRAM_ECC. -/
  | eccUncorrectable (mram : Bool) (addr : Nat) (reader : Initiator)
  /-- SCRUB_PASS (R524): The scrubber completes a pass over system SRAM, correcting words and setting SCRUB_PASS. -/
  | scrubPass (mram : Bool) (found : Nat)
  /-- BARRIER_LINK_ERROR (R469): The barrier link loses alignment or exceeds its error count and BARRIER_LINK is raised. -/
  | barrierLinkError
  /-- RAIL_OUT_OF_WINDOW (R538): A rail outside its window for more than 1 µs raises PWR_SUPPLY. -/
  | railOutOfWindow (rail : Fin 4) (back : Bool)
  /-- WARDEN_INPUT_CHANGE (R486): A Warden channel's raw level changes and its filter count starts or restarts. -/
  | wardenInputChange (i : Fin 3) (b level : Bool)
  /-- WARDEN_FILTER_EXPIRE (R486): A raw level held for FILTER becomes the channel's filtered level. -/
  | wardenFilterExpire (i : Fin 3) (b : Bool)
  /-- WARDEN_DISCREPANCY (R490): Inconsistent channels for DISCREP ms raise WARDEN_FAULT. -/
  | wardenDiscrepancy (i : Fin 3)
  /-- TEST_PULSE_START (R487): A test output goes low for 300 µs and opens a window on its channels. -/
  | testPulseStart (b : Bool)
  /-- TEST_PULSE_CHECK (R488): At s + 160,000 each tested channel is checked low, or a test-pulse fault is recorded. -/
  | testPulseCheck (b : Bool)
  /-- TEST_PULSE_END (R487): At s + 320,000 the pulse window closes and held levels resume. -/
  | testPulseEnd (b : Bool)
  /-- WARDEN_RESET (R495): A keyed HPA write to WARDEN_RESET clears REACTION or sets RESET_REFUSED. -/
  | wardenReset (i : Initiator) (v : Word)
  /-- WARDEN_PERMIT_REQUEST (R500): A keyed WARDEN_PERMIT write with REQ = 1 grants the COMMISSION permit or sets PERMIT_REFUSED. -/
  | wardenPermitRequest (i : Initiator) (time : BitVec 10)
  /-- WARDEN_PERMIT_END (R501): A keyed WARDEN_PERMIT write with END = 1 ends the permit and returns FORCE to 0. -/
  | wardenPermitEnd (i : Initiator) (time : BitVec 10)
  /-- WARDEN_PERMIT_EXPIRE (R501): The permit's TIME expires and the permit ends. -/
  | wardenPermitExpire
  /-- HOKUON_INSTRUCTION (R508): A Hokuon core executes a base-ISA instruction, raising illegal-instruction or access faults where due. -/
  | hokuonInstruction (q : Fin 2)
  /-- HQ_SADD (R512): hq.sadd writes the saturated sum. -/
  | hqSadd (q : Fin 2) (rd rs1 rs2 : Fin 32)
  /-- HQ_SSUB (R512): hq.ssub writes the saturated difference. -/
  | hqSsub (q : Fin 2) (rd rs1 rs2 : Fin 32)
  /-- HQ_SABS (R512): hq.sabs writes the saturated absolute value. -/
  | hqSabs (q : Fin 2) (rd rs1 : Fin 32)
  /-- HQ_MULQ (R512): hq.mulq writes the rounded, saturated Q31 product. -/
  | hqMulq (q : Fin 2) (rd rs1 rs2 : Fin 32)
  /-- HQ_MACQ (R513): hq.macq adds the rounded Q31 product to rd and saturates the sum. -/
  | hqMacq (q : Fin 2) (rd rs1 rs2 : Fin 32)
  /-- HQ_SSHL (R512): hq.sshl writes the saturated left shift. -/
  | hqSshl (q : Fin 2) (rd rs1 rs2 : Fin 32)
  /-- HQ_SRAR (R512): hq.srar writes the rounded arithmetic right shift. -/
  | hqSrar (q : Fin 2) (rd rs1 rs2 : Fin 32)
  /-- HQ_SAT (R512): hq.sat saturates rs1 to a signed field of imm + 1 bits. -/
  | hqSat (q : Fin 2) (rd rs1 n : Fin 32)
  /-- HCACHE_INV_LINE (R514): An hcache write with code 1 invalidates one data-cache line. -/
  | hcacheInvLine (q : Fin 2) (addr : BitVec 32)
  /-- HCACHE_INV_DCACHE (R514): An hcache write with code 2 invalidates the whole data cache. -/
  | hcacheInvDcache (q : Fin 2)
  /-- HCACHE_INV_ICACHE (R514): An hcache write with code 3 invalidates the whole instruction cache. -/
  | hcacheInvIcache (q : Fin 2)
  /-- HOKUON_LOCKSTEP_MISMATCH (R506): A Hokuon pair's outputs differ, the pair halts and its lockstep source is raised. -/
  | hokuonLockstepMismatch (q : Fin 2)
  /-- CACHE_PARITY_ERROR (R507): A cache parity error invalidates the line and refetches it in both cores. -/
  | cacheParityError (q : Fin 2) (instr : Bool) (addr : BitVec 32)
  /-- HIC_INTERRUPT_TAKE (R526): A pending enabled source above threshold interrupts its pair. -/
  | hicInterruptTake (q : Fin 2)
  /-- DOORBELL (R527): A SYS_DOORBELL write sets or clears the other pair's software interrupt. -/
  | doorbell (i : Initiator) (v : Word)
  /-- SEM_ACQUIRE (R528): A read of SYS_SEM returns 0 and sets a free semaphore, or returns 1. -/
  | semAcquire (i : Initiator) (k : Fin 16)
  /-- SEM_RELEASE (R528): A write of 0 to SYS_SEM releases the semaphore. -/
  | semRelease (i : Initiator) (k : Fin 16) (v : Word)
  /-- PERF_COUNTER_READ (R530): A read of PERF_CNT_LO latches the upper counter bits. -/
  | perfCounterRead (i : Initiator) (k : Fin 4) (e : Fin 96)
  /-- PERF_COUNTER_CLEAR (R529): A write of a PERF_CTRL CLR bit clears that core's counters. -/
  | perfCounterClear (i : Initiator) (v : Word)
  /-- DOMAIN_ON_REQUEST (R536): An HPA write setting a SYS_PD_CTRL bit requests a domain on or is refused. -/
  | domainOnRequest (i : Initiator) (d : Fin 12)
  /-- DOMAIN_POWERED (R535): A domain reaches DOMAIN_ON with registers at reset or image values and memories made ECC-consistent. -/
  | domainPowered (d : Fin 12) (ok : Bool)
  /-- DOMAIN_OFF_REQUEST (R536): An HPA write clearing a SYS_PD_CTRL bit clamps outputs and switches a domain off, or is refused. -/
  | domainOffRequest (i : Initiator) (d : Fin 12)
  /-- PAD_RELEASE (R544): A write to SYS_PAD_RELEASE releases a domain's held pads or is refused. -/
  | padRelease (i : Initiator) (v : Word)
  /-- OP_POINT_WRITE (R539): A write to SYS_OP sets a new target operating point or is refused. -/
  | opPointWrite (i : Initiator) (v : Word)
  /-- DVFS_STEP_DONE (R540): A DVFS step reaches VOK and the frequency changes or the next step begins. -/
  | dvfsStepDone (k : Fin 4)
  /-- DVFS_VOK_TIMEOUT (R541): VOK missing 50 µs after a step start sets VOK_FAIL and raises PWR_SUPPLY. -/
  | dvfsVokTimeout (k : Fin 4)
  /-- PLINTH_COLD_START (R547): HSTORE rising through 2.0 V or VIO appearing starts the Plinth's life with every PLINTH register reset. -/
  | plinthColdStart
  /-- PLINTH_DEATH (R547): HSTORE falling below 1.9 V with VIO absent ends the Plinth's life. -/
  | plinthDeath
  /-- ENERGY_FLAG_UPDATE (R552): HSTORE crosses a class threshold and the flag sets or clears, aborting activities on BELOW_ABORT. -/
  | energyFlagUpdate (hstore vin0 vin1 vin2 vin3 : Rat) (harvesting vdrv : Bool)
  /-- SESSION_TIMEOUT (R554): A STORE session reaching PLINTH_SESSION ends with ABORTED_TIME. -/
  | sessionTimeout
  /-- RTC_SECOND (R549): The trimmed RTC completes a second and PLINTH_RTC_SEC advances. -/
  | rtcSecond
  /-- PLINTH_CYC_READ (R549): A read of PLINTH_CYC_LO latches PLINTH_CYC_HI. -/
  | plinthCycRead (i : Initiator)
  /-- PLINTH_WAKE (R555): At a reference refresh in SLEEP an enabled wake source enters START or STORE, or is refused. -/
  | plinthWake
  /-- TWW_WAKE_FRAME (R557): A TWW wake frame is matched and acknowledged or ignored. -/
  | twwWakeFrame (addr : Fin 128)
  /-- TWW_STATUS_READ (R643): A TWW status frame to the device's address returns the two short-status bytes. -/
  | twwStatusRead (addr : Fin 128)
  /-- PLINTH_SLEEP (R558): A keyed HPA write to PLINTH_SLEEP enters SLEEP or is refused. -/
  | plinthSleep (i : Initiator) (v : Word)
  /-- PLINTH_START_REQUEST (R553): A write of PLINTH_CTRL.START requests a main-supply start from STORE, admitted by START_OK. -/
  | plinthStartRequest (i : Initiator)
  /-- BUCK_B_GOOD (R547): During START buck B comes good and the Plinth enters RUN. -/
  | buckBGood
  /-- POWER_FAIL_WARNING (R559): The highest VIN falls below VPF in RUN and the power-fail warning sets. -/
  | powerFailWarning
  /-- POWER_FAIL_RESTORE (R559): The highest VIN stays above VPF for 1 ms and PF_RESTORE sets. -/
  | powerFailRestore
  /-- BUCK_A_STOP (R560): Buck A stops at 8.0 V and the Plinth enters STORE or SLEEP. -/
  | buckAStop
  /-- SV_GET_INFO (R590): The GET_INFO mailbox command returns Svauth information. -/
  | svGetInfo (q : Fin 2)
  /-- SV_GET_DEVID_CERT (R569): The GET_DEVID_CERT command returns the DevID certificate. -/
  | svGetDevidCert (q : Fin 2)
  /-- SV_ATTEST (R580): The ATTEST command captures state and returns a DevID-signed report. -/
  | svAttest (q : Fin 2) (nonce : List Byte)
  /-- SV_EXTEND (R578): The EXTEND command extends a permitted PM and logs it. -/
  | svExtend (q : Fin 2) (pm : Nat) (digest : List Byte) (bad : Nat)
  /-- SV_READ_PM (R578): The READ_PM command returns the measurement registers. -/
  | svReadPm (q : Fin 2)
  /-- SV_RANDOM (R566): The RANDOM command returns conditioned random bytes. -/
  | svRandom (q : Fin 2) (n : Nat)
  /-- SV_VERIFY_AUTH (R586): The VERIFY_AUTH command checks an AUTH record and advances the replay counter. -/
  | svVerifyAuth (q : Fin 2) (rcd : List Byte) (op : Nat) (args : List Byte)
  /-- SV_STAGE_BEGIN (R582): STAGE_BEGIN opens staging of a FW, IMG or APP slot. -/
  | svStageBegin (q : Fin 2) (kind slot : Nat)
  /-- SV_STAGE_DATA (R582): STAGE_DATA writes package bytes into the slot through MRAM_PROGRAM. -/
  | svStageData (q : Fin 2) (off : Nat) (data : List Byte)
  /-- SV_STAGE_END (R582): STAGE_END verifies the staged package and sets the slot's valid bit if it passes. -/
  | svStageEnd (q : Fin 2)
  /-- SV_SELECT (R584): SELECT names the firmware slot for the next firmware-loading reset. -/
  | svSelect (q : Fin 2) (kind slot : Nat)
  /-- SV_CONFIRM (R584): CONFIRM advances ARB_FW or ARB_APP to the active package's version. -/
  | svConfirm (q : Fin 2) (kind bad : Nat)
  /-- SV_OWNER_ENROLL (R571): OWNER_ENROLL programs an owner key hash into an empty slot. -/
  | svOwnerEnroll (q : Fin 2) (slot : Nat) (key : List Byte) (auth : Option (List Byte)) (bad : Nat)
  /-- SV_OWNER_REVOKE (R572): OWNER_REVOKE programs a slot's revocation bit. -/
  | svOwnerRevoke (q : Fin 2) (slot : Nat) (auth : List Byte) (bad : Nat)
  /-- SV_SET_APP_STRICT (R585): SET_APP_STRICT programs the STRICT APP policy. -/
  | svSetAppStrict (q : Fin 2) (auth : List Byte) (bad : Nat)
  /-- SV_DEBUG_PERMIT (R588): DEBUG_PERMIT grants a Docent permit level for a duration or is refused. -/
  | svDebugPermit (ch : Fin 3) (auth args : List Byte) (bad : Nat)
  /-- SV_PERMIT_END (R589): PERMIT_END ends the permit, releasing halts and clearing breakpoints. -/
  | svPermitEnd (ch : Fin 3)
  /-- SV_CMD_COMPLETE (R590): A mailbox command completes, setting DONE and its result. -/
  | svCmdComplete (ch : Fin 3)
  /-- BOOT_STEP (R576): Svauth completes a step of verified and measured boot, extending a PM and logging it. -/
  | bootStep (bad : Nat)
  /-- SVAUTH_FAULT_DETECT (R565): A Svauth lockstep mismatch or private-RAM error raises SVAUTH_FAULT. -/
  | svauthFaultDetect
  /-- DEBUG_PERMIT_EXPIRE (R589): A permit's DURATION elapses and the permit ends. -/
  | debugPermitExpire
  /-- TEST_MODE_LOW (R589): TEST_MODE going low ends a FACTORY permit. -/
  | testModeLow
  /-- DOC_STATUS (R596): A debug-link STATUS transaction returns the Docent status word. -/
  | docStatus
  /-- DOC_IDCODE (R596): A debug-link IDCODE transaction returns SYS_ID. -/
  | docIdcode
  /-- DOC_READ (R597): A debug-link READ returns a word under an OBSERVE permit. -/
  | docRead (addr : BitVec 32) (wait : Bool)
  /-- DOC_WRITE (R597): A debug-link WRITE writes a word under a HALT permit. -/
  | docWrite (addr : BitVec 32) (v : Word) (wait : Bool)
  /-- DOC_HALT (R598): A debug-link HALT stops a target and raises DOCENT_HALT. -/
  | docHalt (t : Fin 16)
  /-- DOC_RESUME (R596): A debug-link RESUME resumes a halted target. -/
  | docResume (t : Fin 16)
  /-- DOC_STEP (R596): A debug-link STEP executes one instruction on a halted Hokuon pair. -/
  | docStep (t : Fin 16)
  /-- DOC_REG_READ (R596): A debug-link REG_READ returns a register of a halted Hokuon pair. -/
  | docRegRead (t : Fin 16) (n : BitVec 32)
  /-- DOC_REG_WRITE (R596): A debug-link REG_WRITE writes a register in both cores of a halted pair. -/
  | docRegWrite (t : Fin 16) (n : BitVec 32) (v : Word)
  /-- DOC_BP_SET (R596): A debug-link BP_SET sets a breakpoint slot of a Hokuon pair. -/
  | docBpSet (t : Fin 16) (addr data : BitVec 32)
  /-- DOC_BP_CLEAR (R596): A debug-link BP_CLEAR clears a breakpoint slot. -/
  | docBpClear (t : Fin 16) (data : BitVec 32)
  /-- DOC_CRC_ERROR (R595): A debug-link request failing its CRC is discarded and CRC_ERR increments. -/
  | docCrcError
  /-- SVC_COURIER_FRAME (R599): A COURIER frame on the service channel enters the host-to-device buffer. -/
  | svcCourierFrame (bytes : List Byte)
  /-- SVC_PERMIT_FRAME (R599): A PERMIT frame is taken as DEBUG_PERMIT on the Docent channel. -/
  | svcPermitFrame
  /-- SVC_PERMIT_END_FRAME (R599): A PERMIT_END frame is taken as PERMIT_END. -/
  | svcPermitEndFrame
  /-- SVC_BAD_FRAME (R599): A bad or unknown service-channel frame is discarded. -/
  | svcBadFrame
  /-- POWER_UP_RESET (R601): PD1 powers from off and a POWER-UP reset runs start-up from P1. -/
  | powerUpReset (testMode : Bool)
  /-- RESET_PIN (R602): RESET_N held low long enough takes a SYSTEM reset. -/
  | resetPin (ns : Nat) (still : Bool)
  /-- SYS_RESET_SYSTEM (R603): A keyed SYS_RESET with KIND 1 takes a SYSTEM reset. -/
  | sysResetSystem (i : Initiator)
  /-- SYS_RESET_HPB (R606): A keyed SYS_RESET with KIND 2 from HPA resets HPB only. -/
  | sysResetHpb (i : Initiator)
  /-- SYS_RESET_FOYER (R603): A keyed SYS_RESET with KIND 3 takes a SYSTEM reset into the Foyer state. -/
  | sysResetFoyer (i : Initiator)
  /-- WATCHDOG_EXPIRE (R604): The watchdog count reaches TIMEOUT and a SYSTEM reset follows. -/
  | watchdogExpire
  /-- WATCHDOG_KICK (R604): An HPA write of 0x4B1C to SYS_WDT_KICK restarts the watchdog count. -/
  | watchdogKick (i : Initiator) (v : Word)
  /-- RESET_RELEASE (R605): At the later of 50 µs and RESET_N release the blocks reset and start-up begins at P4. -/
  | resetRelease
  /-- STARTUP_PHASE_END (R607): A start-up phase completes and the next begins, or a failure ends start-up. -/
  | startupPhaseEnd (fail : Bool) (which detail : Nat)
  /-- SUPPLY_START_TIMEOUT (R608): PD1 rails not good within 4.0 ms switch domains off and report SUPPLY_FAIL. -/
  | supplyStartTimeout
  /-- VISO_ARRIVE (R609): VISO arriving after a deferral powers PD10 and runs the grid calibration and test. -/
  | visoArrive
  /-- BARRIER_CAL_TIMEOUT (R609): A barrier not calibrated within 10 ms enters the Foyer state with cause 0x06. -/
  | barrierCalTimeout
  /-- HPB_RELEASE (R606): An HPA write of HPB_RUN = 1 starts HPB at SYS_HPB_ENTRY. -/
  | hpbRelease (i : Initiator)
  /-- COURIER_INFO (R628): An INFO message is answered with six status words. -/
  | courierInfo (h : MsgHdr) (p : List Byte)
  /-- COURIER_READ (R638): A READ message returns words from reachable addresses. -/
  | courierRead (h : MsgHdr) (p : List Byte)
  /-- COURIER_WRITE (R629): A signed WRITE message performs register writes through the COURH initiator port. -/
  | courierWrite (h : MsgHdr) (p : List Byte)
  /-- COURIER_ATTEST (R628): An ATTEST message returns an attestation report. -/
  | courierAttest (h : MsgHdr) (p : List Byte)
  /-- COURIER_DEVID_CERT (R628): A DEVID_CERT message returns the DevID certificate. -/
  | courierDevidCert (h : MsgHdr) (p : List Byte)
  /-- COURIER_LOG_READ (R628): A LOG_READ message returns Provenance log entries. -/
  | courierLogRead (h : MsgHdr) (p : List Byte)
  /-- COURIER_METER_READ (R628): A METER_READ message returns the metering sums and latch state. -/
  | courierMeterRead (h : MsgHdr) (p : List Byte)
  /-- COURIER_RESET (R629): A signed RESET message is answered and schedules a SYS_RESET. -/
  | courierReset (h : MsgHdr) (p : List Byte)
  /-- COURIER_RESET_ACT (R647): 1 ms after the RESET response leaves, the reset acts. -/
  | courierResetAct
  /-- COURIER_STAGE_BEGIN (R630): A signed STAGE_BEGIN opens a staging session. -/
  | courierStageBegin (h : MsgHdr) (p : List Byte)
  /-- COURIER_STAGE_DATA (R630): A STAGE_DATA message adds bytes to the open session. -/
  | courierStageData (h : MsgHdr) (p : List Byte)
  /-- COURIER_STAGE_END (R630): A STAGE_END message closes the session and returns the verification code. -/
  | courierStageEnd (h : MsgHdr) (p : List Byte)
  /-- COURIER_SELECT (R629): A signed SELECT message selects a slot. -/
  | courierSelect (h : MsgHdr) (p : List Byte)
  /-- COURIER_CONFIRM (R629): A signed CONFIRM message confirms a package or image. -/
  | courierConfirm (h : MsgHdr) (p : List Byte) (bad : Nat)
  /-- COURIER_EVENT_ACK (R633): A collector's EVENT_ACK stops the EVENT repeats. -/
  | courierEventAck (h : MsgHdr)
  /-- COURIER_EVENT_REPEAT (R633): An unacknowledged EVENT is repeated after 2, 4 and 8 s, then EVENT_LOST sets. -/
  | courierEventRepeat
  /-- COURIER_UNKNOWN_TYPE (R628): A request of an unknown TYPE is answered with RESULT 1. -/
  | courierUnknownType (h : MsgHdr) (ty : BitVec 8)
  /-- COURIER_BAD_MESSAGE (R627): A message with bad CRC, VER or LEN is discarded and BAD_MSG set. -/
  | courierBadMessage (car : Carrier) (bytes : List Byte)
  /-- COURIER_BROADCAST_INFO_REPLY (R631): After a random delay the device answers a broadcast INFO. -/
  | courierBroadcastInfoReply
  /-- COURIER_TT_REQ (R645): A time master stamps an arriving TT_REQ and schedules TT_RSP. -/
  | courierTtReq (src dst : BitVec 16) (sq t2 : Nat)
  /-- COURIER_TT_RSP (R646): An arriving TT_RSP completes a time-transfer measurement. -/
  | courierTtRsp (src dst : BitVec 16) (sq t2 t3 t4 : Nat)
  /-- TT_REQUEST_SEND (R646): Every INTERVAL ms in MODE 2 the device sends a stamped TT_REQ. -/
  | ttRequestSend (dur : Nat)
  /-- TT_RESPONSE_SEND (R645): At T3 the master sends TT_RSP if the medium is free, else counts TT_SKIP. -/
  | ttResponseSend (busy : Bool) (dur : Nat)
  /-- TT_RESPONSE_TIMEOUT (R646): No TT_RSP within 80,000,000 ticks makes the exchange invalid. -/
  | ttResponseTimeout
  /-- STAGING_SESSION_TIMEOUT (R630): A session with no STAGE_DATA for 60 s is closed. -/
  | stagingSessionTimeout
  /-- PLC_SEGMENT_RECEIVE (R634): A powerline segment is received into reassembly and a complete message is delivered. -/
  | plcSegmentReceive (src dst : BitVec 16) (seg : List Byte) (snr : BitVec 8) (excluded : Bool)
  /-- REASSEMBLY_TIMEOUT (R634): A message in reassembly for 10 s is discarded. -/
  | reassemblyTimeout
  /-- PLC_FRAME_TRANSMIT (R626): A powerline frame starts transmission, admitted by XMIT_OK in STORE. -/
  | plcFrameTransmit (dur : Nat)
  /-- PLC_CURRENT_LIMIT (R624): The current limit acting over 20 µs ends the frame and raises PLC_FAULT. -/
  | plcCurrentLimit
  /-- HSPI_STATUS (R637): A host SPI STATUS command returns COURH_STATUS. -/
  | hspiStatus
  /-- HSPI_READ (R638): A host SPI READ returns words from reachable addresses. -/
  | hspiRead (addr : BitVec 32) (n : Nat)
  /-- HSPI_WRITE (R638): A host SPI WRITE writes words under each block's initiator rules. -/
  | hspiWrite (addr : BitVec 32) (ws : List Word)
  /-- HSPI_MSG_PUT (R640): MSG_PUT places a Courier message in the host-to-device buffer or sets H2D_OVF. -/
  | hspiMsgPut (bytes : List Byte)
  /-- HSPI_MSG_GET (R641): MSG_GET returns the posted device-to-host message and empties the buffer on its last byte. -/
  | hspiMsgGet (n : Nat)
  /-- H2D_DONE (R640): An HPA write to COURH_H2D_DONE empties the host-to-device buffer. -/
  | h2dDone (i : Initiator) (v : Word)
  /-- D2H_POST (R641): An HPA write to COURH_D2H_LEN posts a device-to-host message. -/
  | d2hPost (i : Initiator) (v : Word)
  /-- HSPI_LOCK (R639): An HPA write of LOCK confines the host SPI to message commands until reset. -/
  | hspiLock (i : Initiator) (v : Word)
  /-- GPIO_EDGE (R562): A GPIO input edge is recorded in SYS_GPIO_EVT. -/
  | gpioEdge (k : Fin 8) (level : Bool)
  /-- CENTRE_CMP_TRIGGER (R121): A running unit's counter reaches floor(P/2), CMPA or CMPB inside a period, giving trigger event E to every window group with that trigger source. -/
  | centreCmpTrigger (u : Fin 14) (kind : Fin 3)
  /-- MTIMECMP_MATCH (R88): A pair's mtime reaches HIC_MTIMECMP and the machine timer interrupt becomes pending. -/
  | mtimecmpMatch (q : Fin 2)
  /-- MAC_RETRY (R621): A unicast powerline frame gets no MAC acknowledgement in time and is retried, or counted as retries exhausted after the fifth. -/
  | macRetry
  deriving DecidableEq, Repr

end Sys2Proof
end

