-- ==== Sys2Proof/Decode.lean ====
section
/-!
DEFINITION. The command a word spells by the opcode table's bits. No row of spec/opcode_table.json gives bits, so no word spells a
command.
-/

namespace Sys2Proof

/-- No row of the table has bits: every word is turned away. [DESIGN CHOICE (safe), log row 96] -/
def decodeTableWord (_nbits _w : Nat) : Option Instr := none

end Sys2Proof
end

