-- ==== Sys2Proof/Config.lean ====
section
/-!
DEFINITION. What an implementation fixes and the manual leaves open: FREE VALUES. Each is an opaque constant with no
body, so nothing can be proved of the value it takes; a claim about it holds whatever it is. Each is named in an
assumption-log row.
-/

namespace Sys2Proof.Config

/-- The n-th value the device draws from a source the manual leaves open (the random draw of R400, the conditioned
random bytes of R566, the delay of R631, a session value of R630, ...): log row 5. [DESIGN CHOICE (safe), log row 5] -/
opaque freeDraw : Nat → Nat

/-- Whether an ML-DSA-44 signature verifies: public key, signature, message (R16, R39; FIPS 204 by reference): log row 6.
[DESIGN CHOICE (safe), log row 6] -/
opaque mldsaVerify : List Byte → List Byte → List Byte → Bool

/-- The ML-DSA-44 signature made with the DevID key over a message (R580; FIPS 204 by reference): log row 6.
[DESIGN CHOICE (safe), log row 6] -/
opaque devidSign : List Byte → List Byte

/-- VENDOR_ROOT_HASH (R567) and the vendor root public key of the boot ROM (R570): values of the device: log row 6.
[DESIGN CHOICE (safe), log row 6] -/
opaque vendorHash : List Byte
/-- The vendor root public key (R570): log row 6. [DESIGN CHOICE (safe), log row 6] -/
opaque vendorKey : List Byte

/-- The bytes whose digest an AUTH record binds, for a mailbox opcode whose argument encoding the manual does not give, from the
arguments' own bytes (R586): log row 6. [DESIGN CHOICE (safe), log row 6] -/
opaque argBytes : Nat → List Byte → List Byte

/-- The DevID certificate's bytes (R569): a value of the device, made at manufacture: log row 6. [DESIGN CHOICE (safe), log row 6] -/
opaque devidCert : List Byte
/-- The bytes of the boot ROM, which HPA may read in the Foyer state (R614): not given. [DESIGN CHOICE (safe), log row 6] -/
opaque romByte : Nat → Byte

/-- The binary32 sine of the loop engines (Table BLK-5 bounds the error only): log row 7. [DESIGN CHOICE (safe), log row 7] -/
opaque fsin : Word → Word
/-- The binary32 cosine of the loop engines (Table BLK-5): log row 7. [DESIGN CHOICE (safe), log row 7] -/
opaque fcos : Word → Word
/-- The binary32 two-argument arctangent of the loop engines (Table BLK-5): log row 7. [DESIGN CHOICE (safe), log row 7] -/
opaque fatan2 : Word → Word → Word
/-- The binary32 exponential of the loop engines (Table BLK-5): log row 7. [DESIGN CHOICE (safe), log row 7] -/
opaque fexp : Word → Word
/-- The binary32 reciprocal square root of the loop engines (Table BLK-5): log row 7. [DESIGN CHOICE (safe), log row 7] -/
opaque frsqrt : Word → Word

/-- The rational the hardware takes for a real function whose arithmetic the manual does not fix to the bit
(GRID, METER and DIAG blocks): the function's name code and its argument: log row 8. [DESIGN CHOICE (unsafe), log row 8] -/
opaque realFn : Nat → Rat → Rat

/-- The factory-trimmed ratio of the attenuator of a channel, PS0 to PS3 and PS12 (R158: a value of the device): log row 9.
[DESIGN CHOICE (safe), log row 9] -/
opaque attenRatio : Nat → Rat

/-- Volts at the point of connection per threshold code unit of WC22 (R397 names the level in volts and no rule says how the
device knows the divider before VKX): log row 10. [DESIGN CHOICE (safe), log row 10] -/
opaque vkxScale : Rat

/-- The device is of the -MT grade (Table SCOPE-3: set by fuse): log row 11. [DESIGN CHOICE (safe), log row 11] -/
opaque isMt : Bool

/-- The factory correction of an -MT device: RANGE r, phase p, segment s, word (Table MTR-6; set in OTP): log row 11.
[DESIGN CHOICE (safe), log row 11] -/
opaque factoryCorr : Nat → Nat → Nat → Nat → Word

end Sys2Proof.Config
end

