-- ==== Sys2Proof/Machine/Map.lean ====
section
/-!
DEFINITION. The sparse map in which State holds registers, memory and every per-instance record: a list of
(key, value) pairs, keys strictly rising, no entry equal to what an unlisted key reads as (the default value).
Equal maps in this form are equal data.
-/

namespace Sys2Proof.Machine

/-- A sparse map from numbers to values; an unlisted key reads as the default value. -/
abbrev SMap (α : Type) := List (Nat × α)

/-- The value at a key: the search stops as soon as the keys pass it. [DESIGN CHOICE (unsafe), log row 4] -/
def SMap.get {α : Type} [Inhabited α] : SMap α → Nat → α
  | [], _ => default
  | (k, v) :: t, a => if a = k then v else if a < k then default else SMap.get t a

/-- Drops the leading entries whose key is not above a. -/
def SMap.dropTo {α : Type} : SMap α → Nat → SMap α
  | [], _ => []
  | (k, v) :: t, a => if k ≤ a then SMap.dropTo t a else (k, v) :: t

/-- The entry to list for a value: none for the default value. -/
def SMap.cell {α : Type} [Inhabited α] [DecidableEq α] (a : Nat) (v : α) (t : SMap α) : SMap α :=
  if v = default then t else (a, v) :: t

/-- Writes a value at a key and keeps the canonical form. -/
def SMap.set {α : Type} [Inhabited α] [DecidableEq α] : SMap α → Nat → α → SMap α
  | [], a, v => SMap.cell a v []
  | (k, w) :: t, a, v =>
    if k < a then (k, w) :: SMap.set t a v
    else if k = a then SMap.cell a v (SMap.dropTo t a)
    else SMap.cell a v ((k, w) :: t)

/-- Applies a function to the value at a key. -/
def SMap.modify {α : Type} [Inhabited α] [DecidableEq α] (m : SMap α) (a : Nat) (f : α → α) : SMap α :=
  m.set a (f (m.get a))

/-- Applies a function to every listed value. -/
def SMap.update {α : Type} [Inhabited α] [DecidableEq α] (m : SMap α) (f : α → α) : SMap α :=
  List.foldl (fun (n : SMap α) (e : Nat × α) => n.set e.1 (f e.2)) m m

/-- Every key of the map is above a. -/
def SMap.above {α : Type} (a : Nat) : SMap α → Bool
  | [] => true
  | (k, _) :: _ => a < k

/-- The canonical form: keys strictly rising and no entry that equals the default value. -/
def SMap.wf {α : Type} [Inhabited α] [DecidableEq α] : SMap α → Bool
  | [] => true
  | (k, v) :: t => decide (v ≠ default) && SMap.above k t && SMap.wf t

end Sys2Proof.Machine
end

