-- ==== Sys2Proof/Machine/Regs.lean ====
section
/-!
DEFINITION. The addresses of the software-visible registers and the places of their named fields, as the
register tables of spec/ give them (Tables IMG-11, CLK, EPOCH, SENS-12 ... COU-14: the chapter of each block).
A register is named as the manual names it; a register with an index takes the index as its argument.
-/

namespace Sys2Proof.Machine

/-- A named field of a register: the register's address, the lowest bit and the number of bits. -/
structure Fld where
  addr : Nat
  lo : Nat
  len : Nat
  deriving DecidableEq, Repr

namespace R


/-! ### 01_crehar_image.md -/

/-- SYS_ID, RO (R2) -/
@[simp] abbrev SYS_ID : Nat := 0x40000000
/-- SYS_IMG_STATUS, RO/W1C (R52) -/
@[simp] abbrev SYS_IMG_STATUS : Nat := 0x40000040
/-- SYS_IMG_SELECT, RW (R52) -/
@[simp] abbrev SYS_IMG_SELECT : Nat := 0x40000044
/-- SYS_IMG_ID, FIXED (R52) -/
@[simp] abbrev SYS_IMG_ID : Nat := 0x40000048
/-- SYS_IMG_SECVER, FIXED (R52) -/
@[simp] abbrev SYS_IMG_SECVER : Nat := 0x4000004C
/-- SYS_IMG_FLAGS, FIXED (R52) -/
@[simp] abbrev SYS_IMG_FLAGS : Nat := 0x40000050
/-- SYS_IMG_CONFIRM, WO (R52) -/
@[simp] abbrev SYS_IMG_CONFIRM : Nat := 0x40000054
/-- SYS_IMG_DIGEST(i), i = 0…7, RO (R52) -/
@[simp] abbrev SYS_IMG_DIGEST (i : Nat) : Nat := 0x40000060 + 4 * i

/-! ### 02_clock_synthesis.md -/

/-- CLK_CTRL, QUIET/RW/W1S (R83) -/
@[simp] abbrev CLK_CTRL : Nat := 0x40010000
/-- CLK_N, LIVE (R83) -/
@[simp] abbrev CLK_N : Nat := 0x40010004
/-- CLK_STATUS, RO (R83) -/
@[simp] abbrev CLK_STATUS : Nat := 0x40010008
/-- CLK_STICKY, W1C (R83) -/
@[simp] abbrev CLK_STICKY : Nat := 0x4001000C
/-- CLK_COAST, RO (R83) -/
@[simp] abbrev CLK_COAST : Nat := 0x40010010
/-- CLK_MARKS, RO (R83) -/
@[simp] abbrev CLK_MARKS : Nat := 0x40010014
/-- CLK_FREQ, RO (R83) -/
@[simp] abbrev CLK_FREQ : Nat := 0x40010018

/-! ### 03_epoch_timebase.md -/

/-- EPOCH_CTRL, QUIET/W1S (R111) -/
@[simp] abbrev EPOCH_CTRL : Nat := 0x40020000
/-- EPOCH_STATUS, RO (R111) -/
@[simp] abbrev EPOCH_STATUS : Nat := 0x40020004
/-- EPOCH_STICKY, W1C (R111) -/
@[simp] abbrev EPOCH_STICKY : Nat := 0x40020008
/-- EPOCH_NOW_LO, RO (R111) -/
@[simp] abbrev EPOCH_NOW_LO : Nat := 0x40020010
/-- EPOCH_NOW_HI, RO (R111) -/
@[simp] abbrev EPOCH_NOW_HI : Nat := 0x40020014
/-- EPOCH_LOAD_LO, QUIET (R111) -/
@[simp] abbrev EPOCH_LOAD_LO : Nat := 0x40020018
/-- EPOCH_LOAD_HI, QUIET (R111) -/
@[simp] abbrev EPOCH_LOAD_HI : Nat := 0x4002001C
/-- EPOCH_SYNC_COMP, QUIET (R111) -/
@[simp] abbrev EPOCH_SYNC_COMP : Nat := 0x40020020
/-- EPOCH_RATE, LIVE (R111) -/
@[simp] abbrev EPOCH_RATE : Nat := 0x40020024
/-- EPOCH_SLEW, LIVE (R111) -/
@[simp] abbrev EPOCH_SLEW : Nat := 0x40020028
/-- EPOCH_TT_OFFSET, RO (R111) -/
@[simp] abbrev EPOCH_TT_OFFSET : Nat := 0x4002002C
/-- EPOCH_BAR, RO (R111) -/
@[simp] abbrev EPOCH_BAR : Nat := 0x40020030
/-- EPOCH_RTC_EPOCH_LO, RO (R111) -/
@[simp] abbrev EPOCH_RTC_EPOCH_LO : Nat := 0x40020038
/-- EPOCH_RTC_EPOCH_HI, RO (R111) -/
@[simp] abbrev EPOCH_RTC_EPOCH_HI : Nat := 0x4002003C
/-- EPOCH_RTC_COUNT, RO (R111) -/
@[simp] abbrev EPOCH_RTC_COUNT : Nat := 0x40020040
/-- SCHED_TIME_LO(e), e = 0…31, RW (R111) -/
@[simp] abbrev SCHED_TIME_LO (e : Nat) : Nat := 0x40020100 + 0x20 * e
/-- SCHED_TIME_HI(e), RW (R111) -/
@[simp] abbrev SCHED_TIME_HI (e : Nat) : Nat := 0x40020104 + 0x20 * e
/-- SCHED_ACTION(e), RW (R111) -/
@[simp] abbrev SCHED_ACTION (e : Nat) : Nat := 0x40020108 + 0x20 * e
/-- SCHED_PARAM(e), RW (R111) -/
@[simp] abbrev SCHED_PARAM (e : Nat) : Nat := 0x4002010C + 0x20 * e
/-- SCHED_REPEAT(e), RW (R111) -/
@[simp] abbrev SCHED_REPEAT (e : Nat) : Nat := 0x40020110 + 0x20 * e
/-- SCHED_COUNT(e), RW (R111) -/
@[simp] abbrev SCHED_COUNT (e : Nat) : Nat := 0x40020114 + 0x20 * e
/-- SCHED_CTRL(e), W1S/RO/W1C (R111) -/
@[simp] abbrev SCHED_CTRL (e : Nat) : Nat := 0x40020118 + 0x20 * e

/-! ### 04_charge_balance_sensing.md -/

/-- SENSP_STATUS, RO (R163) -/
@[simp] abbrev SENSP_STATUS : Nat := 0x40030000
/-- SENSP_STICKY, W1C (R163) -/
@[simp] abbrev SENSP_STICKY : Nat := 0x40030004
/-- SENSP_CAL_VALID, RO (R163) -/
@[simp] abbrev SENSP_CAL_VALID : Nat := 0x40030008
/-- SENSP_OVR, W1C (R163) -/
@[simp] abbrev SENSP_OVR : Nat := 0x4003000C
/-- SENSP_REFDIST, W1C (R163) -/
@[simp] abbrev SENSP_REFDIST : Nat := 0x40030010
/-- SENSP_LC_GAP, RO (R163) -/
@[simp] abbrev SENSP_LC_GAP : Nat := 0x40030014
/-- SENSP_MON_MASK, RW (R163) -/
@[simp] abbrev SENSP_MON_MASK : Nat := 0x40030018
/-- SENSP_MON(s), s = 0…5, RO (R163) -/
@[simp] abbrev SENSP_MON (s : Nat) : Nat := 0x40030040 + 4 * s
/-- SENSP_WG_CTRL(g), g = 0…3, RW/QUIET (R163) -/
@[simp] abbrev SENSP_WG_CTRL (g : Nat) : Nat := 0x40030100 + 0x20 * g
/-- SENSP_WG_CFG(g), FIXED (R163) -/
@[simp] abbrev SENSP_WG_CFG (g : Nat) : Nat := 0x40030104 + 0x20 * g
/-- SENSP_WG_MEMBERS(g), FIXED (R163) -/
@[simp] abbrev SENSP_WG_MEMBERS (g : Nat) : Nat := 0x40030108 + 0x20 * g
/-- SENSP_WG_TIMING(g), FIXED/QUIET (R163) -/
@[simp] abbrev SENSP_WG_TIMING (g : Nat) : Nat := 0x4003010C + 0x20 * g
/-- SENSP_WG_STATUS(g), RO (R163) -/
@[simp] abbrev SENSP_WG_STATUS (g : Nat) : Nat := 0x40030110 + 0x20 * g
/-- SENSP_WG_EN_TICK(g), RO (R163) -/
@[simp] abbrev SENSP_WG_EN_TICK (g : Nat) : Nat := 0x40030114 + 0x20 * g
/-- SENSP_WG_INFO(g), RO (R163) -/
@[simp] abbrev SENSP_WG_INFO (g : Nat) : Nat := 0x40030118 + 0x20 * g
/-- SENSP_CH_CFG(n), n = 0…15, QUIET/RW/FIXED/RO (R163) -/
@[simp] abbrev SENSP_CH_CFG (n : Nat) : Nat := 0x40030400 + 0x40 * n
/-- SENSP_CH_RES(n), RO (R163) -/
@[simp] abbrev SENSP_CH_RES (n : Nat) : Nat := 0x40030404 + 0x40 * n
/-- SENSP_CH_RES_FLAGS(n), RO (R163) -/
@[simp] abbrev SENSP_CH_RES_FLAGS (n : Nat) : Nat := 0x40030408 + 0x40 * n
/-- SENSP_CH_CAL_OFS(n), RO (R163) -/
@[simp] abbrev SENSP_CH_CAL_OFS (n : Nat) : Nat := 0x4003040C + 0x40 * n
/-- SENSP_CH_CAL_GAIN(n), RO (R163) -/
@[simp] abbrev SENSP_CH_CAL_GAIN (n : Nat) : Nat := 0x40030410 + 0x40 * n
/-- SENSP_CH_LC_COUNT(n), RO (R163) -/
@[simp] abbrev SENSP_CH_LC_COUNT (n : Nat) : Nat := 0x40030414 + 0x40 * n
/-- SENSP_CH_LC_LEN(n), RO (R163) -/
@[simp] abbrev SENSP_CH_LC_LEN (n : Nat) : Nat := 0x40030418 + 0x40 * n
/-- SENSP_CH_LC_FLAGS(n), RO (R163) -/
@[simp] abbrev SENSP_CH_LC_FLAGS (n : Nat) : Nat := 0x4003041C + 0x40 * n
/-- SENSP_CH_RING_BASE(n), RW (R163) -/
@[simp] abbrev SENSP_CH_RING_BASE (n : Nat) : Nat := 0x40030420 + 0x40 * n
/-- SENSP_CH_RING_CTRL(n), RW (R163) -/
@[simp] abbrev SENSP_CH_RING_CTRL (n : Nat) : Nat := 0x40030424 + 0x40 * n
/-- SENSP_CH_RING_WR(n), RO (R163) -/
@[simp] abbrev SENSP_CH_RING_WR (n : Nat) : Nat := 0x40030428 + 0x40 * n
/-- SENSP_CH_RING_RD(n), RW (R163) -/
@[simp] abbrev SENSP_CH_RING_RD (n : Nat) : Nat := 0x4003042C + 0x40 * n
/-- SENSP_CH_STATUS(n), RO/W1C (R163) -/
@[simp] abbrev SENSP_CH_STATUS (n : Nat) : Nat := 0x40030430 + 0x40 * n
/-- SENSG_STATUS, RO (R163) -/
@[simp] abbrev SENSG_STATUS : Nat := 0x48000000
/-- SENSG_STICKY, W1C (R163) -/
@[simp] abbrev SENSG_STICKY : Nat := 0x48000004
/-- SENSG_CAL_VALID, RO (R163) -/
@[simp] abbrev SENSG_CAL_VALID : Nat := 0x48000008
/-- SENSG_OVR, W1C (R163) -/
@[simp] abbrev SENSG_OVR : Nat := 0x4800000C
/-- SENSG_REFDIST, W1C (R163) -/
@[simp] abbrev SENSG_REFDIST : Nat := 0x48000010
/-- SENSG_LC_GAP, RO (R163) -/
@[simp] abbrev SENSG_LC_GAP : Nat := 0x48000014
/-- SENSG_DIE_TEMP, RO (R163) -/
@[simp] abbrev SENSG_DIE_TEMP : Nat := 0x48000040

/-! ### 05_window_comparators.md -/

/-- WCMPP_STATUS, RO (R183) -/
@[simp] abbrev WCMPP_STATUS : Nat := 0x40040000
/-- WCMPG_STATUS, RO (R183) -/
@[simp] abbrev WCMPG_STATUS : Nat := 0x48010000
/-- WCMPP_STICKY, W1C (R183) -/
@[simp] abbrev WCMPP_STICKY : Nat := 0x40040004
/-- WCMPG_STICKY, W1C (R183) -/
@[simp] abbrev WCMPG_STICKY : Nat := 0x48010004
/-- WCMPP_TRIP, RO (R183) -/
@[simp] abbrev WCMPP_TRIP : Nat := 0x40040008
/-- WCMPG_TRIP, RO (R183) -/
@[simp] abbrev WCMPG_TRIP : Nat := 0x48010008
/-- WCMPP_CLEAR, W1S (R183) -/
@[simp] abbrev WCMPP_CLEAR : Nat := 0x4004000C
/-- WCMPG_CLEAR, W1S (R183) -/
@[simp] abbrev WCMPG_CLEAR : Nat := 0x4801000C
/-- WCMPP_TEST_MASK, RW (R183) -/
@[simp] abbrev WCMPP_TEST_MASK : Nat := 0x40040010
/-- WCMPP_TEST_FAIL, W1C (R183) -/
@[simp] abbrev WCMPP_TEST_FAIL : Nat := 0x40040014
/-- WC_THR(c), c = 0…13, LIVE (R183) -/
@[simp] abbrev WC_THR (c : Nat) : Nat := (if c < 14 then 0x40040100 + 0x20 * c else 0x48010100 + 0x20 * (c - 14)) + 0x0
/-- WC_CFG(c), FIXED (R183) -/
@[simp] abbrev WC_CFG (c : Nat) : Nat := (if c < 14 then 0x40040100 + 0x20 * c else 0x48010100 + 0x20 * (c - 14)) + 0x4
/-- WC_STATUS(c), RO (R183) -/
@[simp] abbrev WC_STATUS (c : Nat) : Nat := (if c < 14 then 0x40040100 + 0x20 * c else 0x48010100 + 0x20 * (c - 14)) + 0x8
/-- WC_TRIP_TICK(c), RO (R183) -/
@[simp] abbrev WC_TRIP_TICK (c : Nat) : Nat := (if c < 14 then 0x40040100 + 0x20 * c else 0x48010100 + 0x20 * (c - 14)) + 0xC
/-- WC_TEST(c), RO (R183) -/
@[simp] abbrev WC_TEST (c : Nat) : Nat := (if c < 14 then 0x40040100 + 0x20 * c else 0x48010100 + 0x20 * (c - 14)) + 0x10

/-! ### 06_loop_engines.md -/

/-- LOOP_STATUS, RO (R216) -/
@[simp] abbrev LOOP_STATUS : Nat := 0x40050000
/-- LOOP_SHARE, RO (R216) -/
@[simp] abbrev LOOP_SHARE : Nat := 0x40050004
/-- LP_CTRL(p), p = 0…5, RW/W1S (R216) -/
@[simp] abbrev LP_CTRL (p : Nat) : Nat := 0x40050100 + 0x40 * p
/-- LP_CFG(p), FIXED (R216) -/
@[simp] abbrev LP_CFG (p : Nat) : Nat := 0x40050104 + 0x40 * p
/-- LP_COST(p), FIXED (R216) -/
@[simp] abbrev LP_COST (p : Nat) : Nat := 0x40050108 + 0x40 * p
/-- LP_MIN_PERIOD(p), RO (R216) -/
@[simp] abbrev LP_MIN_PERIOD (p : Nat) : Nat := 0x4005010C + 0x40 * p
/-- LP_STATUS(p), RO (R216) -/
@[simp] abbrev LP_STATUS (p : Nat) : Nat := 0x40050110 + 0x40 * p
/-- LP_STICKY(p), W1C (R216) -/
@[simp] abbrev LP_STICKY (p : Nat) : Nat := 0x40050114 + 0x40 * p
/-- LP_EXEC_CNT(p), RO (R216) -/
@[simp] abbrev LP_EXEC_CNT (p : Nat) : Nat := 0x40050118 + 0x40 * p
/-- LP_OVR_CNT(p), RO (R216) -/
@[simp] abbrev LP_OVR_CNT (p : Nat) : Nat := 0x4005011C + 0x40 * p
/-- LP_CYCLES(p), RO (R216) -/
@[simp] abbrev LP_CYCLES (p : Nat) : Nat := 0x40050120 + 0x40 * p
/-- LP_SLACK(p), RO (R216) -/
@[simp] abbrev LP_SLACK (p : Nat) : Nat := 0x40050124 + 0x40 * p
/-- LP_TARGET(p), RO (R216) -/
@[simp] abbrev LP_TARGET (p : Nat) : Nat := 0x40050128 + 0x40 * p
/-- LP_COMMIT_TICK(p), RO (R216) -/
@[simp] abbrev LP_COMMIT_TICK (p : Nat) : Nat := 0x4005012C + 0x40 * p

/-! ### 08_pwm_generation.md -/

/-- PWM_CTRL(u), u = 0…13, LIVE/QUIET/RW/W1S (R300) -/
@[simp] abbrev PWM_CTRL (u : Nat) : Nat := 0x40060000 + 0x100 * u
/-- PWM_PERIOD(u), LIVE (R300) -/
@[simp] abbrev PWM_PERIOD (u : Nat) : Nat := 0x40060004 + 0x100 * u
/-- PWM_CMPA(u), LIVE (R300) -/
@[simp] abbrev PWM_CMPA (u : Nat) : Nat := 0x40060008 + 0x100 * u
/-- PWM_CMPB(u), LIVE (R300) -/
@[simp] abbrev PWM_CMPB (u : Nat) : Nat := 0x4006000C + 0x100 * u
/-- PWM_PHASE(u), LIVE (R300) -/
@[simp] abbrev PWM_PHASE (u : Nat) : Nat := 0x40060010 + 0x100 * u
/-- PWM_FRAC(u), LIVE (R300) -/
@[simp] abbrev PWM_FRAC (u : Nat) : Nat := 0x40060014 + 0x100 * u
/-- PWM_CFG(u), FIXED (R300) -/
@[simp] abbrev PWM_CFG (u : Nat) : Nat := 0x40060018 + 0x100 * u
/-- PWM_TIMING(u), FIXED (R300) -/
@[simp] abbrev PWM_TIMING (u : Nat) : Nat := 0x4006001C + 0x100 * u
/-- PWM_FORCE(u), RW (R300) -/
@[simp] abbrev PWM_FORCE (u : Nat) : Nat := 0x40060020 + 0x100 * u
/-- PWM_STATUS(u), RO (R300) -/
@[simp] abbrev PWM_STATUS (u : Nat) : Nat := 0x40060024 + 0x100 * u
/-- PWM_STICKY(u), W1C (R300) -/
@[simp] abbrev PWM_STICKY (u : Nat) : Nat := 0x40060028 + 0x100 * u
/-- PWM_COUNT(u), RO (R300) -/
@[simp] abbrev PWM_COUNT (u : Nat) : Nat := 0x4006002C + 0x100 * u
/-- PWM_PULSE_CNT(u), RO (R300) -/
@[simp] abbrev PWM_PULSE_CNT (u : Nat) : Nat := 0x40060030 + 0x100 * u
/-- PWM_LAST_BOUNDARY(u), RO (R300) -/
@[simp] abbrev PWM_LAST_BOUNDARY (u : Nat) : Nat := 0x40060034 + 0x100 * u
/-- PWM_NEXT_BOUNDARY(u), RO (R300) -/
@[simp] abbrev PWM_NEXT_BOUNDARY (u : Nat) : Nat := 0x40060038 + 0x100 * u
/-- PWM_START, WO (R300) -/
@[simp] abbrev PWM_START : Nat := 0x40060E00
/-- PWM_STOP, WO (R300) -/
@[simp] abbrev PWM_STOP : Nat := 0x40060E04
/-- PWM_COMMIT, WO (R300) -/
@[simp] abbrev PWM_COMMIT : Nat := 0x40060E08
/-- PWM_RUN_STATUS, RO (R300) -/
@[simp] abbrev PWM_RUN_STATUS : Nat := 0x40060E0C
/-- PWM_GROUPS, RO (R300) -/
@[simp] abbrev PWM_GROUPS : Nat := 0x40060E10
/-- PWM_GSTICKY, W1C (R300) -/
@[simp] abbrev PWM_GSTICKY : Nat := 0x40060E14

/-! ### 09_gate_drive_and_lanes.md -/

/-- DRV_STATUS, RO (R340) -/
@[simp] abbrev DRV_STATUS : Nat := 0x40070000
/-- DRV_STICKY, W1C (R340) -/
@[simp] abbrev DRV_STICKY : Nat := 0x40070004
/-- DRV_UV_CNT, RO (R340) -/
@[simp] abbrev DRV_UV_CNT : Nat := 0x40070008
/-- DRV_HB_CFG(h), h = 0…7, FIXED (R340) -/
@[simp] abbrev DRV_HB_CFG (h : Nat) : Nat := 0x40070100 + 0x20 * h
/-- DRV_HB_STATUS(h), RO (R340) -/
@[simp] abbrev DRV_HB_STATUS (h : Nat) : Nat := 0x40070104 + 0x20 * h
/-- DRV_HB_STICKY(h), W1C (R340) -/
@[simp] abbrev DRV_HB_STICKY (h : Nat) : Nat := 0x40070108 + 0x20 * h
/-- DRV_HB_REFRESH_TICK(h), RO (R340) -/
@[simp] abbrev DRV_HB_REFRESH_TICK (h : Nat) : Nat := 0x4007010C + 0x20 * h
/-- DRV_HB_FAULT_TICK(h), RO (R340) -/
@[simp] abbrev DRV_HB_FAULT_TICK (h : Nat) : Nat := 0x40070110 + 0x20 * h
/-- LANE_STATUS, RO (R341) -/
@[simp] abbrev LANE_STATUS : Nat := 0x48020000
/-- LANE_STICKY, W1C (R341) -/
@[simp] abbrev LANE_STICKY : Nat := 0x48020004
/-- LANE_CTRL(l), l = 0…5, RW (R341) -/
@[simp] abbrev LANE_CTRL (l : Nat) : Nat := 0x48020100 + 0x40 * l
/-- LANE_CFG(l), FIXED (R341) -/
@[simp] abbrev LANE_CFG (l : Nat) : Nat := 0x48020104 + 0x40 * l
/-- LANE_COMP(l), QUIET (R341) -/
@[simp] abbrev LANE_COMP (l : Nat) : Nat := 0x48020108 + 0x40 * l
/-- LANE_STAT(l), RO (R341) -/
@[simp] abbrev LANE_STAT (l : Nat) : Nat := 0x4802010C + 0x40 * l
/-- LANE_LSTICKY(l), W1C (R341) -/
@[simp] abbrev LANE_LSTICKY (l : Nat) : Nat := 0x48020110 + 0x40 * l
/-- LANE_CNT(l), RO (R341) -/
@[simp] abbrev LANE_CNT (l : Nat) : Nat := 0x48020114 + 0x40 * l
/-- LANE_ERR_CNT(l), RO (R341) -/
@[simp] abbrev LANE_ERR_CNT (l : Nat) : Nat := 0x48020118 + 0x40 * l
/-- LANE_TRIP_TICK(l), RO (R341) -/
@[simp] abbrev LANE_TRIP_TICK (l : Nat) : Nat := 0x4802011C + 0x40 * l

/-! ### 10_grid_synchronisation_and_power_functions.md -/

/-- GRID_CFG, FIXED (R371) -/
@[simp] abbrev GRID_CFG : Nat := 0x40080000
/-- GRID_STATUS, RO (R371) -/
@[simp] abbrev GRID_STATUS : Nat := 0x40080004
/-- GRID_STICKY, W1C (R371) -/
@[simp] abbrev GRID_STICKY : Nat := 0x40080008
/-- GRID_MODE, RW (R371) -/
@[simp] abbrev GRID_MODE : Nat := 0x4008000C
/-- GRID_FREQ, RO (R371) -/
@[simp] abbrev GRID_FREQ : Nat := 0x40080010
/-- GRID_CYCLE_LEN, RO (R371) -/
@[simp] abbrev GRID_CYCLE_LEN : Nat := 0x40080014
/-- GRID_PHERR, RO (R371) -/
@[simp] abbrev GRID_PHERR : Nat := 0x40080018
/-- GRID_V, RO (R371) -/
@[simp] abbrev GRID_V : Nat := 0x4008001C
/-- GRID_P_CURT, LIVE (R371) -/
@[simp] abbrev GRID_P_CURT : Nat := 0x40080020
/-- GRID_Q_SET, LIVE (R371) -/
@[simp] abbrev GRID_Q_SET : Nat := 0x40080024
/-- GRID_PF_SET, LIVE (R371) -/
@[simp] abbrev GRID_PF_SET : Nat := 0x40080028
/-- GRID_PLIMIT, RO (R371) -/
@[simp] abbrev GRID_PLIMIT : Nat := 0x4008002C
/-- GRID_QREF, RO (R371) -/
@[simp] abbrev GRID_QREF : Nat := 0x40080030
/-- GRID_DC_CNT, RO (R371) -/
@[simp] abbrev GRID_DC_CNT : Nat := 0x40080034
/-- GRID_ILV, FIXED (R371) -/
@[simp] abbrev GRID_ILV : Nat := 0x40080038
/-- GRID_DC(p), p = 0…2, RO (R371) -/
@[simp] abbrev GRID_DC (p : Nat) : Nat := 0x40080040 + 4 * p

/-! ### 11_ride_through_and_islanding.md -/

/-- GRID_RT_CTRL, RW/W1S (R407) -/
@[simp] abbrev GRID_RT_CTRL : Nat := 0x40080100
/-- GRID_RT_STATUS, RO (R407) -/
@[simp] abbrev GRID_RT_STATUS : Nat := 0x40080104
/-- GRID_RT_STICKY, W1C (R407) -/
@[simp] abbrev GRID_RT_STICKY : Nat := 0x40080108
/-- GRID_TRIP_INFO, RO (R407) -/
@[simp] abbrev GRID_TRIP_INFO : Nat := 0x4008010C
/-- GRID_TRIP_TICK, RO (R407) -/
@[simp] abbrev GRID_TRIP_TICK : Nat := 0x40080110
/-- GRID_RC_LEFT, RO (R407) -/
@[simp] abbrev GRID_RC_LEFT : Nat := 0x40080114
/-- GRID_RC_DRAW, RO (R407) -/
@[simp] abbrev GRID_RC_DRAW : Nat := 0x40080118
/-- GRID_RC_CEIL, RO (R407) -/
@[simp] abbrev GRID_RC_CEIL : Nat := 0x4008011C
/-- GRID_IQF, RO (R407) -/
@[simp] abbrev GRID_IQF : Nat := 0x40080120
/-- GRID_ISL_MEAS, RO (R407) -/
@[simp] abbrev GRID_ISL_MEAS : Nat := 0x40080124
/-- GRID_ISL_CNT, RO (R407) -/
@[simp] abbrev GRID_ISL_CNT : Nat := 0x40080128
/-- GRID_CURVE(c), c = 0…3, RO (R407) -/
@[simp] abbrev GRID_CURVE (c : Nat) : Nat := 0x40080130 + 4 * c
/-- RELAY_CFG, QUIET (R408) -/
@[simp] abbrev RELAY_CFG : Nat := 0x48030000
/-- RELAY_STATUS, RO (R408) -/
@[simp] abbrev RELAY_STATUS : Nat := 0x48030004
/-- RELAY_STICKY, W1C (R408) -/
@[simp] abbrev RELAY_STICKY : Nat := 0x48030008
/-- RELAY_OPTIME, RO (R408) -/
@[simp] abbrev RELAY_OPTIME : Nat := 0x4803000C
/-- RELAY_REFUSE, RO (R408) -/
@[simp] abbrev RELAY_REFUSE : Nat := 0x48030010
/-- RELAY_CNT, RO (R408) -/
@[simp] abbrev RELAY_CNT : Nat := 0x48030014
/-- RELAY_CLOSE_TICK, RO (R408) -/
@[simp] abbrev RELAY_CLOSE_TICK : Nat := 0x48030018

/-! ### 12_metering_and_vault.md -/

/-- METER_CTRL, RW (R440) -/
@[simp] abbrev METER_CTRL : Nat := 0x40090000
/-- METER_CFG, FIXED (R440) -/
@[simp] abbrev METER_CFG : Nat := 0x40090004
/-- METER_STATUS, RO (R440) -/
@[simp] abbrev METER_STATUS : Nat := 0x40090008
/-- METER_STICKY, W1C (R440) -/
@[simp] abbrev METER_STICKY : Nat := 0x4009000C
/-- METER_LATCH_NO, RO (R440) -/
@[simp] abbrev METER_LATCH_NO : Nat := 0x40090010
/-- METER_LATCH_TICK, RO (R440) -/
@[simp] abbrev METER_LATCH_TICK : Nat := 0x40090014
/-- METER_GAP, RO (R440) -/
@[simp] abbrev METER_GAP : Nat := 0x40090018
/-- METER_VAULT, RO (R440) -/
@[simp] abbrev METER_VAULT : Nat := 0x4009001C
/-- METER_FREQ, RO (R440) -/
@[simp] abbrev METER_FREQ : Nat := 0x40090020
/-- METER_IFS, FIXED (R440) -/
@[simp] abbrev METER_IFS : Nat := 0x40090024
/-- METER_TOT_LO(q, p), RO (R440) -/
@[simp] abbrev METER_TOT_LO (q p : Nat) : Nat := 0x40090100 + 0x20 * q + 8 * p
/-- METER_TOT_HI(q, p), RO (R440) -/
@[simp] abbrev METER_TOT_HI (q p : Nat) : Nat := 0x40090104 + 0x20 * q + 8 * p
/-- METER_DELTA(q, p), RO (R440) -/
@[simp] abbrev METER_DELTA (q p : Nat) : Nat := 0x40090200 + 0x10 * q + 4 * p
/-- METER_VRMS(p), RO (R440) -/
@[simp] abbrev METER_VRMS (p : Nat) : Nat := 0x40090300 + 0x20 * p
/-- METER_IRMS(p), RO (R440) -/
@[simp] abbrev METER_IRMS (p : Nat) : Nat := 0x40090304 + 0x20 * p
/-- METER_P(p), RO (R440) -/
@[simp] abbrev METER_P (p : Nat) : Nat := 0x40090308 + 0x20 * p
/-- METER_Q(p), RO (R440) -/
@[simp] abbrev METER_Q (p : Nat) : Nat := 0x4009030C + 0x20 * p
/-- METER_S(p), RO (R440) -/
@[simp] abbrev METER_S (p : Nat) : Nat := 0x40090310 + 0x20 * p
/-- METER_PF(p), RO (R440) -/
@[simp] abbrev METER_PF (p : Nat) : Nat := 0x40090314 + 0x20 * p
/-- METER_ANGLE(p), RO (R440) -/
@[simp] abbrev METER_ANGLE (p : Nat) : Nat := 0x40090318 + 0x20 * p
/-- METER_PINFO(p), RO (R440) -/
@[simp] abbrev METER_PINFO (p : Nat) : Nat := 0x4009031C + 0x20 * p
/-- METER_FCORR(r, p, s), RO (R440) -/
@[simp] abbrev METER_FCORR (r p s : Nat) : Nat := 0x40090400 + 0x10 * (24 * r + 8 * p + s)
/-- METER_CORR(p, s), FIXED (R440) -/
@[simp] abbrev METER_CORR (p s : Nat) : Nat := 0x40090900 + 0x10 * (8 * p + s)

/-! ### 13_arc_detection_and_maintenance.md -/

/-- DIAG_MAINT_REQ, WO (R462) -/
@[simp] abbrev DIAG_MAINT_REQ : Nat := 0x400A0000
/-- DIAG_MAINT_ABORT, W1S (R462) -/
@[simp] abbrev DIAG_MAINT_ABORT : Nat := 0x400A0004
/-- DIAG_MAINT_RUN, RO (R462) -/
@[simp] abbrev DIAG_MAINT_RUN : Nat := 0x400A0008
/-- DIAG_MAINT_DONE, W1C (R462) -/
@[simp] abbrev DIAG_MAINT_DONE : Nat := 0x400A000C
/-- DIAG_MAINT_REFUSED, W1C (R462) -/
@[simp] abbrev DIAG_MAINT_REFUSED : Nat := 0x400A0010
/-- DIAG_MAINT_LAST, RO (R462) -/
@[simp] abbrev DIAG_MAINT_LAST : Nat := 0x400A0014
/-- DIAG_STICKY, W1C (R462) -/
@[simp] abbrev DIAG_STICKY : Nat := 0x400A0018
/-- DIAG_MAINT_RESULT(c), c = 1…12, RO (R462) -/
@[simp] abbrev DIAG_MAINT_RESULT (c : Nat) : Nat := 0x400A0040 + 4 * c
/-- DIAG_ARC_CTRL, RW (R462) -/
@[simp] abbrev DIAG_ARC_CTRL : Nat := 0x400A0100
/-- DIAG_ARC_CFG(x), x = 0…3, QUIET (R462) -/
@[simp] abbrev DIAG_ARC_CFG (x : Nat) : Nat := 0x400A0200 + 0x40 * x
/-- DIAG_ARC_WIN(x), QUIET (R462) -/
@[simp] abbrev DIAG_ARC_WIN (x : Nat) : Nat := 0x400A0204 + 0x40 * x
/-- DIAG_ARC_NOTCH(x), QUIET (R462) -/
@[simp] abbrev DIAG_ARC_NOTCH (x : Nat) : Nat := 0x400A0208 + 0x40 * x
/-- DIAG_ARC_IMIN(x), QUIET (R462) -/
@[simp] abbrev DIAG_ARC_IMIN (x : Nat) : Nat := 0x400A020C + 0x40 * x
/-- DIAG_ARC_STAT(x), RO (R462) -/
@[simp] abbrev DIAG_ARC_STAT (x : Nat) : Nat := 0x400A0210 + 0x40 * x
/-- DIAG_ARC_TICK(x), RO (R462) -/
@[simp] abbrev DIAG_ARC_TICK (x : Nat) : Nat := 0x400A0214 + 0x40 * x
/-- DIAG_ARC_FRAMES(x), RO (R462) -/
@[simp] abbrev DIAG_ARC_FRAMES (x : Nat) : Nat := 0x400A0218 + 0x40 * x
/-- DIAG_ARC_BAND(x, b), b = 0…7, QUIET (R462) -/
@[simp] abbrev DIAG_ARC_BAND (x b : Nat) : Nat := 0x400A0220 + 0x40 * x + 4 * b
/-- DIAG_IV_CFG, QUIET (R462) -/
@[simp] abbrev DIAG_IV_CFG : Nat := 0x400A0400
/-- DIAG_IV_BASE, QUIET (R462) -/
@[simp] abbrev DIAG_IV_BASE : Nat := 0x400A0404
/-- DIAG_IV_VHI, QUIET (R462) -/
@[simp] abbrev DIAG_IV_VHI : Nat := 0x400A0408
/-- DIAG_IV_VLO, QUIET (R462) -/
@[simp] abbrev DIAG_IV_VLO : Nat := 0x400A040C
/-- DIAG_IV_STATUS, RO (R462) -/
@[simp] abbrev DIAG_IV_STATUS : Nat := 0x400A0410
/-- DIAG_IV_TICK, RO (R462) -/
@[simp] abbrev DIAG_IV_TICK : Nat := 0x400A0414
/-- DIAG_ISO_LIMIT, QUIET (R462) -/
@[simp] abbrev DIAG_ISO_LIMIT : Nat := 0x400A0500
/-- DIAG_ISO_RESULT, RO (R462) -/
@[simp] abbrev DIAG_ISO_RESULT : Nat := 0x400A0504
/-- DIAG_ISO_V, RO (R462) -/
@[simp] abbrev DIAG_ISO_V : Nat := 0x400A0508
/-- DIAG_ISO_RFACT, RO (R462) -/
@[simp] abbrev DIAG_ISO_RFACT : Nat := 0x400A050C

/-! ### 14_curator.md -/

/-- CUR_STATUS, RO (R482) -/
@[simp] abbrev CUR_STATUS : Nat := 0x50000000
/-- CUR_CTRL, RW (R482) -/
@[simp] abbrev CUR_CTRL : Nat := 0x50000004
/-- CUR_LSTICKY, W1C (R482) -/
@[simp] abbrev CUR_LSTICKY : Nat := 0x50000008
/-- CUR_FIRST, RO/W1C (R482) -/
@[simp] abbrev CUR_FIRST : Nat := 0x5000000C
/-- CUR_FIRST_TICK, RO (R482) -/
@[simp] abbrev CUR_FIRST_TICK : Nat := 0x50000010
/-- CUR_SAFE_CAUSE, RO (R482) -/
@[simp] abbrev CUR_SAFE_CAUSE : Nat := 0x50000014
/-- CUR_INFO, RO (R482) -/
@[simp] abbrev CUR_INFO : Nat := 0x50000018
/-- CUR_UNFENCE, WO (R482) -/
@[simp] abbrev CUR_UNFENCE : Nat := 0x5000001C
/-- CUR_FENCED, RO (R482) -/
@[simp] abbrev CUR_FENCED : Nat := 0x50000020
/-- CUR_FENCED_OTHER, RO (R482) -/
@[simp] abbrev CUR_FENCED_OTHER : Nat := 0x50000024
/-- CUR_INJECT, WO (R482) -/
@[simp] abbrev CUR_INJECT : Nat := 0x50000028
/-- CUR_STICKY(w), w = 0…5, W1C (R482) -/
@[simp] abbrev CUR_STICKY (w : Nat) : Nat := 0x50000040 + 4 * w
/-- CUR_SEV(k), k = 0…47, LIVE/FIXED (R482) -/
@[simp] abbrev CUR_SEV (k : Nat) : Nat := 0x50000100 + 4 * k
/-- CUR_UNIT_CAUSE(u), u = 0…13, RO (R482) -/
@[simp] abbrev CUR_UNIT_CAUSE (u : Nat) : Nat := 0x50000200 + 4 * u

/-! ### 15_warden.md -/

/-- WARDEN_STATUS, RO (R503) -/
@[simp] abbrev WARDEN_STATUS : Nat := 0x50010000
/-- WARDEN_STICKY, W1C (R503) -/
@[simp] abbrev WARDEN_STICKY : Nat := 0x50010004
/-- WARDEN_RESET, WO (R503) -/
@[simp] abbrev WARDEN_RESET : Nat := 0x50010008
/-- WARDEN_PERMIT, WO/RW/W1S (R503) -/
@[simp] abbrev WARDEN_PERMIT : Nat := 0x5001000C
/-- WARDEN_PERMIT_LEFT, RO (R503) -/
@[simp] abbrev WARDEN_PERMIT_LEFT : Nat := 0x50010010
/-- WARDEN_REACT_TICK, RO (R503) -/
@[simp] abbrev WARDEN_REACT_TICK : Nat := 0x50010014
/-- WARDEN_TP_CNT, RO (R503) -/
@[simp] abbrev WARDEN_TP_CNT : Nat := 0x50010018
/-- WARDEN_CFG(i), i = 0…2, FIXED (R503) -/
@[simp] abbrev WARDEN_CFG (i : Nat) : Nat := 0x50010100 + 0x10 * i
/-- WARDEN_LEVEL(i), RO (R503) -/
@[simp] abbrev WARDEN_LEVEL (i : Nat) : Nat := 0x50010104 + 0x10 * i
/-- WARDEN_DEMAND_TICK(i), RO (R503) -/
@[simp] abbrev WARDEN_DEMAND_TICK (i : Nat) : Nat := 0x50010108 + 0x10 * i

/-! ### 16_hokuon_complex.md -/

/-- SYS_ECC_SRAM, RO/W1C (R534) -/
@[simp] abbrev SYS_ECC_SRAM : Nat := 0x40000080
/-- SYS_ECC_MRAM, RO/W1C (R534) -/
@[simp] abbrev SYS_ECC_MRAM : Nat := 0x40000084
/-- SYS_ECC_ADDR, RO (R534) -/
@[simp] abbrev SYS_ECC_ADDR : Nat := 0x40000088
/-- SYS_DOORBELL, W1S/W1C (R534) -/
@[simp] abbrev SYS_DOORBELL : Nat := 0x4000008C
/-- SYS_SEM(i), i = 0…15, RO/WO (R534) -/
@[simp] abbrev SYS_SEM (i : Nat) : Nat := 0x40000100 + 4 * i
/-- HIC_MTIME_LO(q), q = 0 HPA, 1 HPB, RO (R534) -/
@[simp] abbrev HIC_MTIME_LO (q : Nat) : Nat := 0x40001000 + 0x400 * q
/-- HIC_MTIME_HI(q), RO (R534) -/
@[simp] abbrev HIC_MTIME_HI (q : Nat) : Nat := 0x40001004 + 0x400 * q
/-- HIC_MTIMECMP_LO(q), RW (R534) -/
@[simp] abbrev HIC_MTIMECMP_LO (q : Nat) : Nat := 0x40001008 + 0x400 * q
/-- HIC_MTIMECMP_HI(q), RW (R534) -/
@[simp] abbrev HIC_MTIMECMP_HI (q : Nat) : Nat := 0x4000100C + 0x400 * q
/-- HIC_THRESHOLD(q), RW (R534) -/
@[simp] abbrev HIC_THRESHOLD (q : Nat) : Nat := 0x40001010 + 0x400 * q
/-- HIC_CLAIM(q), RO (R534) -/
@[simp] abbrev HIC_CLAIM (q : Nat) : Nat := 0x40001014 + 0x400 * q
/-- HIC_SRC(q, n), n = 0…63, RW/RO/W1C (R534) -/
@[simp] abbrev HIC_SRC (q n : Nat) : Nat := 0x40001100 + 0x400 * q + 4 * n
/-- PERF_CTRL, RW/W1S (R534) -/
@[simp] abbrev PERF_CTRL : Nat := 0x400B0000
/-- PERF_STATUS, RO/W1C (R534) -/
@[simp] abbrev PERF_STATUS : Nat := 0x400B0004
/-- PERF_ARCH_CTRL(k), k = 0…3, QUIET/RW (R534) -/
@[simp] abbrev PERF_ARCH_CTRL (k : Nat) : Nat := 0x400B0100 + 0x20 * k
/-- PERF_ARCH_WR(k), RO (R534) -/
@[simp] abbrev PERF_ARCH_WR (k : Nat) : Nat := 0x400B0104 + 0x20 * k
/-- PERF_CNT_LO(k, e), e = 0…95, RO (R534) -/
@[simp] abbrev PERF_CNT_LO (k e : Nat) : Nat := 0x400B1000 + 0x400 * k + 8 * e
/-- PERF_CNT_HI(k, e), RO (R534) -/
@[simp] abbrev PERF_CNT_HI (k e : Nat) : Nat := 0x400B1004 + 0x400 * k + 8 * e

/-! ### 17_power_domains_and_plinth.md -/

/-- SYS_PD_CTRL, RW (R562) -/
@[simp] abbrev SYS_PD_CTRL : Nat := 0x40000200
/-- SYS_PD_STATUS, RO (R562) -/
@[simp] abbrev SYS_PD_STATUS : Nat := 0x40000204
/-- SYS_PWR_STICKY, W1C (R562) -/
@[simp] abbrev SYS_PWR_STICKY : Nat := 0x40000208
/-- SYS_OP, QUIET (R562) -/
@[simp] abbrev SYS_OP : Nat := 0x4000020C
/-- SYS_OP_STATUS, RO (R562) -/
@[simp] abbrev SYS_OP_STATUS : Nat := 0x40000210
/-- SYS_RAILS, RO (R562) -/
@[simp] abbrev SYS_RAILS : Nat := 0x40000214
/-- SYS_PAD_HOLD, RO (R562) -/
@[simp] abbrev SYS_PAD_HOLD : Nat := 0x40000220
/-- SYS_PAD_RELEASE, W1S (R562) -/
@[simp] abbrev SYS_PAD_RELEASE : Nat := 0x40000224
/-- SYS_GPIO_OUT, RW (R562) -/
@[simp] abbrev SYS_GPIO_OUT : Nat := 0x40000240
/-- SYS_GPIO_OE, RW (R562) -/
@[simp] abbrev SYS_GPIO_OE : Nat := 0x40000244
/-- SYS_GPIO_IN, RO (R562) -/
@[simp] abbrev SYS_GPIO_IN : Nat := 0x40000248
/-- SYS_GPIO_IEN, RW (R562) -/
@[simp] abbrev SYS_GPIO_IEN : Nat := 0x4000024C
/-- SYS_GPIO_EVT, W1C (R562) -/
@[simp] abbrev SYS_GPIO_EVT : Nat := 0x40000250
/-- PLINTH_STATUS, RO (R563) -/
@[simp] abbrev PLINTH_STATUS : Nat := 0x400D0000
/-- PLINTH_STICKY, W1C (R563) -/
@[simp] abbrev PLINTH_STICKY : Nat := 0x400D0004
/-- PLINTH_CTRL, W1S (R563) -/
@[simp] abbrev PLINTH_CTRL : Nat := 0x400D0008
/-- PLINTH_WAKE_EN, RW (R563) -/
@[simp] abbrev PLINTH_WAKE_EN : Nat := 0x400D000C
/-- PLINTH_WAKE_CAUSE, RO (R563) -/
@[simp] abbrev PLINTH_WAKE_CAUSE : Nat := 0x400D0010
/-- PLINTH_TWW_ADDR, RW (R563) -/
@[simp] abbrev PLINTH_TWW_ADDR : Nat := 0x400D0014
/-- PLINTH_ALARM, RW (R563) -/
@[simp] abbrev PLINTH_ALARM : Nat := 0x400D0018
/-- PLINTH_RTC_SEC, RW (R563) -/
@[simp] abbrev PLINTH_RTC_SEC : Nat := 0x400D001C
/-- PLINTH_RTC_SUB, RO (R563) -/
@[simp] abbrev PLINTH_RTC_SUB : Nat := 0x400D0020
/-- PLINTH_RTC_TRIM, RW (R563) -/
@[simp] abbrev PLINTH_RTC_TRIM : Nat := 0x400D0024
/-- PLINTH_CYC_LO, RO (R563) -/
@[simp] abbrev PLINTH_CYC_LO : Nat := 0x400D0028
/-- PLINTH_CYC_HI, RO (R563) -/
@[simp] abbrev PLINTH_CYC_HI : Nat := 0x400D002C
/-- PLINTH_VPF, FIXED (R563) -/
@[simp] abbrev PLINTH_VPF : Nat := 0x400D0030
/-- PLINTH_SESSION, RW (R563) -/
@[simp] abbrev PLINTH_SESSION : Nat := 0x400D0034
/-- PLINTH_ACT_CNT, RO (R563) -/
@[simp] abbrev PLINTH_ACT_CNT : Nat := 0x400D0038
/-- PLINTH_SLEEP, WO (R563) -/
@[simp] abbrev PLINTH_SLEEP : Nat := 0x400D003C
/-- PLINTH_RETAIN(i), i = 0…7, RW (R563) -/
@[simp] abbrev PLINTH_RETAIN (i : Nat) : Nat := 0x400D0040 + 4 * i

/-! ### 18_svauth_trust.md -/

/-- SV_CMD(q), WO (R592) -/
@[simp] abbrev SV_CMD (q : Nat) : Nat := 0x58000000 + 0x4000 * q
/-- SV_STATUS(q), RO/W1C (R592) -/
@[simp] abbrev SV_STATUS (q : Nat) : Nat := 0x58000004 + 0x4000 * q
/-- SV_REQ(q), RW (R592) -/
@[simp] abbrev SV_REQ (q : Nat) : Nat := 0x58001000 + 0x4000 * q
/-- SV_RSP(q), RO (R592) -/
@[simp] abbrev SV_RSP (q : Nat) : Nat := 0x58002000 + 0x4000 * q
/-- SV_INFO, RO (R592) -/
@[simp] abbrev SV_INFO : Nat := 0x58008000
/-- SV_BOOT, RO (R592) -/
@[simp] abbrev SV_BOOT : Nat := 0x58008004
/-- SV_ARB, RO (R592) -/
@[simp] abbrev SV_ARB : Nat := 0x58008008
/-- SV_PERMIT_LEFT, RO (R592) -/
@[simp] abbrev SV_PERMIT_LEFT : Nat := 0x5800800C
/-- SV_STICKY, W1C (R592) -/
@[simp] abbrev SV_STICKY : Nat := 0x58008010

/-! ### 19_start_up_and_foyer.md -/

/-- SYS_RESET, WO (R620) -/
@[simp] abbrev SYS_RESET : Nat := 0x40000300
/-- SYS_RESET_CAUSE, RO/W1C (R620) -/
@[simp] abbrev SYS_RESET_CAUSE : Nat := 0x40000304
/-- SYS_FOYER, RO (R620) -/
@[simp] abbrev SYS_FOYER : Nat := 0x40000308
/-- SYS_START, RO (R620) -/
@[simp] abbrev SYS_START : Nat := 0x4000030C
/-- SYS_START_TICK, RO (R620) -/
@[simp] abbrev SYS_START_TICK : Nat := 0x40000310
/-- SYS_WDT, RW (R620) -/
@[simp] abbrev SYS_WDT : Nat := 0x40000314
/-- SYS_WDT_KICK, WO (R620) -/
@[simp] abbrev SYS_WDT_KICK : Nat := 0x40000318
/-- SYS_CORE_CTRL, RW (R620) -/
@[simp] abbrev SYS_CORE_CTRL : Nat := 0x4000031C
/-- SYS_HPB_ENTRY, RW (R620) -/
@[simp] abbrev SYS_HPB_ENTRY : Nat := 0x40000320

/-! ### 20_courier.md -/

/-- COURH_STATUS, RO (R648) -/
@[simp] abbrev COURH_STATUS : Nat := 0x400C0000
/-- COURH_STICKY, W1C (R648) -/
@[simp] abbrev COURH_STICKY : Nat := 0x400C0004
/-- COURH_HSPI_CFG, W1S (R648) -/
@[simp] abbrev COURH_HSPI_CFG : Nat := 0x400C0008
/-- COURH_IRQ_EN, RW (R648) -/
@[simp] abbrev COURH_IRQ_EN : Nat := 0x400C000C
/-- COURH_H2D_LEN, RO (R648) -/
@[simp] abbrev COURH_H2D_LEN : Nat := 0x400C0010
/-- COURH_H2D_DONE, W1S (R648) -/
@[simp] abbrev COURH_H2D_DONE : Nat := 0x400C0014
/-- COURH_D2H_LEN, RW (R648) -/
@[simp] abbrev COURH_D2H_LEN : Nat := 0x400C0018
/-- COURH_EVENT_DST, RW (R648) -/
@[simp] abbrev COURH_EVENT_DST : Nat := 0x400C001C
/-- COURH_CNT, RO (R648) -/
@[simp] abbrev COURH_CNT : Nat := 0x400C0020
/-- COURH_H2D_BUF, RO (R648) -/
@[simp] abbrev COURH_H2D_BUF : Nat := 0x400C1000
/-- COURH_D2H_BUF, RW (R648) -/
@[simp] abbrev COURH_D2H_BUF : Nat := 0x400C2000
/-- PLC_CTRL, RW (R649) -/
@[simp] abbrev PLC_CTRL : Nat := 0x48040000
/-- PLC_STATUS, RO (R649) -/
@[simp] abbrev PLC_STATUS : Nat := 0x48040004
/-- PLC_STICKY, W1C (R649) -/
@[simp] abbrev PLC_STICKY : Nat := 0x48040008
/-- PLC_ADDR, QUIET (R649) -/
@[simp] abbrev PLC_ADDR : Nat := 0x4804000C
/-- PLC_TX_LEVEL, RW (R649) -/
@[simp] abbrev PLC_TX_LEVEL : Nat := 0x48040010
/-- PLC_TT_CFG, RW (R649) -/
@[simp] abbrev PLC_TT_CFG : Nat := 0x48040014
/-- PLC_TT_CNT, RO (R649) -/
@[simp] abbrev PLC_TT_CNT : Nat := 0x48040018
/-- PLC_TT_DELAY, RO (R649) -/
@[simp] abbrev PLC_TT_DELAY : Nat := 0x4804001C
/-- PLC_CNT, RO (R649) -/
@[simp] abbrev PLC_CNT : Nat := 0x48040020
/-- PLC_ERR_CNT, RO (R649) -/
@[simp] abbrev PLC_ERR_CNT : Nat := 0x48040024
/-- PLC_SNR, RO (R649) -/
@[simp] abbrev PLC_SNR : Nat := 0x48040028

/-! ### The grid-die channel registers: same offsets as SENSP (Table SENS-12), m = channel number 0 to 9 -/

/-- The channel register CH_CFG of channel k: PS k below 16, GS k-16 from there -/
@[simp] abbrev CH_CFG (k : Nat) : Nat := (if k < 16 then 0x40030400 + 0x40 * k else 0x48000400 + 0x40 * (k - 16)) + 0x0
/-- The channel register CH_RES of channel k: PS k below 16, GS k-16 from there -/
@[simp] abbrev CH_RES (k : Nat) : Nat := (if k < 16 then 0x40030400 + 0x40 * k else 0x48000400 + 0x40 * (k - 16)) + 0x4
/-- The channel register CH_RES_FLAGS of channel k: PS k below 16, GS k-16 from there -/
@[simp] abbrev CH_RES_FLAGS (k : Nat) : Nat := (if k < 16 then 0x40030400 + 0x40 * k else 0x48000400 + 0x40 * (k - 16)) + 0x8
/-- The channel register CH_CAL_OFS of channel k: PS k below 16, GS k-16 from there -/
@[simp] abbrev CH_CAL_OFS (k : Nat) : Nat := (if k < 16 then 0x40030400 + 0x40 * k else 0x48000400 + 0x40 * (k - 16)) + 0xC
/-- The channel register CH_CAL_GAIN of channel k: PS k below 16, GS k-16 from there -/
@[simp] abbrev CH_CAL_GAIN (k : Nat) : Nat := (if k < 16 then 0x40030400 + 0x40 * k else 0x48000400 + 0x40 * (k - 16)) + 0x10
/-- The channel register CH_LC_COUNT of channel k: PS k below 16, GS k-16 from there -/
@[simp] abbrev CH_LC_COUNT (k : Nat) : Nat := (if k < 16 then 0x40030400 + 0x40 * k else 0x48000400 + 0x40 * (k - 16)) + 0x14
/-- The channel register CH_LC_LEN of channel k: PS k below 16, GS k-16 from there -/
@[simp] abbrev CH_LC_LEN (k : Nat) : Nat := (if k < 16 then 0x40030400 + 0x40 * k else 0x48000400 + 0x40 * (k - 16)) + 0x18
/-- The channel register CH_LC_FLAGS of channel k: PS k below 16, GS k-16 from there -/
@[simp] abbrev CH_LC_FLAGS (k : Nat) : Nat := (if k < 16 then 0x40030400 + 0x40 * k else 0x48000400 + 0x40 * (k - 16)) + 0x1C
/-- The channel register CH_RING_BASE of channel k: PS k below 16, GS k-16 from there -/
@[simp] abbrev CH_RING_BASE (k : Nat) : Nat := (if k < 16 then 0x40030400 + 0x40 * k else 0x48000400 + 0x40 * (k - 16)) + 0x20
/-- The channel register CH_RING_CTRL of channel k: PS k below 16, GS k-16 from there -/
@[simp] abbrev CH_RING_CTRL (k : Nat) : Nat := (if k < 16 then 0x40030400 + 0x40 * k else 0x48000400 + 0x40 * (k - 16)) + 0x24
/-- The channel register CH_RING_WR of channel k: PS k below 16, GS k-16 from there -/
@[simp] abbrev CH_RING_WR (k : Nat) : Nat := (if k < 16 then 0x40030400 + 0x40 * k else 0x48000400 + 0x40 * (k - 16)) + 0x28
/-- The channel register CH_RING_RD of channel k: PS k below 16, GS k-16 from there -/
@[simp] abbrev CH_RING_RD (k : Nat) : Nat := (if k < 16 then 0x40030400 + 0x40 * k else 0x48000400 + 0x40 * (k - 16)) + 0x2C
/-- The channel register CH_STATUS of channel k: PS k below 16, GS k-16 from there -/
@[simp] abbrev CH_STATUS (k : Nat) : Nat := (if k < 16 then 0x40030400 + 0x40 * k else 0x48000400 + 0x40 * (k - 16)) + 0x30

end R

namespace F

@[simp] abbrev SYS_ID_PART : Fld := ⟨R.SYS_ID, 16, 16⟩
@[simp] abbrev SYS_ID_MAJOR : Fld := ⟨R.SYS_ID, 12, 4⟩
@[simp] abbrev SYS_ID_MINOR : Fld := ⟨R.SYS_ID, 8, 4⟩
@[simp] abbrev SYS_ID_GRADE : Fld := ⟨R.SYS_ID, 4, 4⟩
@[simp] abbrev SYS_IMG_STATUS_SEL_REJECT : Fld := ⟨R.SYS_IMG_STATUS, 16, 1⟩
@[simp] abbrev SYS_IMG_STATUS_ERR : Fld := ⟨R.SYS_IMG_STATUS, 8, 8⟩
@[simp] abbrev SYS_IMG_STATUS_BUSY : Fld := ⟨R.SYS_IMG_STATUS, 4, 1⟩
@[simp] abbrev SYS_IMG_STATUS_STAGED_VALID_B : Fld := ⟨R.SYS_IMG_STATUS, 3, 1⟩
@[simp] abbrev SYS_IMG_STATUS_STAGED_VALID_A : Fld := ⟨R.SYS_IMG_STATUS, 2, 1⟩
@[simp] abbrev SYS_IMG_STATUS_ACTIVE : Fld := ⟨R.SYS_IMG_STATUS, 0, 1⟩
@[simp] abbrev SYS_IMG_SELECT_KEY : Fld := ⟨R.SYS_IMG_SELECT, 16, 16⟩
@[simp] abbrev SYS_IMG_SELECT_SLOT : Fld := ⟨R.SYS_IMG_SELECT, 0, 1⟩
@[simp] abbrev CLK_CTRL_SYNC_OUT_MODE : Fld := ⟨R.CLK_CTRL, 14, 2⟩
@[simp] abbrev CLK_CTRL_XTAL_CAP : Fld := ⟨R.CLK_CTRL, 8, 5⟩
@[simp] abbrev CLK_CTRL_DIVSYNC_ARM : Fld := ⟨R.CLK_CTRL, 4, 1⟩
@[simp] abbrev CLK_CTRL_REF_SEL : Fld := ⟨R.CLK_CTRL, 0, 1⟩
@[simp] abbrev CLK_N_N : Fld := ⟨R.CLK_N, 0, 9⟩
@[simp] abbrev CLK_STATUS_N_PENDING : Fld := ⟨R.CLK_STATUS, 8, 1⟩
@[simp] abbrev CLK_STATUS_ACTIVE_REF : Fld := ⟨R.CLK_STATUS, 7, 1⟩
@[simp] abbrev CLK_STATUS_DIV_ALIGNED : Fld := ⟨R.CLK_STATUS, 6, 1⟩
@[simp] abbrev CLK_STATUS_MARKS_OK : Fld := ⟨R.CLK_STATUS, 5, 1⟩
@[simp] abbrev CLK_STATUS_SYNC_OK : Fld := ⟨R.CLK_STATUS, 4, 1⟩
@[simp] abbrev CLK_STATUS_XIN_OK : Fld := ⟨R.CLK_STATUS, 3, 1⟩
@[simp] abbrev CLK_STATUS_COAST : Fld := ⟨R.CLK_STATUS, 2, 1⟩
@[simp] abbrev CLK_STATUS_MUTED : Fld := ⟨R.CLK_STATUS, 1, 1⟩
@[simp] abbrev CLK_STATUS_LOCK : Fld := ⟨R.CLK_STATUS, 0, 1⟩
@[simp] abbrev CLK_STICKY_COAST_LIMIT : Fld := ⟨R.CLK_STICKY, 5, 1⟩
@[simp] abbrev CLK_STICKY_CFG_REJECT : Fld := ⟨R.CLK_STICKY, 4, 1⟩
@[simp] abbrev CLK_STICKY_DIV_SLIP : Fld := ⟨R.CLK_STICKY, 3, 1⟩
@[simp] abbrev CLK_STICKY_MARK_ERR : Fld := ⟨R.CLK_STICKY, 2, 1⟩
@[simp] abbrev CLK_STICKY_REF_LOST : Fld := ⟨R.CLK_STICKY, 1, 1⟩
@[simp] abbrev CLK_STICKY_LOCK_LOST : Fld := ⟨R.CLK_STICKY, 0, 1⟩
@[simp] abbrev CLK_COAST_COAST_CNT : Fld := ⟨R.CLK_COAST, 16, 16⟩
@[simp] abbrev CLK_COAST_COAST_MS : Fld := ⟨R.CLK_COAST, 0, 16⟩
@[simp] abbrev CLK_MARKS_MISS_CNT : Fld := ⟨R.CLK_MARKS, 16, 16⟩
@[simp] abbrev CLK_MARKS_MARK_CNT : Fld := ⟨R.CLK_MARKS, 0, 16⟩
@[simp] abbrev CLK_FREQ_OFFSET : Fld := ⟨R.CLK_FREQ, 0, 32⟩
@[simp] abbrev EPOCH_CTRL_RTC_CAP : Fld := ⟨R.EPOCH_CTRL, 6, 1⟩
@[simp] abbrev EPOCH_CTRL_MARK_ARM : Fld := ⟨R.EPOCH_CTRL, 5, 1⟩
@[simp] abbrev EPOCH_CTRL_LOAD : Fld := ⟨R.EPOCH_CTRL, 4, 1⟩
@[simp] abbrev EPOCH_CTRL_MODE : Fld := ⟨R.EPOCH_CTRL, 0, 2⟩
@[simp] abbrev EPOCH_STATUS_TT_VALID : Fld := ⟨R.EPOCH_STATUS, 4, 1⟩
@[simp] abbrev EPOCH_STATUS_BAR_CAL_DONE : Fld := ⟨R.EPOCH_STATUS, 3, 1⟩
@[simp] abbrev EPOCH_STATUS_SLEWING : Fld := ⟨R.EPOCH_STATUS, 2, 1⟩
@[simp] abbrev EPOCH_STATUS_MARK_ARMED : Fld := ⟨R.EPOCH_STATUS, 1, 1⟩
@[simp] abbrev EPOCH_STATUS_ALIGNED : Fld := ⟨R.EPOCH_STATUS, 0, 1⟩
@[simp] abbrev EPOCH_STICKY_TT_RANGE : Fld := ⟨R.EPOCH_STICKY, 5, 1⟩
@[simp] abbrev EPOCH_STICKY_SCHED_LATE : Fld := ⟨R.EPOCH_STICKY, 4, 1⟩
@[simp] abbrev EPOCH_STICKY_BAR_SKEW : Fld := ⟨R.EPOCH_STICKY, 3, 1⟩
@[simp] abbrev EPOCH_STICKY_ISLAND_SKEW : Fld := ⟨R.EPOCH_STICKY, 2, 1⟩
@[simp] abbrev EPOCH_STICKY_MARK_SLIP : Fld := ⟨R.EPOCH_STICKY, 1, 1⟩
@[simp] abbrev EPOCH_STICKY_CFG_REJECT : Fld := ⟨R.EPOCH_STICKY, 0, 1⟩
@[simp] abbrev EPOCH_BAR_SKEW_MAX : Fld := ⟨R.EPOCH_BAR, 16, 16⟩
@[simp] abbrev EPOCH_BAR_DELAY : Fld := ⟨R.EPOCH_BAR, 0, 16⟩
@[simp] abbrev SCHED_ACTION_TARGET (e : Nat) : Fld := ⟨(R.SCHED_ACTION e), 16, 16⟩
@[simp] abbrev SCHED_ACTION_ACTION (e : Nat) : Fld := ⟨(R.SCHED_ACTION e), 0, 8⟩
@[simp] abbrev SCHED_CTRL_LATE (e : Nat) : Fld := ⟨(R.SCHED_CTRL e), 5, 1⟩
@[simp] abbrev SCHED_CTRL_STATE (e : Nat) : Fld := ⟨(R.SCHED_CTRL e), 3, 2⟩
@[simp] abbrev SCHED_CTRL_DISARM (e : Nat) : Fld := ⟨(R.SCHED_CTRL e), 1, 1⟩
@[simp] abbrev SCHED_CTRL_ARM (e : Nat) : Fld := ⟨(R.SCHED_CTRL e), 0, 1⟩
@[simp] abbrev SENSP_STATUS_CAL_BUSY : Fld := ⟨R.SENSP_STATUS, 2, 1⟩
@[simp] abbrev SENSG_STATUS_CAL_BUSY : Fld := ⟨R.SENSG_STATUS, 2, 1⟩
@[simp] abbrev SENSP_STATUS_MON_BUSY : Fld := ⟨R.SENSP_STATUS, 1, 1⟩
@[simp] abbrev SENSG_STATUS_MON_BUSY : Fld := ⟨R.SENSG_STATUS, 1, 1⟩
@[simp] abbrev SENSP_STATUS_DOMAIN_ON : Fld := ⟨R.SENSP_STATUS, 0, 1⟩
@[simp] abbrev SENSG_STATUS_DOMAIN_ON : Fld := ⟨R.SENSG_STATUS, 0, 1⟩
@[simp] abbrev SENSP_STICKY_CAL_FAIL : Fld := ⟨R.SENSP_STICKY, 5, 1⟩
@[simp] abbrev SENSG_STICKY_CAL_FAIL : Fld := ⟨R.SENSG_STICKY, 5, 1⟩
@[simp] abbrev SENSP_STICKY_LC_LATE : Fld := ⟨R.SENSP_STICKY, 4, 1⟩
@[simp] abbrev SENSG_STICKY_LC_LATE : Fld := ⟨R.SENSG_STICKY, 4, 1⟩
@[simp] abbrev SENSP_STICKY_WIN_SKIP : Fld := ⟨R.SENSP_STICKY, 3, 1⟩
@[simp] abbrev SENSG_STICKY_WIN_SKIP : Fld := ⟨R.SENSG_STICKY, 3, 1⟩
@[simp] abbrev SENSP_STICKY_STREAM_OVF : Fld := ⟨R.SENSP_STICKY, 2, 1⟩
@[simp] abbrev SENSG_STICKY_STREAM_OVF : Fld := ⟨R.SENSG_STICKY, 2, 1⟩
@[simp] abbrev SENSP_STICKY_OVR : Fld := ⟨R.SENSP_STICKY, 1, 1⟩
@[simp] abbrev SENSG_STICKY_OVR : Fld := ⟨R.SENSG_STICKY, 1, 1⟩
@[simp] abbrev SENSP_STICKY_CFG_REJECT : Fld := ⟨R.SENSP_STICKY, 0, 1⟩
@[simp] abbrev SENSG_STICKY_CFG_REJECT : Fld := ⟨R.SENSG_STICKY, 0, 1⟩
@[simp] abbrev SENSP_WG_CTRL_LEN_MODE (g : Nat) : Fld := ⟨(R.SENSP_WG_CTRL g), 2, 1⟩
@[simp] abbrev SENSP_WG_CTRL_BURST (g : Nat) : Fld := ⟨(R.SENSP_WG_CTRL g), 1, 1⟩
@[simp] abbrev SENSP_WG_CTRL_EN (g : Nat) : Fld := ⟨(R.SENSP_WG_CTRL g), 0, 1⟩
@[simp] abbrev SENSP_WG_CFG_SIDE (g : Nat) : Fld := ⟨(R.SENSP_WG_CFG g), 16, 1⟩
@[simp] abbrev SENSP_WG_CFG_WEIGHT (g : Nat) : Fld := ⟨(R.SENSP_WG_CFG g), 8, 1⟩
@[simp] abbrev SENSP_WG_CFG_TRIG_UNIT (g : Nat) : Fld := ⟨(R.SENSP_WG_CFG g), 3, 5⟩
@[simp] abbrev SENSP_WG_CFG_TRIG_SRC (g : Nat) : Fld := ⟨(R.SENSP_WG_CFG g), 0, 3⟩
@[simp] abbrev SENSP_WG_TIMING_DELAY (g : Nat) : Fld := ⟨(R.SENSP_WG_TIMING g), 16, 16⟩
@[simp] abbrev SENSP_WG_TIMING_LENGTH (g : Nat) : Fld := ⟨(R.SENSP_WG_TIMING g), 0, 16⟩
@[simp] abbrev SENSP_WG_STATUS_SEQ (g : Nat) : Fld := ⟨(R.SENSP_WG_STATUS g), 16, 16⟩
@[simp] abbrev SENSP_WG_STATUS_IDLE (g : Nat) : Fld := ⟨(R.SENSP_WG_STATUS g), 2, 1⟩
@[simp] abbrev SENSP_WG_STATUS_OPEN (g : Nat) : Fld := ⟨(R.SENSP_WG_STATUS g), 0, 2⟩
@[simp] abbrev CH_CFG_SINGLE (k : Nat) : Fld := ⟨(R.CH_CFG k), 20, 1⟩
@[simp] abbrev CH_CFG_STREAM (k : Nat) : Fld := ⟨(R.CH_CFG k), 16, 3⟩
@[simp] abbrev CH_CFG_DEST (k : Nat) : Fld := ⟨(R.CH_CFG k), 8, 7⟩
@[simp] abbrev CH_CFG_ALIGN (k : Nat) : Fld := ⟨(R.CH_CFG k), 4, 1⟩
@[simp] abbrev CH_CFG_RANGE (k : Nat) : Fld := ⟨(R.CH_CFG k), 0, 2⟩
@[simp] abbrev CH_CAL_OFS_CAL_OFS (k : Nat) : Fld := ⟨(R.CH_CAL_OFS k), 0, 16⟩
@[simp] abbrev CH_CAL_GAIN_CAL_GAIN (k : Nat) : Fld := ⟨(R.CH_CAL_GAIN k), 0, 20⟩
@[simp] abbrev CH_RING_CTRL_SIZE_LOG2 (k : Nat) : Fld := ⟨(R.CH_RING_CTRL k), 8, 4⟩
@[simp] abbrev CH_RING_CTRL_EN (k : Nat) : Fld := ⟨(R.CH_RING_CTRL k), 0, 1⟩
@[simp] abbrev CH_STATUS_STREAM_OVF (k : Nat) : Fld := ⟨(R.CH_STATUS k), 3, 1⟩
@[simp] abbrev CH_STATUS_OVR_NOW (k : Nat) : Fld := ⟨(R.CH_STATUS k), 2, 1⟩
@[simp] abbrev CH_STATUS_POWERED (k : Nat) : Fld := ⟨(R.CH_STATUS k), 1, 1⟩
@[simp] abbrev CH_STATUS_IDLE (k : Nat) : Fld := ⟨(R.CH_STATUS k), 0, 1⟩
@[simp] abbrev WCMPP_STATUS_TEST_BUSY : Fld := ⟨R.WCMPP_STATUS, 2, 1⟩
@[simp] abbrev WCMPG_STATUS_TEST_BUSY : Fld := ⟨R.WCMPG_STATUS, 2, 1⟩
@[simp] abbrev WCMPP_STATUS_ANY_PENDING : Fld := ⟨R.WCMPP_STATUS, 1, 1⟩
@[simp] abbrev WCMPG_STATUS_ANY_PENDING : Fld := ⟨R.WCMPG_STATUS, 1, 1⟩
@[simp] abbrev WCMPP_STATUS_ANY_TRIP : Fld := ⟨R.WCMPP_STATUS, 0, 1⟩
@[simp] abbrev WCMPG_STATUS_ANY_TRIP : Fld := ⟨R.WCMPG_STATUS, 0, 1⟩
@[simp] abbrev WCMPP_STICKY_TEST_FAIL : Fld := ⟨R.WCMPP_STICKY, 2, 1⟩
@[simp] abbrev WCMPG_STICKY_TEST_FAIL : Fld := ⟨R.WCMPG_STICKY, 2, 1⟩
@[simp] abbrev WCMPP_STICKY_CLR_REFUSED : Fld := ⟨R.WCMPP_STICKY, 1, 1⟩
@[simp] abbrev WCMPG_STICKY_CLR_REFUSED : Fld := ⟨R.WCMPG_STICKY, 1, 1⟩
@[simp] abbrev WCMPP_STICKY_CFG_REJECT : Fld := ⟨R.WCMPP_STICKY, 0, 1⟩
@[simp] abbrev WCMPG_STICKY_CFG_REJECT : Fld := ⟨R.WCMPG_STICKY, 0, 1⟩
@[simp] abbrev WC_THR_HI (c : Nat) : Fld := ⟨(R.WC_THR c), 16, 10⟩
@[simp] abbrev WC_THR_LO (c : Nat) : Fld := ⟨(R.WC_THR c), 0, 10⟩
@[simp] abbrev WC_CFG_GROUPS (c : Nat) : Fld := ⟨(R.WC_CFG c), 8, 8⟩
@[simp] abbrev WC_CFG_CLEAR_MODE (c : Nat) : Fld := ⟨(R.WC_CFG c), 4, 2⟩
@[simp] abbrev WC_CFG_HYST (c : Nat) : Fld := ⟨(R.WC_CFG c), 0, 2⟩
@[simp] abbrev WC_STATUS_TRIP_CNT (c : Nat) : Fld := ⟨(R.WC_STATUS c), 16, 16⟩
@[simp] abbrev WC_STATUS_HYST_HOLD (c : Nat) : Fld := ⟨(R.WC_STATUS c), 7, 1⟩
@[simp] abbrev WC_STATUS_OUT_HI (c : Nat) : Fld := ⟨(R.WC_STATUS c), 6, 1⟩
@[simp] abbrev WC_STATUS_OUT_LO (c : Nat) : Fld := ⟨(R.WC_STATUS c), 5, 1⟩
@[simp] abbrev WC_STATUS_SIDE (c : Nat) : Fld := ⟨(R.WC_STATUS c), 4, 1⟩
@[simp] abbrev WC_STATUS_STATE (c : Nat) : Fld := ⟨(R.WC_STATUS c), 0, 2⟩
@[simp] abbrev WC_TEST_SKIPPED (c : Nat) : Fld := ⟨(R.WC_TEST c), 3, 1⟩
@[simp] abbrev WC_TEST_SWAP_FAIL (c : Nat) : Fld := ⟨(R.WC_TEST c), 2, 1⟩
@[simp] abbrev WC_TEST_TIE_HI_FAIL (c : Nat) : Fld := ⟨(R.WC_TEST c), 1, 1⟩
@[simp] abbrev WC_TEST_TIE_LO_FAIL (c : Nat) : Fld := ⟨(R.WC_TEST c), 0, 1⟩
@[simp] abbrev LP_CTRL_CLR_MAX (p : Nat) : Fld := ⟨(R.LP_CTRL p), 1, 1⟩
@[simp] abbrev LP_CTRL_EN (p : Nat) : Fld := ⟨(R.LP_CTRL p), 0, 1⟩
@[simp] abbrev LP_CFG_COMMIT_MASK (p : Nat) : Fld := ⟨(R.LP_CFG p), 16, 14⟩
@[simp] abbrev LP_CFG_TRIGGER_WG (p : Nat) : Fld := ⟨(R.LP_CFG p), 8, 2⟩
@[simp] abbrev LP_CFG_HAS_GRAPH (p : Nat) : Fld := ⟨(R.LP_CFG p), 4, 1⟩
@[simp] abbrev LP_CFG_PERIOD_UNIT (p : Nat) : Fld := ⟨(R.LP_CFG p), 0, 4⟩
@[simp] abbrev LP_STATUS_ECC_COR (p : Nat) : Fld := ⟨(R.LP_STATUS p), 16, 16⟩
@[simp] abbrev LP_STATUS_OVR_CONSEC (p : Nat) : Fld := ⟨(R.LP_STATUS p), 8, 4⟩
@[simp] abbrev LP_STATUS_PAIR_FENCED (p : Nat) : Fld := ⟨(R.LP_STATUS p), 6, 1⟩
@[simp] abbrev LP_STATUS_FENCED (p : Nat) : Fld := ⟨(R.LP_STATUS p), 5, 1⟩
@[simp] abbrev LP_STATUS_HELD_REC (p : Nat) : Fld := ⟨(R.LP_STATUS p), 4, 1⟩
@[simp] abbrev LP_STATUS_STATE (p : Nat) : Fld := ⟨(R.LP_STATUS p), 0, 3⟩
@[simp] abbrev LP_STICKY_PERIOD_RAISED (p : Nat) : Fld := ⟨(R.LP_STICKY p), 6, 1⟩
@[simp] abbrev LP_STICKY_REC_DROP (p : Nat) : Fld := ⟨(R.LP_STICKY p), 5, 1⟩
@[simp] abbrev LP_STICKY_ECC_UNCOR (p : Nat) : Fld := ⟨(R.LP_STICKY p), 4, 1⟩
@[simp] abbrev LP_STICKY_LOCKSTEP (p : Nat) : Fld := ⟨(R.LP_STICKY p), 3, 1⟩
@[simp] abbrev LP_STICKY_NUMERIC (p : Nat) : Fld := ⟨(R.LP_STICKY p), 2, 1⟩
@[simp] abbrev LP_STICKY_OVERRUN (p : Nat) : Fld := ⟨(R.LP_STICKY p), 1, 1⟩
@[simp] abbrev LP_STICKY_CFG_REJECT (p : Nat) : Fld := ⟨(R.LP_STICKY p), 0, 1⟩
@[simp] abbrev LP_CYCLES_MAX (p : Nat) : Fld := ⟨(R.LP_CYCLES p), 16, 16⟩
@[simp] abbrev LP_CYCLES_LAST (p : Nat) : Fld := ⟨(R.LP_CYCLES p), 0, 16⟩
@[simp] abbrev LP_SLACK_MIN (p : Nat) : Fld := ⟨(R.LP_SLACK p), 16, 16⟩
@[simp] abbrev LP_SLACK_LAST (p : Nat) : Fld := ⟨(R.LP_SLACK p), 0, 16⟩
@[simp] abbrev PWM_CTRL_CNT_CLR (u : Nat) : Fld := ⟨(R.PWM_CTRL u), 8, 1⟩
@[simp] abbrev PWM_CTRL_OWNER (u : Nat) : Fld := ⟨(R.PWM_CTRL u), 4, 2⟩
@[simp] abbrev PWM_CTRL_MODE (u : Nat) : Fld := ⟨(R.PWM_CTRL u), 2, 1⟩
@[simp] abbrev PWM_CTRL_SWAP (u : Nat) : Fld := ⟨(R.PWM_CTRL u), 1, 1⟩
@[simp] abbrev PWM_CTRL_INVERT (u : Nat) : Fld := ⟨(R.PWM_CTRL u), 0, 1⟩
@[simp] abbrev PWM_FRAC_CMPB_FRAC (u : Nat) : Fld := ⟨(R.PWM_FRAC u), 8, 4⟩
@[simp] abbrev PWM_FRAC_CMPA_FRAC (u : Nat) : Fld := ⟨(R.PWM_FRAC u), 0, 4⟩
@[simp] abbrev PWM_CFG_DEADTIME (u : Nat) : Fld := ⟨(R.PWM_CFG u), 16, 9⟩
@[simp] abbrev PWM_CFG_GROUPS (u : Nat) : Fld := ⟨(R.PWM_CFG u), 8, 8⟩
@[simp] abbrev PWM_CFG_PAIR_MODE (u : Nat) : Fld := ⟨(R.PWM_CFG u), 0, 1⟩
@[simp] abbrev PWM_FORCE_FORCE_B (u : Nat) : Fld := ⟨(R.PWM_FORCE u), 2, 2⟩
@[simp] abbrev PWM_FORCE_FORCE_A (u : Nat) : Fld := ⟨(R.PWM_FORCE u), 0, 2⟩
@[simp] abbrev PWM_STATUS_DITHER_IDX (u : Nat) : Fld := ⟨(R.PWM_STATUS u), 28, 4⟩
@[simp] abbrev PWM_STATUS_LEVEL_B (u : Nat) : Fld := ⟨(R.PWM_STATUS u), 9, 1⟩
@[simp] abbrev PWM_STATUS_LEVEL_A (u : Nat) : Fld := ⟨(R.PWM_STATUS u), 8, 1⟩
@[simp] abbrev PWM_STATUS_FORCED (u : Nat) : Fld := ⟨(R.PWM_STATUS u), 7, 1⟩
@[simp] abbrev PWM_STATUS_COMMIT_PENDING (u : Nat) : Fld := ⟨(R.PWM_STATUS u), 6, 1⟩
@[simp] abbrev PWM_STATUS_HELD_PREV (u : Nat) : Fld := ⟨(R.PWM_STATUS u), 5, 1⟩
@[simp] abbrev PWM_STATUS_HELD (u : Nat) : Fld := ⟨(R.PWM_STATUS u), 4, 1⟩
@[simp] abbrev PWM_STATUS_STATE (u : Nat) : Fld := ⟨(R.PWM_STATUS u), 0, 3⟩
@[simp] abbrev PWM_STICKY_COMMIT_DISCARD (u : Nat) : Fld := ⟨(R.PWM_STICKY u), 4, 1⟩
@[simp] abbrev PWM_STICKY_PERIOD_MIN (u : Nat) : Fld := ⟨(R.PWM_STICKY u), 3, 1⟩
@[simp] abbrev PWM_STICKY_COMMIT_LATE (u : Nat) : Fld := ⟨(R.PWM_STICKY u), 2, 1⟩
@[simp] abbrev PWM_STICKY_DUTY_CLAMP (u : Nat) : Fld := ⟨(R.PWM_STICKY u), 1, 1⟩
@[simp] abbrev PWM_STICKY_CFG_REJECT (u : Nat) : Fld := ⟨(R.PWM_STICKY u), 0, 1⟩
@[simp] abbrev DRV_STATUS_FENCED : Fld := ⟨R.DRV_STATUS, 16, 8⟩
@[simp] abbrev DRV_STATUS_HELD : Fld := ⟨R.DRV_STATUS, 8, 8⟩
@[simp] abbrev DRV_STATUS_LINK_OK : Fld := ⟨R.DRV_STATUS, 2, 1⟩
@[simp] abbrev DRV_STATUS_LOCKOUT : Fld := ⟨R.DRV_STATUS, 1, 1⟩
@[simp] abbrev DRV_STATUS_VDRV_OK : Fld := ⟨R.DRV_STATUS, 0, 1⟩
@[simp] abbrev DRV_STICKY_LINK_ERR : Fld := ⟨R.DRV_STICKY, 2, 1⟩
@[simp] abbrev DRV_STICKY_VDRV_UV : Fld := ⟨R.DRV_STICKY, 1, 1⟩
@[simp] abbrev DRV_STICKY_CFG_REJECT : Fld := ⟨R.DRV_STICKY, 0, 1⟩
@[simp] abbrev DRV_HB_CFG_DEADTIME (h : Nat) : Fld := ⟨(R.DRV_HB_CFG h), 16, 9⟩
@[simp] abbrev DRV_HB_CFG_REFRESH_PERIODS (h : Nat) : Fld := ⟨(R.DRV_HB_CFG h), 0, 7⟩
@[simp] abbrev DRV_HB_STATUS_REFRESH_CNT (h : Nat) : Fld := ⟨(R.DRV_HB_STATUS h), 16, 16⟩
@[simp] abbrev DRV_HB_STATUS_HI_RUN (h : Nat) : Fld := ⟨(R.DRV_HB_STATUS h), 8, 8⟩
@[simp] abbrev DRV_HB_STATUS_FENCED (h : Nat) : Fld := ⟨(R.DRV_HB_STATUS h), 5, 1⟩
@[simp] abbrev DRV_HB_STATUS_HELD (h : Nat) : Fld := ⟨(R.DRV_HB_STATUS h), 4, 1⟩
@[simp] abbrev DRV_HB_STATUS_REFRESHING (h : Nat) : Fld := ⟨(R.DRV_HB_STATUS h), 3, 1⟩
@[simp] abbrev DRV_HB_STATUS_HO (h : Nat) : Fld := ⟨(R.DRV_HB_STATUS h), 1, 1⟩
@[simp] abbrev DRV_HB_STATUS_LO (h : Nat) : Fld := ⟨(R.DRV_HB_STATUS h), 0, 1⟩
@[simp] abbrev DRV_HB_STICKY_BST_REFRESH (h : Nat) : Fld := ⟨(R.DRV_HB_STICKY h), 2, 1⟩
@[simp] abbrev DRV_HB_STICKY_INTERLOCK (h : Nat) : Fld := ⟨(R.DRV_HB_STICKY h), 1, 1⟩
@[simp] abbrev DRV_HB_STICKY_LATE (h : Nat) : Fld := ⟨(R.DRV_HB_STICKY h), 0, 1⟩
@[simp] abbrev LANE_CFG_DEADTIME (l : Nat) : Fld := ⟨(R.LANE_CFG l), 16, 9⟩
@[simp] abbrev LANE_CFG_USED (l : Nat) : Fld := ⟨(R.LANE_CFG l), 1, 1⟩
@[simp] abbrev LANE_CFG_PAIR_MODE (l : Nat) : Fld := ⟨(R.LANE_CFG l), 0, 1⟩
@[simp] abbrev LANE_COMP_COMP (l : Nat) : Fld := ⟨(R.LANE_COMP l), 0, 7⟩
@[simp] abbrev LANE_STAT_STATUS (l : Nat) : Fld := ⟨(R.LANE_STAT l), 24, 8⟩
@[simp] abbrev LANE_STAT_MISS_CONSEC (l : Nat) : Fld := ⟨(R.LANE_STAT l), 20, 4⟩
@[simp] abbrev LANE_STAT_STATE (l : Nat) : Fld := ⟨(R.LANE_STAT l), 0, 3⟩
@[simp] abbrev LANE_LSTICKY_ECHO (l : Nat) : Fld := ⟨(R.LANE_LSTICKY l), 8, 1⟩
@[simp] abbrev LANE_LSTICKY_RX_ERR (l : Nat) : Fld := ⟨(R.LANE_LSTICKY l), 7, 1⟩
@[simp] abbrev LANE_LSTICKY_OT (l : Nat) : Fld := ⟨(R.LANE_LSTICKY l), 6, 1⟩
@[simp] abbrev LANE_LSTICKY_UVLO (l : Nat) : Fld := ⟨(R.LANE_LSTICKY l), 5, 1⟩
@[simp] abbrev LANE_LSTICKY_DESAT (l : Nat) : Fld := ⟨(R.LANE_LSTICKY l), 4, 1⟩
@[simp] abbrev LANE_LSTICKY_NO_STATUS (l : Nat) : Fld := ⟨(R.LANE_LSTICKY l), 3, 1⟩
@[simp] abbrev LANE_LSTICKY_INTERLOCK (l : Nat) : Fld := ⟨(R.LANE_LSTICKY l), 2, 1⟩
@[simp] abbrev LANE_LSTICKY_LATE (l : Nat) : Fld := ⟨(R.LANE_LSTICKY l), 1, 1⟩
@[simp] abbrev LANE_LSTICKY_CFG_REJECT (l : Nat) : Fld := ⟨(R.LANE_LSTICKY l), 0, 1⟩
@[simp] abbrev GRID_CFG_NOM_F : Fld := ⟨R.GRID_CFG, 16, 8⟩
@[simp] abbrev GRID_CFG_GRID_PAIR : Fld := ⟨R.GRID_CFG, 8, 4⟩
@[simp] abbrev GRID_CFG_GRID_FORMING : Fld := ⟨R.GRID_CFG, 4, 1⟩
@[simp] abbrev GRID_CFG_GRID_TOPO : Fld := ⟨R.GRID_CFG, 0, 3⟩
@[simp] abbrev GRID_STATUS_DC_OVER : Fld := ⟨R.GRID_STATUS, 7, 1⟩
@[simp] abbrev GRID_STATUS_FW_ACTIVE : Fld := ⟨R.GRID_STATUS, 6, 1⟩
@[simp] abbrev GRID_STATUS_VW_ACTIVE : Fld := ⟨R.GRID_STATUS, 5, 1⟩
@[simp] abbrev GRID_STATUS_Q_LIMITED : Fld := ⟨R.GRID_STATUS, 4, 1⟩
@[simp] abbrev GRID_STATUS_FORMING : Fld := ⟨R.GRID_STATUS, 3, 1⟩
@[simp] abbrev GRID_STATUS_VALID : Fld := ⟨R.GRID_STATUS, 2, 1⟩
@[simp] abbrev GRID_STATUS_FREE : Fld := ⟨R.GRID_STATUS, 1, 1⟩
@[simp] abbrev GRID_STATUS_LOCK : Fld := ⟨R.GRID_STATUS, 0, 1⟩
@[simp] abbrev GRID_STICKY_DC_INJ : Fld := ⟨R.GRID_STICKY, 3, 1⟩
@[simp] abbrev GRID_STICKY_LOCK_LOST : Fld := ⟨R.GRID_STICKY, 2, 1⟩
@[simp] abbrev GRID_STICKY_VALID_LOST : Fld := ⟨R.GRID_STICKY, 1, 1⟩
@[simp] abbrev GRID_STICKY_CFG_REJECT : Fld := ⟨R.GRID_STICKY, 0, 1⟩
@[simp] abbrev GRID_RT_CTRL_OPEN : Fld := ⟨R.GRID_RT_CTRL, 2, 1⟩
@[simp] abbrev GRID_RT_CTRL_CLOSE : Fld := ⟨R.GRID_RT_CTRL, 1, 1⟩
@[simp] abbrev GRID_RT_CTRL_AUTO : Fld := ⟨R.GRID_RT_CTRL, 0, 1⟩
@[simp] abbrev GRID_RT_STATUS_PROBE : Fld := ⟨R.GRID_RT_STATUS, 17, 1⟩
@[simp] abbrev GRID_RT_STATUS_PASSIVE : Fld := ⟨R.GRID_RT_STATUS, 16, 1⟩
@[simp] abbrev GRID_RT_STATUS_FCI : Fld := ⟨R.GRID_RT_STATUS, 15, 1⟩
@[simp] abbrev GRID_RT_STATUS_CHECK_OK : Fld := ⟨R.GRID_RT_STATUS, 14, 1⟩
@[simp] abbrev GRID_RT_STATUS_RC_READY : Fld := ⟨R.GRID_RT_STATUS, 13, 1⟩
@[simp] abbrev GRID_RT_STATUS_OP_STATE : Fld := ⟨R.GRID_RT_STATUS, 8, 2⟩
@[simp] abbrev GRID_RT_STATUS_REGION : Fld := ⟨R.GRID_RT_STATUS, 4, 3⟩
@[simp] abbrev GRID_RT_STATUS_CONN_STATE : Fld := ⟨R.GRID_RT_STATUS, 0, 3⟩
@[simp] abbrev GRID_RT_STICKY_FCI_SEEN : Fld := ⟨R.GRID_RT_STICKY, 3, 1⟩
@[simp] abbrev GRID_RT_STICKY_CEASED : Fld := ⟨R.GRID_RT_STICKY, 2, 1⟩
@[simp] abbrev GRID_RT_STICKY_ISLAND : Fld := ⟨R.GRID_RT_STICKY, 1, 1⟩
@[simp] abbrev GRID_RT_STICKY_TRIPPED : Fld := ⟨R.GRID_RT_STICKY, 0, 1⟩
@[simp] abbrev GRID_TRIP_INFO_CURVE : Fld := ⟨R.GRID_TRIP_INFO, 12, 2⟩
@[simp] abbrev GRID_TRIP_INFO_POINT : Fld := ⟨R.GRID_TRIP_INFO, 8, 4⟩
@[simp] abbrev GRID_TRIP_INFO_CAUSE : Fld := ⟨R.GRID_TRIP_INFO, 0, 8⟩
@[simp] abbrev RELAY_CFG_REL_MAX : Fld := ⟨R.RELAY_CFG, 24, 8⟩
@[simp] abbrev RELAY_CFG_OP_INIT : Fld := ⟨R.RELAY_CFG, 16, 8⟩
@[simp] abbrev RELAY_CFG_HOLD : Fld := ⟨R.RELAY_CFG, 8, 8⟩
@[simp] abbrev RELAY_CFG_PULLIN : Fld := ⟨R.RELAY_CFG, 0, 8⟩
@[simp] abbrev RELAY_STATUS_CHECK_FB_ONLY : Fld := ⟨R.RELAY_STATUS, 11, 1⟩
@[simp] abbrev RELAY_STATUS_CHECK_STEP : Fld := ⟨R.RELAY_STATUS, 8, 3⟩
@[simp] abbrev RELAY_STATUS_VKX_DEAD : Fld := ⟨R.RELAY_STATUS, 7, 1⟩
@[simp] abbrev RELAY_STATUS_VKX_LIVE : Fld := ⟨R.RELAY_STATUS, 6, 1⟩
@[simp] abbrev RELAY_STATUS_K2_HOLD : Fld := ⟨R.RELAY_STATUS, 5, 1⟩
@[simp] abbrev RELAY_STATUS_K1_HOLD : Fld := ⟨R.RELAY_STATUS, 4, 1⟩
@[simp] abbrev RELAY_STATUS_K2_FB : Fld := ⟨R.RELAY_STATUS, 3, 1⟩
@[simp] abbrev RELAY_STATUS_K1_FB : Fld := ⟨R.RELAY_STATUS, 2, 1⟩
@[simp] abbrev RELAY_STATUS_K2_CMD : Fld := ⟨R.RELAY_STATUS, 1, 1⟩
@[simp] abbrev RELAY_STATUS_K1_CMD : Fld := ⟨R.RELAY_STATUS, 0, 1⟩
@[simp] abbrev RELAY_STICKY_FB_LOST : Fld := ⟨R.RELAY_STICKY, 5, 1⟩
@[simp] abbrev RELAY_STICKY_WELD : Fld := ⟨R.RELAY_STICKY, 4, 1⟩
@[simp] abbrev RELAY_STICKY_CLOSE_FAIL : Fld := ⟨R.RELAY_STICKY, 3, 1⟩
@[simp] abbrev RELAY_STICKY_CHECK_FAIL : Fld := ⟨R.RELAY_STICKY, 2, 1⟩
@[simp] abbrev RELAY_STICKY_REFUSED : Fld := ⟨R.RELAY_STICKY, 1, 1⟩
@[simp] abbrev RELAY_STICKY_CFG_REJECT : Fld := ⟨R.RELAY_STICKY, 0, 1⟩
@[simp] abbrev METER_CFG_VAULT_EVERY : Fld := ⟨R.METER_CFG, 16, 16⟩
@[simp] abbrev METER_CFG_LATCH_N : Fld := ⟨R.METER_CFG, 3, 13⟩
@[simp] abbrev METER_CFG_CORR_SOURCE : Fld := ⟨R.METER_CFG, 1, 1⟩
@[simp] abbrev METER_CFG_MODE : Fld := ⟨R.METER_CFG, 0, 1⟩
@[simp] abbrev METER_STATUS_PHASES : Fld := ⟨R.METER_STATUS, 4, 3⟩
@[simp] abbrev METER_STATUS_VAULT_NEW : Fld := ⟨R.METER_STATUS, 2, 1⟩
@[simp] abbrev METER_STATUS_VAULT_READY : Fld := ⟨R.METER_STATUS, 1, 1⟩
@[simp] abbrev METER_STATUS_RUN : Fld := ⟨R.METER_STATUS, 0, 1⟩
@[simp] abbrev METER_STICKY_LATCH : Fld := ⟨R.METER_STICKY, 7, 1⟩
@[simp] abbrev METER_STICKY_METER_OVR : Fld := ⟨R.METER_STICKY, 6, 1⟩
@[simp] abbrev METER_STICKY_CORR_CLAMP : Fld := ⟨R.METER_STICKY, 5, 1⟩
@[simp] abbrev METER_STICKY_CYCLE_LOST : Fld := ⟨R.METER_STICKY, 4, 1⟩
@[simp] abbrev METER_STICKY_VAULT_CRC : Fld := ⟨R.METER_STICKY, 3, 1⟩
@[simp] abbrev METER_STICKY_VAULT_GAP : Fld := ⟨R.METER_STICKY, 2, 1⟩
@[simp] abbrev METER_STICKY_DELTA_WRAP : Fld := ⟨R.METER_STICKY, 1, 1⟩
@[simp] abbrev METER_STICKY_CFG_REJECT : Fld := ⟨R.METER_STICKY, 0, 1⟩
@[simp] abbrev METER_PINFO_CLAMPED (p : Nat) : Fld := ⟨(R.METER_PINFO p), 11, 1⟩
@[simp] abbrev METER_PINFO_CAL_INV (p : Nat) : Fld := ⟨(R.METER_PINFO p), 10, 1⟩
@[simp] abbrev METER_PINFO_REF_DIST (p : Nat) : Fld := ⟨(R.METER_PINFO p), 9, 1⟩
@[simp] abbrev METER_PINFO_OVR (p : Nat) : Fld := ⟨(R.METER_PINFO p), 8, 1⟩
@[simp] abbrev METER_PINFO_FSEG (p : Nat) : Fld := ⟨(R.METER_PINFO p), 4, 3⟩
@[simp] abbrev METER_PINFO_SEG (p : Nat) : Fld := ⟨(R.METER_PINFO p), 0, 3⟩
@[simp] abbrev DIAG_MAINT_LAST_CODE : Fld := ⟨R.DIAG_MAINT_LAST, 24, 8⟩
@[simp] abbrev DIAG_MAINT_LAST_RESULT : Fld := ⟨R.DIAG_MAINT_LAST, 16, 8⟩
@[simp] abbrev DIAG_MAINT_LAST_REASON : Fld := ⟨R.DIAG_MAINT_LAST, 8, 8⟩
@[simp] abbrev DIAG_MAINT_LAST_BLOCKER : Fld := ⟨R.DIAG_MAINT_LAST, 0, 8⟩
@[simp] abbrev DIAG_MAINT_RESULT_RUNS (c : Nat) : Fld := ⟨(R.DIAG_MAINT_RESULT c), 16, 16⟩
@[simp] abbrev DIAG_MAINT_RESULT_RESULT (c : Nat) : Fld := ⟨(R.DIAG_MAINT_RESULT c), 0, 2⟩
@[simp] abbrev DIAG_STICKY_ARC_DET : Fld := ⟨R.DIAG_STICKY, 4, 4⟩
@[simp] abbrev DIAG_STICKY_BIST_FAIL : Fld := ⟨R.DIAG_STICKY, 3, 1⟩
@[simp] abbrev DIAG_STICKY_IV_NOWIN : Fld := ⟨R.DIAG_STICKY, 2, 1⟩
@[simp] abbrev DIAG_STICKY_ISO_LOW : Fld := ⟨R.DIAG_STICKY, 1, 1⟩
@[simp] abbrev DIAG_STICKY_CFG_REJECT : Fld := ⟨R.DIAG_STICKY, 0, 1⟩
@[simp] abbrev DIAG_ARC_CFG_ALPHA_LOG2 (x : Nat) : Fld := ⟨(R.DIAG_ARC_CFG x), 12, 4⟩
@[simp] abbrev DIAG_ARC_CFG_BAND_MIN (x : Nat) : Fld := ⟨(R.DIAG_ARC_CFG x), 8, 3⟩
@[simp] abbrev DIAG_ARC_CFG_THR (x : Nat) : Fld := ⟨(R.DIAG_ARC_CFG x), 0, 8⟩
@[simp] abbrev DIAG_ARC_WIN_K (x : Nat) : Fld := ⟨(R.DIAG_ARC_WIN x), 16, 10⟩
@[simp] abbrev DIAG_ARC_WIN_M (x : Nat) : Fld := ⟨(R.DIAG_ARC_WIN x), 0, 10⟩
@[simp] abbrev DIAG_ARC_NOTCH_NOTCH_EN (x : Nat) : Fld := ⟨(R.DIAG_ARC_NOTCH x), 8, 1⟩
@[simp] abbrev DIAG_ARC_NOTCH_NOTCH_W (x : Nat) : Fld := ⟨(R.DIAG_ARC_NOTCH x), 0, 8⟩
@[simp] abbrev DIAG_ARC_STAT_COUNT (x : Nat) : Fld := ⟨(R.DIAG_ARC_STAT x), 16, 10⟩
@[simp] abbrev DIAG_ARC_STAT_LAST_BANDS (x : Nat) : Fld := ⟨(R.DIAG_ARC_STAT x), 8, 8⟩
@[simp] abbrev DIAG_ARC_STAT_STATE (x : Nat) : Fld := ⟨(R.DIAG_ARC_STAT x), 0, 2⟩
@[simp] abbrev DIAG_ARC_BAND_HI_BIN (x b : Nat) : Fld := ⟨(R.DIAG_ARC_BAND x b), 16, 9⟩
@[simp] abbrev DIAG_ARC_BAND_LO_BIN (x b : Nat) : Fld := ⟨(R.DIAG_ARC_BAND x b), 0, 9⟩
@[simp] abbrev CUR_STATUS_INJECT_EN : Fld := ⟨R.CUR_STATUS, 3, 1⟩
@[simp] abbrev CUR_STATUS_PROFILE : Fld := ⟨R.CUR_STATUS, 2, 1⟩
@[simp] abbrev CUR_STATUS_ANY_FENCE : Fld := ⟨R.CUR_STATUS, 1, 1⟩
@[simp] abbrev CUR_STATUS_SAFE : Fld := ⟨R.CUR_STATUS, 0, 1⟩
@[simp] abbrev CUR_CTRL_FAULTN_FENCE : Fld := ⟨R.CUR_CTRL, 3, 1⟩
@[simp] abbrev CUR_CTRL_IRQ_MIN : Fld := ⟨R.CUR_CTRL, 0, 3⟩
@[simp] abbrev CUR_LSTICKY_VOTE_ERR : Fld := ⟨R.CUR_LSTICKY, 2, 1⟩
@[simp] abbrev CUR_LSTICKY_UNFENCE_REFUSED : Fld := ⟨R.CUR_LSTICKY, 1, 1⟩
@[simp] abbrev CUR_LSTICKY_CFG_REJECT : Fld := ⟨R.CUR_LSTICKY, 0, 1⟩
@[simp] abbrev CUR_INJECT_COPY : Fld := ⟨R.CUR_INJECT, 16, 2⟩
@[simp] abbrev CUR_INJECT_MODE : Fld := ⟨R.CUR_INJECT, 8, 2⟩
@[simp] abbrev CUR_INJECT_SRC : Fld := ⟨R.CUR_INJECT, 0, 8⟩
@[simp] abbrev WARDEN_STATUS_PERMIT : Fld := ⟨R.WARDEN_STATUS, 9, 1⟩
@[simp] abbrev WARDEN_STATUS_REACTION : Fld := ⟨R.WARDEN_STATUS, 8, 1⟩
@[simp] abbrev WARDEN_STATUS_DEMAND_NOW : Fld := ⟨R.WARDEN_STATUS, 0, 2⟩
@[simp] abbrev WARDEN_STICKY_TP_FAIL : Fld := ⟨R.WARDEN_STICKY, 12, 2⟩
@[simp] abbrev WARDEN_STICKY_DISCREP : Fld := ⟨R.WARDEN_STICKY, 8, 3⟩
@[simp] abbrev WARDEN_STICKY_DEMAND : Fld := ⟨R.WARDEN_STICKY, 4, 2⟩
@[simp] abbrev WARDEN_STICKY_PERMIT_ENDED : Fld := ⟨R.WARDEN_STICKY, 3, 1⟩
@[simp] abbrev WARDEN_STICKY_PERMIT_REFUSED : Fld := ⟨R.WARDEN_STICKY, 2, 1⟩
@[simp] abbrev WARDEN_STICKY_RESET_REFUSED : Fld := ⟨R.WARDEN_STICKY, 1, 1⟩
@[simp] abbrev WARDEN_STICKY_CFG_REJECT : Fld := ⟨R.WARDEN_STICKY, 0, 1⟩
@[simp] abbrev WARDEN_PERMIT_KEY : Fld := ⟨R.WARDEN_PERMIT, 16, 16⟩
@[simp] abbrev WARDEN_PERMIT_TIME : Fld := ⟨R.WARDEN_PERMIT, 6, 10⟩
@[simp] abbrev WARDEN_PERMIT_END : Fld := ⟨R.WARDEN_PERMIT, 1, 1⟩
@[simp] abbrev WARDEN_PERMIT_REQ : Fld := ⟨R.WARDEN_PERMIT, 0, 1⟩
@[simp] abbrev WARDEN_CFG_DISCREP (i : Nat) : Fld := ⟨(R.WARDEN_CFG i), 16, 16⟩
@[simp] abbrev WARDEN_CFG_FILTER (i : Nat) : Fld := ⟨(R.WARDEN_CFG i), 8, 8⟩
@[simp] abbrev WARDEN_CFG_TEST_PULSE (i : Nat) : Fld := ⟨(R.WARDEN_CFG i), 4, 1⟩
@[simp] abbrev WARDEN_CFG_USE (i : Nat) : Fld := ⟨(R.WARDEN_CFG i), 0, 2⟩
@[simp] abbrev WARDEN_LEVEL_STATE (i : Nat) : Fld := ⟨(R.WARDEN_LEVEL i), 4, 3⟩
@[simp] abbrev WARDEN_LEVEL_FILT_B (i : Nat) : Fld := ⟨(R.WARDEN_LEVEL i), 3, 1⟩
@[simp] abbrev WARDEN_LEVEL_FILT_A (i : Nat) : Fld := ⟨(R.WARDEN_LEVEL i), 2, 1⟩
@[simp] abbrev WARDEN_LEVEL_RAW_B (i : Nat) : Fld := ⟨(R.WARDEN_LEVEL i), 1, 1⟩
@[simp] abbrev WARDEN_LEVEL_RAW_A (i : Nat) : Fld := ⟨(R.WARDEN_LEVEL i), 0, 1⟩
@[simp] abbrev HIC_SRC_ACK (q n : Nat) : Fld := ⟨(R.HIC_SRC q n), 9, 1⟩
@[simp] abbrev HIC_SRC_PENDING (q n : Nat) : Fld := ⟨(R.HIC_SRC q n), 8, 1⟩
@[simp] abbrev HIC_SRC_EN (q n : Nat) : Fld := ⟨(R.HIC_SRC q n), 4, 1⟩
@[simp] abbrev HIC_SRC_PRIO (q n : Nat) : Fld := ⟨(R.HIC_SRC q n), 0, 4⟩
@[simp] abbrev PERF_ARCH_CTRL_EVENT (k : Nat) : Fld := ⟨(R.PERF_ARCH_CTRL k), 24, 8⟩
@[simp] abbrev PERF_ARCH_CTRL_K (k : Nat) : Fld := ⟨(R.PERF_ARCH_CTRL k), 16, 5⟩
@[simp] abbrev PERF_ARCH_CTRL_STOP_FULL (k : Nat) : Fld := ⟨(R.PERF_ARCH_CTRL k), 1, 1⟩
@[simp] abbrev PERF_ARCH_CTRL_EN (k : Nat) : Fld := ⟨(R.PERF_ARCH_CTRL k), 0, 1⟩
@[simp] abbrev SYS_PWR_STICKY_VOK_FAIL : Fld := ⟨R.SYS_PWR_STICKY, 1, 1⟩
@[simp] abbrev SYS_PWR_STICKY_CFG_REJECT : Fld := ⟨R.SYS_PWR_STICKY, 0, 1⟩
@[simp] abbrev SYS_OP_OP_PD5 : Fld := ⟨R.SYS_OP, 12, 2⟩
@[simp] abbrev SYS_OP_OP_PD4 : Fld := ⟨R.SYS_OP, 8, 2⟩
@[simp] abbrev SYS_OP_OP_PD3 : Fld := ⟨R.SYS_OP, 4, 2⟩
@[simp] abbrev SYS_OP_OP_PD2 : Fld := ⟨R.SYS_OP, 0, 2⟩
@[simp] abbrev SYS_OP_STATUS_STEPPING : Fld := ⟨R.SYS_OP_STATUS, 16, 4⟩
@[simp] abbrev SYS_OP_STATUS_CUR_PD5 : Fld := ⟨R.SYS_OP_STATUS, 12, 2⟩
@[simp] abbrev SYS_OP_STATUS_CUR_PD4 : Fld := ⟨R.SYS_OP_STATUS, 8, 2⟩
@[simp] abbrev SYS_OP_STATUS_CUR_PD3 : Fld := ⟨R.SYS_OP_STATUS, 4, 2⟩
@[simp] abbrev SYS_OP_STATUS_CUR_PD2 : Fld := ⟨R.SYS_OP_STATUS, 0, 2⟩
@[simp] abbrev SYS_RAILS_STORE_SUPPLY : Fld := ⟨R.SYS_RAILS, 6, 1⟩
@[simp] abbrev SYS_RAILS_BUCKA_ON : Fld := ⟨R.SYS_RAILS, 5, 1⟩
@[simp] abbrev SYS_RAILS_VISO_OK : Fld := ⟨R.SYS_RAILS, 4, 1⟩
@[simp] abbrev SYS_RAILS_VDRV_OK : Fld := ⟨R.SYS_RAILS, 3, 1⟩
@[simp] abbrev SYS_RAILS_VANA_OK : Fld := ⟨R.SYS_RAILS, 2, 1⟩
@[simp] abbrev SYS_RAILS_VIO_OK : Fld := ⟨R.SYS_RAILS, 1, 1⟩
@[simp] abbrev SYS_RAILS_VCORE_OK : Fld := ⟨R.SYS_RAILS, 0, 1⟩
@[simp] abbrev PLINTH_STATUS_PF_ACTIVE : Fld := ⟨R.PLINTH_STATUS, 11, 1⟩
@[simp] abbrev PLINTH_STATUS_CHARGING : Fld := ⟨R.PLINTH_STATUS, 10, 1⟩
@[simp] abbrev PLINTH_STATUS_HARVESTING : Fld := ⟨R.PLINTH_STATUS, 9, 1⟩
@[simp] abbrev PLINTH_STATUS_BELOW_ABORT : Fld := ⟨R.PLINTH_STATUS, 8, 1⟩
@[simp] abbrev PLINTH_STATUS_XMIT_OK : Fld := ⟨R.PLINTH_STATUS, 7, 1⟩
@[simp] abbrev PLINTH_STATUS_START_OK : Fld := ⟨R.PLINTH_STATUS, 6, 1⟩
@[simp] abbrev PLINTH_STATUS_MEAS_OK : Fld := ⟨R.PLINTH_STATUS, 5, 1⟩
@[simp] abbrev PLINTH_STATUS_VIN_OK : Fld := ⟨R.PLINTH_STATUS, 4, 1⟩
@[simp] abbrev PLINTH_STATUS_VIN_SEL : Fld := ⟨R.PLINTH_STATUS, 2, 2⟩
@[simp] abbrev PLINTH_STATUS_STATE : Fld := ⟨R.PLINTH_STATUS, 0, 2⟩
@[simp] abbrev PLINTH_STICKY_COLD_START : Fld := ⟨R.PLINTH_STICKY, 10, 1⟩
@[simp] abbrev PLINTH_STICKY_ABORTED_TIME : Fld := ⟨R.PLINTH_STICKY, 9, 1⟩
@[simp] abbrev PLINTH_STICKY_ABORTED_LOW : Fld := ⟨R.PLINTH_STICKY, 6, 3⟩
@[simp] abbrev PLINTH_STICKY_REFUSED_LOW : Fld := ⟨R.PLINTH_STICKY, 5, 1⟩
@[simp] abbrev PLINTH_STICKY_WAKE : Fld := ⟨R.PLINTH_STICKY, 4, 1⟩
@[simp] abbrev PLINTH_STICKY_PF_RESTORE : Fld := ⟨R.PLINTH_STICKY, 3, 1⟩
@[simp] abbrev PLINTH_STICKY_PF_WARN : Fld := ⟨R.PLINTH_STICKY, 2, 1⟩
@[simp] abbrev PLINTH_STICKY_CFG_REJECT : Fld := ⟨R.PLINTH_STICKY, 0, 1⟩
@[simp] abbrev SV_STATUS_RSP_LEN (q : Nat) : Fld := ⟨(R.SV_STATUS q), 16, 16⟩
@[simp] abbrev SV_STATUS_RESULT (q : Nat) : Fld := ⟨(R.SV_STATUS q), 8, 8⟩
@[simp] abbrev SV_STATUS_DONE (q : Nat) : Fld := ⟨(R.SV_STATUS q), 1, 1⟩
@[simp] abbrev SV_STATUS_BUSY (q : Nat) : Fld := ⟨(R.SV_STATUS q), 0, 1⟩
@[simp] abbrev SV_STICKY_REPLAY : Fld := ⟨R.SV_STICKY, 3, 1⟩
@[simp] abbrev SV_STICKY_AUTH_FAIL : Fld := ⟨R.SV_STICKY, 2, 1⟩
@[simp] abbrev SV_STICKY_LOG_ERR : Fld := ⟨R.SV_STICKY, 1, 1⟩
@[simp] abbrev SV_STICKY_CFG_REJECT : Fld := ⟨R.SV_STICKY, 0, 1⟩
@[simp] abbrev SV_INFO_PERMIT : Fld := ⟨R.SV_INFO, 12, 2⟩
@[simp] abbrev SV_INFO_REVOKED : Fld := ⟨R.SV_INFO, 8, 4⟩
@[simp] abbrev SV_INFO_ENROLLED : Fld := ⟨R.SV_INFO, 4, 4⟩
@[simp] abbrev SV_INFO_DEBUG_LOCK : Fld := ⟨R.SV_INFO, 3, 1⟩
@[simp] abbrev SV_INFO_APP_STRICT : Fld := ⟨R.SV_INFO, 2, 1⟩
@[simp] abbrev SV_INFO_DEVID_READY : Fld := ⟨R.SV_INFO, 1, 1⟩
@[simp] abbrev SV_INFO_FENCED : Fld := ⟨R.SV_INFO, 0, 1⟩
@[simp] abbrev SV_BOOT_APP_ERR : Fld := ⟨R.SV_BOOT, 24, 8⟩
@[simp] abbrev SV_BOOT_FW_ERR : Fld := ⟨R.SV_BOOT, 16, 8⟩
@[simp] abbrev SV_BOOT_APP_STATE : Fld := ⟨R.SV_BOOT, 8, 2⟩
@[simp] abbrev SV_BOOT_FW_SEL : Fld := ⟨R.SV_BOOT, 4, 1⟩
@[simp] abbrev SV_BOOT_FW_VALID_B : Fld := ⟨R.SV_BOOT, 3, 1⟩
@[simp] abbrev SV_BOOT_FW_VALID_A : Fld := ⟨R.SV_BOOT, 2, 1⟩
@[simp] abbrev SV_BOOT_BUSY : Fld := ⟨R.SV_BOOT, 1, 1⟩
@[simp] abbrev SV_BOOT_ACTIVE_FW : Fld := ⟨R.SV_BOOT, 0, 1⟩
@[simp] abbrev SYS_RESET_CAUSE_CFG_REJECT : Fld := ⟨R.SYS_RESET_CAUSE, 16, 1⟩
@[simp] abbrev SYS_RESET_CAUSE_FOYER_REQ : Fld := ⟨R.SYS_RESET_CAUSE, 6, 1⟩
@[simp] abbrev SYS_RESET_CAUSE_HPB : Fld := ⟨R.SYS_RESET_CAUSE, 5, 1⟩
@[simp] abbrev SYS_RESET_CAUSE_WATCHDOG : Fld := ⟨R.SYS_RESET_CAUSE, 4, 1⟩
@[simp] abbrev SYS_RESET_CAUSE_SOFT : Fld := ⟨R.SYS_RESET_CAUSE, 3, 1⟩
@[simp] abbrev SYS_RESET_CAUSE_PIN : Fld := ⟨R.SYS_RESET_CAUSE, 2, 1⟩
@[simp] abbrev SYS_RESET_CAUSE_POWER_UP : Fld := ⟨R.SYS_RESET_CAUSE, 1, 1⟩
@[simp] abbrev SYS_RESET_CAUSE_COLD : Fld := ⟨R.SYS_RESET_CAUSE, 0, 1⟩
@[simp] abbrev SYS_FOYER_IN_FOYER : Fld := ⟨R.SYS_FOYER, 31, 1⟩
@[simp] abbrev SYS_FOYER_DETAIL : Fld := ⟨R.SYS_FOYER, 8, 8⟩
@[simp] abbrev SYS_FOYER_CAUSE : Fld := ⟨R.SYS_FOYER, 0, 8⟩
@[simp] abbrev SYS_START_PHASE : Fld := ⟨R.SYS_START, 8, 4⟩
@[simp] abbrev SYS_START_GRID_CAL_DONE : Fld := ⟨R.SYS_START, 3, 1⟩
@[simp] abbrev SYS_START_GRID_DEFERRED : Fld := ⟨R.SYS_START, 2, 1⟩
@[simp] abbrev SYS_START_SUPPLY_FAIL : Fld := ⟨R.SYS_START, 1, 1⟩
@[simp] abbrev SYS_START_DONE : Fld := ⟨R.SYS_START, 0, 1⟩
@[simp] abbrev COURH_STATUS_H2D_DOC : Fld := ⟨R.COURH_STATUS, 4, 1⟩
@[simp] abbrev COURH_STATUS_SESSION : Fld := ⟨R.COURH_STATUS, 3, 1⟩
@[simp] abbrev COURH_STATUS_LOCKED : Fld := ⟨R.COURH_STATUS, 2, 1⟩
@[simp] abbrev COURH_STATUS_D2H_FULL : Fld := ⟨R.COURH_STATUS, 1, 1⟩
@[simp] abbrev COURH_STATUS_H2D_FULL : Fld := ⟨R.COURH_STATUS, 0, 1⟩
@[simp] abbrev COURH_STICKY_EVENT_LOST : Fld := ⟨R.COURH_STICKY, 5, 1⟩
@[simp] abbrev COURH_STICKY_REASM_DROP : Fld := ⟨R.COURH_STICKY, 4, 1⟩
@[simp] abbrev COURH_STICKY_BAD_MSG : Fld := ⟨R.COURH_STICKY, 3, 1⟩
@[simp] abbrev COURH_STICKY_ACCESS : Fld := ⟨R.COURH_STICKY, 2, 1⟩
@[simp] abbrev COURH_STICKY_H2D_OVF : Fld := ⟨R.COURH_STICKY, 1, 1⟩
@[simp] abbrev COURH_STICKY_CFG_REJECT : Fld := ⟨R.COURH_STICKY, 0, 1⟩
@[simp] abbrev PLC_CTRL_MOD_MAX : Fld := ⟨R.PLC_CTRL, 1, 2⟩
@[simp] abbrev PLC_CTRL_EN : Fld := ⟨R.PLC_CTRL, 0, 1⟩
@[simp] abbrev PLC_STATUS_FENCED : Fld := ⟨R.PLC_STATUS, 3, 1⟩
@[simp] abbrev PLC_STATUS_TT_WAIT : Fld := ⟨R.PLC_STATUS, 2, 1⟩
@[simp] abbrev PLC_STATUS_RX : Fld := ⟨R.PLC_STATUS, 1, 1⟩
@[simp] abbrev PLC_STATUS_TX : Fld := ⟨R.PLC_STATUS, 0, 1⟩
@[simp] abbrev PLC_STICKY_TT_INVALID : Fld := ⟨R.PLC_STICKY, 5, 1⟩
@[simp] abbrev PLC_STICKY_XMIT_REFUSED : Fld := ⟨R.PLC_STICKY, 4, 1⟩
@[simp] abbrev PLC_STICKY_SELFTEST_FAIL : Fld := ⟨R.PLC_STICKY, 3, 1⟩
@[simp] abbrev PLC_STICKY_ILIMIT : Fld := ⟨R.PLC_STICKY, 2, 1⟩
@[simp] abbrev PLC_STICKY_ABORTED : Fld := ⟨R.PLC_STICKY, 1, 1⟩
@[simp] abbrev PLC_STICKY_CFG_REJECT : Fld := ⟨R.PLC_STICKY, 0, 1⟩
@[simp] abbrev PLC_TT_CFG_MASTER_ADDR : Fld := ⟨R.PLC_TT_CFG, 16, 16⟩
@[simp] abbrev PLC_TT_CFG_INTERVAL : Fld := ⟨R.PLC_TT_CFG, 2, 14⟩
@[simp] abbrev PLC_TT_CFG_MASTER : Fld := ⟨R.PLC_TT_CFG, 1, 1⟩
@[simp] abbrev PLC_TT_CFG_EN : Fld := ⟨R.PLC_TT_CFG, 0, 1⟩

/-! ### Fields the register tables give in a register's description -/

@[simp] abbrev SYS_IMG_FLAGS_FLAGS : Fld := ⟨R.SYS_IMG_FLAGS, 0, 8⟩
@[simp] abbrev SYS_IMG_FLAGS_SIGNER : Fld := ⟨R.SYS_IMG_FLAGS, 16, 3⟩
@[simp] abbrev EPOCH_SYNC_COMP_C : Fld := ⟨R.EPOCH_SYNC_COMP, 0, 10⟩
@[simp] abbrev EPOCH_RATE_RATE : Fld := ⟨R.EPOCH_RATE, 0, 24⟩
@[simp] abbrev EPOCH_SLEW_SLEW : Fld := ⟨R.EPOCH_SLEW, 0, 24⟩
@[simp] abbrev SCHED_COUNT_COUNT (e : Nat) : Fld := ⟨(R.SCHED_COUNT e), 0, 16⟩
@[simp] abbrev SENSP_MON_CNT (s : Nat) : Fld := ⟨(R.SENSP_MON s), 16, 16⟩
@[simp] abbrev SENSP_MON_VAL (s : Nat) : Fld := ⟨(R.SENSP_MON s), 0, 16⟩
@[simp] abbrev SENSP_WG_INFO_LEN (g : Nat) : Fld := ⟨(R.SENSP_WG_INFO g), 16, 16⟩
@[simp] abbrev SENSP_WG_INFO_SKIP_CNT (g : Nat) : Fld := ⟨(R.SENSP_WG_INFO g), 0, 16⟩
@[simp] abbrev SENSG_DIE_TEMP_TEMP : Fld := ⟨R.SENSG_DIE_TEMP, 0, 16⟩
@[simp] abbrev SENSG_DIE_TEMP_CNT : Fld := ⟨R.SENSG_DIE_TEMP, 16, 16⟩
@[simp] abbrev LOOP_SHARE_SHARE_AVAIL : Fld := ⟨R.LOOP_SHARE, 0, 7⟩
@[simp] abbrev LOOP_SHARE_INPUTS : Fld := ⟨R.LOOP_SHARE, 8, 4⟩
@[simp] abbrev LP_OVR_CNT_CNT (p : Nat) : Fld := ⟨(R.LP_OVR_CNT p), 0, 16⟩
@[simp] abbrev LP_COST_CYCLE_ESTIMATE (p : Nat) : Fld := ⟨(R.LP_COST p), 0, 16⟩
@[simp] abbrev PWM_TIMING_MINOFF (u : Nat) : Fld := ⟨(R.PWM_TIMING u), 16, 16⟩
@[simp] abbrev PWM_TIMING_MINON (u : Nat) : Fld := ⟨(R.PWM_TIMING u), 0, 16⟩
@[simp] abbrev PWM_PULSE_CNT_STRETCH_CNT (u : Nat) : Fld := ⟨(R.PWM_PULSE_CNT u), 16, 16⟩
@[simp] abbrev PWM_PULSE_CNT_DROP_CNT (u : Nat) : Fld := ⟨(R.PWM_PULSE_CNT u), 0, 16⟩
@[simp] abbrev PWM_GROUPS_HELD : Fld := ⟨R.PWM_GROUPS, 0, 8⟩
@[simp] abbrev PWM_GROUPS_FENCED : Fld := ⟨R.PWM_GROUPS, 8, 8⟩
@[simp] abbrev PWM_GSTICKY_CFG_REJECT : Fld := ⟨R.PWM_GSTICKY, 0, 1⟩
@[simp] abbrev DRV_UV_CNT_CNT : Fld := ⟨R.DRV_UV_CNT, 0, 16⟩
@[simp] abbrev LANE_STICKY_CFG_REJECT : Fld := ⟨R.LANE_STICKY, 0, 1⟩
@[simp] abbrev LANE_CTRL_EN (l : Nat) : Fld := ⟨(R.LANE_CTRL l), 0, 1⟩
@[simp] abbrev LANE_CNT_HB (l : Nat) : Fld := ⟨(R.LANE_CNT l), 16, 16⟩
@[simp] abbrev LANE_CNT_EDGE (l : Nat) : Fld := ⟨(R.LANE_CNT l), 0, 16⟩
@[simp] abbrev LANE_ERR_CNT_RX_ERR (l : Nat) : Fld := ⟨(R.LANE_ERR_CNT l), 16, 16⟩
@[simp] abbrev LANE_ERR_CNT_MISSING (l : Nat) : Fld := ⟨(R.LANE_ERR_CNT l), 0, 16⟩
@[simp] abbrev GRID_MODE_FORMING : Fld := ⟨R.GRID_MODE, 0, 1⟩
@[simp] abbrev GRID_FREQ_FREQ : Fld := ⟨R.GRID_FREQ, 0, 20⟩
@[simp] abbrev GRID_V_HIGH : Fld := ⟨R.GRID_V, 16, 16⟩
@[simp] abbrev GRID_V_MEAN : Fld := ⟨R.GRID_V, 0, 16⟩
@[simp] abbrev GRID_P_CURT_P_CURT : Fld := ⟨R.GRID_P_CURT, 0, 16⟩
@[simp] abbrev GRID_Q_SET_Q_SET : Fld := ⟨R.GRID_Q_SET, 0, 16⟩
@[simp] abbrev GRID_PF_SET_PF_SET : Fld := ⟨R.GRID_PF_SET, 0, 16⟩
@[simp] abbrev GRID_ILV_ILV_COUNT : Fld := ⟨R.GRID_ILV, 8, 8⟩
@[simp] abbrev GRID_ILV_ILV_INDEX : Fld := ⟨R.GRID_ILV, 0, 8⟩
@[simp] abbrev GRID_ISL_MEAS_JUMP : Fld := ⟨R.GRID_ISL_MEAS, 16, 16⟩
@[simp] abbrev GRID_ISL_MEAS_ROCOF : Fld := ⟨R.GRID_ISL_MEAS, 0, 16⟩
@[simp] abbrev GRID_ISL_CNT_CONFIRM : Fld := ⟨R.GRID_ISL_CNT, 16, 16⟩
@[simp] abbrev GRID_ISL_CNT_PROBES : Fld := ⟨R.GRID_ISL_CNT, 0, 16⟩
@[simp] abbrev RELAY_OPTIME_M : Fld := ⟨R.RELAY_OPTIME, 16, 16⟩
@[simp] abbrev RELAY_OPTIME_OP_K2 : Fld := ⟨R.RELAY_OPTIME, 0, 16⟩
@[simp] abbrev RELAY_REFUSE_STEP : Fld := ⟨R.RELAY_REFUSE, 8, 8⟩
@[simp] abbrev RELAY_REFUSE_REASON : Fld := ⟨R.RELAY_REFUSE, 0, 8⟩
@[simp] abbrev RELAY_CNT_K2 : Fld := ⟨R.RELAY_CNT, 16, 16⟩
@[simp] abbrev RELAY_CNT_K1 : Fld := ⟨R.RELAY_CNT, 0, 16⟩
@[simp] abbrev METER_CTRL_EN : Fld := ⟨R.METER_CTRL, 0, 1⟩
@[simp] abbrev METER_VAULT_BAD : Fld := ⟨R.METER_VAULT, 16, 16⟩
@[simp] abbrev METER_VAULT_GAP_LATCHES : Fld := ⟨R.METER_VAULT, 0, 16⟩
@[simp] abbrev METER_FREQ_FREQ : Fld := ⟨R.METER_FREQ, 0, 20⟩
@[simp] abbrev DIAG_IV_CFG_TIME : Fld := ⟨R.DIAG_IV_CFG, 0, 9⟩
@[simp] abbrev DIAG_IV_STATUS_NOWIN : Fld := ⟨R.DIAG_IV_STATUS, 16, 16⟩
@[simp] abbrev DIAG_IV_STATUS_INPUT : Fld := ⟨R.DIAG_IV_STATUS, 12, 2⟩
@[simp] abbrev DIAG_IV_STATUS_DONE : Fld := ⟨R.DIAG_IV_STATUS, 0, 10⟩
@[simp] abbrev DIAG_ISO_LIMIT_LIMIT : Fld := ⟨R.DIAG_ISO_LIMIT, 0, 24⟩
@[simp] abbrev DIAG_ISO_RESULT_STATE : Fld := ⟨R.DIAG_ISO_RESULT, 30, 2⟩
@[simp] abbrev DIAG_ISO_RESULT_VALUE : Fld := ⟨R.DIAG_ISO_RESULT, 0, 24⟩
@[simp] abbrev DIAG_ISO_V_V_B : Fld := ⟨R.DIAG_ISO_V, 16, 16⟩
@[simp] abbrev DIAG_ISO_V_V_A : Fld := ⟨R.DIAG_ISO_V, 0, 16⟩
@[simp] abbrev DIAG_ISO_RFACT_R_ATT : Fld := ⟨R.DIAG_ISO_RFACT, 16, 16⟩
@[simp] abbrev DIAG_ISO_RFACT_R_BIAS : Fld := ⟨R.DIAG_ISO_RFACT, 0, 16⟩
@[simp] abbrev DIAG_ARC_FRAMES_SKIPPED (x : Nat) : Fld := ⟨(R.DIAG_ARC_FRAMES x), 16, 16⟩
@[simp] abbrev DIAG_ARC_FRAMES_EVALUATED (x : Nat) : Fld := ⟨(R.DIAG_ARC_FRAMES x), 0, 16⟩
@[simp] abbrev DIAG_ARC_IMIN_IMIN (x : Nat) : Fld := ⟨(R.DIAG_ARC_IMIN x), 0, 16⟩
@[simp] abbrev CUR_FIRST_VALID : Fld := ⟨R.CUR_FIRST, 31, 1⟩
@[simp] abbrev CUR_FIRST_SRC : Fld := ⟨R.CUR_FIRST, 0, 8⟩
@[simp] abbrev CUR_SAFE_CAUSE_ESC : Fld := ⟨R.CUR_SAFE_CAUSE, 9, 1⟩
@[simp] abbrev CUR_SAFE_CAUSE_VALID : Fld := ⟨R.CUR_SAFE_CAUSE, 8, 1⟩
@[simp] abbrev CUR_SAFE_CAUSE_SRC : Fld := ⟨R.CUR_SAFE_CAUSE, 0, 8⟩
@[simp] abbrev CUR_INFO_DRV_UNIT : Fld := ⟨R.CUR_INFO, 8, 4⟩
@[simp] abbrev CUR_INFO_PWM_UNIT : Fld := ⟨R.CUR_INFO, 0, 4⟩
@[simp] abbrev CUR_FENCED_UNITS : Fld := ⟨R.CUR_FENCED, 0, 14⟩
@[simp] abbrev CUR_FENCED_GROUPS : Fld := ⟨R.CUR_FENCED, 16, 8⟩
@[simp] abbrev CUR_FENCED_PAIRS : Fld := ⟨R.CUR_FENCED, 24, 6⟩
@[simp] abbrev CUR_FENCED_OTHER_SP : Fld := ⟨R.CUR_FENCED_OTHER, 0, 1⟩
@[simp] abbrev CUR_FENCED_OTHER_HPB : Fld := ⟨R.CUR_FENCED_OTHER, 1, 1⟩
@[simp] abbrev CUR_FENCED_OTHER_SVAUTH : Fld := ⟨R.CUR_FENCED_OTHER, 2, 1⟩
@[simp] abbrev CUR_FENCED_OTHER_PLC : Fld := ⟨R.CUR_FENCED_OTHER, 3, 1⟩
@[simp] abbrev CUR_UNIT_CAUSE_VALID (u : Nat) : Fld := ⟨(R.CUR_UNIT_CAUSE u), 8, 1⟩
@[simp] abbrev CUR_UNIT_CAUSE_SRC (u : Nat) : Fld := ⟨(R.CUR_UNIT_CAUSE u), 0, 8⟩
@[simp] abbrev WARDEN_TP_CNT_FAILED : Fld := ⟨R.WARDEN_TP_CNT, 16, 16⟩
@[simp] abbrev WARDEN_TP_CNT_MADE : Fld := ⟨R.WARDEN_TP_CNT, 0, 16⟩
@[simp] abbrev SYS_ECC_SRAM_COR : Fld := ⟨R.SYS_ECC_SRAM, 16, 16⟩
@[simp] abbrev SYS_ECC_SRAM_UNCOR : Fld := ⟨R.SYS_ECC_SRAM, 1, 1⟩
@[simp] abbrev SYS_ECC_SRAM_SCRUB_PASS : Fld := ⟨R.SYS_ECC_SRAM, 0, 1⟩
@[simp] abbrev SYS_ECC_MRAM_COR : Fld := ⟨R.SYS_ECC_MRAM, 16, 16⟩
@[simp] abbrev SYS_ECC_MRAM_UNCOR : Fld := ⟨R.SYS_ECC_MRAM, 1, 1⟩
@[simp] abbrev SYS_ECC_MRAM_SCRUB_PASS : Fld := ⟨R.SYS_ECC_MRAM, 0, 1⟩
@[simp] abbrev PERF_CTRL_FREEZE : Fld := ⟨R.PERF_CTRL, 0, 4⟩
@[simp] abbrev PERF_STATUS_OVF : Fld := ⟨R.PERF_STATUS, 0, 4⟩
@[simp] abbrev PERF_STATUS_ARCH_OVF : Fld := ⟨R.PERF_STATUS, 8, 4⟩
@[simp] abbrev PERF_STATUS_CFG_REJECT : Fld := ⟨R.PERF_STATUS, 16, 1⟩
@[simp] abbrev PERF_ARCH_WR_ARCH_WR (k : Nat) : Fld := ⟨(R.PERF_ARCH_WR k), 0, 8⟩
@[simp] abbrev SYS_PD_STATUS_DOMAIN_ON : Fld := ⟨R.SYS_PD_STATUS, 0, 12⟩
@[simp] abbrev SYS_PD_STATUS_TRANSITION : Fld := ⟨R.SYS_PD_STATUS, 16, 12⟩
@[simp] abbrev PLINTH_VPF_VPF : Fld := ⟨R.PLINTH_VPF, 0, 8⟩
@[simp] abbrev PLINTH_SESSION_LIMIT : Fld := ⟨R.PLINTH_SESSION, 0, 10⟩
@[simp] abbrev PLINTH_ACT_CNT_ABORTED : Fld := ⟨R.PLINTH_ACT_CNT, 24, 8⟩
@[simp] abbrev PLINTH_ACT_CNT_REFUSED : Fld := ⟨R.PLINTH_ACT_CNT, 16, 8⟩
@[simp] abbrev PLINTH_ACT_CNT_ADMITTED : Fld := ⟨R.PLINTH_ACT_CNT, 0, 16⟩
@[simp] abbrev PLINTH_TWW_ADDR_GENERAL : Fld := ⟨R.PLINTH_TWW_ADDR, 8, 1⟩
@[simp] abbrev PLINTH_TWW_ADDR_ADDR : Fld := ⟨R.PLINTH_TWW_ADDR, 0, 7⟩
@[simp] abbrev PLINTH_RTC_TRIM_TRIM : Fld := ⟨R.PLINTH_RTC_TRIM, 0, 16⟩
@[simp] abbrev PLINTH_RTC_SUB_SUB : Fld := ⟨R.PLINTH_RTC_SUB, 0, 15⟩
@[simp] abbrev SV_ARB_APP : Fld := ⟨R.SV_ARB, 16, 8⟩
@[simp] abbrev SV_ARB_IMG : Fld := ⟨R.SV_ARB, 8, 8⟩
@[simp] abbrev SV_ARB_FW : Fld := ⟨R.SV_ARB, 0, 8⟩
@[simp] abbrev SYS_WDT_TIMEOUT : Fld := ⟨R.SYS_WDT, 0, 16⟩
@[simp] abbrev SYS_CORE_CTRL_HPB_RUN : Fld := ⟨R.SYS_CORE_CTRL, 0, 1⟩
@[simp] abbrev COURH_HSPI_CFG_LOCK : Fld := ⟨R.COURH_HSPI_CFG, 0, 1⟩
@[simp] abbrev COURH_D2H_LEN_LEN : Fld := ⟨R.COURH_D2H_LEN, 0, 13⟩
@[simp] abbrev COURH_D2H_LEN_DOC : Fld := ⟨R.COURH_D2H_LEN, 15, 1⟩
@[simp] abbrev COURH_EVENT_DST_ADDR : Fld := ⟨R.COURH_EVENT_DST, 0, 16⟩
@[simp] abbrev COURH_CNT_RSP : Fld := ⟨R.COURH_CNT, 16, 16⟩
@[simp] abbrev COURH_CNT_REQ : Fld := ⟨R.COURH_CNT, 0, 16⟩
@[simp] abbrev PLC_ADDR_PAN : Fld := ⟨R.PLC_ADDR, 16, 16⟩
@[simp] abbrev PLC_ADDR_SHORT : Fld := ⟨R.PLC_ADDR, 0, 16⟩
@[simp] abbrev PLC_TX_LEVEL_LEVEL : Fld := ⟨R.PLC_TX_LEVEL, 0, 4⟩
@[simp] abbrev PLC_TT_CNT_TT_SKIP : Fld := ⟨R.PLC_TT_CNT, 24, 8⟩
@[simp] abbrev PLC_TT_CNT_INVALID : Fld := ⟨R.PLC_TT_CNT, 16, 8⟩
@[simp] abbrev PLC_TT_CNT_OK : Fld := ⟨R.PLC_TT_CNT, 0, 16⟩
@[simp] abbrev PLC_CNT_SENT : Fld := ⟨R.PLC_CNT, 16, 16⟩
@[simp] abbrev PLC_CNT_RECEIVED : Fld := ⟨R.PLC_CNT, 0, 16⟩
@[simp] abbrev PLC_ERR_CNT_DISCARDED : Fld := ⟨R.PLC_ERR_CNT, 16, 16⟩
@[simp] abbrev PLC_ERR_CNT_EXHAUSTED : Fld := ⟨R.PLC_ERR_CNT, 0, 16⟩
@[simp] abbrev PLC_SNR_SNR : Fld := ⟨R.PLC_SNR, 0, 8⟩

/-- The severity of Curator source n (Table CUR-10: byte n mod 4 of CUR_SEV(n / 4), bits [2:0]). -/
@[simp] abbrev CUR_SEV_SEV (n : Nat) : Fld := ⟨R.CUR_SEV (n / 4), 8 * (n % 4), 3⟩
/-- The floor of Curator source n (Table CUR-10: bits [6:4] of its byte). -/
@[simp] abbrev CUR_SEV_FLOOR (n : Nat) : Fld := ⟨R.CUR_SEV (n / 4), 8 * (n % 4) + 4, 3⟩

end F

end Sys2Proof.Machine
end

