-- ==== Sys2Proof/Machine/CuratorTable.lean ====
section
/-!
DEFINITION. Table CUR-2: the default severity, the floors and the fence target of each Curator source.
-/

namespace Sys2Proof.Machine

/-- A fence target (Table CUR-2): the groups of a comparator, the groups of the comparator or the unit that the raise
names, a unit, an input, a pair, the other targets of Table CUR-4, the device, or none. -/
inductive Target where
  | none | wcGroups (c : Nat) | failedWc | infoUnit | pair (p : Nat) | unit (u : Nat) | input (x : Nat)
  | sp | hpb | svauth | plc | device
  deriving DecidableEq, Repr

/-- The fence target of a source (Table CUR-2). -/
def curTarget (n : Nat) : Target :=
  if n < 24 then .wcGroups n
  else if n = 24 then .failedWc
  else if n < 30 then .none
  else if n < 32 then .infoUnit
  else if n < 68 then .pair ((n - 32) % 6)
  else if n < 82 then .unit (n - 68)
  else if n = 82 then .none
  else if n < 99 then .unit ((n - 83) % 8)
  else if n = 99 then .device
  else if n < 102 then .none
  else if n < 144 then .unit (8 + (n - 102) % 6)
  else if n < 152 then .none
  else if n = 152 ∨ n = 158 then .device
  else if n < 164 then .none
  else if n = 164 then .sp
  else if n < 169 then .input (n - 165)
  else if n = 170 ∨ n = 173 then .device
  else if 175 ≤ n ∧ n ≤ 177 then .device
  else if n = 178 then .hpb
  else if n = 179 ∨ n = 180 then .device
  else if n = 181 then .svauth
  else if n = 183 then .device
  else if n = 184 then .plc
  else if 185 ≤ n ∧ n ≤ 187 then .device
  else .none

/-- The default severity of a source (Table CUR-2). -/
def curDefault (n : Nat) : Nat :=
  if n = 24 then 3
  else if n = 30 ∨ n = 31 ∨ (38 ≤ n ∧ n ≤ 55) ∨ (62 ≤ n ∧ n ≤ 67) ∨ (83 ≤ n ∧ n ≤ 98) ∨ (102 ≤ n ∧ n ≤ 143) ∨ n = 164 ∨
      (165 ≤ n ∧ n ≤ 168) ∨ n = 178 ∨ n = 181 ∨ n = 184 then 2
  else if n = 99 ∨ n = 152 ∨ n = 158 ∨ n = 170 ∨ n = 173 ∨ (175 ≤ n ∧ n ≤ 177) ∨ n = 179 ∨ n = 180 ∨ n = 183 ∨
      (185 ≤ n ∧ n ≤ 187) then 4
  else 1

/-- The device floor of a source (Table CUR-2, R466): Floor, or Profile floor under SAFETY_PROFILE. -/
def curFloor (profile : Bool) (n : Nat) : Nat :=
  if n = 24 ∨ (38 ≤ n ∧ n ≤ 43) ∨ (62 ≤ n ∧ n ≤ 67) ∨ n = 173 ∨ n = 179 ∨ n = 180 ∨ n = 186 then
    if profile then curDefault n else 1
  else if n = 152 ∨ (165 ≤ n ∧ n ≤ 168) ∨ n = 184 then 1
  else curDefault n

/-- A severity that a source accepts by R465 and R467: a code of Table CUR-1, and LOG or SAFE for a source without a
target. -/
def sevAllowed (n v : Nat) : Bool :=
  1 ≤ v && v ≤ 4 && (curTarget n != .none || v == 1 || v == 4)

end Sys2Proof.Machine
end

