-- ==== Sys2Proof/Machine/ResetRegs.lean ====
section
/-!
DEFINITION. The registers after a POWER-UP reset that follows a cold start of the Plinth (R547, R601): every register whose reset
value is not 0, in rising order of address. A register that is not listed holds 0: the value its table gives, or, where the table
gives none or names the image, OTP or a slot, a DESIGN CHOICE (log row 3).
-/

namespace Sys2Proof.Machine

/-- SYS, HIC, CLK: SYS_ID (the grade is the view's), SYS_PD_STATUS, SYS_RESET_CAUSE (COLD, POWER_UP), SYS_HPB_ENTRY, mtimecmp. -/
def resetSys : SMap Word :=
  [(R.SYS_ID, 0x96801000#32), (R.SYS_PD_STATUS, 0x87#32), (R.SYS_RESET_CAUSE, 3#32), (R.SYS_HPB_ENTRY, 0x10000080#32),
   (R.HIC_MTIMECMP_LO 0, 0xFFFFFFFF#32), (R.HIC_MTIMECMP_HI 0, 0xFFFFFFFF#32),
   (R.HIC_MTIMECMP_LO 1, 0xFFFFFFFF#32), (R.HIC_MTIMECMP_HI 1, 0xFFFFFFFF#32),
   (R.CLK_CTRL, 0x1000#32), (R.CLK_N, 0x80#32), (R.CLK_STATUS, 2#32), (R.CLK_FREQ, 0x80000000#32)]

/-- A channel: CAL_GAIN and SIZE_LOG2. -/
def resetCh (k : Nat) : SMap Word := [(R.CH_CAL_GAIN k, 0x80000#32), (R.CH_RING_CTRL k, 0x600#32)]

/-- A comparator: STATE TRIP_PENDING. -/
def resetWc (c : Nat) : Nat × Word := (R.WC_STATUS c, 2#32)

/-- An input's arc registers. -/
def resetArc (x : Nat) : SMap Word :=
  [(R.DIAG_ARC_CFG x, 0x8318#32), (R.DIAG_ARC_WIN x, 0x01000040#32), (R.DIAG_ARC_NOTCH x, 0x102#32)] ++
  (List.range 8).map fun b => (R.DIAG_ARC_BAND x b, BitVec.ofNat 32 ((0x1E + 10 * b) * 65536 + 0x15 + 10 * b))

/-- The panel side and the panel-side blocks of PD1. -/
def resetPanel : SMap Word :=
  [(R.SENSP_MON_MASK, 0x3F#32)] ++ (List.range 16).flatMap resetCh ++
  [(R.WCMPP_TEST_MASK, 0xFFFFFF#32)] ++ (List.range 14).map resetWc ++
  (List.range 6).map (fun p => (R.LP_SLACK p, 0xFFFF0000#32)) ++
  [(R.DRV_STATUS, 2#32)] ++ (List.range 4).flatMap resetArc ++
  [(R.DIAG_IV_CFG, 0xC8#32), (R.DIAG_IV_BASE, 0x20000000#32), (R.DIAG_ISO_LIMIT, 0xFA0#32)] ++
  (List.range 4).map (fun k => (R.PERF_ARCH_CTRL k, 0x80000#32))

/-- PLINTH: COLD_START is set. -/
def resetPlinth : SMap Word :=
  [(R.PLINTH_STICKY, 0x400#32), (R.PLINTH_WAKE_EN, 0xF#32), (R.PLINTH_TWW_ADDR, 0x140#32), (R.PLINTH_ALARM, 0xFFFFFFFF#32),
   (R.PLINTH_SESSION, 0x14#32)]

/-- The grid side. -/
def resetGridSide : SMap Word :=
  (List.range 10).flatMap (fun k => resetCh (16 + k)) ++ (List.range 10).map (fun c => resetWc (14 + c)) ++
  [(R.PLC_CTRL, 4#32), (R.PLC_TX_LEVEL, 0xF#32), (R.PLC_TT_CFG, 0x3E8#32)]

/-- A byte of CUR_SEV before an image: Table CUR-2's default and floor (R466, R611). -/
def resetSev (n : Nat) : Nat := curDefault n + 16 * curFloor false n

/-- Curator and Warden. -/
def resetCur : SMap Word :=
  [(R.CUR_CTRL, 1#32)] ++
  (List.range 48).map (fun k => (R.CUR_SEV k, BitVec.ofNat 32
    (resetSev (4 * k) + 256 * resetSev (4 * k + 1) + 65536 * resetSev (4 * k + 2) + 16777216 * resetSev (4 * k + 3)))) ++
  [(R.WARDEN_STATUS, 0x100#32), (R.WARDEN_PERMIT, 0xF00#32)]

/-- All of them. -/
def resetRegs : SMap Word := resetSys ++ resetPanel ++ resetPlinth ++ resetGridSide ++ resetCur

end Sys2Proof.Machine
end

