-- ==== Sys2Proof/Machine/State.lean ====
section
/-!
DEFINITION. The state of the device as plain data: the software-visible registers (one sparse map keyed by address),
the memories and buffers (one sparse map of bytes), Epoch, the hidden state of each block (one structure per block,
named from the rules that give it), and the queue of the commands that are waiting. Per-instance records are sparse
maps keyed by the instance's number; an unlisted instance has the record's default value, which is its state at reset.
-/

namespace Sys2Proof.Machine

/-- Why the block stops on a command. No rule of the manual names a stop of the device itself: nothing raises these
but the meanings the log rows name. -/
inductive Fault where
  /-- Raised by nothing the manual describes; kept so that the type has the shape the host asks. Safe. -/
  | none
  deriving DecidableEq, Repr

/-- Why a command has no meaning in this model. -/
inductive Refusal where
  /-- Raised by Dispatch for a command whose meaning is not written. Safe: the run stops. -/
  | notModelled (mnemonic : String)
  deriving DecidableEq, Repr

/-- A source raised and on its way to the Curator (Table EPOCH-2: at most 24 or 36 ticks): its number and, where the
source names a place (R469: a unit; R465: an input), that place. -/
structure Raise where
  src : Nat
  info : Nat
  deriving DecidableEq, Repr, Inhabited

/-- A shadow word of a LIVE register (R6): the values written and which bits of them wait for the boundary. -/
structure Shadow where
  val : Nat
  mask : Nat
  deriving DecidableEq, Repr, Inhabited

/-- The answer to the last read or link transaction: the words or bytes returned to its sender, and whether the access
ended in an access fault of a core (R520). -/
structure Response where
  words : List Word
  bytes : List Byte
  result : Nat
  fault : Bool
  deriving DecidableEq, Repr, Inhabited

/-- A section of the Crehar image (R14, R17): its type, instance and bytes. -/
structure Section where
  ty : Nat
  inst : Nat
  bytes : List Byte
  deriving DecidableEq, Repr, Inhabited

/-- The image that is in force (R43, R44): its 128-byte header and its sections; none before one is applied. -/
structure Image where
  header : List Byte
  sections : List Section
  deriving DecidableEq, Repr, Inhabited

/-- The image in force (R43, R44); none before one is applied. -/
structure ImgState where
  applied : Option Image
  deriving DecidableEq, Repr, Inhabited

/-- Clock synthesis, hidden state (R57 to R81). -/
structure ClkState where
  /-- The PLL is enabled (R61). -/
  on : Bool
  /-- The active reference is lost (R74). -/
  refLost : Bool
  /-- The control voltage is frozen and the charge pump disabled (R75, R81). -/
  frozen : Bool
  /-- VCO cycles, modulo 40, since all five output dividers last stood at phase 0 together (R61, R64, R65). -/
  vco : Nat
  /-- The tick at which the coast in progress began (R75). -/
  coastFrom : Nat
  /-- The coast in progress has reached its 1 s limit (R77). -/
  limitHit : Bool
  /-- The tick at which the last change of N took effect (R71). -/
  nChanged : Option Nat
  /-- While a divider reset is armed: a mark has been seen since the arm (R65). -/
  armMark : Bool
  /-- A mark has been seen on SYNC_IN, so that a spacing exists (R70). -/
  markSeen : Bool
  /-- The device is held for clock failure, FAULT_N low and CLOCK_FAIL reported (R63). -/
  failHold : Bool
  deriving DecidableEq, Repr, Inhabited

/-- Epoch, hidden state (R84 to R110). -/
structure EpochState where
  /-- What loads and mark alignments have moved Epoch by since it started (R97, R98). -/
  base : Int
  /-- A load has been requested at this tick (R97). -/
  loadFrom : Option Nat
  /-- The signed 48-bit rate accumulator (R100). -/
  acc : Int
  /-- Rate steps requested and not yet taken: positive advance, negative retard (R100). -/
  req : Int
  /-- One more than the last slot (Epoch value) in which the slot rules acted (R99, R102). -/
  slot : Nat
  /-- The slew step that acts at the next Epoch-clock edge: 1 advance, -1 retard, 0 none (R99). -/
  step : Int
  /-- The grid-die copies' fine phase (1/16 tick) (R92). -/
  fine : Int
  /-- Next tick at which the barrier, and the islands, are remeasured (R92, R94). -/
  barNext : Nat
  islNext : Nat
  /-- Consecutive valid time-transfer measurements and the tick of the last one (R109, R110). -/
  ttCount : Nat
  ttLast : Option Nat
  /-- SCHED: entry e was armed with COUNT 0, unlimited (R105). -/
  unlimited : SMap Bool
  /-- SCHED: entry e was disarmed too late, and returns to IDLE after its launch (R105). -/
  late : SMap Bool
  /-- SCHED: entry e was armed by HPB (Table ARB-4 asks who armed a MAINT_START). -/
  byHpb : SMap Bool
  /-- Unit u: one more than the tick of the last stop by PWM_STOP or a scheduled PWM_STOP (R105, R289: the stop prevails). -/
  stopAt : SMap Nat
  deriving DecidableEq, Repr, Inhabited

/-- A window of a group: its trigger tick E, open tick O, close tick C once known, sequence number, and the open tick of
the group's previous window (R122, R123, R132, R151). -/
structure Win where
  e : Nat
  o : Nat
  c : Option Nat
  seq : Nat
  prev : Option Nat
  deriving DecidableEq, Repr, Inhabited

/-- One member's result of a closed window, awaiting delivery: the code's 16 bits, the word CH_RES holds and the flags (R117
to R120, Table SENS-5). -/
structure WinRes where
  ch : Nat
  code : Nat
  word : Nat
  flags : Nat
  deriving DecidableEq, Repr, Inhabited

/-- A closed window awaiting delivery (R130, R132), with the PWM periods in force at its close (R195). -/
structure Closed where
  c : Nat
  len : Nat
  seq : Nat
  recs : List WinRes
  periods : List Nat
  deriving DecidableEq, Repr, Inhabited

/-- A window group: triggered windows not yet open, open windows, closed windows awaiting delivery, the next sequence
number, the tick W of its enable, the open tick of its last window (R122 to R132). -/
structure WgState where
  pend : List Win
  opened : List Win
  closed : List Closed
  seq : Nat
  enTick : Nat
  lastO : Option Nat
  deriving DecidableEq, Repr, Inhabited

/-- An overload of a channel: from its first trip S to its release E, none while it runs; the ticks at which a trip set the
sign, newest first (R150). -/
structure Ovl where
  s : Nat
  e : Option Nat
  signs : List (Nat × Bool)
  deriving DecidableEq, Repr, Inhabited

/-- A line-cycle record awaiting delivery (R147, R149). -/
structure LcRec where
  count : Int
  len : Nat
  start : Nat
  flags : Nat
  deriving DecidableEq, Repr, Inhabited

/-- A channel, PS0 to PS15 then GS0 to GS9: its overloads, newest first; the tick of the last trip; the ticks of its
calibrations and range changes (R161); the tick from which it has run continuously (R147); ring entries formed and not yet written, and the samples formed since the
ring's enable (R139, R142); stream marks waiting (R140); the next fixed-rate instant; the line-locked cycle in progress
and its next sub-interval (R138); the line-cycle record awaiting delivery; the activity or engine that claims the channel
or its ring (R412, R441, R455), as a mask; the tick and code of its last control-view or stream result (R181). -/
structure ChState where
  ovl : List Ovl
  lastTrip : Nat
  broken : List (Nat × Nat)
  contFrom : Nat
  entries : List Word
  samples : Nat
  marks : List Nat
  nextT : Nat
  llStart : Nat
  llEnd : Nat
  llNext : Nat
  lcRec : Option LcRec
  claim : Nat
  last : Option (Nat × Int)
  deriving DecidableEq, Repr, Inhabited

/-- A cycle announcement in flight to a sensing island: the boundary at which it was made (none for the first) and the
next boundary (R146, R346). -/
structure Announce where
  ci : Option Nat
  cn : Nat
  deriving DecidableEq, Repr, Inhabited

/-- A sensing island's line-cycle and calibration state: the announcements on their way; the tick from which ticks are a gap
unless an announcement arrives in time, the end of the last complete cycle (R146); the complete cycles that have not ended; the last complete cycles, newest first, as line-locked streams divide
them; the cycle count; the calibration's start tick and stage (4 once the factors are stored), and the channels whose factors passed (R146 to R149, R157,
R159). -/
structure SideState where
  ann : List Announce
  gapFrom : Nat
  opened : List (Nat × Nat)
  recent : List (Nat × Nat)
  seq : Nat
  calStart : Nat
  calStage : Nat
  passed : List Nat
  deriving DecidableEq, Repr, Inhabited

/-- Sensing: the window groups 0 to 3, the channels 0 to 25, the two sides (0 panel, 1 grid), the monitor scan's source
and dwell start, and, for each die (0 CTL, 1 PAD, 2 GRD), whether the last temperature result was above 140 C (R154,
R155, R469). -/
structure SensState where
  wg : SMap WgState
  ch : SMap ChState
  side : SMap SideState
  monSrc : Nat
  monStart : Nat
  tempNext : Nat
  hot : SMap Bool
  deriving DecidableEq, Repr, Inhabited

/-- A comparator's hidden state: the last input level of its pin found, in threshold code units, none before the first; the
first of the consecutive comparisons of TRIP_PENDING that pass (R178); a clear request and its tick, by software or by a
period start (R174, R175); the tick of the last crossing latched (R177); the start tick and step of its self-test (R180). -/
structure WcState where
  input : Option Rat
  pendFrom : Option Nat
  softClear : Option Nat
  periodClear : Option Nat
  crossAt : Option Nat
  testStart : Nat
  testStep : Nat
  deriving DecidableEq, Repr, Inhabited

/-- The comparators, and the comparators the running self-test has still to test, the first in test (R180). -/
structure WcmpState where
  wc : SMap WcState
  queue : List Nat
  deriving DecidableEq, Repr, Inhabited

/-- A trigger group record: the close tick C, SEQ, the integrated length and the period of PERIOD_UNIT in force at C
(R191, R195). -/
structure GRec where
  c : Nat
  seq : Nat
  len : Nat
  pc : Nat
  deriving DecidableEq, Repr, Inhabited

/-- The values one PWM_OUT node commits to a unit (R203, R238): compares in 1/16 tick. -/
structure PwmVal where
  unit : Nat
  period : Option Nat
  cmpa : Option Nat
  cmpb : Option Nat
  phase : Option Nat
  deriving DecidableEq, Repr, Inhabited

/-- What an execution has formed and its commit would make current (R193): the working state, the signal probe, the loan
out, the PWM values, and whether an observer set PLAUS (R264). -/
structure ExecRes where
  work : List Word
  probe : List Word
  loan : List Word
  pwm : List PwmVal
  plaus : Bool
  numeric : Bool
  deriving DecidableEq, Repr, Inhabited

/-- A loop pair's hidden state: the group record that waits (held, while an execution runs); the execution's target
boundary, deadline and start; the next execution's number; the executions committed since the enable (R245); FIRST and PREV_ABANDONED of the next execution; what the
running execution has formed; the STATE that a debug halt interrupted (R214). -/
structure LoopPair where
  rcd : Option GRec
  target : Nat
  deadline : Nat
  started : Nat
  running : Bool
  seqNext : Nat
  commits : Nat
  first : Bool
  prevAb : Bool
  res : ExecRes
  saved : Nat
  deriving DecidableEq, Repr, Inhabited

/-- An edge message (R274): the switch (false A or high side, true B or low side; both at a lane's stop, R332), the level,
the execution tick. -/
structure Edge where
  sideB : Bool
  both : Bool
  on : Bool
  t : Nat
  deriving DecidableEq, Repr, Inhabited

/-- The pattern of one output over a period, in tick offsets: on inside [lo, hi), or outside it where inv is set (R271,
R674, R676). -/
structure Lvl where
  lo : Nat
  hi : Nat
  inv : Bool
  deriving DecidableEq, Repr, Inhabited

/-- A write held back from a unit's shadow by the freeze before a boundary (R278), or a value that a commit carries. -/
structure HeldW where
  addr : Nat
  lo : Nat
  len : Nat
  val : Nat
  deriving DecidableEq, Repr, Inhabited

/-- A loop-pair commit waiting in a unit: its target B* and its values (R196, R279). -/
structure LoopCommit where
  target : Nat
  vals : List HeldW
  deriving DecidableEq, Repr, Inhabited

/-- A SWAP or INVERT write waiting for its boundary: the bit, the value and the tick it reached the unit (R288). -/
structure SwapW where
  bit : Nat
  val : Nat
  t : Nat
  deriving DecidableEq, Repr, Inhabited

/-- One PWM unit, hidden state (R268 to R298). -/
structure PwmUnit where
  /-- The counter runs (a FENCED unit's counter may run or be halted, R291, R294). -/
  counting : Bool
  /-- The first tick of the current period. -/
  start : Nat
  /-- The counter position at that tick (R269, R270). -/
  n0 : Nat
  /-- How many further ticks the counter holds 0 in a lengthened period (R270). -/
  hold : Nat
  /-- The length of the current period. -/
  len : Nat
  /-- The tick of a debug halt that froze the unit (R296), and whether it was RUNNING or FENCED. -/
  frozenAt : Nat
  /-- An untargeted commit is pending; it skips the next boundary; one that reached the unit in a debug halt is judged at the
  resume, by the tick at which it came (R277, R296). -/
  commit : Bool
  skip : Bool
  commitAt : Option Nat
  /-- Loop-pair commits waiting (R196). -/
  loops : List LoopCommit
  /-- Shadow writes the freeze holds back, with the ticks at which they reached the unit (R278). -/
  heldBack : List (Nat × HeldW)
  /-- SWAP and INVERT writes waiting (R288). -/
  swaps : List SwapW
  /-- The levels of the current period after stage 5 (Table PWM-3). -/
  lvlA : Lvl
  lvlB : Lvl
  /-- Trigger sources that have fired in this period: centre, CMPA, CMPB (R121). -/
  trig : Nat
  /-- A switch was held at some tick of this period (R293). -/
  heldThis : Bool
  /-- Edge messages on their way to the receiver, oldest first (R274). -/
  msgs : List Edge
  /-- Period-start markers on their way to the PAD die (R309, R313). -/
  markers : List Nat
  /-- The PERIODs in force and the ticks from which they stood, newest first (R444). -/
  perLog : List (Nat × Nat)
  deriving DecidableEq, Repr, Inhabited

/-- A half-bridge receiver's hidden state: pending edges; the execution ticks of the last off-edges of the high and low
side; held off until a reset by the interlock (R305); the high side on at every tick since the last marker (R313); the
marker of the last refresh, its step in progress (0 none) and
the tick at which it ended (R314, R315). -/
structure HalfBridge where
  queue : List Edge
  offHi : Option Nat
  offLo : Option Nat
  inter : Bool
  highAll : Bool
  refresh : Nat
  step : Nat
  refEnd : Nat
  deriving DecidableEq, Repr, Inhabited

/-- A lane transmitter's hidden state: queued edges; edges accepted with their execution ticks, oldest first (those sent
and in force or pending at the driver), over the levels before them; the line is busy up to a label; a heartbeat due, the
first due label it serves; a heartbeat whose response is awaited (the label its EPOCH carries); the state to enter when
the TRIP ends and its start (in ticks that pass); off until a reset by the interlock; the chips of the message begun last, true
for H, the label of its first, and the label from which FILL ran before it (R319 to R323). -/
structure Lane where
  queue : List Edge
  sched : List Edge
  sent : List Nat
  lvlA : Bool
  lvlB : Bool
  offA : Option Nat
  offB : Option Nat
  busyTo : Nat
  hbDue : Option Nat
  hbFirst : Nat
  hbOut : Option Nat
  after : Nat
  tripAt : Nat
  inter : Bool
  line : List Bool
  lineAt : Nat
  fillAt : Nat
  deriving DecidableEq, Repr, Inhabited

/-- The drive blocks: half-bridges 0 to 7, lanes 0 to 5; the internal lane is lost (R309) and the tick of its last
keepalive; the tick of the PD9 power-up or of VDRV's last rise (R312); both in ticks that pass. -/
structure DriveState where
  hb : SMap HalfBridge
  lane : SMap Lane
  linkLost : Bool
  keepTick : Nat
  vdrvFrom : Nat
  deriving DecidableEq, Repr, Inhabited

/-- What the grid pair lent at its last commit with VALID 1.0 and f within 45 to 66 Hz (R343, R346): the phase at B*, omega,
f and B*, and the tick of the commit. -/
structure Lent where
  theta : Rat
  omega : Rat
  f : Rat
  b : Nat
  at_ : Nat
  deriving DecidableEq, Repr, Inhabited

/-- What the GRID block read at a commit of the grid pair (R343, Table GSP-1): V(p) of the topology's phases, f, the phase at B*,
omega, P, VALID, FORMING, and B*. -/
structure GridIn where
  v : List Rat
  f : Rat
  theta : Rat
  omega : Rat
  p : Rat
  valid : Bool
  forming : Bool
  b : Nat
  deriving DecidableEq, Repr, Inhabited

/-- The GRID block, hidden state (R342 to R388), durations in ticks that pass: a commit awaits its evaluation, and what was read at it; evaluations since the enable (slot 255);
the tick of the last evaluation; the filters, and whether they have started (R357); the captured P_pre (R356); the last
good values lent, f and the mean V(p) of the last valid commit; the last boundary, the next one announced, boundaries with
their f, newest first, the residual and f at the last boundary (R346 to R349, R384); consecutive boundaries that meet, and
that miss, the lock rule; the curves' entered points with their entry ticks, keyed 16c + j (R375); since when VALID is 0.0
and since when LOCK is lost while connected (R378, R382); the probe in progress, and a fleet probe that waits (R386); the
reconnection timer's start, the next automatic request, the ceiling, the automatic start (R400 to R402). -/
structure GridState where
  due : Bool
  inp : GridIn
  upd : Nat
  evalAt : Option Nat
  filt : Bool
  qvv : Rat
  pvw : Rat
  pfw : Rat
  dpuf : Rat
  fslow : Rat
  pPre : Option Rat
  lent : Option Lent
  fLast : Rat
  vMean : Rat
  cPrev : Option Nat
  cNext : Option Nat
  hist : List (Nat × Rat)
  phi : Option Rat
  fPrev : Option Rat
  good : Nat
  bad : Nat
  entered : SMap (Option Nat)
  invalid : Option Nat
  syncLost : Option Nat
  probeStart : Nat
  probeDir : Int
  probeF0 : Rat
  probePassive : Bool
  probeAt : Option Nat
  timer : Option Nat
  checkAt : Nat
  pRc : Option Rat
  startAt : Option Nat
  deriving DecidableEq, Repr, Inhabited

/-- The relay sequencer, hidden state (R389 to R399), its times in ticks that pass: the outputs of WC22 set within the current cycle; the ticks of the
last change of each relay's command (0 K1, 1 K2); since when each feedback reads open; the close's start, its stage and the
tick at which K2 was energised; the first output change of WC22 since then; the tick of the de-energising; the start of the
check's step; the learnt operate time OP_K2 in ticks. -/
structure RelayState where
  vkxHi : Bool
  vkxLo : Bool
  cmdAt : SMap Nat
  fbOpen : SMap (Option Nat)
  closeAt : Nat
  stage : Nat
  k2At : Nat
  xChange : Option Nat
  openFrom : Nat
  checkFrom : Nat
  opK2 : Rat
  deriving DecidableEq, Repr, Inhabited
/-- One metered phase over the cycles since the last N-cycle latch, weighted by LEN (R426): V_n, I_RMS, P, Q, S and the two
angles; the flags and the clamp for METER_PINFO and the segments of the last cycle (Table MTR-9). -/
structure PhaseInt where
  v : Rat
  i : Rat
  p : Rat
  q : Rat
  s : Rat
  ang : Rat
  vang : Rat
  flags : Nat
  seg : Nat
  fseg : Nat
  deriving DecidableEq, Repr, Inhabited

/-- The metering engine and the Vault's writer (R409 to R438): the tick of the enable; complete cycles whose samples the
engine has still to read; the ring index of the next; the history cycle has passed (R415); the tick to which time is
accounted, the gap ticks since the enable and those the Vault's count adds (R415, Table MTR-3); the accumulators, in
2^-32 micro-watt-hours, keyed 4q + p (R420), and the totals (R423); metered cycles and their ticks since the last N-cycle
latch; the phases' sums; scheduled latches to come (R422); the tick of a write of EN = 0 (R414); a latch that waits for the
compaction, with its cycle's end (R437); the tick of a power-fail warning that stands, and an immediate latch to make at the
next cycle (R434, R435); the tick of the first warning since a metered cycle; metering has been enabled since its power-up (Table
SUP-8); the Vault: next slot, next SEQ, next tally slot, GAP_MS of the scan, and whether cycles since the
last record carried flags or gap ticks (Table MTR-3). -/
structure MeterState where
  enTick : Nat
  cycles : List (Nat × Nat)
  rd : Nat
  hist : Bool
  doneTo : Nat
  gap : Nat
  gapAll : Nat
  acc : SMap Nat
  tot : SMap Nat
  n : Nat
  len : Nat
  ph : SMap PhaseInt
  sched : List Nat
  stopAt : Option Nat
  due : Option Nat
  failAt : Option Nat
  resume : Bool
  resumeFrom : Nat
  outFrom : Nat
  used : Bool
  slot : Nat
  seq : Nat
  talSlot : Nat
  gapBase : Nat
  recOvr : Bool
  recGap : Bool
  deriving DecidableEq, Repr, Inhabited

/-- A running I-V trace (R449, R450): the pair, the grant tick, the dwell, the ends of the sweep, the point in progress,
what its windows have added up to, and the points without a window. -/
structure IvTrace where
  pair : Nat
  s0 : Nat
  dwell : Nat
  vhi : Rat
  vlo : Rat
  point : Nat
  sumV : Int
  sumI : Int
  n : Nat
  qual : Nat
  noWin : Nat
  deriving DecidableEq, Repr, Inhabited

/-- Arc detection on an input (R443 to R447): the frames evaluated in the warm-up, the warm-up's sums or the baselines of
the eight bands, the results of the last frames, newest first, the next frame's number; and the intervals in which a
switch of the input's units was held or fenced or its trace ran, newest first (R445). -/
structure ArcIn where
  warm : Nat
  base : List Rat
  results : List Bool
  frame : Nat
  blocked : List (Nat × Option Nat)
  deriving DecidableEq, Repr, Inhabited

/-- The insulation check: its grant tick, the next event of Table ARB-1, and V_A's code (R451). -/
structure IsoState where
  grant : Nat
  step : Nat
  va : Rat
  deriving DecidableEq, Repr, Inhabited

/-- Diagnostics, hidden state: traces, arc detectors, the insulation check, the TEST_MASK at the grant of the running
comparator test (Table ARB-2), the next multiple at which a BIST is due (Table ARB-4), and the activities that requests have asked
for at a tick (R457). -/
structure DiagState where
  iv : SMap IvTrace
  arc : SMap ArcIn
  iso : IsoState
  testMask : Nat
  bistNext : Nat
  reqAt : Option Nat
  reqs : List Nat
  deriving DecidableEq, Repr, Inhabited

/-- The Curator, hidden state (R463 to R480): the fences that hold, by target (0 to 13 units, 16 to 19 inputs, 24 to 31
groups, 40 to 45 pairs), each with the sources that caused it; how a copy of a source's severity byte differs from the
byte in force, keyed 256 * copy + source (R478, R480); the half-bridge pins found off their executed level at the last
check, bit 0 HO, bit 1 LO (R469, DRV_GATE). -/
structure CuratorState where
  fences : SMap (List Nat)
  dev : SMap Nat
  gateBad : SMap Nat
  deriving DecidableEq, Repr, Inhabited

/-- Pins whose level only the outside world sets or that a rule keeps: TEST_MODE (R480), the GPIO input levels. -/
structure PinState where
  testMode : Bool
  gpio : Nat
  deriving DecidableEq, Repr, Inhabited

/-- A channel of a Warden input: the tick of its last raw change; since when the raw level differs from the filtered one;
the tick of the last change of the filtered level (R486, R490, R499). -/
structure WdChannel where
  rawAt : Nat
  since : Option Nat
  filtAt : Nat
  deriving DecidableEq, Repr, Inhabited

/-- A test output, TPA or TPB: the tick of its last pulse, the tick from which the next may start, the window open, the inputs whose channel is checked, and those
whose partner channel read low at the check (R487, R488). -/
structure TestOut where
  start : Nat
  next : Nat
  win : Bool
  elig : Nat
  partner : Nat
  deriving DecidableEq, Repr, Inhabited

/-- The Warden, hidden state (R483 to R501): channels, keyed 2 * input + (0 A, 1 B); the test outputs (0 TPA, 1 TPB); the
tick of the last restart; the tick at which the permit expires. -/
structure WardenState where
  ch : SMap WdChannel
  tp : SMap TestOut
  from_ : Nat
  permitTo : Nat
  deriving DecidableEq, Repr, Inhabited

/-- A Hokuon pair (R504 to R517): the pc, x1 to x31, f0 to f31, the CSRs by number, machine mode, in WFI,
released from reset (R606, R611), halted on a mismatch (R506); the breakpoints, each one more than its address (R598); the
lines of the two caches by base address (R515); and, for each of its two cores, the event
counters keyed 96 * core + event, the occurrences since the last Archive sample, and the mask of cores whose Archive has stopped full (R529 to R532). -/
structure Hok where
  pc : Nat
  x : SMap Word
  f : SMap Word
  csr : SMap Word
  mmode : Bool
  wfi : Bool
  run : Bool
  stopped : Bool
  bp : SMap Nat
  dcache : SMap (List Byte)
  icache : SMap (List Byte)
  cnt : SMap Nat
  arch : SMap Nat
  archFull : Nat
  deriving DecidableEq, Repr, Inhabited

/-- The Plinth and the power sequencer, hidden state (R540, R541, R543, R547 to R560): raw 32.768 kHz cycles, 47 bits; the
cycle at which the current second began and the accumulator of trim, in 1/32 cycle (R549); the cycle at which the STORE
session began; the alarm reached and the rise of MEAS_OK, for the next evaluation of the wake sources; a cold start that no
power-up has followed; HSTORE in 25 mV steps at the last refresh (Table COU-8); the output levels, the output enables and the
pulls (two bits a pad, codes of R663) of GPIO0 to GPIO7 as held pads keep them; HSPI_IRQ_N driven low as its held pad keeps it; for PD2 to PD5, one more than the point a step leads to (0: none), and the tick at which the step began. -/
structure PlinthState where
  cyc : Nat
  secFrom : Nat
  secAcc : Int
  session : Option Nat
  alarm : Bool
  dawn : Bool
  cold : Bool
  hstore : Nat
  padOut : Nat
  padOe : Nat
  padPull : Nat
  hspiIrq : Bool
  dvfsTo : SMap Nat
  dvfsAt : SMap Nat
  deriving DecidableEq, Repr, Inhabited

/-- The start-up sequencer and the watchdog (R602 to R611): the tick at which a SYSTEM reset took effect, until the blocks are
reset; RESET_N is low; the tick from which the watchdog counts, and the tick at which a halt of HPA paused it (R598); the
tick from which the barrier's 10 ms count; the late grid side: 0 none, 1 waits for the barrier, 2 SENS_CAL_G,
3 WCMP_TEST; 4: the comparator tests of phase P7. -/
structure StartState where
  resetAt : Option Nat
  pinLow : Bool
  wdFrom : Nat
  wdHeld : Option Nat
  barFrom : Option Nat
  late : Nat
  deriving DecidableEq, Repr, Inhabited

/-- A mailbox channel of Svauth, hidden part (R590): the opcode written last, and once Svauth has served it, the result and
the bytes of the answer, which the command's completion posts. -/
structure SvChan where
  op : Nat
  served : Bool
  result : Nat
  rsp : List Byte
  deriving DecidableEq, Repr, Inhabited

/-- A staging session on a slot (R582, R630): kind (0 FW, 1 IMG, 2 APP), slot, the bytes written so far, the write through
MRAM_PROGRAM that is running (offset and bytes), and whether the end has been asked for while it runs. -/
structure Staging where
  kind : Nat
  slot : Nat
  written : Nat
  write : Option (Nat × List Byte)
  ending : Bool
  deriving DecidableEq, Repr, Inhabited

/-- What a fence during a mailbox command puts back (R591): the PMs, OTP, counters, permit and staging session as they stood when
Svauth began the command, and the words of SV_INFO, SV_ARB, SV_BOOT, SYS_IMG_STATUS and SYS_IMG_SELECT. -/
structure SvUndo where
  pm : SMap (List Byte)
  hash : SMap (List Byte)
  key : SMap (List Byte)
  revoked : Nat
  strict : Bool
  arbFw : Nat
  arbImg : Nat
  arbApp : Nat
  replay : SMap Nat
  stage : Option Staging
  permitTo : Nat
  permitted : Bool
  words : List (Nat × Word)
  deriving DecidableEq, Repr, Inhabited

/-- Svauth, hidden state (R564 to R599): OTP (owner hashes and stored owner keys by slot 1 to 4, the flag bits, ARB_FW, ARB_IMG
and ARB_APP); the measurement registers PM0 to PM7 (an empty list is 32 bytes of 0x00); BOOT_NO; the Provenance log's newest
SEQ and next slot; the replay counters by signer; the boot step in progress (0 none); the channels (0 HPA, 1 HPB, 2 Docent)
and those that wait, oldest first; the staging session; the permit's end tick and a grant since the boot; the header digests
and SECURITY_VERSIONs of the active firmware and APP, and the firmware's ENTRY; the Docent link: request CRC errors, discarded
service frames, the last halt was a breakpoint hit, the halted targets with one more than the tick of the halt (R598), the
access whose result or write is held after WAIT: its operation, ADDR, DATA and result (R595); while a served command has not
completed, what a fence puts back (R591). -/
structure SvState where
  hash : SMap (List Byte)
  key : SMap (List Byte)
  revoked : Nat
  strict : Bool
  debugLock : Bool
  arbFw : Nat
  arbImg : Nat
  arbApp : Nat
  pm : SMap (List Byte)
  bootNo : Nat
  logSeq : Nat
  logSlot : Nat
  replay : SMap Nat
  step : Nat
  chan : SMap SvChan
  queue : List Nat
  stage : Option Staging
  permitTo : Nat
  permitted : Bool
  fwDigest : List Byte
  appDigest : List Byte
  fwSecver : Nat
  appSecver : Nat
  fwEntry : Nat
  crcErr : Nat
  svcErr : Nat
  bpHit : Bool
  haltAt : SMap Nat
  haltUnits : SMap (List Nat)
  held : Option (Nat × Nat × Nat × Nat)
  undo : Option SvUndo
  deriving DecidableEq, Repr, Inhabited

/-- A response kept for retries (R632): the requester, the TXID, the response's bytes, the tick it was formed. -/
structure Kept where
  src : Nat
  txid : Nat
  rsp : List Byte
  at_ : Nat
  deriving DecidableEq, Repr, Inhabited

/-- The Courier staging session (R630): its number, TOTAL, the bytes received, the tick of the last accepted data, and whether
it runs over powerline. -/
structure CourSession where
  id : Nat
  total : Nat
  got : Nat
  last : Nat
  plc : Bool
  deriving DecidableEq, Repr, Inhabited

/-- A message in reassembly (R634): source, TXID, SEG_COUNT, the segments received by number, the tick of its first. -/
structure Reasm where
  src : Nat
  txid : Nat
  count : Nat
  segs : SMap (List Byte)
  from_ : Nat
  deriving DecidableEq, Repr, Inhabited

/-- A powerline frame: its destination, whether the MAC awaits an acknowledgement, the retries made, its payload, and the tick at
which its transmission ends. -/
structure PlcFrame where
  dst : Nat
  ack : Bool
  retries : Nat
  bytes : List Byte
  endAt : Nat
  deriving DecidableEq, Repr, Inhabited

/-- An EVENT being repeated (R633): its TXID, its bytes, how often it has been sent, the tick of the next repeat. -/
structure EventMsg where
  txid : Nat
  bytes : List Byte
  sent : Nat
  next : Nat
  deriving DecidableEq, Repr, Inhabited

/-- Courier, hidden state (R621 to R647): the responses kept, newest first; the staging session; the EVENT being repeated; a
RESET to act: its KIND and tick, and over powerline the TXID of its response, which goes first; broadcast INFO replies to send, with their ticks; messages in reassembly; the powerline frame
sent last, being sent or awaiting its acknowledgement, and those that wait; the time transfer: T1 of the exchange that waits
and its SEQ, the elapsed ticks at its start, the next SEQ, the tick of the next request, as master the responses to send (SEQ, destination, T2, T3). -/
structure CourState where
  kept : List Kept
  session : Option CourSession
  event : Option EventMsg
  reset : Option (Nat × Nat)
  resetTx : Option Nat
  bcast : List (MsgHdr × Nat)
  reasm : List Reasm
  frame : Option PlcFrame
  queue : List PlcFrame
  ttWait : Option (Nat × Nat)
  ttFrom : Nat
  ttSeq : Nat
  ttNext : Nat
  ttRsp : List (Nat × Nat × Nat × Nat)
  deriving DecidableEq, Repr, Inhabited

/-- The state of the device. -/
structure State where
  /-- The software-visible registers, by address (the register tables of spec/). -/
  regs : SMap Word
  /-- The memories and buffers, by byte address (Table HOK-3). -/
  mem : SMap Byte
  /-- The shadows of LIVE registers, by the register's address (R6, R7). -/
  shadow : SMap Shadow
  /-- Epoch: 64 bits (R84). -/
  epoch : Nat
  /-- The model's own counter of values drawn from a source the manual leaves open (Config.freeDraw). -/
  draws : Nat
  /-- The sources raised and not yet arrived at the Curator, oldest first (R463, R469). -/
  raised : List Raise
  /-- The answer to the last read or link transaction. -/
  resp : Response
  /-- The Crehar image. -/
  img : ImgState
  /-- Clock synthesis. -/
  clk : ClkState
  /-- Epoch. -/
  ep : EpochState
  /-- The PWM units 0 to 13. -/
  pwm : SMap PwmUnit
  /-- The Plinth. -/
  plinth : PlinthState
  /-- Charge-balance sensing. -/
  sens : SensState
  /-- The window comparators. -/
  wcmp : WcmpState
  /-- The loop pairs 0 to 5. -/
  loop : SMap LoopPair
  /-- Half-bridges and lanes. -/
  drive : DriveState
  /-- Arc detection, traces and the insulation check. -/
  diag : DiagState
  /-- The GRID block. -/
  grid : GridState
  /-- The relay sequencer. -/
  relay : RelayState
  /-- The metering engine and the Vault's writer. -/
  meter : MeterState
  /-- The Curator. -/
  cur : CuratorState
  /-- Pin levels. -/
  pins : PinState
  /-- The Warden. -/
  warden : WardenState
  /-- Svauth. -/
  sv : SvState
  /-- Start-up, resets and the watchdog. -/
  start : StartState
  /-- The Hokuon pairs, 0 HPA and 1 HPB. -/
  hok : SMap Hok
  /-- Courier: COURH and PLC. -/
  cour : CourState
  /-- The words of system SRAM and MRAM whose check bits find an uncorrectable error, by word address (R521, R522). -/
  ecc : SMap Bool
  /-- The commands that are waiting, oldest first. -/
  pending : List Instr
  deriving DecidableEq, Repr

/-- The state right after a POWER-UP reset (R601). [DESIGN CHOICE (unsafe), log rows 3 and 109; DEDUCED (unsafe), log row 21] -/
def State.reset : State where
  regs := resetRegs
  mem := []
  shadow := []
  epoch := 0
  draws := 0
  raised := []
  resp := default
  img := default
  clk := default
  ep := default
  pwm := []
  plinth := { (default : PlinthState) with cold := true }
  sens := default
  wcmp := default
  loop := []
  drive := default
  diag := default
  grid := default
  relay := default
  meter := default
  cur := default
  pins := default
  warden := default
  sv := default
  start := default
  hok := []
  cour := default
  ecc := []
  pending := []

end Sys2Proof.Machine
end

