-- ==== Sys2Proof/Machine/Ops.lean ====
section
/-!
DEFINITION. The named operations over registers and memory: words and fields, bytes, byte order, saturating and
wrapping counters, signed readings, values drawn from an open source. Everything else is written over these.
-/

namespace Sys2Proof.Machine

/-- The outcome of a command. -/
abbrev Res := Host.Outcome State Fault Refusal

/-! ### Bits of a word -/

/-- Bits [lo + len - 1 : lo] of a number. -/
def bitsOf (n lo len : Nat) : Nat := n / 2 ^ lo % 2 ^ len

/-- A number with bits [lo + len - 1 : lo] replaced. -/
def bitsPut (n lo len v : Nat) : Nat :=
  n % 2 ^ lo + 2 ^ lo * (v % 2 ^ len) + 2 ^ (lo + len) * (n / 2 ^ (lo + len))

/-- Bit k of a number, as a truth value. -/
def bitOf (n k : Nat) : Bool := n / 2 ^ k % 2 == 1

/-- The two's complement reading of the low len bits. -/
def signedOf (len n : Nat) : Int :=
  let v := n % 2 ^ len
  if v < 2 ^ (len - 1) then (v : Int) else (v : Int) - 2 ^ len

/-- The low len bits of an integer, two's complement. -/
def unsignedOf (len : Nat) (v : Int) : Nat := (v % (2 ^ len : Nat)).toNat

/-- 1 for true, 0 for false. -/
def b2n (b : Bool) : Nat := if b then 1 else 0

/-- Add one, saturating at 2^len - 1. -/
def satInc (len n : Nat) : Nat := if n + 1 < 2 ^ len then n + 1 else 2 ^ len - 1

/-- Clamp a number to an upper limit. -/
def satTo (len n : Nat) : Nat := min n (2 ^ len - 1)

/-- The low 32 bits of a number, as a word. -/
def w32 (n : Nat) : Word := BitVec.ofNat 32 n

/-- round(x / d) for integers, halves upward. -/
def roundDiv (x : Int) (d : Nat) : Int := (2 * x + d) / (2 * (d : Int))

/-- Clamp an integer to a range. -/
def clampInt (x lo hi : Int) : Int := if x < lo then lo else if hi < x then hi else x

/-! ### Registers -/

/-- The word a register holds. [DESIGN CHOICE (unsafe), log row 3] -/
def State.rd (s : State) (a : Nat) : Word := s.regs.get a

/-- Puts a word into a register (the effect on the register alone; the rules of a write are Bus's). -/
def State.wr (s : State) (a : Nat) (v : Word) : State := { s with regs := s.regs.set a v }

/-- The value of a named field. -/
def State.get (s : State) (f : Fld) : Nat := bitsOf (s.rd f.addr).toNat f.lo f.len

/-- Puts a value into a named field and leaves the register's other bits. -/
def State.put (s : State) (f : Fld) (v : Nat) : State :=
  s.wr f.addr (w32 (bitsPut (s.rd f.addr).toNat f.lo f.len v))

/-- A one-bit field reads 1. -/
def State.flag (s : State) (f : Fld) : Bool := s.get f == 1

/-- A field read as a two's complement number of its width. -/
def State.getS (s : State) (f : Fld) : Int := signedOf f.len (s.get f)

/-- Puts a signed value into a field, two's complement. -/
def State.putS (s : State) (f : Fld) (v : Int) : State := s.put f (unsignedOf f.len v)

/-- Counts a field up by one, saturating at its width. -/
def State.incSat (s : State) (f : Fld) : State := s.put f (satInc f.len (s.get f))

/-- Counts a field up by one, wrapping at its width. -/
def State.incWrap (s : State) (f : Fld) : State := s.put f ((s.get f + 1) % 2 ^ f.len)

/-- Bits [31:0] of Epoch, as registers that record a tick hold them. -/
def State.now32 (s : State) : Word := w32 s.epoch

/-- The Epoch ticks that have passed since Epoch started: Epoch, less what loads and mark alignments have moved it by (R97, R98).
Durations are counted in these. -/
def State.mono (s : State) : Nat := ((s.epoch : Int) - s.ep.base).toNat

/-- A tick of Epoch as the count of ticks that have passed. -/
def State.monoOf (s : State) (t : Nat) : Nat := ((t : Int) - s.ep.base).toNat

/-! ### Memory and buffers -/

/-- The home of a byte address: the uncached alias of the system SRAM names the same words (Table HOK-3). -/
def memHome (a : Nat) : Nat :=
  if 0x28000000 ≤ a ∧ a < 0x28400000 then a - 0x08000000 else a

/-- A byte of memory. [DESIGN CHOICE (unsafe), log row 4] -/
def State.rdB (s : State) (a : Nat) : Byte := s.mem.get (memHome a)

/-- The address under which the check bits of a byte's word are kept. -/
def eccHome (a : Nat) : Nat := memHome a / 4 * 4

/-- The word of a byte holds an uncorrectable error (R521). -/
def State.eccBad (s : State) (a : Nat) : Bool := s.ecc.get (eccHome a)

/-- Writes a byte of memory; its word gets new check bits (R522). -/
def State.wrB (s : State) (a : Nat) (v : Byte) : State :=
  { s with mem := s.mem.set (memHome a) v, ecc := s.ecc.set (eccHome a) false }

/-- A run of bytes of memory. -/
def State.rdBytes (s : State) (a : Nat) : Nat → List Byte
  | 0 => []
  | n + 1 => s.rdB a :: State.rdBytes s (a + 1) n

/-- Writes a run of bytes, the first at the lowest address. -/
def State.wrBytes (s : State) (a : Nat) : List Byte → State
  | [] => s
  | b :: t => (s.wrB a b).wrBytes (a + 1) t

/-- The number a run of bytes spells, little-endian (R12, register conventions). -/
def leNat : List Byte → Nat
  | [] => 0
  | b :: t => b.toNat + 256 * leNat t

/-- The n bytes that spell a number, little-endian. -/
def leBytes : Nat → Nat → List Byte
  | 0, _ => []
  | n + 1, v => BitVec.ofNat 8 v :: leBytes n (v / 256)

/-- A little-endian word of memory. -/
def State.rdW (s : State) (a : Nat) : Word := w32 (leNat (s.rdBytes a 4))

/-- Writes a little-endian word of memory. -/
def State.wrW (s : State) (a : Nat) (v : Word) : State := s.wrBytes a (leBytes 4 v.toNat)

/-! ### Values drawn from a source the manual leaves open -/

/-- The next drawn value. [DESIGN CHOICE (safe), log row 5; DESIGN CHOICE (safe), log row 88; DESIGN CHOICE (safe), log row 94] -/
def State.drawn (s : State) : Nat := Config.freeDraw s.draws

/-- Counts the draw. [DESIGN CHOICE (safe), log row 5; DESIGN CHOICE (safe), log row 94] -/
def State.drew (s : State) : State := { s with draws := s.draws + 1 }

/-- Answers a read with a word. [DESIGN CHOICE (safe), log row 17] -/
def State.answer (s : State) (v : Word) : State :=
  { s with resp := { words := [v], bytes := [], result := 0, fault := false } }

/-! ### Lists of indices -/

/-- The indices below n whose bit is set in a mask. -/
def maskIdx (n mask : Nat) : List Nat := (List.range n).filter (fun k => bitOf mask k)

/-- Applies an update for each index in turn. -/
def State.forEach (s : State) (ks : List Nat) (f : State → Nat → State) : State := ks.foldl f s

/-- Applies an update where a condition holds. -/
def State.when (s : State) (c : Bool) (f : State → State) : State := if c then f s else s

end Sys2Proof.Machine
end

