-- ==== Sys2Proof/Machine/Flags.lean ====
section
/-!
DEFINITION. Sticky flags and the raising of Curator sources: the source numbers of Table CUR-2, each block's CFG_REJECT
flag and the source it raises (R8, R37, R469).
-/

namespace Sys2Proof.Machine

/-! ### Source numbers (Table CUR-2) -/
namespace FS
@[simp] abbrev WCMP_TRIP (c : Nat) : Nat := c
@[simp] abbrev WCMP_TEST_FAIL : Nat := 24
@[simp] abbrev WCMP_CFG : Nat := 25
@[simp] abbrev SENS_CFG : Nat := 26
@[simp] abbrev SENS_OVERRANGE_P : Nat := 27
@[simp] abbrev SENS_OVERRANGE_G : Nat := 28
@[simp] abbrev SENS_CAL_FAIL : Nat := 29
@[simp] abbrev PWM_CHECK : Nat := 30
@[simp] abbrev DRV_GATE : Nat := 31
@[simp] abbrev LOOP_CFG (p : Nat) : Nat := 32 + p
@[simp] abbrev LOOP_OVERRUN (p : Nat) : Nat := 38 + p
@[simp] abbrev LOOP_LOCKSTEP (p : Nat) : Nat := 44 + p
@[simp] abbrev LOOP_TCM_ECC (p : Nat) : Nat := 50 + p
@[simp] abbrev LOOP_NUMERIC (p : Nat) : Nat := 56 + p
@[simp] abbrev LOOP_PLAUS (p : Nat) : Nat := 62 + p
@[simp] abbrev PWM_UNIT (u : Nat) : Nat := 68 + u
@[simp] abbrev PWM_GLOBAL : Nat := 82
@[simp] abbrev DRV_LATE (h : Nat) : Nat := 83 + h
@[simp] abbrev DRV_INTERLOCK (h : Nat) : Nat := 91 + h
@[simp] abbrev DRV_LINK : Nat := 99
@[simp] abbrev DRV_VDRV_UV : Nat := 100
@[simp] abbrev DRV_CFG : Nat := 101
@[simp] abbrev LANE_LATE (l : Nat) : Nat := 102 + l
@[simp] abbrev LANE_INTERLOCK (l : Nat) : Nat := 108 + l
@[simp] abbrev LANE_DESAT (l : Nat) : Nat := 114 + l
@[simp] abbrev LANE_UVLO (l : Nat) : Nat := 120 + l
@[simp] abbrev LANE_NO_STATUS (l : Nat) : Nat := 126 + l
@[simp] abbrev LANE_ECHO (l : Nat) : Nat := 132 + l
@[simp] abbrev LANE_RX_ERR (l : Nat) : Nat := 138 + l
@[simp] abbrev LANE_OT (l : Nat) : Nat := 144 + l
@[simp] abbrev LANE_CFG : Nat := 150
@[simp] abbrev GRID_SYNC_LOST : Nat := 151
@[simp] abbrev GRID_DC_INJ : Nat := 152
@[simp] abbrev GRID_CFG : Nat := 153
@[simp] abbrev GRID_TRIP : Nat := 154
@[simp] abbrev GRID_ISLAND : Nat := 155
@[simp] abbrev RELAY_CHECK_FAIL : Nat := 156
@[simp] abbrev RELAY_CLOSE_FAIL : Nat := 157
@[simp] abbrev RELAY_FAULT : Nat := 158
@[simp] abbrev RELAY_CFG : Nat := 159
@[simp] abbrev METER_CFG : Nat := 160
@[simp] abbrev METER_CYCLE_LOST : Nat := 161
@[simp] abbrev METER_VAULT_GAP : Nat := 162
@[simp] abbrev METER_VAULT_WRITE : Nat := 163
@[simp] abbrev SP_LOCKSTEP : Nat := 164
@[simp] abbrev DIAG_ARC (x : Nat) : Nat := 165 + x
@[simp] abbrev DIAG_ISO_LOW : Nat := 169
@[simp] abbrev DIAG_BIST_FAIL : Nat := 170
@[simp] abbrev DIAG_CFG : Nat := 171
@[simp] abbrev CLK : Nat := 172
@[simp] abbrev PLL_COAST_LIMIT : Nat := 173
@[simp] abbrev EPOCH : Nat := 174
@[simp] abbrev EPOCH_BARRIER_SKEW : Nat := 175
@[simp] abbrev EPOCH_ISLAND_SKEW : Nat := 176
@[simp] abbrev HPA_LOCKSTEP : Nat := 177
@[simp] abbrev HPB_LOCKSTEP : Nat := 178
@[simp] abbrev SRAM_ECC : Nat := 179
@[simp] abbrev MRAM_ECC : Nat := 180
@[simp] abbrev SVAUTH_FAULT : Nat := 181
@[simp] abbrev WARDEN_DEMAND : Nat := 182
@[simp] abbrev WARDEN_FAULT : Nat := 183
@[simp] abbrev PLC_FAULT : Nat := 184
@[simp] abbrev PWR_SUPPLY : Nat := 185
@[simp] abbrev TEMP_HIGH : Nat := 186
@[simp] abbrev BARRIER_LINK : Nat := 187
@[simp] abbrev SYS_CFG : Nat := 188
@[simp] abbrev DOCENT_HALT : Nat := 189
@[simp] abbrev CURATOR_VOTE : Nat := 190
@[simp] abbrev CURATOR_CFG : Nat := 191
end FS

/-- Raises a Curator source: it is on its way to the Curator (R463, R469). [DESIGN CHOICE (unsafe), log row 18] -/
def State.raiseAt (s : State) (n info : Nat) : State := { s with raised := s.raised ++ [⟨n, info⟩] }

/-- Raises a Curator source that names no place. [DESIGN CHOICE (unsafe), log row 18] -/
def State.raise (s : State) (n : Nat) : State := s.raiseAt n 0

/-- Sets a one-bit flag. -/
def State.set1 (s : State) (f : Fld) : State := s.put f 1

/-- Clears a one-bit flag. -/
def State.clr (s : State) (f : Fld) : State := s.put f 0

/-- The blocks that own a CFG_REJECT flag. -/
inductive Blk where
  | clk | epoch | sensp | sensg | wcmpp | wcmpg | loop (p : Nat) | pwm (u : Nat) | pwmGlobal | drv | lane (l : Nat)
  | laneAll | grid | relay | meter | diag | curator | warden | perf | sysPower | sysReset | plinth | svauth | courh | plc
  deriving DecidableEq, Repr

/-- A block's CFG_REJECT flag (the register tables). -/
def Blk.rejectFld : Blk → Fld
  | .clk => F.CLK_STICKY_CFG_REJECT
  | .epoch => F.EPOCH_STICKY_CFG_REJECT
  | .sensp => F.SENSP_STICKY_CFG_REJECT
  | .sensg => F.SENSG_STICKY_CFG_REJECT
  | .wcmpp => F.WCMPP_STICKY_CFG_REJECT
  | .wcmpg => F.WCMPG_STICKY_CFG_REJECT
  | .loop p => F.LP_STICKY_CFG_REJECT p
  | .pwm u => F.PWM_STICKY_CFG_REJECT u
  | .pwmGlobal => F.PWM_GSTICKY_CFG_REJECT
  | .drv => F.DRV_STICKY_CFG_REJECT
  | .lane l => F.LANE_LSTICKY_CFG_REJECT l
  | .laneAll => F.LANE_STICKY_CFG_REJECT
  | .grid => F.GRID_STICKY_CFG_REJECT
  | .relay => F.RELAY_STICKY_CFG_REJECT
  | .meter => F.METER_STICKY_CFG_REJECT
  | .diag => F.DIAG_STICKY_CFG_REJECT
  | .curator => F.CUR_LSTICKY_CFG_REJECT
  | .warden => F.WARDEN_STICKY_CFG_REJECT
  | .perf => F.PERF_STATUS_CFG_REJECT
  | .sysPower => F.SYS_PWR_STICKY_CFG_REJECT
  | .sysReset => F.SYS_RESET_CAUSE_CFG_REJECT
  | .plinth => F.PLINTH_STICKY_CFG_REJECT
  | .svauth => F.SV_STICKY_CFG_REJECT
  | .courh => F.COURH_STICKY_CFG_REJECT
  | .plc => F.PLC_STICKY_CFG_REJECT

/-- The Curator source a block's CFG_REJECT raises (R8, R37, Table CUR-3); Warden and Svauth have none. -/
def Blk.rejectSrc : Blk → Option Nat
  | .clk => some FS.CLK
  | .epoch => some FS.EPOCH
  | .sensp => some FS.SENS_CFG
  | .sensg => some FS.SENS_CFG
  | .wcmpp => some FS.WCMP_CFG
  | .wcmpg => some FS.WCMP_CFG
  | .loop p => some (FS.LOOP_CFG p)
  | .pwm u => some (FS.PWM_UNIT u)
  | .pwmGlobal => some FS.PWM_GLOBAL
  | .drv => some FS.DRV_CFG
  | .lane _ => some FS.LANE_CFG
  | .laneAll => some FS.LANE_CFG
  | .grid => some FS.GRID_CFG
  | .relay => some FS.RELAY_CFG
  | .meter => some FS.METER_CFG
  | .diag => some FS.DIAG_CFG
  | .curator => some FS.CURATOR_CFG
  | .perf => some FS.SYS_CFG
  | .sysPower => some FS.SYS_CFG
  | .sysReset => some FS.SYS_CFG
  | .plinth => some FS.SYS_CFG
  | .courh => some FS.SYS_CFG
  | .plc => some FS.SYS_CFG
  | .warden => none
  | .svauth => none

/-- A refused write: the block's CFG_REJECT flag sets and its Curator source is raised (R8, R37). -/
def State.cfgReject (s : State) (b : Blk) : State :=
  match b.rejectSrc with
  | some n => (s.set1 b.rejectFld).raise n
  | none => s.set1 b.rejectFld

/-- Sets a sticky flag and raises a source. -/
def State.stickyRaise (s : State) (f : Fld) (n : Nat) : State := (s.set1 f).raise n

end Sys2Proof.Machine
end

