-- ==== Sys2Proof/Machine/Operands.lean ====
section
/-!
DEFINITION. The operand forms a write can take: the image's bytes and its ADJUST entries, and the gates a write of a
LIVE or QUIET field passes (R6 to R9, R36, R37, R672, R673).
-/

namespace Sys2Proof.Machine

/-! ### The image's bytes (R12, R14) -/

/-- The byte at an offset; 0 past the end. -/
def bU8 (bs : List Byte) (o : Nat) : Nat := (bs.getD o 0).toNat

/-- The little-endian number of n bytes at an offset. -/
def bU (bs : List Byte) (o n : Nat) : Nat := leNat ((bs.drop o).take n)

/-- The little-endian two's complement number of n bytes at an offset. -/
def bS (bs : List Byte) (o n : Nat) : Int := signedOf (8 * n) (bU bs o n)

/-- The bytes of a section of the image in force; none where there is no image or no such section. -/
def State.sec (s : State) (ty inst : Nat) : List Byte :=
  match s.img.applied with
  | none => []
  | some im =>
    match im.sections.find? (fun x => x.ty == ty && x.inst == inst) with
    | some x => x.bytes
    | none => []

/-- The image in force holds a section. -/
def State.hasSec (s : State) (ty inst : Nat) : Bool :=
  match s.img.applied with
  | none => false
  | some im => im.sections.any (fun x => x.ty == ty && x.inst == inst)

namespace Sec
@[simp] abbrev topology : Nat := 1
@[simp] abbrev routing : Nat := 2
@[simp] abbrev loopGraph : Nat := 3
@[simp] abbrev driveTiming : Nat := 4
@[simp] abbrev faultMap : Nat := 5
@[simp] abbrev severity : Nat := 6
@[simp] abbrev gridCode : Nat := 7
@[simp] abbrev metering : Nat := 8
@[simp] abbrev warden : Nat := 9
@[simp] abbrev pads : Nat := 10
@[simp] abbrev power : Nat := 11
@[simp] abbrev adjust : Nat := 12
end Sec

/-- The FLAGS byte of the header of the image in force (Table IMG-1). -/
def State.imgFlags (s : State) : Nat :=
  match s.img.applied with
  | none => 0
  | some im => bU8 im.header 0x13

/-- SAFETY_PROFILE of the image in force. -/
def State.profile (s : State) : Bool := bitOf s.imgFlags 0

/-! ### The topology (Tables IMG-3, IMG-4) -/

/-- A little-endian field of TOPOLOGY. -/
def State.topo (s : State) (o n : Nat) : Nat := bU (s.sec Sec.topology 0) o n

/-- GRID_TOPO (Table IMG-4). -/
def State.gridTopo (s : State) : Nat := s.topo 0x04 1

/-- The number of phases a topology has (Table IMG-4). -/
def topoPhases (t : Nat) : Nat := if t = 1 ∨ t = 2 then 3 else if t = 3 then 1 else if t = 4 ∨ t = 5 then 2 else 0

/-- The grid units a topology names (Tables IMG-4, GSP-4). -/
def topoUnits (t : Nat) : List Nat :=
  if t = 1 then [8, 9, 10, 11, 12, 13] else if t = 2 then [8, 9, 10] else if t = 3 ∨ t = 4 then [8, 9]
  else if t = 5 then [8, 9, 10, 11] else []

/-! ### ADJUST (R36, R37, R672, R673) -/

/-- One ADJUST entry. -/
structure AdjEntry where
  addr : Nat
  signed : Bool
  mask : Nat
  lo : Nat
  hi : Nat
  deriving DecidableEq, Repr

/-- The ADJUST entries of a section's bytes. -/
def adjEntries (bs : List Byte) : List AdjEntry :=
  (List.range (bU bs 0 2)).map fun k =>
    let o := 0x10 + 0x10 * k
    let a := bU bs o 4
    { addr := a / 4 * 4, signed := bitOf a 0, mask := bU bs (o + 4) 4, lo := bU bs (o + 8) 4, hi := bU bs (o + 12) 4 }

/-- The mask of a field. -/
def Fld.mask (f : Fld) : Nat := (2 ^ f.len - 1) * 2 ^ f.lo

/-- How a write to a LIVE or QUIET field stands against the ADJUST entries: not covered (R36), outside the limits
(R37), or admitted. -/
inductive Adj where
  | uncovered | outside | ok
  deriving DecidableEq, Repr

/-- Judges a new field value against an entry (R673). -/
def AdjEntry.judge (e : AdjEntry) (len v : Nat) : Adj :=
  if e.signed then
    if signedOf 32 e.lo ≤ signedOf len v ∧ signedOf len v ≤ signedOf 32 e.hi then .ok else .outside
  else if e.lo ≤ v ∧ v ≤ e.hi then .ok else .outside

/-- Judges a new field value against the image's ADJUST entries (R36, R37). [DEDUCED (unsafe), log row 22] -/
def State.adjust (s : State) (f : Fld) (v : Nat) : Adj :=
  match (adjEntries (s.sec Sec.adjust 0)).find? (fun e => e.addr == f.addr && e.mask == f.mask) with
  | none => .uncovered
  | some e => e.judge f.len v

/-- The gate of a runtime write to a LIVE field: ignored where no entry covers it (R36), refused with the block's
CFG_REJECT outside the limits (R37), and otherwise what the rule gives; a write of the value in force is a write like any
other (log row 12). [DEDUCED (unsafe), log row 12; DEDUCED (unsafe), log row 22; DEDUCED (unsafe), log row 23] -/
def State.liveGate (s : State) (b : Blk) (f : Fld) (v : Nat) (k : State → State) : State :=
  match s.adjust f v with
  | .uncovered => s
  | .outside => s.cfgReject b
  | .ok => k s

/-- The gate of a runtime write to a QUIET field: as a LIVE one, and while the owning block runs it is ignored with
CFG_REJECT (R8), whatever value it carries (log row 12). [DEDUCED (unsafe), log row 12; DEDUCED (unsafe), log row 24] -/
def State.quietGate (s : State) (b : Blk) (running : Bool) (f : Fld) (v : Nat) (k : State → State) : State :=
  s.liveGate b f v (fun s => if running then s.cfgReject b else k s)

/-! ### Shadows of LIVE registers (R6, R7) -/

/-- Puts a field value into the register's shadow; a later write before the boundary stands. -/
def State.toShadow (s : State) (f : Fld) (v : Nat) : State :=
  let x := s.shadow.get f.addr
  { s with shadow := s.shadow.set f.addr ⟨bitsPut x.val f.lo f.len v, bitsPut x.mask f.lo f.len (2 ^ f.len - 1)⟩ }

/-- A field has a value waiting in its shadow. -/
def State.shadowed (s : State) (f : Fld) : Bool := bitsOf (s.shadow.get f.addr).mask f.lo f.len != 0

/-- The value of a field in its shadow, or in force where none waits. -/
def State.shadowGet (s : State) (f : Fld) : Nat :=
  if s.shadowed f then bitsOf (s.shadow.get f.addr).val f.lo f.len else s.get f

/-- Discards what waits in a register's shadow. -/
def State.dropShadow (s : State) (a : Nat) : State := { s with shadow := s.shadow.set a default }

/-- The boundary: what waits in a field's shadow takes effect. -/
def State.transfer (s : State) (f : Fld) : State :=
  if s.shadowed f then
    let v := s.shadowGet f
    let x := s.shadow.get f.addr
    { (s.put f v) with shadow := s.shadow.set f.addr ⟨bitsPut x.val f.lo f.len 0, bitsPut x.mask f.lo f.len 0⟩ }
  else s

/-! ### Conditions several blocks read -/

/-- The PWM unit's STATE (Table PWM-8): 0 STOPPED, 1 RUNNING, 2 FROZEN, 3 FENCED. -/
def State.pwmState (s : State) (u : Nat) : Nat := s.get (F.PWM_STATUS_STATE u)

/-- "Every PWM unit stopped": each reads STOPPED, or FENCED with its counter halted (R291). -/
def State.pwmAllStopped (s : State) : Bool :=
  (List.range 14).all fun u =>
    s.pwmState u == 0 || (s.pwmState u == 3 && !(s.pwm.get u).counting)

/-- The Foyer state is in force (R612). -/
def State.inFoyer (s : State) : Bool := s.flag F.SYS_FOYER_IN_FOYER

/-- A read has found an uncorrectable word of MRAM or of system SRAM (R521). -/
def State.eccRaise (s : State) (mram : Bool) (a : Nat) : State :=
  (s.stickyRaise (if mram then F.SYS_ECC_MRAM_UNCOR else F.SYS_ECC_SRAM_UNCOR)
    (if mram then FS.MRAM_ECC else FS.SRAM_ECC)).wr R.SYS_ECC_ADDR (w32 a)

/-- A read at an address has found its word uncorrectable. -/
def State.eccFound (s : State) (a : Nat) : State := s.eccRaise (0x10000000 ≤ a && a < 0x11000000) a

/-- Start-up has not ended, at P8 or at entry to the Foyer state (the text after Table SUP-3). -/
def State.startingUp (s : State) : Bool := !s.flag F.SYS_START_DONE && !s.inFoyer

/-- Every window group is disabled. -/
def State.wgAllDisabled (s : State) : Bool := (List.range 4).all fun g => !s.flag (F.SENSP_WG_CTRL_EN g)

/-- A SCHED entry's STATE (Table EPOCH-8): 0 IDLE, 1 ARMED, 2 DONE. -/
def State.schedState (s : State) (e : Nat) : Nat := s.get (F.SCHED_CTRL_STATE e)

/-- TIME of an entry. -/
def State.schedTime (s : State) (e : Nat) : Nat :=
  (s.rd (R.SCHED_TIME_LO e)).toNat + 2 ^ 32 * (s.rd (R.SCHED_TIME_HI e)).toNat

/-- The action code of an entry. -/
def State.schedAct (s : State) (e : Nat) : Nat := s.get (F.SCHED_ACTION_ACTION e)

/-- The TARGET of an entry. -/
def State.schedTarget (s : State) (e : Nat) : Nat := s.get (F.SCHED_ACTION_TARGET e)

/-- The PARAM of an entry. -/
def State.schedParam (s : State) (e : Nat) : Nat := (s.rd (R.SCHED_PARAM e)).toNat

/-- The CLK block runs, for QUIET fields and DIVSYNC_ARM (R67). -/
def State.clkRunning (s : State) : Bool := !(s.pwmAllStopped && s.wgAllDisabled)

/-- The EPOCH block runs, for QUIET fields, LOAD and MARK_ARM (R96). -/
def State.epochRunning (s : State) : Bool :=
  !(s.pwmAllStopped && s.wgAllDisabled && (List.range 32).all fun e => s.schedState e != 1)

end Sys2Proof.Machine
end

