-- ==== Sys2Proof/Machine/EpochOps.lean ====
section
/-!
DEFINITION. What several families do to Epoch: the tick, the mark alignment and the mark check (R84, R98 to R100, R108).
-/

namespace Sys2Proof.Machine

/-- The rate accumulator's part of one tick (R100): the new accumulator and the steps requested. -/
def rateTick (acc rate : Int) : Int × Int :=
  let a := acc + rate
  if 1000000000 ≤ a then (a - 1000000000, 1)
  else if a ≤ -1000000000 then (a + 1000000000, -1)
  else (a, 0)

/-! ### The output dividers (R61, R64, R65) -/

/-- The ratios of the output dividers (R64): Epoch, core, engine, modulator and serialiser clock. -/
def dividers : List Nat := [4, 5, 8, 40, 2]

/-- The phase at which each output divider stands, in VCO cycles. -/
def State.divPhases (s : State) : List Nat := dividers.map (s.clk.vco % ·)

/-- All output dividers restart together at phase 0 (R61, R65). -/
def State.divRestart (s : State) : State := { s with clk := { s.clk with vco := 0 } }

/-- One Epoch-clock edge (R84, R99, R100): Epoch advances by one, by two in an advance step, by none in a retard step; the rate is
added once per edge, also at an edge of a step (log row 35). The VCO has made the four cycles of an Epoch-clock period (R64).
Before the outputs unmute there is no edge (R61). [DESIGN CHOICE (safe), log row 1; DEDUCED (unsafe), log row 35] -/
def State.tick (s : State) : State :=
  if s.flag F.CLK_STATUS_MUTED then s
  else
    let r := rateTick s.ep.acc (s.getS F.EPOCH_RATE_RATE)
    let e := ((s.epoch : Int) + 1 + s.ep.step).toNat
    { s with
      epoch := e % 2 ^ 64
      clk := { s.clk with vco := (s.clk.vco + 4) % 40 }
      ep := { s.ep with acc := r.1, req := s.ep.req + r.2, step := 0, base := s.ep.base - (e / 2 ^ 64 * 2 ^ 64 : Nat) } }

/-- The elapsed coast time in milliseconds, saturating (R75, Table CLK-8). -/
def State.coastMs (s : State) : Nat := satTo 16 ((s.mono - s.clk.coastFrom) / 800000)

/-- A tick kept of what has happened or is due, moved with Epoch. -/
def tickMove (d : Int) (t : Nat) : Nat := ((t : Int) + d).toNat

/-- A half-bridge's ticks, moved with Epoch. -/
def HalfBridge.move (h : HalfBridge) (d : Int) : HalfBridge :=
  { h with offHi := h.offHi.map (tickMove d), offLo := h.offLo.map (tickMove d), refresh := tickMove d h.refresh,
           refEnd := tickMove d h.refEnd }

/-- A lane's ticks and labels, moved with Epoch. -/
def Lane.move (x : Lane) (d : Int) : Lane :=
  { x with offA := x.offA.map (tickMove d), offB := x.offB.map (tickMove d), busyTo := tickMove d x.busyTo,
           hbDue := x.hbDue.map (tickMove d), hbFirst := tickMove d x.hbFirst, lineAt := tickMove d x.lineAt,
           fillAt := tickMove d x.fillAt }

/-- What the receivers of edges and the comparators' checks keep of past ticks stays as far in the past when Epoch moves. -/
def State.ticksMove (s : State) (d : Int) : State :=
  { s with
    drive := { s.drive with hb := s.drive.hb.update fun h => h.move d, lane := s.drive.lane.update fun x => x.move d }
    sens := { s.sens with ch := s.sens.ch.update fun c => { c with last := c.last.map fun r => (tickMove d r.1, r.2) } } }

/-- Every copy of Epoch takes a value at one edge (R97, R98): the ticks that have passed stay what they are. The rate accumulator,
its waiting request and a step already taken are kept over it (log row 35). The ticks of earlier stops and requests are ticks no more,
and the next periodic BIST is due at the next multiple of its interval (Table ARB-4).
[DEDUCED (unsafe), log row 35] -/
def State.epochSet (s : State) (v : Nat) : State :=
  let t := s.ticksMove ((v : Int) - s.epoch)
  { t with epoch := v, ep := { s.ep with base := s.ep.base + (v : Int) - s.epoch, stopAt := [] },
           diag := { s.diag with bistNext := (v + 39999999) / 40000000, reqAt := none } }

/-- The compensation C of R98. -/
def State.syncComp (s : State) : Nat := s.get F.EPOCH_SYNC_COMP_C

/-- The value every copy takes at an armed mark with local value L (R98). -/
def markValue (l c : Nat) : Nat := unsignedOf 64 (roundDiv ((l : Int) - c) 800000 * 800000 + c)

/-- Mark alignment at an armed mark (R98). -/
def State.markAlign (s : State) : State :=
  let v := markValue s.epoch s.syncComp
  let s := ((s.put F.EPOCH_STATUS_ALIGNED 1).put F.EPOCH_CTRL_MARK_ARM 0).put F.EPOCH_STATUS_MARK_ARMED 0
  s.epochSet v

/-- The check of an aligned Epoch at a correctly spaced mark (R108). -/
def State.markCheck (s : State) : State :=
  if s.epoch % 800000 = s.syncComp % 800000 then s
  else ((s.set1 F.EPOCH_STICKY_MARK_SLIP).clr F.EPOCH_STATUS_ALIGNED).raise FS.EPOCH

/-- What a mark does to Epoch (R98, R108); a wrongly spaced mark is not used (R70). A mark that finds Epoch both armed and ALIGNED
aligns it and is not checked (log row 35). [DEDUCED (unsafe), log row 35] -/
def State.epochMark (s : State) (ok : Bool) : State :=
  if !ok then s
  else if s.flag F.EPOCH_CTRL_MARK_ARM then s.markAlign
  else if s.flag F.EPOCH_STATUS_ALIGNED then s.markCheck
  else s

/-! ### The Plinth's clock (R549) -/

/-- The raw cycles of the second in progress: 32,768, and TRIM / 32 cycles more with the carry of the accumulator. -/
def State.secLen (s : State) : Nat := ((32768 : Int) + (s.plinth.secAcc + s.getS F.PLINTH_RTC_TRIM_TRIM) / 32).toNat

/-- The raw count as it stands now. How far into the second a command finds the Plinth's oscillator is not Epoch's to say: it is
drawn, from the count last seen to the last cycle of the second. -/
def State.cycAdvance (s : State) : State :=
  let p := s.plinth
  let room := p.secFrom + s.secLen - p.cyc
  if room = 0 then s
  else { s.drew with plinth := { p with cyc := p.cyc + s.drawn % room } }

end Sys2Proof.Machine
end

