-- ==== Sys2Proof/Machine/Clock.lean ====
section
/-!
DEFINITION. Clock synthesis (chapter 02): references, lock, mute and start, divider reset, marks, N, coasting, the
choice of the reference.
-/

namespace Sys2Proof.Machine

/-- The code of a reference in REF_SEL and ACTIVE_REF (Table CLK-4). -/
def refCode : RefSel → Nat
  | .xin => 0
  | .sync => 1

/-- The presence flag of a reference (R57). -/
def refOk : RefSel → Fld
  | .xin => F.CLK_STATUS_XIN_OK
  | .sync => F.CLK_STATUS_SYNC_OK

/-- The nominal N of a reference, by its code (Table CLK-1). -/
def nNominal (ref : Nat) : Nat := if ref = 0 then 128 else 320

/-- N is in the permitted row of a reference (Table CLK-1). -/
def nPermitted (ref n : Nat) : Bool :=
  if ref = 0 then 112 ≤ n && n ≤ 144 else 280 ≤ n && n ≤ 360

/-- The crystal's load capacitance in pF, which the device sets from XTAL_CAP (R54). -/
def State.xtalLoad (s : State) : Rat := 4 + (s.get F.CLK_CTRL_XTAL_CAP : Rat) / 2

/-- What SYNC_OUT carries (R82): nothing, the edges of SYNC_IN, or 10 MHz of the device's own. -/
inductive SyncOut where
  | low
  | repeats
  | generates
  deriving DecidableEq, Repr

/-- What SYNC_OUT carries now (R82); the outputs of the PLL are low while it is muted (R61). -/
def State.syncOut (s : State) : SyncOut :=
  match s.get F.CLK_CTRL_SYNC_OUT_MODE with
  | 0 => .low
  | 1 => .repeats
  | _ => if s.flag F.CLK_STATUS_MUTED then .low else .generates

/-- The fixed delay from a rising edge of SYNC_IN, or from the position of an edge of the VCO divided by 320, to SYNC_OUT, in
picoseconds (R82). -/
def syncOutDelay : Nat := 4000

/-- A rising edge leaves SYNC_OUT that delay after the present tick begins (R82): the edge that arrives on SYNC_IN, or one of the
edges 80 ticks apart, of which those at Epoch's milliseconds are suppressed: they are the marks. -/
def State.syncOutRises (s : State) (inRises : Bool) : Bool :=
  match s.syncOut with
  | .low => false
  | .repeats => inRises
  | .generates => s.epoch % 80 == 0 && s.epoch % 800000 != 0

/-- An armed divider reset is cancelled (R66). -/
def State.armCancel (s : State) : State :=
  { (s.put F.CLK_CTRL_DIVSYNC_ARM 0) with clk := { s.clk with armMark := false } }

/-- The VCO starts to coast (R75), unless it coasts already. [DEDUCED (unsafe), log row 33] -/
def State.coastStart (s : State) : State :=
  let s := { s with clk := { s.clk with frozen := true } }
  if s.flag F.CLK_STATUS_COAST then s
  else
    let s := ((s.put F.CLK_STATUS_COAST 1).incSat F.CLK_COAST_COAST_CNT).put F.CLK_COAST_COAST_MS 0
    { s with clk := { s.clk with coastFrom := s.mono, limitHit := false } }

/-- REF_PRESENCE_CHANGE (R57): the presence flag takes its value; CLK_FREQ holds the measured offset while both
references are present and 0x8000_0000 otherwise (Table CLK-9); XIN's presence enables the PLL at start (Table CLK-2). -/
def execRefPresenceChange (ref : RefSel) (present : Bool) (offset : Word) (s : State) : Res :=
  let s := s.put (refOk ref) (b2n present)
  let both := s.flag F.CLK_STATUS_XIN_OK && s.flag F.CLK_STATUS_SYNC_OK
  let s := s.wr R.CLK_FREQ (if both then offset else 0x80000000#32)
  let start := s.flag F.CLK_STATUS_XIN_OK && s.flag F.CLK_STATUS_MUTED && !s.clk.failHold
  .next { s with clk := { s.clk with on := s.clk.on || start } }

/-- PLL_LOCK_ACQUIRE (R60, R79): after 256 comparisons within 1 ns LOCK reads 1, and a coast ends. -/
def execPllLockAcquire (s : State) : Res :=
  if s.clk.on && !s.flag F.CLK_STATUS_LOCK && !s.clk.frozen then
    let t := s.put F.CLK_STATUS_LOCK 1
    if s.flag F.CLK_STATUS_COAST then
      .next ((t.put F.CLK_COAST_COAST_MS s.coastMs).put F.CLK_STATUS_COAST 0)
    else .next t
  else .next s

/-- PLL_LOCK_LOSS (R60, R75): LOCK reads 0, the VCO coasts, LOCK_LOST sets, an armed divider reset is cancelled. -/
def execPllLockLoss (s : State) : Res :=
  if s.flag F.CLK_STATUS_LOCK then
    .next ((((s.put F.CLK_STATUS_LOCK 0).armCancel).coastStart).set1 F.CLK_STICKY_LOCK_LOST)
  else .next s

/-- PLL_UNMUTE (R61, R84): LOCK has held for 20 us at the start: the outputs unmute, the dividers start at phase 0 and
Epoch starts at 0. -/
def execPllUnmute (s : State) : Res :=
  if s.clk.on && s.flag F.CLK_STATUS_LOCK && s.flag F.CLK_STATUS_MUTED then
    let t := (s.put F.CLK_STATUS_MUTED 0).divRestart
    .next { t with epoch := 0, ep := { t.ep with base := 0 }, clk := { t.clk with failHold := false } }
  else .next s

/-- PLL_START_TIMEOUT (R63): XIN_OK missing after 10 ms, or LOCK 1 ms after the enable: the device stays held. -/
def execPllStartTimeout (s : State) : Res :=
  if s.flag F.CLK_STATUS_MUTED && !s.flag F.CLK_STATUS_LOCK then
    .next { s with clk := { s.clk with failHold := true, on := false } }
  else .next s

/-- PLL_START_RETRY (R63): a held device starts its PLL again; without XIN there is nothing to start from. -/
def execPllStartRetry (s : State) : Res :=
  if s.clk.failHold then
    .next { s with clk := { s.clk with on := s.flag F.CLK_STATUS_XIN_OK } }
  else .next s

/-- What a write of 1 to DIVSYNC_ARM does (R65, R66). An arm accepted while DIV_ALIGNED is 1 leaves it 1, through the wait and through a
cancellation; a write while armed forgets a mark already seen (log row 34). [DEDUCED (unsafe), log row 34] -/
def State.divsyncArm (s : State) : State :=
  if s.flag F.CLK_STATUS_ACTIVE_REF && s.flag F.CLK_STATUS_LOCK && !s.clkRunning then
    { (s.put F.CLK_CTRL_DIVSYNC_ARM 1) with clk := { s.clk with armMark := false } }
  else s.cfgReject .clk

/-- DIVSYNC_ARM (R65, R66): any initiator's write. -/
def execDivsyncArm (_i : Initiator) (s : State) : Res := .next s.divsyncArm

/-- The check of the dividers' joint phase at a correctly spaced mark, off VCO cycles after the present Epoch-clock edge (R68): a
phase other than 0 is a slip. The dividers are not moved. -/
def State.divCheck (s : State) (off : Nat) : State :=
  if s.flag F.CLK_STATUS_DIV_ALIGNED && (s.clk.vco + off) % 40 != 0 then
    ((s.set1 F.CLK_STICKY_DIV_SLIP).put F.CLK_STATUS_DIV_ALIGNED 0).raise FS.CLK
  else s

/-- A mark's part in an armed divider reset (R65): a correctly spaced mark after one that serves restarts the dividers; a wrongly
spaced mark serves for nothing (R70). [DEDUCED (unsafe), log row 34] -/
def State.divArmMark (s : State) (ok wrong : Bool) : State :=
  if !s.flag F.CLK_CTRL_DIVSYNC_ARM then s
  else if s.clk.armMark && ok then
    let t := ((s.put F.CLK_STATUS_DIV_ALIGNED 1).put F.CLK_CTRL_DIVSYNC_ARM 0).divRestart
    { t with clk := { t.clk with armMark := false } }
  else { s with clk := { s.clk with armMark := !wrong } }

/-- What a mark does to the dividers (R65, R68, R70). [DEDUCED (unsafe), log row 34] -/
def State.divMark (s : State) (ok wrong : Bool) (off : Nat) : State :=
  (if ok then s.divCheck off else s).divArmMark ok wrong

/-- SYNC_MARK (R65, R68 to R70, R98, R108): a mark, with the reference cycles since the previous one and the VCO cycles from the
present Epoch-clock edge to its position. -/
def execSyncMark (spacing : Nat) (off : Nat) (s : State) : Res :=
  let wrong := s.clk.markSeen && spacing != 10000
  let ok := s.clk.markSeen && spacing == 10000
  let t := s.incWrap F.CLK_MARKS_MARK_CNT
  let t := { t with clk := { t.clk with markSeen := true } }
  let t := if wrong then (t.set1 F.CLK_STICKY_MARK_ERR).put F.CLK_STATUS_MARKS_OK 0 else t
  let t := if ok then t.put F.CLK_STATUS_MARKS_OK 1 else t
  .next ((t.epochMark ok).divMark ok wrong off)

/-- MARK_MISSING (R70): 10,000 reference cycles without a mark. -/
def execMarkMissing (s : State) : Res := .next (s.incSat F.CLK_MARKS_MISS_CNT)

/-- A write to N (R58, R71, R72), past the ADJUST gate. [DEDUCED (unsafe), log row 22] -/
def State.clkNWrite (s : State) (n : Nat) : State :=
  let cur := s.get F.CLK_N_N
  if nPermitted (s.get F.CLK_STATUS_ACTIVE_REF) n && n ≤ cur + 1 && cur ≤ n + 1 then
    (s.toShadow F.CLK_N_N n).put F.CLK_STATUS_N_PENDING 1
  else s.cfgReject .clk

/-- CLK_N_WRITE (R36, R37, R58, R71, R72). -/
def execClkNWrite (_i : Initiator) (v : Word) (s : State) : Res :=
  let n := bitsOf v.toNat 0 9
  .next (s.liveGate .clk F.CLK_N_N n (fun s => s.clkNWrite n))

/-- CLK_N_TRANSFER (R71): the first comparison at least 50 us after the previous change of N. While the control voltage is frozen
the phase detector's comparisons move nothing, and N waits (log row 33). [DEDUCED (unsafe), log row 33] -/
def execClkNTransfer (s : State) : Res :=
  let due := match s.clk.nChanged with
    | none => true
    | some t => t + 40000 ≤ s.mono
  if s.flag F.CLK_STATUS_N_PENDING && due && !s.clk.frozen then
    let t := (s.transfer F.CLK_N_N).put F.CLK_STATUS_N_PENDING 0
    .next { t with clk := { t.clk with nChanged := some s.mono } }
  else .next s

/-- REF_LOSS (R74, R75): three expected edges of the active reference are missing. -/
def execRefLoss (s : State) : Res :=
  if s.clk.on && !s.clk.refLost then
    let t := (((s.put F.CLK_STATUS_LOCK 0).armCancel).coastStart).set1 F.CLK_STICKY_REF_LOST
    .next { t with clk := { t.clk with refLost := true } }
  else .next s

/-- COAST_LIMIT (R77): 1 s of continuous coasting. -/
def execCoastLimit (s : State) : Res :=
  if s.flag F.CLK_STATUS_COAST && !s.clk.limitHit && s.clk.coastFrom + 800000000 ≤ s.mono then
    let t := s.stickyRaise F.CLK_STICKY_COAST_LIMIT FS.PLL_COAST_LIMIT
    .next { t with clk := { t.clk with limitHit := true } }
  else .next s

/-- REF_RESTORE (R79, R80): 1,024 good edges: the loop is released, and an alignment of the dividers is given up. -/
def execRefRestore (s : State) : Res :=
  if s.clk.frozen then
    let t := s.put F.CLK_STATUS_DIV_ALIGNED 0
    .next { t with clk := { t.clk with frozen := false, refLost := false } }
  else .next s

/-- What a change of REF_SEL does (R81): the loop is frozen as R75 gives, with LOCK 0, and runs on the new reference, which is not
lost (R74), once R79 releases it. [DEDUCED (unsafe), log row 33] -/
def State.refSelect (s : State) (c : Nat) : State :=
  let t := ((s.put F.CLK_CTRL_REF_SEL c).put F.CLK_STATUS_ACTIVE_REF c).put F.CLK_N_N (nNominal c)
  let t := (t.put F.CLK_STATUS_N_PENDING 0).put F.CLK_STATUS_DIV_ALIGNED 0
  let t := if s.flag F.CLK_STATUS_LOCK then (t.put F.CLK_STATUS_LOCK 0).set1 F.CLK_STICKY_LOCK_LOST else t
  let t := ((t.dropShadow R.CLK_N).armCancel).coastStart
  { t with clk := { t.clk with refLost := false, nChanged := some s.mono } }

/-- A write of REF_SEL past its gate: a change takes effect (R81). -/
def State.refSelWrite (s : State) (c : Nat) : State := if s.get F.CLK_CTRL_REF_SEL = c then s else s.refSelect c

/-- REF_SEL_WRITE (R81, R67, R8, R36). -/
def execRefSelWrite (_i : Initiator) (sel : RefSel) (s : State) : Res :=
  .next (s.quietGate .clk s.clkRunning F.CLK_CTRL_REF_SEL (refCode sel) (fun s => s.refSelWrite (refCode sel)))

end Sys2Proof.Machine
end

