-- ==== Sys2Proof/Machine/Crc.lean ====
section
/-!
DEFINITION. The cyclic redundancy checks the rules name: CRC-5 and CRC-8 of R325, CRC-32 of Table MTR-3 (IEEE 802.3).
-/

namespace Sys2Proof.Machine

/-- The bits of an n-bit number, most significant first (R319). -/
def msbBits (n v : Nat) : List Bool := (List.range n).map fun i => bitOf v (n - 1 - i)

/-- One bit of CRC-5, x⁵ + x² + 1, most significant bit first (R325). -/
def crc5Bit (c : Nat) (b : Bool) : Nat :=
  let x := c * 2 % 32
  if bitOf c 4 != b then x ^^^ 0x05 else x

/-- CRC-5 over bits, preset to all ones, no inversion (R325). -/
def crc5 (bs : List Bool) : Nat := bs.foldl crc5Bit 0x1F

/-- One bit of CRC-8, x⁸ + x² + x + 1, most significant bit first (R325). -/
def crc8Bit (c : Nat) (b : Bool) : Nat :=
  let x := c * 2 % 256
  if bitOf c 7 != b then x ^^^ 0x07 else x

/-- CRC-8 over bytes, preset to all ones, no inversion (R325). -/
def crc8 (bs : List Nat) : Nat :=
  bs.foldl (fun c b => [7, 6, 5, 4, 3, 2, 1, 0].foldl (fun c k => crc8Bit c (bitOf b k)) c) 0xFF

/-- One bit of the reflected CRC-32. -/
def crc32Bit (c : Nat) : Nat := if c % 2 = 1 then (c / 2) ^^^ 0xEDB88320 else c / 2

/-- One byte of the reflected CRC-32. -/
def crc32Byte (c : Nat) (b : Byte) : Nat := (List.range 8).foldl (fun c _ => crc32Bit c) (c ^^^ b.toNat)

/-- CRC-32 (IEEE 802.3 polynomial, reflected, preset and final inversion all ones; Table MTR-3). -/
def crc32 (bs : List Byte) : Nat := (bs.foldl crc32Byte 0xFFFFFFFF) ^^^ 0xFFFFFFFF

end Sys2Proof.Machine
end

