-- ==== Sys2Proof/Machine/Holds.lean ====
section
/-!
DEFINITION. The holds on switches: the fault groups a comparator holds, the lock-out and the lost internal lane
(R172, R293, R309, R311), and the fences that stand on units and groups.
-/

namespace Sys2Proof.Machine

/-- A power domain's DOMAIN_ON (Table PWR-4). -/
def State.pdOn (s : State) (d : Nat) : Bool := bitOf (s.get F.SYS_PD_STATUS_DOMAIN_ON) d

/-- A comparator's STATE (Table WCMP-7): 0 READY, 1 TRIPPED, 2 TRIP_PENDING, 3 TEST. -/
def State.wcState (s : State) (c : Nat) : Nat := s.get (F.WC_STATUS_STATE c)

/-- A comparator holds its groups: its die is powered and it is TRIPPED, TRIP_PENDING or under test (R172). -/
def State.wcHolds (s : State) (c : Nat) : Bool := s.pdOn (if c < 14 then 8 else 10) && s.wcState c != 0

/-- A fault group is held: a comparator that names it holds (R172, Table PWM-4). -/
def State.groupHeld (s : State) (g : Nat) : Bool :=
  (List.range 24).any fun c => bitOf (s.get (F.WC_CFG_GROUPS c)) g && s.wcHolds c

/-- The mask of the held fault groups (PWM_GROUPS [7:0]). -/
def State.heldGroups (s : State) : Nat :=
  (List.range 8).foldl (fun m g => m + 2 ^ g * b2n (s.groupHeld g)) 0

/-- A unit is a member of one of the groups of a mask (R293). -/
def State.inGroups (s : State) (u mask : Nat) : Bool := (s.get (F.PWM_CFG_GROUPS u)) &&& mask != 0

/-- A switch of the unit is held now (R293; the Warden reaction holds every unit, R492, R493; the lock-out counts on PU0 to
PU7, R311; so does the lost internal lane, R309). -/
def State.unitHeld (s : State) (u : Nat) : Bool :=
  s.inGroups u s.heldGroups || s.flag F.WARDEN_STATUS_REACTION || (u < 8 && (s.flag F.DRV_STATUS_LOCKOUT || s.drive.linkLost))

/-- The mask of a predicate over the first n indices. -/
def maskOf (n : Nat) (p : Nat → Bool) : Nat := (List.range n).foldl (fun m k => m + 2 ^ k * b2n (p k)) 0

/-- A unit is fenced (Table PWM-8). -/
def State.unitFenced (s : State) (u : Nat) : Bool := s.pwmState u == 3

/-- The units named by a fault-group mask. -/
def State.groupUnits (s : State) (mask : Nat) : List Nat := (List.range 14).filter fun u => s.inGroups u mask

/-- Input x cannot be judged by arc detection now: a switch of its units is held or fenced, or its trace runs (R445). -/
def State.arcBlocked (s : State) (x : Nat) : Bool :=
  [2 * x, 2 * x + 1].any (fun u => s.unitHeld u || s.unitFenced u) || bitOf (s.rd R.DIAG_MAINT_RUN).toNat (4 + x)

/-- Opens or closes the newest interval of a list of intervals, as a condition is now met or not. -/
def noteInterval (now : Nat) (c : Bool) : List (Nat × Option Nat) → List (Nat × Option Nat)
  | (a, none) :: t => if c then (a, none) :: t else (a, some now) :: t
  | l => if c then (now, none) :: l.filter (fun i => match i.2 with | some e => now ≤ e + 1000000 | none => true) else l

/-- The holds or fences have changed: every unit in a period that is held now records it for HELD_PREV (R293), and each input's
blocked interval begins or ends (R445). -/
def State.noteHolds (s : State) : State :=
  let s := s.forEach (List.range 14) fun s u =>
    if s.unitHeld u && (s.pwm.get u).counting then { s with pwm := s.pwm.modify u fun p => { p with heldThis := true } } else s
  s.forEach (List.range 4) fun s x =>
    { s with diag := { s.diag with arc := s.diag.arc.modify x fun a =>
        { a with blocked := noteInterval s.epoch (s.arcBlocked x) a.blocked } } }

end Sys2Proof.Machine
end

