-- ==== Sys2Proof/Machine/SensOps.lean ====
section
/-!
DEFINITION. What several commands do to sensing: window triggers, codes and flags, overloads of an interval, delivery to
the loop pairs and SP (R115 to R135, R150 to R152). Channels are numbered 0 to 25: PS0 to PS15, then GS0 to GS9.
-/

namespace Sys2Proof.Machine

/-- Changes a channel's hidden state. -/
def State.modCh (s : State) (k : Nat) (f : ChState → ChState) : State := { s with sens := { s.sens with ch := s.sens.ch.modify k f } }

/-- Changes a window group's hidden state. -/
def State.modWg (s : State) (g : Nat) (f : WgState → WgState) : State := { s with sens := { s.sens with wg := s.sens.wg.modify g f } }

/-- Changes a side's hidden state. -/
def State.modSide (s : State) (grid : Bool) (f : SideState → SideState) : State :=
  { s with sens := { s.sens with side := s.sens.side.modify (b2n grid) f } }

/-- Ticks that break a channel's line-cycle integrals (R161); those that no cycle still to end can meet are dropped. -/
def State.chBroken (s : State) (k : Nat) (i : Nat × Nat) : State :=
  s.modCh k fun c => { c with broken := i :: c.broken.filter fun j => s.epoch ≤ j.2 + 40000000 }

/-! ### Sides -/

/-- A channel is on the grid side. -/
def chGrid (k : Nat) : Bool := !(k < 16)

/-- The channels of a side. -/
def sideChs (grid : Bool) : List Nat := if grid then (List.range 10).map (· + 16) else List.range 16

/-- The power domain of a side (Table SENS-13). -/
def sidePd (grid : Bool) : Nat := if grid then 10 else 8

/-- The side's registers, by name. -/
def sideF (grid : Bool) (p g : Fld) : Fld := if grid then g else p

/-- The side's CAL_BUSY. -/
def calBusyF (grid : Bool) : Fld := sideF grid F.SENSP_STATUS_CAL_BUSY F.SENSG_STATUS_CAL_BUSY

/-- The block that owns the side's CFG_REJECT. -/
def sideBlk (grid : Bool) : Blk := if grid then .sensg else .sensp

/-- A bit of the per-channel registers CAL_VALID, OVR and REFDIST of a side. -/
def chBit (p g : Nat) (k : Nat) : Fld := if k < 16 then ⟨p, k, 1⟩ else ⟨g, k - 16, 1⟩

/-- CAL_VALID of a channel. -/
def calValidF (k : Nat) : Fld := chBit R.SENSP_CAL_VALID R.SENSG_CAL_VALID k

/-- OVR of a channel. -/
def ovrF (k : Nat) : Fld := chBit R.SENSP_OVR R.SENSG_OVR k

/-- REFDIST of a channel. -/
def refDistF (k : Nat) : Fld := chBit R.SENSP_REFDIST R.SENSG_REFDIST k

/-- The reference quad of a channel (the text after R113). -/
def quadOf (k : Nat) : Nat := if k < 16 then k / 4 else 4 + (k - 16) / 4

/-- A channel delivers offset binary codes (R119). -/
def single (k : Nat) : Bool := k == 13 || k == 14

/-- The grid channels that a grid topology names (Table IMG-4); GS7 to GS9 it always does. -/
def topoChs (topo : Nat) : List Nat :=
  (match topo with
   | 3 => [16, 19, 20]
   | 4 => [16, 17, 19, 20, 21]
   | 5 => [16, 17, 19, 20, 21]
   | _ => [16, 17, 18, 19, 20, 21, 22]) ++ [23, 24, 25]

/-- The topology in force names a channel; one it does not name stays idle (R22): it is in no window, stream or line cycle.
[DEDUCED (safe), log row 112] -/
def State.chNamed (s : State) (k : Nat) : Bool := k < 16 || (topoChs s.gridTopo).contains k

/-! ### Groups -/

/-- The members of a window group, of the channels that the topology names (R22). -/
def State.wgMembers (s : State) (g : Nat) : List Nat := (maskIdx 26 (s.rd (R.SENSP_WG_MEMBERS g)).toNat).filter s.chNamed

/-- A group is on the grid side. -/
def State.wgGrid (s : State) (g : Nat) : Bool := s.flag (F.SENSP_WG_CFG_SIDE g)

/-- The groups whose trigger source and unit are these. -/
def State.wgSrc (s : State) (src unit : Nat) : List Nat :=
  (List.range 4).filter fun g => s.get (F.SENSP_WG_CFG_TRIG_SRC g) == src && s.get (F.SENSP_WG_CFG_TRIG_UNIT g) == unit

/-- WG_STATUS.IDLE: the group has no window open or awaiting delivery (R129, Table SENS-14). -/
def State.wgIdle (s : State) (g : Nat) : Bool :=
  let w := s.sens.wg.get g
  w.opened.isEmpty && w.closed.isEmpty

/-- The group of a channel (R24: at most one). -/
def State.chWg (s : State) (k : Nat) : Option Nat :=
  (List.range 4).find? fun g => (s.wgMembers g).contains k

/-- A channel's modulator is powered: its domain is on and, in a burst group, a window of the group is pending or open
(R133; Table SENS-18). -/
def State.chPowered (s : State) (k : Nat) : Bool :=
  s.pdOn (sidePd (chGrid k)) &&
  match s.chWg k with
  | none => true
  | some g =>
    !s.flag (F.SENSP_WG_CTRL_BURST g) || !((s.sens.wg.get g).pend.isEmpty && (s.sens.wg.get g).opened.isEmpty)

/-- A channel is a member of a burst group (R133, R135). -/
def State.chBurst (s : State) (k : Nat) : Bool :=
  match s.chWg k with
  | none => false
  | some g => s.flag (F.SENSP_WG_CTRL_BURST g)

/-- A channel runs continuously: powered, named by the topology and in no burst group (R22, R135, R147). -/
def State.chContinuous (s : State) (k : Nat) : Bool := s.pdOn (sidePd (chGrid k)) && s.chNamed k && !s.chBurst k

/-- A channel's ring is enabled. -/
def State.ringOn (s : State) (k : Nat) : Bool := s.flag (F.CH_RING_CTRL_EN k)

/-- A maintenance activity other than a calibration claims the channel: a trace its input's, the insulation check PS12
(Table ARB-2). -/
def State.chMaint (s : State) (k : Nat) : Bool :=
  let run := fun c => bitOf (s.rd R.DIAG_MAINT_RUN).toNat c
  (k < 8 && run (4 + k % 4)) || (k == 12 && run 8)

/-- CH_STATUS.IDLE: group EN and ring EN both 0, no window open, no activity claims the channel (Table SENS-18). -/
def State.chIdle (s : State) (k : Nat) : Bool :=
  !s.ringOn k && (s.sens.ch.get k).claim == 0 && !s.flag (calBusyF (chGrid k)) && !s.chMaint k &&
  match s.chWg k with
  | none => true
  | some g => !s.flag (F.SENSP_WG_CTRL_EN g) && (s.sens.wg.get g).opened.isEmpty

/-! ### The modulator's bits and their weights (R115, R125, R137, R150) -/

/-- The length of the sinc³ rectangle (R125). -/
def sincM (l : Nat) : Nat := max (l / 3) 8

/-- The ticks a window spans: its length, or three rectangles under sinc³ (R125). -/
def spanOf (sinc : Bool) (l : Nat) : Nat := if sinc then 3 * sincM l else l

/-- Pairs of n things. -/
def pairs (n : Nat) : Nat := n * (n - 1) / 2

/-- Coefficient j, for j = 0 to 3m - 3, of the three-fold convolution of a rectangle of m unit weights (R125). -/
def sincC (m j : Nat) : Nat := pairs (j + 2) + 3 * pairs (j + 2 - 2 * m) - 3 * pairs (j + 2 - m)

/-- The weight of tick k of a sinc³ span of 3m ticks: its first and last ticks weigh 0 (R125, R137). -/
def sincW (m k : Nat) : Nat := if 1 ≤ k ∧ k ≤ 3 * m - 2 then sincC m (k - 1) else 0

/-- How far into its modulator cycle of 10 ticks an Epoch tick lies: the modulator clock is VCO / 40 (R64, R115). -/
def State.modPhase (s : State) (t : Nat) : Nat := (((s.clk.vco / 4 : Nat) : Int) + t - s.epoch) % 10 |>.toNat

/-- The value of a modulator bit. -/
def bitSign (b : Bool) : Int := if b then 1 else -1

/-- s(t): the value of the modulator bit attributed to tick t, or in an overload the sign of the most recent trip at or before t
(R115, R150). -/
def State.sAt (s : State) (k : Nat) (bit : Bool) (t : Nat) : Int :=
  let inside := fun (v : Ovl) => v.s ≤ t && match v.e with
    | some e => decide (t < e)
    | none => true
  match (s.sens.ch.get k).ovl.find? inside with
  | some v => bitSign (match v.signs.find? (·.1 ≤ t) with | some x => x.2 | none => bit)
  | none => bitSign bit

/-- Σ w(j) × s(lo + j) over n ticks of a channel (R115, R125). bits holds the modulator's bits as the device attributes them, its
loop delay removed: bit i is that of the i-th modulator cycle from the one that covers the tick lo.
[DESIGN CHOICE (safe), log row 113] -/
def State.tickSum (s : State) (k lo n : Nat) (w : Nat → Nat) (bits : Nat) : Int :=
  let ph := s.modPhase lo
  (List.range n).foldl (fun (a : Int) j => a + (w j : Int) * s.sAt k (bitOf bits ((ph + j) / 10)) (lo + j)) 0

/-! ### Triggers (R121 to R126, R133) -/

/-- A trigger at E of an enabled group: its window opens at O = E + DELAY, in burst mode at least 16,000 ticks after E;
with LEN_MODE = 0 its close is known (R122, R123, R127, R133). -/
def State.wgTrigger (s : State) (g e : Nat) : State :=
  let w := s.sens.wg.get g
  if s.flag (F.SENSP_WG_CTRL_EN g) && w.enTick ≤ e then
    let d := s.get (F.SENSP_WG_TIMING_DELAY g)
    let o := e + (if s.flag (F.SENSP_WG_CTRL_BURST g) then max d 16000 else d)
    let c := if s.flag (F.SENSP_WG_CTRL_LEN_MODE g) then none
             else some (o + spanOf (s.flag (F.SENSP_WG_CFG_WEIGHT g)) (s.get (F.SENSP_WG_TIMING_LENGTH g)))
    let w2 : WgState := { w with pend := w.pend ++ [{ e := e, o := o, c := c, seq := 0, prev := none }] }
    { s with sens := { s.sens with wg := s.sens.wg.set g w2 } }
  else s

/-- Triggers every group of a source and unit. -/
def State.trigger (s : State) (src unit e : Nat) : State := s.forEach (s.wgSrc src unit) fun s g => s.wgTrigger g e

/-- The close that a period start B sets on a window whose close is not known (R123, LEN_MODE = 1). -/
def Win.track (w : Win) (sinc : Bool) (delay b : Nat) : Win :=
  match w.c with
  | some _ => w
  | none =>
    if w.e < b ∧ w.o + 8 ≤ b + delay then
      { w with c := some (w.o + spanOf sinc (min (b + delay) (w.o + 65535) - w.o)) }
    else w

/-- A period start of a unit at B: it sets the close of LEN_MODE = 1 windows, then triggers the groups whose source it
is (R121, R123). -/
def State.periodTrigger (s : State) (u b : Nat) : State :=
  let s := s.forEach (s.wgSrc 1 u) fun s g =>
    let f := fun (w : Win) => w.track (s.flag (F.SENSP_WG_CFG_WEIGHT g)) (s.get (F.SENSP_WG_TIMING_DELAY g)) b
    { s with sens := { s.sens with wg := s.sens.wg.modify g fun w => { w with pend := w.pend.map f, opened := w.opened.map f } } }
  s.trigger 1 u b

/-! ### Codes (R116 to R120) -/

/-- Rounds a rational, halves away from zero (R117). [DESIGN CHOICE (unsafe), log row 8; DEDUCED (unsafe), log row 51] -/
def roundAway (x : Rat) : Int := if 0 ≤ x then (x + 1/2).floor else -((-x + 1/2).floor)

/-- The calibration factors used: CAL_OFS and CAL_GAIN, or 0 and 1.0 without CAL_VALID (Table SENS-5). [DESIGN CHOICE (safe), log row 9] -/
def State.calFactors (s : State) (k : Nat) : Rat × Rat :=
  if s.flag (calValidF k) then
    ((s.getS (F.CH_CAL_OFS_CAL_OFS k) : Rat), (s.get (F.CH_CAL_GAIN_CAL_GAIN k) : Rat) / 524288)
  else (0, 1)

/-- A density's calibrated code, clamped, and whether the clamp limited it (R116, R117). -/
def State.codeOf (s : State) (k : Nat) (d : Rat) : Int × Bool :=
  let f := s.calFactors k
  let c := roundAway ((40960 * d - f.1) * f.2)
  (clampInt c (-32768) 32767, decide (c < -32768 ∨ 32767 < c))

/-- The 16 code bits: two's complement, or offset binary on single-ended channels (R117 to R119). -/
def codeBits (k : Nat) (c : Int) : Nat := unsignedOf 16 (if single k then c + 32768 else c)

/-- The code word of a control view, per ALIGN (R120). -/
def codeWord (k : Nat) (left : Bool) (c : Int) : Nat :=
  if left then codeBits k c * 65536
  else if single k then codeBits k c else unsignedOf 32 c

/-! ### Overload and disturbance of an interval (R151, R152) -/

/-- An overload's reach, widened by ext ticks after its release, overlaps the ticks lo to hi - 1. -/
def Ovl.meets (v : Ovl) (ext lo hi : Nat) : Bool :=
  v.s < hi && match v.e with
    | none => true
    | some e => lo < e + ext

/-- The interval lo to hi - 1 of a channel is not clean by the interval rule of R151. -/
def State.ovlMeets (s : State) (k lo hi : Nat) : Bool := (s.sens.ch.get k).ovl.any fun v => v.meets 1280 lo hi

/-- The interval overlaps a disturbance of the channel's quad by another channel (R152). -/
def State.refDist (s : State) (k lo hi : Nat) : Bool :=
  (List.range 26).any fun j => j != k && quadOf j == quadOf k && (s.sens.ch.get j).ovl.any fun v => v.meets 640 lo hi

/-- A window of an enabled group opens before the second window after an overload's release (R151). -/
def Ovl.early (v : Ovl) (enTick : Nat) (w : Win) : Bool :=
  match v.e with
  | none => false
  | some e => enTick ≤ e && v.s ≤ w.o && !(match w.prev with | some p => e < p | none => false)

/-! ### Delivery (R130 to R132) -/

/-- The base of a loop pair's TCM window. -/
def tcmBase (p : Nat) : Nat := 0x30000000 + 0x10000 * p

/-- The base of SP local RAM's delivery area, less its offset (R131). -/
def spBase : Nat := 0x31070000

/-- The power domain of a loop pair (R184). -/
def pairPd (p : Nat) : Nat := if p < 3 then 4 else 5

/-- The bases of the delivery areas named in a DEST mask whose domain is on; SP is in PD6 (R130). -/
def State.destBases (s : State) (dest : Nat) : List Nat :=
  ((maskIdx 6 dest).filter fun p => s.pdOn (pairPd p)).map tcmBase ++
    (if bitOf dest 6 && s.pdOn 6 then [spBase] else [])

/-- Writes a list of words at an offset of each of the delivery areas. -/
def State.deliver (s : State) (bases : List Nat) (off : Nat) (ws : List Nat) : State :=
  s.forEach bases fun s b => s.wrBytes (b + off) (ws.flatMap (leBytes 4))

/-! ### The monitor scan (R154) -/

/-- The monitor sources of the scan. -/
def State.monMask (s : State) : Nat := bitsOf (s.rd R.SENSP_MON_MASK).toNat 0 6

/-- The next source of the scan after one, by the mask (R154). -/
def nextSource (mask src : Nat) : Nat :=
  ((List.range 6).find? fun d => bitOf mask ((src + 1 + d) % 6)).map (fun d => (src + 1 + d) % 6) |>.getD src

/-- The scan begins at the lowest source of the mask (R154). -/
def State.monRestart (s : State) : State :=
  { s with sens := { s.sens with monSrc := nextSource s.monMask 5, monStart := s.mono } }

/-- A write of MON_MASK (R154): a scan whose source the mask no longer holds goes to the next with a new dwell; one that stood
still begins. [DESIGN CHOICE (unsafe), log row 114] -/
def State.monMaskWrite (s : State) (v : Word) : State :=
  let old := s.monMask
  let s := s.wr R.SENSP_MON_MASK (v &&& 0x3F#32)
  if old = 0 then s.monRestart
  else if bitOf s.monMask s.sens.monSrc then s
  else { s with sens := { s.sens with monSrc := nextSource s.monMask s.sens.monSrc, monStart := s.mono } }

/-! ### The metering engine's queue of cycles (R414, R415) -/

/-- Changes the metering engine's hidden state. -/
def State.modMeter (s : State) (f : MeterState → MeterState) : State := { s with meter := f s.meter }

/-- The engine meters. -/
def State.meterRun (s : State) : Bool := s.flag F.METER_STATUS_RUN

/-- A complete cycle of the grid side has ended (R146): the engine has its samples to read, if it began under the enable
and before a write of EN = 0. -/
def State.meterCycle (s : State) (a b : Nat) : State :=
  if s.meterRun && s.meter.enTick ≤ a && (match s.meter.stopAt with | some t => decide (a ≤ t) | none => true) then
    s.modMeter fun m => { m with cycles := m.cycles ++ [(a, b)] }
  else s

end Sys2Proof.Machine
end

