-- ==== Sys2Proof/Machine/MaintOps.lean ====
section
/-!
DEFINITION. The maintenance arbiter's record of the running activities (R454, R458): which run, how one ends; the end of an I-V trace.
-/

namespace Sys2Proof.Machine

/-! ### Activity codes (Table ARB-2) -/
namespace Act
@[simp] abbrev calP : Nat := 1
@[simp] abbrev calG : Nat := 2
@[simp] abbrev wcmpTest : Nat := 3
@[simp] abbrev ivTrace (x : Nat) : Nat := 4 + x
@[simp] abbrev isoCheck : Nat := 8
@[simp] abbrev relayCheck : Nat := 9
@[simp] abbrev mramProgram : Nat := 10
@[simp] abbrev vaultCompact : Nat := 11
@[simp] abbrev bist : Nat := 12
end Act

/-- The result codes of DIAG_MAINT_RESULT (Table ARB-8). -/
inductive MaintResult where
  | ok | fail | aborted
  deriving DecidableEq, Repr

/-- The code of a result. -/
def MaintResult.code : MaintResult → Nat
  | .ok => 1
  | .fail => 2
  | .aborted => 3

/-- An activity runs. -/
def State.maintRuns (s : State) (c : Nat) : Bool := bitOf (s.rd R.DIAG_MAINT_RUN).toNat c

/-- An activity starts: its RUN bit and its RUNS count (R456, Table ARB-8). -/
def State.maintStart (s : State) (c : Nat) : State :=
  (s.put ⟨R.DIAG_MAINT_RUN, c, 1⟩ 1).incSat (F.DIAG_MAINT_RESULT_RUNS c)

/-- An activity ends: claims released, DONE and RESULT (R458). -/
def State.maintEnd (s : State) (c : Nat) (r : MaintResult) : State :=
  if s.maintRuns c then
    ((s.put ⟨R.DIAG_MAINT_RUN, c, 1⟩ 0).put ⟨R.DIAG_MAINT_DONE, c, 1⟩ 1).put (F.DIAG_MAINT_RESULT_RESULT c) r.code
  else s

/-! ### I-V traces: the slots, and the aborts a stop or a fence causes (R449, R459) -/

/-- Changes the record of a trace. -/
def State.modIv (s : State) (x : Nat) (f : IvTrace → IvTrace) : State := { s with diag := { s.diag with iv := s.diag.iv.modify x f } }

/-- Writes slots 246 and 247 of a pair: each becomes its value at that tick (R449, R450), and what waited in their shadows falls
away (log row 115). [DEDUCED (unsafe), log row 115] -/
def State.ivSlots (s : State) (p : Nat) (on v : Word) : State :=
  let a := tcmBase p + 0x4000 + 4 * 246
  (((s.wrW a on).wrW (a + 4) v).dropShadow a).dropShadow (a + 4)

/-- A trace ends: both slots 0.0, the result; the input is no longer blocked by it (R445, R449). -/
def State.ivFinish (s : State) (x : Nat) (r : MaintResult) : State :=
  ((s.ivSlots (s.diag.iv.get x).pair 0#32 0#32).maintEnd (Act.ivTrace x) r).noteHolds

/-- Aborts a running trace of an input (Table ARB-5). -/
def State.ivAbort (s : State) (x : Nat) : State := if s.maintRuns (Act.ivTrace x) then s.ivFinish x .aborted else s

/-- The traces that a condition on their record names end (Table ARB-5): their pair is fenced, or a domain they use goes off. -/
def State.ivAbortIf (s : State) (p : IvTrace → Bool) : State :=
  s.forEach (List.range 4) fun s x => if p (s.diag.iv.get x) then s.ivAbort x else s

/-- A unit has stopped: the trace of the input whose PU(2x) it is ends (Table ARB-5). -/
def State.ivStopped (s : State) (u : Nat) : State := if u < 8 ∧ u % 2 = 0 then s.ivAbort (u / 2) else s

/-- A unit is fenced: the trace of its input ends (Table ARB-5). -/
def State.ivFenced (s : State) (u : Nat) : State := if u < 8 then s.ivAbort (u / 2) else s

end Sys2Proof.Machine
end

