-- ==== Sys2Proof/Machine/PwmOps.lean ====
section
/-!
DEFINITION. The PWM unit: counter, transfer, levels, minimum pulses, edges, commits, start and stop (R266 to R299).
A unit's position in its period is kept as tick offsets from the period's first tick (R674).
-/

namespace Sys2Proof.Machine

/-! ### Registers as fields -/
namespace F
/-- PWM_PERIOD(u). -/
@[simp] abbrev PWM_PERIOD (u : Nat) : Fld := ⟨R.PWM_PERIOD u, 0, 32⟩
/-- PWM_CMPA(u). -/
@[simp] abbrev PWM_CMPA (u : Nat) : Fld := ⟨R.PWM_CMPA u, 0, 32⟩
/-- PWM_CMPB(u). -/
@[simp] abbrev PWM_CMPB (u : Nat) : Fld := ⟨R.PWM_CMPB u, 0, 32⟩
/-- PWM_PHASE(u). -/
@[simp] abbrev PWM_PHASE (u : Nat) : Fld := ⟨R.PWM_PHASE u, 0, 32⟩
end F

/-- EDGE_LAG (R274). -/
def edgeLag : Nat := 320

/-- The guard before a boundary (R277, R278). -/
def guardTicks : Nat := 80

/-- Puts a unit's hidden state. -/
def State.setPwm (s : State) (u : Nat) (p : PwmUnit) : State := { s with pwm := s.pwm.set u p }

/-- Changes a unit's hidden state. -/
def State.modPwm (s : State) (u : Nat) (f : PwmUnit → PwmUnit) : State := { s with pwm := s.pwm.modify u f }

/-- The first tick after the current period: the next boundary. -/
def PwmUnit.next (p : PwmUnit) : Nat := p.start + p.len

/-- The counter position at a tick offset of the period (R270, R674). -/
def PwmUnit.posAt (p : PwmUnit) (off : Nat) : Nat :=
  if off ≤ p.hold then p.n0 else p.n0 + (off - p.hold)

/-- The counter n now, of a unit that counts; a halted counter keeps its last position (PWM_COUNT). -/
def State.pwmCount (s : State) (u : Nat) : Nat :=
  let p := s.pwm.get u
  if p.counting && s.pwmState u != 2 then p.posAt (s.epoch - p.start) else p.posAt (p.frozenAt - p.start)

/-- PAIR_MODE is EXCLUSIVE (R267). -/
def State.exclusive (s : State) (u : Nat) : Bool := s.flag (F.PWM_CFG_PAIR_MODE u)

/-- MINON + MINOFF of a unit. -/
def State.minPeriod (s : State) (u : Nat) : Nat := s.get (F.PWM_TIMING_MINON u) + s.get (F.PWM_TIMING_MINOFF u)

/-! ### Loop pairs and units (R196 to R198, R213) -/

/-- The enabled loop pair in whose COMMIT_MASK a unit stands. -/
def State.unitPair (s : State) (u : Nat) : Option Nat :=
  (List.range 6).find? fun p => s.flag (F.LP_CTRL_EN p) && bitOf (s.get (F.LP_CFG_COMMIT_MASK p)) u

/-- The loop domain's operating point: 0 OP-H, 1 OP-M, 2 OP-L. -/
def State.loopOp (s : State) (p : Nat) : Nat :=
  if p < 3 then s.get F.SYS_OP_STATUS_CUR_PD4 else s.get F.SYS_OP_STATUS_CUR_PD5

/-- Ticks per engine cycle at an operating point (R197). -/
def opTicks (op : Nat) : Nat := if op = 0 then 2 else if op = 1 then 4 else 8

/-- LP_MIN_PERIOD(p) (R198). -/
def State.lpMinPeriod (s : State) (p : Nat) : Nat :=
  s.get (F.LP_COST_CYCLE_ESTIMATE p) * opTicks (s.loopOp p) + 200

/-- The enabled pairs whose PERIOD_UNIT a unit is. -/
def State.periodPairs (s : State) (u : Nat) : List Nat :=
  (List.range 6).filter fun p => s.flag (F.LP_CTRL_EN p) && s.get (F.LP_CFG_PERIOD_UNIT p) == u

/-! ### Transfer (R269, R276 to R282) -/

/-- The six shadows a commit transfers. -/
def commitFields (u : Nat) : List Fld :=
  [F.PWM_PERIOD u, F.PWM_CMPA u, F.PWM_CMPB u, F.PWM_PHASE u, F.PWM_FRAC_CMPA_FRAC u, F.PWM_FRAC_CMPB_FRAC u]

/-- A period transferred below MINON + MINOFF is replaced by it (R282), and one of an enabled pair's PERIOD_UNIT below
LP_MIN_PERIOD by that (R198). -/
def State.raisePeriod (s : State) (u : Nat) : State :=
  let s := if s.get (F.PWM_PERIOD u) < s.minPeriod u then
      (s.put (F.PWM_PERIOD u) (s.minPeriod u)).set1 (F.PWM_STICKY_PERIOD_MIN u)
    else s
  s.forEach (s.periodPairs u) fun s p =>
    if s.get (F.PWM_PERIOD u) < s.lpMinPeriod p then
      (s.put (F.PWM_PERIOD u) (s.lpMinPeriod p)).set1 (F.LP_STICKY_PERIOD_RAISED p)
    else s

/-- A compare above PERIOD is replaced in force by PERIOD with FRAC 0 (R281). -/
def State.clampCompare (s : State) (u : Nat) (cmp frac : Fld) : State :=
  let p := s.get (F.PWM_PERIOD u)
  if 16 * p < 16 * s.get cmp + s.get frac then
    ((s.put cmp p).put frac 0).set1 (F.PWM_STICKY_DUTY_CLAMP u)
  else s

/-- What every transfer does to the values in force (R269, R281), and one that carries a PERIOD to the period (R198, R282). -/
def State.transferFix (s : State) (u : Nat) (period : Bool) : State :=
  let s := if period then s.raisePeriod u else s
  let s := s.put (F.PWM_PHASE u) (s.get (F.PWM_PHASE u) % s.get (F.PWM_PERIOD u))
  (s.clampCompare u (F.PWM_CMPA u) (F.PWM_FRAC_CMPA_FRAC u)).clampCompare u (F.PWM_CMPB u) (F.PWM_FRAC_CMPB_FRAC u)

/-- Transfers every shadow of a unit, its PERIOD among them (R276). -/
def State.transferAll (s : State) (u : Nat) : State :=
  ((commitFields u).foldl (fun s f => s.transfer f) s).transferFix u true

/-- Writes held back by the freeze enter the shadows (R278). -/
def State.enterHeld (s : State) (u : Nat) : State :=
  let p := s.pwm.get u
  (p.heldBack.foldl (fun s w => s.toShadow ⟨w.2.addr, w.2.lo, w.2.len⟩ w.2.val) s).setPwm u { p with heldBack := [] }

/-- Puts a loop commit's values into force (R279). -/
def State.loopValues (s : State) (vals : List HeldW) : State :=
  vals.foldl (fun s w => s.put ⟨w.addr, w.lo, w.len⟩ w.val) s

/-- Puts a loop commit's values into the shadows (R280, R289). -/
def State.loopToShadow (s : State) (vals : List HeldW) : State :=
  vals.foldl (fun s w => s.toShadow ⟨w.addr, w.lo, w.len⟩ w.val) s

/-- SWAP and INVERT writes that reached the unit at least 80 ticks before the boundary take effect (R288). -/
def State.takeSwaps (s : State) (u : Nat) (ok : SwapW → Bool) : State :=
  let p := s.pwm.get u
  let s := (p.swaps.filter ok).foldl (fun s w => s.put ⟨R.PWM_CTRL u, w.bit, 1⟩ w.val) s
  s.setPwm u { p with swaps := p.swaps.filter fun w => !ok w }

/-- The transfers at a boundary b (R196, R276 to R279): an untargeted commit unless it skips this boundary, then the loop
commits whose target has come, which are the later ones (R213); what a transfer does to the values in force, once. -/
def State.boundaryTransfer (s : State) (u b : Nat) : State :=
  let p := s.pwm.get u
  let due := p.loops.filter fun l => l.target ≤ b
  let now := p.commit && !p.skip
  let s := s.setPwm u { p with loops := p.loops.filter (fun l => !(l.target ≤ b)), commit := p.commit && p.skip, skip := false }
  let s := if now then (commitFields u).foldl (fun s f => s.transfer f) s else s
  let s := due.foldl (fun s l => s.loopValues l.vals) s
  let period := due.any fun l => l.vals.any fun w => w.addr == R.PWM_PERIOD u
  let s := if now || !due.isEmpty then s.transferFix u (now || period) else s
  s.put (F.PWM_STATUS_COMMIT_PENDING u) (b2n ((s.pwm.get u).commit || !(s.pwm.get u).loops.isEmpty))

/-! ### The shape of a period (R270, R283, R271, R272, R674) -/

/-- δ of R270, reduced: from the phases before and after, the period in force and MINON + MINOFF. -/
def phaseStep (old new p minP : Nat) : Int :=
  let d := ((new : Int) - old) % p
  let d := if (p : Int) - (p / 2 : Nat) - 1 < d then d - p else d
  if (p : Int) - d < minP then d - p else d

/-- The position, hold and length of a period that starts with a phase step δ (R270). -/
def periodShape (d : Int) (p : Nat) : Nat × Nat × Nat :=
  if 0 ≤ d then (d.toNat, 0, p - d.toNat) else (0, d.natAbs, p + d.natAbs)

/-- k with its four bits reversed (R283). -/
def br (k : Nat) : Nat := 8 * (k % 2) + 4 * (k / 2 % 2) + 2 * (k / 4 % 2) + k / 8 % 2

/-- The integer compare used in a period (R283). -/
def dithered (cmp frac k : Nat) : Nat := if br k < frac then cmp + 1 else cmp

/-- The tick offset of a counter position in a period that starts at n0 and holds its first position `hold` further
ticks (R674). -/
def offOf (n0 hold n : Nat) : Nat := if n ≤ n0 then 0 else n - n0 + hold

/-- The level pattern as offsets; nothing where lo ≥ hi. -/
def mkLvl (lo hi : Nat) (inv : Bool) : Lvl := if lo < hi then ⟨lo, hi, inv⟩ else ⟨0, 0, inv⟩

/-- Constant on for a period of a length. -/
def lvlOn : Lvl := ⟨0, 0, true⟩

/-- Constant off. -/
def lvlOff : Lvl := ⟨0, 0, false⟩

/-- The level at an offset. -/
def Lvl.at (l : Lvl) (off : Nat) : Bool := (l.lo ≤ off && off < l.hi) != l.inv

/-- The inverse pattern. -/
def Lvl.not (l : Lvl) : Lvl := { l with inv := !l.inv }

/-- The ticks a pattern is on in a period of a length. -/
def Lvl.onTicks (l : Lvl) (len : Nat) : Nat := if l.inv then len - (l.hi - l.lo) else l.hi - l.lo

/-- The interval of a pattern with a new length n from its r, moved back inside the period where it would pass its end
(R284, R285, R676). -/
def Lvl.fit (l : Lvl) (n len : Nat) : Lvl :=
  if l.lo + n ≤ len then { l with hi := l.lo + n } else { l with lo := len - n, hi := len }

/-- The on rule (R284, R676): the pattern, and how many pulses were dropped and stretched. -/
def onRule (l : Lvl) (len minon : Nat) : Lvl × Nat × Nat :=
  let t := l.onTicks len
  if 0 < t ∧ t < minon then
    if 2 * t < minon ∨ len < minon then (lvlOff, 1, 0)
    else (l.fit (if l.inv then len - minon else minon) len, 0, 1)
  else (l, 0, 0)

/-- The off rule (R285, R676). -/
def offRule (l : Lvl) (len minoff : Nat) : Lvl × Nat × Nat :=
  let t := len - l.onTicks len
  if 0 < t ∧ t < minoff then
    if 2 * t < minoff ∨ len < minoff then (lvlOn, 1, 0)
    else (l.fit (if l.inv then minoff else len - minoff) len, 0, 1)
  else (l, 0, 0)

/-- The minimum-pulse rules of one output: on rule, then off rule (R284, R285). With `ex`, on an output of an EXCLUSIVE unit,
the off rule leaves an output without an on-time off: no more than one of A and B is ever on (R267). [DEDUCED (unsafe), log row 117] -/
def minPulse (ex : Bool) (l : Lvl) (len minon minoff : Nat) : Lvl × Nat × Nat :=
  let a := onRule l len minon
  if ex && a.1.onTicks len == 0 then a else
  let b := offRule a.1 len minoff
  (b.1, a.2.1 + b.2.1, a.2.2 + b.2.2)

/-- Counts dropped and stretched pulses (R286). [DEDUCED (unsafe), log row 46] -/
def State.countPulses (s : State) (u drop stretch : Nat) : State :=
  let d := F.PWM_PULSE_CNT_DROP_CNT u
  let t := F.PWM_PULSE_CNT_STRETCH_CNT u
  (s.put d (satTo 16 (s.get d + drop))).put t (satTo 16 (s.get t + stretch))

/-- The levels of the period now starting, after stage 5 (Table PWM-3), into the unit; the pulse counters. -/
def State.formLevels (s : State) (u : Nat) : State :=
  let p := s.pwm.get u
  let per := s.get (F.PWM_PERIOD u)
  let k := s.get (F.PWM_STATUS_DITHER_IDX u)
  let a := dithered (s.get (F.PWM_CMPA u)) (s.get (F.PWM_FRAC_CMPA_FRAC u)) k
  let b := dithered (s.get (F.PWM_CMPB u)) (s.get (F.PWM_FRAC_CMPB_FRAC u)) k
  let e := if s.flag (F.PWM_CTRL_MODE u) then per - b else b
  let o := fun n => min (offOf p.n0 p.hold n) p.len
  let mn := s.get (F.PWM_TIMING_MINON u)
  let mf := s.get (F.PWM_TIMING_MINOFF u)
  if s.exclusive u then
    let la := minPulse true (mkLvl (o a) (o e) false) p.len mn mf
    let lb := minPulse true (mkLvl (o e) (o a) false) p.len mn mf
    (s.countPulses u (la.2.1 + lb.2.1) (la.2.2 + lb.2.2)).setPwm u { p with lvlA := la.1, lvlB := lb.1 }
  else
    let la := minPulse false (mkLvl (o a) (o e) (s.flag (F.PWM_CTRL_INVERT u))) p.len mn mf
    let sw := s.flag (F.PWM_CTRL_SWAP u)
    (s.countPulses u la.2.1 la.2.2).setPwm u
      { p with lvlA := if sw then la.1.not else la.1, lvlB := if sw then la.1 else la.1.not }

/-! ### Edges (R274, R297) -/

/-- The level of one output under FORCE (R297): 0 computed, 1 off, 2 on. -/
def forced (code : Nat) (lvl : Bool) : Bool := if code = 1 then false else if code = 2 then true else lvl

/-- The levels of A and B after stage 6 at a tick: FORCE over the computed levels, which are off on a unit that does not
run. -/
def State.levelsAt (s : State) (u t : Nat) : Bool × Bool :=
  let p := s.pwm.get u
  let run := s.pwmState u == 1
  (forced (s.get (F.PWM_FORCE_FORCE_A u)) (run && p.lvlA.at (t - p.start)),
   forced (s.get (F.PWM_FORCE_FORCE_B u)) (run && p.lvlB.at (t - p.start)))

/-- Issues an edge message for each switch whose level changes at counter tick t (R274). -/
def State.issueEdges (s : State) (u t : Nat) : State :=
  let l := s.levelsAt u t
  let a := s.flag (F.PWM_STATUS_LEVEL_A u)
  let b := s.flag (F.PWM_STATUS_LEVEL_B u)
  let ma := if l.1 == a then [] else [(⟨false, false, l.1, t + edgeLag⟩ : Edge)]
  let mb := if l.2 == b then [] else [(⟨true, false, l.2, t + edgeLag⟩ : Edge)]
  ((s.put (F.PWM_STATUS_LEVEL_A u) (b2n l.1)).put (F.PWM_STATUS_LEVEL_B u) (b2n l.2)).modPwm u
    fun p => { p with msgs := p.msgs ++ ma ++ mb }

/-- The off-edges of a stop at t (R289): on a lane one message turns both off (R332). -/
def State.stopEdges (s : State) (u t : Nat) : State :=
  let a := s.flag (F.PWM_STATUS_LEVEL_A u)
  let b := s.flag (F.PWM_STATUS_LEVEL_B u)
  let ms : List Edge :=
    if 8 ≤ u then [⟨false, true, false, t + edgeLag⟩]
    else (if a then [(⟨false, false, false, t + edgeLag⟩ : Edge)] else []) ++
      (if b then [(⟨true, false, false, t + edgeLag⟩ : Edge)] else [])
  ((s.put (F.PWM_STATUS_LEVEL_A u) 0).put (F.PWM_STATUS_LEVEL_B u) 0).modPwm u fun p => { p with msgs := p.msgs ++ ms }

/-! ### What a period start does elsewhere -/

/-- A comparator's clear unit: the lowest-numbered unit of any group in its GROUPS (R174). -/
def State.clearUnit (s : State) (c : Nat) : Option Nat :=
  (List.range 14).find? fun u => s.inGroups u (s.get (F.WC_CFG_GROUPS c))

/-- A period start of the clear unit requests a clear of a TRIPPED comparator in PERIOD or EITHER mode (R174 to R176). -/
def State.periodClear (s : State) (u b : Nat) : State :=
  s.forEach (List.range 24) fun s c =>
    if s.wcState c = 1 ∧ s.get (F.WC_CFG_CLEAR_MODE c) ≠ 0 ∧ s.clearUnit c = some u then
      { s with wcmp := { s.wcmp with wc := s.wcmp.wc.modify c fun w =>
          { w with periodClear := some b } } }
    else s

/-- The part of a record of periods that a frame not yet evaluated can need: newest first, up to the first entry that is a
million ticks old. -/
def recentPeriods (t : Nat) : List (Nat × Nat) → List (Nat × Nat)
  | [] => []
  | (a, v) :: r => if a + 1000000 ≤ t then [(a, v)] else (a, v) :: recentPeriods t r

/-- The PERIOD in force from tick t on is recorded, for the frames of arc detection (R444). -/
def State.logPeriod (s : State) (u t : Nat) : State :=
  let v := s.get (F.PWM_PERIOD u)
  s.modPwm u fun p =>
    match p.perLog with
    | (_, w) :: _ => if w = v then p else { p with perLog := (t, v) :: recentPeriods t p.perLog }
    | [] => { p with perLog := [(t, v)] }

/-- A period boundary at b: LAST_BOUNDARY, the marker to the PAD die, HELD_PREV, window triggers and period clears
(R121, R174, R293, R309). -/
def State.periodStart (s : State) (u b : Nat) : State :=
  let s := ((s.logPeriod u b).wr (R.PWM_LAST_BOUNDARY u) (w32 b)).put (F.PWM_STATUS_HELD_PREV u) (b2n (s.pwm.get u).heldThis)
  let s := s.modPwm u fun p => { p with heldThis := s.unitHeld u, trig := 0,
                                        markers := if u < 8 then p.markers ++ [b + edgeLag] else p.markers }
  (s.periodTrigger u b).periodClear u b

/-! ### Commit, start, stop (R276 to R280, R289, R290, R335) -/

/-- A pending untargeted commit that reached the unit at tick a transfers at the next boundary, or, inside the guard, at the
one after it, with COMMIT_LATE (R277). -/
def State.judgeCommit (s : State) (u a : Nat) : State :=
  let inTime := a + guardTicks ≤ (s.pwm.get u).next
  (if inTime then s else s.set1 (F.PWM_STICKY_COMMIT_LATE u)).modPwm u fun p => { p with skip := !inTime, commitAt := none }

/-- An untargeted commit that reaches a unit now (R204, R213, R277, R280). On a FROZEN unit its next boundary is known at the
resume (R296). [DEDUCED (unsafe), log row 45; DEDUCED (unsafe), log row 117] -/
def State.commitUnit (s : State) (u : Nat) : State :=
  match s.unitPair u with
  | some p => s.cfgReject (.loop p)
  | none =>
    if s.pwmState u = 0 then s.set1 (F.PWM_STICKY_COMMIT_DISCARD u)
    else if s.pwmState u = 3 then s
    else
      if (s.pwm.get u).commit then s
      else
        let s := (s.put (F.PWM_STATUS_COMMIT_PENDING u) 1).modPwm u fun p => { p with commit := true, commitAt := some s.epoch }
        if s.pwmState u = 2 then s else s.judgeCommit u s.epoch

/-- A unit's start is refused (R290, R295, R335). -/
def State.startRefused (s : State) (u : Nat) : Bool :=
  s.pwmState u != 0 || s.flag F.WARDEN_STATUS_REACTION || s.flag F.SYS_FOYER_IN_FOYER || s.flag F.CUR_STATUS_SAFE ||
  (8 ≤ u && (s.get (F.LANE_STAT_STATE (u - 8)) != 1 || !bitOf (s.get (F.LANE_STAT_STATUS (u - 8))) 7))

/-- A start of a unit now (R269, R283, R286, R289, R290): none where the unit has been stopped at this tick (R105, R289). -/
def State.startUnit (s : State) (u : Nat) : State :=
  if s.startRefused u then s.cfgReject .pwmGlobal
  else if s.ep.stopAt.get u = s.epoch + 1 then s
  else
    let t := s.epoch
    let s := ((s.enterHeld u).takeSwaps u (fun w => w.t < t)).transferAll u
    let per := s.get (F.PWM_PERIOD u)
    let ph := s.get (F.PWM_PHASE u)
    let s := ((s.put (F.PWM_STATUS_DITHER_IDX u) 0).wr (R.PWM_PULSE_CNT u) 0).put (F.PWM_STATUS_STATE u) 1
    let s := s.modPwm u fun p =>
      { p with counting := true, start := t, n0 := ph, hold := 0, len := per - ph, commit := false, skip := false,
               commitAt := none }
    let s := (s.formLevels u).logPeriod u t
    if ph = 0 then s.periodStart u t
    else s.modPwm u fun p => { p with heldThis := s.unitHeld u, trig := 0 }

/-- A switch of a unit is commanded on. -/
def State.levelOn (s : State) (u : Nat) : Bool := s.flag (F.PWM_STATUS_LEVEL_A u) || s.flag (F.PWM_STATUS_LEVEL_B u)

/-- A stop of a unit now (R289): whatever its state, its counter halts, and each switch that is on gets its off-edge; a fenced
unit stays FENCED (R291, R294). [DEDUCED (unsafe), log row 46] -/
def State.stopUnit (s : State) (u : Nat) : State :=
  let p := s.pwm.get u
  let st := s.pwmState u
  if st = 0 then (if s.levelOn u then s.stopEdges u s.epoch else s)
  else
    let s := (p.loops.foldl (fun s l => s.loopToShadow l.vals) s).enterHeld u
    let s := s.put (F.PWM_STATUS_COMMIT_PENDING u) 0
    let s := s.modPwm u fun p =>
      { p with counting := false, frozenAt := if st = 2 ∨ !p.counting then p.frozenAt else s.epoch,
               commit := false, skip := false, commitAt := none, loops := [] }
    let s := if u < 8 then s.put (F.DRV_HB_STATUS_HI_RUN u) 0 else s
    let s := { s with drive := { s.drive with hb := if u < 8 then s.drive.hb.modify u (fun h => { h with highAll := false }) else s.drive.hb } }
    let s := if st = 3 then s else (s.stopEdges u s.epoch).put (F.PWM_STATUS_STATE u) 0
    s.ivStopped u

/-- A stop by PWM_STOP or by a scheduled PWM_STOP for tick t: no start of the unit at that tick prevails over it (R105, R289). -/
def State.stopAt (s : State) (u t : Nat) : State :=
  let s := s.stopUnit u
  { s with ep := { s.ep with stopAt := s.ep.stopAt.set u (t + 1) } }

/-- A loop-pair commit that reaches a unit (R196, R204, R279, R280). -/
def State.loopCommitUnit (s : State) (u target : Nat) (vals : List HeldW) : State :=
  if s.pwmState u = 3 then s
  else if s.pwmState u = 0 then (s.loopToShadow vals).set1 (F.PWM_STICKY_COMMIT_DISCARD u)
  else (s.put (F.PWM_STATUS_COMMIT_PENDING u) 1).modPwm u fun p => { p with loops := p.loops ++ [⟨target, vals⟩] }

/-- FORCE may act on a lane unit: it runs or is stopped, outside the safe state (R298). [DEDUCED (unsafe), log row 47] -/
def State.forceActs (s : State) (u : Nat) : Bool := s.pwmState u < 2 && !s.flag F.CUR_STATUS_SAFE

/-- The permit ends: every FORCE field returns to 0 and the computed levels resume at the next counter tick (R298). -/
def State.forceEnd (s : State) : State :=
  s.forEach ((List.range 6).map (· + 8)) fun s u =>
    if (s.rd (R.PWM_FORCE u)).toNat = 0 then s
    else
      let s := s.wr (R.PWM_FORCE u) 0
      if s.forceActs u then s.issueEdges u (s.epoch + 1) else s

/-- The gate of R213: a write to a commit shadow of a unit that an enabled pair owns is refused at that pair. -/
def State.ownedGate (s : State) (u : Nat) (k : State → State) : State :=
  match s.unitPair u with
  | some p => s.cfgReject (.loop p)
  | none => k s

/-- A write enters a unit's shadow, held back in the last 80 ticks before a boundary (R278); in a debug halt the boundary is
known at the resume (R296). [DEDUCED (unsafe), log row 117] -/
def State.shadowWrite (s : State) (u : Nat) (f : Fld) (v : Nat) : State :=
  let p := s.pwm.get u
  if s.pwmState u == 2 || (p.counting && p.next < s.epoch + guardTicks + 1) then
    s.setPwm u { p with heldBack := p.heldBack ++ [(s.epoch, ⟨f.addr, f.lo, f.len, v⟩)] }
  else s.toShadow f v

/-- The counter of a unit goes on after a halt of d ticks: its boundaries stand d ticks later, and what waited for the next one is
judged by it: the shadow writes that came 81 ticks or more before it enter, and a commit that came in the halt takes its
place (R277, R278, R296). -/
def State.shiftUnit (s : State) (u d : Nat) : State :=
  let s := s.modPwm u fun p => { p with start := p.start + d }
  let p := s.pwm.get u
  let early := fun (w : Nat × HeldW) => decide (w.1 + guardTicks < p.next)
  let s := ((s.setPwm u { p with heldBack := p.heldBack.filter early }).enterHeld u).modPwm u
    fun q => { q with heldBack := p.heldBack.filter fun w => !early w }
  match p.commitAt with
  | some a => s.judgeCommit u a
  | none => s

end Sys2Proof.Machine
end

