-- ==== Sys2Proof/Machine/DriveOps.lean ====
section
/-!
DEFINITION. The two kinds of edge receiver: the integrated half-bridges and the lane transmitters (R301 to R337): gates
off, dead time, holds, TRIP, and what a hold or a fence does to them.
-/

namespace Sys2Proof.Machine

/-! ### Half-bridges -/

/-- Changes a half-bridge's hidden state. -/
def State.modHb (s : State) (h : Nat) (f : HalfBridge → HalfBridge) : State :=
  { s with drive := { s.drive with hb := s.drive.hb.modify h f } }

/-- Input x is of type NONE (PANEL_TOPO, Table IMG-3). -/
def State.inputNone (s : State) (x : Nat) : Bool := s.topo x 1 == 0

/-- A half-bridge may not turn a gate on: PD9 off, held off in an input of type NONE, fenced, the interlock, the lost link, the
lock-out, a group hold or a reset (R20, R172, R305, R309, R310, R312, R316). -/
def State.hbBlocked (s : State) (h : Nat) : Bool :=
  !s.pdOn 9 || s.start.resetAt.isSome || s.start.pinLow || s.inputNone (h / 2) || s.flag (F.DRV_HB_STATUS_FENCED h) || (s.drive.hb.get h).inter || s.unitHeld h

/-- Both gates off; the count of high-side periods restarts and a refresh ends at once (R313, R315). -/
def State.hbOff (s : State) (h : Nat) : State :=
  let s := (((s.put (F.DRV_HB_STATUS_HO h) 0).put (F.DRV_HB_STATUS_LO h) 0).put (F.DRV_HB_STATUS_HI_RUN h) 0).put
    (F.DRV_HB_STATUS_REFRESHING h) 0
  s.modHb h fun b => { b with highAll := false, refEnd := if b.step = 0 then b.refEnd else s.epoch, step := 0 }

/-- The gate of a side (false high, true low). -/
def hbGate (h : Nat) (low : Bool) : Fld := if low then F.DRV_HB_STATUS_LO h else F.DRV_HB_STATUS_HO h

/-- The execution tick of a pending edge (R303, R315): an on-edge waits for the partner's dead time, and any edge for the
end of a refresh. -/
def HalfBridge.execTick (b : HalfBridge) (dt : Nat) (e : Edge) : Nat :=
  let t := max e.t b.refEnd
  if e.on then
    match (if e.sideB then b.offHi else b.offLo) with
    | some p => max t (p + dt)
    | none => t
  else t

/-- An edge precedes another: earlier execution tick, and at one tick off before on (R302). -/
def HalfBridge.before (b : HalfBridge) (dt : Nat) (x y : Edge) : Bool :=
  let tx := b.execTick dt x
  let ty := b.execTick dt y
  tx < ty || (tx == ty && !x.on && y.on)

/-- The next edge to execute (R302): the first in the order among those pending. -/
def HalfBridge.pick (b : HalfBridge) (dt : Nat) : List Edge → Option Edge
  | [] => none
  | x :: t => match b.pick dt t with
    | none => some x
    | some y => if b.before dt y x then some y else some x

/-- The same switch and the same tick: the later message stands (R302). -/
def Edge.same (x y : Edge) : Bool := x.sideB == y.sideB && x.both == y.both && x.t == y.t

/-- A late edge (R306): both switches off, LATE, the source; the tick is recorded. -/
def State.hbLate (s : State) (h : Nat) : State :=
  (((s.hbOff h).set1 (F.DRV_HB_STICKY_LATE h)).wr (R.DRV_HB_FAULT_TICK h) s.now32).raise (FS.DRV_LATE h)

/-- The interlock (R305): both switches off until a reset. -/
def State.hbInterlock (s : State) (h : Nat) : State :=
  (((((s.hbOff h).set1 (F.DRV_HB_STICKY_INTERLOCK h)).wr (R.DRV_HB_FAULT_TICK h) s.now32).modHb h
    fun b => { b with inter := true }).raise (FS.DRV_INTERLOCK h))

/-- Every half-bridge that is held now has both gates off (R170, R309, R311). -/
def State.hbHoldOff (s : State) : State :=
  s.forEach (List.range 8) fun s h => if s.hbBlocked h then s.hbOff h else s

/-! ### Lanes -/

/-- Changes a lane's hidden state. -/
def State.modLane (s : State) (l : Nat) (f : Lane → Lane) : State :=
  { s with drive := { s.drive with lane := s.drive.lane.modify l f } }

/-- A lane's STATE (Table DRV-14): 0 OFF, 1 ACTIVE, 2 TRIP, 3 FENCED. -/
def State.laneState (s : State) (l : Nat) : Nat := s.get (F.LANE_STAT_STATE l)

/-- The label of the chip on a lane in the first or second half of the tick, half ticks counted by COMP (R320): the chip labelled k
is sent from k - COMP to k + 1 - COMP. -/
def State.chipLabel (s : State) (l : Nat) (second : Bool) : Nat := (2 * s.epoch + b2n second + s.get (F.LANE_COMP_COMP l)) / 2

/-- The label of the chip whose transmission begins in this tick (R320). -/
def State.laneLabel (s : State) (l : Nat) : Nat := s.chipLabel l true

/-- The lane's unit is held by a fault group or the Warden reaction (R331, R493). -/
def State.laneHeld (s : State) (l : Nat) : Bool := s.unitHeld (l + 8)

/-- A TRIP starts on an ACTIVE lane, or at its fence on one that is OFF, to end in a state (0 OFF, 1 ACTIVE, 3 FENCED): queued edges
and an interrupted heartbeat are discarded and the driver turns both switches off (R330, R333, Table DRV-8). A TRIP in progress gets no second
one; its end state changes only to leave ACTIVE (R331, R333). [DEDUCED (unsafe), log row 48] -/
def State.laneTrip (s : State) (l after : Nat) : State :=
  if s.laneState l = 1 ∨ (s.laneState l = 0 ∧ after = 3) then
    ((s.put (F.LANE_STAT_STATE l) 2).wr (R.LANE_TRIP_TICK l) s.now32).modLane l fun x =>
      { x with queue := [], sched := [], sent := [], lvlA := false, lvlB := false, offA := some s.epoch, offB := some s.epoch,
               hbOut := none, busyTo := s.laneLabel l + 48, after := after, tripAt := s.mono, line := [] }
  else if s.laneState l = 2 ∧ after ≠ 1 then s.modLane l fun x => { x with after := after }
  else s

/-- A late edge on a lane (R306, R327, R329): both switches off by a TRIP. [DEDUCED (unsafe), log row 48] -/
def State.laneLate (s : State) (l : Nat) : State :=
  ((s.laneTrip l 1).set1 (F.LANE_LSTICKY_LATE l)).raise (FS.LANE_LATE l)

/-- The interlock of a lane (R305, R326): both switches off by a TRIP, and no edge is sent until a reset. [DEDUCED (unsafe), log row 48] -/
def State.laneInterlock (s : State) (l : Nat) : State :=
  (((s.laneTrip l 1).set1 (F.LANE_LSTICKY_INTERLOCK l)).modLane l fun x => { x with inter := true }).raise (FS.LANE_INTERLOCK l)

/-- A hold has begun on some groups: half-bridges that are held go off, lanes of the groups send one TRIP, and every held
unit records it (R170, R293, R331). -/
def State.holdBegins (s : State) (groups : Nat) : State :=
  let s := s.hbHoldOff
  let s := s.forEach (List.range 6) fun s l => if s.inGroups (l + 8) groups then s.laneTrip l 1 else s
  s.noteHolds

/-! ### Fences and the safe state -/

/-- A unit is fenced (R294, R310, R333): no edges, no transfers, its half-bridge or lane to the fenced condition.
[DEDUCED (unsafe), log row 49] -/
def State.fenceUnit (s : State) (u : Nat) : State :=
  if s.pwmState u = 3 then s
  else
    let frz := s.pwmState u == 2
    let s := if frz then s.enterHeld u else s
    let s := s.modPwm u fun p => { p with commit := false, skip := false, commitAt := none, loops := [],
                                          counting := p.counting && !frz }
    let s := ((((s.put (F.PWM_STATUS_STATE u) 3).put (F.PWM_STATUS_LEVEL_A u) 0).put (F.PWM_STATUS_LEVEL_B u) 0).put
      (F.PWM_STATUS_COMMIT_PENDING u) 0)
    let s := if u < 8 then (s.hbOff u).put (F.DRV_HB_STATUS_FENCED u) 1
      else if s.pdOn 10 then s.laneTrip (u - 8) 3 else s.put (F.LANE_STAT_STATE (u - 8)) 3
    (s.ivFenced u).noteHolds

/-- A lane enters the safe state (R333): one TRIP, then OFF. -/
def State.laneSafe (s : State) (l : Nat) : State :=
  if s.laneState l = 3 then s.put (F.LANE_STAT_STATE l) 0 else s.laneTrip l 0

end Sys2Proof.Machine
end

