-- ==== Sys2Proof/Machine/Link.lean ====
section
/-!
DEFINITION. What several blocks do to the links: hidden state of Svauth, the Hokuon pairs and Courier; the end of a staging
session; Courier's messages and powerline frames; the EVENT of an entry to the safe state, the Foyer state or OPENING
(R625, R627, R630, R633, R634).
-/

namespace Sys2Proof.Machine

/-- Changes Svauth's hidden state. -/
def State.modSv (s : State) (f : SvState → SvState) : State := { s with sv := f s.sv }
/-- Changes a Hokuon pair's state. -/
def State.modHok (s : State) (q : Nat) (f : Hok → Hok) : State := { s with hok := s.hok.modify q f }
/-- Changes Courier's hidden state. -/
def State.modCour (s : State) (f : CourState → CourState) : State := { s with cour := f s.cour }

/-! ### Staging sessions (R47, R630) -/

/-- The BUSY field of a kind. -/
def busyF (kind : Nat) : Fld := if kind = 1 then F.SYS_IMG_STATUS_BUSY else F.SV_BOOT_BUSY

/-- The session closes; the valid bit stays as it is. -/
def State.stageClose (s : State) : State :=
  match s.sv.stage with
  | none => s
  | some g => (s.put (busyF g.kind) 0).modSv fun v => { v with stage := none }

/-- Courier's staging session closes (R630). -/
def State.courSessionEnd (s : State) : State :=
  match s.cour.session with
  | none => s
  | some _ => ((s.stageClose).put F.COURH_STATUS_SESSION 0).modCour fun c => { c with session := none }

/-! ### Frames (R621, R625, R626) -/

/-- A powerline frame is being sent. -/
def State.plcBusy (s : State) : Bool :=
  match s.cour.frame with
  | some f => s.mono < f.endAt
  | none => false

/-- The powerline frame in progress ends with the abort delimiter (R625). [DEDUCED (unsafe), log row 101] -/
def State.plcAbort (s : State) : State :=
  let s := if s.plcBusy then s.set1 F.PLC_STICKY_ABORTED else s
  s.modCour fun c => { c with frame := none }

/-- The powerline MAC's work is dropped: PD10 or PD11 is off, or PLC is fenced (Table COU-9). [DEDUCED (unsafe), log row 101] -/
def State.plcDrop (s : State) : State :=
  let s := match s.cour.session with
    | some c => if c.plc then s.courSessionEnd else s
    | none => s
  (s.put F.PLC_STATUS_TT_WAIT 0).modCour fun c =>
    { c with frame := none, queue := [], reasm := [], ttWait := none, ttRsp := [] }

/-- PLC comes under a fence (R625, R626, Table CUR-4, Table COU-9). -/
def State.plcFence (s : State) : State := ((s.plcAbort).plcDrop).put F.PLC_STATUS_FENCED 1

/-! ### Messages (Table COU-3) -/

/-- The bytes of a Courier message; flags: bit 0 RSP, bit 1 AUTH, bit 2 EVENT_ACK. -/
def msgBytes (ty flags result txid src dst : Nat) (p : List Byte) : List Byte :=
  let b := leBytes 1 1 ++ leBytes 1 ty ++ leBytes 1 flags ++ leBytes 1 result ++ leBytes 4 txid ++ leBytes 2 src ++ leBytes 2 dst ++
    leBytes 2 p.length ++ leBytes 2 0 ++ p
  b ++ leBytes 4 (crc32 b)

/-- The segments of a message from number k on: at most n more (R634). -/
def segments (txid count k : Nat) : Nat → List Byte → List (List Byte)
  | 0, _ => []
  | n + 1, bs =>
    if bs.isEmpty then []
    else (leBytes 4 txid ++ leBytes 1 k ++ leBytes 1 count ++ leBytes 2 0 ++ bs.take 376) :: segments txid count (k + 1) n (bs.drop 376)

/-- A message's MAC frames: 1 to 11 segments of at most 376 message bytes (R634); unicast frames are acknowledged (Table COU-1). -/
def msgFrames (txid dst : Nat) (bs : List Byte) : List PlcFrame :=
  (segments txid ((bs.length + 375) / 376) 0 11 bs).map fun b => { dst := dst, ack := dst != 0xFFFF, retries := 0, bytes := b, endAt := 0 }

/-- The device's own short address. -/
def State.ownAddr (s : State) : Nat := s.get F.PLC_ADDR_SHORT

/-- The powerline is in service (R622, R626): powered, enabled, not fenced. -/
def State.plcOn (s : State) : Bool :=
  bitOf (s.get F.SYS_PD_STATUS_DOMAIN_ON) 10 && s.flag F.PLC_CTRL_EN && !s.flag F.PLC_STATUS_FENCED

/-- A message waits for the powerline. -/
def State.plcQueue (s : State) (txid dst : Nat) (bs : List Byte) : State :=
  if s.plcOn then s.modCour fun c => { c with queue := c.queue ++ msgFrames txid dst bs } else s

/-! ### Events (R633) -/

/-- The payload of an EVENT: four words (Table COU-4). [DEDUCED (unsafe), log row 100] -/
def State.eventWords (s : State) : List Byte :=
  [R.CUR_FIRST, R.CUR_SAFE_CAUSE, R.GRID_TRIP_INFO, R.SYS_FOYER].flatMap fun a => leBytes 4 (s.rd a).toNat

/-- The EVENT of an entry to the safe state, the Foyer state or OPENING (R633): it replaces one still repeated. Its TXID is the
device's to choose: drawn. The first repeat is due after 2 s. [DEDUCED (unsafe), log row 100] -/
def State.eventSend (s : State) : State :=
  let dst := s.get F.COURH_EVENT_DST_ADDR
  if dst = 0 then s
  else
    let tx := s.drawn % 2 ^ 32
    let m := msgBytes 0x0E 0 0 tx s.ownAddr dst s.eventWords
    let s := (s.drew).modCour fun c => { c with event := some { txid := tx, bytes := m, sent := 1, next := s.mono + 1600000000 } }
    if dst = 0xFFFE then s else s.plcQueue tx dst m

end Sys2Proof.Machine
end

