-- ==== Sys2Proof/Machine/Float.lean ====
section
/-!
DEFINITION. IEEE 754 binary32 as the loop engines use it (R201): round to nearest, ties to even; subnormal operands and
results are zero of the same sign. Numbers are words; arithmetic is exact on rationals and rounded once.
-/

namespace Sys2Proof.Machine

/-- A binary32 number taken apart: not a number, an infinity by sign, or a finite value with the sign of its zero. -/
inductive FVal where
  | nan
  | inf (neg : Bool)
  | fin (neg : Bool) (x : Rat)
  deriving DecidableEq, Repr

/-- A finite value. -/
def FVal.finite (v : FVal) : Bool := match v with | .fin _ _ => true | _ => false

/-- A power of two as a rational. -/
def pow2 (e : Int) : Rat := if 0 ≤ e then ((2 ^ e.toNat : Nat) : Rat) else 1 / ((2 ^ (-e).toNat : Nat) : Rat)

/-- Reads a word (R201: subnormals are zero of the same sign). -/
def fval (w : Word) : FVal :=
  let n := w.toNat
  let neg := bitOf n 31
  let e := bitsOf n 23 8
  let m := bitsOf n 0 23
  if e = 255 then (if m = 0 then .inf neg else .nan)
  else if e = 0 then .fin neg 0
  else
    let x := ((2 ^ 23 + m : Nat) : Rat) * pow2 ((e : Int) - 150)
    .fin neg (if neg then -x else x)

/-- The word of an infinity. -/
def fInf (neg : Bool) : Word := if neg then 0xFF800000#32 else 0x7F800000#32

/-- The word of a zero. -/
def fZero (neg : Bool) : Word := if neg then 0x80000000#32 else 0#32

/-- The quiet NaN the arithmetic gives. -/
def fNan : Word := 0x7FC00000#32

/-- Rounds a positive rational to an integer, ties to even. -/
def roundEven (x : Rat) : Nat :=
  let f := x.floor.toNat
  let r := x - (f : Rat)
  if 1/2 < r then f + 1 else if r < 1/2 then f else f + f % 2

/-- The exponent e with 2^e ≤ x < 2^(e+1), for x positive. -/
def expOf (x : Rat) : Int :=
  let e : Int := (Nat.log2 x.num.natAbs : Int) - Nat.log2 x.den
  if x < pow2 e then e - 1 else if pow2 (e + 1) ≤ x then e + 1 else e

/-- The binary32 word nearest a rational (R201); neg is the sign where the result is zero. -/
def fRound (neg : Bool) (x : Rat) : Word :=
  if x = 0 then fZero neg
  else
    let sg := decide (x < 0)
    let a := if sg then -x else x
    let e := expOf a
    let m := roundEven (a * pow2 (23 - e))
    let e := if m = 2 ^ 24 then e + 1 else e
    let m := if m = 2 ^ 24 then 2 ^ 23 else m
    if 127 < e then fInf sg
    else if e < -126 then fZero sg
    else BitVec.ofNat 32 ((if sg then 2 ^ 31 else 0) + (e + 127).toNat * 2 ^ 23 + (m - 2 ^ 23))

/-- The binary64 value nearest a rational, ties to even; the magnitudes that metering forms lie inside its range (R415). -/
def f64 (x : Rat) : Rat :=
  if x = 0 then 0
  else
    let a := if x < 0 then -x else x
    let e := expOf a
    let v := (roundEven (a * pow2 (52 - e)) : Rat) * pow2 (e - 52)
    if x < 0 then -v else v

/-- The word of a rational. -/
def fOf (x : Rat) : Word := fRound false x

/-- The value of a word, 0 where it is not finite. -/
def fRat (w : Word) : Rat := match fval w with | .fin _ x => x | _ => 0

/-- The sign bit of a word. -/
def fNeg (w : Word) : Bool := bitOf w.toNat 31

/-- Negation flips the sign bit. -/
def fneg (a : Word) : Word := a ^^^ 0x80000000#32

/-- The absolute value. -/
def fabs (a : Word) : Word := a &&& 0x7FFFFFFF#32

/-- Addition. [DEDUCED (unsafe), log row 42] -/
def fadd (a b : Word) : Word :=
  match fval a, fval b with
  | .nan, _ => fNan
  | _, .nan => fNan
  | .inf s, .inf t => if s == t then fInf s else fNan
  | .inf s, _ => fInf s
  | _, .inf t => fInf t
  | .fin s x, .fin t y => fRound (s && t) (x + y)

/-- Subtraction. -/
def fsub (a b : Word) : Word := fadd a (fneg b)

/-- Multiplication. [DEDUCED (unsafe), log row 42] -/
def fmul (a b : Word) : Word :=
  match fval a, fval b with
  | .nan, _ => fNan
  | _, .nan => fNan
  | .inf s, .inf t => fInf (s != t)
  | .inf s, .fin t y => if y = 0 then fNan else fInf (s != t)
  | .fin s x, .inf t => if x = 0 then fNan else fInf (s != t)
  | .fin s x, .fin t y => fRound (s != t) (x * y)

/-- Division. -/
def fdiv (a b : Word) : Word :=
  match fval a, fval b with
  | .nan, _ => fNan
  | _, .nan => fNan
  | .inf _, .inf _ => fNan
  | .inf s, .fin t _ => fInf (s != t)
  | .fin s _, .inf t => fZero (s != t)
  | .fin s x, .fin t y =>
    if y = 0 then (if x = 0 then fNan else fInf (s != t)) else fRound (s != t) (x / y)

/-- a is below b; false where either is not a number. -/
def flt (a b : Word) : Bool :=
  match fval a, fval b with
  | .nan, _ => false
  | _, .nan => false
  | .inf s, .inf t => s && !t
  | .inf s, .fin _ _ => s
  | .fin _ _, .inf t => !t
  | .fin _ x, .fin _ y => decide (x < y)

/-- a is at most b. -/
def fle (a b : Word) : Bool :=
  match fval a, fval b with
  | .nan, _ => false
  | _, .nan => false
  | .inf s, .inf t => s || !t
  | .inf s, .fin _ _ => s
  | .fin _ _, .inf t => !t
  | .fin _ x, .fin _ y => decide (x ≤ y)

/-- a equals b as a number. -/
def feq (a b : Word) : Bool := fle a b && fle b a

/-- The smaller of two. -/
def fmin (a b : Word) : Word := if flt b a then b else a

/-- The larger of two. -/
def fmax (a b : Word) : Word := if flt a b then b else a

/-- Clamps to a range. -/
def fclamp (x lo hi : Word) : Word := fmin (fmax x lo) hi

/-- The integer square root of a natural number, by bisection. -/
def isqrt (n : Nat) : Nat :=
  (List.range (Nat.log2 n / 2 + 1)).foldr (fun k r => if (r + 2 ^ k) * (r + 2 ^ k) ≤ n then r + 2 ^ k else r) 0

/-- The correctly rounded square root. The scaled operand keeps 25 more bits than the result, and a remainder counts as
one more bit so that the rounding sees it. -/
def fsqrt (a : Word) : Word :=
  match fval a with
  | .nan => fNan
  | .inf s => if s then fNan else fInf false
  | .fin s x =>
    if x = 0 then fZero s
    else if x < 0 then fNan
    else
      let e := expOf x / 2
      let y := x * pow2 (2 * (26 - e))
      let n := y.floor.toNat
      let r := isqrt n
      let exact := ((r * r : Nat) : Rat) = y
      fRound false (((2 * r + (if exact then 0 else 1) : Nat) : Rat) / 2 * pow2 (e - 26))

/-- R201 on a block output: infinities become the largest finite number, NaN becomes +0.0; true where that happened. -/
def fFix (w : Word) : Word × Bool :=
  match fval w with
  | .nan => (0#32, true)
  | .inf s => (if s then 0xFF7FFFFF#32 else 0x7F7FFFFF#32, true)
  | .fin s x => if x = 0 then (fZero s, false) else (w, false)

end Sys2Proof.Machine
end

