-- ==== Sys2Proof/Machine/Real.lean ====
section
/-!
DEFINITION. The real functions the GRID, METER, DIAG and loop-engine rules use. Rational arithmetic is exact; an irrational
function is computed in fixed point of 128 fraction bits, so that its value is the function's to better than one part in
2^100 (log row 8). Where the rules state no result (the square root of a negative number, an arcsine beyond 1, the angle of
the origin) the value is the opaque Config.realFn, by its name code.
-/

namespace Sys2Proof.Machine

/-! ### Fixed point of 128 fraction bits -/

/-- The fixed-point number below a rational. -/
def fix (x : Rat) : Int := (x * ((2 ^ 128 : Nat) : Rat)).floor

/-- The rational a fixed-point number stands for. -/
def unfix (n : Int) : Rat := (n : Rat) / ((2 ^ 128 : Nat) : Rat)

/-- The product of two fixed-point numbers. -/
def fixMul (a b : Int) : Int := a * b / (2 ^ 128 : Nat)

/-- A power series summed term by term: each term is the last one times x, divided by the next divisor; the sum's sign is in
the divisors. -/
def fixSeries (x : Int) : Int → List Int → Int
  | _, [] => 0
  | t, d :: ds => t + fixSeries x (fixMul t x / d) ds

/-- Pi, to 320 bits behind the point. [DESIGN CHOICE (unsafe), log row 8] -/
def piR : Rat :=
  ((0x3243f6a8885a308d313198a2e03707344a4093822299f31d0082efa98ec4e6c89452821e638d01377 : Nat) : Rat) / ((2 ^ 320 : Nat) : Rat)

/-- The natural logarithm of 2, to 192 bits. [DESIGN CHOICE (unsafe), log row 8] -/
def ln2R : Rat := ((0xb17217f7d1cf79abc9e3b39803f2f6af40f343267298b62d : Nat) : Rat) / ((2 ^ 192 : Nat) : Rat)

/-- The natural logarithm of 10, to 192 bits. [DESIGN CHOICE (unsafe), log row 8] -/
def ln10R : Rat := ((0x24d763776aaa2b05ba95b58ae0b4c28a38a3fb3e76977e43a : Nat) : Rat) / ((2 ^ 192 : Nat) : Rat)

/-- Rounds to the nearest integer, halves upward (R346). -/
def roundUp (x : Rat) : Int := (x + 1/2).floor

/-- The square root: exact where it is rational, else to 128 significant bits; below 0 the rules state no result: free.
[DESIGN CHOICE (unsafe), log row 8] -/
def sqrtR (x : Rat) : Rat :=
  if x = 0 then 0
  else if x < 0 then Config.realFn 1 x
  else
    let n := isqrt x.num.natAbs
    let d := isqrt x.den
    if n * n = x.num.natAbs ∧ d * d = x.den then (n : Rat) / (d : Rat)
    else
      let k := 128 - expOf x / 2
      ((isqrt (x * pow2 (2 * k)).floor.toNat : Nat) : Rat) * pow2 (-k)

/-- The exponential: 2 to the whole number of halvings times a power series of the rest. [DESIGN CHOICE (unsafe), log row 8] -/
def expR (x : Rat) : Rat :=
  if x = 0 then 1
  else
    let k := roundUp (x / ln2R)
    let r := fix (x - (k : Rat) * ln2R)
    unfix (fixSeries r (2 ^ 128) ((List.range 40).map fun (n : Nat) => (n : Int) + 1)) * pow2 k

/-- Ten to a power. [DESIGN CHOICE (unsafe), log row 8] -/
def pow10R (x : Rat) : Rat := expR (x * ln10R)

/-- Radians reduced by whole turns into [-pi, pi], in fixed point. -/
def fixAngle (x : Rat) : Int := fix (x - 2 * piR * (roundUp (x / (2 * piR)) : Rat))

/-- The sine of radians. [DESIGN CHOICE (unsafe), log row 8] -/
def sinR (x : Rat) : Rat :=
  if x = 0 then 0
  else
    let r := fixAngle x
    unfix (fixSeries (fixMul r r) r ((List.range 30).map fun (n : Nat) => -((2 * (n : Int) + 2) * (2 * n + 3))))

/-- The cosine of radians. [DESIGN CHOICE (unsafe), log row 8] -/
def cosR (x : Rat) : Rat :=
  if x = 0 then 1
  else
    let r := fixAngle x
    unfix (fixSeries (fixMul r r) (2 ^ 128) ((List.range 30).map fun (n : Nat) => -((2 * (n : Int) + 1) * (2 * n + 2))))

/-- The tangent of half the angle whose tangent is x. -/
def halfTan (x : Rat) : Rat := unfix (fix (x / (1 + sqrtR (1 + x * x))))

/-- The arctangent of a number from 0 to 1: its angle halved twice, then the power series. -/
def atanUnit (x : Rat) : Rat :=
  let y := fix (halfTan (halfTan x))
  let z := fixMul y y
  4 * unfix ((List.range 32).foldr (fun (n : Nat) a => y / (2 * (n : Int) + 1) - fixMul z a) 0)

/-- The arctangent, in radians. [DESIGN CHOICE (unsafe), log row 8] -/
def atanR (x : Rat) : Rat :=
  let a := if x < 0 then -x else x
  let t := if a ≤ 1 then atanUnit a else piR / 2 - atanUnit (1 / a)
  if x < 0 then -t else t

/-- The arcsine, in radians; beyond 1 the rules state no result: free. [DESIGN CHOICE (unsafe), log row 8] -/
def asinR (x : Rat) : Rat :=
  if x = 1 then piR / 2 else if x = -1 then -(piR / 2)
  else if x < -1 ∨ 1 < x then Config.realFn 5 x
  else atanR (x / sqrtR (1 - x * x))

/-- The angle of the point (x, y), in radians, in (-pi, pi]; at the origin the rules state no result: free.
[DESIGN CHOICE (unsafe), log row 8] -/
def atan2R (y x : Rat) : Rat :=
  if 0 < x then atanR (y / x)
  else if x < 0 then (if 0 ≤ y then atanR (y / x) + piR else atanR (y / x) - piR)
  else if 0 < y then piR / 2 else if y < 0 then -(piR / 2) else Config.realFn 8 0

/-- Clamps a rational to a range. -/
def clampR (x lo hi : Rat) : Rat := if x < lo then lo else if hi < x then hi else x

/-- The remainder of a division that truncates toward zero, with the sign of x (the fmod of R346). -/
def fmodR (x y : Rat) : Rat :=
  let q := x / y
  x - y * (if 0 ≤ q then (q.floor : Rat) else ((-(-q).floor : Int) : Rat))

/-- An angle wrapped into (-half, half] by whole turns of twice half. -/
def wrapR (x half : Rat) : Rat :=
  x - 2 * half * (((x - half) / (2 * half)).ceil : Rat)

/-- A time constant's share of a first-order response (R357): 1 - exp(-dt / tau), with tau = TOL / 2.3026. -/
def lagShare (dt tol : Rat) : Rat := 1 - expR (-(dt * (23026 / 10000) / tol))

/-- Seconds for ticks of Epoch. -/
def secs (ticks : Nat) : Rat := (ticks : Rat) / 800000000

/-- The piecewise-linear value of a curve at x; the end values hold beyond its points (R355). -/
def curveAt (x : Rat) : List (Rat × Rat) → Rat
  | [] => 0
  | [(_, y)] => y
  | (x0, y0) :: (x1, y1) :: t =>
    if x ≤ x0 then y0
    else if x ≤ x1 then y0 + (y1 - y0) * (x - x0) / (x1 - x0)
    else curveAt x ((x1, y1) :: t)

end Sys2Proof.Machine
end

