-- ==== Sys2Proof/Machine/GridOps.lean ====
section
/-!
DEFINITION. What several commands do to the GRID block and the relays: the parameters the image gives, the relay drivers,
the connection state, a trip, the lock-out (chapters 10 and 11).
-/

namespace Sys2Proof.Machine

/-! ### Parameters (Tables IMG-3, IMG-4, IMG-9, GSP-6, RTI-2) -/

/-- A little-endian field of GRID_CODE. -/
def State.gc (s : State) (o n : Nat) : Nat := bU (s.sec Sec.gridCode 0) o n

/-- A signed field of GRID_CODE. -/
def State.gcS (s : State) (o n : Nat) : Int := bS (s.sec Sec.gridCode 0) o n

/-- RATED_VA (VA). -/
def State.ratedVa (s : State) : Rat := (s.topo 0x08 4 : Rat)
/-- RATED_I (mA). -/
def State.ratedI (s : State) : Rat := (s.topo 0x0C 4 : Rat)
/-- V_NOM (V). -/
def State.vNom (s : State) : Rat := (s.topo 0x06 2 : Rat) / 10
/-- NOM_F (Hz). -/
def State.nomF (s : State) : Nat := s.topo 0x05 1
/-- The grid units of the image. -/
def State.gridUnits (s : State) : List Nat := topoUnits s.gridTopo

/-- The grid pair, by GRID_CFG (R342). -/
def State.gridPair (s : State) : Option Nat :=
  let p := s.get F.GRID_CFG_GRID_PAIR
  if p < 6 then some p else none

/-- The grid pair is enabled. -/
def State.gridOn (s : State) : Bool :=
  match s.gridPair with
  | some p => s.flag (F.LP_CTRL_EN p)
  | none => false

/-- Changes the GRID block's hidden state. -/
def State.modGrid (s : State) (f : GridState → GridState) : State := { s with grid := f s.grid }

/-- Changes the relay sequencer's hidden state. -/
def State.modRelay (s : State) (f : RelayState → RelayState) : State := { s with relay := f s.relay }

/-! ### Relays (R389, R391, R498) -/

/-- CONN_STATE (Table RTI-7): 0 OFF, 1 WAIT, 2 CLOSING, 3 CONNECTED, 4 OPENING, 5 LOCKOUT. -/
def State.conn (s : State) : Nat := s.get F.GRID_RT_STATUS_CONN_STATE

/-- Sets CONN_STATE. -/
def State.setConn (s : State) (c : Nat) : State := s.put F.GRID_RT_STATUS_CONN_STATE c

/-- The contact feedback of a relay (0 K1, 1 K2) reads closed (R391, R498). -/
def State.relayFb (s : State) (k : Nat) : Bool :=
  s.get (F.WARDEN_CFG_USE 2) == 1 && !(s.flag (if k = 0 then F.WARDEN_LEVEL_FILT_A 2 else F.WARDEN_LEVEL_FILT_B 2))

/-- The command bit of a relay. -/
def relayCmdF (k : Nat) : Fld := if k = 0 then F.RELAY_STATUS_K1_CMD else F.RELAY_STATUS_K2_CMD
/-- The hold bit of a relay. -/
def relayHoldF (k : Nat) : Fld := if k = 0 then F.RELAY_STATUS_K1_HOLD else F.RELAY_STATUS_K2_HOLD
/-- The energising count of a relay. -/
def relayCntF (k : Nat) : Fld := if k = 0 then F.RELAY_CNT_K1 else F.RELAY_CNT_K2

/-- Commands a relay: full current at its energising, which counts; a change of command is recorded (R389, R499). -/
def State.relayDrive (s : State) (k : Nat) (on : Bool) : State :=
  if s.flag (relayCmdF k) == on then s
  else
    let s := ((s.put (relayCmdF k) (b2n on)).put (relayHoldF k) 0).modRelay fun r => { r with cmdAt := r.cmdAt.set k s.mono }
    if on then s.incSat (relayCntF k) else s

/-- Both relays are de-energised: the open time starts, and CHECK_OK clears (R395). -/
def State.relaysOff (s : State) : State :=
  ((s.relayDrive 0 false).relayDrive 1 false).put F.GRID_RT_STATUS_CHECK_OK 0

/-- PULLIN has passed since a relay's energising: the drive is reduced to the hold duty (R390). -/
def State.relayHold (s : State) (k : Nat) : State :=
  if s.flag (relayCmdF k) && !s.flag (relayHoldF k) && (s.relay.cmdAt.get k) + s.get F.RELAY_CFG_PULLIN * 800000 ≤ s.mono then
    s.put (relayHoldF k) 1
  else s

/-! ### The connection state (Table RTI-7, R400) -/

/-- WAIT is entered: the timer stands at 0 and a draw is made, uniform over 0 to RANDOM seconds in steps of 1 ms (R400); while Svauth is
fenced it is RANDOM, the longest permitted (R566). -/
def State.enterWait (s : State) : State :=
  let r := if bitOf (s.rd R.CUR_FENCED_OTHER).toNat 2 then s.gc 0x212 2 * 1000 else s.drawn % (s.gc 0x212 2 * 1000 + 1)
  ((((s.setConn 1).put F.GRID_RT_STATUS_RC_READY 0).wr R.GRID_RC_DRAW (w32 r)).drew).modGrid fun g =>
    { g with timer := none, checkAt := 0 }

/-- What Table RTI-7 needs to leave OFF is present. -/
def State.connAble (s : State) : Bool := s.gridOn && s.pdOn 10 && s.flag F.EPOCH_STATUS_BAR_CAL_DONE

/-- OFF and WAIT follow the grid pair, PD10 and the barrier (Table RTI-7). [DEDUCED (unsafe), log row 53] -/
def State.connRefresh (s : State) : State :=
  if s.conn = 0 ∧ s.connAble then s.enterWait
  else if s.conn = 1 ∧ !s.connAble then
    ((s.setConn 0).put F.GRID_RT_STATUS_RC_READY 0).modGrid fun g => { g with timer := none }
  else s

/-- OPENING is entered, with both relays de-energised now; a sequencer in LOCKOUT stays there (Table RTI-7). -/
def State.enterOpening (s : State) : State :=
  let c := s.conn
  let s := s.relaysOff
  if c = 5 ∨ c = 4 then s else (s.setConn 4).modRelay fun r => { r with openFrom := s.mono }

/-! ### Trips (R398) and the lock-out (R404) -/

/-! The causes of GRID_TRIP_INFO (Table RTI-12). -/
namespace Cause
@[simp] abbrev curve : Nat := 1
@[simp] abbrev island : Nat := 2
@[simp] abbrev passive : Nat := 3
@[simp] abbrev sync : Nat := 4
@[simp] abbrev invalid : Nat := 5
@[simp] abbrev relay : Nat := 6
@[simp] abbrev host : Nat := 7
@[simp] abbrev pairOff : Nat := 8
@[simp] abbrev closeFail : Nat := 9
end Cause

/-- OP_STATE (slot 252 follows at the evaluation). -/
def State.setOp (s : State) (op : Nat) : State :=
  let s := (s.put F.GRID_RT_STATUS_OP_STATE op).put F.GRID_STATUS_FORMING (b2n (op == 3))
  let s := if op = 2 then s.set1 F.GRID_RT_STICKY_FCI_SEEN else s
  if op = 0 ∧ s.conn = 3 then s.set1 F.GRID_RT_STICKY_CEASED else s

/-- A probe in progress is abandoned; one that a passive indication started leaves it pending (R386). -/
def State.probeAbandon (s : State) : State :=
  (s.put F.GRID_RT_STATUS_PROBE 0).modGrid fun g => { g with probeAt := none }

/-- The EVENT of an entry to OPENING from a connection state (R633). -/
def State.openingEvent (s : State) (was : Nat) : State := if was = 4 ∨ was = 5 then s else s.eventSend

/-- A trip acts now (R398). -/
def State.gridTrip (s : State) (cause curve point : Nat) : State :=
  let was := s.conn
  let s := s.forEach s.gridUnits fun s u => s.stopUnit u
  let s := ((s.probeAbandon).enterOpening).setOp 0
  let s := ((s.put F.GRID_TRIP_INFO_CAUSE cause).put F.GRID_TRIP_INFO_CURVE curve).put F.GRID_TRIP_INFO_POINT point
  let s := (s.wr R.GRID_TRIP_TICK s.now32).modGrid fun g => { g with startAt := none }
  ((s.set1 F.GRID_RT_STICKY_TRIPPED).raise FS.GRID_TRIP).openingEvent was

/-- The safe state or a Warden reaction de-energises both relays and leaves the sequencer in LOCKOUT (R404); a probe is abandoned
(R386). -/
def State.relayLockout (s : State) : State :=
  (((s.relaysOff).setConn 5).probeAbandon).modGrid fun g => { g with startAt := none }

/-! ### The COMMISSION permit's end (R298, R501) -/

/-- The permit ends: PERMIT_ENDED sets and FORCE returns to 0. -/
def State.permitEnd (s : State) : State :=
  if s.flag F.WARDEN_STATUS_PERMIT then
    ((s.put F.WARDEN_STATUS_PERMIT 0).set1 F.WARDEN_STICKY_PERMIT_ENDED).forceEnd
  else s

/-! ### The grid pair's enable, commit and disable -/

/-- The grid pair has been enabled: evaluations, filters and announcement start anew (R347, R357, Table GSP-2). -/
def State.gridEnabled (s : State) (p : Nat) : State :=
  if s.gridPair = some p then
    (s.modGrid fun g => { g with due := false, upd := 0, evalAt := none, filt := false, pPre := none, lent := none,
                                 cPrev := none, cNext := none, hist := [], phi := none, fPrev := none, good := 0, bad := 0,
                                 invalid := none }).connRefresh
  else s

/-- The grid pair has been disabled (R347, R399, Table RTI-7). -/
def State.gridDisabled (s : State) (p : Nat) : State :=
  if s.gridPair = some p then
    let s := s.modGrid fun g => { g with due := false, cNext := none }
    if s.conn = 2 ∨ s.conn = 3 then s.gridTrip Cause.pairOff 0 0 else s.connRefresh
  else s

/-! ### DC injection (R364, R365) -/

/-- The over-limit count of a phase. -/
def dcCntF (p : Nat) : Fld := ⟨R.GRID_DC_CNT, 8 * p, 8⟩

/-- One phase's DC current of a complete cycle, in mA (R364). -/
def State.dcCurrent (s : State) (p : Nat) (count : Int) (len : Nat) : Rat :=
  let k := 20 + p
  (((count : Rat) / (len : Rat) * 40960) - ((s.getS (F.CH_CAL_OFS_CAL_OFS k) : Int) : Rat)) *
    ((s.get (F.CH_CAL_GAIN_CAL_GAIN k) : Rat) / 524288) / 32768 * (s.gc 0x288 4 : Rat)

/-- A current lies over the limit (R364). -/
def State.dcOver (s : State) (i : Rat) : Bool := decide (s.gc 0x284 2 * s.ratedI / 10000 < i) || decide (i < -(s.gc 0x284 2 * s.ratedI / 10000))

/-- One phase channel's line-cycle record reaches the GRID block (R364, R365); flags as R149. -/
def State.dcUpdate (s : State) (p : Nat) (count : Int) (len flags : Nat) : State :=
  let i := s.dcCurrent p count len
  let s := s.wr (R.GRID_DC p) (w32 (unsignedOf 32 (roundAway (i * 100))))
  let past := s.dcOver i
  let s := if past then s.put F.GRID_STATUS_DC_OVER 1 else s
  if bitOf flags 0 || bitOf flags 2 then s
  else if past then
    let n := s.get (dcCntF p) + 1
    let s := s.incSat (dcCntF p)
    if n = s.gc 0x286 1 then s.stickyRaise F.GRID_STICKY_DC_INJ FS.GRID_DC_INJ else s
  else s.put (dcCntF p) 0

end Sys2Proof.Machine
end

