-- ==== Sys2Proof/Machine/LoopBlocks.lean ====
section
/-!
DEFINITION. The loop block library (chapter 07): the block catalogue and what one run of each block computes. Values are
binary32 words (R201, every operation rounded); an input is absent where no edge drives its port (R218).
-/

namespace Sys2Proof.Machine

/-! ### The catalogue (Table BLK-3) -/

/-- One row of Table BLK-3: input and output ports, state and parameter bytes, whether it freezes on FENCED, its cost. -/
structure BlkRow where
  code : Nat
  ins : Nat
  outs : Nat
  state : Nat
  params : Nat
  freezes : Bool
  cost : Nat
  deriving DecidableEq, Repr

/-- The first part of the catalogue. -/
def blkRows1 : List BlkRow :=
  [⟨0x0001, 0, 2, 4, 16, false, 6⟩, ⟨0x0002, 0, 1, 0, 12, false, 4⟩, ⟨0x0003, 0, 1, 0, 4, false, 2⟩,
   ⟨0x0004, 0, 8, 0, 0, false, 6⟩, ⟨0x0005, 0, 2, 4, 8, false, 5⟩, ⟨0x0006, 1, 0, 0, 4, false, 3⟩,
   ⟨0x0007, 4, 1, 0, 12, false, 10⟩, ⟨0x0008, 1, 2, 8, 12, false, 5⟩, ⟨0x0101, 8, 1, 0, 40, false, 2⟩,
   ⟨0x0102, 2, 1, 0, 4, false, 3⟩, ⟨0x0103, 2, 1, 0, 4, false, 14⟩, ⟨0x0104, 2, 1, 0, 4, false, 2⟩,
   ⟨0x0105, 1, 1, 0, 260, false, 20⟩, ⟨0x0201, 3, 1, 0, 8, false, 4⟩, ⟨0x0202, 1, 1, 4, 12, true, 6⟩,
   ⟨0x0203, 3, 1, 0, 0, false, 3⟩, ⟨0x0204, 1, 1, 4, 12, false, 4⟩]

/-- The second part of the catalogue. -/
def blkRows2 : List BlkRow :=
  [⟨0x0301, 1, 1, 4, 8, false, 20⟩, ⟨0x0302, 1, 1, 8, 20, false, 10⟩, ⟨0x0303, 1, 1, 264, 8, false, 8⟩,
   ⟨0x0304, 1, 1, 260, 8, false, 5⟩, ⟨0x0401, 6, 1, 4, 28, true, 18⟩, ⟨0x0402, 3, 1, 104, 116, true, 24⟩,
   ⟨0x0403, 1, 1, 8, 16, true, 14⟩, ⟨0x0404, 2, 1, 4, 20, true, 6⟩, ⟨0x0501, 3, 3, 0, 0, false, 8⟩,
   ⟨0x0502, 3, 3, 0, 0, false, 6⟩, ⟨0x0503, 5, 2, 0, 0, false, 18⟩, ⟨0x0504, 5, 2, 0, 0, false, 18⟩,
   ⟨0x0601, 1, 7, 12, 24, false, 64⟩, ⟨0x0602, 1, 3, 4, 4, false, 20⟩, ⟨0x0701, 2, 3, 32, 32, true, 32⟩,
   ⟨0x0702, 2, 3, 32, 32, true, 38⟩, ⟨0x0801, 2, 7, 0, 16, false, 14⟩, ⟨0x0802, 1, 7, 0, 12, false, 22⟩,
   ⟨0x0803, 2, 7, 0, 12, false, 14⟩, ⟨0x0901, 1, 4, 12, 24, true, 30⟩, ⟨0x0902, 4, 8, 32, 216, true, 48⟩]

/-- The row of a block type. -/
def blkRow (ty : Nat) : Option BlkRow := (blkRows1 ++ blkRows2).find? fun r => r.code == ty

/-- The state bytes of a block type. -/
def blkState (ty : Nat) : Nat := match blkRow ty with | some r => r.state | none => 0

/-! ### What a run sees and gives -/

/-- A value with its quality field (R225). -/
structure Val where
  w : Word
  q : Nat
  deriving DecidableEq, Repr, Inhabited

/-- What a block run sees: parameters, inputs, the committed state, whether it is frozen; whether a quality bit of its
FREEZE_QMASK froze it; FIRST, HELD; the time step; whether its commit would be a 64th since the enable (R245). -/
structure BlkIn where
  par : List Word
  ins : List (Option Val)
  st : List Word
  frozen : Bool
  qfrozen : Bool
  first : Bool
  held : Bool
  ts : Word
  nth64 : Bool

/-- What a block run gives: outputs, the new state, the quality bits it sets itself, and PLAUS going from 0 to 1. -/
structure BlkOut where
  outs : List Word
  st : List Word
  q : Nat
  plaus : Bool

/-- Outputs without a state. -/
def BlkOut.of (outs : List Word) (sat : Bool) : BlkOut := ⟨outs, [], if sat then 64 else 0, false⟩

/-- A parameter as a binary32 word. -/
def BlkIn.p (b : BlkIn) (k : Nat) : Word := b.par.getD k 0#32
/-- A parameter as an unsigned integer. -/
def BlkIn.pn (b : BlkIn) (k : Nat) : Nat := (b.p k).toNat
/-- An input's value; 0.0 where no edge drives the port (R218). -/
def BlkIn.x (b : BlkIn) (k : Nat) : Word := match b.ins.getD k none with | some v => v.w | none => 0#32
/-- An input's value, or a default where no edge drives the port. -/
def BlkIn.xOr (b : BlkIn) (k : Nat) (d : Word) : Word := match b.ins.getD k none with | some v => v.w | none => d
/-- A port is driven. -/
def BlkIn.driven (b : BlkIn) (k : Nat) : Bool := (b.ins.getD k none).isSome
/-- A state word. -/
def BlkIn.s (b : BlkIn) (k : Nat) : Word := b.st.getD k 0#32
/-- The quality of an input. -/
def BlkIn.qOf (b : BlkIn) (k : Nat) : Nat := match b.ins.getD k none with | some v => v.q | none => 0
/-- The OR of the quality of all inputs (R225). -/
def BlkIn.qAll (b : BlkIn) : Nat := b.ins.foldl (fun q v => q ||| (match v with | some v => v.q | none => 0)) 0
/-- A RESET port reads 0.5 or more (R228). -/
def BlkIn.reset (b : BlkIn) (k : Nat) : Bool := fle 0x3F000000#32 (b.x k)

/-- 1.0 or 0.0. -/
def fBool (c : Bool) : Word := if c then 0x3F800000#32 else 0#32
/-- 1.0. -/
def f1 : Word := 0x3F800000#32
/-- 2.0. -/
def f2 : Word := 0x40000000#32
/-- 3.0. -/
def f3 : Word := 0x40400000#32
/-- The largest finite number (R201). -/
def fMax : Word := 0x7F7FFFFF#32
/-- 2π in binary32. -/
def fTwoPi : Word := 0x40C90FDB#32
/-- π in binary32. -/
def fPi : Word := 0x40490FDB#32
/-- √3 in binary32. -/
def fSqrt3 : Word := fsqrt f3

/-- Clamps, and whether the clamp acted. -/
def fclampSat (x lo hi : Word) : Word × Bool := (fclamp x lo hi, flt x lo || flt hi x)

/-- The sign of a number: 1.0, -1.0 or 0.0. -/
def fsgn (x : Word) : Word := if flt 0#32 x then f1 else if flt x 0#32 then fneg f1 else 0#32

/-- x reduced modulo top - base into [base, top): exactly, then rounded once; a result that would round to top is base. -/
def fmod (x base top : Word) : Word :=
  match fval x, fval base, fval top with
  | .fin _ v, .fin _ b, .fin _ t =>
    if t ≤ b then base
    else
      let y := fRound false (v - (t - b) * (((v - b) / (t - b)).floor : Rat))
      if fle top y then base else y
  | .fin _ v, .fin _ b, .inf false => if v < b then top else x
  | _, _, _ => fNan

/-! ### The functions of Table BLK-5 within their stated errors (R240, R241) -/

/-- The engine's own result where it lies within the stated error of the exact value and inside a range, else the exact value
rounded: every result meets the table, and its bits are free (log row 7). [DESIGN CHOICE (safe), log row 7] -/
def fWithin (free : Word) (err x : Rat) (inRange : Rat → Bool) : Word :=
  match fval free with
  | .fin _ y => if x - err ≤ y ∧ y ≤ x + err ∧ inRange y = true then free else fOf x
  | _ => fOf x

/-- The sine, within 2⁻²². [DESIGN CHOICE (safe), log row 7] -/
def fSin (x : Word) : Word :=
  match fval x with
  | .fin _ v => fWithin (Config.fsin x) (pow2 (-22)) (sinR v) fun _ => true
  | _ => fNan

/-- The cosine, within 2⁻²². [DESIGN CHOICE (safe), log row 7] -/
def fCos (x : Word) : Word :=
  match fval x with
  | .fin _ v => fWithin (Config.fcos x) (pow2 (-22)) (cosR v) fun _ => true
  | _ => fNan

/-- The angle of the point (x, y), within 2⁻²¹ and in [-π, π]; the rounded value of π itself lies outside, and the word below it
stands for it. Not of the origin, which Table BLK-5 and R251 treat apart, and not a number where an operand is not finite.
[DESIGN CHOICE (safe), log row 7] -/
def fAtan2 (y x : Word) : Word :=
  match fval y, fval x with
  | .fin _ v, .fin _ u =>
    let r := fWithin (Config.fatan2 y x) (pow2 (-21)) (atan2R v u) fun a => decide (-piR ≤ a) && decide (a ≤ piR)
    fclamp r 0xC0490FDA#32 0x40490FDA#32
  | _, _ => fNan

/-- The exponential, within 2⁻²² of its value; beyond the number format an infinity or zero (R201). [DESIGN CHOICE (safe), log row 7] -/
def fExp (x : Word) : Word :=
  match fval x with
  | .nan => fNan
  | .inf neg => if neg then 0#32 else fInf false
  | .fin _ v =>
    if 89 < v then fInf false else if v < -88 then 0#32
    else fWithin (Config.fexp x) (pow2 (-22) * expR v) (expR v) fun _ => true

/-- The reciprocal square root of a positive number, within 2⁻²² of its value. [DESIGN CHOICE (safe), log row 7] -/
def fRsqrt (x : Word) : Word :=
  match fval x with
  | .nan => fNan
  | .inf _ => 0#32
  | .fin _ v => fWithin (Config.frsqrt x) (pow2 (-22) / sqrtR v) (1 / sqrtR v) fun _ => true

/-! ### Arithmetic, routing and limits (R240 to R243) -/

/-- MATH (Table BLK-5). -/
def blkMath (b : BlkIn) : BlkOut :=
  let x := b.x 0
  let y := b.x 1
  let big := flt 0x49800000#32 (fabs x)
  match b.pn 0 with
  | 0 => .of [fabs x] false
  | 1 => if flt x 0#32 then .of [0#32] true else .of [fsqrt x] false
  | 2 => if big then .of [0#32] true else .of [fSin x] false
  | 3 => if big then .of [f1] true else .of [fCos x] false
  | 4 => if feq x 0#32 && feq y 0#32 then .of [0#32] false else .of [fAtan2 x y] false
  | 5 => if fle x 0#32 then .of [fMax] true else .of [fRsqrt x] false
  | 6 => .of [fExp x] false
  | 7 => .of [fmin x y] false
  | _ => .of [fmax x y] false

/-- SUM (Table BLK-4). -/
def blkSum (b : BlkIn) : BlkOut :=
  let n := b.pn 0
  let s := (List.range (n - 1)).foldl (fun a k => fadd a (fmul (b.p (k + 2)) (b.x (k + 1)))) (fmul (b.p 1) (b.x 0))
  .of [fadd s (b.p 9)] false

/-- DIV (Table BLK-4). -/
def blkDiv (b : BlkIn) : BlkOut :=
  let d := b.x 1
  if flt (fabs d) (b.p 0) then .of [fdiv (b.x 0) (if flt d 0#32 then fneg (b.p 0) else b.p 0)] true
  else .of [fdiv (b.x 0) d] false

/-- The segment of a LUT that holds x: the largest index whose X is at most x. -/
def lutSeg (b : BlkIn) (x : Word) (n : Nat) : Nat :=
  (List.range (n - 1)).foldl (fun i k => if fle (b.p (1 + k)) x then k else i) 0

/-- LUT (Table BLK-4). -/
def blkLut (b : BlkIn) : BlkOut :=
  let n := b.pn 0
  let x := b.x 0
  let X := fun k => b.p (1 + k)
  let Y := fun k => b.p (33 + k)
  if flt x (X 0) then .of [Y 0] true
  else if flt (X (n - 1)) x then .of [Y (n - 1)] true
  else
    let i := lutSeg b x n
    .of [fadd (Y i) (fdiv (fmul (fsub (Y (i + 1)) (Y i)) (fsub x (X i))) (fsub (X (i + 1)) (X i)))] false

/-- LIMIT (Table BLK-4). -/
def blkLimit (b : BlkIn) : BlkOut :=
  let lo := b.xOr 1 (b.p 0)
  let hi := b.xOr 2 (b.p 1)
  if flt hi lo then .of [lo] true
  else
    let r := fclampSat (b.x 0) lo hi
    .of [r.1] r.2

/-- RATE_LIMIT (R242). -/
def blkRate (b : BlkIn) : BlkOut :=
  if b.frozen then ⟨[b.s 0], b.st, 0, false⟩
  else
    let r := fclampSat (fsub (b.x 0) (b.s 0)) (fneg (fmul (b.p 1) b.ts)) (fmul (b.p 0) b.ts)
    let y := fadd (b.s 0) r.1
    ⟨[y], [y], if r.2 then 64 else 0, false⟩

/-- HYST (R243). -/
def blkHyst (b : BlkIn) : BlkOut :=
  let y := if b.frozen then b.s 0
    else if flt (b.p 1) (b.x 0) then f1 else if flt (b.x 0) (b.p 0) then 0#32 else b.s 0
  ⟨[y], [y], 0, false⟩

/-! ### Filters (R244, R245) -/

/-- LPF1. -/
def blkLpf (b : BlkIn) : BlkOut :=
  let al := fsub f1 (fExp (fneg (fdiv b.ts (b.p 0))))
  let y := if b.frozen then b.s 0 else fadd (b.s 0) (fmul al (fsub (b.x 0) (b.s 0)))
  ⟨[y], [y], 0, false⟩

/-- BIQUAD. -/
def blkBiquad (b : BlkIn) : BlkOut :=
  let x := b.x 0
  let y := fadd (fmul (b.p 0) x) (b.s 0)
  let s1 := fadd (fsub (fmul (b.p 1) x) (fmul (b.p 3) y)) (b.s 1)
  let s2 := fsub (fmul (b.p 2) x) (fmul (b.p 4) y)
  ⟨[y], if b.frozen then b.st else [s1, s2], 0, false⟩

/-- The ring position of the input N executions before the one at a position (R244: the ring has 64 words). -/
def ringBack (pos n : Nat) : Nat := (pos + 64 - n) % 64

/-- MAVG: 64 ring words, the sum, the index of the next word to write. At every 64th committed execution after the enable the sum
is recomputed from the ring, the oldest of the last N first (R245). [DEDUCED (unsafe), log row 110] -/
def blkMavg (b : BlkIn) : BlkOut :=
  let n := b.pn 0
  let fn := fOf (n : Rat)
  if b.frozen then ⟨[fdiv (b.s 64) fn], b.st, 0, false⟩
  else
    let pos := (b.s 65).toNat % 64
    let ring := (b.st.take 64).set pos (b.x 0)
    let next := (pos + 1) % 64
    let last := (List.range n).map fun k => ring.getD (ringBack next (n - k)) 0#32
    let sum := if b.nth64 then last.foldl fadd 0#32 else fsub (fadd (b.s 64) (b.x 0)) (b.s (ringBack pos n))
    ⟨[fdiv sum fn], ring ++ [sum, BitVec.ofNat 32 next], 0, false⟩

/-- DELAY: 64 ring words and the index of the next word to write. [DEDUCED (unsafe), log row 110] -/
def blkDelay (b : BlkIn) : BlkOut :=
  let pos := (b.s 64).toNat % 64
  let st := if b.frozen then b.st else (b.st.take 64).set pos (b.x 0) ++ [BitVec.ofNat 32 ((pos + 1) % 64)]
  ⟨[b.s (ringBack pos (b.pn 0))], st, 0, false⟩

/-! ### Controllers (R246 to R249) -/

/-- The candidate integrator of PI (R246), before its clamp. -/
def piStep (b : BlkIn) (i e lo hi : Word) : Word :=
  let kp := b.p 0
  let ki := b.p 1
  let ff := b.x 2
  if b.pn 6 = 0 then
    let n := fadd i (fmul (fmul ki b.ts) e)
    let u := fadd (fadd (fmul kp e) n) ff
    if (flt hi u && flt 0#32 e) || (flt u lo && flt e 0#32) then i else n
  else
    let u := fadd (fadd (fmul kp e) i) ff
    fadd i (fmul b.ts (fadd (fmul ki e) (fmul (b.p 2) (fsub (fclamp u lo hi) u))))

/-- PI (R246). -/
def blkPi (b : BlkIn) : BlkOut :=
  let e := fsub (b.x 0) (b.x 1)
  let lo := b.xOr 3 (b.p 3)
  let hi := b.xOr 4 (b.p 4)
  let i := if b.reset 5 then b.p 5 else b.s 0
  if flt hi lo then ⟨[lo], [i], 64, false⟩
  else
    let r := if b.frozen then (i, false) else fclampSat (piStep b i e lo hi) lo hi
    let u := fclampSat (fadd (fadd (fmul (b.p 0) e) r.1) (b.x 2)) lo hi
    ⟨[u.1], [r.1], if r.2 || u.2 then 64 else 0, false⟩

/-- The state of the running sum over the harmonics of PR: cos and sin of h·ω·ts, the output, SAT, the new states. -/
structure PrAcc where
  c : Word
  s : Word
  y : Word
  sat : Bool
  st : List Word

/-- One harmonic of PR (R247). -/
def prStep (b : BlkIn) (st : List Word) (rho c1 s1 : Word) (acc : PrAcc) (h : Nat) : PrAcc :=
  let c := if h = 1 then c1 else fsub (fmul acc.c c1) (fmul acc.s s1)
  let s := if h = 1 then s1 else fadd (fmul acc.s c1) (fmul acc.c s1)
  let a := st.getD (2 * h - 2) 0#32
  let d := st.getD (2 * h - 1) 0#32
  if bitOf (b.pn 0) (h - 1) then
    let an := fadd (fmul rho (fsub (fmul c a) (fmul s d))) (fmul (fmul (b.p (2 + h)) b.ts) (b.x 0))
    let bn := fmul rho (fadd (fmul s a) (fmul c d))
    let m := fsqrt (fadd (fmul an an) (fmul bn bn))
    let past := flt (b.p (15 + h)) m && !b.frozen
    let k := fdiv (b.p (15 + h)) m
    let an := if b.frozen then a else if past then fmul an k else an
    let bn := if b.frozen then d else if past then fmul bn k else bn
    let phi := fmul (fmul (fmul (b.p 1) (fOf (h : Rat))) (b.x 1)) b.ts
    let y := fadd acc.y (fsub (fmul (fCos phi) an) (fmul (fSin phi) bn))
    ⟨c, s, y, acc.sat || past, acc.st ++ [an, bn]⟩
  else ⟨c, s, acc.y, acc.sat, acc.st ++ [0#32, 0#32]⟩

/-- PR (R247): 13 pairs of state words. -/
def blkPr (b : BlkIn) : BlkOut :=
  let st := if b.reset 2 then List.replicate 26 0#32 else b.st
  let wt := fmul (b.x 1) b.ts
  let rho := fExp (fneg (fmul (b.p 2) b.ts))
  let r := (List.range 13).foldl (fun a k => prStep b st rho (fCos wt) (fSin wt) a (k + 1))
    ⟨0#32, 0#32, 0#32, false, []⟩
  ⟨[r.y], r.st, if r.sat then 64 else 0, false⟩

/-- LEAD_LAG (R248). -/
def blkLeadLag (b : BlkIn) : BlkOut :=
  if b.frozen then ⟨[b.s 1], b.st, 0, false⟩
  else
    let k := b.p 0
    let wz := b.p 1
    let wp := b.p 2
    let al := fdiv f2 b.ts
    let den := fmul wz (fadd wp al)
    let b0 := fdiv (fmul (fmul k wp) (fadd wz al)) den
    let b1 := fdiv (fmul (fmul k wp) (fsub wz al)) den
    let a1 := fdiv (fsub wp al) (fadd wp al)
    let y := fsub (fadd (fmul b0 (b.x 0)) (fmul b1 (b.s 0))) (fmul a1 (b.s 1))
    ⟨[y], [b.x 0, y], 0, false⟩

/-- INTEG (R249). -/
def blkInteg (b : BlkIn) : BlkOut :=
  let y := if b.reset 1 then b.p 3 else b.s 0
  if b.frozen then ⟨[y], [y], 0, false⟩
  else
    let n := fadd y (fmul (fmul (b.p 0) b.ts) (b.x 0))
    if b.pn 4 = 0 then
      let r := fclampSat n (b.p 1) (b.p 2)
      ⟨[r.1], [r.1], if r.2 then 64 else 0, false⟩
    else
      let r := fmod n (b.p 1) (b.p 2)
      ⟨[r], [r], 0, false⟩

/-! ### Transforms and synchronisation (R250 to R253) -/

/-- CLARKE. -/
def blkClarke (b : BlkIn) : BlkOut :=
  let a := b.x 0
  let v := b.x 1
  let c := b.x 2
  .of [fdiv (fsub (fsub (fmul f2 a) v) c) f3, fdiv (fsub v c) fSqrt3, fdiv (fadd (fadd a v) c) f3] false

/-- INV_CLARKE. -/
def blkInvClarke (b : BlkIn) : BlkOut :=
  let al := b.x 0
  let t := fmul (fdiv fSqrt3 f2) (b.x 1)
  let z := b.x 2
  let h := fneg (fdiv al f2)
  .of [fadd al z, fadd (fadd h t) z, fadd (fsub h t) z] false

/-- The sine and cosine that PARK and INV_PARK use: ports 3 and 4 when both are driven. -/
def parkSinCos (b : BlkIn) : Word × Word :=
  if b.driven 3 && b.driven 4 then (b.x 3, b.x 4) else (fSin (b.x 2), fCos (b.x 2))

/-- PARK. -/
def blkPark (b : BlkIn) : BlkOut :=
  let t := parkSinCos b
  .of [fadd (fmul (b.x 0) t.2) (fmul (b.x 1) t.1), fadd (fmul (fneg (b.x 0)) t.1) (fmul (b.x 1) t.2)] false

/-- INV_PARK. -/
def blkInvPark (b : BlkIn) : BlkOut :=
  let t := parkSinCos b
  .of [fsub (fmul (b.x 0) t.2) (fmul (b.x 1) t.1), fadd (fmul (b.x 0) t.1) (fmul (b.x 1) t.2)] false

/-- One Heun step of SOGI_FLL (R251); free: the input is replaced by vα, so that the error is 0 (R252). -/
def sogiHeun (k w v h : Word) (free : Bool) (s : Word × Word) : Word × Word :=
  let err := fun (va : Word) => if free then 0#32 else fmul k (fsub v va)
  let a1 := fmul w (fsub (err s.1) s.2)
  let b1 := fmul w s.1
  let va2 := fadd s.1 (fmul h a1)
  let vb2 := fadd s.2 (fmul h b1)
  let a2 := fmul w (fsub (err va2) vb2)
  let b2 := fmul w va2
  (fadd s.1 (fdiv (fmul h (fadd a1 a2)) f2), fadd s.2 (fdiv (fmul h (fadd b1 b2)) f2))

/-- SOGI_FLL (R251, R252): K, GAMMA, W_NOM, W_MIN, W_MAX, A_MIN. -/
def blkSogi (b : BlkIn) : BlkOut :=
  let v := b.x 0
  let w := b.s 2
  let h := fdiv b.ts f2
  let hold := b.frozen && !b.qfrozen
  let step := sogiHeun (b.p 0) w v h b.qfrozen
  let r := if hold then (b.s 0, b.s 1) else step (step (b.s 0, b.s 1))
  let amp2 := fadd (fmul r.1 r.1) (fmul r.2 r.2)
  let upd := !b.frozen && fle (fmul (b.p 5) (b.p 5)) amp2
  let wn := fsub w (fdiv (fmul (fmul (fmul (fmul (b.p 1) b.ts) (fsub v r.1)) r.2) w) amp2)
  let wr := if upd then fclampSat wn (b.p 3) (b.p 4) else (w, false)
  ⟨[r.1, r.2, wr.1, fdiv wr.1 fTwoPi, fsqrt amp2,
    if feq r.1 0#32 && feq r.2 0#32 then 0#32 else fAtan2 r.2 r.1,
    if b.qfrozen then 0#32 else fsub v r.1], [r.1, r.2, wr.1], if wr.2 then 64 else 0, false⟩

/-- PHASE_ACC (R253). -/
def blkPhase (b : BlkIn) : BlkOut :=
  let th := if b.frozen then b.s 0 else fmod (fadd (b.s 0) (fmul (b.x 0) b.ts)) (fneg fPi) fPi
  ⟨[th, fSin th, fCos th], [th], 0, false⟩

/-! ### Maximum-power-point tracking (R254 to R256) -/

/-- The averaging state of a tracker with this execution's products added. -/
def mpptAdd (b : BlkIn) (x : Word) : Word × Word × Nat :=
  (fadd (b.s 4) x, fadd (b.s 5) (b.x 0), (b.s 6).toNat + 1)

/-- A tracker's state with the partial sums discarded (R256). -/
def mpptFrozen (b : BlkIn) : List Word := [b.s 0, b.s 1, b.s 2, b.s 3, 0#32, 0#32, 0#32, b.s 7]

/-- The decision of MPPT_PO (R254) at the means p and vm: the new v_ref, dir and step, and SAT, which a clamp of v_ref or of
step sets (Table BLK-2). [DEDUCED (unsafe), log row 110] -/
def mpptPoDecide (b : BlkIn) (p vm : Word) : Word × Word × Word × Bool :=
  let dp := fsub p (b.s 2)
  let dv := fsub vm (b.s 3)
  let dir := if flt dp (fneg (b.p 7)) then fneg (b.s 1) else b.s 1
  let step := if flt 0#32 (b.p 5) then
      fclampSat (fdiv (fmul (b.p 5) (fabs dp)) (fmax (fabs dv) 0x3A83126F#32)) (b.p 3) (b.p 4)
    else (b.s 7, false)
  let v := fadd (b.s 0) (fmul dir step.1)
  if flt (b.p 2) v || flt v (b.p 1) then (fclamp v (b.p 1) (b.p 2), fneg dir, step.1, true) else (v, dir, step.1, step.2)

/-- MPPT_PO (R254, R256): V_INIT, V_MIN, V_MAX, STEP_MIN, STEP_MAX, K_ADAPT, EVERY, DP_EPS. -/
def blkMpptPo (b : BlkIn) : BlkOut :=
  if b.frozen then ⟨[b.s 0, b.s 2, b.s 1], mpptFrozen b, 0, false⟩
  else
    let a := mpptAdd b (fmul (b.x 0) (b.x 1))
    if b.pn 6 ≤ a.2.2 then
      let n := fOf (a.2.2 : Rat)
      let p := fdiv a.1 n
      let vm := fdiv a.2.1 n
      let r := mpptPoDecide b p vm
      ⟨[r.1, p, r.2.1], [r.1, r.2.1, p, vm, 0#32, 0#32, 0#32, r.2.2.1], if r.2.2.2 then 64 else 0, false⟩
    else ⟨[b.s 0, b.s 2, b.s 1], [b.s 0, b.s 1, b.s 2, b.s 3, a.1, a.2.1, BitVec.ofNat 32 a.2.2, b.s 7], 0, false⟩

/-- The mean current that goes with a mean power and a mean voltage; 0.0 where the voltage is 0 (log row 43).
[DEDUCED (unsafe), log row 43] -/
def mpptI (p v : Word) : Word := if feq v 0#32 then 0#32 else fdiv p v

/-- The direction that MPPT_INC takes (R255) at the means p and vm. [DEDUCED (unsafe), log row 43] -/
def mpptIncDir (b : BlkIn) (p vm : Word) : Word :=
  let im := mpptI p vm
  let di := fsub im (mpptI (b.s 2) (b.s 3))
  let dv := fsub vm (b.s 3)
  if flt (fabs dv) (b.p 5) then (if flt (fabs di) (b.p 6) then 0#32 else fsgn di)
  else
    let g := fadd im (fdiv (fmul vm di) dv)
    if flt (fabs g) (b.p 7) then 0#32 else fsgn g

/-- MPPT_INC (R255, R256): V_INIT, V_MIN, V_MAX, STEP, EVERY, DV_EPS, DI_EPS, G_EPS; it averages v·i and v as MPPT_PO does, and its
state has MPPT_PO's layout, with dir holding s. [DEDUCED (unsafe), log row 43] -/
def blkMpptInc (b : BlkIn) : BlkOut :=
  let pw := fmul (b.x 0) (b.x 1)
  if b.frozen then ⟨[b.s 0, pw, b.s 1], mpptFrozen b, 0, false⟩
  else
    let a := mpptAdd b pw
    if b.pn 4 ≤ a.2.2 then
      let n := fOf (a.2.2 : Rat)
      let p := fdiv a.1 n
      let vm := fdiv a.2.1 n
      let d := mpptIncDir b p vm
      let v := fclampSat (fadd (b.s 0) (fmul d (b.p 3))) (b.p 1) (b.p 2)
      ⟨[v.1, pw, d], [v.1, d, p, vm, 0#32, 0#32, 0#32, b.s 7], if v.2 then 64 else 0, false⟩
    else ⟨[b.s 0, pw, b.s 1], [b.s 0, b.s 1, b.s 2, b.s 3, a.1, a.2.1, BitVec.ofNat 32 a.2.2, b.s 7], 0, false⟩

/-! ### Panel-stage modulators (R257 to R260) -/

/-- x mod P into [0, P). -/
def fmodP (x p : Word) : Word := fmod x 0#32 p

/-- MOD_PSFB (R258). -/
def blkPsfb (b : BlkIn) : BlkOut :=
  let p := b.xOr 1 (b.p 0)
  let u := fclampSat (b.x 0) (b.p 2) (b.p 3)
  let h := fdiv p f2
  .of [p, 0#32, h, fmodP (b.p 1) p, 0#32, h, fmodP (fsub (b.p 1) (fmul u.1 h)) p] u.2

/-- A number rounded to whole ticks, halves up; one that is not finite stays so (R201). -/
def fTicks (x : Word) : Word :=
  match fval x with
  | .fin _ v => fOf ((v + 1/2).floor : Rat)
  | _ => x

/-- MOD_SRC (R259): F_MIN, F_MAX, BASE_PHASE. -/
def blkSrc (b : BlkIn) : BlkOut :=
  let u := fclampSat (b.x 0) 0#32 f1
  let f := fsub (b.p 1) (fmul u.1 (fsub (b.p 1) (b.p 0)))
  let p := fTicks (fdiv (fOf 800000000) f)
  let h := fdiv p f2
  .of [p, 0#32, h, fmodP (b.p 2) p, 0#32, h, fmodP (fsub (b.p 2) h) p] u.2

/-- MOD_BOOST2 (R260): PERIOD, BASE_PHASE, D_MAX. -/
def blkBoost (b : BlkIn) : BlkOut :=
  let p := b.xOr 1 (b.p 0)
  let d := fclampSat (b.x 0) 0#32 (b.p 2)
  let a := fmul d.1 p
  .of [p, a, p, fmodP (b.p 1) p, a, p, fmodP (fsub (b.p 1) (fdiv p f2)) p] d.2

/-! ### Profile generator (R261) -/

/-- The state of PROFILE after an execution that is not frozen: p, v, a, and SAT, which a limit on a or v that acts sets (Table
BLK-2). [DEDUCED (unsafe), log row 110] -/
def profileStep (b : BlkIn) (p v a : Word) : Word × Word × Word × Bool :=
  let r := b.x 0
  let vmax := b.p 0
  let amax := b.p 1
  let jt := fmul (b.p 2) b.ts
  let e := fsub r p
  if fle (fabs e) (b.p 3) && fle (fabs v) (fmul jt b.ts) then (r, 0#32, 0#32, false)
  else
    let room := fmax (fsub (fabs e) (fmul (fabs v) b.ts)) 0#32
    let vd := fmul (fsgn e) (fmin vmax (fsqrt (fmul (fmul f2 amax) room)))
    let ad := fclampSat (fdiv (fsub vd v) b.ts) (fneg amax) amax
    let da := fclampSat (fsub ad.1 a) (fneg jt) jt
    let a := fadd a da.1
    let vn := fclampSat (fadd v (fmul a b.ts)) (fneg vmax) vmax
    let v := vn.1
    let pn := fadd p (fmul v b.ts)
    let sat := ad.2 || da.2 || vn.2
    if flt (fmul (fsub pn r) (fsub p r)) 0#32 then (r, 0#32, 0#32, sat) else (pn, v, a, sat)

/-- PROFILE (R261). -/
def blkProfile (b : BlkIn) : BlkOut :=
  let p0 := if b.first && b.pn 4 == 1 then b.x 0 else b.s 0
  let t := if b.frozen then (p0, b.s 1, b.s 2, false) else profileStep b p0 (b.s 1) (b.s 2)
  ⟨[t.1, t.2.1, t.2.2.1, fBool (feq t.1 (b.x 0) && feq t.2.1 0#32)], [t.1, t.2.1, t.2.2.1], if t.2.2.2 then 64 else 0, false⟩

/-! ### Plausibility observer (R262 to R265) -/

/-- A row of a matrix times a vector: entries from word `at`, `n` columns, summed left to right. -/
def rowMul (m : Nat → Word) (v : Nat → Word) (n : Nat) : Word :=
  (List.range (n - 1)).foldl (fun a k => fadd a (fmul (m (k + 1)) (v (k + 1)))) (fmul (m 0) (v 0))

/-- The failures in the window. -/
def popCount (n k : Nat) : Nat := (maskIdx k n).length

/-- An entry of Ad or Bd: d + (m - d)·ts/TS_NOM, with d the entry of the identity. -/
def obsEntry (b : BlkIn) (d m : Word) : Word := fadd d (fdiv (fmul (fsub m d) b.ts) (b.p 7))

/-- The residuals before the update (R263). -/
def obsRes (b : BlkIn) : List Word :=
  (List.range 2).map fun j =>
    if j < b.pn 2 then fsub (b.x (2 + j)) (rowMul (fun k => b.p (32 + 4 * j + k)) b.s (b.pn 0)) else 0#32

/-- The estimate after the update, with the correction L·r where the execution is evaluated (R263). -/
def obsState (b : BlkIn) (eval : Bool) : List Word :=
  let r := obsRes b
  (List.range 4).map fun i =>
    if i < b.pn 0 then
      let ax := rowMul (fun k => obsEntry b (fBool (i == k)) (b.p (8 + 4 * i + k))) b.s (b.pn 0)
      let bu := rowMul (fun k => obsEntry b 0#32 (b.p (24 + 2 * i + k))) b.x (b.pn 1)
      let x := fadd ax bu
      if eval then fadd x (rowMul (fun k => b.p (40 + 2 * i + k)) (fun k => r.getD k 0#32) (b.pn 2)) else x
    else b.s i

/-- OBSERVER (R263 to R265): state x̂[0..3], window, run, warm, plaus. -/
def blkObserver (b : BlkIn) : BlkOut :=
  let r := obsRes b
  let k := b.pn 3
  let qy := (List.range (b.pn 2)).foldl (fun q j => q ||| b.qOf (2 + j)) 0
  let warm := (b.s 6).toNat
  let out := fun (x : List Word) (win : Nat) (pl : Bool) => x ++ r ++ [fOf ((popCount win k : Nat) : Rat), fBool pl]
  if b.frozen then ⟨out (b.st.take 4) (b.s 4).toNat ((b.s 7).toNat == 1), b.st, 0, false⟩
  else
    let eval := qy &&& 0x1B == 0 && b.pn 5 ≤ warm && !(b.held && b.pn 6 == 1)
    let x := obsState b eval
    let run := if eval then 0 else min ((b.s 5).toNat + 1) (2 ^ 32 - 1)
    let fail := (List.range (b.pn 2)).any fun j => flt (b.p (52 + j)) (fabs (r.getD j 0#32))
    let push := fun (f : Bool) => ((b.s 4).toNat * 2 + b2n f) % 2 ^ k
    let win := if eval then push fail else if k < run then push true else (b.s 4).toNat
    let was := (b.s 7).toNat == 1
    let now := b.pn 4 ≤ popCount win k
    let warm := if warm < b.pn 5 then warm + 1 else warm
    ⟨out x win now, x ++ [BitVec.ofNat 32 win, BitVec.ofNat 32 run, BitVec.ofNat 32 warm, BitVec.ofNat 32 (b2n now)], 0,
     now && !was⟩

/-- QUAL_GATE (R239): MASK, MAX_SUB, INIT; state last good value and count. -/
def blkGate (b : BlkIn) : BlkOut :=
  let n := (b.s 1).toNat
  if b.qAll &&& b.pn 0 ≠ 0 ∧ n < b.pn 1 then
    let m := if b.frozen then n else n + 1
    ⟨[b.s 0, fOf (m : Rat)], [b.s 0, BitVec.ofNat 32 m], 128, false⟩
  else if b.frozen then ⟨[b.x 0, fOf (n : Rat)], b.st, 0, false⟩
  else ⟨[b.x 0, 0#32], [b.x 0, 0#32], 0, false⟩

/-! ### Dispatch, initial states, state words -/

/-- Runs a block that reads only its inputs, parameters and state. [DESIGN CHOICE (safe), log row 7; DEDUCED (unsafe), log row 42] -/
def blkRun (ty : Nat) (b : BlkIn) : BlkOut :=
  match ty with
  | 0x0003 => .of [b.p 0] false
  | 0x0008 => blkGate b
  | 0x0101 => blkSum b
  | 0x0102 => .of [fmul (fmul (b.p 0) (b.x 0)) (b.x 1)] false
  | 0x0103 => blkDiv b
  | 0x0104 => blkMath b
  | 0x0105 => blkLut b
  | 0x0201 => blkLimit b
  | 0x0202 => blkRate b
  | 0x0203 => .of [if fle 0x3F000000#32 (b.x 0) then b.x 1 else b.x 2] false
  | 0x0204 => blkHyst b
  | 0x0301 => blkLpf b
  | 0x0302 => blkBiquad b
  | 0x0303 => blkMavg b
  | 0x0304 => blkDelay b
  | 0x0401 => blkPi b
  | 0x0402 => blkPr b
  | 0x0403 => blkLeadLag b
  | 0x0404 => blkInteg b
  | 0x0501 => blkClarke b
  | 0x0502 => blkInvClarke b
  | 0x0503 => blkPark b
  | 0x0504 => blkInvPark b
  | 0x0601 => blkSogi b
  | 0x0602 => blkPhase b
  | 0x0701 => blkMpptPo b
  | 0x0702 => blkMpptInc b
  | 0x0801 => blkPsfb b
  | 0x0802 => blkSrc b
  | 0x0803 => blkBoost b
  | 0x0901 => blkProfile b
  | 0x0902 => blkObserver b
  | _ => .of [] false

/-- The initial state of a block (R228). -/
def blkInit (ty : Nat) (par : List Word) : List Word :=
  let p := fun k => par.getD k 0#32
  match ty with
  | 0x0008 => [p 2, 0#32]
  | 0x0202 => [p 2]
  | 0x0204 => [p 2]
  | 0x0301 => [p 1]
  | 0x0303 => List.replicate 64 (p 1) ++ [fmul (fOf (((p 0).toNat : Nat) : Rat)) (p 1), 0#32]
  | 0x0304 => List.replicate 64 (p 1) ++ [0#32]
  | 0x0401 => [p 5]
  | 0x0403 => [if feq (p 0) 0#32 then 0#32 else fdiv (p 3) (p 0), p 3]
  | 0x0404 => [p 3]
  | 0x0601 => [0#32, 0#32, p 2]
  | 0x0602 => [p 0]
  | 0x0701 => [p 0, f1, 0#32, 0#32, 0#32, 0#32, 0#32, p 4]
  | 0x0702 => [p 0, 0#32, 0#32, 0#32, 0#32, 0#32, 0#32, 0#32]
  | 0x0901 => [if (p 4).toNat = 0 then p 5 else 0#32, 0#32, 0#32]
  | 0x0902 => [p 48, p 49, p 50, p 51, 0#32, 0#32, 0#32, 0#32]
  | ty => List.replicate (blkState ty / 4) 0#32

/-- A state word holds a binary32 value, to which R201 applies (R229); the others are integers. -/
def blkFloatWord (ty k : Nat) : Bool :=
  match ty with
  | 0x0001 => false
  | 0x0005 => false
  | 0x0008 => k == 0
  | 0x0303 => k < 65
  | 0x0304 => k < 64
  | 0x0701 => k != 6
  | 0x0702 => k != 6
  | 0x0902 => k < 4
  | _ => true

/-- The worst-case cost of a node (R230, R241; Table BLK-3, Table BLK-5). -/
def blkCost (ty : Nat) (par : List Word) : Nat :=
  let p := fun k => (par.getD k 0#32).toNat
  match ty with
  | 0x0001 => if p 1 = 0 then 6 else 16
  | 0x0101 => 2 + 2 * p 0
  | 0x0104 => [2, 12, 12, 12, 22, 10, 16, 2, 2].getD (p 0) 0
  | 0x0303 => 8 + p 0
  | 0x0402 => 24 + 18 * popCount (p 0) 13
  | 0x0902 => 48 + 2 * p 0 * (p 0 + p 1 + 2 * p 2)
  | ty => match blkRow ty with | some r => r.cost | none => 0

end Sys2Proof.Machine
end

