-- ==== Sys2Proof/Machine/LoopOps.lean ====
section
/-!
DEFINITION. The loop pairs' shared operations: the TCM window, the graph, one execution, the commit, the arrival of a
group record, the fence of a pair (R184 to R216).
-/

namespace Sys2Proof.Machine

/-- Changes a pair's hidden state. -/
def State.modLoop (s : State) (p : Nat) (f : LoopPair → LoopPair) : State := { s with loop := s.loop.modify p f }

/-- A pair's STATE (Table LOOP-7): 0 OFF, 1 IDLE, 2 WAITING, 3 RUNNING, 4 HALTED, 5 DEBUG. -/
def State.lpState (s : State) (p : Nat) : Nat := s.get (F.LP_STATUS_STATE p)

/-- A word of a pair's TCM window. -/
def State.tcm (s : State) (p off : Nat) : Word := s.rdW (tcmBase p + off)

/-! ### The graph (Table IMG-8) -/

/-- A node of a pair's graph. -/
structure GNode where
  idx : Nat
  ty : Nat
  flags : Nat
  par : List Word
  order : Nat
  st : Nat
  deriving DecidableEq, Repr, Inhabited

/-- An edge of a pair's graph. -/
structure GEdge where
  sn : Nat
  sp : Nat
  dn : Nat
  dp : Nat
  deriving DecidableEq, Repr, Inhabited

/-- A run of words of a pair's TCM window. -/
def State.tcmWords (s : State) (p off n : Nat) : List Word := (List.range n).map fun k => s.tcm p (off + 4 * k)

/-- The nodes of a pair's graph, as the TCM window holds it, with the offset of each node's state (R223). -/
def State.graphNodes (s : State) (p : Nat) : List GNode :=
  ((List.range (bitsOf (s.tcm p 0).toNat 0 16)).foldl (fun (acc : List GNode × Nat) i =>
    let o := 0x10 + 0x10 * i
    let w := (s.tcm p o).toNat
    let ty := bitsOf w 0 16
    let l := (s.tcm p (o + 8)).toNat
    (acc.1 ++ [{ idx := i, ty := ty, flags := bitsOf w 16 16,
                 par := s.tcmWords p (s.tcm p (o + 4)).toNat (bitsOf l 0 16 / 4), order := bitsOf l 16 16, st := acc.2 }],
     acc.2 + blkState ty)) ([], 0)).1

/-- The edges of a pair's graph. -/
def State.graphEdges (s : State) (p : Nat) : List GEdge :=
  let h := (s.tcm p 0).toNat
  (List.range (bitsOf h 16 16)).map fun j =>
    let w := (s.tcm p (0x10 + 0x10 * bitsOf h 0 16 + 8 * j)).toNat
    { sn := bitsOf w 0 8, sp := bitsOf w 8 8, dn := bitsOf w 16 8, dp := bitsOf w 24 8 }

/-- Inserts a node in ascending ORDER. -/
def insertNode (n : GNode) : List GNode → List GNode
  | [] => [n]
  | m :: t => if n.order < m.order then n :: m :: t else m :: insertNode n t

/-- The nodes in ascending ORDER (R219). -/
def sortNodes (ns : List GNode) : List GNode := ns.foldl (fun acc n => insertNode n acc) []

/-! ### Fences and shares (R204 to R206) -/

/-- FENCE_UNITS of a pair: the units of its COMMIT_MASK that are fenced. -/
def State.fenceUnits (s : State) (p : Nat) : Nat :=
  maskOf 14 fun u => bitOf (s.get (F.LP_CFG_COMMIT_MASK p)) u && s.unitFenced u

/-- HELD of a pair (R205, R293): a unit of its mask had a switch held at a tick of the previous period. -/
def State.pairHeld (s : State) (p : Nat) : Bool :=
  (List.range 14).any fun u => bitOf (s.get (F.LP_CFG_COMMIT_MASK p)) u && s.flag (F.PWM_STATUS_HELD_PREV u)

/-- Input x is fenced (R206): a half-bridge of it, or the loop pair whose mask holds its first unit. -/
def State.inputFenced (s : State) (x : Nat) : Bool :=
  s.unitFenced (2 * x) || s.unitFenced (2 * x + 1) ||
  (List.range 6).any fun p => s.flag (F.LP_STATUS_PAIR_FENCED p) &&
    (s.get (F.LP_CFG_COMMIT_MASK p) &&& (3 * 2 ^ (2 * x)) != 0)

/-- INPUT_SHARE(x) of the image's TOPOLOGY section (percent; Table IMG-3). -/
def State.inputShare (s : State) (x : Nat) : Nat := bU8 (s.sec Sec.topology 0) (0x10 + x)

/-- SHARE_AVAIL in percent (R206). -/
def State.sharePct (s : State) : Nat :=
  100 - ((List.range 4).foldl (fun n x => n + if s.inputFenced x then s.inputShare x else 0) 0)

/-! ### The snapshot (R192) -/

/-- Where an execution's copy of a channel's line-cycle record lies in the work area (log row 116). [DESIGN CHOICE (unsafe), log row 116] -/
def workCycle (ch : Nat) : Nat := 0xA000 + 0x10 * ch

/-- Where its copy of the channel's window record lies. [DESIGN CHOICE (unsafe), log row 116] -/
def workWindow (ch : Nat) : Nat := 0xA200 + 8 * ch

/-- The records of the delivery area whose channel's DEST names the pair are copied into the work area (R192, step 1). -/
def State.snapshot (s : State) (p : Nat) : State :=
  s.forEach ((List.range 26).filter fun ch => bitOf (s.get (F.CH_CFG_DEST ch)) p) fun s ch =>
    (s.wrBytes (tcmBase p + workCycle ch) (s.rdBytes (tcmBase p + 0xFC00 + 0x10 * ch) 16)).wrBytes
      (tcmBase p + workWindow ch) (s.rdBytes (tcmBase p + 0xFE00 + 8 * ch) 8)

/-! ### One execution (R192, R193) -/

/-- What an execution sees besides its nodes' inputs: the state at its start, with the snapshot of R192 in the work area. -/
structure ExecCtx where
  s : State
  p : Nat
  rcd : GRec
  first : Bool
  prevAb : Bool
  edges : List GEdge
  orders : SMap Nat

/-- The time step ts (R226). [DEDUCED (unsafe), log row 42] -/
def ExecCtx.ts (c : ExecCtx) : Word := fOf ((c.rcd.pc : Rat) / 800000000)

/-- SENSE_IN on a window record (R202, R233). -/
def ExecCtx.senseWindow (c : ExecCtx) (ch : Nat) (scale offs : Word) : List Word × Nat :=
  let w := (c.s.tcm c.p (workWindow ch)).toNat
  let f := (c.s.tcm c.p (workWindow ch + 4)).toNat
  let b := if c.s.flag (F.CH_CFG_ALIGN ch) then bitsOf w 16 16 else bitsOf w 0 16
  let n : Int := if single ch then (b : Int) else signedOf 16 b
  let own := c.s.chWg ch == some (c.s.get (F.LP_CFG_TRIGGER_WG c.p))
  let len := if own then c.rcd.len
    else match c.s.chWg ch with
      | some g => bitsOf (c.s.tcm c.p (0xFF00 + 0x10 * g + 8)).toNat 0 16
      | none => 0
  let stale := !own || bitsOf f 16 16 != c.rcd.seq
  ([fadd (fmul (fOf (n : Rat)) scale) offs, fOf (len : Rat)], bitsOf f 0 4 + if stale then 16 else 0)

/-- SENSE_IN on a line-cycle record (R233): the values, the quality, CYC_SEQ. -/
def ExecCtx.senseCycle (c : ExecCtx) (ch : Nat) (scale offs st : Word) : List Word × Nat × Word :=
  let a := workCycle ch
  let f := (c.s.tcm c.p (a + 12)).toNat
  let len := fOf ((c.s.tcm c.p (a + 4)).toNat : Rat)
  let k := c.s.calFactors ch
  let d := fmul (fdiv (fOf ((c.s.tcm c.p a).toInt : Rat)) len) (fOf 40960)
  let x := fadd (fmul (fmul (fsub d (fOf k.1)) (fOf k.2)) scale) offs
  let seq := w32 (bitsOf f 16 16)
  ([x, len], b2n (bitOf f 0) + 2 * b2n (bitOf f 1) + 8 * b2n (bitOf f 2) + (if seq == st then 16 else 0), seq)

/-- SENSE_IN (R233); frozen, it keeps its state (R227). -/
def ExecCtx.sense (c : ExecCtx) (b : BlkIn) : BlkOut :=
  let ch := b.pn 0
  if !bitOf (c.s.get (F.CH_CFG_DEST ch)) c.p then ⟨[0#32, 0#32], b.st, 16, false⟩
  else if b.pn 1 = 0 then
    let r := c.senseWindow ch (b.p 2) (b.p 3)
    ⟨r.1, b.st, r.2, false⟩
  else
    let r := c.senseCycle ch (b.p 2) (b.p 3) (b.s 0)
    ⟨r.1, if b.frozen then b.st else [r.2.2], r.2.1, false⟩

/-- SETPOINT (R234): the slot, with R201 applied, clamped; NUMERIC is judged by the caller on the slot. -/
def ExecCtx.setpoint (c : ExecCtx) (b : BlkIn) : BlkOut :=
  let r := fclampSat (fFix (c.s.tcm c.p (0x4000 + 4 * b.pn 0))).1 (b.p 1) (b.p 2)
  .of [r.1] r.2

/-- The number of an unsigned integer in binary32. -/
def fNat (n : Nat) : Word := fOf (n : Rat)

/-- SHARE_AVAIL as a number (R206). -/
def State.shareW (s : State) : Word := fOf ((s.sharePct : Rat) / 100)

/-- STATUS_IN (R235). -/
def ExecCtx.status (c : ExecCtx) : BlkOut :=
  let fu := c.s.fenceUnits c.p
  .of [fBool (fu != 0), fBool (c.s.pairHeld c.p), c.s.shareW, fBool c.first, fBool c.prevAb, c.ts, fNat c.rcd.pc, fNat fu] false

/-- A word of another pair's loan out; 0.0 while that pair's domain is off, and from the pair itself (R192, R236). -/
def State.loanWord (s : State) (q w : Nat) : Word := if s.pdOn (pairPd q) then s.tcm q (0xF000 + 4 * w) else 0#32

/-- LOAN_IN (R236); frozen, it keeps its state (R227). -/
def ExecCtx.loanIn (c : ExecCtx) (b : BlkIn) : BlkOut :=
  let q := b.pn 0
  let seq := c.s.loanWord q 63
  ⟨[c.s.loanWord q (b.pn 1), fBool (c.first || seq != b.s 0)], if b.frozen then b.st else [seq], if c.s.pdOn (pairPd q) then 0 else 16, false⟩

/-- Rounds to a whole number of units of 1/k, ties upward, limited to 2^31 ticks below and above (R203); whether it was
limited. -/
def pwmConvert (k : Nat) (w : Word) : Nat × Bool :=
  let x := fRat w
  if x < 0 then (0, true)
  else if 2147483648 < x then (k * 2147483648, true)
  else ((x * (k : Rat) + 1/2).floor.toNat, false)

/-- PWM_OUT (R203, R238): the output and the value it commits. -/
def pwmOut (b : BlkIn) : BlkOut × Option PwmVal :=
  let m := b.pn 1
  let blocked := b.qAll &&& (b.pn 2 % 32) != 0
  let cv := fun (i k : Nat) => if bitOf m i then some (pwmConvert k (b.x i)) else none
  let vs := [cv 0 1, cv 1 16, cv 2 16, cv 3 1]
  let lim := vs.any fun v => match v with | some r => r.2 | none => false
  let get := fun i => (vs.getD i none).map (·.1)
  (⟨[fBool blocked], [], if lim then 32 else 0, false⟩,
   if blocked then none
   else some { unit := b.pn 0, period := get 0, cmpa := get 1, cmpb := get 2, phase := get 3 })

/-- The running result of an execution: the values of the ports so far, by node; the new states; what the commit carries;
the first NUMERIC event. -/
structure ExecAcc where
  vals : SMap (List Val)
  states : List (Nat × List Word)
  loans : List (Nat × Word)
  pwm : List PwmVal
  plaus : Bool
  numeric : Bool

/-- The value on a node's input port (R218, R220). -/
def ExecCtx.input (c : ExecCtx) (acc : ExecAcc) (n : GNode) (port : Nat) : Option Val :=
  match c.edges.find? (fun e => e.dn == n.idx && e.dp == port) with
  | none => none
  | some e =>
    if c.orders.get e.sn < n.order then some ((acc.vals.get e.sn).getD e.sp ⟨0#32, 0⟩)
    else if c.first then some ⟨0#32, 0⟩
    else
      let a := 0x8000 + 0x80 * e.sn + 4 * e.sp
      some ⟨c.s.tcm c.p a, bitsOf (c.s.tcm c.p (a + 0x20)).toNat 0 8⟩

/-- What a node sees, frozen or not (R227). -/
def ExecCtx.blkIn (c : ExecCtx) (acc : ExecAcc) (n : GNode) : BlkIn :=
  let nin := match blkRow n.ty with | some r => r.ins | none => 0
  let ins := (List.range nin).map (c.input acc n)
  let q := ins.foldl (fun q v => q ||| (match v with | some v => v.q | none => 0)) 0
  let held := c.s.pairHeld c.p
  let qf := q &&& bitsOf n.flags 8 5 != 0
  let fz := match blkRow n.ty with | some r => r.freezes && c.s.fenceUnits c.p != 0 | none => false
  { par := n.par, ins := ins, st := c.s.tcmWords c.p (0x4400 + n.st) (blkState n.ty / 4),
    frozen := fz || (bitOf n.flags 0 && held) || qf, qfrozen := qf, first := c.first, held := held, ts := c.ts,
    nth64 := ((c.s.loop.get c.p).commits + 1) % 64 == 0 }

/-- Runs one node (R193, R201, R225, R229). -/
def ExecCtx.runNode (c : ExecCtx) (acc : ExecAcc) (n : GNode) : ExecAcc :=
  let b := c.blkIn acc n
  let pw := if n.ty = 0x0007 then some (pwmOut b) else none
  let r : BlkOut :=
    match n.ty with
    | 0x0001 => c.sense b
    | 0x0002 => c.setpoint b
    | 0x0004 => c.status
    | 0x0005 => c.loanIn b
    | 0x0006 => .of [] false
    | 0x0007 => (pwmOut b).1
    | ty => blkRun ty b
  let outs := r.outs.map fFix
  let st := (List.range r.st.length).map fun k =>
    let w := r.st.getD k 0#32
    if blkFloatWord n.ty k then fFix w else (w, false)
  let slotNum := n.ty == 0x0002 && (fFix (c.s.tcm c.p (0x4000 + 4 * b.pn 0))).2
  { vals := acc.vals.set n.idx (outs.map fun o => ⟨o.1, b.qAll ||| r.q⟩),
    states := acc.states ++ [(n.st, st.map (·.1))],
    loans := if n.ty = 0x0006 then acc.loans ++ [(b.pn 0, b.x 0)] else acc.loans,
    pwm := match pw with | some (_, some v) => acc.pwm ++ [v] | _ => acc.pwm,
    plaus := acc.plaus || r.plaus,
    numeric := acc.numeric || slotNum || outs.any (·.2) || st.any (·.2) }

/-- Runs a pair's graph on a group record (R193): what the commit makes current. -/
def State.runGraph (s : State) (p : Nat) (r : GRec) (first prevAb : Bool) (seq : Nat) : ExecRes :=
  let ns := s.graphNodes p
  let c : ExecCtx := { s := s, p := p, rcd := r, first := first, prevAb := prevAb, edges := s.graphEdges p,
                       orders := ns.foldl (fun m n => SMap.set m n.idx n.order) [] }
  let a := (sortNodes ns).foldl c.runNode ⟨[], [], [], [], false, false⟩
  { work := ns.flatMap fun n => match a.states.find? (fun x => x.1 == n.st && x.2.length * 4 == blkState n.ty) with
      | some x => x.2
      | none => [],
    probe := (List.range ns.length).flatMap fun i =>
      let vs := a.vals.get i
      ((List.range 8).map fun j => (vs.getD j ⟨0#32, 0⟩).w) ++ ((List.range 8).map fun j => w32 (vs.getD j ⟨0#32, 0⟩).q),
    loan := (List.range 63).map (fun k => match a.loans.find? (fun x => x.1 == k) with | some x => x.2 | none => 0#32) ++
      [w32 seq],
    pwm := a.pwm, plaus := a.plaus, numeric := a.numeric }

/-- The initial state of a node with R201 applied, and whether a value was replaced (R228, R229). -/
def GNode.init (n : GNode) : List (Word × Bool) :=
  (blkInit n.ty n.par).zipIdx.map fun w => if blkFloatWord n.ty w.2 then fFix w.1 else (w.1, false)

/-- Loads the committed state of every node with its initial values (R211, R228); one that is not finite is replaced, and NUMERIC
sets (R229). The raise of R201 belongs to an execution. [DEDUCED (unsafe), log row 44] -/
def State.graphInit (s : State) (p : Nat) : State :=
  let ns := s.graphNodes p
  let s := if ns.any fun n => n.init.any (·.2) then s.set1 (F.LP_STICKY_NUMERIC p) else s
  ns.foldl (fun s n => s.wrBytes (tcmBase p + 0x4400 + n.st) (n.init.flatMap fun w => leBytes 4 w.1.toNat)) s

/-! ### Commit (R193, R196, R203, R208) -/

/-- The shadow values of a unit's commit (R203): compares in 1/16 tick split into whole ticks and fraction. -/
def PwmVal.held (v : PwmVal) : List HeldW :=
  let one := fun (f : Fld) (n : Nat) => (⟨f.addr, f.lo, f.len, n⟩ : HeldW)
  let cmp := fun (f g : Fld) (n : Nat) => [one f (n / 16), one g (n % 16)]
  (match v.period with | some n => [one (F.PWM_PERIOD v.unit) n] | none => []) ++
  (match v.cmpa with | some n => cmp (F.PWM_CMPA v.unit) (F.PWM_FRAC_CMPA_FRAC v.unit) n | none => []) ++
  (match v.cmpb with | some n => cmp (F.PWM_CMPB v.unit) (F.PWM_FRAC_CMPB_FRAC v.unit) n | none => []) ++
  (match v.phase with | some n => [one (F.PWM_PHASE v.unit) n] | none => [])

/-- The values one commit carries for a unit, if any. -/
def unitVals (vs : List PwmVal) (u : Nat) : List HeldW :=
  match vs.find? (fun v => v.unit == u) with
  | some v => v.held
  | none => []

/-- The words a commit writes to the pair's TCM: state, probe and loan out (R193, R224). -/
def State.commitTcm (s : State) (p : Nat) (r : ExecRes) : State :=
  let le := fun (ws : List Word) => ws.flatMap fun w => leBytes 4 w.toNat
  let s := s.wrBytes (tcmBase p + 0x4400) (le r.work)
  let s := s.forEach (List.range (r.probe.length / 16)) fun s i =>
    s.wrBytes (tcmBase p + 0x8000 + 0x80 * i) (le ((r.probe.drop (16 * i)).take 16))
  s.wrBytes (tcmBase p + 0xF000) (le r.loan)

/-- The commit reaches every unit of COMMIT_MASK (R196, R279). -/
def State.commitUnits (s : State) (p target : Nat) (vs : List PwmVal) : State :=
  s.forEach (maskIdx 14 (s.get (F.LP_CFG_COMMIT_MASK p))) fun s u => s.loopCommitUnit u target (unitVals vs u)

/-- The first period boundary of the unit at or after a tick; the tick itself where the unit does not count (R195). -/
def State.boundaryFrom (s : State) (u t : Nat) : Nat :=
  let q := s.pwm.get u
  let per := s.get (F.PWM_PERIOD u)
  if q.counting && s.pwmState u != 2 && per != 0 then
    if t ≤ q.start then q.start
    else if t ≤ q.next then q.next
    else q.next + (t - q.next + per - 1) / per * per
  else t

/-! ### Set-points (R188, R190) -/

/-- A word of the set-point area as a write of a part of it finds it: what waits in its shadow, or the value in force. -/
def State.slotHeld (s : State) (a : Nat) : Word :=
  if s.shadowed ⟨a, 0, 32⟩ then w32 (s.shadow.get a).val else s.rdW a

/-- The set-points that wait in their shadows take effect: an execution of the pair starts (R190). -/
def State.slotTransfer (s : State) (p : Nat) : State :=
  let lo := tcmBase p + 0x4000
  (s.shadow.filter fun e => lo ≤ e.1 && e.1 < lo + 0x400).foldl (fun (s : State) (e : Nat × Shadow) =>
    (s.wrW e.1 (w32 e.2.val)).dropShadow e.1) s

/-! ### Arrival of a group record (R191, R194) -/

/-- A trigger group record reaches a pair that waits or runs. -/
def State.groupRecord (s : State) (p : Nat) (r : GRec) : State :=
  let l := s.loop.get p
  let st := s.lpState p
  if !(st = 2 ∨ st = 3 ∨ st = 5) ∨ !s.flag (F.LP_CTRL_EN p) then s
  else
    let s := if l.rcd.isSome then s.set1 (F.LP_STICKY_REC_DROP p) else s
    (s.put (F.LP_STATUS_HELD_REC p) (b2n l.running)).modLoop p fun l => { l with rcd := some r }

/-! ### Halts and fences (R186, R187, R207) -/

/-- A pair whose domain is on halts at once, with no further commit (R186, R187, R207). -/
def State.pairHalt (s : State) (p : Nat) : State :=
  if s.lpState p = 0 then s
  else ((s.put (F.LP_STATUS_STATE p) 4).put (F.LP_STATUS_HELD_REC p) 0).modLoop p fun l => { l with rcd := none, running := false }

end Sys2Proof.Machine
end

