-- ==== Sys2Proof/Machine/WcmpOps.lean ====
section
/-!
DEFINITION. The window comparators' shared operations (R164 to R182): readiness, trips, clears, TRIP_PENDING, and the
self-test sequence. Input levels are in threshold code units (R166), as rationals.
-/

namespace Sys2Proof.Machine

/-- Changes a comparator's hidden state. -/
def State.modWc (s : State) (c : Nat) (f : WcState → WcState) : State :=
  { s with wcmp := { s.wcmp with wc := s.wcmp.wc.modify c f } }

/-- A comparator sits on the grid side (R164). -/
def wcGrid (c : Nat) : Bool := !(c < 14)

/-- The block that owns a comparator's CFG_REJECT. -/
def wcBlk (c : Nat) : Blk := if wcGrid c then .wcmpg else .wcmpp

/-- HYST in LSB (R168). -/
def State.wcHyst (s : State) (c : Nat) : Nat :=
  let h := s.get (F.WC_CFG_HYST c)
  if h = 0 then 0 else 4 * 2 ^ h

/-- The step of Table WCMP-3 a comparator under test stands in: 0 and 1 tied low, 2 and 3 tied high, 4 and 5 swapped; none
outside a test. -/
def State.wcStep (s : State) (c : Nat) : Option Nat := if s.wcState c = 3 then some (s.wcmp.wc.get c).testStep else none

/-- A comparator is tied to a test level: its test thresholds are LO 384 and HI 640 (Table WCMP-3). -/
def State.wcTied (s : State) (c : Nat) : Bool :=
  match s.wcStep c with
  | some k => decide (k < 4)
  | none => false

/-- The low threshold in force. -/
def State.wcLo (s : State) (c : Nat) : Rat := if s.wcTied c then 384 else (s.get (F.WC_THR_LO c) : Rat)

/-- The high threshold in force. -/
def State.wcHi (s : State) (c : Nat) : Rat := if s.wcTied c then 640 else (s.get (F.WC_THR_HI c) : Rat)

/-- A comparison finds a TRIPPED comparator ready: inside the window by more than the hysteresis of the side it tripped
on (R168). [DEDUCED (unsafe), log row 40] -/
def State.wcReady (s : State) (c : Nat) (x : Rat) : Bool :=
  if s.flag (F.WC_STATUS_SIDE c) then decide (x < s.wcHi c - s.wcHyst c) && decide (s.wcLo c ≤ x)
  else decide (s.wcLo c + s.wcHyst c < x) && decide (x ≤ s.wcHi c)

/-- A comparison finds the input inside the window by more than the hysteresis of either threshold (R178). [DEDUCED (unsafe), log row 40] -/
def State.wcInside (s : State) (c : Nat) (x : Rat) : Bool :=
  decide (x < s.wcHi c - s.wcHyst c) && decide (s.wcLo c + s.wcHyst c < x)

/-- What the relay sequencer notes of WC22's live outputs (R392, R397). -/
def State.vkxNote (s : State) (hi lo : Bool) : State :=
  let change := hi != s.flag (F.WC_STATUS_OUT_HI 22) || lo != s.flag (F.WC_STATUS_OUT_LO 22)
  { s with relay := { s.relay with
      vkxHi := s.relay.vkxHi || hi, vkxLo := s.relay.vkxLo || lo,
      xChange := if change && s.relay.xChange.isNone then some s.mono else s.relay.xChange } }

/-- The live outputs read hi and lo (Table WCMP-7). -/
def State.wcOut (s : State) (c : Nat) (hi lo : Bool) : State :=
  let s := if c = 22 then s.vkxNote hi lo else s
  (s.put (F.WC_STATUS_OUT_HI c) (b2n hi)).put (F.WC_STATUS_OUT_LO c) (b2n lo)

/-- The live outputs at a level that the comparator is connected to. -/
def State.wcOutAt (s : State) (c : Nat) (x : Rat) : State := s.wcOut c (decide (s.wcHi c < x)) (decide (x < s.wcLo c))

/-- The level that a comparator under test is connected to, where it is known: the ties of Table WCMP-3, and with the pin inputs
swapped the mirror of the pin's level about code 512. -/
def State.wcTestLevel (s : State) (c : Nat) : Option Rat :=
  let w := s.wcmp.wc.get c
  if w.testStep < 2 then some 256 else if w.testStep < 4 then some 768 else w.input.map fun x => 1024 - x

/-- A run of passing comparisons of TRIP_PENDING: one that passes begins or continues it, one that fails ends it (R178).
HYST_HOLD reads 1 with the input inside the window and within the hysteresis (R179). -/
def State.wcPendSee (s : State) (c : Nat) (x : Rat) : State :=
  let ok := s.wcInside c x
  let out := decide (s.wcHi c < x) || decide (x < s.wcLo c)
  (s.put (F.WC_STATUS_HYST_HOLD c) (b2n (!ok && !out))).modWc c fun w =>
    { w with pendFrom := if ok then some (w.pendFrom.getD s.mono) else none }

/-- The pin of a comparator is found at a level: outside a test the live outputs follow it, in SWAP its mirror, and in TRIP_PENDING
the comparison counts (Table WCMP-7, R178, R179). -/
def State.wcSee (s : State) (c : Nat) (x : Rat) : State :=
  let s := s.modWc c fun w => { w with input := some x }
  match s.wcStep c with
  | some _ => match s.wcTestLevel c with
    | some y => s.wcOutAt c y
    | none => s
  | none =>
    let s := s.wcOutAt c x
    if s.wcState c = 2 then s.wcPendSee c x else s

/-- The holds that groups have just come under, those of a mask having been held before (R170, R172, R331). -/
def State.wcHold (s : State) (before : Nat) : State :=
  s.holdBegins (maskOf 8 fun g => s.groupHeld g && !bitOf before g)

/-- A crossing that is recorded (R170): SIDE, the tick, the count, the source, the holds. -/
def State.wcTrip (s : State) (c : Nat) (high : Bool) : State :=
  let held := s.heldGroups
  let s := (((s.put (F.WC_STATUS_STATE c) 1).put (F.WC_STATUS_SIDE c) (b2n high)).wr (R.WC_TRIP_TICK c) s.now32).incSat
    (F.WC_STATUS_TRIP_CNT c)
  ((s.modWc c fun w => { w with crossAt := some s.epoch }).wcHold held).raise (FS.WCMP_TRIP c)

/-- A crossing (R170, R179, R182): recorded while READY or TRIPPED; in TRIP_PENDING it restarts the count, as the comparison that
finds it does, and under test it is not recorded. [DEDUCED (unsafe), log row 40] -/
def State.wcCross (s : State) (c : Nat) (high : Bool) : State :=
  if s.wcState c < 2 then s.wcTrip c high else s

/-- The input crosses to a level: a crossing where the level lies beyond a threshold (R168, R170). -/
def State.wcLevel (s : State) (c : Nat) (x : Rat) : State :=
  let s := s.wcSee c x
  if s.wcHi c < x then s.wcCross c true else if x < s.wcLo c then s.wcCross c false else s

/-- TRIP_PENDING is entered (R178): the run of passing comparisons begins here, where the level last found passes or none has been
found. [DEDUCED (unsafe), log row 40] -/
def State.wcPend (s : State) (c : Nat) : State :=
  let held := s.heldGroups
  let s := (s.put (F.WC_STATUS_STATE c) 2).modWc c fun w =>
    { w with pendFrom := some s.mono, softClear := none, periodClear := none, crossAt := none }
  (match (s.wcmp.wc.get c).input with
   | some x => s.wcSee c x
   | none => s).wcHold held

/-- CLR_REFUSED of a comparator's side sets. -/
def State.clrRefused (s : State) (c : Nat) : State :=
  s.set1 (if wcGrid c then F.WCMPG_STICKY_CLR_REFUSED else F.WCMPP_STICKY_CLR_REFUSED)

/-- A crossing has been latched at or after the tick of a clear: the clear fails (R177). -/
def WcState.fails (w : WcState) (t : Nat) : Bool :=
  match w.crossAt with
  | some x => decide (t ≤ x)
  | none => false

/-- A software clear of a comparator (R174, R175). One that is still to be decided and that a crossing has failed already is
reported (R177). -/
def State.wcSoftClear (s : State) (c : Nat) : State :=
  let w := s.wcmp.wc.get c
  if s.get (F.WC_CFG_CLEAR_MODE c) = 1 ∧ (s.clearUnit c).isSome then s.clrRefused c
  else if s.wcState c = 1 then
    (if w.softClear.any w.fails then s.clrRefused c else s).modWc c fun w => { w with softClear := some s.epoch }
  else s

/-- The comparison that decides a clear (R175 to R177): it succeeds where the comparison finds the comparator ready and no crossing
has been latched since the clear's tick. A software clear that fails sets CLR_REFUSED. -/
def State.wcDecide (s : State) (c : Nat) (x : Rat) : State :=
  let w := s.wcmp.wc.get c
  let ready := s.wcReady c x
  let soft := w.softClear.any fun t => ready && !w.fails t
  let period := w.periodClear.any fun t => ready && !w.fails t
  let s := if w.softClear.isSome && !soft then s.clrRefused c else s
  let s := s.modWc c fun w => { w with softClear := none, periodClear := none }
  if soft || period then (s.put (F.WC_STATUS_STATE c) 0).noteHolds else s

/-! ### Self-test (R180 to R182) -/

/-- A comparator can be tested: its die is powered. -/
def State.wcPowered (s : State) (c : Nat) : Bool := s.pdOn (if wcGrid c then 10 else 8)

/-- The live outputs of a comparator under test at the level of its step. -/
def State.wcTestOut (s : State) (c : Nat) : State :=
  match s.wcTestLevel c with
  | some y => s.wcOutAt c y
  | none => s

/-- A comparator's test starts now, with its input tied to code 256 (Table WCMP-3). Its WC_TEST bits stand until the steps replace them (Table ARB-5). -/
def State.wcTestBegin (s : State) (c : Nat) : State :=
  (((s.put (F.WC_STATUS_STATE c) 3).put (F.WC_STATUS_HYST_HOLD c) 0).modWc c fun w =>
    { w with testStart := s.mono, testStep := 0, softClear := none, periodClear := none, crossAt := none }).wcTestOut c |>.wcHold s.heldGroups

/-- TEST_BUSY of both sides: WCMP_TEST runs (Table WCMP-5). -/
def State.wcTestBusy (s : State) (q : List Nat) : State :=
  (s.put F.WCMPP_STATUS_TEST_BUSY (b2n (!q.isEmpty))).put F.WCMPG_STATUS_TEST_BUSY (b2n (!q.isEmpty))

/-- The queue of comparators to test is set, and its first starts. -/
def State.wcTestQueue (s : State) (q : List Nat) : State :=
  let s := { (s.wcTestBusy q) with wcmp := { s.wcmp with queue := q } }
  match q with
  | [] => s
  | c :: _ => s.wcTestBegin c

/-- WCMP_TEST starts (R180): the comparators of the mask in ascending order. -/
def State.wcTestStart (s : State) : State :=
  s.wcTestQueue ((maskIdx 24 (s.rd R.WCMPP_TEST_MASK).toNat).filter fun c => s.wcPowered c)

/-- A failed step (R182). -/
def State.wcTestFail (s : State) (c : Nat) (f : Fld) : State :=
  ((((s.set1 f).put ⟨R.WCMPP_TEST_FAIL, c, 1⟩ 1).set1
    (if wcGrid c then F.WCMPG_STICKY_TEST_FAIL else F.WCMPP_STICKY_TEST_FAIL))).raiseAt FS.WCMP_TEST_FAIL c

/-- The channels whose results stand for a comparator's input (R164). -/
def wcChannels (c : Nat) : List Nat :=
  if c < 4 then [4 + c] else if c < 8 then [4 + c] else if c < 12 then [c - 8] else if c < 14 then [c + 1]
  else if c < 17 then [c + 6] else if c < 19 then [c + 6] else if c < 22 then [c - 3] else if c = 22 then [25] else [23, 24]

/-- The last results of the comparator's channels, none older than 80,000 ticks (R181). -/
def State.wcCodes (s : State) (c : Nat) : Option (List Int) :=
  (wcChannels c).mapM fun k =>
    match (s.sens.ch.get k).last with
    | some (t, v) => if s.epoch ≤ t + 80000 then some v else none
    | none => none

/-- A code in threshold code units (R166, R181): 1.25 FS to mid-span, and 1,024 steps to 2.5 V on the thermistor inputs. -/
def wcUnits (c : Nat) (codes : List Int) : Rat :=
  let n : Rat := ((codes.foldl (· + ·) 0 : Int) : Rat) / (codes.length : Nat)
  if c = 12 ∨ c = 13 then 512 + 512 * n / 32768 else 512 + 512 * n / 32768 * 4 / 5

/-- The SWAP step (R181): skipped without a recent result or within 16 LSB of a threshold; a mismatch fails. -/
def State.wcSwapCheck (s : State) (c : Nat) (hi lo : Bool) : State :=
  let s := (s.put (F.WC_TEST_SKIPPED c) 0).put (F.WC_TEST_SWAP_FAIL c) 0
  match s.wcCodes c with
  | none => s.set1 (F.WC_TEST_SKIPPED c)
  | some v =>
    let m := 1024 - wcUnits c v
    let near := fun (t : Rat) => decide (m ≤ t + 16) && decide (t ≤ m + 16)
    if near (s.wcLo c) || near (s.wcHi c) then s.set1 (F.WC_TEST_SKIPPED c)
    else if hi == decide (s.wcHi c < m) && lo == decide (m < s.wcLo c) then s
    else s.wcTestFail c (F.WC_TEST_SWAP_FAIL c)

/-- A comparator under the test has a failed step (R182). -/
def State.wcTestFailed (s : State) : Bool :=
  (maskIdx 24 s.diag.testMask).any fun c =>
    s.flag (F.WC_TEST_TIE_LO_FAIL c) || s.flag (F.WC_TEST_TIE_HI_FAIL c) || s.flag (F.WC_TEST_SWAP_FAIL c)

/-- The next comparator is tested, or the activity ends, with FAIL where a step failed (R180, R454, log row 62).
[DEDUCED (unsafe), log row 62] -/
def State.wcTestNext (s : State) : State :=
  let q := s.wcmp.queue.tail
  let s := s.wcTestQueue q
  if q.isEmpty then s.maintEnd Act.wcmpTest (if s.wcTestFailed then .fail else .ok) else s

/-- WCMP_TEST is aborted (Table ARB-5): the comparator under test enters TRIP_PENDING; the rest are not tested. -/
def State.wcTestAbort (s : State) : State :=
  match s.wcmp.queue with
  | [] => s
  | c :: _ => { ((s.wcPend c).wcTestBusy []) with wcmp := { (s.wcPend c).wcmp with queue := [] } }

end Sys2Proof.Machine
end

