-- ==== Sys2Proof/Machine/DiagOps.lean ====
section
/-!
DEFINITION. Diagnostics' shared operations: what a closed window adds to an I-V trace, a frame of arc detection, the
maintenance arbiter's request and abort (chapter 13).
-/

namespace Sys2Proof.Machine

/-! ### I-V traces (R449, R450) -/

/-- The tick at which a point of a trace starts. -/
def IvTrace.at_ (t : IvTrace) (j : Nat) : Nat := t.s0 + j * t.dwell

/-- The voltage reference of a point (R450). -/
def IvTrace.ref (t : IvTrace) (j : Nat) : Word := fOf (t.vhi - (t.vhi - t.vlo) * (j : Rat) / 511)

/-- A window of a group has closed at c: each trace whose pair it triggers takes the mean's parts, where the window lies in
the second half of the point's dwell and is clean on both channels (R450). [DESIGN CHOICE (safe), log row 64] -/
def State.ivWindow (s : State) (g c : Nat) (recs : List WinRes) : State :=
  s.forEach (List.range 4) fun s x =>
    let t := s.diag.iv.get x
    let v := recs.find? (·.ch == x)
    let i := recs.find? (·.ch == 4 + x)
    match v, i with
    | some v, some i =>
      let c := s.monoOf c
      let inside := t.at_ t.point + (t.dwell + 1) / 2 ≤ c && c < t.at_ (t.point + 1)
      let clean := fun (r : WinRes) => !bitOf r.flags 0 && !bitOf r.flags 1 && !bitOf r.flags 3
      if s.maintRuns (Act.ivTrace x) && s.get (F.LP_CFG_TRIGGER_WG t.pair) == g && inside && clean v && clean i then
        s.modIv x fun t =>
          { t with sumV := t.sumV + signedOf 16 v.code, sumI := t.sumI + signedOf 16 i.code, n := t.n + 1,
                   qual := t.qual ||| bitsOf v.flags 0 4 ||| bitsOf i.flags 0 4 }
      else s
    | _, _ => s

/-- The entry of the point in progress is written, and the point ends (R450). The codes of a point without a window are
not stated: they are drawn. [DESIGN CHOICE (safe), log row 64] -/
def State.ivEntry (s : State) (x : Nat) : State :=
  let t := s.diag.iv.get x
  let mean := fun (m : Int) => unsignedOf 16 (roundAway ((m : Rat) / (t.n : Rat)))
  let w0 := if t.n = 0 then s.drawn % 2 ^ 32 else mean t.sumV * 65536 + mean t.sumI
  let w1 := t.n * 65536 + bitsOf t.qual 0 5
  let a := (s.rd R.DIAG_IV_BASE).toNat + 8 * t.point
  let s := (s.wrW a (w32 w0)).wrW (a + 4) (w32 w1)
  let s := if t.n = 0 then (s.incSat F.DIAG_IV_STATUS_NOWIN).drew else s
  (s.put F.DIAG_IV_STATUS_DONE (t.point + 1)).modIv x fun t =>
    { t with sumV := 0, sumI := 0, n := 0, qual := 0, point := t.point + 1, noWin := t.noWin + b2n (t.n == 0) }

/-- A trace starts at its grant (R449, R450). -/
def State.ivStart (s : State) (x : Nat) : State :=
  let pair := ((List.range 6).find? fun p => bitOf (s.get (F.LP_CFG_COMMIT_MASK p)) (2 * x)).getD 0
  let t : IvTrace :=
    { pair := pair, s0 := s.mono, dwell := (roundUp ((s.get F.DIAG_IV_CFG_TIME : Rat) * 800000 / 512)).toNat,
      vhi := fRat (s.rd R.DIAG_IV_VHI), vlo := fRat (s.rd R.DIAG_IV_VLO), point := 0, sumV := 0, sumI := 0, n := 0,
      qual := 0, noWin := 0 }
  let s := (((s.modIv x fun _ => t).put F.DIAG_IV_STATUS_NOWIN 0).put F.DIAG_IV_STATUS_INPUT x).put F.DIAG_IV_STATUS_DONE 0
  ((s.wr R.DIAG_IV_TICK s.now32).ivSlots pair 0x3F800000#32 (t.ref 0)).noteHolds

/-! ### Arc detection (R442 to R448) -/

/-- Changes an input's detector. -/
def State.modArc (s : State) (x : Nat) (f : ArcIn → ArcIn) : State := { s with diag := { s.diag with arc := s.diag.arc.modify x f } }

/-- EN of an input's detector. -/
def arcEnF (x : Nat) : Fld := ⟨R.DIAG_ARC_CTRL, x, 1⟩

/-- An input's detector runs. -/
def State.arcOn (s : State) (x : Nat) : Bool := s.flag (arcEnF x)

/-- The claim of arc detection on a channel's ring; metering's is 2. -/
def claimArc : Nat := 1

/-- Detection on an input stops, and its ring is released with EN = 0 (R442, R448). -/
def State.arcStop (s : State) (x : Nat) : State :=
  if s.arcOn x then
    let k := 4 + x
    let s := (((s.put (arcEnF x) 0).put (F.CH_RING_CTRL_EN k) 0).put (F.DIAG_ARC_STAT_STATE x) 0).put (F.DIAG_ARC_STAT_COUNT x) 0
    let s := { s with sens := { s.sens with ch := s.sens.ch.modify k fun c => { c with claim := 0, entries := [], marks := [] } } }
    s.modArc x fun a => { a with warm := 0, base := [], results := [], frame := 0 }
  else s

/-- Detection on every input stops: SP is fenced or PD6 powers down (R448). -/
def State.arcStopAll (s : State) : State := s.forEach (List.range 4) fun s x => s.arcStop x

/-- The PERIOD in force at a tick, by a unit's record. -/
def periodAt (t now : Nat) : List (Nat × Nat) → Nat
  | [] => now
  | [(_, v)] => v
  | (a, v) :: l => if a ≤ t then v else periodAt t now l

/-- The notch excludes a bin (R444): it lies within w bins of a whole multiple of r, in bins. -/
def notched (r : Rat) (w k : Nat) : Bool :=
  if r ≤ 0 then false
  else
    let m := ((k : Rat) / r).floor
    let near := fun (m : Int) => decide (1 ≤ m) && decide ((k : Rat) - (w : Nat) ≤ r * m) && decide (r * m ≤ (k : Rat) + (w : Nat))
    near m || near (m + 1)

/-- |X_k|² of a windowed frame of 1,024 samples (R443). -/
def binEnergy (xs : List Rat) (k : Nat) : Rat :=
  let a := fun (j : Nat) => 2 * piR * ((j * k % 1024 : Nat) : Rat) / 1024
  let re := (xs.zipIdx.map fun p => p.1 * cosR (a p.2)).foldl (· + ·) 0
  let im := (xs.zipIdx.map fun p => p.1 * sinR (a p.2)).foldl (· + ·) 0
  re * re + im * im

/-- Removes the mean and applies the Hann window (R443, steps 1 and 2). -/
def hann (cs : List Rat) : List Rat :=
  let mean := cs.foldl (· + ·) 0 / 1024
  cs.zipIdx.map fun p => (p.1 - mean) * ((1 - cosR (2 * piR * (p.2 : Rat) / 1024)) / 2)

/-- The energies of the eight bands of an input (R443, R444). -/
def State.bandEnergies (s : State) (x : Nat) (period : Nat) (codes : List Int) : List Rat :=
  let xs := hann (codes.map fun (c : Int) => (c : Rat) / 32768)
  let r : Rat := 409600 / (period : Rat)
  let w := s.get (F.DIAG_ARC_NOTCH_NOTCH_W x)
  let on := s.flag (F.DIAG_ARC_NOTCH_NOTCH_EN x)
  (List.range 8).map fun b =>
    let lo := s.get (F.DIAG_ARC_BAND_LO_BIN x b)
    let hi := s.get (F.DIAG_ARC_BAND_HI_BIN x b)
    let ks := ((List.range (hi + 1 - lo)).map (· + lo)).filter fun k => !(on && notched r w k)
    (ks.map (binEnergy xs)).foldl (· + ·) 0

/-- The ring index of the sample with instant t, in the ring's count of entries (R142). -/
def State.arcIndex (s : State) (x t : Nat) : Nat :=
  let c := s.sens.ch.get (4 + x)
  c.samples - (c.nextT - t) / 400

/-- The ring entries of a frame (R442, R443). [DEDUCED (unsafe), log row 61] -/
def State.arcWords (s : State) (x k0 : Nat) : List Nat :=
  (List.range 1024).map fun j => (s.rdW (0x31060000 + 0x2000 * x + 4 * ((k0 + j) % 2048))).toNat

/-- An interval overlaps a frame's ticks. -/
def meetsFrame (f : Nat) (i : Nat × Option Nat) : Bool :=
  i.1 < f + 409600 && match i.2 with
    | some e => f < e
    | none => true

/-- A detection (R447): while ARC_DET is 1 it sets and raises nothing; the record is cleared. -/
def State.arcDetect (s : State) (x last : Nat) : State :=
  let f : Fld := ⟨R.DIAG_STICKY, 4 + x, 1⟩
  let s := if s.flag f then s else ((s.set1 f).wr (R.DIAG_ARC_TICK x) (w32 last)).raiseAt (FS.DIAG_ARC x) x
  (s.put (F.DIAG_ARC_STAT_COUNT x) 0).modArc x fun a => { a with results := [] }

/-- A judged frame (R446, R447): es its energies, m its mean code. [DEDUCED (unsafe), log row 61] -/
def State.arcJudge (s : State) (x last : Nat) (es : List Rat) (m : Rat) : State :=
  let a := s.diag.arc.get x
  let thr := pow10R ((s.get (F.DIAG_ARC_CFG_THR x) : Rat) / 20)
  let past := (es.zip a.base).map fun p => decide (p.2 * thr < p.1)
  let need := if s.get (F.DIAG_ARC_CFG_BAND_MIN x) = 0 then 8 else s.get (F.DIAG_ARC_CFG_BAND_MIN x)
  let imin : Rat := (s.get (F.DIAG_ARC_IMIN_IMIN x) : Rat)
  let arc := (decide (imin ≤ m) || decide (imin ≤ -m)) && decide (need ≤ (past.filter id).length)
  let al : Rat := (2 ^ s.get (F.DIAG_ARC_CFG_ALPHA_LOG2 x) : Nat)
  let base := if arc then a.base else (es.zip a.base).map fun p => p.2 + (p.1 - p.2) / al
  let res := (arc :: a.results).take (s.get (F.DIAG_ARC_WIN_K x))
  let n := (res.filter id).length
  let s := (s.put (F.DIAG_ARC_STAT_LAST_BANDS x) (maskOf 8 fun b => past.getD b false)).put (F.DIAG_ARC_STAT_COUNT x) n
  let s := s.modArc x fun a => { a with base := base, results := res }
  if arc && s.get (F.DIAG_ARC_WIN_M x) ≤ n then s.arcDetect x last else s

/-- An evaluated frame: the first 64 make the baselines (R446). -/
def State.arcEvaluated (s : State) (x last : Nat) (codes : List Int) (period : Nat) : State :=
  let a := s.diag.arc.get x
  let es := s.bandEnergies x period codes
  let s := s.incWrap (F.DIAG_ARC_FRAMES_EVALUATED x)
  if a.warm < 64 then
    let sum := if a.warm = 0 then es else (a.base.zip es).map fun p => p.1 + p.2
    if a.warm + 1 = 64 then
      (s.put (F.DIAG_ARC_STAT_STATE x) 2).modArc x fun a => { a with warm := 64, base := sum.map (· / 64) }
    else s.modArc x fun a => { a with warm := a.warm + 1, base := sum }
  else s.arcJudge x last es (((codes.foldl (· + ·) 0 : Int) : Rat) / 1024)

/-- The frame of an input that is next to evaluate (R443 to R446): skipped or evaluated. RING_RD stays where it is: the device
does not move it (R143), and SP reads by the count of entries. [DEDUCED (unsafe), log row 61] -/
def State.arcFrame (s : State) (x : Nat) : State :=
  let a := s.diag.arc.get x
  let f0 := 409600 * a.frame
  let k0 := s.arcIndex x (f0 + 400)
  let ws := s.arcWords x k0
  let wrCnt := (s.rd (R.CH_RING_WR (4 + x))).toNat
  let bad := ws.any (fun w => bitOf w 16 || bitOf w 17 || bitOf w 19 || bitOf w 29) || decide (k0 + 2048 < wrCnt) ||
    a.blocked.any (meetsFrame f0)
  let codes := ws.map fun w => signedOf 16 w
  let per := periodAt (f0 + 400) (s.get (F.PWM_PERIOD (2 * x))) (s.pwm.get (2 * x)).perLog
  let s := s.modArc x fun a => { a with frame := a.frame + 1 }
  if bad then s.incWrap (F.DIAG_ARC_FRAMES_SKIPPED x) else s.arcEvaluated x (f0 + 409600) codes per

/-! ### The arbiter (R454 to R459) -/

/-- Who makes a request (Table ARB-4): a register write, a MAINT_START action with the pair that armed it, a staging path,
the device itself. -/
inductive Requester where
  | reg (i : Initiator) | sched (i : Initiator) | staging | device
  deriving DecidableEq, Repr

/-- A requester may request an activity (Table ARB-4). -/
def mayRequest (r : Requester) (c : Nat) : Bool :=
  if c = 10 then r == .staging
  else if c = 12 then r == .device || r == .reg .hpa || r == .sched .hpa
  else match r with
    | .reg i => i != .docent
    | .sched i => i == .hpa || i == .hpb
    | .device => true
    | .staging => false

/-- WCMP_TEST claims a side (Table ARB-2), by a mask. -/
def testClaims (grid : Bool) (mask : Nat) : Bool := if grid then bitsOf mask 14 10 != 0 else bitsOf mask 0 14 != 0

/-- Two activities conflict (Table ARB-3); m is the mask of the comparator test. -/
def conflicts (m a b : Nat) : Bool :=
  let one := fun (a b : Nat) =>
    (a == 1 && ((b == 3 && testClaims false m) || (4 ≤ b && b ≤ 8))) || (a == 2 && b == 3 && testClaims true m) ||
    (a == 8 && b == 9) || (a == 10 && b == 11)
  a == b || one a b || one b a

/-- The mask of the comparator test, running or requested. -/
def State.testMaskNow (s : State) : Nat := if s.maintRuns 3 then s.diag.testMask else bitsOf (s.rd R.WCMPP_TEST_MASK).toNat 0 24

/-- The running activity that a request conflicts with; the lowest code where there are several. [DEDUCED (unsafe), log row 62] -/
def State.conflictOf (s : State) (c : Nat) : Option Nat :=
  ((List.range 12).map (· + 1)).find? fun d => s.maintRuns d && conflicts s.testMaskNow c d

/-- R156: no window group of the side is enabled or not IDLE, and no ring of the side is enabled. -/
def State.calAble (s : State) (grid : Bool) : Bool :=
  (List.range 4).all (fun g => s.wgGrid g != grid || (!s.flag (F.SENSP_WG_CTRL_EN g) && s.wgIdle g)) &&
  (sideChs grid).all fun k => !s.ringOn k

/-- The conditions of IV_TRACEx (Table ARB-2). -/
def State.ivAble (s : State) (x : Nat) : Bool :=
  let vh := fRat (s.rd R.DIAG_IV_VHI)
  let vl := fRat (s.rd R.DIAG_IV_VLO)
  (match (List.range 6).find? (fun p => bitOf (s.get (F.LP_CFG_COMMIT_MASK p)) (2 * x)) with
   | some p => s.flag (F.LP_CTRL_EN p) && s.fenceUnits p == 0
   | none => false) &&
  s.pwmState (2 * x) == 1 && s.flag (calValidF x) && s.flag (calValidF (4 + x)) && decide (vl < vh) && decide (0 ≤ vl)

/-- The conditions of an activity (Table ARB-2). -/
def State.maintAble (s : State) (c : Nat) : Bool :=
  match c with
  | 1 => s.calAble false
  | 2 => s.calAble true
  | 3 => bitsOf (s.rd R.WCMPP_TEST_MASK).toNat 0 24 != 0
  | 4 => s.ivAble 0
  | 5 => s.ivAble 1
  | 6 => s.ivAble 2
  | 7 => s.ivAble 3
  | 8 => (s.conn < 2 || s.conn == 5) && s.flag (calValidF 12)
  | 9 => s.conn == 1 && s.gridUnits.all fun u => s.pwmState u == 0
  | 11 => s.flag F.METER_STATUS_VAULT_READY
  | _ => true

/-- The image disables an activity: BIST_PERIODIC by POWER.BIST_PERIODIC (Table IMG-9). -/
def State.maintDisabled (s : State) (c : Nat) : Bool := c == 12 && bU8 (s.sec Sec.power 0) 8 != 1

/-- The reason that refuses a request, with the conflicting code; none grants it (R456). [DEDUCED (unsafe), log row 62] -/
def State.maintRefusal (s : State) (r : Requester) (c : Nat) : Option (Nat × Nat) :=
  if s.startingUp then some (2, 0)
  else if c = 0 ∨ 12 < c then some (5, 0)
  else if !mayRequest r c then some (3, 0)
  else if s.maintDisabled c then some (4, 0)
  else match s.conflictOf c with
    | some d => some (1, d)
    | none => if s.maintAble c then none else some (2, 0)

/-- The calibration of a side starts (Table SENS-9, R157, R161). -/
def State.calStart (s : State) (grid : Bool) : State :=
  let s := (s.put (calBusyF grid) 1).modSide grid fun d => { d with calStart := s.mono, calStage := 0, passed := [] }
  s.forEach (sideChs grid) fun s k => s.chBroken k (s.epoch, s.epoch + 1440000)

/-- What an activity's grant begins. -/
def State.maintBegin (s : State) (c : Nat) : State :=
  match c with
  | 1 => s.calStart false
  | 2 => s.calStart true
  | 3 =>
    let s := { s with diag := { s.diag with testMask := bitsOf (s.rd R.WCMPP_TEST_MASK).toNat 0 24 } }
    let s := s.wcTestStart
    if s.wcmp.queue.isEmpty then s.maintEnd Act.wcmpTest .ok else s
  | 4 => s.ivStart 0
  | 5 => s.ivStart 1
  | 6 => s.ivStart 2
  | 7 => s.ivStart 3
  | 8 => { s with diag := { s.diag with iso := { grant := s.mono, step := 0, va := 0 } } }
  | 9 => (((s.relayDrive 0 false).relayDrive 1 false).put F.RELAY_STATUS_CHECK_STEP 1).modRelay fun r => { r with checkFrom := s.mono }
  | _ => s

/-- A request reaches the DIAG block (R456): DIAG_MAINT_LAST, and the refusal or the grant. [DEDUCED (unsafe), log row 62] -/
def State.maintRequest (s : State) (r : Requester) (c : Nat) : State :=
  let last := fun (s : State) (res why blk : Nat) =>
    (((s.put F.DIAG_MAINT_LAST_CODE c).put F.DIAG_MAINT_LAST_RESULT res).put F.DIAG_MAINT_LAST_REASON why).put
      F.DIAG_MAINT_LAST_BLOCKER blk
  match s.maintRefusal r c with
  | some (why, blk) =>
    let s := last s 2 why blk
    if 1 ≤ c ∧ c ≤ 12 then s.put ⟨R.DIAG_MAINT_REFUSED, c, 1⟩ 1 else s
  | none => ((last s 1 0 0).maintStart c).maintBegin c

/-! ### Requests of one tick (R457) -/

/-- The priority order of R457, by code. -/
def maintOrder : List Nat := [12, 3, 9, 8, 1, 2, 11, 4, 5, 6, 7, 10]

/-- The device's own request is due (Table ARB-4). -/
def State.bistDue (s : State) : Bool := decide (40000000 * s.diag.bistNext ≤ s.epoch)

/-- The request that an entry makes in the name of the pair that armed it (R456). -/
def State.schedRequester (s : State) (e : Nat) : Requester := .sched (if s.ep.byHpb.get e then .hpb else .hpa)

/-- One request of tick t is evaluated; a second one for the same activity at that tick is the same request (R457).
[DEDUCED (unsafe), log row 62] -/
def State.maintOne (s : State) (t : Nat) (q : Requester × Nat) : State :=
  let asked := if s.diag.reqAt = some t then s.diag.reqs else []
  if asked.contains q.2 then s
  else
    let s := { s with diag := { s.diag with reqAt := some t, reqs := q.2 :: asked } }
    let s := if q.1 = .device ∧ q.2 = 12 then { s with diag := { s.diag with bistNext := s.epoch / 40000000 + 1 } } else s
    s.maintRequest q.1 q.2

/-- The requests of tick t that go before one for activity c, in the order of R457: the device's own where it is due, and those of the
MAINT_START entries armed for that tick. -/
def State.maintAhead (s : State) (t c : Nat) : List (Requester × Nat) :=
  (maintOrder.takeWhile (· != c)).flatMap fun d =>
    (if d = 12 ∧ s.bistDue then [(Requester.device, 12)] else []) ++
    ((List.range 32).filter fun e => s.schedState e == 1 && s.schedAct e == 7 && s.schedTime e == t && s.schedParam e == d).map
      fun e => (s.schedRequester e, d)

/-- The requests of tick t with a higher priority than an activity's are evaluated (R457). [DEDUCED (unsafe), log row 62] -/
def State.maintBefore (s : State) (t c : Nat) : State := (s.maintAhead t c).foldl (fun s q => s.maintOne t q) s

/-- A request arrives at tick t: those of the tick with a higher priority are evaluated first (R457). [DEDUCED (unsafe), log row 62] -/
def State.maintArrive (s : State) (t : Nat) (r : Requester) (c : Nat) : State := (s.maintBefore t c).maintOne t (r, c)

/-! ### Ends and aborts (R458, R459) -/

/-- The abort of a side's calibration (Table ARB-5): before 1,360,000 ticks the factors stand as they were. -/
def State.calAbort (s : State) (grid : Bool) : State :=
  let d := s.sens.side.get (b2n grid)
  if s.mono < d.calStart + 1360000 then
    let s := s.put (calBusyF grid) 0
    let s := s.forEach (sideChs grid) fun s k =>
      s.modCh k fun c => { c with broken := c.broken.map fun b => (b.1, min b.2 s.epoch) }
    s.maintEnd (if grid then 2 else 1) .aborted
  else s

/-- An activity is aborted (Table ARB-5). BIST_PERIODIC is not. -/
def State.maintAbort (s : State) (c : Nat) : State :=
  if !s.maintRuns c then s
  else match c with
    | 1 => s.calAbort false
    | 2 => s.calAbort true
    | 3 => s.wcTestAbort.maintEnd 3 .aborted
    | 4 => s.ivAbort 0
    | 5 => s.ivAbort 1
    | 6 => s.ivAbort 2
    | 7 => s.ivAbort 3
    | 9 => ((s.relaysOff).put F.RELAY_STATUS_CHECK_STEP 0).maintEnd 9 .aborted
    | 12 => s
    | _ => s.maintEnd c .aborted

/-- Every activity ends with the effect of an abort (Table ARB-5, the safe state). -/
def State.maintAbortAll (s : State) : State := s.forEach ((List.range 11).map (· + 1)) fun s c => s.maintAbort c

/-! ### The grid side that came late (R609) -/

/-- After a deferral, once the barrier is calibrated, the arbiter grants SENS_CAL_G (unless R156 refuses it) and then WCMP_TEST of WC14 to WC23; when both
have run, GRID_CAL_DONE sets (R609). -/
def State.lateNext (s : State) : State :=
  let at_ := fun (s : State) (n : Nat) => { s with start := { s.start with late := n } }
  if s.start.late = 1 ∧ s.pdOn 10 ∧ s.flag F.EPOCH_STATUS_BAR_CAL_DONE ∧ (s.conflictOf 2).isNone ∧ s.calAble true then
    at_ ((s.maintStart 2).calStart true) 2
  else if s.start.late = 2 ∧ !s.maintRuns 2 ∧ !s.maintRuns 3 then
    let s := { (s.maintStart 3) with diag := { s.diag with testMask := 0xFFC000 } }
    at_ (s.wcTestQueue ((List.range 10).map (14 + ·))) 3
  else if s.start.late = 3 ∧ !s.maintRuns 3 then at_ (s.set1 F.SYS_START_GRID_CAL_DONE) 0
  else s

end Sys2Proof.Machine
end

