-- ==== Sys2Proof/Machine/Sens.lean ====
section
/-!
DEFINITION. Charge-balance sensing (chapter 04): windows, streams and rings, line cycles, overloads, the monitor scan,
self-calibration. The modulator's bits are operands: what the input was is the world's.
-/

namespace Sys2Proof.Machine

/-! ### Windows (R121 to R132) -/

/-- The close of a window: with LEN_MODE = 1 and no period start in time, O + 65,535 (R123). -/
def Win.close (w : Win) (sinc : Bool) : Nat := w.c.getD (w.o + spanOf sinc 65535)

/-- WINDOW_OPEN (R122, R126, R132): the first triggered window opens at its O, or is skipped while two of its group are
still open. -/
def execWindowOpen (g : Fin 4) (s : State) : Res :=
  let w := s.sens.wg.get g
  let sinc := s.flag (F.SENSP_WG_CFG_WEIGHT g)
  match w.pend with
  | [] => .next s
  | x :: t =>
    if s.epoch < x.o then .next s
    else if 2 ≤ (w.opened.filter fun y => x.o < y.close sinc).length then
      let s := s.modWg g fun w => { w with pend := t }
      .next ((s.incSat (F.SENSP_WG_INFO_SKIP_CNT g)).set1
        (sideF (s.wgGrid g) F.SENSP_STICKY_WIN_SKIP F.SENSG_STICKY_WIN_SKIP))
    else
      .next (s.modWg g fun w =>
        { w with pend := t, opened := w.opened ++ [{ x with seq := w.seq, prev := w.lastO }],
                 seq := (w.seq + 1) % 65536, lastO := some x.o })

/-- One member's result at the close of a window (R116 to R120, R125, Table SENS-5). -/
def State.winResult (s : State) (w : Win) (enTick c k : Nat) (sinc : Bool) (bits : Nat) : WinRes × Int :=
  let n := c - w.o
  let total : Nat := if sinc then (n / 3) ^ 3 else n
  let sum := s.tickSum k w.o n (if sinc then sincW (n / 3) else fun _ => 1) bits
  let r := s.codeOf k ((sum : Rat) / (total : Rat))
  let ovr := s.ovlMeets k w.o c || (s.sens.ch.get k).ovl.any fun v => v.early enTick w
  let fl := b2n ovr + 2 * b2n (s.refDist k w.o c) + 4 * b2n r.2 + 8 * b2n (!s.flag (calValidF k)) + 65536 * w.seq
  ({ ch := k, code := codeBits k r.1, word := codeWord k (s.flag (F.CH_CFG_ALIGN k)) r.1, flags := fl }, r.1)

/-- The first open window of a group closes (R123): the members' codes and flags are formed from
their bits; the periods in force are noted for the loop pairs (R195). -/
def State.windowClose (s : State) (g : Nat) (w : Win) (bits : List Nat) : State :=
  let sinc := s.flag (F.SENSP_WG_CFG_WEIGHT g)
  let c := w.close sinc
  let en := (s.sens.wg.get g).enTick
  let rs := (s.wgMembers g).map fun k => s.winResult w en c k sinc (bits.getD k 0)
  let ps := (List.range 6).map fun p => s.get (F.PWM_PERIOD (s.get (F.LP_CFG_PERIOD_UNIT p)))
  let recs := rs.map (·.1)
  let s := s.modWg g fun x =>
    { x with opened := x.opened.tail, closed := x.closed ++ [{ c := c, len := c - w.o, seq := w.seq, recs := recs, periods := ps }] }
  let s := rs.foldl (fun s r => s.modCh r.1.ch fun x => { x with last := some (c, r.2) }) s
  s.ivWindow g c recs

/-- WINDOW_CLOSE (R123, R125): bits holds, by channel number, each member's modulator bits from the window's opening. -/
def execWindowClose (g : Fin 4) (bits : List Nat) (s : State) : Res :=
  match (s.sens.wg.get g).opened with
  | [] => .next s
  | w :: _ => if w.close (s.flag (F.SENSP_WG_CFG_WEIGHT g)) ≤ s.epoch then .next (s.windowClose g w bits) else .next s

/-- The union of the DEST masks of a group's members. -/
def State.wgDest (s : State) (g : Nat) : Nat := (s.wgMembers g).foldl (fun m k => m ||| s.get (F.CH_CFG_DEST k)) 0

/-- The delivery of a closed window (R130 to R132): the channel records, the group record, the registers. -/
def State.windowDeliver (s : State) (g : Nat) (w : Closed) : State :=
  let s := s.modWg g fun x => { x with closed := x.closed.tail }
  let s := w.recs.foldl (fun s r =>
    let s := s.deliver (s.destBases (s.get (F.CH_CFG_DEST r.ch))) (0xFE00 + 8 * r.ch) [r.word, r.flags]
    (s.wr (R.CH_RES r.ch) (w32 r.word)).wr (R.CH_RES_FLAGS r.ch) (w32 r.flags)) s
  let dest := s.wgDest g
  let s := s.deliver (s.destBases dest) (0xFF00 + 0x10 * g) [w.c % 2 ^ 32, w.c / 2 ^ 32, w.len, w.seq]
  let s := (s.put (F.SENSP_WG_STATUS_SEQ g) w.seq).put (F.SENSP_WG_INFO_LEN g) w.len
  s.forEach ((maskIdx 6 dest).filter fun p => s.pdOn (pairPd p)) fun s p =>
    if s.get (F.LP_CFG_TRIGGER_WG p) = g then
      s.groupRecord p { c := w.c, seq := w.seq, len := w.len, pc := w.periods.getD p 0 }
    else s

/-- WINDOW_DELIVER (R130). -/
def execWindowDeliver (g : Fin 4) (s : State) : Res :=
  match (s.sens.wg.get g).closed with
  | [] => .next s
  | w :: _ => .next (s.windowDeliver g w)

/-- A write of EN = 1 (R127, R128). -/
def State.wgEnable (s : State) (g : Nat) : State :=
  if s.flag (F.SENSP_WG_CTRL_EN g) then s
  else
    let grid := s.wgGrid g
    if (s.wgMembers g).any (fun k => !s.flag (calValidF k)) || (grid && !s.flag F.EPOCH_STATUS_BAR_CAL_DONE) ||
        s.flag (calBusyF grid) then s.cfgReject .sensp
    else
      ((s.put (F.SENSP_WG_CTRL_EN g) 1).wr (R.SENSP_WG_EN_TICK g) s.now32).modWg g fun w =>
        { w with enTick := s.epoch, seq := 0, lastO := none }

/-- WG_ENABLE (R127, R128). -/
def execWgEnable (_i : Initiator) (g : Fin 4) (s : State) : Res := .next (s.wgEnable g)

/-- A write of EN = 0 (R129): no trigger at or after this tick is acted on; windows triggered before it run to their close. -/
def State.wgDisable (s : State) (g : Nat) : State := s.put (F.SENSP_WG_CTRL_EN g) 0

/-- WG_DISABLE (R129). -/
def execWgDisable (_i : Initiator) (g : Fin 4) (s : State) : Res := .next (s.wgDisable g)

/-- A trigger inside a period of a unit that counts (R121, Table SENS-3): 0 centre, 1 CMPA, 2 CMPB; the first tick at which
the counter reaches the position, where the period starts at or below it and ends beyond it. -/
def State.insideTrigger (s : State) (u kind : Nat) : State :=
  let p := s.pwm.get u
  let x := if kind = 0 then s.get (F.PWM_PERIOD u) / 2 else if kind = 1 then s.get (F.PWM_CMPA u) else s.get (F.PWM_CMPB u)
  let e := p.start + offOf p.n0 p.hold x
  if p.counting && s.pwmState u != 2 && p.n0 ≤ x && e < p.next && e ≤ s.epoch && !bitOf p.trig kind then
    (s.modPwm u fun p => { p with trig := p.trig + 2 ^ kind }).trigger (2 + kind) u e
  else s

/-- CENTRE_CMP_TRIGGER (R121). -/
def execCentreCmpTrigger (u : Fin 14) (kind : Fin 3) (s : State) : Res := .next (s.insideTrigger u kind)

/-! ### Streams and rings (R136 to R145) -/

/-- The sample spacing of a fixed-rate stream code, in ticks (Table SENS-6). -/
def streamP (code : Nat) : Nat :=
  match code with
  | 2 => 400
  | 3 => 800
  | 4 => 1600
  | 5 => 4000
  | 6 => 8000
  | 7 => 20000
  | _ => 0

/-- A ring's entry rate (R145). -/
def streamRate (code : Nat) : Nat := if code = 1 then 16896 else if streamP code = 0 then 0 else 800000000 / streamP code

/-- The start of sub-interval j of a cycle (R138). -/
def subStart (a b j : Nat) : Nat := a + j * (b - a) / 256

/-- A stream entry (Table SENS-7) over the ticks lo to hi - 1, with density d. -/
def State.streamEntry (s : State) (k : Nat) (d : Rat) (lo hi index : Nat) (first mark : Bool) : Word × Int :=
  let r := s.codeOf k d
  let e := codeBits k r.1 + 65536 * b2n (s.ovlMeets k lo hi) + 131072 * b2n (s.refDist k lo hi) + 262144 * b2n mark +
    524288 * b2n r.2 + 1048576 * (index % 256) + 268435456 * b2n first + 536870912 * b2n (!s.flag (calValidF k))
  (w32 e, r.1)

/-- A fixed-rate sample at its instant: the weights of a sinc³ window with m = P that opens at t - 3P (R137, R140). -/
def State.fixedSample (s : State) (k p : Nat) (bits : Nat) : State :=
  let c := s.sens.ch.get k
  let t := c.nextT
  let sum := s.tickSum k (t - 3 * p) (3 * p) (sincW p) bits
  let mark := c.marks.any fun m => t ≤ m + p && m < t
  let e := s.streamEntry k ((sum : Rat) / ((p ^ 3 : Nat) : Rat)) (t - 3 * p) t c.samples false mark
  s.modCh k fun c =>
    { c with entries := c.entries ++ [e.1], samples := c.samples + 1, nextT := t + p, marks := c.marks.filter (t ≤ ·),
             last := some (t, e.2) }

/-- The cycle and sub-interval of the next line-locked sample (R138): the cycle in progress, or the first complete cycle
after it. -/
def State.lineNext (s : State) (k : Nat) : Option (Nat × Nat × Nat) :=
  let c := s.sens.ch.get k
  if c.llNext < 256 ∧ c.llStart < c.llEnd then some (c.llStart, c.llEnd, c.llNext)
  else
    match ((s.sens.side.get (b2n (chGrid k))).recent.filter fun y => c.llEnd ≤ y.1).getLast? with
    | some y => some (y.1, y.2, 0)
    | none => none

/-- A line-locked sample (R138, R140). -/
def State.lineSample (s : State) (k : Nat) (y : Nat × Nat × Nat) (bits : Nat) : State :=
  let lo := subStart y.1 y.2.1 y.2.2
  let hi := subStart y.1 y.2.1 (y.2.2 + 1)
  let mark := (s.sens.ch.get k).marks.any fun m => lo ≤ m && m < hi
  let sum := s.tickSum k lo (hi - lo) (fun _ => 1) bits
  let e := s.streamEntry k ((sum : Rat) / ((hi - lo : Nat) : Rat)) lo hi y.2.2 (y.2.2 == 0) mark
  s.modCh k fun c =>
    { c with entries := c.entries ++ [e.1], samples := c.samples + 1, llStart := y.1, llEnd := y.2.1, llNext := y.2.2 + 1,
             marks := c.marks.filter (hi ≤ ·), last := some (hi, e.2) }

/-- STREAM_SAMPLE (R135, R137 to R140): bits holds the channel's modulator bits from the start of the sample's span. -/
def execStreamSample (k : Fin 26) (bits : Nat) (s : State) : Res :=
  let code := s.get (F.CH_CFG_STREAM k)
  if !(s.ringOn k && s.chContinuous k) then .next s
  else if code = 1 then
    match s.lineNext k with
    | none => .next s
    | some y => if subStart y.1 y.2.1 (y.2.2 + 1) ≤ s.epoch then .next (s.lineSample k y bits) else .next s
  else if streamP code = 0 ∨ s.epoch < (s.sens.ch.get k).nextT then .next s
  else .next (s.fixedSample k (streamP code) bits)

/-- A ring entry is written (R142, R143). -/
def State.ringWrite (s : State) (k : Nat) (e : Word) : State :=
  let s := s.modCh k fun c => { c with entries := c.entries.tail }
  let n := (s.rd (R.CH_RING_WR k)).toNat
  let size := 2 ^ s.get (F.CH_RING_CTRL_SIZE_LOG2 k)
  let s := s.wrW ((s.rd (R.CH_RING_BASE k)).toNat + 4 * (n % size)) e
  let s := s.wr (R.CH_RING_WR k) (w32 (n + 1))
  if size < (w32 (n + 1) - s.rd (R.CH_RING_RD k)).toNat then
    (s.set1 (F.CH_STATUS_STREAM_OVF k)).set1 (sideF (chGrid k) F.SENSP_STICKY_STREAM_OVF F.SENSG_STICKY_STREAM_OVF)
  else s

/-- STREAM_RING_WRITE (R142, R143). -/
def execStreamRingWrite (k : Fin 26) (s : State) : Res :=
  match (s.sens.ch.get k).entries with
  | [] => .next s
  | e :: _ => .next (s.ringWrite k e)

/-- RING_BASE and SIZE_LOG2 place the ring in system SRAM or SP local RAM, aligned to its size (R141).
[DESIGN CHOICE (unsafe), log row 32] -/
def ringPlaced (base size : Nat) : Bool :=
  6 ≤ size && base % (4 * 2 ^ size) == 0 &&
  ((0x20000000 ≤ base && base + 4 * 2 ^ size ≤ 0x20400000) || (0x31000000 ≤ base && base + 4 * 2 ^ size ≤ 0x31080000))

/-- The entry rate of the enabled rings of both sides (R145). -/
def State.ringRate (s : State) : Nat :=
  (List.range 26).foldl (fun n k => if s.ringOn k then n + streamRate (s.get (F.CH_CFG_STREAM k)) else n) 0

/-- The ring starts (R137, R138, R142): RING_WR 0, the first instant after now, or the first whole sub-interval. -/
def State.ringStart (s : State) (k : Nat) : State :=
  let p := streamP (s.get (F.CH_CFG_STREAM k))
  let now := s.epoch
  let cyc := (s.sens.side.get (b2n (chGrid k))).recent.find? fun y => y.1 < now && now < y.2
  let j := fun (y : Nat × Nat) => ((List.range 257).find? fun j => now ≤ subStart y.1 y.2 j).getD 256
  ((s.put (F.CH_RING_CTRL_EN k) 1).wr (R.CH_RING_WR k) 0).modCh k fun c =>
    { c with entries := [], samples := 0, marks := [], nextT := if p = 0 then 0 else (now / p + 1) * p,
             llStart := match cyc with | some y => y.1 | none => 0,
             llEnd := match cyc with | some y => y.2 | none => now,
             llNext := match cyc with | some y => j y | none => 256 }

/-- A ring's enable is refused (R22, R135, R141, R145, Table SENS-17). -/
def State.ringRefused (s : State) (k : Nat) : Bool :=
  let code := s.get (F.CH_CFG_STREAM k)
  !ringPlaced (s.rd (R.CH_RING_BASE k)).toNat (s.get (F.CH_RING_CTRL_SIZE_LOG2 k)) || code == 0 ||
  s.flag (calBusyF (chGrid k)) || decide (24000000 < s.ringRate + streamRate code) || s.chBurst k || !s.chNamed k

/-- A write of ring EN = 1; a ring that an engine claims belongs to it (R412, R442). -/
def State.ringEnable (s : State) (k : Nat) : State :=
  if (s.sens.ch.get k).claim ≠ 0 then s.cfgReject (sideBlk (chGrid k))
  else if s.ringOn k then s
  else if s.ringRefused k then s.cfgReject (sideBlk (chGrid k))
  else s.ringStart k

/-- RING_ENABLE (R135, R141, R145). -/
def execRingEnable (_i : Initiator) (k : Fin 26) (s : State) : Res := .next (s.ringEnable k)

/-- A write of ring EN = 0. -/
def State.ringDisable (s : State) (k : Nat) : State :=
  if (s.sens.ch.get k).claim ≠ 0 then s.cfgReject (sideBlk (chGrid k))
  else (s.put (F.CH_RING_CTRL_EN k) 0).modCh k fun c => { c with entries := [], marks := [] }

/-- RING_DISABLE (Table SENS-17). -/
def execRingDisable (_i : Initiator) (k : Fin 26) (s : State) : Res := .next (s.ringDisable k)

/-! ### Line cycles (R146 to R149) -/

/-- LC_GAP of a side (R147). -/
def lcGapR (grid : Bool) : Nat := if grid then R.SENSG_LC_GAP else R.SENSP_LC_GAP

/-- LC_ANNOUNCE_RECEIVE (R146, R147): the oldest announcement on its way reaches an island; in time it completes the cycle
from its boundary, and the ticks since the last complete cycle were a gap. An island that is off hears nothing. -/
def execLcAnnounceReceive (grid : Bool) (s : State) : Res :=
  match (s.sens.side.get (b2n grid)).ann with
  | [] => .next s
  | a :: t =>
    let s := s.modSide grid fun d => { d with ann := t }
    match a.ci with
    | none => .next s
    | some ci =>
      if !s.pdOn (sidePd grid) then .next s
      else if ci + 64 < s.epoch then .next (s.set1 (sideF grid F.SENSP_STICKY_LC_LATE F.SENSG_STICKY_LC_LATE))
      else
        let gap := ci - (s.sens.side.get (b2n grid)).gapFrom
        let s := s.wr (lcGapR grid) (w32 (satTo 32 ((s.rd (lcGapR grid)).toNat + gap)))
        .next (s.modSide grid fun d =>
          { d with gapFrom := a.cn, opened := d.opened ++ [(ci, a.cn)], recent := ((ci, a.cn) :: d.recent).take 16 })

/-- The record of one channel for a complete cycle (R147, R149, R161). -/
def State.lcOf (s : State) (k a b seq : Nat) (bits : Nat) : LcRec :=
  let broken := (s.sens.ch.get k).broken.any fun i => i.1 < b && a < i.2
  let count := s.tickSum k a (b - a) (fun _ => 1) bits
  { count := count, len := b - a, start := a % 2 ^ 32,
    flags := b2n (s.ovlMeets k a b) + 2 * b2n (s.refDist k a b) + 4 * b2n broken + 65536 * (seq % 65536) }

/-- A channel ran continuously from a tick on (R147). PS15 is the monitor's (R153). -/
def State.chRan (s : State) (k a : Nat) : Bool := k != 15 && s.chContinuous k && decide ((s.sens.ch.get k).contFrom ≤ a)

/-- The cycle [a, b) ends on a side. -/
def State.lcEnd (s : State) (grid : Bool) (a b : Nat) (bits : List Nat) : State :=
  let seq := (s.sens.side.get (b2n grid)).seq
  let s := s.forEach ((sideChs grid).filter (s.chRan · a)) fun s k =>
    s.modCh k fun c => { c with lcRec := some (s.lcOf k a b seq (bits.getD k 0)) }
  let s := s.modSide grid fun d => { d with opened := d.opened.tail, seq := (d.seq + 1) % 65536 }
  if grid then s.meterCycle a b else s

/-- LC_CYCLE_END (R147): bits holds, by channel number, each channel's modulator bits from the cycle's start. -/
def execLcCycleEnd (grid : Bool) (bits : List Nat) (s : State) : Res :=
  match (s.sens.side.get (b2n grid)).opened with
  | [] => .next s
  | (a, b) :: _ => if b ≤ s.epoch then .next (s.lcEnd grid a b bits) else .next s

/-- One channel's record is delivered (R149), and a phase current's reaches the GRID block (R364). -/
def State.lcDeliverCh (s : State) (k : Nat) (r : LcRec) : State :=
  let s := s.deliver (s.destBases (s.get (F.CH_CFG_DEST k))) (0xFC00 + 0x10 * k) [unsignedOf 32 r.count, r.len, r.start, r.flags]
  let s := ((s.wr (R.CH_LC_COUNT k) (w32 (unsignedOf 32 r.count))).wr (R.CH_LC_LEN k) (w32 r.len)).wr (R.CH_LC_FLAGS k) (w32 r.flags)
  let s := s.modCh k fun c => { c with lcRec := none }
  if 20 ≤ k ∧ k < 20 + topoPhases s.gridTopo then s.dcUpdate (k - 20) r.count r.len r.flags else s

/-- LC_RECORD_DELIVER (R149, R364). -/
def execLcRecordDeliver (grid : Bool) (s : State) : Res :=
  let ks := (sideChs grid).filter fun k => (s.sens.ch.get k).lcRec.isSome
  let s := if grid && !ks.isEmpty then s.put F.GRID_STATUS_DC_OVER 0 else s
  .next (s.forEach ks fun s k =>
    match (s.sens.ch.get k).lcRec with
    | some r => s.lcDeliverCh k r
    | none => s)

/-! ### Overloads (R150, R152) -/

/-- Overloads that no view still to be formed can need are dropped: the newest, those running, and those whose release is
not 50 ms old stay. -/
def keepOvl (now : Nat) : List Ovl → List Ovl
  | [] => []
  | v :: t => v :: t.filter fun x => match x.e with | some e => now ≤ e + 40000000 | none => true

/-- The first trip of an overload (R150, R152). -/
def State.overload (s : State) (k : Nat) (positive : Bool) : State :=
  let grid := chGrid k
  let s := s.modCh k fun c =>
    { c with ovl := { s := s.epoch, e := none, signs := [(s.epoch, positive)] } :: keepOvl s.epoch c.ovl, lastTrip := s.epoch }
  let s := (s.set1 (ovrF k)).set1 (sideF grid F.SENSP_STICKY_OVR F.SENSG_STICKY_OVR)
  let s := s.forEach ((sideChs grid).filter fun j => j != k && quadOf j == quadOf k && s.chPowered j) fun s j => s.set1 (refDistF j)
  s.raise (if grid then FS.SENS_OVERRANGE_G else FS.SENS_OVERRANGE_P)

/-- A further trip of the same overload: it goes on, and a trip of the other sign changes the sign from its tick (R150). -/
def Ovl.goOn (v : Ovl) (now : Nat) (positive : Bool) : Ovl :=
  let signs := match v.signs with
    | (t, p) :: l => if p = positive then (t, p) :: l else (now, positive) :: (t, p) :: l
    | [] => [(now, positive)]
  { v with e := none, signs := signs }

/-- MOD_OVERLOAD_TRIP (R150): a tick at which the detector of a powered modulator is tripped, and the sign. The release after
which no trip occurs within 80 ticks ends the overload: a trip up to 80 ticks after a release, which lies 80 ticks after the last
trip, goes on with it. -/
def execModOverloadTrip (k : Fin 26) (positive : Bool) (s : State) : Res :=
  if !s.chPowered k then .next s
  else
    let c := s.sens.ch.get k
    match c.ovl with
    | [] => .next (s.overload k positive)
    | v :: t =>
      if s.epoch ≤ c.lastTrip + 160 then
        .next (s.modCh k fun c => { c with ovl := v.goOn s.epoch positive :: t, lastTrip := s.epoch })
      else .next ((s.modCh k fun c => { c with ovl := { v with e := some (c.lastTrip + 80) } :: t }).overload k positive)

/-- MOD_OVERLOAD_RELEASE (R150): 80 ticks without a trip. -/
def execModOverloadRelease (k : Fin 26) (s : State) : Res :=
  let c := s.sens.ch.get k
  match c.ovl with
  | v :: t =>
    if v.e = none ∧ c.lastTrip + 80 ≤ s.epoch then
      .next (s.modCh k fun c => { c with ovl := { v with e := some (c.lastTrip + 80) } :: t })
    else .next s
  | [] => .next s

/-! ### The monitor scan and the temperatures (R153 to R155, R469) -/

/-- A die's temperature result: two consecutive above 140 C raise TEMP_HIGH (R469). Dies: 0 CTL, 1 PAD, 2 GRD. -/
def State.tempResult (s : State) (die : Nat) (value : BitVec 16) : State :=
  let hot := decide (2240 < value.toInt)
  let s2 := { s with sens := { s.sens with hot := s.sens.hot.set die hot } }
  if hot && s.sens.hot.get die then s2.raiseAt FS.TEMP_HIGH die else s2

/-- MONITOR_DWELL_END (R154): the mean over the dwell's last 48,000 ticks, converted with factory trim. -/
def execMonitorDwellEnd (value : BitVec 16) (s : State) : Res :=
  let mask := s.monMask
  let src := s.sens.monSrc
  if s.pdOn 8 && bitOf mask src && s.sens.monStart + 51200 ≤ s.mono then
    let s := (s.put (F.SENSP_MON_VAL src) value.toNat).incWrap (F.SENSP_MON_CNT src)
    let s := if src < 2 then s.tempResult src value else s
    .next { s with sens := { s.sens with monSrc := nextSource mask src, monStart := s.mono } }
  else .next s

/-- GRD_TEMP_SAMPLE (R155): every 1 ms. -/
def execGrdTempSample (value : BitVec 16) (s : State) : Res :=
  if s.pdOn 10 && s.sens.tempNext ≤ s.mono then
    let s := (s.put F.SENSG_DIE_TEMP_TEMP value.toNat).incWrap F.SENSG_DIE_TEMP_CNT
    .next ({ s with sens := { s.sens with tempNext := s.mono + 800000 } }.tempResult 2 value)
  else .next s

/-! ### Self-calibration (R156 to R161) -/

/-- The ticks from the start at which the stages of Table SENS-9 begin. -/
def calStageAt (n : Nat) : Nat := if n = 0 then 160000 else if n = 1 then 800000 else 1360000

/-- The side's CAL_VALID clears for a channel, and its factors read 0 and 1.0 (R159, R160). -/
def State.calClear (s : State) (k : Nat) : State :=
  ((s.put (calValidF k) 0).put (F.CH_CAL_OFS_CAL_OFS k) 0).put (F.CH_CAL_GAIN_CAL_GAIN k) 0x80000

/-- CAL_OFS: the mean r at zero input, from the sum of s(t) over 640,000 ticks (R116, R158, Table SENS-9). -/
def calOfs (z : Int) : Rat := 40960 * (z : Rat) / 640000

/-- CAL_GAIN, from the sums of s(t) over 280,000 ticks at each of the two references (R158, Table SENS-9). -/
def calGain (k : Nat) (p m : Int) : Rat :=
  32768 / (40960 * ((p : Rat) - m) / 280000) * (if k < 4 ∨ k = 12 then Config.attenRatio k else 1)

/-- The limits of R159. -/
def calPasses (ofs gain : Rat) : Bool :=
  decide (-1024 ≤ ofs) && decide (ofs ≤ 1024) && decide (9 / 10 ≤ gain) && decide (gain ≤ 11 / 10)

/-- A channel's factors are computed and stored; those of a channel that fails read 0 and 1.0 (R158, R159). -/
def State.calStore (s : State) (k : Nat) (z p m : Int) : State :=
  if calPasses (calOfs z) (calGain k p m) then
    (s.putS (F.CH_CAL_OFS_CAL_OFS k) (roundAway (calOfs z))).put (F.CH_CAL_GAIN_CAL_GAIN k)
      (roundAway (calGain k p m * 524288)).toNat
  else s.calClear k

/-- The channels that a side's calibration covers: PS0 to PS14, GS0 to GS9. -/
def calChs (grid : Bool) : List Nat := (sideChs grid).filter (· != 15)

/-- The factors of a side are computed and stored, 1,360,000 ticks from the start (Table SENS-9): sums holds, by channel number,
the sum of s(t) at zero input and at the two references. -/
def State.calFactorsStore (s : State) (grid : Bool) (sums : List (Int × Int × Int)) : State :=
  let v := fun (k : Nat) => sums.getD k (0, 0, 0)
  let ok := (calChs grid).filter fun k => calPasses (calOfs (v k).1) (calGain k (v k).2.1 (v k).2.2)
  (s.forEach (calChs grid) fun s k => s.calStore k (v k).1 (v k).2.1 (v k).2.2).modSide grid fun d =>
    { d with passed := ok, calStage := 4 }

/-- SENS_CAL_STAGE (R157): the next stage of a side's calibration begins; with the third the inputs are reconnected. -/
def execSensCalStage (grid : Bool) (s : State) : Res :=
  let d := s.sens.side.get (b2n grid)
  if s.flag (calBusyF grid) && d.calStage < 3 && d.calStart + calStageAt d.calStage ≤ s.mono then
    .next (s.modSide grid fun d => { d with calStage := d.calStage + 1 })
  else .next s

/-- A side's calibration ends: CAL_VALID of the channels that passed, CAL_FAIL for any other (R157, R159).
[DEDUCED (unsafe), log row 38] -/
def State.calComplete (s : State) (grid : Bool) : State :=
  let ok := (s.sens.side.get (b2n grid)).passed
  let s := s.forEach (calChs grid) fun s k => s.put (calValidF k) (b2n (ok.contains k))
  let all := (calChs grid).all ok.contains
  let s := s.put (calBusyF grid) 0
  let s := if all then s else (s.set1 (sideF grid F.SENSP_STICKY_CAL_FAIL F.SENSG_STICKY_CAL_FAIL)).raise FS.SENS_CAL_FAIL
  s.maintEnd (if grid then 2 else 1) (if all then .ok else .fail)

/-- SENS_CAL_COMPLETE (R157 to R159): once the third stage has begun it stores the factors, and from 1.8 ms after the start it
ends the calibration. So the factors are stored before the end where the command comes before it, and with it otherwise.
[DEDUCED (unsafe), log row 38] -/
def execSensCalComplete (grid : Bool) (sums : List (Int × Int × Int)) (s : State) : Res :=
  let d := s.sens.side.get (b2n grid)
  if s.flag (calBusyF grid) && 3 ≤ d.calStage && d.calStart + 1360000 ≤ s.mono then
    let t := if d.calStage = 3 then s.calFactorsStore grid sums else s
    .next (if d.calStart + 1440000 ≤ s.mono then (t.calComplete grid).lateNext else t)
  else .next s

/-- A RANGE value that no rule admits on a channel (R113, R165). [DEDUCED (unsafe), log row 38] -/
def State.rangeBad (s : State) (k v : Nat) : Bool :=
  v == 3 || ((k < 4 || (12 ≤ k && k < 16)) && v != 2) ||
  (k == 23 && v != s.get (F.CH_CFG_RANGE 24)) || (k == 24 && v != s.get (F.CH_CFG_RANGE 23))

/-- A write of RANGE (R8, R36, R37, R113, R160, R161, R165). -/
def State.rangeWrite (s : State) (k v : Nat) : State :=
  s.quietGate (sideBlk (chGrid k)) (!s.chIdle k) (F.CH_CFG_RANGE k) v fun s =>
    if s.rangeBad k v then s.cfgReject (sideBlk (chGrid k))
    else if v = s.get (F.CH_CFG_RANGE k) then s
    else ((s.put (F.CH_CFG_RANGE k) v).put (calValidF k) 0).chBroken k (s.epoch, s.epoch + 1)

/-- CH_RANGE_WRITE (R113, R160, R165). -/
def execChRangeWrite (_i : Initiator) (k : Fin 26) (v : Word) (s : State) : Res := .next (s.rangeWrite k (bitsOf v.toNat 0 2))

end Sys2Proof.Machine
end

