-- ==== Sys2Proof/Machine/MeterOps.lean ====
section
/-!
DEFINITION. Metering's shared operations: the metered phases, a cycle's sums and corrections, latches, the Vault's records
and tally, the scan, the stop of the engine (chapter 12).
-/

namespace Sys2Proof.Machine

/-- The claim of metering on a channel's ring. -/
def claimMeter : Nat := 2

/-- The metered phases of a topology (Table MTR-1). -/
def meterPhases (t : Nat) : List Nat := List.range (topoPhases t)

/-- The metered channels, voltages then currents (Table MTR-1); GS0 is channel 16. -/
def meterChs (t : Nat) : List Nat := (meterPhases t).map (16 + ·) ++ (meterPhases t).map (20 + ·)

/-- FULL mode (Table MTR-7). -/
def State.meterFull (s : State) : Bool := s.flag F.METER_CFG_MODE

/-- CORR_SOURCE = 0: the factory correction applies as well (R418). [DESIGN CHOICE (safe), log row 11] -/
def State.meterFactory (s : State) : Bool := s.get F.METER_CFG_CORR_SOURCE == 0

/-! ### The engine's start and stop (R412 to R414) -/

/-- The ring of a metered channel: its position in GS0, GS1, GS2, GS4, GS5, GS6 gives its base (R413). -/
def meterRing (k : Nat) : Nat := 0x31070000 + 0x1000 * (if k < 19 then k - 16 else k - 17)

/-- One channel's ring is claimed and enabled (R413). -/
def State.meterClaim (s : State) (k : Nat) : State :=
  let s := (s.wr (R.CH_RING_BASE k) (w32 (meterRing k))).put (F.CH_RING_CTRL_SIZE_LOG2 k) 10
  (s.ringStart k).modCh k fun c => { c with claim := claimMeter }

/-- Metering has stopped: RUN reads 0 and the rings are released with EN = 0; no latch (R414, Table MTR-4). -/
def State.meterStop (s : State) : State :=
  if s.meterRun then
    let s := ((s.put F.METER_STATUS_RUN 0).put F.METER_CTRL_EN 0).put F.METER_STATUS_PHASES 0
    let s := s.forEach (meterChs s.gridTopo) fun s k =>
      (s.put (F.CH_RING_CTRL_EN k) 0).modCh k fun c => { c with claim := 0, entries := [], marks := [] }
    s.modMeter fun m => { m with cycles := [], sched := [], stopAt := none, due := none }
  else s

/-! ### A cycle's quantities (R415, R418, R419) -/

/-- Σ x_j·y_j·L_j over sub-intervals in binary64 (R415), from the first on, each operation rounded (log row 57).
[DEDUCED (unsafe), log row 57] -/
def wsum (xs ys ls : List Rat) : Rat := ((xs.zip ys).zip ls).foldl (fun a t => f64 (a + f64 (f64 (t.1.1 * t.1.2) * t.2))) 0

/-- The lengths of a cycle's 256 sub-intervals (R138). -/
def subLens (a b : Nat) : List Rat := (List.range 256).map fun j => ((subStart a b (j + 1) - subStart a b j : Nat) : Rat)

/-- The angle of DFT bin 1 of 256 samples, in degrees (R426). -/
def binAngle (xs : List Rat) : Rat :=
  let t := fun (j : Nat) => 2 * piR * (j : Rat) / 256
  let re := (xs.zipIdx.map fun p => p.1 * cosR (t p.2)).foldl (· + ·) 0
  let im := (xs.zipIdx.map fun p => p.1 * sinR (t p.2)).foldl (· + ·) 0
  atan2R (-im) re * 180 / piR

/-- Entries of a metered channel's ring from a ring index. -/
def State.ringWords (s : State) (k from_ n : Nat) : List Nat :=
  (List.range n).map fun j => (s.rdW (meterRing k + 4 * ((from_ + j) % 1024))).toNat

/-- A stream entry's code, as a fraction of full scale. -/
def entryVal (w : Nat) : Rat := ((signedOf 16 w : Int) : Rat) / 32768

/-- The image segment of a current in mA (R418). -/
def State.meterSeg (s : State) (p : Nat) (i : Rat) : Nat :=
  ((List.range 8).filter fun j => decide (((s.rd (R.METER_CORR p j)).toNat : Rat) ≤ i)).getLast?.getD 0

/-- A word of METER_FCORR (Table MTR-6): the factory's on -MT; 0, 1.0, 0 on -HT. [DESIGN CHOICE (safe), log row 11] -/
def factoryWord (r p s w : Nat) : Word :=
  if w = 3 then 0#32 else if Config.isMt then Config.factoryCorr r p s w else if w = 1 then 0x3F800000#32 else 0#32

/-- The factory segment of a current, as a fraction of full scale (R418). -/
def factorySeg (r p : Nat) (i : Rat) : Nat :=
  ((List.range 8).filter fun j => decide (((factoryWord r p j 0).toNat : Rat) / 65536 ≤ i)).getLast?.getD 0

/-- A phase correction's angle in degrees. -/
def corrDeg (w : Word) : Rat := ((signedOf 32 w.toNat : Int) : Rat) / 1000

/-- One phase of one cycle: p, q as sums over ticks (not divided by LEN), V_n, I_n, the total gain and angle with their
segments, the clamp, the angles and the sample flags; the products of each sub-interval for a scheduled latch. -/
structure PhaseCyc where
  vs : List Rat
  qs : List Rat
  is : List Rat
  vn : Rat
  iN : Rat
  g : Rat
  phi : Rat
  clamp : Bool
  seg : Nat
  fseg : Nat
  ang : Rat
  vAng : Rat
  flags : Nat

/-- The METER_PINFO flags of stream entries: bit 0 OVR or CLAMP, bit 1 REF_DIST, bit 2 CAL_INV (Table MTR-9). -/
def entryFlags (ws : List Nat) : Nat :=
  ws.foldl (fun m w => m ||| (b2n (bitOf w 16 || bitOf w 19) + 2 * b2n (bitOf w 17) + 4 * b2n (bitOf w 29))) 0

/-- The quantities of phase p over the cycle [a, b) whose samples start at a ring index (R415, R418, R426). -/
def State.phaseCyc (s : State) (p a b rd : Nat) : PhaseCyc :=
  let vw := s.ringWords (16 + p) rd 256
  let iw := s.ringWords (20 + p) rd 256
  let vs := vw.map entryVal
  let is := iw.map entryVal
  let ls := subLens a b
  let len : Rat := ((b - a : Nat) : Rat)
  let vn := f64 (sqrtR (f64 (wsum vs vs ls / len)))
  let iN := f64 (sqrtR (f64 (wsum is is ls / len)))
  let sg := s.meterSeg p (iN * (s.gc 0x288 4 : Rat))
  let r := s.get (F.CH_CFG_RANGE (20 + p))
  let fs := if s.meterFactory then factorySeg r p iN else 0
  let g0 := fRat (s.rd (R.METER_CORR p sg + 4))
  let a0 := corrDeg (s.rd (R.METER_CORR p sg + 8))
  let a1 := a0 + (if s.meterFactory then corrDeg (factoryWord r p fs 2) else 0)
  let phi := if s.meterFactory then clampR a1 (-5) 5 else a0
  let va := binAngle vs
  { vs := vs, is := is, qs := (s.ringWords (16 + p) (rd + 1024 - 64) 256).map entryVal, vn := vn, iN := iN,
    g := if s.meterFactory then g0 * fRat (factoryWord r p fs 1) else g0, phi := phi,
    clamp := s.meterFactory && decide (a1 ≠ phi), seg := sg, fseg := fs, ang := wrapR (binAngle is - va + phi) 180, vAng := va,
    flags := entryFlags (vw ++ iw) }

/-- P and Q of a phase, times ticks, over the sub-intervals from j on, n of them (R419). -/
def PhaseCyc.pq (c : PhaseCyc) (ls : List Rat) (j n : Nat) : Rat × Rat :=
  let cut := fun (l : List Rat) => (l.drop j).take n
  let p := wsum (cut c.vs) (cut c.is) (cut ls)
  let q := -(wsum (cut c.is) (cut c.qs) (cut ls))
  let t := c.phi * piR / 180
  (c.g * (p * cosR t - q * sinR t), c.g * (q * cosR t + p * sinR t))

/-- Energy for power times ticks, in 2^-32 micro-watt-hours (R419, R420), rounded to the nearest. [DEDUCED (unsafe), log row 57] -/
def energyUnits (pt : Rat) : Int := roundAway (pt * (125 / 100000000000) / 3600 * 1000000 * 4294967296)

/-- Adds an energy to the accumulator of its direction: q 0 export or injected, 1 the other (R420). [DEDUCED (unsafe), log row 57] -/
def State.accAdd (s : State) (q p : Nat) (pt : Rat) : State :=
  let e := energyUnits pt
  let k := 4 * (if 0 < pt then q else q + 1) + p
  s.modMeter fun m => { m with acc := m.acc.modify k fun x => x + e.natAbs }

/-- Adds the energies of the phases over a part of a cycle, and of their sum (R420). -/
def State.cycleEnergy (s : State) (cs : List (Nat × PhaseCyc)) (ls : List Rat) (j n : Nat) : State :=
  let es := cs.map fun c => (c.1, c.2.pq ls j n)
  let sum := es.foldl (fun a e => (a.1 + e.2.1, a.2 + e.2.2)) ((0 : Rat), (0 : Rat))
  (es ++ [(3, sum)]).foldl (fun (s : State) (e : Nat × Rat × Rat) =>
    let s := s.accAdd 0 e.1 e.2.1
    if s.meterFull then s.accAdd 2 e.1 e.2.2 else s) s

/-- Adds a cycle to the interval's sums of a phase (R426). -/
def State.intAdd (s : State) (p : Nat) (c : PhaseCyc) (v1 : Rat) (ls : List Rat) (len : Rat) : State :=
  let pq := c.pq ls 0 256
  s.modMeter fun m => { m with ph := m.ph.modify p fun x =>
    { v := x.v + c.vn * len, i := x.i + c.iN * (s.gc 0x288 4 : Rat) * len, p := x.p + pq.1, q := x.q + pq.2,
      s := x.s + c.g * c.vn * c.iN * len, ang := x.ang + c.ang * len, vang := x.vang + wrapR (c.vAng - v1) 180 * len,
      flags := x.flags ||| c.flags ||| 8 * b2n c.clamp, seg := c.seg, fseg := c.fseg } }

/-! ### Latches (R421 to R426) -/

/-- Step 1 for one accumulator: its whole part goes to the total and the delta (R421, R424). -/
def State.latchMove (s : State) (k : Nat) : State :=
  let w := s.meter.acc.get k / 4294967296
  let s := s.modMeter fun m =>
    { m with acc := m.acc.modify k fun x => x % 4294967296, tot := m.tot.modify k fun x => (x + w) % 2 ^ 64 }
  let d := (s.rd (R.METER_DELTA (k / 4) (k % 4))).toNat + w
  let s := (s.wr (R.METER_TOT_LO (k / 4) (k % 4)) (w32 (s.meter.tot.get k))).wr (R.METER_DELTA (k / 4) (k % 4)) (w32 d)
  if 2 ^ 32 ≤ d then s.set1 F.METER_STICKY_DELTA_WRAP else s

/-- P/S in steps of 0.0001, 0 where S is 0 (R426). -/
def pfCode (p q : Rat) : Nat := if q = 0 then 0 else unsignedOf 16 (roundAway (p / q * 10000))

/-- Step 2 of R421 for one phase, or for the sum with index 3 (R426). [DEDUCED (unsafe), log row 57] -/
def State.latchPhase (s : State) (p : Nat) (x : PhaseInt) (len : Rat) : State :=
  let m := fun (v : Rat) (k : Rat) => w32 (unsignedOf 32 (roundAway (v / len * k)))
  let s := (s.wr (R.METER_VRMS p) (m x.v 1073741824)).wr (R.METER_IRMS p) (m x.i 10)
  let s := ((s.wr (R.METER_P p) (m x.p 1000)).wr (R.METER_Q p) (m x.q 1000)).wr (R.METER_S p) (m x.s 1000)
  let s := s.wr (R.METER_PF p) (w32 (pfCode x.p x.s))
  s.wr (R.METER_ANGLE p) (w32 (unsignedOf 16 (roundAway (x.ang / len * 100)) * 65536 +
    unsignedOf 16 (roundAway (x.vang / len * 100))))

/-- Step 2 of R421, in FULL mode (R426); an interval without a metered cycle has nothing to publish. [DEDUCED (unsafe), log row 57] -/
def State.latchPublish (s : State) : State :=
  let len : Rat := (s.meter.len : Rat)
  let ps := meterPhases s.gridTopo
  if s.meterFull && s.meter.len != 0 then
    let xs := ps.map fun p => (p, s.meter.ph.get p)
    let tot := xs.foldl (fun (a : PhaseInt) x => { a with p := a.p + x.2.p, q := a.q + x.2.q, s := a.s + x.2.s }) default
    let s := (xs ++ [(3, tot)]).foldl (fun (s : State) (x : Nat × PhaseInt) => s.latchPhase x.1 x.2 len) s
    s.put F.METER_FREQ_FREQ (roundAway (8000000000000 * ((s.meter.n : Nat) : Rat) / len)).toNat
  else s

/-- METER_PINFO of the metered phases at a latch (R416, Table MTR-9). -/
def State.latchInfo (s : State) : State :=
  s.forEach (meterPhases s.gridTopo) fun s p =>
    let x := s.meter.ph.get p
    s.wr (R.METER_PINFO p) (w32 (2048 * b2n (bitOf x.flags 3) + 256 * bitsOf x.flags 0 3 + 16 * x.fseg + x.seg))

/-- Steps 1 and 2 of R421. [DEDUCED (unsafe), log row 57] -/
def State.latchTotals (s : State) : State := ((s.forEach (List.range 16) State.latchMove).latchPublish).latchInfo

/-! ### The Vault (R428 to R433) -/

/-- The address of a record slot. -/
def vaultSlot (k : Nat) : Nat := 0x10FE0000 + 0x40 * (k % 1024)

/-- The address of a tally slot. -/
def tallySlot (k : Nat) : Nat := 0x10FF0000 + 4 * (k % 1024)

/-- The bytes of a record (Table MTR-3). -/
def vaultRecord (ty flags seq latch rtc : Nat) (e : List Nat) (acc gap : Nat) : List Byte :=
  let b := leBytes 1 ty ++ leBytes 1 flags ++ leBytes 2 0 ++ leBytes 4 seq ++ leBytes 4 latch ++ leBytes 4 rtc ++
    e.flatMap (leBytes 8) ++ leBytes 4 acc ++ leBytes 4 gap ++ leBytes 4 0
  b ++ leBytes 4 (crc32 b)

/-- GAP_MS (Table MTR-3). -/
def State.gapMs (s : State) : Nat := satTo 32 (s.meter.gapBase + s.meter.gapAll / 800000)

/-- The four sums of a record: the sum's totals plus, for a PARTIAL, the whole parts of the accumulators; the reactive ones
read 0 in ENERGY mode (R432, R434, Table MTR-3). -/
def State.vaultSums (s : State) (part : Bool) : List Nat :=
  (List.range 4).map fun q =>
    if 2 ≤ q ∧ !s.meterFull then 0
    else s.meter.tot.get (4 * q + 3) + (if part then s.meter.acc.get (4 * q + 3) / 4294967296 else 0)

/-- The bytes of the next record of a type (1 PERIODIC, 2 PARTIAL). -/
def State.vaultBytes (s : State) (ty : Nat) : List Byte :=
  vaultRecord ty (b2n s.meterFull + 2 * b2n s.meter.recOvr + 4 * b2n s.meter.recGap) s.meter.seq
    (s.rd R.METER_LATCH_NO).toNat (s.rd R.PLINTH_RTC_SEC).toNat (s.vaultSums (ty == 2)) (if ty = 2 then s.meter.n else 0) s.gapMs

/-- n drawn bytes: the contents of MRAM that a failed write leaves. [DESIGN CHOICE (safe), log row 59] -/
def State.drawBytes (s : State) (n : Nat) : List Byte := (List.range n).map fun k => BitVec.ofNat 8 (Config.freeDraw (s.draws + k))

/-- Counts n draws. -/
def State.drewN (s : State) (n : Nat) : State := { s with draws := s.draws + n }

/-- One write of a record into a slot; bad: it reads back otherwise, and the slot holds what it holds (R430). The next record goes to
the slot after a record that was written well, the newest valid one. [DESIGN CHOICE (safe), log row 59] -/
def State.vaultPut (s : State) (k : Nat) (bs : List Byte) (bad : Bool) : State :=
  if bad then (s.wrBytes (vaultSlot k) (s.drawBytes 64)).drewN 64
  else (s.wrBytes (vaultSlot k) bs).modMeter fun m => { m with slot := (k + 1) % 1024 }

/-- A record has been written: the next SEQ; the cycles since are new ones. -/
def State.vaultNext (s : State) : State :=
  s.modMeter fun m => { m with seq := (m.seq + 1) % 2 ^ 32, recOvr := false, recGap := false }

/-- A PERIODIC or CHECKPOINT record: bad counts the mismatches at read-back, 0, 1 or 2 (R430). -/
def State.vaultWrite (s : State) (bs : List Byte) (bad : Nat) : State :=
  let k := s.meter.slot
  let s := s.vaultPut k bs (bad != 0)
  let s := if bad = 0 then s else s.vaultPut (k + 1) bs (bad != 1)
  let s := s.vaultNext
  if bad = 0 ∨ bad = 1 then s else s.raise FS.METER_VAULT_WRITE

/-- A PARTIAL record (R434); it is not retried (R430). With HSTORE at or above TH_START the write completes; below it the spec does not
say whether it does, and a drawn value decides. [DESIGN CHOICE (safe), log row 59] -/
def State.vaultPartial (s : State) : State :=
  if 168 ≤ s.plinth.hstore then (s.vaultPut s.meter.slot (s.vaultBytes 2) false).vaultNext
  else
    let bad := s.drawn % 2 == 1
    (s.drew.vaultPut s.meter.slot (s.vaultBytes 2) bad).vaultNext

/-- The tally word of a latch number (R433). -/
def tallyWord (n : Nat) : Nat :=
  let v := n % 2 ^ 24
  v * 256 + crc8 [v / 65536 % 256, v / 256 % 256, v % 256]

/-- An N-cycle latch at the end tick of its last cycle (R421); bad as for the record it may write. [DEDUCED (unsafe), log row 58] -/
def State.latch (s : State) (endTick bad : Nat) : State :=
  let s := s.latchTotals
  let n := ((s.rd R.METER_LATCH_NO).toNat + 1) % 2 ^ 32
  let s := (s.wr R.METER_LATCH_NO (w32 n)).wr R.METER_LATCH_TICK (w32 endTick)
  let s := s.modMeter fun m => { m with n := 0, len := 0, ph := [], due := none }
  let ev := s.get F.METER_CFG_VAULT_EVERY
  let s := if ev ≠ 0 ∧ n % ev = 0 then s.vaultWrite (s.vaultBytes 1) bad else s
  let s := (s.wrW (tallySlot s.meter.talSlot) (w32 (tallyWord n))).modMeter fun m => { m with talSlot := (m.talSlot + 1) % 1024 }
  s.set1 F.METER_STICKY_LATCH

/-- A record's fields. -/
def State.vaultFld (s : State) (k o n : Nat) : Nat := leNat (s.rdBytes (vaultSlot k + o) n)

/-- A slot is empty (Table MTR-3). -/
def State.vaultEmpty (s : State) (k : Nat) : Bool := s.vaultFld k 0 1 == 0 || s.vaultFld k 0 1 == 0xFF

/-- A record is valid (R431). -/
def State.vaultValid (s : State) (k : Nat) : Bool :=
  1 ≤ s.vaultFld k 0 1 && s.vaultFld k 0 1 ≤ 3 && s.vaultFld k 0x3C 4 == crc32 (s.rdBytes (vaultSlot k) 60)

/-- The slot of the newest valid record: the highest SEQ (R431). -/
def State.vaultNewest (s : State) : Option Nat :=
  (List.range 1024).foldl (fun b k =>
    if s.vaultEmpty k || !s.vaultValid k then b
    else match b with
      | none => some k
      | some j => if s.vaultFld j 4 4 < s.vaultFld k 4 4 then some k else b) none

/-- The tally word of a slot. -/
def State.tally (s : State) (k : Nat) : Nat := (s.rdW (tallySlot k)).toNat

/-- An erased tally slot. [DEDUCED (unsafe), log row 58] -/
def State.tallyEmpty (s : State) (k : Nat) : Bool := s.tally k == 0 || s.tally k == 2 ^ 32 - 1

/-- A tally word whose CRC matches. -/
def State.tallyValid (s : State) (k : Nat) : Bool := !s.tallyEmpty k && s.tally k == tallyWord (s.tally k / 256)

/-- A tally number, compared modulo 2^24 within ±2^23 of L (R433). -/
def tallyNo (l w : Nat) : Int := (l : Int) + signedOf 24 (unsignedOf 24 (((w / 256 : Nat) : Int) - l))

/-- The slot and number of the highest valid tally word (R431). [DEDUCED (unsafe), log row 58] -/
def State.tallyHighest (s : State) (l : Nat) : Option (Nat × Int) :=
  (List.range 1024).foldl (fun b k =>
    if !s.tallyValid k then b
    else match b with
      | none => some (k, tallyNo l (s.tally k))
      | some j => if j.2 < tallyNo l (s.tally k) then some (k, tallyNo l (s.tally k)) else b) none

/-- The records, and the tally words, that are invalid. -/
def State.vaultBad (s : State) : Nat × Nat :=
  (((List.range 1024).filter fun k => !s.vaultEmpty k && !s.vaultValid k).length,
   ((List.range 1024).filter fun k => !s.tallyEmpty k && !s.tallyValid k).length)

/-- The newest record is a PARTIAL with L equal to T or greater (R436). -/
def State.vaultWhole (s : State) (r : Option Nat) (l : Nat) (t : Int) : Bool :=
  match r with
  | some k => s.vaultFld k 0 1 == 2 && decide (t ≤ (l : Int))
  | none => false

/-- The scan of both rings at the power-up of PD6 (R431, R433, R436). VAULT_GAP sets without a valid record too, since the one case
R436 excepts is a PARTIAL, and GAP_LATCHES never exceeds VAULT_EVERY (log row 58). [DEDUCED (unsafe), log row 58] -/
def State.vaultScan (s : State) : State :=
  let r := s.vaultNewest
  let l := match r with | some k => s.vaultFld k 8 4 | none => 0
  let t := s.tallyHighest l
  let tn : Int := match t with | some x => x.2 | none => 0
  let bad := s.vaultBad
  let ev := s.get F.METER_CFG_VAULT_EVERY
  let tot : SMap Nat := (List.range 4).foldl (fun (m : SMap Nat) q =>
    m.set (4 * q + 3) (match r with
      | some k => if 2 ≤ q ∧ !s.meterFull then 0 else s.vaultFld k (0x10 + 8 * q) 8
      | none => 0)) []
  let s := s.modMeter fun m =>
    { m with tot := tot, slot := (match r with | some k => (k + 1) % 1024 | none => 0),
             seq := (match r with | some k => (s.vaultFld k 4 4 + 1) % 2 ^ 32 | none => 0),
             talSlot := (match t with | some x => (x.1 + 1) % 1024 | none => 0),
             gapBase := (match r with | some k => s.vaultFld k 0x34 4 | none => 0) }
  let s := s.forEach (List.range 4) fun s q => s.wr (R.METER_TOT_LO q 3) (w32 (s.meter.tot.get (4 * q + 3)))
  let s := if r.isNone then s.put F.METER_STATUS_VAULT_NEW 1 else s.wr R.METER_LATCH_NO (w32 (max tn (l : Int)).toNat)
  let s := s.put F.METER_VAULT_BAD (satTo 16 (s.get F.METER_VAULT_BAD + bad.1))
  let s := if bad.1 + bad.2 ≠ 0 then s.set1 F.METER_STICKY_VAULT_CRC else s
  let s := if s.vaultWhole r l tn then s
    else (s.stickyRaise F.METER_STICKY_VAULT_GAP FS.METER_VAULT_GAP).put F.METER_VAULT_GAP_LATCHES
      (let n := satTo 16 (tn - l + 1).toNat; if ev = 0 then n else min ev n)
  s.put F.METER_STATUS_VAULT_READY 1

/-! ### Power fail (R434, R435) -/

/-- A power-fail warning, or a reset that stops the METER block: a PARTIAL is written, and compaction ends (R434, R435,
R437). Until metering has been enabled nothing is written (Table SUP-8); after a stop the accumulators wait for this record (Table
MTR-4). The cycle in progress and later ones are not metered. -/
def State.meterWarn (s : State) : State :=
  let s := s.maintAbort Act.vaultCompact
  if !s.meter.used then s
  else
    let s := s.vaultPartial
    if s.meterRun then
      s.modMeter fun m =>
        { m with failAt := some s.epoch, outFrom := if m.failAt.isSome || m.resume then m.outFrom else s.epoch, resume := false }
    else s

/-- A cycle is not metered because of a power failure: it was in progress at the warning or came later, and it is not a complete one
since the restore (R434, R435). -/
def MeterState.failed (m : MeterState) (a b : Nat) : Bool :=
  decide (m.outFrom < b) && (m.failAt.isSome || (m.resume && decide (a < m.resumeFrom)))

/-- The highest VIN is back above VPF (R435): metering resumes at the next complete cycle, with an immediate latch.
[DEDUCED (unsafe), log row 58] -/
def State.meterRestore (s : State) : State :=
  match s.meter.failAt with
  | some _ => s.modMeter fun m => { m with failAt := none, resume := true, resumeFrom := s.epoch }
  | none => s

end Sys2Proof.Machine
end

