-- ==== Sys2Proof/Machine/Meter.lean ====
section
/-!
DEFINITION. The meanings of the metering and Vault commands (chapter 12).
-/

namespace Sys2Proof.Machine

/-! ### Enable and disable (R412 to R414) -/

/-- A write of EN = 1 is refused (R412, R613; a fenced SP runs nothing, R439; the rings it would enable, R135, R145). [DEDUCED (unsafe), log row 60] -/
def State.meterRefused (s : State) (i : Initiator) : Bool :=
  let chs := meterChs s.gridTopo
  i != .hpa || s.inFoyer || !s.hasSec Sec.metering 0 || !s.pdOn 6 || !s.pdOn 10 ||
  !s.flag F.EPOCH_STATUS_BAR_CAL_DONE || !s.flag F.METER_STATUS_VAULT_READY || s.flag F.CUR_FENCED_OTHER_SP ||
  chs.any (fun k => !s.flag (calValidF k) || s.ringOn k || s.chBurst k) || s.flag (calBusyF true) ||
  decide (24000000 < chs.foldl (fun n k => n + streamRate (s.get (F.CH_CFG_STREAM k))) s.ringRate) ||
  (s.meterFactory && (meterPhases s.gridTopo).any fun p => s.get (F.CH_CFG_RANGE (16 + p)) != 2)

/-- An accepted enable (R413, R415): the rings are claimed; the partial cycle in progress gives no cycle. [DEDUCED (unsafe), log row 56] -/
def State.meterStart (s : State) : State :=
  let s := s.forEach (meterChs s.gridTopo) State.meterClaim
  let j := (s.sens.ch.get 16).llNext
  let s := ((s.put F.METER_CTRL_EN 1).put F.METER_STATUS_RUN 1).put F.METER_STATUS_PHASES (2 ^ topoPhases s.gridTopo - 1)
  (s.wr R.METER_GAP 0).modMeter fun m =>
    { m with enTick := s.epoch, cycles := [], rd := 256 - j, hist := false, doneTo := s.epoch, gap := 0, stopAt := none,
             failAt := none, resume := false, sched := [], used := true }

/-- A write of METER_CTRL.EN = 1 (R412, R413): while the engine runs, its rings are enabled and the write is refused. -/
def State.meterEnable (s : State) (i : Initiator) : State :=
  if s.meterRefused i then s.cfgReject .meter
  else s.meterStart

/-- METER_ENABLE (R412, R413). -/
def execMeterEnable (i : Initiator) (s : State) : Res := .next (s.meterEnable i)

/-- A cycle that began at or before a tick is still to end or to be processed. [DEDUCED (unsafe), log row 56] -/
def State.meterCycleLeft (s : State) (t : Nat) : Bool :=
  !s.meter.cycles.isEmpty || s.meter.due.isSome || (s.sens.side.get 1).opened.any fun y => s.meter.enTick ≤ y.1 && y.1 ≤ t

/-- The engine stops once the cycle in progress at the write of EN = 0 has been processed (R414). -/
def State.meterStopCheck (s : State) : State :=
  match s.meter.stopAt with
  | some t => if s.meterCycleLeft t then s else s.meterStop
  | none => s

/-- A write of METER_CTRL.EN = 0 (R412, R414). -/
def State.meterDisable (s : State) (i : Initiator) : State :=
  if i != .hpa || s.inFoyer then s.cfgReject .meter
  else if s.flag F.METER_CTRL_EN then
    ((s.put F.METER_CTRL_EN 0).modMeter fun m => { m with stopAt := some s.epoch }).meterStopCheck
  else s

/-- METER_DISABLE (R414). -/
def execMeterDisable (i : Initiator) (s : State) : Res := .next (s.meterDisable i)

/-! ### A cycle (R415 to R422) -/

/-- Time to a tick is a gap (R415, R434). [DEDUCED (unsafe), log row 56] -/
def State.meterGap (s : State) (t : Nat) : State :=
  let d := t - s.meter.doneTo
  let s := s.modMeter fun m =>
    { m with gap := m.gap + d, gapAll := m.gapAll + d, recGap := m.recGap || d != 0, doneTo := max t m.doneTo }
  s.wr R.METER_GAP (w32 (satTo 32 (s.meter.gap / 800000)))

/-- A scheduled latch in a cycle (R422): steps 1, 2 and 6, the energy of the sub-intervals that end at or before its tick
added first. [DEDUCED (unsafe), log row 56] -/
def State.schedLatch (s : State) (cs : List (Nat × PhaseCyc)) (ls : List Rat) (a b j t : Nat) : State × Nat :=
  let j2 := ((List.range 256).filter fun i => subStart a b (i + 1) ≤ t).length
  let s := s.cycleEnergy cs ls j (j2 - j)
  ((s.latchTotals).set1 F.METER_STICKY_LATCH, max j j2)

/-- A cycle is metered (R418 to R422). -/
def State.meterCycleAdd (s : State) (a b bad : Nat) : State :=
  let cs := (meterPhases s.gridTopo).map fun p => (p, s.phaseCyc p a b s.meter.rd)
  let ls := subLens a b
  let len : Rat := ((b - a : Nat) : Rat)
  let v1 := match cs with | c :: _ => c.2.vAng | [] => 0
  let ovr := cs.any fun c => c.2.flags != 0
  let s := s.meterGap a
  let s := if ovr then s.set1 F.METER_STICKY_METER_OVR else s
  let s := if cs.any fun c => c.2.clamp then s.set1 F.METER_STICKY_CORR_CLAMP else s
  let s := cs.foldl (fun s c => s.intAdd c.1 c.2 v1 ls len) s
  let now := s.meter.sched.filter (· < b)
  let s := s.modMeter fun m =>
    { m with n := m.n + 1, len := m.len + (b - a), doneTo := b, recOvr := m.recOvr || ovr, sched := m.sched.filter (b ≤ ·) }
  let r := now.foldl (fun (r : State × Nat) t => r.1.schedLatch cs ls a b r.2 t) (s, 0)
  let s := r.1.cycleEnergy cs ls r.2 (256 - r.2)
  let due := s.meter.n ≥ s.get F.METER_CFG_LATCH_N || s.meter.resume
  let s := s.modMeter fun m => { m with resume := false }
  if due && (match s.meter.stopAt with | some t => decide (b ≤ t) | none => true) then
    if s.maintRuns Act.vaultCompact then s.modMeter fun m => { m with due := some b } else s.latch b bad
  else s

/-- A cycle that is not metered: its ticks are a gap, and the scheduled latches that fall in it act with what there is (R415, R422).
[DEDUCED (unsafe), log row 56] -/
def State.meterCycleSkip (s : State) (b : Nat) : State :=
  let now := s.meter.sched.filter (· < b)
  let s := (s.meterGap b).modMeter fun m => { m with sched := m.sched.filter (b ≤ ·) }
  now.foldl (fun s _ => (s.latchTotals).set1 F.METER_STICKY_LATCH) s

/-- The latch that waited for a compaction, once that has ended (R437). -/
def State.meterDue (s : State) (bad : Nat) : State :=
  match s.meter.due with
  | some b => if s.maintRuns Act.vaultCompact then s else (s.latch b bad).meterStopCheck
  | none => s

/-- The oldest complete cycle is processed (R415): overwritten, history, in a power failure, or metered. [DEDUCED (unsafe), log row 56] -/
def State.meterProcess (s : State) (a b bad : Nat) : State :=
  let rd := s.meter.rd
  let chs := meterChs s.gridTopo
  let lost := chs.any fun k => rd + 1024 < (s.rd (R.CH_RING_WR k)).toNat
  let fail := s.meter.failed a b
  let s := if lost then (s.stickyRaise F.METER_STICKY_CYCLE_LOST FS.METER_CYCLE_LOST).meterCycleSkip b
    else if !s.meter.hist || fail then s.meterCycleSkip b
    else s.meterCycleAdd a b bad
  (s.modMeter fun m => { m with cycles := m.cycles.tail, rd := rd + 256, hist := true }).meterStopCheck

/-- METER_CYCLE_PROCESS (R415 to R422): the samples of the oldest complete cycle are in the rings; bad counts the read-back
mismatches of the record a latch may write (R430). A latch that waited for a compaction that was aborted comes first. -/
def execMeterCycleProcess (bad : Nat) (s : State) : Res :=
  match s.meter.cycles with
  | [] => .next (s.meterDue bad)
  | (a, b) :: _ =>
    if s.meter.due.isSome && !s.maintRuns Act.vaultCompact then .next (s.meterDue bad)
    else if s.meterRun && (meterChs s.gridTopo).all (fun k => s.meter.rd + 256 ≤ (s.rd (R.CH_RING_WR k)).toNat) then
      .next (s.meterProcess a b bad)
    else .next s

/-- A METER_LATCH action at its tick (R422, Table EPOCH-3). -/
def State.meterLatchAt (s : State) (t : Nat) : State :=
  if s.meterRun then s.modMeter fun m => { m with sched := m.sched ++ [t] } else s

/-! ### The Vault, reads, the lockstep -/

/-- VAULT_SCAN (R431, R436). -/
def execVaultScan (s : State) : Res :=
  if s.pdOn 6 && !s.flag F.METER_STATUS_VAULT_READY then .next s.vaultScan else .next s

/-- A read of a delta: the value, and it is cleared (R424). -/
def State.deltaRead (s : State) (q p : Nat) : State × Word :=
  let v := s.rd (R.METER_DELTA q p)
  (s.wr (R.METER_DELTA q p) 0#32, v)

/-- METER_DELTA_READ (R424). -/
def execMeterDeltaRead (_i : Initiator) (q p : Fin 4) (s : State) : Res :=
  let r := s.deltaRead q p
  .next (r.1.answer r.2)

/-- A read of METER_TOT_LO latches the upper word (R423). -/
def State.totRead (s : State) (q p : Nat) : State × Word :=
  let v := s.meter.tot.get (4 * q + p)
  (s.wr (R.METER_TOT_HI q p) (w32 (v / 4294967296)), w32 v)

/-- METER_TOT_READ (R423). -/
def execMeterTotRead (_i : Initiator) (q p : Fin 4) (s : State) : Res :=
  let r := s.totRead q p
  .next (r.1.answer r.2)

/-- SP_LOCKSTEP_MISMATCH (R439, Table MTR-4): the source is raised and metering stops without a latch. -/
def execSpLockstepMismatch (s : State) : Res :=
  if s.pdOn 6 then .next ((s.meterStop).raise FS.SP_LOCKSTEP) else .next s

/-- The CHECKPOINT copy of a record (R437, Table MTR-3). -/
def State.checkpoint (s : State) (k : Nat) : List Byte :=
  vaultRecord 3 (s.vaultFld k 1 1) s.meter.seq (s.vaultFld k 8 4) (s.rd R.PLINTH_RTC_SEC).toNat
    ((List.range 4).map fun q => s.vaultFld k (0x10 + 8 * q) 8) 0 (s.vaultFld k 0x34 4)

/-- The compaction (R437): every record and tally word verified, the newest record written again, and the latch that waited
made. -/
def State.vaultCompact (s : State) (bad bad2 : Nat) : State :=
  let n := s.vaultBad
  let s := s.put F.METER_VAULT_BAD (satTo 16 (s.get F.METER_VAULT_BAD + n.1 + n.2))
  let s := if n.1 + n.2 ≠ 0 then s.set1 F.METER_STICKY_VAULT_CRC else s
  let s := match s.vaultNewest with
    | some k => s.vaultWrite (s.checkpoint k) bad
    | none => s
  let s := s.maintEnd Act.vaultCompact .ok
  s.meterDue bad2

/-- VAULT_COMPACT_END (R437): bad and bad2 count the read-back mismatches of the checkpoint and of the waiting latch's
record. -/
def execVaultCompactEnd (bad bad2 : Nat) (s : State) : Res :=
  if s.maintRuns Act.vaultCompact then .next (s.vaultCompact bad bad2) else .next s

end Sys2Proof.Machine
end

