-- ==== Sys2Proof/Machine/CuratorOps.lean ====
section
/-!
DEFINITION. The Curator's shared operations: severities over three copies, fences and their records, the safe state, a
raise and its reaction, the unfence (chapter 14).
-/

namespace Sys2Proof.Machine

/-- Changes the Curator's hidden state. -/
def State.modCur (s : State) (f : CuratorState → CuratorState) : State := { s with cur := f s.cur }

/-! ### Severities (R467, R478) -/

/-- Two of three. -/
def majority (a b c : Nat) : Nat := (a &&& b) ||| (a &&& c) ||| (b &&& c)

/-- How the majority of a source's three severity bytes differs from the byte stored (R478). -/
def State.curDev (s : State) (n : Nat) : Nat :=
  majority (s.cur.dev.get n) (s.cur.dev.get (256 + n)) (s.cur.dev.get (512 + n))

/-- The severity byte of a source, by majority. -/
def State.sevByte (s : State) (n : Nat) : Nat := bitsOf (s.rd (R.CUR_SEV (n / 4))).toNat (8 * (n % 4)) 8 ^^^ s.curDev n

/-- The severity of a source in force (R467). -/
def State.severity (s : State) (n : Nat) : Nat := bitsOf (s.sevByte n) 0 3

/-- The floor of a source. -/
def State.sevFloor (s : State) (n : Nat) : Nat := bitsOf (s.sevByte n) 4 3

/-- The three copies of a source's severity agree again. -/
def State.devClear (s : State) (n : Nat) : State :=
  s.modCur fun c => { c with dev := ((c.dev.set n 0).set (256 + n) 0).set (512 + n) 0 }

/-- A write of a severity (R36, R37, R465, R467). -/
def State.sevSet (s : State) (n v : Nat) : State :=
  s.liveGate .curator (F.CUR_SEV_SEV n) v fun s =>
    if !sevAllowed n v || v < s.sevFloor n then s.cfgReject .curator
    else (s.put (F.CUR_SEV_SEV n) v).devClear n

/-- A write of CUR_SEV(k): its four bytes (R467). -/
def State.curSevWrite (s : State) (k : Nat) (v : Word) : State :=
  s.forEach (List.range 4) fun s j => s.sevSet (4 * k + j) (bitsOf v.toNat (8 * j) 3)

/-! ### Fence records -/

/-- The code of a target in the fence records. -/
def keyUnit (u : Nat) : Nat := u
/-- The code of an input. -/
def keyInput (x : Nat) : Nat := 16 + x
/-- The code of a group. -/
def keyGroup (g : Nat) : Nat := 24 + g
/-- The code of a pair. -/
def keyPair (p : Nat) : Nat := 40 + p

/-- The units of a target (R465, Table CUR-4). -/
def State.keyUnits (s : State) (k : Nat) : List Nat :=
  if k < 14 then [k]
  else if k < 20 then [2 * (k - 16), 2 * (k - 16) + 1]
  else if k < 32 then s.groupUnits (2 ^ (k - 24))
  else maskIdx 14 (s.get (F.LP_CFG_COMMIT_MASK (k - 40)))

/-- The targets that hold a fence. -/
def State.fenceKeys (s : State) : List Nat := s.cur.fences.map (·.1)

/-- A fence covers a unit. -/
def State.unitCovered (s : State) (u : Nat) : Bool := s.fenceKeys.any fun k => (s.keyUnits k).contains u

/-- The sources that fenced a unit. -/
def State.unitSources (s : State) (u : Nat) : List Nat :=
  (s.cur.fences.filter fun r => (s.keyUnits r.1).contains u).flatMap (·.2)

/-- CUR_FENCED and ANY_FENCE follow the records (Table CUR-8). -/
def State.curFencedNow (s : State) : State :=
  let g := fun (lo n : Nat) => maskOf n fun k => s.fenceKeys.contains (lo + k)
  let s := ((s.put F.CUR_FENCED_UNITS (maskOf 14 s.unitCovered)).put F.CUR_FENCED_GROUPS (g 24 8)).put F.CUR_FENCED_PAIRS (g 40 6)
  s.put F.CUR_STATUS_ANY_FENCE (b2n (!s.cur.fences.isEmpty || s.rd R.CUR_FENCED_OTHER != 0))

/-! ### The safe state (R476, Table CUR-5) -/

/-- The device enters the safe state for a source; esc: by escalation (R207, R337). [DEDUCED (unsafe), log row 65] -/
def State.enterSafe (s : State) (n : Nat) (esc : Bool) : State :=
  if s.flag F.CUR_STATUS_SAFE then s
  else
    let s := s.put F.CUR_STATUS_SAFE 1
    let s := ((s.put F.CUR_SAFE_CAUSE_VALID 1).put F.CUR_SAFE_CAUSE_SRC n).put F.CUR_SAFE_CAUSE_ESC (b2n esc)
    let s := s.forEach (List.range 14) State.stopUnit
    let s := s.forEach (List.range 8) fun s h => (s.hbOff h).put (F.DRV_HB_STATUS_FENCED h) 1
    let s := s.forEach (List.range 6) State.laneSafe
    let s := s.relayLockout
    let s := s.forEach (List.range 6) State.pairHalt
    (((s.maintAbortAll).permitEnd).noteHolds).eventSend

/-! ### Fences (R463 to R465, Table CUR-4) -/

/-- One unit comes under a fence: the first source is recorded (Table CUR-8).
[DEDUCED (unsafe), log row 46; DEDUCED (unsafe), log row 49] -/
def State.curUnit (s : State) (n u : Nat) : State :=
  let s := if s.flag (F.CUR_UNIT_CAUSE_VALID u) then s
    else (s.put (F.CUR_UNIT_CAUSE_VALID u) 1).put (F.CUR_UNIT_CAUSE_SRC u) n
  s.fenceUnit u

/-- A target comes under a fence: its record, its pair, its units; true where the fence is escalated (R207, R337).
[DEDUCED (unsafe), log row 65] -/
def State.curTargetFence (s : State) (n k : Nat) : State × Bool :=
  let s := s.modCur fun c => { c with fences := c.fences.modify k fun l => if l.contains n then l else l ++ [n] }
  let s := if 40 ≤ k then ((s.put (F.LP_STATUS_PAIR_FENCED (k - 40)) 1).pairHalt (k - 40)).ivAbortIf (·.pair == k - 40) else s
  let us := s.keyUnits k
  (s.forEach us fun s u => s.curUnit n u,
   us.any fun u => 8 ≤ u && (40 ≤ k || s.flag (F.LANE_CFG_USED (u - 8))))

/-- Targets come under a fence, escalated where a rule says so. [DEDUCED (unsafe), log row 65] -/
def State.curFence (s : State) (n : Nat) (ks : List Nat) : State :=
  let r := ks.foldl (fun (r : State × Bool) k => let q := r.1.curTargetFence n k; (q.1, r.2 || q.2)) (s, false)
  let s := r.1.curFencedNow
  if r.2 then s.enterSafe n true else s

/-- FENCE_GROUP: the groups of the target's units; a unit in no group is fenced as a unit; a target without units acts as
under FENCE_UNIT (R465). -/
def State.toGroups (s : State) (ks : List Nat) : List Nat :=
  let us := ks.flatMap s.keyUnits
  if us.isEmpty then ks
  else
    ((List.range 8).filter fun g => us.any fun u => s.inGroups u (2 ^ g)).map keyGroup ++
    ((us.filter fun u => s.get (F.PWM_CFG_GROUPS u) == 0).map keyUnit).eraseDups

/-- HPB is fenced: units it owns that stand in no enabled pair's mask stop (Table CUR-4, R606). -/
def State.hpbUnitsStop (s : State) : State :=
  s.forEach ((List.range 14).filter fun u => s.get (F.PWM_CTRL_OWNER u) == 1 && (s.unitPair u).isNone) State.stopUnit

/-- What a fence during a command puts back, as it stands (R591). -/
def State.svSnap (s : State) : SvUndo :=
  { pm := s.sv.pm, hash := s.sv.hash, key := s.sv.key, revoked := s.sv.revoked, strict := s.sv.strict, arbFw := s.sv.arbFw
    arbImg := s.sv.arbImg, arbApp := s.sv.arbApp, replay := s.sv.replay, stage := s.sv.stage, permitTo := s.sv.permitTo
    permitted := s.sv.permitted
    words := [R.SV_INFO, R.SV_ARB, R.SV_BOOT, R.SYS_IMG_STATUS, R.SYS_IMG_SELECT].map fun a => (a, s.rd a) }

/-- What a command changed is put back (R591). [DEDUCED (unsafe), log row 121] -/
def State.svBack (s : State) (u : SvUndo) : State :=
  u.words.foldl (fun (s : State) e => s.wr e.1 e.2) (s.modSv fun v =>
    { v with pm := u.pm, hash := u.hash, key := u.key, revoked := u.revoked, strict := u.strict, arbFw := u.arbFw
             arbImg := u.arbImg, arbApp := u.arbApp, replay := u.replay, stage := u.stage, permitTo := u.permitTo
             permitted := u.permitted, undo := none })

/-- A fence of Svauth (R565, R591): a command that it has not completed, GET_INFO apart, ends with FENCED and changes no PM, counter,
OTP or slot; a verification that waits for the end of a write is not made. [DEDUCED (unsafe), log row 121] -/
def State.svFence (s : State) : State :=
  let run := (List.range 3).filter fun ch => (s.sv.chan.get ch).served && (s.sv.chan.get ch).op != 1
  let s := if run.isEmpty then s else match s.sv.undo with
    | some u => s.svBack u
    | none => s
  let s := s.modSv fun v => { v with stage := v.stage.map fun g => { g with ending := false } }
  s.forEach run fun s ch => s.modSv fun v => { v with chan := v.chan.modify ch fun c => { c with result := 7, rsp := [] } }

/-- A fence of one of the other targets (Table CUR-4): 0 SP, 1 HPB, 2 Svauth, 3 PLC. -/
def State.curOther (s : State) (k : Nat) : State :=
  let s := (s.put ⟨R.CUR_FENCED_OTHER, k, 1⟩ 1).curFencedNow
  if k = 0 then (s.meterStop).arcStopAll
  else if k = 1 then s.hpbUnitsStop
  else if k = 2 then s.svFence
  else if k = 3 then s.plcFence
  else s

/-- The reaction of FENCE_UNIT, or of FENCE_GROUP (R463, R465). -/
def State.curReact (s : State) (n info : Nat) (group : Bool) : State :=
  let f := fun (ks : List Nat) => s.curFence n (if group then s.toGroups ks else ks)
  match curTarget n with
  | .none => s
  | .wcGroups c => f ((maskIdx 8 (s.get (F.WC_CFG_GROUPS c))).map keyGroup)
  | .failedWc => f ((maskIdx 8 (s.get (F.WC_CFG_GROUPS info))).map keyGroup)
  | .infoUnit => f [keyUnit info]
  | .pair p => f [keyPair p]
  | .unit u => f [keyUnit u]
  | .input x => f [keyInput x]
  | .sp => s.curOther 0
  | .hpb => s.curOther 1
  | .svauth => s.curOther 2
  | .plc => s.curOther 3
  | .device => s.enterSafe n false

/-- The sticky bit of a source (R470). -/
def stickyF (n : Nat) : Fld := ⟨R.CUR_STICKY (n / 32), n % 32, 1⟩

/-- CUR_INFO takes the unit of a PWM_CHECK or DRV_GATE (Table CUR-8). -/
def State.curInfo (s : State) (n info : Nat) : State :=
  if n = FS.PWM_CHECK then s.put F.CUR_INFO_PWM_UNIT info
  else if n = FS.DRV_GATE then s.put F.CUR_INFO_DRV_UNIT info
  else s

/-- One raise at the Curator: its sticky bit and the reaction of the severity in force (R463); in the safe state the sticky
bit alone (R477). [DEDUCED (unsafe), log row 66] -/
def State.curRaise (s : State) (r : Raise) : State :=
  let s := s.set1 (stickyF r.src)
  if s.flag F.CUR_STATUS_SAFE then s
  else
    let s := s.curInfo r.src r.info
    let v := s.severity r.src
    if v = 4 then s.enterSafe r.src false
    else if v = 2 then s.curReact r.src r.info false
    else if v = 3 then s.curReact r.src r.info true
    else s

/-- CUR_FIRST takes the lowest source of the first cycle with a raise (R471, R477). -/
def State.curFirst (s : State) (rs : List Raise) : State :=
  if s.flag F.CUR_FIRST_VALID || rs.isEmpty then s
  else
    let n := rs.foldl (fun m r => min m r.src) 255
    ((s.put F.CUR_FIRST_VALID 1).put F.CUR_FIRST_SRC n).wr R.CUR_FIRST_TICK s.now32

/-- The raises that reach the Curator in one cycle. [DESIGN CHOICE (unsafe), log row 18] -/
def State.curCycle (s : State) (rs : List Raise) : State :=
  rs.foldl State.curRaise (s.curFirst rs)

/-! ### Unfence (R474, R475) -/

/-- A source whose fence of a unit ends only at a reset: the interlock (R305, Table CUR-4). [DEDUCED (unsafe), log row 65] -/
def resetOnly (n : Nat) : Bool := (91 ≤ n && n ≤ 98) || (108 ≤ n && n ≤ 113)

/-- The record a KIND and INDEX name, where it is one that CUR_UNFENCE can end. -/
def unfenceKey (kind ix : Nat) : Option Nat :=
  if kind = 1 ∧ ix < 14 then some (keyUnit ix)
  else if kind = 2 ∧ ix < 4 then some (keyInput ix)
  else if kind = 3 ∧ ix < 8 then some (keyGroup ix)
  else none

/-- An unfence of a target is accepted (R474). [DEDUCED (unsafe), log row 65] -/
def State.unfenceOk (s : State) (k : Nat) : Bool :=
  !s.flag F.CUR_STATUS_SAFE && s.fenceKeys.contains k &&
  (s.keyUnits k).all fun u => (s.unitSources u).all fun n => !s.flag (stickyF n) && !resetOnly n

/-- A unit leaves its fence (R475). -/
def State.unitUnfence (s : State) (u : Nat) : State :=
  let s := ((s.put (F.PWM_STATUS_STATE u) 0).enterHeld u).modPwm u fun p =>
    { p with counting := false, frozenAt := if p.counting then s.epoch else p.frozenAt }
  let s := s.wr (R.CUR_UNIT_CAUSE u) 0
  if u < 8 then s.put (F.DRV_HB_STATUS_FENCED u) 0
  else if s.laneState (u - 8) = 3 then s.put (F.LANE_STAT_STATE (u - 8)) 0 else s

/-- The fence of a target ends (R475). -/
def State.unfence (s : State) (k : Nat) : State :=
  let us := s.keyUnits k
  let s := s.modCur fun c => { c with fences := c.fences.set k [] }
  let s := s.forEach us fun s u => if s.unitCovered u then s else s.unitUnfence u
  (s.curFencedNow).noteHolds

/-- A refused unfence (R474). -/
def State.unfenceRefused (s : State) : State := (s.set1 F.CUR_LSTICKY_UNFENCE_REFUSED).raise FS.CURATOR_CFG

/-- A write of CUR_UNFENCE (R474). [DEDUCED (unsafe), log row 65] -/
def State.curUnfenceWrite (s : State) (i : Initiator) (v : Word) : State :=
  match unfenceKey (bitsOf v.toNat 8 8) (bitsOf v.toNat 0 8) with
  | some k => if i == .hpa && bitsOf v.toNat 16 16 == 0xF3C5 && s.unfenceOk k then s.unfence k else s.unfenceRefused
  | none => s.unfenceRefused

/-! ### Fault injection (R480) -/

/-- Injection is possible: TEST_MODE high and a factory permit. -/
def State.injectAble (s : State) : Bool := s.pins.testMode && s.get F.SV_INFO_PERMIT == 3

/-- The place an injected raise names: what CUR_INFO holds; a comparator, which the rules do not name, is drawn.
[DEDUCED (unsafe), log row 67] -/
def State.injectInfo (s : State) (n : Nat) : Nat :=
  if n = FS.PWM_CHECK then s.get F.CUR_INFO_PWM_UNIT
  else if n = FS.DRV_GATE then s.get F.CUR_INFO_DRV_UNIT
  else if n = FS.WCMP_TEST_FAIL then s.drawn % 24
  else 0

/-- CUR_INJECT with MODE 1 (R480). [DEDUCED (unsafe), log row 67] -/
def State.injectRaise (s : State) (n : Nat) : State :=
  if s.injectAble && n < 192 then
    let s := s.raiseAt n (s.injectInfo n)
    if n = FS.WCMP_TEST_FAIL then s.drew else s
  else s.cfgReject .curator

/-- CUR_INJECT with MODE 2 (R480): the copy of the byte takes a value the rules do not name. [DEDUCED (unsafe), log row 67] -/
def State.injectCorrupt (s : State) (copy n : Nat) : State :=
  if s.injectAble && n < 192 && copy < 3 then
    (s.modCur fun c => { c with dev := c.dev.set (256 * copy + n) (s.drawn % 255 + 1) }).drew
  else s.cfgReject .curator

/-- A write of CUR_INJECT (R480). -/
def State.curInjectWrite (s : State) (v : Word) : State :=
  let m := bitsOf v.toNat 8 2
  if m = 1 then s.injectRaise (bitsOf v.toNat 0 8)
  else if m = 2 then s.injectCorrupt (bitsOf v.toNat 16 2) (bitsOf v.toNat 0 8)
  else s.cfgReject .curator

/-- Every copy is rewritten from the majority; the copies differed (R478). [DEDUCED (unsafe), log row 67] -/
def State.curVote (s : State) : State :=
  let s := s.forEach (List.range 192) fun s n =>
    if s.curDev n = 0 then s.devClear n
    else (s.put ⟨R.CUR_SEV (n / 4), 8 * (n % 4), 8⟩ (s.sevByte n)).devClear n
  s.stickyRaise F.CUR_LSTICKY_VOTE_ERR FS.CURATOR_VOTE

/-- FAULT_N is driven low (R63, R472, R605, R613, Table SUP-7); with PD1 off it is not driven. [DEDUCED (unsafe), log row 71] -/
def State.faultNLow (s : State) : Bool :=
  s.pdOn 1 &&
  (s.flag F.CUR_STATUS_SAFE || s.clk.failHold || s.inFoyer || !s.flag F.SYS_START_DONE || s.start.resetAt.isSome ||
   (s.flag F.CUR_CTRL_FAULTN_FENCE && s.flag F.CUR_STATUS_ANY_FENCE))

end Sys2Proof.Machine
end

