-- ==== Sys2Proof/Machine/Diag.lean ====
section
/-!
DEFINITION. Arc detection, I-V traces, the insulation check and the maintenance arbiter's requests (chapter 13).
-/

namespace Sys2Proof.Machine

/-! ### Arc detection (R441 to R448) -/

/-- An enable of arc detection on an input is refused (R441, and R135 for a member of a burst group). -/
def State.arcRefused (s : State) (i : Initiator) (x : Nat) : Bool :=
  let k := 4 + x
  i != .hpa || s.inFoyer || !s.pdOn 6 || bitOf (s.rd R.CUR_FENCED_OTHER).toNat 0 || s.get (F.CH_CFG_STREAM k) != 2 ||
  !bitOf (s.get (F.CH_CFG_DEST k)) 6 || !s.flag (calValidF k) || s.ringOn k || s.flag F.SENSP_STATUS_CAL_BUSY ||
  decide (24000000 < s.ringRate + streamRate 2) || s.chBurst k ||
  (List.range 8).any fun b => s.get (F.DIAG_ARC_BAND_HI_BIN x b) < s.get (F.DIAG_ARC_BAND_LO_BIN x b)

/-- A write of EN = 1 for an input (R441, R442): the ring is SP's; the first frame is the first whose samples all lie
ahead. A write for an input that already runs finds its ring enabled, and is refused (log row 61). [DEDUCED (unsafe), log row 61] -/
def State.arcEnable (s : State) (i : Initiator) (x : Nat) : State :=
  if s.arcRefused i x then s.cfgReject .diag
  else
    let k := 4 + x
    let s := (s.wr (R.CH_RING_BASE k) (w32 (0x31060000 + 0x2000 * x))).put (F.CH_RING_CTRL_SIZE_LOG2 k) 11
    let s := (s.ringStart k).modCh k fun c => { c with claim := claimArc }
    let t := (s.sens.ch.get k).nextT
    ((s.put (arcEnF x) 1).put (F.DIAG_ARC_STAT_STATE x) 1).modArc x fun a =>
      { a with warm := 0, base := [], results := [], frame := (t - 400 + 409599) / 409600 }

/-- ARC_ENABLE (R441, R442). -/
def execArcEnable (i : Initiator) (x : Fin 4) (s : State) : Res := .next (s.arcEnable i x)

/-- A write of EN = 0 for an input (R441, R442). -/
def State.arcDisable (s : State) (i : Initiator) (x : Nat) : State :=
  if i ≠ .hpa ∨ s.inFoyer then s.cfgReject .diag else s.arcStop x

/-- ARC_DISABLE (R442). -/
def execArcDisable (i : Initiator) (x : Fin 4) (s : State) : Res := .next (s.arcDisable i x)

/-- ARC_FRAME_EVALUATE (R443 to R447): the last sample of the next frame has been written. -/
def execArcFrameEvaluate (x : Fin 4) (s : State) : Res :=
  let f := 409600 * ((s.diag.arc.get x).frame + 1)
  if s.arcOn x && f ≤ s.epoch && f < (s.sens.ch.get (4 + x)).nextT &&
      s.arcIndex x f < (s.rd (R.CH_RING_WR (4 + x))).toNat then
    .next (s.arcFrame x)
  else .next s

/-! ### I-V traces (R449, R450) -/

/-- IV_TRACE_POINT (R450): the dwell of the point in progress has passed; the next point begins. -/
def execIvTracePoint (x : Fin 4) (s : State) : Res :=
  let t := s.diag.iv.get x
  if s.maintRuns (Act.ivTrace x) && t.point < 511 && t.at_ (t.point + 1) ≤ s.mono then
    .next ((s.ivEntry x).ivSlots t.pair 0x3F800000#32 (t.ref (t.point + 1)))
  else .next s

/-- IV_TRACE_END (R449, R450): after the last point the slots return to 0.0; a point without a window makes it FAIL. -/
def execIvTraceEnd (x : Fin 4) (s : State) : Res :=
  let t := s.diag.iv.get x
  if s.maintRuns (Act.ivTrace x) && t.point == 511 && t.at_ 512 ≤ s.mono then
    let s := s.ivEntry x
    if (s.diag.iv.get x).noWin = 0 then .next (s.ivFinish x .ok)
    else .next ((s.set1 F.DIAG_STICKY_IV_NOWIN).ivFinish x .fail)
  else .next s

/-! ### The insulation check (R451, R452) -/

/-- The calibrated PS12 code of a sum over 200,000,000 ticks, not rounded (R116, R451). -/
def State.isoCode (s : State) (sum : Int) : Rat :=
  let f := s.calFactors 12
  (40960 * ((sum : Rat) / 200000000) - f.1) * f.2

/-- The result of the check from V_A and V_B in volts (R452): STATE and VALUE, and the resistance in 0.1 kOhm where it is
judged against ISO_LIMIT. [DEDUCED (unsafe), log row 63] -/
def State.isoResult (s : State) (va vb : Rat) : Nat × Nat × Option Rat :=
  let ra : Rat := (s.get F.DIAG_ISO_RFACT_R_ATT : Rat)
  let rb0 : Rat := (s.get F.DIAG_ISO_RFACT_R_BIAS : Rat)
  let rb := ra * rb0 / (ra + rb0)
  let den := vb / rb - va / ra
  if -1/2 < va ∧ va < 1/2 then (3, 0, none)
  else if den = 0 then (1, 200000, none)
  else
    let r := (va - vb) / den
    if 200000 < r then (1, 200000, none)
    else if r < 100 then (2, 100, some r)
    else (0, (roundAway r).toNat, some r)

/-- The end of the check. -/
def State.isoEnd (s : State) (cb : Rat) : State :=
  let ca := s.diag.iso.va
  let r := s.isoResult (ca / 32768 * 80) (cb / 32768 * 80)
  let cw := fun (c : Rat) => unsignedOf 16 (clampInt (roundAway c) (-32768) 32767)
  let s := ((s.put F.DIAG_ISO_RESULT_STATE r.1).put F.DIAG_ISO_RESULT_VALUE r.2.1).wr R.DIAG_ISO_V (w32 (cw cb * 65536 + cw ca))
  let s := s.maintEnd Act.isoCheck .ok
  match r.2.2 with
  | some v => if v < (s.get F.DIAG_ISO_LIMIT_LIMIT : Rat) then s.stickyRaise F.DIAG_STICKY_ISO_LOW FS.DIAG_ISO_LOW else s
  | none => s

/-- The ticks from the grant at which the events of Table ARB-1 fall. -/
def isoAt (n : Nat) : Nat := if n = 0 then 400000000 else if n = 1 then 600000000 else if n = 2 then 1000000000 else 1200000000

/-- R_BIAS is switched in: state B of the check (Table ARB-1). -/
def State.isoBiased (s : State) : Bool := s.maintRuns Act.isoCheck && (s.diag.iso.step == 2 || s.diag.iso.step == 3)

/-- ISO_CHECK_STEP (R451, R452): the next event of Table ARB-1; sum is the sum of PS12's bits over the accumulation that
ends there. -/
def execIsoCheckStep (sum : Int) (s : State) : Res :=
  let c := s.diag.iso
  if s.maintRuns Act.isoCheck && c.grant + isoAt c.step ≤ s.mono then
    if c.step = 3 then .next (s.isoEnd (s.isoCode sum))
    else
      .next { s with diag := { s.diag with iso :=
        { c with step := c.step + 1, va := if c.step = 1 then s.isoCode sum else c.va } } }
  else .next s

/-! ### Requests (R456) -/

/-- REQUEST_SENS_CAL_P (R456, R156). -/
def execRequestSensCalP (i : Initiator) (s : State) : Res := .next (s.maintArrive s.epoch (.reg i) 1)
/-- REQUEST_SENS_CAL_G (R456, R156). -/
def execRequestSensCalG (i : Initiator) (s : State) : Res := .next (s.maintArrive s.epoch (.reg i) 2)
/-- REQUEST_WCMP_TEST (R456). -/
def execRequestWcmpTest (i : Initiator) (s : State) : Res := .next (s.maintArrive s.epoch (.reg i) 3)
/-- REQUEST_IV_TRACE (R456). -/
def execRequestIvTrace (i : Initiator) (x : Fin 4) (s : State) : Res := .next (s.maintArrive s.epoch (.reg i) (4 + x))
/-- REQUEST_ISO_CHECK (R456). -/
def execRequestIsoCheck (i : Initiator) (s : State) : Res := .next (s.maintArrive s.epoch (.reg i) 8)
/-- REQUEST_RELAY_CHECK (R393, R456). -/
def execRequestRelayCheck (i : Initiator) (s : State) : Res := .next (s.maintArrive s.epoch (.reg i) 9)
/-- REQUEST_VAULT_COMPACT (R456). -/
def execRequestVaultCompact (i : Initiator) (s : State) : Res := .next (s.maintArrive s.epoch (.reg i) 11)
/-- REQUEST_BIST_PERIODIC (R456). -/
def execRequestBistPeriodic (i : Initiator) (s : State) : Res := .next (s.maintArrive s.epoch (.reg i) 12)
/-- REQUEST_MRAM_PROGRAM (R456): from a staging path, or a register write, which no initiator may make (Table ARB-4). -/
def execRequestMramProgram (from_ : Option Initiator) (s : State) : Res :=
  .next (s.maintArrive s.epoch (match from_ with | some i => .reg i | none => .staging) 10)

/-- BIST_PERIODIC_DUE (R456, Table ARB-4): the device requests at each multiple of 40,000,000 ticks. -/
def execBistPeriodicDue (s : State) : Res :=
  if s.bistDue then .next (s.maintOne s.epoch (.device, 12)) else .next s

/-- BIST_PERIODIC_END (R458, R460). -/
def execBistPeriodicEnd (fault : Bool) (s : State) : Res :=
  if s.maintRuns Act.bist then
    if fault then .next ((s.maintEnd Act.bist .fail).stickyRaise F.DIAG_STICKY_BIST_FAIL FS.DIAG_BIST_FAIL)
    else .next (s.maintEnd Act.bist .ok)
  else .next s

end Sys2Proof.Machine
end

