-- ==== Sys2Proof/Machine/GridLend.lean ====
section
/-!
DEFINITION. What the GRID block reads at a commit of the grid pair, and the line-cycle crossings it takes from it (R343, R346, R347).
-/

namespace Sys2Proof.Machine

/-- Reads words 48 to 61 of the grid pair's loan out (R343). -/
def State.gridIn (s : State) (p : Nat) : GridIn :=
  let w := fun k => fRat (s.loanWord p k)
  { v := (List.range (topoPhases s.gridTopo)).map fun k => w (52 + k), f := w 55, theta := w 56, omega := w 57, p := w 58,
    valid := w 60 == 1, forming := w 61 == 1, b := (s.loop.get p).target }

/-- The mean of the topology's V(p). -/
def GridIn.mean (g : GridIn) : Rat := g.v.foldl (· + ·) 0 / (g.v.length : Nat)
/-- The highest V(p). -/
def GridIn.high (g : GridIn) : Rat := g.v.foldl max 0
/-- The lowest V(p). -/
def GridIn.low (g : GridIn) : Rat := match g.v with | [] => 0 | x :: t => t.foldl min x

/-- A frequency lies within 45 to 66 Hz. -/
def inBand (f : Rat) : Bool := 45 ≤ f && f ≤ 66

/-- Ticks per turn of the phase lent: per is those of a cycle (R346). An omega of 0 gives none: free. [DESIGN CHOICE (unsafe), log row 8] -/
def Lent.per (l : Lent) : Rat := if l.omega = 0 then Config.realFn 9 l.theta else 800000000 * (2 * piR) / l.omega

/-- The first crossing after B* of the phase lent (tz of R346). -/
def Lent.tz (l : Lent) : Rat := (l.b : Rat) + fmodR (-piR / 2 - l.theta + 4 * piR) (2 * piR) / (2 * piR) * l.per

/-- The first crossing at or after a time, to the nearest tick, halves upward (R346). -/
def Lent.crossing (l : Lent) (t : Rat) : Int :=
  roundUp (l.tz + l.per * (((t - l.tz) / l.per).ceil.toNat : Nat))

/-- The first boundary C_0 (R347): announced at the first commit after the enable that lends a phase, with BAR_CAL_DONE = 1: the first
crossing at least 1,600 ticks after this commit. [DEDUCED (unsafe), log row 51] -/
def State.gridFirst (s : State) (l : Lent) : State :=
  if s.grid.cNext.isSome || !s.flag F.EPOCH_STATUS_BAR_CAL_DONE then s
  else
    let c := (l.crossing ((s.epoch + 1600 : Nat) : Rat)).toNat
    let s := s.modGrid fun d => { d with cNext := some c, cPrev := none }
    s.forEach [0, 1] fun s i =>
      { s with sens := { s.sens with side := s.sens.side.modify i fun d => { d with ann := d.ann ++ [{ ci := none, cn := c }] } } }

/-- The GRID block reads what a commit of the grid pair lends (R343): the phase and frequency for the line cycles (R346, R347, R368), how
long VALID has been 0.0 (R378); the evaluation is due (R344). -/
def State.gridCommit (s : State) (p : Nat) : State :=
  if s.gridPair ≠ some p then s
  else
    let g := s.gridIn p
    let since := if g.valid then none else some (s.grid.invalid.getD s.mono)
    let s := s.modGrid fun x => { x with due := true, inp := g, invalid := since }
    if (g.valid || g.forming) && inBand g.f then
      let l : Lent := { theta := g.theta, omega := g.omega, f := g.f, b := g.b, at_ := s.epoch }
      (s.modGrid fun x => { x with lent := some l }).gridFirst l
    else s

end Sys2Proof.Machine
end

