-- ==== Sys2Proof/Machine/Grid.lean ====
section
/-!
DEFINITION. The GRID block's evaluation after each commit of the grid pair, its line-cycle boundaries and its probes
(chapters 10 and 11).
-/

namespace Sys2Proof.Machine

/-- What an evaluation reports of its commit (R350, R360, Table GSP-8). -/
def State.gridTake (s : State) (g : GridIn) : State :=
  let s := s.put F.GRID_STATUS_VALID (b2n g.valid)
  let cv := fun (x : Rat) => satTo 16 (roundAway (x * 100)).toNat
  let s := (s.put F.GRID_V_HIGH (cv g.high)).put F.GRID_V_MEAN (cv g.mean)
  if g.valid then
    (s.put F.GRID_FREQ_FREQ (satTo 20 (roundAway (g.f * 10000)).toNat)).modGrid fun x => { x with fLast := g.f, vMean := g.mean }
  else s.set1 F.GRID_STICKY_VALID_LOST

/-! ### Curves and regions (R372 to R378, R382) -/

/-- Regions by rank: 0 NORMAL, 1 PERMISSIVE, 2 MANDATORY, 3 CESSATION, 4 TRIP (R377, Table RTI-11). -/
def regionRank (code : Nat) : Nat := if code = 0 then 2 else if code = 1 then 1 else if code = 2 then 3 else 4

/-- POINTS of a curve (R372). -/
def State.curvePoints (s : State) (c : Nat) : Nat := min (s.gc (0x80 * c) 1) 16
/-- LEVEL of a curve's point. -/
def State.curveLevel (s : State) (c j : Nat) : Rat := (s.gc (0x80 * c + 1 + 8 * j) 2 : Rat)
/-- TIME of a curve's point (ms). -/
def State.curveTime (s : State) (c j : Nat) : Nat := s.gc (0x80 * c + 3 + 8 * j) 4
/-- REGION of a curve's point. -/
def State.curveRegion (s : State) (c j : Nat) : Nat := s.gc (0x80 * c + 7 + 8 * j) 1

/-- The evaluated value of a curve (R374): 0 OV, 1 UV, 2 OF, 3 UF. -/
def State.curveValue (s : State) (g : GridIn) (c : Nat) : Rat :=
  if c = 0 then g.high / s.vNom * 10000 else if c = 1 then g.low / s.vNom * 10000 else g.f * 1000

/-- Whether a point of a curve is entered after a valid evaluation (R375). -/
def State.pointNext (s : State) (g : GridIn) (c j : Nat) (now : Option Nat) : Option Nat :=
  let x := s.curveValue g c
  let l := s.curveLevel c j
  let h : Rat := if c < 2 then 50 else 20
  let past := c == 0 || c == 2
  match now with
  | none => if (if past then l < x else x < l) then some s.mono else none
  | some t => if (if past then x ≤ l - h else l + h ≤ x) then none else some t

/-- The curves' points after a valid evaluation. [DEDUCED (unsafe), log row 52] -/
def State.curvesStep (s : State) (g : GridIn) : State :=
  s.forEach (List.range 4) fun s c => s.forEach (List.range (s.curvePoints c)) fun s j =>
    s.modGrid fun x => { x with entered := x.entered.set (16 * c + j) (s.pointNext g c j (x.entered.get (16 * c + j))) }

/-- Point j of a curve trips (R376, rule 2). -/
def State.pointTrips (s : State) (c j : Nat) : Bool :=
  match s.grid.entered.get (16 * c + j) with
  | none => false
  | some t => s.curveRegion c j == 3 || (s.curveTime c j != 0xFFFFFFFF && s.curveTime c j * 800000 ≤ s.mono - t)

/-- The point that trips a curve: the lowest (R376). -/
def State.curveTrip (s : State) (c : Nat) : Option Nat := (List.range (s.curvePoints c)).find? fun j => s.pointTrips c j

/-- The deepest entered point of a curve. -/
def State.curveDeepest (s : State) (c : Nat) : Option Nat :=
  ((List.range (s.curvePoints c)).filter fun j => (s.grid.entered.get (16 * c + j)).isSome).getLast?

/-- A curve's region (R376). -/
def State.curveRank (s : State) (c : Nat) : Nat :=
  if (s.curveTrip c).isSome then 4
  else match s.curveDeepest c with
    | some j => regionRank (s.curveRegion c j)
    | none => 0

/-- How long VALID has been 0.0 (R378). -/
def State.invalidFor (s : State) : Nat := match s.grid.invalid with | some t => s.mono - t | none => 0

/-- How long LOCK has been lost while connected (R382). -/
def State.syncFor (s : State) : Option Nat := s.grid.syncLost.map fun t => s.mono - t

/-- The combined region (R377, R378, R382). -/
def State.combined (s : State) : Nat :=
  let r := (List.range 4).foldl (fun m c => max m (s.curveRank c)) 0
  let inv := if s.grid.invalid.isNone then 0 else if 400000000 ≤ s.invalidFor then 4
    else if 1600000000 ≤ s.invalidFor * s.nomF then 3 else 0
  let sync := match s.syncFor with
    | some t => if 160000000 ≤ t then 4 else 3
    | none => 0
  max r (max inv sync)

/-- GRID_CURVE(c): the deepest entered point and its time (Table RTI-10). -/
def State.curveRegs (s : State) : State :=
  s.forEach (List.range 4) fun s c =>
    match s.curveDeepest c with
    | none => s.wr (R.GRID_CURVE c) 0
    | some j =>
      let t := match s.grid.entered.get (16 * c + j) with | some t => s.mono - t | none => 0
      s.wr (R.GRID_CURVE c) (w32 (satTo 24 (t / 800000) * 256 + (j + 1)))

/-! ### Fault-current injection (R380) -/

/-- I_MAX (A peak). -/
def State.iMax (s : State) : Rat := sqrtR 2 * s.ratedI / 1000

/-- Fault-current injection applies to the values of a commit. -/
def State.fciApplies (s : State) (g : GridIn) : Bool :=
  let u := g.mean / s.vNom
  s.gc 0x20F 1 != 0 && (decide (1/10 < 1 - u) || decide (1/10 < u - 1)) &&
  (List.range 2).any fun c => (List.range (s.curvePoints c)).any fun j =>
    (s.grid.entered.get (16 * c + j)).isSome && s.curveRegion c j == 0

/-- I_QF of a commit (A peak). -/
def State.iQf (s : State) (g : GridIn) : Rat := clampR ((s.gc 0x20F 1 : Rat) / 10 * (1 - g.mean / s.vNom) * s.iMax) (-s.iMax) s.iMax

/-! ### Probes (R386, R388) -/

/-- ACTIVE = 1: reactive positive feedback with probes (Table RTI-2). -/
def State.islActive (s : State) : Bool := s.gc 0x200 1 == 1
/-- The image's FLEET bit. -/
def State.fleet (s : State) : Bool := bitOf (s.gc 0x20E 1) 0
/-- PROBE_EVERY (s). -/
def State.probeEvery (s : State) : Nat := s.gc 0x20E 1 / 16

/-- A probe starts now (R386). -/
def State.probeBegin (s : State) (passive : Bool) : State :=
  let dir : Int := if s.fleet && s.epoch / 800000000 % 2 == 1 then -1 else 1
  (s.put F.GRID_RT_STATUS_PROBE 1).modGrid fun g =>
    { g with probeStart := s.mono, probeDir := dir, probeF0 := g.fLast, probePassive := passive, probeAt := none }

/-- A probe runs. -/
def State.probing (s : State) : Bool := s.flag F.GRID_RT_STATUS_PROBE

/-- A triggered probe (R386): at once, or with FLEET at the next multiple of 8e8 ticks; a trigger during a probe starts
none. -/
def State.probeTrigger (s : State) : State :=
  if !s.islActive || s.probing || s.grid.probeAt.isSome then s
  else if s.fleet then s.modGrid fun g => { g with probeAt := some ((s.epoch / 800000000 + 1) * 800000000) }
  else s.probeBegin true

/-- A probe may run: connected with OP_STATE 1.0 (R386). -/
def State.probeAllowed (s : State) : Bool := s.islActive && s.conn == 3 && s.get F.GRID_RT_STATUS_OP_STATE == 1

/-- PROBE_START (R386): a fleet probe that waits, or a periodic one at a multiple of PROBE_EVERY. -/
def execProbeStart (s : State) : Res :=
  if !s.probeAllowed || s.probing then .next s
  else match s.grid.probeAt with
    | some t => if t ≤ s.epoch then .next (s.probeBegin true) else .next s
    | none =>
      if s.probeEvery ≠ 0 ∧ s.epoch % (s.probeEvery * 800000000) = 0 then .next (s.probeBegin false) else .next s

/-- PROBE_END (R388): after CONFIRM_TIME without confirmation. -/
def execProbeEnd (s : State) : Res :=
  if s.probing && s.grid.probeStart + s.gc 0x20A 2 * 800000 ≤ s.mono then
    .next (((s.put F.GRID_RT_STATUS_PROBE 0).put F.GRID_RT_STATUS_PASSIVE 0).incSat F.GRID_ISL_CNT_PROBES)
  else .next s

/-- An island is confirmed at an evaluation during a probe (R388). -/
def State.islandNow (s : State) (g : GridIn) : Bool :=
  let d := g.f - s.grid.probeF0
  let lim : Rat := (s.gc 0x20C 2 : Rat) / 1000
  s.probing && g.valid && (decide (lim ≤ d) || decide (lim ≤ -d))

/-! ### Operation by region (Table RTI-1) -/

/-- The cause of a trip at an evaluation: a curve and its point, else INVALID, SYNC or the island. [DEDUCED (unsafe), log row 52] -/
def State.tripCause (s : State) : Nat × Nat × Nat :=
  match (List.range 4).findSome? fun c => (s.curveTrip c).map fun j => (c, j) with
  | some (c, j) => (Cause.curve, c, j)
  | none =>
    if 400000000 ≤ s.invalidFor then (Cause.invalid, 0, 0)
    else match s.syncFor with
      | some t => if 160000000 ≤ t then (Cause.sync, 0, 0) else (Cause.island, 0, 0)
      | none => (Cause.island, 0, 0)

/-- OP_STATE leaves 1.0: a probe in progress or waiting is abandoned (R386). -/
def State.opAway (s : State) (op : Nat) : State := s.probeAbandon.setOp op

/-- What an evaluation does while connected (Table RTI-1, R388). -/
def State.gridConnected (s : State) (g : GridIn) (region : Nat) : State :=
  let island := s.islandNow g
  let s := if island then ((s.set1 F.GRID_RT_STICKY_ISLAND).incSat F.GRID_ISL_CNT_CONFIRM).raise FS.GRID_ISLAND else s
  if region = 4 ∨ island then
    let c := s.tripCause
    s.gridTrip c.1 c.2.1 c.2.2
  else if region = 3 then s.opAway 0
  else if s.flag F.GRID_MODE_FORMING then s.opAway 3
  else if region ≠ 1 ∧ (if g.valid then s.fciApplies g else s.flag F.GRID_RT_STATUS_FCI) then s.opAway 2
  else
    let s := s.setOp 1
    if s.flag F.GRID_RT_STATUS_PASSIVE then
      if region = 1 then s.gridTrip Cause.passive 0 0 else s.probeTrigger
    else s

/-! ### Power functions (R354 to R361) -/

/-- A bit of MODE_MASK (Table GSP-6). -/
def State.fnMode (s : State) (b : Nat) : Bool := bitOf (s.gc 0x220 4) b

/-- The points of the volt-var curve: V in 0.01 %, Q in VA. -/
def State.vvCurve (s : State) : List (Rat × Rat) :=
  (List.range (s.gc 0x22C 1)).map fun k =>
    ((s.gc (0x230 + 4 * k) 2 : Rat), ((s.gcS (0x232 + 4 * k) 2 : Int) : Rat) * s.ratedVa / 10000)

/-- The points of the volt-watt curve. -/
def State.vwCurve (s : State) : List (Rat × Rat) :=
  (List.range (s.gc 0x258 1)).map fun k => ((s.gc (0x25C + 4 * k) 2 : Rat), (s.gc (0x25E + 4 * k) 2 : Rat) * s.ratedVa / 10000)

/-- The filters' inputs of a commit (R355, R356), with P_pre after it: Q_VV, P_VW, P_FW, the under-frequency addition. -/
def State.fnInputs (s : State) (g : GridIn) : Rat × Rat × Rat × Rat × Option Rat :=
  let va := s.ratedVa
  let qvv := if s.fnMode 2 then curveAt (g.mean / s.vNom * 10000) s.vvCurve else 0
  let pvw := if s.fnMode 3 then curveAt (g.high / s.vNom * 10000) s.vwCurve else va
  let n : Rat := (s.nomF : Nat)
  let dof : Rat := (s.gc 0x27C 2 : Rat) / 1000
  let duf : Rat := (s.gc 0x27E 2 : Rat) / 1000
  let kof : Rat := (s.gc 0x280 2 : Rat) / 10000
  let kuf : Rat := (s.gc 0x282 2 : Rat) / 10000
  if !s.fnMode 4 then (qvv, pvw, va, 0, none)
  else if n + dof < g.f then
    let pre := s.grid.pPre.getD g.p
    (qvv, pvw, max 0 (pre - va * (g.f - n - dof) / (n * kof)), 0, some pre)
  else if g.f < n - duf then (qvv, pvw, va, va * (n - duf - g.f) / (n * kuf), s.grid.pPre)
  else (qvv, pvw, va, 0, none)

/-- The filters step (R357, R385); they start at their inputs. -/
def State.fnFilter (s : State) (g : GridIn) : State :=
  let x := s.fnInputs g
  let dt := match s.grid.evalAt with | some t => secs (s.mono - t) | none => 0
  let lag := fun (o : Nat) (unit y x : Rat) =>
    if s.grid.filt then y + lagShare dt ((s.gc o 2 : Rat) * unit) * (x - y) else x
  let slow := if s.grid.filt then s.grid.fslow + (1 - expR (-dt)) * (g.f - s.grid.fslow) else g.f
  s.modGrid fun d =>
    { d with qvv := lag 0x250 (1/10) d.qvv x.1, pvw := lag 0x252 (1/10) d.pvw x.2.1, pfw := lag 0x254 (1/100) d.pfw x.2.2.1,
             dpuf := lag 0x254 (1/100) d.dpuf x.2.2.2.1, pPre := x.2.2.2.2, fslow := slow, filt := true }

/-- Q_isl (R385). -/
def State.qIsl (s : State) (g : GridIn) : Rat :=
  let lim := (s.gc 0x208 2 : Rat) * s.ratedVa / 10000
  if !s.islActive || s.get F.GRID_RT_STATUS_OP_STATE != 1 then 0
  else if s.probing then (s.grid.probeDir : Rat) * lim
  else clampR ((s.gc 0x206 2 : Rat) / 1000 * s.ratedVa * (g.f - s.grid.fslow)) (-lim) lim

/-- Q_C (R358) with Q_isl. -/
def State.qCand (s : State) (g : GridIn) : Rat :=
  let pf : Rat := (s.getS F.GRID_PF_SET_PF_SET : Int) / 1000
  let base :=
    if s.fnMode 0 then
      let a := if pf < 0 then -pf else pf
      let t := g.p * (sqrtR (1 - a * a) / a)
      if pf < 0 then -t else t
    else if s.fnMode 1 then ((s.getS F.GRID_Q_SET_Q_SET : Int) : Rat) * s.ratedVa / 10000
    else if s.fnMode 2 then s.grid.qvv
    else 0
  base + s.qIsl g

/-- P_LIMIT, Q_REF and whether a clamp acted (R359). -/
def State.fnCombine (s : State) (g : GridIn) : Rat × Rat × Bool :=
  let va := s.ratedVa
  let pa := min (min ((s.get F.GRID_P_CURT_P_CURT : Rat) * va / 10000 + s.grid.dpuf) s.grid.pvw) (min s.grid.pfw va)
  let pa := match s.grid.pRc with | some c => min pa c | none => pa
  let qc := s.qCand g
  if s.fnMode 8 then
    let q := clampR qc (-va) va
    let lim := sqrtR (va * va - q * q)
    (min pa lim, q, decide (q ≠ qc) || decide (lim < pa))
  else
    let p := min g.p pa
    let b := sqrtR (va * va - p * p)
    let q := clampR qc (-b) b
    (pa, q, decide (q ≠ qc))

/-- The reconnection ceiling rises (R401). -/
def State.rcStep (s : State) : State :=
  match s.grid.pRc, s.grid.evalAt with
  | some c, some t =>
    let c := min (c + (s.gc 0x214 4 : Rat) / 100000 * s.ratedVa * secs (s.mono - t)) s.ratedVa
    (s.wr R.GRID_RC_CEIL (w32 (roundAway c).toNat)).modGrid fun d => { d with pRc := some c }
  | _, _ => s

/-- A set-point slot of the grid pair takes a value for the pair's next execution (R190, R344). -/
def State.slotPut (s : State) (p n : Nat) (w : Word) : State := s.toShadow ⟨tcmBase p + 0x4000 + 4 * n, 0, 32⟩ w.toNat

/-- The references of a valid commit, their registers and slots 248 and 249 (R359, Table GSP-2). -/
def State.fnRefs (s : State) (p : Nat) (g : GridIn) : State :=
  let s := s.fnFilter g
  let r := s.fnCombine g
  let s := (s.slotPut p 248 (fOf r.1)).slotPut p 249 (fOf r.2.1)
  let s := (s.wr R.GRID_PLIMIT (w32 (roundAway r.1).toNat)).wr R.GRID_QREF (w32 (unsignedOf 32 (roundAway r.2.1)))
  let n : Rat := (s.nomF : Nat)
  let out := s.fnMode 4 && (decide (n + (s.gc 0x27C 2 : Rat) / 1000 < g.f) || decide (g.f < n - (s.gc 0x27E 2 : Rat) / 1000))
  ((s.put F.GRID_STATUS_Q_LIMITED (b2n r.2.2)).put F.GRID_STATUS_FW_ACTIVE (b2n out)).put F.GRID_STATUS_VW_ACTIVE
    (b2n (decide (s.grid.pvw < s.ratedVa)))

/-- The slots that do not depend on the commit's values, and OP_STATE and I_QF (Table GSP-2): I_QF while fault-current injection
applies, whatever OP_STATE is (R380); a commit that is not valid leaves it (R360). -/
def State.gridSlots (s : State) (p : Nat) (g : GridIn) : State :=
  let s := if g.valid then
      let i := if s.fciApplies g then s.iQf g else 0
      (s.slotPut p 253 (fOf i)).wr R.GRID_IQF (w32 (unsignedOf 32 (roundAway (i * 1000))))
    else s
  let s := ((s.slotPut p 250 (fOf s.iMax)).slotPut p 251 (fOf s.vNom)).slotPut p 252 (fNat (s.get F.GRID_RT_STATUS_OP_STATE))
  let s := s.slotPut p 254 (fOf (2 * piR * (s.nomF : Nat)))
  let n : Nat := (s.grid.upd + 1) % 2 ^ 24
  (s.slotPut p 255 (fNat n)).modGrid fun d => { d with upd := n }

/-! ### The close request (R396, R403, Table RTI-8) -/

/-- The reason that refuses a close; none accepts it. [DEDUCED (unsafe), log row 53] -/
def State.closeRefusal (s : State) (hpa both : Bool) : Option Nat :=
  let units := s.gridUnits
  let lanes := units.any fun u => s.get (F.LANE_STAT_STATE (u - 8)) != 1 || !bitOf (s.get (F.LANE_STAT_STATUS (u - 8))) 7
  if s.conn ≠ 1 then some 1
  else if s.maintRuns Act.relayCheck || s.maintRuns Act.isoCheck then some 6
  else if !s.flag F.GRID_RT_STATUS_RC_READY then some 2
  else if !s.flag F.GRID_RT_STATUS_CHECK_OK then some 3
  else if !s.gridOn || lanes || units.any (fun u => s.pwmState u != 0) then some 4
  else if !hpa then some 5
  else if !both then some 7
  else none

/-- With FORMING in force a close is accepted only onto a dead bus (R403). [DESIGN CHOICE (safe), log row 54] -/
def State.formingBlocks (s : State) : Bool :=
  s.flag F.GRID_STATUS_FORMING && !(decide (s.grid.vMean < s.vNom / 10) && s.flag F.RELAY_STATUS_VKX_DEAD)

/-- A close request (R396, R403): refused with its reason, or K1 is energised. R403 states no reason code: it is drawn.
[DESIGN CHOICE (safe), log row 54] -/
def State.closeRequest (s : State) (hpa both : Bool) : State :=
  match s.closeRefusal hpa both with
  | some r => (s.set1 F.RELAY_STICKY_REFUSED).put F.RELAY_REFUSE_REASON r
  | none =>
    if s.formingBlocks then ((s.set1 F.RELAY_STICKY_REFUSED).put F.RELAY_REFUSE_REASON s.drawn).drew
    else
      (((s.relayDrive 0 true).setConn 2).modRelay fun r => { r with closeAt := s.mono, stage := 0, xChange := none }).permitEnd

/-- A write of CLOSE (R394, R613). -/
def State.closeWrite (s : State) (i : Initiator) : State :=
  if s.inFoyer then s.cfgReject .grid else s.closeRequest (i == .hpa) true

/-! ### The evaluation (R344) -/

/-- The reconnection timer and the automatic close while in WAIT (R400). -/
def State.gridWait (s : State) (g : GridIn) (region : Nat) : State :=
  if s.conn ≠ 1 then s
  else
    let s :=
      if s.flag F.GRID_STATUS_LOCK && g.valid && region == 0 then
        s.modGrid fun d => { d with timer := match d.timer with | some t => some t | none => some s.mono }
      else (s.put F.GRID_RT_STATUS_RC_READY 0).modGrid fun d => { d with timer := none }
    if s.flag F.GRID_RT_CTRL_AUTO && s.flag F.GRID_RT_STATUS_RC_READY && s.flag F.GRID_RT_STATUS_CHECK_OK then s.closeRequest true true
    else s

/-- OP_STATE outside CONNECTED (R367, R398). [DEDUCED (unsafe), log row 52] -/
def State.opIdle (s : State) : State :=
  if s.conn = 3 then s else s.opAway (if s.flag F.GRID_MODE_FORMING && s.conn < 3 then 3 else 0)

/-- The evaluation after a commit of the grid pair (R344). [DEDUCED (unsafe), log row 52] -/
def State.gridEval (s : State) (p : Nat) : State :=
  let g := s.grid.inp
  let s := ((s.transfer F.GRID_P_CURT_P_CURT).transfer F.GRID_Q_SET_Q_SET).transfer F.GRID_PF_SET_PF_SET
  let s := s.gridTake g
  let s := if g.valid then s.curvesStep g else s
  let region := s.combined
  let s := (s.curveRegs).put F.GRID_RT_STATUS_REGION region
  let s := if g.valid then s.put F.GRID_RT_STATUS_FCI (b2n (s.fciApplies g)) else s
  let s := if s.conn = 3 then s.gridConnected g region else s.opIdle
  let s := s.rcStep
  let s := if g.valid then s.fnRefs p g else s
  let s := (s.gridSlots p g).modGrid fun d => { d with due := false, evalAt := some s.mono }
  s.gridWait g region

/-- GRID_EVALUATION (R344): within 64 ticks of a commit of the grid pair. -/
def execGridEvaluation (s : State) : Res :=
  match s.gridPair with
  | none => .next s
  | some p => if s.grid.due then .next (s.gridEval p) else .next s

/-! ### Line-cycle boundaries (R346 to R350, R384, R392) -/

/-- The next boundary after C_i = c, and whether it used the nominal frequency (R346). -/
def State.nextBoundary (s : State) (c : Nat) : Nat × Bool :=
  let nominal := ((roundUp ((c : Rat) + 800000000 / (s.nomF : Nat))).toNat, true)
  match s.grid.lent with
  | none => nominal
  | some l =>
    if s.grid.cPrev.any fun q => l.at_ < q then nominal
    else
      let per := l.per
      ((l.crossing (((c : Nat) : Rat) + per / 2)).toNat, false)

/-- The residual at a boundary, in radians (R348). -/
def State.residual (s : State) (c : Nat) : Rat :=
  match s.grid.lent with
  | none => 0
  | some l => wrapR (l.theta + l.omega * ((c : Rat) - (l.b : Nat)) * (125 / 100000000000) + piR / 2) piR

/-- Radians to degrees. -/
def degR (x : Rat) : Rat := x * 180 / piR

/-- The absolute value. -/
def absR (x : Rat) : Rat := if x < 0 then -x else x

/-- LOCK clears (R349, R382, R400). [DEDUCED (unsafe), log row 51] -/
def State.lockLost (s : State) : State :=
  let s := (s.put F.GRID_STATUS_LOCK 0).stickyRaise F.GRID_STICKY_LOCK_LOST FS.GRID_SYNC_LOST
  let s := if s.conn = 3 ∧ !s.flag F.GRID_STATUS_FORMING then s.modGrid fun d => { d with syncLost := some s.mono } else s
  if s.conn = 1 then (s.put F.GRID_RT_STATUS_RC_READY 0).modGrid fun d => { d with timer := none } else s

/-- The lock rule at a boundary with residual phi in degrees (R349, R368). [DEDUCED (unsafe), log row 51] -/
def State.lockStep (s : State) (phi : Rat) (free : Bool) : State :=
  let f := s.grid.fLast
  let forming := match s.gridPair with | some p => fRat (s.loanWord p 61) == 1 | none => false
  let near := match s.grid.fPrev with | some q => absR (f - q) ≤ 1/10 | none => false
  let good := absR phi ≤ 2 && inBand f && near && (forming || s.vNom / 2 ≤ s.grid.vMean) && !free
  let ng := if good then s.grid.good + 1 else 0
  let nb := if 10 < absR phi then s.grid.bad + 1 else 0
  let s := s.modGrid fun d => { d with good := ng, bad := nb, fPrev := some f }
  if s.flag F.GRID_STATUS_LOCK then if 2 ≤ nb ∨ !inBand f then s.lockLost else s
  else if 2 ≤ ng then (s.put F.GRID_STATUS_LOCK 1).modGrid fun d => { d with syncLost := none }
  else s

/-- A passive indication (R384, Table RTI-1, R386). -/
def State.passive (s : State) : State :=
  if s.conn ≠ 3 ∨ s.flag F.GRID_STATUS_FORMING ∨ s.probing then s
  else
    let s := s.put F.GRID_RT_STATUS_PASSIVE 1
    if s.get F.GRID_RT_STATUS_OP_STATE ≠ 1 then s
    else if s.get F.GRID_RT_STATUS_REGION = 1 then s.gridTrip Cause.passive 0 0
    else s.probeTrigger

/-- The two passive indicators at a boundary (R384): phi in degrees. -/
def State.passiveStep (s : State) (c : Nat) (phi : Rat) (old : Option Rat) : State :=
  let n := s.gc 0x201 1
  let rocof := match s.grid.hist.head?, s.grid.hist[n]? with
    | some (_, f1), some (c0, f0) => (f1 - f0) / (((c : Rat) - (c0 : Nat)) * (125 / 100000000000))
    | _, _ => 0
  let jump := match old with | some q => absR (wrapR (phi - q) 180) | none => 0
  let thr : Rat := (s.gc 0x202 2 : Rat) / 100
  let jthr : Rat := (s.gc 0x204 2 : Rat) / 100
  let s := (s.put F.GRID_ISL_MEAS_JUMP (satTo 16 (roundAway (jump * 100)).toNat)).put F.GRID_ISL_MEAS_ROCOF
    (unsignedOf 16 (clampInt (roundAway (rocof * 100)) (-32768) 32767))
  if (thr ≠ 0 ∧ thr < absR rocof) ∨ (jthr ≠ 0 ∧ jthr < jump) then s.passive else s

/-- VKX is judged over the cycle that ends (R392); the next cycle starts with the outputs as they stand.
[DESIGN CHOICE (safe), log row 10] -/
def State.vkxJudge (s : State) : State :=
  let hi := s.relay.vkxHi
  let lo := s.relay.vkxLo
  ((s.put F.RELAY_STATUS_VKX_DEAD (b2n (!hi && !lo))).put F.RELAY_STATUS_VKX_LIVE (b2n (hi && lo))).modRelay fun r =>
    { r with vkxHi := s.flag (F.WC_STATUS_OUT_HI 22), vkxLo := s.flag (F.WC_STATUS_OUT_LO 22) }

/-- The boundary C_i = c (R346 to R350, R384, R392). -/
def State.boundary (s : State) (c : Nat) : State :=
  let r := s.nextBoundary c
  let phi := degR (s.residual c)
  let old := s.grid.phi
  let s := match s.grid.cPrev with | some q => s.wr R.GRID_CYCLE_LEN (w32 (c - q)) | none => s
  let s := (s.wr R.GRID_PHERR (w32 (unsignedOf 32 (roundAway (phi * 1000))))).put F.GRID_STATUS_FREE (b2n r.2)
  let fi := if r.2 then (s.nomF : Rat) else s.grid.lent.elim 0 (·.f)
  let s := s.modGrid fun d =>
    { d with cPrev := some c, cNext := some r.1, phi := some phi, hist := ((c, fi) :: d.hist).take 51 }
  let s := s.forEach [0, 1] fun s i =>
    { s with sens := { s.sens with side := s.sens.side.modify i fun d => { d with ann := d.ann ++ [{ ci := some c, cn := r.1 }] } } }
  (((s.lockStep phi r.2).passiveStep c phi old).vkxJudge)

/-- GRID_CYCLE_BOUNDARY (R346). -/
def execGridCycleBoundary (s : State) : Res :=
  match s.grid.cNext with
  | some c => if c ≤ s.epoch && s.gridOn then .next (s.boundary c) else .next s
  | none => .next s

/-- A write of GRID_MODE.FORMING (R367). -/
def State.formingWrite (s : State) (i : Initiator) (v : Nat) : State :=
  if i ≠ .hpa ∨ (v = 1 ∧ !bitOf s.imgFlags 1) then s.cfgReject .grid else s.put F.GRID_MODE_FORMING v

/-- GRID_FORMING_WRITE (R367). -/
def execGridFormingWrite (i : Initiator) (v : Word) (s : State) : Res := .next (s.formingWrite i (bitsOf v.toNat 0 1))

end Sys2Proof.Machine
end

