-- ==== Sys2Proof/Machine/Wcmp.lean ====
section
/-!
DEFINITION. Window comparators (chapter 05): crossings, thresholds, clears, TRIP_PENDING and the self-test.
-/

namespace Sys2Proof.Machine

/-- WC_CROSSING (R168, R170, R179): the input crosses to a level; each command beyond a threshold is one crossing, one inside the
window is a return. -/
def execWcCrossing (c : Fin 24) (input : Rat) (s : State) : Res :=
  if s.wcPowered c then .next (s.wcLevel c input) else .next s

/-- A write to WC_THR (R36, R37, R169): LO and HI are judged together. [DEDUCED (unsafe), log row 22] -/
def State.wcThrWrite (s : State) (c : Nat) (v : Word) : State :=
  let hi := bitsOf v.toNat 16 10
  let lo := bitsOf v.toNat 0 10
  let jh := s.adjust (F.WC_THR_HI c) hi
  let jl := s.adjust (F.WC_THR_LO c) lo
  if jh = .outside ∨ jl = .outside then s.cfgReject (wcBlk c)
  else if jh = .uncovered ∨ jl = .uncovered then s
  else if hi ≤ lo then s.cfgReject (wcBlk c)
  else (s.toShadow (F.WC_THR_HI c) hi).toShadow (F.WC_THR_LO c) lo

/-- WC_THR_WRITE (R36, R37, R169). -/
def execWcThrWrite (_i : Initiator) (c : Fin 24) (v : Word) (s : State) : Res := .next (s.wcThrWrite c v)

/-- The comparison at which new thresholds govern, at the level it finds: an output that sets is a crossing; an input that stays
beyond a threshold makes no other (R169, R170). -/
def State.wcThrApply (s : State) (c : Nat) (x : Rat) : State :=
  let hi0 := s.flag (F.WC_STATUS_OUT_HI c)
  let lo0 := s.flag (F.WC_STATUS_OUT_LO c)
  let s := ((s.transfer (F.WC_THR_HI c)).transfer (F.WC_THR_LO c)).wcSee c x
  if s.wcHi c < x ∧ !hi0 then s.wcCross c true else if x < s.wcLo c ∧ !lo0 then s.wcCross c false else s

/-- WC_THR_APPLY (R169). -/
def execWcThrApply (c : Fin 24) (input : Rat) (s : State) : Res :=
  if s.shadowed (F.WC_THR_HI c) then .next (s.wcThrApply c input) else .next s

/-- A write to WCMPx_CLEAR (R174). -/
def State.wcClearWrite (s : State) (grid : Bool) (v : Word) : State :=
  if grid then s.forEach (maskIdx 10 v.toNat) fun s i => s.wcSoftClear (i + 14)
  else s.forEach (maskIdx 14 v.toNat) fun s c => s.wcSoftClear c

/-- WC_SOFTWARE_CLEAR (R174 to R176). -/
def execWcSoftwareClear (_i : Initiator) (grid : Bool) (v : Word) (s : State) : Res := .next (s.wcClearWrite grid v)

/-- WC_CLEAR_DECISION (R175 to R177): the first comparison at or after a clear, at the input level it finds. -/
def execWcClearDecision (c : Fin 24) (input : Rat) (s : State) : Res :=
  let w := s.wcmp.wc.get c
  if s.wcState c = 1 ∧ (w.softClear.isSome ∨ w.periodClear.isSome) then .next ((s.wcSee c input).wcDecide c input)
  else .next s

/-- A comparison of TRIP_PENDING (R178): one that passes 150 ticks after the first of its run makes the comparator READY; one that
fails ends the run, and the next that passes begins another. -/
def State.wcPendReady (s : State) (c : Nat) (x : Rat) : State :=
  let s := s.wcSee c x
  match (s.wcmp.wc.get c).pendFrom with
  | some f => if f + 150 ≤ s.mono then (s.put (F.WC_STATUS_STATE c) 0).noteHolds else s
  | none => s

/-- WC_PENDING_READY (R178, R179): a comparison, at the level it finds. -/
def execWcPendingReady (c : Fin 24) (input : Rat) (s : State) : Res :=
  if s.wcPowered c && s.wcState c == 2 then .next (s.wcPendReady c input) else .next s

/-- The ticks from the start at which the steps of Table WCMP-3 act. -/
def wcStepAt (k : Nat) : Nat := 160 * (k + 1)

/-- A step of Table WCMP-3 with the outputs its comparisons found: the live outputs follow the tie, the swap and what a check found;
each check replaces its own bits of WC_TEST and reports a failure (R182). -/
def State.wcTestStep (s : State) (c k : Nat) (hi lo : Bool) : State :=
  let s := s.modWc c fun w => { w with testStep := k + 1 }
  let s := if k = 0 ∨ k = 2 ∨ k = 4 then s.wcOut c hi lo else if k < 5 then s.wcTestOut c else s
  if k = 0 then if lo && !hi then s.put (F.WC_TEST_TIE_LO_FAIL c) 0 else s.wcTestFail c (F.WC_TEST_TIE_LO_FAIL c)
  else if k = 2 then if hi && !lo then s.put (F.WC_TEST_TIE_HI_FAIL c) 0 else s.wcTestFail c (F.WC_TEST_TIE_HI_FAIL c)
  else if k = 4 then s.wcSwapCheck c hi lo
  else if k = 5 then (s.wcPend c).wcTestNext.lateNext
  else s

/-- WCMP_TEST_STEP (R180 to R182): the comparator under test reaches its next step; hi and lo are the outputs all of the
step's 16 comparisons gave. -/
def execWcmpTestStep (hi lo : Bool) (s : State) : Res :=
  match s.wcmp.queue with
  | [] => .next s
  | c :: _ =>
    let w := s.wcmp.wc.get c
    if w.testStart + wcStepAt w.testStep ≤ s.mono then .next (s.wcTestStep c w.testStep hi lo) else .next s

end Sys2Proof.Machine
end

