-- ==== Sys2Proof/Machine/Relay.lean ====
section
/-!
DEFINITION. The relay sequencer: the relay check, the close and open sequences, reconnection (chapter 11).
-/

namespace Sys2Proof.Machine

/-! ### The relay check (R393 to R395) -/

/-- One nominal grid cycle in ticks. [DEDUCED (unsafe), log row 55] -/
def State.nomCycle (s : State) : Nat := 800000000 / s.nomF

/-- The duration of a step of Table RTI-5: 1 to 5 are A to E. -/
def State.checkTicks (s : State) (step : Nat) : Nat :=
  if step = 1 then s.nomCycle
  else if step = 2 ∨ step = 4 then (s.get F.RELAY_CFG_PULLIN + 20) * 800000 + s.nomCycle
  else (s.get F.RELAY_CFG_REL_MAX + 20) * 800000

/-- What is required at the end of a step (Table RTI-5); the VKX checks count unless they are skipped (R394). -/
def State.checkPass (s : State) (step : Nat) : Bool :=
  let vkx := s.flag F.RELAY_STATUS_CHECK_FB_ONLY || s.flag F.RELAY_STATUS_VKX_DEAD
  if step = 1 then !s.relayFb 0 && !s.relayFb 1 && vkx
  else if step = 2 then s.relayFb 0 && !s.relayFb 1 && vkx
  else if step = 3 then !s.relayFb 0
  else if step = 4 then s.relayFb 1 && !s.relayFb 0 && vkx
  else !s.relayFb 1

/-- The action that opens a step. -/
def State.checkAction (s : State) (step : Nat) : State :=
  if step = 2 then s.relayDrive 0 true
  else if step = 3 then s.relayDrive 0 false
  else if step = 4 then s.relayDrive 1 true
  else s.relayDrive 1 false

/-- The check fails at a step (R395). -/
def State.checkFail (s : State) (step : Nat) : State :=
  ((((s.relaysOff).put F.RELAY_STATUS_CHECK_STEP 0).put F.RELAY_REFUSE_STEP step).stickyRaise F.RELAY_STICKY_CHECK_FAIL
    FS.RELAY_CHECK_FAIL).maintEnd Act.relayCheck .fail

/-- A step of the check ends (R393 to R395). -/
def State.checkEnd (s : State) (step : Nat) : State :=
  let only := !s.flag F.GRID_STATUS_LOCK || decide (s.grid.vMean < s.vNom / 2)
  let s := if step = 1 then s.put F.RELAY_STATUS_CHECK_FB_ONLY (b2n only) else s
  if !s.checkPass step then s.checkFail step
  else if step = 5 then
    ((s.put F.RELAY_STATUS_CHECK_STEP 0).put F.GRID_RT_STATUS_CHECK_OK 1).maintEnd Act.relayCheck .ok
  else ((s.checkAction (step + 1)).put F.RELAY_STATUS_CHECK_STEP (step + 1)).modRelay fun r => { r with checkFrom := s.mono }

/-- RELAY_CHECK_STEP (R393 to R395): the hold duty after PULLIN, or the end of the step. A check that the sequencer has left
WAIT under is aborted. -/
def execRelayCheckStep (s : State) : Res :=
  if !s.maintRuns Act.relayCheck then .next s
  else if s.conn ≠ 1 then .next (s.maintAbort Act.relayCheck)
  else
    let s := (s.relayHold 0).relayHold 1
    let step := s.get F.RELAY_STATUS_CHECK_STEP
    if s.relay.checkFrom + s.checkTicks step ≤ s.mono then .next (s.checkEnd step) else .next s

/-! ### An abort request (R459) -/

/-- The normal end of a running activity falls at this tick: the last point of a trace, the last event of the insulation check, the last
test sequence, the last step of the relay check. -/
def State.maintOver (s : State) (c : Nat) : Bool :=
  let iv := fun (x : Nat) => let t := s.diag.iv.get x; t.point == 511 && t.at_ 512 ≤ s.mono
  match c with
  | 3 => match s.wcmp.queue with
    | [k] => let w := s.wcmp.wc.get k; w.testStep == 5 && w.testStart + wcStepAt 5 ≤ s.mono
    | _ => false
  | 4 => iv 0
  | 5 => iv 1
  | 6 => iv 2
  | 7 => iv 3
  | 8 => s.diag.iso.step == 3 && s.diag.iso.grant + isoAt 3 ≤ s.mono
  | 9 => s.conn == 1 && s.get F.RELAY_STATUS_CHECK_STEP == 5 && s.relay.checkFrom + s.checkTicks 5 ≤ s.mono
  | _ => false

/-- A write of DIAG_MAINT_ABORT (R459): an activity whose normal end falls at the same tick ends normally. [DEDUCED (unsafe), log row 62] -/
def State.maintAbortWrite (s : State) (v : Word) : State :=
  s.forEach ((maskIdx 13 v.toNat).filter (1 ≤ ·)) fun s c => if s.maintRuns c && s.maintOver c then s else s.maintAbort c

/-! ### Closing (R396, R397) -/

/-- RELAY_CLOSE_REQUEST (R396): a write of 1 to GRID_RT_CTRL.CLOSE, which names both relays. -/
def execRelayCloseRequest (i : Initiator) (s : State) : Res := .next (s.closeWrite i)

/-- A close fails (R396). [DEDUCED (unsafe), log row 53] -/
def State.closeFail (s : State) : State :=
  (((s.enterOpening).stickyRaise F.RELAY_STICKY_CLOSE_FAIL FS.RELAY_CLOSE_FAIL).put F.GRID_TRIP_INFO_CAUSE Cause.closeFail).openingEvent s.conn

/-- The tick e at which K2 is energised (Table RTI-6): the first L1 zero crossing less OP_K2 that lies at least 1 ms after g,
by the announced cycle and, beyond it, by whole halves of its length. [DEDUCED (unsafe), log row 55] -/
def State.closeTick (s : State) (g : Nat) : Nat :=
  let a : Nat := s.grid.cPrev.getD 0
  let b : Nat := s.grid.cNext.getD (a + s.nomCycle)
  let half : Rat := ((b : Rat) - (a : Nat)) / 2
  let n := ((((g + 800000 : Nat) : Rat) + s.relay.opK2 - (a : Nat)) / half).ceil.toNat
  (roundUp ((a : Rat) + half * (n : Nat) - s.relay.opK2)).toNat

/-- OP_K2 in the register's units, 0.01 ms (Table RTI-13). -/
def State.opReg (s : State) : State := s.put F.RELAY_OPTIME_OP_K2 (satTo 16 (roundAway (s.relay.opK2 / 8000)).toNat)

/-- OP_K2 starts at OP_INIT when PD10 powers up (R397). -/
def State.opInit (s : State) : State := (s.modRelay fun r => { r with opK2 := (s.get F.RELAY_CFG_OP_INIT : Rat) * 800000 }).opReg

/-- The learnt operate time after a successful close (R397); where V(0) or omega is 0 the rule gives no delta: free.
[DESIGN CHOICE (unsafe), log row 8] -/
def State.opUpdate (s : State) : State :=
  match s.relay.xChange with
  | none => s
  | some x =>
    let thr := ((s.get (F.WC_THR_HI 22) : Rat) - 512) * Config.vkxScale
    let v0 := match s.gridPair with | some p => fRat (s.loanWord p 52) | none => 0
    let w := match s.grid.lent with | some l => l.omega | none => 0
    let delta := if v0 = 0 ∨ w = 0 then Config.realFn 10 thr else asinR (thr / (sqrtR 2 * v0)) / w * 800000000
    let m := (x : Rat) - (s.relay.k2At : Nat) - delta
    let s := s.put F.RELAY_OPTIME_M (unsignedOf 16 (clampInt (roundAway (m / 8000)) 0 65535))
    if 1600000 ≤ m ∧ m ≤ 40000000 then (s.modRelay fun r => { r with opK2 := (3 * r.opK2 + m) / 4 }).opReg else s

/-- CONNECTED is entered (R397, R401, R402, Table RTI-6). -/
def State.enterConnected (s : State) : State :=
  let per := s.get (F.PWM_PERIOD 8)
  let start := if s.flag F.GRID_RT_CTRL_AUTO then some ((s.epoch + 800 + per - 1) / per * per) else none
  let ramp := s.gc 0x214 4 != 0
  let s := ((s.opUpdate).setConn 3).wr R.RELAY_CLOSE_TICK s.now32
  let s := if ramp then s.wr R.GRID_RC_CEIL 0 else s
  let s := s.modGrid fun g => { g with pRc := if ramp then some 0 else none, startAt := start, timer := none }
  s.modRelay fun r =>
    { r with fbOpen := (r.fbOpen.set 0 (if s.relayFb 0 then none else some s.mono)).set 1 (if s.relayFb 1 then none else some s.mono) }

/-- The stages of an accepted close (Table RTI-6): 0 before g, 1 before e, 2 after it. -/
def State.closeStage (s : State) : State :=
  let r := s.relay
  let g := r.closeAt + (s.get F.RELAY_CFG_PULLIN + 20) * 800000
  if r.stage = 0 then
    if s.mono < g then s
    else if s.relayFb 0 && s.flag F.RELAY_STATUS_VKX_DEAD then s.modRelay fun r => { r with stage := 1 }
    else s.closeFail
  else if r.stage = 1 then
    if s.mono < s.monoOf (s.closeTick (((g : Int) + s.ep.base).toNat)) then s
    else (s.relayDrive 1 true).modRelay fun r => { r with stage := 2, k2At := s.mono, xChange := none }
  else
    let live := s.flag F.RELAY_STATUS_VKX_LIVE || (r.vkxHi && r.vkxLo)
    if live && s.relayFb 1 then s.enterConnected
    else if r.k2At + 48000000 ≤ s.mono then s.closeFail
    else s

/-- RELAY_CLOSE_STEP (R396, R397): the hold duty of a relay after PULLIN, and the next stage of the sequence. -/
def execRelayCloseStep (s : State) : Res :=
  let s := (s.relayHold 0).relayHold 1
  if s.conn = 2 then .next s.closeStage else .next s

/-! ### Opening (R398, R399) -/

/-- An open request (R399): HPA only. [DEDUCED (unsafe), log row 53] -/
def State.openRequest (s : State) (i : Initiator) : State :=
  if i ≠ .hpa then s.cfgReject .grid else s.gridTrip Cause.host 0 0

/-- GRID_OPEN_REQUEST (R398, R399). -/
def execGridOpenRequest (i : Initiator) (s : State) : Res := .next (s.openRequest i)

/-- RELAY_OPENING_CHECK (R399): REL_MAX + 20 ms after the de-energising. -/
def execRelayOpeningCheck (s : State) : Res :=
  if s.conn = 4 ∧ s.relay.openFrom + (s.get F.RELAY_CFG_REL_MAX + 20) * 800000 ≤ s.mono then
    if s.relayFb 0 || s.relayFb 1 then .next ((s.stickyRaise F.RELAY_STICKY_WELD FS.RELAY_FAULT).setConn 5)
    else if s.connAble then .next s.enterWait
    else .next (s.setConn 0)
  else .next s

/-- A feedback has read open for 20 ms while connected (R399). -/
def State.fbLost (s : State) (k : Nat) : Bool :=
  match s.relay.fbOpen.get k with
  | some t => !s.relayFb k && t + 16000000 ≤ s.mono
  | none => false

/-- RELAY_FB_LOST (R399). -/
def execRelayFbLost (s : State) : Res :=
  if s.conn = 3 ∧ (s.fbLost 0 || s.fbLost 1) then
    .next ((s.stickyRaise F.RELAY_STICKY_FB_LOST FS.RELAY_FAULT).gridTrip Cause.relay 0 0)
  else .next s

/-! ### Reconnection (R400, R402) -/

/-- The reconnection time in ticks: DELAY + r seconds (R400). -/
def State.rcTicks (s : State) : Nat := (s.gc 0x210 2 * 1000 + (s.rd R.GRID_RC_DRAW).toNat) * 800000

/-- RECONNECT_READY (R400). -/
def execReconnectReady (s : State) : Res :=
  match s.grid.timer with
  | some t => if s.conn = 1 ∧ t + s.rcTicks ≤ s.mono then .next (s.put F.GRID_RT_STATUS_RC_READY 1) else .next s
  | none => .next s

/-- AUTO_CHECK_REQUEST (R400): repeated every second after a refusal. -/
def execAutoCheckRequest (s : State) : Res :=
  if s.flag F.GRID_RT_CTRL_AUTO && s.conn == 1 && s.grid.timer.isSome && !s.flag F.GRID_RT_STATUS_CHECK_OK &&
      !s.maintRuns Act.relayCheck && s.grid.checkAt ≤ s.mono then
    let s := s.maintArrive s.epoch .device Act.relayCheck
    if s.maintRuns Act.relayCheck then .next s else .next (s.modGrid fun g => { g with checkAt := s.mono + 800000000 })
  else .next s

/-- AUTO_PWM_START (R402): as a scheduled PWM_START of the grid units. -/
def execAutoPwmStart (s : State) : Res :=
  match s.grid.startAt with
  | some t =>
    if s.conn = 3 ∧ t ≤ s.epoch then
      .next ((s.modGrid fun g => { g with startAt := none }).forEach s.gridUnits fun s u => s.startUnit u)
    else .next s
  | none => .next s

/-! ### Register writes -/

/-- A write of GRID_RT_CTRL (Table RTI-11): AUTO and OPEN are HPA's; OPEN and CLOSE act where they are written 1. A trip and
a close request in one write resolve as Table RTI-8 gives: the close is refused. -/
def State.rtCtrlWrite (s : State) (i : Initiator) (v : Word) : State :=
  let a := bitsOf v.toNat 0 1
  let s := if i = .hpa then s.put F.GRID_RT_CTRL_AUTO a else s.cfgReject .grid
  let s := if bitOf v.toNat 2 then s.openRequest i else s
  if bitOf v.toNat 1 then s.closeWrite i else s

/-- The RELAY block runs, for QUIET fields (R390). -/
def State.relayRunning (s : State) : Bool := !(s.conn == 0 || (s.conn == 1 && !s.maintRuns Act.relayCheck))

/-- The range of a field of RELAY_CFG (Table RTI-14): 0 PULLIN, 1 HOLD, 2 OP_INIT, 3 REL_MAX. -/
def relayCfgOk (n v : Nat) : Bool :=
  if n = 0 then 10 ≤ v else if n = 1 then 0x40 ≤ v else if n = 2 then 2 ≤ v && v ≤ 50 else 2 ≤ v && v ≤ 100

/-- A write of RELAY_CFG (R36, R37, R390). -/
def State.relayCfgWrite (s : State) (v : Word) : State :=
  s.forEach (List.range 4) fun s n =>
    let x := bitsOf v.toNat (8 * n) 8
    s.quietGate .relay s.relayRunning ⟨R.RELAY_CFG, 8 * n, 8⟩ x fun s =>
      if relayCfgOk n x then s.put ⟨R.RELAY_CFG, 8 * n, 8⟩ x else s.cfgReject .relay

/-- A write of P_CURT, Q_SET or PF_SET (R361). -/
def State.gridSetWrite (s : State) (n : Nat) (v : Word) : State :=
  let x := bitsOf v.toNat 0 16
  let i := signedOf 16 x
  let f := if n = 0 then F.GRID_P_CURT_P_CURT else if n = 1 then F.GRID_Q_SET_Q_SET else F.GRID_PF_SET_PF_SET
  let ok := if n = 0 then decide (x ≤ 10000) else if n = 1 then decide (-10000 ≤ i ∧ i ≤ 10000)
    else decide (700 ≤ i.natAbs ∧ i.natAbs ≤ 1000)
  s.liveGate .grid f x fun s => if ok then s.toShadow f x else s.cfgReject .grid

end Sys2Proof.Machine
end

