-- ==== Sys2Proof/Machine/Curator.lean ====
section
/-!
DEFINITION. The meanings of the Curator's commands and of the checks that raise its sources (chapter 14).
-/

namespace Sys2Proof.Machine

/-- CURATOR_RAISE (R463, R471): the oldest raise on its way reaches the Curator, with `more` others in the same cycle. -/
def execCuratorRaise (more : Nat) (s : State) : Res :=
  let rs := s.raised.take (more + 1)
  .next ({ s with raised := s.raised.drop (more + 1) }.curCycle rs)

/-- CUR_SEV_WRITE (R467). -/
def execCurSevWrite (_i : Initiator) (k : Fin 48) (v : Word) (s : State) : Res := .next (s.curSevWrite k v)

/-- CUR_UNFENCE (R474, R475). -/
def execCurUnfence (i : Initiator) (v : Word) (s : State) : Res := .next (s.curUnfenceWrite i v)

/-- CUR_INJECT_RAISE (R480). -/
def execCurInjectRaise (_i : Initiator) (src : Byte) (s : State) : Res := .next (s.injectRaise src.toNat)

/-- CUR_INJECT_CORRUPT (R480). -/
def execCurInjectCorrupt (_i : Initiator) (copy : Fin 4) (src : Byte) (s : State) : Res := .next (s.injectCorrupt copy src.toNat)

/-- CURATOR_COPY_MISMATCH (R478). -/
def execCuratorCopyMismatch (s : State) : Res := .next s.curVote

/-- PWM_CHECK_MISMATCH (R469): the checker of a unit disagrees with its levels. -/
def execPwmCheckMismatch (u : Fin 14) (s : State) : Res := .next (s.raiseAt FS.PWM_CHECK u)

/-- DRV_GATE_CHECK (R469): the levels the monitor finds on HOh and LOh; a mismatch raises DRV_GATE at the first check that
finds it on a pin. -/
def execDrvGateCheck (h : Fin 8) (ho lo : Bool) (s : State) : Res :=
  if !s.pdOn 9 then .next s
  else
    let bad := b2n (ho != s.flag (F.DRV_HB_STATUS_HO h)) + 2 * b2n (lo != s.flag (F.DRV_HB_STATUS_LO h))
    let old := s.cur.gateBad.get h
    let t := s.modCur fun c => { c with gateBad := c.gateBad.set h bad }
    let fresh := (bitOf bad 0 && !bitOf old 0) || (bitOf bad 1 && !bitOf old 1)
    .next (if fresh then t.raiseAt FS.DRV_GATE h else t)

/-- BARRIER_LINK_ERROR (R469): the barrier link loses alignment or has too many symbol errors. -/
def execBarrierLinkError (s : State) : Res := if s.pdOn 10 then .next (s.raise FS.BARRIER_LINK) else .next s

/-- MAINT_ABORT (R459): a write to DIAG_MAINT_ABORT. -/
def execMaintAbort (_i : Initiator) (v : Word) (s : State) : Res :=
  .next (s.maintAbortWrite v)

end Sys2Proof.Machine
end

