-- ==== Sys2Proof/Machine/Epoch.lean ====
section
/-!
DEFINITION. Epoch and the clock islands (chapter 03): load, mark arm, capture, rate and slew, the barrier and the
island checks.
-/

namespace Sys2Proof.Machine

/-- EPOCH_CTRL.MODE (Table EPOCH-5): 0 free-running, 1 SYNC, 2 COURIER. -/
def State.epochMode (s : State) : Nat := s.get F.EPOCH_CTRL_MODE

/-- A write of 1 to LOAD (R96, R97). -/
def State.epochLoad (s : State) : State :=
  if s.epochRunning then s.cfgReject .epoch
  else { (s.put F.EPOCH_CTRL_LOAD 1) with ep := { s.ep with loadFrom := some s.epoch } }

/-- EPOCH_LOAD (R96, R97). -/
def execEpochLoad (_i : Initiator) (s : State) : Res := .next s.epochLoad

/-- EPOCH_LOAD_APPLY (R97): at one common edge within 400 ticks of the write every copy takes the load value. The slot rules of R99
may act again at the new value. [DEDUCED (unsafe), log row 35] -/
def execEpochLoadApply (s : State) : Res :=
  if s.flag F.EPOCH_CTRL_LOAD then
    let v := (s.rd R.EPOCH_LOAD_LO).toNat + 2 ^ 32 * (s.rd R.EPOCH_LOAD_HI).toNat
    let t := s.put F.EPOCH_CTRL_LOAD 0
    let t := t.epochSet v
    .next { t with ep := { t.ep with loadFrom := none, slot := 0 } }
  else .next s

/-- A write of 1 to MARK_ARM (R96, R98). -/
def State.epochMarkArm (s : State) : State :=
  if s.epochRunning then s.cfgReject .epoch
  else if s.epochMode = 1 ∧ s.flag F.CLK_STATUS_DIV_ALIGNED then
    (s.put F.EPOCH_CTRL_MARK_ARM 1).put F.EPOCH_STATUS_MARK_ARMED 1
  else s.cfgReject .epoch

/-- EPOCH_MARK_ARM (R96, R98). -/
def execEpochMarkArm (_i : Initiator) (s : State) : Res := .next s.epochMarkArm

/-- EPOCH_RTC_CAP (R106): arms a capture. -/
def execEpochRtcCap (_i : Initiator) (s : State) : Res := .next (s.put F.EPOCH_CTRL_RTC_CAP 1)

/-- EPOCH_RTC_CAPTURE_EDGE (R106): the next Plinth edge captures Epoch and the Plinth count. -/
def execEpochRtcCaptureEdge (s : State) : Res :=
  if s.flag F.EPOCH_CTRL_RTC_CAP then
    let s := s.cycAdvance
    .next ((((s.put F.EPOCH_CTRL_RTC_CAP 0).wr R.EPOCH_RTC_EPOCH_LO (w32 s.epoch)).wr R.EPOCH_RTC_EPOCH_HI
      (w32 (s.epoch / 2 ^ 32))).wr R.EPOCH_RTC_COUNT (w32 s.plinth.cyc))
  else .next s

/-- A write to EPOCH_RATE past the ADJUST gate (R100, R102). [DEDUCED (unsafe), log row 22] -/
def State.epochRateWrite (s : State) (v : Nat) : State :=
  let r := signedOf 24 v
  if s.epochMode = 1 ∨ r < -500000 ∨ 500000 < r then s.cfgReject .epoch else s.toShadow F.EPOCH_RATE_RATE v

/-- EPOCH_RATE_WRITE (R36, R37, R100, R102). -/
def execEpochRateWrite (_i : Initiator) (v : Word) (s : State) : Res :=
  let r := bitsOf v.toNat 0 24
  .next (s.liveGate .epoch F.EPOCH_RATE_RATE r (fun s => s.epochRateWrite r))

/-- A write to EPOCH_SLEW past the ADJUST gate (R101, R102). -/
def State.epochSlewWrite (s : State) (v : Nat) : State :=
  if s.epochMode = 1 then s.cfgReject .epoch else s.toShadow F.EPOCH_SLEW_SLEW v

/-- EPOCH_SLEW_WRITE (R36, R37, R101, R102). -/
def execEpochSlewWrite (_i : Initiator) (v : Word) (s : State) : Res :=
  let r := bitsOf v.toNat 0 24
  .next (s.liveGate .epoch F.EPOCH_SLEW_SLEW r (fun s => s.epochSlewWrite r))

/-- The direction of a count: 1, -1 or 0. -/
def dirOf (x : Int) : Int := if 0 < x then 1 else if x < 0 then -1 else 0

/-- The one step a slot takes (R99 to R101): a rate step first, else a slew step. [DEDUCED (unsafe), log row 35] -/
def State.slotStep (s : State) : State :=
  if s.ep.req ≠ 0 then
    { s with ep := { s.ep with req := s.ep.req - dirOf s.ep.req, step := dirOf s.ep.req } }
  else
    let p := s.getS F.EPOCH_SLEW_SLEW
    { (s.putS F.EPOCH_SLEW_SLEW (p - dirOf p)) with ep := { s.ep with step := dirOf p } }

/-- EPOCH_SLEW_SLOT (R99 to R102): at a multiple of 1,024 rate and slew transfer and at most one step acts. -/
def execEpochSlewSlot (s : State) : Res :=
  if s.epoch % 1024 = 0 ∧ s.ep.slot ≠ s.epoch + 1 then
    let t := ((s.transfer F.EPOCH_RATE_RATE).transfer F.EPOCH_SLEW_SLEW).slotStep
    let t := t.put F.EPOCH_STATUS_SLEWING (b2n (t.getS F.EPOCH_SLEW_SLEW != 0))
    .next { t with ep := { t.ep with slot := s.epoch + 1 } }
  else .next s

/-- EPOCH_NOW_READ (R88): returns Epoch's low word and latches the high word. -/
def execEpochNowRead (_i : Initiator) (s : State) : Res :=
  .next ((s.wr R.EPOCH_NOW_HI (w32 (s.epoch / 2 ^ 32))).answer s.now32)

/-- EPOCH_BAR_READ (R92, Table EPOCH-7): returns EPOCH_BAR and clears SKEW_MAX. -/
def execEpochBarRead (_i : Initiator) (s : State) : Res :=
  .next ((s.put F.EPOCH_BAR_SKEW_MAX 0).answer (s.rd R.EPOCH_BAR))

/-- BARRIER_CALIBRATION (R91): the link has trained with PD10 on; 1,024 round trips give the one-way delay. -/
def execBarrierCalibration (delay : Nat) (s : State) : Res :=
  if bitOf (s.get F.SYS_PD_STATUS_DOMAIN_ON) 10 && !s.flag F.EPOCH_STATUS_BAR_CAL_DONE then
    let t := (s.put F.EPOCH_BAR_DELAY delay).put F.EPOCH_STATUS_BAR_CAL_DONE 1
    .next ({ t with ep := { t.ep with fine := 0, barNext := s.mono + 65536 } }).connRefresh.lateNext
  else .next s

/-- BARRIER_REMEASURE (R92, R93): the error is in 1/16 tick; 2.5 ns is 32 of them. [DEDUCED (unsafe), log row 35] -/
def execBarrierRemeasure (err : Int) (s : State) : Res :=
  if s.flag F.EPOCH_STATUS_BAR_CAL_DONE && s.ep.barNext ≤ s.mono then
    let t := s.put F.EPOCH_BAR_SKEW_MAX (max (s.get F.EPOCH_BAR_SKEW_MAX) (satTo 16 err.natAbs))
    let t := { t with ep := { t.ep with fine := t.ep.fine - dirOf err, barNext := s.mono + 65536 } }
    if 32 < err.natAbs then .next (t.stickyRaise F.EPOCH_STICKY_BAR_SKEW FS.EPOCH_BARRIER_SKEW) else .next t
  else .next s

/-- ISLAND_SKEW_CHECK (R94): the largest difference found between an island's copy and the EPOCH block. -/
def execIslandSkewCheck (diff : Nat) (s : State) : Res :=
  if s.ep.islNext ≤ s.mono then
    let t := { s with ep := { s.ep with islNext := s.mono + 65536 } }
    if 2 ≤ diff then .next (t.stickyRaise F.EPOCH_STICKY_ISLAND_SKEW FS.EPOCH_ISLAND_SKEW) else .next t
  else .next s

end Sys2Proof.Machine
end

