-- ==== Sys2Proof/Machine/LaneCode.lean ====
section
/-!
DEFINITION. What a drive lane carries (R319 to R325): chips, delimiters, the EDGE, HEARTBEAT and STATUS messages, and the level of
the line. A chip is true for H and false for L.
-/

namespace Sys2Proof.Machine

/-- The chips of a data bit: 1 is H, L and 0 is L, H (R319). -/
def bitChips (b : Bool) : List Bool := [b, !b]

/-- The chips of an n-bit field, most significant bit first (R319). -/
def fieldChips (n v : Nat) : List Bool := (msbBits n v).flatMap bitChips

/-- The delimiters of Table DRV-4: SOM_E, SOM_H, SOM_S and POST. -/
def somE : List Bool := [false, false, false, true]
/-- SOM_H. -/
def somH : List Bool := [false, false, false, false, true, true]
/-- SOM_S. -/
def somS : List Bool := [true, true, true, false]
/-- POST. -/
def post : List Bool := [true, true]

/-- The 48 chips of a TRIP: six L and six H, four times (Table DRV-4). -/
def tripChips : List Bool := (List.range 48).map fun k => decide (6 ≤ k % 12)

/-- SW of an edge (Table DRV-5). -/
def Edge.sw (e : Edge) : Nat := if e.both then 3 else b2n e.sideB

/-- The 32 bits of an EDGE (Table DRV-5). -/
def edgeWord (e : Edge) : Nat :=
  let d := 2 ^ 25 * e.sw + 2 ^ 24 * b2n (e.on && !e.both) + e.t % 2 ^ 24
  32 * d + crc5 (msbBits 27 d)

/-- The 68 chips of an EDGE (R322). -/
def edgeChips (e : Edge) : List Bool := somE ++ fieldChips 32 (edgeWord e)

/-- The 40 bits of a HEARTBEAT whose EPOCH field begins at a label (R323). -/
def heartbeatBits (label : Nat) : Nat :=
  let e := label % 2 ^ 32
  256 * e + crc8 [bitsOf e 24 8, bitsOf e 16 8, bitsOf e 8 8, bitsOf e 0 8]

/-- The 88 chips of a HEARTBEAT (R323). -/
def heartbeatChips (label : Nat) : List Bool := somH ++ fieldChips 40 (heartbeatBits label) ++ post

/-- The 13 bits of a response pass their check (R324, R325): the STATUS byte, and CRC-5 over it. -/
def statusOk (bits : Nat) : Bool := crc5 (msbBits 8 (bits / 32)) == bits % 32

/-- The 32 chips of a response (R324). -/
def statusChips (bits : Nat) : List Bool := somS ++ fieldChips 13 bits ++ post

/-- What a lane's pins carry: nothing driven by the device, a chip at the normal current, or a chip of a TRIP at the TRIP current
(R330, Tables DRV-3 and DRV-4). -/
inductive LineLevel where
  | quiet
  | chip (h : Bool)
  | trip (h : Bool)
  deriving DecidableEq, Repr

/-- The chip of FILL at a label, FILL having begun at another (Table DRV-4): L, H repeated. -/
def fillChip (begun k : Nat) : Bool := (k - begun) % 2 == 1

/-- What an ACTIVE lane carries at a label: FILL, a message, and after a HEARTBEAT the response slot, in which the device does not
drive (R321 to R323). -/
def Lane.levelOf (x : Lane) (k : Nat) : LineLevel :=
  if k < x.lineAt then .chip (fillChip x.fillAt k)
  else if k < x.lineAt + x.line.length then .chip (x.line.getD (k - x.lineAt) false)
  else if k < x.busyTo then .quiet
  else .chip (fillChip x.busyTo k)

/-- What lane l carries in the first or second half of the tick (R320, R321, R330, R333). -/
def State.dlOut (s : State) (l : Nat) (second : Bool) : LineLevel :=
  let x := s.drive.lane.get l
  if s.laneState l = 1 then x.levelOf (s.chipLabel l second)
  else if s.laneState l = 2 then .trip (tripChips.getD (s.mono - x.tripAt) false)
  else .quiet

/-- A message begins on a lane at a label and occupies the line for n chips, its response slot included. -/
def State.lineBegin (s : State) (l k n : Nat) (chips : List Bool) : State :=
  s.modLane l fun x => { x with line := chips, lineAt := k, fillAt := x.busyTo, busyTo := k + n }

end Sys2Proof.Machine
end

