-- ==== Sys2Proof/Machine/Drive.lean ====
section
/-!
DEFINITION. Gate drive and drive lanes (chapter 09): half-bridge edges, the internal lane, bootstrap refresh, the VDRV
lock-out, and the lane transmitters.
-/

namespace Sys2Proof.Machine

/-! ### Half-bridges -/

/-- The receiver takes an edge message (R302, R306, R308). -/
def State.hbReceive (s : State) (h : Nat) (e : Edge) : State :=
  let b := s.drive.hb.get h
  if e.t < s.epoch + 8 ∨ 8 ≤ b.queue.length then s.hbLate h
  else s.modHb h fun b => { b with queue := b.queue.filter (fun x => !x.same e) ++ [e] }

/-- HB_EDGE_RECEIVE (R302, R306, R308): the oldest edge message of PUh reaches the PAD edge queue. -/
def execHbEdgeReceive (h : Fin 8) (s : State) : Res :=
  match (s.pwm.get h).msgs with
  | [] => .next s
  | e :: t =>
    let s := s.modPwm h fun p => { p with msgs := t }
    if s.pdOn 9 then .next (s.hbReceive h e) else .next s

/-- The dead time of a half-bridge. -/
def State.hbDead (s : State) (h : Nat) : Nat := s.get (F.DRV_HB_CFG_DEADTIME h)

/-- The tick of the refresh step in progress (Table DRV-2). -/
def State.refreshTick (s : State) (h : Nat) : Nat :=
  let b := s.drive.hb.get h
  let dt := s.hbDead h
  let mo := s.get (F.PWM_TIMING_MINOFF h)
  if b.step = 1 then b.refresh + dt else if b.step = 2 then b.refresh + dt + mo else b.refresh + 2 * dt + mo

/-- Carries out the refresh step in progress (R314, R315). -/
def State.refreshStep (s : State) (h : Nat) : State :=
  let b := s.drive.hb.get h
  let t := s.refreshTick h
  if b.step = 1 then (s.put (F.DRV_HB_STATUS_LO h) 1).modHb h fun b => { b with step := 2 }
  else if b.step = 2 then (s.put (F.DRV_HB_STATUS_LO h) 0).modHb h fun b => { b with step := 3, offLo := some t }
  else ((s.put (F.DRV_HB_STATUS_HO h) 1).put (F.DRV_HB_STATUS_REFRESHING h) 0).modHb h
    fun b => { b with step := 0, refEnd := t }

/-- Executes an edge at its tick t (R303 to R305); the high side off restarts HI_RUN (R313). -/
def State.hbExecute (s : State) (h : Nat) (e : Edge) (t : Nat) : State :=
  if s.hbBlocked h then s
  else if e.on then
    if s.flag (hbGate h (!e.sideB)) then s.hbInterlock h else s.put (hbGate h e.sideB) 1
  else
    let s := if e.sideB then s else s.put (F.DRV_HB_STATUS_HI_RUN h) 0
    (s.put (hbGate h e.sideB) 0).modHb h fun b =>
      { b with queue := b.queue.filter (fun x => !(x.on && x.sideB == e.sideB && x.t ≤ e.t)),
               offHi := if e.sideB then b.offHi else some t, offLo := if e.sideB then some t else b.offLo,
               highAll := b.highAll && e.sideB }

/-- HB_EDGE_EXECUTE (R302 to R305, R314, R315): the next due event of the half-bridge: a refresh step, or the first
pending edge in the order of R302. -/
def execHbEdgeExecute (h : Fin 8) (s : State) : Res :=
  let b := s.drive.hb.get h
  if b.step ≠ 0 then
    if s.refreshTick h ≤ s.epoch then .next (s.refreshStep h) else .next s
  else
    match b.pick (s.hbDead h) b.queue with
    | none => .next s
    | some e =>
      let t := b.execTick (s.hbDead h) e
      if t ≤ s.epoch then
        .next ((s.modHb h fun b => { b with queue := b.queue.erase e }).hbExecute h e t)
      else .next s

/-- The internal lane is out of service (R309): every half-bridge off as a hold, LINK_ERR, DRV_LINK. -/
def State.linkDown (s : State) : State :=
  let s := { s with drive := { s.drive with linkLost := true } }
  ((s.put F.DRV_STATUS_LINK_OK 0).holdBegins 0).stickyRaise F.DRV_STICKY_LINK_ERR FS.DRV_LINK

/-- HB_LINK_CRC_ERROR (R309): the oldest message of PUh on the internal lane fails its CRC and is discarded. -/
def execHbLinkCrcError (h : Fin 8) (s : State) : Res :=
  if s.pdOn 9 then .next ((s.modPwm h fun p => { p with msgs := p.msgs.tail }).linkDown) else .next s

/-- HB_KEEPALIVE (R309): a keepalive restarts the timeout; a lost link stays lost until a reset. -/
def execHbKeepalive (s : State) : Res :=
  if s.pdOn 9 then
    let s := { s with drive := { s.drive with keepTick := s.mono } }
    .next (if s.drive.linkLost then s else s.put F.DRV_STATUS_LINK_OK 1)
  else .next s

/-- HB_KEEPALIVE_TIMEOUT (R309): 2,400 ticks without a keepalive while PD9 is on. -/
def execHbKeepaliveTimeout (s : State) : Res :=
  if s.pdOn 9 && !s.drive.linkLost && s.drive.keepTick + 2400 ≤ s.mono then .next s.linkDown else .next s

/-- A refresh starts at marker m (R313, R314). -/
def State.refreshStart (s : State) (h m : Nat) : State :=
  let s := ((((s.put (F.DRV_HB_STATUS_HO h) 0).put (F.DRV_HB_STATUS_REFRESHING h) 1).put (F.DRV_HB_STATUS_HI_RUN h) 0).set1
    (F.DRV_HB_STICKY_BST_REFRESH h)).incSat (F.DRV_HB_STATUS_REFRESH_CNT h)
  (s.wr (R.DRV_HB_REFRESH_TICK h) (w32 m)).modHb h fun b =>
    { b with refresh := m, step := 1, offHi := some m, highAll := false }

/-- A period-start marker m (R313). -/
def State.hbMarker (s : State) (h m : Nat) : State :=
  if s.hbBlocked h || s.pwmState h == 0 then
    (s.put (F.DRV_HB_STATUS_HI_RUN h) 0).modHb h fun b => { b with highAll := false }
  else
    let ho := s.flag (F.DRV_HB_STATUS_HO h)
    let run := if (s.drive.hb.get h).highAll && ho then s.get (F.DRV_HB_STATUS_HI_RUN h) + 1 else 0
    if 0 < run ∧ s.get (F.DRV_HB_CFG_REFRESH_PERIODS h) ≤ run then s.refreshStart h m
    else (s.put (F.DRV_HB_STATUS_HI_RUN h) run).modHb h fun b => { b with highAll := ho }

/-- Every edge due at or before a tick has executed, and no refresh is in progress: what R302's order asks before a
marker. -/
def State.hbSettled (s : State) (h m : Nat) : Bool :=
  let b := s.drive.hb.get h
  b.step == 0 && b.queue.all fun e => m < b.execTick (s.hbDead h) e

/-- HB_PERIOD_MARKER (R313): the oldest period-start marker of PUh acts at its tick. -/
def execHbPeriodMarker (h : Fin 8) (s : State) : Res :=
  match (s.pwm.get h).markers with
  | [] => .next s
  | m :: t =>
    if m ≤ s.epoch && (s.hbSettled h m || s.hbBlocked h) then
      .next ((s.modPwm h fun p => { p with markers := t }).hbMarker h m)
    else .next s

/-- VDRV_LOCKOUT (R311): VDRV has been below the falling threshold for 250 ns. A fall during a lock-out begins no new one.
[DEDUCED (unsafe), log row 50] -/
def execVdrvLockout (s : State) : Res :=
  if s.pdOn 9 then
    let t := (s.put F.DRV_STATUS_VDRV_OK 0).put F.SYS_RAILS_VDRV_OK 0
    let t := if s.flag F.DRV_STATUS_LOCKOUT then t
      else ((t.put F.DRV_STATUS_LOCKOUT 1).incSat F.DRV_UV_CNT_CNT).holdBegins 0
    .next (t.stickyRaise F.DRV_STICKY_VDRV_UV FS.DRV_VDRV_UV)
  else .next s

/-- VDRV_LOCKOUT_END (R312): VDRV has been above the rising threshold for 16,000 ticks since the later of its last rise and the
power-up. -/
def execVdrvLockoutEnd (s : State) : Res :=
  if s.pdOn 9 && s.flag F.DRV_STATUS_LOCKOUT && s.flag F.DRV_STATUS_VDRV_OK && s.drive.vdrvFrom + 16000 ≤ s.mono then
    .next (s.put F.DRV_STATUS_LOCKOUT 0).noteHolds
  else .next s

/-! ### Lanes: edges -/

/-- The level of a lane's switch at a tick: the base level and the accepted edges up to it (R302, R326). -/
def Lane.levelAt (x : Lane) (b : Bool) (t : Nat) : Bool :=
  x.sched.foldl (fun v e => if (e.both || e.sideB == b) && e.t ≤ t then e.on else v) (if b then x.lvlB else x.lvlA)

/-- The execution tick of an edge on a lane (R303, R326). -/
def Lane.execTick (x : Lane) (dt : Nat) (e : Edge) : Nat :=
  if e.on then
    match (if e.sideB then x.offA else x.offB) with
    | some p => max e.t (p + dt)
    | none => e.t
  else e.t

/-- The lane accepts an edge with its execution tick (R326): it stands over a queued message of the same switch and tick (R302); an
off-edge records its tick for the partner's dead time and cancels queued on-edges (R304; at a stop, every queued on-edge,
R332). -/
def Lane.accept (x : Lane) (e : Edge) : Lane :=
  let again := fun (y : Edge) => x.queue.contains y && y.same e
  let x := { x with queue := x.queue.filter (fun y => !again y), sched := x.sched.filter (fun y => !again y) }
  if e.on then { x with queue := x.queue ++ [e], sched := x.sched ++ [e] }
  else
    let gone := fun (y : Edge) => x.queue.contains y && y.on && (e.both || (y.sideB == e.sideB && e.t ≤ y.t))
    { x with queue := x.queue.filter (fun y => !gone y) ++ [e], sched := x.sched.filter (fun y => !gone y) ++ [e],
             offA := if e.both || !e.sideB then some e.t else x.offA,
             offB := if e.both || e.sideB then some e.t else x.offB }

/-- A lane takes edges: it is ACTIVE, or a TRIP that returns it to FILL is being sent (R331, R333). -/
def State.laneLive (s : State) (l : Nat) : Bool :=
  s.laneState l == 1 || (s.laneState l == 2 && (s.drive.lane.get l).after == 1)

/-- The transmitter takes an edge message (R305, R326, R331, R332). -/
def State.laneReceive (s : State) (l : Nat) (e : Edge) : State :=
  let x := s.drive.lane.get l
  if !s.laneLive l ∨ x.inter ∨ s.laneHeld l then s
  else
    let e := { e with t := x.execTick (s.get (F.LANE_CFG_DEADTIME l)) e }
    if e.on && x.levelAt (!e.sideB) e.t then s.laneInterlock l
    else s.modLane l fun x => x.accept e

/-- LANE_EDGE_RECEIVE (R303 to R305, R326, R331, R332): the oldest edge message of PU(8+l) reaches the transmitter. -/
def execLaneEdgeReceive (l : Fin 6) (s : State) : Res :=
  match (s.pwm.get (l + 8)).msgs with
  | [] => .next s
  | e :: t => .next ((s.modPwm (l + 8) fun p => { p with msgs := t }).laneReceive l e)

/-- The line is free for a chip labelled now. -/
def State.lineFree (s : State) (l : Nat) : Bool := s.laneState l == 1 && (s.drive.lane.get l).busyTo ≤ s.laneLabel l

/-- Begins an EDGE at a label (R319, R322, R327). -/
def State.edgeBegin (s : State) (l k : Nat) (e : Edge) : State :=
  ((s.incWrap (F.LANE_CNT_EDGE l)).lineBegin l k 68 (edgeChips e)).modLane l fun x =>
    { x with queue := x.queue.tail, sent := (x.sent.filter fun t => k < t) ++ [e.t] }

/-- LANE_EDGE_SEND (R327, R306): the oldest queued edge begins where the line allows it, or is late. -/
def execLaneEdgeSend (l : Fin 6) (s : State) : Res :=
  let x := s.drive.lane.get l
  match x.queue with
  | [] => .next s
  | e :: _ =>
    let k := s.laneLabel l
    if !s.lineFree l then .next s
    else if e.t < k + 67 + 8 ∨ 4 ≤ (x.sent.filter fun t => k < t).length then .next (s.laneLate l)
    else .next (s.edgeBegin l k e)

/-! ### Lanes: heartbeats and status -/

/-- LANE_HEARTBEAT_DUE (R328): a label that is a multiple of 800; it replaces one not started. One that falls due in a TRIP
waits. -/
def execLaneHeartbeatDue (l : Fin 6) (s : State) : Res :=
  let k := s.laneLabel l
  if s.laneLive l ∧ k % 800 = 0 then
    .next (s.modLane l fun x => { x with hbDue := some k, hbFirst := if x.hbDue.isSome then x.hbFirst else k })
  else .next s

/-- Sets a lane's sticky bit and raises its source while the unit reads RUNNING (R336). -/
def State.laneFault (s : State) (l : Nat) (c : Bool) (f : Fld) (n : Nat) : State :=
  if c then
    let s := s.set1 f
    if s.pwmState (l + 8) = 1 then s.raise n else s
  else s

/-- A response slot that brings no valid STATUS counts as a missing status; from the third in succession on, that is a fault (R324,
R336). -/
def State.laneMissing (s : State) (l : Nat) : State :=
  let t := ((s.incSat (F.LANE_ERR_CNT_MISSING l)).incSat (F.LANE_STAT_MISS_CONSEC l)).modLane l fun x => { x with hbOut := none }
  t.laneFault l (decide (3 ≤ t.get (F.LANE_STAT_MISS_CONSEC l))) (F.LANE_LSTICKY_NO_STATUS l) (FS.LANE_NO_STATUS l)

/-- A HEARTBEAT starts at a label: 152 chips with its slot; EPOCH's first chip follows the 6 chips of SOM_H (R323). [DEDUCED (unsafe), log row 48] -/
def State.heartbeatBegin (s : State) (l k : Nat) : State :=
  let s := if (s.drive.lane.get l).hbOut.isSome then s.laneMissing l else s
  ((s.incWrap (F.LANE_CNT_HB l)).lineBegin l k 152 (heartbeatChips (k + 6))).modLane l fun x =>
    { x with hbDue := none, hbOut := some (k + 6) }

/-- The unit's boundary or an edge of it under the values in force lies between now and 160 ticks after a label (R328): an edge
not yet issued at this tick, or one that FORCE does not replace at a later tick. -/
def State.edgeNear (s : State) (u k : Nat) : Bool :=
  let p := s.pwm.get u
  let near := fun (t : Nat) => decide (s.epoch ≤ t) && decide (t ≤ k + 160)
  let moves := fun (f : Nat) (v : Lvl) => f == 0 && decide (v.lo < v.hi) &&
    ((decide (0 < v.lo) && near (p.start + v.lo)) || (decide (v.hi < p.len) && near (p.start + v.hi)))
  p.counting && s.pwmState u != 2 &&
  (near p.next || s.levelsAt u s.epoch != (s.flag (F.PWM_STATUS_LEVEL_A u), s.flag (F.PWM_STATUS_LEVEL_B u)) ||
    moves (s.get (F.PWM_FORCE_FORCE_A u)) p.lvlA || moves (s.get (F.PWM_FORCE_FORCE_B u)) p.lvlB)

/-- LANE_HEARTBEAT_SEND (R328): no EDGE is queued, on its way or being sent. -/
def execLaneHeartbeatSend (l : Fin 6) (s : State) : Res :=
  let x := s.drive.lane.get l
  if x.hbDue.isSome && s.lineFree l && x.queue.isEmpty && (s.pwm.get (l + 8)).msgs.isEmpty && !s.edgeNear (l + 8) (s.laneLabel l) then
    .next (s.heartbeatBegin l (s.laneLabel l))
  else .next s

/-- LANE_HEARTBEAT_FORCED (R329): 1,200 ticks after the first due label it serves. -/
def execLaneHeartbeatForced (l : Fin 6) (s : State) : Res :=
  let x := s.drive.lane.get l
  if x.hbDue.isSome && s.lineFree l && x.hbFirst + 1200 ≤ s.laneLabel l then
    .next (s.heartbeatBegin l (s.laneLabel l))
  else .next s

/-- ON_A or ON_B differs from the levels commanded at the label, and no edge executes within 16 ticks of it (R336). -/
def Lane.echoBad (x : Lane) (k st : Nat) : Bool :=
  x.sched.all (fun e => e.t + 16 < k || k + 16 < e.t) &&
  (bitOf st 1 != x.levelAt false k || bitOf st 0 != x.levelAt true k)

/-- What a valid STATUS does (R324, R336; Table DRV-6). -/
def State.laneStatus (s : State) (l : Nat) (k st : Nat) : State :=
  let x := s.drive.lane.get l
  let s := ((s.put (F.LANE_STAT_STATUS l) st).put (F.LANE_STAT_MISS_CONSEC l) 0)
  let s := s.laneFault l (x.echoBad k st) (F.LANE_LSTICKY_ECHO l) (FS.LANE_ECHO l)
  let s := s.laneFault l (bitOf st 6 || bitOf st 5) (F.LANE_LSTICKY_DESAT l) (FS.LANE_DESAT l)
  let s := s.laneFault l (bitOf st 4 || !bitOf st 7) (F.LANE_LSTICKY_UVLO l) (FS.LANE_UVLO l)
  let s := s.laneFault l (bitOf st 3) (F.LANE_LSTICKY_OT l) (FS.LANE_OT l)
  let s := if bitOf st 2 then s.incSat (F.LANE_ERR_CNT_RX_ERR l) else s
  let s := s.laneFault l (bitOf st 2) (F.LANE_LSTICKY_RX_ERR l) (FS.LANE_RX_ERR l)
  s.modLane l fun x =>
    let old := fun (e : Edge) => e.t + 16 < k
    { x with hbOut := none, lvlA := ({ x with sched := x.sched.filter old } : Lane).levelAt false k,
             lvlB := ({ x with sched := x.sched.filter old } : Lane).levelAt true k,
             sched := x.sched.filter fun e => !old e }

/-- The last chip of a response has arrived in time (R324): of a 32-chip response that begins 4 to 8 chips after POST has reached the
driver, over a cable of at most 10 ticks each way (Table DRV-3). [DEDUCED (unsafe), log row 118] -/
def State.responseInTime (s : State) (l : Nat) : Bool :=
  let slot := (s.drive.lane.get l).busyTo - 64
  decide (slot + 36 ≤ s.laneLabel l) && decide (s.laneLabel l ≤ slot + 60)

/-- LANE_STATUS_RECEIVE (R324, R325, R336): the driver's 13 bits have arrived: the STATUS byte and its CRC-5. A response out of time or
with a failed CRC counts as a missing status. -/
def execLaneStatusReceive (l : Fin 6) (bits : BitVec 13) (s : State) : Res :=
  match (s.drive.lane.get l).hbOut with
  | none => .next s
  | some k =>
    if s.responseInTime l && statusOk bits.toNat then .next (s.laneStatus l k (bits.toNat / 32)) else .next (s.laneMissing l)

/-- LANE_STATUS_MISSING (R324, R336): the slot has ended without a valid STATUS. -/
def execLaneStatusMissing (l : Fin 6) (s : State) : Res :=
  let x := s.drive.lane.get l
  if x.hbOut.isSome && decide (x.busyTo ≤ s.laneLabel l) then .next (s.laneMissing l) else .next s

/-- LANE_TRIP_END (R330, R333): 48 chips after its start the TRIP ends. -/
def execLaneTripEnd (l : Fin 6) (s : State) : Res :=
  let x := s.drive.lane.get l
  if s.laneState l = 2 ∧ x.tripAt + 48 ≤ s.mono then .next (s.put (F.LANE_STAT_STATE l) x.after) else .next s

/-- A lane is FENCED, or about to be when its TRIP ends (R333). -/
def State.laneFenced (s : State) (l : Nat) : Bool :=
  s.laneState l == 3 || (s.laneState l == 2 && (s.drive.lane.get l).after == 3)

/-- A write of EN = 1 to a lane (R334); none is accepted in the safe state (R477) or in Foyer (R613). A TRIP that was to end in OFF
ends in ACTIVE. -/
def State.laneEnable (s : State) (i : Initiator) (l : Nat) : State :=
  if i = .hpa ∧ !s.inFoyer ∧ !s.flag F.CUR_STATUS_SAFE ∧ s.flag (F.LANE_CFG_USED l) ∧ s.flag F.EPOCH_STATUS_BAR_CAL_DONE ∧ !s.laneFenced l then
    let s := s.put (F.LANE_CTRL_EN l) 1
    if s.laneState l = 0 then
      (s.put (F.LANE_STAT_STATE l) 1).modLane l fun x =>
        { (default : Lane) with inter := x.inter, tripAt := x.tripAt, busyTo := s.laneLabel l }
    else if s.laneState l = 2 then s.modLane l fun x => { x with after := 1 }
    else s
  else s.cfgReject .laneAll

/-- LANE_ENABLE (R334). -/
def execLaneEnable (i : Initiator) (l : Fin 6) (s : State) : Res := .next (s.laneEnable i l)

/-- A write of EN = 0 to a lane (R334). -/
def State.laneDisable (s : State) (i : Initiator) (l : Nat) : State :=
  if i = .hpa ∧ !s.inFoyer ∧ s.pwmState (l + 8) = 0 then (s.put (F.LANE_CTRL_EN l) 0).laneTrip l 0 else s.cfgReject .laneAll

/-- LANE_DISABLE (R334). -/
def execLaneDisable (i : Initiator) (l : Fin 6) (s : State) : Res := .next (s.laneDisable i l)

/-- A write to LANE_COMP: QUIET; above 68 half ticks refused; stopped means STATE = OFF (Table DRV-13). -/
def State.laneCompWrite (s : State) (l : Nat) (v : Word) : State :=
  let c := bitsOf v.toNat 0 7
  s.quietGate (.lane l) (s.laneState l != 0) (F.LANE_COMP_COMP l) c fun s =>
    if 68 < c then s.cfgReject (.lane l) else s.put (F.LANE_COMP_COMP l) c

end Sys2Proof.Machine
end

