-- ==== Sys2Proof/Machine/Loop.lean ====
section
/-!
DEFINITION. Loop engines (chapter 06): execution, commit, abandonment, lockstep and memory errors, enable and disable,
and writes into the TCM window.
-/

namespace Sys2Proof.Machine

/-- The status record and the loan-in slots that an execution start writes (R192, Table LOOP-2). [DEDUCED (unsafe), log row 41] -/
def State.execHeader (s : State) (p : Nat) (seq target : Nat) (prevAb first : Bool) : State :=
  let fu := s.fenceUnits p
  let ws := [seq, target % 2 ^ 32, target / 2 ^ 32, s.epoch % 2 ^ 32, target - guardTicks - s.epoch,
    b2n (fu != 0) + 2 * b2n (s.pairHeld p) + 4 * b2n prevAb + 8 * b2n first + 65536 * fu, s.shareW.toNat, s.loopOp p]
  let s := s.wrBytes (tcmBase p + 0xF800) (ws.flatMap (leBytes 4))
  s.forEach (List.range 6) fun s q =>
    s.wrBytes (tcmBase p + 0xF100 + 0x100 * q)
      ((List.range 64).flatMap fun w => leBytes 4 (if q = p then 0 else (s.loanWord q w).toNat))

/-- An execution starts on a group record (R190 to R195, R201). [DEDUCED (unsafe), log row 44] -/
def State.execStart (s : State) (p : Nat) (r : GRec) : State :=
  let l := s.loop.get p
  let target := s.boundaryFrom (s.get (F.LP_CFG_PERIOD_UNIT p)) (r.c + r.pc)
  let s := ((s.slotTransfer p).snapshot p).execHeader p l.seqNext target l.prevAb l.first
  let res := s.runGraph p r l.first l.prevAb l.seqNext
  let s := (((s.put (F.LP_STATUS_STATE p) 3).put (F.LP_STATUS_HELD_REC p) 0).wr (R.LP_EXEC_CNT p) (w32 l.seqNext)).wr
    (R.LP_TARGET p) (w32 target)
  let s := s.modLoop p fun l =>
    { l with rcd := none, target := target, deadline := target - guardTicks, started := s.epoch, running := true,
             seqNext := (l.seqNext + 1) % 2 ^ 32, first := false, prevAb := false, res := res }
  if res.numeric then s.stickyRaise (F.LP_STICKY_NUMERIC p) (FS.LOOP_NUMERIC p) else s

/-- LOOP_EXEC_START (R191, R192, R194): an idle pair with a group record starts. -/
def execLoopExecStart (p : Fin 6) (s : State) : Res :=
  match (s.loop.get p).rcd with
  | none => .next s
  | some r => if s.lpState p = 2 then .next (s.execStart p r) else .next s

/-- The state after an execution: waiting where enabled, else idle (R212). -/
def State.execDone (s : State) (p : Nat) : State :=
  let on := s.flag (F.LP_CTRL_EN p)
  ((s.put (F.LP_STATUS_STATE p) (if on then 2 else 1)).put (F.LP_STATUS_HELD_REC p) 0).modLoop p fun l =>
    { l with running := false, rcd := if on then l.rcd else none }

/-- The commit of a pair's execution (R193, R196, R200, R216, R264). -/
def State.loopCommit (s : State) (p cycles : Nat) : State :=
  let l := s.loop.get p
  let slack := satTo 16 (l.deadline - s.epoch)
  let s := ((s.commitTcm p l.res).commitUnits p l.target l.res.pwm).modLoop p fun l => { l with commits := l.commits + 1 }
  let s := (s.put (F.LP_STATUS_OVR_CONSEC p) 0).wr (R.LP_COMMIT_TICK p) s.now32
  let s := (s.put (F.LP_CYCLES_LAST p) (satTo 16 cycles)).put (F.LP_CYCLES_MAX p) (max (s.get (F.LP_CYCLES_MAX p)) (satTo 16 cycles))
  let s := (s.put (F.LP_SLACK_LAST p) slack).put (F.LP_SLACK_MIN p) (min (s.get (F.LP_SLACK_MIN p)) slack)
  let s := (s.execDone p).gridCommit p
  if l.res.plaus then s.raise (FS.LOOP_PLAUS p) else s

/-- LOOP_COMMIT (R193, R196): the execution ends, with the engine cycles it used, before its deadline. -/
def execLoopCommit (p : Fin 6) (cycles : Nat) (s : State) : Res :=
  let l := s.loop.get p
  if s.lpState p = 3 ∧ l.running ∧ s.epoch < l.deadline then .next (s.loopCommit p cycles) else .next s

/-- The abandonment of an execution (R199, R200). -/
def State.loopAbandon (s : State) (p : Nat) : State :=
  let s := ((s.set1 (F.LP_STICKY_OVERRUN p)).incSat (F.LP_OVR_CNT_CNT p)).incSat (F.LP_STATUS_OVR_CONSEC p)
  let s := (s.execDone p).modLoop p fun l => { l with prevAb := true }
  if s.get (F.LP_STATUS_OVR_CONSEC p) = 3 then s.raise (FS.LOOP_OVERRUN p) else s

/-- LOOP_ABANDON (R199, R200): the deadline comes before the commit. -/
def execLoopAbandon (p : Fin 6) (s : State) : Res :=
  let l := s.loop.get p
  if s.lpState p = 3 ∧ l.running ∧ l.deadline ≤ s.epoch then .next (s.loopAbandon p) else .next s

/-- LOOP_LOCKSTEP_MISMATCH (R186): an output of a running pair differs from its checker's. -/
def execLoopLockstepMismatch (p : Fin 6) (s : State) : Res :=
  if s.lpState p = 3 then .next ((s.pairHalt p).stickyRaise (F.LP_STICKY_LOCKSTEP p) (FS.LOOP_LOCKSTEP p)) else .next s

/-- LOOP_TCM_ECC_ERROR (R187): a single-bit error is corrected and counted; a double-bit error halts the pair. -/
def execLoopTcmEccError (p : Fin 6) (double : Bool) (s : State) : Res :=
  if !s.pdOn (pairPd p) then .next s
  else if double then .next ((s.pairHalt p).stickyRaise (F.LP_STICKY_ECC_UNCOR p) (FS.LOOP_TCM_ECC p))
  else .next (s.incSat (F.LP_STATUS_ECC_COR p))

/-- An enable of a pair is refused (R209, R210; a fenced or halted pair, and any pair in the safe state, needs a reset, R207).
[DEDUCED (unsafe), log row 41] -/
def State.loopEnRefused (s : State) (i : Initiator) (p : Nat) : Bool :=
  i != .hpa || s.inFoyer || !s.pdOn (pairPd p) || !s.flag (F.LP_CFG_HAS_GRAPH p) || s.lpState p == 4 ||
  s.flag (F.LP_STATUS_PAIR_FENCED p) || s.flag F.CUR_STATUS_SAFE ||
  s.get (F.PWM_PERIOD (s.get (F.LP_CFG_PERIOD_UNIT p))) < s.lpMinPeriod p

/-- A write of EN = 1 (R209 to R211); one that finds EN = 1 and is not refused changes nothing (log row 41). Under a debug halt the
pair waits once it is resumed (R214). [DEDUCED (unsafe), log row 41] -/
def State.loopEnable (s : State) (i : Initiator) (p : Nat) : State :=
  if s.loopEnRefused i p then s.cfgReject (.loop p)
  else if s.flag (F.LP_CTRL_EN p) then s
  else
    let s := (s.graphInit p).put (F.LP_CTRL_EN p) 1
    let s := ((((s.put (F.LP_STATUS_OVR_CONSEC p) 0).put (F.LP_OVR_CNT_CNT p) 0).wr (R.LP_EXEC_CNT p) 0).put
      (F.LP_STATUS_STATE p) (if s.lpState p = 5 then 5 else 2)).put (F.LP_STATUS_HELD_REC p) 0
    (s.modLoop p fun l => { l with rcd := none, running := false, seqNext := 0, commits := 0, first := true, prevAb := false,
                                   saved := 2 }).gridEnabled p

/-- LOOP_ENABLE (R209 to R211). -/
def execLoopEnable (i : Initiator) (p : Fin 6) (s : State) : Res := .next (s.loopEnable i p)

/-- A write of EN = 0 (R209, R212): a pair that waits becomes IDLE, under a debug halt too (R214). -/
def State.loopDisable (s : State) (i : Initiator) (p : Nat) : State :=
  if i ≠ .hpa ∨ s.inFoyer then s.cfgReject (.loop p)
  else
    let on := s.flag (F.LP_CTRL_EN p)
    let s := s.put (F.LP_CTRL_EN p) 0
    let s := if s.lpState p = 2 then s.execDone p
      else if s.lpState p = 5 ∧ (s.loop.get p).saved = 2 then s.modLoop p fun l => { l with saved := 1, rcd := none } else s
    if on then s.gridDisabled p else s

/-- LOOP_DISABLE (R209, R212). -/
def execLoopDisable (i : Initiator) (p : Fin 6) (s : State) : Res := .next (s.loopDisable i p)

/-- CLR_MAX clears MAX of LP_CYCLES, and MIN of LP_SLACK to its reset value (R216). [DEDUCED (unsafe), log row 41] -/
def State.loopClrMax (s : State) (p : Nat) : State := (s.put (F.LP_CYCLES_MAX p) 0).put (F.LP_SLACK_MIN p) 0xFFFF

/-- LOOP_CLR_MAX (R216). -/
def execLoopClrMax (_i : Initiator) (p : Fin 6) (s : State) : Res := .next (s.loopClrMax p)

/-- A write of LP_CTRL (Table LOOP-6): CLR_MAX, and EN under R209 to R212 whatever EN is. -/
def State.lpCtrlWrite (s : State) (i : Initiator) (p : Nat) (v : Word) : State :=
  let s := if bitOf v.toNat 1 then s.loopClrMax p else s
  if bitOf v.toNat 0 then s.loopEnable i p else s.loopDisable i p

/-! ### Set-points (R188, R190) -/

/-- A set-point slot that only the device writes: 246 and 247 during a trace through the pair (R449), 248 to 255 of the
grid pair (R344). -/
def State.slotOwned (s : State) (p n : Nat) : Bool :=
  ((n == 246 || n == 247) && (List.range 4).any fun x => s.maintRuns (Act.ivTrace x) && (s.diag.iv.get x).pair == p) ||
  (248 ≤ n && s.gridPair == some p)

/-- A write of a word at an offset of a pair's TCM window (R36, R37, R188, R190). A set-point waits in its shadow until the pair's
next execution starts, and a read gives the value in force until then: Table SCOPE-4 says so of a LIVE field, where the text
before R188 has reads return the main core's copy, which a write reaches (log row 115). [DEDUCED (unsafe), log row 115] -/
def State.tcmWrite (s : State) (p off : Nat) (v : Word) : State :=
  if off < 0x4000 ∨ 0x4400 ≤ off then s.cfgReject (.loop p)
  else if s.slotOwned p ((off - 0x4000) / 4) then s.cfgReject (.loop p)
  else
    let a := tcmBase p + off
    s.liveGate (.loop p) ⟨a, 0, 32⟩ v.toNat fun s => s.toShadow ⟨a, 0, 32⟩ v.toNat

/-- TCM_WRITE (R188, R190): a word write into a pair's window while its domain is on. -/
def execTcmWrite (_i : Initiator) (p : Fin 6) (word : Fin 16384) (v : Word) (s : State) : Res :=
  if s.pdOn (pairPd p) then .next (s.tcmWrite p (4 * word) v) else .next s

end Sys2Proof.Machine
end

