-- ==== Sys2Proof/Machine/DebugOps.lean ====
section
/-!
DEFINITION. Docent debug halts, resumes and the end of a permit (R214, R296, R589, R598).
-/

namespace Sys2Proof.Machine

/-- A target of the debug link is halted: 0 HPA, 1 HPB, 2 to 7 LP0 to LP5, 8 SP (Table SVA-15). -/
def State.dbgHalted (s : State) (t : Nat) : Bool := s.sv.haltAt.get t != 0

/-- The units that a halt of a target freezes (R296): a Hokuon pair's own, a loop pair's COMMIT_MASK, enabled or not. -/
def State.dbgUnits (s : State) (t : Nat) : List Nat :=
  if t < 2 then (List.range 14).filter fun u => s.get (F.PWM_CTRL_OWNER u) == t && (s.unitPair u).isNone
  else if t < 8 then maskIdx 14 (s.get (F.LP_CFG_COMMIT_MASK (t - 2)))
  else []

/-- A unit freezes at the halt tick (R296). -/
def State.freezeUnit (s : State) (u : Nat) : State :=
  if s.pwmState u = 1 then (s.put (F.PWM_STATUS_STATE u) 2).modPwm u fun p => { p with frozenAt := s.epoch } else s

/-- A frozen unit goes on from its frozen value, its boundaries s - h ticks later (R296). -/
def State.thawUnit (s : State) (u : Nat) : State :=
  if s.pwmState u = 2 then (s.put (F.PWM_STATUS_STATE u) 1).shiftUnit u (s.epoch - (s.pwm.get u).frozenAt)
  else s

/-- A halt of a target, by HALT or a breakpoint hit (R214, R296, R598). -/
def State.dbgHalt (s : State) (t : Nat) (bp : Bool) : State :=
  if s.dbgHalted t then s
  else
    let us := s.dbgUnits t
    let s := s.forEach us State.freezeUnit
    let s := s.modSv fun v =>
      { v with haltAt := v.haltAt.set t (s.epoch + 1), haltUnits := v.haltUnits.set t us, bpHit := bp }
    let s := if 2 ≤ t ∧ t < 8 ∧ (s.get (F.LP_STATUS_STATE (t - 2)) = 1 ∨ s.get (F.LP_STATUS_STATE (t - 2)) = 2 ∨
        s.get (F.LP_STATUS_STATE (t - 2)) = 3) then
        { (s.put (F.LP_STATUS_STATE (t - 2)) 5) with loop := s.loop.modify (t - 2) fun l => { l with saved := s.get (F.LP_STATUS_STATE (t - 2)) } }
      else s
    let s := if t = 0 then { s with start := { s.start with wdHeld := some s.mono } } else s
    s.raise FS.DOCENT_HALT

/-- A halt that stands covers a unit. -/
def State.dbgCovers (s : State) (u : Nat) : Bool :=
  (List.range 9).any fun t => s.dbgHalted t && (s.sv.haltUnits.get t).contains u

/-- The units that a halt of a target froze. -/
def State.haltUnits (s : State) (t : Nat) : List Nat := (s.sv.haltUnits.get t).filter (· < 14)

/-- The resume of a halted target (R214, R296, R598): the units it froze go on, but for those that another halt covers; deadlines
that passed during the halt move with it. -/
def State.dbgResume (s : State) (t : Nat) : State :=
  let h := s.sv.haltAt.get t
  if h = 0 then s
  else
    let d := s.epoch - (h - 1)
    let us := s.haltUnits t
    let s := s.modSv fun v => { v with haltAt := v.haltAt.set t 0, haltUnits := v.haltUnits.set t [] }
    let s := s.forEach us fun s u => if s.dbgCovers u then s else s.thawUnit u
    if t = 0 then
      { s with start := { s.start with wdHeld := none, wdFrom := s.start.wdFrom + (s.mono - s.start.wdHeld.getD s.mono) } }
    else if 2 ≤ t ∧ t < 8 ∧ s.get (F.LP_STATUS_STATE (t - 2)) = 5 then
      let l := s.loop.get (t - 2)
      { (s.put (F.LP_STATUS_STATE (t - 2)) l.saved) with loop := s.loop.set (t - 2) { l with deadline := l.deadline + d } }
    else s

/-- Every halt is released and every breakpoint is cleared (R598). -/
def State.dbgRelease (s : State) : State :=
  let s := s.forEach (List.range 9) State.dbgResume
  s.forEach [0, 1] fun s q => s.modHok q fun k => { k with bp := [] }

/-- The permit ends (R589). -/
def State.dbgPermitEnd (s : State) : State :=
  if s.get F.SV_INFO_PERMIT = 0 then s
  else ((s.put F.SV_INFO_PERMIT 0).modSv fun v => { v with permitTo := 0, held := none }).dbgRelease

end Sys2Proof.Machine
end

