-- ==== Sys2Proof/Machine/PerfOps.lean ====
section
/-!
DEFINITION. The performance counters and the Archive (R529 to R533). How many cycles an instruction takes is timing: the counts that
depend on it are drawn.
-/

namespace Sys2Proof.Machine

/-- What an occurrence belongs to: the address of its instruction, the data address of a load or store, whether it is a store and
whether its latency is one that R533 records. -/
structure Note where
  pc : Nat
  addr : Nat
  store : Bool
  timed : Bool
  deriving DecidableEq, Repr, Inhabited

/-- Events whose record names the next instruction to retire (R533). [DEDUCED (unsafe), log row 78] -/
def impreciseEvent (e : Nat) : Bool :=
  [0x00, 0x02, 0x05, 0x06, 0x1C, 0x26, 0x2B].contains e || (0x40 ≤ e && e < 0x50) || (0x58 ≤ e && e < 0x5C)

/-- Two core cycles in ticks, as a checker's stamp lies behind (R504): the period of OP-H is no whole number of ticks: drawn.
[DEDUCED (unsafe), log row 78] -/
def State.checkerLag (s : State) (q : Nat) : Nat :=
  let op := if q = 0 then s.get F.SYS_OP_STATUS_CUR_PD2 else s.get F.SYS_OP_STATUS_CUR_PD3
  if op = 0 then 2 + s.drawn % 2 else if op = 1 then 5 else 10

/-- The bytes of an Archive record (Table HOK-7): LATENCY and the issue slot are timing, drawn. [DEDUCED (unsafe), log row 78] -/
def State.archBytes (s : State) (q j e : Nat) (i : Note) : List Byte :=
  let lat := if i.timed then Config.freeDraw (s.draws + 1) % 65536 else 0
  let fl := 1 + 2 * b2n (!impreciseEvent e) + 4 * b2n (s.hok.get q).mmode + 8 * b2n i.store + 16 * (Config.freeDraw (s.draws + 2) % 2)
  leBytes 4 i.pc ++ leBytes 4 i.addr ++ leBytes 1 fl ++ leBytes 1 e ++ leBytes 2 lat ++
    leBytes 4 (s.epoch + (if j = 1 then s.checkerLag q else 0))

/-- A sample of core 2q + j (R532): the record goes into the slot ARCH_WR names. [DEDUCED (unsafe), log row 78] -/
def State.archSample (s : State) (q j e : Nat) (i : Note) : State :=
  let k := 2 * q + j
  let f : Fld := ⟨R.PERF_ARCH_WR k, 0, 8⟩
  let w := s.get f
  let a := 0x203FC000 + 0x1000 * k + 16 * w
  let old := bitOf (bU8 (s.rdBytes (a + 8) 1) 0) 0
  let s := ((s.wrBytes a (s.archBytes q j e i)).drewN 3).put f ((w + 1) % 256)
  let s := s.modHok q fun h => { h with cnt := h.cnt.set (96 * j + 0x5D) ((h.cnt.get (96 * j + 0x5D) + 1) % 2 ^ 48) }
  if s.flag (F.PERF_ARCH_CTRL_STOP_FULL k) then
    if w = 255 then (s.put (F.PERF_ARCH_CTRL_EN k) 0).modHok q fun h => { h with archFull := bitsPut h.archFull j 1 1 } else s
  else if old then s.put ⟨R.PERF_STATUS, 8 + k, 1⟩ 1 else s

/-- Occurrences of an event reach the Archive of core 2q + j (R532). -/
def State.archCount (s : State) (q j e n : Nat) (i : Note) : State :=
  let k := 2 * q + j
  if s.flag (F.PERF_ARCH_CTRL_EN k) && s.get (F.PERF_ARCH_CTRL_EVENT k) == e then
    let t := (s.hok.get q).arch.get (96 * j + e) + n
    let p := 2 ^ s.get (F.PERF_ARCH_CTRL_K k)
    let s := s.modHok q fun h => { h with arch := h.arch.set (96 * j + e) (t % p) }
    s.forEach (List.range (t / p)) fun s _ => if s.flag (F.PERF_ARCH_CTRL_EN k) then s.archSample q j e i else s
  else s

/-- A core counts: not while its FREEZE is 1 or its pair is halted by Docent (R529). -/
def State.counts (s : State) (q j : Nat) : Bool := !bitOf (s.rd R.PERF_CTRL).toNat (2 * q + j) && !s.dbgHalted q

/-- Event e occurs n times in pair q: both cores count it (R507, R529, R530). [DEDUCED (unsafe), log row 78] -/
def State.perfAdd (s : State) (q : Nat) (i : Note) (e n : Nat) : State :=
  if n = 0 then s
  else s.forEach [0, 1] fun s j =>
    if s.counts q j then
      let c := (s.hok.get q).cnt.get (96 * j + e) + n
      let s := s.modHok q fun h => { h with cnt := h.cnt.set (96 * j + e) (c % 2 ^ 48) }
      let s := if 2 ^ 48 ≤ c then s.put ⟨R.PERF_STATUS, 2 * q + j, 1⟩ 1 else s
      s.archCount q j e n i
    else s

/-- An occurrence outside an instruction: the next to retire is the one at the pc. -/
def State.noteAt (s : State) (q : Nat) : Note := { pc := (s.hok.get q).pc, addr := 0, store := false, timed := false }

/-- Events that occur once each. -/
def State.perfAll (s : State) (q : Nat) (i : Note) (es : List Nat) : State := s.forEach es fun s e => s.perfAdd q i e 1

/-- The events whose counts depend on timing alone (Table HOK-6): stalls, misses' cycles, latencies, mispredicts, masked and empty
cycles. [DESIGN CHOICE (safe), log row 73] -/
def timingEvents : List Nat :=
  [0x11, 0x14, 0x15, 0x22, 0x27, 0x2B, 0x2C, 0x38, 0x39, 0x3A, 0x3B, 0x3C, 0x3D, 0x3E, 0x3F, 0x50, 0x51, 0x52, 0x53, 0x54, 0x55, 0x56,
    0x57, 0x58, 0x59]

/-- The cycles an instruction takes, drawn, its slots by class (R530: one slot holds it, the four classes sum to SLOTS), and the
other counts that depend on timing. [DESIGN CHOICE (unsafe), log row 72; DESIGN CHOICE (safe), log row 73] -/
def State.perfTime (s : State) (q : Nat) (i : Note) (umode : Bool) : State :=
  let d := fun (k : Nat) => Config.freeDraw (s.draws + k)
  let c := d 0 % 65536 + 1
  let free := 2 * c - 1
  let wasted := d 1 % (free + 1)
  let fe := d 2 % (free - wasted + 1)
  let s := ([(0x00, c), (0x02, 2 * c), (0x03, 1), (0x04, wasted), (0x05, fe), (0x06, free - wasted - fe),
    (0x5A, if umode then c else 0)] : List (Nat × Nat)).foldl (fun (s : State) x => s.perfAdd q i x.1 x.2) s
  let s := ((List.range timingEvents.length).zip timingEvents).foldl (fun (s : State) (x : Nat × Nat) =>
    s.perfAdd q i x.2 (d (3 + x.1) % 65536)) s
  s.drewN (3 + timingEvents.length)

end Sys2Proof.Machine
end

