-- ==== Sys2Proof/Machine/Sha3.lean ====
section
/-!
DEFINITION. SHA3-256 of FIPS 202, which the spec names and does not write out (chapter 18): Keccak-f[1600] with a rate of 136 bytes,
the suffix 01 and 32 bytes of output. [PRESUMED (unsafe), log row 122]
-/

namespace Sys2Proof.Machine

/-- A 64-bit lane rotated toward its high end. -/
def rotl64 (x n : Nat) : Nat := (x <<< n ||| x >>> (64 - n)) % 2 ^ 64

/-- The rotations of the lanes, by x + 5 y. -/
def keccakRot : List Nat := [0, 1, 62, 28, 27, 36, 44, 6, 55, 20, 3, 10, 43, 25, 39, 41, 45, 15, 21, 8, 18, 2, 61, 56, 14]

/-- The round constants. -/
def keccakRc : List Nat :=
  [0x0000000000000001, 0x0000000000008082, 0x800000000000808A, 0x8000000080008000, 0x000000000000808B, 0x0000000080000001,
   0x8000000080008081, 0x8000000000008009, 0x000000000000008A, 0x0000000000000088, 0x0000000080008009, 0x000000008000000A,
   0x000000008000808B, 0x800000000000008B, 0x8000000000008089, 0x8000000000008003, 0x8000000000008002, 0x8000000000000080,
   0x000000000000800A, 0x800000008000000A, 0x8000000080008081, 0x8000000000008080, 0x0000000080000001, 0x8000000080008008]

/-- The column parities, spread over the state. -/
def keccakTheta (a : List Nat) : List Nat :=
  let c := (List.range 5).map fun x => (List.range 5).foldl (fun (v : Nat) y => v ^^^ a.getD (x + 5 * y) 0) 0
  let d := (List.range 5).map fun x => c.getD ((x + 4) % 5) 0 ^^^ rotl64 (c.getD ((x + 1) % 5) 0) 1
  (List.range 25).map fun i => a.getD i 0 ^^^ d.getD (i % 5) 0

/-- The lanes rotated and moved. -/
def keccakRhoPi (a : List Nat) : List Nat :=
  (List.range 25).map fun j =>
    let i := (j % 5 + 3 * (j / 5)) % 5 + 5 * (j % 5)
    rotl64 (a.getD i 0) (keccakRot.getD i 0)

/-- The rows combined, and the round's constant. -/
def keccakChi (b : List Nat) (rc : Nat) : List Nat :=
  (List.range 25).map fun i =>
    let r := 5 * (i / 5)
    let v := b.getD i 0 ^^^ ((2 ^ 64 - 1 - b.getD (r + (i + 1) % 5) 0) &&& b.getD (r + (i + 2) % 5) 0)
    if i = 0 then v ^^^ rc else v

/-- The permutation of 24 rounds. -/
def keccakF (a : List Nat) : List Nat :=
  keccakRc.foldl (fun (a : List Nat) rc => keccakChi (keccakRhoPi (keccakTheta a)) rc) a

/-- A lane of eight bytes, the first least significant. -/
def laneOf (bs : List Byte) : Nat := bs.foldr (fun (b : Byte) n => b.toNat + 256 * n) 0

/-- Absorbs n blocks of 136 bytes. -/
def keccakAbsorb : Nat → List Byte → List Nat → List Nat
  | 0, _, a => a
  | n + 1, bs, a =>
    keccakAbsorb n (bs.drop 136)
      (keccakF ((List.range 25).map fun i => if i < 17 then a.getD i 0 ^^^ laneOf ((bs.drop (8 * i)).take 8) else a.getD i 0))

/-- The message with its padding to whole blocks. -/
def sha3Pad (bs : List Byte) : List Byte :=
  let q := 136 - bs.length % 136
  if q = 1 then bs ++ [0x86#8] else bs ++ [0x06#8] ++ List.replicate (q - 2) 0#8 ++ [0x80#8]

/-- SHA3-256: 32 bytes. -/
def sha3 (bs : List Byte) : List Byte :=
  let p := sha3Pad bs
  let a := keccakAbsorb (p.length / 136) p (List.replicate 25 0)
  (a.take 4).flatMap fun v => (List.range 8).map fun k => BitVec.ofNat 8 (v >>> (8 * k))

end Sys2Proof.Machine
end

