-- ==== Sys2Proof/Machine/ImageOps.lean ====
section
/-!
DEFINITION. The Crehar image: its layout, the validation of Table IMG-10, and the register values that its sections give
(Table IMG-14).
-/

namespace Sys2Proof.Machine

/-! ### Layout (R12 to R18) -/

/-- An entry of the section directory (R14). -/
structure DirEnt where
  ty : Nat
  inst : Nat
  ver : Nat
  off : Nat
  len : Nat
  resv : Nat
  deriving DecidableEq, Repr

/-- The directory of an image's bytes. -/
def imgDir (bs : List Byte) : List DirEnt :=
  (List.range (bU bs 0x1C 2)).map fun k =>
    let o := 0x80 + 16 * k
    { ty := bU bs o 2, inst := bU8 bs (o + 2), ver := bU8 bs (o + 3), off := bU bs (o + 4) 4, len := bU bs (o + 8) 4,
      resv := bU bs (o + 12) 4 }

/-- The image that a run of bytes holds: the header and the sections. [DEDUCED (unsafe), log row 89] -/
def parseImage (bs : List Byte) : Image :=
  { header := bs.take 128
    sections := (imgDir bs).map fun d => { ty := d.ty, inst := d.inst, bytes := (bs.drop d.off).take d.len } }

/-- A section of an image; none of its bytes where it has no such section. -/
def Image.sec (im : Image) (ty inst : Nat) : List Byte :=
  match im.sections.find? (fun x => x.ty == ty && x.inst == inst) with
  | some x => x.bytes
  | none => []

/-- An image holds a section. -/
def Image.has (im : Image) (ty inst : Nat) : Bool := im.sections.any fun x => x.ty == ty && x.inst == inst

/-- Every byte of a part is 0x00. -/
def zeros (bs : List Byte) (o n : Nat) : Bool := ((bs.drop o).take n).all (· == 0#8)

/-- A multiple of 16 at or above a number. -/
def align16 (n : Nat) : Nat := (n + 15) / 16 * 16

/-- The length of the signature block (R16). -/
def sigLen : Nat := 3744

/-- The length of an image slot (Table HOK-4). -/
def imgSlotSize : Nat := 0x40000

/-- The base of an image slot: 0 IMG-A, 1 IMG-B (Table HOK-4). -/
def imgBase (slot : Nat) : Nat := if slot = 0 then 0x10600000 else 0x10640000

/-- A header with every byte 0x00 is that of an erased slot (log row 13). [DEDUCED (unsafe), log row 13] -/
def erased (bs : List Byte) : Bool := zeros bs 0 128

/-! ### Steps 1 to 7, which packages share (Table IMG-10, Table SVA-5) -/

/-- MAGIC, FORMAT_VER and HEADER_SIZE. [DEDUCED (unsafe), log row 89] -/
def hdrOk (magic : Nat) (bs : List Byte) : Bool := bU bs 0 4 == magic && bU bs 4 2 == 1 && bU bs 6 2 == 0x80

/-- IMAGE_SIZE against BODY_SIZE and the slot. -/
def sizeOk (slotSize : Nat) (bs : List Byte) : Bool :=
  bU bs 8 4 == 128 + align16 (bU bs 0x20 4) + sigLen && bU bs 8 4 ≤ slotSize

/-- TARGET_PART, MIN_MAJOR, MIN_MINOR and GRADE_MASK accept SYS_ID. -/
def State.targetOk (s : State) (bs : List Byte) : Bool :=
  let major := s.get F.SYS_ID_MAJOR
  let minor := s.get F.SYS_ID_MINOR
  bU bs 0xC 4 == 0x9680 && (bU8 bs 0x10 < major || (bU8 bs 0x10 == major && bU8 bs 0x11 ≤ minor)) &&
    bitOf (bU8 bs 0x12) (b2n Config.isMt)

/-- A signer's key is accepted (R567, R570): SHA3-256 of it equals VENDOR_ROOT_HASH or the unrevoked owner slot's hash. -/
def State.keyOk (s : State) (signer : Nat) (key : List Byte) : Bool :=
  if signer = 0 then sha3 key == Config.vendorHash
  else signer ≤ 4 && !bitOf s.sv.revoked (signer - 1) && s.sv.hash.get signer != [] && sha3 key == s.sv.hash.get signer

/-- The signature block of an image or a package. [DEDUCED (unsafe), log row 89] -/
def sigBlock (bs : List Byte) : List Byte := bs.drop (128 + align16 (bU bs 0x20 4))

/-- The public key of the signature block. -/
def sigKey (bs : List Byte) : List Byte := ((sigBlock bs).drop 4).take 1312

/-- SIG_LEN and the signature over the SHA3-256 digest of the header (R16). -/
def sigOk (bs : List Byte) : Bool :=
  bU (sigBlock bs) 0 4 == 2420 &&
    Config.mldsaVerify (sigKey bs) (((sigBlock bs).drop 1316).take 2420) (sha3 (bs.take 128))

/-- The body's digest equals BODY_DIGEST. [DEDUCED (unsafe), log row 89] -/
def bodyOk (bs : List Byte) : Bool :=
  sha3 ((bs.drop 128).take (bU bs 0x20 4)) == (bs.drop 0x30).take 32

/-! ### Step 8: directory, alignment, reserved bytes (R13 to R18) -/

/-- Puts a directory entry in its place by OFFSET. -/
def insertEnt (d : DirEnt) : List DirEnt → List DirEnt
  | [] => [d]
  | e :: t => if d.off ≤ e.off then d :: e :: t else e :: insertEnt d t

/-- The sections lie one after another, each on the next 16-byte boundary with padding of 0x00, to the end of the body.
[DEDUCED (unsafe), log row 89] -/
def contiguous (bs : List Byte) (fin : Nat) : Nat → List DirEnt → Bool
  | at_, [] => at_ == fin
  | at_, d :: t => d.off == align16 at_ && zeros bs at_ (d.off - at_) && contiguous bs fin (d.off + d.len) t

/-- TYPE, INSTANCE and SECT_VER of a directory entry (R17, R18). -/
def DirEnt.ok (d : DirEnt) : Bool :=
  d.resv == 0 && ((1 ≤ d.ty && d.ty ≤ 12 && d.ver == 1 && d.inst ≤ (if d.ty == 3 then 5 else 0)) ||
    (0x100 ≤ d.ty && d.ty ≤ 0x1FF))

/-- No TYPE and INSTANCE pair appears twice. -/
def dirUnique : List DirEnt → Bool
  | [] => true
  | d :: t => t.all (fun e => !(e.ty == d.ty && e.inst == d.inst)) && dirUnique t

/-- The first byte that a section's layout does not show. -/
def secSpan (ty : Nat) (b : List Byte) : Nat :=
  match ty with
  | 1 => 0x14
  | 2 => 0x9A
  | 3 => b.length
  | 4 => 0xF0
  | 5 => 0xD0
  | 6 => 192
  | 7 => 0x304
  | 8 => 0x130
  | 9 => 24
  | 10 => 0x21
  | 11 => 9
  | 12 => 0x10 + 0x10 * bU b 0 2
  | _ => b.length

/-- The reserved parts inside a section's layout, as offsets and lengths. -/
def secResv (ty : Nat) (b : List Byte) : List (Nat × Nat) :=
  match ty with
  | 2 => (List.range 4).map (fun g => (0x10 * g + 0xB, 5)) ++ [(0x5A, 6), (0x7A, 6)]
  | 3 => [(0xC, 4)] ++ (List.range (bU b 0 2)).map (fun i => (0x10 + 0x10 * i + 12, 4)) ++
      (List.range (bU b 2 2)).map (fun j => (0x10 + 0x10 * bU b 0 2 + 8 * j + 4, 4))
  | 4 => [(1, 15)]
  | 5 => [(0xE, 2)] ++ (List.range 24).map (fun c => (0x16 + 8 * c, 2))
  | 7 => ((List.range 4).flatMap fun c => (List.range 15).map fun k => (0x80 * c + 8 * k + 8, 1)) ++
      [(0x218, 8), (0x22A, 2), (0x22D, 3), (0x256, 2), (0x259, 3), (0x287, 1), (0x28E, 0x72)]
  | 8 => [(6, 10)]
  | 9 => (List.range 3).map fun i => (8 * i + 5, 3)
  | 10 => (List.range 8).map fun k => (4 * k + 3, 1)
  | 12 => [(2, 14)]
  | _ => []

/-- The reserved bits of a section are 0: PROBE [3:1], DOMAIN_PLAN [15:12], ADDR bit 1, and the bits that a field of named bits
names nowhere (log row 89): WG_MEMBERS [31:26], DEST [7], COMMIT_MASK [15:14], WC_MODE [7:4], the thresholds' [15:10], SEVERITY
bits 3 and 7, MODE_MASK's rest. Node FLAGS are R217's, at step 10. [DEDUCED (unsafe), log row 89] -/
def secBits (ty : Nat) (b : List Byte) : Bool :=
  match ty with
  | 2 => (List.range 4).all (fun g => bU b (0x10 * g) 4 < 2 ^ 26) && (List.range 26).all fun n => bU8 b (0x60 + n) < 0x80
  | 3 => bU b 4 2 < 2 ^ 14
  | 5 => (List.range 24).all fun c =>
    let o := 0x10 + 8 * c
    bitsOf (bU8 b (o + 1)) 4 4 == 0 && bU b (o + 2) 2 ≤ 1023 && bU b (o + 4) 2 ≤ 1023
  | 6 => (List.range 192).all fun n => !bitOf (bU8 b n) 3 && !bitOf (bU8 b n) 7
  | 7 => bitsOf (bU8 b 0x20E) 1 3 == 0 && bU b 0x220 4 &&& 0x11F == bU b 0x220 4
  | 11 => bitsOf (bU b 0 2) 12 4 == 0
  | 12 => (List.range (bU b 0 2)).all fun k => !bitOf (bU8 b (0x10 + 0x10 * k)) 1
  | _ => true

/-- A section's reserved bytes and bits (R13). [DEDUCED (unsafe), log row 89] -/
def Section.resvOk (x : Section) : Bool :=
  let n := secSpan x.ty x.bytes
  (secResv x.ty x.bytes).all (fun r => zeros x.bytes r.1 r.2) && zeros x.bytes n (x.bytes.length - n) && secBits x.ty x.bytes

/-- Step 8. A SECTION_COUNT outside 1 to 64 fails here: Table IMG-10 does not say which step tests it (log row 89).
[DEDUCED (unsafe), log row 89] -/
def layoutOk (bs : List Byte) : Bool :=
  let ds := imgDir bs
  let n := ds.length
  let fin := 0x80 + bU bs 0x20 4
  1 ≤ n && n ≤ 64 && zeros bs 0x28 8 && zeros bs 0x60 32 && bitsOf (bU8 bs 0x13) 2 6 == 0 && ds.all DirEnt.ok &&
    dirUnique ds && contiguous bs fin (0x80 + 16 * n) (ds.foldl (fun acc d => insertEnt d acc) []) &&
    zeros bs fin (align16 fin - fin) && zeros (sigBlock bs) 3736 8 && (parseImage bs).sections.all Section.resvOk

/-! ### Step 9: mandatory sections (Table IMG-2) -/

/-- The OR of the DEST bytes. -/
def Image.dests (im : Image) : Nat :=
  (List.range 26).foldl (fun d n => d ||| bU8 (im.sec Sec.routing 0) (0x60 + n)) 0

/-- Step 9. -/
def Image.mandatory (im : Image) : Bool :=
  [1, 2, 4, 5, 6, 7, 9, 10, 11].all (fun ty => im.has ty 0) &&
    (List.range 6).all (fun p => !bitOf im.dests p || im.has Sec.loopGraph p)

/-! ### Step 10: fields within their ranges -/

/-- A number lies within a closed range. -/
def inR (n lo hi : Nat) : Bool := lo ≤ n && n ≤ hi

/-- A list rises strictly. -/
def rising : List Nat → Bool
  | a :: b :: t => a < b && rising (b :: t)
  | _ => true

/-- TOPOLOGY (R19). -/
def topologyOk (b : List Byte) : Bool :=
  (List.range 4).all (fun x => bU8 b x ≤ 3) && inR (bU8 b 4) 1 5 &&
    (bU8 b 5 == 50 || bU8 b 5 == 60) && inR (bU b 8 4) 1 3200

/-- ROUTING (R23, R113, R153, R165). -/
def routingOk (b : List Byte) : Bool :=
  (List.range 4).all (fun g =>
    let o := 0x10 * g
    let src := bU8 b (o + 4)
    src ≤ 5 && bU8 b (o + 5) ≤ (if src == 0 then 0 else if src == 5 then 31 else 13) &&
      8 ≤ bU b (o + 8) 2 && bU8 b (o + 0xA) ≤ 1 && !bitOf (bU b o 4) 15) &&
  (List.range 26).all (fun n => bU8 b (0x40 + n) ≤ 2 && bU8 b (0x80 + n) ≤ 7) &&
  [0, 1, 2, 3, 12, 13, 14, 15].all (fun n => bU8 b (0x40 + n) == 2) &&
  bU8 b (0x60 + 15) == 0 && bU8 b (0x80 + 15) == 0 && bU8 b (0x40 + 23) == bU8 b (0x40 + 24)

/-- DRIVE_TIMING (R25, R317). -/
def driveOk (b : List Byte) : Bool :=
  bU8 b 0 == 14 && (List.range 14).all fun u =>
    let o := 0x10 * (u + 1)
    let per := bU b (o + 8) 4
    bU8 b o ≤ 1 && (if u < 8 then inR (bU8 b (o + 1)) 1 64 else bU8 b (o + 1) == 0) && inR (bU b (o + 2) 2) 4 320 &&
      inR per 8 (2 ^ 31) && bU b (o + 12) 4 < per &&
      (u < 8 || (400 ≤ bU b (o + 4) 2 && 400 ≤ bU b (o + 6) 2))

/-- FAULT_MAP (R27). -/
def faultMapOk (b : List Byte) : Bool :=
  (List.range 24).all fun c =>
    let o := 0x10 + 8 * c
    bitsOf (bU8 b (o + 1)) 2 2 ≤ 2 && bU b (o + 2) 2 < bU b (o + 4) 2

/-- SEVERITY codes (R28), and LOG and SAFE alone for a source without a target (R465). -/
def severityOk (b : List Byte) : Bool :=
  (List.range 192).all fun n =>
    let d := bitsOf (bU8 b n) 0 3
    let f := bitsOf (bU8 b n) 4 3
    inR d 1 4 && inR f 1 4 &&
      (curTarget n != .none || ((d == 1 || d == 4) && (f == 1 || f == 4)))

/-- One entry of a curve table: LEVEL, TIME, REGION. -/
def curveEnt (b : List Byte) (c k : Nat) : Nat × Nat × Nat :=
  let o := 0x80 * c + 8 * k + 1
  (bU b o 2, bU b (o + 2) 4, bU8 b (o + 6))

/-- A curve table (R372, R373). -/
def curveOk (b : List Byte) (c nomF : Nat) : Bool :=
  let n := bU8 b (0x80 * c)
  let es := (List.range n).map (curveEnt b c)
  let lv := es.map (·.1)
  let nom := if c < 2 then 10000 else 1000 * nomF
  n ≤ 16 && es.all (fun e => e.2.2 ≤ 3 && (e.2.2 != 3 || e.2.1 == 0)) &&
    (if c % 2 == 0 then lv.all (nom < ·) && rising lv else lv.all (· < nom) && rising lv.reverse) &&
    (List.range 16).all (fun k => k < n || curveEnt b c k == (0, 0, 0))

/-- ISLAND (Table RTI-2, R387). -/
def islandOk (b : List Byte) (nomF : Nat) : Bool :=
  let act := bU8 b 0x200
  let rate := bU b 0x202 2
  let jump := bU b 0x204 2
  act ≤ 1 && inR (bU8 b 0x201) 2 50 && (rate == 0 || inR rate 10 500) && (jump == 0 || inR jump 100 3000) &&
    bU b 0x206 2 ≤ 2000 && bU b 0x208 2 ≤ 2000 && inR (bU b 0x20A 2) 100 1500 && inR (bU b 0x20C 2) 20 1000 &&
    bU8 b 0x20F ≤ 100 &&
    (act == 0 || decide (bU b 0x20A 2 * nomF + 1000 * bU8 b 0x201 + 1000 * (bU8 b 0x20E % 2) * nomF ≤ 1900 * nomF))

/-- A curve of POWER_FN: 2 to 8 points, voltages strictly rising (R354). -/
def pfCurveOk (b : List Byte) (cnt at_ : Nat) : Bool :=
  inR (bU8 b cnt) 2 8 && rising ((List.range (bU8 b cnt)).map fun k => bU b (at_ + 4 * k) 2)

/-- POWER_FN (Table GSP-6). -/
def powerFnOk (b : List Byte) : Bool :=
  let m := bU b 0x220 4
  let pf := bS b 0x224 2
  let q := bS b 0x226 2
  [0, 1, 2, 4].contains (m % 8) && inR pf.natAbs 700 1000 && q.natAbs ≤ 10000 && bU b 0x228 2 ≤ 10000 &&
    pfCurveOk b 0x22C 0x230 && pfCurveOk b 0x258 0x25C && inR (bU b 0x250 2) 1 900 && inR (bU b 0x252 2) 1 900 &&
    inR (bU b 0x254 2) 20 1000 && (List.range 8).all (fun k => bU b (0x25C + 4 * k + 2) 2 ≤ 10000) &&
    inR (bU b 0x27C 2) 17 1000 && inR (bU b 0x27E 2) 17 1000 && inR (bU b 0x280 2) 100 1000 && inR (bU b 0x282 2) 100 1000 &&
    inR (bU b 0x284 2) 1 100 && 1 ≤ bU8 b 0x286 && inR (bU8 b 0x28D) 1 16 && bU8 b 0x28C < bU8 b 0x28D

/-- RELAY of GRID_CODE (R390, Table RTI-14). -/
def relayOk (b : List Byte) : Bool :=
  inR (bU8 b 0x300) 10 255 && inR (bU8 b 0x301) 0x40 0xFF && inR (bU8 b 0x302) 2 50 && inR (bU8 b 0x303) 2 100

/-- GRID_CODE (R32, R354, R372, R373, R387, R390). -/
def gridCodeOk (b : List Byte) (nomF : Nat) : Bool :=
  (List.range 4).all (curveOk b · nomF) && islandOk b nomF && bU b 0x210 2 ≤ 600 && powerFnOk b && relayOk b

/-- The metered phases of a topology and their channels, voltage then current (Table MTR-1). -/
def metered (topo : Nat) : List Nat := (List.range (topoPhases topo)).flatMap fun p => [16 + p, 20 + p]

/-- CORR of one phase (R417): entries of 12 bytes from 0x10. -/
def corrOk (b : List Byte) (p : Nat) : Bool :=
  let o := fun s => 0x10 + 12 * (8 * p + s)
  bU b (o 0) 4 == 0 && rising ((List.range 8).map fun s => bU b (o s) 4) &&
    (List.range 8).all fun s =>
      let g := w32 (bU b (o s + 4) 4)
      flt 0#32 g && decide (fRat g ≤ 10000000) && (fval g).finite && (bS b (o s + 8) 4).natAbs ≤ 5000

/-- METERING with what it asks of the other sections (R32, R410, R417). -/
def Image.meteringOk (im : Image) : Bool :=
  let b := im.sec Sec.metering 0
  let r := im.sec Sec.routing 0
  let topo := bU8 (im.sec Sec.topology 0) 4
  bU8 b 0 ≤ 1 && bU8 b 1 ≤ 1 && inR (bU b 2 2) 1 4096 && 1 ≤ bU b 4 2 && bU (im.sec Sec.gridCode 0) 0x288 4 != 0 &&
    (metered topo).all (fun n => bU8 r (0x80 + n) == 1 && bitOf (bU8 r (0x60 + n)) 6) &&
    (List.range 3).all fun p => if p < topoPhases topo then corrOk b p else zeros b (0x10 + 96 * p) 96

/-- WARDEN (R483). -/
def wardenOk (b : List Byte) : Bool :=
  (List.range 3).all fun i =>
    let o := 8 * i
    let use := bU8 b o
    use ≤ (if i == 2 then 1 else 2) && (i != 2 || bU8 b (o + 4) == 0) &&
      (use == 0 || (inR (bU8 b (o + 1)) 5 50 && inR (bU b (o + 2) 2) 5 1000 && bU8 b (o + 4) ≤ 1))

/-- PADS (R663). -/
def padsOk (b : List Byte) : Bool :=
  (List.range 8).all (fun k => bU8 b (4 * k) ≤ 3 && bU8 b (4 * k + 1) ≤ 2 && bU8 b (4 * k + 2) ≤ 3) && bU8 b 0x20 ≤ 1

/-- POWER (R32). -/
def powerOk (b : List Byte) : Bool :=
  (List.range 4).all (fun k => bU8 b (2 + k) ≤ 2) && inR (bU b 6 2) 90 200 && bU8 b 8 ≤ 1

/-! ### ADJUST entries (R672, R673) -/

/-- The LIVE and QUIET fields outside the set-point areas. -/
def adjFlds : List Fld :=
  [F.CLK_CTRL_XTAL_CAP, F.CLK_CTRL_REF_SEL, F.CLK_N_N, F.EPOCH_CTRL_MODE, ⟨R.EPOCH_LOAD_LO, 0, 32⟩, ⟨R.EPOCH_LOAD_HI, 0, 32⟩,
   F.EPOCH_SYNC_COMP_C, F.EPOCH_RATE_RATE, F.EPOCH_SLEW_SLEW] ++
  ((List.range 4).flatMap fun g => [F.SENSP_WG_CTRL_LEN_MODE g, F.SENSP_WG_CTRL_BURST g, F.SENSP_WG_TIMING_LENGTH g]) ++
  ((List.range 26).map fun k => F.CH_CFG_RANGE k) ++
  ((List.range 24).flatMap fun c => [F.WC_THR_HI c, F.WC_THR_LO c]) ++
  ((List.range 14).flatMap fun u => [F.PWM_CTRL_MODE u, ⟨R.PWM_PERIOD u, 0, 32⟩, ⟨R.PWM_CMPA u, 0, 32⟩,
    ⟨R.PWM_CMPB u, 0, 32⟩, ⟨R.PWM_PHASE u, 0, 32⟩, F.PWM_FRAC_CMPB_FRAC u, F.PWM_FRAC_CMPA_FRAC u]) ++
  ((List.range 8).flatMap fun u => [F.PWM_CTRL_SWAP u, F.PWM_CTRL_INVERT u]) ++
  ((List.range 6).map fun l => F.LANE_COMP_COMP l) ++
  [F.GRID_P_CURT_P_CURT, F.GRID_Q_SET_Q_SET, F.GRID_PF_SET_PF_SET, F.RELAY_CFG_REL_MAX, F.RELAY_CFG_OP_INIT,
   F.RELAY_CFG_HOLD, F.RELAY_CFG_PULLIN] ++
  ((List.range 4).flatMap fun x => [F.DIAG_ARC_CFG_ALPHA_LOG2 x, F.DIAG_ARC_CFG_BAND_MIN x, F.DIAG_ARC_CFG_THR x,
    F.DIAG_ARC_WIN_K x, F.DIAG_ARC_WIN_M x, F.DIAG_ARC_NOTCH_NOTCH_EN x, F.DIAG_ARC_NOTCH_NOTCH_W x, F.DIAG_ARC_IMIN_IMIN x]) ++
  ((List.range 4).flatMap fun x => (List.range 8).flatMap fun b => [F.DIAG_ARC_BAND_HI_BIN x b, F.DIAG_ARC_BAND_LO_BIN x b]) ++
  [F.DIAG_IV_CFG_TIME, ⟨R.DIAG_IV_BASE, 0, 32⟩, ⟨R.DIAG_IV_VHI, 0, 32⟩, ⟨R.DIAG_IV_VLO, 0, 32⟩, F.DIAG_ISO_LIMIT_LIMIT] ++
  ((List.range 192).map fun n => F.CUR_SEV_SEV n) ++
  ((List.range 4).flatMap fun k => [F.PERF_ARCH_CTRL_EVENT k, F.PERF_ARCH_CTRL_K k, F.PERF_ARCH_CTRL_STOP_FULL k]) ++
  [F.SYS_OP_OP_PD2, F.SYS_OP_OP_PD3, F.SYS_OP_OP_PD4, F.SYS_OP_OP_PD5, F.PLC_ADDR_PAN, F.PLC_ADDR_SHORT]

/-- A word address lies in a pair's set-point area (R190). -/
def isSetpoint (a : Nat) : Bool :=
  0x30000000 ≤ a && a < 0x30060000 && 0x4000 ≤ a % 0x10000 && a % 0x10000 < 0x4400 && a % 4 == 0

/-- An address and a mask name the whole of one LIVE or QUIET field (R672). -/
def namesField (a mask : Nat) : Bool :=
  (isSetpoint a && mask == 2 ^ 32 - 1) || adjFlds.any fun f => f.addr == a && f.mask == mask

/-- The number of set bits of a field's mask. -/
def maskLen (mask : Nat) : Nat := (maskIdx 32 mask).length

/-- The limits of an entry (R673). -/
def AdjEntry.limitsOk (e : AdjEntry) : Bool :=
  let n := maskLen e.mask
  if e.signed then
    let lo := signedOf 32 e.lo
    let hi := signedOf 32 e.hi
    decide (lo ≤ hi) && decide (-(2 ^ (n - 1) : Int) ≤ lo) && decide (hi < 2 ^ (n - 1))
  else decide (e.lo ≤ e.hi) && decide (e.hi < 2 ^ n)

/-- No two entries name the same field. -/
def adjUnique : List AdjEntry → Bool
  | [] => true
  | e :: t => t.all (fun f => !(f.addr == e.addr && f.mask == e.mask)) && adjUnique t

/-- ADJUST (R32, R672, R673). -/
def adjustOk (b : List Byte) : Bool :=
  let es := adjEntries b
  bU b 0 2 ≤ 512 && es.all (fun e => e.mask != 0 && namesField e.addr e.mask && e.limitsOk) && adjUnique es

/-! ### LOOP_GRAPH (R189, R217 to R222, R675) -/

/-- The nodes of a graph's bytes. -/
def bNodes (b : List Byte) : List GNode :=
  (List.range (bU b 0 2)).map fun i =>
    let o := 0x10 + 0x10 * i
    { idx := i, ty := bU b o 2, flags := bU b (o + 2) 2,
      par := (List.range (bU b (o + 8) 2 / 4)).map (fun k => w32 (bU b (bU b (o + 4) 4 + 4 * k) 4)), order := bU b (o + 10) 2, st := 0 }

/-- The edges of a graph's bytes. -/
def bEdges (b : List Byte) : List GEdge :=
  (List.range (bU b 2 2)).map fun j =>
    let o := 0x10 + 0x10 * bU b 0 2 + 8 * j
    { sn := bU8 b o, sp := bU8 b (o + 1), dn := bU8 b (o + 2), dp := bU8 b (o + 3) }

/-- OBSERVER (Table BLK-6, R262). -/
def obsOk (p : Nat → Word) : Bool :=
  let n := (p 0).toNat
  let m := (p 1).toNat
  let q := (p 2).toNat
  let unused := fun (at_ rows cols r c : Nat) =>
    (List.range (rows * cols)).all fun k => (k / cols < r && k % cols < c) || feq (p (at_ + k)) 0#32
  inR n 1 4 && inR m 1 2 && inR q 1 2 && inR (p 3).toNat 1 32 && inR (p 4).toNat 1 (p 3).toNat && (p 5).toNat ≤ 255 &&
    (p 6).toNat ≤ 1 && flt 0#32 (p 7) && unused 8 4 4 n n && unused 24 4 2 n m && unused 32 2 4 q n && unused 40 4 2 n q &&
    unused 48 4 1 n 1 && (List.range 2).all (fun j => if j < q then flt 0#32 (p (52 + j)) else feq (p (52 + j)) 0#32)

/-- The parameters of a block lie in the ranges of its description (R221, R233 to R262, R675). -/
def parOk (own ty : Nat) (par : List Word) : Bool :=
  let p := fun k => par.getD k 0#32
  let n := fun k => (par.getD k 0#32).toNat
  let pos := fun k => flt 0#32 (p k)
  let nneg := fun k => fle 0#32 (p k)
  match ty with
  | 0x0001 => n 0 ≤ 25 && n 1 ≤ 1
  | 0x0002 => n 0 ≤ 255 && fle (p 1) (p 2)
  | 0x0005 => n 0 ≤ 5 && n 0 != own && n 1 ≤ 62
  | 0x0006 => n 0 ≤ 62
  | 0x0007 => n 0 ≤ 13 && inR (n 1) 1 15 && n 2 ≤ 31
  | 0x0008 => n 0 ≤ 31 && inR (n 1) 1 65535
  | 0x0101 => inR (n 0) 1 8
  | 0x0103 => pos 0
  | 0x0104 => n 0 ≤ 8
  | 0x0105 => inR (n 0) 2 32 && (List.range (n 0 - 1)).all fun k => flt (p (1 + k)) (p (2 + k))
  | 0x0202 => nneg 0 && nneg 1
  | 0x0204 => flt (p 0) (p 1) && (feq (p 2) 0#32 || feq (p 2) f1)
  | 0x0301 => pos 0
  | 0x0302 =>
    (fval (p 3)).finite && (fval (p 4)).finite && decide (fRat (p 4) < 1) && decide (-1 < fRat (p 4)) &&
      decide (fRat (p 3) < 1 + fRat (p 4)) && decide (-(1 + fRat (p 4)) < fRat (p 3))
  | 0x0303 => inR (n 0) 1 64
  | 0x0304 => inR (n 0) 1 64
  | 0x0401 => n 6 ≤ 1
  | 0x0402 => n 0 < 2 ^ 13
  | 0x0403 => pos 1 && pos 2
  | 0x0404 => flt (p 1) (p 2) && n 4 ≤ 1
  | 0x0601 => (fval (p 0)).finite && decide ((1 : Rat) / 10 ≤ fRat (p 0)) && decide (fRat (p 0) ≤ 4) && flt (p 3) (p 2) &&
      flt (p 2) (p 4) && pos 5
  | 0x0701 => fle (p 1) (p 0) && fle (p 0) (p 2) && pos 3 && fle (p 3) (p 4) && inR (n 6) 1 65535
  | 0x0702 => fle (p 1) (p 0) && fle (p 0) (p 2) && pos 3 && inR (n 4) 1 65535 && nneg 5 && nneg 6 && nneg 7
  | 0x0801 => nneg 2 && fle (p 2) (p 3) && fle (p 3) f1
  | 0x0802 => pos 0 && flt (p 0) (p 1)
  | 0x0803 => pos 2 && (fval (p 2)).finite && decide (fRat (p 2) ≤ 95 / 100)
  | 0x0901 => pos 0 && pos 1 && pos 2 && nneg 3 && n 4 ≤ 1
  | 0x0902 => obsOk p
  | _ => true

/-- The input ports of a node (R218, R240, R262). -/
def GNode.hasIn (n : GNode) (r : BlkRow) (port : Nat) : Bool :=
  match n.ty with
  | 0x0101 => port < (n.par.getD 0 0#32).toNat
  | 0x0902 => if port < 2 then port < (n.par.getD 1 0#32).toNat else port - 2 < (n.par.getD 2 0#32).toNat
  | _ => port < r.ins

/-- A node record (R217, R221, R222). -/
def nodeOk (own : Nat) (b : List Byte) (n : GNode) : Bool :=
  let o := 0x10 + 0x10 * n.idx
  let po := bU b (o + 4) 4
  let pl := bU b (o + 8) 2
  match blkRow n.ty with
  | none => false
  | some r =>
    n.flags &&& 0x1F01 == n.flags && pl == r.params && po % 4 == 0 && 0x10 + 0x10 * bU b 0 2 + 8 * bU b 2 2 ≤ po &&
      po + pl ≤ b.length && parOk own n.ty n.par

/-- An edge names existing nodes and ports (R218). -/
def edgeOk (ns : List GNode) (e : GEdge) : Bool :=
  match ns[e.sn]?, ns[e.dn]? with
  | some a, some d =>
    match blkRow a.ty, blkRow d.ty with
    | some ra, some rd => e.sp < ra.outs && d.hasIn rd e.dp
    | _, _ => false
  | _, _ => false

/-- A list of numbers has no repeats. -/
def noRepeat : List Nat → Bool
  | [] => true
  | a :: t => !t.contains a && noRepeat t

/-- The numbers in a parameter of the nodes of one type. -/
def parsOf (ns : List GNode) (ty k : Nat) : List Nat :=
  (ns.filter fun n => n.ty == ty).map fun n => (n.par.getD k 0#32).toNat

/-- LOOP_GRAPH of a pair (R29, R189, R217 to R222, R237, R238). -/
def graphOk (own : Nat) (b : List Byte) : Bool :=
  let ns := bNodes b
  let es := bEdges b
  let mask := bU b 4 2
  b.length ≤ 16384 && inR (bU b 0 2) 1 64 && bU b 2 2 ≤ 256 && bU8 b 6 ≤ 13 && bU8 b 7 ≤ 3 &&
    0x10 + 0x10 * bU b 0 2 + 8 * bU b 2 2 ≤ b.length && ns.all (nodeOk own b) && noRepeat (ns.map (·.order)) &&
    es.all (edgeOk ns) && noRepeat (es.map fun e => 256 * e.dn + e.dp) && noRepeat (parsOf ns 0x0006 0) &&
    noRepeat (parsOf ns 0x0007 0) && (parsOf ns 0x0007 0).all (bitOf mask ·) &&
    (ns.foldl (fun t n => t + blkState n.ty) 0) ≤ 15360

/-- The worst-case cost of a graph (R230). -/
def graphCost (b : List Byte) : Nat :=
  144 + (bNodes b).foldl (fun t n => t + 4 + blkCost n.ty n.par) 0 + 2 * bU b 2 2

/-! ### Steps 10 and 11 -/

/-- A section holds its whole layout. -/
def Section.whole (x : Section) : Bool := secSpan x.ty x.bytes ≤ x.bytes.length && (x.ty != 3 || 0x10 ≤ x.bytes.length)

/-- Step 10. -/
def Image.fieldsOk (im : Image) : Bool :=
  let t := im.sec Sec.topology 0
  im.sections.all Section.whole && topologyOk t && routingOk (im.sec Sec.routing 0) && driveOk (im.sec Sec.driveTiming 0) &&
    faultMapOk (im.sec Sec.faultMap 0) && severityOk (im.sec Sec.severity 0) && gridCodeOk (im.sec Sec.gridCode 0) (bU8 t 5) &&
    wardenOk (im.sec Sec.warden 0) && padsOk (im.sec Sec.pads 0) && powerOk (im.sec Sec.power 0) &&
    (!im.has Sec.metering 0 || im.meteringOk) && (!im.has Sec.adjust 0 || adjustOk (im.sec Sec.adjust 0)) &&
    (List.range 6).all fun p => !im.has Sec.loopGraph p || graphOk p (im.sec Sec.loopGraph p)

/-- SAFETY_PROFILE of an image's header. -/
def Image.profile (im : Image) : Bool := bitOf (bU8 im.header 0x13) 0

/-- R21. -/
def Image.sharesOk (im : Image) : Bool :=
  let t := im.sec Sec.topology 0
  let used := (List.range 4).filter fun x => bU8 t x != 0
  (List.range 4).all (fun x => used.contains x || bU8 t (0x10 + x) == 0) &&
    (used == [] || used.foldl (fun a x => a + bU8 t (0x10 + x)) 0 == 100)

/-- The members of a window group. -/
def Image.members (im : Image) (g : Nat) : Nat := bU (im.sec Sec.routing 0) (0x10 * g) 4

/-- R24. -/
def Image.groupsOk (im : Image) : Bool :=
  (List.range 26).all (fun k => ((List.range 4).filter fun g => bitOf (im.members g) k).length ≤ 1) &&
    (List.range 4).all fun g => im.members g % 65536 == 0 || im.members g / 65536 == 0

/-- R26. -/
def Image.pulsesOk (im : Image) : Bool :=
  let b := im.sec Sec.driveTiming 0
  (List.range 14).all fun u =>
    let o := 0x10 * (u + 1)
    let lim := bU b (o + 2) 2 + 16
    lim ≤ bU b (o + 4) 2 && lim ≤ bU b (o + 6) 2 && bU b (o + 4) 2 + bU b (o + 6) 2 ≤ bU b (o + 8) 4

/-- R28. -/
def Image.floorsOk (im : Image) : Bool :=
  (List.range 192).all fun n =>
    let v := bU8 (im.sec Sec.severity 0) n
    bitsOf v 4 3 ≤ bitsOf v 0 3 && curFloor im.profile n ≤ bitsOf v 4 3

/-- The pairs that have a graph. -/
def Image.graphs (im : Image) : List Nat := (List.range 6).filter fun p => im.has Sec.loopGraph p

/-- R30 and R31. -/
def Image.graphsOk (im : Image) : Bool :=
  let mask := fun p => bU (im.sec Sec.loopGraph p) 4 2
  im.graphs.all (fun p => im.graphs.all fun q => p == q || mask p &&& mask q == 0) &&
    im.graphs.all fun p =>
      let b := im.sec Sec.loopGraph p
      let per := bU (im.sec Sec.driveTiming 0) (0x10 * (bU8 b 6 + 1) + 8) 4
      bitOf (mask p) (bU8 b 6) && bU b 8 4 == graphCost b && graphCost b ≤ (per - 200) / 2

/-- A channel is routed: a member of a group, or with DEST or STREAM. -/
def Image.routed (im : Image) (k : Nat) : Bool :=
  (List.range 4).any (fun g => bitOf (im.members g) k) || bU8 (im.sec Sec.routing 0) (0x60 + k) != 0 ||
    bU8 (im.sec Sec.routing 0) (0x80 + k) != 0

/-- The domains that an image requires (R35, Table IMG-16). -/
def Image.needs (im : Image) : List Nat :=
  let pairs := fun p => im.has Sec.loopGraph p || bitOf im.dests p
  [0, 1, 2, 7, 10] ++ (if (List.range 3).any pairs then [4] else []) ++
    (if (List.range 3).any (fun p => pairs (p + 3)) then [5] else []) ++
    (if bitOf im.dests 6 || im.has Sec.metering 0 then [6] else []) ++ (if (List.range 16).any im.routed then [8] else []) ++
    (if (List.range 4).any (fun x => bU8 (im.sec Sec.topology 0) x != 0) then [9] else [])

/-- Step 11: R21, R24, R26, R28, R30, R31, R33, R34, R35. -/
def Image.crossOk (im : Image) : Bool :=
  im.sharesOk && im.groupsOk && im.pulsesOk && im.floorsOk && im.graphsOk &&
    (!im.has Sec.metering 0 || bU8 (im.sec Sec.metering 0) 1 != 0 || Config.isMt) &&
    (!im.profile || (bU8 (im.sec Sec.power 0) 8 == 1 && bU8 (im.sec Sec.warden 0) 16 != 0)) &&
    im.needs.all fun d => bitOf (bU (im.sec Sec.power 0) 0 2) d

/-- Validation in the order of Table IMG-10: the code of the first check that fails, 0 where all succeed (R39, R575).
[DEDUCED (unsafe), log row 13; DEDUCED (unsafe), log row 89] -/
def State.imgCheck (s : State) (bs : List Byte) : Nat :=
  if erased bs then 0x0C
  else if !hdrOk 0x52485243 bs then 0x01
  else if !sizeOk imgSlotSize bs then 0x02
  else if !s.targetOk bs then 0x03
  else if !s.keyOk (bU bs 0x1E 2) (sigKey bs) then 0x04
  else if !sigOk bs then 0x05
  else if bU bs 0x14 4 < s.sv.arbImg || 255 < bU bs 0x14 4 then 0x06
  else if !bodyOk bs then 0x07
  else if !layoutOk bs then 0x08
  else if !(parseImage bs).mandatory then 0x09
  else if !(parseImage bs).fieldsOk then 0x0A
  else if !(parseImage bs).crossOk then 0x0B
  else 0

/-- The bytes that an image slot holds. -/
def State.imgBytes (s : State) (slot : Nat) : List Byte :=
  let h := s.rdBytes (imgBase slot) 128
  s.rdBytes (imgBase slot) (min imgSlotSize (max 128 (bU h 8 4)))

/-! ### The registers that an image sets (Table IMG-14) -/

/-- The pair mode of a unit (Table PWM-1): 1 EXCLUSIVE. -/
def pairModeOf (topo u : Nat) : Nat := b2n (8 ≤ u && (topo == 1 || topo == 5))

/-- The grid pair of an image (R342). -/
def Image.gridPair (im : Image) : Nat :=
  match im.graphs.find? fun p => bitOf (bU (im.sec Sec.loopGraph p) 4 2) 8 with
  | some p => p
  | none => 0xF

/-- Registers from the header, TOPOLOGY and POWER. -/
def Image.sysRegs (im : Image) : List (Fld × Nat) :=
  let t := im.sec Sec.topology 0
  let w := im.sec Sec.power 0
  let dig := sha3 im.header
  [(⟨R.SYS_IMG_ID, 0, 32⟩, bU im.header 0x18 4), (⟨R.SYS_IMG_SECVER, 0, 32⟩, bU im.header 0x14 4),
   (F.SYS_IMG_FLAGS_FLAGS, bU8 im.header 0x13), (F.SYS_IMG_FLAGS_SIGNER, bU im.header 0x1E 2)] ++
  ((List.range 8).map fun i => (⟨R.SYS_IMG_DIGEST i, 0, 32⟩, bU dig (4 * i) 4)) ++
  [(F.GRID_CFG_NOM_F, bU8 t 5), (F.GRID_CFG_GRID_PAIR, im.gridPair), (F.GRID_CFG_GRID_FORMING, bitsOf (bU8 im.header 0x13) 1 1),
   (F.GRID_CFG_GRID_TOPO, bU8 t 4), (⟨R.SYS_PD_CTRL, 0, 12⟩, bU w 0 2), (F.SYS_OP_OP_PD2, bU8 w 2), (F.SYS_OP_OP_PD3, bU8 w 3),
   (F.SYS_OP_OP_PD4, bU8 w 4), (F.SYS_OP_OP_PD5, bU8 w 5), (F.PLINTH_VPF_VPF, bU w 6 2)]

/-- Registers from DRIVE_TIMING and FAULT_MAP. -/
def Image.driveRegs (im : Image) : List (Fld × Nat) :=
  let b := im.sec Sec.driveTiming 0
  let m := im.sec Sec.faultMap 0
  let topo := bU8 (im.sec Sec.topology 0) 4
  let o := fun u => 0x10 * (u + 1)
  ((List.range 14).flatMap fun u =>
    [(F.PWM_CTRL_MODE u, bU8 b (o u)), (F.PWM_CFG_DEADTIME u, bU b (o u + 2) 2), (F.PWM_CFG_GROUPS u, bU8 m u),
     (F.PWM_CFG_PAIR_MODE u, pairModeOf topo u), (F.PWM_TIMING_MINON u, bU b (o u + 4) 2),
     (F.PWM_TIMING_MINOFF u, bU b (o u + 6) 2), (⟨R.PWM_PERIOD u, 0, 32⟩, bU b (o u + 8) 4),
     (⟨R.PWM_PHASE u, 0, 32⟩, bU b (o u + 12) 4)]) ++
  ((List.range 8).flatMap fun h => [(F.DRV_HB_CFG_DEADTIME h, bU b (o h + 2) 2), (F.DRV_HB_CFG_REFRESH_PERIODS h, bU8 b (o h + 1))]) ++
  ((List.range 6).flatMap fun l => [(F.LANE_CFG_DEADTIME l, bU b (o (l + 8) + 2) 2),
    (F.LANE_CFG_USED l, b2n ((topoUnits topo).contains (l + 8))), (F.LANE_CFG_PAIR_MODE l, pairModeOf topo (l + 8))]) ++
  ((List.range 24).flatMap fun c =>
    let e := 0x10 + 8 * c
    [(F.WC_CFG_GROUPS c, bU8 m e), (F.WC_CFG_HYST c, bitsOf (bU8 m (e + 1)) 0 2), (F.WC_CFG_CLEAR_MODE c, bitsOf (bU8 m (e + 1)) 2 2),
     (F.WC_THR_LO c, bU m (e + 2) 2), (F.WC_THR_HI c, bU m (e + 4) 2)])

/-- Registers from SEVERITY, WARDEN and ROUTING. -/
def Image.routeRegs (im : Image) : List (Fld × Nat) :=
  let r := im.sec Sec.routing 0
  let w := im.sec Sec.warden 0
  ((List.range 192).flatMap fun n =>
    let v := bU8 (im.sec Sec.severity 0) n
    [(F.CUR_SEV_SEV n, bitsOf v 0 3), (F.CUR_SEV_FLOOR n, bitsOf v 4 3)]) ++
  ((List.range 3).flatMap fun i => [(F.WARDEN_CFG_USE i, bU8 w (8 * i)), (F.WARDEN_CFG_FILTER i, bU8 w (8 * i + 1)),
    (F.WARDEN_CFG_DISCREP i, bU w (8 * i + 2) 2), (F.WARDEN_CFG_TEST_PULSE i, bU8 w (8 * i + 4))]) ++
  ((List.range 4).flatMap fun g =>
    let o := 0x10 * g
    [(⟨R.SENSP_WG_MEMBERS g, 0, 32⟩, im.members g), (F.SENSP_WG_CFG_SIDE g, b2n (im.members g / 65536 != 0)),
     (F.SENSP_WG_CFG_TRIG_SRC g, bU8 r (o + 4)), (F.SENSP_WG_CFG_TRIG_UNIT g, bU8 r (o + 5)),
     (F.SENSP_WG_CFG_WEIGHT g, bU8 r (o + 0xA)), (F.SENSP_WG_TIMING_DELAY g, bU r (o + 6) 2),
     (F.SENSP_WG_TIMING_LENGTH g, bU r (o + 8) 2)]) ++
  ((List.range 26).flatMap fun n => [(F.CH_CFG_RANGE n, bU8 r (0x40 + n)), (F.CH_CFG_DEST n, bU8 r (0x60 + n)),
    (F.CH_CFG_STREAM n, bU8 r (0x80 + n))])

/-- Registers from GRID_CODE, METERING and the LOOP_GRAPH instances. -/
def Image.gridRegs (im : Image) : List (Fld × Nat) :=
  let g := im.sec Sec.gridCode 0
  let m := im.sec Sec.metering 0
  [(F.GRID_PF_SET_PF_SET, bU g 0x224 2), (F.GRID_Q_SET_Q_SET, bU g 0x226 2), (F.GRID_P_CURT_P_CURT, bU g 0x228 2),
   (F.GRID_ILV_ILV_INDEX, bU8 g 0x28C), (F.GRID_ILV_ILV_COUNT, bU8 g 0x28D), (⟨R.METER_IFS, 0, 32⟩, bU g 0x288 4),
   (F.RELAY_CFG_PULLIN, bU8 g 0x300), (F.RELAY_CFG_HOLD, bU8 g 0x301), (F.RELAY_CFG_OP_INIT, bU8 g 0x302),
   (F.RELAY_CFG_REL_MAX, bU8 g 0x303), (F.METER_CFG_MODE, bU8 m 0), (F.METER_CFG_CORR_SOURCE, bU8 m 1),
   (F.METER_CFG_LATCH_N, bU m 2 2), (F.METER_CFG_VAULT_EVERY, bU m 4 2)] ++
  ((List.range 3).flatMap fun p => (List.range 8).flatMap fun k => (List.range 3).map fun w =>
    (⟨R.METER_CORR p k + 4 * w, 0, 32⟩, bU m (0x10 + 12 * (8 * p + k) + 4 * w) 4)) ++
  (im.graphs.flatMap fun p =>
    let b := im.sec Sec.loopGraph p
    [(F.LP_CFG_HAS_GRAPH p, 1), (F.LP_CFG_COMMIT_MASK p, bU b 4 2), (F.LP_CFG_PERIOD_UNIT p, bU8 b 6),
     (F.LP_CFG_TRIGGER_WG p, bU8 b 7), (F.LP_COST_CYCLE_ESTIMATE p, bU b 8 4)])

/-- Every register value that an image gives. -/
def Image.regs (im : Image) : List (Fld × Nat) := im.sysRegs ++ im.driveRegs ++ im.routeRegs ++ im.gridRegs

/-- The register values that the image in force gives; none before one is applied. -/
def State.imgRegs (s : State) : List (Fld × Nat) :=
  match s.img.applied with
  | none => []
  | some im => im.regs

/-- Puts field values into the registers. -/
def State.putAll (s : State) (l : List (Fld × Nat)) : State := l.foldl (fun (s : State) (e : Fld × Nat) => s.put e.1 e.2) s

/-- The graphs of the image in force stand in the TCM windows of the pairs whose domain is on (Table LOOP-1). -/
def State.loadGraphs (s : State) (ps : List Nat) : State :=
  s.forEach ps fun s p => if s.hasSec Sec.loopGraph p then s.wrBytes (tcmBase p) (s.sec Sec.loopGraph p) else s

/-- Registers of an address range at their reset values, and the image's values over them. -/
def State.resetRange (s : State) (lo hi : Nat) : State :=
  let keep := s.regs.filter fun e => e.1 < lo || hi ≤ e.1
  let base : State := { s with regs := keep, shadow := s.shadow.filter fun e => e.1 < lo || hi ≤ e.1 }
  let rs := (State.reset.regs.filter fun e => lo ≤ e.1 && e.1 < hi).foldl (fun (s : State) (e : Nat × Word) => s.wr e.1 e.2) base
  rs.putAll (s.imgRegs.filter fun e => lo ≤ e.1.addr && e.1.addr < hi)

/-- Application of an image (R40, R43): it is in force, and the registers and graphs take its values. -/
def State.imgApply (s : State) (im : Image) : State :=
  let s : State := { s with img := { applied := some im } }
  (s.putAll im.regs).loadGraphs ((List.range 6).filter fun p => s.pdOn (pairPd p))

end Sys2Proof.Machine
end

