-- ==== Sys2Proof/Machine/SvOps.lean ====
section
/-!
DEFINITION. Svauth's shared operations: measurement registers, the Provenance log, authorisation, packages, staging, permits
(chapter 18; R45 to R51).
-/

namespace Sys2Proof.Machine

/-- What a mailbox command gives: the state, the result code and the bytes of the answer (R590). -/
abbrev SvRes := State × Nat × List Byte

/-! ### Result codes (R590) -/
namespace Sv
@[simp] abbrev ok : Nat := 0
@[simp] abbrev busy : Nat := 1
@[simp] abbrev badArg : Nat := 2
@[simp] abbrev authFail : Nat := 3
@[simp] abbrev replay : Nat := 4
@[simp] abbrev policy : Nat := 5
@[simp] abbrev fenced : Nat := 7
@[simp] abbrev state : Nat := 8
@[simp] abbrev initiator : Nat := 9
end Sv

/-- Svauth is fenced (R565, Table CUR-8). -/
def State.svFenced (s : State) : Bool := bitOf (s.rd R.CUR_FENCED_OTHER).toNat 2

/-- The first n bytes of a list, with zeros where it is short: an operand of fixed length. -/
def fixLen (n : Nat) (bs : List Byte) : List Byte := (bs ++ List.replicate n 0#8).take n

/-- ASCII text. -/
def ascii (t : List Nat) : List Byte := t.map (BitVec.ofNat 8)

/-! ### Measurement registers and the log (R578, R579) -/

/-- A measurement register: 32 bytes. -/
def State.pmOf (s : State) (i : Nat) : List Byte := if s.sv.pm.get i = [] then List.replicate 32 0#8 else s.sv.pm.get i

/-- PM ← SHA3-256(PM ‖ digest) (R578). -/
def State.pmExtend (s : State) (i : Nat) (d : List Byte) : State :=
  s.modSv fun v => { v with pm := v.pm.set i (sha3 (s.pmOf i ++ d)) }

/-- The address of a log slot (R579). -/
def logSlotAddr (k : Nat) : Nat := 0x10E80000 + 0x40 * (k % 16384)

/-- The bytes of a log entry (Table SVA-7); pm = 0xFF: none was extended. -/
def State.logBytes (s : State) (seq ty pm : Nat) (d : List Byte) : List Byte :=
  let b := leBytes 4 seq ++ leBytes 4 s.sv.bootNo ++ leBytes 1 ty ++ leBytes 1 pm ++ leBytes 2 0 ++
    leBytes 4 (s.rd R.PLINTH_RTC_SEC).toNat ++ fixLen 32 d ++
    (if pm = 0xFF then List.replicate 12 0#8 else fixLen 12 (s.pmOf pm))
  b ++ leBytes 4 (crc32 b)

/-- Writes a log entry (R579): bad counts the mismatches at read-back, 0, 1 or 2; a slot that read back otherwise holds what it
holds; after two the next entry follows the newest valid one. [DESIGN CHOICE (safe), log row 90] -/
def State.logWrite (s : State) (ty pm : Nat) (d : List Byte) (bad : Nat) : State :=
  let seq := (s.sv.logSeq + 1) % 2 ^ 32
  let bs := s.logBytes seq ty pm d
  let put := fun (s : State) (k : Nat) (wrong : Bool) =>
    if wrong then (s.wrBytes (logSlotAddr k) (s.drawBytes 64)).drewN 64 else s.wrBytes (logSlotAddr k) bs
  let k := s.sv.logSlot
  let s := put s k (bad != 0)
  let s := if bad = 0 then s else put s (k + 1) (decide (2 ≤ bad))
  let s := s.modSv fun v => { v with logSeq := seq, logSlot := if bad = 0 then (k + 1) % 16384 else if bad = 1 then (k + 2) % 16384 else k }
  if 2 ≤ bad then s.set1 F.SV_STICKY_LOG_ERR else s

/-- Extends a PM and writes its entry (R576, R578). -/
def State.measure (s : State) (ty pm : Nat) (d : List Byte) (bad : Nat) : State := (s.pmExtend pm d).logWrite ty pm d bad

/-! ### OTP and registers that show it (R567, Tables SVA-12, SVA-14) -/

/-- The slots enrolled, as a mask of bit s - 1. -/
def State.svEnrolled (s : State) : Nat := maskOf 4 fun k => s.sv.hash.get (k + 1) != []

/-- SV_INFO and SV_ARB follow the OTP fields. -/
def State.svShow (s : State) : State :=
  let s := ((s.put F.SV_INFO_REVOKED s.sv.revoked).put F.SV_INFO_ENROLLED s.svEnrolled).put F.SV_INFO_DEBUG_LOCK (b2n s.sv.debugLock)
  (((s.put F.SV_INFO_APP_STRICT (b2n s.sv.strict)).put F.SV_ARB_FW s.sv.arbFw).put F.SV_ARB_IMG s.sv.arbImg).put F.SV_ARB_APP s.sv.arbApp

/-- The OTP state: 164 bytes (R567). -/
def State.otpBytes (s : State) : List Byte :=
  fixLen 32 Config.vendorHash ++ ((List.range 4).flatMap fun k => fixLen 32 (s.sv.hash.get (k + 1))) ++
  leBytes 1 (bitsOf s.sv.revoked 0 4 + 16 * b2n s.sv.strict + 32 * b2n s.sv.debugLock) ++
  leBytes 1 s.sv.arbFw ++ leBytes 1 s.sv.arbImg ++ leBytes 1 s.sv.arbApp

/-- The digest of the boot ROM's 131,072 bytes (Table SVA-6, step 2; Table HOK-4). -/
@[irreducible] def romDigest : List Byte := sha3 ((List.range 0x20000).map Config.romByte)

/-- DEVID_HASH, from the certificate (Table SVA-3). -/
def devidHash : List Byte := fixLen 32 (Config.devidCert.drop 0x20)

/-! ### Authorisation (R586, R587) -/

/-- The key of a signer: the vendor root's, used only where its hash is VENDOR_ROOT_HASH (R570), or the stored key of an enrolled and
unrevoked slot. -/
def State.signerKey (s : State) (n : Nat) : Option (List Byte) :=
  if n = 0 then (if sha3 Config.vendorKey = Config.vendorHash then some Config.vendorKey else none)
  else if n ≤ 4 && !bitOf s.sv.revoked (n - 1) && s.sv.hash.get n != [] then some (s.sv.key.get n)
  else none

/-- Checks an AUTH record for an opcode and the command's argument bytes (R586): 0, AUTH_FAIL or REPLAY. [DEDUCED (unsafe), log row 91] -/
def State.authCheck (s : State) (rcd : List Byte) (op : Nat) (args : List Byte) : Nat :=
  let n := bU rcd 6 2
  let signed := match s.signerKey n with
    | some k => Config.mldsaVerify k ((rcd.drop 0x50).take 2420) (sha3 (rcd.take 0x50))
    | none => false
  if rcd.length != 2500 || rcd.take 4 != ascii [0x41, 0x55, 0x54, 0x48] || bU rcd 4 2 != op ||
      (rcd.drop 0x10).take 32 != devidHash || (rcd.drop 0x30).take 32 != sha3 args || !signed then Sv.authFail
  else if bU rcd 8 8 ≤ s.sv.replay.get n then Sv.replay
  else 0

/-- The effect of a check: on acceptance the stored counter takes COUNTER; a refusal sets its sticky bit. -/
def State.authTake (s : State) (rcd : List Byte) (code : Nat) : State :=
  if code = 0 then s.modSv fun v => { v with replay := v.replay.set (bU rcd 6 2) (bU rcd 8 8) }
  else if code = Sv.replay then s.set1 F.SV_STICKY_REPLAY
  else s.set1 F.SV_STICKY_AUTH_FAIL

/-- A command under an AUTH record whose signer a rule admits: POLICY where it does not, before the record is taken. -/
def State.withAuth (s : State) (rcd : List Byte) (op : Nat) (args : List Byte) (may : Nat → Bool) (k : State → SvRes) : SvRes :=
  let c := s.authCheck rcd op args
  if c = 0 ∧ !may (bU rcd 6 2) then (s, Sv.policy, [])
  else if c = 0 then k (s.authTake rcd c)
  else (s.authTake rcd c, c, [])

/-! ### Slots and packages (R573, R574, Table HOK-4) -/

/-- The base of a slot: kind 0 FW, 1 IMG, 2 APP. -/
def slotBase (kind slot : Nat) : Nat :=
  if kind = 0 then (if slot = 0 then 0x10000000 else 0x10300000) else if kind = 1 then imgBase slot else 0x10680000

/-- The length of a slot. -/
def slotSize (kind : Nat) : Nat := if kind = 0 then 0x300000 else if kind = 1 then imgSlotSize else 0x800000

/-- The bytes of the package in a slot: as many as its header names. -/
def State.pkgBytes (s : State) (kind slot : Nat) : List Byte :=
  let h := s.rdBytes (slotBase kind slot) 128
  s.rdBytes (slotBase kind slot) (min (slotSize kind) (max 128 (bU h 8 4)))

/-- The reserved bytes of a package's header and signature block (R12, Table SVA-4): SECTION_COUNT 0, FLAGS 0. -/
def pkgResvOk (bs : List Byte) : Bool :=
  bU8 bs 0x13 == 0 && bU bs 0x1C 2 == 0 && zeros bs 0x2C 4 && zeros bs 0x50 48 &&
  zeros bs (128 + bU bs 0x20 4) (align16 (bU bs 0x20 4) - bU bs 0x20 4) && zeros (sigBlock bs) 3736 8

/-- Verification in the order of Table SVA-5: the code of the first check that fails, 0 where all pass. -/
def State.pkgCheck (s : State) (kind : Nat) (bs : List Byte) : Nat :=
  let signer := bU bs 0x1E 2
  let unsigned := kind == 2 && signer == 0xFFFF
  if erased bs then 0x0C
  else if !hdrOk (if kind = 0 then 0x57464B48 else 0x50414B48) bs then 0x01
  else if !sizeOk (slotSize kind) bs then 0x02
  else if !s.targetOk bs then 0x03
  else if (kind = 0 && signer != 0) || (kind != 0 && (signer == 0 || (unsigned && s.sv.strict) || (4 < signer && !unsigned))) then 0x0E
  else if !unsigned && !s.keyOk signer (sigKey bs) then 0x04
  else if !unsigned && !sigOk bs then 0x05
  else if !unsigned && (bU bs 0x14 4 < (if kind = 0 then s.sv.arbFw else s.sv.arbApp) || 255 < bU bs 0x14 4) then 0x06
  else if !bodyOk bs then 0x07
  else if bU bs 0x28 4 % 4 != 0 || bU bs 0x20 4 ≤ bU bs 0x28 4 || !pkgResvOk bs || (unsigned && !zeros (sigBlock bs) 0 sigLen) then 0x08
  else 0

/-- The check that a kind's slot undergoes. [DEDUCED (unsafe), log row 13; DEDUCED (unsafe), log row 91] -/
def State.slotCheck (s : State) (kind slot : Nat) : Nat :=
  if kind = 1 then s.imgCheck (s.imgBytes slot) else s.pkgCheck kind (s.pkgBytes kind slot)

/-! ### Staging (R45 to R50, R582 to R584) -/

/-- The active slot of a kind; APP has one slot, which is never refused as active. -/
def State.activeSlot (s : State) (kind : Nat) : Nat :=
  if kind = 0 then s.get F.SV_BOOT_ACTIVE_FW else s.get F.SYS_IMG_STATUS_ACTIVE

/-- The valid bit of a slot. -/
def validF (kind slot : Nat) : Fld :=
  if kind = 0 then (if slot = 0 then F.SV_BOOT_FW_VALID_A else F.SV_BOOT_FW_VALID_B)
  else if slot = 0 then F.SYS_IMG_STATUS_STAGED_VALID_A else F.SYS_IMG_STATUS_STAGED_VALID_B

/-- The field that selects the slot for the next reset. -/
def selF (kind : Nat) : Fld := if kind = 0 then F.SV_BOOT_FW_SEL else F.SYS_IMG_SELECT_SLOT

/-- The field that takes the code of a failed check. -/
def errF (kind : Nat) : Fld :=
  if kind = 0 then F.SV_BOOT_FW_ERR else if kind = 1 then F.SYS_IMG_STATUS_ERR else F.SV_BOOT_APP_ERR

/-- STAGE_BEGIN (R45 to R47, R50, R582 to R584). While a session is open the answer is BUSY, even where the request names the active
slot: which refusal comes first the rules leave open (log row 91). [DEDUCED (unsafe), log row 91] -/
def State.stageBegin (s : State) (kind slot : Nat) : SvRes :=
  if 3 ≤ kind ∨ 2 ≤ slot then (s, Sv.badArg, [])
  else if s.sv.stage.isSome then (s, Sv.busy, [])
  else if kind ≠ 2 ∧ slot = s.activeSlot kind then (s.put (errF kind) 0x0D, Sv.state, leBytes 1 0x0D)
  else if ((s.maintBefore s.epoch 10).maintRefusal .staging 10).isSome then
    ((s.maintBefore s.epoch 10).maintRequest .staging 10, Sv.busy, [])
  else
    let s := if kind = 2 then s.put F.SV_BOOT_APP_STATE 0 else s.put (validF kind slot) 0
    let s := if kind ≠ 2 ∧ s.get (selF kind) = slot then s.put (selF kind) (s.activeSlot kind) else s
    let s := s.put (busyF kind) 1
    (s.modSv fun v => { v with stage := some { kind := kind, slot := slot, written := 0, write := none, ending := false } },
     Sv.ok, [])

/-- STAGE_DATA (R46, R582): the bytes at the next offset, through MRAM_PROGRAM. [DEDUCED (unsafe), log row 92] -/
def State.stageData (s : State) (off : Nat) (data : List Byte) : SvRes :=
  match s.sv.stage with
  | none => (s, Sv.state, [])
  | some g =>
    if g.write.isSome || g.ending then (s, Sv.busy, [])
    else if off ≠ g.written ∨ slotSize g.kind < off + data.length then (s, Sv.badArg, [])
    else
      let s := s.maintBefore s.epoch 10
      let u := s.maintRequest .staging 10
      if (s.maintRefusal .staging 10).isSome then (u, Sv.busy, [])
      else (u.modSv fun v => { v with stage := some { g with write := some (off, data) } }, Sv.ok, [])

/-- The whole package has been written: it is verified, and its valid bit sets only where every step passes (R47, R582). The
result code of a failed verification is not stated: it is drawn. [DESIGN CHOICE (safe), log row 90] -/
def State.stageVerify (s : State) : SvRes :=
  match s.sv.stage with
  | none => (s, Sv.state, [])
  | some g =>
    let c := s.slotCheck g.kind g.slot
    let s := s.stageClose
    let s := if c = 0 then (if g.kind = 2 then s else s.put (validF g.kind g.slot) 1) else s.put (errF g.kind) c
    if c = 0 then (s, Sv.ok, leBytes 1 0) else (s.drew, s.drawn % 9 + 1, leBytes 1 c)

/-- STAGE_END: verification now, or at the end of the write that runs (none). [DEDUCED (unsafe), log row 91] -/
def State.stageEnd (s : State) : Option SvRes :=
  match s.sv.stage with
  | none => some (s, Sv.state, [])
  | some g => if g.write.isSome then none else some s.stageVerify

/-- SELECT with kind FW (R584). -/
def State.svSelect (s : State) (kind slot : Nat) : SvRes :=
  if kind ≠ 0 ∨ 2 ≤ slot then (s, Sv.badArg, [])
  else if slot = s.activeSlot 0 ∨ s.flag (validF 0 slot) then (s.put F.SV_BOOT_FW_SEL slot, Sv.ok, [])
  else (s, Sv.state, [])

/-- CONFIRM with kind FW or APP (R584). What the entry's digest is, no rule states: it is drawn. -/
def State.svConfirm (s : State) (kind bad : Nat) : SvRes :=
  if kind ≠ 0 ∧ kind ≠ 2 then (s, Sv.badArg, [])
  else
    let v := if kind = 0 then s.sv.fwSecver else s.sv.appSecver
    let c := if kind = 0 then s.sv.arbFw else s.sv.arbApp
    if s.inFoyer || (kind = 2 && s.get F.SV_BOOT_APP_STATE != 1) || v ≤ c then (s, Sv.state, [])
    else
      let s := s.modSv fun w => if kind = 0 then { w with arbFw := v } else { w with arbApp := v }
      (((s.svShow).logWrite 0x0A 0xFF (s.drawBytes 32) bad).drewN 32, Sv.ok, [])

/-- A write of SYS_IMG_SELECT (R49): without the key nothing. [DEDUCED (unsafe), log row 91] -/
def State.imgSelect (s : State) (v : Word) : State :=
  if bitsOf v.toNat 16 16 ≠ 0xA55A then s
  else
    let k := bitsOf v.toNat 0 1
    if k = s.activeSlot 1 ∨ s.flag (validF 1 k) then s.put F.SYS_IMG_SELECT_SLOT k else s.set1 F.SYS_IMG_STATUS_SEL_REJECT

/-- A write of SYS_IMG_CONFIRM (R51, R584); bad as for a log entry. -/
def State.imgConfirm (s : State) (v : Word) (bad : Nat) : State :=
  let n := (s.rd R.SYS_IMG_SECVER).toNat
  if v = 0xC0F1#32 ∧ s.img.applied.isSome ∧ !s.inFoyer ∧ s.sv.arbImg < n then
    (((s.modSv fun w => { w with arbImg := n }).svShow).logWrite 0x0A 0xFF (s.drawBytes 32) bad).drewN 32
  else s

/-! ### Owner slots and policy (R571, R572, R585) -/

/-- OWNER_ENROLL (R571). The digest that PM4 takes is not stated: it is drawn. -/
def State.svEnroll (s : State) (slot : Nat) (key : List Byte) (auth : Option (List Byte)) (bad : Nat) : SvRes :=
  let done := fun (s : State) =>
    let s := (s.modSv fun v => { v with hash := v.hash.set slot (sha3 key), key := v.key.set slot key }).svShow
    ((s.measure 0x09 4 (s.drawBytes 32) bad).drewN 32, Sv.ok, [])
  if slot = 0 ∨ 4 < slot ∨ key.length ≠ 1312 then (s, Sv.badArg, [])
  else if s.sv.hash.get slot ≠ [] ∨ bitOf s.sv.revoked (slot - 1) then (s, Sv.state, [])
  else if s.svEnrolled = 0 then done s
  else match auth with
    | none => (s.set1 F.SV_STICKY_AUTH_FAIL, Sv.authFail, [])
    | some r => s.withAuth r 0x0D (Config.argBytes 0x0D (leBytes 1 slot ++ key)) (fun _ => true) done

/-- OWNER_REVOKE (R572). -/
def State.svRevoke (s : State) (slot : Nat) (auth : List Byte) (bad : Nat) : SvRes :=
  if slot = 0 ∨ 4 < slot then (s, Sv.badArg, [])
  else s.withAuth auth 0x0E (Config.argBytes 0x0E (leBytes 1 slot)) (fun n => n != slot) fun s =>
    let s := (s.modSv fun v => { v with revoked := v.revoked ||| 2 ^ (slot - 1) }).svShow
    ((s.measure 0x09 4 (s.drawBytes 32) bad).drewN 32, Sv.ok, [])

/-- SET_APP_STRICT (R585). -/
def State.svStrict (s : State) (auth : List Byte) (bad : Nat) : SvRes :=
  s.withAuth auth 0x0F (Config.argBytes 0x0F []) (fun n => n != 0) fun s =>
    let s := (s.modSv fun v => { v with strict := true }).svShow
    ((s.measure 0x0B 4 (s.drawBytes 32) bad).drewN 32, Sv.ok, [])

/-! ### Debug permits (R588, R589, R593) -/

/-- The Docent pads are enabled (R593): before an image has been applied, or where it says so. -/
def State.docPads (s : State) : Bool := !s.img.applied.isSome || bU8 (s.sec Sec.pads 0) 0x20 == 1

/-- DEBUG_PERMIT (R588): four argument bytes. A grant replaces the permit in force; one of level OBSERVE releases every halt
(R591, R598). -/
def State.svPermit (s : State) (auth args : List Byte) (bad : Nat) : SvRes :=
  let lvl := bU8 args 0
  let dur := bU args 1 2
  if args.length ≠ 4 ∨ lvl = 0 ∨ 3 < lvl ∨ dur = 0 ∨ 3600 < dur ∨ bU8 args 3 ≠ 0 then (s, Sv.badArg, [])
  else if s.sv.debugLock || !s.docPads || (lvl == 3 && !s.pins.testMode) then (s, Sv.policy, [])
  else s.withAuth auth 0x10 args (fun n => lvl != 3 || n == 0) fun s =>
    let s := s.measure 0x07 4 (sha3 (auth.take 80)) bad
    let s := (s.put F.SV_INFO_PERMIT lvl).modSv fun v =>
      { v with permitTo := s.mono + dur * 800000000, permitted := true }
    (if lvl = 1 then s.dbgRelease else s, Sv.ok, [])

/-! ### Reports (R580, Table SVA-8) -/

/-- FLAGS of a report. -/
def State.attFlags (s : State) : Nat :=
  b2n s.inFoyer + 2 * b2n (s.flag F.CUR_STATUS_SAFE) + 4 * b2n (s.get F.SV_INFO_PERMIT != 0) + 8 * b2n s.sv.permitted +
  16 * b2n s.pins.testMode + 32 * b2n (s.get F.SV_BOOT_APP_STATE == 2) + 64 * b2n s.sv.strict +
  128 * b2n (s.flag F.SV_STICKY_LOG_ERR) + 256 * s.svEnrolled + 4096 * bitsOf s.sv.revoked 0 4

/-- SYS_ID as it reads: the grade by fuse (Table SCOPE-3). -/
def State.sysId (s : State) : Word := w32 (bitsPut (s.rd R.SYS_ID).toNat 4 4 (1 + b2n Config.isMt))

/-- The first 512 bytes of a report. -/
def State.attBody (s : State) (nonce : List Byte) : List Byte :=
  let imgOn := s.img.applied.isSome
  leBytes 4 0x54535441 ++ leBytes 2 1 ++ leBytes 2 0x200 ++ leBytes 4 s.sysId.toNat ++ leBytes 4 s.attFlags ++ leBytes 8 s.epoch ++
  leBytes 4 (s.rd R.PLINTH_RTC_SEC).toNat ++ leBytes 4 s.sv.bootNo ++ fixLen 32 nonce ++ devidHash ++
  leBytes 1 s.sv.arbFw ++ leBytes 1 s.sv.arbImg ++ leBytes 1 s.sv.arbApp ++ leBytes 1 0 ++
  leBytes 4 s.sv.fwSecver ++ leBytes 4 (if imgOn then (s.rd R.SYS_IMG_SECVER).toNat else 0) ++ leBytes 4 s.sv.appSecver ++
  leBytes 4 (s.rd R.SYS_IMG_ID).toNat ++ leBytes 4 (if s.inFoyer then bitsOf (s.rd R.SYS_FOYER).toNat 0 16 else 0) ++
  leBytes 4 s.sv.logSeq ++ leBytes 4 0 ++ ((List.range 8).flatMap fun i => fixLen 32 (s.pmOf i)) ++
  fixLen 32 s.sv.fwDigest ++ (if imgOn then (List.range 8).flatMap (fun i => leBytes 4 (s.rd (R.SYS_IMG_DIGEST i)).toNat) else
    List.replicate 32 0#8) ++ fixLen 32 s.sv.appDigest ++ List.replicate 32 0#8

/-- ATTEST (R580, R581). -/
def State.svAttest (s : State) (nonce : List Byte) : SvRes :=
  if nonce.length ≠ 32 then (s, Sv.badArg, [])
  else if !s.flag F.SV_INFO_DEVID_READY then (s, Sv.state, [])
  else
    let b := s.attBody nonce
    (s, Sv.ok, b ++ fixLen 2420 (Config.devidSign (sha3 b)))

end Sys2Proof.Machine
end

