-- ==== Sys2Proof/Machine/Svauth.lean ====
section
/-!
DEFINITION. The mailbox and Svauth's commands (chapter 18): a command is written (REGISTER_WRITE of SV_CMD, a service frame, a
relayed Courier message), Svauth serves it, and its completion posts the result.
-/

namespace Sys2Proof.Machine

/-! ### Channels (R590): 0 HPA, 1 HPB, 2 the Docent service channel -/

/-- A channel runs a command. -/
def State.svBusy (s : State) (ch : Nat) : Bool := (s.sv.chan.get ch).op != 0

/-- A command arrives on a channel (R590): while the channel is busy it is ignored and sets CFG_REJECT. Opcode 0 stands as 0x100. -/
def State.svPost (s : State) (ch op : Nat) : State :=
  if s.svBusy ch then s.cfgReject .svauth
  else
    let s := s.modSv fun v => { v with
      chan := v.chan.set ch { op := if op = 0 then 0x100 else op, served := false, result := 0, rsp := [] }, queue := v.queue ++ [ch] }
    if ch < 2 then s.put (F.SV_STATUS_BUSY ch) 1 else s

/-- A channel may issue a command (Table SVA-10). -/
def svMayIssue (ch op : Nat) : Bool :=
  if ch = 0 then true else if ch = 1 then op ≤ 6 else op == 0x10 || op == 0x11

/-- What Svauth answers before it looks at a command's arguments: FENCED, INITIATOR, or nothing (R565, Table SVA-10). -/
def State.svBar (s : State) (ch op : Nat) : Option Nat :=
  if s.svFenced && op != 1 then some Sv.fenced
  else if !svMayIssue ch op then some Sv.initiator
  else none

/-- Svauth has served a channel's command. -/
def State.svServed (s : State) (ch : Nat) (r : Nat) (rsp : List Byte) : State :=
  s.modSv fun v => { v with chan := v.chan.modify ch (fun c => { c with served := true, result := r, rsp := rsp }),
                            queue := v.queue.filter (· != ch) }

/-- No command that Svauth has served is yet to complete: it serves one at a time, so that an extension that arrives while a report
is signed waits until the report is complete (R580). [DEDUCED (unsafe), log row 121] -/
def State.svFree (s : State) : Bool := (List.range 3).all fun ch => !(s.sv.chan.get ch).served

/-- The oldest command, on a channel and of an opcode, is served now. -/
def State.svTurn (s : State) (ch op : Nat) : Bool :=
  s.sv.queue.head? == some ch && (s.sv.chan.get ch).op == op && s.svFree

/-- Svauth begins a command: what a fence puts back is kept (R591). -/
def State.svKeep (s : State) : State := s.modSv fun v => { v with undo := some s.svSnap }

/-- Svauth serves the oldest command, where it is this one (R590). [DESIGN CHOICE (safe), log row 90] -/
def State.svServe (s : State) (ch op : Nat) (k : State → SvRes) : State :=
  if !s.svTurn ch op then s
  else match s.svBar ch op with
    | some r => s.svServed ch r []
    | none => let x := k s.svKeep; x.1.svServed ch x.2.1 x.2.2

/-- The level and the seconds remaining of a PERMIT_RESULT frame (R599). -/
def State.permitLeft (s : State) : Nat := (s.sv.permitTo - s.mono + 799999999) / 800000000

/-- The bytes of a service frame (R599). -/
def svcFrame (ty : Nat) (p : List Byte) : List Byte :=
  let b := leBytes 1 ty ++ leBytes 2 p.length ++ p
  leBytes 1 0x7E ++ b ++ leBytes 4 (crc32 b)

/-- A served command completes on its channel (R590, R599). An opcode that is not in Table SVA-10 ends with BAD_ARG. -/
def State.svComplete (s : State) (ch : Nat) : State :=
  let c := s.sv.chan.get ch
  let bad := !c.served && (0x12 ≤ c.op || !svMayIssue ch c.op) && s.sv.queue.head? == some ch && s.svFree
  if c.op = 0 ∨ (!c.served && !bad) then s
  else
    let r := if c.served then c.result else if 0x12 ≤ c.op then Sv.badArg else Sv.initiator
    let rsp := if c.served then c.rsp else []
    let s := s.modSv fun v => { v with chan := v.chan.set ch default, queue := v.queue.filter (· != ch), undo := none }
    if ch < 2 then
      let s := (((s.put (F.SV_STATUS_BUSY ch) 0).put (F.SV_STATUS_DONE ch) 1).put (F.SV_STATUS_RESULT ch) r).put
        (F.SV_STATUS_RSP_LEN ch) rsp.length
      s.wrBytes (R.SV_RSP ch) (rsp.take 4096)
    else
      { s with resp := {
          words := [], result := r, fault := false,
          bytes := svcFrame 4 (leBytes 1 r ++ leBytes 1 (s.get F.SV_INFO_PERMIT) ++ leBytes 2 s.permitLeft) } }

/-! ### The commands (Table SVA-10) -/

/-- SV_GET_INFO (R590): what it returns is not stated; its bytes are drawn. -/
def execSvGetInfo (q : Fin 2) (s : State) : Res :=
  .next (s.svServe q 1 fun s => (s.drewN 4097, Sv.ok, (s.drawBytes 4097).drop (1 + Config.freeDraw s.draws % 4096)))

/-- SV_GET_DEVID_CERT (R569). -/
def execSvGetDevidCert (q : Fin 2) (s : State) : Res :=
  .next (s.svServe q 2 fun s => (s, Sv.ok, fixLen 3796 Config.devidCert))

/-- SV_ATTEST (R580, R581). -/
def execSvAttest (q : Fin 2) (nonce : List Byte) (s : State) : Res :=
  .next (s.svServe q 3 fun s => s.svAttest nonce)

/-- EXTEND (R578, Table SVA-10): PM5 and PM6 by HPA, PM7 by HPB. [DEDUCED (unsafe), log row 91] -/
def State.svExtend (s : State) (q pm : Nat) (d : List Byte) (bad : Nat) : SvRes :=
  if d.length ≠ 32 ∨ pm < 5 ∨ 7 < pm then (s, Sv.badArg, [])
  else if (pm = 7) = (q = 1) then (s.measure 0x08 pm d bad, Sv.ok, [])
  else (s, Sv.initiator, [])

/-- SV_EXTEND (R578). -/
def execSvExtend (q : Fin 2) (pm : Nat) (digest : List Byte) (bad : Nat) (s : State) : Res :=
  .next (s.svServe q 4 fun s => s.svExtend q pm digest bad)

/-- SV_READ_PM (R578): PM0 to PM7 in order. -/
def execSvReadPm (q : Fin 2) (s : State) : Res :=
  .next (s.svServe q 5 fun s => (s, Sv.ok, (List.range 8).flatMap s.pmOf))

/-- SV_RANDOM (R566): 1 to 256 conditioned bytes, drawn. -/
def execSvRandom (q : Fin 2) (n : Nat) (s : State) : Res :=
  .next (s.svServe q 6 fun s => if n = 0 ∨ 256 < n then (s, Sv.badArg, []) else (s.drewN n, Sv.ok, s.drawBytes n))

/-- VERIFY_AUTH for an opcode and argument bytes (R586, R587). -/
def State.svVerify (s : State) (rcd : List Byte) (op : Nat) (args : List Byte) : SvRes :=
  let c := s.authCheck rcd op args
  (s.authTake rcd c, c, [])

/-- SV_VERIFY_AUTH (R586). -/
def execSvVerifyAuth (q : Fin 2) (rcd : List Byte) (op : Nat) (args : List Byte) (s : State) : Res :=
  .next (s.svServe q 7 fun s => s.svVerify rcd op args)

/-- SV_STAGE_BEGIN (R45, R582, R583). -/
def execSvStageBegin (q : Fin 2) (kind slot : Nat) (s : State) : Res :=
  .next (s.svServe q 8 fun s => s.stageBegin kind slot)

/-- SV_STAGE_DATA (R46, R582). -/
def execSvStageData (q : Fin 2) (off : Nat) (data : List Byte) (s : State) : Res :=
  .next (s.svServe q 9 fun s => s.stageData off data)

/-- SV_STAGE_END (R47, R582): where a write still runs, the answer waits for its end. -/
def execSvStageEnd (q : Fin 2) (s : State) : Res :=
  if s.svTurn q 10 && (s.svBar q 10).isNone && s.stageEnd.isNone then
    .next (s.modSv fun v => { v with stage := v.stage.map fun g => { g with ending := true } })
  else .next (s.svServe q 10 fun s => s.stageEnd.getD (s, Sv.busy, []))

/-- The write through MRAM_PROGRAM ends: its bytes stand in the slot, the activity ends, and a verification that was asked for
runs (R46, R47, R458). [DEDUCED (unsafe), log row 92] -/
def State.mramEnd (s : State) : State :=
  match s.sv.stage with
  | none => s.maintEnd Act.mramProgram .ok
  | some g =>
    match g.write with
    | none => s.maintEnd Act.mramProgram .ok
    | some w =>
      let s := (s.wrBytes (slotBase g.kind g.slot + w.1) w.2).maintEnd Act.mramProgram .ok
      let s := s.modSv fun v => { v with stage := some { g with written := g.written + w.2.length, write := none, ending := false } }
      if g.ending then (let x := s.svKeep.stageVerify; if x.1.svTurn 0 10 then x.1.svServed 0 x.2.1 x.2.2 else x.1) else s

/-- MRAM_PROGRAM_END (R46, R47, R458). -/
def execMramProgramEnd (s : State) : Res := if s.maintRuns Act.mramProgram then .next s.mramEnd else .next s

/-- SV_SELECT (R584). -/
def execSvSelect (q : Fin 2) (kind slot : Nat) (s : State) : Res :=
  .next (s.svServe q 11 fun s => s.svSelect kind slot)

/-- SV_CONFIRM (R584). -/
def execSvConfirm (q : Fin 2) (kind bad : Nat) (s : State) : Res :=
  .next (s.svServe q 12 fun s => s.svConfirm kind bad)

/-- SV_OWNER_ENROLL (R571). -/
def execSvOwnerEnroll (q : Fin 2) (slot : Nat) (key : List Byte) (auth : Option (List Byte)) (bad : Nat) (s : State) : Res :=
  .next (s.svServe q 13 fun s => s.svEnroll slot key auth bad)

/-- SV_OWNER_REVOKE (R572). -/
def execSvOwnerRevoke (q : Fin 2) (slot : Nat) (auth : List Byte) (bad : Nat) (s : State) : Res :=
  .next (s.svServe q 14 fun s => s.svRevoke slot auth bad)

/-- SV_SET_APP_STRICT (R585). -/
def execSvSetAppStrict (q : Fin 2) (auth : List Byte) (bad : Nat) (s : State) : Res :=
  .next (s.svServe q 15 fun s => s.svStrict auth bad)

/-- SV_DEBUG_PERMIT (R588): from HPA, HPB (which may not) or the Docent service channel. -/
def execSvDebugPermit (ch : Fin 3) (auth args : List Byte) (bad : Nat) (s : State) : Res :=
  .next (s.svServe ch 16 fun s => s.svPermit auth args bad)

/-- SV_PERMIT_END (R589). -/
def execSvPermitEnd (ch : Fin 3) (s : State) : Res :=
  .next (s.svServe ch 17 fun s => (s.dbgPermitEnd, Sv.ok, []))

/-- SV_CMD_COMPLETE (R590). -/
def execSvCmdComplete (ch : Fin 3) (s : State) : Res := .next (s.svComplete ch)

/-! ### Permits and pins (R589) -/

/-- DEBUG_PERMIT_EXPIRE (R589). -/
def execDebugPermitExpire (s : State) : Res :=
  if s.get F.SV_INFO_PERMIT ≠ 0 ∧ s.sv.permitTo ≤ s.mono then .next s.dbgPermitEnd else .next s

/-- TEST_MODE_LOW (R589): ends a FACTORY permit. -/
def execTestModeLow (s : State) : Res :=
  let s := { s with pins := { s.pins with testMode := false } }
  if s.get F.SV_INFO_PERMIT = 3 then .next s.dbgPermitEnd else .next s

/-! ### Image registers (R49 to R51) -/

/-- IMG_SELECT_WRITE (R49). -/
def execImgSelectWrite (_i : Initiator) (v : Word) (s : State) : Res := .next (s.imgSelect v)

/-- IMG_CONFIRM_WRITE (R51): the log entry it writes reads back right. -/
def execImgConfirmWrite (_i : Initiator) (v : Word) (s : State) : Res := .next (s.imgConfirm v 0)

end Sys2Proof.Machine
end

