-- ==== Sys2Proof/Machine/PowerOps.lean ====
section
/-!
DEFINITION. Power domains, operating points, pad hold and the Plinth's states as shared operations (chapter 17): what a domain's
power-up and power-down do, the refusals of Table PWR-2, the steps of R540, the fall of PD1.
-/

namespace Sys2Proof.Machine

/-- Memory of an address range is as memory that nothing has written: its contents after a power-up are undefined (R523).
[DESIGN CHOICE (unsafe), log row 4] -/
def State.memDrop (s : State) (lo hi : Nat) : State :=
  { s with mem := s.mem.filter fun e => e.1 < lo || hi ≤ e.1, shadow := s.shadow.filter fun e => e.1 < lo || hi ≤ e.1 }

/-- Changes the Plinth's hidden state. -/
def State.modPlinth (s : State) (f : PlinthState → PlinthState) : State := { s with plinth := f s.plinth }
/-- Changes the start-up's hidden state. -/
def State.modStart (s : State) (f : StartState → StartState) : State := { s with start := f s.start }

/-- The bit of a domain in a field of SYS_PD_STATUS or SYS_PD_CTRL. -/
def pdOnF (d : Nat) : Fld := ⟨R.SYS_PD_STATUS, d, 1⟩
/-- A domain's transition bit. -/
def pdMoveF (d : Nat) : Fld := ⟨R.SYS_PD_STATUS, 16 + d, 1⟩
/-- A domain's request bit. -/
def pdCtrlF (d : Nat) : Fld := ⟨R.SYS_PD_CTRL, d, 1⟩
/-- A domain's pad-hold bit. -/
def padHoldF (d : Nat) : Fld := ⟨R.SYS_PAD_HOLD, d, 1⟩

/-- The Plinth's state (Table PWR-6): 0 SLEEP, 1 STORE, 2 START, 3 RUN. -/
def State.plState (s : State) : Nat := s.get F.PLINTH_STATUS_STATE
/-- The Plinth is alive (R547). -/
def State.alive (s : State) : Bool := s.pdOn 0

/-! ### Operating points (R539 to R542) -/

/-- The target of a domain PD2 to PD5. -/
def opF (d : Nat) : Fld := ⟨R.SYS_OP, 4 * (d - 2), 2⟩
/-- The point in force. -/
def curOpF (d : Nat) : Fld := ⟨R.SYS_OP_STATUS, 4 * (d - 2), 2⟩
/-- The domain is in a step. -/
def stepF (d : Nat) : Fld := ⟨R.SYS_OP_STATUS, 16 + (d - 2), 1⟩

/-- The next step toward the target begins (R540): down, the frequency changes first; up, after VOK. [DEDUCED (unsafe), log row 85] -/
def State.dvfsNext (s : State) (d : Nat) : State :=
  let c := s.get (curOpF d)
  let t := s.get (opF d)
  if !s.pdOn d || s.flag (stepF d) || c == t then s
  else
    let n := if t < c then c - 1 else c + 1
    let s := if c < n then s.put (curOpF d) n else s
    (s.put (stepF d) 1).modPlinth fun p => { p with dvfsTo := p.dvfsTo.set d (n + 1), dvfsAt := p.dvfsAt.set d s.mono }

/-- A step is over, or abandoned. [DEDUCED (unsafe), log row 85] -/
def State.dvfsDrop (s : State) (d : Nat) : State :=
  (s.put (stepF d) 0).modPlinth fun p => { p with dvfsTo := p.dvfsTo.set d 0, dvfsAt := p.dvfsAt.set d 0 }

/-- A step reaches VOK (R540): the point is in force; the clock stood still for at most 50 ns, in cycles drawn.
[DEDUCED (unsafe), log row 85] -/
def State.dvfsVok (s : State) (d : Nat) : State :=
  let n := s.plinth.dvfsTo.get d - 1
  let s := ((s.put (curOpF d) n).dvfsDrop d)
  let s := if d = 2 ∨ d = 3 then
      (s.perfAdd (d - 2) (s.noteAt (d - 2)) 0x5B (s.drawn % 33)).drew
    else s
  s.dvfsNext d

/-- A write of SYS_OP for one domain (R539, R542): QUIET, 3 refused, and in STORE only OP-L for PD2. [DEDUCED (unsafe), log row 85] -/
def State.opWrite (s : State) (d v : Nat) : State :=
  s.quietGate .sysPower (!s.pwmAllStopped) (opF d) v fun s =>
    if v = 3 ∨ (d = 2 ∧ v ≠ 2 ∧ (s.plState = 1 ∨ s.inFoyer)) then s.cfgReject .sysPower else (s.put (opF d) v).dvfsNext d

/-- PD2 goes to OP-L, a step up under way being abandoned (R560, R561). -/
def State.pd2Low (s : State) : State :=
  let s := s.put (opF 2) 2
  if s.plinth.dvfsTo.get 2 ≠ 0 ∧ s.plinth.dvfsTo.get 2 ≤ s.get (curOpF 2) then (s.dvfsDrop 2).dvfsNext 2 else s.dvfsNext 2

/-! ### Pad hold (R543, R544) -/

/-- FUNCTION of a GPIO pad (R663). -/
def State.padFn (s : State) (k : Nat) : Nat := bU8 (s.sec Sec.pads 0) (4 * k)

/-- The pads act: before HPA's release and in the Foyer state they are inputs (Table SUP-7). -/
def State.padsActive (s : State) : Bool := (s.hok.get 0).run && !s.inFoyer

/-- The Epoch marker of R663: high for 800 ticks from every multiple of 800,000. -/
def State.epochMarker (s : State) : Bool := decide (s.epoch % 800000 < 800)

/-- The output enable and the output level of a GPIO: as they stood when its pads were held (R543); else by its function (R562, R663):
general I/O as the registers give, the copy of FAULT_N, the Epoch marker. [DEDUCED (unsafe), log row 120] -/
def State.padDrive (s : State) (k : Nat) : Bool × Bool :=
  if s.flag (padHoldF 1) then (bitOf s.plinth.padOe k, bitOf s.plinth.padOut k)
  else if !s.padsActive then (false, false)
  else match s.padFn k with
    | 1 => (bitOf (s.rd R.SYS_GPIO_OE).toNat k, bitOf (s.rd R.SYS_GPIO_OUT).toNat k)
    | 2 => (true, !s.faultNLow)
    | 3 => (true, s.epochMarker)
    | _ => (false, false)

/-- The pull of a GPIO (R543, R663): 0 none, 1 up, 2 down; none where PADS is not applied. -/
def State.padPull (s : State) (k : Nat) : Nat :=
  if s.flag (padHoldF 1) then bitsOf s.plinth.padPull (2 * k) 2 else bU8 (s.sec Sec.pads 0) (4 * k + 1)

/-- The rated current of a GPIO's output in mA: DRIVE of PADS (R663). -/
def State.padDriveMa (s : State) (k : Nat) : Nat := [2, 4, 8, 12].getD (bU8 (s.sec Sec.pads 0) (4 * k + 2)) 2

/-- HSPI_IRQ_N is driven low (R642): while D2H_FULL is 1 or a COURH_STICKY bit that COURH_IRQ_EN enables is 1; high impedance while PD1
is off and until HPA's release (Table SUP-7); as it stood while the pads of PD11 are held (R543). [DEDUCED (unsafe), log row 120] -/
def State.hspiIrqLow (s : State) : Bool :=
  s.pdOn 1 &&
  (if s.flag (padHoldF 11) then s.plinth.hspiIrq
   else s.pdOn 11 && (s.hok.get 0).run &&
    (s.flag F.COURH_STATUS_D2H_FULL || s.rd R.COURH_STICKY &&& s.rd R.COURH_IRQ_EN != 0#32))

/-- The pads of a group are held as they stand. [DEDUCED (unsafe), log row 86] -/
def State.padHold (s : State) (d : Nat) : State :=
  if s.flag (padHoldF d) then s
  else
    let s := if d = 1 then s.modPlinth fun p =>
        { p with padOut := maskOf 8 fun k => (s.padDrive k).2, padOe := maskOf 8 fun k => (s.padDrive k).1
                 padPull := (List.range 8).foldl (fun m k => m + s.padPull k * 4 ^ k) 0 }
      else if d = 11 then s.modPlinth fun p => { p with hspiIrq := s.hspiIrqLow }
      else s
    s.put (padHoldF d) 1

/-! ### Domains -/

/-- The domains SYS_PD_CTRL may switch off (Table PWR-1). -/
def pdSwitched (d : Nat) : Bool := d == 3 || d == 4 || d == 5 || d == 6 || (8 ≤ d && d ≤ 11)
/-- The domains that STORE permits or keeps on. [DEDUCED (unsafe), log row 84] -/
def pdStore (d : Nat) : Bool := d < 3 || d == 7 || d == 8 || d == 10 || d == 11
/-- The domains of the Foyer state (R613). [DEDUCED (unsafe), log row 84] -/
def pdFoyer (d : Nat) : Bool := d < 3 || d == 7 || d == 10 || d == 11

/-- The supplies a domain needs are present (Table PWR-1). [DEDUCED (unsafe), log row 83] -/
def State.pdNeeds (s : State) (d : Nat) : Bool :=
  s.pdOn 1 && (if d = 8 then s.flag F.SYS_RAILS_VANA_OK else if d = 9 then s.flag F.SYS_RAILS_VDRV_OK
    else if d = 10 then s.flag F.SYS_RAILS_VISO_OK else true)

/-- A domain may be on in the Plinth's state, and in the Foyer state. [DEDUCED (unsafe), log row 83] -/
def State.pdMay (s : State) (d : Nat) : Bool := (s.plState != 1 || pdStore d) && (!s.inFoyer || pdFoyer d)

/-- The conditions of Table PWR-2. -/
def State.pdHeldOn (s : State) (d : Nat) : Bool :=
  let runs := fun (u : Nat) => s.pwmState u == 1
  let wgs := fun (grid : Bool) => (List.range 4).any fun g => s.wgGrid g == grid && (s.flag (F.SENSP_WG_CTRL_EN g) || !s.wgIdle g)
  if d = 3 then (List.range 14).any fun u => s.get (F.PWM_CTRL_OWNER u) == 1 && runs u && (s.unitPair u).isNone
  else if d = 4 ∨ d = 5 then (List.range 6).any fun p => pairPd p == d && s.flag (F.LP_CTRL_EN p)
  else if d = 6 then s.flag F.METER_CTRL_EN || (List.range 4).any s.arcOn
  else if d = 8 then wgs false || (List.range 16).any s.ringOn || (List.range 8).any runs ||
    [1, 3, 4, 5, 6, 7, 8].any s.maintRuns
  else if d = 9 then (List.range 8).any runs
  else if d = 10 then s.conn != 0 || (List.range 6).any (fun l => s.laneState l == 1) ||
    (List.range 4).any (fun g => s.wgGrid g && s.flag (F.SENSP_WG_CTRL_EN g)) || s.maintRuns 2 || s.maintRuns 9
  else if d = 11 then s.plcBusy
  else false

/-- A loop pair stops with its domain: EN and STATE return to 0. -/
def State.pairPowerDown (s : State) (p : Nat) : State :=
  let on := s.flag (F.LP_CTRL_EN p)
  let s := (((s.put (F.LP_CTRL_EN p) 0).put (F.LP_STATUS_STATE p) 0).put (F.LP_STATUS_HELD_REC p) 0).modLoop p fun l =>
    { l with rcd := none, running := false }
  if on then s.gridDisabled p else s

/-- A loop pair comes up with its domain: IDLE, with ECC_COR at 0; HALTED where it is fenced or the device is in the safe state
(R207), DEBUG where it is halted (R214, Table LOOP-7). -/
def State.pairPowerUp (s : State) (p : Nat) : State :=
  let st := if s.flag (F.LP_STATUS_PAIR_FENCED p) || s.flag F.CUR_STATUS_SAFE then 4 else if s.dbgHalted (2 + p) then 5 else 1
  ((s.put (F.LP_STATUS_STATE p) st).put (F.LP_STATUS_ECC_COR p) 0).modLoop p fun l => { l with saved := 1 }

/-- A side's window groups, rings and calibration stop with its domain: a delivery is skipped. -/
def State.sensPowerDown (s : State) (grid : Bool) : State :=
  let s := ((s.put (calBusyF grid) 0).modSide grid fun d => { d with opened := [] }).forEach (List.range 4) fun s g =>
    if s.wgGrid g == grid then
      { (s.put (F.SENSP_WG_CTRL_EN g) 0) with sens := { s.sens with wg := s.sens.wg.modify g fun w => { w with pend := [], opened := [], closed := [] } } }
    else s
  s.forEach (sideChs grid) fun s k =>
    ((s.put (F.CH_RING_CTRL_EN k) 0).modCh k fun c => { c with ovl := [], entries := [], marks := [], lcRec := none, last := none }).calClear k

/-- A side's modulators and its island's division into cycles start with its domain: every tick from here is a gap until a cycle
starts (R146, R147, R150, R154). -/
def State.sensPowerUp (s : State) (grid : Bool) : State :=
  let s := s.modSide grid fun d => { (default : SideState) with ann := d.ann, gapFrom := s.epoch }
  let s := s.forEach (sideChs grid) fun s k => s.modCh k fun c => { c with contFrom := s.epoch }
  if grid then s else s.monRestart

/-- An activity ends with its domain, past the point of an abort too. -/
def State.maintDrop (s : State) (c : Nat) : State :=
  let s := s.maintAbort c
  if s.maintRuns c then s.maintEnd c .aborted else s

/-- The comparator test, where it tests comparators of a side. -/
def State.testDrop (s : State) (grid : Bool) : List Nat := if testClaims grid s.diag.testMask then [Act.wcmpTest] else []

/-- What a power-down does to a domain's blocks (R537): outputs at idle, nothing left half-running. [DEDUCED (unsafe), log row 83] -/
def State.domainIdle (s : State) (d : Nat) : State :=
  if d = 3 then s.modHok 1 fun _ => default
  else if d = 4 ∨ d = 5 then (s.ivAbortIf fun t => pairPd t.pair == d).forEach ((List.range 6).filter fun p => pairPd p == d) State.pairPowerDown
  else if d = 6 then s.meterStop.arcStopAll.maintDrop Act.vaultCompact
  else if d = 8 then (s.forEach ([1, 4, 5, 6, 7, 8] ++ s.testDrop false) State.maintDrop).sensPowerDown false
  else if d = 9 then (s.ivAbortIf fun _ => true).forEach (List.range 8) State.hbOff
  else if d = 10 then
    let s := s.forEach ([2, 9] ++ s.testDrop true) State.maintDrop
    let s := s.sensPowerDown true
    let s := s.forEach (List.range 6) fun s l => s.put (F.LANE_STAT_STATE l) (if s.unitFenced (l + 8) then 3 else 0)
    let s := ((s.relaysOff.put F.EPOCH_STATUS_BAR_CAL_DONE 0).plcDrop)
    let s := if s.conn = 2 ∨ s.conn = 3 then s.gridTrip Cause.pairOff 0 0 else s
    let s := if s.conn = 5 then s else (s.setConn 0).put F.GRID_RT_STATUS_RC_READY 0
    s.modGrid fun g => { g with timer := none }
  else if d = 11 then (s.padHold 11).courSessionEnd.plcDrop.modCour fun c => { c with event := none, bcast := [], reset := none, kept := [] }
  else s

/-- A domain goes off at once. -/
def State.domainOff (s : State) (d : Nat) : State :=
  if s.pdOn d then
    let s := (s.domainIdle d)
    let s := if 2 ≤ d ∧ d ≤ 5 then s.dvfsDrop d else s
    ((s.put (pdOnF d) 0).put (pdMoveF d) 0).noteHolds
  else s.put (pdMoveF d) 0

/-- HPB's items of R606 return to their reset values: its HIC registers, the PERF counters and PERF_ARCH_CTRL of cores 2 and 3,
and SYS_DOORBELL bit 1. -/
def State.hpbItems (s : State) : State :=
  let s := s.resetRange 0x40001400 0x40001800
  let s := s.resetRange 0x400B0140 0x400B0180
  (s.put ⟨R.SYS_DOORBELL, 1, 1⟩ 0).modHok 1 fun k => { k with cnt := [], arch := [] }

/-- What a power-up gives a domain's blocks (R537, R523, and each block's own rules): reset or image values, memories that nothing
has written. For PD10, ok is the result of the powerline modem's self-test. -/
def State.domainFresh (s : State) (d : Nat) (ok : Bool) : State :=
  if d = 3 then ((s.modHok 1 fun _ => default).hpbItems).put F.SYS_CORE_CTRL_HPB_RUN 0
  else if d = 4 ∨ d = 5 then
    let ps := (List.range 6).filter fun p => pairPd p == d
    (s.forEach ps fun s p => (s.memDrop (tcmBase p) (tcmBase p + 0x10000)).pairPowerUp p).loadGraphs ps
  else if d = 6 then
    let s := (s.memDrop 0x31000000 0x31080000).resetRange 0x40090000 0x400A0000
    s.modMeter fun _ => default
  else if d = 8 then
    let wg := (List.range 4).filter fun g => s.wgGrid g
    let keep := s.regs.filter fun e => wg.any fun g => R.SENSP_WG_CTRL g ≤ e.1 && e.1 < R.SENSP_WG_CTRL g + 0x20
    let s := (s.resetRange 0x40030000 0x40040000).resetRange 0x40040000 0x40050000
    let s := keep.foldl (fun (s : State) (e : Nat × Word) => s.wr e.1 e.2) s
    (s.forEach (List.range 14) State.wcPend).sensPowerUp false
  else if d = 9 then
    let s := s.resetRange 0x40070000 0x40080000
    let s := { s with drive := { s.drive with hb := [], linkLost := false, keepTick := s.mono, vdrvFrom := s.mono } }
    let s := (s.put F.DRV_STATUS_LOCKOUT 1).put F.DRV_STATUS_VDRV_OK (s.get F.SYS_RAILS_VDRV_OK)
    s.forEach (List.range 8) fun s h => s.put (F.DRV_HB_STATUS_FENCED h) (b2n (s.unitFenced h))
  else if d = 10 then
    let c := s.get F.GRID_RT_STATUS_CONN_STATE
    let s := (s.resetRange 0x48000000 0x48050000).sensPowerUp true
    let s := s.forEach (List.range 10) fun s k => s.wcPend (14 + k)
    let s := s.forEach (List.range 6) fun s l => s.put (F.LANE_STAT_STATE l) (if s.unitFenced (l + 8) then 3 else 0)
    let s := { s with drive := { s.drive with lane := [] } }
    let s := ((s.put F.PLC_STATUS_FENCED (b2n (bitOf (s.rd R.CUR_FENCED_OTHER).toNat 3))).opInit).setConn c
    let s := s.connRefresh
    if ok then s else s.stickyRaise F.PLC_STICKY_SELFTEST_FAIL FS.PLC_FAULT
  else if d = 11 then (s.memDrop 0x400C0000 0x400D0000).resetRange 0x400C0000 0x400D0000
  else s

/-- A domain reaches DOMAIN_ON (R535, R537); PD3 to PD5 come up at their target point (R561). -/
def State.domainUp (s : State) (d : Nat) (ok : Bool) : State :=
  let s := (s.put (pdOnF d) 1).put (pdMoveF d) 0
  let s := if 2 ≤ d ∧ d ≤ 5 then s.put (curOpF d) (s.get (opF d)) else s
  (s.domainFresh d ok).noteHolds

/-- A domain that is requested goes toward on where its needs are present and it may be on. [DEDUCED (unsafe), log row 83] -/
def State.pdPursue (s : State) (d : Nat) : State :=
  if s.flag (pdCtrlF d) && !s.pdOn d && s.pdNeeds d && s.pdMay d then s.put (pdMoveF d) 1 else s

/-- A write of one bit of SYS_PD_CTRL (R536). -/
def State.pdBit (s : State) (d : Nat) (on : Bool) : State :=
  if s.flag (pdCtrlF d) == on then s
  else if on then
    if s.pdNeeds d && s.pdMay d then
      let s := s.put (pdCtrlF d) 1
      if s.pdOn d then s else s.put (pdMoveF d) 1
    else s.cfgReject .sysPower
  else if pdSwitched d && !s.pdHeldOn d then (s.put (pdCtrlF d) 0).domainOff d
  else s.cfgReject .sysPower

/-- A write of SYS_PD_CTRL (R536): HPA only, bit by bit. [DEDUCED (unsafe), log row 84] -/
def State.pdWrite (s : State) (i : Initiator) (v : Word) : State :=
  if i != .hpa then s.cfgReject .sysPower
  else s.forEach (List.range 12) fun s d => s.pdBit d (bitOf v.toNat d)

/-! ### The Plinth (R547 to R560) -/

/-- The registers that stand while PD1 is off: the Plinth's, the pad-hold latches; and the fields that MRAM, OTP or the outside
keep (Table SUP-5): the staged-valid bits, the selections, the raw levels of the Warden's inputs, SUPPLY_FAIL. -/
def keptFlds : List Fld :=
  [⟨R.SYS_IMG_STATUS, 2, 2⟩, F.SYS_IMG_SELECT_SLOT, F.SV_BOOT_FW_SEL, F.SV_BOOT_FW_VALID_A, F.SV_BOOT_FW_VALID_B,
   F.SYS_START_SUPPLY_FAIL] ++
  (List.range 3).flatMap fun i => [F.WARDEN_LEVEL_RAW_A i, F.WARDEN_LEVEL_RAW_B i]

/-- Reset of everything but what PD0, MRAM, OTP and the outside hold: the state of PD1 and all it feeds at a power-up (R601, Table
SUP-5), before any register that only the cause sets. The slots that the selections name become the active ones, whether or
not the boot that follows accepts what they hold (R52: SLOT and FW_SEL read ACTIVE after a reset, ACTIVE comes from boot; log row 111).
[DESIGN CHOICE (unsafe), log row 111] -/
def State.volatileReset (s : State) : State :=
  let r := State.reset
  let keep := fun (a : Nat) => (0x400D0000 ≤ a && a < 0x400E0000) || a == R.SYS_PAD_HOLD
  let base : State := { r with
    regs := r.regs.filter (fun e => !keep e.1)
    mem := s.mem.filter (fun e => 0x10000000 ≤ e.1 && e.1 < 0x11000000)
    ecc := s.ecc.filter (fun e => 0x10000000 ≤ e.1 && e.1 < 0x11000000)
    draws := s.draws, resp := s.resp, pins := s.pins, plinth := { s.plinth with dvfsTo := [], dvfsAt := [] }
    pending := s.pending
    wcmp := { r.wcmp with wc := (List.range 24).foldl (fun (m : SMap WcState) c =>
      m.modify c fun w => { w with input := (s.wcmp.wc.get c).input }) r.wcmp.wc }
    start := { r.start with pinLow := s.start.pinLow }
    sv := { r.sv with hash := s.sv.hash, key := s.sv.key, revoked := s.sv.revoked, strict := s.sv.strict
                      debugLock := s.sv.debugLock, arbFw := s.sv.arbFw, arbImg := s.sv.arbImg, arbApp := s.sv.arbApp
                      bootNo := s.sv.bootNo, logSeq := s.sv.logSeq, logSlot := s.sv.logSlot, replay := s.sv.replay } }
  let t := (s.regs.filter fun e => keep e.1).foldl (fun (t : State) (e : Nat × Word) => t.wr e.1 e.2) base
  let t := (keptFlds.foldl (fun (t : State) f => t.put f (s.get f)) t).svShow
  (t.put F.SYS_IMG_STATUS_ACTIVE (s.get F.SYS_IMG_SELECT_SLOT)).put F.SV_BOOT_ACTIVE_FW (s.get F.SV_BOOT_FW_SEL)

/-- PD1 goes off, and every domain with it; the pads are held (R543, R558, R560). -/
def State.pd1Off (s : State) : State :=
  let s := if s.pdOn 1 then (if s.pdOn 11 then (s.padHold 1).padHold 11 else s.padHold 1) else s
  (s.volatileReset.wr R.SYS_PD_STATUS (w32 (b2n s.alive))).wr R.SYS_RAILS 0

/-- The Plinth enters SLEEP. -/
def State.enterSleep (s : State) : State :=
  ((s.pd1Off).put F.PLINTH_STATUS_STATE 0).modPlinth fun p => { p with session := none, alarm := false, dawn := false }

/-- An activity is admitted (R553). -/
def State.plAdmit (s : State) : State := s.incSat F.PLINTH_ACT_CNT_ADMITTED
/-- A request is refused for want of energy (R553). -/
def State.plRefuse (s : State) : State := (s.set1 F.PLINTH_STICKY_REFUSED_LOW).incSat F.PLINTH_ACT_CNT_REFUSED
/-- An activity is aborted on BELOW_ABORT (R553): class 0 MEAS, 1 START, 2 XMIT. -/
def State.plAborted (s : State) (k : Nat) : State :=
  (s.put ⟨R.PLINTH_STICKY, 6 + k, 1⟩ 1).incSat F.PLINTH_ACT_CNT_ABORTED

/-- A powerline frame of a STORE session ends with the abort delimiter; PD10 and PD11 go off (R553). -/
def State.xmitAbort (s : State) : State :=
  let s := s.plcAbort
  (((s.put (pdCtrlF 10) 0).domainOff 10).put (pdCtrlF 11) 0).domainOff 11

/-- A STORE session ends at its next safe point: an MRAM write completes, then SLEEP (R553, R554). -/
def State.measEnd (s : State) : State := (if s.maintRuns Act.mramProgram then s.mramEnd else s).enterSleep

/-- Enters STORE (R555, R560): the session starts. [DEDUCED (unsafe), log row 83] -/
def State.enterStore (s : State) : State :=
  ((s.put F.PLINTH_STATUS_STATE 1).modPlinth fun p => { p with session := some p.cyc }).plAdmit

/-- The decision on a wake (R555). [DEDUCED (unsafe), log row 86] -/
def State.wakeDecide (s : State) : State :=
  if s.flag F.PLINTH_STATUS_VIN_OK && s.flag F.PLINTH_STATUS_START_OK then (s.put F.PLINTH_STATUS_STATE 2).plAdmit
  else if s.flag F.PLINTH_STATUS_MEAS_OK then s.enterStore
  else s.plRefuse

/-- A wake with its causes (R555). [DEDUCED (unsafe), log row 86] -/
def State.wakeTake (s : State) (causes : Nat) : State :=
  if causes = 0 then s
  else ((s.wr R.PLINTH_WAKE_CAUSE (w32 causes)).set1 F.PLINTH_STICKY_WAKE).wakeDecide

/-- A class flag with its hysteresis of 150 mV (R552). -/
def State.classFlag (s : State) (f : Fld) (th h : Rat) : State :=
  if th ≤ h then s.put f 1 else if h < th - 15 / 100 then s.put f 0 else s

/-- The index of the highest of four values, the lowest index where equal. -/
def argMax4 (v : List Rat) : Nat := (List.range 4).foldl (fun m k => if v.getD m 0 < v.getD k 0 then k else m) 0

end Sys2Proof.Machine
end

