-- ==== Sys2Proof/Machine/Power.lean ====
section
/-!
DEFINITION. Memory errors, rails, domains, operating points, pad hold and the Plinth: the commands (chapters 16 and 17).
-/

namespace Sys2Proof.Machine

/-! ### Memory errors and rails -/

/-- A core reads, as opposed to another initiator (R521). -/
def isCore (i : Initiator) : Bool := i == .hpa || i == .hpb

/-- ECC_UNCORRECTABLE (R521): two bits of the word at an address have flipped, and a reader finds it: the source is raised, the address
kept; a core takes an access fault, another reader gets 0. The word stays bad until it is written whole (log row 119).
[DEDUCED (unsafe), log row 119] -/
def execEccUncorrectable (mram : Bool) (addr : Nat) (reader : Initiator) (s : State) : Res :=
  if !s.pdOn 1 then .next s
  else
    let s := ({ s with ecc := s.ecc.set (eccHome addr) true }).eccRaise mram addr
    .next { s with resp := { words := [0#32], bytes := [], result := 0, fault := isCore reader } }

/-- The scrubber reads a word: every one of system SRAM; of MRAM the active FW and IMG slots, APP and the Vault (R524). -/
def State.scrubs (s : State) (mram : Bool) (a : Nat) : Bool :=
  if mram then
    let fw := 0x10000000 + 0x300000 * s.get F.SV_BOOT_ACTIVE_FW
    let im := 0x10600000 + 0x40000 * s.get F.SYS_IMG_STATUS_ACTIVE
    (fw ≤ a && a < fw + 0x300000) || (im ≤ a && a < im + 0x40000) || (0x10680000 ≤ a && a < 0x10E80000) ||
    (0x10FE0000 ≤ a && a < 0x10FF1000)
  else 0x20000000 ≤ a && a < 0x20400000

/-- SCRUB_PASS (R521, R524): a complete pass, with the single-bit errors it corrected or, in MRAM, found; each uncorrectable word that it
reads raises the source (Table CUR-3). -/
def execScrubPass (mram : Bool) (found : Nat) (s : State) : Res :=
  if !s.pdOn 1 then .next s
  else
    let c := if mram then F.SYS_ECC_MRAM_COR else F.SYS_ECC_SRAM_COR
    let s := (s.ecc.filter fun e => s.scrubs mram e.1).foldl (fun (s : State) (e : Nat × Bool) => s.eccRaise mram e.1) s
    .next ((s.set1 (if mram then F.SYS_ECC_MRAM_SCRUB_PASS else F.SYS_ECC_SRAM_SCRUB_PASS)).put c (satTo 16 (s.get c + found)))

/-- The rail flags (Table PWR-12): 0 VCORE, 1 VIO, 2 VANA, 3 VISO. -/
def railF (r : Nat) : Fld := if r = 3 then F.SYS_RAILS_VISO_OK else ⟨R.SYS_RAILS, r, 1⟩

/-- A rail returns to its window: a domain that waits for it goes toward on (R535). -/
def State.railBack (s : State) (r : Nat) : State :=
  let s := s.put (railF r) 1
  if r = 2 then s.pdPursue 8 else s

/-- A rail has left its window (R538): PWR_SUPPLY is raised, for VISO only while PD10 is on; the domain that needs it goes off
(R535). -/
def State.railOut (s : State) (r : Nat) : State :=
  let s := s.put (railF r) 0
  let s := if r = 3 ∧ !s.pdOn 10 then s else s.raise FS.PWR_SUPPLY
  if r = 2 then s.domainOff 8 else if r = 3 then s.domainOff 10 else s

/-- RAIL_OUT_OF_WINDOW (R538): a rail leaves its window for more than 1 µs, or comes back. -/
def execRailOutOfWindow (rail : Fin 4) (back : Bool) (s : State) : Res :=
  if !s.pdOn 1 then .next s else .next (if back then s.railBack rail else s.railOut rail)

/-! ### Domains (R535, R536) -/

/-- DOMAIN_ON_REQUEST (R536): a write of SYS_PD_CTRL that sets one bit. -/
def execDomainOnRequest (i : Initiator) (d : Fin 12) (s : State) : Res :=
  .next (s.pdWrite i (w32 (bitsPut (s.rd R.SYS_PD_CTRL).toNat d 1 1)))

/-- DOMAIN_OFF_REQUEST (R536): a write of SYS_PD_CTRL that clears one bit. -/
def execDomainOffRequest (i : Initiator) (d : Fin 12) (s : State) : Res :=
  .next (s.pdWrite i (w32 (bitsPut (s.rd R.SYS_PD_CTRL).toNat d 1 0)))

/-- DOMAIN_POWERED (R535, R537): a domain on its way reaches DOMAIN_ON; ok is the modem's self-test, for PD10. -/
def execDomainPowered (d : Fin 12) (ok : Bool) (s : State) : Res :=
  .next (if s.flag (pdMoveF d) then s.domainUp d ok else s)

/-- A write of SYS_PAD_RELEASE (R544). -/
def State.padRelease (s : State) (v : Word) : State :=
  s.forEach (maskIdx 32 v.toNat) fun s d =>
    if (d = 1 ∨ d = 11) ∧ s.pdOn d ∧ s.flag (padHoldF d) then s.put (padHoldF d) 0 else s.cfgReject .sysPower

/-- PAD_RELEASE (R544). -/
def execPadRelease (_i : Initiator) (v : Word) (s : State) : Res := .next (s.padRelease v)

/-- A write of SYS_OP (R539, R542): each field on its own. -/
def State.opWriteAll (s : State) (v : Word) : State :=
  s.forEach [2, 3, 4, 5] fun s d => s.opWrite d (bitsOf v.toNat (4 * (d - 2)) 2)

/-- OP_POINT_WRITE (R539). -/
def execOpPointWrite (_i : Initiator) (v : Word) (s : State) : Res := .next (s.opWriteAll v)

/-- DVFS_STEP_DONE (R540, R541): VOK of a domain, PD2 to PD5. -/
def execDvfsStepDone (k : Fin 4) (s : State) : Res :=
  .next (if s.flag (stepF (k + 2)) then s.dvfsVok (k + 2) else s)

/-- DVFS_VOK_TIMEOUT (R541): no VOK 50 µs after the step's start: the domain stays at the lower frequency. -/
def execDvfsVokTimeout (k : Fin 4) (s : State) : Res :=
  .next (if s.flag (stepF (k + 2)) ∧ s.plinth.dvfsAt.get (k + 2) + 40000 ≤ s.mono then
    (s.dvfsDrop (k + 2)).stickyRaise F.SYS_PWR_STICKY_VOK_FAIL FS.PWR_SUPPLY
  else s)

/-! ### The Plinth -/

/-- PLINTH_COLD_START (R547): the Plinth's life starts; every PLINTH register takes its reset value, COLD_START sets. -/
def execPlinthColdStart (s : State) : Res :=
  if s.alive then .next s
  else
    let s := { (s.resetRange 0x400D0000 0x400E0000) with plinth := State.reset.plinth }
    .next (((s.wr R.SYS_PAD_HOLD 0).put (pdOnF 0) 1).set1 F.PLINTH_STICKY_COLD_START)

/-- PLINTH_DEATH (R547): the Plinth's life ends, and all it carries. -/
def execPlinthDeath (s : State) : Res :=
  if s.alive then .next ((s.enterSleep).put (pdOnF 0) 0) else .next s

/-- VDRV rises above the rising threshold, or is found below it (Table PWR-12, R312, R551). [DEDUCED (unsafe), log row 50] -/
def State.vdrvSeen (s : State) (ok : Bool) : State :=
  if ok == s.flag F.SYS_RAILS_VDRV_OK || !s.pdOn 1 then s
  else
    let s := s.put F.SYS_RAILS_VDRV_OK (b2n ok)
    let s := if s.pdOn 9 then
        { (s.put F.DRV_STATUS_VDRV_OK (b2n ok)) with drive := { s.drive with vdrvFrom := if ok then s.mono else s.drive.vdrvFrom } }
      else s
    if ok then s.pdPursue 9 else s

/-- The flags of PLINTH_STATUS from the voltages found (R551, R552, Table PWR-14). -/
def State.energyFlags (s : State) (h : Rat) (vin : List Rat) (harvesting : Bool) : State :=
  let meas := s.flag F.PLINTH_STATUS_MEAS_OK
  let s := ((s.classFlag F.PLINTH_STATUS_MEAS_OK 3 h).classFlag F.PLINTH_STATUS_START_OK (42 / 10) h).classFlag
    F.PLINTH_STATUS_XMIT_OK (48 / 10) h
  let s := if h < 26 / 10 then s.put F.PLINTH_STATUS_BELOW_ABORT 1
    else if 275 / 100 < h then s.put F.PLINTH_STATUS_BELOW_ABORT 0 else s
  let m := argMax4 vin
  let s := (s.put F.PLINTH_STATUS_VIN_SEL m).put F.PLINTH_STATUS_VIN_OK (b2n (decide (85 / 10 ≤ vin.getD m 0)))
  let s := (s.put F.PLINTH_STATUS_HARVESTING (b2n harvesting)).put F.PLINTH_STATUS_CHARGING
    (b2n (s.flag F.SYS_RAILS_VDRV_OK && decide (h < 5)))
  s.modPlinth fun p =>
    { p with hstore := (h * 40).floor.toNat, dawn := p.dawn || (s.plState == 0 && !meas && s.flag F.PLINTH_STATUS_MEAS_OK) }

/-- BELOW_ABORT has set while activities run (R553, R561): a frame first (one that a START found under way too), then the session;
a start. -/
def State.energyAbort (s : State) : State :=
  let s := if (s.plState = 1 ∨ s.plState = 2) ∧ s.plcBusy then (s.xmitAbort).plAborted 2 else s
  if s.plState = 1 then (s.measEnd).plAborted 0
  else if s.plState = 2 then (s.enterSleep).plAborted 1
  else s

/-- ENERGY_FLAG_UPDATE (R551 to R553): HSTORE, the four VIN, whether the harvester draws, VDRV above its rising threshold. -/
def execEnergyFlagUpdate (hstore vin0 vin1 vin2 vin3 : Rat) (harvesting vdrv : Bool) (s : State) : Res :=
  if s.alive then
    let was := s.flag F.PLINTH_STATUS_BELOW_ABORT
    let s := (s.vdrvSeen vdrv).energyFlags hstore [vin0, vin1, vin2, vin3] harvesting
    .next (if !was && s.flag F.PLINTH_STATUS_BELOW_ABORT then s.energyAbort else s)
  else .next s

/-- SESSION_TIMEOUT (R554): a STORE session has lasted PLINTH_SESSION milliseconds. -/
def execSessionTimeout (s : State) : Res :=
  if s.plState = 1 ∧ s.plinth.session.isSome then .next ((s.measEnd).set1 F.PLINTH_STICKY_ABORTED_TIME) else .next s

/-- RTC_SECOND (R549): a trimmed second completes. -/
def execRtcSecond (s : State) : Res :=
  if s.alive then
    let p := s.plinth
    let e := (p.secFrom + s.secLen) % 2 ^ 47
    let sec := s.rd R.PLINTH_RTC_SEC + 1#32
    .next ((s.wr R.PLINTH_RTC_SEC sec).modPlinth fun p =>
      { p with cyc := e, secFrom := e, secAcc := (p.secAcc + s.getS F.PLINTH_RTC_TRIM_TRIM) % 32
               alarm := p.alarm || (s.plState == 0 && sec == s.rd R.PLINTH_ALARM) })
  else .next s

/-- A read of PLINTH_CYC_LO (R549): PLINTH_CYC_HI latches. [DESIGN CHOICE (safe), log row 88] -/
def State.cycRead (s : State) : State × Word :=
  let s := s.cycAdvance
  (s.wr R.PLINTH_CYC_HI (w32 (s.plinth.cyc / 2 ^ 32 % 2 ^ 15)), w32 s.plinth.cyc)

/-- PLINTH_CYC_READ (R549). -/
def execPlinthCycRead (_i : Initiator) (s : State) : Res :=
  let r := s.cycRead
  .next (r.1.answer r.2)

/-- The wake sources met at a refresh (Table PWR-9), those enabled: bit 0 RTC, 2 DAWN, 3 VIN. -/
def State.wakeCauses (s : State) : Nat :=
  let en := (s.rd R.PLINTH_WAKE_EN).toNat
  b2n (s.plinth.alarm && bitOf en 0) + 4 * b2n (s.plinth.dawn && bitOf en 2) +
  8 * b2n (s.flag F.PLINTH_STATUS_VIN_OK && s.flag F.PLINTH_STATUS_START_OK && bitOf en 3)

/-- PLINTH_WAKE (R555): a reference refresh in SLEEP evaluates the sources together. -/
def execPlinthWake (s : State) : Res :=
  if s.alive ∧ s.plState = 0 then
    .next ((s.modPlinth fun p => { p with alarm := false, dawn := false }).wakeTake s.wakeCauses)
  else .next s

/-- A TWW address matches (R557). [DEDUCED (unsafe), log row 87] -/
def State.twwMatch (s : State) (addr : Nat) : Bool :=
  addr == s.get F.PLINTH_TWW_ADDR_ADDR || (addr == 0 && s.flag F.PLINTH_TWW_ADDR_GENERAL)

/-- A TWW wake in SLEEP would be admitted (R555, R557). -/
def State.twwAdmits (s : State) : Bool :=
  bitOf (s.rd R.PLINTH_WAKE_EN).toNat 1 &&
  ((s.flag F.PLINTH_STATUS_VIN_OK && s.flag F.PLINTH_STATUS_START_OK) || s.flag F.PLINTH_STATUS_MEAS_OK)

/-- TWW_WAKE_FRAME (R556, R557): the answer's result is 1 where the frame is acknowledged. -/
def execTwwWakeFrame (addr : Fin 128) (s : State) : Res :=
  let ack := s.alive && s.twwMatch addr && (s.plState != 0 || s.twwAdmits)
  let s := { s with resp := { words := [], bytes := [], result := b2n ack, fault := false } }
  if !ack then .next s
  else if s.plState = 0 then .next (s.wakeTake 2)
  else .next ((s.wr R.PLINTH_WAKE_CAUSE 2#32).set1 F.PLINTH_STICKY_WAKE)

/-- A write of PLINTH_SLEEP is accepted (R558). [DEDUCED (unsafe), log row 87] -/
def State.sleepOk (s : State) (i : Initiator) (v : Word) : Bool :=
  i == .hpa && bitsOf v.toNat 16 16 == 0x5E1A && (s.plState == 1 || s.plState == 3) && s.pwmAllStopped &&
  s.rd R.DIAG_MAINT_RUN == 0#32 &&
  !(match s.sv.stage with | some g => g.write.isSome | none => false) && s.conn != 2 && s.conn != 3

/-- A write of PLINTH_SLEEP (R558). [DEDUCED (unsafe), log row 87] -/
def State.sleepWrite (s : State) (i : Initiator) (v : Word) : State :=
  if s.sleepOk i v then s.enterSleep else s.cfgReject .plinth

/-- PLINTH_SLEEP (R558). -/
def execPlinthSleep (i : Initiator) (v : Word) (s : State) : Res := .next (s.sleepWrite i v)

/-- A write of START (R553, Table PWR-13): a request from STORE. -/
def State.startRequest (s : State) : State :=
  if s.plState = 1 then
    if s.flag F.PLINTH_STATUS_START_OK then
      ((s.put F.PLINTH_STATUS_STATE 2).modPlinth fun p => { p with session := none }).plAdmit
    else s.plRefuse
  else s

/-- PLINTH_START_REQUEST (R553). -/
def execPlinthStartRequest (_i : Initiator) (s : State) : Res := .next s.startRequest

/-- BUCK_B_GOOD (R547, R601): START, or a cold start, reaches RUN; the store supply gives way. -/
def execBuckBGood (s : State) : Res :=
  if s.alive ∧ (s.plState = 2 ∨ (s.plState = 0 ∧ s.plinth.cold)) then
    let s := s.put F.PLINTH_STATUS_STATE 3
    .next (if s.pdOn 1 then (s.put F.SYS_RAILS_BUCKA_ON 1).put F.SYS_RAILS_STORE_SUPPLY 0 else s)
  else .next s

/-- POWER_FAIL_WARNING (R559, R434): in RUN the highest VIN falls below VPF. -/
def execPowerFailWarning (s : State) : Res :=
  if s.plState = 3 ∧ !s.flag F.PLINTH_STATUS_PF_ACTIVE then
    .next (((s.put F.PLINTH_STATUS_PF_ACTIVE 1).set1 F.PLINTH_STICKY_PF_WARN).meterWarn)
  else .next s

/-- POWER_FAIL_RESTORE (R559, R435): the highest VIN has stayed above VPF for 1 ms. -/
def execPowerFailRestore (s : State) : Res :=
  if s.flag F.PLINTH_STATUS_PF_ACTIVE then
    .next (((s.put F.PLINTH_STATUS_PF_ACTIVE 0).set1 F.PLINTH_STICKY_PF_RESTORE).meterRestore)
  else .next s

/-- Buck A has stopped with MEAS_OK (R560): what STORE does not permit goes off, PD2 steps to OP-L, the session counts.
[DEDUCED (unsafe), log row 86] -/
def State.buckToStore (s : State) : State :=
  let s := (s.put F.SYS_RAILS_BUCKA_ON 0).put F.SYS_RAILS_STORE_SUPPLY 1
  let s := s.forEach ((List.range 12).filter fun d => !pdStore d) fun s d => (s.put (pdCtrlF d) 0).domainOff d
  (((s.padHold 1).padHold 11).enterStore).pd2Low

/-- BUCK_A_STOP (R560): buck A stops at 8.0 V falling. -/
def execBuckAStop (s : State) : Res :=
  if s.plState = 2 ∨ s.plState = 3 then
    .next (if s.flag F.PLINTH_STATUS_MEAS_OK then s.buckToStore else s.enterSleep)
  else .next s

end Sys2Proof.Machine
end

