-- ==== Sys2Proof/Machine/Pwm.lean ====
section
/-!
DEFINITION. PWM generation (chapter 08): boundaries, edges, start, stop, commit, FORCE, the pulse counters, and the
writes of the unit's registers.
-/

namespace Sys2Proof.Machine

/-- The shape of the period that starts at b, from the phases before and after the transfer (R270). -/
def State.shapePeriod (s : State) (u b old : Nat) : State :=
  let per := s.get (F.PWM_PERIOD u)
  let new := s.get (F.PWM_PHASE u)
  let sh := periodShape (if new = old then 0 else phaseStep old new per (s.minPeriod u)) per
  s.modPwm u fun p => { p with start := b, n0 := sh.1, hold := sh.2.1, len := sh.2.2 }

/-- A boundary of a running unit at b: transfer, dither, shape and levels (Table PWM-3, stages 1 to 5). -/
def State.runBoundary (s : State) (u b : Nat) : State :=
  let old := s.get (F.PWM_PHASE u)
  let s := ((s.boundaryTransfer u b).enterHeld u).takeSwaps u (fun w => w.t + guardTicks ≤ b)
  ((s.incWrap (F.PWM_STATUS_DITHER_IDX u)).shapePeriod u b old).formLevels u

/-- PWM_PERIOD_BOUNDARY (R268 to R283, R294): the counter reaches 0. A fenced unit counts on and transfers nothing. -/
def execPwmPeriodBoundary (u : Fin 14) (s : State) : Res :=
  let p := s.pwm.get u
  if p.counting && p.next ≤ s.epoch then
    if s.pwmState u = 1 then .next ((s.runBoundary u p.next).periodStart u p.next)
    else if s.pwmState u = 3 then
      let t := ((s.enterHeld u).incWrap (F.PWM_STATUS_DITHER_IDX u)).modPwm u
        fun q => { q with start := p.next, n0 := 0, hold := 0, len := s.get (F.PWM_PERIOD u) }
      .next (t.periodStart u p.next)
    else .next s
  else .next s

/-- PWM_EDGE_ISSUE (R274): a tick of the period at which a level changes. -/
def execPwmEdgeIssue (u : Fin 14) (s : State) : Res :=
  let p := s.pwm.get u
  if p.counting && s.pwmState u == 1 && s.epoch < p.next then .next (s.issueEdges u s.epoch) else .next s

/-- A write to PWM_START (R290, R613). -/
def State.pwmStartWrite (s : State) (i : Initiator) (v : Word) : State :=
  if i = .hpa ∧ !s.inFoyer then s.forEach (maskIdx 14 v.toNat) fun s u => s.startUnit u else s.cfgReject .pwmGlobal

/-- PWM_START (R269, R290). -/
def execPwmStart (i : Initiator) (v : Word) (s : State) : Res := .next (s.pwmStartWrite i v)

/-- A write to PWM_STOP (R290). [DEDUCED (unsafe), log row 37] -/
def State.pwmStopWrite (s : State) (i : Initiator) (v : Word) : State :=
  if i = .hpa then s.forEach (maskIdx 14 v.toNat) fun s u => s.stopAt u s.epoch else s.cfgReject .pwmGlobal

/-- PWM_STOP (R289, R290). -/
def execPwmStop (i : Initiator) (v : Word) (s : State) : Res := .next (s.pwmStopWrite i v)

/-- A write to PWM_COMMIT (R276). -/
def State.pwmCommitWrite (s : State) (v : Word) : State := s.forEach (maskIdx 14 v.toNat) fun s u => s.commitUnit u

/-- PWM_COMMIT (R213, R276, R277, R280). -/
def execPwmCommit (_i : Initiator) (v : Word) (s : State) : Res := .next (s.pwmCommitWrite v)

/-- A write to PWM_FORCE (R297, R298). [DEDUCED (unsafe), log row 47] -/
def State.pwmForceWrite (s : State) (i : Initiator) (u : Nat) (v : Word) : State :=
  let a := bitsOf v.toNat 0 2
  let b := bitsOf v.toNat 2 2
  if i = .hpa ∧ s.flag F.WARDEN_STATUS_PERMIT ∧ 8 ≤ u ∧ a ≠ 3 ∧ b ≠ 3 then
    let s := (s.put (F.PWM_FORCE_FORCE_A u) a).put (F.PWM_FORCE_FORCE_B u) b
    if s.forceActs u then s.issueEdges u s.epoch else s
  else s.cfgReject (.pwm u)

/-- PWM_FORCE_WRITE (R297, R298). -/
def execPwmForceWrite (i : Initiator) (u : Fin 14) (v : Word) (s : State) : Res := .next (s.pwmForceWrite i u v)

/-- PWM_CNT_CLR (R286). -/
def execPwmCntClr (_i : Initiator) (u : Fin 14) (s : State) : Res := .next (s.wr (R.PWM_PULSE_CNT u) 0)

/-! ### Writes of a unit's registers -/

/-- A write of SWAP (bit 1) or INVERT (bit 0): LIVE on PU0 to PU7; on a lane unit writing 1 is refused (R288). -/
def State.swapWrite (s : State) (u bit : Nat) (v : Nat) : State :=
  if u < 8 then
    s.liveGate (.pwm u) ⟨R.PWM_CTRL u, bit, 1⟩ v fun s =>
      s.modPwm u fun p => { p with swaps := p.swaps ++ [⟨bit, v, s.epoch⟩] }
  else if v = 1 then s.cfgReject (.pwm u) else s

/-- A write of OWNER (R290, R292). -/
def State.ownerWrite (s : State) (i : Initiator) (u v : Nat) : State :=
  if i ≠ .hpa then s.cfgReject .pwmGlobal
  else if 2 ≤ v then s.cfgReject (.pwm u)
  else s.put (F.PWM_CTRL_OWNER u) v

/-- A write to PWM_CTRL (Table PWM-5). -/
def State.pwmCtrlWrite (s : State) (i : Initiator) (u : Nat) (v : Word) : State :=
  let s := if bitOf v.toNat 8 then s.wr (R.PWM_PULSE_CNT u) 0 else s
  let s := s.ownerWrite i u (bitsOf v.toNat 4 2)
  let m := bitsOf v.toNat 2 1
  let s := s.quietGate (.pwm u) (s.pwmState u != 0) (F.PWM_CTRL_MODE u) m fun s => s.put (F.PWM_CTRL_MODE u) m
  (s.swapWrite u 1 (bitsOf v.toNat 1 1)).swapWrite u 0 (bitsOf v.toNat 0 1)

/-- A write to PWM_PERIOD (R213, R282): below 8 or above 2^31 it is refused. [DEDUCED (unsafe), log row 22] -/
def State.pwmPeriodWrite (s : State) (u : Nat) (v : Word) : State :=
  s.ownedGate u fun s =>
    s.liveGate (.pwm u) (F.PWM_PERIOD u) v.toNat fun s =>
      if v.toNat < 8 ∨ 2 ^ 31 < v.toNat then s.cfgReject (.pwm u) else s.shadowWrite u (F.PWM_PERIOD u) v.toNat

/-- A write to PWM_CMPA, PWM_CMPB or PWM_PHASE (LIVE). -/
def State.pwmShadowWrite (s : State) (u : Nat) (f : Fld) (v : Nat) : State :=
  s.ownedGate u fun s => s.liveGate (.pwm u) f v fun s => s.shadowWrite u f v

/-- A write to PWM_FRAC (LIVE; Table PWM-6). -/
def State.pwmFracWrite (s : State) (u : Nat) (v : Word) : State :=
  s.ownedGate u fun s =>
    let f := fun (s : State) (f : Fld) (v : Nat) => s.liveGate (.pwm u) f v fun s => s.shadowWrite u f v
    f (f s (F.PWM_FRAC_CMPB_FRAC u) (bitsOf v.toNat 8 4)) (F.PWM_FRAC_CMPA_FRAC u) (bitsOf v.toNat 0 4)

end Sys2Proof.Machine
end

