-- ==== Sys2Proof/Machine/Sched.lean ====
section
/-!
DEFINITION. The scheduled-action table, SCHED0 to SCHED31 (R103 to R105, Table EPOCH-3).
-/

namespace Sys2Proof.Machine

/-- Who may arm an action code (Table EPOCH-3): 0 any initiator, 1 HPA and HPB, 2 HPA only; none: not in the table. -/
def schedClass (a : Nat) : Option Nat :=
  if a = 2 ∨ a = 3 ∨ a = 6 then some 2
  else if a = 4 ∨ a = 5 ∨ a = 7 then some 1
  else if a ≤ 10 then some 0
  else none

/-- An initiator may arm an action code (R103). -/
def mayArm (i : Initiator) (a : Nat) : Bool :=
  match schedClass a with
  | some 0 => true
  | some 1 => i == .hpa || i == .hpb
  | some _ => i == .hpa
  | none => false

/-- ARM of an entry that is not ARMED (R103 to R105): refused with CFG_REJECT, late, or armed. [DEDUCED (unsafe), log row 36] -/
def State.schedArm (s : State) (i : Initiator) (e : Nat) : State :=
  let rep := (s.rd (R.SCHED_REPEAT e)).toNat
  if !mayArm i (s.schedAct e) || (1 ≤ rep && rep ≤ 799) then s.cfgReject .epoch
  else if s.schedTime e < s.epoch + 400 then
    (s.set1 (F.SCHED_CTRL_LATE e)).stickyRaise F.EPOCH_STICKY_SCHED_LATE FS.EPOCH
  else
    let t := s.put (F.SCHED_CTRL_STATE e) 1
    { t with ep := { t.ep with
        unlimited := t.ep.unlimited.set e (s.get (F.SCHED_COUNT_COUNT e) == 0)
        late := t.ep.late.set e false
        byHpb := t.ep.byHpb.set e (i == .hpb) } }

/-- DISARM of an ARMED entry (R105): IDLE, or, in the last 400 ticks before TIME, the launch stands and IDLE follows it. -/
def State.schedDisarm (s : State) (e : Nat) : State :=
  if s.epoch + 400 ≤ s.schedTime e then s.put (F.SCHED_CTRL_STATE e) 0
  else { s with ep := { s.ep with late := s.ep.late.set e true } }

/-- A write of SCHED_CTRL (R105): LATE is W1C; ARM and DISARM each act on the state before the write. -/
def State.schedCtrl (s : State) (i : Initiator) (e : Nat) (v : Word) : State :=
  let armed := s.schedState e == 1
  let s := if bitOf v.toNat 5 then s.clr (F.SCHED_CTRL_LATE e) else s
  if armed then (if bitOf v.toNat 1 then s.schedDisarm e else s)
  else if bitOf v.toNat 0 then s.schedArm i e
  else s

/-- SCHED_ARM (R103 to R105): a write of ARM alone. -/
def execSchedArm (i : Initiator) (e : Fin 32) (s : State) : Res := .next (s.schedCtrl i e 1#32)

/-- SCHED_DISARM (R105): a write of DISARM alone. -/
def execSchedDisarm (i : Initiator) (e : Fin 32) (s : State) : Res := .next (s.schedCtrl i e 2#32)

/-- An entry launches now with an action code: it is ARMED, its TIME has come, and every lower entry that shares its tick
has launched (R86, R105). [DEDUCED (unsafe), log row 36] -/
def State.schedDue (s : State) (e a : Nat) : Bool :=
  s.schedState e == 1 && s.schedAct e == a && decide (s.schedTime e ≤ s.epoch) &&
  (List.range e).all fun f => !(s.schedState f == 1 && s.schedTime f == s.schedTime e)

/-- What follows a launch (R105). [DEDUCED (unsafe), log row 36] -/
def State.schedAfter (s : State) (e : Nat) : State :=
  let rep := (s.rd (R.SCHED_REPEAT e)).toNat
  let again := fun (s : State) =>
    let t := s.schedTime e + rep
    (s.wr (R.SCHED_TIME_LO e) (w32 t)).wr (R.SCHED_TIME_HI e) (w32 (t / 2 ^ 32))
  if s.ep.late.get e then
    { (s.put (F.SCHED_CTRL_STATE e) 0) with ep := { s.ep with late := s.ep.late.set e false } }
  else if rep = 0 then s.put (F.SCHED_CTRL_STATE e) 2
  else if s.ep.unlimited.get e then again s
  else
    let n := s.get (F.SCHED_COUNT_COUNT e) - 1
    let s := s.put (F.SCHED_COUNT_COUNT e) n
    if n = 0 then s.put (F.SCHED_CTRL_STATE e) 2 else again s

/-- A launch: the action, then what follows it. [DEDUCED (unsafe), log row 36] -/
def State.schedLaunch (s : State) (e a : Nat) (k : State → State) : State :=
  if s.schedDue e a then (k s).schedAfter e else s

/-- SCHED_NONE (R103): a marker or timer. -/
def execSchedNone (e : Fin 32) (s : State) : Res := .next (s.schedLaunch e 0 id)

/-- SCHED_WINDOW (R103, R121): triggers every group whose source names the entry. -/
def execSchedWindow (e : Fin 32) (s : State) : Res :=
  .next (s.schedLaunch e 1 fun s => s.trigger 5 e (s.schedTime e))

/-- The units that the armed PWM_STOP entries of one tick name: the stop prevails (R105). [DEDUCED (unsafe), log row 37] -/
def State.schedStops (s : State) (t : Nat) : Nat :=
  (List.range 32).foldl (fun m f =>
    if s.schedState f == 1 && s.schedAct f == 3 && s.schedTime f == t then m ||| s.schedTarget f else m) 0

/-- SCHED_PWM_START (R103, R105, R290). -/
def execSchedPwmStart (e : Fin 32) (s : State) : Res :=
  let ks := (maskIdx 14 (s.schedTarget e)).filter fun u =>
    !bitOf (s.schedStops (s.schedTime e)) u && s.ep.stopAt.get u != s.schedTime e + 1
  .next (s.schedLaunch e 2 fun s => s.forEach ks fun s u => s.startUnit u)

/-- SCHED_PWM_STOP (R103, R289). -/
def execSchedPwmStop (e : Fin 32) (s : State) : Res :=
  .next (s.schedLaunch e 3 fun s => s.forEach (maskIdx 14 (s.schedTarget e)) fun s u => s.stopAt u (s.schedTime e))

/-- SCHED_PWM_COMMIT (R103, R213, R276): as a write of PWM_COMMIT. -/
def execSchedPwmCommit (e : Fin 32) (s : State) : Res :=
  .next (s.schedLaunch e 4 fun s => s.forEach (maskIdx 14 (s.schedTarget e)) fun s u => s.commitUnit u)

/-- SCHED_METER_LATCH (R103, R422). -/
def execSchedMeterLatch (e : Fin 32) (s : State) : Res := .next (s.schedLaunch e 5 fun s => s.meterLatchAt (s.schedTime e))

/-- The command of a RELAY_CMD (R396, R399): PARAM 0 opens by any TARGET; PARAM 1 asks for a close, which needs TARGET 3. No
other PARAM is a command. [DEDUCED (unsafe), log row 36] -/
def State.relayCmd (s : State) (param target : Nat) : State :=
  if param = 0 then s.openRequest .hpa
  else if param = 1 then s.closeRequest true (bitsOf target 0 2 == 3)
  else s

/-- SCHED_RELAY_CMD (R103, R396, R399): only HPA arms it. -/
def execSchedRelayCmd (e : Fin 32) (s : State) : Res :=
  .next (s.schedLaunch e 6 fun s => s.relayCmd (s.schedParam e) (s.schedTarget e))

/-- SCHED_MAINT_START (R103, R456, R457): a request in the name of the pair that armed the entry. -/
def execSchedMaintStart (e : Fin 32) (s : State) : Res :=
  .next (s.schedLaunch e 7 fun s => s.maintArrive (s.schedTime e) (s.schedRequester e) (s.schedParam e))

/-- SCHED_GPIO_SET (R103, R105): drives the outputs named in TARGET to the levels of PARAM. -/
def execSchedGpioSet (e : Fin 32) (s : State) : Res :=
  .next (s.schedLaunch e 8 fun s => s.forEach (maskIdx 8 (s.schedTarget e)) fun s k =>
    s.put ⟨R.SYS_GPIO_OUT, k, 1⟩ (b2n (bitOf (s.schedParam e) k)))

/-- SCHED_IRQ (R103, Table HOK-5): source 1 of the pairs named is pending until it is acknowledged. -/
def execSchedIrq (e : Fin 32) (s : State) : Res :=
  .next (s.schedLaunch e 9 fun s => s.forEach (maskIdx 2 (s.schedTarget e)) fun s q => s.set1 (F.HIC_SRC_PENDING q 1))

/-- SCHED_STREAM_MARK (R103, R140): TARGET names PS0 to PS15, PARAM [9:0] GS0 to GS9. -/
def execSchedStreamMark (e : Fin 32) (s : State) : Res :=
  let ks := maskIdx 16 (s.schedTarget e) ++ (maskIdx 10 (s.schedParam e)).map (· + 16)
  .next (s.schedLaunch e 10 fun s => s.forEach ks fun s k =>
    { s with sens := { s.sens with ch := s.sens.ch.modify k fun c => { c with marks := c.marks ++ [s.schedTime e] } } })

end Sys2Proof.Machine
end

