-- ==== Sys2Proof/Machine/WardenOps.lean ====
section
/-!
DEFINITION. The Warden's shared operations: levels, demand, the reaction, faults, the permit, the restart (chapter 15).
-/

namespace Sys2Proof.Machine

/-- Changes the Warden's hidden state. -/
def State.modWarden (s : State) (f : WardenState → WardenState) : State := { s with warden := f s.warden }

/-- The key of a channel. -/
def wdKey (i : Nat) (b : Bool) : Nat := 2 * i + b2n b

/-- A channel's raw level. -/
def wdRawF (i : Nat) (b : Bool) : Fld := if b then F.WARDEN_LEVEL_RAW_B i else F.WARDEN_LEVEL_RAW_A i

/-- A channel's filtered level. -/
def wdFiltF (i : Nat) (b : Bool) : Fld := if b then F.WARDEN_LEVEL_FILT_B i else F.WARDEN_LEVEL_FILT_A i

/-- An input is used (R483). -/
def State.wdUsed (s : State) (i : Nat) : Bool := s.get (F.WARDEN_CFG_USE i) != 0

/-- Changes a channel. -/
def State.modWdCh (s : State) (i : Nat) (b : Bool) (f : WdChannel → WdChannel) : State :=
  s.modWarden fun w => { w with ch := w.ch.modify (wdKey i b) f }

/-- A channel of SI0 or SI1 is at a demand level (R489): high is non-demand, but on B of an antivalent input. -/
def State.wdDemandCh (s : State) (i : Nat) (b : Bool) : Bool :=
  let high := s.flag (wdFiltF i b)
  if b && s.get (F.WARDEN_CFG_USE i) == 2 then high else !high

/-- An input is at a demand level: either channel is (R489). -/
def State.wdDemand (s : State) (i : Nat) : Bool := s.wdUsed i && (s.wdDemandCh i false || s.wdDemandCh i true)

/-- An input is in a fault state (R491, Table WDN-9). -/
def State.wdFaulted (s : State) (i : Nat) : Bool := 3 ≤ s.get (F.WARDEN_LEVEL_STATE i)

/-- DEMAND_NOW of an input. -/
def wdNowF (i : Nat) : Fld := ⟨R.WARDEN_STATUS, i, 1⟩

/-! ### The reaction (R492, Table WDN-3) -/

/-- The Warden reaction is commanded now. -/
def State.wdReact (s : State) : State :=
  if s.flag F.WARDEN_STATUS_REACTION then s
  else
    let s := (s.put F.WARDEN_STATUS_REACTION 1).wr R.WARDEN_REACT_TICK s.now32
    let s := s.hbHoldOff
    let s := s.forEach (List.range 6) fun s l => s.laneTrip l 1
    let s := s.forEach (List.range 14) State.stopUnit
    ((s.relayLockout).permitEnd).noteHolds

/-- A demand is accepted on SI0 or SI1 (R489, R492, R493). [DEDUCED (unsafe), log row 69] -/
def State.wdAccept (s : State) (i : Nat) : State :=
  let s := (s.put ⟨R.WARDEN_STICKY, 4 + i, 1⟩ 1).wr (R.WARDEN_DEMAND_TICK i) s.now32
  (s.raise FS.WARDEN_DEMAND).wdReact

/-- The levels of SI0 or SI1 have changed: DEMAND_NOW and STATE follow, and a demand that begins is accepted (R489).
[DEDUCED (unsafe), log row 69] -/
def State.wdEval (s : State) (i : Nat) : State :=
  if !s.wdUsed i then s
  else
    let d := s.wdDemand i
    let old := s.flag (wdNowF i)
    let s := s.put (wdNowF i) (b2n d)
    let s := if s.wdFaulted i then s else s.put (F.WARDEN_LEVEL_STATE i) (if d then 2 else 1)
    if d && !old then s.wdAccept i else s

/-- A discrepancy (code 3) or a test-pulse fault (code 4) of an input (R491). [DEDUCED (unsafe), log row 69] -/
def State.wdFault (s : State) (i code : Nat) : State :=
  let s := s.put ⟨R.WARDEN_STICKY, (if code = 3 then 8 else 12) + i, 1⟩ 1
  if s.wdFaulted i then s else (s.put (F.WARDEN_LEVEL_STATE i) code).raise FS.WARDEN_FAULT

/-! ### Filters (R486, R487) -/

/-- A channel's filtered level is held by a pulse window of its output. -/
def State.wdInWindow (s : State) (i : Nat) (b : Bool) : Bool :=
  i < 2 && s.flag (F.WARDEN_CFG_TEST_PULSE i) && (s.warden.tp.get (b2n b)).win

/-- The raw level of a channel is now this. -/
def State.wdRaw (s : State) (i : Nat) (b level : Bool) : State :=
  if s.flag (wdRawF i b) == level then s
  else
    let s := s.put (wdRawF i b) (b2n level)
    let same := s.flag (wdFiltF i b) == level
    s.modWdCh i b fun c => { c with rawAt := s.mono, since := if same then none else some s.mono }

/-- The raw level of a channel becomes its filtered level (R486, R489, R498). -/
def State.wdFilt (s : State) (i : Nat) (b : Bool) : State :=
  let level := s.flag (wdRawF i b)
  let s := (s.put (wdFiltF i b) (b2n level)).modWdCh i b fun c => { c with since := none, filtAt := s.mono }
  if i < 2 then s.wdEval i
  else s.modRelay fun r => { r with fbOpen := r.fbOpen.set (b2n b) (if level then some s.mono else none) }

/-- A channel's filter count has run out (R486). -/
def State.wdFilterDue (s : State) (i : Nat) (b : Bool) : Bool :=
  s.wdUsed i && !s.wdInWindow i b &&
  match (s.warden.ch.get (wdKey i b)).since with
  | some t => decide (t + s.get (F.WARDEN_CFG_FILTER i) * 80000 ≤ s.mono)
  | none => false

/-! ### Discrepancies (R490, R499) -/

/-- DISCREP in ticks. -/
def State.wdDiscrepTicks (s : State) (i : Nat) : Nat := s.get (F.WARDEN_CFG_DISCREP i) * 800000

/-- SI0 or SI1 has been inconsistent for DISCREP (R490). -/
def State.wdInconsistent (s : State) (i : Nat) : Bool :=
  let t := fun b => (s.warden.ch.get (wdKey i b)).filtAt
  s.wdUsed i && s.wdDemandCh i false != s.wdDemandCh i true &&
  decide (max (max (t false) (t true)) s.warden.from_ + s.wdDiscrepTicks i ≤ s.mono)

/-- A channel of SI2 has differed from what its relay's command expects for DISCREP, outside a suspension (R499). -/
def State.wdRelayWrong (s : State) (k : Nat) : Bool :=
  let b := k == 1
  let on := s.flag (relayCmdF k)
  let cmd := s.relay.cmdAt.get k
  let susp := if cmd = 0 then 0
    else cmd + ((if on then s.get F.RELAY_CFG_PULLIN else s.get F.RELAY_CFG_REL_MAX) + 20) * 800000
  s.wdUsed 2 && s.flag (wdFiltF 2 b) == on &&
  decide (max (max (s.warden.ch.get (wdKey 2 b)).filtAt susp) s.warden.from_ + s.wdDiscrepTicks 2 ≤ s.mono)

/-! ### Test pulses (R487, R488) -/

/-- A channel of an input is fed by a test output (Table WDN-1): TPA feeds A, TPB feeds B. -/
def State.wdFed (s : State) (i : Nat) : Bool := i < 2 && s.wdUsed i && s.flag (F.WARDEN_CFG_TEST_PULSE i)

/-- The start of the newest pulse of an output, at or before now, as a tick of Epoch (R487). -/
def tpSlot (now : Nat) (b : Bool) : Option Nat :=
  let o := if b then 8000000 else 0
  if now < o then none else some ((now - o) / 16000000 * 16000000 + o)

/-- The pin of a test output is driven low: 240,000 ticks from the start of its pulse (R487). -/
def State.tpLow (s : State) (b : Bool) : Bool :=
  let o := s.warden.tp.get (b2n b)
  o.win && decide (s.mono < o.start + 240000)

/-- A pulse starts at tick t of those that pass (R487, R488). -/
def State.tpStart (s : State) (b : Bool) (t : Nat) : State :=
  let elig := maskOf 2 fun i => s.wdFed i && s.flag (wdRawF i b) &&
    decide ((s.warden.ch.get (wdKey i b)).rawAt + 80000 ≤ t)
  s.modWarden fun w => { w with tp := w.tp.set (b2n b) { start := t, next := t + 1, win := true, elig := elig, partner := 0 } }

/-- The check at s + 160,000 (R488). [DEDUCED (unsafe), log row 68] -/
def State.tpCheck (s : State) (b : Bool) : State :=
  let o := s.warden.tp.get (b2n b)
  let s := s.modWarden fun w => { w with tp := w.tp.modify (b2n b) fun o =>
    { o with partner := maskOf 2 fun i => bitOf o.elig i && !s.flag (wdRawF i (!b)) } }
  s.forEach (maskIdx 2 o.elig) fun s i =>
    let s := s.incWrap F.WARDEN_TP_CNT_MADE
    if s.flag (wdRawF i b) then (s.incSat F.WARDEN_TP_CNT_FAILED).wdFault i 4 else s

/-- The window closes at s + 320,000 (R487, R488). [DEDUCED (unsafe), log row 68] -/
def State.tpEnd (s : State) (b : Bool) : State :=
  let o := s.warden.tp.get (b2n b)
  let s := s.modWarden fun w => { w with tp := w.tp.modify (b2n b) fun o => { o with win := false, elig := 0, partner := 0 } }
  let s := s.forEach (List.range 2) fun s i =>
    if s.wdFed i && !s.flag (wdRawF i b) && s.flag (wdFiltF i b) then
      s.modWdCh i b fun c => { c with since := some (match c.since with | some t => min t o.start | none => o.start) }
    else s
  s.forEach (maskIdx 2 o.partner) fun s i =>
    if s.flag (wdRawF i (!b)) then (s.incSat F.WARDEN_TP_CNT_FAILED).wdFault i 4 else s

/-! ### Keyed writes (R495, R500, R501) -/

/-- A write of WARDEN_RESET is accepted (R495). -/
def State.wdResetOk (s : State) (i : Initiator) (v : Word) : Bool :=
  i == .hpa && bitsOf v.toNat 16 16 == 0xC3A5 && s.flag F.WARDEN_STATUS_REACTION && !s.wdDemand 0 && !s.wdDemand 1 &&
  !s.wdFaulted 0 && !s.wdFaulted 1 && !s.wdFaulted 2 && !s.flag F.CUR_STATUS_SAFE

/-- A write of WARDEN_RESET (R495). [DEDUCED (unsafe), log row 70] -/
def State.wdResetWrite (s : State) (i : Initiator) (v : Word) : State :=
  if s.wdResetOk i v then (s.put F.WARDEN_STATUS_REACTION 0).noteHolds
  else
    let s := s.set1 F.WARDEN_STICKY_RESET_REFUSED
    if i == .hpa then s else s.cfgReject .warden

/-- The permit is granted (R500). -/
def State.wdPermitOk (s : State) : Bool :=
  !s.flag F.WARDEN_STATUS_REACTION && s.wdUsed 0 && s.wdUsed 1 && s.get (F.WARDEN_LEVEL_STATE 0) == 1 &&
  s.get (F.WARDEN_LEVEL_STATE 1) == 1 && s.conn < 2 && !s.flag F.CUR_STATUS_SAFE

/-- A keyed write takes TIME, where it is 1 to 600 s (R500, Table WDN-8). -/
def State.wdPermitTime (s : State) (t : Nat) : State := if 1 ≤ t ∧ t ≤ 600 then s.put F.WARDEN_PERMIT_TIME t else s.cfgReject .warden

/-- A keyed HPA write with REQ = 1 (R500). -/
def State.wdPermitReq (s : State) (t : Nat) : State :=
  if 1 ≤ t ∧ t ≤ 600 ∧ s.wdPermitOk then
    (s.put F.WARDEN_STATUS_PERMIT 1).modWarden fun w => { w with permitTo := s.mono + t * 800000000 }
  else s.set1 F.WARDEN_STICKY_PERMIT_REFUSED

/-- A write of WARDEN_PERMIT (R500, R501): END prevails over REQ. [DEDUCED (unsafe), log row 70] -/
def State.wdPermitWrite (s : State) (i : Initiator) (v : Word) : State :=
  let t := bitsOf v.toNat 6 10
  let req := bitOf v.toNat 0
  if i != .hpa then
    let s := s.cfgReject .warden
    if req then s.set1 F.WARDEN_STICKY_PERMIT_REFUSED else s
  else if bitsOf v.toNat 16 16 ≠ 0x96E1 then (if req then s.set1 F.WARDEN_STICKY_PERMIT_REFUSED else s)
  else
    let s := s.wdPermitTime t
    if bitOf v.toNat 1 then s.permitEnd
    else if req then s.wdPermitReq t
    else s

/-! ### The restart (R497) -/

/-- The Warden restarts: reaction in force, used inputs in DEMAND, counts at 0. The raw levels are the pins'. -/
def State.wdRestart (s : State) : State :=
  let s := s.put F.WARDEN_STATUS_REACTION 1
  let s := s.modWarden fun _ => { ch := [], tp := [], from_ := s.mono, permitTo := 0 }
  let s := s.forEach (List.range 3) fun s i =>
    let s := (s.put (F.WARDEN_LEVEL_FILT_A i) 0).put (F.WARDEN_LEVEL_FILT_B i) 0
    let s := s.put (F.WARDEN_LEVEL_STATE i) (if i = 2 then 1 else if s.wdUsed i then 2 else 0)
    [false, true].foldl (fun (s : State) b => s.modWdCh i b fun c =>
      { c with rawAt := s.mono, since := if s.flag (wdRawF i b) then some s.mono else none }) s
  s.forEach (List.range 2) fun s i => s.put (wdNowF i) (b2n (s.wdUsed i))

end Sys2Proof.Machine
end

