-- ==== Sys2Proof/Machine/StartOps.lean ====
section
/-!
DEFINITION. Resets, start-up and the Foyer state as shared operations (chapter 19, Table SVA-6).
-/

namespace Sys2Proof.Machine

/-- The start-up phase in progress (Table SUP-3); 0 after P8 or in the Foyer state. -/
def State.phase (s : State) : Nat := s.get F.SYS_START_PHASE
/-- Start-up proceeds: a phase is in progress and no reset is asserted. -/
def State.inPhase (s : State) (n : Nat) : Bool := s.phase == n && s.start.resetAt.isNone && s.pdOn 1

/-! ### The Foyer state (R612, R613) -/

/-- Outputs at the levels of the safe state (R605, R613): units STOPPED, lanes OFF after one TRIP, relays released. -/
def State.outputsSafe (s : State) : State :=
  let s := s.forEach (List.range 14) State.stopUnit
  let s := s.forEach (List.range 8) State.hbOff
  ((s.forEach (List.range 6) State.laneSafe).relaysOff).noteHolds

/-- A domain of the Foyer state: requested, and on its way where it is off. [DESIGN CHOICE (safe), log row 94] -/
def State.foyerOn (s : State) (d : Nat) : State :=
  let s := s.put (pdCtrlF d) 1
  if s.pdOn d then s else s.put (pdMoveF d) 1

/-- Entry to the Foyer state (R611 to R613, R615). HPA runs the monitor in the boot ROM, whose entry is not stated: drawn. -/
def State.enterFoyer (s : State) (cause detail : Nat) : State :=
  let s := ((s.put F.SYS_FOYER_CAUSE cause).put F.SYS_FOYER_DETAIL detail).put F.SYS_FOYER_IN_FOYER 1
  let s := (s.put F.SYS_START_PHASE 0).put F.SYS_RESET_CAUSE_FOYER_REQ 0
  let s := ((s.wcTestAbort.put (calBusyF false) 0).put (calBusyF true) 0).outputsSafe
  let s := s.forEach ((List.range 12).filter fun d => !pdFoyer d) fun s d => (s.put (pdCtrlF d) 0).domainOff d
  let s := s.foyerOn 11
  let s := if s.flag F.SYS_RAILS_VISO_OK then s.foyerOn 10 else s
  let s := s.pd2Low.modSv fun v => { v with step := 0 }
  let s := (s.modHok 0 fun k => { k with run := true, mmode := true, pc := 4 * (s.drawn % 0x8000) }).drew
  let s : State := { s with diag := { s.diag with bistNext := s.epoch / 40000000 + 1 }, start := { s.start with late := 0 } }
  s.eventSend

/-! ### Boot (Table SVA-6) -/

/-- A failure of a boot step (R577): the FAILURE entry carries the digest of the failed header, or zeros where an erased slot gives
none to read. -/
def State.bootFail (s : State) (cause code : Nat) (hdr : List Byte) (bad : Nat) : State :=
  let d := if erased hdr then List.replicate 32 0#8 else sha3 hdr
  (s.logWrite 0x0C 0xFF d bad).enterFoyer cause code

/-- The domains of the plan are powered (R607, P6; R609): the grid side is deferred while VISO is absent. -/
def State.planDomains (s : State) : State :=
  let s := if s.flag (pdCtrlF 10) && !s.flag F.SYS_RAILS_VISO_OK then s.set1 F.SYS_START_GRID_DEFERRED else s
  let s := s.forEach ((List.range 12).filter pdSwitched) fun s d =>
    if s.flag (pdCtrlF d) then (if s.pdMay d then s.pdPursue d else s.put (pdCtrlF d) 0) else if s.pdOn d then s.domainOff d else s
  let s := if s.plState = 1 then s.pd2Low else s.forEach [2, 3, 4, 5] State.dvfsNext
  s.modStart fun p => { p with barFrom := if s.flag (pdCtrlF 10) && s.flag F.SYS_RAILS_VISO_OK then some s.mono else none }

/-- Step 5: the selected firmware slot (Table SVA-5). -/
def State.bootFw (s : State) (bad : Nat) : State :=
  let k := s.get F.SV_BOOT_FW_SEL
  let bs := s.pkgBytes 0 k
  let c := s.slotCheck 0 k
  let s := s.put F.SV_BOOT_FW_ERR c
  if c ≠ 0 then s.bootFail 0x01 c (bs.take 128) bad
  else
    let s := s.put F.SV_BOOT_ACTIVE_FW k
    let s := s.modSv fun v =>
      { v with step := 6, fwDigest := sha3 (bs.take 128), fwSecver := bU bs 0x14 4, fwEntry := slotBase 0 k + 128 + bU bs 0x28 4 }
    s.measure 0x04 1 (sha3 (bs.take 128)) bad

/-- Step 6: the selected image is validated, measured and applied (R39 to R44); P6 starts with POWER. -/
def State.bootImg (s : State) (bad : Nat) : State :=
  let k := s.get F.SYS_IMG_SELECT_SLOT
  let bs := s.imgBytes k
  let c := s.imgCheck bs
  if c ≠ 0 then (s.put F.SYS_IMG_STATUS_ERR c).bootFail 0x02 c (bs.take 128) bad
  else
    let s := (s.put F.SYS_IMG_STATUS_ACTIVE k).measure 0x05 2 (sha3 (bs.take 128)) bad
    ((s.imgApply (parseImage bs)).planDomains).modSv fun v => { v with step := 7 }

/-- Step 7: the APP slot, unless erased. -/
def State.bootApp (s : State) (bad : Nat) : State :=
  let bs := s.pkgBytes 2 0
  let c := s.slotCheck 2 0
  if c = 0x0C then (s.put F.SV_BOOT_APP_STATE 0).modSv fun v => { v with step := 8 }
  else if c ≠ 0 then ((s.put F.SV_BOOT_APP_STATE 3).put F.SV_BOOT_APP_ERR c).bootFail 0x03 c (bs.take 128) bad
  else
    let unsigned := bU bs 0x1E 2 == 0xFFFF
    let s := s.put F.SV_BOOT_APP_STATE (if unsigned then 2 else 1)
    let s := s.modSv fun v => { v with step := 8, appDigest := sha3 (bs.take 128), appSecver := bU bs 0x14 4 }
    s.measure 0x06 3 (sha3 (bs.take 128)) bad

/-- The boot step in progress completes (Table SVA-6); bad as for a log entry. The digest that BOOT_START records is not stated: it
is drawn. [DESIGN CHOICE (safe), log row 96] -/
def State.bootStep (s : State) (bad : Nat) : State :=
  match s.sv.step with
  | 1 =>
    let s := s.modSv fun v => { v with step := 2, pm := [], bootNo := (v.bootNo + 1) % 2 ^ 32, permitted := false }
    (s.logWrite 0x01 0xFF (s.drawBytes 32) bad).drewN 32
  | 2 => (s.modSv fun v => { v with step := 3 }).measure 0x02 0 (fixLen 32 romDigest) bad
  | 3 => (s.modSv fun v => { v with step := 4 }).measure 0x03 0 (sha3 s.otpBytes) bad
  | 4 => (s.set1 F.SV_INFO_DEVID_READY).modSv fun v => { v with step := 5 }
  | 5 => s.bootFw bad
  | 6 => s.bootImg bad
  | 7 => s.bootApp bad
  | _ => s

/-! ### Phases (Table SUP-3) -/

/-- P4 begins (R611): the Warden restarts, every comparator enters TRIP_PENDING. -/
def State.p4Begin (s : State) : State :=
  (((s.put F.SYS_START_PHASE 4).wdRestart).forEach (List.range 24) State.wcPend).noteHolds

/-- P6 is over: every domain of the plan that can be on is on, and a powered grid side is calibrated. -/
def State.domainsReady (s : State) : Bool :=
  (List.range 12).all (fun d => !s.flag (pdMoveF d)) && (!s.pdOn 10 || s.flag F.EPOCH_STATUS_BAR_CAL_DONE)

/-- P7 begins: the calibrations of the sides that are on, together, not through the arbiter. [DEDUCED (unsafe), log row 95] -/
def State.p7Begin (s : State) : State :=
  let s := s.put F.SYS_START_PHASE 7
  let s := if s.pdOn 8 then s.calStart false else s
  if s.pdOn 10 then s.calStart true else s

/-- A routed channel that a calibrated side failed (R610): the lowest. -/
def State.routedFail (s : State) : Option Nat :=
  match s.img.applied with
  | none => none
  | some im => (List.range 26).find? fun k => k != 15 && s.pdOn (sidePd (chGrid k)) && im.routed k && !s.flag (calValidF k)

/-- A comparator that failed its test (R610): the lowest. -/
def State.wcFailed (s : State) : Option Nat := (List.range 24).find? fun c => s.wcPowered c && s.flag ⟨R.WCMPP_TEST_FAIL, c, 1⟩

/-- The phase P7 goes on: from the calibrations to the comparator tests, from those to P8 (R607, R610). [DEDUCED (unsafe), log row 95] -/
def State.p7Next (s : State) : State :=
  if s.flag (calBusyF false) || s.flag (calBusyF true) || !s.wcmp.queue.isEmpty then s
  else if s.start.late ≠ 4 then
    match s.routedFail with
    | some k => s.enterFoyer 0x07 k
    | none =>
      (s.modStart fun p => { p with late := 4 }).wcTestQueue ((List.range 24).filter fun c => s.wcPowered c)
  else
    match s.wcFailed with
    | some c => s.enterFoyer 0x08 c
    | none =>
      let s := if s.pdOn 10 && !s.flag F.SYS_START_GRID_DEFERRED then s.set1 F.SYS_START_GRID_CAL_DONE else s
      (s.put F.SYS_START_PHASE 8).modStart fun p => { p with late := if s.flag F.SYS_START_GRID_DEFERRED then 1 else 0 }

/-- P8 (R611, R615, Table SVA-6 step 8): HPA is released at ENTRY, or the Foyer state that was requested is entered. -/
def State.release (s : State) : State :=
  if s.flag F.SYS_RESET_CAUSE_FOYER_REQ then s.enterFoyer 0x0A 0
  else
    let s := ((s.put F.SYS_START_PHASE 0).put F.SYS_START_DONE 1).wr R.SYS_START_TICK s.now32
    let s := s.modHok 0 fun _ => { (default : Hok) with run := true, mmode := true, pc := s.sv.fwEntry }
    let s := s.modSv fun v => { v with step := 0 }
    { s with diag := { s.diag with bistNext := s.epoch / 40000000 + 1 } }

/-- The cause and the code of a failure a phase's own test reports (Table SUP-4): none where the phase has no such failure.
[DEDUCED (unsafe), log row 95] -/
def phaseCause (n which : Nat) : Option Nat :=
  if n = 3 then some 0x05 else if n = 4 then some 0x04
  else if n = 6 then some (if which = 0 then 0x09 else 0x04) else none

/-- A phase completes (R607). [DEDUCED (unsafe), log row 95; DESIGN CHOICE (safe), log row 96] -/
def State.phaseEnd (s : State) : State :=
  match s.phase with
  | 1 =>
    let s := ((s.put F.SYS_RAILS_VCORE_OK 1).put F.SYS_RAILS_VIO_OK 1).put F.SYS_RAILS_VANA_OK 1
    ((s.put F.SYS_RAILS_STORE_SUPPLY (b2n (s.plState != 3))).put F.SYS_RAILS_BUCKA_ON (b2n (s.plState == 3))).put
      F.SYS_START_SUPPLY_FAIL 0 |>.put F.SYS_START_PHASE 2
  | 2 => if s.flag F.CLK_STATUS_MUTED then s else s.put F.SYS_START_PHASE 3
  | 3 => s.p4Begin
  | 4 => (s.put F.SYS_START_PHASE 5).modSv fun v => { v with step := 1 }
  | 5 => if s.sv.step = 8 then s.put F.SYS_START_PHASE 6 else s
  | 6 => if s.domainsReady then s.p7Begin else s
  | 7 => s.p7Next
  | 8 => s.release
  | _ => s

/-! ### Resets (R601 to R606) -/

/-- A SYSTEM reset takes effect (R605): outputs go to the safe levels, a PARTIAL is written, the cores stop.
[DEDUCED (unsafe), log row 93] -/
def State.sysAssert (s : State) : State :=
  if s.start.resetAt.isSome then s
  else
    let s := (s.meterWarn).outputsSafe
    let s := (s.modHok 0 fun k => { k with run := false }).modHok 1 fun k => { k with run := false }
    s.modStart fun p => { p with resetAt := some s.mono }

/-- Clears a run of registers to their values before any image. -/
def keepRegs (s : State) (keep : Nat → Bool) (base : State) : State :=
  (s.regs.filter fun e => keep e.1).foldl (fun (t : State) (e : Nat × Word) => t.wr e.1 e.2)
    { base with regs := base.regs.filter fun e => !keep e.1 }

/-- The blocks are reset (R605, Table SUP-5, SYSTEM): the clock, Epoch's value, mode and alignment, the domains and rails, the
memories and SYS_RESET_CAUSE stand; start-up begins at P4. [DEDUCED (unsafe), log row 93] -/
def State.blocksReset (s : State) : State :=
  let keep := fun (a : Nat) => (0x40010000 ≤ a && a < 0x40020000) || a == R.SYS_PD_STATUS || a == R.SYS_RAILS ||
    a == R.SYS_RESET_CAUSE || a == R.SYS_OP_STATUS || a == R.SYS_ID
  let t := keepRegs s keep s.volatileReset
  let t := (t.put F.EPOCH_CTRL_MODE (s.get F.EPOCH_CTRL_MODE)).put F.EPOCH_STATUS_ALIGNED (s.get F.EPOCH_STATUS_ALIGNED)
  let t := t.put F.DRV_STATUS_VDRV_OK (s.get F.DRV_STATUS_VDRV_OK)
  let t : State := { t with
    mem := s.mem, ecc := s.ecc, epoch := s.epoch, clk := s.clk, ep := { t.ep with base := s.ep.base }
    shadow := s.shadow.filter fun e => 0x40010000 ≤ e.1 && e.1 < 0x40020000
    plinth := s.plinth
    drive := { t.drive with vdrvFrom := s.drive.vdrvFrom, keepTick := s.mono } }
  t.p4Begin

/-- An HPB reset (R606): the units HPB owns outside enabled pairs stop, its items return, its fence and the permit end. -/
def State.hpbReset (s : State) : State :=
  let s := s.hpbUnitsStop.hpbItems
  let s := (s.put ⟨R.CUR_FENCED_OTHER, 1, 1⟩ 0).curFencedNow
  let s := (s.put F.SYS_CORE_CTRL_HPB_RUN 0).set1 F.SYS_RESET_CAUSE_HPB
  (s.modHok 1 fun _ => default).dbgPermitEnd

/-- A write of SYS_RESET (R603). [DEDUCED (unsafe), log row 93] -/
def State.resetWrite (s : State) (i : Initiator) (v : Word) : State :=
  let k := bitsOf v.toNat 0 4
  if bitsOf v.toNat 16 16 ≠ 0x7A5C then s.cfgReject .sysReset
  else if (k = 1 ∨ k = 3) ∧ (i = .hpa ∨ i = .hspi ∨ i = .courier) then
    let s := if k = 3 then s.set1 F.SYS_RESET_CAUSE_FOYER_REQ else s
    (s.set1 F.SYS_RESET_CAUSE_SOFT).sysAssert
  else if k = 2 ∧ i = .hpa ∧ !s.inFoyer then s.hpbReset
  else s.cfgReject .sysReset

/-- A write of SYS_WDT (R604): a write that takes effect starts the count. [DEDUCED (unsafe), log row 93] -/
def State.wdtWrite (s : State) (i : Initiator) (v : Word) : State :=
  let n := bitsOf v.toNat 0 16
  if i ≠ .hpa ∨ s.inFoyer ∨ 60000 < n then s.cfgReject .sysReset
  else (s.put F.SYS_WDT_TIMEOUT n).modStart fun p => { p with wdFrom := s.mono }

/-- A write of SYS_WDT_KICK (R604): only HPA may write it, and only 0x4B1C restarts the count. [DEDUCED (unsafe), log row 93] -/
def State.wdtKick (s : State) (i : Initiator) (v : Word) : State :=
  if i ≠ .hpa then s.cfgReject .sysReset
  else if v = 0x4B1C#32 then s.modStart fun p => { p with wdFrom := s.mono } else s

/-- A write of SYS_CORE_CTRL (R606, R614): the write of 1 releases a held HPB, whose domain is on, at SYS_HPB_ENTRY in M mode with its
caches invalid. [DEDUCED (unsafe), log row 93] -/
def State.coreCtrlWrite (s : State) (i : Initiator) (v : Word) : State :=
  if i ≠ .hpa ∨ (s.inFoyer ∧ bitOf v.toNat 0) then s.cfgReject .sysReset
  else
    let s := s.put F.SYS_CORE_CTRL_HPB_RUN (bitsOf v.toNat 0 1)
    if bitOf v.toNat 0 ∧ s.pdOn 3 ∧ !(s.hok.get 1).run ∧ !(s.hok.get 1).stopped ∧ !bitOf (s.rd R.CUR_FENCED_OTHER).toNat 1 then
      s.modHok 1 fun k => { (default : Hok) with run := true, mmode := true, pc := (s.rd R.SYS_HPB_ENTRY).toNat, bp := k.bp, cnt := k.cnt, arch := k.arch }
    else s

end Sys2Proof.Machine
end

