-- ==== Sys2Proof/Machine/View.lean ====
section
/-!
DEFINITION. What a register reads as where the register tables make it follow from other state: the status registers, the
interrupt controller's sources, the remaining times, the write-only registers (Table SCOPE-4). Effects of a read are Bus's.
-/

namespace Sys2Proof.Machine

/-- The index of an address in a run of n registers with a stride. -/
def ix (a base stride n : Nat) : Option Nat :=
  if base ≤ a ∧ a < base + stride * n ∧ (a - base) % stride = 0 then some ((a - base) / stride) else none

/-- A word with a field replaced. -/
def fput (v : Word) (f : Fld) (x : Nat) : Word := w32 (bitsPut v.toNat f.lo f.len x)

/-! ### GPIO (R562) -/

/-- The level of a pad whose function is general I/O; the other pads read 0. [DEDUCED (unsafe), log row 30] -/
def State.padIn (s : State) (k : Nat) : Bool :=
  s.padFn k == 1 && (if (s.padDrive k).1 then (s.padDrive k).2 else bitOf s.pins.gpio k)

/-! ### The Curator's interrupt (R472) -/

/-- The Curator asserts its interrupt to HPA. -/
def State.curIrq (s : State) : Bool :=
  let m := s.get F.CUR_CTRL_IRQ_MIN
  m != 0 && (List.range 192).any fun n => bitOf (s.rd (R.CUR_STICKY (n / 32))).toNat (n % 32) && decide (m ≤ s.severity n)

/-! ### The interrupt controllers (R525, R526, Table HOK-5) -/

/-- Some bit of a register reads 1. -/
def State.anyBit (s : State) (a : Nat) : Bool := s.rd a != 0#32

/-- A counter has overflowed or an Archive has stopped on a full buffer (R530, R532). [DESIGN CHOICE (unsafe), log row 31] -/
def State.perfIrq (s : State) : Bool :=
  s.get F.PERF_STATUS_OVF != 0 || (List.range 2).any fun q => (s.hok.get q).archFull != 0

/-- The condition of a HIC source of a pair. [DEDUCED (unsafe), log row 30; DESIGN CHOICE (unsafe), log row 31] -/
def State.hicCond (s : State) (q n : Nat) : Bool :=
  if n = 0 then q == 0 && s.curIrq
  else if n = 1 then s.flag (F.HIC_SRC_PENDING q 1)
  else if n = 2 then s.anyBit R.WARDEN_STICKY
  else if n = 3 then s.anyBit R.GRID_STICKY || s.anyBit R.GRID_RT_STICKY
  else if n = 4 then s.anyBit R.RELAY_STICKY
  else if n = 5 then s.flag F.METER_STICKY_LATCH
  else if n = 6 then s.anyBit R.DIAG_STICKY || s.anyBit R.DIAG_MAINT_DONE
  else if n = 7 then s.anyBit R.SENSP_STICKY
  else if n = 8 then s.anyBit R.SENSG_STICKY
  else if n = 9 then s.anyBit R.WCMPP_STICKY
  else if n = 10 then s.anyBit R.WCMPG_STICKY
  else if n ≤ 16 then s.anyBit (R.LP_STICKY (n - 11))
  else if n = 17 then s.anyBit R.PWM_GSTICKY || (List.range 14).any fun u => s.anyBit (R.PWM_STICKY u)
  else if n = 18 then s.anyBit R.DRV_STICKY || (List.range 8).any fun h => s.anyBit (R.DRV_HB_STICKY h)
  else if n = 19 then s.anyBit R.LANE_STICKY || (List.range 6).any fun l => s.anyBit (R.LANE_LSTICKY l)
  else if n = 20 then s.anyBit R.EPOCH_STICKY
  else if n = 21 then s.anyBit R.CLK_STICKY
  else if n = 22 then s.flag F.PLINTH_STICKY_WAKE || s.flag F.PLINTH_STICKY_PF_WARN || s.flag F.PLINTH_STICKY_PF_RESTORE
  else if n = 23 then s.flag (F.SV_STATUS_DONE q)
  else if n = 24 then s.flag F.COURH_STATUS_H2D_FULL
  else if n = 25 then s.anyBit R.PLC_STICKY
  else if n = 26 then (s.rd R.SYS_GPIO_EVT) &&& (s.rd R.SYS_GPIO_IEN) != 0#32
  else if n = 27 then s.perfIrq
  else false

/-- A source is pending, enabled and its PRIO is above THRESHOLD (R526; PRIO 0 never interrupts). -/
def State.hicReady (s : State) (q n : Nat) : Bool :=
  s.flag (F.HIC_SRC_EN q n) && s.get ⟨R.HIC_THRESHOLD q, 0, 4⟩ < s.get (F.HIC_SRC_PRIO q n) && s.hicCond q n

/-- The claim: the ready source of highest PRIO, the lowest number among equals; 0x3F where there is none (R526). -/
def State.hicClaim (s : State) (q : Nat) : Nat :=
  (List.range 28).foldl (fun (b : Nat) n =>
    if s.hicReady q n && (b == 0x3F || decide (s.get (F.HIC_SRC_PRIO q b) < s.get (F.HIC_SRC_PRIO q n))) then n else b) 0x3F

/-- A performance counter of core k (0 to 3): 48 bits (R529). -/
def State.perfCnt (s : State) (k e : Nat) : Nat := (s.hok.get (k / 2)).cnt.get (96 * (k % 2) + e)

/-! ### Register blocks -/

/-- SYS. -/
def State.viewSys (s : State) (a : Nat) (v : Word) : Word :=
  if a = R.SYS_ID then s.sysId
  else if a = R.SYS_IMG_SELECT then v &&& 0xFFFF#32
  else if a = R.SYS_IMG_STATUS then fput v F.SYS_IMG_STATUS_BUSY (b2n (s.flag F.SYS_IMG_STATUS_BUSY || s.sv.step == 6))
  else if a = R.SYS_GPIO_IN then w32 (maskOf 8 s.padIn)
  else if a = R.HIC_CLAIM 0 then w32 (s.hicClaim 0)
  else if a = R.HIC_CLAIM 1 then w32 (s.hicClaim 1)
  else if a = R.HIC_MTIME_LO 0 ∨ a = R.HIC_MTIME_LO 1 then s.now32
  else match ix a (R.HIC_SRC 0 0) 4 64, ix a (R.HIC_SRC 1 0) 4 64 with
    | some n, _ => fput v (F.HIC_SRC_PENDING 0 n) (b2n (s.hicCond 0 n))
    | _, some n => fput v (F.HIC_SRC_PENDING 1 n) (b2n (s.hicCond 1 n))
    | _, _ => v

/-- An overload of the channel holds now (R150). -/
def State.chOvr (s : State) (k : Nat) : Bool :=
  (s.sens.ch.get k).ovl.any fun v => decide (v.s ≤ s.epoch) && match v.e with
    | none => true
    | some e => decide (s.epoch < e)

/-- A side's channel registers; k counts GS0 to GS9 from 16. -/
def State.viewCh (s : State) (k o : Nat) (v : Word) : Word :=
  if o = 0 then fput v (F.CH_CFG_SINGLE k) (b2n (k == 13 || k == 14))
  else if o = 0x30 then
    fput (fput (fput v (F.CH_STATUS_OVR_NOW k) (b2n (s.chOvr k))) (F.CH_STATUS_POWERED k) (b2n (s.chPowered k)))
      (F.CH_STATUS_IDLE k) (b2n (s.chIdle k))
  else v

/-- LC_GAP with the gap in progress (R147): a tick is known to lie in a gap once no announcement can still arrive in time, 64
ticks after the last complete cycle's end. [DESIGN CHOICE (unsafe), log row 114] -/
def State.viewGap (s : State) (grid : Bool) (v : Word) : Word :=
  let g := (s.sens.side.get (b2n grid)).gapFrom
  if s.pdOn (sidePd grid) && g + 64 < s.epoch then w32 (satTo 32 (v.toNat + (s.epoch - g))) else v

/-- SENSP. -/
def State.viewSensp (s : State) (a : Nat) (v : Word) : Word :=
  if a = R.SENSP_STATUS then
    fput (fput v F.SENSP_STATUS_DOMAIN_ON (b2n (s.pdOn 8))) F.SENSP_STATUS_MON_BUSY (b2n (s.pdOn 8 && s.anyBit R.SENSP_MON_MASK))
  else if a = R.SENSP_LC_GAP then s.viewGap false v
  else match ix a (R.SENSP_WG_STATUS 0) 0x20 4 with
    | some g =>
      let n := min (s.sens.wg.get g).opened.length 2
      fput (fput v (F.SENSP_WG_STATUS_IDLE g) (b2n (s.wgIdle g))) (F.SENSP_WG_STATUS_OPEN g) n
    | none => if 0x40030400 ≤ a ∧ a < 0x40030800 then s.viewCh ((a - 0x40030400) / 0x40) (a % 0x40) v else v

/-- SENSG. -/
def State.viewSensg (s : State) (a : Nat) (v : Word) : Word :=
  if a = R.SENSG_STATUS then fput v F.SENSG_STATUS_DOMAIN_ON (b2n (s.pdOn 10))
  else if a = R.SENSG_LC_GAP then s.viewGap true v
  else if 0x48000400 ≤ a ∧ a < 0x48000680 then s.viewCh (16 + (a - 0x48000400) / 0x40) (a % 0x40) v else v

/-- WCMPP and WCMPG: first comparator and count of the side. -/
def State.viewWcmp (s : State) (o c0 n : Nat) (v : Word) : Word :=
  let any := fun (x : Nat) => b2n ((List.range n).any fun c => s.wcState (c0 + c) == x)
  if o = 0 then fput (fput v F.WCMPP_STATUS_ANY_PENDING (any 2)) F.WCMPP_STATUS_ANY_TRIP (any 1)
  else if o = 8 then w32 (maskOf n fun c => s.wcState (c0 + c) == 1)
  else v

/-- LOOP. -/
def State.viewLoop (s : State) (a : Nat) (v : Word) : Word :=
  if a = R.LOOP_STATUS then
    w32 (maskOf 6 (fun p => s.flag (F.LP_CTRL_EN p)) + 256 * maskOf 6 fun p => s.flag (F.LP_STATUS_PAIR_FENCED p))
  else if a = R.LOOP_SHARE then w32 (s.sharePct + 256 * maskOf 4 s.inputFenced)
  else match ix a (R.LP_MIN_PERIOD 0) 0x40 6, ix a (R.LP_STATUS 0) 0x40 6 with
    | some p, _ => w32 (s.lpMinPeriod p)
    | _, some p => fput v (F.LP_STATUS_FENCED p) (b2n ((maskIdx 14 (s.get (F.LP_CFG_COMMIT_MASK p))).any s.unitFenced))
    | _, _ => v

/-- PWM_STATUS: the level bits of a running unit are those of the current counter tick. -/
def State.viewPwmStatus (s : State) (u : Nat) (v : Word) : Word :=
  let v := fput (fput v (F.PWM_STATUS_FORCED u) (b2n (s.get (F.PWM_FORCE_FORCE_A u) + s.get (F.PWM_FORCE_FORCE_B u) != 0)))
    (F.PWM_STATUS_HELD u) (b2n (s.unitHeld u))
  if s.pwmState u = 1 then
    let l := s.levelsAt u s.epoch
    fput (fput v (F.PWM_STATUS_LEVEL_A u) (b2n l.1)) (F.PWM_STATUS_LEVEL_B u) (b2n l.2)
  else v

/-- PWM. -/
def State.viewPwm (s : State) (a : Nat) (v : Word) : Word :=
  if a = R.PWM_RUN_STATUS then w32 (maskOf 14 (fun u => s.pwmState u == 1) + 65536 * maskOf 14 s.unitFenced)
  else if a = R.PWM_GROUPS then w32 (s.heldGroups + 256 * s.get F.CUR_FENCED_GROUPS)
  else match ix a (R.PWM_STATUS 0) 0x100 14, ix a (R.PWM_COUNT 0) 0x100 14, ix a (R.PWM_NEXT_BOUNDARY 0) 0x100 14 with
    | some u, _, _ => s.viewPwmStatus u v
    | _, some u, _ => w32 (s.pwmCount u)
    | _, _, some u => if s.pwmState u = 1 then w32 (s.pwm.get u).next else 0#32
    | _, _, _ => v

/-- DRV. -/
def State.viewDrv (s : State) (a : Nat) (v : Word) : Word :=
  if a = R.DRV_STATUS then
    fput (fput v F.DRV_STATUS_FENCED (maskOf 8 fun h => s.flag (F.DRV_HB_STATUS_FENCED h))) F.DRV_STATUS_HELD (maskOf 8 s.unitHeld)
  else match ix a (R.DRV_HB_STATUS 0) 0x20 8 with
    | some h => fput v (F.DRV_HB_STATUS_HELD h) (b2n (s.unitHeld h))
    | none => v

/-- LANE. -/
def State.viewLane (s : State) (a : Nat) (v : Word) : Word :=
  if a = R.LANE_STATUS then
    w32 (maskOf 6 (fun l => s.laneState l == 1) + 256 * maskOf 6 (fun l => bitOf (s.get (F.LANE_STAT_STATUS l)) 7) +
      65536 * maskOf 6 fun l => s.laneState l == 3)
  else v

/-- GRID: the remaining reconnection time, in whole milliseconds. -/
def State.viewGrid (s : State) (a : Nat) (v : Word) : Word :=
  if a = R.GRID_RC_LEFT then
    if s.flag F.GRID_RT_STATUS_RC_READY then 0#32
    else match s.grid.timer with
      | some t => w32 ((t + s.rcTicks - s.mono + 799999) / 800000)
      | none => w32 (s.rcTicks / 800000)
  else v

/-- RELAY. -/
def State.viewRelay (s : State) (a : Nat) (v : Word) : Word :=
  if a = R.RELAY_STATUS then
    fput (fput v F.RELAY_STATUS_K1_FB (b2n (s.relayFb 0))) F.RELAY_STATUS_K2_FB (b2n (s.relayFb 1))
  else v

/-- METER: the factory correction's words. -/
def State.viewMeter (a : Nat) (v : Word) : Word :=
  if 0x40090400 ≤ a ∧ a < 0x40090400 + 0x10 * 72 then
    let n := (a - 0x40090400) / 0x10
    factoryWord (n / 24) (n / 8 % 3) (n % 8) ((a - 0x40090400) / 4 % 4)
  else v

/-- PERF: the counters' low words. -/
def State.viewPerf (s : State) (a : Nat) (v : Word) : Word :=
  if 0x400B1000 ≤ a ∧ a < 0x400B2000 ∧ (a - 0x400B1000) % 8 = 0 ∧ (a - 0x400B1000) % 0x400 < 8 * 96 then
    w32 (s.perfCnt ((a - 0x400B1000) / 0x400) ((a - 0x400B1000) % 0x400 / 8))
  else v

/-- CURATOR: reads return the majority (R478). -/
def State.viewCur (s : State) (a : Nat) (v : Word) : Word :=
  if a = R.CUR_STATUS then
    fput (fput v F.CUR_STATUS_INJECT_EN (b2n s.injectAble)) F.CUR_STATUS_PROFILE (b2n s.profile)
  else if a = R.CUR_UNFENCE ∨ a = R.CUR_INJECT then 0#32
  else match ix a (R.CUR_SEV 0) 4 48 with
    | some k => w32 (leNat ((List.range 4).map fun j => BitVec.ofNat 8 (s.sevByte (4 * k + j))))
    | none => v

/-- The remaining permit time of the Warden, in seconds begun. -/
def State.viewWarden (s : State) (a : Nat) (v : Word) : Word :=
  if a = R.WARDEN_PERMIT_LEFT then
    if s.flag F.WARDEN_STATUS_PERMIT then w32 ((s.warden.permitTo - s.mono + 799999999) / 800000000) else 0#32
  else if a = R.WARDEN_PERMIT then fput 0#32 F.WARDEN_PERMIT_TIME (bitsOf v.toNat 6 10)
  else v

/-- SVAUTH. -/
def State.viewSv (s : State) (a : Nat) (v : Word) : Word :=
  if a = R.SV_INFO then fput v F.SV_INFO_FENCED (b2n s.svFenced)
  else if a = R.SV_PERMIT_LEFT then w32 s.permitLeft
  else v

/-- The word a register reads as now. [DESIGN CHOICE (unsafe), log row 20] -/
def State.view (s : State) (a : Nat) : Word :=
  let v := s.rd a
  let b := a / 0x10000
  if b = 0x4000 then s.viewSys a v
  else if a = R.CLK_COAST ∧ s.flag F.CLK_STATUS_COAST then fput v F.CLK_COAST_COAST_MS s.coastMs
  else if b = 0x4002 then (if a = R.EPOCH_NOW_LO then s.now32 else v)
  else if b = 0x4003 then s.viewSensp a v
  else if b = 0x4004 then s.viewWcmp (a % 0x10000) 0 14 v
  else if b = 0x4005 then s.viewLoop a v
  else if b = 0x4006 then s.viewPwm a v
  else if b = 0x4007 then s.viewDrv a v
  else if b = 0x4008 then s.viewGrid a v
  else if b = 0x4009 then State.viewMeter a v
  else if b = 0x400B then s.viewPerf a v
  else if b = 0x4800 then s.viewSensg a v
  else if b = 0x4801 then s.viewWcmp (a % 0x10000) 14 10 v
  else if b = 0x4802 then s.viewLane a v
  else if b = 0x4803 then s.viewRelay a v
  else if a = R.PLC_STATUS then fput v F.PLC_STATUS_TX (b2n s.plcBusy)
  else if b = 0x5000 then s.viewCur a v
  else if b = 0x5001 then s.viewWarden a v
  else if b = 0x5800 then s.viewSv a v
  else v

end Sys2Proof.Machine
end

