-- ==== Sys2Proof/Machine/Warden.lean ====
section
/-!
DEFINITION. The meanings of the Warden's commands (chapter 15).
-/

namespace Sys2Proof.Machine

/-- WARDEN_INPUT_CHANGE (R486): a channel's raw level changes. -/
def execWardenInputChange (i : Fin 3) (b level : Bool) (s : State) : Res := .next (s.wdRaw i b level)

/-- WARDEN_FILTER_EXPIRE (R486). -/
def execWardenFilterExpire (i : Fin 3) (b : Bool) (s : State) : Res :=
  if s.wdFilterDue i b then .next (s.wdFilt i b) else .next s

/-- WARDEN_DISCREPANCY (R490, R491, R499). -/
def execWardenDiscrepancy (i : Fin 3) (s : State) : Res :=
  let bad := if i.val < 2 then s.wdInconsistent i else s.wdRelayWrong 0 || s.wdRelayWrong 1
  if bad then .next (s.wdFault i 3) else .next s

/-- TEST_PULSE_START (R487, R497): TPA (b false) or TPB drives low, from an Epoch multiple after the restart. -/
def execTestPulseStart (b : Bool) (s : State) : Res :=
  let o := s.warden.tp.get (b2n b)
  match tpSlot s.epoch b with
  | some e =>
    let t := s.monoOf e
    if !o.win && o.next ≤ t && s.warden.from_ ≤ t then .next (s.tpStart b t) else .next s
  | none => .next s

/-- TEST_PULSE_CHECK (R488). -/
def execTestPulseCheck (b : Bool) (s : State) : Res :=
  let o := s.warden.tp.get (b2n b)
  if o.win && o.start + 160000 ≤ s.mono then .next (s.tpCheck b) else .next s

/-- TEST_PULSE_END (R487, R488). -/
def execTestPulseEnd (b : Bool) (s : State) : Res :=
  let o := s.warden.tp.get (b2n b)
  if o.win && o.start + 320000 ≤ s.mono then .next (s.tpEnd b) else .next s

/-- WARDEN_RESET (R495, R496). -/
def execWardenReset (i : Initiator) (v : Word) (s : State) : Res := .next (s.wdResetWrite i v)

/-- WARDEN_PERMIT_REQUEST (R500): a write of WARDEN_PERMIT with KEY, the given TIME and REQ = 1. -/
def execWardenPermitRequest (i : Initiator) (time : BitVec 10) (s : State) : Res :=
  .next (s.wdPermitWrite i (w32 (0x96E1 * 65536 + time.toNat * 64 + 1)))

/-- WARDEN_PERMIT_END (R501): a write of WARDEN_PERMIT with KEY, the given TIME and END = 1. -/
def execWardenPermitEnd (i : Initiator) (time : BitVec 10) (s : State) : Res :=
  .next (s.wdPermitWrite i (w32 (0x96E1 * 65536 + time.toNat * 64 + 2)))

/-- WARDEN_PERMIT_EXPIRE (R501). -/
def execWardenPermitExpire (s : State) : Res :=
  if s.flag F.WARDEN_STATUS_PERMIT && s.warden.permitTo ≤ s.mono then .next s.permitEnd else .next s

end Sys2Proof.Machine
end

