-- ==== Sys2Proof/Machine/Bus.lean ====
section
/-!
DEFINITION. A write and a read of a register, block by block, under the access codes of Table SCOPE-4, the field classes and
each block's initiator rules (R4 to R9, R36, R37 and the register tables). Which initiator reaches which address is Reach's.
-/

namespace Sys2Proof.Machine

/-! ### Access codes (Table SCOPE-4) -/

/-- The W1C bits of a register whose other bits a write does not reach. -/
def w1cMask (a : Nat) : Nat :=
  let b := a / 0x10000
  let o := a % 0x10000
  if b = 0x4000 then
    if a = R.SYS_IMG_STATUS then 0x10000 else if a = R.SYS_ECC_SRAM ∨ a = R.SYS_ECC_MRAM ∨ a = R.SYS_PWR_STICKY then 3
    else if a = R.SYS_GPIO_EVT then 0xFFFF else if a = R.SYS_RESET_CAUSE then 0x1003F else 0
  else if a = R.CLK_STICKY ∨ a = R.EPOCH_STICKY ∨ a = R.SENSP_STICKY ∨ a = R.SENSG_STICKY ∨ a = R.RELAY_STICKY ∨
      a = R.COURH_STICKY ∨ a = R.PLC_STICKY then 0x3F
  else if a = R.SENSP_OVR ∨ a = R.SENSP_REFDIST then 0xFFFF
  else if a = R.SENSG_OVR ∨ a = R.SENSG_REFDIST then 0x3FF
  else if a = R.WCMPP_STICKY ∨ a = R.WCMPG_STICKY ∨ a = R.DRV_STICKY ∨ a = R.CUR_LSTICKY then 7
  else if a = R.WCMPP_TEST_FAIL then 0xFFFFFF
  else if b = 0x4003 ∧ 0x400 ≤ o ∧ o < 0x800 ∧ o % 0x40 = 0x30 then 8
  else if b = 0x4800 ∧ 0x400 ≤ o ∧ o < 0x680 ∧ o % 0x40 = 0x30 then 8
  else if (ix a (R.LP_STICKY 0) 0x40 6).isSome then 0x7F
  else if (ix a (R.PWM_STICKY 0) 0x100 14).isSome then 0x1F
  else if a = R.PWM_GSTICKY ∨ a = R.LANE_STICKY then 1
  else if (ix a (R.DRV_HB_STICKY 0) 0x20 8).isSome then 7
  else if (ix a (R.LANE_LSTICKY 0) 0x40 6).isSome then 0x1FF
  else if a = R.GRID_STICKY ∨ a = R.GRID_RT_STICKY then 0xF
  else if a = R.METER_STICKY ∨ a = R.DIAG_STICKY then 0xFF
  else if a = R.DIAG_MAINT_DONE ∨ a = R.DIAG_MAINT_REFUSED then 0xFFFFFFFF
  else if a = R.CUR_FIRST then 0x80000000
  else if (ix a (R.CUR_STICKY 0) 4 6).isSome then 0xFFFFFFFF
  else if a = R.WARDEN_STICKY then 0x373F
  else if a = R.PERF_STATUS then 0x10F0F
  else if a = R.PLINTH_STICKY then 0x7FD
  else if a = R.SV_STATUS 0 ∨ a = R.SV_STATUS 1 then 2
  else if a = R.SV_STICKY then 0xF
  else 0

/-- The RW bits of a register that any initiator may write, with no further rule. -/
def rwMask (a : Nat) : Nat :=
  let b := a / 0x10000
  if b = 0x4000 then
    if a = R.HIC_MTIMECMP_LO 0 ∨ a = R.HIC_MTIMECMP_LO 1 ∨ a = R.HIC_MTIMECMP_HI 0 ∨ a = R.HIC_MTIMECMP_HI 1 then 0xFFFFFFFF
    else if a = R.HIC_THRESHOLD 0 ∨ a = R.HIC_THRESHOLD 1 then 0xF
    else if (ix a (R.HIC_SRC 0 0) 4 64).isSome ∨ (ix a (R.HIC_SRC 1 0) 4 64).isSome then 0x1F
    else if a = R.SYS_GPIO_OUT ∨ a = R.SYS_GPIO_OE then 0xFF
    else if a = R.SYS_GPIO_IEN then 0xFFFF
    else 0
  else if a = R.SENSP_MON_MASK then 0x3F
  else if a = R.WCMPP_TEST_MASK then 0xFFFFFF
  else if a = R.CUR_CTRL then 0xF
  else if a = R.PERF_CTRL then 0xF
  else if a = R.PLINTH_WAKE_EN then 0xF
  else if a = R.PLINTH_TWW_ADDR then 0x17F
  else if a = R.PLINTH_ALARM then 0xFFFFFFFF
  else if (ix a (R.PLINTH_RETAIN 0) 4 8).isSome then 0xFFFFFFFF
  else if a = R.COURH_IRQ_EN then 0x3F
  else if a = R.COURH_EVENT_DST then 0xFFFF
  else if a = R.PLC_TX_LEVEL then 0xF
  else 0

/-- Clears the W1C bits written as 1, and puts the plain RW bits. [DEDUCED (unsafe), log row 25] -/
def State.plainWrite (s : State) (a : Nat) (v : Word) : State :=
  let c := BitVec.ofNat 32 (w1cMask a)
  let m := BitVec.ofNat 32 (rwMask a)
  if c = 0#32 ∧ m = 0#32 then s else s.wr a ((s.rd a &&& ~~~(v &&& c) &&& ~~~m) ||| (v &&& m))

/-- A QUIET field takes its bits of a written word, unless a further rule refuses the value. -/
def State.quietBits (s : State) (b : Blk) (running : Bool) (f : Fld) (bad : Nat → Bool) (v : Word) : State :=
  let x := bitsOf v.toNat f.lo f.len
  s.quietGate b running f x fun s => if bad x then s.cfgReject b else s.put f x

/-- A QUIET field that takes every value. [DEDUCED (unsafe), log row 24] -/
def State.quietAll (s : State) (b : Blk) (running : Bool) (f : Fld) (v : Word) : State := s.quietBits b running f (fun _ => false) v

/-! ### SYS, HIC -/

/-- A write of SYS_DOORBELL (R527): HPA sets bit 0 and clears bit 1, HPB the other way round. -/
def State.doorbell (s : State) (i : Initiator) (v : Word) : State :=
  let f0 : Fld := ⟨R.SYS_DOORBELL, 0, 1⟩
  let f1 : Fld := ⟨R.SYS_DOORBELL, 1, 1⟩
  let b0 := bitOf v.toNat 0
  let b1 := bitOf v.toNat 1
  if i = .hpa then (s.when b0 fun s => s.put f0 1).when b1 fun s => s.put f1 0
  else if i = .hpb then (s.when b0 fun s => s.put f0 0).when b1 fun s => s.put f1 1
  else s

/-- A write of SYS_SEM (R528): 0 releases it. [DEDUCED (unsafe), log row 82] -/
def State.semWrite (s : State) (i : Nat) (v : Word) : State := if v = 0#32 then s.wr (R.SYS_SEM i) 0#32 else s

/-- A read of SYS_SEM (R528). [DEDUCED (unsafe), log row 30; DEDUCED (unsafe), log row 82] -/
def State.semRead (s : State) (i : Nat) : State × Word :=
  (s.wr (R.SYS_SEM i) 1#32, if s.rd (R.SYS_SEM i) = 0#32 then 0#32 else 1#32)

/-- A write of SYS_HPB_ENTRY: HPA only; 4-aligned. -/
def State.hpbEntryWrite (s : State) (i : Initiator) (v : Word) : State :=
  if i = .hpa then s.wr R.SYS_HPB_ENTRY (v &&& 0xFFFFFFFC#32) else s.cfgReject .sysReset

/-- A write in SYS. -/
def State.writeSys (s : State) (i : Initiator) (a : Nat) (v : Word) : State :=
  if a = R.SYS_IMG_SELECT then s.imgSelect v
  else if a = R.SYS_IMG_CONFIRM then s.imgConfirm v 0
  else if a = R.SYS_DOORBELL then s.doorbell i v
  else if a = R.SYS_PD_CTRL then s.pdWrite i v
  else if a = R.SYS_OP then s.opWriteAll v
  else if a = R.SYS_PAD_RELEASE then s.padRelease v
  else if a = R.SYS_RESET then s.resetWrite i v
  else if a = R.SYS_WDT then s.wdtWrite i v
  else if a = R.SYS_WDT_KICK then s.wdtKick i v
  else if a = R.SYS_CORE_CTRL then s.coreCtrlWrite i v
  else if a = R.SYS_HPB_ENTRY then s.hpbEntryWrite i v
  else match ix a (R.SYS_SEM 0) 4 16 with
    | some k => s.semWrite k v
    | none =>
      let s := s.plainWrite a v
      if (a = R.HIC_SRC 0 1 ∨ a = R.HIC_SRC 1 1) ∧ bitOf v.toNat 9 then s.put ⟨a, 8, 1⟩ 0 else s

/-! ### CLK, EPOCH, SCHED -/

/-- A write of CLK_CTRL (R54, R65 to R67, R81, R82). -/
def State.clkCtrlWrite (s : State) (v : Word) : State :=
  let m := bitsOf v.toNat 14 2
  let s := if m = 3 then s.cfgReject .clk else s.put F.CLK_CTRL_SYNC_OUT_MODE m
  let s := s.quietAll .clk s.clkRunning F.CLK_CTRL_XTAL_CAP v
  let c := bitsOf v.toNat 0 1
  let s := s.quietGate .clk s.clkRunning F.CLK_CTRL_REF_SEL c fun s => s.refSelWrite c
  if bitOf v.toNat 4 then s.divsyncArm else s

/-- A write in CLK. -/
def State.writeClk (s : State) (a : Nat) (v : Word) : State :=
  if a = R.CLK_CTRL then s.clkCtrlWrite v
  else if a = R.CLK_N then (let n := bitsOf v.toNat 0 9; s.liveGate .clk F.CLK_N_N n fun s => s.clkNWrite n)
  else s.plainWrite a v

/-- The time transfer starts anew: a change of MODE (R109, R110). [DEDUCED (unsafe), log row 102] -/
def State.ttForget (s : State) : State :=
  { (s.put F.EPOCH_STATUS_TT_VALID 0) with ep := { s.ep with ttCount := 0, ttLast := none } }

/-- A write of EPOCH_CTRL (R96 to R98, R106). -/
def State.epochCtrlWrite (s : State) (v : Word) : State :=
  let m := bitsOf v.toNat 0 2
  let s := s.quietGate .epoch s.epochRunning F.EPOCH_CTRL_MODE m fun s =>
    if m = 3 then s.cfgReject .epoch else if m = s.get F.EPOCH_CTRL_MODE then s else (s.put F.EPOCH_CTRL_MODE m).ttForget
  let s := if bitOf v.toNat 4 then s.epochLoad else s
  let s := if bitOf v.toNat 5 then s.epochMarkArm else s
  if bitOf v.toNat 6 then s.put F.EPOCH_CTRL_RTC_CAP 1 else s

/-- A write of a register of a SCHED entry (R105). -/
def State.schedWrite (s : State) (i : Initiator) (e o : Nat) (v : Word) : State :=
  if o = 0x18 then s.schedCtrl i e v
  else if o = 0x1C then s
  else if s.schedState e = 1 then s.cfgReject .epoch
  else
    let m : Word := if o = 8 then 0xFFFF00FF#32 else if o = 0x14 then 0xFFFF#32 else 0xFFFFFFFF#32
    s.wr (R.SCHED_TIME_LO e + o) (v &&& m)

/-- A write in EPOCH. -/
def State.writeEpoch (s : State) (i : Initiator) (a : Nat) (v : Word) : State :=
  if a = R.EPOCH_CTRL then s.epochCtrlWrite v
  else if a = R.EPOCH_LOAD_LO ∨ a = R.EPOCH_LOAD_HI then s.quietAll .epoch s.epochRunning ⟨a, 0, 32⟩ v
  else if a = R.EPOCH_SYNC_COMP then s.quietAll .epoch s.epochRunning F.EPOCH_SYNC_COMP_C v
  else if a = R.EPOCH_RATE then
    (let r := bitsOf v.toNat 0 24; s.liveGate .epoch F.EPOCH_RATE_RATE r fun s => s.epochRateWrite r)
  else if a = R.EPOCH_SLEW then
    (let r := bitsOf v.toNat 0 24; s.liveGate .epoch F.EPOCH_SLEW_SLEW r fun s => s.epochSlewWrite r)
  else if 0x40020100 ≤ a ∧ a < 0x40020500 then s.schedWrite i ((a - 0x40020100) / 0x20) (a % 0x20) v
  else s.plainWrite a v

/-! ### SENSP, SENSG, WCMP -/

/-- A window group is not stopped (R9). -/
def State.wgRunning (s : State) (g : Nat) : Bool := s.flag (F.SENSP_WG_CTRL_EN g) || !s.wgIdle g

/-- A write of WG_CTRL (R8, R123, R127 to R129); members of a group that leaves burst mode run continuously from here (R147). -/
def State.wgCtrlWrite (s : State) (g : Nat) (v : Word) : State :=
  let run := s.wgRunning g
  let s := s.quietBits .sensp run (F.SENSP_WG_CTRL_LEN_MODE g) (fun x => x == 1 && s.get (F.SENSP_WG_CFG_TRIG_SRC g) != 1) v
  let burst := s.flag (F.SENSP_WG_CTRL_BURST g)
  let s := s.quietAll .sensp run (F.SENSP_WG_CTRL_BURST g) v
  let s := if burst then s.forEach (s.wgMembers g) fun s k => s.modCh k fun c => { c with contFrom := s.epoch } else s
  if bitOf v.toNat 0 == s.flag (F.SENSP_WG_CTRL_EN g) then s
  else if bitOf v.toNat 0 then s.wgEnable g else s.wgDisable g

/-- A write of RING_CTRL: SIZE_LOG2, judged by EN as it stands (R144, log row 12), then EN (R141, R412, R442).
[DEDUCED (unsafe), log row 12] -/
def State.ringCtrlWrite (s : State) (k : Nat) (v : Word) : State :=
  let b := sideBlk (chGrid k)
  let n := bitsOf v.toNat 8 4
  if (s.sens.ch.get k).claim ≠ 0 then s.cfgReject b
  else
    let s := if s.ringOn k then s.cfgReject b else s.put (F.CH_RING_CTRL_SIZE_LOG2 k) n
    if bitOf v.toNat 0 == s.ringOn k then s
    else if bitOf v.toNat 0 then s.ringEnable k else s.ringDisable k

/-- A write of a channel's register at an offset (Table SENS-11). [DEDUCED (unsafe), log row 39] -/
def State.chWrite (s : State) (k o : Nat) (a : Nat) (v : Word) : State :=
  let b := sideBlk (chGrid k)
  if o = 0 then (s.put (F.CH_CFG_ALIGN k) (bitsOf v.toNat 4 1)).rangeWrite k (bitsOf v.toNat 0 2)
  else if o = 0x20 then
    if (s.sens.ch.get k).claim ≠ 0 ∨ s.ringOn k then s.cfgReject b else s.wr (R.CH_RING_BASE k) v
  else if o = 0x24 then s.ringCtrlWrite k v
  else if o = 0x2C then (if (s.sens.ch.get k).claim ≠ 0 then s.cfgReject b else s.wr (R.CH_RING_RD k) v)
  else s.plainWrite a v

/-- A write in SENSP. -/
def State.writeSensp (s : State) (a : Nat) (v : Word) : State :=
  if 0x40030400 ≤ a ∧ a < 0x40030800 then s.chWrite ((a - 0x40030400) / 0x40) (a % 0x40) a v
  else match ix a (R.SENSP_WG_CTRL 0) 0x20 4, ix a (R.SENSP_WG_TIMING 0) 0x20 4 with
    | some g, _ => s.wgCtrlWrite g v
    | _, some g => s.quietBits .sensp (s.wgRunning g) (F.SENSP_WG_TIMING_LENGTH g) (fun x => decide (x < 8)) v
    | _, _ => if a = R.SENSP_MON_MASK then s.monMaskWrite v else s.plainWrite a v

/-- A write in SENSG. -/
def State.writeSensg (s : State) (a : Nat) (v : Word) : State :=
  if 0x48000400 ≤ a ∧ a < 0x48000680 then s.chWrite (16 + (a - 0x48000400) / 0x40) (a % 0x40) a v else s.plainWrite a v

/-- A write in WCMPP. -/
def State.writeWcmpp (s : State) (a : Nat) (v : Word) : State :=
  if a = R.WCMPP_CLEAR then s.wcClearWrite false v
  else match ix a (R.WC_THR 0) 0x20 14 with
    | some c => s.wcThrWrite c v
    | none => s.plainWrite a v

/-- A write in WCMPG. -/
def State.writeWcmpg (s : State) (a : Nat) (v : Word) : State :=
  if a = R.WCMPG_CLEAR then s.wcClearWrite true v
  else match ix a (R.WC_THR 14) 0x20 10 with
    | some c => s.wcThrWrite (14 + c) v
    | none => s.plainWrite a v

/-! ### LOOP, PWM, DRV, LANE -/

/-- A write in LOOP. -/
def State.writeLoop (s : State) (i : Initiator) (a : Nat) (v : Word) : State :=
  match ix a (R.LP_CTRL 0) 0x40 6 with
  | some p => s.lpCtrlWrite i p v
  | none => s.plainWrite a v

/-- A write of a unit's register at an offset (Table PWM-4). -/
def State.pwmRegWrite (s : State) (i : Initiator) (u o : Nat) (a : Nat) (v : Word) : State :=
  if o = 0x00 then s.pwmCtrlWrite i u v
  else if o = 0x04 then s.pwmPeriodWrite u v
  else if o = 0x08 then s.pwmShadowWrite u (F.PWM_CMPA u) v.toNat
  else if o = 0x0C then s.pwmShadowWrite u (F.PWM_CMPB u) v.toNat
  else if o = 0x10 then s.pwmShadowWrite u (F.PWM_PHASE u) v.toNat
  else if o = 0x14 then s.pwmFracWrite u v
  else if o = 0x20 then s.pwmForceWrite i u v
  else s.plainWrite a v

/-- A write in PWM. -/
def State.writePwm (s : State) (i : Initiator) (a : Nat) (v : Word) : State :=
  if a = R.PWM_START then s.pwmStartWrite i v
  else if a = R.PWM_STOP then s.pwmStopWrite i v
  else if a = R.PWM_COMMIT then s.pwmCommitWrite v
  else if a < 0x40060E00 then s.pwmRegWrite i ((a - 0x40060000) / 0x100) (a % 0x100) a v
  else s.plainWrite a v

/-- A write of LANE_CTRL.EN (R334). -/
def State.laneCtrlWrite (s : State) (i : Initiator) (l : Nat) (v : Word) : State :=
  if bitOf v.toNat 0 == s.flag (F.LANE_CTRL_EN l) then s
  else if bitOf v.toNat 0 then s.laneEnable i l else s.laneDisable i l

/-- A write in LANE. -/
def State.writeLane (s : State) (i : Initiator) (a : Nat) (v : Word) : State :=
  match ix a (R.LANE_CTRL 0) 0x40 6, ix a (R.LANE_COMP 0) 0x40 6 with
  | some l, _ => s.laneCtrlWrite i l v
  | _, some l => s.laneCompWrite l v
  | _, _ => s.plainWrite a v

/-! ### GRID, RELAY, METER, DIAG -/

/-- A write in GRID. -/
def State.writeGrid (s : State) (i : Initiator) (a : Nat) (v : Word) : State :=
  if a = R.GRID_MODE then (if bitsOf v.toNat 0 1 = s.get F.GRID_MODE_FORMING then s else s.formingWrite i (bitsOf v.toNat 0 1))
  else if a = R.GRID_P_CURT then s.gridSetWrite 0 v
  else if a = R.GRID_Q_SET then s.gridSetWrite 1 v
  else if a = R.GRID_PF_SET then s.gridSetWrite 2 v
  else if a = R.GRID_RT_CTRL then s.rtCtrlWrite i v
  else s.plainWrite a v

/-- A write in RELAY. -/
def State.writeRelay (s : State) (a : Nat) (v : Word) : State :=
  if a = R.RELAY_CFG then s.relayCfgWrite v else s.plainWrite a v

/-- A write in METER. -/
def State.writeMeter (s : State) (i : Initiator) (a : Nat) (v : Word) : State :=
  if a = R.METER_CTRL then
    if bitOf v.toNat 0 then s.meterEnable i else s.meterDisable i
  else s.plainWrite a v

/-- A write of DIAG_ARC_CTRL: each input's EN (R441). -/
def State.arcCtrlWrite (s : State) (i : Initiator) (v : Word) : State :=
  s.forEach (List.range 4) fun s x =>
    if bitOf v.toNat x then s.arcEnable i x else s.arcDisable i x

/-- A write of an input's arc registers: QUIET while its EN is 1; values outside the stated ranges are refused.
[DESIGN CHOICE (unsafe), log row 32] -/
def State.arcRegWrite (s : State) (x o : Nat) (v : Word) : State :=
  let run := s.arcOn x
  if o = 0 then
    let s := s.quietBits .diag run (F.DIAG_ARC_CFG_ALPHA_LOG2 x) (fun n => decide (n < 4 ∨ 12 < n)) v
    (s.quietAll .diag run (F.DIAG_ARC_CFG_BAND_MIN x) v).quietAll .diag run (F.DIAG_ARC_CFG_THR x) v
  else if o = 4 then
    let s := s.quietBits .diag run (F.DIAG_ARC_WIN_K x) (fun n => decide (n < 16 ∨ 1000 < n)) v
    s.quietBits .diag run (F.DIAG_ARC_WIN_M x) (fun n => decide (n < 1 ∨ s.get (F.DIAG_ARC_WIN_K x) < n)) v
  else if o = 8 then
    (s.quietAll .diag run (F.DIAG_ARC_NOTCH_NOTCH_EN x) v).quietAll .diag run (F.DIAG_ARC_NOTCH_NOTCH_W x) v
  else if o = 0x0C then s.quietAll .diag run (F.DIAG_ARC_IMIN_IMIN x) v
  else if 0x20 ≤ o ∧ o < 0x40 ∧ o % 4 = 0 then
    let b := (o - 0x20) / 4
    let bad := fun (n : Nat) => n == 0
    (s.quietBits .diag run (F.DIAG_ARC_BAND_HI_BIN x b) bad v).quietBits .diag run (F.DIAG_ARC_BAND_LO_BIN x b) bad v
  else s

/-- Some I-V trace runs. -/
def State.ivRuns (s : State) : Bool := [4, 5, 6, 7].any s.maintRuns

/-- An entry buffer of a trace lies in system SRAM, 4 KB aligned (R450). [DESIGN CHOICE (unsafe), log row 32] -/
def ivBaseBad (v : Nat) : Bool := v % 0x1000 != 0 || v < 0x20000000 || decide (0x203FC000 ≤ v)

/-- A write in DIAG. [DESIGN CHOICE (unsafe), log row 32] -/
def State.writeDiag (s : State) (i : Initiator) (a : Nat) (v : Word) : State :=
  if a = R.DIAG_MAINT_REQ then s.maintArrive s.epoch (.reg i) (bitsOf v.toNat 0 8)
  else if a = R.DIAG_MAINT_ABORT then s.maintAbortWrite v
  else if a = R.DIAG_ARC_CTRL then s.arcCtrlWrite i v
  else if 0x400A0200 ≤ a ∧ a < 0x400A0300 then s.arcRegWrite ((a - 0x400A0200) / 0x40) (a % 0x40) v
  else if a = R.DIAG_IV_CFG then s.quietBits .diag s.ivRuns F.DIAG_IV_CFG_TIME (fun n => decide (n < 100 ∨ 500 < n)) v
  else if a = R.DIAG_IV_BASE then s.quietBits .diag s.ivRuns ⟨a, 0, 32⟩ ivBaseBad v
  else if a = R.DIAG_IV_VHI ∨ a = R.DIAG_IV_VLO then s.quietAll .diag s.ivRuns ⟨a, 0, 32⟩ v
  else if a = R.DIAG_ISO_LIMIT then s.quietAll .diag (s.maintRuns 8) F.DIAG_ISO_LIMIT_LIMIT v
  else s.plainWrite a v

/-! ### PERF -/

/-- CLR of a core: its counters return to 0 (Table HOK-8). -/
def State.perfClear (s : State) (k : Nat) : State :=
  s.modHok (k / 2) fun h => { h with cnt := h.cnt.filter fun e => !(96 * (k % 2) ≤ e.1 && e.1 < 96 * (k % 2) + 96) }

/-- A write of PERF_ARCH_CTRL (R532, Table HOK-9). An enable starts the interval and the stop on a full buffer anew. -/
def State.archCtrlWrite (s : State) (k : Nat) (v : Word) : State :=
  let run := s.flag (F.PERF_ARCH_CTRL_EN k)
  let s := s.quietBits .perf run (F.PERF_ARCH_CTRL_EVENT k) (fun n => decide (0x5F < n)) v
  let s := s.quietBits .perf run (F.PERF_ARCH_CTRL_K k) (fun n => decide (n < 8 ∨ 24 < n)) v
  let s := s.quietAll .perf run (F.PERF_ARCH_CTRL_STOP_FULL k) v
  let on := bitOf v.toNat 0
  let s := s.put (F.PERF_ARCH_CTRL_EN k) (b2n on)
  if on && !run then
    s.modHok (k / 2) fun h => { h with
      arch := h.arch.filter fun e => !(96 * (k % 2) ≤ e.1 && e.1 < 96 * (k % 2) + 96)
      archFull := bitsPut h.archFull (k % 2) 1 0 }
  else s

/-- A write in PERF. -/
def State.writePerf (s : State) (a : Nat) (v : Word) : State :=
  if a = R.PERF_CTRL then (s.plainWrite a v).forEach ((List.range 4).filter fun k => bitOf v.toNat (8 + k)) State.perfClear
  else match ix a (R.PERF_ARCH_CTRL 0) 0x20 4 with
    | some k => s.archCtrlWrite k v
    | none => s.plainWrite a v

/-! ### COURH, PLC -/

/-- The host-to-device buffer is emptied (R640). -/
def State.h2dDone (s : State) (i : Initiator) (v : Word) : State :=
  if i ≠ .hpa then s.cfgReject .courh
  else if bitOf v.toNat 0 then
    ((s.put F.COURH_STATUS_H2D_FULL 0).put F.COURH_STATUS_H2D_DOC 0).wr R.COURH_H2D_LEN 0#32
  else s

/-- The bytes HPA posts (R641). -/
def State.d2hMsg (s : State) : List Byte := s.rdBytes R.COURH_D2H_BUF (min 4096 (s.get F.COURH_D2H_LEN_LEN))

/-- A write of COURH_D2H_LEN (R599, R641): the message waits for MSG_GET, or goes out at once as a frame of the service channel. -/
def State.d2hPost (s : State) (i : Initiator) (v : Word) : State :=
  if i ≠ .hpa then s.cfgReject .courh
  else
    let s := (s.put F.COURH_D2H_LEN_LEN (bitsOf v.toNat 0 13)).put F.COURH_D2H_LEN_DOC (bitsOf v.toNat 15 1)
    if bitOf v.toNat 15 then
      { s with resp := { words := [], bytes := if s.docPads then svcFrame 1 s.d2hMsg else [], result := 0, fault := false } }
    else s.put F.COURH_STATUS_D2H_FULL (b2n (s.get F.COURH_D2H_LEN_LEN != 0))

/-- A write of COURH_HSPI_CFG (R639). -/
def State.hspiLock (s : State) (i : Initiator) (v : Word) : State :=
  if i ≠ .hpa then s.cfgReject .courh
  else if bitOf v.toNat 0 then (s.put F.COURH_HSPI_CFG_LOCK 1).put F.COURH_STATUS_LOCKED 1
  else s

/-- A write in COURH. -/
def State.writeCourh (s : State) (i : Initiator) (a : Nat) (v : Word) : State :=
  if a = R.COURH_H2D_DONE then s.h2dDone i v
  else if a = R.COURH_D2H_LEN then s.d2hPost i v
  else if a = R.COURH_HSPI_CFG then s.hspiLock i v
  else if 0x400C2000 ≤ a ∧ a < 0x400C3000 then (if i = .hpa then s.wrW a v else s.cfgReject .courh)
  else s.plainWrite a v

/-- A write of PLC_CTRL (R625): HPA only. -/
def State.plcCtrlWrite (s : State) (i : Initiator) (v : Word) : State :=
  if i ≠ .hpa then s.cfgReject .plc
  else
    let m := bitsOf v.toNat 1 2
    let s := if m = 3 then s.cfgReject .plc else s.put F.PLC_CTRL_MOD_MAX m
    if bitOf v.toNat 0 then (if s.pdOn 10 && s.pdOn 11 then s.put F.PLC_CTRL_EN 1 else s.cfgReject .plc)
    else if s.flag F.PLC_CTRL_EN then (s.put F.PLC_CTRL_EN 0).plcAbort
    else s

/-- A write of PLC_ADDR (R622). -/
def State.plcAddrWrite (s : State) (v : Word) : State :=
  let run := s.flag F.PLC_CTRL_EN
  (s.quietAll .plc run F.PLC_ADDR_PAN v).quietBits .plc run F.PLC_ADDR_SHORT (fun n => decide (0xFFFE ≤ n)) v

/-- A write of PLC_TT_CFG (R645, R646): HPA only. -/
def State.ttCfgWrite (s : State) (i : Initiator) (v : Word) : State :=
  if i ≠ .hpa then s.cfgReject .plc
  else
    let n := bitsOf v.toNat 2 14
    let s := if n < 100 ∨ 1000 < n then s.cfgReject .plc else s.put F.PLC_TT_CFG_INTERVAL n
    let s := s.put F.PLC_TT_CFG_MASTER_ADDR (bitsOf v.toNat 16 16)
    (s.put F.PLC_TT_CFG_MASTER (bitsOf v.toNat 1 1)).put F.PLC_TT_CFG_EN (bitsOf v.toNat 0 1)

/-- A write in PLC. -/
def State.writePlc (s : State) (i : Initiator) (a : Nat) (v : Word) : State :=
  if a = R.PLC_CTRL then s.plcCtrlWrite i v
  else if a = R.PLC_ADDR then s.plcAddrWrite v
  else if a = R.PLC_TT_CFG then s.ttCfgWrite i v
  else s.plainWrite a v

/-! ### PLINTH, CURATOR, WARDEN, SVAUTH -/

/-- A write in PLINTH (R549, R553, R554, R558, R563). -/
def State.writePlinth (s : State) (i : Initiator) (a : Nat) (v : Word) : State :=
  if a = R.PLINTH_CTRL then (if bitOf v.toNat 0 then s.startRequest else s)
  else if a = R.PLINTH_SLEEP then s.sleepWrite i v
  else if a = R.PLINTH_RTC_SEC then (if i = .hpa then s.wr a v else s.cfgReject .plinth)
  else if a = R.PLINTH_RTC_TRIM then
    let t := signedOf 16 v.toNat
    if i ≠ .hpa ∨ t < -16384 ∨ 16384 < t then s.cfgReject .plinth else s.put F.PLINTH_RTC_TRIM_TRIM (bitsOf v.toNat 0 16)
  else if a = R.PLINTH_SESSION then
    let n := bitsOf v.toNat 0 10
    if n < 1 ∨ 1000 < n then s.cfgReject .plinth else s.put F.PLINTH_SESSION_LIMIT n
  else s.plainWrite a v

/-- A write in CURATOR. -/
def State.writeCur (s : State) (i : Initiator) (a : Nat) (v : Word) : State :=
  if a = R.CUR_UNFENCE then s.curUnfenceWrite i v
  else if a = R.CUR_INJECT then s.curInjectWrite v
  else match ix a (R.CUR_SEV 0) 4 48 with
    | some k => s.curSevWrite k v
    | none => s.plainWrite a v

/-- A write in WARDEN. -/
def State.writeWarden (s : State) (i : Initiator) (a : Nat) (v : Word) : State :=
  if a = R.WARDEN_RESET then s.wdResetWrite i v
  else if a = R.WARDEN_PERMIT then s.wdPermitWrite i v
  else s.plainWrite a v

/-- A write in SVAUTH by a pair: SV_CMD starts a command on its channel (R590); the request buffers. -/
def State.writeSv (s : State) (a : Nat) (v : Word) : State :=
  if a = R.SV_CMD 0 then s.svPost 0 (bitsOf v.toNat 0 8)
  else if a = R.SV_CMD 1 then s.svPost 1 (bitsOf v.toNat 0 8)
  else if (R.SV_REQ 0 ≤ a ∧ a < R.SV_REQ 0 + 0x1000) ∨ (R.SV_REQ 1 ≤ a ∧ a < R.SV_REQ 1 + 0x1000) then s.wrW a v
  else s.plainWrite a v

/-! ### The registers as one -/

/-- A write of a word to a register by an initiator. A register that is read-only or FIXED, and an address that names none, takes
nothing (Table SCOPE-4). [DEDUCED (unsafe), log row 25] -/
def State.regWrite (s : State) (i : Initiator) (a : Nat) (v : Word) : State :=
  let b := a / 0x10000
  if b = 0x4000 then s.writeSys i a v
  else if b = 0x4001 then s.writeClk a v
  else if b = 0x4002 then s.writeEpoch i a v
  else if b = 0x4003 then s.writeSensp a v
  else if b = 0x4004 then s.writeWcmpp a v
  else if b = 0x4005 then s.writeLoop i a v
  else if b = 0x4006 then s.writePwm i a v
  else if b = 0x4008 then s.writeGrid i a v
  else if b = 0x4009 then s.writeMeter i a v
  else if b = 0x400A then s.writeDiag i a v
  else if b = 0x400B then s.writePerf a v
  else if b = 0x400C then s.writeCourh i a v
  else if b = 0x400D then s.writePlinth i a v
  else if b = 0x4800 then s.writeSensg a v
  else if b = 0x4801 then s.writeWcmpg a v
  else if b = 0x4802 then s.writeLane i a v
  else if b = 0x4803 then s.writeRelay a v
  else if b = 0x4804 then s.writePlc i a v
  else if b = 0x5000 then s.writeCur i a v
  else if b = 0x5001 then s.writeWarden i a v
  else if b = 0x5800 then s.writeSv a v
  else s.plainWrite a v

/-- The address lies in a buffer that reads as bytes of memory: COURH's two and the mailbox's four. -/
def inBuffer (a : Nat) : Bool :=
  (0x400C1000 ≤ a && a < 0x400C3000) || (0x58001000 ≤ a && a < 0x58003000) || (0x58005000 ≤ a && a < 0x58007000)

/-- A latch of the upper word of Epoch at a read of the lower (R88, Table HOK-8). -/
def State.mtimeRead (s : State) (q : Nat) : State × Word := (s.wr (R.HIC_MTIME_HI q) (w32 (s.epoch / 2 ^ 32)), s.now32)

/-- A read of PERF_CNT_LO(k, e) (R530). -/
def State.perfRead (s : State) (k e : Nat) : State × Word :=
  let n := s.perfCnt k e
  (s.wr (R.PERF_CNT_HI k e) (w32 (n / 2 ^ 32)), w32 n)

/-- A read of PLINTH_RTC_SUB (R549): the cycle within the second, as it stands now. -/
def State.subRead (s : State) : State × Word :=
  let s := s.cycAdvance
  (s, w32 ((s.plinth.cyc - s.plinth.secFrom) % 2 ^ 15))

/-- A read of a register: its word, and what the read does. [DESIGN CHOICE (unsafe), log row 20] -/
def State.regRead (s : State) (a : Nat) : State × Word :=
  if inBuffer a then (s, s.rdW a)
  else if a = R.EPOCH_NOW_LO then (s.wr R.EPOCH_NOW_HI (w32 (s.epoch / 2 ^ 32)), s.now32)
  else if a = R.EPOCH_BAR then (s.put F.EPOCH_BAR_SKEW_MAX 0, s.rd a)
  else if a = R.HIC_MTIME_LO 0 then s.mtimeRead 0
  else if a = R.HIC_MTIME_LO 1 then s.mtimeRead 1
  else if a = R.PLINTH_CYC_LO then s.cycRead
  else if a = R.PLINTH_RTC_SUB then s.subRead
  else match ix a (R.SYS_SEM 0) 4 16, ix a (R.METER_DELTA 0 0) 4 16, ix a (R.METER_TOT_LO 0 0) 8 16 with
    | some k, _, _ => s.semRead k
    | _, some n, _ => s.deltaRead (n / 4) (n % 4)
    | _, _, some n => s.totRead (n / 4) (n % 4)
    | _, _, _ =>
      if 0x400B1000 ≤ a ∧ a < 0x400B2000 ∧ a % 8 = 0 ∧ a % 0x400 < 8 * 96 then
        s.perfRead ((a - 0x400B1000) / 0x400) (a % 0x400 / 8)
      else (s, s.view a)

end Sys2Proof.Machine
end

