-- ==== Sys2Proof/Machine/Reach.lean ====
section
/-!
DEFINITION. Which initiator reaches which address, and what a read or a write there does (Tables HOK-3 and COU-7, R519, R520,
R531, R564, R592, R597, R638).
-/

namespace Sys2Proof.Machine

/-! ### The address map (Table HOK-3) -/

/-- The regions of the address map; hole: no region. -/
inductive Region where
  | rom | mram | mramSv | sram | arch | tcm (p : Nat) | spRam | mailbox | reg | hole
  deriving DecidableEq, Repr

/-- The register block at an address and the power domain it lies in (Table PWR-1); none where there is no block. -/
def blockPd (a : Nat) : Option Nat :=
  let b := a / 0x10000
  if b = 0x4003 ∨ b = 0x4004 then some 8
  else if b = 0x4007 then some 9
  else if b = 0x400C then some 11
  else if b = 0x400D then some 0
  else if 0x4000 ≤ b ∧ b < 0x400E then some 1
  else if 0x4800 ≤ b ∧ b < 0x4805 then some 10
  else if b = 0x5000 ∨ b = 0x5001 then some 1
  else if b = 0x5800 then some 7
  else none

/-- The region an address lies in. -/
def regionOf (a : Nat) : Region :=
  let h := memHome a
  if a < 0x20000 then .rom
  else if 0x10000000 ≤ a ∧ a < 0x11000000 then (if 0x10FF1000 ≤ a ∧ a < 0x11000000 then .mramSv else .mram)
  else if 0x20000000 ≤ h ∧ h < 0x20400000 then (if 0x203FC000 ≤ h then .arch else .sram)
  else if 0x30000000 ≤ a ∧ a < 0x30060000 then .tcm ((a - 0x30000000) / 0x10000)
  else if 0x31000000 ≤ a ∧ a < 0x31080000 then .spRam
  else if a / 0x10000 = 0x5800 then .mailbox
  else if (blockPd a).isSome then .reg
  else .hole

/-- A cacheable address (Table HOK-3). -/
def cacheable (a : Nat) : Bool := a < 0x20000 || (0x10000000 ≤ a && a < 0x11000000) || (0x20000000 ≤ a && a < 0x20400000)

/-- The power domain of an address is on, and for the grid side the barrier link is trained (R520). [DEDUCED (unsafe), log row 28] -/
def State.powered (s : State) (a : Nat) : Bool :=
  match regionOf a with
  | .tcm p => s.pdOn (pairPd p)
  | .spRam => s.pdOn 6
  | .reg | .mailbox =>
    match blockPd a with
    | some 0 => true
    | some 10 => s.pdOn 10 && s.flag F.EPOCH_STATUS_BAR_CAL_DONE
    | some d => s.pdOn d
    | none => false
  | _ => true

/-! ### Parts of a word -/

/-- The n bytes at offset o of a word, as a number. [DEDUCED (safe), log row 27] -/
def wordPart (w : Word) (o n : Nat) : Nat := bitsOf w.toNat (8 * o) (8 * n)

/-- A word with n bytes at offset o replaced. [DEDUCED (safe), log row 27] -/
def wordMerge (w : Word) (o n v : Nat) : Word := w32 (bitsPut w.toNat (8 * o) (8 * n) v)

/-! ### The cores (R510, R518 to R520, R531, R564, R592, R614) -/

/-- A pair's own window of the mailbox, or the registers both may reach (R592). -/
def mailboxFor (q a : Nat) : Bool := a / 0x4000 % 4 == q || a / 0x4000 % 4 == 2

/-- Whether pair q reaches an address, to read (R510, R520, R564, R592, R614). [DEDUCED (unsafe), log row 28] -/
def State.coreReads (s : State) (q a : Nat) : Bool :=
  match regionOf a with
  | .rom => q == 0 && s.inFoyer
  | .mramSv | .hole => false
  | .mailbox => mailboxFor q a && s.powered a
  | _ => s.powered a

/-- Whether pair q reaches an address, to write (R519, R531). [DEDUCED (unsafe), log row 28] -/
def State.coreWrites (s : State) (q a : Nat) : Bool :=
  match regionOf a with
  | .rom | .mram | .mramSv | .arch | .hole => false
  | .mailbox => mailboxFor q a && s.powered a
  | _ => s.powered a

/-- A byte of a memory region as a core reads it. -/
def State.coreByte (s : State) (a : Nat) : Byte := if a < 0x20000 then Config.romByte a else s.rdB a

/-- n bytes of memory from an address, as a number. -/
def State.memRead (s : State) (a n : Nat) : Nat := leNat ((List.range n).map fun k => s.coreByte (a + k))

/-- An address of the work area between executions: its content is undefined (Table LOOP-1), and a read draws it. -/
def State.workUndef (s : State) (p a : Nat) : Bool :=
  0xA000 ≤ a % 0x10000 && a % 0x10000 < 0xF000 && !(s.loop.get p).running

/-- A read of n bytes inside one word by pair q, past the caches; none is an access fault, also where the word is uncorrectable (R521). -/
def State.coreRead (s : State) (q a n : Nat) : State × Option Nat :=
  if !s.coreReads q a then (s, none)
  else match regionOf a with
    | .reg | .mailbox => let x := s.regRead (a / 4 * 4); (x.1, some (wordPart x.2 (a % 4) n))
    | .tcm p => if s.workUndef p a then (s.drew, some (s.drawn % 2 ^ (8 * n))) else (s, some (s.memRead a n))
    | _ => if s.eccBad a then (s.eccFound a, none) else (s, some (s.memRead a n))

/-- The initiator a pair is. -/
def pairInit (q : Nat) : Initiator := if q = 0 then .hpa else .hpb

/-- The word that a store of n bytes brings to a register: a store of less than a word brings bytes that no rule states: drawn.
[DEDUCED (safe), log row 27] -/
def State.storeWord (s : State) (a n v : Nat) : Word :=
  if n = 4 then w32 v else wordMerge (w32 s.drawn) (a % 4) n v

/-- A store of a byte or halfword reads the word first, and finds it uncorrectable (R522). -/
def State.storeFinds (s : State) (a n : Nat) : Bool := n != 4 && s.eccBad a

/-- A write of n bytes inside one word by pair q; false is an access fault. A store that reads an uncorrectable word first is not made
(R522). A write to the Vault is refused also by METER's
CFG_REJECT (R428). [DEDUCED (safe), log row 27; DEDUCED (unsafe), log row 106] -/
def State.coreWrite (s : State) (q a n v : Nat) : State × Bool :=
  if !s.coreWrites q a then (if 0x10FE0000 ≤ a ∧ a < 0x10FF1000 then s.cfgReject .meter else s, false)
  else match regionOf a with
    | .reg | .mailbox =>
      let w := s.storeWord a n v
      let s := if n = 4 then s else s.drew
      (s.regWrite (pairInit q) (a / 4 * 4) w, true)
    | .tcm p => (s.tcmWrite p (a % 0x10000 / 4 * 4) (wordMerge (s.slotHeld (a / 4 * 4)) (a % 4) n v), true)
    | _ => if s.storeFinds a n then (s.eccFound a, false) else (s.wrBytes a (leBytes n v), true)

/-! ### Host SPI, Courier and Docent (R564, R597, R638) -/

/-- Table COU-7, reads: boot ROM and mailbox are not reached; the Svauth-only region of MRAM reads 0. [DEDUCED (unsafe), log row 28] -/
def State.hostReads (s : State) (a : Nat) : Bool :=
  match regionOf a with
  | .rom | .mailbox | .hole => false
  | _ => s.powered a

/-- Table COU-7, writes. [DEDUCED (unsafe), log row 28] -/
def State.hostWrites (s : State) (i : Initiator) (a : Nat) : Bool :=
  match regionOf a with
  | .sram | .spRam => i != .courier && s.powered a
  | .tcm _ => (i != .courier || (0x4000 ≤ a % 0x10000 && a % 0x10000 < 0x4400)) && s.powered a
  | .reg => s.powered a
  | _ => false

/-- ACCESS sets (R638). -/
def State.accessSet (s : State) : State := s.set1 F.COURH_STICKY_ACCESS

/-- A word as a reached address reads; an uncorrectable one reads 0 (R521). [DEDUCED (safe), log row 27] -/
def State.wordAt (s : State) (a : Nat) : State × Word :=
  match regionOf a with
  | .reg => s.regRead a
  | .mramSv => (s, 0#32)
  | .tcm p => if s.workUndef p a then (s.drew, w32 s.drawn) else (s, s.rdW a)
  | _ => if s.eccBad a then (s.eccFound a, 0#32) else (s, s.rdW a)

/-- A read of a word by the host SPI or Courier, and whether its address is reached. -/
def State.hostRead (s : State) (addr : Nat) : State × Word × Bool :=
  let a := addr / 4 * 4
  if s.hostReads a then (let x := s.wordAt a; (x.1, x.2, true)) else (s.accessSet, 0#32, false)

/-- What a write of a word does at an address that is reached. -/
def State.wordPut (s : State) (i : Initiator) (a : Nat) (v : Word) : State :=
  match regionOf a with
  | .reg => s.regWrite i a v
  | .tcm p => s.tcmWrite p (a % 0x10000) v
  | _ => s.wrW a v

/-- A write of a word by the host SPI or Courier, and whether its address is reached. [DEDUCED (unsafe), log row 106] -/
def State.hostWrite (s : State) (i : Initiator) (addr : Nat) (v : Word) : State × Bool :=
  let a := addr / 4 * 4
  if s.hostWrites i a then (s.wordPut i a v, true)
  else (((if 0x10FE0000 ≤ a ∧ a < 0x10FF1000 then s.cfgReject .meter else s)).accessSet, false)

/-- Docent reaches the registers, system SRAM, the TCM windows and SP local RAM (R597). -/
def State.docReads (s : State) (a : Nat) : Bool :=
  match regionOf a with
  | .sram | .arch | .tcm _ | .spRam | .reg => s.powered a
  | _ => false

/-- The areas that R131, R413, R442 and R531 reserve, but for the loop pairs' own: a write there is refused under R188. -/
def docReserved (a : Nat) : Bool :=
  match regionOf a with
  | .arch => true
  | .spRam => (0x31060000 ≤ a && a < 0x31068000) || (0x31070000 ≤ a && a < 0x31076000) || 0x3107FC00 ≤ a
  | _ => false

/-! ### Whether a write was refused (R597, R628) -/

/-- The flags a refusal sets (R8, R37 and the chapters' own). -/
def rejectFlds : List Fld :=
  ([.clk, .epoch, .sensp, .sensg, .wcmpp, .wcmpg, .pwmGlobal, .drv, .laneAll, .grid, .relay, .meter, .diag, .curator, .warden, .perf,
    .sysPower, .sysReset, .plinth, .svauth, .courh, .plc] : List Blk).map Blk.rejectFld ++
  (List.range 6).map (fun p => (Blk.loop p).rejectFld) ++ (List.range 14).map (fun u => (Blk.pwm u).rejectFld) ++
  (List.range 6).map (fun l => (Blk.lane l).rejectFld) ++
  [F.SYS_IMG_STATUS_SEL_REJECT, F.WCMPP_STICKY_CLR_REFUSED, F.WCMPG_STICKY_CLR_REFUSED, F.RELAY_STICKY_REFUSED,
    F.CUR_LSTICKY_UNFENCE_REFUSED, F.WARDEN_STICKY_PERMIT_REFUSED, F.WARDEN_STICKY_RESET_REFUSED, F.PLINTH_STICKY_REFUSED_LOW,
    ⟨R.DIAG_MAINT_REFUSED, 0, 32⟩]

/-- A refusal flag stands. [DEDUCED (unsafe), log row 26] -/
def State.rejected (s : State) : Bool := rejectFlds.any fun f => s.get f != 0

/-- Every refusal flag cleared. [DEDUCED (unsafe), log row 26] -/
def State.rejectsClr (s : State) : State := rejectFlds.foldl (fun (s : State) f => s.put f 0) s

/-- The write of a word that an address takes is refused there: with the refusal flags clear, it sets one.
[DEDUCED (unsafe), log row 23; DEDUCED (unsafe), log row 26] -/
def State.refuses (s : State) (i : Initiator) (a : Nat) (v : Word) : Bool :=
  ((s.rejectsClr).wordPut i a v).rejected

/-! ### REGISTER_WRITE -/

/-- A word write by any initiator, at a word address. -/
def State.busWrite (s : State) (i : Initiator) (addr : Nat) (v : Word) : State :=
  let a := addr / 4 * 4
  let core := fun (x : State × Bool) =>
    if x.2 then x.1 else { x.1 with resp := { words := [], bytes := [], result := 0, fault := true } }
  match i with
  | .hpa => core (s.coreWrite 0 a 4 v.toNat)
  | .hpb => core (s.coreWrite 1 a 4 v.toNat)
  | .hspi => (s.hostWrite .hspi a v).1
  | .courier => (s.hostWrite .courier a v).1
  | .docent => if s.docReads a && !docReserved a then s.wordPut .hspi a v else s

/-- REGISTER_WRITE (R6 to R9, R36, R37): a write reaches its block, which takes it to a shadow or to the field, or refuses it; where
the initiator does not reach the address, nothing is written: an access fault of a core, ACCESS for the host SPI and Courier. -/
def execRegisterWrite (i : Initiator) (addr : BitVec 32) (v : Word) (s : State) : Res := .next (s.busWrite i addr.toNat v)

end Sys2Proof.Machine
end

