-- ==== Sys2Proof/Machine/CourOps.lean ====
section
/-!
DEFINITION. Courier's shared operations: a request is counted, found among the kept responses or served, and answered (R627 to
R636); what a reply carries; the relay to Svauth; the reading and writing of addresses; EVENTs.
-/

namespace Sys2Proof.Machine

/-! ### Results (Table COU-5) -/
namespace Cour
@[simp] abbrev badType : Nat := 1
@[simp] abbrev badArg : Nat := 2
@[simp] abbrev authFail : Nat := 3
@[simp] abbrev refused : Nat := 5
@[simp] abbrev busy : Nat := 6
@[simp] abbrev state : Nat := 7
@[simp] abbrev access : Nat := 8
end Cour

/-- What a request gives: the state, the RESULT, the response's payload. -/
abbrev CourAns := State × Nat × List Byte

/-- A Svauth result code as a RESULT (R629, R635). [DEDUCED (unsafe), log row 97] -/
def courCode (c : Nat) : Nat :=
  if c = Sv.ok then 0
  else if c = Sv.badArg then Cour.badArg
  else if c = Sv.authFail then Cour.authFail
  else if c = Sv.replay then 4
  else if c = Sv.busy ∨ c = Sv.fenced then Cour.busy
  else if c = Sv.state then Cour.state
  else Cour.refused

/-- A mailbox result as an answer. [DEDUCED (unsafe), log row 97] -/
def courOf (x : SvRes) : CourAns := (x.1, courCode x.2.1, x.2.2)

/-! ### Who answers (R593, R599, R627, R631) -/

/-- A Hokuon pair is released from reset, powered, and neither halted nor fenced. [DEDUCED (unsafe), log row 81] -/
def State.pairLive (s : State) (q : Nat) : Bool :=
  s.pdOn (2 + q) && (s.hok.get q).run && !(s.hok.get q).stopped && !s.dbgHalted q &&
  !(q == 1 && bitOf (s.rd R.CUR_FENCED_OTHER).toNat 1)

/-- A message that a carrier brings is taken: COURH is powered, the carrier in service, and HPA runs. -/
def State.courUp (s : State) (c : Carrier) : Bool :=
  s.pdOn 11 && s.pairLive 0 && match c with
  | .host => true
  | .plc => s.plcOn
  | .doc => s.docPads

/-- A broadcast request. -/
def msgBroad (h : MsgHdr) : Bool := h.dst == 0xFFFF#16

/-- The request is for this device: DST is its short address, broadcast, or 0xFFFE on the host's carriers (R631).
[DEDUCED (unsafe), log row 97] -/
def State.courFor (s : State) (h : MsgHdr) : Bool :=
  msgBroad h || h.dst.toNat == s.ownAddr || (h.dst == 0xFFFE#16 && h.car != .plc)

/-! ### Answers and kept responses (R631, R632) -/

/-- A response leaves on the carrier that brought the request: it is counted, and over powerline its segments wait for the MAC. -/
def State.courSend (s : State) (h : MsgHdr) (bs : List Byte) : State :=
  let s := s.put F.COURH_CNT_RSP ((s.get F.COURH_CNT_RSP + 1) % 65536)
  let s := { s with resp := { words := [], bytes := bs, result := bU8 bs 3, fault := false } }
  if h.car = .plc then s.plcQueue h.txid.toNat h.src.toNat bs else s

/-- The response is kept: the last 16 of its SRC, for 10 s. -/
def State.courKeep (s : State) (h : MsgHdr) (bs : List Byte) : State :=
  s.modCour fun c =>
    let live := c.kept.filter fun x => s.mono < x.at_ + 8000000000
    { c with kept :=
        { src := h.src.toNat, txid := h.txid.toNat, rsp := bs, at_ := s.mono } ::
        ((live.filter fun x => x.src == h.src.toNat).take 15 ++ live.filter fun x => x.src != h.src.toNat) }

/-- The kept response to a request, where it repeats one (R632). -/
def State.courKept (s : State) (h : MsgHdr) : Option Kept :=
  s.cour.kept.find? fun x => x.src == h.src.toNat && x.txid == h.txid.toNat && decide (s.mono < x.at_ + 8000000000)

/-- The response to a request, from its TYPE, RESULT and payload. [DEDUCED (unsafe), log row 101] -/
def State.courRsp (s : State) (ty : Nat) (h : MsgHdr) (r : Nat) (p : List Byte) : List Byte :=
  msgBytes ty 1 r h.txid.toNat s.ownAddr h.src.toNat p

/-- A request is taken (R631, R632): one that repeats a kept TXID gets the kept response, another is executed once and answered;
a broadcast gets no answer. [DEDUCED (unsafe), log row 97] -/
def State.courTake (s : State) (ty : Nat) (h : MsgHdr) (k : State → CourAns) : State :=
  if !s.courUp h.car || !s.courFor h then s
  else
    let s := s.put F.COURH_CNT_REQ ((s.get F.COURH_CNT_REQ + 1) % 65536)
    match s.courKept h with
    | some x => if x.rsp.isEmpty then s else s.courSend h x.rsp
    | none =>
      let x := k s
      if msgBroad h then x.1.courKeep h []
      else
        let bs := x.1.courRsp ty h x.2.1 x.2.2
        (x.1.courSend h bs).courKeep h bs

/-- A type that the Foyer monitor does not serve is answered with RESULT 7 there (R636). [DEDUCED (unsafe), log row 97] -/
def State.courNoFoyer (s : State) (k : State → CourAns) : CourAns := if s.inFoyer then (s, Cour.state, []) else k s

/-- A request under an AUTH record (R635): the payload after the record goes on. [DEDUCED (unsafe), log row 97] -/
def State.courAuth (s : State) (ty : Nat) (h : MsgHdr) (p : List Byte) (k : State → List Byte → CourAns) : CourAns :=
  if !h.auth || p.length < 2500 then (s, Cour.authFail, [])
  else if s.svFenced || s.svBusy 0 then (s, Cour.busy, [])
  else
    let c := s.authCheck (p.take 2500) (0x100 + ty) (p.drop 2500)
    let s := s.authTake (p.take 2500) c
    if c = 0 then k s (p.drop 2500) else (s, courCode c, [])

/-- A relay to Svauth on HPA's channel (R629): RESULT 6 while it is fenced or the channel is busy. -/
def State.courSv (s : State) (k : State → CourAns) : CourAns :=
  if s.svFenced || s.svBusy 0 then (s, Cour.busy, []) else k s

/-! ### INFO, READ, WRITE, LOG_READ, METER_READ (Table COU-4) -/

/-- A word's bytes. -/
def wBytes (w : Word) : List Byte := leBytes 4 w.toNat

/-- The six words of INFO. -/
def State.infoBytes (s : State) : List Byte :=
  [R.SYS_ID, R.SYS_IMG_ID, R.SYS_FOYER, R.CUR_STATUS, R.GRID_RT_STATUS, R.PLINTH_STATUS].flatMap fun a => wBytes (s.view a)

/-- What a run of reads has given: the state, the words so far, whether every address was reached. -/
abbrev ReadRun := State × List Word × Bool

/-- Reads n words from an address on. -/
def State.readRun (s : State) (a n : Nat) : ReadRun :=
  (List.range n).foldl (fun (x : ReadRun) k =>
    let r := x.1.hostRead ((a + 4 * k) % 2 ^ 32)
    (r.1, x.2.1 ++ [r.2.1], x.2.2 && r.2.2)) (s, [], true)

/-- READ: ADDR and COUNT. [DEDUCED (unsafe), log row 98] -/
def State.courRead (s : State) (p : List Byte) : CourAns :=
  let n := bU p 4 2
  if p.length ≠ 6 ∨ n = 0 ∨ 1018 < n then (s, Cour.badArg, [])
  else
    let x := s.readRun (bU p 0 4) n
    (x.1, if x.2.2 then 0 else Cour.access, x.2.1.flatMap wBytes)

/-- The bits of a register that a 1 acts on and that a masked write leaves alone: W1C and W1S. -/
def actMask (a : Nat) : Nat :=
  w1cMask a |||
  (if a = R.CLK_CTRL then 0x10 else if a = R.EPOCH_CTRL then 0x70 else if a = R.GRID_RT_CTRL then 6
   else if a = R.PERF_CTRL then 0xF00 else if a = R.WARDEN_PERMIT then 3 else if a = R.SYS_DOORBELL then 3
   else if a = R.COURH_HSPI_CFG ∨ a = R.COURH_H2D_DONE ∨ a = R.PLINTH_CTRL then 1
   else if (ix a (R.SCHED_CTRL 0) 0x20 32).isSome then 0x23
   else if (ix a (R.LP_CTRL 0) 0x40 6).isSome then 2
   else if (ix a (R.PWM_CTRL 0) 0x100 14).isSome then 0x100
   else 0)

/-- The word a masked entry writes: bits outside MASK keep what they read, and do not act. [DEDUCED (unsafe), log row 98] -/
def State.maskedWord (s : State) (a : Nat) (mask v : Word) : Word :=
  let old := match regionOf a with
    | .reg => s.view a &&& ~~~(BitVec.ofNat 32 (actMask a))
    | _ => s.rdW a
  (old &&& ~~~mask) ||| (v &&& mask)

/-- What a run of WRITE entries has given: the state, the result bytes, whether every address was reached and no entry refused. -/
abbrev WriteRun := State × List Byte × Bool × Bool

/-- One entry of WRITE, through the COURH port (R629, R638). -/
def State.courEntry (x : WriteRun) (e : List Byte) : WriteRun :=
  let s := x.1
  let a := bU e 0 4 / 4 * 4
  let w := s.maskedWord a (w32 (bU e 4 4)) (w32 (bU e 8 4))
  let ok := s.hostWrites .courier a
  let ref := ok && s.refuses .courier a w
  ((s.hostWrite .courier a w).1, x.2.1 ++ [BitVec.ofNat 8 (b2n (!ok || ref))], x.2.2.1 && ok, x.2.2.2 && !ref)

/-- The entries of 12 bytes of a payload. -/
def entries12 (p : List Byte) : List (List Byte) := (List.range (p.length / 12)).map fun k => (p.drop (12 * k)).take 12

/-- WRITE, past its AUTH record. [DEDUCED (unsafe), log row 98] -/
def State.courWrite (s : State) (p : List Byte) : CourAns :=
  if p.length % 12 ≠ 0 ∨ 131 * 12 < p.length then (s, Cour.badArg, [])
  else
    let x := (entries12 p).foldl State.courEntry (s, [], true, true)
    (x.1, if !x.2.2.1 then Cour.access else if !x.2.2.2 then Cour.refused else 0, x.2.1)

/-- The slot of the log that holds a SEQ, where one does (R579). -/
def State.logFind (s : State) (seq : Nat) : Option Nat :=
  (List.range 16384).find? fun k =>
    let b := s.rdBytes (logSlotAddr k) 64
    bU b 0 4 == seq && bU b 60 4 == crc32 (b.take 60)

/-- LOG_READ: FIRST_SEQ and COUNT; entries the log does not hold are left out. [DEDUCED (unsafe), log row 98] -/
def State.courLog (s : State) (p : List Byte) : CourAns :=
  let n := bU8 p 4
  if p.length ≠ 5 ∨ n = 0 ∨ 63 < n then (s, Cour.badArg, [])
  else (s, 0, (List.range n).flatMap fun k =>
    match s.logFind ((bU p 0 4 + k) % 2 ^ 32) with
    | some j => s.rdBytes (logSlotAddr j) 64
    | none => [])

/-- METER_READ: the totals of the sum, low word then high, METER_LATCH_NO and METER_VAULT. -/
def State.courMeter (s : State) : CourAns :=
  let x := (List.range 4).foldl (fun (x : State × List Byte) q =>
    let r := x.1.totRead q 3
    (r.1, x.2 ++ wBytes r.2 ++ wBytes (r.1.rd (R.METER_TOT_HI q 3)))) (s, [])
  (x.1, 0, x.2 ++ wBytes (s.view R.METER_LATCH_NO) ++ wBytes (s.view R.METER_VAULT))

/-! ### Staging (R629, R630) -/

/-- STAGE_BEGIN, past its AUTH record: a session value is the device's to choose: drawn. -/
def State.courStageBegin (s : State) (plc : Bool) (p : List Byte) : CourAns :=
  if p.length ≠ 6 then (s, Cour.badArg, [])
  else if s.cour.session.isSome then (s, Cour.busy, [])
  else
    let x := s.stageBegin (bU8 p 0) (bU8 p 1)
    if x.2.1 ≠ 0 then (x.1, courCode x.2.1, [])
    else
      let id := x.1.drawn % 2 ^ 32
      let s := ((x.1.drew).put F.COURH_STATUS_SESSION 1).modCour fun c =>
        { c with session := some { id := id, total := bU p 2 4, got := 0, last := x.1.mono, plc := plc } }
      (s, 0, leBytes 4 id)

/-- STAGE_DATA: SESSION, OFFSET, data. [DEDUCED (unsafe), log row 99] -/
def State.courStageData (s : State) (p : List Byte) : CourAns :=
  let data := p.drop 8
  match s.cour.session with
  | none => (s, Cour.badArg, [])
  | some g =>
    if data.isEmpty || bU p 0 4 != g.id || bU p 4 4 != g.got || decide (g.total < g.got + data.length) then (s, Cour.badArg, [])
    else
      let x := s.stageData (bU p 4 4) data
      if x.2.1 ≠ 0 then (x.1, courCode x.2.1, [])
      else (x.1.modCour fun c => { c with session := some { g with got := g.got + data.length, last := s.mono } }, 0, [])

/-- STAGE_END: SESSION. While a write of the session still runs, the staging path is busy. [DEDUCED (unsafe), log row 99] -/
def State.courStageEnd (s : State) (p : List Byte) : CourAns :=
  match s.cour.session with
  | none => (s, Cour.badArg, [])
  | some g =>
    if p.length ≠ 4 ∨ bU p 0 4 ≠ g.id then (s, Cour.badArg, [])
    else match s.stageEnd with
      | none => (s, Cour.busy, [])
      | some x => (x.1.courSessionEnd, courCode x.2.1, x.2.2)

/-- SELECT, past its AUTH record; IMG goes as HPA's write of SYS_IMG_SELECT (R49, R629). -/
def State.courSelect (s : State) (p : List Byte) : CourAns :=
  if p.length ≠ 2 ∨ 1 < bU8 p 1 then (s, Cour.badArg, [])
  else if bU8 p 0 = 1 then
    let v := w32 (0xA55A0000 + bU8 p 1)
    let r := (s.rejectsClr.imgSelect v).rejected
    (s.imgSelect v, if r then Cour.refused else 0, [])
  else if s.inFoyer && bU8 p 0 == 2 then (s, Cour.state, [])
  else courOf (s.svSelect (bU8 p 0) (bU8 p 1))

/-- CONFIRM, past its AUTH record; IMG goes as HPA's write of SYS_IMG_CONFIRM (R51, R629). [DEDUCED (unsafe), log row 99] -/
def State.courConfirm (s : State) (bad : Nat) (p : List Byte) : CourAns :=
  if p.length ≠ 1 then (s, Cour.badArg, [])
  else if bU8 p 0 = 1 then (s.imgConfirm 0xC0F1#32 bad, 0, [])
  else courOf (s.svConfirm (bU8 p 0) bad)

end Sys2Proof.Machine
end

