-- ==== Sys2Proof/Machine/Courier.lean ====
section
/-!
DEFINITION. The meanings of Courier's messages (R627 to R636, R647): HPA takes a whole request that a carrier brought, serves it
and answers; what is due later (a RESET, an EVENT's repeats, a broadcast INFO's reply, the end of an idle staging session).
-/

namespace Sys2Proof.Machine

/-- COURIER_INFO (R628, R631): a broadcast one is answered after a drawn delay of 0 to 2 s in steps of 10 ms. -/
def execCourierInfo (h : MsgHdr) (p : List Byte) (s : State) : Res :=
  .next (s.courTake 0x01 h fun s =>
    if p ≠ [] then (s, Cour.badArg, [])
    else if msgBroad h then
      ((s.drew).modCour fun c => { c with bcast := c.bcast ++ [(h, s.mono + s.drawn % 201 * 8000000)] }, 0, [])
    else (s, 0, s.infoBytes))

/-- COURIER_READ (R628, R638). -/
def execCourierRead (h : MsgHdr) (p : List Byte) (s : State) : Res := .next (s.courTake 0x02 h fun s => s.courRead p)

/-- COURIER_WRITE (R628, R629, R635). -/
def execCourierWrite (h : MsgHdr) (p : List Byte) (s : State) : Res :=
  .next (s.courTake 0x03 h fun s => s.courNoFoyer fun s => s.courAuth 0x03 h p fun s p => s.courWrite p)

/-- COURIER_ATTEST (R580, R628): through HPA's mailbox channel. -/
def execCourierAttest (h : MsgHdr) (p : List Byte) (s : State) : Res :=
  .next (s.courTake 0x04 h fun s => s.courSv fun s => courOf (s.svAttest p))

/-- COURIER_DEVID_CERT (R569, R628). -/
def execCourierDevidCert (h : MsgHdr) (p : List Byte) (s : State) : Res :=
  .next (s.courTake 0x05 h fun s =>
    if p ≠ [] then (s, Cour.badArg, []) else s.courSv fun s => (s, 0, fixLen 3796 Config.devidCert))

/-- COURIER_LOG_READ (R579, R628). -/
def execCourierLogRead (h : MsgHdr) (p : List Byte) (s : State) : Res := .next (s.courTake 0x06 h fun s => s.courLog p)

/-- COURIER_METER_READ (R628). -/
def execCourierMeterRead (h : MsgHdr) (p : List Byte) (s : State) : Res :=
  .next (s.courTake 0x07 h fun s => s.courNoFoyer fun s => if p ≠ [] then (s, Cour.badArg, []) else s.courMeter)

/-- COURIER_RESET (R628, R629, R647): the response goes first; the reset is due 1 ms after its last byte, over powerline 1 ms after the
end of the response's last frame. -/
def execCourierReset (h : MsgHdr) (p : List Byte) (s : State) : Res :=
  .next (s.courTake 0x08 h fun s => s.courAuth 0x08 h p fun s p =>
    if p = [1#8] ∨ p = [3#8] then
      (s.modCour fun c => { c with reset := some (bU8 p 0, s.mono + 800000)
                                   resetTx := if h.car = .plc then some h.txid.toNat else none }, 0, [])
    else (s, Cour.badArg, []))

/-- Frames of the response to a RESET wait for the powerline (R647). -/
def State.resetHeld (s : State) : Bool :=
  match s.cour.resetTx with
  | some x => s.cour.queue.any fun f => bU f.bytes 0 4 == x
  | none => false

/-- COURIER_RESET_ACT (R603, R629, R647): a write of SYS_RESET by Courier with KIND and the key. -/
def execCourierResetAct (s : State) : Res :=
  match s.cour.reset with
  | some (k, t) =>
    if t ≤ s.mono ∧ !s.resetHeld then .next ((s.modCour fun c => { c with reset := none, resetTx := none }).busWrite .courier R.SYS_RESET (w32 (0x7A5C0000 + k)))
    else .next s
  | none => .next s

/-- COURIER_STAGE_BEGIN (R629, R630). -/
def execCourierStageBegin (h : MsgHdr) (p : List Byte) (s : State) : Res :=
  .next (s.courTake 0x09 h fun s => s.courAuth 0x09 h p fun s p => s.courStageBegin (h.car == .plc) p)

/-- COURIER_STAGE_DATA (R629, R630). -/
def execCourierStageData (h : MsgHdr) (p : List Byte) (s : State) : Res :=
  .next (s.courTake 0x0A h fun s => s.courSv fun s => s.courStageData p)

/-- COURIER_STAGE_END (R629, R630). -/
def execCourierStageEnd (h : MsgHdr) (p : List Byte) (s : State) : Res :=
  .next (s.courTake 0x0B h fun s => s.courSv fun s => s.courStageEnd p)

/-- COURIER_SELECT (R629, R636): the Foyer monitor serves KIND FW and IMG. -/
def execCourierSelect (h : MsgHdr) (p : List Byte) (s : State) : Res :=
  .next (s.courTake 0x0C h fun s => s.courAuth 0x0C h p fun s p => s.courSelect p)

/-- COURIER_CONFIRM (R629, R636); bad counts the mismatches when its log entry is read back (R579). -/
def execCourierConfirm (h : MsgHdr) (p : List Byte) (bad : Nat) (s : State) : Res :=
  .next (s.courTake 0x0D h fun s => s.courNoFoyer fun s => s.courAuth 0x0D h p fun s p => s.courConfirm bad p)

/-- COURIER_EVENT_ACK (R633): the collector's answer to the EVENT that is being repeated. -/
def execCourierEventAck (h : MsgHdr) (s : State) : Res :=
  match s.cour.event with
  | some e =>
    if s.courUp h.car && s.courFor h && h.txid.toNat == e.txid && h.src.toNat == s.get F.COURH_EVENT_DST_ADDR then
      .next (s.modCour fun c => { c with event := none })
    else .next s
  | none => .next s

/-- An EVENT whose next time has come is repeated 2, 4 and 8 s after its first sending; unanswered after that it is lost (R633).
How long the device waits after the last repeat is not stated: up to 8 s, drawn. [DEDUCED (unsafe), log row 100] -/
def State.eventAgain (s : State) (e : EventMsg) : State :=
  let dst := s.get F.COURH_EVENT_DST_ADDR
  if 4 ≤ e.sent then (s.set1 F.COURH_STICKY_EVENT_LOST).modCour fun c => { c with event := none }
  else
    let wait := if e.sent = 1 then 1600000000 else if e.sent = 2 then 3200000000 else s.drawn % 6400000001
    let s := if e.sent = 3 then s.drew else s
    let s := s.modCour fun c => { c with event := some { e with sent := e.sent + 1, next := e.next + wait } }
    let s := { s with resp := { words := [], bytes := e.bytes, result := 0, fault := false } }
    if dst = 0xFFFE then s else s.plcQueue e.txid dst e.bytes

/-- COURIER_EVENT_REPEAT (R633). -/
def execCourierEventRepeat (s : State) : Res :=
  match s.cour.event with
  | some e => if e.next ≤ s.mono then .next (s.eventAgain e) else .next s
  | none => .next s

/-- The types of Table COU-4. -/
def courTypes : List Nat := [1, 2, 3, 4, 5, 6, 7, 8, 9, 0x0A, 0x0B, 0x0C, 0x0D, 0x0E, 0x10, 0x11]

/-- COURIER_UNKNOWN_TYPE (R628, R636): RESULT 1; in the Foyer state 7. -/
def execCourierUnknownType (h : MsgHdr) (ty : BitVec 8) (s : State) : Res :=
  if courTypes.contains ty.toNat then .next s
  else .next (s.courTake ty.toNat h fun s => s.courNoFoyer fun s => (s, Cour.badType, []))

/-- A message is bad: its CRC, its VER, or its LEN (R627). -/
def msgBad (b : List Byte) : Bool :=
  b.length < 20 || 4096 < b.length || bU8 b 0 != 1 || bU b 12 2 + 20 != b.length || bU b (b.length - 4) 4 != crc32 (b.take (b.length - 4))

/-- COURIER_BAD_MESSAGE (R627): discarded, no response. -/
def execCourierBadMessage (car : Carrier) (bytes : List Byte) (s : State) : Res :=
  if s.courUp car && msgBad bytes then .next (s.set1 F.COURH_STICKY_BAD_MSG) else .next s

/-- The response to a broadcast INFO is kept with its request (R632). -/
def State.courKeepAt (s : State) (h : MsgHdr) (bs : List Byte) : State :=
  s.modCour fun c =>
    { c with kept := c.kept.map fun x => if x.src == h.src.toNat && x.txid == h.txid.toNat then { x with rsp := bs } else x }

/-- COURIER_BROADCAST_INFO_REPLY (R631): the oldest broadcast INFO whose delay has passed is answered. -/
def execCourierBroadcastInfoReply (s : State) : Res :=
  match s.cour.bcast with
  | (h, t) :: rest =>
    if t ≤ s.mono && s.courUp h.car then
      let bs := s.courRsp 0x01 h 0 s.infoBytes
      .next (((s.courSend h bs).courKeepAt h bs).modCour fun c => { c with bcast := rest })
    else .next s
  | [] => .next s

/-- STAGING_SESSION_TIMEOUT (R630): 60 s without accepted data. -/
def execStagingSessionTimeout (s : State) : Res :=
  match s.cour.session with
  | some g => if g.last + 48000000000 ≤ s.mono then .next s.courSessionEnd else .next s
  | none => .next s

end Sys2Proof.Machine
end

