-- ==== Sys2Proof/Machine/HokOps.lean ====
section
/-!
DEFINITION. The Hokuon pairs' shared operations: registers, CSRs (R508 to R514), physical memory protection (R510), caches and
accesses (R515 to R520), traps, interrupts (R525 to R527). What R508 takes from the RISC-V architecture by name and does not
restate is the architecture's: log row 14.
-/

namespace Sys2Proof.Machine

/-! ### Registers -/

/-- x0 to x31 of a pair; x0 reads 0. -/
def State.xr (s : State) (q r : Nat) : Word := if r = 0 then 0#32 else (s.hok.get q).x.get r

/-- Writes x0 to x31; x0 takes nothing. -/
def State.setX (s : State) (q r : Nat) (v : Word) : State :=
  if r = 0 then s else s.modHok q fun h => { h with x := h.x.set r v }

/-- f0 to f31. -/
def State.fr (s : State) (q r : Nat) : Word := (s.hok.get q).f.get r

/-- Writes f0 to f31. -/
def State.setF (s : State) (q r : Nat) (v : Word) : State := s.modHok q fun h => { h with f := h.f.set r v }

/-- A CSR's stored bits. -/
def State.csrRaw (s : State) (q n : Nat) : Word := (s.hok.get q).csr.get n

/-- Stores a CSR's bits. -/
def State.csrPut (s : State) (q n : Nat) (v : Word) : State := s.modHok q fun h => { h with csr := h.csr.set n v }

/-- Moves the pc. -/
def State.setPc (s : State) (q pc : Nat) : State := s.modHok q fun h => { h with pc := pc % 2 ^ 32 }

/-- A field of mstatus. -/
def State.mst (s : State) (q lo len : Nat) : Nat := bitsOf (s.csrRaw q 0x300).toNat lo len

/-- Puts a field of mstatus. -/
def State.mstPut (s : State) (q lo len v : Nat) : State := s.csrPut q 0x300 (w32 (bitsPut (s.csrRaw q 0x300).toNat lo len v))

/-! ### Interrupts (R525 to R527) -/

/-- mip: bit 3 by the other pair's doorbell, bit 7 by mtimecmp, bit 11 by the HIC. -/
def State.mip (s : State) (q : Nat) : Nat :=
  let cmp := (s.rd (R.HIC_MTIMECMP_LO q)).toNat + 2 ^ 32 * (s.rd (R.HIC_MTIMECMP_HI q)).toNat
  8 * b2n (bitOf (s.rd R.SYS_DOORBELL).toNat (1 - q)) + 128 * b2n (decide (cmp ≤ s.epoch)) + 2048 * b2n (s.hicClaim q != 0x3F)

/-- The interrupts that are pending and enabled in mie. [PRESUMED (unsafe), log row 80] -/
def State.irqs (s : State) (q : Nat) : Nat := s.mip q &&& (s.csrRaw q 0x304).toNat

/-! ### CSRs (R511, R513, R514) -/

/-- An event counter of the main core. -/
def State.mainCnt (s : State) (q e : Nat) : Nat := (s.hok.get q).cnt.get e

/-- misa: RV32 with C, F, I, M and U (R508). -/
def misa : Word := 0x40101124#32

/-- The machine-mode CSRs of plain storage: which bits a write reaches. -/
def csrPlain (n : Nat) : Option Word :=
  if n = 0x304 then some 0x888#32
  else if n = 0x305 then some 0xFFFFFFFD#32
  else if n = 0x306 then some 0xFFFFFFFF#32
  else if n = 0x340 ∨ n = 0x342 ∨ n = 0x343 then some 0xFFFFFFFF#32
  else if n = 0x341 then some 0xFFFFFFFE#32
  else none

/-- A CSR that reads 0 and ignores writes: mhpmcounter and mhpmevent (R511), mstatush, mcountinhibit, menvcfg, the PMP registers past
the eighth, mvendorid, marchid, mimpid, mconfigptr. [DEDUCED (unsafe), log row 74; DEDUCED (unsafe), log row 76] -/
def csrZero (n : Nat) : Bool :=
  (0xB03 ≤ n && n < 0xB20) || (0xB83 ≤ n && n < 0xBA0) || (0x323 ≤ n && n < 0x340) ||
  [0x310, 0x320, 0x30A, 0x31A, 0xF11, 0xF12, 0xF13, 0xF15].contains n || (0x3A2 ≤ n && n < 0x3B0) || (0x3B8 ≤ n && n < 0x3F0)

/-- A user counter: cycle, time, instret, hpmcounter and their upper halves. -/
def csrUser (n : Nat) : Bool := (0xC00 ≤ n && n < 0xC20) || (0xC80 ≤ n && n < 0xCA0)

/-- mstatus as it reads: SD with FS. [DEDUCED (unsafe), log row 77] -/
def State.mstatus (s : State) (q : Nat) : Word :=
  w32 (bitsPut (s.csrRaw q 0x300).toNat 31 1 (b2n (s.mst q 13 2 == 3)))

/-- The CSR exists and the mode may reach it. -/
def State.csrMay (s : State) (q n : Nat) (umode wr : Bool) : Bool :=
  let fp := n = 1 || n = 2 || n = 3
  let known := fp || n == 0x800 || n == 0x7C1 || (csrPlain n).isSome || csrZero n || csrUser n ||
    [0x300, 0x301, 0x344, 0xB00, 0xB02, 0xB80, 0xB82, 0xF14].contains n || (0x3A0 ≤ n && n < 0x3A2) || (0x3B0 ≤ n && n < 0x3B8)
  known && !(umode && n / 0x100 % 4 != 0) && !(wr && 0xC00 ≤ n) &&
  !(fp && s.mst q 13 2 == 0) && !(umode && csrUser n && !bitOf (s.csrRaw q 0x306).toNat (n % 32))

/-- A CSR's value; hcache, write-only, reads 0 (R514, Table SCOPE-4). [PRESUMED (unsafe), log row 14; DEDUCED (unsafe), log row 76] -/
def State.csrRead (s : State) (q n : Nat) : Word :=
  let fcsr := s.csrRaw q 3
  if n = 1 then fcsr &&& 0x1F#32
  else if n = 2 then w32 (bitsOf fcsr.toNat 5 3)
  else if n = 3 then fcsr
  else if n = 0x800 then s.csrRaw q n
  else if n = 0x300 then s.mstatus q
  else if n = 0x301 then misa
  else if n = 0x344 then w32 (s.mip q)
  else if n = 0xB00 ∨ n = 0xC00 then w32 (s.mainCnt q 0)
  else if n = 0xB80 ∨ n = 0xC80 then w32 (s.mainCnt q 0 / 2 ^ 32)
  else if n = 0xB02 ∨ n = 0xC02 then w32 (s.mainCnt q 1)
  else if n = 0xB82 ∨ n = 0xC82 then w32 (s.mainCnt q 1 / 2 ^ 32)
  else if n = 0xC01 then s.now32
  else if n = 0xC81 then w32 (s.epoch / 2 ^ 32)
  else if n = 0xF14 then w32 (2 * q)
  else if csrZero n || csrUser n then 0#32
  else s.csrRaw q n

/-- A PMP entry is locked. -/
def State.pmpCfg (s : State) (q k : Nat) : Nat := bitsOf (s.csrRaw q (0x3A0 + k / 4)).toNat (8 * (k % 4)) 8

/-- The A field of a PMP entry: 0 OFF, 1 TOR, 2 NA4, 3 NAPOT. -/
def State.pmpA (s : State) (q k : Nat) : Nat := bitsOf (s.pmpCfg q k) 3 2

/-- A PMP entry is locked. -/
def State.pmpLocked (s : State) (q k : Nat) : Bool := bitOf (s.pmpCfg q k) 7

/-- A write of a pmpcfg register: byte by byte; a locked entry and the reserved permission W without R take nothing.
[DEDUCED (unsafe), log row 76] -/
def State.pmpCfgWrite (s : State) (q r : Nat) (v : Word) : State :=
  s.forEach (List.range 4) fun s j =>
    let b := bitsOf v.toNat (8 * j) 8
    if s.pmpLocked q (4 * r + j) || bitsOf b 0 2 == 2 then s
    else s.csrPut q (0x3A0 + r) (w32 (bitsPut (s.csrRaw q (0x3A0 + r)).toNat (8 * j) 8 (b &&& 0x9F)))

/-- A write of a pmpaddr register. -/
def State.pmpAddrWrite (s : State) (q k : Nat) (v : Word) : State :=
  if s.pmpLocked q k || (k < 7 && s.pmpLocked q (k + 1) && s.pmpA q (k + 1) == 1) then s else s.csrPut q (0x3B0 + k) v

/-- A write of hcache (R514): code 1 a data-cache line, 2 the data cache, 3 the instruction cache. [DEDUCED (unsafe), log row 74] -/
def State.hcacheWrite (s : State) (q : Nat) (v : Word) : State :=
  let c := bitsOf v.toNat 0 2
  if c = 1 then s.modHok q fun h => { h with dcache := h.dcache.set (v.toNat / 32 * 32) [] }
  else if c = 2 then s.modHok q fun h => { h with dcache := [] }
  else if c = 3 then s.modHok q fun h => { h with icache := [] }
  else s

/-- A write of a CSR. [PRESUMED (unsafe), log row 14] -/
def State.csrWrite (s : State) (q n : Nat) (v : Word) : State :=
  let fcsr := (s.csrRaw q 3).toNat
  if n = 1 then s.csrPut q 3 (w32 (bitsPut fcsr 0 5 v.toNat))
  else if n = 2 then s.csrPut q 3 (w32 (bitsPut fcsr 5 3 v.toNat))
  else if n = 3 then s.csrPut q 3 (v &&& 0xFF#32)
  else if n = 0x800 then s.csrPut q n (s.csrRaw q n &&& v &&& 1#32)
  else if n = 0x7C1 then s.hcacheWrite q v
  else if n = 0x300 then
    let m := if bitsOf v.toNat 11 2 = 3 then 3 else 0
    s.csrPut q n (w32 (bitsPut (v &&& 0x00226088#32).toNat 11 2 m))
  else if n = 0x3A0 ∨ n = 0x3A1 then s.pmpCfgWrite q (n - 0x3A0) v
  else if 0x3B0 ≤ n ∧ n < 0x3B8 then s.pmpAddrWrite q (n - 0x3B0) v
  else match csrPlain n with
    | some m => s.csrPut q n (v &&& m)
    | none => s

/-! ### Traps and returns -/

/-- Taking an exception or interrupt in machine mode: mepc, mcause, mtval, the mode and the enable saved, the pc at mtvec
(R526: direct and vectored). [PRESUMED (unsafe), log row 14] -/
def State.trap (s : State) (q : Nat) (irq : Bool) (cause : Nat) (tval : Nat) : State :=
  let h := s.hok.get q
  let s := ((s.csrPut q 0x341 (w32 h.pc)).csrPut q 0x342 (w32 (cause + if irq then 2 ^ 31 else 0))).csrPut q 0x343 (w32 tval)
  let s := ((s.mstPut q 7 1 (s.mst q 3 1)).mstPut q 3 1 0).mstPut q 11 2 (if h.mmode then 3 else 0)
  let tv := (s.csrRaw q 0x305).toNat
  let s := s.modHok q fun h => { h with mmode := true, wfi := false }
  s.setPc q (tv / 4 * 4 + if irq ∧ tv % 4 = 1 then 4 * cause else 0)

/-- mret: the return from a trap. [PRESUMED (unsafe), log row 14] -/
def State.mret (s : State) (q : Nat) : State :=
  let m := s.mst q 11 2 == 3
  let s := if m then s else s.mstPut q 17 1 0
  let s := ((s.mstPut q 3 1 (s.mst q 7 1)).mstPut q 7 1 1).mstPut q 11 2 0
  (s.modHok q fun h => { h with mmode := m }).setPc q (s.csrRaw q 0x341).toNat

/-! ### Physical memory protection (R510) -/

/-- Kinds of access. -/
inductive Acc where
  | fetch | load | store
  deriving DecidableEq, Repr

/-- The range [lo, hi) of a PMP entry, in granules of 32 bytes; none where it is OFF. [DEDUCED (unsafe), log row 76] -/
def State.pmpRange (s : State) (q k : Nat) : Option (Nat × Nat) :=
  let a := (s.csrRaw q (0x3B0 + k)).toNat
  match s.pmpA q k with
  | 0 => none
  | 1 => some (if k = 0 then 0 else (s.csrRaw q (0x3AF + k)).toNat / 8, a / 8)
  | 2 => some (a / 8, a / 8 + 1)
  | _ =>
    let t := ((List.range 32).find? fun j => !bitOf a j).getD 32
    let n := 2 ^ (t + 1)
    let lo := a / n * n
    some (lo / 8, if n < 8 then lo / 8 + 1 else (lo + n) / 8)

/-- Entry k matches an address. [DEDUCED (unsafe), log row 76] -/
def State.pmpHit (s : State) (q k a : Nat) : Bool :=
  match s.pmpRange q k with
  | none => false
  | some (lo, hi) => lo ≤ a / 32 && a / 32 < hi

/-- PMP lets an access in a mode through: the lowest matching entry decides; without one, machine mode passes only.
[PRESUMED (unsafe), log row 14] -/
def State.pmpOk (s : State) (q a : Nat) (c : Acc) (umode : Bool) : Bool :=
  match (List.range 8).find? fun k => s.pmpHit q k a with
  | none => !umode
  | some k =>
    if !umode && !s.pmpLocked q k then true
    else bitOf (s.pmpCfg q k) (match c with | .load => 0 | .store => 1 | .fetch => 2)

/-! ### Caches and accesses (R515 to R520) -/

/-- A line of a cache, none where it is not held. -/
def lineOf (m : SMap (List Byte)) (a : Nat) : Option (List Byte) := let l := m.get (a / 32 * 32); if l = [] then none else some l

/-- A cache with a line filled: 4 ways of 256 sets; a full set loses a line, which one being drawn (R515 states no replacement).
[DESIGN CHOICE (unsafe), log row 72; DESIGN CHOICE (safe), log row 73] -/
def cacheFill (m : SMap (List Byte)) (a pick : Nat) (l : List Byte) : SMap (List Byte) :=
  let base := a / 32 * 32
  let set := m.filter fun e => e.1 / 32 % 256 == base / 32 % 256
  let m := if 4 ≤ set.length then m.set ((set.map (·.1)).getD (pick % 4) 0) [] else m
  m.set base l

/-- The region suffix of a bus access (Table HOK-6): MRAM, SRAM, SRAM uncached, TCM, SP RAM, panel, grid, mailbox. -/
def accEvent (a : Nat) : Nat :=
  match regionOf a with
  | .rom | .mram | .mramSv => 0x30
  | .sram | .arch => if cacheable a then 0x31 else 0x32
  | .tcm _ => 0x33
  | .spRam => 0x34
  | .mailbox => 0x37
  | _ => if 0x48000000 ≤ a ∧ a < 0x50000000 then 0x36 else 0x35

/-- The 32 bytes of a line as memory holds them. [DESIGN CHOICE (unsafe), log row 72] -/
def State.lineBytes (s : State) (a : Nat) : List Byte := (List.range 32).map fun k => s.coreByte (a / 32 * 32 + k)

/-- A word of a line is uncorrectable: the line is read but not kept (R521, log row 119). [DEDUCED (unsafe), log row 119] -/
def State.lineBad (s : State) (a : Nat) : Bool := (List.range 8).any fun k => s.eccBad (a / 32 * 32 + 4 * k)

/-- What a data access gives: the state, the value read where there is one, the events it counts, whether it faults. -/
structure DataAcc where
  st : State
  val : Nat
  events : List Nat
  ok : Bool

/-- A load of n bytes: through the data cache in a cacheable region (R515). [PRESUMED (unsafe), log row 29] -/
def State.loadAcc (s : State) (q a n : Nat) : DataAcc :=
  if cacheable a then
    if !s.coreReads q a then { st := s, val := 0, events := [], ok := false }
    else match lineOf (s.hok.get q).dcache a with
      | some l => { st := s, val := leNat ((l.drop (a % 32)).take n), events := [0x28], ok := true }
      | none =>
        if s.eccBad a then { st := s.eccFound a, val := 0, events := [], ok := false }
        else
          let l := s.lineBytes a
          let s := if s.lineBad a then s
            else (s.modHok q fun h => { h with dcache := cacheFill h.dcache a s.drawn l }).drew
          { st := s, val := leNat ((l.drop (a % 32)).take n), events := [0x28, 0x29, accEvent a], ok := true }
  else
    let x := s.coreRead q a n
    match x.2 with
    | some v => { st := x.1, val := v, events := [0x28, 0x2F, accEvent a] ++ (if (ix a (R.SYS_SEM 0) 4 16).isSome ∧ v = 1 then [0x5C] else []), ok := true }
    | none => { st := x.1, val := 0, events := [], ok := false }

/-- A line's bytes with n bytes at an offset replaced. -/
def lineMerge (l : List Byte) (o n v : Nat) : List Byte := l.take o ++ leBytes n v ++ l.drop (o + n)

/-- A store of n bytes: written through, a held line with it, no allocation on a miss (R515). [PRESUMED (unsafe), log row 29] -/
def State.storeAcc (s : State) (q a n v : Nat) : DataAcc :=
  let x := s.coreWrite q a n v
  if x.2 then
    let s := x.1.modHok q fun h =>
      if cacheable a then
        match lineOf h.dcache a with
        | some l => { h with dcache := h.dcache.set (a / 32 * 32) (lineMerge l (a % 32) n v) }
        | none => h
      else h
    { st := s, val := 0, events := [0x2A, accEvent a], ok := true }
  else { st := x.1, val := 0, events := [], ok := false }

/-- A fetch of a 16-bit parcel through the instruction cache; a register is no place to fetch from. [PRESUMED (unsafe), log row 29] -/
def State.fetchAcc (s : State) (q a : Nat) : DataAcc :=
  if cacheable a then
    if !s.coreReads q a then { st := s, val := 0, events := [], ok := false }
    else match lineOf (s.hok.get q).icache a with
      | some l => { st := s, val := leNat ((l.drop (a % 32)).take 2), events := [0x20], ok := true }
      | none =>
        if s.eccBad a then { st := s.eccFound a, val := 0, events := [], ok := false }
        else
          let l := s.lineBytes a
          let s := if s.lineBad a then s
            else (s.modHok q fun h => { h with icache := cacheFill h.icache a s.drawn l }).drew
          { st := s, val := leNat ((l.drop (a % 32)).take 2),
            events := [0x20, 0x21, if accEvent a = 0x30 then 0x23 else 0x24, accEvent a], ok := true }
  else match regionOf a with
    | .sram | .arch | .tcm _ | .spRam =>
      if !s.coreReads q a then { st := s, val := 0, events := [], ok := false }
      else if s.eccBad a then { st := s.eccFound a, val := 0, events := [], ok := false }
      else { st := s, val := s.memRead a 2, events := [accEvent a], ok := true }
    | _ => { st := s, val := 0, events := [], ok := false }

end Sys2Proof.Machine
end

