-- ==== Sys2Proof/Machine/Ieee.lean ====
section
/-!
DEFINITION. IEEE 754 binary32 as the Hokuon cores use it (R509): five rounding modes, subnormals, the flags of fcsr. Arithmetic is
exact on rationals and rounded once.
-/

namespace Sys2Proof.Machine

/-- A result and the flags it raises: 16 NV, 8 DZ, 4 OF, 2 UF, 1 NX. -/
abbrev FRes := Word × Nat

/-- Reads a word with its subnormals. -/
def ieee (w : Word) : FVal :=
  let n := w.toNat
  if bitsOf n 23 8 = 0 then
    let x := ((bitsOf n 0 23 : Nat) : Rat) * pow2 (-149)
    .fin (bitOf n 31) (if bitOf n 31 then -x else x)
  else fval w

/-- A signalling NaN. -/
def isSnan (w : Word) : Bool := ieee w == .nan && !bitOf w.toNat 22

/-- Any NaN. -/
def isNan (w : Word) : Bool := ieee w == .nan

/-- Rounds a non-negative rational to an integer in a mode: 0 nearest even, 1 toward zero, 2 down, 3 up, 4 nearest with halves
away; neg is the number's sign. -/
def roundMode (mode : Nat) (neg : Bool) (x : Rat) : Nat :=
  let f := x.floor.toNat
  let r := x - (f : Rat)
  if r = 0 then f
  else if mode = 0 then roundEven x
  else if mode = 1 then f
  else if mode = 2 then (if neg then f + 1 else f)
  else if mode = 3 then (if neg then f else f + 1)
  else if 1/2 ≤ r then f + 1 else f

/-- The largest finite number of a sign. -/
def fMaxOf (neg : Bool) : Word := if neg then 0xFF7FFFFF#32 else 0x7F7FFFFF#32

/-- An overflow's result. -/
def overflowTo (mode : Nat) (neg : Bool) : Word :=
  if mode = 1 ∨ (mode = 2 ∧ !neg) ∨ (mode = 3 ∧ neg) then fMaxOf neg else fInf neg

/-- A number below the smallest normal after rounding with unbounded exponent. -/
def tiny (mode : Nat) (neg : Bool) (a : Rat) : Bool :=
  let e := expOf a
  a < pow2 (-126) && decide ((roundMode mode neg (a * pow2 (23 - e)) : Rat) * pow2 (e - 23) < pow2 (-126))

/-- Rounds a rational in a mode; neg is the sign where it is zero. [PRESUMED (unsafe), log row 14] -/
def ieeeRound (mode : Nat) (neg : Bool) (x : Rat) : FRes :=
  if x = 0 then (fZero neg, 0)
  else
    let sg := decide (x < 0)
    let a := if sg then -x else x
    let e := if expOf a < -126 then -126 else expOf a
    let y := a * pow2 (23 - e)
    let m := roundMode mode sg y
    let nx := if (m : Rat) = y then 0 else 1
    let e' := if m = 2 ^ 24 then e + 1 else e
    let m' := if m = 2 ^ 24 then 2 ^ 23 else m
    let top := if sg then 2 ^ 31 else 0
    if 127 < e' then (overflowTo mode sg, 5)
    else
      let fl := nx + (if nx = 1 ∧ tiny mode sg a then 2 else 0)
      if m' < 2 ^ 23 then (BitVec.ofNat 32 (top + m'), fl)
      else (BitVec.ofNat 32 (top + (e' + 127).toNat * 2 ^ 23 + (m' - 2 ^ 23)), fl)

/-- A NaN result: NV where an operand signals. -/
def nanOf (ws : List Word) : FRes := (fNan, if ws.any isSnan then 16 else 0)

/-- The sign of an exact zero sum. -/
def zeroSign (mode : Nat) (s t : Bool) : Bool := if s == t then s else mode == 2

/-- The sum of two values in a mode; ws are the operands, for the NaN rules. -/
def ieeeSum (mode : Nat) (ws : List Word) (a b : FVal) : FRes :=
  match a, b with
  | .nan, _ => nanOf ws
  | _, .nan => nanOf ws
  | .inf s, .inf t => if s == t then (fInf s, 0) else (fNan, 16)
  | .inf s, .fin _ _ => (fInf s, 0)
  | .fin _ _, .inf t => (fInf t, 0)
  | .fin s x, .fin t y => ieeeRound mode (zeroSign mode s t) (x + y)

/-- The opposite of a value. -/
def FVal.opp : FVal → FVal
  | .nan => .nan
  | .inf s => .inf (!s)
  | .fin s x => .fin (!s) (-x)

/-- fadd.s -/
def ieeeAdd (mode : Nat) (a b : Word) : FRes := ieeeSum mode [a, b] (ieee a) (ieee b)

/-- fsub.s -/
def ieeeSub (mode : Nat) (a b : Word) : FRes := ieeeSum mode [a, b] (ieee a) (ieee b).opp

/-- fmul.s -/
def ieeeMul (mode : Nat) (a b : Word) : FRes :=
  match ieee a, ieee b with
  | .nan, _ => nanOf [a, b]
  | _, .nan => nanOf [a, b]
  | .inf s, .inf t => (fInf (s != t), 0)
  | .inf s, .fin t y => if y = 0 then (fNan, 16) else (fInf (s != t), 0)
  | .fin s x, .inf t => if x = 0 then (fNan, 16) else (fInf (s != t), 0)
  | .fin s x, .fin t y => ieeeRound mode (s != t) (x * y)

/-- fdiv.s -/
def ieeeDiv (mode : Nat) (a b : Word) : FRes :=
  match ieee a, ieee b with
  | .nan, _ => nanOf [a, b]
  | _, .nan => nanOf [a, b]
  | .inf _, .inf _ => (fNan, 16)
  | .inf s, .fin t _ => (fInf (s != t), 0)
  | .fin s _, .inf t => (fZero (s != t), 0)
  | .fin s x, .fin t y =>
    if y = 0 then (if x = 0 then (fNan, 16) else (fInf (s != t), 8)) else ieeeRound mode (s != t) (x / y)

/-- fsqrt.s; the scaled operand keeps 25 more bits than the result, and a remainder counts as one more bit. -/
def ieeeSqrt (mode : Nat) (a : Word) : FRes :=
  match ieee a with
  | .nan => nanOf [a]
  | .inf s => if s then (fNan, 16) else (fInf false, 0)
  | .fin s x =>
    if x = 0 then (fZero s, 0)
    else if x < 0 then (fNan, 16)
    else
      let e := expOf x / 2
      let y := x * pow2 (2 * (50 - e))
      let r := isqrt y.floor.toNat
      let more := if ((r * r : Nat) : Rat) = y then 0 else 1
      ieeeRound mode false (((2 * r + more : Nat) : Rat) / 2 * pow2 (e - 50))

/-- An exact product as a value; none where it is invalid (infinity by zero). -/
def fProd (a b : FVal) : Option FVal :=
  match a, b with
  | .nan, _ => some .nan
  | _, .nan => some .nan
  | .inf s, .inf t => some (.inf (s != t))
  | .inf s, .fin t y => if y = 0 then none else some (.inf (s != t))
  | .fin s x, .inf t => if x = 0 then none else some (.inf (s != t))
  | .fin s x, .fin t y => some (.fin (s != t) (x * y))

/-- The four fused multiply-adds: the product negated, the addend negated. -/
def ieeeFma (mode : Nat) (a b c : Word) (np nc : Bool) : FRes :=
  match fProd (ieee a) (ieee b) with
  | none => (fNan, 16)
  | some p => ieeeSum mode [a, b, c] (if np then p.opp else p) (if nc then (ieee c).opp else ieee c)

/-- a is below b as IEEE numbers. -/
def ieeeLt (a b : Word) : Bool :=
  match ieee a, ieee b with
  | .nan, _ => false
  | _, .nan => false
  | .inf s, .inf t => s && !t
  | .inf s, .fin _ _ => s
  | .fin _ _, .inf t => !t
  | .fin _ x, .fin _ y => decide (x < y)

/-- a equals b as IEEE numbers. -/
def ieeeEq (a b : Word) : Bool := !isNan a && !isNan b && !ieeeLt a b && !ieeeLt b a

/-- feq.s (2), flt.s (1), fle.s (0). -/
def ieeeCmp (k : Nat) (a b : Word) : FRes :=
  let nv := if k = 2 then isSnan a || isSnan b else isNan a || isNan b
  let r := if k = 2 then ieeeEq a b else if k = 1 then ieeeLt a b else ieeeLt a b || ieeeEq a b
  (w32 (b2n r), if nv then 16 else 0)

/-- fmin.s and fmax.s: a NaN gives the other operand, two give the canonical NaN; -0 lies below +0. -/
def ieeeMinMax (max : Bool) (a b : Word) : FRes :=
  let fl := if isSnan a || isSnan b then 16 else 0
  if isNan a && isNan b then (fNan, fl)
  else if isNan a then (b, fl)
  else if isNan b then (a, fl)
  else
    let less := ieeeLt a b || (ieeeEq a b && bitOf a.toNat 31)
    (if less != max then a else b, fl)

/-- fcvt.w.s and fcvt.wu.s. -/
def ieeeToInt (mode : Nat) (signed : Bool) (a : Word) : FRes :=
  let lo : Int := if signed then -2147483648 else 0
  let hi : Int := if signed then 2147483647 else 4294967295
  let sat := fun (v : Int) => w32 (unsignedOf 32 v)
  match ieee a with
  | .nan => (sat hi, 16)
  | .inf s => (sat (if s then lo else hi), 16)
  | .fin s x =>
    let m := roundMode mode s (if s then -x else x)
    let v : Int := if s then -(m : Int) else m
    if v < lo then (sat lo, 16) else if hi < v then (sat hi, 16) else (sat v, if (v : Rat) = x then 0 else 1)

/-- fcvt.s.w and fcvt.s.wu. -/
def ieeeOfInt (mode : Nat) (signed : Bool) (a : Word) : FRes :=
  ieeeRound mode false ((if signed then a.toInt else (a.toNat : Int)) : Rat)

/-- fclass.s -/
def ieeeClass (w : Word) : Word :=
  let neg := bitOf w.toNat 31
  match ieee w with
  | .nan => if isSnan w then 0x100#32 else 0x200#32
  | .inf _ => if neg then 1#32 else 0x80#32
  | .fin _ x =>
    if x = 0 then (if neg then 8#32 else 0x10#32)
    else if bitsOf w.toNat 23 8 = 0 then (if neg then 4#32 else 0x20#32)
    else if neg then 2#32 else 0x40#32

end Sys2Proof.Machine
end

