-- ==== Sys2Proof/Machine/HokExec.lean ====
section
/-!
DEFINITION. What a Hokuon pair's instructions do: RV32I, M, F and C with Zicsr and Zifencei by reference (R508), the fixed-point
extension of Table HOK-1 (R512, R513), in machine and user mode.
-/

namespace Sys2Proof.Machine

/-! ### The fixed-point extension (R512, R513) -/

/-- An integer saturated to 32 bits, and whether it was limited. -/
def sat32 (x : Int) : Word × Bool :=
  let y := clampInt x (-2147483648) 2147483647
  (w32 (unsignedOf 32 y), y != x)

/-- round(a * b / 2^31), halves upward. -/
def qProd (a b : Word) : Int := roundDiv (a.toInt * b.toInt) (2 ^ 31)

/-- hq.sadd -/
def hqSadd (a b : Word) : Word × Bool := sat32 (a.toInt + b.toInt)
/-- hq.ssub -/
def hqSsub (a b : Word) : Word × Bool := sat32 (a.toInt - b.toInt)
/-- hq.sabs -/
def hqSabs (a : Word) : Word × Bool := sat32 (if a.toInt < 0 then -a.toInt else a.toInt)
/-- hq.mulq -/
def hqMulq (a b : Word) : Word × Bool := sat32 (qProd a b)
/-- hq.macq: rd plus the rounded product, formed exactly and then saturated. -/
def hqMacq (d a b : Word) : Word × Bool := sat32 (d.toInt + qProd a b)
/-- hq.sshl -/
def hqSshl (a b : Word) : Word × Bool := sat32 (a.toInt * ((2 ^ (b.toNat % 32) : Nat) : Int))
/-- hq.srar -/
def hqSrar (a b : Word) : Word × Bool := (w32 (unsignedOf 32 (roundDiv a.toInt (2 ^ (b.toNat % 32)))), false)
/-- hq.sat: to a signed field of n + 1 bits. -/
def hqSat (a : Word) (n : Nat) : Word × Bool :=
  let y := clampInt a.toInt (-((2 ^ n : Nat) : Int)) ((2 ^ n : Nat) - 1)
  (w32 (unsignedOf 32 y), y != a.toInt)

/-! ### Fields of an instruction -/

/-- rd, rs1, rs2, funct3, funct7. -/
def iRd (w : Nat) : Nat := bitsOf w 7 5
/-- rs1 -/
def iRs1 (w : Nat) : Nat := bitsOf w 15 5
/-- rs2 -/
def iRs2 (w : Nat) : Nat := bitsOf w 20 5
/-- funct3 -/
def iF3 (w : Nat) : Nat := bitsOf w 12 3
/-- funct7 -/
def iF7 (w : Nat) : Nat := bitsOf w 25 7
/-- The I immediate. -/
def immI (w : Nat) : Int := signedOf 12 (bitsOf w 20 12)
/-- The S immediate. -/
def immS (w : Nat) : Int := signedOf 12 (bitsOf w 7 5 + 32 * bitsOf w 25 7)
/-- The B immediate. -/
def immB (w : Nat) : Int := signedOf 13 (2 * bitsOf w 8 4 + 32 * bitsOf w 25 6 + 2048 * bitsOf w 7 1 + 4096 * bitsOf w 31 1)
/-- The J immediate. -/
def immJ (w : Nat) : Int := signedOf 21 (2 * bitsOf w 21 10 + 2048 * bitsOf w 20 1 + 4096 * bitsOf w 12 8 + 1048576 * bitsOf w 31 1)

/-- An address plus a signed offset. -/
def plusI (a : Nat) (i : Int) : Nat := unsignedOf 32 ((a : Int) + i)

/-! ### Outcomes -/

/-- An instruction retires, with the next pc, what it counts and its note; or it takes an exception. -/
inductive XOut where
  | done (s : State) (pc : Nat) (events : List Nat) (note : Note)
  | trap (s : State) (cause tval : Nat)

/-- An illegal instruction; what mtval takes is not stated: drawn. [DESIGN CHOICE (safe), log row 75] -/
def XOut.illegal (s : State) : XOut := .trap s.drew 2 (s.drawn % 2 ^ 32)

/-- The place of an instruction: the pair, its address, the address after it. -/
structure At where
  q : Nat
  pc : Nat
  next : Nat

/-- The plain note of an instruction. -/
def At.note (t : At) : Note := { pc := t.pc, addr := 0, store := false, timed := false }

/-- A result to a register of x; the next instruction follows. -/
def State.xDone (s : State) (t : At) (rd : Nat) (v : Word) (es : List Nat) : XOut := .done (s.setX t.q rd v) t.next es t.note

/-! ### Arithmetic -/

/-- The operations of OP and OP-IMM. -/
def aluOp (f3 : Nat) (alt : Bool) (a b : Word) : Word :=
  let sh := b.toNat % 32
  match f3 with
  | 0 => if alt then a - b else a + b
  | 1 => a <<< sh
  | 2 => w32 (b2n (decide (a.toInt < b.toInt)))
  | 3 => w32 (b2n (decide (a.toNat < b.toNat)))
  | 4 => a ^^^ b
  | 5 => if alt then a.sshiftRight sh else a >>> sh
  | 6 => a ||| b
  | _ => a &&& b

/-- The operations of M; a division by zero gives all ones or the dividend. -/
def mulOp (f3 : Nat) (a b : Word) : Word :=
  match f3 with
  | 0 => a * b
  | 1 => w32 (unsignedOf 64 (a.toInt * b.toInt) / 2 ^ 32)
  | 2 => w32 (unsignedOf 64 (a.toInt * (b.toNat : Int)) / 2 ^ 32)
  | 3 => w32 (a.toNat * b.toNat / 2 ^ 32)
  | 4 => if b = 0#32 then 0xFFFFFFFF#32 else w32 (unsignedOf 32 (Int.tdiv a.toInt b.toInt))
  | 5 => if b = 0#32 then 0xFFFFFFFF#32 else w32 (a.toNat / b.toNat)
  | 6 => if b = 0#32 then a else w32 (unsignedOf 32 (Int.tmod a.toInt b.toInt))
  | _ => if b = 0#32 then a else w32 (a.toNat % b.toNat)

/-- OP: RV32I and M. -/
def State.xOp (s : State) (t : At) (w : Nat) : XOut :=
  let a := s.xr t.q (iRs1 w)
  let b := s.xr t.q (iRs2 w)
  if iF7 w = 0 then s.xDone t (iRd w) (aluOp (iF3 w) false a b) [0x08]
  else if iF7 w = 0x20 ∧ (iF3 w = 0 ∨ iF3 w = 5) then s.xDone t (iRd w) (aluOp (iF3 w) true a b) [0x08]
  else if iF7 w = 1 then s.xDone t (iRd w) (mulOp (iF3 w) a b) [if iF3 w < 4 then 0x09 else 0x0A]
  else .illegal s

/-- OP-IMM. -/
def State.xOpImm (s : State) (t : At) (w : Nat) : XOut :=
  let a := s.xr t.q (iRs1 w)
  let shift := iF3 w == 1 || iF3 w == 5
  let b := if shift then w32 (iRs2 w) else w32 (unsignedOf 32 (immI w))
  if shift && !(iF7 w == 0 || (iF7 w == 0x20 && iF3 w == 5)) then .illegal s
  else s.xDone t (iRd w) (aluOp (iF3 w) (shift && iF7 w == 0x20) a b) [0x08]

/-- custom-0: Table HOK-1; an encoding it does not list is illegal. -/
def State.xHq (s : State) (t : At) (w : Nat) : XOut :=
  let a := s.xr t.q (iRs1 w)
  let b := s.xr t.q (iRs2 w)
  let r : Option (Word × Bool) :=
    match iF7 w, iF3 w with
    | 0, 0 => some (hqSadd a b)
    | 0, 1 => some (hqSsub a b)
    | 0, 2 => if iRs2 w = 0 then some (hqSabs a) else none
    | 1, 0 => some (hqMulq a b)
    | 1, 1 => some (hqMacq (s.xr t.q (iRd w)) a b)
    | 2, 0 => some (hqSshl a b)
    | 2, 1 => some (hqSrar a b)
    | 0, 3 => some (hqSat a (iRs2 w))
    | _, _ => none
  match r with
  | none => .illegal s
  | some (v, sat) =>
    let s := if sat then s.csrPut t.q 0x800 1#32 else s
    s.xDone t (iRd w) v ([0x0F] ++ if sat then [0x18] else [])

/-! ### Control transfers -/

/-- A branch's condition; none for a reserved funct3. -/
def branchTaken (f3 : Nat) (a b : Word) : Option Bool :=
  match f3 with
  | 0 => some (a == b)
  | 1 => some (a != b)
  | 4 => some (decide (a.toInt < b.toInt))
  | 5 => some (decide (b.toInt ≤ a.toInt))
  | 6 => some (decide (a.toNat < b.toNat))
  | 7 => some (decide (b.toNat ≤ a.toNat))
  | _ => none

/-- BRANCH. -/
def State.xBranch (s : State) (t : At) (w : Nat) : XOut :=
  match branchTaken (iF3 w) (s.xr t.q (iRs1 w)) (s.xr t.q (iRs2 w)) with
  | none => .illegal s
  | some k => .done s (if k then plusI t.pc (immB w) else t.next) ([0x0D] ++ if k then [0x10] else []) { t.note with timed := true }

/-! ### Loads and stores (R510, R515 to R520) -/

/-- The mode of a load or store: machine mode with MPRV takes MPP's. -/
def State.dataUser (s : State) (q : Nat) : Bool :=
  if (s.hok.get q).mmode then s.mst q 17 1 == 1 && s.mst q 11 2 == 0 else true

/-- The note of a data access. -/
def At.mem (t : At) (a : Nat) (store : Bool) : Note := { pc := t.pc, addr := a, store := store, timed := true }

/-- A load of n bytes; k puts the value. -/
def State.xLoad (s : State) (t : At) (a n : Nat) (ev : List Nat) (k : State → Nat → State) : XOut :=
  if a % n ≠ 0 then .trap s 4 a
  else if !s.pmpOk t.q a .load (s.dataUser t.q) then .trap s 5 a
  else
    let x := s.loadAcc t.q a n
    if x.ok then .done (k x.st x.val) t.next (ev ++ x.events) (t.mem a false) else .trap x.st 5 a

/-- A store of n bytes. Where the read of the word that a byte or halfword store makes finds it uncorrectable, the store takes the load access
fault of R521 (R522, log row 119). [DEDUCED (unsafe), log row 119] -/
def State.xStore (s : State) (t : At) (a n v : Nat) (ev : List Nat) : XOut :=
  if a % n ≠ 0 then .trap s 6 a
  else if !s.pmpOk t.q a .store (s.dataUser t.q) then .trap s 7 a
  else
    let x := s.storeAcc t.q a n v
    if x.ok then .done x.st t.next (ev ++ x.events) (t.mem a true)
    else .trap x.st (if s.coreWrites t.q a && s.storeFinds a n then 5 else 7) a

/-- LOAD. -/
def State.xLoads (s : State) (t : At) (w : Nat) : XOut :=
  let a := plusI (s.xr t.q (iRs1 w)).toNat (immI w)
  let put := fun (f : Nat → Word) (s : State) (v : Nat) => s.setX t.q (iRd w) (f v)
  match iF3 w with
  | 0 => s.xLoad t a 1 [0x0B] (put fun v => w32 (unsignedOf 32 (signedOf 8 v)))
  | 1 => s.xLoad t a 2 [0x0B] (put fun v => w32 (unsignedOf 32 (signedOf 16 v)))
  | 2 => s.xLoad t a 4 [0x0B] (put w32)
  | 4 => s.xLoad t a 1 [0x0B] (put w32)
  | 5 => s.xLoad t a 2 [0x0B] (put w32)
  | _ => .illegal s

/-- STORE. -/
def State.xStores (s : State) (t : At) (w : Nat) : XOut :=
  let a := plusI (s.xr t.q (iRs1 w)).toNat (immS w)
  let v := (s.xr t.q (iRs2 w)).toNat
  match iF3 w with
  | 0 => s.xStore t a 1 v [0x0C]
  | 1 => s.xStore t a 2 v [0x0C]
  | 2 => s.xStore t a 4 v [0x0C]
  | _ => .illegal s

/-! ### System -/

/-- CSRRW, CSRRS, CSRRC and their immediate forms. -/
def State.xCsr (s : State) (t : At) (w : Nat) (umode : Bool) : XOut :=
  let n := bitsOf w 20 12
  let f := iF3 w % 4
  let src := if iF3 w < 4 then s.xr t.q (iRs1 w) else w32 (iRs1 w)
  let wr := f == 1 || iRs1 w != 0
  if f = 0 ∨ !s.csrMay t.q n umode wr then .illegal s
  else
    let old := s.csrRead t.q n
    let v := if f = 1 then src else if f = 2 then old ||| src else old &&& ~~~src
    let s := if wr then s.csrWrite t.q n v else s
    let s := if wr && n < 4 then s.mstPut t.q 13 2 3 else s
    let inv := if n = 0x7C1 ∧ wr then (if bitsOf v.toNat 0 2 = 3 then [0x26] else if bitsOf v.toNat 0 2 = 0 then [] else [0x2E]) else []
    s.xDone t (iRd w) old ([0x19] ++ inv)

/-- ECALL, EBREAK, MRET, WFI. -/
def State.xSys (s : State) (t : At) (w : Nat) (umode : Bool) : XOut :=
  if w = 0x00000073 then .trap s (if umode then 8 else 11) 0
  else if w = 0x00100073 then .trap s 3 t.pc
  else if w = 0x30200073 ∧ !umode then
    let s := s.mret t.q
    .done s (s.hok.get t.q).pc [] t.note
  else if w = 0x10500073 ∧ !(umode ∧ s.mst t.q 21 1 = 1) then
    .done (if s.irqs t.q = 0 then s.modHok t.q fun h => { h with wfi := true } else s) t.next [] t.note
  else .illegal s

/-- SYSTEM. [DESIGN CHOICE (safe), log row 75] -/
def State.xSystem (s : State) (t : At) (w : Nat) (umode : Bool) : XOut :=
  if iF3 w = 0 then s.xSys t w umode else s.xCsr t w umode

/-- FENCE: the store buffer holds nothing here. FENCE.I invalidates the instruction cache (R516). -/
def State.xFence (s : State) (t : At) (w : Nat) : XOut :=
  if iF3 w = 0 then .done s t.next [0x1A] t.note
  else if iF3 w = 1 then .done (s.modHok t.q fun h => { h with icache := [] }) t.next [0x1B] t.note
  else .illegal s

/-! ### F (R509) -/

/-- The rounding mode of an instruction: rm, or frm where rm is 7; none where reserved. -/
def State.rmOf (s : State) (q w : Nat) : Option Nat :=
  let m := if iF3 w = 7 then bitsOf (s.csrRaw q 3).toNat 5 3 else iF3 w
  if m < 5 then some m else none

/-- An FP instruction's flags accumulate, and FS becomes dirty. -/
def State.fpFlags (s : State) (q fl : Nat) : State :=
  (s.csrPut q 3 (s.csrRaw q 3 ||| w32 fl)).mstPut q 13 2 3

/-- A result to f. [DEDUCED (unsafe), log row 77] -/
def State.fDone (s : State) (t : At) (w : Nat) (r : FRes) (es : List Nat) : XOut :=
  .done ((s.setF t.q (iRd w) r.1).fpFlags t.q r.2) t.next ([0x0E] ++ es ++ if r.2 = 0 then [] else [0x17]) t.note

/-- A result of F to x. [DEDUCED (unsafe), log row 77] -/
def State.fxDone (s : State) (t : At) (w : Nat) (r : FRes) : XOut :=
  .done ((s.setX t.q (iRd w) r.1).fpFlags t.q r.2) t.next ([0x0E] ++ if r.2 = 0 then [] else [0x17]) t.note

/-- A sign injection: copy, opposite, exclusive or. -/
def fSgnj (k : Nat) (a b : Word) : Option Word :=
  let m := a &&& 0x7FFFFFFF#32
  if k = 0 then some (m ||| (b &&& 0x80000000#32))
  else if k = 1 then some (m ||| (~~~b &&& 0x80000000#32))
  else if k = 2 then some (a ^^^ (b &&& 0x80000000#32))
  else none

/-- OP-FP, single precision. -/
def State.xFp (s : State) (t : At) (w : Nat) : XOut :=
  let a := s.fr t.q (iRs1 w)
  let b := s.fr t.q (iRs2 w)
  let x := s.xr t.q (iRs1 w)
  let rm := s.rmOf t.q w
  match iF7 w, rm, iRs2 w, iF3 w with
  | 0x00, some m, _, _ => s.fDone t w (ieeeAdd m a b) []
  | 0x04, some m, _, _ => s.fDone t w (ieeeSub m a b) []
  | 0x08, some m, _, _ => s.fDone t w (ieeeMul m a b) []
  | 0x0C, some m, _, _ => s.fDone t w (ieeeDiv m a b) [0x16]
  | 0x2C, some m, 0, _ => s.fDone t w (ieeeSqrt m a) [0x16]
  | 0x10, _, _, k => match fSgnj k a b with
    | some v => s.fDone t w (v, 0) []
    | none => .illegal s
  | 0x14, _, _, 0 => s.fDone t w (ieeeMinMax false a b) []
  | 0x14, _, _, 1 => s.fDone t w (ieeeMinMax true a b) []
  | 0x60, some m, 0, _ => s.fxDone t w (ieeeToInt m true a)
  | 0x60, some m, 1, _ => s.fxDone t w (ieeeToInt m false a)
  | 0x68, some m, 0, _ => s.fDone t w (ieeeOfInt m true x) []
  | 0x68, some m, 1, _ => s.fDone t w (ieeeOfInt m false x) []
  | 0x70, _, 0, 0 => s.fxDone t w (a, 0)
  | 0x70, _, 0, 1 => s.fxDone t w (ieeeClass a, 0)
  | 0x78, _, 0, 0 => s.fDone t w (x, 0) []
  | 0x50, _, _, k => if k < 3 then s.fxDone t w (ieeeCmp k a b) else .illegal s
  | _, _, _, _ => .illegal s

/-- The fused multiply-adds; op is 0x43, 0x47, 0x4B, 0x4F. -/
def State.xFma (s : State) (t : At) (w op : Nat) : XOut :=
  match s.rmOf t.q w with
  | some m =>
    if bitsOf w 25 2 = 0 then
      s.fDone t w (ieeeFma m (s.fr t.q (iRs1 w)) (s.fr t.q (iRs2 w)) (s.fr t.q (bitsOf w 27 5))
        (op == 0x4B || op == 0x4F) (op == 0x47 || op == 0x4F)) []
    else .illegal s
  | none => .illegal s

/-- Every F instruction; FS = 0 makes them illegal. -/
def State.xFloat (s : State) (t : At) (w op : Nat) : XOut :=
  if s.mst t.q 13 2 = 0 then .illegal s
  else if op = 0x07 then
    (if iF3 w = 2 then s.xLoad t (plusI (s.xr t.q (iRs1 w)).toNat (immI w)) 4 [0x0B]
      (fun s v => (s.setF t.q (iRd w) (w32 v)).mstPut t.q 13 2 3) else .illegal s)
  else if op = 0x27 then
    (if iF3 w = 2 then s.xStore t (plusI (s.xr t.q (iRs1 w)).toNat (immS w)) 4 (s.fr t.q (iRs2 w)).toNat [0x0C] else .illegal s)
  else if op = 0x53 then s.xFp t w
  else s.xFma t w op

/-! ### An instruction -/

/-- A 32-bit instruction. [PRESUMED (unsafe), log row 14] -/
def State.xExec (s : State) (t : At) (w : Nat) (umode : Bool) : XOut :=
  let op := w % 128
  if op = 0x37 then s.xDone t (iRd w) (w32 (w / 4096 * 4096)) [0x08]
  else if op = 0x17 then s.xDone t (iRd w) (w32 (t.pc + w / 4096 * 4096)) [0x08]
  else if op = 0x6F then .done (s.setX t.q (iRd w) (w32 t.next)) (plusI t.pc (immJ w)) [0x12] { t.note with timed := true }
  else if op = 0x67 then
    (if iF3 w = 0 then
      .done (s.setX t.q (iRd w) (w32 t.next)) (plusI (s.xr t.q (iRs1 w)).toNat (immI w) / 2 * 2) [0x13] { t.note with timed := true }
     else .illegal s)
  else if op = 0x63 then s.xBranch t w
  else if op = 0x03 then s.xLoads t w
  else if op = 0x23 then s.xStores t w
  else if op = 0x13 then s.xOpImm t w
  else if op = 0x33 then s.xOp t w
  else if op = 0x0F then s.xFence t w
  else if op = 0x73 then s.xSystem t w umode
  else if op = 0x0B then s.xHq t w
  else if [0x07, 0x27, 0x43, 0x47, 0x4B, 0x4F, 0x53].contains op then s.xFloat t w op
  else .illegal s

/-! ### C -/

/-- Encodes an I form. -/
def encI (op f3 rd rs1 : Nat) (imm : Int) : Nat := op + 128 * rd + 4096 * f3 + 32768 * rs1 + 1048576 * unsignedOf 12 imm
/-- Encodes an S form. -/
def encS (op f3 rs1 rs2 : Nat) (imm : Nat) : Nat :=
  op + 128 * (imm % 32) + 4096 * f3 + 32768 * rs1 + 1048576 * rs2 + 33554432 * (imm / 32 % 128)
/-- Encodes an R form. -/
def encR (op f3 f7 rd rs1 rs2 : Nat) : Nat := op + 128 * rd + 4096 * f3 + 32768 * rs1 + 1048576 * rs2 + 33554432 * f7
/-- Encodes a B form. -/
def encB (f3 rs1 rs2 : Nat) (imm : Int) : Nat :=
  let u := unsignedOf 13 imm
  0x63 + 128 * (bitsOf u 11 1 + 2 * bitsOf u 1 4) + 4096 * f3 + 32768 * rs1 + 1048576 * rs2 + 33554432 * (bitsOf u 5 6 + 64 * bitsOf u 12 1)
/-- Encodes a J form. -/
def encJ (rd : Nat) (imm : Int) : Nat :=
  let u := unsignedOf 21 imm
  0x6F + 128 * rd + 4096 * (bitsOf u 12 8 + 256 * bitsOf u 11 1 + 512 * bitsOf u 1 10 + 524288 * bitsOf u 20 1)

/-- The jump offset of C.J and C.JAL. -/
def cImmJ (h : Nat) : Int :=
  signedOf 12 (2 * bitsOf h 3 3 + 16 * bitsOf h 11 1 + 32 * bitsOf h 2 1 + 64 * bitsOf h 7 1 + 128 * bitsOf h 6 1 + 256 * bitsOf h 9 2 +
    1024 * bitsOf h 8 1 + 2048 * bitsOf h 12 1)
/-- The branch offset of C.BEQZ and C.BNEZ. -/
def cImmB (h : Nat) : Int :=
  signedOf 9 (2 * bitsOf h 3 2 + 8 * bitsOf h 10 2 + 32 * bitsOf h 2 1 + 64 * bitsOf h 5 2 + 256 * bitsOf h 12 1)
/-- The 6-bit immediate. -/
def cImm6 (h : Nat) : Int := signedOf 6 (bitsOf h 2 5 + 32 * bitsOf h 12 1)
/-- The offset of C.LW, C.SW, C.FLW and C.FSW. -/
def cOffW (h : Nat) : Nat := 4 * bitsOf h 6 1 + 8 * bitsOf h 10 3 + 64 * bitsOf h 5 1

/-- Quadrant 0. -/
def cQuad0 (h : Nat) : Option Nat :=
  let a := 8 + bitsOf h 7 3
  let d := 8 + bitsOf h 2 3
  let off := cOffW h
  match h / 8192 with
  | 0 =>
    let n := 4 * bitsOf h 6 1 + 8 * bitsOf h 5 1 + 16 * bitsOf h 11 2 + 64 * bitsOf h 7 4
    if n = 0 then none else some (encI 0x13 0 d 2 n)
  | 2 => some (encI 0x03 2 d a off)
  | 3 => some (encI 0x07 2 d a off)
  | 6 => some (encS 0x23 2 a d off)
  | 7 => some (encS 0x27 2 a d off)
  | _ => none

/-- C.ADDI16SP and C.LUI. -/
def cLui (h : Nat) : Option Nat :=
  let r := bitsOf h 7 5
  if r = 2 then
    let n := signedOf 10 (16 * bitsOf h 6 1 + 32 * bitsOf h 2 1 + 64 * bitsOf h 5 1 + 128 * bitsOf h 3 2 + 512 * bitsOf h 12 1)
    if n = 0 then none else some (encI 0x13 0 2 2 n)
  else if cImm6 h = 0 then none
  else some (0x37 + 128 * r + 4096 * unsignedOf 20 (cImm6 h))

/-- The arithmetic group of quadrant 1. -/
def cAlu (h : Nat) : Option Nat :=
  let a := 8 + bitsOf h 7 3
  let b := 8 + bitsOf h 2 3
  match bitsOf h 10 2 with
  | 0 => if bitOf h 12 then none else some (encR 0x13 5 0 a a (bitsOf h 2 5))
  | 1 => if bitOf h 12 then none else some (encR 0x13 5 0x20 a a (bitsOf h 2 5))
  | 2 => some (encI 0x13 7 a a (cImm6 h))
  | _ =>
    if bitOf h 12 then none
    else match bitsOf h 5 2 with
      | 0 => some (encR 0x33 0 0x20 a a b)
      | 1 => some (encR 0x33 4 0 a a b)
      | 2 => some (encR 0x33 6 0 a a b)
      | _ => some (encR 0x33 7 0 a a b)

/-- Quadrant 1. -/
def cQuad1 (h : Nat) : Option Nat :=
  let r := bitsOf h 7 5
  match h / 8192 with
  | 0 => some (encI 0x13 0 r r (cImm6 h))
  | 1 => some (encJ 1 (cImmJ h))
  | 2 => some (encI 0x13 0 r 0 (cImm6 h))
  | 3 => cLui h
  | 4 => cAlu h
  | 5 => some (encJ 0 (cImmJ h))
  | 6 => some (encB 0 (8 + bitsOf h 7 3) 0 (cImmB h))
  | _ => some (encB 1 (8 + bitsOf h 7 3) 0 (cImmB h))

/-- Quadrant 2. -/
def cQuad2 (h : Nat) : Option Nat :=
  let r := bitsOf h 7 5
  let r2 := bitsOf h 2 5
  let offL := 4 * bitsOf h 4 3 + 32 * bitsOf h 12 1 + 64 * bitsOf h 2 2
  let offS := 4 * bitsOf h 9 4 + 64 * bitsOf h 7 2
  match h / 8192 with
  | 0 => if bitOf h 12 then none else some (encR 0x13 1 0 r r r2)
  | 2 => if r = 0 then none else some (encI 0x03 2 r 2 offL)
  | 3 => some (encI 0x07 2 r 2 offL)
  | 4 =>
    if bitOf h 12 then
      if r2 = 0 then (if r = 0 then some 0x00100073 else some (encI 0x67 0 1 r 0)) else some (encR 0x33 0 0 r r r2)
    else if r2 = 0 then (if r = 0 then none else some (encI 0x67 0 0 r 0))
    else some (encR 0x33 0 0 r 0 r2)
  | 6 => some (encS 0x23 2 2 r2 offS)
  | 7 => some (encS 0x27 2 2 r2 offS)
  | _ => none

/-- The 32-bit instruction that a compressed one stands for. -/
def cExpand (h : Nat) : Option Nat :=
  match h % 4 with
  | 0 => cQuad0 h
  | 1 => cQuad1 h
  | 2 => cQuad2 h
  | _ => none

end Sys2Proof.Machine
end

