-- ==== Sys2Proof/Machine/Hokuon.lean ====
section
/-!
DEFINITION. The meanings of the Hokuon commands (chapter 16): an instruction fetched and executed, the fixed-point instructions,
cache invalidation, lockstep and parity events, interrupts.
-/

namespace Sys2Proof.Machine

/-! ### One instruction -/

/-- What a fetch gives: the state, the instruction's bits, its length and what it counts; or the address that faults. -/
inductive Fetched where
  | ok (s : State) (w len : Nat) (events : List Nat)
  | fault (s : State) (tval : Nat)

/-- One parcel, under PMP. -/
def State.parcel (s : State) (q a : Nat) : DataAcc :=
  if s.pmpOk q a .fetch (!(s.hok.get q).mmode) then s.fetchAcc q a else { st := s, val := 0, events := [], ok := false }

/-- The instruction at the pc: one parcel, or two. [DESIGN CHOICE (unsafe), log row 72] -/
def State.hokFetch (s : State) (q : Nat) : Fetched :=
  let pc := (s.hok.get q).pc
  let x := s.parcel q pc
  if !x.ok then .fault x.st pc
  else if x.val % 4 ≠ 3 then .ok x.st x.val 2 x.events
  else
    let a := (pc + 2) % 2 ^ 32
    let y := x.st.parcel q a
    if y.ok then .ok y.st (x.val + 65536 * y.val) 4 (x.events ++ y.events) else .fault y.st a

/-- The end of an instruction: the next pc and what it counts, or the trap it takes. -/
def State.hokEnd (s : State) (q : Nat) (pre : List Nat) (umode : Bool) (o : XOut) : State :=
  let i := s.noteAt q
  match o with
  | .done s pc es note => ((s.setPc q pc).perfAll q note (pre ++ [0x01] ++ es)).perfTime q note umode
  | .trap s cause tval =>
    ((s.trap q false cause tval).perfAll q i (pre ++ [0x1E] ++ if cause = 8 ∨ cause = 11 then [0x1D] else [])).perfTime q i umode

/-- An instruction of a length executes at the pc. [DESIGN CHOICE (safe), log row 79] -/
def State.hokWord (s : State) (q w len : Nat) (pre : List Nat) : State :=
  let h := s.hok.get q
  let t : At := { q := q, pc := h.pc, next := (h.pc + len) % 2 ^ 32 }
  let o := if len = 4 then s.xExec t w (!h.mmode) else match cExpand w with
    | some w => s.xExec t w (!h.mmode)
    | none => .illegal s
  s.hokEnd q pre (!h.mmode) o

/-- The pair executes the instruction at its pc; a fetch that faults takes its exception. [DESIGN CHOICE (unsafe), log row 72] -/
def State.hokStep (s : State) (q : Nat) : State :=
  match s.hokFetch q with
  | .ok s w len es => s.hokWord q w len es
  | .fault s tval => s.hokEnd q [] (!(s.hok.get q).mmode) (.trap s 1 tval)

/-- The pair has come to an instruction boundary: a breakpoint there halts it (R598). [DEDUCED (unsafe), log row 81] -/
def State.hokArrive (s : State) (q : Nat) : State :=
  if (List.range 4).any fun k => (s.hok.get q).bp.get k == (s.hok.get q).pc + 1 then s.dbgHalt q true else s

/-- A live pair that waits in WFI goes on where an enabled interrupt is pending. [PRESUMED (unsafe), log row 80] -/
def State.hokGo (s : State) (q : Nat) : Bool := s.pairLive q && !((s.hok.get q).wfi && s.irqs q == 0)

/-- A live pair does something as its next instruction. [DESIGN CHOICE (safe), log row 79] -/
def State.hokDo (s : State) (q : Nat) (k : State → State) : State :=
  if s.hokGo q then (k (s.modHok q fun h => { h with wfi := false })).hokArrive q else s

/-- HOKUON_INSTRUCTION (R508 to R520): the pair fetches at its pc and executes. -/
def execHokuonInstruction (q : Fin 2) (s : State) : Res := .next (s.hokDo q fun s => s.hokStep q)

/-! ### The fixed-point extension as the next instruction (R512, R513) -/

/-- HQ_SADD -/
def execHqSadd (q : Fin 2) (rd rs1 rs2 : Fin 32) (s : State) : Res := .next (s.hokDo q fun s => s.hokWord q (encR 0x0B 0 0 rd rs1 rs2) 4 [])
/-- HQ_SSUB -/
def execHqSsub (q : Fin 2) (rd rs1 rs2 : Fin 32) (s : State) : Res := .next (s.hokDo q fun s => s.hokWord q (encR 0x0B 1 0 rd rs1 rs2) 4 [])
/-- HQ_SABS -/
def execHqSabs (q : Fin 2) (rd rs1 : Fin 32) (s : State) : Res := .next (s.hokDo q fun s => s.hokWord q (encR 0x0B 2 0 rd rs1 0) 4 [])
/-- HQ_MULQ -/
def execHqMulq (q : Fin 2) (rd rs1 rs2 : Fin 32) (s : State) : Res := .next (s.hokDo q fun s => s.hokWord q (encR 0x0B 0 1 rd rs1 rs2) 4 [])
/-- HQ_MACQ -/
def execHqMacq (q : Fin 2) (rd rs1 rs2 : Fin 32) (s : State) : Res := .next (s.hokDo q fun s => s.hokWord q (encR 0x0B 1 1 rd rs1 rs2) 4 [])
/-- HQ_SSHL -/
def execHqSshl (q : Fin 2) (rd rs1 rs2 : Fin 32) (s : State) : Res := .next (s.hokDo q fun s => s.hokWord q (encR 0x0B 0 2 rd rs1 rs2) 4 [])
/-- HQ_SRAR -/
def execHqSrar (q : Fin 2) (rd rs1 rs2 : Fin 32) (s : State) : Res := .next (s.hokDo q fun s => s.hokWord q (encR 0x0B 1 2 rd rs1 rs2) 4 [])
/-- HQ_SAT -/
def execHqSat (q : Fin 2) (rd rs1 n : Fin 32) (s : State) : Res := .next (s.hokDo q fun s => s.hokWord q (encR 0x0B 3 0 rd rs1 n) 4 [])

/-! ### Cache invalidation (R514) -/

/-- A write of hcache by the running pair: machine mode only. [DEDUCED (unsafe), log row 74; DESIGN CHOICE (safe), log row 79] -/
def State.hcacheCmd (s : State) (q : Nat) (v : Word) (ev : Nat) : State :=
  if !s.pairLive q then s
  else if (s.hok.get q).mmode then (s.hcacheWrite q v).perfAdd q (s.noteAt q) ev 1
  else s.hokEnd q [] true (.illegal s)

/-- HCACHE_INV_LINE -/
def execHcacheInvLine (q : Fin 2) (addr : BitVec 32) (s : State) : Res :=
  .next (s.hcacheCmd q ((addr &&& 0xFFFFFFE0#32) ||| 1#32) 0x2E)
/-- HCACHE_INV_DCACHE -/
def execHcacheInvDcache (q : Fin 2) (s : State) : Res := .next (s.hcacheCmd q 2#32 0x2E)
/-- HCACHE_INV_ICACHE -/
def execHcacheInvIcache (q : Fin 2) (s : State) : Res := .next (s.hcacheCmd q 3#32 0x26)

/-! ### Lockstep and parity (R505 to R507) -/

/-- HOKUON_LOCKSTEP_MISMATCH (R506): the pair halts, the differing transaction is discarded, its source is raised. -/
def execHokuonLockstepMismatch (q : Fin 2) (s : State) : Res :=
  if s.pairLive q then .next ((s.modHok q fun h => { h with stopped := true }).raise (FS.HPA_LOCKSTEP + q)) else .next s

/-- CACHE_PARITY_ERROR (R507): the line is invalidated and fetched again in both cores. -/
def execCacheParityError (q : Fin 2) (instr : Bool) (addr : BitVec 32) (s : State) : Res :=
  let a := addr.toNat
  let h := s.hok.get q
  if !s.pairLive q || (lineOf (if instr then h.icache else h.dcache) a).isNone then .next s
  else
    let l := if s.coreReads q a then s.lineBytes a else []
    .next ((s.modHok q fun h =>
      if instr then { h with icache := h.icache.set (a / 32 * 32) l } else { h with dcache := h.dcache.set (a / 32 * 32) l }).perfAdd
        q (s.noteAt q) (if instr then 0x25 else 0x2D) 1)

/-! ### Interrupts (R525, R526, R88) -/

/-- The cause of the interrupt that is taken first: external, software, timer. [PRESUMED (unsafe), log row 80] -/
def irqCause (p : Nat) : Nat := if bitOf p 11 then 11 else if bitOf p 3 then 3 else 7

/-- The counters of an interrupt: INTERRUPT, IRQ_TIMER, or IRQ_PRIO of the source that the claim names. -/
def State.irqEvents (s : State) (q c : Nat) : List Nat :=
  [0x1F] ++ (if c = 7 then [0x40] else if c = 11 then [0x40 + s.get (F.HIC_SRC_PRIO q (s.hicClaim q))] else [])

/-- HIC_INTERRUPT_TAKE (R525 to R527): the pair takes the first of its pending and enabled interrupts. -/
def execHicInterruptTake (q : Fin 2) (s : State) : Res :=
  let p := s.irqs q
  if s.pairLive q && p != 0 && (!(s.hok.get q).mmode || s.mst q 3 1 == 1) then
    let c := irqCause p
    let es := s.irqEvents q c
    let s := s.trap q true c 0
    .next ((s.perfAll q (s.noteAt q) es).hokArrive q)
  else .next s

/-- MTIMECMP_MATCH (R88): mip.MTIP follows mtime and mtimecmp; a pair in WFI that has the timer interrupt enabled goes on. -/
def execMtimecmpMatch (q : Fin 2) (s : State) : Res :=
  if s.pairLive q && bitOf (s.irqs q) 7 then .next (s.modHok q fun h => { h with wfi := false }) else .next s

end Sys2Proof.Machine
end

