-- ==== Sys2Proof/Machine/Hspi.lean ====
section
/-!
DEFINITION. The meanings of the host SPI (R637 to R642), the TWW short status (R643), the GPIO pins (R562), and of the register
accesses between pairs that have rows of their own (R527, R528, R530).
-/

namespace Sys2Proof.Machine

/-- A transaction's answer. -/
def State.said (s : State) (ws : List Word) (bs : List Byte) : State :=
  { s with resp := { words := ws, bytes := bs, result := 0, fault := false } }

/-- The host SPI is locked (R639). [DEDUCED (unsafe), log row 103] -/
def State.hspiLocked (s : State) : Bool := s.flag F.COURH_HSPI_CFG_LOCK

/-- HSPI_MISO answers: COURH is powered, HPA has been released (Table SUP-7), and the pad is not held (R543). -/
def State.hspiOut (s : State) : Bool := s.pdOn 11 && (s.hok.get 0).run && !s.flag (padHoldF 11)

/-- HSPI_STATUS (R637). -/
def execHspiStatus (s : State) : Res :=
  if s.hspiOut then .next (s.said [] (leBytes 2 (s.view R.COURH_STATUS).toNat)) else .next s

/-- HSPI_READ (R637 to R639): n words; locked, filler only. -/
def execHspiRead (addr : BitVec 32) (n : Nat) (s : State) : Res :=
  if !s.hspiOut then .next s
  else if s.hspiLocked then .next (s.said [] (List.replicate (5 * n) 0#8))
  else (let x := s.readRun addr.toNat n; .next (x.1.said x.2.1 []))

/-- HSPI_WRITE (R637 to R639): words at rising addresses; locked, ignored with ACCESS set. -/
def execHspiWrite (addr : BitVec 32) (ws : List Word) (s : State) : Res :=
  if !s.pdOn 11 then .next s
  else if s.hspiLocked then .next s.accessSet
  else .next (((List.range ws.length).zip ws).foldl (fun (s : State) (x : Nat × Word) =>
    (s.hostWrite .hspi ((addr.toNat + 4 * x.1) % 2 ^ 32) x.2).1) s)

/-- A message comes into the host-to-device buffer, unless one waits there (R599, R640). [DEDUCED (unsafe), log row 103] -/
def State.h2dPut (s : State) (bs : List Byte) (doc : Bool) : State :=
  if s.flag F.COURH_STATUS_H2D_FULL then s.set1 F.COURH_STICKY_H2D_OVF
  else
    let b := bs.take 4096
    (((s.wrBytes R.COURH_H2D_BUF b).wr R.COURH_H2D_LEN (w32 b.length)).put F.COURH_STATUS_H2D_FULL 1).put F.COURH_STATUS_H2D_DOC (b2n doc)

/-- HSPI_MSG_PUT (R640): taken when HSPI_CS_N rises. -/
def execHspiMsgPut (bytes : List Byte) (s : State) : Res :=
  if s.pdOn 11 && !bytes.isEmpty then .next (s.h2dPut bytes false) else .next s

/-- HSPI_MSG_GET (R641): the host clocks n bytes; reading the message's last byte empties the buffer. -/
def execHspiMsgGet (n : Nat) (s : State) : Res :=
  if !s.hspiOut then .next s
  else if !s.flag F.COURH_STATUS_D2H_FULL then .next (s.said [] [0#8, 0#8])
  else
    let m := s.d2hMsg
    let s := s.said [] ((leBytes 2 m.length ++ m).take n)
    if m.length + 2 ≤ n then .next (s.put F.COURH_STATUS_D2H_FULL 0) else .next s

/-- H2D_DONE (R640): a write of COURH_H2D_DONE. -/
def execH2dDone (i : Initiator) (v : Word) (s : State) : Res := .next (s.busWrite i R.COURH_H2D_DONE v)

/-- D2H_POST (R599, R641): a write of COURH_D2H_LEN. -/
def execD2hPost (i : Initiator) (v : Word) (s : State) : Res := .next (s.busWrite i R.COURH_D2H_LEN v)

/-- HSPI_LOCK (R639): a write of COURH_HSPI_CFG. -/
def execHspiLock (i : Initiator) (v : Word) (s : State) : Res := .next (s.busWrite i R.COURH_HSPI_CFG v)

/-! ### TWW short status (R643) -/

/-- The state code of Table COU-8. -/
def State.twwCode (s : State) : Nat :=
  if s.plState ≠ 3 then s.plState
  else if s.inFoyer then 5
  else if s.flag F.CUR_STATUS_SAFE then 6
  else if (s.hok.get 0).run then 4
  else 3

/-- The two bytes of the short status. -/
def State.twwBytes (s : State) : List Byte :=
  leBytes 1 (s.twwCode + 8 * b2n s.clk.failHold + 16 * s.get F.SYS_START_SUPPLY_FAIL + 32 * s.get F.PLINTH_STATUS_MEAS_OK +
    64 * s.get F.PLINTH_STATUS_START_OK + 128 * s.get F.COURH_STATUS_D2H_FULL) ++ leBytes 1 (satTo 8 s.plinth.hstore)

/-- TWW_STATUS_READ (R556, R643): the answer's result is 1 where the frame is acknowledged, and its bytes are the status. -/
def execTwwStatusRead (addr : Fin 128) (s : State) : Res :=
  let ack := s.alive && addr.val == s.get F.PLINTH_TWW_ADDR_ADDR && addr.val != 0
  .next { s with resp := { words := [], bytes := if ack then s.twwBytes else [], result := b2n ack, fault := false } }

/-! ### GPIO (R562) -/

/-- GPIO_EDGE (R562): a pin changes level; a pad of function general I/O records the edge. -/
def execGpioEdge (k : Fin 8) (level : Bool) (s : State) : Res :=
  let was := s.padIn k
  let s := { s with pins := { s.pins with gpio := bitsPut s.pins.gpio k 1 (b2n level) } }
  if s.pdOn 1 && s.padIn k != was then .next (s.put ⟨R.SYS_GPIO_EVT, if level then k.val else k.val + 8, 1⟩ 1) else .next s

/-! ### Between the pairs (R527, R528, R530) -/

/-- DOORBELL (R527): a write of SYS_DOORBELL. -/
def execDoorbell (i : Initiator) (v : Word) (s : State) : Res := .next (s.busWrite i R.SYS_DOORBELL v)

/-- The pair an initiator is. -/
def pairOf (i : Initiator) : Nat := if i = .hpb then 1 else 0

/-- SEM_ACQUIRE (R528): a read of SYS_SEM; a pair that finds it taken counts SEM_FAIL (Table HOK-6). -/
def execSemAcquire (i : Initiator) (k : Fin 16) (s : State) : Res :=
  let x := s.semRead k
  let s := x.1.answer x.2
  if x.2 = 1#32 ∧ (i = .hpa ∨ i = .hpb) then .next (s.perfAdd (pairOf i) (s.noteAt (pairOf i)) 0x5C 1) else .next s

/-- SEM_RELEASE (R528): a write of SYS_SEM. -/
def execSemRelease (i : Initiator) (k : Fin 16) (v : Word) (s : State) : Res := .next (s.busWrite i (R.SYS_SEM k) v)

/-- PERF_COUNTER_READ (R530): a read of PERF_CNT_LO latches the upper bits. -/
def execPerfCounterRead (_i : Initiator) (k : Fin 4) (e : Fin 96) (s : State) : Res :=
  let x := s.perfRead k e
  .next (x.1.answer x.2)

/-- PERF_COUNTER_CLEAR (R529): a write of PERF_CTRL. -/
def execPerfCounterClear (i : Initiator) (v : Word) (s : State) : Res := .next (s.busWrite i R.PERF_CTRL v)

end Sys2Proof.Machine
end

