-- ==== Sys2Proof/Machine/Docent.lean ====
section
/-!
DEFINITION. The meanings of the Docent port (R593 to R599): the debug link's transactions and the service channel's frames.
-/

namespace Sys2Proof.Machine

/-! ### The debug link -/

/-- What a request gives: the state, ACK (1 OK, 2 WAIT, 4 FAULT, 6 DENIED), RDATA. -/
abbrev DocAns := State × Nat × Word

/-- FAULT with no effect. [DEDUCED (unsafe), log row 104] -/
def docFault (s : State) : DocAns := (s, 4, 0#32)

/-- DENIED: the permit in force is lower than the request's (R597). [DEDUCED (unsafe), log row 104] -/
def State.docNeed (s : State) (level : Nat) (k : State → DocAns) : DocAns := if s.get F.SV_INFO_PERMIT < level then (s, 6, 0#32) else k s

/-- Answers a request. -/
def State.docSay (s : State) (ack : Nat) (w : Word) : State := { s with resp := { words := [w], bytes := [], result := ack, fault := false } }

/-- A request, with its OP and TARGET as one number, ADDR and DATA (R593, R595): not seen with the pads disabled; the identical request
after WAIT gets the result that was held; an access that has not completed gives WAIT, is completed and its result held.
[DEDUCED (unsafe), log row 104] -/
def State.docReq (s : State) (op addr data : Nat) (wait : Bool) (k : State → DocAns) : State :=
  if !s.docPads || !s.pdOn 1 then s
  else
    let t := s.modSv fun v => { v with held := none }
    match s.sv.held.filter fun x => x.1 == op && x.2.1 == addr && x.2.2.1 == data with
    | some x => t.docSay (x.2.2.2 / 2 ^ 32) (w32 x.2.2.2)
    | none =>
      let x := k t
      if wait && x.2.1 != 6 then
        (x.1.modSv fun v => { v with held := some (op, addr, data, x.2.1 * 2 ^ 32 + x.2.2.toNat) }).docSay 2 0#32
      else x.1.docSay x.2.1 x.2.2

/-- The Docent status word (Table SVA-17). [DEDUCED (unsafe), log row 104] -/
def State.docStatus (s : State) : Word :=
  w32 (2 ^ 31 * b2n s.inFoyer + 2 ^ 30 * b2n (s.flag F.CUR_STATUS_SAFE) + 65536 * satTo 8 s.sv.crcErr + 8192 * satTo 3 s.sv.svcErr +
    16 * maskOf 9 s.dbgHalted + 8 * b2n s.sv.debugLock + 4 * b2n s.sv.bpHit + s.get F.SV_INFO_PERMIT)

/-- DOC_STATUS (R596). -/
def execDocStatus (s : State) : Res := .next (s.docReq 0 0 0 false fun s => (s, 1, s.docStatus))

/-- DOC_IDCODE (R596). -/
def execDocIdcode (s : State) : Res := .next (s.docReq 1 0 0 false fun s => (s, 1, s.sysId))

/-- A READ (R597). -/
def State.docRead (s : State) (addr : Nat) : DocAns :=
  let a := addr / 4 * 4
  s.docNeed 1 fun s => if s.docReads a then (let x := s.wordAt a; (x.1, 1, x.2)) else docFault s

/-- DOC_READ (R595 to R597); wait: the access has not completed by field 8. -/
def execDocRead (addr : BitVec 32) (wait : Bool) (s : State) : Res := .next (s.docReq 2 addr.toNat 0 wait fun s => s.docRead addr.toNat)

/-- A WRITE (R597): as a host SPI write; a refused one gives FAULT and sets its block's CFG_REJECT. [DEDUCED (unsafe), log row 103] -/
def State.docWrite (s : State) (addr : Nat) (v : Word) : DocAns :=
  let a := addr / 4 * 4
  s.docNeed 2 fun s =>
    if s.docReads a && !docReserved a then (s.wordPut .hspi a v, if s.refuses .hspi a v then 4 else 1, 0#32) else docFault s

/-- DOC_WRITE (R595 to R597). -/
def execDocWrite (addr : BitVec 32) (v : Word) (wait : Bool) (s : State) : Res :=
  .next (s.docReq 3 addr.toNat v.toNat wait fun s => s.docWrite addr.toNat v)

/-- The power domain of a target (Table SVA-15). -/
def targetPd (t : Nat) : Nat := if t < 2 then 2 + t else if t < 8 then pairPd (t - 2) else 6

/-- A HALT (R597, R598): SP not while it meters or detects arcs. [DEDUCED (unsafe), log row 104] -/
def State.docHalt (s : State) (t : Nat) : DocAns :=
  s.docNeed 2 fun s =>
    if !s.pdOn (targetPd t) || (t == 8 && (s.flag F.METER_CTRL_EN || (List.range 4).any s.arcOn)) then docFault s
    else (s.dbgHalt t false, 1, 0#32)

/-- DOC_HALT (R595, R598). -/
def execDocHalt (t : Fin 16) (s : State) : Res :=
  .next (s.docReq (4 + 16 * t) 0 0 false fun s => if 8 < t.val then docFault s else s.docHalt t)

/-- DOC_RESUME (R596). -/
def execDocResume (t : Fin 16) (s : State) : Res :=
  .next (s.docReq (5 + 16 * t) 0 0 false fun s =>
    if 8 < t.val then docFault s else s.docNeed 2 fun s => (s.dbgResume t, 1, 0#32))

/-- A request on a halted Hokuon pair (R597). -/
def State.docHalted (s : State) (t : Nat) (k : State → DocAns) : DocAns :=
  if 8 < t then docFault s
  else s.docNeed 2 fun s => if t < 2 && s.dbgHalted t && s.pdOn (2 + t) then k s else docFault s

/-- DOC_STEP (R596): one instruction; the pair stays halted. -/
def execDocStep (t : Fin 16) (s : State) : Res :=
  .next (s.docReq (6 + 16 * t) 0 0 false fun s => s.docHalted t fun s =>
    let s := (s.modHok t fun h => { h with wfi := false }).hokStep t
    (s, 1, w32 (s.hok.get t).pc))

/-- The register an index names (Table SVA-16), as it reads; none where it names none. [DEDUCED (unsafe), log row 104] -/
def State.docReg (s : State) (q n : Nat) : Option Word :=
  if n < 32 then some (s.xr q n)
  else if n < 64 then some (s.fr q (n - 32))
  else if n = 64 then some (w32 (s.hok.get q).pc)
  else if 0x1000 ≤ n ∧ n < 0x2000 ∧ s.csrMay q (n - 0x1000) false false then some (s.csrRead q (n - 0x1000))
  else none

/-- DOC_REG_READ (R596). -/
def execDocRegRead (t : Fin 16) (n : BitVec 32) (s : State) : Res :=
  .next (s.docReq (7 + 16 * t) n.toNat 0 false fun s => s.docHalted t fun s =>
    match s.docReg t n.toNat with
    | some v => (s, 1, v)
    | none => docFault s)

/-- A write of the register an index names. -/
def State.docRegPut (s : State) (q n : Nat) (v : Word) : DocAns :=
  if n < 32 then (s.setX q n v, 1, 0#32)
  else if n < 64 then (s.setF q (n - 32) v, 1, 0#32)
  else if n = 64 then (s.setPc q (v.toNat / 2 * 2), 1, 0#32)
  else if 0x1000 ≤ n ∧ n < 0x2000 ∧ s.csrMay q (n - 0x1000) false true then (s.csrWrite q (n - 0x1000) v, 1, 0#32)
  else docFault s

/-- DOC_REG_WRITE (R596). -/
def execDocRegWrite (t : Fin 16) (n : BitVec 32) (v : Word) (s : State) : Res :=
  .next (s.docReq (8 + 16 * t) n.toNat v.toNat false fun s => s.docHalted t fun s => s.docRegPut t n.toNat v)

/-- A request on a Hokuon pair's breakpoint slot: DATA names a slot of four. [DEDUCED (unsafe), log row 81] -/
def State.docBp (s : State) (t data : Nat) (k : State → State) : DocAns :=
  if 8 < t ∨ 4 ≤ data then docFault s else s.docNeed 2 fun s => if t < 2 then (k s, 1, 0#32) else docFault s

/-- DOC_BP_SET (R596, R598). -/
def execDocBpSet (t : Fin 16) (addr data : BitVec 32) (s : State) : Res :=
  .next (s.docReq (9 + 16 * t) addr.toNat data.toNat false fun s => s.docBp t data.toNat fun s =>
    s.modHok t fun h => { h with bp := h.bp.set data.toNat (addr.toNat + 1) })

/-- DOC_BP_CLEAR (R596, R598). -/
def execDocBpClear (t : Fin 16) (data : BitVec 32) (s : State) : Res :=
  .next (s.docReq (10 + 16 * t) 0 data.toNat false fun s => s.docBp t data.toNat fun s =>
    s.modHok t fun h => { h with bp := h.bp.set data.toNat 0 })

/-- DOC_CRC_ERROR (R595): a request that fails its CRC is counted and not answered. -/
def execDocCrcError (s : State) : Res :=
  if s.docPads && s.pdOn 1 then .next (s.modSv fun v => { v with crcErr := satInc 8 v.crcErr }) else .next s

/-! ### The service channel (R599) -/

/-- The service channel is in service. -/
def State.svcUp (s : State) : Bool := s.docPads && s.pdOn 1

/-- SVC_COURIER_FRAME (R599): COURH takes the message as MSG_PUT would. -/
def execSvcCourierFrame (bytes : List Byte) (s : State) : Res :=
  if s.svcUp && s.pdOn 11 && !bytes.isEmpty then .next (s.h2dPut bytes true) else .next s

/-- SVC_PERMIT_FRAME (R590, R599): DEBUG_PERMIT arrives on the Docent channel. -/
def execSvcPermitFrame (s : State) : Res := if s.svcUp && s.pdOn 7 then .next (s.svPost 2 0x10) else .next s

/-- SVC_PERMIT_END_FRAME (R590, R599). -/
def execSvcPermitEndFrame (s : State) : Res := if s.svcUp && s.pdOn 7 then .next (s.svPost 2 0x11) else .next s

/-- SVC_BAD_FRAME (R599): a frame that fails its CRC or LEN, or of an unknown type, is discarded and counted. -/
def execSvcBadFrame (s : State) : Res :=
  if s.svcUp then .next (s.modSv fun v => { v with svcErr := satInc 3 v.svcErr }) else .next s

end Sys2Proof.Machine
end

