-- ==== Sys2Proof/Machine/Plc.lean ====
section
/-!
DEFINITION. The meanings of the powerline events (R621 to R626, R634) and of the time transfer (R644 to R646, R109, R110). When a
frame starts, how long it lasts, what arrives and its stamps are the outside world's: operands.
-/

namespace Sys2Proof.Machine

/-! ### Frames (R621, R624 to R626) -/

/-- A frame starts (the response to a RESET among them: the reset is due 1 ms after its end, R647): in STORE as an XMIT activity, admitted only while XMIT_OK is 1 (R553, R626). [DEDUCED (unsafe), log row 101] -/
def State.plcSend (s : State) (f : PlcFrame) (dur : Nat) : State :=
  let store := s.plState == 1
  if store && !s.flag F.PLINTH_STATUS_XMIT_OK then (s.set1 F.PLC_STICKY_XMIT_REFUSED).plRefuse
  else
    let s := if store then s.plAdmit else s
    (s.incWrap F.PLC_CNT_SENT).modCour fun c =>
      { c with frame := some { f with endAt := s.mono + dur }
               reset := if c.resetTx = some (bU f.bytes 0 4) then c.reset.map fun r => (r.1, s.mono + dur + 800000) else c.reset }

/-- PLC_FRAME_TRANSMIT (R626): the frame that waits longest starts, and lasts dur ticks. One sent before it that no MAC_RETRY
followed has been acknowledged. -/
def execPlcFrameTransmit (dur : Nat) (s : State) : Res :=
  match s.cour.queue with
  | f :: rest =>
    if s.plcOn && !s.plcBusy then .next ((s.modCour fun c => { c with frame := none, queue := rest }).plcSend f dur) else .next s
  | [] => .next s

/-- MAC_RETRY (R621): the unicast frame sent last got no acknowledgement; it goes again, at most 5 times. -/
def execMacRetry (s : State) : Res :=
  match s.cour.frame with
  | some f =>
    if s.plcOn && !s.plcBusy && f.ack then
      if f.retries < 5 then
        .next (s.modCour fun c => { c with frame := none, queue := { f with retries := f.retries + 1, endAt := 0 } :: c.queue })
      else .next ((s.incSat F.PLC_ERR_CNT_EXHAUSTED).modCour fun c => { c with frame := none })
    else .next s
  | none => .next s

/-- PLC_CURRENT_LIMIT (R624, R625): the limit has acted for more than 20 us within the frame being sent. -/
def execPlcCurrentLimit (s : State) : Res :=
  if s.plcOn && s.plcBusy then .next ((s.plcAbort).stickyRaise F.PLC_STICKY_ILIMIT FS.PLC_FAULT) else .next s

/-! ### Segments (R634) -/

/-- A segment has the form of R634. [DEDUCED (unsafe), log row 101] -/
def segOk (b : List Byte) : Bool :=
  9 ≤ b.length && b.length ≤ 384 && 1 ≤ bU8 b 5 && bU8 b 5 ≤ 11 && bU8 b 4 < bU8 b 5

/-- The segment is in a reassembly. -/
def segOf (src : Nat) (b : List Byte) (r : Reasm) : Bool := r.src == src && r.txid == bU b 0 4

/-- A reassembly with a segment added; a duplicate changes nothing. -/
def Reasm.add (r : Reasm) (b : List Byte) : Reasm :=
  if (r.segs.get (bU8 b 4)).isEmpty then { r with segs := r.segs.set (bU8 b 4) (b.drop 8) } else r

/-- Every segment has arrived. -/
def Reasm.full (r : Reasm) : Bool := (List.range r.count).all fun k => !(r.segs.get k).isEmpty

/-- The message of a full reassembly. -/
def Reasm.msg (r : Reasm) : List Byte := (List.range r.count).flatMap fun k => r.segs.get k

/-- A message is delivered to HPA: its bytes are the answer. -/
def State.delivered (s : State) (bs : List Byte) : State :=
  { s with resp := { words := [], bytes := bs, result := 0, fault := false } }

/-- Messages in reassembly for 10 s since their first segment are discarded (R634). -/
def State.reasmExpire (s : State) : State :=
  s.modCour fun c => { c with reasm := c.reasm.filter fun r => s.mono < r.from_ + 8000000000 }

/-- A segment comes to the reassembly: at most 4 messages. [DEDUCED (unsafe), log row 101] -/
def State.segTake (s : State) (src : Nat) (b : List Byte) : State :=
  match s.cour.reasm.find? (segOf src b) with
  | none =>
    if 4 ≤ s.cour.reasm.length then s.set1 F.COURH_STICKY_REASM_DROP
    else
      let r : Reasm := { src := src, txid := bU b 0 4, count := bU8 b 5, segs := SMap.set [] (bU8 b 4) (b.drop 8), from_ := s.mono }
      if r.full then s.delivered r.msg else s.modCour fun c => { c with reasm := c.reasm ++ [r] }
  | some r =>
    let r := if r.count = bU8 b 5 then r.add b else r
    if r.full then (s.modCour fun c => { c with reasm := c.reasm.filter fun x => !segOf src b x }).delivered r.msg
    else s.modCour fun c => { c with reasm := c.reasm.map fun x => if segOf src b x then r else x }

/-- PLC_SEGMENT_RECEIVE (R621, R634): a frame that uses an excluded feature is discarded and counted; a segment for the device, or a
single-segment broadcast, comes to the reassembly. -/
def execPlcSegmentReceive (src dst : BitVec 16) (seg : List Byte) (snr : BitVec 8) (excluded : Bool) (s : State) : Res :=
  if !s.plcOn then .next s
  else
    let s := (s.incWrap F.PLC_CNT_RECEIVED).put F.PLC_SNR_SNR snr.toNat
    if excluded then .next (s.incSat F.PLC_ERR_CNT_DISCARDED)
    else if !s.pdOn 11 || !segOk seg then .next s
    else if dst.toNat = s.ownAddr ∨ (dst = 0xFFFF#16 ∧ bU8 seg 5 = 1) then .next (s.reasmExpire.segTake src.toNat seg)
    else .next s

/-- REASSEMBLY_TIMEOUT (R634): messages 10 s after their first segment are discarded. -/
def execReassemblyTimeout (s : State) : Res :=
  .next s.reasmExpire

/-! ### Time transfer (R644 to R646, R109, R110) -/

/-- A TT frame: one segment, unicast, without MAC retries; its message's TXID is the device's to choose: drawn.
[DEDUCED (unsafe), log row 102] -/
def State.ttFrame (s : State) (ty dst : Nat) (p : List Byte) : PlcFrame :=
  let tx := s.drawn % 2 ^ 32
  let m := msgBytes ty 0 0 tx s.ownAddr dst p
  { dst := dst, ack := false, retries := 0, bytes := (segments tx 1 0 1 m).headD [], endAt := 0 }

/-- COURIER_TT_REQ (R645): as a time master the device stamps the arrival T2 and owes TT_RSP at T3. -/
def execCourierTtReq (src dst : BitVec 16) (sq t2 : Nat) (s : State) : Res :=
  if s.plcOn && s.flag F.PLC_TT_CFG_MASTER && dst.toNat == s.ownAddr then
    .next (s.modCour fun c => { c with ttRsp := c.ttRsp ++ [(sq % 2 ^ 32, src.toNat, t2, t2 + 40000000)] })
  else .next s

/-- TT_RESPONSE_SEND (R645): at T3 the oldest owed TT_RSP starts, unless the medium is busy. -/
def execTtResponseSend (busy : Bool) (dur : Nat) (s : State) : Res :=
  match s.cour.ttRsp with
  | (sq, dst, t2, t3) :: rest =>
    if s.plcOn && decide (t3 ≤ s.epoch) then
      let s := s.modCour fun c => { c with ttRsp := rest }
      if busy || s.plcBusy then .next (s.incWrap F.PLC_TT_CNT_TT_SKIP)
      else .next ((s.drew).plcSend (s.ttFrame 0x11 dst (leBytes 4 sq ++ leBytes 8 t2 ++ leBytes 8 t3)) dur)
    else .next s
  | [] => .next s

/-- An exchange was not valid (R646, R110): the consecutive count starts anew, and the next valid measurement still spans the time from
the last valid one (R109). [DEDUCED (unsafe), log row 102] -/
def State.ttInvalid (s : State) : State :=
  let s := (((s.set1 F.PLC_STICKY_TT_INVALID).incWrap F.PLC_TT_CNT_INVALID).put F.PLC_STATUS_TT_WAIT 0).modCour fun c => { c with ttWait := none }
  { (s.put F.EPOCH_STATUS_TT_VALID 0) with ep := { s.ep with ttCount := 0 } }

/-- TT_REQUEST_SEND (R646): in MODE 2, once every INTERVAL, between frames; its start is T1. An exchange that still waits has failed. -/
def execTtRequestSend (dur : Nat) (s : State) : Res :=
  if s.plcOn && s.flag F.PLC_TT_CFG_EN && s.get F.EPOCH_CTRL_MODE == 2 && decide (s.cour.ttNext ≤ s.mono) && !s.plcBusy then
    let s := if s.cour.ttWait.isSome then s.ttInvalid else s
    let q := s.cour.ttSeq
    let f := s.ttFrame 0x10 (s.get F.PLC_TT_CFG_MASTER_ADDR) (leBytes 4 q)
    let s := (s.drew.put F.PLC_STATUS_TT_WAIT 1).modCour fun c =>
      { c with ttWait := some (s.epoch, q), ttFrom := s.mono, ttSeq := (q + 1) % 2 ^ 32, ttNext := s.mono + 800000 * s.get F.PLC_TT_CFG_INTERVAL }
    .next (s.plcSend f dur)
  else .next s

/-- A valid theta of EPOCH (R109, R110); x is twice theta, t the measurement's tick. In MODE = 2 it steers Epoch; after MODE has left 2
it steers nothing. A theta out of range is discarded whole: it leaves EPOCH_TT_OFFSET, the count to 16 and TT_VALID as they are
(log row 102). [DEDUCED (unsafe), log row 35; DEDUCED (unsafe), log row 102] -/
def State.epochTheta (s : State) (x : Int) (t : Nat) : State :=
  if s.get F.EPOCH_CTRL_MODE ≠ 2 then s
  else if x < -800000 ∨ 800000 < x then s.set1 F.EPOCH_STICKY_TT_RANGE
  else
    let th := roundDiv x 2
    let s := (s.wr R.EPOCH_TT_OFFSET (w32 (unsignedOf 32 th))).toShadow F.EPOCH_SLEW_SLEW (unsignedOf 24 (-th))
    let s := match s.ep.ttLast with
      | none => s
      | some l =>
        let r := clampInt (s.getS F.EPOCH_RATE_RATE - roundDiv (x * 125000000) (t - l)) (-500000) 500000
        s.toShadow F.EPOCH_RATE_RATE (unsignedOf 24 r)
    let near : Bool := match s.ep.ttLast with
      | some l => decide (t ≤ l + 800000000)
      | none => true
    let n := if near then s.ep.ttCount + 1 else 1
    { (s.put F.EPOCH_STATUS_TT_VALID (b2n (decide (16 ≤ n)))) with ep := { s.ep with ttCount := n, ttLast := some t } }

/-- The four conditions of a valid measurement (R646). [DEDUCED (unsafe), log row 102] -/
def ttOk (t1 t2 t3 t4 : Nat) (same : Bool) : Bool :=
  let d2 : Int := ((t4 : Int) - t1) - ((t3 : Int) - t2)
  t1 ≤ t4 && t4 ≤ t1 + 80000000 && same && t3 == t2 + 40000000 && decide (0 ≤ d2 ∧ d2 ≤ 16000)

/-- COURIER_TT_RSP (R646): the arrival T4 of the master's TT_RSP ends the exchange. A delay of a half tick is shown with either
neighbour: drawn. -/
def execCourierTtRsp (src dst : BitVec 16) (sq t2 t3 t4 : Nat) (s : State) : Res :=
  match s.cour.ttWait with
  | some (t1, q) =>
    if s.plcOn && dst.toNat == s.ownAddr && src.toNat == s.get F.PLC_TT_CFG_MASTER_ADDR then
      if ttOk t1 t2 t3 t4 (decide (sq = q)) then
        let d2 := (t4 - t1) - (t3 - t2)
        let s := (((s.incWrap F.PLC_TT_CNT_OK).wr R.PLC_TT_DELAY (w32 (d2 / 2 + (if d2 % 2 = 1 then s.drawn % 2 else 0)))).drew).put
          F.PLC_STATUS_TT_WAIT 0
        .next ((s.modCour fun c => { c with ttWait := none }).epochTheta (((t1 : Int) - t2) + ((t4 : Int) - t3)) t4)
      else .next s.ttInvalid
    else .next s
  | none => .next s

/-- TT_RESPONSE_TIMEOUT (R646): no TT_RSP within 80,000,000 ticks of T1. -/
def execTtResponseTimeout (s : State) : Res :=
  match s.cour.ttWait with
  | some _ => if s.cour.ttFrom + 80000000 ≤ s.mono then .next s.ttInvalid else .next s
  | none => .next s

end Sys2Proof.Machine
end

