-- ==== Sys2Proof/Machine/Start.lean ====
section
/-!
DEFINITION. Boot, resets and start-up: the commands (chapter 19, Table SVA-6).
-/

namespace Sys2Proof.Machine

/-- BOOT_STEP (R576, R577): during P5 the step in progress completes; bad counts the read-back mismatches of its log entry. -/
def execBootStep (bad : Nat) (s : State) : Res :=
  if s.inPhase 5 ∧ 1 ≤ s.sv.step ∧ s.sv.step ≤ 7 then .next (s.bootStep bad) else .next s

/-- SVAUTH_FAULT_DETECT (R565, R612): FS181 is raised; during P5 the device enters the Foyer state. -/
def execSvauthFaultDetect (s : State) : Res :=
  if !s.pdOn 7 then .next s
  else
    let s := s.raise FS.SVAUTH_FAULT
    .next (if s.inPhase 5 then s.enterFoyer 0x0B 0 else s)

/-- POWER_UP_RESET (R601, Table SUP-5): PD1 powers up and start-up runs from P1; the pin TEST_MODE is as found. -/
def execPowerUpReset (testMode : Bool) (s : State) : Res :=
  let fresh := s.pdOn 1 && s.phase == 0 && !s.flag F.SYS_START_DONE && !s.inFoyer && s.start.resetAt.isNone
  if s.alive && (fresh || (!s.pdOn 1 && s.plState != 0)) then
    let cold := s.plinth.cold
    let t := s.volatileReset.wr R.SYS_PD_STATUS 0x87#32
    let t := ((t.wr R.SYS_RESET_CAUSE 0).set1 F.SYS_RESET_CAUSE_POWER_UP).put F.SYS_RESET_CAUSE_COLD (b2n cold)
    let t := (t.modPlinth fun p => { p with cold := false }).put F.SYS_START_PHASE 1
    .next { t with pins := { t.pins with testMode := testMode } }
  else .next s

/-- RESET_PIN (R602): RESET_N has been low for ns nanoseconds, and still is or has risen. Under 200 ns it is ignored; from 1 µs it is
taken; between, which of the two is not stated: drawn. -/
def execResetPin (ns : Nat) (still : Bool) (s : State) : Res :=
  if !s.pdOn 1 then .next s
  else
    let taken := 1000 ≤ ns || (200 ≤ ns && s.drawn % 2 == 1)
    let s := if 200 ≤ ns ∧ ns < 1000 then s.drew else s
    let s := s.modStart fun p => { p with pinLow := still && (taken || p.pinLow) }
    .next (if taken then (s.set1 F.SYS_RESET_CAUSE_PIN).sysAssert else s)

/-- SYS_RESET_SYSTEM (R603): the keyed write with KIND 1. -/
def execSysResetSystem (i : Initiator) (s : State) : Res := .next (s.resetWrite i 0x7A5C0001#32)

/-- SYS_RESET_HPB (R603, R606): the keyed write with KIND 2. -/
def execSysResetHpb (i : Initiator) (s : State) : Res := .next (s.resetWrite i 0x7A5C0002#32)

/-- SYS_RESET_FOYER (R603, R615): the keyed write with KIND 3. -/
def execSysResetFoyer (i : Initiator) (s : State) : Res := .next (s.resetWrite i 0x7A5C0003#32)

/-- WATCHDOG_EXPIRE (R604): the count reaches TIMEOUT; a halt of HPA pauses it (R598). -/
def execWatchdogExpire (s : State) : Res :=
  let n := s.get F.SYS_WDT_TIMEOUT
  if s.pdOn 1 ∧ n ≠ 0 ∧ s.start.wdHeld.isNone ∧ s.start.wdFrom + n * 800000 ≤ s.mono then
    .next (s.set1 F.SYS_RESET_CAUSE_WATCHDOG).sysAssert
  else .next s

/-- WATCHDOG_KICK (R604). -/
def execWatchdogKick (i : Initiator) (v : Word) (s : State) : Res := .next (s.wdtKick i v)

/-- RESET_RELEASE (R605): at the later of 50 µs and the release of RESET_N the blocks are reset. -/
def execResetRelease (s : State) : Res :=
  match s.start.resetAt with
  | some a => if a + 40000 ≤ s.mono ∧ !s.start.pinLow then .next s.blocksReset else .next s
  | none => .next s

/-- STARTUP_PHASE_END (R607 to R612): the phase in progress completes, or its own test fails; which tells, for P6, a rail that missed
its window (0) from a lockstep comparator; detail is the code of Table SUP-4. -/
def execStartupPhaseEnd (fail : Bool) (which detail : Nat) (s : State) : Res :=
  if s.start.resetAt.isSome ∨ !s.pdOn 1 then .next s
  else if fail then
    match phaseCause s.phase which with
    | some c => .next (s.enterFoyer c detail)
    | none => .next s
  else .next s.phaseEnd

/-- SUPPLY_START_TIMEOUT (R608): the rails of PD1 are not good 4.0 ms after the start of P1. -/
def execSupplyStartTimeout (s : State) : Res :=
  if s.inPhase 1 then .next ((s.enterSleep).put F.SYS_START_SUPPLY_FAIL 1) else .next s

/-- VISO_ARRIVE (R609): VISO is inside its window; after a deferral the device powers PD10 and calibrates it. -/
def execVisoArrive (s : State) : Res :=
  if !s.pdOn 1 ∨ s.flag F.SYS_RAILS_VISO_OK then .next s
  else
    let s := s.railBack 3
    .next ((if s.inFoyer then s.foyerOn 10 else if s.phase = 0 then s.pdPursue 10 else s).lateNext)

/-- BARRIER_CAL_TIMEOUT (R609): VISO is good and the barrier has not calibrated within 10 ms. -/
def execBarrierCalTimeout (s : State) : Res :=
  match s.start.barFrom with
  | some a =>
    if (s.inPhase 5 ∨ s.inPhase 6) ∧ s.flag F.SYS_RAILS_VISO_OK ∧ !s.flag F.EPOCH_STATUS_BAR_CAL_DONE ∧ a + 8000000 ≤ s.mono then
      .next (s.enterFoyer 0x06 0)
    else .next s
  | none => .next s

/-- HPB_RELEASE (R606): a write of HPB_RUN = 1. -/
def execHpbRelease (i : Initiator) (s : State) : Res := .next (s.coreCtrlWrite i 1#32)

end Sys2Proof.Machine
end

