-- ==== Sys2Proof/Machine/Dispatch.lean ====
section
/-!
DEFINITION. The dispatch: one arm per constructor of Instr, each a direct call of its meaning.
-/

namespace Sys2Proof.Machine

/-- The effect of a command on everything but the queue. -/
def exec (i : Instr) (s : State) : Host.Outcome State Fault Refusal :=
  match i with
  | .registerWrite ini addr v => Sys2Proof.Machine.execRegisterWrite ini addr v s
  | .imgSelectWrite ini v => Sys2Proof.Machine.execImgSelectWrite ini v s
  | .imgConfirmWrite ini v => Sys2Proof.Machine.execImgConfirmWrite ini v s
  | .refPresenceChange ref present offset => Sys2Proof.Machine.execRefPresenceChange ref present offset s
  | .pllLockAcquire => Sys2Proof.Machine.execPllLockAcquire s
  | .pllLockLoss => Sys2Proof.Machine.execPllLockLoss s
  | .pllUnmute => Sys2Proof.Machine.execPllUnmute s
  | .pllStartTimeout => Sys2Proof.Machine.execPllStartTimeout s
  | .pllStartRetry => Sys2Proof.Machine.execPllStartRetry s
  | .divsyncArm ini => Sys2Proof.Machine.execDivsyncArm ini s
  | .syncMark spacing phase => Sys2Proof.Machine.execSyncMark spacing phase s
  | .markMissing => Sys2Proof.Machine.execMarkMissing s
  | .clkNWrite ini v => Sys2Proof.Machine.execClkNWrite ini v s
  | .clkNTransfer => Sys2Proof.Machine.execClkNTransfer s
  | .refLoss => Sys2Proof.Machine.execRefLoss s
  | .coastLimit => Sys2Proof.Machine.execCoastLimit s
  | .refRestore => Sys2Proof.Machine.execRefRestore s
  | .refSelWrite ini sel => Sys2Proof.Machine.execRefSelWrite ini sel s
  | .epochLoad ini => Sys2Proof.Machine.execEpochLoad ini s
  | .epochLoadApply => Sys2Proof.Machine.execEpochLoadApply s
  | .epochMarkArm ini => Sys2Proof.Machine.execEpochMarkArm ini s
  | .epochRtcCap ini => Sys2Proof.Machine.execEpochRtcCap ini s
  | .epochRtcCaptureEdge => Sys2Proof.Machine.execEpochRtcCaptureEdge s
  | .epochRateWrite ini v => Sys2Proof.Machine.execEpochRateWrite ini v s
  | .epochSlewWrite ini v => Sys2Proof.Machine.execEpochSlewWrite ini v s
  | .epochSlewSlot => Sys2Proof.Machine.execEpochSlewSlot s
  | .epochNowRead ini => Sys2Proof.Machine.execEpochNowRead ini s
  | .epochBarRead ini => Sys2Proof.Machine.execEpochBarRead ini s
  | .barrierCalibration delay => Sys2Proof.Machine.execBarrierCalibration delay s
  | .barrierRemeasure err => Sys2Proof.Machine.execBarrierRemeasure err s
  | .islandSkewCheck diff => Sys2Proof.Machine.execIslandSkewCheck diff s
  | .schedArm ini e => Sys2Proof.Machine.execSchedArm ini e s
  | .schedDisarm ini e => Sys2Proof.Machine.execSchedDisarm ini e s
  | .schedNone e => Sys2Proof.Machine.execSchedNone e s
  | .schedWindow e => Sys2Proof.Machine.execSchedWindow e s
  | .schedPwmStart e => Sys2Proof.Machine.execSchedPwmStart e s
  | .schedPwmStop e => Sys2Proof.Machine.execSchedPwmStop e s
  | .schedPwmCommit e => Sys2Proof.Machine.execSchedPwmCommit e s
  | .schedMeterLatch e => Sys2Proof.Machine.execSchedMeterLatch e s
  | .schedRelayCmd e => Sys2Proof.Machine.execSchedRelayCmd e s
  | .schedMaintStart e => Sys2Proof.Machine.execSchedMaintStart e s
  | .schedGpioSet e => Sys2Proof.Machine.execSchedGpioSet e s
  | .schedIrq e => Sys2Proof.Machine.execSchedIrq e s
  | .schedStreamMark e => Sys2Proof.Machine.execSchedStreamMark e s
  | .windowOpen g => Sys2Proof.Machine.execWindowOpen g s
  | .windowClose g bits => Sys2Proof.Machine.execWindowClose g bits s
  | .windowDeliver g => Sys2Proof.Machine.execWindowDeliver g s
  | .wgEnable ini g => Sys2Proof.Machine.execWgEnable ini g s
  | .wgDisable ini g => Sys2Proof.Machine.execWgDisable ini g s
  | .streamSample k bits => Sys2Proof.Machine.execStreamSample k bits s
  | .streamRingWrite k => Sys2Proof.Machine.execStreamRingWrite k s
  | .ringEnable ini k => Sys2Proof.Machine.execRingEnable ini k s
  | .ringDisable ini k => Sys2Proof.Machine.execRingDisable ini k s
  | .lcAnnounceReceive grid => Sys2Proof.Machine.execLcAnnounceReceive grid s
  | .lcCycleEnd grid bits => Sys2Proof.Machine.execLcCycleEnd grid bits s
  | .lcRecordDeliver grid => Sys2Proof.Machine.execLcRecordDeliver grid s
  | .modOverloadTrip k positive => Sys2Proof.Machine.execModOverloadTrip k positive s
  | .modOverloadRelease k => Sys2Proof.Machine.execModOverloadRelease k s
  | .monitorDwellEnd value => Sys2Proof.Machine.execMonitorDwellEnd value s
  | .grdTempSample value => Sys2Proof.Machine.execGrdTempSample value s
  | .sensCalStage grid => Sys2Proof.Machine.execSensCalStage grid s
  | .sensCalComplete grid sums => Sys2Proof.Machine.execSensCalComplete grid sums s
  | .chRangeWrite ini k v => Sys2Proof.Machine.execChRangeWrite ini k v s
  | .wcCrossing c input => Sys2Proof.Machine.execWcCrossing c input s
  | .wcThrWrite ini c v => Sys2Proof.Machine.execWcThrWrite ini c v s
  | .wcThrApply c input => Sys2Proof.Machine.execWcThrApply c input s
  | .wcSoftwareClear ini grid v => Sys2Proof.Machine.execWcSoftwareClear ini grid v s
  | .wcClearDecision c input => Sys2Proof.Machine.execWcClearDecision c input s
  | .wcPendingReady c input => Sys2Proof.Machine.execWcPendingReady c input s
  | .wcmpTestStep hi lo => Sys2Proof.Machine.execWcmpTestStep hi lo s
  | .loopExecStart p => Sys2Proof.Machine.execLoopExecStart p s
  | .loopCommit p cycles => Sys2Proof.Machine.execLoopCommit p cycles s
  | .loopAbandon p => Sys2Proof.Machine.execLoopAbandon p s
  | .loopLockstepMismatch p => Sys2Proof.Machine.execLoopLockstepMismatch p s
  | .loopTcmEccError p double => Sys2Proof.Machine.execLoopTcmEccError p double s
  | .loopEnable ini p => Sys2Proof.Machine.execLoopEnable ini p s
  | .loopDisable ini p => Sys2Proof.Machine.execLoopDisable ini p s
  | .loopClrMax ini p => Sys2Proof.Machine.execLoopClrMax ini p s
  | .tcmWrite ini p word v => Sys2Proof.Machine.execTcmWrite ini p word v s
  | .pwmPeriodBoundary u => Sys2Proof.Machine.execPwmPeriodBoundary u s
  | .pwmEdgeIssue u => Sys2Proof.Machine.execPwmEdgeIssue u s
  | .pwmStart ini v => Sys2Proof.Machine.execPwmStart ini v s
  | .pwmStop ini v => Sys2Proof.Machine.execPwmStop ini v s
  | .pwmCommit ini v => Sys2Proof.Machine.execPwmCommit ini v s
  | .pwmForceWrite ini u v => Sys2Proof.Machine.execPwmForceWrite ini u v s
  | .pwmCntClr ini u => Sys2Proof.Machine.execPwmCntClr ini u s
  | .hbEdgeReceive h => Sys2Proof.Machine.execHbEdgeReceive h s
  | .hbEdgeExecute h => Sys2Proof.Machine.execHbEdgeExecute h s
  | .hbLinkCrcError h => Sys2Proof.Machine.execHbLinkCrcError h s
  | .hbKeepalive => Sys2Proof.Machine.execHbKeepalive s
  | .hbKeepaliveTimeout => Sys2Proof.Machine.execHbKeepaliveTimeout s
  | .hbPeriodMarker h => Sys2Proof.Machine.execHbPeriodMarker h s
  | .vdrvLockout => Sys2Proof.Machine.execVdrvLockout s
  | .vdrvLockoutEnd => Sys2Proof.Machine.execVdrvLockoutEnd s
  | .laneEdgeReceive l => Sys2Proof.Machine.execLaneEdgeReceive l s
  | .laneEdgeSend l => Sys2Proof.Machine.execLaneEdgeSend l s
  | .laneHeartbeatDue l => Sys2Proof.Machine.execLaneHeartbeatDue l s
  | .laneHeartbeatSend l => Sys2Proof.Machine.execLaneHeartbeatSend l s
  | .laneHeartbeatForced l => Sys2Proof.Machine.execLaneHeartbeatForced l s
  | .laneStatusReceive l bits => Sys2Proof.Machine.execLaneStatusReceive l bits s
  | .laneStatusMissing l => Sys2Proof.Machine.execLaneStatusMissing l s
  | .laneTripEnd l => Sys2Proof.Machine.execLaneTripEnd l s
  | .laneEnable ini l => Sys2Proof.Machine.execLaneEnable ini l s
  | .laneDisable ini l => Sys2Proof.Machine.execLaneDisable ini l s
  | .gridEvaluation => Sys2Proof.Machine.execGridEvaluation s
  | .gridCycleBoundary => Sys2Proof.Machine.execGridCycleBoundary s
  | .gridFormingWrite ini v => Sys2Proof.Machine.execGridFormingWrite ini v s
  | .probeStart => Sys2Proof.Machine.execProbeStart s
  | .probeEnd => Sys2Proof.Machine.execProbeEnd s
  | .relayCheckStep => Sys2Proof.Machine.execRelayCheckStep s
  | .relayCloseRequest ini => Sys2Proof.Machine.execRelayCloseRequest ini s
  | .relayCloseStep => Sys2Proof.Machine.execRelayCloseStep s
  | .gridOpenRequest ini => Sys2Proof.Machine.execGridOpenRequest ini s
  | .relayOpeningCheck => Sys2Proof.Machine.execRelayOpeningCheck s
  | .relayFbLost => Sys2Proof.Machine.execRelayFbLost s
  | .reconnectReady => Sys2Proof.Machine.execReconnectReady s
  | .autoCheckRequest => Sys2Proof.Machine.execAutoCheckRequest s
  | .autoPwmStart => Sys2Proof.Machine.execAutoPwmStart s
  | .meterEnable ini => Sys2Proof.Machine.execMeterEnable ini s
  | .meterDisable ini => Sys2Proof.Machine.execMeterDisable ini s
  | .meterCycleProcess bad => Sys2Proof.Machine.execMeterCycleProcess bad s
  | .vaultScan => Sys2Proof.Machine.execVaultScan s
  | .meterDeltaRead ini q p => Sys2Proof.Machine.execMeterDeltaRead ini q p s
  | .meterTotRead ini q p => Sys2Proof.Machine.execMeterTotRead ini q p s
  | .spLockstepMismatch => Sys2Proof.Machine.execSpLockstepMismatch s
  | .arcEnable ini x => Sys2Proof.Machine.execArcEnable ini x s
  | .arcDisable ini x => Sys2Proof.Machine.execArcDisable ini x s
  | .arcFrameEvaluate x => Sys2Proof.Machine.execArcFrameEvaluate x s
  | .ivTracePoint x => Sys2Proof.Machine.execIvTracePoint x s
  | .ivTraceEnd x => Sys2Proof.Machine.execIvTraceEnd x s
  | .isoCheckStep sum => Sys2Proof.Machine.execIsoCheckStep sum s
  | .requestSensCalP ini => Sys2Proof.Machine.execRequestSensCalP ini s
  | .requestSensCalG ini => Sys2Proof.Machine.execRequestSensCalG ini s
  | .requestWcmpTest ini => Sys2Proof.Machine.execRequestWcmpTest ini s
  | .requestIvTrace ini x => Sys2Proof.Machine.execRequestIvTrace ini x s
  | .requestIsoCheck ini => Sys2Proof.Machine.execRequestIsoCheck ini s
  | .requestRelayCheck ini => Sys2Proof.Machine.execRequestRelayCheck ini s
  | .requestMramProgram from_ => Sys2Proof.Machine.execRequestMramProgram from_ s
  | .requestVaultCompact ini => Sys2Proof.Machine.execRequestVaultCompact ini s
  | .requestBistPeriodic ini => Sys2Proof.Machine.execRequestBistPeriodic ini s
  | .bistPeriodicDue => Sys2Proof.Machine.execBistPeriodicDue s
  | .bistPeriodicEnd fault => Sys2Proof.Machine.execBistPeriodicEnd fault s
  | .vaultCompactEnd bad bad2 => Sys2Proof.Machine.execVaultCompactEnd bad bad2 s
  | .mramProgramEnd => Sys2Proof.Machine.execMramProgramEnd s
  | .maintAbort ini v => Sys2Proof.Machine.execMaintAbort ini v s
  | .curatorRaise more => Sys2Proof.Machine.execCuratorRaise more s
  | .curSevWrite ini k v => Sys2Proof.Machine.execCurSevWrite ini k v s
  | .curUnfence ini v => Sys2Proof.Machine.execCurUnfence ini v s
  | .curInjectRaise ini src => Sys2Proof.Machine.execCurInjectRaise ini src s
  | .curInjectCorrupt ini copy src => Sys2Proof.Machine.execCurInjectCorrupt ini copy src s
  | .curatorCopyMismatch => Sys2Proof.Machine.execCuratorCopyMismatch s
  | .pwmCheckMismatch u => Sys2Proof.Machine.execPwmCheckMismatch u s
  | .drvGateCheck h ho lo => Sys2Proof.Machine.execDrvGateCheck h ho lo s
  | .eccUncorrectable mram addr reader => Sys2Proof.Machine.execEccUncorrectable mram addr reader s
  | .scrubPass mram found => Sys2Proof.Machine.execScrubPass mram found s
  | .barrierLinkError => Sys2Proof.Machine.execBarrierLinkError s
  | .railOutOfWindow rail back => Sys2Proof.Machine.execRailOutOfWindow rail back s
  | .wardenInputChange ini b level => Sys2Proof.Machine.execWardenInputChange ini b level s
  | .wardenFilterExpire ini b => Sys2Proof.Machine.execWardenFilterExpire ini b s
  | .wardenDiscrepancy ini => Sys2Proof.Machine.execWardenDiscrepancy ini s
  | .testPulseStart b => Sys2Proof.Machine.execTestPulseStart b s
  | .testPulseCheck b => Sys2Proof.Machine.execTestPulseCheck b s
  | .testPulseEnd b => Sys2Proof.Machine.execTestPulseEnd b s
  | .wardenReset ini v => Sys2Proof.Machine.execWardenReset ini v s
  | .wardenPermitRequest ini time => Sys2Proof.Machine.execWardenPermitRequest ini time s
  | .wardenPermitEnd ini time => Sys2Proof.Machine.execWardenPermitEnd ini time s
  | .wardenPermitExpire => Sys2Proof.Machine.execWardenPermitExpire s
  | .hokuonInstruction q => Sys2Proof.Machine.execHokuonInstruction q s
  | .hqSadd q rd rs1 rs2 => Sys2Proof.Machine.execHqSadd q rd rs1 rs2 s
  | .hqSsub q rd rs1 rs2 => Sys2Proof.Machine.execHqSsub q rd rs1 rs2 s
  | .hqSabs q rd rs1 => Sys2Proof.Machine.execHqSabs q rd rs1 s
  | .hqMulq q rd rs1 rs2 => Sys2Proof.Machine.execHqMulq q rd rs1 rs2 s
  | .hqMacq q rd rs1 rs2 => Sys2Proof.Machine.execHqMacq q rd rs1 rs2 s
  | .hqSshl q rd rs1 rs2 => Sys2Proof.Machine.execHqSshl q rd rs1 rs2 s
  | .hqSrar q rd rs1 rs2 => Sys2Proof.Machine.execHqSrar q rd rs1 rs2 s
  | .hqSat q rd rs1 n => Sys2Proof.Machine.execHqSat q rd rs1 n s
  | .hcacheInvLine q addr => Sys2Proof.Machine.execHcacheInvLine q addr s
  | .hcacheInvDcache q => Sys2Proof.Machine.execHcacheInvDcache q s
  | .hcacheInvIcache q => Sys2Proof.Machine.execHcacheInvIcache q s
  | .hokuonLockstepMismatch q => Sys2Proof.Machine.execHokuonLockstepMismatch q s
  | .cacheParityError q instr addr => Sys2Proof.Machine.execCacheParityError q instr addr s
  | .hicInterruptTake q => Sys2Proof.Machine.execHicInterruptTake q s
  | .doorbell ini v => Sys2Proof.Machine.execDoorbell ini v s
  | .semAcquire ini k => Sys2Proof.Machine.execSemAcquire ini k s
  | .semRelease ini k v => Sys2Proof.Machine.execSemRelease ini k v s
  | .perfCounterRead ini k e => Sys2Proof.Machine.execPerfCounterRead ini k e s
  | .perfCounterClear ini v => Sys2Proof.Machine.execPerfCounterClear ini v s
  | .domainOnRequest ini d => Sys2Proof.Machine.execDomainOnRequest ini d s
  | .domainPowered d ok => Sys2Proof.Machine.execDomainPowered d ok s
  | .domainOffRequest ini d => Sys2Proof.Machine.execDomainOffRequest ini d s
  | .padRelease ini v => Sys2Proof.Machine.execPadRelease ini v s
  | .opPointWrite ini v => Sys2Proof.Machine.execOpPointWrite ini v s
  | .dvfsStepDone k => Sys2Proof.Machine.execDvfsStepDone k s
  | .dvfsVokTimeout k => Sys2Proof.Machine.execDvfsVokTimeout k s
  | .plinthColdStart => Sys2Proof.Machine.execPlinthColdStart s
  | .plinthDeath => Sys2Proof.Machine.execPlinthDeath s
  | .energyFlagUpdate hstore vin0 vin1 vin2 vin3 harvesting vdrv => Sys2Proof.Machine.execEnergyFlagUpdate hstore vin0 vin1 vin2 vin3 harvesting vdrv s
  | .sessionTimeout => Sys2Proof.Machine.execSessionTimeout s
  | .rtcSecond => Sys2Proof.Machine.execRtcSecond s
  | .plinthCycRead ini => Sys2Proof.Machine.execPlinthCycRead ini s
  | .plinthWake => Sys2Proof.Machine.execPlinthWake s
  | .twwWakeFrame addr => Sys2Proof.Machine.execTwwWakeFrame addr s
  | .twwStatusRead addr => Sys2Proof.Machine.execTwwStatusRead addr s
  | .plinthSleep ini v => Sys2Proof.Machine.execPlinthSleep ini v s
  | .plinthStartRequest ini => Sys2Proof.Machine.execPlinthStartRequest ini s
  | .buckBGood => Sys2Proof.Machine.execBuckBGood s
  | .powerFailWarning => Sys2Proof.Machine.execPowerFailWarning s
  | .powerFailRestore => Sys2Proof.Machine.execPowerFailRestore s
  | .buckAStop => Sys2Proof.Machine.execBuckAStop s
  | .svGetInfo q => Sys2Proof.Machine.execSvGetInfo q s
  | .svGetDevidCert q => Sys2Proof.Machine.execSvGetDevidCert q s
  | .svAttest q nonce => Sys2Proof.Machine.execSvAttest q nonce s
  | .svExtend q pm digest bad => Sys2Proof.Machine.execSvExtend q pm digest bad s
  | .svReadPm q => Sys2Proof.Machine.execSvReadPm q s
  | .svRandom q n => Sys2Proof.Machine.execSvRandom q n s
  | .svVerifyAuth q rcd op args => Sys2Proof.Machine.execSvVerifyAuth q rcd op args s
  | .svStageBegin q kind slot => Sys2Proof.Machine.execSvStageBegin q kind slot s
  | .svStageData q off data => Sys2Proof.Machine.execSvStageData q off data s
  | .svStageEnd q => Sys2Proof.Machine.execSvStageEnd q s
  | .svSelect q kind slot => Sys2Proof.Machine.execSvSelect q kind slot s
  | .svConfirm q kind bad => Sys2Proof.Machine.execSvConfirm q kind bad s
  | .svOwnerEnroll q slot key auth bad => Sys2Proof.Machine.execSvOwnerEnroll q slot key auth bad s
  | .svOwnerRevoke q slot auth bad => Sys2Proof.Machine.execSvOwnerRevoke q slot auth bad s
  | .svSetAppStrict q auth bad => Sys2Proof.Machine.execSvSetAppStrict q auth bad s
  | .svDebugPermit ch auth args bad => Sys2Proof.Machine.execSvDebugPermit ch auth args bad s
  | .svPermitEnd ch => Sys2Proof.Machine.execSvPermitEnd ch s
  | .svCmdComplete ch => Sys2Proof.Machine.execSvCmdComplete ch s
  | .bootStep bad => Sys2Proof.Machine.execBootStep bad s
  | .svauthFaultDetect => Sys2Proof.Machine.execSvauthFaultDetect s
  | .debugPermitExpire => Sys2Proof.Machine.execDebugPermitExpire s
  | .testModeLow => Sys2Proof.Machine.execTestModeLow s
  | .docStatus => Sys2Proof.Machine.execDocStatus s
  | .docIdcode => Sys2Proof.Machine.execDocIdcode s
  | .docRead addr wait => Sys2Proof.Machine.execDocRead addr wait s
  | .docWrite addr v wait => Sys2Proof.Machine.execDocWrite addr v wait s
  | .docHalt t => Sys2Proof.Machine.execDocHalt t s
  | .docResume t => Sys2Proof.Machine.execDocResume t s
  | .docStep t => Sys2Proof.Machine.execDocStep t s
  | .docRegRead t n => Sys2Proof.Machine.execDocRegRead t n s
  | .docRegWrite t n v => Sys2Proof.Machine.execDocRegWrite t n v s
  | .docBpSet t addr data => Sys2Proof.Machine.execDocBpSet t addr data s
  | .docBpClear t data => Sys2Proof.Machine.execDocBpClear t data s
  | .docCrcError => Sys2Proof.Machine.execDocCrcError s
  | .svcCourierFrame bytes => Sys2Proof.Machine.execSvcCourierFrame bytes s
  | .svcPermitFrame => Sys2Proof.Machine.execSvcPermitFrame s
  | .svcPermitEndFrame => Sys2Proof.Machine.execSvcPermitEndFrame s
  | .svcBadFrame => Sys2Proof.Machine.execSvcBadFrame s
  | .powerUpReset testMode => Sys2Proof.Machine.execPowerUpReset testMode s
  | .resetPin ns still => Sys2Proof.Machine.execResetPin ns still s
  | .sysResetSystem ini => Sys2Proof.Machine.execSysResetSystem ini s
  | .sysResetHpb ini => Sys2Proof.Machine.execSysResetHpb ini s
  | .sysResetFoyer ini => Sys2Proof.Machine.execSysResetFoyer ini s
  | .watchdogExpire => Sys2Proof.Machine.execWatchdogExpire s
  | .watchdogKick ini v => Sys2Proof.Machine.execWatchdogKick ini v s
  | .resetRelease => Sys2Proof.Machine.execResetRelease s
  | .startupPhaseEnd fail which detail => Sys2Proof.Machine.execStartupPhaseEnd fail which detail s
  | .supplyStartTimeout => Sys2Proof.Machine.execSupplyStartTimeout s
  | .visoArrive => Sys2Proof.Machine.execVisoArrive s
  | .barrierCalTimeout => Sys2Proof.Machine.execBarrierCalTimeout s
  | .hpbRelease ini => Sys2Proof.Machine.execHpbRelease ini s
  | .courierInfo h p => Sys2Proof.Machine.execCourierInfo h p s
  | .courierRead h p => Sys2Proof.Machine.execCourierRead h p s
  | .courierWrite h p => Sys2Proof.Machine.execCourierWrite h p s
  | .courierAttest h p => Sys2Proof.Machine.execCourierAttest h p s
  | .courierDevidCert h p => Sys2Proof.Machine.execCourierDevidCert h p s
  | .courierLogRead h p => Sys2Proof.Machine.execCourierLogRead h p s
  | .courierMeterRead h p => Sys2Proof.Machine.execCourierMeterRead h p s
  | .courierReset h p => Sys2Proof.Machine.execCourierReset h p s
  | .courierResetAct => Sys2Proof.Machine.execCourierResetAct s
  | .courierStageBegin h p => Sys2Proof.Machine.execCourierStageBegin h p s
  | .courierStageData h p => Sys2Proof.Machine.execCourierStageData h p s
  | .courierStageEnd h p => Sys2Proof.Machine.execCourierStageEnd h p s
  | .courierSelect h p => Sys2Proof.Machine.execCourierSelect h p s
  | .courierConfirm h p bad => Sys2Proof.Machine.execCourierConfirm h p bad s
  | .courierEventAck h => Sys2Proof.Machine.execCourierEventAck h s
  | .courierEventRepeat => Sys2Proof.Machine.execCourierEventRepeat s
  | .courierUnknownType h ty => Sys2Proof.Machine.execCourierUnknownType h ty s
  | .courierBadMessage car bytes => Sys2Proof.Machine.execCourierBadMessage car bytes s
  | .courierBroadcastInfoReply => Sys2Proof.Machine.execCourierBroadcastInfoReply s
  | .courierTtReq src dst sq t2 => Sys2Proof.Machine.execCourierTtReq src dst sq t2 s
  | .courierTtRsp src dst sq t2 t3 t4 => Sys2Proof.Machine.execCourierTtRsp src dst sq t2 t3 t4 s
  | .ttRequestSend dur => Sys2Proof.Machine.execTtRequestSend dur s
  | .ttResponseSend busy dur => Sys2Proof.Machine.execTtResponseSend busy dur s
  | .ttResponseTimeout => Sys2Proof.Machine.execTtResponseTimeout s
  | .stagingSessionTimeout => Sys2Proof.Machine.execStagingSessionTimeout s
  | .plcSegmentReceive src dst seg snr excluded => Sys2Proof.Machine.execPlcSegmentReceive src dst seg snr excluded s
  | .reassemblyTimeout => Sys2Proof.Machine.execReassemblyTimeout s
  | .plcFrameTransmit dur => Sys2Proof.Machine.execPlcFrameTransmit dur s
  | .plcCurrentLimit => Sys2Proof.Machine.execPlcCurrentLimit s
  | .hspiStatus => Sys2Proof.Machine.execHspiStatus s
  | .hspiRead addr n => Sys2Proof.Machine.execHspiRead addr n s
  | .hspiWrite addr ws => Sys2Proof.Machine.execHspiWrite addr ws s
  | .hspiMsgPut bytes => Sys2Proof.Machine.execHspiMsgPut bytes s
  | .hspiMsgGet n => Sys2Proof.Machine.execHspiMsgGet n s
  | .h2dDone ini v => Sys2Proof.Machine.execH2dDone ini v s
  | .d2hPost ini v => Sys2Proof.Machine.execD2hPost ini v s
  | .hspiLock ini v => Sys2Proof.Machine.execHspiLock ini v s
  | .gpioEdge k level => Sys2Proof.Machine.execGpioEdge k level s
  | .centreCmpTrigger u kind => Sys2Proof.Machine.execCentreCmpTrigger u kind s
  | .mtimecmpMatch q => Sys2Proof.Machine.execMtimecmpMatch q s
  | .macRetry => Sys2Proof.Machine.execMacRetry s

end Sys2Proof.Machine
end

