-- ==== Sys2Proof/Machine/Step.lean ====
section
/-!
DEFINITION. One step: the command at the front of the queue acts on the state with the queue's rest; on an empty queue one tick of
Epoch passes (R84; log row 1).
-/

namespace Sys2Proof.Machine

/-- One step of the block. [DESIGN CHOICE (safe), log row 1; DESIGN CHOICE (unsafe), log row 105] -/
def step (s : State) : Host.Outcome State Fault Refusal :=
  match s.pending with
  | [] => .next s.tick
  | c :: rest => exec c { s with pending := rest }

/-- The state with the command a word spells at the front of its queue; no row gives bits, so no word spells one.
[DESIGN CHOICE (safe), log row 96] -/
def State.withFetchWord (s : State) (nbits w : Nat) : State :=
  match decodeTableWord nbits w with
  | some c => { s with pending := c :: s.pending }
  | none => s

end Sys2Proof.Machine
end

