-- ==== Sys2Proof/Safety.lean ====
section
/-!
DEFINITION. What statements about the machine are written in: which parts of the state a command keeps (the frame), the canonical
form of the maps, and what a safe run is.
-/

namespace Sys2Proof.Machine

/-! ### The canonical form -/

/-- The memory lists its bytes in the one canonical form: addresses strictly rising, no byte that reads as an unlisted one. -/
abbrev Memory.wf (m : SMap Byte) : Bool := SMap.wf m

/-- Registers, memory with its uncorrectable words, and shadows stand in the canonical form, so that equal contents are equal data. -/
def State.canonical (s : State) : Bool := SMap.wf s.regs && Memory.wf s.mem && SMap.wf s.ecc && SMap.wf s.shadow

/-! ### Frames -/

/-- Fields lie apart: in different registers, or in bits that do not meet. -/
def Fld.apart (f g : Fld) : Bool :=
  f.addr != g.addr || (decide (f.lo + f.len ≤ 32) && decide (g.lo + g.len ≤ 32) && (decide (g.lo + g.len ≤ f.lo) || decide (f.lo + f.len ≤ g.lo)))

/-- A whole register as a field. -/
def whole (a : Nat) : Fld := ⟨a, 0, 32⟩

/-- The parts of State beside the registers. -/
inductive Part where
  | mem | shadow | epoch | draws | raised | resp | img | clk | ep | pwm | plinth | sens | wcmp | loop | drive | diag | grid
  | relay | meter | cur | pins | warden | sv | start | hok | cour | pending
  deriving DecidableEq, Repr

/-- A part reads in t as it did in s; memory byte by byte, with the words that hold uncorrectable errors. -/
def Part.same (s t : State) : Part → Prop
  | .mem => (∀ a, t.rdB a = s.rdB a) ∧ t.ecc = s.ecc
  | .shadow => t.shadow = s.shadow
  | .epoch => t.epoch = s.epoch
  | .draws => t.draws = s.draws
  | .raised => t.raised = s.raised
  | .resp => t.resp = s.resp
  | .img => t.img = s.img
  | .clk => t.clk = s.clk
  | .ep => t.ep = s.ep
  | .pwm => t.pwm = s.pwm
  | .plinth => t.plinth = s.plinth
  | .sens => t.sens = s.sens
  | .wcmp => t.wcmp = s.wcmp
  | .loop => t.loop = s.loop
  | .drive => t.drive = s.drive
  | .diag => t.diag = s.diag
  | .grid => t.grid = s.grid
  | .relay => t.relay = s.relay
  | .meter => t.meter = s.meter
  | .cur => t.cur = s.cur
  | .pins => t.pins = s.pins
  | .warden => t.warden = s.warden
  | .sv => t.sv = s.sv
  | .start => t.start = s.start
  | .hok => t.hok = s.hok
  | .cour => t.cour = s.cour
  | .pending => t.pending = s.pending

/-- The frame: from s to t every register field reads as before that lies apart from each of the named fields, and every part but
the named ones is as before. -/
def Keeps (fs : List Fld) (ps : List Part) (s t : State) : Prop :=
  (∀ g : Fld, (∀ f ∈ fs, f.apart g = true) → t.get g = s.get g) ∧ ∀ p : Part, p ∉ ps → p.same s t

/-- The frame of a command that reaches whole blocks: every register outside the named ranges of addresses (first address, first
address past the range) reads as before, and every part but the named ones is as before. -/
def KeepsOutside (rs : List (Nat × Nat)) (ps : List Part) (s t : State) : Prop :=
  (∀ a : Nat, (∀ r ∈ rs, a < r.1 ∨ r.2 ≤ a) → t.rd a = s.rd a) ∧ ∀ p : Part, p ∉ ps → p.same s t

/-- The frame of a command that may reach registers of several blocks: every part but the named ones is as before. -/
def KeepsParts (ps : List Part) (s t : State) : Prop := ∀ p : Part, p ∉ ps → p.same s t

/-- A refused write does nothing but set the block's CFG_REJECT and raise its Curator source (R8, R37). -/
def Refused (b : Blk) (n : Nat) (s t : State) : Prop :=
  t.get b.rejectFld = 1 ∧ t.raised = s.raised ++ [⟨n, 0⟩] ∧ Keeps [b.rejectFld] [.raised] s t

/-- Every byte of memory from address lo up to, not including, hi may change; every other reads as before. -/
def KeepsBytesOutside (lo hi : Nat) (s t : State) : Prop := ∀ a, a < lo ∨ hi ≤ a → t.rdB a = s.rdB a

/-- The range of addresses of a block's registers, from its first: 64 KB. -/
abbrev zone (a : Nat) : Nat × Nat := (a, a + 0x10000)

/-! ### The frames of a fall to SLEEP and of an entry to the Foyer state -/

/-- The registers outside the Plinth that a fall to SLEEP does not put back to their reset values: those of MRAM, OTP and the outside (Table
SUP-5), with the domains, the rails and the pad holds, which the fall itself writes. -/
def keptRegs : List Nat := [R.SYS_PD_STATUS, R.SYS_RAILS, R.SYS_PAD_HOLD, R.SV_INFO, R.SV_ARB] ++ keptFlds.map Fld.addr

/-- From s to t the Plinth has gone to SLEEP with every domain but PD0 off (R543, R558): its registers stand but for its state, its flags
and its activity counts; every other register but those named reads as at reset; MRAM stands unless a write of it was in progress, and no
pair lives. -/
def SleptFrom (s t : State) : Prop :=
  t.plState = 0 ∧ t.pdOn 1 = false ∧ t.hok = [] ∧ t.raised = [] ∧ t.epoch = 0 ∧ t.plinth.session = none ∧
  t.resp = s.resp ∧ t.pins = s.pins ∧ t.pending = s.pending ∧
  (∀ a, 0x400D0000 ≤ a → a < 0x400E0000 → a ∉ [R.PLINTH_STATUS, R.PLINTH_STICKY, R.PLINTH_ACT_CNT] → t.rd a = s.rd a) ∧
  (∀ a, a < 0x400D0000 ∨ 0x400E0000 ≤ a → a ∉ keptRegs → t.rd a = State.reset.rd a) ∧
  (s.maintRuns Act.mramProgram = false → ∀ a, 0x10000000 ≤ a → a < 0x11000000 → t.rdB a = s.rdB a)

/-- The blocks that an entry to the Foyer state reaches (Table SUP-4): it stops what runs and turns domains off. -/
def foyerZones : List (Nat × Nat) :=
  [zone R.SYS_ID, zone R.COURH_STATUS, zone R.DIAG_MAINT_REQ, zone R.DRV_STATUS, zone R.EPOCH_CTRL, zone R.GRID_CFG, zone R.LANE_STATUS,
   zone (R.LP_CTRL 0), zone R.METER_CTRL, zone R.PLC_STATUS, zone (R.PWM_CTRL 0), zone R.RELAY_CFG, zone R.SENSG_STATUS,
   zone R.SENSP_STATUS, zone R.SV_INFO, zone R.WCMPG_STATUS, zone R.WCMPP_STATUS]

/-- The parts that an entry to the Foyer state reaches. -/
def foyerParts : List Part :=
  [.mem, .shadow, .draws, .raised, .pwm, .plinth, .sens, .wcmp, .loop, .drive, .diag, .grid, .relay, .meter, .sv, .start, .hok, .cour]

/-! ### What follows a scheduled launch (R105) -/

/-- Entry e from s, where it was due, to t: an entry disarmed too late is IDLE; one that repeats is ARMED at its TIME plus REPEAT and
counts its COUNT down unless that was 0 when it was armed; any other is DONE. -/
def State.followsLaunch (s t : State) (e : Nat) : Prop :=
  if s.ep.late.get e = true then t.schedState e = 0
  else if s.rd (R.SCHED_REPEAT e) = 0#32 then t.schedState e = 2
  else if s.ep.unlimited.get e = true then
    t.schedState e = 1 ∧ t.schedTime e = (s.schedTime e + (s.rd (R.SCHED_REPEAT e)).toNat) % 2 ^ 64
  else if 2 ≤ s.get (F.SCHED_COUNT_COUNT e) then
    t.schedState e = 1 ∧ t.schedTime e = (s.schedTime e + (s.rd (R.SCHED_REPEAT e)).toNat) % 2 ^ 64 ∧
      t.get (F.SCHED_COUNT_COUNT e) = s.get (F.SCHED_COUNT_COUNT e) - 1
  else t.schedState e = 2

/-- The registers of SCHED entry e. -/
def schedFlds (e : Nat) : List Fld :=
  [whole (R.SCHED_TIME_LO e), whole (R.SCHED_TIME_HI e), F.SCHED_COUNT_COUNT e, F.SCHED_CTRL_STATE e]

/-! ### What a trigger adds to a window group (R122, R123, R125, R133) -/

/-- The window that a trigger at tick e adds to group g: it opens DELAY ticks later, in burst mode at least 16,000; with LEN_MODE 0 its close
is known, LENGTH or three sinc rectangles after. -/
def State.triggered (s : State) (g e : Nat) : Win :=
  let o := e + (if s.flag (F.SENSP_WG_CTRL_BURST g) then max (s.get (F.SENSP_WG_TIMING_DELAY g)) 16000 else s.get (F.SENSP_WG_TIMING_DELAY g))
  { e := e, o := o, seq := 0, prev := none,
    c := if s.flag (F.SENSP_WG_CTRL_LEN_MODE g) then none
         else some (o + spanOf (s.flag (F.SENSP_WG_CFG_WEIGHT g)) (s.get (F.SENSP_WG_TIMING_LENGTH g))) }

/-! ### Requests of the maintenance arbiter (R457) -/

/-- A request for activity c that comes now is the first of its tick for c, and none of a higher priority waits to go before it. -/
def State.maintFirst (s : State) (c : Nat) : Prop :=
  s.maintAhead s.epoch c = [] ∧ (s.diag.reqAt = some s.epoch → c ∉ s.diag.reqs)

/-! ### Svauth's answers and its log (R579, R590) -/

/-- Svauth has served the command on a channel, with a result and an answer; the command leaves the line, the other channels stand. -/
def Served (ch r : Nat) (rsp : List Byte) (s t : State) : Prop :=
  t.sv.chan.get ch = { (s.sv.chan.get ch) with served := true, result := r, rsp := rsp } ∧ t.sv.queue = s.sv.queue.filter (· != ch) ∧
  ∀ c, c ≠ ch → t.sv.chan.get c = s.sv.chan.get c

/-- One entry has gone to the Provenance log's next slot, under the next number: its type, its register and its digest; every other byte
of memory stands. -/
def Logged (ty pm : Nat) (d : List Byte) (s t : State) : Prop :=
  t.sv.logSeq = (s.sv.logSeq + 1) % 2 ^ 32 ∧ t.sv.logSlot = (s.sv.logSlot + 1) % 16384 ∧
  t.rdBytes (logSlotAddr s.sv.logSlot) 64 = t.logBytes t.sv.logSeq ty pm d ∧
  ∀ a, a < logSlotAddr s.sv.logSlot ∨ logSlotAddr s.sv.logSlot + 64 ≤ a → t.rdB a = s.rdB a

/-- The fields that show OTP's contents. -/
def otpFlds : List Fld :=
  [F.SV_INFO_REVOKED, F.SV_INFO_ENROLLED, F.SV_INFO_DEBUG_LOCK, F.SV_INFO_APP_STRICT, F.SV_ARB_FW, F.SV_ARB_IMG, F.SV_ARB_APP]

/-! ### Courier's answers (R631, R632) -/

/-- A request comes to HPA and is new: the carrier is in service, it is for this device alone, and no kept response answers it. -/
def Asked (h : MsgHdr) (s : State) : Prop :=
  s.courUp h.car = true ∧ s.courFor h = true ∧ msgBroad h = false ∧ s.courKept h = none

/-- The request has been answered with a result and a payload: the response is the answer, is counted and kept, and over powerline its
segments wait behind what waited. -/
def Answered (ty : Nat) (h : MsgHdr) (r : Nat) (p : List Byte) (s t : State) : Prop :=
  t.resp.bytes = msgBytes ty 1 r h.txid.toNat t.ownAddr h.src.toNat p ∧
  t.get F.COURH_CNT_REQ = (s.get F.COURH_CNT_REQ + 1) % 65536 ∧ t.get F.COURH_CNT_RSP = (s.get F.COURH_CNT_RSP + 1) % 65536 ∧
  (t.courKept h).map Kept.rsp = some t.resp.bytes ∧
  (h.car = .plc → t.plcOn = true → ∃ q, t.cour.queue = q ++ msgFrames h.txid.toNat h.src.toNat t.resp.bytes)

/-- The request carries an AUTH record that passes for its type, and Svauth is free (R629, R635). -/
def Authorised (ty : Nat) (h : MsgHdr) (p : List Byte) (s : State) : Prop :=
  h.auth = true ∧ 2500 ≤ p.length ∧ s.svFenced = false ∧ s.svBusy 0 = false ∧ s.authCheck (p.take 2500) (0x100 + ty) (p.drop 2500) = 0

end Sys2Proof.Machine
end

