-- ==== Sys2Proof/Certificates/Slice0/Obligations.lean ====
section
/-!
DEFINITION. The statements about the machine, chapter by chapter, for the provers. Each says of a command that exec answers a next
state, what that state holds, and what it keeps (the frame); conditions are on the state and the operands alone.
-/


section Statements

open Sys2Proof Sys2Proof.Machine

/-! ### Clock synthesis (chapter 02) -/

/-- The presence of a reference, the start of the PLL and its failure (R57, R61, R63; the chapter's start and Table CLK-9). A presence
event sets the reference's flag and makes CLK_FREQ valid or 0x8000_0000. The unmute needs LOCK while MUTED reads 1; Epoch and the dividers'
phases then start at 0. A
start that times out holds the device; the retry starts the PLL again where XIN is present. An event whose condition does not hold changes
nothing (log row 15).
LOCK is gained and lost (R60, R75, R79). Gaining it ends a coast and leaves the coast's length in COAST_MS; losing it starts one,
sets LOCK_LOST and cancels an armed divider reset.
Where the spec leaves the reading open it states the model's, as log row 33 gives. -/
def Obligations.ReferencePresenceAndLock : Prop :=
  (∀ s : State,
    (∀ ref present offset, ∃ t, exec (.refPresenceChange ref present offset) s = .next t ∧
      t.get (refOk ref) = b2n present ∧
      t.rd R.CLK_FREQ = (if t.flag F.CLK_STATUS_XIN_OK && t.flag F.CLK_STATUS_SYNC_OK then offset else 0x80000000#32) ∧
      Keeps [refOk ref, whole R.CLK_FREQ] [.clk] s t) ∧
    (s.clk.on = true → s.flag F.CLK_STATUS_LOCK = true → s.flag F.CLK_STATUS_MUTED = true →
      ∃ t, exec .pllUnmute s = .next t ∧ t.get F.CLK_STATUS_MUTED = 0 ∧ t.epoch = 0 ∧ t.mono = 0 ∧ t.divPhases = [0, 0, 0, 0, 0] ∧
        t.clk.failHold = false ∧ Keeps [F.CLK_STATUS_MUTED] [.epoch, .clk, .ep] s t) ∧
    (s.flag F.CLK_STATUS_MUTED = false → exec .pllUnmute s = .next s) ∧
    (s.flag F.CLK_STATUS_MUTED = true → s.flag F.CLK_STATUS_LOCK = false →
      ∃ t, exec .pllStartTimeout s = .next t ∧ t.clk.failHold = true ∧ t.clk.on = false ∧ Keeps [] [.clk] s t) ∧
    (s.clk.failHold = true →
      ∃ t, exec .pllStartRetry s = .next t ∧ t.clk.on = s.flag F.CLK_STATUS_XIN_OK ∧ t.clk.failHold = true ∧ Keeps [] [.clk] s t)) ∧
  (∀ s : State,
    (s.clk.on = true → s.flag F.CLK_STATUS_LOCK = false → s.clk.frozen = false →
      ∃ t, exec .pllLockAcquire s = .next t ∧ t.get F.CLK_STATUS_LOCK = 1 ∧ t.get F.CLK_STATUS_COAST ≠ 1 ∧
        (s.flag F.CLK_STATUS_COAST = true → t.get F.CLK_COAST_COAST_MS = min ((s.mono - s.clk.coastFrom) / 800000) 0xFFFF) ∧
        Keeps [F.CLK_STATUS_LOCK, F.CLK_STATUS_COAST, F.CLK_COAST_COAST_MS] [] s t) ∧
    (s.flag F.CLK_STATUS_LOCK = true →
      ∃ t, exec .pllLockLoss s = .next t ∧ t.get F.CLK_STATUS_LOCK = 0 ∧ t.get F.CLK_STATUS_COAST = 1 ∧
        t.get F.CLK_STICKY_LOCK_LOST = 1 ∧ t.get F.CLK_CTRL_DIVSYNC_ARM = 0 ∧ t.clk.frozen = true ∧
        (s.flag F.CLK_STATUS_COAST = false → t.get F.CLK_COAST_COAST_CNT = satInc F.CLK_COAST_COAST_CNT.len (s.get F.CLK_COAST_COAST_CNT) ∧
          t.get F.CLK_COAST_COAST_MS = 0 ∧ t.clk.coastFrom = s.mono) ∧
        Keeps [F.CLK_STATUS_LOCK, F.CLK_STATUS_COAST, F.CLK_STICKY_LOCK_LOST, F.CLK_CTRL_DIVSYNC_ARM, F.CLK_COAST_COAST_CNT,
          F.CLK_COAST_COAST_MS] [.clk] s t) ∧
    (s.flag F.CLK_STATUS_LOCK = false → exec .pllLockLoss s = .next s))

/-- Losing a reference and coasting (R74, R75, R77, R79, R80). The limit of 1 s is 800,000,000 ticks.
N and the choice of the reference (R36, R37, R58, R71, R72, R81). A write of N that an ADJUST entry admits is refused outside the row
of the active reference or more than 1 from the value in force, and is otherwise shadowed with N_PENDING 1; it transfers at least 40,000 ticks
(50 us) after the previous change. A change of REF_SEL that takes effect loads the nominal N, clears DIV_ALIGNED and LOCK and freezes the loop,
which coasts; a write of the reference in force changes nothing.
Where the spec leaves the reading open it states the model's, as log rows 12, 22, 23 and 33 give. The clauses in which a command changes
nothing because its condition does not hold state the model's choice (log row 15). -/
def Obligations.ReferenceLossAndFeedbackRatio : Prop :=
  (∀ s : State,
    (s.clk.on = true → s.clk.refLost = false →
      ∃ t, exec .refLoss s = .next t ∧ t.clk.refLost = true ∧ t.clk.frozen = true ∧ t.get F.CLK_STATUS_LOCK = 0 ∧
        t.get F.CLK_STATUS_COAST = 1 ∧ t.get F.CLK_STICKY_REF_LOST = 1 ∧ t.get F.CLK_CTRL_DIVSYNC_ARM = 0 ∧
        Keeps [F.CLK_STATUS_LOCK, F.CLK_STATUS_COAST, F.CLK_STICKY_REF_LOST, F.CLK_CTRL_DIVSYNC_ARM, F.CLK_COAST_COAST_CNT,
          F.CLK_COAST_COAST_MS] [.clk] s t) ∧
    (s.flag F.CLK_STATUS_COAST = true → s.clk.limitHit = false → s.clk.coastFrom + 800000000 ≤ s.mono →
      ∃ t, exec .coastLimit s = .next t ∧ t.get F.CLK_STICKY_COAST_LIMIT = 1 ∧
        t.raised = s.raised ++ [⟨FS.PLL_COAST_LIMIT, 0⟩] ∧ t.clk.limitHit = true ∧
        Keeps [F.CLK_STICKY_COAST_LIMIT] [.raised, .clk] s t) ∧
    (s.flag F.CLK_STATUS_COAST = true → s.mono < s.clk.coastFrom + 800000000 → exec .coastLimit s = .next s) ∧
    (s.clk.frozen = true →
      ∃ t, exec .refRestore s = .next t ∧ t.clk.frozen = false ∧ t.clk.refLost = false ∧ t.get F.CLK_STATUS_DIV_ALIGNED = 0 ∧
        Keeps [F.CLK_STATUS_DIV_ALIGNED] [.clk] s t)) ∧
  (∀ s : State,
    (∀ i v, s.adjust F.CLK_N_N (bitsOf v.toNat 0 9) = .ok → nPermitted (s.get F.CLK_STATUS_ACTIVE_REF) (bitsOf v.toNat 0 9) = true →
      bitsOf v.toNat 0 9 ≤ s.get F.CLK_N_N + 1 → s.get F.CLK_N_N ≤ bitsOf v.toNat 0 9 + 1 →
      ∃ t, exec (.clkNWrite i v) s = .next t ∧ t.shadowGet F.CLK_N_N = bitsOf v.toNat 0 9 ∧ t.get F.CLK_N_N = s.get F.CLK_N_N ∧
        t.get F.CLK_STATUS_N_PENDING = 1 ∧ Keeps [F.CLK_STATUS_N_PENDING] [.shadow] s t) ∧
    (∀ i v, s.adjust F.CLK_N_N (bitsOf v.toNat 0 9) = .ok → (nPermitted (s.get F.CLK_STATUS_ACTIVE_REF) (bitsOf v.toNat 0 9) &&
        decide (bitsOf v.toNat 0 9 ≤ s.get F.CLK_N_N + 1) && decide (s.get F.CLK_N_N ≤ bitsOf v.toNat 0 9 + 1)) = false →
      ∃ t, exec (.clkNWrite i v) s = .next t ∧ Refused .clk FS.CLK s t) ∧
    (∀ i v, s.adjust F.CLK_N_N (bitsOf v.toNat 0 9) = .uncovered → exec (.clkNWrite i v) s = .next s) ∧
    (s.flag F.CLK_STATUS_N_PENDING = true → s.shadowed F.CLK_N_N = true → s.clk.frozen = false →
      (∀ n, s.clk.nChanged = some n → n + 40000 ≤ s.mono) →
      ∃ t, exec .clkNTransfer s = .next t ∧ t.get F.CLK_N_N = s.shadowGet F.CLK_N_N ∧ t.get F.CLK_STATUS_N_PENDING = 0 ∧
        t.clk.nChanged = some s.mono ∧ Keeps [F.CLK_N_N, F.CLK_STATUS_N_PENDING] [.shadow, .clk] s t) ∧
    (∀ i sel, s.get F.CLK_CTRL_REF_SEL ≠ refCode sel → s.adjust F.CLK_CTRL_REF_SEL (refCode sel) = .ok → s.clkRunning = false →
      ∃ t, exec (.refSelWrite i sel) s = .next t ∧ t.get F.CLK_CTRL_REF_SEL = refCode sel ∧ t.get F.CLK_STATUS_ACTIVE_REF = refCode sel ∧
        t.get F.CLK_N_N = nNominal (refCode sel) ∧ t.get F.CLK_STATUS_DIV_ALIGNED = 0 ∧ t.get F.CLK_STATUS_N_PENDING = 0 ∧
        t.flag F.CLK_STATUS_LOCK = false ∧ t.get F.CLK_STATUS_COAST = 1 ∧ t.get F.CLK_CTRL_DIVSYNC_ARM = 0 ∧
        (s.flag F.CLK_STATUS_LOCK = true → t.get F.CLK_STICKY_LOCK_LOST = 1) ∧ t.clk.frozen = true ∧ t.clk.refLost = false ∧
        t.clk.nChanged = some s.mono ∧ t.get F.CLK_STATUS_MUTED = s.get F.CLK_STATUS_MUTED ∧
        Keeps [F.CLK_CTRL_REF_SEL, F.CLK_STATUS_ACTIVE_REF, F.CLK_N_N, F.CLK_STATUS_N_PENDING, F.CLK_STATUS_LOCK, F.CLK_STATUS_DIV_ALIGNED,
          F.CLK_CTRL_DIVSYNC_ARM, F.CLK_STICKY_LOCK_LOST, F.CLK_STATUS_COAST, F.CLK_COAST_COAST_CNT, F.CLK_COAST_COAST_MS] [.shadow, .clk] s t) ∧
    (∀ i sel, s.get F.CLK_CTRL_REF_SEL = refCode sel → s.adjust F.CLK_CTRL_REF_SEL (refCode sel) = .ok → s.clkRunning = false →
      exec (.refSelWrite i sel) s = .next s) ∧
    (∀ i sel, s.adjust F.CLK_CTRL_REF_SEL (refCode sel) = .ok → s.clkRunning = true →
      ∃ t, exec (.refSelWrite i sel) s = .next t ∧ Refused .clk FS.CLK s t))

/-- The divider reset and the marks (R65 to R68). A write of 1 to DIVSYNC_ARM is refused unless SYNC_IN is the active reference, LOCK
is 1 and the block is stopped. A mark that comes 10,000 reference cycles after its predecessor restarts armed dividers at phase 0 if it
is the second since the arm; at such a mark aligned dividers whose joint phase, of 40 VCO cycles, is not 0 have slipped, and are not moved.
Where the spec leaves the reading open it states the model's, as log row 34 gives. -/
def Obligations.DividerResetAndMarks : Prop :=
  ∀ s : State,
  (∀ i, s.flag F.CLK_STATUS_ACTIVE_REF = true → s.flag F.CLK_STATUS_LOCK = true → s.clkRunning = false →
    ∃ t, exec (.divsyncArm i) s = .next t ∧ t.get F.CLK_CTRL_DIVSYNC_ARM = 1 ∧ t.clk.armMark = false ∧
      Keeps [F.CLK_CTRL_DIVSYNC_ARM] [.clk] s t) ∧
  (∀ i, (s.flag F.CLK_STATUS_ACTIVE_REF && s.flag F.CLK_STATUS_LOCK && !s.clkRunning) = false →
    ∃ t, exec (.divsyncArm i) s = .next t ∧ Refused .clk FS.CLK s t) ∧
  (∀ off, s.clk.markSeen = true → s.flag F.CLK_CTRL_DIVSYNC_ARM = true → s.clk.armMark = true → s.flag F.EPOCH_CTRL_MARK_ARM = false →
    s.flag F.EPOCH_STATUS_ALIGNED = false →
    ∃ t, exec (.syncMark 10000 off) s = .next t ∧ t.get F.CLK_STATUS_DIV_ALIGNED = 1 ∧ t.get F.CLK_CTRL_DIVSYNC_ARM = 0 ∧
      t.get F.CLK_STATUS_MARKS_OK = 1 ∧ t.clk.armMark = false ∧ t.divPhases = [0, 0, 0, 0, 0] ∧
      (s.flag F.CLK_STATUS_DIV_ALIGNED = false → t.get F.CLK_STICKY_DIV_SLIP = s.get F.CLK_STICKY_DIV_SLIP ∧ t.raised = s.raised) ∧
      Keeps [F.CLK_MARKS_MARK_CNT, F.CLK_STATUS_MARKS_OK, F.CLK_STATUS_DIV_ALIGNED, F.CLK_CTRL_DIVSYNC_ARM, F.CLK_STICKY_DIV_SLIP]
        [.clk, .raised] s t) ∧
  (∀ off, (s.clk.vco + off) % 40 ≠ 0 → s.clk.markSeen = true → s.flag F.CLK_STATUS_DIV_ALIGNED = true →
    s.flag F.EPOCH_CTRL_MARK_ARM = false → s.flag F.EPOCH_STATUS_ALIGNED = false →
    ∃ t, exec (.syncMark 10000 off) s = .next t ∧ t.get F.CLK_STICKY_DIV_SLIP = 1 ∧ t.raised = s.raised ++ [⟨FS.CLK, 0⟩] ∧
      (s.flag F.CLK_CTRL_DIVSYNC_ARM = false → t.get F.CLK_STATUS_DIV_ALIGNED = 0 ∧ t.clk.vco = s.clk.vco) ∧
      Keeps [F.CLK_MARKS_MARK_CNT, F.CLK_STATUS_MARKS_OK, F.CLK_STATUS_DIV_ALIGNED, F.CLK_STICKY_DIV_SLIP, F.CLK_CTRL_DIVSYNC_ARM]
        [.clk, .raised] s t) ∧
  (∀ off, (s.clk.vco + off) % 40 = 0 → s.clk.markSeen = true → s.flag F.CLK_STATUS_DIV_ALIGNED = true →
    s.flag F.EPOCH_CTRL_MARK_ARM = false → s.flag F.EPOCH_STATUS_ALIGNED = false →
    ∃ t, exec (.syncMark 10000 off) s = .next t ∧ t.get F.CLK_STICKY_DIV_SLIP = s.get F.CLK_STICKY_DIV_SLIP ∧
      t.get F.CLK_STATUS_DIV_ALIGNED = 1 ∧
      Keeps [F.CLK_MARKS_MARK_CNT, F.CLK_STATUS_MARKS_OK, F.CLK_STATUS_DIV_ALIGNED, F.CLK_CTRL_DIVSYNC_ARM] [.clk] s t)

/-- R70, whole: a mark that arrives other than 10,000 reference cycles after the previous mark sets MARK_ERR and is not used for alignment, of
the dividers or of Epoch; when 10,000 reference cycles pass without a mark, MISS_CNT increments (saturating, as a counter of its register does).
Beside them MARK_CNT counts the mark and MARKS_OK falls (Table CLK-8). -/
def Obligations.WrongAndMissingMarks : Prop :=
  ∀ s : State,
  (∀ sp off, s.clk.markSeen = true → sp ≠ 10000 →
    ∃ t, exec (.syncMark sp off) s = .next t ∧ t.get F.CLK_MARKS_MARK_CNT = (s.get F.CLK_MARKS_MARK_CNT + 1) % 2 ^ F.CLK_MARKS_MARK_CNT.len ∧
      t.get F.CLK_STICKY_MARK_ERR = 1 ∧ t.get F.CLK_STATUS_MARKS_OK = 0 ∧ t.epoch = s.epoch ∧
      t.get F.CLK_STATUS_DIV_ALIGNED = s.get F.CLK_STATUS_DIV_ALIGNED ∧ (s.flag F.CLK_CTRL_DIVSYNC_ARM = true → t.clk.armMark = false) ∧
      Keeps [F.CLK_MARKS_MARK_CNT, F.CLK_STICKY_MARK_ERR, F.CLK_STATUS_MARKS_OK] [.clk] s t) ∧
  (∃ t, exec .markMissing s = .next t ∧
    t.get F.CLK_MARKS_MISS_CNT = satInc F.CLK_MARKS_MISS_CNT.len (s.get F.CLK_MARKS_MISS_CNT) ∧ Keeps [F.CLK_MARKS_MISS_CNT] [] s t)

/-! ### Epoch and the clock islands (chapter 03) -/

/-- The tick (R84, R99, R100): a step of the empty queue is one Epoch-clock edge, one Epoch tick further, two in an advance step, none in
a retard step; the rate accumulator takes EPOCH_RATE and asks for a step when it reaches 1,000,000,000 in either direction, and the VCO has made
four cycles (R64). While the outputs are muted there is no edge. That the empty queue's step stands for the clock is the model's choice (log row 1).
The clauses in which a command changes nothing because its condition does not hold state the model's choice (log row 15). -/
def Obligations.IdleStepIsOneEpochTick : Prop :=
  ∀ s : State, s.pending = [] →
  (s.flag F.CLK_STATUS_MUTED = true → step s = .next s) ∧
  (s.flag F.CLK_STATUS_MUTED = false →
    ∃ t, step s = .next t ∧ t.ep.step = 0 ∧ t.clk.vco = (s.clk.vco + 4) % 40 ∧
      (s.ep.step = 0 → t.epoch = (s.epoch + 1) % 2 ^ 64) ∧ (s.ep.step = 1 → t.epoch = (s.epoch + 2) % 2 ^ 64) ∧
      (s.ep.step = -1 → t.epoch = s.epoch % 2 ^ 64) ∧
      (∃ d : Int, t.ep.req = s.ep.req + d ∧ t.ep.acc = s.ep.acc + s.getS F.EPOCH_RATE_RATE - d * 1000000000 ∧
        (1000000000 ≤ s.ep.acc + s.getS F.EPOCH_RATE_RATE → d = 1) ∧ (s.ep.acc + s.getS F.EPOCH_RATE_RATE ≤ -1000000000 → d = -1) ∧
        (-1000000000 < s.ep.acc + s.getS F.EPOCH_RATE_RATE → s.ep.acc + s.getS F.EPOCH_RATE_RATE < 1000000000 → d = 0)) ∧
      Keeps [] [.epoch, .ep, .clk] s t)

/-- Load and mark arm (R96 to R98): a write of 1 to LOAD is refused while the block runs and is otherwise pending until the one edge at which
Epoch takes EPOCH_LOAD_HI:EPOCH_LOAD_LO; MARK_ARM is accepted only in SYNC mode with aligned dividers.
An armed mark aligns Epoch (R98): at a correctly spaced mark with local value L every copy takes round((L - C) / 800,000) x 800,000 + C,
halves upward; ALIGNED becomes 1 and MARK_ARM clears. Over a load and over an alignment the ticks that have passed stay what they are.
Reads and the capture (R88, R92, R106): a read of EPOCH_NOW_LO answers the low word and latches the high one; a read of EPOCH_BAR answers it
and clears SKEW_MAX; RTC_CAP arms a capture, and the next Plinth edge puts Epoch and the Plinth's count into the capture registers.
Rate and slew (R99 to R102): an admitted write waits in the shadow, and is refused in SYNC mode or, for the rate, beyond 500,000; at a
multiple of 1,024 both transfer and one step at most is taken, a requested rate step first, else one of the pending slew steps.
Where the spec leaves the reading open it states the model's, as log rows 12, 22 and 35 give. The clauses in which a command changes nothing
because its condition does not hold state the model's choice (log row 15). -/
def Obligations.EpochLoadsReadsAndSteps : Prop :=
  (∀ s : State,
    (∀ i, s.epochRunning = false →
      ∃ t, exec (.epochLoad i) s = .next t ∧ t.get F.EPOCH_CTRL_LOAD = 1 ∧ t.epoch = s.epoch ∧ Keeps [F.EPOCH_CTRL_LOAD] [.ep] s t) ∧
    (∀ i, s.epochRunning = true →
      (∃ t, exec (.epochLoad i) s = .next t ∧ Refused .epoch FS.EPOCH s t) ∧
      exec (.epochMarkArm i) s = exec (.epochLoad i) s) ∧
    (s.flag F.EPOCH_CTRL_LOAD = true →
      ∃ t, exec .epochLoadApply s = .next t ∧ t.epoch = (s.rd R.EPOCH_LOAD_HI).toNat * 2 ^ 32 + (s.rd R.EPOCH_LOAD_LO).toNat ∧
        t.get F.EPOCH_CTRL_LOAD = 0 ∧ t.mono = s.mono ∧ Keeps [F.EPOCH_CTRL_LOAD] [.epoch, .ep, .drive, .sens, .diag] s t) ∧
    (∀ i, s.epochRunning = false → s.epochMode = 1 → s.flag F.CLK_STATUS_DIV_ALIGNED = true →
      ∃ t, exec (.epochMarkArm i) s = .next t ∧ t.get F.EPOCH_CTRL_MARK_ARM = 1 ∧ t.get F.EPOCH_STATUS_MARK_ARMED = 1 ∧
        Keeps [F.EPOCH_CTRL_MARK_ARM, F.EPOCH_STATUS_MARK_ARMED] [] s t) ∧
    (∀ i, s.epochRunning = false → s.epochMode ≠ 1 ∨ s.flag F.CLK_STATUS_DIV_ALIGNED = false →
      ∃ t, exec (.epochMarkArm i) s = .next t ∧ Refused .epoch FS.EPOCH s t)) ∧
  (∀ (s : State) (off : Nat),
    s.clk.markSeen = true → s.flag F.EPOCH_CTRL_MARK_ARM = true →
    ∃ t, exec (.syncMark 10000 off) s = .next t ∧
      (∀ q : Int, 2 * ((s.epoch : Int) - s.get F.EPOCH_SYNC_COMP_C) < (2 * q + 1) * 800000 →
        (2 * q - 1) * 800000 ≤ 2 * ((s.epoch : Int) - s.get F.EPOCH_SYNC_COMP_C) →
        (t.epoch : Int) = (q * 800000 + s.get F.EPOCH_SYNC_COMP_C) % 2 ^ 64) ∧
      t.get F.EPOCH_STATUS_ALIGNED = 1 ∧ t.get F.EPOCH_CTRL_MARK_ARM = 0 ∧ t.get F.EPOCH_STATUS_MARK_ARMED = 0 ∧ t.mono = s.mono ∧
      Keeps [F.CLK_MARKS_MARK_CNT, F.CLK_STATUS_MARKS_OK, F.CLK_STATUS_DIV_ALIGNED, F.CLK_STICKY_DIV_SLIP, F.CLK_CTRL_DIVSYNC_ARM,
        F.EPOCH_STATUS_ALIGNED, F.EPOCH_CTRL_MARK_ARM, F.EPOCH_STATUS_MARK_ARMED] [.epoch, .ep, .clk, .drive, .sens, .diag, .raised] s t) ∧
  (∀ s : State,
    (∀ i, ∃ t, exec (.epochNowRead i) s = .next t ∧ t.resp.words = [BitVec.ofNat 32 s.epoch] ∧
      t.rd R.EPOCH_NOW_HI = BitVec.ofNat 32 (s.epoch / 2 ^ 32) ∧ Keeps [whole R.EPOCH_NOW_HI] [.resp] s t) ∧
    (∀ i, ∃ t, exec (.epochBarRead i) s = .next t ∧ t.resp.words = [s.rd R.EPOCH_BAR] ∧ t.get F.EPOCH_BAR_SKEW_MAX = 0 ∧
      Keeps [F.EPOCH_BAR_SKEW_MAX] [.resp] s t) ∧
    (∀ i, ∃ t, exec (.epochRtcCap i) s = .next t ∧ t.get F.EPOCH_CTRL_RTC_CAP = 1 ∧ Keeps [F.EPOCH_CTRL_RTC_CAP] [] s t) ∧
    (s.flag F.EPOCH_CTRL_RTC_CAP = true →
      ∃ t, exec .epochRtcCaptureEdge s = .next t ∧ t.get F.EPOCH_CTRL_RTC_CAP = 0 ∧
        t.rd R.EPOCH_RTC_EPOCH_LO = BitVec.ofNat 32 s.epoch ∧ t.rd R.EPOCH_RTC_EPOCH_HI = BitVec.ofNat 32 (s.epoch / 2 ^ 32) ∧
        t.rd R.EPOCH_RTC_COUNT = BitVec.ofNat 32 t.plinth.cyc ∧
        Keeps [F.EPOCH_CTRL_RTC_CAP, whole R.EPOCH_RTC_EPOCH_LO, whole R.EPOCH_RTC_EPOCH_HI, whole R.EPOCH_RTC_COUNT] [.draws, .plinth] s t) ∧
    (s.flag F.EPOCH_CTRL_RTC_CAP = false → exec .epochRtcCaptureEdge s = .next s)) ∧
  (∀ s : State,
    (∀ i v, s.adjust F.EPOCH_RATE_RATE (bitsOf v.toNat 0 24) = .ok → s.epochMode ≠ 1 →
      -500000 ≤ signedOf 24 (bitsOf v.toNat 0 24) → signedOf 24 (bitsOf v.toNat 0 24) ≤ 500000 →
      ∃ t, exec (.epochRateWrite i v) s = .next t ∧ t.shadowGet F.EPOCH_RATE_RATE = bitsOf v.toNat 0 24 ∧ Keeps [] [.shadow] s t) ∧
    (∀ i v, s.adjust F.EPOCH_RATE_RATE (bitsOf v.toNat 0 24) = .ok →
      s.epochMode = 1 ∨ signedOf 24 (bitsOf v.toNat 0 24) < -500000 ∨ 500000 < signedOf 24 (bitsOf v.toNat 0 24) →
      ∃ t, exec (.epochRateWrite i v) s = .next t ∧ Refused .epoch FS.EPOCH s t) ∧
    (∀ i v, s.adjust F.EPOCH_SLEW_SLEW (bitsOf v.toNat 0 24) = .ok → s.epochMode ≠ 1 →
      ∃ t, exec (.epochSlewWrite i v) s = .next t ∧ t.shadowGet F.EPOCH_SLEW_SLEW = bitsOf v.toNat 0 24 ∧ Keeps [] [.shadow] s t) ∧
    (s.epoch % 1024 = 0 → s.ep.slot ≠ s.epoch + 1 →
      ∃ t, exec .epochSlewSlot s = .next t ∧ t.get F.EPOCH_RATE_RATE = s.shadowGet F.EPOCH_RATE_RATE ∧
        (0 < s.ep.req → t.ep.step = 1 ∧ t.ep.req = s.ep.req - 1 ∧ t.get F.EPOCH_SLEW_SLEW = s.shadowGet F.EPOCH_SLEW_SLEW) ∧
        (s.ep.req < 0 → t.ep.step = -1 ∧ t.ep.req = s.ep.req + 1 ∧ t.get F.EPOCH_SLEW_SLEW = s.shadowGet F.EPOCH_SLEW_SLEW) ∧
        (s.ep.req = 0 → 0 < signedOf 24 (s.shadowGet F.EPOCH_SLEW_SLEW) →
          t.ep.step = 1 ∧ t.getS F.EPOCH_SLEW_SLEW = signedOf 24 (s.shadowGet F.EPOCH_SLEW_SLEW) - 1) ∧
        (s.ep.req = 0 → signedOf 24 (s.shadowGet F.EPOCH_SLEW_SLEW) < 0 →
          t.ep.step = -1 ∧ t.getS F.EPOCH_SLEW_SLEW = signedOf 24 (s.shadowGet F.EPOCH_SLEW_SLEW) + 1) ∧
        (s.ep.req = 0 → signedOf 24 (s.shadowGet F.EPOCH_SLEW_SLEW) = 0 → t.ep.step = 0) ∧ t.epoch = s.epoch ∧
        Keeps [F.EPOCH_RATE_RATE, F.EPOCH_SLEW_SLEW, F.EPOCH_STATUS_SLEWING] [.shadow, .ep] s t) ∧
    (s.epoch % 1024 ≠ 0 → exec .epochSlewSlot s = .next s))

/-- R108, whole: while ALIGNED is 1, a correctly spaced mark at which Epoch is not C modulo 800,000 sets MARK_SLIP, clears ALIGNED and raises
the EPOCH source, whose severity after reset is LOG; Epoch is not moved. One at which Epoch is C modulo 800,000 does none of these. (With MARK_ARM set the
mark aligns Epoch instead, R98.) -/
def Obligations.AlignedEpochIsCheckedAtMarks : Prop :=
  ∀ (s : State) (off : Nat),
  State.reset.severity FS.EPOCH = 1 ∧
  (s.clk.markSeen = true → s.flag F.EPOCH_CTRL_MARK_ARM = false → s.flag F.EPOCH_STATUS_ALIGNED = true →
    (s.epoch % 800000 ≠ s.get F.EPOCH_SYNC_COMP_C % 800000 →
      ∃ t, exec (.syncMark 10000 off) s = .next t ∧ t.get F.EPOCH_STICKY_MARK_SLIP = 1 ∧ t.get F.EPOCH_STATUS_ALIGNED = 0 ∧
        (⟨FS.EPOCH, 0⟩ : Raise) ∈ t.raised ∧ t.epoch = s.epoch ∧
        KeepsOutside [zone R.CLK_CTRL, zone R.EPOCH_CTRL] [.clk, .raised] s t ∧
        (s.flag F.CLK_CTRL_DIVSYNC_ARM = false → s.flag F.CLK_STATUS_DIV_ALIGNED = false →
          t.raised = s.raised ++ [⟨FS.EPOCH, 0⟩] ∧
          Keeps [F.CLK_MARKS_MARK_CNT, F.CLK_STATUS_MARKS_OK, F.EPOCH_STICKY_MARK_SLIP, F.EPOCH_STATUS_ALIGNED] [.clk, .raised] s t)) ∧
    (s.epoch % 800000 = s.get F.EPOCH_SYNC_COMP_C % 800000 →
      ∃ t, exec (.syncMark 10000 off) s = .next t ∧ t.get F.EPOCH_STICKY_MARK_SLIP = s.get F.EPOCH_STICKY_MARK_SLIP ∧
        t.get F.EPOCH_STATUS_ALIGNED = 1 ∧ (⟨FS.EPOCH, 0⟩ ∈ t.raised → ⟨FS.EPOCH, 0⟩ ∈ s.raised) ∧ t.epoch = s.epoch ∧
        KeepsOutside [zone R.CLK_CTRL] [.clk, .raised] s t))

/-- R93 and R94, whole: a measured barrier error greater than 2.5 ns, which is 32 sixteenths of a tick of 1.25 ns, sets BAR_SKEW and raises EPOCH_BARRIER_SKEW; every
65,536 ticks the islands' copies are compared with the EPOCH block's value, and a difference of 2 ticks or more sets ISLAND_SKEW and raises
EPOCH_ISLAND_SKEW. Both sources have severity SAFE after reset. -/
def Obligations.BarrierAndIslandSkew : Prop :=
  ∀ s : State,
  State.reset.severity FS.EPOCH_BARRIER_SKEW = 4 ∧ State.reset.severity FS.EPOCH_ISLAND_SKEW = 4 ∧
  (∀ err : Int, s.flag F.EPOCH_STATUS_BAR_CAL_DONE = true → s.ep.barNext ≤ s.mono →
    ∃ t, exec (.barrierRemeasure err) s = .next t ∧
      (32 < err.natAbs → t.get F.EPOCH_STICKY_BAR_SKEW = 1 ∧ t.raised = s.raised ++ [⟨FS.EPOCH_BARRIER_SKEW, 0⟩]) ∧
      (err.natAbs ≤ 32 → t.get F.EPOCH_STICKY_BAR_SKEW = s.get F.EPOCH_STICKY_BAR_SKEW ∧ t.raised = s.raised) ∧
      Keeps [F.EPOCH_BAR_SKEW_MAX, F.EPOCH_STICKY_BAR_SKEW] [.ep, .raised] s t) ∧
  (∀ d : Nat, s.ep.islNext ≤ s.mono →
    ∃ t, exec (.islandSkewCheck d) s = .next t ∧ t.ep.islNext = s.mono + 65536 ∧
      (2 ≤ d → t.get F.EPOCH_STICKY_ISLAND_SKEW = 1 ∧ t.raised = s.raised ++ [⟨FS.EPOCH_ISLAND_SKEW, 0⟩]) ∧
      (d < 2 → t.get F.EPOCH_STICKY_ISLAND_SKEW = s.get F.EPOCH_STICKY_ISLAND_SKEW ∧ t.raised = s.raised) ∧
      Keeps [F.EPOCH_STICKY_ISLAND_SKEW] [.ep, .raised] s t)

/-- The barrier's measurements (R91, R92, R95): the calibration after PD10's power-up and training sets BAR_CAL_DONE and the measured DELAY; from then on the barrier is
remeasured every 65,536 ticks, each time with one step of the fine phase against the sign of the error, and SKEW_MAX keeps the largest error. That the fine
phase counts down for a positive error is the model's sign (log row 35).
The clauses in which a command changes nothing because its condition does not hold state the model's choice (log row 15). -/
def Obligations.BarrierMeasurements : Prop :=
  ∀ s : State,
  (∀ err : Int, s.flag F.EPOCH_STATUS_BAR_CAL_DONE = true → s.ep.barNext ≤ s.mono →
    ∃ t, exec (.barrierRemeasure err) s = .next t ∧ t.ep.barNext = s.mono + 65536 ∧
      t.get F.EPOCH_BAR_SKEW_MAX = max (s.get F.EPOCH_BAR_SKEW_MAX) (min err.natAbs 0xFFFF) ∧
      (0 < err → t.ep.fine = s.ep.fine - 1) ∧ (err < 0 → t.ep.fine = s.ep.fine + 1) ∧ (err = 0 → t.ep.fine = s.ep.fine) ∧
      Keeps [F.EPOCH_BAR_SKEW_MAX, F.EPOCH_STICKY_BAR_SKEW] [.ep, .raised] s t) ∧
  ((s.flag F.EPOCH_STATUS_BAR_CAL_DONE = false ∨ s.mono < s.ep.barNext) → ∀ err, exec (.barrierRemeasure err) s = .next s) ∧
  (∀ d : Nat, bitOf (s.get F.SYS_PD_STATUS_DOMAIN_ON) 10 = true → s.flag F.EPOCH_STATUS_BAR_CAL_DONE = false → d < 0x10000 →
    ∃ t, exec (.barrierCalibration d) s = .next t ∧ t.get F.EPOCH_STATUS_BAR_CAL_DONE = 1 ∧ t.get F.EPOCH_BAR_DELAY = d ∧
      t.ep.fine = 0 ∧ t.ep.barNext = s.mono + 65536 ∧
      KeepsOutside [zone R.EPOCH_CTRL, zone R.GRID_CFG, zone R.DIAG_MAINT_REQ, zone R.SENSP_STATUS, zone R.SENSG_STATUS, zone R.WCMPP_STATUS,
        zone R.WCMPG_STATUS, zone R.DRV_STATUS, zone R.LANE_STATUS, zone R.SYS_ID]
        [.draws, .ep, .pwm, .sens, .wcmp, .drive, .diag, .grid, .relay, .start] s t)

/-! ### The scheduled-action table (chapter 03, Tables EPOCH-3 and EPOCH-8) -/

/-- Arming (R103 to R105): an entry that is not ARMED, whose action the initiator may arm and whose REPEAT is 0 or at least 800, becomes ARMED
with at least 400 ticks of lead, and is late with less; other arms are refused. Disarming in time returns it to IDLE, and within the last
400 ticks leaves it to launch.
Where the spec leaves the reading open it states the model's, as log row 36 gives. -/
def Obligations.ScheduleEntriesArmAndDisarm : Prop :=
  ∀ (s : State) (i : Initiator) (e : Fin 32),
  (s.schedState e ≠ 1 → mayArm i (s.schedAct e) = true →
    (s.rd (R.SCHED_REPEAT e) = 0#32 ∨ 800 ≤ (s.rd (R.SCHED_REPEAT e)).toNat) → s.epoch + 400 ≤ s.schedTime e →
    ∃ t, exec (.schedArm i e) s = .next t ∧ t.schedState e = 1 ∧ t.ep.unlimited.get e = (s.get (F.SCHED_COUNT_COUNT e) == 0) ∧
      Keeps [F.SCHED_CTRL_STATE e] [.ep] s t) ∧
  (s.schedState e ≠ 1 → mayArm i (s.schedAct e) = true →
    (s.rd (R.SCHED_REPEAT e) = 0#32 ∨ 800 ≤ (s.rd (R.SCHED_REPEAT e)).toNat) → s.schedTime e < s.epoch + 400 →
    ∃ t, exec (.schedArm i e) s = .next t ∧ t.schedState e = s.schedState e ∧ t.get (F.SCHED_CTRL_LATE e) = 1 ∧
      t.get F.EPOCH_STICKY_SCHED_LATE = 1 ∧ t.raised = s.raised ++ [⟨FS.EPOCH, 0⟩] ∧
      Keeps [F.SCHED_CTRL_LATE e, F.EPOCH_STICKY_SCHED_LATE] [.raised] s t) ∧
  (s.schedState e ≠ 1 → (mayArm i (s.schedAct e) = false ∨
      (1 ≤ (s.rd (R.SCHED_REPEAT e)).toNat ∧ (s.rd (R.SCHED_REPEAT e)).toNat ≤ 799)) →
    ∃ t, exec (.schedArm i e) s = .next t ∧ t.schedState e = s.schedState e ∧ Refused .epoch FS.EPOCH s t) ∧
  (s.schedState e = 1 → s.epoch + 400 ≤ s.schedTime e →
    ∃ t, exec (.schedDisarm i e) s = .next t ∧ t.schedState e = 0 ∧ Keeps [F.SCHED_CTRL_STATE e] [] s t) ∧
  (s.schedState e = 1 → s.schedTime e < s.epoch + 400 →
    ∃ t, exec (.schedDisarm i e) s = .next t ∧ t.schedState e = 1 ∧ t.ep.late.get e = true ∧ Keeps [] [.ep] s t)

/-- Launches that touch what one register or list holds (R103, R105, R121, R140): NONE only marks; WINDOW triggers every enabled group whose source is
the entry; GPIO_SET drives the named outputs; IRQ makes source 1 of the named pairs pending; STREAM_MARK marks the named channels. What follows a
launch is `followsLaunch`. An entry that is not due does nothing.
Scheduled actions on other blocks (R103, R105, Table EPOCH-3): PWM_START starts the named units that no stop of the same tick names; PWM_STOP stops them; PWM_COMMIT commits
them; METER_LATCH notes a latch in the cycle in progress; RELAY_CMD opens or asks for a close; MAINT_START requests an activity, and where no
request of the same tick goes before it (R457) its outcome stands in DIAG_MAINT_LAST. What follows a launch is `followsLaunch`.
Where the spec leaves the reading open it states the model's, as log rows 36 and 37 give. The clauses in which a command changes nothing
because its condition does not hold state the model's choice (log row 15). -/
def Obligations.ScheduledActions : Prop :=
  (∀ (s : State) (e : Fin 32),
    (s.schedDue e 0 = true → ∃ t, exec (.schedNone e) s = .next t ∧ s.followsLaunch t e ∧ Keeps (schedFlds e) [.ep] s t) ∧
    (s.schedDue e 1 = true → ∃ t, exec (.schedWindow e) s = .next t ∧ s.followsLaunch t e ∧
      (∀ g : Fin 4, s.get (F.SENSP_WG_CFG_TRIG_SRC g) = 5 → s.get (F.SENSP_WG_CFG_TRIG_UNIT g) = e → s.flag (F.SENSP_WG_CTRL_EN g) = true →
        (s.sens.wg.get g).enTick ≤ s.schedTime e → (t.sens.wg.get g).pend = (s.sens.wg.get g).pend ++ [s.triggered g (s.schedTime e)]) ∧
      Keeps (schedFlds e) [.ep, .sens] s t) ∧
    (s.schedDue e 8 = true → ∃ t, exec (.schedGpioSet e) s = .next t ∧ s.followsLaunch t e ∧
      (∀ k : Fin 8, t.get ⟨R.SYS_GPIO_OUT, k, 1⟩ =
        if bitOf (s.schedTarget e) k then b2n (bitOf (s.schedParam e) k) else s.get ⟨R.SYS_GPIO_OUT, k, 1⟩) ∧
      Keeps (schedFlds e ++ [⟨R.SYS_GPIO_OUT, 0, 8⟩]) [.ep] s t) ∧
    (s.schedDue e 9 = true → ∃ t, exec (.schedIrq e) s = .next t ∧ s.followsLaunch t e ∧
      (∀ q : Fin 2, bitOf (s.schedTarget e) q = true → t.get (F.HIC_SRC_PENDING q 1) = 1) ∧
      Keeps (schedFlds e ++ [F.HIC_SRC_PENDING 0 1, F.HIC_SRC_PENDING 1 1]) [.ep] s t) ∧
    (s.schedDue e 10 = true → ∃ t, exec (.schedStreamMark e) s = .next t ∧ s.followsLaunch t e ∧
      (∀ k : Fin 16, bitOf (s.schedTarget e) k = true → (t.sens.ch.get k).marks = (s.sens.ch.get k).marks ++ [s.schedTime e]) ∧
      Keeps (schedFlds e) [.ep, .sens] s t) ∧
    (s.schedDue e 0 = false → exec (.schedNone e) s = .next s) ∧ (s.schedDue e 1 = false → exec (.schedWindow e) s = .next s) ∧
    (s.schedDue e 8 = false → exec (.schedGpioSet e) s = .next s) ∧ (s.schedDue e 9 = false → exec (.schedIrq e) s = .next s) ∧
    (s.schedDue e 10 = false → exec (.schedStreamMark e) s = .next s)) ∧
  (∀ (s : State) (e : Fin 32),
    (s.schedDue e 2 = true → ∃ t, exec (.schedPwmStart e) s = .next t ∧ s.followsLaunch t e ∧
      (∀ u : Fin 14, bitOf (s.schedTarget e) u = true → bitOf (s.schedStops (s.schedTime e)) u = false → s.ep.stopAt.get u ≠ s.schedTime e + 1 →
        s.ep.stopAt.get u ≠ s.epoch + 1 → s.startRefused u = false → t.pwmState u = 1 ∧ (t.pwm.get u).start = s.epoch) ∧
      (∀ u : Fin 14, (bitOf (s.schedTarget e) u = false ∨ bitOf (s.schedStops (s.schedTime e)) u = true) → t.pwmState u = s.pwmState u) ∧
      KeepsOutside [zone R.EPOCH_CTRL, zone (R.PWM_CTRL 0), zone (R.LP_CTRL 0)] [.shadow, .raised, .ep, .pwm, .sens, .wcmp] s t) ∧
    (s.schedDue e 3 = true → ∃ t, exec (.schedPwmStop e) s = .next t ∧ s.followsLaunch t e ∧
      (∀ u : Fin 14, bitOf (s.schedTarget e) u = true → s.pwmState u ≠ 3 → t.pwmState u = 0) ∧
      (∀ u : Fin 14, bitOf (s.schedTarget e) u = false → t.pwmState u = s.pwmState u) ∧
      KeepsOutside [zone R.EPOCH_CTRL, zone (R.PWM_CTRL 0), zone R.DRV_STATUS, zone R.DIAG_MAINT_REQ] [.mem, .shadow, .ep, .pwm, .drive, .diag] s t) ∧
    (s.schedDue e 4 = true → ∃ t, exec (.schedPwmCommit e) s = .next t ∧ s.followsLaunch t e ∧
      (∀ u : Fin 14, bitOf (s.schedTarget e) u = true → s.unitPair u = none → s.pwmState u = 1 → (s.pwm.get u).commit = false →
        (t.pwm.get u).commit = true ∧ t.get (F.PWM_STATUS_COMMIT_PENDING u) = 1) ∧
      KeepsOutside [zone R.EPOCH_CTRL, zone (R.PWM_CTRL 0), zone (R.LP_CTRL 0)] [.raised, .ep, .pwm] s t) ∧
    (s.schedDue e 5 = true → ∃ t, exec (.schedMeterLatch e) s = .next t ∧ s.followsLaunch t e ∧
      t.meter.sched = (if s.meterRun then s.meter.sched ++ [s.schedTime e] else s.meter.sched) ∧ Keeps (schedFlds e) [.ep, .meter] s t) ∧
    (s.schedDue e 6 = true → ∃ t, exec (.schedRelayCmd e) s = .next t ∧ s.followsLaunch t e ∧
      (s.schedParam e = 0 → t.get F.GRID_TRIP_INFO_CAUSE = 7 ∧ t.get F.GRID_RT_STICKY_TRIPPED = 1 ∧ t.get F.RELAY_STATUS_K1_CMD = 0 ∧
        t.get F.RELAY_STATUS_K2_CMD = 0 ∧ t.raised = s.raised ++ [⟨FS.GRID_TRIP, 0⟩]) ∧
      (s.schedParam e = 1 → s.closeRefusal true (bitsOf (s.schedTarget e) 0 2 == 3) = none → s.formingBlocks = false →
        t.conn = 2 ∧ t.get F.RELAY_STATUS_K1_CMD = 1) ∧
      (s.schedParam e = 1 → bitsOf (s.schedTarget e) 0 2 ≠ 3 → t.get F.RELAY_STICKY_REFUSED = 1 ∧ t.conn = s.conn) ∧
      KeepsOutside [zone R.EPOCH_CTRL, zone R.GRID_CFG, zone R.RELAY_CFG, zone (R.PWM_CTRL 0), zone R.DRV_STATUS, zone R.DIAG_MAINT_REQ,
        zone R.WARDEN_STATUS] [.mem, .shadow, .raised, .draws, .ep, .pwm, .drive, .diag, .grid, .relay, .cour] s t) ∧
    (s.schedDue e 7 = true → ∃ t, exec (.schedMaintStart e) s = .next t ∧ s.followsLaunch t e ∧
      (∀ c, s.schedParam e = c → c < 256 → s.maintAhead (s.schedTime e) c = [] →
        (s.diag.reqAt = some (s.schedTime e) → c ∉ s.diag.reqs) → t.get F.DIAG_MAINT_LAST_CODE = c ∧
        (s.maintRefusal (.sched (if s.ep.byHpb.get e then .hpb else .hpa)) c = none → t.get F.DIAG_MAINT_LAST_RESULT = 1) ∧
        (s.maintRefusal (.sched (if s.ep.byHpb.get e then .hpb else .hpa)) c ≠ none → t.get F.DIAG_MAINT_LAST_RESULT = 2)) ∧
      KeepsOutside [zone R.EPOCH_CTRL, zone R.DIAG_MAINT_REQ, zone R.SENSP_STATUS, zone R.SENSG_STATUS, zone R.WCMPP_STATUS, zone R.WCMPG_STATUS,
        zone R.DRV_STATUS, zone R.LANE_STATUS, zone R.RELAY_CFG] [.mem, .shadow, .ep, .pwm, .sens, .wcmp, .drive, .diag, .relay] s t) ∧
    (s.schedDue e 2 = false → exec (.schedPwmStart e) s = .next s) ∧ (s.schedDue e 3 = false → exec (.schedPwmStop e) s = .next s) ∧
    (s.schedDue e 4 = false → exec (.schedPwmCommit e) s = .next s) ∧ (s.schedDue e 5 = false → exec (.schedMeterLatch e) s = .next s) ∧
    (s.schedDue e 6 = false → exec (.schedRelayCmd e) s = .next s) ∧ (s.schedDue e 7 = false → exec (.schedMaintStart e) s = .next s))

/-! ### Charge-balance sensing (chapter 04) -/

/-- Windows (R121 to R132): the first triggered window opens at its O, with the group's next SEQ, or is skipped while two of its group would be
open; the first open window closes at its C and its members' codes are formed from their bits, rectangular or with the sinc³ weights; the first
closed window is delivered.
Between them nothing happens before its tick. A trigger inside a period reaches the groups whose source it is.
Enabling and disabling a window group (R127 to R129): refused without CAL_VALID on every member, on the grid side without BAR_CAL_DONE, and
while the side is calibrated; else EN is 1 and the enable's tick is noted. Disabling leaves the windows.
That the bits are the command's operand is the model's choice (log row 113), as is that a command whose condition does not hold changes nothing
(log row 15). -/
def Obligations.WindowGroups : Prop :=
  (∀ (s : State) (g : Fin 4),
    (∀ x rest, (s.sens.wg.get g).pend = x :: rest → x.o ≤ s.epoch →
      ((s.sens.wg.get g).opened.filter fun y => decide (x.o < y.close (s.flag (F.SENSP_WG_CFG_WEIGHT g)))).length < 2 →
      ∃ t, exec (.windowOpen g) s = .next t ∧ (t.sens.wg.get g).pend = rest ∧
        (t.sens.wg.get g).opened = (s.sens.wg.get g).opened ++ [⟨x.e, x.o, x.c, (s.sens.wg.get g).seq, (s.sens.wg.get g).lastO⟩] ∧
        (t.sens.wg.get g).seq = ((s.sens.wg.get g).seq + 1) % 65536 ∧ (∀ h, h ≠ (g : Nat) → t.sens.wg.get h = s.sens.wg.get h) ∧
        Keeps [] [.sens] s t) ∧
    (∀ x rest, (s.sens.wg.get g).pend = x :: rest → x.o ≤ s.epoch →
      2 ≤ ((s.sens.wg.get g).opened.filter fun y => decide (x.o < y.close (s.flag (F.SENSP_WG_CFG_WEIGHT g)))).length →
      ∃ t, exec (.windowOpen g) s = .next t ∧ (t.sens.wg.get g).pend = rest ∧ (t.sens.wg.get g).opened = (s.sens.wg.get g).opened ∧
        t.get (F.SENSP_WG_INFO_SKIP_CNT g) = satInc (F.SENSP_WG_INFO_SKIP_CNT g).len (s.get (F.SENSP_WG_INFO_SKIP_CNT g)) ∧
        Keeps [F.SENSP_WG_INFO_SKIP_CNT g, F.SENSP_STICKY_WIN_SKIP, F.SENSG_STICKY_WIN_SKIP] [.sens] s t) ∧
    (∀ x rest, (s.sens.wg.get g).pend = x :: rest → s.epoch < x.o → exec (.windowOpen g) s = .next s) ∧
    (∀ w rest bits, (s.sens.wg.get g).opened = w :: rest → w.close (s.flag (F.SENSP_WG_CFG_WEIGHT g)) ≤ s.epoch →
      ∃ t r, exec (.windowClose g bits) s = .next t ∧ (t.sens.wg.get g).opened = rest ∧
        (t.sens.wg.get g).closed = (s.sens.wg.get g).closed ++ [r] ∧ r.c = w.close (s.flag (F.SENSP_WG_CFG_WEIGHT g)) ∧ r.len = r.c - w.o ∧
        r.seq = w.seq ∧ r.recs.map (·.ch) = s.wgMembers g ∧
        (∀ q ∈ r.recs, s.flag (F.SENSP_WG_CFG_WEIGHT g) = false →
          q.code = codeBits q.ch (s.codeOf q.ch ((s.tickSum q.ch w.o r.len (fun _ => 1) (bits.getD q.ch 0) : Rat) / (r.len : Rat))).1) ∧
        (∀ q ∈ r.recs, s.flag (F.SENSP_WG_CFG_WEIGHT g) = true →
          q.code = codeBits q.ch (s.codeOf q.ch ((s.tickSum q.ch w.o r.len (sincW (r.len / 3)) (bits.getD q.ch 0) : Rat) /
            (((r.len / 3) ^ 3 : Nat) : Rat))).1) ∧
        Keeps [] [.sens, .diag] s t) ∧
    (∀ r rest, (s.sens.wg.get g).closed = r :: rest → ∃ t, exec (.windowDeliver g) s = .next t ∧ (t.sens.wg.get g).closed = rest ∧
      KeepsOutside [zone R.SENSP_STATUS, zone R.SENSG_STATUS, zone (R.LP_CTRL 0)] [.mem, .sens, .loop] s t ∧
      ((∀ q ∈ r.recs, q.ch < 26) → t.get (F.SENSP_WG_STATUS_SEQ g) = r.seq % 65536 ∧
        ∀ a, (∀ p : Fin 6, a < tcmBase p + 0xFE00 ∨ tcmBase p + 0x10000 ≤ a) → (a < spBase + 0xFE00 ∨ spBase + 0x10000 ≤ a) →
          t.rdB a = s.rdB a)) ∧
    (∀ (u : Fin 14) (k : Fin 3) (e : Nat), (s.pwm.get u).counting = true → s.pwmState u ≠ 2 → bitOf (s.pwm.get u).trig k = false →
      (s.pwm.get u).n0 ≤ (if k = 0 then s.get (F.PWM_PERIOD u) / 2 else if k = 1 then s.get (F.PWM_CMPA u) else s.get (F.PWM_CMPB u)) →
      e = (s.pwm.get u).start + offOf (s.pwm.get u).n0 (s.pwm.get u).hold
        (if k = 0 then s.get (F.PWM_PERIOD u) / 2 else if k = 1 then s.get (F.PWM_CMPA u) else s.get (F.PWM_CMPB u)) →
      e < (s.pwm.get u).next → e ≤ s.epoch →
      ∃ t, exec (.centreCmpTrigger u k) s = .next t ∧ (t.pwm.get u).trig = (s.pwm.get u).trig + 2 ^ (k : Nat) ∧
        (s.get (F.SENSP_WG_CFG_TRIG_SRC g) = 2 + k → s.get (F.SENSP_WG_CFG_TRIG_UNIT g) = u → s.flag (F.SENSP_WG_CTRL_EN g) = true →
          (s.sens.wg.get g).enTick ≤ e → (t.sens.wg.get g).pend = (s.sens.wg.get g).pend ++ [s.triggered g e]) ∧
        Keeps [] [.pwm, .sens] s t)) ∧
  (∀ (s : State) (i : Initiator) (g : Fin 4),
    (s.flag (F.SENSP_WG_CTRL_EN g) = false → (∀ k ∈ s.wgMembers g, s.flag (calValidF k) = true) →
      (s.wgGrid g = true → s.flag F.EPOCH_STATUS_BAR_CAL_DONE = true) → s.flag (calBusyF (s.wgGrid g)) = false →
      ∃ t, exec (.wgEnable i g) s = .next t ∧ t.get (F.SENSP_WG_CTRL_EN g) = 1 ∧ t.rd (R.SENSP_WG_EN_TICK g) = BitVec.ofNat 32 s.epoch ∧
        (t.sens.wg.get g).enTick = s.epoch ∧ (t.sens.wg.get g).seq = 0 ∧
        Keeps [F.SENSP_WG_CTRL_EN g, whole (R.SENSP_WG_EN_TICK g)] [.sens] s t) ∧
    (s.flag (F.SENSP_WG_CTRL_EN g) = false → ((∃ k ∈ s.wgMembers g, s.flag (calValidF k) = false) ∨
        (s.wgGrid g = true ∧ s.flag F.EPOCH_STATUS_BAR_CAL_DONE = false) ∨ s.flag (calBusyF (s.wgGrid g)) = true) →
      ∃ t, exec (.wgEnable i g) s = .next t ∧ Refused .sensp FS.SENS_CFG s t) ∧
    (∃ t, exec (.wgDisable i g) s = .next t ∧ t.get (F.SENSP_WG_CTRL_EN g) = 0 ∧ Keeps [F.SENSP_WG_CTRL_EN g] [] s t))

/-- Streams and rings (R135, R137, R138, R141 to R143): an enabled ring starts empty with RING_WR 0; a fixed-rate sample at its instant makes one entry,
with the code of its sinc³ sum over the 3 P ticks before it, and sets the next instant P ticks on; a line-locked sample at the end of its sub-interval
makes one; the oldest entry is written at RING_BASE + 4 (RING_WR mod size) and RING_WR advances. Disabling drops what waits. A ring that an engine claims
is refused to both.
Line cycles (R146 to R149): an announcement in time makes its cycle complete-to-be, and the ticks since the last complete cycle count as a gap; one late
sets LC_LATE; at the boundary the integral of every channel that ran continuously closes; its record reaches the channel's registers.
Where the spec leaves the reading open it states the model's, as log rows 32, 61 and 113 give. -/
def Obligations.RingsAndLineCycles : Prop :=
  (∀ (s : State) (i : Initiator) (k : Fin 26),
    ((s.sens.ch.get k).claim = 0 → s.ringOn k = false → s.ringRefused k = false →
      ∃ t, exec (.ringEnable i k) s = .next t ∧ t.get (F.CH_RING_CTRL_EN k) = 1 ∧ t.rd (R.CH_RING_WR k) = 0#32 ∧
        (t.sens.ch.get k).entries = [] ∧ (t.sens.ch.get k).samples = 0 ∧
        Keeps [F.CH_RING_CTRL_EN k, whole (R.CH_RING_WR k)] [.sens] s t) ∧
    ((s.sens.ch.get k).claim = 0 → s.ringOn k = false → s.ringRefused k = true →
      ∃ t, exec (.ringEnable i k) s = .next t ∧ Refused (sideBlk (chGrid k)) FS.SENS_CFG s t) ∧
    ((s.sens.ch.get k).claim ≠ 0 → exec (.ringEnable i k) s = exec (.ringDisable i k) s ∧
      ∃ t, exec (.ringDisable i k) s = .next t ∧ Refused (sideBlk (chGrid k)) FS.SENS_CFG s t) ∧
    ((s.sens.ch.get k).claim = 0 → ∃ t, exec (.ringDisable i k) s = .next t ∧ t.get (F.CH_RING_CTRL_EN k) = 0 ∧
      (t.sens.ch.get k).entries = [] ∧ Keeps [F.CH_RING_CTRL_EN k] [.sens] s t) ∧
    (∀ bits p n, s.ringOn k = true → s.chContinuous k = true → 2 ≤ s.get (F.CH_CFG_STREAM k) → s.get (F.CH_CFG_STREAM k) ≤ 7 →
      p = streamP (s.get (F.CH_CFG_STREAM k)) → n = (s.sens.ch.get k).nextT → n ≤ s.epoch →
      ∃ t e, exec (.streamSample k bits) s = .next t ∧ (t.sens.ch.get k).entries = (s.sens.ch.get k).entries ++ [e] ∧
        bitsOf e.toNat 0 16 = codeBits k (s.codeOf k ((s.tickSum k (n - 3 * p) (3 * p) (sincW p) bits : Rat) / ((p ^ 3 : Nat) : Rat))).1 ∧
        bitsOf e.toNat 20 8 = (s.sens.ch.get k).samples % 256 ∧
        (t.sens.ch.get k).samples = (s.sens.ch.get k).samples + 1 ∧ (t.sens.ch.get k).nextT = n + p ∧ Keeps [] [.sens] s t) ∧
    (∀ bits a b j, s.ringOn k = true → s.chContinuous k = true → s.get (F.CH_CFG_STREAM k) = 1 → s.lineNext k = some (a, b, j) →
      subStart a b (j + 1) ≤ s.epoch →
      ∃ t e, exec (.streamSample k bits) s = .next t ∧ (t.sens.ch.get k).entries = (s.sens.ch.get k).entries ++ [e] ∧
        bitsOf e.toNat 20 8 = j % 256 ∧ (t.sens.ch.get k).llStart = a ∧ (t.sens.ch.get k).llEnd = b ∧ (t.sens.ch.get k).llNext = j + 1 ∧
        Keeps [] [.sens] s t) ∧
    (∀ e rest, (s.sens.ch.get k).entries = e :: rest → ∃ t, exec (.streamRingWrite k) s = .next t ∧ (t.sens.ch.get k).entries = rest ∧
      t.rd (R.CH_RING_WR k) = s.rd (R.CH_RING_WR k) + 1#32 ∧
      t.rdW ((s.rd (R.CH_RING_BASE k)).toNat + 4 * ((s.rd (R.CH_RING_WR k)).toNat % 2 ^ s.get (F.CH_RING_CTRL_SIZE_LOG2 k))) = e ∧
      (∀ a, (∀ j, j < 4 → memHome a ≠ memHome ((s.rd (R.CH_RING_BASE k)).toNat +
          4 * ((s.rd (R.CH_RING_WR k)).toNat % 2 ^ s.get (F.CH_RING_CTRL_SIZE_LOG2 k)) + j)) → t.rdB a = s.rdB a) ∧
      Keeps [whole (R.CH_RING_WR k), F.CH_STATUS_STREAM_OVF k, F.SENSP_STICKY_STREAM_OVF, F.SENSG_STICKY_STREAM_OVF] [.sens, .mem] s t)) ∧
  (∀ (s : State) (grid : Bool),
    (∀ ci cn rest, (s.sens.side.get (b2n grid)).ann = ⟨some ci, cn⟩ :: rest → s.pdOn (sidePd grid) = true → s.epoch ≤ ci + 64 →
      ∃ t, exec (.lcAnnounceReceive grid) s = .next t ∧ (t.sens.side.get (b2n grid)).ann = rest ∧
        (t.sens.side.get (b2n grid)).opened = (s.sens.side.get (b2n grid)).opened ++ [(ci, cn)] ∧
        (t.sens.side.get (b2n grid)).gapFrom = cn ∧
        (t.rd (if grid then R.SENSG_LC_GAP else R.SENSP_LC_GAP)).toNat =
          min ((s.rd (if grid then R.SENSG_LC_GAP else R.SENSP_LC_GAP)).toNat + (ci - (s.sens.side.get (b2n grid)).gapFrom)) 0xFFFFFFFF ∧
        Keeps [whole (if grid then R.SENSG_LC_GAP else R.SENSP_LC_GAP)] [.sens] s t) ∧
    (∀ ci cn rest, (s.sens.side.get (b2n grid)).ann = ⟨some ci, cn⟩ :: rest → s.pdOn (sidePd grid) = true → ci + 64 < s.epoch →
      ∃ t, exec (.lcAnnounceReceive grid) s = .next t ∧ (t.sens.side.get (b2n grid)).ann = rest ∧
        (t.sens.side.get (b2n grid)).opened = (s.sens.side.get (b2n grid)).opened ∧
        t.get (if grid then F.SENSG_STICKY_LC_LATE else F.SENSP_STICKY_LC_LATE) = 1 ∧
        Keeps [if grid then F.SENSG_STICKY_LC_LATE else F.SENSP_STICKY_LC_LATE] [.sens] s t) ∧
    (∀ a b rest bits, (s.sens.side.get (b2n grid)).opened = (a, b) :: rest → b ≤ s.epoch →
      ∃ t, exec (.lcCycleEnd grid bits) s = .next t ∧ (t.sens.side.get (b2n grid)).opened = rest ∧
        (∀ k : Fin 26, (k : Nat) ∈ sideChs grid → (k : Nat) ≠ 15 → s.chContinuous k = true → (s.sens.ch.get k).contFrom ≤ a →
          ∃ r, (t.sens.ch.get k).lcRec = some r ∧ r.count = s.tickSum k a (b - a) (fun _ => 1) (bits.getD k 0) ∧ r.len = b - a ∧
            r.start = a % 2 ^ 32) ∧
        (grid = false → t.meter = s.meter) ∧ Keeps [] [.sens, .meter] s t) ∧
    (∃ t, exec (.lcRecordDeliver grid) s = .next t ∧ (∀ k : Fin 26, (k : Nat) ∈ sideChs grid → (t.sens.ch.get k).lcRec = none) ∧
      (∀ (k : Fin 26) (r : LcRec), (k : Nat) ∈ sideChs grid → (s.sens.ch.get k).lcRec = some r →
        t.rd (R.CH_LC_COUNT k) = BitVec.ofInt 32 r.count ∧ t.rd (R.CH_LC_LEN k) = BitVec.ofNat 32 r.len) ∧
      (∀ a, (∀ p : Fin 6, a < tcmBase p + 0xFC00 ∨ tcmBase p + 0xFDA0 ≤ a) → (a < spBase + 0xFC00 ∨ spBase + 0xFDA0 ≤ a) → t.rdB a = s.rdB a) ∧
      KeepsOutside [zone R.SENSP_STATUS, zone R.SENSG_STATUS, zone R.GRID_CFG] [.mem, .sens, .raised] s t))

/-- Overloads and ranges (R150, R152, R160): the first trip of a powered modulator marks the channel, disturbs the other powered channels of its quad and
raises the side's source; a trip that comes no more than 80 ticks after a release, which lies 80 ticks after the last trip, goes on with the same overload.
A RANGE write that takes effect clears CAL_VALID.
The monitor scan, the GRD die's temperature and the side calibration (R154, R155, R157 to R159): a dwell's value goes to its source's register and the scan
moves on; two temperatures in a row above 140 C raise TEMP_HIGH; a calibration passes its stages, after the third stores the factors of the channels that
pass, and at its end CAL_VALID names these, with CAL_FAIL where one did not.
Where the spec leaves the reading open it states the model's, as log rows 12, 38 and 113 give. -/
def Obligations.OverloadsMonitorAndCalibration : Prop :=
  (∀ (s : State) (k : Fin 26),
    (∀ pos, s.chPowered k = true → ((s.sens.ch.get k).ovl = [] ∨ (s.sens.ch.get k).lastTrip + 160 < s.epoch) →
      ∃ t, exec (.modOverloadTrip k pos) s = .next t ∧ t.get (ovrF k) = 1 ∧
        t.raised = s.raised ++ [⟨if chGrid k then FS.SENS_OVERRANGE_G else FS.SENS_OVERRANGE_P, 0⟩] ∧
        (∀ j : Fin 26, j ≠ k → chGrid j = chGrid k → quadOf j = quadOf k → s.chPowered j = true → t.get (refDistF j) = 1) ∧
        (t.sens.ch.get k).lastTrip = s.epoch ∧
        Keeps ([ovrF k, F.SENSP_STICKY_OVR, F.SENSG_STICKY_OVR, ⟨R.SENSP_REFDIST, 0, 16⟩, ⟨R.SENSG_REFDIST, 0, 10⟩]) [.sens, .raised] s t) ∧
    (∀ pos v rest, s.chPowered k = true → (s.sens.ch.get k).ovl = v :: rest → s.epoch ≤ (s.sens.ch.get k).lastTrip + 160 →
      ∃ t w, exec (.modOverloadTrip k pos) s = .next t ∧ (t.sens.ch.get k).lastTrip = s.epoch ∧ (t.sens.ch.get k).ovl = w :: rest ∧
        w.s = v.s ∧ w.e = none ∧ (w.signs.head?.map (·.2)) = some pos ∧ Keeps [] [.sens] s t) ∧
    (∀ v rest, (s.sens.ch.get k).ovl = v :: rest → v.e = none → (s.sens.ch.get k).lastTrip + 80 ≤ s.epoch →
      ∃ t, exec (.modOverloadRelease k) s = .next t ∧
        (t.sens.ch.get k).ovl = { v with e := some ((s.sens.ch.get k).lastTrip + 80) } :: rest ∧ Keeps [] [.sens] s t) ∧
    (∀ i v, s.get (F.CH_CFG_RANGE k) ≠ bitsOf v.toNat 0 2 → s.adjust (F.CH_CFG_RANGE k) (bitsOf v.toNat 0 2) = .ok → s.chIdle k = true →
      s.rangeBad k (bitsOf v.toNat 0 2) = false →
      ∃ t, exec (.chRangeWrite i k v) s = .next t ∧ t.get (F.CH_CFG_RANGE k) = bitsOf v.toNat 0 2 ∧ t.get (calValidF k) = 0 ∧
        Keeps [F.CH_CFG_RANGE k, calValidF k] [.sens] s t) ∧
    (∀ i v, s.get (F.CH_CFG_RANGE k) = bitsOf v.toNat 0 2 → s.adjust (F.CH_CFG_RANGE k) (bitsOf v.toNat 0 2) = .ok → s.chIdle k = true →
      s.rangeBad k (bitsOf v.toNat 0 2) = false → exec (.chRangeWrite i k v) s = .next s) ∧
    (∀ i v, s.adjust (F.CH_CFG_RANGE k) (bitsOf v.toNat 0 2) = .ok →
      (s.chIdle k = false ∨ s.rangeBad k (bitsOf v.toNat 0 2) = true) →
      ∃ t, exec (.chRangeWrite i k v) s = .next t ∧ Refused (sideBlk (chGrid k)) FS.SENS_CFG s t)) ∧
  (∀ s : State,
    (∀ v, s.pdOn 8 = true → bitOf (bitsOf (s.rd R.SENSP_MON_MASK).toNat 0 6) s.sens.monSrc = true → s.sens.monStart + 51200 ≤ s.mono →
      ∃ t, exec (.monitorDwellEnd v) s = .next t ∧ t.get (F.SENSP_MON_VAL s.sens.monSrc) = v.toNat ∧
        t.sens.monSrc = nextSource (bitsOf (s.rd R.SENSP_MON_MASK).toNat 0 6) s.sens.monSrc ∧ t.sens.monStart = s.mono ∧
        Keeps [F.SENSP_MON_VAL s.sens.monSrc, F.SENSP_MON_CNT s.sens.monSrc] [.sens, .raised] s t) ∧
    (∀ v, s.pdOn 10 = true → s.sens.tempNext ≤ s.mono →
      ∃ t, exec (.grdTempSample v) s = .next t ∧ t.get F.SENSG_DIE_TEMP_TEMP = v.toNat ∧ t.sens.tempNext = s.mono + 800000 ∧
        (2240 < v.toInt → s.sens.hot.get 2 = true → t.raised = s.raised ++ [⟨FS.TEMP_HIGH, 2⟩]) ∧
        (v.toInt ≤ 2240 → t.raised = s.raised) ∧
        Keeps [F.SENSG_DIE_TEMP_TEMP, F.SENSG_DIE_TEMP_CNT] [.sens, .raised] s t) ∧
    (∀ grid, s.flag (calBusyF grid) = true → (s.sens.side.get (b2n grid)).calStage < 3 →
      (s.sens.side.get (b2n grid)).calStart + calStageAt (s.sens.side.get (b2n grid)).calStage ≤ s.mono →
      ∃ t, exec (.sensCalStage grid) s = .next t ∧
        (t.sens.side.get (b2n grid)).calStage = (s.sens.side.get (b2n grid)).calStage + 1 ∧ Keeps [] [.sens] s t) ∧
    (∀ grid sums, s.flag (calBusyF grid) = true → (s.sens.side.get (b2n grid)).calStage = 3 →
      (s.sens.side.get (b2n grid)).calStart + 1360000 ≤ s.mono → s.mono < (s.sens.side.get (b2n grid)).calStart + 1440000 →
      ∃ t, exec (.sensCalComplete grid sums) s = .next t ∧ (t.sens.side.get (b2n grid)).calStage = 4 ∧ t.get (calBusyF grid) = 1 ∧
        (∀ (k : Fin 26) (z p m : Int), (k : Nat) ∈ calChs grid → sums.getD k (0, 0, 0) = (z, p, m) →
          (calPasses (calOfs z) (calGain k p m) = true → t.getS (F.CH_CAL_OFS_CAL_OFS k) = roundAway (calOfs z) ∧
            (t.get (F.CH_CAL_GAIN_CAL_GAIN k) : Int) = roundAway (calGain k p m * 524288) ∧
            (k : Nat) ∈ (t.sens.side.get (b2n grid)).passed) ∧
          (calPasses (calOfs z) (calGain k p m) = false → t.get (calValidF k) = 0 ∧ t.get (F.CH_CAL_OFS_CAL_OFS k) = 0 ∧
            t.get (F.CH_CAL_GAIN_CAL_GAIN k) = 0x80000 ∧ (k : Nat) ∉ (t.sens.side.get (b2n grid)).passed)) ∧
        KeepsOutside [zone R.SENSP_STATUS, zone R.SENSG_STATUS] [.sens] s t) ∧
    (∀ grid sums, s.flag (calBusyF grid) = true → (s.sens.side.get (b2n grid)).calStage = 3 →
      (s.sens.side.get (b2n grid)).calStart + 1440000 ≤ s.mono →
      exec (.sensCalComplete grid sums) s = exec (.sensCalComplete grid sums) (s.calFactorsStore grid sums)) ∧
    (∀ grid sums, s.flag (calBusyF grid) = true → (s.sens.side.get (b2n grid)).calStage = 4 →
      (s.sens.side.get (b2n grid)).calStart + 1440000 ≤ s.mono →
      ∃ t, exec (.sensCalComplete grid sums) s = .next t ∧ (s.start.late ≠ 1 → t.get (calBusyF grid) = 0) ∧
        (∀ k : Fin 26, (k : Nat) ∈ calChs grid → t.flag (calValidF k) = (s.sens.side.get (b2n grid)).passed.contains k) ∧
        (∀ k : Fin 26, (k : Nat) ∈ calChs grid → t.flag (calValidF k) = false →
          t.get (if grid then F.SENSG_STICKY_CAL_FAIL else F.SENSP_STICKY_CAL_FAIL) = 1) ∧
        KeepsOutside [zone R.SENSP_STATUS, zone R.SENSG_STATUS, zone R.DIAG_MAINT_REQ, zone R.WCMPP_STATUS, zone R.WCMPG_STATUS, zone R.DRV_STATUS,
          zone R.LANE_STATUS, zone R.SYS_ID] [.raised, .sens, .wcmp, .drive, .pwm, .diag, .relay, .start] s t ∧
        (s.start.late = 0 → KeepsOutside [zone R.SENSP_STATUS, zone R.SENSG_STATUS, zone R.DIAG_MAINT_REQ] [.raised] s t)))

/-! ### Window comparators (chapter 05) -/

/-- A crossing (R170, R172): a READY or TRIPPED comparator whose input lies beyond a threshold is TRIPPED, with the side, the tick and the count, and
its source is raised; a pending one counts anew; a comparator under test records nothing, and its outputs follow its tie or swap (R182, Table WCMP-3).
The new thresholds of R169 govern from the next comparison: an output that they set is a crossing, and an input that stays beyond makes none.
Where the spec leaves the reading open it states the model's, as log row 40 gives. -/
def Obligations.ComparatorCrossings : Prop :=
  ∀ (s : State) (c : Fin 24) (x : Rat),
  (s.wcPowered c = true → s.wcState c < 2 → s.wcHi c < x →
    ∃ t, exec (.wcCrossing c x) s = .next t ∧ t.wcState c = 1 ∧ t.get (F.WC_STATUS_SIDE c) = 1 ∧
      t.rd (R.WC_TRIP_TICK c) = BitVec.ofNat 32 s.epoch ∧
      t.get (F.WC_STATUS_TRIP_CNT c) = satInc (F.WC_STATUS_TRIP_CNT c).len (s.get (F.WC_STATUS_TRIP_CNT c)) ∧
      t.raised = s.raised ++ [⟨FS.WCMP_TRIP c, 0⟩] ∧
      KeepsOutside [zone R.WCMPP_STATUS, zone R.WCMPG_STATUS, zone R.DRV_STATUS, zone R.LANE_STATUS]
        [.raised, .wcmp, .drive, .pwm, .diag, .relay] s t) ∧
  (s.wcPowered c = true → s.wcState c < 2 → s.wcLo c ≤ s.wcHi c → x < s.wcLo c →
    ∃ t, exec (.wcCrossing c x) s = .next t ∧ t.wcState c = 1 ∧ t.get (F.WC_STATUS_SIDE c) = 0 ∧
      t.raised = s.raised ++ [⟨FS.WCMP_TRIP c, 0⟩] ∧
      KeepsOutside [zone R.WCMPP_STATUS, zone R.WCMPG_STATUS, zone R.DRV_STATUS, zone R.LANE_STATUS]
        [.raised, .wcmp, .drive, .pwm, .diag, .relay] s t) ∧
  (s.wcPowered c = true → s.wcState c = 2 → s.wcHi c < x →
    ∃ t, exec (.wcCrossing c x) s = .next t ∧ t.wcState c = 2 ∧ (t.wcmp.wc.get c).pendFrom = none ∧
      Keeps [F.WC_STATUS_OUT_HI c, F.WC_STATUS_OUT_LO c, F.WC_STATUS_HYST_HOLD c] [.wcmp, .relay] s t) ∧
  (∀ y : Rat, s.wcPowered c = true → s.wcState c = 3 →
    y = (if (s.wcmp.wc.get c).testStep < 2 then 256 else if (s.wcmp.wc.get c).testStep < 4 then 768 else 1024 - x) →
    ∃ t, exec (.wcCrossing c x) s = .next t ∧ t.wcState c = 3 ∧ t.get (F.WC_STATUS_OUT_HI c) = b2n (decide (s.wcHi c < y)) ∧
      t.get (F.WC_STATUS_OUT_LO c) = b2n (decide (y < s.wcLo c)) ∧
      Keeps [F.WC_STATUS_OUT_HI c, F.WC_STATUS_OUT_LO c] [.wcmp, .relay] s t) ∧
  (s.shadowed (F.WC_THR_HI c) = true →
    ∃ t, exec (.wcThrApply c x) s = .next t ∧ t.get (F.WC_THR_HI c) = s.shadowGet (F.WC_THR_HI c) ∧
      t.get (F.WC_THR_LO c) = s.shadowGet (F.WC_THR_LO c) ∧
      (s.wcState c < 2 → ((s.shadowGet (F.WC_THR_HI c) : Nat) : Rat) < x → s.flag (F.WC_STATUS_OUT_HI c) = false →
        t.wcState c = 1 ∧ t.get (F.WC_STATUS_SIDE c) = 1 ∧ t.raised = s.raised ++ [⟨FS.WCMP_TRIP c, 0⟩]) ∧
      (s.wcState c < 2 → ((s.shadowGet (F.WC_THR_HI c) : Nat) : Rat) < x → s.flag (F.WC_STATUS_OUT_HI c) = true →
        s.shadowGet (F.WC_THR_LO c) ≤ s.shadowGet (F.WC_THR_HI c) → t.wcState c = s.wcState c ∧ t.raised = s.raised) ∧
      (2 ≤ s.wcState c → Keeps [F.WC_THR_HI c, F.WC_THR_LO c, F.WC_STATUS_OUT_HI c, F.WC_STATUS_OUT_LO c, F.WC_STATUS_HYST_HOLD c]
        [.shadow, .wcmp, .relay] s t) ∧
      KeepsOutside [zone R.WCMPP_STATUS, zone R.WCMPG_STATUS, zone R.DRV_STATUS, zone R.LANE_STATUS]
        [.shadow, .raised, .wcmp, .drive, .pwm, .diag, .relay] s t)

/-- Thresholds and clears (R36, R37, R169, R174 to R178): LO and HI are judged together and wait in the shadow, and HI not above LO is refused; a clear by
software waits for the first comparison, which releases a ready comparator with no crossing latched at or after the clear and otherwise leaves it with
CLR_REFUSED; a pending one is READY 150 ticks after the first of a run of comparisons inside.
The self-test (R180 to R182): the comparator first in the queue takes one step after another; a TIE step whose outputs are not the ones expected fails;
after the last step it is TRIP_PENDING and the next comparator is under test.
Where the spec leaves the reading open it states the model's, as log rows 22 and 40 give. -/
def Obligations.ComparatorClearsAndSelfTest : Prop :=
  (∀ (s : State) (c : Fin 24),
    (∀ i v, s.adjust (F.WC_THR_HI c) (bitsOf v.toNat 16 10) = .ok → s.adjust (F.WC_THR_LO c) (bitsOf v.toNat 0 10) = .ok →
      bitsOf v.toNat 0 10 < bitsOf v.toNat 16 10 →
      ∃ t, exec (.wcThrWrite i c v) s = .next t ∧ t.shadowGet (F.WC_THR_HI c) = bitsOf v.toNat 16 10 ∧
        t.shadowGet (F.WC_THR_LO c) = bitsOf v.toNat 0 10 ∧ Keeps [] [.shadow] s t) ∧
    (∀ i v, (s.adjust (F.WC_THR_HI c) (bitsOf v.toNat 16 10) = .outside ∨ s.adjust (F.WC_THR_LO c) (bitsOf v.toNat 0 10) = .outside ∨
        (s.adjust (F.WC_THR_HI c) (bitsOf v.toNat 16 10) = .ok ∧ s.adjust (F.WC_THR_LO c) (bitsOf v.toNat 0 10) = .ok ∧
          bitsOf v.toNat 16 10 ≤ bitsOf v.toNat 0 10)) →
      ∃ t, exec (.wcThrWrite i c v) s = .next t ∧ Refused (wcBlk c) FS.WCMP_CFG s t) ∧
    (∀ i (v : Word), v = BitVec.ofNat 32 (2 ^ (if c < 14 then (c : Nat) else c - 14)) →
      (s.get (F.WC_CFG_CLEAR_MODE c) ≠ 1 ∨ s.clearUnit c = none) → s.wcState c = 1 →
      ∃ t, exec (.wcSoftwareClear i (wcGrid c) v) s = .next t ∧ (t.wcmp.wc.get c).softClear = some s.epoch ∧ t.wcState c = 1 ∧
        ((s.wcmp.wc.get c).softClear = none → Keeps [] [.wcmp] s t) ∧
        Keeps [if wcGrid c then F.WCMPG_STICKY_CLR_REFUSED else F.WCMPP_STICKY_CLR_REFUSED] [.wcmp] s t) ∧
    (∀ i (v : Word), v = BitVec.ofNat 32 (2 ^ (if c < 14 then (c : Nat) else c - 14)) → s.get (F.WC_CFG_CLEAR_MODE c) = 1 →
      (s.clearUnit c).isSome = true →
      ∃ t, exec (.wcSoftwareClear i (wcGrid c) v) s = .next t ∧
        t.get (if wcGrid c then F.WCMPG_STICKY_CLR_REFUSED else F.WCMPP_STICKY_CLR_REFUSED) = 1 ∧
        Keeps [if wcGrid c then F.WCMPG_STICKY_CLR_REFUSED else F.WCMPP_STICKY_CLR_REFUSED] [] s t) ∧
    (∀ x n, s.wcState c = 1 → (s.wcmp.wc.get c).softClear = some n → (∀ m, (s.wcmp.wc.get c).crossAt = some m → m < n) → s.wcReady c x = true →
      ∃ t, exec (.wcClearDecision c x) s = .next t ∧ t.wcState c = 0 ∧ (t.wcmp.wc.get c).softClear = none ∧
        Keeps [F.WC_STATUS_STATE c, F.WC_STATUS_OUT_HI c, F.WC_STATUS_OUT_LO c] [.wcmp, .relay, .pwm, .diag] s t) ∧
    (∀ x n, s.wcState c = 1 → (s.wcmp.wc.get c).softClear = some n → (s.wcmp.wc.get c).periodClear = none →
      (s.wcReady c x = false ∨ ∃ m, (s.wcmp.wc.get c).crossAt = some m ∧ n ≤ m) →
      ∃ t, exec (.wcClearDecision c x) s = .next t ∧ t.wcState c = 1 ∧ (t.wcmp.wc.get c).softClear = none ∧
        t.get (if wcGrid c then F.WCMPG_STICKY_CLR_REFUSED else F.WCMPP_STICKY_CLR_REFUSED) = 1 ∧
        Keeps [if wcGrid c then F.WCMPG_STICKY_CLR_REFUSED else F.WCMPP_STICKY_CLR_REFUSED, F.WC_STATUS_OUT_HI c, F.WC_STATUS_OUT_LO c]
          [.wcmp, .relay] s t) ∧
    (∀ x n, s.wcState c = 1 → (s.wcmp.wc.get c).softClear = none → (s.wcmp.wc.get c).periodClear = some n →
      ∃ t, exec (.wcClearDecision c x) s = .next t ∧ (t.wcmp.wc.get c).periodClear = none ∧
        ((∀ m, (s.wcmp.wc.get c).crossAt = some m → m < n) → s.wcReady c x = true → t.wcState c = 0) ∧
        (s.wcReady c x = false ∨ (∃ m, (s.wcmp.wc.get c).crossAt = some m ∧ n ≤ m) → t.wcState c = 1) ∧
        Keeps [F.WC_STATUS_STATE c, F.WC_STATUS_OUT_HI c, F.WC_STATUS_OUT_LO c] [.wcmp, .relay, .pwm, .diag] s t) ∧
    (∀ x n, s.wcPowered c = true → s.wcState c = 2 → (s.wcmp.wc.get c).pendFrom = some n → n + 150 ≤ s.mono → s.wcInside c x = true →
      ∃ t, exec (.wcPendingReady c x) s = .next t ∧ t.wcState c = 0 ∧
        Keeps [F.WC_STATUS_STATE c, F.WC_STATUS_OUT_HI c, F.WC_STATUS_OUT_LO c, F.WC_STATUS_HYST_HOLD c] [.wcmp, .relay, .pwm, .diag] s t) ∧
    (∀ x, s.wcPowered c = true → s.wcState c = 2 → s.wcInside c x = false →
      ∃ t, exec (.wcPendingReady c x) s = .next t ∧ t.wcState c = 2 ∧ (t.wcmp.wc.get c).pendFrom = none ∧
        Keeps [F.WC_STATUS_OUT_HI c, F.WC_STATUS_OUT_LO c, F.WC_STATUS_HYST_HOLD c] [.wcmp, .relay] s t)) ∧
  (∀ (s : State) (c : Fin 24) (rest : List Nat), s.wcmp.queue = (c : Nat) :: rest →
    (∀ hi lo, (s.wcmp.wc.get c).testStep = 0 → (s.wcmp.wc.get c).testStart + 160 ≤ s.mono →
      ∃ t, exec (.wcmpTestStep hi lo) s = .next t ∧ (t.wcmp.wc.get c).testStep = 1 ∧ t.get (F.WC_STATUS_OUT_HI c) = b2n hi ∧
        t.get (F.WC_STATUS_OUT_LO c) = b2n lo ∧
        (hi = false → lo = true → t.get (F.WC_TEST_TIE_LO_FAIL c) = 0 ∧
          Keeps [F.WC_TEST_TIE_LO_FAIL c, F.WC_STATUS_OUT_HI c, F.WC_STATUS_OUT_LO c] [.wcmp, .relay] s t) ∧
        ((hi = true ∨ lo = false) → t.get (F.WC_TEST_TIE_LO_FAIL c) = 1 ∧ t.get ⟨R.WCMPP_TEST_FAIL, c, 1⟩ = 1 ∧
          t.raised = s.raised ++ [⟨FS.WCMP_TEST_FAIL, c⟩])) ∧
    (∀ hi lo, s.wcState c = 3 → (s.wcmp.wc.get c).testStep = 1 → (s.wcmp.wc.get c).testStart + 320 ≤ s.mono →
      ∃ t, exec (.wcmpTestStep hi lo) s = .next t ∧ (t.wcmp.wc.get c).testStep = 2 ∧ t.get (F.WC_STATUS_OUT_HI c) = 1 ∧
        t.get (F.WC_STATUS_OUT_LO c) = 0 ∧ Keeps [F.WC_STATUS_OUT_HI c, F.WC_STATUS_OUT_LO c] [.wcmp, .relay] s t) ∧
    (∀ hi lo, (s.wcmp.wc.get c).testStep = 2 → (s.wcmp.wc.get c).testStart + 480 ≤ s.mono →
      ∃ t, exec (.wcmpTestStep hi lo) s = .next t ∧ (t.wcmp.wc.get c).testStep = 3 ∧
        (hi = true → lo = false → t.get (F.WC_TEST_TIE_HI_FAIL c) = 0 ∧
          Keeps [F.WC_TEST_TIE_HI_FAIL c, F.WC_STATUS_OUT_HI c, F.WC_STATUS_OUT_LO c] [.wcmp, .relay] s t) ∧
        ((hi = false ∨ lo = true) → t.get (F.WC_TEST_TIE_HI_FAIL c) = 1 ∧ t.raised = s.raised ++ [⟨FS.WCMP_TEST_FAIL, c⟩])) ∧
    (∀ hi lo, s.start.late = 0 → (s.wcmp.wc.get c).testStep = 5 → (s.wcmp.wc.get c).testStart + 960 ≤ s.mono → (c : Nat) ∉ rest →
      (∀ d ∈ rest, d < 24) →
      ∃ t, exec (.wcmpTestStep hi lo) s = .next t ∧ t.wcState c = 2 ∧ t.wcmp.queue = rest ∧
        (∀ d ds, rest = d :: ds → t.wcState d = 3) ∧
        KeepsOutside [zone R.WCMPP_STATUS, zone R.WCMPG_STATUS, zone R.DRV_STATUS, zone R.LANE_STATUS, zone R.DIAG_MAINT_REQ]
          [.wcmp, .drive, .pwm, .diag, .relay] s t))

/-! ### Loop engines (chapter 06) -/

/-- An execution (R190 to R196, R199, R200, R212, R216): a waiting pair with a group record starts on it towards the first boundary of its PERIOD_UNIT at or
after the next period, with its deadline 80 ticks before, and a set-point that waits takes effect; it commits before the deadline, or is abandoned at it and counted. Then the pair waits where it is
enabled and is IDLE where it is not.
Where the spec leaves the reading open it states the model's, as log rows 2, 41 and 115 give. -/
def Obligations.LoopExecutionsCommitOrAreAbandoned : Prop :=
  ∀ (s : State) (p : Fin 6),
  (∀ r, (s.loop.get p).rcd = some r → s.lpState p = 2 →
    ∃ t, exec (.loopExecStart p) s = .next t ∧ t.lpState p = 3 ∧ t.get (F.LP_STATUS_HELD_REC p) = 0 ∧
      (t.loop.get p).running = true ∧ (t.loop.get p).rcd = none ∧ (t.loop.get p).started = s.epoch ∧
      (t.loop.get p).target = s.boundaryFrom (s.get (F.LP_CFG_PERIOD_UNIT p)) (r.c + r.pc) ∧
      (t.loop.get p).deadline = (t.loop.get p).target - 80 ∧
      t.rd (R.LP_EXEC_CNT p) = BitVec.ofNat 32 (s.loop.get p).seqNext ∧ t.rd (R.LP_TARGET p) = BitVec.ofNat 32 (t.loop.get p).target ∧
      ((t.loop.get p).res.numeric = true → t.get (F.LP_STICKY_NUMERIC p) = 1 ∧ t.raised = s.raised ++ [⟨FS.LOOP_NUMERIC p, 0⟩]) ∧
      ((t.loop.get p).res.numeric = false → t.raised = s.raised) ∧ (∀ q, q ≠ (p : Nat) → t.loop.get q = s.loop.get q) ∧
      Keeps [F.LP_STATUS_STATE p, F.LP_STATUS_HELD_REC p, whole (R.LP_EXEC_CNT p), whole (R.LP_TARGET p), F.LP_STICKY_NUMERIC p]
        [.mem, .loop, .raised, .shadow] s t ∧
      (∀ a x, (s.shadow.filter fun e => decide (tcmBase p + 0x4000 ≤ e.1) && decide (e.1 < tcmBase p + 0x4400)) = [(a, x)] →
        t.rdW a = BitVec.ofNat 32 x.val) ∧
      (∀ a, tcmBase p + 0x4404 ≤ a → a < tcmBase p + 0xA000 → t.rdB a = s.rdB a) ∧
      KeepsBytesOutside (tcmBase p + 0x4000) (tcmBase p + 0xF820) s t) ∧
  (∀ cyc, s.lpState p = 3 → (s.loop.get p).running = true → s.epoch < (s.loop.get p).deadline →
    ∃ t, exec (.loopCommit p cyc) s = .next t ∧ t.lpState p = (if s.flag (F.LP_CTRL_EN p) then 2 else 1) ∧
      (t.loop.get p).running = false ∧ t.get (F.LP_STATUS_OVR_CONSEC p) = 0 ∧ t.rd (R.LP_COMMIT_TICK p) = BitVec.ofNat 32 s.epoch ∧
      t.get (F.LP_CYCLES_LAST p) = min cyc 0xFFFF ∧ t.get (F.LP_CYCLES_MAX p) = max (s.get (F.LP_CYCLES_MAX p)) (min cyc 0xFFFF) ∧
      t.get (F.LP_SLACK_LAST p) = min ((s.loop.get p).deadline - s.epoch) 0xFFFF ∧
      ((s.loop.get p).res.plaus = true → t.raised = s.raised ++ [⟨FS.LOOP_PLAUS p, 0⟩]) ∧
      ((s.loop.get p).res.work.length ≤ 3840 → (s.loop.get p).res.probe.length ≤ 2048 → (s.loop.get p).res.loan.length ≤ 64 →
        KeepsBytesOutside (tcmBase p + 0x4400) (tcmBase p + 0xF100) s t) ∧
      KeepsOutside [zone (R.LP_CTRL 0), zone (R.PWM_CTRL 0)] [.mem, .loop, .shadow, .pwm, .grid, .sens, .raised] s t) ∧
  (s.lpState p = 3 → (s.loop.get p).running = true → (s.loop.get p).deadline ≤ s.epoch →
    ∃ t, exec (.loopAbandon p) s = .next t ∧ t.lpState p = (if s.flag (F.LP_CTRL_EN p) then 2 else 1) ∧
      t.get (F.LP_STICKY_OVERRUN p) = 1 ∧ t.get (F.LP_OVR_CNT_CNT p) = satInc (F.LP_OVR_CNT_CNT p).len (s.get (F.LP_OVR_CNT_CNT p)) ∧
      t.get (F.LP_STATUS_OVR_CONSEC p) = satInc (F.LP_STATUS_OVR_CONSEC p).len (s.get (F.LP_STATUS_OVR_CONSEC p)) ∧
      (t.loop.get p).running = false ∧ (t.loop.get p).prevAb = true ∧
      (t.get (F.LP_STATUS_OVR_CONSEC p) = 3 → t.raised = s.raised ++ [⟨FS.LOOP_OVERRUN p, 0⟩]) ∧
      (t.get (F.LP_STATUS_OVR_CONSEC p) ≠ 3 → t.raised = s.raised) ∧
      Keeps [F.LP_STATUS_STATE p, F.LP_STATUS_HELD_REC p, F.LP_STICKY_OVERRUN p, F.LP_OVR_CNT_CNT p, F.LP_STATUS_OVR_CONSEC p]
        [.loop, .raised] s t)

/-- Halts (R186, R187): a lockstep mismatch of a running pair and an uncorrectable word of a powered pair halt it, with the source raised; a correctable word is only
counted.
Enable, disable, the clear of the extremes and set-point writes (R36, R37, R188, R190, R209 to R212, R216): an admitted enable makes the pair WAITING with its
graph's initial state; one of an enabled pair changes nothing; an enable or a disable by another than HPA is refused; a write into the TCM window
reaches the shadow of a set-point that no rule gives to the device, and no other word.
Where the spec leaves the reading open it states the model's, as log rows 41 and 115 give. -/
def Obligations.LoopHaltsEnableAndSetPoints : Prop :=
  (∀ (s : State) (p : Fin 6),
    (s.lpState p = 3 →
      ∃ t, exec (.loopLockstepMismatch p) s = .next t ∧ t.lpState p = 4 ∧ t.get (F.LP_STICKY_LOCKSTEP p) = 1 ∧
        t.raised = s.raised ++ [⟨FS.LOOP_LOCKSTEP p, 0⟩] ∧ (t.loop.get p).running = false ∧
        Keeps [F.LP_STATUS_STATE p, F.LP_STATUS_HELD_REC p, F.LP_STICKY_LOCKSTEP p] [.loop, .raised] s t) ∧
    (s.pdOn (pairPd p) = true → s.lpState p ≠ 0 →
      ∃ t, exec (.loopTcmEccError p true) s = .next t ∧ t.lpState p = 4 ∧ t.get (F.LP_STICKY_ECC_UNCOR p) = 1 ∧
        t.raised = s.raised ++ [⟨FS.LOOP_TCM_ECC p, 0⟩] ∧
        Keeps [F.LP_STATUS_STATE p, F.LP_STATUS_HELD_REC p, F.LP_STICKY_ECC_UNCOR p] [.loop, .raised] s t) ∧
    (s.pdOn (pairPd p) = true →
      ∃ t, exec (.loopTcmEccError p false) s = .next t ∧
        t.get (F.LP_STATUS_ECC_COR p) = satInc (F.LP_STATUS_ECC_COR p).len (s.get (F.LP_STATUS_ECC_COR p)) ∧ Keeps [F.LP_STATUS_ECC_COR p] [] s t)) ∧
  (∀ (s : State) (p : Fin 6),
    (∀ i, s.loopEnRefused i p = false → s.flag (F.LP_CTRL_EN p) = false →
      ∃ t, exec (.loopEnable i p) s = .next t ∧ t.flag (F.LP_CTRL_EN p) = true ∧ t.lpState p = (if s.lpState p = 5 then 5 else 2) ∧
        t.get (F.LP_OVR_CNT_CNT p) = 0 ∧
        t.rd (R.LP_EXEC_CNT p) = 0#32 ∧ (t.loop.get p).first = true ∧ (t.loop.get p).rcd = none ∧
        ((∀ n ∈ s.graphNodes p, n.st + 4 * n.init.length ≤ 15360) → KeepsBytesOutside (tcmBase p + 0x4400) (tcmBase p + 0x8000) s t) ∧
        KeepsOutside [zone (R.LP_CTRL 0), zone R.GRID_CFG] [.mem, .loop, .grid, .draws] s t) ∧
    (∀ i, s.loopEnRefused i p = false → s.flag (F.LP_CTRL_EN p) = true → exec (.loopEnable i p) s = .next s) ∧
    (∀ i, s.loopEnRefused i p = true → ∃ t, exec (.loopEnable i p) s = .next t ∧ Refused (.loop p) (FS.LOOP_CFG p) s t) ∧
    (∀ i, i ≠ .hpa → s.loopEnRefused i p = true ∧
      ∃ t, exec (.loopDisable i p) s = .next t ∧ Refused (.loop p) (FS.LOOP_CFG p) s t) ∧
    (s.inFoyer = false → s.gridPair ≠ some (p : Nat) →
      ∃ t, exec (.loopDisable .hpa p) s = .next t ∧ t.flag (F.LP_CTRL_EN p) = false ∧
        (s.lpState p = 2 → t.lpState p = 1) ∧ (s.lpState p ≠ 2 → t.lpState p = s.lpState p) ∧
        (s.lpState p = 5 → (s.loop.get p).saved = 2 → (t.loop.get p).saved = 1) ∧
        Keeps [F.LP_CTRL_EN p, F.LP_STATUS_STATE p, F.LP_STATUS_HELD_REC p] [.loop] s t) ∧
    (s.inFoyer = false → ∃ t, exec (.loopDisable .hpa p) s = .next t ∧ t.flag (F.LP_CTRL_EN p) = false ∧
      KeepsOutside [zone (R.LP_CTRL 0), zone (R.PWM_CTRL 0), zone R.GRID_CFG, zone R.RELAY_CFG]
        [.cour, .draws, .drive, .grid, .loop, .pwm, .raised, .relay, .shadow] s t) ∧
    (s.inFoyer = true → ∃ t, exec (.loopDisable .hpa p) s = .next t ∧ Refused (.loop p) (FS.LOOP_CFG p) s t) ∧
    (∀ i, ∃ t, exec (.loopClrMax i p) s = .next t ∧ t.get (F.LP_CYCLES_MAX p) = 0 ∧ t.get (F.LP_SLACK_MIN p) = 0xFFFF ∧
      Keeps [F.LP_CYCLES_MAX p, F.LP_SLACK_MIN p] [] s t) ∧
    (∀ i (w : Fin 16384) v, s.pdOn (pairPd p) = true → 0x1000 ≤ (w : Nat) → (w : Nat) < 0x1100 → s.slotOwned p (w - 0x1000) = false →
      s.adjust ⟨tcmBase p + 4 * w, 0, 32⟩ v.toNat = .ok →
      ∃ t, exec (.tcmWrite i p w v) s = .next t ∧ t.shadowGet ⟨tcmBase p + 4 * w, 0, 32⟩ = v.toNat ∧
        (∀ a, a ≠ tcmBase p + 4 * w → t.shadow.get a = s.shadow.get a) ∧ Keeps [] [.shadow] s t) ∧
    (∀ i (w : Fin 16384) v, s.pdOn (pairPd p) = true → ((w : Nat) < 0x1000 ∨ 0x1100 ≤ (w : Nat) ∨ s.slotOwned p (w - 0x1000) = true) →
      ∃ t, exec (.tcmWrite i p w v) s = .next t ∧ Refused (.loop p) (FS.LOOP_CFG p) s t))

/-! ### PWM generation (chapter 08) -/

/-- Start, stop and commit (R276 to R280, R289, R290, R294): HPA's PWM_START starts every named unit whose start nothing refuses and that has not been stopped at this tick, and no unit that it does not name;
PWM_STOP halts every named unit, a fenced one staying FENCED; a commit reaches a running unit that no enabled pair owns, in time for the next
boundary or after it; the boundary of a frozen unit is known when it goes on.
Where the spec leaves the reading open it states the model's, as log rows 45, 46 and 117 give. -/
def Obligations.PwmStartStopAndCommit : Prop :=
  ∀ (s : State) (v : Word),
  (s.inFoyer = false → ∃ t, exec (.pwmStart .hpa v) s = .next t ∧
    (∀ u : Fin 14, bitOf v.toNat u = true → s.startRefused u = false → s.ep.stopAt.get u ≠ s.epoch + 1 →
      t.pwmState u = 1 ∧ (t.pwm.get u).counting = true ∧ (t.pwm.get u).start = s.epoch) ∧
    (∀ u : Fin 14, bitOf v.toNat u = false → t.pwmState u = s.pwmState u) ∧
    ((∃ u : Fin 14, bitOf v.toNat u = true ∧ s.startRefused u = true) → t.get F.PWM_GSTICKY_CFG_REJECT = 1) ∧
    KeepsOutside [zone (R.PWM_CTRL 0), zone (R.LP_CTRL 0)] [.shadow, .raised, .pwm, .sens, .wcmp] s t) ∧
  (∀ i, i ≠ .hpa → (∃ t, exec (.pwmStart i v) s = .next t ∧ Refused .pwmGlobal FS.PWM_GLOBAL s t) ∧
    exec (.pwmStop i v) s = exec (.pwmStart i v) s) ∧
  (s.inFoyer = true → ∃ t, exec (.pwmStart .hpa v) s = .next t ∧ Refused .pwmGlobal FS.PWM_GLOBAL s t) ∧
  (∃ t, exec (.pwmStop .hpa v) s = .next t ∧
    (∀ u : Fin 14, bitOf v.toNat u = true → s.pwmState u ≠ 3 → t.pwmState u = 0) ∧
    (∀ u : Fin 14, bitOf v.toNat u = true → s.pwmState u = 3 → t.pwmState u = 3 ∧ (t.pwm.get u).counting = false) ∧
    (∀ u : Fin 14, bitOf v.toNat u = false → t.pwmState u = s.pwmState u) ∧
    (∀ u : Fin 14, bitOf v.toNat u = true → t.ep.stopAt.get u = s.epoch + 1) ∧
    KeepsOutside [zone (R.PWM_CTRL 0), zone R.DRV_STATUS, zone R.DIAG_MAINT_REQ] [.mem, .shadow, .ep, .pwm, .drive, .diag] s t) ∧
  (∀ i, ∃ t, exec (.pwmCommit i v) s = .next t ∧
    (∀ u : Fin 14, bitOf v.toNat u = true → s.unitPair u = none → s.pwmState u = 1 → (s.pwm.get u).commit = false →
      (t.pwm.get u).commit = true ∧ t.get (F.PWM_STATUS_COMMIT_PENDING u) = 1 ∧
      ((t.pwm.get u).skip = true ↔ (s.pwm.get u).next < s.epoch + 80)) ∧
    (∀ u : Fin 14, bitOf v.toNat u = true → s.unitPair u = none → s.pwmState u = 2 → (s.pwm.get u).commit = false →
      (t.pwm.get u).commit = true ∧ (t.pwm.get u).commitAt = some s.epoch ∧ t.get (F.PWM_STATUS_COMMIT_PENDING u) = 1) ∧
    (∀ u : Fin 14, bitOf v.toNat u = true → s.unitPair u = none → s.pwmState u = 0 → t.get (F.PWM_STICKY_COMMIT_DISCARD u) = 1) ∧
    (∀ (u : Fin 14) (q : Nat), bitOf v.toNat u = true → s.unitPair u = some q → t.get (F.LP_STICKY_CFG_REJECT q) = 1) ∧
    KeepsOutside [zone (R.PWM_CTRL 0), zone (R.LP_CTRL 0)] [.raised, .pwm] s t)

/-- A period's boundary and its edges (R268 to R274, R277, R294): at the boundary of a running unit the counter begins anew, DITHER_IDX advances and
LAST_BOUNDARY takes the boundary's tick; a fenced unit counts on without a transfer. At a tick of the period an edge message goes out, EDGE_LAG = 320 ticks
ahead, for each output whose level changes.
FORCE and the pulse counters (R286, R297, R298): a FORCE write is taken only from HPA, under a COMMISSION permit, on a lane unit, with no reserved code; CNT_CLR clears
both counters of its unit.
Where the spec leaves the reading open it states the model's, as log rows 46 and 47 give. The clauses in which a command changes nothing
because its condition does not hold state the model's choice (log row 15). -/
def Obligations.PwmBoundaryForceAndCounters : Prop :=
  (∀ (s : State) (u : Fin 14),
    ((s.pwm.get u).counting = true → (s.pwm.get u).next ≤ s.epoch → s.pwmState u = 1 → (s.pwm.get u).loops = [] → (s.pwm.get u).swaps = [] →
      ∃ t, exec (.pwmPeriodBoundary u) s = .next t ∧ t.pwmState u = 1 ∧ (t.pwm.get u).start = (s.pwm.get u).next ∧
        t.rd (R.PWM_LAST_BOUNDARY u) = BitVec.ofNat 32 (s.pwm.get u).next ∧
        t.get (F.PWM_STATUS_DITHER_IDX u) = (s.get (F.PWM_STATUS_DITHER_IDX u) + 1) % 2 ^ (F.PWM_STATUS_DITHER_IDX u).len ∧
        ((s.pwm.get u).commit = true → (s.pwm.get u).skip = false → (t.pwm.get u).commit = false ∧ t.get (F.PWM_STATUS_COMMIT_PENDING u) = 0) ∧
        ((s.pwm.get u).commit = false → t.get (F.PWM_PERIOD u) = s.get (F.PWM_PERIOD u) ∧ t.get (F.PWM_CMPA u) = s.get (F.PWM_CMPA u)) ∧
        KeepsOutside [zone (R.PWM_CTRL 0), zone (R.LP_CTRL 0)] [.shadow, .pwm, .sens, .wcmp] s t) ∧
    ((s.pwm.get u).counting = true → (s.pwm.get u).next ≤ s.epoch → s.pwmState u = 3 →
      ∃ t, exec (.pwmPeriodBoundary u) s = .next t ∧ t.pwmState u = 3 ∧ (t.pwm.get u).start = (s.pwm.get u).next ∧
        (t.pwm.get u).len = s.get (F.PWM_PERIOD u) ∧ t.get (F.PWM_PERIOD u) = s.get (F.PWM_PERIOD u) ∧
        Keeps [F.PWM_STATUS_DITHER_IDX u, whole (R.PWM_LAST_BOUNDARY u), F.PWM_STATUS_HELD_PREV u]
          [.pwm, .sens, .wcmp, .shadow] s t) ∧
    (s.epoch < (s.pwm.get u).next → exec (.pwmPeriodBoundary u) s = .next s) ∧
    ((s.pwm.get u).counting = true → s.pwmState u = 1 → s.epoch < (s.pwm.get u).next →
      ∃ t, exec (.pwmEdgeIssue u) s = .next t ∧ t.flag (F.PWM_STATUS_LEVEL_A u) = (s.levelsAt u s.epoch).1 ∧
        t.flag (F.PWM_STATUS_LEVEL_B u) = (s.levelsAt u s.epoch).2 ∧
        (∀ m ∈ (t.pwm.get u).msgs, m ∈ (s.pwm.get u).msgs ∨ (m.t = s.epoch + 320 ∧ m.both = false ∧
          m.on = (if m.sideB then (s.levelsAt u s.epoch).2 else (s.levelsAt u s.epoch).1))) ∧
        ((s.levelsAt u s.epoch).1 = s.flag (F.PWM_STATUS_LEVEL_A u) → (s.levelsAt u s.epoch).2 = s.flag (F.PWM_STATUS_LEVEL_B u) →
          (t.pwm.get u).msgs = (s.pwm.get u).msgs) ∧
        Keeps [F.PWM_STATUS_LEVEL_A u, F.PWM_STATUS_LEVEL_B u] [.pwm] s t)) ∧
  (∀ (s : State) (u : Fin 14),
    (∀ v, s.flag F.WARDEN_STATUS_PERMIT = true → 8 ≤ (u : Nat) → bitsOf v.toNat 0 2 ≠ 3 → bitsOf v.toNat 2 2 ≠ 3 →
      ∃ t, exec (.pwmForceWrite .hpa u v) s = .next t ∧ t.get (F.PWM_FORCE_FORCE_A u) = bitsOf v.toNat 0 2 ∧
        t.get (F.PWM_FORCE_FORCE_B u) = bitsOf v.toNat 2 2 ∧
        Keeps [F.PWM_FORCE_FORCE_A u, F.PWM_FORCE_FORCE_B u, F.PWM_STATUS_LEVEL_A u, F.PWM_STATUS_LEVEL_B u] [.pwm] s t) ∧
    (∀ i v, (i ≠ .hpa ∨ s.flag F.WARDEN_STATUS_PERMIT = false ∨ (u : Nat) < 8 ∨ bitsOf v.toNat 0 2 = 3 ∨ bitsOf v.toNat 2 2 = 3) →
      ∃ t, exec (.pwmForceWrite i u v) s = .next t ∧ Refused (.pwm u) (FS.PWM_UNIT u) s t) ∧
    (∀ i, ∃ t, exec (.pwmCntClr i u) s = .next t ∧ t.get (F.PWM_PULSE_CNT_DROP_CNT u) = 0 ∧ t.get (F.PWM_PULSE_CNT_STRETCH_CNT u) = 0 ∧
      Keeps [whole (R.PWM_PULSE_CNT u)] [] s t))

/-! ### Gate drive and drive lanes (chapter 09) -/

/-- A half-bridge's edges (R302 to R308): the oldest message of its unit is queued with at least 8 ticks of lead and room in the queue, replacing one for the same
switch and tick, and is otherwise late: both gates off, LATE, DRV_LATE. The first pending edge executes at its tick: an off-edge turns its gate off (and restarts
HI_RUN where the gate is the high side's, R313), an on-edge turns its
gate on, or trips the interlock where the partner's gate is on; the steps of a bootstrap refresh come at their ticks (R313 to R315).
The internal lane and VDRV (R309, R311, R312): a keepalive restarts the timeout; a message that fails its CRC and 2,400 ticks without a keepalive take the lane out of
service and raise DRV_LINK; VDRV below its threshold locks the drivers out, records and raises DRV_VDRV_UV at each fall, and 16,000 ticks above the rising threshold end
that.
Where the spec leaves the reading open it states the model's, as log row 50 gives. -/
def Obligations.HalfBridgesAndDriveSupply : Prop :=
  (∀ (s : State) (h : Fin 8),
    (∀ e rest, (s.pwm.get h).msgs = e :: rest → s.pdOn 9 = true → s.epoch + 8 ≤ e.t → (s.drive.hb.get h).queue.length < 8 →
      ∃ t, exec (.hbEdgeReceive h) s = .next t ∧ (t.pwm.get h).msgs = rest ∧
        (t.drive.hb.get h).queue = ((s.drive.hb.get h).queue.filter fun x => !x.same e) ++ [e] ∧ Keeps [] [.pwm, .drive] s t) ∧
    (∀ e rest, (s.pwm.get h).msgs = e :: rest → s.pdOn 9 = true → (e.t < s.epoch + 8 ∨ 8 ≤ (s.drive.hb.get h).queue.length) →
      ∃ t, exec (.hbEdgeReceive h) s = .next t ∧ t.get (F.DRV_HB_STATUS_HO h) = 0 ∧ t.get (F.DRV_HB_STATUS_LO h) = 0 ∧
        t.get (F.DRV_HB_STICKY_LATE h) = 1 ∧ t.rd (R.DRV_HB_FAULT_TICK h) = BitVec.ofNat 32 s.epoch ∧
        t.raised = s.raised ++ [⟨FS.DRV_LATE h, 0⟩] ∧
        Keeps [F.DRV_HB_STATUS_HO h, F.DRV_HB_STATUS_LO h, F.DRV_HB_STATUS_HI_RUN h, F.DRV_HB_STATUS_REFRESHING h, F.DRV_HB_STICKY_LATE h,
          whole (R.DRV_HB_FAULT_TICK h)] [.pwm, .drive, .raised] s t) ∧
    (∀ e, (s.drive.hb.get h).step = 0 → (s.drive.hb.get h).pick (s.hbDead h) (s.drive.hb.get h).queue = some e →
      (s.drive.hb.get h).execTick (s.hbDead h) e ≤ s.epoch → s.hbBlocked h = false →
      ∃ t, exec (.hbEdgeExecute h) s = .next t ∧
        (e.on = false → t.get (hbGate h e.sideB) = 0 ∧ (e.sideB = false → t.get (F.DRV_HB_STATUS_HI_RUN h) = 0) ∧
          Keeps [hbGate h e.sideB, F.DRV_HB_STATUS_HI_RUN h] [.drive] s t) ∧
        (e.on = true → s.flag (hbGate h (!e.sideB)) = false → t.get (hbGate h e.sideB) = 1 ∧
          (t.drive.hb.get h).queue = (s.drive.hb.get h).queue.erase e ∧ Keeps [hbGate h e.sideB] [.drive] s t) ∧
        (e.on = true → s.flag (hbGate h (!e.sideB)) = true → t.get (F.DRV_HB_STATUS_HO h) = 0 ∧ t.get (F.DRV_HB_STATUS_LO h) = 0 ∧
          t.get (F.DRV_HB_STICKY_INTERLOCK h) = 1 ∧ t.raised = s.raised ++ [⟨FS.DRV_INTERLOCK h, 0⟩] ∧ t.hbBlocked h = true ∧
          Keeps [F.DRV_HB_STATUS_HO h, F.DRV_HB_STATUS_LO h, F.DRV_HB_STATUS_HI_RUN h, F.DRV_HB_STATUS_REFRESHING h,
            F.DRV_HB_STICKY_INTERLOCK h, whole (R.DRV_HB_FAULT_TICK h)] [.drive, .raised] s t)) ∧
    (∀ e, (s.drive.hb.get h).step = 0 → (s.drive.hb.get h).pick (s.hbDead h) (s.drive.hb.get h).queue = some e →
      (s.drive.hb.get h).execTick (s.hbDead h) e ≤ s.epoch → s.hbBlocked h = true →
      ∃ t, exec (.hbEdgeExecute h) s = .next t ∧ (t.drive.hb.get h).queue = (s.drive.hb.get h).queue.erase e ∧ Keeps [] [.drive] s t) ∧
    ((s.drive.hb.get h).step ≠ 0 → s.refreshTick h ≤ s.epoch →
      ∃ t, exec (.hbEdgeExecute h) s = .next t ∧
        ((s.drive.hb.get h).step = 1 → t.get (F.DRV_HB_STATUS_LO h) = 1 ∧ (t.drive.hb.get h).step = 2 ∧
          Keeps [F.DRV_HB_STATUS_LO h] [.drive] s t) ∧
        ((s.drive.hb.get h).step = 2 → t.get (F.DRV_HB_STATUS_LO h) = 0 ∧ (t.drive.hb.get h).step = 3 ∧
          (t.drive.hb.get h).offLo = some (s.refreshTick h) ∧ Keeps [F.DRV_HB_STATUS_LO h] [.drive] s t) ∧
        ((s.drive.hb.get h).step = 3 → t.get (F.DRV_HB_STATUS_HO h) = 1 ∧ t.get (F.DRV_HB_STATUS_REFRESHING h) = 0 ∧
          (t.drive.hb.get h).step = 0 ∧ Keeps [F.DRV_HB_STATUS_HO h, F.DRV_HB_STATUS_REFRESHING h] [.drive] s t)) ∧
    (∀ m rest, (s.pwm.get h).markers = m :: rest → m ≤ s.epoch → s.hbSettled h m = true → s.hbBlocked h = false → s.pwmState h ≠ 0 →
      (s.drive.hb.get h).highAll = true → s.flag (F.DRV_HB_STATUS_HO h) = true →
      s.get (F.DRV_HB_CFG_REFRESH_PERIODS h) ≤ s.get (F.DRV_HB_STATUS_HI_RUN h) + 1 →
      ∃ t, exec (.hbPeriodMarker h) s = .next t ∧ (t.pwm.get h).markers = rest ∧ t.get (F.DRV_HB_STATUS_HO h) = 0 ∧
        t.get (F.DRV_HB_STATUS_REFRESHING h) = 1 ∧ t.get (F.DRV_HB_STICKY_BST_REFRESH h) = 1 ∧
        t.rd (R.DRV_HB_REFRESH_TICK h) = BitVec.ofNat 32 m ∧ (t.drive.hb.get h).step = 1 ∧
        Keeps [F.DRV_HB_STATUS_HO h, F.DRV_HB_STATUS_REFRESHING h, F.DRV_HB_STATUS_HI_RUN h, F.DRV_HB_STATUS_REFRESH_CNT h,
          F.DRV_HB_STICKY_BST_REFRESH h, whole (R.DRV_HB_REFRESH_TICK h)] [.pwm, .drive] s t) ∧
    (∀ m rest, (s.pwm.get h).markers = m :: rest → m ≤ s.epoch → s.hbSettled h m = true → s.hbBlocked h = false → s.pwmState h ≠ 0 →
      (s.drive.hb.get h).highAll = true → s.flag (F.DRV_HB_STATUS_HO h) = true →
      s.get (F.DRV_HB_STATUS_HI_RUN h) + 1 < s.get (F.DRV_HB_CFG_REFRESH_PERIODS h) →
      ∃ t, exec (.hbPeriodMarker h) s = .next t ∧ (t.pwm.get h).markers = rest ∧
        t.get (F.DRV_HB_STATUS_HI_RUN h) = (s.get (F.DRV_HB_STATUS_HI_RUN h) + 1) % 2 ^ (F.DRV_HB_STATUS_HI_RUN h).len ∧
        Keeps [F.DRV_HB_STATUS_HI_RUN h] [.pwm, .drive] s t)) ∧
  (∀ s : State, s.pdOn 9 = true →
    (∃ t, exec .hbKeepalive s = .next t ∧ t.drive.keepTick = s.mono ∧ (s.drive.linkLost = false → t.get F.DRV_STATUS_LINK_OK = 1) ∧
      (s.drive.linkLost = true → t.get F.DRV_STATUS_LINK_OK = s.get F.DRV_STATUS_LINK_OK) ∧ Keeps [F.DRV_STATUS_LINK_OK] [.drive] s t) ∧
    (s.drive.linkLost = false → s.drive.keepTick + 2400 ≤ s.mono →
      ∃ t, exec .hbKeepaliveTimeout s = .next t ∧ t.drive.linkLost = true ∧ t.get F.DRV_STATUS_LINK_OK = 0 ∧ t.get F.DRV_STICKY_LINK_ERR = 1 ∧
        t.raised = s.raised ++ [⟨FS.DRV_LINK, 0⟩] ∧
        (∀ h : Fin 8, t.get (F.DRV_HB_STATUS_HO h) = 0 ∧ t.get (F.DRV_HB_STATUS_LO h) = 0) ∧ KeepsOutside [zone R.DRV_STATUS, zone R.LANE_STATUS] [.raised, .pwm, .drive, .diag] s t) ∧
    (∀ h, ∃ t, exec (.hbLinkCrcError h) s = .next t ∧ (t.pwm.get h).msgs = (s.pwm.get h).msgs.tail ∧ t.drive.linkLost = true ∧
      t.get F.DRV_STICKY_LINK_ERR = 1 ∧ t.raised = s.raised ++ [⟨FS.DRV_LINK, 0⟩] ∧ KeepsOutside [zone R.DRV_STATUS, zone R.LANE_STATUS] [.raised, .pwm, .drive, .diag] s t) ∧
    (s.flag F.DRV_STATUS_LOCKOUT = false →
      ∃ t, exec .vdrvLockout s = .next t ∧ t.flag F.DRV_STATUS_LOCKOUT = true ∧ t.get F.DRV_STATUS_VDRV_OK = 0 ∧
        t.get F.DRV_STICKY_VDRV_UV = 1 ∧ t.get F.DRV_UV_CNT_CNT = satInc F.DRV_UV_CNT_CNT.len (s.get F.DRV_UV_CNT_CNT) ∧
        t.raised = s.raised ++ [⟨FS.DRV_VDRV_UV, 0⟩] ∧ (∀ h : Fin 8, t.get (F.DRV_HB_STATUS_HO h) = 0) ∧
        KeepsOutside [zone R.DRV_STATUS, zone R.LANE_STATUS, zone R.SYS_ID] [.raised, .pwm, .drive, .diag] s t) ∧
    (s.flag F.DRV_STATUS_LOCKOUT = true →
      ∃ t, exec .vdrvLockout s = .next t ∧ t.get F.DRV_STATUS_VDRV_OK = 0 ∧ t.get F.SYS_RAILS_VDRV_OK = 0 ∧ t.get F.DRV_STICKY_VDRV_UV = 1 ∧
        t.raised = s.raised ++ [⟨FS.DRV_VDRV_UV, 0⟩] ∧
        Keeps [F.DRV_STATUS_VDRV_OK, F.SYS_RAILS_VDRV_OK, F.DRV_STICKY_VDRV_UV] [.raised] s t) ∧
    (s.flag F.DRV_STATUS_LOCKOUT = true → s.flag F.DRV_STATUS_VDRV_OK = true → s.drive.vdrvFrom + 16000 ≤ s.mono →
      ∃ t, exec .vdrvLockoutEnd s = .next t ∧ t.flag F.DRV_STATUS_LOCKOUT = false ∧ Keeps [F.DRV_STATUS_LOCKOUT] [.pwm, .diag] s t))

/-- Lane edges and TRIPs (R303 to R306, R319, R322, R326, R327, R330, R331, R333): a lane that takes edges and that nothing holds accepts the oldest edge message of its unit, at the tick the
dead time allows; one that finds the partner on trips the interlock; one that comes to a held lane is discarded. The oldest queued edge begins where the line is free and its lead
suffices, with its 68 chips on the line, and is late otherwise: the lane TRIPs. A TRIP ends 48 chips after its start in the state noted for it.
Heartbeats and status (R323, R324, R328, R329, R336): a label that is a multiple of 800 makes a heartbeat due; it is sent on a free line clear of the unit's
edges, and at the latest 1,200 ticks on; its 88 chips with the response slot occupy the line for 152. A STATUS that comes in time and passes its CRC-5 is recorded and its faults set their flags, raised while the
unit runs; one that does not, and a slot that ends without one, count as missing, and from the third in a row on that is a fault.
Enabling and disabling a lane (R334): HPA, a used lane, the barrier calibrated, no fence, no safe state (R477) and no Foyer (R613) to enable; HPA and the unit stopped to disable, by one
TRIP; anything else is refused.
Where the spec leaves the reading open it states the model's, as log rows 48, 49 and 118 give. The clauses in which a command changes nothing
because its condition does not hold state the model's choice (log row 15). -/
def Obligations.LanesEdgesStatusAndEnable : Prop :=
  (∀ (s : State) (l : Fin 6),
    (∀ e rest, (s.pwm.get (l + 8)).msgs = e :: rest → (s.laneLive l = false ∨ (s.drive.lane.get l).inter = true ∨ s.laneHeld l = true) →
      ∃ t, exec (.laneEdgeReceive l) s = .next t ∧ (t.pwm.get (l + 8)).msgs = rest ∧ Keeps [] [.pwm] s t) ∧
    (∀ e rest, (s.pwm.get (l + 8)).msgs = e :: rest → s.laneLive l = true → (s.drive.lane.get l).inter = false → s.laneHeld l = false →
      (e.on = true → (s.drive.lane.get l).levelAt (!e.sideB) ((s.drive.lane.get l).execTick (s.get (F.LANE_CFG_DEADTIME l)) e) = false) →
      ∃ t, exec (.laneEdgeReceive l) s = .next t ∧ (t.pwm.get (l + 8)).msgs = rest ∧
        t.drive.lane.get l = (s.drive.lane.get l).accept ⟨e.sideB, e.both, e.on, (s.drive.lane.get l).execTick (s.get (F.LANE_CFG_DEADTIME l)) e⟩ ∧
        Keeps [] [.pwm, .drive] s t) ∧
    (∀ e rest, (s.pwm.get (l + 8)).msgs = e :: rest → s.laneLive l = true → (s.drive.lane.get l).inter = false → s.laneHeld l = false →
      e.on = true → (s.drive.lane.get l).levelAt (!e.sideB) ((s.drive.lane.get l).execTick (s.get (F.LANE_CFG_DEADTIME l)) e) = true →
      ∃ t, exec (.laneEdgeReceive l) s = .next t ∧ t.laneState l = 2 ∧ t.get (F.LANE_LSTICKY_INTERLOCK l) = 1 ∧
        (t.drive.lane.get l).inter = true ∧ t.raised = s.raised ++ [⟨FS.LANE_INTERLOCK l, 0⟩] ∧
        Keeps [F.LANE_STAT_STATE l, whole (R.LANE_TRIP_TICK l), F.LANE_LSTICKY_INTERLOCK l] [.pwm, .drive, .raised] s t) ∧
    (∀ e rest, (s.drive.lane.get l).queue = e :: rest → s.lineFree l = true → s.laneLabel l + 75 ≤ e.t →
      ((s.drive.lane.get l).sent.filter fun t => decide (s.laneLabel l < t)).length < 4 →
      ∃ t, exec (.laneEdgeSend l) s = .next t ∧ (t.drive.lane.get l).queue = rest ∧ (t.drive.lane.get l).busyTo = s.laneLabel l + 68 ∧
        (t.drive.lane.get l).lineAt = s.laneLabel l ∧ (t.drive.lane.get l).line = somE ++ fieldChips 32 (edgeWord e) ∧
        bitsOf (edgeWord e) 5 24 = e.t % 2 ^ 24 ∧
        t.get (F.LANE_CNT_EDGE l) = (s.get (F.LANE_CNT_EDGE l) + 1) % 2 ^ (F.LANE_CNT_EDGE l).len ∧ Keeps [F.LANE_CNT_EDGE l] [.drive] s t) ∧
    (∀ e rest, (s.drive.lane.get l).queue = e :: rest → s.lineFree l = true → (e.t < s.laneLabel l + 75 ∨
        4 ≤ ((s.drive.lane.get l).sent.filter fun t => decide (s.laneLabel l < t)).length) →
      ∃ t, exec (.laneEdgeSend l) s = .next t ∧ t.laneState l = 2 ∧ t.get (F.LANE_LSTICKY_LATE l) = 1 ∧
        t.raised = s.raised ++ [⟨FS.LANE_LATE l, 0⟩] ∧ (t.drive.lane.get l).queue = [] ∧
        Keeps [F.LANE_STAT_STATE l, whole (R.LANE_TRIP_TICK l), F.LANE_LSTICKY_LATE l] [.drive, .raised] s t) ∧
    (s.laneState l = 2 → (s.drive.lane.get l).tripAt + 48 ≤ s.mono →
      ∃ t, exec (.laneTripEnd l) s = .next t ∧ t.laneState l = (s.drive.lane.get l).after % 2 ^ (F.LANE_STAT_STATE l).len ∧
        Keeps [F.LANE_STAT_STATE l] [] s t) ∧
    (s.laneState l = 2 → s.mono < (s.drive.lane.get l).tripAt + 48 → exec (.laneTripEnd l) s = .next s)) ∧
  (∀ (s : State) (l : Fin 6),
    (s.laneLive l = true → s.laneLabel l % 800 = 0 →
      ∃ t, exec (.laneHeartbeatDue l) s = .next t ∧ (t.drive.lane.get l).hbDue = some (s.laneLabel l) ∧ Keeps [] [.drive] s t) ∧
    ((s.drive.lane.get l).hbDue.isSome = true → s.lineFree l = true → (s.drive.lane.get l).queue = [] →
      (s.pwm.get (l + 8)).msgs = [] → s.edgeNear (l + 8) (s.laneLabel l) = false →
      ∃ t, exec (.laneHeartbeatSend l) s = .next t ∧ (t.drive.lane.get l).hbDue = none ∧ (t.drive.lane.get l).busyTo = s.laneLabel l + 152 ∧
        (t.drive.lane.get l).hbOut = some (s.laneLabel l + 6) ∧ (t.drive.lane.get l).lineAt = s.laneLabel l ∧
        (t.drive.lane.get l).line = somH ++ fieldChips 40 (heartbeatBits (s.laneLabel l + 6)) ++ post ∧
        t.get (F.LANE_CNT_HB l) = (s.get (F.LANE_CNT_HB l) + 1) % 2 ^ (F.LANE_CNT_HB l).len ∧
        ((s.drive.lane.get l).hbOut = none → Keeps [F.LANE_CNT_HB l] [.drive] s t) ∧
        Keeps [F.LANE_CNT_HB l, F.LANE_ERR_CNT_MISSING l, F.LANE_STAT_MISS_CONSEC l, F.LANE_LSTICKY_NO_STATUS l] [.drive, .raised] s t) ∧
    ((s.drive.lane.get l).hbDue.isSome = true → s.lineFree l = true → (s.drive.lane.get l).hbFirst + 1200 ≤ s.laneLabel l →
      ∃ t, exec (.laneHeartbeatForced l) s = .next t ∧ (t.drive.lane.get l).hbDue = none ∧ (t.drive.lane.get l).busyTo = s.laneLabel l + 152 ∧
        (t.drive.lane.get l).lineAt = s.laneLabel l ∧ (t.drive.lane.get l).line = somH ++ fieldChips 40 (heartbeatBits (s.laneLabel l + 6)) ++ post ∧
        ((s.drive.lane.get l).hbOut = none → Keeps [F.LANE_CNT_HB l] [.drive] s t) ∧
        Keeps [F.LANE_CNT_HB l, F.LANE_ERR_CNT_MISSING l, F.LANE_STAT_MISS_CONSEC l, F.LANE_LSTICKY_NO_STATUS l] [.drive, .raised] s t) ∧
    (∀ k (bits : BitVec 13) st, (s.drive.lane.get l).hbOut = some k → s.responseInTime l = true →
      crc5 (msbBits 8 st) = bits.toNat % 32 → st = bits.toNat / 32 →
      ∃ t, exec (.laneStatusReceive l bits) s = .next t ∧ t.get (F.LANE_STAT_STATUS l) = st ∧ t.get (F.LANE_STAT_MISS_CONSEC l) = 0 ∧
        (t.drive.lane.get l).hbOut = none ∧ ((s.drive.lane.get l).echoBad k st = true → t.get (F.LANE_LSTICKY_ECHO l) = 1) ∧
        (bitOf st 5 = true → t.get (F.LANE_LSTICKY_DESAT l) = 1) ∧
        (bitOf st 6 = true → t.get (F.LANE_LSTICKY_DESAT l) = 1) ∧ (bitOf st 7 = false → t.get (F.LANE_LSTICKY_UVLO l) = 1) ∧
        (bitOf st 4 = true → t.get (F.LANE_LSTICKY_UVLO l) = 1) ∧ (bitOf st 3 = true → t.get (F.LANE_LSTICKY_OT l) = 1) ∧
        (bitOf st 2 = true → t.get (F.LANE_LSTICKY_RX_ERR l) = 1 ∧
          t.get (F.LANE_ERR_CNT_RX_ERR l) = satInc (F.LANE_ERR_CNT_RX_ERR l).len (s.get (F.LANE_ERR_CNT_RX_ERR l))) ∧
        (s.pwmState (l + 8) ≠ 1 → t.raised = s.raised) ∧
        (s.pwmState (l + 8) = 1 → bitOf st 3 = true → ⟨FS.LANE_OT l, 0⟩ ∈ t.raised) ∧
        Keeps [F.LANE_STAT_STATUS l, F.LANE_STAT_MISS_CONSEC l, F.LANE_LSTICKY_ECHO l, F.LANE_LSTICKY_DESAT l, F.LANE_LSTICKY_UVLO l,
          F.LANE_LSTICKY_OT l, F.LANE_LSTICKY_RX_ERR l, F.LANE_ERR_CNT_RX_ERR l] [.drive, .raised] s t) ∧
    (∀ k (bits : BitVec 13), (s.drive.lane.get l).hbOut = some k →
      (s.responseInTime l = false ∨ crc5 (msbBits 8 (bits.toNat / 32)) ≠ bits.toNat % 32) →
      ∃ t, exec (.laneStatusReceive l bits) s = .next t ∧ (t.drive.lane.get l).hbOut = none ∧
        t.get (F.LANE_ERR_CNT_MISSING l) = satInc (F.LANE_ERR_CNT_MISSING l).len (s.get (F.LANE_ERR_CNT_MISSING l)) ∧
        Keeps [F.LANE_ERR_CNT_MISSING l, F.LANE_STAT_MISS_CONSEC l, F.LANE_LSTICKY_NO_STATUS l] [.drive, .raised] s t) ∧
    (∀ k, (s.drive.lane.get l).hbOut = some k → s.laneLabel l < (s.drive.lane.get l).busyTo → exec (.laneStatusMissing l) s = .next s) ∧
    (∀ k, (s.drive.lane.get l).hbOut = some k → (s.drive.lane.get l).busyTo ≤ s.laneLabel l →
      ∃ t, exec (.laneStatusMissing l) s = .next t ∧ (t.drive.lane.get l).hbOut = none ∧
        t.get (F.LANE_ERR_CNT_MISSING l) = satInc (F.LANE_ERR_CNT_MISSING l).len (s.get (F.LANE_ERR_CNT_MISSING l)) ∧
        t.get (F.LANE_STAT_MISS_CONSEC l) = satInc (F.LANE_STAT_MISS_CONSEC l).len (s.get (F.LANE_STAT_MISS_CONSEC l)) ∧
        (3 ≤ t.get (F.LANE_STAT_MISS_CONSEC l) → t.get (F.LANE_LSTICKY_NO_STATUS l) = 1 ∧
          (s.pwmState (l + 8) = 1 → t.raised = s.raised ++ [⟨FS.LANE_NO_STATUS l, 0⟩])) ∧
        (t.get (F.LANE_STAT_MISS_CONSEC l) < 3 → t.raised = s.raised) ∧
        Keeps [F.LANE_ERR_CNT_MISSING l, F.LANE_STAT_MISS_CONSEC l, F.LANE_LSTICKY_NO_STATUS l] [.drive, .raised] s t)) ∧
  (∀ (s : State) (l : Fin 6),
    (s.inFoyer = false → s.flag F.CUR_STATUS_SAFE = false → s.flag (F.LANE_CFG_USED l) = true → s.flag F.EPOCH_STATUS_BAR_CAL_DONE = true → s.laneState l = 0 →
      ∃ t, exec (.laneEnable .hpa l) s = .next t ∧ t.get (F.LANE_CTRL_EN l) = 1 ∧ t.laneState l = 1 ∧ (t.drive.lane.get l).queue = [] ∧
        Keeps [F.LANE_CTRL_EN l, F.LANE_STAT_STATE l] [.drive] s t) ∧
    (s.inFoyer = false → s.flag F.CUR_STATUS_SAFE = false → s.flag (F.LANE_CFG_USED l) = true → s.flag F.EPOCH_STATUS_BAR_CAL_DONE = true →
      s.laneFenced l = false → s.laneState l ≠ 0 →
      ∃ t, exec (.laneEnable .hpa l) s = .next t ∧ t.get (F.LANE_CTRL_EN l) = 1 ∧ (s.laneState l = 2 → (t.drive.lane.get l).after = 1) ∧
        Keeps [F.LANE_CTRL_EN l] [.drive] s t) ∧
    (∀ i, (i ≠ .hpa ∨ s.inFoyer = true ∨ s.flag F.CUR_STATUS_SAFE = true ∨ s.flag (F.LANE_CFG_USED l) = false ∨ s.flag F.EPOCH_STATUS_BAR_CAL_DONE = false ∨ s.laneFenced l = true) →
      ∃ t, exec (.laneEnable i l) s = .next t ∧ Refused .laneAll FS.LANE_CFG s t) ∧
    (s.inFoyer = false → s.pwmState (l + 8) = 0 → s.laneState l = 1 →
      ∃ t, exec (.laneDisable .hpa l) s = .next t ∧ t.get (F.LANE_CTRL_EN l) = 0 ∧ t.laneState l = 2 ∧ (t.drive.lane.get l).after = 0 ∧
        Keeps [F.LANE_CTRL_EN l, F.LANE_STAT_STATE l, whole (R.LANE_TRIP_TICK l)] [.drive] s t) ∧
    (s.inFoyer = false → s.pwmState (l + 8) = 0 → s.laneState l ≠ 1 →
      ∃ t, exec (.laneDisable .hpa l) s = .next t ∧ t.get (F.LANE_CTRL_EN l) = 0 ∧ (s.laneState l = 2 → (t.drive.lane.get l).after = 0) ∧
        Keeps [F.LANE_CTRL_EN l] [.drive] s t) ∧
    (∀ i, (i ≠ .hpa ∨ s.inFoyer = true ∨ s.pwmState (l + 8) ≠ 0) →
      ∃ t, exec (.laneDisable i l) s = .next t ∧ Refused .laneAll FS.LANE_CFG s t))

/-! ### Grid and relays (chapters 10 and 11) -/

/-- An evaluation (R344, R377, R388, R398, Tables GSP-2 and RTI-1): after a commit of the grid pair the block takes what the pair lent at it, reports the combined
region, fills slots 248 to 255 for the pair's next execution and awaits the next commit. While CONNECTED a confirmed island and the region TRIP trip; the region CESSATION makes
OP_STATE 0. Nothing happens without a commit.
Line-cycle boundaries (R346 to R349, R368, R384, R392): the boundary announced for C_i is passed at its tick; the next is announced to both sides from the frequency
lent or, where none is, the nominal one (FREE); the length of the cycle that ends is reported, LOCK follows its rule, and VKX is judged over the cycle.
Where the spec leaves the reading open it states the model's, as log rows 8, 51, 52 and 115 give. The clauses in which a command changes nothing
because its condition does not hold state the model's choice (log row 15). -/
def Obligations.GridEvaluationsAndBoundaries : Prop :=
  (∀ (s : State) (p : Nat), s.gridPair = some p →
    (s.grid.due = true →
      ∃ t, exec .gridEvaluation s = .next t ∧ t.grid.due = false ∧ t.grid.evalAt = some s.mono ∧
        t.get F.GRID_STATUS_VALID = b2n s.grid.inp.valid ∧
        t.get F.GRID_V_HIGH = satTo 16 (roundAway (s.grid.inp.high * 100)).toNat ∧
        t.get F.GRID_V_MEAN = satTo 16 (roundAway (s.grid.inp.mean * 100)).toNat ∧
        (s.grid.inp.valid = true → t.get F.GRID_FREQ_FREQ = satTo 20 (roundAway (s.grid.inp.f * 10000)).toNat) ∧
        t.grid.upd = (s.grid.upd + 1) % 2 ^ 24 ∧
        t.shadowGet ⟨tcmBase p + 0x4000 + 4 * 250, 0, 32⟩ = (fOf s.iMax).toNat ∧
        t.shadowGet ⟨tcmBase p + 0x4000 + 4 * 251, 0, 32⟩ = (fOf s.vNom).toNat ∧
        t.shadowGet ⟨tcmBase p + 0x4000 + 4 * 252, 0, 32⟩ = (fNat (t.get F.GRID_RT_STATUS_OP_STATE)).toNat ∧
        t.shadowGet ⟨tcmBase p + 0x4000 + 4 * 254, 0, 32⟩ = (fOf (2 * piR * (s.nomF : Nat))).toNat ∧
        t.shadowGet ⟨tcmBase p + 0x4000 + 4 * 255, 0, 32⟩ = (fNat t.grid.upd).toNat ∧
        (s.conn ≠ 3 → t.get F.GRID_RT_STATUS_REGION = t.combined) ∧
        (s.conn = 3 → (t.get F.GRID_RT_STATUS_REGION = 4 ∨ s.islandNow s.grid.inp = true) →
          t.conn = 4 ∧ t.get F.GRID_RT_STATUS_OP_STATE = 0 ∧ t.get F.GRID_RT_STICKY_TRIPPED = 1 ∧
          t.get F.RELAY_STATUS_K1_CMD = 0 ∧ t.get F.RELAY_STATUS_K2_CMD = 0 ∧ t.rd R.GRID_TRIP_TICK = BitVec.ofNat 32 s.epoch ∧
          t.raised.getLast? = some ⟨FS.GRID_TRIP, 0⟩) ∧
        (s.conn = 3 → s.islandNow s.grid.inp = true →
          t.get F.GRID_RT_STICKY_ISLAND = 1 ∧
          t.get F.GRID_ISL_CNT_CONFIRM = satInc F.GRID_ISL_CNT_CONFIRM.len (s.get F.GRID_ISL_CNT_CONFIRM)) ∧
        (s.conn = 3 → t.get F.GRID_RT_STATUS_REGION = 3 → s.islandNow s.grid.inp = false →
          t.conn = 3 ∧ t.get F.GRID_RT_STATUS_OP_STATE = 0 ∧ t.get F.GRID_RT_STICKY_CEASED = 1) ∧
        KeepsOutside [zone R.GRID_CFG, zone R.RELAY_CFG, zone (R.PWM_CTRL 0), zone R.WARDEN_STATUS]
          [.shadow, .raised, .draws, .pwm, .drive, .grid, .relay, .cour] s t ∧
        (s.conn = 1 → KeepsOutside [zone R.GRID_CFG, zone R.RELAY_CFG, zone (R.PWM_CTRL 0), zone R.WARDEN_STATUS]
          [.shadow, .grid, .relay, .draws, .pwm] s t) ∧
        (s.conn ≠ 1 → s.conn ≠ 3 → KeepsOutside [zone R.GRID_CFG] [.shadow, .grid] s t)) ∧
    (s.grid.due = false → exec .gridEvaluation s = .next s)) ∧
  (∀ s : State,
    (∀ c, s.grid.cNext = some c → c ≤ s.epoch → s.gridOn = true →
      ∃ t, exec .gridCycleBoundary s = .next t ∧ t.grid.cPrev = some c ∧ t.grid.cNext = some (s.nextBoundary c).1 ∧
        (∀ d : Fin 2, (t.sens.side.get d).ann = (s.sens.side.get d).ann ++ [{ ci := some c, cn := (s.nextBoundary c).1 }]) ∧
        (∀ q, s.grid.cPrev = some q → t.rd R.GRID_CYCLE_LEN = BitVec.ofNat 32 (c - q)) ∧
        t.get F.GRID_STATUS_FREE = b2n (s.nextBoundary c).2 ∧
        t.rd R.GRID_PHERR = BitVec.ofNat 32 (unsignedOf 32 (roundAway (degR (s.residual c) * 1000))) ∧
        t.get F.GRID_STATUS_LOCK =
          (if s.flag F.GRID_STATUS_LOCK then b2n (!decide (2 ≤ t.grid.bad ∨ inBand s.grid.fLast = false)) else b2n (decide (2 ≤ t.grid.good))) ∧
        (s.get F.GRID_STATUS_LOCK = 1 → t.get F.GRID_STATUS_LOCK = 0 →
          t.get F.GRID_STICKY_LOCK_LOST = 1 ∧ ∃ r, t.raised = s.raised ++ ⟨FS.GRID_SYNC_LOST, 0⟩ :: r) ∧
        t.get F.RELAY_STATUS_VKX_DEAD = b2n (!s.relay.vkxHi && !s.relay.vkxLo) ∧
        t.get F.RELAY_STATUS_VKX_LIVE = b2n (s.relay.vkxHi && s.relay.vkxLo) ∧
        KeepsOutside [zone R.GRID_CFG, zone R.RELAY_CFG, zone (R.PWM_CTRL 0)]
          [.shadow, .raised, .draws, .pwm, .drive, .grid, .relay, .sens, .cour] s t) ∧
    (s.grid.cNext = none → exec .gridCycleBoundary s = .next s) ∧
    (∀ c, s.grid.cNext = some c → s.epoch < c → exec .gridCycleBoundary s = .next s))

/-- FORMING and probes (R367, R386, R388): FORMING is HPA's, and needs the image's bit to be set; a probe starts where one waits, or at a multiple of PROBE_EVERY, while
CONNECTED with OP_STATE 1, and ends unconfirmed after CONFIRM_TIME, counted.
Reconnection (R400, R402): after DELAY plus the drawn time in WAIT the reconnection time is served; with AUTO = 1 the block itself requests the relay check, again a
second after a refusal, and starts the grid units at the tick set at the entry to CONNECTED.
Where the spec leaves the reading open it states the model's, as log rows 5 and 51 give. The clauses in which a command changes nothing
because its condition does not hold state the model's choice (log row 15). -/
def Obligations.FormingProbesAndReconnection : Prop :=
  (∀ s : State,
    (∀ v : Word, (bitOf v.toNat 0 = false ∨ bitOf s.imgFlags 1 = true) →
      ∃ t, exec (.gridFormingWrite .hpa v) s = .next t ∧ t.get F.GRID_MODE_FORMING = b2n (bitOf v.toNat 0) ∧ Keeps [F.GRID_MODE_FORMING] [] s t) ∧
    (∀ i (v : Word), (i ≠ .hpa ∨ (bitOf v.toNat 0 = true ∧ bitOf s.imgFlags 1 = false)) →
      ∃ t, exec (.gridFormingWrite i v) s = .next t ∧ Refused .grid FS.GRID_CFG s t) ∧
    (∀ a, s.probeAllowed = true → s.probing = false → s.grid.probeAt = some a → a ≤ s.epoch →
      ∃ t, exec .probeStart s = .next t ∧ t.probing = true ∧ t.grid.probeStart = s.mono ∧ t.grid.probeF0 = s.grid.fLast ∧
        t.grid.probeAt = none ∧ t.grid.probePassive = true ∧ Keeps [F.GRID_RT_STATUS_PROBE] [.grid] s t) ∧
    (s.probeAllowed = true → s.probing = false → s.grid.probeAt = none → s.probeEvery ≠ 0 → s.epoch % (s.probeEvery * 800000000) = 0 →
      ∃ t, exec .probeStart s = .next t ∧ t.probing = true ∧ t.grid.probeStart = s.mono ∧ t.grid.probePassive = false ∧
        Keeps [F.GRID_RT_STATUS_PROBE] [.grid] s t) ∧
    ((s.probeAllowed = false ∨ s.probing = true) → exec .probeStart s = .next s) ∧
    (s.probing = true → s.grid.probeStart + s.gc 0x20A 2 * 800000 ≤ s.mono →
      ∃ t, exec .probeEnd s = .next t ∧ t.probing = false ∧ t.get F.GRID_RT_STATUS_PASSIVE = 0 ∧
        t.get F.GRID_ISL_CNT_PROBES = satInc F.GRID_ISL_CNT_PROBES.len (s.get F.GRID_ISL_CNT_PROBES) ∧
        Keeps [F.GRID_RT_STATUS_PROBE, F.GRID_RT_STATUS_PASSIVE, F.GRID_ISL_CNT_PROBES] [] s t)) ∧
  (∀ s : State,
    (∀ a, s.grid.timer = some a → s.conn = 1 → a + (s.gc 0x210 2 * 1000 + (s.rd R.GRID_RC_DRAW).toNat) * 800000 ≤ s.mono →
      ∃ t, exec .reconnectReady s = .next t ∧ t.get F.GRID_RT_STATUS_RC_READY = 1 ∧ Keeps [F.GRID_RT_STATUS_RC_READY] [] s t) ∧
    (s.grid.timer = none → exec .reconnectReady s = .next s) ∧
    (s.flag F.GRID_RT_CTRL_AUTO = true → s.conn = 1 → s.grid.timer.isSome = true → s.flag F.GRID_RT_STATUS_CHECK_OK = false →
      s.maintRuns Act.relayCheck = false → s.grid.checkAt ≤ s.mono → s.maintFirst Act.relayCheck → s.maintRefusal .device Act.relayCheck = none →
      ∃ t, exec .autoCheckRequest s = .next t ∧ t.maintRuns Act.relayCheck = true ∧ t.get F.DIAG_MAINT_LAST_RESULT = 1 ∧
        t.get F.RELAY_STATUS_CHECK_STEP = 1 ∧ t.relay.checkFrom = s.mono ∧
        KeepsOutside [zone R.RELAY_CFG, zone R.DIAG_MAINT_REQ] [.relay, .diag] s t) ∧
    (∀ r, s.flag F.GRID_RT_CTRL_AUTO = true → s.conn = 1 → s.grid.timer.isSome = true → s.flag F.GRID_RT_STATUS_CHECK_OK = false →
      s.maintRuns Act.relayCheck = false → s.grid.checkAt ≤ s.mono → s.maintFirst Act.relayCheck → s.maintRefusal .device Act.relayCheck = some r →
      ∃ t, exec .autoCheckRequest s = .next t ∧ t.maintRuns Act.relayCheck = false ∧ t.get F.DIAG_MAINT_LAST_RESULT = 2 ∧
        t.grid.checkAt = s.mono + 800000000 ∧ KeepsOutside [zone R.DIAG_MAINT_REQ] [.grid, .diag] s t) ∧
    (∀ a, s.grid.startAt = some a → s.conn = 3 → a ≤ s.epoch →
      ∃ t, exec .autoPwmStart s = .next t ∧ t.grid.startAt = none ∧
        (∀ u ∈ s.gridUnits, s.startRefused u = false → s.ep.stopAt.get u ≠ s.epoch + 1 → t.pwmState u = 1) ∧
        KeepsOutside [zone (R.PWM_CTRL 0), zone (R.LP_CTRL 0)] [.shadow, .raised, .pwm, .sens, .wcmp, .grid] s t) ∧
    (s.grid.startAt = none → exec .autoPwmStart s = .next s))

/-- The relay check (R390, R393 to R395, Tables RTI-4 and RTI-5): each step lasts its fixed time; its requirements met, the next begins with its action, and after the last
CHECK_OK sets; at the first that fails both relays are de-energised and the step is recorded. A check that is left outside WAIT is aborted.
Closing (R396, R397, R401, R402, Table RTI-6): an accepted request energises K1 and enters CLOSING, a refused one sets REFUSED and moves nothing. At g K1 must be closed
and VKX dead; at e, OP_K2 before a zero crossing, K2 is energised; VKX live and K2 closed make the device CONNECTED, and 60 ms without them
fail the close.
Where the spec leaves the reading open it states the model's, as log rows 53, 54 and 55 give. -/
def Obligations.RelayCheckAndClosing : Prop :=
  (∀ s : State, s.maintRuns Act.relayCheck = true →
    (s.conn = 1 → s.mono < s.relay.checkFrom + s.checkTicks (s.get F.RELAY_STATUS_CHECK_STEP) →
      ∃ t, exec .relayCheckStep s = .next t ∧ Keeps [F.RELAY_STATUS_K1_HOLD, F.RELAY_STATUS_K2_HOLD] [] s t ∧
        (∀ k : Fin 2, s.flag (relayCmdF k) = true → s.relay.cmdAt.get k + s.get F.RELAY_CFG_PULLIN * 800000 ≤ s.mono → t.flag (relayHoldF k) = true)) ∧
    (s.conn = 1 → 2 ≤ s.get F.RELAY_STATUS_CHECK_STEP → s.get F.RELAY_STATUS_CHECK_STEP ≤ 4 →
      s.relay.checkFrom + s.checkTicks (s.get F.RELAY_STATUS_CHECK_STEP) ≤ s.mono → s.checkPass (s.get F.RELAY_STATUS_CHECK_STEP) = true →
      ∃ t, exec .relayCheckStep s = .next t ∧ t.get F.RELAY_STATUS_CHECK_STEP = s.get F.RELAY_STATUS_CHECK_STEP + 1 ∧
        t.relay.checkFrom = s.mono ∧
        (s.get F.RELAY_STATUS_CHECK_STEP = 2 → t.get F.RELAY_STATUS_K1_CMD = 0) ∧ (s.get F.RELAY_STATUS_CHECK_STEP = 3 → t.get F.RELAY_STATUS_K2_CMD = 1) ∧
        (s.get F.RELAY_STATUS_CHECK_STEP = 4 → t.get F.RELAY_STATUS_K2_CMD = 0) ∧ KeepsOutside [zone R.RELAY_CFG] [.relay] s t) ∧
    (s.conn = 1 → s.get F.RELAY_STATUS_CHECK_STEP = 1 → s.relay.checkFrom + s.nomCycle ≤ s.mono → s.relayFb 0 = false → s.relayFb 1 = false →
      (s.flag F.GRID_STATUS_LOCK = false ∨ s.grid.vMean < s.vNom / 2 ∨ s.flag F.RELAY_STATUS_VKX_DEAD = true) →
      ∃ t, exec .relayCheckStep s = .next t ∧ t.get F.RELAY_STATUS_CHECK_STEP = 2 ∧ t.get F.RELAY_STATUS_K1_CMD = 1 ∧
        t.get F.RELAY_STATUS_CHECK_FB_ONLY = b2n (!s.flag F.GRID_STATUS_LOCK || decide (s.grid.vMean < s.vNom / 2)) ∧
        KeepsOutside [zone R.RELAY_CFG] [.relay] s t) ∧
    (s.conn = 1 → s.get F.RELAY_STATUS_CHECK_STEP = 5 → s.relay.checkFrom + s.checkTicks 5 ≤ s.mono → s.relayFb 1 = false →
      ∃ t, exec .relayCheckStep s = .next t ∧ t.get F.GRID_RT_STATUS_CHECK_OK = 1 ∧ t.get F.RELAY_STATUS_CHECK_STEP = 0 ∧
        t.maintRuns Act.relayCheck = false ∧ t.get (F.DIAG_MAINT_RESULT_RESULT 9) = 1 ∧
        Keeps [F.RELAY_STATUS_K1_HOLD, F.RELAY_STATUS_K2_HOLD, F.RELAY_STATUS_CHECK_STEP, F.GRID_RT_STATUS_CHECK_OK, ⟨R.DIAG_MAINT_RUN, 9, 1⟩,
          ⟨R.DIAG_MAINT_DONE, 9, 1⟩, F.DIAG_MAINT_RESULT_RESULT 9] [] s t) ∧
    (s.conn = 1 → 2 ≤ s.get F.RELAY_STATUS_CHECK_STEP → s.get F.RELAY_STATUS_CHECK_STEP ≤ 5 →
      s.relay.checkFrom + s.checkTicks (s.get F.RELAY_STATUS_CHECK_STEP) ≤ s.mono → s.checkPass (s.get F.RELAY_STATUS_CHECK_STEP) = false →
      ∃ t, exec .relayCheckStep s = .next t ∧ t.get F.RELAY_STATUS_K1_CMD = 0 ∧ t.get F.RELAY_STATUS_K2_CMD = 0 ∧
        t.get F.RELAY_STICKY_CHECK_FAIL = 1 ∧ t.get F.RELAY_REFUSE_STEP = s.get F.RELAY_STATUS_CHECK_STEP ∧
        t.get F.GRID_RT_STATUS_CHECK_OK = 0 ∧ t.maintRuns Act.relayCheck = false ∧ t.get (F.DIAG_MAINT_RESULT_RESULT 9) = 2 ∧
        t.raised = s.raised ++ [⟨FS.RELAY_CHECK_FAIL, 0⟩] ∧
        KeepsOutside [zone R.RELAY_CFG, zone R.GRID_CFG, zone R.DIAG_MAINT_REQ] [.relay, .raised] s t) ∧
    (s.conn ≠ 1 → ∃ t, exec .relayCheckStep s = .next t ∧ t.maintRuns Act.relayCheck = false ∧ t.get (F.DIAG_MAINT_RESULT_RESULT 9) = 3 ∧
      t.get F.RELAY_STATUS_K1_CMD = 0 ∧ t.get F.RELAY_STATUS_K2_CMD = 0 ∧
      KeepsOutside [zone R.RELAY_CFG, zone R.GRID_CFG, zone R.DIAG_MAINT_REQ] [.relay] s t)) ∧
  (∀ s : State,
    (∀ i, s.inFoyer = false → s.closeRefusal (i == .hpa) true = none → s.formingBlocks = false →
      ∃ t, exec (.relayCloseRequest i) s = .next t ∧ t.conn = 2 ∧ t.get F.RELAY_STATUS_K1_CMD = 1 ∧ t.relay.closeAt = s.mono ∧
        t.relay.stage = 0 ∧ t.get F.WARDEN_STATUS_PERMIT = 0 ∧
        (s.get F.WARDEN_STATUS_PERMIT = 0 →
          Keeps [F.GRID_RT_STATUS_CONN_STATE, F.RELAY_STATUS_K1_CMD, F.RELAY_STATUS_K1_HOLD, F.RELAY_CNT_K1] [.relay] s t) ∧
        KeepsOutside [zone R.GRID_CFG, zone R.RELAY_CFG, zone (R.PWM_CTRL 0), zone R.WARDEN_STATUS] [.relay, .pwm] s t) ∧
    (∀ i, s.inFoyer = false → s.closeRefusal (i == .hpa) true = none → s.formingBlocks = true →
      ∃ t, exec (.relayCloseRequest i) s = .next t ∧ t.get F.RELAY_STICKY_REFUSED = 1 ∧
        Keeps [F.RELAY_STICKY_REFUSED, F.RELAY_REFUSE_REASON] [.draws] s t) ∧
    (∀ i, s.inFoyer = false → (i ≠ .hpa ∨ s.conn ≠ 1 ∨ s.flag F.GRID_RT_STATUS_RC_READY = false ∨ s.flag F.GRID_RT_STATUS_CHECK_OK = false ∨
        s.maintRuns Act.relayCheck = true ∨ s.maintRuns Act.isoCheck = true ∨ s.gridOn = false ∨
        (∃ u ∈ s.gridUnits, s.pwmState u ≠ 0 ∨ s.laneState (u - 8) ≠ 1 ∨ bitOf (s.get (F.LANE_STAT_STATUS (u - 8))) 7 = false)) →
      ∃ t, exec (.relayCloseRequest i) s = .next t ∧ t.get F.RELAY_STICKY_REFUSED = 1 ∧
        (s.conn ≠ 1 → t.get F.RELAY_REFUSE_REASON = 1) ∧ Keeps [F.RELAY_STICKY_REFUSED, F.RELAY_REFUSE_REASON] [] s t) ∧
    (∀ i, s.inFoyer = true → ∃ t, exec (.relayCloseRequest i) s = .next t ∧ Refused .grid FS.GRID_CFG s t) ∧
    (s.conn = 2 → s.relay.stage = 0 → s.relay.closeAt + (s.get F.RELAY_CFG_PULLIN + 20) * 800000 ≤ s.mono → s.relayFb 0 = true →
      s.flag F.RELAY_STATUS_VKX_DEAD = true →
      ∃ t, exec .relayCloseStep s = .next t ∧ t.relay.stage = 1 ∧ t.conn = 2 ∧ Keeps [F.RELAY_STATUS_K1_HOLD, F.RELAY_STATUS_K2_HOLD] [.relay] s t) ∧
    (∀ g e : Nat, s.conn = 2 → s.relay.stage = 1 → g = s.relay.closeAt + (s.get F.RELAY_CFG_PULLIN + 20) * 800000 →
      e = s.closeTick (((g : Int) + s.ep.base).toNat) → s.monoOf e ≤ s.mono →
      ∃ t, exec .relayCloseStep s = .next t ∧ t.relay.stage = 2 ∧ t.get F.RELAY_STATUS_K2_CMD = 1 ∧ t.relay.k2At = s.mono ∧
        KeepsOutside [zone R.RELAY_CFG] [.relay] s t) ∧
    (s.conn = 2 → s.relay.stage = 2 → (s.flag F.RELAY_STATUS_VKX_LIVE = true ∨ (s.relay.vkxHi = true ∧ s.relay.vkxLo = true)) → s.relayFb 1 = true →
      ∃ t, exec .relayCloseStep s = .next t ∧ t.conn = 3 ∧ t.rd R.RELAY_CLOSE_TICK = BitVec.ofNat 32 s.epoch ∧
        (s.gc 0x214 4 ≠ 0 → t.rd R.GRID_RC_CEIL = 0#32 ∧ t.grid.pRc = some 0) ∧
        (s.flag F.GRID_RT_CTRL_AUTO = true →
          t.grid.startAt = some ((s.epoch + 800 + s.get (F.PWM_PERIOD 8) - 1) / s.get (F.PWM_PERIOD 8) * s.get (F.PWM_PERIOD 8))) ∧
        (s.flag F.GRID_RT_CTRL_AUTO = false → t.grid.startAt = none) ∧
        KeepsOutside [zone R.RELAY_CFG, zone R.GRID_CFG] [.relay, .grid] s t) ∧
    (s.conn = 2 → ((s.relay.stage = 0 ∧ s.relay.closeAt + (s.get F.RELAY_CFG_PULLIN + 20) * 800000 ≤ s.mono ∧
          (s.relayFb 0 = false ∨ s.flag F.RELAY_STATUS_VKX_DEAD = false)) ∨
        (s.relay.stage = 2 ∧ s.relay.k2At + 48000000 ≤ s.mono ∧ s.relayFb 1 = false)) →
      ∃ t, exec .relayCloseStep s = .next t ∧ t.conn = 4 ∧ t.get F.RELAY_STICKY_CLOSE_FAIL = 1 ∧ t.get F.GRID_TRIP_INFO_CAUSE = 9 ∧
        t.get F.RELAY_STATUS_K1_CMD = 0 ∧ t.get F.RELAY_STATUS_K2_CMD = 0 ∧ t.raised = s.raised ++ [⟨FS.RELAY_CLOSE_FAIL, 0⟩] ∧
        KeepsOutside [zone R.RELAY_CFG, zone R.GRID_CFG] [.relay, .raised, .draws, .cour] s t) ∧
    (s.conn ≠ 2 → ∃ t, exec .relayCloseStep s = .next t ∧ Keeps [F.RELAY_STATUS_K1_HOLD, F.RELAY_STATUS_K2_HOLD] [] s t))

/-- Trips and opening (R398, R399): HPA's open request trips with cause HOST: the grid units stop, both relays are de-energised and OPENING is entered; another initiator's
is refused. In OPENING a contact that still reads closed is a weld, and ends in LOCKOUT. A feedback open for 20 ms while CONNECTED trips with cause RELAY.
Where the spec leaves the reading open it states the model's, as log rows 52 and 53 give. The clauses in which a command changes nothing
because its condition does not hold state the model's choice (log row 15). -/
def Obligations.TripsAndOpening : Prop :=
  ∀ s : State,
  (∃ t, exec (.gridOpenRequest .hpa) s = .next t ∧ (s.conn ≠ 4 → s.conn ≠ 5 → t.conn = 4 ∧ t.relay.openFrom = s.mono) ∧
    ((s.conn = 4 ∨ s.conn = 5) → t.conn = s.conn) ∧
    t.get F.RELAY_STATUS_K1_CMD = 0 ∧ t.get F.RELAY_STATUS_K2_CMD = 0 ∧ t.get F.GRID_RT_STATUS_CHECK_OK = 0 ∧
    t.get F.GRID_RT_STATUS_OP_STATE = 0 ∧ t.get F.GRID_TRIP_INFO_CAUSE = 7 ∧ t.rd R.GRID_TRIP_TICK = BitVec.ofNat 32 s.epoch ∧
    t.get F.GRID_RT_STICKY_TRIPPED = 1 ∧ t.raised = s.raised ++ [⟨FS.GRID_TRIP, 0⟩] ∧
    (∀ u ∈ s.gridUnits, s.pwmState u ≠ 3 → t.pwmState u = 0) ∧
    KeepsOutside [zone R.GRID_CFG, zone R.RELAY_CFG, zone (R.PWM_CTRL 0)]
      [.shadow, .raised, .draws, .pwm, .drive, .grid, .relay, .cour] s t) ∧
  (∀ i, i ≠ .hpa → ∃ t, exec (.gridOpenRequest i) s = .next t ∧ Refused .grid FS.GRID_CFG s t) ∧
  (s.conn = 4 → s.relay.openFrom + (s.get F.RELAY_CFG_REL_MAX + 20) * 800000 ≤ s.mono → (s.relayFb 0 = true ∨ s.relayFb 1 = true) →
    ∃ t, exec .relayOpeningCheck s = .next t ∧ t.conn = 5 ∧ t.get F.RELAY_STICKY_WELD = 1 ∧ t.raised = s.raised ++ [⟨FS.RELAY_FAULT, 0⟩] ∧
      Keeps [F.GRID_RT_STATUS_CONN_STATE, F.RELAY_STICKY_WELD] [.raised] s t) ∧
  (s.conn = 4 → s.relay.openFrom + (s.get F.RELAY_CFG_REL_MAX + 20) * 800000 ≤ s.mono → s.relayFb 0 = false → s.relayFb 1 = false →
    ∃ t, exec .relayOpeningCheck s = .next t ∧
      (s.connAble = true → t.conn = 1 ∧ t.grid.timer = none ∧ t.get F.GRID_RT_STATUS_RC_READY = 0 ∧
        (t.rd R.GRID_RC_DRAW).toNat ≤ s.gc 0x212 2 * 1000) ∧
      (s.connAble = false → t.conn = 0) ∧
      Keeps [F.GRID_RT_STATUS_CONN_STATE, F.GRID_RT_STATUS_RC_READY, whole R.GRID_RC_DRAW] [.draws, .grid] s t) ∧
  (s.conn ≠ 4 → exec .relayOpeningCheck s = .next s) ∧
  (s.conn = 3 → (s.fbLost 0 = true ∨ s.fbLost 1 = true) →
    ∃ t, exec .relayFbLost s = .next t ∧ t.conn = 4 ∧ t.get F.RELAY_STICKY_FB_LOST = 1 ∧ t.get F.GRID_TRIP_INFO_CAUSE = 6 ∧
      t.raised = s.raised ++ [⟨FS.RELAY_FAULT, 0⟩, ⟨FS.GRID_TRIP, 0⟩] ∧
      KeepsOutside [zone R.GRID_CFG, zone R.RELAY_CFG, zone (R.PWM_CTRL 0)]
        [.shadow, .raised, .draws, .pwm, .drive, .grid, .relay, .cour] s t) ∧
  (s.fbLost 0 = false → s.fbLost 1 = false → exec .relayFbLost s = .next s)

/-! ### Metering and the Vault (chapter 12) -/

/-- Metering's enable, disable and stop (R412 to R415, R439, Table MTR-4): an admitted enable claims the metered rings and runs; a refused one, as any that finds a metered ring enabled, does nothing else; EN = 0 takes effect
when no cycle in progress is left; a lockstep mismatch of SP stops metering at once, and is raised.
Reads of the totals and deltas (R423, R424): a read of METER_DELTA answers the delta and clears it; a read of METER_TOT_LO answers the low word of the total and latches
the high one.
Where the spec leaves the reading open it states the model's, as log rows 56 and 60 give. The clauses in which a command changes nothing
because its condition does not hold state the model's choice (log row 15). -/
def Obligations.MeteringRunsStopsAndReads : Prop :=
  (∀ s : State,
    (s.meterRefused .hpa = false →
      ∃ t, exec (.meterEnable .hpa) s = .next t ∧ t.flag F.METER_CTRL_EN = true ∧ t.meterRun = true ∧
        t.get F.METER_STATUS_PHASES = 2 ^ topoPhases s.gridTopo - 1 ∧ t.rd R.METER_GAP = 0#32 ∧ t.meter.enTick = s.epoch ∧
        t.meter.cycles = [] ∧ t.meter.hist = false ∧
        (∀ k ∈ meterChs s.gridTopo, t.ringOn k = true ∧ t.rd (R.CH_RING_RD k) = 0#32 ∧ t.rd (R.CH_RING_BASE k) = BitVec.ofNat 32 (meterRing k)) ∧
        KeepsOutside [zone R.METER_CTRL, zone R.SENSG_STATUS] [.sens, .meter] s t) ∧
    (∀ i, (s.meterRefused i = true ∨ ∃ k ∈ meterChs s.gridTopo, s.ringOn k = true) →
      ∃ t, exec (.meterEnable i) s = .next t ∧ Refused .meter FS.METER_CFG s t) ∧
    (s.inFoyer = false → s.flag F.METER_CTRL_EN = false → exec (.meterDisable .hpa) s = .next s) ∧
    (s.inFoyer = false → s.flag F.METER_CTRL_EN = true → s.meterCycleLeft s.epoch = true →
      ∃ t, exec (.meterDisable .hpa) s = .next t ∧ t.flag F.METER_CTRL_EN = false ∧ t.meterRun = s.meterRun ∧
        t.meter.stopAt = some s.epoch ∧ Keeps [F.METER_CTRL_EN] [.meter] s t) ∧
    (s.inFoyer = false → s.flag F.METER_CTRL_EN = true → s.meterCycleLeft s.epoch = false →
      ∃ t, exec (.meterDisable .hpa) s = .next t ∧ t.flag F.METER_CTRL_EN = false ∧ t.meterRun = false ∧
        (s.meterRun = true → ∀ k ∈ meterChs s.gridTopo, t.ringOn k = false) ∧
        KeepsOutside [zone R.METER_CTRL, zone R.SENSG_STATUS] [.sens, .meter] s t) ∧
    (∀ i, (i ≠ .hpa ∨ s.inFoyer = true) → ∃ t, exec (.meterDisable i) s = .next t ∧ Refused .meter FS.METER_CFG s t) ∧
    (s.pdOn 6 = true →
      ∃ t, exec .spLockstepMismatch s = .next t ∧ t.meterRun = false ∧ t.raised = s.raised ++ [⟨FS.SP_LOCKSTEP, 0⟩] ∧
        (s.meterRun = true → t.flag F.METER_CTRL_EN = false ∧ ∀ k ∈ meterChs s.gridTopo, t.ringOn k = false) ∧
        KeepsOutside [zone R.METER_CTRL, zone R.SENSG_STATUS] [.raised, .sens, .meter] s t)) ∧
  (∀ (s : State) (i : Initiator) (q p : Fin 4),
    (∃ t, exec (.meterDeltaRead i q p) s = .next t ∧ t.resp.words = [s.rd (R.METER_DELTA q p)] ∧ t.rd (R.METER_DELTA q p) = 0#32 ∧
      Keeps [whole (R.METER_DELTA q p)] [.resp] s t) ∧
    (∃ t, exec (.meterTotRead i q p) s = .next t ∧ t.resp.words = [BitVec.ofNat 32 (s.meter.tot.get (4 * q + p))] ∧
      t.rd (R.METER_TOT_HI q p) = BitVec.ofNat 32 (s.meter.tot.get (4 * q + p) / 2 ^ 32) ∧ Keeps [whole (R.METER_TOT_HI q p)] [.resp] s t))

/-- A metered cycle (R415 to R422, R433): the oldest complete cycle whose samples are in the rings is processed, and the device leaves RING_RD where it is (R143). One whose samples were overwritten is a
gap, counted and raised; the first after an enable, or one in a power failure, is a gap; any other is metered, and the LATCH_N-th latches, with the next tally word. A latch that waited for a compaction comes first (R437).
Where the spec leaves the reading open it states the model's, as log row 56 gives. -/
def Obligations.MeteredCycles : Prop :=
  ∀ (s : State) (bad a b : Nat) (rest : List (Nat × Nat)),
  s.meter.cycles = (a, b) :: rest → s.meter.stopAt = none → s.maintRuns Act.vaultCompact = false →
  (∀ d, s.meter.due = some d →
    ∃ t, exec (.meterCycleProcess bad) s = .next t ∧ t.meter.due = none ∧ t.meter.cycles = s.meter.cycles ∧
      t.rd R.METER_LATCH_NO = s.rd R.METER_LATCH_NO + 1#32 ∧ t.rd R.METER_LATCH_TICK = BitVec.ofNat 32 d ∧
      t.get F.METER_STICKY_LATCH = 1 ∧ KeepsBytesOutside 0x10FE0000 0x10FF1000 s t ∧
      KeepsOutside [zone R.METER_CTRL] [.mem, .raised, .draws, .meter] s t) ∧
  (s.meter.due = none → s.meterRun = true → (∀ k ∈ meterChs s.gridTopo, s.meter.rd + 256 ≤ (s.rd (R.CH_RING_WR k)).toNat) →
  ∃ t, exec (.meterCycleProcess bad) s = .next t ∧ t.meter.cycles = rest ∧ t.meter.rd = s.meter.rd + 256 ∧ t.meter.hist = true ∧
    ((∃ k ∈ meterChs s.gridTopo, s.meter.rd + 1024 < (s.rd (R.CH_RING_WR k)).toNat) →
      t.get F.METER_STICKY_CYCLE_LOST = 1 ∧ t.raised = s.raised ++ [⟨FS.METER_CYCLE_LOST, 0⟩] ∧ t.meter.gap = s.meter.gap + (b - s.meter.doneTo) ∧
      t.meter.n = s.meter.n ∧ t.rd R.METER_LATCH_NO = s.rd R.METER_LATCH_NO) ∧
    ((∀ k ∈ meterChs s.gridTopo, (s.rd (R.CH_RING_WR k)).toNat ≤ s.meter.rd + 1024) → (s.meter.hist = false ∨ s.meter.failed a b = true) →
      t.raised = s.raised ∧ t.meter.gap = s.meter.gap + (b - s.meter.doneTo) ∧ t.meter.n = s.meter.n ∧
      t.rd R.METER_LATCH_NO = s.rd R.METER_LATCH_NO) ∧
    ((∀ k ∈ meterChs s.gridTopo, (s.rd (R.CH_RING_WR k)).toNat ≤ s.meter.rd + 1024) → s.meter.hist = true → s.meter.failed a b = false →
      s.meter.resume = false →
      t.meter.gap = s.meter.gap + (a - s.meter.doneTo) ∧
      (s.meter.n + 1 < s.get F.METER_CFG_LATCH_N →
        t.meter.n = s.meter.n + 1 ∧ t.meter.len = s.meter.len + (b - a) ∧ t.rd R.METER_LATCH_NO = s.rd R.METER_LATCH_NO) ∧
      (s.get F.METER_CFG_LATCH_N ≤ s.meter.n + 1 →
        t.meter.n = 0 ∧ t.meter.len = 0 ∧ t.rd R.METER_LATCH_NO = s.rd R.METER_LATCH_NO + 1#32 ∧ t.rd R.METER_LATCH_TICK = BitVec.ofNat 32 b ∧
        t.get F.METER_STICKY_LATCH = 1 ∧ t.rdW (tallySlot s.meter.talSlot) = BitVec.ofNat 32 (tallyWord (t.rd R.METER_LATCH_NO).toNat) ∧
        t.meter.talSlot = (s.meter.talSlot + 1) % 1024)) ∧
    KeepsBytesOutside 0x10FE0000 0x10FF1000 s t ∧
    KeepsOutside [zone R.METER_CTRL] [.mem, .raised, .draws, .meter] s t)

/-- The Vault (R428 to R433, R437): the scan at the power-up of PD6 finds the newest record and makes the Vault ready, an empty one being new, with VAULT_GAP unless that record is a PARTIAL as new as the tally; compaction writes the newest
record again as a CHECKPOINT in the next slot and makes the latch that waited.
Where the spec leaves the reading open it states the model's, as log row 58 gives. The clauses in which a command changes nothing because
its condition does not hold state the model's choice (log row 15). -/
def Obligations.VaultScanAndCompaction : Prop :=
  ∀ s : State,
  (s.pdOn 6 = true → s.flag F.METER_STATUS_VAULT_READY = false →
    ∃ t, exec .vaultScan s = .next t ∧ t.flag F.METER_STATUS_VAULT_READY = true ∧
      (s.vaultNewest = none → t.get F.METER_STATUS_VAULT_NEW = 1 ∧ t.meter.slot = 0 ∧ t.meter.seq = 0 ∧ t.get F.METER_STICKY_VAULT_GAP = 1 ∧
        t.raised = s.raised ++ [⟨FS.METER_VAULT_GAP, 0⟩] ∧ ∀ q : Fin 4, t.rd (R.METER_TOT_LO q 3) = 0#32) ∧
      (∀ k, s.vaultNewest = some k → t.meter.slot = (k + 1) % 1024 ∧ t.meter.seq = (s.vaultFld k 4 4 + 1) % 2 ^ 32 ∧
        (∀ q : Fin 2, t.meter.tot.get (4 * q + 3) = s.vaultFld k (0x10 + 8 * q) 8 ∧
          t.rd (R.METER_TOT_LO q 3) = BitVec.ofNat 32 (s.vaultFld k (0x10 + 8 * q) 8)) ∧
        (s.vaultFld k 0 1 ≠ 2 → t.get F.METER_STICKY_VAULT_GAP = 1 ∧ t.raised = s.raised ++ [⟨FS.METER_VAULT_GAP, 0⟩]) ∧
        (s.tallyHighest (s.vaultFld k 8 4) = none → t.rd R.METER_LATCH_NO = BitVec.ofNat 32 (s.vaultFld k 8 4) ∧
          (s.vaultFld k 0 1 = 2 → t.raised = s.raised ∧ t.get F.METER_STICKY_VAULT_GAP = s.get F.METER_STICKY_VAULT_GAP))) ∧
      (s.vaultBad ≠ (0, 0) → t.get F.METER_STICKY_VAULT_CRC = 1) ∧ KeepsOutside [zone R.METER_CTRL] [.raised, .meter] s t) ∧
  ((s.pdOn 6 = false ∨ s.flag F.METER_STATUS_VAULT_READY = true) → exec .vaultScan s = .next s) ∧
  (∀ bad bad2, s.maintRuns Act.vaultCompact = true →
    ∃ t, exec (.vaultCompactEnd bad bad2) s = .next t ∧ t.maintRuns Act.vaultCompact = false ∧ t.get (F.DIAG_MAINT_RESULT_RESULT 11) = 1 ∧
      (s.meter.due = none → s.vaultNewest = none → t.meter.slot = s.meter.slot ∧ ∀ x, t.rdB x = s.rdB x) ∧
      (∀ k, s.meter.due = none → s.vaultNewest = some k → bad = 0 →
        t.vaultValid (s.meter.slot % 1024) = true ∧ t.vaultFld s.meter.slot 0 1 = 3 ∧ t.vaultFld s.meter.slot 8 4 = s.vaultFld k 8 4 ∧
        t.meter.slot = (s.meter.slot + 1) % 1024 ∧ KeepsBytesOutside (vaultSlot s.meter.slot) (vaultSlot s.meter.slot + 0x40) s t) ∧
      (∀ b, s.meter.due = some b → t.meter.due = none ∧ t.rd R.METER_LATCH_NO = s.rd R.METER_LATCH_NO + 1#32 ∧
        t.rd R.METER_LATCH_TICK = BitVec.ofNat 32 b) ∧
      KeepsBytesOutside 0x10FE0000 0x10FF1000 s t ∧
      (s.meter.stopAt = none → KeepsOutside [zone R.METER_CTRL, zone R.DIAG_MAINT_REQ] [.mem, .raised, .draws, .meter] s t) ∧
      KeepsOutside [zone R.METER_CTRL, zone R.DIAG_MAINT_REQ, zone R.SENSG_STATUS] [.mem, .raised, .draws, .meter, .sens] s t) ∧
  (∀ bad bad2, s.maintRuns Act.vaultCompact = false → exec (.vaultCompactEnd bad bad2) s = .next s)

/-! ### Arc detection, diagnostics and the maintenance arbiter (chapter 13) -/

/-- Arc detection (R441, R442, R445 to R447): an admitted enable claims the input's ring and starts 64 frames of warm-up; EN = 0 releases it. A frame whose samples are all
written is evaluated, or skipped where a sample is flagged, overwritten or blocked.
I-V traces and the insulation check (R449 to R452, Table ARB-1): when a point's dwell has passed its entry is written and the next reference is lent; after the last both
slots return to 0.0 and the activity ends. The insulation check passes its four events; its last result is judged against ISO_LIMIT.
Where the spec leaves the reading open it states the model's, as log rows 61, 63 and 64 give. The clauses in which a command changes nothing
because its condition does not hold state the model's choice (log row 15). -/
def Obligations.ArcDetectionTracesAndInsulation : Prop :=
  (∀ (s : State) (x : Fin 4),
    (s.arcRefused .hpa x = false →
      ∃ t, exec (.arcEnable .hpa x) s = .next t ∧ t.arcOn x = true ∧ t.get (F.DIAG_ARC_STAT_STATE x) = 1 ∧ t.ringOn (4 + x) = true ∧
        t.rd (R.CH_RING_BASE (4 + x)) = BitVec.ofNat 32 (0x31060000 + 0x2000 * x) ∧ (t.diag.arc.get x).warm = 0 ∧ (t.diag.arc.get x).results = [] ∧
        Keeps [⟨R.DIAG_ARC_CTRL, x, 1⟩, F.DIAG_ARC_STAT_STATE x, whole (R.CH_RING_BASE (4 + x)), F.CH_RING_CTRL_SIZE_LOG2 (4 + x), F.CH_RING_CTRL_EN (4 + x),
          whole (R.CH_RING_RD (4 + x)), whole (R.CH_RING_WR (4 + x))] [.sens, .diag] s t) ∧
    (∀ i, (s.arcRefused i x = true ∨ s.ringOn (4 + x) = true) →
      ∃ t, exec (.arcEnable i x) s = .next t ∧ Refused .diag FS.DIAG_CFG s t) ∧
    (s.inFoyer = false → s.arcOn x = true →
      ∃ t, exec (.arcDisable .hpa x) s = .next t ∧ t.arcOn x = false ∧ t.ringOn (4 + x) = false ∧ t.get (F.DIAG_ARC_STAT_STATE x) = 0 ∧
        t.get (F.DIAG_ARC_STAT_COUNT x) = 0 ∧
        Keeps [⟨R.DIAG_ARC_CTRL, x, 1⟩, F.CH_RING_CTRL_EN (4 + x), F.DIAG_ARC_STAT_STATE x, F.DIAG_ARC_STAT_COUNT x] [.sens, .diag] s t) ∧
    (∀ i, (i ≠ .hpa ∨ s.inFoyer = true) → ∃ t, exec (.arcDisable i x) s = .next t ∧ Refused .diag FS.DIAG_CFG s t) ∧
    (s.inFoyer = false → s.arcOn x = false → exec (.arcDisable .hpa x) s = .next s) ∧
    (s.arcOn x = true → 409600 * ((s.diag.arc.get x).frame + 1) ≤ s.epoch →
      409600 * ((s.diag.arc.get x).frame + 1) < (s.sens.ch.get (4 + x)).nextT →
      s.arcIndex x (409600 * ((s.diag.arc.get x).frame + 1)) < (s.rd (R.CH_RING_WR (4 + x))).toNat →
      ∃ t, exec (.arcFrameEvaluate x) s = .next t ∧ (t.diag.arc.get x).frame = (s.diag.arc.get x).frame + 1 ∧
        ((t.get (F.DIAG_ARC_FRAMES_SKIPPED x) = (s.get (F.DIAG_ARC_FRAMES_SKIPPED x) + 1) % 65536 ∧ t.raised = s.raised) ∨
          t.get (F.DIAG_ARC_FRAMES_EVALUATED x) = (s.get (F.DIAG_ARC_FRAMES_EVALUATED x) + 1) % 65536) ∧
        ((s.arcWords x (s.arcIndex x (409600 * (s.diag.arc.get x).frame + 400))).any (fun w => bitOf w 16 || bitOf w 17 || bitOf w 19 || bitOf w 29) = true →
          t.get (F.DIAG_ARC_FRAMES_SKIPPED x) = (s.get (F.DIAG_ARC_FRAMES_SKIPPED x) + 1) % 65536) ∧
        ((s.diag.arc.get x).warm < 64 → t.raised = s.raised) ∧
        (t.raised = s.raised ∨ (t.raised = s.raised ++ [⟨FS.DIAG_ARC x, x⟩] ∧ t.flag ⟨R.DIAG_STICKY, 4 + x, 1⟩ = true ∧
          t.rd (R.DIAG_ARC_TICK x) = BitVec.ofNat 32 (409600 * (s.diag.arc.get x).frame + 409600))) ∧
        Keeps [F.DIAG_ARC_FRAMES_SKIPPED x, F.DIAG_ARC_FRAMES_EVALUATED x, F.DIAG_ARC_STAT_STATE x, F.DIAG_ARC_STAT_COUNT x,
          F.DIAG_ARC_STAT_LAST_BANDS x, ⟨R.DIAG_STICKY, 4 + x, 1⟩, whole (R.DIAG_ARC_TICK x)] [.diag, .raised] s t)) ∧
  (∀ s : State,
    (∀ x : Fin 4, s.maintRuns (4 + x) = true → (s.diag.iv.get x).point < 511 →
      (s.diag.iv.get x).at_ ((s.diag.iv.get x).point + 1) ≤ s.mono → (s.diag.iv.get x).pair < 6 →
      0x20000000 ≤ (s.rd R.DIAG_IV_BASE).toNat → (s.rd R.DIAG_IV_BASE).toNat + 4096 ≤ 0x20400000 →
      ∃ t, exec (.ivTracePoint x) s = .next t ∧ (t.diag.iv.get x).point = (s.diag.iv.get x).point + 1 ∧
        t.get F.DIAG_IV_STATUS_DONE = (s.diag.iv.get x).point + 1 ∧ (t.diag.iv.get x).n = 0 ∧
        t.rdW ((s.rd R.DIAG_IV_BASE).toNat + 8 * (s.diag.iv.get x).point + 4) =
          BitVec.ofNat 32 ((s.diag.iv.get x).n * 65536 + bitsOf (s.diag.iv.get x).qual 0 5) ∧
        t.rdW (tcmBase (s.diag.iv.get x).pair + 0x4000 + 4 * 246) = 0x3F800000#32 ∧
        t.rdW (tcmBase (s.diag.iv.get x).pair + 0x4000 + 4 * 247) = (s.diag.iv.get x).ref ((s.diag.iv.get x).point + 1) ∧
        (∀ a, (a < (s.rd R.DIAG_IV_BASE).toNat + 8 * (s.diag.iv.get x).point ∨ (s.rd R.DIAG_IV_BASE).toNat + 8 * (s.diag.iv.get x).point + 8 ≤ a) →
          (a < tcmBase (s.diag.iv.get x).pair + 0x4000 + 4 * 246 ∨ tcmBase (s.diag.iv.get x).pair + 0x4000 + 4 * 248 ≤ a) →
          t.rdB a = s.rdB a) ∧
        Keeps [F.DIAG_IV_STATUS_DONE, F.DIAG_IV_STATUS_NOWIN] [.mem, .shadow, .draws, .diag] s t) ∧
    (∀ x : Fin 4, s.maintRuns (4 + x) = true → (s.diag.iv.get x).point = 511 → (s.diag.iv.get x).at_ 512 ≤ s.mono →
      ∃ t, exec (.ivTraceEnd x) s = .next t ∧ t.maintRuns (4 + x) = false ∧
        t.rdW (tcmBase (s.diag.iv.get x).pair + 0x4000 + 4 * 246) = 0#32 ∧ t.rdW (tcmBase (s.diag.iv.get x).pair + 0x4000 + 4 * 247) = 0#32 ∧
        ((s.diag.iv.get x).noWin = 0 → (s.diag.iv.get x).n ≠ 0 → t.get (F.DIAG_MAINT_RESULT_RESULT (4 + x)) = 1) ∧
        (((s.diag.iv.get x).noWin ≠ 0 ∨ (s.diag.iv.get x).n = 0) → t.get (F.DIAG_MAINT_RESULT_RESULT (4 + x)) = 2 ∧ t.get F.DIAG_STICKY_IV_NOWIN = 1) ∧
        (∀ a, (a < (s.rd R.DIAG_IV_BASE).toNat + 8 * 511 ∨ (s.rd R.DIAG_IV_BASE).toNat + 8 * 512 ≤ a) →
          (a < tcmBase (s.diag.iv.get x).pair + 0x4000 + 4 * 246 ∨ tcmBase (s.diag.iv.get x).pair + 0x4000 + 4 * 248 ≤ a) →
          t.rdB a = s.rdB a) ∧
        KeepsOutside [zone R.DIAG_MAINT_REQ] [.mem, .shadow, .draws, .pwm, .diag] s t) ∧
    (∀ x : Fin 4, s.maintRuns (4 + x) = false → exec (.ivTracePoint x) s = .next s ∧ exec (.ivTraceEnd x) s = .next s) ∧
    (∀ sum, s.maintRuns Act.isoCheck = true → s.diag.iso.step < 3 → s.diag.iso.grant + isoAt s.diag.iso.step ≤ s.mono →
      ∃ t, exec (.isoCheckStep sum) s = .next t ∧ t.diag.iso.step = s.diag.iso.step + 1 ∧
        (s.diag.iso.step = 1 → t.diag.iso.va = s.isoCode sum) ∧ Keeps [] [.diag] s t) ∧
    (∀ sum, s.maintRuns Act.isoCheck = true → s.diag.iso.step = 3 → s.diag.iso.grant + 1200000000 ≤ s.mono →
      ∃ t, exec (.isoCheckStep sum) s = .next t ∧ t.maintRuns Act.isoCheck = false ∧ t.get (F.DIAG_MAINT_RESULT_RESULT 8) = 1 ∧
        t.get F.DIAG_ISO_RESULT_STATE = (s.isoResult (s.diag.iso.va / 32768 * 80) (s.isoCode sum / 32768 * 80)).1 ∧
        t.get F.DIAG_ISO_RESULT_VALUE = (s.isoResult (s.diag.iso.va / 32768 * 80) (s.isoCode sum / 32768 * 80)).2.1 ∧
        (∀ r, (s.isoResult (s.diag.iso.va / 32768 * 80) (s.isoCode sum / 32768 * 80)).2.2 = some r →
          (r < (s.get F.DIAG_ISO_LIMIT_LIMIT : Rat) → t.get F.DIAG_STICKY_ISO_LOW = 1 ∧ t.raised = s.raised ++ [⟨FS.DIAG_ISO_LOW, 0⟩]) ∧
          (¬ r < (s.get F.DIAG_ISO_LIMIT_LIMIT : Rat) → t.raised = s.raised)) ∧
        Keeps [F.DIAG_ISO_RESULT_STATE, F.DIAG_ISO_RESULT_VALUE, whole R.DIAG_ISO_V, ⟨R.DIAG_MAINT_RUN, 8, 1⟩, ⟨R.DIAG_MAINT_DONE, 8, 1⟩,
          F.DIAG_MAINT_RESULT_RESULT 8, F.DIAG_STICKY_ISO_LOW] [.raised] s t))

/-- Maintenance requests (R454 to R457, Tables ARB-2 to ARB-4, ARB-8): the first request of a tick for its activity, with none of a higher priority ahead of it, is
recorded in DIAG_MAINT_LAST; a second one at that tick is the same request. It is refused while start-up runs or its conditions are not met (2), where
the requester may not make it (3), where the image disables it (4), and where it conflicts with a running activity (1), whose code is reported; otherwise
it is granted, runs and is counted.
The ends and aborts of activities (R456, R458 to R460): BIST comes due at each multiple of 40,000,000 ticks and raises its source where it finds a fault; an end releases the
activity with its result; an abort ends the activities it names, but for one whose normal end falls at that tick and a calibration past its 1,360,000 ticks.
Where the spec leaves the reading open it states the model's, as log row 62 gives. The clauses in which a command changes nothing because
its condition does not hold state the model's choice (log row 15). -/
def Obligations.MaintenanceActivities : Prop :=
  (∀ (s : State) (i : Initiator) (x : Fin 4),
    ∀ q ∈ [(Instr.requestSensCalP i, Requester.reg i, 1), (.requestSensCalG i, .reg i, 2), (.requestWcmpTest i, .reg i, 3), (.requestIvTrace i x, .reg i, 4 + x.val),
        (.requestIsoCheck i, .reg i, 8), (.requestRelayCheck i, .reg i, 9), (.requestMramProgram none, .staging, 10), (.requestMramProgram (some i), .reg i, 10),
        (.requestVaultCompact i, .reg i, 11), (.requestBistPeriodic i, .reg i, 12)],
      (s.maintAhead s.epoch q.2.2 = [] → s.diag.reqAt = some s.epoch → q.2.2 ∈ s.diag.reqs → exec q.1 s = .next s) ∧
      (∀ why blk, s.maintFirst q.2.2 → s.maintRefusal q.2.1 q.2.2 = some (why, blk) →
        ∃ t, exec q.1 s = .next t ∧ t.get F.DIAG_MAINT_LAST_CODE = q.2.2 ∧ t.get F.DIAG_MAINT_LAST_RESULT = 2 ∧
          t.get F.DIAG_MAINT_LAST_REASON = why ∧ t.get F.DIAG_MAINT_LAST_BLOCKER = blk ∧ t.flag ⟨R.DIAG_MAINT_REFUSED, q.2.2, 1⟩ = true ∧
          (s.startingUp = true → why = 2) ∧
          (s.startingUp = false → mayRequest q.2.1 q.2.2 = false → why = 3) ∧
          (s.startingUp = false → mayRequest q.2.1 q.2.2 = true → s.maintDisabled q.2.2 = true → why = 4) ∧
          (∀ d, s.startingUp = false → mayRequest q.2.1 q.2.2 = true → s.maintDisabled q.2.2 = false → s.conflictOf q.2.2 = some d → why = 1 ∧ blk = d) ∧
          Keeps [whole R.DIAG_MAINT_LAST, ⟨R.DIAG_MAINT_REFUSED, q.2.2, 1⟩] [.diag] s t) ∧
      (s.maintFirst q.2.2 → s.startingUp = false → mayRequest q.2.1 q.2.2 = true → s.maintDisabled q.2.2 = false → s.conflictOf q.2.2 = none → s.maintAble q.2.2 = true →
        ∃ t, exec q.1 s = .next t ∧ t.get F.DIAG_MAINT_LAST_CODE = q.2.2 ∧ t.get F.DIAG_MAINT_LAST_RESULT = 1 ∧
          t.get (F.DIAG_MAINT_RESULT_RUNS q.2.2) = satInc 16 (s.get (F.DIAG_MAINT_RESULT_RUNS q.2.2)) ∧
          (q.2.2 ≠ 3 → t.maintRuns q.2.2 = true) ∧ (q.2.2 = 9 → t.get F.RELAY_STATUS_CHECK_STEP = 1) ∧
          (4 ≤ q.2.2 → q.2.2 ≤ 7 → t.rd R.DIAG_IV_TICK = BitVec.ofNat 32 s.epoch ∧ (t.diag.iv.get (q.2.2 - 4)).point = 0) ∧
          (q.2.2 = 8 → t.diag.iso = { grant := s.mono, step := 0, va := 0 }) ∧
          KeepsOutside [zone R.DIAG_MAINT_REQ, zone R.SENSP_STATUS, zone R.SENSG_STATUS, zone R.WCMPP_STATUS, zone R.WCMPG_STATUS, zone R.RELAY_CFG,
            zone R.DRV_STATUS, zone R.LANE_STATUS] [.mem, .shadow, .pwm, .sens, .wcmp, .drive, .diag, .relay] s t ∧
          (q.2.2 < 3 → KeepsOutside [zone R.DIAG_MAINT_REQ, zone R.SENSP_STATUS, zone R.SENSG_STATUS] [.sens, .diag] s t) ∧
          (4 ≤ q.2.2 → q.2.2 ≤ 7 → KeepsOutside [zone R.DIAG_MAINT_REQ] [.mem, .shadow, .pwm, .diag] s t) ∧
          (q.2.2 = 9 → KeepsOutside [zone R.DIAG_MAINT_REQ, zone R.RELAY_CFG] [.relay, .diag] s t) ∧
          (8 ≤ q.2.2 → q.2.2 ≠ 9 →
            Keeps [whole R.DIAG_MAINT_LAST, ⟨R.DIAG_MAINT_RUN, q.2.2, 1⟩, F.DIAG_MAINT_RESULT_RUNS q.2.2] [.diag] s t))) ∧
  (∀ s : State,
    (40000000 * s.diag.bistNext ≤ s.epoch → (s.diag.reqAt = some s.epoch → 12 ∉ s.diag.reqs) → s.maintRefusal .device 12 = none →
      ∃ t, exec .bistPeriodicDue s = .next t ∧ t.maintRuns 12 = true ∧ t.diag.bistNext = s.epoch / 40000000 + 1 ∧ t.get F.DIAG_MAINT_LAST_RESULT = 1 ∧
        Keeps [whole R.DIAG_MAINT_LAST, ⟨R.DIAG_MAINT_RUN, 12, 1⟩, F.DIAG_MAINT_RESULT_RUNS 12] [.diag] s t) ∧
    (40000000 * s.diag.bistNext ≤ s.epoch → (s.diag.reqAt = some s.epoch → 12 ∉ s.diag.reqs) → (s.maintRefusal .device 12).isSome = true →
      ∃ t, exec .bistPeriodicDue s = .next t ∧ t.diag.bistNext = s.epoch / 40000000 + 1 ∧ t.get F.DIAG_MAINT_LAST_RESULT = 2 ∧
        Keeps [whole R.DIAG_MAINT_LAST, ⟨R.DIAG_MAINT_REFUSED, 12, 1⟩] [.diag] s t) ∧
    (s.epoch < 40000000 * s.diag.bistNext → exec .bistPeriodicDue s = .next s) ∧
    (∀ fault, s.maintRuns Act.bist = true →
      ∃ t, exec (.bistPeriodicEnd fault) s = .next t ∧ t.maintRuns Act.bist = false ∧ t.flag ⟨R.DIAG_MAINT_DONE, 12, 1⟩ = true ∧
        t.get (F.DIAG_MAINT_RESULT_RESULT 12) = (if fault then 2 else 1) ∧
        (fault = true → t.get F.DIAG_STICKY_BIST_FAIL = 1 ∧ t.raised = s.raised ++ [⟨FS.DIAG_BIST_FAIL, 0⟩]) ∧ (fault = false → t.raised = s.raised) ∧
        Keeps [⟨R.DIAG_MAINT_RUN, 12, 1⟩, ⟨R.DIAG_MAINT_DONE, 12, 1⟩, F.DIAG_MAINT_RESULT_RESULT 12, F.DIAG_STICKY_BIST_FAIL] [.raised] s t) ∧
    (∀ fault, s.maintRuns Act.bist = false → exec (.bistPeriodicEnd fault) s = .next s) ∧
    (∀ i (v : Word), ∃ t, exec (.maintAbort i v) s = .next t ∧
      (∀ c : Fin 12, 3 ≤ c.val → bitOf v.toNat c = true → s.maintRuns c = true → s.maintOver c = true → t.maintRuns c = true) ∧
      (∀ c : Fin 2, bitOf v.toNat (1 + c) = true → s.maintRuns (1 + c) = true →
        (s.mono < (s.sens.side.get c).calStart + 1360000 → t.maintRuns (1 + c) = false ∧ t.get (F.DIAG_MAINT_RESULT_RESULT (1 + c)) = 3) ∧
        ((s.sens.side.get c).calStart + 1360000 ≤ s.mono → t.maintRuns (1 + c) = true)) ∧
      (∀ c : Fin 12, 3 ≤ c.val → bitOf v.toNat c = true → s.maintRuns c = true → s.maintOver c = false →
        t.maintRuns c = false ∧ t.get (F.DIAG_MAINT_RESULT_RESULT c) = 3 ∧ t.flag ⟨R.DIAG_MAINT_DONE, c, 1⟩ = true) ∧
      (∀ c : Fin 13, bitOf v.toNat c = false → t.maintRuns c = s.maintRuns c) ∧ (t.maintRuns 12 = s.maintRuns 12) ∧
      ((∀ c : Fin 12, bitOf v.toNat c = true → s.maintRuns c = false) → t = s) ∧
      KeepsOutside [zone R.DIAG_MAINT_REQ, zone R.DRV_STATUS, zone R.GRID_CFG, zone R.LANE_STATUS, zone R.RELAY_CFG, zone R.SENSP_STATUS,
        zone R.SENSG_STATUS, zone R.WCMPP_STATUS, zone R.WCMPG_STATUS] [.mem, .shadow, .pwm, .sens, .wcmp, .drive, .diag, .relay] s t))

/-! ### The Curator and the checks that raise its sources (chapter 14) -/

/-- A raise that reaches the Curator (R463 to R465, R470, R471, R476, R477, Tables CUR-1 and CUR-4): its sticky bit sets, CUR_FIRST takes the first; LOG does no more; a
fence stops its unit or pair; SAFE stops every unit, de-energises both relays and halts every pair; in the safe state the sticky bit alone sets.
Where the spec leaves the reading open it states the model's, as log rows 18, 65 and 66 give. -/
def Obligations.CuratorReactions : Prop :=
  ∀ (s : State) (r : Raise) (rest : List Raise), s.raised = r :: rest → r.src < 192 →
  ∃ t, exec (.curatorRaise 0) s = .next t ∧ t.flag (stickyF r.src) = true ∧
    (s.flag F.CUR_FIRST_VALID = false → t.flag F.CUR_FIRST_VALID = true ∧ t.get F.CUR_FIRST_SRC = r.src ∧
      t.rd R.CUR_FIRST_TICK = BitVec.ofNat 32 s.epoch) ∧
    (s.flag F.CUR_FIRST_VALID = true → t.rd R.CUR_FIRST = s.rd R.CUR_FIRST ∧ t.rd R.CUR_FIRST_TICK = s.rd R.CUR_FIRST_TICK) ∧
    ((s.flag F.CUR_STATUS_SAFE = true ∨ s.severity r.src = 1) → t.raised = rest ∧
      Keeps [stickyF r.src, whole R.CUR_FIRST, whole R.CUR_FIRST_TICK, whole R.CUR_INFO] [.raised] s t) ∧
    (s.flag F.CUR_STATUS_SAFE = false → s.severity r.src = 4 →
      t.flag F.CUR_STATUS_SAFE = true ∧ t.flag F.CUR_SAFE_CAUSE_VALID = true ∧ t.get F.CUR_SAFE_CAUSE_SRC = r.src ∧
      t.get F.CUR_SAFE_CAUSE_ESC = 0 ∧ t.conn = 5 ∧ t.get F.RELAY_STATUS_K1_CMD = 0 ∧ t.get F.RELAY_STATUS_K2_CMD = 0 ∧
      (∀ u : Fin 14, s.pwmState u ≠ 3 → t.pwmState u = 0) ∧
      (∀ h : Fin 8, t.get (F.DRV_HB_STATUS_HO h) = 0 ∧ t.get (F.DRV_HB_STATUS_LO h) = 0 ∧ t.flag (F.DRV_HB_STATUS_FENCED h) = true) ∧
      (∀ p : Fin 6, s.lpState p ≠ 0 → t.lpState p = 4)) ∧
    (∀ u : Fin 14, s.flag F.CUR_STATUS_SAFE = false → s.severity r.src = 2 → curTarget r.src = .unit u →
      t.pwmState u = 3 ∧ t.flag (F.CUR_UNIT_CAUSE_VALID u) = true ∧ bitOf (t.get F.CUR_FENCED_UNITS) u = true ∧
      (s.flag (F.CUR_UNIT_CAUSE_VALID u) = false → t.get (F.CUR_UNIT_CAUSE_SRC u) = r.src) ∧
      (u.val < 8 → t.raised = rest ∧ t.flag F.CUR_STATUS_SAFE = false ∧
        KeepsOutside [zone R.CUR_STATUS, zone (R.PWM_CTRL 0), zone R.DRV_STATUS, zone R.DIAG_MAINT_REQ]
          [.raised, .cur, .pwm, .drive, .diag, .shadow, .mem] s t) ∧
      (u.val < 8 → s.pwmState u ≠ 3 → t.get (F.DRV_HB_STATUS_HO u) = 0 ∧ t.get (F.DRV_HB_STATUS_LO u) = 0 ∧
        t.flag (F.DRV_HB_STATUS_FENCED u) = true) ∧
      (8 ≤ u.val → s.flag (F.LANE_CFG_USED (u - 8)) = true → t.flag F.CUR_STATUS_SAFE = true ∧ t.get F.CUR_SAFE_CAUSE_ESC = 1)) ∧
    (∀ p : Fin 6, s.flag F.CUR_STATUS_SAFE = false → s.severity r.src = 2 → curTarget r.src = .pair p →
      t.flag (F.LP_STATUS_PAIR_FENCED p) = true ∧ bitOf (t.get F.CUR_FENCED_PAIRS) p = true ∧ (s.lpState p ≠ 0 → t.lpState p = 4) ∧
      (∀ u : Fin 14, bitOf (s.get (F.LP_CFG_COMMIT_MASK p)) u = true → t.pwmState u = 3)) ∧
    (s.flag F.CUR_STATUS_SAFE = false → s.severity r.src = 2 → curTarget r.src = .sp →
      t.flag F.CUR_FENCED_OTHER_SP = true ∧ t.meterRun = false ∧ ∀ x : Fin 4, t.arcOn x = false) ∧
    (s.flag F.CUR_STATUS_SAFE = false → s.severity r.src = 2 → curTarget r.src = .plc →
      t.flag F.CUR_FENCED_OTHER_PLC = true ∧ t.flag F.PLC_STATUS_FENCED = true ∧ t.cour.frame = none ∧ t.cour.queue = []) ∧
    KeepsOutside [zone R.CUR_STATUS, zone R.COURH_STATUS, zone R.DIAG_MAINT_REQ, zone R.DRV_STATUS, zone R.GRID_CFG, zone R.LANE_STATUS, zone (R.LP_CTRL 0),
        zone R.METER_CTRL, zone R.PLC_STATUS, zone (R.PWM_CTRL 0), zone R.RELAY_CFG, zone R.SENSG_STATUS, zone R.SENSP_STATUS, zone R.WARDEN_STATUS,
        zone R.WCMPG_STATUS, zone R.WCMPP_STATUS, (R.SYS_IMG_STATUS, R.SYS_IMG_STATUS + 4), zone R.SV_INFO]
      [.cour, .cur, .diag, .draws, .drive, .grid, .loop, .mem, .meter, .pwm, .raised, .relay, .sens, .shadow, .sv, .wcmp] s t

/-- Writes to the Curator (R467, R474, R475, R478, R480): severities within their ADJUST entries, the source's choices and its floor take effect, others are refused; an
unfence by HPA with the key, of a target whose sources are clear, ends its fence, and any other is refused; injection needs TEST_MODE and a factory
permit; a copy that differs is rewritten by majority.
The checks (R469, R521, R524, R535, R538): a unit's checker, the gate monitor at a new mismatch, the barrier link, an uncorrectable word and a rail out of its window raise
their sources; an uncorrectable word faults a core and reads 0 elsewhere; the scrubber counts what it corrected and raises what it cannot correct; VANA or VISO out of its window takes
its domain off.
Where the spec leaves the reading open it states the model's, as log rows 65 and 67 give. -/
def Obligations.CuratorWritesAndChecks : Prop :=
  (∀ s : State,
    (∀ i (k : Fin 48) (v : Word),
      (∀ j : Fin 4, (bitsOf v.toNat (8 * j) 3 = s.severity (4 * k + j) ∧
          s.adjust (F.CUR_SEV_SEV (4 * k + j)) (bitsOf v.toNat (8 * j) 3) = .uncovered) ∨
        (s.adjust (F.CUR_SEV_SEV (4 * k + j)) (bitsOf v.toNat (8 * j) 3) = .ok ∧ sevAllowed (4 * k + j) (bitsOf v.toNat (8 * j) 3) = true ∧
          s.sevFloor (4 * k + j) ≤ bitsOf v.toNat (8 * j) 3)) →
      ∃ t, exec (.curSevWrite i k v) s = .next t ∧ (∀ j : Fin 4, t.severity (4 * k + j) = bitsOf v.toNat (8 * j) 3) ∧
        Keeps [F.CUR_SEV_SEV (4 * k), F.CUR_SEV_SEV (4 * k + 1), F.CUR_SEV_SEV (4 * k + 2), F.CUR_SEV_SEV (4 * k + 3)] [.cur] s t) ∧
    (∀ i (k : Fin 48) (v : Word) (j : Fin 4),
      (s.adjust (F.CUR_SEV_SEV (4 * k + j)) (bitsOf v.toNat (8 * j) 3) = .outside ∨
        (s.adjust (F.CUR_SEV_SEV (4 * k + j)) (bitsOf v.toNat (8 * j) 3) = .ok ∧
          (sevAllowed (4 * k + j) (bitsOf v.toNat (8 * j) 3) = false ∨ bitsOf v.toNat (8 * j) 3 < s.sevFloor (4 * k + j)))) →
      ∃ t, exec (.curSevWrite i k v) s = .next t ∧ t.severity (4 * k + j) = s.severity (4 * k + j) ∧ t.get F.CUR_LSTICKY_CFG_REJECT = 1 ∧
        KeepsOutside [zone R.CUR_STATUS] [.raised, .cur] s t) ∧
    (∀ (v : Word) k, unfenceKey (bitsOf v.toNat 8 8) (bitsOf v.toNat 0 8) = some k → bitsOf v.toNat 16 16 = 0xF3C5 → s.unfenceOk k = true →
      ∃ t, exec (.curUnfence .hpa v) s = .next t ∧ t.cur.fences.get k = [] ∧
        (∀ u ∈ s.keyUnits k, t.unitCovered u = false → t.pwmState u = 0 ∧ t.rd (R.CUR_UNIT_CAUSE u) = 0#32) ∧
        (∀ u : Fin 14, u.val ∉ s.keyUnits k → t.pwmState u = s.pwmState u) ∧ t.raised = s.raised ∧
        KeepsOutside [zone R.CUR_STATUS, zone (R.PWM_CTRL 0), zone R.DRV_STATUS, zone R.LANE_STATUS] [.cur, .pwm, .shadow, .diag] s t) ∧
    (∀ i (v : Word), (i ≠ .hpa ∨ bitsOf v.toNat 16 16 ≠ 0xF3C5 ∨ s.flag F.CUR_STATUS_SAFE = true ∨
        unfenceKey (bitsOf v.toNat 8 8) (bitsOf v.toNat 0 8) = none ∨
        (∃ k, unfenceKey (bitsOf v.toNat 8 8) (bitsOf v.toNat 0 8) = some k ∧ s.unfenceOk k = false)) →
      ∃ t, exec (.curUnfence i v) s = .next t ∧ t.get F.CUR_LSTICKY_UNFENCE_REFUSED = 1 ∧ t.raised = s.raised ++ [⟨FS.CURATOR_CFG, 0⟩] ∧
        Keeps [F.CUR_LSTICKY_UNFENCE_REFUSED] [.raised] s t) ∧
    (∀ i (src : Byte), s.pins.testMode = true → s.get F.SV_INFO_PERMIT = 3 → src.toNat < 192 →
      (∃ t x, exec (.curInjectRaise i src) s = .next t ∧ t.raised = s.raised ++ [⟨src.toNat, x⟩] ∧ Keeps [] [.raised, .draws] s t) ∧
      (∀ c : Fin 3, ∃ t, exec (.curInjectCorrupt i (c.castLE (by decide)) src) s = .next t ∧ t.cur.dev.get (256 * c + src.toNat) ≠ 0 ∧
        Keeps [] [.cur, .draws] s t)) ∧
    (∀ i (src : Byte) (c : Fin 4), (s.pins.testMode = false ∨ s.get F.SV_INFO_PERMIT ≠ 3) →
      (∃ t, exec (.curInjectRaise i src) s = .next t ∧ Refused .curator FS.CURATOR_CFG s t) ∧
      (∃ t, exec (.curInjectCorrupt i c src) s = .next t ∧ Refused .curator FS.CURATOR_CFG s t)) ∧
    (∃ t, exec .curatorCopyMismatch s = .next t ∧ (∀ n : Fin 192, t.severity n = s.severity n ∧ t.curDev n = 0) ∧
      t.get F.CUR_LSTICKY_VOTE_ERR = 1 ∧ t.raised = s.raised ++ [⟨FS.CURATOR_VOTE, 0⟩] ∧ KeepsOutside [zone R.CUR_STATUS] [.raised, .cur] s t)) ∧
  (∀ s : State,
    (∀ u, ∃ t, exec (.pwmCheckMismatch u) s = .next t ∧ t.raised = s.raised ++ [⟨FS.PWM_CHECK, u⟩] ∧ Keeps [] [.raised] s t) ∧
    (∀ (h : Fin 8) ho lo, s.pdOn 9 = true → s.cur.gateBad.get h = 0 →
      ∃ t, exec (.drvGateCheck h ho lo) s = .next t ∧
        ((ho = s.flag (F.DRV_HB_STATUS_HO h) ∧ lo = s.flag (F.DRV_HB_STATUS_LO h)) → t.raised = s.raised) ∧
        ((ho ≠ s.flag (F.DRV_HB_STATUS_HO h) ∨ lo ≠ s.flag (F.DRV_HB_STATUS_LO h)) → t.raised = s.raised ++ [⟨FS.DRV_GATE, h⟩]) ∧
        Keeps [] [.raised, .cur] s t) ∧
    (∀ (h : Fin 8) ho lo, s.pdOn 9 = true → s.cur.gateBad.get h = 3 →
      ∃ t, exec (.drvGateCheck h ho lo) s = .next t ∧ t.raised = s.raised ∧ Keeps [] [.cur] s t) ∧
    (s.pdOn 10 = true → ∃ t, exec .barrierLinkError s = .next t ∧ t.raised = s.raised ++ [⟨FS.BARRIER_LINK, 0⟩] ∧ Keeps [] [.raised] s t) ∧
    (∀ mram addr reader, s.pdOn 1 = true →
      ∃ t, exec (.eccUncorrectable mram addr reader) s = .next t ∧
        t.get (if mram then F.SYS_ECC_MRAM_UNCOR else F.SYS_ECC_SRAM_UNCOR) = 1 ∧ t.rd R.SYS_ECC_ADDR = BitVec.ofNat 32 addr ∧
        t.raised = s.raised ++ [⟨if mram then FS.MRAM_ECC else FS.SRAM_ECC, 0⟩] ∧ t.resp.words = [0#32] ∧
        (t.resp.fault = true ↔ reader = .hpa ∨ reader = .hpb) ∧ (∀ a, t.rdB a = s.rdB a) ∧
        (∀ a, t.ecc.get a = (if a = eccHome addr then true else s.ecc.get a)) ∧
        Keeps [if mram then F.SYS_ECC_MRAM_UNCOR else F.SYS_ECC_SRAM_UNCOR, whole R.SYS_ECC_ADDR] [.mem, .raised, .resp] s t) ∧
    (∀ mram found, s.pdOn 1 = true →
      ∃ t, exec (.scrubPass mram found) s = .next t ∧ t.get (if mram then F.SYS_ECC_MRAM_SCRUB_PASS else F.SYS_ECC_SRAM_SCRUB_PASS) = 1 ∧
        t.get (if mram then F.SYS_ECC_MRAM_COR else F.SYS_ECC_SRAM_COR) =
          min (s.get (if mram then F.SYS_ECC_MRAM_COR else F.SYS_ECC_SRAM_COR) + found) 65535 ∧
        ((s.ecc.filter fun e => s.scrubs mram e.1) = [] →
          Keeps [if mram then F.SYS_ECC_MRAM_SCRUB_PASS else F.SYS_ECC_SRAM_SCRUB_PASS, if mram then F.SYS_ECC_MRAM_COR else F.SYS_ECC_SRAM_COR] [] s t) ∧
        ((s.ecc.filter fun e => s.scrubs mram e.1) ≠ [] → t.get (if mram then F.SYS_ECC_MRAM_UNCOR else F.SYS_ECC_SRAM_UNCOR) = 1) ∧
        t.raised = s.raised ++ (s.ecc.filter fun e => s.scrubs mram e.1).map (fun _ => ⟨if mram then FS.MRAM_ECC else FS.SRAM_ECC, 0⟩) ∧
        Keeps [if mram then F.SYS_ECC_MRAM_SCRUB_PASS else F.SYS_ECC_SRAM_SCRUB_PASS, if mram then F.SYS_ECC_MRAM_COR else F.SYS_ECC_SRAM_COR,
          if mram then F.SYS_ECC_MRAM_UNCOR else F.SYS_ECC_SRAM_UNCOR, whole R.SYS_ECC_ADDR] [.raised] s t) ∧
    (∀ (r : Fin 4), s.pdOn 1 = true → r.val < 2 →
      ∃ t, exec (.railOutOfWindow r false) s = .next t ∧ t.flag (railF r) = false ∧ t.raised = s.raised ++ [⟨FS.PWR_SUPPLY, 0⟩] ∧
        Keeps [railF r] [.raised] s t) ∧
    (s.pdOn 1 = true →
      ∃ t, exec (.railOutOfWindow 2 false) s = .next t ∧ t.flag (railF 2) = false ∧ t.pdOn 8 = false ∧
        (∃ l, t.raised = s.raised ++ ⟨FS.PWR_SUPPLY, 0⟩ :: l) ∧
        KeepsOutside [zone R.SYS_ID, zone R.DIAG_MAINT_REQ, zone R.SENSP_STATUS, zone R.SENSG_STATUS, zone R.WCMPP_STATUS, zone R.WCMPG_STATUS,
          zone R.DRV_STATUS, zone R.LANE_STATUS] [.mem, .shadow, .raised, .pwm, .sens, .wcmp, .drive, .diag, .relay] s t) ∧
    (s.pdOn 1 = true →
      ∃ t, exec (.railOutOfWindow 3 false) s = .next t ∧ t.flag (railF 3) = false ∧ t.pdOn 10 = false ∧
        (s.pdOn 10 = true → ∃ l, t.raised = s.raised ++ ⟨FS.PWR_SUPPLY, 0⟩ :: l) ∧ (s.pdOn 10 = false → t.raised = s.raised) ∧
        KeepsOutside [zone R.SYS_ID, zone R.DIAG_MAINT_REQ, zone R.SENSP_STATUS, zone R.SENSG_STATUS, zone R.WCMPP_STATUS, zone R.WCMPG_STATUS,
          zone R.DRV_STATUS, zone R.LANE_STATUS, zone R.EPOCH_CTRL, zone R.GRID_CFG, zone (R.PWM_CTRL 0), zone R.RELAY_CFG, zone R.PLC_STATUS,
          zone R.COURH_STATUS, zone R.SV_INFO] [.shadow, .raised, .draws, .pwm, .sens, .wcmp, .drive, .diag, .grid, .relay, .cour, .sv] s t) ∧
    (∀ r, s.pdOn 1 = true → ∃ t, exec (.railOutOfWindow r true) s = .next t ∧ t.flag (railF r) = true ∧ Keeps [railF r, pdMoveF 8] [] s t))

/-! ### The Warden (chapter 15) -/

/-- Inputs and demands (R486, R489 to R493, R499): a raw level that changes starts the filter's count; held for FILTER it becomes the filtered level; a demand that begins is
accepted, raised, and commands the reaction, in which no unit runs and both relays are de-energised. Channels that disagree for DISCREP are a
fault, raised once.
Test pulses (R487, R488): a pulse starts at its Epoch multiple with the channels that were high; at 160,000 ticks each of them must be low, and one that is high is a fault;
at 320,000 ticks the window closes.
Reset and permit (R495, R500, R501): HPA's keyed reset clears the reaction only where no demand, no fault and no safe state stands; the COMMISSION permit is granted for its
TIME only where the Warden is at rest and the relays are open; END, and the end of TIME, end it and return FORCE to 0.
Where the spec leaves the reading open it states the model's, as log rows 68, 69 and 70 give. The clauses in which a command changes nothing
because its condition does not hold state the model's choice (log row 15). -/
def Obligations.WardenDemandsPulsesResetAndPermit : Prop :=
  (∀ s : State,
    (∀ (i : Fin 3) b level, s.flag (wdRawF i b) = !level →
      ∃ t, exec (.wardenInputChange i b level) s = .next t ∧ t.flag (wdRawF i b) = level ∧ (t.warden.ch.get (wdKey i b)).rawAt = s.mono ∧
        (t.warden.ch.get (wdKey i b)).since = (if s.flag (wdFiltF i b) = level then none else some s.mono) ∧
        Keeps [wdRawF i b] [.warden] s t) ∧
    (∀ (i : Fin 3) b level, s.flag (wdRawF i b) = level → exec (.wardenInputChange i b level) s = .next s) ∧
    (∀ (i : Fin 3) b, s.wdFilterDue i b = true →
      ∃ t, exec (.wardenFilterExpire i b) s = .next t ∧ t.flag (wdFiltF i b) = s.flag (wdRawF i b) ∧
        (i.val < 2 → t.flag (wdNowF i) = t.wdDemand i) ∧
        (i.val < 2 → s.flag (wdNowF i) = false → t.wdDemand i = true →
          t.flag ⟨R.WARDEN_STICKY, 4 + i, 1⟩ = true ∧ t.rd (R.WARDEN_DEMAND_TICK i) = BitVec.ofNat 32 s.epoch ∧
          t.raised = s.raised ++ [⟨FS.WARDEN_DEMAND, 0⟩] ∧ t.flag F.WARDEN_STATUS_REACTION = true ∧
          (s.flag F.WARDEN_STATUS_REACTION = false → t.conn = 5 ∧ t.get F.RELAY_STATUS_K1_CMD = 0 ∧ t.get F.RELAY_STATUS_K2_CMD = 0 ∧
            t.rd R.WARDEN_REACT_TICK = BitVec.ofNat 32 s.epoch ∧
            (∀ u : Fin 14, s.pwmState u ≠ 3 → t.pwmState u = 0) ∧
            (∀ h : Fin 8, t.get (F.DRV_HB_STATUS_HO h) = 0 ∧ t.get (F.DRV_HB_STATUS_LO h) = 0))) ∧
        (i.val < 2 → (s.flag (wdNowF i) = true ∨ t.wdDemand i = false) → t.raised = s.raised ∧
          Keeps [wdFiltF i b, wdNowF i, F.WARDEN_LEVEL_STATE i] [.warden] s t) ∧
        (i.val = 2 → Keeps [wdFiltF i b] [.warden, .relay] s t) ∧
        KeepsOutside [zone R.WARDEN_STATUS, zone R.DIAG_MAINT_REQ, zone R.DRV_STATUS, zone R.LANE_STATUS, zone (R.PWM_CTRL 0), zone R.GRID_CFG,
          zone R.RELAY_CFG] [.warden, .raised, .diag, .drive, .grid, .mem, .pwm, .relay, .shadow] s t) ∧
    (∀ (i : Fin 3) b, s.wdFilterDue i b = false → exec (.wardenFilterExpire i b) s = .next s) ∧
    (∀ i : Fin 3, (if i.val < 2 then s.wdInconsistent i else s.wdRelayWrong 0 || s.wdRelayWrong 1) = true →
      ∃ t, exec (.wardenDiscrepancy i) s = .next t ∧ t.flag ⟨R.WARDEN_STICKY, 8 + i, 1⟩ = true ∧
        (s.wdFaulted i = false → t.get (F.WARDEN_LEVEL_STATE i) = 3 ∧ t.raised = s.raised ++ [⟨FS.WARDEN_FAULT, 0⟩]) ∧
        (s.wdFaulted i = true → t.get (F.WARDEN_LEVEL_STATE i) = s.get (F.WARDEN_LEVEL_STATE i) ∧ t.raised = s.raised) ∧
        Keeps [⟨R.WARDEN_STICKY, 8 + i, 1⟩, F.WARDEN_LEVEL_STATE i] [.raised] s t)) ∧
  (∀ (s : State) (b : Bool),
    (∀ a, tpSlot s.epoch b = some a → (s.warden.tp.get (b2n b)).win = false → (s.warden.tp.get (b2n b)).next ≤ s.monoOf a →
      s.warden.from_ ≤ s.monoOf a → ∃ t, exec (.testPulseStart b) s = .next t ∧ (t.warden.tp.get (b2n b)).win = true ∧ (t.warden.tp.get (b2n b)).start = s.monoOf a ∧
        (∀ i : Fin 2, bitOf (t.warden.tp.get (b2n b)).elig i =
          (s.wdFed i && s.flag (wdRawF i b) && decide ((s.warden.ch.get (wdKey i b)).rawAt + 80000 ≤ s.monoOf a))) ∧ Keeps [] [.warden] s t) ∧
    (tpSlot s.epoch b = none → exec (.testPulseStart b) s = .next s) ∧
    ((s.warden.tp.get (b2n b)).win = true → (s.warden.tp.get (b2n b)).start + 160000 ≤ s.mono →
      ∃ t, exec (.testPulseCheck b) s = .next t ∧
        (∀ i : Fin 2, bitOf (s.warden.tp.get (b2n b)).elig i = true → s.flag (wdRawF i b) = true →
          t.flag ⟨R.WARDEN_STICKY, 12 + i, 1⟩ = true ∧ (s.wdFaulted i = false → t.get (F.WARDEN_LEVEL_STATE i) = 4)) ∧
        ((∀ i : Fin 2, bitOf (s.warden.tp.get (b2n b)).elig i = true → s.flag (wdRawF i b) = false) → t.raised = s.raised ∧
          Keeps [F.WARDEN_TP_CNT_MADE] [.warden] s t) ∧
        KeepsOutside [zone R.WARDEN_STATUS] [.raised, .warden] s t) ∧
    ((s.warden.tp.get (b2n b)).win = true → (s.warden.tp.get (b2n b)).start + 320000 ≤ s.mono →
      ∃ t, exec (.testPulseEnd b) s = .next t ∧ (t.warden.tp.get (b2n b)).win = false ∧
        (∀ i : Fin 2, bitOf (s.warden.tp.get (b2n b)).partner i = true → s.flag (wdRawF i (!b)) = true →
          t.flag ⟨R.WARDEN_STICKY, 12 + i, 1⟩ = true) ∧
        KeepsOutside [zone R.WARDEN_STATUS] [.raised, .warden] s t) ∧
    ((s.warden.tp.get (b2n b)).win = false → exec (.testPulseCheck b) s = .next s ∧ exec (.testPulseEnd b) s = .next s)) ∧
  (∀ s : State,
    (∀ v, s.wdResetOk .hpa v = true →
      ∃ t, exec (.wardenReset .hpa v) s = .next t ∧ t.flag F.WARDEN_STATUS_REACTION = false ∧ Keeps [F.WARDEN_STATUS_REACTION] [.pwm, .diag] s t) ∧
    (∀ i (v : Word), (i ≠ .hpa ∨ bitsOf v.toNat 16 16 ≠ 0xC3A5 ∨ s.flag F.WARDEN_STATUS_REACTION = false ∨ s.wdDemand 0 = true ∨ s.wdDemand 1 = true ∨
        s.wdFaulted 0 = true ∨ s.wdFaulted 1 = true ∨ s.wdFaulted 2 = true ∨ s.flag F.CUR_STATUS_SAFE = true) →
      ∃ t, exec (.wardenReset i v) s = .next t ∧ t.get F.WARDEN_STICKY_RESET_REFUSED = 1 ∧
        t.flag F.WARDEN_STATUS_REACTION = s.flag F.WARDEN_STATUS_REACTION ∧
        Keeps [F.WARDEN_STICKY_RESET_REFUSED, F.WARDEN_STICKY_CFG_REJECT] [] s t) ∧
    (∀ time : BitVec 10, 1 ≤ time.toNat → time.toNat ≤ 600 → s.wdPermitOk = true →
      ∃ t, exec (.wardenPermitRequest .hpa time) s = .next t ∧ t.flag F.WARDEN_STATUS_PERMIT = true ∧
        t.warden.permitTo = s.mono + time.toNat * 800000000 ∧ t.get F.WARDEN_PERMIT_TIME = time.toNat ∧
        Keeps [F.WARDEN_STATUS_PERMIT, F.WARDEN_PERMIT_TIME] [.warden] s t) ∧
    (∀ i (time : BitVec 10), (i ≠ .hpa ∨ s.wdPermitOk = false ∨ time.toNat = 0 ∨ 600 < time.toNat) →
      ∃ t, exec (.wardenPermitRequest i time) s = .next t ∧ t.get F.WARDEN_STICKY_PERMIT_REFUSED = 1 ∧
        t.get F.WARDEN_STATUS_PERMIT = s.get F.WARDEN_STATUS_PERMIT ∧
        Keeps [F.WARDEN_STICKY_PERMIT_REFUSED, F.WARDEN_STICKY_CFG_REJECT, F.WARDEN_PERMIT_TIME] [] s t) ∧
    (∀ time, s.flag F.WARDEN_STATUS_PERMIT = true →
      ∃ t, exec (.wardenPermitEnd .hpa time) s = .next t ∧ t.flag F.WARDEN_STATUS_PERMIT = false ∧ t.get F.WARDEN_STICKY_PERMIT_ENDED = 1 ∧
        (∀ l : Fin 6, t.rd (R.PWM_FORCE (l + 8)) = 0#32) ∧ KeepsOutside [zone R.WARDEN_STATUS, zone (R.PWM_CTRL 0)] [.pwm] s t) ∧
    (s.flag F.WARDEN_STATUS_PERMIT = true → s.warden.permitTo ≤ s.mono →
      ∃ t, exec .wardenPermitExpire s = .next t ∧ t.flag F.WARDEN_STATUS_PERMIT = false ∧ t.get F.WARDEN_STICKY_PERMIT_ENDED = 1 ∧
        (∀ l : Fin 6, t.rd (R.PWM_FORCE (l + 8)) = 0#32) ∧ KeepsOutside [zone R.WARDEN_STATUS, zone (R.PWM_CTRL 0)] [.pwm] s t) ∧
    ((s.flag F.WARDEN_STATUS_PERMIT = false ∨ s.mono < s.warden.permitTo) → exec .wardenPermitExpire s = .next s))

/-! ### The Hokuon pairs (chapter 16) -/

/-- The fixed-point instructions (R512, R513, Table HOK-1): the exact result, clamped to 32 bits, goes to rd (x0 takes nothing) and the pair goes on at the next word; a result
that was limited sets hqsat, and any other leaves it. Every other register of the pair, its mode and the other pair stay.
Where the spec leaves the reading open it states the model's, as log row 79 gives. -/
def Obligations.FixedPointInstructions : Prop :=
  ∀ (s : State) (q : Fin 2) (rd rs1 rs2 n : Fin 32), s.hokGo q = true →
  ∀ c ∈ [(Instr.hqSadd q rd rs1 rs2, (s.xr q rs1).toInt + (s.xr q rs2).toInt, -2 ^ 31, 2 ^ 31 - 1),
      (.hqSsub q rd rs1 rs2, (s.xr q rs1).toInt - (s.xr q rs2).toInt, -2 ^ 31, 2 ^ 31 - 1),
      (.hqSabs q rd rs1, ((s.xr q rs1).toInt.natAbs : Int), -2 ^ 31, 2 ^ 31 - 1),
      (.hqMulq q rd rs1 rs2, (2 * ((s.xr q rs1).toInt * (s.xr q rs2).toInt) + 2 ^ 31) / 2 ^ 32, -2 ^ 31, 2 ^ 31 - 1),
      (.hqMacq q rd rs1 rs2, (s.xr q rd).toInt + (2 * ((s.xr q rs1).toInt * (s.xr q rs2).toInt) + 2 ^ 31) / 2 ^ 32, -2 ^ 31, 2 ^ 31 - 1),
      (.hqSshl q rd rs1 rs2, (s.xr q rs1).toInt * 2 ^ ((s.xr q rs2).toNat % 32), -2 ^ 31, 2 ^ 31 - 1),
      (.hqSrar q rd rs1 rs2, roundDiv (s.xr q rs1).toInt (2 ^ ((s.xr q rs2).toNat % 32)), -2 ^ 31, 2 ^ 31 - 1),
      (.hqSat q rd rs1 n, (s.xr q rs1).toInt, -2 ^ n.val, 2 ^ n.val - 1)],
    ∃ t, exec c.1 s = .next t ∧ t.xr q rd = (if rd = 0 then 0#32 else BitVec.ofInt 32 (clampInt c.2.1 c.2.2.1 c.2.2.2)) ∧
      t.csrRaw q 0x800 = (if c.2.2.1 ≤ c.2.1 ∧ c.2.1 ≤ c.2.2.2 then s.csrRaw q 0x800 else 1#32) ∧
      (t.hok.get q).pc = ((s.hok.get q).pc + 4) % 2 ^ 32 ∧ (t.hok.get q).mmode = (s.hok.get q).mmode ∧
      (∀ r : Fin 32, r ≠ rd → t.xr q r = s.xr q r) ∧ (∀ r, t.fr q r = s.fr q r) ∧ (∀ k, k ≠ 0x800 → t.csrRaw q k = s.csrRaw q k) ∧
      t.hok.get (1 - q.val) = s.hok.get (1 - q.val) ∧
      (∀ a, memHome a < 0x203FC000 ∨ 0x20400000 ≤ memHome a → t.rdB a = s.rdB a) ∧
      KeepsOutside [zone R.PERF_CTRL, zone (R.PWM_CTRL 0)] [.mem, .raised, .draws, .hok, .pwm, .sv, .start] s t

/-- An instruction at the pc (R508, R510, R514 to R516, R518, R520): the pair fetches and executes. ADDI writes rd and goes on; SW stores rs2 and LW loads rd at an aligned
uncached SRAM address that PMP lets through; ECALL and a fetch that faults take their exceptions into machine mode. A load of an uncorrectable word and a byte or
halfword store to one take the load access fault, and the store is not made (R521, R522).
Where the spec leaves the reading open it states the model's, as log rows 14, 72 and 119 give. -/
def Obligations.HokuonInstructions : Prop :=
  ∀ (s : State) (q : Fin 2) (u : State) (w : Nat) (ev : List Nat), s.hokGo q = true →
  ((s.modHok q fun h => { h with wfi := false }).hokFetch q = .ok u w 4 ev →
    (w % 128 = 0x13 → iF3 w = 0 →
      ∃ t, exec (.hokuonInstruction q) s = .next t ∧ (t.hok.get q).pc = ((s.hok.get q).pc + 4) % 2 ^ 32 ∧
        t.xr q (iRd w) = (if iRd w = 0 then 0#32 else s.xr q (iRs1 w) + BitVec.ofInt 32 (immI w)) ∧
        (∀ r, r ≠ iRd w → t.xr q r = s.xr q r) ∧ t.hok.get (1 - q.val) = s.hok.get (1 - q.val) ∧
        (∀ a, memHome a < 0x203FC000 ∨ 0x20400000 ≤ memHome a → t.rdB a = s.rdB a) ∧
        KeepsOutside [zone R.PERF_CTRL, zone (R.PWM_CTRL 0)] [.mem, .raised, .draws, .hok, .pwm, .sv, .start] s t) ∧
    (∀ a, w % 128 = 0x23 → iF3 w = 2 → a = plusI (s.xr q (iRs1 w)).toNat (immS w) → a % 4 = 0 → 0x28000000 ≤ a → a < 0x283FC000 →
      s.pmpOk q a .store (s.dataUser q) = true →
      ∃ t, exec (.hokuonInstruction q) s = .next t ∧ (t.hok.get q).pc = ((s.hok.get q).pc + 4) % 2 ^ 32 ∧ t.rdW a = s.xr q (iRs2 w) ∧
        (∀ r, t.xr q r = s.xr q r) ∧ t.hok.get (1 - q.val) = s.hok.get (1 - q.val) ∧
        (∀ b, (memHome b < 0x203FC000 ∨ 0x20400000 ≤ memHome b) → (memHome b < memHome a ∨ memHome a + 4 ≤ memHome b) → t.rdB b = s.rdB b) ∧
        KeepsOutside [zone R.PERF_CTRL, zone (R.PWM_CTRL 0)] [.mem, .raised, .draws, .hok, .pwm, .sv, .start] s t) ∧
    (∀ a, w % 128 = 0x03 → iF3 w = 2 → a = plusI (s.xr q (iRs1 w)).toNat (immI w) → a % 4 = 0 → 0x28000000 ≤ a → a < 0x283FC000 →
      s.pmpOk q a .load (s.dataUser q) = true → s.eccBad a = false →
      ∃ t, exec (.hokuonInstruction q) s = .next t ∧ (t.hok.get q).pc = ((s.hok.get q).pc + 4) % 2 ^ 32 ∧
        t.xr q (iRd w) = (if iRd w = 0 then 0#32 else s.rdW a) ∧ (∀ r, r ≠ iRd w → t.xr q r = s.xr q r) ∧
        KeepsOutside [zone R.PERF_CTRL, zone (R.PWM_CTRL 0)] [.mem, .raised, .draws, .hok, .pwm, .sv, .start] s t) ∧
    (∀ a, ((w % 128 = 0x03 ∧ iF3 w = 2 ∧ a = plusI (s.xr q (iRs1 w)).toNat (immI w) ∧ a % 4 = 0 ∧ s.pmpOk q a .load (s.dataUser q) = true) ∨
        (w % 128 = 0x23 ∧ iF3 w < 2 ∧ a = plusI (s.xr q (iRs1 w)).toNat (immS w) ∧ a % (iF3 w + 1) = 0 ∧
          s.pmpOk q a .store (s.dataUser q) = true)) →
      0x28000000 ≤ a → a < 0x283FC000 → s.eccBad a = true →
      ∃ t, exec (.hokuonInstruction q) s = .next t ∧ t.csrRaw q 0x342 = 5#32 ∧ t.csrRaw q 0x343 = BitVec.ofNat 32 a ∧
        t.get F.SYS_ECC_SRAM_UNCOR = 1 ∧ t.rd R.SYS_ECC_ADDR = BitVec.ofNat 32 a ∧ (∀ r, t.xr q r = s.xr q r) ∧
        (∀ b, memHome b < 0x203FC000 ∨ 0x20400000 ≤ memHome b → t.rdB b = s.rdB b ∧ t.eccBad b = s.eccBad b) ∧
        KeepsOutside [zone R.SYS_ID, zone R.PERF_CTRL, zone (R.PWM_CTRL 0)] [.mem, .raised, .draws, .hok, .pwm, .sv, .start] s t) ∧
    (w = 0x73 →
      ∃ t, exec (.hokuonInstruction q) s = .next t ∧ (t.hok.get q).mmode = true ∧ t.csrRaw q 0x341 = BitVec.ofNat 32 (s.hok.get q).pc ∧
        t.csrRaw q 0x342 = (if (s.hok.get q).mmode then 11#32 else 8#32) ∧ (t.hok.get q).pc = (s.csrRaw q 0x305).toNat / 4 * 4 ∧
        t.mst q 3 1 = 0 ∧ t.mst q 7 1 = s.mst q 3 1 ∧ t.mst q 11 2 = (if (s.hok.get q).mmode then 3 else 0) ∧ (∀ r, t.xr q r = s.xr q r) ∧
        t.hok.get (1 - q.val) = s.hok.get (1 - q.val) ∧
        KeepsOutside [zone R.PERF_CTRL, zone (R.PWM_CTRL 0)] [.mem, .raised, .draws, .hok, .pwm, .sv, .start] s t)) ∧
  (∀ a, (s.modHok q fun h => { h with wfi := false }).hokFetch q = .fault u a →
    ∃ t, exec (.hokuonInstruction q) s = .next t ∧ (t.hok.get q).mmode = true ∧ t.csrRaw q 0x341 = BitVec.ofNat 32 (s.hok.get q).pc ∧
      t.csrRaw q 0x342 = 1#32 ∧ t.csrRaw q 0x343 = BitVec.ofNat 32 a ∧ (t.hok.get q).pc = (s.csrRaw q 0x305).toNat / 4 * 4 ∧
      (∀ r, t.xr q r = s.xr q r) ∧
      t.hok.get (1 - q.val) = s.hok.get (1 - q.val) ∧
      KeepsOutside [zone R.PERF_CTRL, zone (R.PWM_CTRL 0)] [.mem, .raised, .draws, .hok, .pwm, .sv, .start] s t)

/-- Caches, lockstep and interrupts (R506, R507, R514, R525, R526, R88): a write of hcache in machine mode invalidates a data-cache line or a cache; a mismatch halts
the pair and raises its source; a parity error refills the line; the pair takes the first of its pending and enabled interrupts; the timer ends a WFI. A pair
that is not live does none of it.
Semaphores (R528) and performance counters (R529, R530): a read of a semaphore answers 0 and sets it where it was 0, else 1; a write of 0 releases it; a read of a
counter's low word latches its high part; a write of PERF_CTRL's CLR clears the core's counters.
Where the spec leaves the reading open it states the model's, as log rows 72, 74, 80 and 82 give. The clauses in which a command changes
nothing because its condition does not hold state the model's choice (log row 15). -/
def Obligations.CachesInterruptsAndSharedRegisters : Prop :=
  (∀ (s : State) (q : Fin 2),
    (s.pairLive q = true → (s.hok.get q).mmode = true →
      (∀ addr : BitVec 32, ∃ t, exec (.hcacheInvLine q addr) s = .next t ∧ lineOf (t.hok.get q).dcache addr.toNat = none ∧
        (∀ a, a / 32 ≠ addr.toNat / 32 → lineOf (t.hok.get q).dcache a = lineOf (s.hok.get q).dcache a) ∧ (t.hok.get q).icache = (s.hok.get q).icache ∧
        (t.hok.get q).pc = (s.hok.get q).pc ∧ KeepsOutside [zone R.PERF_CTRL] [.mem, .draws, .hok] s t) ∧
      (∃ t, exec (.hcacheInvDcache q) s = .next t ∧ (t.hok.get q).dcache = [] ∧ (t.hok.get q).icache = (s.hok.get q).icache ∧
        KeepsOutside [zone R.PERF_CTRL] [.mem, .draws, .hok] s t) ∧
      (∃ t, exec (.hcacheInvIcache q) s = .next t ∧ (t.hok.get q).icache = [] ∧ (t.hok.get q).dcache = (s.hok.get q).dcache ∧
        KeepsOutside [zone R.PERF_CTRL] [.mem, .draws, .hok] s t)) ∧
    (s.pairLive q = true → (s.hok.get q).mmode = false →
      ∃ t, exec (.hcacheInvDcache q) s = .next t ∧ t.csrRaw q 0x342 = 2#32 ∧ (t.hok.get q).mmode = true ∧ (t.hok.get q).dcache = (s.hok.get q).dcache ∧
        KeepsOutside [zone R.PERF_CTRL] [.mem, .draws, .hok] s t) ∧
    (s.pairLive q = true →
      ∃ t, exec (.hokuonLockstepMismatch q) s = .next t ∧ t.pairLive q = false ∧ (t.hok.get q).stopped = true ∧
        t.raised = s.raised ++ [⟨FS.HPA_LOCKSTEP + q, 0⟩] ∧ t.hok.get (1 - q.val) = s.hok.get (1 - q.val) ∧ Keeps [] [.hok, .raised] s t) ∧
    (∀ addr : BitVec 32, s.pairLive q = true → (lineOf (s.hok.get q).dcache addr.toNat).isSome = true → s.coreReads q addr.toNat = true →
      ∃ t, exec (.cacheParityError q false addr) s = .next t ∧ lineOf (t.hok.get q).dcache addr.toNat = some (s.lineBytes addr.toNat) ∧
        KeepsOutside [zone R.PERF_CTRL] [.mem, .draws, .hok] s t) ∧
    (∀ addr : BitVec 32, s.pairLive q = true → (lineOf (s.hok.get q).icache addr.toNat).isSome = true → s.coreReads q addr.toNat = true →
      ∃ t, exec (.cacheParityError q true addr) s = .next t ∧ lineOf (t.hok.get q).icache addr.toNat = some (s.lineBytes addr.toNat) ∧
        KeepsOutside [zone R.PERF_CTRL] [.mem, .draws, .hok] s t) ∧
    (s.pairLive q = true → s.irqs q ≠ 0 → ((s.hok.get q).mmode = false ∨ s.mst q 3 1 = 1) →
      ∃ t, exec (.hicInterruptTake q) s = .next t ∧ (t.hok.get q).mmode = true ∧ (t.hok.get q).wfi = false ∧
        t.csrRaw q 0x341 = BitVec.ofNat 32 (s.hok.get q).pc ∧ t.csrRaw q 0x342 = BitVec.ofNat 32 (2 ^ 31 + irqCause (s.irqs q)) ∧
        ((s.csrRaw q 0x305).toNat % 4 = 0 → (t.hok.get q).pc = (s.csrRaw q 0x305).toNat / 4 * 4) ∧
        ((s.csrRaw q 0x305).toNat % 4 = 1 → (t.hok.get q).pc = ((s.csrRaw q 0x305).toNat / 4 * 4 + 4 * irqCause (s.irqs q)) % 2 ^ 32) ∧
        t.mst q 3 1 = 0 ∧ t.mst q 7 1 = s.mst q 3 1 ∧ (∀ r, t.xr q r = s.xr q r) ∧
        KeepsOutside [zone R.PERF_CTRL, zone (R.PWM_CTRL 0)] [.mem, .raised, .draws, .hok, .pwm, .sv, .start] s t) ∧
    (s.irqs q = 0 → exec (.hicInterruptTake q) s = .next s) ∧
    (s.pairLive q = true → bitOf (s.irqs q) 7 = true →
      ∃ t, exec (.mtimecmpMatch q) s = .next t ∧ (t.hok.get q).wfi = false ∧ (∀ r, t.xr q r = s.xr q r) ∧ Keeps [] [.hok] s t) ∧
    (s.pairLive q = false → exec (.hokuonInstruction q) s = .next s ∧ exec (.hcacheInvIcache q) s = .next s ∧
      exec (.hokuonLockstepMismatch q) s = .next s ∧ exec (.hicInterruptTake q) s = .next s ∧ exec (.mtimecmpMatch q) s = .next s)) ∧
  (∀ s : State, s.pdOn 1 = true →
    (∀ i (k : Fin 16), s.rd (R.SYS_SEM k) = 0#32 →
      ∃ t, exec (.semAcquire i k) s = .next t ∧ t.resp.words = [0#32] ∧ t.rd (R.SYS_SEM k) = 1#32 ∧ Keeps [whole (R.SYS_SEM k)] [.resp] s t) ∧
    (∀ i (k : Fin 16), s.rd (R.SYS_SEM k) ≠ 0#32 →
      ∃ t, exec (.semAcquire i k) s = .next t ∧ t.resp.words = [1#32] ∧ t.rd (R.SYS_SEM k) = 1#32 ∧
        ((i ≠ .hpa ∧ i ≠ .hpb) → Keeps [whole (R.SYS_SEM k)] [.resp] s t) ∧ KeepsOutside [zone R.SYS_ID, zone R.PERF_CTRL] [.mem, .draws, .resp, .hok] s t) ∧
    (∀ i (k : Fin 16), (i = .hpa ∨ i = .hpb ∨ i = .hspi) →
      ∃ t, exec (.semRelease i k 0#32) s = .next t ∧ t.rd (R.SYS_SEM k) = 0#32 ∧ Keeps [whole (R.SYS_SEM k)] [] s t) ∧
    (∀ i (k : Fin 16) (v : Word), v ≠ 0#32 → (i = .hpa ∨ i = .hpb) → exec (.semRelease i k v) s = .next s) ∧
    (∀ i (k : Fin 4) (e : Fin 96), ∃ t, exec (.perfCounterRead i k e) s = .next t ∧ t.resp.words = [BitVec.ofNat 32 (s.perfCnt k e)] ∧
      t.rd (R.PERF_CNT_HI k e) = BitVec.ofNat 32 (s.perfCnt k e / 2 ^ 32) ∧ Keeps [whole (R.PERF_CNT_HI k e)] [.resp] s t) ∧
    (∀ i (v : Word), (i = .hpa ∨ i = .hpb) →
      ∃ t, exec (.perfCounterClear i v) s = .next t ∧ t.get F.PERF_CTRL_FREEZE = bitsOf v.toNat 0 4 ∧
        (∀ (k : Fin 4) (e : Fin 96), bitOf v.toNat (8 + k) = true → t.perfCnt k e = 0) ∧
        (∀ q : Fin 2, bitOf v.toNat (8 + 2 * q) = false → bitOf v.toNat (9 + 2 * q) = false → t.hok.get q = s.hok.get q) ∧
        Keeps [F.PERF_CTRL_FREEZE] [.hok] s t))

/-- R527, whole: HPA's write of 1 to bit 0 of SYS_DOORBELL sets HPB's mip.MSIP, and HPB's write of 1 to bit 1 sets HPA's; the target pair clears the bit by writing 1 to the
bit that addresses it. Nothing else changes. -/
def Obligations.Doorbells : Prop :=
  ∀ s : State, s.pdOn 1 = true →
  (∀ v : Word, ∃ t, exec (.doorbell .hpa v) s = .next t ∧
    bitOf (t.mip 1) 3 = (bitOf v.toNat 0 || bitOf (s.mip 1) 3) ∧ bitOf (t.mip 0) 3 = (!bitOf v.toNat 1 && bitOf (s.mip 0) 3) ∧
    Keeps [⟨R.SYS_DOORBELL, 0, 1⟩, ⟨R.SYS_DOORBELL, 1, 1⟩] [] s t) ∧
  (∀ v : Word, ∃ t, exec (.doorbell .hpb v) s = .next t ∧
    bitOf (t.mip 0) 3 = (bitOf v.toNat 1 || bitOf (s.mip 0) 3) ∧ bitOf (t.mip 1) 3 = (!bitOf v.toNat 0 && bitOf (s.mip 1) 3) ∧
    Keeps [⟨R.SYS_DOORBELL, 0, 1⟩, ⟨R.SYS_DOORBELL, 1, 1⟩] [] s t)

/-! ### Power domains and the Plinth (chapter 17) -/

/-- Power domains and pads (R535 to R537, R544, Tables PWR-1 and PWR-2): HPA's request switches a domain on where its needs are present and the state permits
it, and it is on when its power-up ends; a request to switch off takes effect at once unless a condition of Table PWR-2 holds or the domain is always on;
any other request is refused. A held pad group is released by its bit.
Operating points (R539 to R542): an allowed write sets each target and starts the first step of a powered domain that stands still: down, the frequency
changes at once, up, after VOK; VOK puts the step's point in force and starts the next; no VOK in 50 µs leaves the lower frequency, with VOK_FAIL and
PWR_SUPPLY; while a PWM unit is not stopped, and for target 3, the write is refused.
Where the spec leaves the reading open it states the model's, as log rows 83, 84 and 85 give. The clauses in which a command changes nothing
because its condition does not hold state the model's choice (log row 15). -/
def Obligations.PowerDomainsAndOperatingPoints : Prop :=
  (∀ s : State,
    (∀ d : Fin 12, s.flag (pdCtrlF d) = false → s.pdOn d = false → s.pdNeeds d = true → s.pdMay d = true →
      ∃ t, exec (.domainOnRequest .hpa d) s = .next t ∧ t.flag (pdCtrlF d) = true ∧ t.flag (pdMoveF d) = true ∧ Keeps [pdCtrlF d, pdMoveF d] [] s t) ∧
    (∀ d : Fin 12, s.flag (pdCtrlF d) = false → (s.pdNeeds d && s.pdMay d) = false →
      ∃ t, exec (.domainOnRequest .hpa d) s = .next t ∧ Refused .sysPower FS.SYS_CFG s t) ∧
    (∀ i (d : Fin 12), i ≠ .hpa → (∃ t, exec (.domainOnRequest i d) s = .next t ∧ Refused .sysPower FS.SYS_CFG s t) ∧
      (∃ t, exec (.domainOffRequest i d) s = .next t ∧ Refused .sysPower FS.SYS_CFG s t)) ∧
    (∀ d : Fin 12, s.flag (pdCtrlF d) = true → pdSwitched d = true → s.pdHeldOn d = false →
      ∃ t, exec (.domainOffRequest .hpa d) s = .next t ∧ t.flag (pdCtrlF d) = false ∧ t.pdOn d = false ∧ t.flag (pdMoveF d) = false ∧
        (∀ e : Fin 12, e ≠ d → t.pdOn e = s.pdOn e ∧ t.flag (pdCtrlF e) = s.flag (pdCtrlF e)) ∧
        (d = 3 → s.pdOn 3 = true → t.hok.get 1 = default) ∧
        (d = 9 → s.pdOn 9 = true → ∀ h : Fin 8, t.get (F.DRV_HB_STATUS_HO h) = 0 ∧ t.get (F.DRV_HB_STATUS_LO h) = 0) ∧
        (s.pdOn d = false → Keeps [pdCtrlF d, pdMoveF d] [] s t) ∧
        KeepsOutside [zone R.SYS_ID, zone R.COURH_STATUS, zone R.DIAG_MAINT_REQ, zone R.DRV_STATUS, zone R.EPOCH_CTRL, zone R.GRID_CFG, zone R.LANE_STATUS,
            zone (R.LP_CTRL 0), zone R.METER_CTRL, zone R.PLC_STATUS, zone (R.PWM_CTRL 0), zone R.RELAY_CFG, zone R.SENSG_STATUS, zone R.SENSP_STATUS,
            zone R.WCMPG_STATUS, zone R.WCMPP_STATUS, zone R.SV_INFO]
          [.mem, .shadow, .draws, .raised, .pwm, .plinth, .sens, .wcmp, .loop, .drive, .diag, .grid, .relay, .meter, .sv, .hok, .cour] s t) ∧
    (∀ d : Fin 12, s.flag (pdCtrlF d) = true → (pdSwitched d = false ∨ s.pdHeldOn d = true) →
      ∃ t, exec (.domainOffRequest .hpa d) s = .next t ∧ Refused .sysPower FS.SYS_CFG s t) ∧
    (∀ (d : Fin 12) ok, s.canonical = true → s.flag (pdMoveF d) = true →
      ∃ t, exec (.domainPowered d ok) s = .next t ∧ t.pdOn d = true ∧ t.flag (pdMoveF d) = false ∧ (∀ e : Fin 12, e ≠ d → t.pdOn e = s.pdOn e) ∧
        ((2 ≤ d.val ∧ d.val ≤ 5) → t.get (curOpF d) = s.get (opF d)) ∧
        (d = 3 → t.hok.get 1 = default ∧ t.get F.SYS_CORE_CTRL_HPB_RUN = 0) ∧
        (d = 9 → t.get F.DRV_STATUS_LOCKOUT = 1 ∧ t.get F.DRV_STATUS_VDRV_OK = s.get F.SYS_RAILS_VDRV_OK) ∧
        (d = 10 → ok = false → t.get F.PLC_STICKY_SELFTEST_FAIL = 1 ∧ (⟨FS.PLC_FAULT, 0⟩ : Raise) ∈ t.raised) ∧
        (d ≠ 3 → t.hok = s.hok) ∧
        KeepsOutside [zone R.SYS_ID, zone R.PERF_CTRL, zone R.COURH_STATUS, zone R.DRV_STATUS, zone (R.LP_CTRL 0), zone R.METER_CTRL, zone R.GRID_CFG,
            zone R.SENSP_STATUS, zone R.WCMPP_STATUS, (0x48000000, 0x48050000)]
          [.mem, .shadow, .draws, .raised, .pwm, .sens, .wcmp, .loop, .drive, .diag, .grid, .relay, .meter, .hok] s t) ∧
    (∀ (d : Fin 12) ok, s.flag (pdMoveF d) = false → exec (.domainPowered d ok) s = .next s) ∧
    (∀ i (v : Word), (∀ d : Fin 32, bitOf v.toNat d = true → (d = 1 ∨ d = 11) ∧ s.pdOn d = true ∧ s.flag (padHoldF d) = true) →
      ∃ t, exec (.padRelease i v) s = .next t ∧
        (∀ d : Fin 32, t.flag (padHoldF d) = (!bitOf v.toNat d && s.flag (padHoldF d))) ∧ Keeps [padHoldF 1, padHoldF 11] [] s t) ∧
    (∀ i (d : Fin 32), ¬((d = 1 ∨ d = 11) ∧ s.pdOn d = true ∧ s.flag (padHoldF d) = true) →
      ∃ t, exec (.padRelease i (BitVec.ofNat 32 (2 ^ d.val))) s = .next t ∧ Refused .sysPower FS.SYS_CFG s t)) ∧
  (∀ s : State,
    (∀ i (v : Word), s.pwmAllStopped = true →
      (∀ d ∈ [2, 3, 4, 5], bitsOf v.toNat (4 * (d - 2)) 2 ≠ 3 ∧ s.adjust (opF d) (bitsOf v.toNat (4 * (d - 2)) 2) = .ok) →
      ((s.plState = 1 ∨ s.inFoyer = true) → bitsOf v.toNat 0 2 = 2) →
      ∃ t, exec (.opPointWrite i v) s = .next t ∧
        (∀ d ∈ [2, 3, 4, 5], t.get (opF d) = bitsOf v.toNat (4 * (d - 2)) 2 ∧
          (s.get (opF d) ≠ t.get (opF d) → s.pdOn d = true → s.flag (stepF d) = false → s.get (curOpF d) ≠ t.get (opF d) →
            t.flag (stepF d) = true ∧ t.plinth.dvfsAt.get d = s.mono ∧
            (s.get (curOpF d) < t.get (opF d) → t.get (curOpF d) = s.get (curOpF d) + 1) ∧
            (t.get (opF d) < s.get (curOpF d) → t.get (curOpF d) = s.get (curOpF d)))) ∧
        Keeps [whole R.SYS_OP, whole R.SYS_OP_STATUS] [.plinth] s t) ∧
    (∀ i (v : Word), (∀ d ∈ [3, 4, 5], s.adjust (opF d) (bitsOf v.toNat (4 * (d - 2)) 2) = .uncovered) →
      (s.adjust (opF 2) (bitsOf v.toNat 0 2) = .outside ∨ (s.adjust (opF 2) (bitsOf v.toNat 0 2) = .ok ∧
        (s.pwmAllStopped = false ∨ bitsOf v.toNat 0 2 = 3 ∨ ((s.plState = 1 ∨ s.inFoyer = true) ∧ bitsOf v.toNat 0 2 ≠ 2)))) →
      ∃ t, exec (.opPointWrite i v) s = .next t ∧ Refused .sysPower FS.SYS_CFG s t) ∧
    (∀ i (v : Word), s.pwmAllStopped = false → (∀ d ∈ [2, 3, 4, 5], s.adjust (opF d) (bitsOf v.toNat (4 * (d - 2)) 2) = .ok) →
      ∃ t, exec (.opPointWrite i v) s = .next t ∧ t.get Blk.sysPower.rejectFld = 1 ∧ Keeps [Blk.sysPower.rejectFld] [.raised] s t) ∧
    (∀ i (v : Word), (∀ d ∈ [2, 3, 4, 5], s.adjust (opF d) (bitsOf v.toNat (4 * (d - 2)) 2) = .uncovered) →
      exec (.opPointWrite i v) s = .next s) ∧
    (∀ k : Fin 4, s.flag (stepF (k + 2)) = true →
      ∃ t, exec (.dvfsStepDone k) s = .next t ∧
        (s.plinth.dvfsTo.get (k + 2) - 1 = s.get (opF (k + 2)) → s.get (opF (k + 2)) < 3 →
          t.get (curOpF (k + 2)) = s.get (opF (k + 2)) ∧ t.flag (stepF (k + 2)) = false) ∧
        (∀ j : Fin 4, j ≠ k → t.get (curOpF (j + 2)) = s.get (curOpF (j + 2)) ∧ t.flag (stepF (j + 2)) = s.flag (stepF (j + 2))) ∧
        KeepsOutside [zone R.SYS_ID, zone R.PERF_CTRL] [.mem, .draws, .plinth, .hok] s t) ∧
    (∀ k : Fin 4, s.flag (stepF (k + 2)) = true → s.plinth.dvfsAt.get (k + 2) + 40000 ≤ s.mono →
      ∃ t, exec (.dvfsVokTimeout k) s = .next t ∧ t.flag (stepF (k + 2)) = false ∧ t.get (curOpF (k + 2)) = s.get (curOpF (k + 2)) ∧
        t.get F.SYS_PWR_STICKY_VOK_FAIL = 1 ∧ t.raised = s.raised ++ [⟨FS.PWR_SUPPLY, 0⟩] ∧
        Keeps [stepF (k + 2), F.SYS_PWR_STICKY_VOK_FAIL] [.raised, .plinth] s t) ∧
    (∀ k : Fin 4, s.flag (stepF (k + 2)) = false → exec (.dvfsStepDone k) s = .next s ∧ exec (.dvfsVokTimeout k) s = .next s) ∧
    (∀ k : Fin 4, s.mono < s.plinth.dvfsAt.get (k + 2) + 40000 → exec (.dvfsVokTimeout k) s = .next s))

/-- The Plinth's life and clock (R547, R549, R554): a cold start gives every register its reset value and COLD_START; a death ends what PD0 carries; a second
adds 1 to PLINTH_RTC_SEC and remembers the alarm in SLEEP; a read of PLINTH_CYC_LO latches the upper bits; a session that lasts PLINTH_SESSION ends.
Wakes and requests (R553, R555 to R558): a wake with causes records them and goes to START on VIN_OK and START_OK, else to STORE on MEAS_OK, else it is
refused; a frame on the two-wire line wakes only where it is addressed and enabled; a status read answers the line's address; HPA's keyed write
sleeps where nothing runs; a start from STORE needs START_OK.
Where the spec leaves the reading open it states the model's, as log rows 86 and 87 give. The clauses in which a command changes nothing
because its condition does not hold state the model's choice (log row 15). -/
def Obligations.PlinthLifeClockAndWakes : Prop :=
  (∀ s : State,
    (s.alive = false → s.canonical = true →
      ∃ t, exec .plinthColdStart s = .next t ∧ t.alive = true ∧ t.get F.PLINTH_STICKY_COLD_START = 1 ∧ t.plState = 0 ∧
        t.rd R.PLINTH_RTC_SEC = 0#32 ∧ t.rd R.PLINTH_ALARM = 0xFFFFFFFF#32 ∧ t.rd R.PLINTH_WAKE_EN = 0xF#32 ∧ t.rd R.PLINTH_SESSION = 0x14#32 ∧
        t.rd R.SYS_PAD_HOLD = 0#32 ∧ t.plinth.cyc = 0 ∧ t.plinth.cold = true ∧
        KeepsOutside [(0x400D0000, 0x400E0000), (R.SYS_PAD_HOLD, R.SYS_PAD_HOLD + 4), (R.SYS_PD_STATUS, R.SYS_PD_STATUS + 4)] [.plinth, .shadow] s t) ∧
    (s.alive = true → exec .plinthColdStart s = .next s) ∧
    (s.alive = true → s.canonical = true → ∃ t, exec .plinthDeath s = .next t ∧ t.alive = false ∧
      (∀ d : Fin 12, t.pdOn d = false) ∧ t.draws = s.draws ∧ SleptFrom s t) ∧
    (s.alive = false → exec .plinthDeath s = .next s ∧ exec .rtcSecond s = .next s) ∧
    (s.alive = true → ∃ t, exec .rtcSecond s = .next t ∧ t.rd R.PLINTH_RTC_SEC = s.rd R.PLINTH_RTC_SEC + 1#32 ∧
      t.plinth.secFrom = (s.plinth.secFrom + s.secLen) % 2 ^ 47 ∧ t.plinth.cyc = t.plinth.secFrom ∧
      t.plinth.secAcc = (s.plinth.secAcc + s.getS F.PLINTH_RTC_TRIM_TRIM) % 32 ∧
      (t.plinth.alarm = true ↔ s.plinth.alarm = true ∨ (s.plState = 0 ∧ t.rd R.PLINTH_RTC_SEC = s.rd R.PLINTH_ALARM)) ∧
      Keeps [whole R.PLINTH_RTC_SEC] [.plinth] s t) ∧
    (∀ i, ∃ t, exec (.plinthCycRead i) s = .next t ∧ s.plinth.cyc ≤ t.plinth.cyc ∧
      (s.plinth.cyc < s.plinth.secFrom + s.secLen → t.plinth.cyc < s.plinth.secFrom + s.secLen) ∧
      t.resp.words = [BitVec.ofNat 32 t.plinth.cyc] ∧ t.rd R.PLINTH_CYC_HI = BitVec.ofNat 32 (t.plinth.cyc / 2 ^ 32 % 2 ^ 15) ∧
      Keeps [whole R.PLINTH_CYC_HI] [.draws, .resp, .plinth] s t) ∧
    (s.plState = 1 → s.plinth.session.isSome = true → s.canonical = true →
      ∃ t, exec .sessionTimeout s = .next t ∧ t.get F.PLINTH_STICKY_ABORTED_TIME = 1 ∧ SleptFrom s t) ∧
    (s.plState ≠ 1 → exec .sessionTimeout s = .next s)) ∧
  (∀ s : State,
    (s.alive = true → s.plState = 0 → s.wakeCauses ≠ 0 →
      ∃ t, exec .plinthWake s = .next t ∧ t.rd R.PLINTH_WAKE_CAUSE = BitVec.ofNat 32 s.wakeCauses ∧ t.get F.PLINTH_STICKY_WAKE = 1 ∧
        t.plState = (if s.flag F.PLINTH_STATUS_VIN_OK && s.flag F.PLINTH_STATUS_START_OK then 2 else if s.flag F.PLINTH_STATUS_MEAS_OK then 1 else 0) ∧
        (t.plState ≠ 0 → t.get F.PLINTH_ACT_CNT_ADMITTED = min (s.get F.PLINTH_ACT_CNT_ADMITTED + 1) 65535) ∧
        (t.plState = 0 → t.get F.PLINTH_STICKY_REFUSED_LOW = 1 ∧ t.get F.PLINTH_ACT_CNT_REFUSED = min (s.get F.PLINTH_ACT_CNT_REFUSED + 1) 255) ∧
        (t.plState = 1 → t.plinth.session = some s.plinth.cyc) ∧ t.plinth.alarm = false ∧ t.plinth.dawn = false ∧
        Keeps [whole R.PLINTH_WAKE_CAUSE, F.PLINTH_STICKY_WAKE, F.PLINTH_STATUS_STATE, F.PLINTH_STICKY_REFUSED_LOW, whole R.PLINTH_ACT_CNT] [.plinth] s t) ∧
    (s.alive = true → s.plState = 0 → s.wakeCauses = 0 →
      ∃ t, exec .plinthWake s = .next t ∧ t.plState = 0 ∧ t.plinth.alarm = false ∧ t.plinth.dawn = false ∧ Keeps [] [.plinth] s t) ∧
    ((s.alive = false ∨ s.plState ≠ 0) → exec .plinthWake s = .next s) ∧
    (∀ a : Fin 128, (s.alive && s.twwMatch a && (s.plState != 0 || s.twwAdmits)) = true →
      ∃ t, exec (.twwWakeFrame a) s = .next t ∧ t.resp.result = 1 ∧ t.rd R.PLINTH_WAKE_CAUSE = 2#32 ∧ t.get F.PLINTH_STICKY_WAKE = 1 ∧
        t.plState = (if s.plState ≠ 0 then s.plState
          else if s.flag F.PLINTH_STATUS_VIN_OK && s.flag F.PLINTH_STATUS_START_OK then 2 else 1) ∧
        Keeps [whole R.PLINTH_WAKE_CAUSE, F.PLINTH_STICKY_WAKE, F.PLINTH_STATUS_STATE, whole R.PLINTH_ACT_CNT] [.resp, .plinth] s t) ∧
    (∀ a : Fin 128, (s.alive && s.twwMatch a && (s.plState != 0 || s.twwAdmits)) = false →
      ∃ t, exec (.twwWakeFrame a) s = .next t ∧ t.resp.result = 0 ∧ Keeps [] [.resp] s t) ∧
    (∀ a : Fin 128, ∃ t, exec (.twwStatusRead a) s = .next t ∧
      t.resp.result = (if s.alive = true ∧ a.val = s.get F.PLINTH_TWW_ADDR_ADDR ∧ a ≠ 0 then 1 else 0) ∧
      (t.resp.result = 1 → t.resp.bytes.length = 2 ∧ t.resp.bytes[1]? = some (BitVec.ofNat 8 (min s.plinth.hstore 255))) ∧
      (t.resp.result = 0 → t.resp.bytes = []) ∧ Keeps [] [.resp] s t) ∧
    (∀ v : Word, bitsOf v.toNat 16 16 = 0x5E1A → (s.plState = 1 ∨ s.plState = 3) → s.pwmAllStopped = true → s.rd R.DIAG_MAINT_RUN = 0#32 →
      (∀ g, s.sv.stage = some g → g.write = none) → s.conn ≠ 2 → s.conn ≠ 3 → s.canonical = true →
      ∃ t, exec (.plinthSleep .hpa v) s = .next t ∧ SleptFrom s t ∧ t.pdOn 2 = false ∧ t.alive = s.alive ∧
        t.rd R.PLINTH_RTC_SEC = s.rd R.PLINTH_RTC_SEC ∧ (∀ k : Fin 8, t.rd (R.PLINTH_RETAIN k) = s.rd (R.PLINTH_RETAIN k)) ∧
        (∀ a, 0x10000000 ≤ a → a < 0x11000000 → t.rdB a = s.rdB a)) ∧
    (∀ i (v : Word), (i ≠ .hpa ∨ bitsOf v.toNat 16 16 ≠ 0x5E1A ∨ (s.plState ≠ 1 ∧ s.plState ≠ 3) ∨ s.pwmAllStopped = false ∨
        s.rd R.DIAG_MAINT_RUN ≠ 0#32 ∨ (∃ g, s.sv.stage = some g ∧ g.write ≠ none) ∨ s.conn = 2 ∨ s.conn = 3) →
      ∃ t, exec (.plinthSleep i v) s = .next t ∧ Refused .plinth FS.SYS_CFG s t) ∧
    (∀ i, s.plState = 1 → s.flag F.PLINTH_STATUS_START_OK = true →
      ∃ t, exec (.plinthStartRequest i) s = .next t ∧ t.plState = 2 ∧ t.plinth.session = none ∧
        Keeps [F.PLINTH_STATUS_STATE, F.PLINTH_ACT_CNT_ADMITTED] [.plinth] s t) ∧
    (∀ i, s.plState = 1 → s.flag F.PLINTH_STATUS_START_OK = false →
      ∃ t, exec (.plinthStartRequest i) s = .next t ∧ t.get F.PLINTH_STICKY_REFUSED_LOW = 1 ∧
        Keeps [F.PLINTH_STICKY_REFUSED_LOW, F.PLINTH_ACT_CNT_REFUSED] [] s t) ∧
    (∀ i, s.plState ≠ 1 → exec (.plinthStartRequest i) s = .next s))

/-- Energy and supplies (R551 to R553, R559, R560, R601): the flags follow HSTORE and VIN with their hysteresis; buck B good reaches RUN; a power-fail warning sets
PF_WARN and stops metering, its end sets PF_RESTORE; buck A's stop leads to STORE on MEAS_OK, with PD2 bound for OP-L and what STORE does not permit off,
else to SLEEP.
Where the spec leaves the reading open it states the model's, as log row 83 gives. The clauses in which a command changes nothing because
its condition does not hold state the model's choice (log row 15). -/
def Obligations.EnergyAndSupplies : Prop :=
  ∀ s : State,
  (∀ (h v0 v1 v2 v3 : Rat) c vdrv, s.alive = true →
    (s.flag F.PLINTH_STATUS_BELOW_ABORT = true ∨ 26 / 10 ≤ h ∨ s.plState = 0 ∨ s.plState = 3) →
    ∃ t, exec (.energyFlagUpdate h v0 v1 v2 v3 c vdrv) s = .next t ∧
      (∀ x ∈ [(F.PLINTH_STATUS_MEAS_OK, (3 : Rat)), (F.PLINTH_STATUS_START_OK, 42 / 10), (F.PLINTH_STATUS_XMIT_OK, 48 / 10)],
        t.get x.1 = (if x.2 ≤ h then 1 else if h < x.2 - 15 / 100 then 0 else s.get x.1)) ∧
      t.get F.PLINTH_STATUS_BELOW_ABORT = (if h < 26 / 10 then 1 else if 275 / 100 < h then 0 else s.get F.PLINTH_STATUS_BELOW_ABORT) ∧
      t.get F.PLINTH_STATUS_VIN_OK = (if 85 / 10 ≤ v0 ∨ 85 / 10 ≤ v1 ∨ 85 / 10 ≤ v2 ∨ 85 / 10 ≤ v3 then 1 else 0) ∧
      (∀ k : Fin 4, [v0, v1, v2, v3].getD k 0 ≤ [v0, v1, v2, v3].getD (t.get F.PLINTH_STATUS_VIN_SEL) 0) ∧
      (s.pdOn 1 = true → t.flag F.SYS_RAILS_VDRV_OK = vdrv) ∧ t.plState = s.plState ∧
      Keeps [whole R.PLINTH_STATUS, F.SYS_RAILS_VDRV_OK, F.DRV_STATUS_VDRV_OK, pdMoveF 9] [.plinth, .drive] s t) ∧
  (∀ (h v0 v1 v2 v3 : Rat) c vdrv, s.alive = true → s.flag F.PLINTH_STATUS_BELOW_ABORT = false → h < 26 / 10 → (s.plState = 1 ∨ s.plState = 2) → s.canonical = true →
    ∃ t, exec (.energyFlagUpdate h v0 v1 v2 v3 c vdrv) s = .next t ∧ SleptFrom s t ∧
      t.get F.PLINTH_ACT_CNT_ABORTED = min (s.get F.PLINTH_ACT_CNT_ABORTED + (if s.plcBusy = true then 2 else 1)) 255) ∧
  (s.alive = false → ∀ h v0 v1 v2 v3 c vdrv, exec (.energyFlagUpdate h v0 v1 v2 v3 c vdrv) s = .next s) ∧
  (s.alive = true → (s.plState = 2 ∨ (s.plState = 0 ∧ s.plinth.cold = true)) →
    ∃ t, exec .buckBGood s = .next t ∧ t.plState = 3 ∧
      (s.pdOn 1 = true → t.get F.SYS_RAILS_BUCKA_ON = 1 ∧ t.get F.SYS_RAILS_STORE_SUPPLY = 0) ∧
      Keeps [F.PLINTH_STATUS_STATE, F.SYS_RAILS_BUCKA_ON, F.SYS_RAILS_STORE_SUPPLY] [] s t) ∧
  (s.plState = 3 → s.flag F.PLINTH_STATUS_PF_ACTIVE = false →
    ∃ t, exec .powerFailWarning s = .next t ∧ t.get F.PLINTH_STATUS_PF_ACTIVE = 1 ∧ t.get F.PLINTH_STICKY_PF_WARN = 1 ∧
      (s.meter.used = true → s.meterRun = true → t.meter.failAt = some s.epoch) ∧
      KeepsOutside [zone R.DIAG_MAINT_REQ, zone R.DRV_STATUS, zone R.GRID_CFG, zone R.LANE_STATUS, (0x400D0000, 0x400E0000),
          zone R.RELAY_CFG, zone R.SENSG_STATUS, zone R.SENSP_STATUS, zone R.WCMPG_STATUS, zone R.WCMPP_STATUS]
        [.mem, .shadow, .draws, .pwm, .sens, .wcmp, .drive, .diag, .relay, .meter] s t) ∧
  ((s.plState ≠ 3 ∨ s.flag F.PLINTH_STATUS_PF_ACTIVE = true) → exec .powerFailWarning s = .next s) ∧
  (s.flag F.PLINTH_STATUS_PF_ACTIVE = true →
    ∃ t, exec .powerFailRestore s = .next t ∧ t.get F.PLINTH_STATUS_PF_ACTIVE = 0 ∧ t.get F.PLINTH_STICKY_PF_RESTORE = 1 ∧
      (s.meter.failAt.isSome = true → t.meter.failAt = none ∧ t.meter.resume = true ∧ t.meter.resumeFrom = s.epoch) ∧
      Keeps [F.PLINTH_STATUS_PF_ACTIVE, F.PLINTH_STICKY_PF_RESTORE] [.meter] s t) ∧
  ((s.plState = 2 ∨ s.plState = 3) → s.flag F.PLINTH_STATUS_MEAS_OK = true →
    ∃ t, exec .buckAStop s = .next t ∧ t.plState = 1 ∧ t.plinth.session = some s.plinth.cyc ∧ t.get (opF 2) = 2 ∧
      (∀ d : Fin 12, pdStore d = false → t.pdOn d = false ∧ t.flag (pdCtrlF d) = false) ∧
      (∀ d : Fin 12, pdStore d = true → t.pdOn d = s.pdOn d) ∧
      t.flag (padHoldF 1) = true ∧ t.flag (padHoldF 11) = true ∧ t.get F.SYS_RAILS_STORE_SUPPLY = 1 ∧ t.get F.SYS_RAILS_BUCKA_ON = 0 ∧
      KeepsOutside [zone R.SYS_ID, zone R.COURH_STATUS, zone R.DIAG_MAINT_REQ, zone R.DRV_STATUS, zone R.EPOCH_CTRL, zone R.GRID_CFG, zone R.LANE_STATUS,
            zone (R.LP_CTRL 0), zone R.METER_CTRL, zone R.PLC_STATUS, zone (R.PWM_CTRL 0), zone R.RELAY_CFG, zone R.SENSG_STATUS, zone R.SENSP_STATUS,
            zone R.WCMPG_STATUS, zone R.WCMPP_STATUS, zone R.SV_INFO, (0x400D0000, 0x400E0000)]
          [.mem, .shadow, .draws, .raised, .pwm, .plinth, .sens, .wcmp, .loop, .drive, .diag, .grid, .relay, .meter, .sv, .hok, .cour] s t) ∧
  ((s.plState = 2 ∨ s.plState = 3) → s.flag F.PLINTH_STATUS_MEAS_OK = false → s.canonical = true →
    ∃ t, exec .buckAStop s = .next t ∧ SleptFrom s t) ∧
  ((s.plState = 0 ∨ s.plState = 1) → exec .buckAStop s = .next s)

/-! ### Svauth (chapter 18) -/

/-- The mailbox (R565, R590, Table SVA-10): a command is served at its turn only; while Svauth is fenced all but GET_INFO answer FENCED, and an opcode that
the channel may not issue answers INITIATOR; the completion of a served command frees the channel, sets DONE and leaves result and answer; GET_INFO,
GET_DEVID_CERT, ATTEST, READ_PM and RANDOM answer their bytes and change nothing else.
Where the spec leaves the reading open it states the model's, as log rows 90 and 91 give. The clauses in which a command changes nothing
because its condition does not hold state the model's choice (log row 15). -/
def Obligations.MailboxTurnsAndReads : Prop :=
  ∀ s : State,
  (∀ (q : Fin 2) (b c d : List Byte) (au : Option (List Byte)) (m n : Nat),
    ∀ x ∈ [(1, Instr.svGetInfo q), (2, .svGetDevidCert q), (3, .svAttest q b), (4, .svExtend q m b n), (5, .svReadPm q), (6, .svRandom q m),
        (7, .svVerifyAuth q b m c), (8, .svStageBegin q m n), (9, .svStageData q m b), (10, .svStageEnd q), (11, .svSelect q m n),
        (12, .svConfirm q m n), (13, .svOwnerEnroll q m b au n), (14, .svOwnerRevoke q m b n), (15, .svSetAppStrict q b n),
        (16, .svDebugPermit (q.castLE (by decide)) c d n), (17, .svPermitEnd (q.castLE (by decide)))],
      (s.svTurn q x.1 = false → exec x.2 s = .next s) ∧
      (∀ r, s.svTurn q x.1 = true → s.svBar q x.1 = some r → ∃ t, exec x.2 s = .next t ∧ Served q r [] s t ∧ Keeps [] [.sv] s t)) ∧
  (∀ q : Fin 2, s.svTurn q 1 = true → s.svBar q 1 = none →
    ∃ t b, exec (.svGetInfo q) s = .next t ∧ b.length ≤ 4096 ∧ Served q 0 b s t ∧ Keeps [] [.sv, .draws] s t) ∧
  (∀ q : Fin 2, s.svTurn q 2 = true → s.svBar q 2 = none →
    ∃ t b, exec (.svGetDevidCert q) s = .next t ∧ b.length = 3796 ∧ Served q 0 b s t ∧ Keeps [] [.sv] s t) ∧
  (∀ (q : Fin 2) nonce, s.svTurn q 3 = true → s.svBar q 3 = none → nonce.length = 32 → s.flag F.SV_INFO_DEVID_READY = true →
    ∃ t b, exec (.svAttest q nonce) s = .next t ∧ b.length = 512 ∧ leNat ((b.drop 16).take 8) = s.epoch % 2 ^ 64 ∧ (b.drop 32).take 32 = nonce ∧
      (∀ i : Fin 8, (b.drop (128 + 32 * i)).take 32 = fixLen 32 (s.pmOf i)) ∧
      Served q 0 (b ++ fixLen 2420 (Config.devidSign (sha3 b))) s t ∧ Keeps [] [.sv] s t) ∧
  (∀ q : Fin 2, s.svTurn q 5 = true → s.svBar q 5 = none →
    ∃ t, exec (.svReadPm q) s = .next t ∧ Served q 0 ((List.range 8).flatMap s.pmOf) s t ∧ Keeps [] [.sv] s t) ∧
  (∀ (q : Fin 2) n, s.svTurn q 6 = true → s.svBar q 6 = none → 1 ≤ n → n ≤ 256 →
    ∃ t b, exec (.svRandom q n) s = .next t ∧ b.length = n ∧ Served q 0 b s t ∧ Keeps [] [.sv, .draws] s t) ∧
  (∀ (q : Fin 2) n, s.svTurn q 6 = true → s.svBar q 6 = none → (n = 0 ∨ 256 < n) →
    ∃ t, exec (.svRandom q n) s = .next t ∧ Served q 2 [] s t ∧ Keeps [] [.sv] s t) ∧
  (∀ q : Fin 2, (s.sv.chan.get q).op ≠ 0 → (s.sv.chan.get q).served = true → (s.sv.chan.get q).result < 256 → (s.sv.chan.get q).rsp.length ≤ 4096 →
    ∃ t, exec (.svCmdComplete (q.castLE (by decide))) s = .next t ∧ t.sv.chan.get q = default ∧ t.get (F.SV_STATUS_BUSY q) = 0 ∧
      t.get (F.SV_STATUS_DONE q) = 1 ∧ t.get (F.SV_STATUS_RESULT q) = (s.sv.chan.get q).result ∧
      t.get (F.SV_STATUS_RSP_LEN q) = (s.sv.chan.get q).rsp.length ∧
      t.rdBytes (R.SV_RSP q) (s.sv.chan.get q).rsp.length = (s.sv.chan.get q).rsp ∧
      (∀ a, a < R.SV_RSP q ∨ R.SV_RSP q + (s.sv.chan.get q).rsp.length ≤ a → t.rdB a = s.rdB a) ∧ Keeps [whole (R.SV_STATUS q)] [.mem, .sv] s t) ∧
  ((s.sv.chan.get 2).op ≠ 0 → (s.sv.chan.get 2).served = true →
    ∃ t, exec (.svCmdComplete 2) s = .next t ∧ t.sv.chan.get 2 = default ∧ t.resp.result = (s.sv.chan.get 2).result ∧ Keeps [] [.resp, .sv] s t) ∧
  (∀ q : Fin 2, 0x12 ≤ (s.sv.chan.get q).op → (s.sv.chan.get q).served = false → s.sv.queue.head? = some q.val → s.svFree = true →
    ∃ t, exec (.svCmdComplete (q.castLE (by decide))) s = .next t ∧ t.sv.chan.get q = default ∧ t.get (F.SV_STATUS_BUSY q) = 0 ∧
      t.get (F.SV_STATUS_DONE q) = 1 ∧ t.get (F.SV_STATUS_RESULT q) = 2 ∧ Keeps [whole (R.SV_STATUS q)] [.mem, .sv] s t) ∧
  (∀ ch : Fin 3, ((s.sv.chan.get ch).op = 0 ∨ ((s.sv.chan.get ch).op < 0x12 ∧ svMayIssue ch (s.sv.chan.get ch).op = true ∧
      (s.sv.chan.get ch).served = false)) → exec (.svCmdComplete ch) s = .next s)

/-- Measurements, authorisation and owners (R571, R572, R578, R579, R585 to R587): EXTEND by the pair that may replaces the register by the digest of itself and the
operand and logs it; an AUTH record that passes advances its signer's counter, one that fails sets its sticky flag; an enrolment stores the key and its
digest, a revocation and the strict policy set their OTP bits, each measured into PM4 and logged.
Where the spec leaves the reading open it states the model's, as log rows 90 and 91 give. -/
def Obligations.MeasurementsAndOwners : Prop :=
  ∀ (s : State) (q : Fin 2),
  (∀ pm d, s.svTurn q 4 = true → s.svBar q 4 = none → d.length = 32 → 5 ≤ pm → pm ≤ 7 → (pm = 7 ↔ q = 1) →
    ∃ t, exec (.svExtend q pm d 0) s = .next t ∧ t.sv.pm.get pm = sha3 (s.pmOf pm ++ d) ∧ (∀ i, i ≠ pm → t.sv.pm.get i = s.sv.pm.get i) ∧
      Logged 8 pm d s t ∧ Served q 0 [] s t ∧ Keeps [] [.mem, .sv] s t) ∧
  (∀ pm d bad, s.svTurn q 4 = true → s.svBar q 4 = none → d.length = 32 → 5 ≤ pm → pm ≤ 7 → ¬(pm = 7 ↔ q = 1) →
    ∃ t, exec (.svExtend q pm d bad) s = .next t ∧ Served q 9 [] s t ∧ Keeps [] [.sv] s t) ∧
  (∀ rcd op args, s.svTurn q 7 = true → s.svBar q 7 = none →
    ∃ t, exec (.svVerifyAuth q rcd op args) s = .next t ∧ Served q (s.authCheck rcd op args) [] s t ∧
      (s.authCheck rcd op args = 0 → t.sv.replay.get (bU rcd 6 2) = bU rcd 8 8 ∧ (∀ n, n ≠ bU rcd 6 2 → t.sv.replay.get n = s.sv.replay.get n) ∧
        Keeps [] [.sv] s t) ∧
      (s.authCheck rcd op args = 4 → t.get F.SV_STICKY_REPLAY = 1 ∧ t.sv.replay = s.sv.replay ∧ Keeps [F.SV_STICKY_REPLAY] [.sv] s t) ∧
      (s.authCheck rcd op args = 3 → t.get F.SV_STICKY_AUTH_FAIL = 1 ∧ t.sv.replay = s.sv.replay ∧ Keeps [F.SV_STICKY_AUTH_FAIL] [.sv] s t)) ∧
  (∀ slot key auth, s.svTurn q 13 = true → s.svBar q 13 = none → 1 ≤ slot → slot ≤ 4 → key.length = 1312 → s.sv.hash.get slot = [] →
    bitOf s.sv.revoked (slot - 1) = false →
    (s.svEnrolled = 0 ∨ ∃ r, auth = some r ∧ s.authCheck r 0x0D (Config.argBytes 0x0D (leBytes 1 slot ++ key)) = 0) →
    ∃ t d, exec (.svOwnerEnroll q slot key auth 0) s = .next t ∧ t.sv.hash.get slot = sha3 key ∧ t.sv.key.get slot = key ∧
      (∀ n, n ≠ slot → t.sv.hash.get n = s.sv.hash.get n ∧ t.sv.key.get n = s.sv.key.get n) ∧
      t.sv.pm.get 4 = sha3 (s.pmOf 4 ++ d) ∧ Logged 9 4 d s t ∧ Served q 0 [] s t ∧ Keeps otpFlds [.mem, .draws, .sv] s t) ∧
  (∀ slot key auth bad, s.svTurn q 13 = true → s.svBar q 13 = none → 1 ≤ slot → slot ≤ 4 → key.length = 1312 →
    (s.sv.hash.get slot ≠ [] ∨ bitOf s.sv.revoked (slot - 1) = true) →
    ∃ t, exec (.svOwnerEnroll q slot key auth bad) s = .next t ∧ Served q 8 [] s t ∧ Keeps [] [.sv] s t) ∧
  (∀ slot auth, s.svTurn q 14 = true → s.svBar q 14 = none → 1 ≤ slot → slot ≤ 4 →
    s.authCheck auth 0x0E (Config.argBytes 0x0E (leBytes 1 slot)) = 0 →
    (bU auth 6 2 ≠ slot → ∃ t d, exec (.svOwnerRevoke q slot auth 0) s = .next t ∧ t.sv.revoked = s.sv.revoked ||| 2 ^ (slot - 1) ∧
      t.sv.replay.get (bU auth 6 2) = bU auth 8 8 ∧ t.sv.pm.get 4 = sha3 (s.pmOf 4 ++ d) ∧ Logged 9 4 d s t ∧ Served q 0 [] s t ∧
      Keeps otpFlds [.mem, .draws, .sv] s t) ∧
    (bU auth 6 2 = slot → ∃ t, exec (.svOwnerRevoke q slot auth 0) s = .next t ∧ Served q 5 [] s t ∧ Keeps [] [.sv] s t)) ∧
  (∀ auth, s.svTurn q 15 = true → s.svBar q 15 = none → s.authCheck auth 0x0F (Config.argBytes 0x0F []) = 0 →
    (bU auth 6 2 ≠ 0 → ∃ t d, exec (.svSetAppStrict q auth 0) s = .next t ∧ t.sv.strict = true ∧ t.get F.SV_INFO_APP_STRICT = 1 ∧
      Logged 0x0B 4 d s t ∧ Served q 0 [] s t ∧ Keeps otpFlds [.mem, .draws, .sv] s t) ∧
    (bU auth 6 2 = 0 → ∃ t, exec (.svSetAppStrict q auth 0) s = .next t ∧ Served q 5 [] s t ∧ Keeps [] [.sv] s t))

/-- Staging, selection and confirmation (R45 to R51, R458, R582 to R584): STAGE_BEGIN opens a slot that is not active and clears its valid bit; STAGE_DATA starts the
write of the next bytes as MRAM_PROGRAM; at its end they stand in the slot; STAGE_END checks the package and sets the valid bit only where every check
passes; a selection takes a valid or the active slot; a confirmation raises the anti-rollback value and logs it.
Where the spec leaves the reading open it states the model's, as log rows 91 and 92 give. The clauses in which a command changes nothing
because its condition does not hold state the model's choice (log row 15). -/
def Obligations.StagingAndSelection : Prop :=
  ∀ (s : State) (q : Fin 2),
  (∀ kind slot, s.svTurn q 8 = true → s.svBar q 8 = none → kind < 3 → slot < 2 → s.sv.stage = none → (kind = 2 ∨ slot ≠ s.activeSlot kind) →
    s.maintAhead s.epoch 10 = [] → s.maintRefusal .staging 10 = none →
    ∃ t, exec (.svStageBegin q kind slot) s = .next t ∧
      t.sv.stage = some { kind := kind, slot := slot, written := 0, write := none, ending := false } ∧ t.get (busyF kind) = 1 ∧
      (kind ≠ 2 → t.get (validF kind slot) = 0 ∧ (s.get (selF kind) = slot → s.activeSlot kind < 2 → t.get (selF kind) = s.activeSlot kind)) ∧
      (kind = 2 → t.get F.SV_BOOT_APP_STATE = 0) ∧ Served q 0 [] s t ∧
      Keeps [busyF kind, if kind = 2 then F.SV_BOOT_APP_STATE else validF kind slot, selF kind] [.sv] s t) ∧
  (∀ kind, s.svTurn q 8 = true → s.svBar q 8 = none → kind < 2 → s.activeSlot kind < 2 → s.sv.stage = none →
    ∃ t, exec (.svStageBegin q kind (s.activeSlot kind)) s = .next t ∧ t.get (errF kind) = 0x0D ∧ Served q 8 [0x0D#8] s t ∧
      Keeps [errF kind] [.sv] s t) ∧
  (∀ g data, s.svTurn q 9 = true → s.svBar q 9 = none → s.sv.stage = some g → g.write = none → g.ending = false →
    g.written + data.length ≤ slotSize g.kind → s.maintAhead s.epoch 10 = [] → s.maintRefusal .staging 10 = none →
    ∃ t, exec (.svStageData q g.written data) s = .next t ∧ t.sv.stage = some { g with write := some (g.written, data) } ∧
      t.maintRuns Act.mramProgram = true ∧ Served q 0 [] s t ∧
      Keeps [⟨R.DIAG_MAINT_RUN, 10, 1⟩, F.DIAG_MAINT_RESULT_RUNS 10, whole R.DIAG_MAINT_LAST] [.sv] s t) ∧
  (∀ kind slot, s.svTurn q 8 = true → s.svBar q 8 = none → kind < 3 → slot < 2 → s.sv.stage.isSome = true →
    ∃ t, exec (.svStageBegin q kind slot) s = .next t ∧ Served q 1 [] s t ∧ Keeps [] [.sv] s t) ∧
  (∀ g data why blk, s.svTurn q 9 = true → s.svBar q 9 = none → s.sv.stage = some g → g.write = none → g.ending = false →
    g.written + data.length ≤ slotSize g.kind → s.maintAhead s.epoch 10 = [] → s.maintRefusal .staging 10 = some (why, blk) →
    ∃ t, exec (.svStageData q g.written data) s = .next t ∧ t.sv.stage = some g ∧ t.get F.DIAG_MAINT_LAST_REASON = why ∧
      t.flag ⟨R.DIAG_MAINT_REFUSED, 10, 1⟩ = true ∧ Served q 1 [] s t ∧
      Keeps [⟨R.DIAG_MAINT_REFUSED, 10, 1⟩, whole R.DIAG_MAINT_LAST] [.sv] s t) ∧
  (∀ g off data, s.svTurn q 9 = true → s.svBar q 9 = none → s.sv.stage = some g → g.write = none → g.ending = false → off ≠ g.written →
    ∃ t, exec (.svStageData q off data) s = .next t ∧ Served q 2 [] s t ∧ Keeps [] [.sv] s t) ∧
  (∀ g, s.svTurn q 10 = true → s.svBar q 10 = none → s.sv.stage = some g → g.write = none →
    ∃ t r, exec (.svStageEnd q) s = .next t ∧ t.sv.stage = none ∧ t.get (busyF g.kind) = 0 ∧
      Served q r [BitVec.ofNat 8 (s.slotCheck g.kind g.slot)] s t ∧ (r = 0 ↔ s.slotCheck g.kind g.slot = 0) ∧
      (s.slotCheck g.kind g.slot = 0 → g.kind < 2 → t.get (validF g.kind g.slot) = 1) ∧
      (s.slotCheck g.kind g.slot ≠ 0 → t.get (errF g.kind) = s.slotCheck g.kind g.slot) ∧
      Keeps [busyF g.kind, if s.slotCheck g.kind g.slot = 0 then validF g.kind g.slot else errF g.kind] [.draws, .sv] s t) ∧
  (∀ g w, s.svTurn q 10 = true → s.svBar q 10 = none → s.sv.stage = some g → g.write = some w →
    ∃ t, exec (.svStageEnd q) s = .next t ∧ t.sv.stage = some { g with ending := true } ∧ t.sv.chan = s.sv.chan ∧ t.sv.queue = s.sv.queue ∧
      Keeps [] [.sv] s t) ∧
  (∀ g w, s.maintRuns Act.mramProgram = true → s.sv.stage = some g → g.write = some w → g.ending = false → g.kind < 3 → g.slot < 2 → w.1 + w.2.length ≤ slotSize g.kind →
    ∃ t, exec .mramProgramEnd s = .next t ∧ t.rdBytes (slotBase g.kind g.slot + w.1) w.2.length = w.2 ∧
      (∀ a, a < slotBase g.kind g.slot + w.1 ∨ slotBase g.kind g.slot + w.1 + w.2.length ≤ a → t.rdB a = s.rdB a) ∧
      t.maintRuns Act.mramProgram = false ∧ t.sv.stage = some { g with written := g.written + w.2.length, write := none, ending := false } ∧
      Keeps [⟨R.DIAG_MAINT_RUN, 10, 1⟩, ⟨R.DIAG_MAINT_DONE, 10, 1⟩, F.DIAG_MAINT_RESULT_RESULT 10] [.mem, .sv] s t) ∧
  (∀ g w, s.maintRuns Act.mramProgram = true → s.sv.stage = some g → g.write = some w → g.ending = true → s.svTurn 0 10 = true →
    g.kind < 3 → g.slot < 2 → w.1 + w.2.length ≤ slotSize g.kind →
    ∃ t, exec .mramProgramEnd s = .next t ∧ t.rdBytes (slotBase g.kind g.slot + w.1) w.2.length = w.2 ∧ t.maintRuns Act.mramProgram = false ∧
      t.sv.stage = none ∧ t.get (busyF g.kind) = 0 ∧ (t.sv.chan.get 0).served = true ∧ t.sv.queue = s.sv.queue.filter (· != 0) ∧
      Keeps [⟨R.DIAG_MAINT_RUN, 10, 1⟩, ⟨R.DIAG_MAINT_DONE, 10, 1⟩, F.DIAG_MAINT_RESULT_RESULT 10, busyF g.kind,
        (if g.kind = 2 then errF 2 else validF g.kind g.slot), errF g.kind] [.mem, .draws, .sv] s t) ∧
  (s.maintRuns Act.mramProgram = false → exec .mramProgramEnd s = .next s) ∧
  (∀ slot, s.svTurn q 11 = true → s.svBar q 11 = none → slot < 2 → (slot = s.activeSlot 0 ∨ s.flag (validF 0 slot) = true) →
    ∃ t, exec (.svSelect q 0 slot) s = .next t ∧ t.get F.SV_BOOT_FW_SEL = slot ∧ Served q 0 [] s t ∧ Keeps [F.SV_BOOT_FW_SEL] [.sv] s t) ∧
  (∀ slot, s.svTurn q 11 = true → s.svBar q 11 = none → slot < 2 → slot ≠ s.activeSlot 0 → s.flag (validF 0 slot) = false →
    ∃ t, exec (.svSelect q 0 slot) s = .next t ∧ Served q 8 [] s t ∧ Keeps [] [.sv] s t) ∧
  (s.svTurn q 12 = true → s.svBar q 12 = none → s.inFoyer = false → s.sv.arbFw < s.sv.fwSecver →
    ∃ t d, exec (.svConfirm q 0 0) s = .next t ∧ t.sv.arbFw = s.sv.fwSecver ∧ Logged 0x0A 0xFF d s t ∧ Served q 0 [] s t ∧
      Keeps otpFlds [.mem, .draws, .sv] s t) ∧
  (s.svTurn q 12 = true → s.svBar q 12 = none → (s.inFoyer = true ∨ s.sv.fwSecver ≤ s.sv.arbFw) →
    ∃ t, exec (.svConfirm q 0 0) s = .next t ∧ Served q 8 [] s t ∧ Keeps [] [.sv] s t) ∧
  (∀ i (v : Word), bitsOf v.toNat 16 16 = 0xA55A →
    ∃ t, exec (.imgSelectWrite i v) s = .next t ∧
      ((bitsOf v.toNat 0 1 = s.activeSlot 1 ∨ s.flag (validF 1 (bitsOf v.toNat 0 1)) = true) →
        t.get F.SYS_IMG_SELECT_SLOT = bitsOf v.toNat 0 1 ∧ Keeps [F.SYS_IMG_SELECT_SLOT] [] s t) ∧
      (¬(bitsOf v.toNat 0 1 = s.activeSlot 1 ∨ s.flag (validF 1 (bitsOf v.toNat 0 1)) = true) →
        t.get F.SYS_IMG_STATUS_SEL_REJECT = 1 ∧ Keeps [F.SYS_IMG_STATUS_SEL_REJECT] [] s t)) ∧
  (∀ i (v : Word), bitsOf v.toNat 16 16 ≠ 0xA55A → exec (.imgSelectWrite i v) s = .next s) ∧
  (∀ i, s.img.applied.isSome = true → s.inFoyer = false → s.sv.arbImg < (s.rd R.SYS_IMG_SECVER).toNat →
    ∃ t d, exec (.imgConfirmWrite i 0xC0F1#32) s = .next t ∧ t.sv.arbImg = (s.rd R.SYS_IMG_SECVER).toNat ∧ Logged 0x0A 0xFF d s t ∧
      Keeps otpFlds [.mem, .draws, .sv] s t) ∧
  (∀ i (v : Word), (v ≠ 0xC0F1#32 ∨ s.inFoyer = true ∨ (s.rd R.SYS_IMG_SECVER).toNat ≤ s.sv.arbImg) → exec (.imgConfirmWrite i v) s = .next s)

/-- Permits and boot (R565, R576, R577, R588, R589, R612, Table SVA-6): a permit that its record, policy and pins allow is in force for its duration and is logged; it ends by
command, by time or, for FACTORY, with TEST_MODE, and every halt and breakpoint with it; boot takes its steps in order, measures what each names, and
a failed check enters the Foyer state; a detected fault raises SVAUTH_FAULT.
Where the spec leaves the reading open it states the model's, as log row 91 gives. The clauses in which a command changes nothing because
its condition does not hold state the model's choice (log row 15). -/
def Obligations.PermitsAndBoot : Prop :=
  ∀ s : State,
  (∀ (ch : Fin 3) auth args, s.svTurn ch 16 = true → s.svBar ch 16 = none → args.length = 4 → 1 ≤ bU8 args 0 → bU8 args 0 ≤ 3 → 1 ≤ bU args 1 2 →
    bU args 1 2 ≤ 3600 → bU8 args 3 = 0 → s.sv.debugLock = false → s.docPads = true → s.authCheck auth 16 args = 0 →
    (bU8 args 0 = 3 → s.pins.testMode = true ∧ bU auth 6 2 = 0) →
    ∃ t, exec (.svDebugPermit ch auth args 0) s = .next t ∧ t.get F.SV_INFO_PERMIT = bU8 args 0 ∧
      t.sv.permitTo = s.mono + bU args 1 2 * 800000000 ∧ t.sv.permitted = true ∧ t.sv.replay.get (bU auth 6 2) = bU auth 8 8 ∧
      t.sv.pm.get 4 = sha3 (s.pmOf 4 ++ sha3 (auth.take 80)) ∧ Logged 7 4 (sha3 (auth.take 80)) s t ∧ Served ch 0 [] s t ∧
      (bU8 args 0 ≠ 1 → Keeps [F.SV_INFO_PERMIT] [.mem, .sv] s t) ∧
      KeepsOutside [zone R.SV_INFO, zone (R.PWM_CTRL 0), zone (R.LP_CTRL 0)] [.mem, .shadow, .pwm, .loop, .sv, .start, .hok] s t) ∧
  (∀ (ch : Fin 3) auth args bad, s.svTurn ch 16 = true → s.svBar ch 16 = none → args.length = 4 → 1 ≤ bU8 args 0 → bU8 args 0 ≤ 3 → 1 ≤ bU args 1 2 →
    bU args 1 2 ≤ 3600 → bU8 args 3 = 0 →
    (s.sv.debugLock = true ∨ s.docPads = false ∨ (bU8 args 0 = 3 ∧ s.pins.testMode = false)) →
    ∃ t, exec (.svDebugPermit ch auth args bad) s = .next t ∧ Served ch 5 [] s t ∧ Keeps [] [.sv] s t) ∧
  (∀ (ch : Fin 3), s.svTurn ch 17 = true → s.svBar ch 17 = none →
    ∃ t, exec (.svPermitEnd ch) s = .next t ∧ t.get F.SV_INFO_PERMIT = 0 ∧ Served ch 0 [] s t ∧
      (s.get F.SV_INFO_PERMIT ≠ 0 → (∀ k : Fin 9, t.dbgHalted k = false) ∧ ∀ q : Fin 2, (t.hok.get q).bp = []) ∧
      KeepsOutside [zone R.SV_INFO, zone (R.PWM_CTRL 0), zone (R.LP_CTRL 0)] [.shadow, .pwm, .loop, .sv, .start, .hok] s t) ∧
  (s.get F.SV_INFO_PERMIT ≠ 0 → s.sv.permitTo ≤ s.mono →
    ∃ t, exec .debugPermitExpire s = .next t ∧ t.get F.SV_INFO_PERMIT = 0 ∧ (∀ k : Fin 9, t.dbgHalted k = false) ∧
      (∀ q : Fin 2, (t.hok.get q).bp = []) ∧
      KeepsOutside [zone R.SV_INFO, zone (R.PWM_CTRL 0), zone (R.LP_CTRL 0)] [.shadow, .pwm, .loop, .sv, .start, .hok] s t) ∧
  ((s.get F.SV_INFO_PERMIT = 0 ∨ s.mono < s.sv.permitTo) → exec .debugPermitExpire s = .next s) ∧
  (∃ t, exec .testModeLow s = .next t ∧ t.pins.testMode = false ∧ t.pins.gpio = s.pins.gpio ∧
    t.get F.SV_INFO_PERMIT = (if s.get F.SV_INFO_PERMIT = 3 then 0 else s.get F.SV_INFO_PERMIT) ∧
    (s.get F.SV_INFO_PERMIT ≠ 3 → Keeps [] [.pins] s t) ∧
    KeepsOutside [zone R.SV_INFO, zone (R.PWM_CTRL 0), zone (R.LP_CTRL 0)] [.pins, .shadow, .pwm, .loop, .sv, .start, .hok] s t) ∧
  (s.inPhase 5 = true → s.sv.step = 1 →
    ∃ t d, exec (.bootStep 0) s = .next t ∧ t.sv.step = 2 ∧ t.sv.pm = [] ∧ t.sv.bootNo = (s.sv.bootNo + 1) % 2 ^ 32 ∧ t.sv.permitted = false ∧
      Logged 0x01 0xFF d s t ∧ Keeps [] [.mem, .draws, .sv] s t) ∧
  (s.inPhase 5 = true → s.sv.step = 2 →
    ∃ t, exec (.bootStep 0) s = .next t ∧ t.sv.step = 3 ∧ t.sv.pm.get 0 = sha3 (s.pmOf 0 ++ fixLen 32 romDigest) ∧
      Logged 0x02 0 (fixLen 32 romDigest) s t ∧ Keeps [] [.mem, .sv] s t) ∧
  (s.inPhase 5 = true → s.sv.step = 3 →
    ∃ t, exec (.bootStep 0) s = .next t ∧ t.sv.step = 4 ∧ t.sv.pm.get 0 = sha3 (s.pmOf 0 ++ sha3 s.otpBytes) ∧
      Logged 0x03 0 (sha3 s.otpBytes) s t ∧ Keeps [] [.mem, .sv] s t) ∧
  (s.inPhase 5 = true → s.sv.step = 4 →
    ∃ t, exec (.bootStep 0) s = .next t ∧ t.sv.step = 5 ∧ t.get F.SV_INFO_DEVID_READY = 1 ∧ Keeps [F.SV_INFO_DEVID_READY] [.sv] s t) ∧
  (s.inPhase 5 = true → s.sv.step = 5 → s.slotCheck 0 (s.get F.SV_BOOT_FW_SEL) = 0 →
    ∃ t, exec (.bootStep 0) s = .next t ∧ t.sv.step = 6 ∧ t.get F.SV_BOOT_ACTIVE_FW = s.get F.SV_BOOT_FW_SEL ∧ t.get F.SV_BOOT_FW_ERR = 0 ∧
      t.sv.pm.get 1 = sha3 (s.pmOf 1 ++ t.sv.fwDigest) ∧ Logged 0x04 1 t.sv.fwDigest s t ∧
      Keeps [F.SV_BOOT_ACTIVE_FW, F.SV_BOOT_FW_ERR] [.mem, .sv] s t) ∧
  (s.inPhase 5 = true → s.sv.step = 5 → s.slotCheck 0 (s.get F.SV_BOOT_FW_SEL) ≠ 0 →
    ∃ t, exec (.bootStep 0) s = .next t ∧ t.inFoyer = true ∧ t.get F.SYS_FOYER_CAUSE = 1 ∧
      t.get F.SYS_FOYER_DETAIL = s.slotCheck 0 (s.get F.SV_BOOT_FW_SEL) ∧ t.sv.step = 0 ∧
      KeepsOutside foyerZones foyerParts s t) ∧
  (s.inPhase 5 = true → s.sv.step = 6 → s.imgCheck (s.imgBytes (s.get F.SYS_IMG_SELECT_SLOT)) = 0 →
    ∃ t, exec (.bootStep 0) s = .next t ∧ t.sv.step = 7 ∧ t.img.applied.isSome = true ∧ t.get F.SYS_IMG_STATUS_ACTIVE = s.get F.SYS_IMG_SELECT_SLOT ∧
      t.sv.pm.get 2 = sha3 (s.pmOf 2 ++ sha3 ((s.imgBytes (s.get F.SYS_IMG_SELECT_SLOT)).take 128)) ∧
      (∀ g : Fld, (∀ e ∈ (parseImage (s.imgBytes (s.get F.SYS_IMG_SELECT_SLOT))).regs, e.1.apart g = true) →
        (∀ r ∈ foyerZones, g.addr < r.1 ∨ r.2 ≤ g.addr) → t.get g = s.get g) ∧
      KeepsParts (.img :: foyerParts) s t) ∧
  (s.inPhase 5 = true → s.sv.step = 6 → s.imgCheck (s.imgBytes (s.get F.SYS_IMG_SELECT_SLOT)) ≠ 0 →
    ∃ t, exec (.bootStep 0) s = .next t ∧ t.inFoyer = true ∧ t.get F.SYS_FOYER_CAUSE = 2 ∧
      t.get F.SYS_FOYER_DETAIL = s.imgCheck (s.imgBytes (s.get F.SYS_IMG_SELECT_SLOT)) ∧ t.sv.step = 0 ∧
      KeepsOutside foyerZones foyerParts s t) ∧
  (s.inPhase 5 = true → s.sv.step = 7 → s.slotCheck 2 0 = 0 →
    ∃ t, exec (.bootStep 0) s = .next t ∧ t.sv.step = 8 ∧
      t.get F.SV_BOOT_APP_STATE = (if bU (s.pkgBytes 2 0) 0x1E 2 = 0xFFFF then 2 else 1) ∧
      t.sv.pm.get 3 = sha3 (s.pmOf 3 ++ t.sv.appDigest) ∧ Logged 0x06 3 t.sv.appDigest s t ∧ Keeps [F.SV_BOOT_APP_STATE] [.mem, .sv] s t) ∧
  (s.inPhase 5 = true → s.sv.step = 7 → s.slotCheck 2 0 ≠ 0 → s.slotCheck 2 0 ≠ 0x0C →
    ∃ t, exec (.bootStep 0) s = .next t ∧ t.inFoyer = true ∧ t.get F.SYS_FOYER_CAUSE = 3 ∧ t.get F.SYS_FOYER_DETAIL = s.slotCheck 2 0 ∧ t.sv.step = 0 ∧
      KeepsOutside foyerZones foyerParts s t) ∧
  (s.inPhase 5 = true → s.sv.step = 7 → s.slotCheck 2 0 = 0x0C →
    ∃ t, exec (.bootStep 0) s = .next t ∧ t.sv.step = 8 ∧ t.get F.SV_BOOT_APP_STATE = 0 ∧ Keeps [F.SV_BOOT_APP_STATE] [.sv] s t) ∧
  (∀ bad, (s.inPhase 5 = false ∨ s.sv.step = 0 ∨ 7 < s.sv.step) → exec (.bootStep bad) s = .next s) ∧
  (s.pdOn 7 = true → s.inPhase 5 = false →
    ∃ t, exec .svauthFaultDetect s = .next t ∧ t.raised = s.raised ++ [⟨FS.SVAUTH_FAULT, 0⟩] ∧ Keeps [] [.raised] s t) ∧
  (s.pdOn 7 = true → s.inPhase 5 = true →
    ∃ t, exec .svauthFaultDetect s = .next t ∧ t.inFoyer = true ∧ t.get F.SYS_FOYER_CAUSE = 0x0B ∧ (⟨FS.SVAUTH_FAULT, 0⟩ : Raise) ∈ t.raised ∧
      KeepsOutside foyerZones foyerParts s t)

/-! ### The Docent port (R593 to R599) -/

/-- The debug link (R593, R595 to R598, Tables SVA-15 to SVA-17): with the pads enabled and nothing held, STATUS and IDCODE answer; READ and WRITE reach what R597 lists under
their permits, else FAULT or DENIED; HALT freezes a target's units, pauses its loop pair and raises DOCENT_HALT, RESUME undoes it; STEP runs one
instruction of a halted pair, whose registers and breakpoints can be read and written; WAIT holds a result for the identical request.
Where the spec leaves the reading open it states the model's, as log row 104 gives. -/
def Obligations.DebugLink : Prop :=
  ∀ s : State, s.docPads = true → s.pdOn 1 = true →
  (s.sv.held = none →
    (∃ t w, exec .docStatus s = .next t ∧ t.resp.result = 1 ∧ t.resp.words = [w] ∧ bitsOf w.toNat 0 2 = s.get F.SV_INFO_PERMIT ∧
      bitOf w.toNat 31 = s.inFoyer ∧ bitOf w.toNat 30 = s.flag F.CUR_STATUS_SAFE ∧ (∀ k : Fin 9, bitOf w.toNat (4 + k) = s.dbgHalted k) ∧
      bitsOf w.toNat 16 8 = min s.sv.crcErr 255 ∧ bitsOf w.toNat 13 3 = min s.sv.svcErr 7 ∧ Keeps [] [.resp] s t) ∧
    (∃ t, exec .docIdcode s = .next t ∧ t.resp.result = 1 ∧ t.resp.words = [s.sysId] ∧ Keeps [] [.resp] s t) ∧
    (∀ addr : BitVec 32, 1 ≤ s.get F.SV_INFO_PERMIT → s.docReads (addr.toNat / 4 * 4) = true → regionOf (addr.toNat / 4 * 4) ≠ .reg →
      s.eccBad (addr.toNat / 4 * 4) = false → (∀ p, regionOf (addr.toNat / 4 * 4) = .tcm p → s.workUndef p (addr.toNat / 4 * 4) = false) →
      ∃ t, exec (.docRead addr false) s = .next t ∧ t.resp.result = 1 ∧ t.resp.words = [s.rdW (addr.toNat / 4 * 4)] ∧ Keeps [] [.resp] s t) ∧
    (∀ addr : BitVec 32, 1 ≤ s.get F.SV_INFO_PERMIT → s.docReads (addr.toNat / 4 * 4) = true → regionOf (addr.toNat / 4 * 4) = .reg →
      ∃ t, exec (.docRead addr false) s = .next t ∧ t.resp.result = 1 ∧ t.resp.words = [(s.regRead (addr.toNat / 4 * 4)).2] ∧
        KeepsOutside [zone R.SYS_ID, zone R.EPOCH_CTRL, zone R.METER_CTRL, zone R.PERF_CTRL, (0x400D0000, 0x400E0000)] [.draws, .resp, .plinth] s t) ∧
    (∀ addr : BitVec 32, 1 ≤ s.get F.SV_INFO_PERMIT → regionOf (addr.toNat / 4 * 4) = .sram → s.eccBad (addr.toNat / 4 * 4) = true →
      ∃ t, exec (.docRead addr false) s = .next t ∧ t.resp.result = 1 ∧ t.resp.words = [0#32] ∧ t.get F.SYS_ECC_SRAM_UNCOR = 1 ∧
        t.raised = s.raised ++ [⟨FS.SRAM_ECC, 0⟩] ∧ Keeps [F.SYS_ECC_SRAM_UNCOR, whole R.SYS_ECC_ADDR] [.raised, .resp] s t) ∧
    (∀ addr : BitVec 32, 1 ≤ s.get F.SV_INFO_PERMIT → s.docReads (addr.toNat / 4 * 4) = false →
      ∃ t, exec (.docRead addr false) s = .next t ∧ t.resp.result = 4 ∧ Keeps [] [.resp] s t) ∧
    (∀ (addr : BitVec 32) w, s.get F.SV_INFO_PERMIT = 0 →
      ∃ t, exec (.docRead addr w) s = .next t ∧ t.resp.result = 6 ∧ Keeps [] [.resp] s t) ∧
    (∀ (addr : BitVec 32) (v : Word), 2 ≤ s.get F.SV_INFO_PERMIT → regionOf (addr.toNat / 4 * 4) = .sram →
      ∃ t, exec (.docWrite addr v false) s = .next t ∧ t.resp.result = 1 ∧ t.rdW (addr.toNat / 4 * 4) = v ∧
        (∀ b, memHome b < memHome (addr.toNat / 4 * 4) ∨ memHome (addr.toNat / 4 * 4) + 4 ≤ memHome b → t.rdB b = s.rdB b) ∧ Keeps [] [.mem, .resp] s t) ∧
    (∀ (addr : BitVec 32) (v : Word), 2 ≤ s.get F.SV_INFO_PERMIT → (s.docReads (addr.toNat / 4 * 4) && !docReserved (addr.toNat / 4 * 4)) = false →
      ∃ t, exec (.docWrite addr v false) s = .next t ∧ t.resp.result = 4 ∧ Keeps [] [.resp] s t) ∧
    (∀ (addr : BitVec 32) (v : Word) w, s.get F.SV_INFO_PERMIT < 2 →
      ∃ t, exec (.docWrite addr v w) s = .next t ∧ t.resp.result = 6 ∧ Keeps [] [.resp] s t) ∧
    (∀ k : Fin 16, k.val ≤ 8 → 2 ≤ s.get F.SV_INFO_PERMIT → s.pdOn (targetPd k) = true → s.dbgHalted k = false →
      (k = 8 → s.flag F.METER_CTRL_EN = false ∧ ∀ x : Fin 4, s.arcOn x = false) →
      ∃ t, exec (.docHalt k) s = .next t ∧ t.resp.result = 1 ∧ t.dbgHalted k = true ∧ t.raised = s.raised ++ [⟨FS.DOCENT_HALT, 0⟩] ∧
        (∀ u ∈ s.dbgUnits k, s.pwmState u = 1 → t.pwmState u = 2 ∧ (t.pwm.get u).frozenAt = s.epoch) ∧
        (∀ u : Fin 14, u.val ∉ s.dbgUnits k → t.pwmState u = s.pwmState u) ∧
        (∀ p : Fin 6, k.val = 2 + p → 1 ≤ s.lpState p → s.lpState p ≤ 3 → t.lpState p = 5 ∧ (t.loop.get p).saved = s.lpState p) ∧
        (k = 0 → t.start.wdHeld = some s.mono) ∧
        KeepsOutside [zone (R.PWM_CTRL 0), zone (R.LP_CTRL 0)] [.raised, .resp, .pwm, .loop, .sv, .start] s t) ∧
    (∀ k : Fin 16, 8 < k.val → ∃ t, exec (.docHalt k) s = .next t ∧ t.resp.result = 4 ∧ Keeps [] [.resp] s t) ∧
    (∀ k : Fin 16, k.val ≤ 8 → 2 ≤ s.get F.SV_INFO_PERMIT → s.dbgHalted k = true →
      ∃ t, exec (.docResume k) s = .next t ∧ t.resp.result = 1 ∧ t.dbgHalted k = false ∧
        (∀ u : Fin 14, u.val ∈ s.haltUnits k → (∀ j : Fin 9, j.val ≠ k.val → s.dbgHalted j = true → u.val ∉ s.sv.haltUnits.get j) → s.pwmState u = 2 →
          t.pwmState u = 1 ∧ (t.pwm.get u).start = (s.pwm.get u).start + (s.epoch - (s.pwm.get u).frozenAt)) ∧
        (k = 0 → t.start.wdHeld = none ∧ ∀ a, s.start.wdHeld = some a → t.start.wdFrom = s.start.wdFrom + (s.mono - a)) ∧
        (∀ u : Fin 14, (u.val ∉ s.haltUnits k ∨ ∃ j : Fin 9, j.val ≠ k.val ∧ s.dbgHalted j = true ∧ u.val ∈ s.sv.haltUnits.get j) →
          t.pwmState u = s.pwmState u) ∧
        (∀ p : Fin 6, k.val = 2 + p → s.lpState p = 5 → (s.loop.get p).saved < 8 → t.lpState p = (s.loop.get p).saved ∧
          (t.loop.get p).deadline = (s.loop.get p).deadline + (s.epoch - (s.sv.haltAt.get k - 1))) ∧
        KeepsOutside [zone (R.PWM_CTRL 0), zone (R.LP_CTRL 0)] [.shadow, .resp, .pwm, .loop, .sv, .start] s t) ∧
    (∀ k : Fin 16, k.val ≤ 8 → s.get F.SV_INFO_PERMIT < 2 →
      (∃ t, exec (.docHalt k) s = .next t ∧ t.resp.result = 6 ∧ Keeps [] [.resp] s t) ∧
      (∃ t, exec (.docResume k) s = .next t ∧ t.resp.result = 6 ∧ Keeps [] [.resp] s t)) ∧
    (∀ q : Fin 2, 2 ≤ s.get F.SV_INFO_PERMIT → s.dbgHalted q = true → s.pdOn (2 + q) = true →
      (∃ t u, exec (.docStep (q.castLE (by decide))) s = .next t ∧ u = (s.modHok q fun h => { h with wfi := false }).hokStep q ∧
        t = { u with resp := { words := [BitVec.ofNat 32 (u.hok.get q).pc], bytes := [], result := 1, fault := false } }) ∧
      (∀ n : BitVec 32, n.toNat < 64 →
        ∃ t, exec (.docRegRead (q.castLE (by decide)) n) s = .next t ∧ t.resp.result = 1 ∧
          t.resp.words = [if n.toNat < 32 then s.xr q n.toNat else s.fr q (n.toNat - 32)] ∧ Keeps [] [.resp] s t) ∧
      (∃ t, exec (.docRegRead (q.castLE (by decide)) 64#32) s = .next t ∧ t.resp.result = 1 ∧ t.resp.words = [BitVec.ofNat 32 (s.hok.get q).pc] ∧
        Keeps [] [.resp] s t) ∧
      (∀ (n : BitVec 32) (v : Word), n.toNat < 32 →
        ∃ t, exec (.docRegWrite (q.castLE (by decide)) n v) s = .next t ∧ t.resp.result = 1 ∧ t.xr q n.toNat = (if n = 0#32 then 0#32 else v) ∧
          (∀ r, r ≠ n.toNat → t.xr q r = s.xr q r) ∧ (t.hok.get q).pc = (s.hok.get q).pc ∧ Keeps [] [.resp, .hok] s t) ∧
      (∀ v : Word, ∃ t, exec (.docRegWrite (q.castLE (by decide)) 64#32 v) s = .next t ∧ t.resp.result = 1 ∧
        (t.hok.get q).pc = v.toNat / 2 * 2 ∧ (∀ r, t.xr q r = s.xr q r) ∧ Keeps [] [.resp, .hok] s t)) ∧
    (∀ q : Fin 2, 2 ≤ s.get F.SV_INFO_PERMIT → s.dbgHalted q = false → ∀ n v,
      (∃ t, exec (.docStep (q.castLE (by decide))) s = .next t ∧ t.resp.result = 4 ∧ Keeps [] [.resp] s t) ∧
      (∃ t, exec (.docRegRead (q.castLE (by decide)) n) s = .next t ∧ t.resp.result = 4 ∧ Keeps [] [.resp] s t) ∧
      (∃ t, exec (.docRegWrite (q.castLE (by decide)) n v) s = .next t ∧ t.resp.result = 4 ∧ Keeps [] [.resp] s t)) ∧
    (∀ (q : Fin 2) (addr data : BitVec 32), 2 ≤ s.get F.SV_INFO_PERMIT → data.toNat < 4 →
      (∃ t, exec (.docBpSet (q.castLE (by decide)) addr data) s = .next t ∧ t.resp.result = 1 ∧
        (t.hok.get q).bp.get data.toNat = addr.toNat + 1 ∧ (∀ k, k ≠ data.toNat → (t.hok.get q).bp.get k = (s.hok.get q).bp.get k) ∧
        Keeps [] [.resp, .hok] s t) ∧
      (∃ t, exec (.docBpClear (q.castLE (by decide)) data) s = .next t ∧ t.resp.result = 1 ∧
        (t.hok.get q).bp.get data.toNat = 0 ∧ (∀ k, k ≠ data.toNat → (t.hok.get q).bp.get k = (s.hok.get q).bp.get k) ∧
        Keeps [] [.resp, .hok] s t)) ∧
    (∀ addr : BitVec 32, 1 ≤ s.get F.SV_INFO_PERMIT → s.docReads (addr.toNat / 4 * 4) = true → regionOf (addr.toNat / 4 * 4) ≠ .reg →
      s.eccBad (addr.toNat / 4 * 4) = false → (∀ p, regionOf (addr.toNat / 4 * 4) = .tcm p → s.workUndef p (addr.toNat / 4 * 4) = false) →
      ∃ t, exec (.docRead addr true) s = .next t ∧ t.resp.result = 2 ∧
        t.sv.held = some (2, addr.toNat, 0, 2 ^ 32 + (s.rdW (addr.toNat / 4 * 4)).toNat) ∧ Keeps [] [.resp, .sv] s t)) ∧
  (∀ (addr : BitVec 32) w x, s.sv.held = some (2, addr.toNat, 0, x) →
    ∃ t, exec (.docRead addr w) s = .next t ∧ t.resp.result = x / 2 ^ 32 ∧ t.resp.words = [BitVec.ofNat 32 x] ∧ t.sv.held = none ∧
      Keeps [] [.resp, .sv] s t)

/-- Frames and errors on the Docent pads (R590, R595, R599): a Courier message comes to the host-to-device buffer with DOC, or overflows it; a permit frame starts
its command on the Docent channel, and while one runs it is refused; errors are counted, saturating. With the pads disabled nothing is seen.
Where the spec leaves the reading open it states the model's, as log row 104 gives. The clauses in which a command changes nothing because
its condition does not hold state the model's choice (log row 15). -/
def Obligations.DocentFrames : Prop :=
  ∀ s : State,
  (s.docPads = true → s.pdOn 1 = true →
    (∃ t, exec .docCrcError s = .next t ∧ t.sv.crcErr = (if s.sv.crcErr + 1 < 256 then s.sv.crcErr + 1 else 255) ∧ Keeps [] [.sv] s t) ∧
    (∃ t, exec .svcBadFrame s = .next t ∧ t.sv.svcErr = (if s.sv.svcErr + 1 < 8 then s.sv.svcErr + 1 else 7) ∧ Keeps [] [.sv] s t) ∧
    (∀ b : List Byte, s.pdOn 11 = true → b ≠ [] → b.length ≤ 4096 → s.flag F.COURH_STATUS_H2D_FULL = false →
      ∃ t, exec (.svcCourierFrame b) s = .next t ∧ t.rdBytes R.COURH_H2D_BUF b.length = b ∧ t.rd R.COURH_H2D_LEN = BitVec.ofNat 32 b.length ∧
        t.get F.COURH_STATUS_H2D_FULL = 1 ∧ t.get F.COURH_STATUS_H2D_DOC = 1 ∧
        (∀ a, a < R.COURH_H2D_BUF ∨ R.COURH_H2D_BUF + b.length ≤ a → t.rdB a = s.rdB a) ∧
        Keeps [whole R.COURH_H2D_LEN, F.COURH_STATUS_H2D_FULL, F.COURH_STATUS_H2D_DOC] [.mem] s t) ∧
    (∀ b : List Byte, s.pdOn 11 = true → b ≠ [] → s.flag F.COURH_STATUS_H2D_FULL = true →
      ∃ t, exec (.svcCourierFrame b) s = .next t ∧ t.get F.COURH_STICKY_H2D_OVF = 1 ∧ Keeps [F.COURH_STICKY_H2D_OVF] [] s t) ∧
    (∀ x ∈ [(Instr.svcPermitFrame, 0x10), (.svcPermitEndFrame, 0x11)], s.pdOn 7 = true →
      (s.svBusy 2 = false → ∃ t, exec x.1 s = .next t ∧ (t.sv.chan.get 2).op = x.2 ∧ (t.sv.chan.get 2).served = false ∧ t.sv.queue = s.sv.queue ++ [2] ∧
        (∀ c, c ≠ 2 → t.sv.chan.get c = s.sv.chan.get c) ∧ Keeps [] [.sv] s t) ∧
      (s.svBusy 2 = true → ∃ t, exec x.1 s = .next t ∧ t.get F.SV_STICKY_CFG_REJECT = 1 ∧ Keeps [F.SV_STICKY_CFG_REJECT] [] s t))) ∧
  (s.docPads = false → ∀ (k : Fin 16) (a v : BitVec 32) w b,
    ∀ c ∈ [Instr.docStatus, .docIdcode, .docRead a w, .docWrite a v w, .docHalt k, .docResume k, .docStep k, .docRegRead k a, .docRegWrite k a v,
      .docBpSet k a v, .docBpClear k a, .docCrcError, .svcCourierFrame b, .svcPermitFrame, .svcPermitEndFrame, .svcBadFrame], exec c s = .next s)

/-! ### Registers as a whole, the host SPI and the pins (R4 to R9, R519, R520, R562, R637 to R643) -/

/-- A write that a row of its own does not describe (R4, R8, R37, R519, R520, R638, Table SCOPE-4): a plain field takes its bits, a 1 clears a W1C bit, a read-only register and a
fixed one take nothing; memory takes the word; where an initiator does not reach, a core takes an access fault and the host SPI and Courier
set ACCESS; a register kept for HPA refuses another.
Where the spec leaves the reading open it states the model's, as log rows 22, 23, 24, 25 and 26 give. The clauses in which a command changes
nothing because its condition does not hold state the model's choice (log row 15). -/
def Obligations.RegisterWrites : Prop :=
  ∀ s : State,
  (∀ i (v : Word), s.pdOn 1 = true →
    ∃ t, exec (.registerWrite i (BitVec.ofNat 32 R.SYS_GPIO_OUT) v) s = .next t ∧ t.get ⟨R.SYS_GPIO_OUT, 0, 8⟩ = bitsOf v.toNat 0 8 ∧
      Keeps [⟨R.SYS_GPIO_OUT, 0, 8⟩] [] s t) ∧
  (∀ i (v : Word), s.pdOn 1 = true →
    ∃ t, exec (.registerWrite i (BitVec.ofNat 32 R.EPOCH_STICKY) v) s = .next t ∧
      (∀ k : Fin 6, bitOf (t.rd R.EPOCH_STICKY).toNat k = (bitOf (s.rd R.EPOCH_STICKY).toNat k && !bitOf v.toNat k)) ∧
      Keeps [⟨R.EPOCH_STICKY, 0, 6⟩] [] s t) ∧
  (∀ i (v : Word), s.pdOn 1 = true → ∀ a ∈ [R.CLK_STATUS, R.SYS_ID, R.SYS_PD_STATUS, R.CUR_STATUS, R.WARDEN_STATUS, R.SENSP_WG_CFG 0],
    (a = R.SENSP_WG_CFG 0 → s.pdOn 8 = true) → exec (.registerWrite i (BitVec.ofNat 32 a) v) s = .next s) ∧
  (∀ i (a : BitVec 32) (v : Word), (i = .hpa ∨ i = .hpb ∨ i = .hspi) → regionOf (a.toNat / 4 * 4) = .sram →
    ∃ t, exec (.registerWrite i a v) s = .next t ∧ t.rdW (a.toNat / 4 * 4) = v ∧
      (∀ b, memHome b < memHome (a.toNat / 4 * 4) ∨ memHome (a.toNat / 4 * 4) + 4 ≤ memHome b → t.rdB b = s.rdB b) ∧ Keeps [] [.mem] s t) ∧
  (∀ (a : BitVec 32) (v : Word), s.coreWrites 0 (a.toNat / 4 * 4) = false → (a.toNat / 4 * 4 < 0x10FE0000 ∨ 0x10FF1000 ≤ a.toNat / 4 * 4) →
    ∃ t, exec (.registerWrite .hpa a v) s = .next t ∧ t.resp.fault = true ∧ Keeps [] [.resp] s t) ∧
  (∀ i (a : BitVec 32) (v : Word), (i = .hspi ∨ i = .courier) → s.hostWrites i (a.toNat / 4 * 4) = false →
    (a.toNat / 4 * 4 < 0x10FE0000 ∨ 0x10FF1000 ≤ a.toNat / 4 * 4) →
    ∃ t, exec (.registerWrite i a v) s = .next t ∧ t.get F.COURH_STICKY_ACCESS = 1 ∧ Keeps [F.COURH_STICKY_ACCESS] [] s t) ∧
  (∀ v : Word, ∃ t, exec (.registerWrite .hpa (BitVec.ofNat 32 R.PLINTH_RTC_SEC) v) s = .next t ∧ t.rd R.PLINTH_RTC_SEC = v ∧
    Keeps [whole R.PLINTH_RTC_SEC] [] s t) ∧
  (∀ i (v : Word), i ≠ .hpa →
    ∃ t, exec (.registerWrite i (BitVec.ofNat 32 R.PLINTH_RTC_SEC) v) s = .next t ∧ Refused .plinth FS.SYS_CFG s t)

/-- The host SPI, its buffers and the GPIO pins (R562, R599, R637 to R642): STATUS answers COURH_STATUS; READ and WRITE move words; while locked READ answers filler and WRITE sets
ACCESS; a message is put into an empty buffer and overflows a full one; MSG_GET answers the posted message; HPA empties, posts and locks, and others
are refused; before HPA's release and while its pad is held HSPI_MISO answers nothing; an edge on a pad of general I/O sets its event.
Where the spec leaves the reading open it states the model's, as log rows 30, 103 and 120 give. The clauses in which a command changes nothing
because its condition does not hold state the model's choice (log row 15). -/
def Obligations.HostAndPins : Prop :=
  ∀ s : State,
  (s.hspiOut = true →
    (∃ t, exec .hspiStatus s = .next t ∧ t.resp.bytes = leBytes 2 (s.view R.COURH_STATUS).toNat ∧ Keeps [] [.resp] s t) ∧
    (∀ (a : BitVec 32) n, s.hspiLocked = false → a.toNat % 4 = 0 → 0x20000000 ≤ a.toNat → a.toNat + 4 * n ≤ 0x20400000 →
      (∀ k, k < n → s.eccBad (a.toNat + 4 * k) = false) →
      ∃ t, exec (.hspiRead a n) s = .next t ∧ t.resp.words = (List.range n).map (fun k => s.rdW (a.toNat + 4 * k)) ∧ Keeps [] [.resp] s t) ∧
    (∀ (a : BitVec 32) n, s.hspiLocked = true →
      ∃ t, exec (.hspiRead a n) s = .next t ∧ t.resp.words = [] ∧ t.resp.bytes = List.replicate (5 * n) 0#8 ∧ Keeps [] [.resp] s t) ∧
    (∀ n, s.flag F.COURH_STATUS_D2H_FULL = true →
      ∃ t, exec (.hspiMsgGet n) s = .next t ∧ t.resp.bytes = (leBytes 2 s.d2hMsg.length ++ s.d2hMsg).take n ∧
        t.flag F.COURH_STATUS_D2H_FULL = decide (n < s.d2hMsg.length + 2) ∧ Keeps [F.COURH_STATUS_D2H_FULL] [.resp] s t) ∧
    (∀ n, s.flag F.COURH_STATUS_D2H_FULL = false →
      ∃ t, exec (.hspiMsgGet n) s = .next t ∧ t.resp.bytes = [0#8, 0#8] ∧ Keeps [] [.resp] s t)) ∧
  (s.hspiOut = false → ∀ a n, exec .hspiStatus s = .next s ∧ exec (.hspiRead a n) s = .next s ∧ exec (.hspiMsgGet n) s = .next s) ∧
  (s.pdOn 11 = true →
    (∀ (a : BitVec 32) (ws : List Word), s.hspiLocked = false → a.toNat % 4 = 0 → 0x20000000 ≤ a.toNat → a.toNat + 4 * ws.length ≤ 0x203FC000 →
      ∃ t, exec (.hspiWrite a ws) s = .next t ∧ (∀ k, k < ws.length → some (t.rdW (a.toNat + 4 * k)) = ws[k]?) ∧
        (∀ b, memHome b < a.toNat ∨ a.toNat + 4 * ws.length ≤ memHome b → t.rdB b = s.rdB b) ∧ Keeps [] [.mem] s t) ∧
    (∀ (a : BitVec 32) ws, s.hspiLocked = true →
      ∃ t, exec (.hspiWrite a ws) s = .next t ∧ t.get F.COURH_STICKY_ACCESS = 1 ∧ Keeps [F.COURH_STICKY_ACCESS] [] s t) ∧
    (∀ b : List Byte, b ≠ [] → b.length ≤ 4096 → s.flag F.COURH_STATUS_H2D_FULL = false →
      ∃ t, exec (.hspiMsgPut b) s = .next t ∧ t.rdBytes R.COURH_H2D_BUF b.length = b ∧ t.rd R.COURH_H2D_LEN = BitVec.ofNat 32 b.length ∧
        t.get F.COURH_STATUS_H2D_FULL = 1 ∧ t.get F.COURH_STATUS_H2D_DOC = 0 ∧
        (∀ a, a < R.COURH_H2D_BUF ∨ R.COURH_H2D_BUF + b.length ≤ a → t.rdB a = s.rdB a) ∧
        Keeps [whole R.COURH_H2D_LEN, F.COURH_STATUS_H2D_FULL, F.COURH_STATUS_H2D_DOC] [.mem] s t) ∧
    (∀ b : List Byte, b ≠ [] → s.flag F.COURH_STATUS_H2D_FULL = true →
      ∃ t, exec (.hspiMsgPut b) s = .next t ∧ t.get F.COURH_STICKY_H2D_OVF = 1 ∧ Keeps [F.COURH_STICKY_H2D_OVF] [] s t) ∧
    (∀ v : Word, bitOf v.toNat 0 = true →
      (∃ t, exec (.h2dDone .hpa v) s = .next t ∧ t.get F.COURH_STATUS_H2D_FULL = 0 ∧ t.get F.COURH_STATUS_H2D_DOC = 0 ∧
        t.rd R.COURH_H2D_LEN = 0#32 ∧ Keeps [whole R.COURH_H2D_LEN, F.COURH_STATUS_H2D_FULL, F.COURH_STATUS_H2D_DOC] [] s t) ∧
      (∃ t, exec (.hspiLock .hpa v) s = .next t ∧ t.hspiLocked = true ∧ t.get F.COURH_STATUS_LOCKED = 1 ∧
        Keeps [F.COURH_HSPI_CFG_LOCK, F.COURH_STATUS_LOCKED] [] s t)) ∧
    (∀ v : Word, bitOf v.toNat 15 = false →
      ∃ t, exec (.d2hPost .hpa v) s = .next t ∧ t.get F.COURH_D2H_LEN_LEN = bitsOf v.toNat 0 13 ∧
        t.flag F.COURH_STATUS_D2H_FULL = decide (bitsOf v.toNat 0 13 ≠ 0) ∧
        Keeps [F.COURH_D2H_LEN_LEN, F.COURH_D2H_LEN_DOC, F.COURH_STATUS_D2H_FULL] [] s t) ∧
    (∀ v : Word, bitOf v.toNat 15 = true → s.docPads = true →
      ∃ t, exec (.d2hPost .hpa v) s = .next t ∧
        t.resp.bytes = svcFrame 1 (s.rdBytes R.COURH_D2H_BUF (min 4096 (bitsOf v.toNat 0 13))) ∧
        Keeps [F.COURH_D2H_LEN_LEN, F.COURH_D2H_LEN_DOC] [.resp] s t) ∧
    (∀ i (v : Word), i ≠ .hpa →
      (∃ t, exec (.h2dDone i v) s = .next t ∧ Refused .courh FS.SYS_CFG s t) ∧ (∃ t, exec (.d2hPost i v) s = .next t ∧ Refused .courh FS.SYS_CFG s t) ∧
      (∃ t, exec (.hspiLock i v) s = .next t ∧ Refused .courh FS.SYS_CFG s t))) ∧
  (s.pdOn 11 = false → ∀ a ws b, exec (.hspiWrite a ws) s = .next s ∧ exec (.hspiMsgPut b) s = .next s) ∧
  (∀ (k : Fin 8) level, s.pdOn 1 = true → s.padFn k = 1 → (s.padDrive k).1 = false → bitOf s.pins.gpio k ≠ level →
    ∃ t, exec (.gpioEdge k level) s = .next t ∧ bitOf t.pins.gpio k = level ∧ t.padIn k = level ∧
      t.get ⟨R.SYS_GPIO_EVT, if level then k.val else k.val + 8, 1⟩ = 1 ∧
      Keeps [⟨R.SYS_GPIO_EVT, if level then k.val else k.val + 8, 1⟩] [.pins] s t) ∧
  (∀ (k : Fin 8) level, (s.pdOn 1 = false ∨ s.padFn k ≠ 1 ∨ (s.padDrive k).1 = true ∨ bitOf s.pins.gpio k = level) →
    ∃ t, exec (.gpioEdge k level) s = .next t ∧ bitOf t.pins.gpio k = level ∧ Keeps [] [.pins] s t)

/-! ### Courier (R627 to R636, R647) -/

/-- Courier's reading requests (R569, R579, R580, R627 to R632, R638, Table COU-4): a new request is executed once and answered with RESULT and payload; INFO, READ, ATTEST, DEVID_CERT,
LOG_READ and METER_READ answer what they name; a TXID that is kept gets the kept response again; a broadcast is not answered, but for INFO, after its
delay; a request for another device, or while HPA does not run, and a bad message, have no answer; an unknown type answers 1.
Where the spec leaves the reading open it states the model's, as log rows 97 and 98 give. The clauses in which a command changes nothing
because its condition does not hold state the model's choice (log row 15). -/
def Obligations.CourierReads : Prop :=
  ∀ (s : State) (h : MsgHdr),
  (Asked h s →
    (∃ t, exec (.courierInfo h []) s = .next t ∧ Answered 1 h 0 s.infoBytes s t ∧ Keeps [whole R.COURH_CNT] [.resp, .cour] s t) ∧
    (∀ p : List Byte, p.length = 6 → 1 ≤ bU p 4 2 → bU p 4 2 ≤ 1018 → bU p 0 4 % 4 = 0 → 0x20000000 ≤ bU p 0 4 → bU p 0 4 + 4 * bU p 4 2 ≤ 0x20400000 →
      (∀ k, k < bU p 4 2 → s.eccBad (bU p 0 4 + 4 * k) = false) →
      ∃ t, exec (.courierRead h p) s = .next t ∧
        Answered 2 h 0 ((List.range (bU p 4 2)).flatMap fun k => leBytes 4 (s.rdW (bU p 0 4 + 4 * k)).toNat) s t ∧
        Keeps [whole R.COURH_CNT] [.resp, .cour] s t) ∧
    (∀ p : List Byte, (p.length ≠ 6 ∨ bU p 4 2 = 0 ∨ 1018 < bU p 4 2) →
      ∃ t, exec (.courierRead h p) s = .next t ∧ Answered 2 h 2 [] s t ∧ Keeps [whole R.COURH_CNT] [.resp, .cour] s t) ∧
    (∀ p : List Byte, p.length = 6 → bU p 4 2 = 1 → bU p 0 4 < 0x20000 →
      ∃ t, exec (.courierRead h p) s = .next t ∧ Answered 2 h 8 (List.replicate 4 0#8) s t ∧ t.get F.COURH_STICKY_ACCESS = 1 ∧
        Keeps [whole R.COURH_CNT, F.COURH_STICKY_ACCESS] [.resp, .cour] s t) ∧
    (∀ p : List Byte, p.length = 32 → s.svFenced = false → s.svBusy 0 = false → s.flag F.SV_INFO_DEVID_READY = true →
      ∃ t b, exec (.courierAttest h p) s = .next t ∧ b.length = 512 ∧ (b.drop 32).take 32 = p ∧
        Answered 4 h 0 (b ++ fixLen 2420 (Config.devidSign (sha3 b))) s t ∧ Keeps [whole R.COURH_CNT] [.resp, .cour] s t) ∧
    (s.svFenced = false → s.svBusy 0 = false →
      ∃ t, exec (.courierDevidCert h []) s = .next t ∧ Answered 5 h 0 (fixLen 3796 Config.devidCert) s t ∧ Keeps [whole R.COURH_CNT] [.resp, .cour] s t) ∧
    ((s.svFenced = true ∨ s.svBusy 0 = true) → ∀ p,
      (∃ t, exec (.courierAttest h p) s = .next t ∧ Answered 4 h 6 [] s t ∧ Keeps [whole R.COURH_CNT] [.resp, .cour] s t) ∧
      (∃ t, exec (.courierDevidCert h []) s = .next t ∧ Answered 5 h 6 [] s t ∧ Keeps [whole R.COURH_CNT] [.resp, .cour] s t)) ∧
    (∀ p : List Byte, p.length = 5 → 1 ≤ bU8 p 4 → bU8 p 4 ≤ 63 →
      ∃ t, exec (.courierLogRead h p) s = .next t ∧
        Answered 6 h 0 ((List.range (bU8 p 4)).flatMap fun k =>
          ((s.logFind ((bU p 0 4 + k) % 2 ^ 32)).map fun j => s.rdBytes (logSlotAddr j) 64).getD []) s t ∧
        Keeps [whole R.COURH_CNT] [.resp, .cour] s t) ∧
    (s.inFoyer = false →
      ∃ t b, exec (.courierMeterRead h []) s = .next t ∧ b.length = 40 ∧ Answered 7 h 0 b s t ∧
        KeepsOutside [zone R.METER_CTRL, zone R.COURH_STATUS] [.resp, .cour] s t) ∧
    (s.inFoyer = true →
      ∃ t, exec (.courierMeterRead h []) s = .next t ∧ Answered 7 h 7 [] s t ∧ Keeps [whole R.COURH_CNT] [.resp, .cour] s t) ∧
    (∀ ty : BitVec 8, courTypes.contains ty.toNat = false →
      ∃ t, exec (.courierUnknownType h ty) s = .next t ∧ Answered ty.toNat h (if s.inFoyer then 7 else 1) [] s t ∧
        Keeps [whole R.COURH_CNT] [.resp, .cour] s t)) ∧
  (∀ p bad, ∀ c ∈ [Instr.courierInfo h p, .courierRead h p, .courierWrite h p, .courierAttest h p, .courierDevidCert h p, .courierLogRead h p,
      .courierMeterRead h p, .courierReset h p, .courierStageBegin h p, .courierStageData h p, .courierStageEnd h p, .courierSelect h p,
      .courierConfirm h p bad],
    ((s.courUp h.car = false ∨ s.courFor h = false) → exec c s = .next s) ∧
    (∀ x, s.courUp h.car = true → s.courFor h = true → s.courKept h = some x → x.rsp ≠ [] →
      ∃ t, exec c s = .next t ∧ t.resp.bytes = x.rsp ∧ t.get F.COURH_CNT_REQ = (s.get F.COURH_CNT_REQ + 1) % 65536 ∧
        t.get F.COURH_CNT_RSP = (s.get F.COURH_CNT_RSP + 1) % 65536 ∧ t.cour.kept = s.cour.kept ∧ Keeps [whole R.COURH_CNT] [.resp, .cour] s t)) ∧
  (s.courUp h.car = true → msgBroad h = true → s.courKept h = none →
    ∃ t d, exec (.courierInfo h []) s = .next t ∧ d ≤ 200 ∧ t.cour.bcast = s.cour.bcast ++ [(h, s.mono + d * 8000000)] ∧ t.resp = s.resp ∧
      Keeps [F.COURH_CNT_REQ] [.draws, .cour] s t) ∧
  (∀ d rest, s.cour.bcast = (h, d) :: rest → (s.mono < d ∨ s.courUp h.car = false) → exec .courierBroadcastInfoReply s = .next s) ∧
  (∀ d rest, s.cour.bcast = (h, d) :: rest → d ≤ s.mono → s.courUp h.car = true →
    ∃ t, exec .courierBroadcastInfoReply s = .next t ∧ t.cour.bcast = rest ∧
      t.resp.bytes = msgBytes 1 1 0 h.txid.toNat s.ownAddr h.src.toNat s.infoBytes ∧ Keeps [F.COURH_CNT_RSP] [.resp, .cour] s t) ∧
  (s.cour.bcast = [] → exec .courierBroadcastInfoReply s = .next s) ∧
  (∀ car b, s.courUp car = true → msgBad b = true →
    ∃ t, exec (.courierBadMessage car b) s = .next t ∧ t.get F.COURH_STICKY_BAD_MSG = 1 ∧ Keeps [F.COURH_STICKY_BAD_MSG] [] s t) ∧
  (∀ car b, (s.courUp car = false ∨ msgBad b = false) → exec (.courierBadMessage car b) s = .next s)

/-- Courier's acting requests (R628 to R630, R633, R635, R636, R647): an authorised WRITE changes the masked bits of a register, RESET is due after 1 ms and then acts, a
staging session opens, takes data in order and ends with the package's check, SELECT and CONFIRM act as HPA's own; a request whose record fails
answers 3, and in the Foyer state WRITE and CONFIRM answer 7; an EVENT is repeated after 2, 4 and 8 s until it is acknowledged, then lost; an idle
session ends after 60 s.
Where the spec leaves the reading open it states the model's, as log rows 97, 98 and 99 give. The clauses in which a command changes nothing
because its condition does not hold state the model's choice (log row 15). -/
def Obligations.CourierActions : Prop :=
  ∀ (s : State) (h : MsgHdr),
  (Asked h s →
    (∀ p (m v : Word), s.inFoyer = false → Authorised 3 h p s → s.pdOn 1 = true →
      p.drop 2500 = leBytes 4 R.SYS_GPIO_OUT ++ leBytes 4 m.toNat ++ leBytes 4 v.toNat →
      ∃ t, exec (.courierWrite h p) s = .next t ∧
        t.rd R.SYS_GPIO_OUT &&& 0xFF#32 = ((s.rd R.SYS_GPIO_OUT &&& ~~~m) ||| (v &&& m)) &&& 0xFF#32 ∧ Answered 3 h 0 [0#8] s t ∧
        t.sv.replay.get (bU p 6 2) = bU p 8 8 ∧ Keeps [⟨R.SYS_GPIO_OUT, 0, 8⟩, whole R.COURH_CNT] [.resp, .sv, .cour] s t) ∧
    (∀ x ∈ [(3, fun p => Instr.courierWrite h p), (8, fun p => .courierReset h p), (9, fun p => .courierStageBegin h p),
        (0x0C, fun p => .courierSelect h p), (0x0D, fun p => .courierConfirm h p 0)],
      (∀ p, s.inFoyer = false → (h.auth = false ∨ p.length < 2500) →
        ∃ t, exec (x.2 p) s = .next t ∧ Answered x.1 h 3 [] s t ∧ Keeps [whole R.COURH_CNT] [.resp, .cour] s t) ∧
      (∀ p, s.inFoyer = false → h.auth = true → 2500 ≤ p.length → s.svFenced = false → s.svBusy 0 = false →
        s.authCheck (p.take 2500) (0x100 + x.1) (p.drop 2500) = 3 →
        ∃ t, exec (x.2 p) s = .next t ∧ Answered x.1 h 3 [] s t ∧ t.get F.SV_STICKY_AUTH_FAIL = 1 ∧
          Keeps [whole R.COURH_CNT, F.SV_STICKY_AUTH_FAIL] [.resp, .cour] s t)) ∧
    (s.inFoyer = true → ∀ p,
      (∃ t, exec (.courierWrite h p) s = .next t ∧ Answered 3 h 7 [] s t ∧ Keeps [whole R.COURH_CNT] [.resp, .cour] s t) ∧
      (∃ t, exec (.courierConfirm h p 0) s = .next t ∧ Answered 0x0D h 7 [] s t ∧ Keeps [whole R.COURH_CNT] [.resp, .cour] s t)) ∧
    (∀ p, Authorised 8 h p s → (p.drop 2500 = [1#8] ∨ p.drop 2500 = [3#8]) →
      ∃ t, exec (.courierReset h p) s = .next t ∧ t.cour.reset = some (bU8 (p.drop 2500) 0, s.mono + 800000) ∧
        t.cour.resetTx = (if h.car = .plc then some h.txid.toNat else none) ∧ Answered 8 h 0 [] s t ∧
        Keeps [whole R.COURH_CNT] [.resp, .sv, .cour] s t) ∧
    (∀ p, Authorised 9 h p s → (p.drop 2500).length = 6 → s.cour.session = none → s.sv.stage = none → bU8 (p.drop 2500) 0 < 3 →
      bU8 (p.drop 2500) 1 < 2 → (bU8 (p.drop 2500) 0 = 2 ∨ bU8 (p.drop 2500) 1 ≠ s.activeSlot (bU8 (p.drop 2500) 0)) →
      s.maintAhead s.epoch 10 = [] → s.maintRefusal .staging 10 = none →
      ∃ t g, exec (.courierStageBegin h p) s = .next t ∧ t.cour.session = some g ∧ g.total = bU (p.drop 2500) 2 4 ∧ g.got = 0 ∧ g.last = s.mono ∧
        t.sv.stage = some { kind := bU8 (p.drop 2500) 0, slot := bU8 (p.drop 2500) 1, written := 0, write := none, ending := false } ∧
        t.get F.COURH_STATUS_SESSION = 1 ∧ Answered 9 h 0 (leBytes 4 g.id) s t ∧
        Keeps [whole R.COURH_CNT, F.COURH_STATUS_SESSION, busyF (bU8 (p.drop 2500) 0), selF (bU8 (p.drop 2500) 0),
          if bU8 (p.drop 2500) 0 = 2 then F.SV_BOOT_APP_STATE else validF (bU8 (p.drop 2500) 0) (bU8 (p.drop 2500) 1)] [.draws, .resp, .sv, .cour] s t) ∧
    (∀ p g w, s.svFenced = false → s.svBusy 0 = false → s.cour.session = some g → s.sv.stage = some w → 8 < p.length → bU p 0 4 = g.id →
      bU p 4 4 = g.got → g.got + (p.length - 8) ≤ g.total → w.write = none → w.ending = false → w.written = g.got →
      g.got + (p.length - 8) ≤ slotSize w.kind → s.maintAhead s.epoch 10 = [] → s.maintRefusal .staging 10 = none →
      ∃ t, exec (.courierStageData h p) s = .next t ∧ t.cour.session = some { g with got := g.got + (p.length - 8), last := s.mono } ∧
        t.sv.stage = some { w with write := some (g.got, p.drop 8) } ∧ Answered 0x0A h 0 [] s t ∧
        Keeps [whole R.COURH_CNT, ⟨R.DIAG_MAINT_RUN, 10, 1⟩, F.DIAG_MAINT_RESULT_RUNS 10, whole R.DIAG_MAINT_LAST] [.resp, .sv, .cour] s t) ∧
    (∀ p g w, s.svFenced = false → s.svBusy 0 = false → s.cour.session = some g → s.sv.stage = some w → p.length = 4 → bU p 0 4 = g.id → w.write = none →
      ∃ t r, exec (.courierStageEnd h p) s = .next t ∧ t.cour.session = none ∧ t.sv.stage = none ∧ t.get F.COURH_STATUS_SESSION = 0 ∧
        Answered 0x0B h (courCode r) [BitVec.ofNat 8 (s.slotCheck w.kind w.slot)] s t ∧ (r = 0 ↔ s.slotCheck w.kind w.slot = 0) ∧
        (s.slotCheck w.kind w.slot = 0 → w.kind < 2 → t.get (validF w.kind w.slot) = 1) ∧
        Keeps [whole R.COURH_CNT, F.COURH_STATUS_SESSION, busyF w.kind, if s.slotCheck w.kind w.slot = 0 then validF w.kind w.slot else errF w.kind]
          [.draws, .resp, .sv, .cour] s t) ∧
    (∀ p k, Authorised 0x0C h p s → p.drop 2500 = [1#8, BitVec.ofNat 8 k] → k < 2 → (k = s.activeSlot 1 ∨ s.flag (validF 1 k) = true) →
      ∃ t, exec (.courierSelect h p) s = .next t ∧ t.get F.SYS_IMG_SELECT_SLOT = k ∧ Answered 0x0C h 0 [] s t ∧
        Keeps [whole R.COURH_CNT, F.SYS_IMG_SELECT_SLOT] [.resp, .sv, .cour] s t) ∧
    (∀ p k, Authorised 0x0C h p s → p.drop 2500 = [0#8, BitVec.ofNat 8 k] → k < 2 → (k = s.activeSlot 0 ∨ s.flag (validF 0 k) = true) →
      ∃ t, exec (.courierSelect h p) s = .next t ∧ t.get F.SV_BOOT_FW_SEL = k ∧ Answered 0x0C h 0 [] s t ∧
        Keeps [whole R.COURH_CNT, F.SV_BOOT_FW_SEL] [.resp, .sv, .cour] s t) ∧
    (∀ p, s.inFoyer = false → Authorised 0x0D h p s → p.drop 2500 = [1#8] → s.img.applied.isSome = true → s.sv.arbImg < (s.rd R.SYS_IMG_SECVER).toNat →
      ∃ t d, exec (.courierConfirm h p 0) s = .next t ∧ t.sv.arbImg = (s.rd R.SYS_IMG_SECVER).toNat ∧ Logged 0x0A 0xFF d s t ∧
        Answered 0x0D h 0 [] s t ∧ Keeps (whole R.COURH_CNT :: otpFlds) [.mem, .draws, .resp, .sv, .cour] s t)) ∧
  (∀ k d, s.cour.reset = some (k, d) → d ≤ s.mono → s.resetHeld = false → (k = 1 ∨ k = 3) → s.pdOn 1 = true →
    s.start.resetAt = none →
    ∃ t, exec .courierResetAct s = .next t ∧ t.cour.reset = none ∧ t.start.resetAt = some s.mono ∧ t.get F.SYS_RESET_CAUSE_SOFT = 1 ∧
      (k = 3 → t.get F.SYS_RESET_CAUSE_FOYER_REQ = 1) ∧ (t.hok.get 0).run = false ∧ (t.hok.get 1).run = false ∧
      KeepsOutside [zone R.SYS_ID, zone R.DIAG_MAINT_REQ, zone R.DRV_STATUS, zone R.GRID_CFG, zone R.LANE_STATUS, zone (R.PWM_CTRL 0),
          zone R.RELAY_CFG, zone R.SENSG_STATUS, zone R.SENSP_STATUS, zone R.WCMPG_STATUS, zone R.WCMPP_STATUS]
        [.mem, .shadow, .draws, .resp, .pwm, .sens, .wcmp, .drive, .diag, .relay, .meter, .start, .hok, .cour] s t) ∧
  ((s.cour.reset = none ∨ s.resetHeld = true ∨ ∃ k d, s.cour.reset = some (k, d) ∧ s.mono < d) → exec .courierResetAct s = .next s) ∧
  (∀ e, s.cour.event = some e → s.courUp h.car = true → s.courFor h = true → h.txid.toNat = e.txid → h.src.toNat = s.get F.COURH_EVENT_DST_ADDR →
    ∃ t, exec (.courierEventAck h) s = .next t ∧ t.cour.event = none ∧ t.cour.queue = s.cour.queue ∧ Keeps [] [.cour] s t) ∧
  (s.cour.event = none → exec (.courierEventAck h) s = .next s ∧ exec .courierEventRepeat s = .next s) ∧
  (∀ e, s.cour.event = some e → s.mono < e.next → exec .courierEventRepeat s = .next s) ∧
  (∀ e, s.cour.event = some e → e.next ≤ s.mono → e.sent = 1 ∨ e.sent = 2 →
    ∃ t, exec .courierEventRepeat s = .next t ∧
      t.cour.event = some { e with sent := e.sent + 1, next := e.next + (if e.sent = 1 then 1600000000 else 3200000000) } ∧ t.resp.bytes = e.bytes ∧
      Keeps [] [.resp, .cour] s t) ∧
  (∀ e, s.cour.event = some e → e.next ≤ s.mono → e.sent = 3 →
    ∃ t d, exec .courierEventRepeat s = .next t ∧ d ≤ 6400000000 ∧ t.cour.event = some { e with sent := 4, next := e.next + d } ∧
      t.resp.bytes = e.bytes ∧ Keeps [] [.draws, .resp, .cour] s t) ∧
  (∀ e, s.cour.event = some e → e.next ≤ s.mono → 4 ≤ e.sent →
    ∃ t, exec .courierEventRepeat s = .next t ∧ t.cour.event = none ∧ t.get F.COURH_STICKY_EVENT_LOST = 1 ∧ Keeps [F.COURH_STICKY_EVENT_LOST] [.cour] s t) ∧
  (s.cour.session = none → exec .stagingSessionTimeout s = .next s) ∧
  (∀ g, s.cour.session = some g → g.last + 48000000000 ≤ s.mono →
    ∃ t, exec .stagingSessionTimeout s = .next t ∧ t.cour.session = none ∧ t.sv.stage = none ∧ t.get F.COURH_STATUS_SESSION = 0 ∧
      Keeps [F.COURH_STATUS_SESSION, F.SYS_IMG_STATUS_BUSY, F.SV_BOOT_BUSY] [.sv, .cour] s t) ∧
  (∀ g, s.cour.session = some g → s.mono < g.last + 48000000000 → exec .stagingSessionTimeout s = .next s)

/-! ### Powerline and time transfer (R109, R110, R621 to R626, R634, R644 to R646) -/

/-- Powerline frames (R553, R621, R624 to R626, R634): the frame that waits longest starts and is counted, in STORE only on XMIT_OK; a unicast frame without acknowledgement goes again
at most 5 times, then is counted out; the current limit aborts the frame and raises PLC_FAULT; a received frame is counted, an excluded one
discarded; a message is complete with its last segment, a fifth one is dropped, and 10 s end a reassembly.
Where the spec leaves the reading open it states the model's, as log row 101 gives. The clauses in which a command changes nothing because
its condition does not hold state the model's choice (log row 15). -/
def Obligations.PowerlineFrames : Prop :=
  ∀ s : State,
  (∀ f rest n, s.cour.queue = f :: rest → s.plcOn = true → s.plcBusy = false → (s.plState ≠ 1 ∨ s.flag F.PLINTH_STATUS_XMIT_OK = true) →
    ∃ t, exec (.plcFrameTransmit n) s = .next t ∧ t.cour.queue = rest ∧ t.cour.frame = some { f with endAt := s.mono + n } ∧
      (∀ k d, s.cour.reset = some (k, d) → s.cour.resetTx = some (bU f.bytes 0 4) → t.cour.reset = some (k, s.mono + n + 800000)) ∧
      (s.cour.resetTx ≠ some (bU f.bytes 0 4) → t.cour.reset = s.cour.reset) ∧
      t.get F.PLC_CNT_SENT = (s.get F.PLC_CNT_SENT + 1) % 65536 ∧ Keeps [F.PLC_CNT_SENT, F.PLINTH_ACT_CNT_ADMITTED] [.cour] s t) ∧
  (∀ f rest n, s.cour.queue = f :: rest → s.plcOn = true → s.plcBusy = false → s.plState = 1 → s.flag F.PLINTH_STATUS_XMIT_OK = false →
    ∃ t, exec (.plcFrameTransmit n) s = .next t ∧ t.cour.queue = rest ∧ t.cour.frame = none ∧ t.get F.PLC_STICKY_XMIT_REFUSED = 1 ∧
      t.get F.PLINTH_STICKY_REFUSED_LOW = 1 ∧
      Keeps [F.PLC_STICKY_XMIT_REFUSED, F.PLINTH_STICKY_REFUSED_LOW, F.PLINTH_ACT_CNT_REFUSED] [.cour] s t) ∧
  (∀ n, (s.cour.queue = [] ∨ s.plcOn = false ∨ s.plcBusy = true) → exec (.plcFrameTransmit n) s = .next s) ∧
  (∀ f, s.cour.frame = some f → s.plcOn = true → s.plcBusy = false → f.ack = true →
    (f.retries < 5 → ∃ t, exec .macRetry s = .next t ∧ t.cour.queue = { f with retries := f.retries + 1, endAt := 0 } :: s.cour.queue ∧
      t.cour.frame = none ∧ Keeps [] [.cour] s t) ∧
    (5 ≤ f.retries → ∃ t, exec .macRetry s = .next t ∧ t.cour.queue = s.cour.queue ∧ t.cour.frame = none ∧
      t.get F.PLC_ERR_CNT_EXHAUSTED = min (s.get F.PLC_ERR_CNT_EXHAUSTED + 1) 65535 ∧ Keeps [F.PLC_ERR_CNT_EXHAUSTED] [.cour] s t)) ∧
  (s.cour.frame = none → exec .macRetry s = .next s) ∧
  (s.plcOn = true → s.plcBusy = true →
    ∃ t, exec .plcCurrentLimit s = .next t ∧ t.cour.frame = none ∧ t.get F.PLC_STICKY_ABORTED = 1 ∧ t.get F.PLC_STICKY_ILIMIT = 1 ∧
      t.raised = s.raised ++ [⟨FS.PLC_FAULT, 0⟩] ∧ Keeps [F.PLC_STICKY_ABORTED, F.PLC_STICKY_ILIMIT] [.raised, .cour] s t) ∧
  ((s.plcOn = false ∨ s.plcBusy = false) → exec .plcCurrentLimit s = .next s) ∧
  (∀ src dst b snr, s.plcOn = true →
    ∃ t, exec (.plcSegmentReceive src dst b snr true) s = .next t ∧ t.get F.PLC_CNT_RECEIVED = (s.get F.PLC_CNT_RECEIVED + 1) % 65536 ∧
      t.get F.PLC_ERR_CNT_DISCARDED = min (s.get F.PLC_ERR_CNT_DISCARDED + 1) 65535 ∧ t.get F.PLC_SNR_SNR = snr.toNat ∧
      Keeps [F.PLC_CNT_RECEIVED, F.PLC_ERR_CNT_DISCARDED, F.PLC_SNR_SNR] [] s t) ∧
  (∀ (src dst : BitVec 16) b snr, s.plcOn = true → s.pdOn 11 = true → segOk b = true → bU8 b 5 = 1 →
    (dst.toNat = s.ownAddr ∨ dst = 0xFFFF#16) → s.reasmExpire.cour.reasm.find? (segOf src.toNat b) = none → s.reasmExpire.cour.reasm.length < 4 →
    ∃ t, exec (.plcSegmentReceive src dst b snr false) s = .next t ∧ t.resp.bytes = b.drop 8 ∧ t.cour = s.reasmExpire.cour ∧
      Keeps [F.PLC_CNT_RECEIVED, F.PLC_SNR_SNR] [.resp, .cour] s t) ∧
  (∀ (src dst : BitVec 16) b snr, s.plcOn = true → s.pdOn 11 = true → segOk b = true → 1 < bU8 b 5 → dst.toNat = s.ownAddr →
    s.reasmExpire.cour.reasm.find? (segOf src.toNat b) = none → s.reasmExpire.cour.reasm.length < 4 →
    ∃ t r, exec (.plcSegmentReceive src dst b snr false) s = .next t ∧ t.cour.reasm = s.reasmExpire.cour.reasm ++ [r] ∧ segOf src.toNat b r = true ∧
      r.count = bU8 b 5 ∧ r.segs.get (bU8 b 4) = b.drop 8 ∧ r.from_ = s.mono ∧ Keeps [F.PLC_CNT_RECEIVED, F.PLC_SNR_SNR] [.cour] s t) ∧
  (∀ (src dst : BitVec 16) b snr r, s.plcOn = true → s.pdOn 11 = true → segOk b = true → dst.toNat = s.ownAddr →
    s.reasmExpire.cour.reasm.find? (segOf src.toNat b) = some r → r.count = bU8 b 5 → (r.add b).full = false →
    ∃ t, exec (.plcSegmentReceive src dst b snr false) s = .next t ∧
      t.cour.reasm = s.reasmExpire.cour.reasm.map (fun x => if segOf src.toNat b x then r.add b else x) ∧
      Keeps [F.PLC_CNT_RECEIVED, F.PLC_SNR_SNR] [.cour] s t) ∧
  (∀ (src dst : BitVec 16) b snr r, s.plcOn = true → s.pdOn 11 = true → segOk b = true → dst.toNat = s.ownAddr →
    s.reasmExpire.cour.reasm.find? (segOf src.toNat b) = some r → r.count = bU8 b 5 → (r.add b).full = true →
    ∃ t, exec (.plcSegmentReceive src dst b snr false) s = .next t ∧ t.resp.bytes = (r.add b).msg ∧
      t.cour.reasm = s.reasmExpire.cour.reasm.filter (fun x => !segOf src.toNat b x) ∧ Keeps [F.PLC_CNT_RECEIVED, F.PLC_SNR_SNR] [.resp, .cour] s t) ∧
  (∀ (src dst : BitVec 16) b snr, s.plcOn = true → s.pdOn 11 = true → segOk b = true → dst.toNat = s.ownAddr →
    s.reasmExpire.cour.reasm.find? (segOf src.toNat b) = none → 4 ≤ s.reasmExpire.cour.reasm.length →
    ∃ t, exec (.plcSegmentReceive src dst b snr false) s = .next t ∧ t.get F.COURH_STICKY_REASM_DROP = 1 ∧ t.cour = s.reasmExpire.cour ∧
      Keeps [F.PLC_CNT_RECEIVED, F.PLC_SNR_SNR, F.COURH_STICKY_REASM_DROP] [.cour] s t) ∧
  (∀ src dst b snr x, s.plcOn = false → exec (.plcSegmentReceive src dst b snr x) s = .next s) ∧
  (∃ t, exec .reassemblyTimeout s = .next t ∧ t.cour.reasm = s.cour.reasm.filter (fun r => decide (s.mono < r.from_ + 8000000000)) ∧ Keeps [] [.cour] s t)

/-- The time transfer (R109, R110, R644 to R646): a slave asks once every INTERVAL in MODE 2 and waits; a master stamps a request, and at T3 answers it or, where the medium is busy,
counts a skip; a valid answer updates the counts and gives theta, which goes to EPOCH_TT_OFFSET and, negated, to the slew's shadow; an answer that
breaks a condition, and 100 ms without one, are invalid and forget the count.
Where the spec leaves the reading open it states the model's, as log row 102 gives. The clauses in which a command changes nothing because
its condition does not hold state the model's choice (log row 15). -/
def Obligations.TimeTransfer : Prop :=
  ∀ s : State,
  (∀ n, s.plcOn = true → s.flag F.PLC_TT_CFG_EN = true → s.get F.EPOCH_CTRL_MODE = 2 → s.cour.ttNext ≤ s.mono → s.plcBusy = false →
    s.cour.ttWait = none → s.plState ≠ 1 →
    ∃ t f, exec (.ttRequestSend n) s = .next t ∧ t.cour.ttWait = some (s.epoch, s.cour.ttSeq) ∧ t.cour.ttFrom = s.mono ∧ t.cour.ttSeq = (s.cour.ttSeq + 1) % 2 ^ 32 ∧
      t.cour.ttNext = s.mono + 800000 * s.get F.PLC_TT_CFG_INTERVAL ∧ t.cour.frame = some f ∧ f.dst = s.get F.PLC_TT_CFG_MASTER_ADDR ∧
      f.ack = false ∧ f.endAt = s.mono + n ∧ t.get F.PLC_STATUS_TT_WAIT = 1 ∧ Keeps [F.PLC_STATUS_TT_WAIT, F.PLC_CNT_SENT] [.draws, .cour] s t) ∧
  (∀ n x, s.plcOn = true → s.flag F.PLC_TT_CFG_EN = true → s.get F.EPOCH_CTRL_MODE = 2 → s.cour.ttNext ≤ s.mono → s.plcBusy = false →
    s.cour.ttWait = some x → s.plState ≠ 1 →
    ∃ t, exec (.ttRequestSend n) s = .next t ∧ t.cour.ttWait = some (s.epoch, s.cour.ttSeq) ∧ t.get F.PLC_STICKY_TT_INVALID = 1 ∧
      t.get F.PLC_TT_CNT_INVALID = (s.get F.PLC_TT_CNT_INVALID + 1) % 256 ∧ t.ep.ttCount = 0 ∧ t.get F.EPOCH_STATUS_TT_VALID = 0 ∧
      Keeps [F.PLC_STATUS_TT_WAIT, F.PLC_CNT_SENT, F.PLC_STICKY_TT_INVALID, F.PLC_TT_CNT_INVALID, F.EPOCH_STATUS_TT_VALID] [.draws, .ep, .cour] s t) ∧
  (∀ n, (s.plcOn = false ∨ s.flag F.PLC_TT_CFG_EN = false ∨ s.get F.EPOCH_CTRL_MODE ≠ 2 ∨ s.mono < s.cour.ttNext ∨ s.plcBusy = true) →
    exec (.ttRequestSend n) s = .next s) ∧
  (∀ (src dst : BitVec 16) sq t2, s.plcOn = true → s.flag F.PLC_TT_CFG_MASTER = true → dst.toNat = s.ownAddr →
    ∃ t, exec (.courierTtReq src dst sq t2) s = .next t ∧ t.cour.ttRsp = s.cour.ttRsp ++ [(sq % 2 ^ 32, src.toNat, t2, t2 + 40000000)] ∧
      t.cour.queue = s.cour.queue ∧ Keeps [] [.cour] s t) ∧
  (∀ src (dst : BitVec 16) sq t2, (s.plcOn = false ∨ s.flag F.PLC_TT_CFG_MASTER = false ∨ dst.toNat ≠ s.ownAddr) →
    exec (.courierTtReq src dst sq t2) s = .next s) ∧
  (∀ sq dst t2 t3 rest n, s.cour.ttRsp = (sq, dst, t2, t3) :: rest → s.plcOn = true → t3 ≤ s.epoch → s.plcBusy = false → s.plState ≠ 1 →
    (∃ t f tx, exec (.ttResponseSend false n) s = .next t ∧ t.cour.ttRsp = rest ∧ t.cour.frame = some f ∧ f.dst = dst ∧ f.ack = false ∧
      f.endAt = s.mono + n ∧ f.bytes.drop 8 = msgBytes 0x11 0 0 tx s.ownAddr dst (leBytes 4 sq ++ leBytes 8 t2 ++ leBytes 8 t3) ∧
      Keeps [F.PLC_CNT_SENT] [.draws, .cour] s t) ∧
    (∃ t, exec (.ttResponseSend true n) s = .next t ∧ t.cour.ttRsp = rest ∧ t.cour.frame = s.cour.frame ∧
      t.get F.PLC_TT_CNT_TT_SKIP = (s.get F.PLC_TT_CNT_TT_SKIP + 1) % 256 ∧ Keeps [F.PLC_TT_CNT_TT_SKIP] [.cour] s t)) ∧
  (∀ (src dst : BitVec 16) t1 q t2 t3 t4, s.cour.ttWait = some (t1, q) → s.plcOn = true → dst.toNat = s.ownAddr →
    src.toNat = s.get F.PLC_TT_CFG_MASTER_ADDR → ttOk t1 t2 t3 t4 true = true →
    ∃ t, exec (.courierTtRsp src dst q t2 t3 t4) s = .next t ∧ t.cour.ttWait = none ∧ t.get F.PLC_STATUS_TT_WAIT = 0 ∧
      t.get F.PLC_TT_CNT_OK = (s.get F.PLC_TT_CNT_OK + 1) % 65536 ∧
      ((t.rd R.PLC_TT_DELAY).toNat = ((t4 - t1) - (t3 - t2)) / 2 ∨ (t.rd R.PLC_TT_DELAY).toNat = ((t4 - t1) - (t3 - t2) + 1) / 2) ∧
      (s.get F.EPOCH_CTRL_MODE = 2 → ((((t1 : Int) - t2) + ((t4 : Int) - t3)).natAbs ≤ 800000 →
        t.rd R.EPOCH_TT_OFFSET = BitVec.ofInt 32 (roundDiv (((t1 : Int) - t2) + ((t4 : Int) - t3)) 2) ∧
        t.shadowed F.EPOCH_SLEW_SLEW = true ∧ bitsOf (t.shadow.get R.EPOCH_SLEW).val 0 24 =
          unsignedOf 24 (-(roundDiv (((t1 : Int) - t2) + ((t4 : Int) - t3)) 2)) ∧ t.ep.ttLast = some t4 ∧
        t.flag F.EPOCH_STATUS_TT_VALID = decide (16 ≤ t.ep.ttCount) ∧
        (s.ep.ttLast = none → t.ep.ttCount = s.ep.ttCount + 1) ∧
        (∀ l, s.ep.ttLast = some l → t.ep.ttCount = (if t4 ≤ l + 800000000 then s.ep.ttCount + 1 else 1) ∧
          t.shadowGet F.EPOCH_RATE_RATE = unsignedOf 24 (clampInt (s.getS F.EPOCH_RATE_RATE -
            roundDiv ((((t1 : Int) - t2) + ((t4 : Int) - t3)) * 125000000) (t4 - l)) (-500000) 500000)))) ∧
      (s.get F.EPOCH_CTRL_MODE ≠ 2 → t.shadow = s.shadow ∧ t.ep = s.ep ∧ t.rd R.EPOCH_TT_OFFSET = s.rd R.EPOCH_TT_OFFSET) ∧
      (s.get F.EPOCH_CTRL_MODE = 2 → 800000 < (((t1 : Int) - t2) + ((t4 : Int) - t3)).natAbs → t.get F.EPOCH_STICKY_TT_RANGE = 1 ∧ t.shadow = s.shadow ∧ t.ep = s.ep) ∧
      Keeps [F.PLC_TT_CNT_OK, whole R.PLC_TT_DELAY, F.PLC_STATUS_TT_WAIT, F.EPOCH_STICKY_TT_RANGE, whole R.EPOCH_TT_OFFSET, F.EPOCH_STATUS_TT_VALID]
        [.shadow, .draws, .ep, .cour] s t) ∧
  (∀ (src dst : BitVec 16) t1 q sq t2 t3 t4, s.cour.ttWait = some (t1, q) → s.plcOn = true → dst.toNat = s.ownAddr →
    src.toNat = s.get F.PLC_TT_CFG_MASTER_ADDR → ttOk t1 t2 t3 t4 (decide (sq = q)) = false →
    ∃ t, exec (.courierTtRsp src dst sq t2 t3 t4) s = .next t ∧ t.cour.ttWait = none ∧ t.get F.PLC_STICKY_TT_INVALID = 1 ∧
      t.get F.PLC_TT_CNT_INVALID = (s.get F.PLC_TT_CNT_INVALID + 1) % 256 ∧ t.get F.EPOCH_STATUS_TT_VALID = 0 ∧ t.ep.ttCount = 0 ∧ t.ep.ttLast = s.ep.ttLast ∧
      Keeps [F.PLC_STICKY_TT_INVALID, F.PLC_TT_CNT_INVALID, F.PLC_STATUS_TT_WAIT, F.EPOCH_STATUS_TT_VALID] [.ep, .cour] s t) ∧
  (∀ x, s.cour.ttWait = some x → s.mono < s.cour.ttFrom + 80000000 → exec .ttResponseTimeout s = .next s) ∧
  (∀ t1 q, s.cour.ttWait = some (t1, q) → s.cour.ttFrom + 80000000 ≤ s.mono →
    ∃ t, exec .ttResponseTimeout s = .next t ∧ t.cour.ttWait = none ∧ t.get F.PLC_STICKY_TT_INVALID = 1 ∧ t.get F.EPOCH_STATUS_TT_VALID = 0 ∧
      t.ep.ttCount = 0 ∧ Keeps [F.PLC_STICKY_TT_INVALID, F.PLC_TT_CNT_INVALID, F.PLC_STATUS_TT_WAIT, F.EPOCH_STATUS_TT_VALID] [.ep, .cour] s t) ∧
  (s.cour.ttWait = none → exec .ttResponseTimeout s = .next s ∧ ∀ src dst sq t2 t3 t4, exec (.courierTtRsp src dst sq t2 t3 t4) s = .next s)

/-! ### Resets and start-up (chapter 19) -/

/-- Resets (R601 to R606, R629, Table SUP-5): a power-up starts at P1 with what PD0, MRAM and OTP keep; RESET_N low for a microsecond, the keyed write and the watchdog assert a SYSTEM reset: outputs
go to their safe levels and both pairs stop; 50 us later, with the pin high, the blocks are reset and start-up goes on from P4; HPA alone resets HPB;
other initiators are refused.
Where the spec leaves the reading open it states the model's, as log rows 93 and 94 give. The clauses in which a command changes nothing
because its condition does not hold state the model's choice (log row 15). -/
def Obligations.Resets : Prop :=
  ∀ s : State,
  (∀ tm, s.alive = true → s.canonical = true → ((s.pdOn 1 = false ∧ s.plState ≠ 0) ∨
      (s.pdOn 1 = true ∧ s.phase = 0 ∧ s.flag F.SYS_START_DONE = false ∧ s.inFoyer = false ∧ s.start.resetAt = none)) →
    ∃ t, exec (.powerUpReset tm) s = .next t ∧ t.epoch = 0 ∧ t.phase = 1 ∧ t.rd R.SYS_PD_STATUS = 0x87#32 ∧ t.hok = [] ∧ t.raised = [] ∧
      t.rd R.SYS_RESET_CAUSE = BitVec.ofNat 32 (2 + b2n s.plinth.cold) ∧ t.plinth.cold = false ∧ t.pins.testMode = tm ∧ t.pending = s.pending ∧
      (∀ a, 0x400D0000 ≤ a → a < 0x400E0000 → t.rd a = s.rd a) ∧ (∀ a, 0x10000000 ≤ a → a < 0x11000000 → t.rdB a = s.rdB a) ∧
      (∀ a, memHome a < 0x10000000 ∨ 0x11000000 ≤ memHome a → t.rdB a = 0#8 ∧ t.eccBad a = false) ∧
      t.get F.SYS_IMG_STATUS_ACTIVE = s.get F.SYS_IMG_SELECT_SLOT ∧ t.get F.SV_BOOT_ACTIVE_FW = s.get F.SV_BOOT_FW_SEL ∧
      t.sv.hash = s.sv.hash ∧ t.sv.arbFw = s.sv.arbFw ∧ t.sv.arbImg = s.sv.arbImg ∧ t.sv.arbApp = s.sv.arbApp ∧ t.sv.replay = s.sv.replay ∧
      t.resp = s.resp ∧ t.draws = s.draws ∧ t.pins.gpio = s.pins.gpio ∧
      (∀ a, a < 0x400D0000 ∨ 0x400E0000 ≤ a → a ∉ R.SYS_RESET_CAUSE :: keptRegs → t.rd a = State.reset.rd a)) ∧
  (∀ tm, (s.alive = false ∨ (s.pdOn 1 = false ∧ s.plState = 0) ∨
      (s.pdOn 1 = true ∧ (s.phase ≠ 0 ∨ s.flag F.SYS_START_DONE = true ∨ s.inFoyer = true ∨ s.start.resetAt.isSome = true))) →
    exec (.powerUpReset tm) s = .next s) ∧
  (∀ ns still, s.pdOn 1 = true → 1000 ≤ ns → s.start.resetAt = none →
    ∃ t, exec (.resetPin ns still) s = .next t ∧ t.get F.SYS_RESET_CAUSE_PIN = 1 ∧ t.start.resetAt = some s.mono ∧ t.start.pinLow = still ∧
      (∀ q : Fin 2, (t.hok.get q).run = false) ∧ (∀ u : Fin 14, s.pwmState u ≠ 3 → t.pwmState u = 0) ∧
      (∀ h : Fin 8, t.get (F.DRV_HB_STATUS_HO h) = 0 ∧ t.get (F.DRV_HB_STATUS_LO h) = 0) ∧
      t.get F.RELAY_STATUS_K1_CMD = 0 ∧ t.get F.RELAY_STATUS_K2_CMD = 0 ∧
      KeepsOutside [zone R.SYS_ID, zone R.DIAG_MAINT_REQ, zone R.DRV_STATUS, zone R.GRID_CFG, zone R.LANE_STATUS, zone (R.PWM_CTRL 0),
          zone R.RELAY_CFG, zone R.SENSG_STATUS, zone R.SENSP_STATUS, zone R.WCMPG_STATUS, zone R.WCMPP_STATUS]
        [.mem, .shadow, .draws, .pwm, .sens, .wcmp, .drive, .diag, .relay, .meter, .start, .hok] s t) ∧
  (∀ ns still, s.pdOn 1 = true → ns < 200 →
    ∃ t, exec (.resetPin ns still) s = .next t ∧ t.start.resetAt = s.start.resetAt ∧ Keeps [] [.start] s t) ∧
  (∀ i, (i = .hpa ∨ i = .hspi ∨ i = .courier) → s.start.resetAt = none →
    ∀ x ∈ [(Instr.sysResetSystem i, false), (.sysResetFoyer i, true)],
      ∃ t, exec x.1 s = .next t ∧ t.get F.SYS_RESET_CAUSE_SOFT = 1 ∧ (x.2 = true → t.get F.SYS_RESET_CAUSE_FOYER_REQ = 1) ∧
        t.start.resetAt = some s.mono ∧ (∀ q : Fin 2, (t.hok.get q).run = false) ∧ (∀ u : Fin 14, s.pwmState u ≠ 3 → t.pwmState u = 0) ∧
        KeepsOutside [zone R.SYS_ID, zone R.DIAG_MAINT_REQ, zone R.DRV_STATUS, zone R.GRID_CFG, zone R.LANE_STATUS, zone (R.PWM_CTRL 0),
          zone R.RELAY_CFG, zone R.SENSG_STATUS, zone R.SENSP_STATUS, zone R.WCMPG_STATUS, zone R.WCMPP_STATUS]
        [.mem, .shadow, .draws, .pwm, .sens, .wcmp, .drive, .diag, .relay, .meter, .start, .hok] s t) ∧
  (∀ i, (i = .hpb ∨ i = .docent) → ∀ c ∈ [Instr.sysResetSystem i, .sysResetFoyer i], ∃ t, exec c s = .next t ∧ Refused .sysReset FS.SYS_CFG s t) ∧
  (s.inFoyer = false → s.canonical = true →
    ∃ t, exec (.sysResetHpb .hpa) s = .next t ∧ t.hok.get 1 = default ∧ t.hok.get 0 = { (s.hok.get 0) with bp := (t.hok.get 0).bp } ∧
      t.get F.SYS_CORE_CTRL_HPB_RUN = 0 ∧ t.get F.SYS_RESET_CAUSE_HPB = 1 ∧ t.get F.SV_INFO_PERMIT = 0 ∧ t.get ⟨R.CUR_FENCED_OTHER, 1, 1⟩ = 0 ∧
      (∀ u : Fin 14, s.get (F.PWM_CTRL_OWNER u) = 1 → s.unitPair u = none → s.pwmState u ≠ 3 → t.pwmState u = 0) ∧
      t.start.resetAt = s.start.resetAt ∧
      KeepsOutside [zone R.SYS_ID, zone R.PERF_CTRL, zone R.CUR_STATUS, zone R.DIAG_MAINT_REQ, zone R.DRV_STATUS, zone (R.LP_CTRL 0), zone (R.PWM_CTRL 0),
          zone R.SV_INFO]
        [.mem, .shadow, .pwm, .loop, .drive, .diag, .sv, .start, .hok] s t) ∧
  (∀ i, (i ≠ .hpa ∨ s.inFoyer = true) → ∃ t, exec (.sysResetHpb i) s = .next t ∧ Refused .sysReset FS.SYS_CFG s t) ∧
  (s.pdOn 1 = true → s.get F.SYS_WDT_TIMEOUT ≠ 0 → s.start.wdHeld = none → s.start.wdFrom + s.get F.SYS_WDT_TIMEOUT * 800000 ≤ s.mono →
    s.start.resetAt = none →
    ∃ t, exec .watchdogExpire s = .next t ∧ t.get F.SYS_RESET_CAUSE_WATCHDOG = 1 ∧ t.start.resetAt = some s.mono ∧
      (∀ q : Fin 2, (t.hok.get q).run = false) ∧
      KeepsOutside [zone R.SYS_ID, zone R.DIAG_MAINT_REQ, zone R.DRV_STATUS, zone R.GRID_CFG, zone R.LANE_STATUS, zone (R.PWM_CTRL 0),
          zone R.RELAY_CFG, zone R.SENSG_STATUS, zone R.SENSP_STATUS, zone R.WCMPG_STATUS, zone R.WCMPP_STATUS]
        [.mem, .shadow, .draws, .pwm, .sens, .wcmp, .drive, .diag, .relay, .meter, .start, .hok] s t) ∧
  ((s.pdOn 1 = false ∨ s.get F.SYS_WDT_TIMEOUT = 0 ∨ s.start.wdHeld.isSome = true ∨ s.mono < s.start.wdFrom + s.get F.SYS_WDT_TIMEOUT * 800000) →
    exec .watchdogExpire s = .next s) ∧
  (∃ t, exec (.watchdogKick .hpa 0x4B1C#32) s = .next t ∧ t.start.wdFrom = s.mono ∧ Keeps [] [.start] s t) ∧
  (∀ (v : Word), v ≠ 0x4B1C#32 → exec (.watchdogKick .hpa v) s = .next s) ∧
  (∀ i (v : Word), i ≠ .hpa → ∃ t, exec (.watchdogKick i v) s = .next t ∧ Refused .sysReset FS.SYS_CFG s t) ∧
  (∀ a, s.canonical = true → s.start.resetAt = some a → a + 40000 ≤ s.mono → s.start.pinLow = false →
    ∃ t, exec .resetRelease s = .next t ∧ t.phase = 4 ∧ t.start.resetAt = none ∧ t.epoch = s.epoch ∧ t.mono = s.mono ∧ t.clk = s.clk ∧ t.mem = s.mem ∧ t.ecc = s.ecc ∧
      t.plinth = s.plinth ∧ t.hok = [] ∧ t.raised = [] ∧ (∀ c : Fin 24, t.wcState c = 2) ∧ t.get F.WARDEN_STATUS_REACTION = 1 ∧
      t.rd R.SYS_PD_STATUS = s.rd R.SYS_PD_STATUS ∧ t.rd R.SYS_RAILS = s.rd R.SYS_RAILS ∧ t.rd R.SYS_RESET_CAUSE = s.rd R.SYS_RESET_CAUSE ∧
      (∀ b, (0x40010000 ≤ b ∧ b < 0x40020000) ∨ (0x400D0000 ≤ b ∧ b < 0x400E0000) → t.rd b = s.rd b) ∧
      t.get F.EPOCH_CTRL_MODE = s.get F.EPOCH_CTRL_MODE ∧ t.pins = s.pins ∧ t.resp = s.resp ∧ t.pending = s.pending ∧
      (∀ b, (∀ r ∈ [zone R.SYS_ID, zone R.CLK_CTRL, zone R.EPOCH_CTRL, zone R.DRV_STATUS, zone R.LANE_STATUS, zone R.WARDEN_STATUS,
          zone R.WCMPG_STATUS, zone R.WCMPP_STATUS, (0x400D0000, 0x400E0000)], b < r.1 ∨ r.2 ≤ b) → b ∉ keptRegs →
        t.rd b = State.reset.rd b)) ∧
  ((s.start.resetAt = none ∨ s.start.pinLow = true ∨ ∃ a, s.start.resetAt = some a ∧ s.mono < a + 40000) → exec .resetRelease s = .next s)

/-- Start-up (R606 to R613, R615, Tables SUP-3 and SUP-4): the phases follow one another as each completes, and P8 releases HPA at the firmware's entry; a phase that fails its test, a request, or
a barrier that does not calibrate enters the Foyer state with its cause, HPA in the monitor and no domain but the Foyer's; a supply that does not come
ends in SLEEP; VISO that comes late starts PD10; HPA releases a held HPB at its entry.
Where the spec leaves the reading open it states the model's, as log row 95 gives. The clauses in which a command changes nothing because
its condition does not hold state the model's choice (log row 15). -/
def Obligations.StartUp : Prop :=
  ∀ s : State,
  (s.pdOn 1 = true → s.start.resetAt = none → ∀ w d,
    (s.phase = 1 → ∃ t, exec (.startupPhaseEnd false w d) s = .next t ∧ t.phase = 2 ∧ t.flag F.SYS_RAILS_VCORE_OK = true ∧
      t.flag F.SYS_RAILS_VIO_OK = true ∧ t.flag F.SYS_RAILS_VANA_OK = true ∧ Keeps [whole R.SYS_RAILS, whole R.SYS_START] [] s t) ∧
    (s.phase = 2 → s.flag F.CLK_STATUS_MUTED = false →
      ∃ t, exec (.startupPhaseEnd false w d) s = .next t ∧ t.phase = 3 ∧ Keeps [F.SYS_START_PHASE] [] s t) ∧
    (s.phase = 3 → ∃ t, exec (.startupPhaseEnd false w d) s = .next t ∧ t.phase = 4 ∧ (∀ c : Fin 24, t.wcState c = 2) ∧
      t.get F.WARDEN_STATUS_REACTION = 1 ∧
      KeepsOutside [zone R.SYS_ID, zone R.DRV_STATUS, zone R.LANE_STATUS, zone R.WARDEN_STATUS, zone R.WCMPG_STATUS, zone R.WCMPP_STATUS]
        [.pwm, .wcmp, .drive, .diag, .relay, .warden] s t) ∧
    (s.phase = 4 → ∃ t, exec (.startupPhaseEnd false w d) s = .next t ∧ t.phase = 5 ∧ t.sv.step = 1 ∧ Keeps [F.SYS_START_PHASE] [.sv] s t) ∧
    (s.phase = 5 → s.sv.step = 8 → ∃ t, exec (.startupPhaseEnd false w d) s = .next t ∧ t.phase = 6 ∧ Keeps [F.SYS_START_PHASE] [] s t) ∧
    (s.phase = 6 → s.domainsReady = true →
      ∃ t, exec (.startupPhaseEnd false w d) s = .next t ∧ t.phase = 7 ∧ (s.pdOn 8 = true → t.flag (calBusyF false) = true) ∧
        (s.pdOn 10 = true → t.flag (calBusyF true) = true) ∧ Keeps [F.SYS_START_PHASE, calBusyF false, calBusyF true] [.sens] s t) ∧
    (s.phase = 7 → s.flag (calBusyF false) = false → s.flag (calBusyF true) = false → s.wcmp.queue = [] → s.start.late ≠ 4 → s.routedFail = none →
      ∃ t, exec (.startupPhaseEnd false w d) s = .next t ∧ t.phase = 7 ∧ t.start.late = 4 ∧
        KeepsOutside [zone R.DRV_STATUS, zone R.LANE_STATUS, zone R.WCMPG_STATUS, zone R.WCMPP_STATUS] [.pwm, .wcmp, .drive, .diag, .relay, .start] s t) ∧
    (∀ k, s.phase = 7 → s.flag (calBusyF false) = false → s.flag (calBusyF true) = false → s.wcmp.queue = [] → s.start.late ≠ 4 → s.routedFail = some k →
      ∃ t, exec (.startupPhaseEnd false w d) s = .next t ∧ t.inFoyer = true ∧ t.get F.SYS_FOYER_CAUSE = 7 ∧ t.get F.SYS_FOYER_DETAIL = k ∧ t.phase = 0 ∧
          KeepsOutside foyerZones foyerParts s t) ∧
    (∀ c, s.phase = 7 → s.flag (calBusyF false) = false → s.flag (calBusyF true) = false → s.wcmp.queue = [] → s.start.late = 4 → s.wcFailed = some c →
      ∃ t, exec (.startupPhaseEnd false w d) s = .next t ∧ t.inFoyer = true ∧ t.get F.SYS_FOYER_CAUSE = 8 ∧ t.get F.SYS_FOYER_DETAIL = c ∧ t.phase = 0 ∧
          KeepsOutside foyerZones foyerParts s t) ∧
    (s.phase = 7 → s.flag (calBusyF false) = false → s.flag (calBusyF true) = false → s.wcmp.queue = [] → s.start.late = 4 → s.wcFailed = none →
      ∃ t, exec (.startupPhaseEnd false w d) s = .next t ∧ t.phase = 8 ∧ Keeps [F.SYS_START_PHASE, F.SYS_START_GRID_CAL_DONE] [.start] s t) ∧
    (s.phase = 8 → s.flag F.SYS_RESET_CAUSE_FOYER_REQ = false →
      ∃ t, exec (.startupPhaseEnd false w d) s = .next t ∧ t.phase = 0 ∧ t.flag F.SYS_START_DONE = true ∧
        t.rd R.SYS_START_TICK = BitVec.ofNat 32 s.epoch ∧ (t.hok.get 0).run = true ∧ (t.hok.get 0).mmode = true ∧ (t.hok.get 0).pc = s.sv.fwEntry ∧
        t.hok.get 1 = s.hok.get 1 ∧ Keeps [F.SYS_START_PHASE, F.SYS_START_DONE, whole R.SYS_START_TICK] [.diag, .sv, .hok] s t) ∧
    (s.phase = 8 → s.flag F.SYS_RESET_CAUSE_FOYER_REQ = true →
      ∃ t, exec (.startupPhaseEnd false w d) s = .next t ∧ t.inFoyer = true ∧ t.get F.SYS_FOYER_CAUSE = 0x0A ∧ t.phase = 0 ∧
        t.flag F.SYS_RESET_CAUSE_FOYER_REQ = false ∧
          KeepsOutside foyerZones foyerParts s t) ∧
    (∀ c, phaseCause s.phase w = some c → d < 256 →
      ∃ t, exec (.startupPhaseEnd true w d) s = .next t ∧ t.inFoyer = true ∧ t.get F.SYS_FOYER_CAUSE = c ∧ t.get F.SYS_FOYER_DETAIL = d ∧ t.phase = 0 ∧
        (t.hok.get 0).run = true ∧ (t.hok.get 0).mmode = true ∧ (∀ e : Fin 12, pdFoyer e = false → t.pdOn e = false) ∧ t.get (opF 2) = 2 ∧
        (∀ u : Fin 14, s.pwmState u ≠ 3 → t.pwmState u = 0) ∧ t.sv.step = 0 ∧
          KeepsOutside (zone R.WARDEN_STATUS :: foyerZones) (.warden :: foyerParts) s t) ∧
    (s.phase = 0 → exec (.startupPhaseEnd false w d) s = .next s)) ∧
  (∀ f w d, (s.start.resetAt.isSome = true ∨ s.pdOn 1 = false) → exec (.startupPhaseEnd f w d) s = .next s) ∧
  (s.inPhase 1 = true → s.canonical = true → ∃ t, exec .supplyStartTimeout s = .next t ∧ t.get F.SYS_START_SUPPLY_FAIL = 1 ∧ SleptFrom s t) ∧
  (s.inPhase 1 = false → exec .supplyStartTimeout s = .next s) ∧
  (s.pdOn 1 = true → s.flag F.SYS_RAILS_VISO_OK = false →
    ∃ t, exec .visoArrive s = .next t ∧ t.flag F.SYS_RAILS_VISO_OK = true ∧
      (s.inFoyer = true → t.flag (pdCtrlF 10) = true ∧ (s.pdOn 10 = false → t.flag (pdMoveF 10) = true)) ∧
      (s.inFoyer = false → s.phase = 0 → s.flag (pdCtrlF 10) = true → s.pdOn 10 = false → t.flag (pdMoveF 10) = true) ∧
      KeepsOutside [zone R.SYS_ID, zone R.DIAG_MAINT_REQ, zone R.DRV_STATUS, zone R.LANE_STATUS, zone R.SENSG_STATUS, zone R.SENSP_STATUS,
          zone R.WCMPG_STATUS, zone R.WCMPP_STATUS]
        [.pwm, .sens, .wcmp, .drive, .diag, .relay, .start] s t) ∧
  ((s.pdOn 1 = false ∨ s.flag F.SYS_RAILS_VISO_OK = true) → exec .visoArrive s = .next s) ∧
  (∀ a, s.start.barFrom = some a → (s.inPhase 5 = true ∨ s.inPhase 6 = true) → s.flag F.SYS_RAILS_VISO_OK = true →
    s.flag F.EPOCH_STATUS_BAR_CAL_DONE = false → a + 8000000 ≤ s.mono →
    ∃ t, exec .barrierCalTimeout s = .next t ∧ t.inFoyer = true ∧ t.get F.SYS_FOYER_CAUSE = 6 ∧ t.phase = 0 ∧ t.sv.step = 0 ∧
      KeepsOutside foyerZones foyerParts s t) ∧
  ((s.start.barFrom = none ∨ s.flag F.EPOCH_STATUS_BAR_CAL_DONE = true ∨ (∃ a, s.start.barFrom = some a ∧ s.mono < a + 8000000)) →
    exec .barrierCalTimeout s = .next s) ∧
  (s.inFoyer = false → s.pdOn 3 = true → (s.hok.get 1).run = false → (s.hok.get 1).stopped = false → bitOf (s.rd R.CUR_FENCED_OTHER).toNat 1 = false →
    ∃ t, exec (.hpbRelease .hpa) s = .next t ∧ (t.hok.get 1).run = true ∧ (t.hok.get 1).mmode = true ∧
      (t.hok.get 1).pc = (s.rd R.SYS_HPB_ENTRY).toNat ∧ (t.hok.get 1).icache = [] ∧ (t.hok.get 1).dcache = [] ∧ t.hok.get 0 = s.hok.get 0 ∧
      t.get F.SYS_CORE_CTRL_HPB_RUN = 1 ∧ Keeps [F.SYS_CORE_CTRL_HPB_RUN] [.hok] s t) ∧
  (∀ i, (i ≠ .hpa ∨ s.inFoyer = true) → ∃ t, exec (.hpbRelease i) s = .next t ∧ Refused .sysReset FS.SYS_CFG s t)

/-! ### The machine as a whole -/

/-- A step takes the command at the front of the queue and runs it on the state with the queue's rest (the model's choice of a queue: log row 1). -/
def Obligations.StepRunsTheFrontCommand : Prop :=
  ∀ (s : State) (c : Instr) (rest : List Instr), s.pending = c :: rest →
  step s = exec c { s with pending := rest }

/-- Every command completes: in every state it answers a next state, never a fault and never a refusal (R8, R37: a write that may not act is refused by the device itself, by a
flag; an event whose condition does not hold changes nothing: the model's choice, log row 15). -/
def Obligations.EveryCommandCompletes : Prop :=
  ∀ (c : Instr) (s : State), ∃ t, exec c s = .next t

/-- No command touches the queue of waiting commands.
Where the spec leaves the reading open it states the model's, as log row 1 gives. -/
def Obligations.CommandsLeaveTheQueue : Prop :=
  ∀ (c : Instr) (s t : State), exec c s = .next t → t.pending = s.pending

/-- Every step keeps registers, memory with its uncorrectable words, and shadows in their canonical form, and takes one command from the queue.
Where the spec leaves the reading open it states the model's, as log row 1 gives. -/
def Obligations.StepKeepsCanonicalForm : Prop :=
  ∀ s t : State, s.canonical = true → step s = .next t →
  t.canonical = true ∧ t.pending = s.pending.tail

/-- The state after reset is in canonical form, its queue is empty, and no byte of memory is listed.
The reset values that the register tables state (Tables CLK-3, EPOCH-4, SENS-11, WCMP-7, DIAG-16, HOK-8, PWR-13, SUP-9, COU-10, COU-13): N 128, channel gains and ring sizes, every comparator TRIP_PENDING,
the trace and insulation limits, the Archive interval, the Plinth's alarm, wake, address and session, HPB's entry, the powerline level.
Where the spec leaves the reading open it states the model's, as log rows 3, 4 and 21 give. -/
def Obligations.ResetStateIsAsStated : Prop :=
  (State.reset.canonical = true ∧ State.reset.pending = [] ∧ State.reset.mem = []) ∧
  (State.reset.get F.CLK_N_N = 128 ∧ State.reset.rd R.SENSP_MON_MASK = 0x3F#32 ∧ State.reset.rd R.WCMPP_TEST_MASK = 0xFFFFFF#32 ∧
    (∀ k : Fin 26, State.reset.rd (R.CH_CAL_GAIN k) = 0x80000#32 ∧ State.reset.get (F.CH_RING_CTRL_SIZE_LOG2 k) = 6 ∧ State.reset.rd (R.CH_RING_RD k) = 0#32) ∧
    (∀ c : Fin 24, State.reset.wcState c = 2) ∧ (∀ p : Fin 6, State.reset.lpState p = 0) ∧ (∀ u : Fin 14, State.reset.pwmState u = 0) ∧
    State.reset.rd R.DIAG_IV_BASE = 0x20000000#32 ∧ State.reset.rd R.PLINTH_WAKE_EN = 0xF#32 ∧ State.reset.rd R.PLINTH_TWW_ADDR = 0x140#32 ∧
    State.reset.rd R.PLINTH_ALARM = 0xFFFFFFFF#32 ∧ State.reset.rd R.PLINTH_SESSION = 0x14#32 ∧ State.reset.rd R.PLINTH_RTC_SEC = 0#32 ∧
    State.reset.rd R.SYS_HPB_ENTRY = 0x10000080#32 ∧ State.reset.rd R.SYS_WDT = 0#32 ∧ State.reset.rd R.SYS_CORE_CTRL = 0#32 ∧
    (∀ q : Fin 2, State.reset.rd (R.HIC_MTIMECMP_LO q) = 0xFFFFFFFF#32 ∧ State.reset.rd (R.HIC_MTIMECMP_HI q) = 0xFFFFFFFF#32) ∧
    State.reset.rd R.COURH_IRQ_EN = 0#32 ∧ State.reset.rd R.COURH_EVENT_DST = 0#32 ∧ State.reset.rd R.PLC_ADDR = 0#32 ∧ State.reset.rd R.PLC_TX_LEVEL = 0xF#32 ∧
    State.reset.epoch = 0)

end Statements
end

