-- ==== Sys2Proof/Laws/Bits.lean ====
section
/-!
SUPPORT. The laws of bit fields: reading a field that was put, and one that lies beside it.
-/

namespace Sys2Proof.Machine

theorem bitsOf_bitsPut_self (n lo len v : Nat) : bitsOf (bitsPut n lo len v) lo len = v % 2 ^ len := by
  unfold bitsOf bitsPut
  have h1 : n % 2 ^ lo < 2 ^ lo := Nat.mod_lt _ (by positivity)
  have e : n % 2 ^ lo + 2 ^ lo * (v % 2 ^ len) + 2 ^ (lo + len) * (n / 2 ^ (lo + len)) =
      n % 2 ^ lo + 2 ^ lo * (v % 2 ^ len + 2 ^ len * (n / 2 ^ (lo + len))) := by rw [pow_add]; ring
  rw [e, Nat.add_mul_div_left _ _ (by positivity), Nat.div_eq_of_lt h1, Nat.zero_add, Nat.add_mul_mod_self_left, Nat.mod_mod]

theorem bitsOf_mod (n w lo len : Nat) (h : lo + len ≤ w) : bitsOf (n % 2 ^ w) lo len = bitsOf n lo len := by
  unfold bitsOf
  have e : (2 : Nat) ^ w = 2 ^ lo * 2 ^ (w - lo) := by rw [← pow_add]; congr 1; omega
  rw [e, Nat.mod_mul_right_div_self]
  exact Nat.mod_mod_of_dvd _ (pow_dvd_pow 2 (by omega))

/-- A field that ends at or below the one that was put. -/
theorem bitsOf_bitsPut_low (n lo len v a k : Nat) (h : a + k ≤ lo) : bitsOf (bitsPut n lo len v) a k = bitsOf n a k := by
  rw [← bitsOf_mod _ lo a k h, ← bitsOf_mod n lo a k h]
  congr 1
  unfold bitsPut
  have e : n % 2 ^ lo + 2 ^ lo * (v % 2 ^ len) + 2 ^ (lo + len) * (n / 2 ^ (lo + len)) =
      n % 2 ^ lo + 2 ^ lo * (v % 2 ^ len + 2 ^ len * (n / 2 ^ (lo + len))) := by rw [pow_add]; ring
  rw [e, Nat.add_mul_mod_self_left, Nat.mod_mod]

theorem bitsPut_div (n lo len v : Nat) : bitsPut n lo len v / 2 ^ (lo + len) = n / 2 ^ (lo + len) := by
  unfold bitsPut
  have h1 : n % 2 ^ lo < 2 ^ lo := Nat.mod_lt _ (by positivity)
  have h2 : v % 2 ^ len < 2 ^ len := Nat.mod_lt _ (by positivity)
  have h3 : n % 2 ^ lo + 2 ^ lo * (v % 2 ^ len) < 2 ^ (lo + len) := by
    rw [pow_add]
    calc n % 2 ^ lo + 2 ^ lo * (v % 2 ^ len) < 2 ^ lo + 2 ^ lo * (v % 2 ^ len) := by omega
      _ = 2 ^ lo * (v % 2 ^ len + 1) := by ring
      _ ≤ 2 ^ lo * 2 ^ len := Nat.mul_le_mul_left _ h2
  rw [Nat.add_mul_div_left _ _ (by positivity), Nat.div_eq_of_lt h3, Nat.zero_add]

/-- A field that begins at or above the end of the one that was put. -/
theorem bitsOf_bitsPut_high (n lo len v a k : Nat) (h : lo + len ≤ a) : bitsOf (bitsPut n lo len v) a k = bitsOf n a k := by
  unfold bitsOf
  have e : (2 : Nat) ^ a = 2 ^ (lo + len) * 2 ^ (a - (lo + len)) := by rw [← pow_add]; congr 1; omega
  rw [e, ← Nat.div_div_eq_div_mul, ← Nat.div_div_eq_div_mul, bitsPut_div]

theorem w32_toNat (n : Nat) : (w32 n).toNat = n % 2 ^ 32 := by simp [w32]

end Sys2Proof.Machine
end

