-- ==== Sys2Proof/Laws/Map.lean ====
section
/-!
SUPPORT. The laws of the sparse map: a read after a write, and that a write keeps the canonical form.
-/

namespace Sys2Proof.Machine

variable {α : Type} [Inhabited α]

theorem SMap.get_dropTo (m : SMap α) (a b : Nat) (h : a < b) : (m.dropTo a).get b = m.get b := by
  induction m with
  | nil => rfl
  | cons e t ih =>
    obtain ⟨k, v⟩ := e
    by_cases hk : k ≤ a
    · have h1 : b ≠ k := by omega
      have h2 : ¬ b < k := by omega
      simp [SMap.dropTo, SMap.get, hk, h1, h2, ih]
    · simp [SMap.dropTo, hk]

theorem SMap.get_dropTo_le (m : SMap α) (a b : Nat) (h : b ≤ a) : (m.dropTo a).get b = default := by
  induction m with
  | nil => rfl
  | cons e t ih =>
    obtain ⟨k, v⟩ := e
    by_cases hk : k ≤ a
    · simp [SMap.dropTo, hk, ih]
    · have h1 : b ≠ k := by omega
      have h2 : b < k := by omega
      simp [SMap.dropTo, SMap.get, hk, h1, h2]

variable [DecidableEq α]

theorem SMap.get_cell (t : SMap α) (a b : Nat) (v : α) (h : ∀ c, c ≤ a → t.get c = default) :
    (SMap.cell a v t).get b = if b = a then v else t.get b := by
  unfold SMap.cell
  split
  · rename_i hv
    split
    · rename_i hb; rw [hb, h a (Nat.le_refl a), hv]
    · rfl
  · by_cases hb : b = a
    · simp [SMap.get, hb]
    · by_cases hl : b < a
      · simp [SMap.get, hb, hl, h b (Nat.le_of_lt hl)]
      · simp [SMap.get, hb, hl]

/-- A read after a write: the written key reads the value, every other key reads as before. -/
theorem SMap.get_set (m : SMap α) (a b : Nat) (v : α) :
    (m.set a v).get b = if b = a then v else m.get b := by
  induction m with
  | nil =>
    simp only [SMap.set]
    rw [SMap.get_cell _ _ _ _ (fun _ _ => rfl)]
  | cons e t ih =>
    obtain ⟨k, w⟩ := e
    simp only [SMap.set]
    split
    · rename_i hk
      by_cases hb : b = k
      · have : b ≠ a := by omega
        simp [SMap.get, hb, show k ≠ a by omega]
      · by_cases hl : b < k
        · have : b ≠ a := by omega
          simp [SMap.get, hb, hl, this]
        · simp [SMap.get, hb, hl, ih]
    · rename_i hk
      split
      · rename_i he
        subst he
        rw [SMap.get_cell _ _ _ _ (fun c hc => SMap.get_dropTo_le t k c hc)]
        by_cases hb : b = k
        · simp [hb]
        · by_cases hl : b < k
          · simp [SMap.get, hb, hl, SMap.get_dropTo_le t k b (Nat.le_of_lt hl)]
          · simp [SMap.get, hb, hl, SMap.get_dropTo t k b (by omega)]
      · rename_i he
        rw [SMap.get_cell]
        intro c hc
        have h1 : c ≠ k := by omega
        have h2 : c < k := by omega
        simp [SMap.get, h1, h2]

@[simp] theorem SMap.get_set_same (m : SMap α) (a : Nat) (v : α) : (m.set a v).get a = v := by
  simp [SMap.get_set]

theorem SMap.get_set_ne (m : SMap α) (a b : Nat) (v : α) (h : b ≠ a) : (m.set a v).get b = m.get b := by
  simp [SMap.get_set, h]

theorem SMap.above_cell (k a : Nat) (v : α) (t : SMap α) (hk : k < a) (ht : t.above k = true) :
    (SMap.cell a v t).above k = true := by
  unfold SMap.cell; split
  · exact ht
  · simpa [SMap.above] using hk

theorem SMap.wf_tail {e : Nat × α} {t : SMap α} (h : SMap.wf (e :: t) = true) : t.wf = true := by
  obtain ⟨k, v⟩ := e
  simp [SMap.wf] at h; exact h.2

omit [Inhabited α] [DecidableEq α] in
theorem SMap.dropTo_self (t : SMap α) (a : Nat) (h : t.above a = true) : t.dropTo a = t := by
  cases t with
  | nil => rfl
  | cons e t => obtain ⟨k, v⟩ := e; simp [SMap.above] at h; simp [SMap.dropTo, Nat.not_le.mpr h]

theorem SMap.wf_cell (a : Nat) (v : α) (t : SMap α) (ht : t.wf = true) (ha : t.above a = true) :
    (SMap.cell a v t).wf = true := by
  unfold SMap.cell; split
  · exact ht
  · rename_i hv; simp [SMap.wf, hv, ha, ht]

omit [Inhabited α] [DecidableEq α] in
theorem SMap.above_trans (t : SMap α) (k a : Nat) (h : k < a) (ha : t.above a = true) : t.above k = true := by
  cases t with
  | nil => rfl
  | cons e t => obtain ⟨j, v⟩ := e; simp [SMap.above] at *; omega

theorem SMap.above_set (m : SMap α) (k a : Nat) (v : α) (hk : k < a) (hm : m.above k = true)
    (hw : m.wf = true) : (m.set a v).above k = true := by
  cases m with
  | nil => exact SMap.above_cell k a v [] hk rfl
  | cons e t =>
    obtain ⟨j, w⟩ := e
    simp only [SMap.set]
    split
    · simpa [SMap.above] using hm
    · split
      · rename_i hj
        subst hj
        simp [SMap.wf] at hw
        rw [SMap.dropTo_self t j hw.1.2]
        exact SMap.above_cell k j v t hk (SMap.above_trans t k j hk hw.1.2)
      · exact SMap.above_cell k a v _ hk hm

/-- A write keeps the canonical form. -/
theorem SMap.wf_set (m : SMap α) (a : Nat) (v : α) (h : m.wf = true) : (m.set a v).wf = true := by
  induction m with
  | nil => exact SMap.wf_cell a v [] rfl rfl
  | cons e t ih =>
    obtain ⟨k, w⟩ := e
    have ht := SMap.wf_tail h
    simp [SMap.wf] at h
    simp only [SMap.set]
    split
    · rename_i hk
      simp [SMap.wf, h.1.1, ih ht, SMap.above_set t k a v hk h.1.2 ht]
    · split
      · rename_i hk; subst hk
        rw [SMap.dropTo_self t k h.1.2]
        exact SMap.wf_cell k v t ht h.1.2
      · rename_i h1 h2
        refine SMap.wf_cell a v _ ?_ ?_
        · simp [SMap.wf, h.1.1, h.1.2, ht]
        · simp [SMap.above]; omega

theorem SMap.above_head {k a : Nat} {v : α} {t : SMap α} (h : SMap.wf ((a, v) :: t) = true) (hk : k ≤ a) : t.above k = true := by
  simp only [SMap.wf, Bool.and_eq_true] at h
  cases t with
  | nil => rfl
  | cons e t =>
    have h2 := h.1.2
    simp only [SMap.above, decide_eq_true_eq] at h2 ⊢
    omega

theorem SMap.above_filter (p : Nat × α → Bool) (t : SMap α) (k : Nat) (h : t.wf = true) (ha : t.above k = true) :
    SMap.above k (t.filter p) = true := by
  induction t with
  | nil => rfl
  | cons e t ih =>
    obtain ⟨a, v⟩ := e
    have hk : k < a := by simpa [SMap.above] using ha
    by_cases hp : p (a, v) = true
    · simpa [List.filter_cons, hp, SMap.above] using hk
    · simpa [List.filter_cons, hp] using ih (SMap.wf_tail h) (SMap.above_head h (Nat.le_of_lt hk))

/-- Dropping entries keeps the canonical form. -/
theorem SMap.wf_filter (p : Nat × α → Bool) (t : SMap α) (h : t.wf = true) : SMap.wf (t.filter p) = true := by
  induction t with
  | nil => rfl
  | cons e t ih =>
    obtain ⟨a, v⟩ := e
    have ht := ih (SMap.wf_tail h)
    by_cases hp : p (a, v) = true
    · have h0 := h
      simp only [SMap.wf, Bool.and_eq_true] at h0
      simp only [List.filter_cons, hp, if_true, SMap.wf, Bool.and_eq_true]
      exact ⟨⟨h0.1.1, SMap.above_filter p t a (SMap.wf_tail h) h0.1.2⟩, ht⟩
    · simpa [List.filter_cons, hp] using ht

end Sys2Proof.Machine
end

