-- ==== Sys2Proof/Laws/State.lean ====
section
/-!
SUPPORT. What each named update of State leaves unchanged: one lemma per update and field, and what it does to its own field's
readers. So no later proof unfolds a record update.
-/

namespace Sys2Proof.Machine

variable (s : State)

/-! ### wr -/

@[simp] theorem State.wr_mem (a : Nat) (v : Word) : (s.wr a v).mem = s.mem := rfl
@[simp] theorem State.wr_shadow (a : Nat) (v : Word) : (s.wr a v).shadow = s.shadow := rfl
@[simp] theorem State.wr_epoch (a : Nat) (v : Word) : (s.wr a v).epoch = s.epoch := rfl
@[simp] theorem State.wr_draws (a : Nat) (v : Word) : (s.wr a v).draws = s.draws := rfl
@[simp] theorem State.wr_raised (a : Nat) (v : Word) : (s.wr a v).raised = s.raised := rfl
@[simp] theorem State.wr_resp (a : Nat) (v : Word) : (s.wr a v).resp = s.resp := rfl
@[simp] theorem State.wr_img (a : Nat) (v : Word) : (s.wr a v).img = s.img := rfl
@[simp] theorem State.wr_clk (a : Nat) (v : Word) : (s.wr a v).clk = s.clk := rfl
@[simp] theorem State.wr_ep (a : Nat) (v : Word) : (s.wr a v).ep = s.ep := rfl
@[simp] theorem State.wr_pwm (a : Nat) (v : Word) : (s.wr a v).pwm = s.pwm := rfl
@[simp] theorem State.wr_plinth (a : Nat) (v : Word) : (s.wr a v).plinth = s.plinth := rfl
@[simp] theorem State.wr_sens (a : Nat) (v : Word) : (s.wr a v).sens = s.sens := rfl
@[simp] theorem State.wr_wcmp (a : Nat) (v : Word) : (s.wr a v).wcmp = s.wcmp := rfl
@[simp] theorem State.wr_loop (a : Nat) (v : Word) : (s.wr a v).loop = s.loop := rfl
@[simp] theorem State.wr_drive (a : Nat) (v : Word) : (s.wr a v).drive = s.drive := rfl
@[simp] theorem State.wr_diag (a : Nat) (v : Word) : (s.wr a v).diag = s.diag := rfl
@[simp] theorem State.wr_grid (a : Nat) (v : Word) : (s.wr a v).grid = s.grid := rfl
@[simp] theorem State.wr_relay (a : Nat) (v : Word) : (s.wr a v).relay = s.relay := rfl
@[simp] theorem State.wr_meter (a : Nat) (v : Word) : (s.wr a v).meter = s.meter := rfl
@[simp] theorem State.wr_cur (a : Nat) (v : Word) : (s.wr a v).cur = s.cur := rfl
@[simp] theorem State.wr_pins (a : Nat) (v : Word) : (s.wr a v).pins = s.pins := rfl
@[simp] theorem State.wr_warden (a : Nat) (v : Word) : (s.wr a v).warden = s.warden := rfl
@[simp] theorem State.wr_sv (a : Nat) (v : Word) : (s.wr a v).sv = s.sv := rfl
@[simp] theorem State.wr_start (a : Nat) (v : Word) : (s.wr a v).start = s.start := rfl
@[simp] theorem State.wr_hok (a : Nat) (v : Word) : (s.wr a v).hok = s.hok := rfl
@[simp] theorem State.wr_cour (a : Nat) (v : Word) : (s.wr a v).cour = s.cour := rfl
@[simp] theorem State.wr_ecc (a : Nat) (v : Word) : (s.wr a v).ecc = s.ecc := rfl
@[simp] theorem State.wr_pending (a : Nat) (v : Word) : (s.wr a v).pending = s.pending := rfl

/-! ### put -/

@[simp] theorem State.put_mem (f : Fld) (v : Nat) : (s.put f v).mem = s.mem := rfl
@[simp] theorem State.put_shadow (f : Fld) (v : Nat) : (s.put f v).shadow = s.shadow := rfl
@[simp] theorem State.put_epoch (f : Fld) (v : Nat) : (s.put f v).epoch = s.epoch := rfl
@[simp] theorem State.put_draws (f : Fld) (v : Nat) : (s.put f v).draws = s.draws := rfl
@[simp] theorem State.put_raised (f : Fld) (v : Nat) : (s.put f v).raised = s.raised := rfl
@[simp] theorem State.put_resp (f : Fld) (v : Nat) : (s.put f v).resp = s.resp := rfl
@[simp] theorem State.put_img (f : Fld) (v : Nat) : (s.put f v).img = s.img := rfl
@[simp] theorem State.put_clk (f : Fld) (v : Nat) : (s.put f v).clk = s.clk := rfl
@[simp] theorem State.put_ep (f : Fld) (v : Nat) : (s.put f v).ep = s.ep := rfl
@[simp] theorem State.put_pwm (f : Fld) (v : Nat) : (s.put f v).pwm = s.pwm := rfl
@[simp] theorem State.put_plinth (f : Fld) (v : Nat) : (s.put f v).plinth = s.plinth := rfl
@[simp] theorem State.put_sens (f : Fld) (v : Nat) : (s.put f v).sens = s.sens := rfl
@[simp] theorem State.put_wcmp (f : Fld) (v : Nat) : (s.put f v).wcmp = s.wcmp := rfl
@[simp] theorem State.put_loop (f : Fld) (v : Nat) : (s.put f v).loop = s.loop := rfl
@[simp] theorem State.put_drive (f : Fld) (v : Nat) : (s.put f v).drive = s.drive := rfl
@[simp] theorem State.put_diag (f : Fld) (v : Nat) : (s.put f v).diag = s.diag := rfl
@[simp] theorem State.put_grid (f : Fld) (v : Nat) : (s.put f v).grid = s.grid := rfl
@[simp] theorem State.put_relay (f : Fld) (v : Nat) : (s.put f v).relay = s.relay := rfl
@[simp] theorem State.put_meter (f : Fld) (v : Nat) : (s.put f v).meter = s.meter := rfl
@[simp] theorem State.put_cur (f : Fld) (v : Nat) : (s.put f v).cur = s.cur := rfl
@[simp] theorem State.put_pins (f : Fld) (v : Nat) : (s.put f v).pins = s.pins := rfl
@[simp] theorem State.put_warden (f : Fld) (v : Nat) : (s.put f v).warden = s.warden := rfl
@[simp] theorem State.put_sv (f : Fld) (v : Nat) : (s.put f v).sv = s.sv := rfl
@[simp] theorem State.put_start (f : Fld) (v : Nat) : (s.put f v).start = s.start := rfl
@[simp] theorem State.put_hok (f : Fld) (v : Nat) : (s.put f v).hok = s.hok := rfl
@[simp] theorem State.put_cour (f : Fld) (v : Nat) : (s.put f v).cour = s.cour := rfl
@[simp] theorem State.put_ecc (f : Fld) (v : Nat) : (s.put f v).ecc = s.ecc := rfl
@[simp] theorem State.put_pending (f : Fld) (v : Nat) : (s.put f v).pending = s.pending := rfl

/-! ### set1 -/

@[simp] theorem State.set1_mem (f : Fld) : (s.set1 f).mem = s.mem := rfl
@[simp] theorem State.set1_shadow (f : Fld) : (s.set1 f).shadow = s.shadow := rfl
@[simp] theorem State.set1_epoch (f : Fld) : (s.set1 f).epoch = s.epoch := rfl
@[simp] theorem State.set1_draws (f : Fld) : (s.set1 f).draws = s.draws := rfl
@[simp] theorem State.set1_raised (f : Fld) : (s.set1 f).raised = s.raised := rfl
@[simp] theorem State.set1_resp (f : Fld) : (s.set1 f).resp = s.resp := rfl
@[simp] theorem State.set1_img (f : Fld) : (s.set1 f).img = s.img := rfl
@[simp] theorem State.set1_clk (f : Fld) : (s.set1 f).clk = s.clk := rfl
@[simp] theorem State.set1_ep (f : Fld) : (s.set1 f).ep = s.ep := rfl
@[simp] theorem State.set1_pwm (f : Fld) : (s.set1 f).pwm = s.pwm := rfl
@[simp] theorem State.set1_plinth (f : Fld) : (s.set1 f).plinth = s.plinth := rfl
@[simp] theorem State.set1_sens (f : Fld) : (s.set1 f).sens = s.sens := rfl
@[simp] theorem State.set1_wcmp (f : Fld) : (s.set1 f).wcmp = s.wcmp := rfl
@[simp] theorem State.set1_loop (f : Fld) : (s.set1 f).loop = s.loop := rfl
@[simp] theorem State.set1_drive (f : Fld) : (s.set1 f).drive = s.drive := rfl
@[simp] theorem State.set1_diag (f : Fld) : (s.set1 f).diag = s.diag := rfl
@[simp] theorem State.set1_grid (f : Fld) : (s.set1 f).grid = s.grid := rfl
@[simp] theorem State.set1_relay (f : Fld) : (s.set1 f).relay = s.relay := rfl
@[simp] theorem State.set1_meter (f : Fld) : (s.set1 f).meter = s.meter := rfl
@[simp] theorem State.set1_cur (f : Fld) : (s.set1 f).cur = s.cur := rfl
@[simp] theorem State.set1_pins (f : Fld) : (s.set1 f).pins = s.pins := rfl
@[simp] theorem State.set1_warden (f : Fld) : (s.set1 f).warden = s.warden := rfl
@[simp] theorem State.set1_sv (f : Fld) : (s.set1 f).sv = s.sv := rfl
@[simp] theorem State.set1_start (f : Fld) : (s.set1 f).start = s.start := rfl
@[simp] theorem State.set1_hok (f : Fld) : (s.set1 f).hok = s.hok := rfl
@[simp] theorem State.set1_cour (f : Fld) : (s.set1 f).cour = s.cour := rfl
@[simp] theorem State.set1_ecc (f : Fld) : (s.set1 f).ecc = s.ecc := rfl
@[simp] theorem State.set1_pending (f : Fld) : (s.set1 f).pending = s.pending := rfl

/-! ### clr -/

@[simp] theorem State.clr_mem (f : Fld) : (s.clr f).mem = s.mem := rfl
@[simp] theorem State.clr_shadow (f : Fld) : (s.clr f).shadow = s.shadow := rfl
@[simp] theorem State.clr_epoch (f : Fld) : (s.clr f).epoch = s.epoch := rfl
@[simp] theorem State.clr_draws (f : Fld) : (s.clr f).draws = s.draws := rfl
@[simp] theorem State.clr_raised (f : Fld) : (s.clr f).raised = s.raised := rfl
@[simp] theorem State.clr_resp (f : Fld) : (s.clr f).resp = s.resp := rfl
@[simp] theorem State.clr_img (f : Fld) : (s.clr f).img = s.img := rfl
@[simp] theorem State.clr_clk (f : Fld) : (s.clr f).clk = s.clk := rfl
@[simp] theorem State.clr_ep (f : Fld) : (s.clr f).ep = s.ep := rfl
@[simp] theorem State.clr_pwm (f : Fld) : (s.clr f).pwm = s.pwm := rfl
@[simp] theorem State.clr_plinth (f : Fld) : (s.clr f).plinth = s.plinth := rfl
@[simp] theorem State.clr_sens (f : Fld) : (s.clr f).sens = s.sens := rfl
@[simp] theorem State.clr_wcmp (f : Fld) : (s.clr f).wcmp = s.wcmp := rfl
@[simp] theorem State.clr_loop (f : Fld) : (s.clr f).loop = s.loop := rfl
@[simp] theorem State.clr_drive (f : Fld) : (s.clr f).drive = s.drive := rfl
@[simp] theorem State.clr_diag (f : Fld) : (s.clr f).diag = s.diag := rfl
@[simp] theorem State.clr_grid (f : Fld) : (s.clr f).grid = s.grid := rfl
@[simp] theorem State.clr_relay (f : Fld) : (s.clr f).relay = s.relay := rfl
@[simp] theorem State.clr_meter (f : Fld) : (s.clr f).meter = s.meter := rfl
@[simp] theorem State.clr_cur (f : Fld) : (s.clr f).cur = s.cur := rfl
@[simp] theorem State.clr_pins (f : Fld) : (s.clr f).pins = s.pins := rfl
@[simp] theorem State.clr_warden (f : Fld) : (s.clr f).warden = s.warden := rfl
@[simp] theorem State.clr_sv (f : Fld) : (s.clr f).sv = s.sv := rfl
@[simp] theorem State.clr_start (f : Fld) : (s.clr f).start = s.start := rfl
@[simp] theorem State.clr_hok (f : Fld) : (s.clr f).hok = s.hok := rfl
@[simp] theorem State.clr_cour (f : Fld) : (s.clr f).cour = s.cour := rfl
@[simp] theorem State.clr_ecc (f : Fld) : (s.clr f).ecc = s.ecc := rfl
@[simp] theorem State.clr_pending (f : Fld) : (s.clr f).pending = s.pending := rfl

/-! ### putS -/

@[simp] theorem State.putS_mem (f : Fld) (v : Int) : (s.putS f v).mem = s.mem := rfl
@[simp] theorem State.putS_shadow (f : Fld) (v : Int) : (s.putS f v).shadow = s.shadow := rfl
@[simp] theorem State.putS_epoch (f : Fld) (v : Int) : (s.putS f v).epoch = s.epoch := rfl
@[simp] theorem State.putS_draws (f : Fld) (v : Int) : (s.putS f v).draws = s.draws := rfl
@[simp] theorem State.putS_raised (f : Fld) (v : Int) : (s.putS f v).raised = s.raised := rfl
@[simp] theorem State.putS_resp (f : Fld) (v : Int) : (s.putS f v).resp = s.resp := rfl
@[simp] theorem State.putS_img (f : Fld) (v : Int) : (s.putS f v).img = s.img := rfl
@[simp] theorem State.putS_clk (f : Fld) (v : Int) : (s.putS f v).clk = s.clk := rfl
@[simp] theorem State.putS_ep (f : Fld) (v : Int) : (s.putS f v).ep = s.ep := rfl
@[simp] theorem State.putS_pwm (f : Fld) (v : Int) : (s.putS f v).pwm = s.pwm := rfl
@[simp] theorem State.putS_plinth (f : Fld) (v : Int) : (s.putS f v).plinth = s.plinth := rfl
@[simp] theorem State.putS_sens (f : Fld) (v : Int) : (s.putS f v).sens = s.sens := rfl
@[simp] theorem State.putS_wcmp (f : Fld) (v : Int) : (s.putS f v).wcmp = s.wcmp := rfl
@[simp] theorem State.putS_loop (f : Fld) (v : Int) : (s.putS f v).loop = s.loop := rfl
@[simp] theorem State.putS_drive (f : Fld) (v : Int) : (s.putS f v).drive = s.drive := rfl
@[simp] theorem State.putS_diag (f : Fld) (v : Int) : (s.putS f v).diag = s.diag := rfl
@[simp] theorem State.putS_grid (f : Fld) (v : Int) : (s.putS f v).grid = s.grid := rfl
@[simp] theorem State.putS_relay (f : Fld) (v : Int) : (s.putS f v).relay = s.relay := rfl
@[simp] theorem State.putS_meter (f : Fld) (v : Int) : (s.putS f v).meter = s.meter := rfl
@[simp] theorem State.putS_cur (f : Fld) (v : Int) : (s.putS f v).cur = s.cur := rfl
@[simp] theorem State.putS_pins (f : Fld) (v : Int) : (s.putS f v).pins = s.pins := rfl
@[simp] theorem State.putS_warden (f : Fld) (v : Int) : (s.putS f v).warden = s.warden := rfl
@[simp] theorem State.putS_sv (f : Fld) (v : Int) : (s.putS f v).sv = s.sv := rfl
@[simp] theorem State.putS_start (f : Fld) (v : Int) : (s.putS f v).start = s.start := rfl
@[simp] theorem State.putS_hok (f : Fld) (v : Int) : (s.putS f v).hok = s.hok := rfl
@[simp] theorem State.putS_cour (f : Fld) (v : Int) : (s.putS f v).cour = s.cour := rfl
@[simp] theorem State.putS_ecc (f : Fld) (v : Int) : (s.putS f v).ecc = s.ecc := rfl
@[simp] theorem State.putS_pending (f : Fld) (v : Int) : (s.putS f v).pending = s.pending := rfl

/-! ### incSat -/

@[simp] theorem State.incSat_mem (f : Fld) : (s.incSat f).mem = s.mem := rfl
@[simp] theorem State.incSat_shadow (f : Fld) : (s.incSat f).shadow = s.shadow := rfl
@[simp] theorem State.incSat_epoch (f : Fld) : (s.incSat f).epoch = s.epoch := rfl
@[simp] theorem State.incSat_draws (f : Fld) : (s.incSat f).draws = s.draws := rfl
@[simp] theorem State.incSat_raised (f : Fld) : (s.incSat f).raised = s.raised := rfl
@[simp] theorem State.incSat_resp (f : Fld) : (s.incSat f).resp = s.resp := rfl
@[simp] theorem State.incSat_img (f : Fld) : (s.incSat f).img = s.img := rfl
@[simp] theorem State.incSat_clk (f : Fld) : (s.incSat f).clk = s.clk := rfl
@[simp] theorem State.incSat_ep (f : Fld) : (s.incSat f).ep = s.ep := rfl
@[simp] theorem State.incSat_pwm (f : Fld) : (s.incSat f).pwm = s.pwm := rfl
@[simp] theorem State.incSat_plinth (f : Fld) : (s.incSat f).plinth = s.plinth := rfl
@[simp] theorem State.incSat_sens (f : Fld) : (s.incSat f).sens = s.sens := rfl
@[simp] theorem State.incSat_wcmp (f : Fld) : (s.incSat f).wcmp = s.wcmp := rfl
@[simp] theorem State.incSat_loop (f : Fld) : (s.incSat f).loop = s.loop := rfl
@[simp] theorem State.incSat_drive (f : Fld) : (s.incSat f).drive = s.drive := rfl
@[simp] theorem State.incSat_diag (f : Fld) : (s.incSat f).diag = s.diag := rfl
@[simp] theorem State.incSat_grid (f : Fld) : (s.incSat f).grid = s.grid := rfl
@[simp] theorem State.incSat_relay (f : Fld) : (s.incSat f).relay = s.relay := rfl
@[simp] theorem State.incSat_meter (f : Fld) : (s.incSat f).meter = s.meter := rfl
@[simp] theorem State.incSat_cur (f : Fld) : (s.incSat f).cur = s.cur := rfl
@[simp] theorem State.incSat_pins (f : Fld) : (s.incSat f).pins = s.pins := rfl
@[simp] theorem State.incSat_warden (f : Fld) : (s.incSat f).warden = s.warden := rfl
@[simp] theorem State.incSat_sv (f : Fld) : (s.incSat f).sv = s.sv := rfl
@[simp] theorem State.incSat_start (f : Fld) : (s.incSat f).start = s.start := rfl
@[simp] theorem State.incSat_hok (f : Fld) : (s.incSat f).hok = s.hok := rfl
@[simp] theorem State.incSat_cour (f : Fld) : (s.incSat f).cour = s.cour := rfl
@[simp] theorem State.incSat_ecc (f : Fld) : (s.incSat f).ecc = s.ecc := rfl
@[simp] theorem State.incSat_pending (f : Fld) : (s.incSat f).pending = s.pending := rfl

/-! ### incWrap -/

@[simp] theorem State.incWrap_mem (f : Fld) : (s.incWrap f).mem = s.mem := rfl
@[simp] theorem State.incWrap_shadow (f : Fld) : (s.incWrap f).shadow = s.shadow := rfl
@[simp] theorem State.incWrap_epoch (f : Fld) : (s.incWrap f).epoch = s.epoch := rfl
@[simp] theorem State.incWrap_draws (f : Fld) : (s.incWrap f).draws = s.draws := rfl
@[simp] theorem State.incWrap_raised (f : Fld) : (s.incWrap f).raised = s.raised := rfl
@[simp] theorem State.incWrap_resp (f : Fld) : (s.incWrap f).resp = s.resp := rfl
@[simp] theorem State.incWrap_img (f : Fld) : (s.incWrap f).img = s.img := rfl
@[simp] theorem State.incWrap_clk (f : Fld) : (s.incWrap f).clk = s.clk := rfl
@[simp] theorem State.incWrap_ep (f : Fld) : (s.incWrap f).ep = s.ep := rfl
@[simp] theorem State.incWrap_pwm (f : Fld) : (s.incWrap f).pwm = s.pwm := rfl
@[simp] theorem State.incWrap_plinth (f : Fld) : (s.incWrap f).plinth = s.plinth := rfl
@[simp] theorem State.incWrap_sens (f : Fld) : (s.incWrap f).sens = s.sens := rfl
@[simp] theorem State.incWrap_wcmp (f : Fld) : (s.incWrap f).wcmp = s.wcmp := rfl
@[simp] theorem State.incWrap_loop (f : Fld) : (s.incWrap f).loop = s.loop := rfl
@[simp] theorem State.incWrap_drive (f : Fld) : (s.incWrap f).drive = s.drive := rfl
@[simp] theorem State.incWrap_diag (f : Fld) : (s.incWrap f).diag = s.diag := rfl
@[simp] theorem State.incWrap_grid (f : Fld) : (s.incWrap f).grid = s.grid := rfl
@[simp] theorem State.incWrap_relay (f : Fld) : (s.incWrap f).relay = s.relay := rfl
@[simp] theorem State.incWrap_meter (f : Fld) : (s.incWrap f).meter = s.meter := rfl
@[simp] theorem State.incWrap_cur (f : Fld) : (s.incWrap f).cur = s.cur := rfl
@[simp] theorem State.incWrap_pins (f : Fld) : (s.incWrap f).pins = s.pins := rfl
@[simp] theorem State.incWrap_warden (f : Fld) : (s.incWrap f).warden = s.warden := rfl
@[simp] theorem State.incWrap_sv (f : Fld) : (s.incWrap f).sv = s.sv := rfl
@[simp] theorem State.incWrap_start (f : Fld) : (s.incWrap f).start = s.start := rfl
@[simp] theorem State.incWrap_hok (f : Fld) : (s.incWrap f).hok = s.hok := rfl
@[simp] theorem State.incWrap_cour (f : Fld) : (s.incWrap f).cour = s.cour := rfl
@[simp] theorem State.incWrap_ecc (f : Fld) : (s.incWrap f).ecc = s.ecc := rfl
@[simp] theorem State.incWrap_pending (f : Fld) : (s.incWrap f).pending = s.pending := rfl

/-! ### wrB -/

@[simp] theorem State.wrB_regs (a : Nat) (v : Byte) : (s.wrB a v).regs = s.regs := rfl
@[simp] theorem State.wrB_shadow (a : Nat) (v : Byte) : (s.wrB a v).shadow = s.shadow := rfl
@[simp] theorem State.wrB_epoch (a : Nat) (v : Byte) : (s.wrB a v).epoch = s.epoch := rfl
@[simp] theorem State.wrB_draws (a : Nat) (v : Byte) : (s.wrB a v).draws = s.draws := rfl
@[simp] theorem State.wrB_raised (a : Nat) (v : Byte) : (s.wrB a v).raised = s.raised := rfl
@[simp] theorem State.wrB_resp (a : Nat) (v : Byte) : (s.wrB a v).resp = s.resp := rfl
@[simp] theorem State.wrB_img (a : Nat) (v : Byte) : (s.wrB a v).img = s.img := rfl
@[simp] theorem State.wrB_clk (a : Nat) (v : Byte) : (s.wrB a v).clk = s.clk := rfl
@[simp] theorem State.wrB_ep (a : Nat) (v : Byte) : (s.wrB a v).ep = s.ep := rfl
@[simp] theorem State.wrB_pwm (a : Nat) (v : Byte) : (s.wrB a v).pwm = s.pwm := rfl
@[simp] theorem State.wrB_plinth (a : Nat) (v : Byte) : (s.wrB a v).plinth = s.plinth := rfl
@[simp] theorem State.wrB_sens (a : Nat) (v : Byte) : (s.wrB a v).sens = s.sens := rfl
@[simp] theorem State.wrB_wcmp (a : Nat) (v : Byte) : (s.wrB a v).wcmp = s.wcmp := rfl
@[simp] theorem State.wrB_loop (a : Nat) (v : Byte) : (s.wrB a v).loop = s.loop := rfl
@[simp] theorem State.wrB_drive (a : Nat) (v : Byte) : (s.wrB a v).drive = s.drive := rfl
@[simp] theorem State.wrB_diag (a : Nat) (v : Byte) : (s.wrB a v).diag = s.diag := rfl
@[simp] theorem State.wrB_grid (a : Nat) (v : Byte) : (s.wrB a v).grid = s.grid := rfl
@[simp] theorem State.wrB_relay (a : Nat) (v : Byte) : (s.wrB a v).relay = s.relay := rfl
@[simp] theorem State.wrB_meter (a : Nat) (v : Byte) : (s.wrB a v).meter = s.meter := rfl
@[simp] theorem State.wrB_cur (a : Nat) (v : Byte) : (s.wrB a v).cur = s.cur := rfl
@[simp] theorem State.wrB_pins (a : Nat) (v : Byte) : (s.wrB a v).pins = s.pins := rfl
@[simp] theorem State.wrB_warden (a : Nat) (v : Byte) : (s.wrB a v).warden = s.warden := rfl
@[simp] theorem State.wrB_sv (a : Nat) (v : Byte) : (s.wrB a v).sv = s.sv := rfl
@[simp] theorem State.wrB_start (a : Nat) (v : Byte) : (s.wrB a v).start = s.start := rfl
@[simp] theorem State.wrB_hok (a : Nat) (v : Byte) : (s.wrB a v).hok = s.hok := rfl
@[simp] theorem State.wrB_cour (a : Nat) (v : Byte) : (s.wrB a v).cour = s.cour := rfl
@[simp] theorem State.wrB_pending (a : Nat) (v : Byte) : (s.wrB a v).pending = s.pending := rfl
@[simp] theorem State.wrB_rd (a : Nat) (v : Byte) (y : Nat) : (s.wrB a v).rd y = s.rd y := rfl
@[simp] theorem State.wrB_get (a : Nat) (v : Byte) (y : Fld) : (s.wrB a v).get y = s.get y := rfl
@[simp] theorem State.wrB_flag (a : Nat) (v : Byte) (y : Fld) : (s.wrB a v).flag y = s.flag y := rfl
@[simp] theorem State.wrB_getS (a : Nat) (v : Byte) (y : Fld) : (s.wrB a v).getS y = s.getS y := rfl

/-! ### drew -/

@[simp] theorem State.drew_regs : (s.drew).regs = s.regs := rfl
@[simp] theorem State.drew_mem : (s.drew).mem = s.mem := rfl
@[simp] theorem State.drew_shadow : (s.drew).shadow = s.shadow := rfl
@[simp] theorem State.drew_epoch : (s.drew).epoch = s.epoch := rfl
@[simp] theorem State.drew_raised : (s.drew).raised = s.raised := rfl
@[simp] theorem State.drew_resp : (s.drew).resp = s.resp := rfl
@[simp] theorem State.drew_img : (s.drew).img = s.img := rfl
@[simp] theorem State.drew_clk : (s.drew).clk = s.clk := rfl
@[simp] theorem State.drew_ep : (s.drew).ep = s.ep := rfl
@[simp] theorem State.drew_pwm : (s.drew).pwm = s.pwm := rfl
@[simp] theorem State.drew_plinth : (s.drew).plinth = s.plinth := rfl
@[simp] theorem State.drew_sens : (s.drew).sens = s.sens := rfl
@[simp] theorem State.drew_wcmp : (s.drew).wcmp = s.wcmp := rfl
@[simp] theorem State.drew_loop : (s.drew).loop = s.loop := rfl
@[simp] theorem State.drew_drive : (s.drew).drive = s.drive := rfl
@[simp] theorem State.drew_diag : (s.drew).diag = s.diag := rfl
@[simp] theorem State.drew_grid : (s.drew).grid = s.grid := rfl
@[simp] theorem State.drew_relay : (s.drew).relay = s.relay := rfl
@[simp] theorem State.drew_meter : (s.drew).meter = s.meter := rfl
@[simp] theorem State.drew_cur : (s.drew).cur = s.cur := rfl
@[simp] theorem State.drew_pins : (s.drew).pins = s.pins := rfl
@[simp] theorem State.drew_warden : (s.drew).warden = s.warden := rfl
@[simp] theorem State.drew_sv : (s.drew).sv = s.sv := rfl
@[simp] theorem State.drew_start : (s.drew).start = s.start := rfl
@[simp] theorem State.drew_hok : (s.drew).hok = s.hok := rfl
@[simp] theorem State.drew_cour : (s.drew).cour = s.cour := rfl
@[simp] theorem State.drew_ecc : (s.drew).ecc = s.ecc := rfl
@[simp] theorem State.drew_pending : (s.drew).pending = s.pending := rfl
@[simp] theorem State.drew_rd (y : Nat) : (s.drew).rd y = s.rd y := rfl
@[simp] theorem State.drew_get (y : Fld) : (s.drew).get y = s.get y := rfl
@[simp] theorem State.drew_flag (y : Fld) : (s.drew).flag y = s.flag y := rfl
@[simp] theorem State.drew_getS (y : Fld) : (s.drew).getS y = s.getS y := rfl

/-! ### drewN -/

@[simp] theorem State.drewN_regs (n : Nat) : (s.drewN n).regs = s.regs := rfl
@[simp] theorem State.drewN_mem (n : Nat) : (s.drewN n).mem = s.mem := rfl
@[simp] theorem State.drewN_shadow (n : Nat) : (s.drewN n).shadow = s.shadow := rfl
@[simp] theorem State.drewN_epoch (n : Nat) : (s.drewN n).epoch = s.epoch := rfl
@[simp] theorem State.drewN_raised (n : Nat) : (s.drewN n).raised = s.raised := rfl
@[simp] theorem State.drewN_resp (n : Nat) : (s.drewN n).resp = s.resp := rfl
@[simp] theorem State.drewN_img (n : Nat) : (s.drewN n).img = s.img := rfl
@[simp] theorem State.drewN_clk (n : Nat) : (s.drewN n).clk = s.clk := rfl
@[simp] theorem State.drewN_ep (n : Nat) : (s.drewN n).ep = s.ep := rfl
@[simp] theorem State.drewN_pwm (n : Nat) : (s.drewN n).pwm = s.pwm := rfl
@[simp] theorem State.drewN_plinth (n : Nat) : (s.drewN n).plinth = s.plinth := rfl
@[simp] theorem State.drewN_sens (n : Nat) : (s.drewN n).sens = s.sens := rfl
@[simp] theorem State.drewN_wcmp (n : Nat) : (s.drewN n).wcmp = s.wcmp := rfl
@[simp] theorem State.drewN_loop (n : Nat) : (s.drewN n).loop = s.loop := rfl
@[simp] theorem State.drewN_drive (n : Nat) : (s.drewN n).drive = s.drive := rfl
@[simp] theorem State.drewN_diag (n : Nat) : (s.drewN n).diag = s.diag := rfl
@[simp] theorem State.drewN_grid (n : Nat) : (s.drewN n).grid = s.grid := rfl
@[simp] theorem State.drewN_relay (n : Nat) : (s.drewN n).relay = s.relay := rfl
@[simp] theorem State.drewN_meter (n : Nat) : (s.drewN n).meter = s.meter := rfl
@[simp] theorem State.drewN_cur (n : Nat) : (s.drewN n).cur = s.cur := rfl
@[simp] theorem State.drewN_pins (n : Nat) : (s.drewN n).pins = s.pins := rfl
@[simp] theorem State.drewN_warden (n : Nat) : (s.drewN n).warden = s.warden := rfl
@[simp] theorem State.drewN_sv (n : Nat) : (s.drewN n).sv = s.sv := rfl
@[simp] theorem State.drewN_start (n : Nat) : (s.drewN n).start = s.start := rfl
@[simp] theorem State.drewN_hok (n : Nat) : (s.drewN n).hok = s.hok := rfl
@[simp] theorem State.drewN_cour (n : Nat) : (s.drewN n).cour = s.cour := rfl
@[simp] theorem State.drewN_ecc (n : Nat) : (s.drewN n).ecc = s.ecc := rfl
@[simp] theorem State.drewN_pending (n : Nat) : (s.drewN n).pending = s.pending := rfl
@[simp] theorem State.drewN_rd (n : Nat) (y : Nat) : (s.drewN n).rd y = s.rd y := rfl
@[simp] theorem State.drewN_get (n : Nat) (y : Fld) : (s.drewN n).get y = s.get y := rfl
@[simp] theorem State.drewN_flag (n : Nat) (y : Fld) : (s.drewN n).flag y = s.flag y := rfl
@[simp] theorem State.drewN_getS (n : Nat) (y : Fld) : (s.drewN n).getS y = s.getS y := rfl

/-! ### raiseAt -/

@[simp] theorem State.raiseAt_regs (n i : Nat) : (s.raiseAt n i).regs = s.regs := rfl
@[simp] theorem State.raiseAt_mem (n i : Nat) : (s.raiseAt n i).mem = s.mem := rfl
@[simp] theorem State.raiseAt_shadow (n i : Nat) : (s.raiseAt n i).shadow = s.shadow := rfl
@[simp] theorem State.raiseAt_epoch (n i : Nat) : (s.raiseAt n i).epoch = s.epoch := rfl
@[simp] theorem State.raiseAt_draws (n i : Nat) : (s.raiseAt n i).draws = s.draws := rfl
@[simp] theorem State.raiseAt_resp (n i : Nat) : (s.raiseAt n i).resp = s.resp := rfl
@[simp] theorem State.raiseAt_img (n i : Nat) : (s.raiseAt n i).img = s.img := rfl
@[simp] theorem State.raiseAt_clk (n i : Nat) : (s.raiseAt n i).clk = s.clk := rfl
@[simp] theorem State.raiseAt_ep (n i : Nat) : (s.raiseAt n i).ep = s.ep := rfl
@[simp] theorem State.raiseAt_pwm (n i : Nat) : (s.raiseAt n i).pwm = s.pwm := rfl
@[simp] theorem State.raiseAt_plinth (n i : Nat) : (s.raiseAt n i).plinth = s.plinth := rfl
@[simp] theorem State.raiseAt_sens (n i : Nat) : (s.raiseAt n i).sens = s.sens := rfl
@[simp] theorem State.raiseAt_wcmp (n i : Nat) : (s.raiseAt n i).wcmp = s.wcmp := rfl
@[simp] theorem State.raiseAt_loop (n i : Nat) : (s.raiseAt n i).loop = s.loop := rfl
@[simp] theorem State.raiseAt_drive (n i : Nat) : (s.raiseAt n i).drive = s.drive := rfl
@[simp] theorem State.raiseAt_diag (n i : Nat) : (s.raiseAt n i).diag = s.diag := rfl
@[simp] theorem State.raiseAt_grid (n i : Nat) : (s.raiseAt n i).grid = s.grid := rfl
@[simp] theorem State.raiseAt_relay (n i : Nat) : (s.raiseAt n i).relay = s.relay := rfl
@[simp] theorem State.raiseAt_meter (n i : Nat) : (s.raiseAt n i).meter = s.meter := rfl
@[simp] theorem State.raiseAt_cur (n i : Nat) : (s.raiseAt n i).cur = s.cur := rfl
@[simp] theorem State.raiseAt_pins (n i : Nat) : (s.raiseAt n i).pins = s.pins := rfl
@[simp] theorem State.raiseAt_warden (n i : Nat) : (s.raiseAt n i).warden = s.warden := rfl
@[simp] theorem State.raiseAt_sv (n i : Nat) : (s.raiseAt n i).sv = s.sv := rfl
@[simp] theorem State.raiseAt_start (n i : Nat) : (s.raiseAt n i).start = s.start := rfl
@[simp] theorem State.raiseAt_hok (n i : Nat) : (s.raiseAt n i).hok = s.hok := rfl
@[simp] theorem State.raiseAt_cour (n i : Nat) : (s.raiseAt n i).cour = s.cour := rfl
@[simp] theorem State.raiseAt_ecc (n i : Nat) : (s.raiseAt n i).ecc = s.ecc := rfl
@[simp] theorem State.raiseAt_pending (n i : Nat) : (s.raiseAt n i).pending = s.pending := rfl
@[simp] theorem State.raiseAt_rd (n i : Nat) (y : Nat) : (s.raiseAt n i).rd y = s.rd y := rfl
@[simp] theorem State.raiseAt_get (n i : Nat) (y : Fld) : (s.raiseAt n i).get y = s.get y := rfl
@[simp] theorem State.raiseAt_flag (n i : Nat) (y : Fld) : (s.raiseAt n i).flag y = s.flag y := rfl
@[simp] theorem State.raiseAt_getS (n i : Nat) (y : Fld) : (s.raiseAt n i).getS y = s.getS y := rfl

/-! ### answer -/

@[simp] theorem State.answer_regs (v : Word) : (s.answer v).regs = s.regs := rfl
@[simp] theorem State.answer_mem (v : Word) : (s.answer v).mem = s.mem := rfl
@[simp] theorem State.answer_shadow (v : Word) : (s.answer v).shadow = s.shadow := rfl
@[simp] theorem State.answer_epoch (v : Word) : (s.answer v).epoch = s.epoch := rfl
@[simp] theorem State.answer_draws (v : Word) : (s.answer v).draws = s.draws := rfl
@[simp] theorem State.answer_raised (v : Word) : (s.answer v).raised = s.raised := rfl
@[simp] theorem State.answer_img (v : Word) : (s.answer v).img = s.img := rfl
@[simp] theorem State.answer_clk (v : Word) : (s.answer v).clk = s.clk := rfl
@[simp] theorem State.answer_ep (v : Word) : (s.answer v).ep = s.ep := rfl
@[simp] theorem State.answer_pwm (v : Word) : (s.answer v).pwm = s.pwm := rfl
@[simp] theorem State.answer_plinth (v : Word) : (s.answer v).plinth = s.plinth := rfl
@[simp] theorem State.answer_sens (v : Word) : (s.answer v).sens = s.sens := rfl
@[simp] theorem State.answer_wcmp (v : Word) : (s.answer v).wcmp = s.wcmp := rfl
@[simp] theorem State.answer_loop (v : Word) : (s.answer v).loop = s.loop := rfl
@[simp] theorem State.answer_drive (v : Word) : (s.answer v).drive = s.drive := rfl
@[simp] theorem State.answer_diag (v : Word) : (s.answer v).diag = s.diag := rfl
@[simp] theorem State.answer_grid (v : Word) : (s.answer v).grid = s.grid := rfl
@[simp] theorem State.answer_relay (v : Word) : (s.answer v).relay = s.relay := rfl
@[simp] theorem State.answer_meter (v : Word) : (s.answer v).meter = s.meter := rfl
@[simp] theorem State.answer_cur (v : Word) : (s.answer v).cur = s.cur := rfl
@[simp] theorem State.answer_pins (v : Word) : (s.answer v).pins = s.pins := rfl
@[simp] theorem State.answer_warden (v : Word) : (s.answer v).warden = s.warden := rfl
@[simp] theorem State.answer_sv (v : Word) : (s.answer v).sv = s.sv := rfl
@[simp] theorem State.answer_start (v : Word) : (s.answer v).start = s.start := rfl
@[simp] theorem State.answer_hok (v : Word) : (s.answer v).hok = s.hok := rfl
@[simp] theorem State.answer_cour (v : Word) : (s.answer v).cour = s.cour := rfl
@[simp] theorem State.answer_ecc (v : Word) : (s.answer v).ecc = s.ecc := rfl
@[simp] theorem State.answer_pending (v : Word) : (s.answer v).pending = s.pending := rfl
@[simp] theorem State.answer_rd (v : Word) (y : Nat) : (s.answer v).rd y = s.rd y := rfl
@[simp] theorem State.answer_get (v : Word) (y : Fld) : (s.answer v).get y = s.get y := rfl
@[simp] theorem State.answer_flag (v : Word) (y : Fld) : (s.answer v).flag y = s.flag y := rfl
@[simp] theorem State.answer_getS (v : Word) (y : Fld) : (s.answer v).getS y = s.getS y := rfl

/-! ### modSv -/

@[simp] theorem State.modSv_regs (f : SvState → SvState) : (s.modSv f).regs = s.regs := rfl
@[simp] theorem State.modSv_mem (f : SvState → SvState) : (s.modSv f).mem = s.mem := rfl
@[simp] theorem State.modSv_shadow (f : SvState → SvState) : (s.modSv f).shadow = s.shadow := rfl
@[simp] theorem State.modSv_epoch (f : SvState → SvState) : (s.modSv f).epoch = s.epoch := rfl
@[simp] theorem State.modSv_draws (f : SvState → SvState) : (s.modSv f).draws = s.draws := rfl
@[simp] theorem State.modSv_raised (f : SvState → SvState) : (s.modSv f).raised = s.raised := rfl
@[simp] theorem State.modSv_resp (f : SvState → SvState) : (s.modSv f).resp = s.resp := rfl
@[simp] theorem State.modSv_img (f : SvState → SvState) : (s.modSv f).img = s.img := rfl
@[simp] theorem State.modSv_clk (f : SvState → SvState) : (s.modSv f).clk = s.clk := rfl
@[simp] theorem State.modSv_ep (f : SvState → SvState) : (s.modSv f).ep = s.ep := rfl
@[simp] theorem State.modSv_pwm (f : SvState → SvState) : (s.modSv f).pwm = s.pwm := rfl
@[simp] theorem State.modSv_plinth (f : SvState → SvState) : (s.modSv f).plinth = s.plinth := rfl
@[simp] theorem State.modSv_sens (f : SvState → SvState) : (s.modSv f).sens = s.sens := rfl
@[simp] theorem State.modSv_wcmp (f : SvState → SvState) : (s.modSv f).wcmp = s.wcmp := rfl
@[simp] theorem State.modSv_loop (f : SvState → SvState) : (s.modSv f).loop = s.loop := rfl
@[simp] theorem State.modSv_drive (f : SvState → SvState) : (s.modSv f).drive = s.drive := rfl
@[simp] theorem State.modSv_diag (f : SvState → SvState) : (s.modSv f).diag = s.diag := rfl
@[simp] theorem State.modSv_grid (f : SvState → SvState) : (s.modSv f).grid = s.grid := rfl
@[simp] theorem State.modSv_relay (f : SvState → SvState) : (s.modSv f).relay = s.relay := rfl
@[simp] theorem State.modSv_meter (f : SvState → SvState) : (s.modSv f).meter = s.meter := rfl
@[simp] theorem State.modSv_cur (f : SvState → SvState) : (s.modSv f).cur = s.cur := rfl
@[simp] theorem State.modSv_pins (f : SvState → SvState) : (s.modSv f).pins = s.pins := rfl
@[simp] theorem State.modSv_warden (f : SvState → SvState) : (s.modSv f).warden = s.warden := rfl
@[simp] theorem State.modSv_start (f : SvState → SvState) : (s.modSv f).start = s.start := rfl
@[simp] theorem State.modSv_hok (f : SvState → SvState) : (s.modSv f).hok = s.hok := rfl
@[simp] theorem State.modSv_cour (f : SvState → SvState) : (s.modSv f).cour = s.cour := rfl
@[simp] theorem State.modSv_ecc (f : SvState → SvState) : (s.modSv f).ecc = s.ecc := rfl
@[simp] theorem State.modSv_pending (f : SvState → SvState) : (s.modSv f).pending = s.pending := rfl
@[simp] theorem State.modSv_rd (f : SvState → SvState) (y : Nat) : (s.modSv f).rd y = s.rd y := rfl
@[simp] theorem State.modSv_get (f : SvState → SvState) (y : Fld) : (s.modSv f).get y = s.get y := rfl
@[simp] theorem State.modSv_flag (f : SvState → SvState) (y : Fld) : (s.modSv f).flag y = s.flag y := rfl
@[simp] theorem State.modSv_getS (f : SvState → SvState) (y : Fld) : (s.modSv f).getS y = s.getS y := rfl

/-! ### modHok -/

@[simp] theorem State.modHok_regs (q : Nat) (f : Hok → Hok) : (s.modHok q f).regs = s.regs := rfl
@[simp] theorem State.modHok_mem (q : Nat) (f : Hok → Hok) : (s.modHok q f).mem = s.mem := rfl
@[simp] theorem State.modHok_shadow (q : Nat) (f : Hok → Hok) : (s.modHok q f).shadow = s.shadow := rfl
@[simp] theorem State.modHok_epoch (q : Nat) (f : Hok → Hok) : (s.modHok q f).epoch = s.epoch := rfl
@[simp] theorem State.modHok_draws (q : Nat) (f : Hok → Hok) : (s.modHok q f).draws = s.draws := rfl
@[simp] theorem State.modHok_raised (q : Nat) (f : Hok → Hok) : (s.modHok q f).raised = s.raised := rfl
@[simp] theorem State.modHok_resp (q : Nat) (f : Hok → Hok) : (s.modHok q f).resp = s.resp := rfl
@[simp] theorem State.modHok_img (q : Nat) (f : Hok → Hok) : (s.modHok q f).img = s.img := rfl
@[simp] theorem State.modHok_clk (q : Nat) (f : Hok → Hok) : (s.modHok q f).clk = s.clk := rfl
@[simp] theorem State.modHok_ep (q : Nat) (f : Hok → Hok) : (s.modHok q f).ep = s.ep := rfl
@[simp] theorem State.modHok_pwm (q : Nat) (f : Hok → Hok) : (s.modHok q f).pwm = s.pwm := rfl
@[simp] theorem State.modHok_plinth (q : Nat) (f : Hok → Hok) : (s.modHok q f).plinth = s.plinth := rfl
@[simp] theorem State.modHok_sens (q : Nat) (f : Hok → Hok) : (s.modHok q f).sens = s.sens := rfl
@[simp] theorem State.modHok_wcmp (q : Nat) (f : Hok → Hok) : (s.modHok q f).wcmp = s.wcmp := rfl
@[simp] theorem State.modHok_loop (q : Nat) (f : Hok → Hok) : (s.modHok q f).loop = s.loop := rfl
@[simp] theorem State.modHok_drive (q : Nat) (f : Hok → Hok) : (s.modHok q f).drive = s.drive := rfl
@[simp] theorem State.modHok_diag (q : Nat) (f : Hok → Hok) : (s.modHok q f).diag = s.diag := rfl
@[simp] theorem State.modHok_grid (q : Nat) (f : Hok → Hok) : (s.modHok q f).grid = s.grid := rfl
@[simp] theorem State.modHok_relay (q : Nat) (f : Hok → Hok) : (s.modHok q f).relay = s.relay := rfl
@[simp] theorem State.modHok_meter (q : Nat) (f : Hok → Hok) : (s.modHok q f).meter = s.meter := rfl
@[simp] theorem State.modHok_cur (q : Nat) (f : Hok → Hok) : (s.modHok q f).cur = s.cur := rfl
@[simp] theorem State.modHok_pins (q : Nat) (f : Hok → Hok) : (s.modHok q f).pins = s.pins := rfl
@[simp] theorem State.modHok_warden (q : Nat) (f : Hok → Hok) : (s.modHok q f).warden = s.warden := rfl
@[simp] theorem State.modHok_sv (q : Nat) (f : Hok → Hok) : (s.modHok q f).sv = s.sv := rfl
@[simp] theorem State.modHok_start (q : Nat) (f : Hok → Hok) : (s.modHok q f).start = s.start := rfl
@[simp] theorem State.modHok_cour (q : Nat) (f : Hok → Hok) : (s.modHok q f).cour = s.cour := rfl
@[simp] theorem State.modHok_ecc (q : Nat) (f : Hok → Hok) : (s.modHok q f).ecc = s.ecc := rfl
@[simp] theorem State.modHok_pending (q : Nat) (f : Hok → Hok) : (s.modHok q f).pending = s.pending := rfl
@[simp] theorem State.modHok_rd (q : Nat) (f : Hok → Hok) (y : Nat) : (s.modHok q f).rd y = s.rd y := rfl
@[simp] theorem State.modHok_get (q : Nat) (f : Hok → Hok) (y : Fld) : (s.modHok q f).get y = s.get y := rfl
@[simp] theorem State.modHok_flag (q : Nat) (f : Hok → Hok) (y : Fld) : (s.modHok q f).flag y = s.flag y := rfl
@[simp] theorem State.modHok_getS (q : Nat) (f : Hok → Hok) (y : Fld) : (s.modHok q f).getS y = s.getS y := rfl

/-! ### modCour -/

@[simp] theorem State.modCour_regs (f : CourState → CourState) : (s.modCour f).regs = s.regs := rfl
@[simp] theorem State.modCour_mem (f : CourState → CourState) : (s.modCour f).mem = s.mem := rfl
@[simp] theorem State.modCour_shadow (f : CourState → CourState) : (s.modCour f).shadow = s.shadow := rfl
@[simp] theorem State.modCour_epoch (f : CourState → CourState) : (s.modCour f).epoch = s.epoch := rfl
@[simp] theorem State.modCour_draws (f : CourState → CourState) : (s.modCour f).draws = s.draws := rfl
@[simp] theorem State.modCour_raised (f : CourState → CourState) : (s.modCour f).raised = s.raised := rfl
@[simp] theorem State.modCour_resp (f : CourState → CourState) : (s.modCour f).resp = s.resp := rfl
@[simp] theorem State.modCour_img (f : CourState → CourState) : (s.modCour f).img = s.img := rfl
@[simp] theorem State.modCour_clk (f : CourState → CourState) : (s.modCour f).clk = s.clk := rfl
@[simp] theorem State.modCour_ep (f : CourState → CourState) : (s.modCour f).ep = s.ep := rfl
@[simp] theorem State.modCour_pwm (f : CourState → CourState) : (s.modCour f).pwm = s.pwm := rfl
@[simp] theorem State.modCour_plinth (f : CourState → CourState) : (s.modCour f).plinth = s.plinth := rfl
@[simp] theorem State.modCour_sens (f : CourState → CourState) : (s.modCour f).sens = s.sens := rfl
@[simp] theorem State.modCour_wcmp (f : CourState → CourState) : (s.modCour f).wcmp = s.wcmp := rfl
@[simp] theorem State.modCour_loop (f : CourState → CourState) : (s.modCour f).loop = s.loop := rfl
@[simp] theorem State.modCour_drive (f : CourState → CourState) : (s.modCour f).drive = s.drive := rfl
@[simp] theorem State.modCour_diag (f : CourState → CourState) : (s.modCour f).diag = s.diag := rfl
@[simp] theorem State.modCour_grid (f : CourState → CourState) : (s.modCour f).grid = s.grid := rfl
@[simp] theorem State.modCour_relay (f : CourState → CourState) : (s.modCour f).relay = s.relay := rfl
@[simp] theorem State.modCour_meter (f : CourState → CourState) : (s.modCour f).meter = s.meter := rfl
@[simp] theorem State.modCour_cur (f : CourState → CourState) : (s.modCour f).cur = s.cur := rfl
@[simp] theorem State.modCour_pins (f : CourState → CourState) : (s.modCour f).pins = s.pins := rfl
@[simp] theorem State.modCour_warden (f : CourState → CourState) : (s.modCour f).warden = s.warden := rfl
@[simp] theorem State.modCour_sv (f : CourState → CourState) : (s.modCour f).sv = s.sv := rfl
@[simp] theorem State.modCour_start (f : CourState → CourState) : (s.modCour f).start = s.start := rfl
@[simp] theorem State.modCour_hok (f : CourState → CourState) : (s.modCour f).hok = s.hok := rfl
@[simp] theorem State.modCour_ecc (f : CourState → CourState) : (s.modCour f).ecc = s.ecc := rfl
@[simp] theorem State.modCour_pending (f : CourState → CourState) : (s.modCour f).pending = s.pending := rfl
@[simp] theorem State.modCour_rd (f : CourState → CourState) (y : Nat) : (s.modCour f).rd y = s.rd y := rfl
@[simp] theorem State.modCour_get (f : CourState → CourState) (y : Fld) : (s.modCour f).get y = s.get y := rfl
@[simp] theorem State.modCour_flag (f : CourState → CourState) (y : Fld) : (s.modCour f).flag y = s.flag y := rfl
@[simp] theorem State.modCour_getS (f : CourState → CourState) (y : Fld) : (s.modCour f).getS y = s.getS y := rfl

/-! ### modCur -/

@[simp] theorem State.modCur_regs (f : CuratorState → CuratorState) : (s.modCur f).regs = s.regs := rfl
@[simp] theorem State.modCur_mem (f : CuratorState → CuratorState) : (s.modCur f).mem = s.mem := rfl
@[simp] theorem State.modCur_shadow (f : CuratorState → CuratorState) : (s.modCur f).shadow = s.shadow := rfl
@[simp] theorem State.modCur_epoch (f : CuratorState → CuratorState) : (s.modCur f).epoch = s.epoch := rfl
@[simp] theorem State.modCur_draws (f : CuratorState → CuratorState) : (s.modCur f).draws = s.draws := rfl
@[simp] theorem State.modCur_raised (f : CuratorState → CuratorState) : (s.modCur f).raised = s.raised := rfl
@[simp] theorem State.modCur_resp (f : CuratorState → CuratorState) : (s.modCur f).resp = s.resp := rfl
@[simp] theorem State.modCur_img (f : CuratorState → CuratorState) : (s.modCur f).img = s.img := rfl
@[simp] theorem State.modCur_clk (f : CuratorState → CuratorState) : (s.modCur f).clk = s.clk := rfl
@[simp] theorem State.modCur_ep (f : CuratorState → CuratorState) : (s.modCur f).ep = s.ep := rfl
@[simp] theorem State.modCur_pwm (f : CuratorState → CuratorState) : (s.modCur f).pwm = s.pwm := rfl
@[simp] theorem State.modCur_plinth (f : CuratorState → CuratorState) : (s.modCur f).plinth = s.plinth := rfl
@[simp] theorem State.modCur_sens (f : CuratorState → CuratorState) : (s.modCur f).sens = s.sens := rfl
@[simp] theorem State.modCur_wcmp (f : CuratorState → CuratorState) : (s.modCur f).wcmp = s.wcmp := rfl
@[simp] theorem State.modCur_loop (f : CuratorState → CuratorState) : (s.modCur f).loop = s.loop := rfl
@[simp] theorem State.modCur_drive (f : CuratorState → CuratorState) : (s.modCur f).drive = s.drive := rfl
@[simp] theorem State.modCur_diag (f : CuratorState → CuratorState) : (s.modCur f).diag = s.diag := rfl
@[simp] theorem State.modCur_grid (f : CuratorState → CuratorState) : (s.modCur f).grid = s.grid := rfl
@[simp] theorem State.modCur_relay (f : CuratorState → CuratorState) : (s.modCur f).relay = s.relay := rfl
@[simp] theorem State.modCur_meter (f : CuratorState → CuratorState) : (s.modCur f).meter = s.meter := rfl
@[simp] theorem State.modCur_pins (f : CuratorState → CuratorState) : (s.modCur f).pins = s.pins := rfl
@[simp] theorem State.modCur_warden (f : CuratorState → CuratorState) : (s.modCur f).warden = s.warden := rfl
@[simp] theorem State.modCur_sv (f : CuratorState → CuratorState) : (s.modCur f).sv = s.sv := rfl
@[simp] theorem State.modCur_start (f : CuratorState → CuratorState) : (s.modCur f).start = s.start := rfl
@[simp] theorem State.modCur_hok (f : CuratorState → CuratorState) : (s.modCur f).hok = s.hok := rfl
@[simp] theorem State.modCur_cour (f : CuratorState → CuratorState) : (s.modCur f).cour = s.cour := rfl
@[simp] theorem State.modCur_ecc (f : CuratorState → CuratorState) : (s.modCur f).ecc = s.ecc := rfl
@[simp] theorem State.modCur_pending (f : CuratorState → CuratorState) : (s.modCur f).pending = s.pending := rfl
@[simp] theorem State.modCur_rd (f : CuratorState → CuratorState) (y : Nat) : (s.modCur f).rd y = s.rd y := rfl
@[simp] theorem State.modCur_get (f : CuratorState → CuratorState) (y : Fld) : (s.modCur f).get y = s.get y := rfl
@[simp] theorem State.modCur_flag (f : CuratorState → CuratorState) (y : Fld) : (s.modCur f).flag y = s.flag y := rfl
@[simp] theorem State.modCur_getS (f : CuratorState → CuratorState) (y : Fld) : (s.modCur f).getS y = s.getS y := rfl

/-! ### modWarden -/

@[simp] theorem State.modWarden_regs (f : WardenState → WardenState) : (s.modWarden f).regs = s.regs := rfl
@[simp] theorem State.modWarden_mem (f : WardenState → WardenState) : (s.modWarden f).mem = s.mem := rfl
@[simp] theorem State.modWarden_shadow (f : WardenState → WardenState) : (s.modWarden f).shadow = s.shadow := rfl
@[simp] theorem State.modWarden_epoch (f : WardenState → WardenState) : (s.modWarden f).epoch = s.epoch := rfl
@[simp] theorem State.modWarden_draws (f : WardenState → WardenState) : (s.modWarden f).draws = s.draws := rfl
@[simp] theorem State.modWarden_raised (f : WardenState → WardenState) : (s.modWarden f).raised = s.raised := rfl
@[simp] theorem State.modWarden_resp (f : WardenState → WardenState) : (s.modWarden f).resp = s.resp := rfl
@[simp] theorem State.modWarden_img (f : WardenState → WardenState) : (s.modWarden f).img = s.img := rfl
@[simp] theorem State.modWarden_clk (f : WardenState → WardenState) : (s.modWarden f).clk = s.clk := rfl
@[simp] theorem State.modWarden_ep (f : WardenState → WardenState) : (s.modWarden f).ep = s.ep := rfl
@[simp] theorem State.modWarden_pwm (f : WardenState → WardenState) : (s.modWarden f).pwm = s.pwm := rfl
@[simp] theorem State.modWarden_plinth (f : WardenState → WardenState) : (s.modWarden f).plinth = s.plinth := rfl
@[simp] theorem State.modWarden_sens (f : WardenState → WardenState) : (s.modWarden f).sens = s.sens := rfl
@[simp] theorem State.modWarden_wcmp (f : WardenState → WardenState) : (s.modWarden f).wcmp = s.wcmp := rfl
@[simp] theorem State.modWarden_loop (f : WardenState → WardenState) : (s.modWarden f).loop = s.loop := rfl
@[simp] theorem State.modWarden_drive (f : WardenState → WardenState) : (s.modWarden f).drive = s.drive := rfl
@[simp] theorem State.modWarden_diag (f : WardenState → WardenState) : (s.modWarden f).diag = s.diag := rfl
@[simp] theorem State.modWarden_grid (f : WardenState → WardenState) : (s.modWarden f).grid = s.grid := rfl
@[simp] theorem State.modWarden_relay (f : WardenState → WardenState) : (s.modWarden f).relay = s.relay := rfl
@[simp] theorem State.modWarden_meter (f : WardenState → WardenState) : (s.modWarden f).meter = s.meter := rfl
@[simp] theorem State.modWarden_cur (f : WardenState → WardenState) : (s.modWarden f).cur = s.cur := rfl
@[simp] theorem State.modWarden_pins (f : WardenState → WardenState) : (s.modWarden f).pins = s.pins := rfl
@[simp] theorem State.modWarden_sv (f : WardenState → WardenState) : (s.modWarden f).sv = s.sv := rfl
@[simp] theorem State.modWarden_start (f : WardenState → WardenState) : (s.modWarden f).start = s.start := rfl
@[simp] theorem State.modWarden_hok (f : WardenState → WardenState) : (s.modWarden f).hok = s.hok := rfl
@[simp] theorem State.modWarden_cour (f : WardenState → WardenState) : (s.modWarden f).cour = s.cour := rfl
@[simp] theorem State.modWarden_ecc (f : WardenState → WardenState) : (s.modWarden f).ecc = s.ecc := rfl
@[simp] theorem State.modWarden_pending (f : WardenState → WardenState) : (s.modWarden f).pending = s.pending := rfl
@[simp] theorem State.modWarden_rd (f : WardenState → WardenState) (y : Nat) : (s.modWarden f).rd y = s.rd y := rfl
@[simp] theorem State.modWarden_get (f : WardenState → WardenState) (y : Fld) : (s.modWarden f).get y = s.get y := rfl
@[simp] theorem State.modWarden_flag (f : WardenState → WardenState) (y : Fld) : (s.modWarden f).flag y = s.flag y := rfl
@[simp] theorem State.modWarden_getS (f : WardenState → WardenState) (y : Fld) : (s.modWarden f).getS y = s.getS y := rfl

/-! ### modMeter -/

@[simp] theorem State.modMeter_regs (f : MeterState → MeterState) : (s.modMeter f).regs = s.regs := rfl
@[simp] theorem State.modMeter_mem (f : MeterState → MeterState) : (s.modMeter f).mem = s.mem := rfl
@[simp] theorem State.modMeter_shadow (f : MeterState → MeterState) : (s.modMeter f).shadow = s.shadow := rfl
@[simp] theorem State.modMeter_epoch (f : MeterState → MeterState) : (s.modMeter f).epoch = s.epoch := rfl
@[simp] theorem State.modMeter_draws (f : MeterState → MeterState) : (s.modMeter f).draws = s.draws := rfl
@[simp] theorem State.modMeter_raised (f : MeterState → MeterState) : (s.modMeter f).raised = s.raised := rfl
@[simp] theorem State.modMeter_resp (f : MeterState → MeterState) : (s.modMeter f).resp = s.resp := rfl
@[simp] theorem State.modMeter_img (f : MeterState → MeterState) : (s.modMeter f).img = s.img := rfl
@[simp] theorem State.modMeter_clk (f : MeterState → MeterState) : (s.modMeter f).clk = s.clk := rfl
@[simp] theorem State.modMeter_ep (f : MeterState → MeterState) : (s.modMeter f).ep = s.ep := rfl
@[simp] theorem State.modMeter_pwm (f : MeterState → MeterState) : (s.modMeter f).pwm = s.pwm := rfl
@[simp] theorem State.modMeter_plinth (f : MeterState → MeterState) : (s.modMeter f).plinth = s.plinth := rfl
@[simp] theorem State.modMeter_sens (f : MeterState → MeterState) : (s.modMeter f).sens = s.sens := rfl
@[simp] theorem State.modMeter_wcmp (f : MeterState → MeterState) : (s.modMeter f).wcmp = s.wcmp := rfl
@[simp] theorem State.modMeter_loop (f : MeterState → MeterState) : (s.modMeter f).loop = s.loop := rfl
@[simp] theorem State.modMeter_drive (f : MeterState → MeterState) : (s.modMeter f).drive = s.drive := rfl
@[simp] theorem State.modMeter_diag (f : MeterState → MeterState) : (s.modMeter f).diag = s.diag := rfl
@[simp] theorem State.modMeter_grid (f : MeterState → MeterState) : (s.modMeter f).grid = s.grid := rfl
@[simp] theorem State.modMeter_relay (f : MeterState → MeterState) : (s.modMeter f).relay = s.relay := rfl
@[simp] theorem State.modMeter_cur (f : MeterState → MeterState) : (s.modMeter f).cur = s.cur := rfl
@[simp] theorem State.modMeter_pins (f : MeterState → MeterState) : (s.modMeter f).pins = s.pins := rfl
@[simp] theorem State.modMeter_warden (f : MeterState → MeterState) : (s.modMeter f).warden = s.warden := rfl
@[simp] theorem State.modMeter_sv (f : MeterState → MeterState) : (s.modMeter f).sv = s.sv := rfl
@[simp] theorem State.modMeter_start (f : MeterState → MeterState) : (s.modMeter f).start = s.start := rfl
@[simp] theorem State.modMeter_hok (f : MeterState → MeterState) : (s.modMeter f).hok = s.hok := rfl
@[simp] theorem State.modMeter_cour (f : MeterState → MeterState) : (s.modMeter f).cour = s.cour := rfl
@[simp] theorem State.modMeter_ecc (f : MeterState → MeterState) : (s.modMeter f).ecc = s.ecc := rfl
@[simp] theorem State.modMeter_pending (f : MeterState → MeterState) : (s.modMeter f).pending = s.pending := rfl
@[simp] theorem State.modMeter_rd (f : MeterState → MeterState) (y : Nat) : (s.modMeter f).rd y = s.rd y := rfl
@[simp] theorem State.modMeter_get (f : MeterState → MeterState) (y : Fld) : (s.modMeter f).get y = s.get y := rfl
@[simp] theorem State.modMeter_flag (f : MeterState → MeterState) (y : Fld) : (s.modMeter f).flag y = s.flag y := rfl
@[simp] theorem State.modMeter_getS (f : MeterState → MeterState) (y : Fld) : (s.modMeter f).getS y = s.getS y := rfl

/-! ### modGrid -/

@[simp] theorem State.modGrid_regs (f : GridState → GridState) : (s.modGrid f).regs = s.regs := rfl
@[simp] theorem State.modGrid_mem (f : GridState → GridState) : (s.modGrid f).mem = s.mem := rfl
@[simp] theorem State.modGrid_shadow (f : GridState → GridState) : (s.modGrid f).shadow = s.shadow := rfl
@[simp] theorem State.modGrid_epoch (f : GridState → GridState) : (s.modGrid f).epoch = s.epoch := rfl
@[simp] theorem State.modGrid_draws (f : GridState → GridState) : (s.modGrid f).draws = s.draws := rfl
@[simp] theorem State.modGrid_raised (f : GridState → GridState) : (s.modGrid f).raised = s.raised := rfl
@[simp] theorem State.modGrid_resp (f : GridState → GridState) : (s.modGrid f).resp = s.resp := rfl
@[simp] theorem State.modGrid_img (f : GridState → GridState) : (s.modGrid f).img = s.img := rfl
@[simp] theorem State.modGrid_clk (f : GridState → GridState) : (s.modGrid f).clk = s.clk := rfl
@[simp] theorem State.modGrid_ep (f : GridState → GridState) : (s.modGrid f).ep = s.ep := rfl
@[simp] theorem State.modGrid_pwm (f : GridState → GridState) : (s.modGrid f).pwm = s.pwm := rfl
@[simp] theorem State.modGrid_plinth (f : GridState → GridState) : (s.modGrid f).plinth = s.plinth := rfl
@[simp] theorem State.modGrid_sens (f : GridState → GridState) : (s.modGrid f).sens = s.sens := rfl
@[simp] theorem State.modGrid_wcmp (f : GridState → GridState) : (s.modGrid f).wcmp = s.wcmp := rfl
@[simp] theorem State.modGrid_loop (f : GridState → GridState) : (s.modGrid f).loop = s.loop := rfl
@[simp] theorem State.modGrid_drive (f : GridState → GridState) : (s.modGrid f).drive = s.drive := rfl
@[simp] theorem State.modGrid_diag (f : GridState → GridState) : (s.modGrid f).diag = s.diag := rfl
@[simp] theorem State.modGrid_relay (f : GridState → GridState) : (s.modGrid f).relay = s.relay := rfl
@[simp] theorem State.modGrid_meter (f : GridState → GridState) : (s.modGrid f).meter = s.meter := rfl
@[simp] theorem State.modGrid_cur (f : GridState → GridState) : (s.modGrid f).cur = s.cur := rfl
@[simp] theorem State.modGrid_pins (f : GridState → GridState) : (s.modGrid f).pins = s.pins := rfl
@[simp] theorem State.modGrid_warden (f : GridState → GridState) : (s.modGrid f).warden = s.warden := rfl
@[simp] theorem State.modGrid_sv (f : GridState → GridState) : (s.modGrid f).sv = s.sv := rfl
@[simp] theorem State.modGrid_start (f : GridState → GridState) : (s.modGrid f).start = s.start := rfl
@[simp] theorem State.modGrid_hok (f : GridState → GridState) : (s.modGrid f).hok = s.hok := rfl
@[simp] theorem State.modGrid_cour (f : GridState → GridState) : (s.modGrid f).cour = s.cour := rfl
@[simp] theorem State.modGrid_ecc (f : GridState → GridState) : (s.modGrid f).ecc = s.ecc := rfl
@[simp] theorem State.modGrid_pending (f : GridState → GridState) : (s.modGrid f).pending = s.pending := rfl
@[simp] theorem State.modGrid_rd (f : GridState → GridState) (y : Nat) : (s.modGrid f).rd y = s.rd y := rfl
@[simp] theorem State.modGrid_get (f : GridState → GridState) (y : Fld) : (s.modGrid f).get y = s.get y := rfl
@[simp] theorem State.modGrid_flag (f : GridState → GridState) (y : Fld) : (s.modGrid f).flag y = s.flag y := rfl
@[simp] theorem State.modGrid_getS (f : GridState → GridState) (y : Fld) : (s.modGrid f).getS y = s.getS y := rfl

/-! ### modRelay -/

@[simp] theorem State.modRelay_regs (f : RelayState → RelayState) : (s.modRelay f).regs = s.regs := rfl
@[simp] theorem State.modRelay_mem (f : RelayState → RelayState) : (s.modRelay f).mem = s.mem := rfl
@[simp] theorem State.modRelay_shadow (f : RelayState → RelayState) : (s.modRelay f).shadow = s.shadow := rfl
@[simp] theorem State.modRelay_epoch (f : RelayState → RelayState) : (s.modRelay f).epoch = s.epoch := rfl
@[simp] theorem State.modRelay_draws (f : RelayState → RelayState) : (s.modRelay f).draws = s.draws := rfl
@[simp] theorem State.modRelay_raised (f : RelayState → RelayState) : (s.modRelay f).raised = s.raised := rfl
@[simp] theorem State.modRelay_resp (f : RelayState → RelayState) : (s.modRelay f).resp = s.resp := rfl
@[simp] theorem State.modRelay_img (f : RelayState → RelayState) : (s.modRelay f).img = s.img := rfl
@[simp] theorem State.modRelay_clk (f : RelayState → RelayState) : (s.modRelay f).clk = s.clk := rfl
@[simp] theorem State.modRelay_ep (f : RelayState → RelayState) : (s.modRelay f).ep = s.ep := rfl
@[simp] theorem State.modRelay_pwm (f : RelayState → RelayState) : (s.modRelay f).pwm = s.pwm := rfl
@[simp] theorem State.modRelay_plinth (f : RelayState → RelayState) : (s.modRelay f).plinth = s.plinth := rfl
@[simp] theorem State.modRelay_sens (f : RelayState → RelayState) : (s.modRelay f).sens = s.sens := rfl
@[simp] theorem State.modRelay_wcmp (f : RelayState → RelayState) : (s.modRelay f).wcmp = s.wcmp := rfl
@[simp] theorem State.modRelay_loop (f : RelayState → RelayState) : (s.modRelay f).loop = s.loop := rfl
@[simp] theorem State.modRelay_drive (f : RelayState → RelayState) : (s.modRelay f).drive = s.drive := rfl
@[simp] theorem State.modRelay_diag (f : RelayState → RelayState) : (s.modRelay f).diag = s.diag := rfl
@[simp] theorem State.modRelay_grid (f : RelayState → RelayState) : (s.modRelay f).grid = s.grid := rfl
@[simp] theorem State.modRelay_meter (f : RelayState → RelayState) : (s.modRelay f).meter = s.meter := rfl
@[simp] theorem State.modRelay_cur (f : RelayState → RelayState) : (s.modRelay f).cur = s.cur := rfl
@[simp] theorem State.modRelay_pins (f : RelayState → RelayState) : (s.modRelay f).pins = s.pins := rfl
@[simp] theorem State.modRelay_warden (f : RelayState → RelayState) : (s.modRelay f).warden = s.warden := rfl
@[simp] theorem State.modRelay_sv (f : RelayState → RelayState) : (s.modRelay f).sv = s.sv := rfl
@[simp] theorem State.modRelay_start (f : RelayState → RelayState) : (s.modRelay f).start = s.start := rfl
@[simp] theorem State.modRelay_hok (f : RelayState → RelayState) : (s.modRelay f).hok = s.hok := rfl
@[simp] theorem State.modRelay_cour (f : RelayState → RelayState) : (s.modRelay f).cour = s.cour := rfl
@[simp] theorem State.modRelay_ecc (f : RelayState → RelayState) : (s.modRelay f).ecc = s.ecc := rfl
@[simp] theorem State.modRelay_pending (f : RelayState → RelayState) : (s.modRelay f).pending = s.pending := rfl
@[simp] theorem State.modRelay_rd (f : RelayState → RelayState) (y : Nat) : (s.modRelay f).rd y = s.rd y := rfl
@[simp] theorem State.modRelay_get (f : RelayState → RelayState) (y : Fld) : (s.modRelay f).get y = s.get y := rfl
@[simp] theorem State.modRelay_flag (f : RelayState → RelayState) (y : Fld) : (s.modRelay f).flag y = s.flag y := rfl
@[simp] theorem State.modRelay_getS (f : RelayState → RelayState) (y : Fld) : (s.modRelay f).getS y = s.getS y := rfl

/-! ### modLoop -/

@[simp] theorem State.modLoop_regs (p : Nat) (f : LoopPair → LoopPair) : (s.modLoop p f).regs = s.regs := rfl
@[simp] theorem State.modLoop_mem (p : Nat) (f : LoopPair → LoopPair) : (s.modLoop p f).mem = s.mem := rfl
@[simp] theorem State.modLoop_shadow (p : Nat) (f : LoopPair → LoopPair) : (s.modLoop p f).shadow = s.shadow := rfl
@[simp] theorem State.modLoop_epoch (p : Nat) (f : LoopPair → LoopPair) : (s.modLoop p f).epoch = s.epoch := rfl
@[simp] theorem State.modLoop_draws (p : Nat) (f : LoopPair → LoopPair) : (s.modLoop p f).draws = s.draws := rfl
@[simp] theorem State.modLoop_raised (p : Nat) (f : LoopPair → LoopPair) : (s.modLoop p f).raised = s.raised := rfl
@[simp] theorem State.modLoop_resp (p : Nat) (f : LoopPair → LoopPair) : (s.modLoop p f).resp = s.resp := rfl
@[simp] theorem State.modLoop_img (p : Nat) (f : LoopPair → LoopPair) : (s.modLoop p f).img = s.img := rfl
@[simp] theorem State.modLoop_clk (p : Nat) (f : LoopPair → LoopPair) : (s.modLoop p f).clk = s.clk := rfl
@[simp] theorem State.modLoop_ep (p : Nat) (f : LoopPair → LoopPair) : (s.modLoop p f).ep = s.ep := rfl
@[simp] theorem State.modLoop_pwm (p : Nat) (f : LoopPair → LoopPair) : (s.modLoop p f).pwm = s.pwm := rfl
@[simp] theorem State.modLoop_plinth (p : Nat) (f : LoopPair → LoopPair) : (s.modLoop p f).plinth = s.plinth := rfl
@[simp] theorem State.modLoop_sens (p : Nat) (f : LoopPair → LoopPair) : (s.modLoop p f).sens = s.sens := rfl
@[simp] theorem State.modLoop_wcmp (p : Nat) (f : LoopPair → LoopPair) : (s.modLoop p f).wcmp = s.wcmp := rfl
@[simp] theorem State.modLoop_drive (p : Nat) (f : LoopPair → LoopPair) : (s.modLoop p f).drive = s.drive := rfl
@[simp] theorem State.modLoop_diag (p : Nat) (f : LoopPair → LoopPair) : (s.modLoop p f).diag = s.diag := rfl
@[simp] theorem State.modLoop_grid (p : Nat) (f : LoopPair → LoopPair) : (s.modLoop p f).grid = s.grid := rfl
@[simp] theorem State.modLoop_relay (p : Nat) (f : LoopPair → LoopPair) : (s.modLoop p f).relay = s.relay := rfl
@[simp] theorem State.modLoop_meter (p : Nat) (f : LoopPair → LoopPair) : (s.modLoop p f).meter = s.meter := rfl
@[simp] theorem State.modLoop_cur (p : Nat) (f : LoopPair → LoopPair) : (s.modLoop p f).cur = s.cur := rfl
@[simp] theorem State.modLoop_pins (p : Nat) (f : LoopPair → LoopPair) : (s.modLoop p f).pins = s.pins := rfl
@[simp] theorem State.modLoop_warden (p : Nat) (f : LoopPair → LoopPair) : (s.modLoop p f).warden = s.warden := rfl
@[simp] theorem State.modLoop_sv (p : Nat) (f : LoopPair → LoopPair) : (s.modLoop p f).sv = s.sv := rfl
@[simp] theorem State.modLoop_start (p : Nat) (f : LoopPair → LoopPair) : (s.modLoop p f).start = s.start := rfl
@[simp] theorem State.modLoop_hok (p : Nat) (f : LoopPair → LoopPair) : (s.modLoop p f).hok = s.hok := rfl
@[simp] theorem State.modLoop_cour (p : Nat) (f : LoopPair → LoopPair) : (s.modLoop p f).cour = s.cour := rfl
@[simp] theorem State.modLoop_ecc (p : Nat) (f : LoopPair → LoopPair) : (s.modLoop p f).ecc = s.ecc := rfl
@[simp] theorem State.modLoop_pending (p : Nat) (f : LoopPair → LoopPair) : (s.modLoop p f).pending = s.pending := rfl
@[simp] theorem State.modLoop_rd (p : Nat) (f : LoopPair → LoopPair) (y : Nat) : (s.modLoop p f).rd y = s.rd y := rfl
@[simp] theorem State.modLoop_get (p : Nat) (f : LoopPair → LoopPair) (y : Fld) : (s.modLoop p f).get y = s.get y := rfl
@[simp] theorem State.modLoop_flag (p : Nat) (f : LoopPair → LoopPair) (y : Fld) : (s.modLoop p f).flag y = s.flag y := rfl
@[simp] theorem State.modLoop_getS (p : Nat) (f : LoopPair → LoopPair) (y : Fld) : (s.modLoop p f).getS y = s.getS y := rfl

/-! ### modPwm -/

@[simp] theorem State.modPwm_regs (u : Nat) (f : PwmUnit → PwmUnit) : (s.modPwm u f).regs = s.regs := rfl
@[simp] theorem State.modPwm_mem (u : Nat) (f : PwmUnit → PwmUnit) : (s.modPwm u f).mem = s.mem := rfl
@[simp] theorem State.modPwm_shadow (u : Nat) (f : PwmUnit → PwmUnit) : (s.modPwm u f).shadow = s.shadow := rfl
@[simp] theorem State.modPwm_epoch (u : Nat) (f : PwmUnit → PwmUnit) : (s.modPwm u f).epoch = s.epoch := rfl
@[simp] theorem State.modPwm_draws (u : Nat) (f : PwmUnit → PwmUnit) : (s.modPwm u f).draws = s.draws := rfl
@[simp] theorem State.modPwm_raised (u : Nat) (f : PwmUnit → PwmUnit) : (s.modPwm u f).raised = s.raised := rfl
@[simp] theorem State.modPwm_resp (u : Nat) (f : PwmUnit → PwmUnit) : (s.modPwm u f).resp = s.resp := rfl
@[simp] theorem State.modPwm_img (u : Nat) (f : PwmUnit → PwmUnit) : (s.modPwm u f).img = s.img := rfl
@[simp] theorem State.modPwm_clk (u : Nat) (f : PwmUnit → PwmUnit) : (s.modPwm u f).clk = s.clk := rfl
@[simp] theorem State.modPwm_ep (u : Nat) (f : PwmUnit → PwmUnit) : (s.modPwm u f).ep = s.ep := rfl
@[simp] theorem State.modPwm_plinth (u : Nat) (f : PwmUnit → PwmUnit) : (s.modPwm u f).plinth = s.plinth := rfl
@[simp] theorem State.modPwm_sens (u : Nat) (f : PwmUnit → PwmUnit) : (s.modPwm u f).sens = s.sens := rfl
@[simp] theorem State.modPwm_wcmp (u : Nat) (f : PwmUnit → PwmUnit) : (s.modPwm u f).wcmp = s.wcmp := rfl
@[simp] theorem State.modPwm_loop (u : Nat) (f : PwmUnit → PwmUnit) : (s.modPwm u f).loop = s.loop := rfl
@[simp] theorem State.modPwm_drive (u : Nat) (f : PwmUnit → PwmUnit) : (s.modPwm u f).drive = s.drive := rfl
@[simp] theorem State.modPwm_diag (u : Nat) (f : PwmUnit → PwmUnit) : (s.modPwm u f).diag = s.diag := rfl
@[simp] theorem State.modPwm_grid (u : Nat) (f : PwmUnit → PwmUnit) : (s.modPwm u f).grid = s.grid := rfl
@[simp] theorem State.modPwm_relay (u : Nat) (f : PwmUnit → PwmUnit) : (s.modPwm u f).relay = s.relay := rfl
@[simp] theorem State.modPwm_meter (u : Nat) (f : PwmUnit → PwmUnit) : (s.modPwm u f).meter = s.meter := rfl
@[simp] theorem State.modPwm_cur (u : Nat) (f : PwmUnit → PwmUnit) : (s.modPwm u f).cur = s.cur := rfl
@[simp] theorem State.modPwm_pins (u : Nat) (f : PwmUnit → PwmUnit) : (s.modPwm u f).pins = s.pins := rfl
@[simp] theorem State.modPwm_warden (u : Nat) (f : PwmUnit → PwmUnit) : (s.modPwm u f).warden = s.warden := rfl
@[simp] theorem State.modPwm_sv (u : Nat) (f : PwmUnit → PwmUnit) : (s.modPwm u f).sv = s.sv := rfl
@[simp] theorem State.modPwm_start (u : Nat) (f : PwmUnit → PwmUnit) : (s.modPwm u f).start = s.start := rfl
@[simp] theorem State.modPwm_hok (u : Nat) (f : PwmUnit → PwmUnit) : (s.modPwm u f).hok = s.hok := rfl
@[simp] theorem State.modPwm_cour (u : Nat) (f : PwmUnit → PwmUnit) : (s.modPwm u f).cour = s.cour := rfl
@[simp] theorem State.modPwm_ecc (u : Nat) (f : PwmUnit → PwmUnit) : (s.modPwm u f).ecc = s.ecc := rfl
@[simp] theorem State.modPwm_pending (u : Nat) (f : PwmUnit → PwmUnit) : (s.modPwm u f).pending = s.pending := rfl
@[simp] theorem State.modPwm_rd (u : Nat) (f : PwmUnit → PwmUnit) (y : Nat) : (s.modPwm u f).rd y = s.rd y := rfl
@[simp] theorem State.modPwm_get (u : Nat) (f : PwmUnit → PwmUnit) (y : Fld) : (s.modPwm u f).get y = s.get y := rfl
@[simp] theorem State.modPwm_flag (u : Nat) (f : PwmUnit → PwmUnit) (y : Fld) : (s.modPwm u f).flag y = s.flag y := rfl
@[simp] theorem State.modPwm_getS (u : Nat) (f : PwmUnit → PwmUnit) (y : Fld) : (s.modPwm u f).getS y = s.getS y := rfl

/-! ### modPlinth -/

@[simp] theorem State.modPlinth_regs (f : PlinthState → PlinthState) : (s.modPlinth f).regs = s.regs := rfl
@[simp] theorem State.modPlinth_mem (f : PlinthState → PlinthState) : (s.modPlinth f).mem = s.mem := rfl
@[simp] theorem State.modPlinth_shadow (f : PlinthState → PlinthState) : (s.modPlinth f).shadow = s.shadow := rfl
@[simp] theorem State.modPlinth_epoch (f : PlinthState → PlinthState) : (s.modPlinth f).epoch = s.epoch := rfl
@[simp] theorem State.modPlinth_draws (f : PlinthState → PlinthState) : (s.modPlinth f).draws = s.draws := rfl
@[simp] theorem State.modPlinth_raised (f : PlinthState → PlinthState) : (s.modPlinth f).raised = s.raised := rfl
@[simp] theorem State.modPlinth_resp (f : PlinthState → PlinthState) : (s.modPlinth f).resp = s.resp := rfl
@[simp] theorem State.modPlinth_img (f : PlinthState → PlinthState) : (s.modPlinth f).img = s.img := rfl
@[simp] theorem State.modPlinth_clk (f : PlinthState → PlinthState) : (s.modPlinth f).clk = s.clk := rfl
@[simp] theorem State.modPlinth_ep (f : PlinthState → PlinthState) : (s.modPlinth f).ep = s.ep := rfl
@[simp] theorem State.modPlinth_pwm (f : PlinthState → PlinthState) : (s.modPlinth f).pwm = s.pwm := rfl
@[simp] theorem State.modPlinth_sens (f : PlinthState → PlinthState) : (s.modPlinth f).sens = s.sens := rfl
@[simp] theorem State.modPlinth_wcmp (f : PlinthState → PlinthState) : (s.modPlinth f).wcmp = s.wcmp := rfl
@[simp] theorem State.modPlinth_loop (f : PlinthState → PlinthState) : (s.modPlinth f).loop = s.loop := rfl
@[simp] theorem State.modPlinth_drive (f : PlinthState → PlinthState) : (s.modPlinth f).drive = s.drive := rfl
@[simp] theorem State.modPlinth_diag (f : PlinthState → PlinthState) : (s.modPlinth f).diag = s.diag := rfl
@[simp] theorem State.modPlinth_grid (f : PlinthState → PlinthState) : (s.modPlinth f).grid = s.grid := rfl
@[simp] theorem State.modPlinth_relay (f : PlinthState → PlinthState) : (s.modPlinth f).relay = s.relay := rfl
@[simp] theorem State.modPlinth_meter (f : PlinthState → PlinthState) : (s.modPlinth f).meter = s.meter := rfl
@[simp] theorem State.modPlinth_cur (f : PlinthState → PlinthState) : (s.modPlinth f).cur = s.cur := rfl
@[simp] theorem State.modPlinth_pins (f : PlinthState → PlinthState) : (s.modPlinth f).pins = s.pins := rfl
@[simp] theorem State.modPlinth_warden (f : PlinthState → PlinthState) : (s.modPlinth f).warden = s.warden := rfl
@[simp] theorem State.modPlinth_sv (f : PlinthState → PlinthState) : (s.modPlinth f).sv = s.sv := rfl
@[simp] theorem State.modPlinth_start (f : PlinthState → PlinthState) : (s.modPlinth f).start = s.start := rfl
@[simp] theorem State.modPlinth_hok (f : PlinthState → PlinthState) : (s.modPlinth f).hok = s.hok := rfl
@[simp] theorem State.modPlinth_cour (f : PlinthState → PlinthState) : (s.modPlinth f).cour = s.cour := rfl
@[simp] theorem State.modPlinth_ecc (f : PlinthState → PlinthState) : (s.modPlinth f).ecc = s.ecc := rfl
@[simp] theorem State.modPlinth_pending (f : PlinthState → PlinthState) : (s.modPlinth f).pending = s.pending := rfl
@[simp] theorem State.modPlinth_rd (f : PlinthState → PlinthState) (y : Nat) : (s.modPlinth f).rd y = s.rd y := rfl
@[simp] theorem State.modPlinth_get (f : PlinthState → PlinthState) (y : Fld) : (s.modPlinth f).get y = s.get y := rfl
@[simp] theorem State.modPlinth_flag (f : PlinthState → PlinthState) (y : Fld) : (s.modPlinth f).flag y = s.flag y := rfl
@[simp] theorem State.modPlinth_getS (f : PlinthState → PlinthState) (y : Fld) : (s.modPlinth f).getS y = s.getS y := rfl

/-! ### modStart -/

@[simp] theorem State.modStart_regs (f : StartState → StartState) : (s.modStart f).regs = s.regs := rfl
@[simp] theorem State.modStart_mem (f : StartState → StartState) : (s.modStart f).mem = s.mem := rfl
@[simp] theorem State.modStart_shadow (f : StartState → StartState) : (s.modStart f).shadow = s.shadow := rfl
@[simp] theorem State.modStart_epoch (f : StartState → StartState) : (s.modStart f).epoch = s.epoch := rfl
@[simp] theorem State.modStart_draws (f : StartState → StartState) : (s.modStart f).draws = s.draws := rfl
@[simp] theorem State.modStart_raised (f : StartState → StartState) : (s.modStart f).raised = s.raised := rfl
@[simp] theorem State.modStart_resp (f : StartState → StartState) : (s.modStart f).resp = s.resp := rfl
@[simp] theorem State.modStart_img (f : StartState → StartState) : (s.modStart f).img = s.img := rfl
@[simp] theorem State.modStart_clk (f : StartState → StartState) : (s.modStart f).clk = s.clk := rfl
@[simp] theorem State.modStart_ep (f : StartState → StartState) : (s.modStart f).ep = s.ep := rfl
@[simp] theorem State.modStart_pwm (f : StartState → StartState) : (s.modStart f).pwm = s.pwm := rfl
@[simp] theorem State.modStart_plinth (f : StartState → StartState) : (s.modStart f).plinth = s.plinth := rfl
@[simp] theorem State.modStart_sens (f : StartState → StartState) : (s.modStart f).sens = s.sens := rfl
@[simp] theorem State.modStart_wcmp (f : StartState → StartState) : (s.modStart f).wcmp = s.wcmp := rfl
@[simp] theorem State.modStart_loop (f : StartState → StartState) : (s.modStart f).loop = s.loop := rfl
@[simp] theorem State.modStart_drive (f : StartState → StartState) : (s.modStart f).drive = s.drive := rfl
@[simp] theorem State.modStart_diag (f : StartState → StartState) : (s.modStart f).diag = s.diag := rfl
@[simp] theorem State.modStart_grid (f : StartState → StartState) : (s.modStart f).grid = s.grid := rfl
@[simp] theorem State.modStart_relay (f : StartState → StartState) : (s.modStart f).relay = s.relay := rfl
@[simp] theorem State.modStart_meter (f : StartState → StartState) : (s.modStart f).meter = s.meter := rfl
@[simp] theorem State.modStart_cur (f : StartState → StartState) : (s.modStart f).cur = s.cur := rfl
@[simp] theorem State.modStart_pins (f : StartState → StartState) : (s.modStart f).pins = s.pins := rfl
@[simp] theorem State.modStart_warden (f : StartState → StartState) : (s.modStart f).warden = s.warden := rfl
@[simp] theorem State.modStart_sv (f : StartState → StartState) : (s.modStart f).sv = s.sv := rfl
@[simp] theorem State.modStart_hok (f : StartState → StartState) : (s.modStart f).hok = s.hok := rfl
@[simp] theorem State.modStart_cour (f : StartState → StartState) : (s.modStart f).cour = s.cour := rfl
@[simp] theorem State.modStart_ecc (f : StartState → StartState) : (s.modStart f).ecc = s.ecc := rfl
@[simp] theorem State.modStart_pending (f : StartState → StartState) : (s.modStart f).pending = s.pending := rfl
@[simp] theorem State.modStart_rd (f : StartState → StartState) (y : Nat) : (s.modStart f).rd y = s.rd y := rfl
@[simp] theorem State.modStart_get (f : StartState → StartState) (y : Fld) : (s.modStart f).get y = s.get y := rfl
@[simp] theorem State.modStart_flag (f : StartState → StartState) (y : Fld) : (s.modStart f).flag y = s.flag y := rfl
@[simp] theorem State.modStart_getS (f : StartState → StartState) (y : Fld) : (s.modStart f).getS y = s.getS y := rfl

/-! ### modWg -/

@[simp] theorem State.modWg_regs (g : Nat) (f : WgState → WgState) : (s.modWg g f).regs = s.regs := rfl
@[simp] theorem State.modWg_mem (g : Nat) (f : WgState → WgState) : (s.modWg g f).mem = s.mem := rfl
@[simp] theorem State.modWg_shadow (g : Nat) (f : WgState → WgState) : (s.modWg g f).shadow = s.shadow := rfl
@[simp] theorem State.modWg_epoch (g : Nat) (f : WgState → WgState) : (s.modWg g f).epoch = s.epoch := rfl
@[simp] theorem State.modWg_draws (g : Nat) (f : WgState → WgState) : (s.modWg g f).draws = s.draws := rfl
@[simp] theorem State.modWg_raised (g : Nat) (f : WgState → WgState) : (s.modWg g f).raised = s.raised := rfl
@[simp] theorem State.modWg_resp (g : Nat) (f : WgState → WgState) : (s.modWg g f).resp = s.resp := rfl
@[simp] theorem State.modWg_img (g : Nat) (f : WgState → WgState) : (s.modWg g f).img = s.img := rfl
@[simp] theorem State.modWg_clk (g : Nat) (f : WgState → WgState) : (s.modWg g f).clk = s.clk := rfl
@[simp] theorem State.modWg_ep (g : Nat) (f : WgState → WgState) : (s.modWg g f).ep = s.ep := rfl
@[simp] theorem State.modWg_pwm (g : Nat) (f : WgState → WgState) : (s.modWg g f).pwm = s.pwm := rfl
@[simp] theorem State.modWg_plinth (g : Nat) (f : WgState → WgState) : (s.modWg g f).plinth = s.plinth := rfl
@[simp] theorem State.modWg_wcmp (g : Nat) (f : WgState → WgState) : (s.modWg g f).wcmp = s.wcmp := rfl
@[simp] theorem State.modWg_loop (g : Nat) (f : WgState → WgState) : (s.modWg g f).loop = s.loop := rfl
@[simp] theorem State.modWg_drive (g : Nat) (f : WgState → WgState) : (s.modWg g f).drive = s.drive := rfl
@[simp] theorem State.modWg_diag (g : Nat) (f : WgState → WgState) : (s.modWg g f).diag = s.diag := rfl
@[simp] theorem State.modWg_grid (g : Nat) (f : WgState → WgState) : (s.modWg g f).grid = s.grid := rfl
@[simp] theorem State.modWg_relay (g : Nat) (f : WgState → WgState) : (s.modWg g f).relay = s.relay := rfl
@[simp] theorem State.modWg_meter (g : Nat) (f : WgState → WgState) : (s.modWg g f).meter = s.meter := rfl
@[simp] theorem State.modWg_cur (g : Nat) (f : WgState → WgState) : (s.modWg g f).cur = s.cur := rfl
@[simp] theorem State.modWg_pins (g : Nat) (f : WgState → WgState) : (s.modWg g f).pins = s.pins := rfl
@[simp] theorem State.modWg_warden (g : Nat) (f : WgState → WgState) : (s.modWg g f).warden = s.warden := rfl
@[simp] theorem State.modWg_sv (g : Nat) (f : WgState → WgState) : (s.modWg g f).sv = s.sv := rfl
@[simp] theorem State.modWg_start (g : Nat) (f : WgState → WgState) : (s.modWg g f).start = s.start := rfl
@[simp] theorem State.modWg_hok (g : Nat) (f : WgState → WgState) : (s.modWg g f).hok = s.hok := rfl
@[simp] theorem State.modWg_cour (g : Nat) (f : WgState → WgState) : (s.modWg g f).cour = s.cour := rfl
@[simp] theorem State.modWg_ecc (g : Nat) (f : WgState → WgState) : (s.modWg g f).ecc = s.ecc := rfl
@[simp] theorem State.modWg_pending (g : Nat) (f : WgState → WgState) : (s.modWg g f).pending = s.pending := rfl
@[simp] theorem State.modWg_rd (g : Nat) (f : WgState → WgState) (y : Nat) : (s.modWg g f).rd y = s.rd y := rfl
@[simp] theorem State.modWg_get (g : Nat) (f : WgState → WgState) (y : Fld) : (s.modWg g f).get y = s.get y := rfl
@[simp] theorem State.modWg_flag (g : Nat) (f : WgState → WgState) (y : Fld) : (s.modWg g f).flag y = s.flag y := rfl
@[simp] theorem State.modWg_getS (g : Nat) (f : WgState → WgState) (y : Fld) : (s.modWg g f).getS y = s.getS y := rfl

/-! ### modCh -/

@[simp] theorem State.modCh_regs (k : Nat) (f : ChState → ChState) : (s.modCh k f).regs = s.regs := rfl
@[simp] theorem State.modCh_mem (k : Nat) (f : ChState → ChState) : (s.modCh k f).mem = s.mem := rfl
@[simp] theorem State.modCh_shadow (k : Nat) (f : ChState → ChState) : (s.modCh k f).shadow = s.shadow := rfl
@[simp] theorem State.modCh_epoch (k : Nat) (f : ChState → ChState) : (s.modCh k f).epoch = s.epoch := rfl
@[simp] theorem State.modCh_draws (k : Nat) (f : ChState → ChState) : (s.modCh k f).draws = s.draws := rfl
@[simp] theorem State.modCh_raised (k : Nat) (f : ChState → ChState) : (s.modCh k f).raised = s.raised := rfl
@[simp] theorem State.modCh_resp (k : Nat) (f : ChState → ChState) : (s.modCh k f).resp = s.resp := rfl
@[simp] theorem State.modCh_img (k : Nat) (f : ChState → ChState) : (s.modCh k f).img = s.img := rfl
@[simp] theorem State.modCh_clk (k : Nat) (f : ChState → ChState) : (s.modCh k f).clk = s.clk := rfl
@[simp] theorem State.modCh_ep (k : Nat) (f : ChState → ChState) : (s.modCh k f).ep = s.ep := rfl
@[simp] theorem State.modCh_pwm (k : Nat) (f : ChState → ChState) : (s.modCh k f).pwm = s.pwm := rfl
@[simp] theorem State.modCh_plinth (k : Nat) (f : ChState → ChState) : (s.modCh k f).plinth = s.plinth := rfl
@[simp] theorem State.modCh_wcmp (k : Nat) (f : ChState → ChState) : (s.modCh k f).wcmp = s.wcmp := rfl
@[simp] theorem State.modCh_loop (k : Nat) (f : ChState → ChState) : (s.modCh k f).loop = s.loop := rfl
@[simp] theorem State.modCh_drive (k : Nat) (f : ChState → ChState) : (s.modCh k f).drive = s.drive := rfl
@[simp] theorem State.modCh_diag (k : Nat) (f : ChState → ChState) : (s.modCh k f).diag = s.diag := rfl
@[simp] theorem State.modCh_grid (k : Nat) (f : ChState → ChState) : (s.modCh k f).grid = s.grid := rfl
@[simp] theorem State.modCh_relay (k : Nat) (f : ChState → ChState) : (s.modCh k f).relay = s.relay := rfl
@[simp] theorem State.modCh_meter (k : Nat) (f : ChState → ChState) : (s.modCh k f).meter = s.meter := rfl
@[simp] theorem State.modCh_cur (k : Nat) (f : ChState → ChState) : (s.modCh k f).cur = s.cur := rfl
@[simp] theorem State.modCh_pins (k : Nat) (f : ChState → ChState) : (s.modCh k f).pins = s.pins := rfl
@[simp] theorem State.modCh_warden (k : Nat) (f : ChState → ChState) : (s.modCh k f).warden = s.warden := rfl
@[simp] theorem State.modCh_sv (k : Nat) (f : ChState → ChState) : (s.modCh k f).sv = s.sv := rfl
@[simp] theorem State.modCh_start (k : Nat) (f : ChState → ChState) : (s.modCh k f).start = s.start := rfl
@[simp] theorem State.modCh_hok (k : Nat) (f : ChState → ChState) : (s.modCh k f).hok = s.hok := rfl
@[simp] theorem State.modCh_cour (k : Nat) (f : ChState → ChState) : (s.modCh k f).cour = s.cour := rfl
@[simp] theorem State.modCh_ecc (k : Nat) (f : ChState → ChState) : (s.modCh k f).ecc = s.ecc := rfl
@[simp] theorem State.modCh_pending (k : Nat) (f : ChState → ChState) : (s.modCh k f).pending = s.pending := rfl
@[simp] theorem State.modCh_rd (k : Nat) (f : ChState → ChState) (y : Nat) : (s.modCh k f).rd y = s.rd y := rfl
@[simp] theorem State.modCh_get (k : Nat) (f : ChState → ChState) (y : Fld) : (s.modCh k f).get y = s.get y := rfl
@[simp] theorem State.modCh_flag (k : Nat) (f : ChState → ChState) (y : Fld) : (s.modCh k f).flag y = s.flag y := rfl
@[simp] theorem State.modCh_getS (k : Nat) (f : ChState → ChState) (y : Fld) : (s.modCh k f).getS y = s.getS y := rfl

/-! ### modSide -/

@[simp] theorem State.modSide_regs (g : Bool) (f : SideState → SideState) : (s.modSide g f).regs = s.regs := rfl
@[simp] theorem State.modSide_mem (g : Bool) (f : SideState → SideState) : (s.modSide g f).mem = s.mem := rfl
@[simp] theorem State.modSide_shadow (g : Bool) (f : SideState → SideState) : (s.modSide g f).shadow = s.shadow := rfl
@[simp] theorem State.modSide_epoch (g : Bool) (f : SideState → SideState) : (s.modSide g f).epoch = s.epoch := rfl
@[simp] theorem State.modSide_draws (g : Bool) (f : SideState → SideState) : (s.modSide g f).draws = s.draws := rfl
@[simp] theorem State.modSide_raised (g : Bool) (f : SideState → SideState) : (s.modSide g f).raised = s.raised := rfl
@[simp] theorem State.modSide_resp (g : Bool) (f : SideState → SideState) : (s.modSide g f).resp = s.resp := rfl
@[simp] theorem State.modSide_img (g : Bool) (f : SideState → SideState) : (s.modSide g f).img = s.img := rfl
@[simp] theorem State.modSide_clk (g : Bool) (f : SideState → SideState) : (s.modSide g f).clk = s.clk := rfl
@[simp] theorem State.modSide_ep (g : Bool) (f : SideState → SideState) : (s.modSide g f).ep = s.ep := rfl
@[simp] theorem State.modSide_pwm (g : Bool) (f : SideState → SideState) : (s.modSide g f).pwm = s.pwm := rfl
@[simp] theorem State.modSide_plinth (g : Bool) (f : SideState → SideState) : (s.modSide g f).plinth = s.plinth := rfl
@[simp] theorem State.modSide_wcmp (g : Bool) (f : SideState → SideState) : (s.modSide g f).wcmp = s.wcmp := rfl
@[simp] theorem State.modSide_loop (g : Bool) (f : SideState → SideState) : (s.modSide g f).loop = s.loop := rfl
@[simp] theorem State.modSide_drive (g : Bool) (f : SideState → SideState) : (s.modSide g f).drive = s.drive := rfl
@[simp] theorem State.modSide_diag (g : Bool) (f : SideState → SideState) : (s.modSide g f).diag = s.diag := rfl
@[simp] theorem State.modSide_grid (g : Bool) (f : SideState → SideState) : (s.modSide g f).grid = s.grid := rfl
@[simp] theorem State.modSide_relay (g : Bool) (f : SideState → SideState) : (s.modSide g f).relay = s.relay := rfl
@[simp] theorem State.modSide_meter (g : Bool) (f : SideState → SideState) : (s.modSide g f).meter = s.meter := rfl
@[simp] theorem State.modSide_cur (g : Bool) (f : SideState → SideState) : (s.modSide g f).cur = s.cur := rfl
@[simp] theorem State.modSide_pins (g : Bool) (f : SideState → SideState) : (s.modSide g f).pins = s.pins := rfl
@[simp] theorem State.modSide_warden (g : Bool) (f : SideState → SideState) : (s.modSide g f).warden = s.warden := rfl
@[simp] theorem State.modSide_sv (g : Bool) (f : SideState → SideState) : (s.modSide g f).sv = s.sv := rfl
@[simp] theorem State.modSide_start (g : Bool) (f : SideState → SideState) : (s.modSide g f).start = s.start := rfl
@[simp] theorem State.modSide_hok (g : Bool) (f : SideState → SideState) : (s.modSide g f).hok = s.hok := rfl
@[simp] theorem State.modSide_cour (g : Bool) (f : SideState → SideState) : (s.modSide g f).cour = s.cour := rfl
@[simp] theorem State.modSide_ecc (g : Bool) (f : SideState → SideState) : (s.modSide g f).ecc = s.ecc := rfl
@[simp] theorem State.modSide_pending (g : Bool) (f : SideState → SideState) : (s.modSide g f).pending = s.pending := rfl
@[simp] theorem State.modSide_rd (g : Bool) (f : SideState → SideState) (y : Nat) : (s.modSide g f).rd y = s.rd y := rfl
@[simp] theorem State.modSide_get (g : Bool) (f : SideState → SideState) (y : Fld) : (s.modSide g f).get y = s.get y := rfl
@[simp] theorem State.modSide_flag (g : Bool) (f : SideState → SideState) (y : Fld) : (s.modSide g f).flag y = s.flag y := rfl
@[simp] theorem State.modSide_getS (g : Bool) (f : SideState → SideState) (y : Fld) : (s.modSide g f).getS y = s.getS y := rfl

/-! ### modHb -/

@[simp] theorem State.modHb_regs (h : Nat) (f : HalfBridge → HalfBridge) : (s.modHb h f).regs = s.regs := rfl
@[simp] theorem State.modHb_mem (h : Nat) (f : HalfBridge → HalfBridge) : (s.modHb h f).mem = s.mem := rfl
@[simp] theorem State.modHb_shadow (h : Nat) (f : HalfBridge → HalfBridge) : (s.modHb h f).shadow = s.shadow := rfl
@[simp] theorem State.modHb_epoch (h : Nat) (f : HalfBridge → HalfBridge) : (s.modHb h f).epoch = s.epoch := rfl
@[simp] theorem State.modHb_draws (h : Nat) (f : HalfBridge → HalfBridge) : (s.modHb h f).draws = s.draws := rfl
@[simp] theorem State.modHb_raised (h : Nat) (f : HalfBridge → HalfBridge) : (s.modHb h f).raised = s.raised := rfl
@[simp] theorem State.modHb_resp (h : Nat) (f : HalfBridge → HalfBridge) : (s.modHb h f).resp = s.resp := rfl
@[simp] theorem State.modHb_img (h : Nat) (f : HalfBridge → HalfBridge) : (s.modHb h f).img = s.img := rfl
@[simp] theorem State.modHb_clk (h : Nat) (f : HalfBridge → HalfBridge) : (s.modHb h f).clk = s.clk := rfl
@[simp] theorem State.modHb_ep (h : Nat) (f : HalfBridge → HalfBridge) : (s.modHb h f).ep = s.ep := rfl
@[simp] theorem State.modHb_pwm (h : Nat) (f : HalfBridge → HalfBridge) : (s.modHb h f).pwm = s.pwm := rfl
@[simp] theorem State.modHb_plinth (h : Nat) (f : HalfBridge → HalfBridge) : (s.modHb h f).plinth = s.plinth := rfl
@[simp] theorem State.modHb_sens (h : Nat) (f : HalfBridge → HalfBridge) : (s.modHb h f).sens = s.sens := rfl
@[simp] theorem State.modHb_wcmp (h : Nat) (f : HalfBridge → HalfBridge) : (s.modHb h f).wcmp = s.wcmp := rfl
@[simp] theorem State.modHb_loop (h : Nat) (f : HalfBridge → HalfBridge) : (s.modHb h f).loop = s.loop := rfl
@[simp] theorem State.modHb_diag (h : Nat) (f : HalfBridge → HalfBridge) : (s.modHb h f).diag = s.diag := rfl
@[simp] theorem State.modHb_grid (h : Nat) (f : HalfBridge → HalfBridge) : (s.modHb h f).grid = s.grid := rfl
@[simp] theorem State.modHb_relay (h : Nat) (f : HalfBridge → HalfBridge) : (s.modHb h f).relay = s.relay := rfl
@[simp] theorem State.modHb_meter (h : Nat) (f : HalfBridge → HalfBridge) : (s.modHb h f).meter = s.meter := rfl
@[simp] theorem State.modHb_cur (h : Nat) (f : HalfBridge → HalfBridge) : (s.modHb h f).cur = s.cur := rfl
@[simp] theorem State.modHb_pins (h : Nat) (f : HalfBridge → HalfBridge) : (s.modHb h f).pins = s.pins := rfl
@[simp] theorem State.modHb_warden (h : Nat) (f : HalfBridge → HalfBridge) : (s.modHb h f).warden = s.warden := rfl
@[simp] theorem State.modHb_sv (h : Nat) (f : HalfBridge → HalfBridge) : (s.modHb h f).sv = s.sv := rfl
@[simp] theorem State.modHb_start (h : Nat) (f : HalfBridge → HalfBridge) : (s.modHb h f).start = s.start := rfl
@[simp] theorem State.modHb_hok (h : Nat) (f : HalfBridge → HalfBridge) : (s.modHb h f).hok = s.hok := rfl
@[simp] theorem State.modHb_cour (h : Nat) (f : HalfBridge → HalfBridge) : (s.modHb h f).cour = s.cour := rfl
@[simp] theorem State.modHb_ecc (h : Nat) (f : HalfBridge → HalfBridge) : (s.modHb h f).ecc = s.ecc := rfl
@[simp] theorem State.modHb_pending (h : Nat) (f : HalfBridge → HalfBridge) : (s.modHb h f).pending = s.pending := rfl
@[simp] theorem State.modHb_rd (h : Nat) (f : HalfBridge → HalfBridge) (y : Nat) : (s.modHb h f).rd y = s.rd y := rfl
@[simp] theorem State.modHb_get (h : Nat) (f : HalfBridge → HalfBridge) (y : Fld) : (s.modHb h f).get y = s.get y := rfl
@[simp] theorem State.modHb_flag (h : Nat) (f : HalfBridge → HalfBridge) (y : Fld) : (s.modHb h f).flag y = s.flag y := rfl
@[simp] theorem State.modHb_getS (h : Nat) (f : HalfBridge → HalfBridge) (y : Fld) : (s.modHb h f).getS y = s.getS y := rfl

/-! ### modLane -/

@[simp] theorem State.modLane_regs (l : Nat) (f : Lane → Lane) : (s.modLane l f).regs = s.regs := rfl
@[simp] theorem State.modLane_mem (l : Nat) (f : Lane → Lane) : (s.modLane l f).mem = s.mem := rfl
@[simp] theorem State.modLane_shadow (l : Nat) (f : Lane → Lane) : (s.modLane l f).shadow = s.shadow := rfl
@[simp] theorem State.modLane_epoch (l : Nat) (f : Lane → Lane) : (s.modLane l f).epoch = s.epoch := rfl
@[simp] theorem State.modLane_draws (l : Nat) (f : Lane → Lane) : (s.modLane l f).draws = s.draws := rfl
@[simp] theorem State.modLane_raised (l : Nat) (f : Lane → Lane) : (s.modLane l f).raised = s.raised := rfl
@[simp] theorem State.modLane_resp (l : Nat) (f : Lane → Lane) : (s.modLane l f).resp = s.resp := rfl
@[simp] theorem State.modLane_img (l : Nat) (f : Lane → Lane) : (s.modLane l f).img = s.img := rfl
@[simp] theorem State.modLane_clk (l : Nat) (f : Lane → Lane) : (s.modLane l f).clk = s.clk := rfl
@[simp] theorem State.modLane_ep (l : Nat) (f : Lane → Lane) : (s.modLane l f).ep = s.ep := rfl
@[simp] theorem State.modLane_pwm (l : Nat) (f : Lane → Lane) : (s.modLane l f).pwm = s.pwm := rfl
@[simp] theorem State.modLane_plinth (l : Nat) (f : Lane → Lane) : (s.modLane l f).plinth = s.plinth := rfl
@[simp] theorem State.modLane_sens (l : Nat) (f : Lane → Lane) : (s.modLane l f).sens = s.sens := rfl
@[simp] theorem State.modLane_wcmp (l : Nat) (f : Lane → Lane) : (s.modLane l f).wcmp = s.wcmp := rfl
@[simp] theorem State.modLane_loop (l : Nat) (f : Lane → Lane) : (s.modLane l f).loop = s.loop := rfl
@[simp] theorem State.modLane_diag (l : Nat) (f : Lane → Lane) : (s.modLane l f).diag = s.diag := rfl
@[simp] theorem State.modLane_grid (l : Nat) (f : Lane → Lane) : (s.modLane l f).grid = s.grid := rfl
@[simp] theorem State.modLane_relay (l : Nat) (f : Lane → Lane) : (s.modLane l f).relay = s.relay := rfl
@[simp] theorem State.modLane_meter (l : Nat) (f : Lane → Lane) : (s.modLane l f).meter = s.meter := rfl
@[simp] theorem State.modLane_cur (l : Nat) (f : Lane → Lane) : (s.modLane l f).cur = s.cur := rfl
@[simp] theorem State.modLane_pins (l : Nat) (f : Lane → Lane) : (s.modLane l f).pins = s.pins := rfl
@[simp] theorem State.modLane_warden (l : Nat) (f : Lane → Lane) : (s.modLane l f).warden = s.warden := rfl
@[simp] theorem State.modLane_sv (l : Nat) (f : Lane → Lane) : (s.modLane l f).sv = s.sv := rfl
@[simp] theorem State.modLane_start (l : Nat) (f : Lane → Lane) : (s.modLane l f).start = s.start := rfl
@[simp] theorem State.modLane_hok (l : Nat) (f : Lane → Lane) : (s.modLane l f).hok = s.hok := rfl
@[simp] theorem State.modLane_cour (l : Nat) (f : Lane → Lane) : (s.modLane l f).cour = s.cour := rfl
@[simp] theorem State.modLane_ecc (l : Nat) (f : Lane → Lane) : (s.modLane l f).ecc = s.ecc := rfl
@[simp] theorem State.modLane_pending (l : Nat) (f : Lane → Lane) : (s.modLane l f).pending = s.pending := rfl
@[simp] theorem State.modLane_rd (l : Nat) (f : Lane → Lane) (y : Nat) : (s.modLane l f).rd y = s.rd y := rfl
@[simp] theorem State.modLane_get (l : Nat) (f : Lane → Lane) (y : Fld) : (s.modLane l f).get y = s.get y := rfl
@[simp] theorem State.modLane_flag (l : Nat) (f : Lane → Lane) (y : Fld) : (s.modLane l f).flag y = s.flag y := rfl
@[simp] theorem State.modLane_getS (l : Nat) (f : Lane → Lane) (y : Fld) : (s.modLane l f).getS y = s.getS y := rfl

/-! ### modWc -/

@[simp] theorem State.modWc_regs (c : Nat) (f : WcState → WcState) : (s.modWc c f).regs = s.regs := rfl
@[simp] theorem State.modWc_mem (c : Nat) (f : WcState → WcState) : (s.modWc c f).mem = s.mem := rfl
@[simp] theorem State.modWc_shadow (c : Nat) (f : WcState → WcState) : (s.modWc c f).shadow = s.shadow := rfl
@[simp] theorem State.modWc_epoch (c : Nat) (f : WcState → WcState) : (s.modWc c f).epoch = s.epoch := rfl
@[simp] theorem State.modWc_draws (c : Nat) (f : WcState → WcState) : (s.modWc c f).draws = s.draws := rfl
@[simp] theorem State.modWc_raised (c : Nat) (f : WcState → WcState) : (s.modWc c f).raised = s.raised := rfl
@[simp] theorem State.modWc_resp (c : Nat) (f : WcState → WcState) : (s.modWc c f).resp = s.resp := rfl
@[simp] theorem State.modWc_img (c : Nat) (f : WcState → WcState) : (s.modWc c f).img = s.img := rfl
@[simp] theorem State.modWc_clk (c : Nat) (f : WcState → WcState) : (s.modWc c f).clk = s.clk := rfl
@[simp] theorem State.modWc_ep (c : Nat) (f : WcState → WcState) : (s.modWc c f).ep = s.ep := rfl
@[simp] theorem State.modWc_pwm (c : Nat) (f : WcState → WcState) : (s.modWc c f).pwm = s.pwm := rfl
@[simp] theorem State.modWc_plinth (c : Nat) (f : WcState → WcState) : (s.modWc c f).plinth = s.plinth := rfl
@[simp] theorem State.modWc_sens (c : Nat) (f : WcState → WcState) : (s.modWc c f).sens = s.sens := rfl
@[simp] theorem State.modWc_loop (c : Nat) (f : WcState → WcState) : (s.modWc c f).loop = s.loop := rfl
@[simp] theorem State.modWc_drive (c : Nat) (f : WcState → WcState) : (s.modWc c f).drive = s.drive := rfl
@[simp] theorem State.modWc_diag (c : Nat) (f : WcState → WcState) : (s.modWc c f).diag = s.diag := rfl
@[simp] theorem State.modWc_grid (c : Nat) (f : WcState → WcState) : (s.modWc c f).grid = s.grid := rfl
@[simp] theorem State.modWc_relay (c : Nat) (f : WcState → WcState) : (s.modWc c f).relay = s.relay := rfl
@[simp] theorem State.modWc_meter (c : Nat) (f : WcState → WcState) : (s.modWc c f).meter = s.meter := rfl
@[simp] theorem State.modWc_cur (c : Nat) (f : WcState → WcState) : (s.modWc c f).cur = s.cur := rfl
@[simp] theorem State.modWc_pins (c : Nat) (f : WcState → WcState) : (s.modWc c f).pins = s.pins := rfl
@[simp] theorem State.modWc_warden (c : Nat) (f : WcState → WcState) : (s.modWc c f).warden = s.warden := rfl
@[simp] theorem State.modWc_sv (c : Nat) (f : WcState → WcState) : (s.modWc c f).sv = s.sv := rfl
@[simp] theorem State.modWc_start (c : Nat) (f : WcState → WcState) : (s.modWc c f).start = s.start := rfl
@[simp] theorem State.modWc_hok (c : Nat) (f : WcState → WcState) : (s.modWc c f).hok = s.hok := rfl
@[simp] theorem State.modWc_cour (c : Nat) (f : WcState → WcState) : (s.modWc c f).cour = s.cour := rfl
@[simp] theorem State.modWc_ecc (c : Nat) (f : WcState → WcState) : (s.modWc c f).ecc = s.ecc := rfl
@[simp] theorem State.modWc_pending (c : Nat) (f : WcState → WcState) : (s.modWc c f).pending = s.pending := rfl
@[simp] theorem State.modWc_rd (c : Nat) (f : WcState → WcState) (y : Nat) : (s.modWc c f).rd y = s.rd y := rfl
@[simp] theorem State.modWc_get (c : Nat) (f : WcState → WcState) (y : Fld) : (s.modWc c f).get y = s.get y := rfl
@[simp] theorem State.modWc_flag (c : Nat) (f : WcState → WcState) (y : Fld) : (s.modWc c f).flag y = s.flag y := rfl
@[simp] theorem State.modWc_getS (c : Nat) (f : WcState → WcState) (y : Fld) : (s.modWc c f).getS y = s.getS y := rfl

/-! ### modArc -/

@[simp] theorem State.modArc_regs (x : Nat) (f : ArcIn → ArcIn) : (s.modArc x f).regs = s.regs := rfl
@[simp] theorem State.modArc_mem (x : Nat) (f : ArcIn → ArcIn) : (s.modArc x f).mem = s.mem := rfl
@[simp] theorem State.modArc_shadow (x : Nat) (f : ArcIn → ArcIn) : (s.modArc x f).shadow = s.shadow := rfl
@[simp] theorem State.modArc_epoch (x : Nat) (f : ArcIn → ArcIn) : (s.modArc x f).epoch = s.epoch := rfl
@[simp] theorem State.modArc_draws (x : Nat) (f : ArcIn → ArcIn) : (s.modArc x f).draws = s.draws := rfl
@[simp] theorem State.modArc_raised (x : Nat) (f : ArcIn → ArcIn) : (s.modArc x f).raised = s.raised := rfl
@[simp] theorem State.modArc_resp (x : Nat) (f : ArcIn → ArcIn) : (s.modArc x f).resp = s.resp := rfl
@[simp] theorem State.modArc_img (x : Nat) (f : ArcIn → ArcIn) : (s.modArc x f).img = s.img := rfl
@[simp] theorem State.modArc_clk (x : Nat) (f : ArcIn → ArcIn) : (s.modArc x f).clk = s.clk := rfl
@[simp] theorem State.modArc_ep (x : Nat) (f : ArcIn → ArcIn) : (s.modArc x f).ep = s.ep := rfl
@[simp] theorem State.modArc_pwm (x : Nat) (f : ArcIn → ArcIn) : (s.modArc x f).pwm = s.pwm := rfl
@[simp] theorem State.modArc_plinth (x : Nat) (f : ArcIn → ArcIn) : (s.modArc x f).plinth = s.plinth := rfl
@[simp] theorem State.modArc_sens (x : Nat) (f : ArcIn → ArcIn) : (s.modArc x f).sens = s.sens := rfl
@[simp] theorem State.modArc_wcmp (x : Nat) (f : ArcIn → ArcIn) : (s.modArc x f).wcmp = s.wcmp := rfl
@[simp] theorem State.modArc_loop (x : Nat) (f : ArcIn → ArcIn) : (s.modArc x f).loop = s.loop := rfl
@[simp] theorem State.modArc_drive (x : Nat) (f : ArcIn → ArcIn) : (s.modArc x f).drive = s.drive := rfl
@[simp] theorem State.modArc_grid (x : Nat) (f : ArcIn → ArcIn) : (s.modArc x f).grid = s.grid := rfl
@[simp] theorem State.modArc_relay (x : Nat) (f : ArcIn → ArcIn) : (s.modArc x f).relay = s.relay := rfl
@[simp] theorem State.modArc_meter (x : Nat) (f : ArcIn → ArcIn) : (s.modArc x f).meter = s.meter := rfl
@[simp] theorem State.modArc_cur (x : Nat) (f : ArcIn → ArcIn) : (s.modArc x f).cur = s.cur := rfl
@[simp] theorem State.modArc_pins (x : Nat) (f : ArcIn → ArcIn) : (s.modArc x f).pins = s.pins := rfl
@[simp] theorem State.modArc_warden (x : Nat) (f : ArcIn → ArcIn) : (s.modArc x f).warden = s.warden := rfl
@[simp] theorem State.modArc_sv (x : Nat) (f : ArcIn → ArcIn) : (s.modArc x f).sv = s.sv := rfl
@[simp] theorem State.modArc_start (x : Nat) (f : ArcIn → ArcIn) : (s.modArc x f).start = s.start := rfl
@[simp] theorem State.modArc_hok (x : Nat) (f : ArcIn → ArcIn) : (s.modArc x f).hok = s.hok := rfl
@[simp] theorem State.modArc_cour (x : Nat) (f : ArcIn → ArcIn) : (s.modArc x f).cour = s.cour := rfl
@[simp] theorem State.modArc_ecc (x : Nat) (f : ArcIn → ArcIn) : (s.modArc x f).ecc = s.ecc := rfl
@[simp] theorem State.modArc_pending (x : Nat) (f : ArcIn → ArcIn) : (s.modArc x f).pending = s.pending := rfl
@[simp] theorem State.modArc_rd (x : Nat) (f : ArcIn → ArcIn) (y : Nat) : (s.modArc x f).rd y = s.rd y := rfl
@[simp] theorem State.modArc_get (x : Nat) (f : ArcIn → ArcIn) (y : Fld) : (s.modArc x f).get y = s.get y := rfl
@[simp] theorem State.modArc_flag (x : Nat) (f : ArcIn → ArcIn) (y : Fld) : (s.modArc x f).flag y = s.flag y := rfl
@[simp] theorem State.modArc_getS (x : Nat) (f : ArcIn → ArcIn) (y : Fld) : (s.modArc x f).getS y = s.getS y := rfl

/-! ### modIv -/

@[simp] theorem State.modIv_regs (x : Nat) (f : IvTrace → IvTrace) : (s.modIv x f).regs = s.regs := rfl
@[simp] theorem State.modIv_mem (x : Nat) (f : IvTrace → IvTrace) : (s.modIv x f).mem = s.mem := rfl
@[simp] theorem State.modIv_shadow (x : Nat) (f : IvTrace → IvTrace) : (s.modIv x f).shadow = s.shadow := rfl
@[simp] theorem State.modIv_epoch (x : Nat) (f : IvTrace → IvTrace) : (s.modIv x f).epoch = s.epoch := rfl
@[simp] theorem State.modIv_draws (x : Nat) (f : IvTrace → IvTrace) : (s.modIv x f).draws = s.draws := rfl
@[simp] theorem State.modIv_raised (x : Nat) (f : IvTrace → IvTrace) : (s.modIv x f).raised = s.raised := rfl
@[simp] theorem State.modIv_resp (x : Nat) (f : IvTrace → IvTrace) : (s.modIv x f).resp = s.resp := rfl
@[simp] theorem State.modIv_img (x : Nat) (f : IvTrace → IvTrace) : (s.modIv x f).img = s.img := rfl
@[simp] theorem State.modIv_clk (x : Nat) (f : IvTrace → IvTrace) : (s.modIv x f).clk = s.clk := rfl
@[simp] theorem State.modIv_ep (x : Nat) (f : IvTrace → IvTrace) : (s.modIv x f).ep = s.ep := rfl
@[simp] theorem State.modIv_pwm (x : Nat) (f : IvTrace → IvTrace) : (s.modIv x f).pwm = s.pwm := rfl
@[simp] theorem State.modIv_plinth (x : Nat) (f : IvTrace → IvTrace) : (s.modIv x f).plinth = s.plinth := rfl
@[simp] theorem State.modIv_sens (x : Nat) (f : IvTrace → IvTrace) : (s.modIv x f).sens = s.sens := rfl
@[simp] theorem State.modIv_wcmp (x : Nat) (f : IvTrace → IvTrace) : (s.modIv x f).wcmp = s.wcmp := rfl
@[simp] theorem State.modIv_loop (x : Nat) (f : IvTrace → IvTrace) : (s.modIv x f).loop = s.loop := rfl
@[simp] theorem State.modIv_drive (x : Nat) (f : IvTrace → IvTrace) : (s.modIv x f).drive = s.drive := rfl
@[simp] theorem State.modIv_grid (x : Nat) (f : IvTrace → IvTrace) : (s.modIv x f).grid = s.grid := rfl
@[simp] theorem State.modIv_relay (x : Nat) (f : IvTrace → IvTrace) : (s.modIv x f).relay = s.relay := rfl
@[simp] theorem State.modIv_meter (x : Nat) (f : IvTrace → IvTrace) : (s.modIv x f).meter = s.meter := rfl
@[simp] theorem State.modIv_cur (x : Nat) (f : IvTrace → IvTrace) : (s.modIv x f).cur = s.cur := rfl
@[simp] theorem State.modIv_pins (x : Nat) (f : IvTrace → IvTrace) : (s.modIv x f).pins = s.pins := rfl
@[simp] theorem State.modIv_warden (x : Nat) (f : IvTrace → IvTrace) : (s.modIv x f).warden = s.warden := rfl
@[simp] theorem State.modIv_sv (x : Nat) (f : IvTrace → IvTrace) : (s.modIv x f).sv = s.sv := rfl
@[simp] theorem State.modIv_start (x : Nat) (f : IvTrace → IvTrace) : (s.modIv x f).start = s.start := rfl
@[simp] theorem State.modIv_hok (x : Nat) (f : IvTrace → IvTrace) : (s.modIv x f).hok = s.hok := rfl
@[simp] theorem State.modIv_cour (x : Nat) (f : IvTrace → IvTrace) : (s.modIv x f).cour = s.cour := rfl
@[simp] theorem State.modIv_ecc (x : Nat) (f : IvTrace → IvTrace) : (s.modIv x f).ecc = s.ecc := rfl
@[simp] theorem State.modIv_pending (x : Nat) (f : IvTrace → IvTrace) : (s.modIv x f).pending = s.pending := rfl
@[simp] theorem State.modIv_rd (x : Nat) (f : IvTrace → IvTrace) (y : Nat) : (s.modIv x f).rd y = s.rd y := rfl
@[simp] theorem State.modIv_get (x : Nat) (f : IvTrace → IvTrace) (y : Fld) : (s.modIv x f).get y = s.get y := rfl
@[simp] theorem State.modIv_flag (x : Nat) (f : IvTrace → IvTrace) (y : Fld) : (s.modIv x f).flag y = s.flag y := rfl
@[simp] theorem State.modIv_getS (x : Nat) (f : IvTrace → IvTrace) (y : Fld) : (s.modIv x f).getS y = s.getS y := rfl

/-! ### toShadow -/

@[simp] theorem State.toShadow_regs (f : Fld) (v : Nat) : (s.toShadow f v).regs = s.regs := rfl
@[simp] theorem State.toShadow_mem (f : Fld) (v : Nat) : (s.toShadow f v).mem = s.mem := rfl
@[simp] theorem State.toShadow_epoch (f : Fld) (v : Nat) : (s.toShadow f v).epoch = s.epoch := rfl
@[simp] theorem State.toShadow_draws (f : Fld) (v : Nat) : (s.toShadow f v).draws = s.draws := rfl
@[simp] theorem State.toShadow_raised (f : Fld) (v : Nat) : (s.toShadow f v).raised = s.raised := rfl
@[simp] theorem State.toShadow_resp (f : Fld) (v : Nat) : (s.toShadow f v).resp = s.resp := rfl
@[simp] theorem State.toShadow_img (f : Fld) (v : Nat) : (s.toShadow f v).img = s.img := rfl
@[simp] theorem State.toShadow_clk (f : Fld) (v : Nat) : (s.toShadow f v).clk = s.clk := rfl
@[simp] theorem State.toShadow_ep (f : Fld) (v : Nat) : (s.toShadow f v).ep = s.ep := rfl
@[simp] theorem State.toShadow_pwm (f : Fld) (v : Nat) : (s.toShadow f v).pwm = s.pwm := rfl
@[simp] theorem State.toShadow_plinth (f : Fld) (v : Nat) : (s.toShadow f v).plinth = s.plinth := rfl
@[simp] theorem State.toShadow_sens (f : Fld) (v : Nat) : (s.toShadow f v).sens = s.sens := rfl
@[simp] theorem State.toShadow_wcmp (f : Fld) (v : Nat) : (s.toShadow f v).wcmp = s.wcmp := rfl
@[simp] theorem State.toShadow_loop (f : Fld) (v : Nat) : (s.toShadow f v).loop = s.loop := rfl
@[simp] theorem State.toShadow_drive (f : Fld) (v : Nat) : (s.toShadow f v).drive = s.drive := rfl
@[simp] theorem State.toShadow_diag (f : Fld) (v : Nat) : (s.toShadow f v).diag = s.diag := rfl
@[simp] theorem State.toShadow_grid (f : Fld) (v : Nat) : (s.toShadow f v).grid = s.grid := rfl
@[simp] theorem State.toShadow_relay (f : Fld) (v : Nat) : (s.toShadow f v).relay = s.relay := rfl
@[simp] theorem State.toShadow_meter (f : Fld) (v : Nat) : (s.toShadow f v).meter = s.meter := rfl
@[simp] theorem State.toShadow_cur (f : Fld) (v : Nat) : (s.toShadow f v).cur = s.cur := rfl
@[simp] theorem State.toShadow_pins (f : Fld) (v : Nat) : (s.toShadow f v).pins = s.pins := rfl
@[simp] theorem State.toShadow_warden (f : Fld) (v : Nat) : (s.toShadow f v).warden = s.warden := rfl
@[simp] theorem State.toShadow_sv (f : Fld) (v : Nat) : (s.toShadow f v).sv = s.sv := rfl
@[simp] theorem State.toShadow_start (f : Fld) (v : Nat) : (s.toShadow f v).start = s.start := rfl
@[simp] theorem State.toShadow_hok (f : Fld) (v : Nat) : (s.toShadow f v).hok = s.hok := rfl
@[simp] theorem State.toShadow_cour (f : Fld) (v : Nat) : (s.toShadow f v).cour = s.cour := rfl
@[simp] theorem State.toShadow_ecc (f : Fld) (v : Nat) : (s.toShadow f v).ecc = s.ecc := rfl
@[simp] theorem State.toShadow_pending (f : Fld) (v : Nat) : (s.toShadow f v).pending = s.pending := rfl
@[simp] theorem State.toShadow_rd (f : Fld) (v : Nat) (y : Nat) : (s.toShadow f v).rd y = s.rd y := rfl
@[simp] theorem State.toShadow_get (f : Fld) (v : Nat) (y : Fld) : (s.toShadow f v).get y = s.get y := rfl
@[simp] theorem State.toShadow_flag (f : Fld) (v : Nat) (y : Fld) : (s.toShadow f v).flag y = s.flag y := rfl
@[simp] theorem State.toShadow_getS (f : Fld) (v : Nat) (y : Fld) : (s.toShadow f v).getS y = s.getS y := rfl

/-! ### dropShadow -/

@[simp] theorem State.dropShadow_regs (a : Nat) : (s.dropShadow a).regs = s.regs := rfl
@[simp] theorem State.dropShadow_mem (a : Nat) : (s.dropShadow a).mem = s.mem := rfl
@[simp] theorem State.dropShadow_epoch (a : Nat) : (s.dropShadow a).epoch = s.epoch := rfl
@[simp] theorem State.dropShadow_draws (a : Nat) : (s.dropShadow a).draws = s.draws := rfl
@[simp] theorem State.dropShadow_raised (a : Nat) : (s.dropShadow a).raised = s.raised := rfl
@[simp] theorem State.dropShadow_resp (a : Nat) : (s.dropShadow a).resp = s.resp := rfl
@[simp] theorem State.dropShadow_img (a : Nat) : (s.dropShadow a).img = s.img := rfl
@[simp] theorem State.dropShadow_clk (a : Nat) : (s.dropShadow a).clk = s.clk := rfl
@[simp] theorem State.dropShadow_ep (a : Nat) : (s.dropShadow a).ep = s.ep := rfl
@[simp] theorem State.dropShadow_pwm (a : Nat) : (s.dropShadow a).pwm = s.pwm := rfl
@[simp] theorem State.dropShadow_plinth (a : Nat) : (s.dropShadow a).plinth = s.plinth := rfl
@[simp] theorem State.dropShadow_sens (a : Nat) : (s.dropShadow a).sens = s.sens := rfl
@[simp] theorem State.dropShadow_wcmp (a : Nat) : (s.dropShadow a).wcmp = s.wcmp := rfl
@[simp] theorem State.dropShadow_loop (a : Nat) : (s.dropShadow a).loop = s.loop := rfl
@[simp] theorem State.dropShadow_drive (a : Nat) : (s.dropShadow a).drive = s.drive := rfl
@[simp] theorem State.dropShadow_diag (a : Nat) : (s.dropShadow a).diag = s.diag := rfl
@[simp] theorem State.dropShadow_grid (a : Nat) : (s.dropShadow a).grid = s.grid := rfl
@[simp] theorem State.dropShadow_relay (a : Nat) : (s.dropShadow a).relay = s.relay := rfl
@[simp] theorem State.dropShadow_meter (a : Nat) : (s.dropShadow a).meter = s.meter := rfl
@[simp] theorem State.dropShadow_cur (a : Nat) : (s.dropShadow a).cur = s.cur := rfl
@[simp] theorem State.dropShadow_pins (a : Nat) : (s.dropShadow a).pins = s.pins := rfl
@[simp] theorem State.dropShadow_warden (a : Nat) : (s.dropShadow a).warden = s.warden := rfl
@[simp] theorem State.dropShadow_sv (a : Nat) : (s.dropShadow a).sv = s.sv := rfl
@[simp] theorem State.dropShadow_start (a : Nat) : (s.dropShadow a).start = s.start := rfl
@[simp] theorem State.dropShadow_hok (a : Nat) : (s.dropShadow a).hok = s.hok := rfl
@[simp] theorem State.dropShadow_cour (a : Nat) : (s.dropShadow a).cour = s.cour := rfl
@[simp] theorem State.dropShadow_ecc (a : Nat) : (s.dropShadow a).ecc = s.ecc := rfl
@[simp] theorem State.dropShadow_pending (a : Nat) : (s.dropShadow a).pending = s.pending := rfl
@[simp] theorem State.dropShadow_rd (a : Nat) (y : Nat) : (s.dropShadow a).rd y = s.rd y := rfl
@[simp] theorem State.dropShadow_get (a : Nat) (y : Fld) : (s.dropShadow a).get y = s.get y := rfl
@[simp] theorem State.dropShadow_flag (a : Nat) (y : Fld) : (s.dropShadow a).flag y = s.flag y := rfl
@[simp] theorem State.dropShadow_getS (a : Nat) (y : Fld) : (s.dropShadow a).getS y = s.getS y := rfl

end Sys2Proof.Machine
end

