-- ==== Sys2Proof/Laws/Fields.lean ====
section
/-!
SUPPORT. Reading registers and fields after they are written; that register and memory writes keep the maps' canonical form.
-/

namespace Sys2Proof.Machine

/-! ### Registers -/

@[simp] theorem State.rd_wr_self (s : State) (a : Nat) (v : Word) : (s.wr a v).rd a = v := by
  simp [State.rd, State.wr]

theorem State.rd_wr_ne (s : State) (a b : Nat) (v : Word) (h : b ≠ a) : (s.wr a v).rd b = s.rd b := by
  simp [State.rd, State.wr, SMap.get_set, h]

theorem State.rd_wr (s : State) (a b : Nat) (v : Word) : (s.wr a v).rd b = if b = a then v else s.rd b := by
  simp [State.rd, State.wr, SMap.get_set]

/-! ### Fields -/

/-- A field that was put reads its value. -/
theorem State.get_put_self (s : State) (f : Fld) (v : Nat) (h : f.lo + f.len ≤ 32) : (s.put f v).get f = v % 2 ^ f.len := by
  simp only [State.get, State.put, State.rd_wr_self, w32_toNat]
  rw [bitsOf_mod _ _ _ _ h, bitsOf_bitsPut_self]

/-- A field of another register reads as before. -/
theorem State.get_put_addr (s : State) (f g : Fld) (v : Nat) (h : g.addr ≠ f.addr) : (s.put f v).get g = s.get g := by
  simp only [State.get, State.put, State.rd_wr_ne _ _ _ _ h]

/-- Another field of the same register reads as before. -/
theorem State.get_put_bits (s : State) (f g : Fld) (v : Nat) (ha : g.addr = f.addr)
    (hg : g.lo + g.len ≤ 32) (h : g.lo + g.len ≤ f.lo ∨ f.lo + f.len ≤ g.lo) : (s.put f v).get g = s.get g := by
  simp only [State.get, State.put, ha, State.rd_wr_self, w32_toNat]
  rw [bitsOf_mod _ _ _ _ hg]
  rcases h with h | h
  · exact bitsOf_bitsPut_low _ _ _ _ _ _ h
  · exact bitsOf_bitsPut_high _ _ _ _ _ _ h

/-- A field apart from the one that was put reads as before. -/
theorem State.get_put_apart (s : State) (f g : Fld) (v : Nat) (h : f.apart g = true) : (s.put f v).get g = s.get g := by
  by_cases ha : g.addr = f.addr
  · have hb : ¬ (f.addr ≠ g.addr) := fun c => c ha.symm
    simp only [Fld.apart, Bool.or_eq_true, bne_iff_ne, Bool.and_eq_true, decide_eq_true_eq] at h
    rcases h with h | ⟨⟨h1, h2⟩, h3⟩
    · exact absurd h hb
    · exact State.get_put_bits s f g v ha h2 h3
  · exact State.get_put_addr s f g v ha

/-- A flag that was put. -/
theorem State.flag_put_self (s : State) (f : Fld) (v : Nat) (h : f.lo + f.len ≤ 32) :
    (s.put f v).flag f = (v % 2 ^ f.len == 1) := by
  simp only [State.flag, State.get_put_self s f v h]

theorem State.flag_put_apart (s : State) (f g : Fld) (v : Nat) (h : f.apart g = true) : (s.put f v).flag g = s.flag g := by
  simp only [State.flag, State.get_put_apart s f g v h]

theorem State.rd_put_ne (s : State) (f : Fld) (v a : Nat) (h : a ≠ f.addr) : (s.put f v).rd a = s.rd a := by
  simp only [State.put, State.rd_wr_ne _ _ _ _ h]

/-! ### Memory -/

theorem State.rdB_wrB (s : State) (a b : Nat) (v : Byte) :
    (s.wrB a v).rdB b = if memHome b = memHome a then v else s.rdB b := by
  simp [State.rdB, State.wrB, SMap.get_set]

/-! ### The canonical form -/

theorem State.wr_regs_wf (s : State) (a : Nat) (v : Word) (h : s.regs.wf = true) : (s.wr a v).regs.wf = true :=
  SMap.wf_set _ _ _ h

theorem State.put_regs_wf (s : State) (f : Fld) (v : Nat) (h : s.regs.wf = true) : (s.put f v).regs.wf = true :=
  State.wr_regs_wf _ _ _ h

theorem State.wrB_mem_wf (s : State) (a : Nat) (v : Byte) (h : s.mem.wf = true) : (s.wrB a v).mem.wf = true :=
  SMap.wf_set _ _ _ h

theorem State.wrBytes_mem_wf (bs : List Byte) : ∀ (s : State) (a : Nat), s.mem.wf = true → (s.wrBytes a bs).mem.wf = true := by
  induction bs with
  | nil => intro s a h; exact h
  | cons b t ih => intro s a h; exact ih _ _ (State.wrB_mem_wf s a b h)

theorem State.wrW_mem_wf (s : State) (a : Nat) (v : Word) (h : s.mem.wf = true) : (s.wrW a v).mem.wf = true :=
  State.wrBytes_mem_wf _ _ _ h

theorem State.wrB_ecc_wf (s : State) (a : Nat) (v : Byte) (h : s.ecc.wf = true) : (s.wrB a v).ecc.wf = true :=
  SMap.wf_set _ _ _ h

theorem State.wrBytes_ecc_wf (bs : List Byte) : ∀ (s : State) (a : Nat), s.ecc.wf = true → (s.wrBytes a bs).ecc.wf = true := by
  induction bs with
  | nil => intro s a h; exact h
  | cons b t ih => intro s a h; exact ih _ _ (State.wrB_ecc_wf s a b h)

theorem State.wrW_ecc_wf (s : State) (a : Nat) (v : Word) (h : s.ecc.wf = true) : (s.wrW a v).ecc.wf = true :=
  State.wrBytes_ecc_wf _ _ _ h

/-- A store of a byte leaves its ECC word free of a marked error, and every other ECC word as it was (R521, R522). -/
theorem State.eccBad_wrB (s : State) (a b : Nat) (v : Byte) :
    (s.wrB a v).eccBad b = if eccHome b = eccHome a then false else s.eccBad b := by
  simp [State.eccBad, State.wrB, SMap.get_set]

theorem State.memDrop_mem_wf (s : State) (lo hi : Nat) (h : s.mem.wf = true) : (s.memDrop lo hi).mem.wf = true :=
  SMap.wf_filter _ _ h

/-! ### Refusals (R8, R37) -/

/-- Everything a refusal can do: the block's flag sets, and its source is raised where it has one. -/
theorem State.cfgReject_eq (s : State) (b : Blk) :
    s.cfgReject b = s.set1 b.rejectFld ∨ ∃ n, b.rejectSrc = some n ∧ s.cfgReject b = (s.set1 b.rejectFld).raise n := by
  unfold State.cfgReject
  cases h : b.rejectSrc with
  | none => exact .inl rfl
  | some n => exact .inr ⟨n, rfl, rfl⟩

end Sys2Proof.Machine
end

