-- ==== Sys2Proof/Laws/Frame.lean ====
section
/-!
SUPPORT. The frame relations Keeps and KeepsOutside are reflexive and survive every update they allow: a field put, a register
written, a part replaced.
-/

namespace Sys2Proof.Machine

theorem Keeps.refl (fs : List Fld) (ps : List Part) (s : State) : Keeps fs ps s s :=
  ⟨fun _ _ => rfl, fun p _ => by cases p <;> first | rfl | exact ⟨fun _ => rfl, rfl⟩⟩

theorem KeepsOutside.refl (rs : List (Nat × Nat)) (ps : List Part) (s : State) : KeepsOutside rs ps s s :=
  ⟨fun _ _ => rfl, fun p _ => by cases p <;> first | rfl | exact ⟨fun _ => rfl, rfl⟩⟩

theorem Part.same_trans (p : Part) (s t u : State) (h : p.same s t) (k : p.same t u) : p.same s u := by
  cases p <;> first | exact Eq.trans k h | exact ⟨fun a => (k.1 a).trans (h.1 a), k.2.trans h.2⟩

theorem Keeps.trans {fs : List Fld} {ps : List Part} {s t u : State} (h : Keeps fs ps s t) (k : Keeps fs ps t u) :
    Keeps fs ps s u :=
  ⟨fun g hg => (k.1 g hg).trans (h.1 g hg), fun p hp => p.same_trans s t u (h.2 p hp) (k.2 p hp)⟩

theorem KeepsOutside.trans {rs : List (Nat × Nat)} {ps : List Part} {s t u : State} (h : KeepsOutside rs ps s t)
    (k : KeepsOutside rs ps t u) : KeepsOutside rs ps s u :=
  ⟨fun a ha => (k.1 a ha).trans (h.1 a ha), fun p hp => p.same_trans s t u (h.2 p hp) (k.2 p hp)⟩

theorem Keeps.mono {fs fs' : List Fld} {ps ps' : List Part} {s t : State} (h : Keeps fs ps s t)
    (hf : fs ⊆ fs') (hp : ps ⊆ ps') : Keeps fs' ps' s t :=
  ⟨fun g hg => h.1 g fun f m => hg f (hf m), fun p m => h.2 p fun c => m (hp c)⟩

theorem KeepsOutside.mono {rs rs' : List (Nat × Nat)} {ps ps' : List Part} {s t : State} (h : KeepsOutside rs ps s t)
    (hf : rs ⊆ rs') (hp : ps ⊆ ps') : KeepsOutside rs' ps' s t :=
  ⟨fun a ha => h.1 a fun r m => ha r (hf m), fun p m => h.2 p fun c => m (hp c)⟩

theorem Part.same_wr (s : State) (a : Nat) (v : Word) (p : Part) : p.same s (s.wr a v) := by
  cases p <;> first | rfl | exact ⟨fun _ => rfl, rfl⟩

theorem Part.same_put (s : State) (f : Fld) (v : Nat) (p : Part) : p.same s (s.put f v) := Part.same_wr _ _ _ p

theorem Keeps.put {fs : List Fld} {ps : List Part} {s t : State} (h : Keeps fs ps s t) (f : Fld) (v : Nat) (hf : f ∈ fs) :
    Keeps fs ps s (t.put f v) :=
  h.trans ⟨fun g hg => State.get_put_apart t f g v (hg f hf), fun p _ => Part.same_put t f v p⟩

theorem Keeps.wr {fs : List Fld} {ps : List Part} {s t : State} (h : Keeps fs ps s t) (a : Nat) (v : Word)
    (hf : whole a ∈ fs) : Keeps fs ps s (t.wr a v) := by
  refine h.trans ⟨fun g hg => ?_, fun p _ => Part.same_wr t a v p⟩
  have hg := hg _ hf
  by_cases hl : g.len = 0
  · simp [State.get, bitsOf, hl, Nat.mod_one]
  · have ha : g.addr ≠ a := by
      simp only [Fld.apart, whole, Bool.or_eq_true, bne_iff_ne, Bool.and_eq_true, decide_eq_true_eq] at hg
      rcases hg with hg | hg
      · exact fun c => hg c.symm
      · exfalso
        obtain ⟨⟨-, h1⟩, h2⟩ := hg
        rcases h2 with h2 | h2
        · have h3 : g.lo + g.len ≤ 0 := of_decide_eq_true h2
          exact hl (by omega)
        · have h3 : 0 + 32 ≤ g.lo := of_decide_eq_true h2
          exact hl (by omega)
    simp only [State.get, State.rd_wr_ne _ _ _ _ ha]

theorem KeepsOutside.wr {rs : List (Nat × Nat)} {ps : List Part} {s t : State} (h : KeepsOutside rs ps s t) (a : Nat) (v : Word)
    (hr : ∃ r ∈ rs, r.1 ≤ a ∧ a < r.2) : KeepsOutside rs ps s (t.wr a v) := by
  refine h.trans ⟨fun b hb => State.rd_wr_ne _ _ _ _ ?_, fun p _ => Part.same_wr t a v p⟩
  rintro rfl
  obtain ⟨r, m, h1, h2⟩ := hr
  have := hb r m
  omega

theorem KeepsOutside.put {rs : List (Nat × Nat)} {ps : List Part} {s t : State} (h : KeepsOutside rs ps s t) (f : Fld) (v : Nat)
    (hr : ∃ r ∈ rs, r.1 ≤ f.addr ∧ f.addr < r.2) : KeepsOutside rs ps s (t.put f v) := h.wr _ _ hr

/-! ### Parts replaced: Keeps -/

theorem Keeps.mem {fs : List Fld} {ps : List Part} {s t : State} (h : Keeps fs ps s t) (x : SMap Byte) (hp : Part.mem ∈ ps) :
    Keeps fs ps s { t with mem := x } :=
  h.trans ⟨fun _ _ => rfl, fun p m => by cases p <;> first | exact absurd hp m | rfl⟩

theorem Keeps.shadow {fs : List Fld} {ps : List Part} {s t : State} (h : Keeps fs ps s t) (x : SMap Shadow) (hp : Part.shadow ∈ ps) :
    Keeps fs ps s { t with shadow := x } :=
  h.trans ⟨fun _ _ => rfl, fun p m => by cases p <;> first | exact absurd hp m | rfl | exact ⟨fun _ => rfl, rfl⟩⟩

theorem Keeps.epoch {fs : List Fld} {ps : List Part} {s t : State} (h : Keeps fs ps s t) (x : Nat) (hp : Part.epoch ∈ ps) :
    Keeps fs ps s { t with epoch := x } :=
  h.trans ⟨fun _ _ => rfl, fun p m => by cases p <;> first | exact absurd hp m | rfl | exact ⟨fun _ => rfl, rfl⟩⟩

theorem Keeps.draws {fs : List Fld} {ps : List Part} {s t : State} (h : Keeps fs ps s t) (x : Nat) (hp : Part.draws ∈ ps) :
    Keeps fs ps s { t with draws := x } :=
  h.trans ⟨fun _ _ => rfl, fun p m => by cases p <;> first | exact absurd hp m | rfl | exact ⟨fun _ => rfl, rfl⟩⟩

theorem Keeps.raised {fs : List Fld} {ps : List Part} {s t : State} (h : Keeps fs ps s t) (x : List Raise) (hp : Part.raised ∈ ps) :
    Keeps fs ps s { t with raised := x } :=
  h.trans ⟨fun _ _ => rfl, fun p m => by cases p <;> first | exact absurd hp m | rfl | exact ⟨fun _ => rfl, rfl⟩⟩

theorem Keeps.resp {fs : List Fld} {ps : List Part} {s t : State} (h : Keeps fs ps s t) (x : Response) (hp : Part.resp ∈ ps) :
    Keeps fs ps s { t with resp := x } :=
  h.trans ⟨fun _ _ => rfl, fun p m => by cases p <;> first | exact absurd hp m | rfl | exact ⟨fun _ => rfl, rfl⟩⟩

theorem Keeps.img {fs : List Fld} {ps : List Part} {s t : State} (h : Keeps fs ps s t) (x : ImgState) (hp : Part.img ∈ ps) :
    Keeps fs ps s { t with img := x } :=
  h.trans ⟨fun _ _ => rfl, fun p m => by cases p <;> first | exact absurd hp m | rfl | exact ⟨fun _ => rfl, rfl⟩⟩

theorem Keeps.clk {fs : List Fld} {ps : List Part} {s t : State} (h : Keeps fs ps s t) (x : ClkState) (hp : Part.clk ∈ ps) :
    Keeps fs ps s { t with clk := x } :=
  h.trans ⟨fun _ _ => rfl, fun p m => by cases p <;> first | exact absurd hp m | rfl | exact ⟨fun _ => rfl, rfl⟩⟩

theorem Keeps.ep {fs : List Fld} {ps : List Part} {s t : State} (h : Keeps fs ps s t) (x : EpochState) (hp : Part.ep ∈ ps) :
    Keeps fs ps s { t with ep := x } :=
  h.trans ⟨fun _ _ => rfl, fun p m => by cases p <;> first | exact absurd hp m | rfl | exact ⟨fun _ => rfl, rfl⟩⟩

theorem Keeps.pwm {fs : List Fld} {ps : List Part} {s t : State} (h : Keeps fs ps s t) (x : SMap PwmUnit) (hp : Part.pwm ∈ ps) :
    Keeps fs ps s { t with pwm := x } :=
  h.trans ⟨fun _ _ => rfl, fun p m => by cases p <;> first | exact absurd hp m | rfl | exact ⟨fun _ => rfl, rfl⟩⟩

theorem Keeps.plinth {fs : List Fld} {ps : List Part} {s t : State} (h : Keeps fs ps s t) (x : PlinthState) (hp : Part.plinth ∈ ps) :
    Keeps fs ps s { t with plinth := x } :=
  h.trans ⟨fun _ _ => rfl, fun p m => by cases p <;> first | exact absurd hp m | rfl | exact ⟨fun _ => rfl, rfl⟩⟩

theorem Keeps.sens {fs : List Fld} {ps : List Part} {s t : State} (h : Keeps fs ps s t) (x : SensState) (hp : Part.sens ∈ ps) :
    Keeps fs ps s { t with sens := x } :=
  h.trans ⟨fun _ _ => rfl, fun p m => by cases p <;> first | exact absurd hp m | rfl | exact ⟨fun _ => rfl, rfl⟩⟩

theorem Keeps.wcmp {fs : List Fld} {ps : List Part} {s t : State} (h : Keeps fs ps s t) (x : WcmpState) (hp : Part.wcmp ∈ ps) :
    Keeps fs ps s { t with wcmp := x } :=
  h.trans ⟨fun _ _ => rfl, fun p m => by cases p <;> first | exact absurd hp m | rfl | exact ⟨fun _ => rfl, rfl⟩⟩

theorem Keeps.loop {fs : List Fld} {ps : List Part} {s t : State} (h : Keeps fs ps s t) (x : SMap LoopPair) (hp : Part.loop ∈ ps) :
    Keeps fs ps s { t with loop := x } :=
  h.trans ⟨fun _ _ => rfl, fun p m => by cases p <;> first | exact absurd hp m | rfl | exact ⟨fun _ => rfl, rfl⟩⟩

theorem Keeps.drive {fs : List Fld} {ps : List Part} {s t : State} (h : Keeps fs ps s t) (x : DriveState) (hp : Part.drive ∈ ps) :
    Keeps fs ps s { t with drive := x } :=
  h.trans ⟨fun _ _ => rfl, fun p m => by cases p <;> first | exact absurd hp m | rfl | exact ⟨fun _ => rfl, rfl⟩⟩

theorem Keeps.diag {fs : List Fld} {ps : List Part} {s t : State} (h : Keeps fs ps s t) (x : DiagState) (hp : Part.diag ∈ ps) :
    Keeps fs ps s { t with diag := x } :=
  h.trans ⟨fun _ _ => rfl, fun p m => by cases p <;> first | exact absurd hp m | rfl | exact ⟨fun _ => rfl, rfl⟩⟩

theorem Keeps.grid {fs : List Fld} {ps : List Part} {s t : State} (h : Keeps fs ps s t) (x : GridState) (hp : Part.grid ∈ ps) :
    Keeps fs ps s { t with grid := x } :=
  h.trans ⟨fun _ _ => rfl, fun p m => by cases p <;> first | exact absurd hp m | rfl | exact ⟨fun _ => rfl, rfl⟩⟩

theorem Keeps.relay {fs : List Fld} {ps : List Part} {s t : State} (h : Keeps fs ps s t) (x : RelayState) (hp : Part.relay ∈ ps) :
    Keeps fs ps s { t with relay := x } :=
  h.trans ⟨fun _ _ => rfl, fun p m => by cases p <;> first | exact absurd hp m | rfl | exact ⟨fun _ => rfl, rfl⟩⟩

theorem Keeps.meter {fs : List Fld} {ps : List Part} {s t : State} (h : Keeps fs ps s t) (x : MeterState) (hp : Part.meter ∈ ps) :
    Keeps fs ps s { t with meter := x } :=
  h.trans ⟨fun _ _ => rfl, fun p m => by cases p <;> first | exact absurd hp m | rfl | exact ⟨fun _ => rfl, rfl⟩⟩

theorem Keeps.cur {fs : List Fld} {ps : List Part} {s t : State} (h : Keeps fs ps s t) (x : CuratorState) (hp : Part.cur ∈ ps) :
    Keeps fs ps s { t with cur := x } :=
  h.trans ⟨fun _ _ => rfl, fun p m => by cases p <;> first | exact absurd hp m | rfl | exact ⟨fun _ => rfl, rfl⟩⟩

theorem Keeps.pins {fs : List Fld} {ps : List Part} {s t : State} (h : Keeps fs ps s t) (x : PinState) (hp : Part.pins ∈ ps) :
    Keeps fs ps s { t with pins := x } :=
  h.trans ⟨fun _ _ => rfl, fun p m => by cases p <;> first | exact absurd hp m | rfl | exact ⟨fun _ => rfl, rfl⟩⟩

theorem Keeps.warden {fs : List Fld} {ps : List Part} {s t : State} (h : Keeps fs ps s t) (x : WardenState) (hp : Part.warden ∈ ps) :
    Keeps fs ps s { t with warden := x } :=
  h.trans ⟨fun _ _ => rfl, fun p m => by cases p <;> first | exact absurd hp m | rfl | exact ⟨fun _ => rfl, rfl⟩⟩

theorem Keeps.sv {fs : List Fld} {ps : List Part} {s t : State} (h : Keeps fs ps s t) (x : SvState) (hp : Part.sv ∈ ps) :
    Keeps fs ps s { t with sv := x } :=
  h.trans ⟨fun _ _ => rfl, fun p m => by cases p <;> first | exact absurd hp m | rfl | exact ⟨fun _ => rfl, rfl⟩⟩

theorem Keeps.start {fs : List Fld} {ps : List Part} {s t : State} (h : Keeps fs ps s t) (x : StartState) (hp : Part.start ∈ ps) :
    Keeps fs ps s { t with start := x } :=
  h.trans ⟨fun _ _ => rfl, fun p m => by cases p <;> first | exact absurd hp m | rfl | exact ⟨fun _ => rfl, rfl⟩⟩

theorem Keeps.hok {fs : List Fld} {ps : List Part} {s t : State} (h : Keeps fs ps s t) (x : SMap Hok) (hp : Part.hok ∈ ps) :
    Keeps fs ps s { t with hok := x } :=
  h.trans ⟨fun _ _ => rfl, fun p m => by cases p <;> first | exact absurd hp m | rfl | exact ⟨fun _ => rfl, rfl⟩⟩

theorem Keeps.cour {fs : List Fld} {ps : List Part} {s t : State} (h : Keeps fs ps s t) (x : CourState) (hp : Part.cour ∈ ps) :
    Keeps fs ps s { t with cour := x } :=
  h.trans ⟨fun _ _ => rfl, fun p m => by cases p <;> first | exact absurd hp m | rfl | exact ⟨fun _ => rfl, rfl⟩⟩

theorem Keeps.pending {fs : List Fld} {ps : List Part} {s t : State} (h : Keeps fs ps s t) (x : List Instr) (hp : Part.pending ∈ ps) :
    Keeps fs ps s { t with pending := x } :=
  h.trans ⟨fun _ _ => rfl, fun p m => by cases p <;> first | exact absurd hp m | rfl | exact ⟨fun _ => rfl, rfl⟩⟩

/-! ### Parts replaced: KeepsOutside -/

theorem KeepsOutside.mem {rs : List (Nat × Nat)} {ps : List Part} {s t : State} (h : KeepsOutside rs ps s t) (x : SMap Byte) (hp : Part.mem ∈ ps) :
    KeepsOutside rs ps s { t with mem := x } :=
  h.trans ⟨fun _ _ => rfl, fun p m => by cases p <;> first | exact absurd hp m | rfl⟩

theorem KeepsOutside.shadow {rs : List (Nat × Nat)} {ps : List Part} {s t : State} (h : KeepsOutside rs ps s t) (x : SMap Shadow) (hp : Part.shadow ∈ ps) :
    KeepsOutside rs ps s { t with shadow := x } :=
  h.trans ⟨fun _ _ => rfl, fun p m => by cases p <;> first | exact absurd hp m | rfl | exact ⟨fun _ => rfl, rfl⟩⟩

theorem KeepsOutside.epoch {rs : List (Nat × Nat)} {ps : List Part} {s t : State} (h : KeepsOutside rs ps s t) (x : Nat) (hp : Part.epoch ∈ ps) :
    KeepsOutside rs ps s { t with epoch := x } :=
  h.trans ⟨fun _ _ => rfl, fun p m => by cases p <;> first | exact absurd hp m | rfl | exact ⟨fun _ => rfl, rfl⟩⟩

theorem KeepsOutside.draws {rs : List (Nat × Nat)} {ps : List Part} {s t : State} (h : KeepsOutside rs ps s t) (x : Nat) (hp : Part.draws ∈ ps) :
    KeepsOutside rs ps s { t with draws := x } :=
  h.trans ⟨fun _ _ => rfl, fun p m => by cases p <;> first | exact absurd hp m | rfl | exact ⟨fun _ => rfl, rfl⟩⟩

theorem KeepsOutside.raised {rs : List (Nat × Nat)} {ps : List Part} {s t : State} (h : KeepsOutside rs ps s t) (x : List Raise) (hp : Part.raised ∈ ps) :
    KeepsOutside rs ps s { t with raised := x } :=
  h.trans ⟨fun _ _ => rfl, fun p m => by cases p <;> first | exact absurd hp m | rfl | exact ⟨fun _ => rfl, rfl⟩⟩

theorem KeepsOutside.resp {rs : List (Nat × Nat)} {ps : List Part} {s t : State} (h : KeepsOutside rs ps s t) (x : Response) (hp : Part.resp ∈ ps) :
    KeepsOutside rs ps s { t with resp := x } :=
  h.trans ⟨fun _ _ => rfl, fun p m => by cases p <;> first | exact absurd hp m | rfl | exact ⟨fun _ => rfl, rfl⟩⟩

theorem KeepsOutside.img {rs : List (Nat × Nat)} {ps : List Part} {s t : State} (h : KeepsOutside rs ps s t) (x : ImgState) (hp : Part.img ∈ ps) :
    KeepsOutside rs ps s { t with img := x } :=
  h.trans ⟨fun _ _ => rfl, fun p m => by cases p <;> first | exact absurd hp m | rfl | exact ⟨fun _ => rfl, rfl⟩⟩

theorem KeepsOutside.clk {rs : List (Nat × Nat)} {ps : List Part} {s t : State} (h : KeepsOutside rs ps s t) (x : ClkState) (hp : Part.clk ∈ ps) :
    KeepsOutside rs ps s { t with clk := x } :=
  h.trans ⟨fun _ _ => rfl, fun p m => by cases p <;> first | exact absurd hp m | rfl | exact ⟨fun _ => rfl, rfl⟩⟩

theorem KeepsOutside.ep {rs : List (Nat × Nat)} {ps : List Part} {s t : State} (h : KeepsOutside rs ps s t) (x : EpochState) (hp : Part.ep ∈ ps) :
    KeepsOutside rs ps s { t with ep := x } :=
  h.trans ⟨fun _ _ => rfl, fun p m => by cases p <;> first | exact absurd hp m | rfl | exact ⟨fun _ => rfl, rfl⟩⟩

theorem KeepsOutside.pwm {rs : List (Nat × Nat)} {ps : List Part} {s t : State} (h : KeepsOutside rs ps s t) (x : SMap PwmUnit) (hp : Part.pwm ∈ ps) :
    KeepsOutside rs ps s { t with pwm := x } :=
  h.trans ⟨fun _ _ => rfl, fun p m => by cases p <;> first | exact absurd hp m | rfl | exact ⟨fun _ => rfl, rfl⟩⟩

theorem KeepsOutside.plinth {rs : List (Nat × Nat)} {ps : List Part} {s t : State} (h : KeepsOutside rs ps s t) (x : PlinthState) (hp : Part.plinth ∈ ps) :
    KeepsOutside rs ps s { t with plinth := x } :=
  h.trans ⟨fun _ _ => rfl, fun p m => by cases p <;> first | exact absurd hp m | rfl | exact ⟨fun _ => rfl, rfl⟩⟩

theorem KeepsOutside.sens {rs : List (Nat × Nat)} {ps : List Part} {s t : State} (h : KeepsOutside rs ps s t) (x : SensState) (hp : Part.sens ∈ ps) :
    KeepsOutside rs ps s { t with sens := x } :=
  h.trans ⟨fun _ _ => rfl, fun p m => by cases p <;> first | exact absurd hp m | rfl | exact ⟨fun _ => rfl, rfl⟩⟩

theorem KeepsOutside.wcmp {rs : List (Nat × Nat)} {ps : List Part} {s t : State} (h : KeepsOutside rs ps s t) (x : WcmpState) (hp : Part.wcmp ∈ ps) :
    KeepsOutside rs ps s { t with wcmp := x } :=
  h.trans ⟨fun _ _ => rfl, fun p m => by cases p <;> first | exact absurd hp m | rfl | exact ⟨fun _ => rfl, rfl⟩⟩

theorem KeepsOutside.loop {rs : List (Nat × Nat)} {ps : List Part} {s t : State} (h : KeepsOutside rs ps s t) (x : SMap LoopPair) (hp : Part.loop ∈ ps) :
    KeepsOutside rs ps s { t with loop := x } :=
  h.trans ⟨fun _ _ => rfl, fun p m => by cases p <;> first | exact absurd hp m | rfl | exact ⟨fun _ => rfl, rfl⟩⟩

theorem KeepsOutside.drive {rs : List (Nat × Nat)} {ps : List Part} {s t : State} (h : KeepsOutside rs ps s t) (x : DriveState) (hp : Part.drive ∈ ps) :
    KeepsOutside rs ps s { t with drive := x } :=
  h.trans ⟨fun _ _ => rfl, fun p m => by cases p <;> first | exact absurd hp m | rfl | exact ⟨fun _ => rfl, rfl⟩⟩

theorem KeepsOutside.diag {rs : List (Nat × Nat)} {ps : List Part} {s t : State} (h : KeepsOutside rs ps s t) (x : DiagState) (hp : Part.diag ∈ ps) :
    KeepsOutside rs ps s { t with diag := x } :=
  h.trans ⟨fun _ _ => rfl, fun p m => by cases p <;> first | exact absurd hp m | rfl | exact ⟨fun _ => rfl, rfl⟩⟩

theorem KeepsOutside.grid {rs : List (Nat × Nat)} {ps : List Part} {s t : State} (h : KeepsOutside rs ps s t) (x : GridState) (hp : Part.grid ∈ ps) :
    KeepsOutside rs ps s { t with grid := x } :=
  h.trans ⟨fun _ _ => rfl, fun p m => by cases p <;> first | exact absurd hp m | rfl | exact ⟨fun _ => rfl, rfl⟩⟩

theorem KeepsOutside.relay {rs : List (Nat × Nat)} {ps : List Part} {s t : State} (h : KeepsOutside rs ps s t) (x : RelayState) (hp : Part.relay ∈ ps) :
    KeepsOutside rs ps s { t with relay := x } :=
  h.trans ⟨fun _ _ => rfl, fun p m => by cases p <;> first | exact absurd hp m | rfl | exact ⟨fun _ => rfl, rfl⟩⟩

theorem KeepsOutside.meter {rs : List (Nat × Nat)} {ps : List Part} {s t : State} (h : KeepsOutside rs ps s t) (x : MeterState) (hp : Part.meter ∈ ps) :
    KeepsOutside rs ps s { t with meter := x } :=
  h.trans ⟨fun _ _ => rfl, fun p m => by cases p <;> first | exact absurd hp m | rfl | exact ⟨fun _ => rfl, rfl⟩⟩

theorem KeepsOutside.cur {rs : List (Nat × Nat)} {ps : List Part} {s t : State} (h : KeepsOutside rs ps s t) (x : CuratorState) (hp : Part.cur ∈ ps) :
    KeepsOutside rs ps s { t with cur := x } :=
  h.trans ⟨fun _ _ => rfl, fun p m => by cases p <;> first | exact absurd hp m | rfl | exact ⟨fun _ => rfl, rfl⟩⟩

theorem KeepsOutside.pins {rs : List (Nat × Nat)} {ps : List Part} {s t : State} (h : KeepsOutside rs ps s t) (x : PinState) (hp : Part.pins ∈ ps) :
    KeepsOutside rs ps s { t with pins := x } :=
  h.trans ⟨fun _ _ => rfl, fun p m => by cases p <;> first | exact absurd hp m | rfl | exact ⟨fun _ => rfl, rfl⟩⟩

theorem KeepsOutside.warden {rs : List (Nat × Nat)} {ps : List Part} {s t : State} (h : KeepsOutside rs ps s t) (x : WardenState) (hp : Part.warden ∈ ps) :
    KeepsOutside rs ps s { t with warden := x } :=
  h.trans ⟨fun _ _ => rfl, fun p m => by cases p <;> first | exact absurd hp m | rfl | exact ⟨fun _ => rfl, rfl⟩⟩

theorem KeepsOutside.sv {rs : List (Nat × Nat)} {ps : List Part} {s t : State} (h : KeepsOutside rs ps s t) (x : SvState) (hp : Part.sv ∈ ps) :
    KeepsOutside rs ps s { t with sv := x } :=
  h.trans ⟨fun _ _ => rfl, fun p m => by cases p <;> first | exact absurd hp m | rfl | exact ⟨fun _ => rfl, rfl⟩⟩

theorem KeepsOutside.start {rs : List (Nat × Nat)} {ps : List Part} {s t : State} (h : KeepsOutside rs ps s t) (x : StartState) (hp : Part.start ∈ ps) :
    KeepsOutside rs ps s { t with start := x } :=
  h.trans ⟨fun _ _ => rfl, fun p m => by cases p <;> first | exact absurd hp m | rfl | exact ⟨fun _ => rfl, rfl⟩⟩

theorem KeepsOutside.hok {rs : List (Nat × Nat)} {ps : List Part} {s t : State} (h : KeepsOutside rs ps s t) (x : SMap Hok) (hp : Part.hok ∈ ps) :
    KeepsOutside rs ps s { t with hok := x } :=
  h.trans ⟨fun _ _ => rfl, fun p m => by cases p <;> first | exact absurd hp m | rfl | exact ⟨fun _ => rfl, rfl⟩⟩

theorem KeepsOutside.cour {rs : List (Nat × Nat)} {ps : List Part} {s t : State} (h : KeepsOutside rs ps s t) (x : CourState) (hp : Part.cour ∈ ps) :
    KeepsOutside rs ps s { t with cour := x } :=
  h.trans ⟨fun _ _ => rfl, fun p m => by cases p <;> first | exact absurd hp m | rfl | exact ⟨fun _ => rfl, rfl⟩⟩

theorem KeepsOutside.pending {rs : List (Nat × Nat)} {ps : List Part} {s t : State} (h : KeepsOutside rs ps s t) (x : List Instr) (hp : Part.pending ∈ ps) :
    KeepsOutside rs ps s { t with pending := x } :=
  h.trans ⟨fun _ _ => rfl, fun p m => by cases p <;> first | exact absurd hp m | rfl | exact ⟨fun _ => rfl, rfl⟩⟩

/-! ### Choices -/

theorem Keeps.ite {fs : List Fld} {ps : List Part} {s t u : State} (c : Prop) [Decidable c] (h : Keeps fs ps s t)
    (k : Keeps fs ps s u) : Keeps fs ps s (if c then t else u) := by split <;> assumption

theorem KeepsOutside.ite {rs : List (Nat × Nat)} {ps : List Part} {s t u : State} (c : Prop) [Decidable c]
    (h : KeepsOutside rs ps s t) (k : KeepsOutside rs ps s u) : KeepsOutside rs ps s (if c then t else u) := by
  split <;> assumption

/-- A fold of updates keeps what each of them keeps. -/
theorem Keeps.foldl {α : Type} {fs : List Fld} {ps : List Part} {s : State} (f : State → α → State)
    (hf : ∀ t x, Keeps fs ps t (f t x)) : ∀ (l : List α) (t : State), Keeps fs ps s t → Keeps fs ps s (l.foldl f t)
  | [], _, h => h
  | x :: l, t, h => Keeps.foldl f hf l (f t x) (h.trans (hf t x))

theorem KeepsOutside.foldl {α : Type} {rs : List (Nat × Nat)} {ps : List Part} {s : State} (f : State → α → State)
    (hf : ∀ t x, KeepsOutside rs ps t (f t x)) :
    ∀ (l : List α) (t : State), KeepsOutside rs ps s t → KeepsOutside rs ps s (l.foldl f t)
  | [], _, h => h
  | x :: l, t, h => KeepsOutside.foldl f hf l (f t x) (h.trans (hf t x))

end Sys2Proof.Machine
end

