-- ==== Sys2Proof/Laws/Regs.lean ====
section
/-!
SUPPORT. Reading fields of a register file as a map: every read and every update of a state's registers is one of its map, so that a
chain of updates is read through by rewriting, whatever other part of the state changes on the way.
-/

namespace Sys2Proof.Machine

/-- The value of a field in a register map. -/
def rget (m : SMap Word) (f : Fld) : Nat := bitsOf (SMap.get m f.addr).toNat f.lo f.len

/-- A register map with a field put. -/
def rput (m : SMap Word) (f : Fld) (v : Nat) : SMap Word :=
  SMap.set m f.addr (w32 (bitsPut (SMap.get m f.addr).toNat f.lo f.len v))

theorem State.get_rget (s : State) (f : Fld) : s.get f = rget s.regs f := rfl
theorem State.flag_rget (s : State) (f : Fld) : s.flag f = (rget s.regs f == 1) := rfl
theorem State.getS_rget (s : State) (f : Fld) : s.getS f = signedOf f.len (rget s.regs f) := rfl
theorem State.rd_map (s : State) (a : Nat) : s.rd a = SMap.get s.regs a := rfl
theorem State.put_map (s : State) (f : Fld) (v : Nat) : (s.put f v).regs = rput s.regs f v := rfl
theorem State.wr_map (s : State) (a : Nat) (v : Word) : (s.wr a v).regs = SMap.set s.regs a v := rfl
theorem State.rdB_map (s : State) (a : Nat) : s.rdB a = SMap.get s.mem (memHome a) := rfl

theorem rget_rput_self (m : SMap Word) (f : Fld) (v : Nat) (h : f.lo + f.len ≤ 32) : rget (rput m f v) f = v % 2 ^ f.len := by
  simp only [rget, rput, SMap.get_set, if_true, w32_toNat]
  rw [bitsOf_mod _ _ _ _ h, bitsOf_bitsPut_self]

theorem rget_rput_apart (m : SMap Word) (f g : Fld) (v : Nat) (h : f.apart g = true) : rget (rput m f v) g = rget m g := by
  have := State.get_put_apart { State.reset with regs := m } f g v h
  exact this

theorem rget_set_ne (m : SMap Word) (a : Nat) (v : Word) (f : Fld) (h : f.addr ≠ a) : rget (SMap.set m a v) f = rget m f := by
  simp [rget, SMap.get_set, h]

/-- A field apart from a whole register reads through a write of it. -/
theorem rget_set_apart (m : SMap Word) (a : Nat) (v : Word) (f : Fld) (h : (whole a).apart f = true) :
    rget (SMap.set m a v) f = rget m f := by
  by_cases hl : f.len = 0
  · simp [rget, bitsOf, hl, Nat.mod_one]
  · refine rget_set_ne _ _ _ _ ?_
    simp only [Fld.apart, whole, Bool.or_eq_true, bne_iff_ne, Bool.and_eq_true] at h
    rcases h with h | ⟨⟨-, h1⟩, h2⟩
    · exact fun c => h c.symm
    · exfalso
      have h1 : f.lo + f.len ≤ 32 := of_decide_eq_true h1
      rcases h2 with h2 | h2
      · have h2 : f.lo + f.len ≤ 0 := of_decide_eq_true h2
        exact hl (by omega)
      · have h2 : 0 + 32 ≤ f.lo := of_decide_eq_true h2
        exact hl (by omega)

theorem get_rput_ne (m : SMap Word) (f : Fld) (v a : Nat) (h : a ≠ f.addr) : SMap.get (rput m f v) a = SMap.get m a := by
  simp [rput, SMap.get_set, h]

theorem rget_set_self (m : SMap Word) (f : Fld) (v : Word) : rget (SMap.set m f.addr v) f = bitsOf v.toNat f.lo f.len := by
  simp [rget]

theorem rget_lt (m : SMap Word) (f : Fld) : rget m f < 2 ^ f.len := Nat.mod_lt _ (Nat.two_pow_pos _)

end Sys2Proof.Machine
end

