-- ==== Sys2Proof/Laws/Sha3.lean ====
section
/-!
SUPPORT. The law of SHA3-256 that records and images rest on: it answers 32 bytes.
-/

namespace Sys2Proof.Machine

theorem keccakF_length (a : List Nat) (h : a.length = 25) : (keccakF a).length = 25 := by
  have go : ∀ (l a : List Nat), a.length = 25 →
      (l.foldl (fun (a : List Nat) rc => keccakChi (keccakRhoPi (keccakTheta a)) rc) a).length = 25 := by
    intro l
    induction l with
    | nil => exact fun _ h => h
    | cons r t ih => exact fun _ _ => ih _ (by simp [keccakChi])
  exact go _ a h

theorem keccakAbsorb_length (n : Nat) : ∀ (bs : List Byte) (a : List Nat), a.length = 25 → (keccakAbsorb n bs a).length = 25 := by
  induction n with
  | zero => exact fun _ _ h => h
  | succ n ih => exact fun _ _ _ => ih _ _ (keccakF_length _ (by simp))

@[simp] theorem sha3_length (bs : List Byte) : (sha3 bs).length = 32 := by
  have h := fun n p => keccakAbsorb_length n p (List.replicate 25 0) List.length_replicate
  simp only [sha3, List.length_flatMap, List.length_map, List.length_range, List.map_const', List.map_take, List.take_replicate, List.sum_replicate_nat, h]
  rfl

end Sys2Proof.Machine
end

