-- ==== Sys2Proof/Machine/Pins.lean ====
section
/-!
DEFINITION. The output pins as Table SUP-7 gives them (R618): what drives each pin now. The lanes are LaneCode's (State.dlOut), the
GPIO pads, FAULT_N and HSPI_IRQ_N the power block's and the Curator's, SYNC_OUT the clock's, the gates the drive block's.
-/

namespace Sys2Proof.Machine

/-- What the device does to a pin: drives it low, drives it high, or leaves it. -/
inductive PinDrive where
  | low
  | high
  | released
  deriving DecidableEq, Repr

/-- FAULT_N: driven low or released, open drain (R618). -/
def State.faultNPin (s : State) : PinDrive := if s.faultNLow then .low else .released

/-- HSPI_IRQ_N: open drain (R642). -/
def State.hspiIrqPin (s : State) : PinDrive := if s.hspiIrqLow then .low else .released

/-- GPIO0 to GPIO7: driven, held as they stood, or inputs (R543, R663, Table SUP-7). -/
def State.gpioPin (s : State) (k : Nat) : PinDrive :=
  if (s.padDrive k).1 then (if (s.padDrive k).2 then .high else .low) else .released

/-- TPA and TPB: high but for the pulses (R487); not driven while PD1 is off. -/
def State.tpPin (s : State) (b : Bool) : PinDrive :=
  if !s.pdOn 1 then .released else if s.tpLow b then .low else .high

/-- K1_DRV and K2_DRV: sinking while the relay is commanded (R390). -/
def State.relayPin (s : State) (k : Nat) : PinDrive := if s.pdOn 10 && s.flag (relayCmdF k) then .low else .released

/-- A gate output, HO of half-bridge h where hi, else LO: high where its command is on; held low otherwise (R316). -/
def State.gatePin (s : State) (h : Nat) (hi : Bool) : PinDrive :=
  if !s.pdOn 9 then .released
  else if s.flag (if hi then F.DRV_HB_STATUS_HO h else F.DRV_HB_STATUS_LO h) then .high else .low

end Sys2Proof.Machine
end

