-- ==== Sys2Proof/WellFormed.lean ====
section
/-!
DEFINITION. Which commands are well formed: operands whose types are wider than what the hardware can be sent keep to its limits. An
operand that a rule makes the device itself judge (an image, an argument) is well formed whatever it is.
-/

namespace Sys2Proof

/-- A Courier payload: at most 4,076 bytes (R627). -/
def payloadOk (p : List Byte) : Bool := decide (p.length ≤ 4076)

/-- A service frame's payload: at most 4,096 bytes (R599). -/
def frameOk (p : List Byte) : Bool := decide (p.length ≤ 4096)

/-- A mailbox request: at most 4,096 bytes (Table SVA-12). -/
def reqOk (p : List Byte) : Bool := decide (p.length ≤ 4096)

/-- The mismatches when an entry or record is read back: a first and a second attempt (R428, R579). -/
def badOk (bad : Nat) : Bool := decide (bad ≤ 2)

/-- A command is well formed. -/
def Instr.wellFormed (i : Instr) : Bool :=
  match i with
  | .registerWrite _ _ _ => true
  | .imgSelectWrite _ _ => true
  | .imgConfirmWrite _ _ => true
  | .refPresenceChange _ _ _ => true
  | .pllLockAcquire => true
  | .pllLockLoss => true
  | .pllUnmute => true
  | .pllStartTimeout => true
  | .pllStartRetry => true
  | .divsyncArm _ => true
  | .syncMark _ off => off < 4
  | .markMissing => true
  | .clkNWrite _ _ => true
  | .clkNTransfer => true
  | .refLoss => true
  | .coastLimit => true
  | .refRestore => true
  | .refSelWrite _ _ => true
  | .epochLoad _ => true
  | .epochLoadApply => true
  | .epochMarkArm _ => true
  | .epochRtcCap _ => true
  | .epochRtcCaptureEdge => true
  | .epochRateWrite _ _ => true
  | .epochSlewWrite _ _ => true
  | .epochSlewSlot => true
  | .epochNowRead _ => true
  | .epochBarRead _ => true
  | .barrierCalibration _ => true
  | .barrierRemeasure _ => true
  | .islandSkewCheck _ => true
  | .schedArm _ _ => true
  | .schedDisarm _ _ => true
  | .schedNone _ => true
  | .schedWindow _ => true
  | .schedPwmStart _ => true
  | .schedPwmStop _ => true
  | .schedPwmCommit _ => true
  | .schedMeterLatch _ => true
  | .schedRelayCmd _ => true
  | .schedMaintStart _ => true
  | .schedGpioSet _ => true
  | .schedIrq _ => true
  | .schedStreamMark _ => true
  | .windowOpen _ => true
  | .windowClose _ _ => true
  | .windowDeliver _ => true
  | .wgEnable _ _ => true
  | .wgDisable _ _ => true
  | .streamSample _ _ => true
  | .streamRingWrite _ => true
  | .ringEnable _ _ => true
  | .ringDisable _ _ => true
  | .lcAnnounceReceive _ => true
  | .lcCycleEnd _ _ => true
  | .lcRecordDeliver _ => true
  | .modOverloadTrip _ _ => true
  | .modOverloadRelease _ => true
  | .monitorDwellEnd _ => true
  | .grdTempSample _ => true
  | .sensCalStage _ => true
  | .sensCalComplete _ sums => sums.all fun v =>
      decide (v.1.natAbs ≤ 640000) && decide (v.2.1.natAbs ≤ 280000) && decide (v.2.2.natAbs ≤ 280000)
  | .chRangeWrite _ _ _ => true
  | .wcCrossing _ _ => true
  | .wcThrWrite _ _ _ => true
  | .wcThrApply _ _ => true
  | .wcSoftwareClear _ _ _ => true
  | .wcClearDecision _ _ => true
  | .wcPendingReady _ _ => true
  | .wcmpTestStep _ _ => true
  | .loopExecStart _ => true
  | .loopCommit _ _ => true
  | .loopAbandon _ => true
  | .loopLockstepMismatch _ => true
  | .loopTcmEccError _ _ => true
  | .loopEnable _ _ => true
  | .loopDisable _ _ => true
  | .loopClrMax _ _ => true
  | .tcmWrite _ _ _ _ => true
  | .pwmPeriodBoundary _ => true
  | .pwmEdgeIssue _ => true
  | .pwmStart _ _ => true
  | .pwmStop _ _ => true
  | .pwmCommit _ _ => true
  | .pwmForceWrite _ _ _ => true
  | .pwmCntClr _ _ => true
  | .hbEdgeReceive _ => true
  | .hbEdgeExecute _ => true
  | .hbLinkCrcError _ => true
  | .hbKeepalive => true
  | .hbKeepaliveTimeout => true
  | .hbPeriodMarker _ => true
  | .vdrvLockout => true
  | .vdrvLockoutEnd => true
  | .laneEdgeReceive _ => true
  | .laneEdgeSend _ => true
  | .laneHeartbeatDue _ => true
  | .laneHeartbeatSend _ => true
  | .laneHeartbeatForced _ => true
  | .laneStatusReceive _ _ => true
  | .laneStatusMissing _ => true
  | .laneTripEnd _ => true
  | .laneEnable _ _ => true
  | .laneDisable _ _ => true
  | .gridEvaluation => true
  | .gridCycleBoundary => true
  | .gridFormingWrite _ _ => true
  | .probeStart => true
  | .probeEnd => true
  | .relayCheckStep => true
  | .relayCloseRequest _ => true
  | .relayCloseStep => true
  | .gridOpenRequest _ => true
  | .relayOpeningCheck => true
  | .relayFbLost => true
  | .reconnectReady => true
  | .autoCheckRequest => true
  | .autoPwmStart => true
  | .meterEnable _ => true
  | .meterDisable _ => true
  | .meterCycleProcess bad => badOk bad
  | .vaultScan => true
  | .meterDeltaRead _ _ _ => true
  | .meterTotRead _ _ _ => true
  | .spLockstepMismatch => true
  | .arcEnable _ _ => true
  | .arcDisable _ _ => true
  | .arcFrameEvaluate _ => true
  | .ivTracePoint _ => true
  | .ivTraceEnd _ => true
  | .isoCheckStep _ => true
  | .requestSensCalP _ => true
  | .requestSensCalG _ => true
  | .requestWcmpTest _ => true
  | .requestIvTrace _ _ => true
  | .requestIsoCheck _ => true
  | .requestRelayCheck _ => true
  | .requestMramProgram _ => true
  | .requestVaultCompact _ => true
  | .requestBistPeriodic _ => true
  | .bistPeriodicDue => true
  | .bistPeriodicEnd _ => true
  | .vaultCompactEnd bad bad2 => badOk bad && badOk bad2
  | .mramProgramEnd => true
  | .maintAbort _ _ => true
  | .curatorRaise _ => true
  | .curSevWrite _ _ _ => true
  | .curUnfence _ _ => true
  | .curInjectRaise _ _ => true
  | .curInjectCorrupt _ _ _ => true
  | .curatorCopyMismatch => true
  | .pwmCheckMismatch _ => true
  | .drvGateCheck _ _ _ => true
  | .eccUncorrectable mram addr _ =>
    if mram then decide (0x10000000 ≤ addr ∧ addr < 0x11000000)
    else decide ((0x20000000 ≤ addr ∧ addr < 0x20400000) ∨ (0x28000000 ≤ addr ∧ addr < 0x28400000))
  | .scrubPass _ _ => true
  | .barrierLinkError => true
  | .railOutOfWindow _ _ => true
  | .wardenInputChange _ _ _ => true
  | .wardenFilterExpire _ _ => true
  | .wardenDiscrepancy _ => true
  | .testPulseStart _ => true
  | .testPulseCheck _ => true
  | .testPulseEnd _ => true
  | .wardenReset _ _ => true
  | .wardenPermitRequest _ _ => true
  | .wardenPermitEnd _ _ => true
  | .wardenPermitExpire => true
  | .hokuonInstruction _ => true
  | .hqSadd _ _ _ _ => true
  | .hqSsub _ _ _ _ => true
  | .hqSabs _ _ _ => true
  | .hqMulq _ _ _ _ => true
  | .hqMacq _ _ _ _ => true
  | .hqSshl _ _ _ _ => true
  | .hqSrar _ _ _ _ => true
  | .hqSat _ _ _ _ => true
  | .hcacheInvLine _ _ => true
  | .hcacheInvDcache _ => true
  | .hcacheInvIcache _ => true
  | .hokuonLockstepMismatch _ => true
  | .cacheParityError _ _ _ => true
  | .hicInterruptTake _ => true
  | .doorbell _ _ => true
  | .semAcquire _ _ => true
  | .semRelease _ _ _ => true
  | .perfCounterRead _ _ _ => true
  | .perfCounterClear _ _ => true
  | .domainOnRequest _ _ => true
  | .domainPowered _ _ => true
  | .domainOffRequest _ _ => true
  | .padRelease _ _ => true
  | .opPointWrite _ _ => true
  | .dvfsStepDone _ => true
  | .dvfsVokTimeout _ => true
  | .plinthColdStart => true
  | .plinthDeath => true
  | .energyFlagUpdate _ _ _ _ _ _ _ => true
  | .sessionTimeout => true
  | .rtcSecond => true
  | .plinthCycRead _ => true
  | .plinthWake => true
  | .twwWakeFrame _ => true
  | .twwStatusRead _ => true
  | .plinthSleep _ _ => true
  | .plinthStartRequest _ => true
  | .buckBGood => true
  | .powerFailWarning => true
  | .powerFailRestore => true
  | .buckAStop => true
  | .svGetInfo _ => true
  | .svGetDevidCert _ => true
  | .svAttest _ nonce => reqOk nonce
  | .svExtend _ _ digest bad => reqOk digest && badOk bad
  | .svReadPm _ => true
  | .svRandom _ _ => true
  | .svVerifyAuth _ rcd _ args => reqOk (rcd ++ args)
  | .svStageBegin _ _ _ => true
  | .svStageData _ _ data => reqOk data
  | .svStageEnd _ => true
  | .svSelect _ _ _ => true
  | .svConfirm _ _ bad => badOk bad
  | .svOwnerEnroll _ _ key auth bad => reqOk (key ++ auth.getD []) && badOk bad
  | .svOwnerRevoke _ _ auth bad => reqOk auth && badOk bad
  | .svSetAppStrict _ auth bad => reqOk auth && badOk bad
  | .svDebugPermit _ auth args bad => reqOk (auth ++ args) && badOk bad
  | .svPermitEnd _ => true
  | .svCmdComplete _ => true
  | .bootStep bad => badOk bad
  | .svauthFaultDetect => true
  | .debugPermitExpire => true
  | .testModeLow => true
  | .docStatus => true
  | .docIdcode => true
  | .docRead _ _ => true
  | .docWrite _ _ _ => true
  | .docHalt _ => true
  | .docResume _ => true
  | .docStep _ => true
  | .docRegRead _ _ => true
  | .docRegWrite _ _ _ => true
  | .docBpSet _ _ _ => true
  | .docBpClear _ _ => true
  | .docCrcError => true
  | .svcCourierFrame bytes => frameOk bytes
  | .svcPermitFrame => true
  | .svcPermitEndFrame => true
  | .svcBadFrame => true
  | .powerUpReset _ => true
  | .resetPin _ _ => true
  | .sysResetSystem _ => true
  | .sysResetHpb _ => true
  | .sysResetFoyer _ => true
  | .watchdogExpire => true
  | .watchdogKick _ _ => true
  | .resetRelease => true
  | .startupPhaseEnd _ _ _ => true
  | .supplyStartTimeout => true
  | .visoArrive => true
  | .barrierCalTimeout => true
  | .hpbRelease _ => true
  | .courierInfo _ p => payloadOk p
  | .courierRead _ p => payloadOk p
  | .courierWrite _ p => payloadOk p
  | .courierAttest _ p => payloadOk p
  | .courierDevidCert _ p => payloadOk p
  | .courierLogRead _ p => payloadOk p
  | .courierMeterRead _ p => payloadOk p
  | .courierReset _ p => payloadOk p
  | .courierResetAct => true
  | .courierStageBegin _ p => payloadOk p
  | .courierStageData _ p => payloadOk p
  | .courierStageEnd _ p => payloadOk p
  | .courierSelect _ p => payloadOk p
  | .courierConfirm _ p bad => payloadOk p && badOk bad
  | .courierEventAck _ => true
  | .courierEventRepeat => true
  | .courierUnknownType _ _ => true
  | .courierBadMessage _ _ => true
  | .courierBroadcastInfoReply => true
  | .courierTtReq _ _ sq t2 => sq < 2 ^ 32 && t2 < 2 ^ 64
  | .courierTtRsp _ _ sq t2 t3 t4 => sq < 2 ^ 32 && t2 < 2 ^ 64 && t3 < 2 ^ 64 && t4 < 2 ^ 64
  | .ttRequestSend _ => true
  | .ttResponseSend _ _ => true
  | .ttResponseTimeout => true
  | .stagingSessionTimeout => true
  | .plcSegmentReceive _ _ seg _ _ => decide (seg.length ≤ 400)
  | .reassemblyTimeout => true
  | .plcFrameTransmit _ => true
  | .plcCurrentLimit => true
  | .hspiStatus => true
  | .hspiRead _ _ => true
  | .hspiWrite _ _ => true
  | .hspiMsgPut _ => true
  | .hspiMsgGet _ => true
  | .h2dDone _ _ => true
  | .d2hPost _ _ => true
  | .hspiLock _ _ => true
  | .gpioEdge _ _ => true
  | .centreCmpTrigger _ _ => true
  | .mtimecmpMatch _ => true
  | .macRetry => true

end Sys2Proof
end

