-- ==== Sys2Proof/Tests/Slice0.lean ====
section
/-!
SUPPORT. The model's own tests. For each statement of Certificates/Slice0/Obligations.lean that has hypotheses, witness_<statement> gives,
clause by clause, a concrete state and operands that meet all of the clause's hypotheses together. A clause that asks for a signature that
verifies rests on free values (log row 6): its witness, witness_<statement>_authorised, is given for a device whose signatures verify. The
test_ theorems take their figures from the manual's worked examples, test_sha3 from FIPS 202.
-/

set_option Elab.async false

namespace Sys2Proof.Machine

/-- A state with these fields set. -/
def State.puts (s : State) (l : List (Fld × Nat)) : State := l.foldl (fun s p => s.put p.1 p.2) s
/-- A state to start from: every domain on, start-up done, the clock locked, the barrier trained, both pairs running in user mode; the
registers not named here read 0. -/
def up : State :=
  { ({ State.reset with regs := [] } : State).puts [(F.SYS_PD_STATUS_DOMAIN_ON, 0xFFF), (F.SYS_START_DONE, 1), (F.CLK_STATUS_LOCK, 1),
      (F.EPOCH_STATUS_BAR_CAL_DONE, 1), (F.PLC_CTRL_EN, 1)] with
    epoch := 1024000000000, hok := [(0, { (default : Hok) with run := true }), (1, { (default : Hok) with run := true })] }

/-- Bytes up to an end, from an offset on: 0 but for the little-endian values at (offset, size, value), in rising order. -/
def placedFrom (n : Nat) : Nat → List (Nat × Nat × Nat) → List Byte
  | o, [] => List.replicate (n - o) 0#8
  | o, x :: t => List.replicate (x.1 - o) 0#8 ++ (leBytes x.2.1 x.2.2 ++ placedFrom n (x.1 + x.2.1) t)
/-- Bytes: n of them, with these values placed. -/
def placed (n : Nat) (l : List (Nat × Nat × Nat)) : List Byte := placedFrom n 0 l
/-- An image with one section more. -/
def State.withSec (s : State) (ty inst : Nat) (b : List Byte) : State :=
  { s with img := ⟨some ⟨[], ⟨ty, inst, b⟩ :: (s.img.applied.map Image.sections).getD []⟩⟩ }
/-- An image whose ADJUST list covers these fields, whatever their values. -/
def State.adjusts (s : State) (fs : List Fld) (signed : Bool := false) : State :=
  s.withSec Sec.adjust 0 (placed (0x10 + 0x10 * fs.length) ((0, 2, fs.length) :: (List.range fs.length).flatMap fun k =>
    let f := fs.getD k ⟨0, 0, 0⟩
    [(0x10 + 0x10 * k, 4, f.addr + b2n signed), (0x14 + 0x10 * k, 4, f.mask), (0x18 + 0x10 * k, 4, if signed then 0x80000000 else 0),
      (0x1C + 0x10 * k, 4, if signed then 0x7FFFFFFF else 0xFFFFFFFF)]))

/-- A fetch gave a 32-bit instruction k. -/
def Fetched.gave (r : Fetched) (k : Nat) : Bool :=
  match r with
  | .ok _ w n _ => w == k && n == 4
  | .fault _ _ => false
/-- A fetch faulted at an address. -/
def Fetched.faulted (r : Fetched) (k : Nat) : Bool :=
  match r with
  | .ok _ _ _ _ => false
  | .fault _ a => a == k
theorem Fetched.gave_ok (r : Fetched) (k : Nat) (h : r.gave k = true) : ∃ u ev, r = .ok u k 4 ev := by
  cases r <;> simp_all [Fetched.gave]
theorem Fetched.faulted_ok (r : Fetched) (k : Nat) (h : r.faulted k = true) : ∃ u, r = .fault u k := by
  cases r <;> simp_all [Fetched.faulted]
/-- Pair 0 in machine mode at the start of SRAM, this word its next instruction. -/
def atInsn (w : Word) : State :=
  { up.wrW 0x20000000 w with hok := [(0, { (default : Hok) with run := true, mmode := true, pc := 0x28000000, x := [(1, 0x28000100#32)] })] }
end Sys2Proof.Machine

namespace Sys2Proof.Tests

open Sys2Proof Sys2Proof.Machine

/-! ### Worked examples of the manual, and well-formedness -/

/-- A request from the host with an AUTH record. -/
def asking : MsgHdr := ⟨.host, true, 7, 3, 0xFFFE⟩

/-- The next state of an outcome meets a test. -/
def nexts (o : Host.Outcome State Fault Refusal) (p : State → Bool) : Bool :=
  match o with
  | .next t => p t
  | .fault _ => false
  | .refused _ => false

/-- Table IMG-15: the DRIVE_TIMING record of PU4. -/
theorem test_drive_timing_record :
    let im : Image := ⟨[], [⟨4, 0, List.replicate 0x50 0#8 ++ [0x00#8, 0x08#8, 0x50#8, 0x00#8, 0x78#8, 0x00#8, 0x78#8, 0x00#8, 0xA0#8, 0x0F#8,
      0x00#8, 0x00#8, 0xD0#8, 0x07#8, 0x00#8, 0x00#8] ++ List.replicate 0x90 0#8⟩]⟩
    [(F.PWM_CTRL_MODE 4, 0), (F.DRV_HB_CFG_REFRESH_PERIODS 4, 8), (F.PWM_CFG_DEADTIME 4, 80), (F.PWM_TIMING_MINON 4, 120),
      (F.PWM_TIMING_MINOFF 4, 120), (⟨R.PWM_PERIOD 4, 0, 32⟩, 4000), (⟨R.PWM_PHASE 4, 0, 32⟩, 2000)].all (im.driveRegs.contains ·) = true := by
  decide +kernel

/-- The sync chain of chapter 3: B, 37,500 ticks ahead, aligns to 4,000,000,007 at the mark. -/
theorem test_sync_mark_aligns :
    nexts (exec (.syncMark 10000 0) { up.puts [(F.EPOCH_CTRL_MARK_ARM, 1), (F.EPOCH_SYNC_COMP_C, 7)] with
      epoch := 4000037507, clk := { up.clk with markSeen := true } })
      (fun t => t.epoch == 4000000007 && t.flag F.EPOCH_STATUS_ALIGNED) = true := by
  decide +kernel

/-- The overload of PS6 in chapter 4: 600 ticks of +1 and 3,400 of 0.374528 read 19,184. -/
theorem test_window_code : (up.codeOf 6 ((600 + 3400 * (374528 / 1000000)) / 4000)).1 = 19184 := by decide +kernel

/-- The graph of SETPOINT, LPF1 and LOAN_OUT of chapter 7 costs 187 cycles. -/
theorem test_graph_cost :
    graphCost (placed 80 [(0, 2, 3), (2, 2, 2), (0x10, 2, 0x0002), (0x20, 2, 0x0301), (0x30, 2, 0x0006)]) = 187 := by decide +kernel

/-- The phase step of PU5 in chapter 8: δ is -40, the first position holds for 40 ticks more and the period lasts 4,040. -/
theorem test_phase_step : phaseStep 640 600 4000 240 = -40 ∧ periodShape (-40) 4000 = (0, 40, 4040) := by decide +kernel

/-- The dither of chapter 8: with CMPB_FRAC 8, period 3 uses 900 and period 4 uses 901. -/
theorem test_dither : br 3 = 12 ∧ br 4 = 2 ∧ dithered 900 8 3 = 900 ∧ dithered 900 8 4 = 901 := by decide +kernel

/-- Chapter 13: with WC4 to WC7 in test SENS_CAL_P conflicts with code 3, and with trace 2; VAULT_COMPACT with neither test nor trace. -/
theorem test_conflicts : conflicts 0xF0 1 3 = true ∧ conflicts 0xF0 1 6 = true ∧ conflicts 0xF0 11 3 = false ∧
    conflicts 0xF0 6 11 = false ∧ conflicts 0xF0 10 11 = true := by decide +kernel

/-- Chapter 13: the trace from 48.0 V to 2.0 V puts 47.910 V into slot 247 at point 1. -/
theorem test_trace_reference :
    let v := fRat ({ (default : IvTrace) with vhi := 48, vlo := 2 }.ref 1)
    479099 / 10000 < v ∧ v < 479101 / 10000 := by decide +kernel

/-- The exchange of chapter 20: a delay of 400 ticks, an offset of 1,200, a slew of -1,200 and a rate lower by 750. -/
theorem test_time_transfer :
    nexts (exec (.courierTtRsp 0 0 0 4999999200 5039999200 5040000800) { up.puts [(F.PLC_ADDR_SHORT, 0), (F.PLC_TT_CFG_MASTER_ADDR, 0), (F.EPOCH_CTRL_MODE, 2)] with
      cour := { up.cour with ttWait := some (5000000000, 0) }, ep := { up.ep with ttLast := some 4640000800 } })
      (fun t => t.rd R.PLC_TT_DELAY == 400#32 && t.rd R.EPOCH_TT_OFFSET == 1200#32 &&
        bitsOf (t.shadow.get R.EPOCH_SLEW).val 0 24 == 2 ^ 24 - 1200 && bitsOf (t.shadow.get R.EPOCH_RATE).val 0 24 == 2 ^ 24 - 750) = true := by
  decide +kernel

/-- The first heartbeat of DL0 in chapter 9: sent from 80,001,576, its EPOCH field holds 0x04C4BA46. -/
theorem test_lane_heartbeat :
    nexts (exec (.laneHeartbeatSend 0) { up.puts [(F.LANE_CFG_USED 0, 1), (F.LANE_CTRL_EN 0, 1), (F.LANE_STAT_STATE 0, 1), (F.LANE_COMP_COMP 0, 48)] with
      epoch := 80001576, drive := { up.drive with lane := up.drive.lane.modify 0 fun x => { x with hbDue := some 80001600 } } })
      (fun t => (t.drive.lane.get 0).hbOut == some 0x04C4BA46) = true := by decide +kernel

/-- SHA3-256 of the empty message begins a7 ff c6 f8 (FIPS 202). -/
theorem test_sha3 : (sha3 []).take 4 = [0xA7#8, 0xFF#8, 0xC6#8, 0xF8#8] := by decide +kernel

/-- The weights of a sinc³ span: its first and last tick weigh 0 and they add up to m³, by which the sum is divided (R125). -/
theorem test_window_weights :
    (((List.range 24).map (sincW 8)).sum = 512 ∧ sincW 8 0 = 0 ∧ sincW 8 1 = 1 ∧ sincW 8 22 = 1 ∧ sincW 8 23 = 0) := by decide +kernel

/-- An operand past each limit of a well-formed command is turned away. -/
theorem test_ill_formed :
    (Instr.courierInfo asking (List.replicate 4077 0#8)).wellFormed = false ∧ (Instr.svcCourierFrame (List.replicate 4097 0#8)).wellFormed = false ∧
    (Instr.svAttest 0 (List.replicate 4097 0#8)).wellFormed = false ∧ (Instr.bootStep 3).wellFormed = false ∧
    (Instr.eccUncorrectable true (2 ^ 32) .hpa).wellFormed = false ∧ (Instr.courierTtReq 0 0 (2 ^ 32) 0).wellFormed = false ∧
    (Instr.courierTtRsp 0 0 0 (2 ^ 64) 0 0).wellFormed = false ∧ (Instr.plcSegmentReceive 0 0 (List.replicate 401 0#8) 0 false).wellFormed = false := by
  decide +kernel

/-- At each limit a command is well formed. -/
theorem test_well_formed :
    (Instr.courierInfo asking (List.replicate 4076 0#8)).wellFormed = true ∧ (Instr.svcCourierFrame (List.replicate 4096 0#8)).wellFormed = true ∧
    (Instr.svAttest 0 (List.replicate 4096 0#8)).wellFormed = true ∧ (Instr.bootStep 2).wellFormed = true ∧
    (Instr.plcSegmentReceive 0 0 (List.replicate 400 0#8) 0 false).wellFormed = true := by decide +kernel

/-- No row of the opcode table has bits: no word spells a command, and withFetchWord leaves the queue as it is. -/
theorem test_no_word : decodeTableWord 32 0 = none ∧ (up.withFetchWord 32 0).pending = [] := by decide +kernel

theorem nexts_next (o : Host.Outcome State Fault Refusal) (p : State → Bool) (h : nexts o p = true) : ∃ t, o = .next t := by
  cases o <;> simp_all [nexts]

/-! ### Witnesses -/

theorem witness_ReferencePresenceAndLock :
    (∃ s : State, s.clk.on = true ∧ s.flag F.CLK_STATUS_LOCK = true ∧ s.flag F.CLK_STATUS_MUTED = true) ∧
    (∃ s : State, s.flag F.CLK_STATUS_MUTED = false) ∧
    (∃ s : State, s.flag F.CLK_STATUS_MUTED = true ∧ s.flag F.CLK_STATUS_LOCK = false) ∧
    (∃ s : State, s.clk.failHold = true) ∧
    (∃ s : State, s.clk.on = true ∧ s.flag F.CLK_STATUS_LOCK = false ∧ s.clk.frozen = false ∧ s.flag F.CLK_STATUS_COAST = true) ∧
    (∃ s : State, s.flag F.CLK_STATUS_LOCK = true ∧ s.flag F.CLK_STATUS_COAST = false) ∧
    (∃ s : State, s.flag F.CLK_STATUS_LOCK = false) :=
  ⟨
    ⟨((fun (s : State) => { s with clk := { s.clk with on := (true) } }) (up.puts [(F.CLK_STATUS_LOCK, 1), (F.CLK_STATUS_MUTED, 1)])),
      by decide +kernel⟩,
    ⟨(up.puts [(F.CLK_STATUS_MUTED, 0)]), by decide +kernel⟩,
    ⟨(up.puts [(F.CLK_STATUS_MUTED, 1), (F.CLK_STATUS_LOCK, 0)]), by decide +kernel⟩,
    ⟨((fun (s : State) => { s with clk := { s.clk with failHold := (true) } }) up), by decide +kernel⟩,
    ⟨((fun (s : State) => { s with clk := { s.clk with frozen := (false) } }) ((fun (s : State) =>
      { s with clk := { s.clk with on := (true) } }) (up.puts [(F.CLK_STATUS_LOCK, 0), (F.CLK_STATUS_COAST, 1)]))), by decide +kernel⟩,
    ⟨(up.puts [(F.CLK_STATUS_LOCK, 1), (F.CLK_STATUS_COAST, 0)]), by decide +kernel⟩,
    ⟨(up.puts [(F.CLK_STATUS_LOCK, 0)]), by decide +kernel⟩⟩

theorem witness_ReferenceLossAndFeedbackRatio :
    (∃ s : State, s.clk.on = true ∧ s.clk.refLost = false) ∧
    (∃ s : State, s.flag F.CLK_STATUS_COAST = true ∧ s.clk.limitHit = false ∧ s.clk.coastFrom + 800000000 ≤ s.mono) ∧
    (∃ s : State, s.flag F.CLK_STATUS_COAST = true ∧ s.mono < s.clk.coastFrom + 800000000) ∧
    (∃ s : State, s.clk.frozen = true) ∧
    (∃ s : State, s.adjust F.CLK_N_N (bitsOf (129 : Word).toNat 0 9) = .ok ∧ nPermitted (s.get F.CLK_STATUS_ACTIVE_REF) (bitsOf (129 :
      Word).toNat 0 9) = true ∧ bitsOf (129 : Word).toNat 0 9 ≤ s.get F.CLK_N_N + 1 ∧ s.get F.CLK_N_N ≤ bitsOf (129 : Word).toNat 0 9 + 1) ∧
    (∃ s : State, s.adjust F.CLK_N_N (bitsOf (130 : Word).toNat 0 9) = .ok ∧ (nPermitted (s.get F.CLK_STATUS_ACTIVE_REF) (bitsOf (130 :
      Word).toNat 0 9) && decide (bitsOf (130 : Word).toNat 0 9 ≤ s.get F.CLK_N_N + 1) && decide (s.get F.CLK_N_N ≤ bitsOf (130 :
      Word).toNat 0 9 + 1)) = false) ∧
    (∃ s : State, s.adjust F.CLK_N_N (bitsOf (0#32 : Word).toNat 0 9) = .uncovered) ∧
    (∃ s : State, s.flag F.CLK_STATUS_N_PENDING = true ∧ s.shadowed F.CLK_N_N = true ∧ s.clk.frozen = false ∧ (∀ n, s.clk.nChanged = some
      n → n + 40000 ≤ s.mono)) ∧
    (∃ s : State, s.get F.CLK_CTRL_REF_SEL ≠ refCode (RefSel.sync) ∧ s.adjust F.CLK_CTRL_REF_SEL (refCode (RefSel.sync)) = .ok ∧
      s.clkRunning = false ∧ s.flag F.CLK_STATUS_LOCK = true) ∧
    (∃ s : State, s.get F.CLK_CTRL_REF_SEL = refCode (RefSel.xin) ∧ s.adjust F.CLK_CTRL_REF_SEL (refCode (RefSel.xin)) = .ok ∧
      s.clkRunning = false) ∧
    (∃ s : State, s.adjust F.CLK_CTRL_REF_SEL (refCode (RefSel.sync)) = .ok ∧ s.clkRunning = true) :=
  ⟨
    ⟨((fun (s : State) => { s with clk := { s.clk with refLost := (false) } }) ((fun (s : State) =>
      { s with clk := { s.clk with on := (true) } }) up)), by decide +kernel⟩,
    ⟨((fun (s : State) => { s with clk := { s.clk with limitHit := (false) } }) (up.puts [(F.CLK_STATUS_COAST, 1)])), by decide +kernel⟩,
    ⟨{ (up.puts [(F.CLK_STATUS_COAST, 1)]) with epoch := 0 }, by decide +kernel⟩,
    ⟨((fun (s : State) => { s with clk := { s.clk with frozen := (true) } }) up), by decide +kernel⟩,
    ⟨((up.adjusts [F.CLK_N_N]).put F.CLK_N_N 128), by decide +kernel⟩,
    ⟨(up.adjusts [F.CLK_N_N]), by decide +kernel⟩,
    ⟨up, by decide +kernel⟩,
    ⟨((fun (s : State) => s.toShadow F.CLK_N_N 129) ((fun (s : State) => { s with clk := { s.clk with frozen := (false) } }) (up.puts
      [(F.CLK_STATUS_N_PENDING, 1)]))), ⟨by decide +kernel, by decide +kernel, by decide +kernel, fun n h =>
      by have h' : (none : Option Nat) = some n := h; cases h'⟩⟩,
    ⟨((fun (s : State) => s.adjusts [F.CLK_CTRL_REF_SEL]) (up.puts [(F.CLK_STATUS_LOCK, 1)])), by decide +kernel⟩,
    ⟨(up.adjusts [F.CLK_CTRL_REF_SEL]), by decide +kernel⟩,
    ⟨((up.adjusts [F.CLK_CTRL_REF_SEL]).put (F.PWM_STATUS_STATE 13) 1), by decide +kernel⟩⟩

theorem witness_DividerResetAndMarks :
    (∃ s : State, s.flag F.CLK_STATUS_ACTIVE_REF = true ∧ s.flag F.CLK_STATUS_LOCK = true ∧ s.clkRunning = false) ∧
    (∃ s : State, (s.flag F.CLK_STATUS_ACTIVE_REF && s.flag F.CLK_STATUS_LOCK && !s.clkRunning) = false) ∧
    (∃ s : State, s.clk.markSeen = true ∧ s.flag F.CLK_CTRL_DIVSYNC_ARM = true ∧ s.clk.armMark = true ∧ s.flag F.EPOCH_CTRL_MARK_ARM =
      false ∧ s.flag F.EPOCH_STATUS_ALIGNED = false ∧ s.flag F.CLK_STATUS_DIV_ALIGNED = false) ∧
    (∃ s : State, (s.clk.vco + (1 : Nat)) % 40 ≠ 0 ∧ s.clk.markSeen = true ∧ s.flag F.CLK_STATUS_DIV_ALIGNED = true ∧ s.flag
      F.EPOCH_CTRL_MARK_ARM = false ∧ s.flag F.EPOCH_STATUS_ALIGNED = false ∧ s.flag F.CLK_CTRL_DIVSYNC_ARM = false) ∧
    (∃ s : State, (s.clk.vco + (default)) % 40 = 0 ∧ s.clk.markSeen = true ∧ s.flag F.CLK_STATUS_DIV_ALIGNED = true ∧ s.flag
      F.EPOCH_CTRL_MARK_ARM = false ∧ s.flag F.EPOCH_STATUS_ALIGNED = false) :=
  ⟨
    ⟨(up.puts [(F.CLK_STATUS_ACTIVE_REF, 1), (F.CLK_STATUS_LOCK, 1)]), by decide +kernel⟩,
    ⟨up, by decide +kernel⟩,
    ⟨((fun (s : State) => { s with clk := { s.clk with armMark := (true) } }) ((fun (s : State) =>
      { s with clk := { s.clk with markSeen := (true) } }) (up.puts [(F.CLK_CTRL_DIVSYNC_ARM, 1), (F.EPOCH_CTRL_MARK_ARM, 0),
      (F.EPOCH_STATUS_ALIGNED, 0), (F.CLK_STATUS_DIV_ALIGNED, 0)]))), by decide +kernel⟩,
    ⟨((fun (s : State) => { s with clk := { s.clk with markSeen := (true) } }) (up.puts [(F.CLK_STATUS_DIV_ALIGNED, 1),
      (F.EPOCH_CTRL_MARK_ARM, 0), (F.EPOCH_STATUS_ALIGNED, 0), (F.CLK_CTRL_DIVSYNC_ARM, 0)])), by decide +kernel⟩,
    ⟨((fun (s : State) => { s with clk := { s.clk with markSeen := (true) } }) (up.puts [(F.CLK_STATUS_DIV_ALIGNED, 1),
      (F.EPOCH_CTRL_MARK_ARM, 0), (F.EPOCH_STATUS_ALIGNED, 0)])), by decide +kernel⟩⟩

theorem witness_WrongAndMissingMarks :
    (∃ s : State, s.clk.markSeen = true ∧ (10001) ≠ 10000 ∧ s.flag F.CLK_CTRL_DIVSYNC_ARM = true) :=
    ⟨((fun (s : State) => { s with clk := { s.clk with markSeen := (true) } }) (up.puts [(F.CLK_CTRL_DIVSYNC_ARM, 1)])),
      by decide +kernel⟩

theorem witness_IdleStepIsOneEpochTick :
    (∃ s : State, s.pending = [] ∧ s.flag F.CLK_STATUS_MUTED = true) ∧
    (∃ s : State, s.pending = [] ∧ s.flag F.CLK_STATUS_MUTED = false) :=
  ⟨
    ⟨((fun (s : State) => { s with pending := ([]) }) (up.puts [(F.CLK_STATUS_MUTED, 1)])), by decide +kernel⟩,
    ⟨((fun (s : State) => { s with pending := ([]) }) (up.puts [(F.CLK_STATUS_MUTED, 0)])), by decide +kernel⟩⟩

theorem witness_EpochLoadsReadsAndSteps :
    (∃ s : State, s.epochRunning = true) ∧
    (∃ s : State, s.flag F.EPOCH_CTRL_LOAD = true) ∧
    (∃ s : State, s.epochRunning = false ∧ s.epochMode = 1 ∧ s.flag F.CLK_STATUS_DIV_ALIGNED = true) ∧
    (∃ s : State, s.epochRunning = false ∧ (s.epochMode ≠ 1 ∨ s.flag F.CLK_STATUS_DIV_ALIGNED = false)) ∧
    (∃ s : State, s.clk.markSeen = true ∧ s.flag F.EPOCH_CTRL_MARK_ARM = true ∧ 2 * ((s.epoch : Int) - s.get F.EPOCH_SYNC_COMP_C) < (2 *
      (1 : Int) + 1) * 800000 ∧ (2 * (1 : Int) - 1) * 800000 ≤ 2 * ((s.epoch : Int) - s.get F.EPOCH_SYNC_COMP_C)) ∧
    (∃ s : State, s.flag F.EPOCH_CTRL_RTC_CAP = true) ∧
    (∃ s : State, s.flag F.EPOCH_CTRL_RTC_CAP = false) ∧
    (∃ s : State, s.adjust F.EPOCH_RATE_RATE (bitsOf (500000 : Word).toNat 0 24) = .ok ∧ s.epochMode ≠ 1 ∧ -500000 ≤ signedOf 24 (bitsOf
      (500000 : Word).toNat 0 24) ∧ signedOf 24 (bitsOf (500000 : Word).toNat 0 24) ≤ 500000) ∧
    (∃ s : State, s.adjust F.EPOCH_RATE_RATE (bitsOf (500001 : Word).toNat 0 24) = .ok ∧ (s.epochMode = 1 ∨ signedOf 24 (bitsOf (500001 :
      Word).toNat 0 24) < -500000 ∨ 500000 < signedOf 24 (bitsOf (500001 : Word).toNat 0 24))) ∧
    (∃ s : State, s.adjust F.EPOCH_SLEW_SLEW (bitsOf (0xFFFFFF : Word).toNat 0 24) = .ok ∧ s.epochMode ≠ 1) ∧
    (∃ s : State, s.epoch % 1024 = 0 ∧ s.ep.slot ≠ s.epoch + 1 ∧ 0 < s.ep.req) ∧
    (∃ s : State, s.epoch % 1024 = 0 ∧ s.ep.slot ≠ s.epoch + 1 ∧ s.ep.req < 0) ∧
    (∃ s : State, s.epoch % 1024 = 0 ∧ s.ep.slot ≠ s.epoch + 1 ∧ s.ep.req = 0 ∧ 0 < signedOf 24 (s.shadowGet F.EPOCH_SLEW_SLEW)) ∧
    (∃ s : State, s.epoch % 1024 = 0 ∧ s.ep.slot ≠ s.epoch + 1 ∧ s.ep.req = 0 ∧ signedOf 24 (s.shadowGet F.EPOCH_SLEW_SLEW) < 0) ∧
    (∃ s : State, s.epoch % 1024 = 0 ∧ s.ep.slot ≠ s.epoch + 1 ∧ s.ep.req = 0 ∧ signedOf 24 (s.shadowGet F.EPOCH_SLEW_SLEW) = 0) ∧
    (∃ s : State, s.epoch % 1024 ≠ 0) :=
  ⟨
    ⟨(up.put (F.SCHED_CTRL_STATE 31) 1), by decide +kernel⟩,
    ⟨(up.puts [(F.EPOCH_CTRL_LOAD, 1)]), by decide +kernel⟩,
    ⟨((fun (s : State) => s.put F.EPOCH_CTRL_MODE 1) (up.puts [(F.CLK_STATUS_DIV_ALIGNED, 1)])), by decide +kernel⟩,
    ⟨up, by decide +kernel⟩,
    ⟨{ ((fun (s : State) => { s with clk := { s.clk with markSeen := (true) } }) (up.puts [(F.EPOCH_CTRL_MARK_ARM, 1)])) with epoch := 1200000 - 1 },
      by decide +kernel⟩,
    ⟨(up.puts [(F.EPOCH_CTRL_RTC_CAP, 1)]), by decide +kernel⟩,
    ⟨(up.puts [(F.EPOCH_CTRL_RTC_CAP, 0)]), by decide +kernel⟩,
    ⟨(up.adjusts [F.EPOCH_RATE_RATE] true), by decide +kernel⟩,
    ⟨(up.adjusts [F.EPOCH_RATE_RATE] true), by decide +kernel⟩,
    ⟨(up.adjusts [F.EPOCH_SLEW_SLEW] true), by decide +kernel⟩,
    ⟨({ up with ep := { up.ep with req := 1 } }), by decide +kernel⟩,
    ⟨({ up with ep := { up.ep with req := -1 } }), by decide +kernel⟩,
    ⟨((fun (s : State) => s.toShadow F.EPOCH_SLEW_SLEW 1) ((fun (s : State) => { s with ep := { s.ep with req := (0) } }) up)),
      by decide +kernel⟩,
    ⟨((fun (s : State) => s.toShadow F.EPOCH_SLEW_SLEW 0xFFFFFF) ((fun (s : State) => { s with ep := { s.ep with req := (0) } }) up)),
      by decide +kernel⟩,
    ⟨((fun (s : State) => { s with ep := { s.ep with req := (0) } }) up), by decide +kernel⟩,
    ⟨{ up with epoch := 1023 }, by decide +kernel⟩⟩

theorem witness_AlignedEpochIsCheckedAtMarks :
    (∃ s : State, s.clk.markSeen = true ∧ s.flag F.EPOCH_CTRL_MARK_ARM = false ∧ s.flag F.EPOCH_STATUS_ALIGNED = true ∧ s.epoch % 800000 ≠
      s.get F.EPOCH_SYNC_COMP_C % 800000 ∧ s.flag F.CLK_CTRL_DIVSYNC_ARM = false ∧ s.flag F.CLK_STATUS_DIV_ALIGNED = false) ∧
    (∃ s : State, s.clk.markSeen = true ∧ s.flag F.EPOCH_CTRL_MARK_ARM = false ∧ s.flag F.EPOCH_STATUS_ALIGNED = true ∧ s.epoch % 800000 =
      s.get F.EPOCH_SYNC_COMP_C % 800000) :=
  ⟨
    ⟨{ ((fun (s : State) => { s with clk := { s.clk with markSeen := (true) } }) (up.puts [(F.EPOCH_CTRL_MARK_ARM, 0), (F.EPOCH_STATUS_ALIGNED, 1), (F.CLK_CTRL_DIVSYNC_ARM, 0), (F.CLK_STATUS_DIV_ALIGNED, 0)])) with epoch := 799999 },
      by decide +kernel⟩,
    ⟨((fun (s : State) => { s with clk := { s.clk with markSeen := (true) } }) (up.puts [(F.EPOCH_CTRL_MARK_ARM, 0),
      (F.EPOCH_STATUS_ALIGNED, 1)])), by decide +kernel⟩⟩

theorem witness_BarrierAndIslandSkew :
    (∃ s : State, s.flag F.EPOCH_STATUS_BAR_CAL_DONE = true ∧ s.ep.barNext ≤ s.mono ∧ 32 < (-33 : Int).natAbs) ∧
    (∃ s : State, s.flag F.EPOCH_STATUS_BAR_CAL_DONE = true ∧ s.ep.barNext ≤ s.mono ∧ (32 : Int).natAbs ≤ 32) ∧
    (∃ s : State, s.ep.islNext ≤ s.mono ∧ 2 ≤ (2 : Nat)) ∧
    (∃ s : State, s.ep.islNext ≤ s.mono ∧ (1 : Nat) < 2) :=
  ⟨
    ⟨(up.puts [(F.EPOCH_STATUS_BAR_CAL_DONE, 1)]), by decide +kernel⟩,
    ⟨(up.puts [(F.EPOCH_STATUS_BAR_CAL_DONE, 1)]), by decide +kernel⟩,
    ⟨up, by decide +kernel⟩,
    ⟨up, by decide +kernel⟩⟩

theorem witness_BarrierMeasurements :
    (∃ s : State, s.flag F.EPOCH_STATUS_BAR_CAL_DONE = true ∧ s.ep.barNext ≤ s.mono ∧ 0 < (1 : Int)) ∧
    (∃ s : State, s.flag F.EPOCH_STATUS_BAR_CAL_DONE = true ∧ s.ep.barNext ≤ s.mono ∧ (-1 : Int) < 0) ∧
    (∃ s : State, s.flag F.EPOCH_STATUS_BAR_CAL_DONE = true ∧ s.ep.barNext ≤ s.mono ∧ (0 : Int) = 0) ∧
    (∃ s : State, (s.flag F.EPOCH_STATUS_BAR_CAL_DONE = false ∨ s.mono < s.ep.barNext)) ∧
    (∃ s : State, bitOf (s.get F.SYS_PD_STATUS_DOMAIN_ON) 10 = true ∧ s.flag F.EPOCH_STATUS_BAR_CAL_DONE = false ∧ (0 : Nat) < 0x10000) :=
  ⟨
    ⟨(up.puts [(F.EPOCH_STATUS_BAR_CAL_DONE, 1)]), by decide +kernel⟩,
    ⟨(up.puts [(F.EPOCH_STATUS_BAR_CAL_DONE, 1)]), by decide +kernel⟩,
    ⟨(up.puts [(F.EPOCH_STATUS_BAR_CAL_DONE, 1)]), by decide +kernel⟩,
    ⟨(up.puts [(F.EPOCH_STATUS_BAR_CAL_DONE, 0)]), by decide +kernel⟩,
    ⟨(up.puts [(F.EPOCH_STATUS_BAR_CAL_DONE, 0)]), by decide +kernel⟩⟩

theorem witness_ScheduleEntriesArmAndDisarm :
    (∃ s : State, s.schedState (0 : Fin 32) ≠ 1 ∧ mayArm (.hpa : Initiator) (s.schedAct (0 : Fin 32)) = true ∧ (s.rd (R.SCHED_REPEAT (0 :
      Fin 32)) = 0#32 ∨ 800 ≤ (s.rd (R.SCHED_REPEAT (0 : Fin 32))).toNat) ∧ s.epoch + 400 ≤ s.schedTime (0 : Fin 32)) ∧
    (∃ s : State, s.schedState (0 : Fin 32) ≠ 1 ∧ mayArm (.hpa : Initiator) (s.schedAct (0 : Fin 32)) = true ∧ (s.rd (R.SCHED_REPEAT (0 :
      Fin 32)) = 0#32 ∨ 800 ≤ (s.rd (R.SCHED_REPEAT (0 : Fin 32))).toNat) ∧ s.schedTime (0 : Fin 32) < s.epoch + 400) ∧
    (∃ s : State, s.schedState (0 : Fin 32) ≠ 1 ∧ (mayArm (.hpb : Initiator) (s.schedAct (0 : Fin 32)) = false ∨ (1 ≤ (s.rd
      (R.SCHED_REPEAT (0 : Fin 32))).toNat ∧ (s.rd (R.SCHED_REPEAT (0 : Fin 32))).toNat ≤ 799))) ∧
    (∃ s : State, s.schedState (0 : Fin 32) = 1 ∧ s.epoch + 400 ≤ s.schedTime (0 : Fin 32)) ∧
    (∃ s : State, s.schedState (0 : Fin 32) = 1 ∧ s.schedTime (0 : Fin 32) < s.epoch + 400) :=
  ⟨
    ⟨((fun (s : State) => s.wr (R.SCHED_TIME_LO 0) 400#32) { (up.puts [(whole ((R.SCHED_REPEAT 0)), 0)]) with epoch := 0 }),
      by decide +kernel⟩,
    ⟨(up.puts [(whole ((R.SCHED_REPEAT 0)), 0)]), by decide +kernel⟩,
    ⟨(up.put (F.SCHED_ACTION_ACTION 0) 3), by decide +kernel⟩,
    ⟨((fun (s : State) => s.wr (R.SCHED_TIME_LO 0) 400#32) { (up.puts [(F.SCHED_CTRL_STATE 0, 1)]) with epoch := 0 }), by decide +kernel⟩,
    ⟨(up.puts [(F.SCHED_CTRL_STATE 0, 1)]), by decide +kernel⟩⟩

theorem witness_ScheduledActions :
    (∃ s : State, s.schedDue (0 : Fin 32) 0 = true) ∧
    (∃ s : State, s.schedDue (0 : Fin 32) 1 = true ∧ s.get (F.SENSP_WG_CFG_TRIG_SRC (0 : Fin 4)) = 5 ∧ s.get (F.SENSP_WG_CFG_TRIG_UNIT (0
      : Fin 4)) = (0 : Fin 32) ∧ s.flag (F.SENSP_WG_CTRL_EN (0 : Fin 4)) = true ∧ (s.sens.wg.get (0 : Fin 4)).enTick ≤ s.schedTime (0 :
      Fin 32)) ∧
    (∃ s : State, s.schedDue (0 : Fin 32) 8 = true) ∧
    (∃ s : State, s.schedDue (0 : Fin 32) 9 = true ∧ bitOf (s.schedTarget (0 : Fin 32)) (0 : Fin 2) = true) ∧
    (∃ s : State, s.schedDue (0 : Fin 32) 10 = true ∧ bitOf (s.schedTarget (0 : Fin 32)) (0 : Fin 16) = true) ∧
    (∃ s : State, s.schedDue (0 : Fin 32) 0 = false) ∧
    (∃ s : State, s.schedDue (0 : Fin 32) 1 = false) ∧
    (∃ s : State, s.schedDue (0 : Fin 32) 8 = false) ∧
    (∃ s : State, s.schedDue (0 : Fin 32) 9 = false) ∧
    (∃ s : State, s.schedDue (0 : Fin 32) 10 = false) ∧
    (∃ s : State, s.schedDue (0 : Fin 32) 2 = true ∧ bitOf (s.schedTarget (0 : Fin 32)) (0 : Fin 14) = true ∧ bitOf (s.schedStops
      (s.schedTime (0 : Fin 32))) (0 : Fin 14) = false ∧ s.ep.stopAt.get (0 : Fin 14) ≠ s.schedTime (0 : Fin 32) + 1 ∧ s.ep.stopAt.get (0
      : Fin 14) ≠ s.epoch + 1 ∧ s.startRefused (0 : Fin 14) = false) ∧
    (∃ s : State, s.schedDue (0 : Fin 32) 2 = true ∧ (bitOf (s.schedTarget (0 : Fin 32)) (0 : Fin 14) = false ∨ bitOf (s.schedStops
      (s.schedTime (0 : Fin 32))) (0 : Fin 14) = true)) ∧
    (∃ s : State, s.schedDue (0 : Fin 32) 3 = true ∧ bitOf (s.schedTarget (0 : Fin 32)) (0 : Fin 14) = true ∧ s.pwmState (0 : Fin 14) ≠ 3) ∧
    (∃ s : State, s.schedDue (0 : Fin 32) 3 = true ∧ bitOf (s.schedTarget (0 : Fin 32)) (0 : Fin 14) = false) ∧
    (∃ s : State, s.schedDue (0 : Fin 32) 4 = true ∧ bitOf (s.schedTarget (0 : Fin 32)) (0 : Fin 14) = true ∧ s.unitPair (0 : Fin 14) =
      none ∧ s.pwmState (0 : Fin 14) = 1 ∧ (s.pwm.get (0 : Fin 14)).commit = false) ∧
    (∃ s : State, s.schedDue (0 : Fin 32) 5 = true) ∧
    (∃ s : State, s.schedDue (0 : Fin 32) 6 = true ∧ s.schedParam (0 : Fin 32) = 0) ∧
    (∃ s : State, s.schedDue (0 : Fin 32) 6 = true ∧ s.schedParam (0 : Fin 32) = 1 ∧ s.closeRefusal true (bitsOf (s.schedTarget (0 : Fin
      32)) 0 2 == 3) = none ∧ s.formingBlocks = false) ∧
    (∃ s : State, s.schedDue (0 : Fin 32) 6 = true ∧ s.schedParam (0 : Fin 32) = 1 ∧ bitsOf (s.schedTarget (0 : Fin 32)) 0 2 ≠ 3) ∧
    (∃ s : State, s.schedDue (0 : Fin 32) 7 = true ∧ s.schedParam (0 : Fin 32) = (11 : Nat) ∧ (11 : Nat) < 256 ∧ s.maintAhead (s.schedTime
      (0 : Fin 32)) (11 : Nat) = [] ∧ (s.diag.reqAt = some (s.schedTime (0 : Fin 32)) → (11 : Nat) ∉ s.diag.reqs) ∧ s.maintRefusal (.sched
      (if s.ep.byHpb.get (0 : Fin 32) then .hpb else .hpa)) (11 : Nat) = none) ∧
    (∃ s : State, s.schedDue (0 : Fin 32) 7 = true ∧ s.schedParam (0 : Fin 32) = (11 : Nat) ∧ (11 : Nat) < 256 ∧ s.maintAhead (s.schedTime
      (0 : Fin 32)) (11 : Nat) = [] ∧ (s.diag.reqAt = some (s.schedTime (0 : Fin 32)) → (11 : Nat) ∉ s.diag.reqs) ∧ s.maintRefusal (.sched
      (if s.ep.byHpb.get (0 : Fin 32) then .hpb else .hpa)) (11 : Nat) ≠ none) ∧
    (∃ s : State, s.schedDue (0 : Fin 32) 2 = false) ∧
    (∃ s : State, s.schedDue (0 : Fin 32) 3 = false) ∧
    (∃ s : State, s.schedDue (0 : Fin 32) 4 = false) ∧
    (∃ s : State, s.schedDue (0 : Fin 32) 5 = false) ∧
    (∃ s : State, s.schedDue (0 : Fin 32) 6 = false) ∧
    (∃ s : State, s.schedDue (0 : Fin 32) 7 = false) :=
  ⟨
    ⟨(up.puts [(F.SCHED_CTRL_STATE 0, 1), (F.SCHED_ACTION_ACTION 0, 0)]), by decide +kernel⟩,
    ⟨(up.puts [(F.SCHED_CTRL_STATE 0, 1), (F.SCHED_ACTION_ACTION 0, 1), ((F.SENSP_WG_CFG_TRIG_SRC 0), 5), ((F.SENSP_WG_CFG_TRIG_UNIT 0),
      0), ((F.SENSP_WG_CTRL_EN 0), 1)]), by decide +kernel⟩,
    ⟨(up.puts [(F.SCHED_CTRL_STATE 0, 1), (F.SCHED_ACTION_ACTION 0, 8)]), by decide +kernel⟩,
    ⟨((fun (s : State) => s.put (F.SCHED_ACTION_TARGET 0) 1) (up.puts [(F.SCHED_CTRL_STATE 0, 1), (F.SCHED_ACTION_ACTION 0, 9)])),
      by decide +kernel⟩,
    ⟨((fun (s : State) => s.put (F.SCHED_ACTION_TARGET 0) 1) (up.puts [(F.SCHED_CTRL_STATE 0, 1), (F.SCHED_ACTION_ACTION 0, 10)])),
      by decide +kernel⟩,
    ⟨(up.puts [(F.SCHED_CTRL_STATE 0, 0), (F.SCHED_ACTION_ACTION 0, 0)]), by decide +kernel⟩,
    ⟨(up.puts [(F.SCHED_CTRL_STATE 0, 0), (F.SCHED_ACTION_ACTION 0, 1)]), by decide +kernel⟩,
    ⟨(up.puts [(F.SCHED_CTRL_STATE 0, 0), (F.SCHED_ACTION_ACTION 0, 8)]), by decide +kernel⟩,
    ⟨(up.puts [(F.SCHED_CTRL_STATE 0, 0), (F.SCHED_ACTION_ACTION 0, 9)]), by decide +kernel⟩,
    ⟨(up.puts [(F.SCHED_CTRL_STATE 0, 0), (F.SCHED_ACTION_ACTION 0, 10)]), by decide +kernel⟩,
    ⟨((fun (s : State) => (s.puts [(F.SCHED_ACTION_TARGET 0, 1), (F.SCHED_CTRL_STATE 0, 1), (F.SCHED_ACTION_ACTION 0, 2)])) (up.puts
      [(F.SCHED_CTRL_STATE 0, 1), (F.SCHED_ACTION_ACTION 0, 2)])), by decide +kernel⟩,
    ⟨(up.puts [(F.SCHED_CTRL_STATE 0, 1), (F.SCHED_ACTION_ACTION 0, 2)]), by decide +kernel⟩,
    ⟨((fun (s : State) => (s.puts [(F.SCHED_ACTION_TARGET 0, 1), (F.SCHED_CTRL_STATE 0, 1), (F.SCHED_ACTION_ACTION 0, 3)])) (up.puts
      [(F.SCHED_CTRL_STATE 0, 1), (F.SCHED_ACTION_ACTION 0, 3)])), by decide +kernel⟩,
    ⟨(up.puts [(F.SCHED_CTRL_STATE 0, 1), (F.SCHED_ACTION_ACTION 0, 3)]), by decide +kernel⟩,
    ⟨((fun (s : State) => ((s.puts [(F.SCHED_ACTION_TARGET 0, 1), (F.SCHED_CTRL_STATE 0, 1), (F.SCHED_ACTION_ACTION 0, 4)])).put
      (F.PWM_STATUS_STATE 0) 1) ((fun (s : State) => { s with pwm := s.pwm.modify (0) (fun y0 => { y0 with commit := (false) }) })
      (up.puts [(F.SCHED_CTRL_STATE 0, 1), (F.SCHED_ACTION_ACTION 0, 4), (F.PWM_STATUS_STATE 0, 1)]))), by decide +kernel⟩,
    ⟨(up.puts [(F.SCHED_CTRL_STATE 0, 1), (F.SCHED_ACTION_ACTION 0, 5)]), by decide +kernel⟩,
    ⟨(up.puts [(F.SCHED_CTRL_STATE 0, 1), (F.SCHED_ACTION_ACTION 0, 6)]), by decide +kernel⟩,
    ⟨((fun (s : State) => (((s.puts [(F.GRID_RT_STATUS_CONN_STATE, 1), (F.GRID_RT_STATUS_RC_READY, 1), (F.GRID_RT_STATUS_CHECK_OK, 1),
      (F.GRID_CFG_GRID_PAIR, 4), (F.LP_CTRL_EN 4, 1), (F.SCHED_ACTION_TARGET 0, 3), (F.SCHED_CTRL_STATE 0, 1), (F.SCHED_ACTION_ACTION 0,
      6)]).wr (R.SCHED_PARAM 0) 1#32))) (up.puts [(F.SCHED_CTRL_STATE 0, 1), (F.SCHED_ACTION_ACTION 0, 6)])), by decide +kernel⟩,
    ⟨((fun (s : State) => ((s.puts [(F.SCHED_ACTION_TARGET 0, 1), (F.SCHED_CTRL_STATE 0, 1), (F.SCHED_ACTION_ACTION 0, 6)])).wr
      (R.SCHED_PARAM 0) 1#32) (up.puts [(F.SCHED_CTRL_STATE 0, 1), (F.SCHED_ACTION_ACTION 0, 6)])), by decide +kernel⟩,
    ⟨(((up.puts [(F.SCHED_ACTION_TARGET 0, 0), (F.SCHED_CTRL_STATE 0, 1), (F.SCHED_ACTION_ACTION 0, 7), (F.METER_STATUS_VAULT_READY,
      1)]).wr (R.SCHED_PARAM 0) 11#32) |> fun s => { s with diag := { s.diag with bistNext := 30000 } }), by decide +kernel⟩,
    ⟨(((up.puts [(F.SCHED_ACTION_TARGET 0, 0), (F.SCHED_CTRL_STATE 0, 1), (F.SCHED_ACTION_ACTION 0, 7), (F.METER_STATUS_VAULT_READY,
      0)]).wr (R.SCHED_PARAM 0) 11#32) |> fun s => { s with diag := { s.diag with bistNext := 30000 } }), by decide +kernel⟩,
    ⟨(up.puts [(F.SCHED_CTRL_STATE 0, 0), (F.SCHED_ACTION_ACTION 0, 2)]), by decide +kernel⟩,
    ⟨(up.puts [(F.SCHED_CTRL_STATE 0, 0), (F.SCHED_ACTION_ACTION 0, 3)]), by decide +kernel⟩,
    ⟨(up.puts [(F.SCHED_CTRL_STATE 0, 0), (F.SCHED_ACTION_ACTION 0, 4)]), by decide +kernel⟩,
    ⟨(up.puts [(F.SCHED_CTRL_STATE 0, 0), (F.SCHED_ACTION_ACTION 0, 5)]), by decide +kernel⟩,
    ⟨(up.puts [(F.SCHED_CTRL_STATE 0, 0), (F.SCHED_ACTION_ACTION 0, 6)]), by decide +kernel⟩,
    ⟨(up.puts [(F.SCHED_CTRL_STATE 0, 0), (F.SCHED_ACTION_ACTION 0, 7)]), by decide +kernel⟩⟩

theorem witness_WindowGroups :
    (∃ s : State, (s.sens.wg.get (0 : Fin 4)).pend = ((⟨0, 0, some 1, 0, none⟩ : Win)) :: ([]) ∧ ((⟨0, 0, some 1, 0, none⟩ : Win)).o ≤
      s.epoch ∧ ((s.sens.wg.get (0 : Fin 4)).opened.filter fun y => decide (((⟨0, 0, some 1, 0, none⟩ : Win)).o < y.close (s.flag
      (F.SENSP_WG_CFG_WEIGHT (0 : Fin 4))))).length < 2 ∧ (1) ≠ ((0 : Fin 4) : Nat)) ∧
    (∃ s : State, (s.sens.wg.get (0 : Fin 4)).pend = ((⟨0, 0, some 1, 0, none⟩ : Win)) :: ([]) ∧ ((⟨0, 0, some 1, 0, none⟩ : Win)).o ≤
      s.epoch ∧ 2 ≤ ((s.sens.wg.get (0 : Fin 4)).opened.filter fun y => decide (((⟨0, 0, some 1, 0, none⟩ : Win)).o < y.close (s.flag
      (F.SENSP_WG_CFG_WEIGHT (0 : Fin 4))))).length) ∧
    (∃ s : State, (s.sens.wg.get (0 : Fin 4)).pend = ((⟨0, 1, some 1, 0, none⟩ : Win)) :: ([]) ∧ s.epoch < ((⟨0, 1, some 1, 0, none⟩ :
      Win)).o) ∧
    (∃ s : State, (s.sens.wg.get (0 : Fin 4)).opened = ((⟨0, 0, some 1, 0, none⟩ : Win)) :: ([]) ∧ ((⟨0, 0, some 1, 0, none⟩ : Win)).close
      (s.flag (F.SENSP_WG_CFG_WEIGHT (0 : Fin 4))) ≤ s.epoch) ∧
    (∃ s : State, (s.sens.wg.get (0 : Fin 4)).closed = ((⟨0, 0, 0, [], []⟩ : Closed)) :: ([]) ∧ (∀ q ∈ ((⟨0, 0, 0, [], []⟩ :
      Closed)).recs, q.ch < 26) ∧ (∀ p : Fin 6, (0 : Nat) < tcmBase p + 0xFE00 ∨ tcmBase p + 0x10000 ≤ (0 : Nat)) ∧ ((0 : Nat) < spBase +
      0xFE00 ∨ spBase + 0x10000 ≤ (0 : Nat))) ∧
    (∃ s : State, (s.pwm.get (0 : Fin 14)).counting = true ∧ s.pwmState (0 : Fin 14) ≠ 2 ∧ bitOf (s.pwm.get (0 : Fin 14)).trig (0 : Fin 3)
      = false ∧ (s.pwm.get (0 : Fin 14)).n0 ≤ (if (0 : Fin 3) = 0 then s.get (F.PWM_PERIOD (0 : Fin 14)) / 2 else if (0 : Fin 3) = 1 then
      s.get (F.PWM_CMPA (0 : Fin 14)) else s.get (F.PWM_CMPB (0 : Fin 14))) ∧ (0 : Nat) = (s.pwm.get (0 : Fin 14)).start + offOf
      (s.pwm.get (0 : Fin 14)).n0 (s.pwm.get (0 : Fin 14)).hold (if (0 : Fin 3) = 0 then s.get (F.PWM_PERIOD (0 : Fin 14)) / 2 else if (0
      : Fin 3) = 1 then s.get (F.PWM_CMPA (0 : Fin 14)) else s.get (F.PWM_CMPB (0 : Fin 14))) ∧ (0 : Nat) < (s.pwm.get (0 : Fin 14)).next
      ∧ (0 : Nat) ≤ s.epoch ∧ s.get (F.SENSP_WG_CFG_TRIG_SRC (0 : Fin 4)) = 2 + (0 : Fin 3) ∧ s.get (F.SENSP_WG_CFG_TRIG_UNIT (0 : Fin 4))
      = (0 : Fin 14) ∧ s.flag (F.SENSP_WG_CTRL_EN (0 : Fin 4)) = true ∧ (s.sens.wg.get (0 : Fin 4)).enTick ≤ (0 : Nat)) ∧
    (∃ s : State, s.flag (F.SENSP_WG_CTRL_EN (0 : Fin 4)) = false ∧ (∀ k ∈ s.wgMembers (0 : Fin 4), s.flag (calValidF k) = true) ∧
      (s.wgGrid (0 : Fin 4) = true → s.flag F.EPOCH_STATUS_BAR_CAL_DONE = true) ∧ s.flag (calBusyF (s.wgGrid (0 : Fin 4))) = false) ∧
    (∃ s : State, s.flag (F.SENSP_WG_CTRL_EN (0 : Fin 4)) = false ∧ ((∃ k ∈ s.wgMembers (0 : Fin 4), s.flag (calValidF k) = false) ∨
      (s.wgGrid (0 : Fin 4) = true ∧ s.flag F.EPOCH_STATUS_BAR_CAL_DONE = false) ∨ s.flag (calBusyF (s.wgGrid (0 : Fin 4))) = true)) :=
  ⟨
    ⟨((fun (s : State) =>
      { s with sens := { s.sens with wg := s.sens.wg.modify (0) (fun y0 => { y0 with pend := ((⟨0, 0, some 1, 0, none⟩ : Win) :: []) }) } })
      up), by decide +kernel⟩,
    ⟨((fun (s : State) =>
      { s with sens := { s.sens with wg := s.sens.wg.modify 0 fun y => { y with opened := [⟨0, 0, none, 0, none⟩, ⟨0, 0, none, 0, none⟩] } } })
      ((fun (s : State) =>
      { s with sens := { s.sens with wg := s.sens.wg.modify (0) (fun y0 => { y0 with pend := ((⟨0, 0, some 1, 0, none⟩ : Win) :: []) }) } })
      up)), by decide +kernel⟩,
    ⟨{ ((fun (s : State) => { s with sens := { s.sens with wg := s.sens.wg.modify (0) (fun y0 => { y0 with pend := ((⟨0, 1, some 1, 0, none⟩ : Win) :: []) }) } }) up) with epoch := 0 },
      by decide +kernel⟩,
    ⟨((fun (s : State) =>
      { s with sens := { s.sens with wg := s.sens.wg.modify (0) (fun y0 => { y0 with opened := ((⟨0, 0, some 1, 0, none⟩ : Win) :: []) }) } })
      up), by decide +kernel⟩,
    ⟨((fun (s : State) =>
      { s with sens := { s.sens with wg := s.sens.wg.modify (0) (fun y0 => { y0 with closed := ((⟨0, 0, 0, [], []⟩ : Closed) :: []) }) } })
      up), by decide +kernel⟩,
    ⟨((fun (s : State) => (s.put (F.SENSP_WG_CFG_TRIG_SRC 0) 2).modPwm 0 fun p => { p with len := 1 })
      { ((fun (s : State) => { s with pwm := s.pwm.modify (0) (fun y0 => { y0 with counting := (true) }) }) (up.puts [((F.SENSP_WG_CFG_TRIG_SRC 0), 2 + 0), ((F.SENSP_WG_CFG_TRIG_UNIT 0), 0), ((F.SENSP_WG_CTRL_EN 0), 1)])) with epoch := 0 }),
      by decide +kernel⟩,
    ⟨up, by decide +kernel⟩,
    ⟨up.put F.SENSP_STATUS_CAL_BUSY 1, by decide +kernel⟩⟩

theorem witness_RingsAndLineCycles :
    (∃ s : State, (s.sens.ch.get (0 : Fin 26)).claim = 0 ∧ s.ringOn (0 : Fin 26) = false ∧ s.ringRefused (0 : Fin 26) = false) ∧
    (∃ s : State, (s.sens.ch.get (0 : Fin 26)).claim = 0 ∧ s.ringOn (0 : Fin 26) = false ∧ s.ringRefused (0 : Fin 26) = true) ∧
    (∃ s : State, (s.sens.ch.get (0 : Fin 26)).claim ≠ 0) ∧
    (∃ s : State, s.ringOn (0 : Fin 26) = true ∧ s.chContinuous (0 : Fin 26) = true ∧ 2 ≤ s.get (F.CH_CFG_STREAM (0 : Fin 26)) ∧ s.get
      (F.CH_CFG_STREAM (0 : Fin 26)) ≤ 7 ∧ (20000 : Nat) = streamP (s.get (F.CH_CFG_STREAM (0 : Fin 26))) ∧ (0 : Nat) = (s.sens.ch.get (0
      : Fin 26)).nextT ∧ (0 : Nat) ≤ s.epoch) ∧
    (∃ s : State, s.ringOn (0 : Fin 26) = true ∧ s.chContinuous (0 : Fin 26) = true ∧ s.get (F.CH_CFG_STREAM (0 : Fin 26)) = 1 ∧
      s.lineNext (0 : Fin 26) = some ((1024 : Nat), (1280 : Nat), (0 : Nat)) ∧ subStart (1024 : Nat) (1280 : Nat) ((0 : Nat) + 1) ≤
      s.epoch) ∧
    (∃ s : State, (s.sens.ch.get (0 : Fin 26)).entries = (0#32) :: ([]) ∧ (∀ j, j < 4 → memHome (4) ≠ memHome ((s.rd (R.CH_RING_BASE (0 :
      Fin 26))).toNat + 4 * ((s.rd (R.CH_RING_WR (0 : Fin 26))).toNat % 2 ^ s.get (F.CH_RING_CTRL_SIZE_LOG2 (0 : Fin 26))) + j))) ∧
    (∃ s : State, (s.sens.side.get (b2n (false : Bool))).ann = ⟨some (0), (0)⟩ :: ([]) ∧ s.pdOn (sidePd (false : Bool)) = true ∧ s.epoch ≤
      (0) + 64) ∧
    (∃ s : State, (s.sens.side.get (b2n (false : Bool))).ann = ⟨some (0), (0)⟩ :: ([]) ∧ s.pdOn (sidePd (false : Bool)) = true ∧ (0) + 64
      < s.epoch) ∧
    (∃ s : State, (s.sens.side.get (b2n (false : Bool))).opened = ((default), (default)) :: (default) ∧ (default) ≤ s.epoch ∧ ((0 : Fin
      26) : Nat) ∈ sideChs (false : Bool) ∧ ((0 : Fin 26) : Nat) ≠ 15 ∧ s.chContinuous (0 : Fin 26) = true ∧ (s.sens.ch.get (0 : Fin
      26)).contFrom ≤ (default)) ∧
    (∃ s : State, (s.sens.side.get (b2n (false : Bool))).opened = ((default), (default)) :: (default) ∧ (default) ≤ s.epoch ∧ (false :
      Bool) = false) ∧
    (((0 : Fin 26) : Nat) ∈ sideChs (false : Bool)) ∧
    (∃ s : State, ((0 : Fin 26) : Nat) ∈ sideChs (false : Bool) ∧ (s.sens.ch.get (0 : Fin 26)).lcRec = some (default : LcRec)) ∧
    ((∀ p : Fin 6, (default) < tcmBase p + 0xFC00 ∨ tcmBase p + 0xFDA0 ≤ (default)) ∧ ((default) < spBase + 0xFC00 ∨ spBase + 0xFDA0 ≤
      (default))) :=
  ⟨
    ⟨((fun (s : State) => (s.wr (R.CH_RING_BASE 0) 0x20000000#32).puts [(F.CH_CFG_STREAM 0, 1), (F.CH_RING_CTRL_SIZE_LOG2 0, 8)]) ((fun (s
      : State) => { s with sens := { s.sens with ch := s.sens.ch.modify (0) (fun y0 => { y0 with claim := (0) }) } }) up)),
      by decide +kernel⟩,
    ⟨((fun (s : State) => { s with sens := { s.sens with ch := s.sens.ch.modify (0) (fun y0 => { y0 with claim := (0) }) } }) up),
      by decide +kernel⟩,
    ⟨({ up with sens := { up.sens with ch := up.sens.ch.modify 0 fun y => { y with claim := 1 } } }), by decide +kernel⟩,
    ⟨((up.withSec Sec.topology 0 (placed 0x20 [(1, 1, 1), (4, 1, 3)])).puts [(F.CH_RING_CTRL_EN 0, 1), (F.CH_CFG_STREAM 0, 7)]),
      by decide +kernel⟩,
    ⟨(((up.withSec Sec.topology 0 (placed 0x20 [(1, 1, 1), (4, 1, 3)])).puts [(F.CH_RING_CTRL_EN 0, 1), (F.CH_CFG_STREAM 0, 1)]).modCh 0
      fun c => { c with llStart := 1024, llEnd := 1280, llNext := 0 }), by decide +kernel⟩,
    ⟨((fun (s : State) => { s with sens := { s.sens with ch := s.sens.ch.modify (0) (fun y0 => { y0 with entries := (0#32 :: []) }) } })
      up), by decide +kernel⟩,
    ⟨{ ((fun (s : State) => { s with sens := { s.sens with side := s.sens.side.modify ((b2n false)) (fun y0 => { y0 with ann := (⟨some 0, 0⟩ :: []) }) } }) (up.puts [(⟨F.SYS_PD_STATUS_DOMAIN_ON.addr, (sidePd false), 1⟩, 1)])) with epoch := 64 },
      by decide +kernel⟩,
    ⟨{ ((fun (s : State) => { s with sens := { s.sens with side := s.sens.side.modify ((b2n false)) (fun y0 => { y0 with ann := (⟨some 0, 0⟩ :: []) }) } }) (up.puts [(⟨F.SYS_PD_STATUS_DOMAIN_ON.addr, (sidePd false), 1⟩, 1)])) with epoch := 65 },
      by decide +kernel⟩,
    ⟨((fun (s : State) =>
      { s with sens := { s.sens with side := s.sens.side.modify ((b2n false)) (fun y0 => { y0 with opened := ((default, default) :: default) }) } })
      up), by decide +kernel⟩,
    ⟨((fun (s : State) =>
      { s with sens := { s.sens with side := s.sens.side.modify ((b2n false)) (fun y0 => { y0 with opened := ((default, default) :: default) }) } })
      up), by decide +kernel⟩,
    by decide +kernel,
    ⟨((fun (s : State) => { s with sens := { s.sens with ch := s.sens.ch.modify (0) (fun y0 => { y0 with lcRec := (some default) }) } })
      up), by decide +kernel⟩,
    by decide +kernel⟩

theorem witness_OverloadsMonitorAndCalibration :
    (∃ s : State, s.chPowered (4 : Fin 26) = true ∧ ((s.sens.ch.get (4 : Fin 26)).ovl = [] ∨ (s.sens.ch.get (4 : Fin 26)).lastTrip + 160 <
      s.epoch) ∧ (5 : Fin 26) ≠ (4 : Fin 26) ∧ chGrid (5 : Fin 26) = chGrid (4 : Fin 26) ∧ quadOf (5 : Fin 26) = quadOf (4 : Fin 26) ∧
      s.chPowered (5 : Fin 26) = true) ∧
    (∃ s : State, s.chPowered (0 : Fin 26) = true ∧ (s.sens.ch.get (0 : Fin 26)).ovl = ((⟨0, none, [(0, true)]⟩ : Ovl)) :: ([]) ∧ s.epoch
      ≤ (s.sens.ch.get (0 : Fin 26)).lastTrip + 160) ∧
    (∃ s : State, (s.sens.ch.get (0 : Fin 26)).ovl = ((⟨0, none, [(0, true)]⟩ : Ovl)) :: ([]) ∧ ((⟨0, none, [(0, true)]⟩ : Ovl)).e = none
      ∧ (s.sens.ch.get (0 : Fin 26)).lastTrip + 80 ≤ s.epoch) ∧
    (∃ s : State, s.get (F.CH_CFG_RANGE (4 : Fin 26)) ≠ bitsOf (1 : Word).toNat 0 2 ∧ s.adjust (F.CH_CFG_RANGE (4 : Fin 26)) (bitsOf (1 :
      Word).toNat 0 2) = .ok ∧ s.chIdle (4 : Fin 26) = true ∧ s.rangeBad (4 : Fin 26) (bitsOf (1 : Word).toNat 0 2) = false) ∧
    (∃ s : State, s.get (F.CH_CFG_RANGE (4 : Fin 26)) = bitsOf (1#32 : Word).toNat 0 2 ∧ s.adjust (F.CH_CFG_RANGE (4 : Fin 26)) (bitsOf
      (1#32 : Word).toNat 0 2) = .ok ∧ s.chIdle (4 : Fin 26) = true ∧ s.rangeBad (4 : Fin 26) (bitsOf (1#32 : Word).toNat 0 2) = false) ∧
    (∃ s : State, s.adjust (F.CH_CFG_RANGE (4 : Fin 26)) (bitsOf (3 : Word).toNat 0 2) = .ok ∧ (s.chIdle (4 : Fin 26) = false ∨ s.rangeBad
      (4 : Fin 26) (bitsOf (3 : Word).toNat 0 2) = true)) ∧
    (∃ s : State, s.pdOn 8 = true ∧ bitOf (bitsOf (s.rd R.SENSP_MON_MASK).toNat 0 6) s.sens.monSrc = true ∧ s.sens.monStart + 51200 ≤
      s.mono) ∧
    (∃ s : State, s.pdOn 10 = true ∧ s.sens.tempNext ≤ s.mono ∧ 2240 < (2241 : BitVec 16).toInt ∧ s.sens.hot.get 2 = true) ∧
    (∃ s : State, s.pdOn 10 = true ∧ s.sens.tempNext ≤ s.mono ∧ (0 : BitVec 16).toInt ≤ 2240) ∧
    (∃ s : State, s.flag (calBusyF (false : Bool)) = true ∧ (s.sens.side.get (b2n (false : Bool))).calStage < 3 ∧ (s.sens.side.get (b2n
      (false : Bool))).calStart + calStageAt (s.sens.side.get (b2n (false : Bool))).calStage ≤ s.mono) ∧
    (∃ s : State, s.flag (calBusyF (false : Bool)) = true ∧ (s.sens.side.get (b2n (false : Bool))).calStage = 3 ∧ (s.sens.side.get (b2n
      (false : Bool))).calStart + 1360000 ≤ s.mono ∧ s.mono < (s.sens.side.get (b2n (false : Bool))).calStart + 1440000 ∧ ((4 : Fin 26) :
      Nat) ∈ calChs (false : Bool) ∧ ([(0, 0, 0), (0, 0, 0), (0, 0, 0), (0,
      0, 0), (0, 112000, -112000)] : List (Int × Int × Int)).getD (4 : Fin 26) (0, 0, 0) = ((0 : Int), (112000 : Int), (-112000 : Int)) ∧
      calPasses (calOfs (0 : Int)) (calGain (4 : Fin 26) (112000 : Int) (-112000 : Int)) = true) ∧
    (∃ s : State, s.flag (calBusyF (false : Bool)) = true ∧ (s.sens.side.get (b2n (false : Bool))).calStage = 3 ∧ (s.sens.side.get (b2n
      (false : Bool))).calStart + 1360000 ≤ s.mono ∧ s.mono < (s.sens.side.get (b2n (false : Bool))).calStart + 1440000 ∧ ((4 : Fin 26) :
      Nat) ∈ calChs (false : Bool) ∧ ([] : List (Int × Int × Int)).getD (4
      : Fin 26) (0, 0, 0) = ((0 : Int), (0 : Int), (0 : Int)) ∧ calPasses (calOfs (0 : Int)) (calGain (4 : Fin 26) (0 : Int) (0 : Int)) =
      false) ∧
    (∃ s : State, s.flag (calBusyF (false : Bool)) = true ∧ (s.sens.side.get (b2n (false : Bool))).calStage = 3 ∧ (s.sens.side.get (b2n
      (false : Bool))).calStart + 1440000 ≤ s.mono) ∧
    (∃ s : State, s.flag (calBusyF (false : Bool)) = true ∧ (s.sens.side.get (b2n (false : Bool))).calStage = 4 ∧ (s.sens.side.get (b2n
      (false : Bool))).calStart + 1440000 ≤ s.mono ∧ s.start.late ≠ 1) ∧
    (∃ s : State, s.flag (calBusyF (false : Bool)) = true ∧ (s.sens.side.get (b2n (false : Bool))).calStage = 4 ∧ (s.sens.side.get (b2n
      (false : Bool))).calStart + 1440000 ≤ s.mono ∧ ((0 : Fin 26) : Nat) ∈ calChs (false : Bool)) ∧
    (∃ s : State, s.flag (calBusyF (false : Bool)) = true ∧ (s.sens.side.get (b2n (false : Bool))).calStage = 4 ∧ (s.sens.side.get (b2n
      (false : Bool))).calStart + 1440000 ≤ s.mono ∧ s.start.late = 0) :=
  ⟨
    ⟨((fun (s : State) => { s with sens := { s.sens with ch := s.sens.ch.modify (4) (fun y0 => { y0 with ovl := ([]) }) } }) up),
      by decide +kernel⟩,
    ⟨(up.modCh 0 fun c => { c with ovl := [(⟨0, none, [(0, true)]⟩ : Ovl)], lastTrip := 1024000000000 }), by decide +kernel⟩,
    ⟨(up.modCh 0 fun c => { c with ovl := [(⟨0, none, [(0, true)]⟩ : Ovl)] }), by decide +kernel⟩,
    ⟨(up.adjusts [(F.CH_CFG_RANGE 4)]), by decide +kernel⟩,
    ⟨((up.adjusts [(F.CH_CFG_RANGE 4)]).put (F.CH_CFG_RANGE 4) 1), by decide +kernel⟩,
    ⟨(up.adjusts [(F.CH_CFG_RANGE 4)]), by decide +kernel⟩,
    ⟨(up.wr R.SENSP_MON_MASK 1#32), by decide +kernel⟩,
    ⟨((fun (s : State) => { s with sens := { s.sens with hot := s.sens.hot.set (2) (true) } }) (up.puts [(⟨F.SYS_PD_STATUS_DOMAIN_ON.addr,
      10, 1⟩, 1)])), by decide +kernel⟩,
    ⟨(up.puts [(⟨F.SYS_PD_STATUS_DOMAIN_ON.addr, 10, 1⟩, 1)]), by decide +kernel⟩,
    ⟨(up.puts [((calBusyF false), 1)]), by decide +kernel⟩,
    ⟨((up.put (calBusyF false) 1) |> fun s =>
      { s with sens := { s.sens with side := s.sens.side.modify 0 fun y => { y with calStage := 3, calStart := s.mono - 1400000 } } }), by
      decide +kernel⟩,
    ⟨((up.put (calBusyF false) 1) |> fun s =>
      { s with sens := { s.sens with side := s.sens.side.modify 0 fun y => { y with calStage := 3, calStart := s.mono - 1400000 } } }), by
      decide +kernel⟩,
    ⟨((up.put (calBusyF false) 1) |> fun s =>
      { s with sens := { s.sens with side := s.sens.side.modify 0 fun y => { y with calStage := 3 } } }), by decide +kernel⟩,
    ⟨((fun (s : State) =>
      { s with sens := { s.sens with side := s.sens.side.modify ((b2n false)) (fun y0 => { y0 with calStage := (4) }) } }) (up.puts
      [((calBusyF false), 1)])), by decide +kernel⟩,
    ⟨((fun (s : State) =>
      { s with sens := { s.sens with side := s.sens.side.modify ((b2n false)) (fun y0 => { y0 with calStage := (4) }) } }) (up.puts
      [((calBusyF false), 1)])), by decide +kernel⟩,
    ⟨((fun (s : State) => { s with start := { s.start with late := (0) } }) ((fun (s : State) =>
      { s with sens := { s.sens with side := s.sens.side.modify ((b2n false)) (fun y0 => { y0 with calStage := (4) }) } }) (up.puts
      [((calBusyF false), 1)]))), by decide +kernel⟩⟩

theorem witness_ComparatorCrossings :
    (∃ s : State, s.wcPowered (0 : Fin 24) = true ∧ s.wcState (0 : Fin 24) < 2 ∧ s.wcHi (0 : Fin 24) < (1000 : Rat)) ∧
    (∃ s : State, s.wcPowered (0 : Fin 24) = true ∧ s.wcState (0 : Fin 24) < 2 ∧ s.wcLo (0 : Fin 24) ≤ s.wcHi (0 : Fin 24) ∧ (-1000 : Rat)
      < s.wcLo (0 : Fin 24)) ∧
    (∃ s : State, s.wcPowered (0 : Fin 24) = true ∧ s.wcState (0 : Fin 24) = 2 ∧ s.wcHi (0 : Fin 24) < (1000 : Rat)) ∧
    (∃ s : State, s.wcPowered (0 : Fin 24) = true ∧ s.wcState (0 : Fin 24) = 3 ∧ (256 : Rat) = (if (s.wcmp.wc.get (0 : Fin 24)).testStep <
      2 then 256 else if (s.wcmp.wc.get (0 : Fin 24)).testStep < 4 then 768 else 1024 - (1023 : Rat))) ∧
    (∃ s : State, s.shadowed (F.WC_THR_HI (0 : Fin 24)) = true ∧ s.wcState (0 : Fin 24) < 2 ∧ ((s.shadowGet (F.WC_THR_HI (0 : Fin 24)) :
      Nat) : Rat) < (1000 : Rat) ∧ s.flag (F.WC_STATUS_OUT_HI (0 : Fin 24)) = false) ∧
    (∃ s : State, s.shadowed (F.WC_THR_HI (0 : Fin 24)) = true ∧ s.wcState (0 : Fin 24) < 2 ∧ ((s.shadowGet (F.WC_THR_HI (0 : Fin 24)) :
      Nat) : Rat) < (1000 : Rat) ∧ s.flag (F.WC_STATUS_OUT_HI (0 : Fin 24)) = true ∧ s.shadowGet (F.WC_THR_LO (0 : Fin 24)) ≤ s.shadowGet
      (F.WC_THR_HI (0 : Fin 24))) ∧
    (∃ s : State, s.shadowed (F.WC_THR_HI (0 : Fin 24)) = true ∧ 2 ≤ s.wcState (0 : Fin 24)) :=
  ⟨
    ⟨up, by decide +kernel⟩,
    ⟨up, by decide +kernel⟩,
    ⟨(up.puts [(F.WC_STATUS_STATE 0, 2)]), by decide +kernel⟩,
    ⟨(up.puts [(F.WC_STATUS_STATE 0, 3)]), by decide +kernel⟩,
    ⟨(((up.toShadow (F.WC_THR_HI 0) 9).toShadow (F.WC_THR_LO 0) 8).puts [(F.WC_STATUS_STATE 0, 0), (F.WC_STATUS_OUT_HI 0, 0)]),
      by decide +kernel⟩,
    ⟨(((up.toShadow (F.WC_THR_HI 0) 9).toShadow (F.WC_THR_LO 0) 8).puts [(F.WC_STATUS_STATE 0, 1), (F.WC_STATUS_OUT_HI 0, 1)]),
      by decide +kernel⟩,
    ⟨(((up.toShadow (F.WC_THR_HI 0) 9).toShadow (F.WC_THR_LO 0) 8).puts [(F.WC_STATUS_STATE 0, 2), (F.WC_STATUS_OUT_HI 0, 0)]),
      by decide +kernel⟩⟩

theorem witness_ComparatorClearsAndSelfTest :
    (∃ s : State, s.adjust (F.WC_THR_HI (0 : Fin 24)) (bitsOf (0x10000 : Word).toNat 16 10) = .ok ∧ s.adjust (F.WC_THR_LO (0 : Fin 24))
      (bitsOf (0x10000 : Word).toNat 0 10) = .ok ∧ bitsOf (0x10000 : Word).toNat 0 10 < bitsOf (0x10000 : Word).toNat 16 10) ∧
    (∃ s : State, (s.adjust (F.WC_THR_HI (0 : Fin 24)) (bitsOf (0x10001 : Word).toNat 16 10) = .outside ∨ s.adjust (F.WC_THR_LO (0 : Fin
      24)) (bitsOf (0x10001 : Word).toNat 0 10) = .outside ∨ (s.adjust (F.WC_THR_HI (0 : Fin 24)) (bitsOf (0x10001 : Word).toNat 16 10) =
      .ok ∧ s.adjust (F.WC_THR_LO (0 : Fin 24)) (bitsOf (0x10001 : Word).toNat 0 10) = .ok ∧ bitsOf (0x10001 : Word).toNat 16 10 ≤ bitsOf
      (0x10001 : Word).toNat 0 10))) ∧
    (∃ s : State, (1 : Word) = BitVec.ofNat 32 (2 ^ (if (0 : Fin 24) < 14 then ((0 : Fin 24) : Nat) else (0 : Fin 24) - 14)) ∧ (s.get
      (F.WC_CFG_CLEAR_MODE (0 : Fin 24)) ≠ 1 ∨ s.clearUnit (0 : Fin 24) = none) ∧ s.wcState (0 : Fin 24) = 1 ∧ (s.wcmp.wc.get (0 : Fin
      24)).softClear = none) ∧
    (∃ s : State, (1 : Word) = BitVec.ofNat 32 (2 ^ (if (0 : Fin 24) < 14 then ((0 : Fin 24) : Nat) else (0 : Fin 24) - 14)) ∧ s.get
      (F.WC_CFG_CLEAR_MODE (0 : Fin 24)) = 1 ∧ (s.clearUnit (0 : Fin 24)).isSome = true) ∧
    (∃ s : State, s.wcState (0 : Fin 24) = 1 ∧ (s.wcmp.wc.get (0 : Fin 24)).softClear = some (default) ∧ (∀ m, (s.wcmp.wc.get (0 : Fin
      24)).crossAt = some m → m < (default)) ∧ s.wcReady (0 : Fin 24) (1) = true) ∧
    (∃ s : State, s.wcState (0 : Fin 24) = 1 ∧ (s.wcmp.wc.get (0 : Fin 24)).softClear = some (default) ∧ (s.wcmp.wc.get (0 : Fin
      24)).periodClear = none ∧ (s.wcReady (0 : Fin 24) (default) = false ∨ ∃ m, (s.wcmp.wc.get (0 : Fin 24)).crossAt = some m ∧ (default)
      ≤ m)) ∧
    (∃ s : State, s.wcState (0 : Fin 24) = 1 ∧ (s.wcmp.wc.get (0 : Fin 24)).softClear = none ∧ (s.wcmp.wc.get (0 : Fin 24)).periodClear =
      some (5 : Nat) ∧ (∀ m, (s.wcmp.wc.get (0 : Fin 24)).crossAt = some m → m < (5 : Nat)) ∧ s.wcReady (0 : Fin 24) (1 : Rat) = true) ∧
    (∃ s : State, s.wcState (0 : Fin 24) = 1 ∧ (s.wcmp.wc.get (0 : Fin 24)).softClear = none ∧ (s.wcmp.wc.get (0 : Fin 24)).periodClear =
      some (default) ∧ (s.wcReady (0 : Fin 24) (default) = false ∨ (∃ m, (s.wcmp.wc.get (0 : Fin 24)).crossAt = some m ∧ (default) ≤ m))) ∧
    (∃ s : State, s.wcPowered (0 : Fin 24) = true ∧ s.wcState (0 : Fin 24) = 2 ∧ (s.wcmp.wc.get (0 : Fin 24)).pendFrom = some (default) ∧
      (default) + 150 ≤ s.mono ∧ s.wcInside (0 : Fin 24) (1) = true) ∧
    (∃ s : State, s.wcPowered (0 : Fin 24) = true ∧ s.wcState (0 : Fin 24) = 2 ∧ s.wcInside (0 : Fin 24) (default) = false) ∧
    (∃ s : State, s.wcmp.queue = ((0 : Fin 24) : Nat) :: (default : List Nat) ∧ (s.wcmp.wc.get (0 : Fin 24)).testStep = 0 ∧ (s.wcmp.wc.get
      (0 : Fin 24)).testStart + 160 ≤ s.mono ∧ (false) = false ∧ (true) = true) ∧
    (∃ s : State, s.wcmp.queue = ((0 : Fin 24) : Nat) :: (default : List Nat) ∧ (s.wcmp.wc.get (0 : Fin 24)).testStep = 0 ∧ (s.wcmp.wc.get
      (0 : Fin 24)).testStart + 160 ≤ s.mono ∧ ((true) = true ∨ (default) = false)) ∧
    (∃ s : State, s.wcmp.queue = ((0 : Fin 24) : Nat) :: (default : List Nat) ∧ s.wcState (0 : Fin 24) = 3 ∧ (s.wcmp.wc.get (0 : Fin
      24)).testStep = 1 ∧ (s.wcmp.wc.get (0 : Fin 24)).testStart + 320 ≤ s.mono) ∧
    (∃ s : State, s.wcmp.queue = ((0 : Fin 24) : Nat) :: (default : List Nat) ∧ (s.wcmp.wc.get (0 : Fin 24)).testStep = 2 ∧ (s.wcmp.wc.get
      (0 : Fin 24)).testStart + 480 ≤ s.mono ∧ (true) = true ∧ (false) = false) ∧
    (∃ s : State, s.wcmp.queue = ((0 : Fin 24) : Nat) :: (default : List Nat) ∧ (s.wcmp.wc.get (0 : Fin 24)).testStep = 2 ∧ (s.wcmp.wc.get
      (0 : Fin 24)).testStart + 480 ≤ s.mono ∧ ((false) = false ∨ (default) = true)) ∧
    (∃ s : State, s.wcmp.queue = ((0 : Fin 24) : Nat) :: ([23] : List Nat) ∧ s.start.late = 0 ∧ (s.wcmp.wc.get (0 : Fin 24)).testStep = 5
      ∧ (s.wcmp.wc.get (0 : Fin 24)).testStart + 960 ≤ s.mono ∧ ((0 : Fin 24) : Nat) ∉ ([23] : List Nat) ∧ (∀ d ∈ ([23] : List Nat), d <
      24) ∧ ([23] : List Nat) = 23 :: []) :=
  ⟨
    ⟨(up.adjusts [F.WC_THR_HI 0, F.WC_THR_LO 0]), by decide +kernel⟩,
    ⟨(up.adjusts [F.WC_THR_HI 0, F.WC_THR_LO 0]), by decide +kernel⟩,
    ⟨(up.puts [(F.WC_STATUS_STATE 0, 1)]), by decide +kernel⟩,
    ⟨((fun (s : State) => s.puts [(F.WC_CFG_GROUPS 0, 1), (F.PWM_CFG_GROUPS 0, 1)]) (up.puts [((F.WC_CFG_CLEAR_MODE 0), 1)])),
      by decide +kernel⟩,
    ⟨(((up.put (F.WC_STATUS_STATE 0) 1).wr (R.WC_THR 0) 0x03FF0000#32).modWc 0 fun w => { w with softClear := some 0 }),
      by decide +kernel⟩,
    ⟨((fun (s : State) => { s with wcmp := { s.wcmp with wc := s.wcmp.wc.modify (0) (fun y0 => { y0 with periodClear := (none) }) } })
      ((fun (s : State) =>
      { s with wcmp := { s.wcmp with wc := s.wcmp.wc.modify (0) (fun y0 => { y0 with softClear := (some default) }) } }) (up.puts
      [(F.WC_STATUS_STATE 0, 1)]))), by decide +kernel⟩,
    ⟨(((up.put (F.WC_STATUS_STATE 0) 1).wr (R.WC_THR 0) 0x03FF0000#32).modWc 0 fun w => { w with periodClear := some 5 }),
      ⟨by decide +kernel, by decide +kernel, by decide +kernel, fun m h => absurd (h.symm.trans (show _ = none by decide +kernel))
      (by simp), by decide +kernel⟩⟩,
    ⟨((fun (s : State) =>
      { s with wcmp := { s.wcmp with wc := s.wcmp.wc.modify (0) (fun y0 => { y0 with periodClear := (some default) }) } }) ((fun (s :
      State) => { s with wcmp := { s.wcmp with wc := s.wcmp.wc.modify (0) (fun y0 => { y0 with softClear := (none) }) } }) (up.puts
      [(F.WC_STATUS_STATE 0, 1)]))), by decide +kernel⟩,
    ⟨((fun (s : State) => s.wr (R.WC_THR 0) 0x03FF0000#32) ((fun (s : State) =>
      { s with wcmp := { s.wcmp with wc := s.wcmp.wc.modify (0) (fun y0 => { y0 with pendFrom := (some default) }) } }) (up.puts
      [(F.WC_STATUS_STATE 0, 2)]))), by decide +kernel⟩,
    ⟨(up.puts [(F.WC_STATUS_STATE 0, 2)]), by decide +kernel⟩,
    ⟨((fun (s : State) => { s with wcmp := { s.wcmp with wc := s.wcmp.wc.modify (0) (fun y0 => { y0 with testStep := (0) }) } }) ((fun (s
      : State) => { s with wcmp := { s.wcmp with queue := ((0 : Nat) :: default) } }) up)), by decide +kernel⟩,
    ⟨((fun (s : State) => { s with wcmp := { s.wcmp with wc := s.wcmp.wc.modify (0) (fun y0 => { y0 with testStep := (0) }) } }) ((fun (s
      : State) => { s with wcmp := { s.wcmp with queue := ((0 : Nat) :: default) } }) up)), by decide +kernel⟩,
    ⟨((fun (s : State) => { s with wcmp := { s.wcmp with wc := s.wcmp.wc.modify (0) (fun y0 => { y0 with testStep := (1) }) } }) ((fun (s
      : State) => { s with wcmp := { s.wcmp with queue := ((0 : Nat) :: default) } }) (up.puts [(F.WC_STATUS_STATE 0, 3)]))),
      by decide +kernel⟩,
    ⟨((fun (s : State) => { s with wcmp := { s.wcmp with wc := s.wcmp.wc.modify (0) (fun y0 => { y0 with testStep := (2) }) } }) ((fun (s
      : State) => { s with wcmp := { s.wcmp with queue := ((0 : Nat) :: default) } }) up)), by decide +kernel⟩,
    ⟨((fun (s : State) => { s with wcmp := { s.wcmp with wc := s.wcmp.wc.modify (0) (fun y0 => { y0 with testStep := (2) }) } }) ((fun (s
      : State) => { s with wcmp := { s.wcmp with queue := ((0 : Nat) :: default) } }) up)), by decide +kernel⟩,
    ⟨((up.modWc 0 fun w => { w with testStep := 5 }) |> fun s => { s with wcmp := { s.wcmp with queue := [0, 23] } }), by decide +kernel⟩⟩

theorem witness_LoopExecutionsCommitOrAreAbandoned :
    (∃ s : State, (s.loop.get (0 : Fin 6)).rcd = some ((⟨0, 0, 0, 0⟩ : GRec)) ∧ s.lpState (0 : Fin 6) = 2 ∧ (5) ≠ ((0 : Fin 6) : Nat)) ∧
    (∃ s : State, (s.loop.get (0 : Fin 6)).rcd = some ((⟨0, 0, 0, 0⟩ : GRec)) ∧ s.lpState (0 : Fin 6) = 2 ∧ (s.shadow.filter fun e =>
      decide (tcmBase (0 : Fin 6) + 0x4000 ≤ e.1) && decide (e.1 < tcmBase (0 : Fin 6) + 0x4400)) = [((tcmBase 0 + 0x4000 : Nat), ((⟨5,
      0xFFFFFFFF⟩ : Shadow)))]) ∧
    (∃ s : State, (s.loop.get (0 : Fin 6)).rcd = some ((⟨0, 0, 0, 0⟩ : GRec)) ∧ s.lpState (0 : Fin 6) = 2 ∧ tcmBase (0 : Fin 6) + 0x4404 ≤
      (tcmBase 0 + 0x4404 : Nat) ∧ (tcmBase 0 + 0x4404 : Nat) < tcmBase (0 : Fin 6) + 0xA000) ∧
    (∃ s : State, s.lpState (0 : Fin 6) = 3 ∧ (s.loop.get (0 : Fin 6)).running = true ∧ s.epoch < (s.loop.get (0 : Fin 6)).deadline ∧
      (s.loop.get (0 : Fin 6)).res.plaus = true) ∧
    (∃ s : State, s.lpState (0 : Fin 6) = 3 ∧ (s.loop.get (0 : Fin 6)).running = true ∧ s.epoch < (s.loop.get (0 : Fin 6)).deadline ∧
      (s.loop.get (0 : Fin 6)).res.work.length ≤ 3840 ∧ (s.loop.get (0 : Fin 6)).res.probe.length ≤ 2048 ∧ (s.loop.get (0 : Fin
      6)).res.loan.length ≤ 64) ∧
    (∃ s : State, s.lpState (0 : Fin 6) = 3 ∧ (s.loop.get (0 : Fin 6)).running = true ∧ (s.loop.get (0 : Fin 6)).deadline ≤ s.epoch) :=
  ⟨
    ⟨((fun (s : State) => { s with loop := s.loop.modify (0) (fun y0 => { y0 with rcd := (some (⟨0, 0, 0, 0⟩ : GRec)) }) }) (up.puts
      [(F.LP_STATUS_STATE 0, 2)])), by decide +kernel⟩,
    ⟨{ ((up.put (F.LP_STATUS_STATE 0) 2).modLoop 0 fun l => { l with rcd := some (⟨0, 0, 0, 0⟩ : GRec) }) with shadow := [(tcmBase 0 + 0x4000, ⟨5, 0xFFFFFFFF⟩)] },
      by decide +kernel⟩,
    ⟨((up.put (F.LP_STATUS_STATE 0) 2).modLoop 0 fun l => { l with rcd := some (⟨0, 0, 0, 0⟩ : GRec) }), by decide +kernel⟩,
    ⟨((up.put (F.LP_STATUS_STATE 0) 3).modLoop 0 fun l =>
      { l with res := { l.res with plaus := true }, running := true, deadline := 1024000000001 }), by decide +kernel⟩,
    ⟨((up.put (F.LP_STATUS_STATE 0) 3).modLoop 0 fun l => { l with running := true, deadline := 1024000000001 }), by decide +kernel⟩,
    ⟨((fun (s : State) => { s with loop := s.loop.modify (0) (fun y0 => { y0 with running := (true) }) }) (up.puts [(F.LP_STATUS_STATE 0,
      3)])), by decide +kernel⟩⟩

theorem witness_LoopHaltsEnableAndSetPoints :
    (∃ s : State, s.lpState (0 : Fin 6) = 3) ∧
    (∃ s : State, s.pdOn (pairPd (0 : Fin 6)) = true ∧ s.lpState (0 : Fin 6) ≠ 0) ∧
    (∃ s : State, s.loopEnRefused (.hpa : Initiator) (0 : Fin 6) = false ∧ s.flag (F.LP_CTRL_EN (0 : Fin 6)) = false ∧ (∀ n ∈ s.graphNodes
      (0 : Fin 6), n.st + 4 * n.init.length ≤ 15360)) ∧
    (∃ s : State, s.loopEnRefused (.hpa : Initiator) (0 : Fin 6) = false ∧ s.flag (F.LP_CTRL_EN (0 : Fin 6)) = true) ∧
    (∃ s : State, s.loopEnRefused (.hpa : Initiator) (0 : Fin 6) = true) ∧
    ((.hpb : Initiator) ≠ .hpa) ∧
    (∃ s : State, s.inFoyer = false ∧ s.gridPair ≠ some ((0 : Fin 6) : Nat) ∧ s.lpState (0 : Fin 6) = 2) ∧
    (∃ s : State, s.inFoyer = false ∧ s.gridPair ≠ some ((0 : Fin 6) : Nat) ∧ s.lpState (0 : Fin 6) ≠ 2) ∧
    (∃ s : State, s.inFoyer = false ∧ s.gridPair ≠ some ((0 : Fin 6) : Nat) ∧ s.lpState (0 : Fin 6) = 5 ∧ (s.loop.get (0 : Fin 6)).saved =
      2) ∧
    (∃ s : State, s.inFoyer = true) ∧
    (∃ s : State, s.pdOn (pairPd (0 : Fin 6)) = true ∧ 0x1000 ≤ ((0x1000 : Fin 16384) : Nat) ∧ ((0x1000 : Fin 16384) : Nat) < 0x1100 ∧
      s.slotOwned (0 : Fin 6) ((0x1000 : Fin 16384) - 0x1000) = false ∧ s.adjust ⟨tcmBase (0 : Fin 6) + 4 * (0x1000 : Fin 16384), 0, 32⟩
      (0#32 : Word).toNat = .ok ∧ (default) ≠ tcmBase (0 : Fin 6) + 4 * (0x1000 : Fin 16384)) ∧
    (∃ s : State, s.pdOn (pairPd (0 : Fin 6)) = true ∧ (((0 : Fin 16384) : Nat) < 0x1000 ∨ 0x1100 ≤ ((0 : Fin 16384) : Nat) ∨ s.slotOwned
      (0 : Fin 6) ((0 : Fin 16384) - 0x1000) = true)) :=
  ⟨
    ⟨(up.puts [(F.LP_STATUS_STATE 0, 3)]), by decide +kernel⟩,
    ⟨(up.put (F.LP_STATUS_STATE 0) 1), by decide +kernel⟩,
    ⟨((up.puts [(F.LP_CFG_HAS_GRAPH 0, 1), (F.PWM_PERIOD 0, 1000000)])), by decide +kernel⟩,
    ⟨((fun (s : State) => s.puts [(F.LP_CFG_HAS_GRAPH 0, 1), (F.PWM_PERIOD 0, 1000000)]) (up.puts [((F.LP_CTRL_EN 0), 1)])),
      by decide +kernel⟩,
    ⟨up, by decide +kernel⟩,
    by decide +kernel,
    ⟨((fun (s : State) => s.put F.GRID_CFG_GRID_PAIR 7) (up.puts [(F.SYS_FOYER_IN_FOYER, 0), (F.LP_STATUS_STATE 0, 2)])),
      by decide +kernel⟩,
    ⟨((fun (s : State) => s.put F.GRID_CFG_GRID_PAIR 7) (up.puts [(F.SYS_FOYER_IN_FOYER, 0)])), by decide +kernel⟩,
    ⟨((fun (s : State) => s.put F.GRID_CFG_GRID_PAIR 7) ((fun (s : State) =>
      { s with loop := s.loop.modify (0) (fun y0 => { y0 with saved := (2) }) }) (up.puts [(F.SYS_FOYER_IN_FOYER, 0), (F.LP_STATUS_STATE
      0, 5)]))), by decide +kernel⟩,
    ⟨(up.puts [(F.SYS_FOYER_IN_FOYER, 1)]), by decide +kernel⟩,
    ⟨((fun (s : State) => s.adjusts [⟨tcmBase 0 + 0x4000, 0, 32⟩]) (up.puts [(⟨F.SYS_PD_STATUS_DOMAIN_ON.addr, (pairPd 0), 1⟩, 1)])),
      by decide +kernel⟩,
    ⟨(up.puts [(⟨F.SYS_PD_STATUS_DOMAIN_ON.addr, (pairPd 0), 1⟩, 1)]), by decide +kernel⟩⟩

theorem witness_PwmStartStopAndCommit :
    (∃ s : State, s.inFoyer = false ∧ bitOf (1 : Word).toNat (0 : Fin 14) = true ∧ s.startRefused (0 : Fin 14) = false ∧ s.ep.stopAt.get
      (0 : Fin 14) ≠ s.epoch + 1) ∧
    (∃ s : State, s.inFoyer = false ∧ bitOf (0#32 : Word).toNat (0 : Fin 14) = false) ∧
    (∃ s : State, s.inFoyer = false ∧ (∃ u : Fin 14, bitOf (0x100 : Word).toNat u = true ∧ s.startRefused u = true)) ∧
    ((.hpb : Initiator) ≠ .hpa) ∧
    (∃ s : State, s.inFoyer = true) ∧
    (∃ s : State, bitOf (1 : Word).toNat (0 : Fin 14) = true ∧ s.pwmState (0 : Fin 14) ≠ 3) ∧
    (∃ s : State, bitOf (1 : Word).toNat (0 : Fin 14) = true ∧ s.pwmState (0 : Fin 14) = 3) ∧
    (bitOf (0#32 : Word).toNat (0 : Fin 14) = false) ∧
    (∃ s : State, bitOf (1 : Word).toNat (0 : Fin 14) = true ∧ s.unitPair (0 : Fin 14) = none ∧ s.pwmState (0 : Fin 14) = 1 ∧ (s.pwm.get
      (0 : Fin 14)).commit = false) ∧
    (∃ s : State, bitOf (1 : Word).toNat (0 : Fin 14) = true ∧ s.unitPair (0 : Fin 14) = none ∧ s.pwmState (0 : Fin 14) = 2 ∧ (s.pwm.get
      (0 : Fin 14)).commit = false) ∧
    (∃ s : State, bitOf (1 : Word).toNat (0 : Fin 14) = true ∧ s.unitPair (0 : Fin 14) = none ∧ s.pwmState (0 : Fin 14) = 0) ∧
    (∃ s : State, bitOf (1 : Word).toNat (0 : Fin 14) = true ∧ s.unitPair (0 : Fin 14) = some (2 : Nat)) :=
  ⟨
    ⟨(up.puts [(F.SYS_FOYER_IN_FOYER, 0)]), by decide +kernel⟩,
    ⟨(up.puts [(F.SYS_FOYER_IN_FOYER, 0)]), by decide +kernel⟩,
    ⟨(up.puts [(F.SYS_FOYER_IN_FOYER, 0)]), ⟨by decide +kernel, ⟨8, by decide +kernel⟩⟩⟩,
    by decide +kernel,
    ⟨(up.puts [(F.SYS_FOYER_IN_FOYER, 1)]), by decide +kernel⟩,
    ⟨up, by decide +kernel⟩,
    ⟨(up.puts [(F.PWM_STATUS_STATE 0, 3)]), by decide +kernel⟩,
    by decide +kernel,
    ⟨((fun (s : State) => { s with pwm := s.pwm.modify (0) (fun y0 => { y0 with commit := (false) }) }) (up.puts [(F.PWM_STATUS_STATE 0,
      1)])), by decide +kernel⟩,
    ⟨((fun (s : State) => { s with pwm := s.pwm.modify (0) (fun y0 => { y0 with commit := (false) }) }) (up.puts [(F.PWM_STATUS_STATE 0,
      2)])), by decide +kernel⟩,
    ⟨(up.puts [(F.PWM_STATUS_STATE 0, 0)]), by decide +kernel⟩,
    ⟨(up.puts [(F.LP_CTRL_EN 2, 1), (F.LP_CFG_COMMIT_MASK 2, 1)]), by decide +kernel⟩⟩

theorem witness_PwmBoundaryForceAndCounters :
    (∃ s : State, (s.pwm.get (0 : Fin 14)).counting = true ∧ (s.pwm.get (0 : Fin 14)).next ≤ s.epoch ∧ s.pwmState (0 : Fin 14) = 1 ∧
      (s.pwm.get (0 : Fin 14)).loops = [] ∧ (s.pwm.get (0 : Fin 14)).swaps = [] ∧ (s.pwm.get (0 : Fin 14)).commit = true ∧ (s.pwm.get (0 :
      Fin 14)).skip = false) ∧
    (∃ s : State, (s.pwm.get (0 : Fin 14)).counting = true ∧ (s.pwm.get (0 : Fin 14)).next ≤ s.epoch ∧ s.pwmState (0 : Fin 14) = 1 ∧
      (s.pwm.get (0 : Fin 14)).loops = [] ∧ (s.pwm.get (0 : Fin 14)).swaps = [] ∧ (s.pwm.get (0 : Fin 14)).commit = false) ∧
    (∃ s : State, (s.pwm.get (0 : Fin 14)).counting = true ∧ (s.pwm.get (0 : Fin 14)).next ≤ s.epoch ∧ s.pwmState (0 : Fin 14) = 3) ∧
    (∃ s : State, s.epoch < (s.pwm.get (0 : Fin 14)).next) ∧
    (∃ s : State, (s.pwm.get (0 : Fin 14)).counting = true ∧ s.pwmState (0 : Fin 14) = 1 ∧ s.epoch < (s.pwm.get (0 : Fin 14)).next ∧
      (s.levelsAt (0 : Fin 14) s.epoch).1 = s.flag (F.PWM_STATUS_LEVEL_A (0 : Fin 14)) ∧ (s.levelsAt (0 : Fin 14) s.epoch).2 = s.flag
      (F.PWM_STATUS_LEVEL_B (0 : Fin 14))) ∧
    (∃ s : State, s.flag F.WARDEN_STATUS_PERMIT = true ∧ 8 ≤ ((8 : Fin 14) : Nat) ∧ bitsOf (0#32 : Word).toNat 0 2 ≠ 3 ∧ bitsOf (0#32 :
      Word).toNat 2 2 ≠ 3) ∧
    (∃ s : State, ((.hpb : Initiator) ≠ .hpa ∨ s.flag F.WARDEN_STATUS_PERMIT = false ∨ ((0 : Fin 14) : Nat) < 8 ∨ bitsOf (0#32 :
      Word).toNat 0 2 = 3 ∨ bitsOf (0#32 : Word).toNat 2 2 = 3)) :=
  ⟨
    ⟨((fun (s : State) => { s with pwm := s.pwm.modify (0) (fun y0 => { y0 with skip := (false) }) }) ((fun (s : State) =>
      { s with pwm := s.pwm.modify (0) (fun y0 => { y0 with commit := (true) }) }) ((fun (s : State) =>
      { s with pwm := s.pwm.modify (0) (fun y0 => { y0 with swaps := ([]) }) }) ((fun (s : State) =>
      { s with pwm := s.pwm.modify (0) (fun y0 => { y0 with loops := ([]) }) }) ((fun (s : State) =>
      { s with pwm := s.pwm.modify (0) (fun y0 => { y0 with counting := (true) }) }) (up.puts [(F.PWM_STATUS_STATE 0, 1)])))))),
      by decide +kernel⟩,
    ⟨((fun (s : State) => { s with pwm := s.pwm.modify (0) (fun y0 => { y0 with commit := (false) }) }) ((fun (s : State) =>
      { s with pwm := s.pwm.modify (0) (fun y0 => { y0 with swaps := ([]) }) }) ((fun (s : State) =>
      { s with pwm := s.pwm.modify (0) (fun y0 => { y0 with loops := ([]) }) }) ((fun (s : State) =>
      { s with pwm := s.pwm.modify (0) (fun y0 => { y0 with counting := (true) }) }) (up.puts [(F.PWM_STATUS_STATE 0, 1)]))))),
      by decide +kernel⟩,
    ⟨((fun (s : State) => { s with pwm := s.pwm.modify (0) (fun y0 => { y0 with counting := (true) }) }) (up.puts [(F.PWM_STATUS_STATE 0,
      3)])), by decide +kernel⟩,
    ⟨((fun (s : State) => s.modPwm 0 fun p => { p with len := 1 }) { up with epoch := 0 }), by decide +kernel⟩,
    ⟨((fun (s : State) => s.modPwm 0 fun p => { p with len := 1 })
      { ((fun (s : State) => { s with pwm := s.pwm.modify (0) (fun y0 => { y0 with counting := (true) }) }) (up.puts [(F.PWM_STATUS_STATE 0, 1)])) with epoch := 0 }),
      by decide +kernel⟩,
    ⟨(up.puts [(F.WARDEN_STATUS_PERMIT, 1)]), by decide +kernel⟩,
    ⟨up, by decide +kernel⟩⟩

theorem witness_HalfBridgesAndDriveSupply :
    (∃ s : State, (s.pwm.get (0 : Fin 8)).msgs = ((⟨false, false, true, 1024000000008⟩ : Edge)) :: ([]) ∧ s.pdOn 9 = true ∧ s.epoch + 8 ≤
      ((⟨false, false, true, 1024000000008⟩ : Edge)).t ∧ (s.drive.hb.get (0 : Fin 8)).queue.length < 8) ∧
    (∃ s : State, (s.pwm.get (0 : Fin 8)).msgs = ((⟨false, false, true, 1024000000007⟩ : Edge)) :: ([]) ∧ s.pdOn 9 = true ∧ (((⟨false,
      false, true, 1024000000007⟩ : Edge)).t < s.epoch + 8 ∨ 8 ≤ (s.drive.hb.get (0 : Fin 8)).queue.length)) ∧
    (∃ s : State, (s.drive.hb.get (0 : Fin 8)).step = 0 ∧ (s.drive.hb.get (0 : Fin 8)).pick (s.hbDead (0 : Fin 8)) (s.drive.hb.get (0 :
      Fin 8)).queue = some ((⟨false, false, false, 0⟩ : Edge)) ∧ (s.drive.hb.get (0 : Fin 8)).execTick (s.hbDead (0 : Fin 8)) ((⟨false,
      false, false, 0⟩ : Edge)) ≤ s.epoch ∧ s.hbBlocked (0 : Fin 8) = false ∧ ((⟨false, false, false, 0⟩ : Edge)).on = false ∧ ((⟨false,
      false, false, 0⟩ : Edge)).sideB = false) ∧
    (∃ s : State, (s.drive.hb.get (0 : Fin 8)).step = 0 ∧ (s.drive.hb.get (0 : Fin 8)).pick (s.hbDead (0 : Fin 8)) (s.drive.hb.get (0 :
      Fin 8)).queue = some ((⟨false, false, true, 0⟩ : Edge)) ∧ (s.drive.hb.get (0 : Fin 8)).execTick (s.hbDead (0 : Fin 8)) ((⟨false,
      false, true, 0⟩ : Edge)) ≤ s.epoch ∧ s.hbBlocked (0 : Fin 8) = false ∧ ((⟨false, false, true, 0⟩ : Edge)).on = true ∧ s.flag (hbGate
      (0 : Fin 8) (!((⟨false, false, true, 0⟩ : Edge)).sideB)) = false) ∧
    (∃ s : State, (s.drive.hb.get (0 : Fin 8)).step = 0 ∧ (s.drive.hb.get (0 : Fin 8)).pick (s.hbDead (0 : Fin 8)) (s.drive.hb.get (0 :
      Fin 8)).queue = some ((⟨false, false, true, 0⟩ : Edge)) ∧ (s.drive.hb.get (0 : Fin 8)).execTick (s.hbDead (0 : Fin 8)) ((⟨false,
      false, true, 0⟩ : Edge)) ≤ s.epoch ∧ s.hbBlocked (0 : Fin 8) = false ∧ ((⟨false, false, true, 0⟩ : Edge)).on = true ∧ s.flag (hbGate
      (0 : Fin 8) (!((⟨false, false, true, 0⟩ : Edge)).sideB)) = true) ∧
    (∃ s : State, (s.drive.hb.get (0 : Fin 8)).step = 0 ∧ (s.drive.hb.get (0 : Fin 8)).pick (s.hbDead (0 : Fin 8)) (s.drive.hb.get (0 :
      Fin 8)).queue = some ((⟨false, false, true, 0⟩ : Edge)) ∧ (s.drive.hb.get (0 : Fin 8)).execTick (s.hbDead (0 : Fin 8)) ((⟨false,
      false, true, 0⟩ : Edge)) ≤ s.epoch ∧ s.hbBlocked (0 : Fin 8) = true) ∧
    (∃ s : State, (s.drive.hb.get (0 : Fin 8)).step ≠ 0 ∧ s.refreshTick (0 : Fin 8) ≤ s.epoch ∧ (s.drive.hb.get (0 : Fin 8)).step = 1) ∧
    (∃ s : State, (s.drive.hb.get (0 : Fin 8)).step ≠ 0 ∧ s.refreshTick (0 : Fin 8) ≤ s.epoch ∧ (s.drive.hb.get (0 : Fin 8)).step = 2) ∧
    (∃ s : State, (s.drive.hb.get (0 : Fin 8)).step ≠ 0 ∧ s.refreshTick (0 : Fin 8) ≤ s.epoch ∧ (s.drive.hb.get (0 : Fin 8)).step = 3) ∧
    (∃ s : State, (s.pwm.get (0 : Fin 8)).markers = (0) :: ([]) ∧ (0) ≤ s.epoch ∧ s.hbSettled (0 : Fin 8) (0) = true ∧ s.hbBlocked (0 :
      Fin 8) = false ∧ s.pwmState (0 : Fin 8) ≠ 0 ∧ (s.drive.hb.get (0 : Fin 8)).highAll = true ∧ s.flag (F.DRV_HB_STATUS_HO (0 : Fin 8))
      = true ∧ s.get (F.DRV_HB_CFG_REFRESH_PERIODS (0 : Fin 8)) ≤ s.get (F.DRV_HB_STATUS_HI_RUN (0 : Fin 8)) + 1) ∧
    (∃ s : State, (s.pwm.get (0 : Fin 8)).markers = (0) :: ([]) ∧ (0) ≤ s.epoch ∧ s.hbSettled (0 : Fin 8) (0) = true ∧ s.hbBlocked (0 :
      Fin 8) = false ∧ s.pwmState (0 : Fin 8) ≠ 0 ∧ (s.drive.hb.get (0 : Fin 8)).highAll = true ∧ s.flag (F.DRV_HB_STATUS_HO (0 : Fin 8))
      = true ∧ s.get (F.DRV_HB_STATUS_HI_RUN (0 : Fin 8)) + 1 < s.get (F.DRV_HB_CFG_REFRESH_PERIODS (0 : Fin 8))) ∧
    (∃ s : State, s.pdOn 9 = true ∧ s.drive.linkLost = true) ∧
    (∃ s : State, s.pdOn 9 = true ∧ s.drive.linkLost = false ∧ s.drive.keepTick + 2400 ≤ s.mono) ∧
    (∃ s : State, s.pdOn 9 = true) ∧
    (∃ s : State, s.pdOn 9 = true ∧ s.flag F.DRV_STATUS_LOCKOUT = false) ∧
    (∃ s : State, s.pdOn 9 = true ∧ s.flag F.DRV_STATUS_LOCKOUT = true ∧ s.flag F.DRV_STATUS_VDRV_OK = true ∧ s.drive.vdrvFrom + 16000 ≤
      s.mono) :=
  ⟨
    ⟨((fun (s : State) =>
      { s with pwm := s.pwm.modify (0) (fun y0 => { y0 with msgs := ((⟨false, false, true, 1024000000008⟩ : Edge) :: []) }) }) (up.puts
      [(⟨F.SYS_PD_STATUS_DOMAIN_ON.addr, 9, 1⟩, 1)])), by decide +kernel⟩,
    ⟨((fun (s : State) =>
      { s with pwm := s.pwm.modify (0) (fun y0 => { y0 with msgs := ((⟨false, false, true, 1024000000007⟩ : Edge) :: []) }) }) (up.puts
      [(⟨F.SYS_PD_STATUS_DOMAIN_ON.addr, 9, 1⟩, 1)])), by decide +kernel⟩,
    ⟨((up.withSec Sec.topology 0 (placed 0x20 [(0, 1, 1)])).put (hbGate 0 true) 0 |>.modHb 0 fun b =>
      { b with queue := [(⟨false, false, false, 0⟩ : Edge)] }), by decide +kernel⟩,
    ⟨((up.withSec Sec.topology 0 (placed 0x20 [(0, 1, 1)])).put (hbGate 0 true) 0 |>.modHb 0 fun b =>
      { b with queue := [(⟨false, false, true, 0⟩ : Edge)] }), by decide +kernel⟩,
    ⟨((up.withSec Sec.topology 0 (placed 0x20 [(0, 1, 1)])).put (hbGate 0 true) 1 |>.modHb 0 fun b =>
      { b with queue := [(⟨false, false, true, 0⟩ : Edge)] }), by decide +kernel⟩,
    ⟨((fun (s : State) => s.put (F.DRV_HB_STATUS_FENCED 0) 1) (up.modHb 0 fun b =>
      { b with queue := [(⟨false, false, true, 0⟩ : Edge)] })), by decide +kernel⟩,
    ⟨((fun (s : State) => { s with drive := { s.drive with hb := s.drive.hb.modify (0) (fun y0 => { y0 with step := (1) }) } }) up),
      by decide +kernel⟩,
    ⟨((fun (s : State) => { s with drive := { s.drive with hb := s.drive.hb.modify (0) (fun y0 => { y0 with step := (2) }) } }) up),
      by decide +kernel⟩,
    ⟨((fun (s : State) => { s with drive := { s.drive with hb := s.drive.hb.modify (0) (fun y0 => { y0 with step := (3) }) } }) up),
      by decide +kernel⟩,
    ⟨((((up.withSec Sec.topology 0 (placed 0x20 [(0, 1, 1)])).puts [(F.PWM_STATUS_STATE 0, 1), (F.DRV_HB_STATUS_HO 0, 1),
      (F.DRV_HB_CFG_REFRESH_PERIODS 0, 1)]).modPwm 0 fun p => { p with markers := [0] }).modHb 0 fun b => { b with highAll := true }),
      by decide +kernel⟩,
    ⟨((((up.withSec Sec.topology 0 (placed 0x20 [(0, 1, 1)])).puts [(F.PWM_STATUS_STATE 0, 1), (F.DRV_HB_STATUS_HO 0, 1),
      (F.DRV_HB_CFG_REFRESH_PERIODS 0, 8)]).modPwm 0 fun p => { p with markers := [0] }).modHb 0 fun b => { b with highAll := true }),
      by decide +kernel⟩,
    ⟨((fun (s : State) => { s with drive := { s.drive with linkLost := (true) } }) (up.puts [(⟨F.SYS_PD_STATUS_DOMAIN_ON.addr, 9, 1⟩,
      1)])), by decide +kernel⟩,
    ⟨((fun (s : State) => { s with drive := { s.drive with linkLost := (false) } }) (up.puts [(⟨F.SYS_PD_STATUS_DOMAIN_ON.addr, 9, 1⟩,
      1)])), by decide +kernel⟩,
    ⟨(up.puts [(⟨F.SYS_PD_STATUS_DOMAIN_ON.addr, 9, 1⟩, 1)]), by decide +kernel⟩,
    ⟨(up.puts [(⟨F.SYS_PD_STATUS_DOMAIN_ON.addr, 9, 1⟩, 1), (F.DRV_STATUS_LOCKOUT, 0)]), by decide +kernel⟩,
    ⟨(up.puts [(⟨F.SYS_PD_STATUS_DOMAIN_ON.addr, 9, 1⟩, 1), (F.DRV_STATUS_LOCKOUT, 1), (F.DRV_STATUS_VDRV_OK, 1)]), by decide +kernel⟩⟩

theorem witness_LanesEdgesStatusAndEnable :
    (∃ s : State, (s.pwm.get ((0 : Fin 6) + 8)).msgs = (default) :: (default) ∧ (s.laneLive (0 : Fin 6) = false ∨ (s.drive.lane.get (0 :
      Fin 6)).inter = true ∨ s.laneHeld (0 : Fin 6) = true)) ∧
    (∃ s : State, (s.pwm.get ((0 : Fin 6) + 8)).msgs = ((⟨false, false, false, 0⟩ : Edge)) :: ([]) ∧ s.laneLive (0 : Fin 6) = true ∧
      (s.drive.lane.get (0 : Fin 6)).inter = false ∧ s.laneHeld (0 : Fin 6) = false ∧ (((⟨false, false, false, 0⟩ : Edge)).on = true →
      (s.drive.lane.get (0 : Fin 6)).levelAt (!((⟨false, false, false, 0⟩ : Edge)).sideB) ((s.drive.lane.get (0 : Fin 6)).execTick (s.get
      (F.LANE_CFG_DEADTIME (0 : Fin 6))) ((⟨false, false, false, 0⟩ : Edge))) = false)) ∧
    (∃ s : State, (s.pwm.get ((0 : Fin 6) + 8)).msgs = ((⟨false, false, true, 0⟩ : Edge)) :: ([]) ∧ s.laneLive (0 : Fin 6) = true ∧
      (s.drive.lane.get (0 : Fin 6)).inter = false ∧ s.laneHeld (0 : Fin 6) = false ∧ ((⟨false, false, true, 0⟩ : Edge)).on = true ∧
      (s.drive.lane.get (0 : Fin 6)).levelAt (!((⟨false, false, true, 0⟩ : Edge)).sideB) ((s.drive.lane.get (0 : Fin 6)).execTick (s.get
      (F.LANE_CFG_DEADTIME (0 : Fin 6))) ((⟨false, false, true, 0⟩ : Edge))) = true) ∧
    (∃ s : State, (s.drive.lane.get (0 : Fin 6)).queue = ((⟨false, false, true, 1024000000100⟩ : Edge)) :: ([]) ∧ s.lineFree (0 : Fin 6) =
      true ∧ s.laneLabel (0 : Fin 6) + 75 ≤ ((⟨false, false, true, 1024000000100⟩ : Edge)).t ∧ ((s.drive.lane.get (0 : Fin 6)).sent.filter
      fun t => decide (s.laneLabel (0 : Fin 6) < t)).length < 4) ∧
    (∃ s : State, (s.drive.lane.get (0 : Fin 6)).queue = ((⟨false, false, true, 0⟩ : Edge)) :: ([]) ∧ s.lineFree (0 : Fin 6) = true ∧
      (((⟨false, false, true, 0⟩ : Edge)).t < s.laneLabel (0 : Fin 6) + 75 ∨ 4 ≤ ((s.drive.lane.get (0 : Fin 6)).sent.filter fun t =>
      decide (s.laneLabel (0 : Fin 6) < t)).length)) ∧
    (∃ s : State, s.laneState (0 : Fin 6) = 2 ∧ (s.drive.lane.get (0 : Fin 6)).tripAt + 48 ≤ s.mono) ∧
    (∃ s : State, s.laneState (0 : Fin 6) = 2 ∧ s.mono < (s.drive.lane.get (0 : Fin 6)).tripAt + 48) ∧
    (∃ s : State, s.laneLive (0 : Fin 6) = true ∧ s.laneLabel (0 : Fin 6) % 800 = 0) ∧
    (∃ s : State, (s.drive.lane.get (0 : Fin 6)).hbDue.isSome = true ∧ s.lineFree (0 : Fin 6) = true ∧ (s.drive.lane.get (0 : Fin
      6)).queue = [] ∧ (s.pwm.get ((0 : Fin 6) + 8)).msgs = [] ∧ s.edgeNear ((0 : Fin 6) + 8) (s.laneLabel (0 : Fin 6)) = false ∧
      (s.drive.lane.get (0 : Fin 6)).hbOut = none) ∧
    (∃ s : State, (s.drive.lane.get (0 : Fin 6)).hbDue.isSome = true ∧ s.lineFree (0 : Fin 6) = true ∧ (s.drive.lane.get (0 : Fin
      6)).hbFirst + 1200 ≤ s.laneLabel (0 : Fin 6) ∧ (s.drive.lane.get (0 : Fin 6)).hbOut = none) ∧
    (∃ s : State, (s.drive.lane.get (0 : Fin 6)).hbOut = some (0 : Nat) ∧ s.responseInTime (0 : Fin 6) = true ∧ crc5 (msbBits 8 (2 : Nat))
      = (69 : BitVec 13).toNat % 32 ∧ (2 : Nat) = (69 : BitVec 13).toNat / 32 ∧ (s.drive.lane.get (0 : Fin 6)).echoBad (0 : Nat) (2 : Nat)
      = true) ∧
    (∃ s : State, (s.drive.lane.get (0 : Fin 6)).hbOut = some (0 : Nat) ∧ s.responseInTime (0 : Fin 6) = true ∧ crc5 (msbBits 8 (32 :
      Nat)) = (1054 : BitVec 13).toNat % 32 ∧ (32 : Nat) = (1054 : BitVec 13).toNat / 32 ∧ bitOf (32 : Nat) 5 = true) ∧
    (∃ s : State, (s.drive.lane.get (0 : Fin 6)).hbOut = some (0 : Nat) ∧ s.responseInTime (0 : Fin 6) = true ∧ crc5 (msbBits 8 (64 :
      Nat)) = (2056 : BitVec 13).toNat % 32 ∧ (64 : Nat) = (2056 : BitVec 13).toNat / 32 ∧ bitOf (64 : Nat) 6 = true) ∧
    (∃ s : State, (s.drive.lane.get (0 : Fin 6)).hbOut = some (0 : Nat) ∧ s.responseInTime (0 : Fin 6) = true ∧ crc5 (msbBits 8 (0 : Nat))
      = (15 : BitVec 13).toNat % 32 ∧ (0 : Nat) = (15 : BitVec 13).toNat / 32 ∧ bitOf (0 : Nat) 7 = false) ∧
    (∃ s : State, (s.drive.lane.get (0 : Fin 6)).hbOut = some (0 : Nat) ∧ s.responseInTime (0 : Fin 6) = true ∧ crc5 (msbBits 8 (16 :
      Nat)) = (533 : BitVec 13).toNat % 32 ∧ (16 : Nat) = (533 : BitVec 13).toNat / 32 ∧ bitOf (16 : Nat) 4 = true) ∧
    (∃ s : State, (s.drive.lane.get (0 : Fin 6)).hbOut = some (0 : Nat) ∧ s.responseInTime (0 : Fin 6) = true ∧ crc5 (msbBits 8 (8 : Nat))
      = (258 : BitVec 13).toNat % 32 ∧ (8 : Nat) = (258 : BitVec 13).toNat / 32 ∧ bitOf (8 : Nat) 3 = true) ∧
    (∃ s : State, (s.drive.lane.get (0 : Fin 6)).hbOut = some (0 : Nat) ∧ s.responseInTime (0 : Fin 6) = true ∧ crc5 (msbBits 8 (4 : Nat))
      = (155 : BitVec 13).toNat % 32 ∧ (4 : Nat) = (155 : BitVec 13).toNat / 32 ∧ bitOf (4 : Nat) 2 = true) ∧
    (∃ s : State, (s.drive.lane.get (0 : Fin 6)).hbOut = some (0 : Nat) ∧ s.responseInTime (0 : Fin 6) = true ∧ crc5 (msbBits 8 (128 :
      Nat)) = (4097 : BitVec 13).toNat % 32 ∧ (128 : Nat) = (4097 : BitVec 13).toNat / 32 ∧ s.pwmState ((0 : Fin 6) + 8) ≠ 1) ∧
    (∃ s : State, (s.drive.lane.get (0 : Fin 6)).hbOut = some (0 : Nat) ∧ s.responseInTime (0 : Fin 6) = true ∧ crc5 (msbBits 8 (8 : Nat))
      = (258 : BitVec 13).toNat % 32 ∧ (8 : Nat) = (258 : BitVec 13).toNat / 32 ∧ s.pwmState ((0 : Fin 6) + 8) = 1 ∧ bitOf (8 : Nat) 3 =
      true) ∧
    (∃ s : State, (s.drive.lane.get (0 : Fin 6)).hbOut = some (default) ∧ (s.responseInTime (0 : Fin 6) = false ∨ crc5 (msbBits 8 ((0 :
      BitVec 13).toNat / 32)) ≠ (0 : BitVec 13).toNat % 32)) ∧
    (∃ s : State, (s.drive.lane.get (0 : Fin 6)).hbOut = some (0 : Nat) ∧ s.laneLabel (0 : Fin 6) < (s.drive.lane.get (0 : Fin 6)).busyTo) ∧
    (∃ s : State, (s.drive.lane.get (0 : Fin 6)).hbOut = some (default) ∧ (s.drive.lane.get (0 : Fin 6)).busyTo ≤ s.laneLabel (0 : Fin 6)) ∧
    (∃ s : State, s.inFoyer = false ∧ s.flag F.CUR_STATUS_SAFE = false ∧ s.flag (F.LANE_CFG_USED (0 : Fin 6)) = true ∧ s.flag
      F.EPOCH_STATUS_BAR_CAL_DONE = true ∧ s.laneState (0 : Fin 6) = 0) ∧
    (∃ s : State, s.inFoyer = false ∧ s.flag F.CUR_STATUS_SAFE = false ∧ s.flag (F.LANE_CFG_USED (0 : Fin 6)) = true ∧ s.flag
      F.EPOCH_STATUS_BAR_CAL_DONE = true ∧ s.laneFenced (0 : Fin 6) = false ∧ s.laneState (0 : Fin 6) ≠ 0 ∧ s.laneState (0 : Fin 6) = 2) ∧
    (∃ s : State, ((.hpb : Initiator) ≠ .hpa ∨ s.inFoyer = true ∨ s.flag F.CUR_STATUS_SAFE = true ∨ s.flag (F.LANE_CFG_USED (0 : Fin 6)) =
      false ∨ s.flag F.EPOCH_STATUS_BAR_CAL_DONE = false ∨ s.laneFenced (0 : Fin 6) = true)) ∧
    (∃ s : State, s.inFoyer = false ∧ s.pwmState ((0 : Fin 6) + 8) = 0 ∧ s.laneState (0 : Fin 6) = 1) ∧
    (∃ s : State, s.inFoyer = false ∧ s.pwmState ((0 : Fin 6) + 8) = 0 ∧ s.laneState (0 : Fin 6) ≠ 1 ∧ s.laneState (0 : Fin 6) = 2) ∧
    (∃ s : State, ((.hpb : Initiator) ≠ .hpa ∨ s.inFoyer = true ∨ s.pwmState ((0 : Fin 6) + 8) ≠ 0)) :=
  ⟨
    ⟨((fun (s : State) => { s with pwm := s.pwm.modify ((0 + 8)) (fun y0 => { y0 with msgs := (default :: default) }) }) up),
      by decide +kernel⟩,
    ⟨((up.put (F.LANE_STAT_STATE 0) 1).modPwm 8 fun p => { p with msgs := [(⟨false, false, false, 0⟩ : Edge)] }), by decide +kernel⟩,
    ⟨(((up.put (F.LANE_STAT_STATE 0) 1).modPwm 8 fun p => { p with msgs := [(⟨false, false, true, 0⟩ : Edge)] }).modLane 0 fun x =>
      { x with lvlB := true }), by decide +kernel⟩,
    ⟨((up.put (F.LANE_STAT_STATE 0) 1).modLane 0 fun x => { x with queue := [(⟨false, false, true, 1024000000100⟩ : Edge)] }),
      by decide +kernel⟩,
    ⟨((up.put (F.LANE_STAT_STATE 0) 1).modLane 0 fun x => { x with queue := [(⟨false, false, true, 0⟩ : Edge)] }), by decide +kernel⟩,
    ⟨(up.puts [(F.LANE_STAT_STATE 0, 2)]), by decide +kernel⟩,
    ⟨{ (up.puts [(F.LANE_STAT_STATE 0, 2)]) with epoch := 0 }, by decide +kernel⟩,
    ⟨(up.put (F.LANE_STAT_STATE 0) 1), by decide +kernel⟩,
    ⟨((up.put (F.LANE_STAT_STATE 0) 1).modLane 0 fun x => { x with hbDue := some 0 }), by decide +kernel⟩,
    ⟨((up.put (F.LANE_STAT_STATE 0) 1).modLane 0 fun x => { x with hbDue := some 0 }), by decide +kernel⟩,
    ⟨((up.put (F.LANE_STAT_STATE 0) 1).puts [(F.PWM_STATUS_STATE 8, 0)] |>.modLane 0 fun x =>
      { x with hbOut := some 0, busyTo := 1024000000020 }), by decide +kernel⟩,
    ⟨((up.put (F.LANE_STAT_STATE 0) 1).puts [(F.PWM_STATUS_STATE 8, 0)] |>.modLane 0 fun x =>
      { x with hbOut := some 0, busyTo := 1024000000020 }), by decide +kernel⟩,
    ⟨((up.put (F.LANE_STAT_STATE 0) 1).puts [(F.PWM_STATUS_STATE 8, 0)] |>.modLane 0 fun x =>
      { x with hbOut := some 0, busyTo := 1024000000020 }), by decide +kernel⟩,
    ⟨((up.put (F.LANE_STAT_STATE 0) 1).puts [(F.PWM_STATUS_STATE 8, 0)] |>.modLane 0 fun x =>
      { x with hbOut := some 0, busyTo := 1024000000020 }), by decide +kernel⟩,
    ⟨((up.put (F.LANE_STAT_STATE 0) 1).puts [(F.PWM_STATUS_STATE 8, 0)] |>.modLane 0 fun x =>
      { x with hbOut := some 0, busyTo := 1024000000020 }), by decide +kernel⟩,
    ⟨((up.put (F.LANE_STAT_STATE 0) 1).puts [(F.PWM_STATUS_STATE 8, 0)] |>.modLane 0 fun x =>
      { x with hbOut := some 0, busyTo := 1024000000020 }), by decide +kernel⟩,
    ⟨((up.put (F.LANE_STAT_STATE 0) 1).puts [(F.PWM_STATUS_STATE 8, 0)] |>.modLane 0 fun x =>
      { x with hbOut := some 0, busyTo := 1024000000020 }), by decide +kernel⟩,
    ⟨((up.put (F.LANE_STAT_STATE 0) 1).puts [(F.PWM_STATUS_STATE 8, 0)] |>.modLane 0 fun x =>
      { x with hbOut := some 0, busyTo := 1024000000020 }), by decide +kernel⟩,
    ⟨((up.put (F.LANE_STAT_STATE 0) 1).puts [(F.PWM_STATUS_STATE 8, 1)] |>.modLane 0 fun x =>
      { x with hbOut := some 0, busyTo := 1024000000020 }), by decide +kernel⟩,
    ⟨((fun (s : State) =>
      { s with drive := { s.drive with lane := s.drive.lane.modify (0) (fun y0 => { y0 with hbOut := (some default) }) } }) up),
      by decide +kernel⟩,
    ⟨((up.put (F.LANE_STAT_STATE 0) 1).puts [(F.PWM_STATUS_STATE 8, 0)] |>.modLane 0 fun x =>
      { x with hbOut := some 0, busyTo := 1024000000020 }), by decide +kernel⟩,
    ⟨((fun (s : State) =>
      { s with drive := { s.drive with lane := s.drive.lane.modify (0) (fun y0 => { y0 with hbOut := (some default) }) } }) up),
      by decide +kernel⟩,
    ⟨(up.puts [(F.SYS_FOYER_IN_FOYER, 0), (F.CUR_STATUS_SAFE, 0), ((F.LANE_CFG_USED 0), 1), (F.EPOCH_STATUS_BAR_CAL_DONE, 1),
      (F.LANE_STAT_STATE 0, 0)]), by decide +kernel⟩,
    ⟨(up.puts [(F.SYS_FOYER_IN_FOYER, 0), (F.CUR_STATUS_SAFE, 0), ((F.LANE_CFG_USED 0), 1), (F.EPOCH_STATUS_BAR_CAL_DONE, 1),
      (F.LANE_STAT_STATE 0, 2)]), by decide +kernel⟩,
    ⟨up, by decide +kernel⟩,
    ⟨(up.puts [(F.SYS_FOYER_IN_FOYER, 0), (F.PWM_STATUS_STATE (0 + 8), 0), (F.LANE_STAT_STATE 0, 1)]), by decide +kernel⟩,
    ⟨(up.puts [(F.SYS_FOYER_IN_FOYER, 0), (F.PWM_STATUS_STATE (0 + 8), 0), (F.LANE_STAT_STATE 0, 2)]), by decide +kernel⟩,
    ⟨up, by decide +kernel⟩⟩

theorem witness_GridEvaluationsAndBoundaries :
    (∃ s : State, s.gridPair = some (0 : Nat) ∧ s.grid.due = true ∧ s.grid.inp.valid = true) ∧
    (∃ s : State, s.gridPair = some (0 : Nat) ∧ s.grid.due = true ∧ s.conn ≠ 3) ∧
    (∃ s : State, s.gridPair = some (0 : Nat) ∧ s.grid.due = true ∧ s.conn = 3 ∧ s.islandNow s.grid.inp = true) ∧
    (∃ s : State, s.gridPair = some (0 : Nat) ∧ s.grid.due = true ∧ s.conn = 1) ∧
    (∃ s : State, s.gridPair = some (0 : Nat) ∧ s.grid.due = true ∧ s.conn ≠ 1 ∧ s.conn ≠ 3) ∧
    (∃ s : State, s.gridPair = some (0 : Nat) ∧ s.grid.due = false) ∧
    (∃ s : State, s.grid.cNext = some (0) ∧ (0) ≤ s.epoch ∧ s.gridOn = true ∧ s.grid.cPrev = some (0)) ∧
    (∃ s : State, s.grid.cNext = none) ∧
    (∃ s : State, s.grid.cNext = some (1) ∧ s.epoch < (1)) :=
  ⟨
    ⟨((fun (s : State) => s.wrW (tcmBase 0 + 0xF0F0) 0x3F800000#32) ((fun (s : State) =>
      { s with grid := { s.grid with inp := { s.grid.inp with valid := (true) } } }) ((fun (s : State) =>
      { s with grid := { s.grid with due := (true) } }) (up.puts [(F.GRID_CFG_GRID_PAIR, 0)])))), by decide +kernel⟩,
    ⟨((fun (s : State) => { s with grid := { s.grid with due := (true) } }) (up.puts [(F.GRID_CFG_GRID_PAIR, 0)])), by decide +kernel⟩,
    ⟨((up.puts [(F.GRID_CFG_GRID_PAIR, 0), (F.GRID_RT_STATUS_CONN_STATE, 3), (F.GRID_RT_STATUS_PROBE, 1)]).modGrid fun g =>
      { g with due := true, inp := { g.inp with valid := true } }), by decide +kernel⟩,
    ⟨((fun (s : State) => { s with grid := { s.grid with due := (true) } }) (up.puts [(F.GRID_CFG_GRID_PAIR, 0),
      (F.GRID_RT_STATUS_CONN_STATE, 1)])), by decide +kernel⟩,
    ⟨((fun (s : State) => { s with grid := { s.grid with due := (true) } }) (up.puts [(F.GRID_CFG_GRID_PAIR, 0)])), by decide +kernel⟩,
    ⟨((fun (s : State) => { s with grid := { s.grid with due := (false) } }) (up.puts [(F.GRID_CFG_GRID_PAIR, 0)])), by decide +kernel⟩,
    ⟨((fun (s : State) => s.puts [(F.GRID_CFG_GRID_PAIR, 4), (F.LP_CTRL_EN 4, 1)]) ((fun (s : State) =>
      { s with grid := { s.grid with cPrev := (some 0) } }) ((fun (s : State) => { s with grid := { s.grid with cNext := (some 0) } })
      up))), by decide +kernel⟩,
    ⟨((fun (s : State) => { s with grid := { s.grid with cNext := (none) } }) up), by decide +kernel⟩,
    ⟨{ ((fun (s : State) => { s with grid := { s.grid with cNext := (some 1) } }) up) with epoch := 0 }, by decide +kernel⟩⟩

theorem witness_FormingProbesAndReconnection :
    (∃ s : State, (bitOf (0#32 : Word).toNat 0 = false ∨ bitOf s.imgFlags 1 = true)) ∧
    (∃ s : State, ((.hpb : Initiator) ≠ .hpa ∨ (bitOf (0#32 : Word).toNat 0 = true ∧ bitOf s.imgFlags 1 = false))) ∧
    (∃ s : State, s.probeAllowed = true ∧ s.probing = false ∧ s.grid.probeAt = some (0) ∧ (0) ≤ s.epoch) ∧
    (∃ s : State, s.probeAllowed = true ∧ s.probing = false ∧ s.grid.probeAt = none ∧ s.probeEvery ≠ 0 ∧ s.epoch % (s.probeEvery *
      800000000) = 0) ∧
    (∃ s : State, (s.probeAllowed = false ∨ s.probing = true)) ∧
    (∃ s : State, s.probing = true ∧ s.grid.probeStart + s.gc 0x20A 2 * 800000 ≤ s.mono) ∧
    (∃ s : State, s.grid.timer = some (default) ∧ s.conn = 1 ∧ (default) + (s.gc 0x210 2 * 1000 + (s.rd R.GRID_RC_DRAW).toNat) * 800000 ≤
      s.mono) ∧
    (∃ s : State, s.grid.timer = none) ∧
    (∃ s : State, s.flag F.GRID_RT_CTRL_AUTO = true ∧ s.conn = 1 ∧ s.grid.timer.isSome = true ∧ s.flag F.GRID_RT_STATUS_CHECK_OK = false ∧
      s.maintRuns Act.relayCheck = false ∧ s.grid.checkAt ≤ s.mono ∧ s.maintFirst Act.relayCheck ∧ s.maintRefusal .device Act.relayCheck =
      none) ∧
    (∃ s : State, s.flag F.GRID_RT_CTRL_AUTO = true ∧ s.conn = 1 ∧ s.grid.timer.isSome = true ∧ s.flag F.GRID_RT_STATUS_CHECK_OK = false ∧
      s.maintRuns Act.relayCheck = false ∧ s.grid.checkAt ≤ s.mono ∧ s.maintFirst Act.relayCheck ∧ s.maintRefusal .device Act.relayCheck =
      some ((2, 0))) ∧
    (∃ s : State, s.grid.startAt = some (default) ∧ s.conn = 3 ∧ (default) ≤ s.epoch) ∧
    (∃ s : State, s.grid.startAt = none) :=
  ⟨
    ⟨up, by decide +kernel⟩,
    ⟨up, by decide +kernel⟩,
    ⟨((fun (s : State) => ((s.withSec Sec.gridCode 0 (placed 0x300 [(0x200, 1, 1), (0x20E, 1, 16)])).puts [(F.GRID_RT_STATUS_CONN_STATE,
      3), (F.GRID_RT_STATUS_OP_STATE, 1)])) ((fun (s : State) => { s with grid := { s.grid with probeAt := (some 0) } }) up)),
      by decide +kernel⟩,
    ⟨((fun (s : State) => ((s.withSec Sec.gridCode 0 (placed 0x300 [(0x200, 1, 1), (0x20E, 1, 16)])).puts [(F.GRID_RT_STATUS_CONN_STATE,
      3), (F.GRID_RT_STATUS_OP_STATE, 1)]))
      { ((fun (s : State) => { s with grid := { s.grid with probeAt := (none) } }) up) with epoch := 1600000000 }), by decide +kernel⟩,
    ⟨up, by decide +kernel⟩,
    ⟨(up.put F.GRID_RT_STATUS_PROBE 1), by decide +kernel⟩,
    ⟨((fun (s : State) => { s with grid := { s.grid with timer := (some default) } }) (up.puts [(F.GRID_RT_STATUS_CONN_STATE, 1)])),
      by decide +kernel⟩,
    ⟨((fun (s : State) => { s with grid := { s.grid with timer := (none) } }) up), by decide +kernel⟩,
    ⟨(((up.puts [(F.GRID_RT_CTRL_AUTO, 1), (F.GRID_RT_STATUS_CONN_STATE, 1), (F.GRID_CFG_GRID_PAIR, 4), (F.LP_CTRL_EN 4, 1)]).modGrid fun
      g => { g with timer := some 0 }) |> fun s => { s with diag := { s.diag with bistNext := 30000 } }), ⟨by decide +kernel,
      by decide +kernel, by decide +kernel, by decide +kernel, by decide +kernel, by decide +kernel, ⟨by decide +kernel,
      by decide +kernel⟩, by decide +kernel⟩⟩,
    ⟨(((up.puts [(F.GRID_RT_CTRL_AUTO, 1), (F.GRID_RT_STATUS_CONN_STATE, 1), (F.SYS_START_DONE, 0)]).modGrid fun g =>
      { g with timer := some 0 }) |> fun s => { s with diag := { s.diag with bistNext := 30000 } }), ⟨by decide +kernel,
      by decide +kernel, by decide +kernel, by decide +kernel, by decide +kernel, by decide +kernel, ⟨by decide +kernel,
      by decide +kernel⟩, by decide +kernel⟩⟩,
    ⟨((fun (s : State) => { s with grid := { s.grid with startAt := (some default) } }) (up.puts [(F.GRID_RT_STATUS_CONN_STATE, 3)])),
      by decide +kernel⟩,
    ⟨((fun (s : State) => { s with grid := { s.grid with startAt := (none) } }) up), by decide +kernel⟩⟩

theorem witness_RelayCheckAndClosing :
    (∃ s : State, s.maintRuns Act.relayCheck = true ∧ s.conn = 1 ∧ s.mono < s.relay.checkFrom + s.checkTicks (s.get
      F.RELAY_STATUS_CHECK_STEP) ∧ s.flag (relayCmdF (0 : Fin 2)) = true ∧ s.relay.cmdAt.get (0 : Fin 2) + s.get F.RELAY_CFG_PULLIN *
      800000 ≤ s.mono) ∧
    (∃ s : State, s.maintRuns Act.relayCheck = true ∧ s.conn = 1 ∧ 2 ≤ s.get F.RELAY_STATUS_CHECK_STEP ∧ s.get F.RELAY_STATUS_CHECK_STEP ≤
      4 ∧ s.relay.checkFrom + s.checkTicks (s.get F.RELAY_STATUS_CHECK_STEP) ≤ s.mono ∧ s.checkPass (s.get F.RELAY_STATUS_CHECK_STEP) =
      true ∧ s.get F.RELAY_STATUS_CHECK_STEP = 2) ∧
    (∃ s : State, s.maintRuns Act.relayCheck = true ∧ s.conn = 1 ∧ 2 ≤ s.get F.RELAY_STATUS_CHECK_STEP ∧ s.get F.RELAY_STATUS_CHECK_STEP ≤
      4 ∧ s.relay.checkFrom + s.checkTicks (s.get F.RELAY_STATUS_CHECK_STEP) ≤ s.mono ∧ s.checkPass (s.get F.RELAY_STATUS_CHECK_STEP) =
      true ∧ s.get F.RELAY_STATUS_CHECK_STEP = 3) ∧
    (∃ s : State, s.maintRuns Act.relayCheck = true ∧ s.conn = 1 ∧ 2 ≤ s.get F.RELAY_STATUS_CHECK_STEP ∧ s.get F.RELAY_STATUS_CHECK_STEP ≤
      4 ∧ s.relay.checkFrom + s.checkTicks (s.get F.RELAY_STATUS_CHECK_STEP) ≤ s.mono ∧ s.checkPass (s.get F.RELAY_STATUS_CHECK_STEP) =
      true ∧ s.get F.RELAY_STATUS_CHECK_STEP = 4) ∧
    (∃ s : State, s.maintRuns Act.relayCheck = true ∧ s.conn = 1 ∧ s.get F.RELAY_STATUS_CHECK_STEP = 1 ∧ s.relay.checkFrom + s.nomCycle ≤
      s.mono ∧ s.relayFb 0 = false ∧ s.relayFb 1 = false ∧ (s.flag F.GRID_STATUS_LOCK = false ∨ s.grid.vMean < s.vNom / 2 ∨ s.flag
      F.RELAY_STATUS_VKX_DEAD = true)) ∧
    (∃ s : State, s.maintRuns Act.relayCheck = true ∧ s.conn = 1 ∧ s.get F.RELAY_STATUS_CHECK_STEP = 5 ∧ s.relay.checkFrom + s.checkTicks
      5 ≤ s.mono ∧ s.relayFb 1 = false) ∧
    (∃ s : State, s.maintRuns Act.relayCheck = true ∧ s.conn = 1 ∧ 2 ≤ s.get F.RELAY_STATUS_CHECK_STEP ∧ s.get F.RELAY_STATUS_CHECK_STEP ≤
      5 ∧ s.relay.checkFrom + s.checkTicks (s.get F.RELAY_STATUS_CHECK_STEP) ≤ s.mono ∧ s.checkPass (s.get F.RELAY_STATUS_CHECK_STEP) =
      false) ∧
    (∃ s : State, s.maintRuns Act.relayCheck = true ∧ s.conn ≠ 1) ∧
    (∃ s : State, s.inFoyer = false ∧ s.closeRefusal ((.hpa : Initiator) == .hpa) true = none ∧ s.formingBlocks = false ∧ s.get
      F.WARDEN_STATUS_PERMIT = 0) ∧
    (∃ s : State, s.inFoyer = false ∧ s.closeRefusal ((.hpa : Initiator) == .hpa) true = none ∧ s.formingBlocks = true) ∧
    (∃ s : State, s.inFoyer = false ∧ ((.hpb : Initiator) ≠ .hpa ∨ s.conn ≠ 1 ∨ s.flag F.GRID_RT_STATUS_RC_READY = false ∨ s.flag
      F.GRID_RT_STATUS_CHECK_OK = false ∨ s.maintRuns Act.relayCheck = true ∨ s.maintRuns Act.isoCheck = true ∨ s.gridOn = false ∨ (∃ u ∈
      s.gridUnits, s.pwmState u ≠ 0 ∨ s.laneState (u - 8) ≠ 1 ∨ bitOf (s.get (F.LANE_STAT_STATUS (u - 8))) 7 = false)) ∧ s.conn ≠ 1) ∧
    (∃ s : State, s.inFoyer = true) ∧
    (∃ s : State, s.conn = 2 ∧ s.relay.stage = 0 ∧ s.relay.closeAt + (s.get F.RELAY_CFG_PULLIN + 20) * 800000 ≤ s.mono ∧ s.relayFb 0 =
      true ∧ s.flag F.RELAY_STATUS_VKX_DEAD = true) ∧
    (∃ s : State, s.conn = 2 ∧ s.relay.stage = 1 ∧ (16000000 : Nat) = s.relay.closeAt + (s.get F.RELAY_CFG_PULLIN + 20) * 800000 ∧
      s.closeTick 16000000 = s.closeTick (((16000000 : Int) + s.ep.base).toNat) ∧ s.monoOf (s.closeTick 16000000 : Nat) ≤ s.mono) ∧
    (∃ s : State, s.conn = 2 ∧ s.relay.stage = 2 ∧ (s.flag F.RELAY_STATUS_VKX_LIVE = true ∨ (s.relay.vkxHi = true ∧ s.relay.vkxLo = true))
      ∧ s.relayFb 1 = true ∧ s.gc 0x214 4 ≠ 0) ∧
    (∃ s : State, s.conn = 2 ∧ s.relay.stage = 2 ∧ (s.flag F.RELAY_STATUS_VKX_LIVE = true ∨ (s.relay.vkxHi = true ∧ s.relay.vkxLo = true))
      ∧ s.relayFb 1 = true ∧ s.flag F.GRID_RT_CTRL_AUTO = true) ∧
    (∃ s : State, s.conn = 2 ∧ s.relay.stage = 2 ∧ (s.flag F.RELAY_STATUS_VKX_LIVE = true ∨ (s.relay.vkxHi = true ∧ s.relay.vkxLo = true))
      ∧ s.relayFb 1 = true ∧ s.flag F.GRID_RT_CTRL_AUTO = false) ∧
    (∃ s : State, s.conn = 2 ∧ ((s.relay.stage = 0 ∧ s.relay.closeAt + (s.get F.RELAY_CFG_PULLIN + 20) * 800000 ≤ s.mono ∧ (s.relayFb 0 =
      false ∨ s.flag F.RELAY_STATUS_VKX_DEAD = false)) ∨ (s.relay.stage = 2 ∧ s.relay.k2At + 48000000 ≤ s.mono ∧ s.relayFb 1 = false))) ∧
    (∃ s : State, s.conn ≠ 2) :=
  ⟨
    ⟨((fun (s : State) => s.puts [(⟨R.DIAG_MAINT_RUN, Act.relayCheck, 1⟩, 1), (F.WARDEN_CFG_USE 2, 1), (F.WARDEN_LEVEL_FILT_A 2, 1),
      (F.WARDEN_LEVEL_FILT_B 2, 1), (F.RELAY_STATUS_VKX_DEAD, 1)])
      { (up.puts [(F.GRID_RT_STATUS_CONN_STATE, 1), ((relayCmdF 0), 1)]) with epoch := 1 }), by decide +kernel⟩,
    ⟨((fun (s : State) => s.puts [(⟨R.DIAG_MAINT_RUN, Act.relayCheck, 1⟩, 1), (F.WARDEN_CFG_USE 2, 1), (F.WARDEN_LEVEL_FILT_A 2, 0),
      (F.WARDEN_LEVEL_FILT_B 2, 1), (F.RELAY_STATUS_VKX_DEAD, 1)]) (up.puts [(F.GRID_RT_STATUS_CONN_STATE, 1), (F.RELAY_STATUS_CHECK_STEP,
      2)])), by decide +kernel⟩,
    ⟨((fun (s : State) => s.puts [(⟨R.DIAG_MAINT_RUN, Act.relayCheck, 1⟩, 1), (F.WARDEN_CFG_USE 2, 1), (F.WARDEN_LEVEL_FILT_A 2, 1),
      (F.WARDEN_LEVEL_FILT_B 2, 1), (F.RELAY_STATUS_VKX_DEAD, 1)]) (up.puts [(F.GRID_RT_STATUS_CONN_STATE, 1), (F.RELAY_STATUS_CHECK_STEP,
      3)])), by decide +kernel⟩,
    ⟨((fun (s : State) => s.puts [(⟨R.DIAG_MAINT_RUN, Act.relayCheck, 1⟩, 1), (F.WARDEN_CFG_USE 2, 1), (F.WARDEN_LEVEL_FILT_A 2, 1),
      (F.WARDEN_LEVEL_FILT_B 2, 0), (F.RELAY_STATUS_VKX_DEAD, 1)]) (up.puts [(F.GRID_RT_STATUS_CONN_STATE, 1), (F.RELAY_STATUS_CHECK_STEP,
      4)])), by decide +kernel⟩,
    ⟨((fun (s : State) => s.puts [(⟨R.DIAG_MAINT_RUN, Act.relayCheck, 1⟩, 1), (F.WARDEN_CFG_USE 2, 1), (F.WARDEN_LEVEL_FILT_A 2, 1),
      (F.WARDEN_LEVEL_FILT_B 2, 1), (F.RELAY_STATUS_VKX_DEAD, 1)]) (up.puts [(F.GRID_RT_STATUS_CONN_STATE, 1), (F.RELAY_STATUS_CHECK_STEP,
      1), (F.GRID_STATUS_LOCK, 0)])), by decide +kernel⟩,
    ⟨((fun (s : State) => s.puts [(⟨R.DIAG_MAINT_RUN, Act.relayCheck, 1⟩, 1), (F.WARDEN_CFG_USE 2, 1), (F.WARDEN_LEVEL_FILT_A 2, 1),
      (F.WARDEN_LEVEL_FILT_B 2, 1), (F.RELAY_STATUS_VKX_DEAD, 1)]) (up.puts [(F.GRID_RT_STATUS_CONN_STATE, 1), (F.RELAY_STATUS_CHECK_STEP,
      5)])), by decide +kernel⟩,
    ⟨((fun (s : State) => (s.puts [(⟨R.DIAG_MAINT_RUN, Act.relayCheck, 1⟩, 1), (F.WARDEN_CFG_USE 2, 1), (F.WARDEN_LEVEL_FILT_A 2, 1),
      (F.WARDEN_LEVEL_FILT_B 2, 0), (F.RELAY_STATUS_VKX_DEAD, 1)]).put F.RELAY_STATUS_CHECK_STEP 5) (up.puts
      [(F.GRID_RT_STATUS_CONN_STATE, 1)])), by decide +kernel⟩,
    ⟨(up.puts [(⟨R.DIAG_MAINT_RUN, Act.relayCheck, 1⟩, 1), (F.WARDEN_CFG_USE 2, 1), (F.WARDEN_LEVEL_FILT_A 2, 1), (F.WARDEN_LEVEL_FILT_B
      2, 1), (F.RELAY_STATUS_VKX_DEAD, 1)]), by decide +kernel⟩,
    ⟨((fun (s : State) => s.puts [(F.GRID_RT_STATUS_CONN_STATE, 1), (F.GRID_RT_STATUS_RC_READY, 1), (F.GRID_RT_STATUS_CHECK_OK, 1),
      (F.GRID_CFG_GRID_PAIR, 4), (F.LP_CTRL_EN 4, 1)]) (up.puts [(F.SYS_FOYER_IN_FOYER, 0), (F.WARDEN_STATUS_PERMIT, 0)])),
      by decide +kernel⟩,
    ⟨((up.puts [(F.GRID_RT_STATUS_CONN_STATE, 1), (F.GRID_RT_STATUS_RC_READY, 1), (F.GRID_RT_STATUS_CHECK_OK, 1), (F.GRID_CFG_GRID_PAIR,
      4), (F.LP_CTRL_EN 4, 1), (F.GRID_STATUS_FORMING, 1)])), by decide +kernel⟩,
    ⟨(up.puts [(F.SYS_FOYER_IN_FOYER, 0)]), by decide +kernel⟩,
    ⟨(up.puts [(F.SYS_FOYER_IN_FOYER, 1)]), by decide +kernel⟩,
    ⟨((fun (s : State) => s.puts [(F.WARDEN_CFG_USE 2, 1)]) ((fun (s : State) => { s with relay := { s.relay with stage := (0) } })
      (up.puts [(F.GRID_RT_STATUS_CONN_STATE, 2), (F.RELAY_STATUS_VKX_DEAD, 1)]))), by decide +kernel⟩,
    ⟨((up.put (F.GRID_RT_STATUS_CONN_STATE) 2).modRelay fun r => { r with stage := 1 }), by decide +kernel⟩,
    ⟨((fun (s : State) => (s.withSec Sec.gridCode 0 (placed 0x300 [(0x214, 4, 1)])).put (F.WARDEN_CFG_USE 2) 1) ((fun (s : State) =>
      { s with relay := { s.relay with stage := (2) } }) (up.puts [(F.GRID_RT_STATUS_CONN_STATE, 2), (F.RELAY_STATUS_VKX_LIVE, 1)]))),
      by decide +kernel⟩,
    ⟨((fun (s : State) => s.puts [(F.WARDEN_CFG_USE 2, 1)]) ((fun (s : State) => { s with relay := { s.relay with stage := (2) } })
      (up.puts [(F.GRID_RT_STATUS_CONN_STATE, 2), (F.RELAY_STATUS_VKX_LIVE, 1), (F.GRID_RT_CTRL_AUTO, 1)]))), by decide +kernel⟩,
    ⟨((fun (s : State) => s.puts [(F.WARDEN_CFG_USE 2, 1)]) ((fun (s : State) => { s with relay := { s.relay with stage := (2) } })
      (up.puts [(F.GRID_RT_STATUS_CONN_STATE, 2), (F.RELAY_STATUS_VKX_LIVE, 1), (F.GRID_RT_CTRL_AUTO, 0)]))), by decide +kernel⟩,
    ⟨((fun (s : State) => { s with relay := { s.relay with stage := (0) } }) (up.puts [(F.GRID_RT_STATUS_CONN_STATE, 2)])),
      by decide +kernel⟩,
    ⟨up, by decide +kernel⟩⟩

theorem witness_TripsAndOpening :
    (∃ s : State, s.conn ≠ 4 ∧ s.conn ≠ 5) ∧
    (∃ s : State, (s.conn = 4 ∨ s.conn = 5)) ∧
    ((.hpb : Initiator) ≠ .hpa) ∧
    (∃ s : State, s.conn = 4 ∧ s.relay.openFrom + (s.get F.RELAY_CFG_REL_MAX + 20) * 800000 ≤ s.mono ∧ (s.relayFb 0 = true ∨ s.relayFb 1 =
      true)) ∧
    (∃ s : State, s.conn = 4 ∧ s.relay.openFrom + (s.get F.RELAY_CFG_REL_MAX + 20) * 800000 ≤ s.mono ∧ s.relayFb 0 = false ∧ s.relayFb 1 =
      false ∧ s.connAble = true) ∧
    (∃ s : State, s.conn = 4 ∧ s.relay.openFrom + (s.get F.RELAY_CFG_REL_MAX + 20) * 800000 ≤ s.mono ∧ s.relayFb 0 = false ∧ s.relayFb 1 =
      false ∧ s.connAble = false) ∧
    (∃ s : State, s.conn = 3 ∧ (s.fbLost 0 = true ∨ s.fbLost 1 = true)) ∧
    (∃ s : State, s.fbLost 0 = false ∧ s.fbLost 1 = false) :=
  ⟨
    ⟨up, by decide +kernel⟩,
    ⟨(up.puts [(F.GRID_RT_STATUS_CONN_STATE, 4)]), by decide +kernel⟩,
    by decide +kernel,
    ⟨((fun (s : State) => s.put (F.WARDEN_CFG_USE 2) 1) (up.puts [(F.GRID_RT_STATUS_CONN_STATE, 4)])), by decide +kernel⟩,
    ⟨((fun (s : State) => s.puts [(F.GRID_CFG_GRID_PAIR, 4), (F.LP_CTRL_EN 4, 1)]) (up.puts [(F.GRID_RT_STATUS_CONN_STATE, 4)])),
      by decide +kernel⟩,
    ⟨(up.puts [(F.GRID_RT_STATUS_CONN_STATE, 4)]), by decide +kernel⟩,
    ⟨((fun (s : State) => s.modRelay fun r => { r with fbOpen := r.fbOpen.set 1 (some (1024000000000 - 16000000)) }) (up.puts
      [(F.GRID_RT_STATUS_CONN_STATE, 3)])), by decide +kernel⟩,
    ⟨up, by decide +kernel⟩⟩

theorem witness_MeteringRunsStopsAndReads :
    (∃ s : State, s.meterRefused .hpa = false) ∧
    (∃ s : State, (s.meterRefused (.hpa : Initiator) = true ∨ ∃ k ∈ meterChs s.gridTopo, s.ringOn k = true)) ∧
    (∃ s : State, s.inFoyer = false ∧ s.flag F.METER_CTRL_EN = false) ∧
    (∃ s : State, s.inFoyer = false ∧ s.flag F.METER_CTRL_EN = true ∧ s.meterCycleLeft s.epoch = true) ∧
    (∃ s : State, s.inFoyer = false ∧ s.flag F.METER_CTRL_EN = true ∧ s.meterCycleLeft s.epoch = false ∧ s.meterRun = true) ∧
    (∃ s : State, ((.hpb : Initiator) ≠ .hpa ∨ s.inFoyer = true)) ∧
    (∃ s : State, s.pdOn 6 = true ∧ s.meterRun = true) :=
  ⟨
    ⟨((up.withSec Sec.metering 0 []).put F.METER_STATUS_VAULT_READY 1), by decide +kernel⟩,
    ⟨up, by decide +kernel⟩,
    ⟨(up.puts [(F.SYS_FOYER_IN_FOYER, 0), (F.METER_CTRL_EN, 0)]), by decide +kernel⟩,
    ⟨((fun (s : State) => s.modMeter fun m => { m with cycles := [(0, 1)] }) (up.puts [(F.SYS_FOYER_IN_FOYER, 0), (F.METER_CTRL_EN, 1)])),
      by decide +kernel⟩,
    ⟨(up.puts [(F.SYS_FOYER_IN_FOYER, 0), (F.METER_CTRL_EN, 1), (F.METER_STATUS_RUN, 1)]), by decide +kernel⟩,
    ⟨up, by decide +kernel⟩,
    ⟨(up.puts [(⟨F.SYS_PD_STATUS_DOMAIN_ON.addr, 6, 1⟩, 1), (F.METER_STATUS_RUN, 1)]), by decide +kernel⟩⟩

theorem witness_MeteredCycles :
    (∃ s : State, s.meter.cycles = ((0 : Nat), (0 : Nat)) :: (default : List (Nat × Nat)) ∧ s.meter.stopAt = none ∧ s.maintRuns
      Act.vaultCompact = false ∧ s.meter.due = some (default)) ∧
    (∃ s : State, s.meter.cycles = ((0 : Nat), (0 : Nat)) :: (default : List (Nat × Nat)) ∧ s.meter.stopAt = none ∧ s.maintRuns
      Act.vaultCompact = false ∧ s.meter.due = none ∧ s.meterRun = true ∧ (∀ k ∈ meterChs s.gridTopo, s.meter.rd + 256 ≤ (s.rd
      (R.CH_RING_WR k)).toNat) ∧ (∃ k ∈ meterChs s.gridTopo, s.meter.rd + 1024 < (s.rd (R.CH_RING_WR k)).toNat)) ∧
    (∃ s : State, s.meter.cycles = ((0 : Nat), (0 : Nat)) :: (default : List (Nat × Nat)) ∧ s.meter.stopAt = none ∧ s.maintRuns
      Act.vaultCompact = false ∧ s.meter.due = none ∧ s.meterRun = true ∧ (∀ k ∈ meterChs s.gridTopo, s.meter.rd + 256 ≤ (s.rd
      (R.CH_RING_WR k)).toNat) ∧ (∀ k ∈ meterChs s.gridTopo, (s.rd (R.CH_RING_WR k)).toNat ≤ s.meter.rd + 1024) ∧ (s.meter.hist = false ∨
      s.meter.failed (0 : Nat) (0 : Nat) = true)) ∧
    (∃ s : State, s.meter.cycles = ((0 : Nat), (0 : Nat)) :: (default : List (Nat × Nat)) ∧ s.meter.stopAt = none ∧ s.maintRuns
      Act.vaultCompact = false ∧ s.meter.due = none ∧ s.meterRun = true ∧ (∀ k ∈ meterChs s.gridTopo, s.meter.rd + 256 ≤ (s.rd
      (R.CH_RING_WR k)).toNat) ∧ (∀ k ∈ meterChs s.gridTopo, (s.rd (R.CH_RING_WR k)).toNat ≤ s.meter.rd + 1024) ∧ s.meter.hist = true ∧
      s.meter.failed (0 : Nat) (0 : Nat) = false ∧ s.meter.resume = false ∧ s.meter.n + 1 < s.get F.METER_CFG_LATCH_N) ∧
    (∃ s : State, s.meter.cycles = ((0 : Nat), (0 : Nat)) :: (default : List (Nat × Nat)) ∧ s.meter.stopAt = none ∧ s.maintRuns
      Act.vaultCompact = false ∧ s.meter.due = none ∧ s.meterRun = true ∧ (∀ k ∈ meterChs s.gridTopo, s.meter.rd + 256 ≤ (s.rd
      (R.CH_RING_WR k)).toNat) ∧ (∀ k ∈ meterChs s.gridTopo, (s.rd (R.CH_RING_WR k)).toNat ≤ s.meter.rd + 1024) ∧ s.meter.hist = true ∧
      s.meter.failed (0 : Nat) (0 : Nat) = false ∧ s.meter.resume = false ∧ s.get F.METER_CFG_LATCH_N ≤ s.meter.n + 1) :=
  ⟨
    ⟨((fun (s : State) => { s with meter := { s.meter with due := (some default) } }) ((fun (s : State) =>
      { s with meter := { s.meter with stopAt := (none) } }) ((fun (s : State) =>
      { s with meter := { s.meter with cycles := ((0, 0) :: default) } }) up))), by decide +kernel⟩,
    ⟨((fun (s : State) => ((s.withSec Sec.topology 0 (placed 0x20 [(4, 1, 3)])).puts [(whole (R.CH_RING_WR 16), 1025), (whole
      (R.CH_RING_WR 20), 1025)])) ((fun (s : State) => { s with meter := { s.meter with due := (none) } }) ((fun (s : State) =>
      { s with meter := { s.meter with stopAt := (none) } }) ((fun (s : State) =>
      { s with meter := { s.meter with cycles := ((0, 0) :: default) } }) (up.puts [(F.METER_STATUS_RUN, 1)]))))), ⟨by decide +kernel,
      by decide +kernel, by decide +kernel, by decide +kernel, by decide +kernel, by decide +kernel⟩⟩,
    ⟨((fun (s : State) => { s with meter := { s.meter with hist := (false) } }) ((fun (s : State) =>
      { s with meter := { s.meter with due := (none) } }) ((fun (s : State) => { s with meter := { s.meter with stopAt := (none) } })
      ((fun (s : State) => { s with meter := { s.meter with cycles := ((0, 0) :: default) } }) (up.puts [(F.METER_STATUS_RUN, 1)]))))),
      by decide +kernel⟩,
    ⟨((fun (s : State) => (s.withSec Sec.topology 0 (placed 0x20 [(4, 1, 3)])).puts [(whole (R.CH_RING_WR 16), 1024), (whole (R.CH_RING_WR
      20), 1024), (F.METER_CFG_LATCH_N, 2)]) ((fun (s : State) => { s with meter := { s.meter with resume := (false) } }) ((fun (s :
      State) => { s with meter := { s.meter with hist := (true) } }) ((fun (s : State) =>
      { s with meter := { s.meter with due := (none) } }) ((fun (s : State) => { s with meter := { s.meter with stopAt := (none) } })
      ((fun (s : State) => { s with meter := { s.meter with cycles := ((0, 0) :: default) } }) (up.puts [(F.METER_STATUS_RUN, 1)]))))))),
      by decide +kernel⟩,
    ⟨((fun (s : State) => { s with meter := { s.meter with resume := (false) } }) ((fun (s : State) =>
      { s with meter := { s.meter with hist := (true) } }) ((fun (s : State) => { s with meter := { s.meter with due := (none) } }) ((fun
      (s : State) => { s with meter := { s.meter with stopAt := (none) } }) ((fun (s : State) =>
      { s with meter := { s.meter with cycles := ((0, 0) :: default) } }) (up.puts [(F.METER_STATUS_RUN, 1)])))))), by decide +kernel⟩⟩

theorem witness_VaultScanAndCompaction :
    (∃ s : State, s.pdOn 6 = true ∧ s.flag F.METER_STATUS_VAULT_READY = false ∧ s.vaultNewest = none) ∧
    (∃ s : State, s.pdOn 6 = true ∧ s.flag F.METER_STATUS_VAULT_READY = false ∧ s.vaultNewest = none) ∧
    (∃ s : State, s.pdOn 6 = true ∧ s.flag F.METER_STATUS_VAULT_READY = false ∧ s.vaultNewest = some (5)) ∧
    (∃ s : State, s.pdOn 6 = true ∧ s.flag F.METER_STATUS_VAULT_READY = false ∧ s.vaultNewest = some (5) ∧ s.vaultFld (5) 0 1 ≠ 2) ∧
    (∃ s : State, s.pdOn 6 = true ∧ s.flag F.METER_STATUS_VAULT_READY = false ∧ s.vaultNewest = some (5) ∧ s.tallyHighest (s.vaultFld (5)
      8 4) = none ∧ s.vaultFld (5) 0 1 = 2) ∧
    (∃ s : State, s.pdOn 6 = true ∧ s.flag F.METER_STATUS_VAULT_READY = false ∧ s.vaultBad ≠ (0, 0)) ∧
    (∃ s : State, (s.pdOn 6 = false ∨ s.flag F.METER_STATUS_VAULT_READY = true)) ∧
    (∃ s : State, s.maintRuns Act.vaultCompact = true ∧ s.meter.due = none ∧ s.vaultNewest = none) ∧
    (∃ s : State, s.maintRuns Act.vaultCompact = true ∧ s.meter.due = none ∧ s.vaultNewest = none) ∧
    (∃ s : State, s.maintRuns Act.vaultCompact = true ∧ s.meter.due = none ∧ s.vaultNewest = some (5) ∧ (0 : Nat) = 0) ∧
    (∃ s : State, s.maintRuns Act.vaultCompact = true ∧ s.meter.due = some (0)) ∧
    (∃ s : State, s.maintRuns Act.vaultCompact = true ∧ s.meter.stopAt = none) ∧
    (∃ s : State, s.maintRuns Act.vaultCompact = false) :=
  ⟨
    ⟨(up.puts [(⟨F.SYS_PD_STATUS_DOMAIN_ON.addr, 6, 1⟩, 1), (F.METER_STATUS_VAULT_READY, 0)]), by decide +kernel⟩,
    ⟨(up.puts [(⟨F.SYS_PD_STATUS_DOMAIN_ON.addr, 6, 1⟩, 1), (F.METER_STATUS_VAULT_READY, 0)]), by decide +kernel⟩,
    ⟨((up.puts [(⟨F.SYS_PD_STATUS_DOMAIN_ON.addr, 6, 1⟩, 1), (F.METER_STATUS_VAULT_READY, 0)]).wrBytes (vaultSlot 5) ((fun (b : List Byte)
      => b ++ leBytes 4 (crc32 b)) (placed 60 [(0, 1, 1), (4, 4, 7)]))), by decide +kernel⟩,
    ⟨((up.puts [(⟨F.SYS_PD_STATUS_DOMAIN_ON.addr, 6, 1⟩, 1), (F.METER_STATUS_VAULT_READY, 0)]).wrBytes (vaultSlot 5) ((fun (b : List Byte)
      => b ++ leBytes 4 (crc32 b)) (placed 60 [(0, 1, 1), (4, 4, 7)]))), by decide +kernel⟩,
    ⟨((up.puts [(⟨F.SYS_PD_STATUS_DOMAIN_ON.addr, 6, 1⟩, 1), (F.METER_STATUS_VAULT_READY, 0)]).wrBytes (vaultSlot 5) ((fun (b : List Byte)
      => b ++ leBytes 4 (crc32 b)) (placed 60 [(0, 1, 2), (4, 4, 7)]))), by decide +kernel⟩,
    ⟨((fun (s : State) => s.wrB (vaultSlot 5) 1#8) (up.puts [(⟨F.SYS_PD_STATUS_DOMAIN_ON.addr, 6, 1⟩, 1), (F.METER_STATUS_VAULT_READY,
      0)])), by decide +kernel⟩,
    ⟨(up.puts [(⟨F.SYS_PD_STATUS_DOMAIN_ON.addr, 6, 1⟩, 0)]), by decide +kernel⟩,
    ⟨(up.put ⟨R.DIAG_MAINT_RUN, 11, 1⟩ 1), by decide +kernel⟩,
    ⟨(up.put ⟨R.DIAG_MAINT_RUN, 11, 1⟩ 1), by decide +kernel⟩,
    ⟨((fun (s : State) => (s.wrBytes (vaultSlot 5) ((fun (b : List Byte) => b ++ leBytes 4 (crc32 b)) (placed 60 [(0, 1, 1), (4, 4,
      7)])))) (up.put ⟨R.DIAG_MAINT_RUN, 11, 1⟩ 1)), by decide +kernel⟩,
    ⟨((fun (s : State) => { s with meter := { s.meter with due := some 0 } }) (up.put ⟨R.DIAG_MAINT_RUN, 11, 1⟩ 1)), by decide +kernel⟩,
    ⟨((fun (s : State) => { s with meter := { s.meter with due := some 0 } }) (up.put ⟨R.DIAG_MAINT_RUN, 11, 1⟩ 1)), by decide +kernel⟩,
    ⟨up, by decide +kernel⟩⟩

theorem witness_ArcDetectionTracesAndInsulation :
    (∃ s : State, s.arcRefused .hpa (0 : Fin 4) = false) ∧
    (∃ s : State, (s.arcRefused (.hpa : Initiator) (0 : Fin 4) = true ∨ s.ringOn (4 + (0 : Fin 4)) = true)) ∧
    (∃ s : State, s.inFoyer = false ∧ s.arcOn (0 : Fin 4) = true) ∧
    (∃ s : State, ((.hpb : Initiator) ≠ .hpa ∨ s.inFoyer = true)) ∧
    (∃ s : State, s.inFoyer = false ∧ s.arcOn (0 : Fin 4) = false) ∧
    (∃ s : State, s.arcOn (0 : Fin 4) = true ∧ 409600 * ((s.diag.arc.get (0 : Fin 4)).frame + 1) ≤ s.epoch ∧ 409600 * ((s.diag.arc.get (0
      : Fin 4)).frame + 1) < (s.sens.ch.get (4 + (0 : Fin 4))).nextT ∧ s.arcIndex (0 : Fin 4) (409600 * ((s.diag.arc.get (0 : Fin
      4)).frame + 1)) < (s.rd (R.CH_RING_WR (4 + (0 : Fin 4)))).toNat ∧ (s.arcWords (0 : Fin 4) (s.arcIndex (0 : Fin 4) (409600 *
      (s.diag.arc.get (0 : Fin 4)).frame + 400))).any (fun w => bitOf w 16 || bitOf w 17 || bitOf w 19 || bitOf w 29) = true) ∧
    (∃ s : State, s.arcOn (0 : Fin 4) = true ∧ 409600 * ((s.diag.arc.get (0 : Fin 4)).frame + 1) ≤ s.epoch ∧ 409600 * ((s.diag.arc.get (0
      : Fin 4)).frame + 1) < (s.sens.ch.get (4 + (0 : Fin 4))).nextT ∧ s.arcIndex (0 : Fin 4) (409600 * ((s.diag.arc.get (0 : Fin
      4)).frame + 1)) < (s.rd (R.CH_RING_WR (4 + (0 : Fin 4)))).toNat ∧ (s.diag.arc.get (0 : Fin 4)).warm < 64) ∧
    (∃ s : State, s.maintRuns (4 + (0 : Fin 4)) = true ∧ (s.diag.iv.get (0 : Fin 4)).point < 511 ∧ (s.diag.iv.get (0 : Fin 4)).at_
      ((s.diag.iv.get (0 : Fin 4)).point + 1) ≤ s.mono ∧ (s.diag.iv.get (0 : Fin 4)).pair < 6 ∧ 0x20000000 ≤ (s.rd R.DIAG_IV_BASE).toNat ∧
      (s.rd R.DIAG_IV_BASE).toNat + 4096 ≤ 0x20400000 ∧ ((0 : Nat) < (s.rd R.DIAG_IV_BASE).toNat + 8 * (s.diag.iv.get (0 : Fin 4)).point ∨
      (s.rd R.DIAG_IV_BASE).toNat + 8 * (s.diag.iv.get (0 : Fin 4)).point + 8 ≤ (0 : Nat)) ∧ ((0 : Nat) < tcmBase (s.diag.iv.get (0 : Fin
      4)).pair + 0x4000 + 4 * 246 ∨ tcmBase (s.diag.iv.get (0 : Fin 4)).pair + 0x4000 + 4 * 248 ≤ (0 : Nat))) ∧
    (∃ s : State, s.maintRuns (4 + (0 : Fin 4)) = true ∧ (s.diag.iv.get (0 : Fin 4)).point = 511 ∧ (s.diag.iv.get (0 : Fin 4)).at_ 512 ≤
      s.mono ∧ (s.diag.iv.get (0 : Fin 4)).noWin = 0 ∧ (s.diag.iv.get (0 : Fin 4)).n ≠ 0) ∧
    (∃ s : State, s.maintRuns (4 + (0 : Fin 4)) = true ∧ (s.diag.iv.get (0 : Fin 4)).point = 511 ∧ (s.diag.iv.get (0 : Fin 4)).at_ 512 ≤
      s.mono ∧ ((s.diag.iv.get (0 : Fin 4)).noWin ≠ 0 ∨ (s.diag.iv.get (0 : Fin 4)).n = 0)) ∧
    (∃ s : State, s.maintRuns (4 + (0 : Fin 4)) = true ∧ (s.diag.iv.get (0 : Fin 4)).point = 511 ∧ (s.diag.iv.get (0 : Fin 4)).at_ 512 ≤
      s.mono ∧ ((default) < (s.rd R.DIAG_IV_BASE).toNat + 8 * 511 ∨ (s.rd R.DIAG_IV_BASE).toNat + 8 * 512 ≤ (default)) ∧ ((default) <
      tcmBase (s.diag.iv.get (0 : Fin 4)).pair + 0x4000 + 4 * 246 ∨ tcmBase (s.diag.iv.get (0 : Fin 4)).pair + 0x4000 + 4 * 248 ≤
      (default))) ∧
    (∃ s : State, s.maintRuns (4 + (0 : Fin 4)) = false) ∧
    (∃ s : State, s.maintRuns Act.isoCheck = true ∧ s.diag.iso.step < 3 ∧ s.diag.iso.grant + isoAt s.diag.iso.step ≤ s.mono ∧
      s.diag.iso.step = 1) ∧
    (∃ s : State, s.maintRuns Act.isoCheck = true ∧ s.diag.iso.step = 3 ∧ s.diag.iso.grant + 1200000000 ≤ s.mono ∧ (s.isoResult
      (s.diag.iso.va / 32768 * 80) (s.isoCode (120000000 : Int) / 32768 * 80)).2.2 = some (50 : Rat) ∧ (50 : Rat) < (s.get
      F.DIAG_ISO_LIMIT_LIMIT : Rat)) ∧
    (∃ s : State, s.maintRuns Act.isoCheck = true ∧ s.diag.iso.step = 3 ∧ s.diag.iso.grant + 1200000000 ≤ s.mono ∧ (s.isoResult
      (s.diag.iso.va / 32768 * 80) (s.isoCode (120000000 : Int) / 32768 * 80)).2.2 = some (50 : Rat) ∧ ¬ (50 : Rat) < (s.get
      F.DIAG_ISO_LIMIT_LIMIT : Rat)) :=
  ⟨
    ⟨(up.puts [(F.CH_CFG_STREAM 4, 2), (F.CH_CFG_DEST 4, 64), (calValidF 4, 1)]), by decide +kernel⟩,
    ⟨up, by decide +kernel⟩,
    ⟨((fun (s : State) => s.put (arcEnF 0) 1) (up.puts [(F.SYS_FOYER_IN_FOYER, 0)])), by decide +kernel⟩,
    ⟨up, by decide +kernel⟩,
    ⟨(up.puts [(F.SYS_FOYER_IN_FOYER, 0)]), by decide +kernel⟩,
    ⟨((((up.put (arcEnF 0) 1).put (whole (R.CH_RING_WR 4)) 5000).modCh 4 fun c => { c with nextT := 410000, samples := 1024 }).wrW
      0x31060000 0x10000#32), by decide +kernel⟩,
    ⟨(((up.put (arcEnF 0) 1).put (whole (R.CH_RING_WR 4)) 5000).modCh 4 fun c => { c with nextT := 410000, samples := 1024 }),
      by decide +kernel⟩,
    ⟨((up.put ⟨R.DIAG_MAINT_RUN, 4, 1⟩ 1).wr R.DIAG_IV_BASE 0x20000000#32), by decide +kernel⟩,
    ⟨((fun (s : State) => (s.put ⟨R.DIAG_MAINT_RUN, 4, 1⟩ 1).modIv 0 fun t => { t with point := 511, n := 1 }) ((fun (s : State) =>
      { s with diag := { s.diag with iv := s.diag.iv.modify (0) (fun y0 => { y0 with noWin := (0) }) } }) ((fun (s : State) =>
      { s with diag := { s.diag with iv := s.diag.iv.modify (0) (fun y0 => { y0 with point := (511) }) } }) (up.puts [(⟨R.DIAG_MAINT_RUN,
      (4 + 0), 1⟩, 1)])))), by decide +kernel⟩,
    ⟨((fun (s : State) => { s with diag := { s.diag with iv := s.diag.iv.modify (0) (fun y0 => { y0 with point := (511) }) } }) (up.puts
      [(⟨R.DIAG_MAINT_RUN, (4 + 0), 1⟩, 1)])), by decide +kernel⟩,
    ⟨((fun (s : State) => { s with diag := { s.diag with iv := s.diag.iv.modify (0) (fun y0 => { y0 with point := (511) }) } }) (up.puts
      [(⟨R.DIAG_MAINT_RUN, (4 + 0), 1⟩, 1)])), by decide +kernel⟩,
    ⟨(up.puts [(⟨R.DIAG_MAINT_RUN, (4 + 0), 1⟩, 0)]), by decide +kernel⟩,
    ⟨((fun (s : State) => { s.put ⟨R.DIAG_MAINT_RUN, 8, 1⟩ 1 with diag := { s.diag with iso := { s.diag.iso with step := 1 } } }) ((fun (s
      : State) => { s with diag := { s.diag with iso := { s.diag.iso with step := (1) } } }) up)), by decide +kernel⟩,
    ⟨((fun (s : State) =>
      { s.puts [(⟨R.DIAG_MAINT_RUN, 8, 1⟩, 1), (F.DIAG_ISO_RFACT_R_ATT, 100), (F.DIAG_ISO_RFACT_R_BIAS, 100), (F.DIAG_ISO_LIMIT_LIMIT, 200)] with diag := { s.diag with iso := { s.diag.iso with step := 3, va := 32768 } } })
      ((fun (s : State) => { s with diag := { s.diag with iso := { s.diag.iso with step := (3) } } }) up)), by decide +kernel⟩,
    ⟨((fun (s : State) =>
      { s.puts [(⟨R.DIAG_MAINT_RUN, 8, 1⟩, 1), (F.DIAG_ISO_RFACT_R_ATT, 100), (F.DIAG_ISO_RFACT_R_BIAS, 100), (F.DIAG_ISO_LIMIT_LIMIT, 20)] with diag := { s.diag with iso := { s.diag.iso with step := 3, va := 32768 } } })
      ((fun (s : State) => { s with diag := { s.diag with iso := { s.diag.iso with step := (3) } } }) up)), by decide +kernel⟩⟩

theorem witness_MaintenanceActivities :
    (∃ s : State, ((Instr.requestVaultCompact .hpa, Requester.reg .hpa, 11) : Instr × Requester × Nat) ∈ [(Instr.requestSensCalP (.hpa :
      Initiator), Requester.reg (.hpa : Initiator), 1), (.requestSensCalG (.hpa : Initiator), .reg (.hpa : Initiator), 2),
      (.requestWcmpTest (.hpa : Initiator), .reg (.hpa : Initiator), 3), (.requestIvTrace (.hpa : Initiator) (0 : Fin 4), .reg (.hpa :
      Initiator), 4 + (0 : Fin 4).val), (.requestIsoCheck (.hpa : Initiator), .reg (.hpa : Initiator), 8), (.requestRelayCheck (.hpa :
      Initiator), .reg (.hpa : Initiator), 9), (.requestMramProgram none, .staging, 10), (.requestMramProgram (some (.hpa : Initiator)),
      .reg (.hpa : Initiator), 10), (.requestVaultCompact (.hpa : Initiator), .reg (.hpa : Initiator), 11), (.requestBistPeriodic (.hpa :
      Initiator), .reg (.hpa : Initiator), 12)] ∧ s.maintAhead s.epoch ((Instr.requestVaultCompact .hpa, Requester.reg .hpa, 11) : Instr ×
      Requester × Nat).2.2 = [] ∧ s.diag.reqAt = some s.epoch ∧ ((Instr.requestVaultCompact .hpa, Requester.reg .hpa, 11) : Instr ×
      Requester × Nat).2.2 ∈ s.diag.reqs) ∧
    (∃ s : State, ((Instr.requestVaultCompact .hpa, Requester.reg .hpa, 11) : Instr × Requester × Nat) ∈ [(Instr.requestSensCalP (.hpa :
      Initiator), Requester.reg (.hpa : Initiator), 1), (.requestSensCalG (.hpa : Initiator), .reg (.hpa : Initiator), 2),
      (.requestWcmpTest (.hpa : Initiator), .reg (.hpa : Initiator), 3), (.requestIvTrace (.hpa : Initiator) (0 : Fin 4), .reg (.hpa :
      Initiator), 4 + (0 : Fin 4).val), (.requestIsoCheck (.hpa : Initiator), .reg (.hpa : Initiator), 8), (.requestRelayCheck (.hpa :
      Initiator), .reg (.hpa : Initiator), 9), (.requestMramProgram none, .staging, 10), (.requestMramProgram (some (.hpa : Initiator)),
      .reg (.hpa : Initiator), 10), (.requestVaultCompact (.hpa : Initiator), .reg (.hpa : Initiator), 11), (.requestBistPeriodic (.hpa :
      Initiator), .reg (.hpa : Initiator), 12)] ∧ s.maintFirst ((Instr.requestVaultCompact .hpa, Requester.reg .hpa, 11) : Instr ×
      Requester × Nat).2.2 ∧ s.maintRefusal ((Instr.requestVaultCompact .hpa, Requester.reg .hpa, 11) : Instr × Requester × Nat).2.1
      ((Instr.requestVaultCompact .hpa, Requester.reg .hpa, 11) : Instr × Requester × Nat).2.2 = some ((2 : Nat), (0 : Nat))) ∧
    (∃ s : State, ((Instr.requestVaultCompact .hpa, Requester.reg .hpa, 11) : Instr × Requester × Nat) ∈ [(Instr.requestSensCalP (.hpa :
      Initiator), Requester.reg (.hpa : Initiator), 1), (.requestSensCalG (.hpa : Initiator), .reg (.hpa : Initiator), 2),
      (.requestWcmpTest (.hpa : Initiator), .reg (.hpa : Initiator), 3), (.requestIvTrace (.hpa : Initiator) (0 : Fin 4), .reg (.hpa :
      Initiator), 4 + (0 : Fin 4).val), (.requestIsoCheck (.hpa : Initiator), .reg (.hpa : Initiator), 8), (.requestRelayCheck (.hpa :
      Initiator), .reg (.hpa : Initiator), 9), (.requestMramProgram none, .staging, 10), (.requestMramProgram (some (.hpa : Initiator)),
      .reg (.hpa : Initiator), 10), (.requestVaultCompact (.hpa : Initiator), .reg (.hpa : Initiator), 11), (.requestBistPeriodic (.hpa :
      Initiator), .reg (.hpa : Initiator), 12)] ∧ s.maintFirst ((Instr.requestVaultCompact .hpa, Requester.reg .hpa, 11) : Instr ×
      Requester × Nat).2.2 ∧ s.startingUp = false ∧ mayRequest ((Instr.requestVaultCompact .hpa, Requester.reg .hpa, 11) : Instr ×
      Requester × Nat).2.1 ((Instr.requestVaultCompact .hpa, Requester.reg .hpa, 11) : Instr × Requester × Nat).2.2 = true ∧
      s.maintDisabled ((Instr.requestVaultCompact .hpa, Requester.reg .hpa, 11) : Instr × Requester × Nat).2.2 = false ∧ s.conflictOf
      ((Instr.requestVaultCompact .hpa, Requester.reg .hpa, 11) : Instr × Requester × Nat).2.2 = none ∧ s.maintAble
      ((Instr.requestVaultCompact .hpa, Requester.reg .hpa, 11) : Instr × Requester × Nat).2.2 = true) ∧
    (∃ s : State, 40000000 * s.diag.bistNext ≤ s.epoch ∧ (s.diag.reqAt = some s.epoch → 12 ∉ s.diag.reqs) ∧ s.maintRefusal .device 12 =
      none) ∧
    (∃ s : State, 40000000 * s.diag.bistNext ≤ s.epoch ∧ (s.diag.reqAt = some s.epoch → 12 ∉ s.diag.reqs) ∧ (s.maintRefusal .device
      12).isSome = true) ∧
    (∃ s : State, s.epoch < 40000000 * s.diag.bistNext) ∧
    (∃ s : State, s.maintRuns Act.bist = true ∧ (true : Bool) = true) ∧
    (∃ s : State, s.maintRuns Act.bist = true ∧ (false : Bool) = false) ∧
    (∃ s : State, s.maintRuns Act.bist = false) ∧
    (∃ s : State, 3 ≤ (3 : Fin 12).val ∧ bitOf (8 : Word).toNat (3 : Fin 12) = true ∧ s.maintRuns (3 : Fin 12) = true ∧ s.maintOver (3 :
      Fin 12) = true) ∧
    (∃ s : State, bitOf (2 : Word).toNat (1 + (0 : Fin 2)) = true ∧ s.maintRuns (1 + (0 : Fin 2)) = true ∧ s.mono < (s.sens.side.get (0 :
      Fin 2)).calStart + 1360000) ∧
    (∃ s : State, bitOf (2 : Word).toNat (1 + (0 : Fin 2)) = true ∧ s.maintRuns (1 + (0 : Fin 2)) = true ∧ (s.sens.side.get (0 : Fin
      2)).calStart + 1360000 ≤ s.mono) ∧
    (∃ s : State, 3 ≤ (3 : Fin 12).val ∧ bitOf (8 : Word).toNat (3 : Fin 12) = true ∧ s.maintRuns (3 : Fin 12) = true ∧ s.maintOver (3 :
      Fin 12) = false) ∧
    (bitOf (0#32 : Word).toNat (0 : Fin 13) = false) ∧
    (∃ s : State, (∀ c : Fin 12, bitOf (0#32 : Word).toNat c = true → s.maintRuns c = false)) :=
  ⟨
    ⟨{ up with diag := { up.diag with bistNext := 30000, reqAt := some 1024000000000, reqs := [11] } }, by decide +kernel⟩,
    ⟨{ up.put F.SYS_START_DONE 0 with diag := { up.diag with bistNext := 30000 } }, ⟨by decide +kernel, ⟨by decide +kernel,
      by decide +kernel⟩, by decide +kernel⟩⟩,
    ⟨{ up.put F.METER_STATUS_VAULT_READY 1 with diag := { up.diag with bistNext := 30000 } }, ⟨by decide +kernel, ⟨by decide +kernel,
      by decide +kernel⟩, by decide +kernel, by decide +kernel, by decide +kernel, by decide +kernel, by decide +kernel⟩⟩,
    ⟨(up.withSec Sec.power 0 (placed 64 [(8, 1, 1)])), by decide +kernel⟩,
    ⟨up, by decide +kernel⟩,
    ⟨{ up with diag := { up.diag with bistNext := 1000000 } }, by decide +kernel⟩,
    ⟨(up.put ⟨R.DIAG_MAINT_RUN, 12, 1⟩ 1), by decide +kernel⟩,
    ⟨(up.put ⟨R.DIAG_MAINT_RUN, 12, 1⟩ 1), by decide +kernel⟩,
    ⟨up, by decide +kernel⟩,
    ⟨(((up.put ⟨R.DIAG_MAINT_RUN, 3, 1⟩ 1).modWc 23 fun w => { w with testStep := 5 }) |> fun s =>
      { s with wcmp := { s.wcmp with queue := [23] } }), by decide +kernel⟩,
    ⟨{ (up.puts [(⟨R.DIAG_MAINT_RUN, 1, 1⟩, 1)]) with epoch := 0 }, by decide +kernel⟩,
    ⟨(up.puts [(⟨R.DIAG_MAINT_RUN, 1, 1⟩, 1)]), by decide +kernel⟩,
    ⟨((fun (s : State) => s.put ⟨R.DIAG_MAINT_RUN, 3, 1⟩ 1) (up.puts [(⟨R.DIAG_MAINT_RUN, 3, 1⟩, 1)])), by decide +kernel⟩,
    by decide +kernel,
    ⟨up, by decide +kernel⟩⟩

theorem witness_CuratorReactions :
    (∃ s : State, s.raised = (default : Raise) :: (default : List Raise) ∧ (default : Raise).src < 192 ∧ s.flag F.CUR_FIRST_VALID = false) ∧
    (∃ s : State, s.raised = (default : Raise) :: (default : List Raise) ∧ (default : Raise).src < 192 ∧ s.flag F.CUR_FIRST_VALID = true) ∧
    (∃ s : State, s.raised = (default : Raise) :: (default : List Raise) ∧ (default : Raise).src < 192 ∧ (s.flag F.CUR_STATUS_SAFE = true
      ∨ s.severity (default : Raise).src = 1)) ∧
    (∃ s : State, s.raised = ((⟨68, 0⟩ : Raise) : Raise) :: ([] : List Raise) ∧ ((⟨68, 0⟩ : Raise) : Raise).src < 192 ∧ s.flag
      F.CUR_STATUS_SAFE = false ∧ s.severity ((⟨68, 0⟩ : Raise) : Raise).src = 4 ∧ s.pwmState (0 : Fin 14) ≠ 3) ∧
    (∃ s : State, s.raised = ((⟨68, 0⟩ : Raise) : Raise) :: ([] : List Raise) ∧ ((⟨68, 0⟩ : Raise) : Raise).src < 192 ∧ s.flag
      F.CUR_STATUS_SAFE = false ∧ s.severity ((⟨68, 0⟩ : Raise) : Raise).src = 4) ∧
    (∃ s : State, s.raised = ((⟨68, 0⟩ : Raise) : Raise) :: ([] : List Raise) ∧ ((⟨68, 0⟩ : Raise) : Raise).src < 192 ∧ s.flag
      F.CUR_STATUS_SAFE = false ∧ s.severity ((⟨68, 0⟩ : Raise) : Raise).src = 4 ∧ s.lpState (0 : Fin 6) ≠ 0) ∧
    (∃ s : State, s.raised = ((⟨68, 0⟩ : Raise) : Raise) :: ([] : List Raise) ∧ ((⟨68, 0⟩ : Raise) : Raise).src < 192 ∧ s.flag
      F.CUR_STATUS_SAFE = false ∧ s.severity ((⟨68, 0⟩ : Raise) : Raise).src = 2 ∧ curTarget ((⟨68, 0⟩ : Raise) : Raise).src = .unit (0 :
      Fin 14) ∧ s.flag (F.CUR_UNIT_CAUSE_VALID (0 : Fin 14)) = false) ∧
    (∃ s : State, s.raised = ((⟨68, 0⟩ : Raise) : Raise) :: ([] : List Raise) ∧ ((⟨68, 0⟩ : Raise) : Raise).src < 192 ∧ s.flag
      F.CUR_STATUS_SAFE = false ∧ s.severity ((⟨68, 0⟩ : Raise) : Raise).src = 2 ∧ curTarget ((⟨68, 0⟩ : Raise) : Raise).src = .unit (0 :
      Fin 14) ∧ (0 : Fin 14).val < 8 ∧ s.pwmState (0 : Fin 14) ≠ 3) ∧
    (∃ s : State, s.raised = ((⟨76, 0⟩ : Raise) : Raise) :: ([] : List Raise) ∧ ((⟨76, 0⟩ : Raise) : Raise).src < 192 ∧ s.flag
      F.CUR_STATUS_SAFE = false ∧ s.severity ((⟨76, 0⟩ : Raise) : Raise).src = 2 ∧ curTarget ((⟨76, 0⟩ : Raise) : Raise).src = .unit (8 :
      Fin 14) ∧ 8 ≤ (8 : Fin 14).val ∧ s.flag (F.LANE_CFG_USED ((8 : Fin 14) - 8)) = true) ∧
    (∃ s : State, s.raised = ((⟨32, 0⟩ : Raise) : Raise) :: ([] : List Raise) ∧ ((⟨32, 0⟩ : Raise) : Raise).src < 192 ∧ s.flag
      F.CUR_STATUS_SAFE = false ∧ s.severity ((⟨32, 0⟩ : Raise) : Raise).src = 2 ∧ curTarget ((⟨32, 0⟩ : Raise) : Raise).src = .pair (0 :
      Fin 6) ∧ s.lpState (0 : Fin 6) ≠ 0) ∧
    (∃ s : State, s.raised = ((⟨32, 0⟩ : Raise) : Raise) :: ([] : List Raise) ∧ ((⟨32, 0⟩ : Raise) : Raise).src < 192 ∧ s.flag
      F.CUR_STATUS_SAFE = false ∧ s.severity ((⟨32, 0⟩ : Raise) : Raise).src = 2 ∧ curTarget ((⟨32, 0⟩ : Raise) : Raise).src = .pair (0 :
      Fin 6) ∧ bitOf (s.get (F.LP_CFG_COMMIT_MASK (0 : Fin 6))) (0 : Fin 14) = true) ∧
    (∃ s : State, s.raised = ((⟨164, 0⟩ : Raise) : Raise) :: ([] : List Raise) ∧ ((⟨164, 0⟩ : Raise) : Raise).src < 192 ∧ s.flag
      F.CUR_STATUS_SAFE = false ∧ s.severity ((⟨164, 0⟩ : Raise) : Raise).src = 2 ∧ curTarget ((⟨164, 0⟩ : Raise) : Raise).src = .sp) ∧
    (∃ s : State, s.raised = ((⟨164, 0⟩ : Raise) : Raise) :: ([] : List Raise) ∧ ((⟨164, 0⟩ : Raise) : Raise).src < 192 ∧ s.flag
      F.CUR_STATUS_SAFE = false ∧ s.severity ((⟨164, 0⟩ : Raise) : Raise).src = 2 ∧ curTarget ((⟨164, 0⟩ : Raise) : Raise).src = .sp) ∧
    (∃ s : State, s.raised = ((⟨184, 0⟩ : Raise) : Raise) :: ([] : List Raise) ∧ ((⟨184, 0⟩ : Raise) : Raise).src < 192 ∧ s.flag
      F.CUR_STATUS_SAFE = false ∧ s.severity ((⟨184, 0⟩ : Raise) : Raise).src = 2 ∧ curTarget ((⟨184, 0⟩ : Raise) : Raise).src = .plc) :=
  ⟨
    ⟨((fun (s : State) => { s with raised := (default :: default) }) (up.puts [(F.CUR_FIRST_VALID, 0)])), by decide +kernel⟩,
    ⟨((fun (s : State) => { s with raised := (default :: default) }) (up.puts [(F.CUR_FIRST_VALID, 1)])), by decide +kernel⟩,
    ⟨((fun (s : State) => { s with raised := (default :: default) }) (up.puts [(F.CUR_STATUS_SAFE, 1)])), by decide +kernel⟩,
    ⟨{ up.puts [(F.CUR_SEV_SEV 68, 4)] with raised := [⟨68, 0⟩] }, by decide +kernel⟩,
    ⟨{ up.puts [(F.CUR_SEV_SEV 68, 4)] with raised := [⟨68, 0⟩] }, by decide +kernel⟩,
    ⟨((fun (s : State) => { s.puts [(F.CUR_SEV_SEV 68, 4), (F.LP_STATUS_STATE 0, 1)] with raised := [⟨68, 0⟩] }) ((fun (s : State) =>
      { s with raised := ((⟨68, 0⟩ : Raise) :: []) }) (up.puts [(F.CUR_STATUS_SAFE, 0)]))), by decide +kernel⟩,
    ⟨((fun (s : State) => { s.puts [(F.CUR_SEV_SEV 68, 2)] with raised := [⟨68, 0⟩] }) ((fun (s : State) =>
      { s with raised := ((⟨68, 0⟩ : Raise) :: []) }) (up.puts [(F.CUR_STATUS_SAFE, 0), ((F.CUR_UNIT_CAUSE_VALID 0), 0)]))),
      by decide +kernel⟩,
    ⟨((fun (s : State) => { s.puts [(F.CUR_SEV_SEV 68, 2)] with raised := [⟨68, 0⟩] }) ((fun (s : State) =>
      { s with raised := ((⟨68, 0⟩ : Raise) :: []) }) (up.puts [(F.CUR_STATUS_SAFE, 0)]))), by decide +kernel⟩,
    ⟨((fun (s : State) => { s.puts [(F.CUR_SEV_SEV 76, 2), (F.LANE_CFG_USED 0, 1)] with raised := [⟨76, 0⟩] }) ((fun (s : State) =>
      { s with raised := ((⟨76, 0⟩ : Raise) :: []) }) (up.puts [(F.CUR_STATUS_SAFE, 0), ((F.LANE_CFG_USED (8 - 8)), 1)]))),
      by decide +kernel⟩,
    ⟨((fun (s : State) => { s.puts [(F.CUR_SEV_SEV 32, 2), (F.LP_STATUS_STATE 0, 1)] with raised := [⟨32, 0⟩] }) ((fun (s : State) =>
      { s with raised := ((⟨32, 0⟩ : Raise) :: []) }) (up.puts [(F.CUR_STATUS_SAFE, 0)]))), by decide +kernel⟩,
    ⟨((fun (s : State) => { s.puts [(F.CUR_SEV_SEV 32, 2), (F.LP_CFG_COMMIT_MASK 0, 1)] with raised := [⟨32, 0⟩] }) ((fun (s : State) =>
      { s with raised := ((⟨32, 0⟩ : Raise) :: []) }) (up.puts [(F.CUR_STATUS_SAFE, 0)]))), by decide +kernel⟩,
    ⟨((fun (s : State) => { s.puts [(F.CUR_SEV_SEV 164, 2)] with raised := [⟨164, 0⟩] }) ((fun (s : State) =>
      { s with raised := ((⟨164, 0⟩ : Raise) :: []) }) (up.puts [(F.CUR_STATUS_SAFE, 0)]))), by decide +kernel⟩,
    ⟨((fun (s : State) => { s.puts [(F.CUR_SEV_SEV 164, 2)] with raised := [⟨164, 0⟩] }) ((fun (s : State) =>
      { s with raised := ((⟨164, 0⟩ : Raise) :: []) }) (up.puts [(F.CUR_STATUS_SAFE, 0)]))), by decide +kernel⟩,
    ⟨((fun (s : State) => { s.puts [(F.CUR_SEV_SEV 184, 2)] with raised := [⟨184, 0⟩] }) ((fun (s : State) =>
      { s with raised := ((⟨184, 0⟩ : Raise) :: []) }) (up.puts [(F.CUR_STATUS_SAFE, 0)]))), by decide +kernel⟩⟩

theorem witness_CuratorWritesAndChecks :
    (∃ s : State, (∀ j : Fin 4, (bitsOf (s.rd (R.CUR_SEV 0) : Word).toNat (8 * j) 3 = s.severity (4 * (0 : Fin 48) + j) ∧ s.adjust
      (F.CUR_SEV_SEV (4 * (0 : Fin 48) + j)) (bitsOf (s.rd (R.CUR_SEV 0) : Word).toNat (8 * j) 3) = .uncovered) ∨ (s.adjust (F.CUR_SEV_SEV
      (4 * (0 : Fin 48) + j)) (bitsOf (s.rd (R.CUR_SEV 0) : Word).toNat (8 * j) 3) = .ok ∧ sevAllowed (4 * (0 : Fin 48) + j) (bitsOf (s.rd
      (R.CUR_SEV 0) : Word).toNat (8 * j) 3) = true ∧ s.sevFloor (4 * (0 : Fin 48) + j) ≤ bitsOf (s.rd (R.CUR_SEV 0) : Word).toNat (8 * j)
      3))) ∧
    (∃ s : State, (s.adjust (F.CUR_SEV_SEV (4 * (0 : Fin 48) + (0 : Fin 4))) (bitsOf (7 : Word).toNat (8 * (0 : Fin 4)) 3) = .outside ∨
      (s.adjust (F.CUR_SEV_SEV (4 * (0 : Fin 48) + (0 : Fin 4))) (bitsOf (7 : Word).toNat (8 * (0 : Fin 4)) 3) = .ok ∧ (sevAllowed (4 * (0
      : Fin 48) + (0 : Fin 4)) (bitsOf (7 : Word).toNat (8 * (0 : Fin 4)) 3) = false ∨ bitsOf (7 : Word).toNat (8 * (0 : Fin 4)) 3 <
      s.sevFloor (4 * (0 : Fin 48) + (0 : Fin 4)))))) ∧
    (∃ s : State, unfenceKey (bitsOf (0xF3C50101 : Word).toNat 8 8) (bitsOf (0xF3C50101 : Word).toNat 0 8) = some (1) ∧ bitsOf (0xF3C50101
      : Word).toNat 16 16 = 0xF3C5 ∧ s.unfenceOk (1) = true ∧ (0 : Fin 14).val ∉ s.keyUnits (1)) ∧
    (∃ s : State, ((.hpb : Initiator) ≠ .hpa ∨ bitsOf (0#32 : Word).toNat 16 16 ≠ 0xF3C5 ∨ s.flag F.CUR_STATUS_SAFE = true ∨ unfenceKey
      (bitsOf (0#32 : Word).toNat 8 8) (bitsOf (0#32 : Word).toNat 0 8) = none ∨ (∃ k, unfenceKey (bitsOf (0#32 : Word).toNat 8 8) (bitsOf
      (0#32 : Word).toNat 0 8) = some k ∧ s.unfenceOk k = false))) ∧
    (∃ s : State, s.pins.testMode = true ∧ s.get F.SV_INFO_PERMIT = 3 ∧ (default : Byte).toNat < 192) ∧
    (∃ s : State, s.pins.testMode = true ∧ s.get F.SV_INFO_PERMIT = 3 ∧ (default : Byte).toNat < 192) ∧
    (∃ s : State, (s.pins.testMode = false ∨ s.get F.SV_INFO_PERMIT ≠ 3)) ∧
    (∃ s : State, s.pdOn 9 = true ∧ s.cur.gateBad.get (0 : Fin 8) = 0 ∧ ((default) = s.flag (F.DRV_HB_STATUS_HO (0 : Fin 8)) ∧ (default) =
      s.flag (F.DRV_HB_STATUS_LO (0 : Fin 8)))) ∧
    (∃ s : State, s.pdOn 9 = true ∧ s.cur.gateBad.get (0 : Fin 8) = 0 ∧ ((true : Bool) ≠ s.flag (F.DRV_HB_STATUS_HO (0 : Fin 8)) ∨ (false
      : Bool) ≠ s.flag (F.DRV_HB_STATUS_LO (0 : Fin 8)))) ∧
    (∃ s : State, s.pdOn 9 = true ∧ s.cur.gateBad.get (0 : Fin 8) = 3) ∧
    (∃ s : State, s.pdOn 10 = true) ∧
    (∃ s : State, s.pdOn 1 = true) ∧
    (∃ s : State, s.pdOn 1 = true ∧ (s.ecc.filter fun e => s.scrubs (false : Bool) e.1) = []) ∧
    (∃ s : State, s.pdOn 1 = true ∧ (s.ecc.filter fun e => s.scrubs (false : Bool) e.1) ≠ []) ∧
    (∃ s : State, s.pdOn 1 = true ∧ (0 : Fin 4).val < 2) ∧
    (∃ s : State, s.pdOn 1 = true ∧ s.pdOn 10 = true) ∧
    (∃ s : State, s.pdOn 1 = true ∧ s.pdOn 10 = false) ∧
    (∃ s : State, s.pdOn 1 = true) :=
  ⟨
    ⟨up, by decide +kernel⟩,
    ⟨(up.adjusts [F.CUR_SEV_SEV 0]), by decide +kernel⟩,
    ⟨({ up with cur := { up.cur with fences := [(1, [68])] } }), by decide +kernel⟩,
    ⟨up, by decide +kernel⟩,
    ⟨((fun (s : State) => { s with pins := { s.pins with testMode := (true) } }) (up.puts [(F.SV_INFO_PERMIT, 3)])), by decide +kernel⟩,
    ⟨((fun (s : State) => { s with pins := { s.pins with testMode := (true) } }) (up.puts [(F.SV_INFO_PERMIT, 3)])), by decide +kernel⟩,
    ⟨((fun (s : State) => { s with pins := { s.pins with testMode := (false) } }) up), by decide +kernel⟩,
    ⟨((fun (s : State) => { s with cur := { s.cur with gateBad := s.cur.gateBad.set (0) (0) } }) (up.puts
      [(⟨F.SYS_PD_STATUS_DOMAIN_ON.addr, 9, 1⟩, 1)])), by decide +kernel⟩,
    ⟨((fun (s : State) => { s with cur := { s.cur with gateBad := s.cur.gateBad.set (0) (0) } }) (up.puts
      [(⟨F.SYS_PD_STATUS_DOMAIN_ON.addr, 9, 1⟩, 1)])), by decide +kernel⟩,
    ⟨((fun (s : State) => { s with cur := { s.cur with gateBad := s.cur.gateBad.set (0) (3) } }) (up.puts
      [(⟨F.SYS_PD_STATUS_DOMAIN_ON.addr, 9, 1⟩, 1)])), by decide +kernel⟩,
    ⟨(up.puts [(⟨F.SYS_PD_STATUS_DOMAIN_ON.addr, 10, 1⟩, 1)]), by decide +kernel⟩,
    ⟨(up.puts [(⟨F.SYS_PD_STATUS_DOMAIN_ON.addr, 1, 1⟩, 1)]), by decide +kernel⟩,
    ⟨(up.puts [(⟨F.SYS_PD_STATUS_DOMAIN_ON.addr, 1, 1⟩, 1)]), by decide +kernel⟩,
    ⟨{ up with ecc := [(0x20000000, true)] }, by decide +kernel⟩,
    ⟨(up.puts [(⟨F.SYS_PD_STATUS_DOMAIN_ON.addr, 1, 1⟩, 1)]), by decide +kernel⟩,
    ⟨(up.puts [(⟨F.SYS_PD_STATUS_DOMAIN_ON.addr, 1, 1⟩, 1), (⟨F.SYS_PD_STATUS_DOMAIN_ON.addr, 10, 1⟩, 1)]), by decide +kernel⟩,
    ⟨(up.puts [(⟨F.SYS_PD_STATUS_DOMAIN_ON.addr, 1, 1⟩, 1), (⟨F.SYS_PD_STATUS_DOMAIN_ON.addr, 10, 1⟩, 0)]), by decide +kernel⟩,
    ⟨(up.puts [(⟨F.SYS_PD_STATUS_DOMAIN_ON.addr, 1, 1⟩, 1)]), by decide +kernel⟩⟩

theorem witness_WardenDemandsPulsesResetAndPermit :
    (∃ s : State, s.flag (wdRawF (0 : Fin 3) (false : Bool)) = !(true : Bool)) ∧
    (∃ s : State, s.flag (wdRawF (0 : Fin 3) (default)) = (default)) ∧
    (∃ s : State, s.wdFilterDue (0 : Fin 3) (false : Bool) = true ∧ (0 : Fin 3).val < 2) ∧
    (∃ s : State, s.wdFilterDue (2 : Fin 3) (false : Bool) = true ∧ (2 : Fin 3).val = 2) ∧
    (∃ s : State, s.wdFilterDue (0 : Fin 3) (default) = false) ∧
    (∃ s : State, (if (0 : Fin 3).val < 2 then s.wdInconsistent (0 : Fin 3) else s.wdRelayWrong 0 || s.wdRelayWrong 1) = true ∧
      s.wdFaulted (0 : Fin 3) = false) ∧
    (∃ s : State, (if (0 : Fin 3).val < 2 then s.wdInconsistent (0 : Fin 3) else s.wdRelayWrong 0 || s.wdRelayWrong 1) = true ∧
      s.wdFaulted (0 : Fin 3) = true) ∧
    (∃ s : State, tpSlot s.epoch (false : Bool) = some (1024000000000) ∧ (s.warden.tp.get (b2n (false : Bool))).win = false ∧
      (s.warden.tp.get (b2n (false : Bool))).next ≤ s.monoOf (1024000000000) ∧ s.warden.from_ ≤ s.monoOf (1024000000000)) ∧
    (∃ s : State, tpSlot s.epoch (true : Bool) = none) ∧
    (∃ s : State, (s.warden.tp.get (b2n (false : Bool))).win = true ∧ (s.warden.tp.get (b2n (false : Bool))).start + 160000 ≤ s.mono ∧
      bitOf (s.warden.tp.get (b2n (false : Bool))).elig (0 : Fin 2) = true ∧ s.flag (wdRawF (0 : Fin 2) (false : Bool)) = true ∧
      s.wdFaulted (0 : Fin 2) = false) ∧
    (∃ s : State, (s.warden.tp.get (b2n (false : Bool))).win = true ∧ (s.warden.tp.get (b2n (false : Bool))).start + 160000 ≤ s.mono ∧ (∀
      i : Fin 2, bitOf (s.warden.tp.get (b2n (false : Bool))).elig i = true → s.flag (wdRawF i (false : Bool)) = false)) ∧
    (∃ s : State, (s.warden.tp.get (b2n (false : Bool))).win = true ∧ (s.warden.tp.get (b2n (false : Bool))).start + 320000 ≤ s.mono ∧
      bitOf (s.warden.tp.get (b2n (false : Bool))).partner (0 : Fin 2) = true ∧ s.flag (wdRawF (0 : Fin 2) (!(false : Bool))) = true) ∧
    (∃ s : State, (s.warden.tp.get (b2n (false : Bool))).win = false) ∧
    (∃ s : State, s.wdResetOk .hpa (0xC3A50000#32 : Word) = true) ∧
    (∃ s : State, ((.hpb : Initiator) ≠ .hpa ∨ bitsOf (0#32 : Word).toNat 16 16 ≠ 0xC3A5 ∨ s.flag F.WARDEN_STATUS_REACTION = false ∨
      s.wdDemand 0 = true ∨ s.wdDemand 1 = true ∨ s.wdFaulted 0 = true ∨ s.wdFaulted 1 = true ∨ s.wdFaulted 2 = true ∨ s.flag
      F.CUR_STATUS_SAFE = true)) ∧
    (∃ s : State, 1 ≤ (1 : BitVec 10).toNat ∧ (1 : BitVec 10).toNat ≤ 600 ∧ s.wdPermitOk = true) ∧
    (∃ s : State, ((.hpb : Initiator) ≠ .hpa ∨ s.wdPermitOk = false ∨ (0 : BitVec 10).toNat = 0 ∨ 600 < (0 : BitVec 10).toNat)) ∧
    (∃ s : State, s.flag F.WARDEN_STATUS_PERMIT = true) ∧
    (∃ s : State, s.flag F.WARDEN_STATUS_PERMIT = true ∧ s.warden.permitTo ≤ s.mono) ∧
    (∃ s : State, (s.flag F.WARDEN_STATUS_PERMIT = false ∨ s.mono < s.warden.permitTo)) :=
  ⟨
    ⟨up, by decide +kernel⟩,
    ⟨up, by decide +kernel⟩,
    ⟨((up.put (F.WARDEN_CFG_USE 0) 1).modWdCh 0 false fun c => { c with since := some 0 }), by decide +kernel⟩,
    ⟨((up.put (F.WARDEN_CFG_USE 2) 1).modWdCh 2 false fun c => { c with since := some 0 }), by decide +kernel⟩,
    ⟨up, by decide +kernel⟩,
    ⟨(up.puts [(F.WARDEN_CFG_USE 0, 1), (F.WARDEN_LEVEL_FILT_A 0, 1)]), by decide +kernel⟩,
    ⟨(up.puts [(F.WARDEN_CFG_USE 0, 1), (F.WARDEN_LEVEL_FILT_A 0, 1), (F.WARDEN_LEVEL_STATE 0, 3)]), by decide +kernel⟩,
    ⟨((fun (s : State) =>
      { s with warden := { s.warden with tp := s.warden.tp.modify ((b2n false)) (fun y0 => { y0 with win := (false) }) } }) up),
      by decide +kernel⟩,
    ⟨{ up with epoch := 0 }, by decide +kernel⟩,
    ⟨((fun (s : State) => (s.put (wdRawF 0 false) 1 |> fun s => { s with warden := { s.warden with tp := [(0, ⟨1, 0, true, 1, 0⟩)] } }))
      ((fun (s : State) =>
      { s with warden := { s.warden with tp := s.warden.tp.modify ((b2n false)) (fun y0 => { y0 with win := (true) }) } }) (up.puts
      [((wdRawF 0 false), 1)]))), by decide +kernel⟩,
    ⟨((fun (s : State) =>
      { s with warden := { s.warden with tp := s.warden.tp.modify ((b2n false)) (fun y0 => { y0 with win := (true) }) } }) up),
      by decide +kernel⟩,
    ⟨((fun (s : State) => (s.put (wdRawF 0 true) 1 |> fun s => { s with warden := { s.warden with tp := [(0, ⟨1, 0, true, 0, 1⟩)] } }))
      ((fun (s : State) =>
      { s with warden := { s.warden with tp := s.warden.tp.modify ((b2n false)) (fun y0 => { y0 with win := (true) }) } }) (up.puts
      [((wdRawF 0 (!false)), 1)]))), by decide +kernel⟩,
    ⟨((fun (s : State) =>
      { s with warden := { s.warden with tp := s.warden.tp.modify ((b2n false)) (fun y0 => { y0 with win := (false) }) } }) up),
      by decide +kernel⟩,
    ⟨(up.put F.WARDEN_STATUS_REACTION 1), by decide +kernel⟩,
    ⟨up, by decide +kernel⟩,
    ⟨(up.puts [(F.WARDEN_CFG_USE 0, 1), (F.WARDEN_CFG_USE 1, 1), (F.WARDEN_LEVEL_STATE 0, 1), (F.WARDEN_LEVEL_STATE 1, 1)]),
      by decide +kernel⟩,
    ⟨up, by decide +kernel⟩,
    ⟨(up.puts [(F.WARDEN_STATUS_PERMIT, 1)]), by decide +kernel⟩,
    ⟨(up.puts [(F.WARDEN_STATUS_PERMIT, 1)]), by decide +kernel⟩,
    ⟨(up.puts [(F.WARDEN_STATUS_PERMIT, 0)]), by decide +kernel⟩⟩

theorem witness_FixedPointInstructions :
    (∃ s : State, s.hokGo (0 : Fin 2) = true ∧ ((Instr.hqSadd 0 0 0 0, 0, -2 ^ 31, 2 ^ 31 - 1) : Instr × Int × Int × Int) ∈ [(Instr.hqSadd
      (0 : Fin 2) (0 : Fin 32) (0 : Fin 32) (0 : Fin 32), (s.xr (0 : Fin 2) (0 : Fin 32)).toInt + (s.xr (0 : Fin 2) (0 : Fin 32)).toInt,
      -2 ^ 31, 2 ^ 31 - 1), (.hqSsub (0 : Fin 2) (0 : Fin 32) (0 : Fin 32) (0 : Fin 32), (s.xr (0 : Fin 2) (0 : Fin 32)).toInt - (s.xr (0
      : Fin 2) (0 : Fin 32)).toInt, -2 ^ 31, 2 ^ 31 - 1), (.hqSabs (0 : Fin 2) (0 : Fin 32) (0 : Fin 32), ((s.xr (0 : Fin 2) (0 : Fin
      32)).toInt.natAbs : Int), -2 ^ 31, 2 ^ 31 - 1), (.hqMulq (0 : Fin 2) (0 : Fin 32) (0 : Fin 32) (0 : Fin 32), (2 * ((s.xr (0 : Fin 2)
      (0 : Fin 32)).toInt * (s.xr (0 : Fin 2) (0 : Fin 32)).toInt) + 2 ^ 31) / 2 ^ 32, -2 ^ 31, 2 ^ 31 - 1), (.hqMacq (0 : Fin 2) (0 : Fin
      32) (0 : Fin 32) (0 : Fin 32), (s.xr (0 : Fin 2) (0 : Fin 32)).toInt + (2 * ((s.xr (0 : Fin 2) (0 : Fin 32)).toInt * (s.xr (0 : Fin
      2) (0 : Fin 32)).toInt) + 2 ^ 31) / 2 ^ 32, -2 ^ 31, 2 ^ 31 - 1), (.hqSshl (0 : Fin 2) (0 : Fin 32) (0 : Fin 32) (0 : Fin 32), (s.xr
      (0 : Fin 2) (0 : Fin 32)).toInt * 2 ^ ((s.xr (0 : Fin 2) (0 : Fin 32)).toNat % 32), -2 ^ 31, 2 ^ 31 - 1), (.hqSrar (0 : Fin 2) (0 :
      Fin 32) (0 : Fin 32) (0 : Fin 32), roundDiv (s.xr (0 : Fin 2) (0 : Fin 32)).toInt (2 ^ ((s.xr (0 : Fin 2) (0 : Fin 32)).toNat %
      32)), -2 ^ 31, 2 ^ 31 - 1), (.hqSat (0 : Fin 2) (0 : Fin 32) (0 : Fin 32) (0 : Fin 32), (s.xr (0 : Fin 2) (0 : Fin 32)).toInt, -2 ^
      (0 : Fin 32).val, 2 ^ (0 : Fin 32).val - 1)]) :=
    ⟨up, by decide +kernel⟩

theorem witness_HokuonInstructions :
    (∃ s : State, ∃ u ev, s.hokGo 0 = true ∧ (s.modHok 0 fun h => { h with wfi := false }).hokFetch 0 = .ok u 0x00500093 4 ev ∧ 0x00500093
      % 128 = 0x13 ∧ iF3 0x00500093 = 0 ∧ (0 : Nat) ≠ iRd 0x00500093) ∧
    (∃ s : State, ∃ u ev, s.hokGo 0 = true ∧ (s.modHok 0 fun h => { h with wfi := false }).hokFetch 0 = .ok u 0x00500093 4 ev ∧ 0x00500093
      % 128 = 0x13 ∧ iF3 0x00500093 = 0 ∧ (memHome 0 < 0x203FC000 ∨ 0x20400000 ≤ memHome 0)) ∧
    (∃ s : State, ∃ u ev, s.hokGo 0 = true ∧ (s.modHok 0 fun h => { h with wfi := false }).hokFetch 0 = .ok u 0x0020A023 4 ev ∧ 0x0020A023
      % 128 = 0x23 ∧ iF3 0x0020A023 = 2 ∧ 0x28000100 = plusI (s.xr 0 (iRs1 0x0020A023)).toNat (immS 0x0020A023) ∧ 0x28000100 % 4 = 0 ∧
      0x28000000 ≤ 0x28000100 ∧ 0x28000100 < 0x283FC000 ∧ s.pmpOk 0 0x28000100 .store (s.dataUser 0) = true ∧ (memHome 0 < 0x203FC000 ∨
      0x20400000 ≤ memHome 0) ∧ (memHome 0 < memHome 0x28000100 ∨ memHome 0x28000100 + 4 ≤ memHome 0)) ∧
    (∃ s : State, ∃ u ev, s.hokGo 0 = true ∧ (s.modHok 0 fun h => { h with wfi := false }).hokFetch 0 = .ok u 0x0000A103 4 ev ∧ 0x0000A103
      % 128 = 0x03 ∧ iF3 0x0000A103 = 2 ∧ 0x28000100 = plusI (s.xr 0 (iRs1 0x0000A103)).toNat (immI 0x0000A103) ∧ 0x28000100 % 4 = 0 ∧
      0x28000000 ≤ 0x28000100 ∧ 0x28000100 < 0x283FC000 ∧ s.pmpOk 0 0x28000100 .load (s.dataUser 0) = true ∧ (0 : Nat) ≠ iRd 0x0000A103) ∧
    (∃ s : State, ∃ u ev, s.hokGo 0 = true ∧ (s.modHok 0 fun h => { h with wfi := false }).hokFetch 0 = .ok u 0x0000A103 4 ev ∧
      (((0x0000A103 : Nat) % 128 = 0x03 ∧ iF3 0x0000A103 = 2 ∧ 0x28000100 = plusI (s.xr 0 (iRs1 0x0000A103)).toNat (immI 0x0000A103) ∧
      0x28000100 % 4 = 0 ∧ s.pmpOk 0 0x28000100 .load (s.dataUser 0) = true) ∨ ((0x0000A103 : Nat) % 128 = 0x23 ∧ iF3 0x0000A103 < 2 ∧
      0x28000100 = plusI (s.xr 0 (iRs1 0x0000A103)).toNat (immS 0x0000A103) ∧ 0x28000100 % (iF3 0x0000A103 + 1) = 0 ∧ s.pmpOk 0 0x28000100
      .store (s.dataUser 0) = true)) ∧ 0x28000000 ≤ 0x28000100 ∧ 0x28000100 < 0x283FC000 ∧ s.eccBad 0x28000100 = true ∧ (memHome 0 <
      0x203FC000 ∨ 0x20400000 ≤ memHome 0)) ∧
    (∃ s : State, ∃ u ev, s.hokGo 0 = true ∧ (s.modHok 0 fun h => { h with wfi := false }).hokFetch 0 = .ok u 0x73 4 ev ∧ True) ∧
    (∃ s : State, ∃ u, s.hokGo 0 = true ∧ (s.modHok 0 fun h => { h with wfi := false }).hokFetch 0 = .fault u 0x10000000) ∧
    (∃ s : State, ∃ u ev, s.hokGo 0 = true ∧ (s.modHok 0 fun h => { h with wfi := false }).hokFetch 0 = .ok u 0x00208023 4 ev ∧
      (((0x00208023 : Nat) % 128 = 0x03 ∧ iF3 0x00208023 = 2 ∧ 0x28000100 = plusI (s.xr 0 (iRs1 0x00208023)).toNat (immI 0x00208023) ∧
      0x28000100 % 4 = 0 ∧ s.pmpOk 0 0x28000100 .load (s.dataUser 0) = true) ∨ ((0x00208023 : Nat) % 128 = 0x23 ∧ iF3 0x00208023 < 2 ∧
      0x28000100 = plusI (s.xr 0 (iRs1 0x00208023)).toNat (immS 0x00208023) ∧ 0x28000100 % (iF3 0x00208023 + 1) = 0 ∧ s.pmpOk 0 0x28000100
      .store (s.dataUser 0) = true)) ∧ 0x28000000 ≤ 0x28000100 ∧ 0x28000100 < 0x283FC000 ∧ s.eccBad 0x28000100 = true ∧ (memHome 0 <
      0x203FC000 ∨ 0x20400000 ≤ memHome 0)) :=
  ⟨
    ⟨atInsn 0x00500093, let ⟨u, ev, h⟩ := Fetched.gave_ok _ 0x00500093 (by decide +kernel); ⟨u, ev, by decide +kernel, h, by decide +kernel⟩⟩,
    ⟨atInsn 0x00500093, let ⟨u, ev, h⟩ := Fetched.gave_ok _ 0x00500093 (by decide +kernel); ⟨u, ev, by decide +kernel, h, by decide +kernel⟩⟩,
    ⟨atInsn 0x0020A023, let ⟨u, ev, h⟩ := Fetched.gave_ok _ 0x0020A023 (by decide +kernel); ⟨u, ev, by decide +kernel, h, by decide +kernel⟩⟩,
    ⟨atInsn 0x0000A103, let ⟨u, ev, h⟩ := Fetched.gave_ok _ 0x0000A103 (by decide +kernel); ⟨u, ev, by decide +kernel, h, by decide +kernel⟩⟩,
    ⟨({ atInsn 0x0000A103 with ecc := [(0x20000100, true)] }), let ⟨u, ev, h⟩ := Fetched.gave_ok _ 0x0000A103 (by decide +kernel); ⟨u, ev, by decide +kernel, h, by decide +kernel⟩⟩,
    ⟨atInsn 0x73, let ⟨u, ev, h⟩ := Fetched.gave_ok _ 0x73 (by decide +kernel); ⟨u, ev, by decide +kernel, h, by decide +kernel⟩⟩,
    ⟨{ up with hok := [(0, { (default : Hok) with run := true, pc := 0x10000000 })] }, let ⟨u, h⟩ := Fetched.faulted_ok _ 0x10000000 (by decide +kernel); ⟨u, by decide +kernel, h⟩⟩,
    ⟨({ atInsn 0x00208023 with ecc := [(0x20000100, true)] }), let ⟨u, ev, h⟩ := Fetched.gave_ok _ 0x00208023 (by decide +kernel); ⟨u, ev, by decide +kernel, h, by decide +kernel⟩⟩⟩

theorem witness_CachesInterruptsAndSharedRegisters :
    (∃ s : State, s.pairLive (0 : Fin 2) = true ∧ (s.hok.get (0 : Fin 2)).mmode = true ∧ (32) / 32 ≠ (0 : BitVec 32).toNat / 32) ∧
    (∃ s : State, s.pairLive (0 : Fin 2) = true ∧ (s.hok.get (0 : Fin 2)).mmode = false) ∧
    (∃ s : State, s.pairLive (0 : Fin 2) = true ∧ (lineOf (s.hok.get (0 : Fin 2)).dcache (0x20000000 : BitVec 32).toNat).isSome = true ∧
      s.coreReads (0 : Fin 2) (0x20000000 : BitVec 32).toNat = true) ∧
    (∃ s : State, s.pairLive (0 : Fin 2) = true ∧ (lineOf (s.hok.get (0 : Fin 2)).icache (0x20000000 : BitVec 32).toNat).isSome = true ∧
      s.coreReads (0 : Fin 2) (0x20000000 : BitVec 32).toNat = true) ∧
    (∃ s : State, s.pairLive (0 : Fin 2) = true ∧ s.irqs (0 : Fin 2) ≠ 0 ∧ ((s.hok.get (0 : Fin 2)).mmode = false ∨ s.mst (0 : Fin 2) 3 1
      = 1) ∧ (s.csrRaw (0 : Fin 2) 0x305).toNat % 4 = 0) ∧
    (∃ s : State, s.pairLive (0 : Fin 2) = true ∧ s.irqs (0 : Fin 2) ≠ 0 ∧ ((s.hok.get (0 : Fin 2)).mmode = false ∨ s.mst (0 : Fin 2) 3 1
      = 1) ∧ (s.csrRaw (0 : Fin 2) 0x305).toNat % 4 = 1) ∧
    (∃ s : State, s.irqs (0 : Fin 2) = 0) ∧
    (∃ s : State, s.pairLive (0 : Fin 2) = true ∧ bitOf (s.irqs (0 : Fin 2)) 7 = true) ∧
    (∃ s : State, s.pairLive (0 : Fin 2) = false) ∧
    (∃ s : State, s.pdOn 1 = true ∧ s.rd (R.SYS_SEM (0 : Fin 16)) = 0#32) ∧
    (∃ s : State, s.pdOn 1 = true ∧ s.rd (R.SYS_SEM (0 : Fin 16)) ≠ 0#32 ∧ ((.hspi : Initiator) ≠ .hpa ∧ (.hspi : Initiator) ≠ .hpb)) ∧
    (∃ s : State, s.pdOn 1 = true ∧ ((.hpa : Initiator) = .hpa ∨ (.hpa : Initiator) = .hpb ∨ (.hpa : Initiator) = .hspi)) ∧
    (∃ s : State, s.pdOn 1 = true ∧ (1 : Word) ≠ 0#32 ∧ ((.hpa : Initiator) = .hpa ∨ (.hpa : Initiator) = .hpb)) ∧
    (∃ s : State, s.pdOn 1 = true) ∧
    (∃ s : State, s.pdOn 1 = true ∧ ((.hpa : Initiator) = .hpa ∨ (.hpa : Initiator) = .hpb) ∧ bitOf (0x100 : Word).toNat (8 + (0 : Fin 4))
      = true) ∧
    (∃ s : State, s.pdOn 1 = true ∧ ((.hpa : Initiator) = .hpa ∨ (.hpa : Initiator) = .hpb) ∧ bitOf (0#32 : Word).toNat (8 + 2 * (0 : Fin
      2)) = false ∧ bitOf (0#32 : Word).toNat (9 + 2 * (0 : Fin 2)) = false) :=
  ⟨
    ⟨{ up with hok := [(0, { (default : Hok) with run := true, mmode := true })] }, by decide +kernel⟩,
    ⟨((fun (s : State) => { s with hok := s.hok.modify (0) (fun y0 => { y0 with mmode := (false) }) }) up), by decide +kernel⟩,
    ⟨{ up with hok := [(0, { (default : Hok) with run := true, dcache := [(0x20000000, List.replicate 32 0#8)] })] }, by decide +kernel⟩,
    ⟨{ up with hok := [(0, { (default : Hok) with run := true, icache := [(0x20000000, List.replicate 32 0#8)] })] }, by decide +kernel⟩,
    ⟨{ (up.wr (R.HIC_MTIMECMP_LO 0) 0#32).wr (R.HIC_MTIMECMP_HI 0) 0#32 with hok := [(0, { (default : Hok) with run := true, csr := [(0x304, 0x80#32), (0x305, 0#32)] })] },
      by decide +kernel⟩,
    ⟨{ (up.wr (R.HIC_MTIMECMP_LO 0) 0#32).wr (R.HIC_MTIMECMP_HI 0) 0#32 with hok := [(0, { (default : Hok) with run := true, csr := [(0x304, 0x80#32), (0x305, 1#32)] })] },
      by decide +kernel⟩,
    ⟨up, by decide +kernel⟩,
    ⟨{ (up.wr (R.HIC_MTIMECMP_LO 0) 0#32).wr (R.HIC_MTIMECMP_HI 0) 0#32 with hok := [(0, { (default : Hok) with run := true, csr := [(0x304, 0x80#32), (0x305, 0#32)] })] },
      by decide +kernel⟩,
    ⟨{ up with hok := [] }, by decide +kernel⟩,
    ⟨(up.puts [(⟨F.SYS_PD_STATUS_DOMAIN_ON.addr, 1, 1⟩, 1), (whole ((R.SYS_SEM 0)), 0)]), by decide +kernel⟩,
    ⟨(up.puts [(⟨F.SYS_PD_STATUS_DOMAIN_ON.addr, 1, 1⟩, 1), (whole (R.SYS_SEM 0), 1)]), by decide +kernel⟩,
    ⟨(up.puts [(⟨F.SYS_PD_STATUS_DOMAIN_ON.addr, 1, 1⟩, 1)]), by decide +kernel⟩,
    ⟨(up.puts [(⟨F.SYS_PD_STATUS_DOMAIN_ON.addr, 1, 1⟩, 1)]), by decide +kernel⟩,
    ⟨(up.puts [(⟨F.SYS_PD_STATUS_DOMAIN_ON.addr, 1, 1⟩, 1)]), by decide +kernel⟩,
    ⟨(up.puts [(⟨F.SYS_PD_STATUS_DOMAIN_ON.addr, 1, 1⟩, 1)]), by decide +kernel⟩,
    ⟨(up.puts [(⟨F.SYS_PD_STATUS_DOMAIN_ON.addr, 1, 1⟩, 1)]), by decide +kernel⟩⟩

theorem witness_Doorbells :
    (∃ s : State, s.pdOn 1 = true) :=
    ⟨(up.puts [(⟨F.SYS_PD_STATUS_DOMAIN_ON.addr, 1, 1⟩, 1)]), by decide +kernel⟩

theorem witness_PowerDomainsAndOperatingPoints :
    (∃ s : State, s.flag (pdCtrlF (0 : Fin 12)) = false ∧ s.pdOn (0 : Fin 12) = false ∧ s.pdNeeds (0 : Fin 12) = true ∧ s.pdMay (0 : Fin
      12) = true) ∧
    (∃ s : State, s.flag (pdCtrlF (8 : Fin 12)) = false ∧ (s.pdNeeds (8 : Fin 12) && s.pdMay (8 : Fin 12)) = false) ∧
    ((.hpb : Initiator) ≠ .hpa) ∧
    (∃ s : State, s.flag (pdCtrlF (6 : Fin 12)) = true ∧ pdSwitched (6 : Fin 12) = true ∧ s.pdHeldOn (6 : Fin 12) = false ∧ (1 : Fin 12) ≠
      (6 : Fin 12)) ∧
    (∃ s : State, s.flag (pdCtrlF (3 : Fin 12)) = true ∧ pdSwitched (3 : Fin 12) = true ∧ s.pdHeldOn (3 : Fin 12) = false ∧ (3 : Fin 12) =
      3 ∧ s.pdOn 3 = true) ∧
    (∃ s : State, s.flag (pdCtrlF (9 : Fin 12)) = true ∧ pdSwitched (9 : Fin 12) = true ∧ s.pdHeldOn (9 : Fin 12) = false ∧ (9 : Fin 12) =
      9 ∧ s.pdOn 9 = true) ∧
    (∃ s : State, s.flag (pdCtrlF (8 : Fin 12)) = true ∧ pdSwitched (8 : Fin 12) = true ∧ s.pdHeldOn (8 : Fin 12) = false ∧ s.pdOn (8 :
      Fin 12) = false) ∧
    (∃ s : State, s.flag (pdCtrlF (0 : Fin 12)) = true ∧ (pdSwitched (0 : Fin 12) = false ∨ s.pdHeldOn (0 : Fin 12) = true)) ∧
    (∃ s : State, s.canonical = true ∧ s.flag (pdMoveF (0 : Fin 12)) = true ∧ (1 : Fin 12) ≠ (0 : Fin 12)) ∧
    (∃ s : State, s.canonical = true ∧ s.flag (pdMoveF (2 : Fin 12)) = true ∧ (2 ≤ (2 : Fin 12).val ∧ (2 : Fin 12).val ≤ 5)) ∧
    (∃ s : State, s.canonical = true ∧ s.flag (pdMoveF (3 : Fin 12)) = true ∧ (3 : Fin 12) = 3) ∧
    (∃ s : State, s.canonical = true ∧ s.flag (pdMoveF (9 : Fin 12)) = true ∧ (9 : Fin 12) = 9) ∧
    (∃ s : State, s.canonical = true ∧ s.flag (pdMoveF (10 : Fin 12)) = true ∧ (10 : Fin 12) = 10 ∧ (false) = false) ∧
    (∃ s : State, s.canonical = true ∧ s.flag (pdMoveF (4 : Fin 12)) = true ∧ (4 : Fin 12) ≠ 3) ∧
    (∃ s : State, s.flag (pdMoveF (0 : Fin 12)) = false) ∧
    (∃ s : State, (∀ d : Fin 32, bitOf (0#32 : Word).toNat d = true → (d = 1 ∨ d = 11) ∧ s.pdOn d = true ∧ s.flag (padHoldF d) = true)) ∧
    (∃ s : State, (¬(((0 : Fin 32) = 1 ∨ (0 : Fin 32) = 11) ∧ s.pdOn (0 : Fin 32) = true ∧ s.flag (padHoldF (0 : Fin 32)) = true))) ∧
    (∃ s : State, s.pwmAllStopped = true ∧ (∀ d ∈ [2, 3, 4, 5], bitsOf (s.rd R.SYS_OP : Word).toNat (4 * (d - 2)) 2 ≠ 3 ∧ s.adjust (opF d)
      (bitsOf (s.rd R.SYS_OP : Word).toNat (4 * (d - 2)) 2) = .ok) ∧ ((s.plState = 1 ∨ s.inFoyer = true) → bitsOf (s.rd R.SYS_OP :
      Word).toNat 0 2 = 2)) ∧
    (∃ s : State, (∀ d ∈ [3, 4, 5], s.adjust (opF d) (bitsOf (3#32 : Word).toNat (4 * (d - 2)) 2) = .uncovered) ∧ (s.adjust (opF 2)
      (bitsOf (3#32 : Word).toNat 0 2) = .outside ∨ (s.adjust (opF 2) (bitsOf (3#32 : Word).toNat 0 2) = .ok ∧ (s.pwmAllStopped = false ∨
      bitsOf (3#32 : Word).toNat 0 2 = 3 ∨ ((s.plState = 1 ∨ s.inFoyer = true) ∧ bitsOf (3#32 : Word).toNat 0 2 ≠ 2))))) ∧
    (∃ s : State, s.pwmAllStopped = false ∧ (∀ d ∈ [2, 3, 4, 5], s.adjust (opF d) (bitsOf (0#32 : Word).toNat (4 * (d - 2)) 2) = .ok)) ∧
    (∃ s : State, (∀ d ∈ [2, 3, 4, 5], s.adjust (opF d) (bitsOf (0#32 : Word).toNat (4 * (d - 2)) 2) = .uncovered)) ∧
    (∃ s : State, s.flag (stepF ((0 : Fin 4) + 2)) = true ∧ s.plinth.dvfsTo.get ((0 : Fin 4) + 2) - 1 = s.get (opF ((0 : Fin 4) + 2)) ∧
      s.get (opF ((0 : Fin 4) + 2)) < 3) ∧
    (∃ s : State, s.flag (stepF ((0 : Fin 4) + 2)) = true ∧ (1 : Fin 4) ≠ (0 : Fin 4)) ∧
    (∃ s : State, s.flag (stepF ((0 : Fin 4) + 2)) = true ∧ s.plinth.dvfsAt.get ((0 : Fin 4) + 2) + 40000 ≤ s.mono) ∧
    (∃ s : State, s.flag (stepF ((0 : Fin 4) + 2)) = false) ∧
    (∃ s : State, s.mono < s.plinth.dvfsAt.get ((0 : Fin 4) + 2) + 40000) :=
  ⟨
    ⟨(up.puts [((pdCtrlF 0), 0), (⟨F.SYS_PD_STATUS_DOMAIN_ON.addr, 0, 1⟩, 0)]), by decide +kernel⟩,
    ⟨((fun (s : State) => s.puts [(pdCtrlF 8, 0), (F.SYS_RAILS_VANA_OK, 0)]) (up.puts [((pdCtrlF 8), 0)])), by decide +kernel⟩,
    by decide +kernel,
    ⟨((fun (s : State) => s.put (pdCtrlF 6) 1) (up.puts [((pdCtrlF 6), 1)])), by decide +kernel⟩,
    ⟨(up.puts [((pdCtrlF 3), 1), (⟨F.SYS_PD_STATUS_DOMAIN_ON.addr, 3, 1⟩, 1)]), by decide +kernel⟩,
    ⟨(up.puts [((pdCtrlF 9), 1), (⟨F.SYS_PD_STATUS_DOMAIN_ON.addr, 9, 1⟩, 1)]), by decide +kernel⟩,
    ⟨(up.puts [(pdCtrlF 8, 1), (⟨F.SYS_PD_STATUS_DOMAIN_ON.addr, 8, 1⟩, 0)]), by decide +kernel⟩,
    ⟨(up.puts [((pdCtrlF 0), 1)]), by decide +kernel⟩,
    ⟨up.put (pdMoveF 0) 1, by decide +kernel⟩,
    ⟨((fun (s : State) => s.put (pdMoveF 2) 1) (up.puts [((pdMoveF 2), 1)])), by decide +kernel⟩,
    ⟨(up.puts [((pdMoveF 3), 1)]), by decide +kernel⟩,
    ⟨(up.puts [((pdMoveF 9), 1)]), by decide +kernel⟩,
    ⟨(up.puts [((pdMoveF 10), 1)]), by decide +kernel⟩,
    ⟨(up.puts [((pdMoveF 4), 1)]), by decide +kernel⟩,
    ⟨(up.puts [((pdMoveF 0), 0)]), by decide +kernel⟩,
    ⟨up, by decide +kernel⟩,
    ⟨up, by decide +kernel⟩,
    ⟨((up.adjusts [opF 2, opF 3, opF 4, opF 5])), by decide +kernel⟩,
    ⟨(up.adjusts [opF 2]), ⟨by rw [List.forall_mem_cons]; decide +kernel, by decide +kernel⟩⟩,
    ⟨((up.adjusts [opF 2, opF 3, opF 4, opF 5]).put (F.PWM_STATUS_STATE 0) 1), ⟨by decide +kernel,
      by rw [List.forall_mem_cons]; decide +kernel⟩⟩,
    ⟨up, by decide +kernel⟩,
    ⟨((fun (s : State) => { s with plinth := { s.plinth with dvfsTo := s.plinth.dvfsTo.set ((0 + 2) - 1) (s.get (opF (0 + 2))) } })
      (up.puts [((stepF (0 + 2)), 1)])), by decide +kernel⟩,
    ⟨(up.puts [((stepF (0 + 2)), 1)]), by decide +kernel⟩,
    ⟨(up.puts [((stepF (0 + 2)), 1)]), by decide +kernel⟩,
    ⟨(up.puts [((stepF (0 + 2)), 0)]), by decide +kernel⟩,
    ⟨{ up with epoch := 0 }, by decide +kernel⟩⟩

theorem witness_PlinthLifeClockAndWakes :
    (∃ s : State, s.alive = false ∧ s.canonical = true) ∧
    (∃ s : State, s.alive = true ∧ s.canonical = true) ∧
    (∃ s : State, s.plinth.cyc < s.plinth.secFrom + s.secLen) ∧
    (∃ s : State, s.plState = 1 ∧ s.plinth.session.isSome = true ∧ s.canonical = true) ∧
    (∃ s : State, s.plState ≠ 1) ∧
    (∃ s : State, s.alive = true ∧ s.plState = 0 ∧ s.wakeCauses ≠ 0) ∧
    (∃ s : State, s.alive = true ∧ s.plState = 0 ∧ s.wakeCauses = 0) ∧
    (∃ s : State, (s.alive = false ∨ s.plState ≠ 0)) ∧
    (∃ s : State, (s.alive && s.twwMatch (0 : Fin 128) && (s.plState != 0 || s.twwAdmits)) = true) ∧
    (∃ s : State, (s.alive && s.twwMatch (0 : Fin 128) && (s.plState != 0 || s.twwAdmits)) = false) ∧
    (∃ s : State, bitsOf (0x5E1A0000#32 : Word).toNat 16 16 = 0x5E1A ∧ (s.plState = 1 ∨ s.plState = 3) ∧ s.pwmAllStopped = true ∧ s.rd
      R.DIAG_MAINT_RUN = 0#32 ∧ (∀ g, s.sv.stage = some g → g.write = none) ∧ s.conn ≠ 2 ∧ s.conn ≠ 3 ∧ s.canonical = true ∧ 0x10000000 ≤
      (0x10000000) ∧ (0x10000000) < 0x11000000) ∧
    (∃ s : State, ((.hpb : Initiator) ≠ .hpa ∨ bitsOf (0#32 : Word).toNat 16 16 ≠ 0x5E1A ∨ (s.plState ≠ 1 ∧ s.plState ≠ 3) ∨
      s.pwmAllStopped = false ∨ s.rd R.DIAG_MAINT_RUN ≠ 0#32 ∨ (∃ g, s.sv.stage = some g ∧ g.write ≠ none) ∨ s.conn = 2 ∨ s.conn = 3)) ∧
    (∃ s : State, s.plState = 1 ∧ s.flag F.PLINTH_STATUS_START_OK = true) ∧
    (∃ s : State, s.plState = 1 ∧ s.flag F.PLINTH_STATUS_START_OK = false) ∧
    (∃ s : State, s.plState ≠ 1) :=
  ⟨
    ⟨(up.puts [(⟨F.SYS_PD_STATUS_DOMAIN_ON.addr, 0, 1⟩, 0)]), by decide +kernel⟩,
    ⟨(up.puts [(⟨F.SYS_PD_STATUS_DOMAIN_ON.addr, 0, 1⟩, 1)]), by decide +kernel⟩,
    ⟨up, by decide +kernel⟩,
    ⟨{ up.put F.PLINTH_STATUS_STATE 1 with plinth := { up.plinth with session := some 0 } }, by decide +kernel⟩,
    ⟨up, by decide +kernel⟩,
    ⟨((fun (s : State) => (s.wr R.PLINTH_WAKE_EN 1#32).modPlinth fun p => { p with alarm := true }) (up.puts
      [(⟨F.SYS_PD_STATUS_DOMAIN_ON.addr, 0, 1⟩, 1), (F.PLINTH_STATUS_STATE, 0)])), by decide +kernel⟩,
    ⟨(up.puts [(⟨F.SYS_PD_STATUS_DOMAIN_ON.addr, 0, 1⟩, 1), (F.PLINTH_STATUS_STATE, 0)]), by decide +kernel⟩,
    ⟨(up.puts [(⟨F.SYS_PD_STATUS_DOMAIN_ON.addr, 0, 1⟩, 0)]), by decide +kernel⟩,
    ⟨(up.puts [(F.PLINTH_TWW_ADDR_GENERAL, 1), (F.PLINTH_STATUS_STATE, 3)]), by decide +kernel⟩,
    ⟨up, by decide +kernel⟩,
    ⟨(up.puts [(F.PLINTH_STATUS_STATE, 1), (whole (R.DIAG_MAINT_RUN), 0)]), by decide +kernel⟩,
    ⟨up, by decide +kernel⟩,
    ⟨(up.puts [(F.PLINTH_STATUS_STATE, 1), (F.PLINTH_STATUS_START_OK, 1)]), by decide +kernel⟩,
    ⟨(up.puts [(F.PLINTH_STATUS_STATE, 1), (F.PLINTH_STATUS_START_OK, 0)]), by decide +kernel⟩,
    ⟨up, by decide +kernel⟩⟩

theorem witness_EnergyAndSupplies :
    (∃ s : State, s.alive = true ∧ (s.flag F.PLINTH_STATUS_BELOW_ABORT = true ∨ 26 / 10 ≤ (default : Rat) ∨ s.plState = 0 ∨ s.plState = 3)
      ∧ s.pdOn 1 = true) ∧
    (∃ s : State, s.alive = true ∧ s.flag F.PLINTH_STATUS_BELOW_ABORT = false ∧ (default : Rat) < 26 / 10 ∧ (s.plState = 1 ∨ s.plState =
      2) ∧ s.canonical = true) ∧
    (∃ s : State, s.alive = false) ∧
    (∃ s : State, s.alive = true ∧ (s.plState = 2 ∨ (s.plState = 0 ∧ s.plinth.cold = true)) ∧ s.pdOn 1 = true) ∧
    (∃ s : State, s.plState = 3 ∧ s.flag F.PLINTH_STATUS_PF_ACTIVE = false ∧ s.meter.used = true ∧ s.meterRun = true) ∧
    (∃ s : State, (s.plState ≠ 3 ∨ s.flag F.PLINTH_STATUS_PF_ACTIVE = true)) ∧
    (∃ s : State, s.flag F.PLINTH_STATUS_PF_ACTIVE = true ∧ s.meter.failAt.isSome = true) ∧
    (∃ s : State, (s.plState = 2 ∨ s.plState = 3) ∧ s.flag F.PLINTH_STATUS_MEAS_OK = true ∧ pdStore (3 : Fin 12) = false) ∧
    (∃ s : State, (s.plState = 2 ∨ s.plState = 3) ∧ s.flag F.PLINTH_STATUS_MEAS_OK = true ∧ pdStore (0 : Fin 12) = true) ∧
    (∃ s : State, (s.plState = 2 ∨ s.plState = 3) ∧ s.flag F.PLINTH_STATUS_MEAS_OK = false ∧ s.canonical = true) ∧
    (∃ s : State, (s.plState = 0 ∨ s.plState = 1)) :=
  ⟨
    ⟨(up.puts [(⟨F.SYS_PD_STATUS_DOMAIN_ON.addr, 0, 1⟩, 1), (F.PLINTH_STATUS_BELOW_ABORT, 1), (⟨F.SYS_PD_STATUS_DOMAIN_ON.addr, 1, 1⟩,
      1)]), by decide +kernel⟩,
    ⟨(up.puts [(⟨F.SYS_PD_STATUS_DOMAIN_ON.addr, 0, 1⟩, 1), (F.PLINTH_STATUS_BELOW_ABORT, 0), (F.PLINTH_STATUS_STATE, 1)]),
      by decide +kernel⟩,
    ⟨(up.puts [(⟨F.SYS_PD_STATUS_DOMAIN_ON.addr, 0, 1⟩, 0)]), by decide +kernel⟩,
    ⟨(up.puts [(⟨F.SYS_PD_STATUS_DOMAIN_ON.addr, 0, 1⟩, 1), (F.PLINTH_STATUS_STATE, 2), (⟨F.SYS_PD_STATUS_DOMAIN_ON.addr, 1, 1⟩, 1)]),
      by decide +kernel⟩,
    ⟨((fun (s : State) => { s with meter := { s.meter with used := (true) } }) (up.puts [(F.PLINTH_STATUS_STATE, 3),
      (F.PLINTH_STATUS_PF_ACTIVE, 0), (F.METER_STATUS_RUN, 1)])), by decide +kernel⟩,
    ⟨up, by decide +kernel⟩,
    ⟨(up.put F.PLINTH_STATUS_PF_ACTIVE 1).modMeter fun m => { m with failAt := some 0 }, by decide +kernel⟩,
    ⟨(up.puts [(F.PLINTH_STATUS_STATE, 2), (F.PLINTH_STATUS_MEAS_OK, 1)]), by decide +kernel⟩,
    ⟨(up.puts [(F.PLINTH_STATUS_STATE, 2), (F.PLINTH_STATUS_MEAS_OK, 1)]), by decide +kernel⟩,
    ⟨(up.puts [(F.PLINTH_STATUS_STATE, 2), (F.PLINTH_STATUS_MEAS_OK, 0)]), by decide +kernel⟩,
    ⟨(up.puts [(F.PLINTH_STATUS_STATE, 0)]), by decide +kernel⟩⟩

theorem witness_MailboxTurnsAndReads :
    (∃ s : State, ((1, Instr.svGetInfo 0) : Nat × Instr) ∈ [(1, Instr.svGetInfo (0 : Fin 2)), (2, .svGetDevidCert (0 : Fin 2)), (3,
      .svAttest (0 : Fin 2) ([] : List Byte)), (4, .svExtend (0 : Fin 2) (0 : Nat) ([] : List Byte) (0 : Nat)), (5, .svReadPm (0 : Fin
      2)), (6, .svRandom (0 : Fin 2) (0 : Nat)), (7, .svVerifyAuth (0 : Fin 2) ([] : List Byte) (0 : Nat) ([] : List Byte)), (8,
      .svStageBegin (0 : Fin 2) (0 : Nat) (0 : Nat)), (9, .svStageData (0 : Fin 2) (0 : Nat) ([] : List Byte)), (10, .svStageEnd (0 : Fin
      2)), (11, .svSelect (0 : Fin 2) (0 : Nat) (0 : Nat)), (12, .svConfirm (0 : Fin 2) (0 : Nat) (0 : Nat)), (13, .svOwnerEnroll (0 : Fin
      2) (0 : Nat) ([] : List Byte) (none : Option (List Byte)) (0 : Nat)), (14, .svOwnerRevoke (0 : Fin 2) (0 : Nat) ([] : List Byte) (0
      : Nat)), (15, .svSetAppStrict (0 : Fin 2) ([] : List Byte) (0 : Nat)), (16, .svDebugPermit ((0 : Fin 2).castLE (by decide)) ([] :
      List Byte) ([] : List Byte) (0 : Nat)), (17, .svPermitEnd ((0 : Fin 2).castLE (by decide)))] ∧ s.svTurn (0 : Fin 2) ((1,
      Instr.svGetInfo 0) : Nat × Instr).1 = false) ∧
    (∃ s : State, ((2, Instr.svGetDevidCert 0) : Nat × Instr) ∈ [(1, Instr.svGetInfo (0 : Fin 2)), (2, .svGetDevidCert (0 : Fin 2)), (3,
      .svAttest (0 : Fin 2) ([] : List Byte)), (4, .svExtend (0 : Fin 2) (0 : Nat) ([] : List Byte) (0 : Nat)), (5, .svReadPm (0 : Fin
      2)), (6, .svRandom (0 : Fin 2) (0 : Nat)), (7, .svVerifyAuth (0 : Fin 2) ([] : List Byte) (0 : Nat) ([] : List Byte)), (8,
      .svStageBegin (0 : Fin 2) (0 : Nat) (0 : Nat)), (9, .svStageData (0 : Fin 2) (0 : Nat) ([] : List Byte)), (10, .svStageEnd (0 : Fin
      2)), (11, .svSelect (0 : Fin 2) (0 : Nat) (0 : Nat)), (12, .svConfirm (0 : Fin 2) (0 : Nat) (0 : Nat)), (13, .svOwnerEnroll (0 : Fin
      2) (0 : Nat) ([] : List Byte) (none : Option (List Byte)) (0 : Nat)), (14, .svOwnerRevoke (0 : Fin 2) (0 : Nat) ([] : List Byte) (0
      : Nat)), (15, .svSetAppStrict (0 : Fin 2) ([] : List Byte) (0 : Nat)), (16, .svDebugPermit ((0 : Fin 2).castLE (by decide)) ([] :
      List Byte) ([] : List Byte) (0 : Nat)), (17, .svPermitEnd ((0 : Fin 2).castLE (by decide)))] ∧ s.svTurn (0 : Fin 2) ((2,
      Instr.svGetDevidCert 0) : Nat × Instr).1 = true ∧ s.svBar (0 : Fin 2) ((2, Instr.svGetDevidCert 0) : Nat × Instr).1 = some
      (Sv.fenced : Nat)) ∧
    (∃ s : State, s.svTurn (0 : Fin 2) 1 = true ∧ s.svBar (0 : Fin 2) 1 = none) ∧
    (∃ s : State, s.svTurn (0 : Fin 2) 2 = true ∧ s.svBar (0 : Fin 2) 2 = none) ∧
    (∃ s : State, s.svTurn (0 : Fin 2) 3 = true ∧ s.svBar (0 : Fin 2) 3 = none ∧ (List.replicate 32 0#8 : List Byte).length = 32 ∧ s.flag
      F.SV_INFO_DEVID_READY = true) ∧
    (∃ s : State, s.svTurn (0 : Fin 2) 5 = true ∧ s.svBar (0 : Fin 2) 5 = none) ∧
    (∃ s : State, s.svTurn (0 : Fin 2) 6 = true ∧ s.svBar (0 : Fin 2) 6 = none ∧ 1 ≤ (256 : Nat) ∧ (256 : Nat) ≤ 256) ∧
    (∃ s : State, s.svTurn (0 : Fin 2) 6 = true ∧ s.svBar (0 : Fin 2) 6 = none ∧ ((257 : Nat) = 0 ∨ 256 < (257 : Nat))) ∧
    (∃ s : State, (s.sv.chan.get (0 : Fin 2)).op ≠ 0 ∧ (s.sv.chan.get (0 : Fin 2)).served = true ∧ (s.sv.chan.get (0 : Fin 2)).result <
      256 ∧ (s.sv.chan.get (0 : Fin 2)).rsp.length ≤ 4096 ∧ ((0) < R.SV_RSP (0 : Fin 2) ∨ R.SV_RSP (0 : Fin 2) + (s.sv.chan.get (0 : Fin
      2)).rsp.length ≤ (0))) ∧
    (∃ s : State, (s.sv.chan.get 2).op ≠ 0 ∧ (s.sv.chan.get 2).served = true) ∧
    (∃ s : State, 0x12 ≤ (s.sv.chan.get (0 : Fin 2)).op ∧ (s.sv.chan.get (0 : Fin 2)).served = false ∧ s.sv.queue.head? = some (0 : Fin
      2).val ∧ s.svFree = true) ∧
    (∃ s : State, ((s.sv.chan.get (0 : Fin 3)).op = 0 ∨ ((s.sv.chan.get (0 : Fin 3)).op < 0x12 ∧ svMayIssue (0 : Fin 3) (s.sv.chan.get (0
      : Fin 3)).op = true ∧ (s.sv.chan.get (0 : Fin 3)).served = false))) :=
  ⟨
    ⟨up, by decide +kernel⟩,
    ⟨(({ up with sv := { up.sv with queue := [0], chan := [(0, { (default : SvChan) with op := 2 })] } }).wr R.CUR_FENCED_OTHER 4#32),
      by decide +kernel⟩,
    ⟨({ up with sv := { up.sv with queue := [0], chan := [(0, { (default : SvChan) with op := 1 })] } }), by decide +kernel⟩,
    ⟨({ up with sv := { up.sv with queue := [0], chan := [(0, { (default : SvChan) with op := 2 })] } }), by decide +kernel⟩,
    ⟨((fun (s : State) => { s with sv := { s.sv with queue := [0], chan := [(0, { (default : SvChan) with op := 3 })] } }) (up.puts
      [(F.SV_INFO_DEVID_READY, 1)])), by decide +kernel⟩,
    ⟨({ up with sv := { up.sv with queue := [0], chan := [(0, { (default : SvChan) with op := 5 })] } }), by decide +kernel⟩,
    ⟨({ up with sv := { up.sv with queue := [0], chan := [(0, { (default : SvChan) with op := 6 })] } }), by decide +kernel⟩,
    ⟨({ up with sv := { up.sv with queue := [0], chan := [(0, { (default : SvChan) with op := 6 })] } }), by decide +kernel⟩,
    ⟨((fun (s : State) => { s with sv := { s.sv with chan := [(0, { (default : SvChan) with op := 1, served := true, rsp := [1#8] })] } })
      ((fun (s : State) => { s with sv := { s.sv with chan := s.sv.chan.modify (0) (fun y0 => { y0 with served := (true) }) } }) up)),
      by decide +kernel⟩,
    ⟨((fun (s : State) => { s with sv := { s.sv with chan := [(2, { (default : SvChan) with op := 1, served := true, rsp := [1#8] })] } })
      ((fun (s : State) => { s with sv := { s.sv with chan := s.sv.chan.modify (2) (fun y0 => { y0 with served := (true) }) } }) up)),
      by decide +kernel⟩,
    ⟨{ up with sv := { up.sv with queue := [0], chan := [(0, { (default : SvChan) with op := 0x12 })] } }, by decide +kernel⟩,
    ⟨((fun (s : State) => { s with sv := { s.sv with chan := s.sv.chan.modify (0) (fun y0 => { y0 with op := (0) }) } }) up),
      by decide +kernel⟩⟩

theorem witness_MeasurementsAndOwners :
    (∃ s : State, s.svTurn (0 : Fin 2) 4 = true ∧ s.svBar (0 : Fin 2) 4 = none ∧ (List.replicate 32 0#8 : List Byte).length = 32 ∧ 5 ≤ (5
      : Nat) ∧ (5 : Nat) ≤ 7 ∧ ((5 : Nat) = 7 ↔ (0 : Fin 2) = 1) ∧ (0 : Nat) ≠ (5 : Nat)) ∧
    (∃ s : State, s.svTurn (0 : Fin 2) 4 = true ∧ s.svBar (0 : Fin 2) 4 = none ∧ (List.replicate 32 0#8 : List Byte).length = 32 ∧ 5 ≤ (7
      : Nat) ∧ (7 : Nat) ≤ 7 ∧ ¬((7 : Nat) = 7 ↔ (0 : Fin 2) = 1)) ∧
    (∃ s : State, s.svTurn (0 : Fin 2) 7 = true ∧ s.svBar (0 : Fin 2) 7 = none ∧ s.authCheck ([] : List Byte) (0 : Nat) ([] : List Byte) =
      3) ∧
    (∃ s : State, s.svTurn 0 13 = true ∧ s.svBar 0 13 = none ∧ 1 ≤ 1 ∧ 1 ≤ 4 ∧ (List.replicate 1312 0#8).length = 1312 ∧ s.sv.hash.get 1 =
      [] ∧ bitOf s.sv.revoked (1 - 1) = false ∧ (s.svEnrolled = 0 ∨ ∃ r, (none : Option (List Byte)) = some r ∧ s.authCheck r 0x0D
      (Config.argBytes 0x0D (leBytes 1 1 ++ List.replicate 1312 0#8)) = 0)) ∧
    (∃ s : State, s.svTurn (0 : Fin 2) 13 = true ∧ s.svBar (0 : Fin 2) 13 = none ∧ 1 ≤ (1 : Nat) ∧ (1 : Nat) ≤ 4 ∧ (List.replicate 1312
      0#8 : List Byte).length = 1312 ∧ (s.sv.hash.get (1 : Nat) ≠ [] ∨ bitOf s.sv.revoked ((1 : Nat) - 1) = true)) :=
  ⟨
    ⟨({ up with sv := { up.sv with queue := [0], chan := [(0, { (default : SvChan) with op := 4 })] } }), by decide +kernel⟩,
    ⟨({ up with sv := { up.sv with queue := [0], chan := [(0, { (default : SvChan) with op := 4 })] } }), by decide +kernel⟩,
    ⟨({ up with sv := { up.sv with queue := [0], chan := [(0, { (default : SvChan) with op := 7 })] } }), by decide +kernel⟩,
    ⟨(fun (s : State) => { s with sv := { s.sv with queue := [0], chan := [(0, { (default : SvChan) with op := 13 })] } }) up,
      by decide +kernel, by decide +kernel, by decide, by decide, by decide +kernel, by decide +kernel, by decide +kernel, .inl
      (by decide +kernel)⟩,
    ⟨({ up with sv := { up.sv with queue := [0], chan := [(0, { (default : SvChan) with op := 13 })], hash := [(1, [1#8])] } }),
      by decide +kernel⟩⟩

theorem witness_StagingAndSelection :
    (∃ s : State, s.svTurn (0 : Fin 2) 8 = true ∧ s.svBar (0 : Fin 2) 8 = none ∧ (0 : Nat) < 3 ∧ (1 : Nat) < 2 ∧ s.sv.stage = none ∧ ((0 :
      Nat) = 2 ∨ (1 : Nat) ≠ s.activeSlot (0 : Nat)) ∧ s.maintAhead s.epoch 10 = [] ∧ s.maintRefusal .staging 10 = none ∧ (0 : Nat) ≠ 2 ∧
      s.get (selF (0 : Nat)) = (1 : Nat) ∧ s.activeSlot (0 : Nat) < 2) ∧
    (∃ s : State, s.svTurn (0 : Fin 2) 8 = true ∧ s.svBar (0 : Fin 2) 8 = none ∧ (2 : Nat) < 3 ∧ (0 : Nat) < 2 ∧ s.sv.stage = none ∧ ((2 :
      Nat) = 2 ∨ (0 : Nat) ≠ s.activeSlot (2 : Nat)) ∧ s.maintAhead s.epoch 10 = [] ∧ s.maintRefusal .staging 10 = none ∧ (2 : Nat) = 2) ∧
    (∃ s : State, s.svTurn (0 : Fin 2) 8 = true ∧ s.svBar (0 : Fin 2) 8 = none ∧ (0 : Nat) < 2 ∧ s.activeSlot (0 : Nat) < 2 ∧ s.sv.stage =
      none) ∧
    (∃ s : State, s.svTurn (0 : Fin 2) 9 = true ∧ s.svBar (0 : Fin 2) 9 = none ∧ s.sv.stage = some
      (({ kind := 0, slot := 1, written := 0, write := none, ending := false } : Staging) : Staging) ∧
      (({ kind := 0, slot := 1, written := 0, write := none, ending := false } : Staging) : Staging).write = none ∧
      (({ kind := 0, slot := 1, written := 0, write := none, ending := false } : Staging) : Staging).ending = false ∧
      (({ kind := 0, slot := 1, written := 0, write := none, ending := false } : Staging) : Staging).written + ([1#8] : List Byte).length
      ≤ slotSize (({ kind := 0, slot := 1, written := 0, write := none, ending := false } : Staging) : Staging).kind ∧ s.maintAhead
      s.epoch 10 = [] ∧ s.maintRefusal .staging 10 = none) ∧
    (∃ s : State, s.svTurn (0 : Fin 2) 8 = true ∧ s.svBar (0 : Fin 2) 8 = none ∧ (0 : Nat) < 3 ∧ (0 : Nat) < 2 ∧ s.sv.stage.isSome = true) ∧
    (∃ s : State, s.svTurn (0 : Fin 2) 9 = true ∧ s.svBar (0 : Fin 2) 9 = none ∧ s.sv.stage = some
      (({ kind := 0, slot := 1, written := 0, write := none, ending := false } : Staging) : Staging) ∧
      (({ kind := 0, slot := 1, written := 0, write := none, ending := false } : Staging) : Staging).write = none ∧
      (({ kind := 0, slot := 1, written := 0, write := none, ending := false } : Staging) : Staging).ending = false ∧
      (({ kind := 0, slot := 1, written := 0, write := none, ending := false } : Staging) : Staging).written + ([1#8] : List Byte).length
      ≤ slotSize (({ kind := 0, slot := 1, written := 0, write := none, ending := false } : Staging) : Staging).kind ∧ s.maintAhead
      s.epoch 10 = [] ∧ s.maintRefusal .staging 10 = some ((2 : Nat), (0 : Nat))) ∧
    (∃ s : State, s.svTurn (0 : Fin 2) 9 = true ∧ s.svBar (0 : Fin 2) 9 = none ∧ s.sv.stage = some
      (({ kind := 0, slot := 1, written := 0, write := none, ending := false } : Staging) : Staging) ∧
      (({ kind := 0, slot := 1, written := 0, write := none, ending := false } : Staging) : Staging).write = none ∧
      (({ kind := 0, slot := 1, written := 0, write := none, ending := false } : Staging) : Staging).ending = false ∧ (1 : Nat) ≠
      (({ kind := 0, slot := 1, written := 0, write := none, ending := false } : Staging) : Staging).written) ∧
    (∃ s : State, s.svTurn (0 : Fin 2) 10 = true ∧ s.svBar (0 : Fin 2) 10 = none ∧ s.sv.stage = some
      (({ kind := 0, slot := 1, written := 0, write := none, ending := false } : Staging) : Staging) ∧
      (({ kind := 0, slot := 1, written := 0, write := none, ending := false } : Staging) : Staging).write = none ∧ s.slotCheck
      (({ kind := 0, slot := 1, written := 0, write := none, ending := false } : Staging) : Staging).kind
      (({ kind := 0, slot := 1, written := 0, write := none, ending := false } : Staging) : Staging).slot ≠ 0) ∧
    (∃ s : State, s.svTurn (0 : Fin 2) 10 = true ∧ s.svBar (0 : Fin 2) 10 = none ∧ s.sv.stage = some
      (({ kind := 0, slot := 1, written := 0, write := (some (0, [1#8])), ending := false } : Staging) : Staging) ∧
      (({ kind := 0, slot := 1, written := 0, write := (some (0, [1#8])), ending := false } : Staging) : Staging).write = some ((0, [1#8])
      : Nat × List Byte)) ∧
    (∃ s : State, s.maintRuns Act.mramProgram = true ∧ s.sv.stage = some
      (({ kind := 0, slot := 1, written := 0, write := (some (0, [1#8])), ending := false } : Staging) : Staging) ∧
      (({ kind := 0, slot := 1, written := 0, write := (some (0, [1#8])), ending := false } : Staging) : Staging).write = some ((0, [1#8])
      : Nat × List Byte) ∧ (({ kind := 0, slot := 1, written := 0, write := (some (0, [1#8])), ending := false } : Staging) :
      Staging).ending = false ∧ (({ kind := 0, slot := 1, written := 0, write := (some (0, [1#8])), ending := false } : Staging) :
      Staging).kind < 3 ∧ (({ kind := 0, slot := 1, written := 0, write := (some (0, [1#8])), ending := false } : Staging) : Staging).slot
      < 2 ∧ ((0, [1#8]) : Nat × List Byte).1 + ((0, [1#8]) : Nat × List Byte).2.length ≤ slotSize
      (({ kind := 0, slot := 1, written := 0, write := (some (0, [1#8])), ending := false } : Staging) : Staging).kind ∧ ((0 : Nat) <
      slotBase (({ kind := 0, slot := 1, written := 0, write := (some (0, [1#8])), ending := false } : Staging) : Staging).kind
      (({ kind := 0, slot := 1, written := 0, write := (some (0, [1#8])), ending := false } : Staging) : Staging).slot + ((0, [1#8]) : Nat
      × List Byte).1 ∨ slotBase (({ kind := 0, slot := 1, written := 0, write := (some (0, [1#8])), ending := false } : Staging) :
      Staging).kind (({ kind := 0, slot := 1, written := 0, write := (some (0, [1#8])), ending := false } : Staging) : Staging).slot +
      ((0, [1#8]) : Nat × List Byte).1 + ((0, [1#8]) : Nat × List Byte).2.length ≤ (0 : Nat))) ∧
    (∃ s : State, s.maintRuns Act.mramProgram = true ∧ s.sv.stage = some
      (({ kind := 0, slot := 1, written := 0, write := (some (0, [1#8])), ending := true } : Staging) : Staging) ∧
      (({ kind := 0, slot := 1, written := 0, write := (some (0, [1#8])), ending := true } : Staging) : Staging).write = some ((0, [1#8])
      : Nat × List Byte) ∧ (({ kind := 0, slot := 1, written := 0, write := (some (0, [1#8])), ending := true } : Staging) :
      Staging).ending = true ∧ s.svTurn 0 10 = true ∧ (({ kind := 0, slot := 1, written := 0, write := (some (0, [1#8])), ending := true }
      : Staging) : Staging).kind < 3 ∧ (({ kind := 0, slot := 1, written := 0, write := (some (0, [1#8])), ending := true } : Staging) :
      Staging).slot < 2 ∧ ((0, [1#8]) : Nat × List Byte).1 + ((0, [1#8]) : Nat × List Byte).2.length ≤ slotSize
      (({ kind := 0, slot := 1, written := 0, write := (some (0, [1#8])), ending := true } : Staging) : Staging).kind) ∧
    (∃ s : State, s.maintRuns Act.mramProgram = false) ∧
    (∃ s : State, s.svTurn (0 : Fin 2) 11 = true ∧ s.svBar (0 : Fin 2) 11 = none ∧ (1 : Nat) < 2 ∧ ((1 : Nat) = s.activeSlot 0 ∨ s.flag
      (validF 0 (1 : Nat)) = true)) ∧
    (∃ s : State, s.svTurn (0 : Fin 2) 11 = true ∧ s.svBar (0 : Fin 2) 11 = none ∧ (1 : Nat) < 2 ∧ (1 : Nat) ≠ s.activeSlot 0 ∧ s.flag
      (validF 0 (1 : Nat)) = false) ∧
    (∃ s : State, s.svTurn (0 : Fin 2) 12 = true ∧ s.svBar (0 : Fin 2) 12 = none ∧ s.inFoyer = false ∧ s.sv.arbFw < s.sv.fwSecver) ∧
    (∃ s : State, s.svTurn (0 : Fin 2) 12 = true ∧ s.svBar (0 : Fin 2) 12 = none ∧ (s.inFoyer = true ∨ s.sv.fwSecver ≤ s.sv.arbFw)) ∧
    (∃ s : State, bitsOf (0xA55A0001#32 : Word).toNat 16 16 = 0xA55A ∧ (bitsOf (0xA55A0001#32 : Word).toNat 0 1 = s.activeSlot 1 ∨ s.flag
      (validF 1 (bitsOf (0xA55A0001#32 : Word).toNat 0 1)) = true)) ∧
    (∃ s : State, bitsOf (0xA55A0001#32 : Word).toNat 16 16 = 0xA55A ∧ (¬(bitsOf (0xA55A0001#32 : Word).toNat 0 1 = s.activeSlot 1 ∨
      s.flag (validF 1 (bitsOf (0xA55A0001#32 : Word).toNat 0 1)) = true))) ∧
    (bitsOf (0#32 : Word).toNat 16 16 ≠ 0xA55A) ∧
    (∃ s : State, s.img.applied.isSome = true ∧ s.inFoyer = false ∧ s.sv.arbImg < (s.rd R.SYS_IMG_SECVER).toNat) ∧
    (∃ s : State, ((0#32 : Word) ≠ 0xC0F1#32 ∨ s.inFoyer = true ∨ (s.rd R.SYS_IMG_SECVER).toNat ≤ s.sv.arbImg)) :=
  ⟨
    ⟨(({ up with diag := { up.diag with bistNext := 30000 }, sv := { up.sv with queue := [0], chan := [(0, { (default : SvChan) with op := 8 })] } }).puts
      [(F.SV_BOOT_FW_SEL, 1), (F.SV_BOOT_ACTIVE_FW, 0)]), by decide +kernel⟩,
    ⟨{ up with diag := { up.diag with bistNext := 30000 }, sv := { up.sv with queue := [0], chan := [(0, { (default : SvChan) with op := 8 })] } },
      by decide +kernel⟩,
    ⟨((fun (s : State) => { s with sv := { s.sv with queue := [0], chan := [(0, { (default : SvChan) with op := 8 })] } }) ((fun (s :
      State) => { s with sv := { s.sv with stage := (none) } }) up)), by decide +kernel⟩,
    ⟨{ up with diag := { up.diag with bistNext := 30000 }, sv := { up.sv with queue := [0], chan := [(0, { (default : SvChan) with op := 9 })], stage := some ({ kind := 0, slot := 1, written := 0, write := none, ending := false } : Staging) } },
      by decide +kernel⟩,
    ⟨{ up with diag := { up.diag with bistNext := 30000 }, sv := { up.sv with queue := [0], chan := [(0, { (default : SvChan) with op := 8 })], stage := some ({ kind := 0, slot := 1, written := 0, write := none, ending := false } : Staging) } },
      by decide +kernel⟩,
    ⟨(({ up with diag := { up.diag with bistNext := 30000 }, sv := { up.sv with queue := [0], chan := [(0, { (default : SvChan) with op := 9 })], stage := some ({ kind := 0, slot := 1, written := 0, write := none, ending := false } : Staging) } }).put
      F.SYS_START_DONE 0), by decide +kernel⟩,
    ⟨((fun (s : State) =>
      { s with sv := { s.sv with queue := [0], chan := [(0, { (default : SvChan) with op := 9 })], stage := some ({ kind := 0, slot := 1, written := 0, write := none, ending := false } : Staging) } })
      ((fun (s : State) =>
      { s with sv := { s.sv with stage := (some ({ kind := 0, slot := 1, written := 0, write := none, ending := false } : Staging)) } })
      up)), by decide +kernel⟩,
    ⟨((fun (s : State) =>
      { s with sv := { s.sv with queue := [0], chan := [(0, { (default : SvChan) with op := 10 })], stage := some ({ kind := 0, slot := 1, written := 0, write := none, ending := false } : Staging) } })
      ((fun (s : State) =>
      { s with sv := { s.sv with stage := (some ({ kind := 0, slot := 1, written := 0, write := none, ending := false } : Staging)) } })
      up)), by decide +kernel⟩,
    ⟨((fun (s : State) =>
      { s with sv := { s.sv with queue := [0], chan := [(0, { (default : SvChan) with op := 10 })], stage := some ({ kind := 0, slot := 1, written := 0, write := (some (0, [1#8])), ending := false } : Staging) } })
      ((fun (s : State) =>
      { s with sv := { s.sv with stage := (some ({ kind := 0, slot := 1, written := 0, write := (some (0, [1#8])), ending := false } : Staging)) } })
      up)), by decide +kernel⟩,
    ⟨((fun (s : State) =>
      ({ s with sv := { s.sv with queue := [0], chan := [(0, { (default : SvChan) with op := 10 })], stage := some ({ kind := 0, slot := 1, written := 0, write := (some (0, [1#8])), ending := false } : Staging) } }).put
      ⟨R.DIAG_MAINT_RUN, 10, 1⟩ 1) ((fun (s : State) =>
      { s with sv := { s.sv with stage := (some ({ kind := 0, slot := 1, written := 0, write := (some (0, [1#8])), ending := false } : Staging)) } })
      up)), by decide +kernel⟩,
    ⟨(({ up with diag := { up.diag with bistNext := 30000 }, sv := { up.sv with queue := [0], chan := [(0, { (default : SvChan) with op := 10 })], stage := some ({ kind := 0, slot := 1, written := 0, write := (some (0, [1#8])), ending := true } : Staging) } }).put
      ⟨R.DIAG_MAINT_RUN, 10, 1⟩ 1), by decide +kernel⟩,
    ⟨up, by decide +kernel⟩,
    ⟨(({ up with sv := { up.sv with queue := [0], chan := [(0, { (default : SvChan) with op := 11 })] } }).put (validF 0 1) 1),
      by decide +kernel⟩,
    ⟨((fun (s : State) => ({ s with sv := { s.sv with queue := [0], chan := [(0, { (default : SvChan) with op := 11 })] } }).puts [(validF
      0 1, 0), (F.SV_BOOT_ACTIVE_FW, 0)]) (up.puts [((validF 0 1), 0)])), by decide +kernel⟩,
    ⟨((fun (s : State) => { s with sv := { s.sv with queue := [0], chan := [(0, { (default : SvChan) with op := 12 })], fwSecver := 1 } })
      (up.puts [(F.SYS_FOYER_IN_FOYER, 0)])), by decide +kernel⟩,
    ⟨((fun (s : State) => { s with sv := { s.sv with queue := [0], chan := [(0, { (default : SvChan) with op := 12 })] } }) (up.puts
      [(F.SYS_FOYER_IN_FOYER, 1)])), by decide +kernel⟩,
    ⟨(up.put (validF 1 1) 1), by decide +kernel⟩,
    ⟨(up.puts [(validF 1 1, 0), (F.SYS_IMG_STATUS_ACTIVE, 0)]), by decide +kernel⟩,
    by decide +kernel,
    ⟨((fun (s : State) => s.put F.SYS_FOYER_IN_FOYER 0) ((up.withSec 0 0 []).wr R.SYS_IMG_SECVER 1#32)), by decide +kernel⟩,
    ⟨up, by decide +kernel⟩⟩

theorem witness_PermitsAndBoot :
    (∃ s : State, s.svTurn (0 : Fin 3) 16 = true ∧ s.svBar (0 : Fin 3) 16 = none ∧ ([3#8, 1#8, 0#8, 0#8] : List Byte).length = 4 ∧ 1 ≤ bU8
      ([3#8, 1#8, 0#8, 0#8] : List Byte) 0 ∧ bU8 ([3#8, 1#8, 0#8, 0#8] : List Byte) 0 ≤ 3 ∧ 1 ≤ bU ([3#8, 1#8, 0#8, 0#8] : List Byte) 1 2
      ∧ bU ([3#8, 1#8, 0#8, 0#8] : List Byte) 1 2 ≤ 3600 ∧ bU8 ([3#8, 1#8, 0#8, 0#8] : List Byte) 3 = 0 ∧ (s.sv.debugLock = true ∨
      s.docPads = false ∨ (bU8 ([3#8, 1#8, 0#8, 0#8] : List Byte) 0 = 3 ∧ s.pins.testMode = false))) ∧
    (∃ s : State, s.svTurn (0 : Fin 3) 17 = true ∧ s.svBar (0 : Fin 3) 17 = none ∧ s.get F.SV_INFO_PERMIT ≠ 0) ∧
    (∃ s : State, s.svTurn (0 : Fin 3) 17 = true ∧ s.svBar (0 : Fin 3) 17 = none ∧ s.get F.SV_INFO_PERMIT ≠ 0) ∧
    (∃ s : State, s.get F.SV_INFO_PERMIT ≠ 0 ∧ s.sv.permitTo ≤ s.mono) ∧
    (∃ s : State, (s.get F.SV_INFO_PERMIT = 0 ∨ s.mono < s.sv.permitTo)) ∧
    (∃ s : State, s.get F.SV_INFO_PERMIT ≠ 3) ∧
    (∃ s : State, s.inPhase 5 = true ∧ s.sv.step = 1) ∧
    (∃ s : State, s.inPhase 5 = true ∧ s.sv.step = 2) ∧
    (∃ s : State, s.inPhase 5 = true ∧ s.sv.step = 3) ∧
    (∃ s : State, s.inPhase 5 = true ∧ s.sv.step = 4) ∧
    (∃ s : State, s.inPhase 5 = true ∧ s.sv.step = 5 ∧ s.slotCheck 0 (s.get F.SV_BOOT_FW_SEL) ≠ 0) ∧
    (∃ s : State, s.inPhase 5 = true ∧ s.sv.step = 6 ∧ s.imgCheck (s.imgBytes (s.get F.SYS_IMG_SELECT_SLOT)) ≠ 0) ∧
    (∃ s : State, s.inPhase 5 = true ∧ s.sv.step = 7 ∧ s.slotCheck 2 0 ≠ 0 ∧ s.slotCheck 2 0 ≠ 0x0C) ∧
    (∃ s : State, s.inPhase 5 = true ∧ s.sv.step = 7 ∧ s.slotCheck 2 0 = 0x0C) ∧
    (∃ s : State, (s.inPhase 5 = false ∨ s.sv.step = 0 ∨ 7 < s.sv.step)) ∧
    (∃ s : State, s.pdOn 7 = true ∧ s.inPhase 5 = false) ∧
    (∃ s : State, s.pdOn 7 = true ∧ s.inPhase 5 = true) :=
  ⟨
    ⟨({ up with sv := { up.sv with queue := [0], chan := [(0, { (default : SvChan) with op := 16 })] } }), by decide +kernel⟩,
    ⟨((fun (s : State) => { s with sv := { s.sv with queue := [0], chan := [(0, { (default : SvChan) with op := 17 })] } }) (up.put
      F.SV_INFO_PERMIT 1)), by decide +kernel⟩,
    ⟨((fun (s : State) => { s with sv := { s.sv with queue := [0], chan := [(0, { (default : SvChan) with op := 17 })] } }) (up.put
      F.SV_INFO_PERMIT 1)), by decide +kernel⟩,
    ⟨(up.puts [(F.SV_INFO_PERMIT, 1)]), by decide +kernel⟩,
    ⟨(up.puts [(F.SV_INFO_PERMIT, 0)]), by decide +kernel⟩,
    ⟨(up.puts [(F.SV_INFO_PERMIT, 0)]), by decide +kernel⟩,
    ⟨((fun (s : State) => { s with sv := { s.sv with step := (1) } }) (up.puts [(F.SYS_START_PHASE, 5)])), by decide +kernel⟩,
    ⟨((fun (s : State) => { s with sv := { s.sv with step := (2) } }) (up.puts [(F.SYS_START_PHASE, 5)])), by decide +kernel⟩,
    ⟨((fun (s : State) => { s with sv := { s.sv with step := (3) } }) (up.puts [(F.SYS_START_PHASE, 5)])), by decide +kernel⟩,
    ⟨((fun (s : State) => { s with sv := { s.sv with step := (4) } }) (up.puts [(F.SYS_START_PHASE, 5)])), by decide +kernel⟩,
    ⟨((fun (s : State) => { s with sv := { s.sv with step := (5) } }) (up.puts [(F.SYS_START_PHASE, 5)])), by decide +kernel⟩,
    ⟨((fun (s : State) => { s with sv := { s.sv with step := (6) } }) (up.puts [(F.SYS_START_PHASE, 5)])), by decide +kernel⟩,
    ⟨{ (up.put F.SYS_START_PHASE 5).wrB 0x10680000 1#8 with sv := { up.sv with step := 7 } }, by decide +kernel⟩,
    ⟨{ (up.put F.SYS_START_PHASE 5) with sv := { up.sv with step := 7 } }, by decide +kernel⟩,
    ⟨up, by decide +kernel⟩,
    ⟨(up.puts [(⟨F.SYS_PD_STATUS_DOMAIN_ON.addr, 7, 1⟩, 1)]), by decide +kernel⟩,
    ⟨(up.puts [(⟨F.SYS_PD_STATUS_DOMAIN_ON.addr, 7, 1⟩, 1), (F.SYS_START_PHASE, 5)]), by decide +kernel⟩⟩

theorem witness_DebugLink :
    (∃ s : State, s.docPads = true ∧ s.pdOn 1 = true ∧ s.sv.held = none ∧ 1 ≤ s.get F.SV_INFO_PERMIT ∧ s.docReads ((0x20000000 : BitVec
      32).toNat / 4 * 4) = true ∧ regionOf ((0x20000000 : BitVec 32).toNat / 4 * 4) ≠ .reg ∧ s.eccBad ((0x20000000 : BitVec 32).toNat / 4
      * 4) = false ∧ (∀ p, regionOf ((0x20000000 : BitVec 32).toNat / 4 * 4) = .tcm p → s.workUndef p ((0x20000000 : BitVec 32).toNat / 4
      * 4) = false)) ∧
    (∃ s : State, s.docPads = true ∧ s.pdOn 1 = true ∧ s.sv.held = none ∧ 1 ≤ s.get F.SV_INFO_PERMIT ∧ s.docReads ((BitVec.ofNat 32
      R.SYS_ID : BitVec 32).toNat / 4 * 4) = true ∧ regionOf ((BitVec.ofNat 32 R.SYS_ID : BitVec 32).toNat / 4 * 4) = .reg) ∧
    (∃ s : State, s.docPads = true ∧ s.pdOn 1 = true ∧ s.sv.held = none ∧ 1 ≤ s.get F.SV_INFO_PERMIT ∧ regionOf ((0x20000000 : BitVec
      32).toNat / 4 * 4) = .sram ∧ s.eccBad ((0x20000000 : BitVec 32).toNat / 4 * 4) = true) ∧
    (∃ s : State, s.docPads = true ∧ s.pdOn 1 = true ∧ s.sv.held = none ∧ 1 ≤ s.get F.SV_INFO_PERMIT ∧ s.docReads ((0 : BitVec 32).toNat /
      4 * 4) = false) ∧
    (∃ s : State, s.docPads = true ∧ s.pdOn 1 = true ∧ s.sv.held = none ∧ s.get F.SV_INFO_PERMIT = 0) ∧
    (∃ s : State, s.docPads = true ∧ s.pdOn 1 = true ∧ s.sv.held = none ∧ 2 ≤ s.get F.SV_INFO_PERMIT ∧ regionOf ((0x20000000 : BitVec
      32).toNat / 4 * 4) = .sram ∧ (memHome (0 : Nat) < memHome ((0x20000000 : BitVec 32).toNat / 4 * 4) ∨ memHome ((0x20000000 : BitVec
      32).toNat / 4 * 4) + 4 ≤ memHome (0 : Nat))) ∧
    (∃ s : State, s.docPads = true ∧ s.pdOn 1 = true ∧ s.sv.held = none ∧ 2 ≤ s.get F.SV_INFO_PERMIT ∧ (s.docReads ((0 : BitVec 32).toNat
      / 4 * 4) && !docReserved ((0 : BitVec 32).toNat / 4 * 4)) = false) ∧
    (∃ s : State, s.docPads = true ∧ s.pdOn 1 = true ∧ s.sv.held = none ∧ s.get F.SV_INFO_PERMIT < 2) ∧
    (∃ s : State, s.docPads = true ∧ s.pdOn 1 = true ∧ s.sv.held = none ∧ (2 : Fin 16).val ≤ 8 ∧ 2 ≤ s.get F.SV_INFO_PERMIT ∧ s.pdOn
      (targetPd (2 : Fin 16)) = true ∧ s.dbgHalted (2 : Fin 16) = false ∧ ((2 : Fin 16) = 8 → s.flag F.METER_CTRL_EN = false ∧ ∀ x : Fin
      4, s.arcOn x = false) ∧ (0 : Fin 14).val ∉ s.dbgUnits (2 : Fin 16)) ∧
    (∃ s : State, s.docPads = true ∧ s.pdOn 1 = true ∧ s.sv.held = none ∧ (2 : Fin 16).val ≤ 8 ∧ 2 ≤ s.get F.SV_INFO_PERMIT ∧ s.pdOn
      (targetPd (2 : Fin 16)) = true ∧ s.dbgHalted (2 : Fin 16) = false ∧ ((2 : Fin 16) = 8 → s.flag F.METER_CTRL_EN = false ∧ ∀ x : Fin
      4, s.arcOn x = false) ∧ (2 : Fin 16).val = 2 + (0 : Fin 6) ∧ 1 ≤ s.lpState (0 : Fin 6) ∧ s.lpState (0 : Fin 6) ≤ 3) ∧
    (∃ s : State, s.docPads = true ∧ s.pdOn 1 = true ∧ s.sv.held = none ∧ (0 : Fin 16).val ≤ 8 ∧ 2 ≤ s.get F.SV_INFO_PERMIT ∧ s.pdOn
      (targetPd (0 : Fin 16)) = true ∧ s.dbgHalted (0 : Fin 16) = false ∧ ((0 : Fin 16) = 8 → s.flag F.METER_CTRL_EN = false ∧ ∀ x : Fin
      4, s.arcOn x = false) ∧ (0 : Fin 16) = 0) ∧
    (∃ s : State, s.docPads = true ∧ s.pdOn 1 = true ∧ s.sv.held = none ∧ 8 < (9 : Fin 16).val) ∧
    (∃ s : State, s.docPads = true ∧ s.pdOn 1 = true ∧ s.sv.held = none ∧ (2 : Fin 16).val ≤ 8 ∧ 2 ≤ s.get F.SV_INFO_PERMIT ∧ s.dbgHalted
      (2 : Fin 16) = true ∧ (0 : Fin 14).val ∈ s.haltUnits (2 : Fin 16) ∧ (∀ j : Fin 9, j.val ≠ (2 : Fin 16).val → s.dbgHalted j = true →
      (0 : Fin 14).val ∉ s.sv.haltUnits.get j) ∧ s.pwmState (0 : Fin 14) = 2) ∧
    (∃ s : State, s.docPads = true ∧ s.pdOn 1 = true ∧ s.sv.held = none ∧ (0 : Fin 16).val ≤ 8 ∧ 2 ≤ s.get F.SV_INFO_PERMIT ∧ s.dbgHalted
      (0 : Fin 16) = true ∧ (0 : Fin 16) = 0 ∧ s.start.wdHeld = some (default)) ∧
    (∃ s : State, s.docPads = true ∧ s.pdOn 1 = true ∧ s.sv.held = none ∧ (0 : Fin 16).val ≤ 8 ∧ 2 ≤ s.get F.SV_INFO_PERMIT ∧ s.dbgHalted
      (0 : Fin 16) = true ∧ ((0 : Fin 14).val ∉ s.haltUnits (0 : Fin 16) ∨ ∃ j : Fin 9, j.val ≠ (0 : Fin 16).val ∧ s.dbgHalted j = true ∧
      (0 : Fin 14).val ∈ s.sv.haltUnits.get j)) ∧
    (∃ s : State, s.docPads = true ∧ s.pdOn 1 = true ∧ s.sv.held = none ∧ (2 : Fin 16).val ≤ 8 ∧ 2 ≤ s.get F.SV_INFO_PERMIT ∧ s.dbgHalted
      (2 : Fin 16) = true ∧ (2 : Fin 16).val = 2 + (0 : Fin 6) ∧ s.lpState (0 : Fin 6) = 5 ∧ (s.loop.get (0 : Fin 6)).saved < 8) ∧
    (∃ s : State, s.docPads = true ∧ s.pdOn 1 = true ∧ s.sv.held = none ∧ (0 : Fin 16).val ≤ 8 ∧ s.get F.SV_INFO_PERMIT < 2) ∧
    (∃ s : State, s.docPads = true ∧ s.pdOn 1 = true ∧ s.sv.held = none ∧ 2 ≤ s.get F.SV_INFO_PERMIT ∧ s.dbgHalted (0 : Fin 2) = true ∧
      s.pdOn (2 + (0 : Fin 2)) = true ∧ (0 : BitVec 32).toNat < 64) ∧
    (∃ s : State, s.docPads = true ∧ s.pdOn 1 = true ∧ s.sv.held = none ∧ 2 ≤ s.get F.SV_INFO_PERMIT ∧ s.dbgHalted (0 : Fin 2) = true ∧
      s.pdOn (2 + (0 : Fin 2)) = true ∧ (1 : BitVec 32).toNat < 32 ∧ (2 : Nat) ≠ (1 : BitVec 32).toNat) ∧
    (∃ s : State, s.docPads = true ∧ s.pdOn 1 = true ∧ s.sv.held = none ∧ 2 ≤ s.get F.SV_INFO_PERMIT ∧ s.dbgHalted (0 : Fin 2) = true ∧
      s.pdOn (2 + (0 : Fin 2)) = true) ∧
    (∃ s : State, s.docPads = true ∧ s.pdOn 1 = true ∧ s.sv.held = none ∧ 2 ≤ s.get F.SV_INFO_PERMIT ∧ s.dbgHalted (0 : Fin 2) = false) ∧
    (∃ s : State, s.docPads = true ∧ s.pdOn 1 = true ∧ s.sv.held = none ∧ 2 ≤ s.get F.SV_INFO_PERMIT ∧ (0 : BitVec 32).toNat < 4 ∧ (1 :
      Nat) ≠ (0 : BitVec 32).toNat) ∧
    (∃ s : State, s.docPads = true ∧ s.pdOn 1 = true ∧ s.sv.held = some (2, (0 : BitVec 32).toNat, 0, (5 : Nat))) :=
  ⟨
    ⟨(up.put F.SV_INFO_PERMIT 2), ⟨by decide +kernel, by decide +kernel, by decide +kernel, by decide +kernel, by decide +kernel,
      by decide +kernel, by decide +kernel, fun p h => by have h' : Region.sram = Region.tcm p := h; cases h'⟩⟩,
    ⟨((fun (s : State) => { s with sv := { s.sv with held := (none) } }) (up.puts [(F.SV_INFO_PERMIT, 2),
      (⟨F.SYS_PD_STATUS_DOMAIN_ON.addr, 1, 1⟩, 1)])), by decide +kernel⟩,
    ⟨{ (up.put F.SV_INFO_PERMIT 2) with ecc := [(0x20000000, true)] }, by decide +kernel⟩,
    ⟨((fun (s : State) => { s with sv := { s.sv with held := (none) } }) (up.puts [(F.SV_INFO_PERMIT, 2),
      (⟨F.SYS_PD_STATUS_DOMAIN_ON.addr, 1, 1⟩, 1)])), by decide +kernel⟩,
    ⟨((fun (s : State) => { s with sv := { s.sv with held := (none) } }) (up.puts [(F.SV_INFO_PERMIT, 2),
      (⟨F.SYS_PD_STATUS_DOMAIN_ON.addr, 1, 1⟩, 1), (F.SV_INFO_PERMIT, 0)])), by decide +kernel⟩,
    ⟨((fun (s : State) => { s with sv := { s.sv with held := (none) } }) (up.puts [(F.SV_INFO_PERMIT, 2),
      (⟨F.SYS_PD_STATUS_DOMAIN_ON.addr, 1, 1⟩, 1)])), by decide +kernel⟩,
    ⟨((fun (s : State) => { s with sv := { s.sv with held := (none) } }) (up.puts [(F.SV_INFO_PERMIT, 2),
      (⟨F.SYS_PD_STATUS_DOMAIN_ON.addr, 1, 1⟩, 1)])), by decide +kernel⟩,
    ⟨((fun (s : State) => s.put F.SV_INFO_PERMIT 1) ((fun (s : State) => { s with sv := { s.sv with held := (none) } }) (up.puts
      [(F.SV_INFO_PERMIT, 2), (⟨F.SYS_PD_STATUS_DOMAIN_ON.addr, 1, 1⟩, 1)]))), by decide +kernel⟩,
    ⟨({ up.puts [(F.SV_INFO_PERMIT, 2)] with sv := { up.sv with held := none, haltAt := [] } }), by decide +kernel⟩,
    ⟨({ up.puts [(F.SV_INFO_PERMIT, 2), (F.LP_STATUS_STATE 0, 1)] with sv := { up.sv with held := none, haltAt := [] } }),
      by decide +kernel⟩,
    ⟨((fun (s : State) => { s with sv := { s.sv with haltAt := s.sv.haltAt.set (0) (0) } }) ((fun (s : State) =>
      { s with sv := { s.sv with held := (none) } }) (up.puts [(F.SV_INFO_PERMIT, 2), (⟨F.SYS_PD_STATUS_DOMAIN_ON.addr, 1, 1⟩, 1),
      (⟨F.SYS_PD_STATUS_DOMAIN_ON.addr, (targetPd 0), 1⟩, 1)]))), by decide +kernel⟩,
    ⟨((fun (s : State) => { s with sv := { s.sv with held := (none) } }) (up.puts [(F.SV_INFO_PERMIT, 2),
      (⟨F.SYS_PD_STATUS_DOMAIN_ON.addr, 1, 1⟩, 1)])), by decide +kernel⟩,
    ⟨{ (up.puts [(F.SV_INFO_PERMIT, 2), (F.PWM_STATUS_STATE 0, 2), (F.LP_STATUS_STATE 0, 5)]) with sv := { up.sv with haltAt := [(2, 1)], haltUnits := [(2, [0])] } },
      by decide +kernel⟩,
    ⟨((fun (s : State) => { s with start := { s.start with wdHeld := (some default) } }) ((fun (s : State) =>
      { s with sv := { s.sv with haltAt := s.sv.haltAt.set (0) (1) } }) ((fun (s : State) =>
      { s with sv := { s.sv with held := (none) } }) (up.puts [(F.SV_INFO_PERMIT, 2), (⟨F.SYS_PD_STATUS_DOMAIN_ON.addr, 1, 1⟩, 1)])))),
      by decide +kernel⟩,
    ⟨((fun (s : State) => { s with sv := { s.sv with haltAt := s.sv.haltAt.set (0) (1) } }) ((fun (s : State) =>
      { s with sv := { s.sv with held := (none) } }) (up.puts [(F.SV_INFO_PERMIT, 2), (⟨F.SYS_PD_STATUS_DOMAIN_ON.addr, 1, 1⟩, 1)]))),
      by decide +kernel⟩,
    ⟨{ (up.puts [(F.SV_INFO_PERMIT, 2), (F.PWM_STATUS_STATE 0, 2), (F.LP_STATUS_STATE 0, 5)]) with sv := { up.sv with haltAt := [(2, 1)], haltUnits := [(2, [0])] } },
      by decide +kernel⟩,
    ⟨((fun (s : State) => s.put F.SV_INFO_PERMIT 1) ((fun (s : State) => { s with sv := { s.sv with held := (none) } }) (up.puts
      [(F.SV_INFO_PERMIT, 2), (⟨F.SYS_PD_STATUS_DOMAIN_ON.addr, 1, 1⟩, 1)]))), by decide +kernel⟩,
    ⟨((fun (s : State) => { s with sv := { s.sv with haltAt := s.sv.haltAt.set (0) (1) } }) ((fun (s : State) =>
      { s with sv := { s.sv with held := (none) } }) (up.puts [(F.SV_INFO_PERMIT, 2), (⟨F.SYS_PD_STATUS_DOMAIN_ON.addr, 1, 1⟩, 1),
      (⟨F.SYS_PD_STATUS_DOMAIN_ON.addr, (2 + 0), 1⟩, 1)]))), by decide +kernel⟩,
    ⟨({ up.puts [(F.SV_INFO_PERMIT, 2)] with sv := { up.sv with held := none, haltAt := [(0, 1)] } }), by decide +kernel⟩,
    ⟨((fun (s : State) => { s with sv := { s.sv with haltAt := s.sv.haltAt.set (0) (1) } }) ((fun (s : State) =>
      { s with sv := { s.sv with held := (none) } }) (up.puts [(F.SV_INFO_PERMIT, 2), (⟨F.SYS_PD_STATUS_DOMAIN_ON.addr, 1, 1⟩, 1),
      (⟨F.SYS_PD_STATUS_DOMAIN_ON.addr, (2 + 0), 1⟩, 1)]))), by decide +kernel⟩,
    ⟨((fun (s : State) => { s with sv := { s.sv with haltAt := s.sv.haltAt.set (0) (0) } }) ((fun (s : State) =>
      { s with sv := { s.sv with held := (none) } }) (up.puts [(F.SV_INFO_PERMIT, 2), (⟨F.SYS_PD_STATUS_DOMAIN_ON.addr, 1, 1⟩, 1)]))),
      by decide +kernel⟩,
    ⟨((fun (s : State) => { s with sv := { s.sv with held := (none) } }) (up.puts [(F.SV_INFO_PERMIT, 2),
      (⟨F.SYS_PD_STATUS_DOMAIN_ON.addr, 1, 1⟩, 1)])), by decide +kernel⟩,
    ⟨{ up with sv := { up.sv with held := some (2, 0, 0, 5) } }, by decide +kernel⟩⟩

theorem witness_DocentFrames :
    (∃ s : State, s.docPads = true ∧ s.pdOn 1 = true ∧ s.pdOn 11 = true ∧ ([1#8] : List Byte) ≠ [] ∧ ([1#8] : List Byte).length ≤ 4096 ∧
      s.flag F.COURH_STATUS_H2D_FULL = false ∧ ((0 : Nat) < R.COURH_H2D_BUF ∨ R.COURH_H2D_BUF + ([1#8] : List Byte).length ≤ (0 : Nat))) ∧
    (∃ s : State, s.docPads = true ∧ s.pdOn 1 = true ∧ s.pdOn 11 = true ∧ ([1#8] : List Byte) ≠ [] ∧ s.flag F.COURH_STATUS_H2D_FULL =
      true) ∧
    (∃ s : State, s.docPads = true ∧ s.pdOn 1 = true ∧ ((Instr.svcPermitFrame, 0x10) : Instr × Nat) ∈ [(Instr.svcPermitFrame, 0x10),
      (.svcPermitEndFrame, 0x11)] ∧ s.pdOn 7 = true ∧ s.svBusy 2 = false) ∧
    (∃ s : State, s.docPads = true ∧ s.pdOn 1 = true ∧ ((Instr.svcPermitFrame, 0x10) : Instr × Nat) ∈ [(Instr.svcPermitFrame, 0x10),
      (.svcPermitEndFrame, 0x11)] ∧ s.pdOn 7 = true ∧ s.svBusy 2 = true) ∧
    (∃ s : State, s.docPads = false ∧ (Instr.docStatus : Instr) ∈ [Instr.docStatus, .docIdcode, .docRead (0 : BitVec 32) (true : Bool),
      .docWrite (0 : BitVec 32) (0 : BitVec 32) (true : Bool), .docHalt (0 : Fin 16), .docResume (0 : Fin 16), .docStep (0 : Fin 16),
      .docRegRead (0 : Fin 16) (0 : BitVec 32), .docRegWrite (0 : Fin 16) (0 : BitVec 32) (0 : BitVec 32), .docBpSet (0 : Fin 16) (0 :
      BitVec 32) (0 : BitVec 32), .docBpClear (0 : Fin 16) (0 : BitVec 32), .docCrcError, .svcCourierFrame ([] : List Byte),
      .svcPermitFrame, .svcPermitEndFrame, .svcBadFrame]) :=
  ⟨
    ⟨(up.puts [(F.SV_INFO_PERMIT, 2), (⟨F.SYS_PD_STATUS_DOMAIN_ON.addr, 1, 1⟩, 1), (⟨F.SYS_PD_STATUS_DOMAIN_ON.addr, 11, 1⟩, 1),
      (F.COURH_STATUS_H2D_FULL, 0)]), by decide +kernel⟩,
    ⟨(up.puts [(F.SV_INFO_PERMIT, 2), (⟨F.SYS_PD_STATUS_DOMAIN_ON.addr, 1, 1⟩, 1), (⟨F.SYS_PD_STATUS_DOMAIN_ON.addr, 11, 1⟩, 1),
      (F.COURH_STATUS_H2D_FULL, 1)]), by decide +kernel⟩,
    ⟨up, by decide +kernel⟩,
    ⟨((fun (s : State) => { s with sv := { s.sv with queue := [2], chan := [(2, { (default : SvChan) with op := 1 })] } }) (up.puts
      [(F.SV_INFO_PERMIT, 2), (⟨F.SYS_PD_STATUS_DOMAIN_ON.addr, 1, 1⟩, 1), (⟨F.SYS_PD_STATUS_DOMAIN_ON.addr, 7, 1⟩, 1)])),
      by decide +kernel⟩,
    ⟨(up.withSec 0 0 []), by decide +kernel⟩⟩

theorem witness_RegisterWrites :
    (∃ s : State, s.pdOn 1 = true ∧ (R.CLK_STATUS : Nat) ∈ [R.CLK_STATUS, R.SYS_ID, R.SYS_PD_STATUS, R.CUR_STATUS, R.WARDEN_STATUS,
      R.SENSP_WG_CFG 0] ∧ ((R.CLK_STATUS : Nat) = R.SENSP_WG_CFG 0 → s.pdOn 8 = true)) ∧
    (((.hpa : Initiator) = .hpa ∨ (.hpa : Initiator) = .hpb ∨ (.hpa : Initiator) = .hspi) ∧ regionOf ((0x20000000 : BitVec 32).toNat / 4 *
      4) = .sram ∧ (memHome (0 : Nat) < memHome ((0x20000000 : BitVec 32).toNat / 4 * 4) ∨ memHome ((0x20000000 : BitVec 32).toNat / 4 *
      4) + 4 ≤ memHome (0 : Nat))) ∧
    (∃ s : State, s.coreWrites 0 ((0 : BitVec 32).toNat / 4 * 4) = false ∧ ((0 : BitVec 32).toNat / 4 * 4 < 0x10FE0000 ∨ 0x10FF1000 ≤ (0 :
      BitVec 32).toNat / 4 * 4)) ∧
    (∃ s : State, ((.hspi : Initiator) = .hspi ∨ (.hspi : Initiator) = .courier) ∧ s.hostWrites (.hspi : Initiator) ((0 : BitVec 32).toNat
      / 4 * 4) = false ∧ ((0 : BitVec 32).toNat / 4 * 4 < 0x10FE0000 ∨ 0x10FF1000 ≤ (0 : BitVec 32).toNat / 4 * 4)) ∧
    ((.hpb : Initiator) ≠ .hpa) :=
  ⟨
    ⟨(up.puts [(⟨F.SYS_PD_STATUS_DOMAIN_ON.addr, 1, 1⟩, 1)]), by decide +kernel⟩,
    by decide +kernel,
    ⟨up, by decide +kernel⟩,
    ⟨up, by decide +kernel⟩,
    by decide +kernel⟩

theorem witness_HostAndPins :
    (∃ s : State, s.hspiOut = true ∧ s.hspiLocked = false ∧ (0x20000000 : BitVec 32).toNat % 4 = 0 ∧ 0x20000000 ≤ (0x20000000 : BitVec
      32).toNat ∧ (0x20000000 : BitVec 32).toNat + 4 * (1 : Nat) ≤ 0x20400000 ∧ (∀ k < 1, s.eccBad (0x20000000 + 4 * k) = false)) ∧
    (∃ s : State, s.hspiOut = true ∧ s.hspiLocked = true) ∧
    (∃ s : State, s.hspiOut = true ∧ s.flag F.COURH_STATUS_D2H_FULL = true) ∧
    (∃ s : State, s.hspiOut = true ∧ s.flag F.COURH_STATUS_D2H_FULL = false) ∧
    (∃ s : State, s.hspiOut = false) ∧
    (∃ s : State, s.pdOn 11 = true ∧ s.hspiLocked = false ∧ (0x20000000 : BitVec 32).toNat % 4 = 0 ∧ 0x20000000 ≤ (0x20000000 : BitVec
      32).toNat ∧ (0x20000000 : BitVec 32).toNat + 4 * ([1#32] : List Word).length ≤ 0x203FC000 ∧ (0 : Fin 8) < ([1#32] : List
      Word).length) ∧
    (∃ s : State, s.pdOn 11 = true ∧ s.hspiLocked = false ∧ (0x20000000 : BitVec 32).toNat % 4 = 0 ∧ 0x20000000 ≤ (0x20000000 : BitVec
      32).toNat ∧ (0x20000000 : BitVec 32).toNat + 4 * ([1#32] : List Word).length ≤ 0x203FC000 ∧ (memHome (0 : Nat) < (0x20000000 :
      BitVec 32).toNat ∨ (0x20000000 : BitVec 32).toNat + 4 * ([1#32] : List Word).length ≤ memHome (0 : Nat))) ∧
    (∃ s : State, s.pdOn 11 = true ∧ s.hspiLocked = true) ∧
    (∃ s : State, s.pdOn 11 = true ∧ ([1#8] : List Byte) ≠ [] ∧ ([1#8] : List Byte).length ≤ 4096 ∧ s.flag F.COURH_STATUS_H2D_FULL = false
      ∧ ((0 : Nat) < R.COURH_H2D_BUF ∨ R.COURH_H2D_BUF + ([1#8] : List Byte).length ≤ (0 : Nat))) ∧
    (∃ s : State, s.pdOn 11 = true ∧ ([1#8] : List Byte) ≠ [] ∧ s.flag F.COURH_STATUS_H2D_FULL = true) ∧
    (∃ s : State, s.pdOn 11 = true ∧ bitOf (1 : Word).toNat 0 = true) ∧
    (∃ s : State, s.pdOn 11 = true ∧ bitOf (0#32 : Word).toNat 15 = false) ∧
    (∃ s : State, s.pdOn 11 = true ∧ bitOf (0x8000 : Word).toNat 15 = true ∧ s.docPads = true) ∧
    (∃ s : State, s.pdOn 11 = true ∧ (.hpb : Initiator) ≠ .hpa) ∧
    (∃ s : State, s.pdOn 11 = false) ∧
    (∃ s : State, s.pdOn 1 = true ∧ s.padFn (0 : Fin 8) = 1 ∧ (s.padDrive (0 : Fin 8)).1 = false ∧ bitOf s.pins.gpio (0 : Fin 8) ≠ (true :
      Bool)) ∧
    (∃ s : State, (s.pdOn 1 = false ∨ s.padFn (0 : Fin 8) ≠ 1 ∨ (s.padDrive (0 : Fin 8)).1 = true ∨ bitOf s.pins.gpio (0 : Fin 8) =
      (default))) :=
  ⟨
    ⟨(up.put F.COURH_HSPI_CFG_LOCK 0), by decide +kernel⟩,
    ⟨(up.puts [(F.COURH_HSPI_CFG_LOCK, 1)]), by decide +kernel⟩,
    ⟨(up.puts [(F.COURH_STATUS_D2H_FULL, 1)]), by decide +kernel⟩,
    ⟨(up.puts [(F.COURH_STATUS_D2H_FULL, 0)]), by decide +kernel⟩,
    ⟨(up.put (padHoldF 11) 1), by decide +kernel⟩,
    ⟨(up.puts [(⟨F.SYS_PD_STATUS_DOMAIN_ON.addr, 11, 1⟩, 1), (F.COURH_HSPI_CFG_LOCK, 0)]), by decide +kernel⟩,
    ⟨(up.puts [(⟨F.SYS_PD_STATUS_DOMAIN_ON.addr, 11, 1⟩, 1), (F.COURH_HSPI_CFG_LOCK, 0)]), by decide +kernel⟩,
    ⟨(up.puts [(⟨F.SYS_PD_STATUS_DOMAIN_ON.addr, 11, 1⟩, 1), (F.COURH_HSPI_CFG_LOCK, 1)]), by decide +kernel⟩,
    ⟨(up.puts [(⟨F.SYS_PD_STATUS_DOMAIN_ON.addr, 11, 1⟩, 1), (F.COURH_STATUS_H2D_FULL, 0)]), by decide +kernel⟩,
    ⟨(up.puts [(⟨F.SYS_PD_STATUS_DOMAIN_ON.addr, 11, 1⟩, 1), (F.COURH_STATUS_H2D_FULL, 1)]), by decide +kernel⟩,
    ⟨(up.puts [(⟨F.SYS_PD_STATUS_DOMAIN_ON.addr, 11, 1⟩, 1)]), by decide +kernel⟩,
    ⟨(up.puts [(⟨F.SYS_PD_STATUS_DOMAIN_ON.addr, 11, 1⟩, 1)]), by decide +kernel⟩,
    ⟨(up.puts [(⟨F.SYS_PD_STATUS_DOMAIN_ON.addr, 11, 1⟩, 1), (F.SV_INFO_PERMIT, 2)]), by decide +kernel⟩,
    ⟨(up.puts [(⟨F.SYS_PD_STATUS_DOMAIN_ON.addr, 11, 1⟩, 1)]), by decide +kernel⟩,
    ⟨(up.puts [(⟨F.SYS_PD_STATUS_DOMAIN_ON.addr, 11, 1⟩, 0)]), by decide +kernel⟩,
    ⟨((fun (s : State) => (s.withSec Sec.pads 0 (placed 0x40 [(0, 1, 1)])).puts [(padHoldF 1, 0)]) (up.puts
      [(⟨F.SYS_PD_STATUS_DOMAIN_ON.addr, 1, 1⟩, 1)])), by decide +kernel⟩,
    ⟨(up.puts [(⟨F.SYS_PD_STATUS_DOMAIN_ON.addr, 1, 1⟩, 0)]), by decide +kernel⟩⟩

theorem witness_CourierReads :
    (∃ s : State, Asked ((⟨.host, true, 7, 3, 0xFFFE⟩ : MsgHdr) : MsgHdr) s ∧ (leBytes 4 0x20000000 ++ leBytes 2 1 : List Byte).length = 6
      ∧ 1 ≤ bU (leBytes 4 0x20000000 ++ leBytes 2 1 : List Byte) 4 2 ∧ bU (leBytes 4 0x20000000 ++ leBytes 2 1 : List Byte) 4 2 ≤ 1018 ∧
      bU (leBytes 4 0x20000000 ++ leBytes 2 1 : List Byte) 0 4 % 4 = 0 ∧ 0x20000000 ≤ bU (leBytes 4 0x20000000 ++ leBytes 2 1 : List Byte)
      0 4 ∧ bU (leBytes 4 0x20000000 ++ leBytes 2 1 : List Byte) 0 4 + 4 * bU (leBytes 4 0x20000000 ++ leBytes 2 1 : List Byte) 4 2 ≤
      0x20400000 ∧ (∀ k, k < bU (leBytes 4 0x20000000 ++ leBytes 2 1 : List Byte) 4 2 → s.eccBad (bU (leBytes 4 0x20000000 ++ leBytes 2 1
      : List Byte) 0 4 + 4 * k) = false)) ∧
    (∃ s : State, Asked ((⟨.host, true, 7, 3, 0xFFFE⟩ : MsgHdr) : MsgHdr) s ∧ (([] : List Byte).length ≠ 6 ∨ bU ([] : List Byte) 4 2 = 0 ∨
      1018 < bU ([] : List Byte) 4 2)) ∧
    (∃ s : State, Asked ((⟨.host, true, 7, 3, 0xFFFE⟩ : MsgHdr) : MsgHdr) s ∧ (leBytes 4 0 ++ leBytes 2 1 : List Byte).length = 6 ∧ bU
      (leBytes 4 0 ++ leBytes 2 1 : List Byte) 4 2 = 1 ∧ bU (leBytes 4 0 ++ leBytes 2 1 : List Byte) 0 4 < 0x20000) ∧
    (∃ s : State, Asked ((⟨.host, true, 7, 3, 0xFFFE⟩ : MsgHdr) : MsgHdr) s ∧ (List.replicate 32 0#8 : List Byte).length = 32 ∧ s.svFenced
      = false ∧ s.svBusy 0 = false ∧ s.flag F.SV_INFO_DEVID_READY = true) ∧
    (∃ s : State, Asked ((⟨.host, true, 7, 3, 0xFFFE⟩ : MsgHdr) : MsgHdr) s ∧ s.svFenced = false ∧ s.svBusy 0 = false) ∧
    (∃ s : State, Asked ((⟨.host, true, 7, 3, 0xFFFE⟩ : MsgHdr) : MsgHdr) s ∧ (s.svFenced = true ∨ s.svBusy 0 = true)) ∧
    (∃ s : State, Asked ((⟨.host, true, 7, 3, 0xFFFE⟩ : MsgHdr) : MsgHdr) s ∧ ([0#8, 0#8, 0#8, 0#8, 1#8] : List Byte).length = 5 ∧ 1 ≤ bU8
      ([0#8, 0#8, 0#8, 0#8, 1#8] : List Byte) 4 ∧ bU8 ([0#8, 0#8, 0#8, 0#8, 1#8] : List Byte) 4 ≤ 63) ∧
    (∃ s : State, Asked ((⟨.host, true, 7, 3, 0xFFFE⟩ : MsgHdr) : MsgHdr) s ∧ s.inFoyer = false) ∧
    (∃ s : State, Asked ((⟨.host, true, 7, 3, 0xFFFE⟩ : MsgHdr) : MsgHdr) s ∧ s.inFoyer = true) ∧
    (∃ s : State, Asked ((⟨.host, true, 7, 3, 0xFFFE⟩ : MsgHdr) : MsgHdr) s ∧ courTypes.contains (0x70#8 : BitVec 8).toNat = false) ∧
    (∃ s : State, (Instr.courierInfo (⟨.host, true, 7, 3, 0xFFFE⟩ : MsgHdr) [] : Instr) ∈ [Instr.courierInfo ((⟨.host, true, 7, 3, 0xFFFE⟩
      : MsgHdr) : MsgHdr) ([] : List Byte), .courierRead ((⟨.host, true, 7, 3, 0xFFFE⟩ : MsgHdr) : MsgHdr) ([] : List Byte), .courierWrite
      ((⟨.host, true, 7, 3, 0xFFFE⟩ : MsgHdr) : MsgHdr) ([] : List Byte), .courierAttest ((⟨.host, true, 7, 3, 0xFFFE⟩ : MsgHdr) : MsgHdr)
      ([] : List Byte), .courierDevidCert ((⟨.host, true, 7, 3, 0xFFFE⟩ : MsgHdr) : MsgHdr) ([] : List Byte), .courierLogRead ((⟨.host,
      true, 7, 3, 0xFFFE⟩ : MsgHdr) : MsgHdr) ([] : List Byte), .courierMeterRead ((⟨.host, true, 7, 3, 0xFFFE⟩ : MsgHdr) : MsgHdr) ([] :
      List Byte), .courierReset ((⟨.host, true, 7, 3, 0xFFFE⟩ : MsgHdr) : MsgHdr) ([] : List Byte), .courierStageBegin ((⟨.host, true, 7,
      3, 0xFFFE⟩ : MsgHdr) : MsgHdr) ([] : List Byte), .courierStageData ((⟨.host, true, 7, 3, 0xFFFE⟩ : MsgHdr) : MsgHdr) ([] : List
      Byte), .courierStageEnd ((⟨.host, true, 7, 3, 0xFFFE⟩ : MsgHdr) : MsgHdr) ([] : List Byte), .courierSelect ((⟨.host, true, 7, 3,
      0xFFFE⟩ : MsgHdr) : MsgHdr) ([] : List Byte), .courierConfirm ((⟨.host, true, 7, 3, 0xFFFE⟩ : MsgHdr) : MsgHdr) ([] : List Byte) (0
      : Nat)] ∧ (s.courUp ((⟨.host, true, 7, 3, 0xFFFE⟩ : MsgHdr) : MsgHdr).car = false ∨ s.courFor ((⟨.host, true, 7, 3, 0xFFFE⟩ :
      MsgHdr) : MsgHdr) = false)) ∧
    (∃ s : State, (Instr.courierInfo (⟨.host, true, 7, 3, 0xFFFE⟩ : MsgHdr) [] : Instr) ∈ [Instr.courierInfo ((⟨.host, true, 7, 3, 0xFFFE⟩
      : MsgHdr) : MsgHdr) ([] : List Byte), .courierRead ((⟨.host, true, 7, 3, 0xFFFE⟩ : MsgHdr) : MsgHdr) ([] : List Byte), .courierWrite
      ((⟨.host, true, 7, 3, 0xFFFE⟩ : MsgHdr) : MsgHdr) ([] : List Byte), .courierAttest ((⟨.host, true, 7, 3, 0xFFFE⟩ : MsgHdr) : MsgHdr)
      ([] : List Byte), .courierDevidCert ((⟨.host, true, 7, 3, 0xFFFE⟩ : MsgHdr) : MsgHdr) ([] : List Byte), .courierLogRead ((⟨.host,
      true, 7, 3, 0xFFFE⟩ : MsgHdr) : MsgHdr) ([] : List Byte), .courierMeterRead ((⟨.host, true, 7, 3, 0xFFFE⟩ : MsgHdr) : MsgHdr) ([] :
      List Byte), .courierReset ((⟨.host, true, 7, 3, 0xFFFE⟩ : MsgHdr) : MsgHdr) ([] : List Byte), .courierStageBegin ((⟨.host, true, 7,
      3, 0xFFFE⟩ : MsgHdr) : MsgHdr) ([] : List Byte), .courierStageData ((⟨.host, true, 7, 3, 0xFFFE⟩ : MsgHdr) : MsgHdr) ([] : List
      Byte), .courierStageEnd ((⟨.host, true, 7, 3, 0xFFFE⟩ : MsgHdr) : MsgHdr) ([] : List Byte), .courierSelect ((⟨.host, true, 7, 3,
      0xFFFE⟩ : MsgHdr) : MsgHdr) ([] : List Byte), .courierConfirm ((⟨.host, true, 7, 3, 0xFFFE⟩ : MsgHdr) : MsgHdr) ([] : List Byte) (0
      : Nat)] ∧ s.courUp ((⟨.host, true, 7, 3, 0xFFFE⟩ : MsgHdr) : MsgHdr).car = true ∧ s.courFor ((⟨.host, true, 7, 3, 0xFFFE⟩ : MsgHdr)
      : MsgHdr) = true ∧ s.courKept ((⟨.host, true, 7, 3, 0xFFFE⟩ : MsgHdr) : MsgHdr) = some ((⟨3, 7, [1#8], 1024000000000⟩ : Kept) :
      Kept) ∧ ((⟨3, 7, [1#8], 1024000000000⟩ : Kept) : Kept).rsp ≠ []) ∧
    (∃ s : State, s.courUp ((⟨.host, true, 7, 3, 0xFFFF⟩ : MsgHdr) : MsgHdr).car = true ∧ msgBroad ((⟨.host, true, 7, 3, 0xFFFF⟩ : MsgHdr)
      : MsgHdr) = true ∧ s.courKept ((⟨.host, true, 7, 3, 0xFFFF⟩ : MsgHdr) : MsgHdr) = none) ∧
    (∃ s : State, s.cour.bcast = (((⟨.host, true, 7, 3, 0xFFFE⟩ : MsgHdr) : MsgHdr), (1 : Nat)) :: ([]) ∧ (s.mono < (1 : Nat) ∨ s.courUp
      ((⟨.host, true, 7, 3, 0xFFFE⟩ : MsgHdr) : MsgHdr).car = false)) ∧
    (∃ s : State, s.cour.bcast = ((⟨.host, false, 0#32, 0#16, 0xFFFE#16⟩ : MsgHdr), (default)) :: (default) ∧ (default) ≤ s.mono ∧
      s.courUp (⟨.host, false, 0#32, 0#16, 0xFFFE#16⟩ : MsgHdr).car = true) ∧
    (∃ s : State, s.cour.bcast = []) ∧
    (∃ s : State, s.courUp (.host : Carrier) = true ∧ msgBad ([] : List Byte) = true) ∧
    (∃ s : State, (s.courUp (.host : Carrier) = false ∨ msgBad ([] : List Byte) = false)) :=
  ⟨
    ⟨up, by unfold Asked; decide +kernel⟩,
    ⟨up, by unfold Asked; decide +kernel⟩,
    ⟨up, by unfold Asked; decide +kernel⟩,
    ⟨(up.puts [(F.SV_INFO_DEVID_READY, 1)]), by unfold Asked; decide +kernel⟩,
    ⟨up, by unfold Asked; decide +kernel⟩,
    ⟨(up.wr R.CUR_FENCED_OTHER 4#32), by unfold Asked; decide +kernel⟩,
    ⟨up, by unfold Asked; decide +kernel⟩,
    ⟨(up.puts [(F.SYS_FOYER_IN_FOYER, 0)]), by unfold Asked; decide +kernel⟩,
    ⟨(up.puts [(F.SYS_FOYER_IN_FOYER, 1)]), by unfold Asked; decide +kernel⟩,
    ⟨up, by unfold Asked; decide +kernel⟩,
    ⟨(up.put F.SYS_PD_STATUS_DOMAIN_ON 0), by decide +kernel⟩,
    ⟨({ up with cour := { up.cour with kept := [(⟨3, 7, [1#8], 1024000000000⟩ : Kept)] } }), by decide +kernel⟩,
    ⟨up, by decide +kernel⟩,
    ⟨{ up with epoch := 0, cour := { up.cour with bcast := [((⟨.host, true, 7, 3, 0xFFFE⟩ : MsgHdr), 1)] } }, by decide +kernel⟩,
    ⟨((fun (s : State) => { s with cour := { s.cour with bcast := ((⟨.host, false, 0#32, 0#16, 0xFFFE#16⟩, default) :: default) } }) up),
      by decide +kernel⟩,
    ⟨((fun (s : State) => { s with cour := { s.cour with bcast := ([]) } }) up), by decide +kernel⟩,
    ⟨up, by decide +kernel⟩,
    ⟨(up.put F.SYS_PD_STATUS_DOMAIN_ON 0), by decide +kernel⟩⟩

theorem witness_CourierActions :
    (∃ s : State, Asked (⟨.host, true, 7, 3, 0xFFFE⟩ : MsgHdr) s ∧ ((8, fun p => Instr.courierReset (⟨.host, true, 7, 3, 0xFFFE⟩ : MsgHdr)
      p) : Nat × (List Byte → Instr)) ∈ [(3, fun p => Instr.courierWrite (⟨.host, true, 7, 3, 0xFFFE⟩ : MsgHdr) p), (8, fun p =>
      .courierReset (⟨.host, true, 7, 3, 0xFFFE⟩ : MsgHdr) p), (9, fun p => .courierStageBegin (⟨.host, true, 7, 3, 0xFFFE⟩ : MsgHdr) p),
      (0x0C, fun p => .courierSelect (⟨.host, true, 7, 3, 0xFFFE⟩ : MsgHdr) p), (0x0D, fun p => .courierConfirm (⟨.host, true, 7, 3,
      0xFFFE⟩ : MsgHdr) p 0)] ∧ s.inFoyer = false ∧ ((⟨.host, true, 7, 3, 0xFFFE⟩ : MsgHdr).auth = false ∨ ([] : List Byte).length <
      2500)) ∧
    (∃ s : State, Asked (⟨.host, true, 7, 3, 0xFFFE⟩ : MsgHdr) s ∧ ((8, fun p => Instr.courierReset (⟨.host, true, 7, 3, 0xFFFE⟩ : MsgHdr)
      p) : Nat × (List Byte → Instr)) ∈ [(3, fun p => Instr.courierWrite (⟨.host, true, 7, 3, 0xFFFE⟩ : MsgHdr) p), (8, fun p =>
      .courierReset (⟨.host, true, 7, 3, 0xFFFE⟩ : MsgHdr) p), (9, fun p => .courierStageBegin (⟨.host, true, 7, 3, 0xFFFE⟩ : MsgHdr) p),
      (0x0C, fun p => .courierSelect (⟨.host, true, 7, 3, 0xFFFE⟩ : MsgHdr) p), (0x0D, fun p => .courierConfirm (⟨.host, true, 7, 3,
      0xFFFE⟩ : MsgHdr) p 0)] ∧ s.inFoyer = false ∧ (⟨.host, true, 7, 3, 0xFFFE⟩ : MsgHdr).auth = true ∧ 2500 ≤ (List.replicate 2500
      0#8).length ∧ s.svFenced = false ∧ s.svBusy 0 = false ∧ s.authCheck ((List.replicate 2500 0#8).take 2500) (0x100 + 8)
      ((List.replicate 2500 0#8).drop 2500) = 3) ∧
    (∃ s : State, Asked ((⟨.host, true, 7, 3, 0xFFFE⟩ : MsgHdr) : MsgHdr) s ∧ s.inFoyer = true) ∧
    (∃ s : State, Asked ((⟨.host, true, 7, 3, 0xFFFE⟩ : MsgHdr) : MsgHdr) s ∧ s.svFenced = false ∧ s.svBusy 0 = false ∧ s.cour.session =
      some ((⟨1, 9, 0, 0, false⟩ : CourSession)) ∧ s.sv.stage = some
      (({ kind := 0, slot := 1, written := 0, write := none, ending := false } : Staging)) ∧ 8 < (([1#8, 0#8, 0#8, 0#8, 0#8, 0#8, 0#8,
      0#8, 5#8]) : List Byte).length ∧ bU (([1#8, 0#8, 0#8, 0#8, 0#8, 0#8, 0#8, 0#8, 5#8]) : List Byte) 0 4 = ((⟨1, 9, 0, 0, false⟩ :
      CourSession)).id ∧ bU (([1#8, 0#8, 0#8, 0#8, 0#8, 0#8, 0#8, 0#8, 5#8]) : List Byte) 4 4 = ((⟨1, 9, 0, 0, false⟩ : CourSession)).got
      ∧ ((⟨1, 9, 0, 0, false⟩ : CourSession)).got + ((([1#8, 0#8, 0#8, 0#8, 0#8, 0#8, 0#8, 0#8, 5#8]) : List Byte).length - 8) ≤ ((⟨1, 9,
      0, 0, false⟩ : CourSession)).total ∧ (({ kind := 0, slot := 1, written := 0, write := none, ending := false } : Staging)).write =
      none ∧ (({ kind := 0, slot := 1, written := 0, write := none, ending := false } : Staging)).ending = false ∧
      (({ kind := 0, slot := 1, written := 0, write := none, ending := false } : Staging)).written = ((⟨1, 9, 0, 0, false⟩ :
      CourSession)).got ∧ ((⟨1, 9, 0, 0, false⟩ : CourSession)).got + ((([1#8, 0#8, 0#8, 0#8, 0#8, 0#8, 0#8, 0#8, 5#8]) : List
      Byte).length - 8) ≤ slotSize (({ kind := 0, slot := 1, written := 0, write := none, ending := false } : Staging)).kind ∧
      s.maintAhead s.epoch 10 = [] ∧ s.maintRefusal .staging 10 = none) ∧
    (∃ s : State, s.cour.reset = some ((3 : Nat), (0 : Nat)) ∧ (0 : Nat) ≤ s.mono ∧ s.resetHeld = false ∧ ((3 : Nat) = 1 ∨ (3 : Nat) = 3)
      ∧ s.pdOn 1 = true ∧ s.start.resetAt = none ∧ (3 : Nat) = 3) ∧
    (∃ s : State, (s.cour.reset = none ∨ ∃ k d, s.cour.reset = some (k, d) ∧ s.epoch < d)) ∧
    (∃ s : State, s.cour.event = some ((⟨7, [], 1, 0⟩ : EventMsg) : EventMsg) ∧ s.courUp ((⟨.host, true, 7, 0, 0xFFFE⟩ : MsgHdr) :
      MsgHdr).car = true ∧ s.courFor ((⟨.host, true, 7, 0, 0xFFFE⟩ : MsgHdr) : MsgHdr) = true ∧ ((⟨.host, true, 7, 0, 0xFFFE⟩ : MsgHdr) :
      MsgHdr).txid.toNat = ((⟨7, [], 1, 0⟩ : EventMsg) : EventMsg).txid ∧ ((⟨.host, true, 7, 0, 0xFFFE⟩ : MsgHdr) : MsgHdr).src.toNat =
      s.get F.COURH_EVENT_DST_ADDR) ∧
    (∃ s : State, s.cour.event = none) ∧
    (∃ s : State, s.cour.event = some ((⟨7, [], 3, 1⟩ : EventMsg)) ∧ s.mono < ((⟨7, [], 3, 1⟩ : EventMsg)).next) ∧
    (∃ s : State, s.cour.event = some ((⟨7, [], 1, 0⟩ : EventMsg) : EventMsg) ∧ ((⟨7, [], 1, 0⟩ : EventMsg) : EventMsg).next ≤ s.mono ∧
      (((⟨7, [], 1, 0⟩ : EventMsg) : EventMsg).sent = 1 ∨ ((⟨7, [], 1, 0⟩ : EventMsg) : EventMsg).sent = 2)) ∧
    (∃ s : State, s.cour.event = some ((⟨7, [], 3, 0⟩ : EventMsg)) ∧ ((⟨7, [], 3, 0⟩ : EventMsg)).next ≤ s.mono ∧ ((⟨7, [], 3, 0⟩ :
      EventMsg)).sent = 3) ∧
    (∃ s : State, s.cour.event = some ((⟨7, [], 4, 0⟩ : EventMsg) : EventMsg) ∧ ((⟨7, [], 4, 0⟩ : EventMsg) : EventMsg).next ≤ s.mono ∧ 4
      ≤ ((⟨7, [], 4, 0⟩ : EventMsg) : EventMsg).sent) ∧
    (∃ s : State, s.cour.session = none) ∧
    (∃ s : State, s.cour.session = some ((⟨1, 9, 0, 0, false⟩ : CourSession) : CourSession) ∧ ((⟨1, 9, 0, 0, false⟩ : CourSession) :
      CourSession).last + 48000000000 ≤ s.mono) ∧
    (∃ s : State, s.cour.session = some ((⟨1, 9, 0, 0, false⟩ : CourSession) : CourSession) ∧ s.mono < ((⟨1, 9, 0, 0, false⟩ :
      CourSession) : CourSession).last + 48000000000) :=
  ⟨
    ⟨up.put F.SYS_FOYER_IN_FOYER 0, (by unfold Asked; decide +kernel), .tail _ (.head _), by decide +kernel⟩,
    ⟨up.put F.SYS_FOYER_IN_FOYER 0, (by unfold Asked; decide +kernel), .tail _ (.head _), by decide +kernel⟩,
    ⟨(up.put F.SYS_FOYER_IN_FOYER 1), by unfold Asked; decide +kernel⟩,
    ⟨({ up with diag := { up.diag with bistNext := 30000 }, cour := { up.cour with session := some (⟨1, 9, 0, 0, false⟩ : CourSession) }, sv := { up.sv with stage := some ({ kind := 0, slot := 1, written := 0, write := none, ending := false } : Staging) } }),
      ⟨by unfold Asked; decide +kernel, by decide +kernel, by decide +kernel, by decide +kernel, by decide +kernel, by decide +kernel,
      by decide +kernel, by decide +kernel, by decide +kernel, by decide +kernel, by decide +kernel, by decide +kernel, by decide +kernel,
      by decide +kernel, by decide +kernel⟩⟩,
    ⟨({ up with cour := { up.cour with reset := some (3, 0) } }), by decide +kernel⟩,
    ⟨up, .inl (by decide +kernel)⟩,
    ⟨({ up with cour := { up.cour with event := some (⟨7, [], 1, 0⟩ : EventMsg) } }), by decide +kernel⟩,
    ⟨up, by decide +kernel⟩,
    ⟨{ up with epoch := 0, cour := { up.cour with event := some (⟨7, [], 3, 1⟩ : EventMsg) } }, by decide +kernel⟩,
    ⟨({ up with cour := { up.cour with event := some (⟨7, [], 1, 0⟩ : EventMsg) } }), by decide +kernel⟩,
    ⟨{ up with cour := { up.cour with event := some (⟨7, [], 3, 0⟩ : EventMsg) } }, by decide +kernel⟩,
    ⟨({ up with cour := { up.cour with event := some (⟨7, [], 4, 0⟩ : EventMsg) } }), by decide +kernel⟩,
    ⟨((fun (s : State) => { s with cour := { s.cour with session := (none) } }) up), by decide +kernel⟩,
    ⟨({ up with cour := { up.cour with session := some (⟨1, 9, 0, 0, false⟩ : CourSession) } }), by decide +kernel⟩,
    ⟨({ up with epoch := 0, cour := { up.cour with session := some (⟨1, 9, 0, 0, false⟩ : CourSession) } }), by decide +kernel⟩⟩

theorem witness_PowerlineFrames :
    (∃ s : State, s.cour.queue = ((⟨3, false, 0, [7#8, 0#8, 0#8, 0#8], 0⟩ : PlcFrame)) :: ([]) ∧ s.plcOn = true ∧ s.plcBusy = false ∧
      (s.plState ≠ 1 ∨ s.flag F.PLINTH_STATUS_XMIT_OK = true) ∧ s.cour.reset = some ((1 : Nat), (0 : Nat)) ∧ s.cour.resetTx = some (bU
      ((⟨3, false, 0, [7#8, 0#8, 0#8, 0#8], 0⟩ : PlcFrame)).bytes 0 4)) ∧
    (∃ s : State, s.cour.queue = ((⟨3, false, 0, [7#8, 0#8, 0#8, 0#8], 0⟩ : PlcFrame)) :: ([]) ∧ s.plcOn = true ∧ s.plcBusy = false ∧
      (s.plState ≠ 1 ∨ s.flag F.PLINTH_STATUS_XMIT_OK = true) ∧ s.cour.resetTx ≠ some (bU ((⟨3, false, 0, [7#8, 0#8, 0#8, 0#8], 0⟩ :
      PlcFrame)).bytes 0 4)) ∧
    (∃ s : State, s.cour.queue = (default) :: (default) ∧ s.plcOn = true ∧ s.plcBusy = false ∧ s.plState = 1 ∧ s.flag
      F.PLINTH_STATUS_XMIT_OK = false) ∧
    (∃ s : State, (s.cour.queue = [] ∨ s.plcOn = false ∨ s.plcBusy = true)) ∧
    (∃ s : State, s.cour.frame = some ((⟨5, true, 4, [], 0⟩ : PlcFrame) : PlcFrame) ∧ s.plcOn = true ∧ s.plcBusy = false ∧ ((⟨5, true, 4,
      [], 0⟩ : PlcFrame) : PlcFrame).ack = true ∧ ((⟨5, true, 4, [], 0⟩ : PlcFrame) : PlcFrame).retries < 5) ∧
    (∃ s : State, s.cour.frame = some ((⟨5, true, 5, [], 0⟩ : PlcFrame) : PlcFrame) ∧ s.plcOn = true ∧ s.plcBusy = false ∧ ((⟨5, true, 5,
      [], 0⟩ : PlcFrame) : PlcFrame).ack = true ∧ 5 ≤ ((⟨5, true, 5, [], 0⟩ : PlcFrame) : PlcFrame).retries) ∧
    (∃ s : State, s.cour.frame = none) ∧
    (∃ s : State, s.plcOn = true ∧ s.plcBusy = true) ∧
    (∃ s : State, (s.plcOn = false ∨ s.plcBusy = false)) ∧
    (∃ s : State, s.plcOn = true) ∧
    (∃ s : State, s.plcOn = true ∧ s.pdOn 11 = true ∧ segOk ([7#8, 0#8, 0#8, 0#8, 0#8, 1#8, 0#8, 0#8, 9#8] : List Byte) = true ∧ bU8
      ([7#8, 0#8, 0#8, 0#8, 0#8, 1#8, 0#8, 0#8, 9#8] : List Byte) 5 = 1 ∧ ((0xFFFF#16 : BitVec 16).toNat = s.ownAddr ∨ (0xFFFF#16 : BitVec
      16) = 0xFFFF#16) ∧ s.reasmExpire.cour.reasm.find? (segOf (3#16 : BitVec 16).toNat ([7#8, 0#8, 0#8, 0#8, 0#8, 1#8, 0#8, 0#8, 9#8] :
      List Byte)) = none ∧ s.reasmExpire.cour.reasm.length < 4) ∧
    (∃ s : State, s.plcOn = true ∧ s.pdOn 11 = true ∧ segOk ([7#8, 0#8, 0#8, 0#8, 0#8, 2#8, 0#8, 0#8, 9#8] : List Byte) = true ∧ 1 < bU8
      ([7#8, 0#8, 0#8, 0#8, 0#8, 2#8, 0#8, 0#8, 9#8] : List Byte) 5 ∧ (0#16 : BitVec 16).toNat = s.ownAddr ∧
      s.reasmExpire.cour.reasm.find? (segOf (3#16 : BitVec 16).toNat ([7#8, 0#8, 0#8, 0#8, 0#8, 2#8, 0#8, 0#8, 9#8] : List Byte)) = none ∧
      s.reasmExpire.cour.reasm.length < 4) ∧
    (∃ s : State, s.plcOn = true ∧ s.pdOn 11 = true ∧ segOk ([7#8, 0#8, 0#8, 0#8, 0#8, 2#8, 0#8, 0#8, 9#8] : List Byte) = true ∧ (0#16 :
      BitVec 16).toNat = s.ownAddr ∧ s.reasmExpire.cour.reasm.find? (segOf (3#16 : BitVec 16).toNat ([7#8, 0#8, 0#8, 0#8, 0#8, 2#8, 0#8,
      0#8, 9#8] : List Byte)) = some ((⟨3, 7, 2, [], 1024000000001⟩ : Reasm)) ∧ ((⟨3, 7, 2, [], 1024000000001⟩ : Reasm)).count = bU8
      ([7#8, 0#8, 0#8, 0#8, 0#8, 2#8, 0#8, 0#8, 9#8] : List Byte) 5 ∧ (((⟨3, 7, 2, [], 1024000000001⟩ : Reasm)).add ([7#8, 0#8, 0#8, 0#8,
      0#8, 2#8, 0#8, 0#8, 9#8] : List Byte)).full = false) ∧
    (∃ s : State, s.plcOn = true ∧ s.pdOn 11 = true ∧ segOk ([7#8, 0#8, 0#8, 0#8, 0#8, 2#8, 0#8, 0#8, 9#8] : List Byte) = true ∧ (0#16 :
      BitVec 16).toNat = s.ownAddr ∧ s.reasmExpire.cour.reasm.find? (segOf (3#16 : BitVec 16).toNat ([7#8, 0#8, 0#8, 0#8, 0#8, 2#8, 0#8,
      0#8, 9#8] : List Byte)) = some ((⟨3, 7, 2, [(1, [8#8])], 1024000000001⟩ : Reasm)) ∧ ((⟨3, 7, 2, [(1, [8#8])], 1024000000001⟩ :
      Reasm)).count = bU8 ([7#8, 0#8, 0#8, 0#8, 0#8, 2#8, 0#8, 0#8, 9#8] : List Byte) 5 ∧ (((⟨3, 7, 2, [(1, [8#8])], 1024000000001⟩ :
      Reasm)).add ([7#8, 0#8, 0#8, 0#8, 0#8, 2#8, 0#8, 0#8, 9#8] : List Byte)).full = true) ∧
    (∃ s : State, s.plcOn = true ∧ s.pdOn 11 = true ∧ segOk ([7#8, 0#8, 0#8, 0#8, 0#8, 2#8, 0#8, 0#8, 9#8] : List Byte) = true ∧ (0#16 :
      BitVec 16).toNat = s.ownAddr ∧ s.reasmExpire.cour.reasm.find? (segOf (3#16 : BitVec 16).toNat ([7#8, 0#8, 0#8, 0#8, 0#8, 2#8, 0#8,
      0#8, 9#8] : List Byte)) = none ∧ 4 ≤ s.reasmExpire.cour.reasm.length) ∧
    (∃ s : State, s.plcOn = false) :=
  ⟨
    ⟨(up.puts []) |> fun s =>
      { s with cour := { s.cour with queue := [(⟨3, false, 0, [7#8, 0#8, 0#8, 0#8], 0⟩ : PlcFrame)], reset := some (1, 0), resetTx := some 7 } },
      by decide +kernel⟩,
    ⟨{ up with cour := { up.cour with queue := [(⟨3, false, 0, [7#8, 0#8, 0#8, 0#8], 0⟩ : PlcFrame)] } }, by decide +kernel⟩,
    ⟨((fun (s : State) => { s with cour := { s.cour with queue := (default :: default) } }) (up.puts [(F.PLINTH_STATUS_STATE, 1),
      (F.PLINTH_STATUS_XMIT_OK, 0)])), by decide +kernel⟩,
    ⟨((fun (s : State) => { s with cour := { s.cour with queue := ([]) } }) up), by decide +kernel⟩,
    ⟨({ up with cour := { up.cour with frame := some (⟨5, true, 4, [], 0⟩ : PlcFrame) } }), by decide +kernel⟩,
    ⟨({ up with cour := { up.cour with frame := some (⟨5, true, 5, [], 0⟩ : PlcFrame) } }), by decide +kernel⟩,
    ⟨((fun (s : State) => { s with cour := { s.cour with frame := (none) } }) up), by decide +kernel⟩,
    ⟨({ up with cour := { up.cour with frame := some (⟨5, true, 0, [], 10000000000000⟩ : PlcFrame) } }), by decide +kernel⟩,
    ⟨up, by decide +kernel⟩,
    ⟨up, by decide +kernel⟩,
    ⟨((fun (s : State) => s.put F.PLC_ADDR_SHORT 0) (up.puts [(⟨F.SYS_PD_STATUS_DOMAIN_ON.addr, 11, 1⟩, 1)])), by decide +kernel⟩,
    ⟨((fun (s : State) => s.put F.PLC_ADDR_SHORT 0) (up.puts [(⟨F.SYS_PD_STATUS_DOMAIN_ON.addr, 11, 1⟩, 1)])), by decide +kernel⟩,
    ⟨{ up.put F.PLC_ADDR_SHORT 0 with cour := { up.cour with reasm := [(⟨3, 7, 2, [], 1024000000001⟩ : Reasm)] } }, by decide +kernel⟩,
    ⟨{ up.put F.PLC_ADDR_SHORT 0 with cour := { up.cour with reasm := [(⟨3, 7, 2, [(1, [8#8])], 1024000000001⟩ : Reasm)] } },
      by decide +kernel⟩,
    ⟨{ up.put F.PLC_ADDR_SHORT 0 with cour := { up.cour with reasm := [(⟨4, 7, 2, [(1, [8#8])], 1024000000001⟩ : Reasm), (⟨4, 7, 2, [(1, [8#8])], 1024000000001⟩ : Reasm), (⟨4, 7, 2, [(1, [8#8])], 1024000000001⟩ : Reasm), (⟨4, 7, 2, [(1, [8#8])], 1024000000001⟩ : Reasm)] } },
      by decide +kernel⟩,
    ⟨(up.put F.PLC_CTRL_EN 0), by decide +kernel⟩⟩

theorem witness_TimeTransfer :
    (∃ s : State, s.plcOn = true ∧ s.flag F.PLC_TT_CFG_EN = true ∧ s.get F.EPOCH_CTRL_MODE = 2 ∧ s.cour.ttNext ≤ s.mono ∧ s.plcBusy =
      false ∧ s.cour.ttWait = none ∧ s.plState ≠ 1) ∧
    (∃ s : State, s.plcOn = true ∧ s.flag F.PLC_TT_CFG_EN = true ∧ s.get F.EPOCH_CTRL_MODE = 2 ∧ s.cour.ttNext ≤ s.mono ∧ s.plcBusy =
      false ∧ s.cour.ttWait = some (default) ∧ s.plState ≠ 1) ∧
    (∃ s : State, (s.plcOn = false ∨ s.flag F.PLC_TT_CFG_EN = false ∨ s.get F.EPOCH_CTRL_MODE ≠ 2 ∨ s.mono < s.cour.ttNext ∨ s.plcBusy =
      true)) ∧
    (∃ s : State, s.plcOn = true ∧ s.flag F.PLC_TT_CFG_MASTER = true ∧ (0 : BitVec 16).toNat = s.ownAddr) ∧
    (∃ s : State, (s.plcOn = false ∨ s.flag F.PLC_TT_CFG_MASTER = false ∨ (0 : BitVec 16).toNat ≠ s.ownAddr)) ∧
    (∃ s : State, s.cour.ttRsp = ((default), (default), (default), (default)) :: (default) ∧ s.plcOn = true ∧ (default) ≤ s.epoch ∧
      s.plcBusy = false ∧ s.plState ≠ 1) ∧
    (∃ s : State, s.cour.ttWait = some ((0), (0)) ∧ s.plcOn = true ∧ (0 : BitVec 16).toNat = s.ownAddr ∧ (0 : BitVec 16).toNat = s.get
      F.PLC_TT_CFG_MASTER_ADDR ∧ ttOk (0) (0) (40000000) (40000000) true = true ∧ s.get F.EPOCH_CTRL_MODE = 2 ∧ ((((0) : Int) - (0)) +
      (((40000000) : Int) - (40000000))).natAbs ≤ 800000 ∧ s.ep.ttLast = none) ∧
    (∃ s : State, s.cour.ttWait = some ((0), (0)) ∧ s.plcOn = true ∧ (0 : BitVec 16).toNat = s.ownAddr ∧ (0 : BitVec 16).toNat = s.get
      F.PLC_TT_CFG_MASTER_ADDR ∧ ttOk (0) (0) (40000000) (40000000) true = true ∧ s.get F.EPOCH_CTRL_MODE = 2 ∧ ((((0) : Int) - (0)) +
      (((40000000) : Int) - (40000000))).natAbs ≤ 800000 ∧ s.ep.ttLast = some (0)) ∧
    (∃ s : State, s.cour.ttWait = some ((0 : Nat), (0 : Nat)) ∧ s.plcOn = true ∧ (0 : BitVec 16).toNat = s.ownAddr ∧ (0 : BitVec 16).toNat
      = s.get F.PLC_TT_CFG_MASTER_ADDR ∧ ttOk (0 : Nat) (100 : Nat) (40000100 : Nat) (40000200 : Nat) true = true ∧ s.get
      F.EPOCH_CTRL_MODE ≠ 2) ∧
    (∃ s : State, s.cour.ttWait = some ((0), (0)) ∧ s.plcOn = true ∧ (0 : BitVec 16).toNat = s.ownAddr ∧ (0 : BitVec 16).toNat = s.get
      F.PLC_TT_CFG_MASTER_ADDR ∧ ttOk (0) (900000) (40900000) (40000000) true = true ∧ s.get F.EPOCH_CTRL_MODE = 2 ∧ 800000 < ((((0) :
      Int) - (900000)) + (((40000000) : Int) - (40900000))).natAbs) ∧
    (∃ s : State, s.cour.ttWait = some ((0 : Nat), (0 : Nat)) ∧ s.plcOn = true ∧ (0 : BitVec 16).toNat = s.ownAddr ∧ (0 : BitVec 16).toNat
      = s.get F.PLC_TT_CFG_MASTER_ADDR ∧ ttOk (0 : Nat) (100 : Nat) (40000100 : Nat) (40000200 : Nat) (decide ((1 : Nat) = (0 : Nat))) =
      false) ∧
    (∃ s : State, s.cour.ttWait = some (default) ∧ s.mono < s.cour.ttFrom + 80000000) ∧
    (∃ s : State, s.cour.ttWait = some ((default), (default)) ∧ s.cour.ttFrom + 80000000 ≤ s.mono) ∧
    (∃ s : State, s.cour.ttWait = none) ∧
    (∃ s : State, s.cour.ttWait = none) :=
  ⟨
    ⟨((fun (s : State) => { s with cour := { s.cour with ttWait := (none) } }) (up.puts [(F.PLC_TT_CFG_EN, 1), (F.EPOCH_CTRL_MODE, 2)])),
      by decide +kernel⟩,
    ⟨((fun (s : State) => { s with cour := { s.cour with ttWait := (some default) } }) (up.puts [(F.PLC_TT_CFG_EN, 1), (F.EPOCH_CTRL_MODE,
      2)])), by decide +kernel⟩,
    ⟨up, by decide +kernel⟩,
    ⟨(up.puts [(F.PLC_TT_CFG_MASTER, 1)]), by decide +kernel⟩,
    ⟨up, by decide +kernel⟩,
    ⟨((fun (s : State) => { s with cour := { s.cour with ttRsp := ((default, default, default, default) :: default) } }) up),
      by decide +kernel⟩,
    ⟨{ up.puts [(F.PLC_ADDR_SHORT, 0), (F.PLC_TT_CFG_MASTER_ADDR, 0), (F.EPOCH_CTRL_MODE, 2)] with cour := { up.cour with ttWait := some (0, 0) } },
      by decide +kernel⟩,
    ⟨{ up.puts [(F.PLC_ADDR_SHORT, 0), (F.PLC_TT_CFG_MASTER_ADDR, 0), (F.EPOCH_CTRL_MODE, 2)] with cour := { up.cour with ttWait := some (0, 0) }, ep := { up.ep with ttLast := some 0 } },
      by decide +kernel⟩,
    ⟨({ up.puts [(F.PLC_ADDR_SHORT, 0), (F.PLC_TT_CFG_MASTER_ADDR, 0)] with cour := { up.cour with ttWait := some (0, 0) } }),
      by decide +kernel⟩,
    ⟨{ up.puts [(F.PLC_ADDR_SHORT, 0), (F.PLC_TT_CFG_MASTER_ADDR, 0), (F.EPOCH_CTRL_MODE, 2)] with cour := { up.cour with ttWait := some (0, 0) } },
      by decide +kernel⟩,
    ⟨({ up.puts [(F.PLC_ADDR_SHORT, 0), (F.PLC_TT_CFG_MASTER_ADDR, 0)] with cour := { up.cour with ttWait := some (0, 0) } }),
      by decide +kernel⟩,
    ⟨{ ((fun (s : State) => { s with cour := { s.cour with ttWait := (some default) } }) up) with epoch := 0 }, by decide +kernel⟩,
    ⟨((fun (s : State) => { s with cour := { s.cour with ttWait := (some (default, default)) } }) up), by decide +kernel⟩,
    ⟨((fun (s : State) => { s with cour := { s.cour with ttWait := (none) } }) up), by decide +kernel⟩,
    ⟨((fun (s : State) => { s with cour := { s.cour with ttWait := (none) } }) up), by decide +kernel⟩⟩

theorem witness_Resets :
    (∃ s : State, s.alive = true ∧ s.canonical = true ∧ ((s.pdOn 1 = false ∧ s.plState ≠ 0) ∨ (s.pdOn 1 = true ∧ s.phase = 0 ∧ s.flag
      F.SYS_START_DONE = false ∧ s.inFoyer = false ∧ s.start.resetAt = none)) ∧ 0x400D0000 ≤ (0x400D0000 : Nat) ∧ (0x400D0000 : Nat) <
      0x400E0000) ∧
    (∃ s : State, s.alive = true ∧ s.canonical = true ∧ ((s.pdOn 1 = false ∧ s.plState ≠ 0) ∨ (s.pdOn 1 = true ∧ s.phase = 0 ∧ s.flag
      F.SYS_START_DONE = false ∧ s.inFoyer = false ∧ s.start.resetAt = none)) ∧ 0x10000000 ≤ (0x10000000 : Nat) ∧ (0x10000000 : Nat) <
      0x11000000) ∧
    (∃ s : State, s.alive = true ∧ s.canonical = true ∧ ((s.pdOn 1 = false ∧ s.plState ≠ 0) ∨ (s.pdOn 1 = true ∧ s.phase = 0 ∧ s.flag
      F.SYS_START_DONE = false ∧ s.inFoyer = false ∧ s.start.resetAt = none)) ∧ (memHome (0 : Nat) < 0x10000000 ∨ 0x11000000 ≤ memHome (0
      : Nat))) ∧
    (∃ s : State, s.alive = true ∧ s.canonical = true ∧ ((s.pdOn 1 = false ∧ s.plState ≠ 0) ∨ (s.pdOn 1 = true ∧ s.phase = 0 ∧ s.flag
      F.SYS_START_DONE = false ∧ s.inFoyer = false ∧ s.start.resetAt = none)) ∧ ((0 : Nat) < 0x400D0000 ∨ 0x400E0000 ≤ (0 : Nat)) ∧ (0 :
      Nat) ∉ R.SYS_RESET_CAUSE :: keptRegs) ∧
    (∃ s : State, (s.alive = false ∨ (s.pdOn 1 = false ∧ s.plState = 0) ∨ (s.pdOn 1 = true ∧ (s.phase ≠ 0 ∨ s.flag F.SYS_START_DONE = true
      ∨ s.inFoyer = true ∨ s.start.resetAt.isSome = true)))) ∧
    (∃ s : State, s.pdOn 1 = true ∧ 1000 ≤ (1000 : Nat) ∧ s.start.resetAt = none ∧ s.pwmState (0 : Fin 14) ≠ 3) ∧
    (∃ s : State, s.pdOn 1 = true ∧ (default) < 200) ∧
    (∃ s : State, ((.hpa : Initiator) = .hpa ∨ (.hpa : Initiator) = .hspi ∨ (.hpa : Initiator) = .courier) ∧ s.start.resetAt = none ∧
      ((Instr.sysResetFoyer .hpa, true) : Instr × Bool) ∈ [(Instr.sysResetSystem (.hpa : Initiator), false), (.sysResetFoyer (.hpa :
      Initiator), true)]) ∧
    (((.hpb : Initiator) = .hpb ∨ (.hpb : Initiator) = .docent) ∧ (Instr.sysResetSystem .hpb : Instr) ∈ [Instr.sysResetSystem (.hpb :
      Initiator), .sysResetFoyer (.hpb : Initiator)]) ∧
    (∃ s : State, s.inFoyer = false ∧ s.canonical = true ∧ s.get (F.PWM_CTRL_OWNER (0 : Fin 14)) = 1 ∧ s.unitPair (0 : Fin 14) = none ∧
      s.pwmState (0 : Fin 14) ≠ 3) ∧
    (∃ s : State, ((.hpb : Initiator) ≠ .hpa ∨ s.inFoyer = true)) ∧
    (∃ s : State, s.pdOn 1 = true ∧ s.get F.SYS_WDT_TIMEOUT ≠ 0 ∧ s.start.wdHeld = none ∧ s.start.wdFrom + s.get F.SYS_WDT_TIMEOUT *
      800000 ≤ s.mono ∧ s.start.resetAt = none) ∧
    (∃ s : State, (s.pdOn 1 = false ∨ s.get F.SYS_WDT_TIMEOUT = 0 ∨ s.start.wdHeld.isSome = true ∨ s.mono < s.start.wdFrom + s.get
      F.SYS_WDT_TIMEOUT * 800000)) ∧
    ((0#32 : Word) ≠ 0x4B1C#32) ∧
    ((.hpb : Initiator) ≠ .hpa) ∧
    (∃ s : State, s.canonical = true ∧ s.start.resetAt = some (0 : Nat) ∧ (0 : Nat) + 40000 ≤ s.mono ∧ s.start.pinLow = false ∧
      ((0x40010000 ≤ (0x40010000 : Nat) ∧ (0x40010000 : Nat) < 0x40020000) ∨ (0x400D0000 ≤ (0x40010000 : Nat) ∧ (0x40010000 : Nat) <
      0x400E0000))) ∧
    (∃ s : State, s.canonical = true ∧ s.start.resetAt = some (default) ∧ (default) + 40000 ≤ s.mono ∧ s.start.pinLow = false ∧ (∀ r ∈
      [zone R.SYS_ID, zone R.CLK_CTRL, zone R.EPOCH_CTRL, zone R.DRV_STATUS, zone R.LANE_STATUS, zone R.WARDEN_STATUS, zone
      R.WCMPG_STATUS, zone R.WCMPP_STATUS, (0x400D0000, 0x400E0000)], (default) < r.1 ∨ r.2 ≤ (default)) ∧ (default) ∉ keptRegs) ∧
    (∃ s : State, (s.start.resetAt = none ∨ s.start.pinLow = true ∨ ∃ a, s.start.resetAt = some a ∧ s.mono < a + 40000)) :=
  ⟨
    ⟨(up.puts [(⟨F.SYS_PD_STATUS_DOMAIN_ON.addr, 1, 1⟩, 0), (F.PLINTH_STATUS_STATE, 1)]), by decide +kernel⟩,
    ⟨(up.puts [(⟨F.SYS_PD_STATUS_DOMAIN_ON.addr, 1, 1⟩, 0), (F.PLINTH_STATUS_STATE, 1)]), by decide +kernel⟩,
    ⟨(up.puts [(⟨F.SYS_PD_STATUS_DOMAIN_ON.addr, 1, 1⟩, 0), (F.PLINTH_STATUS_STATE, 1)]), by decide +kernel⟩,
    ⟨(up.puts [(⟨F.SYS_PD_STATUS_DOMAIN_ON.addr, 1, 1⟩, 0), (F.PLINTH_STATUS_STATE, 1)]), by decide +kernel⟩,
    ⟨(up.puts [(⟨F.SYS_PD_STATUS_DOMAIN_ON.addr, 0, 1⟩, 0)]), by decide +kernel⟩,
    ⟨((fun (s : State) => { s with start := { s.start with resetAt := (none) } }) (up.puts [(⟨F.SYS_PD_STATUS_DOMAIN_ON.addr, 1, 1⟩,
      1)])), by decide +kernel⟩,
    ⟨(up.puts [(⟨F.SYS_PD_STATUS_DOMAIN_ON.addr, 1, 1⟩, 1)]), by decide +kernel⟩,
    ⟨((fun (s : State) => { s with start := { s.start with resetAt := (none) } }) up), by decide +kernel⟩,
    by decide +kernel,
    ⟨(up.puts [(F.SYS_FOYER_IN_FOYER, 0), ((F.PWM_CTRL_OWNER 0), 1)]), by decide +kernel⟩,
    ⟨up, by decide +kernel⟩,
    ⟨((fun (s : State) => { s with start := { s.start with resetAt := (none) } }) ((fun (s : State) =>
      { s with start := { s.start with wdHeld := (none) } }) (up.puts [(⟨F.SYS_PD_STATUS_DOMAIN_ON.addr, 1, 1⟩, 1), (F.SYS_WDT_TIMEOUT,
      1)]))), by decide +kernel⟩,
    ⟨(up.puts [(⟨F.SYS_PD_STATUS_DOMAIN_ON.addr, 1, 1⟩, 0)]), by decide +kernel⟩,
    by decide +kernel,
    by decide +kernel,
    ⟨{ up with start := { up.start with resetAt := some 0 } }, by decide +kernel⟩,
    ⟨((fun (s : State) => { s with start := { s.start with pinLow := (false) } }) ((fun (s : State) =>
      { s with start := { s.start with resetAt := (some default) } }) up)), by decide +kernel⟩,
    ⟨((fun (s : State) => { s with start := { s.start with resetAt := (none) } }) up), by decide +kernel⟩⟩

theorem witness_StartUp :
    (∃ s : State, s.pdOn 1 = true ∧ s.start.resetAt = none ∧ s.phase = 1) ∧
    (∃ s : State, s.pdOn 1 = true ∧ s.start.resetAt = none ∧ s.phase = 2 ∧ s.flag F.CLK_STATUS_MUTED = false) ∧
    (∃ s : State, s.pdOn 1 = true ∧ s.start.resetAt = none ∧ s.phase = 3) ∧
    (∃ s : State, s.pdOn 1 = true ∧ s.start.resetAt = none ∧ s.phase = 4) ∧
    (∃ s : State, s.pdOn 1 = true ∧ s.start.resetAt = none ∧ s.phase = 5 ∧ s.sv.step = 8) ∧
    (∃ s : State, s.pdOn 1 = true ∧ s.start.resetAt = none ∧ s.phase = 6 ∧ s.domainsReady = true ∧ s.pdOn 8 = true) ∧
    (∃ s : State, s.pdOn 1 = true ∧ s.start.resetAt = none ∧ s.phase = 6 ∧ s.domainsReady = true ∧ s.pdOn 10 = true) ∧
    (∃ s : State, s.pdOn 1 = true ∧ s.start.resetAt = none ∧ s.phase = 7 ∧ s.flag (calBusyF false) = false ∧ s.flag (calBusyF true) =
      false ∧ s.wcmp.queue = [] ∧ s.start.late ≠ 4 ∧ s.routedFail = none) ∧
    (∃ s : State, s.pdOn 1 = true ∧ s.start.resetAt = none ∧ s.phase = 7 ∧ s.flag (calBusyF false) = false ∧ s.flag (calBusyF true) =
      false ∧ s.wcmp.queue = [] ∧ s.start.late ≠ 4 ∧ s.routedFail = some (0)) ∧
    (∃ s : State, s.pdOn 1 = true ∧ s.start.resetAt = none ∧ s.phase = 7 ∧ s.flag (calBusyF false) = false ∧ s.flag (calBusyF true) =
      false ∧ s.wcmp.queue = [] ∧ s.start.late = 4 ∧ s.wcFailed = some (0)) ∧
    (∃ s : State, s.pdOn 1 = true ∧ s.start.resetAt = none ∧ s.phase = 7 ∧ s.flag (calBusyF false) = false ∧ s.flag (calBusyF true) =
      false ∧ s.wcmp.queue = [] ∧ s.start.late = 4 ∧ s.wcFailed = none) ∧
    (∃ s : State, s.pdOn 1 = true ∧ s.start.resetAt = none ∧ s.phase = 8 ∧ s.flag F.SYS_RESET_CAUSE_FOYER_REQ = false) ∧
    (∃ s : State, s.pdOn 1 = true ∧ s.start.resetAt = none ∧ s.phase = 8 ∧ s.flag F.SYS_RESET_CAUSE_FOYER_REQ = true) ∧
    (∃ s : State, s.pdOn 1 = true ∧ s.start.resetAt = none ∧ phaseCause s.phase (0 : Nat) = some (5 : Nat) ∧ (0 : Nat) < 256 ∧ pdFoyer (3
      : Fin 12) = false) ∧
    (∃ s : State, s.pdOn 1 = true ∧ s.start.resetAt = none ∧ phaseCause s.phase (0 : Nat) = some (5 : Nat) ∧ (0 : Nat) < 256 ∧ s.pwmState
      (0 : Fin 14) ≠ 3) ∧
    (∃ s : State, s.pdOn 1 = true ∧ s.start.resetAt = none ∧ s.phase = 0) ∧
    (∃ s : State, (s.start.resetAt.isSome = true ∨ s.pdOn 1 = false)) ∧
    (∃ s : State, s.inPhase 1 = true ∧ s.canonical = true) ∧
    (∃ s : State, s.inPhase 1 = false) ∧
    (∃ s : State, s.pdOn 1 = true ∧ s.flag F.SYS_RAILS_VISO_OK = false ∧ s.inFoyer = true ∧ s.pdOn 10 = false) ∧
    (∃ s : State, s.pdOn 1 = true ∧ s.flag F.SYS_RAILS_VISO_OK = false ∧ s.inFoyer = false ∧ s.phase = 0 ∧ s.flag (pdCtrlF 10) = true ∧
      s.pdOn 10 = false) ∧
    (∃ s : State, (s.pdOn 1 = false ∨ s.flag F.SYS_RAILS_VISO_OK = true)) ∧
    (∃ s : State, s.start.barFrom = some (default) ∧ (s.inPhase 5 = true ∨ s.inPhase 6 = true) ∧ s.flag F.SYS_RAILS_VISO_OK = true ∧
      s.flag F.EPOCH_STATUS_BAR_CAL_DONE = false ∧ (default) + 8000000 ≤ s.mono) ∧
    (∃ s : State, (s.start.barFrom = none ∨ s.flag F.EPOCH_STATUS_BAR_CAL_DONE = true ∨ (∃ a, s.start.barFrom = some a ∧ s.mono < a +
      8000000))) ∧
    (∃ s : State, s.inFoyer = false ∧ s.pdOn 3 = true ∧ (s.hok.get 1).run = false ∧ (s.hok.get 1).stopped = false ∧ bitOf (s.rd
      R.CUR_FENCED_OTHER).toNat 1 = false) ∧
    (∃ s : State, ((.hpb : Initiator) ≠ .hpa ∨ s.inFoyer = true)) :=
  ⟨
    ⟨((fun (s : State) => { s with start := { s.start with resetAt := (none) } }) (up.puts [(⟨F.SYS_PD_STATUS_DOMAIN_ON.addr, 1, 1⟩, 1),
      (F.SYS_START_PHASE, 1)])), by decide +kernel⟩,
    ⟨((fun (s : State) => { s with start := { s.start with resetAt := (none) } }) (up.puts [(⟨F.SYS_PD_STATUS_DOMAIN_ON.addr, 1, 1⟩, 1),
      (F.SYS_START_PHASE, 2), (F.CLK_STATUS_MUTED, 0)])), by decide +kernel⟩,
    ⟨((fun (s : State) => { s with start := { s.start with resetAt := (none) } }) (up.puts [(⟨F.SYS_PD_STATUS_DOMAIN_ON.addr, 1, 1⟩, 1),
      (F.SYS_START_PHASE, 3)])), by decide +kernel⟩,
    ⟨((fun (s : State) => { s with start := { s.start with resetAt := (none) } }) (up.puts [(⟨F.SYS_PD_STATUS_DOMAIN_ON.addr, 1, 1⟩, 1),
      (F.SYS_START_PHASE, 4)])), by decide +kernel⟩,
    ⟨((fun (s : State) => { s with sv := { s.sv with step := (8) } }) ((fun (s : State) =>
      { s with start := { s.start with resetAt := (none) } }) (up.puts [(⟨F.SYS_PD_STATUS_DOMAIN_ON.addr, 1, 1⟩, 1), (F.SYS_START_PHASE,
      5)]))), by decide +kernel⟩,
    ⟨((fun (s : State) => { s with start := { s.start with resetAt := (none) } }) (up.puts [(⟨F.SYS_PD_STATUS_DOMAIN_ON.addr, 1, 1⟩, 1),
      (F.SYS_START_PHASE, 6), (⟨F.SYS_PD_STATUS_DOMAIN_ON.addr, 8, 1⟩, 1)])), by decide +kernel⟩,
    ⟨((fun (s : State) => { s with start := { s.start with resetAt := (none) } }) (up.puts [(⟨F.SYS_PD_STATUS_DOMAIN_ON.addr, 1, 1⟩, 1),
      (F.SYS_START_PHASE, 6), (⟨F.SYS_PD_STATUS_DOMAIN_ON.addr, 10, 1⟩, 1)])), by decide +kernel⟩,
    ⟨((fun (s : State) => { s with wcmp := { s.wcmp with queue := ([]) } }) ((fun (s : State) =>
      { s with start := { s.start with resetAt := (none) } }) (up.puts [(⟨F.SYS_PD_STATUS_DOMAIN_ON.addr, 1, 1⟩, 1), (F.SYS_START_PHASE,
      7), ((calBusyF false), 0), ((calBusyF true), 0)]))), by decide +kernel⟩,
    ⟨(((up.puts [(F.SYS_START_PHASE, 7)]).withSec Sec.routing 0 (placed 0x100 [(0x60, 1, 1)])).put (calValidF 0) 0), by decide +kernel⟩,
    ⟨{ (up.puts [(F.SYS_START_PHASE, 7)]).wr R.WCMPP_TEST_FAIL 1#32 with start := { up.start with late := 4 } }, by decide +kernel⟩,
    ⟨((fun (s : State) => { s with start := { s.start with late := (4) } }) ((fun (s : State) =>
      { s with wcmp := { s.wcmp with queue := ([]) } }) ((fun (s : State) => { s with start := { s.start with resetAt := (none) } })
      (up.puts [(⟨F.SYS_PD_STATUS_DOMAIN_ON.addr, 1, 1⟩, 1), (F.SYS_START_PHASE, 7), ((calBusyF false), 0), ((calBusyF true), 0)])))),
      by decide +kernel⟩,
    ⟨((fun (s : State) => { s with start := { s.start with resetAt := (none) } }) (up.puts [(⟨F.SYS_PD_STATUS_DOMAIN_ON.addr, 1, 1⟩, 1),
      (F.SYS_START_PHASE, 8), (F.SYS_RESET_CAUSE_FOYER_REQ, 0)])), by decide +kernel⟩,
    ⟨((fun (s : State) => { s with start := { s.start with resetAt := (none) } }) (up.puts [(⟨F.SYS_PD_STATUS_DOMAIN_ON.addr, 1, 1⟩, 1),
      (F.SYS_START_PHASE, 8), (F.SYS_RESET_CAUSE_FOYER_REQ, 1)])), by decide +kernel⟩,
    ⟨((fun (s : State) => s.put F.SYS_START_PHASE 3) ((fun (s : State) => { s with start := { s.start with resetAt := (none) } }) (up.puts
      [(⟨F.SYS_PD_STATUS_DOMAIN_ON.addr, 1, 1⟩, 1)]))), by decide +kernel⟩,
    ⟨((fun (s : State) => s.put F.SYS_START_PHASE 3) ((fun (s : State) => { s with start := { s.start with resetAt := (none) } }) (up.puts
      [(⟨F.SYS_PD_STATUS_DOMAIN_ON.addr, 1, 1⟩, 1)]))), by decide +kernel⟩,
    ⟨((fun (s : State) => { s with start := { s.start with resetAt := (none) } }) (up.puts [(⟨F.SYS_PD_STATUS_DOMAIN_ON.addr, 1, 1⟩, 1),
      (F.SYS_START_PHASE, 0)])), by decide +kernel⟩,
    ⟨{ up with start := { up.start with resetAt := some 0 } }, by decide +kernel⟩,
    ⟨(up.puts [(F.SYS_START_PHASE, 1)]), by decide +kernel⟩,
    ⟨up, by decide +kernel⟩,
    ⟨(up.puts [(⟨F.SYS_PD_STATUS_DOMAIN_ON.addr, 1, 1⟩, 1), (F.SYS_RAILS_VISO_OK, 0), (F.SYS_FOYER_IN_FOYER, 1),
      (⟨F.SYS_PD_STATUS_DOMAIN_ON.addr, 10, 1⟩, 0)]), by decide +kernel⟩,
    ⟨(up.puts [(⟨F.SYS_PD_STATUS_DOMAIN_ON.addr, 1, 1⟩, 1), (F.SYS_RAILS_VISO_OK, 0), (F.SYS_FOYER_IN_FOYER, 0), (F.SYS_START_PHASE, 0),
      ((pdCtrlF 10), 1), (⟨F.SYS_PD_STATUS_DOMAIN_ON.addr, 10, 1⟩, 0)]), by decide +kernel⟩,
    ⟨(up.puts [(⟨F.SYS_PD_STATUS_DOMAIN_ON.addr, 1, 1⟩, 0)]), by decide +kernel⟩,
    ⟨((fun (s : State) => { s with start := { s.start with barFrom := (some default) } }) (up.puts [(F.SYS_START_PHASE, 5),
      (F.SYS_RAILS_VISO_OK, 1), (F.EPOCH_STATUS_BAR_CAL_DONE, 0)])), by decide +kernel⟩,
    ⟨((fun (s : State) => { s with start := { s.start with barFrom := (none) } }) up), by decide +kernel⟩,
    ⟨((fun (s : State) => { s with hok := s.hok.modify (1) (fun y0 => { y0 with stopped := (false) }) }) ((fun (s : State) =>
      { s with hok := s.hok.modify (1) (fun y0 => { y0 with run := (false) }) }) (up.puts [(F.SYS_FOYER_IN_FOYER, 0),
      (⟨F.SYS_PD_STATUS_DOMAIN_ON.addr, 3, 1⟩, 1)]))), by decide +kernel⟩,
    ⟨up, by decide +kernel⟩⟩

theorem witness_StepRunsTheFrontCommand :
    (∃ s : State, s.pending = (Instr.svGetInfo 0 : Instr) :: ([] : List Instr)) :=
    ⟨{ up with pending := [Instr.svGetInfo 0] }, by decide +kernel⟩

theorem witness_StepKeepsCanonicalForm :
    ∃ s t : State, s.canonical = true ∧ s.pending = [.registerWrite .hpa 0x20000000 5] ∧ step s = .next t :=
  let s : State := { up with pending := [.registerWrite .hpa 0x20000000 5] }
  let ⟨t, h⟩ := nexts_next (step s) (fun t => t.canonical && t.rdB 0x20000000 == 5#8) (by decide +kernel)
  ⟨s, t, by decide +kernel, rfl, h⟩

theorem witness_CommandsLeaveTheQueue : ∃ (c : Instr) (s t : State), exec c s = .next t ∧ s.pending ≠ [] :=
  let s : State := { up with pending := [.svGetInfo 0] }
  let ⟨t, h⟩ := nexts_next (exec (.registerWrite .hpa 0x20000000 5) s) (fun t => t.pending == [.svGetInfo 0]) (by decide +kernel)
  ⟨_, s, t, h, by decide⟩

/-! ### Records, packages and images of a device whose signatures verify -/

/-- A key of zeros. -/
def zeroKey : List Byte := List.replicate 1312 0#8

/-- The free values of a device whose signatures all verify and whose vendor root holds a key of zeros. -/
structure PlainCrypto : Prop where
  sig : Config.mldsaVerify = fun _ _ _ => true
  key : Config.vendorKey = zeroKey
  root : Config.vendorHash = sha3 zeroKey

theorem bU_append (a b : List Byte) (o n : Nat) (h : o + n ≤ a.length) : bU (a ++ b) o n = bU a o n := by
  unfold bU
  rw [List.drop_append_of_le_length (by omega), List.take_append_of_le_length (by rw [List.length_drop]; omega)]

theorem slice_append (a b c : List Byte) : ((a ++ (b ++ c)).drop a.length).take b.length = b := by
  rw [List.drop_left, List.take_left]

/-- The first 16 bytes of an AUTH record: MAGIC, opcode, signer, counter. -/
def authHead (op n ctr : Nat) : List Byte :=
  ascii [0x41, 0x55, 0x54, 0x48] ++ leBytes 2 op ++ leBytes 2 n ++ leBytes 8 ctr

/-- An AUTH record for this device. -/
def authRec (op n ctr : Nat) (args : List Byte) : List Byte :=
  authHead op n ctr ++ (devidHash ++ (sha3 args ++ List.replicate 2420 0#8))

theorem devidHash_length : devidHash.length = 32 := by simp [devidHash, fixLen]

theorem authRec_length (op n ctr : Nat) (args : List Byte) : (authRec op n ctr args).length = 2500 := by
  have h : (authHead op n ctr).length = 16 := rfl
  simp [authRec, h, devidHash_length, -List.reduceReplicate]

theorem authRec_field (op n ctr : Nat) (args : List Byte) (o k : Nat) (h : o + k ≤ 16) :
    bU (authRec op n ctr args) o k = bU (authHead op n ctr) o k := bU_append _ _ _ _ h

/-- The check of such a record comes down to the signer's last counter. -/
theorem authCheck_authRec (hc : PlainCrypto) (s : State) (op n ctr : Nat) (args : List Byte) (hk : (s.signerKey n).isSome = true)
    (hh : bU (authHead op n ctr) 4 2 = op ∧ bU (authHead op n ctr) 6 2 = n ∧ bU (authHead op n ctr) 8 8 = ctr) :
    s.authCheck (authRec op n ctr args) op args = if ctr ≤ s.sv.replay.get n then Sv.replay else 0 := by
  have l : (authHead op n ctr).length = 16 := rfl
  have h0 : (authRec op n ctr args).take 4 = ascii [0x41, 0x55, 0x54, 0x48] := rfl
  have h1 := slice_append (authHead op n ctr) devidHash (sha3 args ++ List.replicate 2420 0#8)
  have h2 := slice_append (authHead op n ctr ++ devidHash) (sha3 args) (List.replicate 2420 0#8)
  rw [List.append_assoc, List.length_append] at h2
  rw [l, devidHash_length] at h1 h2
  rw [sha3_length] at h2
  change ((authRec op n ctr args).drop 0x10).take 32 = devidHash at h1
  change ((authRec op n ctr args).drop 0x30).take 32 = sha3 args at h2
  obtain ⟨k, hk⟩ := Option.isSome_iff_exists.mp hk
  simp [State.authCheck, authRec_length, h0, h1, h2, hk, hc.sig, authRec_field, hh]

/-- Bytes with zeros up to the next 16-byte boundary. -/
def pad16 (b : List Byte) : List Byte := b ++ List.replicate (align16 b.length - b.length) 0#8

/-- The first 48 bytes of a header: SECURITY_VERSION 1, for every grade. -/
def pkgHead (magic count : Nat) (body : List Byte) (signer : Nat) : List Byte :=
  placed 0x30 [(0, 4, magic), (4, 2, 1), (6, 2, 128), (8, 4, 128 + align16 body.length + sigLen), (0xC, 4, 0x9680), (0x12, 1, 3),
    (0x14, 4, 1), (0x1C, 2, count), (0x1E, 2, signer), (0x20, 4, body.length)]

/-- The bytes past the body: padding, SIG_LEN, and zeros for the key and the signature; all zeros where there is no signer. -/
def pkgTail (body : List Byte) (signer : Nat) : List Byte :=
  List.replicate (align16 body.length - body.length) 0#8 ++ placed 3744 [(0, 4, if signer = 0xFFFF then 0 else 2420)]

/-- An image or package from its MAGIC, its directory's length, its body and its signer. -/
def package (magic count : Nat) (body : List Byte) (signer : Nat) : List Byte :=
  pkgHead magic count body signer ++ (sha3 body ++ (List.replicate 48 0#8 ++ (body ++ pkgTail body signer)))

theorem package_bodyOk (magic count : Nat) (body : List Byte) (signer : Nat)
    (hl : bU (package magic count body signer) 0x20 4 = body.length) : bodyOk (package magic count body signer) = true := by
  have l : (pkgHead magic count body signer).length = 0x30 := rfl
  have h1 := slice_append (pkgHead magic count body signer) (sha3 body) (List.replicate 48 0#8 ++ (body ++ pkgTail body signer))
  have h2 := slice_append (pkgHead magic count body signer ++ sha3 body ++ List.replicate 48 0#8) body (pkgTail body signer)
  simp only [List.append_assoc, List.length_append, List.length_replicate, l, sha3_length] at h1 h2
  change ((package magic count body signer).drop 0x30).take 32 = sha3 body at h1
  change ((package magic count body signer).drop 128).take body.length = body at h2
  simp [bodyOk, hl, h1, h2]

/-- The directory entries and the bytes of sections that follow one another from an offset. -/
def lay : Nat → List (Nat × List Byte) → List Byte × List Byte
  | _, [] => ([], [])
  | o, (ty, b) :: t =>
    let r := lay (o + align16 b.length) t
    (placed 16 [(0, 2, ty), (3, 1, 1), (4, 4, o), (8, 4, b.length)] ++ r.1, (if t.isEmpty then b else pad16 b) ++ r.2)

/-- The smallest image: the mandatory sections alone, with no input, graph, group or curve. -/
def smallSections : List (Nat × List Byte) :=
  [(1, placed 0x14 [(4, 1, 1), (5, 1, 50), (8, 4, 1)]),
   (2, placed 0x9A ((List.range 4).map (fun g => (0x10 * g + 8, 2, 8)) ++ [0, 1, 2, 3, 12, 13, 14, 15].map fun n => (0x40 + n, 1, 2))),
   (4, placed 0xF0 ((0, 1, 14) :: (List.range 14).flatMap fun u => let o := 0x10 * (u + 1)
     [(o + 1, 1, if u < 8 then 1 else 0), (o + 2, 2, 4), (o + 4, 2, 400), (o + 6, 2, 400), (o + 8, 4, 800)])),
   (5, placed 0xD0 ((List.range 24).map fun c => (0x14 + 8 * c, 2, 1))),
   (6, List.replicate 192 0x44#8),
   (7, placed 0x304 [(0x201, 1, 2), (0x20A, 2, 100), (0x20C, 2, 20), (0x224, 2, 1000), (0x22C, 1, 2), (0x234, 2, 1), (0x250, 2, 1),
     (0x252, 2, 1), (0x254, 2, 20), (0x258, 1, 2), (0x260, 2, 1), (0x27C, 2, 17), (0x27E, 2, 17), (0x280, 2, 100), (0x282, 2, 100),
     (0x284, 2, 1), (0x286, 1, 1), (0x28D, 1, 1), (0x300, 1, 10), (0x301, 1, 0x40), (0x302, 1, 2), (0x303, 1, 2)]),
   (9, placed 24 []), (10, placed 0x21 []), (11, placed 9 [(0, 2, 0x487), (6, 2, 90)])]

/-- Its bytes. -/
def smallImage : List Byte :=
  let l := lay (0x80 + 16 * smallSections.length) smallSections
  package 0x52485243 smallSections.length (l.1 ++ l.2) 0

/-- The smallest firmware package: one word of program. -/
def smallFirmware : List Byte := package 0x57464B48 0 (leBytes 4 0x73) 0

/-- The smallest application package, without a signer. -/
def smallApp : List Byte := package 0x50414B48 0 (leBytes 4 0x73) 0xFFFF

/-- Bytes as a sparse map from an address on. -/
def cells (a k : Nat) (b : List Byte) : SMap Byte := ((b.zipIdx k).filter (fun x => x.1 != 0#8)).map fun x => (a + x.2, x.1)

theorem cells_below (a : Nat) : ∀ (b : List Byte) (k x : Nat), x < a + k → (cells a k b).get x = 0#8
  | [], _, _, _ => rfl
  | c :: t, k, x, h => by
    have ih := cells_below a t (k + 1) x (by omega)
    by_cases hc : c = 0#8
    · simpa [cells, List.zipIdx_cons, hc] using ih
    · have h1 : x ≠ a + k := by omega
      simp [cells, List.zipIdx_cons, hc, SMap.get, h1, h]
      rfl

theorem cells_get (a : Nat) : ∀ (b : List Byte) (k i : Nat), i < b.length → (cells a k b).get (a + k + i) = b.getD i 0#8
  | c :: t, k, 0, _ => by
    by_cases hc : c = 0#8
    · simpa [cells, List.zipIdx_cons, hc] using cells_below a t (k + 1) (a + k) (by omega)
    · simp [cells, List.zipIdx_cons, hc, SMap.get]
  | c :: t, k, i + 1, h => by
    have ih := cells_get a t (k + 1) i (by simpa using h)
    rw [show a + (k + 1) + i = a + k + (i + 1) by omega] at ih
    by_cases hc : c = 0#8
    · simpa [cells, List.zipIdx_cons, hc] using ih
    · have h1 : a + k + (i + 1) ≠ a + k := by omega
      have h2 : ¬ a + k + (i + 1) < a + k := by omega
      simpa [cells, List.zipIdx_cons, hc, SMap.get, h1, h2] using ih

theorem rdBytes_map (s : State) : ∀ (n a : Nat), s.rdBytes a n = (List.range n).map fun i => s.rdB (a + i)
  | 0, _ => rfl
  | n + 1, a => by
    rw [State.rdBytes, rdBytes_map s n (a + 1), List.range_succ_eq_map]
    simp [Function.comp_def, Nat.add_assoc, Nat.add_comm 1]

theorem rdBytes_cells (s : State) (a n : Nat) (b : List Byte) (hm : s.mem = cells a 0 b) (ha : a + b.length ≤ 0x28000000) (hn : n ≤ b.length) :
    s.rdBytes a n = b.take n := by
  rw [rdBytes_map]
  apply List.ext_getElem
  · simp; omega
  · intro i h1 h2
    simp at h1 h2
    have hh : memHome (a + i) = a + i := by simp [memHome]; omega
    have g := cells_get a b 0 i (by omega)
    simp only [Nat.add_zero] at g
    simp [State.rdB, hh, hm, g, List.getD_eq_getElem?_getD]
    rw [List.getElem?_eq_getElem (by omega)]; rfl

/-- Bytes that name their own length are what a slot's read gives. -/
theorem rdBytes_sized (s : State) (a sz : Nat) (b : List Byte) (hm : s.mem = cells a 0 b) (ha : a + b.length ≤ 0x28000000)
    (hl : bU (b.take 128) 8 4 = b.length) (h1 : 128 ≤ b.length) (h2 : b.length ≤ sz) :
    s.rdBytes a (min sz (max 128 (bU (s.rdBytes a 128) 8 4))) = b := by
  rw [rdBytes_cells s a 128 b hm ha h1, hl, Nat.max_eq_right h1, Nat.min_eq_right h2, rdBytes_cells s a b.length b hm ha (Nat.le_refl _),
    List.take_length]

/-- Phase P5 at a step of the boot, with these bytes at an address. -/
def booting (k a : Nat) (b : List Byte) : State :=
  { up.put F.SYS_START_PHASE 5 with sv := { up.sv with step := k }, mem := cells a 0 b }

theorem smallImage_length : smallImage.length = 5728 := by decide +kernel
theorem smallFirmware_length : smallFirmware.length = 3888 := by decide +kernel
theorem smallApp_length : smallApp.length = 3888 := by decide +kernel

theorem smallImage_read : (booting 6 0x10600000 smallImage).imgBytes 0 = smallImage :=
  rdBytes_sized _ 0x10600000 imgSlotSize smallImage rfl (by rw [smallImage_length]; decide) (by rw [smallImage_length]; decide +kernel)
    (by rw [smallImage_length]; decide) (by rw [smallImage_length]; decide)

theorem smallImage_passes (hc : PlainCrypto) (s : State) (ht : s.targetOk smallImage = true) (hr : s.sv.arbImg = 0) : s.imgCheck smallImage = 0 := by
  have h1 : erased smallImage = false ∧ hdrOk 0x52485243 smallImage = true ∧ sizeOk imgSlotSize smallImage = true := by decide +kernel
  have h2 : bU smallImage 0x1E 2 = 0 ∧ bU smallImage 0x14 4 = 1 ∧ bU (sigBlock smallImage) 0 4 = 2420 := by decide +kernel
  have h3 : sigKey smallImage = zeroKey := by decide +kernel
  have h4 : bodyOk smallImage = true := package_bodyOk _ _ _ _ (by decide +kernel)
  have h5 : layoutOk smallImage = true := by decide +kernel
  have h6 : (parseImage smallImage).mandatory = true ∧ (parseImage smallImage).fieldsOk = true ∧ (parseImage smallImage).crossOk = true := by
    decide +kernel
  simp [State.imgCheck, State.keyOk, sigOk, hc.sig, hc.root, ht, hr, h1, h2, h3, h4, h5, h6]

theorem smallFirmware_passes (hc : PlainCrypto) (s : State) (ht : s.targetOk smallFirmware = true) (hr : s.sv.arbFw = 0) :
    s.pkgCheck 0 smallFirmware = 0 := by
  have h1 : erased smallFirmware = false ∧ hdrOk 0x57464B48 smallFirmware = true ∧ sizeOk (slotSize 0) smallFirmware = true := by decide +kernel
  have h2 : bU smallFirmware 0x1E 2 = 0 ∧ bU smallFirmware 0x14 4 = 1 ∧ bU (sigBlock smallFirmware) 0 4 = 2420 := by decide +kernel
  have h3 : sigKey smallFirmware = zeroKey := by decide +kernel
  have h4 : bodyOk smallFirmware = true := package_bodyOk _ _ _ _ (by decide +kernel)
  have h5 : bU smallFirmware 0x28 4 = 0 ∧ bU smallFirmware 0x20 4 = 4 ∧ pkgResvOk smallFirmware = true := by decide +kernel
  simp [State.pkgCheck, State.keyOk, sigOk, hc.sig, hc.root, ht, hr, h1, h2, h3, h4, h5]

theorem smallApp_passes (s : State) (ht : s.targetOk smallApp = true) (hr : s.sv.strict = false) : s.pkgCheck 2 smallApp = 0 := by
  have h1 : erased smallApp = false ∧ hdrOk 0x50414B48 smallApp = true ∧ sizeOk (slotSize 2) smallApp = true := by decide +kernel
  have h2 : bU smallApp 0x1E 2 = 0xFFFF ∧ zeros (sigBlock smallApp) 0 sigLen = true := by decide +kernel
  have h4 : bodyOk smallApp = true := package_bodyOk _ _ _ _ (by decide +kernel)
  have h5 : bU smallApp 0x28 4 = 0 ∧ bU smallApp 0x20 4 = 4 ∧ pkgResvOk smallApp = true := by decide +kernel
  simp [State.pkgCheck, ht, hr, h1, h2, h4, h5]

/-- Svauth about to serve a command on channel 0, owner slot 1 enrolled, every last counter at 0, no maintenance activity due. -/
def serving (op : Nat) : State :=
  { up with diag := { up.diag with bistNext := 30000 },
            sv := { up.sv with queue := [0], chan := [(0, { (default : SvChan) with op := op })], hash := [(1, [1#8])] } }

/-- A device that has an image of SECURITY_VERSION 1, with owner slot 1 enrolled. -/
def owned : State :=
  { ((up.withSec 0 0 []).wr R.SYS_IMG_SECVER 1#32).put F.SYS_FOYER_IN_FOYER 0 with
    diag := { up.diag with bistNext := 30000 }, sv := { up.sv with hash := [(1, [1#8])] } }

/-- A session over a firmware slot that holds the smallest firmware package. -/
def staged (s : State) : State :=
  { s with sv := { s.sv with stage := some ⟨0, 0, 0, none, false⟩ }, mem := cells 0x10000000 0 smallFirmware }

theorem smallFirmware_read (s : State) (h : s.mem = cells 0x10000000 0 smallFirmware) : s.pkgBytes 0 0 = smallFirmware :=
  rdBytes_sized s 0x10000000 (slotSize 0) smallFirmware h (by rw [smallFirmware_length]; decide) (by rw [smallFirmware_length]; decide +kernel)
    (by rw [smallFirmware_length]; decide) (by rw [smallFirmware_length]; decide)

theorem targetOk_any (s : State) (b : List Byte) (h1 : bU b 0xC 4 = 0x9680) (h2 : s.get F.SYS_ID_MAJOR = 0 ∧ s.get F.SYS_ID_MINOR = 0)
    (h3 : bU8 b 0x10 = 0 ∧ bU8 b 0x11 = 0) (h4 : bU8 b 0x12 = 3) : s.targetOk b = true := by
  cases h : Config.isMt <;> simp [State.targetOk, h1, h2, h3, h4, h, b2n, bitOf]

theorem smallFirmware_stands (hc : PlainCrypto) (s : State) (hm : s.mem = cells 0x10000000 0 smallFirmware)
    (hi : s.get F.SYS_ID_MAJOR = 0 ∧ s.get F.SYS_ID_MINOR = 0) (hr : s.sv.arbFw = 0) : s.slotCheck 0 0 = 0 := by
  have ht := targetOk_any s smallFirmware (by decide +kernel) hi (by decide +kernel) (by decide +kernel)
  rw [State.slotCheck, if_neg (by decide), smallFirmware_read s hm]
  exact smallFirmware_passes hc s ht hr

/-- An AUTH record of owner 1 for an opcode, where its last counter is 0. -/
theorem owner_authorises (hc : PlainCrypto) (s : State) (op : Nat) (args : List Byte) (hk : (s.signerKey 1).isSome = true) (hr : s.sv.replay.get 1 = 0)
    (hh : bU (authHead op 1 1) 4 2 = op) : s.authCheck (authRec op 1 1 args) op args = 0 := by
  rw [authCheck_authRec hc s op 1 1 args hk ⟨hh, rfl, rfl⟩, hr]; rfl

/-- The same for the vendor root. -/
theorem vendor_authorises (hc : PlainCrypto) (s : State) (op : Nat) (args : List Byte) (hr : s.sv.replay.get 0 = 0)
    (hh : bU (authHead op 0 1) 4 2 = op) : s.authCheck (authRec op 0 1 args) op args = 0 := by
  rw [authCheck_authRec hc s op 0 1 args (by simp [State.signerKey, hc.key, hc.root]) ⟨hh, rfl, rfl⟩, hr]; rfl

/-- A Courier request of owner 1 whose record authorises it. -/
theorem asking_authorised (hc : PlainCrypto) (s : State) (ty : Nat) (args : List Byte) (hk : (s.signerKey 1).isSome = true)
    (hr : s.sv.replay.get 1 = 0) (hh : bU (authHead (0x100 + ty) 1 1) 4 2 = 0x100 + ty) (hf : s.svFenced = false ∧ s.svBusy 0 = false) :
    Authorised ty asking (authRec (0x100 + ty) 1 1 args ++ args) s := by
  have l := authRec_length (0x100 + ty) 1 1 args
  refine ⟨rfl, by rw [List.length_append, l]; omega, hf.1, hf.2, ?_⟩
  rw [← l, List.take_left, List.drop_left]
  exact owner_authorises hc s _ args hk hr hh

theorem authRec_rest (op : Nat) (args : List Byte) : (authRec op 1 1 args ++ args).drop 2500 = args := by
  rw [← authRec_length op 1 1 args, List.drop_left]

/-- Where signatures verify, each clause of MeasurementsAndOwners that needs an AUTH record has a witness. -/
theorem witness_MeasurementsAndOwners_authorised (hc : PlainCrypto) :
    (∃ (s : State) (rcd args : List Byte), s.svTurn 0 7 = true ∧ s.svBar 0 7 = none ∧ s.authCheck rcd 5 args = 0 ∧ 0 ≠ bU rcd 6 2) ∧
    (∃ (s : State) (rcd args : List Byte), s.svTurn 0 7 = true ∧ s.svBar 0 7 = none ∧ s.authCheck rcd 5 args = 4) ∧
    (∃ (s : State) (auth : List Byte), s.svTurn 0 14 = true ∧ s.svBar 0 14 = none ∧ 1 ≤ 1 ∧ 1 ≤ 4 ∧
      s.authCheck auth 0x0E (Config.argBytes 0x0E (leBytes 1 1)) = 0 ∧ bU auth 6 2 ≠ 1) ∧
    (∃ (s : State) (auth : List Byte), s.svTurn 0 14 = true ∧ s.svBar 0 14 = none ∧ 1 ≤ 1 ∧ 1 ≤ 4 ∧
      s.authCheck auth 0x0E (Config.argBytes 0x0E (leBytes 1 1)) = 0 ∧ bU auth 6 2 = 1) ∧
    (∃ (s : State) (auth : List Byte), s.svTurn 0 15 = true ∧ s.svBar 0 15 = none ∧
      s.authCheck auth 0x0F (Config.argBytes 0x0F []) = 0 ∧ bU auth 6 2 ≠ 0) ∧
    (∃ (s : State) (auth : List Byte), s.svTurn 0 15 = true ∧ s.svBar 0 15 = none ∧
      s.authCheck auth 0x0F (Config.argBytes 0x0F []) = 0 ∧ bU auth 6 2 = 0) := by
  have f := fun op n a => authRec_field op n 1 a 6 2 (by decide)
  refine ⟨⟨serving 7, authRec 5 1 1 [], [], by decide +kernel, by decide +kernel, owner_authorises hc _ _ _ rfl rfl rfl, ?_⟩,
    ⟨serving 7, authRec 5 1 0 [], [], by decide +kernel, by decide +kernel, ?_⟩,
    ⟨serving 14, authRec 0x0E 0 1 _, by decide +kernel, by decide +kernel, by decide, by decide, vendor_authorises hc _ _ _ rfl rfl, ?_⟩,
    ⟨serving 14, authRec 0x0E 1 1 _, by decide +kernel, by decide +kernel, by decide, by decide, owner_authorises hc _ _ _ rfl rfl rfl, ?_⟩,
    ⟨serving 15, authRec 0x0F 1 1 _, by decide +kernel, by decide +kernel, owner_authorises hc _ _ _ rfl rfl rfl, ?_⟩,
    ⟨serving 15, authRec 0x0F 0 1 _, by decide +kernel, by decide +kernel, vendor_authorises hc _ _ _ rfl rfl, ?_⟩⟩
  · rw [f]; decide
  · rw [authCheck_authRec hc _ 5 1 0 [] rfl ⟨rfl, rfl, rfl⟩]; rfl
  all_goals rw [f]; decide

/-- The same for StagingAndSelection: a firmware slot whose package passes. -/
theorem witness_StagingAndSelection_authorised (hc : PlainCrypto) :
    ∃ (s : State) (g : Staging), s.svTurn 0 10 = true ∧ s.svBar 0 10 = none ∧ s.sv.stage = some g ∧ g.write = none ∧
      s.slotCheck g.kind g.slot = 0 ∧ g.kind < 2 :=
  ⟨staged (serving 10), ⟨0, 0, 0, none, false⟩, by decide +kernel, by decide +kernel, rfl, rfl,
    smallFirmware_stands hc _ rfl (by decide +kernel) rfl, by decide⟩

/-- The same for PermitsAndBoot: a permit of level 2 for a second, and a boot from a firmware package and from an image that pass. -/
theorem witness_PermitsAndBoot_authorised (hc : PlainCrypto) :
    (∃ (s : State) (auth args : List Byte), s.svTurn 0 16 = true ∧ s.svBar 0 16 = none ∧ args.length = 4 ∧ 1 ≤ bU8 args 0 ∧ bU8 args 0 ≤ 3 ∧
      1 ≤ bU args 1 2 ∧ bU args 1 2 ≤ 3600 ∧ bU8 args 3 = 0 ∧ s.sv.debugLock = false ∧ s.docPads = true ∧ s.authCheck auth 16 args = 0 ∧
      (bU8 args 0 = 3 → s.pins.testMode = true ∧ bU auth 6 2 = 0) ∧ bU8 args 0 ≠ 1) ∧
    (∃ s : State, s.inPhase 5 = true ∧ s.sv.step = 5 ∧ s.slotCheck 0 (s.get F.SV_BOOT_FW_SEL) = 0) ∧
    (∃ (s : State) (g : Fld), s.inPhase 5 = true ∧ s.sv.step = 6 ∧ s.imgCheck (s.imgBytes (s.get F.SYS_IMG_SELECT_SLOT)) = 0 ∧
      (∀ e ∈ (parseImage (s.imgBytes (s.get F.SYS_IMG_SELECT_SLOT))).regs, e.1.apart g = true) ∧
      (∀ r ∈ foyerZones, g.addr < r.1 ∨ r.2 ≤ g.addr)) := by
  have e0 : (booting 6 0x10600000 smallImage).get F.SYS_IMG_SELECT_SLOT = 0 := by decide +kernel
  have e1 : (booting 5 0x10000000 smallFirmware).get F.SV_BOOT_FW_SEL = 0 := by decide +kernel
  refine ⟨⟨serving 16, authRec 16 1 1 [2#8, 1#8, 0#8, 0#8], [2#8, 1#8, 0#8, 0#8], by decide +kernel, by decide +kernel, rfl, by decide, by decide,
      by decide, by decide, rfl, rfl, by decide +kernel, owner_authorises hc _ _ _ rfl rfl rfl, by decide, by decide⟩,
    ⟨booting 5 0x10000000 smallFirmware, by decide +kernel, rfl, ?_⟩,
    ⟨booting 6 0x10600000 smallImage, ⟨0, 0, 32⟩, by decide +kernel, rfl, ?_, ?_, by decide⟩⟩
  · rw [e1]; exact smallFirmware_stands hc _ rfl (by decide +kernel) rfl
  · rw [e0, smallImage_read]
    exact smallImage_passes hc _ (targetOk_any _ _ (by decide +kernel) (by decide +kernel) (by decide +kernel) (by decide +kernel)) rfl
  · rw [e0, smallImage_read]; decide +kernel

/-- A boot with an application package that passes: it needs no signature. -/
theorem witness_PermitsAndBoot_app : ∃ s : State, s.inPhase 5 = true ∧ s.sv.step = 7 ∧ s.slotCheck 2 0 = 0 := by
  refine ⟨booting 7 0x10680000 smallApp, by decide +kernel, rfl, ?_⟩
  have r : (booting 7 0x10680000 smallApp).pkgBytes 2 0 = smallApp :=
    rdBytes_sized _ 0x10680000 (slotSize 2) smallApp rfl (by rw [smallApp_length]; decide) (by rw [smallApp_length]; decide +kernel)
      (by rw [smallApp_length]; decide) (by rw [smallApp_length]; decide)
  rw [State.slotCheck, if_neg (by decide), r]
  exact smallApp_passes _ (targetOk_any _ _ (by decide +kernel) (by decide +kernel) (by decide +kernel) (by decide +kernel)) rfl

/-- The same for CourierActions. -/
theorem witness_CourierActions_authorised (hc : PlainCrypto) :
    (∃ (s : State) (p : List Byte), Asked asking s ∧ s.inFoyer = false ∧ Authorised 3 asking p s ∧ s.pdOn 1 = true ∧
      p.drop 2500 = leBytes 4 R.SYS_GPIO_OUT ++ leBytes 4 (1#32).toNat ++ leBytes 4 (1#32).toNat) ∧
    (∃ (s : State) (p : List Byte), Asked asking s ∧ Authorised 8 asking p s ∧ (p.drop 2500 = [1#8] ∨ p.drop 2500 = [3#8])) ∧
    (∃ (s : State) (p : List Byte), Asked asking s ∧ Authorised 9 asking p s ∧ (p.drop 2500).length = 6 ∧ s.cour.session = none ∧
      s.sv.stage = none ∧ bU8 (p.drop 2500) 0 < 3 ∧ bU8 (p.drop 2500) 1 < 2 ∧
      (bU8 (p.drop 2500) 0 = 2 ∨ bU8 (p.drop 2500) 1 ≠ s.activeSlot (bU8 (p.drop 2500) 0)) ∧ s.maintAhead s.epoch 10 = [] ∧
      s.maintRefusal .staging 10 = none) ∧
    (∃ (s : State) (p : List Byte) (g : CourSession) (w : Staging), Asked asking s ∧ s.svFenced = false ∧ s.svBusy 0 = false ∧
      s.cour.session = some g ∧ s.sv.stage = some w ∧ p.length = 4 ∧ bU p 0 4 = g.id ∧ w.write = none ∧ s.slotCheck w.kind w.slot = 0 ∧
      w.kind < 2) ∧
    (∃ (s : State) (p : List Byte), Asked asking s ∧ Authorised 0x0C asking p s ∧ p.drop 2500 = [1#8, BitVec.ofNat 8 0] ∧ 0 < 2 ∧
      (0 = s.activeSlot 1 ∨ s.flag (validF 1 0) = true)) ∧
    (∃ (s : State) (p : List Byte), Asked asking s ∧ Authorised 0x0C asking p s ∧ p.drop 2500 = [0#8, BitVec.ofNat 8 0] ∧ 0 < 2 ∧
      (0 = s.activeSlot 0 ∨ s.flag (validF 0 0) = true)) ∧
    (∃ (s : State) (p : List Byte), Asked asking s ∧ s.inFoyer = false ∧ Authorised 0x0D asking p s ∧ p.drop 2500 = [1#8] ∧
      s.img.applied.isSome = true ∧ s.sv.arbImg < (s.rd R.SYS_IMG_SECVER).toNat) := by
  have k : Asked asking owned := by unfold Asked; decide +kernel
  have f : owned.svFenced = false ∧ owned.svBusy 0 = false := by decide +kernel
  let a3 := leBytes 4 R.SYS_GPIO_OUT ++ leBytes 4 1 ++ leBytes 4 1
  let a9 := [2#8, 0#8, 1#8, 0#8, 0#8, 0#8]
  refine ⟨⟨owned, _, k, by decide +kernel, asking_authorised hc _ 3 a3 rfl rfl rfl f, by decide +kernel, authRec_rest _ _⟩,
    ⟨owned, _, k, asking_authorised hc _ 8 [1#8] rfl rfl rfl f, .inl (authRec_rest _ _)⟩,
    ⟨owned, _, k, asking_authorised hc _ 9 a9 rfl rfl rfl f, ?_⟩,
    ⟨{ staged owned with cour := { owned.cour with session := some ⟨1, 9, 0, 0, false⟩ } }, leBytes 4 1, ⟨1, 9, 0, 0, false⟩, ⟨0, 0, 0, none, false⟩,
      ?_, by decide +kernel, by decide +kernel, rfl, rfl, rfl, rfl, rfl, ?_, by decide⟩,
    ⟨owned, _, k, asking_authorised hc _ 0x0C [1#8, 0#8] rfl rfl rfl f, authRec_rest _ _, by decide, .inl (by decide +kernel)⟩,
    ⟨owned, _, k, asking_authorised hc _ 0x0C [0#8, 0#8] rfl rfl rfl f, authRec_rest _ _, by decide, .inl (by decide +kernel)⟩,
    ⟨owned, _, k, by decide +kernel, asking_authorised hc _ 0x0D [1#8] rfl rfl rfl f, authRec_rest _ _, by decide +kernel, by decide +kernel⟩⟩
  · rw [authRec_rest]; decide +kernel
  · unfold Asked; decide +kernel
  · exact smallFirmware_stands hc _ rfl (by decide +kernel) rfl

end Sys2Proof.Tests
end

section
/-!
Proofs about clock synthesis (chapter 02): the wrongly spaced mark and the missing mark (R70).
-/

namespace Sys2Proof.Machine

/-! ### Counters -/

theorem satInc_lt (len n : Nat) : satInc len n < 2 ^ len := by
  have hpos : 0 < 2 ^ len := Nat.two_pow_pos len
  unfold satInc
  split
  · assumption
  · omega

/-- A counter counted up reads its old value plus one, wrapped at its width. -/
theorem State.get_incWrap_self (s : State) (f : Fld) (h : f.lo + f.len ≤ 32) :
    (s.incWrap f).get f = (s.get f + 1) % 2 ^ f.len := by
  rw [State.incWrap, State.get_put_self s f _ h, Nat.mod_mod]

/-- A counter counted up with saturation reads the saturated successor of its old value. -/
theorem State.get_incSat_self (s : State) (f : Fld) (h : f.lo + f.len ≤ 32) :
    (s.incSat f).get f = satInc f.len (s.get f) := by
  rw [State.incSat, State.get_put_self s f _ h, Nat.mod_eq_of_lt (satInc_lt _ _)]

theorem Keeps.incWrap {fs : List Fld} {ps : List Part} {s t : State} (h : Keeps fs ps s t) (f : Fld) (hf : f ∈ fs) :
    Keeps fs ps s (t.incWrap f) := h.put f _ hf

theorem Keeps.incSat {fs : List Fld} {ps : List Part} {s t : State} (h : Keeps fs ps s t) (f : Fld) (hf : f ∈ fs) :
    Keeps fs ps s (t.incSat f) := h.put f _ hf

/-! ### The commands of the marks -/

theorem exec_syncMark (spacing off : Nat) (s : State) : exec (.syncMark spacing off) s = execSyncMark spacing off s := rfl

theorem exec_markMissing (s : State) : exec .markMissing s = .next (s.incSat F.CLK_MARKS_MISS_CNT) := rfl

/-! ### The wrongly spaced mark -/

/-- The registers a wrongly spaced mark writes: it is counted and flagged (R70, Table CLK-8). -/
def State.markFlagged (s : State) : State :=
  ((s.incWrap F.CLK_MARKS_MARK_CNT).set1 F.CLK_STICKY_MARK_ERR).put F.CLK_STATUS_MARKS_OK 0

/-- The clock after a wrongly spaced mark: an armed divider reset has no mark that serves it, and waits for two more (R65, R70). -/
def State.clkAfterWrongMark (s : State) : ClkState :=
  { s.clk with markSeen := true, armMark := s.clk.armMark && !s.flag F.CLK_CTRL_DIVSYNC_ARM }

/-- The state after a wrongly spaced mark. -/
def State.wrongMark (s : State) : State := { s.markFlagged with clk := s.clkAfterWrongMark }

/-- A wrongly spaced mark takes the serving mark from an armed divider reset and does nothing else to it. -/
theorem State.divArmMark_wrong (s : State) :
    s.divArmMark false true = { s with clk := { s.clk with armMark := s.clk.armMark && !s.flag F.CLK_CTRL_DIVSYNC_ARM } } := by
  cases h : s.flag F.CLK_CTRL_DIVSYNC_ARM <;> simp [State.divArmMark, h]

theorem State.markFlagged_flag_divsyncArm (s : State) :
    s.markFlagged.flag F.CLK_CTRL_DIVSYNC_ARM = s.flag F.CLK_CTRL_DIVSYNC_ARM := by
  rw [State.markFlagged, State.set1, State.incWrap, State.flag_put_apart _ _ _ _ (by decide),
    State.flag_put_apart _ _ _ _ (by decide), State.flag_put_apart _ _ _ _ (by decide)]

/-- Everything a wrongly spaced mark does: neither Epoch nor the dividers use it. -/
theorem exec_syncMark_wrong (s : State) (sp off : Nat) (hseen : s.clk.markSeen = true) (hsp : sp ≠ 10000) :
    exec (.syncMark sp off) s = .next s.wrongMark := by
  have hwrong : (s.clk.markSeen && sp != 10000) = true := by simp [hseen, hsp]
  have hok : (s.clk.markSeen && sp == 10000) = false := by simp [hsp]
  have hexec : exec (.syncMark sp off) s =
      .next (State.divArmMark { s.markFlagged with clk := { s.clk with markSeen := true } } false true) := by
    simp only [exec_syncMark, execSyncMark, hwrong, hok]
    rfl
  rw [hexec, State.divArmMark_wrong, State.wrongMark, State.clkAfterWrongMark, ← s.markFlagged_flag_divsyncArm]
  rfl

theorem State.wrongMark_get_markCnt (s : State) :
    s.wrongMark.get F.CLK_MARKS_MARK_CNT = (s.get F.CLK_MARKS_MARK_CNT + 1) % 2 ^ F.CLK_MARKS_MARK_CNT.len := by
  change s.markFlagged.get _ = _
  rw [State.markFlagged, State.set1, State.get_put_apart _ _ _ _ (by decide), State.get_put_apart _ _ _ _ (by decide),
    State.get_incWrap_self _ _ (by decide)]

theorem State.wrongMark_get_markErr (s : State) : s.wrongMark.get F.CLK_STICKY_MARK_ERR = 1 := by
  change s.markFlagged.get _ = _
  rw [State.markFlagged, State.set1, State.get_put_apart _ _ _ _ (by decide), State.get_put_self _ _ _ (by decide)]
  rfl

theorem State.wrongMark_get_marksOk (s : State) : s.wrongMark.get F.CLK_STATUS_MARKS_OK = 0 :=
  State.get_put_self _ F.CLK_STATUS_MARKS_OK 0 (by decide)

theorem State.wrongMark_armMark_of_armed (s : State) (harm : s.flag F.CLK_CTRL_DIVSYNC_ARM = true) :
    s.wrongMark.clk.armMark = false := by
  simp [State.wrongMark, State.clkAfterWrongMark, harm]

theorem State.wrongMark_keeps (s : State) :
    Keeps [F.CLK_MARKS_MARK_CNT, F.CLK_STICKY_MARK_ERR, F.CLK_STATUS_MARKS_OK] [.clk] s s.wrongMark := by
  have hcount := (Keeps.refl [F.CLK_MARKS_MARK_CNT, F.CLK_STICKY_MARK_ERR, F.CLK_STATUS_MARKS_OK] [.clk] s).incWrap
    F.CLK_MARKS_MARK_CNT (by simp)
  have hflagged : Keeps _ _ s s.markFlagged :=
    (hcount.put F.CLK_STICKY_MARK_ERR 1 (by simp)).put F.CLK_STATUS_MARKS_OK 0 (by simp)
  exact hflagged.clk _ (by simp)

/-! ### The two halves of R70 -/

theorem State.markMissing_counts_and_keeps (s : State) :
    ∃ t, exec .markMissing s = .next t ∧
      t.get F.CLK_MARKS_MISS_CNT = satInc F.CLK_MARKS_MISS_CNT.len (s.get F.CLK_MARKS_MISS_CNT) ∧
      Keeps [F.CLK_MARKS_MISS_CNT] [] s t :=
  ⟨s.incSat F.CLK_MARKS_MISS_CNT, exec_markMissing s, s.get_incSat_self _ (by decide),
    (Keeps.refl [F.CLK_MARKS_MISS_CNT] [] s).incSat _ (by simp)⟩

/-- Settles O4: a wrongly spaced mark leads to `State.wrongMark`, whose frame leaves Epoch and DIV_ALIGNED alone. -/
theorem wrongAndMissingMarks : Obligations.WrongAndMissingMarks := by
  intro s
  refine ⟨fun sp off hseen hsp => ?_, s.markMissing_counts_and_keeps⟩
  have hkeeps := s.wrongMark_keeps
  have hdiv : s.wrongMark.get F.CLK_STATUS_DIV_ALIGNED = s.get F.CLK_STATUS_DIV_ALIGNED := hkeeps.1 _ (by decide)
  exact ⟨s.wrongMark, exec_syncMark_wrong s sp off hseen hsp, s.wrongMark_get_markCnt, s.wrongMark_get_markErr,
    s.wrongMark_get_marksOk, rfl, hdiv, s.wrongMark_armMark_of_armed, hkeeps⟩

end Sys2Proof.Machine
end

section
/-!
Proofs about Epoch and the clock islands (chapter 03): the barrier's and the islands' skew checks (R93, R94) and the check of an
aligned Epoch at a mark (R108).
-/

namespace Sys2Proof.Machine

/-! ### Raises -/

theorem State.get_stickyRaise_self (s : State) (f : Fld) (n : Nat) (hlen : f.len = 1) (h : f.lo + f.len ≤ 32) :
    (s.stickyRaise f n).get f = 1 := by
  change (s.put f 1).get f = 1
  rw [State.get_put_self s f 1 h, hlen]
  rfl

theorem Keeps.raise {fs : List Fld} {ps : List Part} {s t : State} (h : Keeps fs ps s t) (n : Nat) (hp : Part.raised ∈ ps) :
    Keeps fs ps s (t.raise n) := h.raised _ hp

theorem Keeps.stickyRaise {fs : List Fld} {ps : List Part} {s t : State} (h : Keeps fs ps s t) (f : Fld) (n : Nat) (hf : f ∈ fs)
    (hp : Part.raised ∈ ps) : Keeps fs ps s (t.stickyRaise f n) := (h.put f 1 hf).raise n hp

/-! ### Frames -/

theorem Keeps.get_eq {fs : List Fld} {ps : List Part} {s t : State} (h : Keeps fs ps s t) (g : Fld)
    (hg : ∀ f ∈ fs, f.apart g = true) : t.get g = s.get g := h.1 g hg

theorem Keeps.flag_eq {fs : List Fld} {ps : List Part} {s t : State} (h : Keeps fs ps s t) (g : Fld)
    (hg : ∀ f ∈ fs, f.apart g = true) : t.flag g = s.flag g := by
  simp only [State.flag, h.get_eq g hg]

theorem State.get_whole (s : State) (a : Nat) : s.get (whole a) = (s.rd a).toNat := by
  simpa [State.get, whole, bitsOf] using (s.rd a).isLt

theorem Fld.apart_of_addr_ne (f g : Fld) (h : f.addr ≠ g.addr) : f.apart g = true := by
  simp [Fld.apart, h]

/-- A frame of fields is a frame of the ranges they lie in. -/
theorem Keeps.keepsOutside {fs : List Fld} {ps : List Part} {s t : State} (h : Keeps fs ps s t) (rs : List (Nat × Nat))
    (hrs : ∀ f ∈ fs, ∃ r ∈ rs, r.1 ≤ f.addr ∧ f.addr < r.2) : KeepsOutside rs ps s t := by
  refine ⟨fun a ha => BitVec.eq_of_toNat_eq ?_, h.2⟩
  rw [← State.get_whole, ← State.get_whole]
  refine h.get_eq (whole a) fun f hf => Fld.apart_of_addr_ne _ _ fun (hfa : f.addr = a) => ?_
  obtain ⟨r, hr, hlo, hhi⟩ := hrs f hf
  have houtside := ha r hr
  omega

/-! ### The skew checks (R93, R94) -/

/-- The end of a check: a fault sets its flag and raises its source, and without one nothing happens. -/
def State.raiseIf (s : State) (fault : Prop) [Decidable fault] (f : Fld) (n : Nat) : State :=
  if fault then s.stickyRaise f n else s

theorem State.raiseIf_of (s : State) (fault : Prop) [Decidable fault] (f : Fld) (n : Nat) (h : fault) :
    s.raiseIf fault f n = s.stickyRaise f n := if_pos h

theorem State.raiseIf_of_not (s : State) (fault : Prop) [Decidable fault] (f : Fld) (n : Nat) (h : ¬ fault) :
    s.raiseIf fault f n = s := if_neg h

theorem State.raiseIf_keeps (s : State) (fault : Prop) [Decidable fault] (f : Fld) (n : Nat) :
    Keeps [f] [.raised] s (s.raiseIf fault f n) :=
  .ite _ ((Keeps.refl _ _ s).stickyRaise f n (by simp) (by simp)) (.refl _ _ s)

/-- The state after a measurement of the barrier, before its error is judged (R92). -/
def State.barMeasured (s : State) (err : Int) : State :=
  { s.put F.EPOCH_BAR_SKEW_MAX (max (s.get F.EPOCH_BAR_SKEW_MAX) (satTo 16 err.natAbs)) with
    ep := { s.ep with fine := s.ep.fine - dirOf err, barNext := s.mono + 65536 } }

/-- Everything a due measurement of the barrier does. -/
theorem exec_barrierRemeasure_due (s : State) (err : Int) (hcal : s.flag F.EPOCH_STATUS_BAR_CAL_DONE = true)
    (hdue : s.ep.barNext ≤ s.mono) :
    exec (.barrierRemeasure err) s =
      .next ((s.barMeasured err).raiseIf (32 < err.natAbs) F.EPOCH_STICKY_BAR_SKEW FS.EPOCH_BARRIER_SKEW) := by
  change execBarrierRemeasure err s = _
  rw [execBarrierRemeasure, if_pos (by simp [hcal, hdue]), State.raiseIf, apply_ite Host.Outcome.next]
  rfl

theorem State.barMeasured_keeps (s : State) (err : Int) : Keeps [F.EPOCH_BAR_SKEW_MAX] [.ep] s (s.barMeasured err) :=
  ((Keeps.refl _ _ s).put F.EPOCH_BAR_SKEW_MAX _ (by simp)).ep _ (by simp)

/-- The state after a comparison of the islands' copies, before the difference is judged (R94). -/
def State.islandsCompared (s : State) : State := { s with ep := { s.ep with islNext := s.mono + 65536 } }

/-- Everything a due comparison of the islands' copies does. -/
theorem exec_islandSkewCheck_due (s : State) (d : Nat) (hdue : s.ep.islNext ≤ s.mono) :
    exec (.islandSkewCheck d) s =
      .next (s.islandsCompared.raiseIf (2 ≤ d) F.EPOCH_STICKY_ISLAND_SKEW FS.EPOCH_ISLAND_SKEW) := by
  change execIslandSkewCheck d s = _
  rw [execIslandSkewCheck, if_pos hdue, State.raiseIf, apply_ite Host.Outcome.next]
  rfl

theorem State.islandsCompared_keeps (s : State) : Keeps [] [.ep] s s.islandsCompared := (Keeps.refl _ _ s).ep _ (by simp)

theorem reset_severity_epoch : State.reset.severity FS.EPOCH = 1 := by decide +kernel

theorem reset_severity_epochBarrierSkew : State.reset.severity FS.EPOCH_BARRIER_SKEW = 4 := by decide +kernel

theorem reset_severity_epochIslandSkew : State.reset.severity FS.EPOCH_ISLAND_SKEW = 4 := by decide +kernel

/-- Settles O8: each check is `State.raiseIf` on the state its measurement leaves. -/
theorem barrierAndIslandSkew : Obligations.BarrierAndIslandSkew := by
  intro s
  refine ⟨reset_severity_epochBarrierSkew, reset_severity_epochIslandSkew, fun err hcal hdue => ?_, fun d hdue => ?_⟩
  · have hmeasured := s.barMeasured_keeps err
    refine ⟨_, exec_barrierRemeasure_due s err hcal hdue, fun hover => ?_, fun hwithin => ?_, ?_⟩
    · rw [State.raiseIf_of _ _ _ _ hover]
      exact ⟨State.get_stickyRaise_self _ _ _ rfl (by decide), rfl⟩
    · rw [State.raiseIf_of_not _ _ _ _ (Nat.not_lt.mpr hwithin)]
      exact ⟨hmeasured.get_eq _ (by decide), rfl⟩
    · exact (hmeasured.mono (by simp) (by simp)).trans ((State.raiseIf_keeps _ _ _ _).mono (by simp) (by simp))
  · have hcompared := s.islandsCompared_keeps
    have hjudged := s.islandsCompared.raiseIf_keeps (2 ≤ d) F.EPOCH_STICKY_ISLAND_SKEW FS.EPOCH_ISLAND_SKEW
    refine ⟨_, exec_islandSkewCheck_due s d hdue, congrArg EpochState.islNext (hjudged.2 .ep (by decide)), fun hapart => ?_,
      fun hclose => ?_, (hcompared.mono (by simp) (by simp)).trans (hjudged.mono (by simp) (by simp))⟩
    · rw [State.raiseIf_of _ _ _ _ hapart]
      exact ⟨State.get_stickyRaise_self _ _ _ rfl (by decide), rfl⟩
    · rw [State.raiseIf_of_not _ _ _ _ (Nat.not_le.mpr hclose)]
      exact ⟨hcompared.get_eq _ (by decide), rfl⟩

/-! ### The correctly spaced mark -/

/-- The state after a correctly spaced mark has been counted, before Epoch and the dividers use it (Table CLK-8). -/
def State.markCounted (s : State) : State :=
  State.put { s.incWrap F.CLK_MARKS_MARK_CNT with clk := { s.clk with markSeen := true } } F.CLK_STATUS_MARKS_OK 1

theorem exec_syncMark_right (s : State) (off : Nat) (hseen : s.clk.markSeen = true) :
    exec (.syncMark 10000 off) s = .next ((s.markCounted.epochMark true).divMark true false off) := by
  have hwrong : (s.clk.markSeen && (10000 != 10000)) = false := by simp
  have hok : (s.clk.markSeen && (10000 == 10000)) = true := by simp [hseen]
  simp only [exec_syncMark, execSyncMark, hwrong, hok]
  rfl

theorem State.markCounted_keeps (s : State) :
    Keeps [F.CLK_MARKS_MARK_CNT, F.CLK_STATUS_MARKS_OK] [.clk] s s.markCounted :=
  (((Keeps.refl _ _ s).incWrap F.CLK_MARKS_MARK_CNT (by simp)).clk _ (by simp)).put F.CLK_STATUS_MARKS_OK 1 (by simp)

/-! ### What a correctly spaced mark does to the dividers (R65, R68) -/

theorem State.divCheck_keeps (s : State) (off : Nat) :
    Keeps [F.CLK_STATUS_DIV_ALIGNED, F.CLK_STICKY_DIV_SLIP] [.raised] s (s.divCheck off) := by
  have hkeeps := Keeps.refl [F.CLK_STATUS_DIV_ALIGNED, F.CLK_STICKY_DIV_SLIP] [.raised] s
  exact .ite _ (((hkeeps.put F.CLK_STICKY_DIV_SLIP 1 (by simp)).put F.CLK_STATUS_DIV_ALIGNED 0 (by simp)).raise _ (by simp)) hkeeps

theorem State.divArmMark_keeps (s : State) (ok wrong : Bool) :
    Keeps [F.CLK_STATUS_DIV_ALIGNED, F.CLK_CTRL_DIVSYNC_ARM] [.clk] s (s.divArmMark ok wrong) := by
  have hkeeps := Keeps.refl [F.CLK_STATUS_DIV_ALIGNED, F.CLK_CTRL_DIVSYNC_ARM] [.clk] s
  have hrestart := ((hkeeps.put F.CLK_STATUS_DIV_ALIGNED 1 (by simp)).put F.CLK_CTRL_DIVSYNC_ARM 0 (by simp)).clk
  exact .ite _ hkeeps (.ite _ (hrestart _ (by simp)) (hkeeps.clk _ (by simp)))

/-- The frame of a correctly spaced mark's part in the dividers. -/
theorem State.divMark_right_keeps (s : State) (off : Nat) :
    Keeps [F.CLK_STATUS_DIV_ALIGNED, F.CLK_STICKY_DIV_SLIP, F.CLK_CTRL_DIVSYNC_ARM] [.clk, .raised] s (s.divMark true false off) :=
  ((s.divCheck_keeps off).mono (by simp) (by simp)).trans (((s.divCheck off).divArmMark_keeps true false).mono (by simp) (by simp))

theorem State.divArmMark_raised (s : State) (ok wrong : Bool) : (s.divArmMark ok wrong).raised = s.raised :=
  (s.divArmMark_keeps ok wrong).2 .raised (by decide)

/-- The dividers raise their own source CLK at most. -/
theorem State.divMark_right_raised (s : State) (off : Nat) :
    (s.divMark true false off).raised = s.raised ∨ (s.divMark true false off).raised = s.raised ++ [⟨FS.CLK, 0⟩] := by
  have hmark : (s.divMark true false off).raised = (s.divCheck off).raised := State.divArmMark_raised _ _ _
  rw [hmark, State.divCheck]
  split
  · exact .inr rfl
  · exact .inl rfl

/-- Dividers that are neither aligned nor armed make nothing of a mark. -/
theorem State.divMark_right_idle (s : State) (off : Nat) (harm : s.flag F.CLK_CTRL_DIVSYNC_ARM = false)
    (hdiv : s.flag F.CLK_STATUS_DIV_ALIGNED = false) : s.divMark true false off = s := by
  simp [State.divMark, State.divCheck, State.divArmMark, harm, hdiv]

/-! ### What a correctly spaced mark does to an aligned Epoch (R108) -/

/-- The state after Epoch's check found a difference. -/
def State.markSlipped (s : State) : State :=
  ((s.set1 F.EPOCH_STICKY_MARK_SLIP).clr F.EPOCH_STATUS_ALIGNED).raise FS.EPOCH

theorem State.markSlipped_keeps (s : State) :
    Keeps [F.EPOCH_STICKY_MARK_SLIP, F.EPOCH_STATUS_ALIGNED] [.raised] s s.markSlipped :=
  (((Keeps.refl _ _ s).put F.EPOCH_STICKY_MARK_SLIP 1 (by simp)).put F.EPOCH_STATUS_ALIGNED 0 (by simp)).raise _ (by simp)

theorem State.markSlipped_get_markSlip (s : State) : s.markSlipped.get F.EPOCH_STICKY_MARK_SLIP = 1 := by
  change ((s.put F.EPOCH_STICKY_MARK_SLIP 1).put F.EPOCH_STATUS_ALIGNED 0).get _ = 1
  rw [State.get_put_apart _ _ _ _ (by decide), State.get_put_self _ _ _ (by decide)]
  rfl

theorem State.markSlipped_get_aligned (s : State) : s.markSlipped.get F.EPOCH_STATUS_ALIGNED = 0 :=
  State.get_put_self _ F.EPOCH_STATUS_ALIGNED 0 (by decide)

theorem State.markSlipped_raised (s : State) : s.markSlipped.raised = s.raised ++ [⟨FS.EPOCH, 0⟩] := rfl

/-- An aligned, unarmed Epoch is checked against C. -/
theorem State.epochMark_aligned (s : State) (harm : s.flag F.EPOCH_CTRL_MARK_ARM = false)
    (hal : s.flag F.EPOCH_STATUS_ALIGNED = true) :
    s.epochMark true = if s.epoch % 800000 = s.get F.EPOCH_SYNC_COMP_C % 800000 then s else s.markSlipped := by
  simp only [State.epochMark, harm, hal]
  rfl

/-- A correctly spaced mark at an aligned, unarmed Epoch: the mark is counted, Epoch is checked, then the dividers are. -/
theorem exec_syncMark_aligned (s : State) (off : Nat) (hseen : s.clk.markSeen = true)
    (harm : s.flag F.EPOCH_CTRL_MARK_ARM = false) (hal : s.flag F.EPOCH_STATUS_ALIGNED = true) :
    exec (.syncMark 10000 off) s =
      .next ((if s.epoch % 800000 = s.get F.EPOCH_SYNC_COMP_C % 800000 then s.markCounted else s.markCounted.markSlipped).divMark
        true false off) := by
  have hcounted := s.markCounted_keeps
  rw [exec_syncMark_right s off hseen, State.epochMark_aligned _ ((hcounted.flag_eq _ (by decide)).trans harm)
    ((hcounted.flag_eq _ (by decide)).trans hal), hcounted.get_eq _ (by decide)]
  rfl

/-- The frame of a mark at which Epoch has slipped, before the dividers' part. -/
theorem State.slippedMark_keeps (s : State) :
    Keeps [F.CLK_MARKS_MARK_CNT, F.CLK_STATUS_MARKS_OK, F.EPOCH_STICKY_MARK_SLIP, F.EPOCH_STATUS_ALIGNED] [.clk, .raised] s
      s.markCounted.markSlipped :=
  (s.markCounted_keeps.mono (by simp) (by simp)).trans (s.markCounted.markSlipped_keeps.mono (by simp) (by simp))

/-- Epoch's raise stands after the dividers' part. -/
theorem State.epochRaise_mem_slippedMark (s : State) (off : Nat) :
    (⟨FS.EPOCH, 0⟩ : Raise) ∈ (s.markSlipped.divMark true false off).raised := by
  rcases s.markSlipped.divMark_right_raised off with h | h <;> rw [h, s.markSlipped_raised] <;> simp

/-- A confirmed mark raises nothing of Epoch's. -/
theorem State.epochRaise_mem_of_confirmedMark (s : State) (off : Nat)
    (hmem : (⟨FS.EPOCH, 0⟩ : Raise) ∈ (s.divMark true false off).raised) : (⟨FS.EPOCH, 0⟩ : Raise) ∈ s.raised := by
  rcases s.divMark_right_raised off with h | h <;> rw [h] at hmem
  · exact hmem
  · simpa using hmem

/-- Settles O7: the two congruence cases of Epoch's check, each followed by the dividers' part, which leaves Epoch's fields alone. -/
theorem alignedEpochIsCheckedAtMarks : Obligations.AlignedEpochIsCheckedAtMarks := by
  intro s off
  refine ⟨reset_severity_epoch, fun hseen harm hal => ?_⟩
  have hexec := exec_syncMark_aligned s off hseen harm hal
  refine ⟨fun hne => ?_, fun heq => ?_⟩
  · rw [if_neg hne] at hexec
    have hslip := s.slippedMark_keeps
    have hdiv := s.markCounted.markSlipped.divMark_right_keeps off
    refine ⟨_, hexec, (hdiv.get_eq _ (by decide)).trans (State.markSlipped_get_markSlip _),
      (hdiv.get_eq _ (by decide)).trans (State.markSlipped_get_aligned _), s.markCounted.epochRaise_mem_slippedMark off,
      hdiv.2 .epoch (by decide), (hslip.keepsOutside _ (by simp)).trans (hdiv.keepsOutside _ (by simp)), fun hdarm hdal => ?_⟩
    rw [State.divMark_right_idle _ off ((hslip.flag_eq _ (by decide)).trans hdarm) ((hslip.flag_eq _ (by decide)).trans hdal)]
    exact ⟨rfl, hslip⟩
  · rw [if_pos heq] at hexec
    have hcounted := s.markCounted_keeps
    have hdiv := s.markCounted.divMark_right_keeps off
    have hfield (g : Fld) (hc : ∀ f ∈ [F.CLK_MARKS_MARK_CNT, F.CLK_STATUS_MARKS_OK], f.apart g = true)
        (hd : ∀ f ∈ [F.CLK_STATUS_DIV_ALIGNED, F.CLK_STICKY_DIV_SLIP, F.CLK_CTRL_DIVSYNC_ARM], f.apart g = true) :=
      (hdiv.get_eq g hd).trans (hcounted.get_eq g hc)
    exact ⟨_, hexec, hfield _ (by decide) (by decide), (hfield _ (by decide) (by decide)).trans (beq_iff_eq.mp hal),
      s.markCounted.epochRaise_mem_of_confirmedMark off, hdiv.2 .epoch (by decide),
      (hcounted.mono (List.Subset.refl _) (by simp) |>.keepsOutside _ (by simp)).trans (hdiv.keepsOutside _ (by simp))⟩

end Sys2Proof.Machine
end

section
/-!
Proofs about the Hokuon complex (chapter 16): the doorbells between the pairs (R527).
-/

namespace Sys2Proof.Machine

/-! ### A register in the address map -/

theorem w32_toNat_self (v : Word) : w32 v.toNat = v := by simp [w32]

/-- A register of the domain PD1 is powered with it. -/
theorem State.powered_of_pd1 (s : State) (a : Nat) (hreg : regionOf a = .reg) (hpd : blockPd a = some 1) :
    s.powered a = s.pdOn 1 := by
  simp only [State.powered, hreg, hpd]

theorem State.coreWrites_reg (s : State) (q a : Nat) (hreg : regionOf a = .reg) : s.coreWrites q a = s.powered a := by
  simp only [State.coreWrites, hreg]

/-- A pair's write of a word at a powered register reaches the register. -/
theorem State.coreWrite_reg (s : State) (q a : Nat) (v : Word) (hreg : regionOf a = .reg) (hpow : s.powered a = true) :
    s.coreWrite q a 4 v.toNat = (s.regWrite (pairInit q) (a / 4 * 4) v, true) := by
  have hreach : s.coreWrites q a = true := (s.coreWrites_reg q a hreg).trans hpow
  have hword : s.storeWord a 4 v.toNat = v := w32_toNat_self v
  simp [State.coreWrite, hreach, hreg, hword]

/-! ### Conditional writes of a field -/

theorem State.flag_when_put_self (s : State) (c : Bool) (f : Fld) (v : Nat) (h : f.lo + f.len ≤ 32) :
    (s.when c fun s => s.put f v).flag f = if c then v % 2 ^ f.len == 1 else s.flag f := by
  cases c
  · rfl
  · exact s.flag_put_self f v h

theorem State.flag_when_put_apart (s : State) (c : Bool) (f g : Fld) (v : Nat) (h : f.apart g = true) :
    (s.when c fun s => s.put f v).flag g = s.flag g := by
  cases c
  · rfl
  · exact s.flag_put_apart f g v h

theorem Keeps.when_put {fs : List Fld} {ps : List Part} {s t : State} (h : Keeps fs ps s t) (c : Bool) (f : Fld) (v : Nat)
    (hf : f ∈ fs) : Keeps fs ps s (t.when c fun t => t.put f v) :=
  .ite _ (h.put f v hf) h

/-! ### The doorbell register and mip.MSIP -/

/-- Bit b of SYS_DOORBELL. -/
def doorbellF (b : Nat) : Fld := ⟨R.SYS_DOORBELL, b, 1⟩

/-- mip.MSIP of a pair is the other pair's doorbell bit. -/
theorem State.mip_msip (s : State) (q : Nat) : bitOf (s.mip q) 3 = s.flag (doorbellF (1 - q)) := by
  have hbit (x y z : Bool) : bitOf (8 * b2n x + 128 * b2n y + 2048 * b2n z) 3 = x := by
    cases x <;> cases y <;> cases z <;> rfl
  exact hbit _ _ _

/-- The doorbell bits that v names are written: x to bit 0, y to bit 1. Either pair's write of v is one of these (R527). -/
def State.doorbellPut (s : State) (v : Word) (x y : Nat) : State :=
  (s.when (bitOf v.toNat 0) fun s => s.put (doorbellF 0) x).when (bitOf v.toNat 1) fun s => s.put (doorbellF 1) y

theorem State.doorbell_hpa (s : State) (v : Word) : s.doorbell .hpa v = s.doorbellPut v 1 0 := rfl

theorem State.doorbell_hpb (s : State) (v : Word) : s.doorbell .hpb v = s.doorbellPut v 0 1 := rfl

theorem State.regWrite_doorbell (s : State) (i : Initiator) (v : Word) :
    s.regWrite i R.SYS_DOORBELL v = s.doorbell i v := rfl

/-- A pair's write of SYS_DOORBELL reaches the register where PD1 is on. -/
theorem State.coreWrite_doorbell (s : State) (q : Nat) (v : Word) (hpd : s.pdOn 1 = true) :
    s.coreWrite q R.SYS_DOORBELL 4 v.toNat = (s.doorbell (pairInit q) v, true) := by
  have hreg : regionOf R.SYS_DOORBELL = .reg := by decide
  rw [s.coreWrite_reg q _ v hreg ((s.powered_of_pd1 _ hreg (by decide)).trans hpd), Nat.div_mul_cancel (by decide),
    State.regWrite_doorbell]

theorem exec_doorbell (s : State) (i : Initiator) (v : Word) : exec (.doorbell i v) s = .next (s.busWrite i R.SYS_DOORBELL v) := rfl

/-- The command by either pair is the register's write. -/
theorem exec_doorbell_pair (s : State) (i : Initiator) (v : Word) (hpd : s.pdOn 1 = true) (hi : i = .hpa ∨ i = .hpb) :
    exec (.doorbell i v) s = .next (s.doorbell i v) := by
  have haddr : R.SYS_DOORBELL / 4 * 4 = R.SYS_DOORBELL := rfl
  rw [exec_doorbell]
  rcases hi with rfl | rfl
  · simp only [State.busWrite, haddr, s.coreWrite_doorbell 0 v hpd]
    rfl
  · simp only [State.busWrite, haddr, s.coreWrite_doorbell 1 v hpd]
    rfl

/-- HPB's software interrupt is bit 0. -/
theorem State.doorbellPut_msip_hpb (s : State) (v : Word) (x y : Nat) :
    bitOf ((s.doorbellPut v x y).mip 1) 3 = if bitOf v.toNat 0 then x % 2 == 1 else bitOf (s.mip 1) 3 := by
  rw [State.mip_msip, State.mip_msip, State.doorbellPut, State.flag_when_put_apart _ _ _ _ _ (by decide)]
  exact s.flag_when_put_self _ (doorbellF 0) x (by decide)

/-- HPA's software interrupt is bit 1. -/
theorem State.doorbellPut_msip_hpa (s : State) (v : Word) (x y : Nat) :
    bitOf ((s.doorbellPut v x y).mip 0) 3 = if bitOf v.toNat 1 then y % 2 == 1 else bitOf (s.mip 0) 3 := by
  rw [State.mip_msip, State.mip_msip, ← s.flag_when_put_apart (bitOf v.toNat 0) (doorbellF 0) (doorbellF (1 - 0)) x (by decide)]
  exact State.flag_when_put_self _ _ (doorbellF 1) y (by decide)

theorem State.doorbellPut_keeps (s : State) (v : Word) (x y : Nat) :
    Keeps [doorbellF 0, doorbellF 1] [] s (s.doorbellPut v x y) :=
  ((Keeps.refl _ _ s).when_put _ (doorbellF 0) x (by simp)).when_put _ (doorbellF 1) y (by simp)

/-- Settles O38: each pair's write is `State.doorbellPut`, with a 1 put into the other pair's bit and a 0 into its own. -/
theorem doorbells : Obligations.Doorbells := by
  intro s hpd
  refine ⟨fun v => ⟨s.doorbellPut v 1 0, ?_, ?_, ?_, s.doorbellPut_keeps v 1 0⟩,
    fun v => ⟨s.doorbellPut v 0 1, ?_, ?_, ?_, s.doorbellPut_keeps v 0 1⟩⟩
  · rw [exec_doorbell_pair s _ v hpd (.inl rfl), State.doorbell_hpa]
  · simp [State.doorbellPut_msip_hpb]
  · simp [State.doorbellPut_msip_hpa]
  · rw [exec_doorbell_pair s _ v hpd (.inr rfl), State.doorbell_hpb]
  · simp [State.doorbellPut_msip_hpa]
  · simp [State.doorbellPut_msip_hpb]

end Sys2Proof.Machine
end

section
/-!
Proofs about the machine as a whole (chapter 95): every command answers a next state, leaves the queue, and keeps the registers, the
memory, its uncorrectable words and the shadows in their canonical form. One lemma for each function of the model says that what holds
up to the state it is given holds up to the state it gives; a command's lemma is made of those of the functions its meaning calls.
-/

namespace Sys2Proof.Machine

/-! ### The relation -/

/-- From s to t the queue stands, and the maps that were in canonical form still are. -/
structure Orderly (s t : State) : Prop where
  pending : t.pending = s.pending
  canonical : s.canonical = true → t.canonical = true

/-- A command's outcome is a next state to which the relation holds. -/
def Runs (s : State) (r : Res) : Prop := ∃ t, r = .next t ∧ Orderly s t

/-- The state in which an instruction of a pair ends. -/
def XOut.state : XOut → State
  | .done s _ _ _ => s
  | .trap s _ _ => s

/-- The state in which a fetch ends. -/
def Fetched.state : Fetched → State
  | .ok s _ _ _ => s
  | .fault s _ => s

theorem State.canonical_iff (s : State) :
    s.canonical = true ↔ s.regs.wf = true ∧ s.mem.wf = true ∧ s.ecc.wf = true ∧ s.shadow.wf = true := by
  simp [State.canonical, and_assoc]

section
variable {σ τ υ : State}

theorem Orderly.refl (σ : State) : Orderly σ σ := ⟨rfl, id⟩

theorem Orderly.trans (h : Orderly σ τ) (k : Orderly τ υ) : Orderly σ υ :=
  ⟨k.pending.trans h.pending, fun c => k.canonical (h.canonical c)⟩

theorem Orderly.after (k : Orderly τ υ) (h : Orderly σ τ) : Orderly σ υ := h.trans k

/-- An update of the state that leaves the queue, and each of the four maps in canonical form where all of them were. -/
theorem Orderly.update (h : Orderly σ τ) (hp : υ.pending = τ.pending)
    (hr : τ.regs.wf = true → υ.regs.wf = true) (hm : τ.mem.wf = true → υ.mem.wf = true)
    (he : τ.ecc.wf = true → υ.ecc.wf = true) (hs : τ.shadow.wf = true → υ.shadow.wf = true) : Orderly σ υ := by
  refine h.trans ⟨hp, fun c => ?_⟩
  obtain ⟨cr, cm, ce, cs⟩ := τ.canonical_iff.mp c
  exact υ.canonical_iff.mpr ⟨hr cr, hm cm, he ce, hs cs⟩

/-- An update of the parts beside the maps and the queue. -/
theorem Orderly.same (h : Orderly σ τ) (hr : υ.regs = τ.regs) (hm : υ.mem = τ.mem) (he : υ.ecc = τ.ecc)
    (hs : υ.shadow = τ.shadow) (hp : υ.pending = τ.pending) : Orderly σ υ :=
  h.update hp (hr ▸ id) (hm ▸ id) (he ▸ id) (hs ▸ id)

/-- An update of the parts beside the maps and the queue, written field by field. -/
theorem Orderly.beside {epoch draws raised resp img clk ep pwm plinth sens wcmp loop drive diag grid relay meter cur pins warden sv start hok cour}
    (h : Orderly σ τ) : Orderly σ (State.mk τ.regs τ.mem τ.shadow epoch draws raised resp img clk ep pwm plinth sens wcmp loop drive diag grid
      relay meter cur pins warden sv start hok cour τ.ecc τ.pending) :=
  h.same rfl rfl rfl rfl rfl

theorem Orderly.ite {c : Prop} {_ : Decidable c} (h : Orderly σ τ) (k : Orderly σ υ) : Orderly σ (if c then τ else υ) := by
  split <;> assumption

theorem Orderly.iteOf {α : Type} (π : α → State) {c : Prop} {_ : Decidable c} {a b : α} (h : Orderly σ (π a)) (k : Orderly σ (π b)) :
    Orderly σ (π (if c then a else b)) := by
  split <;> assumption

theorem Orderly.foldl {α : Type} {f : State → α → State} {l : List α} (hf : ∀ τ x, Orderly σ τ → Orderly σ (f τ x)) (h : Orderly σ τ) :
    Orderly σ (l.foldl f τ) := by
  induction l generalizing τ with
  | nil => exact h
  | cons x l ih => exact ih (hf τ x h)

theorem Orderly.foldlFst {α β : Type} {f : State × β → α → State × β} {l : List α} {r : State × β}
    (hf : ∀ r x, Orderly σ r.1 → Orderly σ (f r x).1) (h : Orderly σ r.1) : Orderly σ (l.foldl f r).1 := by
  induction l generalizing r with
  | nil => exact h
  | cons x l ih => exact ih (hf r x h)

theorem Orderly.forEach {ks : List Nat} {f : State → Nat → State} (h : Orderly σ τ) (hf : ∀ τ k, Orderly σ τ → Orderly σ (f τ k)) :
    Orderly σ (τ.forEach ks f) := .foldl hf h

theorem Orderly.when {c : Bool} {f : State → State} (h : Orderly σ τ) (hf : ∀ τ, Orderly σ τ → Orderly σ (f τ)) :
    Orderly σ (τ.when c f) := .ite (hf τ h) h

theorem Runs.next (h : Orderly σ τ) : Runs σ (.next τ) := ⟨τ, rfl, h⟩

theorem Runs.ite {c : Prop} {_ : Decidable c} {a b : Res} (h : Runs σ a) (k : Runs σ b) : Runs σ (if c then a else b) := by
  split <;> assumption

theorem Runs.after {r : Res} (k : Runs τ r) (h : Orderly σ τ) : Runs σ r := by
  obtain ⟨υ, hr, hu⟩ := k
  exact ⟨υ, hr, h.trans hu⟩

/-! ### Registers, memory and shadows -/

theorem Orderly.wr {a : Nat} {v : Word} (h : Orderly σ τ) : Orderly σ (τ.wr a v) := h.update rfl (τ.wr_regs_wf a v) id id id

theorem Orderly.wrB {a : Nat} {v : Byte} (h : Orderly σ τ) : Orderly σ (τ.wrB a v) :=
  h.update rfl id (τ.wrB_mem_wf a v) (τ.wrB_ecc_wf a v) id

theorem Orderly.wrBytes {a : Nat} {bs : List Byte} (h : Orderly σ τ) : Orderly σ (τ.wrBytes a bs) := by
  induction bs generalizing τ a with
  | nil => exact h
  | cons b bs ih => exact ih h.wrB

theorem Orderly.memDrop {lo hi : Nat} (h : Orderly σ τ) : Orderly σ (τ.memDrop lo hi) :=
  h.update rfl id (SMap.wf_filter _ _) id (SMap.wf_filter _ _)

theorem Orderly.setShadow {a : Nat} {x : Shadow} (h : Orderly σ τ) : Orderly σ { τ with shadow := τ.shadow.set a x } :=
  h.update rfl id id id (SMap.wf_set _ a x)

theorem Orderly.dropShadow {a : Nat} (h : Orderly σ τ) : Orderly σ (τ.dropShadow a) := h.setShadow

theorem Orderly.toShadow {f : Fld} {v : Nat} (h : Orderly σ τ) : Orderly σ (τ.toShadow f v) := h.setShadow

theorem Orderly.transfer {f : Fld} (h : Orderly σ τ) : Orderly σ (τ.transfer f) := .ite (.setShadow (.wr h)) h

theorem Orderly.modSv {f : SvState → SvState} (hτ : Orderly σ τ) : Orderly σ (τ.modSv f) :=
  .beside hτ

/-! ### One lemma for each function of the model, in the order in which they call one another -/

theorem Orderly.put {f : Fld} {v : Nat} (hτ : Orderly σ τ) : Orderly σ (τ.put f v) :=
  .wr hτ

theorem Orderly.stageClose (hτ : Orderly σ τ) : Orderly σ (τ.stageClose) := by
  unfold State.stageClose
  split
  · exact hτ
  · exact .modSv (.put hτ)

theorem Orderly.drew (hτ : Orderly σ τ) : Orderly σ (τ.drew) :=
  .beside hτ

theorem Orderly.stageVerify (hτ : Orderly σ τ) : Orderly σ (τ.stageVerify).1 := by
  unfold State.stageVerify
  split
  · exact hτ
  · exact .after (.after (.iteOf Prod.fst (.refl _) (.drew (.refl _))) (.ite (.ite (.refl _) (.put (.refl _))) (.put (.refl _))))
      (.stageClose hτ)

theorem Orderly.raiseAt {n info : Nat} (hτ : Orderly σ τ) : Orderly σ (τ.raiseAt n info) :=
  .beside hτ

theorem Orderly.raise {n : Nat} (hτ : Orderly σ τ) : Orderly σ (τ.raise n) :=
  .raiseAt hτ

theorem Orderly.set1 {f : Fld} (hτ : Orderly σ τ) : Orderly σ (τ.set1 f) :=
  .put hτ

theorem Orderly.cfgReject {b : Blk} (hτ : Orderly σ τ) : Orderly σ (τ.cfgReject b) := by
  unfold State.cfgReject
  split
  · exact .raise (.set1 hτ)
  · exact .set1 hτ

theorem Orderly.imgSelect {v : Word} (hτ : Orderly σ τ) : Orderly σ (τ.imgSelect v) :=
  .ite hτ (.ite (.put hτ) (.set1 hτ))

theorem Orderly.drewN {n : Nat} (hτ : Orderly σ τ) : Orderly σ (τ.drewN n) :=
  .beside hτ

theorem Orderly.logWrite {ty pm : Nat} {d : List Byte} {bad : Nat} (hτ : Orderly σ τ) : Orderly σ (τ.logWrite ty pm d bad) :=
  .after (.after (.ite (.set1 (.refl _)) (.refl _)) (.modSv (.ite (.refl _) (.ite (.drewN (.wrBytes (.refl _))) (.wrBytes (.refl _))))))
    (.ite (.drewN (.wrBytes hτ)) (.wrBytes hτ))

theorem Orderly.svShow (hτ : Orderly σ τ) : Orderly σ (τ.svShow) :=
  .put (.put (.put (.put (.put (.put (.put hτ))))))

theorem Orderly.imgConfirm {v : Word} {bad : Nat} (hτ : Orderly σ τ) : Orderly σ (τ.imgConfirm v bad) :=
  .ite (.drewN (.logWrite (.svShow (.modSv hτ)))) hτ

theorem Orderly.doorbell {i : Initiator} {v : Word} (hτ : Orderly σ τ) : Orderly σ (τ.doorbell i v) :=
  .ite (.when (.when hτ (fun _ hτ => .put hτ)) (fun _ hτ => .put hτ)) (.ite (.when (.when hτ (fun _ hτ => .put hτ)) (fun _ hτ => .put hτ))
    hτ)

theorem Orderly.modHok {q : Nat} {f : Hok → Hok} (hτ : Orderly σ τ) : Orderly σ (τ.modHok q f) :=
  .beside hτ

theorem Orderly.modLoop {p : Nat} {f : LoopPair → LoopPair} (hτ : Orderly σ τ) : Orderly σ (τ.modLoop p f) :=
  .beside hτ

theorem Orderly.modGrid {f : GridState → GridState} (hτ : Orderly σ τ) : Orderly σ (τ.modGrid f) :=
  .beside hτ

theorem Orderly.modPwm {u : Nat} {f : PwmUnit → PwmUnit} (hτ : Orderly σ τ) : Orderly σ (τ.modPwm u f) :=
  .beside hτ

theorem Orderly.stopEdges {u t : Nat} (hτ : Orderly σ τ) : Orderly σ (τ.stopEdges u t) :=
  .modPwm (.put (.put hτ))

theorem Orderly.setPwm {u : Nat} {p : PwmUnit} (hτ : Orderly σ τ) : Orderly σ (τ.setPwm u p) :=
  .beside hτ

theorem Orderly.enterHeld {u : Nat} (hτ : Orderly σ τ) : Orderly σ (τ.enterHeld u) :=
  .setPwm (.foldl (fun _ _ hτ => .toShadow hτ) hτ)

theorem Orderly.loopToShadow {vals : List HeldW} (hτ : Orderly σ τ) : Orderly σ (τ.loopToShadow vals) :=
  .foldl (fun _ _ hτ => .toShadow hτ) hτ

theorem Orderly.noteHolds (hτ : Orderly σ τ) : Orderly σ (τ.noteHolds) :=
  .forEach (.forEach hτ (fun _ _ hτ => .ite (.beside hτ) hτ)) (fun _ _ hτ => .beside hτ)

theorem Orderly.maintEnd {c : Nat} {r : MaintResult} (hτ : Orderly σ τ) : Orderly σ (τ.maintEnd c r) :=
  .ite (.put (.put (.put hτ))) hτ

theorem Orderly.wrW {a : Nat} {v : Word} (hτ : Orderly σ τ) : Orderly σ (τ.wrW a v) :=
  .wrBytes hτ

theorem Orderly.ivSlots {p : Nat} {on v : Word} (hτ : Orderly σ τ) : Orderly σ (τ.ivSlots p on v) :=
  .dropShadow (.dropShadow (.wrW (.wrW hτ)))

theorem Orderly.ivFinish {x : Nat} {r : MaintResult} (hτ : Orderly σ τ) : Orderly σ (τ.ivFinish x r) :=
  .noteHolds (.maintEnd (.ivSlots hτ))

theorem Orderly.ivAbort {x : Nat} (hτ : Orderly σ τ) : Orderly σ (τ.ivAbort x) :=
  .ite (.ivFinish hτ) hτ

theorem Orderly.ivStopped {u : Nat} (hτ : Orderly σ τ) : Orderly σ (τ.ivStopped u) :=
  .ite (.ivAbort hτ) hτ

theorem Orderly.stopUnit {u : Nat} (hτ : Orderly σ τ) : Orderly σ (τ.stopUnit u) :=
  .ite (.ite (.stopEdges hτ) hτ) (.after (.after (.ivStopped (.ite (.refl _) (.put (.stopEdges (.refl _))))) (.beside (.ite (.put (.refl
    _)) (.refl _)))) (.modPwm (.put (.enterHeld (.foldl (fun _ _ hτ => .loopToShadow hτ) hτ)))))

theorem Orderly.setOp {op : Nat} (hτ : Orderly σ τ) : Orderly σ (τ.setOp op) :=
  .after (.after (.ite (.set1 (.refl _)) (.refl _)) (.ite (.set1 (.refl _)) (.refl _))) (.put (.put hτ))

theorem Orderly.modRelay {f : RelayState → RelayState} (hτ : Orderly σ τ) : Orderly σ (τ.modRelay f) :=
  .beside hτ

theorem Orderly.incSat {f : Fld} (hτ : Orderly σ τ) : Orderly σ (τ.incSat f) :=
  .put hτ

theorem Orderly.relayDrive {k : Nat} {on : Bool} (hτ : Orderly σ τ) : Orderly σ (τ.relayDrive k on) :=
  .ite hτ (.after (.ite (.incSat (.refl _)) (.refl _)) (.modRelay (.put (.put hτ))))

theorem Orderly.relaysOff (hτ : Orderly σ τ) : Orderly σ (τ.relaysOff) :=
  .put (.relayDrive (.relayDrive hτ))

theorem Orderly.setConn {c : Nat} (hτ : Orderly σ τ) : Orderly σ (τ.setConn c) :=
  .put hτ

theorem Orderly.enterOpening (hτ : Orderly σ τ) : Orderly σ (τ.enterOpening) :=
  .after (.ite (.refl _) (.modRelay (.setConn (.refl _)))) (.relaysOff hτ)

theorem Orderly.probeAbandon (hτ : Orderly σ τ) : Orderly σ (τ.probeAbandon) :=
  .modGrid (.put hτ)

theorem Orderly.modCour {f : CourState → CourState} (hτ : Orderly σ τ) : Orderly σ (τ.modCour f) :=
  .beside hτ

theorem Orderly.plcQueue {txid dst : Nat} {bs : List Byte} (hτ : Orderly σ τ) : Orderly σ (τ.plcQueue txid dst bs) :=
  .ite (.modCour hτ) hτ

theorem Orderly.eventSend (hτ : Orderly σ τ) : Orderly σ (τ.eventSend) :=
  .ite hτ (.after (.ite (.refl _) (.plcQueue (.refl _))) (.modCour (.drew hτ)))

theorem Orderly.openingEvent {was : Nat} (hτ : Orderly σ τ) : Orderly σ (τ.openingEvent was) :=
  .ite hτ (.eventSend hτ)

theorem Orderly.gridTrip {cause curve point : Nat} (hτ : Orderly σ τ) : Orderly σ (τ.gridTrip cause curve point) :=
  .openingEvent (.raise (.set1 (.modGrid (.wr (.put (.put (.put (.setOp (.enterOpening (.probeAbandon (.forEach hτ (fun _ _ hτ =>
    .stopUnit hτ))))))))))))

theorem Orderly.enterWait (hτ : Orderly σ τ) : Orderly σ (τ.enterWait) := by
  unfold State.enterWait
  exact .modGrid (.drew (.wr (.put (.setConn hτ))))

theorem Orderly.connRefresh (hτ : Orderly σ τ) : Orderly σ (τ.connRefresh) :=
  .ite (.enterWait hτ) (.ite (.modGrid (.put (.setConn hτ))) hτ)

theorem Orderly.gridDisabled {p : Nat} (hτ : Orderly σ τ) : Orderly σ (τ.gridDisabled p) :=
  .ite (.after (.ite (.gridTrip (.refl _)) (.connRefresh (.refl _))) (.modGrid hτ)) hτ

theorem Orderly.pairPowerDown {p : Nat} (hτ : Orderly σ τ) : Orderly σ (τ.pairPowerDown p) :=
  .after (.ite (.gridDisabled (.refl _)) (.refl _)) (.modLoop (.put (.put (.put hτ))))

theorem Orderly.ivAbortIf {p : IvTrace → Bool} (hτ : Orderly σ τ) : Orderly σ (τ.ivAbortIf p) :=
  .forEach hτ (fun _ _ hτ => .ite (.ivAbort hτ) hτ)

theorem Orderly.modCh {k : Nat} {f : ChState → ChState} (hτ : Orderly σ τ) : Orderly σ (τ.modCh k f) :=
  .beside hτ

theorem Orderly.calAbort {grid : Bool} (hτ : Orderly σ τ) : Orderly σ (τ.calAbort grid) :=
  .ite (.maintEnd (.forEach (.put hτ) (fun _ _ hτ => .modCh hτ))) hτ

theorem Orderly.wcTestBusy {q : List Nat} (hτ : Orderly σ τ) : Orderly σ (τ.wcTestBusy q) :=
  .put (.put hτ)

theorem Orderly.modWc {c : Nat} {f : WcState → WcState} (hτ : Orderly σ τ) : Orderly σ (τ.modWc c f) :=
  .beside hτ

theorem Orderly.modHb {h : Nat} {f : HalfBridge → HalfBridge} (hτ : Orderly σ τ) : Orderly σ (τ.modHb h f) :=
  .beside hτ

theorem Orderly.hbOff {h : Nat} (hτ : Orderly σ τ) : Orderly σ (τ.hbOff h) :=
  .modHb (.put (.put (.put (.put hτ))))

theorem Orderly.hbHoldOff (hτ : Orderly σ τ) : Orderly σ (τ.hbHoldOff) :=
  .forEach hτ (fun _ _ hτ => .ite (.hbOff hτ) hτ)

theorem Orderly.modLane {l : Nat} {f : Lane → Lane} (hτ : Orderly σ τ) : Orderly σ (τ.modLane l f) :=
  .beside hτ

theorem Orderly.laneTrip {l after : Nat} (hτ : Orderly σ τ) : Orderly σ (τ.laneTrip l after) :=
  .ite (.modLane (.wr (.put hτ))) (.ite (.modLane hτ) hτ)

theorem Orderly.holdBegins {groups : Nat} (hτ : Orderly σ τ) : Orderly σ (τ.holdBegins groups) :=
  .noteHolds (.forEach (.hbHoldOff hτ) (fun _ _ hτ => .ite (.laneTrip hτ) hτ))

theorem Orderly.wcHold {before : Nat} (hτ : Orderly σ τ) : Orderly σ (τ.wcHold before) :=
  .holdBegins hτ

theorem Orderly.vkxNote {hi lo : Bool} (hτ : Orderly σ τ) : Orderly σ (τ.vkxNote hi lo) :=
  .beside hτ

theorem Orderly.wcOut {c : Nat} {hi lo : Bool} (hτ : Orderly σ τ) : Orderly σ (τ.wcOut c hi lo) :=
  .put (.put (.ite (.vkxNote hτ) hτ))

theorem Orderly.wcOutAt {c : Nat} {x : Rat} (hτ : Orderly σ τ) : Orderly σ (τ.wcOutAt c x) :=
  .wcOut hτ

theorem Orderly.wcPendSee {c : Nat} {x : Rat} (hτ : Orderly σ τ) : Orderly σ (τ.wcPendSee c x) :=
  .modWc (.put hτ)

theorem Orderly.wcSee {c : Nat} {x : Rat} (hτ : Orderly σ τ) : Orderly σ (τ.wcSee c x) := by
  unfold State.wcSee
  dsimp only
  split
  · split
    · exact .wcOutAt (.modWc hτ)
    · exact (.modWc hτ)
  · exact .after (.ite (.wcPendSee (.refl _)) (.refl _)) (.wcOutAt (.modWc hτ))

theorem Orderly.wcPend {c : Nat} (hτ : Orderly σ τ) : Orderly σ (τ.wcPend c) := by
  refine .wcHold ?_
  split
  · exact .wcSee (.modWc (.put hτ))
  · exact (.modWc (.put hτ))

theorem Orderly.wcTestAbort (hτ : Orderly σ τ) : Orderly σ (τ.wcTestAbort) := by
  unfold State.wcTestAbort
  split
  · exact hτ
  · exact .beside (.wcTestBusy (.wcPend hτ))

theorem Orderly.maintAbort {c : Nat} (hτ : Orderly σ τ) : Orderly σ (τ.maintAbort c) := by
  refine .ite hτ ?_
  split
  · exact .calAbort hτ
  · exact .calAbort hτ
  · exact .maintEnd (.wcTestAbort hτ)
  · exact .ivAbort hτ
  · exact .ivAbort hτ
  · exact .ivAbort hτ
  · exact .ivAbort hτ
  · exact .maintEnd (.put (.relaysOff hτ))
  · exact hτ
  · exact .maintEnd hτ

theorem Orderly.maintDrop {c : Nat} (hτ : Orderly σ τ) : Orderly σ (τ.maintDrop c) :=
  .after (.ite (.maintEnd (.refl _)) (.refl _)) (.maintAbort hτ)

theorem Orderly.modArc {x : Nat} {f : ArcIn → ArcIn} (hτ : Orderly σ τ) : Orderly σ (τ.modArc x f) :=
  .beside hτ

theorem Orderly.arcStop {x : Nat} (hτ : Orderly σ τ) : Orderly σ (τ.arcStop x) :=
  .ite (.modArc (.beside (.put (.put (.put (.put hτ)))))) hτ

theorem Orderly.arcStopAll (hτ : Orderly σ τ) : Orderly σ (τ.arcStopAll) :=
  .forEach hτ (fun _ _ hτ => .arcStop hτ)

theorem Orderly.modMeter {f : MeterState → MeterState} (hτ : Orderly σ τ) : Orderly σ (τ.modMeter f) :=
  .beside hτ

theorem Orderly.meterStop (hτ : Orderly σ τ) : Orderly σ (τ.meterStop) :=
  .ite (.modMeter (.forEach (.put (.put (.put hτ))) (fun _ _ hτ => .modCh (.put hτ)))) hτ

theorem Orderly.modSide {grid : Bool} {f : SideState → SideState} (hτ : Orderly σ τ) : Orderly σ (τ.modSide grid f) :=
  .beside hτ

theorem Orderly.calClear {k : Nat} (hτ : Orderly σ τ) : Orderly σ (τ.calClear k) :=
  .put (.put (.put hτ))

theorem Orderly.sensPowerDown {grid : Bool} (hτ : Orderly σ τ) : Orderly σ (τ.sensPowerDown grid) :=
  .forEach (.forEach (.modSide (.put hτ)) (fun _ _ hτ => .ite (.beside (.put hτ)) hτ)) (fun _ _ hτ => .calClear (.modCh (.put hτ)))

theorem Orderly.courSessionEnd (hτ : Orderly σ τ) : Orderly σ (τ.courSessionEnd) := by
  unfold State.courSessionEnd
  split
  · exact hτ
  · exact .modCour (.put (.stageClose hτ))

theorem Orderly.plcDrop (hτ : Orderly σ τ) : Orderly σ (τ.plcDrop) := by
  unfold State.plcDrop
  refine .modCour (.put ?_)
  split
  · exact .ite (.courSessionEnd hτ) hτ
  · exact hτ

theorem Orderly.modPlinth {f : PlinthState → PlinthState} (hτ : Orderly σ τ) : Orderly σ (τ.modPlinth f) :=
  .beside hτ

theorem Orderly.padHold {d : Nat} (hτ : Orderly σ τ) : Orderly σ (τ.padHold d) :=
  .ite hτ (.put (.ite (.modPlinth hτ) (.ite (.modPlinth hτ) hτ)))

theorem Orderly.domainIdle {d : Nat} (hτ : Orderly σ τ) : Orderly σ (τ.domainIdle d) :=
  .ite (.modHok hτ) (.ite (.forEach (.ivAbortIf hτ) (fun _ _ hτ => .pairPowerDown hτ)) (.ite (.maintDrop (.arcStopAll (.meterStop hτ)))
    (.ite (.sensPowerDown (.forEach hτ (fun _ _ hτ => .maintDrop hτ))) (.ite (.forEach (.ivAbortIf hτ) (fun _ _ hτ => .hbOff hτ)) (.ite
    (.after (.after (.modGrid (.ite (.refl _) (.put (.setConn (.refl _))))) (.ite (.gridTrip (.refl _)) (.refl _))) (.plcDrop (.put
    (.relaysOff (.forEach (.sensPowerDown (.forEach hτ (fun _ _ hτ => .maintDrop hτ))) (fun _ _ hτ => .put hτ)))))) (.ite (.modCour
    (.plcDrop (.courSessionEnd (.padHold hτ)))) hτ))))))

theorem Orderly.dvfsDrop {d : Nat} (hτ : Orderly σ τ) : Orderly σ (τ.dvfsDrop d) :=
  .modPlinth (.put hτ)

theorem Orderly.domainOff {d : Nat} (hτ : Orderly σ τ) : Orderly σ (τ.domainOff d) :=
  .ite (.after (.noteHolds (.put (.put (.ite (.dvfsDrop (.refl _)) (.refl _))))) (.domainIdle hτ)) (.put hτ)

theorem Orderly.pdBit {d : Nat} {on : Bool} (hτ : Orderly σ τ) : Orderly σ (τ.pdBit d on) :=
  .ite hτ (.ite (.ite (.after (.ite (.refl _) (.put (.refl _))) (.put hτ)) (.cfgReject hτ)) (.ite (.domainOff (.put hτ)) (.cfgReject hτ)))

theorem Orderly.pdWrite {i : Initiator} {v : Word} (hτ : Orderly σ τ) : Orderly σ (τ.pdWrite i v) :=
  .ite (.cfgReject hτ) (.forEach hτ (fun _ _ hτ => .pdBit hτ))

theorem Orderly.dvfsNext {d : Nat} (hτ : Orderly σ τ) : Orderly σ (τ.dvfsNext d) :=
  .ite hτ (.modPlinth (.put (.ite (.put hτ) hτ)))

theorem Orderly.liveGate {b : Blk} {f : Fld} {v : Nat} {k : State → State} (hτ : Orderly σ τ) (hk : ∀ τ, Orderly σ τ → Orderly σ (k τ)) :
    Orderly σ (τ.liveGate b f v k) := by
  unfold State.liveGate
  split
  · exact hτ
  · exact .cfgReject hτ
  · exact hk _ hτ

theorem Orderly.quietGate {b : Blk} {running : Bool} {f : Fld} {v : Nat} {k : State → State} (hτ : Orderly σ τ) (hk : ∀ τ, Orderly σ τ →
    Orderly σ (k τ)) : Orderly σ (τ.quietGate b running f v k) :=
  .liveGate hτ (fun _ hτ => .ite (.cfgReject hτ) (hk _ hτ))

theorem Orderly.opWrite {d v : Nat} (hτ : Orderly σ τ) : Orderly σ (τ.opWrite d v) :=
  .quietGate hτ (fun _ hτ => .ite (.cfgReject hτ) (.dvfsNext (.put hτ)))

theorem Orderly.opWriteAll {v : Word} (hτ : Orderly σ τ) : Orderly σ (τ.opWriteAll v) :=
  .forEach hτ (fun _ _ hτ => .opWrite hτ)

theorem Orderly.padRelease {v : Word} (hτ : Orderly σ τ) : Orderly σ (τ.padRelease v) :=
  .forEach hτ (fun _ _ hτ => .ite (.put hτ) (.cfgReject hτ))

theorem Orderly.laneSafe {l : Nat} (hτ : Orderly σ τ) : Orderly σ (τ.laneSafe l) :=
  .ite (.put hτ) (.laneTrip hτ)

theorem Orderly.outputsSafe (hτ : Orderly σ τ) : Orderly σ (τ.outputsSafe) :=
  .noteHolds (.relaysOff (.forEach (.forEach (.forEach hτ (fun _ _ hτ => .stopUnit hτ)) (fun _ _ hτ => .hbOff hτ)) (fun _ _ hτ =>
    .laneSafe hτ)))

theorem Orderly.vaultNext (hτ : Orderly σ τ) : Orderly σ (τ.vaultNext) :=
  .modMeter hτ

theorem Orderly.vaultPut {k : Nat} {bs : List Byte} {bad : Bool} (hτ : Orderly σ τ) : Orderly σ (τ.vaultPut k bs bad) :=
  .ite (.drewN (.wrBytes hτ)) (.modMeter (.wrBytes hτ))

theorem Orderly.vaultPartial (hτ : Orderly σ τ) : Orderly σ (τ.vaultPartial) :=
  .ite (.vaultNext (.vaultPut hτ)) (.vaultNext (.vaultPut (.drew hτ)))

theorem Orderly.meterWarn (hτ : Orderly σ τ) : Orderly σ (τ.meterWarn) :=
  .after (.ite (.refl _) (.after (.ite (.modMeter (.refl _)) (.refl _)) (.vaultPartial (.refl _)))) (.maintAbort hτ)

theorem Orderly.modStart {f : StartState → StartState} (hτ : Orderly σ τ) : Orderly σ (τ.modStart f) :=
  .beside hτ

theorem Orderly.sysAssert (hτ : Orderly σ τ) : Orderly σ (τ.sysAssert) :=
  .ite hτ (.modStart (.modHok (.modHok (.outputsSafe (.meterWarn hτ)))))

theorem Orderly.putAll {l : List (Fld × Nat)} (hτ : Orderly σ τ) : Orderly σ (τ.putAll l) :=
  .foldl (fun _ _ hτ => .put hτ) hτ

theorem Orderly.keepOf {p : Nat × Word → Bool} {q : Nat × Shadow → Bool} (h : Orderly σ τ) :
    Orderly σ { τ with regs := τ.regs.filter p, shadow := τ.shadow.filter q } :=
  h.update rfl (SMap.wf_filter _ _) id id (SMap.wf_filter _ _)

theorem Orderly.resetRange {lo hi : Nat} (h : Orderly σ τ) : Orderly σ (τ.resetRange lo hi) :=
  .putAll (.foldl (fun _ _ h => .wr h) h.keepOf)

theorem Orderly.hpbItems (hτ : Orderly σ τ) : Orderly σ (τ.hpbItems) :=
  .modHok (.put (.resetRange (.resetRange hτ)))

theorem Orderly.hpbUnitsStop (hτ : Orderly σ τ) : Orderly σ (τ.hpbUnitsStop) :=
  .forEach hτ (fun _ _ hτ => .stopUnit hτ)

theorem Orderly.curFencedNow (hτ : Orderly σ τ) : Orderly σ (τ.curFencedNow) :=
  .put (.put (.put (.put hτ)))

theorem Orderly.judgeCommit {u a : Nat} (hτ : Orderly σ τ) : Orderly σ (τ.judgeCommit u a) :=
  .modPwm (.ite hτ (.set1 hτ))

theorem Orderly.shiftUnit {u d : Nat} (hτ : Orderly σ τ) : Orderly σ (τ.shiftUnit u d) := by
  unfold State.shiftUnit
  dsimp only
  split
  · exact .judgeCommit (.modPwm (.enterHeld (.setPwm (.modPwm hτ))))
  · exact (.modPwm (.enterHeld (.setPwm (.modPwm hτ))))

theorem Orderly.thawUnit {u : Nat} (hτ : Orderly σ τ) : Orderly σ (τ.thawUnit u) :=
  .ite (.shiftUnit (.put hτ)) hτ

theorem Orderly.dbgResume {t : Nat} (hτ : Orderly σ τ) : Orderly σ (τ.dbgResume t) :=
  .ite hτ (.after (.ite (.beside (.refl _)) (.ite (.beside (.put (.refl _))) (.refl _))) (.forEach (.modSv hτ) (fun _ _ hτ => .ite hτ
    (.thawUnit hτ))))

theorem Orderly.dbgRelease (hτ : Orderly σ τ) : Orderly σ (τ.dbgRelease) :=
  .forEach (.forEach hτ (fun _ _ hτ => .dbgResume hτ)) (fun _ _ hτ => .modHok hτ)

theorem Orderly.dbgPermitEnd (hτ : Orderly σ τ) : Orderly σ (τ.dbgPermitEnd) :=
  .ite hτ (.dbgRelease (.modSv (.put hτ)))

theorem Orderly.hpbReset (hτ : Orderly σ τ) : Orderly σ (τ.hpbReset) :=
  .dbgPermitEnd (.modHok (.set1 (.put (.curFencedNow (.put (.hpbItems (.hpbUnitsStop hτ)))))))

theorem Orderly.resetWrite {i : Initiator} {v : Word} (hτ : Orderly σ τ) : Orderly σ (τ.resetWrite i v) :=
  .ite (.cfgReject hτ) (.ite (.sysAssert (.set1 (.ite (.set1 hτ) hτ))) (.ite (.hpbReset hτ) (.cfgReject hτ)))

theorem Orderly.wdtWrite {i : Initiator} {v : Word} (hτ : Orderly σ τ) : Orderly σ (τ.wdtWrite i v) :=
  .ite (.cfgReject hτ) (.modStart (.put hτ))

theorem Orderly.wdtKick {i : Initiator} {v : Word} (hτ : Orderly σ τ) : Orderly σ (τ.wdtKick i v) :=
  .ite (.cfgReject hτ) (.ite (.modStart hτ) hτ)

theorem Orderly.coreCtrlWrite {i : Initiator} {v : Word} (hτ : Orderly σ τ) : Orderly σ (τ.coreCtrlWrite i v) :=
  .ite (.cfgReject hτ) (.after (.ite (.modHok (.refl _)) (.refl _)) (.put hτ))

theorem Orderly.hpbEntryWrite {i : Initiator} {v : Word} (hτ : Orderly σ τ) : Orderly σ (τ.hpbEntryWrite i v) :=
  .ite (.wr hτ) (.cfgReject hτ)

theorem Orderly.semWrite {i : Nat} {v : Word} (hτ : Orderly σ τ) : Orderly σ (τ.semWrite i v) :=
  .ite (.wr hτ) hτ

theorem Orderly.plainWrite {a : Nat} {v : Word} (hτ : Orderly σ τ) : Orderly σ (τ.plainWrite a v) :=
  .ite hτ (.wr hτ)

theorem Orderly.writeSys {i : Initiator} {a : Nat} {v : Word} (hτ : Orderly σ τ) : Orderly σ (τ.writeSys i a v) := by
  refine .ite (.imgSelect hτ) (.ite (.imgConfirm hτ) (.ite (.doorbell hτ) (.ite (.pdWrite hτ) (.ite (.opWriteAll hτ) (.ite (.padRelease
    hτ) (.ite (.resetWrite hτ) (.ite (.wdtWrite hτ) (.ite (.wdtKick hτ) (.ite (.coreCtrlWrite hτ) (.ite (.hpbEntryWrite hτ) ?_))))))))))
  split
  · exact .semWrite hτ
  · exact .after (.ite (.put (.refl _)) (.refl _)) (.plainWrite hτ)

theorem Orderly.quietBits {b : Blk} {running : Bool} {f : Fld} {bad : Nat → Bool} {v : Word} (hτ : Orderly σ τ) : Orderly σ (τ.quietBits b
    running f bad v) :=
  .quietGate hτ (fun _ hτ => .ite (.cfgReject hτ) (.put hτ))

theorem Orderly.quietAll {b : Blk} {running : Bool} {f : Fld} {v : Word} (hτ : Orderly σ τ) : Orderly σ (τ.quietAll b running f v) :=
  .quietBits hτ

theorem Orderly.coastStart (hτ : Orderly σ τ) : Orderly σ (τ.coastStart) :=
  .after (.ite (.refl _) (.beside (.put (.incSat (.put (.refl _)))))) (.beside hτ)

theorem Orderly.armCancel (hτ : Orderly σ τ) : Orderly σ (τ.armCancel) :=
  .beside (.put hτ)

theorem Orderly.refSelect {c : Nat} (hτ : Orderly σ τ) : Orderly σ (τ.refSelect c) :=
  .after (.beside (.coastStart (.armCancel (.dropShadow (.ite (.set1 (.put (.refl _))) (.refl _)))))) (.put (.put (.put (.put (.put hτ)))))

theorem Orderly.refSelWrite {c : Nat} (hτ : Orderly σ τ) : Orderly σ (τ.refSelWrite c) :=
  .ite hτ (.refSelect hτ)

theorem Orderly.divsyncArm (hτ : Orderly σ τ) : Orderly σ (τ.divsyncArm) :=
  .ite (.beside (.put hτ)) (.cfgReject hτ)

theorem Orderly.clkCtrlWrite {v : Word} (hτ : Orderly σ τ) : Orderly σ (τ.clkCtrlWrite v) :=
  .after (.ite (.divsyncArm (.refl _)) (.refl _)) (.quietGate (.quietAll (.ite (.cfgReject hτ) (.put hτ))) (fun _ hτ => .refSelWrite hτ))

theorem Orderly.clkNWrite {n : Nat} (hτ : Orderly σ τ) : Orderly σ (τ.clkNWrite n) :=
  .ite (.put (.toShadow hτ)) (.cfgReject hτ)

theorem Orderly.writeClk {a : Nat} {v : Word} (hτ : Orderly σ τ) : Orderly σ (τ.writeClk a v) :=
  .ite (.clkCtrlWrite hτ) (.ite (.liveGate hτ (fun _ hτ => .clkNWrite hτ)) (.plainWrite hτ))

theorem Orderly.ttForget (hτ : Orderly σ τ) : Orderly σ (τ.ttForget) :=
  .beside (.put hτ)

theorem Orderly.epochLoad (hτ : Orderly σ τ) : Orderly σ (τ.epochLoad) :=
  .ite (.cfgReject hτ) (.beside (.put hτ))

theorem Orderly.epochMarkArm (hτ : Orderly σ τ) : Orderly σ (τ.epochMarkArm) :=
  .ite (.cfgReject hτ) (.ite (.put (.put hτ)) (.cfgReject hτ))

theorem Orderly.epochCtrlWrite {v : Word} (hτ : Orderly σ τ) : Orderly σ (τ.epochCtrlWrite v) :=
  .after (.after (.after (.ite (.put (.refl _)) (.refl _)) (.ite (.epochMarkArm (.refl _)) (.refl _))) (.ite (.epochLoad (.refl _)) (.refl
    _))) (.quietGate hτ (fun _ hτ => .ite (.cfgReject hτ) (.ite hτ (.ttForget (.put hτ)))))

theorem Orderly.epochRateWrite {v : Nat} (hτ : Orderly σ τ) : Orderly σ (τ.epochRateWrite v) :=
  .ite (.cfgReject hτ) (.toShadow hτ)

theorem Orderly.epochSlewWrite {v : Nat} (hτ : Orderly σ τ) : Orderly σ (τ.epochSlewWrite v) :=
  .ite (.cfgReject hτ) (.toShadow hτ)

theorem Orderly.clr {f : Fld} (hτ : Orderly σ τ) : Orderly σ (τ.clr f) :=
  .put hτ

theorem Orderly.schedDisarm {e : Nat} (hτ : Orderly σ τ) : Orderly σ (τ.schedDisarm e) :=
  .ite (.put hτ) (.beside hτ)

theorem Orderly.stickyRaise {f : Fld} {n : Nat} (hτ : Orderly σ τ) : Orderly σ (τ.stickyRaise f n) :=
  .raise (.set1 hτ)

theorem Orderly.schedArm {i : Initiator} {e : Nat} (hτ : Orderly σ τ) : Orderly σ (τ.schedArm i e) :=
  .ite (.cfgReject hτ) (.ite (.stickyRaise (.set1 hτ)) (.beside (.put hτ)))

theorem Orderly.schedCtrl {i : Initiator} {e : Nat} {v : Word} (hτ : Orderly σ τ) : Orderly σ (τ.schedCtrl i e v) :=
  .after (.ite (.ite (.schedDisarm (.refl _)) (.refl _)) (.ite (.schedArm (.refl _)) (.refl _))) (.ite (.clr hτ) hτ)

theorem Orderly.schedWrite {i : Initiator} {e o : Nat} {v : Word} (hτ : Orderly σ τ) : Orderly σ (τ.schedWrite i e o v) :=
  .ite (.schedCtrl hτ) (.ite hτ (.ite (.cfgReject hτ) (.wr hτ)))

theorem Orderly.writeEpoch {i : Initiator} {a : Nat} {v : Word} (hτ : Orderly σ τ) : Orderly σ (τ.writeEpoch i a v) :=
  .ite (.epochCtrlWrite hτ) (.ite (.quietAll hτ) (.ite (.quietAll hτ) (.ite (.liveGate hτ (fun _ hτ => .epochRateWrite hτ)) (.ite
    (.liveGate hτ (fun _ hτ => .epochSlewWrite hτ)) (.ite (.schedWrite hτ) (.plainWrite hτ))))))

theorem Orderly.chBroken {k : Nat} {i : Nat × Nat} (hτ : Orderly σ τ) : Orderly σ (τ.chBroken k i) :=
  .modCh hτ

theorem Orderly.rangeWrite {k v : Nat} (hτ : Orderly σ τ) : Orderly σ (τ.rangeWrite k v) :=
  .quietGate hτ ((fun _ hτ => .ite (.cfgReject hτ) (.ite hτ (.chBroken (.put (.put hτ))))))

theorem Orderly.ringStart {k : Nat} (hτ : Orderly σ τ) : Orderly σ (τ.ringStart k) :=
  .modCh (.wr (.put hτ))

theorem Orderly.ringEnable {k : Nat} (hτ : Orderly σ τ) : Orderly σ (τ.ringEnable k) :=
  .ite (.cfgReject hτ) (.ite hτ (.ite (.cfgReject hτ) (.ringStart hτ)))

theorem Orderly.ringDisable {k : Nat} (hτ : Orderly σ τ) : Orderly σ (τ.ringDisable k) :=
  .ite (.cfgReject hτ) (.modCh (.put hτ))

theorem Orderly.ringCtrlWrite {k : Nat} {v : Word} (hτ : Orderly σ τ) : Orderly σ (τ.ringCtrlWrite k v) :=
  .ite (.cfgReject hτ) (.after (.ite (.refl _) (.ite (.ringEnable (.refl _)) (.ringDisable (.refl _)))) (.ite (.cfgReject hτ) (.put hτ)))

theorem Orderly.chWrite {k o a : Nat} {v : Word} (hτ : Orderly σ τ) : Orderly σ (τ.chWrite k o a v) :=
  .ite (.rangeWrite (.put hτ)) (.ite (.ite (.cfgReject hτ) (.wr hτ)) (.ite (.ringCtrlWrite hτ) (.ite (.ite (.cfgReject hτ) (.wr hτ))
    (.plainWrite hτ))))

theorem Orderly.modWg {g : Nat} {f : WgState → WgState} (hτ : Orderly σ τ) : Orderly σ (τ.modWg g f) :=
  .beside hτ

theorem Orderly.wgEnable {g : Nat} (hτ : Orderly σ τ) : Orderly σ (τ.wgEnable g) :=
  .ite hτ (.ite (.cfgReject hτ) (.modWg (.wr (.put hτ))))

theorem Orderly.wgDisable {g : Nat} (hτ : Orderly σ τ) : Orderly σ (τ.wgDisable g) :=
  .put hτ

theorem Orderly.wgCtrlWrite {g : Nat} {v : Word} (hτ : Orderly σ τ) : Orderly σ (τ.wgCtrlWrite g v) :=
  .after (.after (.ite (.refl _) (.ite (.wgEnable (.refl _)) (.wgDisable (.refl _)))) (.ite (.forEach (.refl _) (fun _ _ hτ => .modCh hτ))
    (.refl _))) (.quietAll (.quietBits hτ))

theorem Orderly.monRestart (hτ : Orderly σ τ) : Orderly σ (τ.monRestart) :=
  .beside hτ

theorem Orderly.monMaskWrite {v : Word} (hτ : Orderly σ τ) : Orderly σ (τ.monMaskWrite v) :=
  .after (.ite (.monRestart (.refl _)) (.ite (.refl _) (.beside (.refl _)))) (.wr hτ)

theorem Orderly.writeSensp {a : Nat} {v : Word} (hτ : Orderly σ τ) : Orderly σ (τ.writeSensp a v) := by
  refine .ite (.chWrite hτ) ?_
  split
  · exact .wgCtrlWrite hτ
  · exact .quietBits hτ
  · exact .ite (.monMaskWrite hτ) (.plainWrite hτ)

theorem Orderly.clrRefused {c : Nat} (hτ : Orderly σ τ) : Orderly σ (τ.clrRefused c) :=
  .set1 hτ

theorem Orderly.wcSoftClear {c : Nat} (hτ : Orderly σ τ) : Orderly σ (τ.wcSoftClear c) :=
  .ite (.clrRefused hτ) (.ite (.modWc (.ite (.clrRefused hτ) hτ)) hτ)

theorem Orderly.wcClearWrite {grid : Bool} {v : Word} (hτ : Orderly σ τ) : Orderly σ (τ.wcClearWrite grid v) :=
  .ite (.forEach hτ (fun _ _ hτ => .wcSoftClear hτ)) (.forEach hτ (fun _ _ hτ => .wcSoftClear hτ))

theorem Orderly.wcThrWrite {c : Nat} {v : Word} (hτ : Orderly σ τ) : Orderly σ (τ.wcThrWrite c v) :=
  .ite (.cfgReject hτ) (.ite hτ (.ite (.cfgReject hτ) (.toShadow (.toShadow hτ))))

theorem Orderly.writeWcmpp {a : Nat} {v : Word} (hτ : Orderly σ τ) : Orderly σ (τ.writeWcmpp a v) := by
  refine .ite (.wcClearWrite hτ) ?_
  split
  · exact .wcThrWrite hτ
  · exact .plainWrite hτ

theorem Orderly.loopClrMax {p : Nat} (hτ : Orderly σ τ) : Orderly σ (τ.loopClrMax p) :=
  .put (.put hτ)

theorem Orderly.graphInit {p : Nat} (hτ : Orderly σ τ) : Orderly σ (τ.graphInit p) :=
  .foldl (fun _ _ hτ => .wrBytes hτ) (.ite (.set1 hτ) hτ)

theorem Orderly.gridEnabled {p : Nat} (hτ : Orderly σ τ) : Orderly σ (τ.gridEnabled p) :=
  .ite (.connRefresh (.modGrid hτ)) hτ

theorem Orderly.loopEnable {i : Initiator} {p : Nat} (hτ : Orderly σ τ) : Orderly σ (τ.loopEnable i p) :=
  .ite (.cfgReject hτ) (.ite hτ (.gridEnabled (.modLoop (.put (.put (.wr (.put (.put (.put (.graphInit hτ))))))))))

theorem Orderly.execDone {p : Nat} (hτ : Orderly σ τ) : Orderly σ (τ.execDone p) :=
  .modLoop (.put (.put hτ))

theorem Orderly.loopDisable {i : Initiator} {p : Nat} (hτ : Orderly σ τ) : Orderly σ (τ.loopDisable i p) :=
  .ite (.cfgReject hτ) (.after (.after (.ite (.gridDisabled (.refl _)) (.refl _)) (.ite (.execDone (.refl _)) (.ite (.modLoop (.refl _))
    (.refl _)))) (.put hτ))

theorem Orderly.lpCtrlWrite {i : Initiator} {p : Nat} {v : Word} (hτ : Orderly σ τ) : Orderly σ (τ.lpCtrlWrite i p v) :=
  .after (.ite (.loopEnable (.refl _)) (.loopDisable (.refl _))) (.ite (.loopClrMax hτ) hτ)

theorem Orderly.writeLoop {i : Initiator} {a : Nat} {v : Word} (hτ : Orderly σ τ) : Orderly σ (τ.writeLoop i a v) := by
  unfold State.writeLoop
  split
  · exact .lpCtrlWrite hτ
  · exact .plainWrite hτ

theorem Orderly.raisePeriod {u : Nat} (hτ : Orderly σ τ) : Orderly σ (τ.raisePeriod u) :=
  .forEach (.ite (.set1 (.put hτ)) hτ) (fun _ _ hτ => .ite (.set1 (.put hτ)) hτ)

theorem Orderly.clampCompare {u : Nat} {cmp frac : Fld} (hτ : Orderly σ τ) : Orderly σ (τ.clampCompare u cmp frac) :=
  .ite (.set1 (.put (.put hτ))) hτ

theorem Orderly.transferFix {u : Nat} {period : Bool} (hτ : Orderly σ τ) : Orderly σ (τ.transferFix u period) :=
  .clampCompare (.clampCompare (.put (.ite (.raisePeriod hτ) hτ)))

theorem Orderly.transferAll {u : Nat} (hτ : Orderly σ τ) : Orderly σ (τ.transferAll u) :=
  .transferFix (.foldl (fun _ _ hτ => .transfer hτ) hτ)

theorem Orderly.takeSwaps {u : Nat} {ok : SwapW → Bool} (hτ : Orderly σ τ) : Orderly σ (τ.takeSwaps u ok) :=
  .setPwm (.foldl (fun _ _ hτ => .put hτ) hτ)

theorem Orderly.logPeriod {u t : Nat} (hτ : Orderly σ τ) : Orderly σ (τ.logPeriod u t) :=
  .modPwm hτ

theorem Orderly.countPulses {u drop stretch : Nat} (hτ : Orderly σ τ) : Orderly σ (τ.countPulses u drop stretch) :=
  .put (.put hτ)

theorem Orderly.formLevels {u : Nat} (hτ : Orderly σ τ) : Orderly σ (τ.formLevels u) :=
  .ite (.setPwm (.countPulses hτ)) (.setPwm (.countPulses hτ))

theorem Orderly.periodClear {u b : Nat} (hτ : Orderly σ τ) : Orderly σ (τ.periodClear u b) :=
  .forEach hτ (fun _ _ hτ => .ite (.beside hτ) hτ)

theorem Orderly.wgTrigger {g e : Nat} (hτ : Orderly σ τ) : Orderly σ (τ.wgTrigger g e) :=
  .ite (.beside hτ) hτ

theorem Orderly.trigger {src unit e : Nat} (hτ : Orderly σ τ) : Orderly σ (τ.trigger src unit e) :=
  .forEach hτ (fun _ _ hτ => .wgTrigger hτ)

theorem Orderly.periodTrigger {u b : Nat} (hτ : Orderly σ τ) : Orderly σ (τ.periodTrigger u b) :=
  .trigger (.forEach hτ (fun _ _ hτ => .beside hτ))

theorem Orderly.periodStart {u b : Nat} (hτ : Orderly σ τ) : Orderly σ (τ.periodStart u b) :=
  .periodClear (.periodTrigger (.modPwm (.put (.wr (.logPeriod hτ)))))

theorem Orderly.startUnit {u : Nat} (hτ : Orderly σ τ) : Orderly σ (τ.startUnit u) :=
  .ite (.cfgReject hτ) (.ite hτ (.after (.ite (.periodStart (.refl _)) (.modPwm (.refl _))) (.logPeriod (.formLevels (.modPwm (.put (.wr
    (.put (.transferAll (.takeSwaps (.enterHeld hτ)))))))))))

theorem Orderly.pwmStartWrite {i : Initiator} {v : Word} (hτ : Orderly σ τ) : Orderly σ (τ.pwmStartWrite i v) :=
  .ite (.forEach hτ (fun _ _ hτ => .startUnit hτ)) (.cfgReject hτ)

theorem Orderly.stopAt {u t : Nat} (hτ : Orderly σ τ) : Orderly σ (τ.stopAt u t) :=
  .beside (.stopUnit hτ)

theorem Orderly.pwmStopWrite {i : Initiator} {v : Word} (hτ : Orderly σ τ) : Orderly σ (τ.pwmStopWrite i v) :=
  .ite (.forEach hτ (fun _ _ hτ => .stopAt hτ)) (.cfgReject hτ)

theorem Orderly.commitUnit {u : Nat} (hτ : Orderly σ τ) : Orderly σ (τ.commitUnit u) := by
  unfold State.commitUnit
  split
  · exact .cfgReject hτ
  · exact .ite (.set1 hτ) (.ite hτ (.ite hτ (.after (.ite (.refl _) (.judgeCommit (.refl _))) (.modPwm (.put hτ)))))

theorem Orderly.pwmCommitWrite {v : Word} (hτ : Orderly σ τ) : Orderly σ (τ.pwmCommitWrite v) :=
  .forEach hτ (fun _ _ hτ => .commitUnit hτ)

theorem Orderly.ownerWrite {i : Initiator} {u v : Nat} (hτ : Orderly σ τ) : Orderly σ (τ.ownerWrite i u v) :=
  .ite (.cfgReject hτ) (.ite (.cfgReject hτ) (.put hτ))

theorem Orderly.swapWrite {u bit v : Nat} (hτ : Orderly σ τ) : Orderly σ (τ.swapWrite u bit v) :=
  .ite (.liveGate hτ (fun _ hτ => .modPwm hτ)) (.ite (.cfgReject hτ) hτ)

theorem Orderly.pwmCtrlWrite {i : Initiator} {u : Nat} {v : Word} (hτ : Orderly σ τ) : Orderly σ (τ.pwmCtrlWrite i u v) :=
  .swapWrite (.swapWrite (.quietGate (.ownerWrite (.ite (.wr hτ) hτ)) (fun _ hτ => .put hτ)))

theorem Orderly.shadowWrite {u : Nat} {f : Fld} {v : Nat} (hτ : Orderly σ τ) : Orderly σ (τ.shadowWrite u f v) :=
  .ite (.setPwm hτ) (.toShadow hτ)

theorem Orderly.ownedGate {u : Nat} {k : State → State} (hτ : Orderly σ τ) (hk : ∀ τ, Orderly σ τ → Orderly σ (k τ)) : Orderly σ
    (τ.ownedGate u k) := by
  unfold State.ownedGate
  split
  · exact .cfgReject hτ
  · exact hk _ hτ

theorem Orderly.pwmPeriodWrite {u : Nat} {v : Word} (hτ : Orderly σ τ) : Orderly σ (τ.pwmPeriodWrite u v) :=
  .ownedGate hτ (fun _ hτ => .liveGate hτ ((fun _ hτ => .ite (.cfgReject hτ) (.shadowWrite hτ))))

theorem Orderly.pwmShadowWrite {u : Nat} {f : Fld} {v : Nat} (hτ : Orderly σ τ) : Orderly σ (τ.pwmShadowWrite u f v) :=
  .ownedGate hτ (fun _ hτ => .liveGate hτ (fun _ hτ => .shadowWrite hτ))

theorem Orderly.pwmFracWrite {u : Nat} {v : Word} (hτ : Orderly σ τ) : Orderly σ (τ.pwmFracWrite u v) :=
  .ownedGate hτ (fun _ hτ => .liveGate (.liveGate hτ (fun _ hτ => .shadowWrite hτ)) (fun _ hτ => .shadowWrite hτ))

theorem Orderly.issueEdges {u t : Nat} (hτ : Orderly σ τ) : Orderly σ (τ.issueEdges u t) :=
  .modPwm (.put (.put hτ))

theorem Orderly.pwmForceWrite {i : Initiator} {u : Nat} {v : Word} (hτ : Orderly σ τ) : Orderly σ (τ.pwmForceWrite i u v) :=
  .ite (.after (.ite (.issueEdges (.refl _)) (.refl _)) (.put (.put hτ))) (.cfgReject hτ)

theorem Orderly.pwmRegWrite {i : Initiator} {u o a : Nat} {v : Word} (hτ : Orderly σ τ) : Orderly σ (τ.pwmRegWrite i u o a v) :=
  .ite (.pwmCtrlWrite hτ) (.ite (.pwmPeriodWrite hτ) (.ite (.pwmShadowWrite hτ) (.ite (.pwmShadowWrite hτ) (.ite (.pwmShadowWrite hτ)
    (.ite (.pwmFracWrite hτ) (.ite (.pwmForceWrite hτ) (.plainWrite hτ)))))))

theorem Orderly.writePwm {i : Initiator} {a : Nat} {v : Word} (hτ : Orderly σ τ) : Orderly σ (τ.writePwm i a v) :=
  .ite (.pwmStartWrite hτ) (.ite (.pwmStopWrite hτ) (.ite (.pwmCommitWrite hτ) (.ite (.pwmRegWrite hτ) (.plainWrite hτ))))

theorem Orderly.formingWrite {i : Initiator} {v : Nat} (hτ : Orderly σ τ) : Orderly σ (τ.formingWrite i v) :=
  .ite (.cfgReject hτ) (.put hτ)

theorem Orderly.gridSetWrite {n : Nat} {v : Word} (hτ : Orderly σ τ) : Orderly σ (τ.gridSetWrite n v) :=
  .liveGate hτ (fun _ hτ => .ite (.toShadow hτ) (.cfgReject hτ))

theorem Orderly.openRequest {i : Initiator} (hτ : Orderly σ τ) : Orderly σ (τ.openRequest i) :=
  .ite (.cfgReject hτ) (.gridTrip hτ)

theorem Orderly.forceEnd (hτ : Orderly σ τ) : Orderly σ (τ.forceEnd) :=
  .forEach hτ ((fun _ _ hτ => .ite hτ (.after (.ite (.issueEdges (.refl _)) (.refl _)) (.wr hτ))))

theorem Orderly.permitEnd (hτ : Orderly σ τ) : Orderly σ (τ.permitEnd) :=
  .ite (.forceEnd (.set1 (.put hτ))) hτ

theorem Orderly.closeRequest {hpa both : Bool} (hτ : Orderly σ τ) : Orderly σ (τ.closeRequest hpa both) := by
  unfold State.closeRequest
  split
  · exact .put (.set1 hτ)
  · exact .ite (.drew (.put (.set1 hτ))) (.permitEnd (.modRelay (.setConn (.relayDrive hτ))))

theorem Orderly.closeWrite {i : Initiator} (hτ : Orderly σ τ) : Orderly σ (τ.closeWrite i) :=
  .ite (.cfgReject hτ) (.closeRequest hτ)

theorem Orderly.rtCtrlWrite {i : Initiator} {v : Word} (hτ : Orderly σ τ) : Orderly σ (τ.rtCtrlWrite i v) :=
  .after (.after (.ite (.closeWrite (.refl _)) (.refl _)) (.ite (.openRequest (.refl _)) (.refl _))) (.ite (.put hτ) (.cfgReject hτ))

theorem Orderly.writeGrid {i : Initiator} {a : Nat} {v : Word} (hτ : Orderly σ τ) : Orderly σ (τ.writeGrid i a v) :=
  .ite (.ite hτ (.formingWrite hτ)) (.ite (.gridSetWrite hτ) (.ite (.gridSetWrite hτ) (.ite (.gridSetWrite hτ) (.ite (.rtCtrlWrite hτ)
    (.plainWrite hτ)))))

theorem Orderly.meterClaim {k : Nat} (hτ : Orderly σ τ) : Orderly σ (τ.meterClaim k) :=
  .modCh (.ringStart (.put (.wr hτ)))

theorem Orderly.meterStart (hτ : Orderly σ τ) : Orderly σ (τ.meterStart) := by
  unfold State.meterStart
  exact .modMeter (.wr (.put (.put (.put (.forEach hτ (fun _ _ hτ => .meterClaim hτ))))))

theorem Orderly.meterEnable {i : Initiator} (hτ : Orderly σ τ) : Orderly σ (τ.meterEnable i) :=
  .ite (.cfgReject hτ) (.meterStart hτ)

theorem Orderly.meterStopCheck (hτ : Orderly σ τ) : Orderly σ (τ.meterStopCheck) := by
  unfold State.meterStopCheck
  split
  · exact .ite hτ (.meterStop hτ)
  · exact hτ

theorem Orderly.meterDisable {i : Initiator} (hτ : Orderly σ τ) : Orderly σ (τ.meterDisable i) :=
  .ite (.cfgReject hτ) (.ite (.meterStopCheck (.modMeter (.put hτ))) hτ)

theorem Orderly.writeMeter {i : Initiator} {a : Nat} {v : Word} (hτ : Orderly σ τ) : Orderly σ (τ.writeMeter i a v) :=
  .ite (.ite (.meterEnable hτ) (.meterDisable hτ)) (.plainWrite hτ)

theorem Orderly.calStart {grid : Bool} (hτ : Orderly σ τ) : Orderly σ (τ.calStart grid) :=
  .forEach (.modSide (.put hτ)) (fun _ _ hτ => .chBroken hτ)

theorem Orderly.wcTestOut {c : Nat} (hτ : Orderly σ τ) : Orderly σ (τ.wcTestOut c) := by
  unfold State.wcTestOut
  split
  · exact .wcOutAt hτ
  · exact hτ

theorem Orderly.wcTestBegin {c : Nat} (hτ : Orderly σ τ) : Orderly σ (τ.wcTestBegin c) :=
  .wcHold (.wcTestOut (.modWc (.put (.put hτ))))

theorem Orderly.wcTestQueue {q : List Nat} (hτ : Orderly σ τ) : Orderly σ (τ.wcTestQueue q) := by
  unfold State.wcTestQueue
  split
  · exact (.beside (.wcTestBusy hτ))
  · exact .wcTestBegin (.beside (.wcTestBusy hτ))

theorem Orderly.wcTestStart (hτ : Orderly σ τ) : Orderly σ (τ.wcTestStart) :=
  .wcTestQueue hτ

theorem Orderly.modIv {x : Nat} {f : IvTrace → IvTrace} (hτ : Orderly σ τ) : Orderly σ (τ.modIv x f) :=
  .beside hτ

theorem Orderly.ivStart {x : Nat} (hτ : Orderly σ τ) : Orderly σ (τ.ivStart x) :=
  .noteHolds (.ivSlots (.wr (.put (.put (.put (.modIv hτ))))))

theorem Orderly.maintBegin {c : Nat} (hτ : Orderly σ τ) : Orderly σ (τ.maintBegin c) := by
  unfold State.maintBegin
  split
  · exact .calStart hτ
  · exact .calStart hτ
  · exact .after (.ite (.maintEnd (.refl _)) (.refl _)) (.wcTestStart (.beside hτ))
  · exact .ivStart hτ
  · exact .ivStart hτ
  · exact .ivStart hτ
  · exact .ivStart hτ
  · exact .beside hτ
  · exact .modRelay (.put (.relayDrive (.relayDrive hτ)))
  · exact hτ

theorem Orderly.maintStart {c : Nat} (hτ : Orderly σ τ) : Orderly σ (τ.maintStart c) :=
  .incSat (.put hτ)

theorem Orderly.maintRequest {r : Requester} {c : Nat} (hτ : Orderly σ τ) : Orderly σ (τ.maintRequest r c) := by
  unfold State.maintRequest
  split
  · exact .after (.ite (.put (.refl _)) (.refl _)) (.put (.put (.put (.put hτ))))
  · exact .maintBegin (.maintStart (.put (.put (.put (.put hτ)))))

theorem Orderly.maintOne {t : Nat} {q : Requester × Nat} (hτ : Orderly σ τ) : Orderly σ (τ.maintOne t q) :=
  .ite hτ (.after (.maintRequest (.ite (.beside (.refl _)) (.refl _))) (.beside hτ))

theorem Orderly.maintBefore {t c : Nat} (hτ : Orderly σ τ) : Orderly σ (τ.maintBefore t c) :=
  .foldl (fun _ _ hτ => .maintOne hτ) hτ

theorem Orderly.maintArrive {t : Nat} {r : Requester} {c : Nat} (hτ : Orderly σ τ) : Orderly σ (τ.maintArrive t r c) :=
  .maintOne (.maintBefore hτ)

theorem Orderly.maintAbortWrite {v : Word} (hτ : Orderly σ τ) : Orderly σ (τ.maintAbortWrite v) :=
  .forEach hτ (fun _ _ hτ => .ite hτ (.maintAbort hτ))

theorem Orderly.arcEnable {i : Initiator} {x : Nat} (hτ : Orderly σ τ) : Orderly σ (τ.arcEnable i x) :=
  .ite (.cfgReject hτ) (.modArc (.put (.put (.modCh (.ringStart (.put (.wr hτ)))))))

theorem Orderly.arcDisable {i : Initiator} {x : Nat} (hτ : Orderly σ τ) : Orderly σ (τ.arcDisable i x) :=
  .ite (.cfgReject hτ) (.arcStop hτ)

theorem Orderly.arcCtrlWrite {i : Initiator} {v : Word} (hτ : Orderly σ τ) : Orderly σ (τ.arcCtrlWrite i v) :=
  .forEach hτ (fun _ _ hτ => .ite (.arcEnable hτ) (.arcDisable hτ))

theorem Orderly.arcRegWrite {x o : Nat} {v : Word} (hτ : Orderly σ τ) : Orderly σ (τ.arcRegWrite x o v) :=
  .ite (.quietAll (.quietAll (.quietBits hτ))) (.ite (.quietBits (.quietBits hτ)) (.ite (.quietAll (.quietAll hτ)) (.ite (.quietAll hτ)
    (.ite (.quietBits (.quietBits hτ)) hτ))))

theorem Orderly.writeDiag {i : Initiator} {a : Nat} {v : Word} (hτ : Orderly σ τ) : Orderly σ (τ.writeDiag i a v) :=
  .ite (.maintArrive hτ) (.ite (.maintAbortWrite hτ) (.ite (.arcCtrlWrite hτ) (.ite (.arcRegWrite hτ) (.ite (.quietBits hτ) (.ite
    (.quietBits hτ) (.ite (.quietAll hτ) (.ite (.quietAll hτ) (.plainWrite hτ))))))))

theorem Orderly.perfClear {k : Nat} (hτ : Orderly σ τ) : Orderly σ (τ.perfClear k) :=
  .modHok hτ

theorem Orderly.archCtrlWrite {k : Nat} {v : Word} (hτ : Orderly σ τ) : Orderly σ (τ.archCtrlWrite k v) :=
  .after (.ite (.modHok (.refl _)) (.refl _)) (.put (.quietAll (.quietBits (.quietBits hτ))))

theorem Orderly.writePerf {a : Nat} {v : Word} (hτ : Orderly σ τ) : Orderly σ (τ.writePerf a v) := by
  refine .ite (.forEach (.plainWrite hτ) (fun _ _ hτ => .perfClear hτ)) ?_
  split
  · exact .archCtrlWrite hτ
  · exact .plainWrite hτ

theorem Orderly.h2dDone {i : Initiator} {v : Word} (hτ : Orderly σ τ) : Orderly σ (τ.h2dDone i v) :=
  .ite (.cfgReject hτ) (.ite (.wr (.put (.put hτ))) hτ)

theorem Orderly.d2hPost {i : Initiator} {v : Word} (hτ : Orderly σ τ) : Orderly σ (τ.d2hPost i v) :=
  .ite (.cfgReject hτ) (.after (.ite (.beside (.refl _)) (.put (.refl _))) (.put (.put hτ)))

theorem Orderly.hspiLock {i : Initiator} {v : Word} (hτ : Orderly σ τ) : Orderly σ (τ.hspiLock i v) :=
  .ite (.cfgReject hτ) (.ite (.put (.put hτ)) hτ)

theorem Orderly.writeCourh {i : Initiator} {a : Nat} {v : Word} (hτ : Orderly σ τ) : Orderly σ (τ.writeCourh i a v) :=
  .ite (.h2dDone hτ) (.ite (.d2hPost hτ) (.ite (.hspiLock hτ) (.ite (.ite (.wrW hτ) (.cfgReject hτ)) (.plainWrite hτ))))

theorem Orderly.plAdmit (hτ : Orderly σ τ) : Orderly σ (τ.plAdmit) :=
  .incSat hτ

theorem Orderly.plRefuse (hτ : Orderly σ τ) : Orderly σ (τ.plRefuse) :=
  .incSat (.set1 hτ)

theorem Orderly.startRequest (hτ : Orderly σ τ) : Orderly σ (τ.startRequest) :=
  .ite (.ite (.plAdmit (.modPlinth (.put hτ))) (.plRefuse hτ)) hτ

theorem resetRegs_wf : resetRegs.wf = true := by decide +kernel

theorem Orderly.volatileReset (h : Orderly σ τ) : Orderly σ τ.volatileReset :=
  .put (.put (.svShow (.foldl (fun _ _ h => .put h) (.foldl (fun _ _ h => .wr h)
    (h.update rfl (fun _ => SMap.wf_filter _ _ resetRegs_wf) (SMap.wf_filter _ _) (SMap.wf_filter _ _) fun _ => rfl)))))

theorem Orderly.pd1Off (hτ : Orderly σ τ) : Orderly σ (τ.pd1Off) :=
  .wr (.wr (.volatileReset (.ite (.ite (.padHold (.padHold hτ)) (.padHold hτ)) hτ)))

theorem Orderly.enterSleep (hτ : Orderly σ τ) : Orderly σ (τ.enterSleep) :=
  .modPlinth (.put (.pd1Off hτ))

theorem Orderly.sleepWrite {i : Initiator} {v : Word} (hτ : Orderly σ τ) : Orderly σ (τ.sleepWrite i v) :=
  .ite (.enterSleep hτ) (.cfgReject hτ)

theorem Orderly.writePlinth {i : Initiator} {a : Nat} {v : Word} (hτ : Orderly σ τ) : Orderly σ (τ.writePlinth i a v) :=
  .ite (.ite (.startRequest hτ) hτ) (.ite (.sleepWrite hτ) (.ite (.ite (.wr hτ) (.cfgReject hτ)) (.ite (.ite (.cfgReject hτ) (.put hτ))
    (.ite (.ite (.cfgReject hτ) (.put hτ)) (.plainWrite hτ)))))

theorem Orderly.writeSensg {a : Nat} {v : Word} (hτ : Orderly σ τ) : Orderly σ (τ.writeSensg a v) :=
  .ite (.chWrite hτ) (.plainWrite hτ)

theorem Orderly.writeWcmpg {a : Nat} {v : Word} (hτ : Orderly σ τ) : Orderly σ (τ.writeWcmpg a v) := by
  refine .ite (.wcClearWrite hτ) ?_
  split
  · exact .wcThrWrite hτ
  · exact .plainWrite hτ

theorem Orderly.laneEnable {i : Initiator} {l : Nat} (hτ : Orderly σ τ) : Orderly σ (τ.laneEnable i l) :=
  .ite (.after (.ite (.modLane (.put (.refl _))) (.ite (.modLane (.refl _)) (.refl _))) (.put hτ)) (.cfgReject hτ)

theorem Orderly.laneDisable {i : Initiator} {l : Nat} (hτ : Orderly σ τ) : Orderly σ (τ.laneDisable i l) :=
  .ite (.laneTrip (.put hτ)) (.cfgReject hτ)

theorem Orderly.laneCtrlWrite {i : Initiator} {l : Nat} {v : Word} (hτ : Orderly σ τ) : Orderly σ (τ.laneCtrlWrite i l v) :=
  .ite hτ (.ite (.laneEnable hτ) (.laneDisable hτ))

theorem Orderly.laneCompWrite {l : Nat} {v : Word} (hτ : Orderly σ τ) : Orderly σ (τ.laneCompWrite l v) :=
  .quietGate hτ (fun _ hτ => .ite (.cfgReject hτ) (.put hτ))

theorem Orderly.writeLane {i : Initiator} {a : Nat} {v : Word} (hτ : Orderly σ τ) : Orderly σ (τ.writeLane i a v) := by
  unfold State.writeLane
  split
  · exact .laneCtrlWrite hτ
  · exact .laneCompWrite hτ
  · exact .plainWrite hτ

theorem Orderly.relayCfgWrite {v : Word} (hτ : Orderly σ τ) : Orderly σ (τ.relayCfgWrite v) :=
  .forEach hτ (fun _ _ hτ => .quietGate hτ ((fun _ hτ => .ite (.put hτ) (.cfgReject hτ))))

theorem Orderly.writeRelay {a : Nat} {v : Word} (hτ : Orderly σ τ) : Orderly σ (τ.writeRelay a v) :=
  .ite (.relayCfgWrite hτ) (.plainWrite hτ)

theorem Orderly.plcAbort (hτ : Orderly σ τ) : Orderly σ (τ.plcAbort) := by
  unfold State.plcAbort
  exact .modCour (.ite (.set1 hτ) hτ)

theorem Orderly.plcCtrlWrite {i : Initiator} {v : Word} (hτ : Orderly σ τ) : Orderly σ (τ.plcCtrlWrite i v) :=
  .ite (.cfgReject hτ) (.after (.ite (.ite (.put (.refl _)) (.cfgReject (.refl _))) (.ite (.plcAbort (.put (.refl _))) (.refl _))) (.ite
    (.cfgReject hτ) (.put hτ)))

theorem Orderly.plcAddrWrite {v : Word} (hτ : Orderly σ τ) : Orderly σ (τ.plcAddrWrite v) := by
  unfold State.plcAddrWrite
  exact .quietBits (.quietAll hτ)

theorem Orderly.ttCfgWrite {i : Initiator} {v : Word} (hτ : Orderly σ τ) : Orderly σ (τ.ttCfgWrite i v) :=
  .ite (.cfgReject hτ) (.put (.put (.put (.ite (.cfgReject hτ) (.put hτ)))))

theorem Orderly.writePlc {i : Initiator} {a : Nat} {v : Word} (hτ : Orderly σ τ) : Orderly σ (τ.writePlc i a v) :=
  .ite (.plcCtrlWrite hτ) (.ite (.plcAddrWrite hτ) (.ite (.ttCfgWrite hτ) (.plainWrite hτ)))

theorem Orderly.modCur {f : CuratorState → CuratorState} (hτ : Orderly σ τ) : Orderly σ (τ.modCur f) :=
  .beside hτ

theorem Orderly.unitUnfence {u : Nat} (hτ : Orderly σ τ) : Orderly σ (τ.unitUnfence u) :=
  .after (.ite (.put (.refl _)) (.ite (.put (.refl _)) (.refl _))) (.wr (.modPwm (.enterHeld (.put hτ))))

theorem Orderly.unfence {k : Nat} (hτ : Orderly σ τ) : Orderly σ (τ.unfence k) :=
  .noteHolds (.curFencedNow (.forEach (.modCur hτ) (fun _ _ hτ => .ite hτ (.unitUnfence hτ))))

theorem Orderly.unfenceRefused (hτ : Orderly σ τ) : Orderly σ (τ.unfenceRefused) :=
  .raise (.set1 hτ)

theorem Orderly.curUnfenceWrite {i : Initiator} {v : Word} (hτ : Orderly σ τ) : Orderly σ (τ.curUnfenceWrite i v) := by
  unfold State.curUnfenceWrite
  split
  · exact .ite (.unfence hτ) (.unfenceRefused hτ)
  · exact .unfenceRefused hτ

theorem Orderly.injectRaise {n : Nat} (hτ : Orderly σ τ) : Orderly σ (τ.injectRaise n) :=
  .ite (.after (.ite (.drew (.refl _)) (.refl _)) (.raiseAt hτ)) (.cfgReject hτ)

theorem Orderly.injectCorrupt {copy n : Nat} (hτ : Orderly σ τ) : Orderly σ (τ.injectCorrupt copy n) :=
  .ite (.drew (.modCur hτ)) (.cfgReject hτ)

theorem Orderly.curInjectWrite {v : Word} (hτ : Orderly σ τ) : Orderly σ (τ.curInjectWrite v) :=
  .ite (.injectRaise hτ) (.ite (.injectCorrupt hτ) (.cfgReject hτ))

theorem Orderly.devClear {n : Nat} (hτ : Orderly σ τ) : Orderly σ (τ.devClear n) :=
  .modCur hτ

theorem Orderly.sevSet {n v : Nat} (hτ : Orderly σ τ) : Orderly σ (τ.sevSet n v) :=
  .liveGate hτ (fun _ hτ => .ite (.cfgReject hτ) (.devClear (.put hτ)))

theorem Orderly.curSevWrite {k : Nat} {v : Word} (hτ : Orderly σ τ) : Orderly σ (τ.curSevWrite k v) :=
  .forEach hτ (fun _ _ hτ => .sevSet hτ)

theorem Orderly.writeCur {i : Initiator} {a : Nat} {v : Word} (hτ : Orderly σ τ) : Orderly σ (τ.writeCur i a v) := by
  refine .ite (.curUnfenceWrite hτ) (.ite (.curInjectWrite hτ) ?_)
  split
  · exact .curSevWrite hτ
  · exact .plainWrite hτ

theorem Orderly.wdResetWrite {i : Initiator} {v : Word} (hτ : Orderly σ τ) : Orderly σ (τ.wdResetWrite i v) :=
  .ite (.noteHolds (.put hτ)) (.after (.ite (.refl _) (.cfgReject (.refl _))) (.set1 hτ))

theorem Orderly.wdPermitTime {t : Nat} (hτ : Orderly σ τ) : Orderly σ (τ.wdPermitTime t) :=
  .ite (.put hτ) (.cfgReject hτ)

theorem Orderly.modWarden {f : WardenState → WardenState} (hτ : Orderly σ τ) : Orderly σ (τ.modWarden f) :=
  .beside hτ

theorem Orderly.wdPermitReq {t : Nat} (hτ : Orderly σ τ) : Orderly σ (τ.wdPermitReq t) :=
  .ite (.modWarden (.put hτ)) (.set1 hτ)

theorem Orderly.wdPermitWrite {i : Initiator} {v : Word} (hτ : Orderly σ τ) : Orderly σ (τ.wdPermitWrite i v) :=
  .ite (.after (.ite (.set1 (.refl _)) (.refl _)) (.cfgReject hτ)) (.ite (.ite (.set1 hτ) hτ) (.after (.ite (.permitEnd (.refl _)) (.ite
    (.wdPermitReq (.refl _)) (.refl _))) (.wdPermitTime hτ)))

theorem Orderly.writeWarden {i : Initiator} {a : Nat} {v : Word} (hτ : Orderly σ τ) : Orderly σ (τ.writeWarden i a v) :=
  .ite (.wdResetWrite hτ) (.ite (.wdPermitWrite hτ) (.plainWrite hτ))

theorem Orderly.svPost {ch op : Nat} (hτ : Orderly σ τ) : Orderly σ (τ.svPost ch op) :=
  .ite (.cfgReject hτ) (.after (.ite (.put (.refl _)) (.refl _)) (.modSv hτ))

theorem Orderly.writeSv {a : Nat} {v : Word} (hτ : Orderly σ τ) : Orderly σ (τ.writeSv a v) :=
  .ite (.svPost hτ) (.ite (.svPost hτ) (.ite (.wrW hτ) (.plainWrite hτ)))

theorem Orderly.regWrite {i : Initiator} {a : Nat} {v : Word} (hτ : Orderly σ τ) : Orderly σ (τ.regWrite i a v) :=
  .ite (.writeSys hτ) (.ite (.writeClk hτ) (.ite (.writeEpoch hτ) (.ite (.writeSensp hτ) (.ite (.writeWcmpp hτ) (.ite (.writeLoop hτ)
    (.ite (.writePwm hτ) (.ite (.writeGrid hτ) (.ite (.writeMeter hτ) (.ite (.writeDiag hτ) (.ite (.writePerf hτ) (.ite (.writeCourh hτ)
    (.ite (.writePlinth hτ) (.ite (.writeSensg hτ) (.ite (.writeWcmpg hτ) (.ite (.writeLane hτ) (.ite (.writeRelay hτ) (.ite (.writePlc
    hτ) (.ite (.writeCur hτ) (.ite (.writeWarden hτ) (.ite (.writeSv hτ) (.plainWrite hτ)))))))))))))))))))))

theorem Orderly.tcmWrite {p off : Nat} {v : Word} (hτ : Orderly σ τ) : Orderly σ (τ.tcmWrite p off v) :=
  .ite (.cfgReject hτ) (.ite (.cfgReject hτ) (.liveGate hτ (fun _ hτ => .toShadow hτ)))

theorem Orderly.eccRaise {mram : Bool} {a : Nat} (hτ : Orderly σ τ) : Orderly σ (τ.eccRaise mram a) :=
  .wr (.stickyRaise hτ)

theorem Orderly.eccFound {a : Nat} (hτ : Orderly σ τ) : Orderly σ (τ.eccFound a) :=
  .eccRaise hτ

theorem Orderly.coreWrite {q a : Nat} {n v : Nat} (hτ : Orderly σ τ) : Orderly σ (τ.coreWrite q a n v).1 := by
  refine .iteOf Prod.fst (.ite (.cfgReject hτ) hτ) ?_
  split
  · exact .regWrite (.ite hτ (.drew hτ))
  · exact .regWrite (.ite hτ (.drew hτ))
  · exact .tcmWrite hτ
  · exact .iteOf Prod.fst (.eccFound hτ) (.wrBytes hτ)

theorem Orderly.wordPut {i : Initiator} {a : Nat} {v : Word} (hτ : Orderly σ τ) : Orderly σ (τ.wordPut i a v) := by
  unfold State.wordPut
  split
  · exact .regWrite hτ
  · exact .tcmWrite hτ
  · exact .wrW hτ

theorem Orderly.accessSet (hτ : Orderly σ τ) : Orderly σ (τ.accessSet) :=
  .set1 hτ

theorem Orderly.hostWrite {i : Initiator} {addr : Nat} {v : Word} (hτ : Orderly σ τ) : Orderly σ (τ.hostWrite i addr v).1 :=
  .iteOf Prod.fst (.wordPut hτ) (.accessSet (.ite (.cfgReject hτ) hτ))

theorem Orderly.busWrite {i : Initiator} {addr : Nat} {v : Word} (hτ : Orderly σ τ) : Orderly σ (τ.busWrite i addr v) := by
  unfold State.busWrite
  split
  · exact .ite (.coreWrite hτ) (.beside (.coreWrite hτ))
  · exact .ite (.coreWrite hτ) (.beside (.coreWrite hτ))
  · exact .hostWrite hτ
  · exact .hostWrite hτ
  · exact .ite (.wordPut hτ) hτ

theorem Orderly.execRegisterWrite {i : Initiator} {addr : BitVec 32} {v : Word} (hτ : Orderly σ τ) : Runs σ (execRegisterWrite i addr v τ)
    :=
  .next (.busWrite hτ)

theorem Orderly.execImgSelectWrite (_i : Initiator) {v : Word} (hτ : Orderly σ τ) : Runs σ (execImgSelectWrite _i v τ) :=
  .next (.imgSelect hτ)

theorem Orderly.execImgConfirmWrite (_i : Initiator) {v : Word} (hτ : Orderly σ τ) : Runs σ (execImgConfirmWrite _i v τ) :=
  .next (.imgConfirm hτ)

theorem Orderly.execRefPresenceChange {ref : RefSel} {present : Bool} {offset : Word} (hτ : Orderly σ τ) : Runs σ (execRefPresenceChange
    ref present offset τ) :=
  .next (.beside (.wr (.put hτ)))

theorem Orderly.execPllLockAcquire (hτ : Orderly σ τ) : Runs σ (execPllLockAcquire τ) :=
  .ite (.after (.ite (.next (.put (.put (.refl _)))) (.next (.refl _))) (.put hτ)) (.next hτ)

theorem Orderly.execPllLockLoss (hτ : Orderly σ τ) : Runs σ (execPllLockLoss τ) :=
  .ite (.next (.set1 (.coastStart (.armCancel (.put hτ))))) (.next hτ)

theorem Orderly.divRestart (hτ : Orderly σ τ) : Orderly σ (τ.divRestart) :=
  .beside hτ

theorem Orderly.execPllUnmute (hτ : Orderly σ τ) : Runs σ (execPllUnmute τ) :=
  .ite (.next (.beside (.divRestart (.put hτ)))) (.next hτ)

theorem Orderly.execPllStartTimeout (hτ : Orderly σ τ) : Runs σ (execPllStartTimeout τ) :=
  .ite (.next (.beside hτ)) (.next hτ)

theorem Orderly.execPllStartRetry (hτ : Orderly σ τ) : Runs σ (execPllStartRetry τ) :=
  .ite (.next (.beside hτ)) (.next hτ)

theorem Orderly.execDivsyncArm (_i : Initiator) (hτ : Orderly σ τ) : Runs σ (execDivsyncArm _i τ) :=
  .next (.divsyncArm hτ)

theorem Orderly.incWrap {f : Fld} (hτ : Orderly σ τ) : Orderly σ (τ.incWrap f) :=
  .put hτ

theorem Orderly.divArmMark {ok wrong : Bool} (hτ : Orderly σ τ) : Orderly σ (τ.divArmMark ok wrong) :=
  .ite hτ (.ite (.beside (.divRestart (.put (.put hτ)))) (.beside hτ))

theorem Orderly.divCheck {off : Nat} (hτ : Orderly σ τ) : Orderly σ (τ.divCheck off) :=
  .ite (.raise (.put (.set1 hτ))) hτ

theorem Orderly.divMark {ok wrong : Bool} {off : Nat} (hτ : Orderly σ τ) : Orderly σ (τ.divMark ok wrong off) :=
  .divArmMark (.ite (.divCheck hτ) hτ)

theorem Orderly.ticksMove {d : Int} (hτ : Orderly σ τ) : Orderly σ (τ.ticksMove d) :=
  .beside hτ

theorem Orderly.epochSet {v : Nat} (hτ : Orderly σ τ) : Orderly σ (τ.epochSet v) :=
  .beside (.ticksMove hτ)

theorem Orderly.markAlign (hτ : Orderly σ τ) : Orderly σ (τ.markAlign) :=
  .epochSet (.put (.put (.put hτ)))

theorem Orderly.markCheck (hτ : Orderly σ τ) : Orderly σ (τ.markCheck) :=
  .ite hτ (.raise (.clr (.set1 hτ)))

theorem Orderly.epochMark {ok : Bool} (hτ : Orderly σ τ) : Orderly σ (τ.epochMark ok) :=
  .ite hτ (.ite (.markAlign hτ) (.ite (.markCheck hτ) hτ))

theorem Orderly.execSyncMark {spacing off : Nat} (hτ : Orderly σ τ) : Runs σ (execSyncMark spacing off τ) :=
  .after (.after (.next (.divMark (.epochMark (.ite (.put (.refl _)) (.refl _))))) (.ite (.put (.set1 (.refl _))) (.refl _))) (.beside
    (.incWrap hτ))

theorem Orderly.execMarkMissing (hτ : Orderly σ τ) : Runs σ (execMarkMissing τ) :=
  .next (.incSat hτ)

theorem Orderly.execClkNWrite (_i : Initiator) {v : Word} (hτ : Orderly σ τ) : Runs σ (execClkNWrite _i v τ) :=
  .next (.liveGate hτ (fun _ hτ => .clkNWrite hτ))

theorem Orderly.execClkNTransfer (hτ : Orderly σ τ) : Runs σ (execClkNTransfer τ) :=
  .ite (.next (.beside (.put (.transfer hτ)))) (.next hτ)

theorem Orderly.execRefLoss (hτ : Orderly σ τ) : Runs σ (execRefLoss τ) :=
  .ite (.next (.beside (.set1 (.coastStart (.armCancel (.put hτ)))))) (.next hτ)

theorem Orderly.execCoastLimit (hτ : Orderly σ τ) : Runs σ (execCoastLimit τ) :=
  .ite (.next (.beside (.stickyRaise hτ))) (.next hτ)

theorem Orderly.execRefRestore (hτ : Orderly σ τ) : Runs σ (execRefRestore τ) :=
  .ite (.next (.beside (.put hτ))) (.next hτ)

theorem Orderly.execRefSelWrite (_i : Initiator) {sel : RefSel} (hτ : Orderly σ τ) : Runs σ (execRefSelWrite _i sel τ) :=
  .next (.quietGate hτ (fun _ hτ => .refSelWrite hτ))

theorem Orderly.execEpochLoad (_i : Initiator) (hτ : Orderly σ τ) : Runs σ (execEpochLoad _i τ) :=
  .next (.epochLoad hτ)

theorem Orderly.execEpochLoadApply (hτ : Orderly σ τ) : Runs σ (execEpochLoadApply τ) :=
  .ite (.next (.beside (.epochSet (.put hτ)))) (.next hτ)

theorem Orderly.execEpochMarkArm (_i : Initiator) (hτ : Orderly σ τ) : Runs σ (execEpochMarkArm _i τ) :=
  .next (.epochMarkArm hτ)

theorem Orderly.execEpochRtcCap (_i : Initiator) (hτ : Orderly σ τ) : Runs σ (execEpochRtcCap _i τ) :=
  .next (.put hτ)

theorem Orderly.cycAdvance (hτ : Orderly σ τ) : Orderly σ (τ.cycAdvance) :=
  .ite hτ (.beside (.drew hτ))

theorem Orderly.execEpochRtcCaptureEdge (hτ : Orderly σ τ) : Runs σ (execEpochRtcCaptureEdge τ) :=
  .ite (.next (.wr (.wr (.wr (.put (.cycAdvance hτ)))))) (.next hτ)

theorem Orderly.execEpochRateWrite (_i : Initiator) {v : Word} (hτ : Orderly σ τ) : Runs σ (execEpochRateWrite _i v τ) :=
  .next (.liveGate hτ (fun _ hτ => .epochRateWrite hτ))

theorem Orderly.execEpochSlewWrite (_i : Initiator) {v : Word} (hτ : Orderly σ τ) : Runs σ (execEpochSlewWrite _i v τ) :=
  .next (.liveGate hτ (fun _ hτ => .epochSlewWrite hτ))

theorem Orderly.putS {f : Fld} {v : Int} (hτ : Orderly σ τ) : Orderly σ (τ.putS f v) :=
  .put hτ

theorem Orderly.slotStep (hτ : Orderly σ τ) : Orderly σ (τ.slotStep) :=
  .ite (.beside hτ) (.beside (.putS hτ))

theorem Orderly.execEpochSlewSlot (hτ : Orderly σ τ) : Runs σ (execEpochSlewSlot τ) :=
  .ite (.next (.beside (.put (.slotStep (.transfer (.transfer hτ)))))) (.next hτ)

theorem Orderly.answer {v : Word} (hτ : Orderly σ τ) : Orderly σ (τ.answer v) :=
  .beside hτ

theorem Orderly.execEpochNowRead (_i : Initiator) (hτ : Orderly σ τ) : Runs σ (execEpochNowRead _i τ) :=
  .next (.answer (.wr hτ))

theorem Orderly.execEpochBarRead (_i : Initiator) (hτ : Orderly σ τ) : Runs σ (execEpochBarRead _i τ) :=
  .next (.answer (.put hτ))

theorem Orderly.lateNext (hτ : Orderly σ τ) : Orderly σ (τ.lateNext) :=
  .ite (.beside (.calStart (.maintStart hτ))) (.ite (.beside (.wcTestQueue (.beside (.maintStart hτ)))) (.ite (.beside (.set1 hτ)) hτ))

theorem Orderly.execBarrierCalibration {delay : Nat} (hτ : Orderly σ τ) : Runs σ (execBarrierCalibration delay τ) :=
  .ite (.next (.lateNext (.connRefresh (.beside (.put (.put hτ)))))) (.next hτ)

theorem Orderly.execBarrierRemeasure {err : Int} (hτ : Orderly σ τ) : Runs σ (execBarrierRemeasure err τ) :=
  .ite (.after (.ite (.next (.stickyRaise (.refl _))) (.next (.refl _))) (.beside (.put hτ))) (.next hτ)

theorem Orderly.execIslandSkewCheck {diff : Nat} (hτ : Orderly σ τ) : Runs σ (execIslandSkewCheck diff τ) :=
  .ite (.after (.ite (.next (.stickyRaise (.refl _))) (.next (.refl _))) (.beside hτ)) (.next hτ)

theorem Orderly.execSchedArm {i : Initiator} {e : Fin 32} (hτ : Orderly σ τ) : Runs σ (execSchedArm i e τ) :=
  .next (.schedCtrl hτ)

theorem Orderly.execSchedDisarm {i : Initiator} {e : Fin 32} (hτ : Orderly σ τ) : Runs σ (execSchedDisarm i e τ) :=
  .next (.schedCtrl hτ)

theorem Orderly.schedAfter {e : Nat} (hτ : Orderly σ τ) : Orderly σ (τ.schedAfter e) :=
  .ite (.beside (.put hτ)) (.ite (.put hτ) (.ite (.wr (.wr hτ)) (.after (.ite (.put (.refl _)) (.wr (.wr (.refl _)))) (.put hτ))))

theorem Orderly.schedLaunch {e a : Nat} {k : State → State} (hτ : Orderly σ τ) (hk : ∀ τ, Orderly σ τ → Orderly σ (k τ)) : Orderly σ
    (τ.schedLaunch e a k) :=
  .ite (.schedAfter (hk _ hτ)) hτ

theorem Orderly.execSchedNone {e : Fin 32} (hτ : Orderly σ τ) : Runs σ (execSchedNone e τ) :=
  .next (.schedLaunch hτ (fun _ hτ => hτ))

theorem Orderly.execSchedWindow {e : Fin 32} (hτ : Orderly σ τ) : Runs σ (execSchedWindow e τ) :=
  .next (.schedLaunch hτ (fun _ hτ => .trigger hτ))

theorem Orderly.execSchedPwmStart {e : Fin 32} (hτ : Orderly σ τ) : Runs σ (execSchedPwmStart e τ) :=
  .next (.schedLaunch hτ (fun _ hτ => .forEach hτ (fun _ _ hτ => .startUnit hτ)))

theorem Orderly.execSchedPwmStop {e : Fin 32} (hτ : Orderly σ τ) : Runs σ (execSchedPwmStop e τ) :=
  .next (.schedLaunch hτ (fun _ hτ => .forEach hτ (fun _ _ hτ => .stopAt hτ)))

theorem Orderly.execSchedPwmCommit {e : Fin 32} (hτ : Orderly σ τ) : Runs σ (execSchedPwmCommit e τ) :=
  .next (.schedLaunch hτ (fun _ hτ => .forEach hτ (fun _ _ hτ => .commitUnit hτ)))

theorem Orderly.meterLatchAt {t : Nat} (hτ : Orderly σ τ) : Orderly σ (τ.meterLatchAt t) :=
  .ite (.modMeter hτ) hτ

theorem Orderly.execSchedMeterLatch {e : Fin 32} (hτ : Orderly σ τ) : Runs σ (execSchedMeterLatch e τ) :=
  .next (.schedLaunch hτ (fun _ hτ => .meterLatchAt hτ))

theorem Orderly.relayCmd {param target : Nat} (hτ : Orderly σ τ) : Orderly σ (τ.relayCmd param target) :=
  .ite (.openRequest hτ) (.ite (.closeRequest hτ) hτ)

theorem Orderly.execSchedRelayCmd {e : Fin 32} (hτ : Orderly σ τ) : Runs σ (execSchedRelayCmd e τ) :=
  .next (.schedLaunch hτ (fun _ hτ => .relayCmd hτ))

theorem Orderly.execSchedMaintStart {e : Fin 32} (hτ : Orderly σ τ) : Runs σ (execSchedMaintStart e τ) :=
  .next (.schedLaunch hτ (fun _ hτ => .maintArrive hτ))

theorem Orderly.execSchedGpioSet {e : Fin 32} (hτ : Orderly σ τ) : Runs σ (execSchedGpioSet e τ) :=
  .next (.schedLaunch hτ (fun _ hτ => .forEach hτ (fun _ _ hτ => .put hτ)))

theorem Orderly.execSchedIrq {e : Fin 32} (hτ : Orderly σ τ) : Runs σ (execSchedIrq e τ) :=
  .next (.schedLaunch hτ (fun _ hτ => .forEach hτ (fun _ _ hτ => .set1 hτ)))

theorem Orderly.execSchedStreamMark {e : Fin 32} (hτ : Orderly σ τ) : Runs σ (execSchedStreamMark e τ) :=
  .next (.schedLaunch hτ (fun _ hτ => .forEach hτ (fun _ _ hτ => .beside hτ)))

theorem Orderly.execWindowOpen {g : Fin 4} (hτ : Orderly σ τ) : Runs σ (execWindowOpen g τ) := by
  unfold Machine.execWindowOpen
  dsimp only
  split
  · exact .next hτ
  · exact .ite (.next hτ) (.ite (.next (.set1 (.incSat (.modWg hτ)))) (.next (.modWg hτ)))

theorem Orderly.ivWindow {g c : Nat} {recs : List WinRes} (hτ : Orderly σ τ) : Orderly σ (τ.ivWindow g c recs) := by
  refine .forEach hτ (fun _ _ hτ => ?_)
  dsimp only
  split
  · exact .ite (.modIv hτ) hτ
  · exact hτ

theorem Orderly.windowClose {g : Nat} {w : Win} {bits : List Nat} (hτ : Orderly σ τ) : Orderly σ (τ.windowClose g w bits) :=
  .ivWindow (.foldl (fun _ _ hτ => .modCh hτ) (.modWg hτ))

theorem Orderly.execWindowClose {g : Fin 4} {bits : List Nat} (hτ : Orderly σ τ) : Runs σ (execWindowClose g bits τ) := by
  unfold Machine.execWindowClose
  split
  · exact .next hτ
  · exact .ite (.next (.windowClose hτ)) (.next hτ)

theorem Orderly.deliver {bases : List Nat} {off : Nat} {ws : List Nat} (hτ : Orderly σ τ) : Orderly σ (τ.deliver bases off ws) :=
  .forEach hτ (fun _ _ hτ => .wrBytes hτ)

theorem Orderly.groupRecord {p : Nat} {r : GRec} (hτ : Orderly σ τ) : Orderly σ (τ.groupRecord p r) :=
  .ite hτ (.modLoop (.put (.ite (.set1 hτ) hτ)))

theorem Orderly.windowDeliver {g : Nat} {w : Closed} (hτ : Orderly σ τ) : Orderly σ (τ.windowDeliver g w) :=
  .forEach (.put (.put (.deliver (.foldl (fun _ _ hτ => .wr (.wr (.deliver hτ))) (.modWg hτ))))) (fun _ _ hτ => .ite (.groupRecord hτ)
    hτ)

theorem Orderly.execWindowDeliver {g : Fin 4} (hτ : Orderly σ τ) : Runs σ (execWindowDeliver g τ) := by
  unfold Machine.execWindowDeliver
  split
  · exact .next hτ
  · exact .next (.windowDeliver hτ)

theorem Orderly.execWgEnable (_i : Initiator) {g : Fin 4} (hτ : Orderly σ τ) : Runs σ (execWgEnable _i g τ) :=
  .next (.wgEnable hτ)

theorem Orderly.execWgDisable (_i : Initiator) {g : Fin 4} (hτ : Orderly σ τ) : Runs σ (execWgDisable _i g τ) :=
  .next (.wgDisable hτ)

theorem Orderly.lineSample {k : Nat} {y : Nat × Nat × Nat} {bits : Nat} (hτ : Orderly σ τ) : Orderly σ (τ.lineSample k y bits) :=
  .modCh hτ

theorem Orderly.fixedSample {k p bits : Nat} (hτ : Orderly σ τ) : Orderly σ (τ.fixedSample k p bits) :=
  .modCh hτ

theorem Orderly.execStreamSample {k : Fin 26} {bits : Nat} (hτ : Orderly σ τ) : Runs σ (execStreamSample k bits τ) := by
  refine .ite (.next hτ) (.ite ?_ (.ite (.next hτ) (.next (.fixedSample hτ))))
  split
  · exact .next hτ
  · exact .ite (.next (.lineSample hτ)) (.next hτ)

theorem Orderly.ringWrite {k : Nat} {e : Word} (hτ : Orderly σ τ) : Orderly σ (τ.ringWrite k e) :=
  .after (.ite (.set1 (.set1 (.refl _))) (.refl _)) (.wr (.wrW (.modCh hτ)))

theorem Orderly.execStreamRingWrite {k : Fin 26} (hτ : Orderly σ τ) : Runs σ (execStreamRingWrite k τ) := by
  unfold Machine.execStreamRingWrite
  split
  · exact .next hτ
  · exact .next (.ringWrite hτ)

theorem Orderly.execRingEnable (_i : Initiator) {k : Fin 26} (hτ : Orderly σ τ) : Runs σ (execRingEnable _i k τ) :=
  .next (.ringEnable hτ)

theorem Orderly.execRingDisable (_i : Initiator) {k : Fin 26} (hτ : Orderly σ τ) : Runs σ (execRingDisable _i k τ) :=
  .next (.ringDisable hτ)

theorem Orderly.execLcAnnounceReceive {grid : Bool} (hτ : Orderly σ τ) : Runs σ (execLcAnnounceReceive grid τ) := by
  unfold Machine.execLcAnnounceReceive
  split
  · exact .next hτ
  · split
    · exact .next (.modSide hτ)
    · exact .ite (.next (.modSide hτ)) (.ite (.next (.set1 (.modSide hτ))) (.next (.modSide (.wr (.modSide hτ)))))

theorem Orderly.meterCycle {a b : Nat} (hτ : Orderly σ τ) : Orderly σ (τ.meterCycle a b) :=
  .ite (.modMeter hτ) hτ

theorem Orderly.lcEnd {grid : Bool} {a b : Nat} {bits : List Nat} (hτ : Orderly σ τ) : Orderly σ (τ.lcEnd grid a b bits) :=
  .after (.ite (.meterCycle (.refl _)) (.refl _)) (.modSide (.forEach hτ (fun _ _ hτ => .modCh hτ)))

theorem Orderly.execLcCycleEnd {grid : Bool} {bits : List Nat} (hτ : Orderly σ τ) : Runs σ (execLcCycleEnd grid bits τ) := by
  unfold Machine.execLcCycleEnd
  split
  · exact .next hτ
  · exact .ite (.next (.lcEnd hτ)) (.next hτ)

theorem Orderly.dcUpdate {p : Nat} {count : Int} {len flags : Nat} (hτ : Orderly σ τ) : Orderly σ (τ.dcUpdate p count len flags) :=
  .after (.after (.ite (.refl _) (.ite (.after (.ite (.stickyRaise (.refl _)) (.refl _)) (.incSat (.refl _))) (.put (.refl _)))) (.ite
    (.put (.refl _)) (.refl _))) (.wr hτ)

theorem Orderly.lcDeliverCh {k : Nat} {r : LcRec} (hτ : Orderly σ τ) : Orderly σ (τ.lcDeliverCh k r) :=
  .after (.ite (.dcUpdate (.refl _)) (.refl _)) (.modCh (.wr (.wr (.wr (.deliver hτ)))))

theorem Orderly.execLcRecordDeliver {grid : Bool} (hτ : Orderly σ τ) : Runs σ (execLcRecordDeliver grid τ) := by
  refine .next (.forEach (.ite (.put hτ) hτ) (fun _ _ hτ => ?_))
  split
  · exact .lcDeliverCh hτ
  · exact hτ

theorem Orderly.overload {k : Nat} {positive : Bool} (hτ : Orderly σ τ) : Orderly σ (τ.overload k positive) :=
  .raise (.forEach (.set1 (.set1 (.modCh hτ))) (fun _ _ hτ => .set1 hτ))

theorem Orderly.execModOverloadTrip {k : Fin 26} {positive : Bool} (hτ : Orderly σ τ) : Runs σ (execModOverloadTrip k positive τ) := by
  refine .ite (.next hτ) ?_
  dsimp only
  split
  · exact .next (.overload hτ)
  · exact .ite (.next (.modCh hτ)) (.next (.overload (.modCh hτ)))

theorem Orderly.execModOverloadRelease {k : Fin 26} (hτ : Orderly σ τ) : Runs σ (execModOverloadRelease k τ) := by
  unfold Machine.execModOverloadRelease
  dsimp only
  split
  · exact .ite (.next (.modCh hτ)) (.next hτ)
  · exact .next hτ

theorem Orderly.tempResult {die : Nat} {value : BitVec 16} (hτ : Orderly σ τ) : Orderly σ (τ.tempResult die value) :=
  .after (.ite (.raiseAt (.refl _)) (.refl _)) (.beside hτ)

theorem Orderly.execMonitorDwellEnd {value : BitVec 16} (hτ : Orderly σ τ) : Runs σ (execMonitorDwellEnd value τ) :=
  .ite (.after (.next (.beside (.ite (.tempResult (.refl _)) (.refl _)))) (.incWrap (.put hτ))) (.next hτ)

theorem Orderly.execGrdTempSample {value : BitVec 16} (hτ : Orderly σ τ) : Runs σ (execGrdTempSample value τ) :=
  .ite (.next (.tempResult (.beside (.incWrap (.put hτ))))) (.next hτ)

theorem Orderly.execSensCalStage {grid : Bool} (hτ : Orderly σ τ) : Runs σ (execSensCalStage grid τ) :=
  .ite (.next (.modSide hτ)) (.next hτ)

theorem Orderly.calStore {k : Nat} {z p m : Int} (hτ : Orderly σ τ) : Orderly σ (τ.calStore k z p m) :=
  .ite (.put (.putS hτ)) (.calClear hτ)

theorem Orderly.calFactorsStore {grid : Bool} {sums : List (Int × Int × Int)} (hτ : Orderly σ τ) : Orderly σ (τ.calFactorsStore grid sums)
    :=
  .modSide (.forEach hτ (fun _ _ hτ => .calStore hτ))

theorem Orderly.calComplete {grid : Bool} (hτ : Orderly σ τ) : Orderly σ (τ.calComplete grid) :=
  .after (.maintEnd (.ite (.refl _) (.raise (.set1 (.refl _))))) (.put (.forEach hτ (fun _ _ hτ => .put hτ)))

theorem Orderly.execSensCalComplete {grid : Bool} {sums : List (Int × Int × Int)} (hτ : Orderly σ τ) : Runs σ (execSensCalComplete grid
    sums τ) :=
  .ite (.after (.next (.ite (.lateNext (.calComplete (.refl _))) (.refl _))) (.ite (.calFactorsStore hτ) hτ)) (.next hτ)

theorem Orderly.execChRangeWrite (_i : Initiator) {k : Fin 26} {v : Word} (hτ : Orderly σ τ) : Runs σ (execChRangeWrite _i k v τ) :=
  .next (.rangeWrite hτ)

theorem Orderly.wcTrip {c : Nat} {high : Bool} (hτ : Orderly σ τ) : Orderly σ (τ.wcTrip c high) :=
  .raise (.wcHold (.modWc (.incSat (.wr (.put (.put hτ))))))

theorem Orderly.wcCross {c : Nat} {high : Bool} (hτ : Orderly σ τ) : Orderly σ (τ.wcCross c high) :=
  .ite (.wcTrip hτ) hτ

theorem Orderly.wcLevel {c : Nat} {x : Rat} (hτ : Orderly σ τ) : Orderly σ (τ.wcLevel c x) :=
  .after (.ite (.wcCross (.refl _)) (.ite (.wcCross (.refl _)) (.refl _))) (.wcSee hτ)

theorem Orderly.execWcCrossing {c : Fin 24} {input : Rat} (hτ : Orderly σ τ) : Runs σ (execWcCrossing c input τ) :=
  .ite (.next (.wcLevel hτ)) (.next hτ)

theorem Orderly.execWcThrWrite (_i : Initiator) {c : Fin 24} {v : Word} (hτ : Orderly σ τ) : Runs σ (execWcThrWrite _i c v τ) :=
  .next (.wcThrWrite hτ)

theorem Orderly.wcThrApply {c : Nat} {x : Rat} (hτ : Orderly σ τ) : Orderly σ (τ.wcThrApply c x) :=
  .after (.ite (.wcCross (.refl _)) (.ite (.wcCross (.refl _)) (.refl _))) (.wcSee (.transfer (.transfer hτ)))

theorem Orderly.execWcThrApply {c : Fin 24} {input : Rat} (hτ : Orderly σ τ) : Runs σ (execWcThrApply c input τ) :=
  .ite (.next (.wcThrApply hτ)) (.next hτ)

theorem Orderly.execWcSoftwareClear (_i : Initiator) {grid : Bool} {v : Word} (hτ : Orderly σ τ) : Runs σ (execWcSoftwareClear _i grid v
    τ) :=
  .next (.wcClearWrite hτ)

theorem Orderly.wcDecide {c : Nat} {x : Rat} (hτ : Orderly σ τ) : Orderly σ (τ.wcDecide c x) :=
  .after (.ite (.noteHolds (.put (.refl _))) (.refl _)) (.modWc (.ite (.clrRefused hτ) hτ))

theorem Orderly.execWcClearDecision {c : Fin 24} {input : Rat} (hτ : Orderly σ τ) : Runs σ (execWcClearDecision c input τ) :=
  .ite (.next (.wcDecide (.wcSee hτ))) (.next hτ)

theorem Orderly.wcPendReady {c : Nat} {x : Rat} (hτ : Orderly σ τ) : Orderly σ (τ.wcPendReady c x) := by
  unfold State.wcPendReady
  dsimp only
  split
  · exact .ite (.noteHolds (.put (.wcSee hτ))) (.wcSee hτ)
  · exact (.wcSee hτ)

theorem Orderly.execWcPendingReady {c : Fin 24} {input : Rat} (hτ : Orderly σ τ) : Runs σ (execWcPendingReady c input τ) :=
  .ite (.next (.wcPendReady hτ)) (.next hτ)

theorem Orderly.wcTestFail {c : Nat} {f : Fld} (hτ : Orderly σ τ) : Orderly σ (τ.wcTestFail c f) :=
  .raiseAt (.set1 (.put (.set1 hτ)))

theorem Orderly.wcSwapCheck {c : Nat} {hi lo : Bool} (hτ : Orderly σ τ) : Orderly σ (τ.wcSwapCheck c hi lo) := by
  unfold State.wcSwapCheck
  dsimp only
  split
  · exact .set1 (.put (.put hτ))
  · exact .ite (.set1 (.put (.put hτ))) (.ite (.put (.put hτ)) (.wcTestFail (.put (.put hτ))))

theorem Orderly.wcTestNext (hτ : Orderly σ τ) : Orderly σ (τ.wcTestNext) :=
  .after (.ite (.maintEnd (.refl _)) (.refl _)) (.wcTestQueue hτ)

theorem Orderly.wcTestStep {c k : Nat} {hi lo : Bool} (hτ : Orderly σ τ) : Orderly σ (τ.wcTestStep c k hi lo) :=
  .after (.after (.ite (.ite (.put (.refl _)) (.wcTestFail (.refl _))) (.ite (.ite (.put (.refl _)) (.wcTestFail (.refl _))) (.ite
    (.wcSwapCheck (.refl _)) (.ite (.lateNext (.wcTestNext (.wcPend (.refl _)))) (.refl _))))) (.ite (.wcOut (.refl _)) (.ite (.wcTestOut
    (.refl _)) (.refl _)))) (.modWc hτ)

theorem Orderly.execWcmpTestStep {hi lo : Bool} (hτ : Orderly σ τ) : Runs σ (execWcmpTestStep hi lo τ) := by
  unfold Machine.execWcmpTestStep
  split
  · exact .next hτ
  · exact .ite (.next (.wcTestStep hτ)) (.next hτ)

theorem Orderly.execHeader {p seq target : Nat} {prevAb first : Bool} (hτ : Orderly σ τ) : Orderly σ (τ.execHeader p seq target prevAb
    first) :=
  .forEach (.wrBytes hτ) (fun _ _ hτ => .wrBytes hτ)

theorem Orderly.snapshot {p : Nat} (hτ : Orderly σ τ) : Orderly σ (τ.snapshot p) :=
  .forEach hτ (fun _ _ hτ => .wrBytes (.wrBytes hτ))

theorem Orderly.slotTransfer {p : Nat} (hτ : Orderly σ τ) : Orderly σ (τ.slotTransfer p) :=
  .foldl (fun _ _ hτ => .dropShadow (.wrW hτ)) hτ

theorem Orderly.execStart {p : Nat} {r : GRec} (hτ : Orderly σ τ) : Orderly σ (τ.execStart p r) :=
  .after (.ite (.stickyRaise (.refl _)) (.refl _)) (.modLoop (.wr (.wr (.put (.put (.execHeader (.snapshot (.slotTransfer hτ))))))))

theorem Orderly.execLoopExecStart {p : Fin 6} (hτ : Orderly σ τ) : Runs σ (execLoopExecStart p τ) := by
  unfold Machine.execLoopExecStart
  split
  · exact .next hτ
  · exact .ite (.next (.execStart hτ)) (.next hτ)

theorem Orderly.loopCommitUnit {u target : Nat} {vals : List HeldW} (hτ : Orderly σ τ) : Orderly σ (τ.loopCommitUnit u target vals) :=
  .ite hτ (.ite (.set1 (.loopToShadow hτ)) (.modPwm (.put hτ)))

theorem Orderly.commitUnits {p target : Nat} {vs : List PwmVal} (hτ : Orderly σ τ) : Orderly σ (τ.commitUnits p target vs) :=
  .forEach hτ (fun _ _ hτ => .loopCommitUnit hτ)

theorem Orderly.commitTcm {p : Nat} {r : ExecRes} (hτ : Orderly σ τ) : Orderly σ (τ.commitTcm p r) :=
  .wrBytes (.forEach (.wrBytes hτ) (fun _ _ hτ => .wrBytes hτ))

theorem Orderly.gridFirst {l : Lent} (hτ : Orderly σ τ) : Orderly σ (τ.gridFirst l) :=
  .ite hτ (.forEach (.modGrid hτ) (fun _ _ hτ => .beside hτ))

theorem Orderly.gridCommit {p : Nat} (hτ : Orderly σ τ) : Orderly σ (τ.gridCommit p) :=
  .ite hτ (.after (.ite (.gridFirst (.modGrid (.refl _))) (.refl _)) (.modGrid hτ))

theorem Orderly.loopCommit {p cycles : Nat} (hτ : Orderly σ τ) : Orderly σ (τ.loopCommit p cycles) :=
  .after (.ite (.raise (.refl _)) (.refl _)) (.gridCommit (.execDone (.put (.put (.put (.put (.wr (.put (.modLoop (.commitUnits
    (.commitTcm hτ)))))))))))

theorem Orderly.execLoopCommit {p : Fin 6} {cycles : Nat} (hτ : Orderly σ τ) : Runs σ (execLoopCommit p cycles τ) :=
  .ite (.next (.loopCommit hτ)) (.next hτ)

theorem Orderly.loopAbandon {p : Nat} (hτ : Orderly σ τ) : Orderly σ (τ.loopAbandon p) :=
  .after (.ite (.raise (.refl _)) (.refl _)) (.modLoop (.execDone (.incSat (.incSat (.set1 hτ)))))

theorem Orderly.execLoopAbandon {p : Fin 6} (hτ : Orderly σ τ) : Runs σ (execLoopAbandon p τ) :=
  .ite (.next (.loopAbandon hτ)) (.next hτ)

theorem Orderly.pairHalt {p : Nat} (hτ : Orderly σ τ) : Orderly σ (τ.pairHalt p) :=
  .ite hτ (.modLoop (.put (.put hτ)))

theorem Orderly.execLoopLockstepMismatch {p : Fin 6} (hτ : Orderly σ τ) : Runs σ (execLoopLockstepMismatch p τ) :=
  .ite (.next (.stickyRaise (.pairHalt hτ))) (.next hτ)

theorem Orderly.execLoopTcmEccError {p : Fin 6} {double : Bool} (hτ : Orderly σ τ) : Runs σ (execLoopTcmEccError p double τ) :=
  .ite (.next hτ) (.ite (.next (.stickyRaise (.pairHalt hτ))) (.next (.incSat hτ)))

theorem Orderly.execLoopEnable {i : Initiator} {p : Fin 6} (hτ : Orderly σ τ) : Runs σ (execLoopEnable i p τ) :=
  .next (.loopEnable hτ)

theorem Orderly.execLoopDisable {i : Initiator} {p : Fin 6} (hτ : Orderly σ τ) : Runs σ (execLoopDisable i p τ) :=
  .next (.loopDisable hτ)

theorem Orderly.execLoopClrMax (_i : Initiator) {p : Fin 6} (hτ : Orderly σ τ) : Runs σ (execLoopClrMax _i p τ) :=
  .next (.loopClrMax hτ)

theorem Orderly.execTcmWrite (_i : Initiator) {p : Fin 6} {word : Fin 16384} {v : Word} (hτ : Orderly σ τ) : Runs σ (execTcmWrite _i p
    word v τ) :=
  .ite (.next (.tcmWrite hτ)) (.next hτ)

theorem Orderly.loopValues {vals : List HeldW} (hτ : Orderly σ τ) : Orderly σ (τ.loopValues vals) :=
  .foldl (fun _ _ hτ => .put hτ) hτ

theorem Orderly.boundaryTransfer {u b : Nat} (hτ : Orderly σ τ) : Orderly σ (τ.boundaryTransfer u b) :=
  .after (.after (.put (.ite (.transferFix (.refl _)) (.refl _))) (.foldl (fun _ _ hτ => .loopValues hτ) (.ite (.foldl (fun _ _ hτ =>
    .transfer hτ) (.refl _)) (.refl _)))) (.setPwm hτ)

theorem Orderly.shapePeriod {u b old : Nat} (hτ : Orderly σ τ) : Orderly σ (τ.shapePeriod u b old) :=
  .modPwm hτ

theorem Orderly.runBoundary {u b : Nat} (hτ : Orderly σ τ) : Orderly σ (τ.runBoundary u b) :=
  .formLevels (.shapePeriod (.incWrap (.takeSwaps (.enterHeld (.boundaryTransfer hτ)))))

theorem Orderly.execPwmPeriodBoundary {u : Fin 14} (hτ : Orderly σ τ) : Runs σ (execPwmPeriodBoundary u τ) :=
  .ite (.ite (.next (.periodStart (.runBoundary hτ))) (.ite (.next (.periodStart (.modPwm (.incWrap (.enterHeld hτ))))) (.next hτ)))
    (.next hτ)

theorem Orderly.execPwmEdgeIssue {u : Fin 14} (hτ : Orderly σ τ) : Runs σ (execPwmEdgeIssue u τ) :=
  .ite (.next (.issueEdges hτ)) (.next hτ)

theorem Orderly.execPwmStart {i : Initiator} {v : Word} (hτ : Orderly σ τ) : Runs σ (execPwmStart i v τ) :=
  .next (.pwmStartWrite hτ)

theorem Orderly.execPwmStop {i : Initiator} {v : Word} (hτ : Orderly σ τ) : Runs σ (execPwmStop i v τ) :=
  .next (.pwmStopWrite hτ)

theorem Orderly.execPwmCommit (_i : Initiator) {v : Word} (hτ : Orderly σ τ) : Runs σ (execPwmCommit _i v τ) :=
  .next (.pwmCommitWrite hτ)

theorem Orderly.execPwmForceWrite {i : Initiator} {u : Fin 14} {v : Word} (hτ : Orderly σ τ) : Runs σ (execPwmForceWrite i u v τ) :=
  .next (.pwmForceWrite hτ)

theorem Orderly.execPwmCntClr (_i : Initiator) {u : Fin 14} (hτ : Orderly σ τ) : Runs σ (execPwmCntClr _i u τ) :=
  .next (.wr hτ)

theorem Orderly.hbLate {h : Nat} (hτ : Orderly σ τ) : Orderly σ (τ.hbLate h) :=
  .raise (.wr (.set1 (.hbOff hτ)))

theorem Orderly.hbReceive {h : Nat} {e : Edge} (hτ : Orderly σ τ) : Orderly σ (τ.hbReceive h e) :=
  .ite (.hbLate hτ) (.modHb hτ)

theorem Orderly.execHbEdgeReceive {h : Fin 8} (hτ : Orderly σ τ) : Runs σ (execHbEdgeReceive h τ) := by
  unfold Machine.execHbEdgeReceive
  split
  · exact .next hτ
  · exact .after (.ite (.next (.hbReceive (.refl _))) (.next (.refl _))) (.modPwm hτ)

theorem Orderly.refreshStep {h : Nat} (hτ : Orderly σ τ) : Orderly σ (τ.refreshStep h) :=
  .ite (.modHb (.put hτ)) (.ite (.modHb (.put hτ)) (.modHb (.put (.put hτ))))

theorem Orderly.hbInterlock {h : Nat} (hτ : Orderly σ τ) : Orderly σ (τ.hbInterlock h) :=
  .raise (.modHb (.wr (.set1 (.hbOff hτ))))

theorem Orderly.hbExecute {h : Nat} {e : Edge} {t : Nat} (hτ : Orderly σ τ) : Orderly σ (τ.hbExecute h e t) :=
  .ite hτ (.ite (.ite (.hbInterlock hτ) (.put hτ)) (.modHb (.put (.ite hτ (.put hτ)))))

theorem Orderly.execHbEdgeExecute {h : Fin 8} (hτ : Orderly σ τ) : Runs σ (execHbEdgeExecute h τ) := by
  refine .ite (.ite (.next (.refreshStep hτ)) (.next hτ)) ?_
  split
  · exact .next hτ
  · exact .ite (.next (.hbExecute (.modHb hτ))) (.next hτ)

theorem Orderly.linkDown (hτ : Orderly σ τ) : Orderly σ (τ.linkDown) :=
  .stickyRaise (.holdBegins (.put (.beside hτ)))

theorem Orderly.execHbLinkCrcError {h : Fin 8} (hτ : Orderly σ τ) : Runs σ (execHbLinkCrcError h τ) :=
  .ite (.next (.linkDown (.modPwm hτ))) (.next hτ)

theorem Orderly.execHbKeepalive (hτ : Orderly σ τ) : Runs σ (execHbKeepalive τ) :=
  .ite (.after (.next (.ite (.refl _) (.put (.refl _)))) (.beside hτ)) (.next hτ)

theorem Orderly.execHbKeepaliveTimeout (hτ : Orderly σ τ) : Runs σ (execHbKeepaliveTimeout τ) :=
  .ite (.next (.linkDown hτ)) (.next hτ)

theorem Orderly.refreshStart {h m : Nat} (hτ : Orderly σ τ) : Orderly σ (τ.refreshStart h m) :=
  .modHb (.wr (.incSat (.set1 (.put (.put (.put hτ))))))

theorem Orderly.hbMarker {h m : Nat} (hτ : Orderly σ τ) : Orderly σ (τ.hbMarker h m) :=
  .ite (.modHb (.put hτ)) (.ite (.refreshStart hτ) (.modHb (.put hτ)))

theorem Orderly.execHbPeriodMarker {h : Fin 8} (hτ : Orderly σ τ) : Runs σ (execHbPeriodMarker h τ) := by
  unfold Machine.execHbPeriodMarker
  split
  · exact .next hτ
  · exact .ite (.next (.hbMarker (.modPwm hτ))) (.next hτ)

theorem Orderly.execVdrvLockout (hτ : Orderly σ τ) : Runs σ (execVdrvLockout τ) :=
  .ite (.after (.next (.stickyRaise (.ite (.refl _) (.holdBegins (.incSat (.put (.refl _))))))) (.put (.put hτ))) (.next hτ)

theorem Orderly.execVdrvLockoutEnd (hτ : Orderly σ τ) : Runs σ (execVdrvLockoutEnd τ) :=
  .ite (.next (.noteHolds (.put hτ))) (.next hτ)

theorem Orderly.laneInterlock {l : Nat} (hτ : Orderly σ τ) : Orderly σ (τ.laneInterlock l) :=
  .raise (.modLane (.set1 (.laneTrip hτ)))

theorem Orderly.laneReceive {l : Nat} {e : Edge} (hτ : Orderly σ τ) : Orderly σ (τ.laneReceive l e) :=
  .ite hτ (.ite (.laneInterlock hτ) (.modLane hτ))

theorem Orderly.execLaneEdgeReceive {l : Fin 6} (hτ : Orderly σ τ) : Runs σ (execLaneEdgeReceive l τ) := by
  unfold Machine.execLaneEdgeReceive
  split
  · exact .next hτ
  · exact .next (.laneReceive (.modPwm hτ))

theorem Orderly.laneLate {l : Nat} (hτ : Orderly σ τ) : Orderly σ (τ.laneLate l) :=
  .raise (.set1 (.laneTrip hτ))

theorem Orderly.lineBegin {l k n : Nat} {chips : List Bool} (hτ : Orderly σ τ) : Orderly σ (τ.lineBegin l k n chips) :=
  .modLane hτ

theorem Orderly.edgeBegin {l k : Nat} {e : Edge} (hτ : Orderly σ τ) : Orderly σ (τ.edgeBegin l k e) :=
  .modLane (.lineBegin (.incWrap hτ))

theorem Orderly.execLaneEdgeSend {l : Fin 6} (hτ : Orderly σ τ) : Runs σ (execLaneEdgeSend l τ) := by
  unfold Machine.execLaneEdgeSend
  dsimp only
  split
  · exact .next hτ
  · exact .ite (.next hτ) (.ite (.next (.laneLate hτ)) (.next (.edgeBegin hτ)))

theorem Orderly.execLaneHeartbeatDue {l : Fin 6} (hτ : Orderly σ τ) : Runs σ (execLaneHeartbeatDue l τ) :=
  .ite (.next (.modLane hτ)) (.next hτ)

theorem Orderly.laneFault {l : Nat} {c : Bool} {f : Fld} {n : Nat} (hτ : Orderly σ τ) : Orderly σ (τ.laneFault l c f n) :=
  .ite (.after (.ite (.raise (.refl _)) (.refl _)) (.set1 hτ)) hτ

theorem Orderly.laneMissing {l : Nat} (hτ : Orderly σ τ) : Orderly σ (τ.laneMissing l) :=
  .laneFault (.modLane (.incSat (.incSat hτ)))

theorem Orderly.heartbeatBegin {l k : Nat} (hτ : Orderly σ τ) : Orderly σ (τ.heartbeatBegin l k) :=
  .modLane (.lineBegin (.incWrap (.ite (.laneMissing hτ) hτ)))

theorem Orderly.execLaneHeartbeatSend {l : Fin 6} (hτ : Orderly σ τ) : Runs σ (execLaneHeartbeatSend l τ) :=
  .ite (.next (.heartbeatBegin hτ)) (.next hτ)

theorem Orderly.execLaneHeartbeatForced {l : Fin 6} (hτ : Orderly σ τ) : Runs σ (execLaneHeartbeatForced l τ) :=
  .ite (.next (.heartbeatBegin hτ)) (.next hτ)

theorem Orderly.laneStatus {l k st : Nat} (hτ : Orderly σ τ) : Orderly σ (τ.laneStatus l k st) :=
  .after (.modLane (.laneFault (.ite (.incSat (.refl _)) (.refl _)))) (.laneFault (.laneFault (.laneFault (.laneFault (.put (.put hτ))))))

theorem Orderly.execLaneStatusReceive {l : Fin 6} {bits : BitVec 13} (hτ : Orderly σ τ) : Runs σ (execLaneStatusReceive l bits τ) := by
  unfold Machine.execLaneStatusReceive
  split
  · exact .next hτ
  · exact .ite (.next (.laneStatus hτ)) (.next (.laneMissing hτ))

theorem Orderly.execLaneStatusMissing {l : Fin 6} (hτ : Orderly σ τ) : Runs σ (execLaneStatusMissing l τ) :=
  .ite (.next (.laneMissing hτ)) (.next hτ)

theorem Orderly.execLaneTripEnd {l : Fin 6} (hτ : Orderly σ τ) : Runs σ (execLaneTripEnd l τ) :=
  .ite (.next (.put hτ)) (.next hτ)

theorem Orderly.execLaneEnable {i : Initiator} {l : Fin 6} (hτ : Orderly σ τ) : Runs σ (execLaneEnable i l τ) :=
  .next (.laneEnable hτ)

theorem Orderly.execLaneDisable {i : Initiator} {l : Fin 6} (hτ : Orderly σ τ) : Runs σ (execLaneDisable i l τ) :=
  .next (.laneDisable hτ)

theorem Orderly.gridTake {g : GridIn} (hτ : Orderly σ τ) : Orderly σ (τ.gridTake g) :=
  .after (.ite (.modGrid (.put (.refl _))) (.set1 (.refl _))) (.put (.put (.put hτ)))

theorem Orderly.curvesStep {g : GridIn} (hτ : Orderly σ τ) : Orderly σ (τ.curvesStep g) :=
  .forEach hτ (fun _ _ hτ => .forEach hτ (fun _ _ hτ => .modGrid hτ))

theorem Orderly.curveRegs (hτ : Orderly σ τ) : Orderly σ (τ.curveRegs) := by
  refine .forEach hτ (fun _ _ hτ => ?_)
  split
  · exact .wr hτ
  · exact .wr hτ

theorem Orderly.opAway {op : Nat} (hτ : Orderly σ τ) : Orderly σ (τ.opAway op) :=
  .setOp (.probeAbandon hτ)

theorem Orderly.probeBegin {passive : Bool} (hτ : Orderly σ τ) : Orderly σ (τ.probeBegin passive) := by
  unfold State.probeBegin
  exact .modGrid (.put hτ)

theorem Orderly.probeTrigger (hτ : Orderly σ τ) : Orderly σ (τ.probeTrigger) :=
  .ite hτ (.ite (.modGrid hτ) (.probeBegin hτ))

theorem Orderly.gridConnected {g : GridIn} {region : Nat} (hτ : Orderly σ τ) : Orderly σ (τ.gridConnected g region) :=
  .after (.ite (.gridTrip (.refl _)) (.ite (.opAway (.refl _)) (.ite (.opAway (.refl _)) (.ite (.opAway (.refl _)) (.after (.ite (.ite
    (.gridTrip (.refl _)) (.probeTrigger (.refl _))) (.refl _)) (.setOp (.refl _))))))) (.ite (.raise (.incSat (.set1 hτ))) hτ)

theorem Orderly.opIdle (hτ : Orderly σ τ) : Orderly σ (τ.opIdle) :=
  .ite hτ (.opAway hτ)

theorem Orderly.rcStep (hτ : Orderly σ τ) : Orderly σ (τ.rcStep) := by
  unfold State.rcStep
  split
  · exact .modGrid (.wr hτ)
  · exact hτ

theorem Orderly.fnFilter {g : GridIn} (hτ : Orderly σ τ) : Orderly σ (τ.fnFilter g) := by
  unfold State.fnFilter
  exact .modGrid hτ

theorem Orderly.slotPut {p n : Nat} {w : Word} (hτ : Orderly σ τ) : Orderly σ (τ.slotPut p n w) :=
  .toShadow hτ

theorem Orderly.fnRefs {p : Nat} {g : GridIn} (hτ : Orderly σ τ) : Orderly σ (τ.fnRefs p g) :=
  .put (.put (.put (.wr (.wr (.slotPut (.slotPut (.fnFilter hτ)))))))

theorem Orderly.gridSlots {p : Nat} {g : GridIn} (hτ : Orderly σ τ) : Orderly σ (τ.gridSlots p g) := by
  unfold State.gridSlots
  exact .modGrid (.slotPut (.slotPut (.slotPut (.slotPut (.slotPut (.ite (.wr (.slotPut hτ)) hτ))))))

theorem Orderly.gridWait {g : GridIn} {region : Nat} (hτ : Orderly σ τ) : Orderly σ (τ.gridWait g region) :=
  .ite hτ (.after (.ite (.closeRequest (.refl _)) (.refl _)) (.ite (.modGrid hτ) (.modGrid (.put hτ))))

theorem Orderly.gridEval {p : Nat} (hτ : Orderly σ τ) : Orderly σ (τ.gridEval p) :=
  .after (.after (.after (.after (.gridWait (.modGrid (.gridSlots (.ite (.fnRefs (.refl _)) (.refl _))))) (.rcStep (.ite (.gridConnected
    (.refl _)) (.opIdle (.refl _))))) (.ite (.put (.refl _)) (.refl _))) (.put (.curveRegs (.ite (.curvesStep (.refl _)) (.refl _)))))
    (.gridTake (.transfer (.transfer (.transfer hτ))))

theorem Orderly.execGridEvaluation (hτ : Orderly σ τ) : Runs σ (execGridEvaluation τ) := by
  unfold Machine.execGridEvaluation
  split
  · exact .next hτ
  · exact .ite (.next (.gridEval hτ)) (.next hτ)

theorem Orderly.vkxJudge (hτ : Orderly σ τ) : Orderly σ (τ.vkxJudge) := by
  unfold State.vkxJudge
  exact .modRelay (.put (.put hτ))

theorem Orderly.passive (hτ : Orderly σ τ) : Orderly σ (τ.passive) :=
  .ite hτ (.after (.ite (.refl _) (.ite (.gridTrip (.refl _)) (.probeTrigger (.refl _)))) (.put hτ))

theorem Orderly.passiveStep {c : Nat} {phi : Rat} {old : Option Rat} (hτ : Orderly σ τ) : Orderly σ (τ.passiveStep c phi old) :=
  .after (.ite (.passive (.refl _)) (.refl _)) (.put (.put hτ))

theorem Orderly.lockLost (hτ : Orderly σ τ) : Orderly σ (τ.lockLost) :=
  .after (.after (.ite (.modGrid (.put (.refl _))) (.refl _)) (.ite (.modGrid (.refl _)) (.refl _))) (.stickyRaise (.put hτ))

theorem Orderly.lockStep {phi : Rat} {free : Bool} (hτ : Orderly σ τ) : Orderly σ (τ.lockStep phi free) :=
  .after (.ite (.ite (.lockLost (.refl _)) (.refl _)) (.ite (.modGrid (.put (.refl _))) (.refl _))) (.modGrid hτ)

theorem Orderly.boundary {c : Nat} (hτ : Orderly σ τ) : Orderly σ (τ.boundary c) := by
  refine .vkxJudge (.passiveStep (.lockStep (.forEach (.modGrid (.put (.wr ?_))) (fun _ _ hτ => .beside hτ))))
  split
  · exact .wr hτ
  · exact hτ

theorem Orderly.execGridCycleBoundary (hτ : Orderly σ τ) : Runs σ (execGridCycleBoundary τ) := by
  unfold Machine.execGridCycleBoundary
  split
  · exact .ite (.next (.boundary hτ)) (.next hτ)
  · exact .next hτ

theorem Orderly.execGridFormingWrite {i : Initiator} {v : Word} (hτ : Orderly σ τ) : Runs σ (execGridFormingWrite i v τ) :=
  .next (.formingWrite hτ)

theorem Orderly.execProbeStart (hτ : Orderly σ τ) : Runs σ (execProbeStart τ) := by
  refine .ite (.next hτ) ?_
  split
  · exact .ite (.next (.probeBegin hτ)) (.next hτ)
  · exact .ite (.next (.probeBegin hτ)) (.next hτ)

theorem Orderly.execProbeEnd (hτ : Orderly σ τ) : Runs σ (execProbeEnd τ) :=
  .ite (.next (.incSat (.put (.put hτ)))) (.next hτ)

theorem Orderly.relayHold {k : Nat} (hτ : Orderly σ τ) : Orderly σ (τ.relayHold k) :=
  .ite (.put hτ) hτ

theorem Orderly.checkFail {step : Nat} (hτ : Orderly σ τ) : Orderly σ (τ.checkFail step) :=
  .maintEnd (.stickyRaise (.put (.put (.relaysOff hτ))))

theorem Orderly.checkAction {step : Nat} (hτ : Orderly σ τ) : Orderly σ (τ.checkAction step) :=
  .ite (.relayDrive hτ) (.ite (.relayDrive hτ) (.ite (.relayDrive hτ) (.relayDrive hτ)))

theorem Orderly.checkEnd {step : Nat} (hτ : Orderly σ τ) : Orderly σ (τ.checkEnd step) :=
  .after (.ite (.checkFail (.refl _)) (.ite (.maintEnd (.put (.put (.refl _)))) (.modRelay (.put (.checkAction (.refl _)))))) (.ite (.put
    hτ) hτ)

theorem Orderly.execRelayCheckStep (hτ : Orderly σ τ) : Runs σ (execRelayCheckStep τ) :=
  .ite (.next hτ) (.ite (.next (.maintAbort hτ)) (.after (.ite (.next (.checkEnd (.refl _))) (.next (.refl _))) (.relayHold (.relayHold
    hτ))))

theorem Orderly.execRelayCloseRequest {i : Initiator} (hτ : Orderly σ τ) : Runs σ (execRelayCloseRequest i τ) :=
  .next (.closeWrite hτ)

theorem Orderly.closeFail (hτ : Orderly σ τ) : Orderly σ (τ.closeFail) :=
  .openingEvent (.put (.stickyRaise (.enterOpening hτ)))

theorem Orderly.opReg (hτ : Orderly σ τ) : Orderly σ (τ.opReg) :=
  .put hτ

theorem Orderly.opUpdate (hτ : Orderly σ τ) : Orderly σ (τ.opUpdate) := by
  unfold State.opUpdate
  split
  · exact hτ
  · exact .after (.ite (.opReg (.modRelay (.refl _))) (.refl _)) (.put hτ)

theorem Orderly.enterConnected (hτ : Orderly σ τ) : Orderly σ (τ.enterConnected) := by
  unfold State.enterConnected
  exact .after (.modRelay (.modGrid (.ite (.wr (.refl _)) (.refl _)))) (.wr (.setConn (.opUpdate hτ)))

theorem Orderly.closeStage (hτ : Orderly σ τ) : Orderly σ (τ.closeStage) :=
  .ite (.ite hτ (.ite (.modRelay hτ) (.closeFail hτ))) (.ite (.ite hτ (.modRelay (.relayDrive hτ))) (.ite (.enterConnected hτ) (.ite
    (.closeFail hτ) hτ)))

theorem Orderly.execRelayCloseStep (hτ : Orderly σ τ) : Runs σ (execRelayCloseStep τ) :=
  .after (.ite (.next (.closeStage (.refl _))) (.next (.refl _))) (.relayHold (.relayHold hτ))

theorem Orderly.execGridOpenRequest {i : Initiator} (hτ : Orderly σ τ) : Runs σ (execGridOpenRequest i τ) :=
  .next (.openRequest hτ)

theorem Orderly.execRelayOpeningCheck (hτ : Orderly σ τ) : Runs σ (execRelayOpeningCheck τ) :=
  .ite (.ite (.next (.setConn (.stickyRaise hτ))) (.ite (.next (.enterWait hτ)) (.next (.setConn hτ)))) (.next hτ)

theorem Orderly.execRelayFbLost (hτ : Orderly σ τ) : Runs σ (execRelayFbLost τ) :=
  .ite (.next (.gridTrip (.stickyRaise hτ))) (.next hτ)

theorem Orderly.execReconnectReady (hτ : Orderly σ τ) : Runs σ (execReconnectReady τ) := by
  unfold Machine.execReconnectReady
  split
  · exact .ite (.next (.put hτ)) (.next hτ)
  · exact .next hτ

theorem Orderly.execAutoCheckRequest (hτ : Orderly σ τ) : Runs σ (execAutoCheckRequest τ) :=
  .ite (.after (.ite (.next (.refl _)) (.next (.modGrid (.refl _)))) (.maintArrive hτ)) (.next hτ)

theorem Orderly.execAutoPwmStart (hτ : Orderly σ τ) : Runs σ (execAutoPwmStart τ) := by
  unfold Machine.execAutoPwmStart
  split
  · exact .ite (.next (.forEach (.modGrid hτ) (fun _ _ hτ => .startUnit hτ))) (.next hτ)
  · exact .next hτ

theorem Orderly.execMeterEnable {i : Initiator} (hτ : Orderly σ τ) : Runs σ (execMeterEnable i τ) :=
  .next (.meterEnable hτ)

theorem Orderly.execMeterDisable {i : Initiator} (hτ : Orderly σ τ) : Runs σ (execMeterDisable i τ) :=
  .next (.meterDisable hτ)

theorem Orderly.latchInfo (hτ : Orderly σ τ) : Orderly σ (τ.latchInfo) :=
  .forEach hτ (fun _ _ hτ => .wr hτ)

theorem Orderly.latchPhase {p : Nat} {x : PhaseInt} {len : Rat} (hτ : Orderly σ τ) : Orderly σ (τ.latchPhase p x len) :=
  .wr (.wr (.wr (.wr (.wr (.wr (.wr hτ))))))

theorem Orderly.latchPublish (hτ : Orderly σ τ) : Orderly σ (τ.latchPublish) :=
  .ite (.put (.foldl (fun _ _ hτ => .latchPhase hτ) hτ)) hτ

theorem Orderly.latchMove {k : Nat} (hτ : Orderly σ τ) : Orderly σ (τ.latchMove k) :=
  .after (.ite (.set1 (.refl _)) (.refl _)) (.wr (.wr (.modMeter hτ)))

theorem Orderly.latchTotals (hτ : Orderly σ τ) : Orderly σ (τ.latchTotals) :=
  .latchInfo (.latchPublish (.forEach hτ (fun _ _ hτ => .latchMove hτ)))

theorem Orderly.vaultWrite {bs : List Byte} {bad : Nat} (hτ : Orderly σ τ) : Orderly σ (τ.vaultWrite bs bad) :=
  .after (.after (.ite (.refl _) (.raise (.refl _))) (.vaultNext (.ite (.refl _) (.vaultPut (.refl _))))) (.vaultPut hτ)

theorem Orderly.latch {endTick bad : Nat} (hτ : Orderly σ τ) : Orderly σ (τ.latch endTick bad) :=
  .after (.set1 (.modMeter (.wrW (.ite (.vaultWrite (.refl _)) (.refl _))))) (.modMeter (.wr (.wr (.latchTotals hτ))))

theorem Orderly.meterDue {bad : Nat} (hτ : Orderly σ τ) : Orderly σ (τ.meterDue bad) := by
  unfold State.meterDue
  split
  · exact .ite hτ (.meterStopCheck (.latch hτ))
  · exact hτ

theorem Orderly.meterGap {t : Nat} (hτ : Orderly σ τ) : Orderly σ (τ.meterGap t) :=
  .wr (.modMeter hτ)

theorem Orderly.meterCycleSkip {b : Nat} (hτ : Orderly σ τ) : Orderly σ (τ.meterCycleSkip b) :=
  .foldl (fun _ _ hτ => .set1 (.latchTotals hτ)) (.modMeter (.meterGap hτ))

theorem Orderly.intAdd {p : Nat} {c : PhaseCyc} {v1 : Rat} {ls : List Rat} {len : Rat} (hτ : Orderly σ τ) : Orderly σ (τ.intAdd p c v1 ls
    len) := by
  unfold State.intAdd
  exact .modMeter hτ

theorem Orderly.accAdd {q p : Nat} {pt : Rat} (hτ : Orderly σ τ) : Orderly σ (τ.accAdd q p pt) := by
  unfold State.accAdd
  exact .modMeter hτ

theorem Orderly.cycleEnergy {cs : List (Nat × PhaseCyc)} {ls : List Rat} {j n : Nat} (hτ : Orderly σ τ) : Orderly σ (τ.cycleEnergy cs ls j
    n) :=
  .foldl (fun _ _ hτ => .after (.ite (.accAdd (.refl _)) (.refl _)) (.accAdd hτ)) hτ

theorem Orderly.schedLatch {cs : List (Nat × PhaseCyc)} {ls : List Rat} {a b : Nat} {j t : Nat} (hτ : Orderly σ τ) : Orderly σ
    (τ.schedLatch cs ls a b j t).1 :=
  .set1 (.latchTotals (.cycleEnergy hτ))

theorem Orderly.meterCycleAdd {a b bad : Nat} (hτ : Orderly σ τ) : Orderly σ (τ.meterCycleAdd a b bad) := by
  have hgap : Orderly σ (τ.meterGap a) := .meterGap hτ
  unfold State.meterCycleAdd
  dsimp only
  generalize τ.meterGap a = υ at hgap
  refine .after (.ite (.ite (.modMeter (.refl _)) (.latch (.refl _))) (.refl _)) (.modMeter (.cycleEnergy (.foldlFst
    (fun _ _ hτ => .schedLatch hτ) ?_)))
  dsimp only
  refine .modMeter (.foldl (fun _ _ hτ => .intAdd hτ) (.ite (.set1 ?_) ?_)) <;> exact .ite (.set1 hgap) hgap

theorem Orderly.meterProcess {a b bad : Nat} (hτ : Orderly σ τ) : Orderly σ (τ.meterProcess a b bad) :=
  .meterStopCheck (.modMeter (.ite (.meterCycleSkip (.stickyRaise hτ)) (.ite (.meterCycleSkip hτ) (.meterCycleAdd hτ))))

theorem Orderly.execMeterCycleProcess {bad : Nat} (hτ : Orderly σ τ) : Runs σ (execMeterCycleProcess bad τ) := by
  unfold Machine.execMeterCycleProcess
  split
  · exact .next (.meterDue hτ)
  · exact .ite (.next (.meterDue hτ)) (.ite (.next (.meterProcess hτ)) (.next hτ))

theorem Orderly.vaultScan (hτ : Orderly σ τ) : Orderly σ (τ.vaultScan) :=
  .after (.after (.after (.put (.ite (.refl _) (.put (.stickyRaise (.refl _))))) (.ite (.set1 (.refl _)) (.refl _))) (.put (.ite (.put
    (.refl _)) (.wr (.refl _))))) (.forEach (.modMeter hτ) (fun _ _ hτ => .wr hτ))

theorem Orderly.execVaultScan (hτ : Orderly σ τ) : Runs σ (execVaultScan τ) :=
  .ite (.next (.vaultScan hτ)) (.next hτ)

theorem Orderly.deltaRead {q p : Nat} (hτ : Orderly σ τ) : Orderly σ (τ.deltaRead q p).1 :=
  .wr hτ

theorem Orderly.execMeterDeltaRead (_i : Initiator) {q p : Fin 4} (hτ : Orderly σ τ) : Runs σ (execMeterDeltaRead _i q p τ) :=
  .next (.answer (.deltaRead hτ))

theorem Orderly.totRead {q p : Nat} (hτ : Orderly σ τ) : Orderly σ (τ.totRead q p).1 :=
  .wr hτ

theorem Orderly.execMeterTotRead (_i : Initiator) {q p : Fin 4} (hτ : Orderly σ τ) : Runs σ (execMeterTotRead _i q p τ) :=
  .next (.answer (.totRead hτ))

theorem Orderly.execSpLockstepMismatch (hτ : Orderly σ τ) : Runs σ (execSpLockstepMismatch τ) :=
  .ite (.next (.raise (.meterStop hτ))) (.next hτ)

theorem Orderly.execArcEnable {i : Initiator} {x : Fin 4} (hτ : Orderly σ τ) : Runs σ (execArcEnable i x τ) :=
  .next (.arcEnable hτ)

theorem Orderly.execArcDisable {i : Initiator} {x : Fin 4} (hτ : Orderly σ τ) : Runs σ (execArcDisable i x τ) :=
  .next (.arcDisable hτ)

theorem Orderly.arcDetect {x last : Nat} (hτ : Orderly σ τ) : Orderly σ (τ.arcDetect x last) :=
  .modArc (.put (.ite hτ (.raiseAt (.wr (.set1 hτ)))))

theorem Orderly.arcJudge {x last : Nat} {es : List Rat} {m : Rat} (hτ : Orderly σ τ) : Orderly σ (τ.arcJudge x last es m) :=
  .after (.ite (.arcDetect (.refl _)) (.refl _)) (.modArc (.put (.put hτ)))

theorem Orderly.arcEvaluated {x last : Nat} {codes : List Int} {period : Nat} (hτ : Orderly σ τ) : Orderly σ (τ.arcEvaluated x last codes
    period) :=
  .after (.ite (.ite (.modArc (.put (.refl _))) (.modArc (.refl _))) (.arcJudge (.refl _))) (.incWrap hτ)

theorem Orderly.arcFrame {x : Nat} (hτ : Orderly σ τ) : Orderly σ (τ.arcFrame x) := by
  unfold State.arcFrame
  exact .after (.ite (.incWrap (.refl _)) (.arcEvaluated (.refl _))) (.modArc hτ)

theorem Orderly.execArcFrameEvaluate {x : Fin 4} (hτ : Orderly σ τ) : Runs σ (execArcFrameEvaluate x τ) :=
  .ite (.next (.arcFrame hτ)) (.next hτ)

theorem Orderly.ivEntry {x : Nat} (hτ : Orderly σ τ) : Orderly σ (τ.ivEntry x) :=
  .after (.modIv (.put (.ite (.drew (.incSat (.refl _))) (.refl _)))) (.wrW (.wrW hτ))

theorem Orderly.execIvTracePoint {x : Fin 4} (hτ : Orderly σ τ) : Runs σ (execIvTracePoint x τ) :=
  .ite (.next (.ivSlots (.ivEntry hτ))) (.next hτ)

theorem Orderly.execIvTraceEnd {x : Fin 4} (hτ : Orderly σ τ) : Runs σ (execIvTraceEnd x τ) :=
  .ite (.after (.ite (.next (.ivFinish (.refl _))) (.next (.ivFinish (.set1 (.refl _))))) (.ivEntry hτ)) (.next hτ)

theorem Orderly.isoEnd {cb : Rat} (hτ : Orderly σ τ) : Orderly σ (τ.isoEnd cb) := by
  unfold State.isoEnd
  dsimp only
  split
  · exact .ite (.stickyRaise (.maintEnd (.wr (.put (.put hτ))))) (.maintEnd (.wr (.put (.put hτ))))
  · exact (.maintEnd (.wr (.put (.put hτ))))

theorem Orderly.execIsoCheckStep {sum : Int} (hτ : Orderly σ τ) : Runs σ (execIsoCheckStep sum τ) :=
  .ite (.ite (.next (.isoEnd hτ)) (.next (.beside hτ))) (.next hτ)

theorem Orderly.execRequestSensCalP {i : Initiator} (hτ : Orderly σ τ) : Runs σ (execRequestSensCalP i τ) :=
  .next (.maintArrive hτ)

theorem Orderly.execRequestSensCalG {i : Initiator} (hτ : Orderly σ τ) : Runs σ (execRequestSensCalG i τ) :=
  .next (.maintArrive hτ)

theorem Orderly.execRequestWcmpTest {i : Initiator} (hτ : Orderly σ τ) : Runs σ (execRequestWcmpTest i τ) :=
  .next (.maintArrive hτ)

theorem Orderly.execRequestIvTrace {i : Initiator} {x : Fin 4} (hτ : Orderly σ τ) : Runs σ (execRequestIvTrace i x τ) :=
  .next (.maintArrive hτ)

theorem Orderly.execRequestIsoCheck {i : Initiator} (hτ : Orderly σ τ) : Runs σ (execRequestIsoCheck i τ) :=
  .next (.maintArrive hτ)

theorem Orderly.execRequestRelayCheck {i : Initiator} (hτ : Orderly σ τ) : Runs σ (execRequestRelayCheck i τ) :=
  .next (.maintArrive hτ)

theorem Orderly.execRequestMramProgram {from_ : Option Initiator} (hτ : Orderly σ τ) : Runs σ (execRequestMramProgram from_ τ) :=
  .next (.maintArrive hτ)

theorem Orderly.execRequestVaultCompact {i : Initiator} (hτ : Orderly σ τ) : Runs σ (execRequestVaultCompact i τ) :=
  .next (.maintArrive hτ)

theorem Orderly.execRequestBistPeriodic {i : Initiator} (hτ : Orderly σ τ) : Runs σ (execRequestBistPeriodic i τ) :=
  .next (.maintArrive hτ)

theorem Orderly.execBistPeriodicDue (hτ : Orderly σ τ) : Runs σ (execBistPeriodicDue τ) :=
  .ite (.next (.maintOne hτ)) (.next hτ)

theorem Orderly.execBistPeriodicEnd {fault : Bool} (hτ : Orderly σ τ) : Runs σ (execBistPeriodicEnd fault τ) :=
  .ite (.ite (.next (.stickyRaise (.maintEnd hτ))) (.next (.maintEnd hτ))) (.next hτ)

theorem Orderly.vaultCompact {bad bad2 : Nat} (hτ : Orderly σ τ) : Orderly σ (τ.vaultCompact bad bad2) := by
  refine .meterDue (.maintEnd ?_)
  split
  · exact .vaultWrite (.ite (.set1 (.put hτ)) (.put hτ))
  · exact (.ite (.set1 (.put hτ)) (.put hτ))

theorem Orderly.execVaultCompactEnd {bad bad2 : Nat} (hτ : Orderly σ τ) : Runs σ (execVaultCompactEnd bad bad2 τ) :=
  .ite (.next (.vaultCompact hτ)) (.next hτ)

theorem Orderly.svServed {ch r : Nat} {rsp : List Byte} (hτ : Orderly σ τ) : Orderly σ (τ.svServed ch r rsp) :=
  .modSv hτ

theorem Orderly.svKeep (hτ : Orderly σ τ) : Orderly σ (τ.svKeep) :=
  .modSv hτ

theorem Orderly.mramEnd (hτ : Orderly σ τ) : Orderly σ (τ.mramEnd) := by
  unfold State.mramEnd
  split
  · exact .maintEnd hτ
  · split
    · exact .maintEnd hτ
    · exact .after (.ite (.ite (.svServed (.stageVerify (.svKeep (.refl _)))) (.stageVerify (.svKeep (.refl _)))) (.refl _)) (.modSv
        (.maintEnd (.wrBytes hτ)))

theorem Orderly.execMramProgramEnd (hτ : Orderly σ τ) : Runs σ (execMramProgramEnd τ) :=
  .ite (.next (.mramEnd hτ)) (.next hτ)

theorem Orderly.execMaintAbort (_i : Initiator) {v : Word} (hτ : Orderly σ τ) : Runs σ (execMaintAbort _i v τ) :=
  .next (.maintAbortWrite hτ)

theorem Orderly.curFirst {rs : List Raise} (hτ : Orderly σ τ) : Orderly σ (τ.curFirst rs) :=
  .ite hτ (.wr (.put (.put hτ)))

theorem Orderly.curInfo {n info : Nat} (hτ : Orderly σ τ) : Orderly σ (τ.curInfo n info) :=
  .ite (.put hτ) (.ite (.put hτ) hτ)

theorem Orderly.relayLockout (hτ : Orderly σ τ) : Orderly σ (τ.relayLockout) :=
  .modGrid (.probeAbandon (.setConn (.relaysOff hτ)))

theorem Orderly.maintAbortAll (hτ : Orderly σ τ) : Orderly σ (τ.maintAbortAll) :=
  .forEach hτ (fun _ _ hτ => .maintAbort hτ)

theorem Orderly.enterSafe {n : Nat} {esc : Bool} (hτ : Orderly σ τ) : Orderly σ (τ.enterSafe n esc) :=
  .ite hτ (.eventSend (.noteHolds (.permitEnd (.maintAbortAll (.forEach (.relayLockout (.forEach (.forEach (.forEach (.put (.put (.put
    (.put hτ)))) (fun _ _ hτ => .stopUnit hτ)) (fun _ _ hτ => .put (.hbOff hτ))) (fun _ _ hτ => .laneSafe hτ))) (fun _ _ hτ => .pairHalt
    hτ))))))

theorem Orderly.ivFenced {u : Nat} (hτ : Orderly σ τ) : Orderly σ (τ.ivFenced u) :=
  .ite (.ivAbort hτ) hτ

theorem Orderly.fenceUnit {u : Nat} (hτ : Orderly σ τ) : Orderly σ (τ.fenceUnit u) :=
  .ite hτ (.after (.noteHolds (.ivFenced (.ite (.put (.hbOff (.refl _))) (.ite (.laneTrip (.refl _)) (.put (.refl _)))))) (.put (.put
    (.put (.put (.modPwm (.ite (.enterHeld hτ) hτ)))))))

theorem Orderly.curUnit {n u : Nat} (hτ : Orderly σ τ) : Orderly σ (τ.curUnit n u) :=
  .fenceUnit (.ite hτ (.put (.put hτ)))

theorem Orderly.curTargetFence {n k : Nat} (hτ : Orderly σ τ) : Orderly σ (τ.curTargetFence n k).1 :=
  .after (.forEach (.ite (.ivAbortIf (.pairHalt (.put (.refl _)))) (.refl _)) (fun _ _ hτ => .curUnit hτ)) (.modCur hτ)

theorem Orderly.curFence {n : Nat} {ks : List Nat} (hτ : Orderly σ τ) : Orderly σ (τ.curFence n ks) :=
  .after (.ite (.enterSafe (.refl _)) (.refl _)) (.curFencedNow (.foldlFst (fun _ _ hτ => .curTargetFence hτ) hτ))

theorem Orderly.svBack {u : SvUndo} (hτ : Orderly σ τ) : Orderly σ (τ.svBack u) :=
  .foldl (fun _ _ hτ => .wr hτ) (.modSv hτ)

theorem Orderly.svFence (hτ : Orderly σ τ) : Orderly σ (τ.svFence) := by
  refine .forEach (.modSv (.ite hτ ?_)) (fun _ _ hτ => .modSv hτ)
  split
  · exact .svBack hτ
  · exact hτ

theorem Orderly.plcFence (hτ : Orderly σ τ) : Orderly σ (τ.plcFence) :=
  .put (.plcDrop (.plcAbort hτ))

theorem Orderly.curOther {k : Nat} (hτ : Orderly σ τ) : Orderly σ (τ.curOther k) :=
  .after (.ite (.arcStopAll (.meterStop (.refl _))) (.ite (.hpbUnitsStop (.refl _)) (.ite (.svFence (.refl _)) (.ite (.plcFence (.refl _))
    (.refl _))))) (.curFencedNow (.put hτ))

theorem Orderly.curReact {n info : Nat} {group : Bool} (hτ : Orderly σ τ) : Orderly σ (τ.curReact n info group) := by
  have hfence (ks : List Nat) : Orderly σ (τ.curFence n (if group then τ.toGroups ks else ks)) := .curFence hτ
  unfold State.curReact
  cases curTarget n with
  | none => exact hτ
  | wcGroups | failedWc | infoUnit | pair | unit | input => exact hfence _
  | sp | hpb | svauth | plc => exact .curOther hτ
  | device => exact .enterSafe hτ

theorem Orderly.curRaise {r : Raise} (hτ : Orderly σ τ) : Orderly σ (τ.curRaise r) :=
  .after (.ite (.refl _) (.after (.ite (.enterSafe (.refl _)) (.ite (.curReact (.refl _)) (.ite (.curReact (.refl _)) (.refl _))))
    (.curInfo (.refl _)))) (.set1 hτ)

theorem Orderly.curCycle {rs : List Raise} (hτ : Orderly σ τ) : Orderly σ (τ.curCycle rs) :=
  .foldl (fun _ _ hτ => .curRaise hτ) (.curFirst hτ)

theorem Orderly.execCuratorRaise {more : Nat} (hτ : Orderly σ τ) : Runs σ (execCuratorRaise more τ) :=
  .next (.curCycle (.beside hτ))

theorem Orderly.execCurSevWrite (_i : Initiator) {k : Fin 48} {v : Word} (hτ : Orderly σ τ) : Runs σ (execCurSevWrite _i k v τ) :=
  .next (.curSevWrite hτ)

theorem Orderly.execCurUnfence {i : Initiator} {v : Word} (hτ : Orderly σ τ) : Runs σ (execCurUnfence i v τ) :=
  .next (.curUnfenceWrite hτ)

theorem Orderly.execCurInjectRaise (_i : Initiator) {src : Byte} (hτ : Orderly σ τ) : Runs σ (execCurInjectRaise _i src τ) :=
  .next (.injectRaise hτ)

theorem Orderly.execCurInjectCorrupt (_i : Initiator) {copy : Fin 4} {src : Byte} (hτ : Orderly σ τ) : Runs σ (execCurInjectCorrupt _i
    copy src τ) :=
  .next (.injectCorrupt hτ)

theorem Orderly.curVote (hτ : Orderly σ τ) : Orderly σ (τ.curVote) :=
  .stickyRaise (.forEach hτ (fun _ _ hτ => .ite (.devClear hτ) (.devClear (.put hτ))))

theorem Orderly.execCuratorCopyMismatch (hτ : Orderly σ τ) : Runs σ (execCuratorCopyMismatch τ) :=
  .next (.curVote hτ)

theorem Orderly.execPwmCheckMismatch {u : Fin 14} (hτ : Orderly σ τ) : Runs σ (execPwmCheckMismatch u τ) :=
  .next (.raiseAt hτ)

theorem Orderly.execDrvGateCheck {h : Fin 8} {ho lo : Bool} (hτ : Orderly σ τ) : Runs σ (execDrvGateCheck h ho lo τ) :=
  .ite (.next hτ) (.after (.next (.ite (.raiseAt (.refl _)) (.refl _))) (.modCur hτ))

theorem Orderly.setEcc {a : Nat} {b : Bool} (h : Orderly σ τ) : Orderly σ { τ with ecc := τ.ecc.set a b } :=
  h.update rfl id id (SMap.wf_set _ a b) id

theorem Orderly.execEccUncorrectable {mram : Bool} {addr : Nat} {reader : Initiator} (h : Orderly σ τ) :
    Runs σ (execEccUncorrectable mram addr reader τ) :=
  .ite (.next h) (.next (.beside (.eccRaise (.setEcc h))))

theorem Orderly.execScrubPass {mram : Bool} {found : Nat} (hτ : Orderly σ τ) : Runs σ (execScrubPass mram found τ) :=
  .ite (.next hτ) (.next (.put (.set1 (.foldl (fun _ _ hτ => .eccRaise hτ) hτ))))

theorem Orderly.execBarrierLinkError (hτ : Orderly σ τ) : Runs σ (execBarrierLinkError τ) :=
  .ite (.next (.raise hτ)) (.next hτ)

theorem Orderly.pdPursue {d : Nat} (hτ : Orderly σ τ) : Orderly σ (τ.pdPursue d) :=
  .ite (.put hτ) hτ

theorem Orderly.railBack {r : Nat} (hτ : Orderly σ τ) : Orderly σ (τ.railBack r) :=
  .after (.ite (.pdPursue (.refl _)) (.refl _)) (.put hτ)

theorem Orderly.railOut {r : Nat} (hτ : Orderly σ τ) : Orderly σ (τ.railOut r) :=
  .after (.after (.ite (.domainOff (.refl _)) (.ite (.domainOff (.refl _)) (.refl _))) (.ite (.refl _) (.raise (.refl _)))) (.put hτ)

theorem Orderly.execRailOutOfWindow {rail : Fin 4} {back : Bool} (hτ : Orderly σ τ) : Runs σ (execRailOutOfWindow rail back τ) :=
  .ite (.next hτ) (.next (.ite (.railBack hτ) (.railOut hτ)))

theorem Orderly.modWdCh {i : Nat} {b : Bool} {f : WdChannel → WdChannel} (hτ : Orderly σ τ) : Orderly σ (τ.modWdCh i b f) :=
  .modWarden hτ

theorem Orderly.wdRaw {i : Nat} {b level : Bool} (hτ : Orderly σ τ) : Orderly σ (τ.wdRaw i b level) :=
  .ite hτ (.modWdCh (.put hτ))

theorem Orderly.execWardenInputChange {i : Fin 3} {b level : Bool} (hτ : Orderly σ τ) : Runs σ (execWardenInputChange i b level τ) :=
  .next (.wdRaw hτ)

theorem Orderly.wdReact (hτ : Orderly σ τ) : Orderly σ (τ.wdReact) :=
  .ite hτ (.noteHolds (.permitEnd (.relayLockout (.forEach (.forEach (.hbHoldOff (.wr (.put hτ))) (fun _ _ hτ => .laneTrip hτ)) (fun _ _
    hτ => .stopUnit hτ)))))

theorem Orderly.wdAccept {i : Nat} (hτ : Orderly σ τ) : Orderly σ (τ.wdAccept i) :=
  .wdReact (.raise (.wr (.put hτ)))

theorem Orderly.wdEval {i : Nat} (hτ : Orderly σ τ) : Orderly σ (τ.wdEval i) :=
  .ite hτ (.after (.after (.ite (.wdAccept (.refl _)) (.refl _)) (.ite (.refl _) (.put (.refl _)))) (.put hτ))

theorem Orderly.wdFilt {i : Nat} {b : Bool} (hτ : Orderly σ τ) : Orderly σ (τ.wdFilt i b) :=
  .after (.ite (.wdEval (.refl _)) (.modRelay (.refl _))) (.modWdCh (.put hτ))

theorem Orderly.execWardenFilterExpire {i : Fin 3} {b : Bool} (hτ : Orderly σ τ) : Runs σ (execWardenFilterExpire i b τ) :=
  .ite (.next (.wdFilt hτ)) (.next hτ)

theorem Orderly.wdFault {i code : Nat} (hτ : Orderly σ τ) : Orderly σ (τ.wdFault i code) :=
  .after (.ite (.refl _) (.raise (.put (.refl _)))) (.put hτ)

theorem Orderly.execWardenDiscrepancy {i : Fin 3} (hτ : Orderly σ τ) : Runs σ (execWardenDiscrepancy i τ) :=
  .ite (.next (.wdFault hτ)) (.next hτ)

theorem Orderly.tpStart {b : Bool} {t : Nat} (hτ : Orderly σ τ) : Orderly σ (τ.tpStart b t) := by
  unfold State.tpStart
  exact .modWarden hτ

theorem Orderly.execTestPulseStart {b : Bool} (hτ : Orderly σ τ) : Runs σ (execTestPulseStart b τ) := by
  unfold Machine.execTestPulseStart
  split
  · exact .ite (.next (.tpStart hτ)) (.next hτ)
  · exact .next hτ

theorem Orderly.tpCheck {b : Bool} (hτ : Orderly σ τ) : Orderly σ (τ.tpCheck b) :=
  .forEach (.modWarden hτ) ((fun _ _ hτ => .after (.ite (.wdFault (.incSat (.refl _))) (.refl _)) (.incWrap hτ)))

theorem Orderly.execTestPulseCheck {b : Bool} (hτ : Orderly σ τ) : Runs σ (execTestPulseCheck b τ) :=
  .ite (.next (.tpCheck hτ)) (.next hτ)

theorem Orderly.tpEnd {b : Bool} (hτ : Orderly σ τ) : Orderly σ (τ.tpEnd b) :=
  .forEach (.forEach (.modWarden hτ) (fun _ _ hτ => .ite (.modWdCh hτ) hτ)) (fun _ _ hτ => .ite (.wdFault (.incSat hτ)) hτ)

theorem Orderly.execTestPulseEnd {b : Bool} (hτ : Orderly σ τ) : Runs σ (execTestPulseEnd b τ) :=
  .ite (.next (.tpEnd hτ)) (.next hτ)

theorem Orderly.execWardenReset {i : Initiator} {v : Word} (hτ : Orderly σ τ) : Runs σ (execWardenReset i v τ) :=
  .next (.wdResetWrite hτ)

theorem Orderly.execWardenPermitRequest {i : Initiator} {time : BitVec 10} (hτ : Orderly σ τ) : Runs σ (execWardenPermitRequest i time τ) :=
  .next (.wdPermitWrite hτ)

theorem Orderly.execWardenPermitEnd {i : Initiator} {time : BitVec 10} (hτ : Orderly σ τ) : Runs σ (execWardenPermitEnd i time τ) :=
  .next (.wdPermitWrite hτ)

theorem Orderly.execWardenPermitExpire (hτ : Orderly σ τ) : Runs σ (execWardenPermitExpire τ) :=
  .ite (.next (.permitEnd hτ)) (.next hτ)

theorem Orderly.fetchAcc {q a : Nat} (hτ : Orderly σ τ) : Orderly σ (τ.fetchAcc q a).st := by
  refine .iteOf DataAcc.st (.iteOf DataAcc.st hτ ?_) ?_
  · split
    · exact hτ
    · exact .iteOf DataAcc.st (.eccFound hτ) ((.ite hτ (.drew (.modHok hτ))))
  · split
    · exact .iteOf DataAcc.st hτ (.iteOf DataAcc.st (.eccFound hτ) hτ)
    · exact .iteOf DataAcc.st hτ (.iteOf DataAcc.st (.eccFound hτ) hτ)
    · exact .iteOf DataAcc.st hτ (.iteOf DataAcc.st (.eccFound hτ) hτ)
    · exact .iteOf DataAcc.st hτ (.iteOf DataAcc.st (.eccFound hτ) hτ)
    · exact hτ

theorem Orderly.parcel {q a : Nat} (hτ : Orderly σ τ) : Orderly σ (τ.parcel q a).st :=
  .iteOf DataAcc.st (.fetchAcc hτ) hτ

theorem Orderly.hokFetch {q : Nat} (hτ : Orderly σ τ) : Orderly σ (τ.hokFetch q).state :=
  .iteOf Fetched.state (.parcel hτ) (.iteOf Fetched.state (.parcel hτ) (.iteOf Fetched.state (.parcel (.parcel hτ)) (.parcel (.parcel hτ))))

theorem Orderly.setX {q r : Nat} {v : Word} (hτ : Orderly σ τ) : Orderly σ (τ.setX q r v) :=
  .ite hτ (.modHok hτ)

theorem Orderly.xDone {t : At} {rd : Nat} {v : Word} {es : List Nat} (hτ : Orderly σ τ) : Orderly σ (τ.xDone t rd v es).state :=
  .setX hτ

theorem Orderly.illegal (hτ : Orderly σ τ) : Orderly σ (XOut.illegal τ).state :=
  .drew hτ

theorem Orderly.xBranch {t : At} {w : Nat} (hτ : Orderly σ τ) : Orderly σ (τ.xBranch t w).state := by
  unfold State.xBranch
  split
  · exact .illegal hτ
  · exact hτ

theorem Orderly.mtimeRead {q : Nat} (hτ : Orderly σ τ) : Orderly σ (τ.mtimeRead q).1 :=
  .wr hτ

theorem Orderly.cycRead (hτ : Orderly σ τ) : Orderly σ (τ.cycRead).1 :=
  .wr (.cycAdvance hτ)

theorem Orderly.subRead (hτ : Orderly σ τ) : Orderly σ (τ.subRead).1 :=
  (.cycAdvance hτ)

theorem Orderly.semRead {i : Nat} (hτ : Orderly σ τ) : Orderly σ (τ.semRead i).1 :=
  .wr hτ

theorem Orderly.perfRead {k e : Nat} (hτ : Orderly σ τ) : Orderly σ (τ.perfRead k e).1 :=
  .wr hτ

theorem Orderly.regRead {a : Nat} (hτ : Orderly σ τ) : Orderly σ (τ.regRead a).1 := by
  refine .iteOf Prod.fst hτ (.iteOf Prod.fst (.wr hτ) (.iteOf Prod.fst (.put hτ) (.iteOf Prod.fst (.mtimeRead hτ) (.iteOf Prod.fst
    (.mtimeRead hτ) (.iteOf Prod.fst (.cycRead hτ) (.iteOf Prod.fst (.subRead hτ) ?_))))))
  split
  · exact .semRead hτ
  · exact .deltaRead hτ
  · exact .totRead hτ
  · exact .iteOf Prod.fst (.perfRead hτ) hτ

theorem Orderly.coreRead {q a n : Nat} (hτ : Orderly σ τ) : Orderly σ (τ.coreRead q a n).1 := by
  refine .iteOf Prod.fst hτ ?_
  split
  · exact .regRead hτ
  · exact .regRead hτ
  · exact .iteOf Prod.fst (.drew hτ) hτ
  · exact .iteOf Prod.fst (.eccFound hτ) hτ

theorem Orderly.loadAcc {q a n : Nat} (hτ : Orderly σ τ) : Orderly σ (τ.loadAcc q a n).st := by
  refine .iteOf DataAcc.st (.iteOf DataAcc.st hτ ?_) ?_
  · dsimp only
    split
    · exact hτ
    · exact .iteOf DataAcc.st (.eccFound hτ) ((.ite hτ (.drew (.modHok hτ))))
  · dsimp only
    split
    · exact .coreRead hτ
    · exact .coreRead hτ

theorem Orderly.xLoad {t : At} {a n : Nat} {ev : List Nat} {k : State → Nat → State} (hτ : Orderly σ τ) (hk : ∀ τ x1, Orderly σ τ →
    Orderly σ (k τ x1)) : Orderly σ (τ.xLoad t a n ev k).state :=
  .iteOf XOut.state hτ (.iteOf XOut.state hτ (.iteOf XOut.state (hk _ _ (.loadAcc hτ)) (.loadAcc hτ)))

theorem Orderly.xLoads {t : At} {w : Nat} (hτ : Orderly σ τ) : Orderly σ (τ.xLoads t w).state := by
  unfold State.xLoads
  split
  · exact .xLoad hτ (fun _ _ hτ => .setX hτ)
  · exact .xLoad hτ (fun _ _ hτ => .setX hτ)
  · exact .xLoad hτ (fun _ _ hτ => .setX hτ)
  · exact .xLoad hτ (fun _ _ hτ => .setX hτ)
  · exact .xLoad hτ (fun _ _ hτ => .setX hτ)
  · exact .illegal hτ

theorem Orderly.storeAcc {q a : Nat} {n v : Nat} (hτ : Orderly σ τ) : Orderly σ (τ.storeAcc q a n v).st :=
  .iteOf DataAcc.st ((.modHok (.coreWrite hτ))) (.coreWrite hτ)

theorem Orderly.xStore {t : At} {a n v : Nat} {ev : List Nat} (hτ : Orderly σ τ) : Orderly σ (τ.xStore t a n v ev).state :=
  .iteOf XOut.state hτ (.iteOf XOut.state hτ (.iteOf XOut.state (.storeAcc hτ) (.storeAcc hτ)))

theorem Orderly.xStores {t : At} {w : Nat} (hτ : Orderly σ τ) : Orderly σ (τ.xStores t w).state := by
  unfold State.xStores
  split
  · exact .xStore hτ
  · exact .xStore hτ
  · exact .xStore hτ
  · exact .illegal hτ

theorem Orderly.xOpImm {t : At} {w : Nat} (hτ : Orderly σ τ) : Orderly σ (τ.xOpImm t w).state :=
  .iteOf XOut.state (.illegal hτ) (.xDone hτ)

theorem Orderly.xOp {t : At} {w : Nat} (hτ : Orderly σ τ) : Orderly σ (τ.xOp t w).state :=
  .iteOf XOut.state (.xDone hτ) (.iteOf XOut.state (.xDone hτ) (.iteOf XOut.state (.xDone hτ) (.illegal hτ)))

theorem Orderly.xFence {t : At} {w : Nat} (hτ : Orderly σ τ) : Orderly σ (τ.xFence t w).state :=
  .iteOf XOut.state hτ (.iteOf XOut.state (.modHok hτ) (.illegal hτ))

theorem Orderly.csrPut {q n : Nat} {v : Word} (hτ : Orderly σ τ) : Orderly σ (τ.csrPut q n v) :=
  .modHok hτ

theorem Orderly.mstPut {q lo : Nat} {len v : Nat} (hτ : Orderly σ τ) : Orderly σ (τ.mstPut q lo len v) :=
  .csrPut hτ

theorem Orderly.setPc {q pc : Nat} (hτ : Orderly σ τ) : Orderly σ (τ.setPc q pc) :=
  .modHok hτ

theorem Orderly.mret {q : Nat} (hτ : Orderly σ τ) : Orderly σ (τ.mret q) :=
  .setPc (.modHok (.mstPut (.mstPut (.mstPut (.ite hτ (.mstPut hτ))))))

theorem Orderly.xSys {t : At} {w : Nat} {umode : Bool} (hτ : Orderly σ τ) : Orderly σ (τ.xSys t w umode).state :=
  .iteOf XOut.state hτ (.iteOf XOut.state hτ (.iteOf XOut.state (.mret hτ) (.iteOf XOut.state (.ite (.modHok hτ) hτ) (.illegal hτ))))

theorem Orderly.hcacheWrite {q : Nat} {v : Word} (hτ : Orderly σ τ) : Orderly σ (τ.hcacheWrite q v) :=
  .ite (.modHok hτ) (.ite (.modHok hτ) (.ite (.modHok hτ) hτ))

theorem Orderly.pmpCfgWrite {q r : Nat} {v : Word} (hτ : Orderly σ τ) : Orderly σ (τ.pmpCfgWrite q r v) :=
  .forEach hτ (fun _ _ hτ => .ite hτ (.csrPut hτ))

theorem Orderly.pmpAddrWrite {q k : Nat} {v : Word} (hτ : Orderly σ τ) : Orderly σ (τ.pmpAddrWrite q k v) :=
  .ite hτ (.csrPut hτ)

theorem Orderly.csrWrite {q n : Nat} {v : Word} (hτ : Orderly σ τ) : Orderly σ (τ.csrWrite q n v) := by
  refine .ite (.csrPut hτ) (.ite (.csrPut hτ) (.ite (.csrPut hτ) (.ite (.csrPut hτ) (.ite (.hcacheWrite hτ) (.ite (.csrPut hτ) (.ite
    (.pmpCfgWrite hτ) (.ite (.pmpAddrWrite hτ) ?_)))))))
  split
  · exact .csrPut hτ
  · exact hτ

theorem Orderly.xCsr {t : At} {w : Nat} {umode : Bool} (hτ : Orderly σ τ) : Orderly σ (τ.xCsr t w umode).state :=
  .iteOf XOut.state (.illegal hτ) (.after (.xDone (.ite (.mstPut (.refl _)) (.refl _))) (.ite (.csrWrite hτ) hτ))

theorem Orderly.xSystem {t : At} {w : Nat} {umode : Bool} (hτ : Orderly σ τ) : Orderly σ (τ.xSystem t w umode).state :=
  .iteOf XOut.state (.xSys hτ) (.xCsr hτ)

theorem Orderly.xHq {t : At} {w : Nat} (hτ : Orderly σ τ) : Orderly σ (τ.xHq t w).state := by
  have hresult (r : Option (Word × Bool)) : Orderly σ (match r with
      | none => XOut.illegal τ
      | some (v, sat) =>
        (if sat then τ.csrPut t.q 0x800 1#32 else τ).xDone t (iRd w) v ([0x0F] ++ if sat then [0x18] else [])).state := by
    rcases r with _ | ⟨v, sat⟩
    · exact .illegal hτ
    · exact .xDone (.ite (.csrPut hτ) hτ)
  exact hresult _

theorem Orderly.setF {q r : Nat} {v : Word} (hτ : Orderly σ τ) : Orderly σ (τ.setF q r v) :=
  .modHok hτ

theorem Orderly.fpFlags {q fl : Nat} (hτ : Orderly σ τ) : Orderly σ (τ.fpFlags q fl) :=
  .mstPut (.csrPut hτ)

theorem Orderly.fDone {t : At} {w : Nat} {r : FRes} {es : List Nat} (hτ : Orderly σ τ) : Orderly σ (τ.fDone t w r es).state :=
  .fpFlags (.setF hτ)

theorem Orderly.fxDone {t : At} {w : Nat} {r : FRes} (hτ : Orderly σ τ) : Orderly σ (τ.fxDone t w r).state :=
  .fpFlags (.setX hτ)

theorem Orderly.xFp {t : At} {w : Nat} (hτ : Orderly σ τ) : Orderly σ (τ.xFp t w).state := by
  unfold State.xFp
  dsimp only
  split
  · exact .fDone hτ
  · exact .fDone hτ
  · exact .fDone hτ
  · exact .fDone hτ
  · exact .fDone hτ
  · split
    · exact .fDone hτ
    · exact .illegal hτ
  · exact .fDone hτ
  · exact .fDone hτ
  · exact .fxDone hτ
  · exact .fxDone hτ
  · exact .fDone hτ
  · exact .fDone hτ
  · exact .fxDone hτ
  · exact .fxDone hτ
  · exact .fDone hτ
  · exact .iteOf XOut.state (.fxDone hτ) (.illegal hτ)
  · exact .illegal hτ

theorem Orderly.xFma {t : At} {w op : Nat} (hτ : Orderly σ τ) : Orderly σ (τ.xFma t w op).state := by
  unfold State.xFma
  split
  · exact .iteOf XOut.state (.fDone hτ) (.illegal hτ)
  · exact .illegal hτ

theorem Orderly.xFloat {t : At} {w op : Nat} (hτ : Orderly σ τ) : Orderly σ (τ.xFloat t w op).state :=
  .iteOf XOut.state (.illegal hτ) (.iteOf XOut.state (.iteOf XOut.state (.xLoad hτ (fun _ _ hτ => .mstPut (.setF hτ))) (.illegal hτ))
    (.iteOf XOut.state (.iteOf XOut.state (.xStore hτ) (.illegal hτ)) (.iteOf XOut.state (.xFp hτ) (.xFma hτ))))

theorem Orderly.xExec {t : At} {w : Nat} {umode : Bool} (hτ : Orderly σ τ) : Orderly σ (τ.xExec t w umode).state :=
  .iteOf XOut.state (.xDone hτ) (.iteOf XOut.state (.xDone hτ) (.iteOf XOut.state (.setX hτ) (.iteOf XOut.state (.iteOf XOut.state (.setX
    hτ) (.illegal hτ)) (.iteOf XOut.state (.xBranch hτ) (.iteOf XOut.state (.xLoads hτ) (.iteOf XOut.state (.xStores hτ) (.iteOf
    XOut.state (.xOpImm hτ) (.iteOf XOut.state (.xOp hτ) (.iteOf XOut.state (.xFence hτ) (.iteOf XOut.state (.xSystem hτ) (.iteOf
    XOut.state (.xHq hτ) (.iteOf XOut.state (.xFloat hτ) (.illegal hτ)))))))))))))

theorem Orderly.archSample {q j e : Nat} {i : Note} (hτ : Orderly σ τ) : Orderly σ (τ.archSample q j e i) :=
  .after (.ite (.ite (.modHok (.put (.refl _))) (.refl _)) (.ite (.put (.refl _)) (.refl _))) (.modHok (.put (.drewN (.wrBytes hτ))))

theorem Orderly.archCount {q j : Nat} {e n : Nat} {i : Note} (hτ : Orderly σ τ) : Orderly σ (τ.archCount q j e n i) :=
  .ite (.forEach (.modHok hτ) (fun _ _ hτ => .ite (.archSample hτ) hτ)) hτ

theorem Orderly.perfAdd {q : Nat} {i : Note} {e n : Nat} (hτ : Orderly σ τ) : Orderly σ (τ.perfAdd q i e n) :=
  .ite hτ (.forEach hτ ((fun _ _ hτ => .ite (.after (.archCount (.ite (.put (.refl _)) (.refl _))) (.modHok hτ)) hτ)))

theorem Orderly.perfTime {q : Nat} {i : Note} {umode : Bool} (hτ : Orderly σ τ) : Orderly σ (τ.perfTime q i umode) :=
  .drewN (.foldl (fun _ _ hτ => .perfAdd hτ) (.foldl (fun _ _ hτ => .perfAdd hτ) hτ))

theorem Orderly.perfAll {q : Nat} {i : Note} {es : List Nat} (hτ : Orderly σ τ) : Orderly σ (τ.perfAll q i es) :=
  .forEach hτ (fun _ _ hτ => .perfAdd hτ)

theorem Orderly.trap {q : Nat} {irq : Bool} {cause tval : Nat} (hτ : Orderly σ τ) : Orderly σ (τ.trap q irq cause tval) :=
  .setPc (.modHok (.mstPut (.mstPut (.mstPut (.csrPut (.csrPut (.csrPut hτ)))))))

theorem Orderly.hokEnd {q : Nat} {pre : List Nat} {umode : Bool} {o : XOut} (h : Orderly σ o.state) :
    Orderly σ (τ.hokEnd q pre umode o) := by
  cases o with
  | done υ pc es note => exact .perfTime (.perfAll (.setPc h))
  | trap υ cause tval => exact .perfTime (.perfAll (.trap h))

theorem Orderly.hokWord {q w len : Nat} {pre : List Nat} (h : Orderly σ τ) : Orderly σ (τ.hokWord q w len pre) :=
  .hokEnd (.iteOf XOut.state h.xExec (by split; exacts [h.xExec, h.drew]))

theorem Orderly.hokStep {q : Nat} (h : Orderly σ τ) : Orderly σ (τ.hokStep q) := by
  have hfetch := h.hokFetch (q := q)
  unfold State.hokStep
  split
  next heq => rw [heq] at hfetch; exact .hokWord hfetch
  next heq => rw [heq] at hfetch; exact .hokEnd hfetch

theorem Orderly.freezeUnit {u : Nat} (hτ : Orderly σ τ) : Orderly σ (τ.freezeUnit u) :=
  .ite (.modPwm (.put hτ)) hτ

theorem Orderly.dbgHalt {t : Nat} {bp : Bool} (hτ : Orderly σ τ) : Orderly σ (τ.dbgHalt t bp) :=
  .ite hτ (.after (.after (.raise (.ite (.beside (.refl _)) (.refl _))) (.ite (.beside (.put (.refl _))) (.refl _))) (.modSv (.forEach hτ
    (fun _ _ hτ => .freezeUnit hτ))))

theorem Orderly.hokArrive {q : Nat} (hτ : Orderly σ τ) : Orderly σ (τ.hokArrive q) :=
  .ite (.dbgHalt hτ) hτ

theorem Orderly.hokDo {q : Nat} {k : State → State} (hτ : Orderly σ τ) (hk : ∀ τ, Orderly σ τ → Orderly σ (k τ)) : Orderly σ (τ.hokDo q k)
    :=
  .ite (.hokArrive (hk _ (.modHok hτ))) hτ

theorem Orderly.execHokuonInstruction {q : Fin 2} (hτ : Orderly σ τ) : Runs σ (execHokuonInstruction q τ) :=
  .next (.hokDo hτ (fun _ hτ => .hokStep hτ))

theorem Orderly.execHqSadd {q : Fin 2} {rd rs1 rs2 : Fin 32} (hτ : Orderly σ τ) : Runs σ (execHqSadd q rd rs1 rs2 τ) :=
  .next (.hokDo hτ (fun _ hτ => .hokWord hτ))

theorem Orderly.execHqSsub {q : Fin 2} {rd rs1 rs2 : Fin 32} (hτ : Orderly σ τ) : Runs σ (execHqSsub q rd rs1 rs2 τ) :=
  .next (.hokDo hτ (fun _ hτ => .hokWord hτ))

theorem Orderly.execHqSabs {q : Fin 2} {rd rs1 : Fin 32} (hτ : Orderly σ τ) : Runs σ (execHqSabs q rd rs1 τ) :=
  .next (.hokDo hτ (fun _ hτ => .hokWord hτ))

theorem Orderly.execHqMulq {q : Fin 2} {rd rs1 rs2 : Fin 32} (hτ : Orderly σ τ) : Runs σ (execHqMulq q rd rs1 rs2 τ) :=
  .next (.hokDo hτ (fun _ hτ => .hokWord hτ))

theorem Orderly.execHqMacq {q : Fin 2} {rd rs1 rs2 : Fin 32} (hτ : Orderly σ τ) : Runs σ (execHqMacq q rd rs1 rs2 τ) :=
  .next (.hokDo hτ (fun _ hτ => .hokWord hτ))

theorem Orderly.execHqSshl {q : Fin 2} {rd rs1 rs2 : Fin 32} (hτ : Orderly σ τ) : Runs σ (execHqSshl q rd rs1 rs2 τ) :=
  .next (.hokDo hτ (fun _ hτ => .hokWord hτ))

theorem Orderly.execHqSrar {q : Fin 2} {rd rs1 rs2 : Fin 32} (hτ : Orderly σ τ) : Runs σ (execHqSrar q rd rs1 rs2 τ) :=
  .next (.hokDo hτ (fun _ hτ => .hokWord hτ))

theorem Orderly.execHqSat {q : Fin 2} {rd rs1 n : Fin 32} (hτ : Orderly σ τ) : Runs σ (execHqSat q rd rs1 n τ) :=
  .next (.hokDo hτ (fun _ hτ => .hokWord hτ))

theorem Orderly.hcacheCmd {q : Nat} {v : Word} {ev : Nat} (hτ : Orderly σ τ) : Orderly σ (τ.hcacheCmd q v ev) :=
  .ite hτ (.ite (.perfAdd (.hcacheWrite hτ)) (.hokEnd (.illegal hτ)))

theorem Orderly.execHcacheInvLine {q : Fin 2} {addr : BitVec 32} (hτ : Orderly σ τ) : Runs σ (execHcacheInvLine q addr τ) :=
  .next (.hcacheCmd hτ)

theorem Orderly.execHcacheInvDcache {q : Fin 2} (hτ : Orderly σ τ) : Runs σ (execHcacheInvDcache q τ) :=
  .next (.hcacheCmd hτ)

theorem Orderly.execHcacheInvIcache {q : Fin 2} (hτ : Orderly σ τ) : Runs σ (execHcacheInvIcache q τ) :=
  .next (.hcacheCmd hτ)

theorem Orderly.execHokuonLockstepMismatch {q : Fin 2} (hτ : Orderly σ τ) : Runs σ (execHokuonLockstepMismatch q τ) :=
  .ite (.next (.raise (.modHok hτ))) (.next hτ)

theorem Orderly.execCacheParityError {q : Fin 2} {instr : Bool} {addr : BitVec 32} (hτ : Orderly σ τ) : Runs σ (execCacheParityError q
    instr addr τ) :=
  .ite (.next hτ) (.next (.perfAdd (.modHok hτ)))

theorem Orderly.execHicInterruptTake {q : Fin 2} (hτ : Orderly σ τ) : Runs σ (execHicInterruptTake q τ) :=
  .ite (.next (.hokArrive (.perfAll (.trap hτ)))) (.next hτ)

theorem Orderly.execDoorbell {i : Initiator} {v : Word} (hτ : Orderly σ τ) : Runs σ (execDoorbell i v τ) :=
  .next (.busWrite hτ)

theorem Orderly.execSemAcquire {i : Initiator} {k : Fin 16} (hτ : Orderly σ τ) : Runs σ (execSemAcquire i k τ) :=
  .after (.ite (.next (.perfAdd (.refl _))) (.next (.refl _))) (.answer (.semRead hτ))

theorem Orderly.execSemRelease {i : Initiator} {k : Fin 16} {v : Word} (hτ : Orderly σ τ) : Runs σ (execSemRelease i k v τ) :=
  .next (.busWrite hτ)

theorem Orderly.execPerfCounterRead (_i : Initiator) {k : Fin 4} {e : Fin 96} (hτ : Orderly σ τ) : Runs σ (execPerfCounterRead _i k e τ) :=
  .next (.answer (.perfRead hτ))

theorem Orderly.execPerfCounterClear {i : Initiator} {v : Word} (hτ : Orderly σ τ) : Runs σ (execPerfCounterClear i v τ) :=
  .next (.busWrite hτ)

theorem Orderly.execDomainOnRequest {i : Initiator} {d : Fin 12} (hτ : Orderly σ τ) : Runs σ (execDomainOnRequest i d τ) :=
  .next (.pdWrite hτ)

theorem Orderly.loadGraphs {ps : List Nat} (hτ : Orderly σ τ) : Orderly σ (τ.loadGraphs ps) :=
  .forEach hτ (fun _ _ hτ => .ite (.wrBytes hτ) hτ)

theorem Orderly.pairPowerUp {p : Nat} (hτ : Orderly σ τ) : Orderly σ (τ.pairPowerUp p) :=
  .modLoop (.put (.put hτ))

theorem Orderly.sensPowerUp {grid : Bool} (hτ : Orderly σ τ) : Orderly σ (τ.sensPowerUp grid) :=
  .after (.ite (.refl _) (.monRestart (.refl _))) (.forEach (.modSide hτ) (fun _ _ hτ => .modCh hτ))

theorem Orderly.opInit (hτ : Orderly σ τ) : Orderly σ (τ.opInit) :=
  .opReg (.modRelay hτ)

theorem Orderly.domainFresh {d : Nat} {ok : Bool} (hτ : Orderly σ τ) : Orderly σ (τ.domainFresh d ok) :=
  .ite (.put (.hpbItems (.modHok hτ))) (.ite (.loadGraphs (.forEach hτ (fun _ _ hτ => .pairPowerUp (.memDrop hτ)))) (.ite (.modMeter
    (.resetRange (.memDrop hτ))) (.ite (.sensPowerUp (.forEach (.foldl (fun _ _ hτ => .wr hτ) (.resetRange (.resetRange hτ))) (fun _ _ hτ
    => .wcPend hτ))) (.ite (.forEach (.put (.put (.beside (.resetRange hτ)))) (fun _ _ hτ => .put hτ)) (.ite (.after (.ite (.refl _)
    (.stickyRaise (.refl _))) (.connRefresh (.setConn (.opInit (.put (.beside (.forEach (.forEach (.sensPowerUp (.resetRange hτ)) (fun _ _
    hτ => .wcPend hτ)) (fun _ _ hτ => .put hτ)))))))) (.ite (.resetRange (.memDrop hτ)) hτ))))))

theorem Orderly.domainUp {d : Nat} {ok : Bool} (hτ : Orderly σ τ) : Orderly σ (τ.domainUp d ok) :=
  .after (.noteHolds (.domainFresh (.ite (.put (.refl _)) (.refl _)))) (.put (.put hτ))

theorem Orderly.execDomainPowered {d : Fin 12} {ok : Bool} (hτ : Orderly σ τ) : Runs σ (execDomainPowered d ok τ) :=
  .next (.ite (.domainUp hτ) hτ)

theorem Orderly.execDomainOffRequest {i : Initiator} {d : Fin 12} (hτ : Orderly σ τ) : Runs σ (execDomainOffRequest i d τ) :=
  .next (.pdWrite hτ)

theorem Orderly.execPadRelease (_i : Initiator) {v : Word} (hτ : Orderly σ τ) : Runs σ (execPadRelease _i v τ) :=
  .next (.padRelease hτ)

theorem Orderly.execOpPointWrite (_i : Initiator) {v : Word} (hτ : Orderly σ τ) : Runs σ (execOpPointWrite _i v τ) :=
  .next (.opWriteAll hτ)

theorem Orderly.dvfsVok {d : Nat} (hτ : Orderly σ τ) : Orderly σ (τ.dvfsVok d) :=
  .after (.dvfsNext (.ite (.drew (.perfAdd (.refl _))) (.refl _))) (.dvfsDrop (.put hτ))

theorem Orderly.execDvfsStepDone {k : Fin 4} (hτ : Orderly σ τ) : Runs σ (execDvfsStepDone k τ) :=
  .next (.ite (.dvfsVok hτ) hτ)

theorem Orderly.execDvfsVokTimeout {k : Fin 4} (hτ : Orderly σ τ) : Runs σ (execDvfsVokTimeout k τ) :=
  .next (.ite (.stickyRaise (.dvfsDrop hτ)) hτ)

theorem Orderly.execPlinthColdStart (hτ : Orderly σ τ) : Runs σ (execPlinthColdStart τ) :=
  .ite (.next hτ) (.next (.set1 (.put (.wr (.beside (.resetRange hτ))))))

theorem Orderly.execPlinthDeath (hτ : Orderly σ τ) : Runs σ (execPlinthDeath τ) :=
  .ite (.next (.put (.enterSleep hτ))) (.next hτ)

theorem Orderly.classFlag {f : Fld} {th h : Rat} (hτ : Orderly σ τ) : Orderly σ (τ.classFlag f th h) :=
  .ite (.put hτ) (.ite (.put hτ) hτ)

theorem Orderly.energyFlags {h : Rat} {vin : List Rat} {harvesting : Bool} (hτ : Orderly σ τ) : Orderly σ (τ.energyFlags h vin harvesting)
    := by
  unfold State.energyFlags
  exact .after (.modPlinth (.put (.put (.put (.put (.ite (.put (.refl _)) (.ite (.put (.refl _)) (.refl _)))))))) (.classFlag (.classFlag
    (.classFlag hτ)))

theorem Orderly.vdrvSeen {ok : Bool} (hτ : Orderly σ τ) : Orderly σ (τ.vdrvSeen ok) :=
  .ite hτ (.after (.after (.ite (.pdPursue (.refl _)) (.refl _)) (.ite (.beside (.put (.refl _))) (.refl _))) (.put hτ))

theorem Orderly.plAborted {k : Nat} (hτ : Orderly σ τ) : Orderly σ (τ.plAborted k) :=
  .incSat (.put hτ)

theorem Orderly.xmitAbort (hτ : Orderly σ τ) : Orderly σ (τ.xmitAbort) :=
  .domainOff (.put (.domainOff (.put (.plcAbort hτ))))

theorem Orderly.measEnd (hτ : Orderly σ τ) : Orderly σ (τ.measEnd) :=
  .enterSleep (.ite (.mramEnd hτ) hτ)

theorem Orderly.energyAbort (hτ : Orderly σ τ) : Orderly σ (τ.energyAbort) :=
  .after (.ite (.plAborted (.measEnd (.refl _))) (.ite (.plAborted (.enterSleep (.refl _))) (.refl _))) (.ite (.plAborted (.xmitAbort hτ))
    hτ)

theorem Orderly.execEnergyFlagUpdate {hstore vin0 : Rat} {vin1 vin2 vin3 : Rat} {harvesting vdrv : Bool} (hτ : Orderly σ τ) : Runs σ
    (execEnergyFlagUpdate hstore vin0 vin1 vin2 vin3 harvesting vdrv τ) :=
  .ite (.after (.next (.ite (.energyAbort (.refl _)) (.refl _))) (.energyFlags (.vdrvSeen hτ))) (.next hτ)

theorem Orderly.execSessionTimeout (hτ : Orderly σ τ) : Runs σ (execSessionTimeout τ) :=
  .ite (.next (.set1 (.measEnd hτ))) (.next hτ)

theorem Orderly.execRtcSecond (hτ : Orderly σ τ) : Runs σ (execRtcSecond τ) :=
  .ite (.next (.modPlinth (.wr hτ))) (.next hτ)

theorem Orderly.execPlinthCycRead (_i : Initiator) (hτ : Orderly σ τ) : Runs σ (execPlinthCycRead _i τ) :=
  .next (.answer (.cycRead hτ))

theorem Orderly.enterStore (hτ : Orderly σ τ) : Orderly σ (τ.enterStore) :=
  .plAdmit (.modPlinth (.put hτ))

theorem Orderly.wakeDecide (hτ : Orderly σ τ) : Orderly σ (τ.wakeDecide) :=
  .ite (.plAdmit (.put hτ)) (.ite (.enterStore hτ) (.plRefuse hτ))

theorem Orderly.wakeTake {causes : Nat} (hτ : Orderly σ τ) : Orderly σ (τ.wakeTake causes) :=
  .ite hτ (.wakeDecide (.set1 (.wr hτ)))

theorem Orderly.execPlinthWake (hτ : Orderly σ τ) : Runs σ (execPlinthWake τ) :=
  .ite (.next (.wakeTake (.modPlinth hτ))) (.next hτ)

theorem Orderly.execTwwWakeFrame {addr : Fin 128} (hτ : Orderly σ τ) : Runs σ (execTwwWakeFrame addr τ) :=
  .after (.ite (.next (.refl _)) (.ite (.next (.wakeTake (.refl _))) (.next (.set1 (.wr (.refl _)))))) (.beside hτ)

theorem Orderly.execTwwStatusRead {addr : Fin 128} (hτ : Orderly σ τ) : Runs σ (execTwwStatusRead addr τ) :=
  .next (.beside hτ)

theorem Orderly.execPlinthSleep {i : Initiator} {v : Word} (hτ : Orderly σ τ) : Runs σ (execPlinthSleep i v τ) :=
  .next (.sleepWrite hτ)

theorem Orderly.execPlinthStartRequest (_i : Initiator) (hτ : Orderly σ τ) : Runs σ (execPlinthStartRequest _i τ) :=
  .next (.startRequest hτ)

theorem Orderly.execBuckBGood (hτ : Orderly σ τ) : Runs σ (execBuckBGood τ) :=
  .ite (.after (.next (.ite (.put (.put (.refl _))) (.refl _))) (.put hτ)) (.next hτ)

theorem Orderly.execPowerFailWarning (hτ : Orderly σ τ) : Runs σ (execPowerFailWarning τ) :=
  .ite (.next (.meterWarn (.set1 (.put hτ)))) (.next hτ)

theorem Orderly.meterRestore (hτ : Orderly σ τ) : Orderly σ (τ.meterRestore) := by
  unfold State.meterRestore
  split
  · exact .modMeter hτ
  · exact hτ

theorem Orderly.execPowerFailRestore (hτ : Orderly σ τ) : Runs σ (execPowerFailRestore τ) :=
  .ite (.next (.meterRestore (.set1 (.put hτ)))) (.next hτ)

theorem Orderly.pd2Low (hτ : Orderly σ τ) : Orderly σ (τ.pd2Low) :=
  .after (.ite (.dvfsNext (.dvfsDrop (.refl _))) (.dvfsNext (.refl _))) (.put hτ)

theorem Orderly.buckToStore (hτ : Orderly σ τ) : Orderly σ (τ.buckToStore) :=
  .pd2Low (.enterStore (.padHold (.padHold (.forEach (.put (.put hτ)) (fun _ _ hτ => .domainOff (.put hτ))))))

theorem Orderly.execBuckAStop (hτ : Orderly σ τ) : Runs σ (execBuckAStop τ) :=
  .ite (.next (.ite (.buckToStore hτ) (.enterSleep hτ))) (.next hτ)

theorem Orderly.svServe {ch op : Nat} {k : State → SvRes} (hτ : Orderly σ τ) (hk : ∀ τ, Orderly σ τ → Orderly σ (k τ).1) : Orderly σ
    (τ.svServe ch op k) := by
  refine .ite hτ ?_
  split
  · exact .svServed hτ
  · exact .svServed (hk _ (.svKeep hτ))

theorem Orderly.execSvGetInfo {q : Fin 2} (hτ : Orderly σ τ) : Runs σ (execSvGetInfo q τ) :=
  .next (.svServe hτ (fun _ hτ => .drewN hτ))

theorem Orderly.execSvGetDevidCert {q : Fin 2} (hτ : Orderly σ τ) : Runs σ (execSvGetDevidCert q τ) :=
  .next (.svServe hτ (fun _ hτ => hτ))

theorem Orderly.svAttest {nonce : List Byte} (hτ : Orderly σ τ) : Orderly σ (τ.svAttest nonce).1 :=
  .iteOf Prod.fst hτ (.iteOf Prod.fst hτ hτ)

theorem Orderly.execSvAttest {q : Fin 2} {nonce : List Byte} (hτ : Orderly σ τ) : Runs σ (execSvAttest q nonce τ) :=
  .next (.svServe hτ (fun _ hτ => .svAttest hτ))

theorem Orderly.pmExtend {i : Nat} {d : List Byte} (hτ : Orderly σ τ) : Orderly σ (τ.pmExtend i d) :=
  .modSv hτ

theorem Orderly.measure {ty pm : Nat} {d : List Byte} {bad : Nat} (hτ : Orderly σ τ) : Orderly σ (τ.measure ty pm d bad) :=
  .logWrite (.pmExtend hτ)

theorem Orderly.svExtend {q pm : Nat} {d : List Byte} {bad : Nat} (hτ : Orderly σ τ) : Orderly σ (τ.svExtend q pm d bad).1 :=
  .iteOf Prod.fst hτ (.iteOf Prod.fst (.measure hτ) hτ)

theorem Orderly.execSvExtend {q : Fin 2} {pm : Nat} {digest : List Byte} {bad : Nat} (hτ : Orderly σ τ) : Runs σ (execSvExtend q pm digest
    bad τ) :=
  .next (.svServe hτ (fun _ hτ => .svExtend hτ))

theorem Orderly.execSvReadPm {q : Fin 2} (hτ : Orderly σ τ) : Runs σ (execSvReadPm q τ) :=
  .next (.svServe hτ (fun _ hτ => hτ))

theorem Orderly.execSvRandom {q : Fin 2} {n : Nat} (hτ : Orderly σ τ) : Runs σ (execSvRandom q n τ) :=
  .next (.svServe hτ (fun _ hτ => .iteOf Prod.fst hτ (.drewN hτ)))

theorem Orderly.authTake {rcd : List Byte} {code : Nat} (hτ : Orderly σ τ) : Orderly σ (τ.authTake rcd code) :=
  .ite (.modSv hτ) (.ite (.set1 hτ) (.set1 hτ))

theorem Orderly.svVerify {rcd : List Byte} {op : Nat} {args : List Byte} (hτ : Orderly σ τ) : Orderly σ (τ.svVerify rcd op args).1 :=
  .authTake hτ

theorem Orderly.execSvVerifyAuth {q : Fin 2} {rcd : List Byte} {op : Nat} {args : List Byte} (hτ : Orderly σ τ) : Runs σ (execSvVerifyAuth
    q rcd op args τ) :=
  .next (.svServe hτ (fun _ hτ => .svVerify hτ))

theorem Orderly.stageBegin {kind slot : Nat} (hτ : Orderly σ τ) : Orderly σ (τ.stageBegin kind slot).1 := by
  unfold State.stageBegin
  refine .iteOf Prod.fst hτ (.iteOf Prod.fst hτ (.iteOf Prod.fst (.put hτ) (.iteOf Prod.fst (.maintRequest (.maintBefore hτ)) ?_)))
  dsimp only
  exact .modSv (.put (.ite (.put (.ite (.put hτ) (.put hτ))) (.ite (.put hτ) (.put hτ))))

theorem Orderly.execSvStageBegin {q : Fin 2} {kind slot : Nat} (hτ : Orderly σ τ) : Runs σ (execSvStageBegin q kind slot τ) :=
  .next (.svServe hτ (fun _ hτ => .stageBegin hτ))

theorem Orderly.stageData {off : Nat} {data : List Byte} (hτ : Orderly σ τ) : Orderly σ (τ.stageData off data).1 := by
  unfold State.stageData
  split
  · exact hτ
  · refine .iteOf Prod.fst hτ (.iteOf Prod.fst hτ (.iteOf Prod.fst (.maintRequest (.maintBefore hτ)) ?_))
    dsimp only
    exact .modSv (.maintRequest (.maintBefore hτ))

theorem Orderly.execSvStageData {q : Fin 2} {off : Nat} {data : List Byte} (hτ : Orderly σ τ) : Runs σ (execSvStageData q off data τ) :=
  .next (.svServe hτ (fun _ hτ => .stageData hτ))

/-- The end of a staging session, or an answer in its place while a write runs. -/
theorem Orderly.stageEnd_getD {x : SvRes} (h : Orderly σ τ) (hx : Orderly σ x.1) : Orderly σ (τ.stageEnd.getD x).1 := by
  unfold State.stageEnd
  split
  · exact h
  · split
    · exact hx
    · exact h.stageVerify

theorem Orderly.execSvStageEnd {q : Fin 2} (h : Orderly σ τ) : Runs σ (execSvStageEnd q τ) :=
  .ite (.next (.modSv h)) (.next (.svServe h fun _ h => .stageEnd_getD h h))

theorem Orderly.svSelect {kind slot : Nat} (hτ : Orderly σ τ) : Orderly σ (τ.svSelect kind slot).1 :=
  .iteOf Prod.fst hτ (.iteOf Prod.fst (.put hτ) hτ)

theorem Orderly.execSvSelect {q : Fin 2} {kind slot : Nat} (hτ : Orderly σ τ) : Runs σ (execSvSelect q kind slot τ) :=
  .next (.svServe hτ (fun _ hτ => .svSelect hτ))

theorem Orderly.svConfirm {kind bad : Nat} (hτ : Orderly σ τ) : Orderly σ (τ.svConfirm kind bad).1 :=
  .iteOf Prod.fst hτ (.iteOf Prod.fst hτ (.drewN (.logWrite (.svShow (.modSv hτ)))))

theorem Orderly.execSvConfirm {q : Fin 2} {kind bad : Nat} (hτ : Orderly σ τ) : Runs σ (execSvConfirm q kind bad τ) :=
  .next (.svServe hτ (fun _ hτ => .svConfirm hτ))

theorem Orderly.withAuth {rcd : List Byte} {op : Nat} {args : List Byte} {may : Nat → Bool} {k : State → SvRes} (hτ : Orderly σ τ) (hk : ∀
    τ, Orderly σ τ → Orderly σ (k τ).1) : Orderly σ (τ.withAuth rcd op args may k).1 :=
  .iteOf Prod.fst hτ (.iteOf Prod.fst (hk _ (.authTake hτ)) (.authTake hτ))

theorem Orderly.svEnroll {slot : Nat} {key : List Byte} {auth : Option (List Byte)} {bad : Nat} (hτ : Orderly σ τ) : Orderly σ (τ.svEnroll
    slot key auth bad).1 := by
  refine .iteOf Prod.fst hτ (.iteOf Prod.fst hτ (.iteOf Prod.fst (.drewN (.measure (.svShow (.modSv hτ)))) ?_))
  split
  · exact .set1 hτ
  · exact .withAuth hτ (fun _ hτ => .drewN (.measure (.svShow (.modSv hτ))))

theorem Orderly.execSvOwnerEnroll {q : Fin 2} {slot : Nat} {key : List Byte} {auth : Option (List Byte)} {bad : Nat} (hτ : Orderly σ τ) :
    Runs σ (execSvOwnerEnroll q slot key auth bad τ) :=
  .next (.svServe hτ (fun _ hτ => .svEnroll hτ))

theorem Orderly.svRevoke {slot : Nat} {auth : List Byte} {bad : Nat} (hτ : Orderly σ τ) : Orderly σ (τ.svRevoke slot auth bad).1 :=
  .iteOf Prod.fst hτ (.withAuth hτ (fun _ hτ => .drewN (.measure (.svShow (.modSv hτ)))))

theorem Orderly.execSvOwnerRevoke {q : Fin 2} {slot : Nat} {auth : List Byte} {bad : Nat} (hτ : Orderly σ τ) : Runs σ (execSvOwnerRevoke q
    slot auth bad τ) :=
  .next (.svServe hτ (fun _ hτ => .svRevoke hτ))

theorem Orderly.svStrict {auth : List Byte} {bad : Nat} (hτ : Orderly σ τ) : Orderly σ (τ.svStrict auth bad).1 :=
  .withAuth hτ (fun _ hτ => .drewN (.measure (.svShow (.modSv hτ))))

theorem Orderly.execSvSetAppStrict {q : Fin 2} {auth : List Byte} {bad : Nat} (hτ : Orderly σ τ) : Runs σ (execSvSetAppStrict q auth bad
    τ) :=
  .next (.svServe hτ (fun _ hτ => .svStrict hτ))

theorem Orderly.svPermit {auth args : List Byte} {bad : Nat} (hτ : Orderly σ τ) : Orderly σ (τ.svPermit auth args bad).1 :=
  .iteOf Prod.fst hτ (.iteOf Prod.fst hτ (.withAuth hτ (fun _ hτ => .after (.ite (.dbgRelease (.refl _)) (.refl _)) (.modSv (.put
    (.measure hτ))))))

theorem Orderly.execSvDebugPermit {ch : Fin 3} {auth args : List Byte} {bad : Nat} (hτ : Orderly σ τ) : Runs σ (execSvDebugPermit ch auth
    args bad τ) :=
  .next (.svServe hτ (fun _ hτ => .svPermit hτ))

theorem Orderly.execSvPermitEnd {ch : Fin 3} (hτ : Orderly σ τ) : Runs σ (execSvPermitEnd ch τ) :=
  .next (.svServe hτ (fun _ hτ => .dbgPermitEnd hτ))

theorem Orderly.svComplete {ch : Nat} (hτ : Orderly σ τ) : Orderly σ (τ.svComplete ch) :=
  .ite hτ (.after (.ite (.wrBytes (.put (.put (.put (.put (.refl _)))))) (.beside (.refl _))) (.modSv hτ))

theorem Orderly.execSvCmdComplete {ch : Fin 3} (hτ : Orderly σ τ) : Runs σ (execSvCmdComplete ch τ) :=
  .next (.svComplete hτ)

theorem Orderly.foyerOn {d : Nat} (hτ : Orderly σ τ) : Orderly σ (τ.foyerOn d) :=
  .after (.ite (.refl _) (.put (.refl _))) (.put hτ)

theorem Orderly.enterFoyer {cause detail : Nat} (hτ : Orderly σ τ) : Orderly σ (τ.enterFoyer cause detail) :=
  .after (.eventSend (.beside (.drew (.modHok (.modSv (.pd2Low (.ite (.foyerOn (.refl _)) (.refl _)))))))) (.foyerOn (.forEach
    (.outputsSafe (.put (.put (.wcTestAbort (.put (.put (.put (.put (.put hτ))))))))) (fun _ _ hτ => .domainOff (.put hτ))))

theorem Orderly.bootFail {cause code : Nat} {hdr : List Byte} {bad : Nat} (hτ : Orderly σ τ) : Orderly σ (τ.bootFail cause code hdr bad) :=
  .enterFoyer (.logWrite hτ)

theorem Orderly.bootFw {bad : Nat} (hτ : Orderly σ τ) : Orderly σ (τ.bootFw bad) := by
  unfold State.bootFw
  dsimp only
  exact .after (.ite (.bootFail (.refl _)) (.measure (.modSv (.put (.refl _))))) (.put hτ)

theorem Orderly.planDomains (hτ : Orderly σ τ) : Orderly σ (τ.planDomains) := by
  unfold State.planDomains
  dsimp only
  exact .after (.modStart (.ite (.pd2Low (.refl _)) (.forEach (.refl _) (fun _ _ hτ => .dvfsNext hτ)))) (.forEach (.ite (.set1 hτ) hτ)
    (fun _ _ hτ => .ite (.ite (.pdPursue hτ) (.put hτ)) (.ite (.domainOff hτ) hτ)))

theorem Orderly.imgApply {im : Image} (hτ : Orderly σ τ) : Orderly σ (τ.imgApply im) :=
  .loadGraphs (.putAll (.beside hτ))

theorem Orderly.bootImg {bad : Nat} (hτ : Orderly σ τ) : Orderly σ (τ.bootImg bad) := by
  unfold State.bootImg
  dsimp only
  exact .ite (.bootFail (.put hτ)) (.modSv (.planDomains (.imgApply (.measure (.put hτ)))))

theorem Orderly.bootApp {bad : Nat} (hτ : Orderly σ τ) : Orderly σ (τ.bootApp bad) := by
  unfold State.bootApp
  dsimp only
  exact .ite (.modSv (.put hτ)) (.ite (.bootFail (.put (.put hτ))) (.measure (.modSv (.put hτ))))

theorem Orderly.bootStep {bad : Nat} (hτ : Orderly σ τ) : Orderly σ (τ.bootStep bad) := by
  unfold State.bootStep
  split
  · exact .drewN (.logWrite (.modSv hτ))
  · exact .measure (.modSv hτ)
  · exact .measure (.modSv hτ)
  · exact .modSv (.set1 hτ)
  · exact .bootFw hτ
  · exact .bootImg hτ
  · exact .bootApp hτ
  · exact hτ

theorem Orderly.execBootStep {bad : Nat} (hτ : Orderly σ τ) : Runs σ (execBootStep bad τ) :=
  .ite (.next (.bootStep hτ)) (.next hτ)

theorem Orderly.execSvauthFaultDetect (hτ : Orderly σ τ) : Runs σ (execSvauthFaultDetect τ) :=
  .ite (.next hτ) (.after (.next (.ite (.enterFoyer (.refl _)) (.refl _))) (.raise hτ))

theorem Orderly.execDebugPermitExpire (hτ : Orderly σ τ) : Runs σ (execDebugPermitExpire τ) :=
  .ite (.next (.dbgPermitEnd hτ)) (.next hτ)

theorem Orderly.execTestModeLow (hτ : Orderly σ τ) : Runs σ (execTestModeLow τ) :=
  .after (.ite (.next (.dbgPermitEnd (.refl _))) (.next (.refl _))) (.beside hτ)

theorem Orderly.docSay {ack : Nat} {w : Word} (hτ : Orderly σ τ) : Orderly σ (τ.docSay ack w) :=
  .beside hτ

theorem Orderly.docReq {op addr data : Nat} {wait : Bool} {k : State → DocAns} (hτ : Orderly σ τ) (hk : ∀ τ, Orderly σ τ → Orderly σ (k
    τ).1) : Orderly σ (τ.docReq op addr data wait k) := by
  refine .ite hτ ?_
  split
  · exact .docSay (.modSv hτ)
  · exact .ite (.docSay (.modSv (hk _ (.modSv hτ)))) (.docSay (hk _ (.modSv hτ)))

theorem Orderly.execDocStatus (hτ : Orderly σ τ) : Runs σ (execDocStatus τ) :=
  .next (.docReq hτ (fun _ hτ => hτ))

theorem Orderly.execDocIdcode (hτ : Orderly σ τ) : Runs σ (execDocIdcode τ) :=
  .next (.docReq hτ (fun _ hτ => hτ))

theorem Orderly.wordAt {a : Nat} (hτ : Orderly σ τ) : Orderly σ (τ.wordAt a).1 := by
  unfold State.wordAt
  split
  · exact .regRead hτ
  · exact hτ
  · exact .iteOf Prod.fst (.drew hτ) hτ
  · exact .iteOf Prod.fst (.eccFound hτ) hτ

theorem Orderly.docFault (hτ : Orderly σ τ) : Orderly σ (docFault τ).1 :=
  hτ

theorem Orderly.docNeed {level : Nat} {k : State → DocAns} (hτ : Orderly σ τ) (hk : ∀ τ, Orderly σ τ → Orderly σ (k τ).1) : Orderly σ
    (τ.docNeed level k).1 :=
  .iteOf Prod.fst hτ (hk _ hτ)

theorem Orderly.docRead {addr : Nat} (hτ : Orderly σ τ) : Orderly σ (τ.docRead addr).1 :=
  .docNeed hτ (fun _ hτ => .iteOf Prod.fst (.wordAt hτ) (.docFault hτ))

theorem Orderly.execDocRead {addr : BitVec 32} {wait : Bool} (hτ : Orderly σ τ) : Runs σ (execDocRead addr wait τ) :=
  .next (.docReq hτ (fun _ hτ => .docRead hτ))

theorem Orderly.docWrite {addr : Nat} {v : Word} (hτ : Orderly σ τ) : Orderly σ (τ.docWrite addr v).1 :=
  .docNeed hτ (fun _ hτ => .iteOf Prod.fst (.wordPut hτ) (.docFault hτ))

theorem Orderly.execDocWrite {addr : BitVec 32} {v : Word} {wait : Bool} (hτ : Orderly σ τ) : Runs σ (execDocWrite addr v wait τ) :=
  .next (.docReq hτ (fun _ hτ => .docWrite hτ))

theorem Orderly.docHalt {t : Nat} (hτ : Orderly σ τ) : Orderly σ (τ.docHalt t).1 :=
  .docNeed hτ (fun _ hτ => .iteOf Prod.fst (.docFault hτ) (.dbgHalt hτ))

theorem Orderly.execDocHalt {t : Fin 16} (hτ : Orderly σ τ) : Runs σ (execDocHalt t τ) :=
  .next (.docReq hτ (fun _ hτ => .iteOf Prod.fst (.docFault hτ) (.docHalt hτ)))

theorem Orderly.execDocResume {t : Fin 16} (hτ : Orderly σ τ) : Runs σ (execDocResume t τ) :=
  .next (.docReq hτ (fun _ hτ => .iteOf Prod.fst (.docFault hτ) (.docNeed hτ (fun _ hτ => .dbgResume hτ))))

theorem Orderly.docHalted {t : Nat} {k : State → DocAns} (hτ : Orderly σ τ) (hk : ∀ τ, Orderly σ τ → Orderly σ (k τ).1) : Orderly σ
    (τ.docHalted t k).1 :=
  .iteOf Prod.fst (.docFault hτ) (.docNeed hτ (fun _ hτ => .iteOf Prod.fst (hk _ hτ) (.docFault hτ)))

theorem Orderly.execDocStep {t : Fin 16} (hτ : Orderly σ τ) : Runs σ (execDocStep t τ) :=
  .next (.docReq hτ ((fun _ hτ => .docHalted hτ (fun _ hτ => (.hokStep (.modHok hτ))))))

theorem Orderly.execDocRegRead {t : Fin 16} {n : BitVec 32} (hτ : Orderly σ τ) : Runs σ (execDocRegRead t n τ) := by
  refine .next (.docReq hτ (fun _ hτ => .docHalted hτ (fun _ hτ => ?_)))
  split
  · exact hτ
  · exact .docFault hτ

theorem Orderly.docRegPut {q n : Nat} {v : Word} (hτ : Orderly σ τ) : Orderly σ (τ.docRegPut q n v).1 := by
  unfold State.docRegPut
  split
  · exact .setX hτ
  · split
    · exact .setF hτ
    · split
      · exact .setPc hτ
      · split
        · dsimp only
          exact .csrWrite hτ
        · exact .docFault hτ

theorem Orderly.execDocRegWrite {t : Fin 16} {n : BitVec 32} {v : Word} (hτ : Orderly σ τ) : Runs σ (execDocRegWrite t n v τ) :=
  .next (.docReq hτ (fun _ hτ => .docHalted hτ (fun _ hτ => .docRegPut hτ)))

theorem Orderly.docBp {t data : Nat} {k : State → State} (hτ : Orderly σ τ) (hk : ∀ τ, Orderly σ τ → Orderly σ (k τ)) : Orderly σ (τ.docBp
    t data k).1 :=
  .iteOf Prod.fst (.docFault hτ) (.docNeed hτ (fun _ hτ => .iteOf Prod.fst (hk _ hτ) (.docFault hτ)))

theorem Orderly.execDocBpSet {t : Fin 16} {addr data : BitVec 32} (hτ : Orderly σ τ) : Runs σ (execDocBpSet t addr data τ) :=
  .next (.docReq hτ (fun _ hτ => .docBp hτ (fun _ hτ => .modHok hτ)))

theorem Orderly.execDocBpClear {t : Fin 16} {data : BitVec 32} (hτ : Orderly σ τ) : Runs σ (execDocBpClear t data τ) :=
  .next (.docReq hτ (fun _ hτ => .docBp hτ (fun _ hτ => .modHok hτ)))

theorem Orderly.execDocCrcError (hτ : Orderly σ τ) : Runs σ (execDocCrcError τ) :=
  .ite (.next (.modSv hτ)) (.next hτ)

theorem Orderly.h2dPut {bs : List Byte} {doc : Bool} (hτ : Orderly σ τ) : Orderly σ (τ.h2dPut bs doc) :=
  .ite (.set1 hτ) (.put (.put (.wr (.wrBytes hτ))))

theorem Orderly.execSvcCourierFrame {bytes : List Byte} (hτ : Orderly σ τ) : Runs σ (execSvcCourierFrame bytes τ) :=
  .ite (.next (.h2dPut hτ)) (.next hτ)

theorem Orderly.execSvcPermitFrame (hτ : Orderly σ τ) : Runs σ (execSvcPermitFrame τ) :=
  .ite (.next (.svPost hτ)) (.next hτ)

theorem Orderly.execSvcPermitEndFrame (hτ : Orderly σ τ) : Runs σ (execSvcPermitEndFrame τ) :=
  .ite (.next (.svPost hτ)) (.next hτ)

theorem Orderly.execSvcBadFrame (hτ : Orderly σ τ) : Runs σ (execSvcBadFrame τ) :=
  .ite (.next (.modSv hτ)) (.next hτ)

theorem Orderly.execPowerUpReset {testMode : Bool} (hτ : Orderly σ τ) : Runs σ (execPowerUpReset testMode τ) :=
  .ite (.next (.beside (.put (.modPlinth (.put (.set1 (.wr (.wr (.volatileReset hτ))))))))) (.next hτ)

theorem Orderly.execResetPin {ns : Nat} {still : Bool} (hτ : Orderly σ τ) : Runs σ (execResetPin ns still τ) :=
  .ite (.next hτ) (.after (.next (.ite (.sysAssert (.set1 (.refl _))) (.refl _))) (.modStart (.ite (.drew hτ) hτ)))

theorem Orderly.execSysResetSystem {i : Initiator} (hτ : Orderly σ τ) : Runs σ (execSysResetSystem i τ) :=
  .next (.resetWrite hτ)

theorem Orderly.execSysResetHpb {i : Initiator} (hτ : Orderly σ τ) : Runs σ (execSysResetHpb i τ) :=
  .next (.resetWrite hτ)

theorem Orderly.execSysResetFoyer {i : Initiator} (hτ : Orderly σ τ) : Runs σ (execSysResetFoyer i τ) :=
  .next (.resetWrite hτ)

theorem Orderly.execWatchdogExpire (hτ : Orderly σ τ) : Runs σ (execWatchdogExpire τ) :=
  .ite (.next (.sysAssert (.set1 hτ))) (.next hτ)

theorem Orderly.execWatchdogKick {i : Initiator} {v : Word} (hτ : Orderly σ τ) : Runs σ (execWatchdogKick i v τ) :=
  .next (.wdtKick hτ)

theorem Orderly.wdRestart (hτ : Orderly σ τ) : Orderly σ (τ.wdRestart) :=
  .forEach (.forEach (.modWarden (.put hτ)) (fun _ _ hτ => .foldl (fun _ _ hτ => .modWdCh hτ) (.put (.put (.put hτ))))) (fun _ _ hτ =>
    .put hτ)

theorem Orderly.p4Begin (hτ : Orderly σ τ) : Orderly σ (τ.p4Begin) :=
  .noteHolds (.forEach (.wdRestart (.put hτ)) (fun _ _ hτ => .wcPend hτ))

theorem Orderly.keepRegs {keep : Nat → Bool} (h : Orderly σ τ) : Orderly σ (keepRegs υ keep τ) :=
  .foldl (fun _ _ h => .wr h) (h.update rfl (SMap.wf_filter _ _) id id id)

/-- The registers of τ with the memory of σ and a part of its shadows. -/
theorem Orderly.restore (q : Nat × Shadow → Bool) (h : Orderly σ τ) (hr : υ.regs = τ.regs) (hm : υ.mem = σ.mem)
    (he : υ.ecc = σ.ecc) (hs : υ.shadow = σ.shadow.filter q) (hp : υ.pending = τ.pending) : Orderly σ υ := by
  refine ⟨hp.trans h.pending, fun c => ?_⟩
  obtain ⟨-, cm, ce, cs⟩ := σ.canonical_iff.mp c
  obtain ⟨cr, -⟩ := τ.canonical_iff.mp (h.canonical c)
  exact υ.canonical_iff.mpr ⟨hr ▸ cr, hm ▸ cm, he ▸ ce, hs ▸ SMap.wf_filter _ _ cs⟩

theorem Orderly.blocksReset (h : Orderly σ τ) : Orderly σ τ.blocksReset :=
  .after (.p4Begin (.restore _ (.put (.put (.put (.keepRegs (.volatileReset (.refl τ)))))) rfl rfl rfl rfl rfl)) h

theorem Orderly.execResetRelease (hτ : Orderly σ τ) : Runs σ (execResetRelease τ) := by
  unfold Machine.execResetRelease
  split
  · exact .ite (.next (.blocksReset hτ)) (.next hτ)
  · exact .next hτ

theorem Orderly.p7Begin (hτ : Orderly σ τ) : Orderly σ (τ.p7Begin) :=
  .after (.after (.ite (.calStart (.refl _)) (.refl _)) (.ite (.calStart (.refl _)) (.refl _))) (.put hτ)

theorem Orderly.p7Next (hτ : Orderly σ τ) : Orderly σ (τ.p7Next) := by
  refine .ite hτ (.ite ?_ ?_)
  · split
    · exact .enterFoyer hτ
    · exact .wcTestQueue (.modStart hτ)
  · split
    · exact .enterFoyer hτ
    · exact .modStart (.put (.ite (.set1 hτ) hτ))

theorem Orderly.release (hτ : Orderly σ τ) : Orderly σ (τ.release) :=
  .ite (.enterFoyer hτ) (.beside (.modSv (.modHok (.wr (.put (.put hτ))))))

theorem Orderly.phaseEnd (hτ : Orderly σ τ) : Orderly σ (τ.phaseEnd) := by
  unfold State.phaseEnd
  split
  · exact .put (.put (.put (.put (.put (.put (.put hτ))))))
  · exact .ite hτ (.put hτ)
  · exact .p4Begin hτ
  · exact .modSv (.put hτ)
  · exact .ite (.put hτ) hτ
  · exact .ite (.p7Begin hτ) hτ
  · exact .p7Next hτ
  · exact .release hτ
  · exact hτ

theorem Orderly.execStartupPhaseEnd {fail : Bool} {which detail : Nat} (hτ : Orderly σ τ) : Runs σ (execStartupPhaseEnd fail which detail
    τ) := by
  refine .ite (.next hτ) (.ite ?_ (.next (.phaseEnd hτ)))
  split
  · exact .next (.enterFoyer hτ)
  · exact .next hτ

theorem Orderly.execSupplyStartTimeout (hτ : Orderly σ τ) : Runs σ (execSupplyStartTimeout τ) :=
  .ite (.next (.put (.enterSleep hτ))) (.next hτ)

theorem Orderly.execVisoArrive (hτ : Orderly σ τ) : Runs σ (execVisoArrive τ) :=
  .ite (.next hτ) (.after (.next (.lateNext (.ite (.foyerOn (.refl _)) (.ite (.pdPursue (.refl _)) (.refl _))))) (.railBack hτ))

theorem Orderly.execBarrierCalTimeout (hτ : Orderly σ τ) : Runs σ (execBarrierCalTimeout τ) := by
  unfold Machine.execBarrierCalTimeout
  split
  · exact .ite (.next (.enterFoyer hτ)) (.next hτ)
  · exact .next hτ

theorem Orderly.execHpbRelease {i : Initiator} (hτ : Orderly σ τ) : Runs σ (execHpbRelease i τ) :=
  .next (.coreCtrlWrite hτ)

theorem Orderly.courSend {h : MsgHdr} {bs : List Byte} (hτ : Orderly σ τ) : Orderly σ (τ.courSend h bs) :=
  .after (.ite (.plcQueue (.refl _)) (.refl _)) (.beside (.put hτ))

theorem Orderly.courKeep {h : MsgHdr} {bs : List Byte} (hτ : Orderly σ τ) : Orderly σ (τ.courKeep h bs) :=
  .modCour hτ

theorem Orderly.courTake {ty : Nat} {h : MsgHdr} {k : State → CourAns} (hτ : Orderly σ τ)
    (hk : ∀ τ, Orderly σ τ → Orderly σ (k τ).1) : Orderly σ (τ.courTake ty h k) := by
  refine .ite hτ ?_
  dsimp only
  split
  · exact .ite (.put hτ) (.courSend (.put hτ))
  · exact .ite (.courKeep (hk _ (.put hτ))) (.courKeep (.courSend (hk _ (.put hτ))))

theorem Orderly.execCourierInfo {h : MsgHdr} {p : List Byte} (hτ : Orderly σ τ) : Runs σ (execCourierInfo h p τ) := by
  refine .next (.courTake hτ fun _ hτ => .iteOf Prod.fst hτ (.iteOf Prod.fst ?_ hτ))
  dsimp only
  exact .modCour (.drew hτ)

theorem Orderly.hostRead {addr : Nat} (hτ : Orderly σ τ) : Orderly σ (τ.hostRead addr).1 :=
  .iteOf Prod.fst (.wordAt hτ) (.accessSet hτ)

theorem Orderly.readRun {a n : Nat} (hτ : Orderly σ τ) : Orderly σ (τ.readRun a n).1 :=
  .foldlFst (fun _ _ hτ => .hostRead hτ) hτ

theorem Orderly.courRead {p : List Byte} (hτ : Orderly σ τ) : Orderly σ (τ.courRead p).1 :=
  .iteOf Prod.fst hτ (.readRun hτ)

theorem Orderly.execCourierRead {h : MsgHdr} {p : List Byte} (hτ : Orderly σ τ) : Runs σ (execCourierRead h p τ) :=
  .next (.courTake hτ (fun _ hτ => .courRead hτ))

theorem Orderly.courEntry {x : WriteRun} {e : List Byte} (h : Orderly σ x.1) : Orderly σ (State.courEntry x e).1 := h.hostWrite

theorem Orderly.courWrite {p : List Byte} (hτ : Orderly σ τ) : Orderly σ (τ.courWrite p).1 :=
  .iteOf Prod.fst hτ (.foldlFst (fun _ _ hτ => .courEntry hτ) hτ)

theorem Orderly.courAuth {ty : Nat} {h : MsgHdr} {p : List Byte} {k : State → List Byte → CourAns} (hτ : Orderly σ τ) (hk : ∀ τ x1,
    Orderly σ τ → Orderly σ (k τ x1).1) : Orderly σ (τ.courAuth ty h p k).1 :=
  .iteOf Prod.fst hτ (.iteOf Prod.fst hτ (.iteOf Prod.fst (hk _ _ (.authTake hτ)) (.authTake hτ)))

theorem Orderly.courNoFoyer {k : State → CourAns} (hτ : Orderly σ τ) (hk : ∀ τ, Orderly σ τ → Orderly σ (k τ).1) : Orderly σ
    (τ.courNoFoyer k).1 :=
  .iteOf Prod.fst hτ (hk _ hτ)

theorem Orderly.execCourierWrite {h : MsgHdr} {p : List Byte} (hτ : Orderly σ τ) : Runs σ (execCourierWrite h p τ) :=
  .next (.courTake hτ (fun _ hτ => .courNoFoyer hτ ((fun _ hτ => .courAuth hτ (fun _ _ hτ => .courWrite hτ)))))

theorem Orderly.courOf {x : SvRes} (h : Orderly σ x.1) : Orderly σ (courOf x).1 := h

theorem Orderly.courSv {k : State → CourAns} (hτ : Orderly σ τ) (hk : ∀ τ, Orderly σ τ → Orderly σ (k τ).1) : Orderly σ (τ.courSv k).1 :=
  .iteOf Prod.fst hτ (hk _ hτ)

theorem Orderly.execCourierAttest {h : MsgHdr} {p : List Byte} (hτ : Orderly σ τ) : Runs σ (execCourierAttest h p τ) :=
  .next (.courTake hτ (fun _ hτ => .courSv hτ ((fun _ hτ => .courOf (.svAttest hτ)))))

theorem Orderly.execCourierDevidCert {h : MsgHdr} {p : List Byte} (hτ : Orderly σ τ) : Runs σ (execCourierDevidCert h p τ) :=
  .next (.courTake hτ (fun _ hτ => .iteOf Prod.fst hτ (.courSv hτ (fun _ hτ => hτ))))

theorem Orderly.courLog {p : List Byte} (hτ : Orderly σ τ) : Orderly σ (τ.courLog p).1 :=
  .iteOf Prod.fst hτ hτ

theorem Orderly.execCourierLogRead {h : MsgHdr} {p : List Byte} (hτ : Orderly σ τ) : Runs σ (execCourierLogRead h p τ) :=
  .next (.courTake hτ (fun _ hτ => .courLog hτ))

theorem Orderly.courMeter (hτ : Orderly σ τ) : Orderly σ (τ.courMeter).1 :=
  Orderly.foldlFst (r := (τ, [])) (fun _ _ hτ => .totRead hτ) hτ

theorem Orderly.execCourierMeterRead {h : MsgHdr} {p : List Byte} (hτ : Orderly σ τ) : Runs σ (execCourierMeterRead h p τ) :=
  .next (.courTake hτ (fun _ hτ => .courNoFoyer hτ ((fun _ hτ => .iteOf Prod.fst hτ (.courMeter hτ)))))

theorem Orderly.execCourierReset {h : MsgHdr} {p : List Byte} (hτ : Orderly σ τ) : Runs σ (execCourierReset h p τ) := by
  refine .next (.courTake hτ fun _ hτ => .courAuth hτ fun _ _ hτ => .iteOf Prod.fst ?_ hτ)
  dsimp only
  exact .modCour hτ

theorem Orderly.execCourierResetAct (hτ : Orderly σ τ) : Runs σ (execCourierResetAct τ) := by
  unfold Machine.execCourierResetAct
  split
  · exact .ite (.next (.busWrite (.modCour hτ))) (.next hτ)
  · exact .next hτ

theorem Orderly.courStageBegin {plc : Bool} {p : List Byte} (hτ : Orderly σ τ) : Orderly σ (τ.courStageBegin plc p).1 := by
  unfold State.courStageBegin
  refine .iteOf Prod.fst hτ (.iteOf Prod.fst hτ (.iteOf Prod.fst (.stageBegin hτ) ?_))
  dsimp only
  exact .modCour (.put (.drew (.stageBegin hτ)))

theorem Orderly.execCourierStageBegin {h : MsgHdr} {p : List Byte} (hτ : Orderly σ τ) : Runs σ (execCourierStageBegin h p τ) :=
  .next (.courTake hτ (fun _ hτ => .courAuth hτ (fun _ _ hτ => .courStageBegin hτ)))

theorem Orderly.courStageData {p : List Byte} (hτ : Orderly σ τ) : Orderly σ (τ.courStageData p).1 := by
  unfold State.courStageData
  dsimp only
  split
  · exact hτ
  · refine .iteOf Prod.fst hτ (.iteOf Prod.fst (.stageData hτ) ?_)
    dsimp only
    exact .modCour (.stageData hτ)

theorem Orderly.execCourierStageData {h : MsgHdr} {p : List Byte} (hτ : Orderly σ τ) : Runs σ (execCourierStageData h p τ) :=
  .next (.courTake hτ (fun _ hτ => .courSv hτ (fun _ hτ => .courStageData hτ)))

theorem Orderly.courStageEnd {p : List Byte} (h : Orderly σ τ) : Orderly σ (τ.courStageEnd p).1 := by
  have hend := h.stageEnd_getD (x := (τ, 0, [])) h
  unfold State.courStageEnd
  split
  · exact h
  · split
    · exact h
    · split
      · exact h
      next heq => rw [heq] at hend; exact .courSessionEnd hend

theorem Orderly.execCourierStageEnd {h : MsgHdr} {p : List Byte} (hτ : Orderly σ τ) : Runs σ (execCourierStageEnd h p τ) :=
  .next (.courTake hτ (fun _ hτ => .courSv hτ (fun _ hτ => .courStageEnd hτ)))

theorem Orderly.courSelect {p : List Byte} (hτ : Orderly σ τ) : Orderly σ (τ.courSelect p).1 :=
  .iteOf Prod.fst hτ (.iteOf Prod.fst (.imgSelect hτ) (.iteOf Prod.fst hτ (.courOf (.svSelect hτ))))

theorem Orderly.execCourierSelect {h : MsgHdr} {p : List Byte} (hτ : Orderly σ τ) : Runs σ (execCourierSelect h p τ) :=
  .next (.courTake hτ (fun _ hτ => .courAuth hτ (fun _ _ hτ => .courSelect hτ)))

theorem Orderly.courConfirm {bad : Nat} {p : List Byte} (hτ : Orderly σ τ) : Orderly σ (τ.courConfirm bad p).1 :=
  .iteOf Prod.fst hτ (.iteOf Prod.fst (.imgConfirm hτ) (.courOf (.svConfirm hτ)))

theorem Orderly.execCourierConfirm {h : MsgHdr} {p : List Byte} {bad : Nat} (hτ : Orderly σ τ) : Runs σ (execCourierConfirm h p bad τ) :=
  .next (.courTake hτ (fun _ hτ => .courNoFoyer hτ ((fun _ hτ => .courAuth hτ (fun _ _ hτ => .courConfirm hτ)))))

theorem Orderly.execCourierEventAck {h : MsgHdr} (hτ : Orderly σ τ) : Runs σ (execCourierEventAck h τ) := by
  unfold Machine.execCourierEventAck
  split
  · exact .ite (.next (.modCour hτ)) (.next hτ)
  · exact .next hτ

theorem Orderly.eventAgain {e : EventMsg} (hτ : Orderly σ τ) : Orderly σ (τ.eventAgain e) :=
  .ite (.modCour (.set1 hτ)) (.after (.ite (.refl _) (.plcQueue (.refl _))) (.beside (.modCour (.ite (.drew hτ) hτ))))

theorem Orderly.execCourierEventRepeat (hτ : Orderly σ τ) : Runs σ (execCourierEventRepeat τ) := by
  unfold Machine.execCourierEventRepeat
  split
  · exact .ite (.next (.eventAgain hτ)) (.next hτ)
  · exact .next hτ

theorem Orderly.execCourierUnknownType {h : MsgHdr} {ty : BitVec 8} (hτ : Orderly σ τ) : Runs σ (execCourierUnknownType h ty τ) :=
  .ite (.next hτ) (.next (.courTake hτ (fun _ hτ => .courNoFoyer hτ (fun _ hτ => hτ))))

theorem Orderly.execCourierBadMessage {car : Carrier} {bytes : List Byte} (hτ : Orderly σ τ) : Runs σ (execCourierBadMessage car bytes τ) :=
  .ite (.next (.set1 hτ)) (.next hτ)

theorem Orderly.courKeepAt {h : MsgHdr} {bs : List Byte} (hτ : Orderly σ τ) : Orderly σ (τ.courKeepAt h bs) :=
  .modCour hτ

theorem Orderly.execCourierBroadcastInfoReply (hτ : Orderly σ τ) : Runs σ (execCourierBroadcastInfoReply τ) := by
  unfold Machine.execCourierBroadcastInfoReply
  split
  · exact .ite (.next (.modCour (.courKeepAt (.courSend hτ)))) (.next hτ)
  · exact .next hτ

theorem Orderly.execCourierTtReq {src dst : BitVec 16} {sq t2 : Nat} (hτ : Orderly σ τ) : Runs σ (execCourierTtReq src dst sq t2 τ) :=
  .ite (.next (.modCour hτ)) (.next hτ)

theorem Orderly.epochTheta {x : Int} {t : Nat} (hτ : Orderly σ τ) : Orderly σ (τ.epochTheta x t) := by
  refine .ite hτ (.ite (.set1 hτ) (.beside (.put ?_)))
  split
  · exact (.toShadow (.wr hτ))
  · exact .toShadow (.toShadow (.wr hτ))

theorem Orderly.ttInvalid (hτ : Orderly σ τ) : Orderly σ (τ.ttInvalid) :=
  .beside (.put (.modCour (.put (.incWrap (.set1 hτ)))))

theorem Orderly.execCourierTtRsp {src dst : BitVec 16} {sq t2 : Nat} {t3 t4 : Nat} (hτ : Orderly σ τ) : Runs σ (execCourierTtRsp src dst
    sq t2 t3 t4 τ) := by
  unfold Machine.execCourierTtRsp
  split
  · exact .ite (.ite (.next (.epochTheta (.modCour (.put (.drew (.wr (.incWrap hτ))))))) (.next (.ttInvalid hτ))) (.next hτ)
  · exact .next hτ

theorem Orderly.plcSend {f : PlcFrame} {dur : Nat} (hτ : Orderly σ τ) : Orderly σ (τ.plcSend f dur) :=
  .ite (.plRefuse (.set1 hτ)) (.modCour (.incWrap (.ite (.plAdmit hτ) hτ)))

theorem Orderly.execTtRequestSend {dur : Nat} (hτ : Orderly σ τ) : Runs σ (execTtRequestSend dur τ) :=
  .ite (.next (.plcSend (.modCour (.put (.drew (.ite (.ttInvalid hτ) hτ)))))) (.next hτ)

theorem Orderly.execTtResponseSend {busy : Bool} {dur : Nat} (hτ : Orderly σ τ) : Runs σ (execTtResponseSend busy dur τ) := by
  unfold Machine.execTtResponseSend
  split
  · exact .ite (.after (.ite (.next (.incWrap (.refl _))) (.next (.plcSend (.drew (.refl _))))) (.modCour hτ)) (.next hτ)
  · exact .next hτ

theorem Orderly.execTtResponseTimeout (hτ : Orderly σ τ) : Runs σ (execTtResponseTimeout τ) := by
  unfold Machine.execTtResponseTimeout
  split
  · exact .ite (.next (.ttInvalid hτ)) (.next hτ)
  · exact .next hτ

theorem Orderly.execStagingSessionTimeout (hτ : Orderly σ τ) : Runs σ (execStagingSessionTimeout τ) := by
  unfold Machine.execStagingSessionTimeout
  split
  · exact .ite (.next (.courSessionEnd hτ)) (.next hτ)
  · exact .next hτ

theorem Orderly.delivered {bs : List Byte} (hτ : Orderly σ τ) : Orderly σ (τ.delivered bs) :=
  .beside hτ

theorem Orderly.segTake {src : Nat} {b : List Byte} (hτ : Orderly σ τ) : Orderly σ (τ.segTake src b) := by
  unfold State.segTake
  split
  · exact .ite (.set1 hτ) (.ite (.delivered hτ) (.modCour hτ))
  · exact .ite (.delivered (.modCour hτ)) (.modCour hτ)

theorem Orderly.reasmExpire (hτ : Orderly σ τ) : Orderly σ (τ.reasmExpire) :=
  .modCour hτ

theorem Orderly.execPlcSegmentReceive {src dst : BitVec 16} {seg : List Byte} {snr : BitVec 8} {excluded : Bool} (hτ : Orderly σ τ) : Runs
    σ (execPlcSegmentReceive src dst seg snr excluded τ) :=
  .ite (.next hτ) (.after (.ite (.next (.incSat (.refl _))) (.ite (.next (.refl _)) (.ite (.next (.segTake (.reasmExpire (.refl _))))
    (.next (.refl _))))) (.put (.incWrap hτ)))

theorem Orderly.execReassemblyTimeout (hτ : Orderly σ τ) : Runs σ (execReassemblyTimeout τ) :=
  .next (.reasmExpire hτ)

theorem Orderly.execPlcFrameTransmit {dur : Nat} (hτ : Orderly σ τ) : Runs σ (execPlcFrameTransmit dur τ) := by
  unfold Machine.execPlcFrameTransmit
  split
  · exact .ite (.next (.plcSend (.modCour hτ))) (.next hτ)
  · exact .next hτ

theorem Orderly.execPlcCurrentLimit (hτ : Orderly σ τ) : Runs σ (execPlcCurrentLimit τ) :=
  .ite (.next (.stickyRaise (.plcAbort hτ))) (.next hτ)

theorem Orderly.said {ws : List Word} {bs : List Byte} (hτ : Orderly σ τ) : Orderly σ (τ.said ws bs) :=
  .beside hτ

theorem Orderly.execHspiStatus (hτ : Orderly σ τ) : Runs σ (execHspiStatus τ) :=
  .ite (.next (.said hτ)) (.next hτ)

theorem Orderly.execHspiRead {addr : BitVec 32} {n : Nat} (hτ : Orderly σ τ) : Runs σ (execHspiRead addr n τ) :=
  .ite (.next hτ) (.ite (.next (.said hτ)) (.next (.said (.readRun hτ))))

theorem Orderly.execHspiWrite {addr : BitVec 32} {ws : List Word} (hτ : Orderly σ τ) : Runs σ (execHspiWrite addr ws τ) :=
  .ite (.next hτ) (.ite (.next (.accessSet hτ)) (.next (.foldl (fun _ _ hτ => .hostWrite hτ) hτ)))

theorem Orderly.execHspiMsgPut {bytes : List Byte} (hτ : Orderly σ τ) : Runs σ (execHspiMsgPut bytes τ) :=
  .ite (.next (.h2dPut hτ)) (.next hτ)

theorem Orderly.execHspiMsgGet {n : Nat} (hτ : Orderly σ τ) : Runs σ (execHspiMsgGet n τ) :=
  .ite (.next hτ) (.ite (.next (.said hτ)) (.after (.ite (.next (.put (.refl _))) (.next (.refl _))) (.said hτ)))

theorem Orderly.execH2dDone {i : Initiator} {v : Word} (hτ : Orderly σ τ) : Runs σ (execH2dDone i v τ) :=
  .next (.busWrite hτ)

theorem Orderly.execD2hPost {i : Initiator} {v : Word} (hτ : Orderly σ τ) : Runs σ (execD2hPost i v τ) :=
  .next (.busWrite hτ)

theorem Orderly.execHspiLock {i : Initiator} {v : Word} (hτ : Orderly σ τ) : Runs σ (execHspiLock i v τ) :=
  .next (.busWrite hτ)

theorem Orderly.execGpioEdge {k : Fin 8} {level : Bool} (hτ : Orderly σ τ) : Runs σ (execGpioEdge k level τ) :=
  .after (.ite (.next (.put (.refl _))) (.next (.refl _))) (.beside hτ)

theorem Orderly.insideTrigger {u kind : Nat} (hτ : Orderly σ τ) : Orderly σ (τ.insideTrigger u kind) :=
  .ite (.trigger (.modPwm hτ)) hτ

theorem Orderly.execCentreCmpTrigger {u : Fin 14} {kind : Fin 3} (hτ : Orderly σ τ) : Runs σ (execCentreCmpTrigger u kind τ) :=
  .next (.insideTrigger hτ)

theorem Orderly.execMtimecmpMatch {q : Fin 2} (hτ : Orderly σ τ) : Runs σ (execMtimecmpMatch q τ) :=
  .ite (.next (.modHok hτ)) (.next hτ)

theorem Orderly.execMacRetry (hτ : Orderly σ τ) : Runs σ (execMacRetry τ) := by
  unfold Machine.execMacRetry
  split
  · exact .ite (.ite (.next (.modCour hτ)) (.next (.modCour (.incSat hτ)))) (.next hτ)
  · exact .next hτ

theorem Orderly.tick (hτ : Orderly σ τ) : Orderly σ (τ.tick) :=
  .ite hτ (.beside hτ)
end

/-! ### The step -/

/-- The outcome of every command: by its constructor, each the lemma about the command's meaning. -/
theorem Orderly.exec {s t : State} (h : Orderly s t) : (c : Instr) → Runs s (exec c t)
  | .registerWrite _ _ _ => h.execRegisterWrite
  | .imgSelectWrite i _ => h.execImgSelectWrite i
  | .imgConfirmWrite i _ => h.execImgConfirmWrite i
  | .refPresenceChange _ _ _ => h.execRefPresenceChange
  | .pllLockAcquire => h.execPllLockAcquire
  | .pllLockLoss => h.execPllLockLoss
  | .pllUnmute => h.execPllUnmute
  | .pllStartTimeout => h.execPllStartTimeout
  | .pllStartRetry => h.execPllStartRetry
  | .divsyncArm i => h.execDivsyncArm i
  | .syncMark _ _ => h.execSyncMark
  | .markMissing => h.execMarkMissing
  | .clkNWrite i _ => h.execClkNWrite i
  | .clkNTransfer => h.execClkNTransfer
  | .refLoss => h.execRefLoss
  | .coastLimit => h.execCoastLimit
  | .refRestore => h.execRefRestore
  | .refSelWrite i _ => h.execRefSelWrite i
  | .epochLoad i => h.execEpochLoad i
  | .epochLoadApply => h.execEpochLoadApply
  | .epochMarkArm i => h.execEpochMarkArm i
  | .epochRtcCap i => h.execEpochRtcCap i
  | .epochRtcCaptureEdge => h.execEpochRtcCaptureEdge
  | .epochRateWrite i _ => h.execEpochRateWrite i
  | .epochSlewWrite i _ => h.execEpochSlewWrite i
  | .epochSlewSlot => h.execEpochSlewSlot
  | .epochNowRead i => h.execEpochNowRead i
  | .epochBarRead i => h.execEpochBarRead i
  | .barrierCalibration _ => h.execBarrierCalibration
  | .barrierRemeasure _ => h.execBarrierRemeasure
  | .islandSkewCheck _ => h.execIslandSkewCheck
  | .schedArm _ _ => h.execSchedArm
  | .schedDisarm _ _ => h.execSchedDisarm
  | .schedNone _ => h.execSchedNone
  | .schedWindow _ => h.execSchedWindow
  | .schedPwmStart _ => h.execSchedPwmStart
  | .schedPwmStop _ => h.execSchedPwmStop
  | .schedPwmCommit _ => h.execSchedPwmCommit
  | .schedMeterLatch _ => h.execSchedMeterLatch
  | .schedRelayCmd _ => h.execSchedRelayCmd
  | .schedMaintStart _ => h.execSchedMaintStart
  | .schedGpioSet _ => h.execSchedGpioSet
  | .schedIrq _ => h.execSchedIrq
  | .schedStreamMark _ => h.execSchedStreamMark
  | .windowOpen _ => h.execWindowOpen
  | .windowClose _ _ => h.execWindowClose
  | .windowDeliver _ => h.execWindowDeliver
  | .wgEnable i _ => h.execWgEnable i
  | .wgDisable i _ => h.execWgDisable i
  | .streamSample _ _ => h.execStreamSample
  | .streamRingWrite _ => h.execStreamRingWrite
  | .ringEnable i _ => h.execRingEnable i
  | .ringDisable i _ => h.execRingDisable i
  | .lcAnnounceReceive _ => h.execLcAnnounceReceive
  | .lcCycleEnd _ _ => h.execLcCycleEnd
  | .lcRecordDeliver _ => h.execLcRecordDeliver
  | .modOverloadTrip _ _ => h.execModOverloadTrip
  | .modOverloadRelease _ => h.execModOverloadRelease
  | .monitorDwellEnd _ => h.execMonitorDwellEnd
  | .grdTempSample _ => h.execGrdTempSample
  | .sensCalStage _ => h.execSensCalStage
  | .sensCalComplete _ _ => h.execSensCalComplete
  | .chRangeWrite i _ _ => h.execChRangeWrite i
  | .wcCrossing _ _ => h.execWcCrossing
  | .wcThrWrite i _ _ => h.execWcThrWrite i
  | .wcThrApply _ _ => h.execWcThrApply
  | .wcSoftwareClear i _ _ => h.execWcSoftwareClear i
  | .wcClearDecision _ _ => h.execWcClearDecision
  | .wcPendingReady _ _ => h.execWcPendingReady
  | .wcmpTestStep _ _ => h.execWcmpTestStep
  | .loopExecStart _ => h.execLoopExecStart
  | .loopCommit _ _ => h.execLoopCommit
  | .loopAbandon _ => h.execLoopAbandon
  | .loopLockstepMismatch _ => h.execLoopLockstepMismatch
  | .loopTcmEccError _ _ => h.execLoopTcmEccError
  | .loopEnable _ _ => h.execLoopEnable
  | .loopDisable _ _ => h.execLoopDisable
  | .loopClrMax i _ => h.execLoopClrMax i
  | .tcmWrite i _ _ _ => h.execTcmWrite i
  | .pwmPeriodBoundary _ => h.execPwmPeriodBoundary
  | .pwmEdgeIssue _ => h.execPwmEdgeIssue
  | .pwmStart _ _ => h.execPwmStart
  | .pwmStop _ _ => h.execPwmStop
  | .pwmCommit i _ => h.execPwmCommit i
  | .pwmForceWrite _ _ _ => h.execPwmForceWrite
  | .pwmCntClr i _ => h.execPwmCntClr i
  | .hbEdgeReceive _ => h.execHbEdgeReceive
  | .hbEdgeExecute _ => h.execHbEdgeExecute
  | .hbLinkCrcError _ => h.execHbLinkCrcError
  | .hbKeepalive => h.execHbKeepalive
  | .hbKeepaliveTimeout => h.execHbKeepaliveTimeout
  | .hbPeriodMarker _ => h.execHbPeriodMarker
  | .vdrvLockout => h.execVdrvLockout
  | .vdrvLockoutEnd => h.execVdrvLockoutEnd
  | .laneEdgeReceive _ => h.execLaneEdgeReceive
  | .laneEdgeSend _ => h.execLaneEdgeSend
  | .laneHeartbeatDue _ => h.execLaneHeartbeatDue
  | .laneHeartbeatSend _ => h.execLaneHeartbeatSend
  | .laneHeartbeatForced _ => h.execLaneHeartbeatForced
  | .laneStatusReceive _ _ => h.execLaneStatusReceive
  | .laneStatusMissing _ => h.execLaneStatusMissing
  | .laneTripEnd _ => h.execLaneTripEnd
  | .laneEnable _ _ => h.execLaneEnable
  | .laneDisable _ _ => h.execLaneDisable
  | .gridEvaluation => h.execGridEvaluation
  | .gridCycleBoundary => h.execGridCycleBoundary
  | .gridFormingWrite _ _ => h.execGridFormingWrite
  | .probeStart => h.execProbeStart
  | .probeEnd => h.execProbeEnd
  | .relayCheckStep => h.execRelayCheckStep
  | .relayCloseRequest _ => h.execRelayCloseRequest
  | .relayCloseStep => h.execRelayCloseStep
  | .gridOpenRequest _ => h.execGridOpenRequest
  | .relayOpeningCheck => h.execRelayOpeningCheck
  | .relayFbLost => h.execRelayFbLost
  | .reconnectReady => h.execReconnectReady
  | .autoCheckRequest => h.execAutoCheckRequest
  | .autoPwmStart => h.execAutoPwmStart
  | .meterEnable _ => h.execMeterEnable
  | .meterDisable _ => h.execMeterDisable
  | .meterCycleProcess _ => h.execMeterCycleProcess
  | .vaultScan => h.execVaultScan
  | .meterDeltaRead i _ _ => h.execMeterDeltaRead i
  | .meterTotRead i _ _ => h.execMeterTotRead i
  | .spLockstepMismatch => h.execSpLockstepMismatch
  | .arcEnable _ _ => h.execArcEnable
  | .arcDisable _ _ => h.execArcDisable
  | .arcFrameEvaluate _ => h.execArcFrameEvaluate
  | .ivTracePoint _ => h.execIvTracePoint
  | .ivTraceEnd _ => h.execIvTraceEnd
  | .isoCheckStep _ => h.execIsoCheckStep
  | .requestSensCalP _ => h.execRequestSensCalP
  | .requestSensCalG _ => h.execRequestSensCalG
  | .requestWcmpTest _ => h.execRequestWcmpTest
  | .requestIvTrace _ _ => h.execRequestIvTrace
  | .requestIsoCheck _ => h.execRequestIsoCheck
  | .requestRelayCheck _ => h.execRequestRelayCheck
  | .requestMramProgram _ => h.execRequestMramProgram
  | .requestVaultCompact _ => h.execRequestVaultCompact
  | .requestBistPeriodic _ => h.execRequestBistPeriodic
  | .bistPeriodicDue => h.execBistPeriodicDue
  | .bistPeriodicEnd _ => h.execBistPeriodicEnd
  | .vaultCompactEnd _ _ => h.execVaultCompactEnd
  | .mramProgramEnd => h.execMramProgramEnd
  | .maintAbort i _ => h.execMaintAbort i
  | .curatorRaise _ => h.execCuratorRaise
  | .curSevWrite i _ _ => h.execCurSevWrite i
  | .curUnfence _ _ => h.execCurUnfence
  | .curInjectRaise i _ => h.execCurInjectRaise i
  | .curInjectCorrupt i _ _ => h.execCurInjectCorrupt i
  | .curatorCopyMismatch => h.execCuratorCopyMismatch
  | .pwmCheckMismatch _ => h.execPwmCheckMismatch
  | .drvGateCheck _ _ _ => h.execDrvGateCheck
  | .eccUncorrectable _ _ _ => h.execEccUncorrectable
  | .scrubPass _ _ => h.execScrubPass
  | .barrierLinkError => h.execBarrierLinkError
  | .railOutOfWindow _ _ => h.execRailOutOfWindow
  | .wardenInputChange _ _ _ => h.execWardenInputChange
  | .wardenFilterExpire _ _ => h.execWardenFilterExpire
  | .wardenDiscrepancy _ => h.execWardenDiscrepancy
  | .testPulseStart _ => h.execTestPulseStart
  | .testPulseCheck _ => h.execTestPulseCheck
  | .testPulseEnd _ => h.execTestPulseEnd
  | .wardenReset _ _ => h.execWardenReset
  | .wardenPermitRequest _ _ => h.execWardenPermitRequest
  | .wardenPermitEnd _ _ => h.execWardenPermitEnd
  | .wardenPermitExpire => h.execWardenPermitExpire
  | .hokuonInstruction _ => h.execHokuonInstruction
  | .hqSadd _ _ _ _ => h.execHqSadd
  | .hqSsub _ _ _ _ => h.execHqSsub
  | .hqSabs _ _ _ => h.execHqSabs
  | .hqMulq _ _ _ _ => h.execHqMulq
  | .hqMacq _ _ _ _ => h.execHqMacq
  | .hqSshl _ _ _ _ => h.execHqSshl
  | .hqSrar _ _ _ _ => h.execHqSrar
  | .hqSat _ _ _ _ => h.execHqSat
  | .hcacheInvLine _ _ => h.execHcacheInvLine
  | .hcacheInvDcache _ => h.execHcacheInvDcache
  | .hcacheInvIcache _ => h.execHcacheInvIcache
  | .hokuonLockstepMismatch _ => h.execHokuonLockstepMismatch
  | .cacheParityError _ _ _ => h.execCacheParityError
  | .hicInterruptTake _ => h.execHicInterruptTake
  | .doorbell _ _ => h.execDoorbell
  | .semAcquire _ _ => h.execSemAcquire
  | .semRelease _ _ _ => h.execSemRelease
  | .perfCounterRead i _ _ => h.execPerfCounterRead i
  | .perfCounterClear _ _ => h.execPerfCounterClear
  | .domainOnRequest _ _ => h.execDomainOnRequest
  | .domainPowered _ _ => h.execDomainPowered
  | .domainOffRequest _ _ => h.execDomainOffRequest
  | .padRelease i _ => h.execPadRelease i
  | .opPointWrite i _ => h.execOpPointWrite i
  | .dvfsStepDone _ => h.execDvfsStepDone
  | .dvfsVokTimeout _ => h.execDvfsVokTimeout
  | .plinthColdStart => h.execPlinthColdStart
  | .plinthDeath => h.execPlinthDeath
  | .energyFlagUpdate _ _ _ _ _ _ _ => h.execEnergyFlagUpdate
  | .sessionTimeout => h.execSessionTimeout
  | .rtcSecond => h.execRtcSecond
  | .plinthCycRead i => h.execPlinthCycRead i
  | .plinthWake => h.execPlinthWake
  | .twwWakeFrame _ => h.execTwwWakeFrame
  | .twwStatusRead _ => h.execTwwStatusRead
  | .plinthSleep _ _ => h.execPlinthSleep
  | .plinthStartRequest i => h.execPlinthStartRequest i
  | .buckBGood => h.execBuckBGood
  | .powerFailWarning => h.execPowerFailWarning
  | .powerFailRestore => h.execPowerFailRestore
  | .buckAStop => h.execBuckAStop
  | .svGetInfo _ => h.execSvGetInfo
  | .svGetDevidCert _ => h.execSvGetDevidCert
  | .svAttest _ _ => h.execSvAttest
  | .svExtend _ _ _ _ => h.execSvExtend
  | .svReadPm _ => h.execSvReadPm
  | .svRandom _ _ => h.execSvRandom
  | .svVerifyAuth _ _ _ _ => h.execSvVerifyAuth
  | .svStageBegin _ _ _ => h.execSvStageBegin
  | .svStageData _ _ _ => h.execSvStageData
  | .svStageEnd _ => h.execSvStageEnd
  | .svSelect _ _ _ => h.execSvSelect
  | .svConfirm _ _ _ => h.execSvConfirm
  | .svOwnerEnroll _ _ _ _ _ => h.execSvOwnerEnroll
  | .svOwnerRevoke _ _ _ _ => h.execSvOwnerRevoke
  | .svSetAppStrict _ _ _ => h.execSvSetAppStrict
  | .svDebugPermit _ _ _ _ => h.execSvDebugPermit
  | .svPermitEnd _ => h.execSvPermitEnd
  | .svCmdComplete _ => h.execSvCmdComplete
  | .bootStep _ => h.execBootStep
  | .svauthFaultDetect => h.execSvauthFaultDetect
  | .debugPermitExpire => h.execDebugPermitExpire
  | .testModeLow => h.execTestModeLow
  | .docStatus => h.execDocStatus
  | .docIdcode => h.execDocIdcode
  | .docRead _ _ => h.execDocRead
  | .docWrite _ _ _ => h.execDocWrite
  | .docHalt _ => h.execDocHalt
  | .docResume _ => h.execDocResume
  | .docStep _ => h.execDocStep
  | .docRegRead _ _ => h.execDocRegRead
  | .docRegWrite _ _ _ => h.execDocRegWrite
  | .docBpSet _ _ _ => h.execDocBpSet
  | .docBpClear _ _ => h.execDocBpClear
  | .docCrcError => h.execDocCrcError
  | .svcCourierFrame _ => h.execSvcCourierFrame
  | .svcPermitFrame => h.execSvcPermitFrame
  | .svcPermitEndFrame => h.execSvcPermitEndFrame
  | .svcBadFrame => h.execSvcBadFrame
  | .powerUpReset _ => h.execPowerUpReset
  | .resetPin _ _ => h.execResetPin
  | .sysResetSystem _ => h.execSysResetSystem
  | .sysResetHpb _ => h.execSysResetHpb
  | .sysResetFoyer _ => h.execSysResetFoyer
  | .watchdogExpire => h.execWatchdogExpire
  | .watchdogKick _ _ => h.execWatchdogKick
  | .resetRelease => h.execResetRelease
  | .startupPhaseEnd _ _ _ => h.execStartupPhaseEnd
  | .supplyStartTimeout => h.execSupplyStartTimeout
  | .visoArrive => h.execVisoArrive
  | .barrierCalTimeout => h.execBarrierCalTimeout
  | .hpbRelease _ => h.execHpbRelease
  | .courierInfo _ _ => h.execCourierInfo
  | .courierRead _ _ => h.execCourierRead
  | .courierWrite _ _ => h.execCourierWrite
  | .courierAttest _ _ => h.execCourierAttest
  | .courierDevidCert _ _ => h.execCourierDevidCert
  | .courierLogRead _ _ => h.execCourierLogRead
  | .courierMeterRead _ _ => h.execCourierMeterRead
  | .courierReset _ _ => h.execCourierReset
  | .courierResetAct => h.execCourierResetAct
  | .courierStageBegin _ _ => h.execCourierStageBegin
  | .courierStageData _ _ => h.execCourierStageData
  | .courierStageEnd _ _ => h.execCourierStageEnd
  | .courierSelect _ _ => h.execCourierSelect
  | .courierConfirm _ _ _ => h.execCourierConfirm
  | .courierEventAck _ => h.execCourierEventAck
  | .courierEventRepeat => h.execCourierEventRepeat
  | .courierUnknownType _ _ => h.execCourierUnknownType
  | .courierBadMessage _ _ => h.execCourierBadMessage
  | .courierBroadcastInfoReply => h.execCourierBroadcastInfoReply
  | .courierTtReq _ _ _ _ => h.execCourierTtReq
  | .courierTtRsp _ _ _ _ _ _ => h.execCourierTtRsp
  | .ttRequestSend _ => h.execTtRequestSend
  | .ttResponseSend _ _ => h.execTtResponseSend
  | .ttResponseTimeout => h.execTtResponseTimeout
  | .stagingSessionTimeout => h.execStagingSessionTimeout
  | .plcSegmentReceive _ _ _ _ _ => h.execPlcSegmentReceive
  | .reassemblyTimeout => h.execReassemblyTimeout
  | .plcFrameTransmit _ => h.execPlcFrameTransmit
  | .plcCurrentLimit => h.execPlcCurrentLimit
  | .hspiStatus => h.execHspiStatus
  | .hspiRead _ _ => h.execHspiRead
  | .hspiWrite _ _ => h.execHspiWrite
  | .hspiMsgPut _ => h.execHspiMsgPut
  | .hspiMsgGet _ => h.execHspiMsgGet
  | .h2dDone _ _ => h.execH2dDone
  | .d2hPost _ _ => h.execD2hPost
  | .hspiLock _ _ => h.execHspiLock
  | .gpioEdge _ _ => h.execGpioEdge
  | .centreCmpTrigger _ _ => h.execCentreCmpTrigger
  | .mtimecmpMatch _ => h.execMtimecmpMatch
  | .macRetry => h.execMacRetry

theorem exec_runs (c : Instr) (s : State) : Runs s (exec c s) := (Orderly.refl s).exec c

theorem step_nil (s : State) (h : s.pending = []) : step s = .next s.tick := by simp [step, h]

theorem step_cons (s : State) (c : Instr) (rest : List Instr) (h : s.pending = c :: rest) :
    step s = exec c { s with pending := rest } := by simp [step, h]

theorem State.tick_orderly (s : State) : Orderly s s.tick := .tick (.refl s)

/-- Settles O57: every arm of the dispatch answers a next state. -/
theorem everyCommandCompletes : Obligations.EveryCommandCompletes := fun c s =>
  let ⟨t, ht, _⟩ := exec_runs c s
  ⟨t, ht⟩

/-- What holds of a command's outcome holds of the state it answers. -/
theorem exec_orderly {c : Instr} {s t : State} (h : exec c s = .next t) : Orderly s t := by
  obtain ⟨u, hu, ho⟩ := exec_runs c s
  cases hu.symm.trans h
  exact ho

/-- Settles O58. -/
theorem commandsLeaveTheQueue : Obligations.CommandsLeaveTheQueue := fun _ _ _ h => (exec_orderly h).pending

/-- Settles O59: the empty queue's step is a tick, and any other is its front command on a state with the same maps. -/
theorem stepKeepsCanonicalForm : Obligations.StepKeepsCanonicalForm := by
  intro s t hs h
  cases hq : s.pending with
  | nil =>
    cases (step_nil s hq).symm.trans h
    exact ⟨s.tick_orderly.canonical hs, s.tick_orderly.pending.trans hq⟩
  | cons c rest =>
    have ho := exec_orderly ((step_cons s c rest hq).symm.trans h)
    exact ⟨ho.canonical hs, ho.pending⟩

/-- Settles O56. -/
theorem stepRunsTheFrontCommand : Obligations.StepRunsTheFrontCommand := step_cons

end Sys2Proof.Machine
end

section
/-!
SUPPORT. Frame rules one update at a time: what an update keeps, stated so that a chain of updates is framed by a chain of rules.
The proofs are elaborated in turn: in one text, proofs that wait for each other would each hold a thread.
-/

set_option Elab.async false

namespace Sys2Proof.Machine

theorem State.rdB_congr {s t : State} (h : t.mem = s.mem) (a : Nat) : t.rdB a = s.rdB a := congrArg (SMap.get · (memHome a)) h

section
variable {fs : List Fld} {ps : List Part} {s t u : State} {f : Fld} {v : Nat}

theorem Keeps.put' (h : Keeps fs ps s t) (hf : f ∈ fs := by simp) : Keeps fs ps s (t.put f v) := h.put f v hf
theorem Keeps.set1' (h : Keeps fs ps s t) (hf : f ∈ fs := by simp) : Keeps fs ps s (t.set1 f) := h.put f 1 hf
theorem Keeps.clr' (h : Keeps fs ps s t) (hf : f ∈ fs := by simp) : Keeps fs ps s (t.clr f) := h.put f 0 hf
theorem Keeps.putS' {x : Int} (h : Keeps fs ps s t) (hf : f ∈ fs := by simp) : Keeps fs ps s (t.putS f x) := h.put f _ hf
theorem Keeps.incSat' (h : Keeps fs ps s t) (hf : f ∈ fs := by simp) : Keeps fs ps s (t.incSat f) := h.put f _ hf
theorem Keeps.incWrap' (h : Keeps fs ps s t) (hf : f ∈ fs := by simp) : Keeps fs ps s (t.incWrap f) := h.put f _ hf
theorem Keeps.wr' {a : Nat} {w : Word} (h : Keeps fs ps s t) (hf : whole a ∈ fs := by simp) : Keeps fs ps s (t.wr a w) := h.wr a w hf
theorem Keeps.raise' {n : Nat} (h : Keeps fs ps s t) (hp : Part.raised ∈ ps := by simp) : Keeps fs ps s (t.raise n) := h.raised _ hp
theorem Keeps.raiseAt' {n i : Nat} (h : Keeps fs ps s t) (hp : Part.raised ∈ ps := by simp) : Keeps fs ps s (t.raiseAt n i) := h.raised _ hp
theorem Keeps.stickyRaise' {n : Nat} (h : Keeps fs ps s t) (hf : f ∈ fs := by simp) (hp : Part.raised ∈ ps := by simp) :
    Keeps fs ps s (t.stickyRaise f n) := (h.put f 1 hf).raised _ hp
theorem Keeps.shadow' {x} (h : Keeps fs ps s t) (hp : Part.shadow ∈ ps := by simp) : Keeps fs ps s { t with shadow := x } := h.shadow x hp
theorem Keeps.epoch' {x} (h : Keeps fs ps s t) (hp : Part.epoch ∈ ps := by simp) : Keeps fs ps s { t with epoch := x } := h.epoch x hp
theorem Keeps.clk' {x} (h : Keeps fs ps s t) (hp : Part.clk ∈ ps := by simp) : Keeps fs ps s { t with clk := x } := h.clk x hp
theorem Keeps.ep' {x} (h : Keeps fs ps s t) (hp : Part.ep ∈ ps := by simp) : Keeps fs ps s { t with ep := x } := h.ep x hp

/-- An update of the parts beside the registers, written field by field. -/
theorem Keeps.beside' {mem shadow epoch draws raised resp img clk ep pwm plinth sens wcmp loop drive diag grid relay meter cur pins warden sv start
      hok cour ecc pending} (h : Keeps fs ps s t)
    (hp : ∀ p, p ∉ ps → p.same t (State.mk t.regs mem shadow epoch draws raised resp img clk ep pwm plinth sens wcmp loop drive diag grid
      relay meter cur pins warden sv start hok cour ecc pending) := by
        intro p hp; cases p <;> first | exact absurd (by decide) hp | exact ⟨State.rdB_congr (by dsimp only), by dsimp only⟩ | dsimp only [Part.same]) :
    Keeps fs ps s (State.mk t.regs mem shadow epoch draws raised resp img clk ep pwm plinth sens wcmp loop drive diag grid
      relay meter cur pins warden sv start hok cour ecc pending) :=
  h.trans ⟨fun _ _ => rfl, hp⟩

theorem Keeps.ite' {c : Prop} {_ : Decidable c} (h : Keeps fs ps s t) (k : Keeps fs ps s u) : Keeps fs ps s (if c then t else u) := .ite c h k

theorem Keeps.toShadow' (h : Keeps fs ps s t) (hp : Part.shadow ∈ ps := by simp) : Keeps fs ps s (t.toShadow f v) := h.shadow _ hp

theorem Keeps.dropShadow' {a : Nat} (h : Keeps fs ps s t) (hp : Part.shadow ∈ ps := by simp) : Keeps fs ps s (t.dropShadow a) := h.shadow _ hp

theorem Keeps.transfer' (h : Keeps fs ps s t) (hf : f ∈ fs := by simp) (hp : Part.shadow ∈ ps := by simp) : Keeps fs ps s (t.transfer f) :=
  .ite _ ((h.put f _ hf).shadow _ hp) h

theorem Keeps.answer' {w : Word} (h : Keeps fs ps s t) (hp : Part.resp ∈ ps := by simp) : Keeps fs ps s (t.answer w) := h.resp _ hp

theorem Keeps.wrB' {a : Nat} {w : Byte} (h : Keeps fs ps s t) (hp : Part.mem ∈ ps := by simp) : Keeps fs ps s (t.wrB a w) :=
  h.trans ⟨fun _ _ => rfl, fun p m => by cases p <;> first | exact absurd hp m | rfl⟩

theorem Keeps.wrBytes' {a : Nat} {l : List Byte} (h : Keeps fs ps s t) (hp : Part.mem ∈ ps := by simp) : Keeps fs ps s (t.wrBytes a l) := by
  induction l generalizing a t with
  | nil => exact h
  | cons b l ih => exact ih (h.wrB' hp)

theorem Keeps.wrW' {a : Nat} {w : Word} (h : Keeps fs ps s t) (hp : Part.mem ∈ ps := by simp) : Keeps fs ps s (t.wrW a w) := h.wrBytes' hp

theorem Keeps.drew' (h : Keeps fs ps s t) (hp : Part.draws ∈ ps := by simp) : Keeps fs ps s t.drew := h.draws _ hp

theorem Keeps.cfgReject' {b : Blk} (h : Keeps fs ps s t) (hf : b.rejectFld ∈ fs := by simp [Blk.rejectFld]) (hp : Part.raised ∈ ps := by simp) :
    Keeps fs ps s (t.cfgReject b) := by
  obtain e | ⟨n, -, e⟩ := t.cfgReject_eq b <;> rw [e]
  · exact h.put _ 1 hf
  · exact (h.put _ 1 hf).raised _ hp

/-- What a further step keeps, an earlier chain of updates and the step keep together. -/
theorem Keeps.after {gs : List Fld} {qs : List Part} (k : Keeps gs qs t u) (h : Keeps fs ps s t) (hf : gs ⊆ fs := by simp)
    (hp : qs ⊆ ps := by simp) : Keeps fs ps s u := h.trans (k.mono hf hp)

/-- Two stages, the later one first. -/
theorem Keeps.comp (k : Keeps fs ps t u) (h : Keeps fs ps s t) : Keeps fs ps s u := h.trans k

theorem Keeps.foldl' {α : Type} {g : State → α → State} {l : List α} (h : Keeps fs ps s t) (hg : ∀ t x, Keeps fs ps t (g t x)) :
    Keeps fs ps s (l.foldl g t) := .foldl g hg l t h

theorem Keeps.forEach' {l : List Nat} {g : State → Nat → State} (h : Keeps fs ps s t) (hg : ∀ t x, Keeps fs ps t (g t x)) :
    Keeps fs ps s (t.forEach l g) := .foldl g hg l t h

theorem Keeps.when' {c : Bool} {g : State → State} (h : Keeps fs ps s t) (hg : ∀ t, Keeps fs ps t (g t)) : Keeps fs ps s (t.when c g) :=
  .ite _ (h.trans (hg t)) h

end

end Sys2Proof.Machine
end

section
/-!
SUPPORT. The same frame rules for whole ranges of registers.
The proofs are elaborated in turn: in one text, proofs that wait for each other would each hold a thread.
-/

set_option Elab.async false

namespace Sys2Proof.Machine

section
variable {rs : List (Nat × Nat)} {ps : List Part} {s t u : State} {f : Fld} {v : Nat}

theorem KeepsOutside.put' (h : KeepsOutside rs ps s t) (hr : ∃ r ∈ rs, r.1 ≤ f.addr ∧ f.addr < r.2 := by first | decide | (simp <;> omega)) : KeepsOutside rs ps s (t.put f v) :=
  h.put f v hr

theorem KeepsOutside.set1' (h : KeepsOutside rs ps s t) (hr : ∃ r ∈ rs, r.1 ≤ f.addr ∧ f.addr < r.2 := by first | decide | (simp <;> omega)) : KeepsOutside rs ps s (t.set1 f) :=
  h.put f 1 hr

theorem KeepsOutside.clr' (h : KeepsOutside rs ps s t) (hr : ∃ r ∈ rs, r.1 ≤ f.addr ∧ f.addr < r.2 := by first | decide | (simp <;> omega)) : KeepsOutside rs ps s (t.clr f) :=
  h.put f 0 hr

theorem KeepsOutside.putS' {x : Int} (h : KeepsOutside rs ps s t) (hr : ∃ r ∈ rs, r.1 ≤ f.addr ∧ f.addr < r.2 := by first | decide | (simp <;> omega)) : KeepsOutside rs ps s (t.putS f x) :=
  h.put f _ hr

theorem KeepsOutside.incSat' (h : KeepsOutside rs ps s t) (hr : ∃ r ∈ rs, r.1 ≤ f.addr ∧ f.addr < r.2 := by first | decide | (simp <;> omega)) : KeepsOutside rs ps s (t.incSat f) :=
  h.put f _ hr

theorem KeepsOutside.incWrap' (h : KeepsOutside rs ps s t) (hr : ∃ r ∈ rs, r.1 ≤ f.addr ∧ f.addr < r.2 := by first | decide | (simp <;> omega)) : KeepsOutside rs ps s (t.incWrap f) :=
  h.put f _ hr

theorem KeepsOutside.wr' {a : Nat} {w : Word} (h : KeepsOutside rs ps s t) (hr : ∃ r ∈ rs, r.1 ≤ a ∧ a < r.2 := by first | decide | (simp <;> omega)) : KeepsOutside rs ps s (t.wr a w) :=
  h.wr a w hr

theorem KeepsOutside.raise' {n : Nat} (h : KeepsOutside rs ps s t) (hp : Part.raised ∈ ps := by decide) : KeepsOutside rs ps s (t.raise n) :=
  h.raised _ hp

theorem KeepsOutside.raiseAt' {n i : Nat} (h : KeepsOutside rs ps s t) (hp : Part.raised ∈ ps := by decide) : KeepsOutside rs ps s (t.raiseAt n i) :=
  h.raised _ hp

theorem KeepsOutside.stickyRaise' {n : Nat} (h : KeepsOutside rs ps s t) (hr : ∃ r ∈ rs, r.1 ≤ f.addr ∧ f.addr < r.2 := by first | decide | (simp <;> omega)) (hp : Part.raised ∈ ps := by decide) : KeepsOutside rs ps s (t.stickyRaise f n) :=
  (h.put f 1 hr).raised _ hp

theorem KeepsOutside.toShadow' (h : KeepsOutside rs ps s t) (hp : Part.shadow ∈ ps := by decide) : KeepsOutside rs ps s (t.toShadow f v) :=
  h.shadow _ hp

theorem KeepsOutside.dropShadow' {a : Nat} (h : KeepsOutside rs ps s t) (hp : Part.shadow ∈ ps := by decide) : KeepsOutside rs ps s (t.dropShadow a) :=
  h.shadow _ hp

theorem KeepsOutside.transfer' (h : KeepsOutside rs ps s t) (hr : ∃ r ∈ rs, r.1 ≤ f.addr ∧ f.addr < r.2 := by first | decide | (simp <;> omega)) (hp : Part.shadow ∈ ps := by decide) : KeepsOutside rs ps s (t.transfer f) :=
  .ite _ ((h.put f _ hr).shadow _ hp) h

theorem KeepsOutside.answer' {w : Word} (h : KeepsOutside rs ps s t) (hp : Part.resp ∈ ps := by decide) : KeepsOutside rs ps s (t.answer w) :=
  h.resp _ hp

theorem KeepsOutside.wrB' {a : Nat} {w : Byte} (h : KeepsOutside rs ps s t) (hp : Part.mem ∈ ps := by decide) : KeepsOutside rs ps s (t.wrB a w) :=
  h.trans ⟨fun _ _ => rfl, fun p m => by cases p <;> first | exact absurd hp m | rfl⟩

theorem KeepsOutside.drew' (h : KeepsOutside rs ps s t) (hp : Part.draws ∈ ps := by decide) : KeepsOutside rs ps s t.drew :=
  h.draws _ hp

theorem KeepsOutside.wrBytes' {a : Nat} {l : List Byte} (h : KeepsOutside rs ps s t) (hp : Part.mem ∈ ps := by decide) :
    KeepsOutside rs ps s (t.wrBytes a l) := by
  induction l generalizing a t with
  | nil => exact h
  | cons b l ih => exact ih (h.wrB' hp)

theorem KeepsOutside.wrW' {a : Nat} {w : Word} (h : KeepsOutside rs ps s t) (hp : Part.mem ∈ ps := by decide) :
    KeepsOutside rs ps s (t.wrW a w) := h.wrBytes' hp

theorem KeepsOutside.cfgReject' {b : Blk} (h : KeepsOutside rs ps s t)
    (hr : ∃ r ∈ rs, r.1 ≤ b.rejectFld.addr ∧ b.rejectFld.addr < r.2 := by simp [Blk.rejectFld] <;> omega) (hp : Part.raised ∈ ps := by decide) :
    KeepsOutside rs ps s (t.cfgReject b) := by
  obtain e | ⟨n, -, e⟩ := t.cfgReject_eq b <;> rw [e]
  · exact h.put _ 1 hr
  · exact (h.put _ 1 hr).raised _ hp

/-- An update of the parts beside the registers, written field by field. -/
theorem KeepsOutside.beside' {mem shadow epoch draws raised resp img clk ep pwm plinth sens wcmp loop drive diag grid relay meter cur pins warden sv start
      hok cour ecc pending} (h : KeepsOutside rs ps s t)
    (hp : ∀ p, p ∉ ps → p.same t (State.mk t.regs mem shadow epoch draws raised resp img clk ep pwm plinth sens wcmp loop drive diag grid
      relay meter cur pins warden sv start hok cour ecc pending) := by
        intro p hp; cases p <;> first | exact absurd (by decide) hp | exact ⟨State.rdB_congr (by dsimp only), by dsimp only⟩ | dsimp only [Part.same]) :
    KeepsOutside rs ps s (State.mk t.regs mem shadow epoch draws raised resp img clk ep pwm plinth sens wcmp loop drive diag grid
      relay meter cur pins warden sv start hok cour ecc pending) :=
  h.trans ⟨fun _ _ => rfl, hp⟩

theorem KeepsOutside.ite' {c : Prop} {_ : Decidable c} (h : KeepsOutside rs ps s t) (k : KeepsOutside rs ps s u) :
    KeepsOutside rs ps s (if c then t else u) := .ite c h k

/-- A choice whose condition each branch may use. -/
theorem KeepsOutside.cases' {c : Prop} {_ : Decidable c} (h : c → KeepsOutside rs ps s t) (k : ¬c → KeepsOutside rs ps s u) :
    KeepsOutside rs ps s (if c then t else u) := by
  split
  · exact h ‹_›
  · exact k ‹_›

/-- What a further step keeps, an earlier chain of updates and the step keep together. -/
theorem KeepsOutside.after {qs : List (Nat × Nat)} {ps' : List Part} (k : KeepsOutside qs ps' t u) (h : KeepsOutside rs ps s t)
    (hr : qs ⊆ rs := by decide) (hp : ps' ⊆ ps := by decide) : KeepsOutside rs ps s u := h.trans (k.mono hr hp)

/-- Two stages, the later one first. -/
theorem KeepsOutside.comp (k : KeepsOutside rs ps t u) (h : KeepsOutside rs ps s t) : KeepsOutside rs ps s u := h.trans k

theorem KeepsOutside.foldl' {α : Type} {g : State → α → State} {l : List α} (h : KeepsOutside rs ps s t)
    (hg : ∀ x ∈ l, ∀ t, KeepsOutside rs ps t (g t x)) : KeepsOutside rs ps s (l.foldl g t) := by
  induction l generalizing t with
  | nil => exact h
  | cons x l ih => exact ih (h.trans (hg x (by simp) t)) fun y hy => hg y (List.mem_cons_of_mem _ hy)

theorem KeepsOutside.forEach' {l : List Nat} {g : State → Nat → State} (h : KeepsOutside rs ps s t)
    (hg : ∀ x ∈ l, ∀ t, KeepsOutside rs ps t (g t x)) : KeepsOutside rs ps s (t.forEach l g) := h.foldl' hg

theorem KeepsOutside.when' {c : Bool} {g : State → State} (h : KeepsOutside rs ps s t) (hg : ∀ t, KeepsOutside rs ps t (g t)) :
    KeepsOutside rs ps s (t.when c g) := .ite _ (h.trans (hg t)) h

end

theorem lt_of_mem_maskIdx {n m k : Nat} (h : k ∈ maskIdx n m) : k < n := List.mem_range.1 (List.mem_of_mem_filter h)

end Sys2Proof.Machine
end

section
/-!
SUPPORT. Reads through a chain of updates, the gates of runtime writes, and what a refused write does.
The proofs are elaborated in turn: in one text, proofs that wait for each other would each hold a thread.
-/

set_option Elab.async false

namespace Sys2Proof.Machine

/-! ### Reads through a chain of updates -/

section
variable (s : State) (f g : Fld) (v : Nat) (a b : Nat) (w : Word)

@[simp] theorem Fld.apart_mk (a l n b m k : Nat) : Fld.apart ⟨a, l, n⟩ ⟨b, m, k⟩ =
    (a != b || (decide (l + n ≤ 32) && decide (m + k ≤ 32) && (decide (m + k ≤ l) || decide (l + n ≤ m)))) := rfl

@[simp] theorem State.get_put_same (h : f.lo + f.len ≤ 32) : (s.put f v).get f = v % 2 ^ f.len := s.get_put_self f v h

@[simp] theorem State.get_put_other (h : f.apart g = true) : (s.put f v).get g = s.get g := s.get_put_apart f g v h

@[simp] theorem State.flag_put_same (h : f.lo + f.len ≤ 32) : (s.put f v).flag f = (v % 2 ^ f.len == 1) := s.flag_put_self f v h

@[simp] theorem State.flag_put_other (h : f.apart g = true) : (s.put f v).flag g = s.flag g := s.flag_put_apart f g v h

@[simp] theorem State.rd_put_other (h : a ≠ f.addr) : (s.put f v).rd a = s.rd a := s.rd_put_ne f v a h

@[simp] theorem State.rd_wr_same : (s.wr a w).rd a = w := s.rd_wr_self a w

@[simp] theorem State.rd_wr_other (h : b ≠ a) : (s.wr a w).rd b = s.rd b := s.rd_wr_ne a b w h

@[simp] theorem State.get_wr_other (h : g.addr ≠ a) : (s.wr a w).get g = s.get g := by
  simp only [State.get, s.rd_wr_ne a g.addr w h]

@[simp] theorem State.flag_wr_other (h : g.addr ≠ a) : (s.wr a w).flag g = s.flag g := by
  simp only [State.flag, s.get_wr_other g a w h]

variable (mem shadow epoch draws raised resp img clk ep pwm plinth sens wcmp loop drive diag grid relay meter cur pins warden sv start
  hok cour ecc pending)

@[simp] theorem State.get_mk : (State.mk s.regs mem shadow epoch draws raised resp img clk ep pwm plinth sens wcmp loop drive diag grid
    relay meter cur pins warden sv start hok cour ecc pending).get f = s.get f := rfl

@[simp] theorem State.flag_mk : (State.mk s.regs mem shadow epoch draws raised resp img clk ep pwm plinth sens wcmp loop drive diag grid
    relay meter cur pins warden sv start hok cour ecc pending).flag f = s.flag f := rfl

@[simp] theorem State.rd_mk : (State.mk s.regs mem shadow epoch draws raised resp img clk ep pwm plinth sens wcmp loop drive diag grid
    relay meter cur pins warden sv start hok cour ecc pending).rd a = s.rd a := rfl

end

theorem State.get_one_of_flag {s : State} {f : Fld} (h : s.flag f = true) : s.get f = 1 := beq_iff_eq.mp h

/-! ### The updates that are a put -/

section
variable (s : State) (f g : Fld) (n i : Nat)

@[simp] theorem State.set1_eq_put : s.set1 f = s.put f 1 := rfl

@[simp] theorem State.clr_eq_put : s.clr f = s.put f 0 := rfl

@[simp] theorem State.incSat_eq_put : s.incSat f = s.put f (satInc f.len (s.get f)) := rfl

@[simp] theorem State.incWrap_eq_put : s.incWrap f = s.put f ((s.get f + 1) % 2 ^ f.len) := rfl

@[simp] theorem State.putS_eq_put (x : Int) : s.putS f x = s.put f (unsignedOf f.len x) := rfl

@[simp] theorem State.stickyRaise_eq_put : s.stickyRaise f n = (s.put f 1).raise n := rfl

@[simp] theorem State.get_raise : (s.raise n).get g = s.get g := rfl

@[simp] theorem State.flag_raise : (s.raise n).flag g = s.flag g := rfl

@[simp] theorem State.rd_raise (a : Nat) : (s.raise n).rd a = s.rd a := rfl

@[simp] theorem State.get_raiseAt : (s.raiseAt n i).get g = s.get g := rfl

@[simp] theorem State.flag_raiseAt : (s.raiseAt n i).flag g = s.flag g := rfl

@[simp] theorem State.rd_raiseAt (a : Nat) : (s.raiseAt n i).rd a = s.rd a := rfl

end

/-! ### The gates of runtime writes (R36, R37), and what a refused write does -/

theorem Blk.rejectFld_bound (b : Blk) : b.rejectFld.lo + b.rejectFld.len ≤ 32 ∧ b.rejectFld.len = 1 := by cases b <;> simp [Blk.rejectFld]

theorem State.cfgReject_refused (s : State) (b : Blk) (n : Nat) (h : b.rejectSrc = some n := by rfl) : Refused b n s (s.cfgReject b) := by
  have hraised : s.cfgReject b = (s.set1 b.rejectFld).raise n := by simp only [State.cfgReject, h]
  rw [hraised]
  exact ⟨(State.get_put_same s _ 1 b.rejectFld_bound.1).trans (by rw [b.rejectFld_bound.2]; rfl), rfl, .raise' (.set1' (.refl _ _ s))⟩

section
variable {s : State} {b : Blk} {f : Fld} {v : Nat} {k : State → State}

theorem State.liveGate_ok (h : s.adjust f v = .ok) : s.liveGate b f v k = k s := by simp only [State.liveGate, h]

theorem State.liveGate_uncovered (h : s.adjust f v = .uncovered) : s.liveGate b f v k = s := by simp only [State.liveGate, h]

theorem State.liveGate_outside (h : s.adjust f v = .outside) : s.liveGate b f v k = s.cfgReject b := by simp only [State.liveGate, h]

theorem State.quietGate_ok (h : s.adjust f v = .ok) {r : Bool} (hr : r = false) : s.quietGate b r f v k = k s := by
  simp only [State.quietGate, State.liveGate, h, hr, Bool.false_eq_true, if_false]

theorem State.quietGate_running (h : s.adjust f v = .ok) {r : Bool} (hr : r = true) : s.quietGate b r f v k = s.cfgReject b := by
  simp only [State.quietGate, State.liveGate, h, hr, if_true]
end

@[simp] theorem State.shadowGet_toShadow (s : State) (f : Fld) (v : Nat) (h : 0 < f.len) : (s.toShadow f v).shadowGet f = v % 2 ^ f.len := by
  have hmask : 0 < 2 ^ f.len - 1 := Nat.sub_pos_of_lt (Nat.one_lt_two_pow h.ne')
  have hlt : (2 ^ f.len - 1) % 2 ^ f.len = 2 ^ f.len - 1 := Nat.mod_eq_of_lt (Nat.sub_lt (Nat.two_pow_pos _) one_pos)
  simp [State.shadowGet, State.shadowed, State.toShadow, bitsOf_bitsPut_self, hlt, hmask.ne']

theorem bitsOf_lt (n lo len : Nat) : bitsOf n lo len < 2 ^ len := Nat.mod_lt _ (Nat.two_pow_pos _)

theorem State.get_lt (s : State) (f : Fld) : s.get f < 2 ^ f.len := bitsOf_lt _ _ _

theorem State.shadowGet_lt (s : State) (f : Fld) : s.shadowGet f < 2 ^ f.len := by
  unfold State.shadowGet
  split <;> exact bitsOf_lt _ _ _

@[simp] theorem State.shadowGet_put (s : State) (f g : Fld) (v : Nat) (h : f.apart g = true) : (s.put f v).shadowGet g = s.shadowGet g := by
  unfold State.shadowGet
  rw [State.get_put_other s f g v h]
  rfl

end Sys2Proof.Machine
end

section
/-!
Proofs about clock synthesis (chapter 02): the references' presence, the PLL's start and its lock.
The proofs are elaborated in turn: in one text, proofs that wait for each other would each hold a thread.
-/

set_option Elab.async false

namespace Sys2Proof.Machine

theorem State.divRestart_keeps (s : State) :
    Keeps [] [.clk] s s.divRestart :=
  .beside' (.refl _ _ _)

theorem State.coastStart_keeps (s : State) :
    Keeps [F.CLK_COAST_COAST_MS, F.CLK_COAST_COAST_CNT, F.CLK_STATUS_COAST] [.clk] s s.coastStart :=
  .ite' (.beside' (.refl _ _ _)) (.beside' (.put' (.incSat' (.put' (.beside' (.refl _ _ _))))))

theorem State.armCancel_keeps (s : State) :
    Keeps [F.CLK_CTRL_DIVSYNC_ARM] [.clk] s s.armCancel :=
  .beside' (.put' (.refl _ _ _))

/-! ### A coast begins (R75) -/

@[simp] theorem State.coastStart_get (s : State) (g : Fld) (h1 : Fld.apart F.CLK_STATUS_COAST g = true)
    (h2 : Fld.apart F.CLK_COAST_COAST_CNT g = true) (h3 : Fld.apart F.CLK_COAST_COAST_MS g = true) : s.coastStart.get g = s.get g :=
  s.coastStart_keeps.get_eq g (by simp [*])

@[simp] theorem State.coastStart_flag (s : State) (g : Fld) (h1 : Fld.apart F.CLK_STATUS_COAST g = true)
    (h2 : Fld.apart F.CLK_COAST_COAST_CNT g = true) (h3 : Fld.apart F.CLK_COAST_COAST_MS g = true) : s.coastStart.flag g = s.flag g := by
  simp only [State.flag, s.coastStart_get g h1 h2 h3]

@[simp] theorem State.coastStart_frozen (s : State) : s.coastStart.clk.frozen = true := by
  unfold State.coastStart; dsimp only; split <;> rfl

@[simp] theorem State.coastStart_flag_coast (s : State) : s.coastStart.flag F.CLK_STATUS_COAST = true := by
  unfold State.coastStart; dsimp only
  split
  · assumption
  · simp [State.incSat]

@[simp] theorem State.coastStart_get_coast (s : State) : s.coastStart.get F.CLK_STATUS_COAST = 1 :=
  State.get_one_of_flag s.coastStart_flag_coast

theorem State.coastStart_of_not_coasting (s : State) (h : s.flag F.CLK_STATUS_COAST = false) :
    s.coastStart.get F.CLK_COAST_COAST_CNT = satInc F.CLK_COAST_COAST_CNT.len (s.get F.CLK_COAST_COAST_CNT) ∧
      s.coastStart.get F.CLK_COAST_COAST_MS = 0 ∧ s.coastStart.clk.coastFrom = s.mono := by
  have := Nat.mod_eq_of_lt (satInc_lt F.CLK_COAST_COAST_CNT.len (s.get F.CLK_COAST_COAST_CNT))
  simp [State.coastStart, State.incSat, h] at this ⊢
  exact ⟨this, rfl⟩


/-- Settles O1: each event's branch read off, with what it sets, what it raises and what it leaves. -/
theorem referencePresenceAndLock : Obligations.ReferencePresenceAndLock := by
  refine ⟨fun s => ⟨fun ref present offset => ⟨_, rfl, ?_, ?_, (.beside' (.wr' (.put' (.refl _ _ _))))⟩,
    fun hon hlock hmut => ⟨_, if_pos (by simp [*]), ?_, rfl, ?_, rfl, rfl, (.beside' (.after (State.divRestart_keeps ..) (.put' (.refl _ _ _))))⟩,
    fun h => if_neg (by simp [*]), fun h1 h2 => ⟨_, if_pos (by simp [*]), rfl, rfl, (.beside' (.refl _ _ _))⟩,
    fun h => ⟨_, if_pos h, rfl, h, (.beside' (.refl _ _ _))⟩⟩, fun s => ⟨fun hon hlock hfr => ?_, fun hl => ?_, fun h => if_neg (by simp [*])⟩⟩
  · cases ref <;> cases present <;> simp [refOk, b2n]
  · cases ref <;> simp [refOk]
  · simp [State.divRestart]
  · simp [State.mono]
  · have hexec : exec .pllLockAcquire s = _ := if_pos (by simp [*])
    by_cases hc : s.flag F.CLK_STATUS_COAST = true
    · refine ⟨_, hexec.trans (if_pos hc), by simp, by simp, fun _ => ?_, (.put' (.put' (.put' (.refl _ _ _))))⟩
      simp [State.coastMs, satTo]
    · refine ⟨_, hexec.trans (if_neg hc), by simp, fun h => hc ?_, fun h => absurd h hc, (.put' (.refl _ _ _))⟩
      simpa [State.flag] using h
  · refine ⟨_, if_pos hl, ?_, ?_, by simp [State.set1], ?_, ?_, fun h => ?_, (.set1' (.after (State.coastStart_keeps ..) (.after (State.armCancel_keeps ..) (.put' (.refl _ _ _)))))⟩
    · simp [State.set1, State.armCancel]
    · exact State.get_one_of_flag (by simp [State.set1])
    · simp [State.set1, State.armCancel]
    · simp [State.set1]
    · obtain ⟨hcnt, hms, hfrom⟩ := (s.put F.CLK_STATUS_LOCK 0).armCancel.coastStart_of_not_coasting (by simpa [State.armCancel] using h)
      refine ⟨.trans (by simp [State.set1]) (hcnt.trans ?_), .trans (by simp [State.set1]) hms, hfrom⟩
      simp [State.armCancel]

end Sys2Proof.Machine
end

section
/-!
Proofs about clock synthesis (chapter 02): loss and return of the reference, the coast limit, writes of N and REF_SEL.
The proofs are elaborated in turn: in one text, proofs that wait for each other would each hold a thread.
-/

set_option Elab.async false

namespace Sys2Proof.Machine

theorem State.refSelect_keeps (s : State) (c : ℕ) :
    Keeps [F.CLK_N_N, F.CLK_STATUS_ACTIVE_REF, F.CLK_CTRL_REF_SEL, F.CLK_STATUS_DIV_ALIGNED, F.CLK_STATUS_N_PENDING, F.CLK_STICKY_LOCK_LOST, F.CLK_STATUS_LOCK, F.CLK_COAST_COAST_MS, F.CLK_COAST_COAST_CNT, F.CLK_STATUS_COAST, F.CLK_CTRL_DIVSYNC_ARM] [.clk, .shadow] s (s.refSelect c) :=
  .beside' (.after (State.coastStart_keeps ..) (.after (State.armCancel_keeps ..) (.dropShadow' (.ite' (.set1' (.put' (.put' (.put' (.put' (.put' (.put' (.refl _ _ _)))))))) (.put' (.put' (.put' (.put' (.put' (.refl _ _ _))))))))))

/-! ### A change of REF_SEL (R81) -/

theorem nNominal_lt (c : Nat) : nNominal c < 512 := by unfold nNominal; split <;> decide

theorem refCode_le (sel : RefSel) : refCode sel ≤ 1 := by cases sel <;> decide

/-- Settles O2: each event's branch read off; a change of REF_SEL by its update, with LOCK 1 and with LOCK 0. -/
theorem referenceLossAndFeedbackRatio : Obligations.ReferenceLossAndFeedbackRatio := by
  refine ⟨fun s => ⟨fun hon hlost => ⟨_, if_pos (by simp [*]), rfl, by simp [State.set1], ?_, ?_, ?_, ?_, (.beside' (.set1' (.after (State.coastStart_keeps ..) (.after (State.armCancel_keeps ..) (.put' (.refl _ _ _))))))⟩,
    fun hc hl hd => ⟨_, if_pos (by simp [*]), ?_, rfl, rfl, (.beside' (.stickyRaise' (.refl _ _ _)))⟩, fun _ h => if_neg (by simp [*]),
    fun hf => ⟨_, if_pos hf, rfl, rfl, ?_, (.beside' (.put' (.refl _ _ _)))⟩⟩, fun s => ⟨fun i v ha hp h1 h2 => ?_, fun i v ha hb => ?_, fun i v ha => ?_, fun hp hsh hf hd => ?_,
      fun i sel hne ha hr => ?_, fun i sel he ha hr => ?_, fun i sel ha hr => ?_⟩⟩
  · simp [State.set1, State.armCancel]
  · exact State.get_one_of_flag (by simp [State.set1])
  · simp [State.set1]
  · simp [State.set1, State.armCancel]
  · simp [State.stickyRaise, State.set1, State.raise, State.raiseAt]
  · simp
  · have hwrite : s.clkNWrite (bitsOf v.toNat 0 9) = _ := if_pos (by simp [*])
    refine ⟨_, congrArg Host.Outcome.next ((State.liveGate_ok ha).trans hwrite), ?_, ?_, ?_, (.put' (.toShadow' (.refl _ _ _)))⟩
    · simpa using Nat.mod_eq_of_lt (bitsOf_lt v.toNat 0 9)
    · simp
    · simp
  · have hwrite : s.clkNWrite (bitsOf v.toNat 0 9) = _ := if_neg (by simp [hb])
    exact ⟨_, congrArg Host.Outcome.next ((State.liveGate_ok ha).trans hwrite), s.cfgReject_refused _ _⟩
  · exact congrArg Host.Outcome.next (State.liveGate_uncovered ha)
  · refine ⟨_, if_pos ?_, ?_, ?_, rfl, (.beside' (.put' (.transfer' (.refl _ _ _))))⟩
    · cases h : s.clk.nChanged <;> simp [*]
    · simpa [State.transfer, hsh] using s.shadowGet_lt F.CLK_N_N
    · simp
  · have hwrite : s.refSelWrite (refCode sel) = _ := if_neg hne
    have hsel : refCode sel ≤ 1 := refCode_le sel
    have hn := nNominal_lt (refCode sel)
    refine ⟨_, congrArg Host.Outcome.next ((State.quietGate_ok ha hr).trans hwrite), ?_, ?_, ?_, ?_, ?_, ?_, ?_, ?_, ?_, ?_, ?_, ?_, ?_, (.after (State.refSelect_keeps ..) (.refl _ _ _))⟩
    all_goals cases hl : s.flag F.CLK_STATUS_LOCK <;> simp [State.refSelect, State.set1, State.armCancel, hl, hsel, hn]
  · have hwrite : s.refSelWrite (refCode sel) = _ := if_pos he
    exact congrArg Host.Outcome.next ((State.quietGate_ok ha hr).trans hwrite)
  · exact ⟨_, congrArg Host.Outcome.next (State.quietGate_running ha hr), s.cfgReject_refused _ _⟩

end Sys2Proof.Machine
end

section
/-!
Proofs about clock synthesis (chapter 02): the divider reset and the marks.
The proofs are elaborated in turn: in one text, proofs that wait for each other would each hold a thread.
-/

set_option Elab.async false

namespace Sys2Proof.Machine

/-! ### A mark's parts in the dividers (R65, R68) -/

theorem exec_syncMark_dividers (s : State) (off : Nat) (hseen : s.clk.markSeen = true) (harm : s.flag F.EPOCH_CTRL_MARK_ARM = false)
    (hal : s.flag F.EPOCH_STATUS_ALIGNED = false) : exec (.syncMark 10000 off) s = .next (s.markCounted.divMark true false off) := by
  rw [exec_syncMark_right s off hseen]
  simp [State.epochMark, s.markCounted_keeps.flag_eq, harm, hal]

@[simp] theorem State.markCounted_get_marksOk (s : State) : s.markCounted.get F.CLK_STATUS_MARKS_OK = 1 := by simp [State.markCounted]

@[simp] theorem State.divCheck_clk (s : State) (off : Nat) : (s.divCheck off).clk = s.clk := (s.divCheck_keeps off).2 .clk (by decide)

@[simp] theorem State.divCheck_get (s : State) (off : Nat) (g : Fld)
    (h : ∀ f ∈ [F.CLK_STATUS_DIV_ALIGNED, F.CLK_STICKY_DIV_SLIP], f.apart g = true) : (s.divCheck off).get g = s.get g :=
  (s.divCheck_keeps off).get_eq g h

@[simp] theorem State.markCounted_get (s : State) (g : Fld)
    (h : ∀ f ∈ [F.CLK_MARKS_MARK_CNT, F.CLK_STATUS_MARKS_OK], f.apart g = true) : s.markCounted.get g = s.get g := s.markCounted_keeps.get_eq g h

/-- Dividers armed since the mark before restart at this one. -/
theorem State.divArmMark_armed (s : State) (harm : s.flag F.CLK_CTRL_DIVSYNC_ARM = true) (hmark : s.clk.armMark = true) :
    s.divArmMark true false = { ((s.put F.CLK_STATUS_DIV_ALIGNED 1).put F.CLK_CTRL_DIVSYNC_ARM 0).divRestart with
      clk := { s.clk with vco := 0, armMark := false } } := by
  simp [State.divArmMark, State.divRestart, harm, hmark]

theorem State.divArmMark_unarmed (s : State) (ok wrong : Bool) (harm : s.flag F.CLK_CTRL_DIVSYNC_ARM = false) : s.divArmMark ok wrong = s := by
  simp [State.divArmMark, harm]

theorem State.divCheck_of_slip (s : State) (off : Nat) (hal : s.flag F.CLK_STATUS_DIV_ALIGNED = true) (hph : (s.clk.vco + off) % 40 ≠ 0) :
    s.divCheck off = ((s.set1 F.CLK_STICKY_DIV_SLIP).put F.CLK_STATUS_DIV_ALIGNED 0).raise FS.CLK := if_pos (by simp [*])

theorem State.divCheck_of_right (s : State) (off : Nat) (h : s.flag F.CLK_STATUS_DIV_ALIGNED = false ∨ (s.clk.vco + off) % 40 = 0) :
    s.divCheck off = s := if_neg (by rintro hslip; rcases h with h | h <;> simp [h] at hslip)

/-- A mark's part in a divider reset aligns the dividers or leaves their alignment. -/
theorem State.divArmMark_get_aligned (s : State) (ok wrong : Bool) (hal : s.get F.CLK_STATUS_DIV_ALIGNED = 1) :
    (s.divArmMark ok wrong).get F.CLK_STATUS_DIV_ALIGNED = 1 := by
  unfold State.divArmMark
  split
  · exact hal
  · split
    · simp [State.divRestart]
    · exact hal

@[simp] theorem State.markCounted_armMark (s : State) : s.markCounted.clk.armMark = s.clk.armMark := rfl


/-- Settles O3: a correctly spaced mark is counted, then judged by the dividers' check, then taken by an armed reset. -/
theorem dividerResetAndMarks : Obligations.DividerResetAndMarks := by
  refine fun s => ⟨fun i h1 h2 h3 => ?_, fun i h => ?_, fun off hseen harm hmark he1 he2 => ?_, fun off hph hseen hal he1 he2 => ?_,
    fun off hph hseen hal he1 he2 => ?_⟩
  · exact ⟨_, congrArg Host.Outcome.next (if_pos (by simp [*])), by simp, rfl, (.beside' (.put' (.refl _ _ _)))⟩
  · have hrefuse : s.divsyncArm = _ := if_neg (by simp [h])
    exact ⟨_, congrArg Host.Outcome.next hrefuse, s.cfgReject_refused _ _⟩
  · have harm' : (s.markCounted.divCheck off).flag F.CLK_CTRL_DIVSYNC_ARM = true := by simpa [State.flag] using harm
    refine ⟨_, (exec_syncMark_dividers s off hseen he1 he2).trans (congrArg _ (State.divArmMark_armed _ harm' (by simpa using hmark))), ?_, ?_, ?_, rfl,
      ?_, fun hal => ?_, ?_⟩
    · simp [State.divRestart]
    · simp [State.divRestart]
    · simp [State.divRestart]
    · simp [State.divPhases, dividers]
    · rw [State.divCheck_of_right _ off (.inl (by simpa [State.flag] using hal))]
      exact ⟨by simp [State.divRestart], rfl⟩
    · exact (.beside' (.after (State.divRestart_keeps ..) (.put' (.put' (.ite' (.after (State.divCheck_keeps ..) (.after (State.markCounted_keeps ..) (.refl _ _ _))) (.after (State.markCounted_keeps ..) (.refl _ _ _)))))))
  · have hm := s.markCounted.divCheck_of_slip off (by simpa [State.flag] using hal) hph
    refine ⟨_, exec_syncMark_dividers s off hseen he1 he2, ?_, ?_, fun harm => ?_,
      .after (s.markCounted.divMark_right_keeps off) (.after s.markCounted_keeps (.refl _ _ s))⟩
    · refine ((State.divArmMark_keeps _ _ _).get_eq _ (by decide)).trans ?_
      rw [if_pos rfl, hm]
      simp [State.set1]
    · refine (State.divArmMark_raised _ _ _).trans ?_
      rw [if_pos rfl, hm]
      rfl
    · have harm' : (s.markCounted.divCheck off).flag F.CLK_CTRL_DIVSYNC_ARM = false := by simpa [State.flag] using harm
      rw [State.divMark, if_pos rfl, State.divArmMark_unarmed _ _ _ harm', hm]
      exact ⟨by simp, rfl⟩
  · have hm := s.markCounted.divCheck_of_right off (.inr hph)
    refine ⟨_, (exec_syncMark_dividers s off hseen he1 he2).trans (congrArg (fun t => Host.Outcome.next (State.divArmMark t true false)) hm), ?_, ?_,
      .after (State.divArmMark_keeps _ _ _) (.after s.markCounted_keeps (.refl _ _ s))⟩
    · exact ((State.divArmMark_keeps _ _ _).get_eq _ (by decide)).trans (by simp)
    · exact State.divArmMark_get_aligned _ _ _ (by simpa [State.flag] using hal)

end Sys2Proof.Machine
end

section
/-!
Proofs about Epoch (chapter 03): the tick.
The proofs are elaborated in turn: in one text, proofs that wait for each other would each hold a thread.
-/

set_option Elab.async false

namespace Sys2Proof.Machine

/-- A tick of an unmuted clock (R84, R99, R100). -/
theorem State.tick_of_unmuted (s : State) (h : s.flag F.CLK_STATUS_MUTED = false) : s.tick =
    { s with
      epoch := ((s.epoch : Int) + 1 + s.ep.step).toNat % 2 ^ 64
      clk := { s.clk with vco := (s.clk.vco + 4) % 40 }
      ep := { s.ep with
        acc := (rateTick s.ep.acc (s.getS F.EPOCH_RATE_RATE)).1
        req := s.ep.req + (rateTick s.ep.acc (s.getS F.EPOCH_RATE_RATE)).2
        step := 0
        base := s.ep.base - ((((s.epoch : Int) + 1 + s.ep.step).toNat / 2 ^ 64 * 2 ^ 64 : Nat) : Int) } } := if_neg (by simp [h])

/-- The rate accumulator takes the rate, and gives a step back when it reaches a whole one in either direction (R100). -/
theorem rateTick_cases (acc r : Int) : ∃ d : Int, rateTick acc r = (acc + r - d * 1000000000, d) ∧ (1000000000 ≤ acc + r → d = 1) ∧
    (acc + r ≤ -1000000000 → d = -1) ∧ (-1000000000 < acc + r → acc + r < 1000000000 → d = 0) := by
  unfold rateTick
  dsimp only
  split
  · exact ⟨1, by simp, by omega⟩
  · split
    · exact ⟨-1, by simp, by omega⟩
    · exact ⟨0, by simp, by omega⟩

/-- Settles O5: the step of an empty queue is `State.tick`, written out for an unmuted clock. -/
theorem idleStepIsOneEpochTick : Obligations.IdleStepIsOneEpochTick := by
  refine fun s hempty => ⟨fun hmuted => ?_, fun hmuted => ?_⟩
  · rw [step_nil s hempty, State.tick, if_pos hmuted]
  · obtain ⟨d, htick, hd⟩ := rateTick_cases s.ep.acc (s.getS F.EPOCH_RATE_RATE)
    refine ⟨_, step_nil s hempty, ?_⟩
    rw [s.tick_of_unmuted hmuted, htick]
    refine ⟨rfl, rfl, fun h => ?_, fun h => ?_, fun h => ?_, ⟨d, rfl, rfl, hd⟩, .beside' (.refl _ _ s)⟩ <;> simp only [h] <;> omega

end Sys2Proof.Machine
end

section
/-!
Proofs about Epoch (chapter 03): loads, marks, reads, the capture, rate and slew.
The proofs are elaborated in turn: in one text, proofs that wait for each other would each hold a thread.
-/

set_option Elab.async false

namespace Sys2Proof.Machine

theorem State.ticksMove_keeps (s : State) (d : ℤ) :
    Keeps [] [.sens, .drive] s (s.ticksMove d) :=
  .beside' (.refl _ _ _)

theorem State.epochSet_keeps (s : State) (v : ℕ) :
    Keeps [] [.sens, .drive, .epoch, .ep, .diag] s (s.epochSet v) :=
  .beside' (.after (State.ticksMove_keeps ..) (.refl _ _ _))

theorem State.divMark_keeps (s : State) (ok : Bool) (wrong : Bool) (off : ℕ) :
    Keeps [F.CLK_STATUS_DIV_ALIGNED, F.CLK_CTRL_DIVSYNC_ARM, F.CLK_STICKY_DIV_SLIP] [.clk, .raised] s (s.divMark ok wrong off) :=
  .after (State.divArmMark_keeps ..) (.ite' (.after (State.divCheck_keeps ..) (.refl _ _ _)) (.refl _ _ _))

theorem State.markAlign_keeps (s : State) :
    Keeps [F.EPOCH_STATUS_MARK_ARMED, F.EPOCH_CTRL_MARK_ARM, F.EPOCH_STATUS_ALIGNED] [.sens, .drive, .epoch, .ep, .diag] s s.markAlign :=
  .after (State.epochSet_keeps ..) (.put' (.put' (.put' (.refl _ _ _))))

theorem State.cycAdvance_keeps (s : State) :
    Keeps [] [.draws, .plinth] s s.cycAdvance :=
  .ite' (.refl _ _ _) (.beside' (.drew' (.refl _ _ _)))

/-! ### A load and an alignment leave the ticks that have passed (R97, R98) -/

theorem State.mono_congr {s t : State} (he : t.epoch = s.epoch) (hp : t.ep = s.ep) : t.mono = s.mono := by rw [State.mono, State.mono, he, hp]

theorem State.epochSet_mono (s : State) (v : Nat) : (s.epochSet v).mono = s.mono := by
  simp only [State.mono, State.epochSet, State.ticksMove]
  congr 1
  omega

theorem coe_unsignedOf (len : Nat) (x : Int) : (unsignedOf len x : Int) = x % (2 ^ len : Nat) :=
  Int.toNat_of_nonneg (Int.emod_nonneg _ (by exact_mod_cast (Nat.two_pow_pos len).ne'))

theorem unsignedOf_lt (len : Nat) (x : Int) : unsignedOf len x < 2 ^ len := by
  have hpos : 0 < ((2 ^ len : Nat) : Int) := by exact_mod_cast Nat.two_pow_pos len
  exact_mod_cast (coe_unsignedOf len x).trans_lt (Int.emod_lt_of_pos x hpos)

/-- The aligned value: the multiple of 800,000 nearest to the distance from C, halves upward, and C on top. -/
theorem markValue_eq (l c : Nat) (q : Int) (h1 : 2 * ((l : Int) - c) < (2 * q + 1) * 800000) (h2 : (2 * q - 1) * 800000 ≤ 2 * ((l : Int) - c)) :
    (markValue l c : Int) = (q * 800000 + c) % 2 ^ 64 := by
  have hround : roundDiv ((l : Int) - c) 800000 = q := by
    simp only [roundDiv]
    omega
  rw [markValue, coe_unsignedOf, hround]
  rfl

/-- A correctly spaced mark at an armed Epoch aligns it; then the dividers take their part. -/
theorem exec_syncMark_armed (s : State) (off : Nat) (hseen : s.clk.markSeen = true) (harm : s.flag F.EPOCH_CTRL_MARK_ARM = true) :
    exec (.syncMark 10000 off) s = .next (s.markCounted.markAlign.divMark true false off) := by
  rw [exec_syncMark_right s off hseen]
  simp [State.epochMark, s.markCounted_keeps.flag_eq, harm]

@[simp] theorem State.epochSet_get (s : State) (v : Nat) (f : Fld) : (s.epochSet v).get f = s.get f := rfl

@[simp] theorem State.epochSet_epoch (s : State) (v : Nat) : (s.epochSet v).epoch = v := rfl

@[simp] theorem State.markCounted_epoch (s : State) : s.markCounted.epoch = s.epoch := rfl

/-! ### Reads and the capture (R88, R92, R106) -/

@[simp] theorem State.get_answer (s : State) (w : Word) (f : Fld) : (s.answer w).get f = s.get f := rfl

@[simp] theorem State.rd_answer (s : State) (w : Word) (a : Nat) : (s.answer w).rd a = s.rd a := rfl

@[simp] theorem State.answer_words (s : State) (w : Word) : (s.answer w).resp.words = [w] := rfl

/-! ### Rate and slew (R99 to R102) -/

theorem State.get_transfer (s : State) (f : Fld) (h : f.lo + f.len ≤ 32) : (s.transfer f).get f = s.shadowGet f := by
  unfold State.transfer
  split
  · exact (State.get_put_same s f _ h).trans (Nat.mod_eq_of_lt (s.shadowGet_lt f))
  · rename_i hnone
    rw [State.shadowGet, if_neg hnone]

theorem State.shadowGet_transfer_ne (s : State) (f g : Fld) (ha : g.addr ≠ f.addr) : (s.transfer f).shadowGet g = s.shadowGet g := by
  have hapart : f.apart g = true := by simp [Fld.apart, Ne.symm ha]
  have hshadow : (s.transfer f).shadow.get g.addr = s.shadow.get g.addr := by
    unfold State.transfer
    split
    · exact SMap.get_set_ne _ _ _ _ ha
    · rfl
  have hget : (s.transfer f).get g = s.get g :=
    (Keeps.transfer' (fs := [f]) (ps := [.shadow]) (.refl _ _ s)).get_eq g (by simpa using hapart)
  unfold State.shadowGet State.shadowed
  rw [hshadow, hget]

theorem signedOf_unsignedOf_24 (x : Int) (h1 : -8388608 ≤ x) (h2 : x < 8388608) : signedOf 24 (unsignedOf 24 x) = x := by
  simp only [signedOf, unsignedOf]
  norm_num
  split_ifs <;> omega

theorem signedOf_24_bounds (n : Nat) : -8388608 ≤ signedOf 24 n ∧ signedOf 24 n < 8388608 := by
  simp only [signedOf]
  norm_num
  split_ifs <;> omega

theorem dirOf_cases (x : Int) : (0 < x ∧ dirOf x = 1) ∨ (x < 0 ∧ dirOf x = -1) ∨ (x = 0 ∧ dirOf x = 0) := by
  unfold dirOf
  split_ifs <;> omega

/-- What waits for a slot has taken effect: the state in which the slot's step is taken. -/
def State.slotOpened (s : State) : State := (s.transfer F.EPOCH_RATE_RATE).transfer F.EPOCH_SLEW_SLEW

theorem State.slotOpened_get_rate (s : State) : s.slotOpened.get F.EPOCH_RATE_RATE = s.shadowGet F.EPOCH_RATE_RATE :=
  ((Keeps.transfer' (fs := [F.EPOCH_SLEW_SLEW]) (ps := [.shadow]) (.refl _ _ _)).get_eq _ (by decide)).trans (s.get_transfer _ (by decide))

theorem State.slotOpened_get_slew (s : State) : s.slotOpened.get F.EPOCH_SLEW_SLEW = s.shadowGet F.EPOCH_SLEW_SLEW :=
  (State.get_transfer _ _ (by decide)).trans (s.shadowGet_transfer_ne _ _ (by decide))

theorem State.slotOpened_ep (s : State) : s.slotOpened.ep = s.ep :=
  (Keeps.transfer' (fs := [F.EPOCH_RATE_RATE, F.EPOCH_SLEW_SLEW]) (ps := [.shadow]) (.transfer' (.refl _ _ s))).2 .ep (by decide)

theorem State.slotStep_of_req (s : State) (h : s.ep.req ≠ 0) :
    s.slotStep = { s with ep := { s.ep with req := s.ep.req - dirOf s.ep.req, step := dirOf s.ep.req } } := if_pos h

theorem State.slotStep_of_slew (s : State) (h : s.ep.req = 0) :
    s.slotStep = { s.putS F.EPOCH_SLEW_SLEW (s.getS F.EPOCH_SLEW_SLEW - dirOf (s.getS F.EPOCH_SLEW_SLEW)) with
      ep := { s.ep with step := dirOf (s.getS F.EPOCH_SLEW_SLEW) } } := if_neg (by simp [h])

/-- A slew step leaves the rest of the pending slew in the register. -/
theorem State.slotStep_getS_slew (s : State) (h : s.ep.req = 0) :
    s.slotStep.getS F.EPOCH_SLEW_SLEW = s.getS F.EPOCH_SLEW_SLEW - dirOf (s.getS F.EPOCH_SLEW_SLEW) := by
  obtain ⟨hlow, hhigh⟩ := signedOf_24_bounds (s.get F.EPOCH_SLEW_SLEW)
  have hdir := dirOf_cases (s.getS F.EPOCH_SLEW_SLEW)
  have hread : s.slotStep.getS F.EPOCH_SLEW_SLEW =
      signedOf 24 (unsignedOf 24 (s.getS F.EPOCH_SLEW_SLEW - dirOf (s.getS F.EPOCH_SLEW_SLEW)) % 2 ^ 24) := by
    rw [s.slotStep_of_slew h]
    simp [State.getS]
  have hsmall : unsignedOf 24 (s.getS F.EPOCH_SLEW_SLEW - dirOf (s.getS F.EPOCH_SLEW_SLEW)) % 2 ^ 24 =
      unsignedOf 24 (s.getS F.EPOCH_SLEW_SLEW - dirOf (s.getS F.EPOCH_SLEW_SLEW)) := Nat.mod_eq_of_lt (unsignedOf_lt _ _)
  rw [hread, hsmall]
  have hbound : -8388608 ≤ s.getS F.EPOCH_SLEW_SLEW ∧ s.getS F.EPOCH_SLEW_SLEW < 8388608 := ⟨hlow, hhigh⟩
  exact signedOf_unsignedOf_24 _ (by omega) (by omega)

theorem State.slotStep_keeps (s : State) : Keeps [F.EPOCH_SLEW_SLEW] [.ep] s s.slotStep := .ite' (.beside' (.refl _ _ s)) (.beside' (.putS' (.refl _ _ s)))

@[simp] theorem State.cycAdvance_epoch (s : State) : s.cycAdvance.epoch = s.epoch := by
  unfold State.cycAdvance
  dsimp only
  split <;> rfl

/-- The slot's flag and mark, set after its step. -/
def State.slotClosed (s t : State) : State :=
  { t.put F.EPOCH_STATUS_SLEWING (b2n (t.getS F.EPOCH_SLEW_SLEW != 0)) with ep := { t.ep with slot := s.epoch + 1 } }

theorem exec_epochSlewSlot_due (s : State) (h1 : s.epoch % 1024 = 0) (h2 : s.ep.slot ≠ s.epoch + 1) :
    exec .epochSlewSlot s = .next (s.slotClosed s.slotOpened.slotStep) := if_pos ⟨h1, h2⟩

@[simp] theorem State.slotClosed_get (s t : State) (g : Fld) (h : Fld.apart F.EPOCH_STATUS_SLEWING g = true) :
    (s.slotClosed t).get g = t.get g := State.get_put_other t _ g _ h

@[simp] theorem State.slotClosed_getS_slew (s t : State) : (s.slotClosed t).getS F.EPOCH_SLEW_SLEW = t.getS F.EPOCH_SLEW_SLEW := by
  simp [State.getS]

/-- Settles O6: loads and marks by `State.epochSet`, the slot by its three stages. -/
theorem epochLoadsReadsAndSteps : Obligations.EpochLoadsReadsAndSteps := by
  refine ⟨fun s => ⟨fun i h => ?_, fun i h => ⟨?_, ?_⟩, fun h => ?_, fun i h1 h2 h3 => ?_, fun i h1 h2 => ?_⟩, fun s off hseen harm => ?_,
    fun s => ⟨fun i => ⟨_, rfl, rfl, ?_, (.answer' (.wr' (.refl _ _ _)))⟩, fun i => ⟨_, rfl, rfl, ?_, (.answer' (.put' (.refl _ _ _)))⟩, fun i => ⟨_, rfl, ?_, (.put' (.refl _ _ _))⟩, fun h => ?_, fun h => if_neg (by simp [h])⟩,
    fun s => ⟨fun i v ha h1 h2 h3 => ?_, fun i v ha h => ?_, fun i v ha h => ?_, fun h1 h2 => ?_, fun h => if_neg (by simp [h])⟩⟩
  · have hload : s.epochLoad = _ := if_neg (by simp [h])
    exact ⟨_, congrArg Host.Outcome.next hload, by simp, rfl, (.beside' (.put' (.refl _ _ _)))⟩
  · have hload : s.epochLoad = _ := if_pos h
    exact ⟨_, congrArg Host.Outcome.next hload, s.cfgReject_refused _ _⟩
  · have hload : s.epochLoad = _ := if_pos h
    have harm : s.epochMarkArm = _ := if_pos h
    exact congrArg Host.Outcome.next (harm.trans hload.symm)
  · refine ⟨_, if_pos h, ?_, ?_, ?_, (.beside' (.after (State.epochSet_keeps ..) (.put' (.refl _ _ _))))⟩
    · show _ + _ = _
      simp
      omega
    · simp
    · exact State.epochSet_mono _ _
  · have harm : s.epochMarkArm = _ := (if_neg (by simp [h1])).trans (if_pos ⟨h2, h3⟩)
    exact ⟨_, congrArg Host.Outcome.next harm, by simp, by simp, (.put' (.put' (.refl _ _ _)))⟩
  · have harm : s.epochMarkArm = _ := (if_neg (by simp [h1])).trans (if_neg (by rintro ⟨a, b⟩; rcases h2 with h | h <;> simp_all))
    exact ⟨_, congrArg Host.Outcome.next harm, s.cfgReject_refused _ _⟩
  · refine ⟨_, exec_syncMark_armed s off hseen harm, fun q h1 h2 => ?_, ?_, ?_, ?_, ?_, ?_⟩
    · refine (congrArg _ ((State.divMark_right_keeps _ off).2 .epoch (by decide))).trans ?_
      simpa [State.markAlign, State.syncComp] using markValue_eq s.epoch (s.get F.EPOCH_SYNC_COMP_C) q h1 h2
    · exact ((State.divMark_right_keeps _ off).get_eq _ (by decide)).trans (by simp [State.markAlign])
    · exact ((State.divMark_right_keeps _ off).get_eq _ (by decide)).trans (by simp [State.markAlign])
    · exact ((State.divMark_right_keeps _ off).get_eq _ (by decide)).trans (by simp [State.markAlign])
    · have hdiv := State.divMark_right_keeps s.markCounted.markAlign off
      exact (State.mono_congr (hdiv.2 .epoch (by decide)) (hdiv.2 .ep (by decide))).trans (State.epochSet_mono _ _)
    · exact (.after (State.divMark_keeps ..) (.after (State.markAlign_keeps ..) (.after (State.markCounted_keeps ..) (.refl _ _ _))))
  · simp [w32]
  · simp
  · simp
  · refine ⟨_, if_pos h, ?_, ?_, ?_, ?_, (.wr' (.wr' (.wr' (.put' (.after (State.cycAdvance_keeps ..) (.refl _ _ _))))))⟩
    · simp
    · simp [w32]
    · simp [w32]
    · simp [w32]
  · have hw : s.epochRateWrite (bitsOf v.toNat 0 24) = _ := if_neg (by omega)
    refine ⟨_, congrArg Host.Outcome.next ((State.liveGate_ok ha).trans hw), ?_, (.toShadow' (.refl _ _ _))⟩
    simpa using Nat.mod_eq_of_lt (bitsOf_lt v.toNat 0 24)
  · have hw : s.epochRateWrite (bitsOf v.toNat 0 24) = _ := if_pos h
    exact ⟨_, congrArg Host.Outcome.next ((State.liveGate_ok ha).trans hw), s.cfgReject_refused _ _⟩
  · have hw : s.epochSlewWrite (bitsOf v.toNat 0 24) = _ := if_neg h
    refine ⟨_, congrArg Host.Outcome.next ((State.liveGate_ok ha).trans hw), ?_, (.toShadow' (.refl _ _ _))⟩
    simpa using Nat.mod_eq_of_lt (bitsOf_lt v.toNat 0 24)
  · have hslew : s.slotOpened.getS F.EPOCH_SLEW_SLEW = signedOf 24 (s.shadowGet F.EPOCH_SLEW_SLEW) :=
      congrArg (signedOf 24) s.slotOpened_get_slew
    have hep := s.slotOpened_ep
    have hdir := dirOf_cases s.ep.req
    have hdirS := dirOf_cases (signedOf 24 (s.shadowGet F.EPOCH_SLEW_SLEW))
    -- a rate step that waits goes first and leaves the slew
    have hrate (h : s.ep.req ≠ 0) : (s.slotClosed s.slotOpened.slotStep).ep.step = dirOf s.ep.req ∧
        (s.slotClosed s.slotOpened.slotStep).ep.req = s.ep.req - dirOf s.ep.req ∧
        (s.slotClosed s.slotOpened.slotStep).get F.EPOCH_SLEW_SLEW = s.shadowGet F.EPOCH_SLEW_SLEW := by
      rw [State.slotStep_of_req _ (by rwa [hep]), hep]
      exact ⟨rfl, rfl, (State.slotClosed_get _ _ _ (by decide)).trans s.slotOpened_get_slew⟩
    -- otherwise the slew takes one step towards 0
    have hsl (h : s.ep.req = 0) : (s.slotClosed s.slotOpened.slotStep).ep.step = dirOf (signedOf 24 (s.shadowGet F.EPOCH_SLEW_SLEW)) ∧
        (s.slotClosed s.slotOpened.slotStep).getS F.EPOCH_SLEW_SLEW =
          signedOf 24 (s.shadowGet F.EPOCH_SLEW_SLEW) - dirOf (signedOf 24 (s.shadowGet F.EPOCH_SLEW_SLEW)) := by
      have hreq : s.slotOpened.ep.req = 0 := by rwa [hep]
      rw [← hslew, State.slotClosed_getS_slew, State.slotStep_getS_slew _ hreq, State.slotStep_of_slew _ hreq]
      exact ⟨rfl, rfl⟩
    refine ⟨_, exec_epochSlewSlot_due s h1 h2, ?_, fun h => ?_, fun h => ?_, fun h hp => ?_, fun h hp => ?_, fun h hp => ?_, ?_,
      .beside' (.put' (.after (State.slotStep_keeps _) (.transfer' (.transfer' (.refl _ _ s)))))⟩
    · exact (State.slotClosed_get _ _ _ (by decide)).trans ((s.slotOpened.slotStep_keeps.get_eq _ (by decide)).trans s.slotOpened_get_rate)
    · obtain ⟨ha, hb, hc⟩ := hrate (by omega)
      exact ⟨by omega, by omega, hc⟩
    · obtain ⟨ha, hb, hc⟩ := hrate (by omega)
      exact ⟨by omega, by omega, hc⟩
    · obtain ⟨ha, hb⟩ := hsl h
      exact ⟨by omega, by omega⟩
    · obtain ⟨ha, hb⟩ := hsl h
      exact ⟨by omega, by omega⟩
    · obtain ⟨ha, hb⟩ := hsl h
      omega
    · exact (s.slotOpened.slotStep_keeps.2 .epoch (by decide)).trans
        ((Keeps.transfer' (fs := [F.EPOCH_RATE_RATE, F.EPOCH_SLEW_SLEW]) (ps := [.shadow]) (.transfer' (.refl _ _ s))).2 .epoch (by decide))

end Sys2Proof.Machine
end

section
/-!
Proofs about the scheduled-action table (chapter 03): arming and disarming.
The proofs are elaborated in turn: in one text, proofs that wait for each other would each hold a thread.
-/

set_option Elab.async false

namespace Sys2Proof.Machine

/-! ### SCHED_CTRL's ARM and DISARM (R103 to R105) -/

theorem exec_schedArm_idle (s : State) (i : Initiator) (e : Fin 32) (h : s.schedState e ≠ 1) : exec (.schedArm i e) s = .next (s.schedArm i e) := by
  have hctrl : exec (.schedArm i e) s = .next (s.schedCtrl i e 1#32) := rfl
  rw [hctrl]
  simp [State.schedCtrl, h, bitOf]

theorem exec_schedDisarm_armed (s : State) (i : Initiator) (e : Fin 32) (h : s.schedState e = 1) : exec (.schedDisarm i e) s = .next (s.schedDisarm e) := by
  have hctrl : exec (.schedDisarm i e) s = .next (s.schedCtrl i e 2#32) := rfl
  rw [hctrl]
  simp [State.schedCtrl, h, bitOf]

/-- Settles O10: the writes of ARM and of DISARM, case by case. -/
theorem scheduleEntriesArmAndDisarm : Obligations.ScheduleEntriesArmAndDisarm := by
  refine fun s i e => ⟨fun hidle hmay hrep hlead => ?_, fun hidle hmay hrep hlate => ?_, fun hidle hbad => ?_, fun harmed hlead => ?_, fun harmed hlate => ?_⟩
  · have hrep' : (s.rd (R.SCHED_REPEAT e)).toNat = 0 ∨ 800 ≤ (s.rd (R.SCHED_REPEAT e)).toNat := hrep.imp_left fun h => by simp [h]
    have hgo : s.schedArm i e = _ := (if_neg (by simp [hmay] at hrep' ⊢; omega)).trans (if_neg (by omega))
    refine ⟨_, (exec_schedArm_idle s i e hidle).trans (congrArg Host.Outcome.next hgo), ?_, ?_, (.beside' (.put' (.refl _ _ _)))⟩
    · simp [State.schedState]
    · simp
  · have hrep' : (s.rd (R.SCHED_REPEAT e)).toNat = 0 ∨ 800 ≤ (s.rd (R.SCHED_REPEAT e)).toNat := hrep.imp_left fun h => by simp [h]
    have hgo : s.schedArm i e = _ := (if_neg (by simp [hmay] at hrep' ⊢; omega)).trans (if_pos (by omega))
    refine ⟨_, (exec_schedArm_idle s i e hidle).trans (congrArg Host.Outcome.next hgo), ?_, ?_, ?_, rfl, (.stickyRaise' (.set1' (.refl _ _ _)))⟩
    · have hne : 1073872904 ≠ 1073873176 + 32 * (e : Nat) := by omega
      simp [State.schedState, hne]
    · simp
    · simp
  · have hgo : s.schedArm i e = _ := if_pos (by rcases hbad with h | h <;> simp [h])
    refine ⟨_, (exec_schedArm_idle s i e hidle).trans (congrArg Host.Outcome.next hgo), ?_, s.cfgReject_refused _ _⟩
    exact (s.cfgReject_refused .epoch FS.EPOCH).2.2.get_eq _ (by simp [Blk.rejectFld])
  · have hgo : s.schedDisarm e = _ := if_pos hlead
    exact ⟨_, (exec_schedDisarm_armed s i e harmed).trans (congrArg Host.Outcome.next hgo), by simp [State.schedState], (.put' (.refl _ _ _))⟩
  · have hgo : s.schedDisarm e = _ := if_neg (by omega)
    exact ⟨_, (exec_schedDisarm_armed s i e harmed).trans (congrArg Host.Outcome.next hgo), harmed, by simp, (.beside' (.refl _ _ _))⟩

end Sys2Proof.Machine
end

section
/-!
Proofs about the reset state (chapter 19).
The proofs are elaborated in turn: in one text, proofs that wait for each other would each hold a thread.
-/

set_option Elab.async false

namespace Sys2Proof.Machine

theorem State.reset_canonical : State.reset.canonical = true := by
  rw [State.canonical_iff]
  exact ⟨resetRegs_wf, rfl, rfl, rfl⟩

/-- Settles O60: the canonical form from that of the reset table, every value read from the table by the kernel. -/
theorem resetStateIsAsStated : Obligations.ResetStateIsAsStated := by
  refine ⟨⟨State.reset_canonical, rfl, rfl⟩, ?_⟩
  decide +kernel

end Sys2Proof.Machine
end

section
/-!
SUPPORT. The blocks that the updates of the PWM units and of the late grid start reach, one lemma per function of the model.
The proofs are elaborated in turn: in one text, proofs that wait for each other would each hold a thread.
-/

set_option Elab.async false

namespace Sys2Proof.Machine

theorem State.unitPair_lt {s : State} {u p : Nat} (h : s.unitPair u = some p) : p < 6 := List.mem_range.1 (List.mem_of_find?_eq_some h)

theorem commitFields_zone {u : Nat} (hu : u < 14) {f : Fld} (hf : f ∈ commitFields u) : (R.PWM_CTRL 0) ≤ f.addr ∧ f.addr < R.PWM_CTRL 0 + 0x10000 := by
  simp only [commitFields, List.mem_cons, List.mem_nil_iff, or_false] at hf
  rcases hf with rfl | rfl | rfl | rfl | rfl | rfl <;> simp <;> omega

theorem State.periodPairs_lt {s : State} {u p : Nat} (h : p ∈ s.periodPairs u) : p < 6 := List.mem_range.1 (List.mem_of_mem_filter h)

theorem State.raisePeriod_outside (s : State) (u : ℕ) (hu : u < 14) :
    KeepsOutside [zone (R.PWM_CTRL 0), zone (R.LP_CTRL 0)] [] s (s.raisePeriod u) :=
  .forEach' (.ite' (.set1' (.put' (.refl _ _ _))) (.refl _ _ _)) (fun x hx _ => have hx := State.periodPairs_lt hx; .ite' (.set1' (.put' (.refl _ _ _))) (.refl _ _ _))

theorem State.transferFix_outside (s : State) (u : ℕ) (period : Bool) (hu : u < 14) :
    KeepsOutside [zone (R.PWM_CTRL 0), zone (R.LP_CTRL 0)] [] s (s.transferFix u period) :=
  .comp (.ite' (.set1' (.put' (.put' (.ite' (.set1' (.put' (.put' (.put' (.refl _ _ _))))) (.put' (.refl _ _ _)))))) (.ite' (.set1' (.put' (.put' (.put' (.refl _ _ _))))) (.put' (.refl _ _ _)))) (.ite' (.after (State.raisePeriod_outside _ _ (by omega)) (.refl _ _ _)) (.refl _ _ _))

theorem State.transferAll_outside (s : State) (u : ℕ) (hu : u < 14) :
    KeepsOutside [zone (R.PWM_CTRL 0), zone (R.LP_CTRL 0)] [.shadow] s (s.transferAll u) :=
  .after (State.transferFix_outside _ _ _ hu)
    (.foldl' (.refl _ _ _) fun _ hf _ => .transfer' (.refl _ _ _) ⟨_, .head _, commitFields_zone hu hf⟩)

theorem State.setPwm_outside (s : State) (u : ℕ) (p : PwmUnit) :
    KeepsOutside [] [.pwm] s (s.setPwm u p) :=
  .beside' (.refl _ _ _)

theorem State.takeSwaps_outside (s : State) (u : ℕ) (ok : SwapW → Bool) (hu : u < 14) :
    KeepsOutside [zone (R.PWM_CTRL 0)] [.pwm] s (s.takeSwaps u ok) :=
  .after (State.setPwm_outside ..) (.foldl' (.refl _ _ _) (fun x hx _ => have hx := (by simpa using hx); .put' (.refl _ _ _)))

theorem State.enterHeld_outside (s : State) (u : ℕ) :
    KeepsOutside [] [.pwm, .shadow] s (s.enterHeld u) :=
  .after (State.setPwm_outside ..) (.foldl' (.refl _ _ _) (fun _ _ _ => .toShadow' (.refl _ _ _)))

theorem State.modPwm_outside (s : State) (u : ℕ) (f : PwmUnit → PwmUnit) :
    KeepsOutside [] [.pwm] s (s.modPwm u f) :=
  .beside' (.refl _ _ _)

theorem State.logPeriod_outside (s : State) (u : ℕ) (t : ℕ) :
    KeepsOutside [] [.pwm] s (s.logPeriod u t) :=
  .after (State.modPwm_outside ..) (.refl _ _ _)

theorem State.countPulses_outside (s : State) (u : ℕ) (drop : ℕ) (stretch : ℕ) (hu : u < 14) :
    KeepsOutside [zone (R.PWM_CTRL 0)] [] s (s.countPulses u drop stretch) :=
  .put' (.put' (.refl _ _ _))

theorem State.formLevels_outside (s : State) (u : ℕ) (hu : u < 14) :
    KeepsOutside [zone (R.PWM_CTRL 0)] [.pwm] s (s.formLevels u) := by
  unfold State.formLevels
  dsimp only
  exact .ite' (.after (State.setPwm_outside ..) (.after (State.countPulses_outside _ _ _ _ (by omega)) (.refl _ _ _))) (.after (State.setPwm_outside ..) (.after (State.countPulses_outside _ _ _ _ (by omega)) (.refl _ _ _)))

theorem State.periodClear_outside (s : State) (u : ℕ) (b : ℕ) :
    KeepsOutside [] [.wcmp] s (s.periodClear u b) :=
  .forEach' (.refl _ _ _) (fun _ _ _ => .ite' (.beside' (.refl _ _ _)) (.refl _ _ _))

theorem State.wgTrigger_outside (s : State) (g : ℕ) (e : ℕ) :
    KeepsOutside [] [.sens] s (s.wgTrigger g e) :=
  .ite' (.beside' (.refl _ _ _)) (.refl _ _ _)

theorem State.trigger_outside (s : State) (src : ℕ) (unit : ℕ) (e : ℕ) :
    KeepsOutside [] [.sens] s (s.trigger src unit e) :=
  .forEach' (.refl _ _ _) (fun _ _ _ => .after (State.wgTrigger_outside ..) (.refl _ _ _))

theorem State.periodTrigger_outside (s : State) (u : ℕ) (b : ℕ) :
    KeepsOutside [] [.sens] s (s.periodTrigger u b) := by
  unfold State.periodTrigger
  dsimp only
  exact .after (State.trigger_outside ..) (.forEach' (.refl _ _ _) (fun _ _ _ => .beside' (.refl _ _ _)))

theorem State.periodStart_outside (s : State) (u : ℕ) (b : ℕ) (hu : u < 14) :
    KeepsOutside [zone (R.PWM_CTRL 0)] [.pwm, .wcmp, .sens] s (s.periodStart u b) :=
  .after (State.periodClear_outside ..) (.after (State.periodTrigger_outside ..) (.after (State.modPwm_outside ..) (.put' (.wr' (.after (State.logPeriod_outside ..) (.refl _ _ _))))))

theorem State.startUnit_outside (s : State) (u : ℕ) (hu : u < 14) :
    KeepsOutside [zone (R.PWM_CTRL 0), zone (R.LP_CTRL 0)] [.raised, .shadow, .pwm, .wcmp, .sens] s (s.startUnit u) :=
  .ite' (.cfgReject' (.refl _ _ _)) (.ite' (.refl _ _ _) (.comp (.ite' (.after (State.periodStart_outside _ _ _ (by omega)) (.refl _ _ _)) (.after (State.modPwm_outside ..) (.refl _ _ _))) (.after (State.logPeriod_outside ..) (.after (State.formLevels_outside _ _ (by omega)) (.after (State.modPwm_outside ..) (.put' (.wr' (.put' (.after (State.transferAll_outside _ _ (by omega)) (.after (State.takeSwaps_outside _ _ _ (by omega)) (.after (State.enterHeld_outside ..) (.refl _ _ _))))))))))))

theorem State.pwmStartWrite_outside (s : State) (i : Initiator) (v : Word) :
    KeepsOutside [zone (R.PWM_CTRL 0), zone (R.LP_CTRL 0)] [.raised, .shadow, .pwm, .wcmp, .sens] s (s.pwmStartWrite i v) :=
  .ite' (.forEach' (.refl _ _ _) (fun x hx _ => have hx := lt_of_mem_maskIdx hx; .after (State.startUnit_outside _ _ (by omega)) (.refl _ _ _))) (.cfgReject' (.refl _ _ _))

theorem State.stopEdges_outside (s : State) (u : ℕ) (t : ℕ) (hu : u < 14) :
    KeepsOutside [zone (R.PWM_CTRL 0)] [.pwm] s (s.stopEdges u t) :=
  .after (State.modPwm_outside ..) (.put' (.put' (.refl _ _ _)))

theorem State.loopToShadow_outside (s : State) (vals : List HeldW) :
    KeepsOutside [] [.shadow] s (s.loopToShadow vals) :=
  .foldl' (.refl _ _ _) (fun _ _ _ => .toShadow' (.refl _ _ _))

theorem State.noteHolds_outside (s : State) :
    KeepsOutside [] [.pwm, .diag] s s.noteHolds :=
  .forEach' (.forEach' (.refl _ _ _) (fun _ _ _ => .ite' (.beside' (.refl _ _ _)) (.refl _ _ _))) (fun _ _ _ => .beside' (.refl _ _ _))

theorem State.maintEnd_outside (s : State) (c : ℕ) (r : MaintResult) (hc : c < 14) :
    KeepsOutside [zone R.DIAG_MAINT_REQ] [] s (s.maintEnd c r) :=
  .ite' (.put' (.put' (.put' (.refl _ _ _)))) (.refl _ _ _)

theorem State.ivSlots_outside (s : State) (p : ℕ) (on : Word) (v : Word) :
    KeepsOutside [] [.shadow, .mem] s (s.ivSlots p on v) :=
  .dropShadow' (.dropShadow' (.wrW' (.wrW' (.refl _ _ _))))

theorem State.ivFinish_outside (s : State) (x : ℕ) (r : MaintResult) (hx : x < 10) :
    KeepsOutside [zone R.DIAG_MAINT_REQ] [.pwm, .diag, .shadow, .mem] s (s.ivFinish x r) :=
  .after (State.noteHolds_outside ..) (.after (State.maintEnd_outside _ _ _ (by unfold Act.ivTrace; omega)) (.after (State.ivSlots_outside ..) (.refl _ _ _)))

theorem State.ivAbort_outside (s : State) (x : ℕ) (hx : x < 10) :
    KeepsOutside [zone R.DIAG_MAINT_REQ] [.pwm, .diag, .shadow, .mem] s (s.ivAbort x) :=
  .ite' (.after (State.ivFinish_outside _ _ _ (by omega)) (.refl _ _ _)) (.refl _ _ _)

theorem State.ivStopped_outside (s : State) (u : ℕ) :
    KeepsOutside [zone R.DIAG_MAINT_REQ] [.pwm, .diag, .shadow, .mem] s (s.ivStopped u) :=
  .cases' (fun _ => .after (State.ivAbort_outside _ _ (by omega)) (.refl _ _ _)) (fun _ => (.refl _ _ _))

theorem State.stopUnit_outside (s : State) (u : ℕ) (hu : u < 14) :
    KeepsOutside [zone (R.PWM_CTRL 0), zone R.DRV_STATUS, zone R.DIAG_MAINT_REQ] [.pwm, .shadow, .drive, .diag, .mem] s (s.stopUnit u) :=
  .ite' (.ite' (.after (State.stopEdges_outside _ _ _ (by omega)) (.refl _ _ _)) (.refl _ _ _)) (.comp (.comp (.after (State.ivStopped_outside ..) (.ite' (.beside' (.refl _ _ _)) (.put' (.after (State.stopEdges_outside _ _ _ (by omega)) (.beside' (.refl _ _ _)))))) (.cases' (fun _ => .put' (.refl _ _ _)) (fun _ => (.refl _ _ _)))) (.after (State.modPwm_outside ..) (.put' (.after (State.enterHeld_outside ..) (.foldl' (.refl _ _ _) (fun _ _ _ => .after (State.loopToShadow_outside ..) (.refl _ _ _)))))))

theorem State.stopAt_outside (s : State) (u : ℕ) (t : ℕ) (hu : u < 14) :
    KeepsOutside [zone (R.PWM_CTRL 0), zone R.DRV_STATUS, zone R.DIAG_MAINT_REQ] [.pwm, .shadow, .drive, .diag, .mem, .ep] s (s.stopAt u t) :=
  .beside' (.after (State.stopUnit_outside _ _ (by omega)) (.refl _ _ _))

theorem State.pwmStopWrite_outside (s : State) (i : Initiator) (v : Word) :
    KeepsOutside [zone (R.PWM_CTRL 0), zone R.DRV_STATUS, zone R.DIAG_MAINT_REQ] [.pwm, .shadow, .drive, .diag, .mem, .ep, .raised] s (s.pwmStopWrite i v) :=
  .ite' (.forEach' (.refl _ _ _) (fun x hx _ => have hx := lt_of_mem_maskIdx hx; .after (State.stopAt_outside _ _ _ (by omega)) (.refl _ _ _))) (.cfgReject' (.refl _ _ _))

theorem State.judgeCommit_outside (s : State) (u : ℕ) (a : ℕ) (hu : u < 14) :
    KeepsOutside [zone (R.PWM_CTRL 0)] [.pwm] s (s.judgeCommit u a) :=
  .after (State.modPwm_outside ..) (.ite' (.refl _ _ _) (.set1' (.refl _ _ _)))

theorem State.commitUnit_outside (s : State) (u : ℕ) (hu : u < 14) :
    KeepsOutside [zone (R.LP_CTRL 0), zone (R.PWM_CTRL 0)] [.raised, .pwm] s (s.commitUnit u) := by
  unfold State.commitUnit
  split
  · exact have hb := State.unitPair_lt ‹_ = some _›; .cfgReject' (.refl _ _ _)
  · exact .ite' (.set1' (.refl _ _ _)) (.ite' (.refl _ _ _) (.ite' (.refl _ _ _) (.comp (.ite' (.refl _ _ _) (.after (State.judgeCommit_outside _ _ _ (by omega)) (.refl _ _ _))) (.after (State.modPwm_outside ..) (.put' (.refl _ _ _))))))

theorem State.pwmCommitWrite_outside (s : State) (v : Word) :
    KeepsOutside [zone (R.LP_CTRL 0), zone (R.PWM_CTRL 0)] [.raised, .pwm] s (s.pwmCommitWrite v) :=
  .forEach' (.refl _ _ _) (fun x hx _ => have hx := lt_of_mem_maskIdx hx; .after (State.commitUnit_outside _ _ (by omega)) (.refl _ _ _))

theorem State.modSide_outside (s : State) (grid : Bool) (f : SideState → SideState) :
    KeepsOutside [] [.sens] s (s.modSide grid f) :=
  .beside' (.refl _ _ _)

theorem State.modCh_outside (s : State) (k : ℕ) (f : ChState → ChState) :
    KeepsOutside [] [.sens] s (s.modCh k f) :=
  .beside' (.refl _ _ _)

theorem State.chBroken_outside (s : State) (k : ℕ) (i : ℕ × ℕ) :
    KeepsOutside [] [.sens] s (s.chBroken k i) :=
  .after (State.modCh_outside ..) (.refl _ _ _)

theorem State.calStart_outside (s : State) (grid : Bool) :
    KeepsOutside [zone R.SENSG_STATUS, zone R.SENSP_STATUS] [.sens] s (s.calStart grid) :=
  .forEach' (.after (State.modSide_outside ..) (.put' (.refl _ _ _) (by unfold calBusyF sideF; split <;> decide))) (fun _ _ _ => .after (State.chBroken_outside ..) (.refl _ _ _))

theorem State.maintStart_outside (s : State) (c : ℕ) (hc : c < 14) :
    KeepsOutside [zone R.DIAG_MAINT_REQ] [] s (s.maintStart c) :=
  .incSat' (.put' (.refl _ _ _))

theorem State.wcTestBusy_outside (s : State) (q : List ℕ) :
    KeepsOutside [zone R.WCMPG_STATUS, zone R.WCMPP_STATUS] [] s (s.wcTestBusy q) :=
  .put' (.put' (.refl _ _ _))

theorem State.modHb_outside (s : State) (h : ℕ) (f : HalfBridge → HalfBridge) :
    KeepsOutside [] [.drive] s (s.modHb h f) :=
  .beside' (.refl _ _ _)

theorem State.hbOff_outside (s : State) (h : ℕ) (hh : h < 8) :
    KeepsOutside [zone R.DRV_STATUS] [.drive] s (s.hbOff h) :=
  .after (State.modHb_outside ..) (.put' (.put' (.put' (.put' (.refl _ _ _)))))

theorem State.hbHoldOff_outside (s : State) :
    KeepsOutside [zone R.DRV_STATUS] [.drive] s s.hbHoldOff :=
  .forEach' (.refl _ _ _) (fun x hx _ => have hx := List.mem_range.1 hx; .ite' (.after (State.hbOff_outside _ _ (by omega)) (.refl _ _ _)) (.refl _ _ _))

theorem State.modLane_outside (s : State) (l : ℕ) (f : Lane → Lane) :
    KeepsOutside [] [.drive] s (s.modLane l f) :=
  .beside' (.refl _ _ _)

theorem State.laneTrip_outside (s : State) (l : ℕ) (after : ℕ) (hl : l < 6) :
    KeepsOutside [zone R.LANE_STATUS] [.drive] s (s.laneTrip l after) :=
  .ite' (.after (State.modLane_outside ..) (.wr' (.put' (.refl _ _ _)))) (.ite' (.after (State.modLane_outside ..) (.refl _ _ _)) (.refl _ _ _))

theorem State.holdBegins_outside (s : State) (groups : ℕ) :
    KeepsOutside [zone R.DRV_STATUS, zone R.LANE_STATUS] [.drive, .pwm, .diag] s (s.holdBegins groups) :=
  .after (State.noteHolds_outside ..) (.forEach' (.after (State.hbHoldOff_outside ..) (.refl _ _ _)) (fun x hx _ => have hx := List.mem_range.1 hx; .ite' (.after (State.laneTrip_outside _ _ _ (by omega)) (.refl _ _ _)) (.refl _ _ _)))

theorem State.wcHold_outside (s : State) (before : ℕ) :
    KeepsOutside [zone R.DRV_STATUS, zone R.LANE_STATUS] [.drive, .pwm, .diag] s (s.wcHold before) :=
  .after (State.holdBegins_outside ..) (.refl _ _ _)

theorem State.vkxNote_outside (s : State) (hi : Bool) (lo : Bool) :
    KeepsOutside [] [.relay] s (s.vkxNote hi lo) :=
  .beside' (.refl _ _ _)

theorem State.wcOut_outside (s : State) (c : ℕ) (hi : Bool) (lo : Bool) (hc : c < 24) :
    KeepsOutside [zone R.WCMPP_STATUS, zone R.WCMPG_STATUS] [.relay] s (s.wcOut c hi lo) :=
  .put' (.put' (.ite' (.after (State.vkxNote_outside ..) (.refl _ _ _)) (.refl _ _ _)) (by dsimp; split <;> simp <;> omega)) (by dsimp; split <;> simp <;> omega)

theorem State.wcOutAt_outside (s : State) (c : ℕ) (x : ℚ) (hc : c < 24) :
    KeepsOutside [zone R.WCMPP_STATUS, zone R.WCMPG_STATUS] [.relay] s (s.wcOutAt c x) :=
  .after (State.wcOut_outside _ _ _ _ (by omega)) (.refl _ _ _)

theorem State.wcTestOut_outside (s : State) (c : ℕ) (hc : c < 24) :
    KeepsOutside [zone R.WCMPP_STATUS, zone R.WCMPG_STATUS] [.relay] s (s.wcTestOut c) := by
  unfold State.wcTestOut
  split
  · exact .after (State.wcOutAt_outside _ _ _ (by omega)) (.refl _ _ _)
  · exact (.refl _ _ _)

theorem State.modWc_outside (s : State) (c : ℕ) (f : WcState → WcState) :
    KeepsOutside [] [.wcmp] s (s.modWc c f) :=
  .beside' (.refl _ _ _)

theorem State.wcTestBegin_outside (s : State) (c : ℕ) (hc : c < 24) :
    KeepsOutside [zone R.DRV_STATUS, zone R.LANE_STATUS, zone R.WCMPP_STATUS, zone R.WCMPG_STATUS] [.drive, .pwm, .diag, .relay, .wcmp] s (s.wcTestBegin c) :=
  .after (State.wcHold_outside ..) (.after (State.wcTestOut_outside _ _ (by omega)) (.after (State.modWc_outside ..) (.put' (.put' (.refl _ _ _) (by dsimp; split <;> simp <;> omega)) (by dsimp; split <;> simp <;> omega))))

theorem State.wcTestQueue_outside (s : State) (q : List ℕ) (hq : ∀ c ∈ q, c < 24) :
    KeepsOutside [zone R.WCMPG_STATUS, zone R.WCMPP_STATUS, zone R.DRV_STATUS, zone R.LANE_STATUS] [.wcmp, .drive, .pwm, .diag, .relay] s (s.wcTestQueue q) := by
  unfold State.wcTestQueue
  cases q with
  | nil => exact .beside' (.after (State.wcTestBusy_outside ..) (.refl _ _ _))
  | cons c q => exact .after (State.wcTestBegin_outside _ _ (hq c (by simp))) (.beside' (.after (State.wcTestBusy_outside ..) (.refl _ _ _)))

theorem State.lateNext_outside (s : State) :
    KeepsOutside [zone R.SENSG_STATUS, zone R.SENSP_STATUS, zone R.DIAG_MAINT_REQ, zone R.WCMPG_STATUS, zone R.WCMPP_STATUS, zone R.DRV_STATUS, zone R.LANE_STATUS, zone R.SYS_ID] [.start, .sens, .diag, .wcmp, .drive, .pwm, .relay] s s.lateNext := by
  unfold State.lateNext
  dsimp only
  exact .ite' (.beside' (.after (State.calStart_outside ..) (.after (State.maintStart_outside _ _ (by omega)) (.refl _ _ _)))) (.ite' (.beside' (.after (State.wcTestQueue_outside _ _ (by simp <;> omega)) (.beside' (.after (State.maintStart_outside _ _ (by omega)) (.refl _ _ _))))) (.ite' (.beside' (.set1' (.refl _ _ _))) (.refl _ _ _)))

end Sys2Proof.Machine
end

section
/-!
Proofs about PWM generation (chapter 08): several units one after another, and a unit's run through a start.
The proofs are elaborated in turn: in one text, proofs that wait for each other would each hold a thread.
-/

set_option Elab.async false

namespace Sys2Proof.Machine

/-! ### Updates of several units, one after another -/

section
variable {ks : List Nat} {g : State → Nat → State}

/-- What every update of a run keeps, the run keeps. -/
theorem State.forEach_inv {P : State → Prop} (h : ∀ k ∈ ks, ∀ t, P t → P (g t k)) : ∀ s, P s → P (s.forEach ks g) := by
  induction ks with
  | nil => exact fun _ hs => hs
  | cons k ks ih => exact fun s hs => ih (fun j hj => h j (List.mem_cons_of_mem _ hj)) _ (h k (by simp) s hs)

/-- A member's update turns P into Q, the others keep both: after the run Q holds. -/
theorem State.forEach_at {P Q : State → Prop} {u : Nat} (hnd : ks.Nodup) (hu : u ∈ ks) (hbefore : ∀ k ∈ ks, k ≠ u → ∀ t, P t → P (g t k))
    (hself : ∀ t, P t → Q (g t u)) (hafter : ∀ k ∈ ks, k ≠ u → ∀ t, Q t → Q (g t k)) : ∀ s, P s → Q (s.forEach ks g) := by
  induction ks with
  | nil => cases hu
  | cons k ks ih =>
    intro s hs
    obtain ⟨hk, hnd'⟩ := List.nodup_cons.1 hnd
    by_cases hku : k = u
    · subst hku
      exact State.forEach_inv (fun j hj t => hafter j (List.mem_cons_of_mem _ hj) (fun e => hk (e ▸ hj)) t) _ (hself s hs)
    · exact ih hnd' ((List.mem_cons.1 hu).resolve_left (Ne.symm hku)) (fun j hj => hbefore j (List.mem_cons_of_mem _ hj))
        (fun j hj => hafter j (List.mem_cons_of_mem _ hj)) _ (hbefore k (by simp) hku s hs)

end

theorem maskIdx_nodup (n m : Nat) : (maskIdx n m).Nodup := List.nodup_range.filter _

theorem mem_maskIdx {n m k : Nat} : k ∈ maskIdx n m ↔ k < n ∧ bitOf m k = true := by simp [maskIdx]

/-! ### A unit's run: its state, and its counter's run and start -/

/-- A counter's run: whether and since when it counts, the period's length, and whether a commit waits for its boundary. -/
def PwmUnit.run (p : PwmUnit) : Bool × Nat × Nat × Bool := (p.counting, p.start, p.len, p.commit)

/-- Unit k runs on from s to t as it was: its STATE and its counter's run. -/
def SameRun (k : Nat) (s t : State) : Prop := t.pwmState k = s.pwmState k ∧ (t.pwm.get k).run = (s.pwm.get k).run

@[simp] theorem State.setPwm_get_same (s : State) (u : Nat) (p : PwmUnit) : (s.setPwm u p).pwm.get u = p := SMap.get_set_same _ _ _

@[simp] theorem State.setPwm_get_other (s : State) (u k : Nat) (p : PwmUnit) (h : k ≠ u) : (s.setPwm u p).pwm.get k = s.pwm.get k :=
  SMap.get_set_ne _ _ _ _ h

@[simp] theorem State.modPwm_get_same (s : State) (u : Nat) (g : PwmUnit → PwmUnit) : (s.modPwm u g).pwm.get u = g (s.pwm.get u) :=
  SMap.get_set_same _ _ _

@[simp] theorem State.modPwm_get_other (s : State) (u k : Nat) (g : PwmUnit → PwmUnit) (h : k ≠ u) :
    (s.modPwm u g).pwm.get k = s.pwm.get k := SMap.get_set_ne _ _ _ _ h

section
variable {k : Nat} {s t u : State} {f : Fld} {v : Nat}

theorem SameRun.counting {k : Nat} {s t : State} (h : SameRun k s t) : (t.pwm.get k).counting = (s.pwm.get k).counting := congrArg Prod.fst h.2

theorem SameRun.start {k : Nat} {s t : State} (h : SameRun k s t) : (t.pwm.get k).start = (s.pwm.get k).start := congrArg (·.2.1) h.2

theorem SameRun.len {k : Nat} {s t : State} (h : SameRun k s t) : (t.pwm.get k).len = (s.pwm.get k).len := congrArg (·.2.2.1) h.2

theorem SameRun.commit {k : Nat} {s t : State} (h : SameRun k s t) : (t.pwm.get k).commit = (s.pwm.get k).commit := congrArg (·.2.2.2) h.2

theorem SameRun.refl (k : Nat) (s : State) : SameRun k s s := ⟨rfl, rfl⟩

theorem SameRun.trans (h : SameRun k s t) (h' : SameRun k t u) : SameRun k s u :=
  ⟨h'.1.trans h.1, h'.2.trans h.2⟩

theorem SameRun.of_get (hg : t.get (F.PWM_STATUS_STATE k) = s.get (F.PWM_STATUS_STATE k)) (hp : t.pwm = s.pwm) : SameRun k s t :=
  ⟨hg, by rw [hp]⟩

theorem SameRun.put' (h : SameRun k s t) (hf : f.apart (F.PWM_STATUS_STATE k) = true := by simp <;> omega) : SameRun k s (t.put f v) :=
  h.trans (.of_get (State.get_put_other t f _ v hf) rfl)

theorem SameRun.set1' (h : SameRun k s t) (hf : f.apart (F.PWM_STATUS_STATE k) = true := by simp <;> omega) : SameRun k s (t.set1 f) := h.put' hf

theorem SameRun.wr' {a : Nat} {w : Word} (h : SameRun k s t) (ha : R.PWM_STATUS k ≠ a := by simp <;> omega) : SameRun k s (t.wr a w) :=
  h.trans (.of_get (State.get_wr_other t _ a w ha) rfl)

theorem SameRun.setPwm' {j : Nat} {p : PwmUnit} (h : SameRun k s t)
    (hp : k = j → p.run = (t.pwm.get j).run) : SameRun k s (t.setPwm j p) := by
  refine h.trans ?_
  by_cases hk : k = j
  · subst hk
    rw [SameRun, t.setPwm_get_same]
    exact ⟨rfl, hp rfl⟩
  · rw [SameRun, t.setPwm_get_other j k p hk]
    exact ⟨rfl, rfl⟩

theorem SameRun.modPwm' {j : Nat} {g : PwmUnit → PwmUnit} (h : SameRun k s t)
    (hp : k = j → (g (t.pwm.get j)).run = (t.pwm.get j).run) :
    SameRun k s (t.modPwm j g) := h.setPwm' hp

theorem SameRun.ite' {c : Prop} {_ : Decidable c} (h : SameRun k s t) (h' : SameRun k s u) : SameRun k s (if c then t else u) := by
  split <;> assumption

theorem SameRun.after (h' : SameRun k t u) (h : SameRun k s t) : SameRun k s u := h.trans h'

theorem SameRun.foldl' {α : Type} {l : List α} {g : State → α → State} (h : SameRun k s t) (hg : ∀ x ∈ l, ∀ t, SameRun k t (g t x)) :
    SameRun k s (l.foldl g t) := by
  induction l generalizing t with
  | nil => exact h
  | cons x l ih => exact ih (h.trans (hg x (by simp) t)) fun y hy => hg y (List.mem_cons_of_mem _ hy)

/-- What reaches neither the unit's STATUS nor the units lets every unit run on. -/
theorem KeepsOutside.sameRun {rs : List (Nat × Nat)} {ps : List Part} (h : KeepsOutside rs ps s t)
    (hr : ∀ r ∈ rs, R.PWM_STATUS k < r.1 ∨ r.2 ≤ R.PWM_STATUS k := by simp <;> omega) (hp : Part.pwm ∉ ps := by decide) : SameRun k s t :=
  .of_get (congrArg (fun w : Word => bitsOf w.toNat 0 3) (h.1 _ hr)) (h.2 .pwm hp)

end

theorem SameRun.cfgReject {k : Nat} (s : State) (b : Blk) (h : b.rejectFld.apart (F.PWM_STATUS_STATE k) = true) : SameRun k s (s.cfgReject b) :=
  .of_get ((Keeps.cfgReject' (fs := [b.rejectFld]) (ps := [.raised]) (.refl _ _ s) (by simp)).get_eq _ (by simpa using h))
    ((Keeps.cfgReject' (fs := [b.rejectFld]) (ps := [.raised]) (.refl _ _ s) (by simp)).2 .pwm (by decide))

/-! ### The stages of a start leave the runs alone, but for the one that starts the counter -/

theorem State.formLevels_sameRun (k : Nat) (s : State) (u : Nat) : SameRun k s (s.formLevels u) :=
  .ite' (.setPwm' (.put' (.put' (.refl _ _))) fun _ => rfl) (.setPwm' (.put' (.put' (.refl _ _))) fun _ => rfl)

theorem State.logPeriod_sameRun (k : Nat) (s : State) (u t : Nat) : SameRun k s (s.logPeriod u t) := by
  refine .modPwm' (.refl _ _) fun _ => ?_
  split
  · split <;> rfl
  · rfl

theorem State.periodStart_sameRun (k : Nat) (s : State) (u b : Nat) : SameRun k s (s.periodStart u b) :=
  .after (State.periodClear_outside ..).sameRun (.after (State.periodTrigger_outside ..).sameRun
    (.modPwm' (.put' (.wr' (s.logPeriod_sameRun k u b))) fun _ => rfl))

theorem State.toShadows_keeps (s : State) (l : List (Nat × HeldW)) :
    KeepsOutside [] [.shadow] s (l.foldl (fun s w => s.toShadow ⟨w.2.addr, w.2.lo, w.2.len⟩ w.2.val) s) :=
  .foldl' (.refl _ _ _) fun _ _ _ => .toShadow' (.refl _ _ _)

theorem State.enterHeld_sameRun (k : Nat) (s : State) (u : Nat) : SameRun k s (s.enterHeld u) := by
  have hfold := s.toShadows_keeps (s.pwm.get u).heldBack
  refine .setPwm' hfold.sameRun fun _ => ?_
  rw [hfold.2 .pwm (by decide)]
  rfl

theorem State.takeSwaps_sameRun (k : Nat) (s : State) (u : Nat) (ok : SwapW → Bool) : SameRun k s (s.takeSwaps u ok) := by
  have hfold : KeepsOutside [(R.PWM_CTRL u, R.PWM_CTRL u + 4)] [] s
      (((s.pwm.get u).swaps.filter ok).foldl (fun s w => s.put ⟨R.PWM_CTRL u, w.bit, 1⟩ w.val) s) :=
    .foldl' (.refl _ _ _) fun _ _ _ => .put' (.refl _ _ _) (by simp)
  refine .setPwm' hfold.sameRun fun _ => ?_
  rw [hfold.2 .pwm (by decide)]
  rfl

theorem SameRun.transfer' {k : Nat} {s t : State} {f : Fld} (h : SameRun k s t) (hf : f.apart (F.PWM_STATUS_STATE k) = true := by simp <;> omega) :
    SameRun k s (t.transfer f) := by
  refine h.trans ?_
  unfold State.transfer
  split
  · exact SameRun.put' (.refl k t) hf
  · exact .refl k t

theorem State.raisePeriod_sameRun (k : Nat) (s : State) (u : Nat) : SameRun k s (s.raisePeriod u) :=
  .foldl' (.ite' (.set1' (.put' (.refl _ _))) (.refl _ _)) fun _ hx _ =>
    have := State.periodPairs_lt hx
    .ite' (.set1' (.put' (.refl _ _))) (.refl _ _)

theorem State.transferAll_sameRun (k : Nat) (s : State) (u : Nat) : SameRun k s (s.transferAll u) := by
  have hfields : SameRun k s ((commitFields u).foldl (fun s f => s.transfer f) s) :=
    .transfer' (.transfer' (.transfer' (.transfer' (.transfer' (.transfer' (.refl k s))))))
  have hclamp (t : State) (cmp frac : Fld) (hc : cmp.apart (F.PWM_STATUS_STATE k) = true) (hf : frac.apart (F.PWM_STATUS_STATE k) = true) :
      SameRun k t (t.clampCompare u cmp frac) := .ite' (.set1' (.put' (.put' (.refl _ _) hc) hf)) (.refl _ _)
  exact .after (hclamp _ _ _ (by simp <;> omega) (by simp <;> omega)) (.after (hclamp _ _ _ (by simp <;> omega) (by simp <;> omega))
    (.put' (.after (State.raisePeriod_sameRun ..) hfields)))

/-! ### The start of one unit (R290) -/

/-- The registers and the counter of a unit at the first tick of its run, before its levels are formed. -/
def State.unitStarted (s : State) (u : Nat) (a : State) : State :=
  (((a.put (F.PWM_STATUS_DITHER_IDX u) 0).wr (R.PWM_PULSE_CNT u) 0).put (F.PWM_STATUS_STATE u) 1).modPwm u fun p =>
    { p with counting := true, start := s.epoch, n0 := a.get (F.PWM_PHASE u), hold := 0, len := a.get (F.PWM_PERIOD u) - a.get (F.PWM_PHASE u),
             commit := false, skip := false, commitAt := none }

theorem State.startUnit_begins (s : State) (u : Nat) (hgo : s.startRefused u = false) (hstop : s.ep.stopAt.get u ≠ s.epoch + 1) :
    (s.startUnit u).pwmState u = 1 ∧ ((s.startUnit u).pwm.get u).counting = true ∧ ((s.startUnit u).pwm.get u).start = s.epoch := by
  have hrun : SameRun u (s.unitStarted u (((s.enterHeld u).takeSwaps u (fun w => w.t < s.epoch)).transferAll u)) (s.startUnit u) := by
    rw [State.startUnit, if_neg (by simp [hgo]), if_neg hstop]
    exact .ite' (.after (State.periodStart_sameRun ..) (.after (State.logPeriod_sameRun ..) (State.formLevels_sameRun ..)))
      (.modPwm' (.after (State.logPeriod_sameRun ..) (State.formLevels_sameRun ..)) fun _ => rfl)
  refine ⟨hrun.1.trans ?_, hrun.counting.trans ?_, hrun.start.trans ?_⟩
  · simp [State.pwmState, State.unitStarted]
  · simp [State.unitStarted]
  · simp [State.unitStarted]

/-- A unit's start lets every other unit run on. -/
theorem State.startUnit_sameRun (k : Nat) (s : State) (u : Nat) (hk : k ≠ u) : SameRun k s (s.startUnit u) := by
  refine .ite' (.cfgReject s _ (by simp [Blk.rejectFld]; omega)) (.ite' (.refl _ _) ?_)
  have hbegin (a : State) : SameRun k a (s.unitStarted u a) := .modPwm' (.put' (.wr' (.put' (.refl _ _)))) fun e => absurd e hk
  have hprep : SameRun k s (((s.enterHeld u).takeSwaps u (fun w => w.t < s.epoch)).transferAll u) :=
    .after (State.transferAll_sameRun ..) (.after (State.takeSwaps_sameRun ..) (State.enterHeld_sameRun ..))
  exact .ite' (.after (State.periodStart_sameRun ..) (.after (State.logPeriod_sameRun ..) (.after (State.formLevels_sameRun ..) (.after (hbegin _) hprep))))
    (.modPwm' (.after (State.logPeriod_sameRun ..) (.after (State.formLevels_sameRun ..) (.after (hbegin _) hprep))) fun _ => rfl)

end Sys2Proof.Machine
end

section
/-!
Proofs about PWM generation (chapter 08): the registers that a start reaches.
The proofs are elaborated in turn: in one text, proofs that wait for each other would each hold a thread.
-/

set_option Elab.async false

namespace Sys2Proof.Machine

@[simp] abbrev unitRegs : Nat × Nat := (R.PWM_CTRL 0, R.PWM_CTRL 14)

theorem State.raisePeriod_units (s : State) (u : ℕ) (hu : u < 14) :
    KeepsOutside [unitRegs, zone (R.LP_CTRL 0)] [] s (s.raisePeriod u) :=
  .forEach' (.ite' (.set1' (.put' (.refl _ _ _))) (.refl _ _ _)) (fun x hx _ => have hx := State.periodPairs_lt hx; .ite' (.set1' (.put' (.refl _ _ _))) (.refl _ _ _))
theorem State.transferFix_units (s : State) (u : ℕ) (period : Bool) (hu : u < 14) :
    KeepsOutside [unitRegs, zone (R.LP_CTRL 0)] [] s (s.transferFix u period) :=
  .comp (.ite' (.set1' (.put' (.put' (.ite' (.set1' (.put' (.put' (.put' (.refl _ _ _))))) (.put' (.refl _ _ _)))))) (.ite' (.set1' (.put' (.put' (.put' (.refl _ _ _))))) (.put' (.refl _ _ _)))) (.ite' (.after (State.raisePeriod_units _ _ (by omega)) (.refl _ _ _)) (.refl _ _ _))
theorem State.takeSwaps_units (s : State) (u : ℕ) (ok : SwapW → Bool) (hu : u < 14) :
    KeepsOutside [unitRegs] [.pwm] s (s.takeSwaps u ok) :=
  .after (State.setPwm_outside ..) (.foldl' (.refl _ _ _) (fun x hx _ => have hx := (by simpa using hx); .put' (.refl _ _ _)))
theorem State.countPulses_units (s : State) (u : ℕ) (drop : ℕ) (stretch : ℕ) (hu : u < 14) :
    KeepsOutside [unitRegs] [] s (s.countPulses u drop stretch) :=
  .put' (.put' (.refl _ _ _))
theorem State.formLevels_units (s : State) (u : ℕ) (hu : u < 14) :
    KeepsOutside [unitRegs] [.pwm] s (s.formLevels u) := by
  unfold State.formLevels
  dsimp only
  exact .ite' (.after (State.setPwm_outside ..) (.after (State.countPulses_units _ _ _ _ (by omega)) (.refl _ _ _))) (.after (State.setPwm_outside ..) (.after (State.countPulses_units _ _ _ _ (by omega)) (.refl _ _ _)))
theorem State.periodStart_units (s : State) (u : ℕ) (b : ℕ) (hu : u < 14) :
    KeepsOutside [unitRegs] [.pwm, .wcmp, .sens] s (s.periodStart u b) :=
  .after (State.periodClear_outside ..) (.after (State.periodTrigger_outside ..) (.after (State.modPwm_outside ..) (.put' (.wr' (.after (State.logPeriod_outside ..) (.refl _ _ _))))))
theorem State.transferAll_units (s : State) (u : ℕ) (hu : u < 14) :
    KeepsOutside [unitRegs, zone (R.LP_CTRL 0)] [.shadow] s (s.transferAll u) := by
  refine .after (State.transferFix_units _ _ _ hu) (.foldl' (.refl _ _ _) fun f hf _ => .transfer' (.refl _ _ _) ⟨_, .head _, ?_⟩)
  simp only [commitFields, List.mem_cons, List.mem_nil_iff, or_false] at hf
  rcases hf with rfl | rfl | rfl | rfl | rfl | rfl <;> simp <;> omega

theorem State.startUnit_refused (s : State) (u : Nat) (h : s.startRefused u = true) : s.startUnit u = s.cfgReject .pwmGlobal := if_pos h

/-- A unit's start leaves the registers beside those of the units and of the loop pairs. -/
theorem State.startUnit_units (s : State) (u : Nat) (hu : u < 14) (h : s.startRefused u = false) :
    KeepsOutside [unitRegs, zone (R.LP_CTRL 0)] [.raised, .shadow, .pwm, .wcmp, .sens] s (s.startUnit u) := by
  rw [State.startUnit, if_neg (by simp [h])]
  have hprep : KeepsOutside [unitRegs, zone (R.LP_CTRL 0)] [.raised, .shadow, .pwm, .wcmp, .sens] s
      (((s.enterHeld u).takeSwaps u (fun w => w.t < s.epoch)).transferAll u) :=
    .after (State.transferAll_units _ _ hu) (.after (State.takeSwaps_units _ _ _ hu) (.after (State.enterHeld_outside ..) (.refl _ _ _)))
  exact .ite' (.refl _ _ _) (.comp (.ite' (.after (State.periodStart_units _ _ _ hu) (.refl _ _ _)) (.after (State.modPwm_outside ..) (.refl _ _ _)))
    (.after (State.logPeriod_outside ..) (.after (State.formLevels_units _ _ hu) (.after (State.modPwm_outside ..) (.put' (.wr' (.put' hprep)))))))

theorem KeepsOutside.get_eq {rs : List (Nat × Nat)} {ps : List Part} {s t : State} (h : KeepsOutside rs ps s t) (g : Fld)
    (hg : ∀ r ∈ rs, g.addr < r.1 ∨ r.2 ≤ g.addr) : t.get g = s.get g := congrArg (fun w : Word => bitsOf w.toNat g.lo g.len) (h.1 _ hg)

theorem State.startUnit_get_reject (s : State) (u : Nat) (hu : u < 14) (h : s.get F.PWM_GSTICKY_CFG_REJECT = 1) :
    (s.startUnit u).get F.PWM_GSTICKY_CFG_REJECT = 1 := by
  cases href : s.startRefused u
  · exact ((s.startUnit_units u hu href).get_eq _ (by decide)).trans h
  · rw [s.startUnit_refused u href]
    exact (s.cfgReject_refused .pwmGlobal FS.PWM_GLOBAL).1

end Sys2Proof.Machine
end

section
/-!
Proofs about PWM generation (chapter 08): start, stop and commit.
The proofs are elaborated in turn: in one text, proofs that wait for each other would each hold a thread.
-/

set_option Elab.async false

namespace Sys2Proof.Machine

/-! ### The starts of several units -/

theorem State.startRefused_congr {s t : State} {rs : List (Nat × Nat)} {ps : List Part} (u : Nat) (hu : u < 14) (h : KeepsOutside rs ps s t)
    (hs : t.pwmState u = s.pwmState u)
    (hr : ∀ r ∈ rs, 0x40010000 ≤ r.1 ∧ r.2 ≤ 0x40070000) : t.startRefused u = s.startRefused u := by
  have hget (f : Fld) (hf : f.addr < 0x40010000 ∨ 0x40070000 ≤ f.addr) : t.get f = s.get f := by
    refine congrArg (fun w : Word => bitsOf w.toNat f.lo f.len) (h.1 _ fun r m => ?_)
    obtain ⟨h1, h2⟩ := hr r m
    omega
  simp only [State.startRefused, State.flag, hs, hget F.WARDEN_STATUS_REACTION (by decide), hget F.SYS_FOYER_IN_FOYER (by decide),
    hget F.CUR_STATUS_SAFE (by decide), hget (F.LANE_STAT_STATE (u - 8)) (by simp; omega), hget (F.LANE_STAT_STATUS (u - 8)) (by simp; omega)]

theorem State.forEach_starts (s : State) {u : Nat} {ks : List Nat} (hnd : ks.Nodup) (hks : ∀ k ∈ ks, k < 14) (hu : u ∈ ks)
    (href : s.startRefused u = false) (hstop : s.ep.stopAt.get u ≠ s.epoch + 1) :
      (s.forEach ks fun s u => s.startUnit u).pwmState u = 1 ∧ ((s.forEach ks fun s u => s.startUnit u).pwm.get u).counting = true ∧
      ((s.forEach ks fun s u => s.startUnit u).pwm.get u).start = s.epoch := by
  refine State.forEach_at (P := fun t => t.startRefused u = false ∧ t.ep = s.ep ∧ t.epoch = s.epoch)
    (Q := fun t => t.pwmState u = 1 ∧ (t.pwm.get u).counting = true ∧ (t.pwm.get u).start = s.epoch) hnd hu
    (fun k hk hku t ht => ?_) (fun t ht => ?_) (fun k hk hku t ht => ?_) s ⟨href, rfl, rfl⟩
  · obtain ⟨hr, hep, he⟩ := ht
    have hframe := t.startUnit_outside k (hks k hk)
    exact ⟨(State.startRefused_congr u (hks u hu) hframe (t.startUnit_sameRun u k hku.symm).1 (by decide)).trans hr,
      (hframe.2 .ep (by decide)).trans hep, (hframe.2 .epoch (by decide)).trans he⟩
  · obtain ⟨hr, hep, he⟩ := ht
    rw [← he]
    exact t.startUnit_begins u hr (by rw [hep, he]; exact hstop)
  · obtain ⟨h1, h2, h3⟩ := ht
    have hrun := t.startUnit_sameRun u k hku.symm
    exact ⟨hrun.1.trans h1, hrun.counting.trans h2, hrun.start.trans h3⟩

/-! ### The stop of one unit (R289) -/

theorem SameRun.beside' {k : Nat} {s t u : State} (h : SameRun k s t) (hr : u.regs = t.regs := by rfl) (hp : u.pwm = t.pwm := by rfl) :
    SameRun k s u := h.trans (.of_get (by simp only [State.get, State.rd, hr]) hp)

theorem State.noteHolds_sameRun (k : Nat) (s : State) : SameRun k s s.noteHolds :=
  .foldl' (.foldl' (.refl _ _) fun j _ t =>
      .ite' (SameRun.modPwm' (j := j) (g := fun p => { p with heldThis := true }) (.refl k t) fun _ => rfl) (.refl _ _))
    fun _ _ _ => .beside' (.refl _ _)

theorem State.maintEnd_sameRun (k : Nat) (s : State) (c : Nat) (r : MaintResult) (hk : k < 14) (hc : c < 14) : SameRun k s (s.maintEnd c r) :=
  (State.maintEnd_outside s c r hc).sameRun

theorem State.ivAbort_sameRun (k : Nat) (s : State) (x : Nat) (hk : k < 14) (hx : x < 4) : SameRun k s (s.ivAbort x) :=
  .ite' (.after (State.noteHolds_sameRun ..) (.after (State.maintEnd_sameRun _ _ _ _ hk (by unfold Act.ivTrace; omega))
    (State.ivSlots_outside ..).sameRun)) (.refl _ _)

theorem State.ivStopped_sameRun (k : Nat) (s : State) (u : Nat) (hk : k < 14) : SameRun k s (s.ivStopped u) := by
  unfold State.ivStopped
  split
  · exact State.ivAbort_sameRun _ _ _ hk (by omega)
  · exact .refl _ _

theorem State.stopEdges_sameRun (k : Nat) (s : State) (u t : Nat) : SameRun k s (s.stopEdges u t) :=
  .modPwm' (.put' (.put' (.refl _ _))) fun _ => rfl

theorem State.loopsToShadow_keeps (s : State) (l : List LoopCommit) :
    KeepsOutside [] [.shadow] s (l.foldl (fun s l => s.loopToShadow l.vals) s) :=
  .foldl' (.refl _ _ _) fun _ _ _ => .after (State.loopToShadow_outside ..) (.refl _ _ _)

/-- A unit that was not STOPPED has halted its counter, and what waited for its boundary is gone. -/
def State.unitHalted (s : State) (u : Nat) : State :=
  let t := (((s.pwm.get u).loops.foldl (fun s l => s.loopToShadow l.vals) s).enterHeld u).put (F.PWM_STATUS_COMMIT_PENDING u) 0
  t.modPwm u fun p =>
    { p with counting := false, frozenAt := if s.pwmState u = 2 ∨ !p.counting then p.frozenAt else t.epoch,
             commit := false, skip := false, commitAt := none, loops := [] }

/-- A stop ends the high side's run too. -/
def State.highRunEnds (t : State) (u : Nat) : State :=
  let t := if u < 8 then t.put (F.DRV_HB_STATUS_HI_RUN u) 0 else t
  { t with drive := { t.drive with hb := if u < 8 then t.drive.hb.modify u (fun h => { h with highAll := false }) else t.drive.hb } }

theorem State.stopUnit_of_not_stopped (s : State) (u : Nat) (h : s.pwmState u ≠ 0) :
    s.stopUnit u = (if s.pwmState u = 3 then (s.unitHalted u).highRunEnds u
      else (((s.unitHalted u).highRunEnds u).stopEdges u ((s.unitHalted u).highRunEnds u).epoch).put (F.PWM_STATUS_STATE u) 0).ivStopped u := if_neg h

theorem State.stopUnit_of_stopped (s : State) (u : Nat) (h : s.pwmState u = 0) :
    s.stopUnit u = if s.levelOn u then s.stopEdges u s.epoch else s := if_pos h

theorem State.unitHalted_state (s : State) (u k : Nat) : (s.unitHalted u).pwmState k = s.pwmState k :=
  (SameRun.put' (f := F.PWM_STATUS_COMMIT_PENDING u) (v := 0)
    (.after (State.enterHeld_sameRun k _ u) (s.loopsToShadow_keeps (s.pwm.get u).loops).sameRun)).1

theorem State.unitHalted_counting (s : State) (u : Nat) : ((s.unitHalted u).pwm.get u).counting = false := by simp [State.unitHalted]

theorem State.unitHalted_sameRun (k : Nat) (s : State) (u : Nat) (hk : k ≠ u) : SameRun k s (s.unitHalted u) :=
  .modPwm' (.put' (.after (State.enterHeld_sameRun ..) (s.loopsToShadow_keeps (s.pwm.get u).loops).sameRun)) fun e => absurd e hk

theorem State.highRunEnds_sameRun (k : Nat) (s : State) (u : Nat) (hk : k < 14) : SameRun k s (s.highRunEnds u) := by
  unfold State.highRunEnds
  split
  · exact SameRun.beside' (t := s.put (F.DRV_HB_STATUS_HI_RUN u) 0) (.put' (.refl k s))
  · exact SameRun.beside' (.refl k s)

/-- A unit's stop lets every other unit run on. -/
theorem State.stopUnit_sameRun (k : Nat) (s : State) (u : Nat) (hk14 : k < 14) (hk : k ≠ u) : SameRun k s (s.stopUnit u) := by
  by_cases h : s.pwmState u = 0
  · rw [s.stopUnit_of_stopped u h]
    exact .ite' (State.stopEdges_sameRun ..) (.refl _ _)
  · rw [s.stopUnit_of_not_stopped u h]
    exact .after (State.ivStopped_sameRun _ _ _ hk14) (.ite' (.after (State.highRunEnds_sameRun _ _ _ hk14) (s.unitHalted_sameRun k u hk))
      (.put' (.after (State.stopEdges_sameRun ..) (.after (State.highRunEnds_sameRun _ _ _ hk14) (s.unitHalted_sameRun k u hk)))))

theorem State.stopUnit_stops (s : State) (u : Nat) (hu : u < 14) (h : s.pwmState u ≠ 3) : (s.stopUnit u).pwmState u = 0 := by
  by_cases h0 : s.pwmState u = 0
  · rw [s.stopUnit_of_stopped u h0]
    split
    · exact (State.stopEdges_sameRun ..).1.trans h0
    · exact h0
  · rw [s.stopUnit_of_not_stopped u h0, (State.ivStopped_sameRun _ _ _ hu).1, if_neg h]
    simp [State.pwmState]

theorem State.stopUnit_fenced (s : State) (u : Nat) (hu : u < 14) (h : s.pwmState u = 3) :
    (s.stopUnit u).pwmState u = 3 ∧ ((s.stopUnit u).pwm.get u).counting = false := by
  have hrun := (State.highRunEnds_sameRun u (s.unitHalted u) u hu).trans (State.ivStopped_sameRun u _ u hu)
  rw [s.stopUnit_of_not_stopped u (by omega), if_pos h, hrun.1, hrun.counting]
  exact ⟨(s.unitHalted_state u u).trans h, s.unitHalted_counting u⟩

theorem State.stopAt_sameRun (k : Nat) (s : State) (u t : Nat) (hk14 : k < 14) (hk : k ≠ u) : SameRun k s (s.stopAt u t) :=
  (s.stopUnit_sameRun k u hk14 hk).beside'

theorem State.stopAt_epoch (s : State) (u t : Nat) (hu : u < 14) : (s.stopAt u t).epoch = s.epoch :=
  (s.stopAt_outside u t hu).2 .epoch (by decide)

theorem State.stopAt_get_same (s : State) (u t : Nat) : (s.stopAt u t).ep.stopAt.get u = t + 1 := SMap.get_set_same _ _ _

theorem State.stopAt_get_other (s : State) (u k t : Nat) (hu : u < 14) (hk : k ≠ u) : (s.stopAt u t).ep.stopAt.get k = s.ep.stopAt.get k := by
  refine (SMap.get_set_ne _ _ _ _ hk).trans ?_
  rw [(s.stopUnit_outside u hu).2 .ep (by decide)]

@[simp] theorem State.get_modPwm (s : State) (u : Nat) (g : PwmUnit → PwmUnit) (f : Fld) : (s.modPwm u g).get f = s.get f := rfl

@[simp] theorem State.get_setPwm (s : State) (u : Nat) (p : PwmUnit) (f : Fld) : (s.setPwm u p).get f = s.get f := rfl

/-! ### The commit of one unit (R276, R277) -/

/-- What a unit's commit keeps: all but its own flags, its pair's refusal and its own pending commit. -/
theorem State.commitUnit_keeps (s : State) (u : Nat) : ∃ p < 6,
    Keeps [F.LP_STICKY_CFG_REJECT p, F.PWM_STICKY_COMMIT_DISCARD u, F.PWM_STATUS_COMMIT_PENDING u, F.PWM_STICKY_COMMIT_LATE u] [.raised, .pwm]
      s (s.commitUnit u) := by
  unfold State.commitUnit
  split
  · exact ⟨_, State.unitPair_lt ‹_›, .cfgReject' (.refl _ _ _) (by simp [Blk.rejectFld])⟩
  · exact ⟨0, by decide, .ite' (.set1' (.refl _ _ _)) (.ite' (.refl _ _ _) (.ite' (.refl _ _ _)
      (.ite' (.beside' (.put' (.refl _ _ _))) (.beside' (.ite' (.beside' (.put' (.refl _ _ _))) (.set1' (.beside' (.put' (.refl _ _ _)))))))))⟩

theorem State.commitUnit_pwm_other (s : State) (u k : Nat) (hk : k ≠ u) : (s.commitUnit u).pwm.get k = s.pwm.get k := by
  unfold State.commitUnit State.judgeCommit
  split
  · exact congrArg (SMap.get · k) ((Keeps.cfgReject' (fs := [_]) (ps := [.raised]) (.refl _ _ s) (.head _)).2 .pwm (by decide))
  · dsimp only
    split_ifs <;> simp [hk]

theorem State.unitPair_congr {s t : State} (u : Nat) (h : ∀ p < 6, t.get (F.LP_CTRL_EN p) = s.get (F.LP_CTRL_EN p) ∧
    t.get (F.LP_CFG_COMMIT_MASK p) = s.get (F.LP_CFG_COMMIT_MASK p)) : t.unitPair u = s.unitPair u := by
  refine List.find?_congr fun p hp => ?_
  obtain ⟨hen, hmask⟩ := h p (List.mem_range.1 hp)
  simp only [State.flag, hen, hmask]

/-- A commit leaves what another unit's commit goes by and sets. -/
theorem State.commitUnit_other (s : State) (u k : Nat) (hk : k ≠ u) (hk14 : k < 14) (hu : u < 14) : (s.commitUnit u).unitPair k = s.unitPair k ∧
    (s.commitUnit u).pwmState k = s.pwmState k ∧ (s.commitUnit u).pwm.get k = s.pwm.get k ∧ (s.commitUnit u).epoch = s.epoch ∧
    (s.commitUnit u).get (F.PWM_STATUS_COMMIT_PENDING k) = s.get (F.PWM_STATUS_COMMIT_PENDING k) ∧
    (s.commitUnit u).get (F.PWM_STICKY_COMMIT_DISCARD k) = s.get (F.PWM_STICKY_COMMIT_DISCARD k) := by
  obtain ⟨p, hp, hkeeps⟩ := s.commitUnit_keeps u
  refine ⟨State.unitPair_congr k fun q hq => ⟨hkeeps.get_eq _ ?_, hkeeps.get_eq _ ?_⟩, hkeeps.get_eq _ ?_, s.commitUnit_pwm_other u k hk, hkeeps.2 .epoch (by decide),
    hkeeps.get_eq _ ?_, hkeeps.get_eq _ ?_⟩ <;> simp <;> omega

/-- What a commit of unit u goes by stands in t as in s. -/
def CommitView (u : Nat) (s t : State) : Prop :=
  t.unitPair u = s.unitPair u ∧ t.pwmState u = s.pwmState u ∧ t.pwm.get u = s.pwm.get u ∧ t.epoch = s.epoch

/-- After commits of several units, one of them stands as its own commit left it. -/
theorem State.forEach_commitUnit (s : State) (u m : Nat) (hu : u ∈ maskIdx 14 m) : ∃ t, CommitView u s t ∧
    (s.forEach (maskIdx 14 m) fun s u => s.commitUnit u).pwm.get u = (t.commitUnit u).pwm.get u ∧
    (s.forEach (maskIdx 14 m) fun s u => s.commitUnit u).get (F.PWM_STATUS_COMMIT_PENDING u) = (t.commitUnit u).get (F.PWM_STATUS_COMMIT_PENDING u) ∧
    (s.forEach (maskIdx 14 m) fun s u => s.commitUnit u).get (F.PWM_STICKY_COMMIT_DISCARD u) = (t.commitUnit u).get (F.PWM_STICKY_COMMIT_DISCARD u) := by
  have hu14 := lt_of_mem_maskIdx hu
  refine State.forEach_at (P := CommitView u s) (Q := fun r => ∃ t, CommitView u s t ∧ r.pwm.get u = (t.commitUnit u).pwm.get u ∧
    r.get (F.PWM_STATUS_COMMIT_PENDING u) = (t.commitUnit u).get (F.PWM_STATUS_COMMIT_PENDING u) ∧
    r.get (F.PWM_STICKY_COMMIT_DISCARD u) = (t.commitUnit u).get (F.PWM_STICKY_COMMIT_DISCARD u)) (maskIdx_nodup _ _) hu (fun k hk hku r hr => ?_)
    (fun r hr => ⟨r, hr, rfl, rfl, rfl⟩) (fun k hk hku r hr => ?_) s ⟨rfl, rfl, rfl, rfl⟩
  · obtain ⟨h1, h2, h3, h4, -, -⟩ := r.commitUnit_other k u hku.symm hu14 (lt_of_mem_maskIdx hk)
    exact ⟨h1.trans hr.1, h2.trans hr.2.1, h3.trans hr.2.2.1, h4.trans hr.2.2.2⟩
  · obtain ⟨t, hview, e1, e2, e3⟩ := hr
    obtain ⟨-, -, h1, -, h2, h3⟩ := r.commitUnit_other k u hku.symm hu14 (lt_of_mem_maskIdx hk)
    exact ⟨t, hview, h1.trans e1, h2.trans e2, h3.trans e3⟩

/-- A pair's refusal stands through further commits. -/
theorem State.commitUnit_get_reject (s : State) (u q : Nat) (h : s.get (F.LP_STICKY_CFG_REJECT q) = 1) (hq : q < 6) (hu : u < 14) :
    (s.commitUnit u).get (F.LP_STICKY_CFG_REJECT q) = 1 := by
  cases hp : s.unitPair u with
  | some p =>
    have hrej : s.commitUnit u = s.cfgReject (.loop p) := by simp only [State.commitUnit, hp]
    have hrefused := s.cfgReject_refused (.loop p) (FS.LOOP_CFG p)
    rw [hrej]
    by_cases e : p = q
    · exact e ▸ hrefused.1
    · exact (hrefused.2.2.get_eq _ (by simp [Blk.rejectFld]; omega)).trans h
  | none =>
    have hkeeps : Keeps [F.PWM_STICKY_COMMIT_DISCARD u, F.PWM_STATUS_COMMIT_PENDING u, F.PWM_STICKY_COMMIT_LATE u] [.pwm] s (s.commitUnit u) := by
      simp only [State.commitUnit, hp]
      exact .ite' (.set1' (.refl _ _ _)) (.ite' (.refl _ _ _) (.ite' (.refl _ _ _)
        (.ite' (.beside' (.put' (.refl _ _ _))) (.beside' (.ite' (.beside' (.put' (.refl _ _ _))) (.set1' (.beside' (.put' (.refl _ _ _)))))))))
    exact (hkeeps.get_eq _ (by simp)).trans h

/-- Settles O19: the units one after another; each unit by the frame of the others and by its own update. -/
theorem pwmStartStopAndCommit : Obligations.PwmStartStopAndCommit := by
  refine fun s v => ⟨fun hfoyer => ?_, fun i hi => ⟨?_, ?_⟩, fun hfoyer => ?_, ?_, fun i => ?_⟩
  · have hgo : s.pwmStartWrite .hpa v = s.forEach (maskIdx 14 v.toNat) fun s u => s.startUnit u := if_pos (by simp [hfoyer])
    refine ⟨_, congrArg Host.Outcome.next hgo, fun u hu href hstop => ?_, fun u hu => ?_, fun ⟨u, hu, href⟩ => ?_,
      (.forEach' (.refl _ _ _) (fun x hx _ => have hx := lt_of_mem_maskIdx hx; .after (State.startUnit_outside _ _ (by omega)) (.refl _ _ _)))⟩
    · exact s.forEach_starts (maskIdx_nodup _ _) (fun _ hk => lt_of_mem_maskIdx hk) (mem_maskIdx.2 ⟨u.isLt, hu⟩) href hstop
    · refine State.forEach_inv (P := fun t => t.pwmState u = s.pwmState u) (fun k hk t ht => ?_) s rfl
      exact (t.startUnit_sameRun u k fun e => by simp [mem_maskIdx, ← e, hu] at hk).1.trans ht
    · refine State.forEach_at (P := fun t => t.startRefused u = true) (Q := fun t => t.get F.PWM_GSTICKY_CFG_REJECT = 1) (maskIdx_nodup _ _)
        (mem_maskIdx.2 ⟨u.isLt, hu⟩) (fun k hk hku t ht => ?_) (fun t ht => ?_) (fun k hk _ t ht => t.startUnit_get_reject k (lt_of_mem_maskIdx hk) ht) s href
      · exact (State.startRefused_congr u u.isLt (t.startUnit_outside k (lt_of_mem_maskIdx hk)) (t.startUnit_sameRun u k hku.symm).1 (by decide)).trans ht
      · rw [t.startUnit_refused u ht]
        exact (t.cfgReject_refused .pwmGlobal FS.PWM_GLOBAL).1
  · have hgo : s.pwmStartWrite i v = _ := if_neg (by simp [hi])
    exact ⟨_, congrArg Host.Outcome.next hgo, s.cfgReject_refused _ _⟩
  · have hstart : s.pwmStartWrite i v = _ := if_neg (by simp [hi])
    have hstop : s.pwmStopWrite i v = _ := if_neg hi
    exact congrArg Host.Outcome.next (hstop.trans hstart.symm)
  · have hgo : s.pwmStartWrite .hpa v = _ := if_neg (by simp [hfoyer])
    exact ⟨_, congrArg Host.Outcome.next hgo, s.cfgReject_refused _ _⟩
  · have hgo : s.pwmStopWrite .hpa v = s.forEach (maskIdx 14 v.toNat) fun t u => t.stopAt u t.epoch := if_pos rfl
    have hmem (u : Fin 14) (hu : bitOf v.toNat u = true) : (u : Nat) ∈ maskIdx 14 v.toNat := mem_maskIdx.2 ⟨u.isLt, hu⟩
    refine ⟨_, congrArg Host.Outcome.next hgo, fun u hu hst => ?_, fun u hu hst => ?_, fun u hu => ?_, fun u hu => ?_,
      (.forEach' (.refl _ _ _) (fun x hx _ => have hx := lt_of_mem_maskIdx hx; .after (State.stopAt_outside _ _ _ (by omega)) (.refl _ _ _)))⟩
    · refine State.forEach_at (P := fun t => t.pwmState u ≠ 3) (Q := fun t => t.pwmState u = 0) (maskIdx_nodup _ _) (hmem u hu)
        (fun k _ hku t ht => ?_) (fun t ht => ?_) (fun k _ hku t ht => ?_) s hst
      · exact fun h => ht ((t.stopAt_sameRun u k _ u.isLt hku.symm).1.symm.trans h)
      · exact t.stopUnit_stops u u.isLt ht
      · exact (t.stopAt_sameRun u k _ u.isLt hku.symm).1.trans ht
    · refine State.forEach_at (P := fun t => t.pwmState u = 3) (Q := fun t => t.pwmState u = 3 ∧ (t.pwm.get u).counting = false) (maskIdx_nodup _ _)
        (hmem u hu) (fun k _ hku t ht => ?_) (fun t ht => ?_) (fun k _ hku t ht => ?_) s hst
      · exact (t.stopAt_sameRun u k _ u.isLt hku.symm).1.trans ht
      · exact t.stopUnit_fenced u u.isLt ht
      · have hrun := t.stopAt_sameRun u k t.epoch u.isLt hku.symm
        exact ⟨hrun.1.trans ht.1, hrun.counting.trans ht.2⟩
    · refine State.forEach_inv (P := fun t => t.pwmState u = s.pwmState u) (fun k hk t ht => ?_) s rfl
      exact (t.stopAt_sameRun u k _ u.isLt fun e => by simp [mem_maskIdx, ← e, hu] at hk).1.trans ht
    · refine (State.forEach_at (P := fun t => t.epoch = s.epoch) (Q := fun t => t.epoch = s.epoch ∧ t.ep.stopAt.get u = s.epoch + 1) (maskIdx_nodup _ _)
        (hmem u hu) (fun k hk _ t ht => ?_) (fun t ht => ?_) (fun k hk hku t ht => ?_) s rfl).2
      · exact (t.stopAt_epoch k _ (lt_of_mem_maskIdx hk)).trans ht
      · exact ⟨(t.stopAt_epoch u _ u.isLt).trans ht, by rw [t.stopAt_get_same, ht]⟩
      · exact ⟨(t.stopAt_epoch k _ (lt_of_mem_maskIdx hk)).trans ht.1, (t.stopAt_get_other k u _ (lt_of_mem_maskIdx hk) hku.symm).trans ht.2⟩
  · have hmem (u : Fin 14) (hu : bitOf v.toNat u = true) : (u : Nat) ∈ maskIdx 14 v.toNat := mem_maskIdx.2 ⟨u.isLt, hu⟩
    refine ⟨s.forEach (maskIdx 14 v.toNat) fun s u => s.commitUnit u, rfl, fun u hu hpair hst hc => ?_, fun u hu hpair hst hc => ?_,
      fun u hu hpair hst => ?_, fun u q hu hpair => ?_, (.forEach' (.refl _ _ _) (fun x hx _ => have hx := lt_of_mem_maskIdx hx; .after (State.commitUnit_outside _ _ (by omega)) (.refl _ _ _)))⟩
    · obtain ⟨t, ⟨h1, h2, h3, h4⟩, e1, e2, -⟩ := s.forEach_commitUnit u _ (hmem u hu)
      rw [e1, e2]
      simp only [State.pwmState] at h2 hst
      simp [State.commitUnit, State.pwmState, State.judgeCommit, h1, h2, h3, h4, hpair, hst, hc, guardTicks, PwmUnit.next]
      split_ifs <;> simp [h3, h4] <;> omega
    · obtain ⟨t, ⟨h1, h2, h3, h4⟩, e1, e2, -⟩ := s.forEach_commitUnit u _ (hmem u hu)
      rw [e1, e2]
      simp only [State.pwmState] at h2 hst
      simp [State.commitUnit, State.pwmState, h1, h2, h3, h4, hpair, hst, hc]
    · obtain ⟨t, ⟨h1, h2, h3, h4⟩, -, -, e3⟩ := s.forEach_commitUnit u _ (hmem u hu)
      rw [e3]
      simp [State.commitUnit, h1, h2, hpair, hst]
    · have hq := State.unitPair_lt hpair
      refine State.forEach_at (P := CommitView u s) (Q := fun r => r.get (F.LP_STICKY_CFG_REJECT q) = 1) (maskIdx_nodup _ _) (hmem u hu)
        (fun k hk hku r hr => ?_) (fun r hr => ?_) (fun k hk _ r hr => r.commitUnit_get_reject k q hr hq (lt_of_mem_maskIdx hk)) s ⟨rfl, rfl, rfl, rfl⟩
      · obtain ⟨h1, h2, h3, h4, -, -⟩ := r.commitUnit_other k u hku.symm u.isLt (lt_of_mem_maskIdx hk)
        exact ⟨h1.trans hr.1, h2.trans hr.2.1, h3.trans hr.2.2.1, h4.trans hr.2.2.2⟩
      · have hrej : r.commitUnit u = r.cfgReject (.loop q) := by simp only [State.commitUnit, hr.1, hpair]
        rw [hrej]
        exact (r.cfgReject_refused (.loop q) (FS.LOOP_CFG q)).1

end Sys2Proof.Machine
end

section
/-!
Proofs about Epoch (chapter 03): the barrier's calibration and its remeasurements.
The proofs are elaborated in turn: in one text, proofs that wait for each other would each hold a thread.
-/

set_option Elab.async false

namespace Sys2Proof.Machine

theorem State.modGrid_outside (s : State) (f : GridState → GridState) :
    KeepsOutside [] [.grid] s (s.modGrid f) :=
  .beside' (.refl _ _ _)

theorem State.setConn_outside (s : State) (c : ℕ) :
    KeepsOutside [zone R.GRID_CFG] [] s (s.setConn c) :=
  .put' (.refl _ _ _)

theorem State.enterWait_outside (s : State) :
    KeepsOutside [zone R.GRID_CFG] [.grid, .draws] s s.enterWait :=
  .after (State.modGrid_outside ..) (.drew' (.wr' (.put' (.after (State.setConn_outside ..) (.refl _ _ _)))))

theorem State.connRefresh_outside (s : State) :
    KeepsOutside [zone R.GRID_CFG] [.grid, .draws] s s.connRefresh :=
  .ite' (.after (State.enterWait_outside ..) (.refl _ _ _)) (.ite' (.after (State.modGrid_outside ..) (.put' (.after (State.setConn_outside ..) (.refl _ _ _)))) (.refl _ _ _))

theorem dirOf_pos {x : Int} (h : 0 < x) : dirOf x = 1 := if_pos h

theorem dirOf_neg {x : Int} (h : x < 0) : dirOf x = -1 := (if_neg (by omega)).trans (if_pos h)

/-- The link's measured delay, and the fine phase and the remeasurement that start from it (R91, R92). -/
def State.barCalibrated (s : State) (delay : Nat) : State :=
  let t := (s.put F.EPOCH_BAR_DELAY delay).put F.EPOCH_STATUS_BAR_CAL_DONE 1
  { t with ep := { t.ep with fine := 0, barNext := s.mono + 65536 } }

/-- Settles O9: a due measurement by its two stages, the calibration by its own registers and the frame of what follows it. -/
theorem barrierMeasurements : Obligations.BarrierMeasurements := by
  refine fun s => ⟨fun err hcal hdue => ?_, fun h err => ?_, fun d hon hcal hd => ?_⟩
  · have hmeasured := s.barMeasured_keeps err
    have hjudged := (s.barMeasured err).raiseIf_keeps (32 < err.natAbs) F.EPOCH_STICKY_BAR_SKEW FS.EPOCH_BARRIER_SKEW
    have hep := hjudged.2 .ep (by decide)
    refine ⟨_, exec_barrierRemeasure_due s err hcal hdue, congrArg EpochState.barNext hep, ?_, fun h => ?_, fun h => ?_, fun h => ?_,
      .after hjudged (.after hmeasured (.refl _ _ s))⟩
    · refine (hjudged.get_eq _ (by decide)).trans ?_
      have hlt := s.get_lt F.EPOCH_BAR_SKEW_MAX
      simp [State.barMeasured, satTo] at hlt ⊢
      omega
    · rw [hep]
      simp [State.barMeasured, dirOf_pos h]
    · rw [hep]
      simp [State.barMeasured, dirOf_neg h]
    · rw [hep]
      simp [State.barMeasured, h, dirOf]
  · exact if_neg (by rcases h with h | h <;> simp [h])
  · have hbase : exec (.barrierCalibration d) s = .next (s.barCalibrated d).connRefresh.lateNext := if_pos (by simp [hon, hcal])
    have hframe (t : State) : KeepsOutside [zone R.GRID_CFG, zone R.DIAG_MAINT_REQ, zone R.SENSP_STATUS, zone R.SENSG_STATUS, zone R.WCMPP_STATUS,
        zone R.WCMPG_STATUS, zone R.DRV_STATUS, zone R.LANE_STATUS, zone R.SYS_ID]
        [.draws, .pwm, .sens, .wcmp, .drive, .diag, .grid, .relay, .start] t t.connRefresh.lateNext := (.after (State.lateNext_outside ..) (.after (State.connRefresh_outside ..) (.refl _ _ _)))
    have hframe := hframe (s.barCalibrated d)
    have hep := hframe.2 .ep (by decide)
    refine ⟨_, hbase, (hframe.get_eq _ (by decide)).trans ?_, (hframe.get_eq _ (by decide)).trans ?_, by rw [hep]; rfl, by rw [hep]; rfl,
      (hframe.mono (by decide) (by decide)).comp (.beside' (.put' (.put' (.refl _ _ s))))⟩
    · simp [State.barCalibrated]
    · simpa [State.barCalibrated] using hd

end Sys2Proof.Machine
end

section
/-!
Proofs about PWM generation (chapter 08): the period's boundary, edges, FORCE and the pulse counters.
The proofs are elaborated in turn: in one text, proofs that wait for each other would each hold a thread.
-/

set_option Elab.async false

namespace Sys2Proof.Machine

theorem State.modPwm_keeps (s : State) (u : ℕ) (f : PwmUnit → PwmUnit) :
    Keeps [] [.pwm] s (s.modPwm u f) :=
  .beside' (.refl _ _ _)

theorem State.logPeriod_keeps (s : State) (u : ℕ) (t : ℕ) :
    Keeps [] [.pwm] s (s.logPeriod u t) :=
  .after (State.modPwm_keeps ..) (.refl _ _ _)

theorem State.periodClear_keeps (s : State) (u : ℕ) (b : ℕ) :
    Keeps [] [.wcmp] s (s.periodClear u b) :=
  .forEach' (.refl _ _ _) (fun _ _ => .ite' (.beside' (.refl _ _ _)) (.refl _ _ _))

theorem State.wgTrigger_keeps (s : State) (g : ℕ) (e : ℕ) :
    Keeps [] [.sens] s (s.wgTrigger g e) :=
  .ite' (.beside' (.refl _ _ _)) (.refl _ _ _)

theorem State.trigger_keeps (s : State) (src : ℕ) (unit : ℕ) (e : ℕ) :
    Keeps [] [.sens] s (s.trigger src unit e) :=
  .forEach' (.refl _ _ _) (fun _ _ => .after (State.wgTrigger_keeps ..) (.refl _ _ _))

theorem State.periodTrigger_keeps (s : State) (u : ℕ) (b : ℕ) :
    Keeps [] [.sens] s (s.periodTrigger u b) :=
  .after (State.trigger_keeps ..) (.forEach' (.refl _ _ _) (fun _ _ => .beside' (.refl _ _ _)))

theorem State.periodStart_keeps (s : State) (u : ℕ) (b : ℕ) :
    Keeps [F.PWM_STATUS_HELD_PREV u, whole (R.PWM_LAST_BOUNDARY u)] [.pwm, .wcmp, .sens] s (s.periodStart u b) :=
  .after (State.periodClear_keeps ..) (.after (State.periodTrigger_keeps ..) (.after (State.modPwm_keeps ..) (.put' (.wr' (.after (State.logPeriod_keeps ..) (.refl _ _ _))))))

/-! ### The fields a transfer reaches (R276 to R282) -/

/-- What a transfer of unit u's shadows may change: its six values, its two flags, and the flag of each pair whose period it raises. -/
def transferFlds (u : Nat) : List Fld :=
  commitFields u ++ [F.PWM_STICKY_PERIOD_MIN u, F.PWM_STICKY_DUTY_CLAMP u] ++ (List.range 6).map F.LP_STICKY_PERIOD_RAISED

theorem State.raisePeriod_keeps (s : State) (u : Nat) : Keeps (transferFlds u) [] s (s.raisePeriod u) := by
  refine .comp (t := if s.get (F.PWM_PERIOD u) < s.minPeriod u then
    (s.put (F.PWM_PERIOD u) (s.minPeriod u)).set1 (F.PWM_STICKY_PERIOD_MIN u) else s) ?_
    (.ite' (.set1' (.put' (.refl _ _ _) (by simp [transferFlds, commitFields])) (by simp [transferFlds])) (.refl _ _ _))
  refine State.forEach_inv (P := Keeps (transferFlds u) [] _) (fun p hp t ht => ?_) _ (.refl _ _ _)
  have hmem : F.LP_STICKY_PERIOD_RAISED p ∈ transferFlds u :=
    List.mem_append_right _ (List.mem_map_of_mem (List.mem_range.2 (State.periodPairs_lt hp)))
  exact .ite' (.set1' (.put' ht (by simp [transferFlds, commitFields])) hmem) ht

theorem State.transferFix_keeps (s : State) (u : Nat) (period : Bool) : Keeps (transferFlds u) [] s (s.transferFix u period) := by
  have hclamp (t : State) (cmp frac : Fld) (hc : cmp ∈ transferFlds u) (hf : frac ∈ transferFlds u) :
      Keeps (transferFlds u) [] t (t.clampCompare u cmp frac) :=
    .ite' (.set1' (.put' (.put' (.refl _ _ _) hc) hf) (by simp [transferFlds])) (.refl _ _ _)
  exact .comp (hclamp _ _ _ (by simp [transferFlds, commitFields]) (by simp [transferFlds, commitFields]))
    (.comp (hclamp _ _ _ (by simp [transferFlds, commitFields]) (by simp [transferFlds, commitFields]))
      (.put' (.ite' (State.raisePeriod_keeps ..) (.refl _ _ _)) (by simp [transferFlds, commitFields])))

theorem State.transferAll_keeps (s : State) (u : Nat) : Keeps (transferFlds u) [.shadow] s (s.transferAll u) := by
  have hmem {f : Fld} (hf : f ∈ commitFields u) : f ∈ transferFlds u := List.mem_append_left _ (List.mem_append_left _ hf)
  refine .after (State.transferFix_keeps ..) ?_ (by simp)
  exact .transfer' (.transfer' (.transfer' (.transfer' (.transfer' (.transfer' (.refl _ _ _) (hmem (by simp [commitFields])))
    (hmem (by simp [commitFields]))) (hmem (by simp [commitFields]))) (hmem (by simp [commitFields]))) (hmem (by simp [commitFields])))
    (hmem (by simp [commitFields]))

/-- A field of the unit's STATUS lies apart from what a transfer reaches. -/
theorem apart_transferFlds (u : Nat) (g : Fld) (hg : g.addr = R.PWM_STATUS u) : ∀ f ∈ transferFlds u, f.apart g = true := by
  obtain ⟨a, lo, len⟩ := g
  simp only at hg
  subst hg
  simp [transferFlds, commitFields]
  omega

theorem transferFlds_zones (u : Nat) (hu : u < 14) : ∀ f ∈ F.PWM_STATUS_COMMIT_PENDING u :: transferFlds u,
    ∃ r ∈ [zone (R.PWM_CTRL 0), zone (R.LP_CTRL 0)], r.1 ≤ f.addr ∧ f.addr < r.2 := by
  simp [transferFlds, commitFields]
  and_intros
  all_goals intros; omega

/-! ### A boundary with no commit of a loop pair and no swap waiting -/

/-- The unit's record once its untargeted commit has been taken, or has skipped this boundary. -/
def PwmUnit.taken (p : PwmUnit) : PwmUnit := { p with loops := [], commit := p.commit && p.skip, skip := false }

theorem State.boundaryTransfer_of_no_loops (s : State) (u b : Nat) (h : (s.pwm.get u).loops = []) :
    s.boundaryTransfer u b = (if (s.pwm.get u).commit && !(s.pwm.get u).skip then (s.setPwm u (s.pwm.get u).taken).transferAll u
      else s.setPwm u (s.pwm.get u).taken).put (F.PWM_STATUS_COMMIT_PENDING u) (b2n ((s.pwm.get u).commit && (s.pwm.get u).skip)) := by
  have hpwm := (State.transferAll_keeps (s.setPwm u (s.pwm.get u).taken) u).2 .pwm (by decide)
  cases hnow : (s.pwm.get u).commit && !(s.pwm.get u).skip <;>
    simp only [State.boundaryTransfer, h, hnow, List.filter_nil, List.foldl_nil, List.any_nil, List.isEmpty_nil, Bool.not_true, Bool.or_false, Bool.or_true,
      Bool.false_eq_true, if_false, if_true]
  · simp [PwmUnit.taken]
  · change ((s.setPwm u (s.pwm.get u).taken).transferAll u).put _ (b2n ((((s.setPwm u (s.pwm.get u).taken).transferAll u).pwm.get u).commit ||
      !(((s.setPwm u (s.pwm.get u).taken).transferAll u).pwm.get u).loops.isEmpty)) = _
    rw [hpwm]
    simp [PwmUnit.taken]

/-- The transfer, the held writes and the boundary's swaps of a unit with no loop commit and no swap waiting. -/
def State.boundaryTaken (s : State) (u b : Nat) : State :=
  ((s.boundaryTransfer u b).enterHeld u).takeSwaps u (fun w => w.t + guardTicks ≤ b)

theorem State.enterHeld_keeps (s : State) (u : Nat) : Keeps [] [.shadow, .pwm] s (s.enterHeld u) :=
  .beside' (.foldl' (.refl _ _ _) fun _ _ => .toShadow' (.refl _ _ _))

theorem b2n_lt_two (b : Bool) : b2n b < 2 := by cases b <;> decide

section
variable (s : State) (u b : Nat) (hl : (s.pwm.get u).loops = [])
include hl

theorem State.boundaryTransfer_keeps :
    Keeps (F.PWM_STATUS_COMMIT_PENDING u :: transferFlds u) [.shadow, .pwm] s (s.boundaryTransfer u b) := by
  rw [s.boundaryTransfer_of_no_loops u b hl]
  exact .put' (.ite' (.after (State.transferAll_keeps ..) (.beside' (.refl _ _ _)) (List.subset_cons_self _ _)) (.beside' (.refl _ _ _)))

theorem State.boundaryTransfer_pwm : (s.boundaryTransfer u b).pwm.get u = (s.pwm.get u).taken := by
  rw [s.boundaryTransfer_of_no_loops u b hl]
  split
  · exact (congrArg (SMap.get · u) ((State.transferAll_keeps ..).2 .pwm (by decide))).trans (s.setPwm_get_same u _)
  · exact s.setPwm_get_same u _

theorem State.boundaryTaken_pwm_run : ((s.boundaryTaken u b).pwm.get u).run = (s.pwm.get u).taken.run :=
  ((State.takeSwaps_sameRun ..).2.trans (State.enterHeld_sameRun ..).2).trans (congrArg _ (s.boundaryTransfer_pwm u b hl))

variable (hs : (s.pwm.get u).swaps = [])
include hs

/-- With no swap waiting, what follows the transfer leaves every register. -/
theorem State.boundaryTaken_after_transfer : Keeps [] [.shadow, .pwm] (s.boundaryTransfer u b) (s.boundaryTaken u b) := by
  have hswaps : (((s.boundaryTransfer u b).enterHeld u).pwm.get u).swaps = [] := by
    rw [State.enterHeld, State.setPwm_get_same]
    simpa [s.boundaryTransfer_pwm u b hl, PwmUnit.taken] using hs
  rw [State.boundaryTaken, State.takeSwaps, hswaps]
  exact .beside' (State.enterHeld_keeps ..)

theorem State.boundaryTaken_keeps :
    Keeps (F.PWM_STATUS_COMMIT_PENDING u :: transferFlds u) [.shadow, .pwm] s (s.boundaryTaken u b) :=
  .after (s.boundaryTaken_after_transfer u b hl hs) (s.boundaryTransfer_keeps u b hl) (List.nil_subset _)

theorem State.boundaryTaken_get_pending : (s.boundaryTaken u b).get (F.PWM_STATUS_COMMIT_PENDING u) =
    b2n ((s.pwm.get u).commit && (s.pwm.get u).skip) := by
  refine ((s.boundaryTaken_after_transfer u b hl hs).get_eq _ (by simp)).trans ?_
  rw [s.boundaryTransfer_of_no_loops u b hl, State.get_put_same _ _ _ (by simp)]
  exact Nat.mod_eq_of_lt (b2n_lt_two _)

/-- With no commit waiting, a boundary transfers nothing. -/
theorem State.boundaryTaken_get_of_no_commit (hc : (s.pwm.get u).commit = false) (g : Fld)
    (hg : Fld.apart (F.PWM_STATUS_COMMIT_PENDING u) g = true) : (s.boundaryTaken u b).get g = s.get g := by
  refine ((s.boundaryTaken_after_transfer u b hl hs).get_eq _ (by simp)).trans ?_
  rw [s.boundaryTransfer_of_no_loops u b hl, State.get_put_other _ _ _ _ hg, if_neg (by simp [hc])]
  rfl

end

theorem State.formLevels_keeps (s : State) (u : Nat) :
    Keeps [F.PWM_PULSE_CNT_DROP_CNT u, F.PWM_PULSE_CNT_STRETCH_CNT u] [.pwm] s (s.formLevels u) :=
  .ite' (.beside' (.put' (.put' (.refl _ _ _)))) (.beside' (.put' (.put' (.refl _ _ _))))

theorem State.periodStart_rd_lastBoundary (s : State) (u b : Nat) : (s.periodStart u b).rd (R.PWM_LAST_BOUNDARY u) = BitVec.ofNat 32 b := by
  have hlater (t : State) : KeepsOutside [] [.sens, .wcmp] t ((t.periodTrigger u b).periodClear u b) :=
    .after (State.periodClear_outside ..) (.after (State.periodTrigger_outside ..) (.refl _ _ _))
  refine ((hlater _).1 _ (by simp)).trans ?_
  exact (State.rd_put_other _ _ _ _ (by simp)).trans (State.rd_wr_same _ _ _)

/-- The running unit's new period, before its levels are formed. -/
def State.periodShaped (s : State) (u b : Nat) : State :=
  ((s.boundaryTaken u b).incWrap (F.PWM_STATUS_DITHER_IDX u)).shapePeriod u b (s.get (F.PWM_PHASE u))

theorem State.runBoundary_eq (s : State) (u b : Nat) : s.runBoundary u b = (s.periodShaped u b).formLevels u := rfl

theorem State.shapePeriod_keeps (s : State) (u b old : Nat) : Keeps [] [.pwm] s (s.shapePeriod u b old) := .beside' (.refl _ _ _)

theorem State.shapePeriod_start (s : State) (u b old : Nat) : ((s.shapePeriod u b old).pwm.get u).start = b := by simp [State.shapePeriod]

theorem State.shapePeriod_commit (s : State) (u b old : Nat) : ((s.shapePeriod u b old).pwm.get u).commit = (s.pwm.get u).commit := by
  simp [State.shapePeriod]

/-- The whole boundary of a running unit leaves its run as its new period has it. -/
theorem State.boundary_sameRun (s : State) (u b : Nat) : SameRun u (s.periodShaped u b) ((s.runBoundary u b).periodStart u b) :=
  .after (State.periodStart_sameRun ..) (State.formLevels_sameRun ..)

/-- A field that neither the levels nor the new period's start touch. -/
theorem State.boundary_get (s : State) (u b : Nat) (g : Fld)
    (hg : ∀ f ∈ [F.PWM_PULSE_CNT_DROP_CNT u, F.PWM_PULSE_CNT_STRETCH_CNT u, whole (R.PWM_LAST_BOUNDARY u), F.PWM_STATUS_HELD_PREV u], f.apart g = true) :
    ((s.runBoundary u b).periodStart u b).get g = (s.periodShaped u b).get g :=
  ((State.periodStart_keeps ..).get_eq g fun f hf => hg f (by simp at hf ⊢; tauto)).trans
    ((State.formLevels_keeps ..).get_eq g fun f hf => hg f (by simp at hf ⊢; tauto))

theorem b2n_eq_one (b : Bool) : (b2n b % 2 == 1) = b := by cases b <;> rfl

theorem State.issueEdges_keeps (s : State) (u t : Nat) : Keeps [F.PWM_STATUS_LEVEL_A u, F.PWM_STATUS_LEVEL_B u] [.pwm] s (s.issueEdges u t) :=
  .beside' (.put' (.put' (.refl _ _ _)))

/-- The messages of an edge tick: one for each output whose level changes. -/
theorem State.issueEdges_msgs (s : State) (u t : Nat) : ((s.issueEdges u t).pwm.get u).msgs = (s.pwm.get u).msgs ++
    (if (s.levelsAt u t).1 == s.flag (F.PWM_STATUS_LEVEL_A u) then [] else [⟨false, false, (s.levelsAt u t).1, t + edgeLag⟩]) ++
    (if (s.levelsAt u t).2 == s.flag (F.PWM_STATUS_LEVEL_B u) then [] else [⟨true, false, (s.levelsAt u t).2, t + edgeLag⟩]) := by
  simp [State.issueEdges]

/-- Settles O20: the boundary stage by stage, each stage by its frame; FORCE and the counters by their writes. -/
theorem pwmBoundaryForceAndCounters : Obligations.PwmBoundaryForceAndCounters := by
  refine ⟨fun s u => ⟨fun hc hn hst hl hsw => ?_, fun hc hn hst => ?_, fun h => if_neg (by simp; omega), fun hc hst hn => ?_⟩,
    fun s u => ⟨fun v hp hu ha hb => ?_, fun i v h => ?_, fun i => ⟨_, rfl, ?_, ?_, (.wr' (.refl _ _ _))⟩⟩⟩
  · have hexec : exec (.pwmPeriodBoundary u) s = _ := (if_pos (by simp [hc, hn])).trans (if_pos hst)
    have hrun := s.boundary_sameRun u (s.pwm.get u).next
    have htaken := s.boundaryTaken_keeps u (s.pwm.get u).next hl hsw
    have hold (g : Fld) (hg : ∀ f ∈ F.PWM_STATUS_COMMIT_PENDING u :: transferFlds u, f.apart g = true)
        (hd : (F.PWM_STATUS_DITHER_IDX u).apart g = true) : (s.periodShaped u (s.pwm.get u).next).get g = s.get g :=
      ((State.shapePeriod_keeps ..).get_eq g (by simp)).trans ((State.get_put_other _ _ g _ hd).trans (htaken.get_eq g hg))
    refine ⟨_, hexec, ?_, hrun.start.trans (State.shapePeriod_start ..), State.periodStart_rd_lastBoundary .., ?_, fun h1 h2 => ⟨?_, ?_⟩,
      fun h => ⟨?_, ?_⟩, ?_⟩
    · refine hrun.1.trans ((hold _ (List.forall_mem_cons.2 ⟨by simp, apart_transferFlds u _ rfl⟩) (by simp)).trans hst)
    · refine (s.boundary_get u _ _ (by simp [whole])).trans ?_
      refine ((State.shapePeriod_keeps ..).get_eq _ (by simp)).trans ((State.get_put_same _ _ _ (by simp)).trans ?_)
      rw [htaken.get_eq _ (List.forall_mem_cons.2 ⟨by simp, apart_transferFlds u _ rfl⟩)]
      exact Nat.mod_mod _ _
    · refine hrun.commit.trans ((State.shapePeriod_commit ..).trans ?_)
      have htak := congrArg (·.2.2.2) (s.boundaryTaken_pwm_run u (s.pwm.get u).next hl)
      exact htak.trans (show ((s.pwm.get u).commit && (s.pwm.get u).skip) = false by rw [h2, Bool.and_false])
    · refine (s.boundary_get u _ _ (by simp [whole])).trans (((State.shapePeriod_keeps ..).get_eq _ (by simp)).trans
        ((State.get_put_other _ _ _ _ (by simp)).trans ((s.boundaryTaken_get_pending u _ hl hsw).trans ?_)))
      simp [h2, b2n]
    · exact (s.boundary_get u _ _ (by simp [whole])).trans (((State.shapePeriod_keeps ..).get_eq _ (by simp)).trans
        ((State.get_put_other _ _ _ _ (by simp)).trans (s.boundaryTaken_get_of_no_commit u _ hl hsw h _ (by simp))))
    · exact (s.boundary_get u _ _ (by simp [whole])).trans (((State.shapePeriod_keeps ..).get_eq _ (by simp)).trans
        ((State.get_put_other _ _ _ _ (by simp)).trans (s.boundaryTaken_get_of_no_commit u _ hl hsw h _ (by simp))))
    · refine .after (State.periodStart_outside _ _ _ u.isLt) (.after (State.formLevels_outside _ _ u.isLt) (.beside' (.put' ?_)))
      exact (htaken.mono (by simp) (by decide)).keepsOutside _ (transferFlds_zones u u.isLt)
  · have hexec : exec (.pwmPeriodBoundary u) s = _ := (if_pos (by simp [hc, hn])).trans ((if_neg (by simp [hst])).trans (if_pos hst))
    have hrun := State.periodStart_sameRun u (((s.enterHeld u).incWrap (F.PWM_STATUS_DITHER_IDX u)).modPwm u
        fun q => { q with start := (s.pwm.get u).next, n0 := 0, hold := 0, len := s.get (F.PWM_PERIOD u) }) u (s.pwm.get u).next
    refine ⟨_, hexec, ?_, ?_, ?_, ?_, (.after (State.periodStart_keeps ..) (.after (State.modPwm_keeps ..) (.incWrap' (.after (State.enterHeld_keeps ..) (.refl _ _ _)))))⟩
    · exact hrun.1.trans ((State.get_put_other _ _ _ _ (by simp)).trans ((State.enterHeld_sameRun u s u).1.trans hst))
    · refine hrun.start.trans ?_
      simp
    · refine hrun.len.trans ?_
      simp
    · refine ((State.periodStart_keeps ..).get_eq _ (by simp [whole])).trans ((State.get_put_other _ _ _ _ (by simp)).trans ?_)
      exact (State.enterHeld_keeps ..).get_eq _ (by simp)
  · have hexec : exec (.pwmEdgeIssue u) s = .next (s.issueEdges u s.epoch) := if_pos (by simp [hc, hst, hn])
    refine ⟨_, hexec, ?_, ?_, fun m hm => ?_, fun h1 h2 => ?_, s.issueEdges_keeps u _⟩
    · simp [State.issueEdges, b2n_eq_one]
    · simp [State.issueEdges, b2n_eq_one]
    · simp only [s.issueEdges_msgs, List.mem_append] at hm
      rcases hm with (hm | hm) | hm
      · exact .inl hm
      · split at hm
        · cases hm
        · obtain rfl := List.mem_singleton.1 hm
          exact .inr ⟨rfl, rfl, rfl⟩
      · split at hm
        · cases hm
        · obtain rfl := List.mem_singleton.1 hm
          exact .inr ⟨rfl, rfl, rfl⟩
    · rw [s.issueEdges_msgs, h1, h2]
      simp
  · have hgo : s.pwmForceWrite .hpa u v = _ := if_pos ⟨rfl, hp, hu, ha, hb⟩
    refine ⟨_, congrArg Host.Outcome.next hgo, ?_, ?_, (.ite' (.after (State.issueEdges_keeps ..) (.put' (.put' (.refl _ _ _)))) (.put' (.put' (.refl _ _ _))))⟩
    · split
      · refine ((State.issueEdges_keeps ..).get_eq _ (by simp)).trans ?_
        simpa using Nat.mod_eq_of_lt (bitsOf_lt v.toNat 0 2)
      · simpa using Nat.mod_eq_of_lt (bitsOf_lt v.toNat 0 2)
    · split
      · refine ((State.issueEdges_keeps ..).get_eq _ (by simp)).trans ?_
        simpa using Nat.mod_eq_of_lt (bitsOf_lt v.toNat 2 2)
      · simpa using Nat.mod_eq_of_lt (bitsOf_lt v.toNat 2 2)
  · have hgo : s.pwmForceWrite i u v = _ := if_neg (by rintro ⟨h1, h2, h3, h4, h5⟩; rcases h with h | h | h | h | h <;> simp_all <;> omega)
    exact ⟨_, congrArg Host.Outcome.next hgo, s.cfgReject_refused _ _⟩
  · simp [State.get, bitsOf]
  · simp [State.get, bitsOf]

end Sys2Proof.Machine
end

section
/-!
Proofs about the relays (chapter 11): the opening of both, and a trip.
The proofs are elaborated in turn: in one text, proofs that wait for each other would each hold a thread.
-/

set_option Elab.async false

namespace Sys2Proof.Machine

theorem Keeps.rd_eq {fs : List Fld} {ps : List Part} {s t : State} (h : Keeps fs ps s t) (a : Nat)
    (ha : ∀ f ∈ fs, f.apart (whole a) = true) : t.rd a = s.rd a := by
  have hget := h.get_eq (whole a) ha
  rw [State.get_whole, State.get_whole] at hget
  exact BitVec.eq_of_toNat_eq hget

/-! ### The grid units, and what a stop of one reaches -/

theorem State.gridUnits_bounds {s : State} {u : Nat} (h : u ∈ s.gridUnits) : 8 ≤ u ∧ u < 14 := by
  unfold State.gridUnits topoUnits at h
  split_ifs at h <;> simp at h <;> omega

theorem State.gridUnits_nodup (s : State) : s.gridUnits.Nodup := by
  unfold State.gridUnits topoUnits
  split_ifs <;> decide

theorem State.modRelay_keeps (s : State) (f : RelayState → RelayState) :
    Keeps [] [.relay] s (s.modRelay f) :=
  .beside' (.refl _ _ _)

theorem State.relayDrive_keeps (s : State) (k : ℕ) (on : Bool) :
    Keeps [relayHoldF k, relayCmdF k, relayCntF k] [.relay] s (s.relayDrive k on) :=
  .ite' (.refl _ _ _) (.comp (.ite' (.incSat' (.refl _ _ _)) (.refl _ _ _)) (.after (State.modRelay_keeps ..) (.put' (.put' (.refl _ _ _)))))

theorem State.relaysOff_keeps (s : State) :
    Keeps [F.GRID_RT_STATUS_CHECK_OK, relayHoldF 1, relayCmdF 1, relayCntF 1, relayHoldF 0, relayCmdF 0, relayCntF 0] [.relay] s s.relaysOff :=
  .put' (.after (State.relayDrive_keeps ..) (.after (State.relayDrive_keeps ..) (.refl _ _ _)))

theorem State.setConn_keeps (s : State) (c : ℕ) :
    Keeps [F.GRID_RT_STATUS_CONN_STATE] [] s (s.setConn c) :=
  .put' (.refl _ _ _)

theorem State.enterOpening_keeps (s : State) :
    Keeps [F.GRID_RT_STATUS_CHECK_OK, relayHoldF 1, relayCmdF 1, relayCntF 1, relayHoldF 0, relayCmdF 0, relayCntF 0, F.GRID_RT_STATUS_CONN_STATE] [.relay] s s.enterOpening :=
  .comp (.ite' (.refl _ _ _) (.after (State.modRelay_keeps ..) (.after (State.setConn_keeps ..) (.refl _ _ _)))) (.after (State.relaysOff_keeps ..) (.refl _ _ _))

theorem State.setOp_keeps (s : State) (op : ℕ) :
    Keeps [F.GRID_STATUS_FORMING, F.GRID_RT_STATUS_OP_STATE, F.GRID_RT_STICKY_FCI_SEEN, F.GRID_RT_STICKY_CEASED] [] s (s.setOp op) :=
  .comp (.ite' (.set1' (.refl _ _ _)) (.refl _ _ _)) (.ite' (.set1' (.put' (.put' (.refl _ _ _)))) (.put' (.put' (.refl _ _ _))))

theorem State.modCour_keeps (s : State) (f : CourState → CourState) :
    Keeps [] [.cour] s (s.modCour f) :=
  .beside' (.refl _ _ _)

theorem State.plcQueue_keeps (s : State) (txid : ℕ) (dst : ℕ) (bs : List Byte) :
    Keeps [] [.cour] s (s.plcQueue txid dst bs) :=
  .ite' (.after (State.modCour_keeps ..) (.refl _ _ _)) (.refl _ _ _)

theorem State.eventSend_keeps (s : State) :
    Keeps [] [.cour, .draws] s s.eventSend :=
  .ite' (.refl _ _ _) (.comp (.ite' (.refl _ _ _) (.after (State.plcQueue_keeps ..) (.refl _ _ _))) (.after (State.modCour_keeps ..) (.drew' (.refl _ _ _))))

theorem State.openingEvent_keeps (s : State) (was : ℕ) :
    Keeps [] [.cour, .draws] s (s.openingEvent was) :=
  .ite' (.refl _ _ _) (.after (State.eventSend_keeps ..) (.refl _ _ _))

theorem State.modGrid_keeps (s : State) (f : GridState → GridState) :
    Keeps [] [.grid] s (s.modGrid f) :=
  .beside' (.refl _ _ _)

theorem State.probeAbandon_keeps (s : State) :
    Keeps [F.GRID_RT_STATUS_PROBE] [.grid] s s.probeAbandon :=
  .after (State.modGrid_keeps ..) (.put' (.refl _ _ _))

theorem State.setOp_outside (s : State) (op : ℕ) :
    KeepsOutside [zone R.GRID_CFG] [] s (s.setOp op) :=
  .comp (.ite' (.set1' (.refl _ _ _)) (.refl _ _ _)) (.ite' (.set1' (.put' (.put' (.refl _ _ _)))) (.put' (.put' (.refl _ _ _))))

theorem State.modRelay_outside (s : State) (f : RelayState → RelayState) :
    KeepsOutside [] [.relay] s (s.modRelay f) :=
  .beside' (.refl _ _ _)

theorem State.relayDrive_outside (s : State) (k : ℕ) (on : Bool) :
    KeepsOutside [zone R.RELAY_CFG] [.relay] s (s.relayDrive k on) :=
  .ite' (.refl _ _ _) (.comp (.ite' (.incSat' (.refl _ _ _) (by unfold relayCntF; split <;> decide)) (.refl _ _ _)) (.after (State.modRelay_outside ..) (.put' (.put' (.refl _ _ _) (by unfold relayCmdF; split <;> decide)) (by unfold relayHoldF; split <;> decide))))

theorem State.relaysOff_outside (s : State) :
    KeepsOutside [zone R.GRID_CFG, zone R.RELAY_CFG] [.relay] s s.relaysOff :=
  .put' (.after (State.relayDrive_outside ..) (.after (State.relayDrive_outside ..) (.refl _ _ _)))

theorem State.enterOpening_outside (s : State) :
    KeepsOutside [zone R.GRID_CFG, zone R.RELAY_CFG] [.relay] s s.enterOpening :=
  .comp (.ite' (.refl _ _ _) (.after (State.modRelay_outside ..) (.after (State.setConn_outside ..) (.refl _ _ _)))) (.after (State.relaysOff_outside ..) (.refl _ _ _))

theorem State.probeAbandon_outside (s : State) :
    KeepsOutside [zone R.GRID_CFG] [.grid] s s.probeAbandon :=
  .after (State.modGrid_outside ..) (.put' (.refl _ _ _))

theorem State.modCour_outside (s : State) (f : CourState → CourState) :
    KeepsOutside [] [.cour] s (s.modCour f) :=
  .beside' (.refl _ _ _)

theorem State.plcQueue_outside (s : State) (txid : ℕ) (dst : ℕ) (bs : List Byte) :
    KeepsOutside [] [.cour] s (s.plcQueue txid dst bs) :=
  .ite' (.after (State.modCour_outside ..) (.refl _ _ _)) (.refl _ _ _)

theorem State.eventSend_outside (s : State) :
    KeepsOutside [] [.cour, .draws] s s.eventSend :=
  .ite' (.refl _ _ _) (.comp (.ite' (.refl _ _ _) (.after (State.plcQueue_outside ..) (.refl _ _ _))) (.after (State.modCour_outside ..) (.drew' (.refl _ _ _))))

theorem State.openingEvent_outside (s : State) (was : ℕ) :
    KeepsOutside [] [.cour, .draws] s (s.openingEvent was) :=
  .ite' (.refl _ _ _) (.after (State.eventSend_outside ..) (.refl _ _ _))

theorem State.ivStopped_gridUnit (s : State) (u : Nat) (h8 : 8 ≤ u) : KeepsOutside [] [] s (s.ivStopped u) :=
  .cases' (fun h => absurd h (by omega)) (fun _ => .refl _ _ _)

/-- A grid unit drives a lane: its stop reaches no half-bridge and no I-V trace. -/
theorem State.stopUnit_gridUnit (s : State) (u : Nat) (h8 : 8 ≤ u) (hu : u < 14) :
    KeepsOutside [zone (R.PWM_CTRL 0)] [.shadow, .pwm, .drive] s (s.stopUnit u) :=
  .ite' (.ite' (.after (State.stopEdges_outside _ _ _ (by omega)) (.refl _ _ _)) (.refl _ _ _))
    (.comp (.comp (.after (State.ivStopped_gridUnit _ u h8)
        (.ite' (.beside' (.refl _ _ _)) (.put' (.after (State.stopEdges_outside _ _ _ (by omega)) (.beside' (.refl _ _ _))))))
        (.cases' (fun h => absurd h (by omega)) fun _ => .refl _ _ _))
      (.after (State.modPwm_outside ..) (.put' (.after (State.enterHeld_outside ..)
        (.foldl' (.refl _ _ _) fun _ _ _ => .after (State.loopToShadow_outside ..) (.refl _ _ _))))))

/-- The stop of the grid units. -/
def State.gridStopped (s : State) : State := s.forEach s.gridUnits fun s u => s.stopUnit u

theorem State.gridStopped_outside (s : State) : KeepsOutside [zone (R.PWM_CTRL 0)] [.shadow, .pwm, .drive] s s.gridStopped :=
  .forEach' (.refl _ _ _) fun _ hu _ => State.stopUnit_gridUnit _ _ (State.gridUnits_bounds hu).1 (State.gridUnits_bounds hu).2

theorem State.gridStopped_stops (s : State) {u : Nat} (hu : u ∈ s.gridUnits) (h : s.pwmState u ≠ 3) : s.gridStopped.pwmState u = 0 := by
  have hlt := (State.gridUnits_bounds hu).2
  exact State.forEach_at (P := fun t => t.pwmState u ≠ 3) (Q := fun t => t.pwmState u = 0) s.gridUnits_nodup hu
    (fun k _ hne t ht => by rw [(t.stopUnit_sameRun u k hlt hne.symm).1]; exact ht)
    (fun t ht => t.stopUnit_stops u hlt ht)
    (fun k _ hne t ht => by rw [(t.stopUnit_sameRun u k hlt hne.symm).1]; exact ht) s h

/-! ### The relays de-energised, and OPENING entered (R395, R398) -/

theorem State.relayDrive_off_cmd (s : State) (k : Nat) : (s.relayDrive k false).get (relayCmdF k) = 0 := by
  have hlt := s.get_lt (relayCmdF k)
  have hlen : (relayCmdF k).len = 1 ∧ (relayCmdF k).lo + (relayCmdF k).len ≤ 32 := by unfold relayCmdF; split <;> decide
  have hapart : (relayHoldF k).apart (relayCmdF k) = true := by unfold relayCmdF relayHoldF; split <;> decide
  unfold State.relayDrive
  split
  next hoff =>
    rw [hlen.1] at hlt
    simp [State.flag] at hoff
    omega
  next =>
    show ((s.put (relayCmdF k) (b2n false)).put (relayHoldF k) 0).get (relayCmdF k) = 0
    rw [State.get_put_other _ _ _ _ hapart, State.get_put_same _ _ _ hlen.2]
    simp [b2n]

theorem State.relaysOff_cmds (s : State) : s.relaysOff.get F.RELAY_STATUS_K1_CMD = 0 ∧ s.relaysOff.get F.RELAY_STATUS_K2_CMD = 0 ∧
    s.relaysOff.get F.GRID_RT_STATUS_CHECK_OK = 0 := by
  have hK2 (t : State) : Keeps [F.RELAY_STATUS_K2_CMD, F.RELAY_STATUS_K2_HOLD] [.relay] t (t.relayDrive 1 false) :=
    .ite' (.refl _ _ _) (.beside' (.put' (.put' (.refl _ _ _) (by simp [relayCmdF])) (by simp [relayHoldF])))
  refine ⟨?_, ?_, by simp [State.relaysOff]⟩
  · simp only [State.relaysOff, State.get_put_other _ F.GRID_RT_STATUS_CHECK_OK F.RELAY_STATUS_K1_CMD 0 (by decide)]
    exact ((hK2 _).get_eq _ (by decide)).trans (s.relayDrive_off_cmd 0)
  · simp only [State.relaysOff, State.get_put_other _ F.GRID_RT_STATUS_CHECK_OK F.RELAY_STATUS_K2_CMD 0 (by decide)]
    exact State.relayDrive_off_cmd _ 1

theorem State.relaysOff_frame (s : State) : Keeps [F.RELAY_STATUS_K1_CMD, F.RELAY_STATUS_K1_HOLD, F.RELAY_STATUS_K2_CMD, F.RELAY_STATUS_K2_HOLD,
    F.GRID_RT_STATUS_CHECK_OK, F.RELAY_CNT_K1, F.RELAY_CNT_K2] [.relay] s s.relaysOff :=
  .after (State.relaysOff_keeps ..) (.refl _ _ _) (by decide)

theorem State.enterOpening_of_closed {s : State} (h : s.conn ≠ 4 ∧ s.conn ≠ 5) :
    s.enterOpening = (s.relaysOff.setConn 4).modRelay fun r => { r with openFrom := s.relaysOff.mono } := if_neg (by simp [h])

theorem State.enterOpening_of_open {s : State} (h : s.conn = 4 ∨ s.conn = 5) : s.enterOpening = s.relaysOff := if_pos h.symm

theorem State.enterOpening_cmds (s : State) : s.enterOpening.get F.RELAY_STATUS_K1_CMD = 0 ∧ s.enterOpening.get F.RELAY_STATUS_K2_CMD = 0 ∧
    s.enterOpening.get F.GRID_RT_STATUS_CHECK_OK = 0 := by
  by_cases h : s.conn = 4 ∨ s.conn = 5
  · rw [State.enterOpening_of_open h]
    exact s.relaysOff_cmds
  · rw [State.enterOpening_of_closed (by simpa using h)]
    have hconn (g : Fld) (hg : F.GRID_RT_STATUS_CONN_STATE.apart g = true) : (s.relaysOff.setConn 4).get g = s.relaysOff.get g :=
      State.get_put_other _ _ _ _ hg
    exact ⟨(hconn _ (by decide)).trans s.relaysOff_cmds.1, (hconn _ (by decide)).trans s.relaysOff_cmds.2.1,
      (hconn _ (by decide)).trans s.relaysOff_cmds.2.2⟩

theorem State.enterOpening_frame (s : State) : Keeps [F.RELAY_STATUS_K1_CMD, F.RELAY_STATUS_K1_HOLD, F.RELAY_STATUS_K2_CMD, F.RELAY_STATUS_K2_HOLD,
    F.GRID_RT_STATUS_CHECK_OK, F.GRID_RT_STATUS_CONN_STATE, F.RELAY_CNT_K1, F.RELAY_CNT_K2] [.relay] s s.enterOpening :=
  .after (State.enterOpening_keeps ..) (.refl _ _ _) (by decide)

theorem State.enterOpening_conn (s : State) : s.enterOpening.conn = if s.conn = 4 ∨ s.conn = 5 then s.conn else 4 := by
  split
  next h =>
    rw [State.enterOpening_of_open h]
    exact s.relaysOff_frame.get_eq _ (by decide)
  next h =>
    rw [State.enterOpening_of_closed (by simpa using h)]
    simp [State.conn, State.setConn, State.modRelay]

theorem State.enterOpening_openFrom (s : State) (h : s.conn ≠ 4 ∧ s.conn ≠ 5) : s.enterOpening.relay.openFrom = s.mono := by
  rw [State.enterOpening_of_closed h]
  exact State.mono_congr (s.relaysOff_frame.2 .epoch (by decide)) (s.relaysOff_frame.2 .ep (by decide))

/-! ### A trip (R398): the grid units stop, the relays open, and the record names the cause -/

theorem State.setOp_frame (s : State) (op : Nat) : Keeps [F.GRID_RT_STATUS_OP_STATE, F.GRID_STATUS_FORMING, F.GRID_RT_STICKY_FCI_SEEN,
    F.GRID_RT_STICKY_CEASED] [] s (s.setOp op) := (.after (State.setOp_keeps ..) (.refl _ _ _))

theorem State.setOp_get (s : State) (op : Nat) (h : op < 4) : (s.setOp op).get F.GRID_RT_STATUS_OP_STATE = op := by
  unfold State.setOp
  have hput : ((s.put F.GRID_RT_STATUS_OP_STATE op).put F.GRID_STATUS_FORMING (b2n (op == 3))).get F.GRID_RT_STATUS_OP_STATE = op := by
    simp; omega
  dsimp only
  split <;> split <;> simpa using hput

/-- A trip's first stage: the units stopped, a probe abandoned, both relays de-energised, OP_STATE 0. -/
def State.tripOpened (s : State) : State := (s.gridStopped.probeAbandon.enterOpening).setOp 0

/-- A trip before its EVENT message. -/
def State.tripNoted (s : State) (cause curve point : Nat) : State :=
  let t := ((s.tripOpened.put F.GRID_TRIP_INFO_CAUSE cause).put F.GRID_TRIP_INFO_CURVE curve).put F.GRID_TRIP_INFO_POINT point
  let t := (t.wr R.GRID_TRIP_TICK t.now32).modGrid fun g => { g with startAt := none }
  (t.set1 F.GRID_RT_STICKY_TRIPPED).raise FS.GRID_TRIP

section
variable (s : State) (cause curve point : Nat)

theorem State.gridTrip_eq : s.gridTrip cause curve point = (s.tripNoted cause curve point).openingEvent s.conn := rfl

theorem State.openingEvent_frame (was : Nat) : Keeps [] [.draws, .cour] s (s.openingEvent was) := (.after (State.openingEvent_keeps ..) (.refl _ _ _))

theorem State.tripOpened_stages : s.tripOpened.conn = s.gridStopped.probeAbandon.enterOpening.conn ∧
    (∀ g, (∀ f ∈ [F.GRID_RT_STATUS_OP_STATE, F.GRID_STATUS_FORMING, F.GRID_RT_STICKY_FCI_SEEN, F.GRID_RT_STICKY_CEASED], f.apart g = true) →
      s.tripOpened.get g = s.gridStopped.probeAbandon.enterOpening.get g) :=
  ⟨(State.setOp_frame _ 0).get_eq _ (by decide), fun g hg => (State.setOp_frame _ 0).get_eq g hg⟩

theorem State.probeAbandon_frame : Keeps [F.GRID_RT_STATUS_PROBE] [.grid] s s.probeAbandon := (.after (State.probeAbandon_keeps ..) (.refl _ _ _))

theorem State.gridStopped_conn : s.gridStopped.probeAbandon.conn = s.conn :=
  ((State.probeAbandon_frame _).get_eq _ (by decide)).trans (s.gridStopped_outside.get_eq _ (by decide))

theorem State.gridStopped_mono : s.gridStopped.probeAbandon.mono = s.mono :=
  State.mono_congr (s.gridStopped_outside.2 .epoch (by decide)) (s.gridStopped_outside.2 .ep (by decide))

theorem State.tripOpened_conn : s.tripOpened.conn = if s.conn = 4 ∨ s.conn = 5 then s.conn else 4 := by
  rw [s.tripOpened_stages.1, State.enterOpening_conn, s.gridStopped_conn]

theorem State.tripOpened_cmds : s.tripOpened.get F.RELAY_STATUS_K1_CMD = 0 ∧ s.tripOpened.get F.RELAY_STATUS_K2_CMD = 0 ∧
    s.tripOpened.get F.GRID_RT_STATUS_CHECK_OK = 0 := by
  obtain ⟨hk1, hk2, hok⟩ := s.gridStopped.probeAbandon.enterOpening_cmds
  exact ⟨(s.tripOpened_stages.2 _ (by decide)).trans hk1, (s.tripOpened_stages.2 _ (by decide)).trans hk2,
    (s.tripOpened_stages.2 _ (by decide)).trans hok⟩

theorem State.tripOpened_openFrom (h : s.conn ≠ 4 ∧ s.conn ≠ 5) : s.tripOpened.relay.openFrom = s.mono := by
  refine (congrArg RelayState.openFrom ((State.setOp_frame _ 0).2 .relay (by decide))).trans ?_
  rw [State.enterOpening_openFrom _ (by rwa [s.gridStopped_conn]), s.gridStopped_mono]

theorem State.tripOpened_outside : KeepsOutside [zone R.GRID_CFG, zone R.RELAY_CFG, zone (R.PWM_CTRL 0)] [.shadow, .pwm, .drive, .grid, .relay]
    s s.tripOpened := by
  have hopen (t : State) : KeepsOutside [zone R.GRID_CFG, zone R.RELAY_CFG] [.grid, .relay] t (t.probeAbandon.enterOpening.setOp 0) := (.after (State.setOp_outside ..) (.after (State.enterOpening_outside ..) (.after (State.probeAbandon_outside ..) (.refl _ _ _))))
  exact .after (hopen _) (.after s.gridStopped_outside (.refl _ _ _))

theorem State.tripOpened_unit {u : Nat} (hu : u ∈ s.gridUnits) (h : s.pwmState u ≠ 3) : s.tripOpened.pwmState u = 0 := by
  have hopen (t : State) : KeepsOutside [zone R.GRID_CFG, zone R.RELAY_CFG] [.grid, .relay] t (t.probeAbandon.enterOpening.setOp 0) := (.after (State.setOp_outside ..) (.after (State.enterOpening_outside ..) (.after (State.probeAbandon_outside ..) (.refl _ _ _))))
  have hlt := (State.gridUnits_bounds hu).2
  exact ((hopen s.gridStopped).get_eq _ (by simp; omega)).trans (s.gridStopped_stops hu h)

theorem State.tripNoted_outside : KeepsOutside [zone R.GRID_CFG, zone R.RELAY_CFG, zone (R.PWM_CTRL 0)]
    [.shadow, .raised, .pwm, .drive, .grid, .relay] s (s.tripNoted cause curve point) :=
  .raise' (.set1' (.beside' (.wr' (.put' (.put' (.put' (.after s.tripOpened_outside (.refl _ _ _))))))))

/-- Outside its record a trip leaves what its first stage made. -/
theorem State.gridTrip_record : Keeps [F.GRID_TRIP_INFO_CAUSE, F.GRID_TRIP_INFO_CURVE, F.GRID_TRIP_INFO_POINT, whole R.GRID_TRIP_TICK,
    F.GRID_RT_STICKY_TRIPPED] [.raised, .draws, .grid, .cour]
    s.tripOpened (s.gridTrip cause curve point) :=
  .after (State.openingEvent_frame ..) (.raise' (.set1' (.beside' (.wr' (.put' (.put' (.put' (.refl _ _ _))))))))

theorem State.gridTrip_outside : KeepsOutside [zone R.GRID_CFG, zone R.RELAY_CFG, zone (R.PWM_CTRL 0)]
    [.shadow, .raised, .draws, .pwm, .drive, .grid, .relay, .cour] s (s.gridTrip cause curve point) := by
  have hevent (t : State) (was : Nat) : KeepsOutside [] [.draws, .cour] t (t.openingEvent was) := (.after (State.openingEvent_outside ..) (.refl _ _ _))
  exact .after (hevent _ _) (.after (s.tripNoted_outside cause curve point) (.refl _ _ _))

theorem State.gridTrip_conn : (s.gridTrip cause curve point).conn = if s.conn = 4 ∨ s.conn = 5 then s.conn else 4 :=
  ((s.gridTrip_record cause curve point).get_eq _ (by decide)).trans s.tripOpened_conn

theorem State.gridTrip_openFrom (h : s.conn ≠ 4 ∧ s.conn ≠ 5) : (s.gridTrip cause curve point).relay.openFrom = s.mono :=
  (congrArg RelayState.openFrom ((s.gridTrip_record cause curve point).2 .relay (by decide))).trans (s.tripOpened_openFrom h)

theorem State.gridTrip_cmds : (s.gridTrip cause curve point).get F.RELAY_STATUS_K1_CMD = 0 ∧
    (s.gridTrip cause curve point).get F.RELAY_STATUS_K2_CMD = 0 ∧ (s.gridTrip cause curve point).get F.GRID_RT_STATUS_CHECK_OK = 0 := by
  have hrec := s.gridTrip_record cause curve point
  obtain ⟨hk1, hk2, hok⟩ := s.tripOpened_cmds
  exact ⟨(hrec.get_eq _ (by decide)).trans hk1, (hrec.get_eq _ (by decide)).trans hk2, (hrec.get_eq _ (by decide)).trans hok⟩

theorem State.gridTrip_op : (s.gridTrip cause curve point).get F.GRID_RT_STATUS_OP_STATE = 0 :=
  ((s.gridTrip_record cause curve point).get_eq _ (by decide)).trans (State.setOp_get _ 0 (by decide))

theorem State.gridTrip_cause (h : cause < 16) : (s.gridTrip cause curve point).get F.GRID_TRIP_INFO_CAUSE = cause := by
  refine ((State.openingEvent_frame _ _).get_eq _ (by decide)).trans ?_
  simp [State.tripNoted, State.modGrid]
  omega

theorem State.gridTrip_tick : (s.gridTrip cause curve point).rd R.GRID_TRIP_TICK = w32 s.epoch := by
  have hepoch := s.tripOpened_outside.2 .epoch (by decide)
  rw [State.gridTrip_eq, (State.openingEvent_frame _ _).rd_eq _ (by decide)]
  simpa [State.tripNoted, State.modGrid, State.now32] using congrArg w32 hepoch

theorem State.gridTrip_tripped : (s.gridTrip cause curve point).get F.GRID_RT_STICKY_TRIPPED = 1 :=
  ((State.openingEvent_frame _ _).get_eq _ (by decide)).trans (by simp [State.tripNoted])

theorem State.gridTrip_raised : (s.gridTrip cause curve point).raised = s.raised ++ [⟨FS.GRID_TRIP, 0⟩] :=
  ((State.openingEvent_frame _ _).2 .raised (by decide)).trans (congrArg (· ++ _) (s.tripOpened_outside.2 .raised (by decide)))

theorem State.gridTrip_unit {u : Nat} (hu : u ∈ s.gridUnits) (h : s.pwmState u ≠ 3) : (s.gridTrip cause curve point).pwmState u = 0 := by
  have hlt := (State.gridUnits_bounds hu).2
  exact ((s.gridTrip_record cause curve point).get_eq _ (by simp [whole]; omega)).trans (s.tripOpened_unit hu h)

end

end Sys2Proof.Machine
end

section
/-!
Proofs about the relays (chapter 11): trips and the opening.
The proofs are elaborated in turn: in one text, proofs that wait for each other would each hold a thread.
-/

set_option Elab.async false

namespace Sys2Proof.Machine

theorem State.enterWait_keeps (s : State) :
    Keeps [whole R.GRID_RC_DRAW, F.GRID_RT_STATUS_RC_READY, F.GRID_RT_STATUS_CONN_STATE] [.grid, .draws] s s.enterWait :=
  .after (State.modGrid_keeps ..) (.drew' (.wr' (.put' (.after (State.setConn_keeps ..) (.refl _ _ _)))))

/-- The drawn reconnection delay is within its bound (R400). -/
theorem State.enterWait_facts (s : State) : s.enterWait.conn = 1 ∧ s.enterWait.grid.timer = none ∧ s.enterWait.get F.GRID_RT_STATUS_RC_READY = 0 ∧
    (s.enterWait.rd R.GRID_RC_DRAW).toNat ≤ s.gc 0x212 2 * 1000 := by
  refine ⟨by simp [State.enterWait, State.conn, State.setConn, State.drew, State.modGrid], rfl, by simp [State.enterWait, State.drew, State.modGrid], ?_⟩
  have hmod : s.drawn % (s.gc 0x212 2 * 1000 + 1) < s.gc 0x212 2 * 1000 + 1 := Nat.mod_lt _ (Nat.succ_pos _)
  simp only [State.enterWait, State.drew, State.modGrid, State.rd_mk, State.rd_wr_same, w32, BitVec.toNat_ofNat]
  refine (Nat.mod_le _ _).trans ?_
  split <;> omega

theorem State.gridTrip_get_fbLost (s : State) (cause curve point : Nat) :
    (s.gridTrip cause curve point).get F.RELAY_STICKY_FB_LOST = s.get F.RELAY_STICKY_FB_LOST := by
  refine ((s.gridTrip_record cause curve point).get_eq _ (by decide)).trans ((s.tripOpened_stages.2 _ (by decide)).trans ?_)
  exact ((State.enterOpening_frame _).get_eq _ (by decide)).trans
    (((State.probeAbandon_frame _).get_eq _ (by decide)).trans (s.gridStopped_outside.get_eq _ (by decide)))

/-- Settles O26: a trip by its record, the opening's end by its three outcomes. -/
theorem tripsAndOpening : Obligations.TripsAndOpening := by
  refine fun s => ⟨?_, fun i hi => ?_, fun hconn hdue hfb => ?_, fun hconn hdue h0 h1 => ?_, fun hconn => ?_, fun hconn hlost => ?_, fun h0 h1 => ?_⟩
  · obtain ⟨hk1, hk2, hok⟩ := s.gridTrip_cmds 7 0 0
    refine ⟨s.gridTrip 7 0 0, rfl, fun h4 h5 => ⟨?_, s.gridTrip_openFrom 7 0 0 ⟨h4, h5⟩⟩, fun h => ?_, hk1, hk2, hok, s.gridTrip_op 7 0 0,
      s.gridTrip_cause 7 0 0 (by decide), s.gridTrip_tick 7 0 0, s.gridTrip_tripped 7 0 0, s.gridTrip_raised 7 0 0,
      fun u hu h3 => s.gridTrip_unit 7 0 0 hu h3, s.gridTrip_outside 7 0 0⟩
    · rw [State.gridTrip_conn, if_neg (by simp [h4, h5])]
    · rw [State.gridTrip_conn, if_pos h]
  · have hrefuse : s.openRequest i = s.cfgReject .grid := if_pos hi
    exact ⟨_, congrArg Host.Outcome.next hrefuse, s.cfgReject_refused _ _⟩
  · have hexec : exec .relayOpeningCheck s = .next ((s.stickyRaise F.RELAY_STICKY_WELD FS.RELAY_FAULT).setConn 5) := by
      refine (if_pos ⟨hconn, hdue⟩).trans (if_pos ?_)
      rcases hfb with h | h <;> simp [h]
    exact ⟨_, hexec, by simp [State.conn, State.setConn], by simp [State.setConn], rfl, (.after (State.setConn_keeps ..) (.stickyRaise' (.refl _ _ _)))⟩
  · have hexec : exec .relayOpeningCheck s = if s.connAble then .next s.enterWait else .next (s.setConn 0) :=
      (if_pos ⟨hconn, hdue⟩).trans (if_neg (by simp [h0, h1]))
    by_cases hable : s.connAble = true
    · exact ⟨_, hexec.trans (if_pos hable), fun _ => s.enterWait_facts, fun h => absurd hable (by simp [h]), (.after (State.enterWait_keeps ..) (.refl _ _ _))⟩
    · exact ⟨_, hexec.trans (if_neg hable), fun h => absurd h hable, fun _ => by simp [State.conn, State.setConn], (.after (State.setConn_keeps ..) (.refl _ _ _))⟩
  · exact if_neg (by simp [hconn])
  · have hexec : exec .relayFbLost s = .next ((s.stickyRaise F.RELAY_STICKY_FB_LOST FS.RELAY_FAULT).gridTrip 6 0 0) :=
      if_pos ⟨hconn, by simpa using hlost⟩
    have hsticky : Keeps [F.RELAY_STICKY_FB_LOST] [.raised] s (s.stickyRaise F.RELAY_STICKY_FB_LOST FS.RELAY_FAULT) := (.stickyRaise' (.refl _ _ _))
    refine ⟨_, hexec, ?_, ?_, State.gridTrip_cause _ 6 0 0 (by decide), ?_, .after (State.gridTrip_outside _ 6 0 0) (.raise' (.set1' (.refl _ _ s)))⟩
    · have hconn' : (s.stickyRaise F.RELAY_STICKY_FB_LOST FS.RELAY_FAULT).conn = 3 := (hsticky.get_eq _ (by decide)).trans hconn
      rw [State.gridTrip_conn, hconn', if_neg (by decide)]
    · exact (State.gridTrip_get_fbLost _ 6 0 0).trans (by simp)
    · rw [State.gridTrip_raised]
      simp [State.stickyRaise, State.raise, State.raiseAt]
  · exact if_neg (by simp [h0, h1])

end Sys2Proof.Machine
end

section
/-!
Proofs about Hokuon (chapter 16): what an instruction's end reaches, and reads of a pair's registers.
The proofs are elaborated in turn: in one text, proofs that wait for each other would each hold a thread.
-/

set_option Elab.async false

namespace Sys2Proof.Machine

/-! ### What only counts: a Hokuon pair's event counters and their Archive records (R530 to R532) -/

/-- A byte address lies outside the Archive (Table HOK-3). -/
abbrev OffArchive (a : Nat) : Prop := memHome a < 0x203FC000 ∨ 0x20400000 ≤ memHome a

/-- From s to t pair q has done nothing but count: its event counters, their Archive state, and bytes of the Archive may differ; beside these
only the named registers and parts. -/
structure OnlyCounts (rs : List (Nat × Nat)) (ps : List Part) (q : Nat) (s t : State) : Prop where
  pair : ∃ c a n, t.hok.get q = { s.hok.get q with cnt := c, arch := a, archFull := n }
  other : ∀ k, k ≠ q → t.hok.get k = s.hok.get k
  bytes : ∀ a, OffArchive a → t.rdB a = s.rdB a ∧ t.eccBad a = s.eccBad a
  frame : KeepsOutside rs ps s t

section
variable {rs : List (Nat × Nat)} {ps : List Part} {q : Nat} {s t u : State}

theorem OnlyCounts.refl (rs : List (Nat × Nat)) (ps : List Part) (q : Nat) (s : State) : OnlyCounts rs ps q s s :=
  ⟨⟨_, _, _, rfl⟩, fun _ _ => rfl, fun _ _ => ⟨rfl, rfl⟩, .refl _ _ _⟩

theorem OnlyCounts.trans (h : OnlyCounts rs ps q s t) (h' : OnlyCounts rs ps q t u) : OnlyCounts rs ps q s u := by
  obtain ⟨c, a, n, hpair⟩ := h.pair
  obtain ⟨c', a', n', hpair'⟩ := h'.pair
  exact ⟨⟨c', a', n', by rw [hpair', hpair]⟩, fun k hk => (h'.other k hk).trans (h.other k hk),
    fun a ha => ⟨(h'.bytes a ha).1.trans (h.bytes a ha).1, (h'.bytes a ha).2.trans (h.bytes a ha).2⟩, h.frame.trans h'.frame⟩

theorem OnlyCounts.of_frame (hframe : KeepsOutside rs ps s t) (hhok : t.hok = s.hok) (hmem : t.mem = s.mem) (hecc : t.ecc = s.ecc) :
    OnlyCounts rs ps q s t :=
  ⟨⟨_, _, _, by rw [hhok]⟩, fun _ _ => by rw [hhok], fun a _ => ⟨State.rdB_congr hmem a, by rw [State.eccBad, hecc]; rfl⟩, hframe⟩

theorem OnlyCounts.mono {qs : List (Nat × Nat)} {ps' : List Part} (h : OnlyCounts rs ps q s t) (hr : rs ⊆ qs := by decide)
    (hp : ps ⊆ ps' := by decide) : OnlyCounts qs ps' q s t := ⟨h.pair, h.other, h.bytes, h.frame.mono hr hp⟩

theorem OnlyCounts.after (h' : OnlyCounts rs ps q t u) (h : OnlyCounts rs ps q s t) : OnlyCounts rs ps q s u := h.trans h'

theorem OnlyCounts.put' {f : Fld} {v : Nat} (h : OnlyCounts rs ps q s t)
    (hr : ∃ r ∈ rs, r.1 ≤ f.addr ∧ f.addr < r.2 := by first | decide | (simp <;> omega)) : OnlyCounts rs ps q s (t.put f v) :=
  h.trans (.of_frame (.put' (.refl _ _ _) hr) rfl rfl rfl)

theorem OnlyCounts.drewN' {n : Nat} (h : OnlyCounts rs ps q s t) (hp : Part.draws ∈ ps := by decide) : OnlyCounts rs ps q s (t.drewN n) :=
  h.trans (.of_frame ((KeepsOutside.refl _ _ _).draws _ hp) rfl rfl rfl)

theorem OnlyCounts.ite' {c : Prop} {_ : Decidable c} (h : OnlyCounts rs ps q s t) (k : OnlyCounts rs ps q s u) :
    OnlyCounts rs ps q s (if c then t else u) := by
  split <;> assumption

theorem OnlyCounts.foldl' {α : Type} {g : State → α → State} {l : List α} (h : OnlyCounts rs ps q s t)
    (hg : ∀ x ∈ l, ∀ t, OnlyCounts rs ps q t (g t x)) : OnlyCounts rs ps q s (l.foldl g t) := by
  induction l generalizing t with
  | nil => exact h
  | cons x l ih => exact ih (h.trans (hg x (by simp) t)) fun y hy => hg y (List.mem_cons_of_mem _ hy)

theorem State.hok_modHok_same (s : State) (q : Nat) (f : Hok → Hok) : (s.modHok q f).hok.get q = f (s.hok.get q) := SMap.get_set_same _ _ _

theorem State.hok_modHok_other (s : State) (q k : Nat) (f : Hok → Hok) (h : k ≠ q) : (s.modHok q f).hok.get k = s.hok.get k :=
  SMap.get_set_ne _ _ _ _ h

/-- An update of the pair's counters and their Archive state. -/
theorem OnlyCounts.modHok' {f : Hok → Hok} (h : OnlyCounts rs ps q s t)
    (hf : ∀ x : Hok, ∃ c a n, f x = { x with cnt := c, arch := a, archFull := n } := by exact fun _ => ⟨_, _, _, rfl⟩) (hp : Part.hok ∈ ps := by decide) :
    OnlyCounts rs ps q s (t.modHok q f) := by
  refine h.trans ⟨?_, fun k hk => t.hok_modHok_other q k f hk, fun _ _ => ⟨rfl, rfl⟩, (KeepsOutside.refl _ _ _).hok _ hp⟩
  rw [State.hok_modHok_same]
  exact hf _

end

/-- A run of bytes inside the Archive. -/
theorem OnlyCounts.wrBytes' {rs : List (Nat × Nat)} {ps : List Part} {q : Nat} (l : List Byte) : ∀ {s t : State} {a : Nat},
    OnlyCounts rs ps q s t → 0x203FC000 ≤ a → a % 4 + (a / 4 * 4) + l.length ≤ 0x20400000 → Part.mem ∈ ps → OnlyCounts rs ps q s (t.wrBytes a l) := by
  induction l with
  | nil => exact fun h _ _ _ => h
  | cons b l ih =>
    intro s t a h hlo hhi hp
    have hlen : (b :: l).length = l.length + 1 := rfl
    have hhome : memHome a = a := if_neg (by omega)
    have hstep : OnlyCounts rs ps q t (t.wrB a b) := by
      refine ⟨⟨_, _, _, rfl⟩, fun _ _ => rfl, fun c hc => ?_, .wrB' (.refl _ _ _) hp⟩
      have hne : memHome c ≠ memHome a := by omega
      have hword : eccHome c ≠ eccHome a := by simp only [eccHome]; omega
      rw [State.rdB_wrB, if_neg hne, State.eccBad_wrB, if_neg hword]
      exact ⟨rfl, rfl⟩
    exact ih (h.trans hstep) (by omega) (by omega) hp

/-- What a pair's counting reaches. -/
abbrev Counts (q : Nat) (s t : State) : Prop := OnlyCounts [zone R.PERF_CTRL] [.mem, .draws, .hok] q s t

theorem State.archBytes_length (s : State) (q j e : Nat) (i : Note) : (s.archBytes q j e i).length = 16 := by
  simp [State.archBytes, leBytes]

theorem State.archSample_counts (s : State) {q j : Nat} (e : Nat) (i : Note) (hq : q < 2) (hj : j < 2) : Counts q s (s.archSample q j e i) := by
  have hw := s.get_lt ⟨R.PERF_ARCH_WR (2 * q + j), 0, 8⟩
  have hlen := s.archBytes_length q j e i
  have hbytes : Counts q s (s.wrBytes (0x203FC000 + 0x1000 * (2 * q + j) + 16 * s.get ⟨R.PERF_ARCH_WR (2 * q + j), 0, 8⟩) (s.archBytes q j e i)) :=
    .wrBytes' _ (.refl _ _ _ _) (by omega) (by dsimp only at hw; omega) (by decide)
  have hrec := OnlyCounts.modHok' (f := fun h => { h with cnt := h.cnt.set (96 * j + 0x5D) ((h.cnt.get (96 * j + 0x5D) + 1) % 2 ^ 48) })
    (OnlyCounts.put' (f := ⟨R.PERF_ARCH_WR (2 * q + j), 0, 8⟩) (v := (s.get ⟨R.PERF_ARCH_WR (2 * q + j), 0, 8⟩ + 1) % 256)
      (OnlyCounts.drewN' (n := 3) hbytes))
  exact .ite' (.ite' (.modHok' (.put' hrec)) hrec) (.ite' (.put' hrec) hrec)

theorem State.archCount_counts (s : State) {q j : Nat} (e n : Nat) (i : Note) (hq : q < 2) (hj : j < 2) : Counts q s (s.archCount q j e n i) :=
  .ite' (.foldl' (.modHok' (.refl _ _ _ _)) fun _ _ t => .ite' (t.archSample_counts e i hq hj) (.refl _ _ _ _)) (.refl _ _ _ _)

theorem State.perfAdd_counts (s : State) {q : Nat} (i : Note) (e n : Nat) (hq : q < 2) : Counts q s (s.perfAdd q i e n) := by
  refine .ite' (.refl _ _ _ _) (.foldl' (.refl _ _ _ _) fun j hj t => .ite' ?_ (.refl _ _ _ _))
  have hj2 : j < 2 := by simp at hj; omega
  exact .after (State.archCount_counts _ e n i hq hj2) (.ite' (.put' (.modHok' (.refl _ _ _ _))) (.modHok' (.refl _ _ _ _)))

theorem State.perfAll_counts (s : State) {q : Nat} (i : Note) (es : List Nat) (hq : q < 2) : Counts q s (s.perfAll q i es) :=
  .foldl' (.refl _ _ _ _) fun _ _ t => t.perfAdd_counts i _ 1 hq

theorem State.perfTime_counts (s : State) {q : Nat} (i : Note) (umode : Bool) (hq : q < 2) : Counts q s (s.perfTime q i umode) :=
  .drewN' (.foldl' (.foldl' (.refl _ _ _ _) fun _ _ t => t.perfAdd_counts i _ _ hq) fun _ _ t => t.perfAdd_counts i _ _ hq)

/-! ### The end of an instruction, and the boundary after it -/

/-- What the end of an instruction reaches beside the pair: its counting, and a halt at a breakpoint. -/
abbrev Ends (q : Nat) (s t : State) : Prop :=
  OnlyCounts [zone R.PERF_CTRL, zone (R.PWM_CTRL 0)] [.mem, .raised, .draws, .hok, .pwm, .sv, .start] q s t

theorem State.dbgUnits_lt {s : State} {t u : Nat} (ht : t < 2) (h : u ∈ s.dbgUnits t) : u < 14 := by
  simp only [State.dbgUnits, if_pos ht, List.mem_filter, List.mem_range] at h
  exact h.1

theorem State.freezeUnit_outside' (s : State) (u : Nat) (hu : u < 14) : KeepsOutside [zone (R.PWM_CTRL 0)] [.pwm] s (s.freezeUnit u) :=
  .ite' (.beside' (.put' (.refl _ _ _))) (.refl _ _ _)

/-- A halt of a Hokuon pair freezes units, and holds the watchdog where the pair is HPA. -/
theorem State.dbgHalt_outside (s : State) {t : Nat} (bp : Bool) (ht : t < 2) :
    KeepsOutside [zone (R.PWM_CTRL 0)] [.raised, .pwm, .sv, .start] s (s.dbgHalt t bp) := by
  have hfreeze : KeepsOutside [zone (R.PWM_CTRL 0)] [.raised, .pwm, .sv, .start] s (s.forEach (s.dbgUnits t) State.freezeUnit) :=
    .forEach' (.refl _ _ _) fun u hu r => (r.freezeUnit_outside' u (State.dbgUnits_lt ht hu)).mono (by decide) (by decide)
  have hloop : ¬ (2 ≤ t ∧ t < 8) := by omega
  refine .ite' (.refl _ _ _) (.raise' (.comp (.ite' (.beside' (.refl _ _ _)) (.refl _ _ _)) (.cases' (fun h => absurd ⟨h.1, h.2.1⟩ hloop) fun _ => ?_)))
  exact .beside' hfreeze

theorem State.hokArrive_ends (s : State) {q : Nat} (hq : q < 2) : Ends q s (s.hokArrive q) := by
  unfold State.hokArrive
  split
  · have h := s.dbgHalt_outside true hq
    exact ⟨⟨_, _, _, by rw [h.2 .hok (by decide)]⟩, fun _ _ => by rw [h.2 .hok (by decide)],
      fun a _ => ⟨(h.2 .mem (by decide)).1 a, by rw [State.eccBad, (h.2 .mem (by decide)).2]; rfl⟩, h.mono (by decide) (by decide)⟩
  · exact .refl _ _ _ _

theorem State.hokEnd_done (s u : State) {q pc : Nat} {pre es : List Nat} {umode : Bool} {note : Note} (hq : q < 2) :
    Counts q (u.setPc q pc) (s.hokEnd q pre umode (.done u pc es note)) :=
  .after (State.perfTime_counts _ _ _ hq) (State.perfAll_counts _ _ _ hq)

theorem State.hokEnd_trap (s u : State) {q cause tval : Nat} {pre : List Nat} {umode : Bool} (hq : q < 2) :
    Counts q (u.trap q false cause tval) (s.hokEnd q pre umode (.trap u cause tval)) :=
  .after (State.perfTime_counts _ _ _ hq) (State.perfAll_counts _ _ _ hq)

theorem Counts.ends {q : Nat} {s t : State} (h : Counts q s t) : Ends q s t := h.mono

section
variable {rs : List (Nat × Nat)} {ps : List Part} {q : Nat} {s t : State} (h : OnlyCounts rs ps q s t)
include h

theorem OnlyCounts.pc : (t.hok.get q).pc = (s.hok.get q).pc := by obtain ⟨c, a, n, e⟩ := h.pair; rw [e]

theorem OnlyCounts.mmode : (t.hok.get q).mmode = (s.hok.get q).mmode := by obtain ⟨c, a, n, e⟩ := h.pair; rw [e]

theorem OnlyCounts.wfi : (t.hok.get q).wfi = (s.hok.get q).wfi := by obtain ⟨c, a, n, e⟩ := h.pair; rw [e]

theorem OnlyCounts.dcache : (t.hok.get q).dcache = (s.hok.get q).dcache := by obtain ⟨c, a, n, e⟩ := h.pair; rw [e]

theorem OnlyCounts.icache : (t.hok.get q).icache = (s.hok.get q).icache := by obtain ⟨c, a, n, e⟩ := h.pair; rw [e]

theorem OnlyCounts.xr (r : Nat) : t.xr q r = s.xr q r := by obtain ⟨c, a, n, e⟩ := h.pair; simp only [State.xr, e]

theorem OnlyCounts.fr (r : Nat) : t.fr q r = s.fr q r := by obtain ⟨c, a, n, e⟩ := h.pair; simp only [State.fr, e]

theorem OnlyCounts.csrRaw (k : Nat) : t.csrRaw q k = s.csrRaw q k := by obtain ⟨c, a, n, e⟩ := h.pair; simp only [State.csrRaw, e]

theorem OnlyCounts.mst (lo len : Nat) : t.mst q lo len = s.mst q lo len := by simp only [State.mst, h.csrRaw]

end

/-! ### Reads of a pair's registers after an update -/

section
variable (s : State) (q r k : Nat) (v : Word) (pc : Nat) (f : Hok → Hok)

@[simp] theorem State.xr_setX_same (h : r ≠ 0) : (s.setX q r v).xr q r = v := by
  simp [State.xr, State.setX, h, State.hok_modHok_same]

@[simp] theorem State.xr_setX_other (h : k ≠ r) : (s.setX q r v).xr q k = s.xr q k := by
  unfold State.setX
  split
  · rfl
  · simp [State.xr, State.hok_modHok_same, SMap.get_set_ne _ _ _ _ h]

@[simp] theorem State.fr_setX : (s.setX q r v).fr q k = s.fr q k := by
  unfold State.setX State.fr
  split
  · rfl
  · simp [State.hok_modHok_same]

@[simp] theorem State.csrRaw_setX : (s.setX q r v).csrRaw q k = s.csrRaw q k := by
  unfold State.setX State.csrRaw
  split
  · rfl
  · simp [State.hok_modHok_same]

@[simp] theorem State.pc_setX : ((s.setX q r v).hok.get q).pc = (s.hok.get q).pc := by
  unfold State.setX
  split
  · rfl
  · simp [State.hok_modHok_same]

@[simp] theorem State.mmode_setX : ((s.setX q r v).hok.get q).mmode = (s.hok.get q).mmode := by
  unfold State.setX
  split
  · rfl
  · simp [State.hok_modHok_same]

@[simp] theorem State.xr_setPc : (s.setPc q pc).xr q k = s.xr q k := by simp [State.xr, State.setPc, State.hok_modHok_same]

@[simp] theorem State.fr_setPc : (s.setPc q pc).fr q k = s.fr q k := by simp [State.fr, State.setPc, State.hok_modHok_same]

@[simp] theorem State.csrRaw_setPc : (s.setPc q pc).csrRaw q k = s.csrRaw q k := by simp [State.csrRaw, State.setPc, State.hok_modHok_same]

@[simp] theorem State.pc_setPc : ((s.setPc q pc).hok.get q).pc = pc % 2 ^ 32 := by simp [State.setPc, State.hok_modHok_same]

@[simp] theorem State.mmode_setPc : ((s.setPc q pc).hok.get q).mmode = (s.hok.get q).mmode := by simp [State.setPc, State.hok_modHok_same]

@[simp] theorem State.xr_csrPut : (s.csrPut q r v).xr q k = s.xr q k := by simp [State.xr, State.csrPut, State.hok_modHok_same]

@[simp] theorem State.fr_csrPut : (s.csrPut q r v).fr q k = s.fr q k := by simp [State.fr, State.csrPut, State.hok_modHok_same]

@[simp] theorem State.csrRaw_csrPut_same : (s.csrPut q r v).csrRaw q r = v := by simp [State.csrRaw, State.csrPut, State.hok_modHok_same]

@[simp] theorem State.csrRaw_csrPut_other (h : k ≠ r) : (s.csrPut q r v).csrRaw q k = s.csrRaw q k := by
  simp [State.csrRaw, State.csrPut, State.hok_modHok_same, SMap.get_set_ne _ _ _ _ h]

@[simp] theorem State.pc_csrPut : ((s.csrPut q r v).hok.get q).pc = (s.hok.get q).pc := by simp [State.csrPut, State.hok_modHok_same]

@[simp] theorem State.mmode_csrPut : ((s.csrPut q r v).hok.get q).mmode = (s.hok.get q).mmode := by simp [State.csrPut, State.hok_modHok_same]

end

/-- From s to t pair q alone has moved. -/
def OnlyPair (q : Nat) (s t : State) : Prop := ∃ m, t = { s with hok := m } ∧ ∀ k, k ≠ q → m.get k = s.hok.get k

theorem OnlyPair.refl (q : Nat) (s : State) : OnlyPair q s s := ⟨_, rfl, fun _ _ => rfl⟩

theorem OnlyPair.trans {q : Nat} {s t u : State} (h : OnlyPair q s t) (h' : OnlyPair q t u) : OnlyPair q s u := by
  obtain ⟨m, rfl, hm⟩ := h
  obtain ⟨m', rfl, hm'⟩ := h'
  exact ⟨m', rfl, fun k hk => (hm' k hk).trans (hm k hk)⟩

theorem OnlyPair.modHok {q : Nat} {s t : State} (f : Hok → Hok) (h : OnlyPair q s t) : OnlyPair q s (t.modHok q f) :=
  h.trans ⟨_, rfl, fun k hk => t.hok_modHok_other q k f hk⟩

theorem OnlyPair.setX {q : Nat} {s t : State} {r : Nat} {v : Word} (h : OnlyPair q s t) : OnlyPair q s (t.setX q r v) := by
  unfold State.setX
  split
  · exact h
  · exact h.modHok _

/-- An instruction that moves its pair alone, then what its end reaches. -/
theorem OnlyPair.ends_frame {q : Nat} {s t u : State} (h : OnlyPair q s t) (h' : Ends q t u) :
    (∀ k, k ≠ q → u.hok.get k = s.hok.get k) ∧ (∀ a, OffArchive a → u.rdB a = s.rdB a) ∧
    KeepsOutside [zone R.PERF_CTRL, zone (R.PWM_CTRL 0)] [.mem, .raised, .draws, .hok, .pwm, .sv, .start] s u := by
  obtain ⟨m, rfl, hm⟩ := h
  exact ⟨fun k hk => (h'.other k hk).trans (hm k hk), fun a ha => (h'.bytes a ha).1, .comp h'.frame (.beside' (.refl _ _ s))⟩

end Sys2Proof.Machine
end

section
/-!
Proofs about Hokuon (chapter 16): the fixed-point instructions.
The proofs are elaborated in turn: in one text, proofs that wait for each other would each hold a thread.
-/

set_option Elab.async false

namespace Sys2Proof.Machine

/-! ### The decoding of a custom-0 word (Table HOK-1) -/

section
variable {op f3 f7 : Nat} (rd rs1 rs2 : Fin 32)

theorem encR_op (hop : op < 128) : encR op f3 f7 rd rs1 rs2 % 128 = op := by unfold encR; omega

theorem iRd_encR (hop : op < 128) : iRd (encR op f3 f7 rd rs1 rs2) = rd := by
  have := rd.isLt
  simp only [iRd, bitsOf, encR]; omega

theorem iF3_encR (hop : op < 128) (h3 : f3 < 8) : iF3 (encR op f3 f7 rd rs1 rs2) = f3 := by
  have := rd.isLt
  simp only [iF3, bitsOf, encR]; omega

theorem iRs1_encR (hop : op < 128) (h3 : f3 < 8) : iRs1 (encR op f3 f7 rd rs1 rs2) = rs1 := by
  have := rd.isLt; have := rs1.isLt
  simp only [iRs1, bitsOf, encR]; omega

theorem iRs2_encR (hop : op < 128) (h3 : f3 < 8) : iRs2 (encR op f3 f7 rd rs1 rs2) = rs2 := by
  have := rd.isLt; have := rs1.isLt; have := rs2.isLt
  simp only [iRs2, bitsOf, encR]; omega

theorem iF7_encR (hop : op < 128) (h3 : f3 < 8) (h7 : f7 < 128) : iF7 (encR op f3 f7 rd rs1 rs2) = f7 := by
  have := rd.isLt; have := rs1.isLt; have := rs2.isLt
  simp only [iF7, bitsOf, encR]; omega

end

/-! ### The rows of Table HOK-1 -/

/-- What a fixed-point instruction with a result does. -/
def State.hqOut (s : State) (t : At) (rd : Nat) (r : Word × Bool) : XOut :=
  (if r.2 then s.csrPut t.q 0x800 1#32 else s).xDone t rd r.1 ([0x0F] ++ if r.2 then [0x18] else [])

section
variable {s : State} {t : At} {w : Nat}

theorem State.xHq_sadd (h7 : iF7 w = 0) (h3 : iF3 w = 0) : s.xHq t w = s.hqOut t (iRd w) (hqSadd (s.xr t.q (iRs1 w)) (s.xr t.q (iRs2 w))) := by
  simp only [State.xHq, h3, h7]
  rfl

theorem State.xHq_ssub (h7 : iF7 w = 0) (h3 : iF3 w = 1) : s.xHq t w = s.hqOut t (iRd w) (hqSsub (s.xr t.q (iRs1 w)) (s.xr t.q (iRs2 w))) := by
  simp only [State.xHq, h3, h7]
  rfl

theorem State.xHq_mulq (h7 : iF7 w = 1) (h3 : iF3 w = 0) : s.xHq t w = s.hqOut t (iRd w) (hqMulq (s.xr t.q (iRs1 w)) (s.xr t.q (iRs2 w))) := by
  simp only [State.xHq, h3, h7]
  rfl

theorem State.xHq_macq (h7 : iF7 w = 1) (h3 : iF3 w = 1) : s.xHq t w = s.hqOut t (iRd w) (hqMacq (s.xr t.q (iRd w)) (s.xr t.q (iRs1 w)) (s.xr t.q (iRs2 w))) := by
  simp only [State.xHq, h3, h7]
  rfl

theorem State.xHq_sshl (h7 : iF7 w = 2) (h3 : iF3 w = 0) : s.xHq t w = s.hqOut t (iRd w) (hqSshl (s.xr t.q (iRs1 w)) (s.xr t.q (iRs2 w))) := by
  simp only [State.xHq, h3, h7]
  rfl

theorem State.xHq_srar (h7 : iF7 w = 2) (h3 : iF3 w = 1) : s.xHq t w = s.hqOut t (iRd w) (hqSrar (s.xr t.q (iRs1 w)) (s.xr t.q (iRs2 w))) := by
  simp only [State.xHq, h3, h7]
  rfl

theorem State.xHq_sat (h7 : iF7 w = 0) (h3 : iF3 w = 3) : s.xHq t w = s.hqOut t (iRd w) (hqSat (s.xr t.q (iRs1 w)) (iRs2 w)) := by
  simp only [State.xHq, h3, h7]
  rfl

theorem State.xHq_sabs (h7 : iF7 w = 0) (h3 : iF3 w = 2) (h2 : iRs2 w = 0) : s.xHq t w = s.hqOut t (iRd w) (hqSabs (s.xr t.q (iRs1 w))) := by
  simp only [State.xHq, h3, h7, h2]
  rfl

end

/-- A pair that goes on leaves WFI. -/
def State.awake (s : State) (q : Nat) : State := s.modHok q fun h => { h with wfi := false }

theorem State.hokDo_go {s : State} {q : Nat} {k : State → State} (h : s.hokGo q = true) : s.hokDo q k = (k (s.awake q)).hokArrive q := if_pos h

theorem State.awake_pair (s : State) (q : Nat) : OnlyPair q s (s.awake q) := (OnlyPair.refl q s).modHok _

/-- A word of four bytes at the pc, executed to its end. -/
theorem State.hokWord_four (s : State) (q w : Nat) (pre : List Nat) : s.hokWord q w 4 pre = s.hokEnd q pre (!(s.hok.get q).mmode)
    (s.xExec { q := q, pc := (s.hok.get q).pc, next := ((s.hok.get q).pc + 4) % 2 ^ 32 } w (!(s.hok.get q).mmode)) := rfl

theorem State.xExec_custom (s : State) (t : At) {w : Nat} {umode : Bool} (h : w % 128 = 0x0B) : s.xExec t w umode = s.xHq t w := by
  simp [State.xExec, h]

/-- The next instruction writes v to rd, and sets hqsat where it was limited. -/
structure FixedPointResult (q rd : Nat) (v : Word) (limited : Bool) (s t : State) : Prop where
  xrd : t.xr q rd = if rd = 0 then 0#32 else v
  sat : t.csrRaw q 0x800 = if limited then 1#32 else s.csrRaw q 0x800
  pc : (t.hok.get q).pc = ((s.hok.get q).pc + 4) % 2 ^ 32
  mmode : (t.hok.get q).mmode = (s.hok.get q).mmode
  xr : ∀ r, r ≠ rd → t.xr q r = s.xr q r
  fr : ∀ r, t.fr q r = s.fr q r
  csr : ∀ k, k ≠ 0x800 → t.csrRaw q k = s.csrRaw q k
  other : ∀ k, k ≠ q → t.hok.get k = s.hok.get k
  bytes : ∀ a, OffArchive a → t.rdB a = s.rdB a
  frame : KeepsOutside [zone R.PERF_CTRL, zone (R.PWM_CTRL 0)] [.mem, .raised, .draws, .hok, .pwm, .sv, .start] s t

/-- The state that a fixed-point instruction makes before its end. -/
def State.fixedWrite (s : State) (q rd : Nat) (v : Word) (limited : Bool) : State :=
  ((if limited then s.csrPut q 0x800 1#32 else s).setX q rd v).setPc q (((s.hok.get q).pc + 4) % 2 ^ 32)

theorem State.fixedWrite_pair (s : State) (q rd : Nat) (v : Word) (limited : Bool) : OnlyPair q s (s.fixedWrite q rd v limited) := by
  unfold State.fixedWrite
  cases limited
  · exact ((OnlyPair.refl q s).setX).modHok _
  · exact ((((OnlyPair.refl q s).modHok _)).setX).modHok _

theorem State.fixedWrite_result {s t : State} {q rd : Nat} {v : Word} {limited : Bool} (h : Ends q ((s.awake q).fixedWrite q rd v limited) t) :
    FixedPointResult q rd v limited s t := by
  have hx0 (u : State) : u.xr q 0 = 0#32 := rfl
  have hawake (r : Nat) : (s.awake q).xr q r = s.xr q r ∧ (s.awake q).fr q r = s.fr q r ∧ (s.awake q).csrRaw q r = s.csrRaw q r := by
    simp [State.xr, State.fr, State.csrRaw, State.awake, State.hok_modHok_same]
  obtain ⟨hother, hbytes, hframe⟩ := ((s.awake_pair q).trans ((s.awake q).fixedWrite_pair q rd v limited)).ends_frame h
  have hsat (r : Nat) : (if limited then (s.awake q).csrPut q 0x800 1#32 else s.awake q).xr q r = (s.awake q).xr q r ∧
      (if limited then (s.awake q).csrPut q 0x800 1#32 else s.awake q).fr q r = (s.awake q).fr q r := by
    split <;> simp
  refine ⟨?_, ?_, ?_, ?_, fun r hr => ?_, fun r => ?_, fun k hk => ?_, hother, hbytes, hframe⟩
  · rw [h.xr]
    split
    next h0 => rw [h0]; exact hx0 _
    next h0 => simp [State.fixedWrite, h0]
  · rw [h.csrRaw]
    cases limited <;> simp [State.fixedWrite, (hawake 0x800).2.2]
  · rw [h.pc]
    simp [State.fixedWrite, State.awake, State.hok_modHok_same]
  · rw [h.mmode]
    cases limited <;> simp [State.fixedWrite, State.awake, State.hok_modHok_same]
  · rw [h.xr]
    simp [State.fixedWrite, hr, (hsat r).1, (hawake r).1]
  · rw [h.fr]
    simp [State.fixedWrite, (hsat r).2, (hawake r).2.1]
  · rw [h.csrRaw]
    cases limited <;> simp [State.fixedWrite, hk, (hawake k).2.2]

/-- A custom-0 word that Table HOK-1 lists ends with its result written. -/
theorem State.hokDo_fixed {s : State} {q : Nat} (hq : q < 2) {w rd : Nat} {v : Word} {limited : Bool} (hgo : s.hokGo q = true)
    (hx : ∀ t : At, t.q = q → (s.awake q).xExec t w (!((s.awake q).hok.get q).mmode) =
      (s.awake q).hqOut t rd (v, limited)) :
    FixedPointResult q rd v limited s (s.hokDo q fun s => s.hokWord q w 4 []) := by
  rw [State.hokDo_go hgo, State.hokWord_four, hx _ rfl, State.hqOut]
  exact State.fixedWrite_result (.after (State.hokArrive_ends _ hq) (Counts.ends (State.hokEnd_done _ _ hq)))

/-! ### Table HOK-1's results -/

/-- A result that Table HOK-1 states: exact, clamped, and whether it was limited. -/
def Limits (r : Word × Bool) (x lo hi : Int) : Prop :=
  r.1 = BitVec.ofInt 32 (clampInt x lo hi) ∧ r.2 = !decide (lo ≤ x ∧ x ≤ hi)

theorem w32_unsignedOf (x : Int) : w32 (unsignedOf 32 x) = BitVec.ofInt 32 x := by
  apply BitVec.eq_of_toNat_eq
  simp only [w32, unsignedOf, BitVec.toNat_ofNat, BitVec.toNat_ofInt]
  omega

theorem clampInt_ne_iff {x lo hi : Int} (h : lo ≤ hi) : (clampInt x lo hi != x) = !decide (lo ≤ x ∧ x ≤ hi) := by
  rw [Bool.eq_iff_iff, bne_iff_ne, Bool.not_eq_true', decide_eq_false_iff_not]
  unfold clampInt
  split_ifs <;> omega

theorem limits_clamped {x lo hi : Int} (h : lo ≤ hi) :
    Limits (w32 (unsignedOf 32 (clampInt x lo hi)), clampInt x lo hi != x) x lo hi := ⟨w32_unsignedOf _, clampInt_ne_iff h⟩

theorem limits_sat32 (x : Int) : Limits (sat32 x) x (-2 ^ 31) (2 ^ 31 - 1) := limits_clamped (by decide)

theorem limits_hqSat (a : Word) (n : Fin 32) : Limits (hqSat a n) a.toInt (-2 ^ n.val) (2 ^ n.val - 1) := by
  have hpow : (((2 ^ n.val : Nat)) : Int) = 2 ^ n.val := by norm_cast
  have hpos : (0 : Int) < 2 ^ n.val := by positivity
  have hlim := limits_clamped (x := a.toInt) (lo := -2 ^ n.val) (hi := 2 ^ n.val - 1) (by omega)
  unfold hqSat
  rw [hpow]
  exact hlim

/-- A shift right with rounding stays in range: it is never limited. -/
theorem limits_hqSrar (a b : Word) : Limits (hqSrar a b) (roundDiv a.toInt (2 ^ (b.toNat % 32))) (-2 ^ 31) (2 ^ 31 - 1) := by
  have hlo := BitVec.le_toInt a
  have hhi := BitVec.toInt_lt (x := a)
  have hd : 1 ≤ 2 ^ (b.toNat % 32) := Nat.one_le_two_pow
  norm_num at hlo hhi
  have hmin : -2 ^ 31 ≤ roundDiv a.toInt (2 ^ (b.toNat % 32)) := by
    unfold roundDiv
    rw [Int.le_ediv_iff_mul_le (by omega)]
    omega
  have hmax : roundDiv a.toInt (2 ^ (b.toNat % 32)) ≤ 2 ^ 31 - 1 := by
    unfold roundDiv
    refine Int.le_of_lt_add_one ((Int.ediv_lt_iff_lt_mul (by omega)).2 ?_)
    omega
  refine ⟨?_, (congrArg not (decide_eq_true (And.intro hmin hmax))).symm⟩
  rw [clampInt, if_neg (by omega), if_neg (by omega)]
  exact w32_unsignedOf _

theorem qProd_eq (a b : Word) : qProd a b = (2 * (a.toInt * b.toInt) + 2 ^ 31) / 2 ^ 32 := by
  simp only [qProd, roundDiv]
  norm_num

theorem limits_hqSabs (a : Word) : Limits (hqSabs a) (a.toInt.natAbs : Int) (-2 ^ 31) (2 ^ 31 - 1) := by
  have habs : (if a.toInt < 0 then -a.toInt else a.toInt) = (a.toInt.natAbs : Int) := by split <;> omega
  unfold hqSabs
  rw [habs]
  exact limits_sat32 _

theorem limits_hqMulq (a b : Word) : Limits (hqMulq a b) ((2 * (a.toInt * b.toInt) + 2 ^ 31) / 2 ^ 32) (-2 ^ 31) (2 ^ 31 - 1) := by
  rw [← qProd_eq]
  exact limits_sat32 _

theorem limits_hqMacq (d a b : Word) :
    Limits (hqMacq d a b) (d.toInt + (2 * (a.toInt * b.toInt) + 2 ^ 31) / 2 ^ 32) (-2 ^ 31) (2 ^ 31 - 1) := by
  rw [← qProd_eq]
  exact limits_sat32 _

theorem limits_hqSshl (a b : Word) : Limits (hqSshl a b) (a.toInt * 2 ^ (b.toNat % 32)) (-2 ^ 31) (2 ^ 31 - 1) := by
  have hpow : ((2 ^ (b.toNat % 32) : Nat) : Int) = 2 ^ (b.toNat % 32) := by norm_cast
  unfold hqSshl
  rw [hpow]
  exact limits_sat32 _

theorem FixedPointResult.of_limits {s t : State} {q : Fin 2} {rd : Fin 32} {r : Word × Bool} {x lo hi : Int} (hr : Limits r x lo hi)
    (h : FixedPointResult q rd r.1 r.2 s t) :
    t.xr q rd = (if rd = 0 then 0#32 else BitVec.ofInt 32 (clampInt x lo hi)) ∧
      t.csrRaw q 0x800 = (if lo ≤ x ∧ x ≤ hi then s.csrRaw q 0x800 else 1#32) ∧
      (t.hok.get q).pc = ((s.hok.get q).pc + 4) % 2 ^ 32 ∧ (t.hok.get q).mmode = (s.hok.get q).mmode ∧
      (∀ r : Fin 32, r ≠ rd → t.xr q r = s.xr q r) ∧ (∀ r, t.fr q r = s.fr q r) ∧ (∀ k, k ≠ 0x800 → t.csrRaw q k = s.csrRaw q k) ∧
      t.hok.get (1 - q.val) = s.hok.get (1 - q.val) ∧
      (∀ a, memHome a < 0x203FC000 ∨ 0x20400000 ≤ memHome a → t.rdB a = s.rdB a) ∧
      KeepsOutside [zone R.PERF_CTRL, zone (R.PWM_CTRL 0)] [.mem, .raised, .draws, .hok, .pwm, .sv, .start] s t := by
  refine ⟨?_, ?_, h.pc, h.mmode, fun k hk => h.xr k (by simpa [Fin.ext_iff] using hk), h.fr, h.csr, h.other _ (by omega), h.bytes, h.frame⟩
  · rw [h.xrd, hr.1]
    exact if_congr (Fin.ext_iff (a := rd) (b := 0)).symm rfl rfl
  · rw [h.sat, hr.2]
    by_cases hin : lo ≤ x ∧ x ≤ hi <;> simp [hin]

/-- Settles O35: each word decodes to its own row of Table HOK-1, whose result the instruction's end leaves. -/
theorem fixedPointInstructions : Obligations.FixedPointInstructions := by
  intro s q rd rs1 rs2 n hgo c hc
  have hxr (r : Nat) : (s.awake q).xr q r = s.xr q r := by simp [State.xr, State.awake, State.hok_modHok_same]
  have hdecode {f3 f7 : Nat} (k : Fin 32) (h3 : f3 < 8) (h7 : f7 < 128) := And.intro (iRd_encR (op := 0x0B) (f3 := f3) (f7 := f7) rd rs1 k (by decide))
    (And.intro (iF3_encR (op := 0x0B) (f7 := f7) rd rs1 k (by decide) h3) (And.intro (iF7_encR (op := 0x0B) rd rs1 k (by decide) h3 h7)
      (And.intro (iRs1_encR (op := 0x0B) (f7 := f7) rd rs1 k (by decide) h3) (iRs2_encR (op := 0x0B) (f7 := f7) rd rs1 k (by decide) h3))))
  have hrun {f3 f7 : Nat} {k : Fin 32} {r : Word × Bool} {x lo hi : Int} (hr : Limits r x lo hi)
      (hx : ∀ t : At, t.q = q → (s.awake q).xHq t (encR 0x0B f3 f7 rd rs1 k) = (s.awake q).hqOut t rd r) :=
    FixedPointResult.of_limits hr (State.hokDo_fixed q.isLt hgo fun t ht =>
      (State.xExec_custom _ t (encR_op (op := 0x0B) (f3 := f3) (f7 := f7) rd rs1 k (by decide))).trans (hx t ht))
  simp only [List.mem_cons, List.not_mem_nil, or_false] at hc
  rcases hc with rfl | rfl | rfl | rfl | rfl | rfl | rfl | rfl
  · refine ⟨_, rfl, hrun (k := rs2) (limits_sat32 _) fun t ht => ?_⟩
    obtain ⟨hrd, h3, h7, h1, h2⟩ := hdecode (f3 := 0) (f7 := 0) rs2 (by decide) (by decide)
    rw [State.xHq_sadd h7 h3, hrd, h1, h2, ht, hxr, hxr]
    rfl
  · refine ⟨_, rfl, hrun (k := rs2) (limits_sat32 _) fun t ht => ?_⟩
    obtain ⟨hrd, h3, h7, h1, h2⟩ := hdecode (f3 := 1) (f7 := 0) rs2 (by decide) (by decide)
    rw [State.xHq_ssub h7 h3, hrd, h1, h2, ht, hxr, hxr]
    rfl
  · refine ⟨_, rfl, hrun (k := 0) (limits_hqSabs _) fun t ht => ?_⟩
    obtain ⟨hrd, h3, h7, h1, h2⟩ := hdecode (f3 := 2) (f7 := 0) 0 (by decide) (by decide)
    rw [State.xHq_sabs h7 h3 h2, hrd, h1, ht, hxr]
  · refine ⟨_, rfl, hrun (k := rs2) (limits_hqMulq _ _) fun t ht => ?_⟩
    obtain ⟨hrd, h3, h7, h1, h2⟩ := hdecode (f3 := 0) (f7 := 1) rs2 (by decide) (by decide)
    rw [State.xHq_mulq h7 h3, hrd, h1, h2, ht, hxr, hxr]
  · refine ⟨_, rfl, hrun (k := rs2) (limits_hqMacq _ _ _) fun t ht => ?_⟩
    obtain ⟨hrd, h3, h7, h1, h2⟩ := hdecode (f3 := 1) (f7 := 1) rs2 (by decide) (by decide)
    rw [State.xHq_macq h7 h3, hrd, h1, h2, ht, hxr, hxr, hxr]
  · refine ⟨_, rfl, hrun (k := rs2) (limits_hqSshl _ _) fun t ht => ?_⟩
    obtain ⟨hrd, h3, h7, h1, h2⟩ := hdecode (f3 := 0) (f7 := 2) rs2 (by decide) (by decide)
    rw [State.xHq_sshl h7 h3, hrd, h1, h2, ht, hxr, hxr]
  · refine ⟨_, rfl, hrun (k := rs2) (limits_hqSrar _ _) fun t ht => ?_⟩
    obtain ⟨hrd, h3, h7, h1, h2⟩ := hdecode (f3 := 1) (f7 := 2) rs2 (by decide) (by decide)
    rw [State.xHq_srar h7 h3, hrd, h1, h2, ht, hxr, hxr]
  · refine ⟨_, rfl, hrun (k := n) (limits_hqSat _ n) fun t ht => ?_⟩
    obtain ⟨hrd, h3, h7, h1, h2⟩ := hdecode (f3 := 3) (f7 := 0) n (by decide) (by decide)
    rw [State.xHq_sat h7 h3, hrd, h1, h2, ht, hxr]

end Sys2Proof.Machine
end

section
/-!
Proofs about Hokuon (chapter 16): a fetch that faults.
The proofs are elaborated in turn: in one text, proofs that wait for each other would each hold a thread.
-/

set_option Elab.async false

namespace Sys2Proof.Machine

/-- HPA about to fetch through the uncached window from a word of system SRAM that is uncorrectable. -/
def fetchOfBadWord : State :=
  { State.reset.put F.SYS_PD_STATUS_DOMAIN_ON 6 with
    hok := [(0, { (default : Hok) with run := true, mmode := true, pc := 0x28000000 })], ecc := [(0x20000000, true)] }

/-- The fetch reports the word's address in SYS_ECC_ADDR (R521) before it faults. -/
theorem fetchOfBadWord_faults : (fetchOfBadWord.awake 0).hokFetch 0 = .fault ((fetchOfBadWord.awake 0).eccFound 0x28000000) 0x28000000 := by
  have hparcel : (fetchOfBadWord.awake 0).parcel 0 0x28000000 =
      { st := (fetchOfBadWord.awake 0).eccFound 0x28000000, val := 0, events := [], ok := false } := by
    have hpmp : (fetchOfBadWord.awake 0).pmpOk 0 0x28000000 .fetch (!((fetchOfBadWord.awake 0).hok.get 0).mmode) = true := by decide
    rw [State.parcel, if_pos hpmp]
    rfl
  have hpc : ((fetchOfBadWord.awake 0).hok.get 0).pc = 0x28000000 := by decide
  simp only [State.hokFetch, hpc, hparcel]
  rfl

theorem OnlyPair.csrPut {q k : Nat} {s t : State} {v : Word} (h : OnlyPair q s t) : OnlyPair q s (t.csrPut q k v) := h.modHok _

theorem OnlyPair.mstPut {q lo len v : Nat} {s t : State} (h : OnlyPair q s t) : OnlyPair q s (t.mstPut q lo len v) := h.csrPut

theorem OnlyPair.setPc {q pc : Nat} {s t : State} (h : OnlyPair q s t) : OnlyPair q s (t.setPc q pc) := h.modHok _

theorem State.trap_pair (s : State) (q : Nat) (irq : Bool) (cause tval : Nat) : OnlyPair q s (s.trap q irq cause tval) := by
  unfold State.trap
  exact ((OnlyPair.refl q s).csrPut.csrPut.csrPut.mstPut.mstPut.mstPut.modHok _).setPc

theorem OnlyPair.rd {q : Nat} {s t : State} (h : OnlyPair q s t) (a : Nat) : t.rd a = s.rd a := by
  obtain ⟨m, rfl, -⟩ := h
  rfl

/-- A fetch that faults ends in its trap, which leaves every register outside the pair. -/
theorem State.hokStep_fault_rd {s u : State} {q tval : Nat} (hq : q < 2) (h : s.hokFetch q = .fault u tval) (a : Nat)
    (hperf : a < R.PERF_CTRL ∨ R.PERF_CTRL + 0x10000 ≤ a) (hpwm : a < R.PWM_CTRL 0 ∨ R.PWM_CTRL 0 + 0x10000 ≤ a) :
    ((s.hokStep q).hokArrive q).rd a = u.rd a := by
  have hstep : s.hokStep q = u.hokEnd q [] (!(u.hok.get q).mmode) (.trap u 1 tval) := by simp only [State.hokStep, h]
  have hend : Ends q (u.trap q false 1 tval) ((s.hokStep q).hokArrive q) := by
    rw [hstep]
    exact .after (State.hokArrive_ends _ hq) (Counts.ends (State.hokEnd_trap u u hq))
  exact (hend.frame.1 a (List.forall_mem_cons.2 ⟨hperf, List.forall_mem_singleton.2 hpwm⟩)).trans ((u.trap_pair q false 1 tval).rd a)

/-- Refutes O36: its clause for a fetch that faults leaves every register outside PERF and PWM, but a fetch that faults at an uncorrectable
word reports that word in SYS_ECC_ADDR. -/
theorem not_hokuonInstructions : ¬ Obligations.HokuonInstructions := by
  intro h
  obtain ⟨t, hexec, -, -, -, -, -, -, -, hframe⟩ :=
    (h fetchOfBadWord 0 ((fetchOfBadWord.awake 0).eccFound 0x28000000) 0 [] (by decide)).2 0x28000000 fetchOfBadWord_faults
  have hgo : exec (.hokuonInstruction 0) fetchOfBadWord = .next (((fetchOfBadWord.awake 0).hokStep 0).hokArrive 0) :=
    congrArg Host.Outcome.next (State.hokDo_go (by decide))
  obtain rfl := Host.Outcome.next.inj (hgo.symm.trans hexec)
  have hsame := hframe.1 R.SYS_ECC_ADDR (by decide)
  rw [State.hokStep_fault_rd (by decide) fetchOfBadWord_faults _ (by decide) (by decide)] at hsame
  exact absurd hsame (by decide)

end Sys2Proof.Machine
end

section
/-!
Proofs about registers (chapters 00 and 16): a word written by any initiator, a plain register, a counter's clear.
The proofs are elaborated in turn: in one text, proofs that wait for each other would each hold a thread.
-/

set_option Elab.async false

namespace Sys2Proof.Machine

/-! ### A word written to a register by any initiator (R519, R597, R638) -/

/-- The initiator as which a register sees a write: Docent's writes act as the host SPI's (R597). -/
def writerOf : Initiator → Initiator
  | .docent => .hspi
  | i => i

theorem State.busWrite_reg (s : State) (i : Initiator) (a : Nat) (v : Word) (ha : a % 4 = 0) (hreg : regionOf a = .reg) (hpow : s.powered a = true) :
    s.busWrite i a v = s.regWrite (writerOf i) a v := by
  have hword : a / 4 * 4 = a := by omega
  have hhost (j : Initiator) : s.hostWrite j a v = (s.regWrite j a v, true) := by
    simp [State.hostWrite, State.hostWrites, State.wordPut, hword, hreg, hpow]
  have hdoc : (s.docReads a && !docReserved a) = true := by simp [State.docReads, docReserved, hreg, hpow]
  cases i <;> simp only [State.busWrite, hword, writerOf]
  · rw [s.coreWrite_reg 0 a v hreg hpow, hword]
    rfl
  · rw [s.coreWrite_reg 1 a v hreg hpow, hword]
    rfl
  · rw [hhost]
  · rw [hhost]
  · rw [if_pos hdoc, State.wordPut, hreg]

/-- The same where the register lies in PD1. -/
theorem State.busWrite_pd1 (s : State) (i : Initiator) (a : Nat) (v : Word) (hpd : s.pdOn 1 = true) (ha : a % 4 = 0 := by decide)
    (hreg : regionOf a = .reg := by decide) (hblk : blockPd a = some 1 := by decide) : s.busWrite i a v = s.regWrite (writerOf i) a v :=
  s.busWrite_reg i a v ha hreg ((s.powered_of_pd1 a hreg hblk).trans hpd)

/-! ### A plain register's write (Table SCOPE-4) -/

theorem testBit_bitsOf (n lo len k : Nat) : (bitsOf n lo len).testBit k = (decide (k < len) && n.testBit (lo + k)) := by
  rw [bitsOf, Nat.testBit_mod_two_pow, ← Nat.shiftRight_eq_div_pow, Nat.testBit_shiftRight]

theorem bitOf_eq_testBit (n k : Nat) : bitOf n k = n.testBit k := by
  rw [Nat.testBit_eq_decide_div_mod_eq, bitOf]
  rfl

/-- The word a plain register takes. -/
def plainWord (a : Nat) (old v : Word) : Word :=
  (old &&& ~~~(v &&& BitVec.ofNat 32 (w1cMask a)) &&& ~~~(BitVec.ofNat 32 (rwMask a))) ||| (v &&& BitVec.ofNat 32 (rwMask a))

theorem State.plainWrite_none (s : State) (a : Nat) (v : Word) (hc : w1cMask a = 0) (hm : rwMask a = 0) : s.plainWrite a v = s := by
  simp [State.plainWrite, hc, hm]

theorem plainWord_testBit (a : Nat) (old v : Word) (k : Nat) (hk : k < 32) : (plainWord a old v).toNat.testBit k =
    if (rwMask a).testBit k then v.toNat.testBit k else old.toNat.testBit k && !(v.toNat.testBit k && (w1cMask a).testBit k) := by
  simp only [BitVec.testBit_toNat, plainWord, BitVec.getLsbD_or, BitVec.getLsbD_and, BitVec.getLsbD_not, BitVec.getLsbD_ofNat, hk, decide_true, Bool.true_and]
  cases (rwMask a).testBit k <;> simp

theorem State.plainWrite_eq (s : State) (a : Nat) (v : Word) : s.plainWrite a v = s ∨ s.plainWrite a v = s.wr a (plainWord a (s.rd a) v) := by
  unfold State.plainWrite
  dsimp only
  split
  · exact .inl rfl
  · exact .inr rfl

theorem State.plainWrite_testBit (s : State) (a : Nat) (v : Word) (k : Nat) (hk : k < 32) : ((s.plainWrite a v).rd a).toNat.testBit k =
    if (rwMask a).testBit k then v.toNat.testBit k else (s.rd a).toNat.testBit k && !(v.toNat.testBit k && (w1cMask a).testBit k) := by
  rw [← plainWord_testBit a (s.rd a) v k hk]
  unfold State.plainWrite
  dsimp only
  split
  next h =>
    have hsame : plainWord a (s.rd a) v = s.rd a := by
      simp only [plainWord, h.1, h.2, BitVec.and_zero, BitVec.not_zero, BitVec.and_allOnes, BitVec.or_zero]
    rw [hsame]
  next => rw [State.rd_wr_same]; rfl

/-- A plain field takes its bits. -/
theorem State.plainWrite_get_rw (s : State) (f : Fld) (v : Word) (hf : f.lo + f.len ≤ 32)
    (hm : ∀ k < f.len, (rwMask f.addr).testBit (f.lo + k) = true) : (s.plainWrite f.addr v).get f = bitsOf v.toNat f.lo f.len := by
  refine Nat.eq_of_testBit_eq fun k => ?_
  rw [State.get, testBit_bitsOf, testBit_bitsOf]
  by_cases hk : k < f.len
  · rw [s.plainWrite_testBit f.addr v _ (by omega), if_pos (hm k hk)]
  · simp [hk]

/-- A field that lies in none of the bits that a plain write reaches stays. -/
theorem State.plainWrite_get_other (s : State) (a : Nat) (g : Fld) (v : Word)
    (hg : g.addr ≠ a ∨ (g.lo + g.len ≤ 32 ∧ ∀ k < g.len, (rwMask a).testBit (g.lo + k) = false ∧ (w1cMask a).testBit (g.lo + k) = false)) :
    (s.plainWrite a v).get g = s.get g := by
  rcases hg with hne | ⟨hlen, hbits⟩
  · obtain h | h := s.plainWrite_eq a v <;> rw [h]
    exact State.get_wr_other s g a _ hne
  · by_cases hne : g.addr = a
    · subst hne
      refine Nat.eq_of_testBit_eq fun k => ?_
      rw [State.get, State.get, testBit_bitsOf, testBit_bitsOf]
      by_cases hk : k < g.len
      · rw [s.plainWrite_testBit _ v _ (by omega)]
        simp [hbits k hk]
      · simp [hk]
    · obtain h | h := s.plainWrite_eq a v <;> rw [h]
      exact State.get_wr_other s g a _ hne

/-- A plain write reaches the bits of its two masks: here those below n. -/
theorem State.plainWrite_keeps (s : State) (a n : Nat) (v : Word) (ps : List Part) (hn : n ≤ 32)
    (hm : ∀ k, n ≤ k → k < 32 → (rwMask a).testBit k = false ∧ (w1cMask a).testBit k = false) : Keeps [⟨a, 0, n⟩] ps s (s.plainWrite a v) := by
  refine ⟨fun g hg => s.plainWrite_get_other a g v ?_, fun p _ => ?_⟩
  · have hapart := hg _ (List.mem_singleton_self _)
    simp only [Fld.apart, Bool.or_eq_true, bne_iff_ne, Bool.and_eq_true, decide_eq_true_eq] at hapart
    rcases hapart with hne | ⟨⟨-, hlen⟩, hsep⟩
    · exact .inl hne.symm
    · by_cases hne : g.addr = a
      · refine .inr ⟨hlen, fun k hk => hm _ ?_ (by omega)⟩
        omega
      · exact .inl hne
  · obtain h | h := s.plainWrite_eq a v <;> rw [h]
    · exact (Keeps.refl [] [] s).2 p (by simp)
    · exact (Keeps.wr' (fs := [whole a]) (ps := []) (.refl _ _ s)).2 p (by simp)

/-! ### A performance counter's clear (R529) -/

theorem SMap.get_of_absent {α : Type} [Inhabited α] {m : SMap α} {a : Nat} (h : ∀ e ∈ m, e.1 ≠ a) : m.get a = default := by
  induction m with
  | nil => rfl
  | cons e m ih =>
    rw [SMap.get, if_neg (h e (by simp)).symm, ih fun x hx => h x (List.mem_cons_of_mem _ hx)]
    exact ite_self _

/-- No event of core k is counted. -/
def State.cntAbsent (s : State) (k e : Nat) : Prop := ∀ x ∈ (s.hok.get (k / 2)).cnt, x.1 ≠ 96 * (k % 2) + e

theorem State.perfClear_clears (s : State) (k e : Nat) (he : e < 96) : (s.perfClear k).cntAbsent k e := by
  intro x hx
  rw [State.perfClear, State.hok_modHok_same, List.mem_filter] at hx
  obtain ⟨-, hx⟩ := hx
  simp only [Bool.not_eq_true', Bool.and_eq_false_iff, decide_eq_false_iff_not] at hx
  omega

theorem State.perfClear_absent (s : State) (k j e : Nat) (h : s.cntAbsent k e) : (s.perfClear j).cntAbsent k e := by
  intro x hx
  unfold State.perfClear at hx
  by_cases hp : k / 2 = j / 2
  · rw [hp, State.hok_modHok_same, List.mem_filter, ← hp] at hx
    exact h x hx.1
  · rw [State.hok_modHok_other _ _ _ _ hp] at hx
    exact h x hx

theorem State.perfClear_other (s : State) (k q : Nat) (h : q ≠ k / 2) : (s.perfClear k).hok.get q = s.hok.get q := s.hok_modHok_other _ _ _ h

end Sys2Proof.Machine
end

section
/-!
Proofs about Hokuon (chapter 16): traps, caches, interrupts, semaphores and counters.
The proofs are elaborated in turn: in one text, proofs that wait for each other would each hold a thread.
-/

set_option Elab.async false

namespace Sys2Proof.Machine

/-! ### A trap (R525, RISC-V) -/

section
variable (s : State) (q : Nat) (irq : Bool) (cause tval : Nat)

@[simp] theorem State.mst_csrPut_other (k lo len : Nat) (v : Word) (h : k ≠ 0x300) : (s.csrPut q k v).mst q lo len = s.mst q lo len := by
  simp [State.mst, h.symm]

theorem State.mst_mstPut_same (lo len v : Nat) (h : lo + len ≤ 32) : (s.mstPut q lo len v).mst q lo len = v % 2 ^ len := by
  simp only [State.mst, State.mstPut, State.csrRaw_csrPut_same, w32, BitVec.toNat_ofNat]
  rw [bitsOf_mod _ _ _ _ h, bitsOf_bitsPut_self]

theorem State.mst_mstPut_other (lo len v a k : Nat) (h : a + k ≤ 32) (hs : a + k ≤ lo ∨ lo + len ≤ a) :
    (s.mstPut q lo len v).mst q a k = s.mst q a k := by
  simp only [State.mst, State.mstPut, State.csrRaw_csrPut_same, w32, BitVec.toNat_ofNat]
  rw [bitsOf_mod _ _ _ _ h]
  rcases hs with hs | hs
  · exact bitsOf_bitsPut_low _ _ _ _ _ _ hs
  · exact bitsOf_bitsPut_high _ _ _ _ _ _ hs

@[simp] theorem State.xr_mstPut (lo len v r : Nat) : (s.mstPut q lo len v).xr q r = s.xr q r := s.xr_csrPut ..

@[simp] theorem State.csrRaw_mstPut (lo len v k : Nat) (h : k ≠ 0x300) : (s.mstPut q lo len v).csrRaw q k = s.csrRaw q k :=
  s.csrRaw_csrPut_other _ _ _ _ h

/-- The CSRs of a trap before its jump. -/
def State.trapCsrs : State :=
  let t := ((s.csrPut q 0x341 (w32 (s.hok.get q).pc)).csrPut q 0x342 (w32 (cause + if irq then 2 ^ 31 else 0))).csrPut q 0x343 (w32 tval)
  ((t.mstPut q 7 1 (t.mst q 3 1)).mstPut q 3 1 0).mstPut q 11 2 (if (s.hok.get q).mmode then 3 else 0)

theorem State.trap_eq : s.trap q irq cause tval =
    ((s.trapCsrs q irq cause tval).modHok q fun h => { h with mmode := true, wfi := false }).setPc q
      (((s.trapCsrs q irq cause tval).csrRaw q 0x305).toNat / 4 * 4 +
        if irq ∧ ((s.trapCsrs q irq cause tval).csrRaw q 0x305).toNat % 4 = 1 then 4 * cause else 0) := rfl

theorem State.trapCsrs_csr (k : Nat) (h : k ≠ 0x300) : (s.trapCsrs q irq cause tval).csrRaw q k =
    if k = 0x343 then w32 tval else if k = 0x342 then w32 (cause + if irq then 2 ^ 31 else 0) else if k = 0x341 then w32 (s.hok.get q).pc
    else s.csrRaw q k := by
  simp only [State.trapCsrs, State.csrRaw_mstPut _ _ _ _ _ _ h]
  by_cases h3 : k = 0x343
  · subst h3; simp
  · by_cases h2 : k = 0x342
    · subst h2; simp
    · by_cases h1 : k = 0x341
      · subst h1; simp
      · simp [h1, h2, h3]

theorem State.trapCsrs_mst : (s.trapCsrs q irq cause tval).mst q 3 1 = 0 ∧ (s.trapCsrs q irq cause tval).mst q 7 1 = s.mst q 3 1 ∧
    (s.trapCsrs q irq cause tval).mst q 11 2 = if (s.hok.get q).mmode then 3 else 0 := by
  have hlt : s.mst q 3 1 < 2 := bitsOf_lt _ _ _
  refine ⟨?_, ?_, ?_⟩ <;> simp only [State.trapCsrs]
  · rw [State.mst_mstPut_other _ _ _ _ _ _ _ (by decide) (by decide), State.mst_mstPut_same _ _ _ _ _ (by decide)]
    rfl
  · rw [State.mst_mstPut_other _ _ _ _ _ _ _ (by decide) (by decide), State.mst_mstPut_other _ _ _ _ _ _ _ (by decide) (by decide),
      State.mst_mstPut_same _ _ _ _ _ (by decide)]
    simp
    omega
  · rw [State.mst_mstPut_same _ _ _ _ _ (by decide)]
    split <;> rfl

theorem State.csrRaw_enter (t : State) (pc k : Nat) :
    ((t.modHok q fun h => { h with mmode := true, wfi := false }).setPc q pc).csrRaw q k = t.csrRaw q k := by
  rw [State.csrRaw_setPc]
  simp [State.csrRaw, State.hok_modHok_same]

theorem State.xr_enter (t : State) (pc r : Nat) :
    ((t.modHok q fun h => { h with mmode := true, wfi := false }).setPc q pc).xr q r = t.xr q r := by
  simp [State.xr, State.hok_modHok_same, State.setPc]

theorem State.trap_csr (k : Nat) (h : k ≠ 0x300) : (s.trap q irq cause tval).csrRaw q k =
    if k = 0x343 then w32 tval else if k = 0x342 then w32 (cause + if irq then 2 ^ 31 else 0) else if k = 0x341 then w32 (s.hok.get q).pc
    else s.csrRaw q k := by
  rw [State.trap_eq, State.csrRaw_enter, State.trapCsrs_csr _ _ _ _ _ _ h]

theorem State.trap_mst : (s.trap q irq cause tval).mst q 3 1 = 0 ∧ (s.trap q irq cause tval).mst q 7 1 = s.mst q 3 1 ∧
    (s.trap q irq cause tval).mst q 11 2 = if (s.hok.get q).mmode then 3 else 0 := by
  have h (lo len : Nat) : (s.trap q irq cause tval).mst q lo len = (s.trapCsrs q irq cause tval).mst q lo len := by
    rw [State.trap_eq, State.mst, State.csrRaw_enter]
    rfl
  rw [h, h, h]
  exact s.trapCsrs_mst q irq cause tval

theorem State.trap_mode : ((s.trap q irq cause tval).hok.get q).mmode = true ∧ ((s.trap q irq cause tval).hok.get q).wfi = false := by
  rw [State.trap_eq, State.setPc, State.hok_modHok_same, State.hok_modHok_same]
  exact ⟨rfl, rfl⟩

theorem State.trap_pc : ((s.trap q irq cause tval).hok.get q).pc =
    ((s.csrRaw q 0x305).toNat / 4 * 4 + if irq ∧ (s.csrRaw q 0x305).toNat % 4 = 1 then 4 * cause else 0) % 2 ^ 32 := by
  rw [State.trap_eq, State.pc_setPc, State.trapCsrs_csr _ _ _ _ _ _ (by decide)]
  rfl

theorem State.trap_xr (r : Nat) : (s.trap q irq cause tval).xr q r = s.xr q r := by
  rw [State.trap_eq, State.xr_enter]
  simp [State.trapCsrs]

/-- A trap leaves the pair's caches. -/
theorem State.trap_caches : ((s.trap q irq cause tval).hok.get q).dcache = (s.hok.get q).dcache ∧
    ((s.trap q irq cause tval).hok.get q).icache = (s.hok.get q).icache := by
  rw [State.trap_eq, State.setPc, State.hok_modHok_same, State.hok_modHok_same]
  simp only [State.trapCsrs, State.mstPut, State.csrPut, State.hok_modHok_same, and_self]

end

/-! ### The caches (R507, R514) -/

theorem lineOf_congr {m m' : SMap (List Byte)} {a : Nat} (h : m.get (a / 32 * 32) = m'.get (a / 32 * 32)) : lineOf m a = lineOf m' a := by
  simp only [lineOf, h]

theorem lineOf_set_self (m : SMap (List Byte)) (a : Nat) (l : List Byte) : lineOf (m.set (a / 32 * 32) l) a = if l = [] then none else some l := by
  simp only [lineOf, SMap.get_set_same]

theorem State.lineBytes_ne_nil (s : State) (a : Nat) : s.lineBytes a ≠ [] := by simp [State.lineBytes]

theorem and_lineMask (n : Nat) (h : n < 2 ^ 32) : n &&& 0xFFFFFFE0 = n / 32 * 32 := by
  have hmask : 0xFFFFFFE0 = (2 ^ 27 - 1) <<< 5 := rfl
  have hline : n / 32 * 32 = (n >>> 5) <<< 5 := by rw [Nat.shiftLeft_eq, Nat.shiftRight_eq_div_pow]
  rw [hmask, hline]
  refine Nat.eq_of_testBit_eq fun i => ?_
  rw [Nat.testBit_and, Nat.testBit_shiftLeft, Nat.testBit_two_pow_sub_one, Nat.testBit_shiftLeft, Nat.testBit_shiftRight]
  by_cases h5 : 5 ≤ i
  · have hi : 5 + (i - 5) = i := by omega
    by_cases h32 : i < 32
    · have h27 : i - 5 < 27 := by omega
      simp [h5, h27, hi]
    · have hzero : n.testBit i = false := Nat.testBit_lt_two_pow (h.trans_le (Nat.pow_le_pow_right (by decide) (by omega)))
      simp [h5, hi, hzero]
  · simp [h5]

/-- The word that INV_LINE writes to hcache: the line's address, and code 1. -/
theorem invLine_word (addr : BitVec 32) : ((addr &&& 0xFFFFFFE0#32) ||| 1#32).toNat = addr.toNat / 32 * 32 + 1 := by
  have hor : 2 ^ 5 * (addr.toNat / 32) + 1 = 2 ^ 5 * (addr.toNat / 32) ||| 1 := Nat.two_pow_add_eq_or_of_lt (by decide) _
  rw [BitVec.toNat_or, BitVec.toNat_and, BitVec.toNat_ofNat, BitVec.toNat_ofNat, and_lineMask _ addr.isLt, Nat.mul_comm]
  exact hor.symm

theorem State.hcacheCmd_machine {s : State} {q : Nat} {v : Word} {f : Hok → Hok} (ev : Nat) (hlive : s.pairLive q = true)
    (hm : (s.hok.get q).mmode = true) (hwrite : s.hcacheWrite q v = s.modHok q f) :
    s.hcacheCmd q v ev = (s.modHok q f).perfAdd q (s.noteAt q) ev 1 := by
  simp [State.hcacheCmd, hlive, hm, hwrite]

theorem State.hcacheCmd_user (s : State) (q : Nat) (v : Word) (ev : Nat) (hlive : s.pairLive q = true) (hm : (s.hok.get q).mmode = false) :
    s.hcacheCmd q v ev = s.hokEnd q [] true (.trap s.drew 2 (s.drawn % 2 ^ 32)) := by simp [State.hcacheCmd, hlive, hm, XOut.illegal]

theorem State.hcacheCmd_dead (s : State) (q : Nat) (v : Word) (ev : Nat) (hlive : s.pairLive q = false) : s.hcacheCmd q v ev = s := by
  simp [State.hcacheCmd, hlive]

/-- An invalidation, then its count. -/
theorem State.modHok_counted {q : Nat} (s : State) (f : Hok → Hok) (i : Note) (e : Nat) (hq : q < 2) :
    KeepsOutside [zone R.PERF_CTRL] [.mem, .draws, .hok] s ((s.modHok q f).perfAdd q i e 1) ∧
    Counts q (s.modHok q f) ((s.modHok q f).perfAdd q i e 1) :=
  have h := State.perfAdd_counts (s.modHok q f) i e 1 hq
  ⟨.comp h.frame (.beside' (.refl _ _ s)), h⟩

section
variable {s : State} {q : Fin 2} {addr : BitVec 32} (hlive : s.pairLive q = true) (hreads : s.coreReads q addr.toNat = true)
include hlive hreads

/-- A parity error of the data cache fetches the line again. -/
theorem State.exec_parity_data (hline : (lineOf (s.hok.get q).dcache addr.toNat).isSome = true) : exec (.cacheParityError q false addr) s =
    .next ((s.modHok q fun h => { h with dcache := h.dcache.set (addr.toNat / 32 * 32) (s.lineBytes addr.toNat) }).perfAdd q (s.noteAt q) 0x2D 1) := by
  have hnone : (lineOf (s.hok.get q).dcache addr.toNat).isNone = false := by simpa [Option.isNone_eq_false_iff] using hline
  refine (if_neg (by simp [hlive, hnone])).trans ?_
  simp only [hreads, if_true]
  rfl

theorem State.exec_parity_instr (hline : (lineOf (s.hok.get q).icache addr.toNat).isSome = true) : exec (.cacheParityError q true addr) s =
    .next ((s.modHok q fun h => { h with icache := h.icache.set (addr.toNat / 32 * 32) (s.lineBytes addr.toNat) }).perfAdd q (s.noteAt q) 0x25 1) := by
  have hnone : (lineOf (s.hok.get q).icache addr.toNat).isNone = false := by simpa [Option.isNone_eq_false_iff] using hline
  refine (if_neg (by simp [hlive, hnone])).trans ?_
  simp only [hreads, if_true]

end

theorem irqCause_lt (p : Nat) : irqCause p < 12 := by
  unfold irqCause
  split_ifs <;> decide

/-! ### Semaphores and counters (R528 to R530) -/

theorem pairOf_lt (i : Initiator) : pairOf i < 2 := by
  unfold pairOf
  split <;> decide

theorem exec_semAcquire (s : State) (i : Initiator) (k : Fin 16) : exec (.semAcquire i k) s =
    if (s.semRead k).2 = 1#32 ∧ (i = .hpa ∨ i = .hpb) then
      .next (((s.semRead k).1.answer (s.semRead k).2).perfAdd (pairOf i) (((s.semRead k).1.answer (s.semRead k).2).noteAt (pairOf i)) 0x5C 1)
    else .next ((s.semRead k).1.answer (s.semRead k).2) := rfl

theorem State.busWrite_sem (s : State) (i : Initiator) (k : Fin 16) (v : Word) (hpd : s.pdOn 1 = true) :
    s.busWrite i (R.SYS_SEM k) v = s.semWrite k v := by
  have hreg : ∀ k : Fin 16, regionOf (R.SYS_SEM k) = .reg ∧ blockPd (R.SYS_SEM k) = some 1 ∧ R.SYS_SEM k % 4 = 0 := by decide
  have hwrite : ∀ k : Fin 16, s.regWrite (writerOf i) (R.SYS_SEM k) v = s.semWrite k v := by
    intro k
    fin_cases k <;> rfl
  obtain ⟨hr, hb, ha⟩ := hreg k
  rw [s.busWrite_pd1 i _ v hpd ha hr hb, hwrite]

/-- The cores whose counters a written word clears. -/
def clearedCores (v : Word) : List Nat := (List.range 4).filter fun k => bitOf v.toNat (8 + k)

theorem clearedCore_pair {v : Word} {k : Nat} {q : Nat} (hk : bitOf v.toNat (8 + k) = true) (h0 : bitOf v.toNat (8 + 2 * q) = false)
    (h1 : bitOf v.toNat (9 + 2 * q) = false) : q ≠ k / 2 := by
  rintro rfl
  obtain hpar | hpar : k = 2 * (k / 2) ∨ k = 2 * (k / 2) + 1 := by omega
  · rw [← hpar, hk] at h0
    cases h0
  · have hodd : 9 + 2 * (k / 2) = 8 + k := by omega
    rw [hodd, hk] at h1
    cases h1

/-- A plain write of PERF_CTRL reaches FREEZE alone. -/
theorem perfCtrl_masks (k : Nat) (h4 : 4 ≤ k) (h32 : k < 32) : (rwMask R.PERF_CTRL).testBit k = false ∧ (w1cMask R.PERF_CTRL).testBit k = false := by
  interval_cases k <;> decide

/-- Settles O37: what a count, a trap and an instruction's end leave gives each clause its frame. -/
theorem cachesInterruptsAndSharedRegisters : Obligations.CachesInterruptsAndSharedRegisters := by
  refine ⟨fun s q => ⟨fun hlive hm => ⟨fun addr => ?_, ?_, ?_⟩, fun hlive hm => ?_, fun hlive => ?_, fun addr hlive hline hreads => ?_,
    fun addr hlive hline hreads => ?_, fun hlive hirq hen => ?_, fun hirq => ?_, fun hlive ht => ?_, fun hlive => ?_⟩,
    fun s hpd => ⟨fun i k h0 => ?_, fun i k h0 => ?_, fun i k hi => ?_, fun i k v hv hi => ?_, fun i k e => ?_, fun i v hi => ?_⟩⟩
  · have hwrite : s.hcacheWrite q ((addr &&& 0xFFFFFFE0#32) ||| 1#32) =
        s.modHok q fun h => { h with dcache := h.dcache.set (addr.toNat / 32 * 32) [] } := by
      have hcode : (addr.toNat / 32 * 32 + 1) % 4 = 1 := by omega
      have hline : (addr.toNat / 32 * 32 + 1) / 32 * 32 = addr.toNat / 32 * 32 := by omega
      simp only [State.hcacheWrite, invLine_word, bitsOf, Nat.pow_zero, Nat.div_one, Nat.reducePow, hcode, hline, if_true]
    obtain ⟨hframe, hcount⟩ := s.modHok_counted (q := q) (fun h => { h with dcache := h.dcache.set (addr.toNat / 32 * 32) [] }) (s.noteAt q) 0x2E q.isLt
    refine ⟨_, congrArg Host.Outcome.next (s.hcacheCmd_machine 0x2E hlive hm hwrite), ?_, fun a ha => ?_, ?_, ?_, hframe⟩
    · rw [hcount.dcache, State.hok_modHok_same]
      exact lineOf_set_self _ _ _
    · rw [hcount.dcache, State.hok_modHok_same]
      exact lineOf_congr (SMap.get_set_ne _ _ _ _ (by omega))
    · rw [hcount.icache, State.hok_modHok_same]
    · rw [hcount.pc, State.hok_modHok_same]
  · obtain ⟨hframe, hcount⟩ := s.modHok_counted (q := q) (fun h => { h with dcache := [] }) (s.noteAt q) 0x2E q.isLt
    refine ⟨_, congrArg Host.Outcome.next (State.hcacheCmd_machine (v := 2#32) 0x2E hlive hm rfl), ?_, ?_, hframe⟩
    · rw [hcount.dcache, State.hok_modHok_same]
    · rw [hcount.icache, State.hok_modHok_same]
  · obtain ⟨hframe, hcount⟩ := s.modHok_counted (q := q) (fun h => { h with icache := [] }) (s.noteAt q) 0x26 q.isLt
    refine ⟨_, congrArg Host.Outcome.next (State.hcacheCmd_machine (v := 3#32) 0x26 hlive hm rfl), ?_, ?_, hframe⟩
    · rw [hcount.icache, State.hok_modHok_same]
    · rw [hcount.dcache, State.hok_modHok_same]
  · have hend := State.hokEnd_trap (pre := []) (umode := true) (cause := 2) (tval := s.drawn % 2 ^ 32) s s.drew q.isLt
    refine ⟨_, congrArg Host.Outcome.next (s.hcacheCmd_user q 2#32 0x2E hlive hm), ?_, ?_, ?_, .comp hend.frame ?_⟩
    · rw [hend.csrRaw, State.trap_csr _ _ _ _ _ _ (by decide)]
      rfl
    · rw [hend.mmode, (State.trap_mode ..).1]
    · rw [hend.dcache, (State.trap_caches ..).1]
      rfl
    · obtain ⟨m, hu, -⟩ := s.drew.trap_pair q false 2 (s.drawn % 2 ^ 32)
      rw [hu]
      exact .beside' (.drew' (.refl _ _ s))
  · have hstop : (((s.modHok q fun h => { h with stopped := true }).raise (FS.HPA_LOCKSTEP + q)).hok.get q).stopped = true :=
      congrArg Hok.stopped (s.hok_modHok_same q fun h => { h with stopped := true })
    have hother := s.hok_modHok_other q (1 - q.val) (fun h => { h with stopped := true }) (by omega)
    refine ⟨_, if_pos hlive, ?_, hstop, rfl, hother, .raise' (.beside' (.refl _ _ s))⟩
    simp [State.pairLive, hstop]
  · obtain ⟨hframe, hcount⟩ := s.modHok_counted (q := q) (fun h => { h with dcache := h.dcache.set (addr.toNat / 32 * 32) (s.lineBytes addr.toNat) })
      (s.noteAt q) 0x2D q.isLt
    refine ⟨_, State.exec_parity_data hlive hreads hline, ?_, hframe⟩
    rw [hcount.dcache, State.hok_modHok_same, lineOf_set_self, if_neg (s.lineBytes_ne_nil _)]
  · obtain ⟨hframe, hcount⟩ := s.modHok_counted (q := q) (fun h => { h with icache := h.icache.set (addr.toNat / 32 * 32) (s.lineBytes addr.toNat) })
      (s.noteAt q) 0x25 q.isLt
    refine ⟨_, State.exec_parity_instr hlive hreads hline, ?_, hframe⟩
    rw [hcount.icache, State.hok_modHok_same, lineOf_set_self, if_neg (s.lineBytes_ne_nil _)]
  · have hcause := irqCause_lt (s.irqs q)
    have htv := (s.csrRaw q 0x305).isLt
    have hexec : exec (.hicInterruptTake q) s = .next (((s.trap q true (irqCause (s.irqs q)) 0).perfAll q
        ((s.trap q true (irqCause (s.irqs q)) 0).noteAt q) (s.irqEvents q (irqCause (s.irqs q)))).hokArrive q) :=
      if_pos (by rcases hen with h | h <;> simp [hlive, hirq, h])
    have hend : Ends q (s.trap q true (irqCause (s.irqs q)) 0) _ :=
      .after (State.hokArrive_ends _ q.isLt) (Counts.ends (State.perfAll_counts _ ((s.trap q true (irqCause (s.irqs q)) 0).noteAt q)
        (s.irqEvents q (irqCause (s.irqs q))) q.isLt))
    obtain ⟨hmie, hmpie, -⟩ := s.trap_mst q true (irqCause (s.irqs q)) 0
    obtain ⟨-, -, hframe⟩ := (s.trap_pair q true (irqCause (s.irqs q)) 0).ends_frame hend
    refine ⟨_, hexec, ?_, ?_, ?_, ?_, fun h4 => ?_, fun h4 => ?_, ?_, ?_, fun r => ?_, hframe⟩
    · rw [hend.mmode, (State.trap_mode ..).1]
    · rw [hend.wfi, (State.trap_mode ..).2]
    · rw [hend.csrRaw, State.trap_csr _ _ _ _ _ _ (by decide)]
      rfl
    · rw [hend.csrRaw, State.trap_csr _ _ _ _ _ _ (by decide), Nat.add_comm]
      rfl
    · rw [hend.pc, State.trap_pc]
      simp [h4]
      omega
    · rw [hend.pc, State.trap_pc]
      simp [h4]
    · rw [hend.mst, hmie]
    · rw [hend.mst, hmpie]
    · rw [hend.xr, State.trap_xr]
  · exact if_neg (by simp [hirq])
  · have hwake := s.hok_modHok_same q fun h => { h with wfi := false }
    refine ⟨_, if_pos (by simp [hlive, ht]), congrArg Hok.wfi hwake, fun r => ?_, .beside' (.refl _ _ s)⟩
    simp [State.xr, State.hok_modHok_same]
  · exact ⟨congrArg Host.Outcome.next (if_neg (by simp [State.hokGo, hlive])), congrArg Host.Outcome.next (s.hcacheCmd_dead q _ _ hlive),
      if_neg (by simp [hlive]), if_neg (by simp [hlive]), if_neg (by simp [hlive])⟩
  · have hanswer : s.semRead k = (s.wr (R.SYS_SEM k) 1#32, 0#32) := by simp only [State.semRead, if_pos h0]
    refine ⟨(s.wr (R.SYS_SEM k) 1#32).answer 0#32, ?_, rfl, by simp [State.answer], .answer' (.wr' (.refl _ _ s))⟩
    refine (exec_semAcquire s i k).trans ?_
    rw [hanswer]
    exact if_neg (by simp)
  · have hanswer : s.semRead k = (s.wr (R.SYS_SEM k) 1#32, 1#32) := by simp only [State.semRead, if_neg h0]
    have htaken : KeepsOutside [zone R.SYS_ID, zone R.PERF_CTRL] [.mem, .draws, .resp, .hok] s ((s.wr (R.SYS_SEM k) 1#32).answer 1#32) :=
      .answer' (.wr' (.refl _ _ s))
    have hexec := exec_semAcquire s i k
    rw [hanswer] at hexec
    by_cases hi : i = .hpa ∨ i = .hpb
    · have hcount := ((s.wr (R.SYS_SEM k) 1#32).answer 1#32).perfAdd_counts (((s.wr (R.SYS_SEM k) 1#32).answer 1#32).noteAt (pairOf i)) 0x5C 1
        (pairOf_lt i)
      refine ⟨_, hexec.trans (if_pos ⟨rfl, hi⟩), ?_, ?_, fun hn => absurd hi (by simp [hn.1, hn.2]), .after hcount.frame htaken⟩
      · rw [hcount.frame.2 .resp (by decide)]
        rfl
      · rw [hcount.frame.1 _ (by simp; omega)]
        simp [State.answer]
    · exact ⟨_, hexec.trans (if_neg fun h => hi h.2), rfl, by simp [State.answer], fun _ => .answer' (.wr' (.refl _ _ s)), htaken⟩
  · refine ⟨_, congrArg Host.Outcome.next (s.busWrite_sem i k 0#32 hpd), ?_, ?_⟩
    · simp [State.semWrite]
    · exact .wr' (.refl _ _ s)
  · exact congrArg Host.Outcome.next ((s.busWrite_sem i k v hpd).trans (if_neg hv))
  · exact ⟨_, rfl, rfl, State.rd_wr_same _ _ _, .answer' (.wr' (.refl _ _ s))⟩
  · have hexec : exec (.perfCounterClear i v) s = .next ((s.plainWrite R.PERF_CTRL v).forEach (clearedCores v) State.perfClear) :=
      congrArg Host.Outcome.next (s.busWrite_pd1 i R.PERF_CTRL v hpd)
    have hclear (t : State) : Keeps [F.PERF_CTRL_FREEZE] [.hok] t (t.forEach (clearedCores v) State.perfClear) :=
      .forEach' (.refl _ _ _) fun _ _ => .beside' (.refl _ _ _)
    have hplain := s.plainWrite_keeps R.PERF_CTRL 4 v [] (by decide) perfCtrl_masks
    refine ⟨_, hexec, ?_, fun k e hk => ?_, fun q h0 h1 => ?_, .after (hclear _) (hplain.mono (List.Subset.refl _) (List.nil_subset _))⟩
    · refine State.forEach_inv (g := State.perfClear) (P := fun t => t.get F.PERF_CTRL_FREEZE = bitsOf v.toNat 0 4) (fun _ _ _ ht => ht) _ ?_
      exact s.plainWrite_get_rw F.PERF_CTRL_FREEZE v (by decide) (by decide)
    · have hmem : k.val ∈ clearedCores v := List.mem_filter.2 ⟨List.mem_range.2 k.isLt, hk⟩
      refine SMap.get_of_absent (State.forEach_at (P := fun _ => True) (Q := fun t => t.cntAbsent k e) (List.nodup_range.filter _) hmem
        (fun _ _ _ _ h => h) (fun t _ => t.perfClear_clears k e e.isLt) (fun j _ _ t h => t.perfClear_absent k j e h) _ trivial)
    · refine State.forEach_inv (P := fun t => t.hok.get q = s.hok.get q) (fun k hk t ht => ?_) _ (by rw [hplain.2 .hok (by decide)])
      obtain ⟨-, hbit⟩ := List.mem_filter.1 hk
      rw [t.perfClear_other k q (clearedCore_pair hbit h0 h1), ht]

end Sys2Proof.Machine
end

section
/-!
Proofs about registers and memory (chapters 00 and 01): a word written by any initiator.
The proofs are elaborated in turn: in one text, proofs that wait for each other would each hold a thread.
-/

set_option Elab.async false

namespace Sys2Proof.Machine

/-- A word written by an initiator that reaches memory. -/
theorem State.busWrite_sram (s : State) (i : Initiator) (a : Nat) (v : Word) (hi : i = .hpa ∨ i = .hpb ∨ i = .hspi)
    (hreg : regionOf (a / 4 * 4) = .sram) : s.busWrite i a v = s.wrW (a / 4 * 4) v := by
  have hcore (q : Nat) : s.coreWrite q (a / 4 * 4) 4 v.toNat = (s.wrW (a / 4 * 4) v, true) := by
    simp [State.coreWrite, State.coreWrites, State.powered, State.storeFinds, State.wrW, hreg]
  rcases hi with rfl | rfl | rfl <;> simp only [State.busWrite]
  · rw [hcore]
    rfl
  · rw [hcore]
    rfl
  · have hword : a / 4 * 4 / 4 * 4 = a / 4 * 4 := by omega
    simp [State.hostWrite, State.hostWrites, State.powered, State.wordPut, hword, hreg]

/-! ### A word of memory (R12) -/

theorem memHome_add {a k : Nat} (ha : a % 4 = 0) (hk : k < 4) : memHome (a + k) = memHome a + k := by
  unfold memHome
  split_ifs <;> omega

/-- A word's four bytes, one after another. -/
theorem State.wrW_eq (s : State) (a : Nat) (v : Word) : s.wrW a v = (((s.wrB a (BitVec.ofNat 8 v.toNat)).wrB (a + 1) (BitVec.ofNat 8 (v.toNat / 256))).wrB
    (a + 2) (BitVec.ofNat 8 (v.toNat / 256 / 256))).wrB (a + 3) (BitVec.ofNat 8 (v.toNat / 256 / 256 / 256)) := rfl

theorem State.rdW_eq (s : State) (a : Nat) : s.rdW a =
    w32 ((s.rdB a).toNat + 256 * ((s.rdB (a + 1)).toNat + 256 * ((s.rdB (a + 2)).toNat + 256 * ((s.rdB (a + 3)).toNat + 256 * 0)))) := rfl

theorem State.rdW_wrW (s : State) (a : Nat) (v : Word) (ha : a % 4 = 0) : (s.wrW a v).rdW a = v := by
  have h1 := memHome_add (k := 1) ha (by decide)
  have h2 := memHome_add (k := 2) ha (by decide)
  have h3 := memHome_add (k := 3) ha (by decide)
  have hlt := v.isLt
  apply BitVec.eq_of_toNat_eq
  simp only [State.rdW_eq, State.wrW_eq, State.rdB_wrB, h1, h2, h3, w32, BitVec.toNat_ofNat]
  simp
  omega

theorem State.rdB_wrW_other (s : State) (a b : Nat) (v : Word) (ha : a % 4 = 0) (hb : memHome b < memHome a ∨ memHome a + 4 ≤ memHome b) :
    (s.wrW a v).rdB b = s.rdB b := by
  have h1 := memHome_add (k := 1) ha (by decide)
  have h2 := memHome_add (k := 2) ha (by decide)
  have h3 := memHome_add (k := 3) ha (by decide)
  rw [State.wrW_eq, State.rdB_wrB, if_neg (by omega), State.rdB_wrB, if_neg (by omega), State.rdB_wrB, if_neg (by omega), State.rdB_wrB,
    if_neg (by omega)]

/-- Registers that take nothing: read-only ones and a fixed one. -/
theorem State.regWrite_none (s : State) (i : Initiator) (v : Word) {a : Nat}
    (ha : a ∈ [R.CLK_STATUS, R.SYS_ID, R.SYS_PD_STATUS, R.CUR_STATUS, R.WARDEN_STATUS, R.SENSP_WG_CFG 0]) : s.regWrite i a v = s := by
  simp only [List.mem_cons, List.not_mem_nil, or_false] at ha
  rcases ha with rfl | rfl | rfl | rfl | rfl | rfl <;> rfl

/-- Settles O48: an initiator's write reaches the register or the memory, whose own write each clause is about. -/
theorem registerWrites : Obligations.RegisterWrites := by
  refine fun s => ⟨fun i v hpd => ?_, fun i v hpd => ?_, fun i v hpd a ha hsens => ?_, fun i a v hi hreg => ?_, fun a v hw hvault => ?_,
    fun i a v hi hw hvault => ?_, fun v => ?_, fun i v hi => ?_⟩
  · have hexec : exec (.registerWrite i (BitVec.ofNat 32 R.SYS_GPIO_OUT) v) s = .next (s.plainWrite R.SYS_GPIO_OUT v) :=
      congrArg Host.Outcome.next (s.busWrite_pd1 i R.SYS_GPIO_OUT v hpd)
    refine ⟨_, hexec, s.plainWrite_get_rw ⟨R.SYS_GPIO_OUT, 0, 8⟩ v (by decide) (by decide), s.plainWrite_keeps R.SYS_GPIO_OUT 8 v [] (by decide) ?_⟩
    intro k h8 h32
    interval_cases k <;> decide
  · have hexec : exec (.registerWrite i (BitVec.ofNat 32 R.EPOCH_STICKY) v) s = .next (s.plainWrite R.EPOCH_STICKY v) :=
      congrArg Host.Outcome.next (s.busWrite_pd1 i R.EPOCH_STICKY v hpd)
    refine ⟨_, hexec, fun k => ?_, s.plainWrite_keeps R.EPOCH_STICKY 6 v [] (by decide) ?_⟩
    · have hmasks : ∀ k : Fin 6, (rwMask R.EPOCH_STICKY).testBit k = false ∧ (w1cMask R.EPOCH_STICKY).testBit k = true := by decide
      rw [bitOf_eq_testBit, bitOf_eq_testBit, bitOf_eq_testBit, s.plainWrite_testBit _ _ _ (by omega), (hmasks k).1, (hmasks k).2]
      simp
    · intro k h6 h32
      interval_cases k <;> decide
  · have hreg : regionOf a = .reg ∧ a % 4 = 0 ∧ (BitVec.ofNat 32 a).toNat = a := by
      simp only [List.mem_cons, List.not_mem_nil, or_false] at ha
      rcases ha with rfl | rfl | rfl | rfl | rfl | rfl <;> decide
    have hpow : s.powered a = true := by
      simp only [List.mem_cons, List.not_mem_nil, or_false] at ha
      rcases ha with rfl | rfl | rfl | rfl | rfl | rfl
      exacts [hpd, hpd, hpd, hpd, hpd, hsens rfl]
    exact congrArg Host.Outcome.next (by rw [hreg.2.2, s.busWrite_reg i a v hreg.2.1 hreg.1 hpow, s.regWrite_none _ v ha])
  · have ha : a.toNat / 4 * 4 % 4 = 0 := by omega
    exact ⟨_, congrArg Host.Outcome.next (s.busWrite_sram i a.toNat v hi hreg), s.rdW_wrW _ v ha, fun b hb => s.rdB_wrW_other _ b v ha hb,
      .wrW' (.refl _ _ s)⟩
  · have hcore : s.coreWrite 0 (a.toNat / 4 * 4) 4 v.toNat = (s, false) := by
      simp only [State.coreWrite, hw, Bool.not_false, if_true]
      rw [if_neg (by omega)]
    have hexec : exec (.registerWrite .hpa a v) s = .next { s with resp := { words := [], bytes := [], result := 0, fault := true } } := by
      refine congrArg Host.Outcome.next ?_
      simp only [State.busWrite, hcore]
      rfl
    exact ⟨_, hexec, rfl, .beside' (.refl _ _ s)⟩
  · have hhost (j : Initiator) (hj : s.hostWrites j (a.toNat / 4 * 4) = false) : s.hostWrite j (a.toNat / 4 * 4) v = (s.accessSet, false) := by
      have hword : a.toNat / 4 * 4 / 4 * 4 = a.toNat / 4 * 4 := by omega
      simp only [State.hostWrite, hword, hj, Bool.false_eq_true, if_false]
      rw [if_neg (by omega)]
    have hexec : exec (.registerWrite i a v) s = .next s.accessSet := by
      refine congrArg Host.Outcome.next ?_
      rcases hi with rfl | rfl <;> simp only [State.busWrite, hhost _ hw]
    exact ⟨_, hexec, State.get_put_same _ _ _ (by decide), .set1' (.refl _ _ s)⟩
  · exact ⟨_, congrArg Host.Outcome.next (s.busWrite_reg .hpa R.PLINTH_RTC_SEC v (by decide) (by decide) rfl), s.rd_wr_same _ v, .wr' (.refl _ _ s)⟩
  · have hwriter : writerOf i ≠ .hpa := by cases i <;> simp_all [writerOf]
    have hrefuse : s.regWrite (writerOf i) R.PLINTH_RTC_SEC v = s.cfgReject .plinth := if_neg hwriter
    exact ⟨_, congrArg Host.Outcome.next ((s.busWrite_reg i R.PLINTH_RTC_SEC v (by decide) (by decide) rfl).trans hrefuse), s.cfgReject_refused _ _⟩

end Sys2Proof.Machine
end

section
/-!
Proofs about the Docent pads (chapter 18): frames of the service channel.
The proofs are elaborated in turn: in one text, proofs that wait for each other would each hold a thread.
-/

set_option Elab.async false

namespace Sys2Proof.Machine

/-! ### Bytes in a buffer of the register space -/

theorem memHome_high {a : Nat} (h : 0x28400000 ≤ a) : memHome a = a := if_neg (by omega)

theorem State.rdB_wrBytes_other {b : Nat} : ∀ (l : List Byte) {s : State} {a : Nat}, 0x28400000 ≤ a → memHome b < a ∨ a + l.length ≤ memHome b →
    (s.wrBytes a l).rdB b = s.rdB b
  | [], _, _, _, _ => rfl
  | x :: l, s, a, ha, hb => by
    simp only [List.length_cons] at hb
    rw [State.wrBytes, State.rdB_wrBytes_other l (by omega) (by omega), State.rdB_wrB, memHome_high ha, if_neg (by omega)]

theorem State.rdBytes_wrBytes : ∀ (l : List Byte) {s : State} {a : Nat}, 0x28400000 ≤ a → (s.wrBytes a l).rdBytes a l.length = l
  | [], _, _, _ => rfl
  | x :: l, s, a, ha => by
    have hhead : ((s.wrB a x).wrBytes (a + 1) l).rdB a = x := by
      rw [State.rdB_wrBytes_other l (by omega) (.inl (by rw [memHome_high ha]; omega)), State.rdB_wrB, if_pos rfl]
    simp only [List.length_cons, State.rdBytes, State.wrBytes]
    rw [hhead, State.rdBytes_wrBytes l (by omega)]

/-! ### A message into the host-to-device buffer (R599, R640) -/

/-- The buffer takes a message, with the flag that says whence it came. -/
structure Delivered (b : List Byte) (doc : Nat) (s t : State) : Prop where
  bytes : t.rdBytes R.COURH_H2D_BUF b.length = b
  length : t.rd R.COURH_H2D_LEN = BitVec.ofNat 32 b.length
  full : t.get F.COURH_STATUS_H2D_FULL = 1
  doc : t.get F.COURH_STATUS_H2D_DOC = doc
  other : ∀ a, a < R.COURH_H2D_BUF ∨ R.COURH_H2D_BUF + b.length ≤ a → t.rdB a = s.rdB a
  frame : Keeps [whole R.COURH_H2D_LEN, F.COURH_STATUS_H2D_FULL, F.COURH_STATUS_H2D_DOC] [.mem] s t

theorem State.rdBytes_congr {s t : State} (h : t.mem = s.mem) : ∀ (n a : Nat), t.rdBytes a n = s.rdBytes a n
  | 0, _ => rfl
  | n + 1, a => by rw [State.rdBytes, State.rdBytes, State.rdB_congr h, State.rdBytes_congr h n]

theorem memHome_off_h2d {a n : Nat} (hn : n ≤ 4096) (h : a < R.COURH_H2D_BUF ∨ R.COURH_H2D_BUF + n ≤ a) :
    memHome a < R.COURH_H2D_BUF ∨ R.COURH_H2D_BUF + n ≤ memHome a := by
  have hbase : R.COURH_H2D_BUF = 0x400C1000 := rfl
  rw [hbase] at h ⊢
  unfold memHome
  split <;> omega

theorem State.h2dPut_delivers (s : State) {b : List Byte} (doc : Bool) (hlen : b.length ≤ 4096) (hfull : s.flag F.COURH_STATUS_H2D_FULL = false) :
    Delivered b (b2n doc) s (s.h2dPut b doc) := by
  have hput : s.h2dPut b doc = (((s.wrBytes R.COURH_H2D_BUF b).wr R.COURH_H2D_LEN (w32 b.length)).put F.COURH_STATUS_H2D_FULL 1).put
      F.COURH_STATUS_H2D_DOC (b2n doc) := by
    simp only [State.h2dPut, hfull, List.take_of_length_le hlen]
    rfl
  rw [hput]
  refine ⟨?_, by simp [w32], by simp, ?_, fun a ha => ?_, .put' (.put' (.wr' (.wrBytes' (.refl _ _ s))))⟩
  · refine (State.rdBytes_congr (s := s.wrBytes R.COURH_H2D_BUF b) ?_ _ _).trans (State.rdBytes_wrBytes b (by decide))
    rfl
  · cases doc <;> simp [b2n]
  · exact State.rdB_wrBytes_other b (by decide) (memHome_off_h2d hlen ha)

theorem State.h2dPut_overflows (s : State) (b : List Byte) (doc : Bool) (hfull : s.flag F.COURH_STATUS_H2D_FULL = true) :
    s.h2dPut b doc = s.put F.COURH_STICKY_H2D_OVF 1 := if_pos hfull

/-! ### A command on Svauth's Docent channel (R590) -/

/-- The Docent channel's command, posted. -/
def State.docPosted (s : State) (op : Nat) : State := s.modSv fun v => { v with
  chan := v.chan.set 2 { op := if op = 0 then 0x100 else op, served := false, result := 0, rsp := [] }, queue := v.queue ++ [2] }

theorem State.svPost_doc (s : State) (op : Nat) (h : s.svBusy 2 = false) : s.svPost 2 op = s.docPosted op := by
  simp only [State.svPost, h]
  rfl

theorem State.svPost_busy (s : State) (ch op : Nat) (h : s.svBusy ch = true) : s.svPost ch op = s.put F.SV_STICKY_CFG_REJECT 1 := if_pos h

/-- Settles O47: each frame is one of three updates, by its own gate. -/
theorem docentFrames : Obligations.DocentFrames := by
  refine fun s => ⟨fun hpads hpd => ⟨?_, ?_, fun b h11 hb hlen hfull => ?_, fun b h11 hb hfull => ?_, fun x hx h7 => ?_⟩, fun hpads k a v w b c hc => ?_⟩
  · exact ⟨_, if_pos (by simp [hpads, hpd]), rfl, .beside' (.refl _ _ s)⟩
  · exact ⟨_, if_pos (by simp [State.svcUp, hpads, hpd]), rfl, .beside' (.refl _ _ s)⟩
  · have hput := s.h2dPut_delivers true hlen hfull
    exact ⟨_, if_pos (by simp [State.svcUp, hpads, hpd, h11, hb]), hput.bytes, hput.length, hput.full, hput.doc, hput.other, hput.frame⟩
  · refine ⟨s.put F.COURH_STICKY_H2D_OVF 1, ?_, by simp, .put' (.refl _ _ s)⟩
    rw [← s.h2dPut_overflows b true hfull]
    exact if_pos (by simp [State.svcUp, hpads, hpd, h11, hb])
  · have hexec : exec x.1 s = .next (s.svPost 2 x.2) ∧ x.2 ≠ 0 := by
      have hup : (s.svcUp && s.pdOn 7) = true := by simp [State.svcUp, hpads, hpd, h7]
      simp only [List.mem_cons, List.not_mem_nil, or_false] at hx
      rcases hx with rfl | rfl
      · exact ⟨if_pos hup, by decide⟩
      · exact ⟨if_pos hup, by decide⟩
    refine ⟨fun hfree => ?_, fun hbusy => ?_⟩
    · have hchan : (s.docPosted x.2).sv.chan.get 2 = { op := x.2, served := false, result := 0, rsp := [] } := by
        simp [State.docPosted, State.modSv, hexec.2]
      refine ⟨s.docPosted x.2, ?_, by rw [hchan], by rw [hchan], rfl, fun c hc => SMap.get_set_ne _ _ _ _ hc, .beside' (.refl _ _ s)⟩
      rw [hexec.1, s.svPost_doc _ hfree]
    · refine ⟨s.put F.SV_STICKY_CFG_REJECT 1, ?_, by simp, .put' (.refl _ _ s)⟩
      rw [hexec.1, s.svPost_busy _ _ hbusy]
  · have hoff (op addr data : Nat) (wait : Bool) (f : State → DocAns) : s.docReq op addr data wait f = s := if_pos (by simp [hpads])
    have hup : s.svcUp = false := by simp [State.svcUp, hpads]
    simp only [List.mem_cons, List.not_mem_nil, or_false] at hc
    rcases hc with rfl | rfl | rfl | rfl | rfl | rfl | rfl | rfl | rfl | rfl | rfl | rfl | rfl | rfl | rfl | rfl
    iterate 11 exact congrArg Host.Outcome.next (hoff _ _ _ _ _)
    all_goals exact if_neg (by simp [hpads, hup])

end Sys2Proof.Machine
end

section
/-!
Proofs about the host SPI and the pins (chapters 17 and 20).
The proofs are elaborated in turn: in one text, proofs that wait for each other would each hold a thread.
-/

set_option Elab.async false

namespace Sys2Proof.Machine

/-! ### Words of system SRAM by the host SPI (R637, R638) -/

theorem regionOf_sram {a : Nat} (hlo : 0x20000000 ≤ a) (hhi : a < 0x203FC000) : regionOf a = .sram := by
  have hhome : memHome a = a := if_neg (by omega)
  have h1 : ¬ a < 0x20000 := by omega
  have h2 : ¬ (0x10000000 ≤ a ∧ a < 0x11000000) := by omega
  have h3 : 0x20000000 ≤ a ∧ a < 0x20400000 := by omega
  have h4 : ¬ 0x203FC000 ≤ a := by omega
  simp only [regionOf, hhome, h1, h2, h3, h4, and_self, if_true, if_false]

theorem regionOf_arch {a : Nat} (hlo : 0x203FC000 ≤ a) (hhi : a < 0x20400000) : regionOf a = .arch := by
  have hhome : memHome a = a := if_neg (by omega)
  have h1 : ¬ a < 0x20000 := by omega
  have h2 : ¬ (0x10000000 ≤ a ∧ a < 0x11000000) := by omega
  have h3 : 0x20000000 ≤ a ∧ a < 0x20400000 := by omega
  simp only [regionOf, hhome, h1, h2, h3, hlo, and_self, if_true, if_false]

theorem State.hostRead_sram (s : State) {a : Nat} (ha : a % 4 = 0) (hlo : 0x20000000 ≤ a) (hhi : a < 0x20400000) (hecc : s.eccBad a = false) :
    s.hostRead a = (s, s.rdW a, true) := by
  have hword : a / 4 * 4 = a := by omega
  by_cases h : a < 0x203FC000
  · simp [State.hostRead, State.hostReads, State.wordAt, State.powered, hword, regionOf_sram hlo h, hecc]
  · simp [State.hostRead, State.hostReads, State.wordAt, State.powered, hword, regionOf_arch (by omega) hhi, hecc]

/-- A run of words that are correctable leaves the state. -/
theorem State.readRun_sram (s : State) (a n : Nat) (ha : a % 4 = 0) (hlo : 0x20000000 ≤ a) (hhi : a + 4 * n ≤ 0x20400000)
    (hecc : ∀ k, k < n → s.eccBad (a + 4 * k) = false) : s.readRun a n = (s, (List.range n).map (fun k => s.rdW (a + 4 * k)), true) := by
  have hrun : ∀ m, m ≤ n → (List.range m).foldl (fun (x : ReadRun) k =>
      ((x.1.hostRead ((a + 4 * k) % 2 ^ 32)).1, x.2.1 ++ [(x.1.hostRead ((a + 4 * k) % 2 ^ 32)).2.1],
        x.2.2 && (x.1.hostRead ((a + 4 * k) % 2 ^ 32)).2.2)) (s, [], true) = (s, (List.range m).map (fun k => s.rdW (a + 4 * k)), true) := by
    intro m
    induction m with
    | zero => exact fun _ => rfl
    | succ m ih =>
      intro hm
      have haddr : (a + 4 * m) % 2 ^ 32 = a + 4 * m := Nat.mod_eq_of_lt (by omega)
      rw [List.range_succ, List.foldl_append, ih (by omega), List.foldl_cons, List.foldl_nil]
      simp only [haddr, s.hostRead_sram (a := a + 4 * m) (by omega) (by omega) (by omega) (hecc m hm), List.map_append, Bool.and_self]
      rfl
  exact hrun n (Nat.le_refl n)

theorem State.hostWrite_sram (s : State) {a : Nat} (v : Word) (ha : a % 4 = 0) (hlo : 0x20000000 ≤ a) (hhi : a < 0x203FC000) :
    s.hostWrite .hspi a v = (s.wrW a v, true) := by
  have hword : a / 4 * 4 = a := by omega
  simp [State.hostWrite, State.hostWrites, State.wordPut, State.powered, hword, regionOf_sram hlo hhi]

/-- Words written at rising addresses. -/
def State.wrWords (s : State) (a : Nat) : List Word → State
  | [] => s
  | w :: ws => (s.wrW a w).wrWords (a + 4) ws

theorem State.wrWords_keeps : ∀ (ws : List Word) (s : State) (a : Nat), Keeps [] [.mem] s (s.wrWords a ws)
  | [], s, _ => .refl _ _ s
  | w :: ws, s, a => .after (State.wrWords_keeps ws (s.wrW a w) (a + 4)) (.wrW' (.refl _ _ s))

theorem memHome_sram {a : Nat} (hhi : a < 0x28000000) : memHome a = a := if_neg (by omega)

theorem State.rdB_wrWords_other {b : Nat} : ∀ (ws : List Word) (s : State) (a : Nat), a % 4 = 0 → a + 4 * ws.length ≤ 0x20400000 →
    memHome b < a ∨ a + 4 * ws.length ≤ memHome b → (s.wrWords a ws).rdB b = s.rdB b
  | [], _, _, _, _, _ => rfl
  | w :: ws, s, a, ha, hhi, hb => by
    simp only [List.length_cons] at hhi hb
    rw [State.wrWords, State.rdB_wrWords_other ws _ _ (by omega) (by omega) (by omega), State.rdB_wrW_other _ _ _ _ ha]
    rw [memHome_sram (a := a) (by omega)]
    omega

theorem State.rdW_congr {s t : State} {a : Nat} (h : ∀ k, k < 4 → t.rdB (a + k) = s.rdB (a + k)) : t.rdW a = s.rdW a := by
  rw [State.rdW_eq, State.rdW_eq, h 1 (by decide), h 2 (by decide), h 3 (by decide), show t.rdB a = s.rdB a from h 0 (by decide)]

theorem State.rdW_wrWords : ∀ (ws : List Word) (s : State) (a : Nat), a % 4 = 0 → a + 4 * ws.length ≤ 0x20400000 →
    ∀ k, k < ws.length → some ((s.wrWords a ws).rdW (a + 4 * k)) = ws[k]?
  | [], _, _, _, _, k, hk => absurd hk (Nat.not_lt_zero k)
  | w :: ws, s, a, ha, hhi, k, hk => by
    simp only [List.length_cons] at hhi hk
    cases k with
    | zero =>
      refine congrArg some (Eq.trans ?_ (s.rdW_wrW a w ha))
      refine State.rdW_congr fun j hj => State.rdB_wrWords_other ws _ _ (by omega) (by omega) (.inl ?_)
      rw [memHome_sram (by omega)]
      omega
    | succ k =>
      have haddr : a + 4 * (k + 1) = a + 4 + 4 * k := by omega
      rw [haddr]
      exact State.rdW_wrWords ws (s.wrW a w) (a + 4) (by omega) (by omega) k (by omega)

/-- What a WRITE transaction folds over its words, from word j on. -/
theorem State.hspiWrite_fold (a : Nat) : ∀ (ws : List Word) (s : State) (j : Nat), a % 4 = 0 → 0x20000000 ≤ a → a + 4 * (j + ws.length) ≤ 0x203FC000 →
    ((List.range' j ws.length).zip ws).foldl (fun (s : State) (x : Nat × Word) => (s.hostWrite .hspi ((a + 4 * x.1) % 2 ^ 32) x.2).1) s =
      s.wrWords (a + 4 * j) ws
  | [], _, _, _, _, _ => rfl
  | w :: ws, s, j, ha, hlo, hhi => by
    simp only [List.length_cons] at hhi
    have haddr : (a + 4 * j) % 2 ^ 32 = a + 4 * j := Nat.mod_eq_of_lt (by omega)
    have hnext : a + 4 * (j + 1) = a + 4 * j + 4 := by omega
    rw [List.length_cons, List.range'_succ, List.zip_cons_cons, List.foldl_cons, State.hspiWrite_fold a ws _ (j + 1) ha hlo (by omega)]
    simp only [haddr, s.hostWrite_sram (a := a + 4 * j) w (by omega) (by omega) (by omega), hnext]
    rfl

/-! ### COURH's own registers (R639 to R641) -/

theorem State.busWrite_courh (s : State) (i : Initiator) (a : Nat) (v : Word) (h11 : s.pdOn 11 = true) (ha : a % 4 = 0 := by decide)
    (hreg : regionOf a = .reg := by decide) (hblk : blockPd a = some 11 := by decide) : s.busWrite i a v = s.regWrite (writerOf i) a v := by
  refine s.busWrite_reg i a v ha hreg ?_
  simp only [State.powered, hreg, hblk, h11]

theorem writerOf_ne_hpa {i : Initiator} (h : i ≠ .hpa) : writerOf i ≠ .hpa := by cases i <;> simp_all [writerOf]

/-- The length and the way that a write of COURH_D2H_LEN gives. -/
def State.d2hTaken (s : State) (v : Word) : State :=
  (s.put F.COURH_D2H_LEN_LEN (bitsOf v.toNat 0 13)).put F.COURH_D2H_LEN_DOC (bitsOf v.toNat 15 1)

/-! ### GPIO pads (R562) -/

theorem bitOf_bitsPut (n k : Nat) (b : Bool) : bitOf (bitsPut n k 1 (b2n b)) k = b := by
  have h := bitsOf_bitsPut_self n k 1 (b2n b)
  unfold bitsOf at h
  unfold bitOf
  rw [pow_one] at h
  rw [h]
  cases b <;> rfl

/-- The pins with one GPIO's level set. -/
def State.pinSet (s : State) (k : Nat) (level : Bool) : State := { s with pins := { s.pins with gpio := bitsPut s.pins.gpio k 1 (b2n level) } }

theorem State.pinSet_padIn (s : State) (k : Nat) (level : Bool) : (s.pinSet k level).padIn k =
    (s.padFn k == 1 && (if (s.padDrive k).1 then (s.padDrive k).2 else level)) := by
  have hlevel : bitOf (s.pinSet k level).pins.gpio k = level := bitOf_bitsPut _ _ _
  unfold State.padIn
  rw [hlevel]
  rfl

/-- The event register plays no part in a pad of general I/O. -/
theorem State.padIn_put_evt (s : State) (k lo : Nat) (hfn : s.padFn k = 1) : (s.put ⟨R.SYS_GPIO_EVT, lo, 1⟩ 1).padIn k = s.padIn k := by
  have hfn' : (s.put ⟨R.SYS_GPIO_EVT, lo, 1⟩ 1).padFn k = 1 := hfn
  have hdrive : (s.put ⟨R.SYS_GPIO_EVT, lo, 1⟩ 1).padDrive k = s.padDrive k := by
    have hact : (s.put ⟨R.SYS_GPIO_EVT, lo, 1⟩ 1).padsActive = s.padsActive := by simp [State.padsActive, State.inFoyer, State.put, State.wr, State.flag,
      State.get, State.rd, SMap.get_set]
    simp [State.padDrive, hact, hfn, hfn', padHoldF]
  unfold State.padIn
  rw [hfn', hfn, hdrive]
  rfl

theorem exec_gpioEdge (s : State) (k : Fin 8) (level : Bool) : exec (.gpioEdge k level) s =
    if s.pdOn 1 && (s.pinSet k level).padIn k != s.padIn k then
      .next ((s.pinSet k level).put ⟨R.SYS_GPIO_EVT, if level then k.val else k.val + 8, 1⟩ 1) else .next (s.pinSet k level) := rfl

/-- Settles O49: transactions by their words, buffers by their flags, COURH's registers by their writes, a pin by its pad. -/
theorem hostAndPins : Obligations.HostAndPins := by
  refine fun s => ⟨fun hout => ⟨?_, fun a n hlock ha hlo hhi hecc => ?_, fun a n hlock => ?_, fun n hfull => ?_, fun n hfull => ?_⟩, fun hout a n => ?_,
    fun h11 => ⟨fun a ws hlock ha hlo hhi => ?_, fun a ws hlock => ?_, fun b hb hlen hfull => ?_, fun b hb hfull => ?_, fun v h0 => ⟨?_, ?_⟩,
      fun v h15 => ?_, fun v h15 hpads => ?_, fun i v hi => ⟨?_, ?_, ?_⟩⟩, fun h11 a ws b => ?_, fun k level hpd hfn hdrive hne => ?_,
    fun k level h => ?_⟩
  · exact ⟨_, if_pos hout, rfl, .beside' (.refl _ _ s)⟩
  · have hexec : exec (.hspiRead a n) s = .next (s.said ((List.range n).map fun k => s.rdW (a.toNat + 4 * k)) []) := by
      refine (if_neg (by simp [hout])).trans ((if_neg (by simp [hlock])).trans ?_)
      rw [s.readRun_sram a.toNat n ha hlo hhi hecc]
    exact ⟨_, hexec, rfl, .beside' (.refl _ _ s)⟩
  · exact ⟨_, (if_neg (by simp [hout])).trans (if_pos hlock), rfl, rfl, .beside' (.refl _ _ s)⟩
  · have hexec : exec (.hspiMsgGet n) s = if s.d2hMsg.length + 2 ≤ n then
        .next ((s.said [] ((leBytes 2 s.d2hMsg.length ++ s.d2hMsg).take n)).put F.COURH_STATUS_D2H_FULL 0)
        else .next (s.said [] ((leBytes 2 s.d2hMsg.length ++ s.d2hMsg).take n)) :=
      (if_neg (by simp [hout])).trans (if_neg (by simp [hfull]))
    by_cases hall : s.d2hMsg.length + 2 ≤ n
    · exact ⟨_, hexec.trans (if_pos hall), rfl, by simp [hall], .put' (.beside' (.refl _ _ s))⟩
    · refine ⟨_, hexec.trans (if_neg hall), rfl, ?_, .beside' (.refl _ _ s)⟩
      rw [decide_eq_true (by omega)]
      exact hfull
  · exact ⟨_, (if_neg (by simp [hout])).trans (if_pos (by simp [hfull])), rfl, .beside' (.refl _ _ s)⟩
  · exact ⟨if_neg (by simp [hout]), if_pos (by simp [hout]), if_pos (by simp [hout])⟩
  · have hexec : exec (.hspiWrite a ws) s = .next (s.wrWords a.toNat ws) := by
      refine (if_neg (by simp [h11])).trans ((if_neg (by simp [hlock])).trans ?_)
      rw [List.range_eq_range', State.hspiWrite_fold a.toNat ws s 0 ha hlo (by omega)]
      rfl
    exact ⟨_, hexec, State.rdW_wrWords ws s a.toNat ha (by omega), fun b hb => State.rdB_wrWords_other ws s a.toNat ha (by omega) hb,
      State.wrWords_keeps ws s a.toNat⟩
  · exact ⟨s.accessSet, (if_neg (by simp [h11])).trans (if_pos hlock), State.get_put_same _ _ _ (by decide), .set1' (.refl _ _ s)⟩
  · have hput := s.h2dPut_delivers false hlen hfull
    exact ⟨_, if_pos (by simp [h11, hb]), hput.bytes, hput.length, hput.full, hput.doc, hput.other, hput.frame⟩
  · refine ⟨s.put F.COURH_STICKY_H2D_OVF 1, ?_, by simp, .put' (.refl _ _ s)⟩
    rw [← s.h2dPut_overflows b false hfull]
    exact if_pos (by simp [h11, hb])
  · have hdone : s.h2dDone .hpa v = ((s.put F.COURH_STATUS_H2D_FULL 0).put F.COURH_STATUS_H2D_DOC 0).wr R.COURH_H2D_LEN 0#32 :=
      (if_neg (by simp)).trans (if_pos h0)
    exact ⟨_, congrArg Host.Outcome.next ((s.busWrite_courh .hpa R.COURH_H2D_DONE v h11).trans hdone), by simp, by simp, by simp,
      .wr' (.put' (.put' (.refl _ _ s)))⟩
  · have hlock : s.hspiLock .hpa v = (s.put F.COURH_HSPI_CFG_LOCK 1).put F.COURH_STATUS_LOCKED 1 :=
      (if_neg (by simp)).trans (if_pos h0)
    exact ⟨_, congrArg Host.Outcome.next ((s.busWrite_courh .hpa R.COURH_HSPI_CFG v h11).trans hlock), by simp [State.hspiLocked], by simp,
      .put' (.put' (.refl _ _ s))⟩
  · have hlen := bitsOf_lt v.toNat 0 13
    have hpost : s.d2hPost .hpa v = ((s.put F.COURH_D2H_LEN_LEN (bitsOf v.toNat 0 13)).put F.COURH_D2H_LEN_DOC (bitsOf v.toNat 15 1)).put
        F.COURH_STATUS_D2H_FULL (b2n (((s.put F.COURH_D2H_LEN_LEN (bitsOf v.toNat 0 13)).put F.COURH_D2H_LEN_DOC (bitsOf v.toNat 15 1)).get
          F.COURH_D2H_LEN_LEN != 0)) := (if_neg (by simp)).trans (if_neg (by simp [h15]))
    refine ⟨_, congrArg Host.Outcome.next ((s.busWrite_courh .hpa R.COURH_D2H_LEN v h11).trans hpost), ?_, ?_, .put' (.put' (.put' (.refl _ _ s)))⟩
    · simpa using Nat.mod_eq_of_lt hlen
    · have hget : (bitsOf v.toNat 0 13) % 8192 = bitsOf v.toNat 0 13 := Nat.mod_eq_of_lt hlen
      by_cases hz : bitsOf v.toNat 0 13 = 0 <;> simp [hget, hz, b2n]
  · have hlen : (s.d2hTaken v).get F.COURH_D2H_LEN_LEN = bitsOf v.toNat 0 13 := by
      simpa [State.d2hTaken] using Nat.mod_eq_of_lt (bitsOf_lt v.toNat 0 13)
    have hpost : s.d2hPost .hpa v = { s.d2hTaken v with
        resp := { words := [], bytes := if (s.d2hTaken v).docPads then svcFrame 1 (s.d2hTaken v).d2hMsg else [], result := 0, fault := false } } :=
      (if_neg (by simp)).trans (if_pos h15)
    have htaken : (s.d2hTaken v).docPads = true := hpads
    refine ⟨_, congrArg Host.Outcome.next ((s.busWrite_courh .hpa R.COURH_D2H_LEN v h11).trans hpost), ?_, .beside' (.put' (.put' (.refl _ _ s)))⟩
    refine (if_pos htaken).trans (congrArg (svcFrame 1) ?_)
    rw [State.d2hMsg, hlen]
    exact State.rdBytes_congr (s := s) (t := s.d2hTaken v) rfl _ _
  · exact ⟨_, congrArg Host.Outcome.next ((s.busWrite_courh i R.COURH_H2D_DONE v h11).trans (if_pos (writerOf_ne_hpa hi))), s.cfgReject_refused _ _⟩
  · exact ⟨_, congrArg Host.Outcome.next ((s.busWrite_courh i R.COURH_D2H_LEN v h11).trans (if_pos (writerOf_ne_hpa hi))), s.cfgReject_refused _ _⟩
  · exact ⟨_, congrArg Host.Outcome.next ((s.busWrite_courh i R.COURH_HSPI_CFG v h11).trans (if_pos (writerOf_ne_hpa hi))), s.cfgReject_refused _ _⟩
  · exact ⟨if_pos (by simp [h11]), if_neg (by simp [h11])⟩
  · have hwas : s.padIn k = bitOf s.pins.gpio k := by simp [State.padIn, hfn, hdrive]
    have hnow : (s.pinSet k level).padIn k = level := by simp [State.pinSet_padIn, hfn, hdrive]
    have hlevel : bitOf (s.pinSet k level).pins.gpio k = level := bitOf_bitsPut _ _ _
    have hexec := (exec_gpioEdge s k level).trans (if_pos (by simpa [hpd, hnow, hwas] using hne.symm))
    refine ⟨_, hexec, hlevel, (State.padIn_put_evt (s.pinSet k level) k _ hfn).trans hnow, ?_, .put' (.beside' (.refl _ _ s))⟩
    refine (State.get_put_same _ _ _ ?_).trans rfl
    dsimp only
    split <;> omega
  · have hlevel : bitOf (s.pinSet k level).pins.gpio k = level := bitOf_bitsPut _ _ _
    have hsame : (s.pdOn 1 && (s.pinSet k level).padIn k != s.padIn k) = false := by
      rw [State.pinSet_padIn, State.padIn]
      rcases h with h | h | h | h
      · simp [h]
      · simp [beq_false_of_ne h]
      · simp [h]
      · simp [h]
    exact ⟨s.pinSet k level, (exec_gpioEdge s k level).trans (if_neg (by simp [hsame])), hlevel, .beside' (.refl _ _ s)⟩

end Sys2Proof.Machine
end

section
/-!
Proofs about the debug link (chapter 18): requests, the status word, what a register read reaches, halts and resumes.
The proofs are elaborated in turn: in one text, proofs that wait for each other would each hold a thread.
-/

set_option Elab.async false

namespace Sys2Proof.Machine

/-! ### A request of the debug link with no held result (R593, R595) -/

theorem State.modSv_unheld {s : State} (h : s.sv.held = none) : (s.modSv fun v => { v with held := none }) = s := by
  have hsv : { s.sv with held := none } = s.sv := by
    conv_rhs => rw [show s.sv = { s.sv with held := s.sv.held } from rfl, h]
  exact congrArg (fun v => { s with sv := v }) hsv

section
variable {s : State} (hpads : s.docPads = true) (hpd : s.pdOn 1 = true)
include hpads hpd

theorem State.docReq_new (hheld : s.sv.held = none) (op addr data : Nat) (k : State → DocAns) :
    s.docReq op addr data false k = (k s).1.docSay (k s).2.1 (k s).2.2 := by
  simp only [State.docReq, hpads, hpd, State.modSv_unheld hheld, hheld]
  rfl

/-- A request that has not completed is held, unless it is denied. -/
theorem State.docReq_wait (hheld : s.sv.held = none) (op addr data : Nat) (k : State → DocAns) (hden : (k s).2.1 ≠ 6) :
    s.docReq op addr data true k =
      ((k s).1.modSv fun v => { v with held := some (op, addr, data, (k s).2.1 * 2 ^ 32 + (k s).2.2.toNat) }).docSay 2 0#32 := by
  simp only [State.docReq, hpads, hpd, State.modSv_unheld hheld, hheld, Bool.not_true, Bool.or_self, Bool.false_eq_true, if_false, Option.filter_none]
  exact if_pos (by simpa using hden)

theorem State.docReq_denied (hheld : s.sv.held = none) (op addr data : Nat) (wait : Bool) (k : State → DocAns) (hden : k s = (s, 6, 0#32)) :
    s.docReq op addr data wait k = s.docSay 6 0#32 := by
  simp only [State.docReq, hpads, hpd, State.modSv_unheld hheld, hheld, Bool.not_true, Bool.or_self, Bool.false_eq_true, if_false, Option.filter_none,
    hden]
  exact if_neg (by simp)

/-- The identical request gets the result that was held. -/
theorem State.docReq_held {op addr data x : Nat} (hheld : s.sv.held = some (op, addr, data, x)) (wait : Bool) (k : State → DocAns) :
    s.docReq op addr data wait k = (s.modSv fun v => { v with held := none }).docSay (x / 2 ^ 32) (w32 x) := by
  simp only [State.docReq, hpads, hpd, hheld, Bool.not_true, Bool.or_self, Bool.false_eq_true, if_false, Option.filter_some, beq_self_eq_true,
    Bool.and_self, if_true]

end

theorem State.docNeed_met {s : State} {level : Nat} {k : State → DocAns} (h : level ≤ s.get F.SV_INFO_PERMIT) : s.docNeed level k = k s :=
  if_neg (by omega)

theorem State.docNeed_unmet {s : State} {level : Nat} {k : State → DocAns} (h : s.get F.SV_INFO_PERMIT < level) : s.docNeed level k = (s, 6, 0#32) :=
  if_pos h

/-- An answer alone. -/
theorem State.docSay_keeps (s : State) (ack : Nat) (w : Word) : Keeps [] [.resp] s (s.docSay ack w) := .beside' (.refl _ _ s)

/-! ### The status word (Table SVA-17) -/

theorem maskOf_succ (n : Nat) (p : Nat → Bool) : maskOf (n + 1) p = maskOf n p + 2 ^ n * b2n (p n) := by
  simp [maskOf, List.range_succ]

theorem maskOf_lt (n : Nat) (p : Nat → Bool) : maskOf n p < 2 ^ n := by
  induction n with
  | zero => exact Nat.one_pos
  | succ n ih =>
    rw [maskOf_succ, pow_succ]
    cases p n <;> simp [b2n] <;> omega

theorem bitOf_maskOf (n k : Nat) (p : Nat → Bool) (h : k < n) : bitOf (maskOf n p) k = p k := by
  induction n with
  | zero => exact absurd h (Nat.not_lt_zero k)
  | succ n ih =>
    rw [maskOf_succ, bitOf_eq_testBit, Nat.add_comm]
    by_cases hk : k = n
    · subst hk
      rw [Nat.testBit_two_pow_mul_add _ (maskOf_lt k p), if_neg (Nat.lt_irrefl k), Nat.sub_self]
      cases p k <;> simp [b2n]
    · rw [Nat.testBit_two_pow_mul_add _ (maskOf_lt n p), if_pos (by omega), ← bitOf_eq_testBit, ih (by omega)]

/-! ### What a register read reaches -/
theorem State.cycAdvance_outside (s : State) :
    KeepsOutside [] [.draws, .plinth] s s.cycAdvance :=
  .ite' (.refl _ _ _) (.beside' (.drew' (.refl _ _ _)))

theorem State.cycRead_outside (s : State) :
    KeepsOutside [zone R.PLINTH_STATUS] [.draws, .plinth] s s.cycRead.1 :=
  .wr' (.after (State.cycAdvance_outside ..) (.refl _ _ _))

theorem State.subRead_outside (s : State) :
    KeepsOutside [] [.draws, .plinth] s s.subRead.1 :=
  (.after (State.cycAdvance_outside ..) (.refl _ _ _))

theorem State.shiftUnit_outside (s : State) (u : ℕ) (d : ℕ) (hu : u < 14) :
    KeepsOutside [zone (R.PWM_CTRL 0)] [.pwm, .shadow] s (s.shiftUnit u d) := by
  unfold State.shiftUnit
  dsimp only
  split
  · exact .after (State.judgeCommit_outside _ _ _ (by omega)) (.after (State.modPwm_outside ..) (.after (State.enterHeld_outside ..) (.after (State.setPwm_outside ..) (.after (State.modPwm_outside ..) (.refl _ _ _)))))
  · exact (.after (State.modPwm_outside ..) (.after (State.enterHeld_outside ..) (.after (State.setPwm_outside ..) (.after (State.modPwm_outside ..) (.refl _ _ _)))))

theorem State.thawUnit_outside (s : State) (u : ℕ) (hu : u < 14) :
    KeepsOutside [zone (R.PWM_CTRL 0)] [.pwm, .shadow] s (s.thawUnit u) :=
  .ite' (.after (State.shiftUnit_outside _ _ _ (by omega)) (.put' (.refl _ _ _))) (.refl _ _ _)

theorem State.cycRead_frame (s : State) : KeepsOutside [zone R.PLINTH_STATUS] [.draws, .plinth] s s.cycRead.1 := (.after (State.cycRead_outside ..) (.refl _ _ _))
theorem State.subRead_frame (s : State) : KeepsOutside [zone R.PLINTH_STATUS] [.draws, .plinth] s s.subRead.1 := (.after (State.subRead_outside ..) (.refl _ _ _))

theorem ix_lt {a base stride n k : Nat} (h : ix a base stride n = some k) : k < n := by
  unfold ix at h
  split at h
  next hin =>
    obtain ⟨hlo, hhi, -⟩ := hin
    obtain rfl := Option.some.inj h
    exact Nat.div_lt_of_lt_mul (by omega)
  next => cases h

theorem State.regRead_frame (s : State) (a : Nat) : KeepsOutside [zone R.SYS_ID, zone R.EPOCH_CTRL, zone R.METER_CTRL, zone R.PERF_CTRL, zone R.PLINTH_STATUS]
    [.draws, .plinth] s (s.regRead a).1 := by
  unfold State.regRead
  split
  · exact .refl _ _ s
  split
  · exact .wr' (.refl _ _ s)
  split
  · exact .put' (.refl _ _ s)
  split
  · exact .wr' (.refl _ _ s)
  split
  · exact .wr' (.refl _ _ s)
  split
  · exact .after s.cycRead_frame (.refl _ _ s)
  split
  · exact .after s.subRead_frame (.refl _ _ s)
  split
  next k hk =>
    have := ix_lt hk
    exact .wr' (.refl _ _ s)
  next n hn _ =>
    have := ix_lt hn
    exact .wr' (.refl _ _ s)
  next n hn _ _ =>
    have := ix_lt hn
    exact .wr' (.refl _ _ s)
  next =>
    split
    · have : (a - 0x400B1000) / 0x400 < 4 ∧ a % 0x400 / 8 < 96 := by omega
      exact .wr' (.refl _ _ s)
    · exact .refl _ _ s

/-! ### The status word (Table SVA-17) -/

/-- The fields of the status word, one above another. -/
def statusNat (foyer safe crc svc halted lock bp permit : Nat) : Nat :=
  2 ^ 31 * foyer + 2 ^ 30 * safe + 65536 * crc + 8192 * svc + 16 * halted + 8 * lock + 4 * bp + permit

section
variable {foyer safe crc svc halted lock bp permit : Nat} (h0 : foyer < 2) (h1 : safe < 2) (h2 : crc < 256) (h3 : svc < 8) (h4 : halted < 512) (h5 : lock < 2)
  (h6 : bp < 2) (h7 : permit < 4)
include h0 h1 h2 h3 h4 h5 h6 h7

theorem statusNat_word : (w32 (statusNat foyer safe crc svc halted lock bp permit)).toNat = statusNat foyer safe crc svc halted lock bp permit := by
  unfold w32 statusNat
  rw [BitVec.toNat_ofNat]
  exact Nat.mod_eq_of_lt (by omega)

theorem statusNat_fields : bitsOf (statusNat foyer safe crc svc halted lock bp permit) 0 2 = permit ∧
    bitsOf (statusNat foyer safe crc svc halted lock bp permit) 16 8 = crc ∧ bitsOf (statusNat foyer safe crc svc halted lock bp permit) 13 3 = svc ∧
    bitsOf (statusNat foyer safe crc svc halted lock bp permit) 31 1 = foyer ∧ bitsOf (statusNat foyer safe crc svc halted lock bp permit) 30 1 = safe := by
  unfold bitsOf statusNat
  omega

theorem statusNat_halted (k : Nat) (hk : k < 9) : bitOf (statusNat foyer safe crc svc halted lock bp permit) (4 + k) = bitOf halted k := by
  have hdiv : statusNat foyer safe crc svc halted lock bp permit / 2 ^ 4 = 2 ^ 9 * (2 ^ 18 * foyer + 2 ^ 17 * safe + 8 * crc + svc) + halted := by
    unfold statusNat
    omega
  rw [bitOf, pow_add, ← Nat.div_div_eq_div_mul, hdiv, ← bitOf, bitOf_eq_testBit, Nat.testBit_two_pow_mul_add _ h4, if_pos hk, bitOf_eq_testBit]

end

/-! ### A halt (R214, R296, R598), stage by stage -/

/-- The halt's frozen units. -/
def State.haltFrozen (s : State) (t : Nat) : State := s.forEach (s.dbgUnits t) State.freezeUnit

/-- The halt, recorded. -/
def State.haltNoted (s : State) (t : Nat) (bp : Bool) : State := (s.haltFrozen t).modSv fun v =>
  { v with haltAt := v.haltAt.set t ((s.haltFrozen t).epoch + 1), haltUnits := v.haltUnits.set t (s.dbgUnits t), bpHit := bp }

/-- A loop pair that runs is paused. -/
def State.loopPaused (s : State) (t : Nat) : State :=
  if 2 ≤ t ∧ t < 8 ∧ (s.get (F.LP_STATUS_STATE (t - 2)) = 1 ∨ s.get (F.LP_STATUS_STATE (t - 2)) = 2 ∨ s.get (F.LP_STATUS_STATE (t - 2)) = 3) then
    { (s.put (F.LP_STATUS_STATE (t - 2)) 5) with loop := s.loop.modify (t - 2) fun l => { l with saved := s.get (F.LP_STATUS_STATE (t - 2)) } }
  else s

/-- HPA's watchdog is held. -/
def State.watchHeld (s : State) (t : Nat) : State := if t = 0 then { s with start := { s.start with wdHeld := some s.mono } } else s

theorem State.dbgHalt_eq {s : State} {t : Nat} (bp : Bool) (h : s.dbgHalted t = false) :
    s.dbgHalt t bp = (((s.haltNoted t bp).loopPaused t).watchHeld t).raise FS.DOCENT_HALT := if_neg (by simp [h])

theorem State.dbgUnits_nodup (s : State) (t : Nat) : (s.dbgUnits t).Nodup := by
  unfold State.dbgUnits
  split
  · exact List.nodup_range.filter _
  · split
    · exact maskIdx_nodup _ _
    · exact List.nodup_nil

theorem State.dbgUnits_bound {s : State} {t u : Nat} (h : u ∈ s.dbgUnits t) : u < 14 := by
  unfold State.dbgUnits at h
  split at h
  · exact List.mem_range.1 (List.mem_of_mem_filter h)
  · split at h
    · exact lt_of_mem_maskIdx h
    · cases h

theorem State.freezeUnit_other (s : State) (u k : Nat) (hk14 : k < 14) (hk : k ≠ u) :
    (s.freezeUnit u).pwmState k = s.pwmState k ∧ (s.freezeUnit u).pwm.get k = s.pwm.get k := by
  unfold State.freezeUnit
  split
  · exact ⟨State.get_put_other s _ _ _ (by simp; omega), SMap.get_set_ne _ _ _ _ hk⟩
  · exact ⟨rfl, rfl⟩

theorem State.freezeUnit_self (s : State) (u : Nat) (h : s.pwmState u = 1) :
    (s.freezeUnit u).pwmState u = 2 ∧ ((s.freezeUnit u).pwm.get u).frozenAt = s.epoch := by
  rw [State.freezeUnit, if_pos h]
  exact ⟨(State.get_put_same s _ _ (by simp)).trans (by simp), congrArg PwmUnit.frozenAt (SMap.get_set_same _ _ _)⟩

theorem State.haltFrozen_outside (s : State) (t : Nat) : KeepsOutside [zone (R.PWM_CTRL 0)] [.pwm] s (s.haltFrozen t) :=
  .forEach' (.refl _ _ _) fun u hu r => r.freezeUnit_outside' u (State.dbgUnits_bound hu)

theorem State.freezeUnit_epoch (s : State) (u : Nat) : (s.freezeUnit u).epoch = s.epoch := by
  unfold State.freezeUnit
  split <;> rfl

theorem State.haltFrozen_freezes (s : State) (t : Nat) {u : Nat} (hu : u ∈ s.dbgUnits t) (h : s.pwmState u = 1) :
    (s.haltFrozen t).pwmState u = 2 ∧ ((s.haltFrozen t).pwm.get u).frozenAt = s.epoch := by
  have hlt := State.dbgUnits_bound hu
  refine State.forEach_at (P := fun r => r.pwmState u = 1 ∧ r.epoch = s.epoch)
    (Q := fun r => r.pwmState u = 2 ∧ (r.pwm.get u).frozenAt = s.epoch) (s.dbgUnits_nodup t) hu ?_ ?_ ?_ s ⟨h, rfl⟩
  · intro k _ hne r hr
    exact ⟨(r.freezeUnit_other k u hlt hne.symm).1.trans hr.1, (r.freezeUnit_epoch k).trans hr.2⟩
  · intro r hr
    rw [← hr.2]
    exact r.freezeUnit_self u hr.1
  · intro k _ hne r hr
    obtain ⟨hst, hget⟩ := r.freezeUnit_other k u hlt hne.symm
    rw [hst, hget]
    exact hr

theorem State.haltFrozen_other (s : State) (t u : Nat) (hlt : u < 14) (hu : u ∉ s.dbgUnits t) : (s.haltFrozen t).pwmState u = s.pwmState u :=
  State.forEach_inv (P := fun r => r.pwmState u = s.pwmState u)
    (fun k hk r hr => (r.freezeUnit_other k u hlt (fun e => hu (e ▸ hk))).1.trans hr) s rfl

/-- The loop pairs' registers, up to the PWM units'. -/
abbrev loopRegs : Nat × Nat := (R.LP_CTRL 0, R.PWM_CTRL 0)

theorem KeepsOutside.loopRegs_zone {rs : List (Nat × Nat)} {ps : List Part} {s t : State} (h : KeepsOutside (loopRegs :: rs) ps s t) :
    KeepsOutside (zone (R.LP_CTRL 0) :: rs) ps s t := by
  refine ⟨fun a ha => h.1 a fun r hr => ?_, h.2⟩
  rcases List.mem_cons.1 hr with rfl | hr
  · have := ha _ List.mem_cons_self
    simp only [zone, loopRegs] at this ⊢
    simp at this ⊢
    omega
  · exact ha r (List.mem_cons_of_mem _ hr)

theorem State.loopPaused_outside (s : State) (t : Nat) : KeepsOutside [loopRegs] [.loop] s (s.loopPaused t) :=
  .cases' (fun h => .beside' (.put' (.refl _ _ s) (by have := h.2.1; simp; omega))) fun _ => .refl _ _ s

theorem State.watchHeld_outside (s : State) (t : Nat) : KeepsOutside [] [.start] s (s.watchHeld t) := .ite' (.beside' (.refl _ _ s)) (.refl _ _ s)

/-- From the frozen units on, a halt leaves the units. -/
theorem State.haltNoted_outside (s : State) (t : Nat) (bp : Bool) : KeepsOutside [zone (R.PWM_CTRL 0)] [.pwm, .sv] s (s.haltNoted t bp) :=
  .beside' (.after (s.haltFrozen_outside t) (.refl _ _ s))

theorem State.dbgHalt_stage {s : State} {t : Nat} (bp : Bool) (h : s.dbgHalted t = false) :
    KeepsOutside [loopRegs] [.loop, .start, .raised] (s.haltNoted t bp) (s.dbgHalt t bp) := by
  rw [State.dbgHalt_eq bp h]
  exact .raise' (.after (State.watchHeld_outside _ t) (.after (State.loopPaused_outside _ t) (.refl _ _ _)))

theorem State.dbgHalt_unit {s : State} {t : Nat} (bp : Bool) (h : s.dbgHalted t = false) (u : Nat) (hu : u < 14) :
    (s.dbgHalt t bp).pwmState u = (s.haltFrozen t).pwmState u ∧ (s.dbgHalt t bp).pwm.get u = (s.haltFrozen t).pwm.get u := by
  have hstage := State.dbgHalt_stage bp h
  exact ⟨hstage.get_eq (F.PWM_STATUS_STATE u) (by simp; omega), by rw [hstage.2 .pwm (by decide)]; rfl⟩

theorem State.dbgHalt_halts {s : State} {t : Nat} (bp : Bool) (h : s.dbgHalted t = false) : (s.dbgHalt t bp).dbgHalted t = true := by
  have hat : (s.haltNoted t bp).sv.haltAt.get t = (s.haltFrozen t).epoch + 1 := SMap.get_set_same _ _ _
  rw [State.dbgHalted, (State.dbgHalt_stage bp h).2 .sv (by decide), hat]
  simp

theorem State.loopPaused_pauses (s : State) (p : Nat) (hp : p < 6) (h1 : 1 ≤ s.lpState p) (h3 : s.lpState p ≤ 3) :
    (s.loopPaused (2 + p)).lpState p = 5 ∧ ((s.loopPaused (2 + p)).loop.get p).saved = s.lpState p := by
  have hidx : 2 + p - 2 = p := by omega
  have hst : s.lpState p = s.get (F.LP_STATUS_STATE p) := rfl
  have hc : 2 ≤ 2 + p ∧ 2 + p < 8 ∧ (s.get (F.LP_STATUS_STATE (2 + p - 2)) = 1 ∨ s.get (F.LP_STATUS_STATE (2 + p - 2)) = 2 ∨
      s.get (F.LP_STATUS_STATE (2 + p - 2)) = 3) := by rw [hidx]; omega
  rw [State.loopPaused, if_pos hc, hidx]
  exact ⟨(State.get_put_same s _ _ (by simp)).trans (by simp), congrArg LoopPair.saved (SMap.get_set_same _ _ _)⟩

theorem State.dbgHalt_pauses {s : State} (bp : Bool) (p : Nat) (hp : p < 6) (h : s.dbgHalted (2 + p) = false) (h1 : 1 ≤ s.lpState p)
    (h3 : s.lpState p ≤ 3) : (s.dbgHalt (2 + p) bp).lpState p = 5 ∧ ((s.dbgHalt (2 + p) bp).loop.get p).saved = s.lpState p := by
  have hsame : (s.haltNoted (2 + p) bp).lpState p = s.lpState p := (s.haltNoted_outside (2 + p) bp).get_eq _ (by simp; omega)
  have hpause := (s.haltNoted (2 + p) bp).loopPaused_pauses p hp (by omega) (by omega)
  have hwatch := ((s.haltNoted (2 + p) bp).loopPaused (2 + p)).watchHeld_outside (2 + p)
  rw [State.dbgHalt_eq bp h]
  refine ⟨(hwatch.get_eq _ (by simp)).trans hpause.1, ?_⟩
  have hloop := hwatch.2 .loop (by decide)
  rw [← hsame, ← hpause.2]
  exact congrArg (fun m : SMap LoopPair => (m.get p).saved) hloop

theorem State.dbgHalt_watch {s : State} (bp : Bool) (h : s.dbgHalted 0 = false) : (s.dbgHalt 0 bp).start.wdHeld = some s.mono := by
  have hnote := s.haltNoted_outside 0 bp
  have hpause := (s.haltNoted 0 bp).loopPaused_outside 0
  have hmono : ((s.haltNoted 0 bp).loopPaused 0).mono = s.mono :=
    (State.mono_congr (hpause.2 .epoch (by decide)) (hpause.2 .ep (by decide))).trans
      (State.mono_congr (hnote.2 .epoch (by decide)) (hnote.2 .ep (by decide)))
  rw [State.dbgHalt_eq bp h, ← hmono]
  rfl

theorem State.dbgHalt_raised {s : State} {t : Nat} (bp : Bool) (h : s.dbgHalted t = false) :
    (s.dbgHalt t bp).raised = s.raised ++ [⟨FS.DOCENT_HALT, 0⟩] := by
  have hwatch := ((s.haltNoted t bp).loopPaused t).watchHeld_outside t
  have hpause := (s.haltNoted t bp).loopPaused_outside t
  rw [State.dbgHalt_eq bp h, ← (s.haltNoted_outside t bp).2 .raised (by decide), ← hpause.2 .raised (by decide), ← hwatch.2 .raised (by decide)]
  rfl

theorem State.dbgHalt_frame {s : State} {t : Nat} (bp : Bool) (h : s.dbgHalted t = false) :
    KeepsOutside [zone (R.PWM_CTRL 0), zone (R.LP_CTRL 0)] [.raised, .pwm, .loop, .sv, .start] s (s.dbgHalt t bp) :=
  .after (State.dbgHalt_stage bp h).loopRegs_zone (.after (s.haltNoted_outside t bp) (.refl _ _ s))

/-! ### A resume (R214, R296, R598), stage by stage -/

theorem State.forEach_visit {ks : List Nat} {g : State → Nat → State} {P Q : State → Prop} {u : Nat} (hu : u ∈ ks)
    (hbefore : ∀ k ∈ ks, k ≠ u → ∀ t, P t → P (g t k)) (hself : ∀ t, P t → Q (g t u)) (hafter : ∀ k ∈ ks, ∀ t, Q t → Q (g t k)) :
    ∀ s, P s → Q (s.forEach ks g) := by
  induction ks with
  | nil => cases hu
  | cons k ks ih =>
    intro s hs
    by_cases hk : k = u
    · subst hk
      exact State.forEach_inv (fun j hj => hafter j (List.mem_cons_of_mem _ hj)) _ (hself s hs)
    · have htail : u ∈ ks := (List.mem_cons.1 hu).resolve_left (Ne.symm hk)
      exact ih htail (fun j hj => hbefore j (List.mem_cons_of_mem _ hj)) (fun j hj => hafter j (List.mem_cons_of_mem _ hj)) _
        (hbefore k List.mem_cons_self hk s hs)

theorem State.thawUnit_frame (s : State) (u : Nat) (hu : u < 14) : KeepsOutside [zone (R.PWM_CTRL 0)] [.shadow, .pwm] s (s.thawUnit u) := (.after (State.thawUnit_outside _ _ (by omega)) (.refl _ _ _))

theorem State.judgeCommit_sameRun (k : Nat) (s : State) (u a : Nat) : SameRun k s (s.judgeCommit u a) :=
  .modPwm' (.ite' (.refl _ _) (.set1' (.refl _ _))) fun _ => rfl

/-- Beside the unit's start a shift leaves every run. -/
theorem State.shiftUnit_sameRun (k : Nat) (s : State) (u d : Nat) :
    SameRun k (s.modPwm u fun p => { p with start := p.start + d }) (s.shiftUnit u d) := by
  have hrest (t : State) (g : Nat × HeldW → Bool) : SameRun k t (((t.setPwm u { t.pwm.get u with heldBack := (t.pwm.get u).heldBack.filter g }).enterHeld u).modPwm u
      fun q => { q with heldBack := (t.pwm.get u).heldBack.filter fun w => !g w }) :=
    .modPwm' (.after (State.enterHeld_sameRun ..) (.setPwm' (.refl _ _) fun _ => rfl)) fun _ => rfl
  unfold State.shiftUnit
  dsimp only
  split
  · exact .after (State.judgeCommit_sameRun ..) (hrest _ _)
  · exact hrest _ _

theorem State.thawUnit_of_running {s : State} {u : Nat} (h : s.pwmState u ≠ 2) : s.thawUnit u = s := if_neg h

theorem State.thawUnit_other (s : State) (u k : Nat) (hk14 : k < 14) (hk : k ≠ u) : SameRun k s (s.thawUnit u) :=
  .ite' (.after (State.shiftUnit_sameRun ..) (.modPwm' (.put' (.refl _ _)) fun h => absurd h hk)) (.refl _ _)

theorem State.thawUnit_self {s : State} {u : Nat} (h : s.pwmState u = 2) :
    (s.thawUnit u).pwmState u = 1 ∧ ((s.thawUnit u).pwm.get u).start = (s.pwm.get u).start + (s.epoch - (s.pwm.get u).frozenAt) := by
  have hrun := (s.put (F.PWM_STATUS_STATE u) 1).shiftUnit_sameRun u u (s.epoch - (s.pwm.get u).frozenAt)
  rw [State.thawUnit, if_pos h]
  refine ⟨hrun.1.trans ((State.get_put_same s _ _ (by simp)).trans (by simp)), hrun.start.trans ?_⟩
  exact congrArg PwmUnit.start (SMap.get_set_same _ _ _)

/-- The halt's record taken away. -/
def State.resumeNoted (s : State) (t : Nat) : State := s.modSv fun v => { v with haltAt := v.haltAt.set t 0, haltUnits := v.haltUnits.set t [] }

/-- The units that go on. -/
def State.resumeThawed (s : State) (t : Nat) : State :=
  (s.resumeNoted t).forEach (s.haltUnits t) fun s u => if s.dbgCovers u then s else s.thawUnit u

/-- The pair's pause ends, its deadline d later. -/
def State.loopResumed (s : State) (t d : Nat) : State :=
  { (s.put (F.LP_STATUS_STATE (t - 2)) (s.loop.get (t - 2)).saved) with
    loop := s.loop.set (t - 2) { s.loop.get (t - 2) with deadline := (s.loop.get (t - 2)).deadline + d } }

/-- The watchdog goes on. -/
def State.watchResumed (s : State) : State :=
  { s with start := { s.start with wdHeld := none, wdFrom := s.start.wdFrom + (s.mono - s.start.wdHeld.getD s.mono) } }

theorem State.dbgResume_eq {s : State} {t : Nat} (h : s.dbgHalted t = true) : s.dbgResume t =
    if t = 0 then (s.resumeThawed t).watchResumed
    else if 2 ≤ t ∧ t < 8 ∧ (s.resumeThawed t).get (F.LP_STATUS_STATE (t - 2)) = 5 then
      (s.resumeThawed t).loopResumed t (s.epoch - (s.sv.haltAt.get t - 1))
    else s.resumeThawed t := if_neg (by simpa [State.dbgHalted] using h)

theorem State.haltUnits_bound {s : State} {t u : Nat} (h : u ∈ s.haltUnits t) : u < 14 := by
  simpa using (List.mem_filter.1 h).2

theorem State.resumeThawed_outside (s : State) (t : Nat) : KeepsOutside [zone (R.PWM_CTRL 0)] [.shadow, .pwm] (s.resumeNoted t) (s.resumeThawed t) :=
  .forEach' (.refl _ _ _) fun u hu r => .ite' (.refl _ _ _) (r.thawUnit_frame u (State.haltUnits_bound hu))

theorem State.dbgCovers_congr {s t : State} (h : t.sv = s.sv) (u : Nat) : t.dbgCovers u = s.dbgCovers u := by
  simp only [State.dbgCovers, State.dbgHalted, h]

/-- A unit is covered after the record is taken away where another halt that stands covers it. -/
theorem State.resumeNoted_covers (s : State) (t u : Nat) :
    (s.resumeNoted t).dbgCovers u = true ↔ ∃ j : Fin 9, j.val ≠ t ∧ s.dbgHalted j = true ∧ u ∈ s.sv.haltUnits.get j := by
  have hget (j : Nat) (hj : j ≠ t) : (s.resumeNoted t).sv.haltAt.get j = s.sv.haltAt.get j ∧ (s.resumeNoted t).sv.haltUnits.get j = s.sv.haltUnits.get j :=
    ⟨SMap.get_set_ne _ _ _ _ hj, SMap.get_set_ne _ _ _ _ hj⟩
  have hself : (s.resumeNoted t).dbgHalted t = false := by
    have : (s.resumeNoted t).sv.haltAt.get t = 0 := SMap.get_set_same _ _ _
    simp [State.dbgHalted, this]
  simp only [State.dbgCovers, List.any_eq_true, List.mem_range, Bool.and_eq_true, List.contains_iff_mem]
  constructor
  · rintro ⟨j, hj, hhalt, hmem⟩
    have hne : j ≠ t := fun e => by rw [e, hself] at hhalt; cases hhalt
    exact ⟨⟨j, hj⟩, hne, by simpa [State.dbgHalted, (hget j hne).1] using hhalt, by simpa [(hget j hne).2] using hmem⟩
  · rintro ⟨j, hne, hhalt, hmem⟩
    exact ⟨j, j.isLt, by simpa [State.dbgHalted, (hget j hne).1] using hhalt, by simpa [(hget j hne).2] using hmem⟩

theorem State.resumeThawed_same (s : State) (t u : Nat) (hlt : u < 14) (h : u ∉ s.haltUnits t ∨ (s.resumeNoted t).dbgCovers u = true) :
    (s.resumeThawed t).pwmState u = s.pwmState u := by
  refine (State.forEach_inv (P := fun r => r.pwmState u = s.pwmState u ∧ r.sv = (s.resumeNoted t).sv) (fun k hk r hr => ?_)
    (s.resumeNoted t) ⟨rfl, rfl⟩).1
  have hcov := State.dbgCovers_congr hr.2 k
  split
  next => exact hr
  next hnc =>
    refine ⟨?_, ((r.thawUnit_frame k (State.haltUnits_bound hk)).2 .sv (by decide)).trans hr.2⟩
    have hne : u ≠ k := by
      rintro rfl
      rcases h with h | h
      · exact h hk
      · exact hnc (hcov.trans h)
    exact (r.thawUnit_other k u hlt hne).1.trans hr.1

/-- A thaw leaves the counters of the other units. -/
theorem State.thawUnit_pwm_other (s : State) (k u : Nat) (h : u ≠ k) : (s.thawUnit k).pwm.get u = s.pwm.get u := by
  have hset (t : State) (p : PwmUnit) : (t.setPwm k p).pwm.get u = t.pwm.get u := t.setPwm_get_other k u p h
  have hheld (t : State) : (t.enterHeld k).pwm.get u = t.pwm.get u := by
    refine (hset _ _).trans ?_
    rw [(t.toShadows_keeps (t.pwm.get k).heldBack).2 .pwm (by decide)]
  have hjudge (t : State) (a : Nat) : (t.judgeCommit k a).pwm.get u = t.pwm.get u := by
    refine (hset _ _).trans ?_
    split <;> rfl
  unfold State.thawUnit
  split
  · unfold State.shiftUnit
    dsimp only
    split
    · rw [hjudge, State.modPwm_get_other _ _ _ _ h, hheld, hset, State.modPwm_get_other _ _ _ _ h]
      rfl
    · rw [State.modPwm_get_other _ _ _ _ h, hheld, hset, State.modPwm_get_other _ _ _ _ h]
      rfl
  · rfl

theorem State.resumeThawed_thaws (s : State) (t u : Nat) (hu : u ∈ s.haltUnits t) (hcov : (s.resumeNoted t).dbgCovers u = false) (h2 : s.pwmState u = 2) :
    (s.resumeThawed t).pwmState u = 1 ∧
      ((s.resumeThawed t).pwm.get u).start = (s.pwm.get u).start + (s.epoch - (s.pwm.get u).frozenAt) := by
  have hlt := State.haltUnits_bound hu
  refine (State.forEach_visit (P := fun r => r.pwmState u = 2 ∧ r.pwm.get u = s.pwm.get u ∧ r.epoch = s.epoch ∧ r.sv = (s.resumeNoted t).sv)
    (Q := fun r => (r.pwmState u = 1 ∧ (r.pwm.get u).start = (s.pwm.get u).start + (s.epoch - (s.pwm.get u).frozenAt)) ∧ r.sv = (s.resumeNoted t).sv)
    hu ?_ ?_ ?_ (s.resumeNoted t) ⟨h2, rfl, rfl, rfl⟩).1
  · rintro k hk hne r ⟨hst, hget, hepoch, hsv⟩
    have hframe := r.thawUnit_frame k (State.haltUnits_bound hk)
    split
    next => exact ⟨hst, hget, hepoch, hsv⟩
    next => exact ⟨(r.thawUnit_other k u hlt hne.symm).1.trans hst, (r.thawUnit_pwm_other k u hne.symm).trans hget,
      (hframe.2 .epoch (by decide)).trans hepoch, (hframe.2 .sv (by decide)).trans hsv⟩
  · rintro r ⟨hst, hget, hepoch, hsv⟩
    rw [if_neg (by rw [State.dbgCovers_congr hsv, hcov]; simp)]
    obtain ⟨hrun, hstart⟩ := State.thawUnit_self hst
    exact ⟨⟨hrun, by rw [hstart, hget, hepoch]⟩, ((r.thawUnit_frame u hlt).2 .sv (by decide)).trans hsv⟩
  · rintro k hk r ⟨⟨hst, hstart⟩, hsv⟩
    split
    next => exact ⟨⟨hst, hstart⟩, hsv⟩
    next =>
      refine ⟨?_, ((r.thawUnit_frame k (State.haltUnits_bound hk)).2 .sv (by decide)).trans hsv⟩
      by_cases hne : u = k
      · rw [← hne, State.thawUnit_of_running (by omega)]
        exact ⟨hst, hstart⟩
      · exact ⟨(r.thawUnit_other k u hlt hne).1.trans hst, (r.thawUnit_other k u hlt hne).start.trans hstart⟩

/-- From the thawed units on, a resume reaches the pair's pause or the watchdog. -/
theorem State.dbgResume_stage {s : State} {t : Nat} (h : s.dbgHalted t = true) :
    KeepsOutside [loopRegs] [.loop, .start] (s.resumeThawed t) (s.dbgResume t) := by
  rw [State.dbgResume_eq h]
  exact .ite' (.beside' (.refl _ _ _)) (.cases' (fun h => .beside' (.put' (.refl _ _ _) (by have := h.2.1; simp; omega))) fun _ => .refl _ _ _)

theorem State.dbgResume_frame {s : State} {t : Nat} (h : s.dbgHalted t = true) :
    KeepsOutside [zone (R.PWM_CTRL 0), zone (R.LP_CTRL 0)] [.shadow, .pwm, .loop, .sv, .start] s (s.dbgResume t) :=
  .after (State.dbgResume_stage h).loopRegs_zone (.after (s.resumeThawed_outside t) (.beside' (.refl _ _ s)))

theorem State.dbgResume_unit {s : State} {t : Nat} (h : s.dbgHalted t = true) (u : Nat) (hu : u < 14) :
    (s.dbgResume t).pwmState u = (s.resumeThawed t).pwmState u ∧ (s.dbgResume t).pwm.get u = (s.resumeThawed t).pwm.get u := by
  have hstage := State.dbgResume_stage h
  exact ⟨hstage.get_eq (F.PWM_STATUS_STATE u) (by simp; omega), by rw [hstage.2 .pwm (by decide)]⟩

theorem State.dbgResume_released {s : State} {t : Nat} (h : s.dbgHalted t = true) : (s.dbgResume t).dbgHalted t = false := by
  have hat : (s.resumeNoted t).sv.haltAt.get t = 0 := SMap.get_set_same _ _ _
  rw [State.dbgHalted, (State.dbgResume_stage h).2 .sv (by decide), (s.resumeThawed_outside t).2 .sv (by decide), hat]
  rfl

theorem State.dbgResume_watch {s : State} (h : s.dbgHalted 0 = true) : (s.dbgResume 0).start.wdHeld = none ∧
    ∀ a, s.start.wdHeld = some a → (s.dbgResume 0).start.wdFrom = s.start.wdFrom + (s.mono - a) := by
  have hthaw := s.resumeThawed_outside 0
  have hstart : (s.resumeThawed 0).start = s.start := hthaw.2 .start (by decide)
  have hmono : (s.resumeThawed 0).mono = s.mono := State.mono_congr (hthaw.2 .epoch (by decide)) (hthaw.2 .ep (by decide))
  rw [State.dbgResume_eq h, if_pos rfl]
  refine ⟨rfl, fun a ha => ?_⟩
  simp only [State.watchResumed, hstart, hmono, ha, Option.getD_some]

theorem State.dbgResume_loop {s : State} {p : Nat} (hp : p < 6) (h : s.dbgHalted (2 + p) = true) (h5 : s.lpState p = 5) (hsaved : (s.loop.get p).saved < 8) :
    (s.dbgResume (2 + p)).lpState p = (s.loop.get p).saved ∧
      ((s.dbgResume (2 + p)).loop.get p).deadline = (s.loop.get p).deadline + (s.epoch - (s.sv.haltAt.get (2 + p) - 1)) := by
  have hidx : 2 + p - 2 = p := by omega
  have hthaw := s.resumeThawed_outside (2 + p)
  have hst : (s.resumeThawed (2 + p)).get (F.LP_STATUS_STATE p) = 5 := (hthaw.get_eq _ (by simp; omega)).trans h5
  have hloop : (s.resumeThawed (2 + p)).loop = s.loop := hthaw.2 .loop (by decide)
  rw [State.dbgResume_eq h, if_neg (by omega), if_pos ⟨by omega, by omega, by rw [hidx]; exact hst⟩, State.loopResumed, hidx, hloop]
  exact ⟨(State.get_put_same _ _ _ (by simp)).trans (Nat.mod_eq_of_lt hsaved), congrArg LoopPair.deadline (SMap.get_set_same _ _ _)⟩

end Sys2Proof.Machine
end

section
/-!
Proofs about the debug link (chapter 18).
The proofs are elaborated in turn: in one text, proofs that wait for each other would each hold a thread.
-/

set_option Elab.async false

namespace Sys2Proof.Machine

theorem regionOf_sram_bounds {a : Nat} (h : regionOf a = .sram) : ¬ (0x10000000 ≤ a ∧ a < 0x11000000) := by
  rintro ⟨hlo, hhi⟩
  have h1 : ¬ a < 0x20000 := by omega
  simp only [regionOf, h1, hlo, hhi, and_self, if_true, if_false] at h
  split at h <;> cases h

/-- A word of memory, as Docent reads it. -/
theorem State.wordAt_memory {s : State} {a : Nat} (hreads : s.docReads a = true) (hreg : regionOf a ≠ .reg) (hecc : s.eccBad a = false)
    (hwork : ∀ p, regionOf a = .tcm p → s.workUndef p a = false) : s.wordAt a = (s, s.rdW a) := by
  unfold State.docReads at hreads
  unfold State.wordAt
  cases hr : regionOf a <;> simp_all

theorem State.docRead_reads {s : State} {addr : Nat} (hp : 1 ≤ s.get F.SV_INFO_PERMIT) (hreads : s.docReads (addr / 4 * 4) = true) :
    s.docRead addr = ((s.wordAt (addr / 4 * 4)).1, 1, (s.wordAt (addr / 4 * 4)).2) := by
  unfold State.docRead
  rw [State.docNeed_met hp, if_pos hreads]

theorem State.docRead_faults {s : State} {addr : Nat} (hp : 1 ≤ s.get F.SV_INFO_PERMIT) (hreads : s.docReads (addr / 4 * 4) = false) :
    s.docRead addr = (s, 4, 0#32) := by
  unfold State.docRead
  rw [State.docNeed_met hp, if_neg (by simp [hreads])]
  rfl

theorem State.docRead_denied {s : State} {addr : Nat} (hp : s.get F.SV_INFO_PERMIT = 0) : s.docRead addr = (s, 6, 0#32) := by
  unfold State.docRead
  rw [State.docNeed_unmet (by omega)]

theorem State.docWrite_writes {s : State} {addr : Nat} {v : Word} (hp : 2 ≤ s.get F.SV_INFO_PERMIT)
    (hgo : (s.docReads (addr / 4 * 4) && !docReserved (addr / 4 * 4)) = true) :
    s.docWrite addr v = (s.wordPut .hspi (addr / 4 * 4) v, if s.refuses .hspi (addr / 4 * 4) v then 4 else 1, 0#32) := by
  unfold State.docWrite
  rw [State.docNeed_met hp, if_pos hgo]

theorem State.docWrite_faults {s : State} {addr : Nat} {v : Word} (hp : 2 ≤ s.get F.SV_INFO_PERMIT)
    (hres : (s.docReads (addr / 4 * 4) && !docReserved (addr / 4 * 4)) = false) : s.docWrite addr v = (s, 4, 0#32) := by
  unfold State.docWrite
  rw [State.docNeed_met hp, if_neg (by simp [hres])]
  rfl

theorem State.docWrite_denied {s : State} {addr : Nat} {v : Word} (hp : s.get F.SV_INFO_PERMIT < 2) : s.docWrite addr v = (s, 6, 0#32) := by
  unfold State.docWrite
  rw [State.docNeed_unmet hp]

/-! ### A write that no flag refuses (R597) -/

theorem testBit_bitsPut_zero (n lo len i : Nat) :
    (bitsPut n lo len 0).testBit i = (n.testBit i && !(decide (lo ≤ i) && decide (i < lo + len))) := by
  have hlow : n % 2 ^ lo < 2 ^ (lo + len) :=
    (Nat.mod_lt _ (Nat.two_pow_pos _)).trans_le (Nat.pow_le_pow_right (by decide) (Nat.le_add_right lo len))
  have hsplit : bitsPut n lo len 0 = 2 ^ (lo + len) * (n / 2 ^ (lo + len)) + n % 2 ^ lo := by simp [bitsPut, Nat.add_comm]
  rw [hsplit, Nat.testBit_two_pow_mul_add _ hlow]
  by_cases hhi : i < lo + len
  · rw [if_pos hhi, Nat.testBit_mod_two_pow]
    by_cases hlo : i < lo
    · simp [hlo]
    · simp [hlo, hhi]
      omega
  · rw [if_neg hhi, ← Nat.shiftRight_eq_div_pow, Nat.testBit_shiftRight, Nat.add_sub_cancel' (by omega)]
    simp [hhi]

theorem State.get_eq_zero_iff (s : State) (f : Fld) : s.get f = 0 ↔ ∀ k < f.len, (s.rd f.addr).toNat.testBit (f.lo + k) = false := by
  constructor
  · intro h k hk
    have hbit := testBit_bitsOf (s.rd f.addr).toNat f.lo f.len k
    rw [show bitsOf (s.rd f.addr).toNat f.lo f.len = 0 from h, Nat.zero_testBit] at hbit
    simpa [hk] using hbit.symm
  · intro h
    refine Nat.eq_of_testBit_eq fun k => ?_
    rw [State.get, testBit_bitsOf, Nat.zero_testBit]
    by_cases hk : k < f.len
    · simp [h k hk]
    · simp [hk]

/-- A bit cleared stays cleared. -/
theorem State.rd_put_zero (s : State) (f : Fld) (a i : Nat) (hi : i < 32) : ((s.put f 0).rd a).toNat.testBit i =
    ((s.rd a).toNat.testBit i && !(a == f.addr && decide (f.lo ≤ i) && decide (i < f.lo + f.len))) := by
  by_cases ha : a = f.addr
  · subst ha
    rw [State.put, State.rd_wr_same, w32, BitVec.toNat_ofNat, Nat.testBit_mod_two_pow, testBit_bitsPut_zero]
    simp [hi]
  · rw [State.rd_put_other _ _ _ _ ha]
    simp [ha]

theorem State.get_put_zero (s : State) (f g : Fld) (hg : g.lo + g.len ≤ 32) (h : s.get g = 0 ∨ f = g) : (s.put f 0).get g = 0 := by
  rw [State.get_eq_zero_iff]
  intro k hk
  rw [s.rd_put_zero f g.addr _ (by omega)]
  rcases h with h | rfl
  · rw [(s.get_eq_zero_iff g).1 h k hk, Bool.false_and]
  · simp [hk]

theorem State.clearAll_get {g : Fld} (hg : g.lo + g.len ≤ 32) : ∀ (l : List Fld) (s : State), (s.get g = 0 ∨ g ∈ l) →
    (l.foldl (fun (s : State) f => s.put f 0) s).get g = 0
  | [], s, h => h.resolve_right (List.not_mem_nil)
  | f :: l, s, h => by
    refine State.clearAll_get hg l _ ?_
    rcases h with h | h
    · exact .inl (s.get_put_zero f g hg (.inl h))
    · rcases List.mem_cons.1 h with rfl | h
      · exact .inl (s.get_put_zero g g hg (.inr rfl))
      · exact .inr h

theorem rejectFlds_bound : ∀ f ∈ rejectFlds, f.lo + f.len ≤ 32 := by decide

theorem State.get_wrW (s : State) (a : Nat) (v : Word) (f : Fld) : (s.wrW a v).get f = s.get f := rfl

/-- A write to memory sets no refusal flag. -/
theorem State.refuses_sram (s : State) {a : Nat} (v : Word) (hreg : regionOf a = .sram) : s.refuses .hspi a v = false := by
  have hput : (s.rejectsClr).wordPut .hspi a v = (s.rejectsClr).wrW a v := by simp only [State.wordPut, hreg]
  rw [State.refuses, hput, State.rejected, List.any_eq_false]
  intro f hf
  rw [State.get_wrW, State.rejectsClr, State.clearAll_get (rejectFlds_bound f hf) rejectFlds s (.inr hf)]
  decide

theorem State.docHalted_met {s : State} {q : Fin 2} {k : State → DocAns} (hp : 2 ≤ s.get F.SV_INFO_PERMIT) (hhalt : s.dbgHalted q = true)
    (hpd : s.pdOn (2 + q) = true) : s.docHalted (q.castLE (by decide) : Fin 16) k = k s := by
  have h8 : ¬ 8 < q.val := by omega
  have h2 : q.val < 2 := q.isLt
  refine (if_neg h8).trans ((State.docNeed_met hp).trans (if_pos ?_))
  simp only [Fin.val_castLE, h2, hhalt, hpd, decide_true, Bool.and_self]

theorem State.docHalted_running {s : State} {q : Fin 2} {k : State → DocAns} (hp : 2 ≤ s.get F.SV_INFO_PERMIT) (hhalt : s.dbgHalted q = false) :
    s.docHalted (q.castLE (by decide) : Fin 16) k = (s, 4, 0#32) := by
  have h8 : ¬ 8 < q.val := by omega
  refine (if_neg h8).trans ((State.docNeed_met hp).trans (if_neg ?_))
  simp [hhalt]

theorem State.docBp_met {s : State} {q : Fin 2} {data : Nat} {k : State → State} (hp : 2 ≤ s.get F.SV_INFO_PERMIT) (hdata : data < 4) :
    s.docBp (q.castLE (by decide) : Fin 16) data k = (k s, 1, 0#32) := by
  have h8 : ¬ (8 < q.val ∨ 4 ≤ data) := by omega
  exact (if_neg h8).trans ((State.docNeed_met hp).trans (if_pos q.isLt))

theorem satTo_lt (len n : Nat) : satTo len n < 2 ^ len := by
  have := Nat.two_pow_pos len
  unfold satTo
  omega

theorem bitOf_eq_bitsOf (n k : Nat) : bitOf n k = (bitsOf n k 1 == 1) := by rw [bitOf, bitsOf, pow_one]

theorem b2n_beq_one (b : Bool) : (b2n b == 1) = b := by cases b <;> rfl

/-- Settles O46: each request's answer by its permit, then what the request does. -/
theorem debugLink : Obligations.DebugLink := by
  intro s hpads hpd
  have hnew {op addr data : Nat} {k : State → DocAns} {u : State} {ack : Nat} {w : Word} (hheld : s.sv.held = none) (hans : k s = (u, ack, w)) :
      s.docReq op addr data false k = u.docSay ack w := by
    rw [State.docReq_new hpads hpd hheld, hans]
  refine ⟨fun hheld => ⟨?_, ?_, fun addr hp hreads hreg hecc hwork => ?_, fun addr hp hreads hreg => ?_, fun addr hp hreg hecc => ?_,
    fun addr hp hreads => ?_, fun addr w hp => ?_, fun addr v hp hreg => ?_, fun addr v hp hres => ?_, fun addr v w hp => ?_,
    fun k hk hp hon hrun hsp => ?_, fun k hk => ?_, fun k hk hp hhalt => ?_, fun k hk hp => ⟨?_, ?_⟩,
    fun q hp hhalt hon => ⟨?_, fun n hn => ?_, ?_, fun n v hn => ?_, fun v => ?_⟩, fun q hp hrun n v => ⟨?_, ?_, ?_⟩,
    fun q addr data hp hdata => ⟨?_, ?_⟩, fun addr hp hreads hreg hecc hwork => ?_⟩, fun addr w x hheld => ?_⟩
  · have hb (b : Bool) : b2n b < 2 := by cases b <;> decide
    have hc : satTo 8 s.sv.crcErr < 256 := satTo_lt 8 _
    have he : satTo 3 s.sv.svcErr < 8 := satTo_lt 3 _
    have hp := s.get_lt F.SV_INFO_PERMIT
    have hfields := statusNat_fields (hb s.inFoyer) (hb (s.flag F.CUR_STATUS_SAFE)) hc he (maskOf_lt 9 s.dbgHalted) (hb s.sv.debugLock) (hb s.sv.bpHit) hp
    have hhalted := statusNat_halted (hb s.inFoyer) (hb (s.flag F.CUR_STATUS_SAFE)) hc he (maskOf_lt 9 s.dbgHalted) (hb s.sv.debugLock) (hb s.sv.bpHit) hp
    have hword := statusNat_word (hb s.inFoyer) (hb (s.flag F.CUR_STATUS_SAFE)) hc he (maskOf_lt 9 s.dbgHalted) (hb s.sv.debugLock) (hb s.sv.bpHit) hp
    obtain ⟨hpermit, hcrc, hsvc, hfoyer, hsafe⟩ := hfields
    have hval : s.docStatus.toNat = statusNat (b2n s.inFoyer) (b2n (s.flag F.CUR_STATUS_SAFE)) (satTo 8 s.sv.crcErr) (satTo 3 s.sv.svcErr)
        (maskOf 9 s.dbgHalted) (b2n s.sv.debugLock) (b2n s.sv.bpHit) (s.get F.SV_INFO_PERMIT) := hword
    refine ⟨_, s.docStatus, congrArg Host.Outcome.next (hnew hheld rfl), rfl, rfl, ?_, ?_, ?_, fun k => ?_, ?_, ?_, s.docSay_keeps _ _⟩
    · rw [hval, hpermit]
    · rw [hval, bitOf_eq_bitsOf, hfoyer, b2n_beq_one]
    · rw [hval, bitOf_eq_bitsOf, hsafe, b2n_beq_one]
    · rw [hval, hhalted k k.isLt, bitOf_maskOf 9 k _ k.isLt]
    · rw [hval, hcrc]
      rfl
    · rw [hval, hsvc]
      rfl
  · exact ⟨_, congrArg Host.Outcome.next (hnew hheld rfl), rfl, rfl, s.docSay_keeps _ _⟩
  · have hans := (State.docRead_reads hp hreads).trans (by rw [State.wordAt_memory hreads hreg hecc hwork])
    exact ⟨_, congrArg Host.Outcome.next (hnew hheld hans), rfl, rfl, s.docSay_keeps _ _⟩
  · have hans : s.docRead addr.toNat = ((s.regRead (addr.toNat / 4 * 4)).1, 1, (s.regRead (addr.toNat / 4 * 4)).2) := by
      rw [State.docRead_reads hp hreads, State.wordAt, hreg]
    exact ⟨_, congrArg Host.Outcome.next (hnew hheld hans), rfl, rfl, .beside' (.after (s.regRead_frame _) (.refl _ _ s))⟩
  · have hreads : s.docReads (addr.toNat / 4 * 4) = true := by simp [State.docReads, State.powered, hreg]
    have hmram : (decide (0x10000000 ≤ addr.toNat / 4 * 4) && decide (addr.toNat / 4 * 4 < 0x11000000)) = false := by
      simpa using regionOf_sram_bounds hreg
    have hans : s.docRead addr.toNat = (s.eccRaise false (addr.toNat / 4 * 4), 1, 0#32) := by
      rw [State.docRead_reads hp hreads, State.wordAt, hreg]
      simp only [hecc, if_true, State.eccFound, hmram]
    exact ⟨(s.eccRaise false (addr.toNat / 4 * 4)).docSay 1 0#32, congrArg Host.Outcome.next (hnew hheld hans), rfl, rfl,
      by simp [State.docSay, State.eccRaise], rfl, .beside' (.wr' (.raise' (.set1' (.refl _ _ s))))⟩
  · have hans := State.docRead_faults hp hreads
    exact ⟨_, congrArg Host.Outcome.next (hnew hheld hans), rfl, s.docSay_keeps _ _⟩
  · exact ⟨_, congrArg Host.Outcome.next (State.docReq_denied hpads hpd hheld _ _ _ _ _ (State.docRead_denied hp)), rfl, s.docSay_keeps _ _⟩
  · have ha : addr.toNat / 4 * 4 % 4 = 0 := by omega
    have hgo : (s.docReads (addr.toNat / 4 * 4) && !docReserved (addr.toNat / 4 * 4)) = true := by
      simp [State.docReads, State.powered, docReserved, hreg]
    have hans : s.docWrite addr.toNat v = (s.wrW (addr.toNat / 4 * 4) v, 1, 0#32) := by
      rw [State.docWrite_writes hp hgo, s.refuses_sram v hreg, State.wordPut, hreg]
      rfl
    exact ⟨_, congrArg Host.Outcome.next (hnew hheld hans), rfl, s.rdW_wrW _ v ha, fun b hb => s.rdB_wrW_other _ b v ha hb,
      .beside' (.wrW' (.refl _ _ s))⟩
  · have hans := State.docWrite_faults (v := v) hp hres
    exact ⟨_, congrArg Host.Outcome.next (hnew hheld hans), rfl, s.docSay_keeps _ _⟩
  · exact ⟨_, congrArg Host.Outcome.next (State.docReq_denied hpads hpd hheld _ _ _ _ _ (State.docWrite_denied hp)), rfl, s.docSay_keeps _ _⟩
  · have hans : s.docHalt k = (s.dbgHalt k false, 1, 0#32) := by
      refine (State.docNeed_met hp).trans (if_neg ?_)
      by_cases h8 : k.val = 8
      · obtain ⟨hmeter, harc⟩ := hsp (Fin.ext h8)
        have harcs : (List.range 4).any s.arcOn = false := List.any_eq_false.2 fun x hx => by
          simp [harc ⟨x, List.mem_range.1 hx⟩]
        simp [hon, hmeter, harcs]
      · simp [hon, h8]
    have hframe := State.dbgHalt_frame false hrun
    refine ⟨(s.dbgHalt k false).docSay 1 0#32, congrArg Host.Outcome.next (hnew hheld ((if_neg (by omega)).trans hans)), rfl,
      State.dbgHalt_halts false hrun, State.dbgHalt_raised false hrun, fun u hu h1 => ?_, fun u hu => ?_, fun p hkp h1 h3 => ?_, fun h0 => ?_,
      .beside' (hframe.mono (List.Subset.refl _) (by decide))⟩
    · obtain ⟨hst, hget⟩ := State.dbgHalt_unit false hrun u (State.dbgUnits_bound hu)
      obtain ⟨h2, hat⟩ := s.haltFrozen_freezes k hu h1
      exact ⟨hst.trans h2, (congrArg PwmUnit.frozenAt hget).trans hat⟩
    · exact (State.dbgHalt_unit false hrun u u.isLt).1.trans (s.haltFrozen_other k u u.isLt hu)
    · rw [hkp] at hrun ⊢
      exact State.dbgHalt_pauses false p p.isLt hrun h1 h3
    · have h0' : k.val = 0 := by rw [h0]; rfl
      rw [h0'] at hrun ⊢
      exact State.dbgHalt_watch false hrun
  · exact ⟨_, congrArg Host.Outcome.next (hnew hheld (if_pos hk)), rfl, s.docSay_keeps _ _⟩
  · have hans : (if 8 < k.val then docFault s else s.docNeed 2 fun s => (s.dbgResume k, 1, 0#32)) = (s.dbgResume k, 1, 0#32) :=
      (if_neg (by omega)).trans (State.docNeed_met hp)
    have hcovers (u : Nat) := s.resumeNoted_covers k u
    refine ⟨(s.dbgResume k).docSay 1 0#32, congrArg Host.Outcome.next (hnew hheld hans), rfl, State.dbgResume_released hhalt, fun u hu hnc h2 => ?_,
      fun h0 => ?_, fun u hu => ?_, fun p hkp h5 hsaved => ?_, .beside' ((State.dbgResume_frame hhalt).mono (List.Subset.refl _) (by decide))⟩
    · have hcov : (s.resumeNoted k).dbgCovers u = false := by
        rw [← Bool.not_eq_true, hcovers]
        rintro ⟨j, hj, hjh, hmem⟩
        exact hnc j hj hjh hmem
      obtain ⟨hst, hget⟩ := State.dbgResume_unit hhalt u u.isLt
      obtain ⟨hrun, hstart⟩ := s.resumeThawed_thaws k u hu hcov h2
      exact ⟨hst.trans hrun, (congrArg PwmUnit.start hget).trans hstart⟩
    · have h0' : k.val = 0 := by rw [h0]; rfl
      rw [h0'] at hhalt ⊢
      exact State.dbgResume_watch hhalt
    · exact (State.dbgResume_unit hhalt u u.isLt).1.trans (s.resumeThawed_same k u u.isLt (hu.imp_right (hcovers u).2))
    · rw [hkp] at hhalt ⊢
      exact State.dbgResume_loop p.isLt hhalt h5 hsaved
  · exact ⟨_, congrArg Host.Outcome.next (State.docReq_denied hpads hpd hheld _ _ _ _ _ ((if_neg (by omega)).trans (State.docNeed_unmet hp))), rfl,
      s.docSay_keeps _ _⟩
  · exact ⟨_, congrArg Host.Outcome.next (State.docReq_denied hpads hpd hheld _ _ _ _ _ ((if_neg (by omega)).trans (State.docNeed_unmet hp))), rfl,
      s.docSay_keeps _ _⟩
  · exact ⟨_, _, congrArg Host.Outcome.next (hnew hheld (State.docHalted_met hp hhalt hon)), rfl, rfl⟩
  · have hreg : s.docReg q n.toNat = some (if n.toNat < 32 then s.xr q n.toNat else s.fr q (n.toNat - 32)) := by
      unfold State.docReg
      split
      · rfl
      · rfl
    have hans := (State.docHalted_met (k := fun s => match s.docReg q n.toNat with
      | some v => (s, 1, v)
      | none => docFault s) hp hhalt hon).trans (by rw [hreg])
    exact ⟨_, congrArg Host.Outcome.next (hnew hheld hans), rfl, rfl, s.docSay_keeps _ _⟩
  · exact ⟨_, congrArg Host.Outcome.next (hnew hheld (State.docHalted_met hp hhalt hon)), rfl, rfl, s.docSay_keeps _ _⟩
  · have hput : s.docRegPut q n.toNat v = (s.setX q n.toNat v, 1, 0#32) := if_pos hn
    have hans := (State.docHalted_met (k := fun s => s.docRegPut q n.toNat v) hp hhalt hon).trans hput
    refine ⟨(s.setX q n.toNat v).docSay 1 0#32, congrArg Host.Outcome.next (hnew hheld hans), rfl, ?_, fun r hr => s.xr_setX_other q n.toNat r v hr,
      s.pc_setX q n.toNat v, .beside' (.ite' (.refl _ _ s) (.beside' (.refl _ _ s)))⟩
    by_cases h0 : n = 0#32
    · rw [if_pos h0, h0]
      rfl
    · have hne : n.toNat ≠ 0 := fun e => h0 (BitVec.eq_of_toNat_eq e)
      exact (s.xr_setX_same q n.toNat v hne).trans (if_neg h0).symm
  · have hput : s.docRegPut q 64 v = (s.setPc q (v.toNat / 2 * 2), 1, 0#32) := rfl
    have hans := (State.docHalted_met (k := fun s => s.docRegPut q 64 v) hp hhalt hon).trans hput
    have hlt := v.isLt
    refine ⟨(s.setPc q (v.toNat / 2 * 2)).docSay 1 0#32, congrArg Host.Outcome.next (hnew hheld hans), rfl, ?_, fun r => s.xr_setPc q r _,
      .beside' (.beside' (.refl _ _ s))⟩
    exact (s.pc_setPc q _).trans (Nat.mod_eq_of_lt (by omega))
  · exact ⟨_, congrArg Host.Outcome.next (hnew hheld (State.docHalted_running hp hrun)), rfl, s.docSay_keeps _ _⟩
  · exact ⟨_, congrArg Host.Outcome.next (hnew hheld (State.docHalted_running hp hrun)), rfl, s.docSay_keeps _ _⟩
  · exact ⟨_, congrArg Host.Outcome.next (hnew hheld (State.docHalted_running hp hrun)), rfl, s.docSay_keeps _ _⟩
  · have hbp := congrArg Hok.bp (s.hok_modHok_same q fun h => { h with bp := h.bp.set data.toNat (addr.toNat + 1) })
    refine ⟨_, congrArg Host.Outcome.next (hnew hheld (State.docBp_met hp hdata)), rfl, ?_, fun k hk => ?_, .beside' (.beside' (.refl _ _ s))⟩
    · exact (congrArg (SMap.get · data.toNat) hbp).trans (SMap.get_set_same _ _ _)
    · exact (congrArg (SMap.get · k) hbp).trans (SMap.get_set_ne _ _ _ _ hk)
  · have hbp := congrArg Hok.bp (s.hok_modHok_same q fun h => { h with bp := h.bp.set data.toNat 0 })
    refine ⟨_, congrArg Host.Outcome.next (hnew hheld (State.docBp_met hp hdata)), rfl, ?_, fun k hk => ?_, .beside' (.beside' (.refl _ _ s))⟩
    · exact (congrArg (SMap.get · data.toNat) hbp).trans (SMap.get_set_same _ _ _)
    · exact (congrArg (SMap.get · k) hbp).trans (SMap.get_set_ne _ _ _ _ hk)
  · have hans : s.docRead addr.toNat = (s, 1, s.rdW (addr.toNat / 4 * 4)) := (State.docRead_reads hp hreads).trans (by rw [State.wordAt_memory hreads hreg hecc hwork])
    have hwait := State.docReq_wait hpads hpd hheld 2 addr.toNat 0 (fun s => s.docRead addr.toNat) (by rw [hans]; exact (by decide : 1 ≠ 6))
    refine ⟨_, congrArg Host.Outcome.next hwait, rfl, ?_, ?_⟩
    · simp only [hans]
      rfl
    · simp only [hans]
      exact .beside' (.beside' (.refl _ _ s))
  · exact ⟨_, congrArg Host.Outcome.next (State.docReq_held hpads hpd hheld w _), rfl, rfl, rfl, .beside' (.beside' (.refl _ _ s))⟩

end Sys2Proof.Machine
end

section
/-!
Proofs about the time transfer (chapter 20).
The proofs are elaborated in turn: in one text, proofs that wait for each other would each hold a thread.
-/

set_option Elab.async false

namespace Sys2Proof.Machine

/-! ### What the time transfer's own functions do -/

/-- A frame that is sent: the one on the line, which ends after its time. -/
theorem State.plcSend_eq {s : State} (f : PlcFrame) (n : Nat) (h : s.plState ≠ 1) :
    s.plcSend f n = (s.incWrap F.PLC_CNT_SENT).modCour fun c =>
      { c with frame := some { f with endAt := s.mono + n }
               reset := if c.resetTx = some (bU f.bytes 0 4) then c.reset.map fun r => (r.1, s.mono + n + 800000) else c.reset } := by
  simp [State.plcSend, h]

theorem leBytes_length (n v : Nat) : (leBytes n v).length = n := by
  induction n generalizing v with
  | zero => rfl
  | succ n ih => simp [leBytes, ih]

theorem msgBytes_length (ty fl r tx a b : Nat) (p : List Byte) : (msgBytes ty fl r tx a b p).length = 20 + p.length := by
  simp [msgBytes, leBytes_length]
  omega

/-- A message that fits one segment is carried behind the eight bytes of that segment's header. -/
theorem segments_one {m : List Byte} (hne : m ≠ []) (hfit : m.length ≤ 376) (tx : Nat) :
    ((segments tx 1 0 1 m).headD []).drop 8 = m := by
  simp [segments, hne, leBytes, List.take_of_length_le hfit]

theorem State.ttFrame_message (s : State) (ty dst : Nat) (p : List Byte) (h : p.length ≤ 300) :
    (s.ttFrame ty dst p).bytes.drop 8 = msgBytes ty 0 0 (s.drawn % 2 ^ 32) s.ownAddr dst p := by
  have hlen := msgBytes_length ty 0 0 (s.drawn % 2 ^ 32) s.ownAddr dst p
  have hfit : 20 + p.length ≤ 376 := by omega
  exact segments_one (List.ne_nil_of_length_pos (hlen.symm ▸ Nat.add_pos_left (by decide) _)) (hlen.symm ▸ hfit) _

/-- An answer whose conditions hold, before its offset goes to Epoch: the count, half the delay, and no exchange waits any more. -/
def State.ttAnswered (s : State) (d2 : Nat) : State :=
  ((((s.incWrap F.PLC_TT_CNT_OK).wr R.PLC_TT_DELAY (w32 (d2 / 2 + (if d2 % 2 = 1 then s.drawn % 2 else 0)))).drew).put
    F.PLC_STATUS_TT_WAIT 0).modCour fun c => { c with ttWait := none }

theorem State.epochTheta_keeps (s : State) (x : ℤ) (t : ℕ) :
    Keeps [F.EPOCH_STICKY_TT_RANGE, whole R.EPOCH_TT_OFFSET, F.EPOCH_STATUS_TT_VALID] [.shadow, .ep] s (s.epochTheta x t) := by
  unfold State.epochTheta
  refine .ite' (.refl _ _ _) (.ite' (.set1' (.refl _ _ _)) (.beside' (.put' ?_)))
  split
  · exact (.toShadow' (.wr' (.refl _ _ _)))
  · exact .toShadow' (.toShadow' (.wr' (.refl _ _ _)))

theorem State.ttAnswered_keeps (s : State) (d2 : ℕ) :
    Keeps [F.PLC_STATUS_TT_WAIT, whole R.PLC_TT_DELAY, F.PLC_TT_CNT_OK] [.cour, .draws] s (s.ttAnswered d2) :=
  .after (State.modCour_keeps ..) (.put' (.drew' (.wr' (.incWrap' (.refl _ _ _)))))

theorem State.ttInvalid_keeps (s : State) :
    Keeps [F.PLC_STATUS_TT_WAIT, F.PLC_TT_CNT_INVALID, F.PLC_STICKY_TT_INVALID, F.EPOCH_STATUS_TT_VALID] [.cour, .ep] s s.ttInvalid :=
  .beside' (.put' (.after (State.modCour_keeps ..) (.put' (.incWrap' (.set1' (.refl _ _ _))))))

/-- An exchange that is invalid: the flag, the count, the waiting that ends, and the count of valid ones that begins anew. -/
theorem State.ttInvalid_facts (s : State) :
    s.ttInvalid.cour = { s.cour with ttWait := none } ∧ s.ttInvalid.get F.PLC_STICKY_TT_INVALID = 1 ∧
    s.ttInvalid.get F.PLC_TT_CNT_INVALID = (s.get F.PLC_TT_CNT_INVALID + 1) % 256 ∧ s.ttInvalid.get F.EPOCH_STATUS_TT_VALID = 0 ∧
    s.ttInvalid.ep = { s.ep with ttCount := 0 } := by
  simp [State.ttInvalid, State.modCour]

theorem State.epochTheta_frame (s : State) (x : Int) (n : Nat) :
    Keeps [F.EPOCH_STICKY_TT_RANGE, whole R.EPOCH_TT_OFFSET, F.EPOCH_STATUS_TT_VALID] [.shadow, .ep] s (s.epochTheta x n) := (.after (State.epochTheta_keeps ..) (.refl _ _ _))

section
variable {s : State} {x : Int} {n : Nat}

theorem State.epochTheta_outside_mode (h : s.get F.EPOCH_CTRL_MODE ≠ 2) : s.epochTheta x n = s := if_pos h

theorem State.epochTheta_far (h : s.get F.EPOCH_CTRL_MODE = 2) (hx : 800000 < x.natAbs) : s.epochTheta x n = s.set1 F.EPOCH_STICKY_TT_RANGE :=
  (if_neg (not_not.mpr h)).trans (if_pos (by omega))

theorem State.shadowed_toShadow (s : State) (f : Fld) (v : Nat) (h : 0 < f.len) : (s.toShadow f v).shadowed f = true := by
  have hmask : 0 < 2 ^ f.len - 1 := Nat.sub_pos_of_lt (Nat.one_lt_two_pow h.ne')
  have hlt : (2 ^ f.len - 1) % 2 ^ f.len = 2 ^ f.len - 1 := Nat.mod_eq_of_lt (Nat.sub_lt (Nat.two_pow_pos _) one_pos)
  simp [State.shadowed, State.toShadow, bitsOf_bitsPut_self, hlt, hmask.ne']

theorem State.shadowed_congr {s t : State} {f : Fld} (h : t.shadow.get f.addr = s.shadow.get f.addr) : t.shadowed f = s.shadowed f := by
  simp only [State.shadowed, h]

theorem State.toShadow_shadow_other (s : State) {f : Fld} (v : Nat) {a : Nat} (h : a ≠ f.addr) :
    (s.toShadow f v).shadow.get a = s.shadow.get a := SMap.get_set_ne _ _ _ _ h

theorem State.toShadow_shadow_val (s : State) (f : Fld) (v : Nat) :
    bitsOf ((s.toShadow f v).shadow.get f.addr).val f.lo f.len = v % 2 ^ f.len := by
  simp [State.toShadow, bitsOf_bitsPut_self]

/-- A time offset that is small enough: the measured offset, the slew that takes it back, and what an earlier one says of the rate. -/
theorem State.epochTheta_near (h : s.get F.EPOCH_CTRL_MODE = 2) (hx : x.natAbs ≤ 800000) :
    (s.epochTheta x n).rd R.EPOCH_TT_OFFSET = BitVec.ofInt 32 (roundDiv x 2) ∧
    (s.epochTheta x n).shadowed F.EPOCH_SLEW_SLEW = true ∧
    bitsOf ((s.epochTheta x n).shadow.get R.EPOCH_SLEW).val 0 24 = unsignedOf 24 (-(roundDiv x 2)) ∧
    (s.epochTheta x n).ep.ttLast = some n ∧
    (s.epochTheta x n).flag F.EPOCH_STATUS_TT_VALID = decide (16 ≤ (s.epochTheta x n).ep.ttCount) ∧
    (s.ep.ttLast = none → (s.epochTheta x n).ep.ttCount = s.ep.ttCount + 1) ∧
    (∀ l, s.ep.ttLast = some l → (s.epochTheta x n).ep.ttCount = (if n ≤ l + 800000000 then s.ep.ttCount + 1 else 1) ∧
      (s.epochTheta x n).shadowGet F.EPOCH_RATE_RATE =
        unsignedOf 24 (clampInt (s.getS F.EPOCH_RATE_RATE - roundDiv (x * 125000000) (n - l)) (-500000) 500000)) := by
  have hnear : ¬ (x < -800000 ∨ 800000 < x) := by omega
  have hword : w32 (unsignedOf 32 (roundDiv x 2)) = BitVec.ofInt 32 (roundDiv x 2) :=
    BitVec.eq_of_toNat_eq (by simp [w32, unsignedOf, BitVec.toNat_ofInt, Int.emod_lt_of_pos])
  have hslew := Nat.mod_eq_of_lt (unsignedOf_lt 24 (-(roundDiv x 2)))
  have hflag : ∀ b : Bool, (b2n b == 1) = b := fun b => by cases b <;> rfl
  have hbit : ∀ b : Bool, b2n b % 2 = b2n b := fun b => by cases b <;> rfl
  cases hl : s.ep.ttLast with
  | none =>
    have heq : s.epochTheta x n = { (((s.wr R.EPOCH_TT_OFFSET (w32 (unsignedOf 32 (roundDiv x 2)))).toShadow F.EPOCH_SLEW_SLEW
        (unsignedOf 24 (-(roundDiv x 2)))).put F.EPOCH_STATUS_TT_VALID (b2n (decide (16 ≤ s.ep.ttCount + 1)))) with
        ep := { s.ep with ttCount := s.ep.ttCount + 1, ttLast := some n } } := by
      simp [State.epochTheta, h, hnear, hl]
    rw [heq]
    refine ⟨by simpa using hword, State.shadowed_toShadow _ F.EPOCH_SLEW_SLEW _ (by decide), (State.toShadow_shadow_val _ F.EPOCH_SLEW_SLEW _).trans hslew, rfl, ?_, fun _ => rfl,
      fun _ => (nomatch ·)⟩
    simp [hbit, hflag]
  | some l =>
    have heq : s.epochTheta x n = { ((((s.wr R.EPOCH_TT_OFFSET (w32 (unsignedOf 32 (roundDiv x 2)))).toShadow F.EPOCH_SLEW_SLEW
        (unsignedOf 24 (-(roundDiv x 2)))).toShadow F.EPOCH_RATE_RATE (unsignedOf 24 (clampInt (s.getS F.EPOCH_RATE_RATE -
          roundDiv (x * 125000000) (n - l)) (-500000) 500000))).put F.EPOCH_STATUS_TT_VALID
          (b2n (decide (16 ≤ if n ≤ l + 800000000 then s.ep.ttCount + 1 else 1)))) with
        ep := { s.ep with ttCount := if n ≤ l + 800000000 then s.ep.ttCount + 1 else 1, ttLast := some n } } := by
      simp [State.epochTheta, h, hnear, hl, State.getS]
    rw [heq]
    refine ⟨by simpa using hword, ?_, ?_, rfl, ?_, (nomatch ·), fun l' hl' => ⟨?_, ?_⟩⟩
    · exact (State.shadowed_congr (State.toShadow_shadow_other _ _ (by decide))).trans (State.shadowed_toShadow _ F.EPOCH_SLEW_SLEW _ (by decide))
    · exact (congrArg (fun c => bitsOf c.val 0 24) (State.toShadow_shadow_other _ (f := F.EPOCH_RATE_RATE) _ (by decide))).trans
        ((State.toShadow_shadow_val _ F.EPOCH_SLEW_SLEW _).trans hslew)
    · simp [hbit, hflag]
    · cases hl'; rfl
    · cases hl'
      exact (State.shadowGet_put _ _ _ _ (by decide)).trans ((State.shadowGet_toShadow _ _ _ (by decide)).trans
        (Nat.mod_eq_of_lt (unsignedOf_lt 24 _)))

end

theorem State.ttAnswered_frame (s : State) (d : Nat) :
    Keeps [F.PLC_TT_CNT_OK, whole R.PLC_TT_DELAY, F.PLC_STATUS_TT_WAIT] [.draws, .cour] s (s.ttAnswered d) := (.after (State.ttAnswered_keeps ..) (.refl _ _ _))

theorem State.ttAnswered_facts (s : State) (d : Nat) :
    (s.ttAnswered d).cour.ttWait = none ∧ (s.ttAnswered d).get F.PLC_STATUS_TT_WAIT = 0 ∧
    (s.ttAnswered d).get F.PLC_TT_CNT_OK = (s.get F.PLC_TT_CNT_OK + 1) % 65536 ∧ (s.ttAnswered d).ep = s.ep ∧
    (s.ttAnswered d).shadow = s.shadow ∧ (d < 2 ^ 31 →
      ((s.ttAnswered d).rd R.PLC_TT_DELAY).toNat = d / 2 ∨ ((s.ttAnswered d).rd R.PLC_TT_DELAY).toNat = (d + 1) / 2) := by
  refine ⟨rfl, by simp [State.ttAnswered, State.modCour], by simp [State.ttAnswered, State.modCour], rfl, rfl, fun hd => ?_⟩
  have hrd : ((s.ttAnswered d).rd R.PLC_TT_DELAY).toNat = d / 2 + (if d % 2 = 1 then s.drawn % 2 else 0) := by
    simp only [State.ttAnswered, State.modCour, State.rd_mk, State.rd_put_other _ _ _ _ (by decide : R.PLC_TT_DELAY ≠ F.PLC_STATUS_TT_WAIT.addr),
      State.drew_rd, State.rd_wr_same, w32, BitVec.toNat_ofNat]
    split <;> omega
  rw [hrd]
  split <;> omega

theorem exec_courierTtRsp_ok {s : State} {src dst : BitVec 16} {t1 q t2 t3 t4 : Nat} (hwait : s.cour.ttWait = some (t1, q)) (hon : s.plcOn = true)
    (hdst : dst.toNat = s.ownAddr) (hsrc : src.toNat = s.get F.PLC_TT_CFG_MASTER_ADDR) (hok : ttOk t1 t2 t3 t4 true = true) :
    exec (.courierTtRsp src dst q t2 t3 t4) s =
      .next ((s.ttAnswered ((t4 - t1) - (t3 - t2))).epochTheta (((t1 : Int) - t2) + ((t4 : Int) - t3)) t4) := by
  simp [exec, execCourierTtRsp, hwait, hon, hdst, hsrc, hok, State.ttAnswered]

/-- A delay that is taken is less than 2^31 (R645: it is at most 16,000 ticks). -/
theorem ttOk_bound {t1 t2 t3 t4 : Nat} {b : Bool} (h : ttOk t1 t2 t3 t4 b = true) : t4 - t1 - (t3 - t2) < 2 ^ 31 := by
  simp only [ttOk, Bool.and_eq_true, decide_eq_true_eq, beq_iff_eq] at h
  omega

/-- Settles O53: a request or an answer changes the exchange it belongs to, and a valid answer's offset goes to Epoch by one function. -/
theorem timeTransfer : Obligations.TimeTransfer := by
  intro s
  refine ⟨fun n hon hen hmode hnext hbusy hwait hpl => ?_, fun n x hon hen hmode hnext hbusy hwait hpl => ?_, fun n h => ?_,
    fun src dst sq t2 hon hmaster hdst => ?_, fun src dst sq t2 h => ?_, fun sq dst t2 t3 rest n hrsp hon ht3 hbusy hpl => ?_,
    fun src dst t1 q t2 t3 t4 hwait hon hdst hsrc hok => ?_, fun src dst t1 q sq t2 t3 t4 hwait hon hdst hsrc hok => ?_,
    fun x hwait hearly => ?_, fun t1 q hwait hlate => ?_, fun hwait => ⟨?_, fun src dst sq t2 t3 t4 => ?_⟩⟩
  · have hexec : exec (.ttRequestSend n) s = .next _ := if_pos (by simp [hon, hen, hmode, hnext, hbusy])
    rw [hwait, Option.isSome_none, if_neg Bool.false_ne_true, State.plcSend_eq _ _ (by simpa [State.plState] using hpl)] at hexec
    exact ⟨_, _, hexec, rfl, rfl, rfl, rfl, rfl, rfl, rfl, rfl, by simp [State.modCour], (.after (State.modCour_keeps ..) (.incWrap' (.after (State.modCour_keeps ..) (.put' (.drew' (.refl _ _ _))))))⟩
  · have hexec : exec (.ttRequestSend n) s = .next _ := if_pos (by simp [hon, hen, hmode, hnext, hbusy])
    obtain ⟨-, hsticky, hcount, hvalid, hep⟩ := s.ttInvalid_facts
    rw [hwait, Option.isSome_some, if_pos rfl, State.plcSend_eq _ _ (by simpa [State.plState, State.ttInvalid, State.modCour] using hpl)] at hexec
    exact ⟨_, hexec, rfl, by simp [State.modCour, hsticky], by simp [State.modCour, hcount], by simp [State.modCour, hep],
      by simp [State.modCour, hvalid], (.after (State.modCour_keeps ..) (.incWrap' (.after (State.modCour_keeps ..) (.put' (.drew' (.after (State.ttInvalid_keeps ..) (.refl _ _ _)))))))⟩
  · exact if_neg (by rcases h with h | h | h | h | h <;> simp [h])
  · exact ⟨_, if_pos (by simp [hon, hmaster, hdst]), rfl, rfl, (.after (State.modCour_keeps ..) (.refl _ _ _))⟩
  · exact if_neg (by rcases h with h | h | h <;> simp [h])
  · have hexec : ∀ b, exec (.ttResponseSend b n) s = _ := fun b => (by rfl : exec (.ttResponseSend b n) s = execTtResponseSend b n s)
    simp only [execTtResponseSend, hrsp, hon, ht3, decide_true, Bool.and_self, if_true] at hexec
    have hidle : (s.modCour fun c => { c with ttRsp := rest }).plcBusy = false := hbusy
    have hpl' : (s.modCour fun c => { c with ttRsp := rest }).drew.plState ≠ 1 := hpl
    refine ⟨⟨_, _, s.drawn % 2 ^ 32, (hexec false).trans (by rw [hidle, Bool.or_false, if_neg Bool.false_ne_true, State.plcSend_eq _ _ hpl']), rfl, rfl, rfl, rfl, rfl, ?_,
      (.after (State.modCour_keeps ..) (.incWrap' (.drew' (.after (State.modCour_keeps ..) (.refl _ _ _)))))⟩, ⟨_, (hexec true).trans (if_pos rfl), rfl, rfl, by simp [State.modCour], (.incWrap' (.after (State.modCour_keeps ..) (.refl _ _ _)))⟩⟩
    exact State.ttFrame_message _ _ _ _ (by simp [leBytes_length])
  · have hexec := exec_courierTtRsp_ok hwait hon hdst hsrc hok
    obtain ⟨hcour, hwaits, hcount, hep, hshadow, hdelay⟩ := s.ttAnswered_facts ((t4 - t1) - (t3 - t2))
    have hframe := s.ttAnswered_frame ((t4 - t1) - (t3 - t2))
    have hmode' : (s.ttAnswered ((t4 - t1) - (t3 - t2))).get F.EPOCH_CTRL_MODE = s.get F.EPOCH_CTRL_MODE := hframe.get_eq _ (by decide)
    have hrate : (s.ttAnswered ((t4 - t1) - (t3 - t2))).getS F.EPOCH_RATE_RATE = s.getS F.EPOCH_RATE_RATE :=
      congrArg (signedOf 24) (hframe.get_eq _ (by decide))
    have htheta := (s.ttAnswered ((t4 - t1) - (t3 - t2))).epochTheta_frame (((t1 : Int) - t2) + ((t4 : Int) - t3)) t4
    refine ⟨_, hexec, (congrArg CourState.ttWait (htheta.2 .cour (by decide))).trans hcour, (htheta.get_eq _ (by decide)).trans hwaits,
      (htheta.get_eq _ (by decide)).trans hcount, ?_, fun hmode hx => ?_, fun hmode => ?_, fun hmode hx => ?_,
      htheta.after (hframe.mono (by simp) (by simp))⟩
    · have hlt : (t4 - t1 - (t3 - t2)) < 2 ^ 31 := ttOk_bound hok
      rw [htheta.rd_eq _ (by decide)]
      exact hdelay hlt
    · have hnear := State.epochTheta_near (n := t4) (hmode'.trans hmode) hx
      rw [hep, hrate] at hnear
      exact hnear
    · rw [State.epochTheta_outside_mode (by rwa [hmode'])]
      exact ⟨hshadow, hep, hframe.rd_eq _ (by decide)⟩
    · rw [State.epochTheta_far (hmode'.trans hmode) hx]
      exact ⟨State.get_put_same _ _ _ (by decide), hshadow, hep⟩
  · have hexec : exec (.courierTtRsp src dst sq t2 t3 t4) s = .next s.ttInvalid := by
      simp [exec, execCourierTtRsp, hwait, hon, hdst, hsrc, hok]
    obtain ⟨hcour, hsticky, hcount, hvalid, hep⟩ := s.ttInvalid_facts
    exact ⟨_, hexec, by rw [hcour], hsticky, hcount, hvalid, by rw [hep], by rw [hep], (.after (State.ttInvalid_keeps ..) (.refl _ _ _))⟩
  · simp [exec, execTtResponseTimeout, hwait, hearly]
  · have hexec : exec .ttResponseTimeout s = .next s.ttInvalid := by simp [exec, execTtResponseTimeout, hwait, hlate]
    obtain ⟨hcour, hsticky, hcount, hvalid, hep⟩ := s.ttInvalid_facts
    exact ⟨_, hexec, by rw [hcour], hsticky, hvalid, by rw [hep], (.after (State.ttInvalid_keeps ..) (.refl _ _ _))⟩
  · simp [exec, execTtResponseTimeout, hwait]
  · simp [exec, execCourierTtRsp, hwait]

end Sys2Proof.Machine
end

section
/-!
Proofs about the gate drive (chapter 09): half-bridges, the internal lane and VDRV.
The proofs are elaborated in turn: in one text, proofs that wait for each other would each hold a thread.
-/

set_option Elab.async false

namespace Sys2Proof.Machine

/-! ### A half-bridge's own record, and both gates off -/

@[simp] theorem State.modHb_get_same (s : State) (h : Nat) (f : HalfBridge → HalfBridge) : (s.modHb h f).drive.hb.get h = f (s.drive.hb.get h) :=
  SMap.get_set_same _ _ _

/-- VDRV falls: the state in which the drivers are locked out, before every gate is turned off (R311). -/
def State.lockedOut (s : State) : State :=
  (((s.put F.DRV_STATUS_VDRV_OK 0).put F.SYS_RAILS_VDRV_OK 0).put F.DRV_STATUS_LOCKOUT 1).incSat F.DRV_UV_CNT_CNT

theorem State.modHb_keeps (s : State) (h : ℕ) (f : HalfBridge → HalfBridge) :
    Keeps [] [.drive] s (s.modHb h f) :=
  .beside' (.refl _ _ _)

theorem State.hbOff_keeps (s : State) (h : ℕ) :
    Keeps [F.DRV_HB_STATUS_REFRESHING h, F.DRV_HB_STATUS_HI_RUN h, F.DRV_HB_STATUS_LO h, F.DRV_HB_STATUS_HO h] [.drive] s (s.hbOff h) :=
  .after (State.modHb_keeps ..) (.put' (.put' (.put' (.put' (.refl _ _ _)))))

theorem State.hbLate_keeps (s : State) (h : ℕ) :
    Keeps [whole (R.DRV_HB_FAULT_TICK h), F.DRV_HB_STICKY_LATE h, F.DRV_HB_STATUS_REFRESHING h, F.DRV_HB_STATUS_HI_RUN h, F.DRV_HB_STATUS_LO h, F.DRV_HB_STATUS_HO h] [.raised, .drive] s (s.hbLate h) :=
  .raise' (.wr' (.set1' (.after (State.hbOff_keeps ..) (.refl _ _ _))))

theorem State.hbInterlock_keeps (s : State) (h : ℕ) :
    Keeps [whole (R.DRV_HB_FAULT_TICK h), F.DRV_HB_STICKY_INTERLOCK h, F.DRV_HB_STATUS_REFRESHING h, F.DRV_HB_STATUS_HI_RUN h, F.DRV_HB_STATUS_LO h, F.DRV_HB_STATUS_HO h] [.raised, .drive] s (s.hbInterlock h) :=
  .raise' (.after (State.modHb_keeps ..) (.wr' (.set1' (.after (State.hbOff_keeps ..) (.refl _ _ _)))))

theorem State.refreshStart_keeps (s : State) (h : ℕ) (m : ℕ) :
    Keeps [F.DRV_HB_STATUS_REFRESH_CNT h, F.DRV_HB_STICKY_BST_REFRESH h, F.DRV_HB_STATUS_HI_RUN h, F.DRV_HB_STATUS_REFRESHING h, F.DRV_HB_STATUS_HO h, whole (R.DRV_HB_REFRESH_TICK h)] [.drive] s (s.refreshStart h m) :=
  .after (State.modHb_keeps ..) (.wr' (.incSat' (.set1' (.put' (.put' (.put' (.refl _ _ _)))))))

theorem State.linkDown_outside (s : State) :
    KeepsOutside [zone R.DRV_STATUS, zone R.LANE_STATUS] [.drive, .raised, .pwm, .diag] s s.linkDown :=
  .stickyRaise' (.after (State.holdBegins_outside ..) (.put' (.beside' (.refl _ _ _))))

theorem State.lockedOut_outside (s : State) :
    KeepsOutside [zone R.DRV_STATUS, zone R.SYS_ID] [] s s.lockedOut :=
  .incSat' (.put' (.put' (.put' (.refl _ _ _))))

theorem State.noteHolds_keeps (s : State) :
    Keeps [] [.pwm, .diag] s s.noteHolds :=
  .forEach' (.forEach' (.refl _ _ _) (fun _ _ => .ite' (.beside' (.refl _ _ _)) (.refl _ _ _))) (fun _ _ => .beside' (.refl _ _ _))

theorem State.hbOff_gates (s : State) (h : Nat) : (s.hbOff h).get (F.DRV_HB_STATUS_HO h) = 0 ∧ (s.hbOff h).get (F.DRV_HB_STATUS_LO h) = 0 := by
  simp [State.hbOff]

theorem State.hbLate_facts (s : State) (h : Nat) : (s.hbLate h).get (F.DRV_HB_STATUS_HO h) = 0 ∧ (s.hbLate h).get (F.DRV_HB_STATUS_LO h) = 0 ∧
    (s.hbLate h).get (F.DRV_HB_STICKY_LATE h) = 1 ∧ (s.hbLate h).rd (R.DRV_HB_FAULT_TICK h) = BitVec.ofNat 32 s.epoch ∧
    (s.hbLate h).raised = s.raised ++ [⟨FS.DRV_LATE h, 0⟩] := by
  refine ⟨?_, ?_, ?_, ?_, rfl⟩ <;> simp [State.hbLate, State.hbOff, State.now32, w32]

theorem State.hbBlocked_of_interlock {s : State} {h : Nat} (hi : (s.drive.hb.get h).inter = true) : s.hbBlocked h = true := by
  simp [State.hbBlocked, hi]

theorem State.hbInterlock_facts (s : State) (h : Nat) :
    (s.hbInterlock h).get (F.DRV_HB_STATUS_HO h) = 0 ∧ (s.hbInterlock h).get (F.DRV_HB_STATUS_LO h) = 0 ∧
    (s.hbInterlock h).get (F.DRV_HB_STICKY_INTERLOCK h) = 1 ∧ (s.hbInterlock h).raised = s.raised ++ [⟨FS.DRV_INTERLOCK h, 0⟩] ∧
    (s.hbInterlock h).hbBlocked h = true := by
  refine ⟨?_, ?_, ?_, rfl, State.hbBlocked_of_interlock (congrArg HalfBridge.inter (State.modHb_get_same ..))⟩ <;>
    simp [State.hbInterlock, State.hbOff]

/-- What blocks a half-bridge's switches is not what its queue or the unit's messages and markers hold. -/
theorem State.hbBlocked_modHb (s : State) (h : Nat) (f : HalfBridge → HalfBridge) (hf : (f (s.drive.hb.get h)).inter = (s.drive.hb.get h).inter) :
    (s.modHb h f).hbBlocked h = s.hbBlocked h := by
  simp only [State.hbBlocked, State.modHb_get_same, hf]
  rfl

/-! ### The internal lane or the supply fails: every half-bridge is held off -/

/-- A hold of PU0 to PU7: the lock-out stands, or the internal lane is lost (R309, R311). -/
def State.driveHeld (s : State) : Bool := s.flag F.DRV_STATUS_LOCKOUT || s.drive.linkLost

theorem State.driveHeld_blocks {s : State} (hs : s.driveHeld = true) {h : Nat} (hh : h < 8) : s.hbBlocked h = true := by
  have hunit : s.unitHeld h = true := by
    simp only [State.unitHeld, hh, decide_true, Bool.true_and]
    rw [← State.driveHeld, hs, Bool.or_true]
  simp [State.hbBlocked, hunit]

/-- A field of the internal lane or the supply as the switching off of a half-bridge leaves it. -/
theorem State.hbOff_driveHeld (s : State) (h : Nat) : (s.hbOff h).driveHeld = s.driveHeld :=
  congrArg (· || s.drive.linkLost) ((s.hbOff_keeps h).flag_eq _ (by simp; omega))

theorem State.hbOff_regs (s : State) {h : Nat} (hh : h < 8) : KeepsOutside [(0x40070100, 0x40070200)] [.drive] s (s.hbOff h) :=
  .after (State.modHb_outside ..) (.put' (.put' (.put' (.put' (.refl _ _ _)))))

/-- Where something holds every half-bridge while they are switched off one after another, every gate ends off. -/
theorem State.hbHoldOff_gates_of {P : State → Prop} (hblock : ∀ t, P t → ∀ h < 8, t.hbBlocked h = true)
    (hkeep : ∀ t, P t → ∀ h < 8, P (t.hbOff h)) {s : State} (hs : P s) {h : Nat} (hh : h < 8) :
    s.hbHoldOff.get (F.DRV_HB_STATUS_HO h) = 0 ∧ s.hbHoldOff.get (F.DRV_HB_STATUS_LO h) = 0 := by
  refine State.forEach_at (P := P) (Q := fun t => t.get (F.DRV_HB_STATUS_HO h) = 0 ∧ t.get (F.DRV_HB_STATUS_LO h) = 0)
    List.nodup_range (List.mem_range.2 hh) (fun k hk _ t ht => ?_) (fun t ht => ?_) (fun k hk hkh t ht => ?_) s hs
  · rw [if_pos (hblock t ht k (List.mem_range.1 hk))]
    exact hkeep t ht k (List.mem_range.1 hk)
  · rw [if_pos (hblock t ht h hh)]
    exact t.hbOff_gates h
  · have hframe : Keeps _ _ t (if t.hbBlocked k then t.hbOff k else t) := .ite' (t.hbOff_keeps k) (.refl _ _ _)
    exact ⟨(hframe.get_eq _ (by simp; omega)).trans ht.1, (hframe.get_eq _ (by simp; omega)).trans ht.2⟩

theorem State.hbHoldOff_gates {s : State} (hs : s.driveHeld = true) {h : Nat} (hh : h < 8) :
    s.hbHoldOff.get (F.DRV_HB_STATUS_HO h) = 0 ∧ s.hbHoldOff.get (F.DRV_HB_STATUS_LO h) = 0 :=
  State.hbHoldOff_gates_of (P := fun t => t.driveHeld = true) (fun _ ht _ hk => State.driveHeld_blocks ht hk)
    (fun t ht k _ => (t.hbOff_driveHeld k).trans ht) hs hh

/-- What a hold of the half-bridges leaves: every register but their own. -/
theorem State.hbHoldOff_regs (s : State) : KeepsOutside [(0x40070100, 0x40070200)] [.drive] s s.hbHoldOff :=
  .forEach' (.refl _ _ _) fun h hh t => have hh := List.mem_range.1 hh
    .ite' (.after (t.hbOff_regs hh) (.refl _ _ _)) (.refl _ _ _)

theorem State.noteHolds_msgs (s : State) (u : Nat) : (s.noteHolds.pwm.get u).msgs = (s.pwm.get u).msgs := by
  unfold State.noteHolds
  refine State.forEach_inv (P := fun t => (t.pwm.get u).msgs = (s.pwm.get u).msgs) ?_ _
    (State.forEach_inv (P := fun t => (t.pwm.get u).msgs = (s.pwm.get u).msgs) (fun k _ t ht => ?_) _ rfl)
  · exact fun _ _ _ ht => ht
  split
  next =>
    by_cases hku : u = k
    · subst hku
      exact (congrArg PwmUnit.msgs (SMap.get_set_same _ _ _)).trans ht
    · exact (congrArg PwmUnit.msgs (SMap.get_set_ne _ _ _ _ hku)).trans ht
  next => exact ht

theorem State.laneTrip_linkLost (s : State) (l k : Nat) : (s.laneTrip l k).drive.linkLost = s.drive.linkLost := by
  unfold State.laneTrip
  split
  · rfl
  · split <;> rfl

/-- A hold of all half-bridges: the registers beside the half-bridges' and the lanes', the messages, and what was raised. -/
theorem State.holdBegins_facts (s : State) (g u : Nat) :
    (∀ f : Fld, f.addr < 0x40070100 → (s.holdBegins g).get f = s.get f) ∧ ((s.holdBegins g).pwm.get u).msgs = (s.pwm.get u).msgs ∧
    (s.holdBegins g).raised = s.raised ∧ (s.holdBegins g).drive.linkLost = s.drive.linkLost ∧
    (s.driveHeld = true → ∀ h, h < 8 → (s.holdBegins g).get (F.DRV_HB_STATUS_HO h) = 0 ∧ (s.holdBegins g).get (F.DRV_HB_STATUS_LO h) = 0) := by
  have hlanes : KeepsOutside [zone R.LANE_STATUS] [.drive] s.hbHoldOff (s.hbHoldOff.forEach (List.range 6) fun s l =>
      if s.inGroups (l + 8) g then s.laneTrip l 1 else s) :=
    .forEach' (.refl _ _ _) fun l hl t => have hl := List.mem_range.1 hl
      .ite' (.after (t.laneTrip_outside _ _ (by omega)) (.refl _ _ _)) (.refl _ _ _)
  have hrest (f : Fld) (hf : f.addr < 0x40080000) : (s.holdBegins g).get f = s.hbHoldOff.get f :=
    ((State.noteHolds_outside _).get_eq f (by simp)).trans (hlanes.get_eq f (by simp [zone]; omega))
  have hlost : (s.holdBegins g).drive.linkLost = s.drive.linkLost := by
    refine (congrArg DriveState.linkLost ((State.noteHolds_outside _).2 .drive (by decide))).trans ?_
    refine State.forEach_inv (P := fun t => t.drive.linkLost = s.drive.linkLost) (fun l _ t ht => ?_) _
      (State.forEach_inv (P := fun t => t.drive.linkLost = s.drive.linkLost) (fun h _ t ht => ?_) _ rfl)
    · split
      · exact (t.laneTrip_linkLost l 1).trans ht
      · exact ht
    · split <;> exact ht
  refine ⟨fun f hf => (hrest f (by omega)).trans (s.hbHoldOff_regs.get_eq f (by simp; omega)), ?_, (s.holdBegins_outside g).2 .raised (by decide), hlost,
    fun hs h hh => ?_⟩
  · exact ((State.noteHolds_msgs _ u).trans (congrArg (fun m => (m.get u).msgs) (hlanes.2 .pwm (by decide)))).trans
      (congrArg (fun m => (m.get u).msgs) (s.hbHoldOff_regs.2 .pwm (by decide)))
  · rw [hrest _ (by simp; omega), hrest _ (by simp; omega)]
    exact State.hbHoldOff_gates hs hh

/-- The internal lane's loss (R309). -/
theorem State.linkDown_facts (s : State) (u : Nat) : s.linkDown.drive.linkLost = true ∧ s.linkDown.get F.DRV_STATUS_LINK_OK = 0 ∧
    s.linkDown.get F.DRV_STICKY_LINK_ERR = 1 ∧ s.linkDown.raised = s.raised ++ [⟨FS.DRV_LINK, 0⟩] ∧
    (s.linkDown.pwm.get u).msgs = (s.pwm.get u).msgs ∧
    ∀ h, h < 8 → s.linkDown.get (F.DRV_HB_STATUS_HO h) = 0 ∧ s.linkDown.get (F.DRV_HB_STATUS_LO h) = 0 := by
  obtain ⟨hget, hmsgs, hraised, hlost, hgates⟩ :=
    (State.put { s with drive := { s.drive with linkLost := true } } F.DRV_STATUS_LINK_OK 0).holdBegins_facts 0 u
  have hheld : (State.put { s with drive := { s.drive with linkLost := true } } F.DRV_STATUS_LINK_OK 0).driveHeld = true := Bool.or_true _
  have hok := (hget F.DRV_STATUS_LINK_OK (by decide)).trans (State.get_put_same _ _ _ (by decide))
  refine ⟨hlost, (State.get_put_other _ _ _ _ (by decide)).trans hok, State.get_put_same _ _ _ (by decide),
    congrArg (· ++ _) hraised, hmsgs, fun h hh => ?_⟩
  obtain ⟨hho, hlo⟩ := hgates hheld h hh
  exact ⟨(State.get_put_other _ _ _ _ (by simp)).trans hho, (State.get_put_other _ _ _ _ (by simp)).trans hlo⟩

section
variable {s : State} {h : Fin 8} {e : Edge} {n : Nat}

theorem exec_hbEdgeReceive {rest : List Edge} (hm : (s.pwm.get h).msgs = e :: rest) (hon : s.pdOn 9 = true) :
    exec (.hbEdgeReceive h) s = .next ((s.modPwm h fun p => { p with msgs := rest }).hbReceive h e) := by
  have hon' : (s.modPwm h fun p => { p with msgs := rest }).pdOn 9 = true := hon
  simp [exec, execHbEdgeReceive, hm, hon']

theorem exec_hbEdgeExecute (hstep : (s.drive.hb.get h).step = 0) (hpick : (s.drive.hb.get h).pick (s.hbDead h) (s.drive.hb.get h).queue = some e)
    (htick : (s.drive.hb.get h).execTick (s.hbDead h) e ≤ s.epoch) : exec (.hbEdgeExecute h) s =
      .next ((s.modHb h fun b => { b with queue := b.queue.erase e }).hbExecute h e ((s.drive.hb.get h).execTick (s.hbDead h) e)) := by
  simp [exec, execHbEdgeExecute, hstep, hpick, htick]

/-- A period's marker while the high side is on: its run goes on, or the refresh begins (R313, R314). -/
theorem exec_hbPeriodMarker {m : Nat} {rest : List Nat} (hm : (s.pwm.get h).markers = m :: rest) (htick : m ≤ s.epoch) (hset : s.hbSettled h m = true)
    (hfree : s.hbBlocked h = false) (hrun : s.pwmState h ≠ 0) (hall : (s.drive.hb.get h).highAll = true)
    (hho : s.flag (F.DRV_HB_STATUS_HO h) = true) : exec (.hbPeriodMarker h) s = .next
      (if s.get (F.DRV_HB_CFG_REFRESH_PERIODS h) ≤ s.get (F.DRV_HB_STATUS_HI_RUN h) + 1 then
        (s.modPwm h fun p => { p with markers := rest }).refreshStart h m
      else ((s.modPwm h fun p => { p with markers := rest }).put (F.DRV_HB_STATUS_HI_RUN h) (s.get (F.DRV_HB_STATUS_HI_RUN h) + 1)).modHb h
        fun b => { b with highAll := true }) := by
  have hfree' : (s.modPwm h fun p => { p with markers := rest }).hbBlocked h = false := hfree
  have hrun' : ¬ ((s.modPwm h fun p => { p with markers := rest }).pwmState h == 0) = true := by simpa [State.pwmState] using hrun
  simp only [exec, execHbPeriodMarker, hm, htick, hset, decide_true, Bool.true_or, Bool.and_self, if_true]
  simp only [State.hbMarker, hfree', hrun', Bool.false_or, if_false]
  simp [hall, hho]

end

/-- Of a half-bridge's two gates, the one an edge names. -/
theorem hbGate_len (h : Nat) (b : Bool) : (hbGate h b).lo + (hbGate h b).len ≤ 32 ∧ (hbGate h b).len = 1 := by cases b <;> simp [hbGate]

section
variable {s : State} {h : Nat} {e : Edge} {n : Nat} (hfree : s.hbBlocked h = false)
include hfree

theorem State.hbExecute_off (hoff : e.on = false) : s.hbExecute h e n =
    ((if e.sideB then s else s.put (F.DRV_HB_STATUS_HI_RUN h) 0).put (hbGate h e.sideB) 0).modHb h fun b =>
      { b with queue := b.queue.filter (fun x => !(x.on && x.sideB == e.sideB && x.t ≤ e.t)),
               offHi := if e.sideB then b.offHi else some n, offLo := if e.sideB then some n else b.offLo,
               highAll := b.highAll && e.sideB } := by
  simp [State.hbExecute, hfree, hoff]

theorem State.hbExecute_on (hon : e.on = true) (hpartner : s.flag (hbGate h (!e.sideB)) = false) :
    s.hbExecute h e n = s.put (hbGate h e.sideB) 1 := by
  simp [State.hbExecute, hfree, hon, hpartner]

theorem State.hbExecute_both (hon : e.on = true) (hpartner : s.flag (hbGate h (!e.sideB)) = true) : s.hbExecute h e n = s.hbInterlock h := by
  simp [State.hbExecute, hfree, hon, hpartner]

end

/-- Settles O21: an edge, a step or a marker acts on its own half-bridge; a hold turns every gate off. -/
theorem halfBridgesAndDriveSupply : Obligations.HalfBridgesAndDriveSupply := by
  refine ⟨fun s h => ⟨fun e rest hm hon hlead hroom => ?_, fun e rest hm hon hlate => ?_, fun e hstep hpick htick hfree => ?_,
    fun e hstep hpick htick hblocked => ?_, fun hstep htick => ?_, fun m rest hm htick hset hfree hrun hall hho hper => ?_,
    fun m rest hm htick hset hfree hrun hall hho hper => ?_⟩, fun s hon => ⟨?_, fun hlink hlate => ?_, fun h => ?_, fun hlock => ?_, fun hlock => ?_,
    fun hlock hok hlate => ?_⟩⟩
  · have hin : ¬ (e.t < s.epoch + 8 ∨ 8 ≤ (s.drive.hb.get h).queue.length) := by omega
    exact ⟨_, (exec_hbEdgeReceive hm hon).trans (congrArg Host.Outcome.next (if_neg hin)), by simp, congrArg HalfBridge.queue (State.modHb_get_same ..), (.after (State.modHb_keeps ..) (.after (State.modPwm_keeps ..) (.refl _ _ _)))⟩
  · obtain ⟨hho, hlo, hsticky, htick, hraised⟩ := (s.modPwm h fun p => { p with msgs := rest }).hbLate_facts h
    exact ⟨_, (exec_hbEdgeReceive hm hon).trans (congrArg Host.Outcome.next (if_pos hlate)), hho, hlo, hsticky, htick, hraised, (.after (State.hbLate_keeps ..) (.after (State.modPwm_keeps ..) (.refl _ _ _)))⟩
  · have hfree' : (s.modHb h fun b => { b with queue := b.queue.erase e }).hbBlocked h = false := (State.hbBlocked_modHb s h (fun b => { b with queue := b.queue.erase e }) rfl).trans hfree
    refine ⟨_, exec_hbEdgeExecute hstep hpick htick, fun hoff => ?_, fun hon hpartner => ?_, fun hon hpartner => ?_⟩
    · rw [State.hbExecute_off hfree' hoff]
      refine ⟨?_, fun hhi => ?_, ?_⟩
      · exact (State.get_put_same _ _ _ (hbGate_len h _).1).trans (by rw [(hbGate_len h _).2]; rfl)
      · simp [hhi, hbGate]
      · exact (.after (State.modHb_keeps ..) (.put' (.ite' (.after (State.modHb_keeps ..) (.refl _ _ _)) (.put' (.after (State.modHb_keeps ..) (.refl _ _ _))))))
    · rw [State.hbExecute_on hfree' hon hpartner]
      exact ⟨State.get_put_same _ _ _ (hbGate_len h _).1 |>.trans (by rw [(hbGate_len h _).2]; rfl), congrArg HalfBridge.queue (State.modHb_get_same s h fun b => { b with queue := b.queue.erase e }), (.put' (.after (State.modHb_keeps ..) (.refl _ _ _)))⟩
    · rw [State.hbExecute_both hfree' hon hpartner]
      obtain ⟨hho, hlo, hsticky, hraised, hblocked⟩ := (s.modHb h fun b => { b with queue := b.queue.erase e }).hbInterlock_facts h
      exact ⟨hho, hlo, hsticky, hraised, hblocked, (.after (State.hbInterlock_keeps ..) (.after (State.modHb_keeps ..) (.refl _ _ _)))⟩
  · have hblocked' : (s.modHb h fun b => { b with queue := b.queue.erase e }).hbBlocked h = true := (State.hbBlocked_modHb s h (fun b => { b with queue := b.queue.erase e }) rfl).trans hblocked
    exact ⟨_, (exec_hbEdgeExecute hstep hpick htick).trans (congrArg Host.Outcome.next (if_pos hblocked')), congrArg HalfBridge.queue (State.modHb_get_same ..), (.after (State.modHb_keeps ..) (.refl _ _ _))⟩
  · have hexec : exec (.hbEdgeExecute h) s = .next (s.refreshStep h) := (if_pos hstep).trans (if_pos htick)
    refine ⟨_, hexec, fun h1 => ?_, fun h2 => ?_, fun h3 => ?_⟩
    · simp only [State.refreshStep, h1, if_true]
      exact ⟨by simp, by simp, (.after (State.modHb_keeps ..) (.put' (.refl _ _ _)))⟩
    · have hone : ¬ (2 = 1) := by decide
      simp only [State.refreshStep, h2, hone, if_true, if_false]
      exact ⟨by simp, by simp, by simp, (.after (State.modHb_keeps ..) (.put' (.refl _ _ _)))⟩
    · have hone : ¬ (3 = 1) := by decide
      have htwo : ¬ (3 = 2) := by decide
      simp only [State.refreshStep, h3, hone, htwo, if_false]
      exact ⟨by simp, by simp, by simp, (.after (State.modHb_keeps ..) (.put' (.put' (.refl _ _ _))))⟩
  · rw [exec_hbPeriodMarker hm htick hset hfree hrun hall hho, if_pos hper]
    refine ⟨_, rfl, ?_, ?_, ?_, ?_, ?_, ?_, (.after (State.refreshStart_keeps ..) (.after (State.modPwm_keeps ..) (.refl _ _ _)))⟩
    all_goals simp [State.refreshStart, w32]
  · rw [exec_hbPeriodMarker hm htick hset hfree hrun hall hho, if_neg (by omega)]
    exact ⟨_, rfl, by simp, by simp, (.after (State.modHb_keeps ..) (.put' (.after (State.modPwm_keeps ..) (.refl _ _ _))))⟩
  · have hexec : exec .hbKeepalive s = .next _ := if_pos hon
    refine ⟨_, hexec, ?_, fun h => ?_, fun h => ?_, (.ite' (.beside' (.refl _ _ _)) (.put' (.beside' (.refl _ _ _))))⟩
    · split <;> rfl
    · simp [h]
    · simp [h]
  · have hexec : exec .hbKeepaliveTimeout s = .next s.linkDown := if_pos (by simp [hon, hlink, hlate])
    obtain ⟨hlost, hok, hsticky, hraised, -, hgates⟩ := s.linkDown_facts 0
    exact ⟨_, hexec, hlost, hok, hsticky, hraised, fun h => hgates h h.isLt, (.after (State.linkDown_outside ..) (.refl _ _ _))⟩
  · have hexec : exec (.hbLinkCrcError h) s = .next (s.modPwm h fun p => { p with msgs := p.msgs.tail }).linkDown := if_pos hon
    obtain ⟨hlost, -, hsticky, hraised, hmsgs, -⟩ := (s.modPwm h fun p => { p with msgs := p.msgs.tail }).linkDown_facts h
    exact ⟨_, hexec, hmsgs.trans (congrArg PwmUnit.msgs (State.modPwm_get_same ..)), hlost, hsticky, hraised, (.after (State.linkDown_outside ..) (.after (State.modPwm_outside ..) (.refl _ _ _)))⟩
  · have hexec : exec .vdrvLockout s = .next _ := if_pos hon
    rw [hlock, if_neg Bool.false_ne_true, ← State.lockedOut] at hexec
    obtain ⟨hget, -, hraised, -, hgates⟩ := s.lockedOut.holdBegins_facts 0 0
    have hlocked : s.lockedOut.flag F.DRV_STATUS_LOCKOUT = true := by simp [State.lockedOut]
    have hheld : s.lockedOut.driveHeld = true := by simp only [State.driveHeld, hlocked, Bool.true_or]
    refine ⟨_, hexec, ?_, ?_, by simp, ?_, congrArg (· ++ _) hraised, fun h => ?_, (.stickyRaise' (.after (State.holdBegins_outside ..) (.after (State.lockedOut_outside ..) (.refl _ _ _))))⟩
    · exact (congrArg (· == 1) ((State.get_put_other _ F.DRV_STICKY_VDRV_UV F.DRV_STATUS_LOCKOUT 1 (by decide)).trans (hget _ (by decide)))).trans hlocked
    · exact ((State.get_put_other _ F.DRV_STICKY_VDRV_UV _ 1 (by decide)).trans (hget _ (by decide))).trans (by simp [State.lockedOut])
    · exact ((State.get_put_other _ F.DRV_STICKY_VDRV_UV _ 1 (by decide)).trans (hget _ (by decide))).trans
        (by simpa [State.lockedOut] using satInc_lt 16 _)
    · exact (State.get_put_other _ F.DRV_STICKY_VDRV_UV _ 1 (by simp; omega)).trans (hgates hheld h h.isLt).1
  · have hexec : exec .vdrvLockout s = .next _ := if_pos hon
    rw [hlock, if_pos rfl] at hexec
    exact ⟨_, hexec, by simp, by simp, by simp, rfl, (.stickyRaise' (.put' (.put' (.refl _ _ _))))⟩
  · have hexec : exec .vdrvLockoutEnd s = .next (s.put F.DRV_STATUS_LOCKOUT 0).noteHolds := if_pos (by simp [hon, hlock, hok, hlate])
    exact ⟨_, hexec, (congrArg (· == 1) ((s.put F.DRV_STATUS_LOCKOUT 0).noteHolds_outside.get_eq F.DRV_STATUS_LOCKOUT (by simp))).trans (by simp), (.after (State.noteHolds_keeps ..) (.put' (.refl _ _ _)))⟩

end Sys2Proof.Machine
end

section
/-!
Proofs about metering (chapter 12): the enable.
The proofs are elaborated in turn: in one text, proofs that wait for each other would each hold a thread.
-/

set_option Elab.async false

namespace Sys2Proof.Machine

/-- HPA may enable metering of one phase, and software has moved the read count of the phase's voltage ring to 1. -/
def meterReady : State :=
  { ((((((State.reset.put F.SYS_PD_STATUS_DOMAIN_ON (2 ^ 6 + 2 ^ 10)).put F.EPOCH_STATUS_BAR_CAL_DONE 1).put F.METER_STATUS_VAULT_READY 1).put
      (calValidF 16) 1).put (calValidF 20) 1).put F.METER_CFG_CORR_SOURCE 1).wr (R.CH_RING_RD 16) 1 with
    img := { applied := some { header := [], sections := [⟨Sec.topology, 0, [0, 0, 0, 0, 3]⟩, ⟨Sec.metering, 0, []⟩] } } }

theorem meterReady_enables : meterReady.meterRefused .hpa = false ∧ 16 ∈ meterChs meterReady.gridTopo := by decide +kernel

/-- The enable sets the ring's base, size and RING_WR (R413), and leaves RING_RD where software put it (R143). -/
theorem meterReady_ringRd : (meterReady.meterEnable .hpa).rd (R.CH_RING_RD 16) = 1#32 := by decide +kernel

/-- Refutes O27: an enable of metering does not write RING_RD of the rings it claims, so one that software moved is not 0. -/
theorem not_meteringRunsStopsAndReads : ¬ Obligations.MeteringRunsStopsAndReads := by
  intro h
  obtain ⟨hallowed, hch⟩ := meterReady_enables
  obtain ⟨t, hexec, -, -, -, -, -, -, -, hrings, -⟩ := (h.1 meterReady).1 hallowed
  obtain rfl : meterReady.meterEnable .hpa = t := Host.Outcome.next.inj hexec
  obtain ⟨-, hrd, -⟩ := hrings 16 hch
  exact absurd (meterReady_ringRd.symm.trans hrd) (by decide)

end Sys2Proof.Machine
end

section
/-!
Proofs about the Vault (chapter 12): bytes of MRAM, a latch, the scan and compaction.
The proofs are elaborated in turn: in one text, proofs that wait for each other would each hold a thread.
-/

set_option Elab.async false

namespace Sys2Proof.Machine

/-! ### Bytes written below the system SRAM's window, and read again -/

theorem State.rdB_wrBytes_low : ∀ (l : List Byte) {s : State} {a b : Nat}, a + l.length ≤ 0x28000000 →
    (s.wrBytes a l).rdB b = if a ≤ memHome b ∧ memHome b < a + l.length then l.getD (memHome b - a) 0 else s.rdB b
  | [], s, a, b, _ => by rw [if_neg (by simp)]; rfl
  | x :: l, s, a, b, ha => by
    simp only [List.length_cons] at ha ⊢
    have hhome : memHome a = a := if_neg (by omega)
    rw [State.wrBytes, State.rdB_wrBytes_low l (by omega), State.rdB_wrB, hhome]
    by_cases hin : a + 1 ≤ memHome b ∧ memHome b < a + 1 + l.length
    · obtain ⟨k, hk⟩ : ∃ k, memHome b - a = k + 1 := ⟨memHome b - a - 1, by omega⟩
      rw [if_pos hin, if_pos (by omega), hk, List.getD_cons_succ]
      congr 1
      omega
    · rw [if_neg hin]
      by_cases heq : memHome b = a
      · rw [if_pos heq, if_pos (by omega), heq, Nat.sub_self, List.getD_cons_zero]
      · rw [if_neg heq, if_neg (by omega)]

theorem State.rdBytes_eq (s : State) (a n : Nat) : s.rdBytes a n = (List.range n).map fun i => s.rdB (a + i) := by
  induction n generalizing a with
  | zero => rfl
  | succ n ih =>
    rw [State.rdBytes, ih, List.range_succ_eq_map, List.map_cons, List.map_map, Nat.add_zero]
    congr 2
    funext i
    simp only [Function.comp, Nat.succ_eq_add_one]
    congr 1
    omega

/-- Bytes of a block that has been written: the same part of what was written. -/
theorem State.rdBytes_wrBytes_part (l : List Byte) {s : State} {a : Nat} (ha : a + l.length ≤ 0x28000000) {o n : Nat} (hn : o + n ≤ l.length) :
    (s.wrBytes a l).rdBytes (a + o) n = (l.drop o).take n := by
  rw [State.rdBytes_eq]
  refine List.ext_getElem (by simp; omega) fun i hi _ => ?_
  have hlt : i < n := by simpa using hi
  have hhome : memHome (a + o + i) = a + o + i := if_neg (by omega)
  rw [List.getElem_map, List.getElem_range, State.rdB_wrBytes_low l ha, hhome, if_pos (by omega), List.getElem_take, List.getElem_drop,
    List.getD_eq_getElem _ _ (by omega)]
  congr 1
  omega

theorem leNat_leBytes (n v : Nat) : leNat (leBytes n v) = v % 2 ^ (8 * n) := by
  induction n generalizing v with
  | zero => exact (Nat.mod_one v).symm
  | succ n ih =>
    have hsplit : 2 ^ (8 * (n + 1)) = 256 * 2 ^ (8 * n) := by rw [Nat.mul_succ, pow_add, Nat.mul_comm]; rfl
    rw [leBytes, leNat, ih, hsplit, Nat.mod_mul]
    rfl

theorem leNat_word {v : Nat} (h : v < 2 ^ 32) : leNat (leBytes 4 v) = v := (leNat_leBytes 4 v).trans (Nat.mod_eq_of_lt h)

theorem crc32Bit_lt {c : Nat} (h : c < 2 ^ 32) : crc32Bit c < 2 ^ 32 := by
  have hhalf : c / 2 < 2 ^ 32 := by omega
  unfold crc32Bit
  split
  · exact Nat.xor_lt_two_pow hhalf (by decide)
  · exact hhalf

theorem crc32Byte_lt {c : Nat} (b : Byte) (h : c < 2 ^ 32) : crc32Byte c b < 2 ^ 32 :=
  List.foldlRecOn (motive := (· < 2 ^ 32)) _ _ (Nat.xor_lt_two_pow h (Nat.lt_of_lt_of_le b.isLt (by decide))) fun _ hc _ _ => crc32Bit_lt hc

theorem crc32_lt (l : List Byte) : crc32 l < 2 ^ 32 :=
  Nat.xor_lt_two_pow (List.foldlRecOn (motive := (· < 2 ^ 32)) l _ (by decide) fun _ hc b _ => crc32Byte_lt b hc) (by decide)

theorem KeepsBytesOutside.refl (lo hi : Nat) (s : State) : KeepsBytesOutside lo hi s s := fun _ _ => rfl

theorem KeepsBytesOutside.trans {lo hi : Nat} {s t u : State} (h : KeepsBytesOutside lo hi s t) (k : KeepsBytesOutside lo hi t u) :
    KeepsBytesOutside lo hi s u := fun a ha => (k a ha).trans (h a ha)

theorem KeepsBytesOutside.of_mem {lo hi : Nat} {s t : State} (h : t.mem = s.mem) : KeepsBytesOutside lo hi s t := fun a _ => State.rdB_congr h a

theorem KeepsBytesOutside.wrBytes {lo hi a : Nat} {s t : State} (h : KeepsBytesOutside lo hi s t) (l : List Byte) (hlo : lo ≤ a)
    (hhi : a + l.length ≤ hi) (hlow : hi ≤ 0x20000000) : KeepsBytesOutside lo hi s (t.wrBytes a l) := fun b hb => by
  rw [State.rdB_wrBytes_low l (by omega), if_neg]
  · exact h b hb
  · unfold memHome
    split <;> omega

/-! ### The registers that a latch reaches -/

theorem Keeps.toOutside {fs : List Fld} {rs : List (Nat × Nat)} {ps : List Part} {s t : State} (h : Keeps fs ps s t)
    (hf : ∀ f ∈ fs, ∃ r ∈ rs, r.1 ≤ f.addr ∧ f.addr < r.2) : KeepsOutside rs ps s t := by
  refine ⟨fun a ha => h.rd_eq a fun f hmem => ?_, h.2⟩
  obtain ⟨r, hr, h1, h2⟩ := hf f hmem
  have hne : f.addr ≠ a := by have := ha r hr; omega
  simp [Fld.apart, whole, hne]

theorem KeepsOutside.widen {rs rs' : List (Nat × Nat)} {ps : List Part} {s t : State} (h : KeepsOutside rs ps s t)
    (hw : ∀ r ∈ rs, ∃ q ∈ rs', q.1 ≤ r.1 ∧ r.2 ≤ q.2) : KeepsOutside rs' ps s t :=
  ⟨fun a ha => h.1 a fun r hr => by obtain ⟨q, hq, h1, h2⟩ := hw r hr; have := ha q hq; omega, h.2⟩

theorem meterPhases_lt {t p : Nat} (h : p ∈ meterPhases t) : p < 3 := by
  have hle : topoPhases t ≤ 3 := by unfold topoPhases; split_ifs <;> decide
  have := List.mem_range.1 h
  omega

theorem mem_meterChs {t k : Nat} (h : k ∈ meterChs t) : 16 ≤ k ∧ k < 23 := by
  simp only [meterChs, List.mem_append, List.mem_map] at h
  obtain ⟨p, hp, rfl⟩ | ⟨p, hp, rfl⟩ := h <;> have := meterPhases_lt hp <;> omega

/-- The registers of the totals and of the last values, from METER_FREQ on. -/
def valueRegs : List (Nat × Nat) := [(0x40090020, 0x40091000)]

/-- METER_STICKY, and the registers of the totals and of the last values, from METER_FREQ on. -/
def latchRegs : List (Nat × Nat) := [(0x4009000C, 0x40090010), (0x40090020, 0x40091000)]

theorem State.latchMove_regs (s : State) {k : Nat} (hk : k < 16) : KeepsOutside latchRegs [.meter] s (s.latchMove k) := by
  have hq : k / 4 < 4 := by omega
  have hp : k % 4 < 4 := by omega
  refine .comp (t := s.modMeter fun m => { m with acc := m.acc.modify k fun x => x % 4294967296, tot := m.tot.modify k fun x => (x + s.meter.acc.get k / 4294967296) % 2 ^ 64 })
    (.ite' (.set1' (.wr' (.wr' (.refl _ _ _) ?_) ?_) ?_) (.wr' (.wr' (.refl _ _ _) ?_) ?_)) (.beside' (.refl _ _ _))
  all_goals simp [latchRegs]
  all_goals omega

theorem State.latchPhase_regs (s : State) {p : Nat} (x : PhaseInt) (len : Rat) (hp : p < 4) : KeepsOutside valueRegs [] s (s.latchPhase p x len) := by
  unfold State.latchPhase
  dsimp only
  refine .wr' (.wr' (.wr' (.wr' (.wr' (.wr' (.wr' (.refl _ _ _) ?_) ?_) ?_) ?_) ?_) ?_) ?_
  all_goals (simp [valueRegs]; omega)

theorem State.latchPublish_regs (s : State) : KeepsOutside valueRegs [] s s.latchPublish := by
  refine .ite' (.put' (.foldl' (.refl _ _ _) fun x hx t => t.latchPhase_regs _ _ ?_)) (.refl _ _ _)
  rcases List.mem_append.1 hx with hx | hx
  · obtain ⟨p, hp, rfl⟩ := List.mem_map.1 hx
    have := meterPhases_lt hp
    omega
  · rw [List.mem_singleton.1 hx]
    exact Nat.lt_succ_self 3

theorem State.latchInfo_regs (s : State) : KeepsOutside valueRegs [] s s.latchInfo :=
  .forEach' (.refl _ _ _) fun p hp t => .wr' (.refl _ _ _) (by have := meterPhases_lt hp; simp [valueRegs]; omega)

theorem State.latchTotals_regs (s : State) : KeepsOutside latchRegs [.meter] s s.latchTotals :=
  .after (State.latchInfo_regs _) (.after (State.latchPublish_regs _) (.forEach' (.refl _ _ _) fun _ hk t => t.latchMove_regs (List.mem_range.1 hk)))

/-! ### What a latch leaves of the metering's own record, and the bytes it may write -/

/-- The metering's record without its sums, its totals, its gap's record and the Vault's next record: what counts cycles, latches and waits. -/
def MeterState.counted (m : MeterState) : MeterState :=
  { m with gapAll := 0, acc := [], tot := [], ph := [], slot := 0, seq := 0, recOvr := false, recGap := false }

/-- Cycles, latches and what waits are the same. -/
def SameCounts (s t : State) : Prop := t.meter.counted = s.meter.counted

theorem SameCounts.refl (s : State) : SameCounts s s := rfl

theorem SameCounts.trans {s t u : State} (h : SameCounts s t) (k : SameCounts t u) : SameCounts s u := Eq.trans k h

theorem SameCounts.of_meter {s t : State} (h : t.meter = s.meter) : SameCounts s t := congrArg MeterState.counted h

theorem State.latchMove_counts (s : State) (k : Nat) : SameCounts s (s.latchMove k) := by
  unfold State.latchMove
  dsimp only
  split <;> rfl

theorem State.latchTotals_counts (s : State) : SameCounts s s.latchTotals := by
  have hmoves : SameCounts s (s.forEach (List.range 16) State.latchMove) :=
    State.forEach_inv (P := SameCounts s) (fun k _ t ht => ht.trans (t.latchMove_counts k)) _ (.refl s)
  exact hmoves.trans ((SameCounts.of_meter ((State.latchPublish_regs _).2 .meter (by decide))).trans
    (.of_meter ((State.latchInfo_regs _).2 .meter (by decide))))

theorem State.wrBytes_meter (s : State) (a : Nat) (l : List Byte) : (s.wrBytes a l).meter = s.meter :=
  (KeepsOutside.wrBytes' (rs := []) (ps := [.mem]) (.refl _ _ s)).2 .meter (by decide)

theorem State.drewN_counts (s : State) (n : Nat) : SameCounts s (s.drewN n) := rfl

theorem State.vaultPut_counts (s : State) (k : Nat) (bs : List Byte) (bad : Bool) : SameCounts s (s.vaultPut k bs bad) := by
  unfold State.vaultPut
  split
  · exact (SameCounts.of_meter (State.wrBytes_meter ..)).trans (State.drewN_counts ..)
  · exact (SameCounts.of_meter (State.wrBytes_meter s (vaultSlot k) bs)).trans rfl

/-- What holds of each put of a record, and of what is noted after it, holds of the whole write. -/
theorem State.vaultWrite_rel {r : State → State → Prop} (s : State) (bs : List Byte) (bad : Nat) (hrefl : ∀ t, r t t)
    (htrans : ∀ {t u v}, r t u → r u v → r t v) (hput : ∀ (t : State) k b, r t (t.vaultPut k bs b)) (hnext : ∀ t : State, r t t.vaultNext)
    (hraise : ∀ (t : State) n, r t (t.raise n)) : r s (s.vaultWrite bs bad) := by
  have hagain (t : State) k : r t (if bad = 0 then t else t.vaultPut k bs (bad != 1)) := by
    split
    · exact hrefl t
    · exact hput t k _
  have hend (t : State) : r t (if bad = 0 ∨ bad = 1 then t else t.raise FS.METER_VAULT_WRITE) := by
    split
    · exact hrefl t
    · exact hraise t _
  exact htrans (hput s _ _) (htrans (hagain _ _) (htrans (hnext _) (hend _)))

theorem State.vaultWrite_counts (s : State) (bs : List Byte) (bad : Nat) : SameCounts s (s.vaultWrite bs bad) :=
  s.vaultWrite_rel bs bad .refl .trans (fun t k b => t.vaultPut_counts k bs b) (fun _ => rfl) fun _ _ => rfl

/-- The Vault's records and its tally words (R428, R433). -/
abbrev KeepsBesideVault (s t : State) : Prop := KeepsBytesOutside 0x10FE0000 0x10FF1000 s t

theorem vaultSlot_bounds (k : Nat) : 0x10FE0000 ≤ vaultSlot k ∧ vaultSlot k + 0x40 ≤ 0x10FF0000 := by
  unfold vaultSlot
  omega

theorem vaultRecord_length (ty fl seq latch rtc acc gap : Nat) {e : List Nat} (he : e.length = 4) :
    (vaultRecord ty fl seq latch rtc e acc gap).length = 64 := by
  obtain ⟨a, b, c, d, rfl⟩ : ∃ a b c d, e = [a, b, c, d] := List.length_eq_four.1 he
  simp [vaultRecord, leBytes_length]

theorem State.drawBytes_length (s : State) (n : Nat) : (s.drawBytes n).length = n := by
  rw [State.drawBytes, List.length_map, List.length_range]

theorem State.drewN_bytes (s : State) (n : Nat) : KeepsBesideVault s (s.drewN n) := .of_mem rfl

theorem State.vaultPut_bytes (s : State) (k : Nat) {bs : List Byte} (bad : Bool) (h : bs.length = 64) : KeepsBesideVault s (s.vaultPut k bs bad) := by
  obtain ⟨hlo, hhi⟩ := vaultSlot_bounds k
  unfold State.vaultPut
  split
  · have hlen := s.drawBytes_length 64
    exact (KeepsBytesOutside.wrBytes (.refl _ _ s) (s.drawBytes 64) hlo (by omega) (by decide)).trans
      (State.drewN_bytes (s.wrBytes (vaultSlot k) (s.drawBytes 64)) 64)
  · exact (KeepsBytesOutside.wrBytes (.refl _ _ s) bs hlo (by omega) (by decide)).trans (.of_mem rfl)

theorem State.vaultWrite_bytes (s : State) {bs : List Byte} (bad : Nat) (h : bs.length = 64) : KeepsBesideVault s (s.vaultWrite bs bad) :=
  s.vaultWrite_rel bs bad (.refl _ _) .trans (fun t k b => t.vaultPut_bytes k b h) (fun _ => .of_mem rfl) fun _ _ => .of_mem rfl

/-- The part of a latch behind its totals and its number: the record that may be due, the tally word, and the flag (R421, R430, R433). -/
def State.latchStored (s : State) (n bad : Nat) : State :=
  let ev := s.get F.METER_CFG_VAULT_EVERY
  let s := if ev ≠ 0 ∧ n % ev = 0 then s.vaultWrite (s.vaultBytes 1) bad else s
  ((s.wrW (tallySlot s.meter.talSlot) (w32 (tallyWord n))).modMeter fun m => { m with talSlot := (m.talSlot + 1) % 1024 }).set1
    F.METER_STICKY_LATCH

theorem State.latch_eq (s : State) (e bad : Nat) : s.latch e bad =
    (((s.latchTotals.wr R.METER_LATCH_NO (w32 (((s.latchTotals.rd R.METER_LATCH_NO).toNat + 1) % 2 ^ 32))).wr R.METER_LATCH_TICK (w32 e)).modMeter
      fun m => { m with n := 0, len := 0, ph := [], due := none }).latchStored (((s.latchTotals.rd R.METER_LATCH_NO).toNat + 1) % 2 ^ 32) bad := rfl

/-! ### The scan's stages (R431) -/

/-- The totals, slots and sequence number that the scan finds (R431), before the registers. -/
def State.scanMeter (s : State) : State :=
  let r := s.vaultNewest
  let l := match r with | some k => s.vaultFld k 8 4 | none => 0
  let tot : SMap Nat := (List.range 4).foldl (fun (m : SMap Nat) q =>
    m.set (4 * q + 3) (match r with
      | some k => if 2 ≤ q ∧ !s.meterFull then 0 else s.vaultFld k (0x10 + 8 * q) 8
      | none => 0)) []
  s.modMeter fun m =>
    { m with tot := tot, slot := (match r with | some k => (k + 1) % 1024 | none => 0),
             seq := (match r with | some k => (s.vaultFld k 4 4 + 1) % 2 ^ 32 | none => 0),
             talSlot := (match s.tallyHighest l with | some x => (x.1 + 1) % 1024 | none => 0),
             gapBase := (match r with | some k => s.vaultFld k 0x34 4 | none => 0) }

/-- The registers of the four totals. -/
def State.scanTotals (s : State) : State :=
  s.forEach (List.range 4) fun s q => s.wr (R.METER_TOT_LO q 3) (w32 (s.meter.tot.get (4 * q + 3)))

/-- The scan's counts and flags. -/
def State.scanEnd (s : State) (bad : Nat × Nat) (r : Option Nat) (l : Nat) (tn : Int) (gap : Nat) : State :=
  let s := s.put F.METER_VAULT_BAD (satTo 16 (s.get F.METER_VAULT_BAD + bad.1))
  let s := if bad.1 + bad.2 ≠ 0 then s.set1 F.METER_STICKY_VAULT_CRC else s
  let s := if s.vaultWhole r l tn then s else (s.stickyRaise F.METER_STICKY_VAULT_GAP FS.METER_VAULT_GAP).put F.METER_VAULT_GAP_LATCHES gap
  s.put F.METER_STATUS_VAULT_READY 1

theorem State.drewN_keeps (s : State) (n : ℕ) :
    Keeps [] [.draws] s (s.drewN n) :=
  .beside' (.refl _ _ _)

theorem State.modMeter_keeps (s : State) (f : MeterState → MeterState) :
    Keeps [] [.meter] s (s.modMeter f) :=
  .beside' (.refl _ _ _)

theorem State.vaultPut_keeps (s : State) (k : ℕ) (bs : List Byte) (bad : Bool) :
    Keeps [] [.draws, .mem, .meter] s (s.vaultPut k bs bad) :=
  .ite' (.after (State.drewN_keeps ..) (.wrBytes' (.refl _ _ _))) (.after (State.modMeter_keeps ..) (.wrBytes' (.refl _ _ _)))

theorem State.vaultNext_keeps (s : State) :
    Keeps [] [.meter] s s.vaultNext :=
  .after (State.modMeter_keeps ..) (.refl _ _ _)

theorem State.vaultWrite_keeps (s : State) (bs : List Byte) (bad : ℕ) :
    Keeps [] [.draws, .mem, .meter, .raised] s (s.vaultWrite bs bad) :=
  .comp (.comp (.ite' (.refl _ _ _) (.raise' (.refl _ _ _))) (.after (State.vaultNext_keeps ..) (.ite' (.refl _ _ _) (.after (State.vaultPut_keeps ..) (.refl _ _ _))))) (.after (State.vaultPut_keeps ..) (.refl _ _ _))

theorem State.latchStored_keeps (s : State) (n : ℕ) (bad : ℕ) :
    Keeps [F.METER_STICKY_LATCH] [.draws, .mem, .meter, .raised] s (s.latchStored n bad) :=
  .set1' (.after (State.modMeter_keeps ..) (.wrW' (.ite' (.after (State.vaultWrite_keeps ..) (.refl _ _ _)) (.refl _ _ _))))

theorem State.drewN_outside (s : State) (n : ℕ) :
    KeepsOutside [] [.draws] s (s.drewN n) :=
  .beside' (.refl _ _ _)

theorem State.modMeter_outside (s : State) (f : MeterState → MeterState) :
    KeepsOutside [] [.meter] s (s.modMeter f) :=
  .beside' (.refl _ _ _)

theorem State.vaultPut_outside (s : State) (k : ℕ) (bs : List Byte) (bad : Bool) :
    KeepsOutside [] [.draws, .mem, .meter] s (s.vaultPut k bs bad) :=
  .ite' (.after (State.drewN_outside ..) (.wrBytes' (.refl _ _ _))) (.after (State.modMeter_outside ..) (.wrBytes' (.refl _ _ _)))

theorem State.vaultNext_outside (s : State) :
    KeepsOutside [] [.meter] s s.vaultNext :=
  .after (State.modMeter_outside ..) (.refl _ _ _)

theorem State.vaultWrite_outside (s : State) (bs : List Byte) (bad : ℕ) :
    KeepsOutside [] [.draws, .mem, .meter, .raised] s (s.vaultWrite bs bad) :=
  .comp (.comp (.ite' (.refl _ _ _) (.raise' (.refl _ _ _))) (.after (State.vaultNext_outside ..) (.ite' (.refl _ _ _) (.after (State.vaultPut_outside ..) (.refl _ _ _))))) (.after (State.vaultPut_outside ..) (.refl _ _ _))

theorem State.latchStored_outside (s : State) (n : ℕ) (bad : ℕ) :
    KeepsOutside [zone R.METER_CTRL] [.draws, .mem, .meter, .raised] s (s.latchStored n bad) :=
  .set1' (.after (State.modMeter_outside ..) (.wrW' (.ite' (.after (State.vaultWrite_outside ..) (.refl _ _ _)) (.refl _ _ _))))

theorem State.scanEnd_keeps (s : State) (bad : ℕ × ℕ) (r : Option ℕ) (l : ℕ) (tn : ℤ) (gap : ℕ) :
    Keeps [F.METER_VAULT_BAD, F.METER_STICKY_VAULT_CRC, F.METER_VAULT_GAP_LATCHES, F.METER_STICKY_VAULT_GAP, F.METER_STATUS_VAULT_READY] [.raised] s (s.scanEnd bad r l tn gap) :=
  .comp (.put' (.ite' (.refl _ _ _) (.put' (.stickyRaise' (.refl _ _ _))))) (.ite' (.set1' (.put' (.refl _ _ _))) (.put' (.refl _ _ _)))

theorem State.scanEnd_outside (s : State) (bad : ℕ × ℕ) (r : Option ℕ) (l : ℕ) (tn : ℤ) (gap : ℕ) :
    KeepsOutside [zone R.METER_CTRL] [.raised] s (s.scanEnd bad r l tn gap) :=
  .comp (.put' (.ite' (.refl _ _ _) (.put' (.stickyRaise' (.refl _ _ _))))) (.ite' (.set1' (.put' (.refl _ _ _))) (.put' (.refl _ _ _)))

theorem State.latchStored_regs (t : State) (n bad : Nat) : Keeps [F.METER_STICKY_LATCH] [.mem, .raised, .draws, .meter] t (t.latchStored n bad) := (.after (State.latchStored_keeps ..) (.refl _ _ _))

theorem State.vaultWrite_regs (t : State) (bs : List Byte) (bad : Nat) : Keeps [] [.mem, .raised, .draws, .meter] t (t.vaultWrite bs bad) := (.after (State.vaultWrite_keeps ..) (.refl _ _ _))

theorem State.latchStored_zone (t : State) (n bad : Nat) : KeepsOutside [zone R.METER_CTRL] [.mem, .raised, .draws, .meter] t (t.latchStored n bad) := (.after (State.latchStored_outside ..) (.refl _ _ _))

theorem State.wrW_meter (s : State) (a : Nat) (v : Word) : (s.wrW a v).meter = s.meter := s.wrBytes_meter a _

/-- What holds of the write of a record and of a tally word, and of what is noted after it, holds of what a latch stores. -/
theorem State.latchStored_rel {r : State → State → Prop} (s : State) (n bad : Nat) (hrefl : ∀ t, r t t)
    (htrans : ∀ {t u v}, r t u → r u v → r t v) (hwrite : ∀ t : State, r t (t.vaultWrite (t.vaultBytes 1) bad))
    (htally : ∀ (t : State) k w, r t (t.wrW (tallySlot k) w)) (hnext : ∀ (t : State), r t (t.modMeter fun m => { m with talSlot := (m.talSlot + 1) % 1024 }))
    (hflag : ∀ (t : State), r t (t.set1 F.METER_STICKY_LATCH)) : r s (s.latchStored n bad) := by
  have hrecord : r s (if s.get F.METER_CFG_VAULT_EVERY ≠ 0 ∧ n % s.get F.METER_CFG_VAULT_EVERY = 0 then s.vaultWrite (s.vaultBytes 1) bad else s) := by
    split
    · exact hwrite s
    · exact hrefl s
  exact htrans (htrans (htrans hrecord (htally _ _ _)) (hnext _)) (hflag _)

theorem State.latchStored_counts (s : State) (n bad : Nat) :
    (s.latchStored n bad).meter.counted = { s.meter.counted with talSlot := (s.meter.talSlot + 1) % 1024 } := by
  have hrecord : SameCounts s (if s.get F.METER_CFG_VAULT_EVERY ≠ 0 ∧ n % s.get F.METER_CFG_VAULT_EVERY = 0 then s.vaultWrite (s.vaultBytes 1) bad else s) := by
    split
    · exact s.vaultWrite_counts _ bad
    · exact .refl s
  have htally (t : State) (w : Word) : SameCounts t (t.wrW (tallySlot t.meter.talSlot) w) := .of_meter (t.wrW_meter _ w)
  exact congrArg (fun m : MeterState => { m with talSlot := (m.talSlot + 1) % 1024 }) (hrecord.trans (htally _ _))

theorem State.vaultBytes_length (s : State) (ty : Nat) : (s.vaultBytes ty).length = 64 :=
  vaultRecord_length _ _ _ _ _ _ _ (by simp [State.vaultSums])

theorem State.wrW_tally_bytes (s : State) (k : Nat) (w : Word) : KeepsBesideVault s (s.wrW (tallySlot k) w) := by
  have hslot : tallySlot k = 0x10FF0000 + 4 * (k % 1024) := rfl
  have hlen := leBytes_length 4 w.toNat
  exact .wrBytes (.refl _ _ s) _ (by omega) (by omega) (by decide)

theorem State.latchStored_bytes (s : State) (n bad : Nat) : KeepsBesideVault s (s.latchStored n bad) :=
  s.latchStored_rel n bad (.refl _ _) .trans (fun t => t.vaultWrite_bytes _ (t.vaultBytes_length 1)) (fun t k w => t.wrW_tally_bytes k w)
    (fun _ => .of_mem rfl) fun _ => .of_mem rfl

theorem State.latchTotals_bytes (s : State) : KeepsBesideVault s s.latchTotals := fun a _ => (s.latchTotals_regs.2 .mem (by decide)).1 a

theorem State.latch_bytes (s : State) (e bad : Nat) : KeepsBesideVault s (s.latch e bad) := by
  rw [State.latch_eq]
  exact s.latchTotals_bytes.trans (KeepsBytesOutside.trans (.of_mem rfl) (State.latchStored_bytes _ _ _))

/-- A latch begins a new interval, and its tally word's slot is the next one (R421, R433). -/
theorem State.latch_counts (s : State) (e bad : Nat) : (s.latch e bad).meter.counted =
    { s.meter.counted with n := 0, len := 0, due := none, talSlot := (s.meter.talSlot + 1) % 1024 } := by
  rw [State.latch_eq]
  exact (State.latchStored_counts _ _ _).trans
    (congrArg (fun m : MeterState => { m with n := 0, len := 0, due := none, talSlot := (m.talSlot + 1) % 1024 }) s.latchTotals_counts)

theorem State.latch_stopAt (s : State) (e bad : Nat) : (s.latch e bad).meter.stopAt = s.meter.stopAt := (congrArg MeterState.stopAt (s.latch_counts e bad) :)

theorem State.latch_due (s : State) (e bad : Nat) : (s.latch e bad).meter.due = none := (congrArg MeterState.due (s.latch_counts e bad) :)

theorem State.latch_regs (s : State) (e bad : Nat) : (s.latch e bad).rd R.METER_LATCH_NO = s.rd R.METER_LATCH_NO + 1#32 ∧
    (s.latch e bad).rd R.METER_LATCH_TICK = BitVec.ofNat 32 e := by
  have hno := s.latchTotals_regs.1 R.METER_LATCH_NO (by decide)
  have hstored (t : State) (n : Nat) (a : Nat) (ha : a ≠ R.METER_STICKY) : (t.latchStored n bad).rd a = t.rd a := (t.latchStored_regs n bad).rd_eq _ (by simp [whole, Ne.symm ha])
  rw [State.latch_eq, hstored _ _ _ (by decide), hstored _ _ _ (by decide), hno]
  refine ⟨?_, by simp [State.modMeter, w32]⟩
  simpa [State.modMeter, w32] using BitVec.eq_of_toNat_eq (by simp)

theorem State.latch_outside (s : State) (e bad : Nat) : KeepsOutside [zone R.METER_CTRL] [.mem, .raised, .draws, .meter] s (s.latch e bad) := by
  have htotals : KeepsOutside [zone R.METER_CTRL] [.meter] s s.latchTotals :=
    s.latchTotals_regs.widen (by decide)
  rw [State.latch_eq]
  exact .after (State.latchStored_zone _ _ _) (.after (State.modMeter_outside ..) (.wr' (.wr' (.after htotals (.refl _ _ s)))))

/-! ### The end of metering -/

/-- METER_CTRL and METER_STATUS, and the channels of the grid side. -/
def stopRegs : List (Nat × Nat) := [(0x40090000, 0x4009000C), zone R.SENSG_STATUS]

theorem State.meterStop_regs (s : State) : KeepsOutside stopRegs [.sens, .meter] s s.meterStop :=
  .ite' (.after (State.modMeter_outside ..) (.forEach' (.put' (.put' (.put' (.refl _ _ _)))) fun k hk t =>
    have hk := mem_meterChs hk
    .after (State.modCh_outside ..) (.put' (.refl _ _ _) (by
      rw [stopRegs]
      simp [zone, show ¬ k < 16 by omega]
      omega)))) (.refl _ _ _)

theorem State.meterStopCheck_regs (s : State) : KeepsOutside stopRegs [.sens, .meter] s s.meterStopCheck := by
  unfold State.meterStopCheck
  split
  · exact .ite' (.refl _ _ _) s.meterStop_regs
  · exact .refl _ _ _

theorem State.meterStopCheck_outside (s : State) : KeepsOutside [zone R.METER_CTRL, zone R.SENSG_STATUS] [.sens, .meter] s s.meterStopCheck :=
  s.meterStopCheck_regs.widen (by decide)

theorem State.meterStop_due {s : State} (h : s.meter.due = none) : s.meterStop.meter.due = none := by
  unfold State.meterStop
  split
  · rfl
  · exact h

theorem State.meterStopCheck_due {s : State} (h : s.meter.due = none) : s.meterStopCheck.meter.due = none := by
  unfold State.meterStopCheck
  split
  · split
    · exact h
    · exact State.meterStop_due h
  · exact h

/-- The end of metering leaves the latch's registers. -/
theorem State.meterStopCheck_rd (s : State) {a : Nat} (hlo : 0x4009000C ≤ a) (hhi : a < 0x400A0000) : s.meterStopCheck.rd a = s.rd a :=
  s.meterStopCheck_regs.1 a (by simp [stopRegs, zone]; omega)

theorem State.vaultWhole_none (s : State) (l : Nat) (n : Int) : s.vaultWhole none l n = false := rfl

theorem State.vaultWhole_congr {s t : State} (h : t.mem = s.mem) (r : Option Nat) (l : Nat) (n : Int) : t.vaultWhole r l n = s.vaultWhole r l n := by
  cases r <;> simp only [State.vaultWhole, State.vaultFld, State.rdBytes_congr h]

theorem State.scanTotals_regs (s : State) : KeepsOutside [(0x40090100, 0x40090200)] [] s s.scanTotals :=
  .forEach' (.refl _ _ _) fun q hq t => .wr' (.refl _ _ _) (by have hq := List.mem_range.1 hq; simp; omega)

theorem State.scanTotals_rd (s : State) (q : Fin 4) : s.scanTotals.rd (R.METER_TOT_LO q 3) = w32 (s.meter.tot.get (4 * q + 3)) := by
  fin_cases q <;> simp [State.scanTotals, State.forEach, List.range_succ]

theorem State.scanEnd_frame (s : State) (bad : Nat × Nat) (r : Option Nat) (l : Nat) (tn : Int) (gap : Nat) :
    Keeps [F.METER_VAULT_BAD, F.METER_STICKY_VAULT_CRC, F.METER_STICKY_VAULT_GAP, F.METER_VAULT_GAP_LATCHES, F.METER_STATUS_VAULT_READY] [.raised] s
      (s.scanEnd bad r l tn gap) := (.after (State.scanEnd_keeps ..) (.refl _ _ _))

theorem State.scanEnd_zone (s : State) (bad : Nat × Nat) (r : Option Nat) (l : Nat) (tn : Int) (gap : Nat) :
    KeepsOutside [zone R.METER_CTRL] [.raised] s (s.scanEnd bad r l tn gap) := (.after (State.scanEnd_outside ..) (.refl _ _ _))

theorem State.scanEnd_facts (s : State) (bad : Nat × Nat) (r : Option Nat) (l : Nat) (tn : Int) (gap : Nat) :
    (s.scanEnd bad r l tn gap).flag F.METER_STATUS_VAULT_READY = true ∧
    (bad.1 + bad.2 ≠ 0 → (s.scanEnd bad r l tn gap).get F.METER_STICKY_VAULT_CRC = 1) ∧
    (s.vaultWhole r l tn = false → (s.scanEnd bad r l tn gap).get F.METER_STICKY_VAULT_GAP = 1 ∧
      (s.scanEnd bad r l tn gap).raised = s.raised ++ [⟨FS.METER_VAULT_GAP, 0⟩]) ∧
    (s.vaultWhole r l tn = true → (s.scanEnd bad r l tn gap).raised = s.raised ∧
      (s.scanEnd bad r l tn gap).get F.METER_STICKY_VAULT_GAP = s.get F.METER_STICKY_VAULT_GAP) := by
  refine ⟨by simp [State.scanEnd], fun h => ?_, fun h => ?_, fun h => ?_⟩
  · simp only [State.scanEnd, if_pos h]
    split <;> simp
  · simp only [State.scanEnd]
    rw [if_neg]
    · split <;> exact ⟨by simp, rfl⟩
    · rw [State.vaultWhole_congr (s := s) (by split <;> rfl), h]
      exact Bool.false_ne_true
  · simp only [State.scanEnd]
    rw [if_pos]
    · split <;> exact ⟨rfl, by simp⟩
    · rw [State.vaultWhole_congr (s := s) (by split <;> rfl), h]

/-- The latch number of the newest record, and the highest one of the tally. -/
def State.scanRecord (s : State) : Nat := match s.vaultNewest with | some k => s.vaultFld k 8 4 | none => 0

def State.scanTally (s : State) : Int := match s.tallyHighest s.scanRecord with | some x => x.2 | none => 0

/-- The latches that the gap may have lost. -/
def State.scanGap (s : State) : Nat :=
  let n := satTo 16 (s.scanTally - s.scanRecord + 1).toNat
  if s.get F.METER_CFG_VAULT_EVERY = 0 then n else min (s.get F.METER_CFG_VAULT_EVERY) n

/-- The state that the scan's last stage takes: the new totals, and VAULT_NEW or the latch number. -/
def State.scanFound (s : State) : State :=
  if s.vaultNewest.isNone then s.scanMeter.scanTotals.put F.METER_STATUS_VAULT_NEW 1
  else s.scanMeter.scanTotals.wr R.METER_LATCH_NO (w32 (max s.scanTally (s.scanRecord : Int)).toNat)

theorem State.vaultScan_eq (s : State) :
    s.vaultScan = s.scanFound.scanEnd s.vaultBad s.vaultNewest s.scanRecord s.scanTally s.scanGap := by
  unfold State.vaultScan State.scanFound State.scanEnd State.scanMeter State.scanTotals State.scanGap State.scanTally State.scanRecord
  generalize s.vaultNewest = r
  generalize s.vaultBad = bad
  cases r with
  | none =>
    dsimp only <;> generalize s.tallyHighest _ = t <;> rfl
  | some k =>
    dsimp only <;> generalize s.tallyHighest _ = t <;> rfl

theorem State.scanFound_frame (s : State) : Keeps [F.METER_STATUS_VAULT_NEW, whole R.METER_LATCH_NO] [] s.scanMeter.scanTotals s.scanFound :=
  .ite' (.put' (.refl _ _ _)) (.wr' (.refl _ _ _))

theorem State.vaultScan_meter (s : State) : s.vaultScan.meter = s.scanMeter.meter := by
  rw [State.vaultScan_eq]
  exact ((State.scanEnd_frame ..).2 .meter (by decide)).trans ((s.scanFound_frame.2 .meter (by decide)).trans (s.scanMeter.scanTotals_regs.2 .meter (by decide)))

theorem State.vaultScan_total (s : State) (q : Fin 4) : s.vaultScan.rd (R.METER_TOT_LO q 3) = w32 (s.scanMeter.meter.tot.get (4 * q + 3)) := by
  rw [State.vaultScan_eq, ← State.scanTotals_rd]
  exact ((State.scanEnd_frame ..).rd_eq _ (by simp [whole]; omega)).trans (s.scanFound_frame.rd_eq _ (by simp [whole]; omega))

theorem State.scanMeter_mem (s : State) : s.scanMeter.mem = s.mem := by
  unfold State.scanMeter
  exact State.modMeter_mem ..

theorem State.scanTotals_mem (s : State) : s.scanTotals.mem = s.mem := by
  unfold State.scanTotals
  exact State.forEach_inv (P := fun t => t.mem = s.mem) (fun _ _ t ht => (t.wr_mem _ _).trans ht) s rfl

theorem State.scanFound_mem (s : State) : s.scanFound.mem = s.mem := by
  have hmem := s.scanMeter.scanTotals_mem.trans s.scanMeter_mem
  unfold State.scanFound
  split
  · exact (State.put_mem ..).trans hmem
  · exact (State.wr_mem ..).trans hmem

theorem State.scanMeter_keeps (s : State) : Keeps [] [.meter] s s.scanMeter := by
  unfold State.scanMeter
  exact .beside' (.refl _ _ s)

theorem State.scanFound_raised (s : State) : s.scanFound.raised = s.raised :=
  (s.scanFound_frame.2 .raised (by decide)).trans ((s.scanMeter.scanTotals_regs.2 .raised (by decide)).trans (s.scanMeter_keeps.2 .raised (by decide)))

theorem State.scanMeter_total (s : State) (q : Fin 4) : s.scanMeter.meter.tot.get (4 * q + 3) =
    match s.vaultNewest with
    | some k => if 2 ≤ q.val ∧ !s.meterFull then 0 else s.vaultFld k (0x10 + 8 * q) 8
    | none => 0 := by
  unfold State.scanMeter
  generalize s.vaultNewest = r
  cases r <;> fin_cases q <;> simp [State.modMeter, List.range_succ, SMap.get_set]

theorem State.vaultScan_outside (s : State) : KeepsOutside [zone R.METER_CTRL] [.raised, .meter] s s.vaultScan := by
  have hmeter : KeepsOutside [] [.meter] s s.scanMeter := ⟨fun a _ => s.scanMeter_keeps.rd_eq a (by simp), s.scanMeter_keeps.2⟩
  have htotals : KeepsOutside [zone R.METER_CTRL] [.meter] s s.scanMeter.scanTotals :=
    .after (KeepsOutside.widen (rs' := [zone R.METER_CTRL]) s.scanMeter.scanTotals_regs (by decide)) (.after hmeter (.refl _ _ s))
  rw [State.vaultScan_eq]
  exact .after (State.scanEnd_zone _ _ _ _ _ _) (.ite' (.put' (.after htotals (.refl _ _ s))) (.wr' (.after htotals (.refl _ _ s))))

theorem State.scanMeter_next (s : State) :
    s.scanMeter.meter.slot = (match s.vaultNewest with | some k => (k + 1) % 1024 | none => 0) ∧
    s.scanMeter.meter.seq = (match s.vaultNewest with | some k => (s.vaultFld k 4 4 + 1) % 2 ^ 32 | none => 0) := by
  unfold State.scanMeter
  generalize s.vaultNewest = r
  cases r <;> exact ⟨rfl, rfl⟩

/-- What the scan leaves in registers, for any newest record (R431). -/
theorem State.vaultScan_facts (s : State) : s.vaultScan.flag F.METER_STATUS_VAULT_READY = true ∧
    (s.vaultBad ≠ (0, 0) → s.vaultScan.get F.METER_STICKY_VAULT_CRC = 1) ∧
    (s.vaultWhole s.vaultNewest s.scanRecord s.scanTally = false → s.vaultScan.get F.METER_STICKY_VAULT_GAP = 1 ∧
      s.vaultScan.raised = s.raised ++ [⟨FS.METER_VAULT_GAP, 0⟩]) ∧
    (s.vaultWhole s.vaultNewest s.scanRecord s.scanTally = true → s.vaultScan.raised = s.raised ∧
      s.vaultScan.get F.METER_STICKY_VAULT_GAP = s.get F.METER_STICKY_VAULT_GAP) := by
  obtain ⟨hready, hcrc, hgap, hwhole⟩ := s.scanFound.scanEnd_facts s.vaultBad s.vaultNewest s.scanRecord s.scanTally s.scanGap
  have hsame := State.vaultWhole_congr s.scanFound_mem s.vaultNewest s.scanRecord s.scanTally
  have hraised := s.scanFound_raised
  have hsticky : s.scanFound.get F.METER_STICKY_VAULT_GAP = s.get F.METER_STICKY_VAULT_GAP :=
    (s.scanFound_frame.get_eq _ (by decide)).trans ((s.scanMeter.scanTotals_regs.get_eq _ (by decide)).trans (s.scanMeter_keeps.get_eq _ (by decide)))
  have hwhole' (h : s.vaultWhole s.vaultNewest s.scanRecord s.scanTally = true) := hwhole (hsame.trans h)
  have hgap' (h : s.vaultWhole s.vaultNewest s.scanRecord s.scanTally = false) := hgap (hsame.trans h)
  rw [hraised] at hwhole' hgap'
  rw [hsticky] at hwhole'
  rw [State.vaultScan_eq]
  exact ⟨hready, fun h => hcrc fun h0 => h (Prod.ext (by omega) (by omega)), hgap', hwhole'⟩

theorem State.vaultScan_new {s : State} (h : s.vaultNewest = none) : s.vaultScan.get F.METER_STATUS_VAULT_NEW = 1 := by
  rw [State.vaultScan_eq, State.scanFound, h, Option.isNone_none, if_pos rfl]
  exact ((State.scanEnd_frame ..).get_eq _ (by decide)).trans (State.get_put_same _ _ _ (by decide))

theorem State.vaultScan_latchNo {s : State} {k : Nat} (h : s.vaultNewest = some k) :
    s.vaultScan.rd R.METER_LATCH_NO = w32 (max s.scanTally (s.scanRecord : Int)).toNat := by
  rw [State.vaultScan_eq, State.scanFound, h, Option.isNone_some, if_neg Bool.false_ne_true]
  exact ((State.scanEnd_frame ..).rd_eq _ (by decide)).trans (State.rd_wr_same ..)

/-! ### Compaction (R437) -/

theorem State.maintEnd_ran {s : State} {c : Nat} (hc : c < 32) (r : MaintResult) (h : s.maintRuns c = true) :
    (s.maintEnd c r).maintRuns c = false ∧ (s.maintEnd c r).get (F.DIAG_MAINT_RESULT_RESULT c) = r.code := by
  have hbit (t : State) : t.maintRuns c = (t.get ⟨R.DIAG_MAINT_RUN, c, 1⟩ == 1) := bitOf_eq_bitsOf _ _
  rw [State.maintEnd, if_pos h, hbit]
  have hrun : c + 1 ≤ 32 := hc
  constructor
  · rw [State.get_put_other, State.get_put_other, State.get_put_same]
    all_goals simp <;> omega
  · rw [State.get_put_same _ _ _ (by simp)]
    cases r <;> rfl

/-- A record that has been written well stands in its slot, and the next one goes to the slot after it. -/
theorem State.vaultWrite_well (s : State) (bs : List Byte) : (s.vaultWrite bs 0).meter.slot = (s.meter.slot + 1) % 1024 ∧
    (s.vaultWrite bs 0).mem = (s.wrBytes (vaultSlot s.meter.slot) bs).mem := by
  simp [State.vaultWrite, State.vaultPut, State.vaultNext, State.modMeter]

theorem leNat_lt (l : List Byte) : leNat l < 2 ^ (8 * l.length) := by
  induction l with
  | nil => decide
  | cons b l ih =>
    have hb := b.isLt
    rw [leNat, List.length_cons, Nat.mul_succ, pow_add]
    omega

theorem State.vaultFld_lt (s : State) (k o n : Nat) : s.vaultFld k o n < 2 ^ (8 * n) := by
  have hlen : (s.rdBytes (vaultSlot k + o) n).length = n := by rw [State.rdBytes_eq, List.length_map, List.length_range]
  have hlt := leNat_lt (s.rdBytes (vaultSlot k + o) n)
  rwa [hlen] at hlt

theorem vaultRecord_parts (ty fl seq latch rtc acc gap : Nat) {e : List Nat} (he : e.length = 4) :
    ((vaultRecord ty fl seq latch rtc e acc gap).drop 0).take 1 = leBytes 1 ty ∧
    ((vaultRecord ty fl seq latch rtc e acc gap).drop 8).take 4 = leBytes 4 latch ∧
    ((vaultRecord ty fl seq latch rtc e acc gap).drop 60).take 4 = leBytes 4 (crc32 (((vaultRecord ty fl seq latch rtc e acc gap).drop 0).take 60)) := by
  obtain ⟨a, b, c, d, rfl⟩ := List.length_eq_four.1 he
  exact ⟨rfl, rfl, rfl⟩

/-- The state in which a compaction has counted what it found not to be valid. -/
def State.compactCounted (s : State) (n : Nat × Nat) : State :=
  let s' := s.put F.METER_VAULT_BAD (satTo 16 (s.get F.METER_VAULT_BAD + n.1 + n.2))
  if n.1 + n.2 ≠ 0 then s'.set1 F.METER_STICKY_VAULT_CRC else s'

/-- The state in which it has written the newest record again. -/
def State.compactWritten (s : State) (r : Option Nat) (bad : Nat) : State :=
  match r with
  | some k => s.vaultWrite (s.checkpoint k) bad
  | none => s

theorem State.compactCounted_frame (s : State) (n : Nat × Nat) : Keeps [F.METER_VAULT_BAD, F.METER_STICKY_VAULT_CRC] [] s (s.compactCounted n) :=
  .ite' (.set1' (.put' (.refl _ _ _))) (.put' (.refl _ _ _))

theorem State.compactCounted_mem (s : State) (n : Nat × Nat) : (s.compactCounted n).mem = s.mem := by
  unfold State.compactCounted
  dsimp only
  split
  · exact (State.put_mem ..).trans (State.put_mem ..)
  · exact State.put_mem ..

theorem State.vaultFld_congr {s t : State} (h : t.mem = s.mem) (k o n : Nat) : t.vaultFld k o n = s.vaultFld k o n := by
  simp only [State.vaultFld, State.rdBytes_congr h]

theorem State.vaultNewest_congr {s t : State} (h : t.mem = s.mem) : t.vaultNewest = s.vaultNewest := by
  have hfld : t.vaultFld = s.vaultFld := by
    funext k o n
    exact State.vaultFld_congr h k o n
  have hvalid : t.vaultValid = s.vaultValid := by
    funext k
    simp only [State.vaultValid, hfld, State.rdBytes_congr h]
  have hempty : t.vaultEmpty = s.vaultEmpty := by
    funext k
    simp only [State.vaultEmpty, hfld]
  unfold State.vaultNewest
  rw [hfld, hvalid, hempty]

theorem State.vaultCompact_eq (s : State) (bad bad2 : Nat) : s.vaultCompact bad bad2 =
    (((s.compactCounted s.vaultBad).compactWritten s.vaultNewest bad).maintEnd Act.vaultCompact .ok).meterDue bad2 := by
  rw [← State.vaultNewest_congr (s.compactCounted_mem s.vaultBad)]
  unfold State.vaultCompact State.compactWritten State.compactCounted
  generalize s.vaultBad = n
  dsimp only <;> generalize State.vaultNewest _ = r <;> rfl

theorem State.checkpoint_length (s : State) (k : Nat) : (s.checkpoint k).length = 64 := vaultRecord_length _ _ _ _ _ _ _ (by simp)

theorem State.compactWritten_frame (s : State) (r : Option Nat) (bad : Nat) :
    SameCounts s (s.compactWritten r bad) ∧ KeepsBesideVault s (s.compactWritten r bad) ∧
    Keeps [] [.mem, .raised, .draws, .meter] s (s.compactWritten r bad) := by
  unfold State.compactWritten
  split
  · exact ⟨State.vaultWrite_counts .., State.vaultWrite_bytes _ _ (State.checkpoint_length ..), State.vaultWrite_regs _ _ _⟩
  · exact ⟨.refl s, .refl _ _ s, .refl _ _ s⟩

/-- The record stands again, as a CHECKPOINT, in the next slot. -/
theorem State.compactWritten_record (s : State) (k : Nat) :
    (s.compactWritten (some k) 0).vaultValid (s.meter.slot % 1024) = true ∧ (s.compactWritten (some k) 0).vaultFld s.meter.slot 0 1 = 3 ∧
    (s.compactWritten (some k) 0).vaultFld s.meter.slot 8 4 = s.vaultFld k 8 4 ∧
    (s.compactWritten (some k) 0).meter.slot = (s.meter.slot + 1) % 1024 ∧
    KeepsBytesOutside (vaultSlot s.meter.slot) (vaultSlot s.meter.slot + 0x40) s (s.compactWritten (some k) 0) := by
  obtain ⟨hslot, hmem⟩ := s.vaultWrite_well (s.checkpoint k)
  obtain ⟨hty, hno, hcrc⟩ := vaultRecord_parts 3 (s.vaultFld k 1 1) s.meter.seq (s.vaultFld k 8 4) (s.rd R.PLINTH_RTC_SEC).toNat 0 (s.vaultFld k 0x34 4)
    (e := (List.range 4).map fun q => s.vaultFld k (0x10 + 8 * q) 8) (by simp)
  obtain ⟨hlo, hhi⟩ := vaultSlot_bounds s.meter.slot
  have hlen := s.checkpoint_length k
  have hpart (o n : Nat) (hn : o + n ≤ 64) :
      (s.compactWritten (some k) 0).rdBytes (vaultSlot s.meter.slot + o) n = ((s.checkpoint k).drop o).take n :=
    (State.rdBytes_congr hmem _ _).trans (State.rdBytes_wrBytes_part _ (by omega) (by omega))
  have hsame : vaultSlot (s.meter.slot % 1024) = vaultSlot s.meter.slot := by
    unfold vaultSlot
    rw [Nat.mod_mod]
  have hfld_ty : (s.compactWritten (some k) 0).vaultFld s.meter.slot 0 1 = 3 := by
    rw [State.vaultFld, hpart 0 1 (by decide), State.checkpoint, hty]
    rfl
  have hfld_no : (s.compactWritten (some k) 0).vaultFld s.meter.slot 8 4 = s.vaultFld k 8 4 := by
    rw [State.vaultFld, hpart 8 4 (by decide), State.checkpoint, hno]
    exact leNat_word (s.vaultFld_lt k 8 4)
  have hfld_crc : (s.compactWritten (some k) 0).vaultFld s.meter.slot 0x3C 4 = crc32 ((s.compactWritten (some k) 0).rdBytes (vaultSlot s.meter.slot + 0) 60) := by
    have hbytes := (hpart 60 4 (by decide)).trans hcrc
    exact (congrArg leNat hbytes).trans ((leNat_word (crc32_lt _)).trans (congrArg crc32 (hpart 0 60 (by decide)).symm))
  have hfld_mod (o n : Nat) : (s.compactWritten (some k) 0).vaultFld (s.meter.slot % 1024) o n = (s.compactWritten (some k) 0).vaultFld s.meter.slot o n := by
    rw [State.vaultFld, State.vaultFld, hsame]
  refine ⟨?_, hfld_ty, hfld_no, hslot, ?_⟩
  · rw [State.vaultValid, hfld_mod, hfld_mod, hfld_ty, hfld_crc, hsame]
    simp
  · exact (KeepsBytesOutside.wrBytes (.refl _ _ s) (s.checkpoint k) le_rfl (by omega) (by omega)).trans (.of_mem hmem)

section
variable {s : State} {b : Nat} (bad : Nat)

theorem State.meterDue_none (h : s.meter.due = none) : s.meterDue bad = s := by
  simp only [State.meterDue, h]

theorem State.meterDue_some (h : s.meter.due = some b) (hrun : s.maintRuns Act.vaultCompact = false) :
    s.meterDue bad = (s.latch b bad).meterStopCheck := by
  simp [State.meterDue, h, hrun]

end

theorem State.meterStopCheck_none {s : State} (h : s.meter.stopAt = none) : s.meterStopCheck = s := by
  simp only [State.meterStopCheck, h]

theorem State.meterDue_outside (s : State) (bad : Nat) :
    KeepsOutside [zone R.METER_CTRL, zone R.SENSG_STATUS] [.mem, .raised, .draws, .meter, .sens] s (s.meterDue bad) := by
  unfold State.meterDue
  split
  · exact .ite' (.refl _ _ s) (.after (State.meterStopCheck_outside _) (.after (State.latch_outside _ _ _) (.refl _ _ s)))
  · exact .refl _ _ s

theorem State.meterDue_runs (s : State) (bad : Nat) (h : s.meter.stopAt = none) :
    KeepsOutside [zone R.METER_CTRL] [.mem, .raised, .draws, .meter] s (s.meterDue bad) := by
  unfold State.meterDue
  split
  · rw [State.meterStopCheck_none ((s.latch_stopAt _ _).trans h)]
    exact .ite' (.refl _ _ s) (State.latch_outside _ _ _)
  · exact .refl _ _ s

theorem State.meterStopCheck_mem (s : State) : KeepsBesideVault s s.meterStopCheck := fun a _ => (s.meterStopCheck_outside.2 .mem (by decide)).1 a

theorem State.meterDue_bytes (s : State) (bad : Nat) : KeepsBesideVault s (s.meterDue bad) := by
  unfold State.meterDue
  split
  · split
    · exact .refl _ _ s
    · exact (s.latch_bytes _ _).trans (State.meterStopCheck_mem _)
  · exact .refl _ _ s

/-- The state in which a compaction has released its activity, before the latch that waits. -/
def State.compacted (s : State) (bad : Nat) : State :=
  ((s.compactCounted s.vaultBad).compactWritten s.vaultNewest bad).maintEnd Act.vaultCompact .ok

theorem State.compacted_parts (s : State) (bad : Nat) : SameCounts s (s.compacted bad) ∧ KeepsBesideVault s (s.compacted bad) ∧
    KeepsOutside [zone R.METER_CTRL, zone R.DIAG_MAINT_REQ] [.mem, .raised, .draws, .meter] s (s.compacted bad) ∧
    (s.compacted bad).rd R.METER_LATCH_NO = s.rd R.METER_LATCH_NO ∧
    (s.maintRuns Act.vaultCompact = true →
      (s.compacted bad).maintRuns Act.vaultCompact = false ∧ (s.compacted bad).get (F.DIAG_MAINT_RESULT_RESULT 11) = 1) := by
  obtain ⟨hcounts, hbytes, hframe⟩ := (s.compactCounted s.vaultBad).compactWritten_frame s.vaultNewest bad
  have hcounted := s.compactCounted_frame s.vaultBad
  have hend := ((s.compactCounted s.vaultBad).compactWritten s.vaultNewest bad).maintEnd_outside Act.vaultCompact .ok (by decide)
  have hwritten : Keeps [F.METER_VAULT_BAD, F.METER_STICKY_VAULT_CRC] [.mem, .raised, .draws, .meter] s
      ((s.compactCounted s.vaultBad).compactWritten s.vaultNewest bad) := .after hframe (.after hcounted (.refl _ _ s))
  refine ⟨?_, ?_, ?_, ?_, fun hrun => ?_⟩
  · exact ((SameCounts.of_meter (hcounted.2 .meter (by decide))).trans hcounts).trans (.of_meter (hend.2 .meter (by decide)))
  · exact ((KeepsBytesOutside.of_mem (s.compactCounted_mem _)).trans hbytes).trans fun a _ => (hend.2 .mem (by decide)).1 a
  · have hzone : KeepsOutside [zone R.METER_CTRL] [.mem, .raised, .draws, .meter] s ((s.compactCounted s.vaultBad).compactWritten s.vaultNewest bad) :=
      hwritten.toOutside (by decide)
    exact .after hend (.after hzone (.refl _ _ s))
  · exact (hend.1 _ (by decide)).trans (hwritten.rd_eq _ (by decide))
  · refine State.maintEnd_ran (by decide) .ok ?_
    rw [State.maintRuns, hwritten.rd_eq _ (by decide)]
    exact hrun

theorem State.maintEnd_mem (s : State) (c : Nat) (r : MaintResult) : (s.maintEnd c r).mem = s.mem := by
  unfold State.maintEnd
  split
  · simp
  · rfl

theorem State.maintEnd_meter (s : State) (c : Nat) (r : MaintResult) : (s.maintEnd c r).meter = s.meter := by
  unfold State.maintEnd
  split
  · simp
  · rfl

theorem State.compacted_none {s : State} (bad : Nat) (h : s.vaultNewest = none) : (s.compacted bad).meter = s.meter ∧ (s.compacted bad).mem = s.mem := by
  have hmeter : (s.compactCounted s.vaultBad).meter = s.meter := (s.compactCounted_frame _).2 .meter (by decide)
  have hmem := s.compactCounted_mem s.vaultBad
  unfold State.compacted
  rw [h]
  exact ⟨(State.maintEnd_meter ..).trans hmeter, (State.maintEnd_mem ..).trans hmem⟩

theorem State.compacted_record {s : State} {k : Nat} (h : s.vaultNewest = some k) :
    (s.compacted 0).vaultValid (s.meter.slot % 1024) = true ∧ (s.compacted 0).vaultFld s.meter.slot 0 1 = 3 ∧
    (s.compacted 0).vaultFld s.meter.slot 8 4 = s.vaultFld k 8 4 ∧ (s.compacted 0).meter.slot = (s.meter.slot + 1) % 1024 ∧
    KeepsBytesOutside (vaultSlot s.meter.slot) (vaultSlot s.meter.slot + 0x40) s (s.compacted 0) := by
  obtain ⟨hvalid, hty, hno, hslot, hbytes⟩ := (s.compactCounted s.vaultBad).compactWritten_record k
  have hmeter : (s.compactCounted s.vaultBad).meter = s.meter := (s.compactCounted_frame _).2 .meter (by decide)
  have hmem := s.compactCounted_mem s.vaultBad
  have hend := ((s.compactCounted s.vaultBad).compactWritten (some k) 0).maintEnd_mem Act.vaultCompact .ok
  rw [hmeter] at hvalid hty hno hslot hbytes
  unfold State.compacted
  rw [h]
  refine ⟨?_, (State.vaultFld_congr hend ..).trans hty, ((State.vaultFld_congr hend ..).trans hno).trans (State.vaultFld_congr hmem ..),
    (congrArg MeterState.slot (State.maintEnd_meter ..)).trans hslot, ((KeepsBytesOutside.of_mem hmem).trans hbytes).trans (.of_mem hend)⟩
  simpa only [State.vaultValid, State.vaultFld_congr hend, State.rdBytes_congr hend] using hvalid

theorem State.scanRecord_some {s : State} {k : Nat} (h : s.vaultNewest = some k) : s.scanRecord = s.vaultFld k 8 4 := by
  unfold State.scanRecord
  generalize s.vaultNewest = r at h
  subst h
  rfl

theorem State.scanTally_none {s : State} (h : s.tallyHighest s.scanRecord = none) : s.scanTally = 0 := by
  unfold State.scanTally
  generalize s.tallyHighest _ = r at h
  subst h
  rfl

theorem State.vaultWhole_false {s : State} {k : Nat} (l : Nat) (n : Int) (h : s.vaultFld k 0 1 ≠ 2) : s.vaultWhole (some k) l n = false := by
  simp [State.vaultWhole, h]

theorem State.vaultWhole_true {s : State} {k l : Nat} {n : Int} (h : s.vaultFld k 0 1 = 2) (hn : n ≤ l) : s.vaultWhole (some k) l n = true := by
  simp [State.vaultWhole, h, hn]

/-- Settles O29: the scan finds the newest record; a compaction writes it again and makes the latch that waits. -/
theorem vaultScanAndCompaction : Obligations.VaultScanAndCompaction := by
  intro s
  refine ⟨fun hon hready => ?_, fun h => ?_, fun bad bad2 hrun => ?_, fun bad bad2 hrun => ?_⟩
  · have hexec : exec .vaultScan s = .next s.vaultScan := if_pos (by simp [hon, hready])
    obtain ⟨hdone, hcrc, hgap, hwhole⟩ := s.vaultScan_facts
    obtain ⟨hslot, hseq⟩ := s.scanMeter_next
    rw [← State.vaultScan_meter] at hslot hseq
    refine ⟨_, hexec, hdone, fun hnone => ?_, fun k hk => ?_, hcrc, s.vaultScan_outside⟩
    · rw [hnone] at hslot hseq hgap
      obtain ⟨hsticky, hraised⟩ := hgap (State.vaultWhole_none ..)
      refine ⟨State.vaultScan_new hnone, hslot, hseq, hsticky, hraised, fun q => ?_⟩
      rw [State.vaultScan_total, State.scanMeter_total, hnone]
      rfl
    · have hrecord := State.scanRecord_some hk
      have hscan (h : s.tallyHighest (s.vaultFld k 8 4) = none) : s.scanTally = 0 := State.scanTally_none (hrecord.symm ▸ h)
      rw [hk] at hslot hseq hgap hwhole
      have htot (q : Fin 2) : s.scanMeter.meter.tot.get (4 * q + 3) = s.vaultFld k (0x10 + 8 * q) 8 := by
        have hq := q.isLt
        have htotal := s.scanMeter_total ⟨q, by omega⟩
        rw [hk] at htotal
        simpa [show ¬ 2 ≤ q.val by omega] using htotal
      refine ⟨hslot, hseq, fun q => ⟨?_, ?_⟩, fun hty => ?_, fun htal => ⟨?_, fun hty => ?_⟩⟩
      · rw [State.vaultScan_meter]
        exact htot q
      · exact (s.vaultScan_total ⟨q, by omega⟩).trans (congrArg w32 (htot q))
      · exact hgap (State.vaultWhole_false _ _ hty)
      · rw [State.vaultScan_latchNo hk, hscan htal, hrecord, max_eq_right (Int.natCast_nonneg _), Int.toNat_natCast]
        rfl
      · exact hwhole (State.vaultWhole_true hty ((hscan htal).le.trans (Int.natCast_nonneg _)))
  · exact if_neg (by rcases h with h | h <;> simp [h])
  · have hexec : exec (.vaultCompactEnd bad bad2) s = .next (s.vaultCompact bad bad2) := if_pos hrun
    rw [State.vaultCompact_eq, ← State.compacted] at hexec
    obtain ⟨hcounts, hbytes, hframe, hno, hended⟩ := s.compacted_parts bad
    have hdue : (s.compacted bad).meter.due = s.meter.due := (congrArg MeterState.due hcounts :)
    have hstop : (s.compacted bad).meter.stopAt = s.meter.stopAt := (congrArg MeterState.stopAt hcounts :)
    obtain ⟨hruns, hresult⟩ := hended hrun
    have hlatch := (s.compacted bad).meterDue_outside bad2
    refine ⟨_, hexec, ?_, (hlatch.get_eq _ (by decide)).trans hresult, fun hnone hempty => ?_, fun k hnone hnewest hbad => ?_, fun b hb => ?_,
      hbytes.trans (State.meterDue_bytes _ _), fun hnostop => ?_, ?_⟩
    · rw [State.maintRuns, hlatch.1 _ (by decide)]
      exact hruns
    · obtain ⟨hmeter, hmem⟩ := State.compacted_none bad hempty
      rw [State.meterDue_none _ (hdue.trans hnone), hmeter]
      exact ⟨rfl, State.rdB_congr hmem⟩
    · subst hbad
      rw [State.meterDue_none _ (hdue.trans hnone)]
      exact State.compacted_record hnewest
    · rw [State.meterDue_some _ (hdue.trans hb) hruns]
      obtain ⟨hlno, hltick⟩ := (s.compacted bad).latch_regs b bad2
      exact ⟨State.meterStopCheck_due (State.latch_due _ _ _), ((State.meterStopCheck_rd _ (by decide) (by decide)).trans hlno).trans (by rw [hno]),
        (State.meterStopCheck_rd _ (by decide) (by decide)).trans hltick⟩
    · exact .after (State.meterDue_runs _ _ (hstop.trans hnostop)) (.after hframe (.refl _ _ s))
    · exact .after hlatch (.after hframe (.refl _ _ s))
  · exact if_neg (by simp [hrun])

end Sys2Proof.Machine
end

section
/-!
Proofs about metering (chapter 12): the cycles.
The proofs are elaborated in turn: in one text, proofs that wait for each other would each hold a thread.
-/

set_option Elab.async false

namespace Sys2Proof.Machine

/-! ### A cycle's stages (R415 to R422): what each counts, and the registers it may write -/

/-- METER_STICKY and the registers from METER_GAP on: all of the block's but its control, its status and the latch's number and tick. -/
def cycleRegs : List (Nat × Nat) := [(0x4009000C, 0x40090010), (0x40090018, 0x40091000)]

theorem State.modMeter_cycle (s : State) (f : MeterState → MeterState) : KeepsOutside cycleRegs [.meter] s (s.modMeter f) :=
  .after (State.modMeter_outside ..) (.refl _ _ s) (List.nil_subset _)

theorem State.latchTotals_cycle (s : State) : KeepsOutside cycleRegs [.meter] s s.latchTotals := s.latchTotals_regs.widen (by decide)

theorem State.meterGap_cycle (s : State) (n : Nat) : KeepsOutside cycleRegs [.meter] s (s.meterGap n) := .wr' (State.modMeter_cycle ..)

/-- Ticks up to a gap's end, since what is done. -/
def MeterState.gapTo (m : MeterState) (n : Nat) : MeterState := { m with gap := m.gap + (n - m.doneTo), doneTo := max n m.doneTo }

theorem State.meterGap_counts (s : State) (n : Nat) : (s.meterGap n).meter.counted = s.meter.counted.gapTo n := rfl

theorem State.accAdd_counts (s : State) (q p : Nat) (e : Rat) : SameCounts s (s.accAdd q p e) := rfl

theorem SameCounts.foldl {α : Type} {g : State → α → State} (h : ∀ t x, SameCounts t (g t x)) : ∀ (l : List α) (s : State), SameCounts s (l.foldl g s)
  | [], s => .refl s
  | x :: l, s => (h s x).trans (SameCounts.foldl h l (g s x))

section
variable (s : State) (cs : List (Nat × PhaseCyc)) (ls : List Rat) (j n : Nat)

theorem State.cycleEnergy_counts : SameCounts s (s.cycleEnergy cs ls j n) :=
  .foldl (fun t e => by
    dsimp only
    split
    · exact (t.accAdd_counts _ _ _).trans (State.accAdd_counts ..)
    · exact t.accAdd_counts _ _ _) _ s

theorem State.cycleEnergy_cycle : KeepsOutside cycleRegs [.meter] s (s.cycleEnergy cs ls j n) :=
  .foldl' (.refl _ _ s) fun _ _ _ => .comp (.ite' (State.modMeter_cycle ..) (.refl _ _ _)) (State.modMeter_cycle ..)

theorem State.intAdd_counts (p : Nat) (c : PhaseCyc) (v len : Rat) : SameCounts s (s.intAdd p c v ls len) := rfl

theorem State.schedLatch_counts (a b e : Nat) : SameCounts s (s.schedLatch cs ls a b j e).1 :=
  (s.cycleEnergy_counts ..).trans (State.latchTotals_counts _)

theorem State.schedLatch_cycle (a b e : Nat) : KeepsOutside cycleRegs [.meter] s (s.schedLatch cs ls a b j e).1 :=
  .set1' (.comp (State.latchTotals_cycle _) (s.cycleEnergy_cycle ..))

end

theorem State.schedLatches_facts (cs : List (Nat × PhaseCyc)) (ls : List Rat) (a b : Nat) (l : List Nat) (s : State) (j : Nat) :
    SameCounts s (l.foldl (fun (r : State × Nat) t => r.1.schedLatch cs ls a b r.2 t) (s, j)).1 ∧
    KeepsOutside cycleRegs [.meter] s (l.foldl (fun (r : State × Nat) t => r.1.schedLatch cs ls a b r.2 t) (s, j)).1 := by
  induction l generalizing s j with
  | nil => exact ⟨.refl s, .refl _ _ s⟩
  | cons t l ih =>
    obtain ⟨hcounts, hframe⟩ := ih (s.schedLatch cs ls a b j t).1 (s.schedLatch cs ls a b j t).2
    exact ⟨(s.schedLatch_counts ..).trans hcounts, .comp hframe (s.schedLatch_cycle ..)⟩

/-- A metered cycle, up to the question whether it latches (R418 to R420, R422). -/
def State.cycleMetered (s : State) (a b : Nat) : State :=
  let cs := (meterPhases s.gridTopo).map fun p => (p, s.phaseCyc p a b s.meter.rd)
  let ls := subLens a b
  let len : Rat := ((b - a : Nat) : Rat)
  let v1 := match cs with | c :: _ => c.2.vAng | [] => 0
  let ovr := cs.any fun c => c.2.flags != 0
  let s := s.meterGap a
  let s := if ovr then s.set1 F.METER_STICKY_METER_OVR else s
  let s := if cs.any fun c => c.2.clamp then s.set1 F.METER_STICKY_CORR_CLAMP else s
  let s := cs.foldl (fun s c => s.intAdd c.1 c.2 v1 ls len) s
  let now := s.meter.sched.filter (· < b)
  let s := s.modMeter fun m =>
    { m with n := m.n + 1, len := m.len + (b - a), doneTo := b, recOvr := m.recOvr || ovr, sched := m.sched.filter (b ≤ ·) }
  let r := now.foldl (fun (r : State × Nat) t => r.1.schedLatch cs ls a b r.2 t) (s, 0)
  r.1.cycleEnergy cs ls r.2 (256 - r.2)

/-- The end of a metered cycle: an immediate latch is no longer asked for (R435). -/
def State.resumed (s : State) : State := s.modMeter fun m => { m with resume := false }

theorem State.meterCycleAdd_eq (s : State) (a b bad : Nat) : s.meterCycleAdd a b bad =
    if ((s.cycleMetered a b).meter.n ≥ (s.cycleMetered a b).get F.METER_CFG_LATCH_N || (s.cycleMetered a b).meter.resume) &&
        (match (s.cycleMetered a b).meter.stopAt with | some t => decide (b ≤ t) | none => true) then
      if (s.cycleMetered a b).maintRuns Act.vaultCompact then (s.cycleMetered a b).resumed.modMeter fun m => { m with due := some b }
      else (s.cycleMetered a b).resumed.latch b bad
    else (s.cycleMetered a b).resumed := by
  have hstages : s.meterCycleAdd a b bad =
      (let u := (s.cycleMetered a b).resumed
       if ((s.cycleMetered a b).meter.n ≥ (s.cycleMetered a b).get F.METER_CFG_LATCH_N || (s.cycleMetered a b).meter.resume) &&
          (match u.meter.stopAt with | some t => decide (b ≤ t) | none => true) then
         if u.maintRuns Act.vaultCompact then u.modMeter fun m => { m with due := some b } else u.latch b bad
       else u) := rfl
  rw [hstages]
  generalize s.cycleMetered a b = u
  rfl

/-- What the metered cycle adds to the record. -/
def MeterState.cycleTo (m : MeterState) (a b : Nat) : MeterState :=
  { m.gapTo a with n := m.n + 1, len := m.len + (b - a), doneTo := b, sched := m.sched.filter (b ≤ ·) }

theorem State.cycleMetered_facts (s : State) (a b : Nat) :
    (s.cycleMetered a b).meter.counted = s.meter.counted.cycleTo a b ∧ KeepsOutside cycleRegs [.meter] s (s.cycleMetered a b) := by
  have hflag (t : State) (f : Fld) (c : Bool) : SameCounts t (if c then t.set1 f else t) := by split <;> rfl
  have hsums (t : State) (cs : List (Nat × PhaseCyc)) (v len : Rat) (ls : List Rat) : SameCounts t (cs.foldl (fun s c => s.intAdd c.1 c.2 v ls len) t) :=
    .foldl (fun t c => t.intAdd_counts ls c.1 c.2 v len) cs t
  have hflagged (t : State) (f : Fld) (c : Bool) (hf : ∃ r ∈ cycleRegs, r.1 ≤ f.addr ∧ f.addr < r.2) :
      KeepsOutside cycleRegs [.meter] t (if c then t.set1 f else t) := .ite' (.set1' (.refl _ _ t) hf) (.refl _ _ t)
  constructor
  · refine Eq.trans ((State.schedLatches_facts ..).1.trans (State.cycleEnergy_counts ..)) ?_
    exact congrArg (fun m : MeterState => { m with n := m.n + 1, len := m.len + (b - a), doneTo := b, sched := m.sched.filter (b ≤ ·) })
      ((hflag (s.meterGap a) _ _).trans ((hflag _ _ _).trans (hsums _ _ _ _ _)))
  · exact .comp (State.cycleEnergy_cycle ..) (.comp (State.schedLatches_facts ..).2 (.comp (State.modMeter_cycle ..)
      (.comp (.foldl' (.refl _ _ _) fun _ _ _ => State.modMeter_cycle ..) (.comp (hflagged _ _ _ (by decide)) (.comp (hflagged _ _ _ (by decide))
        (s.meterGap_cycle a))))))

theorem State.meterCycleSkip_facts (s : State) (b : Nat) :
    (s.meterCycleSkip b).meter.counted = { s.meter.counted.gapTo b with sched := s.meter.sched.filter (b ≤ ·) } ∧
    KeepsOutside cycleRegs [.meter] s (s.meterCycleSkip b) := by
  constructor
  · exact SameCounts.foldl (g := fun s (_ : Nat) => s.latchTotals.set1 F.METER_STICKY_LATCH) (fun t _ => t.latchTotals_counts) _ _
  · exact .foldl' (.comp (State.modMeter_cycle ..) (s.meterGap_cycle b)) fun _ _ t => .set1' t.latchTotals_cycle

theorem State.latch_sticky (s : State) (e bad : Nat) : (s.latch e bad).get F.METER_STICKY_LATCH = 1 := by
  rw [State.latch_eq]
  exact State.get_put_same _ _ _ (by decide)

theorem State.latchStored_tally (s : State) (n bad : Nat) : (s.latchStored n bad).rdW (tallySlot s.meter.talSlot) = w32 (tallyWord n) := by
  have hrecord : SameCounts s (if s.get F.METER_CFG_VAULT_EVERY ≠ 0 ∧ n % s.get F.METER_CFG_VAULT_EVERY = 0 then s.vaultWrite (s.vaultBytes 1) bad else s) := by
    split
    · exact s.vaultWrite_counts _ bad
    · exact .refl s
  have hslot : (if s.get F.METER_CFG_VAULT_EVERY ≠ 0 ∧ n % s.get F.METER_CFG_VAULT_EVERY = 0 then s.vaultWrite (s.vaultBytes 1) bad else s).meter.talSlot =
      s.meter.talSlot := (congrArg MeterState.talSlot hrecord :)
  unfold State.latchStored
  dsimp only
  generalize (if s.get F.METER_CFG_VAULT_EVERY ≠ 0 ∧ n % s.get F.METER_CFG_VAULT_EVERY = 0 then s.vaultWrite (s.vaultBytes 1) bad else s) = r at hslot
  rw [← hslot]
  exact State.rdW_wrW r (tallySlot r.meter.talSlot) _ (by unfold tallySlot; omega)

/-- The tally word of the latch stands in the slot that was next (R433). -/
theorem State.latch_tally (s : State) (e bad : Nat) : (s.latch e bad).rdW (tallySlot s.meter.talSlot) =
    BitVec.ofNat 32 (tallyWord ((s.latch e bad).rd R.METER_LATCH_NO).toNat) := by
  have hslot := s.latchTotals_counts
  have htal : s.latchTotals.meter.talSlot = s.meter.talSlot := (congrArg MeterState.talSlot hslot :)
  rw [State.latch_eq, (State.latchStored_regs _ _ _).rd_eq _ (by decide)]
  generalize s.latchTotals = u at htal
  have hno : (w32 (((u.rd R.METER_LATCH_NO).toNat + 1) % 2 ^ 32)).toNat = ((u.rd R.METER_LATCH_NO).toNat + 1) % 2 ^ 32 := by
    rw [w32, BitVec.toNat_ofNat]
    omega
  rw [← htal, State.modMeter_rd, State.rd_wr_other _ _ _ _ (by decide), State.rd_wr_same, hno]
  exact State.latchStored_tally _ _ _

section
variable {s : State} {a b : Nat} (bad : Nat)

theorem State.meterCycleAdd_parts (s : State) (a b bad : Nat) : (s.meterCycleAdd a b bad).meter.cycles = s.meter.cycles ∧
    (s.meterCycleAdd a b bad).meter.stopAt = s.meter.stopAt ∧ KeepsBesideVault s (s.meterCycleAdd a b bad) ∧
    KeepsOutside [zone R.METER_CTRL] [.mem, .raised, .draws, .meter] s (s.meterCycleAdd a b bad) := by
  obtain ⟨hcounts, hframe⟩ := s.cycleMetered_facts a b
  have hcycles : (s.cycleMetered a b).meter.cycles = s.meter.cycles := (congrArg MeterState.cycles hcounts :)
  have hstop : (s.cycleMetered a b).meter.stopAt = s.meter.stopAt := (congrArg MeterState.stopAt hcounts :)
  have hbytes : KeepsBesideVault s (s.cycleMetered a b) := fun x _ => (hframe.2 .mem (by decide)).1 x
  have hzone : KeepsOutside [zone R.METER_CTRL] [.meter] s (s.cycleMetered a b) := hframe.widen (by decide)
  rw [State.meterCycleAdd_eq]
  generalize s.cycleMetered a b = u at hcycles hstop hbytes hzone ⊢
  have hres : KeepsOutside [] [.meter] u u.resumed := State.modMeter_outside ..
  have hbytes' : KeepsBesideVault s u.resumed := hbytes.trans (.of_mem (u.modMeter_mem _))
  split_ifs
  · exact ⟨hcycles, hstop, hbytes'.trans (.of_mem (State.modMeter_mem ..)),
      .after (State.modMeter_outside ..) (.after hres (.after hzone (.refl _ _ s)))⟩
  · have hlatched : (u.resumed.latch b bad).meter.cycles = u.resumed.meter.cycles := (congrArg MeterState.cycles (u.resumed.latch_counts b bad) :)
    exact ⟨hlatched.trans hcycles, (u.resumed.latch_stopAt b bad).trans hstop, hbytes'.trans (State.latch_bytes _ _ _),
      .after (State.latch_outside _ _ _) (.after hres (.after hzone (.refl _ _ s)))⟩
  · exact ⟨hcycles, hstop, hbytes', .after hres (.after hzone (.refl _ _ s))⟩

variable (hstop : s.meter.stopAt = none) (hrun : s.maintRuns Act.vaultCompact = false) (hres : s.meter.resume = false)
include hstop hrun hres

theorem State.meterCycleAdd_cond : ((s.cycleMetered a b).meter.n ≥ (s.cycleMetered a b).get F.METER_CFG_LATCH_N || (s.cycleMetered a b).meter.resume) =
    decide (s.get F.METER_CFG_LATCH_N ≤ s.meter.n + 1) ∧ (s.cycleMetered a b).meter.stopAt = none ∧
    (s.cycleMetered a b).maintRuns Act.vaultCompact = false := by
  obtain ⟨hcounts, hframe⟩ := s.cycleMetered_facts a b
  have hn : (s.cycleMetered a b).meter.n = s.meter.n + 1 := (congrArg MeterState.n hcounts :)
  have hresume : (s.cycleMetered a b).meter.resume = s.meter.resume := (congrArg MeterState.resume hcounts :)
  have hstopped : (s.cycleMetered a b).meter.stopAt = s.meter.stopAt := (congrArg MeterState.stopAt hcounts :)
  refine ⟨?_, hstopped.trans hstop, ?_⟩
  · rw [hn, hresume, hres, hframe.get_eq _ (by decide), Bool.or_false]
  · rw [State.maintRuns, hframe.1 _ (by decide)]
    exact hrun

theorem State.meterCycleAdd_due (hn : s.get F.METER_CFG_LATCH_N ≤ s.meter.n + 1) : s.meterCycleAdd a b bad =
    (s.cycleMetered a b).resumed.latch b bad := by
  obtain ⟨hdue, hstopped, hruns⟩ := State.meterCycleAdd_cond (a := a) (b := b) hstop hrun hres
  rw [State.meterCycleAdd_eq, hdue, decide_eq_true hn]
  generalize s.cycleMetered a b = u at hstopped hruns
  simp [hstopped, hruns]

theorem State.meterCycleAdd_counted (hn : s.meter.n + 1 < s.get F.METER_CFG_LATCH_N) : s.meterCycleAdd a b bad =
    (s.cycleMetered a b).resumed := by
  obtain ⟨hdue, -, -⟩ := State.meterCycleAdd_cond (a := a) (b := b) hstop hrun hres
  rw [State.meterCycleAdd_eq, hdue, decide_eq_false (by omega)]
  rfl

end

/-- What becomes of the cycle's energy: it is lost, a gap, or metered (R415). -/
def State.cycleOf (s : State) (a b bad : Nat) : State :=
  if (meterChs s.gridTopo).any fun k => s.meter.rd + 1024 < (s.rd (R.CH_RING_WR k)).toNat then
    (s.stickyRaise F.METER_STICKY_CYCLE_LOST FS.METER_CYCLE_LOST).meterCycleSkip b
  else if !s.meter.hist || s.meter.failed a b then s.meterCycleSkip b
  else s.meterCycleAdd a b bad

section
variable {s : State} {a bad : Nat} (b : Nat)

theorem State.cycleOf_lost (h : ∃ k ∈ meterChs s.gridTopo, s.meter.rd + 1024 < (s.rd (R.CH_RING_WR k)).toNat) :
    s.cycleOf a b bad = (s.stickyRaise F.METER_STICKY_CYCLE_LOST FS.METER_CYCLE_LOST).meterCycleSkip b := by
  obtain ⟨k, hk, hlt⟩ := h
  exact if_pos (List.any_eq_true.2 ⟨k, hk, by simpa using hlt⟩)

variable (hkept : ∀ k ∈ meterChs s.gridTopo, (s.rd (R.CH_RING_WR k)).toNat ≤ s.meter.rd + 1024)
include hkept

theorem State.cycle_kept : ¬ ((meterChs s.gridTopo).any fun k => s.meter.rd + 1024 < (s.rd (R.CH_RING_WR k)).toNat) = true := by
  rw [List.any_eq_true]
  rintro ⟨k, hk, hlt⟩
  exact absurd (hkept k hk) (by simpa using hlt)

theorem State.cycleOf_skipped (h : s.meter.hist = false ∨ s.meter.failed a b = true) : s.cycleOf a b bad = s.meterCycleSkip b :=
  (if_neg (State.cycle_kept hkept)).trans (if_pos (by rcases h with h | h <;> simp [h]))

theorem State.cycleOf_metered (hhist : s.meter.hist = true) (hok : s.meter.failed a b = false) : s.cycleOf a b bad = s.meterCycleAdd a b bad :=
  (if_neg (State.cycle_kept hkept)).trans (if_neg (by simp [hhist, hok]))

end

theorem State.latchMove_lost (s : State) (k : Nat) : (s.latchMove k).get F.METER_STICKY_CYCLE_LOST = s.get F.METER_STICKY_CYCLE_LOST := by
  unfold State.latchMove
  dsimp only
  split
  · rw [State.set1_eq_put, State.get_put_other _ _ _ _ (by decide), State.get_wr_other _ _ _ _ (by simp; omega), State.get_wr_other _ _ _ _ (by simp; omega)]
    rfl
  · rw [State.get_wr_other _ _ _ _ (by simp; omega), State.get_wr_other _ _ _ _ (by simp; omega)]
    rfl

/-- A latch of the totals leaves the flag of a lost cycle. -/
theorem State.latchTotals_lost (s : State) : s.latchTotals.get F.METER_STICKY_CYCLE_LOST = s.get F.METER_STICKY_CYCLE_LOST :=
  ((State.latchInfo_regs _).get_eq _ (by decide)).trans (((State.latchPublish_regs _).get_eq _ (by decide)).trans
    (State.forEach_inv (P := fun t => t.get F.METER_STICKY_CYCLE_LOST = s.get F.METER_STICKY_CYCLE_LOST) (fun k _ t ht => (t.latchMove_lost k).trans ht) s rfl))

theorem State.meterCycleSkip_lost (s : State) (b : Nat) : (s.meterCycleSkip b).get F.METER_STICKY_CYCLE_LOST = s.get F.METER_STICKY_CYCLE_LOST := by
  unfold State.meterCycleSkip
  refine List.foldlRecOn (motive := fun (t : State) => t.get F.METER_STICKY_CYCLE_LOST = s.get F.METER_STICKY_CYCLE_LOST) _ _ ?_ fun t ht _ _ => ?_
  · exact State.get_wr_other _ _ _ _ (by decide)
  · rw [State.set1_eq_put, State.get_put_other _ _ _ _ (by decide), State.latchTotals_lost]
    exact ht

theorem State.cycleOf_parts (s : State) (a b bad : Nat) : (s.cycleOf a b bad).meter.cycles = s.meter.cycles ∧
    (s.cycleOf a b bad).meter.stopAt = s.meter.stopAt ∧ KeepsBesideVault s (s.cycleOf a b bad) ∧
    KeepsOutside [zone R.METER_CTRL] [.mem, .raised, .draws, .meter] s (s.cycleOf a b bad) := by
  have hskip (t : State) : (t.meterCycleSkip b).meter.cycles = t.meter.cycles ∧ (t.meterCycleSkip b).meter.stopAt = t.meter.stopAt ∧
      KeepsBesideVault t (t.meterCycleSkip b) ∧ KeepsOutside [zone R.METER_CTRL] [.mem, .raised, .draws, .meter] t (t.meterCycleSkip b) := by
    obtain ⟨hcounts, hframe⟩ := t.meterCycleSkip_facts b
    have hzone : KeepsOutside [zone R.METER_CTRL] [.meter] t (t.meterCycleSkip b) := hframe.widen (by decide)
    exact ⟨(congrArg MeterState.cycles hcounts :), (congrArg MeterState.stopAt hcounts :), fun x _ => (hframe.2 .mem (by decide)).1 x,
      .after hzone (.refl _ _ t)⟩
  unfold State.cycleOf
  split_ifs
  · obtain ⟨hcycles, hstop, hbytes, hframe⟩ := hskip (s.stickyRaise F.METER_STICKY_CYCLE_LOST FS.METER_CYCLE_LOST)
    exact ⟨hcycles, hstop, KeepsBytesOutside.trans (.of_mem rfl) hbytes, .comp hframe (.stickyRaise' (.refl _ _ s))⟩
  · exact hskip s
  · exact s.meterCycleAdd_parts a b bad

theorem State.meterProcess_eq {s : State} {a b bad : Nat} {rest : List (Nat × Nat)} (hc : s.meter.cycles = (a, b) :: rest) (hstop : s.meter.stopAt = none) :
    s.meterProcess a b bad = (s.cycleOf a b bad).modMeter fun m => { m with cycles := rest, rd := s.meter.rd + 256, hist := true } := by
  obtain ⟨hcycles, hstopped, -, -⟩ := s.cycleOf_parts a b bad
  have hstages : s.meterProcess a b bad =
      ((s.cycleOf a b bad).modMeter fun m => { m with cycles := m.cycles.tail, rd := s.meter.rd + 256, hist := true }).meterStopCheck := rfl
  rw [hstages]
  generalize s.cycleOf a b bad = u at hcycles hstopped
  have hidle : (u.modMeter fun m => { m with cycles := m.cycles.tail, rd := s.meter.rd + 256, hist := true }).meter.stopAt = none :=
    hstopped.trans hstop
  rw [State.meterStopCheck_none hidle]
  simp only [State.modMeter, hcycles, hc, List.tail_cons]

/-- Settles O28: a latch that waited comes first; else the cycle is skipped or metered, and the N-th metered one latches. -/
theorem meteredCycles : Obligations.MeteredCycles := by
  intro s bad a b rest hc hstop hrun
  refine ⟨fun d hd => ?_, fun hd hon hall => ?_⟩
  · have hexec : exec (.meterCycleProcess bad) s = .next (s.latch d bad) := by
      have hlatch := (State.meterDue_some bad hd hrun).trans (State.meterStopCheck_none ((s.latch_stopAt d bad).trans hstop))
      simp [exec, execMeterCycleProcess, hc, hd, hrun, hlatch]
    obtain ⟨hno, htick⟩ := s.latch_regs d bad
    exact ⟨_, hexec, s.latch_due d bad, (congrArg MeterState.cycles (s.latch_counts d bad) :), hno, htick, s.latch_sticky d bad, s.latch_bytes d bad,
      s.latch_outside d bad⟩
  · have hexec : exec (.meterCycleProcess bad) s = .next (s.meterProcess a b bad) := by
      have hready : (meterChs s.gridTopo).all (fun k => s.meter.rd + 256 ≤ (s.rd (R.CH_RING_WR k)).toNat) = true := by
        simpa using hall
      simp only [exec, execMeterCycleProcess, hc, hd, hon, hready, Option.isSome_none, Bool.false_and, Bool.false_eq_true, Bool.and_self, if_true, if_false]
    obtain ⟨hcycles, hstopped, hbytes, hframe⟩ := s.cycleOf_parts a b bad
    rw [State.meterProcess_eq hc hstop] at hexec
    refine ⟨_, hexec, rfl, rfl, rfl, fun hlost => ?_, fun hkept hgap => ?_, fun hkept hhist hok hres => ?_, hbytes.trans (.of_mem (State.modMeter_mem ..)),
      .after (State.modMeter_outside ..) (.after hframe (.refl _ _ s))⟩
    · rw [State.cycleOf_lost b hlost]
      obtain ⟨hcounts, hframe⟩ := (s.stickyRaise F.METER_STICKY_CYCLE_LOST FS.METER_CYCLE_LOST).meterCycleSkip_facts b
      have hflag := (State.meterCycleSkip_lost (s.stickyRaise F.METER_STICKY_CYCLE_LOST FS.METER_CYCLE_LOST) b).trans (State.get_put_same _ _ _ (by decide))
      have hgap := (congrArg MeterState.gap hcounts :)
      have hn := (congrArg MeterState.n hcounts :)
      have hraised := hframe.2 .raised (by decide)
      have hno := (hframe.1 R.METER_LATCH_NO (by decide)).trans (State.rd_put_other _ _ _ _ (by decide))
      generalize (s.stickyRaise F.METER_STICKY_CYCLE_LOST FS.METER_CYCLE_LOST).meterCycleSkip b = u at hflag hgap hn hraised hno
      exact ⟨hflag, hraised, hgap, hn, hno⟩
    · rw [State.cycleOf_skipped b hkept hgap]
      obtain ⟨hcounts, hframe⟩ := s.meterCycleSkip_facts b
      have hgap := (congrArg MeterState.gap hcounts :)
      have hn := (congrArg MeterState.n hcounts :)
      have hraised := hframe.2 .raised (by decide)
      have hno := hframe.1 R.METER_LATCH_NO (by decide)
      generalize s.meterCycleSkip b = u at hgap hn hraised hno
      exact ⟨hraised, hgap, hn, hno⟩
    · rw [State.cycleOf_metered b hkept hhist hok]
      obtain ⟨hcounts, hframe⟩ := s.cycleMetered_facts a b
      have hno : (s.cycleMetered a b).rd R.METER_LATCH_NO = s.rd R.METER_LATCH_NO := hframe.1 _ (by decide)
      have hgap : (s.cycleMetered a b).meter.gap = s.meter.gap + (a - s.meter.doneTo) := (congrArg MeterState.gap hcounts :)
      have hlen : (s.cycleMetered a b).meter.len = s.meter.len + (b - a) := (congrArg MeterState.len hcounts :)
      have hn : (s.cycleMetered a b).meter.n = s.meter.n + 1 := (congrArg MeterState.n hcounts :)
      have htal : (s.cycleMetered a b).meter.talSlot = s.meter.talSlot := (congrArg MeterState.talSlot hcounts :)
      by_cases hdue : s.get F.METER_CFG_LATCH_N ≤ s.meter.n + 1
      · rw [State.meterCycleAdd_due bad hstop hrun hres hdue]
        generalize s.cycleMetered a b = u at hno hgap htal
        have hlatch := u.resumed.latch_counts b bad
        obtain ⟨hlno, hltick⟩ := u.resumed.latch_regs b bad
        have htally := u.resumed.latch_tally b bad
        have hslot : u.resumed.meter.talSlot = s.meter.talSlot := htal
        rw [hslot] at htally
        exact ⟨((congrArg MeterState.gap hlatch :)).trans hgap, fun h => absurd hdue (by omega), fun _ =>
          ⟨(congrArg MeterState.n hlatch :), (congrArg MeterState.len hlatch :), hlno.trans (congrArg (· + 1#32) hno), hltick, u.resumed.latch_sticky b bad, htally,
            ((congrArg MeterState.talSlot hlatch :)).trans (by rw [hslot])⟩⟩
      · rw [State.meterCycleAdd_counted bad hstop hrun hres (by omega)]
        generalize s.cycleMetered a b = u at hno hgap hn hlen
        exact ⟨hgap, fun _ => ⟨hn, hlen, hno⟩, fun h => absurd h hdue⟩

end Sys2Proof.Machine
end

section
/-!
Proofs about the window comparators (chapter 05): the live outputs, what a comparison does, and a recorded crossing.
The proofs are elaborated in turn: in one text, proofs that wait for each other would each hold a thread.
-/

set_option Elab.async false

namespace Sys2Proof.Machine

/-! ### A comparator's own record, its live outputs and its thresholds in force (chapter 05) -/

@[simp] theorem State.modWc_get_same (s : State) (c : Nat) (f : WcState → WcState) : (s.modWc c f).wcmp.wc.get c = f (s.wcmp.wc.get c) :=
  SMap.get_set_same _ _ _

theorem State.modWc_get_other (s : State) {c d : Nat} (f : WcState → WcState) (h : d ≠ c) : (s.modWc c f).wcmp.wc.get d = s.wcmp.wc.get d :=
  SMap.get_set_ne _ _ _ _ h

theorem State.vkxNote_keeps (s : State) (hi : Bool) (lo : Bool) :
    Keeps [] [.relay] s (s.vkxNote hi lo) :=
  .beside' (.refl _ _ _)

theorem State.wcOut_keeps (s : State) (c : ℕ) (hi : Bool) (lo : Bool) :
    Keeps [F.WC_STATUS_OUT_LO c, F.WC_STATUS_OUT_HI c] [.relay] s (s.wcOut c hi lo) :=
  .put' (.put' (.ite' (.after (State.vkxNote_keeps ..) (.refl _ _ _)) (.refl _ _ _)))

theorem State.modWc_keeps (s : State) (c : ℕ) (f : WcState → WcState) :
    Keeps [] [.wcmp] s (s.modWc c f) :=
  .beside' (.refl _ _ _)

theorem State.wcPendSee_keeps (s : State) (c : ℕ) (x : ℚ) :
    Keeps [F.WC_STATUS_HYST_HOLD c] [.wcmp] s (s.wcPendSee c x) :=
  .after (State.modWc_keeps ..) (.put' (.refl _ _ _))

theorem State.wcOut_frame (s : State) (c : Nat) (hi lo : Bool) : Keeps [F.WC_STATUS_OUT_HI c, F.WC_STATUS_OUT_LO c] [.relay] s (s.wcOut c hi lo) := (.after (State.wcOut_keeps ..) (.refl _ _ _))

theorem State.modWc_frame (s : State) (c : Nat) (f : WcState → WcState) : Keeps [] [.wcmp] s (s.modWc c f) := (.after (State.modWc_keeps ..) (.refl _ _ _))

theorem State.wcPendSee_frame (s : State) (c : Nat) (x : Rat) : Keeps [F.WC_STATUS_HYST_HOLD c] [.wcmp] s (s.wcPendSee c x) := (.after (State.wcPendSee_keeps ..) (.refl _ _ _))

section
variable (s : State) (c : Nat) (hi lo : Bool)

theorem State.wcOut_hi : (s.wcOut c hi lo).get (F.WC_STATUS_OUT_HI c) = b2n hi := by
  cases hi <;> simp [State.wcOut, b2n]

theorem State.wcOut_lo : (s.wcOut c hi lo).get (F.WC_STATUS_OUT_LO c) = b2n lo := by
  cases lo <;> simp [State.wcOut, b2n]

theorem State.wcOut_wcmp : (s.wcOut c hi lo).wcmp = s.wcmp := (s.wcOut_frame c hi lo).2 .wcmp (by decide)

/-- No live output, and no flag of a run of comparisons, is a comparator's STATE or one of its thresholds. -/
theorem State.wcOut_state : (s.wcOut c hi lo).wcState c = s.wcState c := (s.wcOut_frame c hi lo).get_eq _ (by simp)

end

theorem State.wcTied_watching {s : State} {c : Nat} (h : s.wcState c ≠ 3) : s.wcTied c = false := by
  simp [State.wcTied, State.wcStep, h]

theorem State.wcHi_watching {s : State} {c : Nat} (h : s.wcState c ≠ 3) : s.wcHi c = s.get (F.WC_THR_HI c) := by
  simp [State.wcHi, State.wcTied_watching h]

theorem State.wcLo_watching {s : State} {c : Nat} (h : s.wcState c ≠ 3) : s.wcLo c = s.get (F.WC_THR_LO c) := by
  simp [State.wcLo, State.wcTied_watching h]

/-- The level a comparator under test is connected to, in step k with its pin at x (Table WCMP-3). -/
def wcTestAt (k : Nat) (x : Rat) : Rat := if k < 2 then 256 else if k < 4 then 768 else 1024 - x

section
variable {s : State} {c : Nat} (x : Rat)

/-- READY or TRIPPED: the live outputs follow the pin. -/
theorem State.wcSee_watching (h : s.wcState c < 2) : s.wcSee c x = (s.modWc c fun w => { w with input := some x }).wcOutAt c x := by
  have hstate : (s.modWc c fun w => { w with input := some x }).wcState c = s.wcState c := rfl
  have hout : ((s.modWc c fun w => { w with input := some x }).wcOutAt c x).wcState c = s.wcState c := (State.wcOut_state ..).trans hstate
  simp only [State.wcSee, State.wcStep, hstate, hout, show s.wcState c ≠ 3 by omega, show s.wcState c ≠ 2 by omega, if_false]

/-- TRIP_PENDING: the comparison counts besides (R178). -/
theorem State.wcSee_pending (h : s.wcState c = 2) :
    s.wcSee c x = ((s.modWc c fun w => { w with input := some x }).wcOutAt c x).wcPendSee c x := by
  have hstate : (s.modWc c fun w => { w with input := some x }).wcState c = 2 := h
  have hout : ((s.modWc c fun w => { w with input := some x }).wcOutAt c x).wcState c = 2 := (State.wcOut_state ..).trans hstate
  simp [State.wcSee, State.wcStep, hstate, hout]

/-- Under test: the live outputs follow the tie, or the swapped pin (Table WCMP-3). -/
theorem State.wcSee_testing (h : s.wcState c = 3) :
    s.wcSee c x = (s.modWc c fun w => { w with input := some x }).wcOutAt c (wcTestAt (s.wcmp.wc.get c).testStep x) := by
  have hstate : (s.modWc c fun w => { w with input := some x }).wcState c = 3 := h
  have hlevel : (s.modWc c fun w => { w with input := some x }).wcTestLevel c = some (wcTestAt (s.wcmp.wc.get c).testStep x) := by
    simp only [State.wcTestLevel, State.modWc_get_same, wcTestAt, Option.map_some]
    split_ifs <;> rfl
  simp only [State.wcSee, State.wcStep, hstate, if_true, hlevel]

end

/-- A comparator's registers lie below the half-bridges' and beside the lanes'. -/
theorem wc_apart_holds {c : Nat} (hc : c < 24) (o : Nat) (ho : o < 0x20) :
    ∀ r ∈ [zone R.DRV_STATUS, zone R.LANE_STATUS], R.WC_THR c + o < r.1 ∨ r.2 ≤ R.WC_THR c + o := by
  simp only [List.forall_mem_cons, List.not_mem_nil, IsEmpty.forall_iff, implies_true, and_true]
  simp only [R.WC_THR, R.DRV_STATUS, R.LANE_STATUS]
  split <;> omega

theorem State.wcHold_get (s : State) {c : Nat} (hc : c < 24) (n : Nat) {f : Fld} (h : ∃ o, o < 0x20 ∧ f.addr = R.WC_THR c + o) :
    (s.wcHold n).get f = s.get f := by
  obtain ⟨o, ho, hf⟩ := h
  exact (s.wcHold_outside n).get_eq f (hf ▸ wc_apart_holds hc o ho)

theorem State.wcHold_state (s : State) {c : Nat} (hc : c < 24) (n : Nat) : (s.wcHold n).wcState c = s.wcState c :=
  s.wcHold_get hc n ⟨8, by decide, rfl⟩

theorem State.wcSee_frame_unless {s : State} {c : Nat} (x : Rat) (h : s.wcState c ≠ 2) :
    Keeps [F.WC_STATUS_OUT_HI c, F.WC_STATUS_OUT_LO c] [.wcmp, .relay] s (s.wcSee c x) := by
  have hlt : s.wcState c < 4 := s.get_lt (F.WC_STATUS_STATE c)
  obtain hlow | h3 : s.wcState c < 2 ∨ s.wcState c = 3 := by omega
  · rw [State.wcSee_watching x hlow]
    exact .after (State.wcOut_frame _ _ _ _) (.after (State.modWc_frame ..) (.refl _ _ s))
  · rw [State.wcSee_testing x h3]
    exact .after (State.wcOut_frame _ _ _ _) (.after (State.modWc_frame ..) (.refl _ _ s))

theorem State.wcSee_frame (s : State) (c : Nat) (x : Rat) :
    Keeps [F.WC_STATUS_OUT_HI c, F.WC_STATUS_OUT_LO c, F.WC_STATUS_HYST_HOLD c] [.wcmp, .relay] s (s.wcSee c x) := by
  by_cases h : s.wcState c = 2
  · rw [State.wcSee_pending x h]
    exact .after (State.wcPendSee_frame ..) (.after (State.wcOut_frame _ _ _ _) (.after (State.modWc_frame ..) (.refl _ _ s)))
  · exact .after (State.wcSee_frame_unless x h) (.refl _ _ s)

theorem State.wcSee_state (s : State) (c : Nat) (x : Rat) : (s.wcSee c x).wcState c = s.wcState c := (s.wcSee_frame c x).get_eq _ (by simp)

theorem State.wcSee_hi {s : State} {c : Nat} (x : Rat) (h : s.wcState c ≠ 3) : (s.wcSee c x).wcHi c = s.wcHi c := by
  rw [State.wcHi_watching (by rwa [State.wcSee_state]), State.wcHi_watching h, (s.wcSee_frame c x).get_eq _ (by simp)]

theorem State.wcSee_lo {s : State} {c : Nat} (x : Rat) (h : s.wcState c ≠ 3) : (s.wcSee c x).wcLo c = s.wcLo c := by
  rw [State.wcLo_watching (by rwa [State.wcSee_state]), State.wcLo_watching h, (s.wcSee_frame c x).get_eq _ (by simp)]

theorem State.wcSee_wc {s : State} {c : Nat} (x : Rat) (h : s.wcState c < 2) :
    (s.wcSee c x).wcmp.wc.get c = { s.wcmp.wc.get c with input := some x } := by
  rw [State.wcSee_watching x h, State.wcOutAt, State.wcOut_wcmp, State.modWc_get_same]

/-- A recorded crossing (R170). -/
theorem State.wcTrip_facts (s : State) {c : Nat} (hc : c < 24) (high : Bool) :
    (s.wcTrip c high).wcState c = 1 ∧ (s.wcTrip c high).get (F.WC_STATUS_SIDE c) = b2n high ∧
    (s.wcTrip c high).rd (R.WC_TRIP_TICK c) = BitVec.ofNat 32 s.epoch ∧
    (s.wcTrip c high).get (F.WC_STATUS_TRIP_CNT c) = satInc (F.WC_STATUS_TRIP_CNT c).len (s.get (F.WC_STATUS_TRIP_CNT c)) ∧
    (s.wcTrip c high).raised = s.raised ++ [⟨FS.WCMP_TRIP c, 0⟩] := by
  have hsat := satInc_lt 16 (s.get (F.WC_STATUS_TRIP_CNT c))
  have hold (f : Fld) (h : ∃ o, o < 0x20 ∧ f.addr = R.WC_THR c + o) : (s.wcTrip c high).get f =
      ((((s.put (F.WC_STATUS_STATE c) 1).put (F.WC_STATUS_SIDE c) (b2n high)).wr (R.WC_TRIP_TICK c) s.now32).incSat (F.WC_STATUS_TRIP_CNT c)).get f :=
    (State.wcHold_get _ hc _ h)
  refine ⟨?_, ?_, ?_, ?_, congrArg (· ++ _) ((State.wcHold_outside ..).2 .raised (by decide))⟩
  · rw [State.wcState, hold _ ⟨8, by decide, rfl⟩]
    simp
  · rw [hold _ ⟨8, by decide, rfl⟩]
    cases high <;> simp [b2n]
  · refine ((State.wcHold_outside ..).1 _ (wc_apart_holds hc 12 (by decide))).trans ?_
    simp [State.modWc, State.now32, w32]
  · rw [hold _ ⟨8, by decide, rfl⟩]
    simpa using hsat

theorem State.wcSee_outside (s : State) {c : Nat} (x : Rat) (hc : c < 24) :
    KeepsOutside [zone R.WCMPP_STATUS, zone R.WCMPG_STATUS] [.wcmp, .relay] s (s.wcSee c x) :=
  (s.wcSee_frame c x).toOutside (by simp [zone]; split <;> omega)

end Sys2Proof.Machine
end

section
/-!
Proofs about the window comparators (chapter 05): crossings and new thresholds.
The proofs are elaborated in turn: in one text, proofs that wait for each other would each hold a thread.
-/

set_option Elab.async false

namespace Sys2Proof.Machine

/-! ### Crossings -/

theorem State.wcTrip_outside (s : State) (c : ℕ) (high : Bool) (hc : c < 24) :
    KeepsOutside [zone R.WCMPP_STATUS, zone R.WCMPG_STATUS, zone R.DRV_STATUS, zone R.LANE_STATUS] [.raised, .drive, .pwm, .diag, .wcmp] s (s.wcTrip c high) :=
  .raise' (.after (State.wcHold_outside ..) (.after (State.modWc_outside ..) (.incSat' (.wr' (.put' (.put' (.refl _ _ _) (by dsimp; split <;> simp <;> omega)) (by dsimp; split <;> simp <;> omega)) (by dsimp; split <;> simp <;> omega)) (by dsimp; split <;> simp <;> omega))))

theorem State.wcTrip_reach (s : State) {c : Nat} (hc : c < 24) (high : Bool) :
    KeepsOutside [zone R.WCMPP_STATUS, zone R.WCMPG_STATUS, zone R.DRV_STATUS, zone R.LANE_STATUS] [.raised, .wcmp, .drive, .pwm, .diag] s
      (s.wcTrip c high) := (.after (State.wcTrip_outside _ _ _ (by omega)) (.refl _ _ _))

section
variable {s : State} {c : Nat} {x : Rat}

theorem State.wcLevel_high (h : s.wcState c < 2) (hx : s.wcHi c < x) : s.wcLevel c x = (s.wcSee c x).wcTrip c true := by
  have h3 : s.wcState c ≠ 3 := by omega
  simp only [State.wcLevel, State.wcSee_hi x h3, hx, if_true, State.wcCross, State.wcSee_state, h]

theorem State.wcLevel_low (h : s.wcState c < 2) (hle : s.wcLo c ≤ s.wcHi c) (hx : x < s.wcLo c) : s.wcLevel c x = (s.wcSee c x).wcTrip c false := by
  have h3 : s.wcState c ≠ 3 := by omega
  have hhi : ¬ s.wcHi c < x := not_lt.mpr (hx.le.trans hle)
  simp only [State.wcLevel, State.wcSee_hi x h3, State.wcSee_lo x h3, hhi, hx, if_true, if_false, State.wcCross, State.wcSee_state, h]

/-- Pending or under test a level records no crossing (R179, R182). -/
theorem State.wcLevel_unrecorded (h : 2 ≤ s.wcState c) : s.wcLevel c x = s.wcSee c x := by
  have hcross (b : Bool) : (s.wcSee c x).wcCross c b = s.wcSee c x := if_neg (by rw [State.wcSee_state]; omega)
  simp only [State.wcLevel, hcross, ite_self]

theorem State.wcInside_high (hx : s.wcHi c < x) : s.wcInside c x = false := by
  have hhyst : (0 : Rat) ≤ s.wcHyst c := Nat.cast_nonneg _
  have hnot : ¬ x < s.wcHi c - s.wcHyst c := by linarith
  simp [State.wcInside, hnot]

/-- The live outputs are no part of what a comparison of TRIP_PENDING judges. -/
theorem State.wcOutAt_inside (h : s.wcState c = 2) :
    ((s.modWc c fun w => { w with input := some x }).wcOutAt c x).wcInside c x = s.wcInside c x := by
  have hframe : Keeps [F.WC_STATUS_OUT_HI c, F.WC_STATUS_OUT_LO c] [.wcmp, .relay] s ((s.modWc c fun w => { w with input := some x }).wcOutAt c x) :=
    .after (State.wcOut_frame _ _ _ _) (.after (State.modWc_frame ..) (.refl _ _ s))
  have hstate : ((s.modWc c fun w => { w with input := some x }).wcOutAt c x).wcState c = s.wcState c := hframe.get_eq _ (by simp)
  simp only [State.wcInside, State.wcHi_watching (show s.wcState c ≠ 3 by omega), State.wcLo_watching (show s.wcState c ≠ 3 by omega),
    State.wcHi_watching (hstate.trans_ne (show s.wcState c ≠ 3 by omega)), State.wcLo_watching (hstate.trans_ne (show s.wcState c ≠ 3 by omega)),
    State.wcHyst, hframe.get_eq (F.WC_THR_HI c) (by simp), hframe.get_eq (F.WC_THR_LO c) (by simp), hframe.get_eq (F.WC_CFG_HYST c) (by simp)]

/-- A pending comparator that sees a level outside its window counts anew (R178). -/
theorem State.wcSee_restarts (h : s.wcState c = 2) (hin : s.wcInside c x = false) : ((s.wcSee c x).wcmp.wc.get c).pendFrom = none := by
  rw [State.wcSee_pending x h, State.wcPendSee, State.wcOutAt_inside h, hin, State.modWc_get_same]
  rfl

/-- One that sees a level inside it begins or continues its run (R178). -/
theorem State.wcSee_run (h : s.wcState c = 2) (hin : s.wcInside c x = true) :
    ((s.wcSee c x).wcmp.wc.get c).pendFrom = some ((s.wcmp.wc.get c).pendFrom.getD s.mono) := by
  rw [State.wcSee_pending x h, State.wcPendSee, State.wcOutAt_inside h, hin, State.modWc_get_same]
  have hmono : ((s.modWc c fun w => { w with input := some x }).wcOutAt c x).mono = s.mono :=
    State.mono_congr ((State.wcOut_frame ..).2 .epoch (by decide)) ((State.wcOut_frame ..).2 .ep (by decide))
  rw [hmono]
  simp [State.wcOutAt, State.wcOut_wcmp]

end

/-- A level that a comparison finds is no part of the thresholds in force. -/
theorem State.wcHi_input (s : State) (c : Nat) (x : Rat) : (s.modWc c fun w => { w with input := some x }).wcHi c = s.wcHi c := by
  simp only [State.wcHi, State.wcTied, State.wcStep, State.modWc_get_same]
  rfl

theorem State.wcLo_input (s : State) (c : Nat) (x : Rat) : (s.modWc c fun w => { w with input := some x }).wcLo c = s.wcLo c := by
  simp only [State.wcLo, State.wcTied, State.wcStep, State.modWc_get_same]
  rfl

theorem State.wcSee_testing_outs {s : State} {c : Nat} (x : Rat) (h : s.wcState c = 3) :
    (s.wcSee c x).get (F.WC_STATUS_OUT_HI c) = b2n (decide (s.wcHi c < wcTestAt (s.wcmp.wc.get c).testStep x)) ∧
    (s.wcSee c x).get (F.WC_STATUS_OUT_LO c) = b2n (decide (wcTestAt (s.wcmp.wc.get c).testStep x < s.wcLo c)) := by
  rw [State.wcSee_testing x h, State.wcOutAt, State.wcOut_hi, State.wcOut_lo, State.wcHi_input, State.wcLo_input]
  exact ⟨rfl, rfl⟩

/-- A recorded crossing leaves the comparator's other fields. -/
theorem State.wcTrip_get (s : State) {c : Nat} (hc : c < 24) (high : Bool) {f : Fld} (h : ∃ o, o < 0x20 ∧ f.addr = R.WC_THR c + o)
    (hf : ∀ g ∈ [F.WC_STATUS_STATE c, F.WC_STATUS_SIDE c, whole (R.WC_TRIP_TICK c), F.WC_STATUS_TRIP_CNT c], g.apart f = true) :
    (s.wcTrip c high).get f = s.get f := by
  have hframe : Keeps [F.WC_STATUS_STATE c, F.WC_STATUS_SIDE c, whole (R.WC_TRIP_TICK c), F.WC_STATUS_TRIP_CNT c] [] s
      ((((s.put (F.WC_STATUS_STATE c) 1).put (F.WC_STATUS_SIDE c) (b2n high)).wr (R.WC_TRIP_TICK c) s.now32).incSat (F.WC_STATUS_TRIP_CNT c)) :=
    .incSat' (.wr' (.put' (.put' (.refl _ _ s))))
  exact (State.wcHold_get _ hc _ h).trans (hframe.get_eq f hf)

/-! ### New thresholds (R169) -/

/-- The state in which a comparator's waiting thresholds govern. -/
def State.wcThrNew (s : State) (c : Nat) : State := (s.transfer (F.WC_THR_HI c)).transfer (F.WC_THR_LO c)

theorem State.wcThrNew_frame (s : State) (c : Nat) : Keeps [F.WC_THR_HI c, F.WC_THR_LO c] [.shadow] s (s.wcThrNew c) :=
  .transfer' (.transfer' (.refl _ _ s))

/-- A transfer leaves what waits in the other bits of its register. -/
theorem State.shadowGet_transfer_apart (s : State) {f g : Fld} (ha : g.addr = f.addr) (h : g.lo + g.len ≤ f.lo) (hf : f.lo + f.len ≤ 32) :
    (s.transfer f).shadowGet g = s.shadowGet g := by
  unfold State.transfer
  split
  · have hget (v : Nat) : (s.put f v).get g = s.get g := State.get_put_other _ _ _ _ (by simp [Fld.apart]; omega)
    simp only [State.shadowGet, State.shadowed, ha, SMap.get_set_same, bitsOf_bitsPut_low _ _ _ _ _ _ h, State.get_mk, hget]
  · rfl

theorem State.wcThrNew_get (s : State) (c : Nat) :
    (s.wcThrNew c).get (F.WC_THR_HI c) = s.shadowGet (F.WC_THR_HI c) ∧ (s.wcThrNew c).get (F.WC_THR_LO c) = s.shadowGet (F.WC_THR_LO c) := by
  have hlo := (s.transfer (F.WC_THR_HI c)).get_transfer (F.WC_THR_LO c) (by simp)
  have hhi := s.get_transfer (F.WC_THR_HI c) (by simp)
  have hsecond : Keeps [F.WC_THR_LO c] [.shadow] (s.transfer (F.WC_THR_HI c)) (s.wcThrNew c) := .transfer' (.refl _ _ _)
  exact ⟨(hsecond.get_eq _ (by simp)).trans hhi, hlo.trans (s.shadowGet_transfer_apart rfl (by simp) (by simp))⟩

/-- What becomes of a level found at new thresholds, with the live outputs that stood before. -/
def State.thrEnd (s : State) (c : Nat) (x : Rat) (hi lo : Bool) : State :=
  if s.wcHi c < x ∧ !hi then s.wcCross c true else if x < s.wcLo c ∧ !lo then s.wcCross c false else s

theorem State.wcThrApply_eq (s : State) (c : Nat) (x : Rat) :
    s.wcThrApply c x = ((s.wcThrNew c).wcSee c x).thrEnd c x (s.flag (F.WC_STATUS_OUT_HI c)) (s.flag (F.WC_STATUS_OUT_LO c)) := rfl

theorem State.wcCross_parts (s : State) {c : Nat} (hc : c < 24) (high : Bool) :
    (s.wcCross c high).get (F.WC_THR_HI c) = s.get (F.WC_THR_HI c) ∧ (s.wcCross c high).get (F.WC_THR_LO c) = s.get (F.WC_THR_LO c) ∧
    KeepsOutside [zone R.WCMPP_STATUS, zone R.WCMPG_STATUS, zone R.DRV_STATUS, zone R.LANE_STATUS] [.raised, .wcmp, .drive, .pwm, .diag] s
      (s.wcCross c high) := by
  unfold State.wcCross
  split
  · exact ⟨s.wcTrip_get hc high ⟨0, by decide, rfl⟩ (by simp [whole]), s.wcTrip_get hc high ⟨0, by decide, rfl⟩ (by simp [whole]), s.wcTrip_reach hc high⟩
  · exact ⟨rfl, rfl, .refl _ _ s⟩

theorem State.thrEnd_parts (s : State) {c : Nat} (hc : c < 24) (x : Rat) (hi lo : Bool) :
    (s.thrEnd c x hi lo).get (F.WC_THR_HI c) = s.get (F.WC_THR_HI c) ∧ (s.thrEnd c x hi lo).get (F.WC_THR_LO c) = s.get (F.WC_THR_LO c) ∧
    KeepsOutside [zone R.WCMPP_STATUS, zone R.WCMPG_STATUS, zone R.DRV_STATUS, zone R.LANE_STATUS] [.raised, .wcmp, .drive, .pwm, .diag] s
      (s.thrEnd c x hi lo) := by
  unfold State.thrEnd
  split_ifs
  · exact s.wcCross_parts hc true
  · exact s.wcCross_parts hc false
  · exact ⟨rfl, rfl, .refl _ _ s⟩

/-- Settles O15: a level shows in the live outputs, and a crossing of a watched threshold trips. -/
theorem comparatorCrossings : Obligations.ComparatorCrossings := by
  intro s c x
  have hc := c.isLt
  refine ⟨fun hon hstate hx => ?_, fun hon hstate hle hx => ?_, fun hon hstate hx => ?_, fun y hon hstate hy => ?_, fun hsh => ?_⟩
  · have hexec : exec (.wcCrossing c x) s = .next (s.wcLevel c x) := if_pos hon
    have hsee := s.wcSee_frame c x
    obtain ⟨htrip, hside, htick, hcnt, hraised⟩ := (s.wcSee c x).wcTrip_facts hc true
    rw [State.wcLevel_high hstate hx] at hexec
    rw [hsee.get_eq _ (by simp)] at hcnt
    exact ⟨_, hexec, htrip, hside, htick.trans (by rw [hsee.2 .epoch (by decide)]), hcnt, hraised.trans (by rw [hsee.2 .raised (by decide)]),
      .after ((s.wcSee c x).wcTrip_reach hc true) (.after (s.wcSee_outside x hc) (.refl _ _ s))⟩
  · have hexec : exec (.wcCrossing c x) s = .next (s.wcLevel c x) := if_pos hon
    have hsee := s.wcSee_frame c x
    obtain ⟨htrip, hside, -, -, hraised⟩ := (s.wcSee c x).wcTrip_facts hc false
    rw [State.wcLevel_low hstate hle hx] at hexec
    exact ⟨_, hexec, htrip, hside, hraised.trans (by rw [hsee.2 .raised (by decide)]),
      .after ((s.wcSee c x).wcTrip_reach hc false) (.after (s.wcSee_outside x hc) (.refl _ _ s))⟩
  · have hexec : exec (.wcCrossing c x) s = .next (s.wcLevel c x) := if_pos hon
    rw [State.wcLevel_unrecorded (by omega)] at hexec
    exact ⟨_, hexec, (s.wcSee_state c x).trans hstate, State.wcSee_restarts hstate (State.wcInside_high hx), s.wcSee_frame c x⟩
  · have hexec : exec (.wcCrossing c x) s = .next (s.wcLevel c x) := if_pos hon
    rw [State.wcLevel_unrecorded (by omega)] at hexec
    obtain ⟨hhi, hlo⟩ := State.wcSee_testing_outs x hstate
    exact ⟨_, hexec, (s.wcSee_state c x).trans hstate, by rw [hhi, hy]; rfl, by rw [hlo, hy]; rfl, State.wcSee_frame_unless x (by omega)⟩
  · have hexec : exec (.wcThrApply c x) s = .next (s.wcThrApply c x) := if_pos hsh
    obtain ⟨hhi, hlo⟩ := s.wcThrNew_get c
    have hnew := s.wcThrNew_frame c
    have hstate : (s.wcThrNew c).wcState c = s.wcState c := hnew.get_eq _ (by simp)
    have hsee := (s.wcThrNew c).wcSee_frame c x
    have hseen : ((s.wcThrNew c).wcSee c x).wcState c = s.wcState c := ((s.wcThrNew c).wcSee_state c x).trans hstate
    have hraised : ((s.wcThrNew c).wcSee c x).raised = s.raised := (hsee.2 .raised (by decide)).trans (hnew.2 .raised (by decide))
    obtain ⟨hend_hi, hend_lo, hreach⟩ := ((s.wcThrNew c).wcSee c x).thrEnd_parts hc x (s.flag (F.WC_STATUS_OUT_HI c)) (s.flag (F.WC_STATUS_OUT_LO c))
    rw [State.wcThrApply_eq] at hexec
    refine ⟨_, hexec, hend_hi.trans ((hsee.get_eq _ (by simp)).trans hhi), hend_lo.trans ((hsee.get_eq _ (by simp)).trans hlo),
      fun hlow hx hout => ?_, fun hlow hx hout hle => ?_, fun hhigh => ?_, ?_⟩
    · have hwin : ((s.wcThrNew c).wcSee c x).wcHi c < x := by
        rwa [State.wcHi_watching (by omega), hsee.get_eq _ (by simp), hhi]
      obtain ⟨htrip, hside, -, -, htraised⟩ := ((s.wcThrNew c).wcSee c x).wcTrip_facts hc true
      rw [State.thrEnd, if_pos ⟨hwin, by simp [hout]⟩, State.wcCross, if_pos (by omega)]
      exact ⟨htrip, hside, htraised.trans (by rw [hraised])⟩
    · have hle' : (s.shadowGet (F.WC_THR_LO c) : Rat) ≤ s.shadowGet (F.WC_THR_HI c) := Nat.cast_le.mpr hle
      have hwin : ¬ x < ((s.wcThrNew c).wcSee c x).wcLo c := by
        rw [State.wcLo_watching (by omega), hsee.get_eq _ (by simp), hlo]
        exact not_lt.mpr (hle'.trans hx.le)
      rw [State.thrEnd, if_neg (by simp [hout]), if_neg fun h => hwin h.1]
      exact ⟨hseen, hraised⟩
    · have hcross (b : Bool) : ((s.wcThrNew c).wcSee c x).wcCross c b = (s.wcThrNew c).wcSee c x := if_neg (by omega)
      simp only [State.thrEnd, hcross, ite_self]
      exact .after hsee (.after hnew (.refl _ _ s))
    · exact .after hreach (.after ((s.wcThrNew c).wcSee_outside x hc) (.after (hnew.toOutside (rs := [zone R.WCMPP_STATUS, zone R.WCMPG_STATUS])
        (by simp [zone]; split <;> omega)) (.refl _ _ s)))

end Sys2Proof.Machine
end

section
/-!
Proofs about the window comparators (chapter 05): writes of the thresholds, clears and the self-test.
The proofs are elaborated in turn: in one text, proofs that wait for each other would each hold a thread.
-/

set_option Elab.async false

namespace Sys2Proof.Machine

/-! ### Writes of the thresholds, and clears by software (R169, R174 to R177) -/

theorem wcBlk_rejectSrc (c : Nat) : (wcBlk c).rejectSrc = some FS.WCMP_CFG := by
  unfold wcBlk
  split <;> rfl

/-- The sticky flag of a refused clear on a comparator's side. -/
def clrFld (c : Nat) : Fld := if wcGrid c then F.WCMPG_STICKY_CLR_REFUSED else F.WCMPP_STICKY_CLR_REFUSED

/-- The record of a clear that was decided: what it refused is flagged, what it cleared is READY. -/
def State.clearDecided (s : State) (c : Nat) (refused ok : Bool) : State :=
  let s := (if refused then s.clrRefused c else s).modWc c fun w => { w with softClear := none, periodClear := none }
  if ok then (s.put (F.WC_STATUS_STATE c) 0).noteHolds else s

/-- A clear that was requested at a tick, if one was, succeeds at a comparison. -/
def WcState.clears (w : WcState) (ready : Bool) (request : Option Nat) : Bool := request.any fun t => ready && !w.fails t

theorem State.wcDecide_eq (s : State) (c : Nat) (x : Rat) : s.wcDecide c x =
    s.clearDecided c ((s.wcmp.wc.get c).softClear.isSome && !(s.wcmp.wc.get c).clears (s.wcReady c x) (s.wcmp.wc.get c).softClear)
      ((s.wcmp.wc.get c).clears (s.wcReady c x) (s.wcmp.wc.get c).softClear ||
        (s.wcmp.wc.get c).clears (s.wcReady c x) (s.wcmp.wc.get c).periodClear) := rfl

theorem WcState.clears_some {w : WcState} {n : Nat} (h : ∀ m, w.crossAt = some m → m < n) : w.clears true (some n) = true := by
  cases hx : w.crossAt with
  | none => simp [WcState.clears, WcState.fails, hx]
  | some m => simpa [WcState.clears, WcState.fails, hx] using h m hx

theorem WcState.clears_fails {w : WcState} {n : Nat} {ready : Bool} (h : ready = false ∨ ∃ m, w.crossAt = some m ∧ n ≤ m) :
    w.clears ready (some n) = false := by
  obtain rfl | ⟨m, hm, hle⟩ := h
  · rfl
  · simp [WcState.clears, WcState.fails, hm, hle]

theorem State.shadowGet_toShadow_apart (s : State) {f g : Fld} (v : Nat) (ha : g.addr = f.addr) (h : f.lo + f.len ≤ g.lo) :
    (s.toShadow f v).shadowGet g = s.shadowGet g := by
  simp only [State.shadowGet, State.shadowed, State.toShadow, ha, SMap.get_set_same, bitsOf_bitsPut_high _ _ _ _ _ _ h, State.get_mk]

/-- A word with one bit set names one comparator of its side. -/
theorem maskIdx_one_grid : ∀ k : Fin 10, maskIdx 10 (BitVec.ofNat 32 (2 ^ (k : Nat))).toNat = [(k : Nat)] := by decide

theorem maskIdx_one_primary : ∀ k : Fin 14, maskIdx 14 (BitVec.ofNat 32 (2 ^ (k : Nat))).toNat = [(k : Nat)] := by decide

section
variable (s : State) (c : Nat) (refused ok : Bool)

theorem State.clrRefused_frame : Keeps [clrFld c] [] s (s.clrRefused c) := by
  unfold State.clrRefused clrFld
  exact .set1' (.refl _ _ s)

theorem State.clrRefused_state : (s.clrRefused c).wcState c = s.wcState c :=
  (s.clrRefused_frame c).get_eq _ (by unfold clrFld; split <;> simp <;> split <;> omega)

theorem State.clearDecided_state : (s.clearDecided c refused ok).wcState c = if ok then 0 else s.wcState c := by
  have hflag : ((if refused then s.clrRefused c else s).modWc c fun w => { w with softClear := none, periodClear := none }).wcState c =
      s.wcState c := by
    split
    · exact s.clrRefused_state c
    · rfl
  cases ok with
  | false => exact hflag
  | true => exact ((State.noteHolds_keeps _).get_eq _ (by simp)).trans (by simp)

theorem State.clearDecided_wc : ((s.clearDecided c refused ok).wcmp.wc.get c).softClear = none ∧
    ((s.clearDecided c refused ok).wcmp.wc.get c).periodClear = none := by
  cases ok with
  | false => simp [State.clearDecided]
  | true =>
    have hkeep (t : State) : ((t.put (F.WC_STATUS_STATE c) 0).noteHolds).wcmp = t.wcmp := (State.noteHolds_keeps _).2 .wcmp (by decide)
    simp [State.clearDecided, hkeep]

theorem State.clearDecided_cleared : Keeps [F.WC_STATUS_STATE c] [.wcmp, .pwm, .diag] s (s.clearDecided c false true) :=
  .after (State.noteHolds_keeps _) (.put' (.after (State.modWc_frame ..) (.refl _ _ s)))

theorem State.clearDecided_left : Keeps [] [.wcmp] s (s.clearDecided c false false) := State.modWc_frame ..

theorem State.clearDecided_refused : Keeps [clrFld c] [.wcmp] s (s.clearDecided c true false) :=
  .after (State.modWc_frame ..) (.after (s.clrRefused_frame c) (.refl _ _ s))

theorem State.clrRefused_flag : (s.clrRefused c).get (clrFld c) = 1 := by
  unfold State.clrRefused clrFld
  split <;> simp

theorem State.clearDecided_flag : (s.clearDecided c true false).get (clrFld c) = 1 := s.clrRefused_flag c

theorem State.wcClearWrite_one (hc : c < 24) : s.wcClearWrite (wcGrid c) (BitVec.ofNat 32 (2 ^ (if c < 14 then c else c - 14))) = s.wcSoftClear c := by
  by_cases h : c < 14
  · simp only [State.wcClearWrite, wcGrid, h, decide_true, Bool.not_true, Bool.false_eq_true, if_false, if_true, maskIdx_one_primary ⟨c, h⟩]
    rfl
  · have hback : c - 14 + 14 = c := by omega
    simp only [State.wcClearWrite, wcGrid, h, decide_false, Bool.not_false, if_false, if_true, maskIdx_one_grid ⟨c - 14, by omega⟩, State.forEach,
      List.foldl_cons, List.foldl_nil, hback]

end

/-! ### The comparison that decides a clear, and the run of TRIP_PENDING -/

theorem State.wcSee_mono (s : State) (c : Nat) (x : Rat) : (s.wcSee c x).mono = s.mono :=
  State.mono_congr ((s.wcSee_frame c x).2 .epoch (by decide)) ((s.wcSee_frame c x).2 .ep (by decide))

section
variable {s : State} {c : Nat} (x : Rat)

/-- A comparison does not change whether it finds a comparator ready. -/
theorem State.wcSee_ready (h : s.wcState c ≠ 3) : (s.wcSee c x).wcReady c x = s.wcReady c x := by
  have hsee := s.wcSee_frame c x
  have hhyst : (s.wcSee c x).wcHyst c = s.wcHyst c := by simp only [State.wcHyst, hsee.get_eq (F.WC_CFG_HYST c) (by simp)]
  simp only [State.wcReady, State.wcSee_hi x h, State.wcSee_lo x h, hhyst, hsee.flag_eq (F.WC_STATUS_SIDE c) (by simp)]

/-- The state in which a clear of a TRIPPED comparator is decided. -/
theorem State.wcSee_decides (h : s.wcState c = 1) : (s.wcSee c x).wcDecide c x = (s.wcSee c x).clearDecided c
    ((s.wcmp.wc.get c).softClear.isSome && !(s.wcmp.wc.get c).clears (s.wcReady c x) (s.wcmp.wc.get c).softClear)
    ((s.wcmp.wc.get c).clears (s.wcReady c x) (s.wcmp.wc.get c).softClear ||
      (s.wcmp.wc.get c).clears (s.wcReady c x) (s.wcmp.wc.get c).periodClear) := by
  rw [State.wcDecide_eq, State.wcSee_wc x (by omega), State.wcSee_ready x (by omega)]
  rfl

/-- A comparator that is found inside its window for long enough is READY (R178). -/
theorem State.wcPendReady_ends {n : Nat} (h : s.wcState c = 2) (hin : s.wcInside c x = true) (hpend : (s.wcmp.wc.get c).pendFrom = some n)
    (hlate : n + 150 ≤ s.mono) : s.wcPendReady c x = ((s.wcSee c x).put (F.WC_STATUS_STATE c) 0).noteHolds := by
  simp [State.wcPendReady, State.wcSee_run h hin, hpend, s.wcSee_mono, hlate]

theorem State.wcPendReady_restarts (h : s.wcState c = 2) (hin : s.wcInside c x = false) : s.wcPendReady c x = s.wcSee c x := by
  simp [State.wcPendReady, State.wcSee_restarts h hin]

end

/-- A clear of a TRIPPED comparator that its comparison decides: what it leaves, where it succeeds and where it fails. -/
theorem State.wcClear_decided (s : State) (c : Nat) (x : Rat) (refused ok : Bool) (hstate : s.wcState c = 1) :
    (((s.wcSee c x).clearDecided c refused ok).wcState c = if ok then 0 else 1) ∧
    ((((s.wcSee c x).clearDecided c refused ok).wcmp.wc.get c).softClear = none ∧
      (((s.wcSee c x).clearDecided c refused ok).wcmp.wc.get c).periodClear = none) :=
  ⟨by rw [State.clearDecided_state, State.wcSee_state, hstate], State.clearDecided_wc ..⟩

section
variable {s : State} {c : Fin 24}

theorem exec_wcThrWrite_taken (i : Initiator) (v : Word) (hhi : s.adjust (F.WC_THR_HI c) (bitsOf v.toNat 16 10) = .ok)
    (hlo : s.adjust (F.WC_THR_LO c) (bitsOf v.toNat 0 10) = .ok) (hlt : bitsOf v.toNat 0 10 < bitsOf v.toNat 16 10) :
    exec (.wcThrWrite i c v) s =
      .next ((s.toShadow (F.WC_THR_HI c) (bitsOf v.toNat 16 10)).toShadow (F.WC_THR_LO c) (bitsOf v.toNat 0 10)) := by
  have hjudged : ¬ bitsOf v.toNat 16 10 ≤ bitsOf v.toNat 0 10 := by omega
  simp only [exec, execWcThrWrite, State.wcThrWrite, hhi, hlo, hjudged, reduceCtorEq, or_self, if_false]

theorem exec_wcThrWrite_refused (i : Initiator) (v : Word)
    (h : s.adjust (F.WC_THR_HI c) (bitsOf v.toNat 16 10) = .outside ∨ s.adjust (F.WC_THR_LO c) (bitsOf v.toNat 0 10) = .outside ∨
      (s.adjust (F.WC_THR_HI c) (bitsOf v.toNat 16 10) = .ok ∧ s.adjust (F.WC_THR_LO c) (bitsOf v.toNat 0 10) = .ok ∧
        bitsOf v.toNat 16 10 ≤ bitsOf v.toNat 0 10)) :
    exec (.wcThrWrite i c v) s = .next (s.cfgReject (wcBlk c)) := by
  obtain h | h | ⟨hhi, hlo, hle⟩ := h
  · simp only [exec, execWcThrWrite, State.wcThrWrite, h, true_or, if_true]
  · simp only [exec, execWcThrWrite, State.wcThrWrite, h, or_true, if_true]
  · simp only [exec, execWcThrWrite, State.wcThrWrite, hhi, hlo, hle, reduceCtorEq, or_self, if_false, if_true]

theorem exec_wcSoftwareClear (i : Initiator) {v : Word} (hv : v = BitVec.ofNat 32 (2 ^ (if c < 14 then (c : Nat) else c - 14))) :
    exec (.wcSoftwareClear i (wcGrid c) v) s = .next (s.wcSoftClear c) := by
  rw [exec, execWcSoftwareClear, hv]
  exact congrArg _ (s.wcClearWrite_one c c.isLt)

theorem exec_wcClearDecision (x : Rat) (hstate : s.wcState c = 1)
    (h : (s.wcmp.wc.get c).softClear.isSome = true ∨ (s.wcmp.wc.get c).periodClear.isSome = true) :
    exec (.wcClearDecision c x) s = .next ((s.wcSee c x).clearDecided c
      ((s.wcmp.wc.get c).softClear.isSome && !(s.wcmp.wc.get c).clears (s.wcReady c x) (s.wcmp.wc.get c).softClear)
      ((s.wcmp.wc.get c).clears (s.wcReady c x) (s.wcmp.wc.get c).softClear ||
        (s.wcmp.wc.get c).clears (s.wcReady c x) (s.wcmp.wc.get c).periodClear)) := by
  rw [← State.wcSee_decides x hstate]
  exact if_pos ⟨hstate, h⟩

end

/-- Both thresholds of an admitted write wait. -/
theorem State.wcThrWrite_shadows_hi (s : State) (c : Nat) (v : Word) :
    ((s.toShadow (F.WC_THR_HI c) (bitsOf v.toNat 16 10)).toShadow (F.WC_THR_LO c) (bitsOf v.toNat 0 10)).shadowGet (F.WC_THR_HI c) =
      bitsOf v.toNat 16 10 := by
  have hlt := bitsOf_lt v.toNat 16 10
  rw [State.shadowGet_toShadow_apart (f := F.WC_THR_LO c) (g := F.WC_THR_HI c) _ _ rfl (by simp), State.shadowGet_toShadow _ _ _ (by simp)]
  exact Nat.mod_eq_of_lt hlt

theorem State.wcThrWrite_shadows_lo (s : State) (c : Nat) (v : Word) :
    ((s.toShadow (F.WC_THR_HI c) (bitsOf v.toNat 16 10)).toShadow (F.WC_THR_LO c) (bitsOf v.toNat 0 10)).shadowGet (F.WC_THR_LO c) =
      bitsOf v.toNat 0 10 := by
  have hlt := bitsOf_lt v.toNat 0 10
  rw [State.shadowGet_toShadow _ _ _ (by simp)]
  exact Nat.mod_eq_of_lt hlt

section
variable (s : State) (c : Fin 24)

/-- A software clear of a TRIPPED comparator is noted (R174 to R177). -/
theorem wcSoftwareClear_noted (i : Initiator) (v : Word) (hv : v = BitVec.ofNat 32 (2 ^ (if c < 14 then (c : Nat) else c - 14)))
    (hmode : s.get (F.WC_CFG_CLEAR_MODE c) ≠ 1 ∨ s.clearUnit c = none) (hstate : s.wcState c = 1) :
    ∃ t, exec (.wcSoftwareClear i (wcGrid c) v) s = .next t ∧ (t.wcmp.wc.get c).softClear = some s.epoch ∧ t.wcState c = 1 ∧
      ((s.wcmp.wc.get c).softClear = none → Keeps [] [.wcmp] s t) ∧ Keeps [clrFld c] [.wcmp] s t := by
  have hnot : ¬ (s.get (F.WC_CFG_CLEAR_MODE c) = 1 ∧ (s.clearUnit c).isSome = true) := by
    rintro ⟨hone, hsome⟩
    rcases hmode with h | h
    · exact h hone
    · simp [h] at hsome
  have hsoft : s.wcSoftClear c = (if (s.wcmp.wc.get c).softClear.any (s.wcmp.wc.get c).fails then s.clrRefused c else s).modWc c
      fun w => { w with softClear := some s.epoch } := (if_neg hnot).trans (if_pos hstate)
  refine ⟨_, exec_wcSoftwareClear i hv, ?_, ?_, fun hnone => ?_, ?_⟩
  · simp [hsoft]
  · rw [hsoft]
    split
    · exact (s.clrRefused_state c).trans hstate
    · exact hstate
  · simp only [hsoft, hnone, Option.any_none, Bool.false_eq_true, if_false]
    exact State.modWc_frame ..
  · rw [hsoft]
    split
    · exact .after (State.modWc_frame ..) (.after (s.clrRefused_frame c) (.refl _ _ s))
    · exact .after (State.modWc_frame ..) (.refl _ _ s)

theorem wcClearDecision_succeeds (x : Rat) (n : Nat) (hstate : s.wcState c = 1) (hsoft : (s.wcmp.wc.get c).softClear = some n)
    (hcross : ∀ m, (s.wcmp.wc.get c).crossAt = some m → m < n) (hready : s.wcReady c x = true) :
    ∃ t, exec (.wcClearDecision c x) s = .next t ∧ t.wcState c = 0 ∧ (t.wcmp.wc.get c).softClear = none ∧
      Keeps [F.WC_STATUS_STATE c, F.WC_STATUS_OUT_HI c, F.WC_STATUS_OUT_LO c] [.wcmp, .relay, .pwm, .diag] s t := by
  have hexec := exec_wcClearDecision x hstate (.inl (by simp [hsoft]))
  simp only [hsoft, hready, WcState.clears_some hcross, Option.isSome_some, Bool.not_true, Bool.and_false, Bool.true_or] at hexec
  obtain ⟨hended, hnone, -⟩ := s.wcClear_decided c x false true hstate
  exact ⟨_, hexec, hended, hnone, .after (State.clearDecided_cleared ..) (.after (State.wcSee_frame_unless x (by omega)) (.refl _ _ s))⟩

theorem wcClearDecision_fails (x : Rat) (n : Nat) (hstate : s.wcState c = 1) (hsoft : (s.wcmp.wc.get c).softClear = some n)
    (hper : (s.wcmp.wc.get c).periodClear = none) (h : s.wcReady c x = false ∨ ∃ m, (s.wcmp.wc.get c).crossAt = some m ∧ n ≤ m) :
    ∃ t, exec (.wcClearDecision c x) s = .next t ∧ t.wcState c = 1 ∧ (t.wcmp.wc.get c).softClear = none ∧ t.get (clrFld c) = 1 ∧
      Keeps [clrFld c, F.WC_STATUS_OUT_HI c, F.WC_STATUS_OUT_LO c] [.wcmp, .relay] s t := by
  have hexec := exec_wcClearDecision x hstate (.inl (by simp [hsoft]))
  have hnoper : (s.wcmp.wc.get c).clears (s.wcReady c x) none = false := rfl
  simp only [hsoft, hper, WcState.clears_fails h, hnoper, Option.isSome_some, Bool.not_false, Bool.and_true, Bool.or_self] at hexec
  obtain ⟨hended, hnone, -⟩ := s.wcClear_decided c x true false hstate
  exact ⟨_, hexec, hended, hnone, State.clearDecided_flag .., .after (State.clearDecided_refused ..)
    (.after (State.wcSee_frame_unless x (by omega)) (.refl _ _ s))⟩

/-- A clear that a period start requested fails without a flag (R176, R177). -/
theorem wcClearDecision_period (x : Rat) (n : Nat) (hstate : s.wcState c = 1) (hsoft : (s.wcmp.wc.get c).softClear = none)
    (hper : (s.wcmp.wc.get c).periodClear = some n) :
    ∃ t, exec (.wcClearDecision c x) s = .next t ∧ (t.wcmp.wc.get c).periodClear = none ∧
      ((∀ m, (s.wcmp.wc.get c).crossAt = some m → m < n) → s.wcReady c x = true → t.wcState c = 0) ∧
      (s.wcReady c x = false ∨ (∃ m, (s.wcmp.wc.get c).crossAt = some m ∧ n ≤ m) → t.wcState c = 1) ∧
      Keeps [F.WC_STATUS_STATE c, F.WC_STATUS_OUT_HI c, F.WC_STATUS_OUT_LO c] [.wcmp, .relay, .pwm, .diag] s t := by
  have hexec := exec_wcClearDecision x hstate (.inr (by simp [hper]))
  have hnosoft : (s.wcmp.wc.get c).clears (s.wcReady c x) none = false := rfl
  simp only [hsoft, hper, hnosoft, Option.isSome_none, Bool.false_and, Bool.false_or] at hexec
  obtain ⟨hended, -, hnone⟩ := s.wcClear_decided c x false ((s.wcmp.wc.get c).clears (s.wcReady c x) (some n)) hstate
  refine ⟨_, hexec, hnone, fun hcross hready => ?_, fun h => ?_, ?_⟩
  · simpa [hready, WcState.clears_some hcross] using hended
  · simpa only [WcState.clears_fails h, Bool.false_eq_true, if_false] using hended
  · have hsee : Keeps [F.WC_STATUS_OUT_HI c, F.WC_STATUS_OUT_LO c] [.wcmp, .relay] s (s.wcSee c x) := State.wcSee_frame_unless x (by omega)
    cases (s.wcmp.wc.get c).clears (s.wcReady c x) (some n) with
    | true => exact .after (State.clearDecided_cleared ..) (.after hsee (.refl _ _ s))
    | false => exact .after (State.clearDecided_left ..) (.after hsee (.refl _ _ s))

theorem wcPendingReady_ends (x : Rat) (n : Nat) (hon : s.wcPowered c = true) (hstate : s.wcState c = 2)
    (hpend : (s.wcmp.wc.get c).pendFrom = some n) (hlate : n + 150 ≤ s.mono) (hin : s.wcInside c x = true) :
    ∃ t, exec (.wcPendingReady c x) s = .next t ∧ t.wcState c = 0 ∧
      Keeps [F.WC_STATUS_STATE c, F.WC_STATUS_OUT_HI c, F.WC_STATUS_OUT_LO c, F.WC_STATUS_HYST_HOLD c] [.wcmp, .relay, .pwm, .diag] s t := by
  have hexec : exec (.wcPendingReady c x) s = .next (s.wcPendReady c x) := if_pos (by simp [hon, hstate])
  rw [State.wcPendReady_ends x hstate hin hpend hlate] at hexec
  exact ⟨_, hexec, ((State.noteHolds_keeps _).get_eq _ (by simp)).trans (by simp),
    .after (State.noteHolds_keeps _) (.put' (.after (s.wcSee_frame c x) (.refl _ _ s)))⟩

theorem wcPendingReady_restarts (x : Rat) (hon : s.wcPowered c = true) (hstate : s.wcState c = 2) (hin : s.wcInside c x = false) :
    ∃ t, exec (.wcPendingReady c x) s = .next t ∧ t.wcState c = 2 ∧ (t.wcmp.wc.get c).pendFrom = none ∧
      Keeps [F.WC_STATUS_OUT_HI c, F.WC_STATUS_OUT_LO c, F.WC_STATUS_HYST_HOLD c] [.wcmp, .relay] s t := by
  have hexec : exec (.wcPendingReady c x) s = .next (s.wcPendReady c x) := if_pos (by simp [hon, hstate])
  rw [State.wcPendReady_restarts x hstate hin] at hexec
  exact ⟨_, hexec, (s.wcSee_state c x).trans hstate, State.wcSee_restarts hstate hin, s.wcSee_frame c x⟩

end

/-! ### The self-test (R180 to R182) -/

/-- The comparator under test has reached the step after step k. -/
def State.wcTested (s : State) (c k : Nat) : State := s.modWc c fun w => { w with testStep := k + 1 }

theorem State.wcTested_frame (s : State) (c k : Nat) : Keeps [] [.wcmp] s (s.wcTested c k) := State.modWc_frame ..

/-- A check of a tie replaces its bit of WC_TEST. -/
def State.wcTieCheck (s : State) (c : Nat) (ok : Bool) (f : Fld) : State := if ok then s.put f 0 else s.wcTestFail c f

theorem State.wcTestStep_low (s : State) (c : Nat) (hi lo : Bool) :
    s.wcTestStep c 0 hi lo = ((s.wcTested c 0).wcOut c hi lo).wcTieCheck c (lo && !hi) (F.WC_TEST_TIE_LO_FAIL c) := rfl

theorem State.wcTestStep_tie (s : State) (c : Nat) (hi lo : Bool) : s.wcTestStep c 1 hi lo = (s.wcTested c 1).wcTestOut c := rfl

theorem State.wcTestStep_high (s : State) (c : Nat) (hi lo : Bool) :
    s.wcTestStep c 2 hi lo = ((s.wcTested c 2).wcOut c hi lo).wcTieCheck c (hi && !lo) (F.WC_TEST_TIE_HI_FAIL c) := rfl

theorem State.wcTestStep_last (s : State) (c : Nat) (hi lo : Bool) :
    s.wcTestStep c 5 hi lo = ((s.wcTested c 5).wcPend c).wcTestNext.lateNext := rfl

/-- The sticky flag of a failed test on a comparator's side. -/
def wcTestSticky (c : Nat) : Fld := if wcGrid c then F.WCMPG_STICKY_TEST_FAIL else F.WCMPP_STICKY_TEST_FAIL

section
variable (s : State) (c : Nat) (ok : Bool) (f : Fld)

theorem State.wcTestFail_frame : Keeps [f, ⟨R.WCMPP_TEST_FAIL, c, 1⟩, wcTestSticky c] [.raised] s (s.wcTestFail c f) := by
  unfold State.wcTestFail wcTestSticky
  exact .raiseAt' (.set1' (.put' (.set1' (.refl _ _ s))))

theorem State.wcTieCheck_frame : Keeps [f, ⟨R.WCMPP_TEST_FAIL, c, 1⟩, wcTestSticky c] [.raised] s (s.wcTieCheck c ok f) := by
  unfold State.wcTieCheck
  split
  · exact .put' (.refl _ _ s)
  · exact s.wcTestFail_frame c f

end

theorem wc_mask_ne (c o : Nat) : R.WCMPP_TEST_FAIL ≠ R.WC_THR c + o := by
  simp only [R.WCMPP_TEST_FAIL, R.WC_THR]
  split <;> omega

theorem wcTestSticky_addr_ne (c : Nat) {a : Nat} (h : (∃ o, o < 0x20 ∧ a = R.WC_THR c + o) ∨ a = R.WCMPP_TEST_FAIL) :
    (wcTestSticky c).addr ≠ a := by
  have haddr : (wcTestSticky c).addr = 0x40040004 ∨ (wcTestSticky c).addr = 0x48010004 := by
    unfold wcTestSticky
    split <;> simp
  obtain ⟨o, ho, rfl⟩ | rfl := h
  · simp only [R.WC_THR]
    split <;> omega
  · simp only [R.WCMPP_TEST_FAIL]
    omega

/-- What a failed check of a tie leaves. -/
theorem State.wcTestFail_facts (s : State) {c j : Nat} (hc : c < 24) (hj : j < 2) :
    (s.wcTestFail c ⟨R.WC_TEST c, j, 1⟩).get ⟨R.WC_TEST c, j, 1⟩ = 1 ∧ (s.wcTestFail c ⟨R.WC_TEST c, j, 1⟩).get ⟨R.WCMPP_TEST_FAIL, c, 1⟩ = 1 ∧
    (s.wcTestFail c ⟨R.WC_TEST c, j, 1⟩).raised = s.raised ++ [⟨FS.WCMP_TEST_FAIL, c⟩] := by
  have hsticky (g : Fld) (h : g.addr = R.WC_TEST c ∨ g.addr = R.WCMPP_TEST_FAIL) : (wcTestSticky c).apart g = true :=
    Fld.apart_of_addr_ne _ _ (wcTestSticky_addr_ne c (h.imp_left fun h => ⟨16, by decide, h⟩))
  have hfail (g : Fld) : (s.wcTestFail c ⟨R.WC_TEST c, j, 1⟩).get g =
      (((s.set1 ⟨R.WC_TEST c, j, 1⟩).put ⟨R.WCMPP_TEST_FAIL, c, 1⟩ 1).set1 (wcTestSticky c)).get g := rfl
  have hmask : Fld.apart ⟨R.WCMPP_TEST_FAIL, c, 1⟩ ⟨R.WC_TEST c, j, 1⟩ = true := by
    exact Fld.apart_of_addr_ne _ _ (wc_mask_ne c 16)
  refine ⟨?_, ?_, rfl⟩
  · rw [hfail, State.set1_eq_put, State.get_put_other _ _ _ _ (hsticky _ (.inl rfl)), State.get_put_other _ _ _ _ hmask, State.set1_eq_put, State.get_put_same _ _ _ (by simp; omega)]
    rfl
  · rw [hfail, State.set1_eq_put, State.get_put_other _ _ _ _ (hsticky _ (.inr rfl)), State.get_put_same _ _ _ (by simp; omega)]
    rfl

/-- A step in which a tie is checked: the live outputs show what the comparisons found, and a check that fails is reported. -/
theorem State.wcTieStep (s : State) {c j : Nat} (k : Nat) (hi lo ok : Bool) (hc : c < 24) (hj : j < 2) :
    let t := ((s.wcTested c k).wcOut c hi lo).wcTieCheck c ok ⟨R.WC_TEST c, j, 1⟩
    (t.wcmp.wc.get c).testStep = k + 1 ∧ t.get (F.WC_STATUS_OUT_HI c) = b2n hi ∧ t.get (F.WC_STATUS_OUT_LO c) = b2n lo ∧
    (ok = true → t.get ⟨R.WC_TEST c, j, 1⟩ = 0 ∧
      Keeps [⟨R.WC_TEST c, j, 1⟩, F.WC_STATUS_OUT_HI c, F.WC_STATUS_OUT_LO c] [.wcmp, .relay] s t) ∧
    (ok = false → t.get ⟨R.WC_TEST c, j, 1⟩ = 1 ∧ t.get ⟨R.WCMPP_TEST_FAIL, c, 1⟩ = 1 ∧ t.raised = s.raised ++ [⟨FS.WCMP_TEST_FAIL, c⟩]) := by
  intro t
  have hcheck := ((s.wcTested c k).wcOut c hi lo).wcTieCheck_frame c ok ⟨R.WC_TEST c, j, 1⟩
  have hout : Keeps [F.WC_STATUS_OUT_HI c, F.WC_STATUS_OUT_LO c] [.wcmp, .relay] s ((s.wcTested c k).wcOut c hi lo) :=
    .after (State.wcOut_frame ..) (.after (s.wcTested_frame c k) (.refl _ _ s))
  have hstatus (f : Fld) (hf : f.addr = R.WC_STATUS c) :
      ∀ g ∈ [⟨R.WC_TEST c, j, 1⟩, ⟨R.WCMPP_TEST_FAIL, c, 1⟩, wcTestSticky c], g.apart f = true := by
    have htest : R.WC_TEST c ≠ R.WC_STATUS c := by simp
    simp only [List.forall_mem_cons, List.not_mem_nil, IsEmpty.forall_iff, implies_true, and_true]
    exact ⟨Fld.apart_of_addr_ne _ _ (hf ▸ htest), Fld.apart_of_addr_ne _ _ (hf ▸ wc_mask_ne c 8),
      Fld.apart_of_addr_ne _ _ (wcTestSticky_addr_ne c (.inl ⟨8, by decide, hf⟩))⟩
  refine ⟨?_, (hcheck.get_eq _ (hstatus _ rfl)).trans (State.wcOut_hi ..), (hcheck.get_eq _ (hstatus _ rfl)).trans (State.wcOut_lo ..),
    fun h => ?_, fun h => ?_⟩
  · rw [hcheck.2 .wcmp (by decide), State.wcOut_wcmp]
    simp [State.wcTested]
  · subst h
    exact ⟨(State.get_put_same _ _ _ (by simp; omega)).trans rfl, .put' (.after hout (.refl _ _ s))⟩
  · subst h
    obtain ⟨htest, hmask, hraised⟩ := ((s.wcTested c k).wcOut c hi lo).wcTestFail_facts hc hj
    exact ⟨htest, hmask, hraised.trans (congrArg (· ++ _) (hout.2 .raised (by decide)))⟩

/-- Tied high, a comparator under test shows a level above its window (Table WCMP-3). -/
theorem State.wcTestStep_high_tied {s : State} {c : Nat} (hi lo : Bool) (h : s.wcState c = 3) :
    s.wcTestStep c 1 hi lo = (s.wcTested c 1).wcOut c true false := by
  have hlevel : (s.wcTested c 1).wcTestLevel c = some 768 := by simp [State.wcTestLevel, State.wcTested]
  have hstate : (s.wcTested c 1).wcState c = 3 := h
  have htied : (s.wcTested c 1).wcTied c = true := by
    simp only [State.wcTied, State.wcStep, hstate, if_true]
    simp [State.wcTested]
  have hhi : (s.wcTested c 1).wcHi c = 640 := if_pos htied
  have hlo : (s.wcTested c 1).wcLo c = 384 := if_pos htied
  rw [State.wcTestStep_tie, State.wcTestOut, hlevel]
  simp only [State.wcOutAt, hhi, hlo]
  congr 1

theorem exec_wcmpTestStep {s : State} {c : Nat} {rest : List Nat} {k : Nat} (hi lo : Bool) (hq : s.wcmp.queue = c :: rest)
    (hk : (s.wcmp.wc.get c).testStep = k) (hlate : (s.wcmp.wc.get c).testStart + wcStepAt k ≤ s.mono) :
    exec (.wcmpTestStep hi lo) s = .next (s.wcTestStep c k hi lo) := by
  subst hk
  simp only [exec, execWcmpTestStep, hq, hlate, if_true]

/-! ### The end of a comparator's test, and the next one -/

theorem State.wcOutAt_wcmp (s : State) (c : Nat) (x : Rat) : (s.wcOutAt c x).wcmp = s.wcmp := State.wcOut_wcmp ..

theorem State.wcSee_queue (s : State) (c : Nat) (x : Rat) : (s.wcSee c x).wcmp.queue = s.wcmp.queue := by
  have hout : ((s.modWc c fun w => { w with input := some x }).wcOutAt c x).wcmp.queue = s.wcmp.queue :=
    (congrArg WcmpState.queue (State.wcOutAt_wcmp ..)).trans rfl
  by_cases h2 : s.wcState c = 2
  · rw [State.wcSee_pending x h2]
    exact hout
  have hlt : s.wcState c < 4 := s.get_lt (F.WC_STATUS_STATE c)
  obtain hlow | h3 : s.wcState c < 2 ∨ s.wcState c = 3 := by omega
  · rw [State.wcSee_watching x hlow]
    exact hout
  · rw [State.wcSee_testing x h3]
    exact (congrArg WcmpState.queue (State.wcOutAt_wcmp ..)).trans rfl

/-- The record of a comparator that waits for its run of comparisons anew (R178). -/
def State.wcPendNew (s : State) (c : Nat) : State :=
  (s.put (F.WC_STATUS_STATE c) 2).modWc c fun w => { w with pendFrom := some s.mono, softClear := none, periodClear := none, crossAt := none }

/-- The comparison that a level found before makes at once. -/
def State.wcSeeLast (s : State) (c : Nat) : Option Rat → State
  | some x => s.wcSee c x
  | none => s

theorem State.wcPend_eq (s : State) (c : Nat) :
    s.wcPend c = ((s.wcPendNew c).wcSeeLast c ((s.wcPendNew c).wcmp.wc.get c).input).wcHold s.heldGroups := by
  unfold State.wcPend State.wcSeeLast
  dsimp only <;> rfl

theorem State.wcSeeLast_frame (s : State) (c : Nat) (l : Option Rat) :
    Keeps [F.WC_STATUS_OUT_HI c, F.WC_STATUS_OUT_LO c, F.WC_STATUS_HYST_HOLD c] [.wcmp, .relay] s (s.wcSeeLast c l) := by
  cases l with
  | none => exact .refl _ _ s
  | some x => exact s.wcSee_frame c x

theorem State.wcSeeLast_queue (s : State) (c : Nat) (l : Option Rat) : (s.wcSeeLast c l).wcmp.queue = s.wcmp.queue := by
  cases l with
  | none => rfl
  | some x => exact s.wcSee_queue c x

theorem State.wcPend_frame (s : State) (c : Nat) : ∃ u, s.wcPend c = u.wcHold s.heldGroups ∧ u.wcState c = 2 ∧ u.wcmp.queue = s.wcmp.queue ∧
    Keeps [F.WC_STATUS_STATE c, F.WC_STATUS_OUT_HI c, F.WC_STATUS_OUT_LO c, F.WC_STATUS_HYST_HOLD c] [.wcmp, .relay] s u := by
  have hlast := (s.wcPendNew c).wcSeeLast_frame c ((s.wcPendNew c).wcmp.wc.get c).input
  have hnew : Keeps [F.WC_STATUS_STATE c] [.wcmp] s (s.wcPendNew c) := .after (State.modWc_frame ..) (.put' (.refl _ _ s))
  refine ⟨_, s.wcPend_eq c, (hlast.get_eq _ (by simp)).trans ?_, (State.wcSeeLast_queue ..), .after hlast (.after hnew (.refl _ _ s))⟩
  exact (State.get_put_same _ _ _ (by simp)).trans rfl

/-- A comparator's STATE is no register of another one. -/
theorem wc_status_ne {c d : Nat} (hc : c < 24) (hd : d < 24) (h : c ≠ d) : R.WC_STATUS c ≠ R.WC_STATUS d := by
  simp only [R.WC_STATUS]
  split <;> split <;> omega

/-- The record of a comparator whose test starts now. -/
def State.wcTestNew (s : State) (c : Nat) : State :=
  ((s.put (F.WC_STATUS_STATE c) 3).put (F.WC_STATUS_HYST_HOLD c) 0).modWc c fun w =>
    { w with testStart := s.mono, testStep := 0, softClear := none, periodClear := none, crossAt := none }

theorem State.wcTestOut_frame (s : State) (c : Nat) : Keeps [F.WC_STATUS_OUT_HI c, F.WC_STATUS_OUT_LO c] [.relay] s (s.wcTestOut c) := by
  unfold State.wcTestOut
  split
  · exact State.wcOut_frame ..
  · exact .refl _ _ s

theorem State.wcTestOut_queue (s : State) (c : Nat) : (s.wcTestOut c).wcmp = s.wcmp := (s.wcTestOut_frame c).2 .wcmp (by decide)

theorem State.wcTestBegin_eq (s : State) (c : Nat) : s.wcTestBegin c = ((s.wcTestNew c).wcTestOut c).wcHold s.heldGroups := rfl

theorem State.wcTestBegin_facts (s : State) {c : Nat} (hc : c < 24) : (s.wcTestBegin c).wcState c = 3 ∧
    (s.wcTestBegin c).wcmp.queue = s.wcmp.queue ∧ ∀ d, d < 24 → d ≠ c → (s.wcTestBegin c).wcState d = s.wcState d := by
  have hout := (s.wcTestNew c).wcTestOut_frame c
  have hnew : Keeps [F.WC_STATUS_STATE c, F.WC_STATUS_HYST_HOLD c] [.wcmp] s (s.wcTestNew c) :=
    .after (State.modWc_frame ..) (.put' (.put' (.refl _ _ s)))
  rw [State.wcTestBegin_eq]
  refine ⟨?_, ?_, fun d hd hne => ?_⟩
  · rw [State.wcHold_state _ hc, State.wcState, hout.get_eq _ (by simp)]
    exact (State.get_put_other _ _ _ _ (by simp)).trans ((State.get_put_same _ _ _ (by simp)).trans rfl)
  · rw [(State.wcHold_outside ..).2 .wcmp (by decide), State.wcTestOut_queue]
    rfl
  · have haddr := wc_status_ne hc hd (Ne.symm hne)
    have hother : Keeps [F.WC_STATUS_STATE c, F.WC_STATUS_HYST_HOLD c, F.WC_STATUS_OUT_HI c, F.WC_STATUS_OUT_LO c] [.wcmp, .relay] s
        ((s.wcTestNew c).wcTestOut c) := .after hout (.after hnew (.refl _ _ s))
    rw [State.wcHold_state _ hd]
    refine hother.get_eq _ ?_
    simp only [List.forall_mem_cons, List.not_mem_nil, IsEmpty.forall_iff, implies_true, and_true]
    exact ⟨Fld.apart_of_addr_ne _ _ haddr, Fld.apart_of_addr_ne _ _ haddr, Fld.apart_of_addr_ne _ _ haddr, Fld.apart_of_addr_ne _ _ haddr⟩

/-- The queue of a test is set: its first comparator is under test, and the others' states stay. -/
theorem State.wcTestQueue_facts (s : State) {q : List Nat} (hq : ∀ d ∈ q, d < 24) : (s.wcTestQueue q).wcmp.queue = q ∧
    (∀ d ds, q = d :: ds → (s.wcTestQueue q).wcState d = 3) ∧ ∀ c, c < 24 → c ∉ q → (s.wcTestQueue q).wcState c = s.wcState c := by
  have hbusy (c : Nat) (hc : c < 24) : (s.wcTestBusy q).wcState c = s.wcState c := by
    have hstatus (a : Nat) (ha : a = R.WCMPP_STATUS ∨ a = R.WCMPG_STATUS) : a ≠ R.WC_STATUS c := by
      simp only [R.WCMPP_STATUS, R.WCMPG_STATUS, R.WC_STATUS] at *
      split <;> omega
    rw [State.wcTestBusy, State.wcState, State.get_put_other _ _ _ _ (Fld.apart_of_addr_ne _ _ (hstatus _ (.inr rfl))),
      State.get_put_other _ _ _ _ (Fld.apart_of_addr_ne _ _ (hstatus _ (.inl rfl))), State.wcState]
  cases q with
  | nil => exact ⟨rfl, by simp, fun c hc _ => hbusy c hc⟩
  | cons d ds =>
    have hbegin : s.wcTestQueue (d :: ds) = ({ (s.wcTestBusy (d :: ds)) with wcmp := { s.wcmp with queue := d :: ds } } : State).wcTestBegin d := rfl
    obtain ⟨hunder, hqueue, hothers⟩ := State.wcTestBegin_facts ({ (s.wcTestBusy (d :: ds)) with wcmp := { s.wcmp with queue := d :: ds } } : State)
      (hq d (by simp))
    rw [hbegin]
    refine ⟨hqueue, ?_, fun c hc hnot => (hothers c hc ?_).trans (hbusy c hc)⟩
    · rintro e es ⟨⟩
      exact hunder
    · rintro rfl
      simp at hnot

theorem State.lateNext_none {s : State} (h : s.start.late = 0) : s.lateNext = s := by
  simp [State.lateNext, h]

/-- The state in which the next comparator of a test's queue is taken. -/
theorem State.wcTestNext_frame (s : State) {c : Nat} {rest : List Nat} (hq : s.wcmp.queue = c :: rest) (hrest : ∀ d ∈ rest, d < 24) :
    s.wcTestNext.wcmp = (s.wcTestQueue rest).wcmp ∧ (∀ d, d < 24 → s.wcTestNext.wcState d = (s.wcTestQueue rest).wcState d) ∧
    s.wcTestNext.start = s.start ∧
    KeepsOutside [zone R.WCMPP_STATUS, zone R.WCMPG_STATUS, zone R.DRV_STATUS, zone R.LANE_STATUS, zone R.DIAG_MAINT_REQ]
      [.wcmp, .drive, .pwm, .diag, .relay] s s.wcTestNext := by
  have hqueue := s.wcTestQueue_outside rest hrest
  simp only [State.wcTestNext, hq, List.tail_cons]
  split
  · have hend (r : MaintResult) := (s.wcTestQueue rest).maintEnd_outside Act.wcmpTest r (by decide)
    refine ⟨(hend _).2 .wcmp (by decide), fun d hd => (hend _).get_eq _ ?_, ((hend _).2 .start (by decide)).trans (hqueue.2 .start (by decide)),
      .after (hend _) (.after hqueue (.refl _ _ s))⟩
    simp [zone]
    split <;> omega
  · exact ⟨rfl, fun d hd => rfl, hqueue.2 .start (by decide), .after hqueue (.refl _ _ s)⟩

/-- The last step of a comparator's test: it waits for its run of comparisons, and the next comparator is under test. -/
theorem State.wcTestStep_ends (s : State) {c : Nat} {rest : List Nat} (hi lo : Bool) (hc : c < 24) (hq : s.wcmp.queue = c :: rest)
    (hlate : s.start.late = 0) (hnot : c ∉ rest) (hrest : ∀ d ∈ rest, d < 24) :
    (s.wcTestStep c 5 hi lo).wcState c = 2 ∧ (s.wcTestStep c 5 hi lo).wcmp.queue = rest ∧
    (∀ d ds, rest = d :: ds → (s.wcTestStep c 5 hi lo).wcState d = 3) ∧
    KeepsOutside [zone R.WCMPP_STATUS, zone R.WCMPG_STATUS, zone R.DRV_STATUS, zone R.LANE_STATUS, zone R.DIAG_MAINT_REQ]
      [.wcmp, .drive, .pwm, .diag, .relay] s (s.wcTestStep c 5 hi lo) := by
  obtain ⟨u, hpend, hstate, hqueue, hframe⟩ := (s.wcTested c 5).wcPend_frame c
  have hhold := u.wcHold_outside (s.wcTested c 5).heldGroups
  have hpended : ((s.wcTested c 5).wcPend c).wcmp.queue = c :: rest := by
    rw [hpend, hhold.2 .wcmp (by decide), hqueue]
    exact hq
  obtain ⟨hwcmp, hstates, hstart, hnext⟩ := ((s.wcTested c 5).wcPend c).wcTestNext_frame hpended hrest
  obtain ⟨hset, hfirst, hothers⟩ := ((s.wcTested c 5).wcPend c).wcTestQueue_facts hrest
  have hnone : ((s.wcTested c 5).wcPend c).wcTestNext.start.late = 0 := by
    rw [hstart, hpend, hhold.2 .start (by decide), hframe.2 .start (by decide)]
    exact hlate
  rw [State.wcTestStep_last, State.lateNext_none hnone]
  refine ⟨?_, (congrArg WcmpState.queue hwcmp).trans hset, fun d ds hd => (hstates d (hrest d (by simp [hd]))).trans (hfirst d ds hd), ?_⟩
  · rw [hstates c hc, hothers c hc hnot, hpend, State.wcHold_state _ hc, hstate]
  · have hwc : KeepsOutside [zone R.WCMPP_STATUS, zone R.WCMPG_STATUS] [.wcmp, .relay] (s.wcTested c 5) u :=
      hframe.toOutside (by simp [zone]; split <;> omega)
    rw [hpend] at hnext ⊢
    exact .after hnext (.after hhold (.after hwc (.beside' (.refl _ _ s))))

/-- Settles O16: the thresholds are judged together, a clear waits for a comparison that decides it, and the self-test takes its steps. -/
theorem comparatorClearsAndSelfTest : Obligations.ComparatorClearsAndSelfTest := by
  refine ⟨fun s c => ⟨fun i v hhi hlo hlt => ⟨_, exec_wcThrWrite_taken i v hhi hlo hlt, State.wcThrWrite_shadows_hi s c v,
        State.wcThrWrite_shadows_lo s c v, (.toShadow' (.toShadow' (.refl _ _ _)))⟩,
      fun i v h => ⟨_, exec_wcThrWrite_refused i v h, s.cfgReject_refused _ _ (wcBlk_rejectSrc c)⟩,
      wcSoftwareClear_noted s c, fun i v hv hmode hunit => ?_, wcClearDecision_succeeds s c, wcClearDecision_fails s c, wcClearDecision_period s c,
      wcPendingReady_ends s c, wcPendingReady_restarts s c⟩,
    fun s c rest hq => ⟨fun hi lo hstep hlate => ?_, fun hi lo hstate hstep hlate => ?_, fun hi lo hstep hlate => ?_,
      fun hi lo hnotlate hstep hlate hnot hrest => ?_⟩⟩
  · have hsoft : s.wcSoftClear c = s.clrRefused c := if_pos ⟨hmode, hunit⟩
    exact ⟨_, exec_wcSoftwareClear i hv, (congrArg (State.get · _) hsoft).trans (s.clrRefused_flag c), hsoft ▸ s.clrRefused_frame c⟩
  · obtain ⟨hnext, hhi, hlo, hpass, hfail⟩ := s.wcTieStep 0 hi lo (lo && !hi) c.isLt (j := 0) (by decide)
    exact ⟨_, exec_wcmpTestStep hi lo hq hstep hlate, hnext, hhi, hlo, fun h1 h2 => hpass (by simp [h1, h2]), fun h => hfail (by rcases h with rfl | rfl <;> simp)⟩
  · have hexec := exec_wcmpTestStep hi lo hq hstep hlate
    rw [State.wcTestStep_high_tied hi lo hstate] at hexec
    exact ⟨_, hexec, (congrArg (fun w => (w.wc.get c).testStep) (State.wcOut_wcmp ..)).trans (by simp [State.wcTested]), State.wcOut_hi ..,
      State.wcOut_lo .., .after (State.wcOut_frame ..) (.after (s.wcTested_frame c 1) (.refl _ _ s))⟩
  · obtain ⟨hnext, -, -, hpass, hfail⟩ := s.wcTieStep 2 hi lo (hi && !lo) c.isLt (j := 1) (by decide)
    exact ⟨_, exec_wcmpTestStep hi lo hq hstep hlate, hnext, fun h1 h2 => hpass (by simp [h1, h2]), fun h =>
      have ⟨htest, _, hraised⟩ := hfail (by rcases h with rfl | rfl <;> simp)
      ⟨htest, hraised⟩⟩
  · obtain ⟨hstate, hqueue, hfirst, hframe⟩ := s.wcTestStep_ends hi lo c.isLt hq hnotlate hnot hrest
    exact ⟨_, exec_wcmpTestStep hi lo hq hstep hlate, hstate, hqueue, hfirst, hframe⟩

end Sys2Proof.Machine
end

section
/-!
Proofs about the loop engines (chapter 06): halts, enable and disable, and set-point writes.
The proofs are elaborated in turn: in one text, proofs that wait for each other would each hold a thread.
-/

set_option Elab.async false

namespace Sys2Proof.Machine

/-! ### Halts of a pair (R186, R187) -/

/-- The record of a pair that begins anew. -/
def State.loopBegun (s : State) (p : Nat) : State :=
  let s := (s.graphInit p).put (F.LP_CTRL_EN p) 1
  let s := ((((s.put (F.LP_STATUS_OVR_CONSEC p) 0).put (F.LP_OVR_CNT_CNT p) 0).wr (R.LP_EXEC_CNT p) 0).put
    (F.LP_STATUS_STATE p) (if s.lpState p = 5 then 5 else 2)).put (F.LP_STATUS_HELD_REC p) 0
  s.modLoop p fun l => { l with rcd := none, running := false, seqNext := 0, commits := 0, first := true, prevAb := false, saved := 2 }

/-- The record of a pair that is switched off: one that waits is IDLE, one that is paused while it waits comes back IDLE. -/
def State.loopOff (s : State) (p : Nat) : State :=
  let s := s.put (F.LP_CTRL_EN p) 0
  if s.lpState p = 2 then s.execDone p
  else if s.lpState p = 5 ∧ (s.loop.get p).saved = 2 then s.modLoop p fun l => { l with saved := 1, rcd := none } else s

theorem State.modLoop_keeps (s : State) (p : ℕ) (f : LoopPair → LoopPair) :
    Keeps [] [.loop] s (s.modLoop p f) :=
  .beside' (.refl _ _ _)

theorem State.pairHalt_keeps (s : State) (p : ℕ) :
    Keeps [F.LP_STATUS_HELD_REC p, F.LP_STATUS_STATE p] [.loop] s (s.pairHalt p) :=
  .ite' (.refl _ _ _) (.after (State.modLoop_keeps ..) (.put' (.put' (.refl _ _ _))))

theorem State.graphInit_keeps (s : State) (p : ℕ) :
    Keeps [F.LP_STICKY_NUMERIC p] [.mem] s (s.graphInit p) :=
  .foldl' (.ite' (.set1' (.refl _ _ _)) (.refl _ _ _)) (fun _ _ => .wrBytes' (.refl _ _ _))

theorem State.graphInit_outside (s : State) (p : ℕ) (hp : p < 6) :
    KeepsOutside [zone (R.LP_CTRL 0)] [.mem] s (s.graphInit p) :=
  .foldl' (.ite' (.set1' (.refl _ _ _)) (.refl _ _ _)) (fun _ _ _ => .wrBytes' (.refl _ _ _))

theorem State.modLoop_outside (s : State) (p : ℕ) (f : LoopPair → LoopPair) :
    KeepsOutside [] [.loop] s (s.modLoop p f) :=
  .beside' (.refl _ _ _)

theorem State.loopBegun_outside (s : State) (p : ℕ) (hp : p < 6) :
    KeepsOutside [zone (R.LP_CTRL 0)] [.mem, .loop] s (s.loopBegun p) :=
  .after (State.modLoop_outside ..) (.put' (.put' (.wr' (.put' (.put' (.put' (.after (State.graphInit_outside _ _ (by omega)) (.refl _ _ _))))))))

theorem State.gridEnabled_outside (s : State) (p : ℕ) :
    KeepsOutside [zone R.GRID_CFG] [.grid, .draws] s (s.gridEnabled p) :=
  .ite' (.after (State.connRefresh_outside ..) (.after (State.modGrid_outside ..) (.refl _ _ _))) (.refl _ _ _)

theorem State.execDone_keeps (s : State) (p : ℕ) :
    Keeps [F.LP_STATUS_HELD_REC p, F.LP_STATUS_STATE p] [.loop] s (s.execDone p) :=
  .after (State.modLoop_keeps ..) (.put' (.put' (.refl _ _ _)))

theorem State.loopOff_keeps (s : State) (p : ℕ) :
    Keeps [F.LP_CTRL_EN p, F.LP_STATUS_HELD_REC p, F.LP_STATUS_STATE p] [.loop] s (s.loopOff p) :=
  .ite' (.after (State.execDone_keeps ..) (.put' (.refl _ _ _))) (.ite' (.after (State.modLoop_keeps ..) (.put' (.refl _ _ _))) (.put' (.refl _ _ _)))

theorem State.loopClrMax_keeps (s : State) (p : ℕ) :
    Keeps [F.LP_SLACK_MIN p, F.LP_CYCLES_MAX p] [] s (s.loopClrMax p) :=
  .put' (.put' (.refl _ _ _))

theorem State.pairHalt_frame (s : State) (p : Nat) : Keeps [F.LP_STATUS_STATE p, F.LP_STATUS_HELD_REC p] [.loop] s (s.pairHalt p) := (.after (State.pairHalt_keeps ..) (.refl _ _ _))

theorem State.pairHalt_state {s : State} {p : Nat} (h : s.lpState p ≠ 0) :
    (s.pairHalt p).lpState p = 4 ∧ ((s.pairHalt p).loop.get p).running = false := by
  rw [State.pairHalt, if_neg h]
  exact ⟨(State.get_put_other _ _ _ _ (by simp)).trans ((State.get_put_same _ _ _ (by simp)).trans rfl), congrArg LoopPair.running (SMap.get_set_same _ _ _)⟩

/-! ### Enabling a pair (R188, R209 to R211) -/

theorem KeepsBytesOutside.wrBytes_high {lo hi a : Nat} {s t : State} (h : KeepsBytesOutside lo hi s t) (l : List Byte) (hlo : lo ≤ a)
    (hhi : a + l.length ≤ hi) (hhigh : 0x28400000 ≤ lo) : KeepsBytesOutside lo hi s (t.wrBytes a l) := fun b hb => by
  rw [State.rdB_wrBytes_other l (by omega)]
  · exact h b hb
  · unfold memHome
    split <;> omega

/-- The words of a node's initial state, as bytes. -/
theorem length_initBytes (l : List (Word × Bool)) : (l.flatMap fun w => leBytes 4 w.1.toNat).length = 4 * l.length := by
  induction l with
  | nil => rfl
  | cons w l ih => simp only [List.flatMap_cons, List.length_append, leBytes_length, ih, List.length_cons]; omega

theorem State.graphInit_frame (s : State) (p : Nat) : Keeps [F.LP_STICKY_NUMERIC p] [.mem] s (s.graphInit p) := (.after (State.graphInit_keeps ..) (.refl _ _ _))

theorem State.graphInit_bytes (s : State) (p : Nat) (h : ∀ n ∈ s.graphNodes p, n.st + 4 * n.init.length ≤ 15360) :
    KeepsBytesOutside (tcmBase p + 0x4400) (tcmBase p + 0x8000) s (s.graphInit p) := by
  have hfold (l : List GNode) (hl : ∀ n ∈ l, n.st + 4 * n.init.length ≤ 15360) (t : State)
      (ht : KeepsBytesOutside (tcmBase p + 0x4400) (tcmBase p + 0x8000) s t) :
      KeepsBytesOutside (tcmBase p + 0x4400) (tcmBase p + 0x8000) s
        (l.foldl (fun t n => t.wrBytes (tcmBase p + 0x4400 + n.st) (n.init.flatMap fun w => leBytes 4 w.1.toNat)) t) := by
    induction l generalizing t with
    | nil => exact ht
    | cons n l ih =>
      have hn := hl n (by simp)
      refine ih (fun m hm => hl m (List.mem_cons_of_mem _ hm)) _ (ht.wrBytes_high _ (by omega) ?_ (by unfold tcmBase; omega))
      rw [length_initBytes]
      omega
  unfold State.graphInit
  dsimp only
  refine hfold _ h _ ?_
  split
  · exact .of_mem (by simp)
  · exact .refl _ _ s

section
variable {s : State} {p : Nat}

theorem State.loopEnable_begins {i : Initiator} (h : s.loopEnRefused i p = false) (hen : s.flag (F.LP_CTRL_EN p) = false) :
    s.loopEnable i p = (s.loopBegun p).gridEnabled p := by
  simp only [State.loopEnable, h, hen, Bool.false_eq_true, if_false]
  rfl

theorem State.loopEnRefused_other {i : Initiator} (h : i ≠ .hpa) : s.loopEnRefused i p = true := by
  simp [State.loopEnRefused, bne_iff_ne.mpr h]

end

section
variable (s : State) {p : Nat}

theorem State.loopBegun_reach (hp : p < 6) : KeepsOutside [zone (R.LP_CTRL 0)] [.mem, .loop] s (s.loopBegun p) := (.after (State.loopBegun_outside _ _ (by omega)) (.refl _ _ _))

theorem State.gridEnabled_reach : KeepsOutside [zone R.GRID_CFG] [.grid, .draws] s (s.gridEnabled p) := (.after (State.gridEnabled_outside ..) (.refl _ _ _))

theorem State.loopBegun_facts : (s.loopBegun p).flag (F.LP_CTRL_EN p) = true ∧ (s.loopBegun p).lpState p = (if s.lpState p = 5 then 5 else 2) ∧
    (s.loopBegun p).get (F.LP_OVR_CNT_CNT p) = 0 ∧ (s.loopBegun p).rd (R.LP_EXEC_CNT p) = 0#32 ∧
    ((s.loopBegun p).loop.get p).first = true ∧ ((s.loopBegun p).loop.get p).rcd = none := by
  have hstate : ((s.graphInit p).put (F.LP_CTRL_EN p) 1).lpState p = s.lpState p :=
    (State.get_put_other _ _ _ _ (by simp)).trans ((s.graphInit_frame p).get_eq _ (by simp))
  refine ⟨?_, ?_, ?_, ?_, congrArg LoopPair.first (SMap.get_set_same _ _ _), congrArg LoopPair.rcd (SMap.get_set_same _ _ _)⟩
  · simp [State.loopBegun, State.modLoop]
  · simp only [State.loopBegun, hstate]
    split <;> simp [State.modLoop, State.lpState]
  · simp [State.loopBegun, State.modLoop]
  · simp [State.loopBegun, State.modLoop]

end

section
variable {s : State} {p : Fin 6}

/-- An admitted enable. -/
theorem loopEnable_begins {i : Initiator} (h : s.loopEnRefused i p = false) (hen : s.flag (F.LP_CTRL_EN p) = false) :
    ∃ t, exec (.loopEnable i p) s = .next t ∧ t.flag (F.LP_CTRL_EN p) = true ∧ t.lpState p = (if s.lpState p = 5 then 5 else 2) ∧
      t.get (F.LP_OVR_CNT_CNT p) = 0 ∧ t.rd (R.LP_EXEC_CNT p) = 0#32 ∧ (t.loop.get p).first = true ∧ (t.loop.get p).rcd = none ∧
      ((∀ n ∈ s.graphNodes p, n.st + 4 * n.init.length ≤ 15360) → KeepsBytesOutside (tcmBase p + 0x4400) (tcmBase p + 0x8000) s t) ∧
      KeepsOutside [zone (R.LP_CTRL 0), zone R.GRID_CFG] [.mem, .loop, .grid, .draws] s t := by
  have hp := p.isLt
  obtain ⟨hon, hstate, hovr, hexecs, hfirst, hrcd⟩ := s.loopBegun_facts (p := p)
  have hgrid := (s.loopBegun p).gridEnabled_reach (p := p)
  have hbegun := s.loopBegun_reach hp
  have hexec : exec (.loopEnable i p) s = .next ((s.loopBegun p).gridEnabled p) := by
    rw [← State.loopEnable_begins h hen]
    rfl
  have hget (f : Fld) (hf : f.addr < R.GRID_CFG) : ((s.loopBegun p).gridEnabled p).get f = (s.loopBegun p).get f :=
    hgrid.get_eq f (by simp at hf ⊢; omega)
  have hloop := hgrid.2 .loop (by decide)
  refine ⟨_, hexec, (congrArg (· == 1) (hget (F.LP_CTRL_EN p) (by simp; omega))).trans hon, (hget _ (by simp; omega)).trans hstate,
    (hget _ (by simp; omega)).trans hovr, (hgrid.1 _ (by simp; omega)).trans hexecs, (congrArg (fun l => (l.get (p : Nat)).first) hloop).trans hfirst,
    (congrArg (fun l => (l.get (p : Nat)).rcd) hloop).trans hrcd, fun hn => ?_, .after hgrid (.after hbegun (.refl _ _ s))⟩
  have hmem := hgrid.2 .mem (by decide)
  exact (s.graphInit_bytes p hn).trans ((KeepsBytesOutside.of_mem (by simp [State.loopBegun, State.modLoop])).trans fun a _ => hmem.1 a)

end

/-! ### Disabling a pair (R188, R212) -/

theorem State.gridDisabled_outside (s : State) (p : Nat) : KeepsOutside [zone R.GRID_CFG, zone R.RELAY_CFG, zone (R.PWM_CTRL 0)]
    [.shadow, .raised, .draws, .pwm, .drive, .grid, .relay, .cour] s (s.gridDisabled p) := by
  unfold State.gridDisabled
  dsimp only
  split_ifs
  · exact .after (State.gridTrip_outside _ _ _ _) (.beside' (.refl _ _ s))
  · exact .after (State.connRefresh_outside _) (.beside' (.refl _ _ s))
  · exact .refl _ _ s

theorem State.loopDisable_eq {s : State} {p : Nat} (h : s.inFoyer = false) :
    s.loopDisable .hpa p = if s.flag (F.LP_CTRL_EN p) then (s.loopOff p).gridDisabled p else s.loopOff p := by
  simp [State.loopDisable, h, State.loopOff]

section
variable (s : State) (p : Nat)

theorem State.loopOff_frame : Keeps [F.LP_CTRL_EN p, F.LP_STATUS_STATE p, F.LP_STATUS_HELD_REC p] [.loop] s (s.loopOff p) := (.after (State.loopOff_keeps ..) (.refl _ _ _))

theorem State.loopOff_facts : (s.loopOff p).flag (F.LP_CTRL_EN p) = false ∧ (s.lpState p = 2 → (s.loopOff p).lpState p = 1) ∧
    (s.lpState p ≠ 2 → (s.loopOff p).lpState p = s.lpState p) ∧
    (s.lpState p = 5 → (s.loop.get p).saved = 2 → ((s.loopOff p).loop.get p).saved = 1) := by
  have hstate : (s.put (F.LP_CTRL_EN p) 0).lpState p = s.lpState p := State.get_put_other _ _ _ _ (by simp)
  have hoff : (s.put (F.LP_CTRL_EN p) 0).flag (F.LP_CTRL_EN p) = false := by simp
  have hdone : Keeps [F.LP_STATUS_STATE p, F.LP_STATUS_HELD_REC p] [.loop] (s.put (F.LP_CTRL_EN p) 0) ((s.put (F.LP_CTRL_EN p) 0).execDone p) :=
    .after (State.execDone_keeps ..) (.refl _ _ _)
  simp only [State.loopOff, hstate]
  refine ⟨?_, fun h => ?_, fun h => ?_, fun h hs => ?_⟩
  · split_ifs
    · exact (hdone.flag_eq _ (by simp)).trans hoff
    · exact hoff
    · exact hoff
  · rw [if_pos h]
    simp [State.execDone, hoff, State.modLoop, State.lpState]
  · rw [if_neg h]
    split_ifs
    · exact hstate
    · exact hstate
  · rw [if_neg (by omega), if_pos ⟨h, hs⟩]
    exact congrArg LoopPair.saved (SMap.get_set_same _ _ _)

end

/-- Settles O18: halts of a pair, its enable and disable, CLR_MAX, and writes of set-points. -/
theorem loopHaltsEnableAndSetPoints : Obligations.LoopHaltsEnableAndSetPoints := by
  refine ⟨fun s p => ⟨fun h => ?_, fun hon h => ?_, fun hon => ?_⟩, fun s p => ⟨fun i h hen => loopEnable_begins h hen, fun i h hen => ?_,
    fun i h => ?_, fun i hi => ?_, fun hf hg => ?_, fun hf => ?_, fun hf => ?_, fun i => ?_, fun i w v hon hlo hhi hfree hadj => ?_,
    fun i w v hon h => ?_⟩⟩
  · have hp := p.isLt
    have hhalt := s.pairHalt_frame p
    obtain ⟨hstate, hrun⟩ := State.pairHalt_state (show s.lpState p ≠ 0 by omega)
    exact ⟨_, if_pos h, (State.get_put_other _ _ _ _ (by simp)).trans hstate, (State.get_put_same _ _ _ (by simp)).trans rfl,
      congrArg (· ++ _) (hhalt.2 .raised (by decide)), hrun, .stickyRaise' (.after hhalt (.refl _ _ s))⟩
  · have hhalt := s.pairHalt_frame p
    obtain ⟨hstate, -⟩ := State.pairHalt_state h
    have hexec : exec (.loopTcmEccError p true) s = .next ((s.pairHalt p).stickyRaise (F.LP_STICKY_ECC_UNCOR p) (FS.LOOP_TCM_ECC p)) := by
      simp [exec, execLoopTcmEccError, hon]
    exact ⟨_, hexec, (State.get_put_other _ _ _ _ (by simp)).trans hstate, (State.get_put_same _ _ _ (by simp)).trans rfl,
      congrArg (· ++ _) (hhalt.2 .raised (by decide)), .stickyRaise' (.after hhalt (.refl _ _ s))⟩
  · have hexec : exec (.loopTcmEccError p false) s = .next (s.incSat (F.LP_STATUS_ECC_COR p)) := by simp [exec, execLoopTcmEccError, hon]
    have hsat := satInc_lt (F.LP_STATUS_ECC_COR p).len (s.get (F.LP_STATUS_ECC_COR p))
    exact ⟨_, hexec, (State.get_put_same _ _ _ (by simp)).trans (Nat.mod_eq_of_lt hsat), .incSat' (.refl _ _ s)⟩
  · simp [exec, execLoopEnable, State.loopEnable, h, hen]
  · have hexec : exec (.loopEnable i p) s = .next (s.cfgReject (.loop p)) := by simp [exec, execLoopEnable, State.loopEnable, h]
    exact ⟨_, hexec, s.cfgReject_refused _ _⟩
  · have hexec : exec (.loopDisable i p) s = .next (s.cfgReject (.loop p)) := by simp [exec, execLoopDisable, State.loopDisable, hi]
    exact ⟨State.loopEnRefused_other hi, _, hexec, s.cfgReject_refused _ _⟩
  · have hexec : exec (.loopDisable .hpa p) s = .next (s.loopOff p) := by
      have hpair : (s.loopOff p).gridPair = s.gridPair := by
        simp only [State.gridPair, (s.loopOff_frame p).get_eq F.GRID_CFG_GRID_PAIR (by simp)]
      simp only [exec, execLoopDisable, State.loopDisable_eq hf, State.gridDisabled, hpair, hg, if_false, ite_self]
    obtain ⟨hoff, hwait, hother, hsaved⟩ := s.loopOff_facts p
    exact ⟨_, hexec, hoff, hwait, hother, hsaved, s.loopOff_frame p⟩
  · have hexec : exec (.loopDisable .hpa p) s = .next (s.loopDisable .hpa p) := rfl
    rw [State.loopDisable_eq hf] at hexec
    obtain ⟨hoff, -⟩ := s.loopOff_facts p
    have hoffs : KeepsOutside [zone (R.LP_CTRL 0)] [.loop] s (s.loopOff p) := (s.loopOff_frame p).toOutside (by simp [zone]; omega)
    have hgrid := (s.loopOff p).gridDisabled_outside p
    refine ⟨_, hexec, ?_, ?_⟩
    · split
      · exact (congrArg (· == 1) (hgrid.get_eq (F.LP_CTRL_EN p) (by simp; omega))).trans hoff
      · exact hoff
    · split
      · exact .after hgrid (.after hoffs (.refl _ _ s))
      · exact .after hoffs (.refl _ _ s)
  · have hexec : exec (.loopDisable .hpa p) s = .next (s.cfgReject (.loop p)) := by simp [exec, execLoopDisable, State.loopDisable, hf]
    exact ⟨_, hexec, s.cfgReject_refused _ _⟩
  · exact ⟨_, rfl, (State.get_put_other _ _ _ _ (by simp)).trans ((State.get_put_same _ _ _ (by simp)).trans rfl),
      (State.get_put_same _ _ _ (by simp)).trans rfl, (.after (State.loopClrMax_keeps ..) (.refl _ _ _))⟩
  · have hset : s.tcmWrite p (4 * w) v = s.toShadow ⟨tcmBase p + 4 * w, 0, 32⟩ v.toNat := by
      have hslot : (4 * (w : Nat) - 0x4000) / 4 = w - 0x1000 := by omega
      rw [State.tcmWrite, if_neg (by omega), if_neg (by simp [hslot, hfree])]
      exact State.liveGate_ok (h := hadj)
    have hexec : exec (.tcmWrite i p w v) s = .next (s.toShadow ⟨tcmBase p + 4 * w, 0, 32⟩ v.toNat) := by
      rw [← hset]
      exact if_pos hon
    exact ⟨_, hexec, (State.shadowGet_toShadow _ _ _ (by simp)).trans (Nat.mod_eq_of_lt v.isLt), fun a ha => s.toShadow_shadow_other _ ha, (.toShadow' (.refl _ _ _))⟩
  · have hset : s.tcmWrite p (4 * w) v = s.cfgReject (.loop p) := by
      unfold State.tcmWrite
      split_ifs with hrange hown
      · rfl
      · rfl
      · exfalso
        have hslot : (4 * (w : Nat) - 0x4000) / 4 = w - 0x1000 := by omega
        rw [hslot] at hown
        obtain h | h | h := h
        · omega
        · omega
        · exact hown h
    have hexec : exec (.tcmWrite i p w v) s = .next (s.cfgReject (.loop p)) := by
      rw [← hset]
      exact if_pos hon
    exact ⟨_, hexec, s.cfgReject_refused _ _⟩

end Sys2Proof.Machine
end

section
/-!
Proofs about the powerline frames (chapter 20).
The proofs are elaborated in turn: in one text, proofs that wait for each other would each hold a thread.
-/

set_option Elab.async false

namespace Sys2Proof.Machine

/-! ### Frames sent (R621, R624, R625) -/

theorem satInc_eq_min {n : Nat} (h : n < 65536) : satInc 16 n = min (n + 1) 65535 := by
  rw [satInc, show (2 : Nat) ^ 16 = 65536 from rfl]
  split <;> omega

/-- The state in which a frame is on the line, sent or retried for dur ticks (R625). -/
def State.plcSent (s : State) (f : PlcFrame) (dur : Nat) : State :=
  (s.incWrap F.PLC_CNT_SENT).modCour fun c =>
    { c with frame := some { f with endAt := s.mono + dur }
             reset := if c.resetTx = some (bU f.bytes 0 4) then c.reset.map fun r => (r.1, s.mono + dur + 800000) else c.reset }

/-- What is noted of a segment on the line (R621). -/
def State.segSeen (s : State) (snr : BitVec 8) : State := (s.incWrap F.PLC_CNT_RECEIVED).put F.PLC_SNR_SNR snr.toNat

theorem State.plcSent_keeps (s : State) (f : PlcFrame) (dur : ℕ) :
    Keeps [F.PLC_CNT_SENT] [.cour] s (s.plcSent f dur) :=
  .after (State.modCour_keeps ..) (.incWrap' (.refl _ _ _))

theorem State.segSeen_keeps (s : State) (snr : BitVec 8) :
    Keeps [F.PLC_SNR_SNR, F.PLC_CNT_RECEIVED] [] s (s.segSeen snr) :=
  .put' (.incWrap' (.refl _ _ _))

theorem State.reasmExpire_keeps (s : State) :
    Keeps [] [.cour] s s.reasmExpire :=
  .after (State.modCour_keeps ..) (.refl _ _ _)

theorem State.plRefuse_keeps (s : State) :
    Keeps [F.PLINTH_ACT_CNT_REFUSED, F.PLINTH_STICKY_REFUSED_LOW] [] s s.plRefuse :=
  .incSat' (.set1' (.refl _ _ _))

section
variable {s : State} (f : PlcFrame) (dur : Nat)

theorem State.plcSend_sent (h : s.plState ≠ 1 ∨ s.flag F.PLINTH_STATUS_XMIT_OK = true) :
    s.plcSend f dur = if s.plState = 1 then s.plAdmit.plcSent f dur else s.plcSent f dur := by
  unfold State.plcSend State.plcSent
  by_cases hstore : s.plState = 1
  · have hok := h.resolve_left (absurd hstore)
    simp only [hstore, hok, beq_self_eq_true, Bool.not_true, Bool.and_false, Bool.false_eq_true, if_false, if_true]
  · simp only [hstore, beq_eq_false_iff_ne.mpr hstore, Bool.false_and, Bool.false_eq_true, if_false]

theorem State.plcSend_refused (h : s.plState = 1) (hok : s.flag F.PLINTH_STATUS_XMIT_OK = false) :
    s.plcSend f dur = (s.set1 F.PLC_STICKY_XMIT_REFUSED).plRefuse := by
  simp [State.plcSend, h, hok]

end

/-- The queue's front frame is on the line. -/
structure OnLine (f : PlcFrame) (dur : Nat) (s t : State) : Prop where
  queue : t.cour.queue = s.cour.queue
  frame : t.cour.frame = some { f with endAt := s.mono + dur }
  resets : ∀ k d, s.cour.reset = some (k, d) → s.cour.resetTx = some (bU f.bytes 0 4) → t.cour.reset = some (k, s.mono + dur + 800000)
  resets_other : s.cour.resetTx ≠ some (bU f.bytes 0 4) → t.cour.reset = s.cour.reset
  sent : t.get F.PLC_CNT_SENT = (s.get F.PLC_CNT_SENT + 1) % 65536
  frames : Keeps [F.PLC_CNT_SENT, F.PLINTH_ACT_CNT_ADMITTED] [.cour] s t

theorem State.plcSent_onLine (s : State) (f : PlcFrame) (dur : Nat) : OnLine f dur s (s.plcSent f dur) where
  queue := rfl
  frame := rfl
  resets k d hreset htx := by
    have hmap : (s.plcSent f dur).cour.reset =
      if s.cour.resetTx = some (bU f.bytes 0 4) then s.cour.reset.map fun r => (r.1, s.mono + dur + 800000) else s.cour.reset := rfl
    rw [hmap, if_pos htx, hreset]
    rfl
  resets_other h := if_neg h
  sent := (State.get_put_same _ _ _ (by simp)).trans (Nat.mod_mod _ _)
  frames := (.after (State.plcSent_keeps ..) (.refl _ _ _))

theorem State.plcSend_onLine {s : State} (f : PlcFrame) (dur : Nat) (h : s.plState ≠ 1 ∨ s.flag F.PLINTH_STATUS_XMIT_OK = true) :
    OnLine f dur s (s.plcSend f dur) := by
  rw [State.plcSend_sent f dur h]
  split
  · have hadmit := s.plAdmit.plcSent_onLine f dur
    exact { queue := hadmit.queue, frame := hadmit.frame, resets := hadmit.resets, resets_other := hadmit.resets_other,
            sent := hadmit.sent.trans (by rw [State.plAdmit, State.incSat, State.get_put_other _ _ _ _ (by simp)]),
            frames := .after hadmit.frames (.incSat' (.refl _ _ s)) }
  · exact s.plcSent_onLine f dur

/-! ### Segments received and their reassembly (R634) -/

section
variable {s : State} {src : Nat} {b : List Byte}

theorem State.segTake_dropped (h : s.cour.reasm.find? (segOf src b) = none) (hfull : 4 ≤ s.cour.reasm.length) :
    s.segTake src b = s.set1 F.COURH_STICKY_REASM_DROP := by
  simp only [State.segTake, h, hfull, if_true]

/-- The reassembly that a message's first segment begins. -/
def reasmBegun (src : Nat) (b : List Byte) (now : Nat) : Reasm :=
  { src := src, txid := bU b 0 4, count := bU8 b 5, segs := SMap.set [] (bU8 b 4) (b.drop 8), from_ := now }

theorem State.segTake_first (h : s.cour.reasm.find? (segOf src b) = none) (hroom : s.cour.reasm.length < 4) :
    s.segTake src b = if (reasmBegun src b s.mono).full then s.delivered (reasmBegun src b s.mono).msg
      else s.modCour fun c => { c with reasm := c.reasm ++ [reasmBegun src b s.mono] } := by
  simp only [State.segTake, h, show ¬ 4 ≤ s.cour.reasm.length by omega, if_false]
  rfl

theorem State.segTake_next {r : Reasm} (h : s.cour.reasm.find? (segOf src b) = some r) (hcount : r.count = bU8 b 5) :
    s.segTake src b = if (r.add b).full then (s.modCour fun c => { c with reasm := c.reasm.filter fun x => !segOf src b x }).delivered (r.add b).msg
      else s.modCour fun c => { c with reasm := c.reasm.map fun x => if segOf src b x then r.add b else x } := by
  simp only [State.segTake, h, hcount, if_true]

end

section
variable {src : Nat} {b : List Byte} {now : Nat}

theorem reasmBegun_segs (k : Nat) : (reasmBegun src b now).segs.get k = if k = bU8 b 4 then b.drop 8 else [] := by
  split_ifs with h
  · subst h
    exact SMap.get_set_same _ _ _
  · exact (SMap.get_set_ne _ _ _ _ h).trans rfl

theorem segOk_rest (hok : segOk b = true) : bU8 b 4 < bU8 b 5 ∧ (b.drop 8).isEmpty = false := by
  simp only [segOk, Bool.and_eq_true, decide_eq_true_eq] at hok
  obtain ⟨⟨⟨⟨hlen, -⟩, -⟩, -⟩, hidx⟩ := hok
  refine ⟨hidx, ?_⟩
  rw [List.isEmpty_eq_false_iff, ← List.length_pos_iff, List.length_drop]
  omega

/-- A message of one segment is that segment's. -/
theorem reasmBegun_whole (hok : segOk b = true) (hone : bU8 b 5 = 1) : (reasmBegun src b now).full = true ∧ (reasmBegun src b now).msg = b.drop 8 := by
  obtain ⟨hidx, hsome⟩ := segOk_rest hok
  have hcount : (reasmBegun src b now).count = 1 := hone
  have hseg : (reasmBegun src b now).segs.get 0 = b.drop 8 := by rw [reasmBegun_segs, if_pos (by omega)]
  simp [Reasm.full, Reasm.msg, hcount, hseg, List.range_succ, hsome]

/-- A message of more segments waits for the others. -/
theorem reasmBegun_waits (hmore : 1 < bU8 b 5) : (reasmBegun src b now).full = false := by
  have hcount : (reasmBegun src b now).count = bU8 b 5 := rfl
  rw [Reasm.full, List.all_eq_false]
  by_cases h0 : bU8 b 4 = 0
  · exact ⟨1, by simp [hcount, hmore], by simp [reasmBegun_segs, h0]⟩
  · exact ⟨0, by simp [hcount]; omega, by simp [reasmBegun_segs, Ne.symm h0]⟩

theorem segOf_reasmBegun : segOf src b (reasmBegun src b now) = true := by simp [segOf, reasmBegun]

end

section
variable {s : State} {b : List Byte} {snr : BitVec 8}

theorem State.segSeen_frame (s : State) (snr : BitVec 8) : Keeps [F.PLC_CNT_RECEIVED, F.PLC_SNR_SNR] [] s (s.segSeen snr) := (.after (State.segSeen_keeps ..) (.refl _ _ _))

theorem State.segSeen_expire (s : State) (snr : BitVec 8) : (s.segSeen snr).reasmExpire.cour = s.reasmExpire.cour := rfl

theorem State.segSeen_expire_frame (s : State) (snr : BitVec 8) :
    Keeps [F.PLC_CNT_RECEIVED, F.PLC_SNR_SNR] [.cour] s (s.segSeen snr).reasmExpire := (.after (State.reasmExpire_keeps ..) (.after (State.segSeen_keeps ..) (.refl _ _ _)))

/-- A segment for the device comes to the reassembly. -/
theorem exec_segment {src dst : BitVec 16} (hon : s.plcOn = true) (hpd : s.pdOn 11 = true) (hok : segOk b = true)
    (hdst : dst.toNat = s.ownAddr ∨ (dst = 0xFFFF#16 ∧ bU8 b 5 = 1)) :
    exec (.plcSegmentReceive src dst b snr false) s = .next ((s.segSeen snr).reasmExpire.segTake src.toNat b) := by
  have hseen := s.segSeen_frame snr
  have hpd' : (s.segSeen snr).pdOn 11 = true := by rw [State.pdOn, hseen.get_eq _ (by simp)]; exact hpd
  have hown : (s.segSeen snr).ownAddr = s.ownAddr := hseen.get_eq _ (by simp)
  simp only [exec, execPlcSegmentReceive, hon, Bool.not_true, Bool.false_eq_true, if_false]
  simp only [← State.segSeen.eq_def, hpd', hok, hown, hdst, Bool.not_true, Bool.or_self, Bool.false_eq_true, if_false, if_true]

end

/-- Settles O52: frames go out, are retried and aborted, and segments are put together. -/
theorem powerlineFrames : Obligations.PowerlineFrames := by
  intro s
  refine ⟨fun f rest n hq hon hbusy hok => ?_, fun f rest n hq hon hbusy hpl hlow => ?_, fun n h => ?_, fun f hf hon hbusy hack => ⟨fun hr => ?_, fun hr => ?_⟩,
    fun h => ?_, fun hon hbusy => ?_, fun h => ?_, fun src dst b snr hon => ?_, fun src dst b snr hon hpd hok hone hdst hnew hroom => ?_,
    fun src dst b snr hon hpd hok hmore hdst hnew hroom => ?_, fun src dst b snr r hon hpd hok hdst hfound hcount hfull => ?_,
    fun src dst b snr r hon hpd hok hdst hfound hcount hfull => ?_, fun src dst b snr hon hpd hok hdst hnew hfull => ?_, fun src dst b snr x h => ?_,
    ⟨_, rfl, rfl, (.after (State.reasmExpire_keeps ..) (.refl _ _ _))⟩⟩
  · have hexec : exec (.plcFrameTransmit n) s = .next ((s.modCour fun c => { c with frame := none, queue := rest }).plcSend f n) := by
      simp [exec, execPlcFrameTransmit, hq, hon, hbusy]
    have hline := State.plcSend_onLine (s := s.modCour fun c => { c with frame := none, queue := rest }) f n hok
    exact ⟨_, hexec, hline.queue, hline.frame, hline.resets, hline.resets_other, hline.sent, .after hline.frames (.beside' (.refl _ _ s))⟩
  · have hexec : exec (.plcFrameTransmit n) s = .next ((s.modCour fun c => { c with frame := none, queue := rest }).plcSend f n) := by
      simp [exec, execPlcFrameTransmit, hq, hon, hbusy]
    rw [State.plcSend_refused (s := s.modCour fun c => { c with frame := none, queue := rest }) f n hpl hlow] at hexec
    exact ⟨_, hexec, rfl, rfl, by simp [State.plRefuse, State.incSat, State.modCour], by simp [State.plRefuse, State.incSat, State.modCour], (.after (State.plRefuse_keeps ..) (.set1' (.after (State.modCour_keeps ..) (.refl _ _ _))))⟩
  · unfold exec execPlcFrameTransmit
    rcases h with h | h | h
    · simp only [h]
    · simp only [h, Bool.false_and, Bool.false_eq_true, if_false]
      split <;> rfl
    · simp only [h, Bool.not_true, Bool.and_false, Bool.false_eq_true, if_false]
      split <;> rfl
  · have hexec : exec .macRetry s =
        .next (s.modCour fun c => { c with frame := none, queue := { f with retries := f.retries + 1, endAt := 0 } :: c.queue }) := by
      simp [exec, execMacRetry, hf, hon, hbusy, hack, hr]
    exact ⟨_, hexec, rfl, rfl, (.after (State.modCour_keeps ..) (.refl _ _ _))⟩
  · have hexec : exec .macRetry s = .next ((s.incSat F.PLC_ERR_CNT_EXHAUSTED).modCour fun c => { c with frame := none }) := by
      simp [exec, execMacRetry, hf, hon, hbusy, hack, hr]
    exact ⟨_, hexec, rfl, rfl, ((State.get_put_same _ _ _ (by simp)).trans (Nat.mod_eq_of_lt (satInc_lt _ _))).trans (satInc_eq_min (s.get_lt _)),
      (.after (State.modCour_keeps ..) (.incSat' (.refl _ _ _)))⟩
  · simp [exec, execMacRetry, h]
  · have hexec : exec .plcCurrentLimit s = .next (s.plcAbort.stickyRaise F.PLC_STICKY_ILIMIT FS.PLC_FAULT) := by
      simp [exec, execPlcCurrentLimit, hon, hbusy]
    have habort : s.plcAbort = (s.set1 F.PLC_STICKY_ABORTED).modCour fun c => { c with frame := none } := by simp [State.plcAbort, hbusy]
    rw [habort] at hexec
    exact ⟨_, hexec, rfl, by simp [State.stickyRaise, State.modCour], by simp [State.stickyRaise], rfl, (.stickyRaise' (.after (State.modCour_keeps ..) (.set1' (.refl _ _ _))))⟩
  · exact if_neg (by rcases h with h | h <;> simp [h])
  · have hexec : exec (.plcSegmentReceive src dst b snr true) s = .next ((s.segSeen snr).incSat F.PLC_ERR_CNT_DISCARDED) := by
      simp only [exec, execPlcSegmentReceive, hon, Bool.not_true, Bool.false_eq_true, if_false, if_true, State.segSeen]
    refine ⟨_, hexec, ?_, ?_, ?_, (.incSat' (.after (State.segSeen_keeps ..) (.refl _ _ _)))⟩
    · simp [State.segSeen, State.incSat, State.incWrap]
    · refine (State.get_put_same _ _ _ (by simp)).trans ((Nat.mod_eq_of_lt (satInc_lt _ _)).trans ?_)
      rw [(s.segSeen_frame snr).get_eq _ (by simp)]
      exact satInc_eq_min (s.get_lt _)
    · have hlt := snr.isLt
      simpa [State.segSeen, State.incSat] using hlt
  · have hexec := exec_segment (src := src) (snr := snr) hon hpd hok (hdst.imp_right fun h => ⟨h, hone⟩)
    obtain ⟨hfull, hmsg⟩ := reasmBegun_whole (src := src.toNat) (now := (s.segSeen snr).reasmExpire.mono) hok hone
    rw [State.segTake_first (s := (s.segSeen snr).reasmExpire) hnew hroom, if_pos hfull, hmsg] at hexec
    exact ⟨_, hexec, rfl, rfl, .beside' (.after (s.segSeen_expire_frame snr) (.refl _ _ s))⟩
  · have hexec := exec_segment (src := src) (snr := snr) hon hpd hok (.inl hdst)
    rw [State.segTake_first (s := (s.segSeen snr).reasmExpire) hnew hroom, reasmBegun_waits hmore, if_neg Bool.false_ne_true] at hexec
    exact ⟨_, _, hexec, rfl, segOf_reasmBegun, rfl, by rw [reasmBegun_segs, if_pos rfl], rfl, .beside' (.after (s.segSeen_expire_frame snr) (.refl _ _ s))⟩
  · have hexec := exec_segment (src := src) (snr := snr) hon hpd hok (.inl hdst)
    rw [State.segTake_next (s := (s.segSeen snr).reasmExpire) hfound hcount, hfull, if_neg Bool.false_ne_true] at hexec
    exact ⟨_, hexec, rfl, .beside' (.after (s.segSeen_expire_frame snr) (.refl _ _ s))⟩
  · have hexec := exec_segment (src := src) (snr := snr) hon hpd hok (.inl hdst)
    rw [State.segTake_next (s := (s.segSeen snr).reasmExpire) hfound hcount, if_pos hfull] at hexec
    exact ⟨_, hexec, rfl, rfl, .beside' (.beside' (.after (s.segSeen_expire_frame snr) (.refl _ _ s)))⟩
  · have hexec := exec_segment (src := src) (snr := snr) hon hpd hok (.inl hdst)
    rw [State.segTake_dropped (s := (s.segSeen snr).reasmExpire) hnew hfull] at hexec
    exact ⟨_, hexec, (State.get_put_same _ _ _ (by simp)).trans rfl, rfl, .set1' (.after (s.segSeen_expire_frame snr) (.refl _ _ s))⟩
  · exact if_pos (by simp [h])

end Sys2Proof.Machine
end

section
/-!
Proofs about Svauth's mailbox (chapter 18).
The proofs are elaborated in turn: in one text, proofs that wait for each other would each hold a thread.
-/

set_option Elab.async false

namespace Sys2Proof.Machine

/-! ### The mailbox (R590) -/

theorem State.modSv_keeps (s : State) (f : SvState → SvState) :
    Keeps [] [.sv] s (s.modSv f) :=
  .beside' (.refl _ _ _)

theorem State.svServed_keeps (s : State) (ch : ℕ) (r : ℕ) (rsp : List Byte) :
    Keeps [] [.sv] s (s.svServed ch r rsp) :=
  .after (State.modSv_keeps ..) (.refl _ _ _)

theorem State.svKeep_keeps (s : State) :
    Keeps [] [.sv] s s.svKeep :=
  .after (State.modSv_keeps ..) (.refl _ _ _)

section
variable {s u : State} {ch op r : Nat} {rsp : List Byte} {k : State → SvRes}

theorem State.svServed_served (hchan : u.sv.chan = s.sv.chan) (hqueue : u.sv.queue = s.sv.queue) : Served ch r rsp s (u.svServed ch r rsp) := by
  refine ⟨?_, congrArg (List.filter (· != ch)) hqueue, fun c hc => ?_⟩
  · exact (SMap.get_set_same _ _ _).trans (by rw [hchan])
  · exact (SMap.get_set_ne _ _ _ _ hc).trans (by rw [hchan])

theorem State.svServed_frame (u : State) (ch r : Nat) (rsp : List Byte) : Keeps [] [.sv] u (u.svServed ch r rsp) := (.after (State.svServed_keeps ..) (.refl _ _ _))

theorem State.svKeep_frame (s : State) : Keeps [] [.sv] s s.svKeep := (.after (State.svKeep_keeps ..) (.refl _ _ _))

theorem State.svServe_waits (h : s.svTurn ch op = false) : s.svServe ch op k = s := by
  simp only [State.svServe, h, Bool.not_false, if_true]

theorem State.svServe_barred (h : s.svTurn ch op = true) (hbar : s.svBar ch op = some r) : s.svServe ch op k = s.svServed ch r [] := by
  simp only [State.svServe, h, hbar, Bool.not_true, Bool.false_eq_true, if_false]

theorem State.svServe_runs (h : s.svTurn ch op = true) (hbar : s.svBar ch op = none) :
    s.svServe ch op k = (k s.svKeep).1.svServed ch (k s.svKeep).2.1 (k s.svKeep).2.2 := by
  simp only [State.svServe, h, hbar, Bool.not_true, Bool.false_eq_true, if_false]

/-- A command that leaves the state but for what it draws: its answer is served. -/
theorem State.svServe_answers {b : List Byte} (h : s.svTurn ch op = true) (hbar : s.svBar ch op = none) (hk : k s.svKeep = (s.svKeep, r, b)) :
    Served ch r b s (s.svServe ch op k) ∧ Keeps [] [.sv] s (s.svServe ch op k) := by
  rw [State.svServe_runs h hbar, hk]
  exact ⟨State.svServed_served rfl rfl, .after (State.svServed_frame ..) (.after s.svKeep_frame (.refl _ _ s))⟩

theorem State.svServe_draws {b : List Byte} {n : Nat} (h : s.svTurn ch op = true) (hbar : s.svBar ch op = none)
    (hk : k s.svKeep = (s.svKeep.drewN n, r, b)) : Served ch r b s (s.svServe ch op k) ∧ Keeps [] [.sv, .draws] s (s.svServe ch op k) := by
  rw [State.svServe_runs h hbar, hk]
  exact ⟨State.svServed_served rfl rfl, .after (State.svServed_frame ..) (.beside' (.after s.svKeep_frame (.refl _ _ s)))⟩

/-- What a command that is not served at once does: it waits for its turn, or is answered with what bars it. -/
theorem svServe_held {i : Instr} (hi : s.svTurn ch op = false ∨ (s.svBar ch op).isSome = true → exec i s = .next (s.svServe ch op k)) :
    (s.svTurn ch op = false → exec i s = .next s) ∧
    (∀ r, s.svTurn ch op = true → s.svBar ch op = some r → ∃ t, exec i s = .next t ∧ Served ch r [] s t ∧ Keeps [] [.sv] s t) := by
  refine ⟨fun h => ?_, fun r h hbar => ?_⟩
  · rw [hi (.inl h), State.svServe_waits h]
  · rw [hi (.inr (by simp [hbar])), State.svServe_barred h hbar]
    exact ⟨_, rfl, State.svServed_served rfl rfl, State.svServed_frame ..⟩

end

/-! ### A report (R580, Table SVA-8) -/

theorem fixLen_length (n : Nat) (bs : List Byte) : (fixLen n bs).length = n := by
  simp [fixLen]

theorem fixLen_of_length {n : Nat} {bs : List Byte} (h : bs.length = n) : fixLen n bs = bs := by
  rw [fixLen, List.take_append_of_le_length (by omega), ← h, List.take_length]

/-- A block of a run of blocks of one length. -/
theorem flatMap_block {α β : Type} (f : α → List β) {m : Nat} (hm : ∀ a, (f a).length = m) :
    ∀ (l : List α) (i : Nat) (h : i < l.length), ((l.flatMap f).drop (m * i)).take m = f l[i]
  | a :: l, 0, _ => by
    have hlen := hm a
    rw [List.flatMap_cons, Nat.mul_zero, List.drop_zero, List.take_append_of_le_length (by omega), ← hlen, List.take_length]
    rfl
  | a :: l, i + 1, h => by
    have hlen := hm a
    rw [List.flatMap_cons, Nat.mul_succ, Nat.add_comm, ← List.drop_drop, List.drop_append_of_le_length (by omega), ← hlen, List.drop_length, List.nil_append, hlen]
    exact flatMap_block f hm l i (by simpa using h)

theorem flatMap_length {α β : Type} (f : α → List β) {m : Nat} (hm : ∀ a, (f a).length = m) (l : List α) : (l.flatMap f).length = l.length * m := by
  simp [List.length_flatMap, hm]

/-- A part of a list that stands at an offset. -/
theorem drop_take_part {α : Type} {p x r : List α} {m n : Nat} (hp : p.length = m) (hx : x.length = n) :
    ((p ++ (x ++ r)).drop m).take n = x := by
  rw [← hp, List.drop_left, ← hx, List.take_left]

section
variable (s : State) (nonce : List Byte)

/-- What stands in a report before its time, between its time and its nonce, between its nonce and its registers, and after them (Table SVA-8). -/
def State.attHead : List Byte :=
  leBytes 4 0x54535441 ++ (leBytes 2 1 ++ (leBytes 2 0x200 ++ (leBytes 4 s.sysId.toNat ++ leBytes 4 s.attFlags)))

def State.attCounts : List Byte := leBytes 4 (s.rd R.PLINTH_RTC_SEC).toNat ++ leBytes 4 s.sv.bootNo

def State.attVersions (imgOn foyer : Bool) : List Byte :=
  devidHash ++ (leBytes 1 s.sv.arbFw ++ (leBytes 1 s.sv.arbImg ++ (leBytes 1 s.sv.arbApp ++ (leBytes 1 0 ++
  (leBytes 4 s.sv.fwSecver ++ (leBytes 4 (if imgOn then (s.rd R.SYS_IMG_SECVER).toNat else 0) ++ (leBytes 4 s.sv.appSecver ++
  (leBytes 4 (s.rd R.SYS_IMG_ID).toNat ++ (leBytes 4 (if foyer then bitsOf (s.rd R.SYS_FOYER).toNat 0 16 else 0) ++
  (leBytes 4 s.sv.logSeq ++ leBytes 4 0))))))))))

def State.attDigests (imgOn : Bool) : List Byte :=
  fixLen 32 s.sv.fwDigest ++ ((if imgOn then (List.range 8).flatMap (fun i => leBytes 4 (s.rd (R.SYS_IMG_DIGEST i)).toNat) else
    List.replicate 32 0#8) ++ (fixLen 32 s.sv.appDigest ++ List.replicate 32 0#8))

theorem State.attBody_eq : s.attBody nonce = s.attHead ++ (leBytes 8 s.epoch ++ (s.attCounts ++ (fixLen 32 nonce ++
    (s.attVersions s.img.applied.isSome s.inFoyer ++ (((List.range 8).flatMap fun i => fixLen 32 (s.pmOf i)) ++ s.attDigests s.img.applied.isSome))))) := by
  unfold State.attBody State.attHead State.attCounts State.attVersions State.attDigests
  simp only [List.append_assoc]

theorem State.attHead_length : s.attHead.length = 16 := by
  simp only [State.attHead, List.length_append, leBytes_length]

theorem State.attCounts_length : s.attCounts.length = 8 := by
  simp only [State.attCounts, List.length_append, leBytes_length]

theorem State.attVersions_length (imgOn foyer : Bool) : (s.attVersions imgOn foyer).length = 64 := by
  simp only [State.attVersions, List.length_append, leBytes_length, devidHash, fixLen_length]

theorem State.attDigests_length (imgOn : Bool) : (s.attDigests imgOn).length = 128 := by
  have himg : (if imgOn then (List.range 8).flatMap (fun i => leBytes 4 (s.rd (R.SYS_IMG_DIGEST i)).toNat) else List.replicate 32 0#8).length = 32 := by
    split
    · exact flatMap_length _ (fun _ => leBytes_length 4 _) _
    · exact List.length_replicate
  simp only [State.attDigests, List.length_append, fixLen_length, List.length_replicate, himg]

theorem State.attPms_length : ((List.range 8).flatMap fun i => fixLen 32 (s.pmOf i)).length = 256 :=
  flatMap_length _ (fun _ => fixLen_length 32 _) _

theorem State.attBody_length : (s.attBody nonce).length = 512 := by
  simp only [State.attBody_eq, List.length_append, State.attHead_length, leBytes_length, State.attCounts_length, fixLen_length,
    State.attVersions_length, State.attPms_length, State.attDigests_length]

/-- The time, the nonce and the registers stand where Table SVA-8 puts them. -/
theorem State.attBody_epoch : ((s.attBody nonce).drop 16).take 8 = leBytes 8 s.epoch := by
  rw [State.attBody_eq]
  exact drop_take_part s.attHead_length (leBytes_length _ _)

theorem State.attBody_nonce : ((s.attBody nonce).drop 32).take 32 = fixLen 32 nonce := by
  rw [State.attBody_eq, ← List.append_assoc, ← List.append_assoc]
  exact drop_take_part (by simp [State.attHead_length, leBytes_length, State.attCounts_length]) (fixLen_length _ _)

theorem State.attBody_pm (i : Fin 8) : ((s.attBody nonce).drop (128 + 32 * i)).take 32 = fixLen 32 (s.pmOf i) := by
  have hi : (i : Nat) < (List.range 8).length := by simp
  have hblock := flatMap_block (fun i => fixLen 32 (s.pmOf i)) (fun _ => fixLen_length 32 _) (List.range 8) i hi
  rw [List.getElem_range] at hblock
  have hhead : (s.attHead ++ (leBytes 8 s.epoch ++ (s.attCounts ++ (fixLen 32 nonce ++ s.attVersions s.img.applied.isSome s.inFoyer)))).length = 128 := by
    simp only [List.length_append, State.attHead_length, leBytes_length, State.attCounts_length, fixLen_length, State.attVersions_length]
  have hsplit : s.attBody nonce = (s.attHead ++ (leBytes 8 s.epoch ++ (s.attCounts ++ (fixLen 32 nonce ++
      s.attVersions s.img.applied.isSome s.inFoyer)))) ++ (((List.range 8).flatMap fun i => fixLen 32 (s.pmOf i)) ++ s.attDigests s.img.applied.isSome) := by
    rw [State.attBody_eq]
    simp only [List.append_assoc]
  have hlen := s.attPms_length
  rw [hsplit, ← List.drop_drop, ← hhead, List.drop_left, List.drop_append_of_le_length (by omega), List.take_append_of_le_length
    (by rw [List.length_drop]; omega)]
  exact hblock

end

/-! ### A command's end (R590, R599) -/

/-- A frame of fields of one register, as a frame of that register. -/
theorem Keeps.toWhole {fs : List Fld} {ps : List Part} {s t : State} {a : Nat} (h : Keeps fs ps s t) (ha : ∀ f ∈ fs, f.addr = a) :
    Keeps [whole a] ps s t := by
  refine ⟨fun g hg => ?_, h.2⟩
  by_cases hl : g.len = 0
  · simp [State.get, bitsOf, hl, Nat.mod_one]
  · have hne : a ≠ g.addr := by
      have hapart := hg _ (List.mem_singleton_self _)
      simp only [Fld.apart, whole, Bool.or_eq_true, bne_iff_ne, Bool.and_eq_true, decide_eq_true_eq] at hapart
      rcases hapart with hne | ⟨⟨-, hlen⟩, hfree | hfree⟩
      · exact hne
      · have hnone : g.lo + g.len ≤ 0 := of_decide_eq_true hfree
        exact absurd hnone (by omega)
      · have hpast : 0 + 32 ≤ g.lo := of_decide_eq_true hfree
        exact absurd hpast (by omega)
    exact h.1 g fun f hf => Fld.apart_of_addr_ne _ _ (ha f hf ▸ hne)

/-- The channel is free. -/
def State.svReleased (s : State) (q : Nat) : State :=
  s.modSv fun v => { v with chan := v.chan.set q default, queue := v.queue.filter (· != q), undo := none }

theorem State.svReleased_frame (s : State) (q : Nat) : Keeps [] [.sv] s (s.svReleased q) := .beside' (.refl _ _ s)

/-- The channel is free, and its status shows a command's result. -/
def State.svStatus (s : State) (q r len : Nat) : State :=
  ((((s.svReleased q).put (F.SV_STATUS_BUSY q) 0).put (F.SV_STATUS_DONE q) 1).put (F.SV_STATUS_RESULT q) r).put (F.SV_STATUS_RSP_LEN q) len

/-- The answer stands beside it. -/
def State.svShown (s : State) (q r : Nat) (rsp : List Byte) : State := (s.svStatus q r rsp.length).wrBytes (R.SV_RSP q) (rsp.take 4096)

section
variable {s : State} {q : Nat}

theorem State.svComplete_served (hq : q < 2) (hop : (s.sv.chan.get q).op ≠ 0) (hserved : (s.sv.chan.get q).served = true) :
    s.svComplete q = s.svShown q (s.sv.chan.get q).result (s.sv.chan.get q).rsp := by
  simp [State.svComplete, hop, hserved, hq, State.svShown, State.svStatus, State.svReleased]

/-- The PERMIT_RESULT frame that ends a command of the Docent channel (R599). -/
def State.permitResult (s : State) (r : Nat) : Response :=
  { words := [], result := r, fault := false, bytes := svcFrame 4 (leBytes 1 r ++ leBytes 1 (s.get F.SV_INFO_PERMIT) ++ leBytes 2 s.permitLeft) }

theorem State.svComplete_docent (hop : (s.sv.chan.get 2).op ≠ 0) (hserved : (s.sv.chan.get 2).served = true) :
    s.svComplete 2 = { s.svReleased 2 with resp := (s.svReleased 2).permitResult (s.sv.chan.get 2).result } := by
  simp [State.svComplete, hop, hserved, State.svReleased, State.permitResult]

theorem State.svComplete_unknown (hq : q < 2) (hop : 0x12 ≤ (s.sv.chan.get q).op) (hserved : (s.sv.chan.get q).served = false)
    (hhead : s.sv.queue.head? = some q) (hfree : s.svFree = true) : s.svComplete q = s.svShown q 2 [] := by
  have hsome : (s.sv.chan.get q).op ≠ 0 := by omega
  simp [State.svComplete, hsome, hop, hserved, hq, hhead, hfree, State.svShown, State.svStatus, State.svReleased]

theorem State.svShown_facts (s : State) (q : Nat) {r : Nat} {rsp : List Byte} (hr : r < 256) (hlen : rsp.length ≤ 4096) :
    (s.svShown q r rsp).sv.chan.get q = default ∧ (s.svShown q r rsp).get (F.SV_STATUS_BUSY q) = 0 ∧
    (s.svShown q r rsp).get (F.SV_STATUS_DONE q) = 1 ∧ (s.svShown q r rsp).get (F.SV_STATUS_RESULT q) = r ∧
    (s.svShown q r rsp).get (F.SV_STATUS_RSP_LEN q) = rsp.length ∧ (s.svShown q r rsp).rdBytes (R.SV_RSP q) rsp.length = rsp ∧
    (∀ a, a < R.SV_RSP q ∨ R.SV_RSP q + rsp.length ≤ a → (s.svShown q r rsp).rdB a = s.rdB a) ∧
    Keeps [whole (R.SV_STATUS q)] [.mem, .sv] s (s.svShown q r rsp) := by
  have hrsp : rsp.take 4096 = rsp := List.take_of_length_le hlen
  have hbytes : Keeps [] [.mem] (s.svStatus q r rsp.length) (s.svShown q r rsp) := .wrBytes' (.refl _ _ _)
  have hget (f : Fld) : (s.svShown q r rsp).get f = (s.svStatus q r rsp.length).get f := hbytes.get_eq f (by simp)
  have hmem : (s.svStatus q r rsp.length).mem = s.mem := by simp [State.svStatus, State.svReleased, State.modSv]
  refine ⟨(congrArg (fun v => v.chan.get q) (hbytes.2 .sv (by decide))).trans ?_, (hget _).trans ?_, (hget _).trans ?_, (hget _).trans ?_,
    (hget _).trans ?_, ?_, fun a ha => ?_, ?_⟩
  · simp [State.svStatus, State.svReleased, State.modSv]
  · simp [State.svStatus]
  · simp [State.svStatus]
  · simpa [State.svStatus] using hr
  · simp [State.svStatus]
    omega
  · rw [State.svShown, hrsp]
    exact State.rdBytes_wrBytes rsp (by simp; omega)
  · rw [State.svShown, hrsp]
    refine (State.rdB_wrBytes_other rsp (by simp; omega) ?_).trans ?_
    · unfold memHome
      simp at ha ⊢
      split <;> omega
    · exact State.rdB_congr hmem a
  · have hfields : Keeps [F.SV_STATUS_BUSY q, F.SV_STATUS_DONE q, F.SV_STATUS_RESULT q, F.SV_STATUS_RSP_LEN q] [.mem, .sv] s (s.svShown q r rsp) :=
      .wrBytes' (.put' (.put' (.put' (.put' (.after (s.svReleased_frame q) (.refl _ _ s))))))
    exact hfields.toWhole (by simp)

end

theorem execSvStageEnd_held (q : Fin 2) (s : State) (h : s.svTurn q 10 = false ∨ (s.svBar q 10).isSome = true) :
    exec (.svStageEnd q) s = .next (s.svServe q 10 fun s => s.stageEnd.getD (s, Sv.busy, [])) := by
  refine if_neg ?_
  rcases h with h | h
  · simp [h]
  · obtain ⟨r, hr⟩ := Option.isSome_iff_exists.1 h
    simp [hr]

/-- Settles O42: commands wait for their turn, are barred or answered, and complete on their channel. -/
theorem mailboxTurnsAndReads : Obligations.MailboxTurnsAndReads := by
  intro s
  refine ⟨fun q b c d au m n => ?_, fun q h hbar => ?_, fun q h hbar => ?_, fun q nonce h hbar hlen hready => ?_, fun q h hbar => ?_,
    fun q n h hbar h1 h2 => ?_, fun q n h hbar hn => ?_, fun q hop hserved hr hlen => ?_, fun hop hserved => ?_,
    fun q hop hserved hhead hfree => ?_, fun ch h => ?_⟩
  · simp only [List.forall_mem_cons, List.not_mem_nil, IsEmpty.forall_iff, implies_true, and_true]
    exact ⟨svServe_held fun _ => rfl, svServe_held fun _ => rfl, svServe_held fun _ => rfl, svServe_held fun _ => rfl, svServe_held fun _ => rfl,
      svServe_held fun _ => rfl, svServe_held fun _ => rfl, svServe_held fun _ => rfl, svServe_held fun _ => rfl, svServe_held (execSvStageEnd_held q s),
      svServe_held fun _ => rfl, svServe_held fun _ => rfl, svServe_held fun _ => rfl, svServe_held fun _ => rfl, svServe_held fun _ => rfl,
      svServe_held fun _ => rfl, svServe_held fun _ => rfl⟩
  · obtain ⟨hserved, hframe⟩ := State.svServe_draws h hbar (k := fun s => (s.drewN 4097, Sv.ok, (s.drawBytes 4097).drop (1 + Config.freeDraw s.draws % 4096))) rfl
    exact ⟨_, _, rfl, by rw [List.length_drop, State.drawBytes_length]; omega, hserved, hframe⟩
  · obtain ⟨hserved, hframe⟩ := State.svServe_answers h hbar (k := fun s => (s, Sv.ok, fixLen 3796 Config.devidCert)) rfl
    exact ⟨_, _, rfl, fixLen_length _ _, hserved, hframe⟩
  · have hattest : s.svKeep.svAttest nonce = (s.svKeep, Sv.ok, s.svKeep.attBody nonce ++ fixLen 2420 (Config.devidSign (sha3 (s.svKeep.attBody nonce)))) := by
      have hready' : s.svKeep.flag F.SV_INFO_DEVID_READY = true := hready
      simp only [State.svAttest, hlen, hready', ne_eq, not_true_eq_false, Bool.not_true, Bool.false_eq_true, if_false]
    obtain ⟨hserved, hframe⟩ := State.svServe_answers h hbar (k := fun s => s.svAttest nonce) hattest
    refine ⟨_, _, rfl, State.attBody_length .., ?_, ?_, fun i => State.attBody_pm _ _ i, hserved, hframe⟩
    · exact (congrArg leNat (State.attBody_epoch ..)).trans (leNat_leBytes 8 s.epoch)
    · rw [State.attBody_nonce, fixLen_of_length hlen]
  · obtain ⟨hserved, hframe⟩ := State.svServe_answers h hbar (k := fun s => (s, Sv.ok, (List.range 8).flatMap s.pmOf)) rfl
    exact ⟨_, rfl, hserved, hframe⟩
  · obtain ⟨hserved, hframe⟩ := State.svServe_draws (n := n) (r := Sv.ok) (b := s.svKeep.drawBytes n) h hbar
      (k := fun s => if n = 0 ∨ 256 < n then (s, Sv.badArg, []) else (s.drewN n, Sv.ok, s.drawBytes n)) (if_neg (by omega))
    exact ⟨_, _, rfl, State.drawBytes_length _ _, hserved, hframe⟩
  · obtain ⟨hserved, hframe⟩ := State.svServe_answers (r := Sv.badArg) (b := []) h hbar
      (k := fun s => if n = 0 ∨ 256 < n then (s, Sv.badArg, []) else (s.drewN n, Sv.ok, s.drawBytes n)) (if_pos hn)
    exact ⟨_, rfl, hserved, hframe⟩
  · obtain ⟨hchan, hbusy, hdone, hres, hlens, hbytes, hother, hframe⟩ := s.svShown_facts q hr hlen
    have hexec : exec (.svCmdComplete (q.castLE (by decide))) s = .next (s.svComplete q) := rfl
    rw [State.svComplete_served q.isLt hop hserved] at hexec
    exact ⟨_, hexec, hchan, hbusy, hdone, hres, hlens, hbytes, hother, hframe⟩
  · have hexec : exec (.svCmdComplete 2) s = .next (s.svComplete 2) := rfl
    rw [State.svComplete_docent hop hserved] at hexec
    exact ⟨_, hexec, SMap.get_set_same _ _ _, rfl, .beside' (.after (State.svReleased_frame ..) (.refl _ _ s))⟩
  · obtain ⟨hchan, hbusy, hdone, hres, -, -, -, hframe⟩ := s.svShown_facts q (r := 2) (rsp := []) (by decide) (by decide)
    have hexec : exec (.svCmdComplete (q.castLE (by decide))) s = .next (s.svComplete q) := rfl
    rw [State.svComplete_unknown q.isLt hop hserved hhead hfree] at hexec
    exact ⟨_, hexec, hchan, hbusy, hdone, hres, hframe⟩
  · have hnone : s.svComplete ch = s := by
      unfold State.svComplete
      refine if_pos ?_
      obtain h0 | ⟨hlt, hmay, hnot⟩ := h
      · exact .inl h0
      · exact .inr (by simp [hnot, hmay, show ¬ 18 ≤ (s.sv.chan.get ch).op by omega])
    exact congrArg _ hnone

end Sys2Proof.Machine
end

section
/-!
Proofs about Svauth's measurements, log, records of authorisation and owners (chapter 18).
The proofs are elaborated in turn: in one text, proofs that wait for each other would each hold a thread.
-/

set_option Elab.async false

namespace Sys2Proof.Machine

/-! ### The Provenance log (R578, R579) -/

/-- Bytes written below the system SRAM read as they were written. -/
theorem State.rdBytes_wrBytes_low (s : State) (l : List Byte) {a n : Nat} (hn : l.length = n) (ha : a + n ≤ 0x20000000) :
    (s.wrBytes a l).rdBytes a n = l := by
  have hread := State.rdBytes_wrBytes_part (s := s) l (a := a) (by omega) (o := 0) (n := n) (by omega)
  rwa [List.drop_zero, List.take_of_length_le (by omega)] at hread

theorem State.rdB_wrBytes_apart_low (s : State) (l : List Byte) {a b n : Nat} (hn : l.length = n) (ha : a + n ≤ 0x20000000) (hb : b < a ∨ a + n ≤ b) :
    (s.wrBytes a l).rdB b = s.rdB b := by
  refine (State.rdB_wrBytes_low l (by omega)).trans (if_neg ?_)
  unfold memHome
  split <;> omega

section
variable (s : State) (ty pm : Nat) (d : List Byte)

/-- A log entry that reads back right. -/
theorem State.logWrite_right : s.logWrite ty pm d 0 =
    (s.wrBytes (logSlotAddr s.sv.logSlot) (s.logBytes ((s.sv.logSeq + 1) % 2 ^ 32) ty pm d)).modSv fun v =>
      { v with logSeq := (s.sv.logSeq + 1) % 2 ^ 32, logSlot := (s.sv.logSlot + 1) % 16384 } := by
  simp only [State.logWrite, bne_self_eq_false, Bool.false_eq_true, if_false, if_true]
  exact if_neg (by decide)

theorem State.logBytes_length (n : Nat) : (s.logBytes n ty pm d).length = 64 := by
  have hpm : (if pm = 0xFF then List.replicate 12 0#8 else fixLen 12 (s.pmOf pm)).length = 12 := by
    split
    · exact List.length_replicate
    · exact fixLen_length _ _
  simp only [State.logBytes, List.length_append, leBytes_length, fixLen_length, hpm]

theorem logSlotAddr_low (k : Nat) : logSlotAddr k + 64 ≤ 0x20000000 := by
  unfold logSlotAddr
  omega

/-- What an entry's bytes show of a state. -/
theorem State.logBytes_congr {s t : State} (n ty pm : Nat) (d : List Byte) (hboot : t.sv.bootNo = s.sv.bootNo) (hpm : t.sv.pm = s.sv.pm)
    (hrtc : t.rd R.PLINTH_RTC_SEC = s.rd R.PLINTH_RTC_SEC) : t.logBytes n ty pm d = s.logBytes n ty pm d := by
  simp only [State.logBytes, State.pmOf, hboot, hpm, hrtc]

/-- An entry is logged from a state that differs in nothing the log shows, and to one. -/
theorem Logged.of {ty pm : Nat} {d : List Byte} {s s' t t' : State} (h : Logged ty pm d s' t')
    (hseq : s'.sv.logSeq = s.sv.logSeq) (hslot : s'.sv.logSlot = s.sv.logSlot) (hmem : s'.mem = s.mem)
    (htseq : t.sv.logSeq = t'.sv.logSeq) (htslot : t.sv.logSlot = t'.sv.logSlot) (htmem : t.mem = t'.mem)
    (hbytes : t.logBytes t'.sv.logSeq ty pm d = t'.logBytes t'.sv.logSeq ty pm d) : Logged ty pm d s t := by
  obtain ⟨hn, hk, hentry, hother⟩ := h
  have hrd (a : Nat) : t.rdB a = t'.rdB a := State.rdB_congr htmem a
  rw [hslot] at hk hentry hother
  rw [hseq] at hn
  refine ⟨htseq.trans hn, htslot.trans hk, ?_, fun a ha => ((hrd a).trans (hother a ha)).trans (State.rdB_congr hmem a)⟩
  rw [htseq, hbytes, ← hentry]
  exact State.rdBytes_congr htmem _ _

/-- An entry of number n stands in its slot. -/
def State.logPut (n k : Nat) : State :=
  (s.wrBytes (logSlotAddr s.sv.logSlot) (s.logBytes n ty pm d)).modSv fun v => { v with logSeq := n, logSlot := k }

theorem State.logPut_frame (n k : Nat) : Keeps [] [.mem, .sv] s (s.logPut ty pm d n k) := .beside' (.wrBytes' (.refl _ _ s))

theorem State.logPut_sv (n k : Nat) : (s.logPut ty pm d n k).sv = { s.sv with logSeq := n, logSlot := k } := by
  have hwr : Keeps [] [.mem] s (s.wrBytes (logSlotAddr s.sv.logSlot) (s.logBytes n ty pm d)) := .wrBytes' (.refl _ _ s)
  exact congrArg (fun v => ({ v with logSeq := n, logSlot := k } : SvState)) (hwr.2 .sv (by decide))

theorem State.logPut_mem (n k : Nat) : (s.logPut ty pm d n k).mem = (s.wrBytes (logSlotAddr s.sv.logSlot) (s.logBytes n ty pm d)).mem := by
  rw [State.logPut, State.modSv]

theorem State.logPut_bytes (n k : Nat) : (s.logPut ty pm d n k).rdBytes (logSlotAddr s.sv.logSlot) 64 = (s.logPut ty pm d n k).logBytes n ty pm d := by
  have hread := s.rdBytes_wrBytes_low (s.logBytes n ty pm d) (s.logBytes_length ty pm d n) (logSlotAddr_low s.sv.logSlot)
  have hsv := s.logPut_sv ty pm d n k
  rw [State.logBytes_congr (s := s) n ty pm d (by rw [hsv]) (by rw [hsv]) ((s.logPut_frame ty pm d n k).rd_eq _ (by simp))]
  exact (State.rdBytes_congr (s.logPut_mem ty pm d n k) _ _).trans hread

theorem State.logWrite_eq : s.logWrite ty pm d 0 = s.logPut ty pm d ((s.sv.logSeq + 1) % 2 ^ 32) ((s.sv.logSlot + 1) % 16384) :=
  s.logWrite_right ty pm d

theorem Logged.serve {ty pm : Nat} {d : List Byte} {s t : State} (h : Logged ty pm d s t) (ch r : Nat) (rsp : List Byte) :
    Logged ty pm d s (t.svServed ch r rsp) := h.of rfl rfl rfl rfl rfl rfl rfl

theorem Logged.drew {ty pm : Nat} {d : List Byte} {s t : State} (h : Logged ty pm d s t) (n : Nat) : Logged ty pm d s (t.drewN n) :=
  h.of rfl rfl rfl rfl rfl rfl rfl

/-- An entry is logged from any state with that log and that memory. -/
theorem Logged.from {ty pm : Nat} {d : List Byte} {s s' t : State} (h : Logged ty pm d s' t) (hseq : s'.sv.logSeq = s.sv.logSeq)
    (hslot : s'.sv.logSlot = s.sv.logSlot) (hmem : s'.mem = s.mem) : Logged ty pm d s t := h.of hseq hslot hmem rfl rfl rfl rfl

theorem State.logWrite_logged : Logged ty pm d s (s.logWrite ty pm d 0) := by
  rw [State.logWrite_eq]
  obtain ⟨n, hn⟩ : ∃ n, n = (s.sv.logSeq + 1) % 2 ^ 32 := ⟨_, rfl⟩
  rw [← hn]
  refine ⟨?_, ?_, ?_, fun a ha => (State.rdB_congr (s.logPut_mem ty pm d n _) a).trans
    (s.rdB_wrBytes_apart_low _ (s.logBytes_length ty pm d n) (logSlotAddr_low _) ha)⟩
  · rw [State.logPut_sv, hn]
  · rw [State.logPut_sv]
  · rw [State.logPut_bytes, State.logPut_sv]

theorem State.logWrite_frame : Keeps [] [.mem, .sv] s (s.logWrite ty pm d 0) := by
  rw [State.logWrite_eq]
  exact s.logPut_frame ..

/-- What an entry leaves of Svauth's state. -/
theorem State.logWrite_sv : (s.logWrite ty pm d 0).sv =
    { s.sv with logSeq := (s.sv.logSeq + 1) % 2 ^ 32, logSlot := (s.sv.logSlot + 1) % 16384 } := by
  rw [State.logWrite_eq, State.logPut_sv]

theorem State.measure_sv : (s.measure ty pm d 0).sv = { s.sv with pm := s.sv.pm.set pm (sha3 (s.pmOf pm ++ d)), logSeq := (s.sv.logSeq + 1) % 2 ^ 32,
                                                                   logSlot := (s.sv.logSlot + 1) % 16384 } :=
  State.logWrite_sv ..

theorem State.measure_frame : Keeps [] [.mem, .sv] s (s.measure ty pm d 0) := .after (State.logWrite_frame ..) (.beside' (.refl _ _ s))

theorem State.measure_logged : Logged ty pm d s (s.measure ty pm d 0) :=
  ((s.pmExtend pm d).logWrite_logged ty pm d).from rfl rfl rfl

end

/-! ### Records of authorisation (R586, R587) -/

section
variable {s : State} {rcd : List Byte} {op : Nat} {args : List Byte} {may : Nat → Bool} {k : State → SvRes}

theorem State.withAuth_taken (h : s.authCheck rcd op args = 0) (hmay : may (bU rcd 6 2) = true) :
    s.withAuth rcd op args may k = k (s.authTake rcd 0) := by
  simp only [State.withAuth, h, hmay, Bool.not_true, Bool.false_eq_true, and_false, if_false, if_true]

theorem State.withAuth_policy (h : s.authCheck rcd op args = 0) (hmay : may (bU rcd 6 2) = false) :
    s.withAuth rcd op args may k = (s, Sv.policy, []) := by
  simp only [State.withAuth, h, hmay, Bool.not_false, and_self, if_true]

end

/-! ### Fuses that change, measured into PM4 and logged (R571, R572, R585) -/

/-- The end of a command that changed fuses: the registers show them, and the change is measured. -/
def State.otpLogged (s : State) (ty : Nat) : State := (s.svShow.measure ty 4 (s.svShow.drawBytes 32) 0).drewN 32

theorem State.svShow_frame (s : State) : Keeps otpFlds [] s s.svShow := by
  unfold otpFlds
  exact .put' (.put' (.put' (.put' (.put' (.put' (.put' (.refl _ _ s)))))))

section
variable {s u : State} {ch ty : Nat}

theorem State.svShow_mem (s : State) : s.svShow.mem = s.mem := by simp [State.svShow]

theorem State.svShow_sv (s : State) : s.svShow.sv = s.sv := by simp [State.svShow]

/-- A command that changed fuses only, and was served. -/
theorem State.otpLogged_served (hframe : Keeps [] [.sv] s u) (hmem : u.mem = s.mem) (hchan : u.sv.chan = s.sv.chan) (hqueue : u.sv.queue = s.sv.queue)
    (hseq : u.sv.logSeq = s.sv.logSeq) (hslot : u.sv.logSlot = s.sv.logSlot) :
    Logged ty 4 (u.svShow.drawBytes 32) s ((u.otpLogged ty).svServed ch 0 []) ∧ Served ch 0 [] s ((u.otpLogged ty).svServed ch 0 []) ∧
    Keeps otpFlds [.mem, .draws, .sv] s ((u.otpLogged ty).svServed ch 0 []) := by
  have hmeasured := u.svShow.measure_frame ty 4 (u.svShow.drawBytes 32)
  have hsv := (u.svShow.measure_sv ty 4 (u.svShow.drawBytes 32)).trans (by rw [u.svShow_sv])
  have hlog := u.svShow.measure_logged ty 4 (u.svShow.drawBytes 32)
  refine ⟨((hlog.drew 32).serve ch 0 []).from ?_ ?_ ?_, State.svServed_served ?_ ?_, ?_⟩
  · rw [u.svShow_sv, hseq]
  · rw [u.svShow_sv, hslot]
  · rw [u.svShow_mem, hmem]
  · exact (congrArg SvState.chan hsv).trans hchan
  · exact (congrArg SvState.queue hsv).trans hqueue
  · exact .after (State.svServed_frame ..) (.beside' (.after hmeasured (.after u.svShow_frame (.after hframe (.refl _ _ s)))))

/-- What stands of Svauth's state after such a command. -/
theorem State.otpLogged_sv (u : State) (ty : Nat) : (u.otpLogged ty).sv =
    { u.sv with pm := u.sv.pm.set 4 (sha3 (u.pmOf 4 ++ u.svShow.drawBytes 32)), logSeq := (u.sv.logSeq + 1) % 2 ^ 32,
                logSlot := (u.sv.logSlot + 1) % 16384 } := by
  have hpm : u.svShow.pmOf 4 = u.pmOf 4 := by rw [State.pmOf, State.pmOf, u.svShow_sv]
  refine (u.svShow.measure_sv ty 4 (u.svShow.drawBytes 32)).trans ?_
  rw [u.svShow_sv, hpm]

end

/-- A measurement that was extended by a command (R578). -/
theorem State.measure_served (s : State) (ch ty pm : Nat) (d : List Byte) :
    ((s.svKeep.measure ty pm d 0).svServed ch 0 []).sv.pm.get pm = sha3 (s.pmOf pm ++ d) ∧
    (∀ i, i ≠ pm → ((s.svKeep.measure ty pm d 0).svServed ch 0 []).sv.pm.get i = s.sv.pm.get i) ∧
    Logged ty pm d s ((s.svKeep.measure ty pm d 0).svServed ch 0 []) ∧ Served ch 0 [] s ((s.svKeep.measure ty pm d 0).svServed ch 0 []) ∧
    Keeps [] [.mem, .sv] s ((s.svKeep.measure ty pm d 0).svServed ch 0 []) := by
  have hsv := s.svKeep.measure_sv ty pm d
  have hlog := s.svKeep.measure_logged ty pm d
  have hframe := s.svKeep.measure_frame ty pm d
  generalize s.svKeep.measure ty pm d 0 = u at hsv hlog hframe ⊢
  have hpm : (u.svServed ch 0 []).sv.pm = s.sv.pm.set pm (sha3 (s.pmOf pm ++ d)) := (congrArg SvState.pm hsv).trans rfl
  refine ⟨by rw [hpm, SMap.get_set_same], fun i hi => by rw [hpm, SMap.get_set_ne _ _ _ _ hi], (hlog.serve ch 0 []).from rfl rfl rfl,
    State.svServed_served ((congrArg SvState.chan hsv).trans rfl) ((congrArg SvState.queue hsv).trans rfl),
    .after (State.svServed_frame ..) (.after hframe (.after s.svKeep_frame (.refl _ _ s)))⟩

/-- A change of Svauth's own state, where the frame lets it change. -/
theorem Keeps.modSv' {fs : List Fld} {ps : List Part} {s t : State} {f : SvState → SvState} (h : Keeps fs ps s t)
    (hp : Part.sv ∈ ps := by simp) : Keeps fs ps s (t.modSv f) := by
  refine h.trans ⟨fun _ _ => rfl, fun p hn => ?_⟩
  cases p
  case sv => exact absurd hp hn
  case mem => exact ⟨State.rdB_congr rfl, rfl⟩
  all_goals rfl

/-- The state of a command whose record was taken. -/
theorem State.authTake_zero (s : State) (rcd : List Byte) :
    s.authTake rcd 0 = s.modSv fun v => { v with replay := v.replay.set (bU rcd 6 2) (bU rcd 8 8) } := if_pos rfl

/-- The outcome of a check of a record (R586). -/
theorem State.authCheck_cases (s : State) (rcd : List Byte) (op : Nat) (args : List Byte) :
    s.authCheck rcd op args = 0 ∨ s.authCheck rcd op args = 3 ∨ s.authCheck rcd op args = 4 := by
  unfold State.authCheck
  dsimp only
  split_ifs <;> simp

/-- An owner's key and its digest take a slot (R571). -/
def State.svEnrolledAt (s : State) (slot : Nat) (key : List Byte) : State :=
  s.modSv fun v => { v with hash := v.hash.set slot (sha3 key), key := v.key.set slot key }

/-- An owner is revoked (R572). -/
def State.svRevokedAt (s : State) (slot : Nat) : State := s.modSv fun v => { v with revoked := v.revoked ||| 2 ^ (slot - 1) }

/-- Unsigned APP packages are refused from now on (R585). -/
def State.svStrictOn (s : State) : State := s.modSv fun v => { v with strict := true }

section
variable {s : State} {slot : Nat} {key auth : List Byte}

theorem State.svEnroll_done {r : Option (List Byte)} (h1 : 1 ≤ slot) (h4 : slot ≤ 4) (hkey : key.length = 1312) (hfree : s.sv.hash.get slot = [])
    (hrev : bitOf s.sv.revoked (slot - 1) = false)
    (hauth : s.svEnrolled = 0 ∨ ∃ a, r = some a ∧ s.authCheck a 0x0D (Config.argBytes 0x0D (leBytes 1 slot ++ key)) = 0) :
    ∃ u, (u = s ∨ ∃ a, u = s.authTake a 0) ∧ s.svEnroll slot key r 0 = ((u.svEnrolledAt slot key).otpLogged 9, Sv.ok, []) := by
  have hfits : ¬ (slot = 0 ∨ 4 < slot ∨ key.length ≠ 1312) := by omega
  have hopen : ¬ (s.sv.hash.get slot ≠ [] ∨ bitOf s.sv.revoked (slot - 1) = true) := by simp [hfree, hrev]
  by_cases hnone : s.svEnrolled = 0
  · exact ⟨s, .inl rfl, (if_neg hfits).trans ((if_neg hopen).trans (if_pos hnone))⟩
  · obtain ⟨a, rfl, hcheck⟩ := hauth.resolve_left hnone
    refine ⟨s.authTake a 0, .inr ⟨a, rfl⟩, ?_⟩
    unfold State.svEnroll
    dsimp only
    rw [if_neg hfits, if_neg hopen, if_neg hnone, State.withAuth_taken (may := fun _ => true) hcheck rfl]
    simp only [State.otpLogged, State.svEnrolledAt]

end

/-- What stands of Svauth's state after a command that changed fuses. -/
theorem State.otpLogged_facts (u : State) (ch ty : Nat) :
    ((u.otpLogged ty).svServed ch 0 []).sv.hash = u.sv.hash ∧ ((u.otpLogged ty).svServed ch 0 []).sv.key = u.sv.key ∧
    ((u.otpLogged ty).svServed ch 0 []).sv.revoked = u.sv.revoked ∧ ((u.otpLogged ty).svServed ch 0 []).sv.strict = u.sv.strict ∧
    ((u.otpLogged ty).svServed ch 0 []).sv.replay = u.sv.replay ∧
    ((u.otpLogged ty).svServed ch 0 []).sv.pm.get 4 = sha3 (u.pmOf 4 ++ u.svShow.drawBytes 32) ∧
    ((u.otpLogged ty).svServed ch 0 []).get F.SV_INFO_APP_STRICT = b2n u.sv.strict := by
  have hsv := u.otpLogged_sv ty
  have hframe : Keeps [] [.mem, .draws, .sv] u.svShow (u.otpLogged ty) := .beside' (.after (u.svShow.measure_frame ..) (.refl _ _ _))
  have hshown : (u.otpLogged ty).get F.SV_INFO_APP_STRICT = u.svShow.get F.SV_INFO_APP_STRICT := hframe.get_eq _ (by simp)
  have hstrict : u.svShow.get F.SV_INFO_APP_STRICT = b2n u.sv.strict := by cases h : u.sv.strict <;> simp [State.svShow, h, b2n]
  generalize u.otpLogged ty = v at hsv hshown ⊢
  have hserve : (v.svServed ch 0 []).sv = { v.sv with chan := (v.svServed ch 0 []).sv.chan, queue := (v.svServed ch 0 []).sv.queue } := rfl
  have hget : (v.svServed ch 0 []).get F.SV_INFO_APP_STRICT = v.get F.SV_INFO_APP_STRICT := rfl
  rw [hserve, hsv, hget, hshown, hstrict]
  exact ⟨rfl, rfl, rfl, rfl, rfl, SMap.get_set_same _ _ _, rfl⟩

/-- A command that changed fuses is served. -/
theorem State.svServe_logs {s X : State} {ch op ty : Nat} {k : State → SvRes} (h : s.svTurn ch op = true) (hbar : s.svBar ch op = none)
    (hk : k s.svKeep = (X.otpLogged ty, Sv.ok, [])) : s.svServe ch op k = (X.otpLogged ty).svServed ch 0 [] := by
  rw [State.svServe_runs h hbar, hk]

section
variable {s : State} {q : Fin 2} {pm slot op : Nat} {d key rcd auth args : List Byte}

/-- A pair extends a measurement that is its own (R578). -/
theorem State.svExtend_measures (h : s.svTurn q 4 = true) (hbar : s.svBar q 4 = none) (hd : d.length = 32) (h5 : 5 ≤ pm) (h7 : pm ≤ 7)
    (hpair : pm = 7 ↔ q = 1) :
    ∃ t, exec (.svExtend q pm d 0) s = .next t ∧ t.sv.pm.get pm = sha3 (s.pmOf pm ++ d) ∧ (∀ i, i ≠ pm → t.sv.pm.get i = s.sv.pm.get i) ∧
      Logged 8 pm d s t ∧ Served q 0 [] s t ∧ Keeps [] [.mem, .sv] s t := by
  have hrun := State.svServe_runs (k := fun s => s.svExtend q pm d 0) h hbar
  have hext : s.svKeep.svExtend q pm d 0 = (s.svKeep.measure 8 pm d 0, Sv.ok, []) := by
    have hpair' : (pm = 7) = ((q : Nat) = 1) := by rw [hpair, Fin.ext_iff]; rfl
    unfold State.svExtend
    rw [if_neg (by omega), if_pos hpair']
  have hexec : exec (.svExtend q pm d 0) s = .next ((s.svKeep.measure 8 pm d 0).svServed q 0 []) := by
    rw [hext] at hrun
    rw [← hrun]
    rfl
  obtain ⟨hpm, hother, hlog, hserved, hframe⟩ := s.measure_served q 8 pm d
  exact ⟨_, hexec, hpm, hother, hlog, hserved, hframe⟩

/-- A record of authorisation is checked: it advances its signer's counter, or sets its sticky flag (R586, R587). -/
theorem State.svVerify_takes (h : s.svTurn q 7 = true) (hbar : s.svBar q 7 = none) :
    ∃ t, exec (.svVerifyAuth q rcd op args) s = .next t ∧ Served q (s.authCheck rcd op args) [] s t ∧
      (s.authCheck rcd op args = 0 → t.sv.replay.get (bU rcd 6 2) = bU rcd 8 8 ∧ (∀ n, n ≠ bU rcd 6 2 → t.sv.replay.get n = s.sv.replay.get n) ∧
        Keeps [] [.sv] s t) ∧
      (s.authCheck rcd op args = 4 → t.get F.SV_STICKY_REPLAY = 1 ∧ t.sv.replay = s.sv.replay ∧ Keeps [F.SV_STICKY_REPLAY] [.sv] s t) ∧
      (s.authCheck rcd op args = 3 → t.get F.SV_STICKY_AUTH_FAIL = 1 ∧ t.sv.replay = s.sv.replay ∧
        Keeps [F.SV_STICKY_AUTH_FAIL] [.sv] s t) := by
  have hrun := State.svServe_runs (k := fun s => s.svVerify rcd op args) h hbar
  have hcheck : s.svKeep.authCheck rcd op args = s.authCheck rcd op args := rfl
  have hverify : s.svKeep.svVerify rcd op args = (s.svKeep.authTake rcd (s.authCheck rcd op args), s.authCheck rcd op args, []) := rfl
  rw [hverify] at hrun
  refine ⟨_, congrArg Host.Outcome.next hrun, ?_, fun h0 => ?_, fun h4 => ?_, fun h3 => ?_⟩
  · obtain h0 | h3 | h4 := s.authCheck_cases rcd op args
    · rw [h0]
      exact State.svServed_served rfl rfl
    · rw [h3]
      exact State.svServed_served rfl rfl
    · rw [h4]
      exact State.svServed_served rfl rfl
  · rw [h0, State.authTake_zero]
    exact ⟨SMap.get_set_same _ _ _, fun n hn => SMap.get_set_ne _ _ _ _ hn, .beside' (.beside' (.after s.svKeep_frame (.refl _ _ s)))⟩
  · rw [h4]
    exact ⟨(State.get_put_same _ _ _ (by simp)).trans rfl, rfl, .beside' (.set1' (.after s.svKeep_frame (.refl _ _ s)))⟩
  · rw [h3]
    exact ⟨(State.get_put_same _ _ _ (by simp)).trans rfl, rfl, .beside' (.set1' (.after s.svKeep_frame (.refl _ _ s)))⟩

/-- An owner is enrolled: the key and its digest are stored and measured into PM4 (R571, R585). -/
theorem State.svEnroll_stores {auth : Option (List Byte)} (h : s.svTurn q 13 = true) (hbar : s.svBar q 13 = none) (h1 : 1 ≤ slot) (h4 : slot ≤ 4)
    (hkey : key.length = 1312) (hfree : s.sv.hash.get slot = []) (hrev : bitOf s.sv.revoked (slot - 1) = false)
    (hauth : s.svEnrolled = 0 ∨ ∃ r, auth = some r ∧ s.authCheck r 0x0D (Config.argBytes 0x0D (leBytes 1 slot ++ key)) = 0) :
    ∃ t d, exec (.svOwnerEnroll q slot key auth 0) s = .next t ∧ t.sv.hash.get slot = sha3 key ∧ t.sv.key.get slot = key ∧
      (∀ n, n ≠ slot → t.sv.hash.get n = s.sv.hash.get n ∧ t.sv.key.get n = s.sv.key.get n) ∧
      t.sv.pm.get 4 = sha3 (s.pmOf 4 ++ d) ∧ Logged 9 4 d s t ∧ Served q 0 [] s t ∧ Keeps otpFlds [.mem, .draws, .sv] s t := by
  obtain ⟨u, hu, hdone⟩ := State.svEnroll_done (s := s.svKeep) h1 h4 hkey hfree hrev hauth
  have hexec : exec (.svOwnerEnroll q slot key auth 0) s = .next (((u.svEnrolledAt slot key).otpLogged 9).svServed q 0 []) :=
    congrArg Host.Outcome.next (State.svServe_logs (k := fun s => s.svEnroll slot key auth 0) h hbar hdone)
  have hlogged : Logged 9 4 ((u.svEnrolledAt slot key).svShow.drawBytes 32) s (((u.svEnrolledAt slot key).otpLogged 9).svServed q 0 []) ∧
      Served q 0 [] s (((u.svEnrolledAt slot key).otpLogged 9).svServed q 0 []) ∧
      Keeps otpFlds [.mem, .draws, .sv] s (((u.svEnrolledAt slot key).otpLogged 9).svServed q 0 []) := by
    obtain rfl | ⟨a, rfl⟩ := hu
    · exact State.otpLogged_served (.modSv' (.modSv' (.refl _ _ s))) rfl rfl rfl rfl rfl
    · rw [State.authTake_zero]
      exact State.otpLogged_served (.modSv' (.modSv' (.modSv' (.refl _ _ s)))) rfl rfl rfl rfl rfl
  have hsame : u.sv.hash = s.sv.hash ∧ u.sv.key = s.sv.key ∧ u.pmOf 4 = s.pmOf 4 := by
    obtain rfl | ⟨a, rfl⟩ := hu
    · exact ⟨rfl, rfl, rfl⟩
    · rw [State.authTake_zero]
      exact ⟨rfl, rfl, rfl⟩
  obtain ⟨hhash, hkeys, hpm⟩ := hsame
  obtain ⟨hthash, htkey, -, -, -, htpm, -⟩ := (u.svEnrolledAt slot key).otpLogged_facts q 9
  obtain ⟨hlog, hserved, hframe⟩ := hlogged
  refine ⟨_, _, hexec, ?_, ?_, fun n hn => ⟨?_, ?_⟩, htpm.trans (by rw [← hpm]; rfl), hlog, hserved, hframe⟩
  · rw [hthash]
    exact SMap.get_set_same _ _ _
  · rw [htkey]
    exact SMap.get_set_same _ _ _
  · rw [hthash, ← hhash]
    exact SMap.get_set_ne _ _ _ _ hn
  · rw [htkey, ← hkeys]
    exact SMap.get_set_ne _ _ _ _ hn

/-- An owner is revoked by another signer (R572, R585). -/
theorem State.svRevoke_logs (h : s.svTurn q 14 = true) (hbar : s.svBar q 14 = none) (h1 : 1 ≤ slot) (h4 : slot ≤ 4)
    (hcheck : s.authCheck auth 0x0E (Config.argBytes 0x0E (leBytes 1 slot)) = 0) (hother : bU auth 6 2 ≠ slot) :
    ∃ t d, exec (.svOwnerRevoke q slot auth 0) s = .next t ∧ t.sv.revoked = s.sv.revoked ||| 2 ^ (slot - 1) ∧
      t.sv.replay.get (bU auth 6 2) = bU auth 8 8 ∧ t.sv.pm.get 4 = sha3 (s.pmOf 4 ++ d) ∧ Logged 9 4 d s t ∧ Served q 0 [] s t ∧
      Keeps otpFlds [.mem, .draws, .sv] s t := by
  have hdone : s.svKeep.svRevoke slot auth 0 = (((s.svKeep.authTake auth 0).svRevokedAt slot).otpLogged 9, Sv.ok, []) := by
    rw [State.svRevoke, if_neg (by omega)]
    exact State.withAuth_taken hcheck (by simpa using hother)
  have hexec : exec (.svOwnerRevoke q slot auth 0) s = .next ((((s.svKeep.authTake auth 0).svRevokedAt slot).otpLogged 9).svServed q 0 []) :=
    congrArg Host.Outcome.next (State.svServe_logs (k := fun s => s.svRevoke slot auth 0) h hbar hdone)
  rw [State.authTake_zero] at hexec
  obtain ⟨hlog, hserved, hframe⟩ := State.otpLogged_served (ty := 9) (ch := q) (s := s)
    (u := (s.svKeep.modSv fun v => { v with replay := v.replay.set (bU auth 6 2) (bU auth 8 8) }).svRevokedAt slot)
    (.modSv' (.modSv' (.modSv' (.refl _ _ s)))) rfl rfl rfl rfl rfl
  obtain ⟨-, -, hrevoked, -, hreplay, hpm, -⟩ :=
    ((s.svKeep.modSv fun v => { v with replay := v.replay.set (bU auth 6 2) (bU auth 8 8) }).svRevokedAt slot).otpLogged_facts q 9
  exact ⟨_, _, hexec, hrevoked, (congrArg (SMap.get · _) hreplay).trans (SMap.get_set_same _ _ _), hpm, hlog, hserved, hframe⟩

/-- An owner makes the APP policy strict (R585). -/
theorem State.svStrict_logs (h : s.svTurn q 15 = true) (hbar : s.svBar q 15 = none)
    (hcheck : s.authCheck auth 0x0F (Config.argBytes 0x0F []) = 0) (hother : bU auth 6 2 ≠ 0) :
    ∃ t d, exec (.svSetAppStrict q auth 0) s = .next t ∧ t.sv.strict = true ∧ t.get F.SV_INFO_APP_STRICT = 1 ∧
      Logged 0x0B 4 d s t ∧ Served q 0 [] s t ∧ Keeps otpFlds [.mem, .draws, .sv] s t := by
  have hdone : s.svKeep.svStrict auth 0 = ((s.svKeep.authTake auth 0).svStrictOn.otpLogged 0x0B, Sv.ok, []) :=
    State.withAuth_taken hcheck (by simpa using hother)
  have hexec : exec (.svSetAppStrict q auth 0) s = .next (((s.svKeep.authTake auth 0).svStrictOn.otpLogged 0x0B).svServed q 0 []) :=
    congrArg Host.Outcome.next (State.svServe_logs (k := fun s => s.svStrict auth 0) h hbar hdone)
  rw [State.authTake_zero] at hexec
  obtain ⟨hlog, hserved, hframe⟩ := State.otpLogged_served (ty := 0x0B) (ch := q) (s := s)
    (u := (s.svKeep.modSv fun v => { v with replay := v.replay.set (bU auth 6 2) (bU auth 8 8) }).svStrictOn)
    (.modSv' (.modSv' (.modSv' (.refl _ _ s)))) rfl rfl rfl rfl rfl
  obtain ⟨-, -, -, hstrict, -, -, hshown⟩ :=
    (s.svKeep.modSv fun v => { v with replay := v.replay.set (bU auth 6 2) (bU auth 8 8) }).svStrictOn.otpLogged_facts q 0x0B
  exact ⟨_, _, hexec, hstrict, hshown, hlog, hserved, hframe⟩

end

/-- Settles O43: measurements are extended and logged, records of authorisation are taken, and owners are enrolled and revoked. -/
theorem measurementsAndOwners : Obligations.MeasurementsAndOwners := by
  intro s q
  refine ⟨fun _ _ h hbar hd h5 h7 hpair => State.svExtend_measures h hbar hd h5 h7 hpair,
    fun pm d bad h hbar hd h5 h7 hpair => ?_, fun _ _ _ h hbar => State.svVerify_takes h hbar,
    fun _ _ _ h hbar h1 h4 hkey hfree hrev hauth => State.svEnroll_stores h hbar h1 h4 hkey hfree hrev hauth,
    fun slot key auth bad h hbar h1 h4 hkey hused => ?_,
    fun slot auth h hbar h1 h4 hcheck => ⟨fun hother => State.svRevoke_logs h hbar h1 h4 hcheck hother, fun hown => ?_⟩,
    fun auth h hbar hcheck => ⟨fun hother => State.svStrict_logs h hbar hcheck hother, fun hown => ?_⟩⟩
  · have hext : s.svKeep.svExtend q pm d bad = (s.svKeep, Sv.initiator, []) := by
      have hpair' : ¬ (pm = 7) = ((q : Nat) = 1) := by rw [eq_iff_iff]; simpa [Fin.ext_iff] using hpair
      unfold State.svExtend
      rw [if_neg (by omega), if_neg hpair']
    obtain ⟨hserved, hframe⟩ := State.svServe_answers (k := fun s => s.svExtend q pm d bad) h hbar hext
    exact ⟨_, rfl, hserved, hframe⟩
  · have hrefused : s.svKeep.svEnroll slot key auth bad = (s.svKeep, Sv.state, []) := by
      have hfits : ¬ (slot = 0 ∨ 4 < slot ∨ key.length ≠ 1312) := by omega
      exact (if_neg hfits).trans (if_pos hused)
    obtain ⟨hserved, hframe⟩ := State.svServe_answers (k := fun s => s.svEnroll slot key auth bad) h hbar hrefused
    exact ⟨_, rfl, hserved, hframe⟩
  · have hpolicy : s.svKeep.svRevoke slot auth 0 = (s.svKeep, Sv.policy, []) := by
      rw [State.svRevoke, if_neg (by omega)]
      exact State.withAuth_policy hcheck (by simp [hown])
    obtain ⟨hserved, hframe⟩ := State.svServe_answers (k := fun s => s.svRevoke slot auth 0) h hbar hpolicy
    exact ⟨_, rfl, hserved, hframe⟩
  · have hpolicy : s.svKeep.svStrict auth 0 = (s.svKeep, Sv.policy, []) := State.withAuth_policy hcheck (by simp [hown])
    obtain ⟨hserved, hframe⟩ := State.svServe_answers (k := fun s => s.svStrict auth 0) h hbar hpolicy
    exact ⟨_, rfl, hserved, hframe⟩

end Sys2Proof.Machine
end

section
/-!
Proofs about staging, verification, selection and confirmation (chapters 01 and 18).
The proofs are elaborated in turn: in one text, proofs that wait for each other would each hold a thread.
-/

set_option Elab.async false

namespace Sys2Proof.Machine

/-! ### The fields of a kind's slot (R45 to R50) -/

theorem State.maintEnd_keeps (s : State) (c : ℕ) (r : MaintResult) :
    Keeps [F.DIAG_MAINT_RESULT_RESULT c, { addr := R.DIAG_MAINT_DONE, lo := c, len := 1 }, { addr := R.DIAG_MAINT_RUN, lo := c, len := 1 }] [] s (s.maintEnd c r) :=
  .ite' (.put' (.put' (.put' (.refl _ _ _)))) (.refl _ _ _)

section
variable (k sl : Nat)

theorem busyF_fits : (busyF k).lo + (busyF k).len ≤ 32 ∧ (busyF k).len = 1 := by
  unfold busyF
  split <;> decide

theorem validF_fits : (validF k sl).lo + (validF k sl).len ≤ 32 ∧ (validF k sl).len = 1 := by
  unfold validF
  split_ifs <;> decide

theorem selF_fits : (selF k).lo + (selF k).len ≤ 32 ∧ (selF k).len = 1 := by
  unfold selF
  split <;> decide

theorem errF_fits : (errF k).lo + (errF k).len ≤ 32 ∧ (errF k).len = 8 := by
  unfold errF
  split_ifs <;> decide

theorem busyF_apart_validF : (busyF k).apart (validF k sl) = true ∧ (validF k sl).apart (busyF k) = true := by
  unfold busyF validF
  split_ifs <;> decide

theorem busyF_apart_selF : (busyF k).apart (selF k) = true := by
  unfold busyF selF
  split_ifs <;> decide

theorem selF_apart_validF : (selF k).apart (validF k sl) = true ∧ (validF k sl).apart (selF k) = true := by
  unfold selF validF
  split_ifs <;> decide

theorem errF_apart_busyF : (errF k).apart (busyF k) = true := by
  unfold errF busyF
  split_ifs <;> decide

theorem stageFlds_apart_run : (busyF k).apart (whole R.DIAG_MAINT_RUN) = true ∧
    (if k = 2 then errF 2 else validF k sl).apart (whole R.DIAG_MAINT_RUN) = true ∧ (errF k).apart (whole R.DIAG_MAINT_RUN) = true := by
  unfold busyF validF errF
  split_ifs <;> decide

theorem busyF_apart_state : (busyF k).apart F.SV_BOOT_APP_STATE = true := by
  unfold busyF
  split <;> decide

end

theorem State.get_set1_fld (s : State) {f : Fld} {v : Nat} (h : f.lo + f.len ≤ 32 ∧ f.len = 1) (hv : v < 2) : (s.put f v).get f = v := by
  rw [State.get_put_same _ _ _ h.1, h.2]
  exact Nat.mod_eq_of_lt hv

theorem State.activeSlot_put (s : State) {f : Fld} (v k : Nat) (h1 : f.apart F.SV_BOOT_ACTIVE_FW = true) (h2 : f.apart F.SYS_IMG_STATUS_ACTIVE = true) :
    (s.put f v).activeSlot k = s.activeSlot k := by
  simp only [State.activeSlot, State.get_put_other _ _ _ _ h1, State.get_put_other _ _ _ _ h2]

theorem validF_apart_active (k sl : Nat) : (validF k sl).apart F.SV_BOOT_ACTIVE_FW = true ∧ (validF k sl).apart F.SYS_IMG_STATUS_ACTIVE = true := by
  unfold validF
  split_ifs <;> decide

/-! ### Requests of staging (R46, R457, R458) -/

theorem State.maintBefore_none {s : State} {t c : Nat} (h : s.maintAhead t c = []) : s.maintBefore t c = s := by
  rw [State.maintBefore, h]
  rfl

theorem State.maintRefusal_small {s : State} {r : Requester} {c why blk : Nat} (h : s.maintRefusal r c = some (why, blk)) : why < 256 := by
  unfold State.maintRefusal at h
  split_ifs at h
  · cases h; decide
  · cases h; decide
  · cases h; decide
  · cases h; decide
  · split at h
    · cases h; decide
    · cases h
  · split at h <;> cases h <;> decide

/-- What an outcome of a request writes into DIAG_MAINT_LAST. -/
def State.maintNoted (s : State) (c res why blk : Nat) : State :=
  (((s.put F.DIAG_MAINT_LAST_CODE c).put F.DIAG_MAINT_LAST_RESULT res).put F.DIAG_MAINT_LAST_REASON why).put F.DIAG_MAINT_LAST_BLOCKER blk

theorem State.maintNoted_frame (s : State) (c res why blk : Nat) : Keeps [whole R.DIAG_MAINT_LAST] [] s (s.maintNoted c res why blk) := by
  have hfields : Keeps [F.DIAG_MAINT_LAST_CODE, F.DIAG_MAINT_LAST_RESULT, F.DIAG_MAINT_LAST_REASON, F.DIAG_MAINT_LAST_BLOCKER] [] s
    (s.maintNoted c res why blk) := .put' (.put' (.put' (.put' (.refl _ _ s))))
  exact hfields.toWhole (by simp)

section
variable {s : State} {r : Requester}

theorem State.maintRequest_staged (h : s.maintRefusal r 10 = none) : s.maintRequest r 10 = (s.maintNoted 10 1 0 0).maintStart 10 := by
  rw [State.maintRequest, h]
  rfl

theorem State.maintRequest_refused {why blk : Nat} (h : s.maintRefusal r 10 = some (why, blk)) :
    s.maintRequest r 10 = (s.maintNoted 10 2 why blk).put ⟨R.DIAG_MAINT_REFUSED, 10, 1⟩ 1 := by
  rw [State.maintRequest, h]
  rfl

end

/-! ### Verification of a slot (R47, R582) -/

theorem State.slotCheck_keep (s : State) (k sl : Nat) : s.svKeep.slotCheck k sl = s.slotCheck k sl := by
  have himg : s.svKeep.imgBytes sl = s.imgBytes sl := by
    unfold State.imgBytes
    rw [State.rdBytes_congr (s := s) (t := s.svKeep) rfl, State.rdBytes_congr (s := s) (t := s.svKeep) rfl]
  have hpkg : s.svKeep.pkgBytes k sl = s.pkgBytes k sl := by
    unfold State.pkgBytes
    rw [State.rdBytes_congr (s := s) (t := s.svKeep) rfl, State.rdBytes_congr (s := s) (t := s.svKeep) rfl]
  have hcheck (b : List Byte) : s.svKeep.imgCheck b = s.imgCheck b := rfl
  have hpcheck (b : List Byte) : s.svKeep.pkgCheck k b = s.pkgCheck k b := rfl
  rw [State.slotCheck, State.slotCheck, himg, hpkg, hcheck, hpcheck]

theorem ite_lt {p : Prop} [Decidable p] {a b n : Nat} (ha : a < n) (hb : b < n) : (if p then a else b) < n := by
  split
  · exact ha
  · exact hb

theorem State.slotCheck_small (s : State) (k sl : Nat) : s.slotCheck k sl < 256 := by
  have himg (b : List Byte) : s.imgCheck b < 256 :=
    ite_lt (by decide) (ite_lt (by decide) (ite_lt (by decide) (ite_lt (by decide) (ite_lt (by decide) (ite_lt (by decide) (ite_lt (by decide) (ite_lt (by decide) (ite_lt (by decide) (ite_lt (by decide) (ite_lt (by decide) (ite_lt (by decide) (by decide))))))))))))
  have hpkg (b : List Byte) : s.pkgCheck k b < 256 :=
    ite_lt (by decide) (ite_lt (by decide) (ite_lt (by decide) (ite_lt (by decide) (ite_lt (by decide) (ite_lt (by decide) (ite_lt (by decide) (ite_lt (by decide) (ite_lt (by decide) (ite_lt (by decide) (by decide))))))))))
  exact ite_lt (himg _) (hpkg _)

/-- The state in which a slot's verification has ended with a code. -/
def State.verified (s : State) (g : Staging) (c : Nat) : State :=
  let u := (s.put (busyF g.kind) 0).modSv fun v => { v with stage := none }
  if c = 0 then (if g.kind = 2 then u else u.put (validF g.kind g.slot) 1) else (u.put (errF g.kind) c).drew

theorem State.stageVerify_eq {s : State} {g : Staging} (h : s.sv.stage = some g) :
    s.stageVerify = (s.verified g (s.slotCheck g.kind g.slot), if s.slotCheck g.kind g.slot = 0 then 0 else s.drawn % 9 + 1,
      [BitVec.ofNat 8 (s.slotCheck g.kind g.slot)]) := by
  have hclose : s.stageClose = (s.put (busyF g.kind) 0).modSv fun v => { v with stage := none } := by simp only [State.stageClose, h]
  have hdrawn (f : Fld) (c : Nat) : (((s.put (busyF g.kind) 0).modSv fun v => { v with stage := none }).put f c).drawn = s.drawn := by
    simp [State.drawn, State.modSv]
  unfold State.stageVerify State.verified
  rw [h]
  dsimp only
  rw [hclose]
  generalize s.slotCheck g.kind g.slot = c
  by_cases hc : c = 0
  · simp only [hc, if_true]
    rfl
  · simp only [hc, if_false, hdrawn]
    rfl

section
variable (s : State) (g : Staging) {c : Nat} (hc : c < 256)

theorem State.verified_sv : (s.verified g c).sv = { s.sv with stage := none } := by
  unfold State.verified
  dsimp only
  split_ifs <;> simp [State.modSv, State.drew]

theorem State.verified_mem : (s.verified g c).mem = s.mem := by
  unfold State.verified
  dsimp only
  split_ifs <;> simp [State.modSv, State.drew]

theorem State.verified_busy : (s.verified g c).get (busyF g.kind) = 0 := by
  have hput : ((s.put (busyF g.kind) 0).modSv fun v => { v with stage := none }).get (busyF g.kind) = 0 :=
    s.get_set1_fld (busyF_fits _) (by decide)
  unfold State.verified
  dsimp only
  split_ifs
  · exact hput
  · exact (State.get_put_other _ _ _ _ (busyF_apart_validF _ _).2).trans hput
  · exact (State.get_put_other _ _ _ _ (errF_apart_busyF _)).trans hput

theorem State.verified_valid (hk : g.kind ≠ 2) : (s.verified g 0).get (validF g.kind g.slot) = 1 := by
  rw [State.verified, if_pos rfl, if_neg hk]
  exact State.get_set1_fld _ (validF_fits _ _) (by decide)

include hc in
theorem State.verified_err (h : c ≠ 0) : (s.verified g c).get (errF g.kind) = c := by
  have hfits := errF_fits g.kind
  rw [State.verified, if_neg h]
  refine (State.get_put_same _ _ _ hfits.1).trans ?_
  rw [hfits.2]
  exact Nat.mod_eq_of_lt hc

theorem State.verified_frame : Keeps [busyF g.kind, if c = 0 then validF g.kind g.slot else errF g.kind] [.draws, .sv] s (s.verified g c) := by
  unfold State.verified
  dsimp only
  split_ifs with h
  · exact .beside' (.put' (.refl _ _ s))
  · exact .put' (.beside' (.put' (.refl _ _ s)))
  · exact .beside' (.put' (.beside' (.put' (.refl _ _ s))))

end

/-! ### The write of a staged part (R46, R458) -/

theorem slotBase_low {k sl n : Nat} (hn : n ≤ slotSize k) : slotBase k sl + n ≤ 0x20000000 := by
  unfold slotSize imgSlotSize at hn
  unfold slotBase imgBase
  split_ifs at hn ⊢ <;> omega

theorem State.svServe_gives {s u : State} {ch op r : Nat} {rsp : List Byte} {k : State → SvRes} (h : s.svTurn ch op = true) (hbar : s.svBar ch op = none)
    (hk : k s.svKeep = (u, r, rsp)) (hchan : u.sv.chan = s.sv.chan) (hqueue : u.sv.queue = s.sv.queue) :
    s.svServe ch op k = u.svServed ch r rsp ∧ Served ch r rsp s (u.svServed ch r rsp) := by
  rw [State.svServe_runs h hbar, hk]
  exact ⟨rfl, State.svServed_served hchan hqueue⟩

/-- The valid bit of a slot that is staged falls, and the APP of one that is staged is absent (R45, R50). -/
def State.stageCleared (s : State) (kind slot : Nat) : State := if kind = 2 then s.put F.SV_BOOT_APP_STATE 0 else s.put (validF kind slot) 0

/-- A slot that was selected for the next reset is so no more (R50). -/
def State.stageDeselected (s : State) (kind slot : Nat) : State :=
  if kind ≠ 2 ∧ s.get (selF kind) = slot then s.put (selF kind) (s.activeSlot kind) else s

/-- A staging session opens. -/
def State.stageOpened (s : State) (kind slot : Nat) : State :=
  (((s.stageCleared kind slot).stageDeselected kind slot).put (busyF kind) 1).modSv fun v =>
    { v with stage := some { kind := kind, slot := slot, written := 0, write := none, ending := false } }

section
variable (s : State) {kind slot : Nat}

theorem State.stageBegin_opens (hk : kind < 3) (hs : slot < 2) (hnone : s.sv.stage = none) (hnot : kind = 2 ∨ slot ≠ s.activeSlot kind)
    (hahead : s.maintAhead s.epoch 10 = []) (hask : s.maintRefusal .staging 10 = none) :
    s.stageBegin kind slot = (s.stageOpened kind slot, Sv.ok, []) := by
  have hfits : ¬ (3 ≤ kind ∨ 2 ≤ slot) := by omega
  have hfree : ¬ s.sv.stage.isSome = true := by simp [hnone]
  have hactive : ¬ (kind ≠ 2 ∧ slot = s.activeSlot kind) := fun ⟨h2, ha⟩ => hnot.elim h2 (absurd ha)
  have hgrant : ¬ ((s.maintBefore s.epoch 10).maintRefusal .staging 10).isSome = true := by simp [State.maintBefore_none hahead, hask]
  exact (if_neg hfits).trans ((if_neg hfree).trans ((if_neg hactive).trans (if_neg hgrant)))

variable (kind slot)

theorem State.stageCleared_frame :
    Keeps [if kind = 2 then F.SV_BOOT_APP_STATE else validF kind slot] [] s (s.stageCleared kind slot) := by
  unfold State.stageCleared
  split
  · exact .put' (.refl _ _ s)
  · exact .put' (.refl _ _ s)

theorem State.stageDeselected_frame : Keeps [selF kind] [] s (s.stageDeselected kind slot) := .ite' (.put' (.refl _ _ s)) (.refl _ _ s)

theorem State.stageOpened_sv : (s.stageOpened kind slot).sv =
    { s.sv with stage := some { kind := kind, slot := slot, written := 0, write := none, ending := false } } := by
  have hsv : ((s.stageCleared kind slot).stageDeselected kind slot).sv = s.sv :=
    ((State.stageDeselected_frame ..).2 .sv (by decide)).trans ((State.stageCleared_frame ..).2 .sv (by decide))
  exact congrArg (fun v => ({ v with stage := some { kind := kind, slot := slot, written := 0, write := none, ending := false } } : SvState)) hsv

theorem State.stageOpened_busy : (s.stageOpened kind slot).get (busyF kind) = 1 := State.get_set1_fld _ (busyF_fits _) (by decide)

theorem State.stageOpened_frame :
    Keeps [busyF kind, if kind = 2 then F.SV_BOOT_APP_STATE else validF kind slot, selF kind] [.sv] s (s.stageOpened kind slot) :=
  .beside' (.put' (.after (State.stageDeselected_frame ..) (.after (State.stageCleared_frame ..) (.refl _ _ s))))

theorem State.stageOpened_app : (s.stageOpened 2 slot).get F.SV_BOOT_APP_STATE = 0 :=
  (State.get_put_other _ _ _ _ (busyF_apart_state 2)).trans ((State.get_put_same _ _ _ (by decide)).trans rfl)

variable {kind}

theorem State.stageOpened_valid (h : kind ≠ 2) : (s.stageOpened kind slot).get (validF kind slot) = 0 := by
  have hcleared : (s.stageCleared kind slot).get (validF kind slot) = 0 := by
    rw [State.stageCleared, if_neg h]
    exact State.get_set1_fld _ (validF_fits _ _) (by decide)
  exact (State.get_put_other _ _ _ _ (busyF_apart_validF _ _).1).trans
    (((State.stageDeselected_frame ..).get_eq _ (by simp [(selF_apart_validF kind slot).1])).trans hcleared)

theorem State.stageOpened_sel (h : kind ≠ 2) (hsel : s.get (selF kind) = slot) (hact : s.activeSlot kind < 2) :
    (s.stageOpened kind slot).get (selF kind) = s.activeSlot kind := by
  have hcleared : s.stageCleared kind slot = s.put (validF kind slot) 0 := if_neg h
  have hkept : (s.put (validF kind slot) 0).get (selF kind) = slot := (State.get_put_other _ _ _ _ (selF_apart_validF _ _).2).trans hsel
  have hslot : (s.put (validF kind slot) 0).activeSlot kind = s.activeSlot kind :=
    s.activeSlot_put _ _ (validF_apart_active _ _).1 (validF_apart_active _ _).2
  refine (State.get_put_other _ _ _ _ (busyF_apart_selF kind)).trans ?_
  rw [hcleared, State.stageDeselected, if_pos ⟨h, hkept⟩, hslot]
  exact State.get_set1_fld _ (selF_fits kind) hact

end

/-! ### Parts of a package (R46, R582) -/

theorem State.maintRuns_get (s : State) (c : Nat) : s.maintRuns c = (s.get ⟨R.DIAG_MAINT_RUN, c, 1⟩ == 1) := bitOf_eq_bitsOf _ _

theorem State.svServed_get (s : State) (ch r : Nat) (rsp : List Byte) (f : Fld) : (s.svServed ch r rsp).get f = s.get f := rfl

theorem State.svServed_runs (s : State) (ch r : Nat) (rsp : List Byte) (c : Nat) : (s.svServed ch r rsp).maintRuns c = s.maintRuns c := rfl

theorem State.modSv_runs (s : State) (f : SvState → SvState) (c : Nat) : (s.modSv f).maintRuns c = s.maintRuns c := rfl

theorem State.maintStart_runs (s : State) : (s.maintStart 10).maintRuns Act.mramProgram = true := by
  rw [State.maintRuns_get]
  simp [State.maintStart, State.incSat]

theorem State.refusedNoted_facts (s : State) (c res why blk : Nat) (h : why < 256) :
    ((s.maintNoted c res why blk).put ⟨R.DIAG_MAINT_REFUSED, 10, 1⟩ 1).get F.DIAG_MAINT_LAST_REASON = why ∧
    ((s.maintNoted c res why blk).put ⟨R.DIAG_MAINT_REFUSED, 10, 1⟩ 1).flag ⟨R.DIAG_MAINT_REFUSED, 10, 1⟩ = true := by
  simpa [State.maintNoted] using h

section
variable {s : State} {g : Staging} {data : List Byte}

theorem State.stageData_grants (hg : s.sv.stage = some g) (hw : g.write = none) (he : g.ending = false)
    (hfit : g.written + data.length ≤ slotSize g.kind) (hahead : s.maintAhead s.epoch 10 = []) (hask : s.maintRefusal .staging 10 = none) :
    s.stageData g.written data = (((s.maintNoted 10 1 0 0).maintStart 10).modSv fun v => { v with stage := some { g with write := some (g.written, data) } },
      Sv.ok, []) := by
  have hbusy : ¬ (g.write.isSome || g.ending) = true := by simp [hw, he]
  have hfits : ¬ (g.written ≠ g.written ∨ slotSize g.kind < g.written + data.length) := by omega
  rw [State.stageData, hg]
  refine (if_neg hbusy).trans ((if_neg hfits).trans ?_)
  rw [State.maintBefore_none hahead]
  dsimp only
  rw [State.maintRequest_staged hask, hask]
  rfl

theorem State.stageData_refused {why blk : Nat} (hg : s.sv.stage = some g) (hw : g.write = none) (he : g.ending = false)
    (hfit : g.written + data.length ≤ slotSize g.kind) (hahead : s.maintAhead s.epoch 10 = []) (hask : s.maintRefusal .staging 10 = some (why, blk)) :
    s.stageData g.written data = ((s.maintNoted 10 2 why blk).put ⟨R.DIAG_MAINT_REFUSED, 10, 1⟩ 1, Sv.busy, []) := by
  have hbusy : ¬ (g.write.isSome || g.ending) = true := by simp [hw, he]
  have hfits : ¬ (g.written ≠ g.written ∨ slotSize g.kind < g.written + data.length) := by omega
  rw [State.stageData, hg]
  refine (if_neg hbusy).trans ((if_neg hfits).trans ?_)
  rw [State.maintBefore_none hahead]
  dsimp only
  rw [State.maintRequest_refused hask, hask]
  rfl

end

theorem State.maintEnd_frame (s : State) (c : Nat) (r : MaintResult) :
    Keeps [⟨R.DIAG_MAINT_RUN, c, 1⟩, ⟨R.DIAG_MAINT_DONE, c, 1⟩, F.DIAG_MAINT_RESULT_RESULT c] [] s (s.maintEnd c r) := (.after (State.maintEnd_keeps ..) (.refl _ _ _))

/-- The write of a part has ended (R46, R458). -/
def State.mramWritten (s : State) (g : Staging) (w : Nat × List Byte) : State :=
  ((s.wrBytes (slotBase g.kind g.slot + w.1) w.2).maintEnd Act.mramProgram .ok).modSv fun v =>
    { v with stage := some { g with written := g.written + w.2.length, write := none, ending := false } }

section
variable {s : State} {g : Staging} {w : Nat × List Byte}

theorem State.mramEnd_waits (hg : s.sv.stage = some g) (hw : g.write = some w) (he : g.ending = false) : s.mramEnd = s.mramWritten g w := by
  unfold State.mramEnd State.mramWritten
  rw [hg]
  dsimp only
  rw [hw]
  exact if_neg (by simp [he])

theorem State.mramEnd_verifies (hg : s.sv.stage = some g) (hw : g.write = some w) (he : g.ending = true) :
    s.mramEnd = if (s.mramWritten g w).svKeep.stageVerify.1.svTurn 0 10
      then (s.mramWritten g w).svKeep.stageVerify.1.svServed 0 (s.mramWritten g w).svKeep.stageVerify.2.1 (s.mramWritten g w).svKeep.stageVerify.2.2
      else (s.mramWritten g w).svKeep.stageVerify.1 := by
  unfold State.mramEnd State.mramWritten
  rw [hg]
  dsimp only
  rw [hw]
  exact if_pos he

theorem State.mramWritten_sv (s : State) (g : Staging) (w : Nat × List Byte) : (s.mramWritten g w).sv =
    { s.sv with stage := some { g with written := g.written + w.2.length, write := none, ending := false } } := by
  have hwr : Keeps [] [.mem] s (s.wrBytes (slotBase g.kind g.slot + w.1) w.2) := .wrBytes' (.refl _ _ s)
  have hend := (s.wrBytes (slotBase g.kind g.slot + w.1) w.2).maintEnd_outside Act.mramProgram .ok (by decide)
  have hsv := (hend.2 .sv (by decide)).trans (hwr.2 .sv (by decide))
  exact congrArg (fun v => ({ v with stage := some { g with written := g.written + w.2.length, write := none, ending := false } } : SvState)) hsv

theorem State.mramWritten_mem (s : State) (g : Staging) (w : Nat × List Byte) :
    (s.mramWritten g w).mem = (s.wrBytes (slotBase g.kind g.slot + w.1) w.2).mem := State.maintEnd_mem ..

theorem State.mramWritten_bytes (s : State) (hfit : w.1 + w.2.length ≤ slotSize g.kind) :
    (s.mramWritten g w).rdBytes (slotBase g.kind g.slot + w.1) w.2.length = w.2 ∧
    ∀ a, a < slotBase g.kind g.slot + w.1 ∨ slotBase g.kind g.slot + w.1 + w.2.length ≤ a → (s.mramWritten g w).rdB a = s.rdB a := by
  have hlow : slotBase g.kind g.slot + w.1 + w.2.length ≤ 0x20000000 := (Nat.add_assoc _ _ _).trans_le (slotBase_low hfit)
  refine ⟨?_, fun a ha => ?_⟩
  · rw [State.rdBytes_congr (s.mramWritten_mem g w)]
    exact s.rdBytes_wrBytes_low w.2 rfl hlow
  · rw [State.rdB_congr (s.mramWritten_mem g w)]
    exact s.rdB_wrBytes_apart_low w.2 rfl hlow ha

theorem State.mramWritten_runs (s : State) (h : s.maintRuns Act.mramProgram = true) : (s.mramWritten g w).maintRuns Act.mramProgram = false := by
  have hwr : Keeps [] [.mem] s (s.wrBytes (slotBase g.kind g.slot + w.1) w.2) := .wrBytes' (.refl _ _ s)
  have hruns : (s.wrBytes (slotBase g.kind g.slot + w.1) w.2).maintRuns Act.mramProgram = true := by
    rw [State.maintRuns, hwr.rd_eq _ (by simp)]
    exact h
  exact (State.maintEnd_ran (by decide) .ok hruns).1

theorem State.mramWritten_frame (s : State) (g : Staging) (w : Nat × List Byte) :
    Keeps [⟨R.DIAG_MAINT_RUN, 10, 1⟩, ⟨R.DIAG_MAINT_DONE, 10, 1⟩, F.DIAG_MAINT_RESULT_RESULT 10] [.mem, .sv] s (s.mramWritten g w) :=
  .beside' (.after (State.maintEnd_frame ..) (.wrBytes' (.refl _ _ s)))

end

/-- The frame of a verification at the end of a write. -/
theorem State.verified_frame_end (s : State) (g : Staging) (c : Nat) :
    Keeps [busyF g.kind, if g.kind = 2 then errF 2 else validF g.kind g.slot, errF g.kind] [.draws, .sv] s (s.verified g c) := by
  unfold State.verified
  dsimp only
  split_ifs with h
  · exact .beside' (.put' (.refl _ _ s))
  · exact .beside' (.put' (.beside' (.put' (.refl _ _ s))))
  · exact .put' (.beside' (.put' (.refl _ _ s)))
  · exact .beside' (.put' (.beside' (.put' (.refl _ _ s))))

theorem State.svTurn_congr {s t : State} (ch op : Nat) (hchan : t.sv.chan = s.sv.chan) (hqueue : t.sv.queue = s.sv.queue) :
    t.svTurn ch op = s.svTurn ch op := by
  simp only [State.svTurn, State.svFree, hchan, hqueue]

/-- The write of the last part has ended, and the verification that was asked for has run. -/
theorem State.mramEnd_verified {s : State} {g : Staging} {w : Nat × List Byte} (hg : s.sv.stage = some g) (hw : g.write = some w) (he : g.ending = true)
    (hturn : s.svTurn 0 10 = true) : ∃ c r, s.mramEnd =
      ((s.mramWritten g w).svKeep.verified { g with written := g.written + w.2.length, write := none, ending := false } c).svServed 0 r
        [BitVec.ofNat 8 c] := by
  have hsv := s.mramWritten_sv g w
  have hstage : (s.mramWritten g w).svKeep.sv.stage = some { g with written := g.written + w.2.length, write := none, ending := false } :=
    congrArg SvState.stage hsv
  have hverify := State.stageVerify_eq hstage
  have hvsv := (s.mramWritten g w).svKeep.verified_sv { g with written := g.written + w.2.length, write := none, ending := false }
    (c := (s.mramWritten g w).svKeep.slotCheck g.kind g.slot)
  have hturn' : (s.mramWritten g w).svKeep.stageVerify.1.svTurn 0 10 = true := by
    rw [hverify, State.svTurn_congr (s := s) 0 10 ?_ ?_]
    · exact hturn
    · have hchan : (s.mramWritten g w).svKeep.sv.chan = s.sv.chan := (congrArg SvState.chan hsv :)
      rw [hvsv]
      exact hchan
    · have hqueue : (s.mramWritten g w).svKeep.sv.queue = s.sv.queue := (congrArg SvState.queue hsv :)
      rw [hvsv]
      exact hqueue
  rw [State.mramEnd_verifies hg hw he, if_pos hturn', hverify]
  exact ⟨_, _, rfl⟩

/-! ### Selection and confirmation (R49, R51, R584) -/

/-- The anti-rollback value of a kind has risen, and the registers show it. -/
def State.confirmed (s : State) (f : SvState → SvState) : State :=
  ((((s.modSv f).svShow).logWrite 0x0A 0xFF ((s.modSv f).svShow.drawBytes 32) 0).drewN 32)

theorem State.confirmed_logged (s : State) (f : SvState → SvState) (hseq : (f s.sv).logSeq = s.sv.logSeq) (hslot : (f s.sv).logSlot = s.sv.logSlot) :
    Logged 0x0A 0xFF ((s.modSv f).svShow.drawBytes 32) s (s.confirmed f) ∧
    (s.confirmed f).sv = { f s.sv with logSeq := ((f s.sv).logSeq + 1) % 2 ^ 32, logSlot := ((f s.sv).logSlot + 1) % 16384 } ∧
    Keeps otpFlds [.mem, .draws, .sv] s (s.confirmed f) := by
  have hshow : (s.modSv f).svShow.sv = f s.sv := (s.modSv f).svShow_sv
  have hlog := (s.modSv f).svShow.logWrite_logged 0x0A 0xFF ((s.modSv f).svShow.drawBytes 32)
  have hframe := (s.modSv f).svShow.logWrite_frame 0x0A 0xFF ((s.modSv f).svShow.drawBytes 32)
  have hsv := (s.modSv f).svShow.logWrite_sv 0x0A 0xFF ((s.modSv f).svShow.drawBytes 32)
  rw [hshow] at hsv
  unfold State.confirmed
  generalize (s.modSv f).svShow.logWrite 0x0A 0xFF ((s.modSv f).svShow.drawBytes 32) 0 = u at hlog hframe hsv ⊢
  refine ⟨(hlog.drew 32).from ?_ ?_ ?_, hsv, .beside' (.after hframe (.after (State.svShow_frame _) (.beside' (.refl _ _ s))))⟩
  · rw [hshow, hseq]
  · rw [hshow, hslot]
  · exact (s.modSv f).svShow_mem

/-- Settles O44: slots are staged, verified, selected and confirmed. -/
theorem stagingAndSelection : Obligations.StagingAndSelection := by
  intro s q
  refine ⟨fun kind slot h hbar hk hs hnone hnot hahead hask => ?_, fun kind h hbar hk hact hnone => ?_, fun g data h hbar hg hw he hfit hahead hask => ?_,
    fun kind slot h hbar hk hs hsome => ?_, fun g data why blk h hbar hg hw he hfit hahead hask => ?_, fun g off data h hbar hg hw he hoff => ?_,
    fun g h hbar hg hw => ?_, fun g w h hbar hg hw => ?_, fun g w hrun hg hw he hk hs hfit => ?_, fun g w hrun hg hw he hturn hk hs hfit => ?_,
    fun h => if_neg (by simp [h]), fun slot h hbar hs hok => ?_, fun slot h hbar hs hne hbad => ?_, fun h hbar hf hlt => ?_, fun h hbar hno => ?_,
    fun i v hkey => ?_, fun i v hkey => ?_, fun i himg hf hlt => ?_, fun i v hno => ?_⟩
  · have hopens := State.stageBegin_opens s.svKeep hk hs hnone hnot hahead hask
    obtain ⟨hexec, hserved⟩ := State.svServe_gives (k := fun s => s.stageBegin kind slot) h hbar hopens (by rw [State.stageOpened_sv]; rfl)
      (by rw [State.stageOpened_sv]; rfl)
    have hframe := s.svKeep.stageOpened_frame kind slot
    refine ⟨_, congrArg Host.Outcome.next hexec, rfl, s.svKeep.stageOpened_busy kind slot,
      fun h2 => ⟨s.svKeep.stageOpened_valid slot h2, s.svKeep.stageOpened_sel slot h2⟩, ?_, hserved, .after (State.svServed_frame ..) (.after hframe (.after s.svKeep_frame (.refl _ _ s)))⟩
    rintro rfl
    exact s.svKeep.stageOpened_app slot
  · have hstate : s.svKeep.stageBegin kind (s.activeSlot kind) = (s.svKeep.put (errF kind) 0x0D, Sv.state, [0x0D#8]) := by
      have hfits : ¬ (3 ≤ kind ∨ 2 ≤ s.activeSlot kind) := by omega
      have hfree : ¬ s.svKeep.sv.stage.isSome = true := by
        rw [show s.svKeep.sv.stage = none from hnone]
        decide
      exact (if_neg hfits).trans ((if_neg hfree).trans (if_pos ⟨by omega, rfl⟩))
    obtain ⟨hexec, hserved⟩ := State.svServe_gives (k := fun t => t.stageBegin kind (s.activeSlot kind)) h hbar hstate rfl rfl
    have hfits := errF_fits kind
    refine ⟨_, congrArg Host.Outcome.next hexec, (State.get_put_same _ _ _ hfits.1).trans (by rw [hfits.2]; rfl), hserved,
      .after (State.svServed_frame ..) (.put' (.after s.svKeep_frame (.refl _ _ s)))⟩
  · have hgrants := State.stageData_grants (s := s.svKeep) (data := data) hg hw he hfit hahead hask
    obtain ⟨hexec, hserved⟩ := State.svServe_gives (k := fun s => s.stageData g.written data) h hbar hgrants rfl rfl
    refine ⟨_, congrArg Host.Outcome.next hexec, rfl, ?_, hserved, .after (State.svServed_frame ..)
      (.beside' (.incSat' (.put' (.after (State.maintNoted_frame ..) (.after s.svKeep_frame (.refl _ _ s))))))⟩
    rw [State.svServed_runs, State.modSv_runs]
    exact State.maintStart_runs _
  · have hbusy : s.svKeep.stageBegin kind slot = (s.svKeep, Sv.busy, []) := by
      have hfits : ¬ (3 ≤ kind ∨ 2 ≤ slot) := by omega
      exact (if_neg hfits).trans (if_pos hsome)
    obtain ⟨hserved, hframe⟩ := State.svServe_answers (k := fun s => s.stageBegin kind slot) h hbar hbusy
    exact ⟨_, rfl, hserved, hframe⟩
  · have hrefused := State.stageData_refused (s := s.svKeep) (data := data) hg hw he hfit hahead hask
    obtain ⟨hexec, hserved⟩ := State.svServe_gives (k := fun s => s.stageData g.written data) h hbar hrefused rfl rfl
    have hwhy := State.maintRefusal_small hask
    refine ⟨_, congrArg Host.Outcome.next hexec, hg, ?_, ?_, hserved, .after (State.svServed_frame ..)
      (.put' (.after (State.maintNoted_frame ..) (.after s.svKeep_frame (.refl _ _ s))))⟩
    · rw [State.svServed_get]
      exact (State.refusedNoted_facts _ 10 2 why blk hwhy).1
    · rw [State.flag, State.svServed_get]
      exact (State.refusedNoted_facts _ 10 2 why blk hwhy).2
  · have hbad : s.svKeep.stageData off data = (s.svKeep, Sv.badArg, []) := by
      have hbusy : ¬ (g.write.isSome || g.ending) = true := by simp [hw, he]
      rw [State.stageData, show s.svKeep.sv.stage = some g from hg]
      exact (if_neg hbusy).trans (if_pos (.inl hoff))
    obtain ⟨hserved, hframe⟩ := State.svServe_answers (k := fun s => s.stageData off data) h hbar hbad
    exact ⟨_, rfl, hserved, hframe⟩
  · have hgk : s.svKeep.sv.stage = some g := hg
    have hverify : s.svKeep.stageEnd.getD (s.svKeep, Sv.busy, []) = s.svKeep.stageVerify := by simp [State.stageEnd, hgk, hw]
    have hnow : (s.svTurn q 10 && (s.svBar q 10).isNone && s.stageEnd.isNone) = false := by simp [State.stageEnd, hg, hw]
    rw [State.stageVerify_eq hgk, State.slotCheck_keep] at hverify
    have hsmall := s.slotCheck_small g.kind g.slot
    have hsv := s.svKeep.verified_sv g (c := s.slotCheck g.kind g.slot)
    obtain ⟨hexec, hserved⟩ := State.svServe_gives (k := fun s => s.stageEnd.getD (s, Sv.busy, [])) h hbar hverify (by rw [hsv]; rfl) (by rw [hsv]; rfl)
    have hend : exec (.svStageEnd q) s = .next (s.svServe q 10 fun s => s.stageEnd.getD (s, Sv.busy, [])) := if_neg (by simp [hnow])
    rw [hexec] at hend
    refine ⟨_, _, hend, congrArg SvState.stage hsv, s.svKeep.verified_busy g, hserved, ?_, fun hc hk => ?_, fun hc => s.svKeep.verified_err g hsmall hc,
      .after (State.svServed_frame ..) (.after (s.svKeep.verified_frame g) (.after s.svKeep_frame (.refl _ _ s)))⟩
    · split <;> simp_all
    · rw [hc]
      exact s.svKeep.verified_valid g (by omega)
  · have hnow : (s.svTurn q 10 && (s.svBar q 10).isNone && s.stageEnd.isNone) = true := by simp [State.stageEnd, hg, hw, h, hbar]
    have hend : exec (.svStageEnd q) s = .next (s.modSv fun v => { v with stage := v.stage.map fun g => { g with ending := true } }) := if_pos hnow
    exact ⟨_, hend, congrArg (Option.map _) hg, rfl, rfl, .beside' (.refl _ _ s)⟩
  · have hexec : exec .mramProgramEnd s = .next s.mramEnd := if_pos hrun
    rw [State.mramEnd_waits hg hw he] at hexec
    obtain ⟨hbytes, hother⟩ := s.mramWritten_bytes (g := g) (w := w) hfit
    exact ⟨_, hexec, hbytes, hother, s.mramWritten_runs hrun, congrArg SvState.stage (s.mramWritten_sv g w), s.mramWritten_frame g w⟩
  · have hexec : exec .mramProgramEnd s = .next s.mramEnd := if_pos hrun
    obtain ⟨c, r, hend⟩ := State.mramEnd_verified hg hw he hturn
    obtain ⟨hbytes, -⟩ := s.mramWritten_bytes (g := g) (w := w) hfit
    have hsv := s.mramWritten_sv g w
    have hvsv := (s.mramWritten g w).svKeep.verified_sv { g with written := g.written + w.2.length, write := none, ending := false } (c := c)
    have hvmem := (s.mramWritten g w).svKeep.verified_mem { g with written := g.written + w.2.length, write := none, ending := false } (c := c)
    have hvframe := (s.mramWritten g w).svKeep.verified_frame_end { g with written := g.written + w.2.length, write := none, ending := false } c
    have hbusy := (s.mramWritten g w).svKeep.verified_busy { g with written := g.written + w.2.length, write := none, ending := false } (c := c)
    rw [hend] at hexec
    refine ⟨_, hexec, ?_, ?_, congrArg SvState.stage hvsv, hbusy, congrArg SvChan.served (SMap.get_set_same _ _ _), ?_,
      .after (State.svServed_frame ..) (.after hvframe (.after (s.mramWritten g w).svKeep_frame (.after (s.mramWritten_frame g w) (.refl _ _ s))))⟩
    · refine (State.rdBytes_congr (s := s.mramWritten g w) ?_ _ _).trans hbytes
      exact hvmem
    · have hruns := s.mramWritten_runs (g := g) (w := w) hrun
      rw [State.maintRuns, ← (s.mramWritten g w).svKeep_frame.rd_eq R.DIAG_MAINT_RUN (by simp), ← hvframe.rd_eq R.DIAG_MAINT_RUN ?_] at hruns
      · exact hruns
      · simp only [List.forall_mem_cons, List.not_mem_nil, IsEmpty.forall_iff, implies_true, and_true]
        exact stageFlds_apart_run g.kind g.slot
    · have hqueue : (s.mramWritten g w).svKeep.sv.queue = s.sv.queue := (congrArg SvState.queue hsv :)
      have hvqueue := congrArg SvState.queue hvsv
      exact congrArg (List.filter (· != 0)) (hvqueue.trans hqueue)
  · have hsel : s.svKeep.svSelect 0 slot = (s.svKeep.put F.SV_BOOT_FW_SEL slot, Sv.ok, []) := (if_neg (by omega)).trans (if_pos hok)
    obtain ⟨hexec, hserved⟩ := State.svServe_gives (k := fun s => s.svSelect 0 slot) h hbar hsel rfl rfl
    exact ⟨_, congrArg Host.Outcome.next hexec, (State.get_put_same _ _ _ (by simp)).trans (Nat.mod_eq_of_lt hs), hserved,
      .after (State.svServed_frame ..) (.put' (.after s.svKeep_frame (.refl _ _ s)))⟩
  · have hstate : s.svKeep.svSelect 0 slot = (s.svKeep, Sv.state, []) := by
      have hnot : ¬ (slot = s.svKeep.activeSlot 0 ∨ s.svKeep.flag (validF 0 slot) = true) := by
        rintro (h1 | h1)
        · exact hne h1
        · exact Bool.false_ne_true (hbad.symm.trans h1)
      exact (if_neg (by omega)).trans (if_neg hnot)
    obtain ⟨hserved, hframe⟩ := State.svServe_answers (k := fun s => s.svSelect 0 slot) h hbar hstate
    exact ⟨_, rfl, hserved, hframe⟩
  · have hconfirm : s.svKeep.svConfirm 0 0 = (s.svKeep.confirmed fun w => { w with arbFw := s.sv.fwSecver }, Sv.ok, []) := by
      have hgo : ¬ (s.svKeep.inFoyer || (decide (0 = 2) && s.svKeep.get F.SV_BOOT_APP_STATE != 1) || decide (s.sv.fwSecver ≤ s.sv.arbFw)) = true := by
        rw [show s.svKeep.inFoyer = false from hf]
        simp [hlt]
      exact (if_neg (by omega)).trans (if_neg hgo)
    obtain ⟨hlog, hsv, hframe⟩ := s.svKeep.confirmed_logged (fun w => { w with arbFw := s.sv.fwSecver }) rfl rfl
    obtain ⟨hexec, hserved⟩ := State.svServe_gives (k := fun s => s.svConfirm 0 0) h hbar hconfirm
      ((congrArg SvState.chan hsv :) : _ = s.sv.chan) ((congrArg SvState.queue hsv :) : _ = s.sv.queue)
    exact ⟨_, _, congrArg Host.Outcome.next hexec, congrArg SvState.arbFw hsv, (hlog.serve q 0 []).from rfl rfl rfl, hserved,
      .after (State.svServed_frame ..) (.after hframe (.after s.svKeep_frame (.refl _ _ s)))⟩
  · have hstate : s.svKeep.svConfirm 0 0 = (s.svKeep, Sv.state, []) := by
      have hstop : (s.svKeep.inFoyer || (decide (0 = 2) && s.svKeep.get F.SV_BOOT_APP_STATE != 1) || decide (s.sv.fwSecver ≤ s.sv.arbFw)) = true := by
        rcases hno with hf | hle
        · rw [show s.svKeep.inFoyer = true from hf]
          rfl
        · simp [hle]
      exact (if_neg (by omega)).trans (if_pos hstop)
    obtain ⟨hserved, hframe⟩ := State.svServe_answers (k := fun s => s.svConfirm 0 0) h hbar hstate
    exact ⟨_, rfl, hserved, hframe⟩
  · have hsel : s.imgSelect v = if bitsOf v.toNat 0 1 = s.activeSlot 1 ∨ s.flag (validF 1 (bitsOf v.toNat 0 1)) = true
        then s.put F.SYS_IMG_SELECT_SLOT (bitsOf v.toNat 0 1) else s.set1 F.SYS_IMG_STATUS_SEL_REJECT := if_neg (by simp [hkey])
    have hslot := bitsOf_lt v.toNat 0 1
    refine ⟨_, rfl, fun hok => ?_, fun hbad => ?_⟩
    · rw [hsel, if_pos hok]
      exact ⟨State.get_set1_fld _ (by decide) hslot, .put' (.refl _ _ s)⟩
    · rw [hsel, if_neg hbad]
      exact ⟨State.get_set1_fld _ (by decide) (by decide), .set1' (.refl _ _ s)⟩
  · exact congrArg Host.Outcome.next (if_pos hkey)
  · have hconfirm : s.imgConfirm 0xC0F1#32 0 = s.confirmed fun w => { w with arbImg := (s.rd R.SYS_IMG_SECVER).toNat } :=
      if_pos ⟨rfl, himg, by simp [hf], hlt⟩
    obtain ⟨hlog, hsv, hframe⟩ := s.confirmed_logged (fun w => { w with arbImg := (s.rd R.SYS_IMG_SECVER).toNat }) rfl rfl
    have hexec : exec (.imgConfirmWrite i 0xC0F1#32) s = .next (s.confirmed fun w => { w with arbImg := (s.rd R.SYS_IMG_SECVER).toNat }) :=
      congrArg Host.Outcome.next hconfirm
    exact ⟨_, _, hexec, congrArg SvState.arbImg hsv, hlog, hframe⟩
  · refine congrArg Host.Outcome.next (if_neg ?_)
    rintro ⟨hv, himg, hf, hlt⟩
    rcases hno with h | h | h
    · exact h hv
    · simp [h] at hf
    · omega

end Sys2Proof.Machine
end

section
/-!
O45: the entry to the Foyer state, and a comparator test whose queue names no comparator
The proofs are elaborated in turn: in one text, proofs that wait for each other would each hold a thread.
-/

set_option Elab.async false

namespace Sys2Proof.Machine

/-! # O45: the entry to the Foyer state ends a comparator test whose queue names no comparator -/

/-- A phase of start-up with PD1 and PD7 on; the queue of comparators to test holds an index beyond the 24 comparators, which no rule of
the state excludes. -/
def strayTest (phase : Nat) : State :=
  { ((State.reset.put F.SYS_START_PHASE phase).put F.SYS_PD_STATUS_DOMAIN_ON (2 ^ 1 + 2 ^ 7)) with wcmp := { State.reset.wcmp with queue := [8206] } }

/-- The index's status register would stand beyond every block that an entry to the Foyer state reaches. -/
theorem strayTest_beyond : ∀ r ∈ foyerZones, R.WC_STATUS 8206 < r.1 ∨ r.2 ≤ R.WC_STATUS 8206 := by decide

theorem strayTest_fault : exec .svauthFaultDetect (strayTest 5) = .next (((strayTest 5).raise FS.SVAUTH_FAULT).enterFoyer 0x0B 0) := by
  have hon : (strayTest 5).pdOn 7 = true := by decide +kernel
  have hphase : ((strayTest 5).raise FS.SVAUTH_FAULT).inPhase 5 = true := by decide +kernel
  change execSvauthFaultDetect (strayTest 5) = _
  unfold execSvauthFaultDetect
  rw [if_neg (by simp [hon])]
  dsimp only
  rw [if_pos hphase]

/-- The abort of the test puts the state TRIP_PENDING into that register (R180, R613). -/
theorem strayTest_writes : (((strayTest 5).raise FS.SVAUTH_FAULT).enterFoyer 0x0B 0).rd (R.WC_STATUS 8206) = 2#32 := by decide +kernel

/-- Refutes O45: in a state whose comparator test has a stray index in its queue, a fault of Svauth in P5 enters the Foyer state, which
aborts the test and so writes a register outside the blocks that the frame names. -/
theorem not_permitsAndBoot : ¬ Obligations.PermitsAndBoot := by
  intro h
  have hon : (strayTest 5).pdOn 7 = true ∧ (strayTest 5).inPhase 5 = true := by decide +kernel
  obtain ⟨-, -, -, -, -, -, -, -, -, -, -, -, -, -, -, -, -, -, -, hfoyer⟩ := h (strayTest 5)
  obtain ⟨t, hexec, -, -, -, hrd, -⟩ := hfoyer hon.1 hon.2
  obtain rfl := Host.Outcome.next.inj (strayTest_fault.symm.trans hexec)
  have hkept : (2#32 : Word) = (strayTest 5).rd (R.WC_STATUS 8206) := strayTest_writes.symm.trans (hrd _ strayTest_beyond)
  exact absurd hkept (by decide +kernel)

end Sys2Proof.Machine
end

section
/-!
O55: a failed phase of start-up, with a comparator test in progress
The proofs are elaborated in turn: in one text, proofs that wait for each other would each hold a thread.
-/

set_option Elab.async false

namespace Sys2Proof.Machine

/-! # O55: a failed phase enters the Foyer state, which aborts a comparator test -/

theorem strayTest_phaseFails : exec (.startupPhaseEnd true 0 0) (strayTest 6) = .next ((strayTest 6).enterFoyer 9 0) := by
  have hrun : ¬ ((strayTest 6).start.resetAt.isSome = true ∨ (!(strayTest 6).pdOn 1) = true) := by decide +kernel
  have hcause : phaseCause (strayTest 6).phase 0 = some 9 := by decide +kernel
  change execStartupPhaseEnd true 0 0 (strayTest 6) = _
  unfold execStartupPhaseEnd
  rw [if_neg hrun, if_pos rfl, hcause]

theorem strayTest_phaseWrites : ((strayTest 6).enterFoyer 9 0).rd (R.WC_STATUS 8206) = 2#32 := by decide +kernel

/-- Refutes O55: a failed P6 enters the Foyer state, which aborts the comparator test in progress; where the test's queue holds a stray
index, the abort writes a register outside the blocks that the frame names. -/
theorem not_startUp : ¬ Obligations.StartUp := by
  intro h
  have hready : (strayTest 6).pdOn 1 = true ∧ (strayTest 6).start.resetAt = none ∧ phaseCause (strayTest 6).phase 0 = some 9 := by
    decide +kernel
  obtain ⟨hon, hrun, hcause⟩ := hready
  obtain ⟨-, -, -, -, -, -, -, -, -, -, -, -, hfail, -⟩ := (h (strayTest 6)).1 hon hrun 0 0
  obtain ⟨t, hexec, -, -, -, -, -, -, -, -, -, -, hrd, -⟩ := hfail 9 hcause (by decide)
  obtain rfl := Host.Outcome.next.inj (strayTest_phaseFails.symm.trans hexec)
  have hkept : (2#32 : Word) = (strayTest 6).rd (R.WC_STATUS 8206) := strayTest_phaseWrites.symm.trans (hrd _ (by decide))
  exact absurd hkept (by decide +kernel)

end Sys2Proof.Machine
end

section
/-!
O33: a rail that fails while a comparator test runs
The proofs are elaborated in turn: in one text, proofs that wait for each other would each hold a thread.
-/

set_option Elab.async false

namespace Sys2Proof.Machine

/-! # O33: a rail that fails takes its domain off, and a comparator test with it -/

/-- PD1 and PD8 are on and the comparator test runs over comparators of the PAD side; its queue holds a stray index. -/
def strayRail : State :=
  { ((State.reset.put F.SYS_PD_STATUS_DOMAIN_ON (2 ^ 1 + 2 ^ 8)).put ⟨R.DIAG_MAINT_RUN, Act.wcmpTest, 1⟩ 1) with
    wcmp := { State.reset.wcmp with queue := [8206] }
    diag := { State.reset.diag with testMask := 1 } }

theorem strayRail_step : exec (.railOutOfWindow 2 false) strayRail = .next (strayRail.railOut 2) := by
  have hon : strayRail.pdOn 1 = true := by decide +kernel
  change execRailOutOfWindow 2 false strayRail = _
  unfold execRailOutOfWindow
  rw [if_neg (by rw [hon]; decide)]
  rfl

/-- VANA out of its window takes PD8 off, which drops the test (R537), whose abort writes the register of the stray index. -/
theorem strayRail_writes : (strayRail.railOut 2).rd (R.WC_STATUS 8206) = 2#32 := by decide +kernel

/-- Refutes O33: VANA out of its window aborts the comparator test in progress; where the test's queue holds a stray index, the abort
writes a register outside the blocks that the frame names. -/
theorem not_curatorWritesAndChecks : ¬ Obligations.CuratorWritesAndChecks := by
  intro h
  have hon : strayRail.pdOn 1 = true := by decide +kernel
  obtain ⟨-, -, -, -, -, -, -, hrail, -⟩ := h.2 strayRail
  obtain ⟨t, hexec, -, -, -, hrd, -⟩ := hrail hon
  obtain rfl := Host.Outcome.next.inj (strayRail_step.symm.trans hexec)
  have hkept : (2#32 : Word) = strayRail.rd (R.WC_STATUS 8206) := strayRail_writes.symm.trans (hrd _ (by decide))
  exact absurd hkept (by decide +kernel)

end Sys2Proof.Machine
end

section
/-!
O31: an abort of a comparator test
The proofs are elaborated in turn: in one text, proofs that wait for each other would each hold a thread.
-/

set_option Elab.async false

namespace Sys2Proof.Machine

/-! # O31: an abort of the comparator test whose queue holds a stray index -/

/-- A write of bit 3 to DIAG_MAINT_ABORT names the comparator test (R460), whose abort writes the register of the stray index. -/
theorem strayRail_aborts : (strayRail.maintAbortWrite 8#32).rd (R.WC_STATUS 8206) = 2#32 := by decide +kernel

/-- Refutes O31: where the queue of the comparator test in progress holds a stray index, an abort of the test writes a register outside
the blocks that the frame names. -/
theorem not_maintenanceActivities : ¬ Obligations.MaintenanceActivities := by
  intro h
  obtain ⟨-, -, -, -, -, habort⟩ := h.2 strayRail
  obtain ⟨t, hexec, -, -, -, -, -, -, hrd, -⟩ := habort .hpa 8#32
  obtain rfl : strayRail.maintAbortWrite 8#32 = t := Host.Outcome.next.inj hexec
  have hkept : (2#32 : Word) = strayRail.rd (R.WC_STATUS 8206) := strayRail_aborts.symm.trans (hrd _ (by decide))
  exact absurd hkept (by decide +kernel)

end Sys2Proof.Machine
end

section
/-!
O32: the safe state while a comparator test runs
The proofs are elaborated in turn: in one text, proofs that wait for each other would each hold a thread.
-/

set_option Elab.async false

namespace Sys2Proof.Machine

/-! # O32: a source that leads to the safe state while a comparator test with a stray index runs -/

/-- The comparator test of `strayRail` runs, and a source of severity SAFE has risen. -/
def straySafe : State :=
  { (strayRail.put (F.CUR_SEV_SEV FS.CURATOR_VOTE) 4) with raised := [⟨FS.CURATOR_VOTE, 0⟩] }

/-- The safe state aborts every activity of the arbiter (Table ARB-5), so that the register of the stray index is written. -/
theorem straySafe_aborts : ({ straySafe with raised := [] }.curCycle [⟨FS.CURATOR_VOTE, 0⟩]).rd (R.WC_STATUS 8206) = 2#32 := by
  decide +kernel

theorem straySafe_step :
    exec (.curatorRaise 0) straySafe = .next ({ straySafe with raised := [] }.curCycle [⟨FS.CURATOR_VOTE, 0⟩]) := rfl

/-- Refutes O32: where the queue of the comparator test in progress holds a stray index, the safe state's abort of the test writes a
register outside the blocks that the frame names. -/
theorem not_curatorReactions : ¬ Obligations.CuratorReactions := by
  intro h
  obtain ⟨t, hexec, -, -, -, -, -, -, -, -, -, hrd, -⟩ := h straySafe ⟨FS.CURATOR_VOTE, 0⟩ [] rfl (by decide)
  obtain rfl := Host.Outcome.next.inj (straySafe_step.symm.trans hexec)
  have hkept : (2#32 : Word) = straySafe.rd (R.WC_STATUS 8206) := straySafe_aborts.symm.trans (hrd _ (by decide))
  exact absurd hkept (by decide +kernel)

end Sys2Proof.Machine
end

section
/-!
Proofs about the outputs that a reaction of the Warden stops (chapter 15).
The proofs are elaborated in turn: in one text, proofs that wait for each other would each hold a thread.
-/

set_option Elab.async false

namespace Sys2Proof.Machine

/-! # O34: the Warden's inputs, reaction, test pulses and permit (chapter 15)

The reaction of R492 is followed stage by stage: the gates and the lanes go off, the units stop, the relays are de-energised, the permit
ends. -/

theorem State.unitHalted_outside (s : State) (u : ℕ) (hu : u < 14) :
    KeepsOutside [zone (R.PWM_CTRL 0)] [.pwm, .shadow] s (s.unitHalted u) :=
  .after (State.modPwm_outside ..) (.put' (.after (State.enterHeld_outside ..) (.foldl' (.refl _ _ _) (fun _ _ _ => .after (State.loopToShadow_outside ..) (.refl _ _ _)))))

theorem State.relayLockout_outside (s : State) :
    KeepsOutside [zone R.GRID_CFG, zone R.RELAY_CFG] [.grid, .relay] s s.relayLockout :=
  .after (State.modGrid_outside ..) (.after (State.probeAbandon_outside ..) (.after (State.setConn_outside ..) (.after (State.relaysOff_outside ..) (.refl _ _ _))))


/-! ### The outputs stop -/

/-- Both gates of a half-bridge are off. -/
def State.gatesOff (s : State) (h : Nat) : Prop := s.get (F.DRV_HB_STATUS_HO h) = 0 ∧ s.get (F.DRV_HB_STATUS_LO h) = 0

theorem State.gatesOff_of_outside {rs : List (Nat × Nat)} {ps : List Part} {s t : State} {h : Nat} (hs : s.gatesOff h) (k : KeepsOutside rs ps s t)
    (hr : ∀ r ∈ rs, R.DRV_HB_STATUS h < r.1 ∨ r.2 ≤ R.DRV_HB_STATUS h) : t.gatesOff h :=
  ⟨(k.get_eq _ hr).trans hs.1, (k.get_eq _ hr).trans hs.2⟩

theorem State.highRunEnds_gatesOff {s : State} {h : Nat} (hs : s.gatesOff h) (u : Nat) : (s.highRunEnds u).gatesOff h := by
  by_cases hu : u < 8
  · simp only [State.gatesOff, State.highRunEnds, if_pos hu, State.get_mk]
    rw [State.get_put_other _ _ _ _ (by simp), State.get_put_other _ _ _ _ (by simp)]
    exact hs
  · simpa only [State.gatesOff, State.highRunEnds, if_neg hu, State.get_mk] using hs

theorem State.unitHalted_reach (s : State) {u : Nat} (hu : u < 14) : KeepsOutside [zone (R.PWM_CTRL 0)] [.shadow, .pwm] s (s.unitHalted u) :=
  (.after (State.unitHalted_outside _ _ (by omega)) (.refl _ _ _))

/-- A stop of a unit leaves gates that are off. -/
theorem State.stopUnit_gatesOff {s : State} {h : Nat} (hs : s.gatesOff h) (hh : h < 8) {u : Nat} (hu : u < 14) : (s.stopUnit u).gatesOff h := by
  by_cases h0 : s.pwmState u = 0
  · rw [s.stopUnit_of_stopped u h0]
    split
    · exact State.gatesOff_of_outside hs (State.stopEdges_outside _ _ _ hu) (by simp; omega)
    · exact hs
  · rw [s.stopUnit_of_not_stopped u h0]
    have hended : ((s.unitHalted u).highRunEnds u).gatesOff h :=
      State.highRunEnds_gatesOff (State.gatesOff_of_outside hs (s.unitHalted_reach hu) (by simp; omega)) u
    refine State.gatesOff_of_outside (s := ite _ _ _) ?_ (State.ivStopped_outside _ _) (by simp; omega)
    split
    · exact hended
    · exact State.gatesOff_of_outside hended (.put' (.after (State.stopEdges_outside _ _ _ hu) (.refl [zone (R.PWM_CTRL 0)] [.pwm] _))) (by simp; omega)

/-- Every PWM unit is stopped. -/
def State.unitsStopped (s : State) : State := s.forEach (List.range 14) State.stopUnit

theorem State.unitsStopped_outside (s : State) :
    KeepsOutside [zone (R.PWM_CTRL 0), zone R.DRV_STATUS, zone R.DIAG_MAINT_REQ] [.pwm, .shadow, .drive, .diag, .mem] s s.unitsStopped :=
  .forEach' (.refl _ _ _) fun _ hu _ => .after (State.stopUnit_outside _ _ (List.mem_range.1 hu)) (.refl _ _ _)

theorem State.unitsStopped_stops (s : State) {u : Nat} (hu : u < 14) (h : s.pwmState u ≠ 3) : s.unitsStopped.pwmState u = 0 :=
  State.forEach_at (P := fun t => t.pwmState u ≠ 3) (Q := fun t => t.pwmState u = 0) List.nodup_range (List.mem_range.2 hu)
    (fun k _ hne t ht => by rw [(t.stopUnit_sameRun u k hu hne.symm).1]; exact ht) (fun t ht => t.stopUnit_stops u hu ht)
    (fun k _ hne t ht => by rw [(t.stopUnit_sameRun u k hu hne.symm).1]; exact ht) s h

theorem State.unitsStopped_gatesOff {s : State} {h : Nat} (hs : s.gatesOff h) (hh : h < 8) : s.unitsStopped.gatesOff h :=
  State.forEach_inv (P := fun t => t.gatesOff h) (fun _ hu _ ht => State.stopUnit_gatesOff ht hh (List.mem_range.1 hu)) _ hs

/-! ### FORCE returns to 0, and the permit ends (R298, R501) -/

theorem mem_laneUnits {u : Nat} (h : u ∈ (List.range 6).map (· + 8)) : 8 ≤ u ∧ u < 14 := by
  obtain ⟨l, hl, rfl⟩ := List.mem_map.1 h
  have := List.mem_range.1 hl
  omega

/-- One unit's FORCE returns to 0. -/
def State.unitForceEnd (s : State) (u : Nat) : State :=
  if (s.rd (R.PWM_FORCE u)).toNat = 0 then s
  else if (s.wr (R.PWM_FORCE u) 0).forceActs u then (s.wr (R.PWM_FORCE u) 0).issueEdges u (s.epoch + 1) else s.wr (R.PWM_FORCE u) 0

theorem State.forceEnd_eq (s : State) : s.forceEnd = s.forEach ((List.range 6).map (· + 8)) State.unitForceEnd := rfl

theorem State.unitForceEnd_frame (s : State) (u : Nat) :
    Keeps [whole (R.PWM_FORCE u), F.PWM_STATUS_LEVEL_A u, F.PWM_STATUS_LEVEL_B u] [.pwm] s (s.unitForceEnd u) :=
  .ite' (.refl _ _ _) (.ite' (.after (State.issueEdges_keeps ..) (.wr' (.refl _ _ _))) (.wr' (.refl _ _ _)))

theorem State.unitForceEnd_clears (s : State) (u : Nat) : (s.unitForceEnd u).rd (R.PWM_FORCE u) = 0#32 := by
  unfold State.unitForceEnd
  split
  next h => exact BitVec.eq_of_toNat_eq h
  next =>
    split
    · exact ((State.issueEdges_keeps ..).rd_eq _ (by simp [whole])).trans (State.rd_wr_same ..)
    · exact State.rd_wr_same ..

theorem State.forceEnd_outside (s : State) : KeepsOutside [zone (R.PWM_CTRL 0)] [.pwm] s s.forceEnd :=
  .forEach' (.refl _ _ _) fun u hu t => by
    have hlt := mem_laneUnits hu
    exact .after ((t.unitForceEnd_frame u).toOutside (rs := [zone (R.PWM_CTRL 0)]) (by simp [whole]; omega)) (.refl _ _ _)

theorem State.forceEnd_clears (s : State) {l : Nat} (hl : l < 6) : s.forceEnd.rd (R.PWM_FORCE (l + 8)) = 0#32 :=
  State.forEach_at (P := fun _ => True) (Q := fun t => t.rd (R.PWM_FORCE (l + 8)) = 0#32) (by decide)
    (List.mem_map.2 ⟨l, List.mem_range.2 hl, rfl⟩) (fun _ _ _ _ _ => trivial) (fun t _ => t.unitForceEnd_clears _)
    (fun k hk hne t ht => ((t.unitForceEnd_frame k).rd_eq _ (by have := mem_laneUnits hk; simp [whole]; omega)).trans ht) s trivial

theorem State.forceEnd_state (s : State) (u : Nat) : s.forceEnd.pwmState u = s.pwmState u :=
  State.forEach_inv (P := fun t => t.pwmState u = s.pwmState u)
    (fun k hk t ht => ((t.unitForceEnd_frame k).get_eq _ (by have := mem_laneUnits hk; simp [whole]; omega)).trans ht) s rfl

theorem State.permitEnd_of_permit {s : State} (h : s.flag F.WARDEN_STATUS_PERMIT = true) :
    s.permitEnd = ((s.put F.WARDEN_STATUS_PERMIT 0).set1 F.WARDEN_STICKY_PERMIT_ENDED).forceEnd := if_pos h

theorem State.permitEnd_outside (s : State) : KeepsOutside [zone R.WARDEN_STATUS, zone (R.PWM_CTRL 0)] [.pwm] s s.permitEnd :=
  .ite' (.after (State.forceEnd_outside _) (.set1' (.put' (.refl _ _ _)))) (.refl _ _ _)

/-- What the end of the permit leaves of the Warden's own fields. -/
theorem State.permitEnd_get (s : State) (g : Fld) (hp : (F.WARDEN_STATUS_PERMIT).apart g = true) (he : (F.WARDEN_STICKY_PERMIT_ENDED).apart g = true)
    (hz : g.addr < R.PWM_CTRL 0 ∨ R.PWM_CTRL 0 + 0x10000 ≤ g.addr) : s.permitEnd.get g = s.get g := by
  unfold State.permitEnd
  split
  · refine (s.put F.WARDEN_STATUS_PERMIT 0 |>.set1 F.WARDEN_STICKY_PERMIT_ENDED |>.forceEnd_outside.get_eq g (by simpa using hz)).trans ?_
    exact (State.get_put_other _ _ _ _ he).trans (State.get_put_other _ _ _ _ hp)
  · rfl

theorem State.permitEnd_state (s : State) (u : Nat) : s.permitEnd.pwmState u = s.pwmState u := by
  unfold State.permitEnd
  split
  · refine (State.forceEnd_state _ u).trans ?_
    exact (State.get_put_other _ _ _ _ (by simp)).trans (State.get_put_other _ _ _ _ (by simp))
  · rfl

/-! ### The reaction -/

/-- The reaction is commanded, and its tick kept. -/
def State.reactBegun (s : State) : State := (s.put F.WARDEN_STATUS_REACTION 1).wr R.WARDEN_REACT_TICK s.now32

/-- No output is driven any more. -/
def State.reactStopped (s : State) : State := (s.reactBegun.hbHoldOff.forEach (List.range 6) fun s l => s.laneTrip l 1).unitsStopped

theorem State.wdReact_of_none {s : State} (h : s.flag F.WARDEN_STATUS_REACTION = false) :
    s.wdReact = s.reactStopped.relayLockout.permitEnd.noteHolds := if_neg (by simp [h])

theorem State.wdReact_of_reaction {s : State} (h : s.flag F.WARDEN_STATUS_REACTION = true) : s.wdReact = s := if_pos h

theorem State.relayLockout_reach (s : State) : KeepsOutside [zone R.GRID_CFG, zone R.RELAY_CFG] [.grid, .relay] s s.relayLockout := (.after (State.relayLockout_outside ..) (.refl _ _ _))

theorem State.reactLanes_outside (s : State) : KeepsOutside [zone R.LANE_STATUS] [.drive] s (s.forEach (List.range 6) fun s l => s.laneTrip l 1) :=
  .forEach' (.refl _ _ _) fun _ hl _ => .after (State.laneTrip_outside _ _ _ (List.mem_range.1 hl)) (.refl _ _ _)

/-- The stages after the reaction has begun, without the permit's end. -/
theorem State.reactLocked_outside (s : State) :
    KeepsOutside [zone R.DIAG_MAINT_REQ, zone R.DRV_STATUS, zone R.LANE_STATUS, zone (R.PWM_CTRL 0), zone R.GRID_CFG, zone R.RELAY_CFG]
      [.diag, .drive, .grid, .mem, .pwm, .relay, .shadow] s.reactBegun s.reactStopped.relayLockout :=
  .after (State.relayLockout_reach _) (.after (State.unitsStopped_outside _) (.after (State.reactLanes_outside _)
    (.after (State.hbHoldOff_outside _) (.refl _ _ _))))

theorem State.wdReact_outside (s : State) :
    KeepsOutside [zone R.WARDEN_STATUS, zone R.DIAG_MAINT_REQ, zone R.DRV_STATUS, zone R.LANE_STATUS, zone (R.PWM_CTRL 0), zone R.GRID_CFG,
      zone R.RELAY_CFG] [.diag, .drive, .grid, .mem, .pwm, .relay, .shadow] s s.wdReact :=
  .ite' (.refl _ _ _) (.after (State.noteHolds_outside ..) (.after (State.permitEnd_outside _) (.after s.reactLocked_outside
    (.wr' (.put' (.refl _ _ _))))))

/-- What the reaction leaves of the Warden's own fields. -/
theorem State.wdReact_get (s : State) (g : Fld) (hr : (F.WARDEN_STATUS_REACTION).apart g = true) (hp : (F.WARDEN_STATUS_PERMIT).apart g = true)
    (he : (F.WARDEN_STICKY_PERMIT_ENDED).apart g = true) (ht : g.addr ≠ R.WARDEN_REACT_TICK)
    (hz : R.WARDEN_STATUS ≤ g.addr ∧ g.addr < R.WARDEN_STATUS + 0x10000) : s.wdReact.get g = s.get g := by
  cases h : s.flag F.WARDEN_STATUS_REACTION with
  | true => rw [State.wdReact_of_reaction h]
  | false =>
    rw [State.wdReact_of_none h]
    refine ((State.noteHolds_outside _).get_eq g (by simp)).trans ((State.permitEnd_get _ g hp he (by simp at hz ⊢; omega)).trans
      ((s.reactLocked_outside.get_eq g (by simp at hz ⊢; omega)).trans ?_))
    exact (State.get_wr_other _ _ _ _ ht).trans (State.get_put_other _ _ _ _ hr)

/-- Once the reaction is commanded every half-bridge is held off. -/
theorem State.reactBegun_gatesOff (s : State) {h : Nat} (hh : h < 8) : s.reactBegun.hbHoldOff.gatesOff h := by
  have hblock (t : State) (ht : t.flag F.WARDEN_STATUS_REACTION = true) (k : Nat) : t.hbBlocked k = true := by
    simp [State.hbBlocked, State.unitHeld, ht]
  refine State.hbHoldOff_gates_of (P := fun t => t.flag F.WARDEN_STATUS_REACTION = true) (fun t ht k _ => hblock t ht k)
    (fun t ht k hk => ?_) (by simp [State.reactBegun]) hh
  exact ((t.hbOff_keeps k).flag_eq _ (by simp; omega)).trans ht

theorem State.relayLockout_facts (s : State) : s.relayLockout.conn = 5 ∧ s.relayLockout.get F.RELAY_STATUS_K1_CMD = 0 ∧
    s.relayLockout.get F.RELAY_STATUS_K2_CMD = 0 := by
  have hprobe := (s.relaysOff.setConn 5).probeAbandon_frame
  obtain ⟨h1, h2, -⟩ := s.relaysOff_cmds
  exact ⟨(hprobe.get_eq F.GRID_RT_STATUS_CONN_STATE (by decide)).trans (State.get_put_same _ _ _ (by decide)),
    (hprobe.get_eq _ (by decide)).trans ((State.get_put_other _ _ _ _ (by decide)).trans h1),
    (hprobe.get_eq _ (by decide)).trans ((State.get_put_other _ _ _ _ (by decide)).trans h2)⟩

/-- The state that the reaction commands (Table WDN-3). -/
theorem State.wdReact_facts {s : State} (h : s.flag F.WARDEN_STATUS_REACTION = false) :
    s.wdReact.conn = 5 ∧ s.wdReact.get F.RELAY_STATUS_K1_CMD = 0 ∧ s.wdReact.get F.RELAY_STATUS_K2_CMD = 0 ∧
    s.wdReact.rd R.WARDEN_REACT_TICK = s.now32 ∧ s.wdReact.flag F.WARDEN_STATUS_REACTION = true ∧
    (∀ u < 14, s.pwmState u ≠ 3 → s.wdReact.pwmState u = 0) ∧ (∀ k < 8, s.wdReact.gatesOff k) := by
  rw [State.wdReact_of_none h]
  have hlater : KeepsOutside [zone R.WARDEN_STATUS, zone (R.PWM_CTRL 0)] [.pwm, .diag] s.reactStopped.relayLockout
      s.reactStopped.relayLockout.permitEnd.noteHolds := .after (State.noteHolds_outside ..) (.after (State.permitEnd_outside _) (.refl _ _ _))
  have hwarden (g : Fld) (hp : (F.WARDEN_STATUS_PERMIT).apart g = true) (he : (F.WARDEN_STICKY_PERMIT_ENDED).apart g = true)
      (hz : R.WARDEN_STATUS ≤ g.addr ∧ g.addr < R.WARDEN_STATUS + 0x10000) :
      s.reactStopped.relayLockout.permitEnd.noteHolds.get g = s.reactBegun.get g :=
    ((State.noteHolds_outside _).get_eq g (by simp)).trans ((State.permitEnd_get _ g hp he (by simp at hz ⊢; omega)).trans
      (s.reactLocked_outside.get_eq g (by simp at hz ⊢; omega)))
  obtain ⟨hconn, hK1, hK2⟩ := s.reactStopped.relayLockout_facts
  refine ⟨(hlater.get_eq _ (by simp)).trans hconn, (hlater.get_eq _ (by simp)).trans hK1, (hlater.get_eq _ (by simp)).trans hK2,
    BitVec.eq_of_toNat_eq ?_, ?_, fun u hu hfree => ?_, fun k hk => ?_⟩
  · have htick := hwarden (whole R.WARDEN_REACT_TICK) (by simp [whole]) (by simp [whole]) (by simp [whole])
    rw [State.get_whole, State.get_whole] at htick
    rw [htick, State.reactBegun, State.rd_wr_same]
  · simp only [State.flag, hwarden F.WARDEN_STATUS_REACTION (by simp) (by simp) (by simp)]
    simp [State.reactBegun]
  · have hrun : (s.reactBegun.hbHoldOff.forEach (List.range 6) fun s l => s.laneTrip l 1).pwmState u = s.pwmState u :=
      ((State.reactLanes_outside _).get_eq _ (by simp; omega)).trans (((State.hbHoldOff_outside _).get_eq _ (by simp; omega)).trans
        ((State.get_wr_other _ _ _ _ (by simp; omega)).trans (State.get_put_other _ _ _ _ (by simp))))
    refine ((State.noteHolds_outside _).get_eq _ (by simp)).trans ((State.permitEnd_state _ u).trans
      (((State.relayLockout_reach _).get_eq _ (by simp; omega)).trans ?_))
    exact State.unitsStopped_stops _ hu (hrun ▸ hfree)
  · have hstopped : s.reactStopped.gatesOff k :=
      State.unitsStopped_gatesOff (State.gatesOff_of_outside (s.reactBegun_gatesOff hk) (State.reactLanes_outside _) (by simp; omega)) hk
    exact State.gatesOff_of_outside (State.gatesOff_of_outside hstopped (State.relayLockout_reach _) (by simp; omega)) hlater (by simp; omega)

end Sys2Proof.Machine
end

section
/-!
Proofs about the Warden (chapter 15).
The proofs are elaborated in turn: in one text, proofs that wait for each other would each hold a thread.
-/

set_option Elab.async false

namespace Sys2Proof.Machine

/-! # O34: the Warden's inputs, test pulses, reset and permit (chapter 15) -/


/-! ### Inputs (R486, R489) -/

theorem wdFltF_fits (i : Nat) (b : Bool) : (wdRawF i b).len = 1 ∧ (wdRawF i b).lo + (wdRawF i b).len ≤ 32 ∧
    (wdFiltF i b).len = 1 ∧ (wdFiltF i b).lo + (wdFiltF i b).len ≤ 32 := by cases b <;> simp [wdRawF, wdFiltF]

theorem State.flag_put_bool (s : State) (f : Fld) (b : Bool) (hlen : f.len = 1) (h : f.lo + f.len ≤ 32) : (s.put f (b2n b)).flag f = b := by
  rw [State.flag_put_same _ _ _ h, hlen]
  exact b2n_eq_one b

/-- The channel's filtered level follows its raw level. -/
def State.wdFiltered (s : State) (i : Nat) (b : Bool) : State :=
  (s.put (wdFiltF i b) (b2n (s.flag (wdRawF i b)))).modWdCh i b fun c => { c with since := none, filtAt := s.mono }

/-- DEMAND_NOW and STATE follow the levels. -/
def State.wdJudged (s : State) (i : Nat) : State :=
  if (s.put (wdNowF i) (b2n (s.wdDemand i))).wdFaulted i then s.put (wdNowF i) (b2n (s.wdDemand i))
  else (s.put (wdNowF i) (b2n (s.wdDemand i))).put (F.WARDEN_LEVEL_STATE i) (if s.wdDemand i then 2 else 1)

/-- A demand is recorded, before the reaction it commands. -/
def State.wdNoted (s : State) (i : Nat) : State :=
  ((s.put ⟨R.WARDEN_STICKY, 4 + i, 1⟩ 1).wr (R.WARDEN_DEMAND_TICK i) s.now32).raise FS.WARDEN_DEMAND

theorem State.wdAccept_eq (s : State) (i : Nat) : s.wdAccept i = (s.wdNoted i).wdReact := rfl

theorem State.wdFilt_input {s : State} {i : Nat} (b : Bool) (h : i < 2) : s.wdFilt i b = (s.wdFiltered i b).wdEval i := if_pos h

theorem State.wdEval_used {s : State} {i : Nat} (h : s.wdUsed i = true) :
    s.wdEval i = if s.wdDemand i && !s.flag (wdNowF i) then (s.wdJudged i).wdAccept i else s.wdJudged i := if_neg (by simp [h])

theorem State.wdFiltered_frame (s : State) (i : Nat) (b : Bool) : Keeps [wdFiltF i b] [.warden] s (s.wdFiltered i b) :=
  .beside' (.put' (.refl _ _ s))

theorem State.wdFiltered_level (s : State) (i : Nat) (b : Bool) : (s.wdFiltered i b).flag (wdFiltF i b) = s.flag (wdRawF i b) :=
  State.flag_put_bool s _ _ (wdFltF_fits i b).2.2.1 (wdFltF_fits i b).2.2.2

theorem State.wdJudged_frame (s : State) (i : Nat) : Keeps [wdNowF i, F.WARDEN_LEVEL_STATE i] [] s (s.wdJudged i) :=
  .ite' (.put' (.refl _ _ s)) (.put' (.put' (.refl _ _ s)))

theorem State.wdJudged_now (s : State) {i : Nat} (h : i < 2) : (s.wdJudged i).flag (wdNowF i) = s.wdDemand i := by
  have hnow : (s.put (wdNowF i) (b2n (s.wdDemand i))).flag (wdNowF i) = s.wdDemand i :=
    State.flag_put_bool s _ _ rfl (by simp [wdNowF]; omega)
  unfold State.wdJudged
  split
  · exact hnow
  · exact (State.flag_put_other _ _ _ _ (by simp [wdNowF]; omega)).trans hnow

theorem State.wdNoted_frame (s : State) (i : Nat) :
    Keeps [⟨R.WARDEN_STICKY, 4 + i, 1⟩, whole (R.WARDEN_DEMAND_TICK i)] [.raised] s (s.wdNoted i) := .raise' (.wr' (.put' (.refl _ _ s)))

theorem State.wdDemand_congr {s t : State} {i : Nat}
    (h : ∀ g ∈ [F.WARDEN_CFG_USE i, F.WARDEN_LEVEL_FILT_A i, F.WARDEN_LEVEL_FILT_B i], t.get g = s.get g) : t.wdDemand i = s.wdDemand i := by
  simp only [List.forall_mem_cons] at h
  obtain ⟨huse, ha, hb, -⟩ := h
  simp [State.wdDemand, State.wdUsed, State.wdDemandCh, State.flag, wdFiltF, huse, ha, hb]

/-- A field of the Warden's configuration or levels, as an evaluation leaves it. -/
theorem State.wdEval_get (s : State) {i : Nat} (g : Fld) (hg : ∀ f ∈ [wdNowF i, F.WARDEN_LEVEL_STATE i], f.apart g = true)
    (ha : g.addr ≠ R.WARDEN_STATUS ∧ g.addr ≠ R.WARDEN_STICKY ∧ g.addr ≠ R.WARDEN_REACT_TICK ∧ g.addr ≠ R.WARDEN_DEMAND_TICK i)
    (hz : R.WARDEN_STATUS ≤ g.addr ∧ g.addr < R.WARDEN_STATUS + 0x10000) : (s.wdEval i).get g = s.get g := by
  obtain ⟨hstatus, hsticky, hreact, hdemand⟩ := ha
  have hjudged := (s.wdJudged_frame i).get_eq g hg
  unfold State.wdEval
  split
  · rfl
  refine Eq.trans ?_ hjudged
  change (if (s.wdDemand i && !s.flag (wdNowF i)) = true then (s.wdJudged i).wdAccept i else s.wdJudged i).get g = _
  split
  · rw [State.wdAccept_eq]
    refine (State.wdReact_get _ g (by simp [Fld.apart, hstatus.symm]) (by simp [Fld.apart, hstatus.symm]) (by simp [Fld.apart, hsticky.symm]) hreact hz).trans
      (((s.wdJudged i).wdNoted_frame i).get_eq g ?_)
    simp [Fld.apart, whole, hsticky.symm, Ne.symm hdemand]
  · rfl

/-- A demand is accepted: its bit, its tick, its source, and the reaction where it does not stand yet (R489, R492, R493). -/
theorem State.wdAccept_facts (x : State) {i : Nat} (h : i < 2) :
    (x.wdAccept i).flag ⟨R.WARDEN_STICKY, 4 + i, 1⟩ = true ∧ (x.wdAccept i).rd (R.WARDEN_DEMAND_TICK i) = x.now32 ∧
    (x.wdAccept i).raised = x.raised ++ [⟨FS.WARDEN_DEMAND, 0⟩] ∧ (x.wdAccept i).flag F.WARDEN_STATUS_REACTION = true ∧
    (x.flag F.WARDEN_STATUS_REACTION = false →
      (x.wdAccept i).conn = 5 ∧ (x.wdAccept i).get F.RELAY_STATUS_K1_CMD = 0 ∧ (x.wdAccept i).get F.RELAY_STATUS_K2_CMD = 0 ∧
      (x.wdAccept i).rd R.WARDEN_REACT_TICK = x.now32 ∧
      (∀ u < 14, x.pwmState u ≠ 3 → (x.wdAccept i).pwmState u = 0) ∧ ∀ k < 8, (x.wdAccept i).gatesOff k) := by
  rw [State.wdAccept_eq]
  have hnoted := x.wdNoted_frame i
  have hreaction : (x.wdNoted i).flag F.WARDEN_STATUS_REACTION = x.flag F.WARDEN_STATUS_REACTION := hnoted.flag_eq _ (by simp [whole]; omega)
  refine ⟨?_, ?_, ?_, ?_, fun hnone => ?_⟩
  · refine (congrArg (· == 1) (State.wdReact_get _ ⟨R.WARDEN_STICKY, 4 + i, 1⟩ (by simp) (by simp) (by simp; omega) (by simp) (by simp))).trans ?_
    change (((x.put ⟨R.WARDEN_STICKY, 4 + i, 1⟩ 1).wr (R.WARDEN_DEMAND_TICK i) x.now32).flag ⟨R.WARDEN_STICKY, 4 + i, 1⟩) = true
    rw [State.flag_wr_other _ _ _ _ (by simp; omega), State.flag_put_same _ _ _ (by simp; omega)]
    rfl
  · refine BitVec.eq_of_toNat_eq ?_
    rw [← State.get_whole, State.wdReact_get _ (whole (R.WARDEN_DEMAND_TICK i)) (by simp [whole]; omega) (by simp [whole]; omega) (by simp [whole]; omega)
      (by simp [whole]; omega) (by simp [whole]; omega), State.get_whole]
    exact congrArg BitVec.toNat (State.rd_wr_same _ _ _)
  · exact ((x.wdNoted i).wdReact_outside.2 .raised (by decide)).trans rfl
  · cases hr : (x.wdNoted i).flag F.WARDEN_STATUS_REACTION with
    | true => rw [State.wdReact_of_reaction hr, hr]
    | false => exact (State.wdReact_facts hr).2.2.2.2.1
  · obtain ⟨hconn, hK1, hK2, htick, -, hunits, hgates⟩ := State.wdReact_facts (hreaction.trans hnone)
    have hstate (u : Nat) (hu : u < 14) : (x.wdNoted i).pwmState u = x.pwmState u := hnoted.get_eq _ (by simp [whole]; omega)
    exact ⟨hconn, hK1, hK2, htick, fun u hu hfree => hunits u hu ((hstate u hu).symm ▸ hfree), hgates⟩

/-! ### Faults and test pulses (R487, R488, R491) -/

/-- The sticky bit of a discrepancy (code 3) or of a failed test pulse (code 4). -/
def wdFaultF (i code : Nat) : Fld := ⟨R.WARDEN_STICKY, (if code = 3 then 8 else 12) + i, 1⟩

theorem State.wdFault_eq (s : State) (i code : Nat) : s.wdFault i code =
    if s.wdFaulted i then s.put (wdFaultF i code) 1 else ((s.put (wdFaultF i code) 1).put (F.WARDEN_LEVEL_STATE i) code).raise FS.WARDEN_FAULT := by
  have hsame : (s.put (wdFaultF i code) 1).wdFaulted i = s.wdFaulted i :=
    congrArg (decide <| 3 ≤ ·) (State.get_put_other _ _ _ _ (by simp [wdFaultF]; omega))
  change (if (s.put (wdFaultF i code) 1).wdFaulted i = true then _ else _) = _
  rw [hsame]
  rfl

theorem State.wdFault_frame (s : State) (i code : Nat) : Keeps [wdFaultF i code, F.WARDEN_LEVEL_STATE i] [.raised] s (s.wdFault i code) := by
  rw [State.wdFault_eq]
  exact .ite' (.put' (.refl _ _ s)) (.raise' (.put' (.put' (.refl _ _ s))))

theorem State.wdFault_sticky (s : State) {i code : Nat} (hi : i < 3) : (s.wdFault i code).flag (wdFaultF i code) = true := by
  have hfits : (wdFaultF i code).lo + (wdFaultF i code).len ≤ 32 := by simp [wdFaultF]; split <;> omega
  have hset : (s.put (wdFaultF i code) 1).flag (wdFaultF i code) = true := by
    rw [State.flag_put_same _ _ _ hfits]
    rfl
  rw [State.wdFault_eq]
  split
  · exact hset
  · exact (State.flag_put_other _ _ _ _ (by simp [wdFaultF]; omega)).trans hset

theorem State.wdFault_faulted {s : State} {i : Nat} (code : Nat) (h : s.wdFaulted i = true) : s.wdFault i code = s.put (wdFaultF i code) 1 := by
  rw [State.wdFault_eq, if_pos h]

theorem State.wdFault_enters {s : State} {i code : Nat} (hcode : code < 8) (h : s.wdFaulted i = false) :
    (s.wdFault i code).get (F.WARDEN_LEVEL_STATE i) = code ∧ (s.wdFault i code).raised = s.raised ++ [⟨FS.WARDEN_FAULT, 0⟩] := by
  rw [State.wdFault_eq, if_neg (by simp [h])]
  exact ⟨(State.get_put_same _ _ _ (by simp)).trans (Nat.mod_eq_of_lt hcode), rfl⟩

/-- A channel that should be low at a test pulse's check, or a partner that should be high, is judged: a wrong one is a fault. -/
def State.tpFailed (s : State) (i : Nat) (bad : Bool) : State := if bad then (s.incSat F.WARDEN_TP_CNT_FAILED).wdFault i 4 else s

/-- The check of one channel of a pulse. -/
def State.tpJudged (b : Bool) (s : State) (i : Nat) : State :=
  (s.incWrap F.WARDEN_TP_CNT_MADE).tpFailed i ((s.incWrap F.WARDEN_TP_CNT_MADE).flag (wdRawF i b))

theorem State.tpFailed_frame (s : State) (i : Nat) (bad : Bool) :
    Keeps [F.WARDEN_TP_CNT_FAILED, wdFaultF i 4, F.WARDEN_LEVEL_STATE i] [.raised] s (s.tpFailed i bad) :=
  .ite' (.after (State.wdFault_frame ..) (.incSat' (.refl _ _ s))) (.refl _ _ s)

theorem State.tpJudged_frame (b : Bool) (s : State) (i : Nat) :
    Keeps [F.WARDEN_TP_CNT_MADE, F.WARDEN_TP_CNT_FAILED, wdFaultF i 4, F.WARDEN_LEVEL_STATE i] [.raised] s (s.tpJudged b i) :=
  .after (State.tpFailed_frame ..) (.incWrap' (.refl _ _ s))

theorem State.tpFailed_facts (s : State) {i : Nat} (hi : i < 2) : (s.tpFailed i true).flag (wdFaultF i 4) = true ∧
    (s.wdFaulted i = false → (s.tpFailed i true).get (F.WARDEN_LEVEL_STATE i) = 4) := by
  have hsame : (s.incSat F.WARDEN_TP_CNT_FAILED).wdFaulted i = s.wdFaulted i :=
    congrArg (decide <| 3 ≤ ·) (State.get_put_other _ _ _ _ (by simp))
  exact ⟨State.wdFault_sticky (s := s.incSat F.WARDEN_TP_CNT_FAILED) (code := 4) (by omega), fun h => (State.wdFault_enters (by decide) (hsame.trans h)).1⟩

/-- Two steps of a check or of an end leave one another's channel. -/
theorem wdFaultF_apart {i k : Nat} (hi : i < 2) (hk : k < 2) (h : k ≠ i) (b : Bool) :
    ∀ f ∈ [F.WARDEN_TP_CNT_MADE, F.WARDEN_TP_CNT_FAILED, wdFaultF k 4, F.WARDEN_LEVEL_STATE k],
      ∀ g ∈ [wdFaultF i 4, F.WARDEN_LEVEL_STATE i, wdRawF i b], f.apart g = true := by
  cases b <;> simp [wdFaultF, wdRawF] <;> omega

/-- In a run over channels, one that is found high is faulted, whatever the others are. -/
theorem State.tpRun_fails {g : State → Nat → State} {b : Bool} {ks : List Nat} {i : Nat} (hnd : ks.Nodup) (hks : ∀ k ∈ ks, k < 2) (hi : i ∈ ks)
    (hframe : ∀ t k, Keeps [F.WARDEN_TP_CNT_MADE, F.WARDEN_TP_CNT_FAILED, wdFaultF k 4, F.WARDEN_LEVEL_STATE k] [.raised] t (g t k))
    (hself : ∀ t, t.flag (wdRawF i b) = true →
      (g t i).flag (wdFaultF i 4) = true ∧ (t.wdFaulted i = false → (g t i).get (F.WARDEN_LEVEL_STATE i) = 4))
    {s : State} (hraw : s.flag (wdRawF i b) = true) : (s.forEach ks g).flag (wdFaultF i 4) = true ∧
      (s.wdFaulted i = false → (s.forEach ks g).get (F.WARDEN_LEVEL_STATE i) = 4) := by
  refine State.forEach_at (P := fun t => t.flag (wdRawF i b) = true ∧ t.get (F.WARDEN_LEVEL_STATE i) = s.get (F.WARDEN_LEVEL_STATE i))
    (Q := fun t => t.flag (wdFaultF i 4) = true ∧ (s.wdFaulted i = false → t.get (F.WARDEN_LEVEL_STATE i) = 4)) hnd hi
    (fun k hk hne t ht => ?_) (fun t ht => ?_) (fun k hk hne t ht => ?_) s ⟨hraw, rfl⟩
  · have hapart := wdFaultF_apart (hks i hi) (hks k hk) hne b
    exact ⟨((hframe t k).flag_eq _ fun f hf => hapart f hf _ (by simp)).trans ht.1,
      ((hframe t k).get_eq _ fun f hf => hapart f hf _ (by simp)).trans ht.2⟩
  · obtain ⟨hsticky, hstate⟩ := hself t ht.1
    exact ⟨hsticky, fun h => hstate ((congrArg (decide <| 3 ≤ ·) ht.2).trans h)⟩
  · have hapart := wdFaultF_apart (hks i hi) (hks k hk) hne b
    exact ⟨((hframe t k).flag_eq _ fun f hf => hapart f hf _ (by simp)).trans ht.1,
      fun h => ((hframe t k).get_eq _ fun f hf => hapart f hf _ (by simp)).trans (ht.2 h)⟩

/-- The partners that must stay high are noted when a pulse is checked. -/
def State.tpPartnered (s : State) (b : Bool) : State :=
  s.modWarden fun w => { w with tp := w.tp.modify (b2n b) fun o =>
    { o with partner := maskOf 2 fun i => bitOf o.elig i && !s.flag (wdRawF i (!b)) } }

theorem State.tpCheck_eq (s : State) (b : Bool) :
    s.tpCheck b = (s.tpPartnered b).forEach (maskIdx 2 (s.warden.tp.get (b2n b)).elig) (State.tpJudged b) := rfl

/-- The window of a pulse is over: a channel that it held counts from the pulse's start. -/
def State.tpClosed (s : State) (b : Bool) : State :=
  let t := s.modWarden fun w => { w with tp := w.tp.modify (b2n b) fun o => { o with win := false, elig := 0, partner := 0 } }
  t.forEach (List.range 2) fun t i =>
    if t.wdFed i && !t.flag (wdRawF i b) && t.flag (wdFiltF i b) then
      t.modWdCh i b fun c => { c with since := some (match c.since with
        | some x => min x (s.warden.tp.get (b2n b)).start
        | none => (s.warden.tp.get (b2n b)).start) }
    else t

theorem State.tpEnd_eq (s : State) (b : Bool) : s.tpEnd b =
    (s.tpClosed b).forEach (maskIdx 2 (s.warden.tp.get (b2n b)).partner) fun s i => s.tpFailed i (s.flag (wdRawF i (!b))) := rfl

theorem State.tpClosed_frame (s : State) (b : Bool) : Keeps [] [.warden] s (s.tpClosed b) :=
  .forEach' (.beside' (.refl _ _ s)) fun _ _ => .ite' (.beside' (.refl _ _ _)) (.refl _ _ _)

theorem State.tpClosed_window (s : State) (b : Bool) : ((s.tpClosed b).warden.tp.get (b2n b)).win = false := by
  refine State.forEach_inv (P := fun t => (t.warden.tp.get (b2n b)).win = false) (fun k _ t ht => ?_) _ ?_
  · split
    · exact ht
    · exact ht
  · exact congrArg TestOut.win (SMap.get_set_same _ _ _)

/-! ### The permit's key (R501) -/

/-- The word of a permit write: the key, TIME and one command bit. -/
theorem permitWord_parts (time : BitVec 10) {c : Nat} (hc : c < 4) :
    bitsOf (w32 (0x96E1 * 65536 + time.toNat * 64 + c)).toNat 16 16 = 0x96E1 ∧ bitsOf (w32 (0x96E1 * 65536 + time.toNat * 64 + c)).toNat 6 10 = time.toNat ∧
    bitOf (w32 (0x96E1 * 65536 + time.toNat * 64 + c)).toNat 0 = (c % 2 == 1) ∧ bitOf (w32 (0x96E1 * 65536 + time.toNat * 64 + c)).toNat 1 = (c / 2 % 2 == 1) := by
  have ht := time.isLt
  have hword : (w32 (0x96E1 * 65536 + time.toNat * 64 + c)).toNat = 0x96E1 * 65536 + time.toNat * 64 + c := by
    simp only [w32, BitVec.toNat_ofNat]
    omega
  rw [hword]
  refine ⟨by simp only [bitsOf]; omega, by simp only [bitsOf]; omega, ?_, ?_⟩
  · simp only [bitOf, pow_zero, Nat.div_one]
    congr 1
    omega
  · simp only [bitOf, pow_one]
    congr 1
    omega

theorem State.cfgReject_warden (s : State) : s.cfgReject .warden = s.set1 F.WARDEN_STICKY_CFG_REJECT := rfl

theorem wdRawF_apart (i : Nat) (b : Bool) : (wdRawF i b).apart (wdFiltF i b) = true := by cases b <;> simp [wdRawF, wdFiltF]

/-- A raw level that changes. -/
theorem State.wdRaw_changes {s : State} {i : Nat} {b level : Bool} (h : s.flag (wdRawF i b) = !level) :
    s.wdRaw i b level = (s.put (wdRawF i b) (b2n level)).modWdCh i b fun c =>
      { c with rawAt := s.mono, since := if s.flag (wdFiltF i b) = level then none else some s.mono } := by
  have hsame : (s.put (wdRawF i b) (b2n level)).flag (wdFiltF i b) = s.flag (wdFiltF i b) := State.flag_put_other _ _ _ _ (wdRawF_apart i b)
  refine (if_neg (by simp [h])).trans ?_
  simp only [hsame, beq_iff_eq]
  rfl

/-- The filtered level of an input that demands or ceases to (R489). -/
theorem State.wdFilt_eval {s : State} {i : Nat} (hi : i < 2) (b : Bool) (hused : s.wdUsed i = true) : s.wdFilt i b =
    if (s.wdFiltered i b).wdDemand i && !s.flag (wdNowF i) then ((s.wdFiltered i b).wdJudged i).wdAccept i else (s.wdFiltered i b).wdJudged i := by
  have hnow : (s.wdFiltered i b).flag (wdNowF i) = s.flag (wdNowF i) :=
    (s.wdFiltered_frame i b).flag_eq _ (by cases b <;> simp [wdNowF, wdFiltF] <;> omega)
  have husedf : (s.wdFiltered i b).wdUsed i = true := by
    rw [← hused]
    exact congrArg (· != 0) ((s.wdFiltered_frame i b).get_eq _ (by cases b <;> simp [wdFiltF]))
  rw [State.wdFilt_input b hi, State.wdEval_used husedf, hnow]

/-- The fields that say whether an input demands are not among those that an evaluation writes. -/
theorem wdLevels_apart {i : Nat} (hi : i < 2) {g : Fld} (hg : g ∈ [F.WARDEN_CFG_USE i, F.WARDEN_LEVEL_FILT_A i, F.WARDEN_LEVEL_FILT_B i]) :
    (∀ f ∈ [wdNowF i, F.WARDEN_LEVEL_STATE i], f.apart g = true) ∧
    (g.addr ≠ R.WARDEN_STATUS ∧ g.addr ≠ R.WARDEN_STICKY ∧ g.addr ≠ R.WARDEN_REACT_TICK ∧ g.addr ≠ R.WARDEN_DEMAND_TICK i) ∧
    R.WARDEN_STATUS ≤ g.addr ∧ g.addr < R.WARDEN_STATUS + 0x10000 := by
  simp only [List.mem_cons, List.not_mem_nil, or_false] at hg
  obtain rfl | rfl | rfl := hg <;> simp [wdNowF] <;> omega

theorem wdFiltF_mem (i : Nat) (b : Bool) : wdFiltF i b ∈ [F.WARDEN_CFG_USE i, F.WARDEN_LEVEL_FILT_A i, F.WARDEN_LEVEL_FILT_B i] := by
  cases b <;> simp [wdFiltF]

theorem State.wdFilt_demand {s : State} {i : Nat} (hi : i < 2) (b : Bool) :
    (s.wdFilt i b).wdDemand i = (s.wdFiltered i b).wdDemand i ∧ (s.wdFilt i b).flag (wdFiltF i b) = s.flag (wdRawF i b) := by
  have hkept (g : Fld) (hg : g ∈ [F.WARDEN_CFG_USE i, F.WARDEN_LEVEL_FILT_A i, F.WARDEN_LEVEL_FILT_B i]) :
      ((s.wdFiltered i b).wdEval i).get g = (s.wdFiltered i b).get g := by
    obtain ⟨happart, haddr, hzone⟩ := wdLevels_apart hi hg
    exact State.wdEval_get _ g happart haddr hzone
  rw [State.wdFilt_input b hi]
  exact ⟨State.wdDemand_congr hkept, (congrArg (· == 1) (hkept _ (wdFiltF_mem i b))).trans (s.wdFiltered_level i b)⟩

theorem State.wdJudged_raised (s : State) (i : Nat) : (s.wdJudged i).raised = s.raised := (s.wdJudged_frame i).2 .raised (by simp)

theorem State.wdAccept_outside (x : State) {i : Nat} (hi : i < 2) :
    KeepsOutside [zone R.WARDEN_STATUS, zone R.DIAG_MAINT_REQ, zone R.DRV_STATUS, zone R.LANE_STATUS, zone (R.PWM_CTRL 0), zone R.GRID_CFG,
      zone R.RELAY_CFG] [.raised, .diag, .drive, .grid, .mem, .pwm, .relay, .shadow] x (x.wdAccept i) := by
  rw [State.wdAccept_eq]
  exact .after (State.wdReact_outside _) (.raise' (.wr' (.put' (.refl _ _ x))))

theorem State.wdFilt_outside (s : State) {i : Nat} (hi : i < 3) (b : Bool) :
    KeepsOutside [zone R.WARDEN_STATUS, zone R.DIAG_MAINT_REQ, zone R.DRV_STATUS, zone R.LANE_STATUS, zone (R.PWM_CTRL 0), zone R.GRID_CFG,
      zone R.RELAY_CFG] [.warden, .raised, .diag, .drive, .grid, .mem, .pwm, .relay, .shadow] s (s.wdFilt i b) := by
  have hfilt : KeepsOutside [zone R.WARDEN_STATUS] [.warden] s (s.wdFiltered i b) :=
    (s.wdFiltered_frame i b).toOutside (by cases b <;> simp [wdFiltF] <;> omega)
  have hjudged : KeepsOutside [zone R.WARDEN_STATUS] [] (s.wdFiltered i b) ((s.wdFiltered i b).wdJudged i) :=
    (State.wdJudged_frame _ i).toOutside (by simp [wdNowF]; omega)
  by_cases hi2 : i < 2
  · rw [State.wdFilt_input b hi2]
    refine .ite' (.after hfilt (.refl _ _ s)) ?_
    change KeepsOutside _ _ s (if ((s.wdFiltered i b).wdDemand i && !(s.wdFiltered i b).flag (wdNowF i)) = true then
      ((s.wdFiltered i b).wdJudged i).wdAccept i else (s.wdFiltered i b).wdJudged i)
    exact .ite' (.after (State.wdAccept_outside _ hi2) (.after hjudged (.after hfilt (.refl _ _ s)))) (.after hjudged (.after hfilt (.refl _ _ s)))
  · rw [State.wdFilt, if_neg hi2]
    exact .beside' (.after hfilt (.refl _ _ s))

theorem State.wdAccept_now (x : State) {i : Nat} (hi : i < 2) : (x.wdAccept i).flag (wdNowF i) = x.flag (wdNowF i) := by
  rw [State.wdAccept_eq]
  exact (congrArg (· == 1) (State.wdReact_get _ (wdNowF i) (by simp [wdNowF]; omega) (by simp [wdNowF]; omega) (by simp [wdNowF]) (by simp [wdNowF])
    (by simp [wdNowF]))).trans ((x.wdNoted_frame i).flag_eq _ (by simp [wdNowF, whole]; omega))

/-- A demand that begins: what is recorded, and the state that the reaction commands. -/
theorem State.wdFilt_accepts {s : State} {i : Nat} (hi : i < 2) (b : Bool) (hused : s.wdUsed i = true) (hnow : s.flag (wdNowF i) = false)
    (hdemand : (s.wdFiltered i b).wdDemand i = true) :
    (s.wdFilt i b).flag ⟨R.WARDEN_STICKY, 4 + i, 1⟩ = true ∧ (s.wdFilt i b).rd (R.WARDEN_DEMAND_TICK i) = BitVec.ofNat 32 s.epoch ∧
    (s.wdFilt i b).raised = s.raised ++ [⟨FS.WARDEN_DEMAND, 0⟩] ∧ (s.wdFilt i b).flag F.WARDEN_STATUS_REACTION = true ∧
    (s.flag F.WARDEN_STATUS_REACTION = false →
      (s.wdFilt i b).conn = 5 ∧ (s.wdFilt i b).get F.RELAY_STATUS_K1_CMD = 0 ∧ (s.wdFilt i b).get F.RELAY_STATUS_K2_CMD = 0 ∧
      (s.wdFilt i b).rd R.WARDEN_REACT_TICK = BitVec.ofNat 32 s.epoch ∧
      (∀ u : Fin 14, s.pwmState u ≠ 3 → (s.wdFilt i b).pwmState u = 0) ∧
      ∀ h : Fin 8, (s.wdFilt i b).get (F.DRV_HB_STATUS_HO h) = 0 ∧ (s.wdFilt i b).get (F.DRV_HB_STATUS_LO h) = 0) := by
  rw [State.wdFilt_eval hi b hused, if_pos (by simp [hdemand, hnow])]
  have hpre := s.wdFiltered_frame i b
  have hjudge := (s.wdFiltered i b).wdJudged_frame i
  obtain ⟨hsticky, htick, hraised, hreact, hfirst⟩ := State.wdAccept_facts ((s.wdFiltered i b).wdJudged i) hi
  have hepoch : ((s.wdFiltered i b).wdJudged i).now32 = BitVec.ofNat 32 s.epoch :=
    congrArg (BitVec.ofNat 32) ((hjudge.2 .epoch (by simp)).trans (hpre.2 .epoch (by simp)))
  refine ⟨hsticky, htick.trans hepoch, hraised.trans (by rw [State.wdJudged_raised]; rfl), hreact, fun hnone => ?_⟩
  have hreaction : ((s.wdFiltered i b).wdJudged i).flag F.WARDEN_STATUS_REACTION = false :=
    (hjudge.flag_eq _ (by simp [wdNowF]; omega)).trans ((hpre.flag_eq _ (by cases b <;> simp [wdFiltF])).trans hnone)
  obtain ⟨hconn, hK1, hK2, hrtick, hunits, hgates⟩ := hfirst hreaction
  refine ⟨hconn, hK1, hK2, hrtick.trans hepoch, fun u hu => hunits u u.isLt ?_, fun k => hgates k k.isLt⟩
  have hstate : ((s.wdFiltered i b).wdJudged i).pwmState u = s.pwmState u :=
    (hjudge.get_eq _ (by simp [wdNowF]; omega)).trans (hpre.get_eq _ (by cases b <;> simp [wdFiltF] <;> omega))
  rwa [hstate]

theorem State.tpStart_elig (s : State) (b : Bool) {i : Nat} (hi : i < 2) (t : Nat) : bitOf ((s.tpStart b t).warden.tp.get (b2n b)).elig i =
    (s.wdFed i && s.flag (wdRawF i b) && decide ((s.warden.ch.get (wdKey i b)).rawAt + 80000 ≤ t)) := by
  have hout : ((s.tpStart b t).warden.tp.get (b2n b)).elig =
      maskOf 2 fun i => s.wdFed i && s.flag (wdRawF i b) && decide ((s.warden.ch.get (wdKey i b)).rawAt + 80000 ≤ t) := by simp [State.tpStart, State.modWarden]
  rw [hout, bitOf_maskOf 2 i _ hi]

section
variable (s : State) {b : Bool} {i : Nat}

theorem State.tpCheck_outside (b : Bool) : KeepsOutside [zone R.WARDEN_STATUS] [.raised, .warden] s (s.tpCheck b) := by
  rw [State.tpCheck_eq]
  refine .forEach' (.beside' (.refl _ _ s)) fun k hk t => ?_
  have hlt := lt_of_mem_maskIdx hk
  exact .after ((t.tpJudged_frame b k).toOutside (rs := [zone R.WARDEN_STATUS]) (by simp [wdFaultF]; omega)) (.refl _ _ _)

/-- An eligible channel that is high when the pulse is checked (R488). -/
theorem State.tpCheck_fails (helig : bitOf (s.warden.tp.get (b2n b)).elig i = true) (hi : i < 2) (hraw : s.flag (wdRawF i b) = true) :
    (s.tpCheck b).flag ⟨R.WARDEN_STICKY, 12 + i, 1⟩ = true ∧ (s.wdFaulted i = false → (s.tpCheck b).get (F.WARDEN_LEVEL_STATE i) = 4) := by
  rw [State.tpCheck_eq]
  refine State.tpRun_fails (b := b) (s := s.tpPartnered b) (maskIdx_nodup _ _) (fun _ hk => lt_of_mem_maskIdx hk) (mem_maskIdx.2 ⟨hi, helig⟩)
    (fun t k => t.tpJudged_frame b k) (fun t ht => ?_) hraw
  have hhigh : (t.incWrap F.WARDEN_TP_CNT_MADE).flag (wdRawF i b) = true :=
    (State.flag_put_other _ _ _ _ (by cases b <;> simp [wdRawF] <;> omega)).trans ht
  have hsame : (t.incWrap F.WARDEN_TP_CNT_MADE).wdFaulted i = t.wdFaulted i :=
    congrArg (decide <| 3 ≤ ·) (State.get_put_other _ _ _ _ (by simp; omega))
  rw [State.tpJudged, hhigh, ← hsame]
  exact State.tpFailed_facts _ hi

theorem State.tpCheck_low (hlow : ∀ i : Fin 2, bitOf (s.warden.tp.get (b2n b)).elig i = true → s.flag (wdRawF i b) = false) :
    (s.tpCheck b).raised = s.raised ∧ Keeps [F.WARDEN_TP_CNT_MADE] [.warden] s (s.tpCheck b) := by
  have hkeeps : Keeps [F.WARDEN_TP_CNT_MADE] [.warden] s (s.tpCheck b) := by
    rw [State.tpCheck_eq]
    refine State.forEach_inv (P := fun t => Keeps [F.WARDEN_TP_CNT_MADE] [.warden] s t) (fun k hk t ht => ?_) _ (.beside' (.refl _ _ s))
    obtain ⟨hk2, helig⟩ := mem_maskIdx.1 hk
    have hraw : (t.incWrap F.WARDEN_TP_CNT_MADE).flag (wdRawF k b) = false :=
      ((Keeps.incWrap' ht).flag_eq _ (by cases b <;> simp [wdRawF] <;> omega)).trans (hlow ⟨k, hk2⟩ helig)
    rw [State.tpJudged, hraw]
    exact .incWrap' ht
  exact ⟨hkeeps.2 .raised (by simp), hkeeps⟩

theorem State.tpEnd_outside (b : Bool) : KeepsOutside [zone R.WARDEN_STATUS] [.raised, .warden] s (s.tpEnd b) := by
  rw [State.tpEnd_eq]
  refine .forEach' (.after ((s.tpClosed_frame b).toOutside (rs := [zone R.WARDEN_STATUS]) (by simp)) (.refl _ _ s)) fun k hk t => ?_
  have hlt := lt_of_mem_maskIdx hk
  exact .after ((t.tpFailed_frame k _).toOutside (rs := [zone R.WARDEN_STATUS]) (by simp [wdFaultF]; omega)) (.refl _ _ _)

theorem State.tpEnd_window (b : Bool) : ((s.tpEnd b).warden.tp.get (b2n b)).win = false := by
  rw [State.tpEnd_eq]
  exact State.forEach_inv (P := fun t => (t.warden.tp.get (b2n b)).win = false)
    (fun k _ t ht => (congrArg (fun w : WardenState => (w.tp.get (b2n b)).win) ((t.tpFailed_frame k _).2 .warden (by simp))).trans ht) _ (s.tpClosed_window b)

/-- A partner that must stay high and does not (R488). -/
theorem State.tpEnd_fails (hpartner : bitOf (s.warden.tp.get (b2n b)).partner i = true) (hi : i < 2) (hraw : s.flag (wdRawF i (!b)) = true) :
    (s.tpEnd b).flag ⟨R.WARDEN_STICKY, 12 + i, 1⟩ = true := by
  rw [State.tpEnd_eq]
  refine (State.tpRun_fails (b := !b) (s := s.tpClosed b) (maskIdx_nodup _ _) (fun _ hk => lt_of_mem_maskIdx hk) (mem_maskIdx.2 ⟨hi, hpartner⟩)
    (fun t k => .after (t.tpFailed_frame k _) (.refl _ _ t)) (fun t ht => ?_) (((s.tpClosed_frame b).flag_eq _ (by simp)).trans hraw)).1
  rw [ht]
  exact t.tpFailed_facts hi

end

theorem State.wdResetRefused_facts (s : State) (i : Initiator) :
    (if i == .hpa then s.set1 F.WARDEN_STICKY_RESET_REFUSED else (s.set1 F.WARDEN_STICKY_RESET_REFUSED).cfgReject .warden).get
      F.WARDEN_STICKY_RESET_REFUSED = 1 ∧
    (if i == .hpa then s.set1 F.WARDEN_STICKY_RESET_REFUSED else (s.set1 F.WARDEN_STICKY_RESET_REFUSED).cfgReject .warden).flag
      F.WARDEN_STATUS_REACTION = s.flag F.WARDEN_STATUS_REACTION ∧
    Keeps [F.WARDEN_STICKY_RESET_REFUSED, F.WARDEN_STICKY_CFG_REJECT] [] s
      (if i == .hpa then s.set1 F.WARDEN_STICKY_RESET_REFUSED else (s.set1 F.WARDEN_STICKY_RESET_REFUSED).cfgReject .warden) := by
  rw [State.cfgReject_warden]
  split
  · exact ⟨by simp, by simp, .set1' (.refl _ _ s)⟩
  · exact ⟨by simp, by simp, .set1' (.set1' (.refl _ _ s))⟩

/-- The permit is granted for its TIME. -/
def State.wdPermitGranted (s : State) (time : Nat) : State :=
  ((s.put F.WARDEN_PERMIT_TIME time).put F.WARDEN_STATUS_PERMIT 1).modWarden fun w => { w with permitTo := s.mono + time * 800000000 }

section
variable {s : State} {time : BitVec 10}

theorem State.wdPermitTime_frame (s : State) (n : Nat) : Keeps [F.WARDEN_PERMIT_TIME, F.WARDEN_STICKY_CFG_REJECT] [] s (s.wdPermitTime n) := by
  unfold State.wdPermitTime
  rw [State.cfgReject_warden]
  exact .ite' (.put' (.refl _ _ s)) (.set1' (.refl _ _ s))

theorem State.wdPermitOk_time (s : State) (n : Nat) : (s.wdPermitTime n).wdPermitOk = s.wdPermitOk := by
  have hget (g : Fld) (hg : ∀ f ∈ [F.WARDEN_PERMIT_TIME, F.WARDEN_STICKY_CFG_REJECT], f.apart g = true) : (s.wdPermitTime n).get g = s.get g :=
    (s.wdPermitTime_frame n).get_eq g hg
  have hconn : (s.wdPermitTime n).conn = s.conn := hget _ (by decide)
  simp only [State.wdPermitOk, State.wdUsed, State.flag, hconn]
  rw [hget _ (by decide), hget _ (by decide), hget _ (by decide), hget _ (by decide), hget _ (by decide), hget _ (by decide)]

theorem State.wdPermitWrite_key {time : BitVec 10} {c : Nat} (hc : c < 4) : s.wdPermitWrite .hpa (w32 (0x96E1 * 65536 + time.toNat * 64 + c)) =
    if c / 2 % 2 = 1 then (s.wdPermitTime time.toNat).permitEnd
    else if c % 2 = 1 then (s.wdPermitTime time.toNat).wdPermitReq time.toNat else s.wdPermitTime time.toNat := by
  obtain ⟨hkey, htime, hreq, hend⟩ := permitWord_parts time hc
  unfold State.wdPermitWrite
  simp only [hkey, htime, hreq, hend, beq_iff_eq]
  rfl

theorem State.wdPermitWrite_grants (h1 : 1 ≤ time.toNat) (h600 : time.toNat ≤ 600) (hok : s.wdPermitOk = true) :
    s.wdPermitWrite .hpa (w32 (0x96E1 * 65536 + time.toNat * 64 + 1)) = s.wdPermitGranted time.toNat := by
  have htime : s.wdPermitTime time.toNat = s.put F.WARDEN_PERMIT_TIME time.toNat := if_pos ⟨h1, h600⟩
  have hokt := s.wdPermitOk_time time.toNat
  rw [State.wdPermitWrite_key (by decide), if_neg (by decide), if_pos (by decide), State.wdPermitReq, if_pos ⟨h1, h600, hokt.trans hok⟩, htime]
  rfl

theorem State.get_modWarden (s : State) (f : WardenState → WardenState) (g : Fld) : (s.modWarden f).get g = s.get g := rfl

theorem State.flag_modWarden (s : State) (f : WardenState → WardenState) (g : Fld) : (s.modWarden f).flag g = s.flag g := rfl

theorem State.modWarden_frame (s : State) (f : WardenState → WardenState) : Keeps [] [.warden] s (s.modWarden f) := .beside' (.refl _ _ s)

theorem State.wdPermitGranted_facts (s : State) (time : BitVec 10) : (s.wdPermitGranted time.toNat).flag F.WARDEN_STATUS_PERMIT = true ∧
    (s.wdPermitGranted time.toNat).warden.permitTo = s.mono + time.toNat * 800000000 ∧
    (s.wdPermitGranted time.toNat).get F.WARDEN_PERMIT_TIME = time.toNat ∧
    Keeps [F.WARDEN_STATUS_PERMIT, F.WARDEN_PERMIT_TIME] [.warden] s (s.wdPermitGranted time.toNat) := by
  unfold State.wdPermitGranted
  refine ⟨?_, by simp only [State.modWarden], ?_, .after (State.modWarden_frame _ _) (.put' (.put' (.refl _ _ s)))⟩
  · rw [State.flag_modWarden]
    exact State.flag_put_bool _ _ true rfl (by decide)
  · rw [State.get_modWarden, State.get_put_other _ _ _ _ (by decide), State.get_put_same _ _ _ (by decide)]
    exact Nat.mod_eq_of_lt time.isLt

/-- A request that may not be granted sets PERMIT_REFUSED (R501). -/
theorem State.wdPermitWrite_refuses (i : Initiator) (hno : i ≠ .hpa ∨ s.wdPermitOk = false ∨ time.toNat = 0 ∨ 600 < time.toNat) :
    ∃ t, exec (.wardenPermitRequest i time) s = .next t ∧ t.get F.WARDEN_STICKY_PERMIT_REFUSED = 1 ∧
      t.get F.WARDEN_STATUS_PERMIT = s.get F.WARDEN_STATUS_PERMIT ∧
      Keeps [F.WARDEN_STICKY_PERMIT_REFUSED, F.WARDEN_STICKY_CFG_REJECT, F.WARDEN_PERMIT_TIME] [] s t := by
  by_cases hi : i = .hpa
  · subst hi
    have hframe := s.wdPermitTime_frame time.toNat
    have hrefused : s.wdPermitWrite .hpa (w32 (0x96E1 * 65536 + time.toNat * 64 + 1)) =
        (s.wdPermitTime time.toNat).set1 F.WARDEN_STICKY_PERMIT_REFUSED := by
      rw [State.wdPermitWrite_key (by decide), if_neg (by decide), if_pos (by decide), State.wdPermitReq, if_neg]
      rintro ⟨h1, h600, hok⟩
      rw [State.wdPermitOk_time] at hok
      rcases hno with h | h | h | h
      · exact h rfl
      · exact absurd (hok.symm.trans h) (by decide)
      · omega
      · omega
    exact ⟨_, congrArg Host.Outcome.next hrefused, State.get_put_same _ _ _ (by decide),
      (State.get_put_other _ _ _ _ (by decide)).trans (hframe.get_eq _ (by decide)), .set1' (.after hframe (.refl _ _ s))⟩
  · have hreq := (permitWord_parts time (c := 1) (by decide)).2.2.1
    have hrefused : s.wdPermitWrite i (w32 (0x96E1 * 65536 + time.toNat * 64 + 1)) =
        (s.set1 F.WARDEN_STICKY_CFG_REJECT).set1 F.WARDEN_STICKY_PERMIT_REFUSED := by
      refine (if_pos (by simpa using hi)).trans ?_
      rw [hreq]
      rfl
    exact ⟨_, congrArg Host.Outcome.next hrefused, State.get_put_same _ _ _ (by decide),
      (State.get_put_other _ _ _ _ (by decide)).trans (State.get_put_other _ _ _ _ (by decide)), .set1' (.set1' (.refl _ _ s))⟩

/-- The permit in force ends, and FORCE returns to 0 (R298, R501). -/
theorem State.permitEnd_facts (h : s.flag F.WARDEN_STATUS_PERMIT = true) :
    s.permitEnd.flag F.WARDEN_STATUS_PERMIT = false ∧ s.permitEnd.get F.WARDEN_STICKY_PERMIT_ENDED = 1 ∧
    (∀ l : Fin 6, s.permitEnd.rd (R.PWM_FORCE (l + 8)) = 0#32) := by
  rw [State.permitEnd_of_permit h]
  have hforce := ((s.put F.WARDEN_STATUS_PERMIT 0).set1 F.WARDEN_STICKY_PERMIT_ENDED).forceEnd_outside
  refine ⟨(congrArg (· == 1) (hforce.get_eq _ (by simp))).trans ?_, (hforce.get_eq _ (by simp)).trans (State.get_put_same _ _ _ (by decide)),
    fun l => State.forceEnd_clears _ l.isLt⟩
  exact (State.flag_put_other _ _ _ _ (by decide)).trans (State.flag_put_bool s _ false rfl (by decide))

end

/-- Settles O34: inputs and demands by the stages of an evaluation, test pulses by the runs over their channels, the reaction and the permit
by their writes. -/
theorem wardenDemandsPulsesResetAndPermit : Obligations.WardenDemandsPulsesResetAndPermit := by
  refine ⟨fun s => ⟨fun i b level h => ?_, fun i b level h => ?_, fun i b hdue => ?_, fun i b hdue => ?_, fun i hbad => ?_⟩,
    fun s b => ⟨fun a hslot hwin hnext hfrom => ?_, fun hslot => ?_, fun hwin hlate => ?_, fun hwin hlate => ?_, fun hwin => ?_⟩,
    fun s => ⟨fun v hok => ?_, fun i v hno => ?_, fun time h1 h600 hok => ?_, fun i time hno => ?_, fun time hon => ?_, fun hon hlate => ?_,
      fun hno => ?_⟩⟩
  · refine ⟨_, congrArg Host.Outcome.next (State.wdRaw_changes h), ?_, congrArg WdChannel.rawAt (SMap.get_set_same _ _ _),
      congrArg WdChannel.since (SMap.get_set_same _ _ _), .beside' (.put' (.refl _ _ s))⟩
    exact State.flag_put_bool s _ _ (wdFltF_fits i b).1 (wdFltF_fits i b).2.1
  · exact congrArg Host.Outcome.next (if_pos (by simp [h]))
  · have hused : s.wdUsed i = true := by
      simp only [State.wdFilterDue, Bool.and_eq_true] at hdue
      exact hdue.1.1
    refine ⟨s.wdFilt i b, if_pos hdue, ?_, fun hi => ?_, fun hi hnow hdemand => ?_, fun hi hno => ?_, fun hi => ?_, s.wdFilt_outside i.isLt b⟩
    · by_cases hi : i.val < 2
      · exact (State.wdFilt_demand hi b).2
      · exact (congrArg (State.flag · _) (if_neg hi)).trans (s.wdFiltered_level i b)
    · rw [(State.wdFilt_demand hi b).1, State.wdFilt_eval hi b hused]
      split
      · exact (State.wdAccept_now _ hi).trans (State.wdJudged_now _ hi)
      · exact State.wdJudged_now _ hi
    · exact State.wdFilt_accepts hi b hused hnow ((State.wdFilt_demand hi b).1.symm.trans hdemand)
    · rw [(State.wdFilt_demand hi b).1] at hno
      rw [State.wdFilt_eval hi b hused, if_neg (by rcases hno with h | h <;> simp [h])]
      exact ⟨(State.wdJudged_raised _ _).trans rfl, .after (State.wdJudged_frame _ _) (.after (s.wdFiltered_frame i b) (.refl _ _ s))⟩
    · rw [State.wdFilt, if_neg (by omega)]
      exact .beside' (.after (s.wdFiltered_frame i b) (.refl _ _ s))
  · exact if_neg (by simp [hdue])
  · have hframe := s.wdFault_frame i 3
    refine ⟨s.wdFault i 3, if_pos hbad, State.wdFault_sticky (s := s) (code := 3) i.isLt, fun h => State.wdFault_enters (by decide) h, fun h => ?_, hframe⟩
    rw [State.wdFault_faulted 3 h]
    exact ⟨State.get_put_other _ _ _ _ (by simp [wdFaultF]; omega), rfl⟩
  · refine ⟨s.tpStart b (s.monoOf a), ?_, congrArg TestOut.win (SMap.get_set_same _ _ _), congrArg TestOut.start (SMap.get_set_same _ _ _),
      fun i => s.tpStart_elig b i.isLt _, .beside' (.refl _ _ s)⟩
    change execTestPulseStart b s = _
    simp only [execTestPulseStart, hslot]
    exact if_pos (by simp [hwin, hnext, hfrom])
  · change execTestPulseStart b s = _
    simp only [execTestPulseStart, hslot]
  · refine ⟨s.tpCheck b, if_pos (by simp [hwin, hlate]), fun i helig hraw => ?_, fun hlow => ?_, ?_⟩
    · exact s.tpCheck_fails helig i.isLt hraw
    · exact s.tpCheck_low hlow
    · exact s.tpCheck_outside b
  · exact ⟨s.tpEnd b, if_pos (by simp [hwin, hlate]), s.tpEnd_window b, fun i hpartner hraw => s.tpEnd_fails hpartner i.isLt hraw, s.tpEnd_outside b⟩
  · exact ⟨if_neg (by simp [hwin]), if_neg (by simp [hwin])⟩
  · exact ⟨_, congrArg Host.Outcome.next (if_pos hok), (congrArg (· == 1) ((State.noteHolds_outside _).get_eq _ (by simp))).trans
      (State.flag_put_bool s _ false rfl (by decide)), .after (State.noteHolds_keeps _) (.put' (.refl _ _ s))⟩
  · have hrefused : s.wdResetOk i v = false := by
      simp only [State.wdResetOk]
      rcases hno with h | h | h | h | h | h | h | h | h <;> simp [h]
    exact ⟨_, congrArg Host.Outcome.next (if_neg (by simp [hrefused])), s.wdResetRefused_facts i⟩
  · exact ⟨_, congrArg Host.Outcome.next (State.wdPermitWrite_grants h1 h600 hok), s.wdPermitGranted_facts time⟩
  · exact s.wdPermitWrite_refuses i hno
  · have hwrite : s.wdPermitWrite .hpa (w32 (0x96E1 * 65536 + time.toNat * 64 + 2)) = (s.wdPermitTime time.toNat).permitEnd :=
      (State.wdPermitWrite_key (by decide)).trans (if_pos (by decide))
    have hframe := s.wdPermitTime_frame time.toNat
    obtain ⟨hpermit, hended, hforce⟩ := State.permitEnd_facts ((hframe.flag_eq _ (by decide)).trans hon)
    exact ⟨_, congrArg Host.Outcome.next hwrite, hpermit, hended, hforce,
      .after (State.permitEnd_outside _) (.after (hframe.toOutside (rs := [zone R.WARDEN_STATUS]) (by simp)) (.refl _ _ s))⟩
  · obtain ⟨hpermit, hended, hforce⟩ := State.permitEnd_facts hon
    exact ⟨s.permitEnd, if_pos (by simp [hon, hlate]), hpermit, hended, hforce, s.permitEnd_outside⟩
  · exact if_neg (by rcases hno with h | h <;> simp [h])

end Sys2Proof.Machine
end

section
/-!
Proofs about the actions of the schedule (chapter 03).
The proofs are elaborated in turn: in one text, proofs that wait for each other would each hold a thread.
-/

set_option Elab.async false

namespace Sys2Proof.Machine

/-! # O11: the actions of the schedule (chapter 03, Table EPOCH-3) -/

/-! ### Frames of the actions that other blocks take -/

theorem State.openRequest_outside (s : State) (i : Initiator) :
    KeepsOutside [zone R.GRID_CFG, zone R.RELAY_CFG, zone (R.PWM_CTRL 0)] [.raised, .shadow, .draws, .pwm, .drive, .grid, .relay, .cour] s (s.openRequest i) :=
  .ite' (.cfgReject' (.refl _ _ _)) (.after (State.gridTrip_outside ..) (.refl _ _ _))

theorem State.closeRequest_outside (s : State) (hpa : Bool) (both : Bool) :
    KeepsOutside [zone R.RELAY_CFG, zone R.WARDEN_STATUS, zone (R.PWM_CTRL 0), zone R.GRID_CFG] [.draws, .pwm, .relay] s (s.closeRequest hpa both) := by
  unfold State.closeRequest
  split
  · exact .put' (.set1' (.refl _ _ _))
  · exact .ite' (.drew' (.put' (.set1' (.refl _ _ _)))) (.after (State.permitEnd_outside ..) (.after (State.modRelay_outside ..) (.after (State.setConn_outside ..) (.after (State.relayDrive_outside ..) (.refl _ _ _)))))

theorem State.relayCmd_outside (s : State) (param : ℕ) (target : ℕ) :
    KeepsOutside [zone R.GRID_CFG, zone R.RELAY_CFG, zone (R.PWM_CTRL 0), zone R.WARDEN_STATUS] [.raised, .shadow, .draws, .pwm, .drive, .grid, .relay, .cour] s (s.relayCmd param target) :=
  .ite' (.after (State.openRequest_outside ..) (.refl _ _ _)) (.ite' (.after (State.closeRequest_outside ..) (.refl _ _ _)) (.refl _ _ _))

theorem State.wcTestStart_outside (s : State) :
    KeepsOutside [zone R.WCMPG_STATUS, zone R.WCMPP_STATUS, zone R.DRV_STATUS, zone R.LANE_STATUS] [.wcmp, .drive, .pwm, .diag, .relay] s s.wcTestStart :=
  .after (State.wcTestQueue_outside _ _ (fun _ hc => lt_of_mem_maskIdx (List.mem_of_mem_filter hc))) (.refl _ _ _)

theorem State.modIv_outside (s : State) (x : ℕ) (f : IvTrace → IvTrace) :
    KeepsOutside [] [.diag] s (s.modIv x f) :=
  .beside' (.refl _ _ _)

theorem State.ivStart_outside (s : State) (x : ℕ) :
    KeepsOutside [zone R.DIAG_MAINT_REQ] [.diag, .pwm, .shadow, .mem] s (s.ivStart x) :=
  .after (State.noteHolds_outside ..) (.after (State.ivSlots_outside ..) (.wr' (.put' (.put' (.put' (.after (State.modIv_outside ..) (.refl _ _ _)))))))

theorem State.maintBegin_outside (s : State) (c : ℕ) :
    KeepsOutside [zone R.SENSG_STATUS, zone R.SENSP_STATUS, zone R.WCMPG_STATUS, zone R.WCMPP_STATUS, zone R.DRV_STATUS, zone R.LANE_STATUS, zone R.DIAG_MAINT_REQ, zone R.RELAY_CFG] [.sens, .diag, .wcmp, .drive, .pwm, .relay, .shadow, .mem] s (s.maintBegin c) := by
  unfold State.maintBegin
  split
  · exact .after (State.calStart_outside ..) (.refl _ _ _)
  · exact .after (State.calStart_outside ..) (.refl _ _ _)
  · exact .comp (.ite' (.after (State.maintEnd_outside _ _ _ (by decide)) (.refl _ _ _)) (.refl _ _ _)) (.after (State.wcTestStart_outside ..) (.beside' (.refl _ _ _)))
  · exact .after (State.ivStart_outside ..) (.refl _ _ _)
  · exact .after (State.ivStart_outside ..) (.refl _ _ _)
  · exact .after (State.ivStart_outside ..) (.refl _ _ _)
  · exact .after (State.ivStart_outside ..) (.refl _ _ _)
  · exact .beside' (.refl _ _ _)
  · exact .after (State.modRelay_outside ..) (.put' (.after (State.relayDrive_outside ..) (.after (State.relayDrive_outside ..) (.refl _ _ _))))
  · exact (.refl _ _ _)

theorem State.maintRefusal_none_lt {s : State} {r : Requester} {c : Nat} (h : s.maintRefusal r c = none) : c < 14 := by
  unfold State.maintRefusal at h
  split_ifs at h
  all_goals omega

theorem State.maintRequest_outside (s : State) (r : Requester) (c : ℕ) : KeepsOutside [zone R.DIAG_MAINT_REQ, zone R.SENSG_STATUS, zone R.SENSP_STATUS, zone R.WCMPG_STATUS, zone R.WCMPP_STATUS, zone R.DRV_STATUS, zone R.LANE_STATUS, zone R.RELAY_CFG] [.diag, .sens, .wcmp, .drive, .pwm, .relay, .shadow, .mem] s (s.maintRequest r c) := by
  have hnoted (res why blk : Nat) : KeepsOutside [zone R.DIAG_MAINT_REQ, zone R.SENSG_STATUS, zone R.SENSP_STATUS, zone R.WCMPG_STATUS, zone R.WCMPP_STATUS, zone R.DRV_STATUS, zone R.LANE_STATUS, zone R.RELAY_CFG] [.diag, .sens, .wcmp, .drive, .pwm, .relay, .shadow, .mem] s (s.maintNoted c res why blk) := .put' (.put' (.put' (.put' (.refl _ _ s))))
  unfold State.maintRequest
  dsimp only
  split
  · exact .comp (.ite' (.put' (.refl _ _ _)) (.refl _ _ _)) (hnoted _ _ _)
  next h =>
    exact .after (State.maintBegin_outside ..) (.after (State.maintStart_outside _ _ (State.maintRefusal_none_lt h)) (hnoted _ _ _))

theorem State.maintOne_outside (s : State) (t : ℕ) (q : Requester × ℕ) : KeepsOutside [zone R.DIAG_MAINT_REQ, zone R.SENSG_STATUS, zone R.SENSP_STATUS, zone R.WCMPG_STATUS, zone R.WCMPP_STATUS, zone R.DRV_STATUS, zone R.LANE_STATUS, zone R.RELAY_CFG] [.diag, .sens, .wcmp, .drive, .pwm, .relay, .shadow, .mem] s (s.maintOne t q) :=
  .ite' (.refl _ _ _) (.after (State.maintRequest_outside ..) (.ite' (.beside' (.beside' (.refl _ _ _))) (.beside' (.refl _ _ _))))

theorem State.maintBefore_outside (s : State) (t : ℕ) (c : ℕ) : KeepsOutside [zone R.DIAG_MAINT_REQ, zone R.SENSG_STATUS, zone R.SENSP_STATUS, zone R.WCMPG_STATUS, zone R.WCMPP_STATUS, zone R.DRV_STATUS, zone R.LANE_STATUS, zone R.RELAY_CFG] [.diag, .sens, .wcmp, .drive, .pwm, .relay, .shadow, .mem] s (s.maintBefore t c) :=
  .foldl' (.refl _ _ _) (fun _ _ _ => .after (State.maintOne_outside ..) (.refl _ _ _))

theorem State.maintArrive_outside (s : State) (t : ℕ) (r : Requester) (c : ℕ) : KeepsOutside [zone R.DIAG_MAINT_REQ, zone R.SENSG_STATUS, zone R.SENSP_STATUS, zone R.WCMPG_STATUS, zone R.WCMPP_STATUS, zone R.DRV_STATUS, zone R.LANE_STATUS, zone R.RELAY_CFG] [.diag, .sens, .wcmp, .drive, .pwm, .relay, .shadow, .mem] s (s.maintArrive t r c) :=
  .after (State.maintOne_outside ..) (.after (State.maintBefore_outside ..) (.refl _ _ _))

/-! ### What follows a launch (R105) -/

section
variable {s x : State} {e a : Nat} {k : State → State}

theorem State.schedLaunch_due (h : s.schedDue e a = true) : s.schedLaunch e a k = (k s).schedAfter e := if_pos h

theorem State.schedLaunch_not_due (h : s.schedDue e a = false) : s.schedLaunch e a k = s := if_neg (by simp [h])

/-- An action has left the entry that launched it. -/
structure SchedSame (e : Nat) (s x : State) : Prop where
  lo : x.rd (R.SCHED_TIME_LO e) = s.rd (R.SCHED_TIME_LO e)
  hi : x.rd (R.SCHED_TIME_HI e) = s.rd (R.SCHED_TIME_HI e)
  rep : x.rd (R.SCHED_REPEAT e) = s.rd (R.SCHED_REPEAT e)
  count : x.get (F.SCHED_COUNT_COUNT e) = s.get (F.SCHED_COUNT_COUNT e)
  state : x.schedState e = s.schedState e
  late : x.ep.late.get e = s.ep.late.get e
  unlimited : x.ep.unlimited.get e = s.ep.unlimited.get e

theorem SchedSame.of_ep {rs : List (Nat × Nat)} {ps : List Part} (h : KeepsOutside rs ps s x) (he : e < 32)
    (hr : ∀ r ∈ rs, r.2 ≤ R.EPOCH_CTRL ∨ R.EPOCH_CTRL + 0x10000 ≤ r.1)
    (hlate : x.ep.late = s.ep.late) (hunl : x.ep.unlimited = s.ep.unlimited) : SchedSame e s x := by
  have hrd (b : Nat) (h1 : R.EPOCH_CTRL ≤ b) (h2 : b < R.EPOCH_CTRL + 0x10000) : x.rd b = s.rd b := by
    refine h.1 b fun r hmem => ?_
    have := hr r hmem
    omega
  refine ⟨hrd _ ?_ ?_, hrd _ ?_ ?_, hrd _ ?_ ?_, congrArg (fun w : Word => bitsOf w.toNat 0 16) (hrd _ ?_ ?_),
    congrArg (fun w : Word => bitsOf w.toNat 3 2) (hrd _ ?_ ?_),
    congrArg (SMap.get · e) hlate, congrArg (SMap.get · e) hunl⟩
  all_goals (simp; omega)

theorem SchedSame.of_outside {rs : List (Nat × Nat)} {ps : List Part} (h : KeepsOutside rs ps s x) (he : e < 32)
    (hr : ∀ r ∈ rs, r.2 ≤ R.EPOCH_CTRL ∨ R.EPOCH_CTRL + 0x10000 ≤ r.1 := by decide) (hp : Part.ep ∉ ps := by decide) : SchedSame e s x :=
  .of_ep h he hr (congrArg EpochState.late (h.2 .ep hp)) (congrArg EpochState.unlimited (h.2 .ep hp))

theorem SchedSame.time (h : SchedSame e s x) : x.schedTime e = s.schedTime e := by simp only [State.schedTime, h.lo, h.hi]

/-- The entry's new launch tick. -/
def State.schedAgain (s : State) (e t : Nat) : State := (s.wr (R.SCHED_TIME_LO e) (w32 t)).wr (R.SCHED_TIME_HI e) (w32 (t / 2 ^ 32))

theorem State.schedAgain_time (s : State) (e t : Nat) : (s.schedAgain e t).schedTime e = t % 2 ^ 64 := by
  have hlo : (s.schedAgain e t).rd (R.SCHED_TIME_LO e) = w32 t := (State.rd_wr_other _ _ _ _ (by simp)).trans (State.rd_wr_same _ _ _)
  have hhi : (s.schedAgain e t).rd (R.SCHED_TIME_HI e) = w32 (t / 2 ^ 32) := State.rd_wr_same _ _ _
  simp only [State.schedTime, hlo, hhi, w32, BitVec.toNat_ofNat]
  omega

theorem State.schedAgain_frame (s : State) (e t : Nat) : Keeps [whole (R.SCHED_TIME_LO e), whole (R.SCHED_TIME_HI e)] [] s (s.schedAgain e t) :=
  .wr' (.wr' (.refl _ _ s))

theorem State.schedAfter_late (h : s.ep.late.get e = true) :
    s.schedAfter e = { (s.put (F.SCHED_CTRL_STATE e) 0) with ep := { s.ep with late := s.ep.late.set e false } } := if_pos h

/-- The launch that is counted. -/
def State.schedCounted (s : State) (e : Nat) : State := s.put (F.SCHED_COUNT_COUNT e) (s.get (F.SCHED_COUNT_COUNT e) - 1)

theorem State.schedAfter_on_time (h : s.ep.late.get e = false) : s.schedAfter e =
    if (s.rd (R.SCHED_REPEAT e)).toNat = 0 then s.put (F.SCHED_CTRL_STATE e) 2
    else if s.ep.unlimited.get e = true then s.schedAgain e (s.schedTime e + (s.rd (R.SCHED_REPEAT e)).toNat)
    else if s.get (F.SCHED_COUNT_COUNT e) - 1 = 0 then (s.schedCounted e).put (F.SCHED_CTRL_STATE e) 2
    else (s.schedCounted e).schedAgain e ((s.schedCounted e).schedTime e + (s.rd (R.SCHED_REPEAT e)).toNat) := if_neg (by simp [h])

theorem State.schedAfter_frame (s : State) (e : Nat) : Keeps (schedFlds e) [.ep] s (s.schedAfter e) := by
  cases h : s.ep.late.get e with
  | true =>
    rw [State.schedAfter_late h]
    exact .beside' (.put' (.refl _ _ s) (by simp [schedFlds]))
  | false =>
    rw [State.schedAfter_on_time h]
    have hagain (t : State) (n : Nat) : Keeps (schedFlds e) [.ep] t (t.schedAgain e n) :=
      .after (t.schedAgain_frame e n) (.refl _ _ t) (by simp [schedFlds])
    have hcounted : Keeps (schedFlds e) [.ep] s (s.schedCounted e) := .put' (.refl _ _ s) (by simp [schedFlds])
    exact .ite' (.put' (.refl _ _ s) (by simp [schedFlds])) (.ite' (hagain _ _) (.ite' (.put' hcounted (by simp [schedFlds])) (.after (hagain _ _) hcounted)))

/-- An armed entry follows its own launch. -/
theorem State.followsLaunch_self (x : State) (e : Nat) (harmed : x.schedState e = 1) : x.followsLaunch (x.schedAfter e) e := by
  have hagain (t : State) (n : Nat) (ht : t.schedState e = 1) : (t.schedAgain e n).schedState e = 1 :=
    ((t.schedAgain_frame e n).get_eq _ (by simp [whole])).trans ht
  have hlaunched (t : State) : (t.put (F.SCHED_CTRL_STATE e) 2).schedState e = 2 := State.get_put_same _ _ _ (by simp)
  have hcounted : (x.schedCounted e).schedState e = 1 ∧ (x.schedCounted e).schedTime e = x.schedTime e := by
    refine ⟨(State.get_put_other _ _ _ _ (by simp)).trans harmed, ?_⟩
    simp only [State.schedTime, State.schedCounted]
    rw [State.rd_put_other _ _ _ _ (by simp), State.rd_put_other _ _ _ _ (by simp)]
  unfold State.followsLaunch
  cases hlate : x.ep.late.get e with
  | true =>
    rw [if_pos rfl, State.schedAfter_late hlate]
    exact State.get_put_same _ _ _ (by simp)
  | false =>
    rw [if_neg (by decide), State.schedAfter_on_time hlate]
    by_cases hrep : x.rd (R.SCHED_REPEAT e) = 0#32
    · rw [if_pos hrep, if_pos (by rw [hrep]; rfl)]
      exact hlaunched _
    have hnat : (x.rd (R.SCHED_REPEAT e)).toNat ≠ 0 := fun h => hrep (BitVec.eq_of_toNat_eq h)
    rw [if_neg hrep, if_neg hnat]
    by_cases hunl : x.ep.unlimited.get e = true
    · rw [if_pos hunl, if_pos hunl]
      exact ⟨hagain _ _ harmed, State.schedAgain_time _ _ _⟩
    rw [if_neg hunl, if_neg hunl]
    by_cases hcount : 2 ≤ x.get (F.SCHED_COUNT_COUNT e)
    · rw [if_pos hcount, if_neg (by omega), hcounted.2]
      have hlt := x.get_lt (F.SCHED_COUNT_COUNT e)
      refine ⟨hagain _ _ hcounted.1, State.schedAgain_time _ _ _, (((x.schedCounted e).schedAgain_frame e _).get_eq _ (by simp [whole])).trans ?_⟩
      exact (State.get_put_same _ _ _ (by simp)).trans (Nat.mod_eq_of_lt (by omega))
    · rw [if_neg hcount, if_pos (by omega)]
      exact hlaunched _

theorem SchedSame.follows (h : SchedSame e s x) (harmed : s.schedState e = 1) : s.followsLaunch (x.schedAfter e) e := by
  have hself := x.followsLaunch_self e (h.state.trans harmed)
  simpa only [State.followsLaunch, h.late, h.rep, h.unlimited, h.count, h.time] using hself

theorem State.schedDue_armed (h : s.schedDue e a = true) : s.schedState e = 1 := by
  simp only [State.schedDue, Bool.and_eq_true, beq_iff_eq] at h
  exact h.1.1.1

/-- A due entry launches its action and is followed as R105 says. -/
theorem State.schedLaunch_follows (h : s.schedDue e a = true) (hx : SchedSame e s (k s)) :
    Host.Outcome.next (s.schedLaunch e a k) = (.next ((k s).schedAfter e) : Res) ∧ s.followsLaunch ((k s).schedAfter e) e :=
  ⟨congrArg Host.Outcome.next (State.schedLaunch_due h), hx.follows (State.schedDue_armed h)⟩

/-- What an action wrote stands beside the entry's own fields. -/
theorem State.schedAfter_get (x : State) (e : Nat) (g : Fld) (hg : g.addr < R.EPOCH_CTRL ∨ R.EPOCH_CTRL + 0x10000 ≤ g.addr) (he : e < 32) :
    (x.schedAfter e).get g = x.get g :=
  (x.schedAfter_frame e).get_eq g (by simp [schedFlds, whole, Fld.apart]; simp at hg; omega)

theorem State.schedAfter_outside (x : State) {e : Nat} (he : e < 32) : KeepsOutside [zone R.EPOCH_CTRL] [.ep] x (x.schedAfter e) :=
  (x.schedAfter_frame e).toOutside (by simp [schedFlds, whole]; omega)

end

/-! ### Actions within one register or list -/

section
variable (s : State)

theorem State.wgTrigger_eq (g t : Nat) : s.wgTrigger g t =
    if s.flag (F.SENSP_WG_CTRL_EN g) && (s.sens.wg.get g).enTick ≤ t then
      { s with sens := { s.sens with wg := s.sens.wg.set g { (s.sens.wg.get g) with pend := (s.sens.wg.get g).pend ++ [s.triggered g t] } } }
    else s := rfl

/-- A trigger reaches an enabled group whose source it is. -/
theorem State.trigger_pend {src unit t g : Nat} (hg : g ∈ s.wgSrc src unit) (hen : s.flag (F.SENSP_WG_CTRL_EN g) = true)
    (htick : (s.sens.wg.get g).enTick ≤ t) :
    ((s.trigger src unit t).sens.wg.get g).pend = (s.sens.wg.get g).pend ++ [s.triggered g t] := by
  have hregs (x : State) (k : Nat) : (x.wgTrigger k t).regs = x.regs := by
    rw [State.wgTrigger_eq]
    split <;> rfl
  have hother (x : State) (k : Nat) (hk : k ≠ g) : (x.wgTrigger k t).sens.wg.get g = x.sens.wg.get g := by
    rw [State.wgTrigger_eq]
    split
    · exact SMap.get_set_ne _ _ _ _ hk.symm
    · rfl
  refine State.forEach_at (P := fun x => x.regs = s.regs ∧ x.sens.wg.get g = s.sens.wg.get g)
    (Q := fun x => (x.sens.wg.get g).pend = (s.sens.wg.get g).pend ++ [s.triggered g t]) (List.nodup_range.filter _) hg
    (fun k _ hk x hx => ⟨(hregs x k).trans hx.1, (hother x k hk).trans hx.2⟩) (fun x hx => ?_)
    (fun k _ hk x hx => (congrArg WgState.pend (hother x k hk)).trans hx) s ⟨rfl, rfl⟩
  obtain ⟨hreg, hwg⟩ := hx
  have hget (f : Fld) : x.get f = s.get f := by simp only [State.get, State.rd, hreg]
  have hflag (f : Fld) : x.flag f = s.flag f := by simp only [State.flag, hget]
  rw [State.wgTrigger_eq, if_pos (by simp [hflag, hen, hwg, htick])]
  simp [State.triggered, hget, hflag, hwg]

/-- A bit of a field that another field is apart from. -/
theorem Fld.apart_bit {a k n : Nat} {g : Fld} (hk : k < n) (hn : n ≤ 32) (h : Fld.apart ⟨a, 0, n⟩ g = true) : Fld.apart ⟨a, k, 1⟩ g = true := by
  simp [Fld.apart] at h ⊢
  omega

/-- GPIO_SET drives the pads that the mask names. -/
def State.gpioDriven (s : State) (e : Nat) : State := s.forEach (maskIdx 8 (s.schedTarget e)) fun s k =>
  s.put ⟨R.SYS_GPIO_OUT, k, 1⟩ (b2n (bitOf (s.schedParam e) k))

theorem State.gpioDriven_frame (e : Nat) : Keeps [⟨R.SYS_GPIO_OUT, 0, 8⟩] [] s (s.gpioDriven e) := by
  refine State.forEach_inv (P := fun t => Keeps [⟨R.SYS_GPIO_OUT, 0, 8⟩] [] s t) (fun k hk t ht => ht.trans ⟨fun g hg => ?_, fun p _ => ?_⟩) s (.refl _ _ s)
  · exact State.get_put_other _ _ _ _ (Fld.apart_bit (lt_of_mem_maskIdx hk) (by decide) (hg _ (List.mem_singleton.2 rfl)))
  · exact Part.same_wr t _ _ p

theorem State.gpioDriven_level {e k : Nat} (hk : k < 8) : (s.gpioDriven e).get ⟨R.SYS_GPIO_OUT, k, 1⟩ =
    if bitOf (s.schedTarget e) k then b2n (bitOf (s.schedParam e) k) else s.get ⟨R.SYS_GPIO_OUT, k, 1⟩ := by
  have hother (t : State) (j v : Nat) (hj : j < 8) (hne : j ≠ k) :
      (t.put ⟨R.SYS_GPIO_OUT, j, 1⟩ v).get ⟨R.SYS_GPIO_OUT, k, 1⟩ = t.get ⟨R.SYS_GPIO_OUT, k, 1⟩ :=
    State.get_put_other _ _ _ _ (by simp; omega)
  split
  next h =>
    refine State.forEach_at (P := fun t => t.schedParam e = s.schedParam e)
      (Q := fun t => t.get ⟨R.SYS_GPIO_OUT, k, 1⟩ = b2n (bitOf (s.schedParam e) k)) (maskIdx_nodup _ _) (mem_maskIdx.2 ⟨hk, h⟩)
      (fun j _ _ t ht => ?_) (fun t ht => ?_) (fun j hj hne t ht => (hother t j _ (lt_of_mem_maskIdx hj) hne).trans ht) s rfl
    · exact (congrArg BitVec.toNat (State.rd_put_other _ _ _ _ (by simp; omega))).trans ht
    · rw [State.get_put_same _ _ _ (by simp; omega), ht]
      exact Nat.mod_eq_of_lt (b2n_lt_two _)
  next h =>
    refine State.forEach_inv (P := fun t => t.get ⟨R.SYS_GPIO_OUT, k, 1⟩ = s.get ⟨R.SYS_GPIO_OUT, k, 1⟩) (fun j hj t ht => ?_) s rfl
    obtain ⟨hj8, hbit⟩ := mem_maskIdx.1 hj
    exact (hother t j _ hj8 (fun hjk => h (hjk ▸ hbit))).trans ht

/-- IRQ makes source 1 of the named pairs pending. -/
theorem State.irqSet_facts {m : Nat} : Keeps [F.HIC_SRC_PENDING 0 1, F.HIC_SRC_PENDING 1 1] []
      s (s.forEach (maskIdx 2 m) fun s q => s.set1 (F.HIC_SRC_PENDING q 1)) ∧
    ∀ q : Fin 2, bitOf m q = true → (s.forEach (maskIdx 2 m) fun s q => s.set1 (F.HIC_SRC_PENDING q 1)).get (F.HIC_SRC_PENDING q 1) = 1 := by
  refine ⟨State.forEach_inv (P := fun t => Keeps [F.HIC_SRC_PENDING 0 1, F.HIC_SRC_PENDING 1 1] [] s t) (fun k hk t ht => ?_) s (.refl _ _ s), fun q hq => ?_⟩
  · have hlt := lt_of_mem_maskIdx hk
    obtain rfl | rfl : k = 0 ∨ k = 1 := by omega
    · exact .set1' ht
    · exact .set1' ht
  · refine State.forEach_visit (P := fun _ => True) (Q := fun t => t.get (F.HIC_SRC_PENDING q 1) = 1) (mem_maskIdx.2 ⟨q.isLt, hq⟩)
      (fun _ _ _ _ _ => trivial) (fun t _ => State.get_put_same _ _ _ (by simp)) (fun k _ t ht => ?_) s trivial
    by_cases hkq : k = q
    · rw [hkq]
      exact State.get_put_same _ _ _ (by simp)
    · exact (State.get_put_other _ _ _ _ (by simp; omega)).trans ht

/-- STREAM_MARK marks the channels that the masks name. -/
def State.streamMarked (s : State) (e : Nat) (ks : List Nat) : State := s.forEach ks fun s k =>
  { s with sens := { s.sens with ch := s.sens.ch.modify k fun c => { c with marks := c.marks ++ [s.schedTime e] } } }

theorem State.streamMarked_frame (e : Nat) (ks : List Nat) : Keeps [] [.sens] s (s.streamMarked e ks) :=
  .forEach' (.refl _ _ s) fun _ _ => .beside' (.refl _ _ _)

theorem State.streamMarked_marks (e : Nat) {ks : List Nat} {k : Nat} (hnd : ks.Nodup) (hk : k ∈ ks) :
    ((s.streamMarked e ks).sens.ch.get k).marks = (s.sens.ch.get k).marks ++ [s.schedTime e] := by
  refine State.forEach_at (P := fun t => t.schedTime e = s.schedTime e ∧ t.sens.ch.get k = s.sens.ch.get k)
    (Q := fun t => (t.sens.ch.get k).marks = (s.sens.ch.get k).marks ++ [s.schedTime e]) hnd hk (fun j _ hj t ht => ?_) (fun t ht => ?_)
    (fun j _ hj t ht => ?_) s ⟨rfl, rfl⟩
  · exact ⟨ht.1, (SMap.get_set_ne _ _ _ _ hj.symm).trans ht.2⟩
  · refine (congrArg ChState.marks (SMap.get_set_same _ _ _)).trans ?_
    rw [← ht.2, ← ht.1]
  · exact (congrArg ChState.marks (SMap.get_set_ne _ _ _ _ hj.symm)).trans ht

theorem markedChannels_nodup (m n : Nat) : (maskIdx 16 m ++ (maskIdx 10 n).map (· + 16)).Nodup := by
  refine List.nodup_append.2 ⟨maskIdx_nodup _ _, (maskIdx_nodup _ _).map (add_left_injective 16), fun a ha b hb => ?_⟩
  obtain ⟨c, -, rfl⟩ := List.mem_map.1 hb
  have := lt_of_mem_maskIdx ha
  omega

end

/-! ### Starts, stops and commits of the units that an entry names -/

section
variable (s : State) {e : Nat}

/-- The units that a PWM_START of the entry reaches: none that a stop of the same tick names. -/
def State.schedStarts (s : State) (e : Nat) : List Nat := (maskIdx 14 (s.schedTarget e)).filter fun u =>
  !bitOf (s.schedStops (s.schedTime e)) u && s.ep.stopAt.get u != s.schedTime e + 1

theorem State.schedStarts_lt : ∀ u ∈ s.schedStarts e, u < 14 := fun _ hu => lt_of_mem_maskIdx (List.mem_of_mem_filter hu)

theorem State.schedStarts_nodup : (s.schedStarts e).Nodup := (maskIdx_nodup _ _).filter _

theorem State.schedStarts_outside : KeepsOutside [zone (R.PWM_CTRL 0), zone (R.LP_CTRL 0)] [.raised, .shadow, .pwm, .wcmp, .sens]
    s (s.forEach (s.schedStarts e) fun s u => s.startUnit u) :=
  .forEach' (.refl _ _ s) fun u hu _ => .after (State.startUnit_outside _ _ (s.schedStarts_lt u hu)) (.refl _ _ _)

theorem State.schedStarts_other {u : Nat} (hu : u ∉ s.schedStarts e) :
    (s.forEach (s.schedStarts e) fun s u => s.startUnit u).pwmState u = s.pwmState u :=
  State.forEach_inv (P := fun t => t.pwmState u = s.pwmState u)
    (fun k hk t ht => (t.startUnit_sameRun u k fun h => hu (h ▸ hk)).1.trans ht) s rfl

/-- PWM_STOP stops the named units at the entry's tick. -/
def State.schedStopped (s : State) (e : Nat) : State := s.forEach (maskIdx 14 (s.schedTarget e)) fun s u => s.stopAt u (s.schedTime e)

theorem State.schedStopped_outside : KeepsOutside [zone (R.PWM_CTRL 0), zone R.DRV_STATUS, zone R.DIAG_MAINT_REQ]
    [.pwm, .shadow, .drive, .diag, .mem, .ep] s (s.schedStopped e) :=
  .forEach' (.refl _ _ s) fun _ hu _ => .after (State.stopAt_outside _ _ _ (lt_of_mem_maskIdx hu)) (.refl _ _ _)

theorem State.schedStopped_same (he : e < 32) : SchedSame e s (s.schedStopped e) := by
  have hep : (s.schedStopped e).ep.late = s.ep.late ∧ (s.schedStopped e).ep.unlimited = s.ep.unlimited := by
    refine State.forEach_inv (P := fun t => t.ep.late = s.ep.late ∧ t.ep.unlimited = s.ep.unlimited) (fun u hu t ht => ?_) s ⟨rfl, rfl⟩
    have hstop := (t.stopUnit_outside u (lt_of_mem_maskIdx hu)).2 .ep (by decide)
    exact ⟨(congrArg EpochState.late hstop).trans ht.1, (congrArg EpochState.unlimited hstop).trans ht.2⟩
  exact .of_ep s.schedStopped_outside he (by decide) hep.1 hep.2

theorem State.schedStopped_stops {u : Nat} (hu : u < 14) (hnamed : bitOf (s.schedTarget e) u = true) (hst : s.pwmState u ≠ 3) :
    (s.schedStopped e).pwmState u = 0 := by
  refine State.forEach_at (P := fun t => t.pwmState u ≠ 3) (Q := fun t => t.pwmState u = 0) (maskIdx_nodup _ _) (mem_maskIdx.2 ⟨hu, hnamed⟩)
    (fun k _ hku t ht => ?_) (fun t ht => ?_) (fun k _ hku t ht => ?_) s hst
  · exact fun h => ht ((t.stopAt_sameRun u k _ hu hku.symm).1.symm.trans h)
  · exact t.stopUnit_stops u hu ht
  · exact (t.stopAt_sameRun u k _ hu hku.symm).1.trans ht

theorem State.schedStopped_other {u : Nat} (hu : u < 14) (hnamed : bitOf (s.schedTarget e) u = false) : (s.schedStopped e).pwmState u = s.pwmState u :=
  State.forEach_inv (P := fun t => t.pwmState u = s.pwmState u)
    (fun k hk t ht => (t.stopAt_sameRun u k _ hu fun h => by simp [mem_maskIdx, ← h, hnamed] at hk).1.trans ht) s rfl

/-- PWM_COMMIT commits the named units. -/
def State.schedCommitted (s : State) (e : Nat) : State := s.forEach (maskIdx 14 (s.schedTarget e)) fun s u => s.commitUnit u

theorem State.schedCommitted_outside : KeepsOutside [zone (R.LP_CTRL 0), zone (R.PWM_CTRL 0)] [.raised, .pwm] s (s.schedCommitted e) :=
  .forEach' (.refl _ _ s) fun _ hu _ => .after (State.commitUnit_outside _ _ (lt_of_mem_maskIdx hu)) (.refl _ _ _)

theorem State.schedCommitted_pending {u : Nat} (hu : u < 14) (hnamed : bitOf (s.schedTarget e) u = true) (hpair : s.unitPair u = none)
    (hrun : s.pwmState u = 1) (hnew : (s.pwm.get u).commit = false) :
    ((s.schedCommitted e).pwm.get u).commit = true ∧ (s.schedCommitted e).get (F.PWM_STATUS_COMMIT_PENDING u) = 1 := by
  obtain ⟨t, ⟨h1, h2, h3, h4⟩, e1, e2, -⟩ := s.forEach_commitUnit u _ (mem_maskIdx.2 ⟨hu, hnamed⟩)
  unfold State.schedCommitted
  rw [e1, e2]
  simp only [State.pwmState] at h2 hrun
  simp [State.commitUnit, State.pwmState, State.judgeCommit, h1, h2, h3, hpair, hrun, hnew]
  split_ifs <;> simp

end

/-! ### Relay commands -/

section
variable (s : State)

/-- A close that does not name both relays is refused, for whatever reason comes first (R396). -/
theorem State.closeRefusal_one (hpa : Bool) : ∃ r, s.closeRefusal hpa false = some r := by
  unfold State.closeRefusal
  simp only [Bool.not_false, if_true]
  split_ifs
  all_goals exact ⟨_, rfl⟩

theorem State.relayCmd_open (m : Nat) : s.relayCmd 0 m = s.gridTrip Cause.host 0 0 := rfl

theorem State.relayCmd_close (m : Nat) : s.relayCmd 1 m = s.closeRequest true (bitsOf m 0 2 == 3) := rfl

theorem State.closeRequest_refused {hpa both : Bool} {r : Nat} (h : s.closeRefusal hpa both = some r) :
    s.closeRequest hpa both = (s.set1 F.RELAY_STICKY_REFUSED).put F.RELAY_REFUSE_REASON r := by
  rw [State.closeRequest, h]

/-- K1 is energised and the close begins. -/
def State.closeBegun (s : State) : State :=
  ((s.relayDrive 0 true).setConn 2).modRelay fun r => { r with closeAt := s.mono, stage := 0, xChange := none }

theorem State.closeRequest_accepted {hpa both : Bool} (h : s.closeRefusal hpa both = none) (hforming : s.formingBlocks = false) :
    s.closeRequest hpa both = s.closeBegun.permitEnd := by
  rw [State.closeRequest, h]
  exact if_neg (by simp [hforming])

theorem State.relayDrive_on_cmd : (s.relayDrive 0 true).get F.RELAY_STATUS_K1_CMD = 1 := by
  unfold State.relayDrive
  split
  next h => simpa [relayCmdF, State.flag] using h
  next =>
    refine (State.get_put_other _ _ _ _ (by decide)).trans ?_
    refine (State.get_put_other (s.put (relayCmdF 0) (b2n true)) _ _ _ (by decide)).trans ?_
    exact State.get_put_same _ _ _ (by decide)

theorem State.closeBegun_facts : s.closeBegun.permitEnd.conn = 2 ∧ s.closeBegun.permitEnd.get F.RELAY_STATUS_K1_CMD = 1 := by
  have hpermit := s.closeBegun.permitEnd_outside
  refine ⟨(hpermit.get_eq F.GRID_RT_STATUS_CONN_STATE (by decide)).trans (State.get_put_same _ _ _ (by decide)), (hpermit.get_eq _ (by decide)).trans ?_⟩
  exact (State.get_put_other (s.relayDrive 0 true) _ _ _ (by decide)).trans s.relayDrive_on_cmd

end

/-! ### Requests for maintenance -/

section
variable (s : State)

/-- The registers of the I-V traces. -/
abbrev ivRegs : Nat × Nat := (R.DIAG_IV_STATUS, R.DIAG_IV_STATUS + 8)

theorem State.ivStart_regs (x : Nat) : KeepsOutside [ivRegs] [.diag, .pwm, .shadow, .mem] s (s.ivStart x) :=
  .after (State.noteHolds_outside ..) (.after (State.ivSlots_outside ..)
    (.wr' (.put' (.put' (.put' (.after (State.modIv_outside ..) (.refl _ _ _)))))))

/-- What begins an activity leaves the outcome of its request. -/
theorem State.maintBegin_last (c : Nat) : (s.maintBegin c).rd R.DIAG_MAINT_LAST = s.rd R.DIAG_MAINT_LAST := by
  have hiv (x : Nat) : (s.ivStart x).rd R.DIAG_MAINT_LAST = s.rd R.DIAG_MAINT_LAST := (s.ivStart_regs x).1 _ (by decide)
  unfold State.maintBegin
  split
  · exact (s.calStart_outside false).1 _ (by decide)
  · exact (s.calStart_outside true).1 _ (by decide)
  · have hqueue (t : State) : t.wcTestStart.rd R.DIAG_MAINT_LAST = t.rd R.DIAG_MAINT_LAST := (State.wcTestStart_outside t).1 _ (by decide)
    dsimp only
    split
    · exact ((State.maintEnd_frame _ Act.wcmpTest .ok).rd_eq _ (by decide)).trans (hqueue _)
    · exact hqueue _
  · exact hiv 0
  · exact hiv 1
  · exact hiv 2
  · exact hiv 3
  · rfl
  · have hdrive (t : State) (k : Nat) : (t.relayDrive k false).rd R.DIAG_MAINT_LAST = t.rd R.DIAG_MAINT_LAST := (State.relayDrive_outside t k false).1 _ (by decide)
    exact (State.rd_put_other _ _ _ _ (by decide)).trans ((hdrive _ 1).trans (hdrive _ 0))
  · rfl

variable {s} {r : Requester} {c : Nat}

theorem State.maintNoted_get {res why blk : Nat} (hc : c < 256) (hres : res < 256) :
    (s.maintNoted c res why blk).get F.DIAG_MAINT_LAST_CODE = c ∧ (s.maintNoted c res why blk).get F.DIAG_MAINT_LAST_RESULT = res := by
  unfold State.maintNoted
  constructor <;> simp <;> omega

theorem State.get_last {t : State} (h : t.rd R.DIAG_MAINT_LAST = s.rd R.DIAG_MAINT_LAST) {f : Fld} (hf : f.addr = R.DIAG_MAINT_LAST) :
    t.get f = s.get f := by
  simp only [State.get, hf, h]

/-- What a request leaves in DIAG_MAINT_LAST: 1 for a grant and 2 for a refusal (R456). -/
theorem State.maintRequest_last (hc : c < 256) : (s.maintRequest r c).get F.DIAG_MAINT_LAST_CODE = c ∧
    (s.maintRefusal r c = none → (s.maintRequest r c).get F.DIAG_MAINT_LAST_RESULT = 1) ∧
    (s.maintRefusal r c ≠ none → (s.maintRequest r c).get F.DIAG_MAINT_LAST_RESULT = 2) := by
  cases h : s.maintRefusal r c with
  | none =>
    have hreq : s.maintRequest r c = ((s.maintNoted c 1 0 0).maintStart c).maintBegin c := by
      rw [State.maintRequest, h]
      rfl
    have hlast : (s.maintRequest r c).rd R.DIAG_MAINT_LAST = (s.maintNoted c 1 0 0).rd R.DIAG_MAINT_LAST := by
      rw [hreq, State.maintBegin_last]
      exact (State.rd_put_other _ _ _ _ (by simp; omega)).trans (State.rd_put_other _ _ _ _ (by simp))
    obtain ⟨hcode, hres⟩ := s.maintNoted_get (c := c) (res := 1) (why := 0) (blk := 0) hc (by decide)
    exact ⟨(State.get_last hlast rfl).trans hcode, fun _ => (State.get_last hlast rfl).trans hres, fun hno => absurd rfl hno⟩
  | some w =>
    have hlast : (s.maintRequest r c).rd R.DIAG_MAINT_LAST = (s.maintNoted c 2 w.1 w.2).rd R.DIAG_MAINT_LAST := by
      rw [State.maintRequest, h]
      dsimp only
      split
      · exact State.rd_put_other _ _ _ _ (by simp)
      · rfl
    obtain ⟨hcode, hres⟩ := s.maintNoted_get (c := c) (res := 2) (why := w.1) (blk := w.2) hc (by decide)
    exact ⟨(State.get_last hlast rfl).trans hcode, fun hno => (Option.some_ne_none _ hno).elim, fun _ => (State.get_last hlast rfl).trans hres⟩

/-- The request of a tick, noted (R457). -/
def State.reqNoted (s : State) (t c : Nat) : State :=
  { s with diag := { s.diag with reqAt := some t, reqs := c :: if s.diag.reqAt = some t then s.diag.reqs else [] } }

/-- A request that is the first of its tick for its activity, none of a higher priority being ahead of it (R457). -/
theorem State.maintArrive_first {t : Nat} (hbist : ¬(r = .device ∧ c = 12)) (hahead : s.maintAhead t c = [])
    (hfirst : s.diag.reqAt = some t → c ∉ s.diag.reqs) : s.maintArrive t r c = (s.reqNoted t c).maintRequest r c := by
  have hnew : (if s.diag.reqAt = some t then s.diag.reqs else []).contains c = false := by
    split
    next h => simpa using hfirst h
    next => rfl
  rw [State.maintArrive, State.maintBefore_none hahead, State.maintOne]
  dsimp only
  rw [if_neg (ne_true_of_eq_false hnew), if_neg hbist]
  rfl

theorem State.maintArrive_last {t : Nat} {i : Initiator} (hc : c < 256) (hahead : s.maintAhead t c = []) (hfirst : s.diag.reqAt = some t → c ∉ s.diag.reqs) :
    (s.maintArrive t (.sched i) c).get F.DIAG_MAINT_LAST_CODE = c ∧
    (s.maintRefusal (.sched i) c = none → (s.maintArrive t (.sched i) c).get F.DIAG_MAINT_LAST_RESULT = 1) ∧
    (s.maintRefusal (.sched i) c ≠ none → (s.maintArrive t (.sched i) c).get F.DIAG_MAINT_LAST_RESULT = 2) := by
  rw [State.maintArrive_first (by simp) hahead hfirst]
  exact State.maintRequest_last hc

end

/-! ### What a due entry does, one theorem for each action -/

section
variable (s : State) (e : Fin 32)

theorem State.schedSame_none : SchedSame e s s := ⟨rfl, rfl, rfl, rfl, rfl, rfl, rfl⟩

theorem State.schedPwmStart_acts (hdue : s.schedDue e 2 = true) : ∃ t, exec (.schedPwmStart e) s = .next t ∧ s.followsLaunch t e ∧
    (∀ u : Fin 14, bitOf (s.schedTarget e) u = true → bitOf (s.schedStops (s.schedTime e)) u = false → s.ep.stopAt.get u ≠ s.schedTime e + 1 →
      s.ep.stopAt.get u ≠ s.epoch + 1 → s.startRefused u = false → t.pwmState u = 1 ∧ (t.pwm.get u).start = s.epoch) ∧
    (∀ u : Fin 14, (bitOf (s.schedTarget e) u = false ∨ bitOf (s.schedStops (s.schedTime e)) u = true) → t.pwmState u = s.pwmState u) ∧
    KeepsOutside [zone R.EPOCH_CTRL, zone (R.PWM_CTRL 0), zone (R.LP_CTRL 0)] [.shadow, .raised, .ep, .pwm, .sens, .wcmp] s t := by
  have hout := s.schedStarts_outside (e := e)
  have hl := State.schedLaunch_follows (k := fun s => s.forEach (s.schedStarts e) fun s u => s.startUnit u) hdue (.of_outside hout e.isLt)
  have hstate (u : Fin 14) := State.schedAfter_get (s.forEach (s.schedStarts e) fun s u => s.startUnit u) e (F.PWM_STATUS_STATE u) (by simp; omega) e.isLt
  refine ⟨_, hl.1, hl.2, fun u hnamed hstop hlater hnow href => ?_, fun u hu => ?_, .after (State.schedAfter_outside _ e.isLt) (.after hout (.refl _ _ s))⟩
  · have hmem : (u : Nat) ∈ s.schedStarts e := List.mem_filter.2 ⟨mem_maskIdx.2 ⟨u.isLt, hnamed⟩, by simp [hstop, hlater]⟩
    obtain ⟨hrun, -, hstart⟩ := s.forEach_starts s.schedStarts_nodup s.schedStarts_lt hmem href hnow
    refine ⟨(hstate u).trans hrun, ?_⟩
    rw [(State.schedAfter_frame _ e).2 .pwm (by decide)]
    exact hstart
  · refine (hstate u).trans (s.schedStarts_other fun hmem => ?_)
    obtain ⟨hm, hfree⟩ := List.mem_filter.1 hmem
    have hnamed := (mem_maskIdx.1 hm).2
    rcases hu with hu | hu
    · simp [hu] at hnamed
    · simp [hu] at hfree

theorem State.schedPwmStop_acts (hdue : s.schedDue e 3 = true) : ∃ t, exec (.schedPwmStop e) s = .next t ∧ s.followsLaunch t e ∧
    (∀ u : Fin 14, bitOf (s.schedTarget e) u = true → s.pwmState u ≠ 3 → t.pwmState u = 0) ∧
    (∀ u : Fin 14, bitOf (s.schedTarget e) u = false → t.pwmState u = s.pwmState u) ∧
    KeepsOutside [zone R.EPOCH_CTRL, zone (R.PWM_CTRL 0), zone R.DRV_STATUS, zone R.DIAG_MAINT_REQ] [.mem, .shadow, .ep, .pwm, .drive, .diag] s t := by
  have hl := State.schedLaunch_follows (k := fun s => s.schedStopped e) hdue (s.schedStopped_same e.isLt)
  have hstate (u : Fin 14) := State.schedAfter_get (s.schedStopped e) e (F.PWM_STATUS_STATE u) (by simp; omega) e.isLt
  exact ⟨_, hl.1, hl.2, fun u hu hst => (hstate u).trans (s.schedStopped_stops u.isLt hu hst), fun u hu => (hstate u).trans (s.schedStopped_other u.isLt hu),
    .after (State.schedAfter_outside _ e.isLt) (.after s.schedStopped_outside (.refl _ _ s))⟩

theorem State.schedPwmCommit_acts (hdue : s.schedDue e 4 = true) : ∃ t, exec (.schedPwmCommit e) s = .next t ∧ s.followsLaunch t e ∧
    (∀ u : Fin 14, bitOf (s.schedTarget e) u = true → s.unitPair u = none → s.pwmState u = 1 → (s.pwm.get u).commit = false →
      (t.pwm.get u).commit = true ∧ t.get (F.PWM_STATUS_COMMIT_PENDING u) = 1) ∧
    KeepsOutside [zone R.EPOCH_CTRL, zone (R.PWM_CTRL 0), zone (R.LP_CTRL 0)] [.raised, .ep, .pwm] s t := by
  have hl := State.schedLaunch_follows (k := fun s => s.schedCommitted e) hdue (.of_outside s.schedCommitted_outside e.isLt)
  refine ⟨_, hl.1, hl.2, fun u hu hpair hrun hnew => ?_, .after (State.schedAfter_outside _ e.isLt) (.after s.schedCommitted_outside (.refl _ _ s))⟩
  obtain ⟨hcommit, hpending⟩ := s.schedCommitted_pending u.isLt hu hpair hrun hnew
  refine ⟨?_, (State.schedAfter_get (s.schedCommitted e) e _ (by simp; omega) e.isLt).trans hpending⟩
  rw [(State.schedAfter_frame _ e).2 .pwm (by decide)]
  exact hcommit

theorem State.meterLatchAt_frame (t : Nat) : Keeps [] [.meter] s (s.meterLatchAt t) := .ite' (.beside' (.refl _ _ s)) (.refl _ _ s)

theorem State.schedMeterLatch_acts (hdue : s.schedDue e 5 = true) : ∃ t, exec (.schedMeterLatch e) s = .next t ∧ s.followsLaunch t e ∧
    t.meter.sched = (if s.meterRun then s.meter.sched ++ [s.schedTime e] else s.meter.sched) ∧ Keeps (schedFlds e) [.ep, .meter] s t := by
  have hframe := s.meterLatchAt_frame (s.schedTime e)
  have hl := State.schedLaunch_follows (k := fun s => s.meterLatchAt (s.schedTime e)) hdue (.of_outside (hframe.toOutside (rs := []) (by simp)) e.isLt)
  refine ⟨_, hl.1, hl.2, ?_, .after (State.schedAfter_frame _ e) (.after hframe (.refl _ _ s))⟩
  rw [(State.schedAfter_frame _ e).2 .meter (by decide)]
  unfold State.meterLatchAt
  split <;> rfl

theorem State.schedRelayCmd_acts (hdue : s.schedDue e 6 = true) : ∃ t, exec (.schedRelayCmd e) s = .next t ∧ s.followsLaunch t e ∧
    (s.schedParam e = 0 → t.get F.GRID_TRIP_INFO_CAUSE = 7 ∧ t.get F.GRID_RT_STICKY_TRIPPED = 1 ∧ t.get F.RELAY_STATUS_K1_CMD = 0 ∧
      t.get F.RELAY_STATUS_K2_CMD = 0 ∧ t.raised = s.raised ++ [⟨FS.GRID_TRIP, 0⟩]) ∧
    (s.schedParam e = 1 → s.closeRefusal true (bitsOf (s.schedTarget e) 0 2 == 3) = none → s.formingBlocks = false →
      t.conn = 2 ∧ t.get F.RELAY_STATUS_K1_CMD = 1) ∧
    (s.schedParam e = 1 → bitsOf (s.schedTarget e) 0 2 ≠ 3 → t.get F.RELAY_STICKY_REFUSED = 1 ∧ t.conn = s.conn) ∧
    KeepsOutside [zone R.EPOCH_CTRL, zone R.GRID_CFG, zone R.RELAY_CFG, zone (R.PWM_CTRL 0), zone R.DRV_STATUS, zone R.DIAG_MAINT_REQ,
      zone R.WARDEN_STATUS] [.mem, .shadow, .raised, .draws, .ep, .pwm, .drive, .diag, .grid, .relay, .cour] s t := by
  have hout := s.relayCmd_outside (s.schedParam e) (s.schedTarget e)
  have hl := State.schedLaunch_follows (k := fun s => s.relayCmd (s.schedParam e) (s.schedTarget e)) hdue (.of_outside hout e.isLt)
  have hget (g : Fld) (hg : g.addr < R.EPOCH_CTRL ∨ R.EPOCH_CTRL + 0x10000 ≤ g.addr) :=
    State.schedAfter_get (s.relayCmd (s.schedParam e) (s.schedTarget e)) e g hg e.isLt
  refine ⟨_, hl.1, hl.2, fun hopen => ?_, fun hclose hadmit hforming => ?_, fun hclose hone => ?_,
    .after (State.schedAfter_outside _ e.isLt) (.after hout (.refl _ _ s))⟩
  · have htrip : s.relayCmd (s.schedParam e) (s.schedTarget e) = s.gridTrip Cause.host 0 0 := by rw [hopen, State.relayCmd_open]
    obtain ⟨hk1, hk2, -⟩ := s.gridTrip_cmds Cause.host 0 0
    refine ⟨(hget _ (by decide)).trans ?_, (hget _ (by decide)).trans ?_, (hget _ (by decide)).trans ?_, (hget _ (by decide)).trans ?_, ?_⟩
    · rw [htrip]
      exact s.gridTrip_cause _ _ _ (by decide)
    · rw [htrip]
      exact s.gridTrip_tripped _ _ _
    · rw [htrip]
      exact hk1
    · rw [htrip]
      exact hk2
    · rw [(State.schedAfter_frame _ e).2 .raised (by decide)]
      exact (congrArg State.raised htrip).trans (s.gridTrip_raised _ _ _)
  · have hbegun : s.relayCmd (s.schedParam e) (s.schedTarget e) = s.closeBegun.permitEnd := by
      rw [hclose, State.relayCmd_close, s.closeRequest_accepted hadmit hforming]
    obtain ⟨hconn, hk1⟩ := s.closeBegun_facts
    refine ⟨(hget F.GRID_RT_STATUS_CONN_STATE (by decide)).trans ?_, (hget _ (by decide)).trans ?_⟩
    · rw [hbegun]
      exact hconn
    · rw [hbegun]
      exact hk1
  · obtain ⟨r, hr⟩ := s.closeRefusal_one true
    have hrefused : s.relayCmd (s.schedParam e) (s.schedTarget e) = (s.set1 F.RELAY_STICKY_REFUSED).put F.RELAY_REFUSE_REASON r := by
      rw [hclose, State.relayCmd_close, beq_eq_false_iff_ne.2 hone, s.closeRequest_refused hr]
    refine ⟨(hget _ (by decide)).trans ?_, (hget F.GRID_RT_STATUS_CONN_STATE (by decide)).trans ?_⟩
    · rw [hrefused]
      simp
    · rw [hrefused]
      simp [State.conn]

theorem State.schedMaintStart_acts (hdue : s.schedDue e 7 = true) : ∃ t, exec (.schedMaintStart e) s = .next t ∧ s.followsLaunch t e ∧
    (∀ c, s.schedParam e = c → c < 256 → s.maintAhead (s.schedTime e) c = [] →
      (s.diag.reqAt = some (s.schedTime e) → c ∉ s.diag.reqs) → t.get F.DIAG_MAINT_LAST_CODE = c ∧
      (s.maintRefusal (.sched (if s.ep.byHpb.get e then .hpb else .hpa)) c = none → t.get F.DIAG_MAINT_LAST_RESULT = 1) ∧
      (s.maintRefusal (.sched (if s.ep.byHpb.get e then .hpb else .hpa)) c ≠ none → t.get F.DIAG_MAINT_LAST_RESULT = 2)) ∧
    KeepsOutside [zone R.EPOCH_CTRL, zone R.DIAG_MAINT_REQ, zone R.SENSP_STATUS, zone R.SENSG_STATUS, zone R.WCMPP_STATUS, zone R.WCMPG_STATUS,
      zone R.DRV_STATUS, zone R.LANE_STATUS, zone R.RELAY_CFG] [.mem, .shadow, .ep, .pwm, .sens, .wcmp, .drive, .diag, .relay] s t := by
  have hout := s.maintArrive_outside (s.schedTime e) (s.schedRequester e) (s.schedParam e)
  have hl := State.schedLaunch_follows (k := fun s => s.maintArrive (s.schedTime e) (s.schedRequester e) (s.schedParam e)) hdue (.of_outside hout e.isLt)
  have hget (g : Fld) (hg : g.addr < R.EPOCH_CTRL ∨ R.EPOCH_CTRL + 0x10000 ≤ g.addr) :=
    State.schedAfter_get (s.maintArrive (s.schedTime e) (s.schedRequester e) (s.schedParam e)) e g hg e.isLt
  refine ⟨_, hl.1, hl.2, fun c hparam hc hahead hfirst => ?_, .after (State.schedAfter_outside _ e.isLt) (.after hout (.refl _ _ s))⟩
  subst hparam
  obtain ⟨hcode, hgrant, hrefuse⟩ := State.maintArrive_last (i := if s.ep.byHpb.get e then .hpb else .hpa) hc hahead hfirst
  exact ⟨(hget _ (by decide)).trans hcode, fun h => (hget _ (by decide)).trans (hgrant h), fun h => (hget _ (by decide)).trans (hrefuse h)⟩

theorem State.schedNone_acts (hdue : s.schedDue e 0 = true) : ∃ t, exec (.schedNone e) s = .next t ∧ s.followsLaunch t e ∧ Keeps (schedFlds e) [.ep] s t := by
  have hl := State.schedLaunch_follows (k := fun s => s) hdue (s.schedSame_none e)
  exact ⟨_, hl.1, hl.2, s.schedAfter_frame e⟩

theorem State.trigger_frame (src unit t : Nat) : Keeps [] [.sens] s (s.trigger src unit t) :=
  .forEach' (.refl _ _ s) fun x g => by
    rw [State.wgTrigger_eq]
    exact .ite' (.beside' (.refl _ _ x)) (.refl _ _ x)

theorem State.schedWindow_acts (hdue : s.schedDue e 1 = true) : ∃ t, exec (.schedWindow e) s = .next t ∧ s.followsLaunch t e ∧
    (∀ g : Fin 4, s.get (F.SENSP_WG_CFG_TRIG_SRC g) = 5 → s.get (F.SENSP_WG_CFG_TRIG_UNIT g) = e → s.flag (F.SENSP_WG_CTRL_EN g) = true →
      (s.sens.wg.get g).enTick ≤ s.schedTime e → (t.sens.wg.get g).pend = (s.sens.wg.get g).pend ++ [s.triggered g (s.schedTime e)]) ∧
    Keeps (schedFlds e) [.ep, .sens] s t := by
  have hframe := s.trigger_frame 5 e (s.schedTime e)
  have hl := State.schedLaunch_follows (k := fun s => s.trigger 5 e (s.schedTime e)) hdue (.of_outside (hframe.toOutside (rs := []) (by simp)) e.isLt)
  refine ⟨_, hl.1, hl.2, fun g hsrc hunit hen htick => ?_, .after (State.schedAfter_frame _ e) (.after hframe (.refl _ _ s))⟩
  rw [(State.schedAfter_frame _ e).2 .sens (by decide)]
  exact s.trigger_pend (List.mem_filter.2 ⟨List.mem_range.2 g.isLt, by simp [hsrc, hunit]⟩) hen htick

theorem State.schedGpioSet_acts (hdue : s.schedDue e 8 = true) : ∃ t, exec (.schedGpioSet e) s = .next t ∧ s.followsLaunch t e ∧
    (∀ k : Fin 8, t.get ⟨R.SYS_GPIO_OUT, k, 1⟩ =
      if bitOf (s.schedTarget e) k then b2n (bitOf (s.schedParam e) k) else s.get ⟨R.SYS_GPIO_OUT, k, 1⟩) ∧
    Keeps (schedFlds e ++ [⟨R.SYS_GPIO_OUT, 0, 8⟩]) [.ep] s t := by
  have hframe := s.gpioDriven_frame e
  have hl := State.schedLaunch_follows (k := fun s => s.gpioDriven e) hdue (.of_outside (hframe.toOutside (rs := [zone R.SYS_ID]) (by decide)) e.isLt)
  refine ⟨_, hl.1, hl.2, fun k => ?_, .after (State.schedAfter_frame _ e) (.after hframe (.refl _ _ s))⟩
  exact (State.schedAfter_get (s.gpioDriven e) e _ (by simp) e.isLt).trans (s.gpioDriven_level k.isLt)

theorem State.schedIrq_acts (hdue : s.schedDue e 9 = true) : ∃ t, exec (.schedIrq e) s = .next t ∧ s.followsLaunch t e ∧
    (∀ q : Fin 2, bitOf (s.schedTarget e) q = true → t.get (F.HIC_SRC_PENDING q 1) = 1) ∧
    Keeps (schedFlds e ++ [F.HIC_SRC_PENDING 0 1, F.HIC_SRC_PENDING 1 1]) [.ep] s t := by
  obtain ⟨hframe, hset⟩ := s.irqSet_facts (m := s.schedTarget e)
  have hl := State.schedLaunch_follows (k := fun s => s.forEach (maskIdx 2 (s.schedTarget e)) fun s q => s.set1 (F.HIC_SRC_PENDING q 1)) hdue
    (.of_outside (hframe.toOutside (rs := [(R.HIC_SRC 0 1, R.HIC_SRC 1 1 + 4)]) (by decide)) e.isLt)
  refine ⟨_, hl.1, hl.2, fun q hq => ?_, .after (State.schedAfter_frame _ e) (.after hframe (.refl _ _ s))⟩
  exact (State.schedAfter_get _ e _ (by simp; omega) e.isLt).trans (hset q hq)

theorem State.schedStreamMark_acts (hdue : s.schedDue e 10 = true) : ∃ t, exec (.schedStreamMark e) s = .next t ∧ s.followsLaunch t e ∧
    (∀ k : Fin 16, bitOf (s.schedTarget e) k = true → (t.sens.ch.get k).marks = (s.sens.ch.get k).marks ++ [s.schedTime e]) ∧
    Keeps (schedFlds e) [.ep, .sens] s t := by
  have hframe := s.streamMarked_frame e (maskIdx 16 (s.schedTarget e) ++ (maskIdx 10 (s.schedParam e)).map (· + 16))
  have hl := State.schedLaunch_follows (k := fun s => s.streamMarked e (maskIdx 16 (s.schedTarget e) ++ (maskIdx 10 (s.schedParam e)).map (· + 16))) hdue
    (.of_outside (hframe.toOutside (rs := []) (by simp)) e.isLt)
  refine ⟨_, hl.1, hl.2, fun k hk => ?_, .after (State.schedAfter_frame _ e) (.after hframe (.refl _ _ s))⟩
  rw [(State.schedAfter_frame _ e).2 .sens (by decide)]
  exact s.streamMarked_marks e (markedChannels_nodup _ _) (List.mem_append_left _ (mem_maskIdx.2 ⟨k.isLt, hk⟩))

end

/-- Settles O11: one theorem per action, each from the entry's launch and what the action does; an entry that is not due changes nothing. -/
theorem scheduledActions : Obligations.ScheduledActions := by
  have hidle {s : State} {e a : Nat} {k : State → State} (h : s.schedDue e a = false) : Host.Outcome.next (s.schedLaunch e a k) = (.next s : Res) :=
    congrArg Host.Outcome.next (State.schedLaunch_not_due h)
  exact ⟨fun s e => ⟨s.schedNone_acts e, s.schedWindow_acts e, s.schedGpioSet_acts e, s.schedIrq_acts e, s.schedStreamMark_acts e,
      hidle, hidle, hidle, hidle, hidle⟩,
    fun s e => ⟨s.schedPwmStart_acts e, s.schedPwmStop_acts e, s.schedPwmCommit_acts e, s.schedMeterLatch_acts e, s.schedRelayCmd_acts e,
      s.schedMaintStart_acts e, hidle, hidle, hidle, hidle, hidle, hidle⟩⟩

end Sys2Proof.Machine
end

section
/-!
O12: the delivery of a closed window whose record names a channel that there is none of.
The proofs are elaborated in turn: in one text, proofs that wait for each other would each hold a thread.
-/

set_option Elab.async false

namespace Sys2Proof.Machine

/-! # O12: the delivery of a closed window whose record names a channel that there is none of -/

/-- A closed window of group 0 with one record, whose channel number is 1040. -/
def strayWindow : Closed := { c := 0, len := 0, seq := 0, recs := [⟨1040, 0, 1, 0⟩], periods := [] }

/-- The state after reset in which that window awaits its delivery. -/
def strayDelivery : State := State.reset.modWg 0 fun x => { x with closed := [strayWindow] }

/-- The record goes to the register that a channel 1040 would have. -/
theorem strayDelivery_writes : (strayDelivery.windowDeliver 0 strayWindow).rd (R.CH_RES 1040) = 1#32 := by decide +kernel

/-- Refutes O12: the frame of a delivery holds for every closed window, and one whose record names channel 1040 is written outside the blocks
that the frame names. -/
theorem not_windowGroups : ¬ Obligations.WindowGroups := by
  intro h
  obtain ⟨-, -, -, -, hdeliver, -⟩ := h.1 strayDelivery 0
  obtain ⟨t, hexec, -, hkeeps, -⟩ := hdeliver strayWindow [] rfl
  obtain rfl : strayDelivery.windowDeliver 0 strayWindow = t := Host.Outcome.next.inj hexec
  have hkept : (1#32 : Word) = strayDelivery.rd (R.CH_RES 1040) := strayDelivery_writes.symm.trans (hkeeps.1 _ (by decide))
  exact absurd hkept (by decide +kernel)

end Sys2Proof.Machine
end

section
/-!
O30: the last point of an I-V trace under the uncached window.
The proofs are elaborated in turn: in one text, proofs that wait for each other would each hold a thread.
-/

set_option Elab.async false

namespace Sys2Proof.Machine

/-! # O30: the last point of an I-V trace whose results lie under the uncached window of the system SRAM -/

/-- A trace of input 0 in its last point, in which one window closed; DIAG_IV_BASE names the uncached window. -/
def aliasTrace : State :=
  ((State.reset.put ⟨R.DIAG_MAINT_RUN, 4, 1⟩ 1).wr R.DIAG_IV_BASE 0x28000000#32).modIv 0 fun t => { t with point := 511, n := 1 }

/-- The trace ends: its last entry is written, and both slots return to 0.0. -/
def aliasTraceEnd : State := (aliasTrace.ivEntry 0).ivFinish 0 .ok

theorem aliasTrace_ends : exec (.ivTraceEnd 0) aliasTrace = .next aliasTraceEnd := by
  have hrun : aliasTrace.maintRuns (Act.ivTrace 0) = true ∧ (aliasTrace.diag.iv.get 0).point = 511 ∧ (aliasTrace.diag.iv.get 0).at_ 512 ≤ aliasTrace.mono := by
    decide +kernel
  have hwin : ((aliasTrace.ivEntry 0).diag.iv.get 0).noWin = 0 := by decide +kernel
  obtain ⟨hruns, hpoint, hat⟩ := hrun
  change execIvTraceEnd 0 aliasTrace = _
  unfold execIvTraceEnd
  rw [if_pos (by simpa [hpoint] using ⟨hruns, hat⟩)]
  exact if_pos hwin

/-- The entry's count of windows stands at the word's home, 0x20000FFC, which is no address of the window. -/
theorem aliasTrace_written : aliasTraceEnd.rdB 0x20000FFE = 1#8 ∧ aliasTrace.rdB 0x20000FFE = 0#8 := by decide +kernel

/-- Refutes O30: the end of a trace writes its last entry, and where DIAG_IV_BASE names the uncached window the same bytes change at their
home in the system SRAM, which the frame of the clause says are kept. -/
theorem not_arcDetectionTracesAndInsulation : ¬ Obligations.ArcDetectionTracesAndInsulation := by
  intro h
  obtain ⟨-, hend, -⟩ := h.2 aliasTrace
  obtain ⟨t, hexec, -, -, -, -, -, hbytes, -⟩ := hend 0 (by decide +kernel) (by decide +kernel) (by decide +kernel)
  obtain rfl := Host.Outcome.next.inj (aliasTrace_ends.symm.trans hexec)
  have hkept := hbytes 0x20000FFE (.inl (by decide +kernel)) (.inl (by decide +kernel))
  rw [aliasTrace_written.1, aliasTrace_written.2] at hkept
  exact absurd hkept (by decide)

end Sys2Proof.Machine
end

section
/-!
O39: a power-down of PD10 during the comparator test.
The proofs are elaborated in turn: in one text, proofs that wait for each other would each hold a thread.
-/

set_option Elab.async false

namespace Sys2Proof.Machine

/-! # O39: PD10 goes off while the comparator test runs, its queue holding a stray index -/

/-- PD1 and PD10 are on, PD10 by its control bit; the comparator test runs over comparators of the grid side, and its queue holds a stray index. -/
def strayDomain : State :=
  { (((State.reset.put F.SYS_PD_STATUS_DOMAIN_ON (2 ^ 1 + 2 ^ 10)).put (pdCtrlF 10) 1).put ⟨R.DIAG_MAINT_RUN, Act.wcmpTest, 1⟩ 1) with
    wcmp := { State.reset.wcmp with queue := [8206] }
    diag := { State.reset.diag with testMask := 2 ^ 14 } }

/-- The control word without PD10's bit. -/
def strayDomainOff : State := strayDomain.pdWrite .hpa (w32 (bitsPut (strayDomain.rd R.SYS_PD_CTRL).toNat 10 1 0))

/-- PD10 drops the test (R537), whose abort writes the register of the stray index. -/
theorem strayDomainOff_writes : strayDomainOff.rd (R.WC_STATUS 8206) = 2#32 := by decide +kernel

/-- Refutes O39: PD10's power-down aborts the comparator test in progress; where the test's queue holds a stray index, the abort writes a
register outside the blocks that the frame names. -/
theorem not_powerDomainsAndOperatingPoints : ¬ Obligations.PowerDomainsAndOperatingPoints := by
  intro h
  obtain ⟨-, -, -, hoff, -⟩ := h.1 strayDomain
  obtain ⟨t, hexec, -, -, -, -, -, -, -, hkeeps⟩ := hoff 10 (by decide +kernel) (by decide) (by decide +kernel)
  obtain rfl : strayDomainOff = t := Host.Outcome.next.inj hexec
  have hkept : (2#32 : Word) = strayDomain.rd (R.WC_STATUS 8206) := strayDomainOff_writes.symm.trans (hkeeps.1 _ (by decide))
  exact absurd hkept (by decide +kernel)

end Sys2Proof.Machine
end

section
/-!
Proofs about forming control, probes and reconnection (chapters 10 and 11).
The proofs are elaborated in turn: in one text, proofs that wait for each other would each hold a thread.
-/

set_option Elab.async false

namespace Sys2Proof.Machine

/-! # O24: forming control, probes and reconnection (chapters 10 and 11) -/

/-! ### FORMING and probes (R367, R386, R388) -/

section
variable (s : State)

theorem bitsOf_bit (n k : Nat) : bitsOf n k 1 = b2n (bitOf n k) := by
  rw [bitOf, bitsOf, pow_one]
  have := Nat.mod_two_eq_zero_or_one (n / 2 ^ k)
  rcases this with h | h <;> simp [h, b2n]

theorem State.formingWrite_taken {v : Word} (h : bitOf v.toNat 0 = false ∨ bitOf s.imgFlags 1 = true) :
    exec (.gridFormingWrite .hpa v) s = .next (s.put F.GRID_MODE_FORMING (b2n (bitOf v.toNat 0))) := by
  refine congrArg Host.Outcome.next ?_
  rw [bitsOf_bit]
  refine if_neg ?_
  rcases h with h | h <;> simp [h, b2n]

theorem State.formingWrite_refused {i : Initiator} {v : Word} (h : i ≠ .hpa ∨ (bitOf v.toNat 0 = true ∧ bitOf s.imgFlags 1 = false)) :
    exec (.gridFormingWrite i v) s = .next (s.cfgReject .grid) := by
  refine congrArg Host.Outcome.next ?_
  rw [bitsOf_bit]
  refine if_pos ?_
  rcases h with h | ⟨h, hbit⟩
  · exact .inl h
  · exact .inr (by simp [h, hbit, b2n])

theorem State.probeBegin_facts (passive : Bool) : (s.probeBegin passive).probing = true ∧ (s.probeBegin passive).grid.probeStart = s.mono ∧
    (s.probeBegin passive).grid.probeF0 = s.grid.fLast ∧ (s.probeBegin passive).grid.probeAt = none ∧
    (s.probeBegin passive).grid.probePassive = passive ∧ Keeps [F.GRID_RT_STATUS_PROBE] [.grid] s (s.probeBegin passive) := by
  have hframe : Keeps [F.GRID_RT_STATUS_PROBE] [.grid] s (s.probeBegin passive) := .beside' (.put' (.refl _ _ s))
  have hflag : (s.put F.GRID_RT_STATUS_PROBE 1).flag F.GRID_RT_STATUS_PROBE = true := State.flag_put_bool s _ true rfl (by decide)
  exact ⟨hflag, rfl, rfl, rfl, rfl, hframe⟩

variable {s}

theorem State.probeStart_waiting {a : Nat} (hallow : s.probeAllowed = true) (hidle : s.probing = false) (hwait : s.grid.probeAt = some a) (ha : a ≤ s.epoch) :
    exec .probeStart s = .next (s.probeBegin true) := by
  change execProbeStart s = _
  unfold execProbeStart
  rw [if_neg (by simp [hallow, hidle]), hwait]
  exact if_pos ha

theorem State.probeStart_periodic (hallow : s.probeAllowed = true) (hidle : s.probing = false) (hwait : s.grid.probeAt = none) (hevery : s.probeEvery ≠ 0)
    (hdue : s.epoch % (s.probeEvery * 800000000) = 0) : exec .probeStart s = .next (s.probeBegin false) := by
  change execProbeStart s = _
  unfold execProbeStart
  rw [if_neg (by simp [hallow, hidle]), hwait]
  exact if_pos ⟨hevery, hdue⟩

theorem State.probeStart_not (h : s.probeAllowed = false ∨ s.probing = true) : exec .probeStart s = .next s :=
  if_pos (by rcases h with h | h <;> simp [h])

variable (s)

/-- A probe ends without confirmation, and counts. -/
def State.probeOver (s : State) : State :=
  ((s.put F.GRID_RT_STATUS_PROBE 0).put F.GRID_RT_STATUS_PASSIVE 0).incSat F.GRID_ISL_CNT_PROBES

theorem State.probeOver_facts : s.probeOver.probing = false ∧ s.probeOver.get F.GRID_RT_STATUS_PASSIVE = 0 ∧
    s.probeOver.get F.GRID_ISL_CNT_PROBES = satInc F.GRID_ISL_CNT_PROBES.len (s.get F.GRID_ISL_CNT_PROBES) ∧
    Keeps [F.GRID_RT_STATUS_PROBE, F.GRID_RT_STATUS_PASSIVE, F.GRID_ISL_CNT_PROBES] [] s s.probeOver := by
  have hframe : Keeps [F.GRID_RT_STATUS_PROBE, F.GRID_RT_STATUS_PASSIVE, F.GRID_ISL_CNT_PROBES] [] s s.probeOver := .incSat' (.put' (.put' (.refl _ _ s)))
  refine ⟨?_, ?_, ?_, hframe⟩
  · simp [State.probing, State.probeOver]
  · simp [State.probeOver]
  · exact (State.get_put_same _ _ _ (by decide)).trans ((Nat.mod_eq_of_lt (satInc_lt _ _)).trans
      (congrArg _ ((State.get_put_other _ _ _ _ (by decide)).trans (State.get_put_other _ _ _ _ (by decide)))))

theorem State.probeEnd_over (hrun : s.probing = true) (hdue : s.grid.probeStart + s.gc 0x20A 2 * 800000 ≤ s.mono) :
    exec .probeEnd s = .next s.probeOver := if_pos (by rw [hrun, Bool.true_and]; exact decide_eq_true hdue)

end

/-! ### Reconnection (R400, R402) -/

section
variable {s : State}

theorem State.reconnectReady_due {a : Nat} (htimer : s.grid.timer = some a) (hconn : s.conn = 1)
    (hdue : a + (s.gc 0x210 2 * 1000 + (s.rd R.GRID_RC_DRAW).toNat) * 800000 ≤ s.mono) :
    exec .reconnectReady s = .next (s.put F.GRID_RT_STATUS_RC_READY 1) := by
  change execReconnectReady s = _
  unfold execReconnectReady
  rw [htimer]
  exact if_pos ⟨hconn, hdue⟩

theorem State.reconnectReady_idle (htimer : s.grid.timer = none) : exec .reconnectReady s = .next s := by
  change execReconnectReady s = _
  unfold execReconnectReady
  rw [htimer]

theorem KeepsOutside.mono_eq {rs : List (Nat × Nat)} {ps : List Part} {s t : State} (h : KeepsOutside rs ps s t)
    (he : Part.epoch ∉ ps := by decide) (hb : Part.ep ∉ ps := by decide) : t.mono = s.mono := by
  have hepoch : t.epoch = s.epoch := h.2 .epoch he
  have hep : t.ep = s.ep := h.2 .ep hb
  rw [State.mono, State.mono, hepoch, hep]

/-- AUTO = 1 in WAIT, with the reconnection timer running and no relay check passed or in progress. -/
structure AutoChecks (s : State) : Prop where
  auto : s.flag F.GRID_RT_CTRL_AUTO = true
  wait : s.conn = 1
  timer : s.grid.timer.isSome = true
  unchecked : s.flag F.GRID_RT_STATUS_CHECK_OK = false
  idle : s.maintRuns Act.relayCheck = false
  due : s.grid.checkAt ≤ s.mono

/-- The relay check that the block asks for itself. -/
def State.autoAsked (s : State) : State := s.maintArrive s.epoch .device Act.relayCheck

theorem AutoChecks.exec_eq (h : AutoChecks s) : exec .autoCheckRequest s =
    .next (if s.autoAsked.maintRuns Act.relayCheck then s.autoAsked else s.autoAsked.modGrid fun g => { g with checkAt := s.autoAsked.mono + 800000000 }) := by
  change execAutoCheckRequest s = _
  unfold execAutoCheckRequest
  rw [if_pos (by simp [h.auto, h.wait, h.timer, h.unchecked, h.idle, h.due])]
  dsimp only
  split
  next hrun => exact (congrArg Host.Outcome.next (if_pos hrun)).symm
  next hrun => exact (congrArg Host.Outcome.next (if_neg hrun)).symm

theorem State.autoAsked_eq (hfirst : s.maintFirst Act.relayCheck) : s.autoAsked = (s.reqNoted s.epoch Act.relayCheck).maintRequest .device Act.relayCheck :=
  State.maintArrive_first (by decide) hfirst.1 hfirst.2

theorem State.reqNoted_refusal (s : State) (t c : Nat) (r : Requester) (d : Nat) : (s.reqNoted t c).maintRefusal r d = s.maintRefusal r d := rfl

/-- A granted relay check begins: both relays are de-energised, and its first step starts (R393). -/
def State.checkGranted (s : State) : State :=
  ((((s.maintNoted 9 1 0 0).maintStart 9).relayDrive 0 false).relayDrive 1 false).put F.RELAY_STATUS_CHECK_STEP 1

theorem State.maintRequest_check (h : s.maintRefusal .device 9 = none) :
    s.maintRequest .device 9 = s.checkGranted.modRelay fun r => { r with checkFrom := s.mono } := by
  rw [State.maintRequest, h]
  rfl

theorem State.checkGranted_outside (s : State) : KeepsOutside [zone R.RELAY_CFG, zone R.DIAG_MAINT_REQ] [.relay] s s.checkGranted := by
  have hnoted : KeepsOutside [zone R.RELAY_CFG, zone R.DIAG_MAINT_REQ] [.relay] s (s.maintNoted 9 1 0 0) :=
    .after ((s.maintNoted_frame 9 1 0 0).toOutside (rs := [zone R.DIAG_MAINT_REQ]) (by decide)) (.refl _ _ s)
  exact .put' (.after (State.relayDrive_outside ..) (.after (State.relayDrive_outside ..) (.after (State.maintStart_outside _ _ (by decide)) hnoted)))

theorem State.checkGranted_facts (s : State) : s.checkGranted.maintRuns 9 = true ∧ s.checkGranted.get F.DIAG_MAINT_LAST_RESULT = 1 ∧
    s.checkGranted.get F.RELAY_STATUS_CHECK_STEP = 1 := by
  have hdrive (t : State) (k : Nat) : KeepsOutside [zone R.RELAY_CFG] [.relay] t (t.relayDrive k false) := (.after (State.relayDrive_outside ..) (.refl _ _ t))
  have hget (g : Fld) (hg : g.addr < R.RELAY_CFG ∨ R.RELAY_CFG + 0x10000 ≤ g.addr) : s.checkGranted.get g = ((s.maintNoted 9 1 0 0).maintStart 9).get g :=
    (State.get_put_other _ _ _ _ (by simp [Fld.apart]; simp at hg; omega)).trans
      (((hdrive _ 1).get_eq g (by simpa [zone] using hg)).trans ((hdrive _ 0).get_eq g (by simpa [zone] using hg)))
  refine ⟨?_, ?_, State.get_put_same _ _ _ (by decide)⟩
  · rw [State.maintRuns_get, hget _ (by simp)]
    exact beq_iff_eq.2 ((State.get_put_other _ _ _ _ (by decide)).trans (State.get_put_same _ _ _ (by decide)))
  · rw [hget _ (by simp)]
    exact (State.get_put_other _ _ _ _ (by decide)).trans ((State.get_put_other _ _ _ _ (by decide)).trans
      (s.maintNoted_get (by decide) (by decide)).2)

/-- With AUTO = 1 the block asks for the relay check, which is granted where nothing refuses it (R400). -/
theorem AutoChecks.granted (h : AutoChecks s) (hfirst : s.maintFirst Act.relayCheck) (hask : s.maintRefusal .device Act.relayCheck = none) :
    ∃ t, exec .autoCheckRequest s = .next t ∧ t.maintRuns Act.relayCheck = true ∧ t.get F.DIAG_MAINT_LAST_RESULT = 1 ∧
      t.get F.RELAY_STATUS_CHECK_STEP = 1 ∧ t.relay.checkFrom = s.mono ∧ KeepsOutside [zone R.RELAY_CFG, zone R.DIAG_MAINT_REQ] [.relay, .diag] s t := by
  obtain ⟨hruns, hlast, hstep⟩ := (s.reqNoted s.epoch Act.relayCheck).checkGranted_facts
  have hout := (s.reqNoted s.epoch Act.relayCheck).checkGranted_outside
  have hasked : s.autoAsked = _ := (State.autoAsked_eq hfirst).trans (State.maintRequest_check (s := s.reqNoted s.epoch Act.relayCheck) hask)
  have hnoted : KeepsOutside [] [.diag] s (s.reqNoted s.epoch Act.relayCheck) := .beside' (.refl _ _ s)
  have hruns' : s.autoAsked.maintRuns Act.relayCheck = true := (congrArg (State.maintRuns · Act.relayCheck) hasked).trans hruns
  refine ⟨_, h.exec_eq.trans (congrArg Host.Outcome.next (if_pos hruns')), hruns', ?_, ?_, ?_, ?_⟩
  · exact (congrArg (State.get · F.DIAG_MAINT_LAST_RESULT) hasked).trans hlast
  · exact (congrArg (State.get · F.RELAY_STATUS_CHECK_STEP) hasked).trans hstep
  · exact congrArg (fun t => t.relay.checkFrom) hasked
  · rw [hasked]
    exact .beside' (.after hout (.after hnoted (.refl _ _ s)))

end

section
variable {s : State}

/-- A refused one is asked for again a second later (R400). -/
theorem AutoChecks.refused {w : Nat × Nat} (h : AutoChecks s) (hfirst : s.maintFirst Act.relayCheck)
    (hask : s.maintRefusal .device Act.relayCheck = some w) :
    ∃ t, exec .autoCheckRequest s = .next t ∧ t.maintRuns Act.relayCheck = false ∧ t.get F.DIAG_MAINT_LAST_RESULT = 2 ∧
      t.grid.checkAt = s.mono + 800000000 ∧ KeepsOutside [zone R.DIAG_MAINT_REQ] [.grid, .diag] s t := by
  have hasked : s.autoAsked = ((s.reqNoted s.epoch Act.relayCheck).maintNoted 9 2 w.1 w.2).put ⟨R.DIAG_MAINT_REFUSED, 9, 1⟩ 1 := by
    have hreq : (s.reqNoted s.epoch Act.relayCheck).maintRefusal .device 9 = some w := hask
    rw [State.autoAsked_eq hfirst, State.maintRequest, hreq]
    rfl
  have hout : KeepsOutside [zone R.DIAG_MAINT_REQ] [.grid, .diag] s s.autoAsked := by
    rw [hasked]
    exact .put' (.after ((State.maintNoted_frame _ 9 2 w.1 w.2).toOutside (rs := [zone R.DIAG_MAINT_REQ]) (by decide)) (.beside' (.refl _ _ s)))
  have hidle : s.autoAsked.maintRuns Act.relayCheck = false := by
    have hframe : Keeps [whole R.DIAG_MAINT_LAST, ⟨R.DIAG_MAINT_REFUSED, 9, 1⟩] [.diag] s s.autoAsked := by
      rw [hasked]
      exact .put' (.after (State.maintNoted_frame _ 9 2 w.1 w.2) (.beside' (.refl _ _ s)))
    rw [State.maintRuns_get, hframe.get_eq _ (by decide), ← State.maintRuns_get]
    exact h.idle
  refine ⟨_, h.exec_eq.trans (congrArg Host.Outcome.next (if_neg (by simp [hidle]))), hidle, ?_, ?_, .beside' hout⟩
  · have hlast (t : State) : ((t.maintNoted 9 2 w.1 w.2).put ⟨R.DIAG_MAINT_REFUSED, 9, 1⟩ 1).get F.DIAG_MAINT_LAST_RESULT = 2 :=
      (State.get_put_other _ _ _ _ (by decide)).trans (State.maintNoted_get (by decide) (by decide)).2
    have hbeside (t : State) (g : GridState → GridState) (f : Fld) : (t.modGrid g).get f = t.get f := rfl
    rw [hbeside, hasked]
    exact hlast _
  · have hlater (t : State) (n : Nat) : (t.modGrid fun g => { g with checkAt := n }).grid.checkAt = n := rfl
    exact (hlater _ _).trans (by rw [hout.mono_eq])

theorem State.autoPwmStart_due {a : Nat} (hstart : s.grid.startAt = some a) (hconn : s.conn = 3) (ha : a ≤ s.epoch) :
    ∃ t, exec .autoPwmStart s = .next t ∧ t.grid.startAt = none ∧
      (∀ u ∈ s.gridUnits, s.startRefused u = false → s.ep.stopAt.get u ≠ s.epoch + 1 → t.pwmState u = 1) ∧
      KeepsOutside [zone (R.PWM_CTRL 0), zone (R.LP_CTRL 0)] [.shadow, .raised, .pwm, .sens, .wcmp, .grid] s t := by
  have hexec : exec .autoPwmStart s =
      .next ((s.modGrid fun g => { g with startAt := none }).forEach s.gridUnits fun s u => s.startUnit u) := by
    change execAutoPwmStart s = _
    unfold execAutoPwmStart
    rw [hstart]
    exact if_pos ⟨hconn, ha⟩
  have hlt : ∀ u ∈ s.gridUnits, u < 14 := fun u hu => (State.gridUnits_bounds hu).2
  have hstarts (t : State) : KeepsOutside [zone (R.PWM_CTRL 0), zone (R.LP_CTRL 0)] [.raised, .shadow, .pwm, .wcmp, .sens] t
      (t.forEach s.gridUnits fun s u => s.startUnit u) :=
    .forEach' (.refl _ _ t) fun u hu _ => .after (State.startUnit_outside _ _ (hlt u hu)) (.refl _ _ _)
  refine ⟨_, hexec, ?_, fun u hu href hstop => ?_, .after (hstarts _) (.beside' (.refl _ _ s))⟩
  · rw [(hstarts _).2 .grid (by decide)]
    rfl
  · exact (State.forEach_starts (s.modGrid fun g => { g with startAt := none }) s.gridUnits_nodup hlt hu href hstop).1

theorem State.autoPwmStart_idle (hstart : s.grid.startAt = none) : exec .autoPwmStart s = .next s := by
  change execAutoPwmStart s = _
  unfold execAutoPwmStart
  rw [hstart]

end

/-- Settles O24: each command by the equation of its branch, and what the written fields then read. -/
theorem formingProbesAndReconnection : Obligations.FormingProbesAndReconnection := by
  refine ⟨fun s => ⟨fun v hv => ⟨_, s.formingWrite_taken hv, ?_, .put' (.refl _ _ s)⟩,
      fun i v hv => ⟨_, s.formingWrite_refused hv, s.cfgReject_refused _ _⟩,
      fun a hallow hidle hwait ha => ⟨_, State.probeStart_waiting hallow hidle hwait ha, ?_⟩,
      fun hallow hidle hwait hevery hdue => ⟨_, State.probeStart_periodic hallow hidle hwait hevery hdue, ?_⟩,
      State.probeStart_not, fun hrun hdue => ⟨_, s.probeEnd_over hrun hdue, s.probeOver_facts⟩⟩,
    fun s => ⟨fun a htimer hconn hdue => ⟨_, State.reconnectReady_due htimer hconn hdue, State.get_put_same _ _ _ (by decide), .put' (.refl _ _ s)⟩,
      State.reconnectReady_idle, fun hauto hconn htimer hcheck hidle hdue hfirst hask => ?_, fun r hauto hconn htimer hcheck hidle hdue hfirst hask => ?_,
      fun a hstart hconn ha => State.autoPwmStart_due hstart hconn ha, State.autoPwmStart_idle⟩⟩
  · exact (State.get_put_same _ _ _ (by decide)).trans (Nat.mod_eq_of_lt (b2n_lt_two _))
  · obtain ⟨hrun, hstart, hf0, hat, hpassive, hframe⟩ := s.probeBegin_facts true
    exact ⟨hrun, hstart, hf0, hat, hpassive, hframe⟩
  · obtain ⟨hrun, hstart, -, -, hpassive, hframe⟩ := s.probeBegin_facts false
    exact ⟨hrun, hstart, hpassive, hframe⟩
  · exact AutoChecks.granted ⟨hauto, hconn, htimer, hcheck, hidle, hdue⟩ hfirst hask
  · exact AutoChecks.refused ⟨hauto, hconn, htimer, hcheck, hidle, hdue⟩ hfirst hask

end Sys2Proof.Machine
end

section
/-!
Proofs about the relay check and the closing of K1 and K2 (chapter 11).
The proofs are elaborated in turn: in one text, proofs that wait for each other would each hold a thread.
-/

set_option Elab.async false

namespace Sys2Proof.Machine

/-! # O25: the relay check and the closing of K1 and K2 (chapter 11) -/

theorem State.opReg_outside (s : State) :
    KeepsOutside [zone R.RELAY_CFG] [] s s.opReg :=
  .put' (.refl _ _ _)

theorem State.opUpdate_outside (s : State) :
    KeepsOutside [zone R.RELAY_CFG] [.relay] s s.opUpdate := by
  unfold State.opUpdate
  split
  · exact (.refl _ _ _)
  · exact .ite' (.after (State.opReg_outside ..) (.after (State.modRelay_outside ..) (.put' (.refl _ _ _)))) (.put' (.refl _ _ _))

theorem State.enterConnected_outside (s : State) :
    KeepsOutside [zone R.RELAY_CFG, zone R.GRID_CFG] [.relay, .grid] s s.enterConnected :=
  .comp (.after (State.modRelay_outside ..) (.after (State.modGrid_outside ..) (.ite' (.wr' (.refl _ _ _)) (.refl _ _ _)))) (.wr' (.after (State.setConn_outside ..) (.after (State.opUpdate_outside ..) (.refl _ _ _))))


/-! ### The hold duty (R390) -/

section
variable (s : State)

/-- PULLIN having passed, each energised relay is at its hold duty. -/
def State.heldDuty : State := (s.relayHold 0).relayHold 1

theorem State.relayHold_frame (k : Nat) : Keeps [F.RELAY_STATUS_K1_HOLD, F.RELAY_STATUS_K2_HOLD] [] s (s.relayHold k) := by
  have hk : relayHoldF k ∈ [F.RELAY_STATUS_K1_HOLD, F.RELAY_STATUS_K2_HOLD] := by
    unfold relayHoldF
    split <;> simp
  exact .ite' (.put' (.refl _ _ s) hk) (.refl _ _ s)

theorem State.heldDuty_frame : Keeps [F.RELAY_STATUS_K1_HOLD, F.RELAY_STATUS_K2_HOLD] [] s s.heldDuty :=
  ((s.relayHold_frame 0).trans (State.relayHold_frame _ 1))

theorem State.heldDuty_outside : KeepsOutside [zone R.RELAY_CFG] [] s s.heldDuty := s.heldDuty_frame.toOutside (by decide)

/-- What does not read the hold bits is as it was. -/
theorem State.heldDuty_view {α : Type} (f : State → α) (h : ∀ t k, f (t.put (relayHoldF k) 1) = f t) : f s.heldDuty = f s := by
  have hstep (t : State) (k : Nat) : f (t.relayHold k) = f t := by
    unfold State.relayHold
    split
    · exact h t k
    · rfl
  exact (hstep _ 1).trans (hstep _ 0)

theorem State.get_put_hold (t : State) (k : Nat) (g : Fld) (h : F.RELAY_STATUS_K1_HOLD.apart g = true ∧ F.RELAY_STATUS_K2_HOLD.apart g = true) :
    (t.put (relayHoldF k) 1).get g = t.get g := by
  refine State.get_put_other _ _ _ _ ?_
  unfold relayHoldF
  split
  · exact h.1
  · exact h.2

theorem State.heldDuty_get (g : Fld) (h : F.RELAY_STATUS_K1_HOLD.apart g = true ∧ F.RELAY_STATUS_K2_HOLD.apart g = true) :
    s.heldDuty.get g = s.get g := s.heldDuty_view (State.get · g) fun t k => t.get_put_hold k g h

theorem State.heldDuty_flag (g : Fld) (h : F.RELAY_STATUS_K1_HOLD.apart g = true ∧ F.RELAY_STATUS_K2_HOLD.apart g = true) :
    s.heldDuty.flag g = s.flag g := congrArg (· == 1) (s.heldDuty_get g h)

theorem State.heldDuty_conn : s.heldDuty.conn = s.conn := s.heldDuty_get _ (by decide)

theorem State.heldDuty_fb (k : Nat) : s.heldDuty.relayFb k = s.relayFb k := by
  refine s.heldDuty_view (State.relayFb · k) fun t j => ?_
  have hget (g : Fld) (hg : F.RELAY_STATUS_K1_HOLD.apart g = true ∧ F.RELAY_STATUS_K2_HOLD.apart g = true) := t.get_put_hold j g hg
  unfold State.relayFb State.flag
  split <;> rw [hget _ (by decide), hget _ (by decide)]

theorem State.heldDuty_mono : s.heldDuty.mono = s.mono := s.heldDuty_view State.mono fun _ _ => rfl

theorem State.heldDuty_relay : s.heldDuty.relay = s.relay := s.heldDuty_frame.2 .relay (by decide)

theorem State.heldDuty_grid : s.heldDuty.grid = s.grid := s.heldDuty_frame.2 .grid (by decide)

theorem State.heldDuty_ticks (n : Nat) : s.heldDuty.checkTicks n = s.checkTicks n := by
  refine s.heldDuty_view (State.checkTicks · n) fun t k => ?_
  have hnom : (t.put (relayHoldF k) 1).nomCycle = t.nomCycle := rfl
  unfold State.checkTicks
  rw [hnom, t.get_put_hold k _ (by decide), t.get_put_hold k _ (by decide)]

theorem State.heldDuty_pass (n : Nat) : s.heldDuty.checkPass n = s.checkPass n := by
  unfold State.checkPass
  simp only [s.heldDuty_fb, s.heldDuty_flag _ (show F.RELAY_STATUS_K1_HOLD.apart F.RELAY_STATUS_CHECK_FB_ONLY = true ∧
    F.RELAY_STATUS_K2_HOLD.apart F.RELAY_STATUS_CHECK_FB_ONLY = true by decide), s.heldDuty_flag _ (show
    F.RELAY_STATUS_K1_HOLD.apart F.RELAY_STATUS_VKX_DEAD = true ∧ F.RELAY_STATUS_K2_HOLD.apart F.RELAY_STATUS_VKX_DEAD = true by decide)]

theorem State.relayHold_sets {k : Nat} (hcmd : s.flag (relayCmdF k) = true) (hdue : s.relay.cmdAt.get k + s.get F.RELAY_CFG_PULLIN * 800000 ≤ s.mono) :
    (s.relayHold k).flag (relayHoldF k) = true := by
  have hlen : (relayHoldF k).len = 1 ∧ (relayHoldF k).lo + (relayHoldF k).len ≤ 32 := by unfold relayHoldF; split <;> decide
  unfold State.relayHold
  split
  · exact State.flag_put_bool s _ true hlen.1 hlen.2
  next hno =>
    cases hheld : s.flag (relayHoldF k)
    · exact absurd (by rw [hcmd, hheld, decide_eq_true hdue]; rfl) hno
    · rfl

theorem State.relayHold_other : (s.relayHold 1).flag (relayHoldF 0) = s.flag (relayHoldF 0) := by
  unfold State.relayHold
  split
  · exact State.flag_put_other _ _ _ _ (by decide)
  · rfl

theorem State.heldDuty_sets (k : Fin 2) (hcmd : s.flag (relayCmdF k) = true)
    (hdue : s.relay.cmdAt.get k + s.get F.RELAY_CFG_PULLIN * 800000 ≤ s.mono) : s.heldDuty.flag (relayHoldF k) = true := by
  have hfirst := s.relayHold_frame 0
  have hmono : (s.relayHold 0).mono = s.mono := State.mono_congr (hfirst.2 .epoch (by decide)) (hfirst.2 .ep (by decide))
  obtain rfl | rfl : k = 0 ∨ k = 1 := by omega
  · exact ((s.relayHold 0).relayHold_other).trans (s.relayHold_sets hcmd hdue)
  · refine State.relayHold_sets _ ((hfirst.flag_eq _ (by decide)).trans hcmd) ?_
    rw [hfirst.2 .relay (by decide), hmono, hfirst.get_eq _ (by decide)]
    exact hdue

end

/-! ### The steps of the check (R393 to R395) -/

section
variable {s : State}

theorem State.checkStep_early (hrun : s.maintRuns Act.relayCheck = true) (hconn : s.conn = 1)
    (hearly : s.mono < s.relay.checkFrom + s.checkTicks (s.get F.RELAY_STATUS_CHECK_STEP)) : exec .relayCheckStep s = .next s.heldDuty := by
  change execRelayCheckStep s = _
  unfold execRelayCheckStep
  rw [if_neg (by simp [hrun]), if_neg (by simp [hconn])]
  refine if_neg (Nat.not_le.2 ?_)
  rw [show (s.relayHold 0).relayHold 1 = s.heldDuty from rfl, s.heldDuty_relay, s.heldDuty_mono, s.heldDuty_get _ (by decide), s.heldDuty_ticks]
  exact hearly

theorem State.checkStep_due {n : Nat} (hrun : s.maintRuns Act.relayCheck = true) (hconn : s.conn = 1) (hn : s.get F.RELAY_STATUS_CHECK_STEP = n)
    (hdue : s.relay.checkFrom + s.checkTicks n ≤ s.mono) : exec .relayCheckStep s = .next (s.heldDuty.checkEnd n) := by
  change execRelayCheckStep s = _
  unfold execRelayCheckStep
  rw [if_neg (by simp [hrun]), if_neg (by simp [hconn])]
  have hstep : s.heldDuty.get F.RELAY_STATUS_CHECK_STEP = n := (s.heldDuty_get _ (by decide)).trans hn
  have hgo : s.heldDuty.relay.checkFrom + s.heldDuty.checkTicks (s.heldDuty.get F.RELAY_STATUS_CHECK_STEP) ≤ s.heldDuty.mono := by
    rw [hstep, s.heldDuty_relay, s.heldDuty_mono, s.heldDuty_ticks]
    exact hdue
  exact (if_pos hgo).trans (by rw [← hstep]; rfl)

theorem State.checkStep_left (hrun : s.maintRuns Act.relayCheck = true) (hconn : s.conn ≠ 1) :
    exec .relayCheckStep s = .next (s.maintAbort Act.relayCheck) := by
  change execRelayCheckStep s = _
  unfold execRelayCheckStep
  rw [if_neg (by simp [hrun]), if_pos hconn]

variable (s)

/-- The next step begins, with its action. -/
def State.checkGoes (n : Nat) : State :=
  ((s.checkAction (n + 1)).put F.RELAY_STATUS_CHECK_STEP (n + 1)).modRelay fun r => { r with checkFrom := s.mono }

/-- The step that decides whether VKX counts (R394). -/
def State.checkOnly : State := s.put F.RELAY_STATUS_CHECK_FB_ONLY (b2n (!s.flag F.GRID_STATUS_LOCK || decide (s.grid.vMean < s.vNom / 2)))

variable {s}

theorem State.checkEnd_goes {n : Nat} (h1 : n ≠ 1) (h5 : n ≠ 5) (hpass : s.checkPass n = true) : s.checkEnd n = s.checkGoes n := by
  unfold State.checkEnd
  dsimp only
  rw [if_neg h1, if_neg (by simp [hpass]), if_neg h5]
  rfl

theorem State.checkEnd_first (hpass : s.checkOnly.checkPass 1 = true) : s.checkEnd 1 = s.checkOnly.checkGoes 1 := by
  unfold State.checkEnd
  dsimp only
  rw [if_pos rfl]
  exact (if_neg (by simpa [State.checkOnly] using hpass)).trans rfl

/-- The check has passed (R395). -/
def State.checkPassed (s : State) : State :=
  ((s.put F.RELAY_STATUS_CHECK_STEP 0).put F.GRID_RT_STATUS_CHECK_OK 1).maintEnd Act.relayCheck .ok

theorem State.checkEnd_last (hpass : s.checkPass 5 = true) : s.checkEnd 5 = s.checkPassed := by
  unfold State.checkEnd
  dsimp only
  rw [if_neg (show ¬(5 : Nat) = 1 by decide), if_neg (by simp [hpass])]
  rfl

theorem State.checkEnd_fails {n : Nat} (h1 : n ≠ 1) (hpass : s.checkPass n = false) : s.checkEnd n = s.checkFail n := by
  unfold State.checkEnd
  dsimp only
  rw [if_neg h1, if_pos (by simp [hpass])]

end

section
variable (s : State)

theorem State.relayDrive_on_cmd2 : (s.relayDrive 1 true).get F.RELAY_STATUS_K2_CMD = 1 := by
  unfold State.relayDrive
  split
  next h => simpa [relayCmdF, State.flag] using h
  next =>
    refine (State.get_put_other _ _ _ _ (by decide)).trans ?_
    refine (State.get_put_other (s.put (relayCmdF 1) (b2n true)) _ _ _ (by decide)).trans ?_
    exact State.get_put_same _ _ _ (by decide)

theorem State.checkAction_frame (n : Nat) : Keeps [F.RELAY_STATUS_K1_CMD, F.RELAY_STATUS_K1_HOLD, F.RELAY_STATUS_K2_CMD, F.RELAY_STATUS_K2_HOLD,
    F.RELAY_CNT_K1, F.RELAY_CNT_K2] [.relay] s (s.checkAction n) := by
  have hdrive0 (on : Bool) : Keeps [relayHoldF 0, relayCmdF 0, relayCntF 0] [.relay] s (s.relayDrive 0 on) := s.relayDrive_keeps 0 on
  have hdrive1 (on : Bool) : Keeps [relayHoldF 1, relayCmdF 1, relayCntF 1] [.relay] s (s.relayDrive 1 on) := s.relayDrive_keeps 1 on
  exact .ite' (.after (hdrive0 _) (.refl _ _ s) (by decide)) (.ite' (.after (hdrive0 _) (.refl _ _ s) (by decide))
    (.ite' (.after (hdrive1 _) (.refl _ _ s) (by decide)) (.after (hdrive1 _) (.refl _ _ s) (by decide))))

theorem State.checkGoes_outside (n : Nat) : KeepsOutside [zone R.RELAY_CFG] [.relay] s (s.checkGoes n) :=
  .beside' (.put' (.after ((s.checkAction_frame (n + 1)).toOutside (rs := [zone R.RELAY_CFG]) (by decide)) (.refl _ _ s)))

theorem State.checkGoes_step {n : Nat} (h : n < 5) : (s.checkGoes n).get F.RELAY_STATUS_CHECK_STEP = n + 1 ∧ (s.checkGoes n).relay.checkFrom = s.mono :=
  ⟨(State.get_put_same _ _ _ (by decide)).trans (Nat.mod_eq_of_lt (by simp; omega)), rfl⟩

theorem State.checkGoes_get (n : Nat) (g : Fld) (h : F.RELAY_STATUS_CHECK_STEP.apart g = true) : (s.checkGoes n).get g = (s.checkAction (n + 1)).get g :=
  State.get_put_other _ _ _ _ h

theorem State.checkGoes_cmds : (s.checkGoes 1).get F.RELAY_STATUS_K1_CMD = 1 ∧ (s.checkGoes 2).get F.RELAY_STATUS_K1_CMD = 0 ∧
    (s.checkGoes 3).get F.RELAY_STATUS_K2_CMD = 1 ∧ (s.checkGoes 4).get F.RELAY_STATUS_K2_CMD = 0 :=
  ⟨(s.checkGoes_get 1 _ (by decide)).trans s.relayDrive_on_cmd, (s.checkGoes_get 2 _ (by decide)).trans (s.relayDrive_off_cmd 0),
    (s.checkGoes_get 3 _ (by decide)).trans s.relayDrive_on_cmd2, (s.checkGoes_get 4 _ (by decide)).trans (s.relayDrive_off_cmd 1)⟩

variable {s}

/-- A step in the middle of the check goes on to the next. -/
theorem State.checkStep_goes (hrun : s.maintRuns Act.relayCheck = true) (hconn : s.conn = 1) (hlo : 2 ≤ s.get F.RELAY_STATUS_CHECK_STEP)
    (hhi : s.get F.RELAY_STATUS_CHECK_STEP ≤ 4) (hdue : s.relay.checkFrom + s.checkTicks (s.get F.RELAY_STATUS_CHECK_STEP) ≤ s.mono)
    (hpass : s.checkPass (s.get F.RELAY_STATUS_CHECK_STEP) = true) :
    ∃ t, exec .relayCheckStep s = .next t ∧ t.get F.RELAY_STATUS_CHECK_STEP = s.get F.RELAY_STATUS_CHECK_STEP + 1 ∧
      t.relay.checkFrom = s.mono ∧ (s.get F.RELAY_STATUS_CHECK_STEP = 2 → t.get F.RELAY_STATUS_K1_CMD = 0) ∧
      (s.get F.RELAY_STATUS_CHECK_STEP = 3 → t.get F.RELAY_STATUS_K2_CMD = 1) ∧
      (s.get F.RELAY_STATUS_CHECK_STEP = 4 → t.get F.RELAY_STATUS_K2_CMD = 0) ∧ KeepsOutside [zone R.RELAY_CFG] [.relay] s t := by
  have hgoes := State.checkEnd_goes (s := s.heldDuty) (by omega) (by omega) ((s.heldDuty_pass _).trans hpass)
  obtain ⟨hstep, hfrom⟩ := s.heldDuty.checkGoes_step (show s.get F.RELAY_STATUS_CHECK_STEP < 5 by omega)
  obtain ⟨-, hk2, hk3, hk4⟩ := s.heldDuty.checkGoes_cmds
  refine ⟨_, (State.checkStep_due hrun hconn rfl hdue).trans (congrArg Host.Outcome.next hgoes), hstep, hfrom.trans s.heldDuty_mono, fun h => ?_, fun h => ?_,
    fun h => ?_, .after (State.checkGoes_outside _ _) (.after s.heldDuty_outside (.refl _ _ s))⟩
  · rw [h]
    exact hk2
  · rw [h]
    exact hk3
  · rw [h]
    exact hk4

theorem State.checkStep_first (hrun : s.maintRuns Act.relayCheck = true) (hconn : s.conn = 1) (hn : s.get F.RELAY_STATUS_CHECK_STEP = 1)
    (hdue : s.relay.checkFrom + s.nomCycle ≤ s.mono) (hfb0 : s.relayFb 0 = false) (hfb1 : s.relayFb 1 = false)
    (hvkx : s.flag F.GRID_STATUS_LOCK = false ∨ s.grid.vMean < s.vNom / 2 ∨ s.flag F.RELAY_STATUS_VKX_DEAD = true) :
    ∃ t, exec .relayCheckStep s = .next t ∧ t.get F.RELAY_STATUS_CHECK_STEP = 2 ∧ t.get F.RELAY_STATUS_K1_CMD = 1 ∧
      t.get F.RELAY_STATUS_CHECK_FB_ONLY = b2n (!s.flag F.GRID_STATUS_LOCK || decide (s.grid.vMean < s.vNom / 2)) ∧
      KeepsOutside [zone R.RELAY_CFG] [.relay] s t := by
  have honly : s.heldDuty.checkOnly = s.heldDuty.put F.RELAY_STATUS_CHECK_FB_ONLY (b2n (!s.flag F.GRID_STATUS_LOCK || decide (s.grid.vMean < s.vNom / 2))) := by
    have hnom : s.heldDuty.vNom = s.vNom := s.heldDuty_view State.vNom fun _ _ => rfl
    rw [State.checkOnly, s.heldDuty_flag _ (by decide), s.heldDuty_grid, hnom]
  have hfb (t : State) (v k : Nat) : (t.put F.RELAY_STATUS_CHECK_FB_ONLY v).relayFb k = t.relayFb k := by
    unfold State.relayFb
    split
    all_goals rw [State.get_put_other _ _ _ _ (by decide), State.flag_put_other _ _ _ _ (by decide)]
  have hpass : s.heldDuty.checkOnly.checkPass 1 = true := by
    rw [honly]
    unfold State.checkPass
    rw [if_pos rfl, hfb, hfb, s.heldDuty_fb, s.heldDuty_fb, State.flag_put_bool _ _ _ rfl (by decide), State.flag_put_other _ _ _ _ (by decide),
      s.heldDuty_flag _ (by decide), hfb0, hfb1]
    rcases hvkx with h | h | h <;> simp [h]
  obtain ⟨hstep, -⟩ := s.heldDuty.checkOnly.checkGoes_step (n := 1) (by decide)
  obtain ⟨hk1, -⟩ := s.heldDuty.checkOnly.checkGoes_cmds
  have honlyOut : KeepsOutside [zone R.RELAY_CFG] [.relay] s s.heldDuty.checkOnly := .put' (.after s.heldDuty_outside (.refl _ _ s))
  refine ⟨_, (State.checkStep_due hrun hconn hn hdue).trans (congrArg Host.Outcome.next (State.checkEnd_first hpass)), hstep, hk1, ?_,
    .after (State.checkGoes_outside _ _) honlyOut⟩
  rw [State.checkGoes_get _ _ _ (by decide), (State.checkAction_frame _ _).get_eq _ (by decide), honly]
  exact (State.get_put_same _ _ _ (by decide)).trans (Nat.mod_eq_of_lt (b2n_lt_two _))

theorem State.checkStep_last (hrun : s.maintRuns Act.relayCheck = true) (hconn : s.conn = 1) (hn : s.get F.RELAY_STATUS_CHECK_STEP = 5)
    (hdue : s.relay.checkFrom + s.checkTicks 5 ≤ s.mono) (hfb1 : s.relayFb 1 = false) :
    ∃ t, exec .relayCheckStep s = .next t ∧ t.get F.GRID_RT_STATUS_CHECK_OK = 1 ∧ t.get F.RELAY_STATUS_CHECK_STEP = 0 ∧
      t.maintRuns Act.relayCheck = false ∧ t.get (F.DIAG_MAINT_RESULT_RESULT 9) = 1 ∧
      Keeps [F.RELAY_STATUS_K1_HOLD, F.RELAY_STATUS_K2_HOLD, F.RELAY_STATUS_CHECK_STEP, F.GRID_RT_STATUS_CHECK_OK, ⟨R.DIAG_MAINT_RUN, 9, 1⟩,
        ⟨R.DIAG_MAINT_DONE, 9, 1⟩, F.DIAG_MAINT_RESULT_RESULT 9] [] s t := by
  have hpass : s.heldDuty.checkPass 5 = true := (s.heldDuty_pass 5).trans (by simp [State.checkPass, hfb1])
  have hend := State.maintEnd_frame ((s.heldDuty.put F.RELAY_STATUS_CHECK_STEP 0).put F.GRID_RT_STATUS_CHECK_OK 1) Act.relayCheck .ok
  have hruns : ((s.heldDuty.put F.RELAY_STATUS_CHECK_STEP 0).put F.GRID_RT_STATUS_CHECK_OK 1).maintRuns Act.relayCheck = true := by
    rw [State.maintRuns_get, State.get_put_other _ _ _ _ (by decide), State.get_put_other _ _ _ _ (by decide), s.heldDuty_get _ (by decide), ← State.maintRuns_get]
    exact hrun
  obtain ⟨hended, hresult⟩ := State.maintEnd_ran (by decide) .ok hruns
  have hduty : Keeps [F.RELAY_STATUS_K1_HOLD, F.RELAY_STATUS_K2_HOLD, F.RELAY_STATUS_CHECK_STEP, F.GRID_RT_STATUS_CHECK_OK, ⟨R.DIAG_MAINT_RUN, 9, 1⟩,
        ⟨R.DIAG_MAINT_DONE, 9, 1⟩, F.DIAG_MAINT_RESULT_RESULT 9] [] s s.heldDuty := .after s.heldDuty_frame (.refl _ _ s)
  refine ⟨_, (State.checkStep_due hrun hconn hn hdue).trans (congrArg Host.Outcome.next (State.checkEnd_last hpass)), ?_, ?_, hended, hresult,
    .after hend (.put' (.put' hduty))⟩
  · exact (hend.get_eq _ (by decide)).trans (State.get_put_same _ _ _ (by decide))
  · exact (hend.get_eq _ (by decide)).trans ((State.get_put_other _ _ _ _ (by decide)).trans (State.get_put_same _ _ _ (by decide)))

/-- The check fails before its end is noted. -/
def State.checkFailed (s : State) (n : Nat) : State :=
  (((s.relaysOff).put F.RELAY_STATUS_CHECK_STEP 0).put F.RELAY_REFUSE_STEP n).stickyRaise F.RELAY_STICKY_CHECK_FAIL FS.RELAY_CHECK_FAIL

theorem State.checkFail_eq (s : State) (n : Nat) : s.checkFail n = (s.checkFailed n).maintEnd Act.relayCheck .fail := rfl

theorem State.checkFailed_outside (s : State) (n : Nat) : KeepsOutside [zone R.RELAY_CFG, zone R.GRID_CFG] [.relay, .raised] s (s.checkFailed n) :=
  .stickyRaise' (.put' (.put' (.after (State.relaysOff_outside ..) (.refl _ _ s))))

theorem State.checkFailed_facts (s : State) {n : Nat} (hn : n < 256) : (s.checkFailed n).get F.RELAY_STATUS_K1_CMD = 0 ∧
    (s.checkFailed n).get F.RELAY_STATUS_K2_CMD = 0 ∧ (s.checkFailed n).get F.RELAY_STICKY_CHECK_FAIL = 1 ∧
    (s.checkFailed n).get F.RELAY_REFUSE_STEP = n ∧ (s.checkFailed n).get F.GRID_RT_STATUS_CHECK_OK = 0 ∧
    (s.checkFailed n).raised = s.raised ++ [⟨FS.RELAY_CHECK_FAIL, 0⟩] := by
  obtain ⟨hk1, hk2, hok⟩ := s.relaysOff_cmds
  have hother (g : Fld) (h : F.RELAY_STATUS_CHECK_STEP.apart g = true ∧ F.RELAY_REFUSE_STEP.apart g = true ∧ F.RELAY_STICKY_CHECK_FAIL.apart g = true) :
      (s.checkFailed n).get g = s.relaysOff.get g :=
    (State.get_put_other _ _ _ _ h.2.2).trans ((State.get_put_other _ _ _ _ h.2.1).trans (State.get_put_other _ _ _ _ h.1))
  refine ⟨(hother _ (by decide)).trans hk1, (hother _ (by decide)).trans hk2, State.get_put_same _ _ _ (by decide), ?_, (hother _ (by decide)).trans hok, ?_⟩
  · exact (State.get_put_other _ _ _ _ (by decide)).trans ((State.get_put_same _ _ _ (by decide)).trans (Nat.mod_eq_of_lt hn))
  · exact congrArg (· ++ _) (s.relaysOff_frame.2 .raised (by decide))

theorem State.checkStep_fails (hrun : s.maintRuns Act.relayCheck = true) (hconn : s.conn = 1) (hlo : 2 ≤ s.get F.RELAY_STATUS_CHECK_STEP)
    (hhi : s.get F.RELAY_STATUS_CHECK_STEP ≤ 5) (hdue : s.relay.checkFrom + s.checkTicks (s.get F.RELAY_STATUS_CHECK_STEP) ≤ s.mono)
    (hpass : s.checkPass (s.get F.RELAY_STATUS_CHECK_STEP) = false) :
    ∃ t, exec .relayCheckStep s = .next t ∧ t.get F.RELAY_STATUS_K1_CMD = 0 ∧ t.get F.RELAY_STATUS_K2_CMD = 0 ∧
      t.get F.RELAY_STICKY_CHECK_FAIL = 1 ∧ t.get F.RELAY_REFUSE_STEP = s.get F.RELAY_STATUS_CHECK_STEP ∧
      t.get F.GRID_RT_STATUS_CHECK_OK = 0 ∧ t.maintRuns Act.relayCheck = false ∧ t.get (F.DIAG_MAINT_RESULT_RESULT 9) = 2 ∧
      t.raised = s.raised ++ [⟨FS.RELAY_CHECK_FAIL, 0⟩] ∧
      KeepsOutside [zone R.RELAY_CFG, zone R.GRID_CFG, zone R.DIAG_MAINT_REQ] [.relay, .raised] s t := by
  have hfails := State.checkEnd_fails (s := s.heldDuty) (by omega) ((s.heldDuty_pass _).trans hpass)
  have hout := s.heldDuty.checkFailed_outside (s.get F.RELAY_STATUS_CHECK_STEP)
  obtain ⟨hk1, hk2, hfail, hstep, hok, hraised⟩ := s.heldDuty.checkFailed_facts (show s.get F.RELAY_STATUS_CHECK_STEP < 256 by omega)
  have hruns : (s.heldDuty.checkFailed (s.get F.RELAY_STATUS_CHECK_STEP)).maintRuns Act.relayCheck = true := by
    rw [State.maintRuns_get, hout.get_eq _ (by decide), s.heldDuty_get _ (by decide), ← State.maintRuns_get]
    exact hrun
  have hend := State.maintEnd_frame (s.heldDuty.checkFailed (s.get F.RELAY_STATUS_CHECK_STEP)) Act.relayCheck .fail
  obtain ⟨hended, hresult⟩ := State.maintEnd_ran (by decide) .fail hruns
  refine ⟨_, (State.checkStep_due hrun hconn rfl hdue).trans (congrArg Host.Outcome.next (hfails.trans (State.checkFail_eq _ _))),
    (hend.get_eq _ (by decide)).trans hk1, (hend.get_eq _ (by decide)).trans hk2, (hend.get_eq _ (by decide)).trans hfail,
    (hend.get_eq _ (by decide)).trans hstep, (hend.get_eq _ (by decide)).trans hok, hended, hresult, ?_,
    .after (State.maintEnd_outside _ _ _ (by decide)) (.after hout (.after s.heldDuty_outside (.refl _ _ s)))⟩
  rw [hend.2 .raised (by decide), hraised, s.heldDuty_frame.2 .raised (by decide)]

theorem State.checkStep_aborted (hrun : s.maintRuns Act.relayCheck = true) (hconn : s.conn ≠ 1) :
    ∃ t, exec .relayCheckStep s = .next t ∧ t.maintRuns Act.relayCheck = false ∧ t.get (F.DIAG_MAINT_RESULT_RESULT 9) = 3 ∧
      t.get F.RELAY_STATUS_K1_CMD = 0 ∧ t.get F.RELAY_STATUS_K2_CMD = 0 ∧
      KeepsOutside [zone R.RELAY_CFG, zone R.GRID_CFG, zone R.DIAG_MAINT_REQ] [.relay] s t := by
  have habort : s.maintAbort Act.relayCheck = ((s.relaysOff).put F.RELAY_STATUS_CHECK_STEP 0).maintEnd 9 .aborted := if_neg (by simp [hrun])
  have hout : KeepsOutside [zone R.RELAY_CFG, zone R.GRID_CFG] [.relay] s ((s.relaysOff).put F.RELAY_STATUS_CHECK_STEP 0) :=
    .put' (.after (State.relaysOff_outside ..) (.refl _ _ s))
  have hruns : ((s.relaysOff).put F.RELAY_STATUS_CHECK_STEP 0).maintRuns 9 = true := by
    rw [State.maintRuns_get, hout.get_eq _ (by decide), ← State.maintRuns_get]
    exact hrun
  have hend := State.maintEnd_frame ((s.relaysOff).put F.RELAY_STATUS_CHECK_STEP 0) 9 .aborted
  obtain ⟨hended, hresult⟩ := State.maintEnd_ran (by decide) .aborted hruns
  obtain ⟨hk1, hk2, -⟩ := s.relaysOff_cmds
  refine ⟨_, (State.checkStep_left hrun hconn).trans (congrArg Host.Outcome.next habort), hended, hresult, ?_, ?_,
    .after (State.maintEnd_outside _ _ _ (by decide)) (.after hout (.refl _ _ s))⟩
  · exact (hend.get_eq _ (by decide)).trans ((State.get_put_other _ _ _ _ (by decide)).trans hk1)
  · exact (hend.get_eq _ (by decide)).trans ((State.get_put_other _ _ _ _ (by decide)).trans hk2)

end

/-! ### The close request (R396, R403) -/

section
variable {s : State}

theorem State.closeWrite_eq (hfoyer : s.inFoyer = false) (i : Initiator) : exec (.relayCloseRequest i) s = .next (s.closeRequest (i == .hpa) true) :=
  congrArg Host.Outcome.next (if_neg (by simp [hfoyer]))

theorem State.permitEnd_none (h : s.get F.WARDEN_STATUS_PERMIT = 0) : s.permitEnd = s := if_neg (by simp [State.flag, h])

theorem State.permitEnd_clear (s : State) : s.permitEnd.get F.WARDEN_STATUS_PERMIT = 0 := by
  cases h : s.flag F.WARDEN_STATUS_PERMIT with
  | true =>
    rw [State.permitEnd_of_permit h]
    refine ((State.forceEnd_outside _).get_eq _ (by decide)).trans ((State.get_put_other _ _ _ _ (by decide)).trans (State.get_put_same _ _ _ (by decide)))
  | false =>
    have hlt := s.get_lt F.WARDEN_STATUS_PERMIT
    have h0 : s.get F.WARDEN_STATUS_PERMIT = 0 := by
      simp [State.flag] at h hlt ⊢
      omega
    rw [State.permitEnd_none h0]
    exact h0

theorem State.closeBegun_frame (s : State) :
    Keeps [F.GRID_RT_STATUS_CONN_STATE, F.RELAY_STATUS_K1_CMD, F.RELAY_STATUS_K1_HOLD, F.RELAY_CNT_K1] [.relay] s s.closeBegun :=
  .beside' (.after (State.setConn_keeps ..) (.after (s.relayDrive_keeps 0 true) (.refl _ _ s) (by decide)))

theorem State.closeBegun_times (s : State) : s.closeBegun.permitEnd.relay.closeAt = s.mono ∧ s.closeBegun.permitEnd.relay.stage = 0 := by
  have hpermit := s.closeBegun.permitEnd_outside.2 .relay (by decide)
  have hdrive := s.relayDrive_keeps 0 true
  constructor
  · exact (congrArg RelayState.closeAt hpermit).trans (State.mono_congr (s := s) (t := s) rfl rfl)
  · exact congrArg RelayState.stage hpermit

theorem State.closeRequest_taken (hfoyer : s.inFoyer = false) {i : Initiator} (hadmit : s.closeRefusal (i == .hpa) true = none)
    (hforming : s.formingBlocks = false) :
    ∃ t, exec (.relayCloseRequest i) s = .next t ∧ t.conn = 2 ∧ t.get F.RELAY_STATUS_K1_CMD = 1 ∧ t.relay.closeAt = s.mono ∧
      t.relay.stage = 0 ∧ t.get F.WARDEN_STATUS_PERMIT = 0 ∧
      (s.get F.WARDEN_STATUS_PERMIT = 0 →
        Keeps [F.GRID_RT_STATUS_CONN_STATE, F.RELAY_STATUS_K1_CMD, F.RELAY_STATUS_K1_HOLD, F.RELAY_CNT_K1] [.relay] s t) ∧
      KeepsOutside [zone R.GRID_CFG, zone R.RELAY_CFG, zone (R.PWM_CTRL 0), zone R.WARDEN_STATUS] [.relay, .pwm] s t := by
  obtain ⟨hconn, hk1⟩ := s.closeBegun_facts
  obtain ⟨hat, hstage⟩ := s.closeBegun_times
  refine ⟨_, (State.closeWrite_eq hfoyer i).trans (congrArg Host.Outcome.next (s.closeRequest_accepted hadmit hforming)), hconn, hk1, hat, hstage,
    State.permitEnd_clear _, fun hno => ?_, .after (State.permitEnd_outside _)
      (.after (s.closeBegun_frame.toOutside (rs := [zone R.GRID_CFG, zone R.RELAY_CFG]) (by decide)) (.refl _ _ s))⟩
  rw [State.permitEnd_none ((s.closeBegun_frame.get_eq _ (by decide)).trans hno)]
  exact s.closeBegun_frame

theorem State.closeRequest_blocked (hfoyer : s.inFoyer = false) {i : Initiator} (hadmit : s.closeRefusal (i == .hpa) true = none)
    (hforming : s.formingBlocks = true) :
    ∃ t, exec (.relayCloseRequest i) s = .next t ∧ t.get F.RELAY_STICKY_REFUSED = 1 ∧
      Keeps [F.RELAY_STICKY_REFUSED, F.RELAY_REFUSE_REASON] [.draws] s t := by
  have hreq : s.closeRequest (i == .hpa) true = ((s.set1 F.RELAY_STICKY_REFUSED).put F.RELAY_REFUSE_REASON s.drawn).drew := by
    rw [State.closeRequest, hadmit]
    exact if_pos hforming
  refine ⟨_, (State.closeWrite_eq hfoyer i).trans (congrArg Host.Outcome.next hreq), ?_, .drew' (.put' (.set1' (.refl _ _ s)))⟩
  exact (State.get_put_other (s.set1 F.RELAY_STICKY_REFUSED) _ _ _ (by decide)).trans (State.get_put_same _ _ _ (by decide))

/-- What a close that nothing refuses finds (R396, Table RTI-8). -/
theorem State.closeRefusal_none {hpa both : Bool} (h : s.closeRefusal hpa both = none) : s.conn = 1 ∧ s.maintRuns Act.relayCheck = false ∧
    s.maintRuns Act.isoCheck = false ∧ s.flag F.GRID_RT_STATUS_RC_READY = true ∧ s.flag F.GRID_RT_STATUS_CHECK_OK = true ∧ s.gridOn = true ∧
    (∀ u ∈ s.gridUnits, s.pwmState u = 0 ∧ s.laneState (u - 8) = 1 ∧ bitOf (s.get (F.LANE_STAT_STATUS (u - 8))) 7 = true) ∧ hpa = true := by
  unfold State.closeRefusal at h
  dsimp only at h
  split_ifs at h with hconn hmaint hready hcheck hunits hpa' hboth
  simp only [Bool.or_eq_true, Bool.not_eq_true', List.any_eq_true, not_or, not_exists, not_and, Bool.not_eq_false, Bool.not_eq_true, ne_eq,
    Decidable.not_not, bne_iff_ne] at hconn hmaint hready hcheck hunits hpa'
  obtain ⟨⟨hon, hlanes⟩, hstates⟩ := hunits
  refine ⟨hconn, hmaint.1, hmaint.2, hready, hcheck, hon, fun u hu => ?_, hpa'⟩
  exact ⟨hstates u hu, (hlanes u hu).1, (hlanes u hu).2⟩

theorem State.closeRefusal_first {hpa both : Bool} (h : s.conn ≠ 1) : s.closeRefusal hpa both = some 1 := if_pos h

theorem State.closeRequest_refuses (hfoyer : s.inFoyer = false) {i : Initiator} (h : s.closeRefusal (i == .hpa) true ≠ none) :
    ∃ t, exec (.relayCloseRequest i) s = .next t ∧ t.get F.RELAY_STICKY_REFUSED = 1 ∧
      (s.conn ≠ 1 → t.get F.RELAY_REFUSE_REASON = 1) ∧ Keeps [F.RELAY_STICKY_REFUSED, F.RELAY_REFUSE_REASON] [] s t := by
  obtain ⟨r, hr⟩ := Option.ne_none_iff_exists'.1 h
  refine ⟨_, (State.closeWrite_eq hfoyer i).trans (congrArg Host.Outcome.next (s.closeRequest_refused hr)), ?_, fun hconn => ?_, .put' (.set1' (.refl _ _ s))⟩
  · exact (State.get_put_other (s.set1 F.RELAY_STICKY_REFUSED) _ _ _ (by decide)).trans (State.get_put_same _ _ _ (by decide))
  · rw [State.closeRefusal_first hconn] at hr
    obtain rfl := Option.some.inj hr
    exact State.get_put_same _ _ _ (by decide)

end

/-! ### The stages of a close (R396, R397, Table RTI-6) -/

section
variable {s : State}

theorem State.closeStep_closing (hconn : s.conn = 2) : exec .relayCloseStep s = .next s.heldDuty.closeStage :=
  if_pos (s.heldDuty_conn.trans hconn)

theorem State.closeStep_not (hconn : s.conn ≠ 2) : exec .relayCloseStep s = .next s.heldDuty :=
  if_neg fun h => hconn (s.heldDuty_conn.symm.trans h)

/-- K1 has closed onto a dead VKX: the close waits for e. -/
theorem State.closeStage_k1 (hstage : s.relay.stage = 0) (hdue : s.relay.closeAt + (s.get F.RELAY_CFG_PULLIN + 20) * 800000 ≤ s.mono)
    (hfb : s.relayFb 0 = true) (hdead : s.flag F.RELAY_STATUS_VKX_DEAD = true) : s.closeStage = s.modRelay fun r => { r with stage := 1 } := by
  unfold State.closeStage
  dsimp only
  rw [if_pos hstage, if_neg (Nat.not_lt.2 hdue), if_pos (by simp [hfb, hdead])]

theorem State.closeStage_k1_fails (hstage : s.relay.stage = 0) (hdue : s.relay.closeAt + (s.get F.RELAY_CFG_PULLIN + 20) * 800000 ≤ s.mono)
    (h : s.relayFb 0 = false ∨ s.flag F.RELAY_STATUS_VKX_DEAD = false) : s.closeStage = s.closeFail := by
  unfold State.closeStage
  dsimp only
  rw [if_pos hstage, if_neg (Nat.not_lt.2 hdue), if_neg (by rcases h with h | h <;> simp [h])]

/-- K2 is energised. -/
def State.k2On (s : State) : State := (s.relayDrive 1 true).modRelay fun r => { r with stage := 2, k2At := s.mono, xChange := none }

theorem State.closeStage_k2 {g e : Nat} (hstage : s.relay.stage = 1) (hg : g = s.relay.closeAt + (s.get F.RELAY_CFG_PULLIN + 20) * 800000)
    (he : e = s.closeTick (((g : Int) + s.ep.base).toNat)) (hdue : s.monoOf e ≤ s.mono) : s.closeStage = s.k2On := by
  subst hg he
  unfold State.closeStage
  dsimp only
  rw [if_neg (by omega), if_pos hstage, if_neg (Nat.not_lt.2 hdue)]
  rfl

theorem State.closeStage_connects (hstage : s.relay.stage = 2)
    (hlive : s.flag F.RELAY_STATUS_VKX_LIVE = true ∨ (s.relay.vkxHi = true ∧ s.relay.vkxLo = true)) (hfb : s.relayFb 1 = true) :
    s.closeStage = s.enterConnected := by
  unfold State.closeStage
  dsimp only
  rw [if_neg (by omega), if_neg (by omega), if_pos (by rcases hlive with h | ⟨h, h'⟩ <;> simp [*])]

theorem State.closeStage_k2_fails (hstage : s.relay.stage = 2) (hlate : s.relay.k2At + 48000000 ≤ s.mono) (hfb : s.relayFb 1 = false) :
    s.closeStage = s.closeFail := by
  unfold State.closeStage
  dsimp only
  rw [if_neg (by omega), if_neg (by omega), if_neg (by simp [hfb]), if_pos hlate]

end

section
variable (s : State)

/-! The end of a close: CONNECTED, or OPENING (R397, R401, R402). -/

theorem State.k2On_facts : s.k2On.relay.stage = 2 ∧ s.k2On.get F.RELAY_STATUS_K2_CMD = 1 ∧ s.k2On.relay.k2At = s.mono ∧
    KeepsOutside [zone R.RELAY_CFG] [.relay] s s.k2On :=
  ⟨rfl, s.relayDrive_on_cmd2, rfl, .beside' (.after (State.relayDrive_outside ..) (.refl _ _ s))⟩

/-- OPENING is entered, with its sticky bits and its cause. -/
def State.closeOpened (s : State) : State :=
  ((s.enterOpening).stickyRaise F.RELAY_STICKY_CLOSE_FAIL FS.RELAY_CLOSE_FAIL).put F.GRID_TRIP_INFO_CAUSE Cause.closeFail

theorem State.closeFail_eq : s.closeFail = s.closeOpened.openingEvent s.conn := rfl

theorem State.closeOpened_facts (hconn : s.conn = 2) : s.closeOpened.conn = 4 ∧ s.closeOpened.get F.RELAY_STICKY_CLOSE_FAIL = 1 ∧
    s.closeOpened.get F.GRID_TRIP_INFO_CAUSE = 9 ∧ s.closeOpened.get F.RELAY_STATUS_K1_CMD = 0 ∧ s.closeOpened.get F.RELAY_STATUS_K2_CMD = 0 ∧
    s.closeOpened.raised = s.raised ++ [⟨FS.RELAY_CLOSE_FAIL, 0⟩] := by
  obtain ⟨hk1, hk2, -⟩ := s.enterOpening_cmds
  have hother (g : Fld) (h : F.RELAY_STICKY_CLOSE_FAIL.apart g = true ∧ F.GRID_TRIP_INFO_CAUSE.apart g = true) :
      s.closeOpened.get g = s.enterOpening.get g :=
    (State.get_put_other _ _ _ _ h.2).trans (State.get_put_other _ _ _ _ h.1)
  refine ⟨(hother F.GRID_RT_STATUS_CONN_STATE (by decide)).trans ?_, ?_, State.get_put_same _ _ _ (by decide), (hother _ (by decide)).trans hk1,
    (hother _ (by decide)).trans hk2, ?_⟩
  · exact s.enterOpening_conn.trans (if_neg (by simp [hconn]))
  · exact (State.get_put_other _ _ _ _ (by decide)).trans (State.get_put_same _ _ _ (by decide))
  · exact congrArg (· ++ _) (s.enterOpening_frame.2 .raised (by decide))

theorem State.closeFail_facts (hconn : s.conn = 2) : s.closeFail.conn = 4 ∧ s.closeFail.get F.RELAY_STICKY_CLOSE_FAIL = 1 ∧
    s.closeFail.get F.GRID_TRIP_INFO_CAUSE = 9 ∧ s.closeFail.get F.RELAY_STATUS_K1_CMD = 0 ∧ s.closeFail.get F.RELAY_STATUS_K2_CMD = 0 ∧
    s.closeFail.raised = s.raised ++ [⟨FS.RELAY_CLOSE_FAIL, 0⟩] ∧
    KeepsOutside [zone R.RELAY_CFG, zone R.GRID_CFG] [.relay, .raised, .draws, .cour] s s.closeFail := by
  have hevent := s.closeOpened.openingEvent_frame s.conn
  obtain ⟨hopen, hfail, hcause, hk1, hk2, hraised⟩ := s.closeOpened_facts hconn
  rw [s.closeFail_eq]
  refine ⟨(hevent.get_eq _ (by decide)).trans hopen, (hevent.get_eq _ (by decide)).trans hfail, (hevent.get_eq _ (by decide)).trans hcause,
    (hevent.get_eq _ (by decide)).trans hk1, (hevent.get_eq _ (by decide)).trans hk2, (hevent.2 .raised (by decide)).trans hraised, ?_⟩
  exact .after (hevent.toOutside (rs := []) (by simp)) (.put' (.stickyRaise' (.after (State.enterOpening_outside ..) (.refl _ _ s))))

/-- CONNECTED is entered, before the feedbacks are timed. -/
def State.connected (s : State) : State :=
  let per := s.get (F.PWM_PERIOD 8)
  let start := if s.flag F.GRID_RT_CTRL_AUTO then some ((s.epoch + 800 + per - 1) / per * per) else none
  let ramp := s.gc 0x214 4 != 0
  let u := ((s.opUpdate).setConn 3).wr R.RELAY_CLOSE_TICK s.now32
  let u := if ramp then u.wr R.GRID_RC_CEIL 0 else u
  u.modGrid fun g => { g with pRc := if ramp then some 0 else none, startAt := start, timer := none }

/-- The feedbacks are timed from here. -/
def State.fbTimed (s : State) : State := s.modRelay fun r =>
  { r with fbOpen := (r.fbOpen.set 0 (if s.relayFb 0 then none else some s.mono)).set 1 (if s.relayFb 1 then none else some s.mono) }

theorem State.enterConnected_eq : s.enterConnected = s.connected.fbTimed := rfl

theorem State.connected_facts : s.connected.conn = 3 ∧ s.connected.rd R.RELAY_CLOSE_TICK = BitVec.ofNat 32 s.epoch ∧
    (s.gc 0x214 4 ≠ 0 → s.connected.rd R.GRID_RC_CEIL = 0#32 ∧ s.connected.grid.pRc = some 0) ∧
    (s.flag F.GRID_RT_CTRL_AUTO = true →
      s.connected.grid.startAt = some ((s.epoch + 800 + s.get (F.PWM_PERIOD 8) - 1) / s.get (F.PWM_PERIOD 8) * s.get (F.PWM_PERIOD 8))) ∧
    (s.flag F.GRID_RT_CTRL_AUTO = false → s.connected.grid.startAt = none) := by
  have hconn : ((s.opUpdate.setConn 3).wr R.RELAY_CLOSE_TICK s.now32).get F.GRID_RT_STATUS_CONN_STATE = 3 :=
    (State.get_wr_other (g := F.GRID_RT_STATUS_CONN_STATE) _ _ _ (by decide)).trans (State.get_put_same _ _ _ (by decide))
  refine ⟨?_, ?_, fun h => ⟨?_, ?_⟩, fun h => if_pos h, fun h => if_neg (by simp [h])⟩
  · unfold State.connected
    dsimp only
    split
    · exact (State.get_wr_other (g := F.GRID_RT_STATUS_CONN_STATE) _ _ _ (by decide)).trans hconn
    · exact hconn
  · unfold State.connected
    dsimp only
    split
    · exact (State.rd_wr_other _ _ _ _ (by decide)).trans (State.rd_wr_same _ _ _)
    · exact State.rd_wr_same _ _ _
  · unfold State.connected
    dsimp only
    rw [if_pos (by simpa using h)]
    exact State.rd_wr_same _ _ _
  · exact if_pos (by simpa using h)

end

/-! ### The stages of a close, from the states in which they come -/

section
variable {s : State}

theorem State.heldDuty_closeTick (n : Nat) : s.heldDuty.closeTick n = s.closeTick n := s.heldDuty_view (State.closeTick · n) fun _ _ => rfl

theorem State.closeStep_k1 (hconn : s.conn = 2) (hstage : s.relay.stage = 0)
    (hdue : s.relay.closeAt + (s.get F.RELAY_CFG_PULLIN + 20) * 800000 ≤ s.mono) (hfb : s.relayFb 0 = true) (hdead : s.flag F.RELAY_STATUS_VKX_DEAD = true) :
    exec .relayCloseStep s = .next (s.heldDuty.modRelay fun r => { r with stage := 1 }) := by
  refine (State.closeStep_closing hconn).trans (congrArg Host.Outcome.next (State.closeStage_k1 ?_ ?_ ((s.heldDuty_fb 0).trans hfb)
    ((s.heldDuty_flag _ (by decide)).trans hdead)))
  · rw [s.heldDuty_relay]
    exact hstage
  · rw [s.heldDuty_relay, s.heldDuty_mono, s.heldDuty_get _ (by decide)]
    exact hdue

theorem State.closeStep_k2 {g e : Nat} (hconn : s.conn = 2) (hstage : s.relay.stage = 1)
    (hg : g = s.relay.closeAt + (s.get F.RELAY_CFG_PULLIN + 20) * 800000) (he : e = s.closeTick (((g : Int) + s.ep.base).toNat))
    (hdue : s.monoOf e ≤ s.mono) : exec .relayCloseStep s = .next s.heldDuty.k2On := by
  have hep : s.heldDuty.ep = s.ep := s.heldDuty_frame.2 .ep (by decide)
  refine (State.closeStep_closing hconn).trans (congrArg Host.Outcome.next (State.closeStage_k2 (g := g) (e := e) ?_ ?_ ?_ ?_))
  · rw [s.heldDuty_relay]
    exact hstage
  · rw [s.heldDuty_relay, s.heldDuty_get _ (by decide)]
    exact hg
  · rw [hep, State.heldDuty_closeTick]
    exact he
  · rw [s.heldDuty_mono, State.monoOf, hep]
    exact hdue

theorem State.closeStep_connects (hconn : s.conn = 2) (hstage : s.relay.stage = 2)
    (hlive : s.flag F.RELAY_STATUS_VKX_LIVE = true ∨ (s.relay.vkxHi = true ∧ s.relay.vkxLo = true)) (hfb : s.relayFb 1 = true) :
    exec .relayCloseStep s = .next s.heldDuty.enterConnected := by
  refine (State.closeStep_closing hconn).trans (congrArg Host.Outcome.next (State.closeStage_connects ?_ ?_ ((s.heldDuty_fb 1).trans hfb)))
  · rw [s.heldDuty_relay]
    exact hstage
  · rw [s.heldDuty_relay, s.heldDuty_flag _ (by decide)]
    exact hlive

theorem State.closeStep_fails (hconn : s.conn = 2)
    (h : (s.relay.stage = 0 ∧ s.relay.closeAt + (s.get F.RELAY_CFG_PULLIN + 20) * 800000 ≤ s.mono ∧
        (s.relayFb 0 = false ∨ s.flag F.RELAY_STATUS_VKX_DEAD = false)) ∨
      (s.relay.stage = 2 ∧ s.relay.k2At + 48000000 ≤ s.mono ∧ s.relayFb 1 = false)) : exec .relayCloseStep s = .next s.heldDuty.closeFail := by
  refine (State.closeStep_closing hconn).trans (congrArg Host.Outcome.next ?_)
  rcases h with ⟨hstage, hdue, hfb⟩ | ⟨hstage, hlate, hfb⟩
  · refine State.closeStage_k1_fails ?_ ?_ ?_
    · rw [s.heldDuty_relay]
      exact hstage
    · rw [s.heldDuty_relay, s.heldDuty_mono, s.heldDuty_get _ (by decide)]
      exact hdue
    · rw [s.heldDuty_fb, s.heldDuty_flag _ (by decide)]
      exact hfb
  · refine State.closeStage_k2_fails ?_ ?_ ((s.heldDuty_fb 1).trans hfb)
    · rw [s.heldDuty_relay]
      exact hstage
    · rw [s.heldDuty_relay, s.heldDuty_mono]
      exact hlate

/-- CONNECTED, from the end of a close (R401, R402). -/
theorem State.heldDuty_connected : s.heldDuty.enterConnected.conn = 3 ∧ s.heldDuty.enterConnected.rd R.RELAY_CLOSE_TICK = BitVec.ofNat 32 s.epoch ∧
    (s.gc 0x214 4 ≠ 0 → s.heldDuty.enterConnected.rd R.GRID_RC_CEIL = 0#32 ∧ s.heldDuty.enterConnected.grid.pRc = some 0) ∧
    (s.flag F.GRID_RT_CTRL_AUTO = true → s.heldDuty.enterConnected.grid.startAt =
      some ((s.epoch + 800 + s.get (F.PWM_PERIOD 8) - 1) / s.get (F.PWM_PERIOD 8) * s.get (F.PWM_PERIOD 8))) ∧
    (s.flag F.GRID_RT_CTRL_AUTO = false → s.heldDuty.enterConnected.grid.startAt = none) ∧
    KeepsOutside [zone R.RELAY_CFG, zone R.GRID_CFG] [.relay, .grid] s s.heldDuty.enterConnected := by
  have hepoch : s.heldDuty.epoch = s.epoch := s.heldDuty_frame.2 .epoch (by decide)
  have hgc : s.heldDuty.gc 0x214 4 = s.gc 0x214 4 := s.heldDuty_view (State.gc · 0x214 4) fun _ _ => rfl
  obtain ⟨hconn, htick, hramp, hstart, hno⟩ := s.heldDuty.connected_facts
  rw [hepoch] at htick hstart
  rw [s.heldDuty_flag _ (by decide)] at hstart hno
  rw [s.heldDuty_get _ (by decide)] at hstart
  rw [hgc] at hramp
  have htimed : Keeps [] [.relay] s.heldDuty.connected s.heldDuty.connected.fbTimed := .beside' (.refl _ _ _)
  rw [State.enterConnected_eq]
  refine ⟨(htimed.get_eq _ (by decide)).trans hconn, (htimed.rd_eq _ (by decide)).trans htick, hramp, hstart, hno, ?_⟩
  rw [← State.enterConnected_eq]
  exact ((.after (State.enterConnected_outside ..) (.after (State.heldDuty_outside ..) (.refl _ _ _))) : KeepsOutside [zone R.RELAY_CFG, zone R.GRID_CFG] [.relay, .grid] s s.heldDuty.enterConnected)

theorem State.relayCheck_clauses (s : State) (hrun : s.maintRuns Act.relayCheck = true) (hconn : s.conn = 1)
    (hearly : s.mono < s.relay.checkFrom + s.checkTicks (s.get F.RELAY_STATUS_CHECK_STEP)) :
    ∃ t, exec .relayCheckStep s = .next t ∧ Keeps [F.RELAY_STATUS_K1_HOLD, F.RELAY_STATUS_K2_HOLD] [] s t ∧
      (∀ k : Fin 2, s.flag (relayCmdF k) = true → s.relay.cmdAt.get k + s.get F.RELAY_CFG_PULLIN * 800000 ≤ s.mono → t.flag (relayHoldF k) = true) :=
  ⟨_, State.checkStep_early hrun hconn hearly, s.heldDuty_frame, s.heldDuty_sets⟩

/-- A close request that misses one of Table RTI-8's conditions is refused. -/
theorem State.closeRefusal_some {i : Initiator} (h : i ≠ .hpa ∨ s.conn ≠ 1 ∨ s.flag F.GRID_RT_STATUS_RC_READY = false ∨
      s.flag F.GRID_RT_STATUS_CHECK_OK = false ∨ s.maintRuns Act.relayCheck = true ∨ s.maintRuns Act.isoCheck = true ∨ s.gridOn = false ∨
      (∃ u ∈ s.gridUnits, s.pwmState u ≠ 0 ∨ s.laneState (u - 8) ≠ 1 ∨ bitOf (s.get (F.LANE_STAT_STATUS (u - 8))) 7 = false)) :
    s.closeRefusal (i == .hpa) true ≠ none := by
  intro hnone
  obtain ⟨hconn, hcheck, hiso, hready, hok, hon, hunits, hhpa⟩ := State.closeRefusal_none hnone
  simp only [hconn, hcheck, hiso, hready, hok, hon, ne_eq, not_true_eq_false, Bool.true_eq_false, Bool.false_eq_true, false_or] at h
  rcases h with h | ⟨u, hu, h⟩
  · exact h (by simpa using hhpa)
  · obtain ⟨hstate, hlane, hstatus⟩ := hunits u hu
    simp [hstate, hlane, hstatus] at h

end

/-- Settles O25: each step of the check and each stage of a close is one branch of the model, taken on the state whose relays are at their hold duty. -/
theorem relayCheckAndClosing : Obligations.RelayCheckAndClosing := by
  unfold Obligations.RelayCheckAndClosing
  refine ⟨fun s hrun => ⟨s.relayCheck_clauses hrun, State.checkStep_goes hrun, State.checkStep_first hrun, State.checkStep_last hrun,
      State.checkStep_fails hrun, State.checkStep_aborted hrun⟩,
    fun s => ⟨fun i hfoyer => State.closeRequest_taken hfoyer, fun i hfoyer => State.closeRequest_blocked hfoyer,
      fun i hfoyer h => State.closeRequest_refuses hfoyer (State.closeRefusal_some h), fun i hfoyer => ?_, fun hconn hstage hdue hfb hdead => ?_,
      fun g e hconn hstage hg he hdue => ?_, fun hconn hstage hlive hfb => ?_, fun hconn h => ?_, fun hconn => ?_⟩⟩
  · exact ⟨_, congrArg Host.Outcome.next (if_pos hfoyer), State.cfgReject_refused _ _ _⟩
  · exact ⟨_, State.closeStep_k1 hconn hstage hdue hfb hdead, rfl, s.heldDuty_conn.trans hconn, .beside' (.after s.heldDuty_frame (.refl _ _ s))⟩
  · obtain ⟨h2, hk2, hat, hout⟩ := s.heldDuty.k2On_facts
    exact ⟨_, State.closeStep_k2 hconn hstage hg he hdue, h2, hk2, hat.trans s.heldDuty_mono, .after hout (.after s.heldDuty_outside (.refl _ _ s))⟩
  · exact ⟨_, State.closeStep_connects hconn hstage hlive hfb, State.heldDuty_connected⟩
  · obtain ⟨h4, hfail, hcause, hk1, hk2, hraised, hout⟩ := s.heldDuty.closeFail_facts (s.heldDuty_conn.trans hconn)
    exact ⟨_, State.closeStep_fails hconn h, h4, hfail, hcause, hk1, hk2, hraised.trans (congrArg (· ++ _) (s.heldDuty_frame.2 .raised (by decide))),
      .after hout (.after s.heldDuty_outside (.refl _ _ s))⟩
  · exact ⟨_, State.closeStep_not hconn, s.heldDuty_frame⟩

end Sys2Proof.Machine
end

section
/-!
Proofs about the drive lanes: edges, trips, heartbeats, status, enable and disable (chapter 9).
The proofs are elaborated in turn: in one text, proofs that wait for each other would each hold a thread.
-/

set_option Elab.async false

namespace Sys2Proof.Machine

/-! # O22: lane edges, trips, heartbeats, status, enable and disable (chapter 9) -/


@[simp] theorem State.modLane_get_same (s : State) (l : Nat) (f : Lane → Lane) : (s.modLane l f).drive.lane.get l = f (s.drive.lane.get l) :=
  SMap.get_set_same _ _ _

/-! ### The bits of an edge message (R322, R325) -/

theorem crc5Bit_lt (c : Nat) (b : Bool) : crc5Bit c b < 32 := by
  have hx : c * 2 % 32 < 2 ^ 5 := Nat.mod_lt _ (by decide)
  unfold crc5Bit
  dsimp only
  split
  · exact Nat.xor_lt_two_pow hx (by decide)
  · exact hx

theorem crc5_lt (bs : List Bool) : crc5 bs < 32 :=
  List.foldlRecOn (motive := fun c => c < 32) bs _ (by decide) fun c _ b _ => crc5Bit_lt c b

theorem edgeWord_tick (e : Edge) : bitsOf (edgeWord e) 5 24 = e.t % 2 ^ 24 := by
  have hcrc := crc5_lt (msbBits 27 (2 ^ 25 * e.sw + 2 ^ 24 * b2n (e.on && !e.both) + e.t % 2 ^ 24))
  unfold bitsOf edgeWord
  dsimp only
  omega

/-! ### Trips of a lane (R330, R331) -/

section
variable (s : State) (l : Nat)

theorem State.laneTrip_keeps (k : Nat) : Keeps [F.LANE_STAT_STATE l, whole (R.LANE_TRIP_TICK l)] [.drive] s (s.laneTrip l k) :=
  .ite' (.beside' (.wr' (.put' (.refl _ _ s)))) (.ite' (.beside' (.refl _ _ s)) (.refl _ _ s))

variable {s l}

theorem State.laneTrip_active (h : s.laneState l = 1) (k : Nat) :
    (s.laneTrip l k).laneState l = 2 ∧ ((s.laneTrip l k).drive.lane.get l).queue = [] ∧ ((s.laneTrip l k).drive.lane.get l).after = k := by
  unfold State.laneTrip
  rw [if_pos (Or.inl h)]
  exact ⟨by simp [State.laneState], congrArg Lane.queue (State.modLane_get_same ..), congrArg Lane.after (State.modLane_get_same ..)⟩

theorem State.laneTrip_live (h : s.laneLive l = true) : (s.laneTrip l 1).laneState l = 2 := by
  simp only [State.laneLive, Bool.or_eq_true, Bool.and_eq_true, beq_iff_eq] at h
  rcases h with h | ⟨h, -⟩
  · exact (State.laneTrip_active h 1).1
  · rw [State.laneTrip, if_neg (by simp [h]), if_neg (by simp)]
    exact h

theorem State.laneInterlock_facts (h : s.laneLive l = true) : (s.laneInterlock l).laneState l = 2 ∧
    (s.laneInterlock l).get (F.LANE_LSTICKY_INTERLOCK l) = 1 ∧ ((s.laneInterlock l).drive.lane.get l).inter = true ∧
    (s.laneInterlock l).raised = s.raised ++ [⟨FS.LANE_INTERLOCK l, 0⟩] ∧
    Keeps [F.LANE_STAT_STATE l, whole (R.LANE_TRIP_TICK l), F.LANE_LSTICKY_INTERLOCK l] [.drive, .raised] s (s.laneInterlock l) := by
  have htrip := s.laneTrip_keeps l 1
  refine ⟨(State.get_put_other (s.laneTrip l 1) _ _ _ (by simp)).trans (State.laneTrip_live h), State.get_put_same (s.laneTrip l 1) _ _ (by simp),
    congrArg Lane.inter (State.modLane_get_same ..), congrArg (· ++ _) (htrip.2 .raised (by decide)), ?_⟩
  exact .raise' (.beside' (.set1' (.after htrip (.refl _ _ s))))

theorem State.laneLate_facts (h : s.laneState l = 1) : (s.laneLate l).laneState l = 2 ∧ (s.laneLate l).get (F.LANE_LSTICKY_LATE l) = 1 ∧
    (s.laneLate l).raised = s.raised ++ [⟨FS.LANE_LATE l, 0⟩] ∧ ((s.laneLate l).drive.lane.get l).queue = [] ∧
    Keeps [F.LANE_STAT_STATE l, whole (R.LANE_TRIP_TICK l), F.LANE_LSTICKY_LATE l] [.drive, .raised] s (s.laneLate l) := by
  obtain ⟨hstate, hqueue, -⟩ := State.laneTrip_active h 1
  have htrip := s.laneTrip_keeps l 1
  refine ⟨(State.get_put_other (s.laneTrip l 1) _ _ _ (by simp)).trans hstate, State.get_put_same (s.laneTrip l 1) _ _ (by simp),
    congrArg (· ++ _) (htrip.2 .raised (by decide)), hqueue, ?_⟩
  exact .raise' (.set1' (.after htrip (.refl _ _ s)))

end

/-! ### Edges (R303 to R306, R326, R327) -/

section
variable {s : State} {l : Fin 6} {e : Edge} {rest : List Edge}

/-- The oldest message has left the unit. -/
def State.msgTaken (s : State) (l : Nat) (rest : List Edge) : State := s.modPwm (l + 8) fun p => { p with msgs := rest }

theorem State.msgTaken_frame (s : State) (l : Nat) (rest : List Edge) :
    ((s.msgTaken l rest).pwm.get (l + 8)).msgs = rest ∧ Keeps [] [.pwm] s (s.msgTaken l rest) :=
  ⟨congrArg PwmUnit.msgs (State.modPwm_get_same ..), .beside' (.refl _ _ s)⟩

theorem exec_laneEdgeReceive (hm : (s.pwm.get (l + 8)).msgs = e :: rest) : exec (.laneEdgeReceive l) s = .next ((s.msgTaken l rest).laneReceive l e) := by
  change execLaneEdgeReceive l s = _
  unfold execLaneEdgeReceive
  rw [hm]
  rfl

theorem laneEdge_held (hm : (s.pwm.get (l + 8)).msgs = e :: rest)
    (h : s.laneLive l = false ∨ (s.drive.lane.get l).inter = true ∨ s.laneHeld l = true) :
    exec (.laneEdgeReceive l) s = .next (s.msgTaken l rest) :=
  (exec_laneEdgeReceive hm).trans (congrArg Host.Outcome.next (if_pos (show (!s.laneLive l) = true ∨ (s.drive.lane.get l).inter = true ∨ s.laneHeld l = true by
    simpa using h)))

/-- The edge as it executes. -/
def State.laneEdgeAt (s : State) (l : Nat) (e : Edge) : Edge := { e with t := (s.drive.lane.get l).execTick (s.get (F.LANE_CFG_DEADTIME l)) e }

theorem laneEdge_free (hm : (s.pwm.get (l + 8)).msgs = e :: rest) (hlive : s.laneLive l = true) (hinter : (s.drive.lane.get l).inter = false)
    (hheld : s.laneHeld l = false) : exec (.laneEdgeReceive l) s = .next
      (if e.on && (s.drive.lane.get l).levelAt (!e.sideB) (s.laneEdgeAt l e).t then (s.msgTaken l rest).laneInterlock l
        else (s.msgTaken l rest).modLane l fun x => x.accept (s.laneEdgeAt l e)) :=
  (exec_laneEdgeReceive hm).trans (congrArg Host.Outcome.next (if_neg (show ¬((!s.laneLive l) = true ∨ (s.drive.lane.get l).inter = true ∨ s.laneHeld l = true) by
    simp [hlive, hinter, hheld])))

theorem laneEdge_accepted (hm : (s.pwm.get (l + 8)).msgs = e :: rest) (hlive : s.laneLive l = true) (hinter : (s.drive.lane.get l).inter = false)
    (hheld : s.laneHeld l = false)
    (hoff : e.on = true → (s.drive.lane.get l).levelAt (!e.sideB) ((s.drive.lane.get l).execTick (s.get (F.LANE_CFG_DEADTIME l)) e) = false) :
    ∃ t, exec (.laneEdgeReceive l) s = .next t ∧ (t.pwm.get (l + 8)).msgs = rest ∧
      t.drive.lane.get l = (s.drive.lane.get l).accept ⟨e.sideB, e.both, e.on, (s.drive.lane.get l).execTick (s.get (F.LANE_CFG_DEADTIME l)) e⟩ ∧
      Keeps [] [.pwm, .drive] s t := by
  have hno : ¬((e.on && (s.drive.lane.get l).levelAt (!e.sideB) (s.laneEdgeAt l e).t) = true) := by
    simpa [State.laneEdgeAt] using hoff
  obtain ⟨hmsgs, htaken⟩ := s.msgTaken_frame l rest
  exact ⟨_, (laneEdge_free hm hlive hinter hheld).trans (congrArg Host.Outcome.next (if_neg hno)), hmsgs, State.modLane_get_same ..,
    .beside' (.after htaken (.refl _ _ s))⟩

theorem laneEdge_interlock (hm : (s.pwm.get (l + 8)).msgs = e :: rest) (hlive : s.laneLive l = true) (hinter : (s.drive.lane.get l).inter = false)
    (hheld : s.laneHeld l = false) (hon : e.on = true)
    (hboth : (s.drive.lane.get l).levelAt (!e.sideB) ((s.drive.lane.get l).execTick (s.get (F.LANE_CFG_DEADTIME l)) e) = true) :
    ∃ t, exec (.laneEdgeReceive l) s = .next t ∧ t.laneState l = 2 ∧ t.get (F.LANE_LSTICKY_INTERLOCK l) = 1 ∧
      (t.drive.lane.get l).inter = true ∧ t.raised = s.raised ++ [⟨FS.LANE_INTERLOCK l, 0⟩] ∧
      Keeps [F.LANE_STAT_STATE l, whole (R.LANE_TRIP_TICK l), F.LANE_LSTICKY_INTERLOCK l] [.pwm, .drive, .raised] s t := by
  have hyes : (e.on && (s.drive.lane.get l).levelAt (!e.sideB) (s.laneEdgeAt l e).t) = true := by
    simp [State.laneEdgeAt, hon, hboth]
  obtain ⟨hstate, hsticky, hinter', hraised, hframe⟩ := State.laneInterlock_facts (s := s.msgTaken l rest) (l := l) hlive
  exact ⟨_, (laneEdge_free hm hlive hinter hheld).trans (congrArg Host.Outcome.next (if_pos hyes)), hstate, hsticky, hinter', hraised,
    .after hframe (.after (s.msgTaken_frame l rest).2 (.refl _ _ s))⟩

theorem exec_laneEdgeSend (hq : (s.drive.lane.get l).queue = e :: rest) (hfree : s.lineFree l = true) : exec (.laneEdgeSend l) s = .next
    (if e.t < s.laneLabel l + 75 ∨ 4 ≤ ((s.drive.lane.get l).sent.filter fun t => decide (s.laneLabel l < t)).length then s.laneLate l
      else s.edgeBegin l (s.laneLabel l) e) := by
  change execLaneEdgeSend l s = _
  unfold execLaneEdgeSend
  dsimp only
  rw [hq]
  dsimp only
  rw [if_neg (by simp [hfree])]
  split_ifs <;> rfl

theorem State.lineFree_active {l : Nat} (hfree : s.lineFree l = true) : s.laneState l = 1 := by
  simp only [State.lineFree, Bool.and_eq_true, beq_iff_eq] at hfree
  exact hfree.1

theorem State.edgeBegin_facts (s : State) (l k : Nat) (e : Edge) :
    ((s.edgeBegin l k e).drive.lane.get l).queue = (s.drive.lane.get l).queue.tail ∧ ((s.edgeBegin l k e).drive.lane.get l).busyTo = k + 68 ∧
    ((s.edgeBegin l k e).drive.lane.get l).lineAt = k ∧ ((s.edgeBegin l k e).drive.lane.get l).line = edgeChips e ∧
    (s.edgeBegin l k e).get (F.LANE_CNT_EDGE l) = (s.get (F.LANE_CNT_EDGE l) + 1) % 2 ^ (F.LANE_CNT_EDGE l).len ∧
    Keeps [F.LANE_CNT_EDGE l] [.drive] s (s.edgeBegin l k e) := by
  have hlane : (s.edgeBegin l k e).drive.lane.get l = { s.drive.lane.get l with
      line := edgeChips e, lineAt := k, fillAt := (s.drive.lane.get l).busyTo, busyTo := k + 68, queue := (s.drive.lane.get l).queue.tail,
      sent := ((s.drive.lane.get l).sent.filter fun t => k < t) ++ [e.t] } := by
    unfold State.edgeBegin State.lineBegin
    rw [State.modLane_get_same, State.modLane_get_same]
    rfl
  rw [hlane]
  refine ⟨rfl, rfl, rfl, rfl, ?_, .beside' (.beside' (.incWrap' (.refl _ _ s)))⟩
  exact (State.get_put_same s (F.LANE_CNT_EDGE l) _ (by simp)).trans (Nat.mod_mod _ _)

theorem laneEdge_sent (hq : (s.drive.lane.get l).queue = e :: rest) (hfree : s.lineFree l = true) (hlead : s.laneLabel l + 75 ≤ e.t)
    (hroom : ((s.drive.lane.get l).sent.filter fun t => decide (s.laneLabel l < t)).length < 4) :
    ∃ t, exec (.laneEdgeSend l) s = .next t ∧ (t.drive.lane.get l).queue = rest ∧ (t.drive.lane.get l).busyTo = s.laneLabel l + 68 ∧
      (t.drive.lane.get l).lineAt = s.laneLabel l ∧ (t.drive.lane.get l).line = somE ++ fieldChips 32 (edgeWord e) ∧
      bitsOf (edgeWord e) 5 24 = e.t % 2 ^ 24 ∧
      t.get (F.LANE_CNT_EDGE l) = (s.get (F.LANE_CNT_EDGE l) + 1) % 2 ^ (F.LANE_CNT_EDGE l).len ∧ Keeps [F.LANE_CNT_EDGE l] [.drive] s t := by
  obtain ⟨hqueue, hbusy, hat, hline, hcnt, hframe⟩ := s.edgeBegin_facts l (s.laneLabel l) e
  exact ⟨_, (exec_laneEdgeSend hq hfree).trans (congrArg Host.Outcome.next (if_neg (by omega))), hqueue.trans (by rw [hq]; rfl), hbusy, hat, hline,
    edgeWord_tick e, hcnt, hframe⟩

theorem laneEdge_late (hq : (s.drive.lane.get l).queue = e :: rest) (hfree : s.lineFree l = true)
    (hlate : e.t < s.laneLabel l + 75 ∨ 4 ≤ ((s.drive.lane.get l).sent.filter fun t => decide (s.laneLabel l < t)).length) :
    ∃ t, exec (.laneEdgeSend l) s = .next t ∧ t.laneState l = 2 ∧ t.get (F.LANE_LSTICKY_LATE l) = 1 ∧
      t.raised = s.raised ++ [⟨FS.LANE_LATE l, 0⟩] ∧ (t.drive.lane.get l).queue = [] ∧
      Keeps [F.LANE_STAT_STATE l, whole (R.LANE_TRIP_TICK l), F.LANE_LSTICKY_LATE l] [.drive, .raised] s t :=
  ⟨_, (exec_laneEdgeSend hq hfree).trans (congrArg Host.Outcome.next (if_pos hlate)), State.laneLate_facts (State.lineFree_active hfree)⟩

theorem laneTrip_ends (htrip : s.laneState l = 2) (hdue : (s.drive.lane.get l).tripAt + 48 ≤ s.mono) :
    ∃ t, exec (.laneTripEnd l) s = .next t ∧ t.laneState l = (s.drive.lane.get l).after % 2 ^ (F.LANE_STAT_STATE l).len ∧
      Keeps [F.LANE_STAT_STATE l] [] s t :=
  ⟨_, if_pos ⟨htrip, hdue⟩, State.get_put_same _ _ _ (by simp), .put' (.refl _ _ s)⟩

end

/-! ### Faults of a lane, and a missing status (R324, R336) -/

section
variable (s : State) (l : Nat)

theorem State.laneFault_frame (c : Bool) (f : Fld) (n : Nat) : Keeps [f] [.raised] s (s.laneFault l c f n) :=
  .ite' (.ite' (.raise' (.set1' (.refl _ _ s))) (.set1' (.refl _ _ s))) (.refl _ _ s)

theorem State.laneFault_other (c : Bool) (f : Fld) (n : Nat) (g : Fld) (h : f.apart g = true) : (s.laneFault l c f n).get g = s.get g :=
  (s.laneFault_frame l c f n).get_eq g (by simpa using h)

variable {s l}

theorem State.laneFault_sets {c : Bool} {f : Fld} {n : Nat} (hc : c = true) (hlen : f.len = 1) (hf : f.lo + f.len ≤ 32) :
    (s.laneFault l c f n).get f = 1 := by
  have hset : (s.set1 f).get f = 1 := (State.get_put_same s f 1 hf).trans (by rw [hlen]; rfl)
  unfold State.laneFault
  rw [if_pos hc]
  dsimp only
  split
  · exact hset
  · exact hset

theorem State.laneFault_raises {c : Bool} {f : Fld} {n : Nat} (hc : c = true) (hf : f.addr ≠ (F.PWM_STATUS_STATE (l + 8)).addr) (hrun : s.pwmState (l + 8) = 1) :
    (s.laneFault l c f n).raised = s.raised ++ [⟨n, 0⟩] := by
  have hrun' : (s.set1 f).pwmState (l + 8) = 1 := (State.get_put_other s f _ 1 (by simp [Fld.apart, hf])).trans hrun
  unfold State.laneFault
  rw [if_pos hc]
  exact congrArg State.raised (if_pos hrun')

theorem State.laneFault_quiet {c : Bool} {f : Fld} {n : Nat} (hf : f.addr ≠ (F.PWM_STATUS_STATE (l + 8)).addr) (h : c = false ∨ s.pwmState (l + 8) ≠ 1) :
    (s.laneFault l c f n).raised = s.raised := by
  have hstate : (s.set1 f).pwmState (l + 8) = s.pwmState (l + 8) := State.get_put_other s f _ 1 (by simp [Fld.apart, hf])
  unfold State.laneFault
  dsimp only
  rw [hstate]
  rcases h with h | h
  · rw [if_neg (by simp [h])]
  · rw [if_neg h]
    split <;> rfl

theorem State.laneFault_mem {c : Bool} {f : Fld} {n : Nat} {x : Raise} (h : x ∈ s.raised) : x ∈ (s.laneFault l c f n).raised := by
  unfold State.laneFault
  dsimp only
  split
  · split
    · exact List.mem_append_left _ h
    · exact h
  · exact h

variable (s l)

/-- A missing status is counted. -/
def State.missCounted (s : State) (l : Nat) : State :=
  ((s.incSat (F.LANE_ERR_CNT_MISSING l)).incSat (F.LANE_STAT_MISS_CONSEC l)).modLane l fun x => { x with hbOut := none }

theorem State.laneMissing_eq : s.laneMissing l = (s.missCounted l).laneFault l (decide (3 ≤ (s.missCounted l).get (F.LANE_STAT_MISS_CONSEC l)))
    (F.LANE_LSTICKY_NO_STATUS l) (FS.LANE_NO_STATUS l) := rfl

theorem State.missCounted_cnts : (s.missCounted l).get (F.LANE_ERR_CNT_MISSING l) = satInc 16 (s.get (F.LANE_ERR_CNT_MISSING l)) ∧
    (s.missCounted l).get (F.LANE_STAT_MISS_CONSEC l) = satInc 4 (s.get (F.LANE_STAT_MISS_CONSEC l)) := by
  constructor
  · refine (State.get_put_other (s.incSat _) (F.LANE_STAT_MISS_CONSEC l) (F.LANE_ERR_CNT_MISSING l) _ (by simp)).trans ?_
    exact (State.get_put_same s (F.LANE_ERR_CNT_MISSING l) _ (by simp)).trans (Nat.mod_eq_of_lt (satInc_lt _ _))
  · refine ((State.get_put_same (s.incSat (F.LANE_ERR_CNT_MISSING l)) (F.LANE_STAT_MISS_CONSEC l) _ (by simp)).trans
      (Nat.mod_eq_of_lt (satInc_lt _ _))).trans (congrArg (satInc 4) ?_)
    exact State.get_put_other _ _ _ _ (by simp)

theorem State.missCounted_lane : (s.missCounted l).drive.lane.get l = { s.drive.lane.get l with hbOut := none } := State.modLane_get_same ..

theorem State.missCounted_frame : Keeps [F.LANE_ERR_CNT_MISSING l, F.LANE_STAT_MISS_CONSEC l] [.drive] s (s.missCounted l) :=
  .beside' (.incSat' (.incSat' (.refl _ _ s)))

theorem State.laneMissing_lane : (s.laneMissing l).drive.lane.get l = { s.drive.lane.get l with hbOut := none } :=
  (congrArg (fun d : DriveState => d.lane.get l) ((State.laneFault_frame _ l _ _ _).2 .drive (by decide))).trans (s.missCounted_lane l)

theorem State.laneMissing_frame : Keeps [F.LANE_ERR_CNT_MISSING l, F.LANE_STAT_MISS_CONSEC l, F.LANE_LSTICKY_NO_STATUS l] [.drive, .raised] s (s.laneMissing l) :=
  .after (State.laneFault_frame _ l _ _ _) (.after (s.missCounted_frame l) (.refl _ _ s))

theorem State.laneMissing_cnts : (s.laneMissing l).get (F.LANE_ERR_CNT_MISSING l) = satInc 16 (s.get (F.LANE_ERR_CNT_MISSING l)) ∧
    (s.laneMissing l).get (F.LANE_STAT_MISS_CONSEC l) = satInc 4 (s.get (F.LANE_STAT_MISS_CONSEC l)) := by
  obtain ⟨herr, hconsec⟩ := s.missCounted_cnts l
  exact ⟨(State.laneFault_other _ _ _ _ _ _ (by simp)).trans herr, (State.laneFault_other _ _ _ _ _ _ (by simp)).trans hconsec⟩

/-- The third missing status in a row is a fault. -/
theorem State.laneMissing_fault (h : 3 ≤ (s.laneMissing l).get (F.LANE_STAT_MISS_CONSEC l)) : (s.laneMissing l).get (F.LANE_LSTICKY_NO_STATUS l) = 1 ∧
    (s.pwmState (l + 8) = 1 → l < 6 → (s.laneMissing l).raised = s.raised ++ [⟨FS.LANE_NO_STATUS l, 0⟩]) := by
  have hc : decide (3 ≤ (s.missCounted l).get (F.LANE_STAT_MISS_CONSEC l)) = true := by
    rw [(s.laneMissing_cnts l).2] at h
    rw [(s.missCounted_cnts l).2]
    exact decide_eq_true h
  refine ⟨State.laneFault_sets hc rfl (by simp), fun hrun hl => ?_⟩
  refine (State.laneFault_raises hc (by simp; omega) (((s.missCounted_frame l).get_eq _ (by simp; omega)).trans hrun)).trans ?_
  exact congrArg (· ++ _) ((s.missCounted_frame l).2 .raised (by decide))

theorem State.laneMissing_quiet (hl : l < 6) (h : (s.laneMissing l).get (F.LANE_STAT_MISS_CONSEC l) < 3) : (s.laneMissing l).raised = s.raised := by
  have hc : decide (3 ≤ (s.missCounted l).get (F.LANE_STAT_MISS_CONSEC l)) = false := by
    rw [(s.laneMissing_cnts l).2] at h
    rw [(s.missCounted_cnts l).2]
    exact decide_eq_false (by omega)
  exact (State.laneFault_quiet (by simp; omega) (.inl hc)).trans ((s.missCounted_frame l).2 .raised (by decide))

end

/-! ### Heartbeats (R323, R328, R329) -/

section
variable (s : State) (l k : Nat)

/-- A heartbeat that still waits for its status counts as missing before the next starts. -/
def State.hbClosed (s : State) (l : Nat) : State := if (s.drive.lane.get l).hbOut.isSome then s.laneMissing l else s

theorem State.hbClosed_frame :
    Keeps [F.LANE_ERR_CNT_MISSING l, F.LANE_STAT_MISS_CONSEC l, F.LANE_LSTICKY_NO_STATUS l] [.drive, .raised] s (s.hbClosed l) :=
  .ite' (s.laneMissing_frame l) (.refl _ _ s)

theorem State.heartbeatBegin_facts : ((s.heartbeatBegin l k).drive.lane.get l).hbDue = none ∧
    ((s.heartbeatBegin l k).drive.lane.get l).busyTo = k + 152 ∧ ((s.heartbeatBegin l k).drive.lane.get l).hbOut = some (k + 6) ∧
    ((s.heartbeatBegin l k).drive.lane.get l).lineAt = k ∧
    ((s.heartbeatBegin l k).drive.lane.get l).line = somH ++ fieldChips 40 (heartbeatBits (k + 6)) ++ post ∧
    (s.heartbeatBegin l k).get (F.LANE_CNT_HB l) = (s.get (F.LANE_CNT_HB l) + 1) % 2 ^ (F.LANE_CNT_HB l).len := by
  have hlane : (s.heartbeatBegin l k).drive.lane.get l = { (s.hbClosed l).drive.lane.get l with
      line := heartbeatChips (k + 6), lineAt := k, fillAt := ((s.hbClosed l).drive.lane.get l).busyTo, busyTo := k + 152,
      hbDue := none, hbOut := some (k + 6) } := by
    unfold State.heartbeatBegin State.lineBegin
    rw [State.modLane_get_same, State.modLane_get_same]
    rfl
  rw [hlane]
  refine ⟨rfl, rfl, rfl, rfl, rfl, ?_⟩
  refine (State.get_put_same (s.hbClosed l) (F.LANE_CNT_HB l) _ (by simp)).trans ((Nat.mod_mod _ _).trans ?_)
  exact congrArg (fun n => (n + 1) % 2 ^ (F.LANE_CNT_HB l).len) ((s.hbClosed_frame l).get_eq (F.LANE_CNT_HB l) (by simp))

theorem State.heartbeatBegin_alone (h : (s.drive.lane.get l).hbOut = none) : Keeps [F.LANE_CNT_HB l] [.drive] s (s.heartbeatBegin l k) := by
  have hopen : s.hbClosed l = s := if_neg (by simp [h])
  have hbegin : Keeps [F.LANE_CNT_HB l] [.drive] (s.hbClosed l) (s.heartbeatBegin l k) := .beside' (.beside' (.incWrap' (.refl _ _ _)))
  rwa [hopen] at hbegin

theorem State.heartbeatBegin_frame :
    Keeps [F.LANE_CNT_HB l, F.LANE_ERR_CNT_MISSING l, F.LANE_STAT_MISS_CONSEC l, F.LANE_LSTICKY_NO_STATUS l] [.drive, .raised] s (s.heartbeatBegin l k) :=
  .beside' (.beside' (.incWrap' (.after (s.hbClosed_frame l) (.refl _ _ s))))

end

section
variable {s : State} {l : Fin 6}

theorem laneHeartbeat_due (hlive : s.laneLive l = true) (hlabel : s.laneLabel l % 800 = 0) :
    ∃ t, exec (.laneHeartbeatDue l) s = .next t ∧ (t.drive.lane.get l).hbDue = some (s.laneLabel l) ∧ Keeps [] [.drive] s t :=
  ⟨_, if_pos ⟨hlive, hlabel⟩, congrArg Lane.hbDue (State.modLane_get_same ..), .beside' (.refl _ _ s)⟩

theorem exec_laneHeartbeatSend (hdue : (s.drive.lane.get l).hbDue.isSome = true) (hfree : s.lineFree l = true) (hq : (s.drive.lane.get l).queue = [])
    (hmsgs : (s.pwm.get (l + 8)).msgs = []) (hnear : s.edgeNear (l + 8) (s.laneLabel l) = false) :
    exec (.laneHeartbeatSend l) s = .next (s.heartbeatBegin l (s.laneLabel l)) := if_pos (by simp [hdue, hfree, hq, hmsgs, hnear])

theorem exec_laneHeartbeatForced (hdue : (s.drive.lane.get l).hbDue.isSome = true) (hfree : s.lineFree l = true)
    (hlate : (s.drive.lane.get l).hbFirst + 1200 ≤ s.laneLabel l) :
    exec (.laneHeartbeatForced l) s = .next (s.heartbeatBegin l (s.laneLabel l)) := if_pos (by simp [hdue, hfree, hlate])

end

/-! ### A driver's status (R324, R336, Table DRV-6) -/

section
variable (s : State) (l k st : Nat)

/-- A STATUS is recorded, and what it says of the driver sets the lane's flags. -/
def State.statusNoted (s : State) (l k st : Nat) : State :=
  let t := (s.put (F.LANE_STAT_STATUS l) st).put (F.LANE_STAT_MISS_CONSEC l) 0
  let t := t.laneFault l ((s.drive.lane.get l).echoBad k st) (F.LANE_LSTICKY_ECHO l) (FS.LANE_ECHO l)
  let t := t.laneFault l (bitOf st 6 || bitOf st 5) (F.LANE_LSTICKY_DESAT l) (FS.LANE_DESAT l)
  let t := t.laneFault l (bitOf st 4 || !bitOf st 7) (F.LANE_LSTICKY_UVLO l) (FS.LANE_UVLO l)
  t.laneFault l (bitOf st 3) (F.LANE_LSTICKY_OT l) (FS.LANE_OT l)

/-- What the driver says of the messages it received. -/
def State.rxNoted (s : State) (l st : Nat) : State :=
  (if bitOf st 2 then s.incSat (F.LANE_ERR_CNT_RX_ERR l) else s).laneFault l (bitOf st 2) (F.LANE_LSTICKY_RX_ERR l) (FS.LANE_RX_ERR l)

/-- The lane has its answer; the edges before it are in the levels. -/
def Lane.heard (x : Lane) (k : Nat) : Lane :=
  let old := fun (e : Edge) => e.t + 16 < k
  { x with hbOut := none, lvlA := ({ x with sched := x.sched.filter old } : Lane).levelAt false k,
           lvlB := ({ x with sched := x.sched.filter old } : Lane).levelAt true k,
           sched := x.sched.filter fun e => !old e }

theorem State.laneStatus_eq : s.laneStatus l k st = ((s.statusNoted l k st).rxNoted l st).modLane l fun x => x.heard k := rfl

theorem State.rxNoted_frame : Keeps [F.LANE_ERR_CNT_RX_ERR l, F.LANE_LSTICKY_RX_ERR l] [.raised] s (s.rxNoted l st) :=
  .after (State.laneFault_frame _ l _ _ _) (.ite' (.incSat' (.refl _ _ s)) (.refl _ _ s))

theorem State.rxNoted_sets (h : bitOf st 2 = true) : (s.rxNoted l st).get (F.LANE_LSTICKY_RX_ERR l) = 1 ∧
    (s.rxNoted l st).get (F.LANE_ERR_CNT_RX_ERR l) = satInc 16 (s.get (F.LANE_ERR_CNT_RX_ERR l)) := by
  refine ⟨State.laneFault_sets h rfl (by simp), (State.laneFault_other _ _ _ _ _ _ (by simp)).trans ?_⟩
  rw [if_pos h]
  exact (State.get_put_same s (F.LANE_ERR_CNT_RX_ERR l) _ (by simp)).trans (Nat.mod_eq_of_lt (satInc_lt _ _))

theorem State.rxNoted_raised (hl : l < 6) (hrun : s.pwmState (l + 8) ≠ 1) : (s.rxNoted l st).raised = s.raised := by
  refine (State.laneFault_quiet (by simp; omega) (.inr ?_)).trans ?_
  · split
    · exact fun h => hrun ((State.get_put_other s _ _ _ (by simp)).symm.trans h)
    · exact hrun
  · split <;> rfl

theorem State.rxNoted_mem {x : Raise} (h : x ∈ s.raised) : x ∈ (s.rxNoted l st).raised :=
  State.laneFault_mem (by split <;> exact h)

theorem State.statusNoted_frame : Keeps [F.LANE_STAT_STATUS l, F.LANE_STAT_MISS_CONSEC l, F.LANE_LSTICKY_ECHO l, F.LANE_LSTICKY_DESAT l,
    F.LANE_LSTICKY_UVLO l, F.LANE_LSTICKY_OT l] [.raised] s (s.statusNoted l k st) :=
  .after (State.laneFault_frame _ l _ _ _) (.after (State.laneFault_frame _ l _ _ _) (.after (State.laneFault_frame _ l _ _ _)
    (.after (State.laneFault_frame _ l _ _ _) (.put' (.put' (.refl _ _ s))))))

theorem State.statusNoted_sets : (st < 256 → (s.statusNoted l k st).get (F.LANE_STAT_STATUS l) = st) ∧ (s.statusNoted l k st).get (F.LANE_STAT_MISS_CONSEC l) = 0 ∧
    ((s.drive.lane.get l).echoBad k st = true → (s.statusNoted l k st).get (F.LANE_LSTICKY_ECHO l) = 1) ∧
    (bitOf st 6 = true ∨ bitOf st 5 = true → (s.statusNoted l k st).get (F.LANE_LSTICKY_DESAT l) = 1) ∧
    (bitOf st 4 = true ∨ bitOf st 7 = false → (s.statusNoted l k st).get (F.LANE_LSTICKY_UVLO l) = 1) ∧
    (bitOf st 3 = true → (s.statusNoted l k st).get (F.LANE_LSTICKY_OT l) = 1) := by
  unfold State.statusNoted
  dsimp only
  refine ⟨fun hst => ?_, ?_, fun hecho => ?_, fun hdesat => ?_, fun huvlo => ?_, fun hot => ?_⟩
  · iterate 4 rw [State.laneFault_other _ _ _ _ _ _ (by simp)]
    exact (State.get_put_other (s.put (F.LANE_STAT_STATUS l) st) _ _ _ (by simp)).trans
      ((State.get_put_same s _ _ (by simp)).trans (Nat.mod_eq_of_lt hst))
  · iterate 4 rw [State.laneFault_other _ _ _ _ _ _ (by simp)]
    exact State.get_put_same (s.put (F.LANE_STAT_STATUS l) st) _ _ (by simp)
  · iterate 3 rw [State.laneFault_other _ _ _ _ _ _ (by simp)]
    exact State.laneFault_sets hecho rfl (by simp)
  · iterate 2 rw [State.laneFault_other _ _ _ _ _ _ (by simp)]
    exact State.laneFault_sets (by simpa using hdesat) rfl (by simp)
  · rw [State.laneFault_other _ _ _ _ _ _ (by simp)]
    exact State.laneFault_sets (by simpa using huvlo) rfl (by simp)
  · exact State.laneFault_sets hot rfl (by simp)

/-- The unit's state as the flags of a status leave it. -/
theorem State.laneFault_pwmState (hl : l < 6) (c : Bool) (f : Fld) (n : Nat) (hf : f.addr = R.LANE_LSTICKY l) :
    (s.laneFault l c f n).pwmState (l + 8) = s.pwmState (l + 8) :=
  State.laneFault_other _ _ _ _ _ _ (by simp [Fld.apart, hf]; omega)

theorem State.statusNoted_raised (hl : l < 6) (hrun : s.pwmState (l + 8) ≠ 1) : (s.statusNoted l k st).raised = s.raised := by
  have hput : ((s.put (F.LANE_STAT_STATUS l) st).put (F.LANE_STAT_MISS_CONSEC l) 0).pwmState (l + 8) = s.pwmState (l + 8) :=
    (State.get_put_other _ _ _ _ (by simp)).trans (State.get_put_other _ _ _ _ (by simp))
  have hstep (t : State) (c : Bool) (f : Fld) (n : Nat) (hf : f.addr = R.LANE_LSTICKY l)
      (h : t.pwmState (l + 8) ≠ 1 ∧ t.raised = s.raised) :
      (t.laneFault l c f n).pwmState (l + 8) ≠ 1 ∧ (t.laneFault l c f n).raised = s.raised :=
    ⟨fun h' => h.1 ((t.laneFault_pwmState l hl c f n hf).symm.trans h'),
      (State.laneFault_quiet (by rw [hf]; simp; omega) (.inr h.1)).trans h.2⟩
  exact (hstep _ _ _ _ rfl (hstep _ _ _ _ rfl (hstep _ _ _ _ rfl (hstep _ _ _ _ rfl ⟨fun h => hrun (hput.symm.trans h), rfl⟩)))).2

theorem State.statusNoted_ot (hl : l < 6) (hrun : s.pwmState (l + 8) = 1) (hot : bitOf st 3 = true) :
    ⟨FS.LANE_OT l, 0⟩ ∈ (s.statusNoted l k st).raised := by
  have hput : ((s.put (F.LANE_STAT_STATUS l) st).put (F.LANE_STAT_MISS_CONSEC l) 0).pwmState (l + 8) = s.pwmState (l + 8) :=
    (State.get_put_other _ _ _ _ (by simp)).trans (State.get_put_other _ _ _ _ (by simp))
  refine (State.laneFault_raises (f := F.LANE_LSTICKY_OT l) hot (by simp; omega) ?_).symm ▸ List.mem_append_right _ (List.mem_singleton_self _)
  iterate 3 rw [State.laneFault_pwmState _ _ hl _ _ _ rfl]
  exact hput.trans hrun

end

section
variable {s : State} {l : Fin 6}

theorem exec_laneStatusReceive_good {k : Nat} {bits : BitVec 13} {st : Nat} (hout : (s.drive.lane.get l).hbOut = some k) (htime : s.responseInTime l = true)
    (hcrc : crc5 (msbBits 8 st) = bits.toNat % 32) (hst : st = bits.toNat / 32) : exec (.laneStatusReceive l bits) s = .next (s.laneStatus l k st) := by
  subst hst
  change execLaneStatusReceive l bits s = _
  unfold execLaneStatusReceive
  rw [hout]
  exact if_pos (by simp [htime, statusOk, hcrc])

theorem exec_laneStatusReceive_bad {k : Nat} {bits : BitVec 13} (hout : (s.drive.lane.get l).hbOut = some k)
    (h : s.responseInTime l = false ∨ crc5 (msbBits 8 (bits.toNat / 32)) ≠ bits.toNat % 32) :
    exec (.laneStatusReceive l bits) s = .next (s.laneMissing l) := by
  change execLaneStatusReceive l bits s = _
  unfold execLaneStatusReceive
  rw [hout]
  refine if_neg ?_
  rcases h with h | h <;> simp [h, statusOk]

theorem laneStatus_recorded {k : Nat} {bits : BitVec 13} {st : Nat} (hout : (s.drive.lane.get l).hbOut = some k) (htime : s.responseInTime l = true)
    (hcrc : crc5 (msbBits 8 st) = bits.toNat % 32) (hst : st = bits.toNat / 32) :
    ∃ t, exec (.laneStatusReceive l bits) s = .next t ∧ t.get (F.LANE_STAT_STATUS l) = st ∧ t.get (F.LANE_STAT_MISS_CONSEC l) = 0 ∧
      (t.drive.lane.get l).hbOut = none ∧ ((s.drive.lane.get l).echoBad k st = true → t.get (F.LANE_LSTICKY_ECHO l) = 1) ∧
      (bitOf st 5 = true → t.get (F.LANE_LSTICKY_DESAT l) = 1) ∧
      (bitOf st 6 = true → t.get (F.LANE_LSTICKY_DESAT l) = 1) ∧ (bitOf st 7 = false → t.get (F.LANE_LSTICKY_UVLO l) = 1) ∧
      (bitOf st 4 = true → t.get (F.LANE_LSTICKY_UVLO l) = 1) ∧ (bitOf st 3 = true → t.get (F.LANE_LSTICKY_OT l) = 1) ∧
      (bitOf st 2 = true → t.get (F.LANE_LSTICKY_RX_ERR l) = 1 ∧
        t.get (F.LANE_ERR_CNT_RX_ERR l) = satInc (F.LANE_ERR_CNT_RX_ERR l).len (s.get (F.LANE_ERR_CNT_RX_ERR l))) ∧
      (s.pwmState (l + 8) ≠ 1 → t.raised = s.raised) ∧
      (s.pwmState (l + 8) = 1 → bitOf st 3 = true → ⟨FS.LANE_OT l, 0⟩ ∈ t.raised) ∧
      Keeps [F.LANE_STAT_STATUS l, F.LANE_STAT_MISS_CONSEC l, F.LANE_LSTICKY_ECHO l, F.LANE_LSTICKY_DESAT l, F.LANE_LSTICKY_UVLO l,
        F.LANE_LSTICKY_OT l, F.LANE_LSTICKY_RX_ERR l, F.LANE_ERR_CNT_RX_ERR l] [.drive, .raised] s t := by
  have hl := l.isLt
  have hlt : st < 256 := by omega
  have hnoted := s.statusNoted_frame l k st
  have hrx := (s.statusNoted l k st).rxNoted_frame l st
  obtain ⟨hstatus, hconsec, hecho, hdesat, huvlo, hot⟩ := s.statusNoted_sets l k st
  have hrxSets := (s.statusNoted l k st).rxNoted_sets l st
  refine ⟨_, exec_laneStatusReceive_good hout htime hcrc hst, ?_⟩
  rw [State.laneStatus_eq]
  refine ⟨(hrx.get_eq _ (by simp)).trans (hstatus hlt), (hrx.get_eq _ (by simp)).trans hconsec, congrArg Lane.hbOut (State.modLane_get_same ..),
    fun h => (hrx.get_eq _ (by simp)).trans (hecho h), fun h => (hrx.get_eq _ (by simp)).trans (hdesat (.inr h)),
    fun h => (hrx.get_eq _ (by simp)).trans (hdesat (.inl h)), fun h => (hrx.get_eq _ (by simp)).trans (huvlo (.inr h)),
    fun h => (hrx.get_eq _ (by simp)).trans (huvlo (.inl h)), fun h => (hrx.get_eq _ (by simp)).trans (hot h),
    fun h => ⟨(hrxSets h).1, (hrxSets h).2.trans (congrArg _ (hnoted.get_eq _ (by simp)))⟩, fun h => ?_, fun hrun h => ?_, ?_⟩
  · have hstate : (s.statusNoted l k st).pwmState (l + 8) ≠ 1 := fun h' => h ((hnoted.get_eq _ (by simp)).symm.trans h')
    exact (State.rxNoted_raised _ _ _ hl hstate).trans (s.statusNoted_raised l k st hl h)
  · exact State.rxNoted_mem _ _ _ (s.statusNoted_ot l k st hl hrun h)
  · exact .beside' (.after hrx (.after hnoted (.refl _ _ s)))

theorem laneStatus_ended {k : Nat} (hout : (s.drive.lane.get l).hbOut = some k) (hdue : (s.drive.lane.get l).busyTo ≤ s.laneLabel l) :
    exec (.laneStatusMissing l) s = .next (s.laneMissing l) := if_pos (by simp [hout, hdue])

theorem laneStatus_waits (hearly : s.laneLabel l < (s.drive.lane.get l).busyTo) : exec (.laneStatusMissing l) s = .next s :=
  if_neg (by simp [hearly])

end

/-! ### Enable and disable (R334) -/

section
variable {s : State} {l : Fin 6}

theorem State.laneState_enable (s : State) (l v : Nat) : (s.put (F.LANE_CTRL_EN l) v).laneState l = s.laneState l :=
  State.get_put_other _ _ _ _ (by simp)

/-- EN is set, and the lane's state follows. -/
def State.laneEnabled (s : State) (l : Nat) : State :=
  let s := s.put (F.LANE_CTRL_EN l) 1
  if s.laneState l = 0 then
    (s.put (F.LANE_STAT_STATE l) 1).modLane l fun x =>
      { (default : Lane) with inter := x.inter, tripAt := x.tripAt, busyTo := s.laneLabel l }
  else if s.laneState l = 2 then s.modLane l fun x => { x with after := 1 }
  else s

theorem exec_laneEnable (hfoyer : s.inFoyer = false) (hsafe : s.flag F.CUR_STATUS_SAFE = false) (hused : s.flag (F.LANE_CFG_USED l) = true)
    (hcal : s.flag F.EPOCH_STATUS_BAR_CAL_DONE = true) (hfence : s.laneFenced l = false) :
    exec (.laneEnable .hpa l) s = .next (s.laneEnabled l) :=
  congrArg Host.Outcome.next (if_pos (by simp [hfoyer, hsafe, hused, hcal, hfence]))

theorem laneEnable_off (hfoyer : s.inFoyer = false) (hsafe : s.flag F.CUR_STATUS_SAFE = false) (hused : s.flag (F.LANE_CFG_USED l) = true)
    (hcal : s.flag F.EPOCH_STATUS_BAR_CAL_DONE = true) (hoff : s.laneState l = 0) :
    ∃ t, exec (.laneEnable .hpa l) s = .next t ∧ t.get (F.LANE_CTRL_EN l) = 1 ∧ t.laneState l = 1 ∧ (t.drive.lane.get l).queue = [] ∧
      Keeps [F.LANE_CTRL_EN l, F.LANE_STAT_STATE l] [.drive] s t := by
  refine ⟨_, exec_laneEnable hfoyer hsafe hused hcal (by simp [State.laneFenced, hoff]), ?_⟩
  unfold State.laneEnabled
  dsimp only
  rw [s.laneState_enable, if_pos hoff]
  refine ⟨?_, State.get_put_same (s.put _ 1) _ _ (by simp), congrArg Lane.queue (State.modLane_get_same ..), .beside' (.put' (.put' (.refl _ _ s)))⟩
  exact (State.get_put_other (s.put (F.LANE_CTRL_EN l) 1) _ _ _ (by simp)).trans (State.get_put_same s _ _ (by simp))

theorem laneEnable_on (hfoyer : s.inFoyer = false) (hsafe : s.flag F.CUR_STATUS_SAFE = false) (hused : s.flag (F.LANE_CFG_USED l) = true)
    (hcal : s.flag F.EPOCH_STATUS_BAR_CAL_DONE = true) (hfence : s.laneFenced l = false) (hon : s.laneState l ≠ 0) :
    ∃ t, exec (.laneEnable .hpa l) s = .next t ∧ t.get (F.LANE_CTRL_EN l) = 1 ∧ (s.laneState l = 2 → (t.drive.lane.get l).after = 1) ∧
      Keeps [F.LANE_CTRL_EN l] [.drive] s t := by
  have hen : (s.put (F.LANE_CTRL_EN l) 1).get (F.LANE_CTRL_EN l) = 1 := State.get_put_same s _ _ (by simp)
  refine ⟨_, exec_laneEnable hfoyer hsafe hused hcal hfence, ?_⟩
  unfold State.laneEnabled
  dsimp only
  rw [s.laneState_enable, if_neg hon]
  split
  · exact ⟨hen, fun _ => congrArg Lane.after (State.modLane_get_same ..), .beside' (.put' (.refl _ _ s))⟩
  next h => exact ⟨hen, fun h' => absurd h' h, .put' (.refl _ _ s)⟩

theorem laneEnable_refused {i : Initiator} (h : i ≠ .hpa ∨ s.inFoyer = true ∨ s.flag F.CUR_STATUS_SAFE = true ∨ s.flag (F.LANE_CFG_USED l) = false ∨
      s.flag F.EPOCH_STATUS_BAR_CAL_DONE = false ∨ s.laneFenced l = true) :
    ∃ t, exec (.laneEnable i l) s = .next t ∧ Refused .laneAll FS.LANE_CFG s t := by
  refine ⟨_, congrArg Host.Outcome.next (if_neg ?_), State.cfgReject_refused _ _ _⟩
  rintro ⟨hi, hfoyer, hsafe, hused, hcal, hfence⟩
  simp only [Bool.not_eq_eq_eq_not, Bool.not_true] at hfoyer hsafe hfence
  simp [hi, hfoyer, hsafe, hused, hcal, hfence] at h

theorem exec_laneDisable (hfoyer : s.inFoyer = false) (hstop : s.pwmState (l + 8) = 0) :
    exec (.laneDisable .hpa l) s = .next ((s.put (F.LANE_CTRL_EN l) 0).laneTrip l 0) :=
  congrArg Host.Outcome.next (if_pos (by simp [hfoyer, hstop]))

theorem laneDisable_active (hfoyer : s.inFoyer = false) (hstop : s.pwmState (l + 8) = 0) (hon : s.laneState l = 1) :
    ∃ t, exec (.laneDisable .hpa l) s = .next t ∧ t.get (F.LANE_CTRL_EN l) = 0 ∧ t.laneState l = 2 ∧ (t.drive.lane.get l).after = 0 ∧
      Keeps [F.LANE_CTRL_EN l, F.LANE_STAT_STATE l, whole (R.LANE_TRIP_TICK l)] [.drive] s t := by
  have htrip := (s.put (F.LANE_CTRL_EN l) 0).laneTrip_keeps l 0
  obtain ⟨hstate, -, hafter⟩ := State.laneTrip_active ((s.laneState_enable l 0).trans hon) 0
  exact ⟨_, exec_laneDisable hfoyer hstop, (htrip.get_eq _ (by simp [whole])).trans (State.get_put_same s _ _ (by simp)), hstate, hafter,
    .after htrip (.put' (.refl _ _ s))⟩

theorem laneDisable_other (hfoyer : s.inFoyer = false) (hstop : s.pwmState (l + 8) = 0) (hon : s.laneState l ≠ 1) :
    ∃ t, exec (.laneDisable .hpa l) s = .next t ∧ t.get (F.LANE_CTRL_EN l) = 0 ∧ (s.laneState l = 2 → (t.drive.lane.get l).after = 0) ∧
      Keeps [F.LANE_CTRL_EN l] [.drive] s t := by
  refine ⟨_, exec_laneDisable hfoyer hstop, ?_⟩
  have hen : (s.put (F.LANE_CTRL_EN l) 0).get (F.LANE_CTRL_EN l) = 0 := State.get_put_same s _ _ (by simp)
  rw [State.laneTrip, s.laneState_enable, if_neg (by simp [hon])]
  split
  · exact ⟨hen, fun _ => congrArg Lane.after (State.modLane_get_same ..), .beside' (.put' (.refl _ _ s))⟩
  next h => exact ⟨hen, fun h' => absurd ⟨h', by decide⟩ h, .put' (.refl _ _ s)⟩

theorem laneDisable_refused {i : Initiator} (h : i ≠ .hpa ∨ s.inFoyer = true ∨ s.pwmState (l + 8) ≠ 0) :
    ∃ t, exec (.laneDisable i l) s = .next t ∧ Refused .laneAll FS.LANE_CFG s t := by
  refine ⟨_, congrArg Host.Outcome.next (if_neg ?_), State.cfgReject_refused _ _ _⟩
  rintro ⟨hi, hfoyer, hstop⟩
  simp only [Bool.not_eq_eq_eq_not, Bool.not_true] at hfoyer
  simp [hi, hfoyer, hstop] at h

end

/-- Settles O22: each command of a lane is one branch of the model, with the lane's record and its flags written out. -/
theorem lanesEdgesStatusAndEnable : Obligations.LanesEdgesStatusAndEnable := by
  unfold Obligations.LanesEdgesStatusAndEnable
  refine ⟨fun s l => ⟨fun e rest hm h => ?_, fun e rest => laneEdge_accepted, fun e rest => laneEdge_interlock, fun e rest => laneEdge_sent,
      fun e rest => laneEdge_late, laneTrip_ends, fun _ hearly => if_neg fun h => absurd h.2 (by omega)⟩,
    fun s l => ⟨laneHeartbeat_due, fun hdue hfree hq hmsgs hnear => ?_, fun hdue hfree hlate => ?_, fun k bits st => laneStatus_recorded,
      fun k bits hout h => ?_, fun k _ => laneStatus_waits, fun k hout hdue => ?_⟩,
    fun s l => ⟨laneEnable_off, laneEnable_on, fun i => laneEnable_refused, laneDisable_active, laneDisable_other, fun i => laneDisable_refused⟩⟩
  · exact ⟨_, laneEdge_held hm h, s.msgTaken_frame l rest⟩
  · obtain ⟨hd, hbusy, hout, hat, hline, hcnt⟩ := s.heartbeatBegin_facts l (s.laneLabel l)
    exact ⟨_, exec_laneHeartbeatSend hdue hfree hq hmsgs hnear, hd, hbusy, hout, hat, hline, hcnt, s.heartbeatBegin_alone l _, s.heartbeatBegin_frame l _⟩
  · obtain ⟨hd, hbusy, -, hat, hline, -⟩ := s.heartbeatBegin_facts l (s.laneLabel l)
    exact ⟨_, exec_laneHeartbeatForced hdue hfree hlate, hd, hbusy, hat, hline, s.heartbeatBegin_alone l _, s.heartbeatBegin_frame l _⟩
  · exact ⟨_, exec_laneStatusReceive_bad hout h, congrArg Lane.hbOut (s.laneMissing_lane l), (s.laneMissing_cnts l).1, s.laneMissing_frame l⟩
  · obtain ⟨herr, hconsec⟩ := s.laneMissing_cnts l
    exact ⟨_, laneStatus_ended hout hdue, congrArg Lane.hbOut (s.laneMissing_lane l), herr, hconsec,
      fun h => ⟨(s.laneMissing_fault l h).1, fun hrun => (s.laneMissing_fault l h).2 hrun l.isLt⟩, s.laneMissing_quiet l l.isLt, s.laneMissing_frame l⟩

end Sys2Proof.Machine
end

section
/-!
Proofs about the executions of a loop pair: start, commit and abandonment (chapter 6).
The proofs are elaborated in turn: in one text, proofs that wait for each other would each hold a thread.
-/

set_option Elab.async false

namespace Sys2Proof.Machine

/-! # O17: executions of a loop pair (chapter 6) -/


/-! ### Bytes of the pair's memory -/

theorem KeepsBytesOutside.widen' {lo hi lo' hi' : Nat} {s t : State} (h : KeepsBytesOutside lo hi s t) (hlo : lo' ≤ lo) (hhi : hi ≤ hi') :
    KeepsBytesOutside lo' hi' s t := fun a ha => h a (by omega)

theorem KeepsBytesOutside.forEach {lo hi : Nat} {f : State → Nat → State} {l : List Nat} {s : State}
    (hstep : ∀ a ∈ l, ∀ t, KeepsBytesOutside lo hi s t → KeepsBytesOutside lo hi s (f t a)) : KeepsBytesOutside lo hi s (s.forEach l f) :=
  State.forEach_inv (P := KeepsBytesOutside lo hi s) (fun a ha t ht => hstep a ha t ht) s (.refl _ _ s)

theorem State.length_rdBytes (s : State) : ∀ (n a : Nat), (s.rdBytes a n).length = n
  | 0, _ => rfl
  | n + 1, a => congrArg (· + 1) (State.length_rdBytes s n (a + 1))

theorem length_words (ws : List Word) : (ws.flatMap fun w => leBytes 4 w.toNat).length = 4 * ws.length := by
  induction ws with
  | nil => rfl
  | cons w ws ih =>
    simp only [List.flatMap_cons, List.length_append, leBytes_length, ih, List.length_cons]
    omega

theorem length_numbers (ws : List Nat) : (ws.flatMap (leBytes 4)).length = 4 * ws.length := by
  induction ws with
  | nil => rfl
  | cons w ws ih =>
    simp only [List.flatMap_cons, List.length_append, leBytes_length, ih, List.length_cons]
    omega

/-- A word written above the aliased memory reads back, aligned or not. -/
theorem State.rdW_wrW_high (s : State) {a : Nat} (v : Word) (ha : 0x28400000 ≤ a) : (s.wrW a v).rdW a = v := by
  have hhome (k : Nat) : memHome (a + k) = a + k := memHome_high (by omega)
  have hhome0 : memHome a = a := memHome_high ha
  have hlt := v.isLt
  apply BitVec.eq_of_toNat_eq
  simp only [State.rdW_eq, State.wrW_eq, State.rdB_wrB, hhome, hhome0, w32, BitVec.toNat_ofNat]
  simp
  omega

/-- The results are in the pair's memory and at its units. -/
def State.commitSent (s : State) (p : Nat) : State :=
  ((s.commitTcm p (s.loop.get p).res).commitUnits p (s.loop.get p).target (s.loop.get p).res.pwm).modLoop p fun l => { l with commits := l.commits + 1 }

/-- The commit's tick, its cycles and its slack. -/
def State.commitNoted (s : State) (p cycles slack : Nat) : State :=
  let s := (s.put (F.LP_STATUS_OVR_CONSEC p) 0).wr (R.LP_COMMIT_TICK p) s.now32
  let s := (s.put (F.LP_CYCLES_LAST p) (satTo 16 cycles)).put (F.LP_CYCLES_MAX p) (max (s.get (F.LP_CYCLES_MAX p)) (satTo 16 cycles))
  (s.put (F.LP_SLACK_LAST p) slack).put (F.LP_SLACK_MIN p) (min (s.get (F.LP_SLACK_MIN p)) slack)

theorem State.slotTransfer_keeps (s : State) (p : ℕ) :
    Keeps [] [.shadow, .mem] s (s.slotTransfer p) :=
  .foldl' (.refl _ _ _) (fun _ _ => .dropShadow' (.wrW' (.refl _ _ _)))

theorem State.snapshot_keeps (s : State) (p : ℕ) :
    Keeps [] [.mem] s (s.snapshot p) :=
  .forEach' (.refl _ _ _) (fun _ _ => .wrBytes' (.wrBytes' (.refl _ _ _)))

theorem State.execHeader_keeps (s : State) (p : ℕ) (seq : ℕ) (target : ℕ) (prevAb : Bool) (first : Bool) :
    Keeps [] [.mem] s (s.execHeader p seq target prevAb first) :=
  .forEach' (.wrBytes' (.refl _ _ _)) (fun _ _ => .wrBytes' (.refl _ _ _))

theorem State.loopCommitUnit_outside (s : State) (u : ℕ) (target : ℕ) (vals : List HeldW) (hu : u < 14) :
    KeepsOutside [zone (R.PWM_CTRL 0)] [.shadow, .pwm] s (s.loopCommitUnit u target vals) :=
  .ite' (.refl _ _ _) (.ite' (.set1' (.after (State.loopToShadow_outside ..) (.refl _ _ _))) (.after (State.modPwm_outside ..) (.put' (.refl _ _ _))))

theorem State.commitUnits_outside (s : State) (p : ℕ) (target : ℕ) (vs : List PwmVal) :
    KeepsOutside [zone (R.PWM_CTRL 0)] [.shadow, .pwm] s (s.commitUnits p target vs) :=
  .forEach' (.refl _ _ _) (fun x hx _ => have hx := lt_of_mem_maskIdx hx; .after (State.loopCommitUnit_outside _ _ _ _ (by omega)) (.refl _ _ _))

theorem State.commitTcm_outside (s : State) (p : ℕ) (r : ExecRes) :
    KeepsOutside [] [.mem] s (s.commitTcm p r) := by
  unfold State.commitTcm
  dsimp only
  exact .wrBytes' (.forEach' (.wrBytes' (.refl _ _ _)) (fun _ _ _ => .wrBytes' (.refl _ _ _)))

theorem State.commitSent_outside (s : State) (p : ℕ) :
    KeepsOutside [zone (R.PWM_CTRL 0)] [.loop, .shadow, .pwm, .mem] s (s.commitSent p) :=
  .after (State.modLoop_outside ..) (.after (State.commitUnits_outside ..) (.after (State.commitTcm_outside ..) (.refl _ _ _)))

theorem State.gridFirst_outside (s : State) (l : Lent) :
    KeepsOutside [] [.grid, .sens] s (s.gridFirst l) :=
  .ite' (.refl _ _ _) (.forEach' (.after (State.modGrid_outside ..) (.refl _ _ _)) (fun _ _ _ => .beside' (.refl _ _ _)))

theorem State.gridCommit_outside (s : State) (p : ℕ) :
    KeepsOutside [] [.grid, .sens] s (s.gridCommit p) :=
  .ite' (.refl _ _ _) (.comp (.ite' (.after (State.gridFirst_outside ..) (.after (State.modGrid_outside ..) (.refl _ _ _))) (.refl _ _ _)) (.after (State.modGrid_outside ..) (.refl _ _ _)))

/-! ### The set-points that wait, the records and the header (R190 to R192) -/

section
variable (s : State) (p : Nat)

theorem State.slotTransfer_frame : Keeps [] [.mem, .shadow] s (s.slotTransfer p) := (.after (State.slotTransfer_keeps ..) (.refl _ _ _))

theorem State.snapshot_frame : Keeps [] [.mem] s (s.snapshot p) := (.after (State.snapshot_keeps ..) (.refl _ _ _))

theorem State.execHeader_frame (seq target : Nat) (prevAb first : Bool) : Keeps [] [.mem] s (s.execHeader p seq target prevAb first) := (.after (State.execHeader_keeps ..) (.refl _ _ _))

end

section
variable (s : State) (p : Nat)

/-- One set-point that waited takes effect. -/
def State.slotTaken (s : State) (e : Nat × Shadow) : State := (s.wrW e.1 (w32 e.2.val)).dropShadow e.1

theorem State.slotTaken_bytes (e : Nat × Shadow) (h : 0x28400000 ≤ e.1) : KeepsBytesOutside e.1 (e.1 + 4) s (s.slotTaken e) := fun a ha => by
  refine State.rdB_wrBytes_other _ h ?_
  rw [leBytes_length]
  unfold memHome
  split <;> omega

/-- The shadows of a pair's set-points. -/
def State.slotShadows (s : State) (p : Nat) : List (Nat × Shadow) :=
  s.shadow.filter fun e => decide (tcmBase p + 0x4000 ≤ e.1) && decide (e.1 < tcmBase p + 0x4400)

theorem State.slotTransfer_eq : s.slotTransfer p = (s.slotShadows p).foldl State.slotTaken s := rfl

theorem State.slotShadows_mem {e : Nat × Shadow} (h : e ∈ s.slotShadows p) : tcmBase p + 0x4000 ≤ e.1 ∧ e.1 < tcmBase p + 0x4400 := by
  have hin := (List.mem_filter.1 h).2
  simpa using hin

theorem State.slotTransfer_bytes : KeepsBytesOutside (tcmBase p + 0x4000) (tcmBase p + 0x4404) s (s.slotTransfer p) := by
  have hbase : 0x30000000 ≤ tcmBase p := by unfold tcmBase; omega
  refine List.foldlRecOn (motive := KeepsBytesOutside (tcmBase p + 0x4000) (tcmBase p + 0x4404) s) (s.slotShadows p) _ (.refl _ _ s) fun t ht e he => ?_
  obtain ⟨hlo, hhi⟩ := s.slotShadows_mem p he
  exact ht.trans ((t.slotTaken_bytes e (by omega)).widen' (by omega) (by omega))

/-- A set-point that waits alone takes effect. -/
theorem State.slotTransfer_single {a : Nat} {x : Shadow} (h : s.slotShadows p = [(a, x)]) : (s.slotTransfer p).rdW a = w32 x.val := by
  have hbase : 0x30000000 ≤ tcmBase p := by unfold tcmBase; omega
  have hlo : tcmBase p + 0x4000 ≤ a := (s.slotShadows_mem p (h ▸ List.mem_singleton_self (a, x))).1
  have hkept (t : State) : (t.dropShadow a).rdW a = t.rdW a := rfl
  rw [s.slotTransfer_eq, h]
  exact (hkept _).trans (s.rdW_wrW_high (w32 x.val) (by omega))

theorem State.snapshot_bytes : KeepsBytesOutside (tcmBase p + 0xA000) (tcmBase p + 0xA2D0) s (s.snapshot p) := by
  have hbase : 0x30000000 ≤ tcmBase p := by unfold tcmBase; omega
  refine .forEach fun ch hch t ht => ?_
  have hch : ch < 26 := List.mem_range.1 (List.mem_filter.1 hch).1
  refine (ht.wrBytes_high _ ?_ ?_ (by omega)).wrBytes_high _ ?_ ?_ (by omega)
  all_goals
    simp only [State.length_rdBytes, workCycle, workWindow]
    omega

theorem State.execHeader_bytes (seq target : Nat) (prevAb first : Bool) :
    KeepsBytesOutside (tcmBase p + 0xF100) (tcmBase p + 0xF820) s (s.execHeader p seq target prevAb first) := by
  have hbase : 0x30000000 ≤ tcmBase p := by unfold tcmBase; omega
  have hloans (q : Nat) (f : Nat → Nat) : ((List.range 64).flatMap fun w => leBytes 4 (f w)).length = 256 := by
    rw [← List.flatMap_map, length_numbers, List.length_map, List.length_range]
  refine .trans (t := s.wrBytes (tcmBase p + 0xF800) _) (.wrBytes_high (.refl _ _ s) _ (by omega) ?_ (by omega)) (.forEach fun q hq t ht => ?_)
  · rw [length_numbers]
    simp
  · have hq : q < 6 := List.mem_range.1 hq
    refine ht.wrBytes_high _ (by omega) ?_ (by omega)
    rw [hloans q fun w => if q = p then 0 else (t.loanWord q w).toNat]
    omega

/-! ### The start of an execution (R190 to R194) -/

/-- The pair's memory as its execution finds it. -/
def State.execReady (s : State) (p : Nat) (r : GRec) : State :=
  ((s.slotTransfer p).snapshot p).execHeader p (s.loop.get p).seqNext (s.boundaryFrom (s.get (F.LP_CFG_PERIOD_UNIT p)) (r.c + r.pc))
    (s.loop.get p).prevAb (s.loop.get p).first

/-- What the graph computes on it. -/
def State.execRes (s : State) (p : Nat) (r : GRec) : ExecRes :=
  (s.execReady p r).runGraph p r (s.loop.get p).first (s.loop.get p).prevAb (s.loop.get p).seqNext

/-- The execution's record. -/
def State.execTo (s : State) (p seq target : Nat) (res : ExecRes) : State :=
  let t := (((s.put (F.LP_STATUS_STATE p) 3).put (F.LP_STATUS_HELD_REC p) 0).wr (R.LP_EXEC_CNT p) (w32 seq)).wr (R.LP_TARGET p) (w32 target)
  t.modLoop p fun l =>
    { l with rcd := none, target := target, deadline := target - guardTicks, started := t.epoch, running := true,
             seqNext := (l.seqNext + 1) % 2 ^ 32, first := false, prevAb := false, res := res }

theorem State.execReady_frame (r : GRec) : Keeps [] [.mem, .shadow] s (s.execReady p r) :=
  .after (State.execHeader_frame ..) (.after (State.snapshot_frame ..) (.after (State.slotTransfer_frame ..) (.refl _ _ s)))

theorem State.execReady_bytes (r : GRec) : KeepsBytesOutside (tcmBase p + 0x4000) (tcmBase p + 0xF820) s (s.execReady p r) ∧
    ∀ a, tcmBase p + 0x4404 ≤ a → a < tcmBase p + 0xA000 → (s.execReady p r).rdB a = s.rdB a := by
  have hslots := s.slotTransfer_bytes p
  have hrecords := (s.slotTransfer p).snapshot_bytes p
  have hheader := ((s.slotTransfer p).snapshot p).execHeader_bytes p (s.loop.get p).seqNext
    (s.boundaryFrom (s.get (F.LP_CFG_PERIOD_UNIT p)) (r.c + r.pc)) (s.loop.get p).prevAb (s.loop.get p).first
  exact ⟨((hslots.widen' (by omega) (by omega)).trans (hrecords.widen' (by omega) (by omega))).trans (hheader.widen' (by omega) (by omega)),
    fun a hlo hhi => (hheader a (by omega)).trans ((hrecords a (by omega)).trans (hslots a (by omega)))⟩

theorem State.execReady_single (r : GRec) {a : Nat} {x : Shadow} (h : s.slotShadows p = [(a, x)]) : (s.execReady p r).rdW a = w32 x.val := by
  obtain ⟨-, hhi⟩ := s.slotShadows_mem p (h ▸ List.mem_singleton_self (a, x))
  have hrecords := (s.slotTransfer p).snapshot_bytes p
  have hheader := ((s.slotTransfer p).snapshot p).execHeader_bytes p (s.loop.get p).seqNext
    (s.boundaryFrom (s.get (F.LP_CFG_PERIOD_UNIT p)) (r.c + r.pc)) (s.loop.get p).prevAb (s.loop.get p).first
  refine (State.rdW_congr fun k hk => ?_).trans (s.slotTransfer_single p h)
  exact (hheader _ (by simp at hhi; omega)).trans (hrecords _ (by simp at hhi; omega))

theorem State.execTo_frame (seq target : Nat) (res : ExecRes) :
    Keeps [F.LP_STATUS_STATE p, F.LP_STATUS_HELD_REC p, whole (R.LP_EXEC_CNT p), whole (R.LP_TARGET p)] [.loop] s (s.execTo p seq target res) :=
  .beside' (.wr' (.wr' (.put' (.put' (.refl _ _ s)))))

theorem State.execTo_facts (seq target : Nat) (res : ExecRes) : (s.execTo p seq target res).lpState p = 3 ∧
    (s.execTo p seq target res).get (F.LP_STATUS_HELD_REC p) = 0 ∧ (s.execTo p seq target res).rd (R.LP_EXEC_CNT p) = w32 seq ∧
    (s.execTo p seq target res).rd (R.LP_TARGET p) = w32 target ∧ (∀ q, q ≠ p → (s.execTo p seq target res).loop.get q = s.loop.get q) := by
  refine ⟨?_, ?_, ?_, ?_, fun q hq => SMap.get_set_ne _ _ _ _ hq⟩
  all_goals simp [State.execTo, State.modLoop, State.lpState]

theorem State.execTo_mem (seq target : Nat) (res : ExecRes) : (s.execTo p seq target res).mem = s.mem := rfl

/-- The pair's record of an execution that runs. -/
theorem State.execTo_loop (seq target : Nat) (res : ExecRes) : ((s.execTo p seq target res).loop.get p).running = true ∧
    ((s.execTo p seq target res).loop.get p).rcd = none ∧ ((s.execTo p seq target res).loop.get p).started = s.epoch ∧
    ((s.execTo p seq target res).loop.get p).target = target ∧ ((s.execTo p seq target res).loop.get p).deadline = target - 80 ∧
    ((s.execTo p seq target res).loop.get p).res = res := by
  have hloop : (s.execTo p seq target res).loop.get p = { s.loop.get p with
      rcd := none, target := target, deadline := target - guardTicks, started := s.epoch, running := true,
      seqNext := ((s.loop.get p).seqNext + 1) % 2 ^ 32, first := false, prevAb := false, res := res } := SMap.get_set_same _ _ _
  rw [hloop]
  exact ⟨rfl, rfl, rfl, rfl, rfl, rfl⟩

/-- The execution has started; what it computes stands in its record. -/
def State.execBegun (s : State) (p : Nat) (r : GRec) : State :=
  (s.execReady p r).execTo p (s.loop.get p).seqNext (s.boundaryFrom (s.get (F.LP_CFG_PERIOD_UNIT p)) (r.c + r.pc)) (s.execRes p r)

end

section
variable {s : State} {p : Fin 6}

theorem State.execStart_eq (s : State) (p : Nat) (r : GRec) : s.execStart p r =
    if (s.execRes p r).numeric then (s.execBegun p r).stickyRaise (F.LP_STICKY_NUMERIC p) (FS.LOOP_NUMERIC p) else s.execBegun p r := rfl

theorem exec_loopExecStart {r : GRec} (hr : (s.loop.get p).rcd = some r) (hwait : s.lpState p = 2) :
    exec (.loopExecStart p) s = .next (s.execStart p r) := by
  change execLoopExecStart p s = _
  unfold execLoopExecStart
  rw [hr]
  exact if_pos hwait

theorem State.execBegun_frame (s : State) (p : Nat) (r : GRec) :
    Keeps [F.LP_STATUS_STATE p, F.LP_STATUS_HELD_REC p, whole (R.LP_EXEC_CNT p), whole (R.LP_TARGET p)] [.mem, .loop, .shadow] s (s.execBegun p r) :=
  .after (State.execTo_frame ..) (.after (s.execReady_frame p r) (.refl _ _ s))

/-- A fault of the numbers is flagged and raised. -/
theorem State.execStart_numeric (s : State) (p : Nat) (r : GRec) :
    ((s.execRes p r).numeric = true → (s.execStart p r).get (F.LP_STICKY_NUMERIC p) = 1 ∧
      (s.execStart p r).raised = s.raised ++ [⟨FS.LOOP_NUMERIC p, 0⟩]) ∧
    ((s.execRes p r).numeric = false → (s.execStart p r).raised = s.raised) ∧
    Keeps [F.LP_STICKY_NUMERIC p] [.raised] (s.execBegun p r) (s.execStart p r) := by
  have hraised : (s.execBegun p r).raised = s.raised := (s.execBegun_frame p r).2 .raised (by decide)
  have hsticky (t : State) : (t.stickyRaise (F.LP_STICKY_NUMERIC p) (FS.LOOP_NUMERIC p)).get (F.LP_STICKY_NUMERIC p) = 1 ∧
      (t.stickyRaise (F.LP_STICKY_NUMERIC p) (FS.LOOP_NUMERIC p)).raised = t.raised ++ [⟨FS.LOOP_NUMERIC p, 0⟩] :=
    ⟨State.get_put_same t _ _ (by simp), rfl⟩
  rw [s.execStart_eq]
  refine ⟨fun h => ?_, fun h => ?_, .ite' (.stickyRaise' (.refl _ _ _)) (.refl _ _ _)⟩
  · rw [if_pos h]
    obtain ⟨hset, hadded⟩ := hsticky (s.execBegun p r)
    rw [hraised] at hadded
    exact ⟨hset, hadded⟩
  · rw [if_neg (by simp [h])]
    exact hraised

theorem loopExecStart_starts {r : GRec} (hr : (s.loop.get p).rcd = some r) (hwait : s.lpState p = 2) :
    ∃ t, exec (.loopExecStart p) s = .next t ∧ t.lpState p = 3 ∧ t.get (F.LP_STATUS_HELD_REC p) = 0 ∧
      (t.loop.get p).running = true ∧ (t.loop.get p).rcd = none ∧ (t.loop.get p).started = s.epoch ∧
      (t.loop.get p).target = s.boundaryFrom (s.get (F.LP_CFG_PERIOD_UNIT p)) (r.c + r.pc) ∧
      (t.loop.get p).deadline = (t.loop.get p).target - 80 ∧
      t.rd (R.LP_EXEC_CNT p) = BitVec.ofNat 32 (s.loop.get p).seqNext ∧ t.rd (R.LP_TARGET p) = BitVec.ofNat 32 (t.loop.get p).target ∧
      ((t.loop.get p).res.numeric = true → t.get (F.LP_STICKY_NUMERIC p) = 1 ∧ t.raised = s.raised ++ [⟨FS.LOOP_NUMERIC p, 0⟩]) ∧
      ((t.loop.get p).res.numeric = false → t.raised = s.raised) ∧ (∀ q, q ≠ (p : Nat) → t.loop.get q = s.loop.get q) ∧
      Keeps [F.LP_STATUS_STATE p, F.LP_STATUS_HELD_REC p, whole (R.LP_EXEC_CNT p), whole (R.LP_TARGET p), F.LP_STICKY_NUMERIC p]
        [.mem, .loop, .raised, .shadow] s t ∧
      (∀ a x, (s.shadow.filter fun e => decide (tcmBase p + 0x4000 ≤ e.1) && decide (e.1 < tcmBase p + 0x4400)) = [(a, x)] →
        t.rdW a = BitVec.ofNat 32 x.val) ∧
      (∀ a, tcmBase p + 0x4404 ≤ a → a < tcmBase p + 0xA000 → t.rdB a = s.rdB a) ∧
      KeepsBytesOutside (tcmBase p + 0x4000) (tcmBase p + 0xF820) s t := by
  have hready := s.execReady_frame p r
  have hepoch : (s.execReady p r).epoch = s.epoch := hready.2 .epoch (by decide)
  obtain ⟨hstate, hheld, hcnt, htarget, hothers⟩ := (s.execReady p r).execTo_facts p (s.loop.get p).seqNext
    (s.boundaryFrom (s.get (F.LP_CFG_PERIOD_UNIT p)) (r.c + r.pc)) (s.execRes p r)
  obtain ⟨hrun, hrcd, hstarted, hto, hdead, hres⟩ := (s.execReady p r).execTo_loop p (s.loop.get p).seqNext
    (s.boundaryFrom (s.get (F.LP_CFG_PERIOD_UNIT p)) (r.c + r.pc)) (s.execRes p r)
  rw [← State.execBegun] at hstate hheld hcnt htarget hothers hrun hrcd hstarted hto hdead hres
  obtain ⟨hnumeric, hquiet, hlast⟩ := s.execStart_numeric p r
  have hbegun := s.execBegun_frame p r
  have hloop : (s.execStart p r).loop = (s.execBegun p r).loop := hlast.2 .loop (by decide)
  have hbytes (a : Nat) : (s.execStart p r).rdB a = (s.execReady p r).rdB a :=
    ((hlast.2 .mem (by decide)).1 a).trans (State.rdB_congr (State.execTo_mem ..) a)
  obtain ⟨hinside, hmiddle⟩ := s.execReady_bytes p r
  refine ⟨_, exec_loopExecStart hr hwait, (hlast.get_eq _ (by simp)).trans hstate, (hlast.get_eq _ (by simp)).trans hheld, ?_⟩
  rw [hloop, hto, hres]
  refine ⟨hrun, hrcd, hstarted.trans hepoch, rfl, hdead, (hlast.rd_eq _ (by simp [whole])).trans hcnt, (hlast.rd_eq _ (by simp [whole])).trans htarget,
    hnumeric, hquiet, fun q hq => (hothers q hq).trans (congrArg (SMap.get · q) (hready.2 .loop (by decide))),
    .after hlast (.after hbegun (.refl _ _ s)), fun a x hone => ?_, fun a hlo hhi => (hbytes a).trans (hmiddle a hlo hhi),
    fun a ha => (hbytes a).trans (hinside a ha)⟩
  exact (State.rdW_congr fun k _ => hbytes (a + k)).trans (s.execReady_single p r hone)

end

/-! ### A commit (R193, R196, R199, R200) -/

section
variable (s : State) (p : Nat)

theorem State.commitTcm_bytes (r : ExecRes) (hwork : r.work.length ≤ 3840) (hprobe : r.probe.length ≤ 2048) (hloan : r.loan.length ≤ 64) :
    KeepsBytesOutside (tcmBase p + 0x4400) (tcmBase p + 0xF100) s (s.commitTcm p r) := by
  have hbase : 0x30000000 ≤ tcmBase p := by unfold tcmBase; omega
  refine .wrBytes_high (.trans (t := s.wrBytes (tcmBase p + 0x4400) _) (.wrBytes_high (.refl _ _ s) _ (by omega) ?_ (by omega))
    (.forEach fun i hi t ht => ?_)) _ (by omega) ?_ (by omega)
  · rw [length_words]
    omega
  · have hi : i < r.probe.length / 16 := List.mem_range.1 hi
    refine ht.wrBytes_high _ (by omega) ?_ (by omega)
    rw [length_words]
    have htake : ((r.probe.drop (16 * i)).take 16).length ≤ 16 := List.length_take_le _ _
    omega
  · rw [length_words]
    omega

/-- The execution is done; the grid's block has what the pair lends. -/
def State.commitEnded (s : State) (p cycles slack : Nat) : State := (((s.commitSent p).commitNoted p cycles slack).execDone p).gridCommit p

theorem State.loopCommit_eq (cycles : Nat) : s.loopCommit p cycles =
    if (s.loop.get p).res.plaus then (s.commitEnded p cycles (satTo 16 ((s.loop.get p).deadline - s.epoch))).raise (FS.LOOP_PLAUS p)
    else s.commitEnded p cycles (satTo 16 ((s.loop.get p).deadline - s.epoch)) := rfl

theorem State.commitSent_reach : KeepsOutside [zone (R.PWM_CTRL 0)] [.mem, .loop, .shadow, .pwm] s (s.commitSent p) := (.after (State.commitSent_outside ..) (.refl _ _ _))

theorem State.commitNoted_frame (cycles slack : Nat) : Keeps [F.LP_STATUS_OVR_CONSEC p, whole (R.LP_COMMIT_TICK p), F.LP_CYCLES_LAST p, F.LP_CYCLES_MAX p,
    F.LP_SLACK_LAST p, F.LP_SLACK_MIN p] [] s (s.commitNoted p cycles slack) :=
  .put' (.put' (.put' (.put' (.wr' (.put' (.refl _ _ s))))))

theorem State.commitNoted_reach {p : Nat} (hp : p < 6) (cycles slack : Nat) : KeepsOutside [zone (R.LP_CTRL 0)] [] s (s.commitNoted p cycles slack) :=
  (s.commitNoted_frame p cycles slack).toOutside (by simp [zone, whole]; omega)

theorem State.commitNoted_facts (cycles : Nat) {slack : Nat} (hslack : slack < 2 ^ 16) : (s.commitNoted p cycles slack).get (F.LP_STATUS_OVR_CONSEC p) = 0 ∧
    (s.commitNoted p cycles slack).rd (R.LP_COMMIT_TICK p) = w32 s.epoch ∧ (s.commitNoted p cycles slack).get (F.LP_CYCLES_LAST p) = min cycles 0xFFFF ∧
    (s.commitNoted p cycles slack).get (F.LP_CYCLES_MAX p) = max (s.get (F.LP_CYCLES_MAX p)) (min cycles 0xFFFF) ∧
    (s.commitNoted p cycles slack).get (F.LP_SLACK_LAST p) = slack := by
  have hmax : s.get (F.LP_CYCLES_MAX p) < 2 ^ 16 := s.get_lt (F.LP_CYCLES_MAX p)
  have hmod : max (s.get (F.LP_CYCLES_MAX p)) (min cycles 65535) % 65536 = max (s.get (F.LP_CYCLES_MAX p)) (min cycles 65535) := Nat.mod_eq_of_lt (by omega)
  refine ⟨?_, ?_, ?_, ?_, ?_⟩
  · simp [State.commitNoted]
  · simp [State.commitNoted, State.now32]
  · simp [State.commitNoted, satTo]
  · simpa [State.commitNoted, satTo] using hmod
  · simpa [State.commitNoted] using hslack

theorem State.gridCommit_reach : KeepsOutside [] [.grid, .sens] s (s.gridCommit p) := (.after (State.gridCommit_outside ..) (.refl _ _ _))

/-- The end of an execution: the pair waits where it is enabled and is IDLE where it is not (R212). -/
theorem State.execDone_facts : (s.execDone p).lpState p = (if s.flag (F.LP_CTRL_EN p) then 2 else 1) ∧ ((s.execDone p).loop.get p).running = false := by
  refine ⟨?_, congrArg LoopPair.running (SMap.get_set_same _ _ _)⟩
  have hother (v w : Nat) : ((s.put (F.LP_STATUS_STATE p) v).put (F.LP_STATUS_HELD_REC p) w).lpState p = v % 2 ^ 3 :=
    (State.get_put_other (s.put (F.LP_STATUS_STATE p) v) _ _ w (by simp)).trans (State.get_put_same s _ v (by simp))
  refine (hother _ 0).trans ?_
  split <;> rfl

end

section
variable {s : State} {p : Fin 6}

theorem exec_loopCommit {cyc : Nat} (hstate : s.lpState p = 3) (hrun : (s.loop.get p).running = true) (hbefore : s.epoch < (s.loop.get p).deadline) :
    exec (.loopCommit p cyc) s = .next (s.loopCommit p cyc) := if_pos ⟨hstate, hrun, hbefore⟩

theorem exec_loopAbandon (hstate : s.lpState p = 3) (hrun : (s.loop.get p).running = true) (hat : (s.loop.get p).deadline ≤ s.epoch) :
    exec (.loopAbandon p) s = .next (s.loopAbandon p) := if_pos ⟨hstate, hrun, hat⟩

theorem State.commitSent_bytes (s : State) (p : Nat) (hwork : (s.loop.get p).res.work.length ≤ 3840) (hprobe : (s.loop.get p).res.probe.length ≤ 2048)
    (hloan : (s.loop.get p).res.loan.length ≤ 64) : KeepsBytesOutside (tcmBase p + 0x4400) (tcmBase p + 0xF100) s (s.commitSent p) := by
  have hunits : KeepsOutside [zone (R.PWM_CTRL 0)] [.loop, .shadow, .pwm] (s.commitTcm p (s.loop.get p).res) (s.commitSent p) :=
    .beside' (.after (State.commitUnits_outside ..) (.refl _ _ _))
  exact (s.commitTcm_bytes p _ hwork hprobe hloan).trans fun a _ => (hunits.2 .mem (by decide)).1 a

theorem State.commitEnded_reach (s : State) {p : Nat} (hp : p < 6) (cyc slack : Nat) :
    KeepsOutside [zone (R.LP_CTRL 0), zone (R.PWM_CTRL 0)] [.mem, .loop, .shadow, .pwm, .grid, .sens] s (s.commitEnded p cyc slack) :=
  .after (State.gridCommit_reach ..) (.after ((State.execDone_keeps ..).toOutside (rs := [zone (R.LP_CTRL 0)]) (by simp [zone]; omega))
    (.after (State.commitNoted_reach _ hp ..) (.after (State.commitSent_reach ..) (.refl _ _ s))))

/-- What the end of a commit leaves of what it noted. -/
theorem State.commitEnded_noted (s : State) (p cyc slack : Nat) : Keeps [F.LP_STATUS_HELD_REC p, F.LP_STATUS_STATE p] [.loop]
    ((s.commitSent p).commitNoted p cyc slack) (((s.commitSent p).commitNoted p cyc slack).execDone p) ∧
    KeepsOutside [] [.grid, .sens] (((s.commitSent p).commitNoted p cyc slack).execDone p) (s.commitEnded p cyc slack) :=
  ⟨State.execDone_keeps .., State.gridCommit_reach ..⟩

theorem State.commitEnded_facts (s : State) {p : Nat} (hp : p < 6) (cyc : Nat) {slack : Nat} (hslack : slack < 2 ^ 16) :
    (s.commitEnded p cyc slack).lpState p = (if s.flag (F.LP_CTRL_EN p) then 2 else 1) ∧ ((s.commitEnded p cyc slack).loop.get p).running = false ∧
    (s.commitEnded p cyc slack).get (F.LP_STATUS_OVR_CONSEC p) = 0 ∧ (s.commitEnded p cyc slack).rd (R.LP_COMMIT_TICK p) = w32 s.epoch ∧
    (s.commitEnded p cyc slack).get (F.LP_CYCLES_LAST p) = min cyc 0xFFFF ∧
    (s.commitEnded p cyc slack).get (F.LP_CYCLES_MAX p) = max (s.get (F.LP_CYCLES_MAX p)) (min cyc 0xFFFF) ∧
    (s.commitEnded p cyc slack).get (F.LP_SLACK_LAST p) = slack := by
  have hsent := s.commitSent_reach p
  have hnote := (s.commitSent p).commitNoted_frame p cyc slack
  obtain ⟨hdone, hgrid⟩ := s.commitEnded_noted p cyc slack
  obtain ⟨hovr, htick, hlast, hmax, hslackLast⟩ := (s.commitSent p).commitNoted_facts p cyc hslack
  obtain ⟨hstate, hrunning⟩ := ((s.commitSent p).commitNoted p cyc slack).execDone_facts p
  have hen : ((s.commitSent p).commitNoted p cyc slack).flag (F.LP_CTRL_EN p) = s.flag (F.LP_CTRL_EN p) :=
    (hnote.flag_eq _ (by simp [whole])).trans (congrArg (· == 1) (hsent.get_eq (F.LP_CTRL_EN p) (by simp; omega)))
  have hget (f : Fld) (h : (F.LP_STATUS_HELD_REC p).apart f = true ∧ (F.LP_STATUS_STATE p).apart f = true) :
      (s.commitEnded p cyc slack).get f = ((s.commitSent p).commitNoted p cyc slack).get f :=
    (hgrid.get_eq f (by simp)).trans (hdone.get_eq f (by simpa using h))
  rw [hen] at hstate
  rw [hsent.get_eq (F.LP_CYCLES_MAX p) (by simp; omega)] at hmax
  refine ⟨(hgrid.get_eq _ (by simp)).trans hstate, ?_, (hget _ (by simp)).trans hovr, ?_, (hget _ (by simp)).trans hlast, (hget _ (by simp)).trans hmax,
    (hget _ (by simp)).trans hslackLast⟩
  · exact (congrArg (fun m => (SMap.get m p).running) (hgrid.2 .loop (by decide))).trans hrunning
  · refine (hgrid.1 _ (by simp)).trans ((hdone.rd_eq _ (by simp [whole])).trans (htick.trans ?_))
    exact congrArg w32 (hsent.2 .epoch (by decide))

theorem loopCommit_commits {cyc : Nat} (hstate : s.lpState p = 3) (hrun : (s.loop.get p).running = true) (hbefore : s.epoch < (s.loop.get p).deadline) :
    ∃ t, exec (.loopCommit p cyc) s = .next t ∧ t.lpState p = (if s.flag (F.LP_CTRL_EN p) then 2 else 1) ∧
      (t.loop.get p).running = false ∧ t.get (F.LP_STATUS_OVR_CONSEC p) = 0 ∧ t.rd (R.LP_COMMIT_TICK p) = BitVec.ofNat 32 s.epoch ∧
      t.get (F.LP_CYCLES_LAST p) = min cyc 0xFFFF ∧ t.get (F.LP_CYCLES_MAX p) = max (s.get (F.LP_CYCLES_MAX p)) (min cyc 0xFFFF) ∧
      t.get (F.LP_SLACK_LAST p) = min ((s.loop.get p).deadline - s.epoch) 0xFFFF ∧
      ((s.loop.get p).res.plaus = true → t.raised = s.raised ++ [⟨FS.LOOP_PLAUS p, 0⟩]) ∧
      ((s.loop.get p).res.work.length ≤ 3840 → (s.loop.get p).res.probe.length ≤ 2048 → (s.loop.get p).res.loan.length ≤ 64 →
        KeepsBytesOutside (tcmBase p + 0x4400) (tcmBase p + 0xF100) s t) ∧
      KeepsOutside [zone (R.LP_CTRL 0), zone (R.PWM_CTRL 0)] [.mem, .loop, .shadow, .pwm, .grid, .sens, .raised] s t := by
  have hslack : satTo 16 ((s.loop.get p).deadline - s.epoch) < 2 ^ 16 := by
    unfold satTo
    omega
  have hfacts := s.commitEnded_facts p.isLt cyc hslack
  have hreach := s.commitEnded_reach p.isLt cyc (satTo 16 ((s.loop.get p).deadline - s.epoch))
  have hlast : Keeps [] [.raised] (s.commitEnded p cyc (satTo 16 ((s.loop.get p).deadline - s.epoch))) (s.loopCommit p cyc) := by
    rw [s.loopCommit_eq p cyc]
    exact .ite' (.raise' (.refl _ _ _)) (.refl _ _ _)
  obtain ⟨hstate', hrunning, hovr, htick, hcyc, hmax, hslackLast⟩ := hfacts
  obtain ⟨hdone, hgrid⟩ := s.commitEnded_noted p cyc (satTo 16 ((s.loop.get p).deadline - s.epoch))
  refine ⟨_, exec_loopCommit hstate hrun hbefore, (hlast.get_eq _ (by simp)).trans hstate', ?_, (hlast.get_eq _ (by simp)).trans hovr,
    (hlast.rd_eq _ (by simp)).trans htick, (hlast.get_eq _ (by simp)).trans hcyc, (hlast.get_eq _ (by simp)).trans hmax,
    (hlast.get_eq _ (by simp)).trans hslackLast, fun hplaus => ?_, fun hwork hprobe hloan a ha => ?_,
    .after (hlast.toOutside (rs := []) (by simp)) (.after hreach (.refl _ _ s))⟩
  · exact (congrArg (fun m => (SMap.get m (p : Nat)).running) (hlast.2 .loop (by decide))).trans hrunning
  · have hadded (t : State) : (t.raise (FS.LOOP_PLAUS p)).raised = t.raised ++ [⟨FS.LOOP_PLAUS p, 0⟩] := rfl
    rw [s.loopCommit_eq p cyc, if_pos hplaus, hadded, hreach.2 .raised (by decide)]
  · refine ((hlast.2 .mem (by decide)).1 a).trans (((hgrid.2 .mem (by decide)).1 a).trans (((hdone.2 .mem (by decide)).1 a).trans ?_))
    exact ((((s.commitSent p).commitNoted_frame p cyc _).2 .mem (by decide)).1 a).trans (s.commitSent_bytes p hwork hprobe hloan a ha)

/-! ### An abandoned execution (R199) -/

/-- The overrun is flagged and counted. -/
def State.overrun (s : State) (p : Nat) : State := ((s.set1 (F.LP_STICKY_OVERRUN p)).incSat (F.LP_OVR_CNT_CNT p)).incSat (F.LP_STATUS_OVR_CONSEC p)

/-- The execution ends without a commit. -/
def State.abandoned (s : State) (p : Nat) : State := ((s.overrun p).execDone p).modLoop p fun l => { l with prevAb := true }

theorem State.loopAbandon_eq (s : State) (p : Nat) : s.loopAbandon p =
    if (s.abandoned p).get (F.LP_STATUS_OVR_CONSEC p) = 3 then (s.abandoned p).raise (FS.LOOP_OVERRUN p) else s.abandoned p := rfl

theorem State.overrun_facts (s : State) (p : Nat) : (s.overrun p).get (F.LP_STICKY_OVERRUN p) = 1 ∧
    (s.overrun p).get (F.LP_OVR_CNT_CNT p) = satInc (F.LP_OVR_CNT_CNT p).len (s.get (F.LP_OVR_CNT_CNT p)) ∧
    (s.overrun p).get (F.LP_STATUS_OVR_CONSEC p) = satInc (F.LP_STATUS_OVR_CONSEC p).len (s.get (F.LP_STATUS_OVR_CONSEC p)) ∧
    Keeps [F.LP_STICKY_OVERRUN p, F.LP_OVR_CNT_CNT p, F.LP_STATUS_OVR_CONSEC p] [] s (s.overrun p) := by
  have hset : Keeps [F.LP_STICKY_OVERRUN p] [] s (s.set1 (F.LP_STICKY_OVERRUN p)) := .set1' (.refl _ _ s)
  have hcnt : Keeps [F.LP_OVR_CNT_CNT p] [] (s.set1 (F.LP_STICKY_OVERRUN p)) ((s.set1 (F.LP_STICKY_OVERRUN p)).incSat (F.LP_OVR_CNT_CNT p)) :=
    .incSat' (.refl _ _ _)
  have hconsec : Keeps [F.LP_STATUS_OVR_CONSEC p] [] ((s.set1 (F.LP_STICKY_OVERRUN p)).incSat (F.LP_OVR_CNT_CNT p)) (s.overrun p) :=
    .incSat' (.refl _ _ _)
  refine ⟨?_, ?_, ?_, .after hconsec (.after hcnt (.after hset (.refl _ _ s)))⟩
  · exact (hconsec.get_eq _ (by simp)).trans ((hcnt.get_eq _ (by simp)).trans (State.get_put_same s _ _ (by simp)))
  · refine (hconsec.get_eq _ (by simp)).trans ((State.get_put_same (s.set1 _) _ _ (by simp)).trans ((Nat.mod_eq_of_lt (satInc_lt _ _)).trans ?_))
    exact congrArg (satInc _) (hset.get_eq _ (by simp))
  · refine (State.get_put_same ((s.set1 _).incSat _) _ _ (by simp)).trans ((Nat.mod_eq_of_lt (satInc_lt _ _)).trans ?_)
    exact congrArg (satInc _) ((hcnt.get_eq _ (by simp)).trans (hset.get_eq _ (by simp)))

theorem loopAbandon_abandons (hstate : s.lpState p = 3) (hrun : (s.loop.get p).running = true) (hat : (s.loop.get p).deadline ≤ s.epoch) :
    ∃ t, exec (.loopAbandon p) s = .next t ∧ t.lpState p = (if s.flag (F.LP_CTRL_EN p) then 2 else 1) ∧
      t.get (F.LP_STICKY_OVERRUN p) = 1 ∧ t.get (F.LP_OVR_CNT_CNT p) = satInc (F.LP_OVR_CNT_CNT p).len (s.get (F.LP_OVR_CNT_CNT p)) ∧
      t.get (F.LP_STATUS_OVR_CONSEC p) = satInc (F.LP_STATUS_OVR_CONSEC p).len (s.get (F.LP_STATUS_OVR_CONSEC p)) ∧
      (t.loop.get p).running = false ∧ (t.loop.get p).prevAb = true ∧
      (t.get (F.LP_STATUS_OVR_CONSEC p) = 3 → t.raised = s.raised ++ [⟨FS.LOOP_OVERRUN p, 0⟩]) ∧
      (t.get (F.LP_STATUS_OVR_CONSEC p) ≠ 3 → t.raised = s.raised) ∧
      Keeps [F.LP_STATUS_STATE p, F.LP_STATUS_HELD_REC p, F.LP_STICKY_OVERRUN p, F.LP_OVR_CNT_CNT p, F.LP_STATUS_OVR_CONSEC p]
        [.loop, .raised] s t := by
  obtain ⟨hsticky, hcnt, hconsec, hover⟩ := s.overrun_facts p
  obtain ⟨hended, hdone⟩ := (s.overrun p).execDone_facts p
  rw [hover.flag_eq (F.LP_CTRL_EN p) (by simp)] at hended
  have hend : Keeps [F.LP_STATUS_HELD_REC p, F.LP_STATUS_STATE p] [.loop] (s.overrun p) (s.abandoned p) :=
    .beside' (.after (State.execDone_keeps ..) (.refl _ _ _))
  have hlast : Keeps [] [.raised] (s.abandoned p) (s.loopAbandon p) := by
    rw [s.loopAbandon_eq p]
    exact .ite' (.raise' (.refl _ _ _)) (.refl _ _ _)
  have hloop : (s.loopAbandon p).loop.get p = { ((s.overrun p).execDone p).loop.get p with prevAb := true } :=
    (congrArg (SMap.get · (p : Nat)) (hlast.2 .loop (by decide))).trans (SMap.get_set_same _ _ _)
  have hraised : (s.abandoned p).raised = s.raised := (hend.2 .raised (by decide)).trans (hover.2 .raised (by decide))
  have hconsec' := hlast.get_eq (F.LP_STATUS_OVR_CONSEC p) (by simp)
  refine ⟨_, exec_loopAbandon hstate hrun hat, (hlast.get_eq _ (by simp)).trans hended,
    (hlast.get_eq _ (by simp)).trans ((hend.get_eq _ (by simp)).trans hsticky), (hlast.get_eq _ (by simp)).trans ((hend.get_eq _ (by simp)).trans hcnt),
    hconsec'.trans ((hend.get_eq _ (by simp)).trans hconsec), ?_, ?_, fun h => ?_, fun h => ?_,
    .after hlast (.after hend (.after hover (.refl _ _ s)))⟩
  · rw [hloop]
    exact hdone
  · rw [hloop]
  · have hadded (t : State) : (t.raise (FS.LOOP_OVERRUN p)).raised = t.raised ++ [⟨FS.LOOP_OVERRUN p, 0⟩] := rfl
    rw [s.loopAbandon_eq p, if_pos (hconsec'.symm.trans h), hadded, hraised]
  · rw [s.loopAbandon_eq p, if_neg fun h' => h (hconsec'.trans h'), hraised]

end

/-- Settles O17: an execution starts on its group record, and commits or is abandoned at its deadline. -/
theorem loopExecutionsCommitOrAreAbandoned : Obligations.LoopExecutionsCommitOrAreAbandoned :=
  fun _ _ => ⟨fun _ hr hwait => loopExecStart_starts hr hwait, fun _ => loopCommit_commits, loopAbandon_abandons⟩

end Sys2Proof.Machine
end

section
/-!
Proofs about streams, rings and line cycles (chapter 4).
The proofs are elaborated in turn: in one text, proofs that wait for each other would each hold a thread.
-/

set_option Elab.async false

namespace Sys2Proof.Machine

/-! # O13: streams, rings and line cycles (chapter 4) -/

theorem State.deliver_keeps (s : State) (bases : List ℕ) (off : ℕ) (ws : List ℕ) :
    Keeps [] [.mem] s (s.deliver bases off ws) :=
  .forEach' (.refl _ _ _) (fun _ _ => .wrBytes' (.refl _ _ _))


@[simp] theorem State.modCh_get_same (s : State) (k : Nat) (f : ChState → ChState) : (s.modCh k f).sens.ch.get k = f (s.sens.ch.get k) :=
  SMap.get_set_same _ _ _

theorem State.modCh_get_other (s : State) {k j : Nat} (f : ChState → ChState) (h : j ≠ k) : (s.modCh k f).sens.ch.get j = s.sens.ch.get j :=
  SMap.get_set_ne _ _ _ _ h

theorem State.modSide_get_same (s : State) (grid : Bool) (f : SideState → SideState) :
    (s.modSide grid f).sens.side.get (b2n grid) = f (s.sens.side.get (b2n grid)) := SMap.get_set_same _ _ _

theorem sideBlk_rejectSrc (grid : Bool) : (sideBlk grid).rejectSrc = some FS.SENS_CFG := by cases grid <;> rfl

/-! ### Ring enable and disable (R135, R141, R142) -/

section
variable {s : State} {k : Fin 26} {i : Initiator}

theorem ringEnable_starts (hfree : (s.sens.ch.get k).claim = 0) (hoff : s.ringOn k = false) (hadmit : s.ringRefused k = false) :
    ∃ t, exec (.ringEnable i k) s = .next t ∧ t.get (F.CH_RING_CTRL_EN k) = 1 ∧ t.rd (R.CH_RING_WR k) = 0#32 ∧
      (t.sens.ch.get k).entries = [] ∧ (t.sens.ch.get k).samples = 0 ∧
      Keeps [F.CH_RING_CTRL_EN k, whole (R.CH_RING_WR k)] [.sens] s t := by
  have hexec : exec (.ringEnable i k) s = .next (s.ringStart k) := by
    refine congrArg Host.Outcome.next ?_
    rw [State.ringEnable, if_neg (by simp [hfree]), if_neg (by simp [hoff]), if_neg (by simp [hadmit])]
  refine ⟨_, hexec, ?_, State.rd_wr_same (s.put _ 1) _ _, congrArg ChState.entries (State.modCh_get_same ..),
    congrArg ChState.samples (State.modCh_get_same ..), .beside' (.wr' (.put' (.refl _ _ s)))⟩
  exact (State.get_wr_other (s.put (F.CH_RING_CTRL_EN k) 1) _ _ _ (by simp)).trans (State.get_put_same s _ _ (by simp))

theorem ringEnable_refused (hfree : (s.sens.ch.get k).claim = 0) (hoff : s.ringOn k = false) (hadmit : s.ringRefused k = true) :
    ∃ t, exec (.ringEnable i k) s = .next t ∧ Refused (sideBlk (chGrid k)) FS.SENS_CFG s t := by
  have hexec : exec (.ringEnable i k) s = .next (s.cfgReject (sideBlk (chGrid k))) := by
    refine congrArg Host.Outcome.next ?_
    rw [State.ringEnable, if_neg (by simp [hfree]), if_neg (by simp [hoff]), if_pos hadmit]
  exact ⟨_, hexec, s.cfgReject_refused _ _ (sideBlk_rejectSrc _)⟩

theorem ring_claimed (hclaim : (s.sens.ch.get k).claim ≠ 0) : exec (.ringEnable i k) s = exec (.ringDisable i k) s ∧
    ∃ t, exec (.ringDisable i k) s = .next t ∧ Refused (sideBlk (chGrid k)) FS.SENS_CFG s t := by
  have hon : exec (.ringEnable i k) s = .next (s.cfgReject (sideBlk (chGrid k))) := congrArg Host.Outcome.next (if_pos hclaim)
  have hoff : exec (.ringDisable i k) s = .next (s.cfgReject (sideBlk (chGrid k))) := congrArg Host.Outcome.next (if_pos hclaim)
  exact ⟨hon.trans hoff.symm, _, hoff, s.cfgReject_refused _ _ (sideBlk_rejectSrc _)⟩

theorem ringDisable_stops (hfree : (s.sens.ch.get k).claim = 0) : ∃ t, exec (.ringDisable i k) s = .next t ∧ t.get (F.CH_RING_CTRL_EN k) = 0 ∧
    (t.sens.ch.get k).entries = [] ∧ Keeps [F.CH_RING_CTRL_EN k] [.sens] s t :=
  ⟨_, congrArg Host.Outcome.next (if_neg (by simp [hfree])), State.get_put_same s _ _ (by simp), congrArg ChState.entries (State.modCh_get_same ..),
    .beside' (.put' (.refl _ _ s))⟩

end

/-! ### Stream samples (R137, R138, Table SENS-7) -/

theorem b2n_le (b : Bool) : b2n b ≤ 1 := by cases b <;> decide

theorem codeBits_lt (k : Nat) (c : Int) : codeBits k c < 65536 := by
  unfold codeBits unsignedOf
  generalize (if single k = true then c + 32768 else c) = v
  have h := Int.emod_lt_of_pos v (show (0 : Int) < ((2 ^ 16 : Nat) : Int) by decide)
  have h0 := Int.emod_nonneg v (show ((2 ^ 16 : Nat) : Int) ≠ 0 by decide)
  omega

/-- The fields of an entry: its code and its index. -/
theorem State.streamEntry_fields (s : State) (k : Nat) (d : Rat) (lo hi index : Nat) (first mark : Bool) :
    bitsOf (s.streamEntry k d lo hi index first mark).1.toNat 0 16 = codeBits k (s.codeOf k d).1 ∧
    bitsOf (s.streamEntry k d lo hi index first mark).1.toNat 20 8 = index % 256 := by
  have hcode := codeBits_lt k (s.codeOf k d).1
  have h1 := b2n_le (s.ovlMeets k lo hi)
  have h2 := b2n_le (s.refDist k lo hi)
  have h3 := b2n_le mark
  have h4 := b2n_le (s.codeOf k d).2
  have h5 := b2n_le first
  have h6 := b2n_le (!s.flag (calValidF k))
  unfold State.streamEntry bitsOf w32
  dsimp only
  rw [BitVec.toNat_ofNat]
  constructor <;> omega

section
variable {s : State} {k : Fin 26} {bits : Nat}

theorem streamP_pos {code : Nat} (hlo : 2 ≤ code) (hhi : code ≤ 7) : streamP code ≠ 0 := by
  interval_cases code <;> decide

theorem streamSample_fixed {p n : Nat} (hon : s.ringOn k = true) (hcont : s.chContinuous k = true) (hlo : 2 ≤ s.get (F.CH_CFG_STREAM k))
    (hhi : s.get (F.CH_CFG_STREAM k) ≤ 7) (hp : p = streamP (s.get (F.CH_CFG_STREAM k))) (hn : n = (s.sens.ch.get k).nextT) (hdue : n ≤ s.epoch) :
    ∃ t e, exec (.streamSample k bits) s = .next t ∧ (t.sens.ch.get k).entries = (s.sens.ch.get k).entries ++ [e] ∧
      bitsOf e.toNat 0 16 = codeBits k (s.codeOf k ((s.tickSum k (n - 3 * p) (3 * p) (sincW p) bits : Rat) / ((p ^ 3 : Nat) : Rat))).1 ∧
      bitsOf e.toNat 20 8 = (s.sens.ch.get k).samples % 256 ∧
      (t.sens.ch.get k).samples = (s.sens.ch.get k).samples + 1 ∧ (t.sens.ch.get k).nextT = n + p ∧ Keeps [] [.sens] s t := by
  have hexec : exec (.streamSample k bits) s = .next (s.fixedSample k p bits) := by
    change execStreamSample k bits s = _
    unfold execStreamSample
    dsimp only
    rw [if_neg (by simp [hon, hcont]), if_neg (by omega), if_neg (by rw [← hn]; exact fun h => h.elim (streamP_pos hlo hhi) (by omega)), ← hp]
  obtain ⟨hcode, hindex⟩ := s.streamEntry_fields k ((s.tickSum k (n - 3 * p) (3 * p) (sincW p) bits : Rat) / ((p ^ 3 : Nat) : Rat)) (n - 3 * p) n
    (s.sens.ch.get k).samples false ((s.sens.ch.get k).marks.any fun m => n ≤ m + p && m < n)
  subst hn
  refine ⟨_, _, hexec, ?_, hcode, hindex, ?_, ?_, .beside' (.refl _ _ s)⟩
  · exact congrArg ChState.entries (State.modCh_get_same ..)
  · exact congrArg ChState.samples (State.modCh_get_same ..)
  · exact congrArg ChState.nextT (State.modCh_get_same ..)

theorem streamSample_line {a b j : Nat} (hon : s.ringOn k = true) (hcont : s.chContinuous k = true) (hline : s.get (F.CH_CFG_STREAM k) = 1)
    (hnext : s.lineNext k = some (a, b, j)) (hdue : subStart a b (j + 1) ≤ s.epoch) :
    ∃ t e, exec (.streamSample k bits) s = .next t ∧ (t.sens.ch.get k).entries = (s.sens.ch.get k).entries ++ [e] ∧
      bitsOf e.toNat 20 8 = j % 256 ∧ (t.sens.ch.get k).llStart = a ∧ (t.sens.ch.get k).llEnd = b ∧ (t.sens.ch.get k).llNext = j + 1 ∧
      Keeps [] [.sens] s t := by
  have hexec : exec (.streamSample k bits) s = .next (s.lineSample k (a, b, j) bits) := by
    change execStreamSample k bits s = _
    unfold execStreamSample
    dsimp only
    rw [if_neg (by simp [hon, hcont]), if_pos hline, hnext]
    exact if_pos hdue
  refine ⟨_, _, hexec, congrArg ChState.entries (State.modCh_get_same ..), (s.streamEntry_fields ..).2, ?_, ?_, ?_, .beside' (.refl _ _ s)⟩
  · exact congrArg ChState.llStart (State.modCh_get_same ..)
  · exact congrArg ChState.llEnd (State.modCh_get_same ..)
  · exact congrArg ChState.llNext (State.modCh_get_same ..)

end

/-! ### Ring entries in memory (R142, R143) -/

theorem memHome_injective_near {a i j : Nat} (hi : i < 4) (hj : j < 4) (h : memHome (a + i) = memHome (a + j)) : i = j := by
  unfold memHome at h
  split_ifs at h <;> omega

/-- A word reads back wherever it was written. -/
theorem State.rdW_wrW_any (s : State) (a : Nat) (v : Word) : (s.wrW a v).rdW a = v := by
  have hne {i j : Nat} (hi : i < 4) (hj : j < 4) (hij : i ≠ j) : ¬memHome (a + i) = memHome (a + j) := fun h => hij (memHome_injective_near hi hj h)
  have h01 := hne (i := 0) (j := 1) (by decide) (by decide) (by decide)
  have h02 := hne (i := 0) (j := 2) (by decide) (by decide) (by decide)
  have h03 := hne (i := 0) (j := 3) (by decide) (by decide) (by decide)
  have h12 := hne (i := 1) (j := 2) (by decide) (by decide) (by decide)
  have h13 := hne (i := 1) (j := 3) (by decide) (by decide) (by decide)
  have h23 := hne (i := 2) (j := 3) (by decide) (by decide) (by decide)
  rw [Nat.add_zero] at h01 h02 h03
  have hlt := v.isLt
  apply BitVec.eq_of_toNat_eq
  simp only [State.rdW_eq, State.wrW_eq, State.rdB_wrB, w32, BitVec.toNat_ofNat, h01, h02, h03, h12, h13, h23, if_true, if_false]
  omega

theorem State.rdB_wrW_away (s : State) {a b : Nat} (v : Word) (h : ∀ j, j < 4 → memHome b ≠ memHome (a + j)) : (s.wrW a v).rdB b = s.rdB b := by
  have h0 : memHome b ≠ memHome a := h 0 (by decide)
  rw [State.wrW_eq, State.rdB_wrB, if_neg (h 3 (by decide)), State.rdB_wrB, if_neg (h 2 (by decide)), State.rdB_wrB, if_neg (h 1 (by decide)),
    State.rdB_wrB, if_neg h0]

section
variable {s : State} {k : Fin 26}

/-- The entry is written and RING_WR advances. -/
def State.ringPut (s : State) (k : Nat) (e : Word) : State :=
  ((s.modCh k fun c => { c with entries := c.entries.tail }).wrW
    ((s.rd (R.CH_RING_BASE k)).toNat + 4 * ((s.rd (R.CH_RING_WR k)).toNat % 2 ^ s.get (F.CH_RING_CTRL_SIZE_LOG2 k))) e).wr
      (R.CH_RING_WR k) (w32 ((s.rd (R.CH_RING_WR k)).toNat + 1))

/-- An entry that no read made room for marks the ring. -/
theorem State.ringWrite_after (s : State) (k : Nat) (e : Word) :
    Keeps [F.CH_STATUS_STREAM_OVF k, F.SENSP_STICKY_STREAM_OVF, F.SENSG_STICKY_STREAM_OVF] [] (s.ringPut k e) (s.ringWrite k e) := by
  have hside : sideF (chGrid k) F.SENSP_STICKY_STREAM_OVF F.SENSG_STICKY_STREAM_OVF ∈
      [F.CH_STATUS_STREAM_OVF k, F.SENSP_STICKY_STREAM_OVF, F.SENSG_STICKY_STREAM_OVF] := by
    unfold sideF
    split <;> simp
  exact .ite' (.set1' (.set1' (.refl _ _ _)) hside) (.refl _ _ _)

theorem streamRingWrite_writes {e : Word} {rest : List Word} (hentries : (s.sens.ch.get k).entries = e :: rest) :
    ∃ t, exec (.streamRingWrite k) s = .next t ∧ (t.sens.ch.get k).entries = rest ∧
      t.rd (R.CH_RING_WR k) = s.rd (R.CH_RING_WR k) + 1#32 ∧
      t.rdW ((s.rd (R.CH_RING_BASE k)).toNat + 4 * ((s.rd (R.CH_RING_WR k)).toNat % 2 ^ s.get (F.CH_RING_CTRL_SIZE_LOG2 k))) = e ∧
      (∀ a, (∀ j, j < 4 → memHome a ≠ memHome ((s.rd (R.CH_RING_BASE k)).toNat +
          4 * ((s.rd (R.CH_RING_WR k)).toNat % 2 ^ s.get (F.CH_RING_CTRL_SIZE_LOG2 k)) + j)) → t.rdB a = s.rdB a) ∧
      Keeps [whole (R.CH_RING_WR k), F.CH_STATUS_STREAM_OVF k, F.SENSP_STICKY_STREAM_OVF, F.SENSG_STICKY_STREAM_OVF] [.sens, .mem] s t := by
  have hexec : exec (.streamRingWrite k) s = .next (s.ringWrite k e) := by
    change execStreamRingWrite k s = _
    unfold execStreamRingWrite
    rw [hentries]
  have hafter := s.ringWrite_after k e
  have hbyte (a : Nat) : (s.ringWrite k e).rdB a = (s.ringPut k e).rdB a := (hafter.2 .mem (by decide)).1 a
  have hput : Keeps [whole (R.CH_RING_WR k)] [.sens, .mem] s (s.ringPut k e) := .wr' (.wrW' (.beside' (.refl _ _ s)))
  have hsens : (s.ringPut k e).sens = (s.modCh k fun c => { c with entries := c.entries.tail }).sens := rfl
  refine ⟨_, hexec, ?_, ?_, ?_, fun a ha => ?_, .after hafter (.after hput (.refl _ _ s))⟩
  · rw [hafter.2 .sens (by decide), hsens, State.modCh_get_same, hentries]
    rfl
  · refine (hafter.rd_eq _ ?_).trans ((State.rd_wr_same _ _ _).trans ?_)
    · have hk := k.isLt
      simp [whole]
      split <;> omega
    · apply BitVec.eq_of_toNat_eq
      simp [w32]
  · exact (State.rdW_congr fun j _ => hbyte _).trans (State.rdW_wrW_any _ _ e)
  · exact (hbyte a).trans (State.rdB_wrW_away _ e ha)

end

/-! ### Announcements (R146, R147) -/

section
variable {s : State} {grid : Bool}

/-- The oldest announcement has been taken. -/
def State.annTaken (s : State) (grid : Bool) (rest : List Announce) : State := s.modSide grid fun d => { d with ann := rest }

theorem State.annTaken_side (s : State) (grid : Bool) (rest : List Announce) :
    (s.annTaken grid rest).sens.side.get (b2n grid) = { s.sens.side.get (b2n grid) with ann := rest } := State.modSide_get_same ..

theorem State.annTaken_kept (s : State) (grid : Bool) (rest : List Announce) :
    ((s.annTaken grid rest).sens.side.get (b2n grid)).opened = (s.sens.side.get (b2n grid)).opened ∧
    ((s.annTaken grid rest).sens.side.get (b2n grid)).gapFrom = (s.sens.side.get (b2n grid)).gapFrom := by
  rw [State.annTaken_side]
  exact ⟨rfl, rfl⟩

theorem lcAnnounce_takes {ci cn : Nat} {rest : List Announce} (hann : (s.sens.side.get (b2n grid)).ann = ⟨some ci, cn⟩ :: rest)
    (hon : s.pdOn (sidePd grid) = true) (htime : s.epoch ≤ ci + 64) :
    ∃ t, exec (.lcAnnounceReceive grid) s = .next t ∧ (t.sens.side.get (b2n grid)).ann = rest ∧
      (t.sens.side.get (b2n grid)).opened = (s.sens.side.get (b2n grid)).opened ++ [(ci, cn)] ∧
      (t.sens.side.get (b2n grid)).gapFrom = cn ∧
      (t.rd (if grid then R.SENSG_LC_GAP else R.SENSP_LC_GAP)).toNat =
        min ((s.rd (if grid then R.SENSG_LC_GAP else R.SENSP_LC_GAP)).toNat + (ci - (s.sens.side.get (b2n grid)).gapFrom)) 0xFFFFFFFF ∧
      Keeps [whole (if grid then R.SENSG_LC_GAP else R.SENSP_LC_GAP)] [.sens] s t := by
  have hon' : (s.annTaken grid rest).pdOn (sidePd grid) = true := hon
  have hexec : exec (.lcAnnounceReceive grid) s = .next (((s.annTaken grid rest).wr (lcGapR grid)
      (w32 (satTo 32 (((s.annTaken grid rest).rd (lcGapR grid)).toNat + (ci - ((s.annTaken grid rest).sens.side.get (b2n grid)).gapFrom))))).modSide grid
        fun d => { d with gapFrom := cn, opened := d.opened ++ [(ci, cn)], recent := ((ci, cn) :: d.recent).take 16 }) := by
    change execLcAnnounceReceive grid s = _
    unfold execLcAnnounceReceive
    rw [hann]
    dsimp only
    rw [← State.annTaken, if_neg (by simp [hon'])]
    exact if_neg (Nat.not_lt.2 htime)
  have hside := s.annTaken_side grid rest
  refine ⟨_, hexec, ?_, ?_, ?_, ?_, .beside' (.wr' (.beside' (.refl _ _ s)) (List.mem_singleton_self _))⟩
  · rw [State.modSide_get_same]
    exact congrArg SideState.ann hside
  · rw [State.modSide_get_same]
    exact congrArg (· ++ [(ci, cn)]) (s.annTaken_kept grid rest).1
  · rw [State.modSide_get_same]
  · refine (congrArg BitVec.toNat (State.rd_wr_same (s.annTaken grid rest) _ _)).trans ?_
    rw [(s.annTaken_kept grid rest).2, w32, BitVec.toNat_ofNat]
    exact Nat.mod_eq_of_lt (by unfold satTo; omega)

theorem lcAnnounce_late {ci cn : Nat} {rest : List Announce} (hann : (s.sens.side.get (b2n grid)).ann = ⟨some ci, cn⟩ :: rest)
    (hon : s.pdOn (sidePd grid) = true) (hlate : ci + 64 < s.epoch) :
    ∃ t, exec (.lcAnnounceReceive grid) s = .next t ∧ (t.sens.side.get (b2n grid)).ann = rest ∧
      (t.sens.side.get (b2n grid)).opened = (s.sens.side.get (b2n grid)).opened ∧
      t.get (if grid then F.SENSG_STICKY_LC_LATE else F.SENSP_STICKY_LC_LATE) = 1 ∧
      Keeps [if grid then F.SENSG_STICKY_LC_LATE else F.SENSP_STICKY_LC_LATE] [.sens] s t := by
  have hon' : (s.annTaken grid rest).pdOn (sidePd grid) = true := hon
  have hexec : exec (.lcAnnounceReceive grid) s = .next ((s.annTaken grid rest).set1 (if grid then F.SENSG_STICKY_LC_LATE else F.SENSP_STICKY_LC_LATE)) := by
    change execLcAnnounceReceive grid s = _
    unfold execLcAnnounceReceive
    rw [hann]
    dsimp only
    rw [← State.annTaken, if_neg (by simp [hon'])]
    exact if_pos hlate
  have hside := s.annTaken_side grid rest
  refine ⟨_, hexec, congrArg SideState.ann hside, (s.annTaken_kept grid rest).1, ?_, .set1' (.beside' (.refl _ _ s))⟩
  cases grid <;> exact State.get_put_same (s.annTaken _ rest) _ _ (by decide)

end

/-! ### The end of a line cycle (R147) -/

/-- What a channel's sum over ticks reads. -/
structure SumView (s t : State) : Prop where
  clk : t.clk = s.clk
  epoch : t.epoch = s.epoch
  ovl : ∀ j, (t.sens.ch.get j).ovl = (s.sens.ch.get j).ovl

theorem SumView.tickSum {s t : State} (h : SumView s t) (k lo n : Nat) (w : Nat → Nat) (bits : Nat) : t.tickSum k lo n w bits = s.tickSum k lo n w bits := by
  obtain ⟨hclk, hepoch, hovl⟩ := h
  have hat (b : Bool) (m : Nat) : t.sAt k b m = s.sAt k b m := by
    unfold State.sAt
    dsimp only
    rw [hovl]
  have hphase : t.modPhase lo = s.modPhase lo := by
    unfold State.modPhase
    rw [hclk, hepoch]
  unfold State.tickSum
  simp only [hat, hphase]

theorem sideChs_nodup (grid : Bool) : (sideChs grid).Nodup := by cases grid <;> decide

theorem sideChs_lt {grid : Bool} {k : Nat} (h : k ∈ sideChs grid) : k < 26 := by
  cases grid <;> simp [sideChs] at h <;> omega

section
variable {s : State} {grid : Bool}

/-- Every channel that ran closes its integral. -/
def State.lcClosed (s : State) (grid : Bool) (a b : Nat) (bits : List Nat) : State :=
  s.forEach ((sideChs grid).filter (s.chRan · a)) fun t k =>
    t.modCh k fun c => { c with lcRec := some (t.lcOf k a b (s.sens.side.get (b2n grid)).seq (bits.getD k 0)) }

/-- The cycle is taken from those that wait. -/
def State.lcTaken (s : State) (grid : Bool) : State := s.modSide grid fun d => { d with opened := d.opened.tail, seq := (d.seq + 1) % 65536 }

theorem State.lcEnd_eq (s : State) (grid : Bool) (a b : Nat) (bits : List Nat) : s.lcEnd grid a b bits =
    if grid then ((s.lcClosed grid a b bits).lcTaken grid).meterCycle a b else (s.lcClosed grid a b bits).lcTaken grid := rfl

theorem State.lcClosed_frame (s : State) (grid : Bool) (a b : Nat) (bits : List Nat) : Keeps [] [.sens] s (s.lcClosed grid a b bits) :=
  State.forEach_inv (P := Keeps [] [.sens] s) (fun _ _ _ ht => .beside' ht) _ (.refl _ _ s)

theorem State.lcClosed_side (s : State) (grid : Bool) (a b : Nat) (bits : List Nat) : (s.lcClosed grid a b bits).sens.side = s.sens.side := by
  unfold State.lcClosed
  refine State.forEach_inv (P := fun t => t.sens.side = s.sens.side) (fun k _ t ht => ?_) _ rfl
  exact ht

theorem SumView.modCh {s t : State} (h : SumView s t) (k : Nat) (f : ChState → ChState) (hf : (f (t.sens.ch.get k)).ovl = (t.sens.ch.get k).ovl) :
    SumView s (t.modCh k f) where
  clk := h.clk
  epoch := h.epoch
  ovl j := by
    by_cases hj : j = k
    · subst hj
      rw [State.modCh_get_same, hf]
      exact h.ovl j
    · rw [State.modCh_get_other _ _ hj]
      exact h.ovl j

/-- The record of a channel that ran over the whole cycle. -/
theorem State.lcClosed_record (s : State) {grid : Bool} {a b : Nat} {bits : List Nat} {k : Nat} (hk : k ∈ (sideChs grid).filter (s.chRan · a)) :
    ∃ r, ((s.lcClosed grid a b bits).sens.ch.get k).lcRec = some r ∧ r.count = s.tickSum k a (b - a) (fun _ => 1) (bits.getD k 0) ∧ r.len = b - a ∧
      r.start = a % 2 ^ 32 := by
  refine State.forEach_at (P := SumView s) (Q := fun t => ∃ r, (t.sens.ch.get k).lcRec = some r ∧
    r.count = s.tickSum k a (b - a) (fun _ => 1) (bits.getD k 0) ∧ r.len = b - a ∧ r.start = a % 2 ^ 32)
    ((sideChs_nodup grid).filter _) hk (fun j _ _ t ht => ht.modCh _ _ rfl) (fun t ht => ?_) (fun j _ hjk t ht => ?_) s ⟨rfl, rfl, fun _ => rfl⟩
  · exact ⟨_, congrArg ChState.lcRec (State.modCh_get_same ..), ht.tickSum _ _ _ _ _, rfl, rfl⟩
  · obtain ⟨r, hr, hfacts⟩ := ht
    exact ⟨r, (congrArg ChState.lcRec (State.modCh_get_other _ _ (Ne.symm hjk))).trans hr, hfacts⟩

theorem lcCycle_ends {a b : Nat} {rest : List (Nat × Nat)} {bits : List Nat} (hopened : (s.sens.side.get (b2n grid)).opened = (a, b) :: rest)
    (hdue : b ≤ s.epoch) :
    ∃ t, exec (.lcCycleEnd grid bits) s = .next t ∧ (t.sens.side.get (b2n grid)).opened = rest ∧
      (∀ k : Fin 26, (k : Nat) ∈ sideChs grid → (k : Nat) ≠ 15 → s.chContinuous k = true → (s.sens.ch.get k).contFrom ≤ a →
        ∃ r, (t.sens.ch.get k).lcRec = some r ∧ r.count = s.tickSum k a (b - a) (fun _ => 1) (bits.getD k 0) ∧ r.len = b - a ∧
          r.start = a % 2 ^ 32) ∧
      (grid = false → t.meter = s.meter) ∧ Keeps [] [.sens, .meter] s t := by
  have hexec : exec (.lcCycleEnd grid bits) s = .next (s.lcEnd grid a b bits) := by
    change execLcCycleEnd grid bits s = _
    unfold execLcCycleEnd
    rw [hopened]
    exact if_pos hdue
  have hclosed := s.lcClosed_frame grid a b bits
  have htaken : Keeps [] [.sens] (s.lcClosed grid a b bits) ((s.lcClosed grid a b bits).lcTaken grid) := .beside' (.refl _ _ _)
  have hmeter : Keeps [] [.meter] ((s.lcClosed grid a b bits).lcTaken grid) (s.lcEnd grid a b bits) := by
    rw [s.lcEnd_eq]
    exact .ite' (.ite' (.beside' (.refl _ _ _)) (.refl _ _ _)) (.refl _ _ _)
  have hsens := hmeter.2 .sens (by decide)
  refine ⟨_, hexec, ?_, fun k hside h15 hcont hfrom => ?_, fun hgrid => ?_, .after hmeter (.after htaken (.after hclosed (.refl _ _ s)))⟩
  · rw [hsens, State.lcTaken, State.modSide_get_same, s.lcClosed_side, hopened]
    rfl
  · rw [hsens]
    refine s.lcClosed_record (List.mem_filter.2 ⟨hside, ?_⟩)
    simp [State.chRan, h15, hcont, hfrom]
  · rw [s.lcEnd_eq, if_neg (by simp [hgrid])]
    exact (htaken.2 .meter (by decide)).trans (hclosed.2 .meter (by decide))

end

/-! ### The records' delivery (R149, R364) -/

/-- An address outside the line-cycle part of every delivery area. -/
def OffLcAreas (a : Nat) : Prop := (∀ p : Fin 6, a < tcmBase p + 0xFC00 ∨ tcmBase p + 0xFDA0 ≤ a) ∧ (a < spBase + 0xFC00 ∨ spBase + 0xFDA0 ≤ a)

theorem memHome_off_area {a base : Nat} (hbase : 0x30000000 ≤ base) (h : a < base + 0xFC00 ∨ base + 0xFDA0 ≤ a) :
    memHome a < base + 0xFC00 ∨ base + 0xFDA0 ≤ memHome a := by
  unfold memHome
  split <;> omega

/-- A delivery area that DEST names. -/
theorem State.destBases_area {s : State} {dest b : Nat} (h : b ∈ s.destBases dest) {a : Nat} (ha : OffLcAreas a) :
    0x30000000 ≤ b ∧ (a < b + 0xFC00 ∨ b + 0xFDA0 ≤ a) := by
  obtain ⟨hpairs, hsp⟩ := ha
  unfold State.destBases at h
  rw [List.mem_append] at h
  rcases h with h | h
  · obtain ⟨p, hp, rfl⟩ := List.mem_map.1 h
    have hp6 : p < 6 := lt_of_mem_maskIdx (List.mem_filter.1 hp).1
    exact ⟨by unfold tcmBase; omega, hpairs ⟨p, hp6⟩⟩
  · split at h
    · obtain rfl := List.mem_singleton.1 h
      exact ⟨by decide, hsp⟩
    · cases h

section
variable (t : State) {k : Nat} (r : LcRec)

/-- The record is delivered and stands in the channel's registers. -/
def State.lcNoted (s : State) (k : Nat) (r : LcRec) : State :=
  let s := s.deliver (s.destBases (s.get (F.CH_CFG_DEST k))) (0xFC00 + 0x10 * k) [unsignedOf 32 r.count, r.len, r.start, r.flags]
  let s := ((s.wr (R.CH_LC_COUNT k) (w32 (unsignedOf 32 r.count))).wr (R.CH_LC_LEN k) (w32 r.len)).wr (R.CH_LC_FLAGS k) (w32 r.flags)
  s.modCh k fun c => { c with lcRec := none }

theorem State.lcDeliverCh_eq : t.lcDeliverCh k r =
    if 20 ≤ k ∧ k < 20 + topoPhases (t.lcNoted k r).gridTopo then (t.lcNoted k r).dcUpdate (k - 20) r.count r.len r.flags else t.lcNoted k r := rfl

theorem State.deliver_frame (bases : List Nat) (off : Nat) (ws : List Nat) : Keeps [] [.mem] t (t.deliver bases off ws) := (.after (State.deliver_keeps ..) (.refl _ _ _))

theorem State.deliver_bytes {dest : Nat} {ws : List Nat} (hws : ws.length = 4) (hk : k < 26) {a : Nat} (ha : OffLcAreas a) :
    (t.deliver (t.destBases dest) (0xFC00 + 0x10 * k) ws).rdB a = t.rdB a := by
  refine State.forEach_inv (P := fun u => u.rdB a = t.rdB a) (fun b hb u hu => ?_) t rfl
  obtain ⟨hbase, hoff⟩ := State.destBases_area hb ha
  have hhome := memHome_off_area hbase hoff
  refine (State.rdB_wrBytes_other _ (by omega) ?_).trans hu
  rw [length_numbers, hws]
  omega

theorem State.lcNoted_frame : Keeps [whole (R.CH_LC_COUNT k), whole (R.CH_LC_LEN k), whole (R.CH_LC_FLAGS k)] [.mem, .sens] t (t.lcNoted k r) :=
  .beside' (.wr' (.wr' (.wr' (.after (State.deliver_frame ..) (.refl _ _ t)))))

theorem State.lcNoted_bytes (hk : k < 26) {a : Nat} (ha : OffLcAreas a) : (t.lcNoted k r).rdB a = t.rdB a :=
  (State.rdB_congr rfl a).trans (t.deliver_bytes (dest := t.get (F.CH_CFG_DEST k)) rfl hk ha)

theorem State.lcNoted_lcRec : ((t.lcNoted k r).sens.ch.get k).lcRec = none ∧
    ∀ j, j ≠ k → ((t.lcNoted k r).sens.ch.get j).lcRec = (t.sens.ch.get j).lcRec := by
  have hdeliver : (t.deliver (t.destBases (t.get (F.CH_CFG_DEST k))) (0xFC00 + 0x10 * k) [unsignedOf 32 r.count, r.len, r.start, r.flags]).sens = t.sens :=
    (State.deliver_frame ..).2 .sens (by decide)
  refine ⟨congrArg ChState.lcRec (State.modCh_get_same ..), fun j hj => (congrArg ChState.lcRec (State.modCh_get_other _ _ hj)).trans ?_⟩
  exact congrArg (fun d : SensState => (d.ch.get j).lcRec) hdeliver

theorem State.lcNoted_regs : (t.lcNoted k r).rd (R.CH_LC_COUNT k) = BitVec.ofInt 32 r.count ∧ (t.lcNoted k r).rd (R.CH_LC_LEN k) = BitVec.ofNat 32 r.len := by
  have hkept (f : ChState → ChState) (u : State) (a : Nat) : (u.modCh k f).rd a = u.rd a := rfl
  have hcount : w32 (unsignedOf 32 r.count) = BitVec.ofInt 32 r.count := by
    apply BitVec.eq_of_toNat_eq
    simp only [w32, unsignedOf, BitVec.toNat_ofNat, BitVec.toNat_ofInt]
    omega
  unfold State.lcNoted
  dsimp only
  rw [hkept, hkept, State.rd_wr_other _ _ _ _ (by simp), State.rd_wr_other _ _ _ _ (by simp), State.rd_wr_same, State.rd_wr_other _ _ _ _ (by simp),
    State.rd_wr_same, hcount]
  exact ⟨rfl, rfl⟩

theorem State.dcUpdate_reach (s : State) {p : Nat} (hp : p < 6) (count : Int) (len flags : Nat) :
    KeepsOutside [zone R.GRID_CFG] [.raised] s (s.dcUpdate p count len flags) := by
  have hdc (w : Word) (c : Prop) [Decidable c] : KeepsOutside [zone R.GRID_CFG] [.raised] s
      (if c then (s.wr (R.GRID_DC p) w).put F.GRID_STATUS_DC_OVER 1 else s.wr (R.GRID_DC p) w) :=
    .ite' (.put' (.wr' (.refl _ _ s))) (.wr' (.refl _ _ s))
  have hcnt : ∃ r ∈ [zone R.GRID_CFG], r.1 ≤ (dcCntF p).addr ∧ (dcCntF p).addr < r.2 := by simp [zone, dcCntF]
  exact .ite' (hdc _ _) (.ite' (.ite' (.stickyRaise' (.incSat' (hdc _ _) hcnt)) (.incSat' (hdc _ _) hcnt)) (.put' (hdc _ _) hcnt))

theorem State.lcDeliverCh_after (hk : k < 26) : KeepsOutside [zone R.GRID_CFG] [.raised] (t.lcNoted k r) (t.lcDeliverCh k r) := by
  rw [t.lcDeliverCh_eq]
  exact .ite' (State.dcUpdate_reach _ (by omega) ..) (.refl _ _ _)

end

section
variable {s : State} {grid : Bool}

/-- The channels whose record waits. -/
def State.lcWaiting (s : State) (grid : Bool) : List Nat := (sideChs grid).filter fun k => (s.sens.ch.get k).lcRec.isSome

/-- One channel's turn in the delivery. -/
def State.lcTurn (t : State) (k : Nat) : State :=
  match (t.sens.ch.get k).lcRec with
  | some r => t.lcDeliverCh k r
  | none => t

/-- The grid side's delivery starts from DC_OVER 0. -/
def State.lcFirst (s : State) (grid : Bool) : State := if grid && !(s.lcWaiting grid).isEmpty then s.put F.GRID_STATUS_DC_OVER 0 else s

theorem exec_lcRecordDeliver (s : State) (grid : Bool) :
    exec (.lcRecordDeliver grid) s = .next ((s.lcFirst grid).forEach (s.lcWaiting grid) State.lcTurn) := rfl

theorem State.lcFirst_frame (s : State) (grid : Bool) : Keeps [F.GRID_STATUS_DC_OVER] [] s (s.lcFirst grid) := .ite' (.put' (.refl _ _ s)) (.refl _ _ s)

theorem State.lcTurn_some {t : State} {k : Nat} {r : LcRec} (h : (t.sens.ch.get k).lcRec = some r) : t.lcTurn k = t.lcDeliverCh k r := by
  unfold State.lcTurn
  rw [h]

theorem State.lcTurn_none {t : State} {k : Nat} (h : (t.sens.ch.get k).lcRec = none) : t.lcTurn k = t := by
  unfold State.lcTurn
  rw [h]

/-- What a turn leaves to the others. -/
theorem State.lcTurn_cases (t : State) (k : Nat) : t.lcTurn k = t ∨ ∃ r, (t.sens.ch.get k).lcRec = some r ∧ t.lcTurn k = t.lcDeliverCh k r := by
  cases h : (t.sens.ch.get k).lcRec with
  | none => exact .inl (State.lcTurn_none h)
  | some r => exact .inr ⟨r, rfl, State.lcTurn_some h⟩

theorem State.lcDeliverCh_lcRec (t : State) {k : Nat} (hk : k < 26) (r : LcRec) : ((t.lcDeliverCh k r).sens.ch.get k).lcRec = none ∧
    ∀ j, j ≠ k → ((t.lcDeliverCh k r).sens.ch.get j).lcRec = (t.sens.ch.get j).lcRec := by
  rw [(t.lcDeliverCh_after r hk).2 .sens (by decide)]
  exact t.lcNoted_lcRec r

theorem State.lcTurn_other (t : State) {k j : Nat} (hk : k < 26) (hj : j ≠ k) : ((t.lcTurn k).sens.ch.get j).lcRec = (t.sens.ch.get j).lcRec := by
  obtain h | ⟨r, -, h⟩ := t.lcTurn_cases k
  · rw [h]
  · rw [h]
    exact (t.lcDeliverCh_lcRec hk r).2 j hj

theorem State.lcTurn_self (t : State) {k : Nat} (hk : k < 26) : ((t.lcTurn k).sens.ch.get k).lcRec = none := by
  cases h : (t.sens.ch.get k).lcRec with
  | none => rw [State.lcTurn_none h, h]
  | some r =>
    rw [State.lcTurn_some h]
    exact (t.lcDeliverCh_lcRec hk r).1

/-- The registers of another channel's record. -/
theorem State.lcTurn_regs (t : State) {k j : Nat} (hk : k < 26) (hj26 : j < 26) (hj : j ≠ k) : (t.lcTurn k).rd (R.CH_LC_COUNT j) = t.rd (R.CH_LC_COUNT j) ∧
    (t.lcTurn k).rd (R.CH_LC_LEN j) = t.rd (R.CH_LC_LEN j) := by
  obtain h | ⟨r, -, h⟩ := t.lcTurn_cases k
  · rw [h]
    exact ⟨rfl, rfl⟩
  · have hafter := t.lcDeliverCh_after r hk
    have hnoted := t.lcNoted_frame (k := k) r
    rw [h]
    refine ⟨(hafter.1 _ ?_).trans (hnoted.rd_eq _ ?_), (hafter.1 _ ?_).trans (hnoted.rd_eq _ ?_)⟩
    all_goals
      simp [whole, zone]
      split_ifs <;> omega

theorem State.lcTurn_own (t : State) {k : Nat} (hk : k < 26) {r : LcRec} (hr : (t.sens.ch.get k).lcRec = some r) :
    (t.lcTurn k).rd (R.CH_LC_COUNT k) = BitVec.ofInt 32 r.count ∧ (t.lcTurn k).rd (R.CH_LC_LEN k) = BitVec.ofNat 32 r.len := by
  have hafter := t.lcDeliverCh_after r hk
  obtain ⟨hcount, hlen⟩ := t.lcNoted_regs (k := k) r
  rw [State.lcTurn_some hr]
  refine ⟨(hafter.1 _ ?_).trans hcount, (hafter.1 _ ?_).trans hlen⟩
  all_goals
    simp [zone]
    split_ifs <;> omega

theorem State.lcTurn_bytes (t : State) {k : Nat} (hk : k < 26) {a : Nat} (ha : OffLcAreas a) : (t.lcTurn k).rdB a = t.rdB a := by
  obtain h | ⟨r, -, h⟩ := t.lcTurn_cases k
  · rw [h]
  · rw [h]
    exact (((t.lcDeliverCh_after r hk).2 .mem (by decide)).1 a).trans (t.lcNoted_bytes r hk ha)

theorem State.lcTurn_reach (t : State) {k : Nat} (hk : k < 26) :
    KeepsOutside [zone R.SENSP_STATUS, zone R.SENSG_STATUS, zone R.GRID_CFG] [.mem, .sens, .raised] t (t.lcTurn k) := by
  obtain h | ⟨r, -, h⟩ := t.lcTurn_cases k
  · rw [h]
    exact .refl _ _ t
  · rw [h]
    refine .after (t.lcDeliverCh_after r hk) (.after ((t.lcNoted_frame (k := k) r).toOutside (rs := [zone R.SENSP_STATUS, zone R.SENSG_STATUS]) ?_) (.refl _ _ t))
    simp [zone, whole]
    split_ifs <;> omega

theorem lcRecord_delivered (s : State) (grid : Bool) :
    ∃ t, exec (.lcRecordDeliver grid) s = .next t ∧ (∀ k : Fin 26, (k : Nat) ∈ sideChs grid → (t.sens.ch.get k).lcRec = none) ∧
      (∀ (k : Fin 26) (r : LcRec), (k : Nat) ∈ sideChs grid → (s.sens.ch.get k).lcRec = some r →
        t.rd (R.CH_LC_COUNT k) = BitVec.ofInt 32 r.count ∧ t.rd (R.CH_LC_LEN k) = BitVec.ofNat 32 r.len) ∧
      (∀ a, (∀ p : Fin 6, a < tcmBase p + 0xFC00 ∨ tcmBase p + 0xFDA0 ≤ a) → (a < spBase + 0xFC00 ∨ spBase + 0xFDA0 ≤ a) → t.rdB a = s.rdB a) ∧
      KeepsOutside [zone R.SENSP_STATUS, zone R.SENSG_STATUS, zone R.GRID_CFG] [.mem, .sens, .raised] s t := by
  have hfirst := s.lcFirst_frame grid
  have hlt {k : Nat} (hk : k ∈ s.lcWaiting grid) : k < 26 := sideChs_lt (List.mem_filter.1 hk).1
  have hnd : (s.lcWaiting grid).Nodup := (sideChs_nodup grid).filter _
  have hsens : (s.lcFirst grid).sens = s.sens := hfirst.2 .sens (by decide)
  refine ⟨_, exec_lcRecordDeliver s grid, fun k hside => ?_, fun k r hside hr => ?_, fun a hpairs hsp => ?_, ?_⟩
  · cases hr : (s.sens.ch.get k).lcRec with
    | none =>
      refine State.forEach_inv (P := fun t => (t.sens.ch.get k).lcRec = none) (fun j hj t ht => ?_) _ (by rw [hsens]; exact hr)
      by_cases hjk : (k : Nat) = j
      · subst hjk
        exact t.lcTurn_self k.isLt
      · exact (t.lcTurn_other (hlt hj) hjk).trans ht
    | some r =>
      have hk : (k : Nat) ∈ s.lcWaiting grid := List.mem_filter.2 ⟨hside, by rw [hr]; rfl⟩
      exact State.forEach_at (P := fun _ => True) (Q := fun t => (t.sens.ch.get k).lcRec = none) hnd hk (fun _ _ _ _ _ => trivial)
        (fun t _ => t.lcTurn_self k.isLt) (fun j hj hjk t ht => (t.lcTurn_other (hlt hj) (Ne.symm hjk)).trans ht) _ trivial
  · have hk : (k : Nat) ∈ s.lcWaiting grid := List.mem_filter.2 ⟨hside, by rw [hr]; rfl⟩
    refine State.forEach_at (P := fun t => (t.sens.ch.get k).lcRec = some r)
      (Q := fun t => t.rd (R.CH_LC_COUNT k) = BitVec.ofInt 32 r.count ∧ t.rd (R.CH_LC_LEN k) = BitVec.ofNat 32 r.len) hnd hk
      (fun j hj hjk t ht => (t.lcTurn_other (hlt hj) (Ne.symm hjk)).trans ht) (fun t ht => t.lcTurn_own k.isLt ht) (fun j hj hjk t ht => ?_) _
      (by rw [hsens]; exact hr)
    obtain ⟨hcount, hlen⟩ := t.lcTurn_regs (hlt hj) k.isLt (Ne.symm hjk)
    exact ⟨hcount.trans ht.1, hlen.trans ht.2⟩
  · exact State.forEach_inv (P := fun t => t.rdB a = s.rdB a) (fun j hj t ht => (t.lcTurn_bytes (hlt hj) ⟨hpairs, hsp⟩).trans ht) _
      ((hfirst.2 .mem (by decide)).1 a)
  · exact .forEach' (.after (hfirst.toOutside (rs := [zone R.GRID_CFG]) (by decide)) (.refl _ _ s)) fun k hk t =>
      .after (t.lcTurn_reach (hlt hk)) (.refl _ _ t)

end

/-- Settles O13: rings start, take samples and are written; line cycles are announced, end, and are delivered channel by channel. -/
theorem ringsAndLineCycles : Obligations.RingsAndLineCycles := by
  unfold Obligations.RingsAndLineCycles
  exact ⟨fun s i k => ⟨ringEnable_starts, ringEnable_refused, ring_claimed, ringDisable_stops, fun _ _ _ => streamSample_fixed,
      fun _ _ _ _ => streamSample_line, fun _ _ => streamRingWrite_writes⟩,
    fun s grid => ⟨fun _ _ _ => lcAnnounce_takes, fun _ _ _ => lcAnnounce_late, fun _ _ _ _ => lcCycle_ends, lcRecord_delivered s grid⟩⟩

end Sys2Proof.Machine
end

section
/-!
Proofs about overloads, range writes, the monitor and the calibration of a side (chapter 4).
The proofs are elaborated in turn: in one text, proofs that wait for each other would each hold a thread.
-/

set_option Elab.async false

namespace Sys2Proof.Machine

/-! # O14: overloads, ranges, the monitor scan and calibration (chapter 4) -/


/-! ### A field inside another -/

theorem Fld.apart_symm {f g : Fld} (h : f.apart g = true) : g.apart f = true := by
  simp only [Fld.apart, Bool.or_eq_true, bne_iff_ne, ne_eq, Bool.and_eq_true, decide_eq_true_eq] at h ⊢
  omega

/-- A field whose bits lie in those of another. -/
def Fld.inside (f g : Fld) : Prop := f.addr = g.addr ∧ g.lo ≤ f.lo ∧ f.lo + f.len ≤ g.lo + g.len

theorem Fld.inside_apart {f g x : Fld} (h : f.inside g) (hx : g.apart x = true) : f.apart x = true := by
  obtain ⟨haddr, hlo, hhi⟩ := h
  simp only [Fld.apart, haddr, Bool.or_eq_true, bne_iff_ne, ne_eq, Bool.and_eq_true, decide_eq_true_eq] at hx ⊢
  omega

theorem Keeps.set1_inside {fs : List Fld} {ps : List Part} {s t : State} {f g : Fld} (h : Keeps fs ps s t) (hg : g ∈ fs) (hf : f.inside g) :
    Keeps fs ps s (t.set1 f) :=
  h.trans ⟨fun x hx => State.get_put_other t f x 1 (Fld.inside_apart hf (hx g hg)), fun p _ => Part.same_put t f 1 p⟩

/-! ### A channel's bits -/

theorem chBit_apart {p g : Nat} {j k : Nat} (hpg : p ≠ g) (hj : j < 26) (hk : k < 26) (hjk : j ≠ k) : (chBit p g j).apart (chBit p g k) = true := by
  unfold chBit
  split_ifs <;> simp [Fld.apart] <;> omega

theorem chBit_other {p g p' g' : Nat} (h : p ≠ p' ∧ p ≠ g' ∧ g ≠ p' ∧ g ≠ g') (j k : Nat) : (chBit p g j).apart (chBit p' g' k) = true := by
  obtain ⟨h1, h2, h3, h4⟩ := h
  unfold chBit
  split_ifs <;> simp [Fld.apart, h1, h2, h3, h4]

theorem chBit_len (p g : Nat) {k : Nat} (hk : k < 26) : (chBit p g k).len = 1 ∧ (chBit p g k).lo + (chBit p g k).len ≤ 32 := by
  unfold chBit
  split_ifs
  · exact ⟨rfl, by simp; omega⟩
  · exact ⟨rfl, by simp; omega⟩

theorem State.get_set1_chBit (s : State) (p g : Nat) {k : Nat} (hk : k < 26) : (s.set1 (chBit p g k)).get (chBit p g k) = 1 := by
  obtain ⟨hlen, hle⟩ := chBit_len p g hk
  exact (State.get_put_same s _ 1 hle).trans (by rw [hlen]; rfl)

/-! ### Overloads (R150, R152) -/

section
variable {s : State} {k : Fin 26}

/-- The overload stands in the channel's record. -/
def State.ovlBegun (s : State) (k : Nat) (positive : Bool) : State := s.modCh k fun c =>
  { c with ovl := { s := s.epoch, e := none, signs := [(s.epoch, positive)] } :: keepOvl s.epoch c.ovl, lastTrip := s.epoch }

/-- The channel and its side are marked. -/
def State.ovlMarked (s : State) (k : Nat) : State := (s.set1 (ovrF k)).set1 (sideF (chGrid k) F.SENSP_STICKY_OVR F.SENSG_STICKY_OVR)

/-- The other powered channels of its quad. -/
def State.quadOthers (s : State) (k : Nat) : List Nat := (sideChs (chGrid k)).filter fun j => j != k && quadOf j == quadOf k && s.chPowered j

/-- They are disturbed. -/
def State.quadMarked (s : State) (k : Nat) : State := s.forEach (s.quadOthers k) fun s j => s.set1 (refDistF j)

theorem State.overload_eq (s : State) (k : Nat) (positive : Bool) : s.overload k positive =
    (((s.ovlBegun k positive).ovlMarked k).quadMarked k).raise (if chGrid k then FS.SENS_OVERRANGE_G else FS.SENS_OVERRANGE_P) := rfl

theorem State.ovlMarked_frame (s : State) (k : Nat) : Keeps [ovrF k, F.SENSP_STICKY_OVR, F.SENSG_STICKY_OVR] [] s (s.ovlMarked k) := by
  have hside : sideF (chGrid k) F.SENSP_STICKY_OVR F.SENSG_STICKY_OVR ∈ [ovrF k, F.SENSP_STICKY_OVR, F.SENSG_STICKY_OVR] := by
    unfold sideF
    split <;> simp
  exact .set1' (.set1' (.refl _ _ s)) hside

theorem refDistF_inside {j : Nat} (hj : j < 26) : ∃ g ∈ [(⟨R.SENSP_REFDIST, 0, 16⟩ : Fld), ⟨R.SENSG_REFDIST, 0, 10⟩], (refDistF j).inside g := by
  unfold refDistF chBit
  split_ifs
  · exact ⟨_, List.mem_cons_self, rfl, by simp, by simp; omega⟩
  · exact ⟨_, List.mem_cons_of_mem _ List.mem_cons_self, rfl, by simp, by simp; omega⟩

theorem State.quadMarked_frame (s : State) (k : Nat) : Keeps [⟨R.SENSP_REFDIST, 0, 16⟩, ⟨R.SENSG_REFDIST, 0, 10⟩] [] s (s.quadMarked k) := by
  refine State.forEach_inv (P := Keeps [⟨R.SENSP_REFDIST, 0, 16⟩, ⟨R.SENSG_REFDIST, 0, 10⟩] [] s) (fun j hj t ht => ?_) _ (.refl _ _ s)
  obtain ⟨g, hg, hin⟩ := refDistF_inside (sideChs_lt (List.mem_filter.1 hj).1)
  exact ht.set1_inside hg hin

theorem State.quadMarked_sets (s : State) {j k : Nat} (hj : j ∈ s.quadOthers k) : (s.quadMarked k).get (refDistF j) = 1 := by
  have hlt {i : Nat} (hi : i ∈ s.quadOthers k) : i < 26 := sideChs_lt (List.mem_filter.1 hi).1
  refine State.forEach_at (P := fun _ => True) (Q := fun t => t.get (refDistF j) = 1) ((sideChs_nodup _).filter _) hj (fun _ _ _ _ _ => trivial)
    (fun t _ => t.get_set1_chBit _ _ (hlt hj)) (fun i hi hij t ht => ?_) _ trivial
  exact (State.get_put_other t _ _ 1 (chBit_apart (by decide) (hlt hi) (hlt hj) hij)).trans ht

/-- What a channel's power depends on. -/
theorem State.chPowered_congr {s t : State} (hwg : t.sens.wg = s.sens.wg) (himg : t.img = s.img) (hget : ∀ f : Fld, f.addr < 0x40030000 → t.get f = s.get f)
    (hrd : ∀ a, 0x40030014 ≤ a → a < 0x48000000 → t.rd a = s.rd a) (j : Nat) : t.chPowered j = s.chPowered j := by
  have hgroup (g : Nat) (hg : g < 4) : t.wgMembers g = s.wgMembers g ∧ t.flag (F.SENSP_WG_CTRL_BURST g) = s.flag (F.SENSP_WG_CTRL_BURST g) := by
    have hnamed : t.chNamed = s.chNamed := funext fun c => by simp only [State.chNamed, State.gridTopo, State.topo, State.sec, himg]
    have hctrl : t.rd (R.SENSP_WG_CTRL g) = s.rd (R.SENSP_WG_CTRL g) := hrd _ (by simp; omega) (by simp; omega)
    refine ⟨?_, ?_⟩
    · rw [State.wgMembers, State.wgMembers, hrd _ (by simp; omega) (by simp; omega), hnamed]
    · unfold State.flag State.get
      rw [show (F.SENSP_WG_CTRL_BURST g).addr = R.SENSP_WG_CTRL g from rfl, hctrl]
  have hchWg : t.chWg j = s.chWg j := by
    refine List.find?_congr fun g hg => ?_
    rw [(hgroup g (List.mem_range.1 hg)).1]
  have hpd (d : Nat) : t.pdOn d = s.pdOn d := congrArg (bitOf · d) (hget F.SYS_PD_STATUS_DOMAIN_ON (by decide))
  unfold State.chPowered
  rw [hchWg, hpd, hwg]
  cases hg : s.chWg j with
  | none => rfl
  | some g =>
    have hlt : g < 4 := List.mem_range.1 (List.mem_of_find?_eq_some hg)
    simp only [(hgroup g hlt).2]

/-- Whether a channel is powered is not in its marks. -/
theorem State.chPowered_marked (s : State) (k : Nat) (positive : Bool) (j : Nat) : ((s.ovlBegun k positive).ovlMarked k).chPowered j = s.chPowered j := by
  have hmarked := (s.ovlBegun k positive).ovlMarked_frame k
  have hovr (x : Fld) (hx : x.addr ≠ R.SENSP_OVR ∧ x.addr ≠ R.SENSG_OVR) : (ovrF k).apart x = true := by
    unfold ovrF chBit
    split_ifs <;> simp [Fld.apart, Ne.symm hx.1, Ne.symm hx.2]
  refine State.chPowered_congr (congrArg SensState.wg (hmarked.2 .sens (by decide))) (hmarked.2 .img (by decide)) (fun f hf => ?_) (fun a hlo hhi => ?_) j
  · refine hmarked.get_eq f (List.forall_mem_cons.2 ⟨hovr f (by simp; omega), ?_⟩)
    simp [Fld.apart]
    omega
  · refine hmarked.rd_eq a (List.forall_mem_cons.2 ⟨hovr (whole a) (by simp [whole]; omega), ?_⟩)
    simp [Fld.apart, whole]
    omega


theorem State.overload_facts (s : State) {k : Nat} (hk : k < 26) (positive : Bool) : (s.overload k positive).get (ovrF k) = 1 ∧
    (s.overload k positive).raised = s.raised ++ [⟨if chGrid k then FS.SENS_OVERRANGE_G else FS.SENS_OVERRANGE_P, 0⟩] ∧
    (∀ j, j < 26 → j ≠ k → chGrid j = chGrid k → quadOf j = quadOf k → s.chPowered j = true → (s.overload k positive).get (refDistF j) = 1) ∧
    ((s.overload k positive).sens.ch.get k).lastTrip = s.epoch ∧
    Keeps ([ovrF k, F.SENSP_STICKY_OVR, F.SENSG_STICKY_OVR, ⟨R.SENSP_REFDIST, 0, 16⟩, ⟨R.SENSG_REFDIST, 0, 10⟩]) [.sens, .raised] s (s.overload k positive) := by
  have hmarked := (s.ovlBegun k positive).ovlMarked_frame k
  have hquad := ((s.ovlBegun k positive).ovlMarked k).quadMarked_frame k
  have hbegun : Keeps [] [.sens] s (s.ovlBegun k positive) := .beside' (.refl _ _ s)
  rw [s.overload_eq]
  refine ⟨?_, ?_, fun j hj hjk hside hquadOf hpow => ?_, ?_, .raise' (.after hquad (.after hmarked (.after hbegun (.refl _ _ s))))⟩
  · refine (hquad.get_eq (ovrF k) ?_).trans ?_
    · unfold ovrF chBit
      split_ifs <;> simp [Fld.apart]
    · refine (State.get_put_other _ _ _ 1 ?_).trans (State.get_set1_chBit _ _ _ hk)
      unfold sideF ovrF chBit
      split_ifs <;> simp [Fld.apart]
  · refine congrArg (· ++ _) ((hquad.2 .raised (by decide)).trans ((hmarked.2 .raised (by decide)).trans ?_))
    rfl
  · refine State.quadMarked_sets _ (List.mem_filter.2 ⟨?_, ?_⟩)
    · rw [← hside]
      unfold sideChs chGrid
      by_cases h : j < 16
      · simp [h]
      · simp [h]
        exact ⟨j - 16, by omega, by omega⟩
    · simp [hjk, hquadOf, State.chPowered_marked, hpow]
  · exact (congrArg (fun d : SensState => (d.ch.get k).lastTrip) ((hquad.2 .sens (by decide)).trans (hmarked.2 .sens (by decide)))).trans
      (congrArg ChState.lastTrip (State.modCh_get_same ..))

end

section
variable {s : State} {k : Fin 26} {positive : Bool}

theorem modOverloadTrip_first (hpow : s.chPowered k = true) (hfirst : (s.sens.ch.get k).ovl = [] ∨ (s.sens.ch.get k).lastTrip + 160 < s.epoch) :
    ∃ t, exec (.modOverloadTrip k positive) s = .next t ∧ t.get (ovrF k) = 1 ∧
      t.raised = s.raised ++ [⟨if chGrid k then FS.SENS_OVERRANGE_G else FS.SENS_OVERRANGE_P, 0⟩] ∧
      (∀ j : Fin 26, j ≠ k → chGrid j = chGrid k → quadOf j = quadOf k → s.chPowered j = true → t.get (refDistF j) = 1) ∧
      (t.sens.ch.get k).lastTrip = s.epoch ∧
      Keeps ([ovrF k, F.SENSP_STICKY_OVR, F.SENSG_STICKY_OVR, ⟨R.SENSP_REFDIST, 0, 16⟩, ⟨R.SENSG_REFDIST, 0, 10⟩]) [.sens, .raised] s t := by
  have hfrom : ∃ u, exec (.modOverloadTrip k positive) s = .next (u.overload k positive) ∧ Keeps [] [.sens] s u ∧ u.sens.wg = s.sens.wg := by
    cases hovl : (s.sens.ch.get k).ovl with
    | nil =>
      refine ⟨s, ?_, .refl _ _ s, rfl⟩
      change execModOverloadTrip k positive s = _
      unfold execModOverloadTrip
      rw [if_neg (by simp [hpow])]
      dsimp only
      rw [hovl]
    | cons v rest =>
      have hlate := hfirst.resolve_left (by simp [hovl])
      refine ⟨s.modCh k fun c => { c with ovl := { v with e := some ((s.sens.ch.get k).lastTrip + 80) } :: rest }, ?_, .beside' (.refl _ _ s), rfl⟩
      change execModOverloadTrip k positive s = _
      unfold execModOverloadTrip
      rw [if_neg (by simp [hpow])]
      dsimp only
      rw [hovl]
      exact if_neg (by omega)
  obtain ⟨u, hexec, hkeeps, hwg⟩ := hfrom
  obtain ⟨hovr, hraised, hquad, hlast, hframe⟩ := u.overload_facts k.isLt positive
  have hpowered (j : Nat) : u.chPowered j = s.chPowered j :=
    State.chPowered_congr hwg (hkeeps.2 .img (by decide)) (fun f _ => hkeeps.get_eq f (by simp)) (fun a _ _ => hkeeps.rd_eq a (by simp)) j
  refine ⟨_, hexec, hovr, hraised.trans (congrArg (· ++ _) (hkeeps.2 .raised (by decide))), fun j hj hside hq hp => ?_,
    hlast.trans (hkeeps.2 .epoch (by decide)), .after hframe (.after hkeeps (.refl _ _ s))⟩
  exact hquad j j.isLt (fun h => hj (Fin.ext h)) hside hq ((hpowered j).trans hp)

theorem Ovl.goOn_facts (v : Ovl) (now : Nat) (positive : Bool) : (v.goOn now positive).s = v.s ∧ (v.goOn now positive).e = none ∧
    ((v.goOn now positive).signs.head?.map (·.2)) = some positive := by
  refine ⟨rfl, rfl, ?_⟩
  unfold Ovl.goOn
  dsimp only
  split
  · split
    next h => exact congrArg some h
    next => rfl
  · rfl

theorem modOverloadTrip_again {v : Ovl} {rest : List Ovl} (hpow : s.chPowered k = true) (hovl : (s.sens.ch.get k).ovl = v :: rest)
    (hsoon : s.epoch ≤ (s.sens.ch.get k).lastTrip + 160) :
    ∃ t w, exec (.modOverloadTrip k positive) s = .next t ∧ (t.sens.ch.get k).lastTrip = s.epoch ∧ (t.sens.ch.get k).ovl = w :: rest ∧
      w.s = v.s ∧ w.e = none ∧ (w.signs.head?.map (·.2)) = some positive ∧ Keeps [] [.sens] s t := by
  have hexec : exec (.modOverloadTrip k positive) s = .next (s.modCh k fun c => { c with ovl := v.goOn s.epoch positive :: rest, lastTrip := s.epoch }) := by
    change execModOverloadTrip k positive s = _
    unfold execModOverloadTrip
    rw [if_neg (by simp [hpow])]
    dsimp only
    rw [hovl]
    exact if_pos hsoon
  obtain ⟨hs, he, hsign⟩ := v.goOn_facts s.epoch positive
  exact ⟨_, _, hexec, congrArg ChState.lastTrip (State.modCh_get_same ..), congrArg ChState.ovl (State.modCh_get_same ..), hs, he, hsign,
    .beside' (.refl _ _ s)⟩

theorem modOverload_released {v : Ovl} {rest : List Ovl} (hovl : (s.sens.ch.get k).ovl = v :: rest) (he : v.e = none)
    (hdue : (s.sens.ch.get k).lastTrip + 80 ≤ s.epoch) :
    ∃ t, exec (.modOverloadRelease k) s = .next t ∧
      (t.sens.ch.get k).ovl = { v with e := some ((s.sens.ch.get k).lastTrip + 80) } :: rest ∧ Keeps [] [.sens] s t := by
  have hexec : exec (.modOverloadRelease k) s =
      .next (s.modCh k fun c => { c with ovl := { v with e := some ((s.sens.ch.get k).lastTrip + 80) } :: rest }) := by
    change execModOverloadRelease k s = _
    unfold execModOverloadRelease
    dsimp only
    rw [hovl]
    exact if_pos ⟨he, hdue⟩
  exact ⟨_, hexec, congrArg ChState.ovl (State.modCh_get_same ..), .beside' (.refl _ _ s)⟩

/-! ### Range writes (R160) -/

theorem rangeWrite_takes {i : Initiator} {v : Word} (hnew : s.get (F.CH_CFG_RANGE k) ≠ bitsOf v.toNat 0 2)
    (hadj : s.adjust (F.CH_CFG_RANGE k) (bitsOf v.toNat 0 2) = .ok) (hidle : s.chIdle k = true) (hgood : s.rangeBad k (bitsOf v.toNat 0 2) = false) :
    ∃ t, exec (.chRangeWrite i k v) s = .next t ∧ t.get (F.CH_CFG_RANGE k) = bitsOf v.toNat 0 2 ∧ t.get (calValidF k) = 0 ∧
      Keeps [F.CH_CFG_RANGE k, calValidF k] [.sens] s t := by
  have hk := k.isLt
  have hexec : exec (.chRangeWrite i k v) s =
      .next (((s.put (F.CH_CFG_RANGE k) (bitsOf v.toNat 0 2)).put (calValidF k) 0).chBroken k (s.epoch, s.epoch + 1)) := by
    refine congrArg Host.Outcome.next ((State.quietGate_ok hadj (by simp [hidle])).trans ?_)
    rw [if_neg (by simp [hgood]), if_neg (Ne.symm hnew)]
  have hapart : (calValidF k).apart (F.CH_CFG_RANGE k) = true := by
    unfold calValidF chBit
    split_ifs <;> simp [Fld.apart, *] <;> omega
  obtain ⟨hlen, hle⟩ := chBit_len R.SENSP_CAL_VALID R.SENSG_CAL_VALID hk
  refine ⟨_, hexec, ?_, ?_, .beside' (.put' (.put' (.refl _ _ s)))⟩
  · exact (State.get_put_other (s.put _ _) _ _ 0 hapart).trans ((State.get_put_same s _ _ (by simp)).trans (Nat.mod_eq_of_lt (by unfold bitsOf; simp; omega)))
  · exact (State.get_put_same (s.put _ _) _ 0 hle).trans (Nat.zero_mod _)

theorem rangeWrite_same {i : Initiator} {v : Word} (hsame : s.get (F.CH_CFG_RANGE k) = bitsOf v.toNat 0 2)
    (hadj : s.adjust (F.CH_CFG_RANGE k) (bitsOf v.toNat 0 2) = .ok) (hidle : s.chIdle k = true) (hgood : s.rangeBad k (bitsOf v.toNat 0 2) = false) :
    exec (.chRangeWrite i k v) s = .next s := by
  refine congrArg Host.Outcome.next ((State.quietGate_ok hadj (by simp [hidle])).trans ?_)
  rw [if_neg (by simp [hgood]), if_pos hsame.symm]

theorem rangeWrite_refused {i : Initiator} {v : Word} (hadj : s.adjust (F.CH_CFG_RANGE k) (bitsOf v.toNat 0 2) = .ok)
    (h : s.chIdle k = false ∨ s.rangeBad k (bitsOf v.toNat 0 2) = true) :
    ∃ t, exec (.chRangeWrite i k v) s = .next t ∧ Refused (sideBlk (chGrid k)) FS.SENS_CFG s t := by
  have hexec : exec (.chRangeWrite i k v) s = .next (s.cfgReject (sideBlk (chGrid k))) := by
    refine congrArg Host.Outcome.next ?_
    cases hidle : s.chIdle k with
    | false => exact State.quietGate_running hadj (by simp [hidle])
    | true =>
      refine (State.quietGate_ok hadj (by simp [hidle])).trans ?_
      rw [if_pos (h.resolve_left (by simp [hidle]))]
  exact ⟨_, hexec, s.cfgReject_refused _ _ (sideBlk_rejectSrc _)⟩

end

/-! ### The monitor and the GRD die's temperature (R154, R155) -/

section
variable {s : State}

theorem State.tempResult_frame (s : State) (die : Nat) (v : BitVec 16) : Keeps [] [.sens, .raised] s (s.tempResult die v) :=
  .ite' (.raiseAt' (.beside' (.refl _ _ s))) (.beside' (.refl _ _ s))

theorem State.tempResult_mono (s : State) (die : Nat) (v : BitVec 16) : (s.tempResult die v).mono = s.mono := by
  unfold State.tempResult
  dsimp only
  split <;> rfl

theorem monitor_dwelled {v : BitVec 16} (hon : s.pdOn 8 = true) (hsrc : bitOf (bitsOf (s.rd R.SENSP_MON_MASK).toNat 0 6) s.sens.monSrc = true)
    (hdue : s.sens.monStart + 51200 ≤ s.mono) :
    ∃ t, exec (.monitorDwellEnd v) s = .next t ∧ t.get (F.SENSP_MON_VAL s.sens.monSrc) = v.toNat ∧
      t.sens.monSrc = nextSource (bitsOf (s.rd R.SENSP_MON_MASK).toNat 0 6) s.sens.monSrc ∧ t.sens.monStart = s.mono ∧
      Keeps [F.SENSP_MON_VAL s.sens.monSrc, F.SENSP_MON_CNT s.sens.monSrc] [.sens, .raised] s t := by
  have hexec : exec (.monitorDwellEnd v) s = .next _ := if_pos (by
    simp only [Bool.and_eq_true, decide_eq_true_eq]
    exact ⟨⟨hon, hsrc⟩, hdue⟩)
  have hval : Keeps [F.SENSP_MON_VAL s.sens.monSrc, F.SENSP_MON_CNT s.sens.monSrc] [] s
      ((s.put (F.SENSP_MON_VAL s.sens.monSrc) v.toNat).incWrap (F.SENSP_MON_CNT s.sens.monSrc)) := .incWrap' (.put' (.refl _ _ s))
  have htemp (t : State) : Keeps [] [.sens, .raised] t (if s.sens.monSrc < 2 then t.tempResult s.sens.monSrc v else t) :=
    .ite' (t.tempResult_frame _ v) (.refl _ _ t)
  refine ⟨_, hexec, ?_, rfl, ?_, .beside' (.after (htemp _) (.after hval (.refl _ _ s)))⟩
  · refine ((htemp _).get_eq (F.SENSP_MON_VAL s.sens.monSrc) (by simp)).trans ?_
    exact (State.get_put_other (s.put _ _) _ _ _ (by simp)).trans ((State.get_put_same s _ _ (by simp)).trans (Nat.mod_eq_of_lt v.isLt))
  · dsimp only
    split
    · exact State.tempResult_mono ..
    · rfl

theorem grdTemp_sampled {v : BitVec 16} (hon : s.pdOn 10 = true) (hdue : s.sens.tempNext ≤ s.mono) :
    ∃ t, exec (.grdTempSample v) s = .next t ∧ t.get F.SENSG_DIE_TEMP_TEMP = v.toNat ∧ t.sens.tempNext = s.mono + 800000 ∧
      (2240 < v.toInt → s.sens.hot.get 2 = true → t.raised = s.raised ++ [⟨FS.TEMP_HIGH, 2⟩]) ∧
      (v.toInt ≤ 2240 → t.raised = s.raised) ∧
      Keeps [F.SENSG_DIE_TEMP_TEMP, F.SENSG_DIE_TEMP_CNT] [.sens, .raised] s t := by
  have hexec : exec (.grdTempSample v) s = .next _ := if_pos (by simp [hon, hdue])
  have hval : Keeps [F.SENSG_DIE_TEMP_TEMP, F.SENSG_DIE_TEMP_CNT] [] s
      ((s.put F.SENSG_DIE_TEMP_TEMP v.toNat).incWrap F.SENSG_DIE_TEMP_CNT) := .incWrap' (.put' (.refl _ _ s))
  refine ⟨_, hexec, ?_, ?_, fun hhot hbefore => ?_, fun hcool => ?_, .after (State.tempResult_frame ..) (.beside' (.after hval (.refl _ _ s)))⟩
  · refine ((State.tempResult_frame ..).get_eq F.SENSG_DIE_TEMP_TEMP (by simp)).trans ?_
    exact (State.get_put_other (s.put F.SENSG_DIE_TEMP_TEMP v.toNat) F.SENSG_DIE_TEMP_CNT F.SENSG_DIE_TEMP_TEMP _ (by decide)).trans
      ((State.get_put_same s _ _ (by decide)).trans (Nat.mod_eq_of_lt v.isLt))
  · unfold State.tempResult
    dsimp only
    split <;> rfl
  · unfold State.tempResult
    dsimp only
    rw [if_pos (by simpa using ⟨hhot, hbefore⟩)]
    rfl
  · unfold State.tempResult
    dsimp only
    rw [if_neg (by simp [Int.not_lt.2 hcool])]
    rfl

theorem sensCalStage_next {grid : Bool} (hbusy : s.flag (calBusyF grid) = true) (hstage : (s.sens.side.get (b2n grid)).calStage < 3)
    (hdue : (s.sens.side.get (b2n grid)).calStart + calStageAt (s.sens.side.get (b2n grid)).calStage ≤ s.mono) :
    ∃ t, exec (.sensCalStage grid) s = .next t ∧
      (t.sens.side.get (b2n grid)).calStage = (s.sens.side.get (b2n grid)).calStage + 1 ∧ Keeps [] [.sens] s t :=
  ⟨_, if_pos (by simp [hbusy, hstage, hdue]), congrArg SideState.calStage (State.modSide_get_same ..), .beside' (.refl _ _ s)⟩

end

/-! ### Calibration factors (R158, Table SENS-9) -/

theorem signedOf_unsignedOf_16 (x : Int) (h1 : -32768 ≤ x) (h2 : x < 32768) : signedOf 16 (unsignedOf 16 x) = x := by
  unfold signedOf unsignedOf
  dsimp only
  split <;> omega

theorem roundAway_bounds {x : Rat} {lo hi : Int} (hlo : (lo : Rat) ≤ x) (hhi : x ≤ (hi : Rat)) : lo ≤ roundAway x ∧ roundAway x ≤ hi := by
  unfold roundAway
  split
  next h =>
    have hle : lo ≤ (x + 1 / 2).floor := Rat.le_floor_iff.2 (by linarith)
    have hlt : (x + 1 / 2).floor < hi + 1 := Rat.floor_lt_iff.2 (by push_cast; linarith)
    omega
  next h =>
    have hlt : (-x + 1 / 2).floor < -lo + 1 := Rat.floor_lt_iff.2 (by push_cast; linarith)
    have hle : -hi ≤ (-x + 1 / 2).floor := Rat.le_floor_iff.2 (by push_cast; linarith)
    omega

/-- The factors that pass fit their registers. -/
theorem calPasses_fits {ofs gain : Rat} (h : calPasses ofs gain = true) : (-1024 ≤ roundAway ofs ∧ roundAway ofs ≤ 1024) ∧
    (0 ≤ roundAway (gain * 524288) ∧ roundAway (gain * 524288) ≤ 576717) := by
  simp only [calPasses, Bool.and_eq_true, decide_eq_true_eq] at h
  obtain ⟨⟨⟨h1, h2⟩, h3⟩, h4⟩ := h
  refine ⟨roundAway_bounds (by exact_mod_cast h1) (by exact_mod_cast h2), roundAway_bounds ?_ ?_⟩
  · push_cast
    linarith
  · push_cast
    linarith

section
variable (s : State) {k : Nat}

theorem State.calStore_frame (z p m : Int) : Keeps [calValidF k, F.CH_CAL_OFS_CAL_OFS k, F.CH_CAL_GAIN_CAL_GAIN k] [] s (s.calStore k z p m) :=
  .ite' (.put' (.putS' (.refl _ _ s))) (.put' (.put' (.put' (.refl _ _ s))))

theorem State.calStore_passes {z p m : Int} (h : calPasses (calOfs z) (calGain k p m) = true) :
    (s.calStore k z p m).getS (F.CH_CAL_OFS_CAL_OFS k) = roundAway (calOfs z) ∧
    ((s.calStore k z p m).get (F.CH_CAL_GAIN_CAL_GAIN k) : Int) = roundAway (calGain k p m * 524288) := by
  obtain ⟨⟨hlo, hhi⟩, hgain, hgain'⟩ := calPasses_fits h
  have hofs := signedOf_unsignedOf_16 (roundAway (calOfs z)) (by omega) (by omega)
  have hlt := unsignedOf_lt 16 (roundAway (calOfs z))
  rw [State.calStore, if_pos h]
  constructor
  · have hget : ((s.putS (F.CH_CAL_OFS_CAL_OFS k) (roundAway (calOfs z))).put (F.CH_CAL_GAIN_CAL_GAIN k)
        (roundAway (calGain k p m * 524288)).toNat).get (F.CH_CAL_OFS_CAL_OFS k) = unsignedOf 16 (roundAway (calOfs z)) :=
      (State.get_put_other _ _ _ _ (by simp)).trans ((State.get_put_same s _ _ (by simp)).trans (Nat.mod_eq_of_lt hlt))
    exact (congrArg (signedOf 16) hget).trans hofs
  · have hget := State.get_put_same (s.putS (F.CH_CAL_OFS_CAL_OFS k) (roundAway (calOfs z))) (F.CH_CAL_GAIN_CAL_GAIN k)
      (roundAway (calGain k p m * 524288)).toNat (by simp)
    rw [hget, show (F.CH_CAL_GAIN_CAL_GAIN k).len = 20 from rfl]
    omega

/-- A channel's calibration bit is in no register of its own factors. -/
theorem calValidF_apart_factors (j k : Nat) : (calValidF j).apart (F.CH_CAL_OFS_CAL_OFS k) = true ∧ (calValidF j).apart (F.CH_CAL_GAIN_CAL_GAIN k) = true := by
  unfold calValidF chBit
  constructor <;> split_ifs <;> simp [Fld.apart] <;> split_ifs <;> omega

theorem State.calStore_fails (hk : k < 26) {z p m : Int} (h : calPasses (calOfs z) (calGain k p m) = false) :
    (s.calStore k z p m).get (calValidF k) = 0 ∧ (s.calStore k z p m).get (F.CH_CAL_OFS_CAL_OFS k) = 0 ∧
    (s.calStore k z p m).get (F.CH_CAL_GAIN_CAL_GAIN k) = 0x80000 := by
  obtain ⟨hofs, hgain⟩ := calValidF_apart_factors k k
  rw [State.calStore, if_neg (by simp [h]), State.calClear]
  refine ⟨?_, ?_, ?_⟩
  · rw [State.get_put_other _ _ _ _ (Fld.apart_symm hgain), State.get_put_other _ _ _ _ (Fld.apart_symm hofs)]
    exact (State.get_put_same s _ 0 (chBit_len _ _ hk).2).trans (Nat.zero_mod _)
  · exact (State.get_put_other _ _ _ _ (by simp)).trans ((State.get_put_same (s.put _ 0) _ _ (by simp)).trans (Nat.zero_mod _))
  · exact (State.get_put_same _ _ _ (by simp)).trans (by simp)

end

/-! ### The factors of a side's channels, and the calibration's end -/

theorem calChs_nodup (grid : Bool) : (calChs grid).Nodup := (sideChs_nodup grid).filter _

theorem calChs_lt {grid : Bool} {k : Nat} (h : k ∈ calChs grid) : k < 26 := sideChs_lt (List.mem_filter.1 h).1

/-- The registers that hold a channel's calibration. -/
def calRegs (k : Nat) : List Fld := [calValidF k, F.CH_CAL_OFS_CAL_OFS k, F.CH_CAL_GAIN_CAL_GAIN k]

theorem calRegs_apart {j k : Nat} (hj : j < 26) (hk : k < 26) (hjk : j ≠ k) : ∀ g ∈ calRegs k, ∀ f ∈ calRegs j, f.apart g = true := by
  obtain ⟨hofs, hgain⟩ := calValidF_apart_factors j k
  obtain ⟨hofs', hgain'⟩ := calValidF_apart_factors k j
  have hvalid : (calValidF j).apart (calValidF k) = true := chBit_apart (by decide) hj hk hjk
  simp only [calRegs, List.forall_mem_cons, List.not_mem_nil, false_implies, implies_true, and_true]
  refine ⟨⟨hvalid, Fld.apart_symm hofs', Fld.apart_symm hgain'⟩, ⟨hofs, ?_, ?_⟩, hgain, ?_, ?_⟩
  all_goals
    simp
    split_ifs <;> omega

section
variable (s : State) (grid : Bool) (sums : List (Int × Int × Int))

/-- One channel's turn. -/
def State.calTurn (t : State) (sums : List (Int × Int × Int)) (k : Nat) : State :=
  t.calStore k (sums.getD k (0, 0, 0)).1 (sums.getD k (0, 0, 0)).2.1 (sums.getD k (0, 0, 0)).2.2

/-- The channels that pass. -/
def calPassed (grid : Bool) (sums : List (Int × Int × Int)) : List Nat := (calChs grid).filter fun k =>
  calPasses (calOfs (sums.getD k (0, 0, 0)).1) (calGain k (sums.getD k (0, 0, 0)).2.1 (sums.getD k (0, 0, 0)).2.2)

theorem State.calFactorsStore_eq : s.calFactorsStore grid sums = (s.forEach (calChs grid) fun t k => t.calTurn sums k).modSide grid fun d =>
    { d with passed := calPassed grid sums, calStage := 4 } := rfl

theorem State.calTurns_other (t : State) (g : Fld) (h : ∀ j ∈ calChs grid, ∀ f ∈ calRegs j, f.apart g = true) :
    (t.forEach (calChs grid) fun t k => t.calTurn sums k).get g = t.get g :=
  State.forEach_inv (P := fun u => u.get g = t.get g) (fun j hj u hu => ((u.calStore_frame ..).get_eq g (h j hj)).trans hu) _ rfl

theorem State.calTurns_sens (t : State) : Keeps [] [.sens] t t ∧ (t.forEach (calChs grid) fun t k => t.calTurn sums k).sens = t.sens ∧
    (t.forEach (calChs grid) fun t k => t.calTurn sums k).mono = t.mono :=
  ⟨.refl _ _ t, State.forEach_inv (P := fun u => u.sens = t.sens) (fun j _ u hu => ((u.calStore_frame ..).2 .sens (by simp)).trans hu) _ rfl,
    State.forEach_inv (P := fun u => u.mono = t.mono) (fun j _ u hu =>
      (State.mono_congr ((u.calStore_frame ..).2 .epoch (by simp)) ((u.calStore_frame ..).2 .ep (by simp))).trans hu) _ rfl⟩

theorem calBusyF_apart (grid' : Bool) (j : Nat) : ∀ f ∈ calRegs j, f.apart (calBusyF grid') = true := by
  simp only [calRegs, List.forall_mem_cons, List.not_mem_nil, false_implies, implies_true, and_true]
  have hbase : (calBusyF grid').addr = 0x40030000 ∨ (calBusyF grid').addr = 0x48000000 := by cases grid' <;> decide
  have hvalid : (calValidF j).addr = 0x40030008 ∨ (calValidF j).addr = 0x48000008 := by
    unfold calValidF chBit
    split_ifs
    · exact .inl rfl
    · exact .inr rfl
  have hfactor (n : Nat) (hn : n < 0x40) : (if j < 16 then 0x40030400 + 0x40 * j else 0x48000400 + 0x40 * (j - 16)) + n ≠ 0x40030000 ∧
      (if j < 16 then 0x40030400 + 0x40 * j else 0x48000400 + 0x40 * (j - 16)) + n ≠ 0x48000000 := by
    split <;> omega
  have hofs := hfactor 0xC (by decide)
  have hgain := hfactor 0x10 (by decide)
  exact ⟨Fld.apart_of_addr_ne _ _ (by omega), Fld.apart_of_addr_ne _ _ (fun h => hbase.elim (fun hb => hofs.1 (h.trans hb)) fun hb => hofs.2 (h.trans hb)),
    Fld.apart_of_addr_ne _ _ (fun h => hbase.elim (fun hb => hgain.1 (h.trans hb)) fun hb => hgain.2 (h.trans hb))⟩

/-- What stands in the side's record once its factors are stored. -/
theorem State.calFactorsStore_side : ((s.calFactorsStore grid sums).sens.side.get (b2n grid)).calStage = 4 ∧
    ((s.calFactorsStore grid sums).sens.side.get (b2n grid)).passed = calPassed grid sums ∧
    ((s.calFactorsStore grid sums).sens.side.get (b2n grid)).calStart = (s.sens.side.get (b2n grid)).calStart ∧
    (s.calFactorsStore grid sums).get (calBusyF grid) = s.get (calBusyF grid) ∧ (s.calFactorsStore grid sums).mono = s.mono := by
  obtain ⟨-, hsens, hmono⟩ := State.calTurns_sens grid sums s
  have hbusy := State.calTurns_other grid sums s (calBusyF grid) fun j _ => calBusyF_apart grid j
  rw [s.calFactorsStore_eq, State.modSide_get_same, hsens]
  exact ⟨rfl, rfl, rfl, hbusy, hmono⟩

theorem State.calFactorsStore_reach : KeepsOutside [zone R.SENSP_STATUS, zone R.SENSG_STATUS] [.sens] s (s.calFactorsStore grid sums) := by
  rw [s.calFactorsStore_eq]
  refine .beside' (.forEach' (.refl _ _ s) fun k hk t => ?_)
  have hk := calChs_lt hk
  refine .after ((t.calStore_frame ..).toOutside (rs := [zone R.SENSP_STATUS, zone R.SENSG_STATUS]) ?_) (.refl _ _ t)
  unfold calValidF chBit
  simp [zone]
  split_ifs <;> simp <;> omega

/-- A channel's own registers after every channel's turn. -/
theorem State.calTurns_own {k : Nat} (hk : k ∈ calChs grid) {Q : State → Prop} (hQ : ∀ t u : State, (∀ g ∈ calRegs k, u.get g = t.get g) → Q t → Q u)
    (hself : ∀ t : State, Q (t.calTurn sums k)) : Q (s.calFactorsStore grid sums) := by
  have hturns : Q (s.forEach (calChs grid) fun t k => t.calTurn sums k) := by
    refine State.forEach_at (P := fun _ => True) (Q := Q) (calChs_nodup grid) hk (fun _ _ _ _ _ => trivial) (fun t _ => hself t)
      (fun j hj hjk t ht => hQ t _ (fun g hg => ?_) ht) s trivial
    exact (t.calStore_frame ..).get_eq g (calRegs_apart (calChs_lt hj) (calChs_lt hk) hjk g hg)
  rw [s.calFactorsStore_eq]
  exact hQ (s.forEach (calChs grid) fun t k => t.calTurn sums k) _ (fun g _ => rfl) hturns

end

section
variable {s : State} {grid : Bool} {sums : List (Int × Int × Int)}

theorem exec_sensCalComplete {n : Nat} (hbusy : s.flag (calBusyF grid) = true) (hstage : (s.sens.side.get (b2n grid)).calStage = n) (hn : 3 ≤ n)
    (hdue : (s.sens.side.get (b2n grid)).calStart + 1360000 ≤ s.mono) : exec (.sensCalComplete grid sums) s =
    .next (if (s.sens.side.get (b2n grid)).calStart + 1440000 ≤ s.mono
      then ((if n = 3 then s.calFactorsStore grid sums else s).calComplete grid).lateNext
      else if n = 3 then s.calFactorsStore grid sums else s) := by
  subst hstage
  exact if_pos (by simp [hbusy, hn, hdue])

theorem mem_calPassed {k : Nat} (hk : k ∈ calChs grid) : k ∈ calPassed grid sums ↔
    calPasses (calOfs (sums.getD k (0, 0, 0)).1) (calGain k (sums.getD k (0, 0, 0)).2.1 (sums.getD k (0, 0, 0)).2.2) = true := by
  simp [calPassed, hk]

theorem sensCal_stored (hbusy : s.flag (calBusyF grid) = true) (hstage : (s.sens.side.get (b2n grid)).calStage = 3)
    (hdue : (s.sens.side.get (b2n grid)).calStart + 1360000 ≤ s.mono) (hbefore : s.mono < (s.sens.side.get (b2n grid)).calStart + 1440000) :
    ∃ t, exec (.sensCalComplete grid sums) s = .next t ∧ (t.sens.side.get (b2n grid)).calStage = 4 ∧ t.get (calBusyF grid) = 1 ∧
      (∀ (k : Fin 26) (z p m : Int), (k : Nat) ∈ calChs grid → sums.getD k (0, 0, 0) = (z, p, m) →
        (calPasses (calOfs z) (calGain k p m) = true → t.getS (F.CH_CAL_OFS_CAL_OFS k) = roundAway (calOfs z) ∧
          (t.get (F.CH_CAL_GAIN_CAL_GAIN k) : Int) = roundAway (calGain k p m * 524288) ∧
          (k : Nat) ∈ (t.sens.side.get (b2n grid)).passed) ∧
        (calPasses (calOfs z) (calGain k p m) = false → t.get (calValidF k) = 0 ∧ t.get (F.CH_CAL_OFS_CAL_OFS k) = 0 ∧
          t.get (F.CH_CAL_GAIN_CAL_GAIN k) = 0x80000 ∧ (k : Nat) ∉ (t.sens.side.get (b2n grid)).passed)) ∧
      KeepsOutside [zone R.SENSP_STATUS, zone R.SENSG_STATUS] [.sens] s t := by
  obtain ⟨hfour, hpassed, -, hstill, -⟩ := s.calFactorsStore_side grid sums
  have hexec : exec (.sensCalComplete grid sums) s = .next (s.calFactorsStore grid sums) :=
    (exec_sensCalComplete hbusy hstage (by decide) hdue).trans (congrArg Host.Outcome.next ((if_neg (by omega)).trans (if_pos rfl)))
  refine ⟨_, hexec, hfour, hstill.trans (by simpa [State.flag] using hbusy), fun k z p m hk hsums => ?_, s.calFactorsStore_reach grid sums⟩
  have hmem := mem_calPassed (sums := sums) hk
  rw [hsums] at hmem
  rw [hpassed]
  refine ⟨fun hpass => ?_, fun hfail => ?_⟩
  · have hown := s.calTurns_own grid sums hk (Q := fun t => t.getS (F.CH_CAL_OFS_CAL_OFS k) = roundAway (calOfs z) ∧
        (t.get (F.CH_CAL_GAIN_CAL_GAIN k) : Int) = roundAway (calGain k p m * 524288)) (fun t u hkept ht => ?_) (fun t => ?_)
    · exact ⟨hown.1, hown.2, hmem.2 hpass⟩
    · obtain ⟨hofs, hgain⟩ := ht
      refine ⟨(congrArg (signedOf 16) (hkept _ (by simp [calRegs]))).trans hofs, ?_⟩
      rw [hkept _ (by simp [calRegs])]
      exact hgain
    · rw [State.calTurn, hsums]
      exact t.calStore_passes hpass
  · have hown := s.calTurns_own grid sums hk (Q := fun t => t.get (calValidF k) = 0 ∧ t.get (F.CH_CAL_OFS_CAL_OFS k) = 0 ∧
        t.get (F.CH_CAL_GAIN_CAL_GAIN k) = 0x80000) (fun t u hkept ht => ?_) (fun t => ?_)
    · exact ⟨hown.1, hown.2.1, hown.2.2, fun h => by rw [hmem] at h; simp [hfail] at h⟩
    · obtain ⟨hvalid, hofs, hgain⟩ := ht
      exact ⟨(hkept _ (by simp [calRegs])).trans hvalid, (hkept _ (by simp [calRegs])).trans hofs, (hkept _ (by simp [calRegs])).trans hgain⟩
    · rw [State.calTurn, hsums]
      exact t.calStore_fails k.isLt hfail

theorem sensCal_late (hbusy : s.flag (calBusyF grid) = true) (hstage : (s.sens.side.get (b2n grid)).calStage = 3)
    (hdue : (s.sens.side.get (b2n grid)).calStart + 1440000 ≤ s.mono) :
    exec (.sensCalComplete grid sums) s = exec (.sensCalComplete grid sums) (s.calFactorsStore grid sums) := by
  obtain ⟨hfour, -, hstart, hstill, hmono⟩ := s.calFactorsStore_side grid sums
  have hdue' : ((s.calFactorsStore grid sums).sens.side.get (b2n grid)).calStart + 1440000 ≤ (s.calFactorsStore grid sums).mono := by
    rw [hstart, hmono]
    exact hdue
  rw [exec_sensCalComplete hbusy hstage (by decide) (by omega), exec_sensCalComplete ((congrArg (· == 1) hstill).trans hbusy) hfour (by decide) (by omega),
    if_pos hdue, if_pos hdue', if_pos rfl, if_neg (by decide)]

/-! The end (R159). -/

/-- CAL_VALID names the channels that passed. -/
def State.calNamed (s : State) (grid : Bool) (ok : List Nat) : State := s.forEach (calChs grid) fun s k => s.put (calValidF k) (b2n (ok.contains k))

/-- The side is no longer busy; a channel that failed is told. -/
def State.calTold (s : State) (grid : Bool) (ok : List Nat) : State :=
  if (calChs grid).all ok.contains then (s.calNamed grid ok).put (calBusyF grid) 0
  else (((s.calNamed grid ok).put (calBusyF grid) 0).set1 (sideF grid F.SENSP_STICKY_CAL_FAIL F.SENSG_STICKY_CAL_FAIL)).raise FS.SENS_CAL_FAIL

theorem State.calComplete_eq (s : State) (grid : Bool) : s.calComplete grid =
    (s.calTold grid (s.sens.side.get (b2n grid)).passed).maintEnd (if grid then 2 else 1)
      (if (calChs grid).all (s.sens.side.get (b2n grid)).passed.contains then .ok else .fail) := rfl

theorem State.calNamed_valid (s : State) (grid : Bool) (ok : List Nat) {k : Nat} (hk : k ∈ calChs grid) :
    (s.calNamed grid ok).flag (calValidF k) = ok.contains k := by
  refine State.forEach_at (P := fun _ => True) (Q := fun t => t.flag (calValidF k) = ok.contains k) (calChs_nodup grid) hk (fun _ _ _ _ _ => trivial)
    (fun t _ => ?_) (fun j hj hjk t ht => ?_) s trivial
  · obtain ⟨hlen, hle⟩ := chBit_len R.SENSP_CAL_VALID R.SENSG_CAL_VALID (calChs_lt hk)
    exact State.flag_put_bool t _ _ hlen hle
  · exact (State.flag_put_other t _ _ _ (chBit_apart (by decide) (calChs_lt hj) (calChs_lt hk) hjk)).trans ht

theorem State.calNamed_reach (s : State) (grid : Bool) (ok : List Nat) : KeepsOutside [zone R.SENSP_STATUS, zone R.SENSG_STATUS] [] s (s.calNamed grid ok) :=
  .forEach' (.refl _ _ s) fun k _ t => .put' (.refl _ _ t) (by unfold calValidF chBit; split <;> simp [zone])

/-- The side's status and sticky bits are not a channel's CAL_VALID. -/
theorem calValidF_apart_side (grid : Bool) (k : Nat) : (calBusyF grid).apart (calValidF k) = true ∧
    (sideF grid F.SENSP_STICKY_CAL_FAIL F.SENSG_STICKY_CAL_FAIL).apart (calValidF k) = true ∧
    (sideF grid F.SENSP_STICKY_CAL_FAIL F.SENSG_STICKY_CAL_FAIL).apart (calBusyF grid) = true := by
  unfold calValidF chBit
  cases grid <;> split_ifs <;> exact ⟨by simp [calBusyF, sideF], by simp [sideF], by simp [calBusyF, sideF]⟩

theorem State.calTold_facts (s : State) (grid : Bool) (ok : List Nat) : (s.calTold grid ok).get (calBusyF grid) = 0 ∧
    (∀ k, k ∈ calChs grid → (s.calTold grid ok).flag (calValidF k) = ok.contains k) ∧
    (∀ k, k ∈ calChs grid → ok.contains k = false → (s.calTold grid ok).get (sideF grid F.SENSP_STICKY_CAL_FAIL F.SENSG_STICKY_CAL_FAIL) = 1) ∧
    KeepsOutside [zone R.SENSP_STATUS, zone R.SENSG_STATUS] [.raised] s (s.calTold grid ok) := by
  have hbusy : ((s.calNamed grid ok).put (calBusyF grid) 0).get (calBusyF grid) = 0 :=
    (State.get_put_same _ _ 0 (by cases grid <;> decide)).trans (Nat.zero_mod _)
  have hvalid (k : Nat) (hk : k ∈ calChs grid) : ((s.calNamed grid ok).put (calBusyF grid) 0).flag (calValidF k) = ok.contains k :=
    (State.flag_put_other _ _ _ _ (calValidF_apart_side grid k).1).trans (s.calNamed_valid grid ok hk)
  have hreach : KeepsOutside [zone R.SENSP_STATUS, zone R.SENSG_STATUS] [.raised] s ((s.calNamed grid ok).put (calBusyF grid) 0) :=
    .put' (.after (s.calNamed_reach grid ok) (.refl _ _ s)) (by cases grid <;> decide)
  unfold State.calTold
  split
  next hall =>
    refine ⟨hbusy, hvalid, fun k hk hno => ?_, hreach⟩
    rw [List.all_eq_true.1 hall k hk] at hno
    cases hno
  next =>
    refine ⟨?_, fun k hk => ?_, fun k _ _ => ?_, .raise' (.set1' hreach (by cases grid <;> decide))⟩
    · exact (State.get_put_other _ _ _ 1 (calValidF_apart_side grid 0).2.2).trans hbusy
    · exact (State.flag_put_other _ _ _ 1 (calValidF_apart_side grid k).2.1).trans (hvalid k hk)
    · exact (State.get_put_same _ _ 1 (by cases grid <;> decide)).trans (by cases grid <;> decide)

theorem State.calComplete_facts (s : State) (grid : Bool) : (s.calComplete grid).get (calBusyF grid) = 0 ∧
    (∀ k, k ∈ calChs grid → (s.calComplete grid).flag (calValidF k) = (s.sens.side.get (b2n grid)).passed.contains k) ∧
    (∀ k, k ∈ calChs grid → (s.sens.side.get (b2n grid)).passed.contains k = false →
      (s.calComplete grid).get (sideF grid F.SENSP_STICKY_CAL_FAIL F.SENSG_STICKY_CAL_FAIL) = 1) ∧
    KeepsOutside [zone R.SENSP_STATUS, zone R.SENSG_STATUS, zone R.DIAG_MAINT_REQ] [.raised] s (s.calComplete grid) := by
  obtain ⟨hbusy, hvalid, hfail, hreach⟩ := s.calTold_facts grid (s.sens.side.get (b2n grid)).passed
  have hend : KeepsOutside [zone R.DIAG_MAINT_REQ] [] (s.calTold grid (s.sens.side.get (b2n grid)).passed) (s.calComplete grid) := by
    rw [s.calComplete_eq]
    exact .after (State.maintEnd_outside _ _ _ (by split <;> decide)) (.refl _ _ _)
  have hsens (f : Fld) (hf : f.addr < R.DIAG_MAINT_REQ ∨ R.DIAG_MAINT_REQ + 0x10000 ≤ f.addr) :
      (s.calComplete grid).get f = (s.calTold grid (s.sens.side.get (b2n grid)).passed).get f := hend.get_eq f (by simp [zone]; simp at hf; omega)
  refine ⟨(hsens _ (by cases grid <;> decide)).trans hbusy, fun k hk => (congrArg (· == 1) (hsens _ ?_)).trans (hvalid k hk),
    fun k hk hno => (hsens _ (by cases grid <;> decide)).trans (hfail k hk hno), .after hend (.after hreach (.refl _ _ s))⟩
  unfold calValidF chBit
  split_ifs <;> simp

end

/-! ### The grid side's start that came late (R613) goes on from here -/

section
variable {s : State}

theorem State.calStart_frame (s : State) (grid : Bool) : Keeps [calBusyF grid] [.sens] s (s.calStart grid) :=
  State.forEach_inv (P := Keeps [calBusyF grid] [.sens] s) (fun _ _ _ ht => .beside' ht) _ (.beside' (.put' (.refl _ _ s)))

/-- Where the registers of the two sides' sensing lie. -/
def InSens (a : Nat) : Prop := (0x40030000 ≤ a ∧ a < 0x40040000) ∨ (0x48000000 ≤ a ∧ a < 0x48010000)

theorem State.lateTest_get (s : State) (g : Fld) (hg : InSens g.addr) :
    (State.wcTestQueue { (s.maintStart 3) with diag := { s.diag with testMask := 0xFFC000 } } ((List.range 10).map (14 + ·))).get g = s.get g := by
  have hq : ∀ c ∈ (List.range 10).map (14 + ·), c < 24 := by decide
  exact ((State.wcTestQueue_outside _ _ hq).get_eq g (by unfold InSens at hg; simp [zone]; omega)).trans
    ((s.maintStart_outside 3 (by decide)).get_eq g (by unfold InSens at hg; simp [zone]; omega))

/-- What the late start leaves of the sides' registers: all but the grid side's CAL_BUSY. -/
theorem State.lateNext_get (s : State) (g : Fld) (hg : InSens g.addr) (h : s.start.late = 1 → (calBusyF true).apart g = true) : s.lateNext.get g = s.get g := by
  have hstart (t : State) (x : StartState) : ({ t with start := x } : State).get g = t.get g := rfl
  have hrun : (s.maintStart 2).get g = s.get g := (s.maintStart_outside 2 (by decide)).get_eq g (by unfold InSens at hg; simp [zone]; omega)
  unfold State.lateNext
  dsimp only
  split
  next h1 => rw [hstart, (State.calStart_frame _ true).get_eq g (by simpa using h h1.1), hrun]
  · split
    · rw [hstart]
      exact s.lateTest_get g hg
    · split
      · rw [hstart]
        exact State.get_put_other s F.SYS_START_GRID_CAL_DONE g 1 (Fld.apart_of_addr_ne _ _ (by unfold InSens at hg; simp; omega))
      · rfl

variable {grid : Bool} {sums : List (Int × Int × Int)}

theorem sensCal_ended (hbusy : s.flag (calBusyF grid) = true) (hstage : (s.sens.side.get (b2n grid)).calStage = 4)
    (hdue : (s.sens.side.get (b2n grid)).calStart + 1440000 ≤ s.mono) :
    ∃ t, exec (.sensCalComplete grid sums) s = .next t ∧ (s.start.late ≠ 1 → t.get (calBusyF grid) = 0) ∧
      (∀ k : Fin 26, (k : Nat) ∈ calChs grid → t.flag (calValidF k) = (s.sens.side.get (b2n grid)).passed.contains k) ∧
      (∀ k : Fin 26, (k : Nat) ∈ calChs grid → t.flag (calValidF k) = false →
        t.get (if grid then F.SENSG_STICKY_CAL_FAIL else F.SENSP_STICKY_CAL_FAIL) = 1) ∧
      KeepsOutside [zone R.SENSP_STATUS, zone R.SENSG_STATUS, zone R.DIAG_MAINT_REQ, zone R.WCMPP_STATUS, zone R.WCMPG_STATUS, zone R.DRV_STATUS,
        zone R.LANE_STATUS, zone R.SYS_ID] [.raised, .sens, .wcmp, .drive, .pwm, .diag, .relay, .start] s t ∧
      (s.start.late = 0 → KeepsOutside [zone R.SENSP_STATUS, zone R.SENSG_STATUS, zone R.DIAG_MAINT_REQ] [.raised] s t) := by
  obtain ⟨hdone, hvalid, hfail, hreach⟩ := s.calComplete_facts grid
  have hlate : (s.calComplete grid).start.late = s.start.late := congrArg StartState.late (hreach.2 .start (by decide))
  have hexec : exec (.sensCalComplete grid sums) s = .next (s.calComplete grid).lateNext := by
    rw [exec_sensCalComplete hbusy hstage (by decide) (by omega), if_pos hdue, if_neg (by decide)]
  have hvalidIn (k : Nat) : InSens (calValidF k).addr := by
    unfold calValidF chBit InSens
    split_ifs <;> simp
  have hkept (k : Nat) : (s.calComplete grid).lateNext.flag (calValidF k) = (s.calComplete grid).flag (calValidF k) :=
    congrArg (· == 1) (State.lateNext_get _ _ (hvalidIn k) fun _ => (calValidF_apart_side true k).1)
  refine ⟨_, hexec, fun hnot => ?_, fun k hk => (hkept k).trans (hvalid k hk), fun k hk hno => ?_,
    .after (State.lateNext_outside _) (.after hreach (.refl _ _ s)), fun h => ?_⟩
  · exact (State.lateNext_get _ _ (by cases grid <;> simp [InSens, calBusyF, sideF]) fun h => absurd (hlate.symm.trans h) hnot).trans hdone
  · rw [hkept, hvalid k hk] at hno
    refine (State.lateNext_get _ _ (by cases grid <;> simp [InSens]) fun _ => ?_).trans (hfail k hk hno)
    cases grid <;> decide
  · rw [State.lateNext_none (hlate.trans h)]
    exact hreach

end

/-- Settles O14: overloads, range writes, the monitor and the calibration, each as the branch of the model that its clause takes. -/
theorem overloadsMonitorAndCalibration : Obligations.OverloadsMonitorAndCalibration := by
  unfold Obligations.OverloadsMonitorAndCalibration
  exact ⟨fun s k => ⟨fun _ => modOverloadTrip_first, fun _ _ _ => modOverloadTrip_again, fun _ _ => modOverload_released, fun _ _ => rangeWrite_takes,
      fun _ _ => rangeWrite_same, fun _ _ => rangeWrite_refused⟩,
    fun s => ⟨fun _ => monitor_dwelled, fun _ => grdTemp_sampled, fun _ => sensCalStage_next, fun _ _ => sensCal_stored, fun _ _ => sensCal_late,
      fun _ _ => sensCal_ended⟩⟩

end Sys2Proof.Machine
end

section
/-!
Proofs about Courier's requests that read (chapter 20).
The proofs are elaborated in turn: in one text, proofs that wait for each other would each hold a thread.
-/

set_option Elab.async false

namespace Sys2Proof.Machine

/-! ### How a request is taken and answered (R631, R632) -/

/-- A request counted. -/
def State.courCount (s : State) : State := s.put F.COURH_CNT_REQ ((s.get F.COURH_CNT_REQ + 1) % 65536)

/-- The response that an answer makes, sent and kept. -/
def CourAns.reply (x : CourAns) (ty : Nat) (h : MsgHdr) : State :=
  (x.1.courSend h (x.1.courRsp ty h x.2.1 x.2.2)).courKeep h (x.1.courRsp ty h x.2.1 x.2.2)

/-- A frame of fields is a frame of fields that hold them. -/
theorem Keeps.coarsen {fs gs : List Fld} {ps : List Part} {s t : State} (h : Keeps fs ps s t) (hin : ∀ f ∈ fs, ∃ g ∈ gs, f.inside g) :
    Keeps gs ps s t :=
  ⟨fun x hx => h.1 x fun f hf => by obtain ⟨g, hg, hfg⟩ := hin f hf; exact Fld.inside_apart hfg (hx g hg), h.2⟩

section
variable {s t : State} {h : MsgHdr} {ty r : Nat} {p bs : List Byte} {k : State → CourAns} {x : CourAns}

theorem State.courCount_keeps (s : State) : Keeps [F.COURH_CNT_REQ] [] s s.courCount := .put' (.refl _ _ s)

@[simp] theorem State.courCount_req (s : State) : s.courCount.get F.COURH_CNT_REQ = (s.get F.COURH_CNT_REQ + 1) % 65536 := by
  refine (State.get_put_self _ _ _ (by decide)).trans ?_
  exact Nat.mod_eq_of_lt (Nat.mod_lt _ (by decide))

@[simp] theorem State.courCount_rsp (s : State) : s.courCount.get F.COURH_CNT_RSP = s.get F.COURH_CNT_RSP :=
  (s.courCount_keeps).get_eq _ (by decide)

@[simp] theorem State.courKept_courCount (s : State) (h : MsgHdr) : s.courCount.courKept h = s.courKept h := rfl

theorem Asked.take (hasked : Asked h s) : s.courTake ty h k = (k s.courCount).reply ty h := by
  obtain ⟨hup, hfor, hbroad, hkept⟩ := hasked
  have hnew : (s.put F.COURH_CNT_REQ ((s.get F.COURH_CNT_REQ + 1) % 65536)).courKept h = none := hkept
  simp only [State.courTake, hup, hfor, hnew, hbroad, Bool.not_true, Bool.or_self, Bool.false_eq_true, if_false]
  rfl

theorem State.courTake_of_not_taken (hno : s.courUp h.car = false ∨ s.courFor h = false) : s.courTake ty h k = s :=
  if_pos (by rcases hno with hno | hno <;> simp [hno])

theorem State.courTake_kept {y : Kept} (hup : s.courUp h.car = true) (hfor : s.courFor h = true) (hkept : s.courKept h = some y)
    (hrsp : y.rsp ≠ []) : s.courTake ty h k = s.courCount.courSend h y.rsp := by
  have hnew : (s.put F.COURH_CNT_REQ ((s.get F.COURH_CNT_REQ + 1) % 65536)).courKept h = some y := hkept
  have hfull : y.rsp.isEmpty = false := List.isEmpty_eq_false_iff.mpr hrsp
  simp only [State.courTake, hup, hfor, hnew, hfull, Bool.not_true, Bool.or_self, Bool.false_eq_true, if_false]
  rfl

/-! ### What sending and keeping leave -/

/-- A response counted and on its carrier. -/
def State.courSent (s : State) (bs : List Byte) : State :=
  { s.put F.COURH_CNT_RSP ((s.get F.COURH_CNT_RSP + 1) % 65536) with resp := { words := [], bytes := bs, result := bU8 bs 3, fault := false } }

theorem State.courSend_eq (s : State) (h : MsgHdr) (bs : List Byte) :
    s.courSend h bs = if h.car = .plc then (s.courSent bs).plcQueue h.txid.toNat h.src.toNat bs else s.courSent bs := rfl

theorem State.courSent_keeps (s : State) (bs : List Byte) : Keeps [F.COURH_CNT_RSP] [.resp] s (s.courSent bs) := .resp (.put' (.refl _ _ s)) _ (by simp)

/-- A response differs from the counted one in the powerline's queue at most. -/
theorem State.courSend_queued (s : State) (h : MsgHdr) (bs : List Byte) : ∃ q, s.courSend h bs = (s.courSent bs).modCour fun c => { c with queue := q } := by
  rw [State.courSend_eq]
  unfold State.plcQueue
  split_ifs
  · exact ⟨_, rfl⟩
  · exact ⟨s.cour.queue, rfl⟩
  · exact ⟨s.cour.queue, rfl⟩

theorem State.courSend_queue (s : State) (bs : List Byte) (hcar : h.car = .plc) (hon : s.plcOn = true) :
    (s.courSend h bs).cour.queue = s.cour.queue ++ msgFrames h.txid.toNat h.src.toNat bs := by
  have hon' : (s.courSent bs).plcOn = true := by
    have hframe := s.courSent_keeps bs
    rw [← hon]
    simp only [State.plcOn, hframe.get_eq F.SYS_PD_STATUS_DOMAIN_ON (by decide), hframe.flag_eq F.PLC_CTRL_EN (by decide),
      hframe.flag_eq F.PLC_STATUS_FENCED (by decide)]
  rw [State.courSend_eq, if_pos hcar, State.plcQueue, if_pos hon']
  rfl

theorem State.courSend_bytes (s : State) (h : MsgHdr) (bs : List Byte) : (s.courSend h bs).resp.bytes = bs := by
  obtain ⟨q, hq⟩ := s.courSend_queued h bs
  rw [hq]
  rfl

theorem State.courSend_cour (s : State) (h : MsgHdr) (bs : List Byte) : ∃ q, (s.courSend h bs).cour = { s.cour with queue := q } := by
  obtain ⟨q, hq⟩ := s.courSend_queued h bs
  exact ⟨q, by rw [hq]; rfl⟩

theorem State.courSend_rsp (s : State) (h : MsgHdr) (bs : List Byte) :
    (s.courSend h bs).get F.COURH_CNT_RSP = (s.get F.COURH_CNT_RSP + 1) % 65536 := by
  obtain ⟨q, hq⟩ := s.courSend_queued h bs
  rw [hq]
  refine (State.get_put_self s F.COURH_CNT_RSP _ (by decide)).trans ?_
  exact Nat.mod_eq_of_lt (Nat.mod_lt _ (by decide))

theorem State.courSend_keeps (s : State) (h : MsgHdr) (bs : List Byte) : Keeps [F.COURH_CNT_RSP] [.resp, .cour] s (s.courSend h bs) := by
  rw [State.courSend_eq]
  exact .ite' (.after (State.plcQueue_keeps ..) (.after (s.courSent_keeps bs) (.refl _ _ s))) (.after (s.courSent_keeps bs) (.refl _ _ s))

theorem CourAns.reply_frame (x : CourAns) (ty : Nat) (h : MsgHdr) : Keeps [F.COURH_CNT_RSP] [.resp, .cour] x.1 (x.reply ty h) :=
  .after (State.modCour_keeps ..) (State.courSend_keeps ..)

theorem State.courSend_req (s : State) (h : MsgHdr) (bs : List Byte) : (s.courSend h bs).get F.COURH_CNT_REQ = s.get F.COURH_CNT_REQ :=
  (s.courSend_keeps h bs).get_eq _ (by decide)

/-- The last response kept is the one found. -/
theorem State.courKept_courKeep (s : State) (h : MsgHdr) (bs : List Byte) : ((s.courKeep h bs).courKept h).map Kept.rsp = some bs := by
  have hmono : (s.courKeep h bs).mono = s.mono := rfl
  have hlive : s.mono < s.mono + 8000000000 := by omega
  unfold State.courKept
  rw [hmono]
  simp [State.courKeep, State.modCour, hlive]

/-- An answer to a request that was counted, and whose serving left both counters, is what `Answered` says. -/
theorem CourAns.reply_answered {x : CourAns} (hreq : x.1.get F.COURH_CNT_REQ = (s.get F.COURH_CNT_REQ + 1) % 65536)
    (hrsp : x.1.get F.COURH_CNT_RSP = s.get F.COURH_CNT_RSP) : Answered ty h x.2.1 x.2.2 s (x.reply ty h) := by
  have hbytes : (x.reply ty h).resp.bytes = x.1.courRsp ty h x.2.1 x.2.2 := State.courSend_bytes ..
  have haddr : (x.reply ty h).ownAddr = x.1.ownAddr := (x.reply_frame ty h).get_eq _ (by decide)
  have hplc : (x.reply ty h).plcOn = x.1.plcOn := by
    have hframe := x.reply_frame ty h
    simp only [State.plcOn, hframe.get_eq F.SYS_PD_STATUS_DOMAIN_ON (by decide), hframe.flag_eq F.PLC_CTRL_EN (by decide),
      hframe.flag_eq F.PLC_STATUS_FENCED (by decide)]
  refine ⟨?_, ?_, ?_, ?_, fun hcar hon => ⟨x.1.cour.queue, ?_⟩⟩
  · rw [hbytes, haddr]
    rfl
  · exact (State.courSend_req ..).trans hreq
  · exact (State.courSend_rsp ..).trans (by rw [hrsp])
  · rw [hbytes]
    exact State.courKept_courKeep ..
  · rw [hbytes]
    exact State.courSend_queue _ _ hcar (hplc.symm.trans hon)

/-- A request served with no change of the state but the count: the answer, and the frame. -/
theorem Asked.answers_plain (hasked : Asked h s) {r : Nat} {p : List Byte} (hk : k s.courCount = (s.courCount, r, p)) :
    Answered ty h r p s (s.courTake ty h k) ∧ Keeps [whole R.COURH_CNT] [.resp, .cour] s (s.courTake ty h k) := by
  rw [hasked.take, hk]
  refine ⟨CourAns.reply_answered s.courCount_req s.courCount_rsp, ?_⟩
  have hframe : Keeps [F.COURH_CNT_RSP, F.COURH_CNT_REQ] [.resp, .cour] s (CourAns.reply (s.courCount, r, p) ty h) :=
    .after (CourAns.reply_frame ..) (.after s.courCount_keeps (.refl _ _ s))
  exact hframe.toWhole (by simp)

/-! ### What the served requests read -/

theorem State.infoBytes_courCount (s : State) : s.courCount.infoBytes = s.infoBytes := by
  have hrd : ∀ a, a ≠ R.COURH_CNT → s.courCount.rd a = s.rd a := fun a ha => State.rd_wr_other _ _ _ _ ha
  have hget : ∀ g, F.COURH_CNT_REQ.apart g = true → s.courCount.get g = s.get g := fun g hg => s.courCount_keeps.get_eq g (by simpa using hg)
  have hview : ∀ a ∈ [R.SYS_ID, R.SYS_IMG_ID, R.SYS_FOYER, R.CUR_STATUS, R.GRID_RT_STATUS, R.PLINTH_STATUS], s.courCount.view a = s.view a := by
    intro a ha
    have hid : s.courCount.sysId = s.sysId := by simp only [State.sysId, hrd R.SYS_ID (by decide)]
    have hinj : s.courCount.injectAble = s.injectAble := by
      have hpins : s.courCount.pins = s.pins := rfl
      simp only [State.injectAble, hpins, hget F.SV_INFO_PERMIT (by decide)]
    have hprofile : s.courCount.profile = s.profile := by simp only [State.profile, State.imgFlags]; rfl
    simp only [List.mem_cons, List.not_mem_nil, or_false] at ha
    rcases ha with rfl | rfl | rfl | rfl | rfl | rfl
    · exact hid
    · exact hrd _ (by decide)
    · exact hrd _ (by decide)
    · show fput (fput _ _ _) _ _ = fput (fput _ _ _) _ _
      rw [hrd _ (by decide), hinj, hprofile]
    · exact hrd _ (by decide)
    · exact hrd _ (by decide)
  exact List.flatMap_congr fun a ha => congrArg wBytes (hview a ha)

theorem State.courRead_bad {s : State} (hbad : p.length ≠ 6 ∨ bU p 4 2 = 0 ∨ 1018 < bU p 4 2) : s.courRead p = (s, Cour.badArg, []) := if_pos hbad

/-- A run of words of the shared memory that are correctable is the answer (R628). -/
theorem State.courRead_sram {s : State} (hlen : p.length = 6) (hone : 1 ≤ bU p 4 2) (hmost : bU p 4 2 ≤ 1018) (hword : bU p 0 4 % 4 = 0)
    (hlo : 0x20000000 ≤ bU p 0 4) (hhi : bU p 0 4 + 4 * bU p 4 2 ≤ 0x20400000)
    (hecc : ∀ k, k < bU p 4 2 → s.eccBad (bU p 0 4 + 4 * k) = false) :
    s.courRead p = (s, 0, (List.range (bU p 4 2)).flatMap fun k => leBytes 4 (s.rdW (bU p 0 4 + 4 * k)).toNat) := by
  refine (if_neg (by omega)).trans ?_
  simp only [s.readRun_sram _ _ hword hlo hhi hecc, List.flatMap_map]
  rfl

theorem State.hostReads_rom {s : State} {a : Nat} (ha : a < 0x20000) : s.hostReads a = false := by
  have hrom : regionOf a = .rom := if_pos ha
  simp only [State.hostReads, hrom]

/-- A word below the end of the ROM is not reached: ACCESS, and 0 (R638). -/
theorem State.courRead_rom {s : State} (hlen : p.length = 6) (hone : bU p 4 2 = 1) (hrom : bU p 0 4 < 0x20000) :
    s.courRead p = (s.accessSet, Cour.access, List.replicate 4 0#8) := by
  refine (if_neg (by omega)).trans ?_
  have hmod : (bU p 0 4 + 4 * 0) % 2 ^ 32 = bU p 0 4 := by omega
  have hread : s.hostRead (bU p 0 4) = (s.accessSet, 0#32, false) := by
    simp only [State.hostRead, s.hostReads_rom (a := bU p 0 4 / 4 * 4) (by omega), Bool.false_eq_true, if_false]
  have hrun : s.readRun (bU p 0 4) 1 = (s.accessSet, [0#32], false) := by
    show ((s.hostRead ((bU p 0 4 + 4 * 0) % 2 ^ 32)).1, [] ++ [(s.hostRead ((bU p 0 4 + 4 * 0) % 2 ^ 32)).2.1],
      true && (s.hostRead ((bU p 0 4 + 4 * 0) % 2 ^ 32)).2.2) = _
    rw [hmod, hread]
    rfl
  rw [hone, hrun]
  rfl

theorem State.courLog_entries {s : State} (hlen : p.length = 5) (hone : 1 ≤ bU8 p 4) (hmost : bU8 p 4 ≤ 63) :
    s.courLog p = (s, 0, (List.range (bU8 p 4)).flatMap fun k =>
      ((s.logFind ((bU p 0 4 + k) % 2 ^ 32)).map fun j => s.rdBytes (logSlotAddr j) 64).getD []) := by
  refine (if_neg (by omega)).trans ?_
  refine congrArg (fun b => (s, 0, b)) (List.flatMap_congr fun k _ => ?_)
  generalize s.logFind ((bU p 0 4 + k) % 2 ^ 32) = slot
  cases slot <;> rfl

theorem State.courSv_free (hfree : s.svFenced = false ∧ s.svBusy 0 = false) : s.courSv k = k s := if_neg (by simp [hfree])

theorem State.courSv_busy (hbusy : s.svFenced = true ∨ s.svBusy 0 = true) : s.courSv k = (s, Cour.busy, []) :=
  if_pos (by rcases hbusy with hbusy | hbusy <;> simp [hbusy])

theorem State.courNoFoyer_serves (hout : s.inFoyer = false) : s.courNoFoyer k = k s := if_neg (by simp [hout])

theorem State.courNoFoyer_refuses (hin : s.inFoyer = true) : s.courNoFoyer k = (s, Cour.state, []) := if_pos hin

theorem State.svFenced_courCount (s : State) : s.courCount.svFenced = s.svFenced := by
  rw [State.svFenced, State.svFenced, State.courCount, State.put, State.rd_wr_other _ _ _ _ (by decide)]

theorem State.inFoyer_courCount (s : State) : s.courCount.inFoyer = s.inFoyer := s.courCount_keeps.flag_eq _ (by decide)

theorem State.devidReady_courCount (s : State) : s.courCount.flag F.SV_INFO_DEVID_READY = s.flag F.SV_INFO_DEVID_READY :=
  s.courCount_keeps.flag_eq _ (by decide)

/-- The attestation of a nonce of 32 bytes (R580). -/
theorem State.courAttest_signed {s : State} (hlen : p.length = 32) (hready : s.flag F.SV_INFO_DEVID_READY = true) :
    courOf (s.svAttest p) = (s, 0, s.attBody p ++ fixLen 2420 (Config.devidSign (sha3 (s.attBody p)))) := by
  simp only [State.svAttest, hlen, hready, ne_eq, not_true_eq_false, Bool.not_true, Bool.false_eq_true, if_false]
  rfl

/-! ### METER_READ (R628) -/

/-- The registers of the totals' high words are of the METER block, and reading them leaves all else. -/
def MeterRead (s t : State) : Prop := KeepsOutside [(R.METER_TOT_HI 0 3, R.METER_TOT_HI 4 3)] [] s t

/-- One total's two words. -/
def meterWords (x : State × List Byte) (q : Nat) : State × List Byte :=
  let r := x.1.totRead q 3
  (r.1, x.2 ++ wBytes r.2 ++ wBytes (r.1.rd (R.METER_TOT_HI q 3)))

theorem meterWords_reads {x : State × List Byte} {q : Nat} (hq : q < 4) (h : MeterRead s x.1) : MeterRead s (meterWords x q).1 :=
  KeepsOutside.wr' h ⟨_, List.mem_singleton_self _, by simp; omega⟩

theorem meterWords_length {x : State × List Byte} {q : Nat} : (meterWords x q).2.length = x.2.length + 8 := by
  simp only [meterWords, wBytes, List.length_append, leBytes_length]

/-- The four totals' words. -/
def State.meterTotals (s : State) : State × List Byte := meterWords (meterWords (meterWords (meterWords (s, []) 0) 1) 2) 3

theorem State.meterTotals_length (s : State) : s.meterTotals.2.length = 32 := by
  simp only [State.meterTotals, meterWords_length, List.length_nil]

theorem State.meterTotals_reads (s : State) : MeterRead s s.meterTotals.1 :=
  meterWords_reads (by decide) (meterWords_reads (by decide) (meterWords_reads (by decide) (meterWords_reads (by decide) (.refl _ _ s))))

theorem State.courMeter_eq (s : State) :
    s.courMeter = (s.meterTotals.1, 0, s.meterTotals.2 ++ wBytes (s.view R.METER_LATCH_NO) ++ wBytes (s.view R.METER_VAULT)) := by
  have hrun : (List.range 4).foldl meterWords (s, []) = s.meterTotals := rfl
  rw [← hrun]
  rfl

theorem State.courMeter_length (s : State) : s.courMeter.2.2.length = 40 := by
  rw [State.courMeter_eq]
  simp only [List.length_append, s.meterTotals_length, wBytes, leBytes_length]

/-! ### The reading requests (R628) -/

theorem asked_meter (hasked : Asked h s) (hout : s.inFoyer = false) :
    ∃ t b, exec (.courierMeterRead h []) s = .next t ∧ b.length = 40 ∧ Answered 7 h 0 b s t ∧
      KeepsOutside [zone R.METER_CTRL, zone R.COURH_STATUS] [.resp, .cour] s t := by
  have hserved : (s.courCount.courNoFoyer fun s => if ([] : List Byte) ≠ [] then (s, Cour.badArg, []) else s.courMeter) = s.courCount.courMeter :=
    State.courNoFoyer_serves (s.inFoyer_courCount.trans hout)
  have htake : s.courTake 7 h (fun s => s.courNoFoyer fun s => if ([] : List Byte) ≠ [] then (s, Cour.badArg, []) else s.courMeter) =
      s.courCount.courMeter.reply 7 h := hasked.take.trans (congrArg (fun x : CourAns => x.reply 7 h) hserved)
  have hreads : MeterRead s.courCount s.courCount.courMeter.1 := by
    rw [State.courMeter_eq]
    exact s.courCount.meterTotals_reads
  have hcnt : s.courCount.courMeter.1.rd R.COURH_CNT = s.courCount.rd R.COURH_CNT := hreads.1 _ (by simp)
  have hget : ∀ g : Fld, g.addr = R.COURH_CNT → s.courCount.courMeter.1.get g = s.courCount.get g := by
    intro g hg
    rw [State.get, State.get, hg, hcnt]
  have hfst : s.courCount.courMeter.2.1 = 0 := by rw [State.courMeter_eq]
  refine ⟨_, _, congrArg Host.Outcome.next htake, s.courCount.courMeter_length, ?_, ?_⟩
  · have hanswered : Answered 7 h s.courCount.courMeter.2.1 s.courCount.courMeter.2.2 s (s.courCount.courMeter.reply 7 h) :=
      CourAns.reply_answered ((hget _ rfl).trans s.courCount_req) ((hget _ rfl).trans s.courCount_rsp)
    rw [hfst] at hanswered
    exact hanswered
  · have hcount : KeepsOutside [zone R.METER_CTRL, zone R.COURH_STATUS] [.resp, .cour] s s.courCount := .put' (.refl _ _ s)
    have hmeter : KeepsOutside [zone R.METER_CTRL, zone R.COURH_STATUS] [] s.courCount s.courCount.courMeter.1 :=
      hreads.widen (by simp [zone])
    have hreply : KeepsOutside [zone R.METER_CTRL, zone R.COURH_STATUS] [.resp, .cour] s.courCount.courMeter.1 (s.courCount.courMeter.reply 7 h) :=
      Keeps.toOutside (CourAns.reply_frame ..) (by simp [zone])
    exact .comp hreply (.after hmeter hcount)

theorem asked_rom (hasked : Asked h s) (hlen : p.length = 6) (hone : bU p 4 2 = 1) (hrom : bU p 0 4 < 0x20000) :
    ∃ t, exec (.courierRead h p) s = .next t ∧ Answered 2 h 8 (List.replicate 4 0#8) s t ∧ t.get F.COURH_STICKY_ACCESS = 1 ∧
      Keeps [whole R.COURH_CNT, F.COURH_STICKY_ACCESS] [.resp, .cour] s t := by
  have htake : s.courTake 2 h (fun s => s.courRead p) = CourAns.reply (s.courCount.accessSet, 8, List.replicate 4 0#8) 2 h :=
    hasked.take.trans (congrArg (fun x : CourAns => x.reply 2 h) (State.courRead_rom hlen hone hrom))
  have hset : Keeps [F.COURH_STICKY_ACCESS] [] s.courCount s.courCount.accessSet := .set1' (.refl _ _ _)
  have hreply := CourAns.reply_frame (s.courCount.accessSet, 8, List.replicate 4 0#8) 2 h
  refine ⟨_, congrArg Host.Outcome.next htake, CourAns.reply_answered ?_ ?_, ?_, ?_⟩
  · exact (hset.get_eq _ (by decide)).trans s.courCount_req
  · exact (hset.get_eq _ (by decide)).trans s.courCount_rsp
  · exact (hreply.get_eq _ (by decide)).trans (State.get_put_self _ _ _ (by decide))
  · have hframe : Keeps [F.COURH_CNT_RSP, F.COURH_STICKY_ACCESS, F.COURH_CNT_REQ] [.resp, .cour] s _ :=
      .after hreply (.after hset (.after s.courCount_keeps (.refl _ _ s)))
    exact hframe.coarsen (by simp [Fld.inside, whole])

/-! ### Kept answers, broadcasts and bad messages (R627, R631, R632) -/

/-- The requests of the table are each taken the one way. -/
theorem exec_request (h : MsgHdr) (p : List Byte) (bad : Nat) {c : Instr}
    (hc : c ∈ [Instr.courierInfo h p, .courierRead h p, .courierWrite h p, .courierAttest h p, .courierDevidCert h p, .courierLogRead h p,
      .courierMeterRead h p, .courierReset h p, .courierStageBegin h p, .courierStageData h p, .courierStageEnd h p, .courierSelect h p,
      .courierConfirm h p bad]) : ∃ ty k, ∀ s, exec c s = .next (s.courTake ty h k) := by
  simp only [List.mem_cons, List.not_mem_nil, or_false] at hc
  rcases hc with rfl | rfl | rfl | rfl | rfl | rfl | rfl | rfl | rfl | rfl | rfl | rfl | rfl <;> exact ⟨_, _, fun _ => rfl⟩

theorem kept_answer {y : Kept} (hup : s.courUp h.car = true) (hfor : s.courFor h = true) (hkept : s.courKept h = some y) (hrsp : y.rsp ≠ []) :
    (s.courTake ty h k).resp.bytes = y.rsp ∧ (s.courTake ty h k).get F.COURH_CNT_REQ = (s.get F.COURH_CNT_REQ + 1) % 65536 ∧
      (s.courTake ty h k).get F.COURH_CNT_RSP = (s.get F.COURH_CNT_RSP + 1) % 65536 ∧ (s.courTake ty h k).cour.kept = s.cour.kept ∧
      Keeps [whole R.COURH_CNT] [.resp, .cour] s (s.courTake ty h k) := by
  rw [State.courTake_kept hup hfor hkept hrsp]
  refine ⟨State.courSend_bytes .., (State.courSend_req ..).trans s.courCount_req, ?_, ?_, ?_⟩
  · rw [State.courSend_rsp, State.courCount_rsp]
  · obtain ⟨q, hq⟩ := s.courCount.courSend_cour h y.rsp
    rw [hq]
    rfl
  · have hframe : Keeps [F.COURH_CNT_RSP, F.COURH_CNT_REQ] [.resp, .cour] s _ :=
      .after (State.courSend_keeps s.courCount h y.rsp) (.after s.courCount_keeps (.refl _ _ s))
    exact hframe.toWhole (by simp)

theorem broadcast_info (hup : s.courUp h.car = true) (hbroad : msgBroad h = true) (hkept : s.courKept h = none) :
    ∃ t d, exec (.courierInfo h []) s = .next t ∧ d ≤ 200 ∧ t.cour.bcast = s.cour.bcast ++ [(h, s.mono + d * 8000000)] ∧ t.resp = s.resp ∧
      Keeps [F.COURH_CNT_REQ] [.draws, .cour] s t := by
  have hfor : s.courFor h = true := by simp [State.courFor, hbroad]
  have hnew : (s.put F.COURH_CNT_REQ ((s.get F.COURH_CNT_REQ + 1) % 65536)).courKept h = none := hkept
  have htake : s.courTake 1 h (fun s => if ([] : List Byte) ≠ [] then (s, Cour.badArg, []) else if msgBroad h then
      ((s.drew).modCour fun c => { c with bcast := c.bcast ++ [(h, s.mono + s.drawn % 201 * 8000000)] }, 0, []) else (s, 0, s.infoBytes)) =
      ((s.courCount.drew).modCour fun c => { c with bcast := c.bcast ++ [(h, s.courCount.mono + s.courCount.drawn % 201 * 8000000)] }).courKeep h [] := by
    simp only [State.courTake, hup, hfor, hnew, hbroad, Bool.not_true, Bool.or_self, Bool.false_eq_true, if_false, if_true, ne_eq,
      not_true_eq_false]
    rfl
  refine ⟨_, s.courCount.drawn % 201, congrArg Host.Outcome.next htake, by omega, rfl, rfl, ?_⟩
  exact .after (State.modCour_keeps ..) (.after (State.modCour_keeps ..) (.drew' (.after s.courCount_keeps (.refl _ _ s))))

theorem broadcast_reply {d : Nat} {rest : List (MsgHdr × Nat)} (hfirst : s.cour.bcast = (h, d) :: rest) (hdue : d ≤ s.mono)
    (hup : s.courUp h.car = true) :
    ∃ t, exec .courierBroadcastInfoReply s = .next t ∧ t.cour.bcast = rest ∧
      t.resp.bytes = msgBytes 1 1 0 h.txid.toNat s.ownAddr h.src.toNat s.infoBytes ∧ Keeps [F.COURH_CNT_RSP] [.resp, .cour] s t := by
  have hexec : exec .courierBroadcastInfoReply s = .next (((s.courSend h (s.courRsp 1 h 0 s.infoBytes)).courKeepAt h
      (s.courRsp 1 h 0 s.infoBytes)).modCour fun c => { c with bcast := rest }) := by
    change execCourierBroadcastInfoReply s = _
    unfold execCourierBroadcastInfoReply
    rw [hfirst]
    exact if_pos (by simp [hdue, hup])
  refine ⟨_, hexec, rfl, State.courSend_bytes .., ?_⟩
  exact .after (State.modCour_keeps ..) (.after (State.modCour_keeps ..) (State.courSend_keeps ..))

theorem broadcast_waits {d : Nat} {rest : List (MsgHdr × Nat)} (hfirst : s.cour.bcast = (h, d) :: rest)
    (hwait : s.mono < d ∨ s.courUp h.car = false) : exec .courierBroadcastInfoReply s = .next s := by
  change execCourierBroadcastInfoReply s = _
  unfold execCourierBroadcastInfoReply
  rw [hfirst]
  refine if_neg ?_
  rcases hwait with hwait | hwait
  · simp; omega
  · simp [hwait]

theorem unknown_type {ty : BitVec 8} (hasked : Asked h s) (hnone : courTypes.contains ty.toNat = false) :
    ∃ t, exec (.courierUnknownType h ty) s = .next t ∧ Answered ty.toNat h (if s.inFoyer then 7 else 1) [] s t ∧
      Keeps [whole R.COURH_CNT] [.resp, .cour] s t := by
  have hserved : (s.courCount.courNoFoyer fun s => (s, Cour.badType, [])) = (s.courCount, if s.inFoyer then 7 else 1, []) := by
    rw [State.courNoFoyer, s.inFoyer_courCount]
    split <;> rfl
  exact ⟨_, if_neg (by rw [hnone]; decide), hasked.answers_plain hserved⟩

end

/-- Settles O50: a request that is new is counted, served on the state that is left, answered and kept. -/
theorem courierReads : Obligations.CourierReads := by
  unfold Obligations.CourierReads
  intro s h
  refine ⟨fun hasked => ⟨?_, ?_, ?_, ?_, ?_, ?_, ?_, ?_, fun hout => asked_meter hasked hout, ?_, fun ty hnone => unknown_type hasked hnone⟩,
    ?_, fun hup hbroad hkept => broadcast_info hup hbroad hkept, fun d rest hfirst hwait => broadcast_waits hfirst hwait,
    fun d rest hfirst hdue hup => broadcast_reply hfirst hdue hup, ?_, ?_, ?_⟩
  · have hinfo : (fun s : State => if ([] : List Byte) ≠ [] then (s, Cour.badArg, []) else if msgBroad h then
        ((s.drew).modCour fun c => { c with bcast := c.bcast ++ [(h, s.mono + s.drawn % 201 * 8000000)] }, 0, []) else (s, 0, s.infoBytes))
        s.courCount = (s.courCount, 0, s.infoBytes) := by
      simp only [hasked.2.2.1, ne_eq, not_true_eq_false, Bool.false_eq_true, if_false, s.infoBytes_courCount]
    exact ⟨_, rfl, hasked.answers_plain hinfo⟩
  · intro p hlen hone hmost hword hlo hhi hecc
    exact ⟨_, rfl, hasked.answers_plain (State.courRead_sram hlen hone hmost hword hlo hhi hecc)⟩
  · exact fun p hbad => ⟨_, rfl, hasked.answers_plain (State.courRead_bad hbad)⟩
  · exact fun p hlen hone hrom => asked_rom hasked hlen hone hrom
  · intro p hlen hfenced hbusy hready
    have hserved : (s.courCount.courSv fun s => courOf (s.svAttest p)) = _ :=
      (State.courSv_free ⟨s.svFenced_courCount.trans hfenced, hbusy⟩).trans (State.courAttest_signed hlen (s.devidReady_courCount.trans hready))
    exact ⟨_, _, rfl, State.attBody_length .., (State.attBody_nonce ..).trans (fixLen_of_length hlen), hasked.answers_plain hserved⟩
  · intro hfenced hbusy
    have hserved : (fun s : State => if ([] : List Byte) ≠ [] then (s, Cour.badArg, []) else
        s.courSv fun s => (s, 0, fixLen 3796 Config.devidCert)) s.courCount = _ :=
      (if_neg (by simp)).trans (State.courSv_free ⟨s.svFenced_courCount.trans hfenced, hbusy⟩)
    exact ⟨_, rfl, hasked.answers_plain hserved⟩
  · intro hbusy p
    have hbusy' : s.courCount.svFenced = true ∨ s.courCount.svBusy 0 = true := hbusy.imp s.svFenced_courCount.trans id
    have hcert : (fun s : State => if ([] : List Byte) ≠ [] then (s, Cour.badArg, []) else
        s.courSv fun s => (s, 0, fixLen 3796 Config.devidCert)) s.courCount = (s.courCount, Cour.busy, []) :=
      (if_neg (by simp)).trans (State.courSv_busy hbusy')
    exact ⟨⟨_, rfl, hasked.answers_plain (State.courSv_busy hbusy')⟩, _, rfl, hasked.answers_plain hcert⟩
  · exact fun p hlen hone hmost => ⟨_, rfl, hasked.answers_plain (State.courLog_entries hlen hone hmost)⟩
  · exact fun hin => ⟨_, rfl, hasked.answers_plain (State.courNoFoyer_refuses (s.inFoyer_courCount.trans hin))⟩
  · intro p bad c hc
    obtain ⟨ty, k, hexec⟩ := exec_request h p bad hc
    refine ⟨fun hno => (hexec s).trans (congrArg Host.Outcome.next (State.courTake_of_not_taken hno)), fun y hup hfor hkept hrsp => ?_⟩
    exact ⟨_, hexec s, kept_answer hup hfor hkept hrsp⟩
  · intro hnone
    change execCourierBroadcastInfoReply s = _
    unfold execCourierBroadcastInfoReply
    rw [hnone]
  · exact fun car b hup hbad => ⟨_, if_pos (by simp [hup, hbad]), State.get_put_self _ _ _ (by decide), .set1' (.refl _ _ s)⟩
  · exact fun car b hno => if_neg (by rcases hno with hno | hno <;> simp [hno])

end Sys2Proof.Machine
end

section
/-!
Proofs about the assertion of a SYSTEM reset (chapter 19).
The proofs are elaborated in turn: in one text, proofs that wait for each other would each hold a thread.
-/

set_option Elab.async false

namespace Sys2Proof.Machine

/-! # The assertion of a SYSTEM reset (R603): the outputs at their safe levels, both pairs stopped -/

theorem State.laneSafe_outside (s : State) (l : ℕ) (hl : l < 6) :
    KeepsOutside [zone R.LANE_STATUS] [.drive] s (s.laneSafe l) :=
  .ite' (.put' (.refl _ _ _)) (.after (State.laneTrip_outside _ _ _ (by omega)) (.refl _ _ _))

theorem State.outputsSafe_outside (s : State) :
    KeepsOutside [zone (R.PWM_CTRL 0), zone R.DRV_STATUS, zone R.DIAG_MAINT_REQ, zone R.GRID_CFG, zone R.RELAY_CFG, zone R.LANE_STATUS] [.pwm, .shadow, .drive, .diag, .mem, .relay] s s.outputsSafe :=
  .after (State.noteHolds_outside ..) (.after (State.relaysOff_outside ..) (.forEach' (.forEach' (.forEach' (.refl _ _ _) (fun x hx _ => have hx := List.mem_range.1 hx; .after (State.stopUnit_outside _ _ (by omega)) (.refl _ _ _))) (fun x hx _ => have hx := List.mem_range.1 hx; .after (State.hbOff_outside _ _ (by omega)) (.refl _ _ _))) (fun x hx _ => have hx := List.mem_range.1 hx; .after (State.laneSafe_outside _ _ (by omega)) (.refl _ _ _))))

theorem State.modHok_outside (s : State) (q : ℕ) (f : Hok → Hok) :
    KeepsOutside [] [.hok] s (s.modHok q f) :=
  .beside' (.refl _ _ _)

theorem State.vaultPartial_outside (s : State) :
    KeepsOutside [] [.meter, .draws, .mem] s s.vaultPartial :=
  .ite' (.after (State.vaultNext_outside ..) (.after (State.vaultPut_outside ..) (.refl _ _ _))) (.after (State.vaultNext_outside ..) (.after (State.vaultPut_outside ..) (.drew' (.refl _ _ _))))

/-- An abort of a compaction, with or without one that runs. -/
theorem State.compactAbort_outside (s : State) : KeepsOutside [zone R.DIAG_MAINT_REQ] [] s (s.maintAbort Act.vaultCompact) :=
  .ite' (.refl _ _ _) (State.maintEnd_outside _ _ _ (by decide))

theorem State.meterWarn_outside (s : State) : KeepsOutside [zone R.DIAG_MAINT_REQ] [.mem, .meter, .draws] s s.meterWarn :=
  .comp (.ite' (.refl _ _ _) (.comp (.ite' (.after (State.modMeter_outside ..) (.refl _ _ _)) (.refl _ _ _)) (.after (State.vaultPartial_outside ..) (.refl _ _ _))))
    (.after (State.compactAbort_outside _) (.refl _ _ _))

/-! ### The outputs at their safe levels -/

/-- Both gates of every half-bridge are off. -/
def State.gatesStopped (s : State) : State := s.unitsStopped.forEach (List.range 8) State.hbOff

/-- The lanes are disabled. -/
def State.lanesSafe (s : State) : State := s.forEach (List.range 6) State.laneSafe

theorem State.outputsSafe_eq (s : State) : s.outputsSafe = s.gatesStopped.lanesSafe.relaysOff.noteHolds := rfl

theorem State.lanesSafe_outside (s : State) : KeepsOutside [zone R.LANE_STATUS] [.drive] s s.lanesSafe :=
  .forEach' (.refl _ _ _) fun _ hl _ => .after (State.laneSafe_outside _ _ (List.mem_range.1 hl)) (.refl _ _ _)

theorem State.gatesStopped_off (s : State) {h : Nat} (hh : h < 8) : s.gatesStopped.gatesOff h :=
  State.forEach_at (P := fun _ => True) (Q := fun t => t.gatesOff h) List.nodup_range (List.mem_range.2 hh) (fun _ _ _ _ _ => trivial)
    (fun t _ => t.hbOff_gates h)
    (fun k hk hne t ht => ⟨((t.hbOff_keeps k).get_eq _ (by simp; omega)).trans ht.1, ((t.hbOff_keeps k).get_eq _ (by simp; omega)).trans ht.2⟩)
    s.unitsStopped trivial

theorem State.gatesStopped_outside (s : State) : KeepsOutside [zone R.DRV_STATUS] [.drive] s.unitsStopped s.gatesStopped :=
  .forEach' (.refl _ _ _) fun _ hk _ => .after (State.hbOff_outside _ _ (List.mem_range.1 hk)) (.refl _ _ _)

/-- What follows the stop of the units and gates. -/
theorem State.safeAfterGates_outside (s : State) : KeepsOutside [zone R.LANE_STATUS, zone R.GRID_CFG, zone R.RELAY_CFG] [.drive, .relay, .pwm, .diag]
    s.gatesStopped s.outputsSafe :=
  .after (State.noteHolds_outside ..) (.after (State.relaysOff_outside ..) (.after (State.lanesSafe_outside _) (.refl _ _ _)))

theorem State.outputsSafe_units (s : State) {u : Nat} (hu : u < 14) (h : s.pwmState u ≠ 3) : s.outputsSafe.pwmState u = 0 :=
  (s.safeAfterGates_outside.get_eq _ (by simp; omega)).trans ((s.gatesStopped_outside.get_eq _ (by simp; omega)).trans (s.unitsStopped_stops hu h))

theorem State.outputsSafe_gates (s : State) {h : Nat} (hh : h < 8) : s.outputsSafe.gatesOff h :=
  State.gatesOff_of_outside (s.gatesStopped_off hh) s.safeAfterGates_outside (by simp; omega)

theorem State.outputsSafe_relays (s : State) : s.outputsSafe.get F.RELAY_STATUS_K1_CMD = 0 ∧ s.outputsSafe.get F.RELAY_STATUS_K2_CMD = 0 := by
  obtain ⟨h1, h2, -⟩ := s.gatesStopped.lanesSafe.relaysOff_cmds
  have hholds := State.noteHolds_outside s.gatesStopped.lanesSafe.relaysOff
  exact ⟨(hholds.get_eq _ (by simp)).trans h1, (hholds.get_eq _ (by simp)).trans h2⟩

/-! ### The assertion -/

/-- The zones that the assertion reaches outside the registers of the device's own block. -/
def assertZones : List (Nat × Nat) := [zone R.DIAG_MAINT_REQ, zone R.DRV_STATUS, zone R.GRID_CFG, zone R.LANE_STATUS,
  zone (R.PWM_CTRL 0), zone R.RELAY_CFG, zone R.SENSG_STATUS, zone R.SENSP_STATUS, zone R.WCMPG_STATUS, zone R.WCMPP_STATUS]

/-- The parts that the assertion reaches. -/
def assertParts : List Part := [.mem, .shadow, .draws, .pwm, .sens, .wcmp, .drive, .diag, .relay, .meter, .start, .hok]

theorem State.meterWarn_assert (s : State) : KeepsOutside assertZones assertParts s s.meterWarn := .after (State.meterWarn_outside _) (.refl _ _ _)

theorem State.outputsSafe_assert (s : State) : KeepsOutside assertZones assertParts s s.outputsSafe := .after (State.outputsSafe_outside _) (.refl _ _ _)

/-- Both pairs are held, from now on. -/
def State.pairsHeld (s : State) : State :=
  ((s.modHok 0 fun k => { k with run := false }).modHok 1 fun k => { k with run := false }).modStart fun p => { p with resetAt := some s.mono }

theorem State.pairsHeld_keeps (s : State) : KeepsOutside [] [.hok, .start] s s.pairsHeld :=
  .beside' (.after (State.modHok_outside ..) (.after (State.modHok_outside ..) (.refl _ _ _)))

theorem State.pairsHeld_hok (s : State) :
    s.pairsHeld.hok = ((s.modHok 0 fun k => { k with run := false }).modHok 1 fun k => { k with run := false }).hok := rfl

theorem State.pairsHeld_low (s : State) : s.pairsHeld.start.pinLow = s.start.pinLow := rfl

theorem State.pairsHeld_run (s : State) {q : Nat} (hq : q < 2) : (s.pairsHeld.hok.get q).run = false := by
  obtain rfl | rfl : q = 0 ∨ q = 1 := by omega
  · rw [s.pairsHeld_hok, State.hok_modHok_other _ _ _ _ (by decide), State.hok_modHok_same]
  · rw [s.pairsHeld_hok, State.hok_modHok_same]

/-- A SYSTEM reset is asserted: the time, the pairs, the units, the gates and the relays. -/
structure Asserted (s t : State) : Prop where
  at_ : t.start.resetAt = some s.mono
  low : t.start.pinLow = s.start.pinLow
  held : ∀ q < 2, (t.hok.get q).run = false
  units : ∀ u < 14, s.pwmState u ≠ 3 → t.pwmState u = 0
  gates : ∀ h < 8, t.gatesOff h
  relays : t.get F.RELAY_STATUS_K1_CMD = 0 ∧ t.get F.RELAY_STATUS_K2_CMD = 0
  frame : KeepsOutside assertZones assertParts s t

theorem State.sysAssert_asserts {s : State} (h : s.start.resetAt = none) : Asserted s s.sysAssert := by
  have hassert : s.sysAssert = s.meterWarn.outputsSafe.pairsHeld := if_neg (by simp [h])
  have hwarn := s.meterWarn_assert
  have hframe : KeepsOutside assertZones assertParts s s.meterWarn.outputsSafe := .comp s.meterWarn.outputsSafe_assert hwarn
  have hstart : KeepsOutside assertZones [.mem, .shadow, .draws, .pwm, .sens, .wcmp, .drive, .diag, .relay, .meter] s s.meterWarn.outputsSafe :=
    .after (State.outputsSafe_outside _) (.after (State.meterWarn_outside _) (.refl _ _ _))
  have hheld := s.meterWarn.outputsSafe.pairsHeld_keeps
  rw [hassert]
  refine ⟨?_, ?_, fun q hq => State.pairsHeld_run _ hq, fun u hu hst => ?_, fun k hk => ?_, ?_, ?_⟩
  · exact congrArg some hframe.mono_eq
  · have hkept : s.meterWarn.outputsSafe.start = s.start := hstart.2 .start (by decide)
    rw [State.pairsHeld_low, hkept]
  · exact (hheld.get_eq _ (by simp)).trans (s.meterWarn.outputsSafe_units hu (ne_of_eq_of_ne (s.meterWarn_outside.get_eq _ (by simp; omega)) hst))
  · exact State.gatesOff_of_outside (s.meterWarn.outputsSafe_gates hk) hheld (by simp)
  · obtain ⟨h1, h2⟩ := s.meterWarn.outputsSafe_relays
    exact ⟨(hheld.get_eq _ (by simp)).trans h1, (hheld.get_eq _ (by simp)).trans h2⟩
  · exact .after hheld hframe

end Sys2Proof.Machine
end

section
/-!
Proofs about Courier's requests that act (chapter 20).
The proofs are elaborated in turn: in one text, proofs that wait for each other would each hold a thread.
-/

set_option Elab.async false

namespace Sys2Proof.Machine

/-! # O51: Courier's requests that act (chapter 20) -/

/-! ### A request under an AUTH record (R635) -/

section
variable {s : State} {h : MsgHdr} {ty : Nat} {p : List Byte} {k : State → List Byte → CourAns}

/-- The state on which an authorised request is served: counted, and its signer's counter advanced. -/
def State.courAuthed (s : State) (p : List Byte) : State := s.courCount.modSv fun v => { v with replay := v.replay.set (bU p 6 2) (bU p 8 8) }

theorem bU_take (p : List Byte) {a n m : Nat} (h : a + n ≤ m) : bU (p.take m) a n = bU p a n := by
  rw [bU, bU, List.drop_take, List.take_take, Nat.min_eq_left (by omega)]

theorem State.authCheck_courCount (s : State) (rcd : List Byte) (op : Nat) (args : List Byte) :
    s.courCount.authCheck rcd op args = s.authCheck rcd op args := rfl

theorem State.courAuth_passes (hpass : Authorised ty h p s) : s.courCount.courAuth ty h p k = k (s.courAuthed p) (p.drop 2500) := by
  obtain ⟨hauth, hlen, hfenced, hbusy, hcheck⟩ := hpass
  have hrecord : ¬ (!h.auth || decide (p.length < 2500)) = true := by simp [hauth]; omega
  have hfree : ¬ (s.courCount.svFenced || s.courCount.svBusy 0) = true := by
    have hbusy' : s.courCount.svBusy 0 = false := hbusy
    simp [s.svFenced_courCount, hfenced, hbusy']
  have htake : s.courCount.authTake (p.take 2500) 0 = s.courAuthed p := by
    rw [State.authTake_zero, bU_take p (by decide), bU_take p (by decide)]
    rfl
  refine (if_neg hrecord).trans ((if_neg hfree).trans ?_)
  rw [State.authCheck_courCount, hcheck]
  dsimp only
  rw [htake]
  exact if_pos rfl

theorem State.courAuth_none (hno : h.auth = false ∨ p.length < 2500) : s.courCount.courAuth ty h p k = (s.courCount, Cour.authFail, []) :=
  if_pos (by rcases hno with hno | hno <;> simp [hno])

theorem State.courAuth_fails (hauth : h.auth = true) (hlen : 2500 ≤ p.length) (hfenced : s.svFenced = false) (hbusy : s.svBusy 0 = false)
    (hcheck : s.authCheck (p.take 2500) (0x100 + ty) (p.drop 2500) = 3) :
    s.courCount.courAuth ty h p k = (s.courCount.set1 F.SV_STICKY_AUTH_FAIL, Cour.authFail, []) := by
  have hrecord : ¬ (!h.auth || decide (p.length < 2500)) = true := by simp [hauth]; omega
  have hfree : ¬ (s.courCount.svFenced || s.courCount.svBusy 0) = true := by
    have hbusy' : s.courCount.svBusy 0 = false := hbusy
    simp [s.svFenced_courCount, hfenced, hbusy']
  refine (if_neg hrecord).trans ((if_neg hfree).trans ?_)
  rw [State.authCheck_courCount, hcheck]
  rfl

theorem State.courAuthed_keeps (s : State) (p : List Byte) : Keeps [F.COURH_CNT_REQ] [.sv] s (s.courAuthed p) := .modSv' (.after s.courCount_keeps (.refl _ _ s))

end

/-! ### An answer after a change of the state -/

section
variable {s : State} {h : MsgHdr} {ty : Nat} {k : State → CourAns} {x : CourAns} {fs : List Fld} {ps : List Part}

theorem Asked.serves {c : Instr} {u : State} {r : Nat} {b : List Byte} (hasked : Asked h s) (hexec : exec c s = .next (s.courTake ty h k))
    (hk : k s.courCount = (u, r, b)) (hx : Keeps fs ps s.courCount u)
    (hreq : ∀ f ∈ fs, f.apart F.COURH_CNT_REQ = true) (hrsp : ∀ f ∈ fs, f.apart F.COURH_CNT_RSP = true) :
    exec c s = .next (CourAns.reply (u, r, b) ty h) ∧ Answered ty h r b s (CourAns.reply (u, r, b) ty h) ∧
      Keeps (whole R.COURH_CNT :: fs) (.resp :: .cour :: ps) s (CourAns.reply (u, r, b) ty h) := by
  have hcount : Keeps (whole R.COURH_CNT :: fs) (.resp :: .cour :: ps) s s.courCount :=
    (Keeps.after (fs := F.COURH_CNT_REQ :: fs) s.courCount_keeps (.refl _ (.resp :: .cour :: ps) s)).coarsen
      (by simp [Fld.inside, whole]; exact fun f hf => .inr ⟨f, hf, by simp⟩)
  have hreply : Keeps (whole R.COURH_CNT :: fs) (.resp :: .cour :: ps) u (CourAns.reply (u, r, b) ty h) :=
    (Keeps.after (fs := F.COURH_CNT_RSP :: fs) (CourAns.reply_frame (u, r, b) ty h) (.refl _ (.resp :: .cour :: ps) _)).coarsen
      (by simp [Fld.inside, whole]; exact fun f hf => .inr ⟨f, hf, by simp⟩)
  refine ⟨hexec.trans (congrArg Host.Outcome.next (hasked.take.trans (by rw [hk]))), ?_, .comp hreply (.after hx hcount)⟩
  exact CourAns.reply_answered ((hx.get_eq _ hreq).trans s.courCount_req) ((hx.get_eq _ hrsp).trans s.courCount_rsp)

theorem CourAns.reply_cour (x : CourAns) (ty : Nat) (h : MsgHdr) : ∃ q l, (x.reply ty h).cour = { x.1.cour with queue := q, kept := l } := by
  obtain ⟨q, hq⟩ := x.1.courSend_cour h (x.1.courRsp ty h x.2.1 x.2.2)
  have hkeep : (x.reply ty h).cour = { (x.1.courSend h (x.1.courRsp ty h x.2.1 x.2.2)).cour with kept := (x.reply ty h).cour.kept } := rfl
  exact ⟨q, (x.reply ty h).cour.kept, hkeep.trans (by rw [hq])⟩

theorem CourAns.reply_get (x : CourAns) (ty : Nat) (h : MsgHdr) (g : Fld) (hg : F.COURH_CNT_RSP.apart g = true) :
    (x.reply ty h).get g = x.1.get g := (x.reply_frame ty h).get_eq g (by simpa using hg)

theorem CourAns.reply_sv (x : CourAns) (ty : Nat) (h : MsgHdr) : (x.reply ty h).sv = x.1.sv := (x.reply_frame ty h).2 .sv (by decide)

theorem CourAns.reply_mem (x : CourAns) (ty : Nat) (h : MsgHdr) : (x.reply ty h).mem = x.1.mem := by
  obtain ⟨q, hq⟩ := x.1.courSend_queued h (x.1.courRsp ty h x.2.1 x.2.2)
  have hkeep : (x.reply ty h).mem = (x.1.courSend h (x.1.courRsp ty h x.2.1 x.2.2)).mem := rfl
  rw [hkeep, hq]
  rfl

theorem CourAns.reply_session (x : CourAns) (ty : Nat) (h : MsgHdr) : (x.reply ty h).cour.session = x.1.cour.session := by
  obtain ⟨q, l, hcour⟩ := x.reply_cour ty h
  rw [hcour]

theorem CourAns.reply_reset (x : CourAns) (ty : Nat) (h : MsgHdr) : (x.reply ty h).cour.reset = x.1.cour.reset ∧
    (x.reply ty h).cour.resetTx = x.1.cour.resetTx := by
  obtain ⟨q, l, hcour⟩ := x.reply_cour ty h
  rw [hcour]
  exact ⟨rfl, rfl⟩

end

/-! ### RESET, the failed record and the Foyer state (R635, R636, R647) -/

section
variable {s : State} {h : MsgHdr} {p : List Byte}

/-- The state in which a reset is due. -/
def State.resetDue (s : State) (h : MsgHdr) (kind : Nat) : State :=
  s.modCour fun c => { c with reset := some (kind, s.mono + 800000), resetTx := if h.car = .plc then some h.txid.toNat else none }

theorem asked_reset (hasked : Asked h s) (hpass : Authorised 8 h p s) (hkind : p.drop 2500 = [1#8] ∨ p.drop 2500 = [3#8]) :
    ∃ t, exec (.courierReset h p) s = .next t ∧ t.cour.reset = some (bU8 (p.drop 2500) 0, s.mono + 800000) ∧
      t.cour.resetTx = (if h.car = .plc then some h.txid.toNat else none) ∧ Answered 8 h 0 [] s t ∧ Keeps [whole R.COURH_CNT] [.resp, .sv, .cour] s t := by
  have hx : Keeps [] [.sv, .cour] s.courCount ((s.courAuthed p).resetDue h (bU8 (p.drop 2500) 0)) :=
    .after (State.modCour_keeps ..) (.modSv' (.refl _ _ _))
  obtain ⟨htake, hanswered, hframe⟩ := hasked.serves (c := .courierReset h p) rfl ((State.courAuth_passes hpass).trans (if_pos hkind)) hx
    (by simp) (by simp)
  obtain ⟨hreset, htx⟩ := CourAns.reply_reset ((s.courAuthed p).resetDue h (bU8 (p.drop 2500) 0), 0, []) 8 h
  exact ⟨_, htake, hreset, htx, hanswered, .after hframe (.refl _ _ s)⟩

/-- The requests under a record, each with the type and the way its payload is served. -/
theorem exec_authorised {x : Nat × (List Byte → Instr)} (hout : s.inFoyer = false)
    (hx : x ∈ [(3, fun p => Instr.courierWrite h p), (8, fun p => .courierReset h p), (9, fun p => .courierStageBegin h p),
      (0x0C, fun p => .courierSelect h p), (0x0D, fun p => .courierConfirm h p 0)]) (p : List Byte) :
    ∃ k kk, exec (x.2 p) s = .next (s.courTake x.1 h k) ∧ k s.courCount = s.courCount.courAuth x.1 h p kk := by
  have hout' := s.inFoyer_courCount.trans hout
  simp only [List.mem_cons, List.not_mem_nil, or_false] at hx
  rcases hx with rfl | rfl | rfl | rfl | rfl
  · exact ⟨_, _, rfl, State.courNoFoyer_serves hout'⟩
  · exact ⟨_, _, rfl, rfl⟩
  · exact ⟨_, _, rfl, rfl⟩
  · exact ⟨_, _, rfl, rfl⟩
  · exact ⟨_, _, rfl, State.courNoFoyer_serves hout'⟩

theorem asked_failed {x : Nat × (List Byte → Instr)} (hasked : Asked h s) (hout : s.inFoyer = false)
    (hx : x ∈ [(3, fun p => Instr.courierWrite h p), (8, fun p => .courierReset h p), (9, fun p => .courierStageBegin h p),
      (0x0C, fun p => .courierSelect h p), (0x0D, fun p => .courierConfirm h p 0)]) :
    (∀ p, (h.auth = false ∨ p.length < 2500) →
      ∃ t, exec (x.2 p) s = .next t ∧ Answered x.1 h 3 [] s t ∧ Keeps [whole R.COURH_CNT] [.resp, .cour] s t) ∧
    (∀ p, h.auth = true → 2500 ≤ p.length → s.svFenced = false → s.svBusy 0 = false →
      s.authCheck (p.take 2500) (0x100 + x.1) (p.drop 2500) = 3 →
      ∃ t, exec (x.2 p) s = .next t ∧ Answered x.1 h 3 [] s t ∧ t.get F.SV_STICKY_AUTH_FAIL = 1 ∧
        Keeps [whole R.COURH_CNT, F.SV_STICKY_AUTH_FAIL] [.resp, .cour] s t) := by
  refine ⟨fun p hno => ?_, fun p hauth hlen hfenced hbusy hcheck => ?_⟩
  · obtain ⟨k, kk, hexec, hk⟩ := exec_authorised hout hx p
    obtain ⟨hrun, hanswered, hframe⟩ := hasked.serves hexec (hk.trans (State.courAuth_none hno)) (.refl [] [] _) (by simp) (by simp)
    exact ⟨_, hrun, hanswered, hframe⟩
  · obtain ⟨k, kk, hexec, hk⟩ := exec_authorised hout hx p
    have hset : Keeps [F.SV_STICKY_AUTH_FAIL] [] s.courCount (s.courCount.set1 F.SV_STICKY_AUTH_FAIL) := .set1' (.refl _ _ _)
    obtain ⟨hrun, hanswered, hframe⟩ := hasked.serves hexec (hk.trans (State.courAuth_fails hauth hlen hfenced hbusy hcheck)) hset
      (by decide) (by decide)
    exact ⟨_, hrun, hanswered, (CourAns.reply_get _ _ _ _ (by decide)).trans (State.get_put_self _ _ _ (by decide)), hframe⟩

theorem asked_foyer (hasked : Asked h s) (hin : s.inFoyer = true) (p : List Byte) :
    (∃ t, exec (.courierWrite h p) s = .next t ∧ Answered 3 h 7 [] s t ∧ Keeps [whole R.COURH_CNT] [.resp, .cour] s t) ∧
      (∃ t, exec (.courierConfirm h p 0) s = .next t ∧ Answered 0x0D h 7 [] s t ∧ Keeps [whole R.COURH_CNT] [.resp, .cour] s t) :=
  have hin' := s.inFoyer_courCount.trans hin
  ⟨⟨_, rfl, hasked.answers_plain (State.courNoFoyer_refuses hin')⟩, _, rfl, hasked.answers_plain (State.courNoFoyer_refuses hin')⟩

end

/-! ### A masked WRITE (R629, R638) -/

section
variable {s : State} {h : MsgHdr} {p : List Byte} {m v : Word}

/-- An entry of WRITE. -/
def writeEntry (a : Nat) (m v : Word) : List Byte := leBytes 4 a ++ leBytes 4 m.toNat ++ leBytes 4 v.toNat

theorem writeEntry_addr {a : Nat} (ha : a < 2 ^ 32) (m v : Word) : bU (writeEntry a m v) 0 4 = a := by
  rw [bU, List.drop_zero, writeEntry, List.append_assoc, List.take_left' (leBytes_length 4 a), leNat_word ha]

theorem writeEntry_mask (a : Nat) (m v : Word) : w32 (bU (writeEntry a m v) 4 4) = m := by
  rw [bU, writeEntry, List.append_assoc, List.drop_left' (leBytes_length 4 a), List.take_left' (leBytes_length 4 _), leNat_word m.isLt]
  exact BitVec.ofNat_toNat 32 m

theorem writeEntry_value (a : Nat) (m v : Word) : w32 (bU (writeEntry a m v) 8 4) = v := by
  rw [bU, writeEntry, List.drop_left' (by simp [leBytes_length]), List.take_of_length_le (by simp [leBytes_length]), leNat_word v.isLt]
  exact BitVec.ofNat_toNat 32 v

theorem writeEntry_length (a : Nat) (m v : Word) : (writeEntry a m v).length = 12 := by simp [writeEntry, leBytes_length]

theorem entries12_one {e : List Byte} (he : e.length = 12) : entries12 e = [e] := by
  simp [entries12, he, List.range_succ, List.take_of_length_le]

theorem actMask_gpio : actMask R.SYS_GPIO_OUT = 0 := by decide

theorem regionOf_gpio : regionOf R.SYS_GPIO_OUT = .reg := by decide

theorem State.view_gpio (s : State) : s.view R.SYS_GPIO_OUT = s.rd R.SYS_GPIO_OUT := rfl

/-- The word that a masked write of the general outputs writes. -/
def State.gpioWord (s : State) (m v : Word) : Word := (s.rd R.SYS_GPIO_OUT &&& ~~~m) ||| (v &&& m)

theorem State.maskedWord_gpio (s : State) (m v : Word) : s.maskedWord R.SYS_GPIO_OUT m v = s.gpioWord m v := by
  rw [State.maskedWord, regionOf_gpio]
  dsimp only
  rw [actMask_gpio, State.view_gpio, show ~~~BitVec.ofNat 32 0 = BitVec.allOnes 32 by decide, BitVec.and_allOnes]
  rfl

theorem State.wordPut_gpio (s : State) (i : Initiator) (v : Word) : s.wordPut i R.SYS_GPIO_OUT v = s.plainWrite R.SYS_GPIO_OUT v := by
  rw [State.wordPut, regionOf_gpio]
  rfl

theorem gpio_masks : rwMask R.SYS_GPIO_OUT = 0xFF ∧ w1cMask R.SYS_GPIO_OUT = 0 := by decide

theorem State.gpioWrite_frame (s : State) (v : Word) : Keeps [⟨R.SYS_GPIO_OUT, 0, 8⟩] [] s (s.plainWrite R.SYS_GPIO_OUT v) := by
  refine s.plainWrite_keeps R.SYS_GPIO_OUT 8 v [] (by decide) fun k hlo hhi => ?_
  rw [gpio_masks.1, gpio_masks.2]
  interval_cases k <;> decide

theorem masked_and (x y f : Word) : ((x &&& ~~~f) ||| (y &&& f)) &&& f = y &&& f := by
  ext i hi
  simp only [BitVec.getElem_and, BitVec.getElem_or, BitVec.getElem_not]
  cases f[i] <;> simp

theorem State.gpioWrite_rd (s : State) (v : Word) : (s.plainWrite R.SYS_GPIO_OUT v).rd R.SYS_GPIO_OUT &&& 0xFF#32 = v &&& 0xFF#32 := by
  have hwrite : s.plainWrite R.SYS_GPIO_OUT v = s.wr R.SYS_GPIO_OUT ((s.rd R.SYS_GPIO_OUT &&& ~~~(v &&& 0#32) &&& ~~~0xFF#32) ||| (v &&& 0xFF#32)) := by
    unfold State.plainWrite
    rw [gpio_masks.1, gpio_masks.2]
    exact if_neg (by decide)
  rw [hwrite, State.rd_wr_same]
  exact masked_and _ _ _

theorem State.rejectsClr_get (s : State) {f : Fld} (hf : f ∈ rejectFlds) : s.rejectsClr.get f = 0 :=
  State.clearAll_get (rejectFlds_bound f hf) rejectFlds s (.inr hf)

theorem rejectFlds_off_gpio : ∀ f ∈ rejectFlds, f.addr ≠ R.SYS_GPIO_OUT := by decide

theorem State.gpioWrite_accepted (s : State) (i : Initiator) (v : Word) : s.refuses i R.SYS_GPIO_OUT v = false := by
  unfold State.refuses State.rejected
  rw [List.any_eq_false]
  intro f hf
  rw [State.wordPut_gpio, (s.rejectsClr.gpioWrite_frame v).get_eq f (by simpa [Fld.apart] using .inl (Ne.symm (rejectFlds_off_gpio f hf))), s.rejectsClr_get hf]
  decide

theorem State.hostWrites_gpio (hon : s.pdOn 1 = true) : s.hostWrites .courier R.SYS_GPIO_OUT = true := by
  have hpowered : s.powered R.SYS_GPIO_OUT = s.pdOn 1 := by
    rw [State.powered, regionOf_gpio]
    rfl
  rw [State.hostWrites, regionOf_gpio]
  exact hpowered.trans hon

theorem State.courWrite_gpio (hon : s.pdOn 1 = true) :
    s.courWrite (writeEntry R.SYS_GPIO_OUT m v) = (s.plainWrite R.SYS_GPIO_OUT (s.gpioWord m v), 0, [0#8]) := by
  have haddr : bU (writeEntry R.SYS_GPIO_OUT m v) 0 4 / 4 * 4 = R.SYS_GPIO_OUT := by
    rw [writeEntry_addr (by decide)]
    decide
  have hentry : State.courEntry (s, [], true, true) (writeEntry R.SYS_GPIO_OUT m v) =
      (s.plainWrite R.SYS_GPIO_OUT (s.gpioWord m v), [0#8], true, true) := by
    have hword : R.SYS_GPIO_OUT / 4 * 4 = R.SYS_GPIO_OUT := by decide
    have hwrite : s.hostWrite .courier R.SYS_GPIO_OUT (s.gpioWord m v) = (s.plainWrite R.SYS_GPIO_OUT (s.gpioWord m v), true) := by
      rw [State.hostWrite, hword, if_pos (State.hostWrites_gpio hon), State.wordPut_gpio]
    simp only [State.courEntry, haddr, writeEntry_mask, writeEntry_value, State.maskedWord_gpio, State.hostWrites_gpio hon,
      State.gpioWrite_accepted, hwrite]
    rfl
  have hlen := writeEntry_length R.SYS_GPIO_OUT m v
  refine (if_neg (by rw [hlen]; decide)).trans ?_
  rw [entries12_one hlen, List.foldl_cons, List.foldl_nil, hentry]
  rfl

theorem asked_write (hasked : Asked h s) (hout : s.inFoyer = false) (hpass : Authorised 3 h p s) (hon : s.pdOn 1 = true)
    (hp : p.drop 2500 = leBytes 4 R.SYS_GPIO_OUT ++ leBytes 4 m.toNat ++ leBytes 4 v.toNat) :
    ∃ t, exec (.courierWrite h p) s = .next t ∧
      t.rd R.SYS_GPIO_OUT &&& 0xFF#32 = ((s.rd R.SYS_GPIO_OUT &&& ~~~m) ||| (v &&& m)) &&& 0xFF#32 ∧ Answered 3 h 0 [0#8] s t ∧
      t.sv.replay.get (bU p 6 2) = bU p 8 8 ∧ Keeps [⟨R.SYS_GPIO_OUT, 0, 8⟩, whole R.COURH_CNT] [.resp, .sv, .cour] s t := by
  have hauthed := s.courAuthed_keeps p
  have hon' : (s.courAuthed p).pdOn 1 = true := by rw [State.pdOn, hauthed.get_eq _ (by decide)]; exact hon
  have hserved : (fun s : State => s.courNoFoyer fun s => s.courAuth 3 h p fun s p => s.courWrite p) s.courCount =
      ((s.courAuthed p).plainWrite R.SYS_GPIO_OUT ((s.courAuthed p).gpioWord m v), 0, [0#8]) := by
    refine (State.courNoFoyer_serves (s.inFoyer_courCount.trans hout)).trans ((State.courAuth_passes hpass).trans ?_)
    rw [hp]
    exact State.courWrite_gpio hon'
  have hx : Keeps [⟨R.SYS_GPIO_OUT, 0, 8⟩] [.sv] s.courCount ((s.courAuthed p).plainWrite R.SYS_GPIO_OUT ((s.courAuthed p).gpioWord m v)) :=
    .after (State.gpioWrite_frame ..) (.modSv' (.refl _ _ _))
  obtain ⟨hexec, hanswered, hframe⟩ := hasked.serves (c := .courierWrite h p) rfl hserved hx (by decide) (by decide)
  have hreply := CourAns.reply_frame ((s.courAuthed p).plainWrite R.SYS_GPIO_OUT ((s.courAuthed p).gpioWord m v), 0, [0#8]) 3 h
  refine ⟨_, hexec, ?_, hanswered, ?_, .after hframe (.refl _ _ s)⟩
  · rw [hreply.rd_eq _ (by decide), State.gpioWrite_rd, State.gpioWord, hauthed.rd_eq _ (by decide)]
  · have hsv : ((s.courAuthed p).plainWrite R.SYS_GPIO_OUT ((s.courAuthed p).gpioWord m v)).sv = (s.courAuthed p).sv :=
      (State.gpioWrite_frame _ _).2 .sv (by decide)
    rw [CourAns.reply_sv, hsv]
    exact SMap.get_set_same ..

end

/-! ### Staging (R630): what a grant depends on is left by the count and the record -/

section
variable {s t : State} (h : Keeps [F.COURH_CNT_REQ] [.sv] s t)

theorem conflicts_staging (m n d : Nat) : conflicts m 10 d = conflicts n 10 d := by simp [conflicts]

include h

theorem Keeps.maintRuns_cour (c : Nat) : t.maintRuns c = s.maintRuns c := by
  rw [State.maintRuns, State.maintRuns, h.rd_eq _ (by decide)]

theorem Keeps.stagingRefusal_cour : t.maintRefusal .staging 10 = s.maintRefusal .staging 10 := by
  have hstart : t.startingUp = s.startingUp := by
    rw [State.startingUp, State.startingUp, State.inFoyer, State.inFoyer, h.flag_eq _ (by decide), h.flag_eq _ (by decide)]
  have hconflict : t.conflictOf 10 = s.conflictOf 10 := by
    simp only [State.conflictOf, h.maintRuns_cour, conflicts_staging t.testMaskNow s.testMaskNow]
  unfold State.maintRefusal
  rw [hstart, hconflict]
  rfl

theorem Keeps.epoch_cour : t.epoch = s.epoch := h.2 .epoch (by decide)

theorem Keeps.stagingAhead_cour : t.maintAhead t.epoch 10 = s.maintAhead s.epoch 10 := by
  have hep : t.ep = s.ep := h.2 .ep (by decide)
  have hbist : t.bistDue = s.bistDue := by
    have hdiag : t.diag = s.diag := h.2 .diag (by decide)
    rw [State.bistDue, State.bistDue, hdiag, h.epoch_cour]
  have hentry (e : Nat) (he : e < 32) : t.schedState e = s.schedState e ∧ t.schedAct e = s.schedAct e ∧ t.schedTime e = s.schedTime e ∧
      t.schedParam e = s.schedParam e := by
    refine ⟨h.get_eq _ (by simp; omega), h.get_eq _ (by simp; omega), ?_, ?_⟩
    · rw [State.schedTime, State.schedTime, h.rd_eq _ (by simp [whole]; omega), h.rd_eq _ (by simp [whole]; omega)]
    · rw [State.schedParam, State.schedParam, h.rd_eq _ (by simp [whole]; omega)]
  have hwho (e : Nat) : t.schedRequester e = s.schedRequester e := by rw [State.schedRequester, State.schedRequester, hep]
  have hlist (d : Nat) : ((List.range 32).filter fun e => t.schedState e == 1 && t.schedAct e == 7 && t.schedTime e == t.epoch && t.schedParam e == d) =
      (List.range 32).filter fun e => s.schedState e == 1 && s.schedAct e == 7 && s.schedTime e == s.epoch && s.schedParam e == d := by
    refine List.filter_congr fun e he => ?_
    obtain ⟨hst, hact, htime, hparam⟩ := hentry e (List.mem_range.1 he)
    rw [hst, hact, htime, hparam, h.epoch_cour]
  unfold State.maintAhead
  simp only [hbist, hlist, hwho]

end

/-! ### The staging requests (R629, R630) -/

section
variable {s : State} {h : MsgHdr} {p : List Byte}

/-- The session that a STAGE_BEGIN opens. -/
def State.newSession (s : State) (plc : Bool) (p : List Byte) : CourSession :=
  { id := s.drawn % 2 ^ 32, total := bU p 2 4, got := 0, last := s.mono, plc := plc }

/-- The state in which a slot is opened for a session. -/
def State.sessionOpened (s : State) (plc : Bool) (p : List Byte) : State :=
  ((s.stageOpened (bU8 p 0) (bU8 p 1)).drew.put F.COURH_STATUS_SESSION 1).modCour fun c =>
    { c with session := some ((s.stageOpened (bU8 p 0) (bU8 p 1)).newSession plc p) }

theorem State.courStageBegin_opens {plc : Bool} (hlen : p.length = 6) (hnone : s.cour.session = none)
    (hopen : s.stageBegin (bU8 p 0) (bU8 p 1) = (s.stageOpened (bU8 p 0) (bU8 p 1), Sv.ok, [])) :
    s.courStageBegin plc p = (s.sessionOpened plc p, 0, leBytes 4 ((s.stageOpened (bU8 p 0) (bU8 p 1)).newSession plc p).id) := by
  refine (if_neg (by simp [hlen])).trans ((if_neg (by simp [hnone])).trans ?_)
  rw [hopen]
  rfl

theorem Fld.apart_of_addr {f g : Fld} (h : f.addr ≠ g.addr) : f.apart g = true := by simp [Fld.apart, h]

/-- The fields of a slot and of its staging are in no register of COURH. -/
theorem stageFlds_off_courh (kind slot : Nat) {f : Fld}
    (hf : f ∈ [busyF kind, validF kind slot, selF kind, errF kind, F.SV_BOOT_APP_STATE]) : f.addr < 0x400C0000 ∨ 0x400D0000 ≤ f.addr := by
  simp only [List.mem_cons, List.not_mem_nil, or_false] at hf
  rcases hf with rfl | rfl | rfl | rfl | rfl
  · unfold busyF; split_ifs <;> decide
  · unfold validF; split_ifs <;> decide
  · unfold selF; split_ifs <;> decide
  · unfold errF; split_ifs <;> decide
  · decide

theorem stageFlds_apart (kind slot : Nat) {f g : Fld} (hf : f ∈ [busyF kind, validF kind slot, selF kind, errF kind, F.SV_BOOT_APP_STATE])
    (hg : 0x400C0000 ≤ g.addr ∧ g.addr < 0x400D0000) : f.apart g = true :=
  Fld.apart_of_addr (by have := stageFlds_off_courh kind slot hf; omega)

/-- The fields that the opening of a slot reaches. -/
def openedFlds (kind slot : Nat) : List Fld := [busyF kind, if kind = 2 then F.SV_BOOT_APP_STATE else validF kind slot, selF kind]

theorem openedFlds_staged {kind slot : Nat} {f : Fld} (hf : f ∈ openedFlds kind slot) :
    f ∈ [busyF kind, validF kind slot, selF kind, errF kind, F.SV_BOOT_APP_STATE] := by
  simp only [openedFlds, List.mem_cons, List.not_mem_nil, or_false] at hf ⊢
  rcases hf with rfl | rfl | rfl
  · simp
  · split_ifs <;> simp
  · simp

theorem State.sessionOpened_frame (s : State) (plc : Bool) (p : List Byte) :
    Keeps (F.COURH_STATUS_SESSION :: openedFlds (bU8 p 0) (bU8 p 1)) [.draws, .sv, .cour] s (s.sessionOpened plc p) :=
  .after (State.modCour_keeps ..) (.put' (.drew' (.after (State.stageOpened_frame ..) (.refl _ _ s) (by simp [openedFlds]))))

theorem asked_begin (hasked : Asked h s) (hpass : Authorised 9 h p s) (hlen : (p.drop 2500).length = 6) (hnone : s.cour.session = none)
    (hfree : s.sv.stage = none) (hkind : bU8 (p.drop 2500) 0 < 3) (hslot : bU8 (p.drop 2500) 1 < 2)
    (hnot : bU8 (p.drop 2500) 0 = 2 ∨ bU8 (p.drop 2500) 1 ≠ s.activeSlot (bU8 (p.drop 2500) 0))
    (hahead : s.maintAhead s.epoch 10 = []) (hask : s.maintRefusal .staging 10 = none) :
    ∃ t g, exec (.courierStageBegin h p) s = .next t ∧ t.cour.session = some g ∧ g.total = bU (p.drop 2500) 2 4 ∧ g.got = 0 ∧ g.last = s.mono ∧
      t.sv.stage = some { kind := bU8 (p.drop 2500) 0, slot := bU8 (p.drop 2500) 1, written := 0, write := none, ending := false } ∧
      t.get F.COURH_STATUS_SESSION = 1 ∧ Answered 9 h 0 (leBytes 4 g.id) s t ∧
      Keeps [whole R.COURH_CNT, F.COURH_STATUS_SESSION, busyF (bU8 (p.drop 2500) 0), selF (bU8 (p.drop 2500) 0),
        if bU8 (p.drop 2500) 0 = 2 then F.SV_BOOT_APP_STATE else validF (bU8 (p.drop 2500) 0) (bU8 (p.drop 2500) 1)] [.draws, .resp, .sv, .cour] s t := by
  have hauthed := s.courAuthed_keeps p
  generalize hq : p.drop 2500 = q at hlen hkind hslot hnot
  have hactive : (s.courAuthed p).activeSlot (bU8 q 0) = s.activeSlot (bU8 q 0) := by
    rw [State.activeSlot, State.activeSlot, hauthed.get_eq _ (by decide), hauthed.get_eq _ (by decide)]
  have hopen := (s.courAuthed p).stageBegin_opens hkind hslot hfree (by rw [hactive]; exact hnot) (hauthed.stagingAhead_cour.trans hahead)
    (hauthed.stagingRefusal_cour.trans hask)
  have hserved := State.courAuth_passes hpass (k := fun s p => s.courStageBegin (h.car == .plc) p)
  rw [hq, State.courStageBegin_opens (s := s.courAuthed p) hlen hnone hopen] at hserved
  have hx : Keeps (F.COURH_STATUS_SESSION :: openedFlds (bU8 q 0) (bU8 q 1)) [.draws, .sv, .cour] s.courCount
      ((s.courAuthed p).sessionOpened (h.car == .plc) q) := .after (State.sessionOpened_frame ..) (.modSv' (.refl _ _ _))
  have hoff (g : Fld) (hg : g.addr = R.COURH_CNT) : ∀ f ∈ F.COURH_STATUS_SESSION :: openedFlds (bU8 q 0) (bU8 q 1), f.apart g = true := by
    intro f hf
    rcases List.mem_cons.1 hf with rfl | hf
    · exact Fld.apart_of_addr (by rw [hg]; decide)
    · exact stageFlds_apart _ _ (openedFlds_staged hf) (by rw [hg]; decide)
  obtain ⟨hexec, hanswered, hframe⟩ := hasked.serves (c := .courierStageBegin h p) rfl hserved hx (hoff _ rfl) (hoff _ rfl)
  refine ⟨_, _, hexec, CourAns.reply_session .., rfl, rfl, ?_, ?_, ?_, hanswered, ?_⟩
  · have hopened := (s.courAuthed p).stageOpened_frame (bU8 q 0) (bU8 q 1)
    exact State.mono_congr ((hopened.2 .epoch (by decide)).trans hauthed.epoch_cour) ((hopened.2 .ep (by decide)).trans (hauthed.2 .ep (by decide)))
  · rw [CourAns.reply_sv]
    exact congrArg SvState.stage ((s.courAuthed p).stageOpened_sv (bU8 q 0) (bU8 q 1))
  · exact (CourAns.reply_get _ _ _ _ (by decide)).trans (State.get_put_self _ _ _ (by decide))
  · exact .after hframe (.refl _ _ s) (by simp [openedFlds])

/-! #### STAGE_DATA and STAGE_END, with no record -/

theorem maintFlds_apart {g : Fld} (hg : 0x400C0000 ≤ g.addr ∧ g.addr < 0x400D0000) :
    ∀ f ∈ [⟨R.DIAG_MAINT_RUN, 10, 1⟩, F.DIAG_MAINT_RESULT_RUNS 10, whole R.DIAG_MAINT_LAST], f.apart g = true := by
  intro f hf
  refine Fld.apart_of_addr ?_
  simp only [List.mem_cons, List.not_mem_nil, or_false] at hf
  rcases hf with rfl | rfl | rfl <;> simp [whole] <;> omega

/-- The write of a part of a slot is granted and runs. -/
def State.partWriting (s : State) (w : Staging) (off : Nat) (data : List Byte) : State :=
  ((s.maintNoted 10 1 0 0).maintStart 10).modSv fun v => { v with stage := some { w with write := some (off, data) } }

theorem State.partWriting_frame (s : State) (w : Staging) (off : Nat) (data : List Byte) :
    Keeps [⟨R.DIAG_MAINT_RUN, 10, 1⟩, F.DIAG_MAINT_RESULT_RUNS 10, whole R.DIAG_MAINT_LAST] [.sv] s (s.partWriting w off data) :=
  .modSv' (.incSat' (.set1' (.after (State.maintNoted_frame ..) (.refl _ _ s))))

/-- A session that has taken n bytes more. -/
def CourSession.taken (g : CourSession) (n now : Nat) : CourSession := { g with got := g.got + n, last := now }

theorem State.courStageData_writes {g : CourSession} {w : Staging} (hsession : s.cour.session = some g) (hstage : s.sv.stage = some w)
    (hlen : 8 < p.length) (hid : bU p 0 4 = g.id) (hoff : bU p 4 4 = g.got) (htotal : g.got + (p.length - 8) ≤ g.total)
    (hwrite : w.write = none) (hend : w.ending = false) (hgot : w.written = g.got) (hfit : g.got + (p.length - 8) ≤ slotSize w.kind)
    (hahead : s.maintAhead s.epoch 10 = []) (hask : s.maintRefusal .staging 10 = none) :
    s.courStageData p = ((s.partWriting w g.got (p.drop 8)).modCour fun c => { c with session := some (g.taken (p.length - 8) s.mono) }, 0, []) := by
  have hdata : (p.drop 8).length = p.length - 8 := List.length_drop
  have hgrant : s.stageData g.got (p.drop 8) = (s.partWriting w g.got (p.drop 8), Sv.ok, []) := by
    rw [← hgot]
    exact State.stageData_grants (data := p.drop 8) hstage hwrite hend (by rw [hgot, hdata]; exact hfit) hahead hask
  have hgood : ¬ ((p.drop 8).isEmpty || bU p 0 4 != g.id || bU p 4 4 != g.got || decide (g.total < g.got + (p.drop 8).length)) = true := by
    have hsome : (p.drop 8).isEmpty = false := by
      rw [List.isEmpty_eq_false_iff, ← List.length_pos_iff]
      omega
    simp [hsome, hid, hoff]
    omega
  unfold State.courStageData
  rw [hsession]
  refine (if_neg hgood).trans ?_
  rw [hoff, hgrant, hdata]
  rfl

theorem asked_data {g : CourSession} {w : Staging} (hasked : Asked h s) (hfenced : s.svFenced = false) (hbusy : s.svBusy 0 = false)
    (hsession : s.cour.session = some g) (hstage : s.sv.stage = some w)
    (hlen : 8 < p.length) (hid : bU p 0 4 = g.id) (hoff : bU p 4 4 = g.got) (htotal : g.got + (p.length - 8) ≤ g.total)
    (hwrite : w.write = none) (hend : w.ending = false) (hgot : w.written = g.got) (hfit : g.got + (p.length - 8) ≤ slotSize w.kind)
    (hahead : s.maintAhead s.epoch 10 = []) (hask : s.maintRefusal .staging 10 = none) :
    ∃ t, exec (.courierStageData h p) s = .next t ∧ t.cour.session = some { g with got := g.got + (p.length - 8), last := s.mono } ∧
      t.sv.stage = some { w with write := some (g.got, p.drop 8) } ∧ Answered 0x0A h 0 [] s t ∧
      Keeps [whole R.COURH_CNT, ⟨R.DIAG_MAINT_RUN, 10, 1⟩, F.DIAG_MAINT_RESULT_RUNS 10, whole R.DIAG_MAINT_LAST] [.resp, .sv, .cour] s t := by
  have hcount : Keeps [F.COURH_CNT_REQ] [.sv] s s.courCount := .after s.courCount_keeps (.refl _ _ s)
  have hserved := (State.courSv_free (k := fun s => s.courStageData p) ⟨s.svFenced_courCount.trans hfenced, hbusy⟩).trans
    (State.courStageData_writes (s := s.courCount) hsession hstage hlen hid hoff htotal hwrite hend hgot hfit
      (hcount.stagingAhead_cour.trans hahead) (hcount.stagingRefusal_cour.trans hask))
  have hx : Keeps [⟨R.DIAG_MAINT_RUN, 10, 1⟩, F.DIAG_MAINT_RESULT_RUNS 10, whole R.DIAG_MAINT_LAST] [.sv, .cour] s.courCount
      ((s.courCount.partWriting w g.got (p.drop 8)).modCour fun c => { c with session := some (g.taken (p.length - 8) s.courCount.mono) }) :=
    .after (State.modCour_keeps ..) (.after (State.partWriting_frame ..) (.refl _ _ _))
  obtain ⟨hexec, hanswered, hframe⟩ := hasked.serves (c := .courierStageData h p) rfl hserved hx (maintFlds_apart (by decide)) (maintFlds_apart (by decide))
  exact ⟨_, hexec, CourAns.reply_session .., congrArg SvState.stage (CourAns.reply_sv ..), hanswered, .after hframe (.refl _ _ s)⟩

theorem State.courSessionEnd_of_session {g : CourSession} (hsession : s.cour.session = some g) :
    s.courSessionEnd = (s.stageClose.put F.COURH_STATUS_SESSION 0).modCour fun c => { c with session := none } := by
  rw [State.courSessionEnd, hsession]

theorem State.stageClose_none (hstage : s.sv.stage = none) : s.stageClose = s := by rw [State.stageClose, hstage]

/-- A session over whose slot the check has been made. -/
def State.sessionVerified (s : State) (w : Staging) (c : Nat) : State :=
  ((s.verified w c).put F.COURH_STATUS_SESSION 0).modCour fun c => { c with session := none }

theorem State.courStageEnd_verifies {g : CourSession} {w : Staging} (hsession : s.cour.session = some g) (hstage : s.sv.stage = some w)
    (hlen : p.length = 4) (hid : bU p 0 4 = g.id) (hwrite : w.write = none) :
    s.courStageEnd p = (s.sessionVerified w (s.slotCheck w.kind w.slot),
      courCode (if s.slotCheck w.kind w.slot = 0 then 0 else s.drawn % 9 + 1), [BitVec.ofNat 8 (s.slotCheck w.kind w.slot)]) := by
  have hend : s.stageEnd = some s.stageVerify := by
    rw [State.stageEnd, hstage]
    exact if_neg (by simp [hwrite])
  have hcour (c : Nat) : (s.verified w c).cour = s.cour := (s.verified_frame w).2 .cour (by decide)
  have hclosed (c : Nat) : (s.verified w c).stageClose = s.verified w c := State.stageClose_none (by rw [s.verified_sv])
  rw [State.courStageEnd, hsession]
  refine (if_neg (by simp [hlen, hid])).trans ?_
  rw [hend, State.stageVerify_eq hstage]
  dsimp only
  rw [State.courSessionEnd_of_session ((congrArg CourState.session (hcour _)).trans hsession), hclosed]
  rfl

theorem State.slotCheck_courCount (s : State) (k sl : Nat) : s.courCount.slotCheck k sl = s.slotCheck k sl := by
  have himg : s.courCount.imgBytes sl = s.imgBytes sl := by
    unfold State.imgBytes
    rw [State.rdBytes_congr (s := s) (t := s.courCount) rfl, State.rdBytes_congr (s := s) (t := s.courCount) rfl]
  have hpkg : s.courCount.pkgBytes k sl = s.pkgBytes k sl := by
    unfold State.pkgBytes
    rw [State.rdBytes_congr (s := s) (t := s.courCount) rfl, State.rdBytes_congr (s := s) (t := s.courCount) rfl]
  have htarget (b : List Byte) : s.courCount.targetOk b = s.targetOk b := by
    simp only [State.targetOk, s.courCount_keeps.get_eq F.SYS_ID_MAJOR (by decide), s.courCount_keeps.get_eq F.SYS_ID_MINOR (by decide)]
  have hkey (n : Nat) (key : List Byte) : s.courCount.keyOk n key = s.keyOk n key := rfl
  have hsv : s.courCount.sv = s.sv := rfl
  rw [State.slotCheck, State.slotCheck, himg, hpkg]
  simp only [State.imgCheck, State.pkgCheck, htarget, hkey, hsv]

theorem State.sessionVerified_frame (s : State) (w : Staging) (c : Nat) :
    Keeps [F.COURH_STATUS_SESSION, busyF w.kind, if c = 0 then validF w.kind w.slot else errF w.kind] [.draws, .sv, .cour] s (s.sessionVerified w c) :=
  .after (State.modCour_keeps ..) (.put' (.after (s.verified_frame w) (.refl _ _ s)))

theorem asked_end {g : CourSession} {w : Staging} (hasked : Asked h s) (hfenced : s.svFenced = false) (hbusy : s.svBusy 0 = false)
    (hsession : s.cour.session = some g) (hstage : s.sv.stage = some w) (hlen : p.length = 4) (hid : bU p 0 4 = g.id) (hwrite : w.write = none) :
    ∃ t r, exec (.courierStageEnd h p) s = .next t ∧ t.cour.session = none ∧ t.sv.stage = none ∧ t.get F.COURH_STATUS_SESSION = 0 ∧
      Answered 0x0B h (courCode r) [BitVec.ofNat 8 (s.slotCheck w.kind w.slot)] s t ∧ (r = 0 ↔ s.slotCheck w.kind w.slot = 0) ∧
      (s.slotCheck w.kind w.slot = 0 → w.kind < 2 → t.get (validF w.kind w.slot) = 1) ∧
      Keeps [whole R.COURH_CNT, F.COURH_STATUS_SESSION, busyF w.kind, if s.slotCheck w.kind w.slot = 0 then validF w.kind w.slot else errF w.kind]
        [.draws, .resp, .sv, .cour] s t := by
  have hserved := (State.courSv_free (k := fun s => s.courStageEnd p) ⟨s.svFenced_courCount.trans hfenced, hbusy⟩).trans
    (State.courStageEnd_verifies (s := s.courCount) hsession hstage hlen hid hwrite)
  rw [State.slotCheck_courCount] at hserved
  generalize hc : s.slotCheck w.kind w.slot = c at hserved ⊢
  have hoff (g : Fld) (hg : g.addr = R.COURH_CNT) :
      ∀ f ∈ [F.COURH_STATUS_SESSION, busyF w.kind, if c = 0 then validF w.kind w.slot else errF w.kind], f.apart g = true := by
    have hin : 0x400C0000 ≤ g.addr ∧ g.addr < 0x400D0000 := by rw [hg]; decide
    simp only [List.forall_mem_cons, List.not_mem_nil, IsEmpty.forall_iff, implies_true, and_true]
    refine ⟨Fld.apart_of_addr (by rw [hg]; decide), stageFlds_apart w.kind w.slot (by simp) hin, ?_⟩
    split_ifs
    · exact stageFlds_apart w.kind w.slot (by simp) hin
    · exact stageFlds_apart w.kind w.slot (by simp) hin
  have hframe' := Keeps.after (fs := [F.COURH_STATUS_SESSION, busyF w.kind, if c = 0 then validF w.kind w.slot else errF w.kind])
    (s.courCount.sessionVerified_frame w c) (.refl _ [.draws, .sv, .cour] _)
  obtain ⟨hexec, hanswered, hframe⟩ := hasked.serves (c := .courierStageEnd h p) rfl hserved hframe' (hoff _ rfl) (hoff _ rfl)
  refine ⟨_, _, hexec, CourAns.reply_session .., ?_, ?_, hanswered, ?_, fun hzero hk => ?_, .after hframe (.refl _ _ s)⟩
  · rw [CourAns.reply_sv]
    exact congrArg SvState.stage (s.courCount.verified_sv w (c := c))
  · exact (CourAns.reply_get _ _ _ _ (by decide)).trans (State.get_put_self _ _ _ (by decide))
  · by_cases hzero : c = 0 <;> simp [hzero]
  · have hvalid := s.courCount.verified_valid w (by omega)
    subst hzero
    refine (CourAns.reply_get _ _ _ _ (Fld.apart_symm (stageFlds_apart w.kind w.slot (by simp) (by decide)))).trans ?_
    exact (State.get_put_other _ _ _ _ (Fld.apart_symm (stageFlds_apart w.kind w.slot (by simp) (by decide)))).trans hvalid

/-! ### SELECT and CONFIRM (R49, R51, R629) -/

theorem drop_pair {q : List Byte} {a : Byte} {k : Nat} (hq : q = [a, BitVec.ofNat 8 k]) (hk : k < 2) : q.length = 2 ∧ bU8 q 0 = a.toNat ∧ bU8 q 1 = k := by
  subst hq
  refine ⟨rfl, rfl, ?_⟩
  show (BitVec.ofNat 8 k).toNat = k
  rw [BitVec.toNat_ofNat]
  omega

theorem State.imgSelect_takes {k : Nat} (hk : k < 2) (hok : k = s.activeSlot 1 ∨ s.flag (validF 1 k) = true) :
    s.imgSelect (w32 (0xA55A0000 + k)) = s.put F.SYS_IMG_SELECT_SLOT k := by
  have hkey : bitsOf (w32 (0xA55A0000 + k)).toNat 16 16 = 0xA55A ∧ bitsOf (w32 (0xA55A0000 + k)).toNat 0 1 = k := by
    obtain rfl | rfl : k = 0 ∨ k = 1 := by omega
    · decide
    · decide
  refine (if_neg (by rw [hkey.1]; decide)).trans ?_
  rw [hkey.2]
  exact if_pos hok

theorem State.rejectsClr_keeps (s : State) : Keeps rejectFlds [] s s.rejectsClr := by
  have hrun : ∀ (l : List Fld) (t : State), l ⊆ rejectFlds → Keeps rejectFlds [] s t → Keeps rejectFlds [] s (l.foldl (fun (s : State) f => s.put f 0) t) := by
    intro l
    induction l with
    | nil => exact fun t _ ht => ht
    | cons f l ih => exact fun t hl ht => ih _ (List.subset_of_cons_subset hl) (.put' ht (hl List.mem_cons_self))
  exact hrun rejectFlds s (fun _ hf => hf) (.refl _ _ s)

theorem rejectFlds_off_select : ∀ f ∈ rejectFlds, f.apart F.SYS_IMG_STATUS_ACTIVE = true ∧ f.apart F.SYS_IMG_STATUS_STAGED_VALID_A = true ∧
    f.apart F.SYS_IMG_STATUS_STAGED_VALID_B = true ∧ f.apart F.SYS_IMG_SELECT_SLOT = true := by decide

theorem State.courSelect_img {k : Nat} (hp : p = [1#8, BitVec.ofNat 8 k]) (hk : k < 2) (hok : k = s.activeSlot 1 ∨ s.flag (validF 1 k) = true) :
    s.courSelect p = (s.put F.SYS_IMG_SELECT_SLOT k, 0, []) := by
  obtain ⟨hlen, hkind, hslot⟩ := drop_pair hp hk
  have hkind' : bU8 p 0 = 1 := hkind
  have hclr := s.rejectsClr_keeps
  have hok' : k = s.rejectsClr.activeSlot 1 ∨ s.rejectsClr.flag (validF 1 k) = true := by
    have hactive : s.rejectsClr.activeSlot 1 = s.activeSlot 1 := hclr.get_eq _ fun f hf => (rejectFlds_off_select f hf).1
    have hvalid : s.rejectsClr.flag (validF 1 k) = s.flag (validF 1 k) := hclr.flag_eq _ fun f hf => by
      obtain ⟨-, hA, hB, -⟩ := rejectFlds_off_select f hf
      obtain rfl | rfl : k = 0 ∨ k = 1 := by omega
      · exact hA
      · exact hB
    rw [hactive, hvalid]
    exact hok
  have haccepted : (s.rejectsClr.imgSelect (w32 (0xA55A0000 + k))).rejected = false := by
    rw [State.imgSelect_takes hk hok', State.rejected, List.any_eq_false]
    intro f hf
    rw [State.get_put_other _ _ _ _ (Fld.apart_symm (rejectFlds_off_select f hf).2.2.2), s.rejectsClr_get hf]
    decide
  refine (if_neg (by omega)).trans ((if_pos hkind').trans ?_)
  rw [hslot]
  dsimp only
  rw [haccepted, State.imgSelect_takes hk hok]
  rfl

theorem State.courSelect_fw {k : Nat} (hp : p = [0#8, BitVec.ofNat 8 k]) (hk : k < 2) (hok : k = s.activeSlot 0 ∨ s.flag (validF 0 k) = true) :
    s.courSelect p = (s.put F.SV_BOOT_FW_SEL k, 0, []) := by
  obtain ⟨hlen, hkind, hslot⟩ := drop_pair hp hk
  have hkind' : bU8 p 0 = 0 := hkind
  refine (if_neg (by omega)).trans ((if_neg (by omega)).trans ((if_neg (by simp [hkind'])).trans ?_))
  rw [hslot, hkind', State.svSelect, if_neg (by omega), if_pos hok]
  rfl

/-- A selection of a slot, whichever field holds it. -/
theorem asked_select {kind k : Nat} {f : Fld} (hasked : Asked h s) (hpass : Authorised 0x0C h p s) (hf : f.lo + f.len ≤ 32 ∧ f.len = 1)
    (hoff : f.addr < 0x400C0000 ∨ 0x400D0000 ≤ f.addr) (hk : k < 2) (hok : k = s.activeSlot kind ∨ s.flag (validF kind k) = true)
    (hselect : (k = (s.courAuthed p).activeSlot kind ∨ (s.courAuthed p).flag (validF kind k) = true) →
      (s.courAuthed p).courSelect (p.drop 2500) = ((s.courAuthed p).put f k, 0, [])) :
    ∃ t, exec (.courierSelect h p) s = .next t ∧ t.get f = k ∧ Answered 0x0C h 0 [] s t ∧ Keeps [whole R.COURH_CNT, f] [.resp, .sv, .cour] s t := by
  have hauthed := s.courAuthed_keeps p
  have hactive : (s.courAuthed p).activeSlot kind = s.activeSlot kind := by
    rw [State.activeSlot, State.activeSlot, hauthed.get_eq _ (by decide), hauthed.get_eq _ (by decide)]
  have hvalid : (s.courAuthed p).flag (validF kind k) = s.flag (validF kind k) :=
    hauthed.flag_eq _ (by simpa using Fld.apart_symm (stageFlds_apart kind k (by simp) (by decide)))
  have hserved := (State.courAuth_passes hpass (k := fun s p => s.courSelect p)).trans (hselect (by rw [hactive, hvalid]; exact hok))
  have hapart (g : Fld) (hg : g.addr = R.COURH_CNT) : ∀ x ∈ [f], x.apart g = true := by
    intro x hx
    rw [List.mem_singleton.1 hx]
    exact Fld.apart_of_addr (by rw [hg]; simp; omega)
  have hx : Keeps [f] [.sv] s.courCount ((s.courAuthed p).put f k) := .put' (.modSv' (.refl _ _ _))
  obtain ⟨hexec, hanswered, hframe⟩ := hasked.serves (c := .courierSelect h p) rfl hserved hx (hapart _ rfl) (hapart _ rfl)
  refine ⟨_, hexec, ?_, hanswered, .after hframe (.refl _ _ s)⟩
  exact (CourAns.reply_get _ _ _ _ (Fld.apart_symm (hapart F.COURH_CNT_RSP rfl f (by simp)))).trans (State.get_set1_fld _ hf hk)

theorem asked_confirm (hasked : Asked h s) (hout : s.inFoyer = false) (hpass : Authorised 0x0D h p s) (hp : p.drop 2500 = [1#8])
    (happlied : s.img.applied.isSome = true) (hlow : s.sv.arbImg < (s.rd R.SYS_IMG_SECVER).toNat) :
    ∃ t d, exec (.courierConfirm h p 0) s = .next t ∧ t.sv.arbImg = (s.rd R.SYS_IMG_SECVER).toNat ∧ Logged 0x0A 0xFF d s t ∧
      Answered 0x0D h 0 [] s t ∧ Keeps (whole R.COURH_CNT :: otpFlds) [.mem, .draws, .resp, .sv, .cour] s t := by
  have hauthed := s.courAuthed_keeps p
  have hver : (s.courAuthed p).rd R.SYS_IMG_SECVER = s.rd R.SYS_IMG_SECVER := hauthed.rd_eq _ (by decide)
  have hout' : (s.courAuthed p).inFoyer = false := (hauthed.flag_eq _ (by decide)).trans hout
  have hconfirm : (s.courAuthed p).imgConfirm 0xC0F1#32 0 = (s.courAuthed p).confirmed fun w => { w with arbImg := (s.rd R.SYS_IMG_SECVER).toNat } := by
    unfold State.imgConfirm
    dsimp only
    rw [hver, if_pos ⟨rfl, happlied, by rw [hout']; rfl, hlow⟩]
    rfl
  obtain ⟨hlog, hsv, hframe'⟩ := (s.courAuthed p).confirmed_logged (fun w => { w with arbImg := (s.rd R.SYS_IMG_SECVER).toNat }) rfl rfl
  have hserved : (fun s : State => s.courNoFoyer fun s => s.courAuth 0x0D h p fun s p => s.courConfirm 0 p) s.courCount =
      ((s.courAuthed p).confirmed fun w => { w with arbImg := (s.rd R.SYS_IMG_SECVER).toNat }, 0, []) := by
    refine (State.courNoFoyer_serves (s.inFoyer_courCount.trans hout)).trans ((State.courAuth_passes hpass).trans ?_)
    rw [hp]
    refine (if_neg (by decide)).trans ((if_pos (by decide)).trans ?_)
    rw [hconfirm]
  generalize hu : ((s.courAuthed p).confirmed fun w => { w with arbImg := (s.rd R.SYS_IMG_SECVER).toNat }) = u at hlog hsv hframe' hserved
  have hx : Keeps otpFlds [.mem, .draws, .sv] s.courCount u := .comp hframe' (.modSv' (.refl _ _ _))
  obtain ⟨hexec, hanswered, hframe⟩ := hasked.serves (c := .courierConfirm h p 0) rfl hserved hx (by decide) (by decide)
  have hreply := CourAns.reply_frame (u, 0, []) 0x0D h
  refine ⟨_, _, hexec, ?_, hlog.of rfl rfl rfl ?_ ?_ (CourAns.reply_mem ..) ?_, hanswered, .after hframe (.refl _ _ s)⟩
  · rw [CourAns.reply_sv, hsv]
  · rw [CourAns.reply_sv]
  · rw [CourAns.reply_sv]
  · exact State.logBytes_congr _ _ _ _ (by rw [CourAns.reply_sv]) (by rw [CourAns.reply_sv]) (hreply.rd_eq _ (by decide))

end

/-! ### The reset that is due, EVENTs, and the end of an idle session (R603, R630, R633, R647) -/

section
variable {s : State} {h : MsgHdr}

/-- The cause of a reset that a write asks for. -/
def State.resetCaused (s : State) (foyer : Bool) : State :=
  (if foyer then s.set1 F.SYS_RESET_CAUSE_FOYER_REQ else s).set1 F.SYS_RESET_CAUSE_SOFT

theorem State.resetCaused_keeps (s : State) (foyer : Bool) : Keeps [F.SYS_RESET_CAUSE_FOYER_REQ, F.SYS_RESET_CAUSE_SOFT] [] s (s.resetCaused foyer) :=
  .set1' (.ite' (.set1' (.refl _ _ s)) (.refl _ _ s))

theorem State.resetCaused_soft (s : State) (foyer : Bool) : (s.resetCaused foyer).get F.SYS_RESET_CAUSE_SOFT = 1 := State.get_put_self _ _ _ (by decide)

theorem State.resetCaused_foyer (s : State) : (s.resetCaused true).get F.SYS_RESET_CAUSE_FOYER_REQ = 1 :=
  (State.get_put_other _ _ _ _ (by decide)).trans (State.get_put_self _ _ _ (by decide))

/-- The keyed write of KIND 1 or 3 asserts the reset (R603). -/
theorem State.resetWrite_asserts (s : State) {i : Initiator} (hi : i = .hpa ∨ i = .hspi ∨ i = .courier) (foyer : Bool) :
    s.resetWrite i (if foyer then 0x7A5C0003#32 else 0x7A5C0001#32) = (s.resetCaused foyer).sysAssert := by
  cases foyer
  · have hkind : bitsOf (0x7A5C0001#32).toNat 0 4 = 1 := by decide
    have hkey : bitsOf (0x7A5C0001#32).toNat 16 16 = 0x7A5C := by decide
    simp only [State.resetWrite, Bool.false_eq_true, if_false, hkind, hkey, hi]
    rfl
  · have hkind : bitsOf (0x7A5C0003#32).toNat 0 4 = 3 := by decide
    have hkey : bitsOf (0x7A5C0003#32).toNat 16 16 = 0x7A5C := by decide
    simp only [State.resetWrite, if_true, hkind, hkey, hi]
    rfl

/-- A SYSTEM reset begins, with a cause noted. -/
structure ResetBegun (s t : State) : Prop where
  at_ : t.start.resetAt = some s.mono
  low : t.start.pinLow = s.start.pinLow
  held : ∀ q < 2, (t.hok.get q).run = false
  units : ∀ u < 14, s.pwmState u ≠ 3 → t.pwmState u = 0
  gates : ∀ h < 8, t.gatesOff h
  relays : t.get F.RELAY_STATUS_K1_CMD = 0 ∧ t.get F.RELAY_STATUS_K2_CMD = 0
  frame : KeepsOutside (zone R.SYS_ID :: assertZones) assertParts s t

theorem Asserted.begun {u t : State} {fs : List Fld} (h : Asserted u t) (hu : Keeps fs [] s u) (hf : ∀ f ∈ fs, f.addr = R.SYS_RESET_CAUSE) :
    ResetBegun s t := by
  have hstart : u.start = s.start := hu.2 .start (by decide)
  have hmono : u.mono = s.mono := State.mono_congr (hu.2 .epoch (by decide)) (hu.2 .ep (by decide))
  refine ⟨h.at_.trans (congrArg some hmono), h.low.trans (congrArg _ hstart), h.held, fun k hk hst => h.units k hk (ne_of_eq_of_ne ?_ hst), h.gates, h.relays, ?_⟩
  · exact hu.get_eq _ fun f hmem => Fld.apart_of_addr (by rw [hf f hmem]; simp; omega)
  · have hcause : KeepsOutside (zone R.SYS_ID :: assertZones) assertParts s u :=
      (Keeps.after hu (.refl fs assertParts s)).toOutside fun f hmem => ⟨_, List.mem_cons_self, by rw [hf f hmem]; decide⟩
    exact .comp (h.frame.widen (by intro r hr; exact ⟨r, List.mem_cons_of_mem _ hr, Nat.le_refl _, Nat.le_refl _⟩)) hcause

theorem Asserted.cause {u t : State} (h : Asserted u t) (g : Fld) (hg : g.addr = R.SYS_RESET_CAUSE) : t.get g = u.get g :=
  h.frame.get_eq g (by rw [hg]; decide)

/-- The state after such a write. -/
theorem State.resetCaused_asserts {foyer : Bool} (hat : s.start.resetAt = none) :
    ResetBegun s (s.resetCaused foyer).sysAssert ∧ (s.resetCaused foyer).sysAssert.get F.SYS_RESET_CAUSE_SOFT = 1 ∧
      (foyer = true → (s.resetCaused foyer).sysAssert.get F.SYS_RESET_CAUSE_FOYER_REQ = 1) := by
  have hcaused := s.resetCaused_keeps foyer
  have hnone : (s.resetCaused foyer).start.resetAt = none := (congrArg StartState.resetAt (hcaused.2 .start (by decide))).trans hat
  have hassert := State.sysAssert_asserts hnone
  refine ⟨hassert.begun hcaused (by simp), (hassert.cause _ rfl).trans (s.resetCaused_soft foyer), fun hfoyer => ?_⟩
  subst hfoyer
  exact (hassert.cause _ rfl).trans s.resetCaused_foyer

theorem State.busWrite_reset (s : State) (v : Word) (hon : s.pdOn 1 = true) : s.busWrite .courier R.SYS_RESET v = s.resetWrite .courier v := by
  have hreg : regionOf R.SYS_RESET = .reg := by decide
  have hpowered : s.powered R.SYS_RESET = s.pdOn 1 := by
    rw [State.powered, hreg]
    rfl
  have hwrites : s.hostWrites .courier R.SYS_RESET = true := by
    rw [State.hostWrites, hreg]
    exact hpowered.trans hon
  have hword : R.SYS_RESET / 4 * 4 = R.SYS_RESET := by decide
  have hput : s.wordPut .courier R.SYS_RESET v = s.resetWrite .courier v := by
    rw [State.wordPut, hreg]
    rfl
  show (s.hostWrite .courier R.SYS_RESET v).1 = _
  rw [State.hostWrite, hword, if_pos hwrites, hput]

/-- The reset that was due is so no more. -/
def State.resetTaken (s : State) : State := s.modCour fun c => { c with reset := none, resetTx := none }

theorem reset_acts {k d : Nat} (hreset : s.cour.reset = some (k, d)) (hdue : d ≤ s.mono) (hheld : s.resetHeld = false) (hk : k = 1 ∨ k = 3)
    (hon : s.pdOn 1 = true) (hat : s.start.resetAt = none) :
    ∃ t, exec .courierResetAct s = .next t ∧ t.cour.reset = none ∧ t.start.resetAt = some s.mono ∧ t.get F.SYS_RESET_CAUSE_SOFT = 1 ∧
      (k = 3 → t.get F.SYS_RESET_CAUSE_FOYER_REQ = 1) ∧ (t.hok.get 0).run = false ∧ (t.hok.get 1).run = false ∧
      KeepsOutside [zone R.SYS_ID, zone R.DIAG_MAINT_REQ, zone R.DRV_STATUS, zone R.GRID_CFG, zone R.LANE_STATUS, zone (R.PWM_CTRL 0),
          zone R.RELAY_CFG, zone R.SENSG_STATUS, zone R.SENSP_STATUS, zone R.WCMPG_STATUS, zone R.WCMPP_STATUS]
        [.mem, .shadow, .draws, .resp, .pwm, .sens, .wcmp, .drive, .diag, .relay, .meter, .start, .hok, .cour] s t := by
  have hword : w32 (0x7A5C0000 + k) = if (k == 3) then 0x7A5C0003#32 else 0x7A5C0001#32 := by
    rcases hk with rfl | rfl <;> decide
  have hexec : exec .courierResetAct s = .next (((s.resetTaken).resetCaused (k == 3)).sysAssert) := by
    change execCourierResetAct s = _
    unfold execCourierResetAct
    rw [hreset]
    refine (if_pos (by simp [hdue, hheld])).trans ?_
    show Host.Outcome.next (s.resetTaken.busWrite .courier R.SYS_RESET (w32 (0x7A5C0000 + k))) = _
    rw [State.busWrite_reset s.resetTaken _ hon, hword, State.resetWrite_asserts _ (.inr (.inr rfl))]
  have hcour : KeepsOutside (zone R.SYS_ID :: assertZones) [.mem, .shadow, .draws, .resp, .pwm, .sens, .wcmp, .drive, .diag, .relay, .meter, .start, .hok, .cour]
      s (s.resetTaken) := .after (State.modCour_outside ..) (.refl _ _ s)
  obtain ⟨hbegun, hsoft, hfoyer⟩ := State.resetCaused_asserts (s := s.resetTaken) (foyer := k == 3) hat
  refine ⟨_, hexec, ?_, hbegun.at_, hsoft, fun h3 => hfoyer (by simp [h3]), hbegun.held 0 (by decide), hbegun.held 1 (by decide), ?_⟩
  · exact congrArg CourState.reset (hbegun.frame.2 .cour (by decide))
  · exact .after hbegun.frame hcour

theorem reset_waits (hwait : s.cour.reset = none ∨ s.resetHeld = true ∨ ∃ k d, s.cour.reset = some (k, d) ∧ s.mono < d) :
    exec .courierResetAct s = .next s := by
  change execCourierResetAct s = _
  unfold execCourierResetAct
  split
  next k t hreset =>
    refine if_neg ?_
    rcases hwait with hnone | hheld | ⟨k', d, hlater, hlt⟩
    · exact absurd (hnone.symm.trans hreset) (by simp)
    · simp [hheld]
    · obtain ⟨rfl, rfl⟩ := Prod.mk.inj (Option.some.inj (hlater.symm.trans hreset))
      simp; omega
  next => rfl

/-- An EVENT sent once more. -/
def State.eventSentAgain (s : State) (e : EventMsg) (wait : Nat) : State :=
  { s.modCour fun c => { c with event := some { e with sent := e.sent + 1, next := e.next + wait } } with
    resp := { words := [], bytes := e.bytes, result := 0, fault := false } }

/-- A repeat of an EVENT, by the wait and the state it is made in. -/
theorem State.eventAgain_eq {e : EventMsg} {u : State} {wait : Nat} (h : e.sent < 4)
    (hwait : (if e.sent = 1 then 1600000000 else if e.sent = 2 then 3200000000 else s.drawn % 6400000001) = wait)
    (hu : (if e.sent = 3 then s.drew else s) = u) :
    s.eventAgain e = if s.get F.COURH_EVENT_DST_ADDR = 0xFFFE then u.eventSentAgain e wait
      else (u.eventSentAgain e wait).plcQueue e.txid (s.get F.COURH_EVENT_DST_ADDR) e.bytes := by
  subst hwait hu
  exact if_neg (by omega)

/-- An EVENT sent once more differs from that in the powerline's queue at most. -/
theorem State.eventQueued (s : State) (e : EventMsg) (wait : Nat) (dst : Nat) {u : State}
    (hu : u = if dst = 0xFFFE then s.eventSentAgain e wait else (s.eventSentAgain e wait).plcQueue e.txid dst e.bytes) :
    u.cour.event = some { e with sent := e.sent + 1, next := e.next + wait } ∧ u.resp.bytes = e.bytes ∧ Keeps [] [.resp, .cour] s u := by
  have hsent : Keeps [] [.resp, .cour] s (s.eventSentAgain e wait) := .resp (.after (State.modCour_keeps ..) (.refl _ _ s)) _ (by simp)
  subst hu
  unfold State.plcQueue
  split_ifs
  · exact ⟨rfl, rfl, hsent⟩
  · exact ⟨rfl, rfl, .after (State.modCour_keeps ..) hsent⟩
  · exact ⟨rfl, rfl, hsent⟩

theorem exec_eventRepeat {e : EventMsg} (hevent : s.cour.event = some e) (hdue : e.next ≤ s.mono) :
    exec .courierEventRepeat s = .next (s.eventAgain e) := by
  change execCourierEventRepeat s = _
  unfold execCourierEventRepeat
  rw [hevent]
  exact if_pos hdue

end

theorem stageClose_closes (s : State) : s.stageClose.sv.stage = none ∧ Keeps [F.SYS_IMG_STATUS_BUSY, F.SV_BOOT_BUSY] [.sv] s s.stageClose := by
  cases hstage : s.sv.stage with
  | none => rw [State.stageClose_none hstage]; exact ⟨hstage, .refl _ _ s⟩
  | some g =>
    have hclose : s.stageClose = (s.put (busyF g.kind) 0).modSv fun v => { v with stage := none } := by rw [State.stageClose, hstage]
    rw [hclose]
    refine ⟨rfl, .modSv' (.put' (.refl _ _ s) ?_)⟩
    unfold busyF
    split_ifs <;> simp

/-- Settles O51: an authorised request acts on the counted state whose signer's counter has advanced; what is due later acts when its time has
come. -/
theorem courierActions : Obligations.CourierActions := by
  unfold Obligations.CourierActions
  intro s h
  refine ⟨fun hasked => ⟨fun p m v hout hpass hon hp => asked_write hasked hout hpass hon hp, fun x hx => ?_, asked_foyer hasked,
    fun p hpass hkind => asked_reset hasked hpass hkind, fun p hpass hlen hnone hfree hkind hslot hnot hahead hask =>
      asked_begin hasked hpass hlen hnone hfree hkind hslot hnot hahead hask, fun p g w hfenced hbusy hsession hstage hlen hid hoff htotal hwrite hend hgot hfit hahead hask =>
      asked_data hasked hfenced hbusy hsession hstage hlen hid hoff htotal hwrite hend hgot hfit hahead hask, fun p g w hfenced hbusy hsession hstage hlen hid hwrite =>
      asked_end hasked hfenced hbusy hsession hstage hlen hid hwrite, ?_, ?_, fun p hout hpass hp happlied hlow => asked_confirm hasked hout hpass hp happlied hlow⟩,
    fun k d hreset hdue hheld hk hon hat => reset_acts hreset hdue hheld hk hon hat, reset_waits, ?_, ?_, ?_, ?_, ?_, ?_, ?_, ?_, ?_⟩
  · exact ⟨fun p hout => (asked_failed hasked hout hx).1 p, fun p hout => (asked_failed hasked hout hx).2 p⟩
  · exact fun p k hpass hp hk hok => asked_select hasked hpass (by decide) (by decide) hk hok fun hok' => State.courSelect_img hp hk hok'
  · exact fun p k hpass hp hk hok => asked_select hasked hpass (by decide) (by decide) hk hok fun hok' => State.courSelect_fw hp hk hok'
  · intro e hevent hup hfor htx hdst
    have hexec : exec (.courierEventAck h) s = .next (s.modCour fun c => { c with event := none }) := by
      change execCourierEventAck h s = _
      unfold execCourierEventAck
      rw [hevent]
      exact if_pos (by simp [hup, hfor, htx, hdst])
    exact ⟨_, hexec, rfl, rfl, .after (State.modCour_keeps ..) (.refl _ _ s)⟩
  · intro hnone
    constructor
    · change execCourierEventAck h s = _
      unfold execCourierEventAck
      rw [hnone]
    · change execCourierEventRepeat s = _
      unfold execCourierEventRepeat
      rw [hnone]
  · intro e hevent hlater
    change execCourierEventRepeat s = _
    unfold execCourierEventRepeat
    rw [hevent]
    exact if_neg (by omega)
  · intro e hevent hdue hsent
    have hagain := State.eventAgain_eq (s := s) (e := e) (wait := if e.sent = 1 then 1600000000 else 3200000000) (u := s) (by omega)
      (by rcases hsent with hsent | hsent <;> simp [hsent]) (if_neg (by omega))
    exact ⟨_, exec_eventRepeat hevent hdue, s.eventQueued e _ _ hagain⟩
  · intro e hevent hdue hsent
    have hagain := State.eventAgain_eq (s := s) (e := e) (wait := s.drawn % 6400000001) (u := s.drew) (by omega) (by simp [hsent]) (if_pos hsent)
    obtain ⟨hnext, hbytes, hframe⟩ := s.drew.eventQueued e _ _ hagain
    rw [hsent] at hnext
    exact ⟨_, s.drawn % 6400000001, exec_eventRepeat hevent hdue, by omega, hnext, hbytes, .after hframe (.drew' (.refl _ _ s))⟩
  · intro e hevent hdue hsent
    have hlost : s.eventAgain e = (s.set1 F.COURH_STICKY_EVENT_LOST).modCour fun c => { c with event := none } := if_pos hsent
    exact ⟨_, (exec_eventRepeat hevent hdue).trans (congrArg Host.Outcome.next hlost), rfl, State.get_put_self _ _ _ (by decide),
      .after (State.modCour_keeps ..) (.set1' (.refl _ _ s))⟩
  · intro hnone
    change execStagingSessionTimeout s = _
    unfold execStagingSessionTimeout
    rw [hnone]
  · intro g hsession hdue
    have hexec : exec .stagingSessionTimeout s = .next ((s.stageClose.put F.COURH_STATUS_SESSION 0).modCour fun c => { c with session := none }) := by
      change execStagingSessionTimeout s = _
      unfold execStagingSessionTimeout
      rw [hsession]
      exact (if_pos hdue).trans (congrArg Host.Outcome.next (State.courSessionEnd_of_session hsession))
    obtain ⟨hstage, hframe⟩ := stageClose_closes s
    exact ⟨_, hexec, rfl, hstage, State.get_put_self _ _ _ (by decide), .after (State.modCour_keeps ..) (.put' (.after hframe (.refl _ _ s)))⟩
  · intro g hsession hearly
    change execStagingSessionTimeout s = _
    unfold execStagingSessionTimeout
    rw [hsession]
    exact if_neg (by omega)

end Sys2Proof.Machine
end

section
/-!
Proofs about what a reset and a fall to SLEEP leave of the state (chapters 17 and 19).
The proofs are elaborated in turn: in one text, proofs that wait for each other would each hold a thread.
-/

set_option Elab.async false

namespace Sys2Proof.Machine

/-! # What a reset and a fall to SLEEP leave of the registers (R543, R558, R601, R605) -/

/-! ### Filters and overlays of a map in canonical form -/

section
variable {α : Type} [Inhabited α] [DecidableEq α]

omit [DecidableEq α] in
theorem SMap.get_of_above {m : SMap α} {k a : Nat} (h : m.above k = true) (ha : a ≤ k) : m.get a = default := by
  cases m with
  | nil => rfl
  | cons e t =>
    obtain ⟨j, w⟩ := e
    have hj : k < j := by simpa [SMap.above] using h
    rw [SMap.get, if_neg (by omega), if_pos (by omega)]

theorem SMap.head_of_wf {k : Nat} {v : α} {t : SMap α} (h : SMap.wf ((k, v) :: t) = true) : v ≠ default ∧ t.above k = true := by
  simp only [SMap.wf, Bool.and_eq_true, decide_eq_true_eq] at h
  exact h.1

theorem SMap.get_cons_of_wf {k : Nat} {v : α} {t : SMap α} (h : SMap.wf ((k, v) :: t) = true) (a : Nat) :
    SMap.get ((k, v) :: t) a = if a = k then v else t.get a := by
  rw [SMap.get]
  split_ifs with h1 h2
  · rfl
  · exact (SMap.get_of_above (SMap.head_of_wf h).2 (Nat.le_of_lt h2)).symm
  · rfl

theorem SMap.get_filter (p : Nat → Bool) (a : Nat) : ∀ {m : SMap α}, m.wf = true →
    SMap.get (m.filter fun e => p e.1) a = if p a then m.get a else default
  | [], _ => by simp [SMap.get]
  | (k, v) :: t, h => by
    have ih := SMap.get_filter p a (SMap.wf_tail h)
    have hf := SMap.wf_filter (fun e => p e.1) _ h
    rw [SMap.get_cons_of_wf h]
    by_cases hp : p k = true
    · simp only [List.filter_cons, hp, if_true] at hf ⊢
      rw [SMap.get_cons_of_wf hf, ih]
      by_cases hak : a = k
      · simp [hak, hp]
      · simp only [hak, if_false]
    · simp only [List.filter_cons, hp, Bool.false_eq_true, if_false]
      rw [ih]
      by_cases hak : a = k
      · simp [hak, hp]
      · simp only [hak, if_false]

/-- The entries of a map written over another. -/
theorem SMap.get_overlay (a : Nat) : ∀ {l : SMap α} (m : SMap α), l.wf = true →
    SMap.get (l.foldl (fun (n : SMap α) e => n.set e.1 e.2) m) a = if l.get a = default then m.get a else l.get a
  | [], m, _ => by simp [SMap.get]
  | (k, v) :: t, m, h => by
    obtain ⟨hv, habove⟩ := SMap.head_of_wf h
    rw [List.foldl_cons, SMap.get_overlay a _ (SMap.wf_tail h), SMap.get_cons_of_wf h, SMap.get_set]
    by_cases hak : a = k
    · subst hak
      simp [SMap.get_of_above habove (Nat.le_refl _), hv]
    · simp only [hak, if_false]

end

/-! ### Registers written over a state's -/

/-- The entries of a map written over the registers. -/
def State.overlaid (s : State) (l : SMap Word) : State := { s with regs := l.foldl (fun (n : SMap Word) e => n.set e.1 e.2) s.regs }

theorem State.foldl_wr : ∀ (l : SMap Word) (s : State), l.foldl (fun (t : State) (e : Nat × Word) => t.wr e.1 e.2) s = s.overlaid l
  | [], _ => rfl
  | e :: l, s => State.foldl_wr l (s.wr e.1 e.2)

theorem State.rd_overlaid (s : State) {l : SMap Word} (h : l.wf = true) (a : Nat) : (s.overlaid l).rd a = if l.get a = 0#32 then s.rd a else l.get a :=
  SMap.get_overlay a s.regs h

theorem State.regs_wf {s : State} (h : s.canonical = true) : s.regs.wf = true := by
  simp only [State.canonical, Bool.and_eq_true] at h
  exact h.1.1.1

/-- The kept registers of one state over those of another that has none of them. -/
theorem State.rd_kept {s b : State} {keep : Nat → Bool} {a : Nat} (hs : s.regs.wf = true) (hb : keep a = true → b.rd a = 0#32) :
    (b.overlaid (s.regs.filter fun e => keep e.1)).rd a = if keep a then s.rd a else b.rd a := by
  rw [State.rd_overlaid _ (SMap.wf_filter _ _ hs), SMap.get_filter keep a hs]
  by_cases hk : keep a = true
  · simp only [hk, if_true]
    split_ifs with hzero
    · exact (hb hk).trans hzero.symm
    · rfl
  · simp only [hk]
    exact if_pos rfl


/-! ### The reset of what is volatile (Table SUP-5) -/

/-- The registers of PD0, and the pads' holds. -/
def volKeep (a : Nat) : Bool := (0x400D0000 ≤ a && a < 0x400E0000) || a == R.SYS_PAD_HOLD

/-- The reset state with what PD0, MRAM, OTP and the outside keep, without the kept registers. -/
def State.volBase (s : State) : State :=
  { State.reset with
    regs := State.reset.regs.filter (fun e => !volKeep e.1)
    mem := s.mem.filter (fun e => 0x10000000 ≤ e.1 && e.1 < 0x11000000)
    ecc := s.ecc.filter (fun e => 0x10000000 ≤ e.1 && e.1 < 0x11000000)
    draws := s.draws, resp := s.resp, pins := s.pins, plinth := { s.plinth with dvfsTo := [], dvfsAt := [] }
    pending := s.pending
    wcmp := { State.reset.wcmp with wc := (List.range 24).foldl (fun (m : SMap WcState) c =>
      m.modify c fun w => { w with input := (s.wcmp.wc.get c).input }) State.reset.wcmp.wc }
    start := { State.reset.start with pinLow := s.start.pinLow }
    sv := { State.reset.sv with
      hash := s.sv.hash, key := s.sv.key, revoked := s.sv.revoked, strict := s.sv.strict, debugLock := s.sv.debugLock, arbFw := s.sv.arbFw,
      arbImg := s.sv.arbImg, arbApp := s.sv.arbApp, bootNo := s.sv.bootNo, logSeq := s.sv.logSeq, logSlot := s.sv.logSlot, replay := s.sv.replay } }

/-- That state with the kept registers. -/
def State.volKept (s : State) : State := s.volBase.overlaid (s.regs.filter fun e => volKeep e.1)

/-- Fields of another state, put into this one. -/
def State.fieldsFrom (u s : State) (l : List Fld) : State := l.foldl (fun (t : State) f => t.put f (s.get f)) u

theorem State.volatileReset_eq (s : State) : s.volatileReset =
    (((s.volKept.fieldsFrom s keptFlds).svShow).put F.SYS_IMG_STATUS_ACTIVE (s.get F.SYS_IMG_SELECT_SLOT)).put F.SV_BOOT_ACTIVE_FW (s.get F.SV_BOOT_FW_SEL) := by
  rw [State.volKept, ← State.foldl_wr]
  rfl

theorem State.fieldsFrom_keeps (s : State) : ∀ (l : List Fld) (u : State) {fs : List Fld}, l ⊆ fs → Keeps fs [] u (u.fieldsFrom s l)
  | [], u, _, _ => .refl _ _ u
  | f :: l, u, _, h => .comp (State.fieldsFrom_keeps s l (u.put f (s.get f)) (List.subset_of_cons_subset h)) (.put' (.refl _ _ u) (h List.mem_cons_self))

/-- The fields that the reset of what is volatile writes over the kept registers. -/
def volFlds : List Fld := keptFlds ++ otpFlds ++ [F.SYS_IMG_STATUS_ACTIVE, F.SV_BOOT_ACTIVE_FW]

theorem State.volatileReset_keeps (s : State) : Keeps volFlds [] s.volKept s.volatileReset := by
  rw [s.volatileReset_eq]
  refine .put' (.put' (.comp (.after (State.svShow_frame _) (.refl _ _ _) (by simp [volFlds])) (s.fieldsFrom_keeps _ _ (by simp [volFlds]))) ?_) ?_
  · simp [volFlds]
  · simp [volFlds]

theorem volFlds_kept : ∀ f ∈ volFlds, f.addr ∈ keptRegs := by decide

theorem State.reset_regs_wf : State.reset.regs.wf = true := State.regs_wf State.reset_canonical

theorem State.rd_volBase (s : State) (a : Nat) : s.volBase.rd a = if volKeep a then 0#32 else State.reset.rd a := by
  refine (SMap.get_filter (fun a => !volKeep a) a State.reset_regs_wf).trans ?_
  by_cases hk : volKeep a = true
  · simp [hk]; rfl
  · simp [hk]; rfl

theorem State.rd_volKept {s : State} (h : s.regs.wf = true) (a : Nat) : s.volKept.rd a = if volKeep a then s.rd a else State.reset.rd a := by
  rw [State.volKept, State.rd_kept h fun hk => by rw [State.rd_volBase, if_pos hk], State.rd_volBase]
  by_cases hk : volKeep a = true <;> simp [hk]

theorem State.rd_volatileReset_kept (s : State) {a : Nat} (ha : ∀ f ∈ volFlds, f.addr ≠ a) : s.volatileReset.rd a = s.volKept.rd a :=
  s.volatileReset_keeps.rd_eq a fun f hf => Fld.apart_of_addr (ha f hf)

theorem volFlds_off_plinth : ∀ f ∈ volFlds, f.addr < 0x400D0000 ∨ 0x400E0000 ≤ f.addr := by decide

/-- The registers of PD0 stand. -/
theorem State.rd_volatileReset_plinth {s : State} (h : s.regs.wf = true) {a : Nat} (hlo : 0x400D0000 ≤ a) (hhi : a < 0x400E0000) :
    s.volatileReset.rd a = s.rd a := by
  rw [s.rd_volatileReset_kept fun f hf => by have := volFlds_off_plinth f hf; omega, State.rd_volKept h]
  exact if_pos (by simp [volKeep, hlo, hhi])

/-- Every other register that is not kept reads as at reset. -/
theorem State.rd_volatileReset_other {s : State} (h : s.regs.wf = true) {a : Nat} (hout : a < 0x400D0000 ∨ 0x400E0000 ≤ a) (ha : a ∉ keptRegs) :
    s.volatileReset.rd a = State.reset.rd a := by
  rw [s.rd_volatileReset_kept fun f hf he => ha (by rw [← he]; exact volFlds_kept f hf), State.rd_volKept h]
  have hpad : a ≠ R.SYS_PAD_HOLD := fun he => ha (by rw [he]; decide)
  exact if_neg (by simp [volKeep, hpad]; omega)

/-- A register's field with none of the rewritten fields in it. -/
theorem State.get_volatileReset_other {s : State} (h : s.regs.wf = true) (g : Fld) (hout : g.addr < 0x400D0000 ∨ 0x400E0000 ≤ g.addr)
    (hg : g.addr ∉ keptRegs) : s.volatileReset.get g = State.reset.get g := by
  rw [State.get, State.get, State.rd_volatileReset_other h hout hg]

/-! ### What else stands, and what does not -/

theorem State.volatileReset_part (s : State) (p : Part) : p.same s.volKept s.volatileReset := s.volatileReset_keeps.2 p (by simp)

theorem State.volatileReset_active (s : State) : s.volatileReset.get F.SYS_IMG_STATUS_ACTIVE = s.get F.SYS_IMG_SELECT_SLOT := by
  rw [s.volatileReset_eq, State.get_put_other _ _ _ _ (by decide)]
  refine (State.get_put_self _ _ _ (by decide)).trans (Nat.mod_eq_of_lt ?_)
  exact Nat.mod_lt _ (by decide)

theorem State.volatileReset_activeFw (s : State) : s.volatileReset.get F.SV_BOOT_ACTIVE_FW = s.get F.SV_BOOT_FW_SEL := by
  rw [s.volatileReset_eq]
  refine (State.get_put_self _ _ _ (by decide)).trans (Nat.mod_eq_of_lt ?_)
  exact Nat.mod_lt _ (by decide)

theorem State.mems_wf {s : State} (h : s.canonical = true) : SMap.wf s.mem = true ∧ SMap.wf s.ecc = true := by
  simp only [State.canonical, Bool.and_eq_true] at h
  exact ⟨h.1.1.2, h.1.2⟩

/-- The addresses of MRAM. -/
def mramAt (a : Nat) : Bool := 0x10000000 ≤ a && a < 0x11000000

theorem State.rdB_volatileReset {s : State} (h : s.canonical = true) (a : Nat) :
    s.volatileReset.rdB a = if mramAt (memHome a) then s.rdB a else 0#8 := by
  refine ((s.volatileReset_part .mem).1 a).trans ?_
  exact SMap.get_filter mramAt (memHome a) (State.mems_wf h).1

theorem State.eccBad_volatileReset {s : State} (h : s.canonical = true) (a : Nat) :
    s.volatileReset.eccBad a = if mramAt (eccHome a) then s.eccBad a else false := by
  have hecc : s.volatileReset.ecc = s.volKept.ecc := (s.volatileReset_part .mem).2
  rw [State.eccBad, hecc]
  exact SMap.get_filter mramAt (eccHome a) (State.mems_wf h).2

end Sys2Proof.Machine
end

section
/-!
Proofs about resets (chapter 19).
The proofs are elaborated in turn: in one text, proofs that wait for each other would each hold a thread.
-/

set_option Elab.async false

namespace Sys2Proof.Machine

/-! # O54: resets (chapter 19) -/


/-! ### The power-up (R601) -/

/-- The causes after a power-up: the power-up itself, and a cold start. -/
def State.upCaused (t : State) (cold : Bool) : State := ((t.wr R.SYS_RESET_CAUSE 0).set1 F.SYS_RESET_CAUSE_POWER_UP).put F.SYS_RESET_CAUSE_COLD (b2n cold)

/-- P1 begins, with the pin as found. -/
def State.upStarted (t : State) (tm : Bool) : State :=
  let u := (t.modPlinth fun p => { p with cold := false }).put F.SYS_START_PHASE 1
  { u with pins := { u.pins with testMode := tm } }

/-- The state in which PD1 powers up. -/
def State.poweredUp (s : State) (tm : Bool) : State := ((s.volatileReset.wr R.SYS_PD_STATUS 0x87#32).upCaused s.plinth.cold).upStarted tm

theorem State.upStarted_keeps (t : State) (tm : Bool) : Keeps [F.SYS_START_PHASE] [.plinth, .pins] t (t.upStarted tm) := .beside' (.put' (.beside' (.refl _ _ t)))

theorem State.upCaused_keeps (t : State) (cold : Bool) : Keeps [whole R.SYS_RESET_CAUSE] [] t (t.upCaused cold) := by
  have hcause : Keeps [F.SYS_RESET_CAUSE_POWER_UP, F.SYS_RESET_CAUSE_COLD, whole R.SYS_RESET_CAUSE] [] t (t.upCaused cold) := .put' (.set1' (.wr' (.refl _ _ t)))
  exact hcause.coarsen (by simp [Fld.inside, whole])

theorem State.upCaused_cause (t : State) (cold : Bool) : (t.upCaused cold).rd R.SYS_RESET_CAUSE = BitVec.ofNat 32 (2 + b2n cold) := by
  have hput (t : State) (f : Fld) (v : Nat) (hf : f.addr = R.SYS_RESET_CAUSE) : (t.put f v).rd R.SYS_RESET_CAUSE = fput (t.rd R.SYS_RESET_CAUSE) f v := by
    rw [← hf]
    exact State.rd_wr_same _ _ _
  rw [State.upCaused, hput _ _ _ rfl, State.set1, hput _ _ _ rfl, State.rd_wr_same]
  cases cold <;> decide

/-- What the power-up writes after the reset of what is volatile. -/
def powerFlds : List Fld := [whole R.SYS_PD_STATUS, whole R.SYS_RESET_CAUSE, F.SYS_START_PHASE]

theorem State.poweredUp_keeps (s : State) (tm : Bool) : Keeps powerFlds [.plinth, .pins] s.volatileReset (s.poweredUp tm) :=
  .after (State.upStarted_keeps ..) (.after (State.upCaused_keeps ..) (.wr' (.refl _ _ _) (by simp [powerFlds])) (by simp [powerFlds])) (by simp [powerFlds])

theorem State.poweredUp_exec {s : State} (tm : Bool) (halive : s.alive = true) (hfresh : (s.pdOn 1 = false ∧ s.plState ≠ 0) ∨
      (s.pdOn 1 = true ∧ s.phase = 0 ∧ s.flag F.SYS_START_DONE = false ∧ s.inFoyer = false ∧ s.start.resetAt = none)) :
    exec (.powerUpReset tm) s = .next (s.poweredUp tm) := by
  have hcond : (s.alive && ((s.pdOn 1 && s.phase == 0 && !s.flag F.SYS_START_DONE && !s.inFoyer && s.start.resetAt.isNone) ||
      (!s.pdOn 1 && s.plState != 0))) = true := by
    rcases hfresh with ⟨hoff, hst⟩ | ⟨hon, hphase, hdone, hfoyer, hat⟩
    · simp [halive, hoff, hst]
    · simp [halive, hon, hphase, hdone, hfoyer, hat]
  change execPowerUpReset tm s = _
  unfold execPowerUpReset State.poweredUp
  dsimp only
  rw [if_pos hcond]
  generalize s.volatileReset = u
  rfl

section
variable {s : State} (tm : Bool)

theorem State.poweredUp_cause : (s.poweredUp tm).rd R.SYS_RESET_CAUSE = BitVec.ofNat 32 (2 + b2n s.plinth.cold) :=
  ((State.upStarted_keeps ..).rd_eq _ (by decide)).trans (State.upCaused_cause ..)

theorem State.poweredUp_domains : (s.poweredUp tm).rd R.SYS_PD_STATUS = 0x87#32 :=
  ((State.upStarted_keeps ..).rd_eq _ (by decide)).trans (((State.upCaused_keeps ..).rd_eq _ (by decide)).trans (State.rd_wr_same ..))

theorem State.upStarted_facts (t : State) : (t.upStarted tm).phase = 1 ∧ (t.upStarted tm).pins.testMode = tm ∧ (t.upStarted tm).pins.gpio = t.pins.gpio ∧
    (t.upStarted tm).plinth.cold = false :=
  ⟨State.get_put_self (t.modPlinth fun p => { p with cold := false }) F.SYS_START_PHASE 1 (by decide), rfl, rfl, rfl⟩

theorem State.poweredUp_get (g : Fld) (hg : ∀ f ∈ powerFlds, f.apart g = true) : (s.poweredUp tm).get g = s.volatileReset.get g :=
  (s.poweredUp_keeps tm).get_eq g hg

/-- A part that the power-up leaves as the reset of what is volatile does. -/
theorem State.poweredUp_part (p : Part) (hp : p ∉ [Part.plinth, .pins]) : p.same s.volatileReset (s.poweredUp tm) := (s.poweredUp_keeps tm).2 p hp

theorem State.poweredUp_plinth (h : s.canonical = true) {a : Nat} (hlo : 0x400D0000 ≤ a) (hhi : a < 0x400E0000) : (s.poweredUp tm).rd a = s.rd a := by
  rw [(s.poweredUp_keeps tm).rd_eq a (by simp [powerFlds, whole, Fld.apart]; omega), State.rd_volatileReset_plinth (State.regs_wf h) hlo hhi]

theorem State.poweredUp_other (h : s.canonical = true) {a : Nat} (hout : a < 0x400D0000 ∨ 0x400E0000 ≤ a) (ha : a ∉ R.SYS_RESET_CAUSE :: keptRegs) :
    (s.poweredUp tm).rd a = State.reset.rd a := by
  have hkept : a ∉ keptRegs := fun hk => ha (List.mem_cons_of_mem _ hk)
  have hfree : ∀ f ∈ powerFlds, f.apart (whole a) = true := by
    intro f hf
    refine Fld.apart_of_addr fun he => ha ?_
    have he' : f.addr = a := he
    rw [← he']
    have hin : ∀ f ∈ powerFlds, f.addr ∈ R.SYS_RESET_CAUSE :: keptRegs := by decide
    exact hin f hf
  rw [(s.poweredUp_keeps tm).rd_eq a hfree, State.rd_volatileReset_other (State.regs_wf h) hout hkept]

theorem State.poweredUp_mem (h : s.canonical = true) (a : Nat) :
    (s.poweredUp tm).rdB a = (if mramAt (memHome a) then s.rdB a else 0#8) ∧
      (s.poweredUp tm).eccBad a = if mramAt (eccHome a) then s.eccBad a else false := by
  have hmem := (s.poweredUp_keeps tm).2 .mem (by decide)
  have hecc : (s.poweredUp tm).eccBad a = s.volatileReset.eccBad a := congrArg (SMap.get · (eccHome a)) hmem.2
  exact ⟨(hmem.1 a).trans (State.rdB_volatileReset h a), hecc.trans (State.eccBad_volatileReset h a)⟩

theorem State.poweredUp_pins : (s.poweredUp tm).phase = 1 ∧ (s.poweredUp tm).pins.testMode = tm ∧ (s.poweredUp tm).pins.gpio = s.pins.gpio ∧
    (s.poweredUp tm).plinth.cold = false := by
  have hcaused : Keeps [whole R.SYS_PD_STATUS, whole R.SYS_RESET_CAUSE] [] s.volatileReset ((s.volatileReset.wr R.SYS_PD_STATUS 0x87#32).upCaused s.plinth.cold) :=
    .after (State.upCaused_keeps ..) (.wr' (.refl _ _ _))
  have hpins : ((s.volatileReset.wr R.SYS_PD_STATUS 0x87#32).upCaused s.plinth.cold).pins = s.volKept.pins :=
    (hcaused.2 .pins (by decide)).trans (s.volatileReset_part .pins)
  obtain ⟨hphase, htm, hgpio, hcold⟩ := State.upStarted_facts tm ((s.volatileReset.wr R.SYS_PD_STATUS 0x87#32).upCaused s.plinth.cold)
  exact ⟨hphase, htm, hgpio.trans (congrArg PinState.gpio hpins), hcold⟩

end

/-! ### The reset of HPB (R603, R606) -/

theorem State.putAll_outside {lo hi : Nat} : ∀ (l : List (Fld × Nat)) (u : State), (∀ e ∈ l, lo ≤ e.1.addr ∧ e.1.addr < hi) →
    KeepsOutside [(lo, hi)] [.shadow] u (u.putAll l)
  | [], u, _ => .refl _ _ u
  | e :: l, u, hl =>
    .comp (State.putAll_outside l (u.put e.1 e.2) fun x hx => hl x (List.mem_cons_of_mem _ hx))
      (.put' (.refl _ _ u) ⟨_, List.mem_singleton_self _, hl e List.mem_cons_self⟩)

/-- A state without the registers and shadows of a range. -/
def State.rangeDropped (s : State) (lo hi : Nat) : State :=
  { s with regs := s.regs.filter fun e => e.1 < lo || hi ≤ e.1, shadow := s.shadow.filter fun e => e.1 < lo || hi ≤ e.1 }

/-- The reset values of a range. -/
def rangeReset (lo hi : Nat) : SMap Word := State.reset.regs.filter fun e => lo ≤ e.1 && e.1 < hi

theorem State.resetRange_eq (s : State) (lo hi : Nat) : s.resetRange lo hi =
    ((s.rangeDropped lo hi).overlaid (rangeReset lo hi)).putAll (s.imgRegs.filter fun e => lo ≤ e.1.addr && e.1.addr < hi) := by
  rw [← State.foldl_wr]
  rfl

/-- A range of registers put back to their reset and image values. -/
theorem State.resetRange_outside {s : State} (h : s.regs.wf = true) (lo hi : Nat) : KeepsOutside [(lo, hi)] [.shadow] s (s.resetRange lo hi) := by
  have hover : KeepsOutside [(lo, hi)] [.shadow] s ((s.rangeDropped lo hi).overlaid (rangeReset lo hi)) := by
    refine ⟨fun a ha => ?_, fun p hp => ?_⟩
    · have hwf : (rangeReset lo hi).wf = true := SMap.wf_filter _ _ State.reset_regs_wf
      have hout : a < lo ∨ hi ≤ a := ha _ (List.mem_singleton_self _)
      have hnone : SMap.get (rangeReset lo hi) a = 0#32 := (SMap.get_filter (fun a => lo ≤ a && a < hi) a State.reset_regs_wf).trans (if_neg (by simp; omega))
      rw [State.rd_overlaid _ hwf, if_pos hnone]
      exact (SMap.get_filter (fun a => a < lo || hi ≤ a) a h).trans (if_pos (by simp; omega))
    · cases p
      case shadow => exact absurd (List.mem_singleton_self _) hp
      case mem => exact ⟨State.rdB_congr rfl, rfl⟩
      all_goals rfl
  rw [s.resetRange_eq]
  refine .comp (State.putAll_outside _ _ fun e he => ?_) hover
  simpa using (List.mem_filter.1 he).2

theorem State.hpbUnitsStop_outside (s : State) :
    KeepsOutside [zone (R.PWM_CTRL 0), zone R.DRV_STATUS, zone R.DIAG_MAINT_REQ] [.pwm, .shadow, .drive, .diag, .mem] s s.hpbUnitsStop :=
  .forEach' (.refl _ _ _) fun _ hu _ => .after (State.stopUnit_outside _ _ (List.mem_range.1 (List.mem_of_mem_filter hu))) (.refl _ _ _)

theorem State.hpbUnitsStop_stops (s : State) {u : Nat} (hu : u < 14) (howner : s.get (F.PWM_CTRL_OWNER u) = 1) (hpair : s.unitPair u = none)
    (h : s.pwmState u ≠ 3) : s.hpbUnitsStop.pwmState u = 0 := by
  have hmem : u ∈ (List.range 14).filter fun u => s.get (F.PWM_CTRL_OWNER u) == 1 && (s.unitPair u).isNone :=
    List.mem_filter.2 ⟨List.mem_range.2 hu, by simp [howner, hpair]⟩
  have hlt : ∀ k ∈ (List.range 14).filter (fun u => s.get (F.PWM_CTRL_OWNER u) == 1 && (s.unitPair u).isNone), k < 14 :=
    fun k hk => List.mem_range.1 (List.mem_of_mem_filter hk)
  exact State.forEach_at (P := fun t => t.pwmState u ≠ 3) (Q := fun t => t.pwmState u = 0) (List.nodup_range.filter _) hmem
    (fun k hk hne t ht => by rw [(t.stopUnit_sameRun u k hu hne.symm).1]; exact ht) (fun t ht => t.stopUnit_stops u hu ht)
    (fun k hk hne t ht => by rw [(t.stopUnit_sameRun u k hu hne.symm).1]; exact ht) s h

/-! #### The end of a debug permit leaves stopped units stopped -/

theorem State.thawUnit_stopped {s : State} {u k : Nat} (hu : u < 14) (h : s.pwmState u = 0) : (s.thawUnit k).pwmState u = 0 := by
  by_cases hne : u = k
  · rw [← hne, State.thawUnit_of_running (by omega)]
    exact h
  · exact (s.thawUnit_other k u hu hne).1.trans h

theorem State.resumeThawed_stopped {s : State} {t u : Nat} (hu : u < 14) (h : s.pwmState u = 0) : (s.resumeThawed t).pwmState u = 0 :=
  State.forEach_inv (P := fun r => r.pwmState u = 0) (fun k _ r hr => by
    split
    · exact hr
    · exact State.thawUnit_stopped hu hr) (s.resumeNoted t) h

theorem State.dbgResume_free {s : State} {t : Nat} (h : s.dbgHalted t = false) : s.dbgResume t = s := if_pos (by simpa [State.dbgHalted] using h)

theorem State.dbgResume_outside (s : State) (t : Nat) :
    KeepsOutside [zone (R.PWM_CTRL 0), zone (R.LP_CTRL 0)] [.shadow, .pwm, .loop, .sv, .start] s (s.dbgResume t) := by
  cases h : s.dbgHalted t with
  | true => exact State.dbgResume_frame h
  | false => rw [State.dbgResume_free h]; exact .refl _ _ s

theorem State.dbgResume_stopped {s : State} {t u : Nat} (hu : u < 14) (h : s.pwmState u = 0) : (s.dbgResume t).pwmState u = 0 := by
  cases hhalt : s.dbgHalted t with
  | true => exact (State.dbgResume_unit hhalt u hu).1.trans (State.resumeThawed_stopped hu h)
  | false => rw [State.dbgResume_free hhalt]; exact h

theorem State.dbgResume_reset (s : State) (t : Nat) : (s.dbgResume t).start.resetAt = s.start.resetAt := by
  cases h : s.dbgHalted t with
  | false => rw [State.dbgResume_free h]
  | true =>
    have hthaw : (s.resumeThawed t).start = s.start := (s.resumeThawed_outside t).2 .start (by decide)
    have hwatch (u : State) : u.watchResumed.start.resetAt = u.start.resetAt := rfl
    have hloop (u : State) (d : Nat) : (u.loopResumed t d).start.resetAt = u.start.resetAt := rfl
    rw [State.dbgResume_eq h]
    split_ifs
    · rw [hwatch, hthaw]
    · rw [hloop, hthaw]
    · rw [hthaw]

/-- Every halt is resumed. -/
def State.allResumed (s : State) : State := s.forEach (List.range 9) State.dbgResume

theorem State.allResumed_outside (s : State) :
    KeepsOutside [zone (R.PWM_CTRL 0), zone (R.LP_CTRL 0)] [.shadow, .pwm, .loop, .sv, .start] s s.allResumed :=
  .forEach' (.refl _ _ _) fun _ _ t => t.dbgResume_outside _

theorem State.allResumed_reset (s : State) : s.allResumed.start.resetAt = s.start.resetAt := by
  unfold State.allResumed
  exact State.forEach_inv (P := fun t => t.start.resetAt = s.start.resetAt) (fun k _ t ht => (t.dbgResume_reset k).trans ht) s rfl

theorem State.allResumed_stopped {s : State} {u : Nat} (hu : u < 14) (h : s.pwmState u = 0) : s.allResumed.pwmState u = 0 := by
  unfold State.allResumed
  exact State.forEach_inv (P := fun t => t.pwmState u = 0) (fun _ _ _ ht => State.dbgResume_stopped hu ht) s h

/-- No breakpoint is set. -/
def State.unbroken (s : State) : State := s.forEach [0, 1] fun s q => s.modHok q fun k => { k with bp := [] }

theorem State.unbroken_outside (s : State) : KeepsOutside [] [.hok] s s.unbroken := .forEach' (.refl _ _ _) fun _ _ _ => State.modHok_outside ..

theorem State.unbroken_hok (s : State) : s.unbroken.hok.get 0 = { s.hok.get 0 with bp := [] } ∧ s.unbroken.hok.get 1 = { s.hok.get 1 with bp := [] } := by
  show ((s.modHok 0 _).modHok 1 _).hok.get 0 = _ ∧ ((s.modHok 0 _).modHok 1 _).hok.get 1 = _
  rw [State.hok_modHok_other _ _ _ _ (by decide), State.hok_modHok_same, State.hok_modHok_same, State.hok_modHok_other _ _ _ _ (by decide)]
  exact ⟨rfl, rfl⟩

/-- What the end of a debug permit leaves. -/
structure Unpermitted (s t : State) : Prop where
  permit : t.get F.SV_INFO_PERMIT = 0
  first : t.hok.get 0 = { (s.hok.get 0) with bp := (t.hok.get 0).bp }
  second : t.hok.get 1 = s.hok.get 1 ∨ t.hok.get 1 = { (s.hok.get 1) with bp := [] }
  reset : t.start.resetAt = s.start.resetAt
  stopped : ∀ u < 14, s.pwmState u = 0 → t.pwmState u = 0
  frame : KeepsOutside [zone (R.PWM_CTRL 0), zone (R.LP_CTRL 0), zone R.SV_INFO] [.shadow, .pwm, .loop, .sv, .start, .hok] s t
  cause : ∀ g : Fld, g.addr < 0x40050000 → t.get g = s.get g

theorem State.dbgPermitEnd_ends (s : State) : Unpermitted s s.dbgPermitEnd := by
  by_cases h : s.get F.SV_INFO_PERMIT = 0
  · rw [State.dbgPermitEnd, if_pos h]
    exact ⟨h, rfl, .inl rfl, rfl, fun _ _ hst => hst, .refl _ _ s, fun _ _ => rfl⟩
  · have hend : s.dbgPermitEnd = ((s.put F.SV_INFO_PERMIT 0).modSv fun v => { v with permitTo := 0, held := none }).allResumed.unbroken := if_neg h
    have hnone : KeepsOutside [zone (R.PWM_CTRL 0), zone (R.LP_CTRL 0), zone R.SV_INFO] [.shadow, .pwm, .loop, .sv, .start, .hok] s
        ((s.put F.SV_INFO_PERMIT 0).modSv fun v => { v with permitTo := 0, held := none }) := .beside' (.put' (.refl _ _ s))
    have hzero : ((s.put F.SV_INFO_PERMIT 0).modSv fun v => { v with permitTo := 0, held := none }).get F.SV_INFO_PERMIT = 0 := State.get_put_self _ _ _ (by decide)
    have hstate (u : Nat) (hu : u < 14) : ((s.put F.SV_INFO_PERMIT 0).modSv fun v => { v with permitTo := 0, held := none }).pwmState u = s.pwmState u :=
      State.get_put_other s F.SV_INFO_PERMIT (F.PWM_STATUS_STATE u) 0 (by simp)
    have hstart : ((s.put F.SV_INFO_PERMIT 0).modSv fun v => { v with permitTo := 0, held := none }).start = s.start := rfl
    have hhok : ((s.put F.SV_INFO_PERMIT 0).modSv fun v => { v with permitTo := 0, held := none }).hok = s.hok := rfl
    have hcause (g : Fld) (hg : g.addr < 0x40050000) : ((s.put F.SV_INFO_PERMIT 0).modSv fun v => { v with permitTo := 0, held := none }).get g = s.get g :=
      State.get_put_other s F.SV_INFO_PERMIT g 0 (Fld.apart_of_addr (by simp; omega))
    rw [hend]
    generalize (s.put F.SV_INFO_PERMIT 0).modSv (fun v => { v with permitTo := 0, held := none }) = u at hnone hzero hstate hstart hhok hcause
    have hall := u.allResumed_outside
    have hbp := u.allResumed.unbroken_outside
    have hkept : u.allResumed.hok = s.hok := (hall.2 .hok (by decide)).trans hhok
    obtain ⟨h0, h1⟩ := u.allResumed.unbroken_hok
    rw [hkept] at h0 h1
    refine ⟨?_, by rw [h0], .inr h1, ?_, fun k hk hst => ?_, .after hbp (.after hall hnone), fun g hg => ?_⟩
    · exact (hbp.get_eq _ (by simp)).trans ((hall.get_eq _ (by simp)).trans hzero)
    · exact (congrArg StartState.resetAt (hbp.2 .start (by decide))).trans (u.allResumed_reset.trans (congrArg _ hstart))
    · exact (hbp.get_eq _ (by simp)).trans (State.allResumed_stopped hk ((hstate k hk).trans hst))
    · exact (hbp.get_eq _ (by simp)).trans ((hall.get_eq _ (by simp; omega)).trans (hcause g hg))

/-! #### Its items and its registers -/

/-- HPB's registers put back to their reset values. -/
def State.hpbRegs (s : State) : State := (s.resetRange 0x40001400 0x40001800).resetRange 0x400B0140 0x400B0180

/-- HPB's fence is ended. -/
def State.hpbUnfenced (s : State) : State := (s.put ⟨R.CUR_FENCED_OTHER, 1, 1⟩ 0).curFencedNow

/-- HPB is held, its reset noted. -/
def State.hpbHeld (s : State) : State := ((s.put F.SYS_CORE_CTRL_HPB_RUN 0).set1 F.SYS_RESET_CAUSE_HPB).modHok 1 fun _ => default

/-- HPB's doorbell and its counters are cleared. -/
def State.hpbCleared (s : State) : State := (s.put ⟨R.SYS_DOORBELL, 1, 1⟩ 0).modHok 1 fun k => { k with cnt := [], arch := [] }

theorem State.hpbReset_eq (s : State) : s.hpbReset = s.hpbUnitsStop.hpbRegs.hpbCleared.hpbUnfenced.hpbHeld.dbgPermitEnd := rfl

/-- The zones of HPB's reset before the permit's end. -/
def hpbZones : List (Nat × Nat) := [zone R.SYS_ID, zone R.PERF_CTRL, zone R.CUR_STATUS]

theorem State.hpbRegs_outside {s : State} (h : s.canonical = true) : KeepsOutside hpbZones [.shadow] s s.hpbRegs := by
  have hfirst := (Orderly.resetRange (lo := 0x40001400) (hi := 0x40001800) (Orderly.refl s)).canonical h
  exact .comp ((State.resetRange_outside (State.regs_wf hfirst) _ _).widen (by decide)) ((State.resetRange_outside (State.regs_wf h) _ _).widen (by decide))

theorem State.curFencedNow_keeps (s : State) :
    Keeps [F.CUR_FENCED_UNITS, F.CUR_FENCED_GROUPS, F.CUR_FENCED_PAIRS, F.CUR_STATUS_ANY_FENCE] [] s s.curFencedNow :=
  .put' (.put' (.put' (.put' (.refl _ _ s))))

theorem State.hpbUnfenced_outside (s : State) : KeepsOutside [zone R.CUR_STATUS] [] s s.hpbUnfenced := .put' (.put' (.put' (.put' (.put' (.refl _ _ s)))))

theorem State.hpbUnfenced_bit (s : State) : s.hpbUnfenced.get ⟨R.CUR_FENCED_OTHER, 1, 1⟩ = 0 :=
  ((State.curFencedNow_keeps _).get_eq _ (by decide)).trans (State.get_put_self _ _ _ (by decide))

theorem State.hpbCleared_outside (s : State) : KeepsOutside [zone R.SYS_ID] [.hok] s s.hpbCleared := .after (State.modHok_outside ..) (.put' (.refl _ _ s))

theorem State.hpbHeld_outside (s : State) : KeepsOutside [zone R.SYS_ID] [.hok] s s.hpbHeld := .after (State.modHok_outside ..) (.set1' (.put' (.refl _ _ s)))

theorem State.hpbHeld_facts (s : State) : s.hpbHeld.hok.get 1 = default ∧ s.hpbHeld.hok.get 0 = s.hok.get 0 ∧ s.hpbHeld.get F.SYS_CORE_CTRL_HPB_RUN = 0 ∧
    s.hpbHeld.get F.SYS_RESET_CAUSE_HPB = 1 :=
  ⟨State.hok_modHok_same .., State.hok_modHok_other _ _ _ _ (by decide), (State.get_put_other _ _ _ _ (by decide)).trans (State.get_put_self _ _ _ (by decide)),
    State.get_put_self _ _ _ (by decide)⟩

/-- HPB before the end of a debug permit. -/
def State.hpbDown (s : State) : State := s.hpbUnitsStop.hpbRegs.hpbCleared.hpbUnfenced.hpbHeld

theorem State.hpbDown_regs (s : State) : s.hpbDown.get F.SYS_CORE_CTRL_HPB_RUN = 0 ∧ s.hpbDown.get F.SYS_RESET_CAUSE_HPB = 1 ∧
    s.hpbDown.get ⟨R.CUR_FENCED_OTHER, 1, 1⟩ = 0 := by
  obtain ⟨-, -, hrun, hcause⟩ := State.hpbHeld_facts s.hpbUnitsStop.hpbRegs.hpbCleared.hpbUnfenced
  exact ⟨hrun, hcause, ((State.hpbHeld_outside _).get_eq _ (by decide)).trans (State.hpbUnfenced_bit _)⟩

section
variable {s : State} (h : s.canonical = true)
include h

/-- What follows the stop of HPB's units. -/
theorem State.hpbDown_after : KeepsOutside hpbZones [.shadow, .hok] s.hpbUnitsStop s.hpbDown :=
  .after (State.hpbHeld_outside _) (.after (State.hpbUnfenced_outside _) (.after (State.hpbCleared_outside _)
    (.after (State.hpbRegs_outside ((Orderly.hpbUnitsStop (Orderly.refl s)).canonical h)) (.refl _ _ _)))
    (by simp [hpbZones])) (by simp [hpbZones])

theorem State.hpbDown_hok : s.hpbDown.hok.get 1 = default ∧ s.hpbDown.hok.get 0 = s.hok.get 0 := by
  obtain ⟨h1, h0, -⟩ := State.hpbHeld_facts s.hpbUnitsStop.hpbRegs.hpbCleared.hpbUnfenced
  have hfence : s.hpbUnitsStop.hpbRegs.hpbCleared.hpbUnfenced.hok = s.hpbUnitsStop.hpbRegs.hpbCleared.hok := (State.hpbUnfenced_outside _).2 .hok (by decide)
  have hregs : s.hpbUnitsStop.hpbRegs.hok = s.hpbUnitsStop.hok :=
    (State.hpbRegs_outside ((Orderly.hpbUnitsStop (Orderly.refl s)).canonical h)).2 .hok (by decide)
  have hstop : s.hpbUnitsStop.hok = s.hok := (State.hpbUnitsStop_outside s).2 .hok (by decide)
  refine ⟨h1, ?_⟩
  rw [State.hpbDown, h0, hfence]
  refine (State.hok_modHok_other _ _ _ _ (by decide)).trans ?_
  exact congrArg (SMap.get · 0) (hregs.trans hstop)

/-- Every register that HPB's reset reaches. -/
def hpbResetZones : List (Nat × Nat) := [zone R.SYS_ID, zone R.PERF_CTRL, zone R.CUR_STATUS, zone R.DIAG_MAINT_REQ, zone R.DRV_STATUS, zone (R.LP_CTRL 0),
  zone (R.PWM_CTRL 0), zone R.SV_INFO]

/-- HPB's reset (R606). -/
theorem hpb_resets : s.hpbReset.hok.get 1 = default ∧ s.hpbReset.hok.get 0 = { (s.hok.get 0) with bp := (s.hpbReset.hok.get 0).bp } ∧
    s.hpbReset.get F.SYS_CORE_CTRL_HPB_RUN = 0 ∧ s.hpbReset.get F.SYS_RESET_CAUSE_HPB = 1 ∧ s.hpbReset.get F.SV_INFO_PERMIT = 0 ∧
    s.hpbReset.get ⟨R.CUR_FENCED_OTHER, 1, 1⟩ = 0 ∧
    (∀ u : Fin 14, s.get (F.PWM_CTRL_OWNER u) = 1 → s.unitPair u = none → s.pwmState u ≠ 3 → s.hpbReset.pwmState u = 0) ∧
    s.hpbReset.start.resetAt = s.start.resetAt ∧
    KeepsOutside hpbResetZones [.mem, .shadow, .pwm, .loop, .drive, .diag, .sv, .start, .hok] s s.hpbReset := by
  have hend : Unpermitted s.hpbDown s.hpbReset := State.dbgPermitEnd_ends _
  obtain ⟨h1, h0⟩ := State.hpbDown_hok h
  obtain ⟨hrun, hcause, hfence⟩ := s.hpbDown_regs
  have hafter := State.hpbDown_after h
  have hstop := s.hpbUnitsStop_outside
  have hfirst := hend.first
  rw [h0] at hfirst
  refine ⟨?_, hfirst, (hend.cause _ (by decide)).trans hrun, (hend.cause _ (by decide)).trans hcause, hend.permit, ?_, fun u howner hpair hst => ?_, ?_, ?_⟩
  · rcases hend.second with hsecond | hsecond
    · exact hsecond.trans h1
    · rw [hsecond, h1]
      rfl
  · exact (hend.frame.get_eq _ (by decide)).trans hfence
  · exact hend.stopped u u.2 ((hafter.get_eq _ (by simp [hpbZones]; omega)).trans (s.hpbUnitsStop_stops u.2 howner hpair hst))
  · exact hend.reset.trans (congrArg StartState.resetAt ((hafter.2 .start (by decide)).trans (hstop.2 .start (by decide))))
  · exact .after hend.frame (.after hafter (.after hstop (.refl _ _ s) (by simp [hpbResetZones])) (by simp [hpbZones, hpbResetZones])) (by simp [hpbResetZones])

end

/-! ### The assertion's causes (R602 to R604) -/

section
variable {s : State}

/-- The pin as it was found. -/
def State.pinSeen (s : State) (low : Bool) : State := s.modStart fun p => { p with pinLow := low }

theorem State.pinSeen_keeps (s : State) (low : Bool) : Keeps [] [.start] s (s.pinSeen low) := .beside' (.refl _ _ s)

/-- A cause that is noted, and the reset it asserts. -/
theorem State.set1_asserts {f : Fld} (haddr : f.addr = R.SYS_RESET_CAUSE) (hf : f.lo + f.len ≤ 32 ∧ f.len = 1) (hat : s.start.resetAt = none) :
    ResetBegun s (s.set1 f).sysAssert ∧ (s.set1 f).sysAssert.get f = 1 := by
  have hnoted : Keeps [f] [] s (s.set1 f) := .set1' (.refl _ _ s)
  have hassert := State.sysAssert_asserts (s := s.set1 f) hat
  refine ⟨hassert.begun hnoted (by simpa using haddr), (hassert.cause f haddr).trans ?_⟩
  exact (State.get_put_same s f 1 hf.1).trans (by rw [hf.2]; rfl)

theorem exec_resetPin (ns : Nat) (still : Bool) (hon : s.pdOn 1 = true) (hns : 1000 ≤ ns) :
    exec (.resetPin ns still) s = .next ((s.pinSeen still).set1 F.SYS_RESET_CAUSE_PIN).sysAssert := by
  change execResetPin ns still s = _
  have hlow : (still && (true || s.start.pinLow)) = still := by simp
  have hshort : ¬ (200 ≤ ns ∧ ns < 1000) := by omega
  have htaken : (decide (1000 ≤ ns) || (decide (200 ≤ ns) && s.drawn % 2 == 1)) = true := by simp [hns]
  unfold execResetPin
  rw [if_neg (by simp [hon])]
  dsimp only
  rw [htaken, if_neg hshort, if_pos rfl]
  simp only [Bool.true_or, Bool.and_true]
  rfl

theorem exec_resetPin_short (ns : Nat) (still : Bool) (hon : s.pdOn 1 = true) (hns : ns < 200) :
    exec (.resetPin ns still) s = .next (s.pinSeen (still && s.start.pinLow)) := by
  change execResetPin ns still s = _
  have hshort : ¬ (200 ≤ ns ∧ ns < 1000) := by omega
  have htaken : (decide (1000 ≤ ns) || (decide (200 ≤ ns) && s.drawn % 2 == 1)) = false := by
    simp; omega
  unfold execResetPin
  rw [if_neg (by simp [hon])]
  dsimp only
  rw [htaken, if_neg hshort, if_neg (by decide)]
  simp only [Bool.false_or]
  rfl

theorem pin_resets (ns : Nat) (still : Bool) (hon : s.pdOn 1 = true) (hns : 1000 ≤ ns) (hat : s.start.resetAt = none) :
    ∃ t, exec (.resetPin ns still) s = .next t ∧ ResetBegun (s.pinSeen still) t ∧ t.get F.SYS_RESET_CAUSE_PIN = 1 := by
  obtain ⟨hbegun, hcause⟩ := State.set1_asserts (s := s.pinSeen still) (f := F.SYS_RESET_CAUSE_PIN) rfl (by decide) hat
  exact ⟨_, exec_resetPin ns still hon hns, hbegun, hcause⟩

/-- A write of KIND 1 or 3 from an initiator that may not reset is refused. -/
theorem State.resetWrite_refused {i : Initiator} (hi : i = .hpb ∨ i = .docent) {v : Word} (hv : v = 0x7A5C0001#32 ∨ v = 0x7A5C0003#32) :
    s.resetWrite i v = s.cfgReject .sysReset := by
  have hkind : bitsOf v.toNat 0 4 ≠ 2 ∧ bitsOf v.toNat 16 16 = 0x7A5C := by rcases hv with rfl | rfl <;> decide
  unfold State.resetWrite
  dsimp only
  rw [if_neg (by simp [hkind.2]), if_neg (by rcases hi with rfl | rfl <;> simp), if_neg (by simp [hkind.1])]

/-- A write of KIND 2 from another than HPA, or in the Foyer state, is refused. -/
theorem State.hpbWrite_refused {i : Initiator} (hi : i ≠ .hpa ∨ s.inFoyer = true) : s.resetWrite i 0x7A5C0002#32 = s.cfgReject .sysReset := by
  have hkind : bitsOf (0x7A5C0002#32).toNat 0 4 = 2 ∧ bitsOf (0x7A5C0002#32).toNat 16 16 = 0x7A5C := by decide
  unfold State.resetWrite
  dsimp only
  rw [hkind.1, hkind.2, if_neg (by decide), if_neg (by simp), if_neg (by rcases hi with hi | hi <;> simp [hi])]

theorem State.hpbWrite_resets (hfoyer : s.inFoyer = false) : s.resetWrite .hpa 0x7A5C0002#32 = s.hpbReset := by
  have hkind : bitsOf (0x7A5C0002#32).toNat 0 4 = 2 ∧ bitsOf (0x7A5C0002#32).toNat 16 16 = 0x7A5C := by decide
  unfold State.resetWrite
  dsimp only
  rw [hkind.1, hkind.2, if_neg (by decide), if_neg (by simp), if_pos (by simp [hfoyer])]

/-- The watchdog's time has passed. -/
theorem exec_watchdogExpire (hon : s.pdOn 1 = true) (hset : s.get F.SYS_WDT_TIMEOUT ≠ 0) (hheld : s.start.wdHeld = none)
    (hpast : s.start.wdFrom + s.get F.SYS_WDT_TIMEOUT * 800000 ≤ s.mono) :
    exec .watchdogExpire s = .next (s.set1 F.SYS_RESET_CAUSE_WATCHDOG).sysAssert := if_pos ⟨hon, hset, by simp [hheld], hpast⟩

theorem exec_watchdogWaits (h : s.pdOn 1 = false ∨ s.get F.SYS_WDT_TIMEOUT = 0 ∨ s.start.wdHeld.isSome = true ∨
    s.mono < s.start.wdFrom + s.get F.SYS_WDT_TIMEOUT * 800000) : exec .watchdogExpire s = .next s := by
  refine if_neg ?_
  rcases h with hoff | hzero | hheld | hearly
  · simp [hoff]
  · simp [hzero]
  · obtain ⟨n, hn⟩ := Option.isSome_iff_exists.1 hheld
    simp [hn]
  · exact fun h => absurd h.2.2.2 (Nat.not_le.2 hearly)

theorem exec_powerUp_waits (tm : Bool) (h : s.alive = false ∨ (s.pdOn 1 = false ∧ s.plState = 0) ∨
    (s.pdOn 1 = true ∧ (s.phase ≠ 0 ∨ s.flag F.SYS_START_DONE = true ∨ s.inFoyer = true ∨ s.start.resetAt.isSome = true))) :
    exec (.powerUpReset tm) s = .next s := by
  change execPowerUpReset tm s = _
  unfold execPowerUpReset
  dsimp only
  refine if_neg ?_
  rcases h with hdead | ⟨hoff, hst⟩ | ⟨hon, hphase | hdone | hfoyer | hat⟩
  · simp [hdead]
  · simp [hoff, hst]
  · simp [hon, hphase]
  · simp [hon, hdone]
  · simp [hon, hfoyer]
  · obtain ⟨n, hn⟩ := Option.isSome_iff_exists.1 hat
    simp [hon, hn]

theorem exec_resetRelease_waits (h : s.start.resetAt = none ∨ s.start.pinLow = true ∨ ∃ a, s.start.resetAt = some a ∧ s.mono < a + 40000) :
    exec .resetRelease s = .next s := by
  change execResetRelease s = _
  unfold execResetRelease
  split
  next a hat =>
    refine if_neg ?_
    rcases h with hnone | hlow | ⟨b, hb, hearly⟩
    · exact absurd (hnone.symm.trans hat) (by simp)
    · simp [hlow]
    · obtain rfl := Option.some.inj (hb.symm.trans hat)
      simp; omega
  next => rfl

end

/-! ### The release (R605, Table SUP-5) -/

theorem State.modWdCh_outside (s : State) (i : ℕ) (b : Bool) (f : WdChannel → WdChannel) : KeepsOutside [] [.warden] s (s.modWdCh i b f) :=
  .beside' (.refl _ _ _)

theorem State.wdRestart_outside (s : State) : KeepsOutside [zone R.WARDEN_STATUS] [.warden] s s.wdRestart :=
  .forEach' (.forEach' (.beside' (.put' (.refl _ _ _))) fun i hi _ =>
    have hlt := List.mem_range.1 hi
    .foldl' (.put' (.put' (.put' (.refl _ _ _)))) fun _ _ _ => .after (State.modWdCh_outside ..) (.refl _ _ _))
    fun i _ _ => .put' (.refl _ _ _) ⟨_, List.mem_singleton_self _, by simp [wdNowF]⟩

theorem State.wcPend_outside (s : State) {c : Nat} (hc : c < 24) :
    KeepsOutside [zone R.WCMPP_STATUS, zone R.WCMPG_STATUS, zone R.DRV_STATUS, zone R.LANE_STATUS] [.wcmp, .drive, .pwm, .diag, .relay] s (s.wcPend c) := by
  obtain ⟨u, hu, -, -, hkeeps⟩ := s.wcPend_frame c
  rw [hu]
  have hpend : Keeps [F.WC_STATUS_STATE c, F.WC_STATUS_OUT_HI c, F.WC_STATUS_OUT_LO c, F.WC_STATUS_HYST_HOLD c]
      [.wcmp, .drive, .pwm, .diag, .relay] s u := .after hkeeps (.refl _ _ s) (List.Subset.refl _)
  refine .after (State.wcHold_outside ..) (hpend.toOutside fun f hf => ?_)
  have haddr : f.addr = R.WC_STATUS c := by
    simp only [List.mem_cons, List.not_mem_nil, or_false] at hf
    rcases hf with rfl | rfl | rfl | rfl <;> rfl
  rw [haddr]
  simp only [R.WC_STATUS]
  split <;> simp <;> omega

/-- The comparators wait for their runs of comparisons anew. -/
def State.wcAllPend (s : State) : State := s.forEach (List.range 24) State.wcPend

theorem State.wcAllPend_outside (s : State) :
    KeepsOutside [zone R.WCMPP_STATUS, zone R.WCMPG_STATUS, zone R.DRV_STATUS, zone R.LANE_STATUS] [.wcmp, .drive, .pwm, .diag, .relay] s s.wcAllPend :=
  .forEach' (.refl _ _ _) fun _ hc t => .after (t.wcPend_outside (List.mem_range.1 hc)) (.refl _ _ _)

theorem State.wcPend_self (s : State) {c : Nat} (hc : c < 24) : (s.wcPend c).wcState c = 2 := by
  obtain ⟨u, hu, hstate, -⟩ := s.wcPend_frame c
  rw [hu, State.wcHold_state _ hc, hstate]

theorem State.wcPend_other (s : State) {c d : Nat} (hc : c < 24) (hd : d < 24) (hne : c ≠ d) : (s.wcPend c).wcState d = s.wcState d := by
  obtain ⟨u, hu, -, -, hkeeps⟩ := s.wcPend_frame c
  rw [hu, State.wcHold_state _ hd]
  have haddr := wc_status_ne hc hd hne
  refine hkeeps.get_eq _ fun f hf => Fld.apart_of_addr ?_
  simp only [List.mem_cons, List.not_mem_nil, or_false] at hf
  rcases hf with rfl | rfl | rfl | rfl <;> exact haddr

theorem State.wcAllPend_state (s : State) {c : Nat} (hc : c < 24) : s.wcAllPend.wcState c = 2 := by
  unfold State.wcAllPend
  exact State.forEach_at (P := fun _ => True) (Q := fun t => t.wcState c = 2) List.nodup_range (List.mem_range.2 hc) (fun _ _ _ _ _ => trivial)
    (fun t _ => t.wcPend_self hc) (fun k hk hne t ht => (t.wcPend_other (List.mem_range.1 hk) hc hne).trans ht) s trivial

theorem State.wdRestart_reaction (s : State) : s.wdRestart.get F.WARDEN_STATUS_REACTION = 1 := by
  unfold State.wdRestart
  refine State.forEach_inv (P := fun t => t.get F.WARDEN_STATUS_REACTION = 1) (fun i hi t ht => ?_) _
    (State.forEach_inv (P := fun t => t.get F.WARDEN_STATUS_REACTION = 1) (fun i hi t ht => ?_) _ ?_)
  · exact (State.get_put_other _ _ _ _ (by have := List.mem_range.1 hi; simp [wdNowF]; omega)).trans ht
  · refine Eq.trans ?_ ht
    have hlt := List.mem_range.1 hi
    refine (State.get_put_other _ _ _ _ (by simp)).trans ((State.get_put_other _ _ _ _ (by simp)).trans (State.get_put_other _ _ _ _ (by simp)))
  · exact State.get_put_self _ _ _ (by decide)

/-! #### What it leaves in memory, byte for byte -/

theorem State.forEach_mem {ks : List Nat} {g : State → Nat → State} (h : ∀ t k, (g t k).mem = t.mem) (s : State) : (s.forEach ks g).mem = s.mem :=
  State.forEach_inv (P := fun t => t.mem = s.mem) (fun k _ t ht => (h t k).trans ht) s rfl

theorem State.wdRestart_mem (s : State) : s.wdRestart.mem = s.mem := by
  unfold State.wdRestart
  refine (State.forEach_mem (fun t k => ?_) _).trans ((State.forEach_mem (fun t k => ?_) _).trans ?_) <;> rfl

theorem State.noteHolds_mem (s : State) : s.noteHolds.mem = s.mem := by
  unfold State.noteHolds
  refine (State.forEach_mem (fun t k => ?_) _).trans (State.forEach_mem (fun t k => ?_) s)
  · rfl
  · split <;> rfl

theorem State.laneTrip_mem (s : State) (l after : Nat) : (s.laneTrip l after).mem = s.mem := by
  unfold State.laneTrip
  split_ifs <;> rfl

theorem State.wcHold_mem (s : State) (before : Nat) : (s.wcHold before).mem = s.mem := by
  have hoff : s.hbHoldOff.mem = s.mem := by
    unfold State.hbHoldOff
    refine State.forEach_mem (fun t k => ?_) s
    split <;> rfl
  refine (State.noteHolds_mem _).trans ((State.forEach_mem (fun t k => ?_) _).trans hoff)
  split
  · exact t.laneTrip_mem ..
  · rfl

theorem State.wcOut_mem (s : State) (c : Nat) (hi lo : Bool) : (s.wcOut c hi lo).mem = s.mem := by
  unfold State.wcOut
  dsimp only
  split <;> rfl

theorem State.wcSee_mem (s : State) (c : Nat) (x : Rat) : (s.wcSee c x).mem = s.mem := by
  unfold State.wcSee
  dsimp only
  split
  · split
    · exact State.wcOut_mem ..
    · rfl
  · split_ifs
    · exact (State.wcOut_mem ..)
    · exact State.wcOut_mem ..

theorem State.wcPend_mem (s : State) (c : Nat) : (s.wcPend c).mem = s.mem := by
  rw [State.wcPend_eq, State.wcHold_mem]
  unfold State.wcSeeLast
  split
  · exact State.wcSee_mem ..
  · rfl

theorem State.p4Begin_mem (s : State) : s.p4Begin.mem = s.mem :=
  (State.noteHolds_mem _).trans ((State.forEach_mem State.wcPend_mem _).trans (State.wdRestart_mem _))

/-! #### The blocks' registers -/

/-- The registers outside PD0 that a SYSTEM reset leaves: the clock synthesis's, and those of the device's own block that hold its identity. -/
def blkKeep (a : Nat) : Bool := (0x40010000 ≤ a && a < 0x40020000) || a == R.SYS_PD_STATUS || a == R.SYS_RAILS ||
  a == R.SYS_RESET_CAUSE || a == R.SYS_OP_STATUS || a == R.SYS_ID

/-- Registers that stand, over a state's others. -/
def State.standing (u : State) (m : SMap Word) : State :=
  ({ u with regs := u.regs.filter fun e => !blkKeep e.1 } : State).overlaid (m.filter fun e => blkKeep e.1)

/-- What is volatile reset, with the registers that stand. -/
def State.blkKept (s : State) : State := s.volatileReset.standing s.regs

/-- What the reset carries over into the registers of the blocks. -/
def State.blkCarried (t s : State) : State :=
  ((t.put F.EPOCH_CTRL_MODE (s.get F.EPOCH_CTRL_MODE)).put F.EPOCH_STATUS_ALIGNED (s.get F.EPOCH_STATUS_ALIGNED)).put
    F.DRV_STATUS_VDRV_OK (s.get F.DRV_STATUS_VDRV_OK)

/-- What the reset leaves beside the registers. -/
def State.blkLeft (t s : State) : State :=
  { t with
    mem := s.mem, ecc := s.ecc, epoch := s.epoch, clk := s.clk, ep := { t.ep with base := s.ep.base }
    shadow := s.shadow.filter fun e => 0x40010000 ≤ e.1 && e.1 < 0x40020000
    plinth := s.plinth
    drive := { t.drive with vdrvFrom := s.drive.vdrvFrom, keepTick := s.mono } }

/-- The state in which P4 begins. -/
def State.blkReady (s : State) : State := (s.blkKept.blkCarried s).blkLeft s

theorem State.blocksReset_eq (s : State) : s.blocksReset = s.blkReady.p4Begin := by
  rw [State.blkReady, State.blkKept, State.standing, ← State.foldl_wr]
  rfl

theorem State.rd_filtered {u : State} (h : u.regs.wf = true) (p : Nat → Bool) (a : Nat) :
    ({ u with regs := u.regs.filter fun e => !p e.1 } : State).rd a = if p a then 0#32 else u.rd a := by
  refine (SMap.get_filter (fun a => !p a) a h).trans ?_
  cases p a
  · rfl
  · rfl

theorem State.rd_standing {u s : State} (hu : u.regs.wf = true) (hs : s.regs.wf = true) (a : Nat) :
    (u.standing s.regs).rd a = if blkKeep a then s.rd a else u.rd a := by
  rw [State.standing, State.rd_kept hs fun hk => by rw [State.rd_filtered hu, if_pos hk], State.rd_filtered hu]
  by_cases hk : blkKeep a = true <;> simp [hk]

theorem State.rd_blkKept {s : State} (h : s.canonical = true) (a : Nat) : s.blkKept.rd a = if blkKeep a then s.rd a else s.volatileReset.rd a :=
  State.rd_standing (State.regs_wf ((Orderly.volatileReset (Orderly.refl s)).canonical h)) (State.regs_wf h) a

theorem State.standing_part (u : State) (m : SMap Word) (p : Part) : p.same u (u.standing m) := by
  cases p
  case mem => exact ⟨fun _ => rfl, rfl⟩
  all_goals rfl

/-- The fields that the reset carries over. -/
def blkFlds : List Fld := [F.EPOCH_CTRL_MODE, F.EPOCH_STATUS_ALIGNED, F.DRV_STATUS_VDRV_OK]

theorem State.blkCarried_keeps (t s : State) : Keeps blkFlds [] t (t.blkCarried s) :=
  .put' (.put' (.put' (.refl _ _ _) (by simp [blkFlds])) (by simp [blkFlds])) (by simp [blkFlds])

/-- What the reset leaves beside the registers, part by part. -/
theorem State.blkLeft_facts (t s : State) : (t.blkLeft s).regs = t.regs ∧ (t.blkLeft s).mem = s.mem ∧ (t.blkLeft s).ecc = s.ecc ∧
    (t.blkLeft s).epoch = s.epoch ∧ (t.blkLeft s).clk = s.clk ∧ (t.blkLeft s).mono = s.mono ∧ (t.blkLeft s).plinth = s.plinth ∧
    (t.blkLeft s).hok = t.hok ∧ (t.blkLeft s).raised = t.raised ∧ (t.blkLeft s).pins = t.pins ∧ (t.blkLeft s).resp = t.resp ∧
    (t.blkLeft s).pending = t.pending ∧ (t.blkLeft s).start = t.start := ⟨rfl, rfl, rfl, rfl, rfl, rfl, rfl, rfl, rfl, rfl, rfl, rfl, rfl⟩

/-- What is volatile leaves the pairs, the raised sources, the pads, the answer, the queue and the reset's own time. -/
theorem State.volatileReset_left (s : State) : s.volatileReset.hok = [] ∧ s.volatileReset.raised = [] ∧ s.volatileReset.pins = s.pins ∧
    s.volatileReset.resp = s.resp ∧ s.volatileReset.pending = s.pending ∧ s.volatileReset.start.resetAt = none ∧ s.volatileReset.draws = s.draws ∧
    s.volatileReset.epoch = 0 := by
  have hhok : s.volatileReset.hok = s.volKept.hok := s.volatileReset_part .hok
  have hraised : s.volatileReset.raised = s.volKept.raised := s.volatileReset_part .raised
  have hpins : s.volatileReset.pins = s.volKept.pins := s.volatileReset_part .pins
  have hresp : s.volatileReset.resp = s.volKept.resp := s.volatileReset_part .resp
  have hpending : s.volatileReset.pending = s.volKept.pending := s.volatileReset_part .pending
  have hstart : s.volatileReset.start = s.volKept.start := s.volatileReset_part .start
  have hdraws : s.volatileReset.draws = s.volKept.draws := s.volatileReset_part .draws
  have hepoch : s.volatileReset.epoch = s.volKept.epoch := s.volatileReset_part .epoch
  rw [hhok, hraised, hpins, hresp, hpending, hstart, hdraws, hepoch]
  exact ⟨rfl, rfl, rfl, rfl, rfl, rfl, rfl, rfl⟩

/-! #### P4 begins -/

/-- The zones and parts that the beginning of P4 reaches beside the phase. -/
def p4Zones : List (Nat × Nat) := [zone R.DRV_STATUS, zone R.LANE_STATUS, zone R.WARDEN_STATUS, zone R.WCMPG_STATUS, zone R.WCMPP_STATUS]

def p4Parts : List Part := [.warden, .wcmp, .drive, .pwm, .diag, .relay]

theorem State.p4Begin_eq (s : State) : s.p4Begin = (s.put F.SYS_START_PHASE 4).wdRestart.wcAllPend.noteHolds := rfl

theorem State.p4Begin_after (s : State) : KeepsOutside p4Zones p4Parts (s.put F.SYS_START_PHASE 4) s.p4Begin :=
  .after (State.noteHolds_outside _) (.after (State.wcAllPend_outside _) (.after (State.wdRestart_outside _) (.refl _ _ _) (by simp [p4Zones]) (by simp [p4Parts]))
    (by simp [p4Zones]) (by simp [p4Parts])) (by simp) (by simp [p4Parts])

theorem State.p4Begin_phase (s : State) : s.p4Begin.phase = 4 :=
  (s.p4Begin_after.get_eq F.SYS_START_PHASE (by decide)).trans (State.get_put_self _ _ _ (by decide))

theorem State.p4Begin_state (s : State) {c : Nat} (hc : c < 24) : s.p4Begin.wcState c = 2 :=
  ((State.noteHolds_outside _).get_eq _ (by simp)).trans (State.wcAllPend_state _ hc)

theorem State.p4Begin_reaction (s : State) : s.p4Begin.get F.WARDEN_STATUS_REACTION = 1 :=
  ((State.noteHolds_outside _).get_eq _ (by simp)).trans (((State.wcAllPend_outside _).get_eq _ (by decide)).trans (State.wdRestart_reaction _))

theorem State.p4Begin_rd (s : State) {a : Nat} (ha : ∀ r ∈ p4Zones, a < r.1 ∨ r.2 ≤ a) (hphase : F.SYS_START_PHASE.addr ≠ a) : s.p4Begin.rd a = s.rd a :=
  (s.p4Begin_after.1 a ha).trans (State.rd_wr_other _ _ _ _ (Ne.symm hphase))

/-- A part beside the reached ones. -/
theorem State.p4Begin_part (s : State) (p : Part) (hp : p ∉ p4Parts) : p.same s s.p4Begin := by
  have hphase : Keeps [F.SYS_START_PHASE] [] s (s.put F.SYS_START_PHASE 4) := .put' (.refl _ _ s)
  exact p.same_trans _ _ _ (hphase.2 p (by simp)) (s.p4Begin_after.2 p hp)

section
variable {s : State} (h : s.canonical = true)

theorem State.rd_blkReady (s : State) {a : Nat} (ha : ∀ f ∈ blkFlds, f.addr ≠ a) : s.blkReady.rd a = s.blkKept.rd a := by
  have hregs : s.blkReady.regs = (s.blkKept.blkCarried s).regs := (State.blkLeft_facts ..).1
  exact (congrArg (SMap.get · a) hregs).trans ((State.blkCarried_keeps ..).rd_eq a fun f hf => Fld.apart_of_addr (ha f hf))

theorem State.get_blkReady_mode (s : State) : s.blkReady.get F.EPOCH_CTRL_MODE = s.get F.EPOCH_CTRL_MODE := by
  have hregs : s.blkReady.regs = (s.blkKept.blkCarried s).regs := (State.blkLeft_facts ..).1
  have hcarried : s.blkReady.get F.EPOCH_CTRL_MODE = (s.blkKept.blkCarried s).get F.EPOCH_CTRL_MODE :=
    congrArg (fun m : SMap Word => bitsOf (m.get F.EPOCH_CTRL_MODE.addr).toNat F.EPOCH_CTRL_MODE.lo F.EPOCH_CTRL_MODE.len) hregs
  rw [hcarried, State.blkCarried, State.get_put_other _ _ _ _ (by decide), State.get_put_other _ _ _ _ (by decide)]
  exact (State.get_put_same _ _ _ (by decide)).trans (Nat.mod_eq_of_lt (State.get_lt s _))

/-- The parts of the state in which P4 begins. -/
theorem State.blkReady_left (s : State) : s.blkReady.hok = [] ∧ s.blkReady.raised = [] ∧ s.blkReady.pins = s.pins ∧
    s.blkReady.resp = s.resp ∧ s.blkReady.pending = s.pending ∧ s.blkReady.start.resetAt = none := by
  have hready (p : Part) : p.same s.volatileReset (s.blkKept.blkCarried s) := p.same_trans _ _ _ (s.volatileReset.standing_part s.regs p) ((s.blkKept.blkCarried_keeps s).2 p (by simp))
  have hhok : (s.blkKept.blkCarried s).hok = s.volatileReset.hok := hready .hok
  have hraised : (s.blkKept.blkCarried s).raised = s.volatileReset.raised := hready .raised
  have hpins : (s.blkKept.blkCarried s).pins = s.volatileReset.pins := hready .pins
  have hresp : (s.blkKept.blkCarried s).resp = s.volatileReset.resp := hready .resp
  have hpending : (s.blkKept.blkCarried s).pending = s.volatileReset.pending := hready .pending
  have hstart : (s.blkKept.blkCarried s).start = s.volatileReset.start := hready .start
  obtain ⟨vhok, vraised, vpins, vresp, vpending, vat, -⟩ := s.volatileReset_left
  rw [State.blkReady]
  generalize s.blkKept.blkCarried s = u at hhok hraised hpins hresp hpending hstart
  exact ⟨hhok.trans vhok, hraised.trans vraised, hpins.trans vpins, hresp.trans vresp, hpending.trans vpending, (congrArg StartState.resetAt hstart).trans vat⟩

end

/-! #### The state after the release -/

section
variable {s : State} (h : s.canonical = true)
include h

/-- A register outside what the release writes reads as the kept registers do. -/
theorem State.rd_release (a : Nat) (ha : ∀ r ∈ p4Zones, a < r.1 ∨ r.2 ≤ a) (hphase : F.SYS_START_PHASE.addr ≠ a) (hcarried : ∀ f ∈ blkFlds, f.addr ≠ a) :
    s.blocksReset.rd a = if blkKeep a then s.rd a else s.volatileReset.rd a := by
  rw [s.blocksReset_eq, State.p4Begin_rd _ ha hphase, s.rd_blkReady hcarried, State.rd_blkKept h]

/-- A register that the release leaves. -/
theorem State.rd_release_kept {a : Nat} (ha : ∀ r ∈ p4Zones, a < r.1 ∨ r.2 ≤ a) (hphase : F.SYS_START_PHASE.addr ≠ a) (hcarried : ∀ f ∈ blkFlds, f.addr ≠ a)
    (hkeep : blkKeep a = true) : s.blocksReset.rd a = s.rd a := (State.rd_release h a ha hphase hcarried).trans (if_pos hkeep)

omit h in
/-- An address off these zones is off what the release writes. -/
theorem release_off {a : Nat} (hdrv : a < (zone R.DRV_STATUS).1 ∨ (zone R.DRV_STATUS).2 ≤ a) (hlane : a < (zone R.LANE_STATUS).1 ∨ (zone R.LANE_STATUS).2 ≤ a)
    (hwarden : a < (zone R.WARDEN_STATUS).1 ∨ (zone R.WARDEN_STATUS).2 ≤ a) (hg : a < (zone R.WCMPG_STATUS).1 ∨ (zone R.WCMPG_STATUS).2 ≤ a)
    (hp : a < (zone R.WCMPP_STATUS).1 ∨ (zone R.WCMPP_STATUS).2 ≤ a) (hepoch : a < (zone R.EPOCH_CTRL).1 ∨ (zone R.EPOCH_CTRL).2 ≤ a) :
    (∀ r ∈ p4Zones, a < r.1 ∨ r.2 ≤ a) ∧ ∀ f ∈ blkFlds, f.addr ≠ a := by
  refine ⟨?_, ?_⟩
  · simp only [p4Zones, List.forall_mem_cons, List.not_mem_nil, IsEmpty.forall_iff, implies_true, and_true]
    exact ⟨hdrv, hlane, hwarden, hg, hp⟩
  · simp only [blkFlds, List.forall_mem_cons, List.not_mem_nil, IsEmpty.forall_iff, implies_true, and_true]
    simp at hdrv hepoch ⊢
    omega

omit h in
/-- The parts that stand or are empty after the release. -/
theorem State.release_left (s : State) : s.blocksReset.hok = [] ∧ s.blocksReset.raised = [] ∧ s.blocksReset.pins = s.pins ∧ s.blocksReset.resp = s.resp ∧
    s.blocksReset.pending = s.pending ∧ s.blocksReset.start.resetAt = none ∧ s.blocksReset.epoch = s.epoch ∧ s.blocksReset.mono = s.mono ∧
    s.blocksReset.clk = s.clk ∧ s.blocksReset.plinth = s.plinth ∧ s.blocksReset.mem = s.mem ∧ s.blocksReset.ecc = s.ecc := by
  obtain ⟨-, hmem, hecc, hepoch, hclk, hmono, hplinth, -⟩ := (s.blkKept.blkCarried s).blkLeft_facts s
  obtain ⟨hhok, hraised, hpins, hresp, hpending, hat⟩ := s.blkReady_left
  have hpart (p : Part) (hp : p ∉ p4Parts) : p.same s.blkReady s.blocksReset := by
    rw [s.blocksReset_eq]
    exact s.blkReady.p4Begin_part p hp
  have hmem' : s.blocksReset.mem = s.blkReady.mem := by rw [s.blocksReset_eq, State.p4Begin_mem]
  exact ⟨Eq.trans (hpart .hok (by decide)) hhok, Eq.trans (hpart .raised (by decide)) hraised, Eq.trans (hpart .pins (by decide)) hpins,
    Eq.trans (hpart .resp (by decide)) hresp, Eq.trans (hpart .pending (by decide)) hpending,
    (congrArg StartState.resetAt (hpart .start (by decide))).trans hat, Eq.trans (hpart .epoch (by decide)) hepoch,
    (State.mono_congr (hpart .epoch (by decide)) (hpart .ep (by decide))).trans hmono, Eq.trans (hpart .clk (by decide)) hclk,
    Eq.trans (hpart .plinth (by decide)) hplinth, hmem'.trans hmem, (hpart .mem (by decide)).2.trans hecc⟩

/-- The registers of the clock synthesis and of the Plinth stand. -/
theorem State.release_stands {b : Nat} (hb : (0x40010000 ≤ b ∧ b < 0x40020000) ∨ (0x400D0000 ≤ b ∧ b < 0x400E0000)) : s.blocksReset.rd b = s.rd b := by
  obtain ⟨hzones, hcarried⟩ := release_off (a := b) (by simp; omega) (by simp; omega) (by simp; omega) (by simp; omega) (by simp; omega) (by simp; omega)
  rw [State.rd_release h b hzones (by simp; omega) hcarried]
  by_cases hk : blkKeep b = true
  · rw [if_pos hk]
  · rw [if_neg hk]
    rcases hb with ⟨hlo, hhi⟩ | ⟨hlo, hhi⟩
    · exact absurd (by simp [blkKeep, hlo, hhi]) hk
    · exact State.rd_volatileReset_plinth (State.regs_wf h) hlo hhi

/-- Every other register that is not kept reads as at reset. -/
theorem State.release_resets {b : Nat} (hb : ∀ r ∈ [zone R.SYS_ID, zone R.CLK_CTRL, zone R.EPOCH_CTRL, zone R.DRV_STATUS, zone R.LANE_STATUS, zone R.WARDEN_STATUS,
    zone R.WCMPG_STATUS, zone R.WCMPP_STATUS, (0x400D0000, 0x400E0000)], b < r.1 ∨ r.2 ≤ b) (hkept : b ∉ keptRegs) : s.blocksReset.rd b = State.reset.rd b := by
  simp only [List.forall_mem_cons, List.not_mem_nil, IsEmpty.forall_iff, implies_true, and_true] at hb
  obtain ⟨hsys, hclk, hepoch, hdrv, hlane, hwarden, hg, hp, hplinth⟩ := hb
  obtain ⟨hzones, hcarried⟩ := release_off hdrv hlane hwarden hg hp hepoch
  have hkeep : ¬ blkKeep b = true := by
    simp [blkKeep] at hsys hclk ⊢
    omega
  rw [State.rd_release h b hzones (by simp at hsys ⊢; omega) hcarried, if_neg hkeep, State.rd_volatileReset_other (State.regs_wf h) hplinth hkept]

/-- The domains, the rails and the causes stand. -/
theorem State.release_own {a : Nat} (ha : a ∈ [R.SYS_PD_STATUS, R.SYS_RAILS, R.SYS_RESET_CAUSE]) : s.blocksReset.rd a = s.rd a := by
  have hfacts : ∀ a ∈ [R.SYS_PD_STATUS, R.SYS_RAILS, R.SYS_RESET_CAUSE], (∀ r ∈ p4Zones, a < r.1 ∨ r.2 ≤ a) ∧ F.SYS_START_PHASE.addr ≠ a ∧
      (∀ f ∈ blkFlds, f.addr ≠ a) ∧ blkKeep a = true := by decide
  obtain ⟨hzones, hphase, hcarried, hkeep⟩ := hfacts a ha
  exact State.rd_release_kept h hzones hphase hcarried hkeep

omit h in
theorem State.release_begins (s : State) : s.blocksReset.phase = 4 ∧ (∀ c < 24, s.blocksReset.wcState c = 2) ∧ s.blocksReset.get F.WARDEN_STATUS_REACTION = 1 ∧
    s.blocksReset.get F.EPOCH_CTRL_MODE = s.get F.EPOCH_CTRL_MODE := by
  rw [s.blocksReset_eq]
  refine ⟨State.p4Begin_phase _, fun c hc => State.p4Begin_state _ hc, State.p4Begin_reaction _, Eq.trans ?_ s.get_blkReady_mode⟩
  exact (s.blkReady.p4Begin_after.get_eq _ (by decide)).trans (State.get_put_other _ _ _ _ (by decide))

end

theorem exec_resetRelease {s : State} {a : Nat} (hat : s.start.resetAt = some a) (hpast : a + 40000 ≤ s.mono) (hlow : s.start.pinLow = false) :
    exec .resetRelease s = .next s.blocksReset := by
  change execResetRelease s = _
  unfold execResetRelease
  rw [hat]
  exact if_pos ⟨hpast, by simp [hlow]⟩

/-- What OTP, MRAM and the outside keep over a power-up (R601). -/
theorem State.poweredUp_kept (s : State) (tm : Bool) : (s.poweredUp tm).epoch = 0 ∧ (s.poweredUp tm).hok = [] ∧ (s.poweredUp tm).raised = [] ∧
    (s.poweredUp tm).pending = s.pending ∧ (s.poweredUp tm).resp = s.resp ∧ (s.poweredUp tm).draws = s.draws ∧
    (s.poweredUp tm).sv = s.volatileReset.sv := by
  obtain ⟨hhok, hraised, -, hresp, hpending, -, hdraws, hepoch⟩ := s.volatileReset_left
  exact ⟨Eq.trans (State.poweredUp_part tm .epoch (by decide)) hepoch, Eq.trans (State.poweredUp_part tm .hok (by decide)) hhok,
    Eq.trans (State.poweredUp_part tm .raised (by decide)) hraised, Eq.trans (State.poweredUp_part tm .pending (by decide)) hpending,
    Eq.trans (State.poweredUp_part tm .resp (by decide)) hresp, Eq.trans (State.poweredUp_part tm .draws (by decide)) hdraws,
    State.poweredUp_part tm .sv (by decide)⟩

theorem State.volatileReset_otp (s : State) : s.volatileReset.sv.hash = s.sv.hash ∧ s.volatileReset.sv.arbFw = s.sv.arbFw ∧
    s.volatileReset.sv.arbImg = s.sv.arbImg ∧ s.volatileReset.sv.arbApp = s.sv.arbApp ∧ s.volatileReset.sv.replay = s.sv.replay := by
  have hsv : s.volatileReset.sv = s.volKept.sv := s.volatileReset_part .sv
  rw [hsv]
  exact ⟨rfl, rfl, rfl, rfl, rfl⟩

/-- The power-up as a whole. -/
theorem powers_up {s : State} (tm : Bool) (halive : s.alive = true) (h : s.canonical = true) (hfresh : (s.pdOn 1 = false ∧ s.plState ≠ 0) ∨
      (s.pdOn 1 = true ∧ s.phase = 0 ∧ s.flag F.SYS_START_DONE = false ∧ s.inFoyer = false ∧ s.start.resetAt = none)) :
    ∃ t, exec (.powerUpReset tm) s = .next t ∧ t.epoch = 0 ∧ t.phase = 1 ∧ t.rd R.SYS_PD_STATUS = 0x87#32 ∧ t.hok = [] ∧ t.raised = [] ∧
      t.rd R.SYS_RESET_CAUSE = BitVec.ofNat 32 (2 + b2n s.plinth.cold) ∧ t.plinth.cold = false ∧ t.pins.testMode = tm ∧ t.pending = s.pending ∧
      (∀ a, 0x400D0000 ≤ a → a < 0x400E0000 → t.rd a = s.rd a) ∧ (∀ a, 0x10000000 ≤ a → a < 0x11000000 → t.rdB a = s.rdB a) ∧
      (∀ a, memHome a < 0x10000000 ∨ 0x11000000 ≤ memHome a → t.rdB a = 0#8 ∧ t.eccBad a = false) ∧
      t.get F.SYS_IMG_STATUS_ACTIVE = s.get F.SYS_IMG_SELECT_SLOT ∧ t.get F.SV_BOOT_ACTIVE_FW = s.get F.SV_BOOT_FW_SEL ∧
      t.sv.hash = s.sv.hash ∧ t.sv.arbFw = s.sv.arbFw ∧ t.sv.arbImg = s.sv.arbImg ∧ t.sv.arbApp = s.sv.arbApp ∧ t.sv.replay = s.sv.replay ∧
      t.resp = s.resp ∧ t.draws = s.draws ∧ t.pins.gpio = s.pins.gpio ∧
      (∀ a, a < 0x400D0000 ∨ 0x400E0000 ≤ a → a ∉ R.SYS_RESET_CAUSE :: keptRegs → t.rd a = State.reset.rd a) := by
  obtain ⟨hepoch, hhok, hraised, hpending, hresp, hdraws, hsv⟩ := s.poweredUp_kept tm
  obtain ⟨hphase, htm, hgpio, hcold⟩ := State.poweredUp_pins (s := s) tm
  obtain ⟨hhash, hfw, himg, happ, hreplay⟩ := s.volatileReset_otp
  refine ⟨s.poweredUp tm, State.poweredUp_exec tm halive hfresh, hepoch, hphase, State.poweredUp_domains tm, hhok, hraised, State.poweredUp_cause tm, hcold, htm,
    hpending, fun a hlo hhi => State.poweredUp_plinth tm h hlo hhi, fun a hlo hhi => ?_, fun a ha => ?_,
    (State.poweredUp_get tm _ (by decide)).trans s.volatileReset_active, (State.poweredUp_get tm _ (by decide)).trans s.volatileReset_activeFw,
    by rw [hsv, hhash], by rw [hsv, hfw], by rw [hsv, himg], by rw [hsv, happ], by rw [hsv, hreplay], hresp, hdraws, hgpio,
    fun a hout ha => State.poweredUp_other tm h hout ha⟩
  · have hhome : mramAt (memHome a) = true := by
      have ha : memHome a = a := if_neg (by omega)
      rw [ha]
      simp [mramAt, hlo, hhi]
    rw [(State.poweredUp_mem tm h a).1, if_pos hhome]
  · have hhome : ¬ mramAt (memHome a) = true := by simp only [mramAt, Bool.and_eq_true, decide_eq_true_eq]; omega
    have hword : ¬ (0x10000000 ≤ eccHome a ∧ eccHome a < 0x11000000) := by unfold eccHome; omega
    have hecc : ¬ mramAt (eccHome a) = true := by simpa only [mramAt, Bool.and_eq_true, decide_eq_true_eq] using hword
    exact ⟨(State.poweredUp_mem tm h a).1.trans (if_neg hhome), (State.poweredUp_mem tm h a).2.trans (if_neg hecc)⟩

/-- Settles O54: a reset's cause is noted and the outputs go safe; what a reset leaves is the reset state with the registers and parts that it keeps,
over which the begun phase writes. -/
theorem resets : Obligations.Resets := by
  unfold Obligations.Resets
  intro s
  refine ⟨fun tm halive h hfresh => powers_up tm halive h hfresh, fun tm hwait => exec_powerUp_waits tm hwait, fun ns still hon hns hat => ?_,
    fun ns still hon hns => ⟨_, exec_resetPin_short ns still hon hns, rfl, s.pinSeen_keeps _⟩, fun i hi hat => ?_, fun i hi => ?_, fun hfoyer h => ?_,
    fun i hi => ⟨_, congrArg Host.Outcome.next (State.hpbWrite_refused hi), State.cfgReject_refused ..⟩, fun hon hset hheld hpast hat => ?_, exec_watchdogWaits,
    ⟨_, rfl, rfl, .beside' (.refl _ _ s)⟩, fun v hv => ?_, fun i v hi => ?_, fun a h hat hpast hlow => ?_, exec_resetRelease_waits⟩
  · obtain ⟨t, hexec, hbegun, hcause⟩ := pin_resets ns still hon hns hat
    have hseen : KeepsOutside (zone R.SYS_ID :: assertZones) assertParts s (s.pinSeen still) := 
      (Keeps.after (s.pinSeen_keeps still) (.refl [] assertParts s) (List.Subset.refl _) (by simp [assertParts])).toOutside (by simp)
    exact ⟨t, hexec, hcause, hbegun.at_, hbegun.low, fun q => hbegun.held q q.2, fun u => hbegun.units u u.2, fun k => hbegun.gates k k.2, hbegun.relays.1,
      hbegun.relays.2, .comp hbegun.frame hseen⟩
  · have hresets (foyer : Bool) : ∃ t, Host.Outcome.next (s.resetWrite i (if foyer then 0x7A5C0003#32 else 0x7A5C0001#32)) = (.next t : Res) ∧
        t.get F.SYS_RESET_CAUSE_SOFT = 1 ∧ (foyer = true → t.get F.SYS_RESET_CAUSE_FOYER_REQ = 1) ∧ ResetBegun s t := by
      obtain ⟨hbegun, hsoft, hreq⟩ := State.resetCaused_asserts (foyer := foyer) hat
      exact ⟨_, congrArg Host.Outcome.next (s.resetWrite_asserts hi foyer), hsoft, hreq, hbegun⟩
    obtain ⟨t, ht, hsoft, hreq, hbegun⟩ := hresets false
    obtain ⟨u, hu, hsoft', hreq', hbegun'⟩ := hresets true
    simp only [List.forall_mem_cons, List.not_mem_nil, IsEmpty.forall_iff, implies_true, and_true]
    exact ⟨⟨t, ht, hsoft, hreq, hbegun.at_, fun q => hbegun.held q q.2, fun k => hbegun.units k k.2, hbegun.frame⟩,
      ⟨u, hu, hsoft', fun _ => hreq' rfl, hbegun'.at_, fun q => hbegun'.held q q.2, fun k => hbegun'.units k k.2, hbegun'.frame⟩⟩
  · simp only [List.forall_mem_cons, List.not_mem_nil, IsEmpty.forall_iff, implies_true, and_true]
    exact ⟨⟨_, congrArg Host.Outcome.next (State.resetWrite_refused hi (.inl rfl)), State.cfgReject_refused ..⟩,
      ⟨_, congrArg Host.Outcome.next (State.resetWrite_refused hi (.inr rfl)), State.cfgReject_refused ..⟩⟩
  · exact ⟨_, congrArg Host.Outcome.next (State.hpbWrite_resets hfoyer), hpb_resets h⟩
  · obtain ⟨hbegun, hcause⟩ := State.set1_asserts (f := F.SYS_RESET_CAUSE_WATCHDOG) rfl (by decide) hat
    exact ⟨_, exec_watchdogExpire hon hset hheld hpast, hcause, hbegun.at_, fun q => hbegun.held q q.2, hbegun.frame⟩
  · exact congrArg Host.Outcome.next ((if_neg (by simp)).trans (if_neg hv))
  · exact ⟨_, congrArg Host.Outcome.next (if_pos hi), State.cfgReject_refused ..⟩
  · obtain ⟨hhok, hraised, hpins, hresp, hpending, hat', hepoch, hmono, hclk, hplinth, hmem, hecc⟩ := s.release_left
    obtain ⟨hphase, hcomps, hreaction, hmode⟩ := s.release_begins
    exact ⟨_, exec_resetRelease hat hpast hlow, hphase, hat', hepoch, hmono, hclk, hmem, hecc, hplinth, hhok, hraised, fun c => hcomps c c.2, hreaction,
      State.release_own h (by decide), State.release_own h (by decide), State.release_own h (by decide), fun b hb => State.release_stands h hb, hmode, hpins,
      hresp, hpending, fun b hb hkept => State.release_resets h hb hkept⟩

end Sys2Proof.Machine
end

section
/-!
Proofs about the fall to SLEEP (chapter 17).
The proofs are elaborated in turn: in one text, proofs that wait for each other would each hold a thread.
-/

set_option Elab.async false

namespace Sys2Proof.Machine

/-! # The fall to SLEEP (R558) -/


/-- The pads are held where PD1 is on (R543). -/
def State.padsHeld (s : State) : State := if s.pdOn 1 then (if s.pdOn 11 then (s.padHold 1).padHold 11 else s.padHold 1) else s

/-- PD1 is off. -/
def State.pd1Left (t : State) (alive : Bool) : State := (t.wr R.SYS_PD_STATUS (w32 (b2n alive))).wr R.SYS_RAILS 0

/-- The Plinth sleeps. -/
def State.slept (t : State) : State := (t.put F.PLINTH_STATUS_STATE 0).modPlinth fun p => { p with session := none, alarm := false, dawn := false }

theorem State.enterSleep_eq (s : State) : s.enterSleep = (s.padsHeld.volatileReset.pd1Left s.padsHeld.alive).slept := rfl

theorem State.padHold_keeps (s : State) (d : Nat) : Keeps [padHoldF d] [.plinth] s (s.padHold d) :=
  .ite' (.refl _ _ _) (.put' (.ite' (.beside' (.refl _ _ _)) (.ite' (.beside' (.refl _ _ _)) (.refl _ _ _))))

theorem State.padsHeld_keeps (s : State) : Keeps [padHoldF 1, padHoldF 11] [.plinth] s s.padsHeld :=
  .ite' (.ite' (.after (State.padHold_keeps ..) (.after (State.padHold_keeps ..) (.refl _ _ s))) (.after (State.padHold_keeps ..) (.refl _ _ s))) (.refl _ _ s)

theorem State.padsHeld_canonical {s : State} (h : s.canonical = true) : s.padsHeld.canonical = true :=
  (Orderly.ite (.ite (.padHold (.padHold (.refl s))) (.padHold (.refl s))) (.refl s)).canonical h

/-- The registers that the fall to SLEEP writes after the reset of what is volatile. -/
def sleepFlds : List Fld := [whole R.SYS_PD_STATUS, whole R.SYS_RAILS, F.PLINTH_STATUS_STATE]

theorem State.sleep_keeps (t : State) (alive : Bool) : Keeps sleepFlds [.plinth] t (t.pd1Left alive).slept :=
  .beside' (.put' (.wr' (.wr' (.refl _ _ t) (by simp [sleepFlds])) (by simp [sleepFlds])) (by simp [sleepFlds]))

theorem State.slept_facts (t : State) (alive : Bool) : (t.pd1Left alive).slept.plState = 0 ∧ (t.pd1Left alive).slept.rd R.SYS_PD_STATUS = w32 (b2n alive) ∧
    (t.pd1Left alive).slept.plinth.session = none := by
  refine ⟨State.get_put_self _ _ _ (by decide), ?_, rfl⟩
  exact (State.rd_wr_other _ _ _ _ (by decide)).trans ((State.rd_wr_other _ _ _ _ (by decide)).trans (State.rd_wr_same _ _ _))

/-- The domains of a state asleep. -/
theorem State.pdOn_of_rd {t : State} {alive : Bool} (h : t.rd R.SYS_PD_STATUS = w32 (b2n alive)) (d : Nat) : t.pdOn d = (alive && d == 0) := by
  have hget : t.get F.SYS_PD_STATUS_DOMAIN_ON = b2n alive := by
    have hrd : t.get F.SYS_PD_STATUS_DOMAIN_ON = bitsOf (t.rd R.SYS_PD_STATUS).toNat 0 12 := rfl
    rw [hrd, h]
    cases alive <;> decide
  rw [State.pdOn, hget]
  cases alive <;> cases d with
  | zero => decide
  | succ k =>
    have hpow : 1 < 2 ^ (k + 1) := Nat.one_lt_two_pow (by omega)
    simp [bitOf, b2n, Nat.div_eq_of_lt hpow]

section
variable {s : State} (h : s.canonical = true)

/-- What the fall to SLEEP leaves of the parts. -/
theorem State.enterSleep_parts (s : State) : s.enterSleep.plState = 0 ∧ s.enterSleep.pdOn 1 = false ∧ s.enterSleep.hok = [] ∧ s.enterSleep.raised = [] ∧
    s.enterSleep.epoch = 0 ∧ s.enterSleep.plinth.session = none ∧ s.enterSleep.resp = s.resp ∧ s.enterSleep.pins = s.pins ∧
    s.enterSleep.pending = s.pending ∧ s.enterSleep.draws = s.draws := by
  obtain ⟨hstate, hdomains, hsession⟩ := s.padsHeld.volatileReset.slept_facts s.padsHeld.alive
  obtain ⟨hhok, hraised, hpins, hresp, hpending, -, hdraws, hepoch⟩ := s.padsHeld.volatileReset_left
  have hkeeps := s.padsHeld.volatileReset.sleep_keeps s.padsHeld.alive
  have hheld := s.padsHeld_keeps
  rw [s.enterSleep_eq]
  refine ⟨hstate, (State.pdOn_of_rd hdomains 1).trans (by simp), ?_, ?_, ?_, hsession, ?_, ?_, ?_, ?_⟩
  · exact Eq.trans (hkeeps.2 .hok (by decide)) hhok
  · exact Eq.trans (hkeeps.2 .raised (by decide)) hraised
  · exact Eq.trans (hkeeps.2 .epoch (by decide)) hepoch
  · exact Eq.trans (hkeeps.2 .resp (by decide)) (hresp.trans (hheld.2 .resp (by decide)))
  · exact Eq.trans (hkeeps.2 .pins (by decide)) (hpins.trans (hheld.2 .pins (by decide)))
  · exact Eq.trans (hkeeps.2 .pending (by decide)) (hpending.trans (hheld.2 .pending (by decide)))
  · exact Eq.trans (hkeeps.2 .draws (by decide)) (hdraws.trans (hheld.2 .draws (by decide)))

/-- The domain of a state asleep: PD0 at most. -/
theorem State.enterSleep_pdOn (s : State) (d : Nat) : s.enterSleep.pdOn d = (s.alive && d == 0) := by
  obtain ⟨-, hdomains, -⟩ := s.padsHeld.volatileReset.slept_facts s.padsHeld.alive
  have halive : s.padsHeld.alive = s.alive := by
    have hget := s.padsHeld_keeps.get_eq F.SYS_PD_STATUS_DOMAIN_ON (by decide)
    exact congrArg (bitOf · 0) hget
  rw [s.enterSleep_eq, State.pdOn_of_rd hdomains, halive]

include h

theorem State.enterSleep_plinth {a : Nat} (hlo : 0x400D0000 ≤ a) (hhi : a < 0x400E0000) (ha : a ≠ R.PLINTH_STATUS) : s.enterSleep.rd a = s.rd a := by
  have hpads : ∀ f ∈ [padHoldF 1, padHoldF 11], f.addr < 0x400D0000 := by decide
  have hsleep : ∀ f ∈ sleepFlds, f.addr < 0x400D0000 ∨ f.addr = R.PLINTH_STATUS := by decide
  have hheld := s.padsHeld_keeps.rd_eq a fun f hf => Fld.apart_of_addr fun he : f.addr = a => by have := hpads f hf; omega
  rw [s.enterSleep_eq, (State.sleep_keeps ..).rd_eq a fun f hf => ?_, State.rd_volatileReset_plinth (State.regs_wf (State.padsHeld_canonical h)) hlo hhi, hheld]
  refine Fld.apart_of_addr fun he : f.addr = a => ?_
  rcases hsleep f hf with hlt | hstatus
  · omega
  · exact ha (he.symm.trans hstatus)

theorem State.enterSleep_other {a : Nat} (hout : a < 0x400D0000 ∨ 0x400E0000 ≤ a) (ha : a ∉ keptRegs) : s.enterSleep.rd a = State.reset.rd a := by
  have hsleep : ∀ f ∈ sleepFlds, f.addr ∈ keptRegs ∨ (0x400D0000 ≤ f.addr ∧ f.addr < 0x400E0000) := by decide
  rw [s.enterSleep_eq, (State.sleep_keeps ..).rd_eq a fun f hf => ?_, State.rd_volatileReset_other (State.regs_wf (State.padsHeld_canonical h)) hout ha]
  refine Fld.apart_of_addr fun he : f.addr = a => ?_
  rcases hsleep f hf with hkept | hplinth
  · exact ha (he ▸ hkept)
  · omega

theorem State.enterSleep_mram {a : Nat} (hlo : 0x10000000 ≤ a) (hhi : a < 0x11000000) : s.enterSleep.rdB a = s.rdB a := by
  have hhome : mramAt (memHome a) = true := by
    have ha : memHome a = a := if_neg (by omega)
    rw [ha]
    simp [mramAt, hlo, hhi]
  have hmem := (s.padsHeld.volatileReset.sleep_keeps s.padsHeld.alive).2 .mem (by decide)
  rw [s.enterSleep_eq, hmem.1 a, State.rdB_volatileReset (State.padsHeld_canonical h), if_pos hhome]
  exact (s.padsHeld_keeps.2 .mem (by decide)).1 a

end

/-! ### A state that falls to SLEEP by way of others -/

/-- The registers of PD0 in which the way to SLEEP may leave a mark. -/
def sleepMarks : List Nat := [R.PLINTH_STATUS, R.PLINTH_STICKY, R.PLINTH_ACT_CNT]

/-- The state from which a fall to SLEEP starts, against that in which its cause came. -/
structure Drowsy (s u : State) : Prop where
  canonical : u.canonical = true
  regs : ∀ a, 0x400D0000 ≤ a → a < 0x400E0000 → a ∉ sleepMarks → u.rd a = s.rd a
  resp : u.resp = s.resp
  pins : u.pins = s.pins
  pending : u.pending = s.pending
  mram : s.maintRuns Act.mramProgram = false → ∀ a, 0x10000000 ≤ a → a < 0x11000000 → u.rdB a = s.rdB a

theorem Drowsy.refl {s : State} (h : s.canonical = true) : Drowsy s s := ⟨h, fun _ _ _ _ => rfl, rfl, rfl, rfl, fun _ _ _ _ => rfl⟩

/-- A domain's bit in SYS_PD_STATUS. -/
theorem State.pdOn_eq (s : State) {d : Nat} (hd : d < 12) : s.pdOn d = s.flag (pdOnF d) := by
  have hbits (w : Nat) : bitOf (bitsOf w 0 12) d = (bitsOf w d 1 == 1) := by
    rw [← bitOf_eq_bitsOf, bitOf_eq_testBit, bitOf_eq_testBit, bitsOf, pow_zero, Nat.div_one, Nat.testBit_mod_two_pow]
    simp [hd]
  exact hbits _

/-- A mark in PD0's registers, if any, follows the fall. -/
theorem Drowsy.slept {s u t : State} {fs : List Fld} (hu : Drowsy s u) (ht : Keeps fs [] u.enterSleep t)
    (hfs : ∀ f ∈ fs, f.addr = R.PLINTH_STICKY ∨ f.addr = R.PLINTH_ACT_CNT ∨ f = pdOnF 0) : SleptFrom s t := by
  obtain ⟨hstate, hoff, hhok, hraised, hepoch, hsession, hresp, hpins, hpending, -⟩ := u.enterSleep_parts
  have hrd (a : Nat) (ha : a ≠ R.PLINTH_STICKY) (hb : a ≠ R.PLINTH_ACT_CNT) (hc : a ≠ R.SYS_PD_STATUS) : t.rd a = u.enterSleep.rd a :=
    ht.rd_eq a fun f hf => Fld.apart_of_addr fun he : f.addr = a => by
      rcases hfs f hf with h | h | h
      · exact ha (he.symm.trans h)
      · exact hb (he.symm.trans h)
      · exact hc (he.symm.trans (congrArg Fld.addr h))
  have hst : t.plState = u.enterSleep.plState := congrArg (fun w : Word => bitsOf w.toNat F.PLINTH_STATUS_STATE.lo F.PLINTH_STATUS_STATE.len)
    (hrd R.PLINTH_STATUS (by decide) (by decide) (by decide))
  have hbit : t.get (pdOnF 1) = u.enterSleep.get (pdOnF 1) := ht.get_eq _ fun f hf => by
    rcases hfs f hf with h | h | rfl
    · exact Fld.apart_of_addr (by rw [h]; decide)
    · exact Fld.apart_of_addr (by rw [h]; decide)
    · decide
  refine ⟨hst.trans hstate, ?_, Eq.trans (ht.2 .hok (by simp)) hhok, Eq.trans (ht.2 .raised (by simp)) hraised,
    Eq.trans (ht.2 .epoch (by simp)) hepoch, (congrArg PlinthState.session (ht.2 .plinth (by simp))).trans hsession,
    Eq.trans (ht.2 .resp (by simp)) (hresp.trans hu.resp), Eq.trans (ht.2 .pins (by simp)) (hpins.trans hu.pins),
    Eq.trans (ht.2 .pending (by simp)) (hpending.trans hu.pending), fun a hlo hhi ha => ?_, fun a hout ha => ?_, fun hruns a hlo hhi => ?_⟩
  · rw [State.pdOn_eq _ (by decide), State.flag, hbit]
    rwa [State.pdOn_eq _ (by decide), State.flag] at hoff
  · have hne : a ≠ R.PLINTH_STATUS ∧ a ≠ R.PLINTH_STICKY ∧ a ≠ R.PLINTH_ACT_CNT := by
      simpa only [List.mem_cons, List.not_mem_nil, or_false, not_or] using ha
    have hpd : R.SYS_PD_STATUS < 0x400D0000 := by decide
    rw [hrd a hne.2.1 hne.2.2 (by omega), State.enterSleep_plinth hu.canonical hlo hhi hne.1]
    exact hu.regs a hlo hhi ha
  · have hin : (0x400D0000 ≤ R.PLINTH_STICKY ∧ R.PLINTH_STICKY < 0x400E0000) ∧ 0x400D0000 ≤ R.PLINTH_ACT_CNT ∧ R.PLINTH_ACT_CNT < 0x400E0000 := by decide
    have hpd : a ≠ R.SYS_PD_STATUS := fun he => ha (he ▸ by decide)
    rw [hrd a (by omega) (by omega) hpd, State.enterSleep_other hu.canonical hout ha]
  · rw [(ht.2 .mem (by simp)).1 a, State.enterSleep_mram hu.canonical hlo hhi]
    exact hu.mram hruns a hlo hhi

/-! ### The end of a write of MRAM on the way (R558) -/

theorem State.stageVerify_outside (s : State) : KeepsOutside [zone R.SYS_ID, zone R.SV_INFO] [.sv, .draws] s s.stageVerify.1 := by
  cases hstage : s.sv.stage with
  | none =>
    have hverify : s.stageVerify = (s, Sv.state, []) := by simp only [State.stageVerify, hstage]
    rw [hverify]
    exact .refl _ _ s
  | some g =>
    have hsv (f : Fld) (hf : f ∈ [busyF g.kind, validF g.kind g.slot, errF g.kind]) :
        ∃ r ∈ [zone R.SYS_ID, zone R.SV_INFO], r.1 ≤ f.addr ∧ f.addr < r.2 := by
      simp only [List.mem_cons, List.not_mem_nil, or_false] at hf
      rcases hf with rfl | rfl | rfl
      · unfold busyF; split <;> decide
      · unfold validF; split_ifs <;> simp
      · unfold errF; split_ifs <;> decide
    rw [State.stageVerify_eq hstage]
    have hdone : KeepsOutside [zone R.SYS_ID, zone R.SV_INFO] [.sv, .draws] s ((s.put (busyF g.kind) 0).modSv fun v => { v with stage := none }) :=
      .beside' (.put' (.refl _ _ s) (hsv _ (by simp)))
    unfold State.verified
    dsimp only
    exact .ite' (.ite' hdone (.put' hdone (hsv _ (by simp)))) (.drew' (.put' hdone (hsv _ (by simp))))

theorem State.mramEnd_outside (s : State) : KeepsOutside [zone R.DIAG_MAINT_REQ, zone R.SYS_ID, zone R.SV_INFO] [.mem, .sv, .draws] s s.mramEnd := by
  have hend : KeepsOutside [zone R.DIAG_MAINT_REQ, zone R.SYS_ID, zone R.SV_INFO] [.mem, .sv, .draws] s (s.maintEnd Act.mramProgram .ok) :=
    .after (State.maintEnd_outside _ _ _ (by decide)) (.refl _ _ s)
  cases hstage : s.sv.stage with
  | none =>
    have hmram : s.mramEnd = s.maintEnd Act.mramProgram .ok := by simp only [State.mramEnd, hstage]
    rw [hmram]
    exact hend
  | some g =>
    cases hwrite : g.write with
    | none =>
      have hmram : s.mramEnd = s.maintEnd Act.mramProgram .ok := by simp only [State.mramEnd, hstage, hwrite]
      rw [hmram]
      exact hend
    | some w =>
      have hwritten : KeepsOutside [zone R.DIAG_MAINT_REQ, zone R.SYS_ID, zone R.SV_INFO] [.mem, .sv, .draws] s (s.mramWritten g w) :=
        .after (qs := [zone R.DIAG_MAINT_REQ]) ((s.mramWritten_frame g w).toOutside (by simp)) (.refl _ _ s)
      cases hending : g.ending with
      | false => rw [State.mramEnd_waits hstage hwrite hending]; exact hwritten
      | true =>
        have hverified : KeepsOutside [zone R.DIAG_MAINT_REQ, zone R.SYS_ID, zone R.SV_INFO] [.mem, .sv, .draws] s (s.mramWritten g w).svKeep.stageVerify.1 :=
          .after (State.stageVerify_outside _) (.beside' hwritten)
        rw [State.mramEnd_verifies hstage hwrite hending]
        exact .ite' (.beside' hverified) hverified

/-- A measurement's end leaves PD0's registers, and falls to SLEEP. -/
theorem Drowsy.measEnd {s u t : State} {fs : List Fld} (hu : Drowsy s u) (hruns : u.maintRuns Act.mramProgram = s.maintRuns Act.mramProgram)
    (ht : Keeps fs [] u.measEnd t) (hfs : ∀ f ∈ fs, f.addr = R.PLINTH_STICKY ∨ f.addr = R.PLINTH_ACT_CNT ∨ f = pdOnF 0) : SleptFrom s t := by
  by_cases hprogram : u.maintRuns Act.mramProgram = true
  · have hend : u.measEnd = u.mramEnd.enterSleep := congrArg State.enterSleep (if_pos hprogram)
    have hout := u.mramEnd_outside
    have hmram : Drowsy s u.mramEnd := by
      refine ⟨(Orderly.mramEnd (Orderly.refl u)).canonical hu.canonical, fun a hlo hhi ha => ?_, Eq.trans (hout.2 .resp (by decide)) hu.resp,
        Eq.trans (hout.2 .pins (by decide)) hu.pins, Eq.trans (hout.2 .pending (by decide)) hu.pending, fun hnone => ?_⟩
      · exact (hout.1 a (by simp; omega)).trans (hu.regs a hlo hhi ha)
      · exact absurd (hnone.symm.trans (hruns.symm.trans hprogram)) (by simp)
    rw [hend] at ht
    exact hmram.slept ht hfs
  · have hend : u.measEnd = u.enterSleep := congrArg State.enterSleep (if_neg hprogram)
    rw [hend] at ht
    exact hu.slept ht hfs

end Sys2Proof.Machine
end

section
/-!
Proofs about the Plinth: its life, its clock, wakes and requests (chapter 17).
The proofs are elaborated in turn: in one text, proofs that wait for each other would each hold a thread.
-/

set_option Elab.async false

namespace Sys2Proof.Machine

/-! # O40: the Plinth's life, its clock, wakes and requests (chapter 17) -/


/-! ### The cold start (R547) -/

/-- An address that an image sets no register of PD0 at, but for the power-fail voltage. -/
def offPlinth (a : Nat) : Prop := a < 0x400D0000 ∨ 0x400E0000 ≤ a ∨ a = R.PLINTH_VPF

theorem Image.sysRegs_offPlinth (im : Image) : ∀ e ∈ im.sysRegs, offPlinth e.1.addr := by
  unfold offPlinth
  simp only [Image.sysRegs, List.mem_append, List.mem_cons, List.mem_map, List.mem_range, List.not_mem_nil, or_false]
  rintro e ((h | ⟨i, hi, rfl⟩) | h)
  · rcases h with rfl | rfl | rfl | rfl <;> simp
  · simp; omega
  · rcases h with rfl | rfl | rfl | rfl | rfl | rfl | rfl | rfl | rfl | rfl <;> simp

theorem Image.driveRegs_offPlinth (im : Image) : ∀ e ∈ im.driveRegs, offPlinth e.1.addr := by
  unfold offPlinth
  simp only [Image.driveRegs, List.mem_append, List.mem_cons, List.mem_flatMap, List.mem_range, List.not_mem_nil, or_false]
  rintro e (((⟨u, hu, h⟩ | ⟨u, hu, h⟩) | ⟨u, hu, h⟩) | ⟨u, hu, h⟩)
  · rcases h with rfl | rfl | rfl | rfl | rfl | rfl | rfl | rfl <;> simp <;> omega
  · rcases h with rfl | rfl <;> simp <;> omega
  · rcases h with rfl | rfl | rfl <;> simp <;> omega
  · rcases h with rfl | rfl | rfl | rfl | rfl <;> simp <;> split <;> omega

theorem Image.routeRegs_offPlinth (im : Image) : ∀ e ∈ im.routeRegs, offPlinth e.1.addr := by
  unfold offPlinth
  simp only [Image.routeRegs, List.mem_append, List.mem_cons, List.mem_flatMap, List.mem_range, List.not_mem_nil, or_false]
  rintro e (((⟨u, hu, h⟩ | ⟨u, hu, h⟩) | ⟨u, hu, h⟩) | ⟨u, hu, h⟩)
  · rcases h with rfl | rfl <;> simp <;> omega
  · rcases h with rfl | rfl | rfl | rfl <;> simp <;> omega
  · rcases h with rfl | rfl | rfl | rfl | rfl | rfl | rfl <;> simp <;> omega
  · rcases h with rfl | rfl | rfl <;> simp <;> split <;> omega

theorem Image.gridRegs_offPlinth (im : Image) : ∀ e ∈ im.gridRegs, offPlinth e.1.addr := by
  unfold offPlinth
  simp only [Image.gridRegs, Image.graphs, List.mem_append, List.mem_cons, List.mem_flatMap, List.mem_map, List.mem_filter, List.mem_range, List.not_mem_nil, or_false]
  rintro e ((h | ⟨p, hp, k, hk, w, hw, rfl⟩) | ⟨p, ⟨hp, -⟩, h⟩)
  · rcases h with rfl | rfl | rfl | rfl | rfl | rfl | rfl | rfl | rfl | rfl | rfl | rfl | rfl | rfl <;> simp
  · simp; omega
  · rcases h with rfl | rfl | rfl | rfl | rfl <;> simp <;> omega

theorem State.imgRegs_offPlinth (s : State) : ∀ e ∈ s.imgRegs, offPlinth e.1.addr := by
  unfold State.imgRegs
  split
  · simp
  next im him =>
    intro e he
    simp only [Image.regs, List.mem_append] at he
    rcases he with ((h | h) | h) | h
    · exact im.sysRegs_offPlinth e h
    · exact im.driveRegs_offPlinth e h
    · exact im.routeRegs_offPlinth e h
    · exact im.gridRegs_offPlinth e h

theorem State.rd_putAll_other {a : Nat} : ∀ (l : List (Fld × Nat)) (u : State), (∀ e ∈ l, e.1.addr ≠ a) → (u.putAll l).rd a = u.rd a
  | [], _, _ => rfl
  | e :: l, u, h =>
    (State.rd_putAll_other l (u.put e.1 e.2) fun x hx => h x (List.mem_cons_of_mem _ hx)).trans (State.rd_wr_other _ _ _ _ (Ne.symm (h e List.mem_cons_self)))

/-- A register of a range put back reads as at reset, where the image has no value for it. -/
theorem State.rd_resetRange {s : State} (h : s.canonical = true) {lo hi a : Nat} (hlo : lo ≤ a) (hhi : a < hi)
    (himg : ∀ e ∈ s.imgRegs, lo ≤ e.1.addr → e.1.addr < hi → e.1.addr ≠ a) : (s.resetRange lo hi).rd a = State.reset.rd a := by
  have hdropped : (s.rangeDropped lo hi).rd a = 0#32 :=
    (SMap.get_filter (fun a => a < lo || hi ≤ a) a (State.regs_wf h)).trans (if_neg (by simp; omega))
  have hreset : SMap.get (rangeReset lo hi) a = State.reset.rd a :=
    (SMap.get_filter (fun a => lo ≤ a && a < hi) a State.reset_regs_wf).trans (if_pos (by simp; omega))
  have hwf : (rangeReset lo hi).wf = true := SMap.wf_filter _ _ State.reset_regs_wf
  rw [s.resetRange_eq, State.rd_putAll_other, State.rd_overlaid _ hwf, hreset, hdropped]
  · split_ifs with hzero
    · exact hzero.symm
    · rfl
  · intro e he
    obtain ⟨hmem, hrange⟩ := List.mem_filter.1 he
    obtain ⟨h1, h2⟩ : lo ≤ e.1.addr ∧ e.1.addr < hi := by simpa using hrange
    exact himg e hmem h1 h2

/-- PD0 with its registers put back, and its hidden state. -/
def State.plinthReset (s : State) : State := { (s.resetRange 0x400D0000 0x400E0000) with plinth := State.reset.plinth }

/-- The pads are free, PD0 is on, and the start is noted. -/
def State.coldStarted (t : State) : State := ((t.wr R.SYS_PAD_HOLD 0).put (pdOnF 0) 1).set1 F.PLINTH_STICKY_COLD_START

theorem State.plinthReset_outside {s : State} (h : s.canonical = true) : KeepsOutside [(0x400D0000, 0x400E0000)] [.plinth, .shadow] s s.plinthReset :=
  .beside' (.after (State.resetRange_outside (State.regs_wf h) 0x400D0000 0x400E0000) (.refl _ _ s))

theorem State.rd_plinthReset {s : State} (h : s.canonical = true) {a : Nat} (ha : a ∈ [R.PLINTH_RTC_SEC, R.PLINTH_ALARM, R.PLINTH_WAKE_EN, R.PLINTH_SESSION, R.PLINTH_STATUS]) :
    s.plinthReset.rd a = State.reset.rd a := by
  have hin : ∀ a ∈ [R.PLINTH_RTC_SEC, R.PLINTH_ALARM, R.PLINTH_WAKE_EN, R.PLINTH_SESSION, R.PLINTH_STATUS], 0x400D0000 ≤ a ∧ a < 0x400E0000 ∧ a ≠ R.PLINTH_VPF := by
    decide
  obtain ⟨hlo, hhi, hvpf⟩ := hin a ha
  refine State.rd_resetRange h hlo hhi fun e he h1 h2 heq => ?_
  rcases s.imgRegs_offPlinth e he with hoff | hoff | hoff
  · omega
  · omega
  · exact hvpf (heq.symm.trans hoff)

theorem State.coldStarted_keeps (t : State) : Keeps [whole R.SYS_PAD_HOLD, pdOnF 0, F.PLINTH_STICKY_COLD_START] [] t t.coldStarted :=
  .set1' (.put' (.wr' (.refl _ _ t)))

theorem State.coldStarted_facts (t : State) : t.coldStarted.alive = true ∧ t.coldStarted.get F.PLINTH_STICKY_COLD_START = 1 ∧ t.coldStarted.rd R.SYS_PAD_HOLD = 0#32 := by
  refine ⟨?_, State.get_put_self _ _ _ (by decide), ?_⟩
  · have hbit : t.coldStarted.get (pdOnF 0) = 1 := (State.get_put_other _ _ _ _ (by decide)).trans (State.get_put_self _ _ _ (by decide))
    rw [State.alive, State.pdOn_eq _ (by decide), State.flag, hbit]
    rfl
  · exact (State.rd_wr_other _ _ _ _ (by decide)).trans ((State.rd_wr_other _ _ _ _ (by decide)).trans (State.rd_wr_same _ _ _))

theorem coldStart {s : State} (hdead : s.alive = false) (h : s.canonical = true) :
    ∃ t, exec .plinthColdStart s = .next t ∧ t.alive = true ∧ t.get F.PLINTH_STICKY_COLD_START = 1 ∧ t.plState = 0 ∧
      t.rd R.PLINTH_RTC_SEC = 0#32 ∧ t.rd R.PLINTH_ALARM = 0xFFFFFFFF#32 ∧ t.rd R.PLINTH_WAKE_EN = 0xF#32 ∧ t.rd R.PLINTH_SESSION = 0x14#32 ∧
      t.rd R.SYS_PAD_HOLD = 0#32 ∧ t.plinth.cyc = 0 ∧ t.plinth.cold = true ∧
      KeepsOutside [(0x400D0000, 0x400E0000), (R.SYS_PAD_HOLD, R.SYS_PAD_HOLD + 4), (R.SYS_PD_STATUS, R.SYS_PD_STATUS + 4)] [.plinth, .shadow] s t := by
  have hexec : exec .plinthColdStart s = .next s.plinthReset.coldStarted := if_neg (by simp [hdead])
  have hkeeps := s.plinthReset.coldStarted_keeps
  obtain ⟨halive, hsticky, hpads⟩ := s.plinthReset.coldStarted_facts
  have hrd (a : Nat) (ha : a ∈ [R.PLINTH_RTC_SEC, R.PLINTH_ALARM, R.PLINTH_WAKE_EN, R.PLINTH_SESSION, R.PLINTH_STATUS]) :
      s.plinthReset.coldStarted.rd a = State.reset.rd a := by
    have hapart : ∀ a ∈ [R.PLINTH_RTC_SEC, R.PLINTH_ALARM, R.PLINTH_WAKE_EN, R.PLINTH_SESSION, R.PLINTH_STATUS],
        ∀ f ∈ [whole R.SYS_PAD_HOLD, pdOnF 0, F.PLINTH_STICKY_COLD_START], f.addr ≠ a := by decide
    exact (hkeeps.rd_eq a fun f hf => Fld.apart_of_addr (hapart a ha f hf)).trans (State.rd_plinthReset h ha)
  have hreset : State.reset.rd R.PLINTH_RTC_SEC = 0#32 ∧ State.reset.rd R.PLINTH_ALARM = 0xFFFFFFFF#32 ∧ State.reset.rd R.PLINTH_WAKE_EN = 0xF#32 ∧
      State.reset.rd R.PLINTH_SESSION = 0x14#32 ∧ State.reset.rd R.PLINTH_STATUS = 0#32 := by decide +kernel
  obtain ⟨hsec, halarm, hen, hsession, hstatus⟩ := hreset
  have hplinth : s.plinthReset.coldStarted.plinth = State.reset.plinth := hkeeps.2 .plinth (by simp)
  refine ⟨_, hexec, halive, hsticky, ?_, (hrd _ (by decide)).trans hsec, (hrd _ (by decide)).trans halarm, (hrd _ (by decide)).trans hen,
    (hrd _ (by decide)).trans hsession, hpads, by rw [hplinth]; rfl, by rw [hplinth]; rfl, ?_⟩
  · have hget : s.plinthReset.coldStarted.plState = bitsOf (0#32).toNat F.PLINTH_STATUS_STATE.lo F.PLINTH_STATUS_STATE.len :=
      congrArg (fun w : Word => bitsOf w.toNat F.PLINTH_STATUS_STATE.lo F.PLINTH_STATUS_STATE.len) ((hrd R.PLINTH_STATUS (by decide)).trans hstatus)
    rw [hget]
    decide
  · have hout : KeepsOutside [(0x400D0000, 0x400E0000), (R.SYS_PAD_HOLD, R.SYS_PAD_HOLD + 4), (R.SYS_PD_STATUS, R.SYS_PD_STATUS + 4)] [.plinth, .shadow]
        s s.plinthReset := .after (State.plinthReset_outside h) (.refl _ _ s)
    exact .after (hkeeps.toOutside (by decide)) hout (List.Subset.refl _)

/-! ### The end of its life, and its clock (R548, R549) -/

section
variable {s : State}

theorem plinth_dies (halive : s.alive = true) (h : s.canonical = true) :
    ∃ t, exec .plinthDeath s = .next t ∧ t.alive = false ∧ (∀ d : Fin 12, t.pdOn d = false) ∧ t.draws = s.draws ∧ SleptFrom s t := by
  have hexec : exec .plinthDeath s = .next (s.enterSleep.put (pdOnF 0) 0) := if_pos halive
  have hput : Keeps [pdOnF 0] [] s.enterSleep (s.enterSleep.put (pdOnF 0) 0) := .put' (.refl _ _ _)
  have hon (d : Fin 12) : (s.enterSleep.put (pdOnF 0) 0).pdOn d = false := by
    rw [State.pdOn_eq _ d.2, State.flag]
    by_cases hd : d.val = 0
    · rw [hd, State.get_put_self _ _ _ (by decide)]
      rfl
    · have hoff := s.enterSleep_pdOn d
      rw [State.pdOn_eq _ d.2, State.flag] at hoff
      rw [hput.get_eq _ (by simp [pdOnF, Fld.apart]; omega), hoff]
      simp [hd]
  obtain ⟨-, -, -, -, -, -, -, -, -, hdraws⟩ := s.enterSleep_parts
  exact ⟨_, hexec, hon 0, hon, Eq.trans (hput.2 .draws (by simp)) hdraws, (Drowsy.refl h).slept hput (by simp)⟩

theorem rtcSecond_counts (halive : s.alive = true) :
    ∃ t, exec .rtcSecond s = .next t ∧ t.rd R.PLINTH_RTC_SEC = s.rd R.PLINTH_RTC_SEC + 1#32 ∧
      t.plinth.secFrom = (s.plinth.secFrom + s.secLen) % 2 ^ 47 ∧ t.plinth.cyc = t.plinth.secFrom ∧
      t.plinth.secAcc = (s.plinth.secAcc + s.getS F.PLINTH_RTC_TRIM_TRIM) % 32 ∧
      (t.plinth.alarm = true ↔ s.plinth.alarm = true ∨ (s.plState = 0 ∧ t.rd R.PLINTH_RTC_SEC = s.rd R.PLINTH_ALARM)) ∧
      Keeps [whole R.PLINTH_RTC_SEC] [.plinth] s t := by
  have hexec : exec .rtcSecond s = .next _ := if_pos halive
  have hsec : ((s.wr R.PLINTH_RTC_SEC (s.rd R.PLINTH_RTC_SEC + 1#32))).rd R.PLINTH_RTC_SEC = s.rd R.PLINTH_RTC_SEC + 1#32 := State.rd_wr_same ..
  refine ⟨_, hexec, hsec, rfl, rfl, rfl, ?_, .beside' (.wr' (.refl _ _ s))⟩
  show (s.plinth.alarm || (s.plState == 0 && s.rd R.PLINTH_RTC_SEC + 1#32 == s.rd R.PLINTH_ALARM)) = true ↔ s.plinth.alarm = true ∨ s.plState = 0 ∧ (s.wr R.PLINTH_RTC_SEC (s.rd R.PLINTH_RTC_SEC + 1#32)).rd R.PLINTH_RTC_SEC = s.rd R.PLINTH_ALARM
  rw [hsec]
  simp

/-- The cycle count as a read finds it. -/
theorem State.cycAdvance_facts (s : State) : s.plinth.cyc ≤ s.cycAdvance.plinth.cyc ∧
    (s.plinth.cyc < s.plinth.secFrom + s.secLen → s.cycAdvance.plinth.cyc < s.plinth.secFrom + s.secLen) ∧ Keeps [] [.draws, .plinth] s s.cycAdvance := by
  by_cases hroom : s.plinth.secFrom + s.secLen - s.plinth.cyc = 0
  · have hsame : s.cycAdvance = s := if_pos hroom
    rw [hsame]
    exact ⟨Nat.le_refl _, id, .refl _ _ s⟩
  · have hlater : s.cycAdvance = { s.drew with plinth := { s.plinth with cyc := s.plinth.cyc + s.drawn % (s.plinth.secFrom + s.secLen - s.plinth.cyc) } } := if_neg hroom
    rw [hlater]
    refine ⟨Nat.le_add_right .., fun _ => ?_, .beside' (.drew' (.refl _ _ s))⟩
    have hlt := Nat.mod_lt s.drawn (Nat.pos_of_ne_zero hroom)
    show s.plinth.cyc + _ < _
    omega

theorem cyc_reads (i : Initiator) : ∃ t, exec (.plinthCycRead i) s = .next t ∧ s.plinth.cyc ≤ t.plinth.cyc ∧
      (s.plinth.cyc < s.plinth.secFrom + s.secLen → t.plinth.cyc < s.plinth.secFrom + s.secLen) ∧
      t.resp.words = [BitVec.ofNat 32 t.plinth.cyc] ∧ t.rd R.PLINTH_CYC_HI = BitVec.ofNat 32 (t.plinth.cyc / 2 ^ 32 % 2 ^ 15) ∧
      Keeps [whole R.PLINTH_CYC_HI] [.draws, .resp, .plinth] s t := by
  obtain ⟨hle, hlt, hkeeps⟩ := s.cycAdvance_facts
  have hadvanced : Keeps [whole R.PLINTH_CYC_HI] [.draws, .resp, .plinth] s s.cycAdvance := .after hkeeps (.refl _ _ s)
  exact ⟨_, rfl, hle, hlt, rfl, State.rd_wr_same .., .resp (.wr' hadvanced) _ (by simp)⟩

theorem session_ends (hst : s.plState = 1) (hsession : s.plinth.session.isSome = true) (h : s.canonical = true) :
    ∃ t, exec .sessionTimeout s = .next t ∧ t.get F.PLINTH_STICKY_ABORTED_TIME = 1 ∧ SleptFrom s t :=
  ⟨_, if_pos ⟨hst, hsession⟩, State.get_put_self _ _ _ (by decide), (Drowsy.refl h).measEnd (fs := [F.PLINTH_STICKY_ABORTED_TIME]) rfl (.set1' (.refl _ _ _)) (by simp)⟩

end

/-! ### Wakes (R555, R556) -/

theorem satInc_eq (len n : Nat) (h : n < 2 ^ len) : satInc len n = min (n + 1) (2 ^ len - 1) := by
  unfold satInc
  split <;> omega

theorem State.get_incSat_same (s : State) (f : Fld) (h : f.lo + f.len ≤ 32) : (s.incSat f).get f = min (s.get f + 1) (2 ^ f.len - 1) := by
  have hput : (s.incSat f).get f = satInc f.len (s.get f) % 2 ^ f.len := State.get_put_same s f _ h
  have hlt := s.get_lt f
  rw [hput, satInc_eq _ _ hlt, Nat.mod_eq_of_lt (by omega)]

section
variable {s : State}

/-- Where a wake leads, by the flags. -/
def State.wakeState (s : State) : Nat :=
  if s.flag F.PLINTH_STATUS_VIN_OK && s.flag F.PLINTH_STATUS_START_OK then 2 else if s.flag F.PLINTH_STATUS_MEAS_OK then 1 else 0

/-- What a wake's decision gives. -/
structure Woken (s t : State) : Prop where
  state : t.plState = if s.wakeState = 0 then s.plState else s.wakeState
  admitted : s.wakeState ≠ 0 → t.get F.PLINTH_ACT_CNT_ADMITTED = min (s.get F.PLINTH_ACT_CNT_ADMITTED + 1) 65535
  refused : s.wakeState = 0 → t.get F.PLINTH_STICKY_REFUSED_LOW = 1 ∧ t.get F.PLINTH_ACT_CNT_REFUSED = min (s.get F.PLINTH_ACT_CNT_REFUSED + 1) 255
  session : s.wakeState = 1 → t.plinth.session = some s.plinth.cyc
  alarm : t.plinth.alarm = s.plinth.alarm
  dawn : t.plinth.dawn = s.plinth.dawn
  frame : Keeps [F.PLINTH_STATUS_STATE, F.PLINTH_ACT_CNT_ADMITTED, F.PLINTH_STICKY_REFUSED_LOW, F.PLINTH_ACT_CNT_REFUSED] [.plinth] s t
  quiet : s.wakeState ≠ 0 → Keeps [F.PLINTH_STATUS_STATE, F.PLINTH_ACT_CNT_ADMITTED] [.plinth] s t

theorem State.wakeDecide_woken (s : State) : Woken s s.wakeDecide := by
  cases hstart : (s.flag F.PLINTH_STATUS_VIN_OK && s.flag F.PLINTH_STATUS_START_OK) with
  | true =>
    have hwake : s.wakeState = 2 := if_pos hstart
    have hdecide : s.wakeDecide = (s.put F.PLINTH_STATUS_STATE 2).plAdmit := if_pos hstart
    have hquiet : Keeps [F.PLINTH_STATUS_STATE, F.PLINTH_ACT_CNT_ADMITTED] [.plinth] s ((s.put F.PLINTH_STATUS_STATE 2).plAdmit) := .incSat' (.put' (.refl _ _ s))
    rw [hdecide]
    refine ⟨?_, fun _ => ?_, fun h0 => absurd (hwake.symm.trans h0) (by decide), fun h1 => absurd (hwake.symm.trans h1) (by decide), rfl, rfl,
      hquiet.mono (by simp) (List.Subset.refl _), fun _ => hquiet⟩
    · rw [hwake]
      exact (State.get_put_other _ _ _ _ (by decide)).trans (State.get_put_self _ _ _ (by decide))
    · rw [State.plAdmit, State.get_incSat_same _ _ (by decide), State.get_put_other _ _ _ _ (by decide)]
      rfl
  | false =>
    have hnot : ¬ (s.flag F.PLINTH_STATUS_VIN_OK && s.flag F.PLINTH_STATUS_START_OK) = true := by simp [hstart]
    cases hmeas : s.flag F.PLINTH_STATUS_MEAS_OK with
    | true =>
      have hwake : s.wakeState = 1 := (if_neg hnot).trans (if_pos hmeas)
      have hdecide : s.wakeDecide = s.enterStore := (if_neg hnot).trans (if_pos hmeas)
      have hquiet : Keeps [F.PLINTH_STATUS_STATE, F.PLINTH_ACT_CNT_ADMITTED] [.plinth] s s.enterStore := .incSat' (.beside' (.put' (.refl _ _ s)))
      rw [hdecide]
      refine ⟨?_, fun _ => ?_, fun h0 => absurd (hwake.symm.trans h0) (by decide), fun _ => rfl, rfl, rfl, hquiet.mono (by simp) (List.Subset.refl _), fun _ => hquiet⟩
      · rw [hwake]
        exact (State.get_put_other _ _ _ _ (by decide)).trans (State.get_put_self _ _ _ (by decide))
      · rw [State.enterStore, State.plAdmit, State.get_incSat_same _ _ (by decide)]
        exact congrArg (fun n => min (n + 1) 65535) (State.get_put_other s F.PLINTH_STATUS_STATE F.PLINTH_ACT_CNT_ADMITTED 1 (by decide))
    | false =>
      have hlow : ¬ s.flag F.PLINTH_STATUS_MEAS_OK = true := by simp [hmeas]
      have hwake : s.wakeState = 0 := (if_neg hnot).trans (if_neg hlow)
      have hdecide : s.wakeDecide = s.plRefuse := (if_neg hnot).trans (if_neg hlow)
      rw [hdecide]
      refine ⟨?_, fun h0 => absurd hwake h0, fun _ => ⟨?_, ?_⟩, fun h1 => absurd (hwake.symm.trans h1) (by decide), rfl, rfl, .incSat' (.set1' (.refl _ _ s)),
        fun h0 => absurd hwake h0⟩
      · rw [if_pos hwake]
        exact (State.get_put_other _ _ _ _ (by decide)).trans (State.get_put_other _ _ _ _ (by decide))
      · exact (State.get_put_other _ _ _ _ (by decide)).trans (State.get_put_self _ _ _ (by decide))
      · rw [State.plRefuse, State.get_incSat_same _ _ (by decide)]
        exact congrArg (fun n => min (n + 1) 255) (State.get_put_other s F.PLINTH_STICKY_REFUSED_LOW F.PLINTH_ACT_CNT_REFUSED 1 (by decide))

/-- A wake with causes is recorded. -/
def State.wakeNoted (s : State) (causes : Nat) : State := (s.wr R.PLINTH_WAKE_CAUSE (w32 causes)).set1 F.PLINTH_STICKY_WAKE

theorem State.wakeNoted_keeps (s : State) (causes : Nat) : Keeps [whole R.PLINTH_WAKE_CAUSE, F.PLINTH_STICKY_WAKE] [] s (s.wakeNoted causes) := .set1' (.wr' (.refl _ _ s))

theorem State.wakeTake_taken (s : State) {causes : Nat} (h : causes ≠ 0) : s.wakeTake causes = (s.wakeNoted causes).wakeDecide := if_neg h

/-- A wake with causes is recorded and decided. -/
structure TakenWake (causes : Nat) (s t : State) : Prop where
  cause : t.rd R.PLINTH_WAKE_CAUSE = BitVec.ofNat 32 causes
  sticky : t.get F.PLINTH_STICKY_WAKE = 1
  state : t.plState = if s.wakeState = 0 then s.plState else s.wakeState
  admitted : s.wakeState ≠ 0 → t.get F.PLINTH_ACT_CNT_ADMITTED = min (s.get F.PLINTH_ACT_CNT_ADMITTED + 1) 65535
  refused : s.wakeState = 0 → t.get F.PLINTH_STICKY_REFUSED_LOW = 1 ∧ t.get F.PLINTH_ACT_CNT_REFUSED = min (s.get F.PLINTH_ACT_CNT_REFUSED + 1) 255
  session : s.wakeState = 1 → t.plinth.session = some s.plinth.cyc
  alarm : t.plinth.alarm = s.plinth.alarm
  dawn : t.plinth.dawn = s.plinth.dawn
  frame : Keeps [whole R.PLINTH_WAKE_CAUSE, F.PLINTH_STICKY_WAKE, F.PLINTH_STATUS_STATE, F.PLINTH_STICKY_REFUSED_LOW, whole R.PLINTH_ACT_CNT] [.plinth] s t
  quiet : s.wakeState ≠ 0 → Keeps [whole R.PLINTH_WAKE_CAUSE, F.PLINTH_STICKY_WAKE, F.PLINTH_STATUS_STATE, whole R.PLINTH_ACT_CNT] [.plinth] s t

theorem State.wakeTake_takes (s : State) {causes : Nat} (h : causes ≠ 0) : TakenWake causes s (s.wakeTake causes) := by
  have hnoted := s.wakeNoted_keeps causes
  have hwoken := (s.wakeNoted causes).wakeDecide_woken
  have hstate : (s.wakeNoted causes).wakeState = s.wakeState := by
    unfold State.wakeState State.flag
    rw [hnoted.get_eq F.PLINTH_STATUS_VIN_OK (by decide), hnoted.get_eq F.PLINTH_STATUS_START_OK (by decide), hnoted.get_eq F.PLINTH_STATUS_MEAS_OK (by decide)]
  have hpl : (s.wakeNoted causes).plState = s.plState := hnoted.get_eq _ (by decide)
  have hplinth : (s.wakeNoted causes).plinth = s.plinth := rfl
  rw [s.wakeTake_taken h]
  obtain ⟨wstate, wadmitted, wrefused, wsession, walarm, wdawn, wframe, wquiet⟩ := hwoken
  rw [hstate] at wstate wadmitted wrefused wsession wquiet
  rw [hpl] at wstate
  rw [hnoted.get_eq F.PLINTH_ACT_CNT_ADMITTED (by decide)] at wadmitted
  rw [hnoted.get_eq F.PLINTH_ACT_CNT_REFUSED (by decide)] at wrefused
  refine ⟨?_, ?_, wstate, wadmitted, wrefused, wsession, walarm, wdawn, ?_, fun hs => ?_⟩
  · exact (wframe.rd_eq _ (by decide)).trans ((State.rd_wr_other _ _ _ _ (by decide)).trans (State.rd_wr_same ..))
  · exact (wframe.get_eq _ (by decide)).trans (State.get_put_self _ _ _ (by decide))
  · exact .after (wframe.coarsen (gs := [F.PLINTH_STATUS_STATE, F.PLINTH_STICKY_REFUSED_LOW, whole R.PLINTH_ACT_CNT]) (by simp [Fld.inside, whole])) (.after hnoted (.refl _ _ s))
  · exact .after ((wquiet hs).coarsen (gs := [F.PLINTH_STATUS_STATE, whole R.PLINTH_ACT_CNT]) (by simp [Fld.inside, whole])) (.after hnoted (.refl _ _ s))

end

section
variable {s : State}

/-- No wake is remembered. -/
def State.wakesForgotten (s : State) : State := s.modPlinth fun p => { p with alarm := false, dawn := false }

theorem plinth_wakes (halive : s.alive = true) (hst : s.plState = 0) (hcauses : s.wakeCauses ≠ 0) :
    ∃ t, exec .plinthWake s = .next t ∧ t.rd R.PLINTH_WAKE_CAUSE = BitVec.ofNat 32 s.wakeCauses ∧ t.get F.PLINTH_STICKY_WAKE = 1 ∧
      t.plState = (if s.flag F.PLINTH_STATUS_VIN_OK && s.flag F.PLINTH_STATUS_START_OK then 2 else if s.flag F.PLINTH_STATUS_MEAS_OK then 1 else 0) ∧
      (t.plState ≠ 0 → t.get F.PLINTH_ACT_CNT_ADMITTED = min (s.get F.PLINTH_ACT_CNT_ADMITTED + 1) 65535) ∧
      (t.plState = 0 → t.get F.PLINTH_STICKY_REFUSED_LOW = 1 ∧ t.get F.PLINTH_ACT_CNT_REFUSED = min (s.get F.PLINTH_ACT_CNT_REFUSED + 1) 255) ∧
      (t.plState = 1 → t.plinth.session = some s.plinth.cyc) ∧ t.plinth.alarm = false ∧ t.plinth.dawn = false ∧
      Keeps [whole R.PLINTH_WAKE_CAUSE, F.PLINTH_STICKY_WAKE, F.PLINTH_STATUS_STATE, F.PLINTH_STICKY_REFUSED_LOW, whole R.PLINTH_ACT_CNT] [.plinth] s t := by
  have hexec : exec .plinthWake s = .next (s.wakesForgotten.wakeTake s.wakeCauses) := if_pos ⟨halive, hst⟩
  have htaken := s.wakesForgotten.wakeTake_takes hcauses
  have hpl : s.wakesForgotten.plState = 0 := hst
  have hstate : (s.wakesForgotten.wakeTake s.wakeCauses).plState = s.wakeState := by
    rw [htaken.state, hpl]
    split
    next h0 => exact Eq.symm h0
    next => rfl
  have hforgotten : Keeps [whole R.PLINTH_WAKE_CAUSE, F.PLINTH_STICKY_WAKE, F.PLINTH_STATUS_STATE, F.PLINTH_STICKY_REFUSED_LOW, whole R.PLINTH_ACT_CNT] [.plinth]
      s s.wakesForgotten := .beside' (.refl _ _ s)
  exact ⟨_, hexec, htaken.cause, htaken.sticky, hstate, fun h => htaken.admitted (ne_of_eq_of_ne hstate.symm h), fun h => htaken.refused (hstate.symm.trans h),
    fun h => htaken.session (hstate.symm.trans h), htaken.alarm, htaken.dawn, .comp htaken.frame hforgotten⟩

/-- The answer to a frame on the two-wire line. -/
def State.twwAnswered (s : State) (r : Nat) : State := { s with resp := { words := [], bytes := [], result := r, fault := false } }

theorem State.twwAnswered_keeps (s : State) (r : Nat) : Keeps [] [.resp] s (s.twwAnswered r) := .resp (.refl _ _ s) _ (by simp)

theorem exec_twwWakeFrame (a : Fin 128) {b : Bool} (hack : (s.alive && s.twwMatch a && (s.plState != 0 || s.twwAdmits)) = b) :
    exec (.twwWakeFrame a) s = if !b then .next (s.twwAnswered (b2n b)) else if s.plState = 0 then .next ((s.twwAnswered (b2n b)).wakeTake 2)
      else .next ((s.twwAnswered (b2n b)).wakeNoted 2) := by
  subst hack
  rfl

theorem frame_wakes (a : Fin 128) (hack : (s.alive && s.twwMatch a && (s.plState != 0 || s.twwAdmits)) = true) :
    ∃ t, exec (.twwWakeFrame a) s = .next t ∧ t.resp.result = 1 ∧ t.rd R.PLINTH_WAKE_CAUSE = 2#32 ∧ t.get F.PLINTH_STICKY_WAKE = 1 ∧
      t.plState = (if s.plState ≠ 0 then s.plState else if s.flag F.PLINTH_STATUS_VIN_OK && s.flag F.PLINTH_STATUS_START_OK then 2 else 1) ∧
      Keeps [whole R.PLINTH_WAKE_CAUSE, F.PLINTH_STICKY_WAKE, F.PLINTH_STATUS_STATE, whole R.PLINTH_ACT_CNT] [.resp, .plinth] s t := by
  have hexec := (exec_twwWakeFrame a hack).trans (if_neg (by decide))
  have hanswered : Keeps [whole R.PLINTH_WAKE_CAUSE, F.PLINTH_STICKY_WAKE, F.PLINTH_STATUS_STATE, whole R.PLINTH_ACT_CNT] [.resp, .plinth] s (s.twwAnswered 1) :=
    .after (s.twwAnswered_keeps 1) (.refl _ _ s)
  by_cases hst : s.plState = 0
  · have hadmits : s.twwAdmits = true := by
      simp only [hst, Bool.and_eq_true, bne_self_eq_false, Bool.false_or] at hack
      exact hack.2
    have hflags : ((s.flag F.PLINTH_STATUS_VIN_OK && s.flag F.PLINTH_STATUS_START_OK) || s.flag F.PLINTH_STATUS_MEAS_OK) = true :=
      (Bool.and_eq_true_iff.1 hadmits).2
    have hwake : s.wakeState = if s.flag F.PLINTH_STATUS_VIN_OK && s.flag F.PLINTH_STATUS_START_OK then 2 else 1 := by
      unfold State.wakeState
      cases hstart : (s.flag F.PLINTH_STATUS_VIN_OK && s.flag F.PLINTH_STATUS_START_OK)
      · rw [hstart, Bool.false_or] at hflags
        simp [hflags]
      · rfl
    have hne : s.wakeState ≠ 0 := by
      rw [hwake]
      split <;> decide
    have htaken := (s.twwAnswered 1).wakeTake_takes (causes := 2) (by decide)
    have hquiet := htaken.quiet hne
    refine ⟨_, hexec.trans (if_pos hst), ?_, htaken.cause, htaken.sticky, ?_, .after hquiet hanswered⟩
    · exact congrArg Response.result (hquiet.2 .resp (by decide))
    · rw [if_neg (by simp [hst])]
      exact htaken.state.trans ((if_neg hne).trans hwake)
  · have hnoted := (s.twwAnswered 1).wakeNoted_keeps 2
    refine ⟨_, hexec.trans (if_neg hst), congrArg Response.result (hnoted.2 .resp (by decide)), ?_, State.get_put_self _ _ _ (by decide), ?_, .after hnoted hanswered⟩
    · exact (State.rd_wr_other _ _ _ _ (by decide)).trans (State.rd_wr_same ..)
    · rw [if_pos hst]
      exact hnoted.get_eq _ (by decide)

theorem status_read (a : Fin 128) : ∃ t, exec (.twwStatusRead a) s = .next t ∧
      t.resp.result = (if s.alive = true ∧ a.val = s.get F.PLINTH_TWW_ADDR_ADDR ∧ a ≠ 0 then 1 else 0) ∧
      (t.resp.result = 1 → t.resp.bytes.length = 2 ∧ t.resp.bytes[1]? = some (BitVec.ofNat 8 (min s.plinth.hstore 255))) ∧
      (t.resp.result = 0 → t.resp.bytes = []) ∧ Keeps [] [.resp] s t := by
  have hzero : (a.val != 0) = true ↔ a ≠ 0 := by
    rw [bne_iff_ne]
    exact not_congr Fin.val_eq_zero_iff
  by_cases hack : (s.alive && a.val == s.get F.PLINTH_TWW_ADDR_ADDR && a.val != 0) = true
  · have hexec : exec (.twwStatusRead a) s = .next { s with resp := { words := [], bytes := s.twwBytes, result := 1, fault := false } } := by
      change execTwwStatusRead a s = _
      unfold execTwwStatusRead
      dsimp only
      rw [hack]
      rfl
    have hcond : s.alive = true ∧ a.val = s.get F.PLINTH_TWW_ADDR_ADDR ∧ a ≠ 0 := by
      simp only [Bool.and_eq_true, beq_iff_eq] at hack
      exact ⟨hack.1.1, hack.1.2, hzero.1 hack.2⟩
    exact ⟨_, hexec, (if_pos hcond).symm, fun _ => ⟨rfl, rfl⟩, fun h => absurd h (show (1 : Nat) ≠ 0 by decide), .resp (.refl _ _ s) _ (by simp)⟩
  · have hfalse : (s.alive && a.val == s.get F.PLINTH_TWW_ADDR_ADDR && a.val != 0) = false := by simpa using hack
    have hexec : exec (.twwStatusRead a) s = .next { s with resp := { words := [], bytes := [], result := 0, fault := false } } := by
      change execTwwStatusRead a s = _
      unfold execTwwStatusRead
      dsimp only
      rw [hfalse]
      rfl
    have hcond : ¬ (s.alive = true ∧ a.val = s.get F.PLINTH_TWW_ADDR_ADDR ∧ a ≠ 0) := fun ⟨h1, h2, h3⟩ =>
      hack (by rw [h1, h2, ← h2, hzero.2 h3]; simp [h2])
    exact ⟨_, hexec, (if_neg hcond).symm, fun h => absurd h (show (0 : Nat) ≠ 1 by decide), fun _ => rfl, .resp (.refl _ _ s) _ (by simp)⟩

/-! ### Sleep and start requests (R557, R558) -/

theorem sleep_taken {v : Word} (hkey : bitsOf v.toNat 16 16 = 0x5E1A) (hst : s.plState = 1 ∨ s.plState = 3) (hstop : s.pwmAllStopped = true)
    (hmaint : s.rd R.DIAG_MAINT_RUN = 0#32) (hstage : ∀ g, s.sv.stage = some g → g.write = none) (h2 : s.conn ≠ 2) (h3 : s.conn ≠ 3) :
    exec (.plinthSleep .hpa v) s = .next s.enterSleep := by
  have hok : s.sleepOk .hpa v = true := by
    have hst' : (s.plState == 1 || s.plState == 3) = true := by simpa using hst
    rw [State.sleepOk, hst']
    cases hg : s.sv.stage with
    | none => simp [hkey, hstop, hmaint, h2, h3]
    | some g => simp [hkey, hstop, hmaint, h2, h3, hstage g hg]
  exact congrArg Host.Outcome.next (if_pos hok)

theorem sleep_refused {i : Initiator} {v : Word} (hno : i ≠ .hpa ∨ bitsOf v.toNat 16 16 ≠ 0x5E1A ∨ (s.plState ≠ 1 ∧ s.plState ≠ 3) ∨ s.pwmAllStopped = false ∨
    s.rd R.DIAG_MAINT_RUN ≠ 0#32 ∨ (∃ g, s.sv.stage = some g ∧ g.write ≠ none) ∨ s.conn = 2 ∨ s.conn = 3) :
    exec (.plinthSleep i v) s = .next (s.cfgReject .plinth) := by
  have hok : ¬ s.sleepOk i v = true := by
    rw [State.sleepOk]
    rcases hno with h | h | ⟨h1, h3⟩ | h | h | ⟨g, hg, hw⟩ | h | h
    · simp [h]
    · simp [h]
    · simp [h1, h3]
    · simp [h]
    · simp [h]
    · obtain ⟨w, hw'⟩ := Option.ne_none_iff_exists'.1 hw
      rw [hg]
      simp [hw']
    · simp [h]
    · simp [h]
  exact congrArg Host.Outcome.next (if_neg hok)

theorem sleep_sleeps (h : s.canonical = true) : SleptFrom s s.enterSleep ∧ s.enterSleep.pdOn 2 = false ∧ s.enterSleep.alive = s.alive ∧
    s.enterSleep.rd R.PLINTH_RTC_SEC = s.rd R.PLINTH_RTC_SEC ∧ (∀ k : Fin 8, s.enterSleep.rd (R.PLINTH_RETAIN k) = s.rd (R.PLINTH_RETAIN k)) ∧
    (∀ a, 0x10000000 ≤ a → a < 0x11000000 → s.enterSleep.rdB a = s.rdB a) := by
  have hretain (k : Fin 8) : 0x400D0000 ≤ R.PLINTH_RETAIN k ∧ R.PLINTH_RETAIN k < 0x400E0000 ∧ R.PLINTH_RETAIN k ≠ R.PLINTH_STATUS := by
    simp; omega
  exact ⟨(Drowsy.refl h).slept (.refl [] _ _) (by simp), (s.enterSleep_pdOn 2).trans (by simp), (s.enterSleep_pdOn 0).trans (by simp),
    State.enterSleep_plinth h (by decide) (by decide) (by decide), fun k => State.enterSleep_plinth h (hretain k).1 (hretain k).2.1 (hretain k).2.2,
    fun a hlo hhi => State.enterSleep_mram h hlo hhi⟩

end

/-- Settles O40: a cold start reads the reset table, a fall to SLEEP keeps PD0's registers, and a wake's decision follows the energy flags. -/
theorem plinthLifeClockAndWakes : Obligations.PlinthLifeClockAndWakes := by
  unfold Obligations.PlinthLifeClockAndWakes
  refine ⟨fun s => ⟨fun hdead h => coldStart hdead h, fun halive => if_pos halive, fun halive h => plinth_dies halive h, fun hdead => ?_, fun halive => rtcSecond_counts halive,
    fun i => cyc_reads i, fun hst hsession h => session_ends hst hsession h, fun hst => if_neg fun h => hst h.1⟩,
    fun s => ⟨fun halive hst hcauses => plinth_wakes halive hst hcauses, fun halive hst hnone => ?_, fun hno => ?_, fun a hack => frame_wakes a hack, fun a hack => ?_,
    fun a => status_read a, fun v hkey hst hstop hmaint hstage h2 h3 h => ⟨_, sleep_taken hkey hst hstop hmaint hstage h2 h3, sleep_sleeps h⟩,
    fun i v hno => ⟨_, sleep_refused hno, State.cfgReject_refused ..⟩, fun i hst hok => ?_, fun i hst hok => ?_, fun i hst => congrArg Host.Outcome.next (if_neg hst)⟩⟩
  · exact ⟨if_neg (by simp [hdead]), if_neg (by simp [hdead])⟩
  · have hexec : exec .plinthWake s = .next (s.wakesForgotten.wakeTake s.wakeCauses) := if_pos ⟨halive, hst⟩
    have hnothing : s.wakesForgotten.wakeTake s.wakeCauses = s.wakesForgotten := if_pos hnone
    exact ⟨_, hexec.trans (congrArg Host.Outcome.next hnothing), hst, rfl, rfl, .beside' (.refl _ _ s)⟩
  · refine if_neg fun h => ?_
    rcases hno with hdead | hst
    · exact absurd (hdead.symm.trans h.1) (by decide)
    · exact hst h.2
  · exact ⟨_, (exec_twwWakeFrame a hack).trans (if_pos rfl), rfl, s.twwAnswered_keeps 0⟩
  · have hexec : exec (.plinthStartRequest i) s = .next (((s.put F.PLINTH_STATUS_STATE 2).modPlinth fun p => { p with session := none }).plAdmit) :=
      congrArg Host.Outcome.next ((if_pos hst).trans (if_pos hok))
    exact ⟨_, hexec, (State.get_put_other _ _ _ _ (by decide)).trans (State.get_put_self _ _ _ (by decide)), rfl, .incSat' (.beside' (.put' (.refl _ _ s)))⟩
  · have hexec : exec (.plinthStartRequest i) s = .next s.plRefuse := congrArg Host.Outcome.next ((if_pos hst).trans (if_neg (by simp [hok])))
    exact ⟨_, hexec, (State.get_put_other _ _ _ _ (by decide)).trans (State.get_put_self _ _ _ (by decide)), .incSat' (.set1' (.refl _ _ s))⟩

end Sys2Proof.Machine
end

section
/-!
Proofs about what the switching off of a domain reaches (chapter 17).
The proofs are elaborated in turn: in one text, proofs that wait for each other would each hold a thread.
-/

set_option Elab.async false

namespace Sys2Proof.Machine

/-! # What the switching off of a domain reaches (R537, Table PWR-2) -/


theorem State.modSv_outside (s : State) (f : SvState → SvState) :
    KeepsOutside [] [.sv] s (s.modSv f) :=
  .beside' (.refl _ _ _)

theorem State.ivAbortIf_outside (s : State) (p : IvTrace → Bool) :
    KeepsOutside [zone R.DIAG_MAINT_REQ] [.pwm, .diag, .shadow, .mem] s (s.ivAbortIf p) :=
  .forEach' (.refl _ _ _) (fun x hx _ => have hx := List.mem_range.1 hx; .ite' (.after (State.ivAbort_outside _ _ (by omega)) (.refl _ _ _)) (.refl _ _ _))

theorem State.pairPowerDown_outside (s : State) (p : ℕ) (hp : p < 6) :
    KeepsOutside [zone (R.LP_CTRL 0), zone R.GRID_CFG, zone R.RELAY_CFG, zone (R.PWM_CTRL 0)] [.loop, .shadow, .raised, .draws, .pwm, .drive, .grid, .relay, .cour] s (s.pairPowerDown p) :=
  .comp (.ite' (.after (State.gridDisabled_outside ..) (.refl _ _ _)) (.refl _ _ _)) (.after (State.modLoop_outside ..) (.put' (.put' (.put' (.refl _ _ _)))))

theorem State.modArc_outside (s : State) (x : ℕ) (f : ArcIn → ArcIn) :
    KeepsOutside [] [.diag] s (s.modArc x f) :=
  .beside' (.refl _ _ _)

theorem State.arcStop_outside (s : State) (x : ℕ) (hx : x < 16) :
    KeepsOutside [zone R.DIAG_MAINT_REQ, zone R.SENSP_STATUS, zone R.SENSG_STATUS] [.sens, .diag] s (s.arcStop x) :=
  .ite' (.after (State.modArc_outside ..) (.beside' (.put' (.put' (.put' (.put' (.refl _ _ _) ⟨_, List.mem_cons_self, by simp [arcEnF]⟩) (by dsimp; split <;> simp <;> omega)))))) (.refl _ _ _)

theorem State.arcStopAll_outside (s : State) :
    KeepsOutside [zone R.DIAG_MAINT_REQ, zone R.SENSP_STATUS, zone R.SENSG_STATUS] [.sens, .diag] s s.arcStopAll :=
  .forEach' (.refl _ _ _) (fun x hx _ => have hx := List.mem_range.1 hx; .after (State.arcStop_outside _ _ (by omega)) (.refl _ _ _))

theorem State.meterStop_outside (s : State) :
    KeepsOutside [zone R.METER_CTRL, zone R.SENSP_STATUS, zone R.SENSG_STATUS] [.sens, .meter] s s.meterStop :=
  .ite' (.after (State.modMeter_outside ..) (.forEach' (.put' (.put' (.put' (.refl _ _ _)))) (fun x hx _ => have hx := mem_meterChs hx; .after (State.modCh_outside ..) (.put' (.refl _ _ _) (by dsimp; split <;> simp <;> omega))))) (.refl _ _ _)

theorem State.calClear_outside (s : State) (k : ℕ) (hk : k < 26) :
    KeepsOutside [zone R.SENSP_STATUS, zone R.SENSG_STATUS] [] s (s.calClear k) :=
  .put' (.put' (.put' (.refl _ _ _) (by unfold calValidF chBit; split <;> simp)) (by dsimp; split <;> simp <;> omega)) (by dsimp; split <;> simp <;> omega)

theorem State.sensPowerDown_outside (s : State) (grid : Bool) :
    KeepsOutside [zone R.SENSG_STATUS, zone R.SENSP_STATUS] [.sens] s (s.sensPowerDown grid) :=
  .forEach' (.forEach' (.after (State.modSide_outside ..) (.put' (.refl _ _ _) (by unfold calBusyF sideF; split <;> decide))) (fun x hx _ => have hx := List.mem_range.1 hx; .ite' (.beside' (.put' (.refl _ _ _))) (.refl _ _ _))) (fun x hx _ => have hx := sideChs_lt hx; .after (State.calClear_outside _ _ (by omega)) (.after (State.modCh_outside ..) (.put' (.refl _ _ _) (by dsimp; split <;> simp <;> omega))))

theorem State.stageClose_outside (s : State) :
    KeepsOutside [zone R.SYS_ID, zone R.SV_INFO] [.sv] s s.stageClose := by
  unfold State.stageClose
  split
  · exact (.refl _ _ _)
  · exact .after (State.modSv_outside ..) (.put' (.refl _ _ _) (by unfold busyF; split <;> decide))

theorem State.courSessionEnd_outside (s : State) :
    KeepsOutside [zone R.COURH_STATUS, zone R.SYS_ID, zone R.SV_INFO] [.cour, .sv] s s.courSessionEnd := by
  unfold State.courSessionEnd
  split
  · exact (.refl _ _ _)
  · exact .after (State.modCour_outside ..) (.put' (.after (State.stageClose_outside ..) (.refl _ _ _)))

theorem State.plcDrop_outside (s : State) :
    KeepsOutside [zone R.COURH_STATUS, zone R.SYS_ID, zone R.SV_INFO, zone R.PLC_STATUS] [.cour, .sv] s s.plcDrop := by
  unfold State.plcDrop
  refine .after (State.modCour_outside ..) (.put' ?_)
  split
  · exact .ite' (.after (State.courSessionEnd_outside ..) (.refl _ _ _)) (.refl _ _ _)
  · exact (.refl _ _ _)

theorem State.modPlinth_outside (s : State) (f : PlinthState → PlinthState) :
    KeepsOutside [] [.plinth] s (s.modPlinth f) :=
  .beside' (.refl _ _ _)

theorem State.padHold_outside (s : State) (d : ℕ) :
    KeepsOutside [zone R.SYS_ID] [.plinth] s (s.padHold d) :=
  .ite' (.refl _ _ _) (.put' (hr := ⟨_, List.mem_singleton_self _, by simp [padHoldF]⟩) (.ite' (.after (State.modPlinth_outside ..) (.refl _ _ _)) (.ite' (.after (State.modPlinth_outside ..) (.refl _ _ _)) (.refl _ _ _))))

theorem State.dvfsDrop_outside (s : State) (d : ℕ) :
    KeepsOutside [zone R.SYS_ID] [.plinth] s (s.dvfsDrop d) :=
  .after (State.modPlinth_outside ..) (.put' (.refl _ _ _) ⟨_, List.mem_singleton_self _, by simp [stepF]⟩)

theorem State.dvfsNext_outside (s : State) (d : ℕ) :
    KeepsOutside [zone R.SYS_ID] [.plinth] s (s.dvfsNext d) :=
  .ite' (.refl _ _ _) (.after (State.modPlinth_outside ..) (.put' (.ite' (.put' (.refl _ _ _) ⟨_, List.mem_singleton_self _, by simp [curOpF]⟩) (.refl _ _ _)) ⟨_, List.mem_singleton_self _, by simp [stepF]⟩))

theorem State.pd2Low_outside (s : State) :
    KeepsOutside [zone R.SYS_ID] [.plinth] s s.pd2Low :=
  .ite' (.after (State.dvfsNext_outside ..) (.after (State.dvfsDrop_outside ..) (.put' (.refl _ _ _)))) (.after (State.dvfsNext_outside ..) (.put' (.refl _ _ _)))

/-! ### What PD3 to PD6 and PD9 leave in the device's own block and in PD0 -/

/-- The zones and parts that the end of such a domain's work reaches. -/
def idleZones : List (Nat × Nat) := [zone R.DIAG_MAINT_REQ, zone (R.LP_CTRL 0), zone R.GRID_CFG, zone R.RELAY_CFG, zone (R.PWM_CTRL 0), zone R.METER_CTRL,
  zone R.SENSP_STATUS, zone R.SENSG_STATUS, zone R.DRV_STATUS]

def idleParts : List Part := [.hok, .pwm, .diag, .shadow, .mem, .loop, .raised, .draws, .drive, .grid, .relay, .cour, .sens, .meter]

theorem State.compactDrop_outside (s : State) : KeepsOutside [zone R.DIAG_MAINT_REQ] [] s (s.maintDrop Act.vaultCompact) :=
  .comp (.ite' (State.maintEnd_outside _ _ _ (by decide)) (.refl _ _ _)) (State.compactAbort_outside _)

/-- The work of a domain that a fall to STORE switches off has ended. -/
theorem State.domainIdle_store (s : State) {d : Nat} (hd : d < 12) (hstore : pdStore d = false) : KeepsOutside idleZones idleParts s (s.domainIdle d) := by
  have hcases : d = 3 ∨ d = 4 ∨ d = 5 ∨ d = 6 ∨ d = 9 := by
    simp only [pdStore, Bool.or_eq_false_iff, decide_eq_false_iff_not, beq_eq_false_iff_ne] at hstore
    omega
  have hloops (t : State) (d : Nat) : KeepsOutside idleZones idleParts t
      ((t.ivAbortIf fun x => pairPd x.pair == d).forEach ((List.range 6).filter fun p => pairPd p == d) State.pairPowerDown) :=
    .forEach' (.after (State.ivAbortIf_outside ..) (.refl _ _ _) (by simp [idleZones]) (by simp [idleParts])) fun p hp _ =>
      .after (State.pairPowerDown_outside _ _ (List.mem_range.1 (List.mem_of_mem_filter hp))) (.refl _ _ _) (by simp [idleZones]) (by simp [idleParts])
  rcases hcases with rfl | rfl | rfl | rfl | rfl
  · exact .after (State.modHok_outside s 1 _) (.refl _ _ s) (by simp) (by simp [idleParts])
  · exact hloops s 4
  · exact hloops s 5
  · exact .after (State.compactDrop_outside _) (.after (State.arcStopAll_outside _) (.after (State.meterStop_outside _) (.refl _ _ s) (by simp [idleZones]) (by simp [idleParts]))
      (by simp [idleZones]) (by simp [idleParts])) (by simp [idleZones]) (by simp)
  · exact .forEach' (.after (State.ivAbortIf_outside s fun _ => true) (.refl _ _ s) (by simp [idleZones]) (by simp [idleParts])) fun h hh _ =>
      .after (State.hbOff_outside _ _ (List.mem_range.1 hh)) (.refl _ _ _) (by simp [idleZones]) (by simp [idleParts])

end Sys2Proof.Machine
end

section
/-!
Proofs about energy and supplies (chapter 17).
The proofs are elaborated in turn: in one text, proofs that wait for each other would each hold a thread.
-/

set_option Elab.async false

namespace Sys2Proof.Machine

/-! # O41: energy and supplies (chapter 17) -/

theorem State.pdPursue_keeps (s : State) (d : ℕ) :
    Keeps [pdMoveF d] [] s (s.pdPursue d) :=
  .ite' (.put' (.refl _ _ _)) (.refl _ _ _)

theorem State.vdrvSeen_keeps (s : State) (ok : Bool) :
    Keeps [F.SYS_RAILS_VDRV_OK, F.DRV_STATUS_VDRV_OK, pdMoveF 9] [.drive] s (s.vdrvSeen ok) :=
  .ite' (.refl _ _ _) (.comp (.ite' (.after (State.pdPursue_keeps ..) (.refl _ _ _)) (.refl _ _ _)) (.ite' (.beside' (.put' (.put' (.refl _ _ _)))) (.put' (.refl _ _ _))))


/-! ### An abort of a transmission (R552, R553): what it leaves for the fall to SLEEP -/

/-- The Plinth's registers, the write of MRAM and the parts that a sleeping state keeps stand. -/
structure Sheltered (s t : State) : Prop where
  regs : ∀ a, 0x400D0000 ≤ a → a < 0x400E0000 → t.rd a = s.rd a
  program : t.maintRuns Act.mramProgram = s.maintRuns Act.mramProgram
  parts : ∀ p ∈ [Part.mem, .resp, .pins, .pending], p.same s t

section
variable {s t u : State}

theorem Sheltered.refl (s : State) : Sheltered s s := ⟨fun _ _ _ => rfl, rfl, fun p _ => (Keeps.refl [] [] s).2 p (by simp)⟩

theorem Sheltered.trans (h : Sheltered s t) (k : Sheltered t u) : Sheltered s u :=
  ⟨fun a hlo hhi => (k.regs a hlo hhi).trans (h.regs a hlo hhi), k.program.trans h.program, fun p hp => p.same_trans _ _ _ (h.parts p hp) (k.parts p hp)⟩

theorem Sheltered.ite {p : Prop} [Decidable p] (ht : Sheltered s t) (hu : Sheltered s u) : Sheltered s (if p then t else u) := by
  split
  · exact ht
  · exact hu

theorem Sheltered.forEach {ks : List Nat} {g : State → Nat → State} (h : ∀ k ∈ ks, ∀ t, Sheltered t (g t k)) (s : State) : Sheltered s (s.forEach ks g) :=
  State.forEach_inv (P := fun t => Sheltered s t) (fun k hk t ht => ht.trans (h k hk t)) s (.refl s)

/-- A frame that reaches neither PD0 nor the activities' register. -/
theorem Sheltered.outside {rs : List (Nat × Nat)} {ps : List Part} (h : KeepsOutside rs ps s t)
    (hr : ∀ r ∈ rs, (r.2 ≤ 0x400D0000 ∨ 0x400E0000 ≤ r.1) ∧ (r.2 ≤ R.DIAG_MAINT_RUN ∨ R.DIAG_MAINT_RUN < r.1) := by decide)
    (hp : ∀ p ∈ [Part.mem, .resp, .pins, .pending], p ∉ ps := by decide) : Sheltered s t := by
  refine ⟨fun a hlo hhi => h.1 a fun r hmem => ?_, ?_, fun p hmem => h.2 p (hp p hmem)⟩
  · have := (hr r hmem).1
    omega
  · rw [State.maintRuns_get, State.maintRuns_get, h.get_eq]
    intro r hmem
    have := (hr r hmem).2
    show R.DIAG_MAINT_RUN < r.1 ∨ r.2 ≤ R.DIAG_MAINT_RUN
    omega

/-- A frame of fields that are neither in PD0 nor the bit of the write of MRAM. -/
theorem Sheltered.keeps {fs : List Fld} {ps : List Part} (h : Keeps fs ps s t)
    (hr : ∀ f ∈ fs, (f.addr < 0x400D0000 ∨ 0x400E0000 ≤ f.addr) ∧ f.apart ⟨R.DIAG_MAINT_RUN, Act.mramProgram, 1⟩ = true)
    (hp : ∀ p ∈ [Part.mem, .resp, .pins, .pending], p ∉ ps := by decide) : Sheltered s t := by
  refine ⟨fun a hlo hhi => h.rd_eq a fun f hmem => Fld.apart_of_addr fun he : f.addr = a => ?_, ?_, fun p hmem => h.2 p (hp p hmem)⟩
  · have := (hr f hmem).1
    omega
  · rw [State.maintRuns_get, State.maintRuns_get, h.get_eq _ fun f hmem => (hr f hmem).2]

/-- The end of another activity. -/
theorem State.maintEnd_sheltered (s : State) {c : Nat} (hc : c ∈ [2, 3, 9]) (r : MaintResult) : Sheltered s (s.maintEnd c r) := by
  refine .keeps (s.maintEnd_frame c r) ?_
  simp only [List.mem_cons, List.not_mem_nil, or_false] at hc
  rcases hc with rfl | rfl | rfl <;> decide

/-- A comparator, whichever the queue names, waits anew. -/
theorem State.wcPend_sheltered (s : State) (c : Nat) : Sheltered s (s.wcPend c) := by
  obtain ⟨u, hu, -, -, hkeeps⟩ := s.wcPend_frame c
  have hfirst : Sheltered s u := .keeps hkeeps fun f hf => by
    have haddr : f.addr = R.WC_STATUS c := by
      simp only [List.mem_cons, List.not_mem_nil, or_false] at hf
      rcases hf with rfl | rfl | rfl | rfl <;> rfl
    have hoff : (R.WC_STATUS c < 0x400D0000 ∨ 0x400E0000 ≤ R.WC_STATUS c) ∧ R.WC_STATUS c ≠ R.DIAG_MAINT_RUN := by
      simp only [R.WC_STATUS, R.DIAG_MAINT_RUN]
      split <;> simp <;> omega
    exact ⟨haddr ▸ hoff.1, Fld.apart_of_addr (haddr ▸ hoff.2)⟩
  rw [hu]
  exact hfirst.trans (.outside (State.wcHold_outside ..))

theorem State.wcTestAbort_sheltered (s : State) : Sheltered s s.wcTestAbort := by
  unfold State.wcTestAbort
  split
  · exact .refl s
  next c rest hq =>
    have hbusy : KeepsOutside [zone R.WCMPG_STATUS, zone R.WCMPP_STATUS] [.wcmp] (s.wcPend c)
        { ((s.wcPend c).wcTestBusy []) with wcmp := { (s.wcPend c).wcmp with queue := [] } } :=
      .beside' (.after (State.wcTestBusy_outside ..) (.refl _ _ _))
    exact (s.wcPend_sheltered c).trans (.outside hbusy)

/-- A calibration's stages end. -/
theorem State.calAbort_sheltered (s : State) : Sheltered s (s.calAbort true) := by
  have hstages : KeepsOutside [zone R.SENSG_STATUS] [.sens] s ((s.put (calBusyF true) 0).forEach (sideChs true) fun s k =>
      s.modCh k fun c => { c with broken := c.broken.map fun b => (b.1, min b.2 s.epoch) }) :=
    .forEach' (.put' (.refl _ _ s)) fun _ _ _ => .after (State.modCh_outside ..) (.refl _ _ _)
  exact .ite (.trans (.outside hstages) (State.maintEnd_sheltered _ (by decide) _)) (.refl s)

theorem State.maintAbort_sheltered (s : State) {c : Nat} (hc : c ∈ [2, 3, 9]) : Sheltered s (s.maintAbort c) := by
  have hoff : KeepsOutside [zone R.GRID_CFG, zone R.RELAY_CFG] [.relay] s (s.relaysOff.put F.RELAY_STATUS_CHECK_STEP 0) :=
    .put' (.after (State.relaysOff_outside _) (.refl _ _ s))
  unfold State.maintAbort
  refine .ite (.refl s) ?_
  split
  case h_2 => exact s.calAbort_sheltered
  case h_3 => exact s.wcTestAbort_sheltered.trans (State.maintEnd_sheltered _ hc _)
  case h_8 => exact Sheltered.trans (.outside hoff) (State.maintEnd_sheltered _ hc _)
  case h_10 => exact State.maintEnd_sheltered _ hc _
  all_goals simp at hc

theorem State.maintDrop_sheltered (s : State) {c : Nat} (hc : c ∈ [2, 3, 9]) : Sheltered s (s.maintDrop c) :=
  (s.maintAbort_sheltered hc).trans (.ite (State.maintEnd_sheltered _ hc _) (.refl _))

/-- The grid side's activities are dropped. -/
def State.gridWorked (s : State) : State := s.forEach ([2, 9] ++ s.testDrop true) State.maintDrop

/-- The grid side's sensing, lanes and relays, and the powerline. -/
def State.gridQuiet (s : State) : State :=
  ((((s.sensPowerDown true).forEach (List.range 6) fun s l => s.put (F.LANE_STAT_STATE l) (if s.unitFenced (l + 8) then 3 else 0)).relaysOff).put
    F.EPOCH_STATUS_BAR_CAL_DONE 0).plcDrop

/-- A connected device trips. -/
def State.gridTripped (s : State) : State := if s.conn = 2 ∨ s.conn = 3 then s.gridTrip Cause.pairOff 0 0 else s

/-- The grid connection is off, and no timer runs. -/
def State.gridUnready (s : State) : State :=
  (if s.conn = 5 then s else (s.setConn 0).put F.GRID_RT_STATUS_RC_READY 0).modGrid fun g => { g with timer := none }

theorem State.domainIdle_grid (s : State) : s.domainIdle 10 = s.gridWorked.gridQuiet.gridTripped.gridUnready := rfl

theorem State.gridWorked_sheltered (s : State) : Sheltered s s.gridWorked := by
  refine .forEach (fun c hc t => t.maintDrop_sheltered ?_) s
  unfold State.testDrop at hc
  split at hc
  · simp at hc ⊢; omega
  · simp at hc ⊢; omega

/-- The zones that the end of the grid side's work reaches beside its activities. -/
def gridZones : List (Nat × Nat) := [zone R.SENSG_STATUS, zone R.SENSP_STATUS, zone R.LANE_STATUS, zone R.GRID_CFG, zone R.RELAY_CFG, zone R.EPOCH_CTRL,
  zone R.COURH_STATUS, zone R.SYS_ID, zone R.SV_INFO, zone R.PLC_STATUS]

theorem State.gridQuiet_outside (s : State) : KeepsOutside gridZones [.sens, .relay, .cour, .sv] s s.gridQuiet :=
  .after (State.plcDrop_outside _) (.put' (.after (State.relaysOff_outside _) (.forEach' (.after (State.sensPowerDown_outside s true) (.refl _ _ s) (by simp [gridZones]) (by simp))
    fun l hl _ => .put' (.refl _ _ _) ⟨zone R.LANE_STATUS, by simp [gridZones], by have := List.mem_range.1 hl; simp; omega⟩) (by simp [gridZones]) (by simp))
    ⟨zone R.EPOCH_CTRL, by simp [gridZones], by decide⟩) (by simp [gridZones]) (by simp)

theorem State.gridTripped_outside (s : State) : KeepsOutside [zone R.GRID_CFG, zone R.RELAY_CFG, zone (R.PWM_CTRL 0)]
    [.shadow, .raised, .draws, .pwm, .drive, .grid, .relay, .cour] s s.gridTripped := .ite' (State.gridTrip_outside ..) (.refl _ _ s)

theorem State.gridUnready_outside (s : State) : KeepsOutside [zone R.GRID_CFG] [.grid] s s.gridUnready :=
  .beside' (.ite' (.refl _ _ s) (.put' (.after (State.setConn_outside ..) (.refl _ _ s))))

/-- The work of PD10 has ended. -/
theorem State.domainIdle_grid_sheltered (s : State) : Sheltered s (s.domainIdle 10) := by
  rw [s.domainIdle_grid]
  exact s.gridWorked_sheltered.trans (.trans (.outside (State.gridQuiet_outside _)) (.trans (.outside (State.gridTripped_outside _))
    (.outside (State.gridUnready_outside _))))

/-- The work of PD11 has ended. -/
theorem State.domainIdle_courier (s : State) :
    KeepsOutside [zone R.COURH_STATUS, zone R.SYS_ID, zone R.SV_INFO, zone R.PLC_STATUS] [.cour, .sv, .plinth] s (s.domainIdle 11) :=
  .after (State.modCour_outside ..) (.after (State.plcDrop_outside _) (.after (State.courSessionEnd_outside _) (.after (State.padHold_outside s 11) (.refl _ _ s))))

theorem State.domainOff_sheltered (s : State) {d : Nat} (hd : d = 10 ∨ d = 11) : Sheltered s (s.domainOff d) := by
  have hidle : Sheltered s (s.domainIdle d) := by
    rcases hd with rfl | rfl
    · exact s.domainIdle_grid_sheltered
    · exact .outside s.domainIdle_courier
  have hbits (t : State) : KeepsOutside [zone R.SYS_ID] [.pwm, .diag] t ((t.put (pdOnF d) 0).put (pdMoveF d) 0).noteHolds :=
    .after (State.noteHolds_outside _) (.put' (.put' (.refl _ _ t) ⟨_, List.mem_singleton_self _, by simp [pdOnF]⟩) ⟨_, List.mem_singleton_self _, by simp [pdMoveF]⟩)
  have hmove : KeepsOutside [zone R.SYS_ID] [] s (s.put (pdMoveF d) 0) := .put' (.refl _ _ s) ⟨_, List.mem_singleton_self _, by simp [pdMoveF]⟩
  have hoff : s.domainOff d = if s.pdOn d then (((s.domainIdle d).put (pdOnF d) 0).put (pdMoveF d) 0).noteHolds else s.put (pdMoveF d) 0 := by
    have hdvfs : ¬ (2 ≤ d ∧ d ≤ 5) := by omega
    simp only [State.domainOff, hdvfs, if_false]
  rw [hoff]
  exact .ite (hidle.trans (.outside (hbits _))) (.outside hmove)

theorem State.xmitAbort_sheltered (s : State) : Sheltered s s.xmitAbort := by
  have hctrl (t : State) (d : Nat) : Sheltered t (t.put (pdCtrlF d) 0) :=
    .outside (rs := [zone R.SYS_ID]) (ps := []) (.put' (.refl _ _ t) ⟨_, List.mem_singleton_self _, by simp [pdCtrlF]⟩)
  have hplc : KeepsOutside [zone R.PLC_STATUS] [.cour] s s.plcAbort :=
    .after (State.modCour_outside ..) (.ite' (.set1' (.refl _ _ s)) (.refl _ _ s))
  exact Sheltered.trans (.outside hplc) ((hctrl _ 10).trans ((State.domainOff_sheltered _ (.inl rfl)).trans ((hctrl _ 11).trans (State.domainOff_sheltered _ (.inr rfl)))))

end

/-! ### The energy flags (R551, R559) -/

/-- The first of the greatest inputs. -/
theorem foldl_max (v : List Rat) : ∀ (l : List Nat) (m : Nat),
    v.getD m 0 ≤ v.getD (l.foldl (fun m k => if v.getD m 0 < v.getD k 0 then k else m) m) 0 ∧
    (∀ k ∈ l, v.getD k 0 ≤ v.getD (l.foldl (fun m k => if v.getD m 0 < v.getD k 0 then k else m) m) 0) ∧
    (l.foldl (fun m k => if v.getD m 0 < v.getD k 0 then k else m) m = m ∨ l.foldl (fun m k => if v.getD m 0 < v.getD k 0 then k else m) m ∈ l)
  | [], m => ⟨le_refl _, by simp, .inl rfl⟩
  | k :: l, m => by
    obtain ⟨hm, hl, hin⟩ := foldl_max v l (if v.getD m 0 < v.getD k 0 then k else m)
    rw [List.foldl_cons]
    refine ⟨le_trans ?_ hm, fun j hj => ?_, ?_⟩
    · split
      next hlt => exact le_of_lt hlt
      next => exact le_refl _
    · rcases List.mem_cons.1 hj with rfl | hj
      · refine le_trans ?_ hm
        split
        next => exact le_refl _
        next hge => exact le_of_not_gt hge
      · exact hl j hj
    · rcases hin with hin | hin
      · rw [hin]
        split
        · exact .inr List.mem_cons_self
        · exact .inl rfl
      · exact .inr (List.mem_cons_of_mem _ hin)

theorem argMax4_max (v : List Rat) {k : Nat} (hk : k < 4) : v.getD k 0 ≤ v.getD (argMax4 v) 0 := (foldl_max v (List.range 4) 0).2.1 k (List.mem_range.2 hk)

theorem argMax4_lt (v : List Rat) : argMax4 v < 4 := by
  rcases (foldl_max v (List.range 4) 0).2.2 with h | h
  · exact lt_of_eq_of_lt h (by decide)
  · exact List.mem_range.1 h

section
variable {s : State}

/-- A flag of Table PWR-8, with its hysteresis. -/
theorem State.classFlag_get (s : State) (f : Fld) (th h : Rat) (hf : f.lo + f.len ≤ 32 ∧ f.len = 1) :
    (s.classFlag f th h).get f = if th ≤ h then 1 else if h < th - 15 / 100 then 0 else s.get f := by
  unfold State.classFlag
  split_ifs
  · exact (State.get_put_same s f 1 hf.1).trans (by rw [hf.2]; rfl)
  · exact (State.get_put_same s f 0 hf.1).trans (Nat.zero_mod _)
  · rfl

theorem State.classFlag_keeps (s : State) (f : Fld) (th h : Rat) : Keeps [f] [] s (s.classFlag f th h) :=
  .ite' (.put' (.refl _ _ s)) (.ite' (.put' (.refl _ _ s)) (.refl _ _ s))

/-- The three classes' flags. -/
def State.classed (s : State) (h : Rat) : State :=
  ((s.classFlag F.PLINTH_STATUS_MEAS_OK 3 h).classFlag F.PLINTH_STATUS_START_OK (42 / 10) h).classFlag F.PLINTH_STATUS_XMIT_OK (48 / 10) h

/-- BELOW_ABORT. -/
def State.belowSeen (s : State) (h : Rat) : State :=
  if h < 26 / 10 then s.put F.PLINTH_STATUS_BELOW_ABORT 1 else if 275 / 100 < h then s.put F.PLINTH_STATUS_BELOW_ABORT 0 else s

/-- The inputs. -/
def State.inputsSeen (s : State) (vin : List Rat) : State :=
  (s.put F.PLINTH_STATUS_VIN_SEL (argMax4 vin)).put F.PLINTH_STATUS_VIN_OK (b2n (decide (85 / 10 ≤ vin.getD (argMax4 vin) 0)))

/-- Harvesting, charging and the level, as the flags before left the dawn. -/
def State.levelSeen (s : State) (h : Rat) (harvesting meas : Bool) : State :=
  let u := (s.put F.PLINTH_STATUS_HARVESTING (b2n harvesting)).put F.PLINTH_STATUS_CHARGING (b2n (s.flag F.SYS_RAILS_VDRV_OK && decide (h < 5)))
  u.modPlinth fun p => { p with hstore := (h * 40).floor.toNat, dawn := p.dawn || (u.plState == 0 && !meas && u.flag F.PLINTH_STATUS_MEAS_OK) }

theorem State.energyFlags_eq (s : State) (h : Rat) (vin : List Rat) (harvesting : Bool) :
    s.energyFlags h vin harvesting = (((s.classed h).belowSeen h).inputsSeen vin).levelSeen h harvesting (s.flag F.PLINTH_STATUS_MEAS_OK) := rfl

theorem State.classed_keeps (s : State) (h : Rat) : Keeps [F.PLINTH_STATUS_MEAS_OK, F.PLINTH_STATUS_START_OK, F.PLINTH_STATUS_XMIT_OK] [] s (s.classed h) :=
  .after (State.classFlag_keeps ..) (.after (State.classFlag_keeps ..) (.after (State.classFlag_keeps ..) (.refl _ _ s)))

theorem State.belowSeen_keeps (s : State) (h : Rat) : Keeps [F.PLINTH_STATUS_BELOW_ABORT] [] s (s.belowSeen h) :=
  .ite' (.put' (.refl _ _ s)) (.ite' (.put' (.refl _ _ s)) (.refl _ _ s))

theorem State.inputsSeen_keeps (s : State) (vin : List Rat) : Keeps [F.PLINTH_STATUS_VIN_SEL, F.PLINTH_STATUS_VIN_OK] [] s (s.inputsSeen vin) :=
  .put' (.put' (.refl _ _ s))

theorem State.levelSeen_keeps (s : State) (h : Rat) (harvesting meas : Bool) :
    Keeps [F.PLINTH_STATUS_HARVESTING, F.PLINTH_STATUS_CHARGING] [.plinth] s (s.levelSeen h harvesting meas) := .beside' (.put' (.put' (.refl _ _ s)))

/-- The flags that an update of the energy gives. -/
structure EnergySeen (h : Rat) (vin : List Rat) (s t : State) : Prop where
  classes : ∀ x ∈ [(F.PLINTH_STATUS_MEAS_OK, (3 : Rat)), (F.PLINTH_STATUS_START_OK, 42 / 10), (F.PLINTH_STATUS_XMIT_OK, 48 / 10)],
    t.get x.1 = if x.2 ≤ h then 1 else if h < x.2 - 15 / 100 then 0 else s.get x.1
  below : t.get F.PLINTH_STATUS_BELOW_ABORT = if h < 26 / 10 then 1 else if 275 / 100 < h then 0 else s.get F.PLINTH_STATUS_BELOW_ABORT
  input : t.get F.PLINTH_STATUS_VIN_SEL = argMax4 vin
  inputOk : t.get F.PLINTH_STATUS_VIN_OK = if 85 / 10 ≤ vin.getD (argMax4 vin) 0 then 1 else 0
  state : t.plState = s.plState
  frame : Keeps [whole R.PLINTH_STATUS] [.plinth] s t

theorem State.energyFlags_seen (s : State) (h : Rat) (vin : List Rat) (harvesting : Bool) : EnergySeen h vin s (s.energyFlags h vin harvesting) := by
  have hclassed := s.classed_keeps h
  have hbelow := (s.classed h).belowSeen_keeps h
  have hinputs := ((s.classed h).belowSeen h).inputsSeen_keeps vin
  have hlevel := (((s.classed h).belowSeen h).inputsSeen vin).levelSeen_keeps h harvesting (s.flag F.PLINTH_STATUS_MEAS_OK)
  have hafter (g : Fld) (hg : ∀ f ∈ [F.PLINTH_STATUS_BELOW_ABORT, F.PLINTH_STATUS_VIN_SEL, F.PLINTH_STATUS_VIN_OK, F.PLINTH_STATUS_HARVESTING, F.PLINTH_STATUS_CHARGING],
      f.apart g = true) : (s.energyFlags h vin harvesting).get g = (s.classed h).get g := by
    have hall : Keeps [F.PLINTH_STATUS_BELOW_ABORT, F.PLINTH_STATUS_VIN_SEL, F.PLINTH_STATUS_VIN_OK, F.PLINTH_STATUS_HARVESTING, F.PLINTH_STATUS_CHARGING] [.plinth]
        (s.classed h) (s.energyFlags h vin harvesting) := .after hlevel (.after hinputs (.after hbelow (.refl _ _ _)))
    exact hall.get_eq g hg
  refine ⟨?_, ?_, ?_, ?_, ?_, ?_⟩
  · simp only [List.forall_mem_cons, List.not_mem_nil, IsEmpty.forall_iff, implies_true, and_true]
    have hlast (f : Fld) (hf : ∀ g ∈ [F.PLINTH_STATUS_START_OK, F.PLINTH_STATUS_XMIT_OK], g.apart f = true) :
        (s.classed h).get f = (s.classFlag F.PLINTH_STATUS_MEAS_OK 3 h).get f := by
      have htwo : Keeps [F.PLINTH_STATUS_START_OK, F.PLINTH_STATUS_XMIT_OK] [] (s.classFlag F.PLINTH_STATUS_MEAS_OK 3 h) (s.classed h) :=
        .after (State.classFlag_keeps ..) (.after (State.classFlag_keeps ..) (.refl _ _ _))
      exact htwo.get_eq f hf
    refine ⟨?_, ?_, ?_⟩
    · exact (hafter _ (by decide)).trans ((hlast _ (by decide)).trans (State.classFlag_get _ _ _ _ (by decide)))
    · refine (hafter _ (by decide)).trans (((State.classFlag_keeps ..).get_eq _ (by decide)).trans ?_)
      rw [State.classFlag_get _ _ _ _ (by decide), (State.classFlag_keeps ..).get_eq _ (by decide)]
    · refine (hafter _ (by decide)).trans ?_
      rw [State.classed, State.classFlag_get _ _ _ _ (by decide), (State.classFlag_keeps ..).get_eq _ (by decide), (State.classFlag_keeps ..).get_eq _ (by decide)]
  · have hget : (s.energyFlags h vin harvesting).get F.PLINTH_STATUS_BELOW_ABORT = ((s.classed h).belowSeen h).get F.PLINTH_STATUS_BELOW_ABORT :=
      (hlevel.get_eq _ (by decide)).trans (hinputs.get_eq _ (by decide))
    rw [hget, State.belowSeen]
    split_ifs
    · exact State.get_put_self _ _ _ (by decide)
    · exact State.get_put_self _ _ _ (by decide)
    · exact hclassed.get_eq _ (by decide)
  · refine (hlevel.get_eq _ (by decide)).trans ((State.get_put_other _ _ _ _ (by decide)).trans ((State.get_put_same _ _ _ (by decide)).trans ?_))
    exact Nat.mod_eq_of_lt (argMax4_lt vin)
  · refine (hlevel.get_eq _ (by decide)).trans ((State.get_put_same _ _ _ (by decide)).trans ?_)
    by_cases hok : 85 / 10 ≤ vin.getD (argMax4 vin) 0
    · rw [if_pos hok, decide_eq_true hok]
      rfl
    · rw [if_neg hok, decide_eq_false hok]
      rfl
  · exact (hafter _ (by decide)).trans (hclassed.get_eq _ (by decide))
  · have hall : Keeps [F.PLINTH_STATUS_MEAS_OK, F.PLINTH_STATUS_START_OK, F.PLINTH_STATUS_XMIT_OK, F.PLINTH_STATUS_BELOW_ABORT, F.PLINTH_STATUS_VIN_SEL,
        F.PLINTH_STATUS_VIN_OK, F.PLINTH_STATUS_HARVESTING, F.PLINTH_STATUS_CHARGING] [.plinth] s (s.energyFlags h vin harvesting) :=
      .after hlevel (.after hinputs (.after hbelow (.after hclassed (.refl _ _ s))))
    exact hall.coarsen (by simp [Fld.inside, whole])

/-- VDRV as found: its flag, and what follows it in the half-bridges and in PD9. -/
theorem State.vdrvSeen_frame (s : State) (ok : Bool) : Keeps [F.SYS_RAILS_VDRV_OK, F.DRV_STATUS_VDRV_OK, pdMoveF 9] [.drive] s (s.vdrvSeen ok) := (.after (State.vdrvSeen_keeps ..) (.refl _ _ _))

theorem State.vdrvSeen_flag {ok : Bool} (hon : s.pdOn 1 = true) : (s.vdrvSeen ok).flag F.SYS_RAILS_VDRV_OK = ok := by
  by_cases hsame : ok = s.flag F.SYS_RAILS_VDRV_OK
  · have hseen : s.vdrvSeen ok = s := if_pos (by simp [hsame])
    rw [hseen, hsame]
  · have hput : Keeps [F.DRV_STATUS_VDRV_OK, pdMoveF 9] [.drive] (s.put F.SYS_RAILS_VDRV_OK (b2n ok)) (s.vdrvSeen ok) := by
      unfold State.vdrvSeen
      rw [if_neg (by simp [hsame, hon])]
      dsimp only
      refine .comp (.ite' (.after (State.pdPursue_keeps ..) (.refl _ _ _)) (.refl _ _ _)) (.ite' (.beside' (.put' (.refl _ _ _))) (.refl _ _ _))
    rw [State.flag, hput.get_eq _ (by decide), State.get_put_same _ _ _ (by decide)]
    cases ok <;> rfl

/-- The state after the flags of an update. -/
def State.energySeen (s : State) (h : Rat) (vin : List Rat) (harvesting vdrv : Bool) : State := (s.vdrvSeen vdrv).energyFlags h vin harvesting

theorem State.energySeen_keeps (s : State) (h : Rat) (vin : List Rat) (harvesting vdrv : Bool) :
    Keeps [whole R.PLINTH_STATUS, F.SYS_RAILS_VDRV_OK, F.DRV_STATUS_VDRV_OK, pdMoveF 9] [.plinth, .drive] s (s.energySeen h vin harvesting vdrv) :=
  .after ((s.vdrvSeen vdrv).energyFlags_seen h vin harvesting).frame (.after (s.vdrvSeen_frame vdrv) (.refl _ _ s))

theorem exec_energyFlagUpdate (h v0 v1 v2 v3 : Rat) (c vdrv : Bool) (halive : s.alive = true) :
    exec (.energyFlagUpdate h v0 v1 v2 v3 c vdrv) s =
      .next (if !s.flag F.PLINTH_STATUS_BELOW_ABORT && (s.energySeen h [v0, v1, v2, v3] c vdrv).flag F.PLINTH_STATUS_BELOW_ABORT
        then (s.energySeen h [v0, v1, v2, v3] c vdrv).energyAbort else s.energySeen h [v0, v1, v2, v3] c vdrv) := if_pos halive

/-- The flags of an update, from the state before it. -/
theorem State.energySeen_seen (s : State) (h : Rat) (vin : List Rat) (harvesting vdrv : Bool) : EnergySeen h vin (s.vdrvSeen vdrv) (s.energySeen h vin harvesting vdrv) :=
  (s.vdrvSeen vdrv).energyFlags_seen h vin harvesting

/-- In SLEEP and in RUN nothing is aborted. -/
theorem State.energyAbort_none (h : s.plState ≠ 1 ∧ s.plState ≠ 2) : s.energyAbort = s := by
  simp only [State.energyAbort, h.1, h.2, or_self, false_and, if_false]

theorem energy_seen (h v0 v1 v2 v3 : Rat) (c vdrv : Bool) (halive : s.alive = true)
    (hno : s.flag F.PLINTH_STATUS_BELOW_ABORT = true ∨ 26 / 10 ≤ h ∨ s.plState = 0 ∨ s.plState = 3) :
    ∃ t, exec (.energyFlagUpdate h v0 v1 v2 v3 c vdrv) s = .next t ∧
      (∀ x ∈ [(F.PLINTH_STATUS_MEAS_OK, (3 : Rat)), (F.PLINTH_STATUS_START_OK, 42 / 10), (F.PLINTH_STATUS_XMIT_OK, 48 / 10)],
        t.get x.1 = (if x.2 ≤ h then 1 else if h < x.2 - 15 / 100 then 0 else s.get x.1)) ∧
      t.get F.PLINTH_STATUS_BELOW_ABORT = (if h < 26 / 10 then 1 else if 275 / 100 < h then 0 else s.get F.PLINTH_STATUS_BELOW_ABORT) ∧
      t.get F.PLINTH_STATUS_VIN_OK = (if 85 / 10 ≤ v0 ∨ 85 / 10 ≤ v1 ∨ 85 / 10 ≤ v2 ∨ 85 / 10 ≤ v3 then 1 else 0) ∧
      (∀ k : Fin 4, [v0, v1, v2, v3].getD k 0 ≤ [v0, v1, v2, v3].getD (t.get F.PLINTH_STATUS_VIN_SEL) 0) ∧
      (s.pdOn 1 = true → t.flag F.SYS_RAILS_VDRV_OK = vdrv) ∧ t.plState = s.plState ∧
      Keeps [whole R.PLINTH_STATUS, F.SYS_RAILS_VDRV_OK, F.DRV_STATUS_VDRV_OK, pdMoveF 9] [.plinth, .drive] s t := by
  have hseen := s.energySeen_seen h [v0, v1, v2, v3] c vdrv
  have hvdrv := s.vdrvSeen_frame vdrv
  have hstate : (s.energySeen h [v0, v1, v2, v3] c vdrv).plState = s.plState := hseen.state.trans (hvdrv.get_eq _ (by decide))
  have hbelow := hseen.below
  rw [hvdrv.get_eq _ (by decide)] at hbelow
  have hexec : exec (.energyFlagUpdate h v0 v1 v2 v3 c vdrv) s = .next (s.energySeen h [v0, v1, v2, v3] c vdrv) := by
    refine (exec_energyFlagUpdate h v0 v1 v2 v3 c vdrv halive).trans (congrArg Host.Outcome.next ?_)
    split
    next hfall =>
      refine State.energyAbort_none ?_
      rw [hstate]
      simp only [Bool.and_eq_true, Bool.not_eq_true', State.flag, beq_iff_eq, beq_eq_false_iff_ne] at hfall
      obtain ⟨hwas, hnow⟩ := hfall
      rcases hno with hflag | hhigh | h0 | h3
      · exact absurd (by simpa [State.flag] using hflag) hwas
      · rw [hbelow, if_neg (not_lt.2 hhigh)] at hnow
        split at hnow
        · exact absurd hnow (by decide)
        · exact absurd hnow hwas
      · omega
      · omega
    next => rfl
  have hmax (k : Fin 4) : [v0, v1, v2, v3].getD k 0 ≤ [v0, v1, v2, v3].getD (argMax4 [v0, v1, v2, v3]) 0 := argMax4_max _ k.2
  refine ⟨_, hexec, fun x hx => ?_, hbelow, ?_, fun k => ?_, fun hon => ?_, hstate, s.energySeen_keeps ..⟩
  · rw [hseen.classes x hx, hvdrv.get_eq]
    simp only [List.mem_cons, List.not_mem_nil, or_false] at hx
    rcases hx with rfl | rfl | rfl <;> decide
  · rw [hseen.inputOk]
    have hany : (85 / 10 ≤ [v0, v1, v2, v3].getD (argMax4 [v0, v1, v2, v3]) 0) ↔ 85 / 10 ≤ v0 ∨ 85 / 10 ≤ v1 ∨ 85 / 10 ≤ v2 ∨ 85 / 10 ≤ v3 := by
      refine ⟨fun hge => ?_, ?_⟩
      · have hlt := argMax4_lt [v0, v1, v2, v3]
        generalize argMax4 [v0, v1, v2, v3] = m at hge hlt
        interval_cases m
        · exact .inl hge
        · exact .inr (.inl hge)
        · exact .inr (.inr (.inl hge))
        · exact .inr (.inr (.inr hge))
      · rintro (h0 | h1 | h2 | h3)
        · exact le_trans h0 (hmax 0)
        · exact le_trans h1 (hmax 1)
        · exact le_trans h2 (hmax 2)
        · exact le_trans h3 (hmax 3)
    simp only [hany]
  · rw [hseen.input]
    exact hmax k
  · rw [State.flag, hseen.frame.get_eq _ (by decide)]
    exact State.vdrvSeen_flag hon

end

/-! ### BELOW_ABORT in STORE and START (R552, R553) -/

section
variable {s : State}

/-- The transmission that stands is aborted, and counted. -/
def State.xmitDropped (s : State) : State := if s.plcBusy then s.xmitAbort.plAborted 2 else s

theorem State.plAborted_keeps (s : State) {k : Nat} : Keeps [⟨R.PLINTH_STICKY, 6 + k, 1⟩, F.PLINTH_ACT_CNT_ABORTED] [] s (s.plAborted k) := .incSat' (.put' (.refl _ _ s))

theorem State.plAborted_count (s : State) {k : Nat} : (s.plAborted k).get F.PLINTH_ACT_CNT_ABORTED = min (s.get F.PLINTH_ACT_CNT_ABORTED + 1) 255 := by
  rw [State.plAborted, State.get_incSat_same _ _ (by decide)]
  exact congrArg (fun n => min (n + 1) 255) (State.get_put_other s ⟨R.PLINTH_STICKY, 6 + k, 1⟩ F.PLINTH_ACT_CNT_ABORTED 1 (Fld.apart_of_addr (show R.PLINTH_STICKY ≠ R.PLINTH_ACT_CNT by decide)))

theorem State.plcBusy_congr {t : State} (hcour : t.cour = s.cour) (hmono : t.mono = s.mono) : t.plcBusy = s.plcBusy := by
  unfold State.plcBusy
  rw [hcour, hmono]

/-- The fall to SLEEP that an abort makes in STORE and in START. -/
def State.abortFalls (t : State) : State := if t.plState = 1 then t.measEnd.plAborted 0 else if t.plState = 2 then t.enterSleep.plAborted 1 else t

theorem State.energyAbort_eq (h : s.plState = 1 ∨ s.plState = 2) : s.energyAbort = s.xmitDropped.abortFalls := by
  have hdrop : (if (s.plState = 1 ∨ s.plState = 2) ∧ s.plcBusy = true then s.xmitAbort.plAborted 2 else s) = s.xmitDropped := by
    simp only [h, true_and]
    rfl
  have habort : s.energyAbort = (if (s.plState = 1 ∨ s.plState = 2) ∧ s.plcBusy = true then s.xmitAbort.plAborted 2 else s).abortFalls := rfl
  rw [habort, hdrop]

/-- What stands of the aborted transmission's state. -/
theorem State.xmitDropped_facts (hc : s.canonical = true) : s.xmitDropped.canonical = true ∧ s.xmitDropped.plState = s.plState ∧
    s.xmitDropped.maintRuns Act.mramProgram = s.maintRuns Act.mramProgram ∧
    s.xmitDropped.get F.PLINTH_ACT_CNT_ABORTED = min (s.get F.PLINTH_ACT_CNT_ABORTED + (if s.plcBusy = true then 1 else 0)) 255 ∧
    (∀ a, 0x400D0000 ≤ a → a < 0x400E0000 → a ∉ sleepMarks → s.xmitDropped.rd a = s.rd a) ∧
    ∀ p ∈ [Part.mem, .resp, .pins, .pending], p.same s s.xmitDropped := by
  by_cases hbusy : s.plcBusy = true
  · have hdrop : s.xmitDropped = s.xmitAbort.plAborted 2 := if_pos hbusy
    have hshelter := s.xmitAbort_sheltered
    have hcount := s.xmitAbort.plAborted_keeps (k := 2)
    have hget (g : Fld) (hg : 0x400D0000 ≤ g.addr ∧ g.addr < 0x400E0000) : s.xmitAbort.get g = s.get g :=
      congrArg (fun w : Word => bitsOf w.toNat g.lo g.len) (hshelter.regs g.addr hg.1 hg.2)
    rw [hdrop]
    refine ⟨(Orderly.plAborted (.xmitAbort (.refl s))).canonical hc, (hcount.get_eq _ (by decide)).trans (hget _ (by decide)), ?_, ?_, fun a hlo hhi ha => ?_,
      fun p hp => p.same_trans _ _ _ (hshelter.parts p hp) (hcount.2 p (by simp))⟩
    · rw [State.maintRuns_get, hcount.get_eq _ (by decide), ← State.maintRuns_get]
      exact hshelter.program
    · rw [State.plAborted_count, hget _ (by decide), if_pos hbusy]
    · refine (hcount.rd_eq a fun f hf => Fld.apart_of_addr fun he : f.addr = a => ha ?_).trans (hshelter.regs a hlo hhi)
      simp only [List.mem_cons, List.not_mem_nil, or_false] at hf
      rcases hf with rfl | rfl
      · rw [← he]; exact List.mem_cons_of_mem _ List.mem_cons_self
      · rw [← he]; exact List.mem_cons_of_mem _ (List.mem_cons_of_mem _ List.mem_cons_self)
  · have hdrop : s.xmitDropped = s := if_neg hbusy
    have hlt : s.get F.PLINTH_ACT_CNT_ABORTED < 2 ^ 8 := s.get_lt F.PLINTH_ACT_CNT_ABORTED
    rw [hdrop]
    exact ⟨hc, rfl, rfl, by rw [if_neg hbusy]; omega, fun _ _ _ _ => rfl, fun p _ => (Keeps.refl [] [] s).2 p (by simp)⟩

/-- A measurement's end leaves PD0's registers beside the state. -/
theorem State.measEnd_plinth (hc : s.canonical = true) {a : Nat} (hlo : 0x400D0000 ≤ a) (hhi : a < 0x400E0000) (ha : a ≠ R.PLINTH_STATUS) : s.measEnd.rd a = s.rd a := by
  by_cases hprogram : s.maintRuns Act.mramProgram = true
  · have hend : s.measEnd = s.mramEnd.enterSleep := congrArg State.enterSleep (if_pos hprogram)
    rw [hend, State.enterSleep_plinth ((Orderly.mramEnd (Orderly.refl s)).canonical hc) hlo hhi ha]
    exact s.mramEnd_outside.1 a (by simp; omega)
  · have hend : s.measEnd = s.enterSleep := congrArg State.enterSleep (if_neg hprogram)
    rw [hend, State.enterSleep_plinth hc hlo hhi ha]

/-- The energy's flags, and the state from which the fall starts. -/
theorem drowsy_of_seen {u : State} (hseen : Keeps [whole R.PLINTH_STATUS, F.SYS_RAILS_VDRV_OK, F.DRV_STATUS_VDRV_OK, pdMoveF 9] [.plinth, .drive] s u)
    (hc : u.canonical = true) : Drowsy s u.xmitDropped ∧ u.xmitDropped.maintRuns Act.mramProgram = s.maintRuns Act.mramProgram := by
  obtain ⟨hcanon, -, hprogram, -, hregs, hparts⟩ := State.xmitDropped_facts hc
  have hruns : u.maintRuns Act.mramProgram = s.maintRuns Act.mramProgram := by
    rw [State.maintRuns_get, State.maintRuns_get, hseen.get_eq _ (by decide)]
  refine ⟨⟨hcanon, fun a hlo hhi ha => (hregs a hlo hhi ha).trans (hseen.rd_eq a fun f hf => Fld.apart_of_addr fun he : f.addr = a => ?_), ?_, ?_, ?_, fun _ a _ _ => ?_⟩,
    hprogram.trans hruns⟩
  · have hoff : ∀ f ∈ [whole R.PLINTH_STATUS, F.SYS_RAILS_VDRV_OK, F.DRV_STATUS_VDRV_OK, pdMoveF 9], f.addr < 0x400D0000 ∨ f.addr = R.PLINTH_STATUS := by decide
    rcases hoff f hf with hlt | hstatus
    · omega
    · exact ha (by rw [← he, hstatus]; exact List.mem_cons_self)
  · exact Eq.trans (hparts .resp (by decide)) (hseen.2 .resp (by decide))
  · exact Eq.trans (hparts .pins (by decide)) (hseen.2 .pins (by decide))
  · exact Eq.trans (hparts .pending (by decide)) (hseen.2 .pending (by decide))
  · exact ((hparts .mem (by decide)).1 a).trans ((hseen.2 .mem (by decide)).1 a)

theorem energy_aborts (h v0 v1 v2 v3 : Rat) (c vdrv : Bool) (halive : s.alive = true) (hwas : s.flag F.PLINTH_STATUS_BELOW_ABORT = false) (hlow : h < 26 / 10)
    (hst : s.plState = 1 ∨ s.plState = 2) (hc : s.canonical = true) :
    ∃ t, exec (.energyFlagUpdate h v0 v1 v2 v3 c vdrv) s = .next t ∧ SleptFrom s t ∧
      t.get F.PLINTH_ACT_CNT_ABORTED = min (s.get F.PLINTH_ACT_CNT_ABORTED + (if s.plcBusy = true then 2 else 1)) 255 := by
  have hkeeps := s.energySeen_keeps h [v0, v1, v2, v3] c vdrv
  have hseen := s.energySeen_seen h [v0, v1, v2, v3] c vdrv
  have hcanon : (s.energySeen h [v0, v1, v2, v3] c vdrv).canonical = true := (Orderly.energyFlags (.vdrvSeen (.refl s))).canonical hc
  have hbelow : (s.energySeen h [v0, v1, v2, v3] c vdrv).flag F.PLINTH_STATUS_BELOW_ABORT = true := by
    rw [State.flag, hseen.below, if_pos hlow]
    rfl
  have hstate : (s.energySeen h [v0, v1, v2, v3] c vdrv).plState = s.plState := hseen.state.trans ((s.vdrvSeen_frame vdrv).get_eq _ (by decide))
  have hexec := exec_energyFlagUpdate h v0 v1 v2 v3 c vdrv halive
  rw [hwas, hbelow] at hexec
  generalize s.energySeen h [v0, v1, v2, v3] c vdrv = u at hexec hkeeps hcanon hstate
  have hbusy : u.plcBusy = s.plcBusy := State.plcBusy_congr (hkeeps.2 .cour (by decide)) (State.mono_congr (hkeeps.2 .epoch (by decide)) (hkeeps.2 .ep (by decide)))
  have hcount : u.get F.PLINTH_ACT_CNT_ABORTED = s.get F.PLINTH_ACT_CNT_ABORTED := hkeeps.get_eq _ (by decide)
  obtain ⟨hdrowsy, hprogram⟩ := drowsy_of_seen hkeeps hcanon
  obtain ⟨-, hdst, -, hdcount, -, -⟩ := State.xmitDropped_facts hcanon
  rw [hstate] at hdst
  rw [hcount, hbusy] at hdcount
  have hplus (n : Nat) : min (min (n + (if s.plcBusy = true then 1 else 0)) 255 + 1) 255 = min (n + (if s.plcBusy = true then 2 else 1)) 255 := by
    split <;> omega
  have hfell : exec (.energyFlagUpdate h v0 v1 v2 v3 c vdrv) s = .next u.xmitDropped.abortFalls := by
    rw [hexec, ← State.energyAbort_eq (hstate ▸ hst)]
    rfl
  have hmarks (k : Nat) : ∀ f ∈ [(⟨R.PLINTH_STICKY, 6 + k, 1⟩ : Fld), F.PLINTH_ACT_CNT_ABORTED], f.addr = R.PLINTH_STICKY ∨ f.addr = R.PLINTH_ACT_CNT ∨ f = pdOnF 0 := by
    simp
  have hact (v : State) (hv : v.rd R.PLINTH_ACT_CNT = u.xmitDropped.rd R.PLINTH_ACT_CNT) : v.get F.PLINTH_ACT_CNT_ABORTED = u.xmitDropped.get F.PLINTH_ACT_CNT_ABORTED :=
    congrArg (fun w : Word => bitsOf w.toNat 24 8) hv
  refine ⟨_, hfell, ?_⟩
  rcases hst with hst | hst
  · have hfalls : u.xmitDropped.abortFalls = u.xmitDropped.measEnd.plAborted 0 := if_pos (hdst.trans hst)
    rw [hfalls]
    refine ⟨hdrowsy.measEnd hprogram (State.plAborted_keeps _) (hmarks 0), ?_⟩
    rw [State.plAborted_count, hact _ (State.measEnd_plinth hdrowsy.canonical (by decide) (by decide) (by decide)), hdcount, hplus]
  · have hfalls : u.xmitDropped.abortFalls = u.xmitDropped.enterSleep.plAborted 1 := (if_neg (by omega)).trans (if_pos (hdst.trans hst))
    rw [hfalls]
    refine ⟨hdrowsy.slept (State.plAborted_keeps _) (hmarks 1), ?_⟩
    rw [State.plAborted_count, hact _ (State.enterSleep_plinth hdrowsy.canonical (by decide) (by decide) (by decide)), hdcount, hplus]

end

/-! ### Buck B, the power-fail warning and its end (R559, R560, R601) -/

section
variable {s : State}

theorem buckB_good (halive : s.alive = true) (hst : s.plState = 2 ∨ (s.plState = 0 ∧ s.plinth.cold = true)) :
    ∃ t, exec .buckBGood s = .next t ∧ t.plState = 3 ∧ (s.pdOn 1 = true → t.get F.SYS_RAILS_BUCKA_ON = 1 ∧ t.get F.SYS_RAILS_STORE_SUPPLY = 0) ∧
      Keeps [F.PLINTH_STATUS_STATE, F.SYS_RAILS_BUCKA_ON, F.SYS_RAILS_STORE_SUPPLY] [] s t := by
  have hexec : exec .buckBGood s = .next (if (s.put F.PLINTH_STATUS_STATE 3).pdOn 1 then
      ((s.put F.PLINTH_STATUS_STATE 3).put F.SYS_RAILS_BUCKA_ON 1).put F.SYS_RAILS_STORE_SUPPLY 0 else s.put F.PLINTH_STATUS_STATE 3) := if_pos ⟨halive, hst⟩
  have hon : (s.put F.PLINTH_STATUS_STATE 3).pdOn 1 = s.pdOn 1 := congrArg (bitOf · 1) (State.get_put_other s F.PLINTH_STATUS_STATE F.SYS_PD_STATUS_DOMAIN_ON 3 (by decide))
  have hrun : (s.put F.PLINTH_STATUS_STATE 3).plState = 3 := State.get_put_self _ _ _ (by decide)
  rw [hon] at hexec
  refine ⟨_, hexec, ?_, fun h1 => ?_, .ite' (.put' (.put' (.put' (.refl _ _ s)))) (.put' (.refl _ _ s))⟩
  · split
    · exact (State.get_put_other _ _ _ _ (by decide)).trans ((State.get_put_other _ _ _ _ (by decide)).trans hrun)
    · exact hrun
  · rw [if_pos h1]
    exact ⟨(State.get_put_other _ _ _ _ (by decide)).trans (State.get_put_self _ _ _ (by decide)), State.get_put_self _ _ _ (by decide)⟩

/-- The warning is noted. -/
def State.failNoted (s : State) : State := (s.put F.PLINTH_STATUS_PF_ACTIVE 1).set1 F.PLINTH_STICKY_PF_WARN

theorem State.failNoted_keeps (s : State) : Keeps [F.PLINTH_STATUS_PF_ACTIVE, F.PLINTH_STICKY_PF_WARN] [] s s.failNoted := .set1' (.put' (.refl _ _ s))

/-- A metering block that runs notes when the supply failed. -/
theorem State.meterWarn_fails (hused : s.meter.used = true) (hrun : s.meterRun = true) : s.meterWarn.meter.failAt = some s.epoch := by
  have habort := s.compactAbort_outside
  have hpartial := (s.maintAbort Act.vaultCompact).vaultPartial_outside
  have hused' : (s.maintAbort Act.vaultCompact).meter.used = true := (congrArg MeterState.used (habort.2 .meter (by decide))).trans hused
  have hrun' : (s.maintAbort Act.vaultCompact).vaultPartial.meterRun = true := by
    rw [State.meterRun, State.flag, hpartial.get_eq _ (by simp), habort.get_eq _ (by decide)]
    exact hrun
  have hepoch : (s.maintAbort Act.vaultCompact).vaultPartial.epoch = s.epoch := (hpartial.2 .epoch (by decide)).trans (habort.2 .epoch (by decide))
  have hwarn : s.meterWarn = (s.maintAbort Act.vaultCompact).vaultPartial.modMeter fun m =>
      { m with failAt := some (s.maintAbort Act.vaultCompact).vaultPartial.epoch,
               outFrom := if m.failAt.isSome || m.resume then m.outFrom else (s.maintAbort Act.vaultCompact).vaultPartial.epoch, resume := false } := by
    unfold State.meterWarn
    refine (if_neg (by simp [hused'])).trans (if_pos hrun')
  rw [hwarn, ← hepoch]
  rfl

theorem fail_warns (hst : s.plState = 3) (hnot : s.flag F.PLINTH_STATUS_PF_ACTIVE = false) :
    ∃ t, exec .powerFailWarning s = .next t ∧ t.get F.PLINTH_STATUS_PF_ACTIVE = 1 ∧ t.get F.PLINTH_STICKY_PF_WARN = 1 ∧
      (s.meter.used = true → s.meterRun = true → t.meter.failAt = some s.epoch) ∧
      KeepsOutside [zone R.DIAG_MAINT_REQ, zone R.DRV_STATUS, zone R.GRID_CFG, zone R.LANE_STATUS, (0x400D0000, 0x400E0000),
          zone R.RELAY_CFG, zone R.SENSG_STATUS, zone R.SENSP_STATUS, zone R.WCMPG_STATUS, zone R.WCMPP_STATUS]
        [.mem, .shadow, .draws, .pwm, .sens, .wcmp, .drive, .diag, .relay, .meter] s t := by
  have hexec : exec .powerFailWarning s = .next s.failNoted.meterWarn := if_pos ⟨hst, by simp [hnot]⟩
  have hwarn := s.failNoted.meterWarn_outside
  have hnoted := s.failNoted_keeps
  refine ⟨_, hexec, ?_, ?_, fun hused hrun => ?_, ?_⟩
  · exact (hwarn.get_eq _ (by decide)).trans ((State.get_put_other _ _ _ _ (by decide)).trans (State.get_put_self _ _ _ (by decide)))
  · exact (hwarn.get_eq _ (by decide)).trans (State.get_put_self _ _ _ (by decide))
  · have hrun' : s.failNoted.meterRun = true := by
      rw [State.meterRun, State.flag, hnoted.get_eq _ (by decide)]
      exact hrun
    exact State.meterWarn_fails (s := s.failNoted) hused hrun'
  · have hout : KeepsOutside [(0x400D0000, 0x400E0000)] [] s s.failNoted := hnoted.toOutside (by decide)
    exact .after hwarn (.after hout (.refl _ _ s))

theorem fail_restored (hact : s.flag F.PLINTH_STATUS_PF_ACTIVE = true) :
    ∃ t, exec .powerFailRestore s = .next t ∧ t.get F.PLINTH_STATUS_PF_ACTIVE = 0 ∧ t.get F.PLINTH_STICKY_PF_RESTORE = 1 ∧
      (s.meter.failAt.isSome = true → t.meter.failAt = none ∧ t.meter.resume = true ∧ t.meter.resumeFrom = s.epoch) ∧
      Keeps [F.PLINTH_STATUS_PF_ACTIVE, F.PLINTH_STICKY_PF_RESTORE] [.meter] s t := by
  have hexec : exec .powerFailRestore s = .next ((s.put F.PLINTH_STATUS_PF_ACTIVE 0).set1 F.PLINTH_STICKY_PF_RESTORE).meterRestore := if_pos hact
  have hnoted : Keeps [F.PLINTH_STATUS_PF_ACTIVE, F.PLINTH_STICKY_PF_RESTORE] [.meter] s ((s.put F.PLINTH_STATUS_PF_ACTIVE 0).set1 F.PLINTH_STICKY_PF_RESTORE) :=
    .set1' (.put' (.refl _ _ s))
  have hflags : ((s.put F.PLINTH_STATUS_PF_ACTIVE 0).set1 F.PLINTH_STICKY_PF_RESTORE).get F.PLINTH_STATUS_PF_ACTIVE = 0 ∧
      ((s.put F.PLINTH_STATUS_PF_ACTIVE 0).set1 F.PLINTH_STICKY_PF_RESTORE).get F.PLINTH_STICKY_PF_RESTORE = 1 :=
    ⟨(State.get_put_other _ _ _ _ (by decide)).trans (State.get_put_self _ _ _ (by decide)), State.get_put_self _ _ _ (by decide)⟩
  cases hfail : s.meter.failAt with
  | none =>
    have hrest : ((s.put F.PLINTH_STATUS_PF_ACTIVE 0).set1 F.PLINTH_STICKY_PF_RESTORE).meterRestore = (s.put F.PLINTH_STATUS_PF_ACTIVE 0).set1 F.PLINTH_STICKY_PF_RESTORE := by
      have hnone : ((s.put F.PLINTH_STATUS_PF_ACTIVE 0).set1 F.PLINTH_STICKY_PF_RESTORE).meter.failAt = none := hfail
      rw [State.meterRestore, hnone]
    rw [hrest] at hexec
    exact ⟨_, hexec, hflags.1, hflags.2, fun h => absurd h (by simp), hnoted⟩
  | some n =>
    have hrest : ((s.put F.PLINTH_STATUS_PF_ACTIVE 0).set1 F.PLINTH_STICKY_PF_RESTORE).meterRestore =
        ((s.put F.PLINTH_STATUS_PF_ACTIVE 0).set1 F.PLINTH_STICKY_PF_RESTORE).modMeter fun m => { m with failAt := none, resume := true, resumeFrom := s.epoch } := by
      have hsome : ((s.put F.PLINTH_STATUS_PF_ACTIVE 0).set1 F.PLINTH_STICKY_PF_RESTORE).meter.failAt = some n := hfail
      rw [State.meterRestore, hsome]
      rfl
    rw [hrest] at hexec
    exact ⟨_, hexec, hflags.1, hflags.2, fun _ => ⟨rfl, rfl, rfl⟩, .beside' hnoted⟩

end

/-! ### The fall to STORE (R560) -/

/-- The fields of the device's own block that the switching off of a domain writes. -/
def offFlds (d : Nat) : List Fld := [pdCtrlF d, stepF d, pdOnF d, pdMoveF d]

/-- A domain's request is withdrawn and it is off. -/
def State.domainDropped (s : State) (d : Nat) : State := (s.put (pdCtrlF d) 0).domainOff d

section
variable {s : State}

/-- The zones and parts that the switching off of such a domain reaches. -/
def storeZones : List (Nat × Nat) := zone R.SYS_ID :: idleZones

def storeParts : List Part := .plinth :: idleParts

theorem idle_off_own : ∀ r ∈ idleZones, (zone R.SYS_ID).2 ≤ r.1 ∨ r.2 ≤ (zone R.SYS_ID).1 := by decide

/-- The steps of an operating point end. -/
theorem State.dvfsEnded_keeps (s : State) (d : Nat) : Keeps [stepF d] [.plinth] s (if 2 ≤ d ∧ d ≤ 5 then s.dvfsDrop d else s) :=
  .ite' (.beside' (.put' (.refl _ _ s))) (.refl _ _ s)

theorem State.domainOff_eq (s : State) (d : Nat) : s.domainOff d = if s.pdOn d
    then (((if 2 ≤ d ∧ d ≤ 5 then (s.domainIdle d).dvfsDrop d else s.domainIdle d).put (pdOnF d) 0).put (pdMoveF d) 0).noteHolds else s.put (pdMoveF d) 0 := rfl

theorem offFlds_own {d : Nat} : ∀ f ∈ offFlds d, (zone R.SYS_ID).1 ≤ f.addr ∧ f.addr < (zone R.SYS_ID).2 := by
  simp [offFlds, pdCtrlF, stepF, pdOnF, pdMoveF]

variable {d : Nat} (hd : d < 12) (hstore : pdStore d = false)
include hd hstore

theorem State.domainDropped_outside (s : State) : KeepsOutside storeZones storeParts s (s.domainDropped d) := by
  have hown (f : Fld) (hf : f ∈ offFlds d) : ∃ r ∈ storeZones, r.1 ≤ f.addr ∧ f.addr < r.2 := ⟨_, List.mem_cons_self, offFlds_own f hf⟩
  have hctrl : KeepsOutside storeZones storeParts s (s.put (pdCtrlF d) 0) := .put' (.refl _ _ s) (hown _ (by simp [offFlds]))
  have hidle : KeepsOutside storeZones storeParts s ((s.put (pdCtrlF d) 0).domainIdle d) :=
    .after (State.domainIdle_store _ hd hstore) hctrl (by simp [storeZones]) (by simp [storeParts])
  have hstep : KeepsOutside [zone R.SYS_ID] [.plinth] ((s.put (pdCtrlF d) 0).domainIdle d)
      (if 2 ≤ d ∧ d ≤ 5 then ((s.put (pdCtrlF d) 0).domainIdle d).dvfsDrop d else (s.put (pdCtrlF d) 0).domainIdle d) :=
    .ite' (.after (State.dvfsDrop_outside ..) (.refl _ _ _)) (.refl _ _ _)
  rw [State.domainDropped, State.domainOff_eq]
  refine .ite' (.after (State.noteHolds_outside _) (.put' (.put' (.after hstep hidle (by simp [storeZones]) (by simp [storeParts])) (hown _ (by simp [offFlds])))
    (hown _ (by simp [offFlds]))) (by simp) (by simp [storeParts, idleParts])) (.put' hctrl (hown _ (by simp [offFlds])))

/-- The device's own block beside the domain's fields. -/
theorem State.domainDropped_own (s : State) {g : Fld} (hg : (zone R.SYS_ID).1 ≤ g.addr ∧ g.addr < (zone R.SYS_ID).2) (happ : ∀ f ∈ offFlds d, f.apart g = true) :
    (s.domainDropped d).get g = s.get g := by
  have hfld (t : State) (f : Fld) (v : Nat) (hf : f ∈ offFlds d) : (t.put f v).get g = t.get g := State.get_put_other _ _ _ _ (happ f hf)
  have hidle : ((s.put (pdCtrlF d) 0).domainIdle d).get g = s.get g := by
    refine ((State.domainIdle_store _ hd hstore).get_eq g fun r hr => ?_).trans (hfld s _ 0 (by simp [offFlds]))
    have := idle_off_own r hr
    omega
  have hstep := (((s.put (pdCtrlF d) 0).domainIdle d).dvfsEnded_keeps d).get_eq g fun f hf => happ f (by simp at hf; simp [hf, offFlds])
  rw [State.domainDropped, State.domainOff_eq]
  split
  · rw [(State.noteHolds_outside _).get_eq g (by simp), hfld _ _ _ (by simp [offFlds]), hfld _ _ _ (by simp [offFlds]), hstep, hidle]
  · rw [hfld _ _ _ (by simp [offFlds]), hfld _ _ _ (by simp [offFlds])]

theorem State.domainDropped_off (s : State) : (s.domainDropped d).pdOn d = false ∧ (s.domainDropped d).flag (pdCtrlF d) = false := by
  have happ : (pdOnF d).apart (pdMoveF d) = true ∧ (pdMoveF d).apart (pdOnF d) = true ∧ (pdMoveF d).apart (pdCtrlF d) = true ∧ (pdOnF d).apart (pdCtrlF d) = true ∧
      (stepF d).apart (pdCtrlF d) = true := by
    refine ⟨?_, ?_, Fld.apart_of_addr (show R.SYS_PD_STATUS ≠ R.SYS_PD_CTRL by decide), Fld.apart_of_addr (show R.SYS_PD_STATUS ≠ R.SYS_PD_CTRL by decide),
      Fld.apart_of_addr (show R.SYS_OP_STATUS ≠ R.SYS_PD_CTRL by decide)⟩
    · simp [pdOnF, pdMoveF, Fld.apart]; omega
    · simp [pdOnF, pdMoveF, Fld.apart]; omega
  obtain ⟨hom, hmo, hmc, hoc, hsc⟩ := happ
  have hbit (t : State) (f : Fld) (hf : f.lo + f.len ≤ 32) : (t.put f 0).get f = 0 := (State.get_put_same t f 0 hf).trans (Nat.zero_mod _)
  have hzero : (s.put (pdCtrlF d) 0).get (pdCtrlF d) = 0 := hbit _ _ (by simp [pdCtrlF]; omega)
  have hidle : ((s.put (pdCtrlF d) 0).domainIdle d).get (pdCtrlF d) = 0 := by
    refine ((State.domainIdle_store _ hd hstore).get_eq _ fun r hr => ?_).trans hzero
    have := idle_off_own r hr
    have hown := offFlds_own (d := d) (pdCtrlF d) (by simp [offFlds])
    omega
  have hstep := (((s.put (pdCtrlF d) 0).domainIdle d).dvfsEnded_keeps d).get_eq (pdCtrlF d) (by simpa using hsc)
  rw [State.pdOn_eq _ hd, State.flag, State.flag, State.domainDropped, State.domainOff_eq]
  split
  · refine ⟨?_, ?_⟩
    · rw [(State.noteHolds_outside _).get_eq _ (by simp), State.get_put_other _ _ _ _ hmo, hbit _ _ (by simp [pdOnF]; omega)]
      rfl
    · rw [(State.noteHolds_outside _).get_eq _ (by simp), State.get_put_other _ _ _ _ hmc, State.get_put_other _ _ _ _ hoc, hstep, hidle]
      rfl
  next hoff =>
    have hon : (s.put (pdCtrlF d) 0).get (pdOnF d) ≠ 1 := by
      rw [State.pdOn_eq _ hd, State.flag] at hoff
      simpa using hoff
    refine ⟨?_, ?_⟩
    · rw [State.get_put_other _ _ _ _ hmo]
      simpa using hon
    · rw [State.get_put_other _ _ _ _ hmc, hzero]
      rfl

theorem State.domainDropped_cyc (s : State) : (s.domainDropped d).plinth.cyc = s.plinth.cyc := by
  have hidle : ((s.put (pdCtrlF d) 0).domainIdle d).plinth = s.plinth := (State.domainIdle_store _ hd hstore).2 .plinth (by decide)
  have hholds (t : State) : t.noteHolds.plinth = t.plinth := (State.noteHolds_outside t).2 .plinth (by decide)
  rw [State.domainDropped, State.domainOff_eq]
  split
  · rw [hholds]
    show (if 2 ≤ d ∧ d ≤ 5 then ((s.put (pdCtrlF d) 0).domainIdle d).dvfsDrop d else (s.put (pdCtrlF d) 0).domainIdle d).plinth.cyc = s.plinth.cyc
    have hdrop (t : State) : (t.dvfsDrop d).plinth.cyc = t.plinth.cyc := rfl
    split
    · rw [hdrop, hidle]
    · rw [hidle]
  · rfl

end

/-! #### The fall as a whole -/

/-- The domains that STORE does not permit are off. -/
def State.storeDropped (s : State) : State := s.forEach ((List.range 12).filter fun d => !pdStore d) State.domainDropped

/-- The supply is buck S's. -/
def State.storeSupplied (s : State) : State := (s.put F.SYS_RAILS_BUCKA_ON 0).put F.SYS_RAILS_STORE_SUPPLY 1

theorem State.buckToStore_eq (s : State) : s.buckToStore = (((s.storeSupplied.storeDropped.padHold 1).padHold 11).enterStore).pd2Low := rfl

theorem mem_storeOff {d : Nat} : d ∈ ((List.range 12).filter fun d => !pdStore d) ↔ d < 12 ∧ pdStore d = false := by simp

theorem State.storeDropped_outside (s : State) : KeepsOutside storeZones storeParts s s.storeDropped :=
  .forEach' (.refl _ _ s) fun _ hd t =>
    (.after (State.domainDropped_outside (mem_storeOff.1 hd).1 (mem_storeOff.1 hd).2 t) (.refl _ _ t) (List.Subset.refl _) (List.Subset.refl _))

/-- A field of the device's own block that no such domain has. -/
theorem State.storeDropped_own (s : State) {g : Fld} (hg : (zone R.SYS_ID).1 ≤ g.addr ∧ g.addr < (zone R.SYS_ID).2)
    (happ : ∀ d < 12, pdStore d = false → ∀ f ∈ offFlds d, f.apart g = true) : s.storeDropped.get g = s.get g := by
  unfold State.storeDropped
  exact State.forEach_inv (P := fun t => t.get g = s.get g) (fun d hd t ht =>
    (State.domainDropped_own (mem_storeOff.1 hd).1 (mem_storeOff.1 hd).2 t hg (happ d (mem_storeOff.1 hd).1 (mem_storeOff.1 hd).2)).trans ht) s rfl

theorem State.storeDropped_cyc (s : State) : s.storeDropped.plinth.cyc = s.plinth.cyc := by
  unfold State.storeDropped
  exact State.forEach_inv (P := fun t => t.plinth.cyc = s.plinth.cyc) (fun d hd t ht =>
    (State.domainDropped_cyc (mem_storeOff.1 hd).1 (mem_storeOff.1 hd).2 t).trans ht) s rfl

/-- Two domains' fields are apart. -/
theorem offFlds_apart {d e : Nat} (hd : d < 12) (he : e < 12) (hstore : pdStore e = false) (hne : d ≠ e) : ∀ f ∈ offFlds e, ∀ g ∈ [pdOnF d, pdCtrlF d], f.apart g = true := by
  have hall : ∀ e < 12, ∀ d < 12, d ≠ e → pdStore e = false → ∀ f ∈ offFlds e, ∀ g ∈ [pdOnF d, pdCtrlF d], f.apart g = true := by decide
  exact hall e he d hd hne hstore

theorem State.domainDropped_other (s : State) {d e : Nat} (hd : d < 12) (he : e < 12) (hstore : pdStore e = false) (hne : d ≠ e) :
    (s.domainDropped e).pdOn d = s.pdOn d ∧ (s.domainDropped e).flag (pdCtrlF d) = s.flag (pdCtrlF d) := by
  have hget (g : Fld) (hg : g ∈ [pdOnF d, pdCtrlF d]) : (s.domainDropped e).get g = s.get g := by
    refine State.domainDropped_own he hstore s ?_ fun f hf => offFlds_apart hd he hstore hne f hf g hg
    simp only [List.mem_cons, List.not_mem_nil, or_false] at hg
    rcases hg with rfl | rfl
    · exact offFlds_own (d := d) _ (by simp [offFlds])
    · exact offFlds_own (d := d) _ (by simp [offFlds])
  rw [State.pdOn_eq _ hd, State.pdOn_eq _ hd, State.flag, State.flag, State.flag, State.flag, hget _ (by simp), hget _ (by simp)]
  exact ⟨rfl, rfl⟩

theorem State.storeDropped_off (s : State) {d : Nat} (hd : d < 12) (hstore : pdStore d = false) : s.storeDropped.pdOn d = false ∧ s.storeDropped.flag (pdCtrlF d) = false := by
  unfold State.storeDropped
  refine State.forEach_at (P := fun _ => True) (Q := fun t => t.pdOn d = false ∧ t.flag (pdCtrlF d) = false) (List.nodup_range.filter _) (mem_storeOff.2 ⟨hd, hstore⟩)
    (fun _ _ _ _ _ => trivial) (fun t _ => t.domainDropped_off hd hstore) (fun k hk hne t ht => ?_) s trivial
  obtain ⟨hon, hctrl⟩ := t.domainDropped_other hd (mem_storeOff.1 hk).1 (mem_storeOff.1 hk).2 hne.symm
  exact ⟨hon.trans ht.1, hctrl.trans ht.2⟩

theorem State.storeDropped_on (s : State) {d : Nat} (hd : d < 12) (hstore : pdStore d = true) : s.storeDropped.pdOn d = s.pdOn d := by
  unfold State.storeDropped
  refine State.forEach_inv (P := fun t => t.pdOn d = s.pdOn d) (fun e he t ht => ?_) s rfl
  have hne : d ≠ e := fun heq => by
    have := (mem_storeOff.1 he).2
    rw [← heq, hstore] at this
    exact absurd this (by decide)
  exact (t.domainDropped_other hd (mem_storeOff.1 he).1 (mem_storeOff.1 he).2 hne).1.trans ht

/-- PD2 is bound for OP-L. -/
theorem State.pd2Low_facts (s : State) : s.pd2Low.get (opF 2) = 2 ∧ s.pd2Low.plinth.session = s.plinth.session ∧
    Keeps [opF 2, curOpF 2, stepF 2] [.plinth] s s.pd2Low := by
  have hdrop (t : State) : Keeps [curOpF 2, stepF 2] [.plinth] t (t.dvfsDrop 2) ∧ (t.dvfsDrop 2).plinth.session = t.plinth.session :=
    ⟨.beside' (.put' (.refl _ _ t)), rfl⟩
  have hnext (t : State) : Keeps [curOpF 2, stepF 2] [.plinth] t (t.dvfsNext 2) ∧ (t.dvfsNext 2).plinth.session = t.plinth.session := by
    refine ⟨.ite' (.refl _ _ t) (.beside' (.put' (.ite' (.put' (.refl _ _ t)) (.refl _ _ t)))), ?_⟩
    unfold State.dvfsNext
    dsimp only
    split_ifs <;> rfl
  have hlow : Keeps [curOpF 2, stepF 2] [.plinth] (s.put (opF 2) 2) s.pd2Low ∧ s.pd2Low.plinth.session = s.plinth.session := by
    unfold State.pd2Low
    dsimp only
    split
    · exact ⟨.comp (hnext _).1 (hdrop _).1, (hnext _).2.trans (hdrop _).2⟩
    · exact hnext _
  refine ⟨(hlow.1.get_eq _ (by decide)).trans (State.get_put_self _ _ _ (by decide)), hlow.2, .after hlow.1 (.put' (.refl _ _ s))⟩

theorem State.padHold_flag (s : State) {d : Nat} (hd : d < 12) : (s.padHold d).flag (padHoldF d) = true := by
  by_cases hheld : s.flag (padHoldF d) = true
  · have hsame : s.padHold d = s := if_pos hheld
    rw [hsame]
    exact hheld
  · have hput (t : State) : (t.put (padHoldF d) 1).flag (padHoldF d) = true := by
      rw [State.flag, State.get_put_same _ _ _ (by simp [padHoldF]; omega)]
      rfl
    unfold State.padHold
    rw [if_neg hheld]
    exact hput _

theorem State.padHold_cyc (s : State) (d : Nat) : (s.padHold d).plinth.cyc = s.plinth.cyc := by
  unfold State.padHold
  dsimp only
  split
  · rfl
  · split
    · rfl
    · split <;> rfl

section
variable {s : State}

/-- The supplies of STORE. -/
theorem State.storeSupplied_facts (s : State) : s.storeSupplied.get F.SYS_RAILS_STORE_SUPPLY = 1 ∧ s.storeSupplied.get F.SYS_RAILS_BUCKA_ON = 0 ∧
    Keeps [F.SYS_RAILS_BUCKA_ON, F.SYS_RAILS_STORE_SUPPLY] [] s s.storeSupplied :=
  ⟨State.get_put_self _ _ _ (by decide), (State.get_put_other _ _ _ _ (by decide)).trans (State.get_put_self _ _ _ (by decide)), .put' (.put' (.refl _ _ s))⟩

/-- STORE with the pads held. -/
def State.storePadded (s : State) : State := (s.padHold 1).padHold 11

theorem State.storePadded_keeps (s : State) : Keeps [padHoldF 1, padHoldF 11] [.plinth] s s.storePadded := .after (State.padHold_keeps ..) (.after (State.padHold_keeps ..) (.refl _ _ s))

theorem State.enterStore_facts (s : State) : s.enterStore.plState = 1 ∧ s.enterStore.plinth.session = some s.plinth.cyc ∧
    Keeps [F.PLINTH_STATUS_STATE, F.PLINTH_ACT_CNT_ADMITTED] [.plinth] s s.enterStore :=
  ⟨(State.get_put_other _ _ _ _ (by decide)).trans (State.get_put_self _ _ _ (by decide)), rfl, .incSat' (.beside' (.put' (.refl _ _ s)))⟩

/-- What the fall writes after the domains. -/
def storeFlds : List Fld := [padHoldF 1, padHoldF 11, F.PLINTH_STATUS_STATE, F.PLINTH_ACT_CNT_ADMITTED, opF 2, curOpF 2, stepF 2]

theorem State.buckToStore_after (s : State) : Keeps storeFlds [.plinth] s.storeSupplied.storeDropped s.buckToStore := by
  obtain ⟨-, -, hlow⟩ := (s.storeSupplied.storeDropped.storePadded.enterStore).pd2Low_facts
  obtain ⟨-, -, henter⟩ := s.storeSupplied.storeDropped.storePadded.enterStore_facts
  rw [s.buckToStore_eq]
  exact .after hlow (.after henter (.after s.storeSupplied.storeDropped.storePadded_keeps (.refl _ _ _) (by simp [storeFlds])) (by simp [storeFlds])) (by simp [storeFlds])

/-- A field of the device's own block that the fall writes at no place. -/
theorem State.buckToStore_own (s : State) {g : Fld} (hg : (zone R.SYS_ID).1 ≤ g.addr ∧ g.addr < (zone R.SYS_ID).2) (hlast : ∀ f ∈ storeFlds, f.apart g = true)
    (hoff : ∀ d < 12, pdStore d = false → ∀ f ∈ offFlds d, f.apart g = true) : s.buckToStore.get g = s.storeSupplied.get g :=
  (s.buckToStore_after.get_eq g hlast).trans (s.storeSupplied.storeDropped_own hg hoff)

theorem State.pdOn_congr {t : State} (h : t.get F.SYS_PD_STATUS_DOMAIN_ON = s.get F.SYS_PD_STATUS_DOMAIN_ON) (d : Nat) : t.pdOn d = s.pdOn d := congrArg (bitOf · d) h

theorem State.buckToStore_outside (s : State) : KeepsOutside [zone R.SYS_ID, zone R.COURH_STATUS, zone R.DIAG_MAINT_REQ, zone R.DRV_STATUS, zone R.EPOCH_CTRL, zone R.GRID_CFG, zone R.LANE_STATUS,
      zone (R.LP_CTRL 0), zone R.METER_CTRL, zone R.PLC_STATUS, zone (R.PWM_CTRL 0), zone R.RELAY_CFG, zone R.SENSG_STATUS, zone R.SENSP_STATUS,
      zone R.WCMPG_STATUS, zone R.WCMPP_STATUS, zone R.SV_INFO, (0x400D0000, 0x400E0000)]
    [.mem, .shadow, .draws, .raised, .pwm, .plinth, .sens, .wcmp, .loop, .drive, .diag, .grid, .relay, .meter, .sv, .hok, .cour] s s.buckToStore := by
  obtain ⟨-, -, hsupplied⟩ := s.storeSupplied_facts
  have hfirst : KeepsOutside [zone R.SYS_ID] [] s s.storeSupplied := hsupplied.toOutside (by decide)
  have hlast : KeepsOutside [zone R.SYS_ID, (0x400D0000, 0x400E0000)] [.plinth] s.storeSupplied.storeDropped s.buckToStore := s.buckToStore_after.toOutside (by decide)
  exact .after hlast (.after s.storeSupplied.storeDropped_outside (.after hfirst (.refl _ _ s)) (by simp [storeZones, idleZones]) (by simp [storeParts, idleParts]))

theorem falls_to_store (hst : s.plState = 2 ∨ s.plState = 3) (hmeas : s.flag F.PLINTH_STATUS_MEAS_OK = true) :
    ∃ t, exec .buckAStop s = .next t ∧ t.plState = 1 ∧ t.plinth.session = some s.plinth.cyc ∧ t.get (opF 2) = 2 ∧
      (∀ d : Fin 12, pdStore d = false → t.pdOn d = false ∧ t.flag (pdCtrlF d) = false) ∧
      (∀ d : Fin 12, pdStore d = true → t.pdOn d = s.pdOn d) ∧
      t.flag (padHoldF 1) = true ∧ t.flag (padHoldF 11) = true ∧ t.get F.SYS_RAILS_STORE_SUPPLY = 1 ∧ t.get F.SYS_RAILS_BUCKA_ON = 0 ∧
      KeepsOutside [zone R.SYS_ID, zone R.COURH_STATUS, zone R.DIAG_MAINT_REQ, zone R.DRV_STATUS, zone R.EPOCH_CTRL, zone R.GRID_CFG, zone R.LANE_STATUS,
            zone (R.LP_CTRL 0), zone R.METER_CTRL, zone R.PLC_STATUS, zone (R.PWM_CTRL 0), zone R.RELAY_CFG, zone R.SENSG_STATUS, zone R.SENSP_STATUS,
            zone R.WCMPG_STATUS, zone R.WCMPP_STATUS, zone R.SV_INFO, (0x400D0000, 0x400E0000)]
          [.mem, .shadow, .draws, .raised, .pwm, .plinth, .sens, .wcmp, .loop, .drive, .diag, .grid, .relay, .meter, .sv, .hok, .cour] s t := by
  have hexec : exec .buckAStop s = .next s.buckToStore := (if_pos hst).trans (congrArg Host.Outcome.next (if_pos hmeas))
  obtain ⟨hsupply, hbuck, hsupplied⟩ := s.storeSupplied_facts
  obtain ⟨hstate, hsession, henter⟩ := s.storeSupplied.storeDropped.storePadded.enterStore_facts
  obtain ⟨hop, hlowSession, hlow⟩ := (s.storeSupplied.storeDropped.storePadded.enterStore).pd2Low_facts
  have hlast := s.buckToStore_after
  have hcyc : s.storeSupplied.storeDropped.storePadded.plinth.cyc = s.plinth.cyc :=
    (State.padHold_cyc _ 11).trans ((State.padHold_cyc _ 1).trans (State.storeDropped_cyc _))
  have hpad (g : Fld) (hg : ∀ f ∈ [F.PLINTH_STATUS_STATE, F.PLINTH_ACT_CNT_ADMITTED, opF 2, curOpF 2, stepF 2], f.apart g = true) :
      s.buckToStore.get g = s.storeSupplied.storeDropped.storePadded.get g := by
    have htail : Keeps [F.PLINTH_STATUS_STATE, F.PLINTH_ACT_CNT_ADMITTED, opF 2, curOpF 2, stepF 2] [.plinth] s.storeSupplied.storeDropped.storePadded s.buckToStore :=
      .after hlow (.after henter (.refl _ _ _))
    exact htail.get_eq g hg
  have hon (d : Nat) : s.buckToStore.pdOn d = s.storeSupplied.storeDropped.pdOn d := State.pdOn_congr (hlast.get_eq _ (by decide)) d
  refine ⟨_, hexec, ?_, ?_, hop, fun d hstore => ?_, fun d hstore => ?_, ?_, ?_, ?_, ?_, s.buckToStore_outside⟩
  · exact (hlow.get_eq F.PLINTH_STATUS_STATE (by decide)).trans hstate
  · exact hlowSession.trans (hsession.trans (congrArg some hcyc))
  · obtain ⟨hoff, hctrl⟩ := s.storeSupplied.storeDropped_off d.2 hstore
    refine ⟨(hon d).trans hoff, ?_⟩
    have hkept : s.buckToStore.get (pdCtrlF d) = s.storeSupplied.storeDropped.get (pdCtrlF d) := hlast.get_eq _ fun f hf => Fld.apart_of_addr (by
      have hfar : ∀ f ∈ storeFlds, f.addr ≠ R.SYS_PD_CTRL := by decide
      exact hfar f hf)
    rw [State.flag, hkept]
    exact hctrl
  · exact (hon d).trans ((s.storeSupplied.storeDropped_on d.2 hstore).trans (State.pdOn_congr (hsupplied.get_eq _ (by decide)) d))
  · rw [State.flag, hpad _ (by decide), State.storePadded, (State.padHold_keeps _ 11).get_eq _ (by decide)]
    exact State.padHold_flag _ (by decide)
  · rw [State.flag, hpad _ (by decide)]
    exact State.padHold_flag _ (by decide)
  · exact (s.buckToStore_own (by decide) (by decide) (by decide)).trans hsupply
  · exact (s.buckToStore_own (by decide) (by decide) (by decide)).trans hbuck

end

/-- Settles O41: an update of the energy writes the flags alone or, where the level falls in STORE or START, ends in SLEEP; a supply lost ends in STORE
with the domains off that it does not permit, or in SLEEP. -/
theorem energyAndSupplies : Obligations.EnergyAndSupplies := by
  unfold Obligations.EnergyAndSupplies
  intro s
  refine ⟨fun h v0 v1 v2 v3 c vdrv halive hno => energy_seen h v0 v1 v2 v3 c vdrv halive hno,
    fun h v0 v1 v2 v3 c vdrv halive hwas hlow hst hc => energy_aborts h v0 v1 v2 v3 c vdrv halive hwas hlow hst hc,
    fun hdead h v0 v1 v2 v3 c vdrv => if_neg (by simp [hdead]), fun halive hst => buckB_good halive hst, fun hst hnot => fail_warns hst hnot, fun hno => ?_,
    fun hact => fail_restored hact, fun hst hmeas => falls_to_store hst hmeas, fun hst hmeas hc => ?_, fun hst => if_neg (by omega)⟩
  · refine if_neg ?_
    rcases hno with hst | hact
    · simp [hst]
    · simp [hact]
  · have hexec : exec .buckAStop s = .next s.enterSleep := (if_pos hst).trans (congrArg Host.Outcome.next (if_neg (by simp [hmeas])))
    exact ⟨_, hexec, (Drowsy.refl hc).slept (.refl [] _ _) (by simp)⟩

end Sys2Proof.Machine
end

section
/-!
Proofs about the grid pair's evaluations and the line-cycle boundaries (chapters 10 and 11).
The proofs are elaborated in turn: in one text, proofs that wait for each other would each hold a thread.
-/

set_option Elab.async false

namespace Sys2Proof.Machine

/-! # O23: the grid pair's evaluations and the line-cycle boundaries (chapters 10 and 11) -/

theorem State.gridTake_keeps (s : State) (g : GridIn) :
    Keeps [F.GRID_STATUS_VALID, F.GRID_V_MEAN, F.GRID_V_HIGH, F.GRID_FREQ_FREQ, F.GRID_STICKY_VALID_LOST] [.grid] s (s.gridTake g) :=
  .ite' (.after (State.modGrid_keeps ..) (.put' (.put' (.put' (.put' (.refl _ _ _)))))) (.set1' (.put' (.put' (.put' (.refl _ _ _)))))

theorem State.curvesStep_keeps (s : State) (g : GridIn) :
    Keeps [] [.grid] s (s.curvesStep g) :=
  .forEach' (.refl _ _ _) (fun _ _ => .forEach' (.refl _ _ _) (fun _ _ => .after (State.modGrid_keeps ..) (.refl _ _ _)))

theorem State.rcStep_keeps (s : State) :
    Keeps [whole R.GRID_RC_CEIL] [.grid] s s.rcStep := by
  unfold State.rcStep
  split
  · exact .after (State.modGrid_keeps ..) (.wr' (.refl _ _ _))
  · exact (.refl _ _ _)

theorem State.fnFilter_keeps (s : State) (g : GridIn) :
    Keeps [] [.grid] s (s.fnFilter g) :=
  .after (State.modGrid_keeps ..) (.refl _ _ _)

theorem State.slotPut_keeps (s : State) (p : ℕ) (n : ℕ) (w : Word) :
    Keeps [] [.shadow] s (s.slotPut p n w) :=
  .toShadow' (.refl _ _ _)

theorem State.fnRefs_keeps (s : State) (p : ℕ) (g : GridIn) :
    Keeps [whole R.GRID_QREF, whole R.GRID_PLIMIT, F.GRID_STATUS_VW_ACTIVE, F.GRID_STATUS_FW_ACTIVE, F.GRID_STATUS_Q_LIMITED] [.grid, .shadow] s (s.fnRefs p g) :=
  .put' (.put' (.put' (.wr' (.wr' (.after (State.slotPut_keeps ..) (.after (State.slotPut_keeps ..) (.after (State.fnFilter_keeps ..) (.refl _ _ _))))))))

theorem State.gridSlots_keeps (s : State) (p : ℕ) (g : GridIn) :
    Keeps [whole R.GRID_IQF] [.shadow, .grid] s (s.gridSlots p g) :=
  .after (State.modGrid_keeps ..) (.after (State.slotPut_keeps ..) (.after (State.slotPut_keeps ..) (.after (State.slotPut_keeps ..) (.after (State.slotPut_keeps ..) (.after (State.slotPut_keeps ..) (.ite' (.wr' (.after (State.slotPut_keeps ..) (.refl _ _ _))) (.refl _ _ _)))))))

theorem State.probeBegin_keeps (s : State) (passive : Bool) :
    Keeps [F.GRID_RT_STATUS_PROBE] [.grid] s (s.probeBegin passive) :=
  .after (State.modGrid_keeps ..) (.put' (.refl _ _ _))

theorem State.probeTrigger_keeps (s : State) :
    Keeps [F.GRID_RT_STATUS_PROBE] [.grid] s s.probeTrigger :=
  .ite' (.refl _ _ _) (.ite' (.after (State.modGrid_keeps ..) (.refl _ _ _)) (.after (State.probeBegin_keeps ..) (.refl _ _ _)))


section
variable {s : State}

theorem State.gridTake_frame (s : State) (g : GridIn) : Keeps [F.GRID_STATUS_VALID, F.GRID_V_HIGH, F.GRID_V_MEAN, F.GRID_FREQ_FREQ, F.GRID_STICKY_VALID_LOST] [.grid] s (s.gridTake g) := (.after (State.gridTake_keeps ..) (.refl _ _ _))

theorem State.curvesStep_frame (s : State) (g : GridIn) : Keeps [] [.grid] s (s.curvesStep g) := (.after (State.curvesStep_keeps ..) (.refl _ _ _))

theorem State.rcStep_frame (s : State) : Keeps [whole R.GRID_RC_CEIL] [.grid] s s.rcStep := (.after (State.rcStep_keeps ..) (.refl _ _ _))

theorem State.fnRefs_frame (s : State) (p : Nat) (g : GridIn) : Keeps [whole R.GRID_PLIMIT, whole R.GRID_QREF, F.GRID_STATUS_Q_LIMITED, F.GRID_STATUS_FW_ACTIVE, F.GRID_STATUS_VW_ACTIVE]
    [.shadow, .grid] s (s.fnRefs p g) := (.after (State.fnRefs_keeps ..) (.refl _ _ _))

theorem State.gridSlots_frame (s : State) (p : Nat) (g : GridIn) : Keeps [whole R.GRID_IQF] [.shadow, .grid] s (s.gridSlots p g) := (.after (State.gridSlots_keeps ..) (.refl _ _ _))

theorem State.probeTrigger_frame (s : State) : Keeps [F.GRID_RT_STATUS_PROBE] [.grid] s s.probeTrigger := (.after (State.probeTrigger_keeps ..) (.refl _ _ _))

theorem State.transfer_frame (s : State) (f : Fld) : Keeps [f] [.shadow] s (s.transfer f) := (.transfer' (.refl _ _ _))

/-! ### Set-point slots of the pair (R190, Table GSP-2) -/

/-- A set-point slot of a pair. -/
def slotFld (p n : Nat) : Fld := ⟨tcmBase p + 0x4000 + 4 * n, 0, 32⟩

/-- A slot holds a word for the pair's next execution. -/
def State.slotHolds (s : State) (p n : Nat) (w : Word) : Prop := s.shadowed (slotFld p n) = true ∧ s.shadowGet (slotFld p n) = w.toNat

theorem State.shadowGet_of_shadow {t : State} {f : Fld} (hsh : t.shadow = s.shadow) (h : s.shadowed f = true) : t.shadowed f = true ∧ t.shadowGet f = s.shadowGet f := by
  have ht : t.shadowed f = true := by
    unfold State.shadowed at h ⊢
    rwa [hsh]
  refine ⟨ht, ?_⟩
  rw [State.shadowGet, State.shadowGet, if_pos ht, if_pos h, hsh]

theorem State.slotHolds_of_shadow {t : State} {p n : Nat} {w : Word} (hsh : t.shadow = s.shadow) (h : s.slotHolds p n w) : t.slotHolds p n w := by
  obtain ⟨ht, heq⟩ := State.shadowGet_of_shadow hsh h.1
  exact ⟨ht, heq.trans h.2⟩

theorem State.slotPut_holds (s : State) (p n : Nat) (w : Word) : (s.slotPut p n w).slotHolds p n w := by
  refine ⟨State.shadowed_toShadow s _ _ (show 0 < 32 by decide), (State.shadowGet_toShadow s _ _ (show 0 < 32 by decide)).trans ?_⟩
  exact Nat.mod_eq_of_lt w.isLt

theorem State.slotPut_other {p n m : Nat} {w : Word} (v : Word) (hne : n ≠ m) (h : s.slotHolds p m w) : (s.slotPut p n v).slotHolds p m w := by
  have haddr : (slotFld p m).addr ≠ (slotFld p n).addr := by
    show tcmBase p + 0x4000 + 4 * m ≠ tcmBase p + 0x4000 + 4 * n
    omega
  have hsh : (s.slotPut p n v).shadow.get (slotFld p m).addr = s.shadow.get (slotFld p m).addr := State.toShadow_shadow_other s v.toNat haddr
  have ht : (s.slotPut p n v).shadowed (slotFld p m) = true := by
    have hm := h.1
    unfold State.shadowed at hm ⊢
    rwa [hsh]
  refine ⟨ht, ?_⟩
  have hm := h.2
  rw [State.shadowGet, if_pos h.1] at hm
  rw [State.shadowGet, if_pos ht, hsh, hm]

/-! ### What an image alone gives -/

theorem State.sec_congr {t : State} (h : t.img = s.img) (ty inst : Nat) : t.sec ty inst = s.sec ty inst := by
  unfold State.sec
  rw [h]

theorem State.topo_congr {t : State} (h : t.img = s.img) (o n : Nat) : t.topo o n = s.topo o n := by rw [State.topo, State.topo, State.sec_congr h]

theorem State.gc_congr {t : State} (h : t.img = s.img) (o n : Nat) : t.gc o n = s.gc o n := by rw [State.gc, State.gc, State.sec_congr h]

theorem State.iMax_congr {t : State} (h : t.img = s.img) : t.iMax = s.iMax := by rw [State.iMax, State.iMax, State.ratedI, State.ratedI, State.topo_congr h]

theorem State.vNom_congr {t : State} (h : t.img = s.img) : t.vNom = s.vNom := by rw [State.vNom, State.vNom, State.topo_congr h]

theorem State.nomF_congr {t : State} (h : t.img = s.img) : t.nomF = s.nomF := by rw [State.nomF, State.nomF, State.topo_congr h]

/-! ### What the operation of the connection leaves of the block's own record -/

/-- The record of the curves, of the line cycles and of the executions stands. -/
structure SameGrid (s t : State) : Prop where
  entered : t.grid.entered = s.grid.entered
  invalid : t.grid.invalid = s.grid.invalid
  syncLost : t.grid.syncLost = s.grid.syncLost
  upd : t.grid.upd = s.grid.upd
  cPrev : t.grid.cPrev = s.grid.cPrev
  cNext : t.grid.cNext = s.grid.cNext
  good : t.grid.good = s.grid.good
  bad : t.grid.bad = s.grid.bad

/-- The record of the curves stands. -/
structure SameCurves (s t : State) : Prop where
  entered : t.grid.entered = s.grid.entered
  invalid : t.grid.invalid = s.grid.invalid
  syncLost : t.grid.syncLost = s.grid.syncLost

theorem SameGrid.curves {t : State} (h : SameGrid s t) : SameCurves s t := ⟨h.entered, h.invalid, h.syncLost⟩

theorem SameCurves.trans {t u : State} (h : SameCurves s t) (k : SameCurves t u) : SameCurves s u :=
  ⟨k.entered.trans h.entered, k.invalid.trans h.invalid, k.syncLost.trans h.syncLost⟩

theorem SameGrid.of_eq {t : State} (h : t.grid = s.grid) : SameGrid s t := by
  constructor <;> rw [h]

theorem SameGrid.refl (s : State) : SameGrid s s := .of_eq rfl

theorem SameGrid.trans {t u : State} (h : SameGrid s t) (k : SameGrid t u) : SameGrid s u :=
  ⟨k.entered.trans h.entered, k.invalid.trans h.invalid, k.syncLost.trans h.syncLost, k.upd.trans h.upd, k.cPrev.trans h.cPrev, k.cNext.trans h.cNext,
    k.good.trans h.good, k.bad.trans h.bad⟩

theorem SameGrid.ite {p : Prop} [Decidable p] {t u : State} (ht : SameGrid s t) (hu : SameGrid s u) : SameGrid s (if p then t else u) := by
  split
  · exact ht
  · exact hu

theorem State.probeAbandon_sameGrid (s : State) : SameGrid s s.probeAbandon := ⟨rfl, rfl, rfl, rfl, rfl, rfl, rfl, rfl⟩

theorem State.setOp_sameGrid (s : State) (op : Nat) : SameGrid s (s.setOp op) := .of_eq ((State.setOp_frame s op).2 .grid (by decide))

theorem State.opAway_sameGrid (s : State) (op : Nat) : SameGrid s (s.opAway op) := s.probeAbandon_sameGrid.trans (State.setOp_sameGrid _ op)

theorem State.gridTrip_sameGrid (s : State) (cause curve point : Nat) : SameGrid s (s.gridTrip cause curve point) := by
  have hstop : SameGrid s s.gridStopped := .of_eq (s.gridStopped_outside.2 .grid (by decide))
  have hopen (t : State) : SameGrid t t.enterOpening := .of_eq (t.enterOpening_frame.2 .grid (by decide))
  have hnoted (t : State) (n : Nat) : SameGrid t ((((t.put F.GRID_TRIP_INFO_CAUSE cause).put F.GRID_TRIP_INFO_CURVE curve).put F.GRID_TRIP_INFO_POINT point).wr R.GRID_TRIP_TICK
      (w32 n) |>.modGrid fun g => { g with startAt := none }) := ⟨rfl, rfl, rfl, rfl, rfl, rfl, rfl, rfl⟩
  have hraised (t : State) : SameGrid t ((t.set1 F.GRID_RT_STICKY_TRIPPED).raise FS.GRID_TRIP) := .of_eq rfl
  have hevent (t : State) (was : Nat) : SameGrid t (t.openingEvent was) := .of_eq ((t.openingEvent_frame was).2 .grid (by decide))
  exact hstop.trans (.trans (State.probeAbandon_sameGrid _) (.trans (hopen _) (.trans (State.setOp_sameGrid _ 0) (.trans (hnoted _ _) (.trans (hraised _) (hevent _ _))))))

theorem State.probeTrigger_sameGrid (s : State) : SameGrid s s.probeTrigger :=
  .ite (.refl s) (.ite ⟨rfl, rfl, rfl, rfl, rfl, rfl, rfl, rfl⟩ ⟨rfl, rfl, rfl, rfl, rfl, rfl, rfl, rfl⟩)

theorem State.rcStep_sameGrid (s : State) : SameGrid s s.rcStep := by
  unfold State.rcStep
  split
  · exact ⟨rfl, rfl, rfl, rfl, rfl, rfl, rfl, rfl⟩
  · exact .refl s

theorem State.fnRefs_sameGrid (s : State) (p : Nat) (g : GridIn) : SameGrid s (s.fnRefs p g) := by
  have hfilter : SameGrid s (s.fnFilter g) := ⟨rfl, rfl, rfl, rfl, rfl, rfl, rfl, rfl⟩
  exact hfilter.trans ⟨rfl, rfl, rfl, rfl, rfl, rfl, rfl, rfl⟩

/-! ### Fields of the grid block that a stage leaves -/

/-- The fields of the grid block apart from those listed stand. -/
def LeavesGrid (fs : List Fld) (s t : State) : Prop :=
  ∀ g : Fld, (zone R.GRID_CFG).1 ≤ g.addr → g.addr < (zone R.GRID_CFG).2 → (∀ f ∈ fs, f.apart g = true) → t.get g = s.get g

theorem LeavesGrid.refl (fs : List Fld) (s : State) : LeavesGrid fs s s := fun _ _ _ _ => rfl

theorem LeavesGrid.trans {fs : List Fld} {t u : State} (h : LeavesGrid fs s t) (k : LeavesGrid fs t u) : LeavesGrid fs s u :=
  fun g hlo hhi hg => (k g hlo hhi hg).trans (h g hlo hhi hg)

theorem LeavesGrid.ite {fs : List Fld} {p : Prop} [Decidable p] {t u : State} (ht : LeavesGrid fs s t) (hu : LeavesGrid fs s u) :
    LeavesGrid fs s (if p then t else u) := by
  split
  · exact ht
  · exact hu

theorem LeavesGrid.mono {fs gs : List Fld} {t : State} (h : LeavesGrid gs s t) (hsub : gs ⊆ fs) : LeavesGrid fs s t :=
  fun g hlo hhi hg => h g hlo hhi fun f hf => hg f (hsub hf)

/-- A frame whose fields are listed, or lie in another block. -/
theorem Keeps.leavesGrid {fs gs : List Fld} {ps : List Part} {t : State} (h : Keeps gs ps s t)
    (hin : ∀ f ∈ gs, f ∈ fs ∨ f.addr < (zone R.GRID_CFG).1 ∨ (zone R.GRID_CFG).2 ≤ f.addr) : LeavesGrid fs s t := by
  intro g hlo hhi hg
  refine h.get_eq g fun f hf => ?_
  obtain hmem | hout := hin f hf
  · exact hg f hmem
  · exact Fld.apart_of_addr (by omega)

theorem KeepsOutside.leavesGrid {fs : List Fld} {rs : List (Nat × Nat)} {ps : List Part} {t : State} (h : KeepsOutside rs ps s t)
    (hout : ∀ r ∈ rs, r.2 ≤ (zone R.GRID_CFG).1 ∨ (zone R.GRID_CFG).2 ≤ r.1) : LeavesGrid fs s t :=
  fun g hlo hhi _ => h.get_eq g fun r hr => by have := hout r hr; omega

/-- What a trip writes in the grid block. -/
def tripFlds : List Fld := [F.GRID_RT_STATUS_PROBE, F.GRID_RT_STATUS_CHECK_OK, F.GRID_RT_STATUS_CONN_STATE, F.GRID_RT_STATUS_OP_STATE, F.GRID_STATUS_FORMING,
  F.GRID_RT_STICKY_FCI_SEEN, F.GRID_RT_STICKY_CEASED, F.GRID_TRIP_INFO_CAUSE, F.GRID_TRIP_INFO_CURVE, F.GRID_TRIP_INFO_POINT, whole R.GRID_TRIP_TICK,
  F.GRID_RT_STICKY_TRIPPED]

theorem State.setOp_leaves (s : State) (op : Nat) : LeavesGrid tripFlds s (s.setOp op) := (State.setOp_frame s op).leavesGrid (by decide)

theorem State.probeAbandon_leaves (s : State) : LeavesGrid tripFlds s s.probeAbandon := (State.probeAbandon_frame s).leavesGrid (by decide)

theorem State.opAway_leaves (s : State) (op : Nat) : LeavesGrid tripFlds s (s.opAway op) := s.probeAbandon_leaves.trans (State.setOp_leaves _ op)

theorem State.gridTrip_leaves (s : State) (cause curve point : Nat) : LeavesGrid tripFlds s (s.gridTrip cause curve point) := by
  have hstop : LeavesGrid tripFlds s s.gridStopped := s.gridStopped_outside.leavesGrid (by decide)
  have hopen (t : State) : LeavesGrid tripFlds t t.enterOpening := t.enterOpening_frame.leavesGrid (by decide)
  have hopened : LeavesGrid tripFlds s s.tripOpened := hstop.trans (.trans (State.probeAbandon_leaves _) (.trans (hopen _) (State.setOp_leaves _ 0)))
  exact hopened.trans ((s.gridTrip_record cause curve point).leavesGrid (by decide))

theorem State.probeTrigger_leaves (s : State) : LeavesGrid tripFlds s s.probeTrigger := s.probeTrigger_frame.leavesGrid (by decide)

/-! ### The operation of the connection (Table RTI-1) -/

section
variable (s : State) (g : GridIn) (region : Nat)

/-- A confirmed island noted, counted and raised. -/
def State.islandNoted (s : State) (g : GridIn) : State :=
  if s.islandNow g then ((s.set1 F.GRID_RT_STICKY_ISLAND).incSat F.GRID_ISL_CNT_CONFIRM).raise FS.GRID_ISLAND else s

theorem State.islandNoted_frame : Keeps [F.GRID_RT_STICKY_ISLAND, F.GRID_ISL_CNT_CONFIRM] [.raised] s (s.islandNoted g) :=
  .ite' (.raise' (.incSat' (.set1' (.refl _ _ s)))) (.refl _ _ s)

theorem State.islandNoted_sameGrid : SameGrid s (s.islandNoted g) := .of_eq ((s.islandNoted_frame g).2 .grid (by decide))

theorem State.islandNoted_conn : (s.islandNoted g).conn = s.conn := (s.islandNoted_frame g).get_eq _ (by decide)

theorem State.islandNoted_counts (h : s.islandNow g = true) : (s.islandNoted g).get F.GRID_RT_STICKY_ISLAND = 1 ∧
    (s.islandNoted g).get F.GRID_ISL_CNT_CONFIRM = satInc F.GRID_ISL_CNT_CONFIRM.len (s.get F.GRID_ISL_CNT_CONFIRM) := by
  rw [State.islandNoted, if_pos h]
  refine ⟨?_, ?_⟩
  · exact (State.get_put_other (s.set1 F.GRID_RT_STICKY_ISLAND) _ _ _ (by decide)).trans (State.get_put_same _ _ _ (by decide))
  · refine (State.get_incSat_same (s.set1 F.GRID_RT_STICKY_ISLAND) _ (by decide)).trans ?_
    rw [satInc_eq _ _ (s.get_lt _)]
    exact congrArg (fun n => min (n + 1) _) (State.get_put_other s _ _ _ (by decide))

/-- The operation while CONNECTED with no trip and no cessation. -/
def State.gridOperates (s : State) (g : GridIn) (region : Nat) : State :=
  if s.flag F.GRID_MODE_FORMING then s.opAway 3
  else if region ≠ 1 ∧ (if g.valid then s.fciApplies g else s.flag F.GRID_RT_STATUS_FCI) then s.opAway 2
  else
    let s := s.setOp 1
    if s.flag F.GRID_RT_STATUS_PASSIVE then
      if region = 1 then s.gridTrip Cause.passive 0 0 else s.probeTrigger
    else s

theorem State.gridConnected_eq : s.gridConnected g region =
    if region = 4 ∨ s.islandNow g then (s.islandNoted g).gridTrip (s.islandNoted g).tripCause.1 (s.islandNoted g).tripCause.2.1 (s.islandNoted g).tripCause.2.2
    else if region = 3 then (s.islandNoted g).opAway 0 else (s.islandNoted g).gridOperates g region := rfl

theorem State.gridOperates_leaves : LeavesGrid tripFlds s (s.gridOperates g region) :=
  .ite (s.opAway_leaves 3) (.ite (s.opAway_leaves 2) ((s.setOp_leaves 1).trans
    (.ite (.ite (State.gridTrip_leaves _ _ _ _) (State.probeTrigger_leaves _)) (.refl _ _))))

theorem State.gridOperates_sameGrid : SameGrid s (s.gridOperates g region) :=
  .ite (s.opAway_sameGrid 3) (.ite (s.opAway_sameGrid 2) ((s.setOp_sameGrid 1).trans
    (.ite (.ite (State.gridTrip_sameGrid ..) (State.probeTrigger_sameGrid _)) (.refl _))))

/-- What the operation writes in the grid block. -/
def opFlds : List Fld := F.GRID_RT_STICKY_ISLAND :: F.GRID_ISL_CNT_CONFIRM :: tripFlds

theorem tripFlds_sub_opFlds : tripFlds ⊆ opFlds := fun _ h => by simp [opFlds, h]

theorem State.gridConnected_island_leaves : LeavesGrid tripFlds (s.islandNoted g) (s.gridConnected g region) := by
  rw [s.gridConnected_eq g region]
  exact .ite (State.gridTrip_leaves _ _ _ _) (.ite (State.opAway_leaves _ _) (State.gridOperates_leaves _ g region))

/-- The stage of an evaluation that runs the operation. -/
def State.evalOperated (s : State) (g : GridIn) (region : Nat) : State := if s.conn = 3 then s.gridConnected g region else s.opIdle

theorem State.opIdle_leaves : LeavesGrid tripFlds s s.opIdle := .ite (.refl _ s) (s.opAway_leaves _)

theorem State.evalOperated_leaves : LeavesGrid opFlds s (s.evalOperated g region) := by
  have hisland : LeavesGrid opFlds s (s.islandNoted g) := (s.islandNoted_frame g).leavesGrid (by decide)
  exact .ite (hisland.trans ((s.gridConnected_island_leaves g region).mono tripFlds_sub_opFlds)) (s.opIdle_leaves.mono tripFlds_sub_opFlds)

theorem State.evalOperated_sameGrid : SameGrid s (s.evalOperated g region) := by
  have hconnected : SameGrid s (s.gridConnected g region) := by
    rw [s.gridConnected_eq g region]
    exact (s.islandNoted_sameGrid g).trans (.ite (State.gridTrip_sameGrid ..) (.ite (State.opAway_sameGrid _ _) (State.gridOperates_sameGrid ..)))
  exact .ite hconnected (.ite (.refl s) (s.opAway_sameGrid _))

theorem State.evalOperated_island (hconn : s.conn = 3) (h : s.islandNow g = true) : (s.evalOperated g region).get F.GRID_RT_STICKY_ISLAND = 1 ∧
    (s.evalOperated g region).get F.GRID_ISL_CNT_CONFIRM = satInc F.GRID_ISL_CNT_CONFIRM.len (s.get F.GRID_ISL_CNT_CONFIRM) := by
  obtain ⟨hsticky, hcount⟩ := s.islandNoted_counts g h
  have hleaves := s.gridConnected_island_leaves g region
  rw [State.evalOperated, if_pos hconn]
  exact ⟨(hleaves _ (by decide) (by decide) (by decide)).trans hsticky, (hleaves _ (by decide) (by decide) (by decide)).trans hcount⟩

/-- A trip's outcome. -/
structure Tripped (n : Nat) (t : State) : Prop where
  conn : t.conn = 4
  op : t.get F.GRID_RT_STATUS_OP_STATE = 0
  tripped : t.get F.GRID_RT_STICKY_TRIPPED = 1
  k1 : t.get F.RELAY_STATUS_K1_CMD = 0
  k2 : t.get F.RELAY_STATUS_K2_CMD = 0
  tick : t.rd R.GRID_TRIP_TICK = BitVec.ofNat 32 n
  raised : t.raised.getLast? = some ⟨FS.GRID_TRIP, 0⟩

theorem State.gridTrip_outcome (hconn : s.conn = 3) (cause curve point : Nat) : Tripped s.epoch (s.gridTrip cause curve point) := by
  obtain ⟨hk1, hk2, -⟩ := s.gridTrip_cmds cause curve point
  refine ⟨?_, s.gridTrip_op _ _ _, s.gridTrip_tripped _ _ _, hk1, hk2, s.gridTrip_tick _ _ _, ?_⟩
  · rw [State.gridTrip_conn, if_neg (by omega)]
  · rw [State.gridTrip_raised, List.getLast?_concat]

theorem State.evalOperated_trips (hconn : s.conn = 3) (h : region = 4 ∨ s.islandNow g = true) : Tripped s.epoch (s.evalOperated g region) := by
  rw [State.evalOperated, if_pos hconn, State.gridConnected_eq, if_pos h]
  have hepoch : (s.islandNoted g).epoch = s.epoch := (s.islandNoted_frame g).2 .epoch (by decide)
  rw [← hepoch]
  exact State.gridTrip_outcome _ ((s.islandNoted_conn g).trans hconn) _ _ _

theorem State.setOp_ceases (h : s.conn = 3) : (s.setOp 0).get F.GRID_RT_STICKY_CEASED = 1 := by
  have hc : ((s.put F.GRID_RT_STATUS_OP_STATE 0).put F.GRID_STATUS_FORMING (b2n (0 == 3))).conn = 3 := by
    refine Eq.trans ?_ h
    simp [State.conn]
  have hset : s.setOp 0 = ((s.put F.GRID_RT_STATUS_OP_STATE 0).put F.GRID_STATUS_FORMING (b2n (0 == 3))).set1 F.GRID_RT_STICKY_CEASED := if_pos ⟨rfl, hc⟩
  rw [hset]
  exact State.get_put_same _ _ _ (by decide)

theorem State.evalOperated_ceases (hconn : s.conn = 3) (hregion : region = 3) (h : s.islandNow g = false) : (s.evalOperated g region).conn = 3 ∧
    (s.evalOperated g region).get F.GRID_RT_STATUS_OP_STATE = 0 ∧ (s.evalOperated g region).get F.GRID_RT_STICKY_CEASED = 1 := by
  rw [State.evalOperated, if_pos hconn, State.gridConnected_eq, if_neg (by simp [hregion, h]), if_pos hregion]
  have hc : (s.islandNoted g).probeAbandon.conn = 3 :=
    ((State.probeAbandon_frame _).get_eq _ (by decide)).trans ((s.islandNoted_conn g).trans hconn)
  exact ⟨((State.setOp_frame _ 0).get_eq _ (by decide)).trans hc, State.setOp_get _ 0 (by decide), State.setOp_ceases _ hc⟩

theorem State.evalOperated_idle (hconn : s.conn ≠ 3) : Keeps [F.GRID_RT_STATUS_PROBE, F.GRID_RT_STATUS_OP_STATE, F.GRID_STATUS_FORMING, F.GRID_RT_STICKY_FCI_SEEN,
    F.GRID_RT_STICKY_CEASED] [.grid] s (s.evalOperated g region) := by
  rw [State.evalOperated, if_neg hconn]
  exact .ite' (.refl _ _ s) (.after (State.setOp_frame _ _) (.after s.probeAbandon_frame (.refl _ _ s)))

/-- What the evaluation of a connected device may reach. -/
def tripParts : List Part := [.shadow, .raised, .draws, .pwm, .drive, .grid, .relay, .cour]

theorem State.opAway_outside (s : State) (op : Nat) : KeepsOutside [zone R.GRID_CFG] [.grid] s (s.opAway op) :=
  .after ((State.setOp_frame _ op).toOutside (rs := [zone R.GRID_CFG]) (by decide)) (s.probeAbandon_frame.toOutside (by decide))

theorem State.gridOperates_outside : KeepsOutside [zone R.GRID_CFG, zone R.RELAY_CFG, zone (R.PWM_CTRL 0)] tripParts s (s.gridOperates g region) := by
  have haway (op : Nat) : KeepsOutside [zone R.GRID_CFG, zone R.RELAY_CFG, zone (R.PWM_CTRL 0)] tripParts s (s.opAway op) := .after (s.opAway_outside op) (.refl _ _ s)
  have hop : KeepsOutside [zone R.GRID_CFG, zone R.RELAY_CFG, zone (R.PWM_CTRL 0)] tripParts s (s.setOp 1) :=
    .after ((State.setOp_frame _ 1).toOutside (rs := [zone R.GRID_CFG]) (by decide)) (.refl _ _ s)
  exact .ite' (haway 3) (.ite' (haway 2) (.ite' (.ite' (.after (State.gridTrip_outside _ _ _ _) hop)
    (.after ((State.probeTrigger_frame _).toOutside (rs := [zone R.GRID_CFG]) (by decide)) hop)) hop))

theorem State.evalOperated_outside : KeepsOutside [zone R.GRID_CFG, zone R.RELAY_CFG, zone (R.PWM_CTRL 0)] tripParts s (s.evalOperated g region) := by
  have hisland : KeepsOutside [zone R.GRID_CFG, zone R.RELAY_CFG, zone (R.PWM_CTRL 0)] tripParts s (s.islandNoted g) :=
    .after ((s.islandNoted_frame g).toOutside (rs := [zone R.GRID_CFG]) (by decide)) (.refl _ _ s)
  have hconnected : KeepsOutside [zone R.GRID_CFG, zone R.RELAY_CFG, zone (R.PWM_CTRL 0)] tripParts s (s.gridConnected g region) := by
    rw [s.gridConnected_eq g region]
    exact .ite' (.after (State.gridTrip_outside _ _ _ _) hisland) (.ite' (.after (State.opAway_outside _ 0) hisland) (.after (State.gridOperates_outside _ g region) hisland))
  exact .ite' hconnected (.ite' (.refl _ _ s) (.after (s.opAway_outside _) (.refl _ _ s)))

end

/-! ### The stages of an evaluation -/

section
variable (s : State) (p : Nat) (g : GridIn) (region : Nat)

/-- What the pair lent is taken, and the curves step. -/
def State.evalTaken (s : State) (g : GridIn) : State :=
  let s := (((s.transfer F.GRID_P_CURT_P_CURT).transfer F.GRID_Q_SET_Q_SET).transfer F.GRID_PF_SET_PF_SET).gridTake g
  if g.valid then s.curvesStep g else s

/-- The region is judged and reported. -/
def State.evalJudged (s : State) (g : GridIn) : State :=
  let region := s.combined
  let s := (s.curveRegs).put F.GRID_RT_STATUS_REGION region
  if g.valid then s.put F.GRID_RT_STATUS_FCI (b2n (s.fciApplies g)) else s

/-- The references follow. -/
def State.evalReferred (s : State) (p : Nat) (g : GridIn) : State :=
  let s := s.rcStep
  if g.valid then s.fnRefs p g else s

/-- The slots are filled for the pair's next execution. -/
def State.evalLent (s : State) (p : Nat) (g : GridIn) : State := (s.gridSlots p g).modGrid fun d => { d with due := false, evalAt := some s.mono }

theorem State.gridEval_stages : s.gridEval p =
    (((((s.evalTaken s.grid.inp).evalJudged s.grid.inp).evalOperated s.grid.inp (s.evalTaken s.grid.inp).combined).evalReferred p s.grid.inp).evalLent p
      s.grid.inp).gridWait s.grid.inp (s.evalTaken s.grid.inp).combined := rfl

theorem State.evalTaken_frame : Keeps [F.GRID_P_CURT_P_CURT, F.GRID_Q_SET_Q_SET, F.GRID_PF_SET_PF_SET, F.GRID_STATUS_VALID, F.GRID_V_HIGH, F.GRID_V_MEAN,
    F.GRID_FREQ_FREQ, F.GRID_STICKY_VALID_LOST] [.shadow, .grid] s (s.evalTaken g) := by
  have htake : Keeps [F.GRID_P_CURT_P_CURT, F.GRID_Q_SET_Q_SET, F.GRID_PF_SET_PF_SET, F.GRID_STATUS_VALID, F.GRID_V_HIGH, F.GRID_V_MEAN,
    F.GRID_FREQ_FREQ, F.GRID_STICKY_VALID_LOST] [.shadow, .grid] s ((((s.transfer F.GRID_P_CURT_P_CURT).transfer F.GRID_Q_SET_Q_SET).transfer F.GRID_PF_SET_PF_SET).gridTake g) :=
    .after (State.gridTake_frame _ g) (.transfer' (.transfer' (.transfer' (.refl _ _ s))))
  exact .ite' (.after (State.curvesStep_frame _ g) htake) htake

/-- What a take reports. -/
structure Taken (g : GridIn) (t : State) : Prop where
  valid : t.get F.GRID_STATUS_VALID = b2n g.valid
  high : t.get F.GRID_V_HIGH = satTo 16 (roundAway (g.high * 100)).toNat
  mean : t.get F.GRID_V_MEAN = satTo 16 (roundAway (g.mean * 100)).toNat
  freq : g.valid = true → t.get F.GRID_FREQ_FREQ = satTo 20 (roundAway (g.f * 10000)).toNat

theorem State.gridTake_taken : Taken g (s.gridTake g) := by
  have h16 (n : Nat) : satTo 16 n % 2 ^ 16 = satTo 16 n := Nat.mod_eq_of_lt (satTo_lt 16 n)
  have h20 (n : Nat) : satTo 20 n % 2 ^ 20 = satTo 20 n := Nat.mod_eq_of_lt (satTo_lt 20 n)
  cases hv : g.valid
  · refine ⟨?_, ?_, ?_, fun h => absurd h (by simp [hv])⟩ <;> simp [State.gridTake, hv, b2n, -Nat.reducePow, h16]
  · refine ⟨?_, ?_, ?_, fun _ => ?_⟩ <;> simp [State.gridTake, State.modGrid, hv, b2n, -Nat.reducePow, h16, h20]

theorem Taken.of_leaves {g : GridIn} {fs : List Fld} {t : State} (h : Taken g s) (k : LeavesGrid fs s t)
    (hap : ∀ f ∈ fs, f.apart F.GRID_STATUS_VALID = true ∧ f.apart F.GRID_V_HIGH = true ∧ f.apart F.GRID_V_MEAN = true ∧ f.apart F.GRID_FREQ_FREQ = true) : Taken g t where
  valid := (k _ (by decide) (by decide) fun f hf => (hap f hf).1).trans h.valid
  high := (k _ (by decide) (by decide) fun f hf => (hap f hf).2.1).trans h.high
  mean := (k _ (by decide) (by decide) fun f hf => (hap f hf).2.2.1).trans h.mean
  freq hv := (k _ (by decide) (by decide) fun f hf => (hap f hf).2.2.2).trans (h.freq hv)

theorem State.evalTaken_taken : Taken g (s.evalTaken g) := by
  unfold State.evalTaken
  dsimp only
  split
  · exact (State.gridTake_taken _ g).of_leaves _ ((State.curvesStep_frame _ g).leavesGrid (fs := []) (by simp)) (by simp)
  · exact State.gridTake_taken _ g

theorem State.curvesStep_grid : (s.curvesStep g).grid.upd = s.grid.upd ∧ (s.curvesStep g).grid.probeF0 = s.grid.probeF0 := by
  unfold State.curvesStep
  refine State.forEach_inv (P := fun t => t.grid.upd = s.grid.upd ∧ t.grid.probeF0 = s.grid.probeF0) (fun c _ t ht => ?_) _ ⟨rfl, rfl⟩
  refine State.forEach_inv (P := fun t => t.grid.upd = s.grid.upd ∧ t.grid.probeF0 = s.grid.probeF0) (fun j _ t ht => ?_) _ ht
  exact ht

theorem State.evalTaken_grid : (s.evalTaken g).grid.upd = s.grid.upd ∧ (s.evalTaken g).grid.probeF0 = s.grid.probeF0 := by
  have htake (t : State) : (t.gridTake g).grid.upd = t.grid.upd ∧ (t.gridTake g).grid.probeF0 = t.grid.probeF0 := by
    unfold State.gridTake
    dsimp only
    split
    · exact ⟨rfl, rfl⟩
    · exact ⟨rfl, rfl⟩
  have htransfer (t : State) (f : Fld) : (t.transfer f).grid = t.grid := (t.transfer_frame f).2 .grid (by decide)
  have hlent := htake (((s.transfer F.GRID_P_CURT_P_CURT).transfer F.GRID_Q_SET_Q_SET).transfer F.GRID_PF_SET_PF_SET)
  rw [htransfer, htransfer, htransfer] at hlent
  unfold State.evalTaken
  dsimp only
  split
  · obtain ⟨hupd, hfreq⟩ := State.curvesStep_grid ((((s.transfer F.GRID_P_CURT_P_CURT).transfer F.GRID_Q_SET_Q_SET).transfer F.GRID_PF_SET_PF_SET).gridTake g) g
    exact ⟨hupd.trans hlent.1, hfreq.trans hlent.2⟩
  · exact hlent

/-- The register of a curve. -/
def State.curveReg (s : State) (c : Nat) : State :=
  match s.curveDeepest c with
  | none => s.wr (R.GRID_CURVE c) 0
  | some j =>
    let t := match s.grid.entered.get (16 * c + j) with | some t => s.mono - t | none => 0
    s.wr (R.GRID_CURVE c) (w32 (satTo 24 (t / 800000) * 256 + (j + 1)))

theorem State.curveRegs_eq : s.curveRegs = (((s.curveReg 0).curveReg 1).curveReg 2).curveReg 3 := by
  have hrange : List.range 4 = [0, 1, 2, 3] := rfl
  have hregs : s.curveRegs = s.forEach (List.range 4) State.curveReg := rfl
  rw [hregs, hrange, State.forEach, List.foldl_cons, List.foldl_cons, List.foldl_cons, List.foldl_cons, List.foldl_nil]

theorem State.curveReg_frame (c : Nat) : Keeps [whole (R.GRID_CURVE c)] [] s (s.curveReg c) := by
  unfold State.curveReg
  split
  · exact .wr' (.refl _ _ s)
  · exact .wr' (.refl _ _ s)

theorem State.evalJudged_frame : Keeps [whole (R.GRID_CURVE 0), whole (R.GRID_CURVE 1), whole (R.GRID_CURVE 2), whole (R.GRID_CURVE 3), F.GRID_RT_STATUS_REGION,
    F.GRID_RT_STATUS_FCI] [] s (s.evalJudged g) := by
  have hregs (n : Nat) : Keeps [whole (R.GRID_CURVE 0), whole (R.GRID_CURVE 1), whole (R.GRID_CURVE 2), whole (R.GRID_CURVE 3), F.GRID_RT_STATUS_REGION,
      F.GRID_RT_STATUS_FCI] [] s (s.curveRegs.put F.GRID_RT_STATUS_REGION n) := by
    rw [State.curveRegs_eq]
    exact .put' (.after (State.curveReg_frame _ 3) (.after (State.curveReg_frame _ 2) (.after (State.curveReg_frame _ 1) (.after (State.curveReg_frame _ 0) (.refl _ _ s)))))
  exact .ite' (.put' (hregs _)) (hregs _)

theorem regionRank_le (code : Nat) : regionRank code ≤ 4 := by
  unfold regionRank
  split_ifs <;> omega

theorem State.curveRank_le (c : Nat) : s.curveRank c ≤ 4 := by
  unfold State.curveRank
  split
  · exact le_rfl
  · split
    · exact regionRank_le _
    · omega

theorem State.combined_le : s.combined ≤ 4 := by
  have hcurves : (List.range 4).foldl (fun m c => max m (s.curveRank c)) 0 ≤ 4 := by
    have := s.curveRank_le
    simp [List.range_succ, this]
  have hsync : (match s.syncFor with | some t => if 160000000 ≤ t then 4 else 3 | none => 0) ≤ 4 := by
    split
    · split <;> omega
    · omega
  have hinv : (if s.grid.invalid.isNone then 0 else if 400000000 ≤ s.invalidFor then 4 else if 1600000000 ≤ s.invalidFor * s.nomF then 3 else 0) ≤ 4 := by
    split_ifs <;> omega
  exact max_le hcurves (max_le hinv hsync)

theorem State.evalJudged_region : (s.evalJudged g).get F.GRID_RT_STATUS_REGION = s.combined := by
  have hput (t : State) : (t.put F.GRID_RT_STATUS_REGION s.combined).get F.GRID_RT_STATUS_REGION = s.combined :=
    (State.get_put_same _ _ _ (by decide)).trans (Nat.mod_eq_of_lt (by have := s.combined_le; simp; omega))
  unfold State.evalJudged
  dsimp only
  split
  · exact (State.get_put_other _ _ _ _ (by decide)).trans (hput _)
  · exact hput _

section
variable {s} {t : State} (himg : t.img = s.img) (hmono : t.mono = s.mono) (h : SameCurves s t)
include himg hmono h

theorem State.pointTrips_congr (c j : Nat) : t.pointTrips c j = s.pointTrips c j := by
  unfold State.pointTrips State.curveRegion State.curveTime
  rw [h.entered, State.gc_congr himg, State.gc_congr himg, hmono]

theorem State.curveRank_congr (c : Nat) : t.curveRank c = s.curveRank c := by
  have hpoints : t.curvePoints c = s.curvePoints c := by rw [State.curvePoints, State.curvePoints, State.gc_congr himg]
  have htrip : t.curveTrip c = s.curveTrip c := by
    rw [State.curveTrip, State.curveTrip, hpoints, funext fun j => State.pointTrips_congr himg hmono h c j]
  have hdeepest : t.curveDeepest c = s.curveDeepest c := by rw [State.curveDeepest, State.curveDeepest, hpoints, h.entered]
  have hregion : t.curveRegion c = s.curveRegion c := funext fun j => State.gc_congr himg _ _
  rw [State.curveRank, State.curveRank, htrip, hdeepest, hregion]

/-- The region follows from the image, the time and the record of the curves. -/
theorem State.combined_congr : t.combined = s.combined := by
  have hrank : t.curveRank = s.curveRank := funext fun c => State.curveRank_congr himg hmono h c
  have hinvalid : t.invalidFor = s.invalidFor := by rw [State.invalidFor, State.invalidFor, h.invalid, hmono]
  have hsync : t.syncFor = s.syncFor := by rw [State.syncFor, State.syncFor, h.syncLost, hmono]
  rw [State.combined, State.combined, hrank, h.invalid, hinvalid, hsync, State.nomF_congr himg]

end

/-! ### The references, the slots, and the wait for a connection -/

/-- What the end of an evaluation writes in the grid block. -/
def tailFlds : List Fld := [whole R.GRID_RC_CEIL, whole R.GRID_PLIMIT, whole R.GRID_QREF, F.GRID_STATUS_Q_LIMITED, F.GRID_STATUS_FW_ACTIVE, F.GRID_STATUS_VW_ACTIVE,
  whole R.GRID_IQF]

theorem State.evalReferred_frame : Keeps tailFlds [.shadow, .grid] s (s.evalReferred p g) := by
  have hceil : Keeps tailFlds [.shadow, .grid] s s.rcStep := .after s.rcStep_frame (.refl _ _ s) (by simp [tailFlds])
  exact .ite' (.after (State.fnRefs_frame _ p g) hceil (by simp [tailFlds])) hceil

theorem State.evalReferred_sameGrid : SameGrid s (s.evalReferred p g) :=
  .ite (s.rcStep_sameGrid.trans (State.fnRefs_sameGrid _ p g)) s.rcStep_sameGrid

/-- The slots that hold whatever the grid does, and the count of the evaluations. -/
def State.slotsFixed (s : State) (p : Nat) : State :=
  let s := ((s.slotPut p 250 (fOf s.iMax)).slotPut p 251 (fOf s.vNom)).slotPut p 252 (fNat (s.get F.GRID_RT_STATUS_OP_STATE))
  let s := s.slotPut p 254 (fOf (2 * piR * (s.nomF : Nat)))
  let n : Nat := (s.grid.upd + 1) % 2 ^ 24
  (s.slotPut p 255 (fNat n)).modGrid fun d => { d with upd := n }

/-- The slot of the fault current. -/
def State.slotFault (s : State) (p : Nat) (g : GridIn) : State :=
  if g.valid then
    let i := if s.fciApplies g then s.iQf g else 0
    (s.slotPut p 253 (fOf i)).wr R.GRID_IQF (w32 (unsignedOf 32 (roundAway (i * 1000))))
  else s

theorem State.gridSlots_eq : s.gridSlots p g = (s.slotFault p g).slotsFixed p := rfl

theorem State.slotFault_frame : Keeps [whole R.GRID_IQF] [.shadow] s (s.slotFault p g) := .ite' (.wr' (.toShadow' (.refl _ _ s))) (.refl _ _ s)

theorem State.gridSlots_grid : (s.gridSlots p g).grid = { s.grid with upd := (s.grid.upd + 1) % 2 ^ 24 } := by
  have hfixed (t : State) : (t.slotsFixed p).grid = { t.grid with upd := (t.grid.upd + 1) % 2 ^ 24 } := rfl
  rw [State.gridSlots_eq, hfixed, (s.slotFault_frame p g).2 .grid (by decide)]

/-- The slots for the pair's next execution hold what the block reports. -/
structure SlotsLent (p : Nat) (s t : State) : Prop where
  iMax : t.slotHolds p 250 (fOf s.iMax)
  vNom : t.slotHolds p 251 (fOf s.vNom)
  op : t.slotHolds p 252 (fNat (s.get F.GRID_RT_STATUS_OP_STATE))
  omega : t.slotHolds p 254 (fOf (2 * piR * (s.nomF : Nat)))
  upd : t.slotHolds p 255 (fNat ((s.grid.upd + 1) % 2 ^ 24))

/-- Words put into the slots. -/
def State.slotsPut (s : State) (p : Nat) (a b c d e : Word) : State :=
  ((((s.slotPut p 250 a).slotPut p 251 b).slotPut p 252 c).slotPut p 254 d).slotPut p 255 e

theorem State.slotsPut_holds (a b c d e : Word) : (s.slotsPut p a b c d e).slotHolds p 250 a ∧ (s.slotsPut p a b c d e).slotHolds p 251 b ∧
    (s.slotsPut p a b c d e).slotHolds p 252 c ∧ (s.slotsPut p a b c d e).slotHolds p 254 d ∧ (s.slotsPut p a b c d e).slotHolds p 255 e :=
  ⟨State.slotPut_other _ (by decide) (State.slotPut_other _ (by decide) (State.slotPut_other _ (by decide) (State.slotPut_other _ (by decide) (State.slotPut_holds ..)))),
    State.slotPut_other _ (by decide) (State.slotPut_other _ (by decide) (State.slotPut_other _ (by decide) (State.slotPut_holds ..))),
    State.slotPut_other _ (by decide) (State.slotPut_other _ (by decide) (State.slotPut_holds ..)),
    State.slotPut_other _ (by decide) (State.slotPut_holds ..), State.slotPut_holds ..⟩

theorem State.slotsFixed_shadow : (s.slotsFixed p).shadow = (s.slotsPut p (fOf s.iMax) (fOf s.vNom) (fNat (s.get F.GRID_RT_STATUS_OP_STATE))
    (fOf (2 * piR * (s.nomF : Nat))) (fNat ((s.grid.upd + 1) % 2 ^ 24))).shadow := by
  have hnom (a b c : Word) : (((s.slotPut p 250 a).slotPut p 251 b).slotPut p 252 c).nomF = s.nomF := State.nomF_congr rfl
  have hupd (a b c d : Word) : ((((s.slotPut p 250 a).slotPut p 251 b).slotPut p 252 c).slotPut p 254 d).grid.upd = s.grid.upd := rfl
  unfold State.slotsFixed
  dsimp only
  rw [hnom, hupd]
  rfl

theorem State.slotsFixed_lent : SlotsLent p s (s.slotsFixed p) := by
  have hsh := s.slotsFixed_shadow p
  obtain ⟨hi, hv, ho, hw, hu⟩ := s.slotsPut_holds p (fOf s.iMax) (fOf s.vNom) (fNat (s.get F.GRID_RT_STATUS_OP_STATE)) (fOf (2 * piR * (s.nomF : Nat)))
    (fNat ((s.grid.upd + 1) % 2 ^ 24))
  exact ⟨State.slotHolds_of_shadow hsh hi, State.slotHolds_of_shadow hsh hv, State.slotHolds_of_shadow hsh ho, State.slotHolds_of_shadow hsh hw,
    State.slotHolds_of_shadow hsh hu⟩

theorem State.gridSlots_lent : SlotsLent p s (s.gridSlots p g) := by
  have hframe := s.slotFault_frame p g
  have himg : (s.slotFault p g).img = s.img := hframe.2 .img (by decide)
  have hgrid : (s.slotFault p g).grid = s.grid := hframe.2 .grid (by decide)
  have hlent := (s.slotFault p g).slotsFixed_lent p
  rw [State.gridSlots_eq]
  refine ⟨?_, ?_, ?_, ?_, ?_⟩
  · rw [← State.iMax_congr himg]; exact hlent.iMax
  · rw [← State.vNom_congr himg]; exact hlent.vNom
  · rw [← hframe.get_eq F.GRID_RT_STATUS_OP_STATE (by decide)]; exact hlent.op
  · rw [← State.nomF_congr himg]; exact hlent.omega
  · rw [← hgrid]; exact hlent.upd

theorem SlotsLent.of_shadow {p : Nat} {t u : State} (h : SlotsLent p s t) (hsh : u.shadow = t.shadow) : SlotsLent p s u :=
  ⟨State.slotHolds_of_shadow hsh h.iMax, State.slotHolds_of_shadow hsh h.vNom, State.slotHolds_of_shadow hsh h.op, State.slotHolds_of_shadow hsh h.omega,
    State.slotHolds_of_shadow hsh h.upd⟩

theorem State.evalLent_frame : Keeps tailFlds [.shadow, .grid] s (s.evalLent p g) :=
  .beside' (.after (s.gridSlots_frame p g) (.refl _ _ s) (by simp [tailFlds]))

theorem State.closeRequest_leaves (hpa both : Bool) : LeavesGrid [F.GRID_RT_STATUS_CONN_STATE] s (s.closeRequest hpa both) := by
  have hrefused (r : Nat) : Keeps [F.RELAY_STICKY_REFUSED, F.RELAY_REFUSE_REASON] [] s ((s.set1 F.RELAY_STICKY_REFUSED).put F.RELAY_REFUSE_REASON r) :=
    .put' (.set1' (.refl _ _ s))
  have hbegun : LeavesGrid [F.GRID_RT_STATUS_CONN_STATE] s s.closeBegun := by
    have hdrive : LeavesGrid [F.GRID_RT_STATUS_CONN_STATE] s (s.relayDrive 0 true) := (State.relayDrive_outside s 0 true).leavesGrid (by decide)
    have hconn (t : State) : Keeps [F.GRID_RT_STATUS_CONN_STATE] [.relay] t ((t.setConn 2).modRelay fun r => { r with closeAt := s.mono, stage := 0, xChange := none }) :=
      .beside' (.put' (.refl _ _ t))
    exact hdrive.trans ((hconn _).leavesGrid (by simp))
  unfold State.closeRequest
  split
  next r _ => exact (hrefused r).leavesGrid (by decide)
  next =>
    refine .ite ?_ ?_
    · exact ((hrefused s.drawn).leavesGrid (by decide))
    · exact hbegun.trans ((State.permitEnd_outside _).leavesGrid (by decide))

/-- The wait for a connection, before a request of its own. -/
def State.waitTimed (s : State) (g : GridIn) (region : Nat) : State :=
  if s.flag F.GRID_STATUS_LOCK && g.valid && region == 0 then
    s.modGrid fun d => { d with timer := match d.timer with | some t => some t | none => some s.mono }
  else (s.put F.GRID_RT_STATUS_RC_READY 0).modGrid fun d => { d with timer := none }

theorem State.waitTimed_frame : Keeps [F.GRID_RT_STATUS_RC_READY] [.grid] s (s.waitTimed g region) := .ite' (.beside' (.refl _ _ s)) (.beside' (.put' (.refl _ _ s)))

theorem State.gridWait_away (h : s.conn ≠ 1) : s.gridWait g region = s := if_pos h

/-- Waiting, the block may request a close itself. -/
theorem State.gridWait_waits (h : s.conn = 1) : s.gridWait g region = s.waitTimed g region ∨ s.gridWait g region = (s.waitTimed g region).closeRequest true true := by
  have hwait : s.gridWait g region = if (s.waitTimed g region).flag F.GRID_RT_CTRL_AUTO && (s.waitTimed g region).flag F.GRID_RT_STATUS_RC_READY &&
      (s.waitTimed g region).flag F.GRID_RT_STATUS_CHECK_OK then (s.waitTimed g region).closeRequest true true else s.waitTimed g region := if_neg (by simp [h])
  rw [hwait]
  split
  · exact .inr rfl
  · exact .inl rfl

theorem State.gridWait_leaves : LeavesGrid [F.GRID_RT_STATUS_RC_READY, F.GRID_RT_STATUS_CONN_STATE] s (s.gridWait g region) := by
  by_cases h : s.conn = 1
  · have htimed : LeavesGrid [F.GRID_RT_STATUS_RC_READY, F.GRID_RT_STATUS_CONN_STATE] s (s.waitTimed g region) := (s.waitTimed_frame g region).leavesGrid (by simp)
    obtain hwait | hwait := s.gridWait_waits g region h <;> rw [hwait]
    · exact htimed
    · exact htimed.trans ((State.closeRequest_leaves _ _ _).mono (by simp))
  · rw [s.gridWait_away g region h]
    exact .refl _ s

theorem State.gridWait_outside : KeepsOutside [zone R.GRID_CFG, zone R.RELAY_CFG, zone (R.PWM_CTRL 0), zone R.WARDEN_STATUS] [.grid, .draws, .pwm, .relay] s
    (s.gridWait g region) := by
  by_cases h : s.conn = 1
  · have htimed : KeepsOutside [zone R.GRID_CFG] [.grid] s (s.waitTimed g region) := (s.waitTimed_frame g region).toOutside (by decide)
    obtain hwait | hwait := s.gridWait_waits g region h <;> rw [hwait]
    · exact .after htimed (.refl _ _ s)
    · exact .after (State.closeRequest_outside _ _ _) (.after htimed (.refl _ _ s))
  · rw [s.gridWait_away g region h]
    exact .refl _ _ s

theorem State.gridWait_grid : ∃ x, (s.gridWait g region).grid = { s.grid with timer := x } := by
  have htimed : ∃ x, (s.waitTimed g region).grid = { s.grid with timer := x } := by
    unfold State.waitTimed
    split
    · exact ⟨_, rfl⟩
    · exact ⟨_, rfl⟩
  by_cases h : s.conn = 1
  · obtain hwait | hwait := s.gridWait_waits g region h <;> rw [hwait]
    · exact htimed
    · rw [show ((s.waitTimed g region).closeRequest true true).grid = (s.waitTimed g region).grid from (State.closeRequest_outside _ _ _).2 .grid (by decide)]
      exact htimed
  · rw [s.gridWait_away g region h]
    exact ⟨s.grid.timer, rfl⟩

/-! ### The end of an evaluation as a whole -/

/-- The references, the slots and the wait. -/
def State.evalTail (s : State) (p : Nat) (g : GridIn) (region : Nat) : State := ((s.evalReferred p g).evalLent p g).gridWait g region

theorem State.evalTail_base : Keeps tailFlds [.shadow, .grid] s ((s.evalReferred p g).evalLent p g) :=
  .after (State.evalLent_frame _ p g) (s.evalReferred_frame p g) (by simp) (by simp)

theorem State.evalTail_conn : ((s.evalReferred p g).evalLent p g).conn = s.conn := (s.evalTail_base p g).get_eq _ (by decide)

theorem State.evalTail_away (h : s.conn ≠ 1) : Keeps tailFlds [.shadow, .grid] s (s.evalTail p g region) := by
  rw [State.evalTail, State.gridWait_away _ _ _ (by rwa [s.evalTail_conn p g])]
  exact s.evalTail_base p g

theorem State.evalTail_outside : KeepsOutside [zone R.GRID_CFG, zone R.RELAY_CFG, zone (R.PWM_CTRL 0), zone R.WARDEN_STATUS] [.shadow, .grid, .relay, .draws, .pwm] s
    (s.evalTail p g region) :=
  .after (State.gridWait_outside _ g region) (.after ((s.evalTail_base p g).toOutside (rs := [zone R.GRID_CFG]) (by decide)) (.refl _ _ s))

theorem State.evalTail_leaves : LeavesGrid (F.GRID_RT_STATUS_RC_READY :: F.GRID_RT_STATUS_CONN_STATE :: tailFlds) s (s.evalTail p g region) :=
  LeavesGrid.trans ((s.evalTail_base p g).leavesGrid (by simp +contextual)) ((State.gridWait_leaves _ g region).mono (by simp))

theorem State.evalTail_grid : SameCurves s (s.evalTail p g region) ∧ (s.evalTail p g region).grid.due = false ∧ (s.evalTail p g region).grid.evalAt = some s.mono ∧
    (s.evalTail p g region).grid.upd = (s.grid.upd + 1) % 2 ^ 24 := by
  obtain ⟨x, hwait⟩ := ((s.evalReferred p g).evalLent p g).gridWait_grid g region
  have href := s.evalReferred_sameGrid p g
  have hslots := (s.evalReferred p g).gridSlots_grid p g
  have hmono : (s.evalReferred p g).mono = s.mono :=
    State.mono_congr ((s.evalReferred_frame p g).2 .epoch (by decide)) ((s.evalReferred_frame p g).2 .ep (by decide))
  have hlent : ((s.evalReferred p g).evalLent p g).grid =
      { (s.evalReferred p g).grid with upd := ((s.evalReferred p g).grid.upd + 1) % 2 ^ 24, due := false, evalAt := some s.mono } := by
    rw [← hmono]
    exact congrArg (fun d : GridState => { d with due := false, evalAt := some (s.evalReferred p g).mono }) hslots
  have htail : (s.evalTail p g region).grid = { (s.evalReferred p g).grid with
      upd := ((s.evalReferred p g).grid.upd + 1) % 2 ^ 24, due := false, evalAt := some s.mono, timer := x } := by
    rw [State.evalTail, hwait, hlent]
  rw [htail]
  refine ⟨⟨?_, ?_, ?_⟩, rfl, rfl, ?_⟩
  · rw [htail]; exact href.entered
  · rw [htail]; exact href.invalid
  · rw [htail]; exact href.syncLost
  · exact congrArg (fun n => (n + 1) % 2 ^ 24) href.upd

theorem State.evalTail_lent : SlotsLent p s (s.evalTail p g region) := by
  have hframe := s.evalReferred_frame p g
  have himg : (s.evalReferred p g).img = s.img := hframe.2 .img (by decide)
  have hupd : (s.evalReferred p g).grid.upd = s.grid.upd := (s.evalReferred_sameGrid p g).upd
  have hsh : (s.evalTail p g region).shadow = ((s.evalReferred p g).gridSlots p g).shadow := (State.gridWait_outside _ g region).2 .shadow (by decide)
  have hlent := ((s.evalReferred p g).gridSlots_lent p g).of_shadow _ hsh
  refine ⟨?_, ?_, ?_, ?_, ?_⟩
  · rw [← State.iMax_congr himg]; exact hlent.iMax
  · rw [← State.vNom_congr himg]; exact hlent.vNom
  · rw [← hframe.get_eq F.GRID_RT_STATUS_OP_STATE (by decide)]; exact hlent.op
  · rw [← State.nomF_congr himg]; exact hlent.omega
  · rw [← hupd]; exact hlent.upd

/-! ### An evaluation as a whole (R344, R377, R388, R398) -/

/-- An evaluation before its operation. -/
def State.evalReady (s : State) (g : GridIn) : State := (s.evalTaken g).evalJudged g

theorem State.evalReady_outside : KeepsOutside [zone R.GRID_CFG] [.shadow, .grid] s (s.evalReady g) :=
  .after ((State.evalJudged_frame _ g).toOutside (rs := [zone R.GRID_CFG]) (by decide)) ((s.evalTaken_frame g).toOutside (by decide))

theorem State.evalReady_get (f : Fld) (htaken : ∀ h ∈ [F.GRID_P_CURT_P_CURT, F.GRID_Q_SET_Q_SET, F.GRID_PF_SET_PF_SET, F.GRID_STATUS_VALID, F.GRID_V_HIGH, F.GRID_V_MEAN,
    F.GRID_FREQ_FREQ, F.GRID_STICKY_VALID_LOST], h.apart f = true) (hjudged : ∀ h ∈ [whole (R.GRID_CURVE 0), whole (R.GRID_CURVE 1), whole (R.GRID_CURVE 2),
    whole (R.GRID_CURVE 3), F.GRID_RT_STATUS_REGION, F.GRID_RT_STATUS_FCI], h.apart f = true) : (s.evalReady g).get f = s.get f :=
  ((State.evalJudged_frame _ g).get_eq f hjudged).trans ((s.evalTaken_frame g).get_eq f htaken)

theorem State.evalReady_conn : (s.evalReady g).conn = s.conn := s.evalReady_get g F.GRID_RT_STATUS_CONN_STATE (by decide) (by decide)

theorem State.evalReady_grid : (s.evalReady g).grid = (s.evalTaken g).grid := (State.evalJudged_frame _ g).2 .grid (by decide)

theorem State.evalReady_island : (s.evalReady g).islandNow g = s.islandNow g := by
  have himg : (s.evalReady g).img = s.img := (s.evalReady_outside g).2 .img (by decide)
  have hprobing : (s.evalReady g).probing = s.probing := congrArg (· == 1) (s.evalReady_get g F.GRID_RT_STATUS_PROBE (by decide) (by decide))
  rw [State.islandNow, State.islandNow, hprobing, State.gc_congr himg, s.evalReady_grid g, (s.evalTaken_grid g).2]

theorem State.evalReady_taken : Taken g (s.evalReady g) :=
  (s.evalTaken_taken g).of_leaves _ ((State.evalJudged_frame _ g).leavesGrid (fs := [whole (R.GRID_CURVE 0), whole (R.GRID_CURVE 1), whole (R.GRID_CURVE 2),
    whole (R.GRID_CURVE 3), F.GRID_RT_STATUS_REGION, F.GRID_RT_STATUS_FCI]) (by simp +contextual)) (by decide)

/-- The region that an evaluation judges. -/
def State.evalRegion (s : State) (g : GridIn) : Nat := (s.evalTaken g).combined

/-- An evaluation after its operation. -/
def State.evalMid (s : State) (g : GridIn) : State := (s.evalReady g).evalOperated g (s.evalRegion g)

theorem State.gridEval_eq : s.gridEval p = (s.evalMid s.grid.inp).evalTail p s.grid.inp (s.evalRegion s.grid.inp) := rfl

theorem State.evalMid_outside : KeepsOutside [zone R.GRID_CFG, zone R.RELAY_CFG, zone (R.PWM_CTRL 0)] tripParts s (s.evalMid g) :=
  .comp (State.evalOperated_outside _ g _) (.after (s.evalReady_outside g) (.refl _ _ s))

theorem State.evalMid_taken : Taken g (s.evalMid g) := (s.evalReady_taken g).of_leaves _ (State.evalOperated_leaves _ g _) (by decide)

theorem State.evalMid_region : (s.evalMid g).get F.GRID_RT_STATUS_REGION = s.evalRegion g :=
  (State.evalOperated_leaves _ g _ _ (by decide) (by decide) (by decide)).trans (State.evalJudged_region _ g)

theorem State.evalMid_sameGrid : SameGrid (s.evalTaken g) (s.evalMid g) :=
  (SameGrid.of_eq (s.evalReady_grid g)).trans (State.evalOperated_sameGrid _ g _)

theorem State.evalMid_upd : (s.evalMid g).grid.upd = s.grid.upd := (s.evalMid_sameGrid g).upd.trans (s.evalTaken_grid g).1

theorem State.evalMid_idle (h : s.conn ≠ 3) : (s.evalMid g).conn = s.conn ∧ KeepsOutside [zone R.GRID_CFG] [.shadow, .grid] s (s.evalMid g) := by
  have hidle := (s.evalReady g).evalOperated_idle g (s.evalRegion g) (by rwa [s.evalReady_conn g])
  exact ⟨(hidle.get_eq F.GRID_RT_STATUS_CONN_STATE (by decide)).trans (s.evalReady_conn g),
    .after (hidle.toOutside (rs := [zone R.GRID_CFG]) (by decide)) (s.evalReady_outside g)⟩

theorem State.gridEval_outside : KeepsOutside [zone R.GRID_CFG, zone R.RELAY_CFG, zone (R.PWM_CTRL 0), zone R.WARDEN_STATUS] tripParts s (s.gridEval p) :=
  .after (State.evalTail_outside _ p _ _) (.after (s.evalMid_outside s.grid.inp) (.refl _ _ s) (by decide) (by simp)) (by simp) (by decide)

theorem State.gridEval_waiting (h : s.conn = 1) : KeepsOutside [zone R.GRID_CFG, zone R.RELAY_CFG, zone (R.PWM_CTRL 0), zone R.WARDEN_STATUS]
    [.shadow, .grid, .relay, .draws, .pwm] s (s.gridEval p) :=
  .after (State.evalTail_outside _ p _ _) (.after (s.evalMid_idle s.grid.inp (by omega)).2 (.refl _ _ s))

theorem State.gridEval_away (h1 : s.conn ≠ 1) (h3 : s.conn ≠ 3) : KeepsOutside [zone R.GRID_CFG] [.shadow, .grid] s (s.gridEval p) := by
  obtain ⟨hconn, hmid⟩ := s.evalMid_idle s.grid.inp h3
  exact .after (((s.evalMid s.grid.inp).evalTail_away p _ _ (by rwa [hconn])).toOutside (rs := [zone R.GRID_CFG]) (by decide)) hmid

/-- The end of an evaluation leaves a field of the block. -/
theorem State.gridEval_get (f : Fld) (hlo : (zone R.GRID_CFG).1 ≤ f.addr) (hhi : f.addr < (zone R.GRID_CFG).2)
    (hap : ∀ h ∈ F.GRID_RT_STATUS_RC_READY :: F.GRID_RT_STATUS_CONN_STATE :: tailFlds, h.apart f = true) : (s.gridEval p).get f = (s.evalMid s.grid.inp).get f :=
  State.evalTail_leaves _ p _ _ f hlo hhi hap

theorem State.gridEval_region : (s.gridEval p).get F.GRID_RT_STATUS_REGION = s.evalRegion s.grid.inp :=
  (s.gridEval_get p _ (by decide) (by decide) (by decide)).trans (s.evalMid_region _)

theorem State.gridEval_combined : (s.gridEval p).combined = s.evalRegion s.grid.inp := by
  have hout := s.gridEval_outside p
  have htaken := s.evalTaken_frame s.grid.inp
  refine State.combined_congr ((hout.2 .img (by decide)).trans (htaken.2 .img (by decide)).symm) ?_
    ((s.evalMid_sameGrid s.grid.inp).curves.trans (State.evalTail_grid _ p _ _).1)
  exact State.mono_congr ((hout.2 .epoch (by decide)).trans (htaken.2 .epoch (by decide)).symm) ((hout.2 .ep (by decide)).trans (htaken.2 .ep (by decide)).symm)

theorem State.gridEval_taken : Taken s.grid.inp (s.gridEval p) := (s.evalMid_taken _).of_leaves _ (State.evalTail_leaves _ p _ _) (by decide)

theorem State.gridEval_record : (s.gridEval p).grid.due = false ∧ (s.gridEval p).grid.evalAt = some s.mono ∧ (s.gridEval p).grid.upd = (s.grid.upd + 1) % 2 ^ 24 := by
  obtain ⟨-, hdue, hat, hupd⟩ := (s.evalMid s.grid.inp).evalTail_grid p s.grid.inp (s.evalRegion s.grid.inp)
  have hout := s.evalMid_outside s.grid.inp
  have hmono : (s.evalMid s.grid.inp).mono = s.mono := State.mono_congr (hout.2 .epoch (by decide)) (hout.2 .ep (by decide))
  rw [hmono] at hat
  rw [s.evalMid_upd] at hupd
  exact ⟨hdue, hat, hupd⟩

theorem State.gridEval_slots : (s.gridEval p).shadowGet (slotFld p 250) = (fOf s.iMax).toNat ∧ (s.gridEval p).shadowGet (slotFld p 251) = (fOf s.vNom).toNat ∧
    (s.gridEval p).shadowGet (slotFld p 252) = (fNat ((s.gridEval p).get F.GRID_RT_STATUS_OP_STATE)).toNat ∧
    (s.gridEval p).shadowGet (slotFld p 254) = (fOf (2 * piR * (s.nomF : Nat))).toNat ∧
    (s.gridEval p).shadowGet (slotFld p 255) = (fNat (s.gridEval p).grid.upd).toNat := by
  have himg : (s.evalMid s.grid.inp).img = s.img := (s.evalMid_outside s.grid.inp).2 .img (by decide)
  have hlent := (s.evalMid s.grid.inp).evalTail_lent p s.grid.inp (s.evalRegion s.grid.inp)
  obtain ⟨-, -, hupd⟩ := s.gridEval_record p
  rw [s.gridEval_get p F.GRID_RT_STATUS_OP_STATE (by decide) (by decide) (by decide), hupd, ← s.evalMid_upd s.grid.inp, ← State.iMax_congr himg, ← State.vNom_congr himg,
    ← State.nomF_congr himg]
  exact ⟨hlent.iMax.2, hlent.vNom.2, hlent.op.2, hlent.omega.2, hlent.upd.2⟩

theorem Tripped.of_keeps {n : Nat} {t : State} (h : Tripped n s) (k : Keeps tailFlds [.shadow, .grid] s t) : Tripped n t where
  conn := (k.get_eq F.GRID_RT_STATUS_CONN_STATE (by decide)).trans h.conn
  op := (k.get_eq _ (by decide)).trans h.op
  tripped := (k.get_eq _ (by decide)).trans h.tripped
  k1 := (k.get_eq _ (by decide)).trans h.k1
  k2 := (k.get_eq _ (by decide)).trans h.k2
  tick := (k.rd_eq _ (by decide)).trans h.tick
  raised := (congrArg List.getLast? (k.2 .raised (by decide))).trans h.raised

theorem State.gridEval_trips (hconn : s.conn = 3) (h : s.evalRegion s.grid.inp = 4 ∨ s.islandNow s.grid.inp = true) : Tripped s.epoch (s.gridEval p) := by
  have htrips := (s.evalReady s.grid.inp).evalOperated_trips s.grid.inp (s.evalRegion s.grid.inp) ((s.evalReady_conn _).trans hconn)
    (by rwa [s.evalReady_island])
  rw [show (s.evalReady s.grid.inp).epoch = s.epoch from (s.evalReady_outside s.grid.inp).2 .epoch (by decide)] at htrips
  exact htrips.of_keeps _ (State.evalTail_away _ p _ _ (by have := htrips.conn; omega))

theorem State.gridEval_island (hconn : s.conn = 3) (h : s.islandNow s.grid.inp = true) : (s.gridEval p).get F.GRID_RT_STICKY_ISLAND = 1 ∧
    (s.gridEval p).get F.GRID_ISL_CNT_CONFIRM = satInc F.GRID_ISL_CNT_CONFIRM.len (s.get F.GRID_ISL_CNT_CONFIRM) := by
  obtain ⟨hsticky, hcount⟩ := (s.evalReady s.grid.inp).evalOperated_island s.grid.inp (s.evalRegion s.grid.inp) ((s.evalReady_conn _).trans hconn)
    (by rwa [s.evalReady_island])
  rw [s.evalReady_get s.grid.inp F.GRID_ISL_CNT_CONFIRM (by decide) (by decide)] at hcount
  exact ⟨(s.gridEval_get p _ (by decide) (by decide) (by decide)).trans hsticky, (s.gridEval_get p _ (by decide) (by decide) (by decide)).trans hcount⟩

theorem State.gridEval_ceases (hconn : s.conn = 3) (hregion : s.evalRegion s.grid.inp = 3) (h : s.islandNow s.grid.inp = false) : (s.gridEval p).conn = 3 ∧
    (s.gridEval p).get F.GRID_RT_STATUS_OP_STATE = 0 ∧ (s.gridEval p).get F.GRID_RT_STICKY_CEASED = 1 := by
  obtain ⟨hc, hop, hceased⟩ := (s.evalReady s.grid.inp).evalOperated_ceases s.grid.inp (s.evalRegion s.grid.inp) ((s.evalReady_conn _).trans hconn) hregion
    (by rwa [s.evalReady_island])
  have hframe := State.evalTail_away (s.evalMid s.grid.inp) p s.grid.inp (s.evalRegion s.grid.inp) (show (s.evalMid s.grid.inp).conn ≠ 1 from by
    rw [show (s.evalMid s.grid.inp).conn = 3 from hc]; decide)
  exact ⟨(hframe.get_eq F.GRID_RT_STATUS_CONN_STATE (by decide)).trans hc, (hframe.get_eq _ (by decide)).trans hop, (hframe.get_eq _ (by decide)).trans hceased⟩

end

end

/-! ### The record at a boundary (R346 to R349) -/

section
variable (s : State) (c : Nat)

/-- The record of the line cycles stands. -/
structure SameCycle (s t : State) : Prop where
  cPrev : t.grid.cPrev = s.grid.cPrev
  cNext : t.grid.cNext = s.grid.cNext
  good : t.grid.good = s.grid.good
  bad : t.grid.bad = s.grid.bad

theorem SameCycle.of_eq {s t : State} (h : t.grid = s.grid) : SameCycle s t := by
  constructor <;> rw [h]

theorem SameGrid.cycle {s t : State} (h : SameGrid s t) : SameCycle s t := ⟨h.cPrev, h.cNext, h.good, h.bad⟩

theorem SameCycle.trans {s t u : State} (h : SameCycle s t) (k : SameCycle t u) : SameCycle s u :=
  ⟨k.cPrev.trans h.cPrev, k.cNext.trans h.cNext, k.good.trans h.good, k.bad.trans h.bad⟩

theorem LeavesGrid.rd_eq {fs : List Fld} {s t : State} (h : LeavesGrid fs s t) (a : Nat) (hlo : (zone R.GRID_CFG).1 ≤ a) (hhi : a < (zone R.GRID_CFG).2)
    (hap : ∀ f ∈ fs, f.apart (whole a) = true) : t.rd a = s.rd a := by
  have hget := h (whole a) hlo hhi hap
  rw [State.get_whole, State.get_whole] at hget
  exact BitVec.eq_of_toNat_eq hget

/-- A boundary announced to a side. -/
def State.announceTo (s : State) (ci cn i : Nat) : State :=
  { s with sens := { s.sens with side := s.sens.side.modify i fun d => { d with ann := d.ann ++ [{ ci := some ci, cn := cn }] } } }

/-- A boundary announced to both sides. -/
def State.announced (s : State) (ci cn : Nat) : State := (s.announceTo ci cn 0).announceTo ci cn 1

theorem State.announced_frame (cn : Nat) : Keeps [] [.sens] s (s.announced c cn) := .beside' (.beside' (.refl _ _ s))

theorem State.announceTo_self (cn i : Nat) : ((s.announceTo c cn i).sens.side.get i).ann = (s.sens.side.get i).ann ++ [{ ci := some c, cn := cn }] :=
  congrArg SideState.ann (SMap.get_set_same _ _ _)

theorem State.announceTo_other (cn : Nat) {i j : Nat} (h : j ≠ i) : (s.announceTo c cn i).sens.side.get j = s.sens.side.get j := SMap.get_set_ne _ _ _ _ h

theorem State.announced_ann (cn : Nat) : ∀ d : Fin 2, ((s.announced c cn).sens.side.get d).ann = (s.sens.side.get d).ann ++ [{ ci := some c, cn := cn }]
  | 0 => (congrArg SideState.ann (State.announceTo_other _ c cn (by decide))).trans (s.announceTo_self c cn 0)
  | 1 => (State.announceTo_self _ c cn 1).trans (congrArg (fun d : SideState => d.ann ++ _) (s.announceTo_other c cn (by decide)))

/-- The length of the cycle that ends, reported. -/
def State.cycleReported (s : State) (c : Nat) : State := match s.grid.cPrev with | some q => s.wr R.GRID_CYCLE_LEN (w32 (c - q)) | none => s

theorem State.cycleReported_frame : Keeps [whole R.GRID_CYCLE_LEN] [] s (s.cycleReported c) := by
  unfold State.cycleReported
  split
  · exact .wr' (.refl _ _ s)
  · exact .refl _ _ s

theorem State.cycleReported_len {q : Nat} (h : s.grid.cPrev = some q) : (s.cycleReported c).rd R.GRID_CYCLE_LEN = w32 (c - q) := by
  unfold State.cycleReported
  rw [h]
  exact State.rd_wr_same _ _ _

/-- The residual and the source of the period, reported. -/
def State.phaseReported (s : State) (phi : Rat) (free : Bool) : State := (s.wr R.GRID_PHERR (w32 (unsignedOf 32 (roundAway (phi * 1000))))).put F.GRID_STATUS_FREE (b2n free)

theorem State.phaseReported_frame (phi : Rat) (free : Bool) : Keeps [whole R.GRID_PHERR, F.GRID_STATUS_FREE] [] s (s.phaseReported phi free) := .put' (.wr' (.refl _ _ s))

/-- The frequency that a boundary notes. -/
def State.cycleFreq (s : State) (free : Bool) : Rat := if free then (s.nomF : Rat) else s.grid.lent.elim 0 (·.f)

/-- A boundary passed and the next one noted. -/
def State.cycleNoted (s : State) (c next : Nat) (phi fi : Rat) : State :=
  s.modGrid fun d => { d with cPrev := some c, cNext := some next, phi := some phi, hist := ((c, fi) :: d.hist).take 51 }

/-- A boundary's record: reported, noted and announced. -/
def State.boundaryNoted (s : State) (c : Nat) : State :=
  let r := s.nextBoundary c
  let phi := degR (s.residual c)
  let t := (s.cycleReported c).phaseReported phi r.2
  (t.cycleNoted c r.1 phi (t.cycleFreq r.2)).announced c r.1

theorem State.boundary_eq : s.boundary c =
    (((s.boundaryNoted c).lockStep (degR (s.residual c)) (s.nextBoundary c).2).passiveStep c (degR (s.residual c)) s.grid.phi).vkxJudge := rfl

theorem State.boundaryNoted_frame : Keeps [whole R.GRID_CYCLE_LEN, whole R.GRID_PHERR, F.GRID_STATUS_FREE] [.grid, .sens] s (s.boundaryNoted c) :=
  .after (State.announced_frame _ _ _) (.beside' (.after (State.phaseReported_frame _ _ _) (.after (s.cycleReported_frame c) (.refl _ _ s))))

/-- A boundary is good for the lock. -/
def State.lockGood (s : State) (phi : Rat) (free : Bool) : Bool :=
  let f := s.grid.fLast
  let forming := match s.gridPair with | some p => fRat (s.loanWord p 61) == 1 | none => false
  let near := match s.grid.fPrev with | some q => absR (f - q) ≤ 1/10 | none => false
  absR phi ≤ 2 && inBand f && near && (forming || s.vNom / 2 ≤ s.grid.vMean) && !free

/-- The good and the bad boundaries in a row. -/
def State.lockRow (s : State) (phi : Rat) (free : Bool) : Nat × Nat :=
  (if s.lockGood phi free then s.grid.good + 1 else 0, if 10 < absR phi then s.grid.bad + 1 else 0)

/-- The lock's counters noted. -/
def State.lockCounted (s : State) (ng nb : Nat) (f : Rat) : State := s.modGrid fun d => { d with good := ng, bad := nb, fPrev := some f }

/-- LOCK from the counters and the frequency. -/
def State.lockRule (s : State) (f : Rat) (ng nb : Nat) : State :=
  if s.flag F.GRID_STATUS_LOCK then if 2 ≤ nb ∨ !inBand f then s.lockLost else s
  else if 2 ≤ ng then (s.put F.GRID_STATUS_LOCK 1).modGrid fun d => { d with syncLost := none }
  else s

theorem State.lockStep_eq (phi : Rat) (free : Bool) : s.lockStep phi free =
    (s.lockCounted (s.lockRow phi free).1 (s.lockRow phi free).2 s.grid.fLast).lockRule s.grid.fLast (s.lockRow phi free).1 (s.lockRow phi free).2 := by
  unfold State.lockStep State.lockRule State.lockCounted State.lockRow State.lockGood
  rfl

theorem State.lockLost_frame : Keeps [F.GRID_STATUS_LOCK, F.GRID_STICKY_LOCK_LOST, F.GRID_RT_STATUS_RC_READY] [.raised, .grid] s s.lockLost := by
  have hnoted : Keeps [F.GRID_STATUS_LOCK, F.GRID_STICKY_LOCK_LOST, F.GRID_RT_STATUS_RC_READY] [.raised, .grid] s
      ((s.put F.GRID_STATUS_LOCK 0).stickyRaise F.GRID_STICKY_LOCK_LOST FS.GRID_SYNC_LOST) := .stickyRaise' (.put' (.refl _ _ s))
  exact .ite' (.beside' (.put' (.ite' (.beside' hnoted) hnoted))) (.ite' (.beside' hnoted) hnoted)

/-- The loss of the lock after its record: the time of it noted, the reconnection time forgotten. -/
def State.lockAway (s : State) : State :=
  let s := if s.conn = 3 ∧ !s.flag F.GRID_STATUS_FORMING then s.modGrid fun d => { d with syncLost := some s.mono } else s
  if s.conn = 1 then (s.put F.GRID_RT_STATUS_RC_READY 0).modGrid fun d => { d with timer := none } else s

theorem State.lockAway_frame : Keeps [F.GRID_RT_STATUS_RC_READY] [.grid] s s.lockAway := by
  have hnoted : Keeps [F.GRID_RT_STATUS_RC_READY] [.grid] s
      (if s.conn = 3 ∧ !s.flag F.GRID_STATUS_FORMING then s.modGrid fun d => { d with syncLost := some s.mono } else s) := .ite' (.beside' (.refl _ _ s)) (.refl _ _ s)
  exact .ite' (.beside' (.put' hnoted)) hnoted

theorem State.lockAway_cycle : SameCycle s s.lockAway := by
  unfold State.lockAway
  dsimp only
  split <;> split <;> exact ⟨rfl, rfl, rfl, rfl⟩

theorem State.lockLost_eq : s.lockLost = ((s.put F.GRID_STATUS_LOCK 0).stickyRaise F.GRID_STICKY_LOCK_LOST FS.GRID_SYNC_LOST).lockAway := rfl

theorem State.lockLost_cycle : SameCycle s s.lockLost := by
  have hnoted : SameCycle s ((s.put F.GRID_STATUS_LOCK 0).stickyRaise F.GRID_STICKY_LOCK_LOST FS.GRID_SYNC_LOST) := .of_eq rfl
  rw [State.lockLost_eq]
  exact hnoted.trans (State.lockAway_cycle _)

theorem State.lockLost_facts : s.lockLost.get F.GRID_STATUS_LOCK = 0 ∧ s.lockLost.get F.GRID_STICKY_LOCK_LOST = 1 ∧
    s.lockLost.raised = s.raised ++ [⟨FS.GRID_SYNC_LOST, 0⟩] := by
  have haway := ((s.put F.GRID_STATUS_LOCK 0).stickyRaise F.GRID_STICKY_LOCK_LOST FS.GRID_SYNC_LOST).lockAway_frame
  rw [State.lockLost_eq]
  refine ⟨(haway.get_eq _ (by decide)).trans ?_, (haway.get_eq _ (by decide)).trans ?_, haway.2 .raised (by decide)⟩
  · exact (State.get_put_other (s.put F.GRID_STATUS_LOCK 0) _ _ _ (by decide)).trans (State.get_put_same _ _ _ (by decide))
  · exact State.get_put_same (s.put F.GRID_STATUS_LOCK 0) _ _ (by decide)

section
variable (f : Rat) (ng nb : Nat)

theorem State.lockRule_frame : Keeps [F.GRID_STATUS_LOCK, F.GRID_STICKY_LOCK_LOST, F.GRID_RT_STATUS_RC_READY] [.raised, .grid] s (s.lockRule f ng nb) :=
  .ite' (.ite' s.lockLost_frame (.refl _ _ s)) (.ite' (.beside' (.put' (.refl _ _ s))) (.refl _ _ s))

theorem State.lockRule_cycle : SameCycle s (s.lockRule f ng nb) := by
  unfold State.lockRule
  split
  · split
    · exact s.lockLost_cycle
    · exact .of_eq rfl
  · split
    · exact ⟨rfl, rfl, rfl, rfl⟩
    · exact .of_eq rfl

/-- LOCK after a boundary, and what its loss leaves. -/
theorem State.lockRule_lock : (s.lockRule f ng nb).get F.GRID_STATUS_LOCK =
      (if s.flag F.GRID_STATUS_LOCK then b2n (!decide (2 ≤ nb ∨ inBand f = false)) else b2n (decide (2 ≤ ng))) ∧
    (s.get F.GRID_STATUS_LOCK = 1 → (s.lockRule f ng nb).get F.GRID_STATUS_LOCK = 0 →
      (s.lockRule f ng nb).get F.GRID_STICKY_LOCK_LOST = 1 ∧ (s.lockRule f ng nb).raised = s.raised ++ [⟨FS.GRID_SYNC_LOST, 0⟩]) := by
  obtain ⟨hlock, hsticky, hraised⟩ := s.lockLost_facts
  unfold State.lockRule
  by_cases hflag : s.flag F.GRID_STATUS_LOCK = true
  · have hone : s.get F.GRID_STATUS_LOCK = 1 := State.get_one_of_flag hflag
    rw [if_pos hflag, if_pos hflag]
    by_cases hbad : 2 ≤ nb ∨ inBand f = false
    · rw [if_pos (by simpa using hbad)]
      exact ⟨hlock.trans (by simp [hbad, b2n]), fun _ _ => ⟨hsticky, hraised⟩⟩
    · rw [if_neg (by simpa using hbad)]
      exact ⟨hone.trans (by simp [hbad, b2n]), fun _ h => absurd (hone.symm.trans h) (by decide)⟩
  · have hzero : s.get F.GRID_STATUS_LOCK ≠ 1 := fun h => hflag (beq_iff_eq.mpr h)
    rw [if_neg hflag, if_neg hflag]
    refine ⟨?_, fun h => absurd h hzero⟩
    have hlt : s.get F.GRID_STATUS_LOCK < 2 := s.get_lt _
    by_cases hgood : 2 ≤ ng
    · rw [if_pos hgood]
      exact (State.get_put_same s _ _ (by decide)).trans (by simp [hgood, b2n])
    · rw [if_neg hgood]
      have hnone : s.get F.GRID_STATUS_LOCK = 0 := by omega
      exact hnone.trans (by simp [hgood, b2n])

end

/-! ### The passive detection and the judgement of VKX at a boundary (R384, R392) -/

/-- What the passive detection writes in the grid block. -/
def passiveFlds : List Fld := F.GRID_ISL_MEAS_JUMP :: F.GRID_ISL_MEAS_ROCOF :: F.GRID_RT_STATUS_PASSIVE :: tripFlds

theorem State.gridTrip_vkx (cause curve point : Nat) : (s.gridTrip cause curve point).relay.vkxHi = s.relay.vkxHi ∧ (s.gridTrip cause curve point).relay.vkxLo = s.relay.vkxLo := by
  have hdrive (t : State) (k : Nat) : (t.relayDrive k false).relay.vkxHi = t.relay.vkxHi ∧ (t.relayDrive k false).relay.vkxLo = t.relay.vkxLo := by
    unfold State.relayDrive
    split
    · exact ⟨rfl, rfl⟩
    · exact ⟨rfl, rfl⟩
  have hopen (t : State) : t.enterOpening.relay.vkxHi = t.relay.vkxHi ∧ t.enterOpening.relay.vkxLo = t.relay.vkxLo := by
    have hoff : t.relaysOff.relay.vkxHi = t.relay.vkxHi ∧ t.relaysOff.relay.vkxLo = t.relay.vkxLo :=
      ⟨(hdrive (t.relayDrive 0 false) 1).1.trans (hdrive t 0).1, (hdrive (t.relayDrive 0 false) 1).2.trans (hdrive t 0).2⟩
    by_cases h : t.conn = 4 ∨ t.conn = 5
    · rw [State.enterOpening_of_open h]
      exact hoff
    · rw [State.enterOpening_of_closed (by simpa using h)]
      exact hoff
  have hrec : (s.gridTrip cause curve point).relay = s.tripOpened.relay := (s.gridTrip_record cause curve point).2 .relay (by decide)
  have hopened : s.tripOpened.relay = s.gridStopped.probeAbandon.enterOpening.relay := (State.setOp_frame _ 0).2 .relay (by decide)
  have hstopped : s.gridStopped.probeAbandon.relay = s.relay := ((State.probeAbandon_frame _).2 .relay (by decide)).trans (s.gridStopped_outside.2 .relay (by decide))
  rw [hrec, hopened, (hopen _).1, (hopen _).2, hstopped]
  exact ⟨rfl, rfl⟩

/-- A stage that leaves the record of the cycles, the samples of VKX and the earlier raises. -/
structure PassiveKeeps (s t : State) : Prop where
  outside : KeepsOutside [zone R.GRID_CFG, zone R.RELAY_CFG, zone (R.PWM_CTRL 0)] tripParts s t
  leaves : LeavesGrid passiveFlds s t
  cycle : SameCycle s t
  vkxHi : t.relay.vkxHi = s.relay.vkxHi
  vkxLo : t.relay.vkxLo = s.relay.vkxLo
  raised : ∃ r, t.raised = s.raised ++ r

theorem PassiveKeeps.refl : PassiveKeeps s s := ⟨.refl _ _ s, .refl _ s, .of_eq rfl, rfl, rfl, [], (List.append_nil _).symm⟩

theorem PassiveKeeps.trans {s t u : State} (h : PassiveKeeps s t) (k : PassiveKeeps t u) : PassiveKeeps s u where
  outside := .comp k.outside h.outside
  leaves := h.leaves.trans k.leaves
  cycle := h.cycle.trans k.cycle
  vkxHi := k.vkxHi.trans h.vkxHi
  vkxLo := k.vkxLo.trans h.vkxLo
  raised := by
    obtain ⟨r, hr⟩ := h.raised
    obtain ⟨q, hq⟩ := k.raised
    exact ⟨r ++ q, by rw [hq, hr, List.append_assoc]⟩

theorem PassiveKeeps.ite {q : Prop} {_ : Decidable q} {s t u : State} (ht : PassiveKeeps s t) (hu : PassiveKeeps s u) : PassiveKeeps s (if q then t else u) := by
  split
  · exact ht
  · exact hu

theorem PassiveKeeps.of_put {f : Fld} (hf : f ∈ passiveFlds) (hzone : (zone R.GRID_CFG).1 ≤ f.addr ∧ f.addr < (zone R.GRID_CFG).2) (v : Nat) : PassiveKeeps s (s.put f v) where
  outside := .put' (.refl _ _ s) ⟨zone R.GRID_CFG, by simp, hzone⟩
  leaves g _ _ hg := State.get_put_other s _ _ _ (hg f hf)
  cycle := .of_eq rfl
  vkxHi := rfl
  vkxLo := rfl
  raised := ⟨[], (List.append_nil _).symm⟩

theorem tripFlds_sub_passiveFlds : tripFlds ⊆ passiveFlds := fun _ h => by simp [passiveFlds, h]

theorem State.gridTrip_passiveKeeps (cause curve point : Nat) : PassiveKeeps s (s.gridTrip cause curve point) where
  outside := .after (s.gridTrip_outside cause curve point) (.refl _ _ s) (by decide) (by decide)
  leaves := (s.gridTrip_leaves cause curve point).mono tripFlds_sub_passiveFlds
  cycle := (s.gridTrip_sameGrid cause curve point).cycle
  vkxHi := (s.gridTrip_vkx cause curve point).1
  vkxLo := (s.gridTrip_vkx cause curve point).2
  raised := ⟨_, s.gridTrip_raised cause curve point⟩

theorem State.probeTrigger_passiveKeeps : PassiveKeeps s s.probeTrigger where
  outside := .after (s.probeTrigger_frame.toOutside (rs := [zone R.GRID_CFG]) (by decide)) (.refl _ _ s) (by decide) (by decide)
  leaves := s.probeTrigger_leaves.mono tripFlds_sub_passiveFlds
  cycle := s.probeTrigger_sameGrid.cycle
  vkxHi := congrArg RelayState.vkxHi (s.probeTrigger_frame.2 .relay (by decide))
  vkxLo := congrArg RelayState.vkxLo (s.probeTrigger_frame.2 .relay (by decide))
  raised := ⟨[], (s.probeTrigger_frame.2 .raised (by decide)).trans (List.append_nil _).symm⟩

theorem State.passive_passiveKeeps : PassiveKeeps s s.passive := by
  have hnoted : PassiveKeeps s (s.put F.GRID_RT_STATUS_PASSIVE 1) := .of_put s (by simp [passiveFlds]) (by decide) 1
  unfold State.passive
  dsimp only
  split
  · exact .refl s
  · split
    · exact hnoted
    · split
      · exact hnoted.trans (State.gridTrip_passiveKeeps _ _ _ _)
      · exact hnoted.trans (State.probeTrigger_passiveKeeps _)

theorem State.passiveStep_passiveKeeps (phi : Rat) (old : Option Rat) : PassiveKeeps s (s.passiveStep c phi old) := by
  have hmeas (v w : Nat) : PassiveKeeps s ((s.put F.GRID_ISL_MEAS_JUMP v).put F.GRID_ISL_MEAS_ROCOF w) :=
    (PassiveKeeps.of_put s (by simp [passiveFlds]) (by decide) v).trans (.of_put _ (by simp [passiveFlds]) (by decide) w)
  unfold State.passiveStep
  exact .ite ((hmeas _ _).trans (State.passive_passiveKeeps _)) (hmeas _ _)

theorem State.vkxJudge_frame : Keeps [F.RELAY_STATUS_VKX_DEAD, F.RELAY_STATUS_VKX_LIVE] [.relay] s s.vkxJudge := .beside' (.put' (.put' (.refl _ _ s)))

theorem State.vkxJudge_vkx : s.vkxJudge.get F.RELAY_STATUS_VKX_DEAD = b2n (!s.relay.vkxHi && !s.relay.vkxLo) ∧
    s.vkxJudge.get F.RELAY_STATUS_VKX_LIVE = b2n (s.relay.vkxHi && s.relay.vkxLo) := by
  have hmod (b : Bool) : b2n b % 2 ^ 1 = b2n b := by cases b <;> rfl
  refine ⟨(State.get_put_other (s.put _ _) _ _ _ (by decide)).trans ((State.get_put_same s _ _ (by decide)).trans (hmod _)), ?_⟩
  exact (State.get_put_same (s.put _ _) F.RELAY_STATUS_VKX_LIVE _ (by decide)).trans (hmod _)

/-! ### A boundary as a whole -/

theorem State.lockStep_frame (phi : Rat) (free : Bool) : Keeps [F.GRID_STATUS_LOCK, F.GRID_STICKY_LOCK_LOST, F.GRID_RT_STATUS_RC_READY] [.raised, .grid] s
    (s.lockStep phi free) := by
  rw [State.lockStep_eq]
  exact .after (State.lockRule_frame _ _ _ _) (.beside' (.refl _ _ s))

/-- What a boundary finds after the lock's step. -/
def State.boundaryLocked (s : State) (c : Nat) : State := (s.boundaryNoted c).lockStep (degR (s.residual c)) (s.nextBoundary c).2

theorem State.boundaryLocked_frame : Keeps [whole R.GRID_CYCLE_LEN, whole R.GRID_PHERR, F.GRID_STATUS_FREE, F.GRID_STATUS_LOCK, F.GRID_STICKY_LOCK_LOST,
    F.GRID_RT_STATUS_RC_READY] [.raised, .grid, .sens] s (s.boundaryLocked c) :=
  .after (State.lockStep_frame _ _ _) (.after (s.boundaryNoted_frame c) (.refl _ _ s))

theorem State.boundaryPassed (phi : Rat) (old : Option Rat) : PassiveKeeps (s.boundaryLocked c) ((s.boundaryLocked c).passiveStep c phi old) :=
  State.passiveStep_passiveKeeps _ c phi old

theorem State.boundary_outside : KeepsOutside [zone R.GRID_CFG, zone R.RELAY_CFG, zone (R.PWM_CTRL 0)] [.shadow, .raised, .draws, .pwm, .drive, .grid, .relay, .sens, .cour] s
    (s.boundary c) := by
  have hlocked := (s.boundaryLocked_frame c).toOutside (rs := [zone R.GRID_CFG]) (by decide)
  have hpassed := (s.boundaryPassed c (degR (s.residual c)) s.grid.phi).outside
  rw [State.boundary_eq]
  exact .after ((State.vkxJudge_frame _).toOutside (rs := [zone R.RELAY_CFG]) (by decide)) (.after hpassed (.after hlocked (.refl _ _ s)) (by decide) (by decide))

/-- After the lock's step a boundary leaves the fields of the block that the passive detection does not write. -/
theorem State.boundary_leaves : LeavesGrid passiveFlds (s.boundaryLocked c) (s.boundary c) := by
  have hpassed := (s.boundaryPassed c (degR (s.residual c)) s.grid.phi).leaves
  rw [State.boundary_eq]
  exact hpassed.trans ((State.vkxJudge_frame _).leavesGrid (by decide))

theorem State.boundary_cycle : SameCycle (s.boundaryLocked c) (s.boundary c) := by
  have hpassed := (s.boundaryPassed c (degR (s.residual c)) s.grid.phi).cycle
  rw [State.boundary_eq]
  exact hpassed.trans (.of_eq ((State.vkxJudge_frame _).2 .grid (by decide)))

/-- The lock's counters at a boundary. -/
def State.boundaryRow (s : State) (c : Nat) : Nat × Nat := (s.boundaryNoted c).lockRow (degR (s.residual c)) (s.nextBoundary c).2

theorem State.boundaryNoted_grid : (s.boundaryNoted c).grid.cPrev = some c ∧ (s.boundaryNoted c).grid.cNext = some (s.nextBoundary c).1 ∧
    (s.boundaryNoted c).grid.fLast = s.grid.fLast := by
  have hrep : (s.cycleReported c).grid = s.grid := (s.cycleReported_frame c).2 .grid (by decide)
  refine ⟨rfl, rfl, ?_⟩
  show (s.cycleReported c).grid.fLast = s.grid.fLast
  rw [hrep]

theorem State.boundaryLocked_eq : s.boundaryLocked c = ((s.boundaryNoted c).lockCounted (s.boundaryRow c).1 (s.boundaryRow c).2 s.grid.fLast).lockRule s.grid.fLast
    (s.boundaryRow c).1 (s.boundaryRow c).2 := by
  have hlock := (s.boundaryNoted c).lockStep_eq (degR (s.residual c)) (s.nextBoundary c).2
  rw [(s.boundaryNoted_grid c).2.2] at hlock
  exact hlock

theorem State.boundary_grid : (s.boundary c).grid.cPrev = some c ∧ (s.boundary c).grid.cNext = some (s.nextBoundary c).1 ∧
    (s.boundary c).grid.good = (s.boundaryRow c).1 ∧ (s.boundary c).grid.bad = (s.boundaryRow c).2 := by
  have hcycle := s.boundary_cycle c
  have hrule := State.lockRule_cycle ((s.boundaryNoted c).lockCounted (s.boundaryRow c).1 (s.boundaryRow c).2 s.grid.fLast) s.grid.fLast (s.boundaryRow c).1 (s.boundaryRow c).2
  rw [s.boundaryLocked_eq c] at hcycle
  obtain ⟨hprev, hnext, -⟩ := s.boundaryNoted_grid c
  exact ⟨hcycle.cPrev.trans (hrule.cPrev.trans hprev), hcycle.cNext.trans (hrule.cNext.trans hnext), hcycle.good.trans hrule.good, hcycle.bad.trans hrule.bad⟩

theorem State.boundary_lock : (s.boundary c).get F.GRID_STATUS_LOCK =
      (if s.flag F.GRID_STATUS_LOCK then b2n (!decide (2 ≤ (s.boundary c).grid.bad ∨ inBand s.grid.fLast = false)) else b2n (decide (2 ≤ (s.boundary c).grid.good))) ∧
    (s.get F.GRID_STATUS_LOCK = 1 → (s.boundary c).get F.GRID_STATUS_LOCK = 0 →
      (s.boundary c).get F.GRID_STICKY_LOCK_LOST = 1 ∧ ∃ r, (s.boundary c).raised = s.raised ++ ⟨FS.GRID_SYNC_LOST, 0⟩ :: r) := by
  obtain ⟨-, -, hgood, hbad⟩ := s.boundary_grid c
  obtain ⟨hlock, hlost⟩ := State.lockRule_lock ((s.boundaryNoted c).lockCounted (s.boundaryRow c).1 (s.boundaryRow c).2 s.grid.fLast) s.grid.fLast (s.boundaryRow c).1
    (s.boundaryRow c).2
  have hnoted : ((s.boundaryNoted c).lockCounted (s.boundaryRow c).1 (s.boundaryRow c).2 s.grid.fLast).get F.GRID_STATUS_LOCK = s.get F.GRID_STATUS_LOCK :=
    (s.boundaryNoted_frame c).get_eq _ (by decide)
  have hflag : ((s.boundaryNoted c).lockCounted (s.boundaryRow c).1 (s.boundaryRow c).2 s.grid.fLast).flag F.GRID_STATUS_LOCK = s.flag F.GRID_STATUS_LOCK :=
    congrArg (· == 1) hnoted
  have hraised : ((s.boundaryNoted c).lockCounted (s.boundaryRow c).1 (s.boundaryRow c).2 s.grid.fLast).raised = s.raised := (s.boundaryNoted_frame c).2 .raised (by decide)
  rw [← s.boundaryLocked_eq c, hflag] at hlock
  rw [← s.boundaryLocked_eq c, hnoted, hraised] at hlost
  have hkeep (f : Fld) (hlo : (zone R.GRID_CFG).1 ≤ f.addr) (hhi : f.addr < (zone R.GRID_CFG).2) (hap : ∀ g ∈ passiveFlds, g.apart f = true) :
      (s.boundary c).get f = (s.boundaryLocked c).get f := s.boundary_leaves c f hlo hhi hap
  rw [hkeep _ (by decide) (by decide) (by decide), hkeep F.GRID_STICKY_LOCK_LOST (by decide) (by decide) (by decide), hgood, hbad]
  refine ⟨hlock, fun hone hzero => ?_⟩
  obtain ⟨hsticky, hlocked⟩ := hlost hone hzero
  obtain ⟨r, hr⟩ := (s.boundaryPassed c (degR (s.residual c)) s.grid.phi).raised
  have hjudged : (s.boundary c).raised = ((s.boundaryLocked c).passiveStep c (degR (s.residual c)) s.grid.phi).raised := (State.vkxJudge_frame _).2 .raised (by decide)
  exact ⟨hsticky, r, by rw [hjudged, hr, hlocked, List.append_assoc]; rfl⟩

theorem State.boundary_ann (d : Fin 2) : ((s.boundary c).sens.side.get d).ann = (s.sens.side.get d).ann ++ [{ ci := some c, cn := (s.nextBoundary c).1 }] := by
  have hjudged : (s.boundary c).sens = ((s.boundaryLocked c).passiveStep c (degR (s.residual c)) s.grid.phi).sens := (State.vkxJudge_frame _).2 .sens (by decide)
  have hpassed : ((s.boundaryLocked c).passiveStep c (degR (s.residual c)) s.grid.phi).sens = (s.boundaryLocked c).sens :=
    (s.boundaryPassed c (degR (s.residual c)) s.grid.phi).outside.2 .sens (by decide)
  have hlocked : (s.boundaryLocked c).sens = (s.boundaryNoted c).sens := (State.lockStep_frame _ _ _).2 .sens (by decide)
  have hrep : (s.cycleReported c).sens = s.sens := (s.cycleReported_frame c).2 .sens (by decide)
  rw [hjudged, hpassed, hlocked, ← hrep]
  exact State.announced_ann _ c _ d

theorem State.boundary_reports : (∀ q, s.grid.cPrev = some q → (s.boundary c).rd R.GRID_CYCLE_LEN = w32 (c - q)) ∧
    (s.boundary c).get F.GRID_STATUS_FREE = b2n (s.nextBoundary c).2 ∧
    (s.boundary c).rd R.GRID_PHERR = w32 (unsignedOf 32 (roundAway (degR (s.residual c) * 1000))) := by
  have hlock := State.lockStep_frame (s.boundaryNoted c) (degR (s.residual c)) (s.nextBoundary c).2
  have hann := State.announced_frame (((s.cycleReported c).phaseReported (degR (s.residual c)) (s.nextBoundary c).2).cycleNoted c (s.nextBoundary c).1 (degR (s.residual c))
    (((s.cycleReported c).phaseReported (degR (s.residual c)) (s.nextBoundary c).2).cycleFreq (s.nextBoundary c).2)) c (s.nextBoundary c).1
  have hleaves := s.boundary_leaves c
  have hmod : b2n (s.nextBoundary c).2 % 2 ^ 1 = b2n (s.nextBoundary c).2 := by cases (s.nextBoundary c).2 <;> rfl
  refine ⟨fun q hq => ?_, ?_, ?_⟩
  · refine (hleaves.rd_eq _ (by decide) (by decide) (by decide)).trans ((hlock.rd_eq _ (by decide)).trans ((hann.rd_eq _ (by simp)).trans ?_))
    exact ((State.phaseReported_frame (s.cycleReported c) _ _).rd_eq _ (by decide)).trans (s.cycleReported_len c hq)
  · refine (hleaves _ (by decide) (by decide) (by decide)).trans ((hlock.get_eq _ (by decide)).trans ((hann.get_eq _ (by simp)).trans ?_))
    exact (State.get_put_same ((s.cycleReported c).wr _ _) F.GRID_STATUS_FREE _ (by decide)).trans hmod
  · refine (hleaves.rd_eq _ (by decide) (by decide) (by decide)).trans ((hlock.rd_eq _ (by decide)).trans ((hann.rd_eq _ (by simp)).trans ?_))
    exact (State.rd_put_other ((s.cycleReported c).wr _ _) F.GRID_STATUS_FREE _ _ (by decide)).trans (State.rd_wr_same _ _ _)

theorem State.boundary_vkx : (s.boundary c).get F.RELAY_STATUS_VKX_DEAD = b2n (!s.relay.vkxHi && !s.relay.vkxLo) ∧
    (s.boundary c).get F.RELAY_STATUS_VKX_LIVE = b2n (s.relay.vkxHi && s.relay.vkxLo) := by
  have hpassed := s.boundaryPassed c (degR (s.residual c)) s.grid.phi
  have hrelay : (s.boundaryLocked c).relay = s.relay := (s.boundaryLocked_frame c).2 .relay (by decide)
  have hjudged := State.vkxJudge_vkx ((s.boundaryLocked c).passiveStep c (degR (s.residual c)) s.grid.phi)
  rw [hpassed.vkxHi, hpassed.vkxLo, hrelay] at hjudged
  exact hjudged

end

/-! ### The commands -/

section
variable (s : State)

theorem gridEvaluation_runs {p : Nat} (hp : s.gridPair = some p) (h : s.grid.due = true) : exec .gridEvaluation s = .next (s.gridEval p) := by
  show execGridEvaluation s = _
  unfold execGridEvaluation
  rw [hp]
  exact if_pos h

theorem gridEvaluation_waits {p : Nat} (hp : s.gridPair = some p) (h : s.grid.due = false) : exec .gridEvaluation s = .next s := by
  show execGridEvaluation s = _
  unfold execGridEvaluation
  rw [hp]
  exact if_neg (by simp [h])

theorem gridCycleBoundary_passes {c : Nat} (hc : s.grid.cNext = some c) (hdue : c ≤ s.epoch) (hon : s.gridOn = true) :
    exec .gridCycleBoundary s = .next (s.boundary c) := by
  show execGridCycleBoundary s = _
  unfold execGridCycleBoundary
  rw [hc]
  exact if_pos (by simp [hdue, hon])

theorem gridCycleBoundary_early {c : Nat} (hc : s.grid.cNext = some c) (hdue : s.epoch < c) : exec .gridCycleBoundary s = .next s := by
  show execGridCycleBoundary s = _
  unfold execGridCycleBoundary
  rw [hc]
  exact if_neg (by simp; omega)

theorem gridCycleBoundary_none (hc : s.grid.cNext = none) : exec .gridCycleBoundary s = .next s := by
  show execGridCycleBoundary s = _
  unfold execGridCycleBoundary
  rw [hc]

end

/-- Settles O23: an evaluation is what it takes, the region it judges, the operation of the connection, and the references, slots and wait that follow; a boundary is its
record, the lock's step, the passive detection and the judgement of VKX. -/
theorem gridEvaluationsAndBoundaries : Obligations.GridEvaluationsAndBoundaries := by
  refine ⟨fun s p hp => ⟨fun hdue => ?_, gridEvaluation_waits s hp⟩, fun s => ⟨fun c hc hdue hon => ?_, gridCycleBoundary_none s, fun c => gridCycleBoundary_early s⟩⟩
  · obtain ⟨hnotdue, hat, hupd⟩ := s.gridEval_record p
    obtain ⟨hvalid, hhigh, hmean, hfreq⟩ := s.gridEval_taken p
    obtain ⟨himax, hvnom, hop, homega, hcount⟩ := s.gridEval_slots p
    have hregion := s.gridEval_region p
    refine ⟨_, gridEvaluation_runs s hp hdue, hnotdue, hat, hvalid, hhigh, hmean, hfreq, hupd, himax, hvnom, hop, homega, hcount,
      fun _ => hregion.trans (s.gridEval_combined p).symm, fun hconn h => ?_, s.gridEval_island p, fun hconn h => s.gridEval_ceases p hconn (hregion.symm.trans h),
      s.gridEval_outside p, s.gridEval_waiting p, s.gridEval_away p⟩
    obtain ⟨hc, ho, ht, hk1, hk2, htick, hraised⟩ := s.gridEval_trips p hconn (by rwa [← hregion])
    exact ⟨hc, ho, ht, hk1, hk2, htick, hraised⟩
  · obtain ⟨hprev, hnext, -⟩ := s.boundary_grid c
    obtain ⟨hlen, hfree, hpherr⟩ := s.boundary_reports c
    obtain ⟨hlock, hlost⟩ := s.boundary_lock c
    obtain ⟨hdead, hlive⟩ := s.boundary_vkx c
    exact ⟨_, gridCycleBoundary_passes s hc hdue hon, hprev, hnext, s.boundary_ann c, hlen, hfree, hpherr, hlock, hlost, hdead, hlive, s.boundary_outside c⟩

end Sys2Proof.Machine
end
